-- ==== Sys2Proof/Word.lean ====
section
/-! DEFINITION. The word types and the two Peaks' names. -/

namespace Sys2Proof

/-- A register word of the device: every register of the peripheral blocks is 32 bits wide (R473), and so is a scalar (R93). -/
abbrev Word := BitVec 32

/-- One byte of memory. -/
abbrev Byte := BitVec 8

/-- The two control halves (the table of names in spec/00). -/
inductive PeakId where
  | a
  | b
  deriving DecidableEq, Repr

/-- Peak A is 0 and Peak B is 1, as in `PWM.BATON.HOLDER` (R24). -/
def PeakId.num : PeakId → Nat
  | .a => 0
  | .b => 1

/-- The other Peak. -/
def PeakId.other : PeakId → PeakId
  | .a => .b
  | .b => .a

/-- The Peak of a number: 0 is A, anything else B. -/
def PeakId.ofNum (n : Nat) : PeakId := if n = 0 then .a else .b

/-- One value for each Peak. -/
structure Two (α : Type) where
  a : α
  b : α
  deriving DecidableEq, Repr

/-- The value of one Peak. -/
def Two.get {α : Type} (t : Two α) : PeakId → α
  | .a => t.a
  | .b => t.b

/-- `t` with the value of one Peak replaced. -/
def Two.set {α : Type} (t : Two α) (p : PeakId) (v : α) : Two α :=
  match p with
  | .a => { t with a := v }
  | .b => { t with b := v }

end Sys2Proof
end

