-- ==== Sys2Proof/Syntax.lean ====
section
/-! DEFINITION. The commands of the device: one constructor for each row of the table of operations and events. What comes from outside (an
analogue value, a reading, a frame, an instant that the outside world decides) is an operand. -/

namespace Sys2Proof

/-- One core of one Peak (R93). -/
structure CoreSel where
  peak : PeakId
  core : Fin 8
  deriving DecidableEq, Repr

/-- Where an instruction issues, and its governing predicate (R96). -/
structure Slot extends CoreSel where
  pred : Fin 4
  deriving DecidableEq, Repr

/-- A word at a core (R127). -/
structure CoreWord where
  core : CoreSel
  word : Word
  deriving DecidableEq, Repr

/-- One of the nine converters of a bank and domain (R183). -/
structure BankConv where
  bank : Fin 6
  conv : Fin 9
  deriving DecidableEq, Repr

/-- A measured drain-source voltage in millivolts, of the high-side switch where `high` (R309). -/
structure VdsReading where
  high : Bool
  vds : BitVec 16
  deriving DecidableEq, Repr

/-- The conditions of B and BL (R143). -/
inductive BrCond where
  | al
  | q (p : Fin 4)
  | nq (p : Fin 4)
  | any (p : Fin 4)
  | all (p : Fin 4)
  | none (p : Fin 4)
  | dec (r : Fin 32)
  deriving DecidableEq, Repr

/-- The conditions of JR, which has no DEC (R143). -/
inductive JrCond where
  | al
  | q (p : Fin 4)
  | nq (p : Fin 4)
  | any (p : Fin 4)
  | all (p : Fin 4)
  | none (p : Fin 4)
  deriving DecidableEq, Repr

/-- Who makes an access on a Peak's fabric: a core, the host through the Col port with the Peak-select bit (R31), a DMA channel, or
the boot controller. -/
inductive Master where
  | core (k : CoreSel)
  | host (p : PeakId)
  | dma (p : PeakId) (ch : Fin 16)
  | boot (p : PeakId)
  deriving DecidableEq, Repr

/-- The Peak in whose view the master's addresses lie (R4). -/
def Master.peak : Master → PeakId
  | .core k => k.peak
  | .host p => p
  | .dma p _ => p
  | .boot p => p

/-- The supplies with an undervoltage lockout (R57). -/
inductive Supply where
  | vauxG
  | vauxA
  | vauxB
  | vdrv
  | vio1
  | vio2
  deriving DecidableEq, Repr

/-- The PLLs (R34). -/
inductive PllId where
  | a
  | b
  | s
  | ca
  | cb
  | n
  deriving DecidableEq, Repr

/-- Whose compare a count reaches (R274, R278, R301): a pair's, an EVENT channel's or a Spur leg's. -/
inductive CompareSel where
  | pair (p : Fin 32)
  | event (c : Fin 32)
  | leg (n : Fin 6)
  deriving DecidableEq, Repr

/-- Whose dead time ends (R279): a pair's or a Spur leg's. -/
inductive SwitchSel where
  | pair (p : Fin 32)
  | leg (n : Fin 6)
  deriving DecidableEq, Repr

/-- The commands: one constructor for each row of the table of operations and events. -/
inductive Instr where
  /-- REGISTER_WRITE (R5): A write to a register that has no row of its own acts by its access code, baton gate and RWS rule. -/
  | registerWrite (m : Master) (addr : Word) (val : Word) (lanes : BitVec 4)
  /-- SUPPLY_RISE (R57): A supply crosses its rising threshold and its undervoltage lockout releases. -/
  | supplyRise (sup : Supply) (legs : BitVec 6)
  /-- SUPPLY_FALL (R57): A supply falls below its falling threshold and its lockout holds the dependent parts. -/
  | supplyFall (sup : Supply)
  /-- RESET_PIN (R59): RESET_N low for 520 ns or longer resets the whole device. -/
  | resetPin (ns : Word)
  /-- RESET_RELEASE (R61): RESET_N returns high and the Gendarme cold start begins at T0. -/
  | resetRelease
  /-- GENDARME_START_INSTANT (R61): A cold-start instant t1 to t3 is reached on the RC oscillator and its action is taken. -/
  | gendarmeStartInstant (i : Fin 4) (ok : Bool) (xin : Bool)
  /-- REF_CHECK_WINDOW (R41): A 256 us window of XIN counting against the RC oscillator ends and REF_BAD is judged. -/
  | refCheckWindow (good : Bool)
  /-- STAGE_START (R63): The device starts the stage sequence once XIN is good and a VAUX is up. -/
  | stageStart
  /-- STAGE_INSTANT (R54): A stage instant t1 to t6 of the power-up or wake sequence is reached and its action taken. -/
  | stageInstant (i : Fin 7) (locks : BitVec 6)
  /-- SAFETY_CONFIG_LOAD (R357): The kernel reads both stored safety configuration copies once the store is powered. -/
  | safetyConfigLoad
  /-- PLL_LOSS_OF_LOCK (R41): A PLL's phase error exceeds 2 ns for 8 reference cycles and it coasts. -/
  | pllLossOfLock (pll : PllId)
  /-- REFERENCE_MISSING (R43): No XIN edge for 3 reference periods switches the PLLs to the substitute reference. -/
  | referenceMissing
  /-- REFERENCE_RETURN (R44): XIN has been good for 1 ms and the coasting PLLs begin their return. -/
  | referenceReturn
  /-- PLL_RELOCK (R44): A returning PLL reports lock and the last one clears COAST and sets RELOCK. -/
  | pllRelock (pll : PllId)
  /-- CLK_TARGET_WRITE (R46): A write of CLK.CTRL.TARGET_N starts, redirects or is refused as a frequency change. -/
  | clkTargetWrite (m : Master) (val : Word)
  /-- PLL_STEP_RELOCK (R46): A one-step change of N completes its relock and the next step starts. -/
  | pllStepRelock (p : PeakId)
  /-- BIVOUAC_ENTER (R50): A write of CLK.BIVOUAC with the key requests Bivouac entry and is checked. -/
  | bivouacEnter (m : Master) (val : Word)
  /-- BIVOUAC_ENTRY_COMPLETE (R50): The power-gating of Bivouac entry completes 100 us after the request. -/
  | bivouacEntryComplete
  /-- WAKE_EVENT (R52): Col chip select or an enabled SIN change wakes the device from Bivouac. -/
  | wakeEvent (col : Bool) (sin : BitVec 8)
  /-- WAKE_ALARM (R52): Cairn seconds reach CLK.WAKE_TIME and the alarm wake fires. -/
  | wakeAlarm
  /-- CROSSING_TIMEOUT (R38): A crossing toward a stopped island gives up after 256 source cycles and records XTO. -/
  | crossingTimeout (m : Master) (dest : Fin 6) (addr : Word) (write : Bool)
  /-- SLOT_FETCH_COMPLETE (R70): The last byte of a boot slot is received by both Peaks. -/
  | slotFetchComplete (slot : Fin 2) (img : List Byte)
  /-- BOOT_VERDICT_COMPARE (R69): Signatures are verified and the Gendarme compares the Peaks' slot verdicts. -/
  | bootVerdictCompare (badA : Bool) (badB : Bool)
  /-- MEMORY_PHASE_COMPLETE (R70): The self-test memory phase completes at r1 and the fetch and logic phase start. -/
  | memoryPhaseComplete
  /-- SELF_TEST_COMPLETE (R82): All power-on self-tests complete at r4 and results are merged. -/
  | selfTestComplete (a : BitVec 96) (b : BitVec 96) (shared : BitVec 160)
  /-- HANDOVER (R71): The boot controller fires the boot-complete event on the START_MASK cores. -/
  | handover (p : PeakId)
  /-- LCS_ADVANCE_STATE (R75): Lifecycle operation 0x01 advances the lifecycle state. -/
  | lcsAdvanceState (key : BitVec 16) (arg : BitVec 7) (v12 : Bool)
  /-- LCS_PROGRAM_KEY_SLOT (R75): Lifecycle operation 0x02 programs a key slot. -/
  | lcsProgramKeySlot (key : BitVec 16) (arg : BitVec 7) (v12 : Bool)
  /-- LCS_REVOKE_KEY_SLOT (R75): Lifecycle operation 0x03 revokes a key slot. -/
  | lcsRevokeKeySlot (key : BitVec 16) (arg : BitVec 7) (v12 : Bool)
  /-- LCS_RAISE_SVN (R75): Lifecycle operation 0x04 raises the SVN count. -/
  | lcsRaiseSvn (key : BitVec 16) (arg : BitVec 7) (v12 : Bool)
  /-- LIFECYCLE_OP_COMPLETE (R76): A lifecycle operation finishes blowing and verifying its fuses. -/
  | lifecycleOpComplete (blown : Fin 9) (ok : Bool)
  /-- LIFECYCLE_RESET (R76): 1 ms after a verified state advance the Gendarme resets the device. -/
  | lifecycleReset
  /-- BIST_START (R86): A BST.CTRL START write requests an on-demand self-test run or is refused. -/
  | bistStart (m : Master) (val : Word)
  /-- BIST_RUN_COMPLETE (R86): An on-demand self-test run completes and failures take their outcomes. -/
  | bistRunComplete (p : PeakId) (pass : Word)
  /-- TASK_DISPATCH (R154): Traverse starts one latched task on a free core by class and number. -/
  | taskDispatch (k : CoreSel)
  /-- STORE_BUFFER_COMPLETE (R108): The oldest store-buffer entry completes at its target. -/
  | storeBufferComplete (k : CoreSel)
  /-- WAIT_RESUME (R114): An event reaches a task waiting on it and the task resumes. -/
  | waitResume (k : CoreSel)
  /-- ILLEGAL_WORD (R118): A reserved or undefined word is fetched and raises ILLEGAL. -/
  | illegalWord (x : CoreWord)
  /-- ADD (R132): Integer add. -/
  | add (x : Slot) (d : Fin 32) (a : Fin 32) (b : Fin 32)
  /-- SUB (R132): Integer subtract. -/
  | sub (x : Slot) (d : Fin 32) (a : Fin 32) (b : Fin 32)
  /-- AND (R132): Bitwise and. -/
  | and (x : Slot) (d : Fin 32) (a : Fin 32) (b : Fin 32)
  /-- OR (R132): Bitwise or. -/
  | or (x : Slot) (d : Fin 32) (a : Fin 32) (b : Fin 32)
  /-- XOR (R132): Bitwise exclusive or. -/
  | xor (x : Slot) (d : Fin 32) (a : Fin 32) (b : Fin 32)
  /-- SHL (R132): Shift left by register. -/
  | shl (x : Slot) (d : Fin 32) (a : Fin 32) (b : Fin 32)
  /-- SHR (R132): Logical right shift by register. -/
  | shr (x : Slot) (d : Fin 32) (a : Fin 32) (b : Fin 32)
  /-- SAR (R132): Arithmetic right shift by register. -/
  | sar (x : Slot) (d : Fin 32) (a : Fin 32) (b : Fin 32)
  /-- MUL (R132): Low 32 bits of an integer product. -/
  | mul (x : Slot) (d : Fin 32) (a : Fin 32) (b : Fin 32)
  /-- MIN (R132): Signed minimum. -/
  | min (x : Slot) (d : Fin 32) (a : Fin 32) (b : Fin 32)
  /-- MAX (R132): Signed maximum. -/
  | max (x : Slot) (d : Fin 32) (a : Fin 32) (b : Fin 32)
  /-- MINU (R132): Unsigned minimum. -/
  | minu (x : Slot) (d : Fin 32) (a : Fin 32) (b : Fin 32)
  /-- MAXU (R132): Unsigned maximum. -/
  | maxu (x : Slot) (d : Fin 32) (a : Fin 32) (b : Fin 32)
  /-- ADDI (R132): Add sign-extended immediate. -/
  | addi (x : Slot) (d : Fin 32) (a : Fin 32) (imm : BitVec 12)
  /-- ANDI (R132): And zero-extended immediate. -/
  | andi (x : Slot) (d : Fin 32) (a : Fin 32) (imm : BitVec 12)
  /-- ORI (R132): Or zero-extended immediate. -/
  | ori (x : Slot) (d : Fin 32) (a : Fin 32) (imm : BitVec 12)
  /-- XORI (R132): Exclusive or zero-extended immediate. -/
  | xori (x : Slot) (d : Fin 32) (a : Fin 32) (imm : BitVec 12)
  /-- SHLI (R132): Shift left by immediate. -/
  | shli (x : Slot) (d : Fin 32) (a : Fin 32) (sh : Fin 32)
  /-- SHRI (R132): Logical right shift by immediate. -/
  | shri (x : Slot) (d : Fin 32) (a : Fin 32) (sh : Fin 32)
  /-- SARI (R132): Arithmetic right shift by immediate. -/
  | sari (x : Slot) (d : Fin 32) (a : Fin 32) (sh : Fin 32)
  /-- CEQ (R133): Compare equal into a predicate. -/
  | ceq (x : Slot) (d : Fin 4) (a : Fin 32) (b : Fin 32)
  /-- CNE (R133): Compare not equal into a predicate. -/
  | cne (x : Slot) (d : Fin 4) (a : Fin 32) (b : Fin 32)
  /-- CLT (R133): Signed compare less than. -/
  | clt (x : Slot) (d : Fin 4) (a : Fin 32) (b : Fin 32)
  /-- CGE (R133): Signed compare greater or equal. -/
  | cge (x : Slot) (d : Fin 4) (a : Fin 32) (b : Fin 32)
  /-- CLTU (R133): Unsigned compare less than. -/
  | cltu (x : Slot) (d : Fin 4) (a : Fin 32) (b : Fin 32)
  /-- CGEU (R133): Unsigned compare greater or equal. -/
  | cgeu (x : Slot) (d : Fin 4) (a : Fin 32) (b : Fin 32)
  /-- CEQI (R133): Compare equal with immediate. -/
  | ceqi (x : Slot) (d : Fin 4) (a : Fin 32) (imm : BitVec 12)
  /-- CNEI (R133): Compare not equal with immediate. -/
  | cnei (x : Slot) (d : Fin 4) (a : Fin 32) (imm : BitVec 12)
  /-- CLTI (R133): Signed compare less than immediate. -/
  | clti (x : Slot) (d : Fin 4) (a : Fin 32) (imm : BitVec 12)
  /-- CGEI (R133): Signed compare greater or equal immediate. -/
  | cgei (x : Slot) (d : Fin 4) (a : Fin 32) (imm : BitVec 12)
  /-- CLTUI (R133): Unsigned compare less than immediate. -/
  | cltui (x : Slot) (d : Fin 4) (a : Fin 32) (imm : BitVec 12)
  /-- CGEUI (R133): Unsigned compare greater or equal immediate. -/
  | cgeui (x : Slot) (d : Fin 4) (a : Fin 32) (imm : BitVec 12)
  /-- ANDQ (R133): Predicate and. -/
  | andq (x : Slot) (d : Fin 4) (a : Fin 4) (b : Fin 4)
  /-- ORQ (R133): Predicate or. -/
  | orq (x : Slot) (d : Fin 4) (a : Fin 4) (b : Fin 4)
  /-- XORQ (R133): Predicate exclusive or. -/
  | xorq (x : Slot) (d : Fin 4) (a : Fin 4) (b : Fin 4)
  /-- ANDNQ (R133): Predicate and-not. -/
  | andnq (x : Slot) (d : Fin 4) (a : Fin 4) (b : Fin 4)
  /-- SETQ (R133): Set predicate lanes from scalar bits. -/
  | setq (x : Slot) (d : Fin 4) (a : Fin 32)
  /-- GETQ (R133): Copy a predicate into a scalar. -/
  | getq (x : Slot) (d : Fin 32) (a : Fin 4)
  /-- ALLQ (R133): All lanes set if every lane of the source is 1. -/
  | allq (x : Slot) (d : Fin 4) (a : Fin 4)
  /-- ANYQ (R133): All lanes set if any lane of the source is 1. -/
  | anyq (x : Slot) (d : Fin 4) (a : Fin 4)
  /-- QADD (R135): Saturating Q1.31 add. -/
  | qadd (x : Slot) (d : Fin 32) (a : Fin 32) (b : Fin 32)
  /-- QSUB (R135): Saturating Q1.31 subtract. -/
  | qsub (x : Slot) (d : Fin 32) (a : Fin 32) (b : Fin 32)
  /-- QNEG (R135): Saturating Q1.31 negate. -/
  | qneg (x : Slot) (d : Fin 32) (a : Fin 32)
  /-- QABS (R135): Saturating Q1.31 absolute value. -/
  | qabs (x : Slot) (d : Fin 32) (a : Fin 32)
  /-- QMUL (R135): Rounded saturating Q1.31 multiply. -/
  | qmul (x : Slot) (d : Fin 32) (a : Fin 32) (b : Fin 32)
  /-- QMAC (R135): Q1.31 multiply-add rounded once. -/
  | qmac (x : Slot) (d : Fin 32) (a : Fin 32) (b : Fin 32)
  /-- QMSU (R135): Q1.31 multiply-subtract rounded once. -/
  | qmsu (x : Slot) (d : Fin 32) (a : Fin 32) (b : Fin 32)
  /-- FADD (R136): fp32 add. -/
  | fadd (x : Slot) (d : Fin 32) (a : Fin 32) (b : Fin 32)
  /-- FSUB (R136): fp32 subtract. -/
  | fsub (x : Slot) (d : Fin 32) (a : Fin 32) (b : Fin 32)
  /-- FMUL (R136): fp32 multiply. -/
  | fmul (x : Slot) (d : Fin 32) (a : Fin 32) (b : Fin 32)
  /-- FMA (R136): fp32 fused multiply-add. -/
  | fma (x : Slot) (d : Fin 32) (a : Fin 32) (b : Fin 32)
  /-- FMS (R136): fp32 fused multiply-subtract. -/
  | fms (x : Slot) (d : Fin 32) (a : Fin 32) (b : Fin 32)
  /-- FMIN (R136): fp32 minimum. -/
  | fmin (x : Slot) (d : Fin 32) (a : Fin 32) (b : Fin 32)
  /-- FMAX (R136): fp32 maximum. -/
  | fmax (x : Slot) (d : Fin 32) (a : Fin 32) (b : Fin 32)
  /-- FNEG (R136): Invert the fp32 sign bit. -/
  | fneg (x : Slot) (d : Fin 32) (a : Fin 32)
  /-- FABS (R136): Clear the fp32 sign bit. -/
  | fabs (x : Slot) (d : Fin 32) (a : Fin 32)
  /-- FDIV (R136): fp32 divide on the shared unit. -/
  | fdiv (x : Slot) (d : Fin 32) (a : Fin 32) (b : Fin 32)
  /-- FSQRT (R136): fp32 square root on the shared unit. -/
  | fsqrt (x : Slot) (d : Fin 32) (a : Fin 32)
  /-- FCEQ (R136): fp32 compare equal. -/
  | fceq (x : Slot) (d : Fin 4) (a : Fin 32) (b : Fin 32)
  /-- FCNE (R136): fp32 compare not equal. -/
  | fcne (x : Slot) (d : Fin 4) (a : Fin 32) (b : Fin 32)
  /-- FCLT (R136): fp32 compare less than. -/
  | fclt (x : Slot) (d : Fin 4) (a : Fin 32) (b : Fin 32)
  /-- FCLE (R136): fp32 compare less or equal. -/
  | fcle (x : Slot) (d : Fin 4) (a : Fin 32) (b : Fin 32)
  /-- FCUN (R136): fp32 compare unordered. -/
  | fcun (x : Slot) (d : Fin 4) (a : Fin 32) (b : Fin 32)
  /-- F2Q (R136): Convert fp32 to Q1.31. -/
  | f2q (x : Slot) (d : Fin 32) (a : Fin 32)
  /-- Q2F (R136): Convert Q1.31 to fp32. -/
  | q2f (x : Slot) (d : Fin 32) (a : Fin 32)
  /-- F2I (R136): Convert fp32 to signed integer. -/
  | f2i (x : Slot) (d : Fin 32) (a : Fin 32)
  /-- I2F (R136): Convert signed integer to fp32. -/
  | i2f (x : Slot) (d : Fin 32) (a : Fin 32)
  /-- VADD (R137): Vector integer add. -/
  | vadd (x : Slot) (d : Fin 8) (a : Fin 8) (b : Fin 8)
  /-- VSUB (R137): Vector integer subtract. -/
  | vsub (x : Slot) (d : Fin 8) (a : Fin 8) (b : Fin 8)
  /-- VAND (R137): Vector and. -/
  | vand (x : Slot) (d : Fin 8) (a : Fin 8) (b : Fin 8)
  /-- VOR (R137): Vector or. -/
  | vor (x : Slot) (d : Fin 8) (a : Fin 8) (b : Fin 8)
  /-- VXOR (R137): Vector exclusive or. -/
  | vxor (x : Slot) (d : Fin 8) (a : Fin 8) (b : Fin 8)
  /-- VMUL (R137): Vector integer multiply. -/
  | vmul (x : Slot) (d : Fin 8) (a : Fin 8) (b : Fin 8)
  /-- VSHL (R137): Vector shift left. -/
  | vshl (x : Slot) (d : Fin 8) (a : Fin 8) (r : Fin 32)
  /-- VSAR (R137): Vector arithmetic right shift. -/
  | vsar (x : Slot) (d : Fin 8) (a : Fin 8) (r : Fin 32)
  /-- VQADD (R137): Vector Q1.31 add. -/
  | vqadd (x : Slot) (d : Fin 8) (a : Fin 8) (b : Fin 8)
  /-- VQSUB (R137): Vector Q1.31 subtract. -/
  | vqsub (x : Slot) (d : Fin 8) (a : Fin 8) (b : Fin 8)
  /-- VQNEG (R137): Vector Q1.31 negate. -/
  | vqneg (x : Slot) (d : Fin 8) (a : Fin 8)
  /-- VQABS (R137): Vector Q1.31 absolute value. -/
  | vqabs (x : Slot) (d : Fin 8) (a : Fin 8)
  /-- VQMUL (R137): Vector Q1.31 multiply. -/
  | vqmul (x : Slot) (d : Fin 8) (a : Fin 8) (b : Fin 8)
  /-- VQMAC (R137): Vector Q1.31 multiply-add. -/
  | vqmac (x : Slot) (d : Fin 8) (a : Fin 8) (b : Fin 8)
  /-- VQMULS (R137): Vector Q1.31 multiply by scalar. -/
  | vqmuls (x : Slot) (d : Fin 8) (a : Fin 8) (r : Fin 32)
  /-- VQMACS (R137): Vector Q1.31 multiply-add by scalar. -/
  | vqmacs (x : Slot) (d : Fin 8) (a : Fin 8) (r : Fin 32)
  /-- VFADD (R137): Vector fp32 add. -/
  | vfadd (x : Slot) (d : Fin 8) (a : Fin 8) (b : Fin 8)
  /-- VFSUB (R137): Vector fp32 subtract. -/
  | vfsub (x : Slot) (d : Fin 8) (a : Fin 8) (b : Fin 8)
  /-- VFMUL (R137): Vector fp32 multiply. -/
  | vfmul (x : Slot) (d : Fin 8) (a : Fin 8) (b : Fin 8)
  /-- VFMA (R137): Vector fp32 fused multiply-add. -/
  | vfma (x : Slot) (d : Fin 8) (a : Fin 8) (b : Fin 8)
  /-- VFMULS (R137): Vector fp32 multiply by scalar. -/
  | vfmuls (x : Slot) (d : Fin 8) (a : Fin 8) (r : Fin 32)
  /-- VFMAS (R137): Vector fp32 fused multiply-add by scalar. -/
  | vfmas (x : Slot) (d : Fin 8) (a : Fin 8) (r : Fin 32)
  /-- VFNEG (R137): Vector fp32 negate. -/
  | vfneg (x : Slot) (d : Fin 8) (a : Fin 8)
  /-- VFABS (R137): Vector fp32 absolute value. -/
  | vfabs (x : Slot) (d : Fin 8) (a : Fin 8)
  /-- VFMIN (R137): Vector fp32 minimum. -/
  | vfmin (x : Slot) (d : Fin 8) (a : Fin 8) (b : Fin 8)
  /-- VFMAX (R137): Vector fp32 maximum. -/
  | vfmax (x : Slot) (d : Fin 8) (a : Fin 8) (b : Fin 8)
  /-- VQ2F (R137): Vector Q1.31 to fp32. -/
  | vq2f (x : Slot) (d : Fin 8) (a : Fin 8)
  /-- VF2Q (R137): Vector fp32 to Q1.31. -/
  | vf2q (x : Slot) (d : Fin 8) (a : Fin 8)
  /-- VF2I (R137): Vector fp32 to integer. -/
  | vf2i (x : Slot) (d : Fin 8) (a : Fin 8)
  /-- VI2F (R137): Vector integer to fp32. -/
  | vi2f (x : Slot) (d : Fin 8) (a : Fin 8)
  /-- VCEQ (R137): Vector integer compare equal. -/
  | vceq (x : Slot) (d : Fin 4) (a : Fin 8) (b : Fin 8)
  /-- VCLT (R137): Vector signed compare less than. -/
  | vclt (x : Slot) (d : Fin 4) (a : Fin 8) (b : Fin 8)
  /-- VCLTU (R137): Vector unsigned compare less than. -/
  | vcltu (x : Slot) (d : Fin 4) (a : Fin 8) (b : Fin 8)
  /-- VFCEQ (R137): Vector fp32 compare equal. -/
  | vfceq (x : Slot) (d : Fin 4) (a : Fin 8) (b : Fin 8)
  /-- VFCLT (R137): Vector fp32 compare less than. -/
  | vfclt (x : Slot) (d : Fin 4) (a : Fin 8) (b : Fin 8)
  /-- VFCLE (R137): Vector fp32 compare less or equal. -/
  | vfcle (x : Slot) (d : Fin 4) (a : Fin 8) (b : Fin 8)
  /-- VBCAST (R138): Broadcast a scalar to four lanes. -/
  | vbcast (x : Slot) (d : Fin 8) (r : Fin 32)
  /-- VINS (R138): Insert a scalar into one lane. -/
  | vins (x : Slot) (d : Fin 8) (r : Fin 32) (lane : Fin 4)
  /-- VEXT (R138): Extract one lane to a scalar. -/
  | vext (x : Slot) (r : Fin 32) (a : Fin 8) (lane : Fin 4)
  /-- VMOV (R138): Vector move. -/
  | vmov (x : Slot) (d : Fin 8) (a : Fin 8)
  /-- VDUP2 (R138): Duplicate lanes 0 and 1. -/
  | vdup2 (x : Slot) (d : Fin 8) (a : Fin 8)
  /-- VSWAP (R138): Swap lanes pairwise. -/
  | vswap (x : Slot) (d : Fin 8) (a : Fin 8)
  /-- VFHADD4 (R138): Horizontal fp32 add of four lanes. -/
  | vfhadd4 (x : Slot) (d : Fin 8) (a : Fin 8)
  /-- VFHADD2 (R138): Pairwise horizontal fp32 add. -/
  | vfhadd2 (x : Slot) (d : Fin 8) (a : Fin 8)
  /-- VQHADD2 (R138): Pairwise horizontal Q1.31 add. -/
  | vqhadd2 (x : Slot) (d : Fin 8) (a : Fin 8)
  /-- PADD (R139): Phase add. -/
  | padd (x : Slot) (d : Fin 4) (a : Fin 4) (b : Fin 4)
  /-- PSUB (R139): Phase subtract. -/
  | psub (x : Slot) (d : Fin 4) (a : Fin 4) (b : Fin 4)
  /-- PMOV (R139): Phase move. -/
  | pmov (x : Slot) (d : Fin 4) (a : Fin 4)
  /-- PPACK (R139): Build a phase from two scalars. -/
  | ppack (x : Slot) (d : Fin 4) (hi : Fin 32) (lo : Fin 32)
  /-- PLO (R139): Low word of a phase to a scalar. -/
  | plo (x : Slot) (d : Fin 32) (a : Fin 4)
  /-- PHI (R139): High word of a phase to a scalar. -/
  | phi (x : Slot) (d : Fin 32) (a : Fin 4)
  /-- P2F (R139): Phase to fp32 signed turns. -/
  | p2f (x : Slot) (d : Fin 32) (a : Fin 4)
  /-- F2P (R139): fp32 turns to phase. -/
  | f2p (x : Slot) (d : Fin 4) (r : Fin 32)
  /-- PDIFF (R139): Shortest signed phase difference in fp32 turns. -/
  | pdiff (x : Slot) (d : Fin 32) (a : Fin 4) (b : Fin 4)
  /-- SIN_F (R140): Sine of a phase, fp32. -/
  | sinF (x : Slot) (d : Fin 32) (a : Fin 4)
  /-- COS_F (R140): Cosine of a phase, fp32. -/
  | cosF (x : Slot) (d : Fin 32) (a : Fin 4)
  /-- ROT_F (R140): Rotor vector of a phase, fp32. -/
  | rotF (x : Slot) (d : Fin 8) (a : Fin 4)
  /-- SIN_Q (R140): Sine of a phase, Q1.31. -/
  | sinQ (x : Slot) (d : Fin 32) (a : Fin 4)
  /-- COS_Q (R140): Cosine of a phase, Q1.31. -/
  | cosQ (x : Slot) (d : Fin 32) (a : Fin 4)
  /-- ROT_Q (R140): Rotor vector of a phase, Q1.31. -/
  | rotQ (x : Slot) (d : Fin 8) (a : Fin 4)
  /-- LB (R141): Load sign-extended byte. -/
  | lb (x : Slot) (rt : Fin 32) (base : Fin 8) (off : BitVec 16)
  /-- LBU (R141): Load zero-extended byte. -/
  | lbu (x : Slot) (rt : Fin 32) (base : Fin 8) (off : BitVec 16)
  /-- LH (R141): Load sign-extended half-word. -/
  | lh (x : Slot) (rt : Fin 32) (base : Fin 8) (off : BitVec 16)
  /-- LHU (R141): Load zero-extended half-word. -/
  | lhu (x : Slot) (rt : Fin 32) (base : Fin 8) (off : BitVec 16)
  /-- LW (R141): Load word. -/
  | lw (x : Slot) (rt : Fin 32) (base : Fin 8) (off : BitVec 16)
  /-- LP (R141): Load 64-bit phase. -/
  | lp (x : Slot) (rt : Fin 4) (base : Fin 8) (off : BitVec 16)
  /-- LV (R142): Load vector per lane. -/
  | lv (x : Slot) (rt : Fin 8) (base : Fin 8) (off : BitVec 16)
  /-- SB (R141): Store byte. -/
  | sb (x : Slot) (rt : Fin 32) (base : Fin 8) (off : BitVec 16)
  /-- SH (R141): Store half-word. -/
  | sh (x : Slot) (rt : Fin 32) (base : Fin 8) (off : BitVec 16)
  /-- SW (R141): Store word. -/
  | sw (x : Slot) (rt : Fin 32) (base : Fin 8) (off : BitVec 16)
  /-- SP (R141): Store 64-bit phase. -/
  | sp (x : Slot) (rt : Fin 4) (base : Fin 8) (off : BitVec 16)
  /-- SV (R142): Store vector per lane, one handshake to four shadows. -/
  | sv (x : Slot) (rt : Fin 8) (base : Fin 8) (off : BitVec 16)
  /-- B (R143): Conditional relative branch. -/
  | b (k : CoreSel) (cond : BrCond) (off : BitVec 16)
  /-- BL (R143): Branch and link. -/
  | bl (k : CoreSel) (cond : BrCond) (off : BitVec 16)
  /-- JR (R143): Jump to register. -/
  | jr (k : CoreSel) (cond : JrCond) (rs : Fin 32)
  /-- WAIT (R144): Wait for an event. -/
  | wait (k : CoreSel) (ev : BitVec 8)
  /-- SIGNAL (R144): Signal a software-raised event. -/
  | signal (x : Slot) (ev : BitVec 8)
  /-- END (R113): End the task. -/
  | endTask (k : CoreSel)
  /-- FENCE (R108): Wait until stores and shadow handshakes complete. -/
  | fence (x : Slot)
  /-- XCR (R145): Read a coprocessor register with VALID into a predicate. -/
  | xcr (x : Slot) (u : Fin 32) (idx : BitVec 12) (reg : Fin 32) (qd : Fin 4)
  /-- XCV (R146): Vector read of a Couloir output of four inputs. -/
  | xcv (x : Slot) (u : Fin 32) (idx : BitVec 12) (reg : Fin 8) (qd : Fin 4)
  /-- XCW (R145): Write a coprocessor register. -/
  | xcw (x : Slot) (u : Fin 32) (idx : BitVec 12) (reg : Fin 32)
  /-- XCS (R146): Step a Ridgeline engine or Switchback loop. -/
  | xcs (x : Slot) (u : Fin 32) (idx : BitVec 12)
  /-- LI (R147): Load a 32-bit immediate. -/
  | li (x : Slot) (d : Fin 32) (imm : Word)
  /-- ADDL (R147): Add a 32-bit immediate. -/
  | addl (x : Slot) (d : Fin 32) (a : Fin 32) (imm : Word)
  /-- ANDL (R147): And a 32-bit immediate. -/
  | andl (x : Slot) (d : Fin 32) (a : Fin 32) (imm : Word)
  /-- ORL (R147): Or a 32-bit immediate. -/
  | orl (x : Slot) (d : Fin 32) (a : Fin 32) (imm : Word)
  /-- FADDL (R147): fp32 add of an immediate. -/
  | faddl (x : Slot) (d : Fin 32) (a : Fin 32) (imm : Word)
  /-- FMULL (R147): fp32 multiply by an immediate. -/
  | fmull (x : Slot) (d : Fin 32) (a : Fin 32) (imm : Word)
  /-- QMULL (R147): Q1.31 multiply by an immediate. -/
  | qmull (x : Slot) (d : Fin 32) (a : Fin 32) (imm : Word)
  /-- SHADOW_STORE_HANDSHAKE (R283): A Saddle shadow store completes its handshake and is admitted, late-buffered or discarded. -/
  | shadowStoreHandshake (k : CoreSel)
  /-- SUMMIT_END_DEADLINE (R161): A summit run reaches C_END without END and a KIND 0x2 violation is reported. -/
  | summitEndDeadline (k : CoreSel)
  /-- CODE_RECHECK (R162): The background CRC recheck of loaded summit code completes. -/
  | codeRecheck (p : PeakId) (task : Fin 4)
  /-- FAULT_INFO_READ (R125): A read of SYS.CORE[n].FAULT_INFO returns and clears the fault record. -/
  | faultInfoRead (m : Master) (core : Fin 8)
  /-- CYCLES_READ (R126): A read of CYCLES_LO latches CYCLES_HI. -/
  | cyclesRead (m : Master) (core : Fin 8)
  /-- EV_RAISE (R152): A TRV.EV_RAISE write raises a software event or is refused. -/
  | evRaise (m : Master) (val : Word)
  /-- TASK_LOAD (R158): TRV.CMD LOAD checks a task and begins loading it. -/
  | taskLoad (m : Master) (task : BitVec 8)
  /-- TASK_LOAD_COMPLETE (R159): A load completes, clears BUSY and signals EV_CMD_DONE. -/
  | taskLoadComplete (p : PeakId)
  /-- TASK_UNLOAD (R170): TRV.CMD UNLOAD unloads a task now or at its END. -/
  | taskUnload (m : Master) (task : BitVec 8)
  /-- TASK_REPLACE (R171): TRV.CMD REPLACE arms a new entry and certificate for a chosen period. -/
  | taskReplace (m : Master) (task : BitVec 8)
  /-- REPLACE_CHECK_COMPLETE (R171): The check of a replacement certificate completes. -/
  | replaceCheckComplete (p : PeakId)
  /-- DEADLINE_EXPIRY (R165): A control task's deadline passes without END and it is marked late. -/
  | deadlineExpiry (p : PeakId) (task : BitVec 8) (latched : Bool)
  /-- FRAME_RELEASE (R168): Traverse releases the next instance of a frame task. -/
  | frameRelease (p : PeakId) (task : BitVec 8)
  /-- PERIOD_COUNT_READ (R173): A read of PERIOD_COUNT_LO latches PERIOD_COUNT_HI. -/
  | periodCountRead (m : Master)
  /-- TIMEBASE_WRAP (R270): A timebase counter wraps from PRD to 0. -/
  | timebaseWrap (tb : Fin 8)
  /-- STROBE (R329): A strobe, each period wrap, is delivered with its count to the Peaks and Gendarme. -/
  | strobe
  /-- IDLE_STROBE (R329): While the period timebase is stopped a strobe falls every 100 us of free count. -/
  | idleStrobe
  /-- BATON_FLIGHT_END (R22): The baton flight completes and the new holder is recorded. -/
  | batonFlightEnd
  /-- CIRQUE_SAMPLE (R177): A converter samples its input at a grid point. -/
  | cirqueSample (i : Fin 48) (code : BitVec 24) (frac : BitVec 8)
  /-- COULOIR_SAMPLE_ARRIVAL (R204): A converted sample word reaches a Peak's Couloir. -/
  | couloirSampleArrival (p : PeakId) (i : Fin 48)
  /-- SAMPLE_READY (R180): The Shoulder value of a tagged sample is ready and EV_SMPnn fires. -/
  | sampleReady (i : Fin 48)
  /-- CIRQ_CFG_WRITE (R192): A CIRQ.IN CFG write changes enable or gain and may open a GAIN window. -/
  | cirqCfgWrite (m : Master) (i : Fin 48) (val : Word)
  /-- CIRQ_TRIG_WRITE (R178): A CIRQ.IN TRIG write sets trigger timebase and delay or is refused. -/
  | cirqTrigWrite (m : Master) (i : Fin 48) (val : Word)
  /-- VALIDITY_WINDOW_END (R192): A sample validity window ends and samples become valid again. -/
  | validityWindowEnd (i : Fin 48)
  /-- ROTOR_STEP_START (R183): A rotor begins a step every 3,200 us by connecting its relief. -/
  | rotorStepStart (d : PeakId) (b : Fin 6)
  /-- ROTOR_OVERLAP_START (R184): After 16 member instants the relief's outputs begin to be compared. -/
  | rotorOverlapStart (d : PeakId) (b : Fin 6)
  /-- ROTOR_FIT_COMPLETE (R187): The gain and offset fit ends and the swap or MATCH_FAIL is made. -/
  | rotorFitComplete (d : PeakId) (b : Fin 6) (off : BitVec 24) (gain : BitVec 24) (rms : BitVec 16)
  /-- ROTOR_STEP_TIMEOUT (R186): An overlap short of 256 valid samples at 300 us aborts the step. -/
  | rotorStepTimeout (d : PeakId) (b : Fin 6)
  /-- CALIBRATION_COMPLETE (R188): A freed converter completes check-DAC calibration or is retired. -/
  | calibrationComplete (d : PeakId) (c : BankConv) (off : BitVec 24) (gain : BitVec 24) (refOk : Bool)
  /-- ROTOR_READY (R184): At 1,000 us the freed converter becomes relief and the DAC is released. -/
  | rotorReady (d : PeakId) (b : Fin 6)
  /-- CAL_AGE_EXPIRY (R189): A member's calibration age passes 32 ms and CAL_LATE is raised. -/
  | calAgeExpiry (i : Fin 48)
  /-- DIAG_REQUEST (R190): A DIAG_CTRL write requests a check-DAC path diagnostic or is refused. -/
  | diagRequest (m : Master) (b : Fin 6) (val : Word)
  /-- DIAG_WINDOW (R190): A pending diagnostic is granted and connected at a diagnostic window. -/
  | diagWindow (b : Fin 6)
  /-- DIAG_END (R190): After LEN us the DAC disconnects and DIAG_MEAN is delivered. -/
  | diagEnd (b : Fin 6)
  /-- DOMAIN_LOSS (R194): A Cirque supply domain is declared lost and single-domain operation begins. -/
  | domainLoss (d : PeakId)
  /-- DOMAIN_PLL_START (R197): 450 us after a returning domain's supply rises its PLL starts acquiring. -/
  | domainPllStart (d : PeakId)
  /-- DOMAIN_PLL_LOCK (R197): A returning domain's PLL locks and its rotors enter RETURN. -/
  | domainPllLock (d : PeakId)
  /-- DOMAIN_REJOIN (R197): At the first period wrap after return calibration inputs resume two members. -/
  | domainRejoin (d : PeakId)
  /-- CIRQ_LAST_READ (R198): A holder's read of CIRQ.IN LAST clears NEW and OVR. -/
  | cirqLastRead (m : Master) (i : Fin 48)
  /-- FINE_RUN_START (R207): Writing FINE_RUN = 1 restarts an input's fine path. -/
  | fineRunStart (m : Master) (i : Fin 48)
  /-- FINE_OUTPUT_READY (R207): A fine-path output is ready 280 ns after its newest sample. -/
  | fineOutputReady (p : PeakId) (i : Fin 48)
  /-- MEAN_RUN_START (R215): Writing MEAN_RUN = 1 starts an integrator at its timebase's next wrap. -/
  | meanRunStart (m : Master) (i : Fin 48)
  /-- PERIOD_MEAN_READY (R215): 150 ns after a closing wrap the period means and EV_TBn_MEAN are ready. -/
  | periodMeanReady (tb : Fin 8)
  /-- RESAMPLER_RUN (R218): Writing CLN.RSG RUN starts or stops a resampler group. -/
  | resamplerRun (m : Master) (g : Fin 8) (run : Bool)
  /-- RESAMPLER_OUTPUT_READY (R220): A resampled output is ready and its record is written to the ring. -/
  | resamplerOutputReady (p : PeakId) (g : Fin 8)
  /-- RIDGELINE_STEP (R234): A Ridgeline engine step completes its computation. -/
  | ridgelineStep (p : PeakId) (e : Fin 8)
  /-- RDG_CMD_OFF (R237): Engine command OFF. -/
  | rdgCmdOff (m : Master) (e : Fin 8)
  /-- RDG_CMD_FOLLOW (R237): Engine command FOLLOW. -/
  | rdgCmdFollow (m : Master) (e : Fin 8)
  /-- RDG_CMD_FORM (R237): Engine command FORM. -/
  | rdgCmdForm (m : Master) (e : Fin 8)
  /-- RDG_CMD_ISLAND (R237): Engine command ISLAND. -/
  | rdgCmdIsland (m : Master) (e : Fin 8)
  /-- RDG_CMD_BLACK_START (R244): Engine command BLACK_START, accepted into BS_WAIT or refused. -/
  | rdgCmdBlackStart (m : Master) (e : Fin 8)
  /-- BLACK_START_BEGIN (R243): At the first wrap at or after BS_START_S the keeper is set and the EMF ramp begins. -/
  | blackStartBegin (p : PeakId) (e : Fin 8)
  /-- KEEPER_SET (R233): A write of KEEPER_SET_HI arms the keeper to be set at the next wrap. -/
  | keeperSet (m : Master) (e : Fin 8) (val : Word)
  /-- SWITCHBACK_STEP (R254): A Switchback loop step completes its computation. -/
  | switchbackStep (p : PeakId) (l : Fin 64)
  /-- SWB_START (R253): Loop command START. -/
  | swbStart (m : Master) (l : Fin 64)
  /-- SWB_STOP (R253): Loop command STOP. -/
  | swbStop (m : Master) (l : Fin 64)
  /-- SWB_CLEAR (R253): Loop command CLEAR. -/
  | swbClear (m : Master) (l : Fin 64)
  /-- BANK_REQ (R261): A BANK_REQ write requests a gain bank, examined at the next step. -/
  | bankReq (m : Master) (l : Fin 64) (bank : Bool)
  /-- TEST_RUN_START (R264): Writing TG RUN = 1 starts a test-signal run or is refused. -/
  | testRunStart (m : Master) (g : Fin 4)
  /-- TEST_RUN_STOP (R268): Writing TG RUN = 0 aborts a test run. -/
  | testRunStop (m : Master) (g : Fin 4)
  /-- TIMEBASE_START (R272): A TB_CMD START bit starts or arms a stopped timebase. -/
  | timebaseStart (m : Master) (mask : BitVec 8)
  /-- TIMEBASE_STOP (R273): A TB_CMD STOP bit stops a timebase at its next wrap. -/
  | timebaseStop (m : Master) (mask : BitVec 8)
  /-- ALIGNED_START (R287): An armed timebase starts at the tick nearest its Cairn instant. -/
  | alignedStart (tb : Fin 8)
  /-- COMMIT (R285): A PWM.COMMIT write moves staging sets into shadows in one handshake. -/
  | commit (m : Master) (mask : BitVec 8)
  /-- DELAY_LINE_CALIBRATION (R282): A bank's replica line is measured every 50 us and a tap table prepared. -/
  | delayLineCalibration (bank : Fin 8) (ok : Bool)
  /-- TRIP_PIN_ACTIVE (R290): A trip pin holds its active level for FILTER + 1 ticks and its source becomes active. -/
  | tripPinActive (src : Fin 8)
  /-- TRIP_PIN_INACTIVE (R290): A trip pin holds its inactive level for FILTER + 1 ticks and its source becomes inactive. -/
  | tripPinInactive (src : Fin 8)
  /-- TRIP_SW_SET (R290): TRIP.SW SET activates the software trip source. -/
  | tripSwSet (m : Master)
  /-- TRIP_SW_RELEASE (R290): TRIP.SW RELEASE deactivates the software trip source. -/
  | tripSwRelease (m : Master)
  /-- TRIP_CLEAR (R293): A TRIP.CLEAR write clears latched inactive sources or is refused. -/
  | tripClear (m : Master) (mask : BitVec 12)
  /-- TRIP_FIRST_READ (R294): A holder's read of TRIP.FIRST returns and clears the first-trip record. -/
  | tripFirstRead (m : Master)
  /-- SADDLE_STOP_DETECT (R297): The Gendarme sees no Saddle heartbeat toggle for 40 cycles and asserts the inhibit. -/
  | saddleStopDetect
  /-- LEG_ENABLE (R302): Writing LEG EN = 1 enables a Spur leg from the next wrap or is refused. -/
  | legEnable (m : Master) (n : Fin 6)
  /-- LEG_DISABLE (R302): Writing LEG EN = 0 turns both switches off at once. -/
  | legDisable (m : Master) (n : Fin 6)
  /-- BOOT_UNDERVOLTAGE (R306): BSTn-SWn below 7.5 V stops the high side and forces a refresh. -/
  | bootUndervoltage (n : Fin 6)
  /-- VDS_TRIP (R309): VDS above threshold after blanking trips the leg with a soft turn-off. -/
  | vdsTrip (n : Fin 6) (r : VdsReading)
  /-- SPUR_CLEAR (R312): A SPUR.CLEAR write clears leg trips or is refused. -/
  | spurClear (m : Master) (mask : BitVec 6)
  /-- ASC_ENTER (R314): ASC_CMD ENTER puts the active-short group into an active short. -/
  | ascEnter (m : Master)
  /-- ASC_RELEASE (R316): ASC_CMD RELEASE ends the active short or is refused. -/
  | ascRelease (m : Master)
  /-- LEG_DIAG_START (R317): Writing LEG DIAG = 1 starts an off-state diagnostic or is refused. -/
  | legDiagStart (m : Master) (n : Fin 6) (vbus : BitVec 16)
  /-- LEG_DIAG_COMPLETE (R317): After 600 us the leg diagnostic delivers its result. -/
  | legDiagComplete (n : Fin 6) (v1 : BitVec 16) (v2 : BitVec 16) (v3 : BitVec 17) (vbus : BitVec 16)
  /-- PIF_LINE_CHANGE (R319): A filtered position line takes a new level and the channel counts. -/
  | pifLineChange (k : Fin 2) (a : Bool) (b : Bool) (z : Bool)
  /-- POS_SET (R321): A POS_SET write while MODE = OFF loads POS. -/
  | posSet (m : Master) (k : Fin 2) (val : Word)
  /-- SPEED_WINDOW_END (R322): A speed window of WIN ticks ends and WINDOW speed is delivered. -/
  | speedWindowEnd (k : Fin 2)
  /-- SPEED_BOUND_UPDATE (R323): Every 16 ticks the between-edge speed bound is recomputed. -/
  | speedBoundUpdate (k : Fin 2)
  /-- PIF_STALE (R323): STALE_T ticks without an edge set speed 0 and STALE. -/
  | pifStale (k : Fin 2)
  /-- EDGE_POS_READ (R324): Reading EDGE_POS freezes the edge speed and time until read. -/
  | edgePosRead (m : Master) (k : Fin 2)
  /-- HEARTBEAT_RECEIVE (R331): A Peak's heartbeat reaches the Gendarme. -/
  | heartbeatReceive (p : PeakId)
  /-- HEARTBEAT_WINDOW_CLOSE (R331): The heartbeat window closes, verdicts are given and decisions made. -/
  | heartbeatWindowClose
  /-- ACK_RECEIVE (R332): A Peak receives the Gendarme's acknowledgement and records its role. -/
  | ackReceive (p : PeakId)
  /-- GENDARME_SILENT (R350): Three strobes without an acknowledgement set SILENT in a Peak. -/
  | gendarmeSilent (p : PeakId)
  /-- LOL_GRACE_EXPIRY (R334): LOL still reported 10 ms after its first heartbeat sends the device safe. -/
  | lolGraceExpiry
  /-- COPY_COMPLETE (R342): A state copy's bulk transfer is done and its mirror queue empty. -/
  | copyComplete
  /-- COPY_OVERFLOW (R342): The 64-entry mirror queue overflows and the copy aborts. -/
  | copyOverflow
  /-- COPY_TIMEOUT (R342): A copy not complete within 200 us aborts. -/
  | copyTimeout
  /-- START_WAIT_EXPIRY (R345): START_WAIT passes after a handover and the start rule or FAILED follows. -/
  | startWaitExpiry (p : PeakId)
  /-- AUTO_REJOIN_RELEASE (R346): 10 ms after becoming FAILED a Peak is released to rejoin. -/
  | autoRejoinRelease (p : PeakId)
  /-- RETURN_HOLD_EXPIRY (R347): The home Peak has been a good synced STANDBY for HOLD_T and a return copy starts. -/
  | returnHoldExpiry
  /-- AUTO_RESTART (R349): 100 ms after safe-state entry the Gendarme restarts by itself. -/
  | autoRestart
  /-- GDM_SWAP (R347): GDM.CMD SWAP moves ACTIVE to the STANDBY Peak via a running copy. -/
  | gdmSwap (key : BitVec 16)
  /-- GDM_FAIL (R331): GDM.CMD FAIL marks the named Peak SICK. -/
  | gdmFail (key : BitVec 16) (p : PeakId)
  /-- GDM_REJOIN (R346): GDM.CMD REJOIN releases a FAILED Peak and clears its lockout. -/
  | gdmRejoin (key : BitVec 16) (p : PeakId)
  /-- GDM_RESTART (R349): GDM.CMD RESTART leaves the safe state and releases the Peaks. -/
  | gdmRestart (key : BitVec 16)
  /-- GDM_SAFE (R348): GDM.CMD SAFE enters the safe state. -/
  | gdmSafe (key : BitVec 16)
  /-- GDM_RESYNC (R339): GDM.CMD RESYNC orders a running state copy to the STANDBY Peak. -/
  | gdmResync (key : BitVec 16)
  /-- TOGGLE_LOSS (R354): A segment's release toggle stops for 3 us and the segment reasserts. -/
  | toggleLoss (seg : Fin 9)
  /-- IMAGE_CRC_CHECK (R357): Every 100 ms the kernel checks its working safety image. -/
  | imageCrcCheck (ok : Bool)
  /-- SAF_COMMIT (R358): SAF.CMD COMMIT writes a staged safety configuration or is refused. -/
  | safCommit (key : BitVec 16)
  /-- SAF_COMMIT_COMPLETE (R358): The commit's writes and readbacks of both copies finish. -/
  | safCommitComplete (ok : Bool)
  /-- SAF_RESET (R365): SAF.CMD RESET returns named functions from SAFE to RUN or is refused. -/
  | safReset (key : BitVec 16) (func : BitVec 3) (low : BitVec 4)
  /-- SAF_DEMAND (R364): SAF.CMD DEMAND demands the named safety functions. -/
  | safDemand (key : BitVec 16) (func : BitVec 3)
  /-- TEST_PULSE_START (R359): An enabled TPO goes low for its 500 us test pulse. -/
  | testPulseStart (n : Fin 4) (high : BitVec 8)
  /-- TEST_PULSE_END (R359): A TPO test pulse ends and the TPO returns on. -/
  | testPulseEnd (n : Fin 4) (high : BitVec 8)
  /-- INPUT_DEMAND (R360): A safe input reads low past its filter and enters demand. -/
  | inputDemand (n : Fin 8)
  /-- INPUT_RELEASE (R360): A safe input reads high past its filter and its demand ends. -/
  | inputRelease (n : Fin 8)
  /-- DISCREPANCY_EXPIRY (R361): One channel of a pair in demand alone for DISC_T latches a fault. -/
  | discrepancyExpiry (n : Fin 8)
  /-- TPO_FAULT (R361): A TPO pin reads back wrong and its inputs take the fault. -/
  | tpoFault (n : Fin 4)
  /-- RESET_STUCK_EXPIRY (R361): A RESET input high for over 5 s latches RESET_STUCK. -/
  | resetStuckExpiry (n : Fin 8)
  /-- SOUT_OFF_PULSE (R362): Every 100 ms an on SOUT is switched off for its off-pulse. -/
  | soutOffPulse (n : Fin 4)
  /-- SOUT_OFF_PULSE_END (R362): The off-pulse ends 10 us after the pin reads below 2 V. -/
  | soutOffPulseEnd (n : Fin 4)
  /-- SOUT_STUCK_ON (R362): A SOUT not fallen 200 us into its off-pulse is an output fault. -/
  | soutStuckOn (n : Fin 4)
  /-- SOUT_SHORTED (R362): An off SOUT reading above 2 V for 100 us is an output fault. -/
  | soutShorted (n : Fin 4)
  /-- STOP_TIME_EXPIRY (R364): STOP_T ends and the timed stop asserts its segments. -/
  | stopTimeExpiry
  /-- RESET_INPUT_RELEASE (R365): The falling edge of a RESET input after 0.1 s to 5 s high resets functions. -/
  | resetInputRelease (low : BitVec 4)
  /-- FEEDBACK_TIMEOUT (R366): Contactor feedback does not follow SDC within FB_T and a FEEDBACK fault follows. -/
  | feedbackTimeout
  /-- KERNEL_FAULT (R368): A kernel diagnostic fails and every segment, output and function goes safe. -/
  | kernelFault
  /-- MOR_ALLOC (R373): Moraine command ALLOC gives the lowest FREE buffer to an owner. -/
  | morAlloc (m : Master) (dest : BitVec 8) (src : BitVec 8)
  /-- MOR_GIVE (R373): Moraine command GIVE hands a buffer to a new owner. -/
  | morGive (m : Master) (buffer : BitVec 12) (src : BitVec 8) (dest : BitVec 8)
  /-- MOR_SEG_GIVE (R386): Moraine command SEG_GIVE starts handing over a CLOSED segment's buffers. -/
  | morSegGive (m : Master) (seg : BitVec 12) (src : BitVec 8) (dest : BitVec 8)
  /-- SEG_GIVE_COMPLETE (R386): The last buffer of a SEG_GIVE moves and the segment becomes FREE. -/
  | segGiveComplete (m : Master)
  /-- SNAP_TAKE (R374): Writing TAL.SNAP TAKE freezes the Moraine and segment counts. -/
  | snapTake (m : Master)
  /-- TALUS_RUN (R379): Writing TAL CH RUN = 1 starts a capture channel or is refused. -/
  | talusRun (m : Master) (c : Fin 4)
  /-- TALUS_STOP (R384): Writing TAL CH RUN = 0 frees an ARMED segment or closes a FILLING one. -/
  | talusStop (m : Master) (c : Fin 4)
  /-- TALUS_ARM (R380): A running channel takes a FREE segment and buffers and becomes ARMED. -/
  | talusArm (p : PeakId) (c : Fin 4)
  /-- DMA_GO (R389): Writing DMA CTRL GO starts a transfer or is refused. -/
  | dmaGo (m : Master) (ch : Fin 16)
  /-- DMA_SHADOW_VALID (R391): Writing SHADOW_VALID marks the shadow set ready for append. -/
  | dmaShadowValid (m : Master) (ch : Fin 16)
  /-- DMA_CANCEL (R391): Writing CANCEL clears SHADOW_VALID. -/
  | dmaCancel (m : Master) (ch : Fin 16)
  /-- DMA_PAUSE (R392): Writing PAUSE = 1 starts a drain to PAUSED. -/
  | dmaPause (m : Master) (ch : Fin 16)
  /-- DMA_RESUME (R392): Writing PAUSE = 0 resumes a paused transfer. -/
  | dmaResume (m : Master) (ch : Fin 16)
  /-- DMA_ABORT (R392): Writing ABORT drains the channel and makes it IDLE. -/
  | dmaAbort (m : Master) (ch : Fin 16)
  /-- DMA_READ_RETURN (R390): A DMA read's data returns into the holding register. -/
  | dmaReadReturn (p : PeakId) (ch : Fin 16)
  /-- DMA_WRITE_COMPLETE (R390): A DMA write completes and frees its credit. -/
  | dmaWriteComplete (p : PeakId) (ch : Fin 16)
  /-- DMA_DRAIN_COMPLETE (R392): A pause or abort drain ends with all credits free. -/
  | dmaDrainComplete (p : PeakId) (ch : Fin 16)
  /-- DMA_ACCESS_TIMEOUT (R393): A DMA access errs or gets no response in 1,024 fabric cycles. -/
  | dmaAccessTimeout (p : PeakId) (ch : Fin 16) (write : Bool)
  /-- DMA_RETRY (R393): 64 fabric cycles after an error the access is repeated or the channel halts. -/
  | dmaRetry (p : PeakId) (ch : Fin 16)
  /-- CAIRN_SECOND_EDGE (R396): Cairn nanoseconds pass through 0 and EV_CRN_SEC fires. -/
  | cairnSecondEdge
  /-- RATE_LO_WRITE (R397): A write of CRN.RATE_LO is held until RATE_HI commits. -/
  | rateLoWrite (m : Master) (val : Word)
  /-- RATE_COMMIT (R397): A write of CRN.RATE_HI commits the new RATE or is discarded. -/
  | rateCommit (m : Master) (val : Word)
  /-- NOW_READ (R398): A read of CRN.NOW_NS latches the seconds words for that reader. -/
  | nowRead (m : Master)
  /-- CAIRN_ARM (R400): CRN.CTRL ARM allows one step and ends the lease. -/
  | cairnArm (m : Master)
  /-- CAIRN_STEP (R399): CRN.CTRL STEP applies the signed offset to Cairn. -/
  | cairnStep (m : Master)
  /-- LEASE_WRITE (R401): A CRN.SYNC LEASE write sets or ends the validity lease. -/
  | leaseWrite (m : Master) (val : Word)
  /-- LEASE_EXPIRY (R401): The lease counts down to zero and Cairn becomes invalid. -/
  | leaseExpiry
  /-- MAP_POINT (R403): Every 1,024 ticks a Saddle-to-Cairn map point is recorded. -/
  | mapPoint
  /-- MAC_RECEIVE (R410): A MAC accepts, classifies, timestamps and stores a received frame or drops it. -/
  | macReceive (p : PeakId) (frame : List Byte) (fcsOk : Bool) (ago : Word)
  /-- TQ_TAIL_WRITE (R411): A TQ TAIL write gives descriptors to the MAC. -/
  | tqTailWrite (m : Master) (q : Fin 8) (val : Word)
  /-- TQ_RECLAIM_WRITE (R411): A TQ RECLAIM write takes completed descriptors back. -/
  | tqReclaimWrite (m : Master) (q : Fin 8) (val : Word)
  /-- TX_DESCRIPTOR_CHECK (R413): A descriptor reaching HEAD is checked and its frame fetch starts. -/
  | txDescriptorCheck (p : PeakId) (q : Fin 8)
  /-- TX_FETCH_COMPLETE (R413): A frame is fully in the transmit FIFO. -/
  | txFetchComplete (p : PeakId) (q : Fin 8)
  /-- TX_START (R414): The highest eligible queue's frame starts transmission. -/
  | txStart (p : PeakId)
  /-- LAUNCH_TIME (R414): Cairn reaches a timed frame's launch time and it becomes eligible. -/
  | launchTime (p : PeakId) (q : Fin 8)
  /-- LATE_DROP (R415): A timed frame unable to start within 1 us of launch is dropped. -/
  | lateDrop (p : PeakId) (q : Fin 8)
  /-- TX_COMPLETE (R413): A frame's transmission ends and its descriptor completes. -/
  | txComplete (p : PeakId)
  /-- MDIO_COMMAND (R416): A write of MDIO_CMD posts a management command or is discarded. -/
  | mdioCommand (m : Master) (val : Word)
  /-- MDIO_COMPLETE (R416): An MDIO command completes and clears BUSY. -/
  | mdioComplete (data : BitVec 16)
  /-- THERMAL_MEASUREMENT (R422): A sensor is measured in its slot and its thresholds and faults judged. -/
  | thermalMeasurement (n : Fin 12) (reading : BitVec 16) (bad : Bool)
  /-- THROTTLE_STEP (R427): Every 100 ms while the throttle condition holds SCALE falls by 1. -/
  | throttleStep
  /-- THROTTLE_RECOVER_STEP (R427): Every RECOVER_N x 100 ms after the condition ends SCALE rises by 1. -/
  | throttleRecoverStep
  /-- FLOOR_WRITE (R427): A THM.CTRL write of FLOOR above SCALE raises SCALE at once. -/
  | floorWrite (m : Master) (val : Word)
  /-- COL_WRITE (R432): A complete Col WRITE frame is checked and queued for performance. -/
  | colWrite (hdr : Word) (addr : Word) (data : List Word) (crc : BitVec 16) (cut : Bool)
  /-- COL_WRITE_PERFORMED (R435): A queued Col WRITE finishes its writes and its outcome is final. -/
  | colWritePerformed
  /-- COL_READ (R433): A Col READ frame reads its words and returns them after wait nibbles. -/
  | colRead (hdr : Word) (addr : Word) (crc : BitVec 16) (cut : Bool)
  /-- COL_STATUS (R434): A Col STATUS frame returns the latest final frame outcome. -/
  | colStatus (hdr : Word) (crc : BitVec 16)
  /-- IN_PUSH (R438): The host pushes a word into the inbound mailbox. -/
  | inPush (m : Master) (val : Word)
  /-- IN_POP (R438): A core read pops a word from the inbound mailbox. -/
  | inPop (m : Master)
  /-- OUT_PUSH (R438): A core pushes a word into the outbound mailbox. -/
  | outPush (m : Master) (val : Word)
  /-- OUT_POP (R438): A host read pops a word from the outbound mailbox. -/
  | outPop (m : Master)
  /-- DOORBELL (R440): A core write to COL.DOORBELL sets pending doorbell bits. -/
  | doorbell (m : Master) (val : Word)
  /-- BOOT_DATA_WORD (R441): A word written to COL.GW_BOOT_DATA goes to every released boot controller. -/
  | bootDataWord (val : Word)
  /-- TRACE_PACKET (R442): The merging unit sends one trace packet on the trace port. -/
  | tracePacket
  /-- TICK_PAIR (R443): When tick bits [15:0] wrap a TICK_HI and TICK_LO pair is sent. -/
  | tickPair
  /-- COUNTER_ENABLE (R444): Writing OBS counter EN from 0 to 1 zeroes and starts the counter. -/
  | counterEnable (m : Master) (k : Fin 8)
  /-- COUNTER_READ (R444): Reading an OBS counter LO latches HI. -/
  | counterRead (m : Master) (k : Fin 8)
  /-- RC_READ (R5): A read of an RC register returns its value and clears it to reset in the same access, with R21 deciding whether the reader's Peak clears it. -/
  | rcRead (m : Master) (addr : Word)
  /-- COMPARE_REACHED (R278): A timebase count reaches a channel's effective compare: the switch turns off at its ideal edge, and an EVENT channel fires EV_PWMg_CMP. -/
  | compareReached (e : CompareSel)
  /-- DEAD_TIME_END (R279): DT after a switch turns off, its complementary switch (PWM pair or Spur leg) turns on, including turn-ons that a trip pattern waits for. -/
  | deadTimeEnd (e : SwitchSel) (swing : BitVec 9)
  /-- RELOCK_DEADLINE (R44): A returning PLL that has not locked within 200 us of the end of the 1 ms coasts on and is set to try again after a further 1 ms. -/
  | relockDeadline (pll : PllId)
  /-- JOIN_IMAGE_WAIT_EXPIRY (R346): A rejoining Peak's Col port image has not fully arrived within GDM.START_WAIT of its release, and the attempt counts as one failure. -/
  | joinImageWaitExpiry (p : PeakId)
  deriving DecidableEq, Repr

end Sys2Proof
end

