-- ==== Sys2Proof/Config.lean ====
section
/-! DEFINITION. What an implementation fixes and the spec leaves open: constants without a body, so that no proof can lean on
a value of theirs. Each is named in the assumption log. -/

namespace Sys2Proof.Config

/-- R89, R106: where in its range a load's latency falls; the n-th such load. -/
opaque loadLatency : Nat → Nat

/-- R98 leaves to IEEE 754, and IEEE 754 leaves open, whether 0 · ∞ + quiet NaN raises INV. -/
opaque fmaQnanInv : Bool

/-- R102: the word the trig unit delivers for a phase; the lanes 0 sin, 1 cos, 2 −sin and the forms fp32 (false) and Q1.31 (true). -/
opaque trigWord : BitVec 64 → Nat → Bool → Word

/-- R222: the factory filter banks: the word at a register address of `CLN.HB1_A`, `CLN.HB2_A` or `CLN.RS_A`. -/
opaque romCoef : Nat → BitVec 20

/-- R188: what the self-test's calibration finds of a converter at the Cirque's n-th release: its offset in 1/256 LSB plus 2^14 and its gain in
1/256 of a part per million plus 1,280,000, within the limits that would retire it. -/
opaque calStart : Nat → Nat → Fin (2 ^ 15 + 1) × Fin 2560001

/-- R190 does not say how the mean of a diagnostic that is no integer is rounded: up (true) or down. -/
opaque diagRoundUp : Int → Nat → Bool

/-- R381 gives EDGE = 0b11 of a trigger condition no meaning: it acts as one of the three that have one. -/
opaque talEdge3 : Fin 3

/-- A word that the spec names and gives no value (R410 TS_VALID, R412 words of a descriptor without a timestamp): the n-th such word. -/
opaque freeWord : Nat → Word

/-- R250 names a Ridgeline engine's 128 STATE words and gives them no layout: word j of an engine whose state is the list given. -/
opaque engState : List Nat → Nat → Word

/-- R407: the error of the n-th Ethernet timestamp in nanoseconds, plus 4: within ±4 ns. -/
opaque macTsError : Nat → Fin 9

/-- R418 gives SPEED = 0b11 no meaning: the time of a byte on the line, in nanoseconds. -/
opaque macSpeed3 : Nat

/-- R218: the phase at which a group with a fixed increment starts, by the group and the tick of its start: equal in both Peaks (R200). -/
opaque rsgPhase : Nat → Nat → BitVec 64

/-- R219 gives no value to a resampled output without the fine history it needs: by the input and the instant in 1/1024 ticks, equal in both
Peaks (R200). -/
opaque rsNoHistory : Nat → Int → BitVec 24

/-- R234 does not fix how a filter's coefficient 1 − exp(−2π · fc · Ts) is rounded. -/
opaque lpCoef : Word → Word → Word

/-- R234 does not fix how the angle of a dq pair (d, q) is rounded. -/
opaque angleWord : Word → Word → Word

/-- R319: does a quadrature step in which A changes first, the sequence 00, 10, 11, 01, count up? The rule gives no sign. -/
opaque quadUp : Bool

/-- A fact outside the device that a command does not carry and a rule asks for (a pulse width of R59 between its limits, Vbus of R318, VAUXG of
R75): the n-th such fact. -/
opaque freeBool : Nat → Bool

/-- The SOUT pins that have read below 2 V long enough for a reset to clear their fault (R362), where the command does not carry it. -/
opaque soutLow : Nat → BitVec 4

/-- R68, R346: SHA-256 of a byte string. -/
opaque sha256 : List Byte → BitVec 256

/-- R68: does an ECDSA P-256 signature (r then s) verify over a hash under a public key (X then Y)? -/
opaque ecdsaOk : BitVec 512 → BitVec 256 → BitVec 512 → Bool

end Sys2Proof.Config
end

