-- ==== Sys2Proof/Machine/Fp32.lean ====
section
/-! DEFINITION. The number formats of the cores (R97 to R101): fp32 with subnormals read as zero, Q1.31, and the conversions.
All arithmetic is exact over integers and rounds once. -/

namespace Sys2Proof.Machine

/-- The sticky flags in the order of `SYS.CORE[n].FLAGS` (R124): bit 0 INV, 1 DZ, 2 OVF, 3 UNF, 4 SAT. -/
abbrev FlagSet := BitVec 5

def flNone : FlagSet := 0
def flInv : FlagSet := 1
def flDz : FlagSet := 2
def flOvf : FlagSet := 4
def flUnf : FlagSet := 8
def flSat : FlagSet := 16

/-- A result word and the sticky flags that its computation sets. -/
structure Res where
  val : Word
  fl : FlagSet := 0
  deriving DecidableEq, Repr

/-- Round-half-to-even of the exact quotient `n / 2^k` (R97). -/
def rneShift (n : Int) (k : Nat) : Int :=
  let d : Int := (2 ^ k : Nat)
  let q := n / d
  let r := n % d
  if 2 * r < d then q else if 2 * r > d then q + 1 else if q % 2 = 0 then q else q + 1

/-- Round-half-to-even of the exact quotient `n / d`, `d > 0`. -/
def rneDiv (n : Int) (d : Nat) : Int :=
  let q := n / (d : Int)
  let r := n % (d : Int)
  if 2 * r < d then q else if 2 * r > d then q + 1 else if q % 2 = 0 then q else q + 1

/-! ### fp32 (R98) -/

/-- An fp32 operand as the arithmetic reads it: a finite value is `mag · 2^-149`, and a subnormal is read as zero (R98). -/
inductive FVal where
  | nan (signalling : Bool)
  | inf (neg : Bool)
  | fin (neg : Bool) (mag : Nat)
  deriving DecidableEq, Repr

def fpNan : Word := 0x7FC00000
def fpInf (neg : Bool) : Word := if neg then 0xFF800000 else 0x7F800000
def fpZero (neg : Bool) : Word := if neg then 0x80000000 else 0

/-- Read an fp32 word. -/
def FVal.ofWord (w : Word) : FVal :=
  let n := w.toNat
  let neg := decide (2 ^ 31 ≤ n)
  let e := n / 2 ^ 23 % 256
  let m := n % 2 ^ 23
  if e = 255 then (if m = 0 then .inf neg else .nan (decide (m < 2 ^ 22)))
  else if e = 0 then .fin neg 0
  else .fin neg ((2 ^ 23 + m) * 2 ^ (e - 1))

/-- A finite operand as an integer multiple of `2^-149`; 0 for the others. -/
def FVal.int : FVal → Int
  | .fin neg m => if neg then -(m : Int) else m
  | _ => 0

def FVal.isNan : FVal → Bool
  | .nan _ => true
  | _ => false

def FVal.isSnan : FVal → Bool
  | .nan true => true
  | _ => false

/-- INV for a signalling NaN among the operands (R98). -/
def snanFlag (a b : FVal) : FlagSet := if a.isSnan || b.isSnan then flInv else flNone

/-- Round `± m · 2^e`, `m > 0`, to fp32: 24 significant bits as if the exponent were unbounded, then overflow to infinity or flush
to zero (R98). -/
def fpRound (neg : Bool) (m : Nat) (e : Int) : Res :=
  let len := m.log2 + 1
  let q0 : Nat := if len ≤ 24 then m * 2 ^ (24 - len) else (rneShift m (len - 24)).toNat
  let e0 : Int := e + (len : Int) - 24
  let q := if q0 = 2 ^ 24 then 2 ^ 23 else q0
  let e1 : Int := if q0 = 2 ^ 24 then e0 + 1 else e0
  let ex : Int := e1 + 23
  if 127 < ex then ⟨fpInf neg, flOvf⟩
  else if ex < -126 then ⟨fpZero neg, flUnf⟩
  else ⟨BitVec.ofNat 32 ((if neg then 2 ^ 31 else 0) + (ex + 127).toNat * 2 ^ 23 + (q - 2 ^ 23)), flNone⟩

/-- Deliver the exact value `n · 2^e`; an exact zero takes the sign given. -/
def fpOfInt (n : Int) (e : Int) (zeroNeg : Bool) : Res :=
  if n = 0 then ⟨fpZero zeroNeg, flNone⟩ else fpRound (decide (n < 0)) n.natAbs e

/-- The default NaN with INV (R98). -/
def fpInvalid : Res := ⟨fpNan, flInv⟩

def FVal.neg : FVal → FVal
  | .nan s => .nan s
  | .inf b => .inf (!b)
  | .fin b m => .fin (!b) m

/-- fp32 sum of two read operands. -/
def fpAddV (a b : FVal) : Res :=
  match a, b with
  | .nan _, _ => ⟨fpNan, snanFlag a b⟩
  | _, .nan _ => ⟨fpNan, snanFlag a b⟩
  | .inf x, .inf y => if x = y then ⟨fpInf x, flNone⟩ else fpInvalid
  | .inf x, .fin _ _ => ⟨fpInf x, flNone⟩
  | .fin _ _, .inf y => ⟨fpInf y, flNone⟩
  | .fin x _, .fin y _ => fpOfInt (a.int + b.int) (-149) (x && y)

def fpAdd (a b : Word) : Res := fpAddV (.ofWord a) (.ofWord b)
def fpSub (a b : Word) : Res := fpAddV (.ofWord a) (FVal.ofWord b).neg

def fpMulV (a b : FVal) : Res :=
  match a, b with
  | .nan _, _ => ⟨fpNan, snanFlag a b⟩
  | _, .nan _ => ⟨fpNan, snanFlag a b⟩
  | .inf x, .inf y => ⟨fpInf (xor x y), flNone⟩
  | .inf x, .fin y m => if m = 0 then fpInvalid else ⟨fpInf (xor x y), flNone⟩
  | .fin x m, .inf y => if m = 0 then fpInvalid else ⟨fpInf (xor x y), flNone⟩
  | .fin x _, .fin y _ => fpOfInt (a.int * b.int) (-298) (xor x y)

def fpMul (a b : Word) : Res := fpMulV (.ofWord a) (.ofWord b)

/-- Fused `c + a · b`, rounded once (R98). A product 0 · ∞ with a quiet NaN addend: IEEE 754 leaves INV open, and so does
`qnanInv`. -/
def fpFmaV (qnanInv : Bool) (c a b : FVal) : Res :=
  let snan : FlagSet := if a.isSnan || b.isSnan || c.isSnan then flInv else flNone
  let badProduct : Bool := match a, b with
    | .inf _, .fin _ m => decide (m = 0)
    | .fin _ m, .inf _ => decide (m = 0)
    | _, _ => false
  if a.isNan || b.isNan then ⟨fpNan, snan⟩
  else if c.isNan then ⟨fpNan, if badProduct && qnanInv then flInv else snan⟩
  else if badProduct then fpInvalid
  else match a, b, c with
    | .fin x _, .fin y _, .fin z _ => fpOfInt (a.int * b.int + c.int * 2 ^ 149) (-298) (xor x y && z)
    | .fin _ _, .fin _ _, .inf z => ⟨fpInf z, flNone⟩
    | _, _, .fin _ _ =>
      let neg := match a, b with
        | .inf x, .inf y => xor x y
        | .inf x, .fin y _ => xor x y
        | .fin x _, .inf y => xor x y
        | _, _ => false
      ⟨fpInf neg, flNone⟩
    | _, _, .inf z =>
      let neg := match a, b with
        | .inf x, .inf y => xor x y
        | .inf x, .fin y _ => xor x y
        | .fin x _, .inf y => xor x y
        | _, _ => false
      if neg = z then ⟨fpInf z, flNone⟩ else fpInvalid
    | _, _, .nan _ => ⟨fpNan, snan⟩

def fpFma (qnanInv : Bool) (c a b : Word) : Res := fpFmaV qnanInv (.ofWord c) (.ofWord a) (.ofWord b)
/-- Fused `c − a · b`. -/
def fpFms (qnanInv : Bool) (c a b : Word) : Res := fpFmaV qnanInv (.ofWord c) (FVal.ofWord a).neg (.ofWord b)

/-- Correctly rounded quotient (R98): 302 extra bits and a sticky bit decide the rounding exactly. -/
def fpDiv (a b : Word) : Res :=
  let va := FVal.ofWord a
  let vb := FVal.ofWord b
  match va, vb with
  | .nan _, _ => ⟨fpNan, snanFlag va vb⟩
  | _, .nan _ => ⟨fpNan, snanFlag va vb⟩
  | .inf _, .inf _ => fpInvalid
  | .inf x, .fin y _ => ⟨fpInf (xor x y), flNone⟩
  | .fin x _, .inf y => ⟨fpZero (xor x y), flNone⟩
  | .fin x m, .fin y n =>
    if n = 0 then (if m = 0 then fpInvalid else ⟨fpInf (xor x y), flDz⟩)
    else if m = 0 then ⟨fpZero (xor x y), flNone⟩
    else
      let q := m * 2 ^ 310 / n
      let sticky := if m * 2 ^ 310 % n = 0 then 0 else 1
      fpRound (xor x y) (2 * q + sticky) (-311)

/-- Integer square root, one result bit for each unit of fuel. -/
def isqrtAux (n : Nat) : Nat → Nat → Nat
  | 0, r => r
  | k + 1, r => let r' := r + 2 ^ k; isqrtAux n k (if r' * r' ≤ n then r' else r)

/-- The floor of the square root of `n < 2^360`. -/
def isqrt (n : Nat) : Nat := isqrtAux n 180 0

/-- Correctly rounded square root (R98, R136). -/
def fpSqrt (a : Word) : Res :=
  match FVal.ofWord a with
  | .nan s => ⟨fpNan, if s then flInv else flNone⟩
  | .inf x => if x then fpInvalid else ⟨fpInf false, flNone⟩
  | .fin x m =>
    if m = 0 then ⟨fpZero x, flNone⟩
    else if x then fpInvalid
    else
      let n := m * 2 ^ 61
      let r := isqrt n
      let sticky := if r * r = n then 0 else 1
      fpRound false (2 * r + sticky) (-106)

/-- The word of an operand as read: subnormals flushed, NaNs the default NaN. -/
def FVal.word (w : Word) : FVal → Word
  | .nan _ => fpNan
  | .inf x => fpInf x
  | .fin x m => if m = 0 then fpZero x else w

/-- Order of two operands for minimum and maximum: −0 below +0 (R136). -/
def FVal.lt : FVal → FVal → Bool
  | .inf x, .inf y => x && !y
  | .inf x, .fin _ _ => x
  | .fin _ _, .inf y => !y
  | .fin x m, .fin y n => decide ((FVal.fin x m).int < (FVal.fin y n).int) || (decide (m = 0) && decide (n = 0) && x && !y)
  | _, _ => false

/-- Minimum or maximum by `better`, which says that the second operand is to be taken (R136). -/
def fpPick (better : FVal → FVal → Bool) (a b : Word) : Res :=
  let va := FVal.ofWord a
  let vb := FVal.ofWord b
  let fl := snanFlag va vb
  if va.isNan && vb.isNan then ⟨fpNan, fl⟩
  else if va.isNan then ⟨vb.word b, fl⟩
  else if vb.isNan then ⟨va.word a, fl⟩
  else if better va vb then ⟨vb.word b, fl⟩
  else ⟨va.word a, fl⟩

def fpMin (a b : Word) : Res := fpPick (fun x y => y.lt x) a b
def fpMax (a b : Word) : Res := fpPick (fun x y => x.lt y) a b

/-- The five fp32 relations of R136. -/
inductive FRel where
  | eq | ne | lt | le | un
  deriving DecidableEq, Repr

/-- A compare's truth and flags (R136): a quiet NaN raises INV only in LT and LE. -/
def fpCompare (r : FRel) (a b : Word) : Bool × FlagSet :=
  let va := FVal.ofWord a
  let vb := FVal.ofWord b
  if va.isNan || vb.isNan then
    match r with
    | .eq => (false, snanFlag va vb)
    | .ne => (true, snanFlag va vb)
    | .lt => (false, flInv)
    | .le => (false, flInv)
    | .un => (true, snanFlag va vb)
  else
    let key : FVal → Int := fun v => match v with
      | .inf x => if x then -(2 ^ 300) else 2 ^ 300
      | v => v.int
    match r with
    | .eq => (decide (key va = key vb), flNone)
    | .ne => (decide (key va ≠ key vb), flNone)
    | .lt => (decide (key va < key vb), flNone)
    | .le => (decide (key va ≤ key vb), flNone)
    | .un => (false, flNone)

/-! ### Q1.31 (R99) -/

/-- Saturate to a 32-bit two's complement word, setting `fl` outside the range. -/
def satWord (fl : FlagSet) (n : Int) : Res :=
  if n < -(2 ^ 31) then ⟨0x80000000, fl⟩
  else if 2 ^ 31 - 1 < n then ⟨0x7FFFFFFF, fl⟩
  else ⟨BitVec.ofInt 32 n, flNone⟩

def qAdd (a b : Word) : Res := satWord flSat (a.toInt + b.toInt)
def qSub (a b : Word) : Res := satWord flSat (a.toInt - b.toInt)
def qNeg (a : Word) : Res := satWord flSat (-a.toInt)
def qAbs (a : Word) : Res := satWord flSat (a.toInt.natAbs : Int)
def qMul (a b : Word) : Res := satWord flSat (rneShift (a.toInt * b.toInt) 31)
def qMac (c a b : Word) : Res := satWord flSat (rneShift (c.toInt * 2 ^ 31 + a.toInt * b.toInt) 31)
def qMsu (c a b : Word) : Res := satWord flSat (rneShift (c.toInt * 2 ^ 31 - a.toInt * b.toInt) 31)

/-! ### Conversions (R100, R101) -/

def f2q (a : Word) : Res :=
  match FVal.ofWord a with
  | .nan _ => ⟨0, flInv⟩
  | .inf x => ⟨if x then 0x80000000 else 0x7FFFFFFF, flSat⟩
  | .fin x m => satWord flSat (rneShift ((FVal.fin x m).int) 118)

def f2i (a : Word) : Res :=
  match FVal.ofWord a with
  | .nan _ => ⟨0, flInv⟩
  | .inf x => ⟨if x then 0x80000000 else 0x7FFFFFFF, flInv⟩
  | .fin x m => satWord flInv (rneShift ((FVal.fin x m).int) 149)

def q2f (a : Word) : Res := ⟨(fpOfInt a.toInt (-31) false).val, flNone⟩
def i2f (a : Word) : Res := ⟨(fpOfInt a.toInt 0 false).val, flNone⟩

/-- Phase to fp32 turns; a value that rounds to +0.5 is delivered as −0.5 (R100). -/
def p2f (p : BitVec 64) : Res :=
  let r := (fpOfInt p.toInt (-64) false).val
  ⟨if r = 0x3F000000 then 0xBF000000 else r, flNone⟩

/-- fp32 turns to phase, modulo one turn (R100). -/
def f2p (a : Word) : BitVec 64 × FlagSet :=
  match FVal.ofWord a with
  | .fin x m => (BitVec.ofInt 64 (rneShift ((FVal.fin x m).int) 85), flNone)
  | _ => (0, flInv)

/-- The fp32 word of a decimal-free rational `n / d`, rounded to nearest even; used for values that the spec gives as fp32. -/
def fpOfRat (n : Int) (d : Nat) : Word :=
  if n = 0 then 0
  else
    let q := n.natAbs * 2 ^ 310 / d
    let sticky := if n.natAbs * 2 ^ 310 % d = 0 then 0 else 1
    (fpRound (decide (n < 0)) (2 * q + sticky) (-311)).val

end Sys2Proof.Machine
end

