-- ==== Sys2Proof/Machine/RegNames.lean ====
section
/-! DEFINITION. The addresses of the registers (the register tables of spec/00 to spec/18; bases R32) and their named
fields. A register of an array takes its indexes as arguments. -/

namespace Sys2Proof.Machine

/-- A named field of a register: the register's address and the field's highest and lowest bit. -/
structure Fld where
  addr : Nat
  hi : Nat
  lo : Nat
  deriving DecidableEq, Repr

/-- `PWM.BATON` (R24). -/
def Reg.pwmBaton : Nat := 0x4005FFF0
def Fd.pwmBatonMoves : Fld := ⟨Reg.pwmBaton, 31, 16⟩
def Fd.pwmBatonSat : Fld := ⟨Reg.pwmBaton, 2, 2⟩
def Fd.pwmBatonHolder : Fld := ⟨Reg.pwmBaton, 1, 0⟩
/-- `PWM.PERIOD_TB` (R24). -/
def Reg.pwmPeriodTb : Nat := 0x4005FFF4
def Fd.pwmPeriodTbTb : Fld := ⟨Reg.pwmPeriodTb, 2, 0⟩
/-- `CLK.CTRL` (R56). -/
def Reg.clkCtrl : Nat := 0x40010000
def Fd.clkCtrlTargetN : Fld := ⟨Reg.clkCtrl, 7, 0⟩
/-- `CLK.STATUS` (R56). -/
def Reg.clkStatus : Nat := 0x40010004
def Fd.clkStatusPeerLock : Fld := ⟨Reg.clkStatus, 24, 24⟩
def Fd.clkStatusNLock : Fld := ⟨Reg.clkStatus, 23, 23⟩
def Fd.clkStatusCbLock : Fld := ⟨Reg.clkStatus, 22, 22⟩
def Fd.clkStatusCaLock : Fld := ⟨Reg.clkStatus, 21, 21⟩
def Fd.clkStatusSLock : Fld := ⟨Reg.clkStatus, 20, 20⟩
def Fd.clkStatusOnSubst : Fld := ⟨Reg.clkStatus, 12, 12⟩
def Fd.clkStatusRefLost : Fld := ⟨Reg.clkStatus, 11, 11⟩
def Fd.clkStatusCoast : Fld := ⟨Reg.clkStatus, 10, 10⟩
def Fd.clkStatusStepping : Fld := ⟨Reg.clkStatus, 9, 9⟩
def Fd.clkStatusLocked : Fld := ⟨Reg.clkStatus, 8, 8⟩
def Fd.clkStatusCurN : Fld := ⟨Reg.clkStatus, 7, 0⟩
/-- `CLK.FLAGS` (R56). -/
def Reg.clkFlags : Nat := 0x40010008
def Fd.clkFlagsBivRefused : Fld := ⟨Reg.clkFlags, 5, 5⟩
def Fd.clkFlagsXto : Fld := ⟨Reg.clkFlags, 4, 4⟩
def Fd.clkFlagsStepRefused : Fld := ⟨Reg.clkFlags, 3, 3⟩
def Fd.clkFlagsRelock : Fld := ⟨Reg.clkFlags, 2, 2⟩
def Fd.clkFlagsRefLoss : Fld := ⟨Reg.clkFlags, 1, 1⟩
def Fd.clkFlagsLol : Fld := ⟨Reg.clkFlags, 0, 0⟩
/-- `CLK.LOL_COUNT` (R56). -/
def Reg.clkLolCount : Nat := 0x4001000C
def Fd.clkLolCountSat : Fld := ⟨Reg.clkLolCount, 16, 16⟩
def Fd.clkLolCountCount : Fld := ⟨Reg.clkLolCount, 15, 0⟩
/-- `CLK.XTO` (R56). -/
def Reg.clkXto : Nat := 0x40010010
def Fd.clkXtoWrite : Fld := ⟨Reg.clkXto, 3, 3⟩
def Fd.clkXtoDest : Fld := ⟨Reg.clkXto, 2, 0⟩
/-- `CLK.XTO_ADDR` (R56). -/
def Reg.clkXtoAddr : Nat := 0x40010014
/-- `CLK.BIVOUAC` (R56). -/
def Reg.clkBivouac : Nat := 0x40010020
def Fd.clkBivouacKey : Fld := ⟨Reg.clkBivouac, 31, 16⟩
def Fd.clkBivouacEnter : Fld := ⟨Reg.clkBivouac, 0, 0⟩
/-- `CLK.BIV_STATUS` (R56). -/
def Reg.clkBivStatus : Nat := 0x40010024
def Fd.clkBivStatusWakeSrc : Fld := ⟨Reg.clkBivStatus, 14, 12⟩
def Fd.clkBivStatusWoke : Fld := ⟨Reg.clkBivStatus, 8, 8⟩
def Fd.clkBivStatusRefuse : Fld := ⟨Reg.clkBivStatus, 3, 0⟩
/-- `CLK.WAKE_CFG` (R56). -/
def Reg.clkWakeCfg : Nat := 0x40010028
def Fd.clkWakeCfgSinEn : Fld := ⟨Reg.clkWakeCfg, 10, 3⟩
def Fd.clkWakeCfgAlarmEn : Fld := ⟨Reg.clkWakeCfg, 2, 2⟩
def Fd.clkWakeCfgColEn : Fld := ⟨Reg.clkWakeCfg, 0, 0⟩
/-- `CLK.WAKE_TIME` (R56). -/
def Reg.clkWakeTime : Nat := 0x4001002C
/-- `CLK.KEEP[n]` (R56). -/
def Reg.clkKeep (i : Nat) : Nat := 0x40010030 + 0x4 * i
/-- `BOOT.CAUSE` (R73). -/
def Reg.bootCause : Nat := 0x40170000
def Fd.bootCauseLifecycle : Fld := ⟨Reg.bootCause, 4, 4⟩
def Fd.bootCausePeak : Fld := ⟨Reg.bootCause, 3, 3⟩
def Fd.bootCauseWake : Fld := ⟨Reg.bootCause, 2, 2⟩
def Fd.bootCausePin : Fld := ⟨Reg.bootCause, 1, 1⟩
def Fd.bootCausePor : Fld := ⟨Reg.bootCause, 0, 0⟩
/-- `BOOT.STATUS` (R73). -/
def Reg.bootStatus : Nat := 0x40170004
def Fd.bootStatusAlone : Fld := ⟨Reg.bootStatus, 19, 19⟩
def Fd.bootStatusSvn : Fld := ⟨Reg.bootStatus, 18, 12⟩
def Fd.bootStatusErr1 : Fld := ⟨Reg.bootStatus, 11, 8⟩
def Fd.bootStatusErr0 : Fld := ⟨Reg.bootStatus, 7, 4⟩
def Fd.bootStatusKeySlot : Fld := ⟨Reg.bootStatus, 3, 2⟩
def Fd.bootStatusSlot : Fld := ⟨Reg.bootStatus, 1, 0⟩
/-- `BOOT.HANDOVER` (R73). -/
def Reg.bootHandover : Nat := 0x40170008
def Fd.bootHandoverTimeUs : Fld := ⟨Reg.bootHandover, 15, 0⟩
/-- `LCS.STATE` (R79). -/
def Reg.lcsState : Nat := 0x40140000
def Fd.lcsStatePartial : Fld := ⟨Reg.lcsState, 8, 8⟩
def Fd.lcsStateState : Fld := ⟨Reg.lcsState, 1, 0⟩
/-- `LCS.KEYSTAT` (R79). -/
def Reg.lcsKeystat : Nat := 0x40140004
def Fd.lcsKeystatRevoked : Fld := ⟨Reg.lcsKeystat, 11, 8⟩
def Fd.lcsKeystatDamaged : Fld := ⟨Reg.lcsKeystat, 7, 4⟩
def Fd.lcsKeystatProgrammed : Fld := ⟨Reg.lcsKeystat, 3, 0⟩
/-- `LCS.SVN` (R79). -/
def Reg.lcsSvn : Nat := 0x40140008
def Fd.lcsSvnCount : Fld := ⟨Reg.lcsSvn, 6, 0⟩
/-- `LCS.PROG_CMD` (R79). -/
def Reg.lcsProgCmd : Nat := 0x40140010
def Fd.lcsProgCmdKey : Fld := ⟨Reg.lcsProgCmd, 31, 16⟩
def Fd.lcsProgCmdOp : Fld := ⟨Reg.lcsProgCmd, 15, 8⟩
def Fd.lcsProgCmdArg : Fld := ⟨Reg.lcsProgCmd, 6, 0⟩
/-- `LCS.PROG_STATUS` (R79). -/
def Reg.lcsProgStatus : Nat := 0x40140014
def Fd.lcsProgStatusBusy : Fld := ⟨Reg.lcsProgStatus, 4, 4⟩
def Fd.lcsProgStatusResult : Fld := ⟨Reg.lcsProgStatus, 3, 0⟩
/-- `LCS.PROG_DATA[n]` (R79). -/
def Reg.lcsProgData (i : Nat) : Nat := 0x40140020 + 0x4 * i
/-- `LCS.KEYHASH[s][k]` (R79). -/
def Reg.lcsKeyhash (i j : Nat) : Nat := 0x40140100 + 0x20 * i + 0x4 * j
/-- `BST.CTRL` (R87). -/
def Reg.bstCtrl : Nat := 0x40130000
def Fd.bstCtrlWord : Fld := ⟨Reg.bstCtrl, 10, 8⟩
def Fd.bstCtrlStart : Fld := ⟨Reg.bstCtrl, 0, 0⟩
/-- `BST.MASK` (R87). -/
def Reg.bstMask : Nat := 0x40130004
/-- `BST.STATUS` (R87). -/
def Reg.bstStatus : Nat := 0x40130008
def Fd.bstStatusRefuse : Fld := ⟨Reg.bstStatus, 7, 4⟩
def Fd.bstStatusMerged : Fld := ⟨Reg.bstStatus, 2, 2⟩
def Fd.bstStatusPostDone : Fld := ⟨Reg.bstStatus, 1, 1⟩
def Fd.bstStatusBusy : Fld := ⟨Reg.bstStatus, 0, 0⟩
/-- `BST.PASS[n]` (R87). -/
def Reg.bstPass (i : Nat) : Nat := 0x40130100 + 0x4 * i
/-- `BST.DONE[n]` (R87). -/
def Reg.bstDone (i : Nat) : Nat := 0x40130120 + 0x4 * i
/-- `BST.LOCAL[n]` (R87). -/
def Reg.bstLocal (i : Nat) : Nat := 0x40130140 + 0x4 * i
/-- `SYS.FAULT` (R124). -/
def Reg.sysFault : Nat := 0x40000010
def Fd.sysFaultCore : Fld := ⟨Reg.sysFault, 15, 8⟩
def Fd.sysFaultUnmapped : Fld := ⟨Reg.sysFault, 0, 0⟩
/-- `SYS.FAULT_ADDR` (R124). -/
def Reg.sysFaultAddr : Nat := 0x40000014
/-- `SYS.CORE[n].STATUS` (R124). -/
def Reg.sysCoreStatus (i : Nat) : Nat := 0x40000100 + 0x20 * i
def Fd.sysCoreStatusTask (i : Nat) : Fld := ⟨Reg.sysCoreStatus i, 15, 8⟩
def Fd.sysCoreStatusSummit (i : Nat) : Fld := ⟨Reg.sysCoreStatus i, 2, 2⟩
def Fd.sysCoreStatusState (i : Nat) : Fld := ⟨Reg.sysCoreStatus i, 1, 0⟩
/-- `SYS.CORE[n].FLAGS` (R124). -/
def Reg.sysCoreFlags (i : Nat) : Nat := 0x40000104 + 0x20 * i
def Fd.sysCoreFlagsSat (i : Nat) : Fld := ⟨Reg.sysCoreFlags i, 4, 4⟩
def Fd.sysCoreFlagsUnf (i : Nat) : Fld := ⟨Reg.sysCoreFlags i, 3, 3⟩
def Fd.sysCoreFlagsOvf (i : Nat) : Fld := ⟨Reg.sysCoreFlags i, 2, 2⟩
def Fd.sysCoreFlagsDz (i : Nat) : Fld := ⟨Reg.sysCoreFlags i, 1, 1⟩
def Fd.sysCoreFlagsInv (i : Nat) : Fld := ⟨Reg.sysCoreFlags i, 0, 0⟩
/-- `SYS.CORE[n].FAULT_PC` (R124). -/
def Reg.sysCoreFaultPc (i : Nat) : Nat := 0x40000108 + 0x20 * i
/-- `SYS.CORE[n].FAULT_INFO` (R124). -/
def Reg.sysCoreFaultInfo (i : Nat) : Nat := 0x4000010C + 0x20 * i
def Fd.sysCoreFaultInfoSat (i : Nat) : Fld := ⟨Reg.sysCoreFaultInfo i, 16, 16⟩
def Fd.sysCoreFaultInfoCount (i : Nat) : Fld := ⟨Reg.sysCoreFaultInfo i, 15, 8⟩
def Fd.sysCoreFaultInfoCode (i : Nat) : Fld := ⟨Reg.sysCoreFaultInfo i, 3, 0⟩
/-- `SYS.CORE[n].FAULT_ADDR` (R124). -/
def Reg.sysCoreFaultAddr (i : Nat) : Nat := 0x40000110 + 0x20 * i
/-- `SYS.CORE[n].CYCLES_LO` (R124). -/
def Reg.sysCoreCyclesLo (i : Nat) : Nat := 0x40000114 + 0x20 * i
/-- `SYS.CORE[n].CYCLES_HI` (R124). -/
def Reg.sysCoreCyclesHi (i : Nat) : Nat := 0x40000118 + 0x20 * i
/-- `TRV.CMD` (R173). -/
def Reg.trvCmd : Nat := 0x400B0000
def Fd.trvCmdTask : Fld := ⟨Reg.trvCmd, 15, 8⟩
def Fd.trvCmdOp : Fld := ⟨Reg.trvCmd, 1, 0⟩
/-- `TRV.CMD_STATUS` (R173). -/
def Reg.trvCmdStatus : Nat := 0x400B0004
def Fd.trvCmdStatusTask : Fld := ⟨Reg.trvCmdStatus, 15, 8⟩
def Fd.trvCmdStatusBusy : Fld := ⟨Reg.trvCmdStatus, 4, 4⟩
def Fd.trvCmdStatusResult : Fld := ⟨Reg.trvCmdStatus, 3, 0⟩
/-- `TRV.STATUS` (R173). -/
def Reg.trvStatus : Nat := 0x400B0008
def Fd.trvStatusReplacePending : Fld := ⟨Reg.trvStatus, 18, 18⟩
def Fd.trvStatusMonFault : Fld := ⟨Reg.trvStatus, 17, 17⟩
def Fd.trvStatusCatchup : Fld := ⟨Reg.trvStatus, 16, 16⟩
def Fd.trvStatusFrames : Fld := ⟨Reg.trvStatus, 15, 11⟩
def Fd.trvStatusControls : Fld := ⟨Reg.trvStatus, 10, 4⟩
def Fd.trvStatusSummits : Fld := ⟨Reg.trvStatus, 3, 0⟩
/-- `TRV.FLAGS` (R173). -/
def Reg.trvFlags : Nat := 0x400B000C
def Fd.trvFlagsCmdDiscarded : Fld := ⟨Reg.trvFlags, 8, 8⟩
def Fd.trvFlagsTaskFault : Fld := ⟨Reg.trvFlags, 7, 7⟩
def Fd.trvFlagsRaiseRefused : Fld := ⟨Reg.trvFlags, 6, 6⟩
def Fd.trvFlagsLockedWrite : Fld := ⟨Reg.trvFlags, 5, 5⟩
def Fd.trvFlagsOverrun : Fld := ⟨Reg.trvFlags, 4, 4⟩
def Fd.trvFlagsFrameMiss : Fld := ⟨Reg.trvFlags, 3, 3⟩
def Fd.trvFlagsDeadlineMiss : Fld := ⟨Reg.trvFlags, 2, 2⟩
def Fd.trvFlagsMonitor : Fld := ⟨Reg.trvFlags, 1, 1⟩
def Fd.trvFlagsWriteWhileRunning : Fld := ⟨Reg.trvFlags, 0, 0⟩
/-- `TRV.MON` (R173). -/
def Reg.trvMon : Nat := 0x400B0010
def Fd.trvMonTask : Fld := ⟨Reg.trvMon, 15, 8⟩
def Fd.trvMonKind : Fld := ⟨Reg.trvMon, 3, 0⟩
/-- `TRV.MON_CYCLE` (R173). -/
def Reg.trvMonCycle : Nat := 0x400B0014
/-- `TRV.PERIOD_COUNT_LO` (R173). -/
def Reg.trvPeriodCountLo : Nat := 0x400B0018
/-- `TRV.PERIOD_COUNT_HI` (R173). -/
def Reg.trvPeriodCountHi : Nat := 0x400B001C
/-- `TRV.NEXT_ENTRY` (R173). -/
def Reg.trvNextEntry : Nat := 0x400B0020
/-- `TRV.NEXT_CERT` (R173). -/
def Reg.trvNextCert : Nat := 0x400B0024
/-- `TRV.REPLACE_AT` (R173). -/
def Reg.trvReplaceAt : Nat := 0x400B0028
/-- `TRV.EV_RAISE` (R173). -/
def Reg.trvEvRaise : Nat := 0x400B0030
/-- `TRV.EV_WATCH` (R173). -/
def Reg.trvEvWatch : Nat := 0x400B0034
/-- `TRV.EV_WATCH_CNT` (R173). -/
def Reg.trvEvWatchCnt : Nat := 0x400B0038
def Fd.trvEvWatchCntCount : Fld := ⟨Reg.trvEvWatchCnt, 30, 0⟩
def Fd.trvEvWatchCntSat : Fld := ⟨Reg.trvEvWatchCnt, 31, 31⟩
/-- `TRV.TASK[n].CFG` (R173). -/
def Reg.trvTaskCfg (i : Nat) : Nat := 0x400B1000 + 0x20 * i
def Fd.trvTaskCfgFaultUnload (i : Nat) : Fld := ⟨Reg.trvTaskCfg i, 24, 24⟩
def Fd.trvTaskCfgTb (i : Nat) : Fld := ⟨Reg.trvTaskCfg i, 18, 16⟩
def Fd.trvTaskCfgEvent (i : Nat) : Fld := ⟨Reg.trvTaskCfg i, 15, 8⟩
def Fd.trvTaskCfgCore (i : Nat) : Fld := ⟨Reg.trvTaskCfg i, 2, 0⟩
/-- `TRV.TASK[n].ENTRY` (R173). -/
def Reg.trvTaskEntry (i : Nat) : Nat := 0x400B1004 + 0x20 * i
/-- `TRV.TASK[n].ARG` (R173). -/
def Reg.trvTaskArg (i : Nat) : Nat := 0x400B1008 + 0x20 * i
/-- `TRV.TASK[n].TIMING` (R173). -/
def Reg.trvTaskTiming (i : Nat) : Nat := 0x400B100C + 0x20 * i
/-- `TRV.TASK[n].BIND_RDG` (R173). -/
def Reg.trvTaskBindRdg (i : Nat) : Nat := 0x400B1010 + 0x20 * i
/-- `TRV.TASK[n].BIND_SWB_LO` (R173). -/
def Reg.trvTaskBindSwbLo (i : Nat) : Nat := 0x400B1014 + 0x20 * i
/-- `TRV.TASK[n].BIND_SWB_HI` (R173). -/
def Reg.trvTaskBindSwbHi (i : Nat) : Nat := 0x400B1018 + 0x20 * i
/-- `TRV.TASK[n].CERT` (R173). -/
def Reg.trvTaskCert (i : Nat) : Nat := 0x400B101C + 0x20 * i
/-- `TRV.TASK[n].STAT` (R173). -/
def Reg.trvTaskStat (i : Nat) : Nat := 0x400B3000 + 0x10 * i
def Fd.trvTaskStatMonFault (i : Nat) : Fld := ⟨Reg.trvTaskStat i, 7, 7⟩
def Fd.trvTaskStatReplacePending (i : Nat) : Fld := ⟨Reg.trvTaskStat i, 6, 6⟩
def Fd.trvTaskStatFaulted (i : Nat) : Fld := ⟨Reg.trvTaskStat i, 5, 5⟩
def Fd.trvTaskStatCatchup (i : Nat) : Fld := ⟨Reg.trvTaskStat i, 4, 4⟩
def Fd.trvTaskStatLate (i : Nat) : Fld := ⟨Reg.trvTaskStat i, 3, 3⟩
def Fd.trvTaskStatRunning (i : Nat) : Fld := ⟨Reg.trvTaskStat i, 2, 2⟩
def Fd.trvTaskStatPending (i : Nat) : Fld := ⟨Reg.trvTaskStat i, 1, 1⟩
def Fd.trvTaskStatLoaded (i : Nat) : Fld := ⟨Reg.trvTaskStat i, 0, 0⟩
/-- `TRV.TASK[n].MISS` (R173). -/
def Reg.trvTaskMiss (i : Nat) : Nat := 0x400B3004 + 0x10 * i
def Fd.trvTaskMissOvrSat (i : Nat) : Fld := ⟨Reg.trvTaskMiss i, 31, 31⟩
def Fd.trvTaskMissOverruns (i : Nat) : Fld := ⟨Reg.trvTaskMiss i, 30, 16⟩
def Fd.trvTaskMissMissSat (i : Nat) : Fld := ⟨Reg.trvTaskMiss i, 15, 15⟩
def Fd.trvTaskMissMisses (i : Nat) : Fld := ⟨Reg.trvTaskMiss i, 14, 0⟩
/-- `TRV.TASK[n].LAG` (R173). -/
def Reg.trvTaskLag (i : Nat) : Nat := 0x400B3008 + 0x10 * i
/-- `CIRQ.STATUS` (R199). -/
def Reg.cirqStatus : Nat := 0x40020000
def Fd.cirqStatusReturn : Fld := ⟨Reg.cirqStatus, 7, 7⟩
def Fd.cirqStatusNoReliefAny : Fld := ⟨Reg.cirqStatus, 6, 6⟩
def Fd.cirqStatusCalLateAny : Fld := ⟨Reg.cirqStatus, 5, 5⟩
def Fd.cirqStatusSingle : Fld := ⟨Reg.cirqStatus, 4, 4⟩
def Fd.cirqStatusDomBOk : Fld := ⟨Reg.cirqStatus, 1, 1⟩
def Fd.cirqStatusDomAOk : Fld := ⟨Reg.cirqStatus, 0, 0⟩
/-- `CIRQ.FLAGS` (R199). -/
def Reg.cirqFlags : Nat := 0x40020004
def Fd.cirqFlagsEnableRefused : Fld := ⟨Reg.cirqFlags, 9, 9⟩
def Fd.cirqFlagsPrdRefused : Fld := ⟨Reg.cirqFlags, 8, 8⟩
def Fd.cirqFlagsTrigRefused : Fld := ⟨Reg.cirqFlags, 7, 7⟩
def Fd.cirqFlagsDiagRefused : Fld := ⟨Reg.cirqFlags, 6, 6⟩
def Fd.cirqFlagsStepAbort : Fld := ⟨Reg.cirqFlags, 5, 5⟩
def Fd.cirqFlagsMatchFail : Fld := ⟨Reg.cirqFlags, 4, 4⟩
def Fd.cirqFlagsReliefLost : Fld := ⟨Reg.cirqFlags, 3, 3⟩
def Fd.cirqFlagsCalLate : Fld := ⟨Reg.cirqFlags, 2, 2⟩
def Fd.cirqFlagsDomainLoss : Fld := ⟨Reg.cirqFlags, 1, 1⟩
def Fd.cirqFlagsWriteWhileRunning : Fld := ⟨Reg.cirqFlags, 0, 0⟩
/-- `CIRQ.ROTOR_TIME` (R199). -/
def Reg.cirqRotorTime : Nat := 0x40020008
/-- `CIRQ.BANK[b].ROT_A` (R199). -/
def Reg.cirqBankRotA (i : Nat) : Nat := 0x40020100 + 0x40 * i
def Fd.cirqBankRotASwaps (i : Nat) : Fld := ⟨Reg.cirqBankRotA i, 31, 16⟩
def Fd.cirqBankRotASat (i : Nat) : Fld := ⟨Reg.cirqBankRotA i, 15, 15⟩
def Fd.cirqBankRotARelief (i : Nat) : Fld := ⟨Reg.cirqBankRotA i, 11, 8⟩
def Fd.cirqBankRotASlot (i : Nat) : Fld := ⟨Reg.cirqBankRotA i, 7, 4⟩
def Fd.cirqBankRotAState (i : Nat) : Fld := ⟨Reg.cirqBankRotA i, 2, 0⟩
/-- `CIRQ.BANK[b].ROT_B` (R199). -/
def Reg.cirqBankRotB (i : Nat) : Nat := 0x40020104 + 0x40 * i
def Fd.cirqBankRotBSwaps (i : Nat) : Fld := ⟨Reg.cirqBankRotB i, 31, 16⟩
def Fd.cirqBankRotBSat (i : Nat) : Fld := ⟨Reg.cirqBankRotB i, 15, 15⟩
def Fd.cirqBankRotBRelief (i : Nat) : Fld := ⟨Reg.cirqBankRotB i, 11, 8⟩
def Fd.cirqBankRotBSlot (i : Nat) : Fld := ⟨Reg.cirqBankRotB i, 7, 4⟩
def Fd.cirqBankRotBState (i : Nat) : Fld := ⟨Reg.cirqBankRotB i, 2, 0⟩
/-- `CIRQ.BANK[b].DIAG_CTRL` (R199). -/
def Reg.cirqBankDiagCtrl (i : Nat) : Nat := 0x40020108 + 0x40 * i
def Fd.cirqBankDiagCtrlReq (i : Nat) : Fld := ⟨Reg.cirqBankDiagCtrl i, 31, 31⟩
def Fd.cirqBankDiagCtrlInput (i : Nat) : Fld := ⟨Reg.cirqBankDiagCtrl i, 30, 28⟩
def Fd.cirqBankDiagCtrlCode (i : Nat) : Fld := ⟨Reg.cirqBankDiagCtrl i, 27, 16⟩
def Fd.cirqBankDiagCtrlLen (i : Nat) : Fld := ⟨Reg.cirqBankDiagCtrl i, 9, 0⟩
/-- `CIRQ.BANK[b].DIAG_STATUS` (R199). -/
def Reg.cirqBankDiagStatus (i : Nat) : Nat := 0x4002010C + 0x40 * i
def Fd.cirqBankDiagStatusRefuse (i : Nat) : Fld := ⟨Reg.cirqBankDiagStatus i, 7, 4⟩
def Fd.cirqBankDiagStatusState (i : Nat) : Fld := ⟨Reg.cirqBankDiagStatus i, 1, 0⟩
/-- `CIRQ.BANK[b].DIAG_MEAN` (R199). -/
def Reg.cirqBankDiagMean (i : Nat) : Nat := 0x40020110 + 0x40 * i
/-- `CIRQ.BANK[b].MATCH_CNT` (R199). -/
def Reg.cirqBankMatchCnt (i : Nat) : Nat := 0x40020114 + 0x40 * i
def Fd.cirqBankMatchCntSat (i : Nat) : Fld := ⟨Reg.cirqBankMatchCnt i, 31, 31⟩
def Fd.cirqBankMatchCntFailB (i : Nat) : Fld := ⟨Reg.cirqBankMatchCnt i, 15, 8⟩
def Fd.cirqBankMatchCntFailA (i : Nat) : Fld := ⟨Reg.cirqBankMatchCnt i, 7, 0⟩
/-- `CIRQ.IN[i].CFG` (R199). -/
def Reg.cirqInCfg (i : Nat) : Nat := 0x40021000 + 0x40 * i
def Fd.cirqInCfgGain (i : Nat) : Fld := ⟨Reg.cirqInCfg i, 2, 1⟩
def Fd.cirqInCfgEn (i : Nat) : Fld := ⟨Reg.cirqInCfg i, 0, 0⟩
/-- `CIRQ.IN[i].TRIG` (R199). -/
def Reg.cirqInTrig (i : Nat) : Nat := 0x40021004 + 0x40 * i
def Fd.cirqInTrigEn (i : Nat) : Fld := ⟨Reg.cirqInTrig i, 31, 31⟩
def Fd.cirqInTrigTb (i : Nat) : Fld := ⟨Reg.cirqInTrig i, 26, 24⟩
def Fd.cirqInTrigDelay (i : Nat) : Fld := ⟨Reg.cirqInTrig i, 19, 0⟩
/-- `CIRQ.IN[i].LAST` (R199). -/
def Reg.cirqInLast (i : Nat) : Nat := 0x40021008 + 0x40 * i
def Fd.cirqInLastNew (i : Nat) : Fld := ⟨Reg.cirqInLast i, 31, 31⟩
def Fd.cirqInLastOvr (i : Nat) : Fld := ⟨Reg.cirqInLast i, 30, 30⟩
def Fd.cirqInLastValid (i : Nat) : Fld := ⟨Reg.cirqInLast i, 29, 29⟩
def Fd.cirqInLastReason (i : Nat) : Fld := ⟨Reg.cirqInLast i, 28, 26⟩
def Fd.cirqInLastClip (i : Nat) : Fld := ⟨Reg.cirqInLast i, 25, 25⟩
def Fd.cirqInLastSeq (i : Nat) : Fld := ⟨Reg.cirqInLast i, 24, 18⟩
def Fd.cirqInLastValue (i : Nat) : Fld := ⟨Reg.cirqInLast i, 17, 0⟩
/-- `CIRQ.IN[i].STATUS` (R199). -/
def Reg.cirqInStatus (i : Nat) : Nat := 0x4002100C + 0x40 * i
def Fd.cirqInStatusCalAgeB (i : Nat) : Fld := ⟨Reg.cirqInStatus i, 31, 24⟩
def Fd.cirqInStatusCalAgeA (i : Nat) : Fld := ⟨Reg.cirqInStatus i, 23, 16⟩
def Fd.cirqInStatusConvB (i : Nat) : Fld := ⟨Reg.cirqInStatus i, 15, 12⟩
def Fd.cirqInStatusConvA (i : Nat) : Fld := ⟨Reg.cirqInStatus i, 11, 8⟩
def Fd.cirqInStatusCalLate (i : Nat) : Fld := ⟨Reg.cirqInStatus i, 7, 7⟩
def Fd.cirqInStatusRetired (i : Nat) : Fld := ⟨Reg.cirqInStatus i, 6, 6⟩
def Fd.cirqInStatusOnDiag (i : Nat) : Fld := ⟨Reg.cirqInStatus i, 5, 5⟩
def Fd.cirqInStatusReasonNow (i : Nat) : Fld := ⟨Reg.cirqInStatus i, 3, 1⟩
def Fd.cirqInStatusValidNow (i : Nat) : Fld := ⟨Reg.cirqInStatus i, 0, 0⟩
/-- `CIRQ.IN[i].OVR_COUNT` (R199). -/
def Reg.cirqInOvrCount (i : Nat) : Nat := 0x40021010 + 0x40 * i
def Fd.cirqInOvrCountSat (i : Nat) : Fld := ⟨Reg.cirqInOvrCount i, 31, 31⟩
def Fd.cirqInOvrCountCount (i : Nat) : Fld := ⟨Reg.cirqInOvrCount i, 15, 0⟩
/-- `CLN.STATUS` (R224). -/
def Reg.clnStatus : Nat := 0x40030000
def Fd.clnStatusBankRun : Fld := ⟨Reg.clnStatus, 21, 16⟩
def Fd.clnStatusRsgRun : Fld := ⟨Reg.clnStatus, 15, 8⟩
def Fd.clnStatusDegraded : Fld := ⟨Reg.clnStatus, 0, 0⟩
/-- `CLN.FLAGS` (R224). -/
def Reg.clnFlags : Nat := 0x40030004
def Fd.clnFlagsSat : Fld := ⟨Reg.clnFlags, 3, 3⟩
def Fd.clnFlagsRsRange : Fld := ⟨Reg.clnFlags, 2, 2⟩
def Fd.clnFlagsSlip : Fld := ⟨Reg.clnFlags, 1, 1⟩
def Fd.clnFlagsWriteWhileRunning : Fld := ⟨Reg.clnFlags, 0, 0⟩
/-- `CLN.SLIP_COUNT` (R224). -/
def Reg.clnSlipCount : Nat := 0x40030008
def Fd.clnSlipCountSat : Fld := ⟨Reg.clnSlipCount, 16, 16⟩
def Fd.clnSlipCountCount : Fld := ⟨Reg.clnSlipCount, 15, 0⟩
/-- `CLN.COEF_CRC[n]` (R224). -/
def Reg.clnCoefCrc (i : Nat) : Nat := 0x40030010 + 0x4 * i
/-- `CLN.RSG[g].CTRL` (R224). -/
def Reg.clnRsgCtrl (i : Nat) : Nat := 0x40030100 + 0x20 * i
def Fd.clnRsgCtrlRun (i : Nat) : Fld := ⟨Reg.clnRsgCtrl i, 0, 0⟩
/-- `CLN.RSG[g].CFG` (R224). -/
def Reg.clnRsgCfg (i : Nat) : Nat := 0x40030104 + 0x20 * i
def Fd.clnRsgCfgNcLog2 (i : Nat) : Fld := ⟨Reg.clnRsgCfg i, 11, 8⟩
def Fd.clnRsgCfgBank (i : Nat) : Fld := ⟨Reg.clnRsgCfg i, 5, 5⟩
def Fd.clnRsgCfgMode (i : Nat) : Fld := ⟨Reg.clnRsgCfg i, 4, 4⟩
def Fd.clnRsgCfgEngine (i : Nat) : Fld := ⟨Reg.clnRsgCfg i, 3, 1⟩
def Fd.clnRsgCfgSrc (i : Nat) : Fld := ⟨Reg.clnRsgCfg i, 0, 0⟩
/-- `CLN.RSG[g].INC_LO` (R224). -/
def Reg.clnRsgIncLo (i : Nat) : Nat := 0x40030108 + 0x20 * i
/-- `CLN.RSG[g].INC_HI` (R224). -/
def Reg.clnRsgIncHi (i : Nat) : Nat := 0x4003010C + 0x20 * i
/-- `CLN.RSG[g].RING_BASE` (R224). -/
def Reg.clnRsgRingBase (i : Nat) : Nat := 0x40030110 + 0x20 * i
/-- `CLN.RSG[g].RING_LEN` (R224). -/
def Reg.clnRsgRingLen (i : Nat) : Nat := 0x40030114 + 0x20 * i
/-- `CLN.RSG[g].WPTR` (R224). -/
def Reg.clnRsgWptr (i : Nat) : Nat := 0x40030118 + 0x20 * i
/-- `CLN.RSG[g].STATUS` (R224). -/
def Reg.clnRsgStatus (i : Nat) : Nat := 0x4003011C + 0x20 * i
def Fd.clnRsgStatusSeq (i : Nat) : Fld := ⟨Reg.clnRsgStatus i, 31, 16⟩
def Fd.clnRsgStatusMembers (i : Nat) : Fld := ⟨Reg.clnRsgStatus i, 13, 8⟩
def Fd.clnRsgStatusInRange (i : Nat) : Fld := ⟨Reg.clnRsgStatus i, 1, 1⟩
def Fd.clnRsgStatusRunning (i : Nat) : Fld := ⟨Reg.clnRsgStatus i, 0, 0⟩
/-- `CLN.HB1_A[n]` (R224). -/
def Reg.clnHb1A (i : Nat) : Nat := 0x40030800 + 0x4 * i
/-- `CLN.HB1_B[n]` (R224). -/
def Reg.clnHb1B (i : Nat) : Nat := 0x40030820 + 0x4 * i
/-- `CLN.HB2_A[n]` (R224). -/
def Reg.clnHb2A (i : Nat) : Nat := 0x40030840 + 0x4 * i
/-- `CLN.HB2_B[n]` (R224). -/
def Reg.clnHb2B (i : Nat) : Nat := 0x40030860 + 0x4 * i
/-- `CLN.IN[i].CTRL` (R224). -/
def Reg.clnInCtrl (i : Nat) : Nat := 0x40031000 + 0x20 * i
def Fd.clnInCtrlMeanRun (i : Nat) : Fld := ⟨Reg.clnInCtrl i, 1, 1⟩
def Fd.clnInCtrlFineRun (i : Nat) : Fld := ⟨Reg.clnInCtrl i, 0, 0⟩
/-- `CLN.IN[i].CFG` (R224). -/
def Reg.clnInCfg (i : Nat) : Nat := 0x40031004 + 0x20 * i
def Fd.clnInCfgRsg (i : Nat) : Fld := ⟨Reg.clnInCfg i, 14, 12⟩
def Fd.clnInCfgRsEn (i : Nat) : Fld := ⟨Reg.clnInCfg i, 8, 8⟩
def Fd.clnInCfgMeanTb (i : Nat) : Fld := ⟨Reg.clnInCfg i, 6, 4⟩
def Fd.clnInCfgHb2Bank (i : Nat) : Fld := ⟨Reg.clnInCfg i, 1, 1⟩
def Fd.clnInCfgHb1Bank (i : Nat) : Fld := ⟨Reg.clnInCfg i, 0, 0⟩
/-- `CLN.IN[i].STATUS` (R224). -/
def Reg.clnInStatus (i : Nat) : Nat := 0x40031008 + 0x20 * i
def Fd.clnInStatusMeanN (i : Nat) : Fld := ⟨Reg.clnInStatus i, 31, 16⟩
def Fd.clnInStatusFusedReason (i : Nat) : Fld := ⟨Reg.clnInStatus i, 10, 8⟩
def Fd.clnInStatusFusedFine (i : Nat) : Fld := ⟨Reg.clnInStatus i, 3, 3⟩
def Fd.clnInStatusMeanValid (i : Nat) : Fld := ⟨Reg.clnInStatus i, 2, 2⟩
def Fd.clnInStatusFineValid (i : Nat) : Fld := ⟨Reg.clnInStatus i, 1, 1⟩
def Fd.clnInStatusShValid (i : Nat) : Fld := ⟨Reg.clnInStatus i, 0, 0⟩
/-- `CLN.RS_A[n]` (R224). -/
def Reg.clnRsA (i : Nat) : Nat := 0x40038000 + 0x4 * i
/-- `CLN.RS_B[n]` (R224). -/
def Reg.clnRsB (i : Nat) : Nat := 0x4003C000 + 0x4 * i
/-- `RDG.STATUS` (R250). -/
def Reg.rdgStatus : Nat := 0x40090000
def Fd.rdgStatusRetired : Fld := ⟨Reg.rdgStatus, 23, 16⟩
def Fd.rdgStatusFault : Fld := ⟨Reg.rdgStatus, 15, 8⟩
def Fd.rdgStatusRunning : Fld := ⟨Reg.rdgStatus, 7, 0⟩
/-- `RDG.THROTTLE` (R250). -/
def Reg.rdgThrottle : Nat := 0x40090004
def Fd.rdgThrottleScale : Fld := ⟨Reg.rdgThrottle, 5, 0⟩
/-- `RDG.ENG[m].STATUS` (R250). -/
def Reg.rdgEngStatus (i : Nat) : Nat := 0x40091000 + 0x400 * i
def Fd.rdgEngStatusRefuse (i : Nat) : Fld := ⟨Reg.rdgEngStatus i, 19, 16⟩
def Fd.rdgEngStatusBsWait (i : Nat) : Fld := ⟨Reg.rdgEngStatus i, 13, 13⟩
def Fd.rdgEngStatusCairnOk (i : Nat) : Fld := ⟨Reg.rdgEngStatus i, 12, 12⟩
def Fd.rdgEngStatusTransfer (i : Nat) : Fld := ⟨Reg.rdgEngStatus i, 11, 11⟩
def Fd.rdgEngStatusRestoreHold (i : Nat) : Fld := ⟨Reg.rdgEngStatus i, 10, 10⟩
def Fd.rdgEngStatusHolding (i : Nat) : Fld := ⟨Reg.rdgEngStatus i, 9, 9⟩
def Fd.rdgEngStatusLimiting (i : Nat) : Fld := ⟨Reg.rdgEngStatus i, 8, 8⟩
def Fd.rdgEngStatusReturnMode (i : Nat) : Fld := ⟨Reg.rdgEngStatus i, 6, 4⟩
def Fd.rdgEngStatusMode (i : Nat) : Fld := ⟨Reg.rdgEngStatus i, 2, 0⟩
/-- `RDG.ENG[m].FLAGS` (R250). -/
def Reg.rdgEngFlags (i : Nat) : Nat := 0x40091004 + 0x400 * i
def Fd.rdgEngFlagsWriteWhileRunning (i : Nat) : Fld := ⟨Reg.rdgEngFlags i, 7, 7⟩
def Fd.rdgEngFlagsRestoreSat (i : Nat) : Fld := ⟨Reg.rdgEngFlags i, 6, 6⟩
def Fd.rdgEngFlagsFaultSeen (i : Nat) : Fld := ⟨Reg.rdgEngFlags i, 5, 5⟩
def Fd.rdgEngFlagsFreqClamp (i : Nat) : Fld := ⟨Reg.rdgEngFlags i, 4, 4⟩
def Fd.rdgEngFlagsStepMissed (i : Nat) : Fld := ⟨Reg.rdgEngFlags i, 3, 3⟩
def Fd.rdgEngFlagsStepTwice (i : Nat) : Fld := ⟨Reg.rdgEngFlags i, 2, 2⟩
def Fd.rdgEngFlagsRange (i : Nat) : Fld := ⟨Reg.rdgEngFlags i, 1, 1⟩
def Fd.rdgEngFlagsCmdRefused (i : Nat) : Fld := ⟨Reg.rdgEngFlags i, 0, 0⟩
/-- `RDG.ENG[m].MODE_CMD` (R250). -/
def Reg.rdgEngModeCmd (i : Nat) : Nat := 0x40091008 + 0x400 * i
def Fd.rdgEngModeCmdCmd (i : Nat) : Fld := ⟨Reg.rdgEngModeCmd i, 2, 0⟩
/-- `RDG.ENG[m].CFG` (R250). -/
def Reg.rdgEngCfg (i : Nat) : Nat := 0x4009100C + 0x400 * i
def Fd.rdgEngCfgFaultN (i : Nat) : Fld := ⟨Reg.rdgEngCfg i, 23, 16⟩
def Fd.rdgEngCfgNegEn (i : Nat) : Fld := ⟨Reg.rdgEngCfg i, 9, 9⟩
def Fd.rdgEngCfgThrEn (i : Nat) : Fld := ⟨Reg.rdgEngCfg i, 8, 8⟩
def Fd.rdgEngCfgPrio (i : Nat) : Fld := ⟨Reg.rdgEngCfg i, 5, 4⟩
def Fd.rdgEngCfgTb (i : Nat) : Fld := ⟨Reg.rdgEngCfg i, 2, 0⟩
/-- `RDG.ENG[m].L_TICKS` (R250). -/
def Reg.rdgEngLTicks (i : Nat) : Nat := 0x40091010 + 0x400 * i
/-- `RDG.ENG[m].HOLD` (R250). -/
def Reg.rdgEngHold (i : Nat) : Nat := 0x40091014 + 0x400 * i
/-- `RDG.ENG[m].COUNTS` (R250). -/
def Reg.rdgEngCounts (i : Nat) : Nat := 0x40091018 + 0x400 * i
def Fd.rdgEngCountsFaultSat (i : Nat) : Fld := ⟨Reg.rdgEngCounts i, 31, 31⟩
def Fd.rdgEngCountsFaults (i : Nat) : Fld := ⟨Reg.rdgEngCounts i, 30, 16⟩
def Fd.rdgEngCountsMissedSat (i : Nat) : Fld := ⟨Reg.rdgEngCounts i, 15, 15⟩
def Fd.rdgEngCountsMissed (i : Nat) : Fld := ⟨Reg.rdgEngCounts i, 14, 0⟩
/-- `RDG.ENG[m].VA` (R250). -/
def Reg.rdgEngVa (i : Nat) : Nat := 0x40091040 + 0x400 * i
/-- `RDG.ENG[m].VB` (R250). -/
def Reg.rdgEngVb (i : Nat) : Nat := 0x40091044 + 0x400 * i
/-- `RDG.ENG[m].VC` (R250). -/
def Reg.rdgEngVc (i : Nat) : Nat := 0x40091048 + 0x400 * i
/-- `RDG.ENG[m].IA` (R250). -/
def Reg.rdgEngIa (i : Nat) : Nat := 0x4009104C + 0x400 * i
/-- `RDG.ENG[m].IB` (R250). -/
def Reg.rdgEngIb (i : Nat) : Nat := 0x40091050 + 0x400 * i
/-- `RDG.ENG[m].IC` (R250). -/
def Reg.rdgEngIc (i : Nat) : Nat := 0x40091054 + 0x400 * i
/-- `RDG.ENG[m].P0` (R250). -/
def Reg.rdgEngP0 (i : Nat) : Nat := 0x40091060 + 0x400 * i
/-- `RDG.ENG[m].Q0` (R250). -/
def Reg.rdgEngQ0 (i : Nat) : Nat := 0x40091064 + 0x400 * i
/-- `RDG.ENG[m].E0` (R250). -/
def Reg.rdgEngE0 (i : Nat) : Nat := 0x40091068 + 0x400 * i
/-- `RDG.ENG[m].W_SET` (R250). -/
def Reg.rdgEngWSet (i : Nat) : Nat := 0x4009106C + 0x400 * i
/-- `RDG.ENG[m].H` (R250). -/
def Reg.rdgEngH (i : Nat) : Nat := 0x40091080 + 0x400 * i
/-- `RDG.ENG[m].D` (R250). -/
def Reg.rdgEngD (i : Nat) : Nat := 0x40091084 + 0x400 * i
/-- `RDG.ENG[m].KPF` (R250). -/
def Reg.rdgEngKpf (i : Nat) : Nat := 0x40091088 + 0x400 * i
/-- `RDG.ENG[m].KQV` (R250). -/
def Reg.rdgEngKqv (i : Nat) : Nat := 0x4009108C + 0x400 * i
/-- `RDG.ENG[m].RV` (R250). -/
def Reg.rdgEngRv (i : Nat) : Nat := 0x40091090 + 0x400 * i
/-- `RDG.ENG[m].XV` (R250). -/
def Reg.rdgEngXv (i : Nat) : Nat := 0x40091094 + 0x400 * i
/-- `RDG.ENG[m].E_MAX` (R250). -/
def Reg.rdgEngEMax (i : Nat) : Nat := 0x40091098 + 0x400 * i
/-- `RDG.ENG[m].I_MAX` (R250). -/
def Reg.rdgEngIMax (i : Nat) : Nat := 0x4009109C + 0x400 * i
/-- `RDG.ENG[m].I_MAX_FAULT` (R250). -/
def Reg.rdgEngIMaxFault (i : Nat) : Nat := 0x400910A0 + 0x400 * i
/-- `RDG.ENG[m].NEG_GAIN` (R250). -/
def Reg.rdgEngNegGain (i : Nat) : Nat := 0x400910A4 + 0x400 * i
/-- `RDG.ENG[m].NEG_SHARE` (R250). -/
def Reg.rdgEngNegShare (i : Nat) : Nat := 0x400910A8 + 0x400 * i
/-- `RDG.ENG[m].SEQ_FC` (R250). -/
def Reg.rdgEngSeqFc (i : Nat) : Nat := 0x400910AC + 0x400 * i
/-- `RDG.ENG[m].PQ_FC` (R250). -/
def Reg.rdgEngPqFc (i : Nat) : Nat := 0x400910B0 + 0x400 * i
/-- `RDG.ENG[m].V_FAULT_IN` (R250). -/
def Reg.rdgEngVFaultIn (i : Nat) : Nat := 0x400910B4 + 0x400 * i
/-- `RDG.ENG[m].V_FAULT_OUT` (R250). -/
def Reg.rdgEngVFaultOut (i : Nat) : Nat := 0x400910B8 + 0x400 * i
/-- `RDG.ENG[m].DW_FAULT` (R250). -/
def Reg.rdgEngDwFault (i : Nat) : Nat := 0x400910BC + 0x400 * i
/-- `RDG.ENG[m].FAULT_GAIN` (R250). -/
def Reg.rdgEngFaultGain (i : Nat) : Nat := 0x400910C0 + 0x400 * i
/-- `RDG.ENG[m].RECOVER_CYC` (R250). -/
def Reg.rdgEngRecoverCyc (i : Nat) : Nat := 0x400910C4 + 0x400 * i
/-- `RDG.ENG[m].XV_REC` (R250). -/
def Reg.rdgEngXvRec (i : Nat) : Nat := 0x400910C8 + 0x400 * i
/-- `RDG.ENG[m].TRANSFER_T` (R250). -/
def Reg.rdgEngTransferT (i : Nat) : Nat := 0x400910CC + 0x400 * i
/-- `RDG.ENG[m].KR` (R250). -/
def Reg.rdgEngKr (i : Nat) : Nat := 0x400910D0 + 0x400 * i
/-- `RDG.ENG[m].RESTORE_MAX` (R250). -/
def Reg.rdgEngRestoreMax (i : Nat) : Nat := 0x400910D4 + 0x400 * i
/-- `RDG.ENG[m].RESTORE_RATE` (R250). -/
def Reg.rdgEngRestoreRate (i : Nat) : Nat := 0x400910D8 + 0x400 * i
/-- `RDG.ENG[m].PHI_ANCHOR` (R250). -/
def Reg.rdgEngPhiAnchor (i : Nat) : Nat := 0x400910DC + 0x400 * i
/-- `RDG.ENG[m].BS_TIME` (R250). -/
def Reg.rdgEngBsTime (i : Nat) : Nat := 0x400910E0 + 0x400 * i
/-- `RDG.ENG[m].BS_START_S` (R250). -/
def Reg.rdgEngBsStartS (i : Nat) : Nat := 0x400910E4 + 0x400 * i
/-- `RDG.ENG[m].BS_DEAD` (R250). -/
def Reg.rdgEngBsDead (i : Nat) : Nat := 0x400910E8 + 0x400 * i
/-- `RDG.ENG[m].KP_PLL` (R250). -/
def Reg.rdgEngKpPll (i : Nat) : Nat := 0x400910EC + 0x400 * i
/-- `RDG.ENG[m].KI_PLL` (R250). -/
def Reg.rdgEngKiPll (i : Nat) : Nat := 0x400910F0 + 0x400 * i
/-- `RDG.ENG[m].S_BASE` (R250). -/
def Reg.rdgEngSBase (i : Nat) : Nat := 0x400910F4 + 0x400 * i
/-- `RDG.ENG[m].V_BASE` (R250). -/
def Reg.rdgEngVBase (i : Nat) : Nat := 0x400910F8 + 0x400 * i
/-- `RDG.ENG[m].F_NOM` (R250). -/
def Reg.rdgEngFNom (i : Nat) : Nat := 0x400910FC + 0x400 * i
/-- `RDG.ENG[m].ID_REF` (R250). -/
def Reg.rdgEngIdRef (i : Nat) : Nat := 0x40091100 + 0x400 * i
/-- `RDG.ENG[m].IQ_REF` (R250). -/
def Reg.rdgEngIqRef (i : Nat) : Nat := 0x40091104 + 0x400 * i
/-- `RDG.ENG[m].VD_REF` (R250). -/
def Reg.rdgEngVdRef (i : Nat) : Nat := 0x40091108 + 0x400 * i
/-- `RDG.ENG[m].VQ_REF` (R250). -/
def Reg.rdgEngVqRef (i : Nat) : Nat := 0x4009110C + 0x400 * i
/-- `RDG.ENG[m].THETA_S_LO` (R250). -/
def Reg.rdgEngThetaSLo (i : Nat) : Nat := 0x40091110 + 0x400 * i
/-- `RDG.ENG[m].THETA_S_HI` (R250). -/
def Reg.rdgEngThetaSHi (i : Nat) : Nat := 0x40091114 + 0x400 * i
/-- `RDG.ENG[m].THETA_A_LO` (R250). -/
def Reg.rdgEngThetaALo (i : Nat) : Nat := 0x40091118 + 0x400 * i
/-- `RDG.ENG[m].THETA_A_HI` (R250). -/
def Reg.rdgEngThetaAHi (i : Nat) : Nat := 0x4009111C + 0x400 * i
/-- `RDG.ENG[m].FREQ` (R250). -/
def Reg.rdgEngFreq (i : Nat) : Nat := 0x40091120 + 0x400 * i
/-- `RDG.ENG[m].P` (R250). -/
def Reg.rdgEngP (i : Nat) : Nat := 0x40091124 + 0x400 * i
/-- `RDG.ENG[m].Q` (R250). -/
def Reg.rdgEngQ (i : Nat) : Nat := 0x40091128 + 0x400 * i
/-- `RDG.ENG[m].V1` (R250). -/
def Reg.rdgEngV1 (i : Nat) : Nat := 0x4009112C + 0x400 * i
/-- `RDG.ENG[m].V2` (R250). -/
def Reg.rdgEngV2 (i : Nat) : Nat := 0x40091130 + 0x400 * i
/-- `RDG.ENG[m].DELTA` (R250). -/
def Reg.rdgEngDelta (i : Nat) : Nat := 0x40091134 + 0x400 * i
/-- `RDG.ENG[m].E` (R250). -/
def Reg.rdgEngE (i : Nat) : Nat := 0x40091138 + 0x400 * i
/-- `RDG.ENG[m].ILIM` (R250). -/
def Reg.rdgEngIlim (i : Nat) : Nat := 0x4009113C + 0x400 * i
/-- `RDG.ENG[m].DW_R` (R250). -/
def Reg.rdgEngDwR (i : Nat) : Nat := 0x40091140 + 0x400 * i
/-- `RDG.ENG[m].E_CAIRN` (R250). -/
def Reg.rdgEngECairn (i : Nat) : Nat := 0x40091144 + 0x400 * i
/-- `RDG.ENG[m].INC_LO` (R250). -/
def Reg.rdgEngIncLo (i : Nat) : Nat := 0x40091148 + 0x400 * i
/-- `RDG.ENG[m].INC_HI` (R250). -/
def Reg.rdgEngIncHi (i : Nat) : Nat := 0x4009114C + 0x400 * i
/-- `RDG.ENG[m].KEEPER_SET_LO` (R250). -/
def Reg.rdgEngKeeperSetLo (i : Nat) : Nat := 0x40091180 + 0x400 * i
/-- `RDG.ENG[m].KEEPER_SET_HI` (R250). -/
def Reg.rdgEngKeeperSetHi (i : Nat) : Nat := 0x40091184 + 0x400 * i
/-- `RDG.ENG[m].STATE[k]` (R250). -/
def Reg.rdgEngState (i j : Nat) : Nat := 0x40091200 + 0x400 * i + 0x4 * j
/-- `SWB.RUN_LO` (R269). -/
def Reg.swbRunLo : Nat := 0x400A0000
/-- `SWB.RUN_HI` (R269). -/
def Reg.swbRunHi : Nat := 0x400A0004
/-- `SWB.TRIP_LO` (R269). -/
def Reg.swbTripLo : Nat := 0x400A0008
/-- `SWB.TRIP_HI` (R269). -/
def Reg.swbTripHi : Nat := 0x400A000C
/-- `SWB.FLAGS` (R269). -/
def Reg.swbFlags : Nat := 0x400A0010
def Fd.swbFlagsWriteWhileRunning : Fld := ⟨Reg.swbFlags, 1, 1⟩
def Fd.swbFlagsTestRefused : Fld := ⟨Reg.swbFlags, 0, 0⟩
/-- `SWB.TG[g].CTRL` (R269). -/
def Reg.swbTgCtrl (i : Nat) : Nat := 0x400A0100 + 0x40 * i
def Fd.swbTgCtrlRun (i : Nat) : Fld := ⟨Reg.swbTgCtrl i, 0, 0⟩
/-- `SWB.TG[g].CFG` (R269). -/
def Reg.swbTgCfg (i : Nat) : Nat := 0x400A0104 + 0x40 * i
def Fd.swbTgCfgChip (i : Nat) : Fld := ⟨Reg.swbTgCfg i, 31, 24⟩
def Fd.swbTgCfgPrbsN (i : Nat) : Fld := ⟨Reg.swbTgCfg i, 23, 20⟩
def Fd.swbTgCfgSupvHold (i : Nat) : Fld := ⟨Reg.swbTgCfg i, 16, 16⟩
def Fd.swbTgCfgPoint (i : Nat) : Fld := ⟨Reg.swbTgCfg i, 12, 12⟩
def Fd.swbTgCfgWave (i : Nat) : Fld := ⟨Reg.swbTgCfg i, 9, 8⟩
def Fd.swbTgCfgLoop (i : Nat) : Fld := ⟨Reg.swbTgCfg i, 5, 0⟩
/-- `SWB.TG[g].AMP` (R269). -/
def Reg.swbTgAmp (i : Nat) : Nat := 0x400A0108 + 0x40 * i
/-- `SWB.TG[g].PINC` (R269). -/
def Reg.swbTgPinc (i : Nat) : Nat := 0x400A010C + 0x40 * i
/-- `SWB.TG[g].DINC` (R269). -/
def Reg.swbTgDinc (i : Nat) : Nat := 0x400A0110 + 0x40 * i
/-- `SWB.TG[g].WIN` (R269). -/
def Reg.swbTgWin (i : Nat) : Nat := 0x400A0114 + 0x40 * i
/-- `SWB.TG[g].STATUS` (R269). -/
def Reg.swbTgStatus (i : Nat) : Nat := 0x400A0118 + 0x40 * i
def Fd.swbTgStatusRefuse (i : Nat) : Fld := ⟨Reg.swbTgStatus i, 11, 8⟩
def Fd.swbTgStatusAbort (i : Nat) : Fld := ⟨Reg.swbTgStatus i, 6, 4⟩
def Fd.swbTgStatusAborted (i : Nat) : Fld := ⟨Reg.swbTgStatus i, 2, 2⟩
def Fd.swbTgStatusDone (i : Nat) : Fld := ⟨Reg.swbTgStatus i, 1, 1⟩
def Fd.swbTgStatusRunning (i : Nat) : Fld := ⟨Reg.swbTgStatus i, 0, 0⟩
/-- `SWB.TG[g].COUNT` (R269). -/
def Reg.swbTgCount (i : Nat) : Nat := 0x400A011C + 0x40 * i
/-- `SWB.TG[g].RES_MI` (R269). -/
def Reg.swbTgResMi (i : Nat) : Nat := 0x400A0120 + 0x40 * i
/-- `SWB.TG[g].RES_MQ` (R269). -/
def Reg.swbTgResMq (i : Nat) : Nat := 0x400A0124 + 0x40 * i
/-- `SWB.TG[g].RES_AI` (R269). -/
def Reg.swbTgResAi (i : Nat) : Nat := 0x400A0128 + 0x40 * i
/-- `SWB.TG[g].RES_AQ` (R269). -/
def Reg.swbTgResAq (i : Nat) : Nat := 0x400A012C + 0x40 * i
/-- `SWB.TG[g].RING_BASE` (R269). -/
def Reg.swbTgRingBase (i : Nat) : Nat := 0x400A0130 + 0x40 * i
/-- `SWB.TG[g].RING_LEN` (R269). -/
def Reg.swbTgRingLen (i : Nat) : Nat := 0x400A0134 + 0x40 * i
/-- `SWB.TG[g].WPTR` (R269). -/
def Reg.swbTgWptr (i : Nat) : Nat := 0x400A0138 + 0x40 * i
/-- `SWB.LOOP[m].STATUS` (R269). -/
def Reg.swbLoopStatus (i : Nat) : Nat := 0x400A1000 + 0x100 * i
def Fd.swbLoopStatusRefuse (i : Nat) : Fld := ⟨Reg.swbLoopStatus i, 19, 16⟩
def Fd.swbLoopStatusTest (i : Nat) : Fld := ⟨Reg.swbLoopStatus i, 11, 11⟩
def Fd.swbLoopStatusHolding (i : Nat) : Fld := ⟨Reg.swbLoopStatus i, 10, 10⟩
def Fd.swbLoopStatusQueueBank (i : Nat) : Fld := ⟨Reg.swbLoopStatus i, 9, 9⟩
def Fd.swbLoopStatusQueued (i : Nat) : Fld := ⟨Reg.swbLoopStatus i, 8, 8⟩
def Fd.swbLoopStatusBank (i : Nat) : Fld := ⟨Reg.swbLoopStatus i, 7, 7⟩
def Fd.swbLoopStatusFading (i : Nat) : Fld := ⟨Reg.swbLoopStatus i, 6, 6⟩
def Fd.swbLoopStatusHalted (i : Nat) : Fld := ⟨Reg.swbLoopStatus i, 5, 5⟩
def Fd.swbLoopStatusTripped (i : Nat) : Fld := ⟨Reg.swbLoopStatus i, 4, 4⟩
def Fd.swbLoopStatusSat (i : Nat) : Fld := ⟨Reg.swbLoopStatus i, 3, 3⟩
def Fd.swbLoopStatusRateLimited (i : Nat) : Fld := ⟨Reg.swbLoopStatus i, 2, 2⟩
def Fd.swbLoopStatusState (i : Nat) : Fld := ⟨Reg.swbLoopStatus i, 0, 0⟩
/-- `SWB.LOOP[m].FLAGS` (R269). -/
def Reg.swbLoopFlags (i : Nat) : Nat := 0x400A1004 + 0x100 * i
def Fd.swbLoopFlagsWriteWhileRunning (i : Nat) : Fld := ⟨Reg.swbLoopFlags i, 8, 8⟩
def Fd.swbLoopFlagsQueueReplaced (i : Nat) : Fld := ⟨Reg.swbLoopFlags i, 7, 7⟩
def Fd.swbLoopFlagsClearRefused (i : Nat) : Fld := ⟨Reg.swbLoopFlags i, 6, 6⟩
def Fd.swbLoopFlagsSupvTrip (i : Nat) : Fld := ⟨Reg.swbLoopFlags i, 5, 5⟩
def Fd.swbLoopFlagsRateLimited (i : Nat) : Fld := ⟨Reg.swbLoopFlags i, 4, 4⟩
def Fd.swbLoopFlagsStepTwice (i : Nat) : Fld := ⟨Reg.swbLoopFlags i, 3, 3⟩
def Fd.swbLoopFlagsStepMissed (i : Nat) : Fld := ⟨Reg.swbLoopFlags i, 2, 2⟩
def Fd.swbLoopFlagsRange (i : Nat) : Fld := ⟨Reg.swbLoopFlags i, 1, 1⟩
def Fd.swbLoopFlagsCmdRefused (i : Nat) : Fld := ⟨Reg.swbLoopFlags i, 0, 0⟩
/-- `SWB.LOOP[m].CMD` (R269). -/
def Reg.swbLoopCmd (i : Nat) : Nat := 0x400A1008 + 0x100 * i
/-- `SWB.LOOP[m].CFG` (R269). -/
def Reg.swbLoopCfg (i : Nat) : Nat := 0x400A100C + 0x100 * i
def Fd.swbLoopCfgAction (i : Nat) : Fld := ⟨Reg.swbLoopCfg i, 13, 12⟩
def Fd.swbLoopCfgSupv (i : Nat) : Fld := ⟨Reg.swbLoopCfg i, 9, 8⟩
def Fd.swbLoopCfgShapeEn (i : Nat) : Fld := ⟨Reg.swbLoopCfg i, 4, 4⟩
def Fd.swbLoopCfgTb (i : Nat) : Fld := ⟨Reg.swbLoopCfg i, 2, 0⟩
/-- `SWB.LOOP[m].HOLD` (R269). -/
def Reg.swbLoopHold (i : Nat) : Nat := 0x400A1010 + 0x100 * i
/-- `SWB.LOOP[m].BANK_REQ` (R269). -/
def Reg.swbLoopBankReq (i : Nat) : Nat := 0x400A1014 + 0x100 * i
/-- `SWB.LOOP[m].XFADE_N` (R269). -/
def Reg.swbLoopXfadeN (i : Nat) : Nat := 0x400A1018 + 0x100 * i
/-- `SWB.LOOP[m].COUNTS` (R269). -/
def Reg.swbLoopCounts (i : Nat) : Nat := 0x400A101C + 0x100 * i
def Fd.swbLoopCountsTripSat (i : Nat) : Fld := ⟨Reg.swbLoopCounts i, 31, 31⟩
def Fd.swbLoopCountsTrips (i : Nat) : Fld := ⟨Reg.swbLoopCounts i, 30, 16⟩
def Fd.swbLoopCountsMissedSat (i : Nat) : Fld := ⟨Reg.swbLoopCounts i, 15, 15⟩
def Fd.swbLoopCountsMissed (i : Nat) : Fld := ⟨Reg.swbLoopCounts i, 14, 0⟩
/-- `SWB.LOOP[m].TARGET` (R269). -/
def Reg.swbLoopTarget (i : Nat) : Nat := 0x400A1020 + 0x100 * i
/-- `SWB.LOOP[m].MEAS` (R269). -/
def Reg.swbLoopMeas (i : Nat) : Nat := 0x400A1024 + 0x100 * i
/-- `SWB.LOOP[m].FF` (R269). -/
def Reg.swbLoopFf (i : Nat) : Nat := 0x400A1028 + 0x100 * i
/-- `SWB.LOOP[m].AUX` (R269). -/
def Reg.swbLoopAux (i : Nat) : Nat := 0x400A102C + 0x100 * i
/-- `SWB.LOOP[m].PRESET` (R269). -/
def Reg.swbLoopPreset (i : Nat) : Nat := 0x400A1030 + 0x100 * i
/-- `SWB.LOOP[m].RMAX` (R269). -/
def Reg.swbLoopRmax (i : Nat) : Nat := 0x400A1034 + 0x100 * i
/-- `SWB.LOOP[m].AMAX` (R269). -/
def Reg.swbLoopAmax (i : Nat) : Nat := 0x400A1038 + 0x100 * i
/-- `SWB.LOOP[m].OUT_MIN` (R269). -/
def Reg.swbLoopOutMin (i : Nat) : Nat := 0x400A103C + 0x100 * i
/-- `SWB.LOOP[m].OUT_MAX` (R269). -/
def Reg.swbLoopOutMax (i : Nat) : Nat := 0x400A1040 + 0x100 * i
/-- `SWB.LOOP[m].FE_LIMIT` (R269). -/
def Reg.swbLoopFeLimit (i : Nat) : Nat := 0x400A1044 + 0x100 * i
/-- `SWB.LOOP[m].SUPV_N` (R269). -/
def Reg.swbLoopSupvN (i : Nat) : Nat := 0x400A1048 + 0x100 * i
/-- `SWB.LOOP[m].KP_A` (R269). -/
def Reg.swbLoopKpA (i : Nat) : Nat := 0x400A1050 + 0x100 * i
/-- `SWB.LOOP[m].KI_A` (R269). -/
def Reg.swbLoopKiA (i : Nat) : Nat := 0x400A1054 + 0x100 * i
/-- `SWB.LOOP[m].KV_A` (R269). -/
def Reg.swbLoopKvA (i : Nat) : Nat := 0x400A1058 + 0x100 * i
/-- `SWB.LOOP[m].KP_B` (R269). -/
def Reg.swbLoopKpB (i : Nat) : Nat := 0x400A1060 + 0x100 * i
/-- `SWB.LOOP[m].KI_B` (R269). -/
def Reg.swbLoopKiB (i : Nat) : Nat := 0x400A1064 + 0x100 * i
/-- `SWB.LOOP[m].KV_B` (R269). -/
def Reg.swbLoopKvB (i : Nat) : Nat := 0x400A1068 + 0x100 * i
/-- `SWB.LOOP[m].REF` (R269). -/
def Reg.swbLoopRef (i : Nat) : Nat := 0x400A1080 + 0x100 * i
/-- `SWB.LOOP[m].RATE` (R269). -/
def Reg.swbLoopRate (i : Nat) : Nat := 0x400A1084 + 0x100 * i
/-- `SWB.LOOP[m].OUT` (R269). -/
def Reg.swbLoopOut (i : Nat) : Nat := 0x400A1088 + 0x100 * i
/-- `SWB.LOOP[m].ERR` (R269). -/
def Reg.swbLoopErr (i : Nat) : Nat := 0x400A108C + 0x100 * i
/-- `SWB.LOOP[m].INT` (R269). -/
def Reg.swbLoopInt (i : Nat) : Nat := 0x400A1090 + 0x100 * i
/-- `SWB.LOOP[m].INJ` (R269). -/
def Reg.swbLoopInj (i : Nat) : Nat := 0x400A1094 + 0x100 * i
/-- `SWB.LOOP[m].LAMBDA` (R269). -/
def Reg.swbLoopLambda (i : Nat) : Nat := 0x400A1098 + 0x100 * i
/-- `SWB.LOOP[m].SUPV_CNT` (R269). -/
def Reg.swbLoopSupvCnt (i : Nat) : Nat := 0x400A109C + 0x100 * i
/-- `PWM.STATUS` (R298). -/
def Reg.pwmStatus : Nat := 0x40050000
def Fd.pwmStatusDlFallbackAny : Fld := ⟨Reg.pwmStatus, 17, 17⟩
def Fd.pwmStatusInhibit : Fld := ⟨Reg.pwmStatus, 16, 16⟩
def Fd.pwmStatusLocked : Fld := ⟨Reg.pwmStatus, 15, 8⟩
def Fd.pwmStatusRun : Fld := ⟨Reg.pwmStatus, 7, 0⟩
/-- `PWM.FLAGS` (R298). -/
def Reg.pwmFlags : Nat := 0x40050004
def Fd.pwmFlagsStartRefused : Fld := ⟨Reg.pwmFlags, 9, 9⟩
def Fd.pwmFlagsAlignLate : Fld := ⟨Reg.pwmFlags, 8, 8⟩
def Fd.pwmFlagsDlFail : Fld := ⟨Reg.pwmFlags, 7, 7⟩
def Fd.pwmFlagsCmpClamp : Fld := ⟨Reg.pwmFlags, 6, 6⟩
def Fd.pwmFlagsPairRefused : Fld := ⟨Reg.pwmFlags, 5, 5⟩
def Fd.pwmFlagsDtRefused : Fld := ⟨Reg.pwmFlags, 4, 4⟩
def Fd.pwmFlagsPrdRange : Fld := ⟨Reg.pwmFlags, 3, 3⟩
def Fd.pwmFlagsLateDropped : Fld := ⟨Reg.pwmFlags, 2, 2⟩
def Fd.pwmFlagsLateWrite : Fld := ⟨Reg.pwmFlags, 1, 1⟩
def Fd.pwmFlagsWriteWhileRunning : Fld := ⟨Reg.pwmFlags, 0, 0⟩
/-- `PWM.TB_CMD` (R298). -/
def Reg.pwmTbCmd : Nat := 0x40050008
def Fd.pwmTbCmdStop : Fld := ⟨Reg.pwmTbCmd, 15, 8⟩
def Fd.pwmTbCmdStart : Fld := ⟨Reg.pwmTbCmd, 7, 0⟩
/-- `PWM.LATE_COUNT` (R298). -/
def Reg.pwmLateCount : Nat := 0x4005000C
def Fd.pwmLateCountCount : Fld := ⟨Reg.pwmLateCount, 15, 0⟩
def Fd.pwmLateCountSat : Fld := ⟨Reg.pwmLateCount, 16, 16⟩
/-- `PWM.TB[n].PRD` (R298). -/
def Reg.pwmTbPrd (i : Nat) : Nat := 0x40050100 + 0x20 * i
def Fd.pwmTbPrdPrd (i : Nat) : Fld := ⟨Reg.pwmTbPrd i, 19, 0⟩
/-- `PWM.TB[n].COUNT` (R298). -/
def Reg.pwmTbCount (i : Nat) : Nat := 0x40050104 + 0x20 * i
/-- `PWM.TB[n].STATUS` (R298). -/
def Reg.pwmTbStatus (i : Nat) : Nat := 0x40050108 + 0x20 * i
def Fd.pwmTbStatusRetired (i : Nat) : Fld := ⟨Reg.pwmTbStatus i, 4, 4⟩
def Fd.pwmTbStatusBlocked (i : Nat) : Fld := ⟨Reg.pwmTbStatus i, 3, 3⟩
def Fd.pwmTbStatusLocked (i : Nat) : Fld := ⟨Reg.pwmTbStatus i, 2, 2⟩
def Fd.pwmTbStatusArmed (i : Nat) : Fld := ⟨Reg.pwmTbStatus i, 1, 1⟩
def Fd.pwmTbStatusRun (i : Nat) : Fld := ⟨Reg.pwmTbStatus i, 0, 0⟩
/-- `PWM.TB[n].ALIGN` (R298). -/
def Reg.pwmTbAlign (i : Nat) : Nat := 0x4005010C + 0x20 * i
def Fd.pwmTbAlignTrack (i : Nat) : Fld := ⟨Reg.pwmTbAlign i, 1, 1⟩
def Fd.pwmTbAlignStartAt (i : Nat) : Fld := ⟨Reg.pwmTbAlign i, 0, 0⟩
/-- `PWM.TB[n].ALIGN_S` (R298). -/
def Reg.pwmTbAlignS (i : Nat) : Nat := 0x40050110 + 0x20 * i
/-- `PWM.TB[n].ALIGN_NS` (R298). -/
def Reg.pwmTbAlignNs (i : Nat) : Nat := 0x40050114 + 0x20 * i
/-- `PWM.TB[n].CAIRN_ERR` (R298). -/
def Reg.pwmTbCairnErr (i : Nat) : Nat := 0x40050118 + 0x20 * i
/-- `PWM.TB[n].CORR_COUNT` (R298). -/
def Reg.pwmTbCorrCount (i : Nat) : Nat := 0x4005011C + 0x20 * i
def Fd.pwmTbCorrCountCount (i : Nat) : Fld := ⟨Reg.pwmTbCorrCount i, 15, 0⟩
def Fd.pwmTbCorrCountSat (i : Nat) : Fld := ⟨Reg.pwmTbCorrCount i, 16, 16⟩
/-- `PWM.PAIR[p].CFG` (R298). -/
def Reg.pwmPairCfg (i : Nat) : Nat := 0x40050200 + 0x10 * i
def Fd.pwmPairCfgEn (i : Nat) : Fld := ⟨Reg.pwmPairCfg i, 0, 0⟩
/-- `PWM.PAIR[p].DT` (R298). -/
def Reg.pwmPairDt (i : Nat) : Nat := 0x40050204 + 0x10 * i
/-- `PWM.PAIR[p].MINPW` (R298). -/
def Reg.pwmPairMinpw (i : Nat) : Nat := 0x40050208 + 0x10 * i
/-- `PWM.PAIR[p].STATUS` (R298). -/
def Reg.pwmPairStatus (i : Nat) : Nat := 0x4005020C + 0x10 * i
def Fd.pwmPairStatusDlFallback (i : Nat) : Fld := ⟨Reg.pwmPairStatus i, 7, 7⟩
def Fd.pwmPairStatusRetired (i : Nat) : Fld := ⟨Reg.pwmPairStatus i, 6, 6⟩
def Fd.pwmPairStatusTripAct (i : Nat) : Fld := ⟨Reg.pwmPairStatus i, 5, 4⟩
def Fd.pwmPairStatusTripped (i : Nat) : Fld := ⟨Reg.pwmPairStatus i, 3, 3⟩
def Fd.pwmPairStatusDropHi (i : Nat) : Fld := ⟨Reg.pwmPairStatus i, 2, 2⟩
def Fd.pwmPairStatusDropLo (i : Nat) : Fld := ⟨Reg.pwmPairStatus i, 1, 1⟩
def Fd.pwmPairStatusActive (i : Nat) : Fld := ⟨Reg.pwmPairStatus i, 0, 0⟩
/-- `PWM.CMP[c]` (R298). -/
def Reg.pwmCmp (i : Nat) : Nat := 0x40050400 + 0x4 * i
/-- `PWM.COMMIT` (R298). -/
def Reg.pwmCommit : Nat := 0x40050480
/-- `PWM.CH[c].CFG` (R298). -/
def Reg.pwmChCfg (i : Nat) : Nat := 0x40050500 + 0x4 * i
def Fd.pwmChCfgPair (i : Nat) : Fld := ⟨Reg.pwmChCfg i, 12, 8⟩
def Fd.pwmChCfgFrac (i : Nat) : Fld := ⟨Reg.pwmChCfg i, 2, 2⟩
def Fd.pwmChCfgMode (i : Nat) : Fld := ⟨Reg.pwmChCfg i, 1, 0⟩
/-- `PWM.ACT[c]` (R298). -/
def Reg.pwmAct (i : Nat) : Nat := 0x40050580 + 0x4 * i
/-- `PWM.GRP[g].CFG` (R298). -/
def Reg.pwmGrpCfg (i : Nat) : Nat := 0x40050600 + 0x4 * i
def Fd.pwmGrpCfgTb (i : Nat) : Fld := ⟨Reg.pwmGrpCfg i, 2, 0⟩
def Fd.pwmGrpCfgStage (i : Nat) : Fld := ⟨Reg.pwmGrpCfg i, 4, 4⟩
/-- `TRIP.STATUS` (R299). -/
def Reg.tripStatus : Nat := 0x40070000
def Fd.tripStatusLatched : Fld := ⟨Reg.tripStatus, 27, 16⟩
def Fd.tripStatusActive : Fld := ⟨Reg.tripStatus, 11, 0⟩
/-- `TRIP.FLAGS` (R299). -/
def Reg.tripFlags : Nat := 0x40070004
def Fd.tripFlagsTripped : Fld := ⟨Reg.tripFlags, 3, 3⟩
def Fd.tripFlagsConflict : Fld := ⟨Reg.tripFlags, 2, 2⟩
def Fd.tripFlagsClearRefused : Fld := ⟨Reg.tripFlags, 1, 1⟩
def Fd.tripFlagsWriteWhileRunning : Fld := ⟨Reg.tripFlags, 0, 0⟩
/-- `TRIP.CLEAR` (R299). -/
def Reg.tripClear : Nat := 0x40070008
/-- `TRIP.SW` (R299). -/
def Reg.tripSw : Nat := 0x4007000C
def Fd.tripSwRelease : Fld := ⟨Reg.tripSw, 1, 1⟩
def Fd.tripSwSet : Fld := ⟨Reg.tripSw, 0, 0⟩
/-- `TRIP.FIRST` (R299). -/
def Reg.tripFirst : Nat := 0x40070010
def Fd.tripFirstValid : Fld := ⟨Reg.tripFirst, 31, 31⟩
def Fd.tripFirstSrc : Fld := ⟨Reg.tripFirst, 11, 0⟩
/-- `TRIP.FIRST_NS` (R299). -/
def Reg.tripFirstNs : Nat := 0x40070014
/-- `TRIP.PAIRS` (R299). -/
def Reg.tripPairs : Nat := 0x40070018
/-- `TRIP.SRC[s].CFG` (R299). -/
def Reg.tripSrcCfg (i : Nat) : Nat := 0x40070100 + 0x10 * i
def Fd.tripSrcCfgFilter (i : Nat) : Fld := ⟨Reg.tripSrcCfg i, 15, 8⟩
def Fd.tripSrcCfgLatch (i : Nat) : Fld := ⟨Reg.tripSrcCfg i, 2, 2⟩
def Fd.tripSrcCfgActiveHigh (i : Nat) : Fld := ⟨Reg.tripSrcCfg i, 1, 1⟩
def Fd.tripSrcCfgEn (i : Nat) : Fld := ⟨Reg.tripSrcCfg i, 0, 0⟩
/-- `TRIP.SRC[s].ACT_LO` (R299). -/
def Reg.tripSrcActLo (i : Nat) : Nat := 0x40070104 + 0x10 * i
/-- `TRIP.SRC[s].ACT_HI` (R299). -/
def Reg.tripSrcActHi (i : Nat) : Nat := 0x40070108 + 0x10 * i
/-- `TRIP.SRC[s].COUNT` (R299). -/
def Reg.tripSrcCount (i : Nat) : Nat := 0x4007010C + 0x10 * i
def Fd.tripSrcCountCount (i : Nat) : Fld := ⟨Reg.tripSrcCount i, 15, 0⟩
def Fd.tripSrcCountSat (i : Nat) : Fld := ⟨Reg.tripSrcCount i, 16, 16⟩
/-- `SPUR.STATUS` (R325). -/
def Reg.spurStatus : Nat := 0x40060000
def Fd.spurStatusEnabled : Fld := ⟨Reg.spurStatus, 5, 0⟩
def Fd.spurStatusTripped : Fld := ⟨Reg.spurStatus, 13, 8⟩
def Fd.spurStatusAscActive : Fld := ⟨Reg.spurStatus, 16, 16⟩
def Fd.spurStatusAllOff : Fld := ⟨Reg.spurStatus, 17, 17⟩
def Fd.spurStatusVdrvOk : Fld := ⟨Reg.spurStatus, 18, 18⟩
/-- `SPUR.FLAGS` (R325). -/
def Reg.spurFlags : Nat := 0x40060004
def Fd.spurFlagsWriteWhileRunning : Fld := ⟨Reg.spurFlags, 9, 9⟩
def Fd.spurFlagsDiagRefused : Fld := ⟨Reg.spurFlags, 8, 8⟩
def Fd.spurFlagsAscRefused : Fld := ⟨Reg.spurFlags, 7, 7⟩
def Fd.spurFlagsAscFail : Fld := ⟨Reg.spurFlags, 6, 6⟩
def Fd.spurFlagsClearRefused : Fld := ⟨Reg.spurFlags, 5, 5⟩
def Fd.spurFlagsBootUv : Fld := ⟨Reg.spurFlags, 4, 4⟩
def Fd.spurFlagsInhibitSeen : Fld := ⟨Reg.spurFlags, 3, 3⟩
def Fd.spurFlagsVdrvLoss : Fld := ⟨Reg.spurFlags, 2, 2⟩
def Fd.spurFlagsEnableRefused : Fld := ⟨Reg.spurFlags, 1, 1⟩
def Fd.spurFlagsTrip : Fld := ⟨Reg.spurFlags, 0, 0⟩
/-- `SPUR.ASC` (R325). -/
def Reg.spurAsc : Nat := 0x40060008
def Fd.spurAscGroup : Fld := ⟨Reg.spurAsc, 5, 0⟩
def Fd.spurAscOnTrip : Fld := ⟨Reg.spurAsc, 8, 8⟩
def Fd.spurAscOnSrc : Fld := ⟨Reg.spurAsc, 9, 9⟩
def Fd.spurAscSidePref : Fld := ⟨Reg.spurAsc, 10, 10⟩
/-- `SPUR.ASC_CMD` (R325). -/
def Reg.spurAscCmd : Nat := 0x4006000C
def Fd.spurAscCmdEnter : Fld := ⟨Reg.spurAscCmd, 0, 0⟩
def Fd.spurAscCmdRelease : Fld := ⟨Reg.spurAscCmd, 1, 1⟩
/-- `SPUR.CLEAR` (R325). -/
def Reg.spurClear : Nat := 0x40060010
/-- `SPUR.LEG[n].CTRL` (R325). -/
def Reg.spurLegCtrl (i : Nat) : Nat := 0x40060100 + 0x40 * i
def Fd.spurLegCtrlEn (i : Nat) : Fld := ⟨Reg.spurLegCtrl i, 0, 0⟩
def Fd.spurLegCtrlDiag (i : Nat) : Fld := ⟨Reg.spurLegCtrl i, 1, 1⟩
/-- `SPUR.LEG[n].CFG` (R325). -/
def Reg.spurLegCfg (i : Nat) : Nat := 0x40060104 + 0x40 * i
def Fd.spurLegCfgRefreshN (i : Nat) : Fld := ⟨Reg.spurLegCfg i, 27, 24⟩
def Fd.spurLegCfgRef (i : Nat) : Fld := ⟨Reg.spurLegCfg i, 22, 20⟩
def Fd.spurLegCfgAdapt (i : Nat) : Fld := ⟨Reg.spurLegCfg i, 19, 19⟩
def Fd.spurLegCfgSrcMask (i : Nat) : Fld := ⟨Reg.spurLegCfg i, 18, 8⟩
def Fd.spurLegCfgTb (i : Nat) : Fld := ⟨Reg.spurLegCfg i, 2, 0⟩
/-- `SPUR.LEG[n].CMP` (R325). -/
def Reg.spurLegCmp (i : Nat) : Nat := 0x40060108 + 0x40 * i
/-- `SPUR.LEG[n].DT` (R325). -/
def Reg.spurLegDt (i : Nat) : Nat := 0x4006010C + 0x40 * i
def Fd.spurLegDtDt (i : Nat) : Fld := ⟨Reg.spurLegDt i, 7, 0⟩
def Fd.spurLegDtMinpw (i : Nat) : Fld := ⟨Reg.spurLegDt i, 23, 16⟩
/-- `SPUR.LEG[n].DRIVE` (R325). -/
def Reg.spurLegDrive (i : Nat) : Nat := 0x40060110 + 0x40 * i
def Fd.spurLegDriveHs (i : Nat) : Fld := ⟨Reg.spurLegDrive i, 4, 0⟩
def Fd.spurLegDriveLs (i : Nat) : Fld := ⟨Reg.spurLegDrive i, 12, 8⟩
def Fd.spurLegDriveSink (i : Nat) : Fld := ⟨Reg.spurLegDrive i, 20, 16⟩
/-- `SPUR.LEG[n].ADAPT` (R325). -/
def Reg.spurLegAdapt (i : Nat) : Nat := 0x40060114 + 0x40 * i
def Fd.spurLegAdaptTarget (i : Nat) : Fld := ⟨Reg.spurLegAdapt i, 7, 0⟩
def Fd.spurLegAdaptMin (i : Nat) : Fld := ⟨Reg.spurLegAdapt i, 12, 8⟩
def Fd.spurLegAdaptMax (i : Nat) : Fld := ⟨Reg.spurLegAdapt i, 20, 16⟩
/-- `SPUR.LEG[n].DRIVE_NOW` (R325). -/
def Reg.spurLegDriveNow (i : Nat) : Nat := 0x40060118 + 0x40 * i
def Fd.spurLegDriveNowHs (i : Nat) : Fld := ⟨Reg.spurLegDriveNow i, 4, 0⟩
def Fd.spurLegDriveNowLs (i : Nat) : Fld := ⟨Reg.spurLegDriveNow i, 12, 8⟩
def Fd.spurLegDriveNowHsTime (i : Nat) : Fld := ⟨Reg.spurLegDriveNow i, 23, 16⟩
def Fd.spurLegDriveNowLsTime (i : Nat) : Fld := ⟨Reg.spurLegDriveNow i, 31, 24⟩
/-- `SPUR.LEG[n].VDS` (R325). -/
def Reg.spurLegVds (i : Nat) : Nat := 0x4006011C + 0x40 * i
def Fd.spurLegVdsThresh (i : Nat) : Fld := ⟨Reg.spurLegVds i, 4, 0⟩
def Fd.spurLegVdsBlank (i : Nat) : Fld := ⟨Reg.spurLegVds i, 12, 8⟩
/-- `SPUR.LEG[n].STATUS` (R325). -/
def Reg.spurLegStatus (i : Nat) : Nat := 0x40060120 + 0x40 * i
def Fd.spurLegStatusCause (i : Nat) : Fld := ⟨Reg.spurLegStatus i, 11, 10⟩
def Fd.spurLegStatusFaultLs (i : Nat) : Fld := ⟨Reg.spurLegStatus i, 9, 9⟩
def Fd.spurLegStatusFaultHs (i : Nat) : Fld := ⟨Reg.spurLegStatus i, 8, 8⟩
def Fd.spurLegStatusRetired (i : Nat) : Fld := ⟨Reg.spurLegStatus i, 7, 7⟩
def Fd.spurLegStatusInAsc (i : Nat) : Fld := ⟨Reg.spurLegStatus i, 6, 6⟩
def Fd.spurLegStatusSrcOff (i : Nat) : Fld := ⟨Reg.spurLegStatus i, 5, 5⟩
def Fd.spurLegStatusBootUv (i : Nat) : Fld := ⟨Reg.spurLegStatus i, 4, 4⟩
def Fd.spurLegStatusDropHi (i : Nat) : Fld := ⟨Reg.spurLegStatus i, 3, 3⟩
def Fd.spurLegStatusDropLo (i : Nat) : Fld := ⟨Reg.spurLegStatus i, 2, 2⟩
def Fd.spurLegStatusTripped (i : Nat) : Fld := ⟨Reg.spurLegStatus i, 1, 1⟩
def Fd.spurLegStatusActive (i : Nat) : Fld := ⟨Reg.spurLegStatus i, 0, 0⟩
/-- `SPUR.LEG[n].DIAG` (R325). -/
def Reg.spurLegDiag (i : Nat) : Nat := 0x40060124 + 0x40 * i
def Fd.spurLegDiagRefuse (i : Nat) : Fld := ⟨Reg.spurLegDiag i, 11, 8⟩
def Fd.spurLegDiagState (i : Nat) : Fld := ⟨Reg.spurLegDiag i, 5, 4⟩
def Fd.spurLegDiagResult (i : Nat) : Fld := ⟨Reg.spurLegDiag i, 2, 0⟩
/-- `SPUR.LEG[n].COUNT` (R325). -/
def Reg.spurLegCount (i : Nat) : Nat := 0x40060128 + 0x40 * i
def Fd.spurLegCountTrips (i : Nat) : Fld := ⟨Reg.spurLegCount i, 7, 0⟩
def Fd.spurLegCountBootUv (i : Nat) : Fld := ⟨Reg.spurLegCount i, 15, 8⟩
def Fd.spurLegCountRefresh (i : Nat) : Fld := ⟨Reg.spurLegCount i, 29, 16⟩
def Fd.spurLegCountSat (i : Nat) : Fld := ⟨Reg.spurLegCount i, 31, 31⟩
/-- `PIF.CH[k].CFG` (R326). -/
def Reg.pifChCfg (i : Nat) : Nat := 0x40080100 + 0x80 * i
def Fd.pifChCfgZReset (i : Nat) : Fld := ⟨Reg.pifChCfg i, 16, 16⟩
def Fd.pifChCfgFilt (i : Nat) : Fld := ⟨Reg.pifChCfg i, 15, 8⟩
def Fd.pifChCfgMode (i : Nat) : Fld := ⟨Reg.pifChCfg i, 1, 0⟩
/-- `PIF.CH[k].POS` (R326). -/
def Reg.pifChPos (i : Nat) : Nat := 0x40080104 + 0x80 * i
/-- `PIF.CH[k].POS_SET` (R326). -/
def Reg.pifChPosSet (i : Nat) : Nat := 0x40080108 + 0x80 * i
/-- `PIF.CH[k].SPEED` (R326). -/
def Reg.pifChSpeed (i : Nat) : Nat := 0x4008010C + 0x80 * i
/-- `PIF.CH[k].STATUS` (R326). -/
def Reg.pifChStatus (i : Nat) : Nat := 0x40080110 + 0x80 * i
def Fd.pifChStatusRetired (i : Nat) : Fld := ⟨Reg.pifChStatus i, 5, 5⟩
def Fd.pifChStatusBounded (i : Nat) : Fld := ⟨Reg.pifChStatus i, 4, 4⟩
def Fd.pifChStatusStale (i : Nat) : Fld := ⟨Reg.pifChStatus i, 3, 3⟩
def Fd.pifChStatusValid (i : Nat) : Fld := ⟨Reg.pifChStatus i, 2, 2⟩
def Fd.pifChStatusMethod (i : Nat) : Fld := ⟨Reg.pifChStatus i, 1, 1⟩
def Fd.pifChStatusDir (i : Nat) : Fld := ⟨Reg.pifChStatus i, 0, 0⟩
/-- `PIF.CH[k].FLAGS` (R326). -/
def Reg.pifChFlags (i : Nat) : Nat := 0x40080114 + 0x80 * i
def Fd.pifChFlagsWriteWhileRunning (i : Nat) : Fld := ⟨Reg.pifChFlags i, 6, 6⟩
def Fd.pifChFlagsRange (i : Nat) : Fld := ⟨Reg.pifChFlags i, 5, 5⟩
def Fd.pifChFlagsDirRace (i : Nat) : Fld := ⟨Reg.pifChFlags i, 4, 4⟩
def Fd.pifChFlagsZ (i : Nat) : Fld := ⟨Reg.pifChFlags i, 3, 3⟩
def Fd.pifChFlagsStale (i : Nat) : Fld := ⟨Reg.pifChFlags i, 2, 2⟩
def Fd.pifChFlagsWrap (i : Nat) : Fld := ⟨Reg.pifChFlags i, 1, 1⟩
def Fd.pifChFlagsIllegal (i : Nat) : Fld := ⟨Reg.pifChFlags i, 0, 0⟩
/-- `PIF.CH[k].P_LO` (R326). -/
def Reg.pifChPLo (i : Nat) : Nat := 0x40080118 + 0x80 * i
/-- `PIF.CH[k].P_HI` (R326). -/
def Reg.pifChPHi (i : Nat) : Nat := 0x4008011C + 0x80 * i
/-- `PIF.CH[k].WIN` (R326). -/
def Reg.pifChWin (i : Nat) : Nat := 0x40080120 + 0x80 * i
/-- `PIF.CH[k].STALE_T` (R326). -/
def Reg.pifChStaleT (i : Nat) : Nat := 0x40080124 + 0x80 * i
/-- `PIF.CH[k].EDGE_POS` (R326). -/
def Reg.pifChEdgePos (i : Nat) : Nat := 0x40080128 + 0x80 * i
/-- `PIF.CH[k].EDGE_SPEED` (R326). -/
def Reg.pifChEdgeSpeed (i : Nat) : Nat := 0x4008012C + 0x80 * i
/-- `PIF.CH[k].EDGE_S` (R326). -/
def Reg.pifChEdgeS (i : Nat) : Nat := 0x40080130 + 0x80 * i
/-- `PIF.CH[k].EDGE_NS` (R326). -/
def Reg.pifChEdgeNs (i : Nat) : Nat := 0x40080134 + 0x80 * i
/-- `PIF.CH[k].Z_POS` (R326). -/
def Reg.pifChZPos (i : Nat) : Nat := 0x40080138 + 0x80 * i
/-- `PIF.CH[k].ILLEGAL` (R326). -/
def Reg.pifChIllegal (i : Nat) : Nat := 0x4008013C + 0x80 * i
def Fd.pifChIllegalCount (i : Nat) : Fld := ⟨Reg.pifChIllegal i, 15, 0⟩
def Fd.pifChIllegalSat (i : Nat) : Fld := ⟨Reg.pifChIllegal i, 16, 16⟩
/-- `PIF.CH[k].UP_COUNT` (R326). -/
def Reg.pifChUpCount (i : Nat) : Nat := 0x40080140 + 0x80 * i
def Fd.pifChUpCountCount (i : Nat) : Fld := ⟨Reg.pifChUpCount i, 30, 0⟩
def Fd.pifChUpCountSat (i : Nat) : Fld := ⟨Reg.pifChUpCount i, 31, 31⟩
/-- `PIF.CH[k].DN_COUNT` (R326). -/
def Reg.pifChDnCount (i : Nat) : Nat := 0x40080144 + 0x80 * i
def Fd.pifChDnCountCount (i : Nat) : Fld := ⟨Reg.pifChDnCount i, 30, 0⟩
def Fd.pifChDnCountSat (i : Nat) : Fld := ⟨Reg.pifChDnCount i, 31, 31⟩
/-- `GDM.STATUS` (R352). -/
def Reg.gdmStatus : Nat := 0x40110000
def Fd.gdmStatusSaddleStop : Fld := ⟨Reg.gdmStatus, 11, 11⟩
def Fd.gdmStatusLockoutB : Fld := ⟨Reg.gdmStatus, 10, 10⟩
def Fd.gdmStatusLockoutA : Fld := ⟨Reg.gdmStatus, 9, 9⟩
def Fd.gdmStatusCopy : Fld := ⟨Reg.gdmStatus, 8, 8⟩
def Fd.gdmStatusHolding : Fld := ⟨Reg.gdmStatus, 7, 7⟩
def Fd.gdmStatusSynced : Fld := ⟨Reg.gdmStatus, 6, 6⟩
def Fd.gdmStatusSafe : Fld := ⟨Reg.gdmStatus, 5, 5⟩
def Fd.gdmStatusInhibit : Fld := ⟨Reg.gdmStatus, 4, 4⟩
def Fd.gdmStatusRoleB : Fld := ⟨Reg.gdmStatus, 3, 2⟩
def Fd.gdmStatusRoleA : Fld := ⟨Reg.gdmStatus, 1, 0⟩
/-- `GDM.FLAGS` (R352). -/
def Reg.gdmFlags : Nat := 0x40110004
def Fd.gdmFlagsCarryRange : Fld := ⟨Reg.gdmFlags, 7, 7⟩
def Fd.gdmFlagsCopyFail : Fld := ⟨Reg.gdmFlags, 6, 6⟩
def Fd.gdmFlagsLockout : Fld := ⟨Reg.gdmFlags, 5, 5⟩
def Fd.gdmFlagsDiverged : Fld := ⟨Reg.gdmFlags, 4, 4⟩
def Fd.gdmFlagsPeerClaim : Fld := ⟨Reg.gdmFlags, 3, 3⟩
def Fd.gdmFlagsFailover : Fld := ⟨Reg.gdmFlags, 2, 2⟩
def Fd.gdmFlagsSafeEntered : Fld := ⟨Reg.gdmFlags, 1, 1⟩
def Fd.gdmFlagsCmdRefused : Fld := ⟨Reg.gdmFlags, 0, 0⟩
/-- `GDM.CFG` (R352). -/
def Reg.gdmCfg : Nat := 0x40110008
def Fd.gdmCfgHoldT : Fld := ⟨Reg.gdmCfg, 25, 16⟩
def Fd.gdmCfgDivResync : Fld := ⟨Reg.gdmCfg, 15, 8⟩
def Fd.gdmCfgAutoRestart : Fld := ⟨Reg.gdmCfg, 3, 3⟩
def Fd.gdmCfgAutoRejoin : Fld := ⟨Reg.gdmCfg, 2, 2⟩
def Fd.gdmCfgReturnEn : Fld := ⟨Reg.gdmCfg, 1, 1⟩
def Fd.gdmCfgHome : Fld := ⟨Reg.gdmCfg, 0, 0⟩
/-- `GDM.START_WAIT` (R352). -/
def Reg.gdmStartWait : Nat := 0x4011000C
/-- `GDM.CMD` (R352). -/
def Reg.gdmCmd : Nat := 0x40110010
def Fd.gdmCmdKey : Fld := ⟨Reg.gdmCmd, 31, 16⟩
def Fd.gdmCmdOp : Fld := ⟨Reg.gdmCmd, 15, 8⟩
def Fd.gdmCmdPeak : Fld := ⟨Reg.gdmCmd, 0, 0⟩
/-- `GDM.CMD_STATUS` (R352). -/
def Reg.gdmCmdStatus : Nat := 0x40110014
def Fd.gdmCmdStatusBusy : Fld := ⟨Reg.gdmCmdStatus, 4, 4⟩
def Fd.gdmCmdStatusResult : Fld := ⟨Reg.gdmCmdStatus, 3, 0⟩
/-- `GDM.HOLD_ELAPSED` (R352). -/
def Reg.gdmHoldElapsed : Nat := 0x40110018
/-- `GDM.LAST` (R352). -/
def Reg.gdmLast : Nat := 0x4011001C
def Fd.gdmLastSeq : Fld := ⟨Reg.gdmLast, 31, 16⟩
def Fd.gdmLastCause : Fld := ⟨Reg.gdmLast, 11, 8⟩
def Fd.gdmLastPeak : Fld := ⟨Reg.gdmLast, 4, 4⟩
def Fd.gdmLastAction : Fld := ⟨Reg.gdmLast, 3, 0⟩
/-- `GDM.DIV_OUT` (R352). -/
def Reg.gdmDivOut : Nat := 0x40110020
def Fd.gdmDivOutCount : Fld := ⟨Reg.gdmDivOut, 30, 0⟩
def Fd.gdmDivOutSat : Fld := ⟨Reg.gdmDivOut, 31, 31⟩
/-- `GDM.DIV_STATE` (R352). -/
def Reg.gdmDivState : Nat := 0x40110024
def Fd.gdmDivStateCount : Fld := ⟨Reg.gdmDivState, 30, 0⟩
def Fd.gdmDivStateSat : Fld := ⟨Reg.gdmDivState, 31, 31⟩
/-- `GDM.DIV_FIRST` (R352). -/
def Reg.gdmDivFirst : Nat := 0x40110028
def Fd.gdmDivFirstSeq : Fld := ⟨Reg.gdmDivFirst, 31, 16⟩
def Fd.gdmDivFirstKind : Fld := ⟨Reg.gdmDivFirst, 9, 8⟩
def Fd.gdmDivFirstChan : Fld := ⟨Reg.gdmDivFirst, 6, 0⟩
/-- `GDM.FAILOVERS` (R352). -/
def Reg.gdmFailovers : Nat := 0x4011002C
def Fd.gdmFailoversCount : Fld := ⟨Reg.gdmFailovers, 15, 0⟩
def Fd.gdmFailoversSat : Fld := ⟨Reg.gdmFailovers, 16, 16⟩
/-- `GDM.PEER_CLAIMS` (R352). -/
def Reg.gdmPeerClaims : Nat := 0x40110030
def Fd.gdmPeerClaimsCount : Fld := ⟨Reg.gdmPeerClaims, 15, 0⟩
def Fd.gdmPeerClaimsSat : Fld := ⟨Reg.gdmPeerClaims, 16, 16⟩
/-- `GDM.PEAK[x].HB0` (R352). -/
def Reg.gdmPeakHb0 (i : Nat) : Nat := 0x40110100 + 0x80 * i
def Fd.gdmPeakHb0Seq (i : Nat) : Fld := ⟨Reg.gdmPeakHb0 i, 31, 16⟩
def Fd.gdmPeakHb0Role (i : Nat) : Fld := ⟨Reg.gdmPeakHb0 i, 15, 14⟩
def Fd.gdmPeakHb0PeerLost (i : Nat) : Fld := ⟨Reg.gdmPeakHb0 i, 13, 13⟩
def Fd.gdmPeakHb0MonFault (i : Nat) : Fld := ⟨Reg.gdmPeakHb0 i, 12, 12⟩
def Fd.gdmPeakHb0Lol (i : Nat) : Fld := ⟨Reg.gdmPeakHb0 i, 11, 11⟩
def Fd.gdmPeakHb0FailReq (i : Nat) : Fld := ⟨Reg.gdmPeakHb0 i, 10, 10⟩
def Fd.gdmPeakHb0Ready (i : Nat) : Fld := ⟨Reg.gdmPeakHb0 i, 9, 9⟩
/-- `GDM.PEAK[x].HB1` (R352). -/
def Reg.gdmPeakHb1 (i : Nat) : Nat := 0x40110104 + 0x80 * i
/-- `GDM.PEAK[x].VERDICT` (R352). -/
def Reg.gdmPeakVerdict (i : Nat) : Nat := 0x40110108 + 0x80 * i
def Fd.gdmPeakVerdictVerdict (i : Nat) : Fld := ⟨Reg.gdmPeakVerdict i, 1, 0⟩
def Fd.gdmPeakVerdictCause (i : Nat) : Fld := ⟨Reg.gdmPeakVerdict i, 11, 8⟩
/-- `GDM.PEAK[x].MISSES` (R352). -/
def Reg.gdmPeakMisses (i : Nat) : Nat := 0x4011010C + 0x80 * i
def Fd.gdmPeakMissesCount (i : Nat) : Fld := ⟨Reg.gdmPeakMisses i, 15, 0⟩
def Fd.gdmPeakMissesSat (i : Nat) : Fld := ⟨Reg.gdmPeakMisses i, 16, 16⟩
/-- `GDM.PEAK[x].REPORT` (R352). -/
def Reg.gdmPeakReport (i : Nat) : Nat := 0x40110110 + 0x80 * i
def Fd.gdmPeakReportReady (i : Nat) : Fld := ⟨Reg.gdmPeakReport i, 0, 0⟩
def Fd.gdmPeakReportFailReq (i : Nat) : Fld := ⟨Reg.gdmPeakReport i, 1, 1⟩
/-- `GDM.PEAK[x].VIEW` (R352). -/
def Reg.gdmPeakView (i : Nat) : Nat := 0x40110114 + 0x80 * i
def Fd.gdmPeakViewAckSeq (i : Nat) : Fld := ⟨Reg.gdmPeakView i, 31, 16⟩
def Fd.gdmPeakViewSilent (i : Nat) : Fld := ⟨Reg.gdmPeakView i, 2, 2⟩
def Fd.gdmPeakViewRole (i : Nat) : Fld := ⟨Reg.gdmPeakView i, 1, 0⟩
/-- `GDM.PEAK[x].COPY` (R352). -/
def Reg.gdmPeakCopy (i : Nat) : Nat := 0x40110118 + 0x80 * i
def Fd.gdmPeakCopyRetries (i : Nat) : Fld := ⟨Reg.gdmPeakCopy i, 11, 8⟩
def Fd.gdmPeakCopyResult (i : Nat) : Fld := ⟨Reg.gdmPeakCopy i, 7, 6⟩
def Fd.gdmPeakCopyMode (i : Nat) : Fld := ⟨Reg.gdmPeakCopy i, 5, 4⟩
def Fd.gdmPeakCopySource (i : Nat) : Fld := ⟨Reg.gdmPeakCopy i, 3, 3⟩
def Fd.gdmPeakCopyState (i : Nat) : Fld := ⟨Reg.gdmPeakCopy i, 2, 0⟩
/-- `GDM.PEAK[x].FAIL_RUN` (R352). -/
def Reg.gdmPeakFailRun (i : Nat) : Nat := 0x4011011C + 0x80 * i
def Fd.gdmPeakFailRunRun (i : Nat) : Fld := ⟨Reg.gdmPeakFailRun i, 1, 0⟩
def Fd.gdmPeakFailRunLockout (i : Nat) : Fld := ⟨Reg.gdmPeakFailRun i, 8, 8⟩
/-- `GDM.PEAK[x].CARRY[r].BASE` (R352). -/
def Reg.gdmPeakCarryBase (i j : Nat) : Nat := 0x40110140 + 0x80 * i + 0x8 * j
/-- `GDM.PEAK[x].CARRY[r].SIZE` (R352). -/
def Reg.gdmPeakCarrySize (i j : Nat) : Nat := 0x40110144 + 0x80 * i + 0x8 * j
def Fd.gdmPeakCarrySizeSize (i j : Nat) : Fld := ⟨Reg.gdmPeakCarrySize i j, 14, 0⟩
def Fd.gdmPeakCarrySizeCore (i j : Nat) : Fld := ⟨Reg.gdmPeakCarrySize i j, 18, 16⟩
/-- `SAF.STATUS` (R370). -/
def Reg.safStatus : Nat := 0x40120000
def Fd.safStatusKernelFault : Fld := ⟨Reg.safStatus, 27, 27⟩
def Fd.safStatusCfgValid : Fld := ⟨Reg.safStatus, 26, 26⟩
def Fd.safStatusCfgCopy : Fld := ⟨Reg.safStatus, 25, 25⟩
def Fd.safStatusSeg : Fld := ⟨Reg.safStatus, 24, 16⟩
def Fd.safStatusTsRun : Fld := ⟨Reg.safStatus, 2, 2⟩
def Fd.safStatusGdmTrip : Fld := ⟨Reg.safStatus, 1, 1⟩
def Fd.safStatusAnySafe : Fld := ⟨Reg.safStatus, 0, 0⟩
/-- `SAF.FLAGS` (R370). -/
def Reg.safFlags : Nat := 0x40120004
def Fd.safFlagsKernelFault : Fld := ⟨Reg.safFlags, 8, 8⟩
def Fd.safFlagsCfgCopyBad : Fld := ⟨Reg.safFlags, 7, 7⟩
def Fd.safFlagsPeakWrite : Fld := ⟨Reg.safFlags, 6, 6⟩
def Fd.safFlagsCmdRefused : Fld := ⟨Reg.safFlags, 5, 5⟩
def Fd.safFlagsResetRefused : Fld := ⟨Reg.safFlags, 4, 4⟩
def Fd.safFlagsFeedbackFault : Fld := ⟨Reg.safFlags, 3, 3⟩
def Fd.safFlagsOutputFault : Fld := ⟨Reg.safFlags, 2, 2⟩
def Fd.safFlagsInputFault : Fld := ⟨Reg.safFlags, 1, 1⟩
def Fd.safFlagsDemand : Fld := ⟨Reg.safFlags, 0, 0⟩
/-- `SAF.CMD` (R370). -/
def Reg.safCmd : Nat := 0x40120008
def Fd.safCmdKey : Fld := ⟨Reg.safCmd, 31, 16⟩
def Fd.safCmdOp : Fld := ⟨Reg.safCmd, 15, 8⟩
def Fd.safCmdFunc : Fld := ⟨Reg.safCmd, 2, 0⟩
/-- `SAF.CMD_STATUS` (R370). -/
def Reg.safCmdStatus : Nat := 0x4012000C
def Fd.safCmdStatusBusy : Fld := ⟨Reg.safCmdStatus, 4, 4⟩
def Fd.safCmdStatusResult : Fld := ⟨Reg.safCmdStatus, 3, 0⟩
/-- `SAF.FUNC` (R370). -/
def Reg.safFunc : Nat := 0x40120010
def Fd.safFuncSto : Fld := ⟨Reg.safFunc, 2, 0⟩
def Fd.safFuncSdc : Fld := ⟨Reg.safFunc, 10, 8⟩
def Fd.safFuncTs : Fld := ⟨Reg.safFunc, 18, 16⟩
/-- `SAF.IN_STATE` (R370). -/
def Reg.safInState : Nat := 0x40120014
def Fd.safInStateLevel : Fld := ⟨Reg.safInState, 7, 0⟩
def Fd.safInStateDemand : Fld := ⟨Reg.safInState, 15, 8⟩
def Fd.safInStateMasked : Fld := ⟨Reg.safInState, 23, 16⟩
def Fd.safInStateFault : Fld := ⟨Reg.safInState, 31, 24⟩
/-- `SAF.IN_FAULT` (R370). -/
def Reg.safInFault : Nat := 0x40120018
/-- `SAF.OUT_STATE` (R370). -/
def Reg.safOutState : Nat := 0x4012001C
def Fd.safOutStateSoutOn : Fld := ⟨Reg.safOutState, 3, 0⟩
def Fd.safOutStateSoutFault : Fld := ⟨Reg.safOutState, 7, 4⟩
def Fd.safOutStateTpoOn : Fld := ⟨Reg.safOutState, 11, 8⟩
def Fd.safOutStateTpoFault : Fld := ⟨Reg.safOutState, 15, 12⟩
/-- `SAF.FIRST` (R370). -/
def Reg.safFirst : Nat := 0x40120020
def Fd.safFirstValid : Fld := ⟨Reg.safFirst, 31, 31⟩
def Fd.safFirstCause : Fld := ⟨Reg.safFirst, 23, 20⟩
def Fd.safFirstFunc : Fld := ⟨Reg.safFirst, 18, 16⟩
def Fd.safFirstInputs : Fld := ⟨Reg.safFirst, 15, 8⟩
/-- `SAF.FIRST_NS` (R370). -/
def Reg.safFirstNs : Nat := 0x40120024
/-- `SAF.DEMANDS` (R370). -/
def Reg.safDemands : Nat := 0x40120028
def Fd.safDemandsCount : Fld := ⟨Reg.safDemands, 15, 0⟩
def Fd.safDemandsSat : Fld := ⟨Reg.safDemands, 16, 16⟩
/-- `SAF.DIAG_FAULTS` (R370). -/
def Reg.safDiagFaults : Nat := 0x4012002C
def Fd.safDiagFaultsCount : Fld := ⟨Reg.safDiagFaults, 15, 0⟩
def Fd.safDiagFaultsSat : Fld := ⟨Reg.safDiagFaults, 16, 16⟩
/-- `SAF.CFG_GEN` (R370). -/
def Reg.safCfgGen : Nat := 0x40120030
/-- `SAF.CFG_STAGE[n]` (R370). -/
def Reg.safCfgStage (i : Nat) : Nat := 0x40120100 + 0x4 * i
/-- `TAL.FLAGS` (R394). -/
def Reg.talFlags : Nat := 0x40040000
def Fd.talFlagsWriteWhileRunning : Fld := ⟨Reg.talFlags, 0, 0⟩
def Fd.talFlagsRunRefused : Fld := ⟨Reg.talFlags, 1, 1⟩
def Fd.talFlagsStarved : Fld := ⟨Reg.talFlags, 2, 2⟩
def Fd.talFlagsOverflow : Fld := ⟨Reg.talFlags, 3, 3⟩
def Fd.talFlagsOwnerWrite : Fld := ⟨Reg.talFlags, 4, 4⟩
def Fd.talFlagsMorLow : Fld := ⟨Reg.talFlags, 5, 5⟩
def Fd.talFlagsRange : Fld := ⟨Reg.talFlags, 6, 6⟩
/-- `TAL.SEG_BASE` (R394). -/
def Reg.talSegBase : Nat := 0x40040004
/-- `TAL.MOR_LOW` (R394). -/
def Reg.talMorLow : Nat := 0x40040008
def Fd.talMorLowFree : Fld := ⟨Reg.talMorLow, 10, 0⟩
/-- `TAL.MOR_COUNT` (R394). -/
def Reg.talMorCount : Nat := 0x4004000C
def Fd.talMorCountFree : Fld := ⟨Reg.talMorCount, 10, 0⟩
def Fd.talMorCountTalus : Fld := ⟨Reg.talMorCount, 26, 16⟩
/-- `TAL.MOR_CMD` (R394). -/
def Reg.talMorCmd : Nat := 0x40040010
def Fd.talMorCmdTo : Fld := ⟨Reg.talMorCmd, 31, 24⟩
def Fd.talMorCmdFrom : Fld := ⟨Reg.talMorCmd, 23, 16⟩
def Fd.talMorCmdOp : Fld := ⟨Reg.talMorCmd, 15, 13⟩
def Fd.talMorCmdBuffer : Fld := ⟨Reg.talMorCmd, 11, 0⟩
/-- `TAL.MOR_RESULT` (R394). -/
def Reg.talMorResult : Nat := 0x40040014
def Fd.talMorResultDone : Fld := ⟨Reg.talMorResult, 31, 31⟩
def Fd.talMorResultCode : Fld := ⟨Reg.talMorResult, 19, 16⟩
def Fd.talMorResultBuffer : Fld := ⟨Reg.talMorResult, 11, 0⟩
/-- `TAL.SNAP` (R394). -/
def Reg.talSnap : Nat := 0x40040018
def Fd.talSnapTake : Fld := ⟨Reg.talSnap, 0, 0⟩
/-- `TAL.SNAP_MOR0` (R394). -/
def Reg.talSnapMor0 : Nat := 0x4004001C
def Fd.talSnapMor0Free : Fld := ⟨Reg.talSnapMor0, 10, 0⟩
def Fd.talSnapMor0Host : Fld := ⟨Reg.talSnapMor0, 26, 16⟩
/-- `TAL.SNAP_MOR1` (R394). -/
def Reg.talSnapMor1 : Nat := 0x40040020
def Fd.talSnapMor1Dma : Fld := ⟨Reg.talSnapMor1, 10, 0⟩
def Fd.talSnapMor1Mac : Fld := ⟨Reg.talSnapMor1, 26, 16⟩
/-- `TAL.SNAP_MOR2` (R394). -/
def Reg.talSnapMor2 : Nat := 0x40040024
def Fd.talSnapMor2Talus : Fld := ⟨Reg.talSnapMor2, 10, 0⟩
def Fd.talSnapMor2Transit : Fld := ⟨Reg.talSnapMor2, 19, 16⟩
/-- `TAL.SNAP_SEG0` (R394). -/
def Reg.talSnapSeg0 : Nat := 0x40040028
def Fd.talSnapSeg0Free : Fld := ⟨Reg.talSnapSeg0, 12, 0⟩
def Fd.talSnapSeg0Armed : Fld := ⟨Reg.talSnapSeg0, 28, 16⟩
/-- `TAL.SNAP_SEG1` (R394). -/
def Reg.talSnapSeg1 : Nat := 0x4004002C
def Fd.talSnapSeg1Filling : Fld := ⟨Reg.talSnapSeg1, 12, 0⟩
def Fd.talSnapSeg1Closed : Fld := ⟨Reg.talSnapSeg1, 28, 16⟩
/-- `TAL.COND[n].CFG` (R394). -/
def Reg.talCondCfg (i : Nat) : Nat := 0x40040100 + 0x10 * i
def Fd.talCondCfgEvent (i : Nat) : Fld := ⟨Reg.talCondCfg i, 31, 24⟩
def Fd.talCondCfgDist (i : Nat) : Fld := ⟨Reg.talCondCfg i, 23, 16⟩
def Fd.talCondCfgAny (i : Nat) : Fld := ⟨Reg.talCondCfg i, 15, 15⟩
def Fd.talCondCfgToMode (i : Nat) : Fld := ⟨Reg.talCondCfg i, 14, 12⟩
def Fd.talCondCfgEngine (i : Nat) : Fld := ⟨Reg.talCondCfg i, 11, 9⟩
def Fd.talCondCfgEdge (i : Nat) : Fld := ⟨Reg.talCondCfg i, 8, 7⟩
def Fd.talCondCfgSlot (i : Nat) : Fld := ⟨Reg.talCondCfg i, 6, 5⟩
def Fd.talCondCfgKind (i : Nat) : Fld := ⟨Reg.talCondCfg i, 2, 0⟩
/-- `TAL.COND[n].LEVEL` (R394). -/
def Reg.talCondLevel (i : Nat) : Nat := 0x40040104 + 0x10 * i
def Fd.talCondLevelLevel (i : Nat) : Fld := ⟨Reg.talCondLevel i, 23, 0⟩
/-- `TAL.COND[n].LEVEL2` (R394). -/
def Reg.talCondLevel2 (i : Nat) : Nat := 0x40040108 + 0x10 * i
/-- `TAL.COND[n].HYST` (R394). -/
def Reg.talCondHyst (i : Nat) : Nat := 0x4004010C + 0x10 * i
/-- `TAL.CH[c].CTRL` (R394). -/
def Reg.talChCtrl (i : Nat) : Nat := 0x40040200 + 0x20 * i
def Fd.talChCtrlRun (i : Nat) : Fld := ⟨Reg.talChCtrl i, 0, 0⟩
/-- `TAL.CH[c].CFG` (R394). -/
def Reg.talChCfg (i : Nat) : Nat := 0x40040204 + 0x20 * i
def Fd.talChCfgTrigMask (i : Nat) : Fld := ⟨Reg.talChCfg i, 31, 16⟩
def Fd.talChCfgSegs (i : Nat) : Fld := ⟨Reg.talChCfg i, 15, 12⟩
def Fd.talChCfgKind (i : Nat) : Fld := ⟨Reg.talChCfg i, 11, 10⟩
def Fd.talChCfgLog2N (i : Nat) : Fld := ⟨Reg.talChCfg i, 9, 8⟩
def Fd.talChCfgTs (i : Nat) : Fld := ⟨Reg.talChCfg i, 7, 7⟩
def Fd.talChCfgSegBufs (i : Nat) : Fld := ⟨Reg.talChCfg i, 6, 1⟩
/-- `TAL.CH[c].SRC` (R394). -/
def Reg.talChSrc (i : Nat) : Nat := 0x40040208 + 0x20 * i
/-- `TAL.CH[c].SRC_HI` (R394). -/
def Reg.talChSrcHi (i : Nat) : Nat := 0x4004020C + 0x20 * i
/-- `TAL.CH[c].STATUS` (R394). -/
def Reg.talChStatus (i : Nat) : Nat := 0x40040210 + 0x20 * i
def Fd.talChStatusSeg (i : Nat) : Fld := ⟨Reg.talChStatus i, 31, 20⟩
def Fd.talChStatusRefuse (i : Nat) : Fld := ⟨Reg.talChStatus i, 19, 16⟩
def Fd.talChStatusState (i : Nat) : Fld := ⟨Reg.talChStatus i, 2, 0⟩
/-- `TAL.CH[c].LOST` (R394). -/
def Reg.talChLost (i : Nat) : Nat := 0x40040214 + 0x20 * i
def Fd.talChLostCount (i : Nat) : Fld := ⟨Reg.talChLost i, 15, 0⟩
def Fd.talChLostSat (i : Nat) : Fld := ⟨Reg.talChLost i, 16, 16⟩
/-- `TAL.CH[c].CLOSED` (R394). -/
def Reg.talChClosed (i : Nat) : Nat := 0x40040218 + 0x20 * i
def Fd.talChClosedCount (i : Nat) : Fld := ⟨Reg.talChClosed i, 15, 0⟩
def Fd.talChClosedSat (i : Nat) : Fld := ⟨Reg.talChClosed i, 16, 16⟩
/-- `TAL.MOR_OWN[b]` (R394). -/
def Reg.talMorOwn (i : Nat) : Nat := 0x40044000 + 0x4 * i
def Fd.talMorOwnNext (i : Nat) : Fld := ⟨Reg.talMorOwn i, 10, 0⟩
def Fd.talMorOwnLast (i : Nat) : Fld := ⟨Reg.talMorOwn i, 15, 15⟩
def Fd.talMorOwnOwner (i : Nat) : Fld := ⟨Reg.talMorOwn i, 23, 16⟩
/-- `DMA.FLAGS` (R395). -/
def Reg.dmaFlags : Nat := 0x400C0000
def Fd.dmaFlagsCh : Fld := ⟨Reg.dmaFlags, 15, 0⟩
def Fd.dmaFlagsGoRefused : Fld := ⟨Reg.dmaFlags, 16, 16⟩
/-- `DMA.CH[n].CTRL` (R395). -/
def Reg.dmaChCtrl (i : Nat) : Nat := 0x400C0100 + 0x80 * i
def Fd.dmaChCtrlCancel (i : Nat) : Fld := ⟨Reg.dmaChCtrl i, 4, 4⟩
def Fd.dmaChCtrlAbort (i : Nat) : Fld := ⟨Reg.dmaChCtrl i, 3, 3⟩
def Fd.dmaChCtrlPause (i : Nat) : Fld := ⟨Reg.dmaChCtrl i, 2, 2⟩
def Fd.dmaChCtrlShadowValid (i : Nat) : Fld := ⟨Reg.dmaChCtrl i, 1, 1⟩
def Fd.dmaChCtrlGo (i : Nat) : Fld := ⟨Reg.dmaChCtrl i, 0, 0⟩
/-- `DMA.CH[n].CFG` (R395). -/
def Reg.dmaChCfg (i : Nat) : Nat := 0x400C0104 + 0x80 * i
def Fd.dmaChCfgEvEn (i : Nat) : Fld := ⟨Reg.dmaChCfg i, 31, 31⟩
def Fd.dmaChCfgRetry (i : Nat) : Fld := ⟨Reg.dmaChCfg i, 30, 27⟩
def Fd.dmaChCfgCredits (i : Nat) : Fld := ⟨Reg.dmaChCfg i, 26, 23⟩
def Fd.dmaChCfgDstCore (i : Nat) : Fld := ⟨Reg.dmaChCfg i, 22, 20⟩
def Fd.dmaChCfgSrcCore (i : Nat) : Fld := ⟨Reg.dmaChCfg i, 19, 17⟩
def Fd.dmaChCfgDstMode (i : Nat) : Fld := ⟨Reg.dmaChCfg i, 11, 10⟩
def Fd.dmaChCfgSrcMode (i : Nat) : Fld := ⟨Reg.dmaChCfg i, 9, 8⟩
def Fd.dmaChCfgWrW (i : Nat) : Fld := ⟨Reg.dmaChCfg i, 3, 2⟩
def Fd.dmaChCfgRdW (i : Nat) : Fld := ⟨Reg.dmaChCfg i, 1, 0⟩
/-- `DMA.CH[n].SRC` (R395). -/
def Reg.dmaChSrc (i : Nat) : Nat := 0x400C0108 + 0x80 * i
/-- `DMA.CH[n].DST` (R395). -/
def Reg.dmaChDst (i : Nat) : Nat := 0x400C010C + 0x80 * i
/-- `DMA.CH[n].COUNT` (R395). -/
def Reg.dmaChCount (i : Nat) : Nat := 0x400C0110 + 0x80 * i
/-- `DMA.CH[n].INDEX_BASE` (R395). -/
def Reg.dmaChIndexBase (i : Nat) : Nat := 0x400C0114 + 0x80 * i
/-- `DMA.CH[n].INDEX_N` (R395). -/
def Reg.dmaChIndexN (i : Nat) : Nat := 0x400C0118 + 0x80 * i
/-- `DMA.CH[n].ELEM` (R395). -/
def Reg.dmaChElem (i : Nat) : Nat := 0x400C011C + 0x80 * i
/-- `DMA.CH[n].INDEX_POS` (R395). -/
def Reg.dmaChIndexPos (i : Nat) : Nat := 0x400C0120 + 0x80 * i
def Fd.dmaChIndexPosIndex (i : Nat) : Fld := ⟨Reg.dmaChIndexPos i, 15, 0⟩
def Fd.dmaChIndexPosElemPos (i : Nat) : Fld := ⟨Reg.dmaChIndexPos i, 28, 16⟩
/-- `DMA.CH[n].SH_SRC` (R395). -/
def Reg.dmaChShSrc (i : Nat) : Nat := 0x400C0124 + 0x80 * i
/-- `DMA.CH[n].SH_DST` (R395). -/
def Reg.dmaChShDst (i : Nat) : Nat := 0x400C0128 + 0x80 * i
/-- `DMA.CH[n].SH_COUNT` (R395). -/
def Reg.dmaChShCount (i : Nat) : Nat := 0x400C012C + 0x80 * i
/-- `DMA.CH[n].SH_INDEX_BASE` (R395). -/
def Reg.dmaChShIndexBase (i : Nat) : Nat := 0x400C0130 + 0x80 * i
/-- `DMA.CH[n].SH_INDEX_N` (R395). -/
def Reg.dmaChShIndexN (i : Nat) : Nat := 0x400C0134 + 0x80 * i
/-- `DMA.CH[n].STATUS` (R395). -/
def Reg.dmaChStatus (i : Nat) : Nat := 0x400C0140 + 0x80 * i
def Fd.dmaChStatusFreeCr (i : Nat) : Fld := ⟨Reg.dmaChStatus i, 31, 27⟩
def Fd.dmaChStatusInFlight (i : Nat) : Fld := ⟨Reg.dmaChStatus i, 26, 22⟩
def Fd.dmaChStatusHeld (i : Nat) : Fld := ⟨Reg.dmaChStatus i, 21, 17⟩
def Fd.dmaChStatusFaultWr (i : Nat) : Fld := ⟨Reg.dmaChStatus i, 16, 16⟩
def Fd.dmaChStatusRefuse (i : Nat) : Fld := ⟨Reg.dmaChStatus i, 15, 12⟩
def Fd.dmaChStatusAppended (i : Nat) : Fld := ⟨Reg.dmaChStatus i, 5, 5⟩
def Fd.dmaChStatusDone (i : Nat) : Fld := ⟨Reg.dmaChStatus i, 4, 4⟩
def Fd.dmaChStatusState (i : Nat) : Fld := ⟨Reg.dmaChStatus i, 2, 0⟩
/-- `DMA.CH[n].FLAGS` (R395). -/
def Reg.dmaChFlags (i : Nat) : Nat := 0x400C0144 + 0x80 * i
def Fd.dmaChFlagsWriteWhileRunning (i : Nat) : Fld := ⟨Reg.dmaChFlags i, 3, 3⟩
def Fd.dmaChFlagsShadowBusy (i : Nat) : Fld := ⟨Reg.dmaChFlags i, 2, 2⟩
def Fd.dmaChFlagsLateAppend (i : Nat) : Fld := ⟨Reg.dmaChFlags i, 1, 1⟩
def Fd.dmaChFlagsBusErr (i : Nat) : Fld := ⟨Reg.dmaChFlags i, 0, 0⟩
/-- `DMA.CH[n].FAULT_ADDR` (R395). -/
def Reg.dmaChFaultAddr (i : Nat) : Nat := 0x400C0148 + 0x80 * i
/-- `DMA.CH[n].RETRY_COUNT` (R395). -/
def Reg.dmaChRetryCount (i : Nat) : Nat := 0x400C014C + 0x80 * i
def Fd.dmaChRetryCountCount (i : Nat) : Fld := ⟨Reg.dmaChRetryCount i, 15, 0⟩
def Fd.dmaChRetryCountSat (i : Nat) : Fld := ⟨Reg.dmaChRetryCount i, 16, 16⟩
/-- `CRN.STATUS` (R417). -/
def Reg.crnStatus : Nat := 0x400D0000
def Fd.crnStatusRefuse : Fld := ⟨Reg.crnStatus, 11, 8⟩
def Fd.crnStatusRetired : Fld := ⟨Reg.crnStatus, 5, 5⟩
def Fd.crnStatusMapCoarse : Fld := ⟨Reg.crnStatus, 4, 4⟩
def Fd.crnStatusValid : Fld := ⟨Reg.crnStatus, 3, 3⟩
def Fd.crnStatusStepped : Fld := ⟨Reg.crnStatus, 1, 1⟩
def Fd.crnStatusArmed : Fld := ⟨Reg.crnStatus, 0, 0⟩
/-- `CRN.FLAGS` (R417). -/
def Reg.crnFlags : Nat := 0x400D0004
def Fd.crnFlagsLeaseEnd : Fld := ⟨Reg.crnFlags, 2, 2⟩
def Fd.crnFlagsRange : Fld := ⟨Reg.crnFlags, 1, 1⟩
def Fd.crnFlagsCmdRefused : Fld := ⟨Reg.crnFlags, 0, 0⟩
/-- `CRN.CTRL` (R417). -/
def Reg.crnCtrl : Nat := 0x400D0008
def Fd.crnCtrlArm : Fld := ⟨Reg.crnCtrl, 0, 0⟩
def Fd.crnCtrlStep : Fld := ⟨Reg.crnCtrl, 1, 1⟩
/-- `CRN.SYNC` (R417). -/
def Reg.crnSync : Nat := 0x400D000C
def Fd.crnSyncLease : Fld := ⟨Reg.crnSync, 7, 0⟩
/-- `CRN.NOW_NS` (R417). -/
def Reg.crnNowNs : Nat := 0x400D0010
/-- `CRN.NOW_S_LO` (R417). -/
def Reg.crnNowSLo : Nat := 0x400D0014
/-- `CRN.NOW_S_HI` (R417). -/
def Reg.crnNowSHi : Nat := 0x400D0018
/-- `CRN.RATE_LO` (R417). -/
def Reg.crnRateLo : Nat := 0x400D0020
/-- `CRN.RATE_HI` (R417). -/
def Reg.crnRateHi : Nat := 0x400D0024
def Fd.crnRateHiRate : Fld := ⟨Reg.crnRateHi, 7, 0⟩
/-- `CRN.STEP_S_LO` (R417). -/
def Reg.crnStepSLo : Nat := 0x400D0030
/-- `CRN.STEP_S_HI` (R417). -/
def Reg.crnStepSHi : Nat := 0x400D0034
/-- `CRN.STEP_NS` (R417). -/
def Reg.crnStepNs : Nat := 0x400D0038
/-- `CRN.LEASE_LEFT` (R417). -/
def Reg.crnLeaseLeft : Nat := 0x400D0040
/-- `CRN.STEPS` (R417). -/
def Reg.crnSteps : Nat := 0x400D0044
def Fd.crnStepsCount : Fld := ⟨Reg.crnSteps, 15, 0⟩
def Fd.crnStepsSat : Fld := ⟨Reg.crnSteps, 16, 16⟩
/-- `MAC.CTRL` (R418). -/
def Reg.macCtrl : Nat := 0x400E0000
def Fd.macCtrlTxEn : Fld := ⟨Reg.macCtrl, 0, 0⟩
def Fd.macCtrlRxEn : Fld := ⟨Reg.macCtrl, 1, 1⟩
def Fd.macCtrlSpeed : Fld := ⟨Reg.macCtrl, 5, 4⟩
/-- `MAC.CFG` (R418). -/
def Reg.macCfg : Nat := 0x400E0004
def Fd.macCfgTxDly : Fld := ⟨Reg.macCfg, 0, 0⟩
def Fd.macCfgRxDly : Fld := ⟨Reg.macCfg, 1, 1⟩
def Fd.macCfgPromisc : Fld := ⟨Reg.macCfg, 2, 2⟩
/-- `MAC.FLAGS` (R418). -/
def Reg.macFlags : Nat := 0x400E0008
def Fd.macFlagsRxDrop : Fld := ⟨Reg.macFlags, 0, 0⟩
def Fd.macFlagsRingRange : Fld := ⟨Reg.macFlags, 1, 1⟩
def Fd.macFlagsMdioBusy : Fld := ⟨Reg.macFlags, 2, 2⟩
def Fd.macFlagsWriteWhileRunning : Fld := ⟨Reg.macFlags, 3, 3⟩
/-- `MAC.ADDR_LO` (R418). -/
def Reg.macAddrLo : Nat := 0x400E0010
/-- `MAC.ADDR_HI` (R418). -/
def Reg.macAddrHi : Nat := 0x400E0014
/-- `MAC.RX_LAT` (R418). -/
def Reg.macRxLat : Nat := 0x400E0018
/-- `MAC.TX_LAT` (R418). -/
def Reg.macTxLat : Nat := 0x400E001C
/-- `MAC.MDIO_CMD` (R418). -/
def Reg.macMdioCmd : Nat := 0x400E0020
def Fd.macMdioCmdBusy : Fld := ⟨Reg.macMdioCmd, 31, 31⟩
def Fd.macMdioCmdC45 : Fld := ⟨Reg.macMdioCmd, 30, 30⟩
def Fd.macMdioCmdOp : Fld := ⟨Reg.macMdioCmd, 29, 28⟩
def Fd.macMdioCmdPhyad : Fld := ⟨Reg.macMdioCmd, 25, 21⟩
def Fd.macMdioCmdRegad : Fld := ⟨Reg.macMdioCmd, 20, 16⟩
def Fd.macMdioCmdData : Fld := ⟨Reg.macMdioCmd, 15, 0⟩
/-- `MAC.MDIO_DATA` (R418). -/
def Reg.macMdioData : Nat := 0x400E0024
/-- `MAC.RX_ERR` (R418). -/
def Reg.macRxErr : Nat := 0x400E0028
def Fd.macRxErrCount : Fld := ⟨Reg.macRxErr, 15, 0⟩
def Fd.macRxErrSat : Fld := ⟨Reg.macRxErr, 16, 16⟩
/-- `MAC.RXQ[r].BASE` (R418). -/
def Reg.macRxqBase (i : Nat) : Nat := 0x400E0080 + 0x10 * i
/-- `MAC.RXQ[r].SLOTS` (R418). -/
def Reg.macRxqSlots (i : Nat) : Nat := 0x400E0084 + 0x10 * i
/-- `MAC.RXQ[r].HEAD` (R418). -/
def Reg.macRxqHead (i : Nat) : Nat := 0x400E0088 + 0x10 * i
/-- `MAC.RXQ[r].DROP` (R418). -/
def Reg.macRxqDrop (i : Nat) : Nat := 0x400E008C + 0x10 * i
def Fd.macRxqDropCount (i : Nat) : Fld := ⟨Reg.macRxqDrop i, 15, 0⟩
def Fd.macRxqDropSat (i : Nat) : Fld := ⟨Reg.macRxqDrop i, 16, 16⟩
/-- `MAC.TQ[q].BASE` (R418). -/
def Reg.macTqBase (i : Nat) : Nat := 0x400E0100 + 0x20 * i
/-- `MAC.TQ[q].CFG` (R418). -/
def Reg.macTqCfg (i : Nat) : Nat := 0x400E0104 + 0x20 * i
def Fd.macTqCfgSize (i : Nat) : Fld := ⟨Reg.macTqCfg i, 8, 0⟩
def Fd.macTqCfgLateDrop (i : Nat) : Fld := ⟨Reg.macTqCfg i, 16, 16⟩
/-- `MAC.TQ[q].TAIL` (R418). -/
def Reg.macTqTail (i : Nat) : Nat := 0x400E0108 + 0x20 * i
/-- `MAC.TQ[q].RECLAIM` (R418). -/
def Reg.macTqReclaim (i : Nat) : Nat := 0x400E010C + 0x20 * i
/-- `MAC.TQ[q].STATUS` (R418). -/
def Reg.macTqStatus (i : Nat) : Nat := 0x400E0110 + 0x20 * i
def Fd.macTqStatusDone (i : Nat) : Fld := ⟨Reg.macTqStatus i, 28, 20⟩
def Fd.macTqStatusMac (i : Nat) : Fld := ⟨Reg.macTqStatus i, 17, 9⟩
def Fd.macTqStatusHost (i : Nat) : Fld := ⟨Reg.macTqStatus i, 8, 0⟩
/-- `MAC.TQ[q].HEAD` (R418). -/
def Reg.macTqHead (i : Nat) : Nat := 0x400E0114 + 0x20 * i
/-- `MAC.TQ[q].LATE` (R418). -/
def Reg.macTqLate (i : Nat) : Nat := 0x400E0118 + 0x20 * i
def Fd.macTqLateCount (i : Nat) : Fld := ⟨Reg.macTqLate i, 15, 0⟩
def Fd.macTqLateSat (i : Nat) : Fld := ⟨Reg.macTqLate i, 16, 16⟩
/-- `THM.STATUS` (R429). -/
def Reg.thmStatus : Nat := 0x40100000
def Fd.thmStatusFaultAny : Fld := ⟨Reg.thmStatus, 13, 13⟩
def Fd.thmStatusShutAny : Fld := ⟨Reg.thmStatus, 12, 12⟩
def Fd.thmStatusThrAny : Fld := ⟨Reg.thmStatus, 11, 11⟩
def Fd.thmStatusWarnAny : Fld := ⟨Reg.thmStatus, 10, 10⟩
def Fd.thmStatusAtFloor : Fld := ⟨Reg.thmStatus, 9, 9⟩
def Fd.thmStatusRecovering : Fld := ⟨Reg.thmStatus, 8, 8⟩
def Fd.thmStatusScale : Fld := ⟨Reg.thmStatus, 5, 0⟩
/-- `THM.FLAGS` (R429). -/
def Reg.thmFlags : Nat := 0x40100004
def Fd.thmFlagsFloor : Fld := ⟨Reg.thmFlags, 6, 6⟩
def Fd.thmFlagsSensFault : Fld := ⟨Reg.thmFlags, 5, 5⟩
def Fd.thmFlagsShutdown : Fld := ⟨Reg.thmFlags, 4, 4⟩
def Fd.thmFlagsThrottle : Fld := ⟨Reg.thmFlags, 3, 3⟩
def Fd.thmFlagsWarn : Fld := ⟨Reg.thmFlags, 2, 2⟩
def Fd.thmFlagsRange : Fld := ⟨Reg.thmFlags, 1, 1⟩
def Fd.thmFlagsWriteWhileRunning : Fld := ⟨Reg.thmFlags, 0, 0⟩
/-- `THM.CTRL` (R429). -/
def Reg.thmCtrl : Nat := 0x40100008
def Fd.thmCtrlFloor : Fld := ⟨Reg.thmCtrl, 5, 0⟩
def Fd.thmCtrlRecoverN : Fld := ⟨Reg.thmCtrl, 15, 8⟩
/-- `THM.STEPS` (R429). -/
def Reg.thmSteps : Nat := 0x4010000C
def Fd.thmStepsCount : Fld := ⟨Reg.thmSteps, 15, 0⟩
def Fd.thmStepsSat : Fld := ⟨Reg.thmSteps, 16, 16⟩
/-- `THM.SENS[n].CTRL` (R429). -/
def Reg.thmSensCtrl (i : Nat) : Nat := 0x40100100 + 0x20 * i
def Fd.thmSensCtrlEn (i : Nat) : Fld := ⟨Reg.thmSensCtrl i, 0, 0⟩
/-- `THM.SENS[n].CFG` (R429). -/
def Reg.thmSensCfg (i : Nat) : Nat := 0x40100104 + 0x20 * i
def Fd.thmSensCfgEta (i : Nat) : Fld := ⟨Reg.thmSensCfg i, 31, 16⟩
def Fd.thmSensCfgShutEn (i : Nat) : Fld := ⟨Reg.thmSensCfg i, 9, 9⟩
def Fd.thmSensCfgThrEn (i : Nat) : Fld := ⟨Reg.thmSensCfg i, 8, 8⟩
def Fd.thmSensCfgFaultAct (i : Nat) : Fld := ⟨Reg.thmSensCfg i, 5, 4⟩
def Fd.thmSensCfgType (i : Nat) : Fld := ⟨Reg.thmSensCfg i, 1, 0⟩
/-- `THM.SENS[n].R25` (R429). -/
def Reg.thmSensR25 (i : Nat) : Nat := 0x40100108 + 0x20 * i
/-- `THM.SENS[n].BETA` (R429). -/
def Reg.thmSensBeta (i : Nat) : Nat := 0x4010010C + 0x20 * i
/-- `THM.SENS[n].LIM_WT` (R429). -/
def Reg.thmSensLimWt (i : Nat) : Nat := 0x40100110 + 0x20 * i
def Fd.thmSensLimWtWarn (i : Nat) : Fld := ⟨Reg.thmSensLimWt i, 15, 0⟩
def Fd.thmSensLimWtThrottle (i : Nat) : Fld := ⟨Reg.thmSensLimWt i, 31, 16⟩
/-- `THM.SENS[n].LIM_S` (R429). -/
def Reg.thmSensLimS (i : Nat) : Nat := 0x40100114 + 0x20 * i
def Fd.thmSensLimSShutdown (i : Nat) : Fld := ⟨Reg.thmSensLimS i, 15, 0⟩
/-- `THM.SENS[n].HYST` (R429). -/
def Reg.thmSensHyst (i : Nat) : Nat := 0x40100118 + 0x20 * i
def Fd.thmSensHystHystW (i : Nat) : Fld := ⟨Reg.thmSensHyst i, 7, 0⟩
def Fd.thmSensHystHystT (i : Nat) : Fld := ⟨Reg.thmSensHyst i, 15, 8⟩
def Fd.thmSensHystHystS (i : Nat) : Fld := ⟨Reg.thmSensHyst i, 23, 16⟩
/-- `THM.SENS[n].TEMP` (R429). -/
def Reg.thmSensTemp (i : Nat) : Nat := 0x4010011C + 0x20 * i
def Fd.thmSensTempRetired (i : Nat) : Fld := ⟨Reg.thmSensTemp i, 22, 22⟩
def Fd.thmSensTempFault (i : Nat) : Fld := ⟨Reg.thmSensTemp i, 21, 21⟩
def Fd.thmSensTempShut (i : Nat) : Fld := ⟨Reg.thmSensTemp i, 20, 20⟩
def Fd.thmSensTempThr (i : Nat) : Fld := ⟨Reg.thmSensTemp i, 19, 19⟩
def Fd.thmSensTempWarn (i : Nat) : Fld := ⟨Reg.thmSensTemp i, 18, 18⟩
def Fd.thmSensTempFast (i : Nat) : Fld := ⟨Reg.thmSensTemp i, 17, 17⟩
def Fd.thmSensTempValid (i : Nat) : Fld := ⟨Reg.thmSensTemp i, 16, 16⟩
def Fd.thmSensTempReading (i : Nat) : Fld := ⟨Reg.thmSensTemp i, 15, 0⟩
/-- `COL.STATUS` (R446). -/
def Reg.colStatus : Nat := 0x40150000
def Fd.colStatusInLevel : Fld := ⟨Reg.colStatus, 8, 0⟩
def Fd.colStatusOutLevel : Fld := ⟨Reg.colStatus, 24, 16⟩
/-- `COL.FLAGS` (R446). -/
def Reg.colFlags : Nat := 0x40150004
def Fd.colFlagsInOverflow : Fld := ⟨Reg.colFlags, 0, 0⟩
def Fd.colFlagsInUnderrun : Fld := ⟨Reg.colFlags, 1, 1⟩
def Fd.colFlagsOutOverflow : Fld := ⟨Reg.colFlags, 2, 2⟩
def Fd.colFlagsOutUnderrun : Fld := ⟨Reg.colFlags, 3, 3⟩
def Fd.colFlagsWrongSide : Fld := ⟨Reg.colFlags, 4, 4⟩
/-- `COL.IN_PUSH` (R446). -/
def Reg.colInPush : Nat := 0x40150008
/-- `COL.IN_POP` (R446). -/
def Reg.colInPop : Nat := 0x4015000C
/-- `COL.OUT_PUSH` (R446). -/
def Reg.colOutPush : Nat := 0x40150010
/-- `COL.OUT_POP` (R446). -/
def Reg.colOutPop : Nat := 0x40150014
/-- `COL.THRESH` (R446). -/
def Reg.colThresh : Nat := 0x40150018
def Fd.colThreshInThresh : Fld := ⟨Reg.colThresh, 7, 0⟩
def Fd.colThreshOutThresh : Fld := ⟨Reg.colThresh, 23, 16⟩
/-- `COL.INT_PEND` (R446). -/
def Reg.colIntPend : Nat := 0x4015001C
def Fd.colIntPendOutReady : Fld := ⟨Reg.colIntPend, 0, 0⟩
def Fd.colIntPendInEmpty : Fld := ⟨Reg.colIntPend, 1, 1⟩
def Fd.colIntPendDb : Fld := ⟨Reg.colIntPend, 15, 8⟩
/-- `COL.DOORBELL` (R446). -/
def Reg.colDoorbell : Nat := 0x40150020
/-- `COL.INT_EN0` (R446). -/
def Reg.colIntEn0 : Nat := 0x40150024
/-- `COL.INT_EN1` (R446). -/
def Reg.colIntEn1 : Nat := 0x40150028
/-- `COL.GW_STATUS` (R447). -/
def Reg.colGwStatus : Nat := 0x40150000
def Fd.colGwStatusBoot : Fld := ⟨Reg.colGwStatus, 1, 0⟩
/-- `COL.GW_FLAGS` (R447). -/
def Reg.colGwFlags : Nat := 0x40150004
def Fd.colGwFlagsUnmapped : Fld := ⟨Reg.colGwFlags, 0, 0⟩
def Fd.colGwFlagsBootExtra : Fld := ⟨Reg.colGwFlags, 1, 1⟩
/-- `COL.GW_BOOT_DATA` (R447). -/
def Reg.colGwBootData : Nat := 0x40150008
/-- `COL.GW_BOOT_COUNT` (R447). -/
def Reg.colGwBootCount : Nat := 0x4015000C
/-- `COL.GW_INT_PEND` (R447). -/
def Reg.colGwIntPend : Nat := 0x40150010
def Fd.colGwIntPendRole : Fld := ⟨Reg.colGwIntPend, 0, 0⟩
def Fd.colGwIntPendSafe : Fld := ⟨Reg.colGwIntPend, 1, 1⟩
def Fd.colGwIntPendSafDemand : Fld := ⟨Reg.colGwIntPend, 2, 2⟩
def Fd.colGwIntPendBootWait : Fld := ⟨Reg.colGwIntPend, 3, 3⟩
def Fd.colGwIntPendDiv : Fld := ⟨Reg.colGwIntPend, 4, 4⟩
/-- `COL.GW_INT_EN0` (R447). -/
def Reg.colGwIntEn0 : Nat := 0x40150014
/-- `COL.GW_INT_EN1` (R447). -/
def Reg.colGwIntEn1 : Nat := 0x40150018
/-- `COL.GW_FRAMES` (R447). -/
def Reg.colGwFrames : Nat := 0x4015001C
def Fd.colGwFramesCount : Fld := ⟨Reg.colGwFrames, 15, 0⟩
def Fd.colGwFramesSat : Fld := ⟨Reg.colGwFrames, 16, 16⟩
/-- `COL.GW_CRC_ERRS` (R447). -/
def Reg.colGwCrcErrs : Nat := 0x40150020
def Fd.colGwCrcErrsCount : Fld := ⟨Reg.colGwCrcErrs, 15, 0⟩
def Fd.colGwCrcErrsSat : Fld := ⟨Reg.colGwCrcErrs, 16, 16⟩
/-- `OBS.TRC_CTRL` (R448). -/
def Reg.obsTrcCtrl : Nat := 0x40160000
def Fd.obsTrcCtrlEn : Fld := ⟨Reg.obsTrcCtrl, 0, 0⟩
def Fd.obsTrcCtrlTypes : Fld := ⟨Reg.obsTrcCtrl, 15, 1⟩
/-- `OBS.TRC_LOST` (R448). -/
def Reg.obsTrcLost : Nat := 0x40160004
def Fd.obsTrcLostCount : Fld := ⟨Reg.obsTrcLost, 15, 0⟩
def Fd.obsTrcLostSat : Fld := ⟨Reg.obsTrcLost, 16, 16⟩
/-- `OBS.CNT[k].SEL` (R448). -/
def Reg.obsCntSel (i : Nat) : Nat := 0x40160100 + 0x10 * i
def Fd.obsCntSelSrc (i : Nat) : Fld := ⟨Reg.obsCntSel i, 7, 0⟩
def Fd.obsCntSelArg (i : Nat) : Fld := ⟨Reg.obsCntSel i, 15, 8⟩
/-- `OBS.CNT[k].CTRL` (R448). -/
def Reg.obsCntCtrl (i : Nat) : Nat := 0x40160104 + 0x10 * i
def Fd.obsCntCtrlEn (i : Nat) : Fld := ⟨Reg.obsCntCtrl i, 0, 0⟩
/-- `OBS.CNT[k].LO` (R448). -/
def Reg.obsCntLo (i : Nat) : Nat := 0x40160108 + 0x10 * i
/-- `OBS.CNT[k].HI` (R448). -/
def Reg.obsCntHi (i : Nat) : Nat := 0x4016010C + 0x10 * i
def Fd.obsCntHiCount (i : Nat) : Fld := ⟨Reg.obsCntHi i, 15, 0⟩
def Fd.obsCntHiSat (i : Nat) : Fld := ⟨Reg.obsCntHi i, 16, 16⟩
/-- `TAL.CH[c].CFG_PRE` (R394). -/
def Reg.talChCfgPre (i : Nat) : Nat := 0x4004021C + 0x20 * i
def Fd.talChCfgPrePreBufs (i : Nat) : Fld := ⟨Reg.talChCfgPre i, 5, 0⟩
/-- `SYS.DEVID` (R3). -/
def Reg.sysDevid : Nat := 0x40000000
def Fd.sysDevidPart : Fld := ⟨Reg.sysDevid, 31, 16⟩
def Fd.sysDevidTemp : Fld := ⟨Reg.sysDevid, 9, 8⟩
def Fd.sysDevidRevMajor : Fld := ⟨Reg.sysDevid, 7, 4⟩
def Fd.sysDevidRevMinor : Fld := ⟨Reg.sysDevid, 3, 0⟩
/-- `MAC.MCAST[m].LO` (R418). -/
def Reg.macMcastLo (i : Nat) : Nat := 0x400E0030 + 0x8 * i
/-- `MAC.MCAST[m].HI` (R418). -/
def Reg.macMcastHi (i : Nat) : Nat := 0x400E0034 + 0x8 * i

end Sys2Proof.Machine
end

