-- ==== Sys2Proof/Machine/RegMap.lean ====
section
/-! DEFINITION. The register map: for each register of the spec its address, its array counts and strides, the bits of each access
code (R5) and its reset value. -/

namespace Sys2Proof.Machine

/-- One row of a register table. `c0`, `s0`, `c1`, `s1` are the counts and strides of up to two indexes (count 1 where there is
none). The masks give the bits of each access code of R5; bits in none of them are reserved (R6). -/
structure RegRow where
  name : String
  base : Nat
  c0 : Nat
  s0 : Nat
  c1 : Nat
  s1 : Nat
  ro : Nat
  rw : Nat
  wo : Nat
  w1c : Nat
  w1s : Nat
  rc : Nat
  rws : Nat
  reset : Nat
  deriving DecidableEq, Repr

/-- Does the row name the word at `a`? -/
def RegRow.has (r : RegRow) (a : Nat) : Bool :=
  decide (r.base ≤ a) &&
  (let o := a - r.base
   decide (o / r.s0 < r.c0) && decide (o % r.s0 / r.s1 < r.c1) && decide (o % r.s0 % r.s1 = 0))

/-- The first row that names the word at `a`. -/
def findRow : List RegRow → Nat → Option RegRow
  | [], _ => none
  | r :: rs, a => if r.has a then some r else findRow rs a

def regRowsPwm0 : List RegRow := [
  ⟨"PWM.BATON", 0x4005FFF0, 1, 0x10000, 1, 0x10000, 0xFFFF0007, 0x0, 0x0, 0x0, 0x0, 0x0, 0x0, 0x3⟩,
  ⟨"PWM.PERIOD_TB", 0x4005FFF4, 1, 0x10000, 1, 0x10000, 0x0, 0x0, 0x0, 0x0, 0x0, 0x0, 0x7, 0x0⟩,
  ⟨"PWM.STATUS", 0x40050000, 1, 0x10000, 1, 0x10000, 0x3FFFF, 0x0, 0x0, 0x0, 0x0, 0x0, 0x0, 0x0⟩,
  ⟨"PWM.FLAGS", 0x40050004, 1, 0x10000, 1, 0x10000, 0x0, 0x0, 0x0, 0x3FF, 0x0, 0x0, 0x0, 0x0⟩,
  ⟨"PWM.TB_CMD", 0x40050008, 1, 0x10000, 1, 0x10000, 0x0, 0x0, 0xFFFF, 0x0, 0x0, 0x0, 0x0, 0x0⟩,
  ⟨"PWM.LATE_COUNT", 0x4005000C, 1, 0x10000, 1, 0x10000, 0x0, 0x0, 0x0, 0x0, 0x0, 0x1FFFF, 0x0, 0x0⟩,
  ⟨"PWM.TB[n].PRD", 0x40050100, 8, 0x20, 1, 0x20, 0x0, 0xFFFFF, 0x0, 0x0, 0x0, 0x0, 0x0, 0xFFFFF⟩,
  ⟨"PWM.TB[n].COUNT", 0x40050104, 8, 0x20, 1, 0x20, 0xFFFFF, 0x0, 0x0, 0x0, 0x0, 0x0, 0x0, 0x0⟩,
  ⟨"PWM.TB[n].STATUS", 0x40050108, 8, 0x20, 1, 0x20, 0x1F, 0x0, 0x0, 0x0, 0x0, 0x0, 0x0, 0x0⟩,
  ⟨"PWM.TB[n].ALIGN", 0x4005010C, 8, 0x20, 1, 0x20, 0x0, 0x0, 0x0, 0x0, 0x0, 0x0, 0x3, 0x0⟩,
  ⟨"PWM.TB[n].ALIGN_S", 0x40050110, 8, 0x20, 1, 0x20, 0x0, 0x0, 0x0, 0x0, 0x0, 0x0, 0xFFFFFFFF, 0x0⟩,
  ⟨"PWM.TB[n].ALIGN_NS", 0x40050114, 8, 0x20, 1, 0x20, 0x0, 0x0, 0x0, 0x0, 0x0, 0x0, 0x3FFFFFFF, 0x0⟩,
  ⟨"PWM.TB[n].CAIRN_ERR", 0x40050118, 8, 0x20, 1, 0x20, 0xFFFFFFFF, 0x0, 0x0, 0x0, 0x0, 0x0, 0x0, 0x0⟩,
  ⟨"PWM.TB[n].CORR_COUNT", 0x4005011C, 8, 0x20, 1, 0x20, 0x0, 0x0, 0x0, 0x0, 0x0, 0x1FFFF, 0x0, 0x0⟩,
  ⟨"PWM.PAIR[p].CFG", 0x40050200, 32, 0x10, 1, 0x10, 0x0, 0x1, 0x0, 0x0, 0x0, 0x0, 0x0, 0x0⟩,
  ⟨"PWM.PAIR[p].DT", 0x40050204, 32, 0x10, 1, 0x10, 0x0, 0xFFFF, 0x0, 0x0, 0x0, 0x0, 0x0, 0x6400⟩,
  ⟨"PWM.PAIR[p].MINPW", 0x40050208, 32, 0x10, 1, 0x10, 0x0, 0xFFFF, 0x0, 0x0, 0x0, 0x0, 0x0, 0x3200⟩,
  ⟨"PWM.PAIR[p].STATUS", 0x4005020C, 32, 0x10, 1, 0x10, 0xFF, 0x0, 0x0, 0x0, 0x0, 0x0, 0x0, 0x0⟩,
  ⟨"PWM.CMP[c]", 0x40050400, 32, 0x4, 1, 0x4, 0x0, 0xFFFFFFFF, 0x0, 0x0, 0x0, 0x0, 0x0, 0x0⟩,
  ⟨"PWM.COMMIT", 0x40050480, 1, 0x10000, 1, 0x10000, 0x0, 0x0, 0xFF, 0x0, 0x0, 0x0, 0x0, 0x0⟩,
  ⟨"PWM.CH[c].CFG", 0x40050500, 32, 0x4, 1, 0x4, 0x0, 0x0, 0x0, 0x0, 0x0, 0x0, 0x1F07, 0x0⟩,
  ⟨"PWM.ACT[c]", 0x40050580, 32, 0x4, 1, 0x4, 0xFFFFFFFF, 0x0, 0x0, 0x0, 0x0, 0x0, 0x0, 0x0⟩,
  ⟨"PWM.GRP[g].CFG", 0x40050600, 8, 0x4, 1, 0x4, 0x0, 0x0, 0x0, 0x0, 0x0, 0x0, 0x17, 0x0⟩]

/-- The registers of block PWM. -/
def regRowsPwm : List RegRow := regRowsPwm0

def regRowsClk0 : List RegRow := [
  ⟨"CLK.CTRL", 0x40010000, 1, 0x10000, 1, 0x10000, 0x0, 0xFF, 0x0, 0x0, 0x0, 0x0, 0x0, 0x80⟩,
  ⟨"CLK.STATUS", 0x40010004, 1, 0x10000, 1, 0x10000, 0x1F01FFF, 0x0, 0x0, 0x0, 0x0, 0x0, 0x0, 0x0⟩,
  ⟨"CLK.FLAGS", 0x40010008, 1, 0x10000, 1, 0x10000, 0x0, 0x0, 0x0, 0x3F, 0x0, 0x0, 0x0, 0x0⟩,
  ⟨"CLK.LOL_COUNT", 0x4001000C, 1, 0x10000, 1, 0x10000, 0x0, 0x0, 0x0, 0x0, 0x0, 0x1FFFF, 0x0, 0x0⟩,
  ⟨"CLK.XTO", 0x40010010, 1, 0x10000, 1, 0x10000, 0xF, 0x0, 0x0, 0x0, 0x0, 0x0, 0x0, 0x0⟩,
  ⟨"CLK.XTO_ADDR", 0x40010014, 1, 0x10000, 1, 0x10000, 0xFFFFFFFF, 0x0, 0x0, 0x0, 0x0, 0x0, 0x0, 0x0⟩,
  ⟨"CLK.BIVOUAC", 0x40010020, 1, 0x10000, 1, 0x10000, 0x0, 0x0, 0xFFFF0001, 0x0, 0x0, 0x0, 0x0, 0x0⟩,
  ⟨"CLK.BIV_STATUS", 0x40010024, 1, 0x10000, 1, 0x10000, 0x710F, 0x0, 0x0, 0x0, 0x0, 0x0, 0x0, 0x0⟩,
  ⟨"CLK.WAKE_CFG", 0x40010028, 1, 0x10000, 1, 0x10000, 0x0, 0x7FD, 0x0, 0x0, 0x0, 0x0, 0x0, 0x0⟩,
  ⟨"CLK.WAKE_TIME", 0x4001002C, 1, 0x10000, 1, 0x10000, 0x0, 0xFFFFFFFF, 0x0, 0x0, 0x0, 0x0, 0x0, 0x0⟩,
  ⟨"CLK.KEEP[n]", 0x40010030, 4, 0x4, 1, 0x4, 0x0, 0xFFFFFFFF, 0x0, 0x0, 0x0, 0x0, 0x0, 0x0⟩]

/-- The registers of block CLK. -/
def regRowsClk : List RegRow := regRowsClk0

def regRowsBoot0 : List RegRow := [
  ⟨"BOOT.CAUSE", 0x40170000, 1, 0x10000, 1, 0x10000, 0x1F, 0x0, 0x0, 0x0, 0x0, 0x0, 0x0, 0x0⟩,
  ⟨"BOOT.STATUS", 0x40170004, 1, 0x10000, 1, 0x10000, 0xFFFFF, 0x0, 0x0, 0x0, 0x0, 0x0, 0x0, 0x0⟩,
  ⟨"BOOT.HANDOVER", 0x40170008, 1, 0x10000, 1, 0x10000, 0xFFFF, 0x0, 0x0, 0x0, 0x0, 0x0, 0x0, 0x0⟩]

/-- The registers of block BOOT. -/
def regRowsBoot : List RegRow := regRowsBoot0

def regRowsLcs0 : List RegRow := [
  ⟨"LCS.STATE", 0x40140000, 1, 0x10000, 1, 0x10000, 0x103, 0x0, 0x0, 0x0, 0x0, 0x0, 0x0, 0x0⟩,
  ⟨"LCS.KEYSTAT", 0x40140004, 1, 0x10000, 1, 0x10000, 0xFFF, 0x0, 0x0, 0x0, 0x0, 0x0, 0x0, 0x0⟩,
  ⟨"LCS.SVN", 0x40140008, 1, 0x10000, 1, 0x10000, 0x7F, 0x0, 0x0, 0x0, 0x0, 0x0, 0x0, 0x0⟩,
  ⟨"LCS.PROG_CMD", 0x40140010, 1, 0x10000, 1, 0x10000, 0x0, 0x0, 0xFFFFFF7F, 0x0, 0x0, 0x0, 0x0, 0x0⟩,
  ⟨"LCS.PROG_STATUS", 0x40140014, 1, 0x10000, 1, 0x10000, 0x1F, 0x0, 0x0, 0x0, 0x0, 0x0, 0x0, 0x0⟩,
  ⟨"LCS.PROG_DATA[n]", 0x40140020, 8, 0x4, 1, 0x4, 0x0, 0x0, 0xFFFFFFFF, 0x0, 0x0, 0x0, 0x0, 0x0⟩,
  ⟨"LCS.KEYHASH[s][k]", 0x40140100, 4, 0x20, 8, 0x4, 0xFFFFFFFF, 0x0, 0x0, 0x0, 0x0, 0x0, 0x0, 0x0⟩]

/-- The registers of block LCS. -/
def regRowsLcs : List RegRow := regRowsLcs0

def regRowsBst0 : List RegRow := [
  ⟨"BST.CTRL", 0x40130000, 1, 0x10000, 1, 0x10000, 0x0, 0x701, 0x0, 0x0, 0x0, 0x0, 0x0, 0x0⟩,
  ⟨"BST.MASK", 0x40130004, 1, 0x10000, 1, 0x10000, 0x0, 0xFFFFFFFF, 0x0, 0x0, 0x0, 0x0, 0x0, 0x0⟩,
  ⟨"BST.STATUS", 0x40130008, 1, 0x10000, 1, 0x10000, 0xF7, 0x0, 0x0, 0x0, 0x0, 0x0, 0x0, 0x0⟩,
  ⟨"BST.PASS[n]", 0x40130100, 8, 0x4, 1, 0x4, 0xFFFFFFFF, 0x0, 0x0, 0x0, 0x0, 0x0, 0x0, 0x0⟩,
  ⟨"BST.DONE[n]", 0x40130120, 8, 0x4, 1, 0x4, 0xFFFFFFFF, 0x0, 0x0, 0x0, 0x0, 0x0, 0x0, 0x0⟩,
  ⟨"BST.LOCAL[n]", 0x40130140, 3, 0x4, 1, 0x4, 0xFFFFFFFF, 0x0, 0x0, 0x0, 0x0, 0x0, 0x0, 0x0⟩]

/-- The registers of block BST. -/
def regRowsBst : List RegRow := regRowsBst0

def regRowsSys0 : List RegRow := [
  ⟨"SYS.FAULT", 0x40000010, 1, 0x10000, 1, 0x10000, 0xFF00, 0x0, 0x0, 0x1, 0x0, 0x0, 0x0, 0x0⟩,
  ⟨"SYS.FAULT_ADDR", 0x40000014, 1, 0x10000, 1, 0x10000, 0xFFFFFFFF, 0x0, 0x0, 0x0, 0x0, 0x0, 0x0, 0x0⟩,
  ⟨"SYS.CORE[n].STATUS", 0x40000100, 8, 0x20, 1, 0x20, 0xFF07, 0x0, 0x0, 0x0, 0x0, 0x0, 0x0, 0x0⟩,
  ⟨"SYS.CORE[n].FLAGS", 0x40000104, 8, 0x20, 1, 0x20, 0x0, 0x0, 0x0, 0x1F, 0x0, 0x0, 0x0, 0x0⟩,
  ⟨"SYS.CORE[n].FAULT_PC", 0x40000108, 8, 0x20, 1, 0x20, 0xFFFFFFFF, 0x0, 0x0, 0x0, 0x0, 0x0, 0x0, 0x0⟩,
  ⟨"SYS.CORE[n].FAULT_INFO", 0x4000010C, 8, 0x20, 1, 0x20, 0x0, 0x0, 0x0, 0x0, 0x0, 0x1FF0F, 0x0, 0x0⟩,
  ⟨"SYS.CORE[n].FAULT_ADDR", 0x40000110, 8, 0x20, 1, 0x20, 0xFFFFFFFF, 0x0, 0x0, 0x0, 0x0, 0x0, 0x0, 0x0⟩,
  ⟨"SYS.CORE[n].CYCLES_LO", 0x40000114, 8, 0x20, 1, 0x20, 0xFFFFFFFF, 0x0, 0x0, 0x0, 0x0, 0x0, 0x0, 0x0⟩,
  ⟨"SYS.CORE[n].CYCLES_HI", 0x40000118, 8, 0x20, 1, 0x20, 0xFFFF, 0x0, 0x0, 0x0, 0x0, 0x0, 0x0, 0x0⟩,
  ⟨"SYS.DEVID", 0x40000000, 1, 0x10000, 1, 0x10000, 0xFFFF03FF, 0x0, 0x0, 0x0, 0x0, 0x0, 0x0, 0x96000021⟩]

/-- The registers of block SYS. -/
def regRowsSys : List RegRow := regRowsSys0

def regRowsTrv0 : List RegRow := [
  ⟨"TRV.CMD", 0x400B0000, 1, 0x10000, 1, 0x10000, 0x0, 0x0, 0xFF03, 0x0, 0x0, 0x0, 0x0, 0x0⟩,
  ⟨"TRV.CMD_STATUS", 0x400B0004, 1, 0x10000, 1, 0x10000, 0xFF1F, 0x0, 0x0, 0x0, 0x0, 0x0, 0x0, 0x0⟩,
  ⟨"TRV.STATUS", 0x400B0008, 1, 0x10000, 1, 0x10000, 0x7FFFF, 0x0, 0x0, 0x0, 0x0, 0x0, 0x0, 0x0⟩,
  ⟨"TRV.FLAGS", 0x400B000C, 1, 0x10000, 1, 0x10000, 0x0, 0x0, 0x0, 0x1FF, 0x0, 0x0, 0x0, 0x0⟩,
  ⟨"TRV.MON", 0x400B0010, 1, 0x10000, 1, 0x10000, 0xFF0F, 0x0, 0x0, 0x0, 0x0, 0x0, 0x0, 0x0⟩,
  ⟨"TRV.MON_CYCLE", 0x400B0014, 1, 0x10000, 1, 0x10000, 0xFFFFFFFF, 0x0, 0x0, 0x0, 0x0, 0x0, 0x0, 0x0⟩,
  ⟨"TRV.PERIOD_COUNT_LO", 0x400B0018, 1, 0x10000, 1, 0x10000, 0xFFFFFFFF, 0x0, 0x0, 0x0, 0x0, 0x0, 0x0, 0x0⟩,
  ⟨"TRV.PERIOD_COUNT_HI", 0x400B001C, 1, 0x10000, 1, 0x10000, 0xFFFF, 0x0, 0x0, 0x0, 0x0, 0x0, 0x0, 0x0⟩,
  ⟨"TRV.NEXT_ENTRY", 0x400B0020, 1, 0x10000, 1, 0x10000, 0x0, 0xFFFFFFFF, 0x0, 0x0, 0x0, 0x0, 0x0, 0x0⟩,
  ⟨"TRV.NEXT_CERT", 0x400B0024, 1, 0x10000, 1, 0x10000, 0x0, 0xFFFFFFFF, 0x0, 0x0, 0x0, 0x0, 0x0, 0x0⟩,
  ⟨"TRV.REPLACE_AT", 0x400B0028, 1, 0x10000, 1, 0x10000, 0x0, 0xFFFFFFFF, 0x0, 0x0, 0x0, 0x0, 0x0, 0x0⟩,
  ⟨"TRV.EV_RAISE", 0x400B0030, 1, 0x10000, 1, 0x10000, 0x0, 0x0, 0xFF, 0x0, 0x0, 0x0, 0x0, 0x0⟩,
  ⟨"TRV.EV_WATCH", 0x400B0034, 1, 0x10000, 1, 0x10000, 0x0, 0xFF, 0x0, 0x0, 0x0, 0x0, 0x0, 0x0⟩,
  ⟨"TRV.EV_WATCH_CNT", 0x400B0038, 1, 0x10000, 1, 0x10000, 0x0, 0x0, 0x0, 0x0, 0x0, 0xFFFFFFFF, 0x0, 0x0⟩,
  ⟨"TRV.TASK[n].CFG", 0x400B1000, 112, 0x20, 1, 0x20, 0x0, 0x0, 0x0, 0x0, 0x0, 0x0, 0x107FF07, 0x0⟩,
  ⟨"TRV.TASK[n].ENTRY", 0x400B1004, 112, 0x20, 1, 0x20, 0x0, 0x0, 0x0, 0x0, 0x0, 0x0, 0xFFFFFFFF, 0x0⟩,
  ⟨"TRV.TASK[n].ARG", 0x400B1008, 112, 0x20, 1, 0x20, 0x0, 0x0, 0x0, 0x0, 0x0, 0x0, 0xFFFFFFFF, 0x0⟩,
  ⟨"TRV.TASK[n].TIMING", 0x400B100C, 112, 0x20, 1, 0x20, 0x0, 0x0, 0x0, 0x0, 0x0, 0x0, 0x1FFFFF, 0x0⟩,
  ⟨"TRV.TASK[n].BIND_RDG", 0x400B1010, 112, 0x20, 1, 0x20, 0x0, 0x0, 0x0, 0x0, 0x0, 0x0, 0xFF, 0x0⟩,
  ⟨"TRV.TASK[n].BIND_SWB_LO", 0x400B1014, 112, 0x20, 1, 0x20, 0x0, 0x0, 0x0, 0x0, 0x0, 0x0, 0xFFFFFFFF, 0x0⟩,
  ⟨"TRV.TASK[n].BIND_SWB_HI", 0x400B1018, 112, 0x20, 1, 0x20, 0x0, 0x0, 0x0, 0x0, 0x0, 0x0, 0xFFFFFFFF, 0x0⟩,
  ⟨"TRV.TASK[n].CERT", 0x400B101C, 112, 0x20, 1, 0x20, 0x0, 0x0, 0x0, 0x0, 0x0, 0x0, 0xFFFFFFFF, 0x0⟩,
  ⟨"TRV.TASK[n].STAT", 0x400B3000, 112, 0x10, 1, 0x10, 0xFF, 0x0, 0x0, 0x0, 0x0, 0x0, 0x0, 0x0⟩,
  ⟨"TRV.TASK[n].MISS", 0x400B3004, 112, 0x10, 1, 0x10, 0x0, 0x0, 0x0, 0x0, 0x0, 0xFFFFFFFF, 0x0, 0x0⟩]

def regRowsTrv1 : List RegRow := [
  ⟨"TRV.TASK[n].LAG", 0x400B3008, 112, 0x10, 1, 0x10, 0xFFFFFFFF, 0x0, 0x0, 0x0, 0x0, 0x0, 0x0, 0x0⟩]

/-- The registers of block TRV. -/
def regRowsTrv : List RegRow := regRowsTrv0 ++ regRowsTrv1

def regRowsCirq0 : List RegRow := [
  ⟨"CIRQ.STATUS", 0x40020000, 1, 0x10000, 1, 0x10000, 0xF3, 0x0, 0x0, 0x0, 0x0, 0x0, 0x0, 0x0⟩,
  ⟨"CIRQ.FLAGS", 0x40020004, 1, 0x10000, 1, 0x10000, 0x0, 0x0, 0x0, 0x3FF, 0x0, 0x0, 0x0, 0x0⟩,
  ⟨"CIRQ.ROTOR_TIME", 0x40020008, 1, 0x10000, 1, 0x10000, 0xFFF, 0x0, 0x0, 0x0, 0x0, 0x0, 0x0, 0x0⟩,
  ⟨"CIRQ.BANK[b].ROT_A", 0x40020100, 6, 0x40, 1, 0x40, 0xFFFF8FF7, 0x0, 0x0, 0x0, 0x0, 0x0, 0x0, 0xF00⟩,
  ⟨"CIRQ.BANK[b].ROT_B", 0x40020104, 6, 0x40, 1, 0x40, 0xFFFF8FF7, 0x0, 0x0, 0x0, 0x0, 0x0, 0x0, 0xF00⟩,
  ⟨"CIRQ.BANK[b].DIAG_CTRL", 0x40020108, 6, 0x40, 1, 0x40, 0x0, 0xFFFF03FF, 0x0, 0x0, 0x0, 0x0, 0x0, 0x0⟩,
  ⟨"CIRQ.BANK[b].DIAG_STATUS", 0x4002010C, 6, 0x40, 1, 0x40, 0xF3, 0x0, 0x0, 0x0, 0x0, 0x0, 0x0, 0x0⟩,
  ⟨"CIRQ.BANK[b].DIAG_MEAN", 0x40020110, 6, 0x40, 1, 0x40, 0x3FFFF, 0x0, 0x0, 0x0, 0x0, 0x0, 0x0, 0x0⟩,
  ⟨"CIRQ.BANK[b].MATCH_CNT", 0x40020114, 6, 0x40, 1, 0x40, 0x0, 0x0, 0x0, 0x0, 0x0, 0x8000FFFF, 0x0, 0x0⟩,
  ⟨"CIRQ.IN[i].CFG", 0x40021000, 48, 0x40, 1, 0x40, 0x0, 0x7, 0x0, 0x0, 0x0, 0x0, 0x0, 0x0⟩,
  ⟨"CIRQ.IN[i].TRIG", 0x40021004, 48, 0x40, 1, 0x40, 0x0, 0x0, 0x0, 0x0, 0x0, 0x0, 0x870FFFFF, 0x0⟩,
  ⟨"CIRQ.IN[i].LAST", 0x40021008, 48, 0x40, 1, 0x40, 0x3FFFFFFF, 0x0, 0x0, 0x0, 0x0, 0xC0000000, 0x0, 0x0⟩,
  ⟨"CIRQ.IN[i].STATUS", 0x4002100C, 48, 0x40, 1, 0x40, 0xFFFFFFEF, 0x0, 0x0, 0x0, 0x0, 0x0, 0x0, 0x0⟩,
  ⟨"CIRQ.IN[i].OVR_COUNT", 0x40021010, 48, 0x40, 1, 0x40, 0x0, 0x0, 0x0, 0x0, 0x0, 0x8000FFFF, 0x0, 0x0⟩]

/-- The registers of block CIRQ. -/
def regRowsCirq : List RegRow := regRowsCirq0

def regRowsCln0 : List RegRow := [
  ⟨"CLN.STATUS", 0x40030000, 1, 0x10000, 1, 0x10000, 0x3FFF01, 0x0, 0x0, 0x0, 0x0, 0x0, 0x0, 0x0⟩,
  ⟨"CLN.FLAGS", 0x40030004, 1, 0x10000, 1, 0x10000, 0x0, 0x0, 0x0, 0xF, 0x0, 0x0, 0x0, 0x0⟩,
  ⟨"CLN.SLIP_COUNT", 0x40030008, 1, 0x10000, 1, 0x10000, 0x0, 0x0, 0x0, 0x0, 0x0, 0x1FFFF, 0x0, 0x0⟩,
  ⟨"CLN.COEF_CRC[n]", 0x40030010, 6, 0x4, 1, 0x4, 0xFFFFFFFF, 0x0, 0x0, 0x0, 0x0, 0x0, 0x0, 0x0⟩,
  ⟨"CLN.RSG[g].CTRL", 0x40030100, 8, 0x20, 1, 0x20, 0x0, 0x1, 0x0, 0x0, 0x0, 0x0, 0x0, 0x0⟩,
  ⟨"CLN.RSG[g].CFG", 0x40030104, 8, 0x20, 1, 0x20, 0x0, 0x0, 0x0, 0x0, 0x0, 0x0, 0xF3F, 0x800⟩,
  ⟨"CLN.RSG[g].INC_LO", 0x40030108, 8, 0x20, 1, 0x20, 0x0, 0x0, 0x0, 0x0, 0x0, 0x0, 0xFFFFFFFF, 0x0⟩,
  ⟨"CLN.RSG[g].INC_HI", 0x4003010C, 8, 0x20, 1, 0x20, 0x0, 0x0, 0x0, 0x0, 0x0, 0x0, 0xFFFFFFFF, 0x0⟩,
  ⟨"CLN.RSG[g].RING_BASE", 0x40030110, 8, 0x20, 1, 0x20, 0x0, 0x0, 0x0, 0x0, 0x0, 0x0, 0xFFFFFFFF, 0x0⟩,
  ⟨"CLN.RSG[g].RING_LEN", 0x40030114, 8, 0x20, 1, 0x20, 0x0, 0x0, 0x0, 0x0, 0x0, 0x0, 0x1FFFFF, 0x0⟩,
  ⟨"CLN.RSG[g].WPTR", 0x40030118, 8, 0x20, 1, 0x20, 0xFFFFFFFF, 0x0, 0x0, 0x0, 0x0, 0x0, 0x0, 0x0⟩,
  ⟨"CLN.RSG[g].STATUS", 0x4003011C, 8, 0x20, 1, 0x20, 0xFFFF3F03, 0x0, 0x0, 0x0, 0x0, 0x0, 0x0, 0x0⟩,
  ⟨"CLN.HB1_A[n]", 0x40030800, 5, 0x4, 1, 0x4, 0x0, 0x0, 0x0, 0x0, 0x0, 0x0, 0xFFFFF, 0x0⟩,
  ⟨"CLN.HB1_B[n]", 0x40030820, 5, 0x4, 1, 0x4, 0x0, 0x0, 0x0, 0x0, 0x0, 0x0, 0xFFFFF, 0x0⟩,
  ⟨"CLN.HB2_A[n]", 0x40030840, 8, 0x4, 1, 0x4, 0x0, 0x0, 0x0, 0x0, 0x0, 0x0, 0xFFFFF, 0x0⟩,
  ⟨"CLN.HB2_B[n]", 0x40030860, 8, 0x4, 1, 0x4, 0x0, 0x0, 0x0, 0x0, 0x0, 0x0, 0xFFFFF, 0x0⟩,
  ⟨"CLN.IN[i].CTRL", 0x40031000, 48, 0x20, 1, 0x20, 0x0, 0x3, 0x0, 0x0, 0x0, 0x0, 0x0, 0x0⟩,
  ⟨"CLN.IN[i].CFG", 0x40031004, 48, 0x20, 1, 0x20, 0x0, 0x0, 0x0, 0x0, 0x0, 0x0, 0x7173, 0x0⟩,
  ⟨"CLN.IN[i].STATUS", 0x40031008, 48, 0x20, 1, 0x20, 0xFFFF070F, 0x0, 0x0, 0x0, 0x0, 0x0, 0x0, 0x0⟩,
  ⟨"CLN.RS_A[n]", 0x40038000, 4096, 0x4, 1, 0x4, 0x0, 0x0, 0x0, 0x0, 0x0, 0x0, 0xFFFFF, 0x0⟩,
  ⟨"CLN.RS_B[n]", 0x4003C000, 4096, 0x4, 1, 0x4, 0x0, 0x0, 0x0, 0x0, 0x0, 0x0, 0xFFFFF, 0x0⟩]

/-- The registers of block CLN. -/
def regRowsCln : List RegRow := regRowsCln0

def regRowsRdg0 : List RegRow := [
  ⟨"RDG.STATUS", 0x40090000, 1, 0x10000, 1, 0x10000, 0xFFFFFF, 0x0, 0x0, 0x0, 0x0, 0x0, 0x0, 0x0⟩,
  ⟨"RDG.THROTTLE", 0x40090004, 1, 0x10000, 1, 0x10000, 0x3F, 0x0, 0x0, 0x0, 0x0, 0x0, 0x0, 0x20⟩,
  ⟨"RDG.ENG[m].STATUS", 0x40091000, 8, 0x400, 1, 0x400, 0xF3F77, 0x0, 0x0, 0x0, 0x0, 0x0, 0x0, 0x0⟩,
  ⟨"RDG.ENG[m].FLAGS", 0x40091004, 8, 0x400, 1, 0x400, 0x0, 0x0, 0x0, 0xFF, 0x0, 0x0, 0x0, 0x0⟩,
  ⟨"RDG.ENG[m].MODE_CMD", 0x40091008, 8, 0x400, 1, 0x400, 0x0, 0x7, 0x0, 0x0, 0x0, 0x0, 0x0, 0x0⟩,
  ⟨"RDG.ENG[m].CFG", 0x4009100C, 8, 0x400, 1, 0x400, 0x0, 0x0, 0x0, 0x0, 0x0, 0x0, 0xFF0337, 0x40010⟩,
  ⟨"RDG.ENG[m].L_TICKS", 0x40091010, 8, 0x400, 1, 0x400, 0x0, 0x0, 0x0, 0x0, 0x0, 0x0, 0xFFFFFFFF, 0x190⟩,
  ⟨"RDG.ENG[m].HOLD", 0x40091014, 8, 0x400, 1, 0x400, 0x0, 0x1, 0x0, 0x0, 0x0, 0x0, 0x0, 0x0⟩,
  ⟨"RDG.ENG[m].COUNTS", 0x40091018, 8, 0x400, 1, 0x400, 0x0, 0x0, 0x0, 0x0, 0x0, 0xFFFFFFFF, 0x0, 0x0⟩,
  ⟨"RDG.ENG[m].VA", 0x40091040, 8, 0x400, 1, 0x400, 0x0, 0xFFFFFFFF, 0x0, 0x0, 0x0, 0x0, 0x0, 0x0⟩,
  ⟨"RDG.ENG[m].VB", 0x40091044, 8, 0x400, 1, 0x400, 0x0, 0xFFFFFFFF, 0x0, 0x0, 0x0, 0x0, 0x0, 0x0⟩,
  ⟨"RDG.ENG[m].VC", 0x40091048, 8, 0x400, 1, 0x400, 0x0, 0xFFFFFFFF, 0x0, 0x0, 0x0, 0x0, 0x0, 0x0⟩,
  ⟨"RDG.ENG[m].IA", 0x4009104C, 8, 0x400, 1, 0x400, 0x0, 0xFFFFFFFF, 0x0, 0x0, 0x0, 0x0, 0x0, 0x0⟩,
  ⟨"RDG.ENG[m].IB", 0x40091050, 8, 0x400, 1, 0x400, 0x0, 0xFFFFFFFF, 0x0, 0x0, 0x0, 0x0, 0x0, 0x0⟩,
  ⟨"RDG.ENG[m].IC", 0x40091054, 8, 0x400, 1, 0x400, 0x0, 0xFFFFFFFF, 0x0, 0x0, 0x0, 0x0, 0x0, 0x0⟩,
  ⟨"RDG.ENG[m].P0", 0x40091060, 8, 0x400, 1, 0x400, 0x0, 0xFFFFFFFF, 0x0, 0x0, 0x0, 0x0, 0x0, 0x0⟩,
  ⟨"RDG.ENG[m].Q0", 0x40091064, 8, 0x400, 1, 0x400, 0x0, 0xFFFFFFFF, 0x0, 0x0, 0x0, 0x0, 0x0, 0x0⟩,
  ⟨"RDG.ENG[m].E0", 0x40091068, 8, 0x400, 1, 0x400, 0x0, 0xFFFFFFFF, 0x0, 0x0, 0x0, 0x0, 0x0, 0x3F800000⟩,
  ⟨"RDG.ENG[m].W_SET", 0x4009106C, 8, 0x400, 1, 0x400, 0x0, 0xFFFFFFFF, 0x0, 0x0, 0x0, 0x0, 0x0, 0x3F800000⟩,
  ⟨"RDG.ENG[m].H", 0x40091080, 8, 0x400, 1, 0x400, 0x0, 0xFFFFFFFF, 0x0, 0x0, 0x0, 0x0, 0x0, 0x40800000⟩,
  ⟨"RDG.ENG[m].D", 0x40091084, 8, 0x400, 1, 0x400, 0x0, 0xFFFFFFFF, 0x0, 0x0, 0x0, 0x0, 0x0, 0x42480000⟩,
  ⟨"RDG.ENG[m].KPF", 0x40091088, 8, 0x400, 1, 0x400, 0x0, 0xFFFFFFFF, 0x0, 0x0, 0x0, 0x0, 0x0, 0x41C80000⟩,
  ⟨"RDG.ENG[m].KQV", 0x4009108C, 8, 0x400, 1, 0x400, 0x0, 0xFFFFFFFF, 0x0, 0x0, 0x0, 0x0, 0x0, 0x41A00000⟩,
  ⟨"RDG.ENG[m].RV", 0x40091090, 8, 0x400, 1, 0x400, 0x0, 0xFFFFFFFF, 0x0, 0x0, 0x0, 0x0, 0x0, 0x3CA3D70A⟩]

def regRowsRdg1 : List RegRow := [
  ⟨"RDG.ENG[m].XV", 0x40091094, 8, 0x400, 1, 0x400, 0x0, 0xFFFFFFFF, 0x0, 0x0, 0x0, 0x0, 0x0, 0x3E19999A⟩,
  ⟨"RDG.ENG[m].E_MAX", 0x40091098, 8, 0x400, 1, 0x400, 0x0, 0xFFFFFFFF, 0x0, 0x0, 0x0, 0x0, 0x0, 0x3F99999A⟩,
  ⟨"RDG.ENG[m].I_MAX", 0x4009109C, 8, 0x400, 1, 0x400, 0x0, 0xFFFFFFFF, 0x0, 0x0, 0x0, 0x0, 0x0, 0x3F800000⟩,
  ⟨"RDG.ENG[m].I_MAX_FAULT", 0x400910A0, 8, 0x400, 1, 0x400, 0x0, 0xFFFFFFFF, 0x0, 0x0, 0x0, 0x0, 0x0, 0x3F99999A⟩,
  ⟨"RDG.ENG[m].NEG_GAIN", 0x400910A4, 8, 0x400, 1, 0x400, 0x0, 0xFFFFFFFF, 0x0, 0x0, 0x0, 0x0, 0x0, 0x0⟩,
  ⟨"RDG.ENG[m].NEG_SHARE", 0x400910A8, 8, 0x400, 1, 0x400, 0x0, 0xFFFFFFFF, 0x0, 0x0, 0x0, 0x0, 0x0, 0x3E99999A⟩,
  ⟨"RDG.ENG[m].SEQ_FC", 0x400910AC, 8, 0x400, 1, 0x400, 0x0, 0xFFFFFFFF, 0x0, 0x0, 0x0, 0x0, 0x0, 0x42480000⟩,
  ⟨"RDG.ENG[m].PQ_FC", 0x400910B0, 8, 0x400, 1, 0x400, 0x0, 0xFFFFFFFF, 0x0, 0x0, 0x0, 0x0, 0x0, 0x41200000⟩,
  ⟨"RDG.ENG[m].V_FAULT_IN", 0x400910B4, 8, 0x400, 1, 0x400, 0x0, 0xFFFFFFFF, 0x0, 0x0, 0x0, 0x0, 0x0, 0x3F59999A⟩,
  ⟨"RDG.ENG[m].V_FAULT_OUT", 0x400910B8, 8, 0x400, 1, 0x400, 0x0, 0xFFFFFFFF, 0x0, 0x0, 0x0, 0x0, 0x0, 0x3F666666⟩,
  ⟨"RDG.ENG[m].DW_FAULT", 0x400910BC, 8, 0x400, 1, 0x400, 0x0, 0xFFFFFFFF, 0x0, 0x0, 0x0, 0x0, 0x0, 0x3BA3D70A⟩,
  ⟨"RDG.ENG[m].FAULT_GAIN", 0x400910C0, 8, 0x400, 1, 0x400, 0x0, 0xFFFFFFFF, 0x0, 0x0, 0x0, 0x0, 0x0, 0x0⟩,
  ⟨"RDG.ENG[m].RECOVER_CYC", 0x400910C4, 8, 0x400, 1, 0x400, 0x0, 0xFFFFFFFF, 0x0, 0x0, 0x0, 0x0, 0x0, 0x3F800000⟩,
  ⟨"RDG.ENG[m].XV_REC", 0x400910C8, 8, 0x400, 1, 0x400, 0x0, 0xFFFFFFFF, 0x0, 0x0, 0x0, 0x0, 0x0, 0x3E99999A⟩,
  ⟨"RDG.ENG[m].TRANSFER_T", 0x400910CC, 8, 0x400, 1, 0x400, 0x0, 0xFFFFFFFF, 0x0, 0x0, 0x0, 0x0, 0x0, 0x3DCCCCCD⟩,
  ⟨"RDG.ENG[m].KR", 0x400910D0, 8, 0x400, 1, 0x400, 0x0, 0xFFFFFFFF, 0x0, 0x0, 0x0, 0x0, 0x0, 0x3E800000⟩,
  ⟨"RDG.ENG[m].RESTORE_MAX", 0x400910D4, 8, 0x400, 1, 0x400, 0x0, 0xFFFFFFFF, 0x0, 0x0, 0x0, 0x0, 0x0, 0x3D4CCCCD⟩,
  ⟨"RDG.ENG[m].RESTORE_RATE", 0x400910D8, 8, 0x400, 1, 0x400, 0x0, 0xFFFFFFFF, 0x0, 0x0, 0x0, 0x0, 0x0, 0x3C23D70A⟩,
  ⟨"RDG.ENG[m].PHI_ANCHOR", 0x400910DC, 8, 0x400, 1, 0x400, 0x0, 0xFFFFFFFF, 0x0, 0x0, 0x0, 0x0, 0x0, 0x0⟩,
  ⟨"RDG.ENG[m].BS_TIME", 0x400910E0, 8, 0x400, 1, 0x400, 0x0, 0xFFFFFFFF, 0x0, 0x0, 0x0, 0x0, 0x0, 0x3F000000⟩,
  ⟨"RDG.ENG[m].BS_START_S", 0x400910E4, 8, 0x400, 1, 0x400, 0x0, 0xFFFFFFFF, 0x0, 0x0, 0x0, 0x0, 0x0, 0x0⟩,
  ⟨"RDG.ENG[m].BS_DEAD", 0x400910E8, 8, 0x400, 1, 0x400, 0x0, 0xFFFFFFFF, 0x0, 0x0, 0x0, 0x0, 0x0, 0x3D4CCCCD⟩,
  ⟨"RDG.ENG[m].KP_PLL", 0x400910EC, 8, 0x400, 1, 0x400, 0x0, 0xFFFFFFFF, 0x0, 0x0, 0x0, 0x0, 0x0, 0x40000000⟩,
  ⟨"RDG.ENG[m].KI_PLL", 0x400910F0, 8, 0x400, 1, 0x400, 0x0, 0xFFFFFFFF, 0x0, 0x0, 0x0, 0x0, 0x0, 0x42480000⟩]

def regRowsRdg2 : List RegRow := [
  ⟨"RDG.ENG[m].S_BASE", 0x400910F4, 8, 0x400, 1, 0x400, 0x0, 0x0, 0x0, 0x0, 0x0, 0x0, 0xFFFFFFFF, 0x48F42400⟩,
  ⟨"RDG.ENG[m].V_BASE", 0x400910F8, 8, 0x400, 1, 0x400, 0x0, 0x0, 0x0, 0x0, 0x0, 0x0, 0xFFFFFFFF, 0x43C80000⟩,
  ⟨"RDG.ENG[m].F_NOM", 0x400910FC, 8, 0x400, 1, 0x400, 0x0, 0x0, 0x0, 0x0, 0x0, 0x0, 0xFFFFFFFF, 0x32⟩,
  ⟨"RDG.ENG[m].ID_REF", 0x40091100, 8, 0x400, 1, 0x400, 0xFFFFFFFF, 0x0, 0x0, 0x0, 0x0, 0x0, 0x0, 0x0⟩,
  ⟨"RDG.ENG[m].IQ_REF", 0x40091104, 8, 0x400, 1, 0x400, 0xFFFFFFFF, 0x0, 0x0, 0x0, 0x0, 0x0, 0x0, 0x0⟩,
  ⟨"RDG.ENG[m].VD_REF", 0x40091108, 8, 0x400, 1, 0x400, 0xFFFFFFFF, 0x0, 0x0, 0x0, 0x0, 0x0, 0x0, 0x0⟩,
  ⟨"RDG.ENG[m].VQ_REF", 0x4009110C, 8, 0x400, 1, 0x400, 0xFFFFFFFF, 0x0, 0x0, 0x0, 0x0, 0x0, 0x0, 0x0⟩,
  ⟨"RDG.ENG[m].THETA_S_LO", 0x40091110, 8, 0x400, 1, 0x400, 0xFFFFFFFF, 0x0, 0x0, 0x0, 0x0, 0x0, 0x0, 0x0⟩,
  ⟨"RDG.ENG[m].THETA_S_HI", 0x40091114, 8, 0x400, 1, 0x400, 0xFFFFFFFF, 0x0, 0x0, 0x0, 0x0, 0x0, 0x0, 0x0⟩,
  ⟨"RDG.ENG[m].THETA_A_LO", 0x40091118, 8, 0x400, 1, 0x400, 0xFFFFFFFF, 0x0, 0x0, 0x0, 0x0, 0x0, 0x0, 0x0⟩,
  ⟨"RDG.ENG[m].THETA_A_HI", 0x4009111C, 8, 0x400, 1, 0x400, 0xFFFFFFFF, 0x0, 0x0, 0x0, 0x0, 0x0, 0x0, 0x0⟩,
  ⟨"RDG.ENG[m].FREQ", 0x40091120, 8, 0x400, 1, 0x400, 0xFFFFFFFF, 0x0, 0x0, 0x0, 0x0, 0x0, 0x0, 0x0⟩,
  ⟨"RDG.ENG[m].P", 0x40091124, 8, 0x400, 1, 0x400, 0xFFFFFFFF, 0x0, 0x0, 0x0, 0x0, 0x0, 0x0, 0x0⟩,
  ⟨"RDG.ENG[m].Q", 0x40091128, 8, 0x400, 1, 0x400, 0xFFFFFFFF, 0x0, 0x0, 0x0, 0x0, 0x0, 0x0, 0x0⟩,
  ⟨"RDG.ENG[m].V1", 0x4009112C, 8, 0x400, 1, 0x400, 0xFFFFFFFF, 0x0, 0x0, 0x0, 0x0, 0x0, 0x0, 0x0⟩,
  ⟨"RDG.ENG[m].V2", 0x40091130, 8, 0x400, 1, 0x400, 0xFFFFFFFF, 0x0, 0x0, 0x0, 0x0, 0x0, 0x0, 0x0⟩,
  ⟨"RDG.ENG[m].DELTA", 0x40091134, 8, 0x400, 1, 0x400, 0xFFFFFFFF, 0x0, 0x0, 0x0, 0x0, 0x0, 0x0, 0x0⟩,
  ⟨"RDG.ENG[m].E", 0x40091138, 8, 0x400, 1, 0x400, 0xFFFFFFFF, 0x0, 0x0, 0x0, 0x0, 0x0, 0x0, 0x0⟩,
  ⟨"RDG.ENG[m].ILIM", 0x4009113C, 8, 0x400, 1, 0x400, 0xFFFFFFFF, 0x0, 0x0, 0x0, 0x0, 0x0, 0x0, 0x0⟩,
  ⟨"RDG.ENG[m].DW_R", 0x40091140, 8, 0x400, 1, 0x400, 0xFFFFFFFF, 0x0, 0x0, 0x0, 0x0, 0x0, 0x0, 0x0⟩,
  ⟨"RDG.ENG[m].E_CAIRN", 0x40091144, 8, 0x400, 1, 0x400, 0xFFFFFFFF, 0x0, 0x0, 0x0, 0x0, 0x0, 0x0, 0x0⟩,
  ⟨"RDG.ENG[m].INC_LO", 0x40091148, 8, 0x400, 1, 0x400, 0xFFFFFFFF, 0x0, 0x0, 0x0, 0x0, 0x0, 0x0, 0x0⟩,
  ⟨"RDG.ENG[m].INC_HI", 0x4009114C, 8, 0x400, 1, 0x400, 0xFFFFFFFF, 0x0, 0x0, 0x0, 0x0, 0x0, 0x0, 0x0⟩,
  ⟨"RDG.ENG[m].KEEPER_SET_LO", 0x40091180, 8, 0x400, 1, 0x400, 0x0, 0x0, 0x0, 0x0, 0x0, 0x0, 0xFFFFFFFF, 0x0⟩]

def regRowsRdg3 : List RegRow := [
  ⟨"RDG.ENG[m].KEEPER_SET_HI", 0x40091184, 8, 0x400, 1, 0x400, 0x0, 0x0, 0x0, 0x0, 0x0, 0x0, 0xFFFFFFFF, 0x0⟩,
  ⟨"RDG.ENG[m].STATE[k]", 0x40091200, 8, 0x400, 128, 0x4, 0xFFFFFFFF, 0x0, 0x0, 0x0, 0x0, 0x0, 0x0, 0x0⟩]

/-- The registers of block RDG. -/
def regRowsRdg : List RegRow := regRowsRdg0 ++ regRowsRdg1 ++ regRowsRdg2 ++ regRowsRdg3

def regRowsSwb0 : List RegRow := [
  ⟨"SWB.RUN_LO", 0x400A0000, 1, 0x10000, 1, 0x10000, 0xFFFFFFFF, 0x0, 0x0, 0x0, 0x0, 0x0, 0x0, 0x0⟩,
  ⟨"SWB.RUN_HI", 0x400A0004, 1, 0x10000, 1, 0x10000, 0xFFFFFFFF, 0x0, 0x0, 0x0, 0x0, 0x0, 0x0, 0x0⟩,
  ⟨"SWB.TRIP_LO", 0x400A0008, 1, 0x10000, 1, 0x10000, 0xFFFFFFFF, 0x0, 0x0, 0x0, 0x0, 0x0, 0x0, 0x0⟩,
  ⟨"SWB.TRIP_HI", 0x400A000C, 1, 0x10000, 1, 0x10000, 0xFFFFFFFF, 0x0, 0x0, 0x0, 0x0, 0x0, 0x0, 0x0⟩,
  ⟨"SWB.FLAGS", 0x400A0010, 1, 0x10000, 1, 0x10000, 0x0, 0x0, 0x0, 0x3, 0x0, 0x0, 0x0, 0x0⟩,
  ⟨"SWB.TG[g].CTRL", 0x400A0100, 4, 0x40, 1, 0x40, 0x0, 0x1, 0x0, 0x0, 0x0, 0x0, 0x0, 0x0⟩,
  ⟨"SWB.TG[g].CFG", 0x400A0104, 4, 0x40, 1, 0x40, 0x0, 0x0, 0x0, 0x0, 0x0, 0x0, 0xFFF1133F, 0x0⟩,
  ⟨"SWB.TG[g].AMP", 0x400A0108, 4, 0x40, 1, 0x40, 0x0, 0x0, 0x0, 0x0, 0x0, 0x0, 0xFFFFFFFF, 0x0⟩,
  ⟨"SWB.TG[g].PINC", 0x400A010C, 4, 0x40, 1, 0x40, 0x0, 0x0, 0x0, 0x0, 0x0, 0x0, 0xFFFFFFFF, 0x0⟩,
  ⟨"SWB.TG[g].DINC", 0x400A0110, 4, 0x40, 1, 0x40, 0x0, 0x0, 0x0, 0x0, 0x0, 0x0, 0xFFFFFFFF, 0x0⟩,
  ⟨"SWB.TG[g].WIN", 0x400A0114, 4, 0x40, 1, 0x40, 0x0, 0x0, 0x0, 0x0, 0x0, 0x0, 0xFFFFFF, 0x0⟩,
  ⟨"SWB.TG[g].STATUS", 0x400A0118, 4, 0x40, 1, 0x40, 0xF77, 0x0, 0x0, 0x0, 0x0, 0x0, 0x0, 0x0⟩,
  ⟨"SWB.TG[g].COUNT", 0x400A011C, 4, 0x40, 1, 0x40, 0xFFFFFF, 0x0, 0x0, 0x0, 0x0, 0x0, 0x0, 0x0⟩,
  ⟨"SWB.TG[g].RES_MI", 0x400A0120, 4, 0x40, 1, 0x40, 0xFFFFFFFF, 0x0, 0x0, 0x0, 0x0, 0x0, 0x0, 0x0⟩,
  ⟨"SWB.TG[g].RES_MQ", 0x400A0124, 4, 0x40, 1, 0x40, 0xFFFFFFFF, 0x0, 0x0, 0x0, 0x0, 0x0, 0x0, 0x0⟩,
  ⟨"SWB.TG[g].RES_AI", 0x400A0128, 4, 0x40, 1, 0x40, 0xFFFFFFFF, 0x0, 0x0, 0x0, 0x0, 0x0, 0x0, 0x0⟩,
  ⟨"SWB.TG[g].RES_AQ", 0x400A012C, 4, 0x40, 1, 0x40, 0xFFFFFFFF, 0x0, 0x0, 0x0, 0x0, 0x0, 0x0, 0x0⟩,
  ⟨"SWB.TG[g].RING_BASE", 0x400A0130, 4, 0x40, 1, 0x40, 0x0, 0x0, 0x0, 0x0, 0x0, 0x0, 0xFFFFFFFF, 0x0⟩,
  ⟨"SWB.TG[g].RING_LEN", 0x400A0134, 4, 0x40, 1, 0x40, 0x0, 0x0, 0x0, 0x0, 0x0, 0x0, 0x1FFFFF, 0x0⟩,
  ⟨"SWB.TG[g].WPTR", 0x400A0138, 4, 0x40, 1, 0x40, 0xFFFFFFFF, 0x0, 0x0, 0x0, 0x0, 0x0, 0x0, 0x0⟩,
  ⟨"SWB.LOOP[m].STATUS", 0x400A1000, 64, 0x100, 1, 0x100, 0xF0FFD, 0x0, 0x0, 0x0, 0x0, 0x0, 0x0, 0x0⟩,
  ⟨"SWB.LOOP[m].FLAGS", 0x400A1004, 64, 0x100, 1, 0x100, 0x0, 0x0, 0x0, 0x1FF, 0x0, 0x0, 0x0, 0x0⟩,
  ⟨"SWB.LOOP[m].CMD", 0x400A1008, 64, 0x100, 1, 0x100, 0x0, 0x0, 0x3, 0x0, 0x0, 0x0, 0x0, 0x0⟩,
  ⟨"SWB.LOOP[m].CFG", 0x400A100C, 64, 0x100, 1, 0x100, 0x0, 0x0, 0x0, 0x0, 0x0, 0x0, 0x3317, 0x10⟩]

def regRowsSwb1 : List RegRow := [
  ⟨"SWB.LOOP[m].HOLD", 0x400A1010, 64, 0x100, 1, 0x100, 0x0, 0x1, 0x0, 0x0, 0x0, 0x0, 0x0, 0x0⟩,
  ⟨"SWB.LOOP[m].BANK_REQ", 0x400A1014, 64, 0x100, 1, 0x100, 0x0, 0x0, 0x1, 0x0, 0x0, 0x0, 0x0, 0x0⟩,
  ⟨"SWB.LOOP[m].XFADE_N", 0x400A1018, 64, 0x100, 1, 0x100, 0x0, 0xFFFF, 0x0, 0x0, 0x0, 0x0, 0x0, 0x64⟩,
  ⟨"SWB.LOOP[m].COUNTS", 0x400A101C, 64, 0x100, 1, 0x100, 0x0, 0x0, 0x0, 0x0, 0x0, 0xFFFFFFFF, 0x0, 0x0⟩,
  ⟨"SWB.LOOP[m].TARGET", 0x400A1020, 64, 0x100, 1, 0x100, 0x0, 0xFFFFFFFF, 0x0, 0x0, 0x0, 0x0, 0x0, 0x0⟩,
  ⟨"SWB.LOOP[m].MEAS", 0x400A1024, 64, 0x100, 1, 0x100, 0x0, 0xFFFFFFFF, 0x0, 0x0, 0x0, 0x0, 0x0, 0x0⟩,
  ⟨"SWB.LOOP[m].FF", 0x400A1028, 64, 0x100, 1, 0x100, 0x0, 0xFFFFFFFF, 0x0, 0x0, 0x0, 0x0, 0x0, 0x0⟩,
  ⟨"SWB.LOOP[m].AUX", 0x400A102C, 64, 0x100, 1, 0x100, 0x0, 0xFFFFFFFF, 0x0, 0x0, 0x0, 0x0, 0x0, 0x0⟩,
  ⟨"SWB.LOOP[m].PRESET", 0x400A1030, 64, 0x100, 1, 0x100, 0x0, 0xFFFFFFFF, 0x0, 0x0, 0x0, 0x0, 0x0, 0x0⟩,
  ⟨"SWB.LOOP[m].RMAX", 0x400A1034, 64, 0x100, 1, 0x100, 0x0, 0xFFFFFFFF, 0x0, 0x0, 0x0, 0x0, 0x0, 0x3F800000⟩,
  ⟨"SWB.LOOP[m].AMAX", 0x400A1038, 64, 0x100, 1, 0x100, 0x0, 0xFFFFFFFF, 0x0, 0x0, 0x0, 0x0, 0x0, 0x3F800000⟩,
  ⟨"SWB.LOOP[m].OUT_MIN", 0x400A103C, 64, 0x100, 1, 0x100, 0x0, 0xFFFFFFFF, 0x0, 0x0, 0x0, 0x0, 0x0, 0xBF800000⟩,
  ⟨"SWB.LOOP[m].OUT_MAX", 0x400A1040, 64, 0x100, 1, 0x100, 0x0, 0xFFFFFFFF, 0x0, 0x0, 0x0, 0x0, 0x0, 0x3F800000⟩,
  ⟨"SWB.LOOP[m].FE_LIMIT", 0x400A1044, 64, 0x100, 1, 0x100, 0x0, 0xFFFFFFFF, 0x0, 0x0, 0x0, 0x0, 0x0, 0x3DCCCCCD⟩,
  ⟨"SWB.LOOP[m].SUPV_N", 0x400A1048, 64, 0x100, 1, 0x100, 0x0, 0xFFFF, 0x0, 0x0, 0x0, 0x0, 0x0, 0x14⟩,
  ⟨"SWB.LOOP[m].KP_A", 0x400A1050, 64, 0x100, 1, 0x100, 0x0, 0x0, 0x0, 0x0, 0x0, 0x0, 0xFFFFFFFF, 0x0⟩,
  ⟨"SWB.LOOP[m].KI_A", 0x400A1054, 64, 0x100, 1, 0x100, 0x0, 0x0, 0x0, 0x0, 0x0, 0x0, 0xFFFFFFFF, 0x0⟩,
  ⟨"SWB.LOOP[m].KV_A", 0x400A1058, 64, 0x100, 1, 0x100, 0x0, 0x0, 0x0, 0x0, 0x0, 0x0, 0xFFFFFFFF, 0x0⟩,
  ⟨"SWB.LOOP[m].KP_B", 0x400A1060, 64, 0x100, 1, 0x100, 0x0, 0x0, 0x0, 0x0, 0x0, 0x0, 0xFFFFFFFF, 0x0⟩,
  ⟨"SWB.LOOP[m].KI_B", 0x400A1064, 64, 0x100, 1, 0x100, 0x0, 0x0, 0x0, 0x0, 0x0, 0x0, 0xFFFFFFFF, 0x0⟩,
  ⟨"SWB.LOOP[m].KV_B", 0x400A1068, 64, 0x100, 1, 0x100, 0x0, 0x0, 0x0, 0x0, 0x0, 0x0, 0xFFFFFFFF, 0x0⟩,
  ⟨"SWB.LOOP[m].REF", 0x400A1080, 64, 0x100, 1, 0x100, 0xFFFFFFFF, 0x0, 0x0, 0x0, 0x0, 0x0, 0x0, 0x0⟩,
  ⟨"SWB.LOOP[m].RATE", 0x400A1084, 64, 0x100, 1, 0x100, 0xFFFFFFFF, 0x0, 0x0, 0x0, 0x0, 0x0, 0x0, 0x0⟩,
  ⟨"SWB.LOOP[m].OUT", 0x400A1088, 64, 0x100, 1, 0x100, 0xFFFFFFFF, 0x0, 0x0, 0x0, 0x0, 0x0, 0x0, 0x0⟩]

def regRowsSwb2 : List RegRow := [
  ⟨"SWB.LOOP[m].ERR", 0x400A108C, 64, 0x100, 1, 0x100, 0xFFFFFFFF, 0x0, 0x0, 0x0, 0x0, 0x0, 0x0, 0x0⟩,
  ⟨"SWB.LOOP[m].INT", 0x400A1090, 64, 0x100, 1, 0x100, 0xFFFFFFFF, 0x0, 0x0, 0x0, 0x0, 0x0, 0x0, 0x0⟩,
  ⟨"SWB.LOOP[m].INJ", 0x400A1094, 64, 0x100, 1, 0x100, 0xFFFFFFFF, 0x0, 0x0, 0x0, 0x0, 0x0, 0x0, 0x0⟩,
  ⟨"SWB.LOOP[m].LAMBDA", 0x400A1098, 64, 0x100, 1, 0x100, 0xFFFFFFFF, 0x0, 0x0, 0x0, 0x0, 0x0, 0x0, 0x0⟩,
  ⟨"SWB.LOOP[m].SUPV_CNT", 0x400A109C, 64, 0x100, 1, 0x100, 0xFFFF, 0x0, 0x0, 0x0, 0x0, 0x0, 0x0, 0x0⟩]

/-- The registers of block SWB. -/
def regRowsSwb : List RegRow := regRowsSwb0 ++ regRowsSwb1 ++ regRowsSwb2

def regRowsTrip0 : List RegRow := [
  ⟨"TRIP.STATUS", 0x40070000, 1, 0x10000, 1, 0x10000, 0xFFF0FFF, 0x0, 0x0, 0x0, 0x0, 0x0, 0x0, 0x0⟩,
  ⟨"TRIP.FLAGS", 0x40070004, 1, 0x10000, 1, 0x10000, 0x0, 0x0, 0x0, 0xF, 0x0, 0x0, 0x0, 0x0⟩,
  ⟨"TRIP.CLEAR", 0x40070008, 1, 0x10000, 1, 0x10000, 0x0, 0x0, 0xFFF, 0x0, 0x0, 0x0, 0x0, 0x0⟩,
  ⟨"TRIP.SW", 0x4007000C, 1, 0x10000, 1, 0x10000, 0x0, 0x0, 0x3, 0x0, 0x0, 0x0, 0x0, 0x0⟩,
  ⟨"TRIP.FIRST", 0x40070010, 1, 0x10000, 1, 0x10000, 0x0, 0x0, 0x0, 0x0, 0x0, 0x80000FFF, 0x0, 0x0⟩,
  ⟨"TRIP.FIRST_NS", 0x40070014, 1, 0x10000, 1, 0x10000, 0xFFFFFFFF, 0x0, 0x0, 0x0, 0x0, 0x0, 0x0, 0x0⟩,
  ⟨"TRIP.PAIRS", 0x40070018, 1, 0x10000, 1, 0x10000, 0xFFFFFFFF, 0x0, 0x0, 0x0, 0x0, 0x0, 0x0, 0x0⟩,
  ⟨"TRIP.SRC[s].CFG", 0x40070100, 12, 0x10, 1, 0x10, 0x0, 0x0, 0x0, 0x0, 0x0, 0x0, 0xFF07, 0x0⟩,
  ⟨"TRIP.SRC[s].ACT_LO", 0x40070104, 12, 0x10, 1, 0x10, 0x0, 0x0, 0x0, 0x0, 0x0, 0x0, 0xFFFFFFFF, 0x0⟩,
  ⟨"TRIP.SRC[s].ACT_HI", 0x40070108, 12, 0x10, 1, 0x10, 0x0, 0x0, 0x0, 0x0, 0x0, 0x0, 0xFFFFFFFF, 0x0⟩,
  ⟨"TRIP.SRC[s].COUNT", 0x4007010C, 12, 0x10, 1, 0x10, 0x0, 0x0, 0x0, 0x0, 0x0, 0x1FFFF, 0x0, 0x0⟩]

/-- The registers of block TRIP. -/
def regRowsTrip : List RegRow := regRowsTrip0

def regRowsSpur0 : List RegRow := [
  ⟨"SPUR.STATUS", 0x40060000, 1, 0x10000, 1, 0x10000, 0x73F3F, 0x0, 0x0, 0x0, 0x0, 0x0, 0x0, 0x0⟩,
  ⟨"SPUR.FLAGS", 0x40060004, 1, 0x10000, 1, 0x10000, 0x0, 0x0, 0x0, 0x3FF, 0x0, 0x0, 0x0, 0x0⟩,
  ⟨"SPUR.ASC", 0x40060008, 1, 0x10000, 1, 0x10000, 0x0, 0x0, 0x0, 0x0, 0x0, 0x0, 0x73F, 0x0⟩,
  ⟨"SPUR.ASC_CMD", 0x4006000C, 1, 0x10000, 1, 0x10000, 0x0, 0x0, 0x3, 0x0, 0x0, 0x0, 0x0, 0x0⟩,
  ⟨"SPUR.CLEAR", 0x40060010, 1, 0x10000, 1, 0x10000, 0x0, 0x0, 0x3F, 0x0, 0x0, 0x0, 0x0, 0x0⟩,
  ⟨"SPUR.LEG[n].CTRL", 0x40060100, 6, 0x40, 1, 0x40, 0x0, 0x3, 0x0, 0x0, 0x0, 0x0, 0x0, 0x0⟩,
  ⟨"SPUR.LEG[n].CFG", 0x40060104, 6, 0x40, 1, 0x40, 0x0, 0x0, 0x0, 0x0, 0x0, 0x0, 0xF7FFF07, 0x1000000⟩,
  ⟨"SPUR.LEG[n].CMP", 0x40060108, 6, 0x40, 1, 0x40, 0x0, 0xFFFFF, 0x0, 0x0, 0x0, 0x0, 0x0, 0x0⟩,
  ⟨"SPUR.LEG[n].DT", 0x4006010C, 6, 0x40, 1, 0x40, 0x0, 0xFF00FF, 0x0, 0x0, 0x0, 0x0, 0x0, 0x140028⟩,
  ⟨"SPUR.LEG[n].DRIVE", 0x40060110, 6, 0x40, 1, 0x40, 0x0, 0x1F1F1F, 0x0, 0x0, 0x0, 0x0, 0x0, 0x1F1010⟩,
  ⟨"SPUR.LEG[n].ADAPT", 0x40060114, 6, 0x40, 1, 0x40, 0x0, 0x1F1FFF, 0x0, 0x0, 0x0, 0x0, 0x0, 0x1F0014⟩,
  ⟨"SPUR.LEG[n].DRIVE_NOW", 0x40060118, 6, 0x40, 1, 0x40, 0xFFFF1F1F, 0x0, 0x0, 0x0, 0x0, 0x0, 0x0, 0xFFFF1010⟩,
  ⟨"SPUR.LEG[n].VDS", 0x4006011C, 6, 0x40, 1, 0x40, 0x0, 0x0, 0x0, 0x0, 0x0, 0x0, 0x1F1F, 0x30E⟩,
  ⟨"SPUR.LEG[n].STATUS", 0x40060120, 6, 0x40, 1, 0x40, 0xFFF, 0x0, 0x0, 0x0, 0x0, 0x0, 0x0, 0x0⟩,
  ⟨"SPUR.LEG[n].DIAG", 0x40060124, 6, 0x40, 1, 0x40, 0xF37, 0x0, 0x0, 0x0, 0x0, 0x0, 0x0, 0x0⟩,
  ⟨"SPUR.LEG[n].COUNT", 0x40060128, 6, 0x40, 1, 0x40, 0x0, 0x0, 0x0, 0x0, 0x0, 0xBFFFFFFF, 0x0, 0x0⟩]

/-- The registers of block SPUR. -/
def regRowsSpur : List RegRow := regRowsSpur0

def regRowsPif0 : List RegRow := [
  ⟨"PIF.CH[k].CFG", 0x40080100, 2, 0x80, 1, 0x80, 0x0, 0x0, 0x0, 0x0, 0x0, 0x0, 0x1FF03, 0x400⟩,
  ⟨"PIF.CH[k].POS", 0x40080104, 2, 0x80, 1, 0x80, 0xFFFFFFFF, 0x0, 0x0, 0x0, 0x0, 0x0, 0x0, 0x0⟩,
  ⟨"PIF.CH[k].POS_SET", 0x40080108, 2, 0x80, 1, 0x80, 0x0, 0x0, 0x0, 0x0, 0x0, 0x0, 0xFFFFFFFF, 0x0⟩,
  ⟨"PIF.CH[k].SPEED", 0x4008010C, 2, 0x80, 1, 0x80, 0xFFFFFFFF, 0x0, 0x0, 0x0, 0x0, 0x0, 0x0, 0x0⟩,
  ⟨"PIF.CH[k].STATUS", 0x40080110, 2, 0x80, 1, 0x80, 0x3F, 0x0, 0x0, 0x0, 0x0, 0x0, 0x0, 0x0⟩,
  ⟨"PIF.CH[k].FLAGS", 0x40080114, 2, 0x80, 1, 0x80, 0x0, 0x0, 0x0, 0x7F, 0x0, 0x0, 0x0, 0x0⟩,
  ⟨"PIF.CH[k].P_LO", 0x40080118, 2, 0x80, 1, 0x80, 0x0, 0xFFFFFF, 0x0, 0x0, 0x0, 0x0, 0x0, 0x190⟩,
  ⟨"PIF.CH[k].P_HI", 0x4008011C, 2, 0x80, 1, 0x80, 0x0, 0xFFFFFF, 0x0, 0x0, 0x0, 0x0, 0x0, 0x1E0⟩,
  ⟨"PIF.CH[k].WIN", 0x40080120, 2, 0x80, 1, 0x80, 0x0, 0xFFFFFF, 0x0, 0x0, 0x0, 0x0, 0x0, 0x61A80⟩,
  ⟨"PIF.CH[k].STALE_T", 0x40080124, 2, 0x80, 1, 0x80, 0x0, 0xFFFFFFFF, 0x0, 0x0, 0x0, 0x0, 0x0, 0x7A1200⟩,
  ⟨"PIF.CH[k].EDGE_POS", 0x40080128, 2, 0x80, 1, 0x80, 0xFFFFFFFF, 0x0, 0x0, 0x0, 0x0, 0x0, 0x0, 0x0⟩,
  ⟨"PIF.CH[k].EDGE_SPEED", 0x4008012C, 2, 0x80, 1, 0x80, 0xFFFFFFFF, 0x0, 0x0, 0x0, 0x0, 0x0, 0x0, 0x0⟩,
  ⟨"PIF.CH[k].EDGE_S", 0x40080130, 2, 0x80, 1, 0x80, 0xFFFFFFFF, 0x0, 0x0, 0x0, 0x0, 0x0, 0x0, 0x0⟩,
  ⟨"PIF.CH[k].EDGE_NS", 0x40080134, 2, 0x80, 1, 0x80, 0x3FFFFFFF, 0x0, 0x0, 0x0, 0x0, 0x0, 0x0, 0x0⟩,
  ⟨"PIF.CH[k].Z_POS", 0x40080138, 2, 0x80, 1, 0x80, 0xFFFFFFFF, 0x0, 0x0, 0x0, 0x0, 0x0, 0x0, 0x0⟩,
  ⟨"PIF.CH[k].ILLEGAL", 0x4008013C, 2, 0x80, 1, 0x80, 0x0, 0x0, 0x0, 0x0, 0x0, 0x1FFFF, 0x0, 0x0⟩,
  ⟨"PIF.CH[k].UP_COUNT", 0x40080140, 2, 0x80, 1, 0x80, 0x0, 0x0, 0x0, 0x0, 0x0, 0xFFFFFFFF, 0x0, 0x0⟩,
  ⟨"PIF.CH[k].DN_COUNT", 0x40080144, 2, 0x80, 1, 0x80, 0x0, 0x0, 0x0, 0x0, 0x0, 0xFFFFFFFF, 0x0, 0x0⟩]

/-- The registers of block PIF. -/
def regRowsPif : List RegRow := regRowsPif0

def regRowsGdm0 : List RegRow := [
  ⟨"GDM.STATUS", 0x40110000, 1, 0x10000, 1, 0x10000, 0xFFF, 0x0, 0x0, 0x0, 0x0, 0x0, 0x0, 0x1F⟩,
  ⟨"GDM.FLAGS", 0x40110004, 1, 0x10000, 1, 0x10000, 0x0, 0x0, 0x0, 0xFF, 0x0, 0x0, 0x0, 0x0⟩,
  ⟨"GDM.CFG", 0x40110008, 1, 0x10000, 1, 0x10000, 0x0, 0x3FFFF0F, 0x0, 0x0, 0x0, 0x0, 0x0, 0x1E0006⟩,
  ⟨"GDM.START_WAIT", 0x4011000C, 1, 0x10000, 1, 0x10000, 0x0, 0x3FFF, 0x0, 0x0, 0x0, 0x0, 0x0, 0x3E8⟩,
  ⟨"GDM.CMD", 0x40110010, 1, 0x10000, 1, 0x10000, 0x0, 0x0, 0xFFFFFF01, 0x0, 0x0, 0x0, 0x0, 0x0⟩,
  ⟨"GDM.CMD_STATUS", 0x40110014, 1, 0x10000, 1, 0x10000, 0x1F, 0x0, 0x0, 0x0, 0x0, 0x0, 0x0, 0x0⟩,
  ⟨"GDM.HOLD_ELAPSED", 0x40110018, 1, 0x10000, 1, 0x10000, 0x3FF, 0x0, 0x0, 0x0, 0x0, 0x0, 0x0, 0x0⟩,
  ⟨"GDM.LAST", 0x4011001C, 1, 0x10000, 1, 0x10000, 0xFFFF0F1F, 0x0, 0x0, 0x0, 0x0, 0x0, 0x0, 0x0⟩,
  ⟨"GDM.DIV_OUT", 0x40110020, 1, 0x10000, 1, 0x10000, 0x0, 0x0, 0x0, 0x0, 0x0, 0xFFFFFFFF, 0x0, 0x0⟩,
  ⟨"GDM.DIV_STATE", 0x40110024, 1, 0x10000, 1, 0x10000, 0x0, 0x0, 0x0, 0x0, 0x0, 0xFFFFFFFF, 0x0, 0x0⟩,
  ⟨"GDM.DIV_FIRST", 0x40110028, 1, 0x10000, 1, 0x10000, 0xFFFF037F, 0x0, 0x0, 0x0, 0x0, 0x0, 0x0, 0x0⟩,
  ⟨"GDM.FAILOVERS", 0x4011002C, 1, 0x10000, 1, 0x10000, 0x0, 0x0, 0x0, 0x0, 0x0, 0x1FFFF, 0x0, 0x0⟩,
  ⟨"GDM.PEER_CLAIMS", 0x40110030, 1, 0x10000, 1, 0x10000, 0x0, 0x0, 0x0, 0x0, 0x0, 0x1FFFF, 0x0, 0x0⟩,
  ⟨"GDM.PEAK[x].HB0", 0x40110100, 2, 0x80, 1, 0x80, 0xFFFFFE00, 0x0, 0x0, 0x0, 0x0, 0x0, 0x0, 0x0⟩,
  ⟨"GDM.PEAK[x].HB1", 0x40110104, 2, 0x80, 1, 0x80, 0xFFFFFFFF, 0x0, 0x0, 0x0, 0x0, 0x0, 0x0, 0x0⟩,
  ⟨"GDM.PEAK[x].VERDICT", 0x40110108, 2, 0x80, 1, 0x80, 0xF03, 0x0, 0x0, 0x0, 0x0, 0x0, 0x0, 0x3⟩,
  ⟨"GDM.PEAK[x].MISSES", 0x4011010C, 2, 0x80, 1, 0x80, 0x0, 0x0, 0x0, 0x0, 0x0, 0x1FFFF, 0x0, 0x0⟩,
  ⟨"GDM.PEAK[x].REPORT", 0x40110110, 2, 0x80, 1, 0x80, 0x0, 0x3, 0x0, 0x0, 0x0, 0x0, 0x0, 0x0⟩,
  ⟨"GDM.PEAK[x].VIEW", 0x40110114, 2, 0x80, 1, 0x80, 0xFFFF0007, 0x0, 0x0, 0x0, 0x0, 0x0, 0x0, 0x3⟩,
  ⟨"GDM.PEAK[x].COPY", 0x40110118, 2, 0x80, 1, 0x80, 0xFFF, 0x0, 0x0, 0x0, 0x0, 0x0, 0x0, 0x0⟩,
  ⟨"GDM.PEAK[x].FAIL_RUN", 0x4011011C, 2, 0x80, 1, 0x80, 0x103, 0x0, 0x0, 0x0, 0x0, 0x0, 0x0, 0x0⟩,
  ⟨"GDM.PEAK[x].CARRY[r].BASE", 0x40110140, 2, 0x80, 8, 0x8, 0x0, 0x0, 0x0, 0x0, 0x0, 0x0, 0xFFFFFFFF, 0x0⟩,
  ⟨"GDM.PEAK[x].CARRY[r].SIZE", 0x40110144, 2, 0x80, 8, 0x8, 0x0, 0x0, 0x0, 0x0, 0x0, 0x0, 0x77FFF, 0x0⟩]

/-- The registers of block GDM. -/
def regRowsGdm : List RegRow := regRowsGdm0

def regRowsSaf0 : List RegRow := [
  ⟨"SAF.STATUS", 0x40120000, 1, 0x10000, 1, 0x10000, 0xFFF0007, 0x0, 0x0, 0x0, 0x0, 0x0, 0x0, 0x1FF0001⟩,
  ⟨"SAF.FLAGS", 0x40120004, 1, 0x10000, 1, 0x10000, 0x0, 0x0, 0x0, 0x1FF, 0x0, 0x0, 0x0, 0x0⟩,
  ⟨"SAF.CMD", 0x40120008, 1, 0x10000, 1, 0x10000, 0x0, 0x0, 0xFFFFFF07, 0x0, 0x0, 0x0, 0x0, 0x0⟩,
  ⟨"SAF.CMD_STATUS", 0x4012000C, 1, 0x10000, 1, 0x10000, 0x1F, 0x0, 0x0, 0x0, 0x0, 0x0, 0x0, 0x0⟩,
  ⟨"SAF.FUNC", 0x40120010, 1, 0x10000, 1, 0x10000, 0x70707, 0x0, 0x0, 0x0, 0x0, 0x0, 0x0, 0x20202⟩,
  ⟨"SAF.IN_STATE", 0x40120014, 1, 0x10000, 1, 0x10000, 0xFFFFFFFF, 0x0, 0x0, 0x0, 0x0, 0x0, 0x0, 0x0⟩,
  ⟨"SAF.IN_FAULT", 0x40120018, 1, 0x10000, 1, 0x10000, 0xFFFFFFFF, 0x0, 0x0, 0x0, 0x0, 0x0, 0x0, 0x0⟩,
  ⟨"SAF.OUT_STATE", 0x4012001C, 1, 0x10000, 1, 0x10000, 0xFFFF, 0x0, 0x0, 0x0, 0x0, 0x0, 0x0, 0x0⟩,
  ⟨"SAF.FIRST", 0x40120020, 1, 0x10000, 1, 0x10000, 0x0, 0x0, 0x0, 0x0, 0x0, 0x80F7FF00, 0x0, 0x0⟩,
  ⟨"SAF.FIRST_NS", 0x40120024, 1, 0x10000, 1, 0x10000, 0xFFFFFFFF, 0x0, 0x0, 0x0, 0x0, 0x0, 0x0, 0x0⟩,
  ⟨"SAF.DEMANDS", 0x40120028, 1, 0x10000, 1, 0x10000, 0x0, 0x0, 0x0, 0x0, 0x0, 0x1FFFF, 0x0, 0x0⟩,
  ⟨"SAF.DIAG_FAULTS", 0x4012002C, 1, 0x10000, 1, 0x10000, 0x0, 0x0, 0x0, 0x0, 0x0, 0x1FFFF, 0x0, 0x0⟩,
  ⟨"SAF.CFG_GEN", 0x40120030, 1, 0x10000, 1, 0x10000, 0xFFFFFFFF, 0x0, 0x0, 0x0, 0x0, 0x0, 0x0, 0x0⟩,
  ⟨"SAF.CFG_STAGE[n]", 0x40120100, 64, 0x4, 1, 0x4, 0x0, 0xFFFFFFFF, 0x0, 0x0, 0x0, 0x0, 0x0, 0x0⟩]

/-- The registers of block SAF. -/
def regRowsSaf : List RegRow := regRowsSaf0

def regRowsTal0 : List RegRow := [
  ⟨"TAL.FLAGS", 0x40040000, 1, 0x10000, 1, 0x10000, 0x0, 0x0, 0x0, 0x7F, 0x0, 0x0, 0x0, 0x0⟩,
  ⟨"TAL.SEG_BASE", 0x40040004, 1, 0x10000, 1, 0x10000, 0x0, 0x0, 0x0, 0x0, 0x0, 0x0, 0xFFFFFFFF, 0x0⟩,
  ⟨"TAL.MOR_LOW", 0x40040008, 1, 0x10000, 1, 0x10000, 0x0, 0x7FF, 0x0, 0x0, 0x0, 0x0, 0x0, 0x40⟩,
  ⟨"TAL.MOR_COUNT", 0x4004000C, 1, 0x10000, 1, 0x10000, 0x7FF07FF, 0x0, 0x0, 0x0, 0x0, 0x0, 0x0, 0x600⟩,
  ⟨"TAL.MOR_CMD", 0x40040010, 1, 0x10000, 1, 0x10000, 0x0, 0x0, 0xFFFFEFFF, 0x0, 0x0, 0x0, 0x0, 0x0⟩,
  ⟨"TAL.MOR_RESULT", 0x40040014, 1, 0x10000, 1, 0x10000, 0x800F0FFF, 0x0, 0x0, 0x0, 0x0, 0x0, 0x0, 0x0⟩,
  ⟨"TAL.SNAP", 0x40040018, 1, 0x10000, 1, 0x10000, 0x0, 0x0, 0x1, 0x0, 0x0, 0x0, 0x0, 0x0⟩,
  ⟨"TAL.SNAP_MOR0", 0x4004001C, 1, 0x10000, 1, 0x10000, 0x7FF07FF, 0x0, 0x0, 0x0, 0x0, 0x0, 0x0, 0x600⟩,
  ⟨"TAL.SNAP_MOR1", 0x40040020, 1, 0x10000, 1, 0x10000, 0x7FF07FF, 0x0, 0x0, 0x0, 0x0, 0x0, 0x0, 0x0⟩,
  ⟨"TAL.SNAP_MOR2", 0x40040024, 1, 0x10000, 1, 0x10000, 0xF07FF, 0x0, 0x0, 0x0, 0x0, 0x0, 0x0, 0x0⟩,
  ⟨"TAL.SNAP_SEG0", 0x40040028, 1, 0x10000, 1, 0x10000, 0x1FFF1FFF, 0x0, 0x0, 0x0, 0x0, 0x0, 0x0, 0x1000⟩,
  ⟨"TAL.SNAP_SEG1", 0x4004002C, 1, 0x10000, 1, 0x10000, 0x1FFF1FFF, 0x0, 0x0, 0x0, 0x0, 0x0, 0x0, 0x0⟩,
  ⟨"TAL.COND[n].CFG", 0x40040100, 16, 0x10, 1, 0x10, 0x0, 0x0, 0x0, 0x0, 0x0, 0x0, 0xFFFFFFE7, 0x0⟩,
  ⟨"TAL.COND[n].LEVEL", 0x40040104, 16, 0x10, 1, 0x10, 0x0, 0x0, 0x0, 0x0, 0x0, 0x0, 0xFFFFFF, 0x0⟩,
  ⟨"TAL.COND[n].LEVEL2", 0x40040108, 16, 0x10, 1, 0x10, 0x0, 0x0, 0x0, 0x0, 0x0, 0x0, 0xFFFFFF, 0x0⟩,
  ⟨"TAL.COND[n].HYST", 0x4004010C, 16, 0x10, 1, 0x10, 0x0, 0x0, 0x0, 0x0, 0x0, 0x0, 0x7FFFFF, 0x0⟩,
  ⟨"TAL.CH[c].CTRL", 0x40040200, 4, 0x20, 1, 0x20, 0x0, 0x1, 0x0, 0x0, 0x0, 0x0, 0x0, 0x0⟩,
  ⟨"TAL.CH[c].CFG", 0x40040204, 4, 0x20, 1, 0x20, 0x0, 0x0, 0x0, 0x0, 0x0, 0x0, 0xFFFFFFFE, 0x0⟩,
  ⟨"TAL.CH[c].SRC", 0x40040208, 4, 0x20, 1, 0x20, 0x0, 0x0, 0x0, 0x0, 0x0, 0x0, 0xFFFFFF, 0x0⟩,
  ⟨"TAL.CH[c].SRC_HI", 0x4004020C, 4, 0x20, 1, 0x20, 0x0, 0x0, 0x0, 0x0, 0x0, 0x0, 0xFFFFFF, 0x0⟩,
  ⟨"TAL.CH[c].STATUS", 0x40040210, 4, 0x20, 1, 0x20, 0xFFFF0007, 0x0, 0x0, 0x0, 0x0, 0x0, 0x0, 0x0⟩,
  ⟨"TAL.CH[c].LOST", 0x40040214, 4, 0x20, 1, 0x20, 0x0, 0x0, 0x0, 0x0, 0x0, 0x1FFFF, 0x0, 0x0⟩,
  ⟨"TAL.CH[c].CLOSED", 0x40040218, 4, 0x20, 1, 0x20, 0x0, 0x0, 0x0, 0x0, 0x0, 0x1FFFF, 0x0, 0x0⟩,
  ⟨"TAL.MOR_OWN[b]", 0x40044000, 1536, 0x4, 1, 0x4, 0xFF87FF, 0x0, 0x0, 0x0, 0x0, 0x0, 0x0, 0x0⟩]

def regRowsTal1 : List RegRow := [
  ⟨"TAL.CH[c].CFG_PRE", 0x4004021C, 4, 0x20, 1, 0x20, 0x0, 0x0, 0x0, 0x0, 0x0, 0x0, 0x3F, 0x0⟩]

/-- The registers of block TAL. -/
def regRowsTal : List RegRow := regRowsTal0 ++ regRowsTal1

def regRowsDma0 : List RegRow := [
  ⟨"DMA.FLAGS", 0x400C0000, 1, 0x10000, 1, 0x10000, 0x0, 0x0, 0x0, 0x1FFFF, 0x0, 0x0, 0x0, 0x0⟩,
  ⟨"DMA.CH[n].CTRL", 0x400C0100, 16, 0x80, 1, 0x80, 0x0, 0x4, 0x19, 0x0, 0x2, 0x0, 0x0, 0x0⟩,
  ⟨"DMA.CH[n].CFG", 0x400C0104, 16, 0x80, 1, 0x80, 0x0, 0x0, 0x0, 0x0, 0x0, 0x0, 0xFFFE0F0F, 0x0⟩,
  ⟨"DMA.CH[n].SRC", 0x400C0108, 16, 0x80, 1, 0x80, 0x0, 0x0, 0x0, 0x0, 0x0, 0x0, 0xFFFFFFFF, 0x0⟩,
  ⟨"DMA.CH[n].DST", 0x400C010C, 16, 0x80, 1, 0x80, 0x0, 0x0, 0x0, 0x0, 0x0, 0x0, 0xFFFFFFFF, 0x0⟩,
  ⟨"DMA.CH[n].COUNT", 0x400C0110, 16, 0x80, 1, 0x80, 0x0, 0x0, 0x0, 0x0, 0x0, 0x0, 0xFFFFFF, 0x0⟩,
  ⟨"DMA.CH[n].INDEX_BASE", 0x400C0114, 16, 0x80, 1, 0x80, 0x0, 0x0, 0x0, 0x0, 0x0, 0x0, 0xFFFFFFFF, 0x0⟩,
  ⟨"DMA.CH[n].INDEX_N", 0x400C0118, 16, 0x80, 1, 0x80, 0x0, 0x0, 0x0, 0x0, 0x0, 0x0, 0xFFFF, 0x0⟩,
  ⟨"DMA.CH[n].ELEM", 0x400C011C, 16, 0x80, 1, 0x80, 0x0, 0x0, 0x0, 0x0, 0x0, 0x0, 0x1FFF, 0x0⟩,
  ⟨"DMA.CH[n].INDEX_POS", 0x400C0120, 16, 0x80, 1, 0x80, 0x1FFFFFFF, 0x0, 0x0, 0x0, 0x0, 0x0, 0x0, 0x0⟩,
  ⟨"DMA.CH[n].SH_SRC", 0x400C0124, 16, 0x80, 1, 0x80, 0x0, 0xFFFFFFFF, 0x0, 0x0, 0x0, 0x0, 0x0, 0x0⟩,
  ⟨"DMA.CH[n].SH_DST", 0x400C0128, 16, 0x80, 1, 0x80, 0x0, 0xFFFFFFFF, 0x0, 0x0, 0x0, 0x0, 0x0, 0x0⟩,
  ⟨"DMA.CH[n].SH_COUNT", 0x400C012C, 16, 0x80, 1, 0x80, 0x0, 0xFFFFFFFF, 0x0, 0x0, 0x0, 0x0, 0x0, 0x0⟩,
  ⟨"DMA.CH[n].SH_INDEX_BASE", 0x400C0130, 16, 0x80, 1, 0x80, 0x0, 0xFFFFFFFF, 0x0, 0x0, 0x0, 0x0, 0x0, 0x0⟩,
  ⟨"DMA.CH[n].SH_INDEX_N", 0x400C0134, 16, 0x80, 1, 0x80, 0x0, 0xFFFFFFFF, 0x0, 0x0, 0x0, 0x0, 0x0, 0x0⟩,
  ⟨"DMA.CH[n].STATUS", 0x400C0140, 16, 0x80, 1, 0x80, 0xFFFFF037, 0x0, 0x0, 0x0, 0x0, 0x0, 0x0, 0x0⟩,
  ⟨"DMA.CH[n].FLAGS", 0x400C0144, 16, 0x80, 1, 0x80, 0x0, 0x0, 0x0, 0xF, 0x0, 0x0, 0x0, 0x0⟩,
  ⟨"DMA.CH[n].FAULT_ADDR", 0x400C0148, 16, 0x80, 1, 0x80, 0xFFFFFFFF, 0x0, 0x0, 0x0, 0x0, 0x0, 0x0, 0x0⟩,
  ⟨"DMA.CH[n].RETRY_COUNT", 0x400C014C, 16, 0x80, 1, 0x80, 0x0, 0x0, 0x0, 0x0, 0x0, 0x1FFFF, 0x0, 0x0⟩]

/-- The registers of block DMA. -/
def regRowsDma : List RegRow := regRowsDma0

def regRowsCrn0 : List RegRow := [
  ⟨"CRN.STATUS", 0x400D0000, 1, 0x10000, 1, 0x10000, 0xF3B, 0x0, 0x0, 0x0, 0x0, 0x0, 0x0, 0x1⟩,
  ⟨"CRN.FLAGS", 0x400D0004, 1, 0x10000, 1, 0x10000, 0x0, 0x0, 0x0, 0x7, 0x0, 0x0, 0x0, 0x0⟩,
  ⟨"CRN.CTRL", 0x400D0008, 1, 0x10000, 1, 0x10000, 0x0, 0x0, 0x3, 0x0, 0x0, 0x0, 0x0, 0x0⟩,
  ⟨"CRN.SYNC", 0x400D000C, 1, 0x10000, 1, 0x10000, 0x0, 0xFF, 0x0, 0x0, 0x0, 0x0, 0x0, 0x0⟩,
  ⟨"CRN.NOW_NS", 0x400D0010, 1, 0x10000, 1, 0x10000, 0x3FFFFFFF, 0x0, 0x0, 0x0, 0x0, 0x0, 0x0, 0x0⟩,
  ⟨"CRN.NOW_S_LO", 0x400D0014, 1, 0x10000, 1, 0x10000, 0xFFFFFFFF, 0x0, 0x0, 0x0, 0x0, 0x0, 0x0, 0x0⟩,
  ⟨"CRN.NOW_S_HI", 0x400D0018, 1, 0x10000, 1, 0x10000, 0xFFFFFFFF, 0x0, 0x0, 0x0, 0x0, 0x0, 0x0, 0x0⟩,
  ⟨"CRN.RATE_LO", 0x400D0020, 1, 0x10000, 1, 0x10000, 0x0, 0xFFFFFFFF, 0x0, 0x0, 0x0, 0x0, 0x0, 0x0⟩,
  ⟨"CRN.RATE_HI", 0x400D0024, 1, 0x10000, 1, 0x10000, 0x0, 0xFF, 0x0, 0x0, 0x0, 0x0, 0x0, 0x0⟩,
  ⟨"CRN.STEP_S_LO", 0x400D0030, 1, 0x10000, 1, 0x10000, 0x0, 0xFFFFFFFF, 0x0, 0x0, 0x0, 0x0, 0x0, 0x0⟩,
  ⟨"CRN.STEP_S_HI", 0x400D0034, 1, 0x10000, 1, 0x10000, 0x0, 0xFFFF, 0x0, 0x0, 0x0, 0x0, 0x0, 0x0⟩,
  ⟨"CRN.STEP_NS", 0x400D0038, 1, 0x10000, 1, 0x10000, 0x0, 0xFFFFFFFF, 0x0, 0x0, 0x0, 0x0, 0x0, 0x0⟩,
  ⟨"CRN.LEASE_LEFT", 0x400D0040, 1, 0x10000, 1, 0x10000, 0xFF, 0x0, 0x0, 0x0, 0x0, 0x0, 0x0, 0x0⟩,
  ⟨"CRN.STEPS", 0x400D0044, 1, 0x10000, 1, 0x10000, 0x0, 0x0, 0x0, 0x0, 0x0, 0x1FFFF, 0x0, 0x0⟩]

/-- The registers of block CRN. -/
def regRowsCrn : List RegRow := regRowsCrn0

def regRowsMac0 : List RegRow := [
  ⟨"MAC.CTRL", 0x400E0000, 1, 0x10000, 1, 0x10000, 0x0, 0x33, 0x0, 0x0, 0x0, 0x0, 0x0, 0x0⟩,
  ⟨"MAC.CFG", 0x400E0004, 1, 0x10000, 1, 0x10000, 0x0, 0x0, 0x0, 0x0, 0x0, 0x0, 0x7, 0x0⟩,
  ⟨"MAC.FLAGS", 0x400E0008, 1, 0x10000, 1, 0x10000, 0x0, 0x0, 0x0, 0xF, 0x0, 0x0, 0x0, 0x0⟩,
  ⟨"MAC.ADDR_LO", 0x400E0010, 1, 0x10000, 1, 0x10000, 0x0, 0xFFFFFFFF, 0x0, 0x0, 0x0, 0x0, 0x0, 0x0⟩,
  ⟨"MAC.ADDR_HI", 0x400E0014, 1, 0x10000, 1, 0x10000, 0x0, 0xFFFF, 0x0, 0x0, 0x0, 0x0, 0x0, 0x0⟩,
  ⟨"MAC.RX_LAT", 0x400E0018, 1, 0x10000, 1, 0x10000, 0x0, 0xFFFF, 0x0, 0x0, 0x0, 0x0, 0x0, 0x0⟩,
  ⟨"MAC.TX_LAT", 0x400E001C, 1, 0x10000, 1, 0x10000, 0x0, 0xFFFF, 0x0, 0x0, 0x0, 0x0, 0x0, 0x0⟩,
  ⟨"MAC.MDIO_CMD", 0x400E0020, 1, 0x10000, 1, 0x10000, 0x0, 0xF3FFFFFF, 0x0, 0x0, 0x0, 0x0, 0x0, 0x0⟩,
  ⟨"MAC.MDIO_DATA", 0x400E0024, 1, 0x10000, 1, 0x10000, 0xFFFF, 0x0, 0x0, 0x0, 0x0, 0x0, 0x0, 0x0⟩,
  ⟨"MAC.RX_ERR", 0x400E0028, 1, 0x10000, 1, 0x10000, 0x0, 0x0, 0x0, 0x0, 0x0, 0x1FFFF, 0x0, 0x0⟩,
  ⟨"MAC.RXQ[r].BASE", 0x400E0080, 2, 0x10, 1, 0x10, 0x0, 0x0, 0x0, 0x0, 0x0, 0x0, 0xFFFFFFFF, 0x0⟩,
  ⟨"MAC.RXQ[r].SLOTS", 0x400E0084, 2, 0x10, 1, 0x10, 0x0, 0x0, 0x0, 0x0, 0x0, 0x0, 0x7FF, 0x0⟩,
  ⟨"MAC.RXQ[r].HEAD", 0x400E0088, 2, 0x10, 1, 0x10, 0x3FF, 0x0, 0x0, 0x0, 0x0, 0x0, 0x0, 0x0⟩,
  ⟨"MAC.RXQ[r].DROP", 0x400E008C, 2, 0x10, 1, 0x10, 0x0, 0x0, 0x0, 0x0, 0x0, 0x1FFFF, 0x0, 0x0⟩,
  ⟨"MAC.TQ[q].BASE", 0x400E0100, 8, 0x20, 1, 0x20, 0x0, 0x0, 0x0, 0x0, 0x0, 0x0, 0xFFFFFFFF, 0x0⟩,
  ⟨"MAC.TQ[q].CFG", 0x400E0104, 8, 0x20, 1, 0x20, 0x0, 0x0, 0x0, 0x0, 0x0, 0x0, 0x101FF, 0x0⟩,
  ⟨"MAC.TQ[q].TAIL", 0x400E0108, 8, 0x20, 1, 0x20, 0x0, 0x1FF, 0x0, 0x0, 0x0, 0x0, 0x0, 0x0⟩,
  ⟨"MAC.TQ[q].RECLAIM", 0x400E010C, 8, 0x20, 1, 0x20, 0x0, 0x1FF, 0x0, 0x0, 0x0, 0x0, 0x0, 0x0⟩,
  ⟨"MAC.TQ[q].STATUS", 0x400E0110, 8, 0x20, 1, 0x20, 0x1FF3FFFF, 0x0, 0x0, 0x0, 0x0, 0x0, 0x0, 0x0⟩,
  ⟨"MAC.TQ[q].HEAD", 0x400E0114, 8, 0x20, 1, 0x20, 0x1FF, 0x0, 0x0, 0x0, 0x0, 0x0, 0x0, 0x0⟩,
  ⟨"MAC.TQ[q].LATE", 0x400E0118, 8, 0x20, 1, 0x20, 0x0, 0x0, 0x0, 0x0, 0x0, 0x1FFFF, 0x0, 0x0⟩,
  ⟨"MAC.MCAST[m].LO", 0x400E0030, 4, 0x8, 1, 0x8, 0x0, 0xFFFFFFFF, 0x0, 0x0, 0x0, 0x0, 0x0, 0x0⟩,
  ⟨"MAC.MCAST[m].HI", 0x400E0034, 4, 0x8, 1, 0x8, 0x0, 0xFFFF, 0x0, 0x0, 0x0, 0x0, 0x0, 0x0⟩]

/-- The registers of block MAC. -/
def regRowsMac : List RegRow := regRowsMac0

def regRowsThm0 : List RegRow := [
  ⟨"THM.STATUS", 0x40100000, 1, 0x10000, 1, 0x10000, 0x3F3F, 0x0, 0x0, 0x0, 0x0, 0x0, 0x0, 0x20⟩,
  ⟨"THM.FLAGS", 0x40100004, 1, 0x10000, 1, 0x10000, 0x0, 0x0, 0x0, 0x7F, 0x0, 0x0, 0x0, 0x0⟩,
  ⟨"THM.CTRL", 0x40100008, 1, 0x10000, 1, 0x10000, 0x0, 0xFF3F, 0x0, 0x0, 0x0, 0x0, 0x0, 0xA10⟩,
  ⟨"THM.STEPS", 0x4010000C, 1, 0x10000, 1, 0x10000, 0x0, 0x0, 0x0, 0x0, 0x0, 0x1FFFF, 0x0, 0x0⟩,
  ⟨"THM.SENS[n].CTRL", 0x40100100, 8, 0x20, 1, 0x20, 0x0, 0x1, 0x0, 0x0, 0x0, 0x0, 0x0, 0x0⟩,
  ⟨"THM.SENS[n].CTRL", 0x40100200, 4, 0x20, 1, 0x20, 0x1, 0x0, 0x0, 0x0, 0x0, 0x0, 0x0, 0x1⟩,
  ⟨"THM.SENS[n].CFG", 0x40100104, 8, 0x20, 1, 0x20, 0x0, 0x0, 0x0, 0x0, 0x0, 0x0, 0xFFFF0333, 0x40000310⟩,
  ⟨"THM.SENS[n].CFG", 0x40100204, 4, 0x20, 1, 0x20, 0x0, 0xFFFF0333, 0x0, 0x0, 0x0, 0x0, 0x0, 0x40000310⟩,
  ⟨"THM.SENS[n].R25", 0x40100108, 8, 0x20, 1, 0x20, 0x0, 0x0, 0x0, 0x0, 0x0, 0x0, 0xFFFFF, 0x2710⟩,
  ⟨"THM.SENS[n].R25", 0x40100208, 4, 0x20, 1, 0x20, 0x0, 0xFFFFF, 0x0, 0x0, 0x0, 0x0, 0x0, 0x2710⟩,
  ⟨"THM.SENS[n].BETA", 0x4010010C, 8, 0x20, 1, 0x20, 0x0, 0x0, 0x0, 0x0, 0x0, 0x0, 0xFFFF, 0xF6E⟩,
  ⟨"THM.SENS[n].BETA", 0x4010020C, 4, 0x20, 1, 0x20, 0x0, 0xFFFF, 0x0, 0x0, 0x0, 0x0, 0x0, 0xF6E⟩,
  ⟨"THM.SENS[n].LIM_WT", 0x40100110, 8, 0x20, 1, 0x20, 0x0, 0x0, 0x0, 0x0, 0x0, 0x0, 0xFFFFFFFF, 0x6E00640⟩,
  ⟨"THM.SENS[n].LIM_WT", 0x40100210, 4, 0x20, 1, 0x20, 0x0, 0xFFFFFFFF, 0x0, 0x0, 0x0, 0x0, 0x0, 0x78006E0⟩,
  ⟨"THM.SENS[n].LIM_S", 0x40100114, 8, 0x20, 1, 0x20, 0x0, 0x0, 0x0, 0x0, 0x0, 0x0, 0xFFFF, 0x780⟩,
  ⟨"THM.SENS[n].LIM_S", 0x40100214, 4, 0x20, 1, 0x20, 0x0, 0xFFFF, 0x0, 0x0, 0x0, 0x0, 0x0, 0x820⟩,
  ⟨"THM.SENS[n].HYST", 0x40100118, 8, 0x20, 1, 0x20, 0x0, 0x0, 0x0, 0x0, 0x0, 0x0, 0xFFFFFF, 0x80808⟩,
  ⟨"THM.SENS[n].HYST", 0x40100218, 4, 0x20, 1, 0x20, 0x0, 0xFFFFFF, 0x0, 0x0, 0x0, 0x0, 0x0, 0x80808⟩,
  ⟨"THM.SENS[n].TEMP", 0x4010011C, 12, 0x20, 1, 0x20, 0x7FFFFF, 0x0, 0x0, 0x0, 0x0, 0x0, 0x0, 0x8000⟩]

/-- The registers of block THM. -/
def regRowsThm : List RegRow := regRowsThm0

def regRowsCol0 : List RegRow := [
  ⟨"COL.STATUS", 0x40150000, 1, 0x10000, 1, 0x10000, 0x1FF01FF, 0x0, 0x0, 0x0, 0x0, 0x0, 0x0, 0x0⟩,
  ⟨"COL.FLAGS", 0x40150004, 1, 0x10000, 1, 0x10000, 0x0, 0x0, 0x0, 0x1F, 0x0, 0x0, 0x0, 0x0⟩,
  ⟨"COL.IN_PUSH", 0x40150008, 1, 0x10000, 1, 0x10000, 0x0, 0x0, 0xFFFFFFFF, 0x0, 0x0, 0x0, 0x0, 0x0⟩,
  ⟨"COL.IN_POP", 0x4015000C, 1, 0x10000, 1, 0x10000, 0xFFFFFFFF, 0x0, 0x0, 0x0, 0x0, 0x0, 0x0, 0x0⟩,
  ⟨"COL.OUT_PUSH", 0x40150010, 1, 0x10000, 1, 0x10000, 0x0, 0x0, 0xFFFFFFFF, 0x0, 0x0, 0x0, 0x0, 0x0⟩,
  ⟨"COL.OUT_POP", 0x40150014, 1, 0x10000, 1, 0x10000, 0xFFFFFFFF, 0x0, 0x0, 0x0, 0x0, 0x0, 0x0, 0x0⟩,
  ⟨"COL.THRESH", 0x40150018, 1, 0x10000, 1, 0x10000, 0x0, 0xFF00FF, 0x0, 0x0, 0x0, 0x0, 0x0, 0x0⟩,
  ⟨"COL.INT_PEND", 0x4015001C, 1, 0x10000, 1, 0x10000, 0x0, 0x0, 0x0, 0xFF03, 0x0, 0x0, 0x0, 0x0⟩,
  ⟨"COL.DOORBELL", 0x40150020, 1, 0x10000, 1, 0x10000, 0x0, 0x0, 0xFF, 0x0, 0x0, 0x0, 0x0, 0x0⟩,
  ⟨"COL.INT_EN0", 0x40150024, 1, 0x10000, 1, 0x10000, 0x0, 0xFF03, 0x0, 0x0, 0x0, 0x0, 0x0, 0x0⟩,
  ⟨"COL.INT_EN1", 0x40150028, 1, 0x10000, 1, 0x10000, 0x0, 0xFF03, 0x0, 0x0, 0x0, 0x0, 0x0, 0x0⟩]

/-- The registers of block COL. -/
def regRowsCol : List RegRow := regRowsCol0

def regRowsGw0 : List RegRow := [
  ⟨"COL.GW_STATUS", 0x40150000, 1, 0x10000, 1, 0x10000, 0x3, 0x0, 0x0, 0x0, 0x0, 0x0, 0x0, 0x0⟩,
  ⟨"COL.GW_FLAGS", 0x40150004, 1, 0x10000, 1, 0x10000, 0x0, 0x0, 0x0, 0x3, 0x0, 0x0, 0x0, 0x0⟩,
  ⟨"COL.GW_BOOT_DATA", 0x40150008, 1, 0x10000, 1, 0x10000, 0x0, 0x0, 0xFFFFFFFF, 0x0, 0x0, 0x0, 0x0, 0x0⟩,
  ⟨"COL.GW_BOOT_COUNT", 0x4015000C, 1, 0x10000, 1, 0x10000, 0x7FFFFF, 0x0, 0x0, 0x0, 0x0, 0x0, 0x0, 0x0⟩,
  ⟨"COL.GW_INT_PEND", 0x40150010, 1, 0x10000, 1, 0x10000, 0x0, 0x0, 0x0, 0x1F, 0x0, 0x0, 0x0, 0x0⟩,
  ⟨"COL.GW_INT_EN0", 0x40150014, 1, 0x10000, 1, 0x10000, 0x0, 0x1F, 0x0, 0x0, 0x0, 0x0, 0x0, 0x0⟩,
  ⟨"COL.GW_INT_EN1", 0x40150018, 1, 0x10000, 1, 0x10000, 0x0, 0x1F, 0x0, 0x0, 0x0, 0x0, 0x0, 0x0⟩,
  ⟨"COL.GW_FRAMES", 0x4015001C, 1, 0x10000, 1, 0x10000, 0x0, 0x0, 0x0, 0x0, 0x0, 0x1FFFF, 0x0, 0x0⟩,
  ⟨"COL.GW_CRC_ERRS", 0x40150020, 1, 0x10000, 1, 0x10000, 0x0, 0x0, 0x0, 0x0, 0x0, 0x1FFFF, 0x0, 0x0⟩]

/-- The registers of block GW. -/
def regRowsGw : List RegRow := regRowsGw0

def regRowsObs0 : List RegRow := [
  ⟨"OBS.TRC_CTRL", 0x40160000, 1, 0x10000, 1, 0x10000, 0x0, 0xFFFF, 0x0, 0x0, 0x0, 0x0, 0x0, 0x0⟩,
  ⟨"OBS.TRC_LOST", 0x40160004, 1, 0x10000, 1, 0x10000, 0x0, 0x0, 0x0, 0x0, 0x0, 0x1FFFF, 0x0, 0x0⟩,
  ⟨"OBS.CNT[k].SEL", 0x40160100, 8, 0x10, 1, 0x10, 0x0, 0x0, 0x0, 0x0, 0x0, 0x0, 0xFFFF, 0x0⟩,
  ⟨"OBS.CNT[k].CTRL", 0x40160104, 8, 0x10, 1, 0x10, 0x0, 0x1, 0x0, 0x0, 0x0, 0x0, 0x0, 0x0⟩,
  ⟨"OBS.CNT[k].LO", 0x40160108, 8, 0x10, 1, 0x10, 0xFFFFFFFF, 0x0, 0x0, 0x0, 0x0, 0x0, 0x0, 0x0⟩,
  ⟨"OBS.CNT[k].HI", 0x4016010C, 8, 0x10, 1, 0x10, 0x1FFFF, 0x0, 0x0, 0x0, 0x0, 0x0, 0x0, 0x0⟩]

/-- The registers of block OBS. -/
def regRowsObs : List RegRow := regRowsObs0

end Sys2Proof.Machine
end

