-- ==== Sys2Proof/Machine/Tab.lean ====
section
/-! DEFINITION. Sparse tables in one canonical form: a list of (key, value) pairs with strictly rising keys in which no entry equals
what an unlisted key reads as. Registers and memories are held this way. -/

namespace Sys2Proof.Machine

/-- A sparse table from numbers to values. -/
abbrev Tab (α : Type) := List (Nat × α)

/-- The value at key `k`; `d k` where nothing is listed. -/
def Tab.get {α : Type} (d : Nat → α) (t : Tab α) (k : Nat) : α :=
  match t with
  | [] => d k
  | (k', v) :: r => if k' = k then v else Tab.get d r k

/-- The table without key `k`. -/
def Tab.erase {α : Type} (t : Tab α) (k : Nat) : Tab α := t.filter (fun e => e.1 != k)

/-- An entry put before the first larger key. -/
def Tab.insert {α : Type} (t : Tab α) (k : Nat) (v : α) : Tab α :=
  match t with
  | [] => [(k, v)]
  | e :: r => if k < e.1 then (k, v) :: e :: r else e :: Tab.insert r k v

/-- The table with `v` at key `k`: the default value removes the entry. -/
def Tab.put {α : Type} [DecidableEq α] (d : Nat → α) (t : Tab α) (k : Nat) (v : α) : Tab α :=
  if v = d k then Tab.erase t k else Tab.insert (Tab.erase t k) k v

/-- Are all keys above `lo` and strictly rising? -/
def Tab.sortedFrom {α : Type} (lo : Nat) : Tab α → Bool
  | [] => true
  | (k, _) :: r => decide (lo ≤ k) && Tab.sortedFrom (k + 1) r

/-- The canonical form: strictly rising keys and no entry at its default. -/
def Tab.wf {α : Type} [DecidableEq α] (d : Nat → α) (t : Tab α) : Bool :=
  Tab.sortedFrom 0 t && t.all (fun e => decide (e.2 ≠ d e.1))

end Sys2Proof.Machine
end

