-- ==== Sys2Proof/Machine/State.lean ====
section
/-! DEFINITION. The state of the device as plain data: its registers, its memories, what each block keeps beside them, and the queue of waiting
commands. -/

namespace Sys2Proof.Machine

/-- The ways a step could stop with a fault. No meaning of this model ends in one. -/
inductive Fault where
  /-- Raised by no command: a place for a stop that the spec's part would report. Safe: a claim about a next state never speaks of it. -/
  | stuck
  deriving DecidableEq, Repr

/-- The ways the model refuses a command. -/
inductive Refusal where
  /-- Raised by the dispatch for a command that has no meaning yet, under its mnemonic. Safe: nothing is claimed of it. -/
  | notModelled (mnemonic : String)
  deriving DecidableEq, Repr

/-! ### Clocks, power and boot (R34 to R87) -/

/-- Where the device stands on its way from power to operation. -/
inductive Phase where
  /-- No VAUXG, or RESET_N low. -/
  | off
  /-- Cold start: the latest instant passed, t0 to t2 (R61). -/
  | cold (i : Nat)
  /-- At t3 or later, waiting for a good XIN and a VAUX (R62, R63). -/
  | waiting
  /-- The stages of R54: the latest instant passed, t0 to t5; from a wake or from a cold start. -/
  | stages (i : Nat) (wake : Bool)
  | running
  /-- Bivouac is being entered (R50). -/
  | entering
  | bivouac
  /-- The Gendarme keeps the safe state and goes no further (R62), or the device is RETIRED (R78). -/
  | halted
  deriving DecidableEq, Repr

/-- A PLL beside CLK.STATUS (R40 to R46). -/
structure Pll where
  locked : Bool := false
  coast : Bool := false
  subst : Bool := false
  /-- The coast came from a loss of lock, not of the reference. -/
  lol : Bool := false
  /-- It re-acquires XIN under R44. -/
  returning : Bool := false
  deriving DecidableEq, Repr

/-- The one-time fuses (R77). -/
structure Fuses where
  /-- Fuses blown in the group of each transition: to PROVISIONED, FIELD, RETIRED. -/
  groups : Nat × Nat × Nat := (0, 0, 0)
  programmed : BitVec 4 := 0
  damaged : BitVec 4 := 0
  revoked : BitVec 4 := 0
  svn : Nat := 0
  /-- The key hashes, 32 words. -/
  hashes : Tab Word := []
  /-- The ordered code is YD9600-X (R2, R429). -/
  xCode : Bool := false
  deriving DecidableEq, Repr

/-- A lifecycle operation in progress (R75). -/
structure LcsOp where
  op : Nat
  arg : Nat
  deriving DecidableEq, Repr

/-- Where a Peak's boot controller stands (R70). -/
inductive BootAt where
  | none
  /-- Released: memory phase. -/
  | r0
  /-- Fetching a slot, or waiting for one. -/
  | fetch (slot : Nat)
  /-- A slot was accepted and loaded. -/
  | ready (slot : Nat)
  | done
  deriving DecidableEq, Repr

/-- Power, clocks and boot of the whole device. -/
structure Power where
  /-- The supplies above their thresholds. -/
  vauxG : Bool := false
  vauxA : Bool := false
  vauxB : Bool := false
  /-- The ticks at which VAUXA and VAUXB rose last (R197). -/
  vauxAt : Two Nat := ⟨0, 0⟩
  vdrv : Bool := false
  vio1 : Bool := false
  vio2 : Bool := false
  resetLow : Bool := false
  phase : Phase := .off
  /-- XIN is present and within ±5 % by the latest judgement (R41). -/
  xin : Bool := false
  /-- XIN edges are missing now (R41, R43). -/
  missing : Bool := false
  plls : Tab Pll := []
  fuses : Fuses := {}
  lcs : Option LcsOp := none
  /-- A verified state advance waits for its reset (R76). -/
  lcsReset : Bool := false
  /-- The causes of the reset in progress (R65). -/
  cause : Nat := 0
  /-- What the wake logic holds (R50, R52): WAKE_CFG, WAKE_TIME, KEEP[0] to [3], the sources latched, a loss of reference. -/
  wakeCfg : Nat := 0
  wakeTime : Nat := 0
  keep : List Word := []
  wakeSrc : BitVec 3 := 0
  /-- The tick at which the first source was latched. -/
  wakeAt : Nat := 0
  refLost : Bool := false
  /-- The Peaks that stay in reset after their PLL missed an instant (R55). -/
  pllFail : Two Bool := ⟨false, false⟩
  /-- A Peak that passes the instants of R54 alone, to rejoin: the latest instant passed (R346). -/
  joinAt : Two (Option Nat) := ⟨none, none⟩
  /-- Cirque domains whose PLL locked at t3. -/
  cirqOk : Two Bool := ⟨false, false⟩
  boot : Two BootAt := ⟨.none, .none⟩
  /-- Slot images of the present boot and the words of a Col image, newest first. -/
  slot0 : Option (List Byte) := none
  slot1 : Option (List Byte) := none
  colBytes : List Byte := []
  /-- SHA-256 of the image that each Peak runs (R346). -/
  imageHash : Two (BitVec 256) := ⟨0, 0⟩
  /-- The self-test results have merged (R70 r4). -/
  merged : Bool := false
  /-- An on-demand run in each Peak (R86): word and mask. -/
  bist : Two (Option (Nat × Nat)) := ⟨none, none⟩
  /-- PWRGD is released (R64). -/
  pwrgd : Bool := false
  deriving DecidableEq, Repr


/-! ### Cores (R88 to R126) -/

/-- A posted store that has not completed: pieces of at most four bytes, each (address, bytes, value), that complete together. -/
structure Posted where
  pieces : List (Nat × Nat × Nat)
  /-- The store is discarded before the Saddle (R161 KIND 0x1, R165). -/
  dropped : Bool := false
  deriving DecidableEq, Repr

/-- One Rilni core (R93). The register files are sparse with default 0; s0 and q0 are never stored. Cycles count from the first
instruction of the run. -/
structure Core where
  s : Tab Word := []
  v : Tab Word := []
  ph : Tab (BitVec 64) := []
  q : Tab (BitVec 4) := []
  pc : Word := 0
  /-- The sticky flags of the running task (R103). -/
  flags : FlagSet := 0
  /-- The event a WAIT waits for (R114). -/
  waitFor : Option (BitVec 8) := none
  /-- The earliest cycle at which the next instruction can issue (R88). -/
  issue : Nat := 0
  /-- The cycle at which each register's result is usable (R90, R129), keyed s 0 to 31, v 32 to 39, p 40 to 43, q 44 to 47. -/
  ready : Tab Nat := []
  /-- The cycle at which the divide unit accepts again (R91). -/
  divFree : Nat := 0
  /-- The cycle at which the shadow lane accepts again (R109). -/
  laneFree : Nat := 0
  /-- The cycle at which a step of a coprocessor unit completes (R122), keyed by the 5-bit U field, and 64 + m for loop m. -/
  unitFree : Tab Nat := []
  /-- The cycle at which the latest entry of a full store buffer completed, and at which the latest store completed (R108). -/
  freedAt : Nat := 0
  doneAt : Nat := 0
  /-- The Peak's core cycle count at cycle 0 of the run. -/
  runBase : Nat := 0
  /-- LOCAL CYCLES_HI as latched (R126). -/
  cyclesHi : Nat := 0
  /-- The boot run's wait latches (R156). -/
  bootWait : BitVec 256 := 0
  /-- The store buffer, oldest first, at most four entries (R108). -/
  buf : List Posted := []
  /-- The shadow lane's stores whose handshake is not complete, oldest first (R109). -/
  shadows : List Posted := []
  deriving DecidableEq, Repr

/-! ### Traverse (R148 to R173) -/

/-- A certificate's numbers as the load check read them (R157). -/
structure Cert where
  codeAddr : Nat := 0
  codeLen : Nat := 0
  codeCrc : Nat := 0
  cStore : Nat := 0
  cEnd : Nat := 0
  deriving DecidableEq, Repr

/-- Where a replacement stands (R171). -/
inductive Repl where
  | none
  | checking (entry : Word) (certAddr : Word) (at_ : Nat)
  | armed (entry : Word) (cert : Cert) (certAddr : Word) (at_ : Nat)
  | open_ (entry : Word) (cert : Cert) (certAddr : Word)
  deriving DecidableEq, Repr

/-- What Traverse keeps of one task beside its registers. -/
structure Task where
  /-- The wait latches (R153). -/
  wait : BitVec 256 := 0
  /-- The latched start's event and tick (R154, R164). -/
  latchEv : Nat := 0
  latchTick : Nat := 0
  /-- The latched start's deadline has passed (R165). -/
  latchLate : Bool := false
  /-- The running instance's start tick. -/
  startTick : Nat := 0
  /-- The running instance has passed its deadline or kept it from its latched start (R165). -/
  late : Bool := false
  /-- The frame series has had its first release. -/
  released : Bool := false
  /-- B_0 of the frame series, once known (R168). -/
  b0 : Option Nat := Option.none
  /-- The instance number k, and T_k (R168). -/
  k : Nat := 0
  tk : Nat := 0
  /-- The tick of the last instance's END, none before or while it runs (R168). -/
  ek : Option Nat := Option.none
  /-- The certificate in force (R157). -/
  cert : Cert := {}
  repl : Repl := .none
  /-- The summit run ended without its END, or its END was reported as missing at C_END (R119, R161). -/
  noEnd : Bool := false
  endMissed : Bool := false
  /-- An UNLOAD waits for END (R170). -/
  unloadAtEnd : Bool := false
  deriving DecidableEq, Repr

/-- A TRV command in progress (R159, R171). -/
structure TrvCmd where
  op : Nat
  task : Nat
  code : Nat := 0
  cert : Cert := {}
  deriving DecidableEq, Repr


/-! ### Cirque (R174 to R199, R472) -/

/-- A converted sample on its way to the Peaks: its instant in ticks, its word (R176), whether it is the period's tagged sample, and the gain
(R174) and the mode (R194) in which it was taken. -/
structure Flight where
  at_ : Nat
  word : Word
  tagged : Bool
  gain : Nat
  single : Bool
  deriving DecidableEq, Repr

/-- What the Cirque keeps of one input. Ticks are Saddle ticks. -/
structure CirqIn where
  /-- The grid: points at `origin` modulo 20 ticks, member A at `origin` modulo 40 (R177). -/
  origin : Nat := 0
  /-- The next sample is the first after a re-phase (R181). -/
  rephase : Bool := false
  /-- Domain B has returned, and its member waits for member A's next conversion (R197). -/
  bWait : Bool := false
  /-- The last conversion of each member. -/
  lastA : Option Nat := none
  lastB : Option Nat := none
  /-- A GAIN window opens at the next sample; the ends of the GAIN and CHECK windows (R192). -/
  gainArm : Bool := false
  gainUntil : Nat := 0
  checkUntil : Nat := 0
  /-- The SEQ of the next tagged sample (R198). -/
  seq : Nat := 0
  /-- The tagged sample whose Shoulder value is not yet ready (R180). -/
  tag : Option Flight := none
  /-- Samples not yet at Peak A's and Peak B's Couloir, oldest first. -/
  flight : Two (List Flight) := ⟨[], []⟩
  deriving DecidableEq, Repr

/-- A converter's correction (R176): its calibrated offset and gain, and those in force since the latest fit (R187, R188). Offsets are in
1/256 LSB, gains in 1/256 of a part per million. -/
structure Corr where
  calOff : Int := 0
  calGain : Int := 0
  off : Int := 0
  gain : Int := 0
  deriving DecidableEq, Repr

/-- What a rotor keeps beside its register (R183 to R189). -/
structure Rotor where
  /-- The tick at which the present step started. -/
  startAt : Nat := 0
  /-- The least and the greatest VALUE of the valid overlap samples (R187). -/
  span : Option (Int × Int) := none
  /-- Valid overlap samples. -/
  count : Nat := 0
  /-- The converter that is calibrated and becomes the relief. -/
  freed : Option Nat := none
  /-- The calibration of this window has ended without loss of the converter. -/
  calDone : Bool := false
  /-- Consecutive MATCH_FAIL steps on the present slot, and the slots skipped until reset (R187). -/
  fails : Nat := 0
  skipped : List Nat := []
  /-- The step found no match, so the next step targets the same slot. -/
  sameSlot : Bool := false
  /-- The return calibration has started, and the converters that it has calibrated (R197). -/
  retBegun : Bool := false
  retConvs : List Nat := []
  deriving DecidableEq, Repr

/-- A bank's diagnostic (R190). -/
structure Diag where
  connected : Nat := 0
  sum : Int := 0
  count : Nat := 0
  deriving DecidableEq, Repr

/-- The Cirque beside its registers. -/
structure Cirque where
  /-- The tick of the Cirque's release from reset. -/
  released : Nat := 0
  running : Bool := false
  ins : Tab CirqIn := []
  /-- Keyed domain × 6 + bank. -/
  rotors : Tab Rotor := []
  diags : Tab Diag := []
  /-- The tick of the last calibration of each converter, keyed (domain × 6 + bank) × 9 + converter. -/
  calTick : Tab Nat := []
  /-- The corrections of the converters, under the same keys. -/
  corr : Tab Corr := []
  /-- A returning domain's PLL acquires; it has locked (R197). -/
  acquiring : Two Bool := ⟨false, false⟩
  locked : Two Bool := ⟨false, false⟩
  deriving DecidableEq, Repr



/-! ### Couloir (R200 to R224) -/

/-- A sample as the Couloir takes it: its instant in ticks, X of R201, and the mode in which it was taken. -/
structure CSamp where
  at_ : Nat
  x : Int
  valid : Bool
  reason : Nat
  clip : Bool
  reph : Bool
  single : Bool
  deriving DecidableEq, Repr

/-- A stage's output: the value and its CLIP. -/
structure Stage where
  v : Int
  clip : Bool
  deriving DecidableEq, Repr

/-- A fine output: its word, its effective instant in ticks, the running sum of the fine stream up to it, and the instant of the newest sample with
REPHASE in its support. -/
structure FineOut where
  word : Word
  e : Int
  sum : Int
  rephAt : Option Nat
  deriving DecidableEq, Repr

/-- A fine path (R207, R208). -/
structure FinePath where
  /-- The instant of the restart sample; none until it comes. -/
  start : Option Nat := none
  /-- The instant of the newest slot, and how many slots came after the first. -/
  newest : Nat := 0
  n : Nat := 0
  /-- The latest sample's value, and the latest valid sample's value. -/
  held : Int := 0
  valid : Int := 0
  /-- The last 36 slots, 19 CIC outputs and 31 HB1 outputs, newest first. -/
  slots : List Stage := []
  cic : List Stage := []
  hb1 : List Stage := []
  /-- The newest invalid slot and its reason. -/
  lastInv : Option (Nat × Nat) := none
  /-- A slot with REPHASE has entered since the last output; the instant of the newest one. -/
  reph : Bool := false
  rephAt : Option Nat := none
  /-- The latest sample was taken in single-domain operation. -/
  single : Bool := false
  sum : Int := 0
  /-- Outputs not yet announced as ready, oldest first. -/
  ready : List FineOut := []
  /-- Outputs announced, newest first, for the resampler, and the newest sample with REPHASE that a resampled value has marked. -/
  hist : List FineOut := []
  rsReph : Option Nat := none
  deriving DecidableEq, Repr

/-- What a period mean has gathered (R215, R216). -/
structure MeanAcc where
  n : Nat := 0
  sum : Int := 0
  instants : Nat := 0
  /-- The reason of the newest invalid sample. -/
  inv : Option Nat := none
  clip : Bool := false
  reph : Bool := false
  deriving DecidableEq, Repr

/-- A window integrator. -/
structure MeanPath where
  /-- It counts, from this instant on; none before its first wrap or while the timebase is stopped. -/
  from_ : Option Nat := none
  /-- The window in progress has run whole so far (R211). -/
  whole : Bool := false
  acc : MeanAcc := {}
  /-- A closing wrap whose mean is not yet ready, whether its window ran whole, and what the next window has gathered since. -/
  closing : Option Nat := none
  closeWhole : Bool := false
  next : MeanAcc := {}
  deriving DecidableEq, Repr

/-- One input's chain in one Peak. -/
structure Chain where
  /-- The samples of the Shoulder window, newest first. -/
  hist : List CSamp := []
  /-- EN went to 1 at this tick and no sample taken since has arrived; the first sample instant after the restart, none before any sample. -/
  shRestart : Option Nat := none
  shStart : Option Nat := none
  /-- The Shoulder word of the tagged sample that waits for its ready instant. -/
  tag : Option Word := none
  /-- The newest samples with REPHASE that the TAG and the fused stream have marked (R212). -/
  tagReph : Option Nat := none
  fusedReph : Option Nat := none
  fine : FinePath := {}
  mean : MeanPath := {}
  deriving DecidableEq, Repr

/-- A crossing of a group's line (R218): its index, its instant in units of 1 / (1024 · inc) ticks, the increment in force, and whether it follows a
slip. -/
structure Crossing where
  m : Nat
  tau : Int
  inc : Nat
  reph : Bool
  deriving DecidableEq, Repr

/-- A resampler group (R217 to R221): its source line, θ(t) = phase + inc · (t − tick), and its next crossing. -/
structure Rsg where
  tick : Nat := 0
  phase : Nat := 0
  inc : Nat := 0
  /-- The next index within the cycle. -/
  m : Nat := 0
  /-- The last crossing's instant in 1/1024 ticks, and whether this run has had one. -/
  last : Int := 0
  begun : Bool := false
  reph : Bool := false
  /-- Crossings whose outputs are not yet ready, oldest first. -/
  due : List Crossing := []
  /-- Records written. -/
  seq : Nat := 0
  deriving DecidableEq, Repr

/-- A Shoulder value on its way to its slot (R204): the tick at which it is ready, its input, word and effective instant, and the instant of the newest
sample with REPHASE in its window. -/
structure ShValue where
  due : Nat
  i : Nat
  word : Word
  e : Int × Nat
  rephAt : Option Nat
  deriving DecidableEq, Repr

/-- A Peak's Couloir beside its registers. -/
structure Couloir where
  /-- Shoulder values that are not yet ready, oldest first. -/
  soon : List ShValue := []
  chains : Tab Chain := []
  /-- The output slots of R203, keyed input × 8 + slot; the words at reset are `slotReset`. -/
  slots : Tab Word := []
  /-- The effective instant of a slot's value, as a fraction of ticks. -/
  instants : Tab (Int × Nat) := []
  rsg : Tab Rsg := []
  /-- What each Ridgeline engine published last: tick, angle and increment per tick, in 2^-64 turns (R217). -/
  pubs : Tab (Nat × Nat × Nat) := []
  deriving DecidableEq, Repr




/-! ### Ridgeline and Switchback (R225 to R269) -/

/-- A dq or αβ pair of fp32 words. -/
structure Dq where
  d : Word := 0
  q : Word := 0
  deriving DecidableEq, Repr

/-- What a step reads at its start (R226, R232, R249): the start of its period and the PRD in force in it, the keeper with its tick and increment, and
the throttle scale. -/
structure EngStep where
  wrap : Nat := 0
  prd : Nat := 0xFFFFF
  keeper : Nat := 0
  keepTick : Nat := 0
  inc : Nat := 0
  scale : Nat := 32
  deriving DecidableEq, Repr

/-- What a Ridgeline engine keeps beside its registers. -/
structure Eng where
  /-- The timebase in use: CFG.TB as of the latest step's start (R229). -/
  tb : Nat := 0
  /-- The keeper's value at `keepTick`, its increment in force, and the one that follows at the coming wrap, in 2^-64 turns (R231). -/
  keeper : Nat := 0
  keepTick : Nat := 0
  inc : Nat := 0
  incNext : Nat := 0
  /-- KEEPER_SET_HI armed the set for the next wrap (R233). -/
  keeperSet : Option Nat := none
  /-- A step runs, and what it read at its start. -/
  running : Bool := false
  start : EngStep := {}
  /-- The core cycle of its Peak in which that step completes (R122). -/
  due : Nat := 0
  /-- The throttle scale delivered at the latest PERIOD_TB wrap at or before this period's start (R249). -/
  scale : Nat := 32
  /-- The step that runs is a second one in its period (R227). -/
  twice : Bool := false
  /-- This period has had its step. -/
  stepped : Bool := false
  /-- Register writes that landed while the step runs (R229), and the command not yet examined (R237). -/
  late : List (Nat × Word) := []
  cmd : Option Nat := none
  /-- BS_START_S was written while waiting (R244). -/
  bsMoved : Bool := false
  omega : Word := 0
  omegaV : Word := 0
  deltaPrev : Word := 0
  xPll : Word := 0
  eMag : Word := 0
  omegaIn : Word := 0
  /-- The sequence filters' values (R234). -/
  v1 : Dq := {}
  v2 : Dq := {}
  i1m : Dq := {}
  i2m : Dq := {}
  /-- The transfer term as set, the time it was given and the time it still has, and whether the next step sets it (R242); the change came from
  FOLLOW. -/
  tr : Dq := {}
  trSpan : Word := 0
  trLeft : Word := 0
  trPend : Bool := false
  trFollow : Bool := false
  /-- The EMF vector, and the positive-sequence current, of the last step. -/
  emf : Dq := {}
  i1 : Dq := {}
  /-- Consecutive steps with and without LIMITING. -/
  limCount : Nat := 0
  clearCount : Nat := 0
  /-- The time spent in RECOVER. -/
  recovered : Word := 0
  deriving DecidableEq, Repr

/-- What a Switchback loop keeps beside its registers. -/
structure Loop where
  /-- The timebase in use and the PRD in force in the step's period, as of the latest step's start (R252). -/
  tb : Nat := 0
  prd : Nat := 0xFFFFF
  running : Bool := false
  /-- The core cycle of its Peak in which the step that runs completes (R122). -/
  due : Nat := 0
  twice : Bool := false
  stepped : Bool := false
  late : List (Nat × Word) := []
  cmd : Option Nat := none
  bankReq : Option Nat := none
  /-- The bank whose queued fade starts at the next step (R262). -/
  nextFade : Option Nat := none
  /-- A fade: its position k, its N and its target bank (R261). -/
  fade : Option (Nat × Nat × Nat) := none
  haltRef : Word := 0
  deriving DecidableEq, Repr

/-- What a test generator keeps beside its registers: the sums are exact in units of 2^-298 and rounded to binary64 as they grow (R266). -/
structure Tg where
  /-- Its run was started while a step of its loop runs, so it begins with the next one (R264). -/
  waiting : Bool := false
  k : Nat := 0
  phi : Nat := 0
  prbs : Nat := 0
  bit_ : Bool := false
  mi : Int := 0
  mq : Int := 0
  ai : Int := 0
  aq : Int := 0
  deriving DecidableEq, Repr




/-! ### Saddle PWM and trips (R270 to R299) -/

/-- What the Saddle keeps of a timebase beside its registers. -/
structure Tb where
  /-- The PRD in force (R271): what TB[n].PRD holds latches at a wrap. -/
  prd : Nat := 0xFFFFF
  /-- A late PRD write (R284). -/
  latePrd : Option Nat := none
  /-- A STOP bit waits for the next wrap (R273). -/
  stopping : Bool := false
  /-- A Cairn second edge has been measured since TRACK was set (R288). -/
  edged : Bool := false
  /-- Corrections still planned (R288): positive for late wraps, which shorten a period, negative for early ones. -/
  plan : Int := 0
  /-- Further ticks for which the counter holds at 0. -/
  hold : Nat := 0
  deriving DecidableEq, Repr

/-- What the Saddle keeps of a compare channel: the late buffer and the staging set (R284, R285). -/
structure Chan where
  late : Option Word := none
  staged : Option Word := none
  deriving DecidableEq, Repr

/-- One output pair. Levels are the switches' states; times are in steps of 1/64 tick. -/
structure Pair where
  hi : Bool := false
  lo : Bool := false
  /-- Which switch waits for its complementary switch's dead time: none, the high side (true) or the low side (false). -/
  wait : Option Bool := none
  /-- When each switch last turned off and last turned on, in steps. -/
  hiOff : Option Nat := none
  loOff : Option Nat := none
  hiOn : Option Nat := none
  loOn : Option Nat := none
  /-- The edge at the effective compare of the present period has been made (R278). -/
  passed : Bool := false
  /-- A released inhibit segment keeps the outputs low until the next wrap (R354). -/
  heldLow : Bool := false
  /-- EN, DT and MINPW in force (R275, R280). -/
  en : Bool := false
  dt : Nat := 0x6400
  minpw : Nat := 0x3200
  /-- The effective compare in steps (R278). -/
  ceff : Nat := 0
  /-- The pair leaves its trip pattern at the next wrap (R293). -/
  leaving : Bool := false
  /-- Edges fall on whole ticks (R282). -/
  fallback : Bool := false
  deriving DecidableEq, Repr



/-! ### Spur drivers and position interface (R300 to R326) -/

/-- What the Saddle keeps of a Spur leg beside its registers; times in steps of 1/64 tick. -/
structure Leg where
  hi : Bool := false
  lo : Bool := false
  /-- Which switch waits for its complementary switch's dead time: the high side (true) or the low side (false). -/
  wait : Option Bool := none
  hiOff : Option Nat := none
  loOff : Option Nat := none
  /-- The tick at which each switch last turned on (R309). -/
  hiOn : Nat := 0
  loOn : Nat := 0
  /-- The tick at which the low side of the present refresh turned on (R304), and at which a diagnostic started (R317). -/
  refreshAt : Nat := 0
  diagAt : Nat := 0
  /-- EN, DT and MINPW in force; the latter two in ticks (R301, R302). -/
  en : Bool := false
  dt : Nat := 0x28
  minpw : Nat := 0x14
  /-- The present period charges the bootstrap capacitor (R302). -/
  charging : Bool := false
  /-- The effective compare in ticks. -/
  ceff : Nat := 0
  /-- A late write of CMP (R284). -/
  late : Option Nat := none
  /-- The shadow compare in force at the last latch. -/
  act : Nat := 0
  /-- The tick since which the low side is on, and its on-time in the period before that (R304). -/
  loSince : Nat := 0
  loTotal : Nat := 0
  /-- Consecutive periods with less than 400 ns of low side. -/
  refreshRun : Nat := 0
  /-- A refresh: 1 the low side waits for its dead time, 2 it is on (R304). -/
  refresh : Nat := 0
  /-- Consecutive periods with a BOOT_UV event, and one in the present period (R306). -/
  uvRun : Nat := 0
  uvNow : Bool := false
  /-- A source of R313 stopped governing; the leg returns to its compare at the next wrap. -/
  leaving : Bool := false
  deriving DecidableEq, Repr

/-- What the Saddle keeps of a position channel beside its registers. -/
structure Pif where
  /-- The filtered lines in the latest sample. -/
  a : Bool := false
  b : Bool := false
  z : Bool := false
  /-- The tick of the last edge; none at a standstill (R323). -/
  last : Option Nat := none
  /-- The tick of the last edge or of the channel's start, from which STALE_T counts (R323). -/
  since : Nat := 0
  /-- The last estimate, fp32, and its period in ticks where it is a PERIOD estimate. -/
  est : Word := 0
  period : Option Nat := none
  /-- The window in progress: its start, its net count, whether it is invalid (R320, R322). -/
  winFrom : Nat := 0
  net : Int := 0
  winBad : Bool := false
  /-- What the last edge latched, and which of EDGE_SPEED, EDGE_S, EDGE_NS are frozen (R324). -/
  liveSpeed : Word := 0
  liveS : Word := 0
  liveNs : Word := 0
  frozen : BitVec 3 := 0
  deriving DecidableEq, Repr

/-- The Saddle beside its registers. -/
structure Saddle where
  tbs : Tab Tb := []
  chans : Tab Chan := []
  pairs : Tab Pair := []
  legs : Tab Leg := []
  pifs : Tab Pif := []
  /-- The Saddle is powered and out of reset, and its clock runs. -/
  clock : Bool := false
  /-- The sources of the trip matrix as they stand at it, before EN (R290): bit s = source s. -/
  trips : BitVec 12 := 0
  /-- The side that the active short turns on: the high side (true) or the low side (R314). -/
  ascHigh : Bool := false
  /-- The tick at which TRIP.FIRST was recorded (R294). -/
  firstTick : Nat := 0
  /-- Banks whose replica line failed its latest calibration (R282). -/
  dlBad : BitVec 8 := 0
  /-- The strobe count of the latest strobe; none before the first (R329). -/
  strobe : Option Nat := none
  /-- The Peak to which the baton flies (R22). -/
  flight : Option PeakId := none
  /-- Shadow writes of each Peak's cores and DMA channels since the last wrap of the period timebase (R337): channel 0 to 38 and the last
  value. -/
  wrote : Two (Tab (Option Nat)) := ⟨[], []⟩
  /-- The number of the sensors' consecutive good measurements while faulted (R423). -/
  goodRuns : Tab Nat := []
  deriving DecidableEq, Repr


/-! ### The Gendarme and the safety kernel (R327 to R370) -/

/-- What asked for a state copy. -/
inductive CopyFor where
  | join
  | home
  | swap
  | resync
  deriving DecidableEq, Repr

/-- A state copy in progress (R340 to R344). -/
structure Copy where
  target : PeakId
  why : CopyFor
  /-- It begins at the next strobe. -/
  waiting : Bool := true
  /-- The bulk transfer is done and the mirror queue empty. -/
  complete : Bool := false
  retries : Nat := 0
  /-- The strobe at which it started. -/
  startAt : Nat := 0
  /-- The wraps still to come of each timebase on which the target's integrators wait, and the tick from which its Couloir outputs are bit-identical as
  far as these wraps have come (R343). -/
  wraps : Tab Nat := []
  sameAt : Nat := 0
  deriving DecidableEq, Repr

/-- A command written to GDM.CMD: its key, operation and Peak. -/
structure GdmAsk where
  key : BitVec 16
  op : Nat
  peak : PeakId
  deriving DecidableEq, Repr

/-- The Gendarme's arbiter beside its registers. -/
structure Gdm where
  /-- The strobe count the Gendarme received last, and whether that strobe's window is open. -/
  seq : Nat := 0
  window : Bool := false
  /-- The roles assigned for the period that the strobe closes. -/
  expect : Two Nat := ⟨3, 3⟩
  /-- Each Peak's view of its role in the present period (R330). -/
  viewNow : Two Nat := ⟨3, 3⟩
  /-- Heartbeats on their way, and heartbeats received for this strobe. -/
  sent : Two (Option (Word × Word)) := ⟨none, none⟩
  got : Two (Option (Word × Word)) := ⟨none, none⟩
  /-- This Peak's previous heartbeat reached the other Peak through the Saddle (R330). -/
  seen : Two Bool := ⟨true, true⟩
  /-- Acknowledgements on their way: strobe count and role. -/
  acks : Two (Option (Nat × Nat)) := ⟨none, none⟩
  /-- GDM.CMD FAIL named the Peak (R331). -/
  failCmd : Two Bool := ⟨false, false⟩
  /-- The Peak that a failover makes ACTIVE at the next strobe (R335). -/
  grant : Option PeakId := none
  /-- The tick of the first heartbeat that carried LOL in the present run (R334). -/
  lolSince : Option Nat := none
  copy : Option Copy := none
  /-- Consecutive diverging strobes (R339), and a divergence since the last strobe. -/
  divRun : Nat := 0
  diverged : Bool := false
  /-- The tick at which the return-home hold began (R347). -/
  hold : Option Nat := none
  /-- START_WAIT passed since the Peak's handover (R345). -/
  waited : Two Bool := ⟨false, false⟩
  /-- The tick at which the Peak reached STANDBY. -/
  standbyAt : Two (Option Nat) := ⟨none, none⟩
  /-- Automatic restarts, and the tick at which the safe state was last left (R349). -/
  restarts : Nat := 0
  safeAt : Nat := 0
  /-- The tick at which each Peak became FAILED, that of its handover, and that of entry to the safe state (R345, R346, R349). -/
  failedAt : Two Nat := ⟨0, 0⟩
  handoverAt : Two Nat := ⟨0, 0⟩
  enteredAt : Nat := 0
  /-- Commands that wait for the close of the window, oldest first (R351). -/
  asked : List GdmAsk := []
  /-- A command whose copy is not over: its operation. -/
  cmd : Option Nat := none
  /-- The inhibit was released at a grant (R345). -/
  released : Bool := false
  /-- Task instances of the source that go on being mirrored after a sync strobe (R344), as Peak and task numbers. -/
  mirrored : List (Nat × Nat) := []
  deriving DecidableEq, Repr

/-- The safety kernel beside its registers. -/
structure Saf where
  /-- The working image, 64 words; empty while none is valid (R357). -/
  img : List Nat := []
  /-- The image of the commit in progress (R358). -/
  commit : Option (List Nat) := none
  /-- Every "device safe" unit passed (R84). -/
  unitsOk : Bool := false
  /-- Segments whose release toggle stopped (R354). -/
  lost : BitVec 9 := 0
  /-- Pulses that an input passed in a row (R361). -/
  passes : Tab Nat := []
  /-- Channels in demand (R360). -/
  chan : BitVec 8 := 0
  /-- The tick at which SAF.FIRST was recorded. -/
  firstTick : Nat := 0
  /-- The outputs of SDC's latest change whose feedback is awaited: on (true) or off (R366). -/
  feedback : Option Bool := none
  /-- SOUTs in their off-pulse (R362). -/
  offPulse : BitVec 4 := 0
  deriving DecidableEq, Repr


/-! ### Moraine, Talus and DMA (R371 to R395) -/

/-- A fired trigger that waits for its frame (R383): the condition, its instant in 1/1024 ticks of Saddle time, and FRAC. -/
structure TalTrig where
  cond : Nat
  instant : Int
  frac : Nat
  deriving DecidableEq, Repr

/-- What a Talus channel keeps of the segment it arms or fills (R380 to R385). -/
structure TalChan where
  /-- The chain's buffers in the order taken. -/
  chain : List Nat := []
  /-- Frames written to the pre-trigger ring since arming. -/
  ringCount : Nat := 0
  /-- Frames stored from the trigger frame on. -/
  frames : Nat := 0
  trigs : List TalTrig := []
  trigBits : Nat := 0
  lateTrig : Nat := 0
  primary : Nat := 0
  instant : Int := 0
  frac : Nat := 0
  eTrig : Nat := 0
  single : Bool := false
  /-- The stored frames with REPHASE, as (stored number, E, single-domain after it), oldest first; ring numbers count from arming. -/
  rephs : List (Nat × Nat × Bool) := []
  /-- Segments closed since RUN. -/
  closed : Nat := 0
  deriving DecidableEq, Repr

/-- What a trigger condition remembers (R381). -/
structure TalCond where
  /-- The previous valid value and its instant E in 1/1024 ticks. -/
  prev : Option (Int × Int) := none
  /-- An invalid output came after the previous valid one. -/
  gap : Bool := false
  /-- A LEVEL condition has fired on a rise (1) or a fall (2) and the value has not yet passed back by HYST. -/
  spent : Nat := 0
  /-- Earlier outputs of the slot, newest first, for SLOPE. -/
  hist : List Int := []
  deriving DecidableEq, Repr

/-- A SEG_GIVE under way (R386): its master's number, segment, new owner and buffers still to move. -/
structure SegGive where
  master : Nat
  seg : Nat
  newOwner : Nat
  left : List Nat
  deriving DecidableEq, Repr

/-- The Talus recorder and Moraine pool of a Peak beside their registers. -/
structure Talus where
  chans : Tab TalChan := []
  conds : Tab TalCond := []
  /-- The state of each segment, 0 FREE to 3 CLOSED (R378). -/
  segState : Tab Nat := []
  /-- The buffers of each segment that is not FREE, in chain order. -/
  segChain : Tab (List Nat) := []
  /-- MOR_RESULT of each master: cores 0 to 7, host 8, DMA channels 16 up (R373). -/
  results : Tab Word := []
  gives : List SegGive := []
  /-- EV_MOR_LOW has fired and FREE has not yet risen to MOR_LOW + 16 (R375). -/
  lowSpent : Bool := false
  deriving DecidableEq, Repr

/-- A DMA channel's engine beside its registers (R388 to R393). SRC, DST, COUNT and INDEX_POS describe the first byte not yet written. -/
structure DmaChan where
  /-- Bytes of the active transfer that no read has been issued for. -/
  toRead : Nat := 0
  /-- Where the next read goes: its address, or for INDEX the entry and the element position. -/
  rdAddr : Nat := 0
  idx : Nat := 0
  elem : Nat := 0
  /-- Reads in flight, oldest first, by address. -/
  flight : List Nat := []
  /-- The unwritten bytes of each read in the holding register, oldest first. -/
  held : List (List Byte) := []
  /-- Repetitions used by the present access; the address of an access that waits for its repetition or has failed; is it a write. -/
  retries : Nat := 0
  errAddr : Option Nat := none
  errWrite : Bool := false
  /-- A final failure is draining to HALTED. -/
  failing : Bool := false
  /-- ABORT is draining. -/
  aborting : Bool := false
  /-- The tick at which the last transfer completed (R391). -/
  doneAt : Option Nat := none
  deriving DecidableEq, Repr



/-! ### Cairn and the MACs (R396 to R418) -/

/-- A map point (R403): a tick, Cairn's value in units of 2^-48 ns at it, and the RATE. -/
structure MapPoint where
  tick : Nat
  value : Nat
  rate : Int
  deriving DecidableEq, Repr

/-- Cairn beside its registers. -/
structure Cairn where
  /-- The network island is clocked and released, so that Cairn counts. -/
  running : Bool := false
  sec : Nat := 0
  ns : Nat := 0
  /-- The fraction of a nanosecond in units of 2^-48 ns. -/
  frac : Nat := 0
  /-- The held RATE_LO word (R397). -/
  rateHeld : Option Nat := none
  /-- Network cycles of lease left (R401). -/
  lease : Nat := 0
  /-- NOW as latched by each master (R398): seconds and the 16-bit fraction. -/
  latch : Tab (Nat × Nat) := []
  /-- Map points, newest first. -/
  points : List MapPoint := []
  deriving DecidableEq, Repr

/-- What a MAC keeps of a transmit queue's head (R413 to R415). -/
structure TxHead where
  /-- 0 not checked, 1 fetching, 2 in the FIFO, 3 in transmission. -/
  stage : Nat := 0
  /-- The launch time in nanoseconds of Cairn. -/
  launch : Option Nat := none
  /-- The launch time was announced as reached. -/
  reached : Bool := false
  /-- The tick at which transmission started, and was its timestamp point late? -/
  started : Nat := 0
  late : Bool := false
  deriving DecidableEq, Repr


/-! ### The Col port and the trace port (R430 to R448) -/

/-- A frame that waits to be performed (R431, R435). -/
structure ColFrame where
  hdr : Word
  addr : Word
  data : List Word
  deriving DecidableEq, Repr

/-- The Col port and the trace port's merging unit. -/
structure ColPort where
  /-- WRITE frames that completed, the one being performed first; at most two. -/
  writes : List ColFrame := []
  /-- The outcome of the latest final frame: SEQ, WORDS, RESULT. -/
  seq : Nat := 0
  words : Nat := 0
  result : Nat := 0
  /-- What the device drove in the latest READ or STATUS frame: the start nibble (0 for a STATUS) and the words. -/
  start : Nat := 0
  reply : List Word := []
  /-- The Peak whose packet the merging unit takes next, the packets since the last ALIGN, and the packet sent last. -/
  turn : PeakId := .a
  sinceAlign : Nat := 0
  sent : Option Word := none
  deriving DecidableEq, Repr


/-- What one Peak keeps beside its registers, cores and memories. -/
structure Peak where
  /-- The Peak is powered, clocked and released from reset. -/
  up : Bool := false
  /-- The tick of its release (R70, R71). -/
  releasedAt : Nat := 0
  /-- Core cycles since reset, in 64ths (R126: at N the core makes N / 64 cycles in one tick). -/
  cycles64 : Nat := 0
  /-- Events on their way to the matrix (R114, R152), in the order sent: the count of `cycles64` at which each reaches it, and its number. -/
  signals : List (Nat × Nat) := []
  /-- The TRV command in progress (R159). -/
  trvCmd : Option TrvCmd := none
  /-- New dispatches are held during a JOIN copy (R343). -/
  held : Bool := false
  /-- A monitor violation since the previous heartbeat (R330). -/
  monSince : Bool := false
  /-- Strobes in a row without an acknowledgement (R350). -/
  silent : Nat := 0
  cln : Couloir := {}
  engs : Tab Eng := []
  loops : Tab Loop := []
  tgs : Tab Tg := []
  talus : Talus := {}
  /-- The heads of the Peak's own MAC's transmit queues, and the queue in transmission. -/
  tx : Tab TxHead := []
  sending : Option Nat := none
  dma : Tab DmaChan := []
  /-- The 48-bit counts of the OBS counters (R444). -/
  obs : Tab Nat := []
  /-- The trace FIFO, oldest first, at most 64 packets, and the packets dropped since the last LOST (R443). -/
  trace : List Word := []
  traceLost : Nat := 0
  /-- The mailbox FIFOs, oldest first, at most 256 words each (R438). -/
  inbox : List Word := []
  outbox : List Word := []
  deriving DecidableEq, Repr


/-- The whole machine. -/
structure State where
  /-- The commands that are waiting, first in, first out. -/
  pending : List Instr := []
  /-- Saddle ticks since reset (2.5 ns each). -/
  tick : Nat := 0
  /-- The model's own counter that numbers the free values it has taken; nothing of the spec. -/
  free : Nat := 0
  /-- Every register of the register map, keyed by `regKey`. -/
  regs : Tab Word := []
  /-- Every memory byte, keyed by `tcmKey`, `peakKey` and `storeKey`. -/
  mem : Tab Byte := []
  /-- The cores, keyed by `coreKey`. -/
  cores : Tab Core := []
  /-- What Traverse keeps of each task, keyed by `taskKey`. -/
  tasks : Tab Task := []
  /-- What the last read command returned to its master. -/
  readData : Word := 0
  /-- The periods begun since the last start of the period timebase, 48 bits (R167, R173). -/
  periodCount : Nat := 0
  cirq : Cirque := {}
  cairn : Cairn := {}
  /-- The tick of the Saddle's release, at which its free tick count is 0 (R403). -/
  tick0 : Nat := 0
  /-- MDIO commands in the order in which they landed (R416). -/
  mdio : List (PeakId × Word) := []
  saddle : Saddle := {}
  gdm : Gdm := {}
  saf : Saf := {}
  power : Power := {}
  col : ColPort := {}
  /-- The tick of each timebase's latest wrap or start. -/
  wrapTick : Tab Nat := []
  /-- The timebases whose closing wrap's period means are not yet announced (R215). -/
  meanDue : List Nat := []
  peaks : Two Peak := ⟨{}, {}⟩
  deriving DecidableEq, Repr

/-- The machine right after reset: power-on before any supply has risen (R57, R58, R61). -/
def State.reset : State := {}

end Sys2Proof.Machine
end

