-- ==== Sys2Proof/Machine/Ops.lean ====
section
/-! DEFINITION. The named operations over registers and memory that every meaning uses. -/

namespace Sys2Proof.Machine

/-- A step that goes on. -/
abbrev Out := Host.Outcome State Fault Refusal

/-! ### Registers -/

/-- The rows of the block that holds address `a` (R32). MAC1 has the map of MAC0 (R26). -/
def blockRows (a : Nat) : List RegRow :=
  match a / 0x10000 with
  | 0x4000 => regRowsSys
  | 0x4001 => regRowsClk
  | 0x4002 => regRowsCirq
  | 0x4003 => regRowsCln
  | 0x4004 => regRowsTal
  | 0x4005 => regRowsPwm
  | 0x4006 => regRowsSpur
  | 0x4007 => regRowsTrip
  | 0x4008 => regRowsPif
  | 0x4009 => regRowsRdg
  | 0x400A => regRowsSwb
  | 0x400B => regRowsTrv
  | 0x400C => regRowsDma
  | 0x400D => regRowsCrn
  | 0x400E => regRowsMac
  | 0x400F => regRowsMac
  | 0x4010 => regRowsThm
  | 0x4011 => regRowsGdm
  | 0x4012 => regRowsSaf
  | 0x4013 => regRowsBst
  | 0x4014 => regRowsLcs
  | 0x4015 => regRowsCol
  | 0x4016 => regRowsObs
  | 0x4017 => regRowsBoot
  | _ => []

/-- The address at which a register's row is listed. -/
def mapAddr (a : Nat) : Nat := if a / 0x10000 = 0x400F then a - 0x10000 else a

/-- Is `a` one of the task numbers' words (R148)? -/
def trvTaskOk (a : Nat) : Bool :=
  let n := if a < 0x400B3000 then (a - 0x400B1000) / 0x20 else (a - 0x400B3000) / 0x10
  if a < 0x400B1000 then true
  else decide (n ≤ 0x03) || (decide (0x10 ≤ n) && decide (n ≤ 0x4F)) || (decide (0x60 ≤ n) && decide (n ≤ 0x6F))

/-- The row of the register at `a` in a Peak's view, none where the map defines nothing (R33). -/
def rowAt (a : Nat) : Option RegRow :=
  if a / 0x10000 = 0x400B ∧ trvTaskOk a = false then none else findRow (blockRows a) (mapAddr a)

/-- The row of the register at `a` of the Gendarme window (R447). -/
def gwRowAt (a : Nat) : Option RegRow := findRow regRowsGw a

/-- The bank that holds a register: 0 Peak A, 1 Peak B, 2 one instance for both (R32); `THM.FLAGS` has a copy for each Peak (R424). -/
def regBank (p : PeakId) (a : Nat) : Nat :=
  match a / 0x10000 with
  | 0x4002 => 2
  | 0x4005 => 2
  | 0x4006 => 2
  | 0x4007 => 2
  | 0x4008 => 2
  | 0x400D => 2
  | 0x400E => 0
  | 0x400F => 1
  | 0x4010 => if a = 0x40100004 then p.num else 2
  | 0x4011 => 2
  | 0x4012 => 2
  | 0x4014 => 2
  | _ => p.num

/-- The key of a register: its bank and its address. -/
def regKey (p : PeakId) (a : Nat) : Nat := regBank p a * 2 ^ 32 + a

/-- The key of a register of the Gendarme window's own block (R447). -/
def gwKey (a : Nat) : Nat := 3 * 2 ^ 32 + a

/-- Is the register part of a factory filter bank, which reads as the chip's ROM (R222)? -/
def isRomCoef (a : Nat) : Bool :=
  (decide (0x40030800 ≤ a) && decide (a < 0x40030814)) || (decide (0x40030840 ≤ a) && decide (a < 0x40030860)) ||
    (decide (0x40038000 ≤ a) && decide (a < 0x4003C000))

/-- What a register that was never written reads as: its reset value. -/
def regDefault (key : Nat) : Word :=
  let a := key % 2 ^ 32
  if key / 2 ^ 32 = 3 then
    match gwRowAt a with
    | some r => BitVec.ofNat 32 r.reset
    | none => 0
  else if isRomCoef a then (Config.romCoef a).setWidth 32
  else
    match rowAt a with
    | some r => BitVec.ofNat 32 r.reset
    | none => 0

/-- The stored word of a key. -/
def State.regW (s : State) (key : Nat) : Word := Tab.get regDefault s.regs key

/-- The state with a register's stored word replaced. -/
def State.setRegW (s : State) (key : Nat) (v : Word) : State := { s with regs := Tab.put regDefault s.regs key v }

/-- The number in the register at `a` as Peak `p` sees it. -/
def State.reg (s : State) (p : PeakId) (a : Nat) : Nat := (s.regW (regKey p a)).toNat

/-- The register at `a` read as a two's complement number. -/
def State.regI (s : State) (p : PeakId) (a : Nat) : Int := (s.regW (regKey p a)).toInt

def State.setReg (s : State) (p : PeakId) (a : Nat) (v : Nat) : State := s.setRegW (regKey p a) (BitVec.ofNat 32 v)

def State.setRegI (s : State) (p : PeakId) (a : Nat) (v : Int) : State := s.setRegW (regKey p a) (BitVec.ofInt 32 v)

/-- Bits `[hi:lo]` of a number. -/
def bits (n hi lo : Nat) : Nat := n / 2 ^ lo % 2 ^ (hi + 1 - lo)

/-- `n` with bits `[hi:lo]` replaced by `v`. -/
def putBits (n hi lo v : Nat) : Nat :=
  n - bits n hi lo * 2 ^ lo + v % 2 ^ (hi + 1 - lo) * 2 ^ lo

/-- A two's complement reading of a `w`-bit number. -/
def signed (w n : Nat) : Int := (BitVec.ofNat w n).toInt

/-- The two's complement code of `n` in `w` bits. -/
def unsigned (w : Nat) (n : Int) : Nat := (BitVec.ofInt w n).toNat

/-- The number in a field. -/
def State.fld (s : State) (p : PeakId) (f : Fld) : Nat := bits (s.reg p f.addr) f.hi f.lo

/-- Is a one-bit field 1? -/
def State.bit (s : State) (p : PeakId) (f : Fld) : Bool := decide (s.fld p f = 1)

/-- A field as a two's complement number. -/
def State.fldI (s : State) (p : PeakId) (f : Fld) : Int := signed (f.hi + 1 - f.lo) (s.fld p f)

def State.setFld (s : State) (p : PeakId) (f : Fld) (v : Nat) : State :=
  s.setReg p f.addr (putBits (s.reg p f.addr) f.hi f.lo v)

def State.setBit (s : State) (p : PeakId) (f : Fld) (v : Bool) : State := s.setFld p f (if v then 1 else 0)

/-- Set a sticky flag. -/
def State.raise (s : State) (p : PeakId) (f : Fld) : State := s.setFld p f 1

/-- Set bit e of a field of eight. -/
def setBitOf (p : PeakId) (f : Fld) (e : Nat) (v : Bool) (s : State) : State :=
  s.setFld p f (putBits (s.fld p f) e e (if v then 1 else 0))

/-- The same field in both Peaks' instances. -/
def State.setBoth (s : State) (f : Fld) (v : Nat) : State := (s.setFld .a f v).setFld .b f v

/-- Count up a counter that sticks at all-ones; SAT is set by a count that finds it stuck. -/
def State.bump (s : State) (p : PeakId) (count sat : Fld) : State :=
  if s.fld p count = 2 ^ (count.hi + 1 - count.lo) - 1 then s.setFld p sat 1
  else s.setFld p count (s.fld p count + 1)

/-- The field of the Gendarme window's own block. -/
def State.gwFld (s : State) (f : Fld) : Nat := bits (s.regW (gwKey f.addr)).toNat f.hi f.lo

def State.setGwFld (s : State) (f : Fld) (v : Nat) : State :=
  s.setRegW (gwKey f.addr) (BitVec.ofNat 32 (putBits (s.regW (gwKey f.addr)).toNat f.hi f.lo v))

def State.gwBump (s : State) (count sat : Fld) : State :=
  if s.gwFld count = 2 ^ (count.hi + 1 - count.lo) - 1 then s.setGwFld sat 1
  else s.setGwFld count (s.gwFld count + 1)

/-! ### Memories (R31) -/

def memDefault (_ : Nat) : Byte := 0

/-- The key of a byte of a core's ITCM or DTCM: `a < 0x20000`. -/
def tcmKey (k : CoreSel) (a : Nat) : Nat := (k.peak.num * 8 + k.core.val) * 2 ^ 17 + a

/-- The key of a byte of a Peak's control SRAM or Moraine pool. -/
def peakKey (p : PeakId) (a : Nat) : Nat := (1 + p.num) * 2 ^ 32 + a

/-- The key of a byte of the shared parameter store. -/
def storeKey (a : Nat) : Nat := 3 * 2 ^ 32 + a

def State.byte (s : State) (key : Nat) : Byte := Tab.get memDefault s.mem key

def State.setByte (s : State) (key : Nat) (v : Byte) : State := { s with mem := Tab.put memDefault s.mem key v }

/-- `n` bytes from a key on, little-endian (R105). -/
def State.bytes (s : State) (key : Nat) : Nat → Nat
  | 0 => 0
  | n + 1 => (s.byte key).toNat + 256 * s.bytes (key + 1) n

/-- Store `n` bytes from a key on, little-endian. -/
def State.setBytes (s : State) (key : Nat) : Nat → Nat → State
  | 0, _ => s
  | n + 1, v => (s.setByte key (BitVec.ofNat 8 v)).setBytes (key + 1) n (v / 256)

/-- Store a list of bytes from a key on. -/
def State.setByteList (s : State) (key : Nat) : List Byte → State
  | [] => s
  | b :: r => (s.setByte key b).setByteList (key + 1) r

/-- The bytes of a key range as a list. -/
def State.byteList (s : State) (key : Nat) : Nat → List Byte
  | 0 => []
  | n + 1 => s.byte key :: s.byteList (key + 1) n

/-- The memory without the bytes of keys `lo ≤ k < hi`: they read as 0. -/
def State.clearBytes (s : State) (lo hi : Nat) : State :=
  { s with mem := s.mem.filter (fun e => decide (e.1 < lo) || decide (hi ≤ e.1)) }

/-! ### Carried regions (R340, R341) -/

/-- Where a carried region of the source lies in Peak `q`: its key, for DTCM of the core it names or for control SRAM. -/
def carryKey (q : PeakId) (core base : Nat) : Nat :=
  if base < 0x20000 then tcmKey ⟨q, Fin.ofNat 8 core⟩ base else peakKey q base

/-- The carried regions that Peak p declares: core, base, size. -/
def carried (p : PeakId) (s : State) : List (Nat × Nat × Nat) :=
  ((List.range 8).map (fun r =>
    (s.fld .a (Fd.gdmPeakCarrySizeCore p.num r), s.reg .a (Reg.gdmPeakCarryBase p.num r), s.fld .a (Fd.gdmPeakCarrySizeSize p.num r)))).filter
      (fun e => decide (e.2.2 ≠ 0))

/-- Is Peak p the source of a copy that has started? -/
def State.copying (s : State) (p : PeakId) : Bool :=
  match s.gdm.copy with
  | some c => decide (c.target = p.other) && !c.waiting
  | none => false

/-! ### Cores, tasks and Peaks -/

def coreKey (k : CoreSel) : Nat := k.peak.num * 8 + k.core.val
def taskKey (p : PeakId) (n : Nat) : Nat := p.num * 256 + n

def State.core (s : State) (k : CoreSel) : Core := Tab.get (fun _ => {}) s.cores (coreKey k)
def State.setCore (s : State) (k : CoreSel) (c : Core) : State :=
  { s with cores := Tab.put (fun _ => {}) s.cores (coreKey k) c }
def State.task (s : State) (p : PeakId) (n : Nat) : Task := Tab.get (fun _ => {}) s.tasks (taskKey p n)
def State.setTask (s : State) (p : PeakId) (n : Nat) (t : Task) : State :=
  { s with tasks := Tab.put (fun _ => {}) s.tasks (taskKey p n) t }
def State.peak (s : State) (p : PeakId) : Peak := s.peaks.get p
def State.setPeak (s : State) (p : PeakId) (k : Peak) : State := { s with peaks := s.peaks.set p k }

/-- The cycle of a core's run to which its Peak's count has come. -/
def State.peakCycle (s : State) (k : CoreSel) : Nat := (s.peak k.peak).cycles64 / 64 - (s.core k).runBase

/-- The cycle of the core's run in which the present instant falls: its Peak's count, or the run's own where that is ahead. -/
def State.runCycle (s : State) (k : CoreSel) : Nat := max (s.core k).issue (s.peakCycle k)

/-- An event sets out for the Peak's matrix and reaches it at core cycle `at_` of the Peak. -/
def State.signal (p : PeakId) (at_ ev : Nat) (s : State) : State :=
  s.setPeak p { s.peak p with signals := (s.peak p).signals ++ [(64 * at_, ev)] }

def State.tb (s : State) (n : Nat) : Tb := Tab.get (fun _ => {}) s.saddle.tbs n
def State.setTb (s : State) (n : Nat) (t : Tb) : State :=
  { s with saddle := { s.saddle with tbs := Tab.put (fun _ => {}) s.saddle.tbs n t } }

/-- The tick of a timebase's latest wrap or start. -/
def State.wrapOf (s : State) (n : Nat) : Nat := Tab.get (fun _ => 0) s.wrapTick n

/-- The tick at which the count of the present period stands, or would have stood, at 0: samples and the apply phase keep their count values in a
corrected period (R288). -/
def State.periodStart (s : State) (n : Nat) : Nat :=
  if s.fld .a (Fd.pwmTbStatusRun n) = 1 then s.tick + (s.tb n).hold - s.reg .a (Reg.pwmTbCount n) else s.wrapOf n

/-- Apply a change for each element of a list. -/
def forAll {α : Type} (xs : List α) (f : α → State → State) (s : State) : State := xs.foldl (fun t x => f x t) s

/-- Apply a change where a condition holds. -/
def State.when (s : State) (b : Bool) (f : State → State) : State := if b then f s else s

/-- A write of bytes at a key of Peak p's memories reaches the other Peak where a carried region holds them (R341, R344). -/
def mirrorBytes (p : PeakId) (key : Nat) (l : List Byte) (s : State) : State :=
  forAll (carried p s) (fun e s =>
    let lo := carryKey p e.1 e.2.1
    forAll (l.zipIdx key) (fun b s => if lo ≤ b.2 ∧ b.2 < lo + e.2.2 then s.setByte (carryKey p.other e.1 e.2.1 + (b.2 - lo)) b.1 else s) s) s

/-- Apply a change in both Peaks. -/
def bothPeaks (f : PeakId → State → State) (s : State) : State := f .b (f .a s)

/-- The number of the next free value, and the state that has taken it. -/
def State.takeFree (s : State) : Nat × State := (s.free, { s with free := s.free + 1 })

end Sys2Proof.Machine
end

