-- ==== Sys2Proof/Machine/Events.lean ====
section
/-! DEFINITION. The event matrix (R150 to R156), the observation counters and the trace FIFO (R442 to R444), which follow it. -/

namespace Sys2Proof.Machine

/-! ### Event numbers (R470) -/

namespace Ev
def tbWrap (b : Nat) : Nat := b
def tbMean (b : Nat) : Nat := 8 + b
def smp (i : Nat) : Nat := 16 + i
def cirqDomain : Nat := 64
def cirqCal : Nat := 65
def cirqDiag : Nat := 66
def clnSlip : Nat := 67
def rdgMode : Nat := 68
def rdgLimit : Nat := 69
def swbSupv : Nat := 70
def swbXfade : Nat := 71
def swbTest : Nat := 72
def pwmCmp (g : Nat) : Nat := 73 + g
def trip : Nat := 81
def spur : Nat := 82
def spurDiag : Nat := 83
def pif (k : Nat) : Nat := 84 + k
def talSeg : Nat := 86
def talOvf : Nat := 87
def morLow : Nat := 88
def dmaDone : Nat := 89
def dmaErr : Nat := 90
def crnSec : Nat := 91
def crnValid : Nat := 92
def macRx (m : Nat) : Nat := 93 + 2 * m
def macTxc (m : Nat) : Nat := 94 + 2 * m
def thm : Nat := 97
def gdmRole : Nat := 98
def gdmSilent : Nat := 99
def gdmDiv : Nat := 100
def safDemand : Nat := 101
def safFault : Nat := 102
def safStop : Nat := 103
def colIn : Nat := 104
def colOut : Nat := 105
def bootDone : Nat := 128
def coreFault : Nat := 129
def deadlineMiss : Nat := 130
def frameMiss : Nat := 131
def summitMonitor : Nat := 132
def overrun : Nat := 133
def cmdDone : Nat := 134
end Ev

/-- Only EV_SW00 to EV_SW63 are raised by software (R152). -/
def isSoftEvent (ev : Nat) : Bool := decide (192 ≤ ev) && decide (ev ≤ 255)

/-- The PRD in force of a timebase (R271): while it is stopped, what its next start takes. -/
def State.prdNow (s : State) (n : Nat) : Nat :=
  if s.bit .a (Fd.pwmTbStatusRun n) then (s.tb n).prd else s.fld .a (Fd.pwmTbPrdPrd n)

/-! ### Observation -/

/-- Add to every enabled counter of source `src` and argument `arg` (R444). -/
def obsCount (p : PeakId) (src arg n : Nat) (s : State) : State :=
  forAll (List.range 8) (fun k s =>
    if s.bit p ⟨Reg.obsCntCtrl k, 0, 0⟩ && decide (s.fld p (Fd.obsCntSelSrc k) = src) && (decide (5 ≤ src) || decide (s.fld p (Fd.obsCntSelArg k) = arg)) then
      let c := Tab.get (fun _ => 0) (s.peak p).obs k
      let c' := c + n
      let s1 := s.setPeak p { s.peak p with obs := Tab.put (fun _ => 0) (s.peak p).obs k (min c' (2 ^ 48 - 1)) }
      if 2 ^ 48 ≤ c' then s1.setFld p (Fd.obsCntHiSat k) 1 else s1
    else s) s

/-- Put a packet of a type into the Peak's trace FIFO (R442, R443): TICK_HI, TICK_LO, ALIGN and LOST are always sent. -/
def tracePut (p : PeakId) (type payload : Nat) (s : State) : State :=
  let on := s.bit p Fd.obsTrcCtrlEn
  let sel := decide (type = 0xA) || decide (type = 0xD) || decide (type = 0xE) ||
    decide (bits (s.reg p Reg.obsTrcCtrl) type type = 1)
  if on && sel then
    let k := s.peak p
    if 64 ≤ k.trace.length then
      (s.setPeak p { k with traceLost := min (k.traceLost + 1) 0xFFFF }).bump p Fd.obsTrcLostCount Fd.obsTrcLostSat
    else s.setPeak p { k with trace := k.trace ++ [BitVec.ofNat 32 (type * 2 ^ 28 + payload)] }
  else s

/-- Bits [15:0] of the Saddle's free tick count (R403, R442). -/
def State.stamp (s : State) : Nat := (s.tick - s.tick0) % 2 ^ 16

/-! ### Talus triggers (R383) -/

def State.talChan (s : State) (p : PeakId) (c : Nat) : TalChan := Tab.get (fun _ => {}) (s.peak p).talus.chans c
def State.setTalChan (s : State) (p : PeakId) (c : Nat) (t : TalChan) : State :=
  s.setPeak p { s.peak p with talus := { (s.peak p).talus with chans := Tab.put (fun _ => {}) (s.peak p).talus.chans c t } }

/-- A trigger condition fires: each channel that names it takes the trigger while ARMED, marks it late while FILLING, and else counts
it lost. -/
def talusTrigger (p : PeakId) (cond : Nat) (instant : Int) (frac : Nat) (s : State) : State :=
  forAll (List.range 4) (fun c s =>
    if s.bit p (Fd.talChCtrlRun c) && decide (bits (s.fld p (Fd.talChCfgTrigMask c)) cond cond = 1) then
      let t := s.talChan p c
      match s.fld p (Fd.talChStatusState c) with
      | 1 => s.setTalChan p c { t with trigs := t.trigs ++ [⟨cond, instant, frac⟩] }
      | 2 => s.setTalChan p c { t with lateTrig := t.lateTrig ||| 2 ^ cond }
      | _ => s.bump p (Fd.talChLostCount c) (Fd.talChLostSat c)
    else s) s

/-! ### The event matrix -/

/-- The task numbers of R148. -/
def taskNumbers : List Nat := List.range 4 ++ (List.range 64).map (fun i => 0x10 + i) ++ (List.range 16).map (fun i => 0x60 + i)

def isSummit (n : Nat) : Bool := decide (n ≤ 3)
def isControl (n : Nat) : Bool := decide (0x10 ≤ n) && decide (n ≤ 0x4F)
def isFrame (n : Nat) : Bool := decide (0x60 ≤ n) && decide (n ≤ 0x6F)

/-- The loaded tasks, by number. -/
def State.loaded (s : State) (p : PeakId) : List Nat := taskNumbers.filter (fun n => s.bit p (Fd.trvTaskStatLoaded n))

/-- Keep TRV.STATUS in step with the tasks (R173). -/
def trvRefresh (p : PeakId) (s : State) : State :=
  let l := s.loaded p
  let s := s.setFld p Fd.trvStatusSummits (l.filter isSummit).length
  let s := s.setFld p Fd.trvStatusControls (l.filter isControl).length
  let s := s.setFld p Fd.trvStatusFrames (l.filter isFrame).length
  let s := s.setBit p Fd.trvStatusCatchup ((taskNumbers.filter isFrame).any (fun n => s.bit p (Fd.trvTaskStatCatchup n)))
  let s := s.setBit p Fd.trvStatusMonFault (l.any (fun n => isSummit n && s.bit p (Fd.trvTaskStatMonFault n)))
  s.setBit p Fd.trvStatusReplacePending (l.any (fun n => s.bit p (Fd.trvTaskStatReplacePending n)))

/-- Is the core running the boot run (R148: TASK = 0xFF)? -/
def State.inBootRun (s : State) (k : CoreSel) : Bool :=
  decide (s.fld k.peak (Fd.sysCoreStatusState k.core.val) = 1) && decide (s.fld k.peak (Fd.sysCoreStatusTask k.core.val) = 0xFF)

/-- The core that a task names. -/
def State.taskCore (s : State) (p : PeakId) (n : Nat) : CoreSel :=
  ⟨p, Fin.ofNat 8 (s.fld p (Fd.trvTaskCfgCore n))⟩

/-- Record a monitor violation (R161) but for its event. -/
def monitorMark (p : PeakId) (n kind cycle : Nat) (s : State) : State :=
  let first := !s.bit p Fd.trvFlagsMonitor
  let s := s.setPeak p { s.peak p with monSince := true }
  let s := s.setFld p (Fd.trvTaskStatMonFault n) 1
  let s := s.raise p Fd.trvFlagsMonitor
  let s := if first then
    ((s.setFld p Fd.trvMonTask n).setFld p Fd.trvMonKind kind).setReg p Reg.trvMonCycle cycle else s
  let k := s.taskCore p n
  let s := tracePut p 5 (p.num * 2 ^ 27 + k.core.val * 2 ^ 24 + n * 2 ^ 16 + kind * 2 ^ 8) s
  trvRefresh p s

/-- An event fires in a Peak: every wait latch is set, every start latches, and what watches the matrix sees it. An event that the firing
itself raises (EV_OVERRUN under R155, EV_SUMMIT_MONITOR under R161) fires in turn; `fuel` bounds that chain. During a JOIN copy the target drops
its starts (R344). EV_BOOT_DONE reaches no task (R156). -/
def fireN : Nat → PeakId → Nat → State → State
  | fuel, p, ev, s =>
    if (s.peak p).up then
      let s := if s.reg p Reg.trvEvWatch = ev then
        s.bump p Fd.trvEvWatchCntCount Fd.trvEvWatchCntSat else s
      let s := obsCount p 3 ev 1 s
      let s := tracePut p 3 (p.num * 2 ^ 27 + ev * 2 ^ 16 + s.stamp) s
      let s := forAll (List.range 16) (fun n s =>
        if s.fld p (Fd.talCondCfgKind n) = 4 ∧ s.fld p (Fd.talCondCfgEvent n) = ev then
          talusTrigger p n (s.tick * 1024 : Nat) 0 s else s) s
      let s := forAll ((List.finRange 8).map (fun c => (⟨p, c⟩ : CoreSel))) (fun k s =>
        if s.inBootRun k then
          let c := s.core k
          s.setCore k { c with bootWait := c.bootWait ||| BitVec.ofNat 256 (2 ^ ev) }
        else s) s
      forAll (s.loaded p) (fun n s =>
        let t := s.task p n
        let s := if isSummit n || decide (ev = Ev.bootDone) then s else s.setTask p n { t with wait := t.wait ||| BitVec.ofNat 256 (2 ^ ev) }
        if isFrame n || decide (s.fld p (Fd.trvTaskCfgEvent n) ≠ ev) || decide (ev = Ev.bootDone) || (s.peak p).held then s
        else if isSummit n then
          if s.bit p (Fd.trvTaskStatRunning n) || s.bit p (Fd.trvTaskStatPending n) then
            let s := monitorMark p n 3 (if s.bit p (Fd.trvTaskStatRunning n) then s.runCycle (s.taskCore p n) else 0) s
            match fuel with
            | 0 => s
            | fuel + 1 => fireN fuel p Ev.summitMonitor s
          else (s.setFld p (Fd.trvTaskStatPending n) 1).setTask p n { s.task p n with latchEv := ev, latchTick := s.tick, latchLate := false }
        else if s.bit p (Fd.trvTaskStatPending n) then
          let s := s.bump p (Fd.trvTaskMissOverruns n) (Fd.trvTaskMissOvrSat n)
          let s := s.raise p Fd.trvFlagsOverrun
          match fuel with
          | 0 => s
          | fuel + 1 => fireN fuel p Ev.overrun s
        else (s.setFld p (Fd.trvTaskStatPending n) 1).setTask p n { s.task p n with latchEv := ev, latchTick := s.tick, latchLate := false }) s
    else s

/-- An event fires in one Peak. -/
def fire (p : PeakId) (ev : Nat) (s : State) : State := fireN 2 p ev s

/-- An event that reaches both Peaks in the same tick (R151). -/
def fireBoth (ev : Nat) (s : State) : State := bothPeaks (fun p s => fire p ev s) s

/-- A monitor violation with its event (R161). -/
def monitorViolation (p : PeakId) (n kind cycle : Nat) (s : State) : State :=
  fire p Ev.summitMonitor (monitorMark p n kind cycle s)

end Sys2Proof.Machine
end

