-- ==== Sys2Proof/Machine/Flags.lean ====
section
/-! DEFINITION. The sticky flags of a core (R103) and the results that set them. -/

namespace Sys2Proof.Machine

/-- Set sticky flags; an instruction never clears one (R103). -/
def Core.flag (c : Core) (fl : FlagSet) : Core := { c with flags := c.flags ||| fl }

/-- The flags word as SYS.CORE[n].FLAGS lays it out (R124). -/
def Core.flagWord (c : Core) : Nat := c.flags.toNat

/-- At a task's end its flags are ORed into SYS.CORE[n].FLAGS (R103). -/
def foldFlags (k : CoreSel) (s : State) : State :=
  s.setReg k.peak (Reg.sysCoreFlags k.core.val) (s.reg k.peak (Reg.sysCoreFlags k.core.val) ||| (s.core k).flagWord)

end Sys2Proof.Machine
end

