-- ==== Sys2Proof/Machine/Operands.lean ====
section
/-! DEFINITION. The register files as instructions name them (R93 to R96) and the issue rules (R88 to R92, R129). -/

namespace Sys2Proof.Machine

/-! ### Registers -/

/-- Scalar `r`; s0 reads as 0 (R94). -/
def Core.rs (c : Core) (r : Nat) : Word := if r = 0 then 0 else Tab.get (fun _ => 0) c.s r

/-- Write scalar `r`; a write to s0 is discarded (R94). -/
def Core.setS (c : Core) (r : Nat) (v : Word) : Core :=
  if r = 0 then c else { c with s := Tab.put (fun _ => 0) c.s r v }

/-- Lane `l` of vector `r`. -/
def Core.rv (c : Core) (r l : Nat) : Word := Tab.get (fun _ => 0) c.v (4 * r + l)

def Core.setV (c : Core) (r l : Nat) (v : Word) : Core := { c with v := Tab.put (fun _ => 0) c.v (4 * r + l) v }

/-- Phase register `r`. -/
def Core.rph (c : Core) (r : Nat) : BitVec 64 := Tab.get (fun _ => 0) c.ph r

def Core.setPh (c : Core) (r : Nat) (v : BitVec 64) : Core := { c with ph := Tab.put (fun _ => 0) c.ph r v }

/-- Predicate `r`; q0 reads as 0b1111 (R94). -/
def Core.rq (c : Core) (r : Nat) : BitVec 4 := if r = 0 then 0xF else Tab.get (fun _ => 0) c.q r

/-- Write the lanes of predicate `r` that `mask` names; a write to q0 is discarded (R94, R134). -/
def Core.setQ (c : Core) (r : Nat) (v mask : BitVec 4) : Core :=
  if r = 0 then c
  else { c with q := Tab.put (fun _ => 0) c.q r ((v &&& mask) ||| (Tab.get (fun _ => 0) c.q r &&& ~~~mask)) }

/-- Lane `l` of the governing predicate (R96). -/
def Core.lane (c : Core) (q l : Nat) : Bool := (c.rq q).getLsbD l

/-- Is lane 0 of the governing predicate 1 (R95)? -/
def Core.on (c : Core) (q : Nat) : Bool := c.lane q 0

/-! ### Issue -/

/-- The ready-table keys of the register files. -/
def kS (r : Nat) : Nat := r
def kV (r : Nat) : Nat := 32 + r
def kP (r : Nat) : Nat := 40 + r
def kQ (r : Nat) : Nat := 44 + r

/-- What an instruction uses (R90, R129): the registers it reads and writes, its result latency, its issue occupancy, whether it takes the
divide unit (R91) or the shadow lane (R109), the coprocessor unit whose step it waits for (R122), and a cycle before which it does not issue
(R108). -/
structure Use where
  reads : List Nat
  writes : List Nat := []
  lat : Nat := 1
  occ : Nat := 1
  div : Bool := false
  shadow : Bool := false
  unit : Option Nat := none
  after : Nat := 0
  deriving DecidableEq, Repr

/-- The cycle at which a register can be read or written again; s0 and q0 never wait. -/
def Core.readyAt (c : Core) (k : Nat) : Nat := if k = 0 ∨ k = 44 then 0 else Tab.get (fun _ => 0) c.ready k

/-- The cycle at which the instruction issues (R88, R91, R108, R109, R122, R129). -/
def Core.issueAt (c : Core) (u : Use) : Nat :=
  let t := (u.reads ++ u.writes).foldl (fun t k => max t (c.readyAt k)) (max c.issue u.after)
  let t := if u.div then max t c.divFree else t
  let t := if u.shadow then max t c.laneFree else t
  match u.unit with
  | some n => max t (Tab.get (fun _ => 0) c.unitFree n)
  | none => t

/-- The core after the issue of an instruction that uses `u`. -/
def Core.book (c : Core) (u : Use) : Core :=
  let t := c.issueAt u
  let c := { c with issue := t + u.occ
                    ready := (u.writes.filter (fun k => decide (k ≠ 0) && decide (k ≠ 44))).foldl
                      (fun r k => Tab.put (fun _ => 0) r k (t + u.lat)) c.ready }
  let c := if u.div then { c with divFree := t + 8 } else c
  if u.shadow then { c with laneFree := t + 3 } else c

/-- The core's Peak runs and the core is in a task and not waiting (R111, R114). -/
def State.canIssue (s : State) (k : CoreSel) : Bool :=
  (s.peak k.peak).up && decide (s.fld k.peak (Fd.sysCoreStatusState k.core.val) = 1) && (s.core k).waitFor.isNone

/-- The running task's number; 0xFF is the boot run (R148). -/
def State.curTask (s : State) (k : CoreSel) : Nat := s.fld k.peak (Fd.sysCoreStatusTask k.core.val)

/-- The core runs a summit task. -/
def State.inSummit (s : State) (k : CoreSel) : Bool := s.bit k.peak (Fd.sysCoreStatusSummit k.core.val)

/-- Core cycles since reset as the core sees them (R126): the Peak's count, or while a run is ahead of it the run's own. -/
def State.coreCycles (s : State) (k : CoreSel) : Nat :=
  max ((s.peak k.peak).cycles64 / 64) ((s.core k).runBase + (s.core k).issue) % 2 ^ 48

end Sys2Proof.Machine
end

