-- ==== Sys2Proof/Machine/TaskRun.lean ====
section
/-! DEFINITION. How a run of a task goes on and ends: faults (R118, R119, R125), the end of an instance (R113, R154, R166, R168 to R170), and the
frame that every instruction stands in. -/

namespace Sys2Proof.Machine

/-- The period timebase (R11). -/
def State.periodTb (s : State) : Nat := s.fld .a Fd.pwmPeriodTbTb

/-- The frame length F of a frame task in ticks (R167). -/
def State.frameLen (s : State) (p : PeakId) (n : Nat) : Nat :=
  s.reg p (Reg.trvTaskTiming n) % 2 ^ 16 * (s.prdNow s.periodTb + 1)

/-- Unload a task: its latched start and wait latches drop and its bindings end (R170). -/
def unloadTask (p : PeakId) (n : Nat) (s : State) : State :=
  let s := s.setFld p (Fd.trvTaskStatLoaded n) 0
  let s := s.setFld p (Fd.trvTaskStatPending n) 0
  let s := s.setFld p (Fd.trvTaskStatReplacePending n) 0
  trvRefresh p (s.setTask p n {})

/-- A command ends: BUSY clears, its own TASK and RESULT show, EV_CMD_DONE is signalled (R159). -/
def trvDone (p : PeakId) (n code : Nat) (s : State) : State :=
  let s := s.setPeak p { s.peak p with trvCmd := none }
  let s := ((s.setFld p Fd.trvCmdStatusBusy 0).setFld p Fd.trvCmdStatusTask n).setFld p Fd.trvCmdStatusResult code
  fire p Ev.cmdDone s

/-- A task is unloaded on its fault (R166). A REPLACE of it that was under way ends, its task no longer loaded, with RESULT 0x2 (DESIGN CHOICE,
assumption 136). -/
def faultUnload (p : PeakId) (n : Nat) (s : State) : State :=
  if (s.task p n).repl = .none then unloadTask p n s else trvDone p n 2 (unloadTask p n s)

/-- The instant after which instance k misses its frame: max(B_(k+1), T_k + ⌊F / 2⌋) (R168, R169). -/
def State.frameBound (s : State) (p : PeakId) (n : Nat) : Nat :=
  let t := s.task p n
  let f := s.frameLen p n
  max (t.b0.getD 0 + (t.k + 1) * f) (t.tk + f / 2)

/-- The end of an instance that is mirrored to the other Peak (R344): its frame's end and series reach the target. -/
def mirrorEnd (p : PeakId) (n : Nat) (s : State) : State :=
  if s.gdm.mirrored.contains (p.num, n) then
    let s := { s with gdm := { s.gdm with mirrored := s.gdm.mirrored.filter (fun e => decide (e ≠ (p.num, n))) } }
    if isFrame n then
      let t := s.task p n
      s.setTask p.other n { s.task p.other n with b0 := t.b0, released := t.released, k := t.k, tk := t.tk, ek := t.ek }
    else s
  else s

/-- The end of the instance that the core runs, by END or by fault (R113, R166): flags fold, the core waits again, a frame's end is
judged (R169) where the instance belongs to the present series, and a waiting unload is made (R170). -/
def endInstance (k : CoreSel) (s : State) : State :=
  let p := k.peak
  let n := s.curTask k
  let s := foldFlags k s
  let s := tracePut p 2 (p.num * 2 ^ 27 + k.core.val * 2 ^ 24 + n * 2 ^ 16 + min (s.core k).issue 0xFFFF) s
  let s := s.setFld p (Fd.sysCoreStatusState k.core.val) 0
  let s := s.setFld p (Fd.sysCoreStatusSummit k.core.val) 0
  if n = 0xFF then s
  else
    let s := s.setFld p (Fd.trvTaskStatRunning n) 0
    let s := if isFrame n && (s.task p n).b0.isSome && (s.task p n).released then
        let s1 := if s.frameBound p n < s.tick then
            fire p Ev.frameMiss ((s.bump p (Fd.trvTaskMissMisses n) (Fd.trvTaskMissMissSat n)).raise p Fd.trvFlagsFrameMiss)
          else s
        s1.setTask p n { s1.task p n with ek := some s.tick }
      else s.setTask p n { s.task p n with ek := some s.tick }
    let s := mirrorEnd p n s
    if (s.task p n).unloadAtEnd then
      trvDone p n 0 (unloadTask p n s)
    else s

/-- A core fault (R118, R119, R125): recorded, signalled, and the end of an ordinary task; a summit task runs on unless it was a fetch
beyond the ITCM. -/
def coreFault (k : CoreSel) (code addr : Nat) (s : State) : State :=
  let p := k.peak
  let c := k.core.val
  let n := s.curTask k
  let s := if s.fld p (Fd.sysCoreFaultInfoCode c) ≠ 0 then s
    else
      let s := s.setFld p (Fd.sysCoreFaultInfoCode c) code
      let s := s.setReg p (Reg.sysCoreFaultPc c) (s.core k).pc.toNat
      s.setReg p (Reg.sysCoreFaultAddr c) (if code = 1 ∨ code = 2 ∨ code = 7 then 0 else addr)
  let s := s.bump p (Fd.sysCoreFaultInfoCount c) (Fd.sysCoreFaultInfoSat c)
  let s := s.setFld p Fd.sysFaultCore (s.fld p Fd.sysFaultCore ||| 2 ^ c)
  let s := tracePut p 4 (p.num * 2 ^ 27 + c * 2 ^ 24 + code * 2 ^ 20 + s.stamp) s
  let s := if n = 0xFF then s else (s.setFld p (Fd.trvTaskStatFaulted n) 1).raise p Fd.trvFlagsTaskFault
  let s := fire p Ev.coreFault s
  if s.inSummit k then
    if code = 2 then
      let s := s.setTask p n { s.task p n with noEnd := true }
      endInstance k s
    else s
  else
    let s := endInstance k s
    if n ≠ 0xFF ∧ s.bit p (Fd.trvTaskCfgFaultUnload n) = true ∧ s.bit p (Fd.trvTaskStatLoaded n) = true then faultUnload p n s else s

/-- The instructions issued and cycles waited, for the observation counters (R444). -/
def issueObs (k : CoreSel) (u : Use) (s : State) : State :=
  let c := s.core k
  obsCount k.peak 2 k.core.val (c.issueAt u - c.issue) (obsCount k.peak 1 k.core.val 1 s)

/-- The frame of an instruction of `len` bytes: it issues only in a running task; a word at or beyond 0x0001_0000 is a FETCH_RANGE fault
(R104, R118) and the instruction then has no effect. -/
def fetched (k : CoreSel) (len : Nat) (f : State → State) (s : State) : State :=
  if s.canIssue k then
    if 0x10000 < (s.core k).pc.toNat + len then coreFault k 2 0 s else f s
  else s

/-- An instruction that acts on its core alone: what it uses, and its effect. The pc passes its words (R127). -/
def runCore (k : CoreSel) (len : Nat) (u : Use) (f : Core → Core) (s : State) : State :=
  fetched k len (fun s =>
    let c := s.core k
    let c' := f c
    (issueObs k u s).setCore k { (c.book u) with s := c'.s, v := c'.v, ph := c'.ph, q := c'.q, flags := c'.flags,
                                                   pc := c.pc + BitVec.ofNat 32 len }) s

/-- Issue and pass an instruction that leaves the register files alone: only time and the pc move. -/
def passCore (k : CoreSel) (len : Nat) (u : Use) (s : State) : State :=
  let c := s.core k
  (issueObs k u s).setCore k { (c.book u) with pc := c.pc + BitVec.ofNat 32 len }

end Sys2Proof.Machine
end

