-- ==== Sys2Proof/Machine/Alu.lean ====
section
/-! DEFINITION. Scalar integer, compare, predicate and Q1.31 instructions, and the long forms of these groups (R132 to R135, R147). -/

namespace Sys2Proof.Machine

/-! ### Shared shapes -/

/-- A scalar result of scalar sources, under lane 0 of the predicate (R95). -/
def scalarOp (x : Slot) (d : Fin 32) (reads : List Nat) (lat : Nat) (f : Core → Res) (s : State) : State :=
  runCore x.toCoreSel 4 { reads := kQ x.pred.val :: reads, writes := [kS d.val], lat := lat } (fun c =>
    if c.on x.pred.val then (c.setS d.val (f c).val).flag (f c).fl else c) s

/-- The extra issue cycle of a long form at an address that is not a multiple of 8 (R90). -/
def longExtra (s : State) (k : CoreSel) : Nat := if (s.core k).pc.toNat % 8 = 0 then 0 else 1

/-- A long-form instruction (R147). -/
def longOp (x : Slot) (d : Fin 32) (reads : List Nat) (lat : Nat) (f : Core → Res) (s : State) : State :=
  runCore x.toCoreSel 8 { reads := kQ x.pred.val :: reads, writes := [kS d.val], lat := lat, occ := 1 + longExtra s x.toCoreSel }
    (fun c => if c.on x.pred.val then (c.setS d.val (f c).val).flag (f c).fl else c) s

/-- All four lanes alike (R95). -/
def allLanes (b : Bool) : BitVec 4 := if b then 0xF else 0

/-- A scalar compare: one bit to all four lanes of the predicate, under lane 0 (R95, R133, R134). -/
def compareOp (x : Slot) (d : Fin 4) (reads : List Nat) (lat : Nat) (f : Core → Bool × FlagSet) (s : State) : State :=
  runCore x.toCoreSel 4 { reads := kQ x.pred.val :: reads, writes := [kQ d.val], lat := lat } (fun c =>
    if c.on x.pred.val then (c.setQ d.val (allLanes (f c).1) 0xF).flag (f c).2 else c) s

/-- A lane-by-lane predicate operation: each lane of the destination where the governing predicate's lane is 1 (R134). -/
def predOp (x : Slot) (d : Fin 4) (reads : List Nat) (f : Core → BitVec 4) (s : State) : State :=
  runCore x.toCoreSel 4 { reads := kQ x.pred.val :: reads, writes := [kQ d.val] } (fun c =>
    c.setQ d.val (f c) (c.rq x.pred.val)) s

def intOp (x : Slot) (d a b : Fin 32) (lat : Nat) (f : Word → Word → Word) (s : State) : State :=
  scalarOp x d [kS a.val, kS b.val] lat (fun c => ⟨f (c.rs a.val) (c.rs b.val), flNone⟩) s

def immOp (x : Slot) (d a : Fin 32) (f : Word → Word) (s : State) : State :=
  scalarOp x d [kS a.val] 1 (fun c => ⟨f (c.rs a.val), flNone⟩) s

def relOp (x : Slot) (d : Fin 4) (a b : Fin 32) (f : Word → Word → Bool) (s : State) : State :=
  compareOp x d [kS a.val, kS b.val] 1 (fun c => (f (c.rs a.val) (c.rs b.val), flNone)) s

def relImm (x : Slot) (d : Fin 4) (a : Fin 32) (f : Word → Bool) (s : State) : State :=
  compareOp x d [kS a.val] 1 (fun c => (f (c.rs a.val), flNone)) s

/-- imm12 sign-extended, and zero-extended. -/
def sext12 (i : BitVec 12) : Word := i.signExtend 32
def zext12 (i : BitVec 12) : Word := i.setWidth 32

/-! ### Integer (R132) -/

def execAdd (x : Slot) (d a b : Fin 32) (s : State) : Out := .next (intOp x d a b 1 (· + ·) s)
def execSub (x : Slot) (d a b : Fin 32) (s : State) : Out := .next (intOp x d a b 1 (· - ·) s)
def execAnd (x : Slot) (d a b : Fin 32) (s : State) : Out := .next (intOp x d a b 1 (· &&& ·) s)
def execOr (x : Slot) (d a b : Fin 32) (s : State) : Out := .next (intOp x d a b 1 (· ||| ·) s)
def execXor (x : Slot) (d a b : Fin 32) (s : State) : Out := .next (intOp x d a b 1 (· ^^^ ·) s)
def execShl (x : Slot) (d a b : Fin 32) (s : State) : Out := .next (intOp x d a b 1 (fun u v => u <<< (v.toNat % 32)) s)
def execShr (x : Slot) (d a b : Fin 32) (s : State) : Out := .next (intOp x d a b 1 (fun u v => u >>> (v.toNat % 32)) s)
def execSar (x : Slot) (d a b : Fin 32) (s : State) : Out :=
  .next (intOp x d a b 1 (fun u v => u.sshiftRight (v.toNat % 32)) s)
def execMul (x : Slot) (d a b : Fin 32) (s : State) : Out := .next (intOp x d a b 2 (· * ·) s)
def execMin (x : Slot) (d a b : Fin 32) (s : State) : Out := .next (intOp x d a b 1 (fun u v => if v.slt u then v else u) s)
def execMax (x : Slot) (d a b : Fin 32) (s : State) : Out := .next (intOp x d a b 1 (fun u v => if u.slt v then v else u) s)
def execMinu (x : Slot) (d a b : Fin 32) (s : State) : Out := .next (intOp x d a b 1 (fun u v => if v.ult u then v else u) s)
def execMaxu (x : Slot) (d a b : Fin 32) (s : State) : Out := .next (intOp x d a b 1 (fun u v => if u.ult v then v else u) s)

def execAddi (x : Slot) (d a : Fin 32) (imm : BitVec 12) (s : State) : Out := .next (immOp x d a (· + sext12 imm) s)
def execAndi (x : Slot) (d a : Fin 32) (imm : BitVec 12) (s : State) : Out := .next (immOp x d a (· &&& zext12 imm) s)
def execOri (x : Slot) (d a : Fin 32) (imm : BitVec 12) (s : State) : Out := .next (immOp x d a (· ||| zext12 imm) s)
def execXori (x : Slot) (d a : Fin 32) (imm : BitVec 12) (s : State) : Out := .next (immOp x d a (· ^^^ zext12 imm) s)
def execShli (x : Slot) (d a sh : Fin 32) (s : State) : Out := .next (immOp x d a (· <<< sh.val) s)
def execShri (x : Slot) (d a sh : Fin 32) (s : State) : Out := .next (immOp x d a (· >>> sh.val) s)
def execSari (x : Slot) (d a sh : Fin 32) (s : State) : Out := .next (immOp x d a (fun u => u.sshiftRight sh.val) s)

/-! ### Compare and predicate (R133) -/

def execCeq (x : Slot) (d : Fin 4) (a b : Fin 32) (s : State) : Out := .next (relOp x d a b (fun u v => u == v) s)
def execCne (x : Slot) (d : Fin 4) (a b : Fin 32) (s : State) : Out := .next (relOp x d a b (fun u v => u != v) s)
def execClt (x : Slot) (d : Fin 4) (a b : Fin 32) (s : State) : Out := .next (relOp x d a b (fun u v => u.slt v) s)
def execCge (x : Slot) (d : Fin 4) (a b : Fin 32) (s : State) : Out := .next (relOp x d a b (fun u v => !u.slt v) s)
def execCltu (x : Slot) (d : Fin 4) (a b : Fin 32) (s : State) : Out := .next (relOp x d a b (fun u v => u.ult v) s)
def execCgeu (x : Slot) (d : Fin 4) (a b : Fin 32) (s : State) : Out := .next (relOp x d a b (fun u v => !u.ult v) s)

def execCeqi (x : Slot) (d : Fin 4) (a : Fin 32) (imm : BitVec 12) (s : State) : Out :=
  .next (relImm x d a (fun u => u == sext12 imm) s)
def execCnei (x : Slot) (d : Fin 4) (a : Fin 32) (imm : BitVec 12) (s : State) : Out :=
  .next (relImm x d a (fun u => u != sext12 imm) s)
def execClti (x : Slot) (d : Fin 4) (a : Fin 32) (imm : BitVec 12) (s : State) : Out :=
  .next (relImm x d a (fun u => u.slt (sext12 imm)) s)
def execCgei (x : Slot) (d : Fin 4) (a : Fin 32) (imm : BitVec 12) (s : State) : Out :=
  .next (relImm x d a (fun u => !u.slt (sext12 imm)) s)
def execCltui (x : Slot) (d : Fin 4) (a : Fin 32) (imm : BitVec 12) (s : State) : Out :=
  .next (relImm x d a (fun u => u.ult (zext12 imm)) s)
def execCgeui (x : Slot) (d : Fin 4) (a : Fin 32) (imm : BitVec 12) (s : State) : Out :=
  .next (relImm x d a (fun u => !u.ult (zext12 imm)) s)

def execAndq (x : Slot) (d a b : Fin 4) (s : State) : Out :=
  .next (predOp x d [kQ a.val, kQ b.val] (fun c => c.rq a.val &&& c.rq b.val) s)
def execOrq (x : Slot) (d a b : Fin 4) (s : State) : Out :=
  .next (predOp x d [kQ a.val, kQ b.val] (fun c => c.rq a.val ||| c.rq b.val) s)
def execXorq (x : Slot) (d a b : Fin 4) (s : State) : Out :=
  .next (predOp x d [kQ a.val, kQ b.val] (fun c => c.rq a.val ^^^ c.rq b.val) s)
def execAndnq (x : Slot) (d a b : Fin 4) (s : State) : Out :=
  .next (predOp x d [kQ a.val, kQ b.val] (fun c => c.rq a.val &&& ~~~c.rq b.val) s)
def execSetq (x : Slot) (d : Fin 4) (a : Fin 32) (s : State) : Out :=
  .next (predOp x d [kS a.val] (fun c => (c.rs a.val).setWidth 4) s)
def execGetq (x : Slot) (d : Fin 32) (a : Fin 4) (s : State) : Out :=
  .next (scalarOp x d [kQ a.val] 1 (fun c => ⟨(c.rq a.val).setWidth 32, flNone⟩) s)
def execAllq (x : Slot) (d a : Fin 4) (s : State) : Out :=
  .next (predOp x d [kQ a.val] (fun c => allLanes (decide (c.rq a.val = 0xF))) s)
def execAnyq (x : Slot) (d a : Fin 4) (s : State) : Out :=
  .next (predOp x d [kQ a.val] (fun c => allLanes (decide (c.rq a.val ≠ 0))) s)

/-! ### Q1.31 (R135) -/

def qOp2 (x : Slot) (d a b : Fin 32) (lat : Nat) (f : Word → Word → Res) (s : State) : State :=
  scalarOp x d [kS a.val, kS b.val] lat (fun c => f (c.rs a.val) (c.rs b.val)) s

def qOp3 (x : Slot) (d a b : Fin 32) (lat : Nat) (f : Word → Word → Word → Res) (s : State) : State :=
  scalarOp x d [kS d.val, kS a.val, kS b.val] lat (fun c => f (c.rs d.val) (c.rs a.val) (c.rs b.val)) s

def qOp1 (x : Slot) (d a : Fin 32) (lat : Nat) (f : Word → Res) (s : State) : State :=
  scalarOp x d [kS a.val] lat (fun c => f (c.rs a.val)) s

def execQadd (x : Slot) (d a b : Fin 32) (s : State) : Out := .next (qOp2 x d a b 1 qAdd s)
def execQsub (x : Slot) (d a b : Fin 32) (s : State) : Out := .next (qOp2 x d a b 1 qSub s)
def execQneg (x : Slot) (d a : Fin 32) (s : State) : Out := .next (qOp1 x d a 1 qNeg s)
def execQabs (x : Slot) (d a : Fin 32) (s : State) : Out := .next (qOp1 x d a 1 qAbs s)
def execQmul (x : Slot) (d a b : Fin 32) (s : State) : Out := .next (qOp2 x d a b 2 qMul s)
def execQmac (x : Slot) (d a b : Fin 32) (s : State) : Out := .next (qOp3 x d a b 2 qMac s)
def execQmsu (x : Slot) (d a b : Fin 32) (s : State) : Out := .next (qOp3 x d a b 2 qMsu s)

/-! ### Long forms (R147) -/

def execLi (x : Slot) (d : Fin 32) (imm : Word) (s : State) : Out := .next (longOp x d [] 1 (fun _ => ⟨imm, flNone⟩) s)
def execAddl (x : Slot) (d a : Fin 32) (imm : Word) (s : State) : Out :=
  .next (longOp x d [kS a.val] 1 (fun c => ⟨c.rs a.val + imm, flNone⟩) s)
def execAndl (x : Slot) (d a : Fin 32) (imm : Word) (s : State) : Out :=
  .next (longOp x d [kS a.val] 1 (fun c => ⟨c.rs a.val &&& imm, flNone⟩) s)
def execOrl (x : Slot) (d a : Fin 32) (imm : Word) (s : State) : Out :=
  .next (longOp x d [kS a.val] 1 (fun c => ⟨c.rs a.val ||| imm, flNone⟩) s)
def execFaddl (x : Slot) (d a : Fin 32) (imm : Word) (s : State) : Out :=
  .next (longOp x d [kS a.val] 3 (fun c => fpAdd (c.rs a.val) imm) s)
def execFmull (x : Slot) (d a : Fin 32) (imm : Word) (s : State) : Out :=
  .next (longOp x d [kS a.val] 3 (fun c => fpMul (c.rs a.val) imm) s)
def execQmull (x : Slot) (d a : Fin 32) (imm : Word) (s : State) : Out :=
  .next (longOp x d [kS a.val] 2 (fun c => qMul (c.rs a.val) imm) s)

end Sys2Proof.Machine
end

