-- ==== Sys2Proof/Machine/Encoding.lean ====
section
/-! DEFINITION. What check 10 of a load asks of code words (R127 to R147, R158): is a word a defined instruction that a summit task may hold; and the
CRC-32 and CRC-16 of R157 and R431. -/

namespace Sys2Proof.Machine

/-- Are the bits `[hi:lo]` of a word zero (R128)? -/
def zeroIn (w hi lo : Nat) : Bool := decide (bits w hi lo = 0)

/-- RRR words (R130, R132 to R136). -/
def rrrOk (major w : Nat) : Bool :=
  let f := bits w 8 0
  let rbZ := zeroIn w 13 9
  let rdP := zeroIn w 23 21
  let raP := zeroIn w 18 16
  let rbP := zeroIn w 13 11
  match major with
  | 0x01 => decide (f ≤ 0xC)
  | 0x02 =>
    if f ≤ 5 then rdP
    else if 0x10 ≤ f ∧ f ≤ 0x13 then rdP && raP && rbP
    else if f = 0x14 then rdP && rbZ
    else if f = 0x15 then raP && rbZ
    else if f = 0x16 ∨ f = 0x17 then rdP && raP && rbZ
    else false
  | 0x03 => if f = 2 ∨ f = 3 then rbZ else decide (f ≤ 6)
  | 0x05 => if f = 7 ∨ f = 8 ∨ f = 0xA then rbZ else decide (f ≤ 9)
  | 0x06 => decide (f ≤ 4) && rdP
  | 0x07 => decide (f ≤ 3) && rbZ
  | _ => false

/-- RRI words. -/
def rriOk (major w : Nat) : Bool :=
  let sub := bits w 13 12
  match major with
  | 0x0D => decide (sub ≤ 2) && zeroIn w 11 5
  | 0x0E => zeroIn w 23 21
  | 0x0F => decide (sub ≤ 1) && zeroIn w 23 21
  | _ => decide (sub = 0)

/-- VEC words (R137, R138). -/
def vecOk (major w : Nat) : Bool :=
  let f := bits w 7 0
  let vdZ := zeroIn w 23 21
  let vaZ := zeroIn w 20 18
  let vbZ := zeroIn w 17 15
  let rsZ := zeroIn w 14 10
  let lnZ := zeroIn w 9 8
  match major with
  | 0x24 => if f ≤ 5 then rsZ && lnZ else if f ≤ 7 then vbZ && lnZ else false
  | 0x25 => if f = 2 ∨ f = 3 then vbZ && rsZ && lnZ else if f ≤ 5 then rsZ && lnZ else if f ≤ 7 then vbZ && lnZ else false
  | 0x26 =>
    if f ≤ 3 ∨ f = 8 ∨ f = 9 then rsZ && lnZ
    else if f = 4 ∨ f = 5 then vbZ && lnZ
    else if f ≤ 0xD then vbZ && rsZ && lnZ
    else false
  | 0x27 => if f ≤ 2 ∨ (8 ≤ f ∧ f ≤ 0xA) then zeroIn w 23 23 && rsZ && lnZ else false
  | 0x28 =>
    if f = 0 then vaZ && vbZ && lnZ
    else if f = 1 then vaZ && vbZ
    else if f = 2 then vdZ && vbZ
    else if f ≤ 8 then vbZ && rsZ && lnZ
    else false
  | _ => false

/-- PH words (R139, R140). -/
def phOk (major w : Nat) : Bool :=
  let f := bits w 4 0
  let pdZ := zeroIn w 23 22
  let paZ := zeroIn w 21 20
  let pbZ := zeroIn w 19 18
  let rdZ := zeroIn w 17 13
  let rsZ := zeroIn w 12 8
  let vdZ := zeroIn w 7 5
  match major with
  | 0x2C =>
    if f ≤ 1 then rdZ && rsZ && vdZ
    else if f = 2 then pbZ && rdZ && rsZ && vdZ
    else if f = 3 then paZ && pbZ && vdZ
    else if f ≤ 6 then pdZ && pbZ && rsZ && vdZ
    else if f = 7 then paZ && pbZ && rdZ && vdZ
    else if f = 8 then pdZ && rsZ && vdZ
    else false
  | _ =>
    if f = 0 ∨ f = 1 ∨ f = 4 ∨ f = 5 then pdZ && pbZ && rsZ && vdZ
    else if f = 2 ∨ f = 6 then pdZ && pbZ && rdZ && rsZ
    else false

/-- EV words (R144). -/
def evOk (w : Nat) : Bool :=
  zeroIn w 13 0 &&
  (match bits w 23 22 with
   | 0 => zeroIn w 25 24
   | 1 => isSoft (bits w 21 14)
   | 2 => zeroIn w 25 24 && zeroIn w 21 14
   | _ => zeroIn w 21 14)
where
  isSoft (ev : Nat) : Bool := decide (192 ≤ ev)

/-- BR words (R143). -/
def brOk (major w : Nat) : Bool :=
  let cond := bits w 25 23
  let rsZ := zeroIn w 20 16
  let qcZ := zeroIn w 22 21
  match major with
  | 0x22 => zeroIn w 15 0 && decide (cond ≤ 5) && (decide (cond ≠ 0) || qcZ)
  | _ =>
    if cond = 0 then qcZ && rsZ
    else if cond ≤ 5 then rsZ
    else if cond = 6 then qcZ
    else false

/-- Is the word a defined instruction (R127, R128, R131)? -/
def wordOk (w : Nat) : Bool :=
  let m := bits w 31 26
  if m = 0x01 ∨ m = 0x02 ∨ m = 0x03 ∨ m = 0x05 ∨ m = 0x06 ∨ m = 0x07 then rrrOk m w
  else if 0x09 ≤ m ∧ m ≤ 0x0F then rriOk m w
  else if 0x10 ≤ m ∧ m ≤ 0x1C ∧ m ≠ 0x17 then
    (if m = 0x15 ∨ m = 0x1B then zeroIn w 23 21 else if m = 0x16 ∨ m = 0x1C then zeroIn w 23 22 else true)
  else if 0x20 ≤ m ∧ m ≤ 0x22 then brOk m w
  else if 0x24 ≤ m ∧ m ≤ 0x28 then vecOk m w
  else if m = 0x2C ∨ m = 0x2D then phOk m w
  else if m = 0x30 then true
  else if m = 0x31 then zeroIn w 6 5
  else if m = 0x32 then zeroIn w 1 0
  else if m = 0x33 then zeroIn w 6 0
  else if m = 0x38 then evOk w
  else if m = 0x3F then
    decide (bits w 13 6 ≤ 6) && zeroIn w 5 0 && (decide (bits w 13 6 ≠ 0) || zeroIn w 18 14)
  else false

/-- A branch, WAIT or FENCE word, which summit code may not hold (check 10 of R158). -/
def notSummitWord (w : Nat) : Bool :=
  let m := bits w 31 26
  (decide (0x20 ≤ m) && decide (m ≤ 0x22)) || (decide (m = 0x38) && (decide (bits w 23 22 = 0) || decide (bits w 23 22 = 3)))

def isEndWord (w : Nat) : Bool := decide (w = 0x38 * 2 ^ 26 + 2 * 2 ^ 22)

/-- Check 10 of R158 over the words of a code range: every word defined and admitted, END last, and no long form cut off. -/
def summitCodeOk : List Nat → Bool
  | [] => false
  | [w] => isEndWord w
  | w :: w2 :: r =>
    wordOk w && !notSummitWord w &&
    (if bits w 31 26 = 0x3F then (match r with | [] => false | _ => summitCodeOk r) else summitCodeOk (w2 :: r))

/-! ### CRCs -/

def crc32Step : Nat → Nat → Nat
  | 0, c => c
  | n + 1, c => crc32Step n (if c % 2 = 1 then Nat.xor (c / 2) 0xEDB88320 else c / 2)

/-- The CRC-32 of IEEE 802.3 (R157): reflected, initial value all ones, result inverted. -/
def crc32 (bs : List Byte) : Nat :=
  Nat.xor (bs.foldl (fun c b => crc32Step 8 (Nat.xor c b.toNat)) 0xFFFFFFFF) 0xFFFFFFFF

def crc16Step : Nat → Nat → Nat
  | 0, c => c
  | n + 1, c => crc16Step n (if 0x8000 ≤ c then Nat.xor (c * 2 % 0x10000) 0x1021 else c * 2)

/-- The CRC-16 of the Col port (R431): polynomial 0x1021, initial value 0xFFFF, msb first. -/
def crc16 (bs : List Byte) : Nat :=
  bs.foldl (fun c b => crc16Step 8 (Nat.xor c (b.toNat * 256))) 0xFFFF

/-- The words of a key range, little-endian. -/
def State.wordList (s : State) (key : Nat) : Nat → List Nat
  | 0 => []
  | n + 1 => s.bytes key 4 :: s.wordList (key + 4) n

end Sys2Proof.Machine
end

