-- ==== Sys2Proof/Machine/Decoding.lean ====
section
/-! DEFINITION. The command that an instruction word spells at a core (R127 to R147): the eight formats' fields as operands. -/

namespace Sys2Proof.Machine

/-- A five-bit field, as a scalar register's number. -/
def sAt (w lo : Nat) : Fin 32 := Fin.ofNat 32 (bits w (lo + 4) lo)

/-- A three-bit field, as a vector or base register's number. -/
def vAt (w lo : Nat) : Fin 8 := Fin.ofNat 8 (bits w (lo + 2) lo)

/-- A two-bit field, as a predicate's, phase register's or lane's number. -/
def qAt (w lo : Nat) : Fin 4 := Fin.ofNat 4 (bits w (lo + 1) lo)

def imm12Of (w : Nat) : BitVec 12 := BitVec.ofNat 12 w

def off16Of (w : Nat) : BitVec 16 := BitVec.ofNat 16 w

/-- RRR words: rd [23:19], ra [18:14], rb [13:9], func [8:0] (R130, R132, R133, R135, R136). -/
def rrrWord (x : Slot) (major w : Nat) : Option Instr :=
  let d := sAt w 19
  let a := sAt w 14
  let b := sAt w 9
  let qd := qAt w 19
  let qa := qAt w 14
  let qb := qAt w 9
  match major, bits w 8 0 with
  | 0x01, 0x000 => some (.add x d a b)
  | 0x01, 0x001 => some (.sub x d a b)
  | 0x01, 0x002 => some (.and x d a b)
  | 0x01, 0x003 => some (.or x d a b)
  | 0x01, 0x004 => some (.xor x d a b)
  | 0x01, 0x005 => some (.shl x d a b)
  | 0x01, 0x006 => some (.shr x d a b)
  | 0x01, 0x007 => some (.sar x d a b)
  | 0x01, 0x008 => some (.mul x d a b)
  | 0x01, 0x009 => some (.min x d a b)
  | 0x01, 0x00A => some (.max x d a b)
  | 0x01, 0x00B => some (.minu x d a b)
  | 0x01, 0x00C => some (.maxu x d a b)
  | 0x02, 0x000 => some (.ceq x qd a b)
  | 0x02, 0x001 => some (.cne x qd a b)
  | 0x02, 0x002 => some (.clt x qd a b)
  | 0x02, 0x003 => some (.cge x qd a b)
  | 0x02, 0x004 => some (.cltu x qd a b)
  | 0x02, 0x005 => some (.cgeu x qd a b)
  | 0x02, 0x010 => some (.andq x qd qa qb)
  | 0x02, 0x011 => some (.orq x qd qa qb)
  | 0x02, 0x012 => some (.xorq x qd qa qb)
  | 0x02, 0x013 => some (.andnq x qd qa qb)
  | 0x02, 0x014 => some (.setq x qd a)
  | 0x02, 0x015 => some (.getq x d qa)
  | 0x02, 0x016 => some (.allq x qd qa)
  | 0x02, 0x017 => some (.anyq x qd qa)
  | 0x03, 0x000 => some (.qadd x d a b)
  | 0x03, 0x001 => some (.qsub x d a b)
  | 0x03, 0x002 => some (.qneg x d a)
  | 0x03, 0x003 => some (.qabs x d a)
  | 0x03, 0x004 => some (.qmul x d a b)
  | 0x03, 0x005 => some (.qmac x d a b)
  | 0x03, 0x006 => some (.qmsu x d a b)
  | 0x05, 0x000 => some (.fadd x d a b)
  | 0x05, 0x001 => some (.fsub x d a b)
  | 0x05, 0x002 => some (.fmul x d a b)
  | 0x05, 0x003 => some (.fma x d a b)
  | 0x05, 0x004 => some (.fms x d a b)
  | 0x05, 0x005 => some (.fmin x d a b)
  | 0x05, 0x006 => some (.fmax x d a b)
  | 0x05, 0x007 => some (.fneg x d a)
  | 0x05, 0x008 => some (.fabs x d a)
  | 0x05, 0x009 => some (.fdiv x d a b)
  | 0x05, 0x00A => some (.fsqrt x d a)
  | 0x06, 0x000 => some (.fceq x qd a b)
  | 0x06, 0x001 => some (.fcne x qd a b)
  | 0x06, 0x002 => some (.fclt x qd a b)
  | 0x06, 0x003 => some (.fcle x qd a b)
  | 0x06, 0x004 => some (.fcun x qd a b)
  | 0x07, 0x000 => some (.f2q x d a)
  | 0x07, 0x001 => some (.q2f x d a)
  | 0x07, 0x002 => some (.f2i x d a)
  | 0x07, 0x003 => some (.i2f x d a)
  | _, _ => none

/-- RRI words: sub [13:12], imm12 [11:0] (R130, R132, R133). -/
def rriWord (x : Slot) (major w : Nat) : Option Instr :=
  let d := sAt w 19
  let qd := qAt w 19
  let a := sAt w 14
  let i := imm12Of w
  match major, bits w 13 12 with
  | 0x09, 0 => some (.addi x d a i)
  | 0x0A, 0 => some (.andi x d a i)
  | 0x0B, 0 => some (.ori x d a i)
  | 0x0C, 0 => some (.xori x d a i)
  | 0x0D, 0 => some (.shli x d a (sAt w 0))
  | 0x0D, 1 => some (.shri x d a (sAt w 0))
  | 0x0D, 2 => some (.sari x d a (sAt w 0))
  | 0x0E, 0 => some (.ceqi x qd a i)
  | 0x0E, 1 => some (.cnei x qd a i)
  | 0x0E, 2 => some (.clti x qd a i)
  | 0x0E, 3 => some (.cgei x qd a i)
  | 0x0F, 0 => some (.cltui x qd a i)
  | 0x0F, 1 => some (.cgeui x qd a i)
  | _, _ => none

/-- LS words: rt [23:19], base [18:16], off16 [15:0] (R130, R141). -/
def lsWord (x : Slot) (major w : Nat) : Option Instr :=
  let t := sAt w 19
  let p := qAt w 19
  let v := vAt w 19
  let base := vAt w 16
  let off := off16Of w
  match major with
  | 0x10 => some (.lb x t base off)
  | 0x11 => some (.lbu x t base off)
  | 0x12 => some (.lh x t base off)
  | 0x13 => some (.lhu x t base off)
  | 0x14 => some (.lw x t base off)
  | 0x15 => some (.lp x p base off)
  | 0x16 => some (.lv x v base off)
  | 0x18 => some (.sb x t base off)
  | 0x19 => some (.sh x t base off)
  | 0x1A => some (.sw x t base off)
  | 0x1B => some (.sp x p base off)
  | 0x1C => some (.sv x v base off)
  | _ => none

/-- The condition of B and BL: cond [25:23], qc [22:21], rs [20:16] (R143). -/
def brCondField (w : Nat) : Option BrCond :=
  let q := qAt w 21
  match bits w 25 23 with
  | 0 => some .al
  | 1 => some (.q q)
  | 2 => some (.nq q)
  | 3 => some (.any q)
  | 4 => some (.all q)
  | 5 => some (.none q)
  | 6 => some (.dec (sAt w 16))
  | _ => none

/-- The condition of JR (R143). -/
def jrCondField (w : Nat) : Option JrCond :=
  let q := qAt w 21
  match bits w 25 23 with
  | 0 => some .al
  | 1 => some (.q q)
  | 2 => some (.nq q)
  | 3 => some (.any q)
  | 4 => some (.all q)
  | 5 => some (.none q)
  | _ => none

/-- BR words, which have no governing predicate (R130, R143). -/
def brWord (k : CoreSel) (major w : Nat) : Option Instr :=
  match major with
  | 0x20 => (brCondField w).map fun c => .b k c (off16Of w)
  | 0x21 => (brCondField w).map fun c => .bl k c (off16Of w)
  | 0x22 => (jrCondField w).map fun c => .jr k c (sAt w 16)
  | _ => none

/-- VEC words: vd [23:21], va [20:18], vb [17:15], rs [14:10], lane [9:8], func [7:0] (R130, R137, R138). -/
def vecWord (x : Slot) (major w : Nat) : Option Instr :=
  let d := vAt w 21
  let qd := qAt w 21
  let a := vAt w 18
  let b := vAt w 15
  let r := sAt w 10
  let lane := qAt w 8
  match major, bits w 7 0 with
  | 0x24, 0x00 => some (.vadd x d a b)
  | 0x24, 0x01 => some (.vsub x d a b)
  | 0x24, 0x02 => some (.vand x d a b)
  | 0x24, 0x03 => some (.vor x d a b)
  | 0x24, 0x04 => some (.vxor x d a b)
  | 0x24, 0x05 => some (.vmul x d a b)
  | 0x24, 0x06 => some (.vshl x d a r)
  | 0x24, 0x07 => some (.vsar x d a r)
  | 0x25, 0x00 => some (.vqadd x d a b)
  | 0x25, 0x01 => some (.vqsub x d a b)
  | 0x25, 0x02 => some (.vqneg x d a)
  | 0x25, 0x03 => some (.vqabs x d a)
  | 0x25, 0x04 => some (.vqmul x d a b)
  | 0x25, 0x05 => some (.vqmac x d a b)
  | 0x25, 0x06 => some (.vqmuls x d a r)
  | 0x25, 0x07 => some (.vqmacs x d a r)
  | 0x26, 0x00 => some (.vfadd x d a b)
  | 0x26, 0x01 => some (.vfsub x d a b)
  | 0x26, 0x02 => some (.vfmul x d a b)
  | 0x26, 0x03 => some (.vfma x d a b)
  | 0x26, 0x04 => some (.vfmuls x d a r)
  | 0x26, 0x05 => some (.vfmas x d a r)
  | 0x26, 0x06 => some (.vfneg x d a)
  | 0x26, 0x07 => some (.vfabs x d a)
  | 0x26, 0x08 => some (.vfmin x d a b)
  | 0x26, 0x09 => some (.vfmax x d a b)
  | 0x26, 0x0A => some (.vq2f x d a)
  | 0x26, 0x0B => some (.vf2q x d a)
  | 0x26, 0x0C => some (.vf2i x d a)
  | 0x26, 0x0D => some (.vi2f x d a)
  | 0x27, 0x00 => some (.vceq x qd a b)
  | 0x27, 0x01 => some (.vclt x qd a b)
  | 0x27, 0x02 => some (.vcltu x qd a b)
  | 0x27, 0x08 => some (.vfceq x qd a b)
  | 0x27, 0x09 => some (.vfclt x qd a b)
  | 0x27, 0x0A => some (.vfcle x qd a b)
  | 0x28, 0x00 => some (.vbcast x d r)
  | 0x28, 0x01 => some (.vins x d r lane)
  | 0x28, 0x02 => some (.vext x r a lane)
  | 0x28, 0x03 => some (.vmov x d a)
  | 0x28, 0x04 => some (.vdup2 x d a)
  | 0x28, 0x05 => some (.vswap x d a)
  | 0x28, 0x06 => some (.vfhadd4 x d a)
  | 0x28, 0x07 => some (.vfhadd2 x d a)
  | 0x28, 0x08 => some (.vqhadd2 x d a)
  | _, _ => none

/-- PH words: pd [23:22], pa [21:20], pb [19:18], rd [17:13], rs [12:8], vd [7:5], func [4:0] (R130, R139, R140). -/
def phWord (x : Slot) (major w : Nat) : Option Instr :=
  let pd := qAt w 22
  let pa := qAt w 20
  let pb := qAt w 18
  let rd := sAt w 13
  let rs := sAt w 8
  let vd := vAt w 5
  match major, bits w 4 0 with
  | 0x2C, 0x00 => some (.padd x pd pa pb)
  | 0x2C, 0x01 => some (.psub x pd pa pb)
  | 0x2C, 0x02 => some (.pmov x pd pa)
  | 0x2C, 0x03 => some (.ppack x pd rs rd)
  | 0x2C, 0x04 => some (.plo x rd pa)
  | 0x2C, 0x05 => some (.phi x rd pa)
  | 0x2C, 0x06 => some (.p2f x rd pa)
  | 0x2C, 0x07 => some (.f2p x pd rs)
  | 0x2C, 0x08 => some (.pdiff x rd pa pb)
  | 0x2D, 0x00 => some (.sinF x rd pa)
  | 0x2D, 0x01 => some (.cosF x rd pa)
  | 0x2D, 0x02 => some (.rotF x vd pa)
  | 0x2D, 0x04 => some (.sinQ x rd pa)
  | 0x2D, 0x05 => some (.cosQ x rd pa)
  | 0x2D, 0x06 => some (.rotQ x vd pa)
  | _, _ => none

/-- XC words: U [23:19], index [18:7], reg [6:2], qd [1:0] (R130, R145). -/
def xcWord (x : Slot) (major w : Nat) : Option Instr :=
  let u := sAt w 19
  let idx := BitVec.ofNat 12 (bits w 18 7)
  match major with
  | 0x30 => some (.xcr x u idx (sAt w 2) (qAt w 0))
  | 0x31 => some (.xcv x u idx (vAt w 2) (qAt w 0))
  | 0x32 => some (.xcw x u idx (sAt w 2))
  | 0x33 => some (.xcs x u idx)
  | _ => none

/-- EV words: func [23:22], event [21:14] (R130, R144). -/
def evWord (x : Slot) (w : Nat) : Option Instr :=
  let ev := BitVec.ofNat 8 (bits w 21 14)
  match bits w 23 22 with
  | 0 => some (.wait x.toCoreSel ev)
  | 1 => some (.signal x ev)
  | 2 => some (.endTask x.toCoreSel)
  | _ => some (.fence x)

/-- Long forms: rd [23:19], ra [18:14], sub8 [13:6], and the second word as imm32 (R130, R147). -/
def longWord (x : Slot) (w : Nat) (imm : Word) : Option Instr :=
  let d := sAt w 19
  let a := sAt w 14
  match bits w 13 6 with
  | 0 => some (.li x d imm)
  | 1 => some (.addl x d a imm)
  | 2 => some (.andl x d a imm)
  | 3 => some (.orl x d a imm)
  | 4 => some (.faddl x d a imm)
  | 5 => some (.fmull x d a imm)
  | 6 => some (.qmull x d a imm)
  | _ => none

/-- The command of the word `w` fetched by core `k`, `imm` being the word after it; none where the word is ILLEGAL (R127 to R131). -/
def spelled (k : CoreSel) (w imm : Word) : Option Instr :=
  let n := w.toNat
  let m := bits n 31 26
  let x : Slot := ⟨k, qAt n 24⟩
  if wordOk n then
    if m ≤ 0x07 then rrrWord x m n
    else if m ≤ 0x0F then rriWord x m n
    else if m ≤ 0x1C then lsWord x m n
    else if m ≤ 0x22 then brWord k m n
    else if m ≤ 0x28 then vecWord x m n
    else if m ≤ 0x2D then phWord x m n
    else if m ≤ 0x33 then xcWord x m n
    else if m = 0x38 then evWord x n
    else longWord x n imm
  else none

end Sys2Proof.Machine
end

