-- ==== Sys2Proof/Machine/Trig.lean ====
section
/-! DEFINITION. The trig unit's values (R102): the exact sine is bracketed by a fixed-point series, and what is delivered is any value
within 2^-24 of it. -/

namespace Sys2Proof.Machine

/-- ⌊2^64 · π / 2⌋. -/
def halfPi64 : Nat := 28976077832308491369

/-- The sine series' terms from `t` on, for `x2 = x²` in units of 2^-64: `k` counts the factors already divided by. -/
def sinTerms (x2 : Nat) : Nat → Nat → Nat → Int
  | 0, _, _ => 0
  | n + 1, k, t => (t : Int) - sinTerms x2 n (k + 2) (t * x2 / 2 ^ 64 / ((k + 1) * (k + 2)))

/-- The sine of `f / 2^62` quarter turns, `f ≤ 2^62`, in units of 2^-64. -/
def sinQuarter (f : Nat) : Int :=
  let x := f * halfPi64 / 2 ^ 62
  sinTerms (x * x / 2 ^ 64) 14 1 x

/-- The sine of a phase in units of 2^-64, within 2^-55. -/
def sinRef (p : BitVec 64) : Int :=
  let f := p.toNat % 2 ^ 62
  match p.toNat / 2 ^ 62 with
  | 0 => sinQuarter f
  | 1 => sinQuarter (2 ^ 62 - f)
  | 2 => -(sinQuarter f)
  | _ => -(sinQuarter (2 ^ 62 - f))

/-- The lane's exact value as a sine: 0 sin, 1 cos, 2 −sin. -/
def trigPhase (p : BitVec 64) (lane : Nat) : BitVec 64 :=
  match lane with
  | 0 => p
  | 1 => p + 0x4000000000000000
  | _ => p + 0x8000000000000000

/-- The unit's tolerance, 2^-24 less the reference's own error, in units of 2^-64 (R102). -/
def trigTol : Nat := 2 ^ 40 - 2 ^ 10

/-- What the trig unit delivers for a lane (R102): its own word where that lies within the tolerance, else the nearest one; the Q1.31
form of exactly ±1 is ±(1 − 2^-31). -/
def trigValue (p : BitVec 64) (lane : Nat) (q : Bool) : Word :=
  let ph := trigPhase p lane
  let ref := sinRef ph
  let w := Config.trigWord p lane q
  if q then
    if ph = 0x4000000000000000 then 0x7FFFFFFF
    else if ph = 0xC000000000000000 then 0x80000001
    else if (w.toInt * 2 ^ 33 - ref).natAbs ≤ trigTol then w
    else (satWord flNone (rneShift ref 33)).val
  else
    match FVal.ofWord w with
    | .fin x m =>
      if ((FVal.fin x m).int - ref * 2 ^ 85).natAbs ≤ trigTol * 2 ^ 85 then w else (fpOfInt ref (-64) false).val
    | _ => (fpOfInt ref (-64) false).val

end Sys2Proof.Machine
end

