-- ==== Sys2Proof/Machine/Float.lean ====
section
/-! DEFINITION. The scalar fp32, divide, square root, compare and conversion instructions (R136). -/

namespace Sys2Proof.Machine

/-- An instruction of the divide unit: 8 cycles, and the unit accepts the next 8 cycles after this one issues (R90, R91). -/
def divOp (x : Slot) (d : Fin 32) (reads : List Nat) (f : Core → Res) (s : State) : State :=
  runCore x.toCoreSel 4 { reads := kQ x.pred.val :: reads, writes := [kS d.val], lat := 8, div := true } (fun c =>
    if c.on x.pred.val then (c.setS d.val (f c).val).flag (f c).fl else c) s

def fcmpOp (x : Slot) (d : Fin 4) (a b : Fin 32) (r : FRel) (s : State) : State :=
  compareOp x d [kS a.val, kS b.val] 3 (fun c => fpCompare r (c.rs a.val) (c.rs b.val)) s

def execFadd (x : Slot) (d a b : Fin 32) (s : State) : Out := .next (qOp2 x d a b 3 fpAdd s)
def execFsub (x : Slot) (d a b : Fin 32) (s : State) : Out := .next (qOp2 x d a b 3 fpSub s)
def execFmul (x : Slot) (d a b : Fin 32) (s : State) : Out := .next (qOp2 x d a b 3 fpMul s)
def execFma (x : Slot) (d a b : Fin 32) (s : State) : Out := .next (qOp3 x d a b 4 (fpFma Config.fmaQnanInv) s)
def execFms (x : Slot) (d a b : Fin 32) (s : State) : Out := .next (qOp3 x d a b 4 (fpFms Config.fmaQnanInv) s)
def execFmin (x : Slot) (d a b : Fin 32) (s : State) : Out := .next (qOp2 x d a b 3 fpMin s)
def execFmax (x : Slot) (d a b : Fin 32) (s : State) : Out := .next (qOp2 x d a b 3 fpMax s)

/-- The sign-bit operations act bit for bit (R136). -/
def signFlip (w : Word) : Word := w ^^^ 0x80000000
def signClear (w : Word) : Word := w &&& 0x7FFFFFFF

def execFneg (x : Slot) (d a : Fin 32) (s : State) : Out := .next (qOp1 x d a 1 (fun u => ⟨signFlip u, flNone⟩) s)
def execFabs (x : Slot) (d a : Fin 32) (s : State) : Out := .next (qOp1 x d a 1 (fun u => ⟨signClear u, flNone⟩) s)
def execFdiv (x : Slot) (d a b : Fin 32) (s : State) : Out :=
  .next (divOp x d [kS a.val, kS b.val] (fun c => fpDiv (c.rs a.val) (c.rs b.val)) s)
def execFsqrt (x : Slot) (d a : Fin 32) (s : State) : Out := .next (divOp x d [kS a.val] (fun c => fpSqrt (c.rs a.val)) s)
def execFceq (x : Slot) (d : Fin 4) (a b : Fin 32) (s : State) : Out := .next (fcmpOp x d a b .eq s)
def execFcne (x : Slot) (d : Fin 4) (a b : Fin 32) (s : State) : Out := .next (fcmpOp x d a b .ne s)
def execFclt (x : Slot) (d : Fin 4) (a b : Fin 32) (s : State) : Out := .next (fcmpOp x d a b .lt s)
def execFcle (x : Slot) (d : Fin 4) (a b : Fin 32) (s : State) : Out := .next (fcmpOp x d a b .le s)
def execFcun (x : Slot) (d : Fin 4) (a b : Fin 32) (s : State) : Out := .next (fcmpOp x d a b .un s)
def execF2q (x : Slot) (d a : Fin 32) (s : State) : Out := .next (qOp1 x d a 3 f2q s)
def execQ2f (x : Slot) (d a : Fin 32) (s : State) : Out := .next (qOp1 x d a 3 q2f s)
def execF2i (x : Slot) (d a : Fin 32) (s : State) : Out := .next (qOp1 x d a 3 f2i s)
def execI2f (x : Slot) (d a : Fin 32) (s : State) : Out := .next (qOp1 x d a 3 i2f s)

end Sys2Proof.Machine
end

