-- ==== Sys2Proof/Machine/Vector.lean ====
section
/-! DEFINITION. The vector instructions: lane by lane under the governing predicate (R96, R137), and the moves and reductions (R138). -/

namespace Sys2Proof.Machine

/-- Write each lane of vector `d` whose predicate bit is 1, with that lane's flags (R96). -/
def Core.laneWrite (c : Core) (q d : Nat) (f : Nat → Res) : Core :=
  (List.range 4).foldl (fun k l => if c.lane q l then (k.setV d l (f l).val).flag (f l).fl else k) c

/-- A vector instruction with a vector destination. -/
def vecOp (x : Slot) (d : Fin 8) (reads : List Nat) (lat : Nat) (f : Core → Nat → Res) (s : State) : State :=
  runCore x.toCoreSel 4 { reads := kQ x.pred.val :: reads, writes := [kV d.val], lat := lat } (fun c =>
    c.laneWrite x.pred.val d.val (f c)) s

/-- Two vector sources. -/
def vvOp (x : Slot) (d a b : Fin 8) (lat : Nat) (f : Word → Word → Res) (s : State) : State :=
  vecOp x d [kV a.val, kV b.val] lat (fun c l => f (c.rv a.val l) (c.rv b.val l)) s

/-- Two vector sources and the destination as the third. -/
def vvAcc (x : Slot) (d a b : Fin 8) (lat : Nat) (f : Word → Word → Word → Res) (s : State) : State :=
  vecOp x d [kV d.val, kV a.val, kV b.val] lat (fun c l => f (c.rv d.val l) (c.rv a.val l) (c.rv b.val l)) s

/-- A vector and a scalar source (R137: the scalar is the same in all lanes). -/
def vsOp (x : Slot) (d a : Fin 8) (r : Fin 32) (lat : Nat) (f : Word → Word → Res) (s : State) : State :=
  vecOp x d [kV a.val, kS r.val] lat (fun c l => f (c.rv a.val l) (c.rs r.val)) s

def vsAcc (x : Slot) (d a : Fin 8) (r : Fin 32) (lat : Nat) (f : Word → Word → Word → Res) (s : State) : State :=
  vecOp x d [kV d.val, kV a.val, kS r.val] lat (fun c l => f (c.rv d.val l) (c.rv a.val l) (c.rs r.val)) s

/-- One vector source. -/
def vOp1 (x : Slot) (d a : Fin 8) (lat : Nat) (f : Word → Res) (s : State) : State :=
  vecOp x d [kV a.val] lat (fun c l => f (c.rv a.val l)) s

/-- A vector compare: each lane of the predicate where the governing lane is 1, with that lane's flags (R95, R134). -/
def vcmpOp (x : Slot) (d : Fin 4) (a b : Fin 8) (lat : Nat) (f : Word → Word → Bool × FlagSet) (s : State) : State :=
  runCore x.toCoreSel 4 { reads := [kQ x.pred.val, kV a.val, kV b.val], writes := [kQ d.val], lat := lat } (fun c =>
    let r := fun l => f (c.rv a.val l) (c.rv b.val l)
    let v : BitVec 4 := (List.range 4).foldl (fun v l => if (r l).1 then v ||| BitVec.ofNat 4 (2 ^ l) else v) 0
    let c' := c.setQ d.val v (c.rq x.pred.val)
    (List.range 4).foldl (fun k l => if c.lane x.pred.val l then k.flag (r l).2 else k) c') s

/-- A result without flags. -/
def plain (w : Word) : Res := ⟨w, flNone⟩

/-! ### Integer, Q1.31 and fp32 lanes (R137) -/

def execVadd (x : Slot) (d a b : Fin 8) (s : State) : Out := .next (vvOp x d a b 1 (fun u v => plain (u + v)) s)
def execVsub (x : Slot) (d a b : Fin 8) (s : State) : Out := .next (vvOp x d a b 1 (fun u v => plain (u - v)) s)
def execVand (x : Slot) (d a b : Fin 8) (s : State) : Out := .next (vvOp x d a b 1 (fun u v => plain (u &&& v)) s)
def execVor (x : Slot) (d a b : Fin 8) (s : State) : Out := .next (vvOp x d a b 1 (fun u v => plain (u ||| v)) s)
def execVxor (x : Slot) (d a b : Fin 8) (s : State) : Out := .next (vvOp x d a b 1 (fun u v => plain (u ^^^ v)) s)
def execVmul (x : Slot) (d a b : Fin 8) (s : State) : Out := .next (vvOp x d a b 2 (fun u v => plain (u * v)) s)
def execVshl (x : Slot) (d a : Fin 8) (r : Fin 32) (s : State) : Out := .next (vsOp x d a r 1 (fun u v => plain (u <<< (v.toNat % 32))) s)
def execVsar (x : Slot) (d a : Fin 8) (r : Fin 32) (s : State) : Out := .next (vsOp x d a r 1 (fun u v => plain (u.sshiftRight (v.toNat % 32))) s)
def execVqadd (x : Slot) (d a b : Fin 8) (s : State) : Out := .next (vvOp x d a b 1 qAdd s)
def execVqsub (x : Slot) (d a b : Fin 8) (s : State) : Out := .next (vvOp x d a b 1 qSub s)
def execVqneg (x : Slot) (d a : Fin 8) (s : State) : Out := .next (vOp1 x d a 1 qNeg s)
def execVqabs (x : Slot) (d a : Fin 8) (s : State) : Out := .next (vOp1 x d a 1 qAbs s)
def execVqmul (x : Slot) (d a b : Fin 8) (s : State) : Out := .next (vvOp x d a b 2 qMul s)
def execVqmac (x : Slot) (d a b : Fin 8) (s : State) : Out := .next (vvAcc x d a b 2 qMac s)
def execVqmuls (x : Slot) (d a : Fin 8) (r : Fin 32) (s : State) : Out := .next (vsOp x d a r 2 qMul s)
def execVqmacs (x : Slot) (d a : Fin 8) (r : Fin 32) (s : State) : Out := .next (vsAcc x d a r 2 qMac s)
def execVfadd (x : Slot) (d a b : Fin 8) (s : State) : Out := .next (vvOp x d a b 3 fpAdd s)
def execVfsub (x : Slot) (d a b : Fin 8) (s : State) : Out := .next (vvOp x d a b 3 fpSub s)
def execVfmul (x : Slot) (d a b : Fin 8) (s : State) : Out := .next (vvOp x d a b 3 fpMul s)
def execVfma (x : Slot) (d a b : Fin 8) (s : State) : Out := .next (vvAcc x d a b 4 (fpFma Config.fmaQnanInv) s)
def execVfmuls (x : Slot) (d a : Fin 8) (r : Fin 32) (s : State) : Out := .next (vsOp x d a r 3 fpMul s)
def execVfmas (x : Slot) (d a : Fin 8) (r : Fin 32) (s : State) : Out := .next (vsAcc x d a r 4 (fpFma Config.fmaQnanInv) s)
def execVfneg (x : Slot) (d a : Fin 8) (s : State) : Out := .next (vOp1 x d a 1 (fun u => plain (signFlip u)) s)
def execVfabs (x : Slot) (d a : Fin 8) (s : State) : Out := .next (vOp1 x d a 1 (fun u => plain (signClear u)) s)
def execVfmin (x : Slot) (d a b : Fin 8) (s : State) : Out := .next (vvOp x d a b 3 fpMin s)
def execVfmax (x : Slot) (d a b : Fin 8) (s : State) : Out := .next (vvOp x d a b 3 fpMax s)
def execVq2f (x : Slot) (d a : Fin 8) (s : State) : Out := .next (vOp1 x d a 3 q2f s)
def execVf2q (x : Slot) (d a : Fin 8) (s : State) : Out := .next (vOp1 x d a 3 f2q s)
def execVf2i (x : Slot) (d a : Fin 8) (s : State) : Out := .next (vOp1 x d a 3 f2i s)
def execVi2f (x : Slot) (d a : Fin 8) (s : State) : Out := .next (vOp1 x d a 3 i2f s)
def execVceq (x : Slot) (d : Fin 4) (a b : Fin 8) (s : State) : Out := .next (vcmpOp x d a b 1 (fun u v => (u == v, flNone)) s)
def execVclt (x : Slot) (d : Fin 4) (a b : Fin 8) (s : State) : Out := .next (vcmpOp x d a b 1 (fun u v => (u.slt v, flNone)) s)
def execVcltu (x : Slot) (d : Fin 4) (a b : Fin 8) (s : State) : Out := .next (vcmpOp x d a b 1 (fun u v => (u.ult v, flNone)) s)
def execVfceq (x : Slot) (d : Fin 4) (a b : Fin 8) (s : State) : Out := .next (vcmpOp x d a b 3 (fpCompare .eq) s)
def execVfclt (x : Slot) (d : Fin 4) (a b : Fin 8) (s : State) : Out := .next (vcmpOp x d a b 3 (fpCompare .lt) s)
def execVfcle (x : Slot) (d : Fin 4) (a b : Fin 8) (s : State) : Out := .next (vcmpOp x d a b 3 (fpCompare .le) s)

/-! ### Move and reduce (R138) -/

def execVbcast (x : Slot) (d : Fin 8) (r : Fin 32) (s : State) : Out :=
  .next (vecOp x d [kS r.val] 1 (fun c _ => plain (c.rs r.val)) s)

/-- Governed by the named lane's own predicate bit. -/
def execVins (x : Slot) (d : Fin 8) (r : Fin 32) (lane : Fin 4) (s : State) : Out :=
  .next (runCore x.toCoreSel 4 { reads := [kQ x.pred.val, kS r.val, kV d.val], writes := [kV d.val] } (fun c =>
    if c.lane x.pred.val lane.val then c.setV d.val lane.val (c.rs r.val) else c) s)

def execVext (x : Slot) (r : Fin 32) (a : Fin 8) (lane : Fin 4) (s : State) : Out :=
  .next (scalarOp x r [kV a.val] 1 (fun c => plain (c.rv a.val lane.val)) s)

/-- Lanes placed from the lanes of one source. -/
def placeOp (x : Slot) (d a : Fin 8) (from_ : Nat → Nat) (s : State) : State :=
  vecOp x d [kV a.val] 1 (fun c l => plain (c.rv a.val (from_ l))) s

def execVmov (x : Slot) (d a : Fin 8) (s : State) : Out := .next (placeOp x d a (fun l => l) s)
def execVdup2 (x : Slot) (d a : Fin 8) (s : State) : Out := .next (placeOp x d a (fun l => l % 2) s)
def execVswap (x : Slot) (d a : Fin 8) (s : State) : Out := .next (placeOp x d a (fun l => l / 2 * 2 + (1 - l % 2)) s)

/-- The sum of four lanes, pairs first, each sum rounded, with the flags of all three sums. -/
def hadd4 (c : Core) (a : Nat) : Res :=
  let p := fpAdd (c.rv a 0) (c.rv a 1)
  let q := fpAdd (c.rv a 2) (c.rv a 3)
  let r := fpAdd p.val q.val
  ⟨r.val, p.fl ||| q.fl ||| r.fl⟩

/-- The sum of the pair that lane `l` lies in. -/
def pairSum (f : Word → Word → Res) (c : Core) (a l : Nat) : Res := f (c.rv a (l / 2 * 2)) (c.rv a (l / 2 * 2 + 1))

def execVfhadd4 (x : Slot) (d a : Fin 8) (s : State) : Out := .next (vecOp x d [kV a.val] 5 (fun c _ => hadd4 c a.val) s)
def execVfhadd2 (x : Slot) (d a : Fin 8) (s : State) : Out :=
  .next (vecOp x d [kV a.val] 5 (fun c l => pairSum fpAdd c a.val l) s)
def execVqhadd2 (x : Slot) (d a : Fin 8) (s : State) : Out :=
  .next (vecOp x d [kV a.val] 5 (fun c l => pairSum qAdd c a.val l) s)

end Sys2Proof.Machine
end

