-- ==== Sys2Proof/Machine/PhaseTrig.lean ====
section
/-! DEFINITION. The phase and trig instructions (R139, R140): lane 0 of the governing predicate for a scalar or phase result, each lane's
own bit for a rotor. -/

namespace Sys2Proof.Machine

/-- A phase result, under lane 0 of the predicate (R139). -/
def phaseOp (x : Slot) (d : Fin 4) (reads : List Nat) (lat : Nat) (f : Core → BitVec 64 × FlagSet) (s : State) : State :=
  runCore x.toCoreSel 4 { reads := kQ x.pred.val :: reads, writes := [kP d.val], lat := lat } (fun c =>
    if c.on x.pred.val then (c.setPh d.val (f c).1).flag (f c).2 else c) s

def execPadd (x : Slot) (d a b : Fin 4) (s : State) : Out :=
  .next (phaseOp x d [kP a.val, kP b.val] 1 (fun c => (c.rph a.val + c.rph b.val, flNone)) s)
def execPsub (x : Slot) (d a b : Fin 4) (s : State) : Out :=
  .next (phaseOp x d [kP a.val, kP b.val] 1 (fun c => (c.rph a.val - c.rph b.val, flNone)) s)
def execPmov (x : Slot) (d a : Fin 4) (s : State) : Out := .next (phaseOp x d [kP a.val] 1 (fun c => (c.rph a.val, flNone)) s)
def execPpack (x : Slot) (d : Fin 4) (hi lo : Fin 32) (s : State) : Out :=
  .next (phaseOp x d [kS hi.val, kS lo.val] 1 (fun c => (c.rs hi.val ++ c.rs lo.val, flNone)) s)
def execPlo (x : Slot) (d : Fin 32) (a : Fin 4) (s : State) : Out :=
  .next (scalarOp x d [kP a.val] 1 (fun c => plain ((c.rph a.val).setWidth 32)) s)
def execPhi (x : Slot) (d : Fin 32) (a : Fin 4) (s : State) : Out :=
  .next (scalarOp x d [kP a.val] 1 (fun c => plain (((c.rph a.val) >>> 32).setWidth 32)) s)
def execP2f (x : Slot) (d : Fin 32) (a : Fin 4) (s : State) : Out :=
  .next (scalarOp x d [kP a.val] 3 (fun c => p2f (c.rph a.val)) s)
def execF2p (x : Slot) (d : Fin 4) (r : Fin 32) (s : State) : Out :=
  .next (phaseOp x d [kS r.val] 3 (fun c => f2p (c.rs r.val)) s)
def execPdiff (x : Slot) (d : Fin 32) (a b : Fin 4) (s : State) : Out :=
  .next (scalarOp x d [kP a.val, kP b.val] 3 (fun c => p2f (c.rph a.val - c.rph b.val)) s)

def trigOp (x : Slot) (d : Fin 32) (a : Fin 4) (lane : Nat) (q : Bool) (s : State) : State :=
  scalarOp x d [kP a.val] 4 (fun c => plain (trigValue (c.rph a.val) lane q)) s

/-- (cos θ, sin θ, −sin θ, cos θ) (R102). -/
def rotLane (l : Nat) : Nat :=
  match l with
  | 0 => 1
  | 1 => 0
  | 2 => 2
  | _ => 1

def rotOp (x : Slot) (d : Fin 8) (a : Fin 4) (q : Bool) (s : State) : State :=
  vecOp x d [kP a.val] 4 (fun c l => plain (trigValue (c.rph a.val) (rotLane l) q)) s

def execSinF (x : Slot) (d : Fin 32) (a : Fin 4) (s : State) : Out := .next (trigOp x d a 0 false s)
def execCosF (x : Slot) (d : Fin 32) (a : Fin 4) (s : State) : Out := .next (trigOp x d a 1 false s)
def execRotF (x : Slot) (d : Fin 8) (a : Fin 4) (s : State) : Out := .next (rotOp x d a false s)
def execSinQ (x : Slot) (d : Fin 32) (a : Fin 4) (s : State) : Out := .next (trigOp x d a 0 true s)
def execCosQ (x : Slot) (d : Fin 32) (a : Fin 4) (s : State) : Out := .next (trigOp x d a 1 true s)
def execRotQ (x : Slot) (d : Fin 8) (a : Fin 4) (s : State) : Out := .next (rotOp x d a true s)

end Sys2Proof.Machine
end

