-- ==== Sys2Proof/Machine/Control.lean ====
section
/-! DEFINITION. Branches, events and the system instructions (R113, R114, R143, R144), and the fault of an illegal word (R118). -/

namespace Sys2Proof.Machine

/-! ### Branches (R143) -/

/-- The registers that a branch condition tests. -/
def brReads : BrCond → List Nat
  | .al => []
  | .q p => [kQ p.val]
  | .nq p => [kQ p.val]
  | .any p => [kQ p.val]
  | .all p => [kQ p.val]
  | .none p => [kQ p.val]
  | .dec r => [kS r.val]

/-- Is the branch taken? DEC tests the decremented scalar. -/
def brTaken (b : BrCond) (c : Core) : Bool :=
  match b with
  | .al => true
  | .q p => c.lane p.val 0
  | .nq p => !c.lane p.val 0
  | .any p => decide (c.rq p.val ≠ 0)
  | .all p => decide (c.rq p.val = 0xF)
  | .none p => decide (c.rq p.val = 0)
  | .dec r => decide (c.rs r.val - 1 ≠ 0)

/-- DEC's decrement, made whether or not the branch is taken. -/
def brAfter (b : BrCond) (c : Core) : Core :=
  match b with
  | .dec r => c.setS r.val (c.rs r.val - 1)
  | _ => c

def brWrites : BrCond → List Nat
  | .dec r => [kS r.val]
  | _ => []

def jrCond : JrCond → BrCond
  | .al => .al
  | .q p => .q p
  | .nq p => .nq p
  | .any p => .any p
  | .all p => .all p
  | .none p => .none p

/-- A branch: 2 issue cycles taken, 1 not taken; BL's link to s31 only when taken. Where DEC names s31 the link is what a taken BL leaves there, and
an untaken BL does not wait for an earlier writer of s31 (DESIGN CHOICE, assumptions 140 and 141: R143 and R129 do not say). -/
def branchOp (k : CoreSel) (cond : BrCond) (reads : List Nat) (link : Bool) (target : Core → Word) (s : State) : State :=
  fetched k 4 (fun s =>
    let c := s.core k
    let t := brTaken cond c
    let u : Use := { reads := brReads cond ++ reads, writes := brWrites cond ++ (if link && t then [kS 31] else []), occ := if t then 2 else 1 }
    let c1 := (brAfter cond c)
    let c2 := if link && t then c1.setS 31 (c.pc + 4) else c1
    (issueObs k u s).setCore k { (c.book u) with s := c2.s, pc := if t then target c else c.pc + 4 }) s

/-- The branch's own address + 4 × sign-extended off16. -/
def relTarget (off : BitVec 16) (c : Core) : Word := c.pc + (off.signExtend 32) <<< 2

def execB (k : CoreSel) (cond : BrCond) (off : BitVec 16) (s : State) : Out :=
  .next (branchOp k cond [] false (relTarget off) s)
def execBl (k : CoreSel) (cond : BrCond) (off : BitVec 16) (s : State) : Out :=
  .next (branchOp k cond [] true (relTarget off) s)
def execJr (k : CoreSel) (cond : JrCond) (rs : Fin 32) (s : State) : Out :=
  .next (branchOp k (jrCond cond) [kS rs.val] false (fun c => c.rs rs.val &&& 0xFFFFFFFC) s)

/-! ### Events -/

/-- The wait latches of what the core runs: the boot run's own, or its task's (R153, R156). -/
def State.waitLatch (s : State) (k : CoreSel) (ev : Nat) : Bool :=
  if s.curTask k = 0xFF then (s.core k).bootWait.getLsbD ev else (s.task k.peak (s.curTask k)).wait.getLsbD ev

/-- Consume a wait latch. -/
def consumeLatch (k : CoreSel) (ev : Nat) (s : State) : State :=
  let m : BitVec 256 := ~~~(BitVec.ofNat 256 (2 ^ ev))
  if s.curTask k = 0xFF then
    let c := s.core k
    s.setCore k { c with bootWait := c.bootWait &&& m }
  else
    let t := s.task k.peak (s.curTask k)
    s.setTask k.peak (s.curTask k) { t with wait := t.wait &&& m }

/-- WAIT (R114): consumes the event if it has fired since it was last consumed, else the core waits; in a summit task a fault that
goes on as if the event had been consumed (R119). -/
def execWait (k : CoreSel) (ev : BitVec 8) (s : State) : Out :=
  .next (fetched k 4 (fun s =>
    if s.inSummit k then passCore k 4 { reads := [], occ := 2 } (coreFault k 7 0 s)
    else if s.waitLatch k ev.toNat then passCore k 4 { reads := [], occ := 2 } (consumeLatch k ev.toNat s)
    else
      let c := s.core k
      (issueObs k { reads := [] } s).setCore k { (c.book { reads := [] }) with waitFor := some ev }) s)

/-- The event reaches a waiting task: its latch is consumed and the next instruction issues 20 cycles on (R114). -/
def execWaitResume (k : CoreSel) (s : State) : Out :=
  .next (match (s.core k).waitFor with
    | none => s
    | some ev =>
      if s.waitLatch k ev.toNat then
        let s := consumeLatch k ev.toNat s
        let c := s.core k
        s.setCore k { c with waitFor := none, pc := c.pc + 4, issue := s.runCycle k + 20 }
      else s)

/-- An illegal word (R118): in a summit task it takes one issue cycle and has no effect (R119). -/
def illegal (k : CoreSel) (s : State) : State :=
  if s.inSummit k then passCore k 4 { reads := [] } (coreFault k 1 0 s) else coreFault k 1 0 s

/-- A fetched word that is no defined instruction (R127, R128, R131); of a defined one this command has nothing to say. -/
def execIllegalWord (x : CoreWord) (s : State) : Out :=
  .next (if (spelled x.core x.word 0).isSome then s else fetched x.core 4 (illegal x.core) s)

/-- SIGNAL (R114, R144): only the software-raised events have an encoding; the event reaches the matrix 4 core cycles after issue. -/
def execSignal (x : Slot) (ev : BitVec 8) (s : State) : Out :=
  .next (fetched x.toCoreSel 4 (fun s =>
    if isSoftEvent ev.toNat then
      let c := s.core x.toCoreSel
      let u : Use := { reads := [kQ x.pred.val] }
      let s := passCore x.toCoreSel 4 u s
      if c.on x.pred.val then s.signal x.peak (c.runBase + c.issueAt u + 4) ev.toNat else s
    else illegal x.toCoreSel s) s)

/-- END (R113): the run ends; the cycle monitor checks a summit run's count (R161). -/
def execEndTask (k : CoreSel) (s : State) : Out :=
  .next (fetched k 4 (fun s =>
    let n := s.curTask k
    let t := (s.core k).issueAt { reads := [] }
    let s := passCore k 4 { reads := [] } s
    let s := if s.inSummit k && decide (t ≠ (s.task k.peak n).cert.cEnd) && !(s.task k.peak n).endMissed then
        monitorViolation k.peak n 2 t s else s
    endInstance k s) s)

/-- FENCE (R108): it waits at issue until the store buffer is empty and every shadow store has completed its handshake, whatever its
predicate holds, and takes one cycle more. -/
def execFence (x : Slot) (s : State) : Out :=
  .next (fetched x.toCoreSel 4 (fun s =>
    let c := s.core x.toCoreSel
    if c.buf.isEmpty && c.shadows.isEmpty then
      passCore x.toCoreSel 4 { reads := [kQ x.pred.val], after := c.doneAt } s else s) s)

end Sys2Proof.Machine
end

