-- ==== Sys2Proof/Machine/Traverse.lean ====
section
/-! DEFINITION. Traverse (R148 to R173): loading, unloading and replacing tasks, dispatch, deadlines, frames and the cycle monitor. -/

namespace Sys2Proof.Machine

/-- A unit that was tested and did not pass is retired (R81, R87). -/
def State.retired (s : State) (p : PeakId) (word bit_ : Nat) : Bool :=
  decide (bits (s.reg p (Reg.bstDone word)) bit_ bit_ = 1) && decide (bits (s.reg p (Reg.bstPass word)) bit_ bit_ = 0)

/-- Input i is retired: its Couloir chain, its converter pair, or its bank's check DAC and reference (R81). -/
def State.inputRetired (s : State) (p : PeakId) (i : Nat) : Bool :=
  s.retired p (1 + i / 32) (i % 32) || s.retired p (3 + i / 32) (i % 32) || s.retired p 5 (i / 8)

/-! ### The load checks (R157, R158) -/

/-- The certificate at an address of the Peak's control SRAM, none where it is not read (R157). -/
def readCert (p : PeakId) (a : Nat) (s : State) : Option Cert :=
  if a % 16 = 0 ∧ 0x10000000 ≤ a ∧ a + 48 ≤ 0x10200000 then
    let w := fun o => s.bytes (peakKey p (a + o)) 4
    if w 0 = 0x43594247 ∧ w 4 = 1 ∧ w 0x2C = crc32 (s.byteList (peakKey p a) 0x2C) then
      some { codeAddr := w 8, codeLen := w 0xC, codeCrc := w 0x10, cStore := w 0x14, cEnd := w 0x18 }
    else none
  else none

/-- The code bytes of a certificate in the core's ITCM. -/
def State.codeBytes (s : State) (k : CoreSel) (c : Cert) : List Byte := s.byteList (tcmKey k c.codeAddr) c.codeLen

/-- Checks 6 to 12 of R158 for a summit task, with the entry and certificate address given; 0 where all pass. -/
def summitChecks (p : PeakId) (n : Nat) (entry certAddr : Nat) (s : State) : Nat × Cert :=
  let tb := s.fld p (Fd.trvTaskCfgTb n)
  let prd := s.fld p (Fd.pwmTbPrdPrd tb)
  let l := s.reg p (Reg.trvTaskTiming n)
  let i := s.fld p (Fd.trvTaskCfgEvent n) - 16
  let k := s.taskCore p n
  if s.fld p Fd.clkStatusCurN ≠ 160 ∨ s.fld p Fd.clkStatusStepping = 1 then (0x9, {})
  else if l < 400 ∨ prd + 1 < l ∨ s.inputRetired p i = true ∨ s.fld p (Fd.cirqInTrigEn i) = 0 ∨ s.fld p (Fd.cirqInTrigTb i) ≠ tb ∨
      s.fld p (Fd.cirqInTrigDelay i) + l ≠ prd + 1 then (0xA, {})
  else match readCert p certAddr s with
    | none => (0x5, {})
    | some c =>
      if c.codeAddr % 4 ≠ 0 ∨ c.codeLen % 4 ≠ 0 ∨ c.codeLen < 8 ∨ 65536 < c.codeLen ∨ 0x10000 < c.codeAddr + c.codeLen then (0x5, {})
      else if crc32 (s.codeBytes k c) ≠ c.codeCrc ∨ entry < c.codeAddr ∨ c.codeAddr + c.codeLen ≤ entry then (0x6, {})
      else if summitCodeOk (s.wordList (tcmKey k c.codeAddr) (c.codeLen / 4)) = false then (0x7, {})
      else
        let rdg := s.bytes (peakKey p (certAddr + 0x1C)) 4
        let swb := s.bytes (peakKey p (certAddr + 0x20)) 8
        let bound := s.reg p (Reg.trvTaskBindSwbLo n) + 2 ^ 32 * s.reg p (Reg.trvTaskBindSwbHi n)
        if Nat.land rdg (s.reg p (Reg.trvTaskBindRdg n)) ≠ rdg ∨ Nat.land swb bound ≠ swb then (0x4, {})
        else if (c.cStore ≠ 0xFFFFFFFF ∧ 5 * l < 2 * c.cStore + 490) ∨ 5 * (prd + 1) < 2 * c.cEnd + 82 then (0x8, {})
        else (0, c)

/-- Does the core hold or run what forbids a load (R149)? -/
def coreTaken (p : PeakId) (n : Nat) (s : State) : Bool :=
  let k := s.taskCore p n
  let onCore := (s.loaded p).filter (fun m => decide ((s.taskCore p m).core = k.core))
  s.retired p 0 k.core.val || onCore.any isSummit || (isSummit n && (!onCore.isEmpty || s.inBootRun k))

/-- Is a bound unit retired, or bound by a task on another core (check 3 of R158)? -/
def bindClash (p : PeakId) (n : Nat) (s : State) : Bool :=
  let rdg := s.reg p (Reg.trvTaskBindRdg n)
  let swb := fun m => s.reg p (Reg.trvTaskBindSwbLo m) + 2 ^ 32 * s.reg p (Reg.trvTaskBindSwbHi m)
  (List.range 8).any (fun e => decide (bits rdg e e = 1) && s.retired p 0 (8 + e)) ||
  (s.loaded p).any (fun m => decide ((s.taskCore p m).core ≠ (s.taskCore p n).core) &&
    (decide (Nat.land rdg (s.reg p (Reg.trvTaskBindRdg m)) ≠ 0) || decide (Nat.land (swb n) (swb m) ≠ 0)))

/-- The load checks in order (R158): the first failure's code, or 0 and the certificate. -/
def loadChecks (p : PeakId) (n : Nat) (s : State) : Nat × Cert :=
  let ev := s.fld p (Fd.trvTaskCfgEvent n)
  let timing := s.reg p (Reg.trvTaskTiming n)
  if (isSummit n && decide (4 ≤ ((s.loaded p).filter isSummit).length)) || (isControl n && decide (64 ≤ ((s.loaded p).filter isControl).length)) ||
      (isFrame n && decide (16 ≤ ((s.loaded p).filter isFrame).length)) then (0xE, {})
  else if coreTaken p n s then (0x3, {})
  else if bindClash p n s then (0x4, {})
  else if (isSummit n && (decide (ev < 16) || decide (63 < ev))) || (isControl n && decide (135 ≤ ev) && decide (ev ≤ 191)) ||
      (isFrame n && decide (ev ≠ 0)) then (0xB, {})
  else if isControl n && (decide (timing = 0) || decide (0xFFFFF < timing)) then (0xC, {})
  else if isFrame n && (decide (0xFFFF < timing) || decide (s.frameLen p n < 40000) || decide (40000000 < s.frameLen p n)) then (0xD, {})
  else if isSummit n then summitChecks p n (s.reg p (Reg.trvTaskEntry n)) (s.reg p (Reg.trvTaskCert n)) s
  else (0, {})

/-! ### Commands (R159, R170, R171) -/

/-- A command begins. -/
def trvBegin (p : PeakId) (c : TrvCmd) (s : State) : State :=
  let s := s.setPeak p { s.peak p with trvCmd := some c }
  ((s.setFld p Fd.trvCmdStatusBusy 1).setFld p Fd.trvCmdStatusTask c.task).setFld p Fd.trvCmdStatusResult 0

/-- A write of TRV.CMD. The load checks are judged here, on the descriptor as it stands; NEXT_ENTRY, NEXT_CERT and REPLACE_AT are captured here;
and an UNLOAD or a REPLACE of a task that is not loaded ends here with RESULT 0x2 and its EV_CMD_DONE (DESIGN CHOICE, assumptions 137 to 139: R158,
R171 and R170 do not say). -/
def trvCommand (p : PeakId) (op n : Nat) (s : State) : State :=
  if op = 0 then s
  else if s.bit p Fd.trvCmdStatusBusy then
    ((s.setFld p Fd.trvCmdStatusTask n).setFld p Fd.trvCmdStatusResult 1).raise p Fd.trvFlagsCmdDiscarded
  else if taskNumbers.contains n = false then (s.setFld p Fd.trvCmdStatusTask n).setFld p Fd.trvCmdStatusResult 2
  else if op = 1 then
    if s.bit p (Fd.trvTaskStatLoaded n) then trvBegin p { op := 1, task := n, code := 2 } s
    else
      let r := loadChecks p n s
      trvBegin p { op := 1, task := n, code := r.1, cert := r.2 } s
  else if s.bit p (Fd.trvTaskStatLoaded n) = false then trvDone p n 2 s
  else if op = 2 then
    if s.bit p (Fd.trvTaskStatRunning n) then
      trvBegin p { op := 2, task := n } (s.setTask p n { s.task p n with unloadAtEnd := true })
    else trvDone p n 0 (unloadTask p n s)
  else
    let entry := BitVec.ofNat 32 (s.reg p Reg.trvNextEntry)
    let ca := BitVec.ofNat 32 (s.reg p Reg.trvNextCert)
    let at_ := s.reg p Reg.trvReplaceAt
    let r := if isSummit n then Repl.checking entry ca at_ else Repl.armed entry {} ca at_
    let s := s.setTask p n { s.task p n with repl := r }
    trvRefresh p (trvBegin p { op := 3, task := n } (s.setFld p (Fd.trvTaskStatReplacePending n) 1))

/-- Does the Peak run at N = 160 with no change in progress, as a summit load asks (R48)? -/
def fullSpeed (p : PeakId) (s : State) : Bool := decide (s.fld p Fd.clkStatusCurN = 160) && !s.bit p Fd.clkStatusStepping

/-- A load ends (R159): a sound task is loaded with clear wait latches (R153). A summit task loads only at full speed, at the end of its load
too (R48). -/
def loadComplete (p : PeakId) (s : State) : State :=
  match (s.peak p).trvCmd with
  | some c =>
    if c.op = 1 then
      let c := if c.code = 0 ∧ isSummit c.task = true ∧ fullSpeed p s = false then { c with code := 9 } else c
      let s := if c.code = 0 then
          trvRefresh p (((s.setReg p (Reg.trvTaskStat c.task) 1).setReg p (Reg.trvTaskLag c.task) 0).setTask p c.task { cert := c.cert })
        else s
      trvDone p c.task c.code s
    else s
  | none => s

/-- A replacement is refused: the old code stays (R171). -/
def replaceRefused (p : PeakId) (n code : Nat) (s : State) : State :=
  let s := s.setTask p n { s.task p n with repl := .none }
  trvDone p n code (trvRefresh p (s.setFld p (Fd.trvTaskStatReplacePending n) 0))

/-- The check of a replacement certificate ends (R171). -/
def replaceChecked (p : PeakId) (s : State) : State :=
  match (s.peak p).trvCmd with
  | some c =>
    match (s.task p c.task).repl with
    | .checking entry ca at_ =>
      let r := summitChecks p c.task entry.toNat ca.toNat s
      if r.1 = 0 then s.setTask p c.task { s.task p c.task with repl := .armed entry r.2 ca at_ }
      else replaceRefused p c.task r.1 s
    | _ => s
  | none => s

/-- The period chosen for a replacement ends: without a start in it the old code stays (R171). -/
def replaceClose (p : PeakId) (s : State) : State :=
  match (s.peak p).trvCmd with
  | some c =>
    match (s.task p c.task).repl with
    | .open_ _ _ _ => replaceRefused p c.task 0xF s
    | _ => s
  | none => s

/-- A wrap of the period timebase: the chosen period opens, a check still running is too late, and a period that brought no start has
passed (R171). -/
def replaceAtWrap (p : PeakId) (s : State) : State :=
  match (s.peak p).trvCmd with
  | some c =>
    match (s.task p c.task).repl with
    | .checking _ _ at_ => if s.periodCount % 2 ^ 32 = at_ then replaceRefused p c.task 0xF s else s
    | .armed entry cert ca at_ =>
      if s.periodCount % 2 ^ 32 = at_ then s.setTask p c.task { s.task p c.task with repl := .open_ entry cert ca } else s
    | .open_ _ _ _ => replaceRefused p c.task 0xF s
    | .none => s
  | none => s

/-- A start in the chosen period takes the replacement (R171). -/
def replaceTake (p : PeakId) (n : Nat) (s : State) : State :=
  match (s.task p n).repl with
  | .open_ entry cert ca =>
    let s := s.setReg p (Reg.trvTaskEntry n) entry.toNat
    let s := if isSummit n then s.setReg p (Reg.trvTaskCert n) ca.toNat else s
    let s := s.setTask p n { s.task p n with repl := .none, cert := cert }
    trvDone p n 0 (trvRefresh p (s.setFld p (Fd.trvTaskStatReplacePending n) 0))
  | _ => s

/-! ### Dispatch (R111, R112, R154) -/

/-- The task that a free core starts: summit, then control, then frame tasks, each class by number. -/
def nextTask (k : CoreSel) (s : State) : Option Nat :=
  (s.loaded k.peak).find? (fun n => s.bit k.peak (Fd.trvTaskStatPending n) && decide (s.taskCore k.peak n = k))

/-- What is still due `d` cycles after the old run's cycle 0, counted from the new run's. -/
def rebase (d : Nat) (t : Tab Nat) : Tab Nat := t.filterMap (fun e => if e.2 ≤ d then none else some (e.1, e.2 - d))

/-- The core as it enters a task or the boot run: cleared sticky flags, pc at the entry, a fresh count of cycles. Results, steps and stores that are
under way stay so (R122, R129). -/
def Core.enter (c : Core) (pc : Word) (base : Nat) : Core :=
  let d := base - c.runBase
  { c with pc := pc, flags := 0, waitFor := none, issue := 0, ready := rebase d c.ready, divFree := c.divFree - d, laneFree := c.laneFree - d
           unitFree := rebase d c.unitFree, freedAt := c.freedAt - d, doneAt := c.doneAt - d, runBase := base }

/-- A task starts (R112). -/
def startTask (k : CoreSel) (n : Nat) (s : State) : State :=
  let p := k.peak
  let s := replaceTake p n s
  let t := s.task p n
  let ev := if isFrame n then Ev.tbWrap s.periodTb else t.latchEv
  let s := s.setFld p (Fd.trvTaskStatPending n) 0
  let s := s.setFld p (Fd.trvTaskStatRunning n) 1
  let s := s.setFld p (Fd.trvTaskStatFaulted n) 0
  let s := s.setBit p (Fd.trvTaskStatLate n) t.latchLate
  let s := s.setTask p n { t with startTick := t.latchTick, late := t.latchLate, latchLate := false, noEnd := false, endMissed := false, ek := none }
  let c := (s.core k).enter (BitVec.ofNat 32 (s.reg p (Reg.trvTaskEntry n)) &&& 0xFFFFFFFC) (max ((s.peak p).cycles64 / 64) ((s.core k).runBase + (s.core k).issue) + 20)
  let s := s.setCore k ((c.setS 1 (BitVec.ofNat 32 ev)).setS 2 (BitVec.ofNat 32 (s.reg p (Reg.trvTaskArg n))))
  let s := s.setFld p (Fd.sysCoreStatusState k.core.val) 1
  let s := s.setFld p (Fd.sysCoreStatusTask k.core.val) n
  let s := s.setBit p (Fd.sysCoreStatusSummit k.core.val) (isSummit n)
  tracePut p 1 (p.num * 2 ^ 27 + k.core.val * 2 ^ 24 + n * 2 ^ 16 + s.stamp) s

def execTaskDispatch (k : CoreSel) (s : State) : Out :=
  .next (if (s.peak k.peak).up && decide (s.fld k.peak (Fd.sysCoreStatusState k.core.val) = 0) && !(s.peak k.peak).held then
      match nextTask k s with
      | some n => startTask k n s
      | none => s
    else s)

/-! ### Deadlines, frames and the monitor -/

/-- A control instance's deadline, TIMING.VALUE ticks after its start event (R164), passes without its END (R165): the running one's, or that of one
still latched. -/
def deadlineExpiry (p : PeakId) (n : Nat) (latched : Bool) (s : State) : State :=
  let t := s.task p n
  let live := isControl n && s.bit p (Fd.trvTaskStatLoaded n) &&
    decide ((if latched then t.latchTick else t.startTick) + s.reg p (Reg.trvTaskTiming n) ≤ s.tick)
  let due := if latched then s.bit p (Fd.trvTaskStatPending n) && !t.latchLate else s.bit p (Fd.trvTaskStatRunning n) && !t.late
  if live && due then
    let s := s.setTask p n (if latched then { t with latchLate := true } else { t with late := true })
    let s := s.setFld p (Fd.trvTaskStatLate n) 1
    let s := s.bump p (Fd.trvTaskMissMisses n) (Fd.trvTaskMissMissSat n)
    fire p Ev.deadlineMiss (s.raise p Fd.trvFlagsDeadlineMiss)
  else s

def execDeadlineExpiry (p : PeakId) (task : BitVec 8) (latched : Bool) (s : State) : Out :=
  .next (deadlineExpiry p task.toNat latched s)

/-- At a start or wrap of the period timebase, a frame task without a series takes B_0 where the period count is a multiple of FRAME_N
(R168); `restart` begins every task's series anew. -/
def frameSeries (p : PeakId) (restart : Bool) (s : State) : State :=
  forAll ((s.loaded p).filter isFrame) (fun n s =>
    let t := s.task p n
    if (restart || t.b0.isNone) && decide (s.periodCount % 2 ^ 32 % (s.reg p (Reg.trvTaskTiming n) % 2 ^ 16) = 0) then
      s.setTask p n { t with b0 := some s.tick, released := false, k := 0, ek := none }
    else s) s

/-- The period timebase stops: no frame is released until it starts again (R168). -/
def frameStop (p : PeakId) (s : State) : State :=
  forAll ((s.loaded p).filter isFrame) (fun n s => s.setTask p n { s.task p n with b0 := none }) s

/-- The next instance of a frame task is released at T_k (R168). The target of a JOIN copy releases none, nor one whose source instance is
still mirrored (R344). -/
def frameRelease (p : PeakId) (n : Nat) (s : State) : State :=
  let t := s.task p n
  if isFrame n && s.bit p (Fd.trvTaskStatLoaded n) && !s.bit p (Fd.trvTaskStatPending n) && !s.bit p (Fd.trvTaskStatRunning n) &&
      s.bit p (Fd.pwmTbStatusRun s.periodTb) && !(s.peak p).held && !s.gdm.mirrored.contains (p.other.num, n) then
    match t.b0 with
    | none => s
    | some b0 =>
      let k := if t.released then t.k + 1 else 0
      let b := b0 + k * s.frameLen p n
      let tk := if t.released then max (t.ek.getD 0) (s.frameBound p n) else max b0 (t.ek.getD 0)
      let lag := min (tk - b) 0xFFFFFFFF
      if s.tick < tk then s else
      let s := s.setTask p n { t with released := true, k := k, tk := tk, latchTick := tk, latchEv := Ev.tbWrap s.periodTb, latchLate := false }
      let s := s.setFld p (Fd.trvTaskStatPending n) 1
      let s := s.setReg p (Reg.trvTaskLag n) lag
      trvRefresh p (s.setBit p (Fd.trvTaskStatCatchup n) (decide (lag ≠ 0)))
  else s

def execFrameRelease (p : PeakId) (task : BitVec 8) (s : State) : Out := .next (frameRelease p task.toNat s)

/-- A summit run passes C_END without its END (R161), or ended by a fetch fault (R119). -/
def summitEndDeadline (k : CoreSel) (s : State) : State :=
  let p := k.peak
  let n := s.curTask k
  let t := s.task p n
  if s.runCycle k ≤ t.cert.cEnd then s
  else if s.inSummit k && !t.endMissed then
    monitorViolation p n 2 t.cert.cEnd (s.setTask p n { t with endMissed := true })
  else if isSummit n && t.noEnd && !t.endMissed then
    monitorViolation p n 2 t.cert.cEnd (s.setTask p n { t with noEnd := false })
  else s

def execSummitEndDeadline (k : CoreSel) (s : State) : Out := .next (summitEndDeadline k s)

/-- The background recheck of loaded summit code against CODE_CRC (R162). -/
def execCodeRecheck (p : PeakId) (task : Fin 4) (s : State) : Out :=
  .next (let n := task.val
    if s.bit p (Fd.trvTaskStatLoaded n) && decide (crc32 (s.codeBytes (s.taskCore p n) (s.task p n).cert) ≠ (s.task p n).cert.codeCrc) then
      monitorViolation p n 4 0 s
    else s)

/-! ### Register accesses with an effect -/

/-- A write of TRV.EV_RAISE (R152): the event reaches the matrix 8 fabric cycles, which are 16 core cycles, after the write. -/
def evRaise (p : PeakId) (ev : Nat) (s : State) : State :=
  if isSoftEvent ev then s.signal p ((s.peak p).cycles64 / 64 + 16) ev else s.raise p Fd.trvFlagsRaiseRefused

/-- A read of FAULT_INFO returns and clears the record (R125). -/
def readFaultInfo (p : PeakId) (c : Nat) (s : State) : Nat × State :=
  (s.reg p (Reg.sysCoreFaultInfo c),
   let s := s.setReg p (Reg.sysCoreFaultInfo c) 0
   let n := s.fld p Fd.sysFaultCore
   s.setFld p Fd.sysFaultCore (n - bits n c c * 2 ^ c))

/-- A read of CYCLES_LO latches CYCLES_HI (R126). -/
def readCyclesLo (k : CoreSel) (s : State) : Nat × State :=
  let n := s.coreCycles k
  (n % 2 ^ 32, s.setReg k.peak (Reg.sysCoreCyclesHi k.core.val) (n / 2 ^ 32))

/-- A read of PERIOD_COUNT_LO latches PERIOD_COUNT_HI (R173). -/
def readPeriodLo (p : PeakId) (s : State) : Nat × State :=
  (s.periodCount % 2 ^ 32, s.setReg p Reg.trvPeriodCountHi (s.periodCount / 2 ^ 32 % 2 ^ 16))

/-- The state with the value that a read returned to its master. -/
def returned (r : Nat × State) : State := { r.2 with readData := BitVec.ofNat 32 r.1 }

def execTaskLoad (m : Master) (task : BitVec 8) (s : State) : Out :=
  .next (if (s.peak m.peak).up then trvCommand m.peak 1 task.toNat s else s)
def execTaskUnload (m : Master) (task : BitVec 8) (s : State) : Out :=
  .next (if (s.peak m.peak).up then trvCommand m.peak 2 task.toNat s else s)
def execTaskReplace (m : Master) (task : BitVec 8) (s : State) : Out :=
  .next (if (s.peak m.peak).up then trvCommand m.peak 3 task.toNat s else s)
def execTaskLoadComplete (p : PeakId) (s : State) : Out := .next (loadComplete p s)
def execReplaceCheckComplete (p : PeakId) (s : State) : Out := .next (replaceChecked p s)
def execEvRaise (m : Master) (val : Word) (s : State) : Out :=
  .next (if (s.peak m.peak).up then evRaise m.peak (val.toNat % 256) s else s)
def execFaultInfoRead (m : Master) (core : Fin 8) (s : State) : Out :=
  .next (if (s.peak m.peak).up then returned (readFaultInfo m.peak core.val s) else s)
def execCyclesRead (m : Master) (core : Fin 8) (s : State) : Out :=
  .next (if (s.peak m.peak).up then returned (readCyclesLo ⟨m.peak, core⟩ s) else s)
def execPeriodCountRead (m : Master) (s : State) : Out :=
  .next (if (s.peak m.peak).up then returned (readPeriodLo m.peak s) else s)

end Sys2Proof.Machine
end

