-- ==== Sys2Proof/Machine/Pll.lean ====
section
/-! DEFINITION. The PLLs as CLK.STATUS shows them (R40 to R45, R56), the supplies of the Peaks (R34, R57) and
crossings toward islands that are down (R38). -/

namespace Sys2Proof.Machine

/-- The VAUX supply of a Peak. -/
def State.vaux (s : State) : PeakId → Bool
  | .a => s.power.vauxA
  | .b => s.power.vauxB

/-- A crossing gives up: the first timeout is recorded (R38). An access records it as it is made (DESIGN CHOICE, assumption 144). -/
def xtoRecord (p : PeakId) (dest addr : Nat) (write : Bool) (s : State) : State :=
  if s.bit p Fd.clkFlagsXto then s
  else
    let s := (s.raise p Fd.clkFlagsXto).setFld p Fd.clkXtoDest dest
    (s.setBit p Fd.clkXtoWrite write).setReg p Reg.clkXtoAddr addr

/-! ### PLLs: 0 and 1 the Peaks', 2 the Saddle's, 3 and 4 the Cirque domains', 5 the network's -/

def State.pll (s : State) (i : Nat) : Pll := Tab.get (fun _ => {}) s.power.plls i
def State.setPll (s : State) (i : Nat) (q : Pll) : State :=
  { s with power := { s.power with plls := Tab.put (fun _ => {}) s.power.plls i q } }

def pllNumbers : List Nat := List.range 6

/-- A PLL's lock as CLK.STATUS shows it. -/
def lockShown (s : State) (i : Nat) : Bool := (s.pll i).locked && !(s.pll i).coast

/-- Is the reference lost now: XIN missing, or REF_BAD? -/
def State.refGone (s : State) : Bool := s.power.missing || !s.power.xin

/-- The Saddle time map is coarse (R404): PLL S coasts with XIN good, and PLL N is not on the substitute. -/
def mapCoarse (s : State) : Bool := (s.pll 2).coast && !s.refGone && !(s.pll 5).subst

/-- Keep CLK.STATUS in step, and CRN.STATUS.MAP_COARSE. COAST and ON_SUBST clear when the last returning PLL reports lock (R44). -/
def clkRefresh (s : State) : State :=
  let any := fun (f : Pll → Bool) => pllNumbers.any (fun i => f (s.pll i))
  let back := any (fun q => q.returning)
  let s := s.setBit .a Fd.crnStatusMapCoarse (mapCoarse s)
  bothPeaks (fun p s =>
    let s := s.setBit p Fd.clkStatusLocked (lockShown s p.num)
    let s := s.setBit p Fd.clkStatusPeerLock (lockShown s p.other.num)
    let s := s.setBit p Fd.clkStatusSLock (lockShown s 2)
    let s := s.setBit p Fd.clkStatusCaLock (lockShown s 3)
    let s := s.setBit p Fd.clkStatusCbLock (lockShown s 4)
    let s := s.setBit p Fd.clkStatusNLock (lockShown s 5)
    let s := s.setBit p Fd.clkStatusCoast (any (fun q => q.coast) || (back && s.bit p Fd.clkStatusCoast))
    let s := s.setBit p Fd.clkStatusOnSubst (any (fun q => q.subst) || (back && s.bit p Fd.clkStatusOnSubst))
    s.setBit p Fd.clkStatusRefLost s.refGone) s

end Sys2Proof.Machine
end

