-- ==== Sys2Proof/Machine/Cirque.lean ====
section
/-! DEFINITION. The Cirque converters (R174 to R199, R472): the sampling grid, relief rotation, diagnostics, validity and the supply domains. -/

namespace Sys2Proof.Machine

/-! ### The baton gate (R20, R25) -/

/-- The baton's holder as PWM.BATON codes it. -/
def State.holder (s : State) : Nat := s.fld .a Fd.pwmBatonHolder

/-- Does the Peak hold the baton, so that its writes to shared blocks take effect? -/
def State.holds (s : State) (p : PeakId) : Bool := (s.peak p).up && decide (s.holder = p.num)

/-! ### Couloir output slots (R202, R203) -/

/-- The word of a slot before its first update: VALID = 0 with the code of the stream that has not run. -/
def slotReset (key : Nat) : Word :=
  match key % 8 with
  | 0 => 0x40
  | 1 => 0x40
  | 2 => 0x50
  | 3 => 0x40
  | 4 => 0x60
  | 5 => 0x70
  | _ => 0

/-- An output word (R202). -/
def outWord (value : Int) (reason : Nat) (clip reph fine : Bool) : Word :=
  BitVec.ofNat 32 (unsigned 24 value * 2 ^ 8 + (if reason = 0 then 2 ^ 7 else 0) + reason % 8 * 2 ^ 4 + (if clip then 8 else 0) +
    (if reph then 4 else 0) + (if fine then 1 else 0))

def wordValue (w : Word) : Int := signed 24 (w.toNat / 2 ^ 8)
def wordValid (w : Word) : Bool := decide (bits w.toNat 7 7 = 1)
def wordReason (w : Word) : Nat := bits w.toNat 6 4
def wordClip (w : Word) : Bool := decide (bits w.toNat 3 3 = 1)
def wordReph (w : Word) : Bool := decide (bits w.toNat 2 2 = 1)

def State.slot (s : State) (p : PeakId) (i k : Nat) : Word := Tab.get slotReset (s.peak p).cln.slots (i * 8 + k)

/-- The effective instant of a slot's value, as a fraction of ticks. -/
def State.slotE (s : State) (p : PeakId) (i k : Nat) : Int × Nat := Tab.get (fun _ => (0, 1)) (s.peak p).cln.instants (i * 8 + k)

def State.setSlot (s : State) (p : PeakId) (i k : Nat) (w : Word) : State :=
  let c := (s.peak p).cln
  s.setPeak p { s.peak p with cln := { c with slots := Tab.put slotReset c.slots (i * 8 + k) w } }

def State.setSlotE (s : State) (p : PeakId) (i k : Nat) (e : Int × Nat) : State :=
  let c := (s.peak p).cln
  s.setPeak p { s.peak p with cln := { c with instants := Tab.put (fun _ => (0, 1)) c.instants (i * 8 + k) e } }

/-- An instant in 1/1024 ticks, in which Talus orders and interpolates instants. -/
def e1024 (e : Int × Nat) : Int := rneDiv (e.1 * 1024) e.2

/-- What a Peak's Couloir keeps of input i. -/
def State.chain (s : State) (p : PeakId) (i : Nat) : Chain := Tab.get (fun _ => {}) (s.peak p).cln.chains i
def State.setChain (s : State) (p : PeakId) (i : Nat) (c : Chain) : State :=
  let k := (s.peak p).cln
  s.setPeak p { s.peak p with cln := { k with chains := Tab.put (fun _ => {}) k.chains i c } }

/-- The Shoulder path of input i restarts in both Peaks (R206); TAG carries SHOULDER_FILL until the first tag after it (R203). -/
def shoulderRestart (i : Nat) (s : State) : State :=
  bothPeaks (fun p s => (s.setChain p i { s.chain p i with shRestart := some s.tick, tag := none }).setSlot p i 1
    (outWord (wordValue (s.slot p i 1)) 4 false false false)) s

/-! ### Access to the Cirque's own state -/

def State.cin (s : State) (i : Nat) : CirqIn := Tab.get (fun _ => {}) s.cirq.ins i
def State.setCin (s : State) (i : Nat) (c : CirqIn) : State :=
  { s with cirq := { s.cirq with ins := Tab.put (fun _ => {}) s.cirq.ins i c } }
def State.rotor (s : State) (d : PeakId) (b : Nat) : Rotor := Tab.get (fun _ => {}) s.cirq.rotors (d.num * 6 + b)
def State.setRotor (s : State) (d : PeakId) (b : Nat) (r : Rotor) : State :=
  { s with cirq := { s.cirq with rotors := Tab.put (fun _ => {}) s.cirq.rotors (d.num * 6 + b) r } }

/-- The fields that a domain's rotor and members have in the registers. -/
def rotState (d : PeakId) (b : Nat) : Fld := match d with | .a => Fd.cirqBankRotAState b | .b => Fd.cirqBankRotBState b
def rotSlot (d : PeakId) (b : Nat) : Fld := match d with | .a => Fd.cirqBankRotASlot b | .b => Fd.cirqBankRotBSlot b
def rotRelief (d : PeakId) (b : Nat) : Fld := match d with | .a => Fd.cirqBankRotARelief b | .b => Fd.cirqBankRotBRelief b
def rotSwaps (d : PeakId) (b : Nat) : Fld := match d with | .a => Fd.cirqBankRotASwaps b | .b => Fd.cirqBankRotBSwaps b
def rotSat (d : PeakId) (b : Nat) : Fld := match d with | .a => Fd.cirqBankRotASat b | .b => Fd.cirqBankRotBSat b
def convFld (d : PeakId) (i : Nat) : Fld := match d with | .a => Fd.cirqInStatusConvA i | .b => Fd.cirqInStatusConvB i
def domFld : PeakId → Fld | .a => Fd.cirqStatusDomAOk | .b => Fd.cirqStatusDomBOk
def matchFld (d : PeakId) (b : Nat) : Fld := match d with | .a => Fd.cirqBankMatchCntFailA b | .b => Fd.cirqBankMatchCntFailB b

def State.domOk (s : State) (d : PeakId) : Bool := s.bit .a (domFld d)

/-- Rotor states (R199). -/
def rotReady : Nat := 0
def rotSettle : Nat := 1
def rotOverlap : Nat := 2
def rotCalibrate : Nat := 3
def rotStopped : Nat := 4
def rotNoRelief : Nat := 5
def rotReturn : Nat := 6

/-- Keep the summary bits of CIRQ.STATUS in step. -/
def cirqRefresh (s : State) : State :=
  let rot := fun d => (List.range 6).map (fun b => s.fld .a (rotState d b))
  let all := rot .a ++ rot .b
  let s := s.setBit .a Fd.cirqStatusReturn (all.any (fun x => decide (x = rotReturn)))
  let s := s.setBit .a Fd.cirqStatusNoReliefAny (all.any (fun x => decide (x = rotNoRelief)))
  s.setBit .a Fd.cirqStatusCalLateAny ((List.range 48).any (fun i => s.bit .a (Fd.cirqInStatusCalLate i)))

/-! ### Re-phase (R181) -/

/-- The input takes a new grid; its first new sample carries REPHASE. -/
def rephaseInput (i origin : Nat) (s : State) : State :=
  s.setCin i { s.cin i with origin := origin, rephase := true }

/-- A timebase starts from stopped: the inputs that name it take their grid from it. -/
def rephaseTb (tb : Nat) (s : State) : State :=
  forAll (List.range 48) (fun i s =>
    if s.bit .a (Fd.cirqInTrigEn i) && decide (s.fld .a (Fd.cirqInTrigTb i) = tb) then
      rephaseInput i (s.tick + s.fld .a (Fd.cirqInTrigDelay i)) s
    else s) s

/-! ### Samples (R175 to R180, R192, R193) -/

/-- The reason code of a sample taken now (R192, R193): 0 is VALID. -/
def sampleReason (i : Nat) (c : CirqIn) (s : State) : Nat :=
  if s.fld .a (Fd.cirqInCfgEn i) = 0 ∨ s.bit .a (Fd.cirqInStatusRetired i) = true then 3
  else if s.bit .a (Fd.cirqInStatusOnDiag i) then 2
  else
    let g := decide (s.tick < c.gainUntil)
    let k := decide (s.tick < c.checkUntil)
    if g && k then (if c.gainUntil < c.checkUntil then 2 else 1)
    else if k then 2 else if g then 1 else 0

/-- The member that samples at this tick, none where the tick is no grid point or the re-phase or domain rules let none sample. -/
def sampler (c : CirqIn) (s : State) : Option PeakId :=
  let both := s.domOk .a && s.domOk .b
  let on20 := decide (s.tick % 20 = c.origin % 20)
  let onA := decide (s.tick % 40 = c.origin % 40)
  let late := fun (o : Option Nat) (n : Nat) => match o with | none => true | some t => decide (t + n ≤ s.tick)
  if s.cirq.running then
    if both then
      if c.bWait then (if onA && late c.lastA 40 && late c.lastB 20 then some .a else none)
      else if on20 then
        let m : PeakId := if onA then .a else .b
        let lastIsA := decide (c.lastB.getD 0 ≤ c.lastA.getD 0)
        let turn := !c.rephase || (c.lastA.isNone && c.lastB.isNone) || (match m with | .a => !lastIsA | .b => lastIsA)
        let fresh := match m with | .a => late c.lastA 40 | .b => late c.lastB 40
        if turn && fresh && late c.lastA 20 && late c.lastB 20 then some m else none
      else none
    else if onA && (s.domOk .a || s.domOk .b) then
      let m : PeakId := if s.domOk .a then .a else .b
      let fresh := match m with | .a => late c.lastA 40 | .b => late c.lastB 40
      if fresh && late c.lastA 20 && late c.lastB 20 then some m else none
    else none
  else none

/-- A converter's key in the tables of calibrations. -/
def convKey (d : PeakId) (b conv : Nat) : Nat := (d.num * 6 + b) * 9 + conv

def State.corr (s : State) (d : PeakId) (b conv : Nat) : Corr := Tab.get (fun _ => {}) s.cirq.corr (convKey d b conv)
def State.setCorr (s : State) (d : PeakId) (b conv : Nat) (c : Corr) : State :=
  { s with cirq := { s.cirq with corr := Tab.put (fun _ => {}) s.cirq.corr (convKey d b conv) c } }

/-- A converter's code, in 1/256 LSB, after its gain and offset correction (R176): 24 bits hold it where it is within full scale. -/
def Corr.apply (k : Corr) (code : Int) : Int := rneDiv ((code - k.off) * 256000000) (256000000 + k.gain).toNat

/-- VALUE of a corrected code: the nearest code in 1/4 LSB, beyond full scale the nearest end code (R175). -/
def sampleValue (n : Int) : Int := max (-131072) (min 131071 (rneShift n 6))

/-- CLIP: the value is at an end code. -/
def sampleClip (v : Int) : Bool := decide (v = -131072) || decide (v = 131071)

/-- The least and the greatest of what a span holds and a further value. -/
def spanTake (o : Option (Int × Int)) (v : Int) : Option (Int × Int) :=
  match o with
  | none => some (v, v)
  | some (lo, hi) => some (min lo v, max hi v)

/-- An overlap on the input takes the sample: a valid one, or any on a disabled input (R186). -/
def overlapTake (m : PeakId) (i : Nat) (reason : Nat) (v : Int) (s : State) : State :=
  let b := i / 8
  let r := s.rotor m b
  if s.fld .a (rotState m b) = rotOverlap ∧ s.fld .a (rotSlot m b) = i % 8 ∧ (reason = 0 ∨ s.fld .a (Fd.cirqInCfgEn i) = 0) then
    s.setRotor m b { r with count := r.count + 1, span := spanTake r.span v }
  else s

/-- A connected diagnostic takes the samples from 1.6 µs on (R190). -/
def diagTake (i : Nat) (v : Int) (s : State) : State :=
  let b := i / 8
  let g := Tab.get (fun _ => {}) s.cirq.diags b
  if s.bit .a (Fd.cirqInStatusOnDiag i) = true ∧ g.connected + 640 ≤ s.tick then
    { s with cirq := { s.cirq with diags := Tab.put (fun _ => {}) s.cirq.diags b { g with sum := g.sum + v, count := g.count + 1 } } }
  else s

/-- Is the sample of this tick the period's tagged one (R180)? -/
def isTagged (i : Nat) (s : State) : Bool :=
  let tb := s.fld .a (Fd.cirqInTrigTb i)
  s.bit .a (Fd.cirqInTrigEn i) && s.bit .a (Fd.pwmTbStatusRun tb) &&
    decide (s.reg .a (Reg.pwmTbCount tb) = s.fld .a (Fd.cirqInTrigDelay i)) &&
    s.bit .a (Fd.cirqInCfgEn i) && !s.bit .a (Fd.cirqInStatusRetired i)

/-- What input i keeps once member m has sampled. -/
def CirqIn.sampled (c : CirqIn) (m : PeakId) (now : Nat) (f : Flight) : CirqIn :=
  let c := match m with
    | .a => { c with lastA := some now }
    | .b => { c with lastB := some now }
  { c with rephase := c.bWait, bWait := false, tag := if f.tagged then some f else c.tag
           flight := ⟨c.flight.a ++ [f], c.flight.b ++ [f]⟩ }

/-- A converter samples: the word of R176, on its way to both Peaks; overlap and diagnostic counts follow it. `code` is the converter's code
before its correction, in 1/256 LSB. -/
def cirqSample (i : Nat) (code : Int) (s : State) : State :=
  let c := s.cin i
  match sampler c s with
  | none => s
  | some m =>
    let c := if c.gainArm then { c with gainArm := false, gainUntil := s.tick + 480 } else c
    let reason := sampleReason i c s
    let v := sampleValue ((s.corr m (i / 8) (s.fld .a (convFld m i))).apply code)
    let word := BitVec.ofNat 32 ((if reason = 0 then 2 ^ 31 else 0) + reason * 2 ^ 28 + (if sampleClip v then 2 ^ 27 else 0) + m.num * 2 ^ 26 +
      (if c.rephase then 2 ^ 25 else 0) + unsigned 18 v)
    let f : Flight := ⟨s.tick, word, isTagged i s, s.fld .a (Fd.cirqInCfgGain i), s.bit .a Fd.cirqStatusSingle⟩
    let s := s.setCin i (c.sampled m s.tick f)
    let s := s.setBit .a (Fd.cirqInStatusValidNow i) (decide (reason = 0))
    let s := s.setFld .a (Fd.cirqInStatusReasonNow i) reason
    diagTake i v (overlapTake m i reason v s)

/-- `code` is in LSB, and `frac` the 1/256 LSB above it. -/
def execCirqueSample (i : Fin 48) (code : BitVec 24) (frac : BitVec 8) (s : State) : Out :=
  .next (cirqSample i.val (code.toInt * 256 + frac.toNat) s)

/-- LAST takes the tagged sample (R198). -/
def lastTake (i : Nat) (f : Flight) (s : State) : State :=
  let c := s.cin i
  let ovr := s.bit .a (Fd.cirqInLastNew i)
  let s := if ovr then (s.bump .a (Fd.cirqInOvrCountCount i) (Fd.cirqInOvrCountSat i)).setFld .a (Fd.cirqInLastOvr i) 1 else s
  let w := f.word.toNat
  let s := s.setFld .a (Fd.cirqInLastNew i) 1
  let s := s.setFld .a (Fd.cirqInLastValid i) (bits w 31 31)
  let s := s.setFld .a (Fd.cirqInLastReason i) (bits w 30 28)
  let s := s.setFld .a (Fd.cirqInLastClip i) (bits w 27 27)
  let s := s.setFld .a (Fd.cirqInLastSeq i) c.seq
  let s := s.setFld .a (Fd.cirqInLastValue i) (bits w 17 0)
  s.setCin i { c with seq := (c.seq + 1) % 128, tag := none }

/-! ### Configuration writes (R178, R181, R192, R199) -/

/-- The enabled inputs tagged on a timebase. -/
def taggedOn (s : State) (tb : Nat) : List Nat :=
  (List.range 48).filter (fun i => decide (s.fld .a (Fd.cirqInCfgEn i) ≠ 0) && s.bit .a (Fd.cirqInTrigEn i) && decide (s.fld .a (Fd.cirqInTrigTb i) = tb))

/-- Q in ticks. -/
def corrQ (s : State) (tb : Nat) : Nat := if (taggedOn s tb).isEmpty then 1 else 40

/-- Corrections are withheld while a tagged input has a DELAY below Q. -/
def corrBlocked (s : State) (tb : Nat) : Bool := (taggedOn s tb).any (fun i => decide (s.fld .a (Fd.cirqInTrigDelay i) < corrQ s tb))

/-- Keep STATUS.LOCKED and BLOCKED of a timebase in step with TRACK, its latest offset, and the inputs tagged on it (R288). -/
def alignRefresh (tb : Nat) (s : State) : State :=
  let track := s.bit .a (Fd.pwmTbAlignTrack tb)
  let s := if track then s else s.setTb tb { s.tb tb with edged := false }
  let locked := track && (s.tb tb).edged && decide (2 * (s.regI .a (Reg.pwmTbCairnErr tb)).natAbs ≤ corrQ s tb)
  let s := setBitOf .a Fd.pwmStatusLocked tb locked (s.setBit .a (Fd.pwmTbStatusLocked tb) locked)
  s.setBit .a (Fd.pwmTbStatusBlocked tb) (track && corrBlocked s tb)

def alignsRefresh (s : State) : State := forAll (List.range 8) alignRefresh s

/-- A write of CIRQ.IN[i].CFG that the gate admits. -/
def cirqCfgWrite (i v : Nat) (s : State) : State :=
  let en := v % 2
  let gain := v / 2 % 4
  if en = 1 ∧ s.bit .a (Fd.cirqInStatusRetired i) = true then s.raise .a Fd.cirqFlagsEnableRefused
  else
    let en0 := s.fld .a (Fd.cirqInCfgEn i)
    let gain0 := s.fld .a (Fd.cirqInCfgGain i)
    let opens := decide (en = 1) && (decide (en0 = 0) || decide (gain ≠ gain0))
    let s := s.setReg .a (Reg.cirqInCfg i) (en + 2 * gain)
    let s := if en = 1 ∧ en0 = 0 then shoulderRestart i s else s
    alignsRefresh (if opens then s.setCin i { s.cin i with gainArm := true } else s)

/-- Is the trigger of input i locked by a summit task that is loaded in either Peak (R160)? -/
def trigLocked (i : Nat) (s : State) : Bool :=
  [PeakId.a, PeakId.b].any (fun p => ((s.loaded p).filter isSummit).any (fun n => decide (s.fld p (Fd.trvTaskCfgEvent n) = 16 + i)))

/-- A write of CIRQ.IN[i].TRIG that the gate admits, made by Peak `p`. -/
def cirqTrigWrite (p : PeakId) (i v : Nat) (s : State) : State :=
  let en := bits v 31 31
  let tb := bits v 26 24
  let delay := bits v 19 0
  let v' := en * 2 ^ 31 + tb * 2 ^ 24 + delay
  let old := s.reg .a (Reg.cirqInTrig i)
  let locked := trigLocked i s && decide (v' ≠ old)
  let s := if locked then s.raise p Fd.trvFlagsLockedWrite else s
  let prd := s.fld .a (Fd.pwmTbPrdPrd tb)
  let bad := decide (en = 1) && (decide (delay % 5 ≠ 0) || decide (prd < delay) || decide ((prd + 1) % 40 ≠ 0))
  let s := if bad then s.raise .a Fd.cirqFlagsTrigRefused else s
  if s.bit .a (Fd.cirqInCfgEn i) then s.raise .a Fd.cirqFlagsWriteWhileRunning
  else if locked || bad then s
  else
    let s := alignsRefresh (s.setReg .a (Reg.cirqInTrig i) v')
    let c := s.cin i
    if en = 0 then
      (if s.cirq.released % 40 = c.origin % 40 then s else rephaseInput i s.cirq.released s)
    else if s.bit .a (Fd.pwmTbStatusRun tb) then
      let origin := s.periodStart tb + (s.prdNow tb + 1) + delay
      if origin % 40 = c.origin % 40 then s else rephaseInput i origin s
    else s

def execCirqCfgWrite (m : Master) (i : Fin 48) (val : Word) (s : State) : Out :=
  .next (if s.holds m.peak then cirqCfgWrite i.val val.toNat s else s)
def execCirqTrigWrite (m : Master) (i : Fin 48) (val : Word) (s : State) : Out :=
  .next (if s.holds m.peak then cirqTrigWrite m.peak i.val val.toNat s else s)

/-- The validity windows of the input that end by now are over (R192). -/
def execValidityWindowEnd (i : Fin 48) (s : State) : Out :=
  .next (let c := s.cin i.val
    s.setCin i.val { c with gainUntil := if c.gainUntil ≤ s.tick then 0 else c.gainUntil
                            checkUntil := if c.checkUntil ≤ s.tick then 0 else c.checkUntil })

/-- A read of LAST (R198): the holder's read clears NEW and OVR. -/
def readLast (p : PeakId) (i : Nat) (s : State) : Nat × State :=
  (s.reg .a (Reg.cirqInLast i),
   if s.holds p then (s.setFld .a (Fd.cirqInLastNew i) 0).setFld .a (Fd.cirqInLastOvr i) 0 else s)

def execCirqLastRead (m : Master) (i : Fin 48) (s : State) : Out :=
  .next (if (s.peak m.peak).up then returned (readLast m.peak i.val s) else s)

/-! ### Relief rotation (R183 to R189) -/

/-- The input in slot `k` of bank `b`. -/
def slotInput (b k : Nat) : Nat := b * 8 + k

/-- The first slot from `k` on, cyclically, that is neither retired nor skipped; `k` itself where none is. -/
def nextSlot (d : PeakId) (b k : Nat) (s : State) : Nat :=
  match (List.range 8).find? (fun j => !s.bit .a (Fd.cirqInStatusRetired (slotInput b ((k + j) % 8))) &&
      !(s.rotor d b).skipped.contains ((k + j) % 8)) with
  | some j => (k + j) % 8
  | none => k

def setCal (d : PeakId) (b conv : Nat) (s : State) : State :=
  { s with cirq := { s.cirq with calTick := Tab.put (fun _ => 0) s.cirq.calTick (convKey d b conv) s.tick } }

/-- The position in the Cirque step cycle in µs (CIRQ.ROTOR_TIME, R183). -/
def State.rotorTime (s : State) : Nat := (s.tick - s.cirq.released) / 400 % 3200

/-- Where in the cycle a domain's rotors start their steps (R183). -/
def stepAt : PeakId → Nat
  | .a => 0
  | .b => 1600

/-- A rotor begins a step by connecting its relief, at its domain's instant of the step cycle; a returning domain begins its calibration
(R197). -/
def rotorStart (d : PeakId) (b : Nat) (s : State) : State :=
  let st := s.fld .a (rotState d b)
  if s.cirq.running && decide (s.rotorTime = stepAt d) then
    if st = rotReady ∧ s.domOk d = true ∧ s.fld .a (rotRelief d b) ≠ 0xF then
      let s := s.setRotor d b { s.rotor d b with count := 0, span := none, freed := none, calDone := false, sameSlot := false, startAt := s.tick }
      let s := s.setFld .a (rotSlot d b) (nextSlot d b (s.fld .a (rotSlot d b)) s)
      s.setFld .a (rotState d b) rotSettle
    else if st = rotReturn then s.setRotor d b { s.rotor d b with retBegun := true, startAt := s.tick }
    else s
  else s

/-- The overlap begins 1.6 µs after the step's start (R184). -/
def rotorOverlap (d : PeakId) (b : Nat) (s : State) : State :=
  if s.fld .a (rotState d b) = rotSettle ∧ (s.rotor d b).startAt + 640 ≤ s.tick then
    (s.setRotor d b { s.rotor d b with count := 0, span := none }).setFld .a (rotState d b) rotOverlap
  else s

/-- The age of a member's calibration in 0.5 ms units, sticking at 0xFF (R199). -/
def calAge (d : PeakId) (i : Nat) (s : State) : Nat :=
  min 0xFF ((s.tick - Tab.get (fun _ => 0) s.cirq.calTick (convKey d (i / 8) (s.fld .a (convFld d i)))) / 200000)

/-- A member was last calibrated more than 32 ms ago (R189). -/
def calOld (d : PeakId) (i : Nat) (s : State) : Bool :=
  decide (12800000 < s.tick - Tab.get (fun _ => 0) s.cirq.calTick (convKey d (i / 8) (s.fld .a (convFld d i))))

/-- CAL_LATE clears once neither member of the input is late. -/
def calFresh (i : Nat) (s : State) : State :=
  if calOld .a i s || calOld .b i s then s else s.setFld .a (Fd.cirqInStatusCalLate i) 0

/-- IN[i].STATUS as it reads: the calibration ages with the stored fields (R199). -/
def inStatus (i : Nat) (s : State) : Nat :=
  s.reg .a (Reg.cirqInStatus i) % 2 ^ 16 + (if s.cirq.running then calAge .a i s * 2 ^ 16 + calAge .b i s * 2 ^ 24 else 0)

/-- Does the input span at least 1/8 of full scale, 16,384 units of VALUE, over the overlap (R187)? -/
def spansEighth : Option (Int × Int) → Bool
  | none => false
  | some (lo, hi) => decide (16384 ≤ hi - lo)

/-- The fit ends (R187): a match swaps the relief in, under the fitted correction and with no lost sample (R185); a MATCH_FAIL makes no swap.
Offset and rms in 1/256 LSB, gain in 1/256 of a part per million, all as departures from the relief's calibration. A disabled input fits the
offset alone (R186). -/
def rotorFit (d : PeakId) (b : Nat) (off gain : Int) (rms : Nat) (s : State) : State :=
  let r := s.rotor d b
  if s.fld .a (rotState d b) = rotOverlap ∧ 256 ≤ r.count then
    let slot := s.fld .a (rotSlot d b)
    let i := slotInput b slot
    let relief := s.fld .a (rotRelief d b)
    let gain := if s.bit .a (Fd.cirqInCfgEn i) && spansEighth r.span then gain else 0
    let s := s.setFld .a (rotState d b) rotCalibrate
    let s := s.setFld .a (rotRelief d b) 0xF
    if 2048 < off.natAbs ∨ 51200 < gain.natAbs ∨ 768 < rms then
      let s := s.raise .a Fd.cirqFlagsMatchFail
      let s := s.bump .a (matchFld d b) (Fd.cirqBankMatchCntSat b)
      let skip := decide (2 ≤ r.fails)
      s.setRotor d b { r with freed := some relief, calDone := false, sameSlot := true, fails := if skip then 0 else r.fails + 1,
                              skipped := if skip then r.skipped ++ [slot] else r.skipped }
    else
      let old := s.fld .a (convFld d i)
      let k := s.corr d b relief
      let s := s.setCorr d b relief { k with off := k.calOff + off, gain := k.calGain + gain }
      let s := s.setFld .a (convFld d i) relief
      let s := s.bump .a (rotSwaps d b) (rotSat d b)
      let s := s.setRotor d b { r with freed := some old, calDone := false, sameSlot := false, fails := 0 }
      cirqRefresh (calFresh i s)
  else s

/-- An overlap short of 256 valid samples at 300 µs: the step is aborted (R186). -/
def rotorTimeout (d : PeakId) (b : Nat) (s : State) : State :=
  let st := s.fld .a (rotState d b)
  if (st = rotOverlap ∨ st = rotSettle) ∧ (s.rotor d b).count < 256 ∧ (s.rotor d b).startAt + 120000 ≤ s.tick then
    let s := s.raise .a Fd.cirqFlagsStepAbort
    (s.setRotor d b { s.rotor d b with sameSlot := true, fails := 0 }).setFld .a (rotState d b) rotReady
  else s

/-- Both rotors of a bank, or one, are left without relief (R188). -/
def noRelief (d : PeakId) (b : Nat) (s : State) : State :=
  let s := s.raise .a Fd.cirqFlagsReliefLost
  let s := s.setFld .a (rotState d b) rotNoRelief
  cirqRefresh ((s.setFld .a (rotRelief d b) 0xF).setRotor d b { s.rotor d b with freed := none, calDone := false })

/-- Is a converter's gain before correction within ±0.5 % (in 1/256 ppm) and its offset within ±64 LSB (in 1/256 LSB) (R188)? -/
def calFits (off gain : Int) : Bool := decide (off.natAbs ≤ 16384) && decide (gain.natAbs ≤ 1280000)

/-- A converter is calibrated: its correction and the instant are kept. -/
def calTake (d : PeakId) (b conv : Nat) (off gain : Int) (s : State) : State :=
  setCal d b conv (s.setCorr d b conv ⟨off, gain, off, gain⟩)

/-- A calibration ends (R188): a converter outside the limits is retired, and a failed reference check stops both rotors of the bank. In a
returning domain the command tells of converter `conv`, and the bank is ready once all nine are calibrated (R197). -/
def calComplete (d : PeakId) (b conv : Nat) (off gain : Int) (refOk : Bool) (s : State) : State :=
  let r := s.rotor d b
  let st := s.fld .a (rotState d b)
  if st = rotCalibrate ∨ (st = rotReturn ∧ r.retBegun = true) then
    if refOk = false then noRelief d.other b (noRelief d b s)
    else if calFits off gain = false then noRelief d b s
    else if st = rotReturn then
      (calTake d b conv off gain s).setRotor d b { r with retConvs := conv :: r.retConvs.filter (fun n => decide (n ≠ conv)) }
    else match r.freed with
      | some conv => (calTake d b conv off gain s).setRotor d b { r with calDone := true }
      | none => s
  else s

/-- All nine converters of a returning bank are calibrated, or its rotor is left without relief. -/
def bankReturned (d : PeakId) (b : Nat) (s : State) : Bool :=
  decide ((s.rotor d b).retConvs.length = 9) || decide (s.fld .a (rotState d b) = rotNoRelief)

/-- 1,000 µs after the step's start the freed converter becomes the relief and the DAC is released (R184). -/
def rotorReady (d : PeakId) (b : Nat) (s : State) : State :=
  let r := s.rotor d b
  if s.fld .a (rotState d b) = rotCalibrate ∧ r.calDone = true ∧ r.startAt + 400000 ≤ s.tick then
    let s := s.setFld .a (rotState d b) rotReady
    let s := s.setFld .a (rotRelief d b) (r.freed.getD 0xF)
    let slot := s.fld .a (rotSlot d b)
    let s := s.setFld .a (rotSlot d b) (nextSlot d b (if r.sameSlot then slot else (slot + 1) % 8) s)
    s.setRotor d b { r with freed := none, calDone := false, sameSlot := false, count := 0 }
  else s

def execRotorStepStart (d : PeakId) (b : Fin 6) (s : State) : Out := .next (rotorStart d b.val s)
def execRotorOverlapStart (d : PeakId) (b : Fin 6) (s : State) : Out := .next (rotorOverlap d b.val s)
def execRotorFitComplete (d : PeakId) (b : Fin 6) (off gain : BitVec 24) (rms : BitVec 16) (s : State) : Out :=
  .next (rotorFit d b.val off.toInt gain.toInt rms.toNat s)
def execRotorStepTimeout (d : PeakId) (b : Fin 6) (s : State) : Out := .next (rotorTimeout d b.val s)
def execCalibrationComplete (d : PeakId) (c : BankConv) (off gain : BitVec 24) (refOk : Bool) (s : State) : Out :=
  .next (calComplete d c.bank.val c.conv.val off.toInt gain.toInt refOk s)
def execRotorReady (d : PeakId) (b : Fin 6) (s : State) : Out := .next (rotorReady d b.val s)

/-- A member's calibration age passes 32 ms (R189). -/
def execCalAgeExpiry (i : Fin 48) (s : State) : Out :=
  .next (if s.cirq.running && (calOld .a i.val s || calOld .b i.val s) then
      let s := s.setFld .a (Fd.cirqInStatusCalLate i.val) 1
      fireBoth Ev.cirqCal (cirqRefresh (s.raise .a Fd.cirqFlagsCalLate))
    else s)

/-! ### Diagnostics (R190, R191) -/

/-- A write of DIAG_CTRL that the gate admits. -/
def diagWrite (b v : Nat) (s : State) : State :=
  let i := slotInput b (bits v 30 28)
  let len := bits v 9 0
  let busy := decide (s.fld .a (Fd.cirqBankDiagStatusState b) ≠ 0)
  let refuse := fun (code : Nat) (s : State) =>
    let s := (s.setFld .a (Fd.cirqBankDiagStatusRefuse b) code).raise .a Fd.cirqFlagsDiagRefused
    if busy then s else s.setReg .a (Reg.cirqBankDiagCtrl b) (v % 2 ^ 31 - bits v 15 10 * 2 ^ 10)
  if bits v 31 31 = 0 then (if busy then s else s.setReg .a (Reg.cirqBankDiagCtrl b) (v - bits v 15 10 * 2 ^ 10))
  else if len = 0 ∨ 600 < len then refuse 1 s
  else if s.bit .a (Fd.cirqInStatusRetired i) then refuse 2 s
  else if trigLocked i s then refuse 3 s
  else if busy then refuse 4 s
  else
    let s := s.setReg .a (Reg.cirqBankDiagCtrl b) (v - bits v 15 10 * 2 ^ 10)
    (s.setFld .a (Fd.cirqBankDiagStatusRefuse b) 0).setFld .a (Fd.cirqBankDiagStatusState b) 1

def execDiagRequest (m : Master) (b : Fin 6) (val : Word) (s : State) : Out :=
  .next (if s.holds m.peak then diagWrite b.val val.toNat s else s)

/-- Does a rotor of the bank hold its check DAC (R184, R197)? -/
def dacHeld (b : Nat) (s : State) : Bool :=
  [PeakId.a, PeakId.b].any (fun d => decide (s.fld .a (rotState d b) = rotCalibrate) ||
    (decide (s.fld .a (rotState d b) = rotReturn) && (s.rotor d b).retBegun && !bankReturned d b s))

/-- A diagnostic window starts, at 1,000 or 2,600 µs of the step cycle: a waiting request connects the check DAC, unless a rotor holds it. -/
def execDiagWindow (b : Fin 6) (s : State) : Out :=
  .next (if s.fld .a (Fd.cirqBankDiagStatusState b.val) = 1 ∧ s.cirq.running = true ∧ (s.rotorTime = 1000 ∨ s.rotorTime = 2600) ∧
      dacHeld b.val s = false then
      let i := slotInput b.val (s.fld .a (Fd.cirqBankDiagCtrlInput b.val))
      let s := (s.setFld .a (Fd.cirqBankDiagStatusState b.val) 2).setFld .a (Fd.cirqInStatusOnDiag i) 1
      { s with cirq := { s.cirq with diags := Tab.put (fun _ => {}) s.cirq.diags b.val { connected := s.tick } } }
    else s)

/-- The mean of the samples taken, rounded either way where it is no integer. -/
def diagMean (g : Diag) : Int :=
  if g.count = 0 then 0
  else if g.sum % (g.count : Int) = 0 then g.sum / g.count
  else if Config.diagRoundUp g.sum g.count then g.sum / g.count + 1 else g.sum / g.count

/-- LEN µs after the connection the DAC disconnects and the mean is delivered. -/
def execDiagEnd (b : Fin 6) (s : State) : Out :=
  let g := Tab.get (fun _ => {}) s.cirq.diags b.val
  .next (if s.fld .a (Fd.cirqBankDiagStatusState b.val) = 2 ∧ g.connected + 400 * s.fld .a (Fd.cirqBankDiagCtrlLen b.val) ≤ s.tick then
      let i := slotInput b.val (s.fld .a (Fd.cirqBankDiagCtrlInput b.val))
      let s := s.setFld .a (Fd.cirqBankDiagStatusState b.val) 0
      let s := s.setFld .a (Fd.cirqInStatusOnDiag i) 0
      let s := s.setFld .a (Fd.cirqBankDiagCtrlReq b.val) 0
      let s := s.setReg .a (Reg.cirqBankDiagMean b.val) (unsigned 18 (diagMean g))
      let s := s.setCin i { s.cin i with checkUntil := s.tick + 640 }
      let s := { s with cirq := { s.cirq with diags := Tab.put (fun _ => {}) s.cirq.diags b.val {} } }
      fireBoth Ev.cirqDiag s
    else s)

/-! ### Supply domains (R194 to R197, R472) -/

/-- The rotors of a domain stop (R195). -/
def rotorsStop (d : PeakId) (s : State) : State :=
  forAll (List.range 6) (fun b s =>
    ((s.setFld .a (rotState d b) rotStopped).setFld .a (rotRelief d b) 0xF).setRotor d b { skipped := (s.rotor d b).skipped }) s

/-- A domain that was returning is gone again. -/
def returnCut (d : PeakId) (s : State) : State :=
  if s.cirq.acquiring.get d || s.cirq.locked.get d then
    cirqRefresh (rotorsStop d { s with cirq := { s.cirq with acquiring := s.cirq.acquiring.set d false, locked := s.cirq.locked.set d false } })
  else s

/-- The Cirque is held in reset once no domain runs (R472): no diagnostic goes on. -/
def diagsCut (s : State) : State :=
  let s := { s with cirq := { s.cirq with diags := [] } }
  let s := forAll (List.range 6) (fun b s => (s.setFld .a (Fd.cirqBankDiagStatusState b) 0).setFld .a (Fd.cirqBankDiagCtrlReq b) 0) s
  forAll (List.range 48) (fun i s => s.setFld .a (Fd.cirqInStatusOnDiag i) 0) s

/-- A supply domain is lost (R194, R195): its conversions in progress are not delivered, its rotors stop, and the survivors sample at
the member-A points. -/
def domainLoss (d : PeakId) (s : State) : State :=
  if s.domOk d then
    let s := s.setFld .a (domFld d) 0
    let s := s.setBit .a Fd.cirqStatusSingle (s.domOk d.other)
    let s := s.raise .a Fd.cirqFlagsDomainLoss
    let s := rotorsStop d s
    let s := if s.domOk d.other then s else diagsCut { s with cirq := { s.cirq with running := false } }
    let s := forAll (List.range 48) (fun i s =>
      let c := s.cin i
      let cut := fun (f : Flight) => decide (bits f.word.toNat 26 26 = d.num) && decide (s.tick < f.at_ + 40)
      let c := { c with flight := ⟨c.flight.a.filter (fun f => !cut f), c.flight.b.filter (fun f => !cut f)⟩
                        tag := match c.tag with | some f => if cut f then none else some f | none => none
                        rephase := true, bWait := false }
      s.setCin i c) s
    fireBoth Ev.cirqDomain (cirqRefresh s)
  else returnCut d s

def execDomainLoss (d : PeakId) (s : State) : Out := .next (domainLoss d s)

/-- 450 µs (180,000 ticks) after a lost domain's supply rises its PLL starts acquiring. -/
def execDomainPllStart (d : PeakId) (s : State) : Out :=
  .next (if !s.domOk d && s.vaux d && decide (s.power.vauxAt.get d + 180000 ≤ s.tick) && !(s.pll (3 + d.num)).locked then
      { s with cirq := { s.cirq with acquiring := s.cirq.acquiring.set d true } }
    else s)

/-- The returning domain's PLL reports lock, and its rotors enter RETURN. With no domain running none returns (R472), and the lock waits for the
Cirque's next release. -/
def domainPllLock (d : PeakId) (s : State) : State :=
  if s.cirq.acquiring.get d && !s.domOk d then
    let s := { s with cirq := { s.cirq with acquiring := s.cirq.acquiring.set d false } }
    let s := clkRefresh (s.setPll (3 + d.num) { locked := true, subst := s.refGone && (s.pll 2).locked })
    if s.cirq.running then
      let s := { s with cirq := { s.cirq with locked := s.cirq.locked.set d true } }
      cirqRefresh (forAll (List.range 6) (fun b s =>
        (s.setFld .a (rotState d b) rotReturn).setRotor d b { skipped := (s.rotor d b).skipped }) s)
    else s
  else s

def execDomainPllLock (d : PeakId) (s : State) : Out := .next (domainPllLock d s)

/-- A domain's rotors begin with converters 0 to 7 in their slots and converter 8 as relief, unless it is retired (R81, R183). -/
def rotorsBegin (d : PeakId) (s : State) : State :=
  let s := forAll (List.range 48) (fun i s => s.setFld .a (convFld d i) (i % 8)) s
  forAll (List.range 6) (fun b s =>
    let lost := s.retired .a 4 (match d with | .a => 16 + b | .b => 24 + b) || s.retired .a 5 b
    let s := s.setRotor d b {}
    let s := s.setFld .a (rotSlot d b) 0
    let s := s.setFld .a (rotRelief d b) (if lost then 0xF else 8)
    let s := s.setFld .a (rotState d b) (if lost then rotNoRelief else rotReady)
    forAll (List.range 9) (fun conv s =>
      let k := Config.calStart s.free (convKey d b conv)
      calTake d b conv ((k.1.val : Int) - 2 ^ 14) ((k.2.val : Int) - 1280000) s) s) s

/-- At the first wrap of the period timebase after the return calibration every input resumes two members (R197): a returning member A starts at a
member-A point, a returning member B follows member A's next conversion. -/
def domainRejoin (d : PeakId) (s : State) : State :=
  if s.cirq.locked.get d && !s.domOk d && s.domOk d.other && (List.range 6).all (fun b => bankReturned d b s) &&
      s.bit .a (Fd.pwmTbStatusRun s.periodTb) && decide (s.wrapOf s.periodTb = s.tick) then
    let s := s.setFld .a (domFld d) 1
    let s := s.setFld .a Fd.cirqStatusSingle 0
    let s := { s with cirq := { s.cirq with locked := s.cirq.locked.set d false } }
    let s := forAll (List.range 48) (fun i s =>
      calFresh i ((s.setFld .a (convFld d i) (i % 8)).setCin i { s.cin i with rephase := decide (d = .a), bWait := decide (d = .b) })) s
    let s := forAll (List.range 6) (fun b s =>
      if s.fld .a (rotState d b) = rotNoRelief then s
      else (((s.setFld .a (rotState d b) rotReady).setFld .a (rotSlot d b) (nextSlot d b 0 s)).setFld .a (rotRelief d b) 8).setRotor d b
        { skipped := (s.rotor d b).skipped }) s
    fireBoth Ev.cirqDomain (cirqRefresh s)
  else s

def execDomainRejoin (d : PeakId) (s : State) : Out := .next (domainRejoin d s)

/-- A domain at the Cirque's release: it starts, or is treated as lost (R55, R194, R195). -/
def domainBegin (d : PeakId) (ok : Bool) (s : State) : State :=
  let s := s.setBit .a (domFld d) ok
  if ok then rotorsBegin d s else rotorsStop d (s.raise .a Fd.cirqFlagsDomainLoss)

/-- The Cirque is released (t5 of R54, R472): every ready domain starts, and every grid begins at the release. With no domain ready it stays in
reset. -/
def cirqRelease (okA okB : Bool) (s : State) : State :=
  let s := { s with cirq := { released := s.tick, running := okA || okB } }
  let s := diagsCut (domainBegin .b okB (domainBegin .a okA s))
  let s := { s.setBit .a Fd.cirqStatusSingle (xor okA okB) with free := s.free + 1 }
  let s := forAll (List.range 48) (fun i s => s.setCin i { origin := s.tick }) s
  cirqRefresh s

end Sys2Proof.Machine
end

