-- ==== Sys2Proof/Machine/Cairn.lean ====
section
/-! DEFINITION. Cairn, the clock of record, and the Saddle time map (R396 to R405, R214, R417). -/

namespace Sys2Proof.Machine

/-- A number for each master: cores 0 to 15, the host through each Peak's view, the DMA channels and the boot controllers. -/
def masterNum : Master → Nat
  | .core k => coreKey k
  | .host p => 16 + p.num
  | .dma p ch => 32 + p.num * 16 + ch.val
  | .boot p => 64 + p.num

/-! ### Cairn's value -/

/-- Cairn in units of 2^-48 ns. -/
def Cairn.value (c : Cairn) : Nat := (c.sec * 10 ^ 9 + c.ns) * 2 ^ 48 + c.frac

/-- Cairn's range: 2^48 seconds. -/
def cairnMod : Nat := 2 ^ 48 * 10 ^ 9 * 2 ^ 48

/-- The RATE in force (R397). -/
def State.rate (s : State) : Int :=
  signed 40 (s.fld .a Fd.crnRateHiRate * 2 ^ 32 + s.reg .a Reg.crnRateLo)

/-- Is Cairn retired (R81)? It reads 0 and does not count then (R402). -/
def State.cairnRetired (s : State) : Bool := s.bit .a Fd.crnStatusRetired

/-- One 125 MHz network cycle (R396): Cairn advances by 8 ns × (1 + RATE × 2^-48), and the lease counts. -/
def cairnCycle (s : State) : State :=
  let c := s.cairn
  if c.running && !s.cairnRetired then
    let f := (c.frac : Int) + 8 * (2 ^ 48 + s.rate)
    { s with cairn := { c with frac := f.toNat % 2 ^ 48, ns := c.ns + f.toNat / 2 ^ 48, lease := if 1 < c.lease then c.lease - 1 else c.lease } }
  else s

/-- The free tick count of the Saddle (R403). -/
def State.freeTick (s : State) : Nat := s.tick - s.tick0

/-- A map point at this tick; the map holds the past 128 µs (51,200 ticks). -/
def mapPoint (s : State) : State :=
  let c := s.cairn
  { s with cairn := { c with points := ⟨s.tick, c.value, s.rate⟩ :: c.points.filter (fun q => decide (s.tick < q.tick + 51200 ∧ q.tick ≠ s.tick)) } }

/-! ### Converting instants (R213, R214, R403) -/

/-- The latest map point at or before the instant `num / den`; the oldest where the map no longer reaches it. -/
def pointFor (num : Int) (den : Nat) : List MapPoint → Option MapPoint
  | [] => none
  | [q] => some q
  | q :: r => if (q.tick * den : Nat) ≤ num then some q else pointFor num den r

/-- Cairn at the instant `num / den` ticks, in units of 2^-49 / den ns; 0 while Cairn is retired. -/
def State.cairnAt (s : State) (num : Int) (den : Nat) : Nat :=
  if s.cairnRetired then 0
  else match pointFor num den s.cairn.points with
    | none => 0
    | some q => (((q.value * 2 * den : Nat) + (num - (q.tick * den : Nat)) * 5 * (2 ^ 48 + q.rate)) % (cairnMod * 2 * den : Nat)).toNat

/-- Cairn's present value in nanoseconds. -/
def State.cairnNs (s : State) : Nat := s.cairnAt s.tick 1 / 2 ^ 49

/-- A full timestamp (R214). -/
structure CTime where
  sec : Nat
  ns : Nat
  frac : Nat
  deriving DecidableEq, Repr

/-- A full timestamp: the fraction is rounded convergently (R205). -/
def CTime.of (value unit : Nat) : CTime :=
  let n := (rneDiv ((value * 2 ^ 16 : Nat) : Int) unit).toNat
  ⟨n / 2 ^ 16 / 10 ^ 9 % 2 ^ 48, n / 2 ^ 16 % 10 ^ 9, n % 2 ^ 16⟩

def State.cairnTime (s : State) (num : Int) (den : Nat) : CTime := .of (s.cairnAt num den) (2 ^ 49 * den)

/-- A timestamp with a signed correction in nanoseconds. -/
def CTime.add (t : CTime) (d : Int) : CTime :=
  let n := (((t.sec * 10 ^ 9 + t.ns : Nat) : Int) + d) % ((2 ^ 48 * 10 ^ 9 : Nat) : Int)
  { t with sec := n.toNat / 10 ^ 9, ns := n.toNat % 10 ^ 9 }

/-- The slot format: seconds [1:0] and whole nanoseconds. -/
def State.cairnSlot (s : State) (num : Int) (den : Nat) : Nat :=
  let n := (rneDiv (s.cairnAt num den : Nat) (2 ^ 49 * den)).toNat
  n / 10 ^ 9 % 4 * 2 ^ 30 + n % 10 ^ 9

/-! ### Validity (R401) -/

/-- Keep VALID in step; each change fires EV_CRN_VALID in both Peaks. -/
def cairnValid (s : State) : State :=
  let v := s.bit .a Fd.crnStatusStepped && decide (s.cairn.lease ≠ 0) && !s.cairnRetired
  if v = s.bit .a Fd.crnStatusValid then s else fireBoth Ev.crnValid (s.setBit .a Fd.crnStatusValid v)

/-- Whole seconds of lease left. -/
def State.leaseLeft (s : State) : Nat := s.cairn.lease / 125000000

/-- A write of SYNC that the gate admits: LEASE seconds in network cycles. -/
def leaseWrite (v : Nat) (s : State) : State :=
  let s := s.setReg .a Reg.crnSync (v % 256)
  cairnValid { s with cairn := { s.cairn with lease := v % 256 * 125000000 } }

/-! ### RATE, ARM and STEP (R397, R399, R400) -/

def rateLoWrite (v : Nat) (s : State) : State := { s with cairn := { s.cairn with rateHeld := some v } }

def rateCommit (v : Nat) (s : State) : State :=
  let lo := s.cairn.rateHeld.getD (s.reg .a Reg.crnRateLo)
  let r := signed 40 (v % 256 * 2 ^ 32 + lo)
  let s := { s with cairn := { s.cairn with rateHeld := none } }
  if 140737488355 < r.natAbs then s.raise .a Fd.crnFlagsRange
  else mapPoint ((s.setReg .a Reg.crnRateLo lo).setReg .a Reg.crnRateHi (v % 256))

/-- Is a timebase locked to Cairn (R289)? -/
def State.tbLocked (s : State) : Bool :=
  (List.range 8).any (fun n => s.bit .a (Fd.pwmTbAlignTrack n) || s.bit .a (Fd.pwmTbStatusArmed n))

def crnRefuse (code : Nat) (s : State) : State := (s.raise .a Fd.crnFlagsCmdRefused).setFld .a Fd.crnStatusRefuse code

def cairnArm (s : State) : State :=
  if s.cairnRetired then crnRefuse 4 s
  else if s.tbLocked then crnRefuse 2 s
  else
    let s := (s.setFld .a Fd.crnStatusArmed 1).setFld .a Fd.crnStatusStepped 0
    cairnValid { s with cairn := { s.cairn with lease := 0 } }

def cairnStep (s : State) : State :=
  let stepNs := s.regI .a Reg.crnStepNs
  if s.cairnRetired then crnRefuse 4 s
  else if s.tbLocked then crnRefuse 2 s
  else if s.bit .a Fd.crnStatusArmed = false then crnRefuse 1 s
  else if 999999999 < stepNs.natAbs then crnRefuse 3 s
  else
    let c := s.cairn
    let stepS := signed 48 (s.reg .a Reg.crnStepSHi % 2 ^ 16 * 2 ^ 32 + s.reg .a Reg.crnStepSLo)
    let n := (((c.sec * 10 ^ 9 + c.ns : Nat) : Int) + stepS * 10 ^ 9 + stepNs) % ((2 ^ 48 * 10 ^ 9 : Nat) : Int)
    let s := { s with cairn := { c with sec := n.toNat / 10 ^ 9, ns := n.toNat % 10 ^ 9 } }
    let s := (s.setFld .a Fd.crnStatusArmed 0).setFld .a Fd.crnStatusStepped 1
    cairnValid (mapPoint (s.bump .a Fd.crnStepsCount Fd.crnStepsSat))

/-- A write of CRN.CTRL: ARM before STEP. -/
def crnCtrlWrite (v : Nat) (s : State) : State :=
  let s := if v % 2 = 1 then cairnArm s else s
  if v / 2 % 2 = 1 then cairnStep s else s

/-! ### Reading (R398) -/

/-- A read of NOW_NS latches the other words for its master. -/
def nowRead (m : Master) (s : State) : Nat × State :=
  let c := s.cairn
  let v := if s.cairnRetired then (0, 0, 0) else (c.ns % 10 ^ 9, c.sec, c.frac / 2 ^ 32)
  (v.1, { s with cairn := { c with latch := Tab.put (fun _ => (0, 0)) c.latch (masterNum m) (v.2.1, v.2.2) } })

def State.nowLatch (s : State) (m : Master) : Nat × Nat := Tab.get (fun _ => (0, 0)) s.cairn.latch (masterNum m)

/-! ### The commands -/

def execRateLoWrite (m : Master) (val : Word) (s : State) : Out :=
  .next (if s.holds m.peak then rateLoWrite val.toNat s else s)
def execRateCommit (m : Master) (val : Word) (s : State) : Out :=
  .next (if s.holds m.peak then rateCommit val.toNat s else s)
def execNowRead (m : Master) (s : State) : Out :=
  .next (if (s.peak m.peak).up then returned (nowRead m s) else s)
def execCairnArm (m : Master) (s : State) : Out := .next (if s.holds m.peak then crnCtrlWrite 1 s else s)
def execCairnStep (m : Master) (s : State) : Out := .next (if s.holds m.peak then crnCtrlWrite 2 s else s)
def execLeaseWrite (m : Master) (val : Word) (s : State) : Out :=
  .next (if s.holds m.peak then leaseWrite val.toNat s else s)

/-- The lease has counted down to zero. -/
def execLeaseExpiry (s : State) : Out :=
  .next (if s.cairn.lease = 0 then s
    else
      let s := { s with cairn := { s.cairn with lease := 0 } }
      cairnValid (if s.bit .a Fd.crnStatusStepped then s.raise .a Fd.crnFlagsLeaseEnd else s))

def execMapPoint (s : State) : Out := .next (if s.cairn.running then mapPoint s else s)

end Sys2Proof.Machine
end

