-- ==== Sys2Proof/Machine/Talus.lean ====
section
/-! DEFINITION. The Moraine pool and the Talus recorder (R371 to R386, R394), from the Couloir output slots. -/

namespace Sys2Proof.Machine

/-! ### Control SRAM (R31) -/

def inSram (a : Nat) : Bool := decide (0x10000000 ≤ a) && decide (a + 4 ≤ 0x10200000)

/-- A block's own write of a word to the Peak's control SRAM, mirrored while a copy runs (R341); an address outside it reaches no memory. -/
def sramPut (p : PeakId) (a v : Nat) (s : State) : State :=
  if inSram a then
    let s := s.setBytes (peakKey p a) 4 v
    if s.copying p then mirrorBytes p (peakKey p a) (s.byteList (peakKey p a) 4) s else s
  else s

def State.sramGet (s : State) (p : PeakId) (a : Nat) : Nat := if inSram a then s.bytes (peakKey p a) 4 else 0

/-- Write words from an address on. -/
def sramPuts (p : PeakId) (a : Nat) : List Nat → State → State
  | [], s => s
  | v :: r, s => sramPuts p (a + 4) r (sramPut p a v s)

/-! ### The pool (R371 to R375) -/

def State.talus (s : State) (p : PeakId) : Talus := (s.peak p).talus
def State.setTalus (s : State) (p : PeakId) (t : Talus) : State := s.setPeak p { s.peak p with talus := t }

def isTalusOwner (c : Nat) : Bool := decide (1 ≤ c) && decide (c ≤ 4)

/-- The owner of buffer b; none where there is no such buffer. -/
def State.owner (s : State) (p : PeakId) (b : Nat) : Option Nat := if b < 1536 then some (s.fld p (Fd.talMorOwnOwner b)) else none

/-- FREE fell below MOR_LOW, or rose to MOR_LOW + 16 (R375). -/
def morLow (p : PeakId) (s : State) : State :=
  let free := s.fld p Fd.talMorCountFree
  let low := s.fld p Fd.talMorLowFree
  let t := s.talus p
  if free < low ∧ t.lowSpent = false then
    fire p Ev.morLow ((s.setTalus p { t with lowSpent := true }).raise p Fd.talFlagsMorLow)
  else if low + 16 ≤ free then s.setTalus p { t with lowSpent := false }
  else s

/-- A handover: buffer b gets a new owner (R373). -/
def setOwner (p : PeakId) (b owner : Nat) (s : State) : State :=
  let old := s.fld p (Fd.talMorOwnOwner b)
  let free := s.fld p Fd.talMorCountFree + (if owner = 0 then 1 else 0) - (if old = 0 then 1 else 0)
  let tal := s.fld p Fd.talMorCountTalus + (if isTalusOwner owner then 1 else 0) - (if isTalusOwner old then 1 else 0)
  let s := s.setFld p (Fd.talMorOwnOwner b) owner
  morLow p ((s.setFld p Fd.talMorCountFree free).setFld p Fd.talMorCountTalus tal)

/-- The lowest-numbered FREE buffer. -/
def State.freeBuf (s : State) (p : PeakId) : Option Nat := (List.range 1536).find? (fun b => decide (s.fld p (Fd.talMorOwnOwner b) = 0))

/-- How many buffers have an owner that satisfies a test, counted over those that are not FREE. -/
def State.owned (s : State) (p : PeakId) (f : Nat → Bool) : Nat :=
  (s.regs.filter (fun e => decide (regKey p (Reg.talMorOwn 0) ≤ e.1) && decide (e.1 ≤ regKey p (Reg.talMorOwn 1535)) &&
    decide (bits e.2.toNat 23 16 ≠ 0) && f (bits e.2.toNat 23 16))).length

/-- How many segments are in a state, counted over those that are not FREE. -/
def State.segs (s : State) (p : PeakId) (st : Nat) : Nat := ((s.talus p).segState.filter (fun e => decide (e.2 = st))).length

/-- TAKE freezes the counts (R374, R378). -/
def snapTake (p : PeakId) (s : State) : State :=
  let all := s.owned p (fun _ => true)
  let s := s.setReg p Reg.talSnapMor0 (1536 - all + 2 ^ 16 * s.owned p (fun c => decide (c = 0x30)))
  let s := s.setReg p Reg.talSnapMor1 (s.owned p (fun c => decide (c = 0x10)) +
    2 ^ 16 * s.owned p (fun c => decide (0x20 ≤ c) && decide (c ≤ 0x27)))
  let s := s.setReg p Reg.talSnapMor2 (s.owned p isTalusOwner + 2 ^ 16 * s.owned p (fun c => decide (c = 0xFF)))
  let a := s.segs p 1
  let f := s.segs p 2
  let c := s.segs p 3
  let s := s.setReg p Reg.talSnapSeg0 (4096 - a - f - c + 2 ^ 16 * a)
  s.setReg p Reg.talSnapSeg1 (f + 2 ^ 16 * c)

/-! ### Segments (R378 to R385) -/

def State.segOf (s : State) (p : PeakId) (seg : Nat) : Nat := Tab.get (fun _ => 0) (s.talus p).segState seg
def State.setSeg (s : State) (p : PeakId) (seg st : Nat) : State :=
  let t := s.talus p
  s.setTalus p { t with segState := Tab.put (fun _ => 0) t.segState seg st }
def State.segBufs (s : State) (p : PeakId) (seg : Nat) : List Nat := Tab.get (fun _ => []) (s.talus p).segChain seg
def State.setSegBufs (s : State) (p : PeakId) (seg : Nat) (l : List Nat) : State :=
  let t := s.talus p
  s.setTalus p { t with segChain := Tab.put (fun _ => []) t.segChain seg l }

/-- A channel's geometry: members, S, F, PRE_BUFS and the segment's buffers (R376, R378). -/
def chKind (s : State) (p : PeakId) (c : Nat) : Nat := s.fld p (Fd.talChCfgKind c)
/-- The output slot a channel records. -/
def chSlot (s : State) (p : PeakId) (c : Nat) : Nat :=
  match chKind s p c with
  | 0 => 0
  | 1 => 2
  | 2 => 4
  | _ => 5
def chTs (s : State) (p : PeakId) (c : Nat) : Bool := s.bit p (Fd.talChCfgTs c) || decide (2 ≤ chKind s p c)
def chN (s : State) (p : PeakId) (c : Nat) : Nat := 2 ^ s.fld p (Fd.talChCfgLog2N c)
/-- log2 of S, the least power of two at or above N + TS. -/
def chLogS (s : State) (p : PeakId) (c : Nat) : Nat := s.fld p (Fd.talChCfgLog2N c) + (if chTs s p c then 1 else 0)
def chF (s : State) (p : PeakId) (c : Nat) : Nat := 1024 / 2 ^ chLogS s p c
def chPre (s : State) (p : PeakId) (c : Nat) : Nat := s.fld p (Fd.talChCfgPrePreBufs c)
def chBufs (s : State) (p : PeakId) (c : Nat) : Nat := s.fld p (Fd.talChCfgSegBufs c) + 1
/-- Member f's input: SRC names four members, SRC_HI the next four. -/
def chMember (s : State) (p : PeakId) (c f : Nat) : Nat :=
  if f < 4 then bits (s.reg p (Reg.talChSrc c)) (6 * f + 5) (6 * f) else bits (s.reg p (Reg.talChSrcHi c)) (6 * (f - 4) + 5) (6 * (f - 4))

/-- Write a segment's descriptor from what the channel holds, word 0 last (R385). -/
def putDescriptor (p : PeakId) (c seg st : Nat) (overflow stopped : Bool) (s : State) : State :=
  let t := s.talChan p c
  let a := s.reg p Reg.talSegBase + 0x40 * seg
  let ring := chPre s p c * chF s p c
  let pre := min t.ringCount ring
  let off := if ring < t.ringCount then t.ringCount % ring else 0
  let b := fun (x : Bool) (n : Nat) => if x then 2 ^ n else 0
  let started := decide (2 ≤ st)
  -- the first kept frame with REPHASE, as its index in segment order
  let index := fun (n : Nat) => if n < t.ringCount then n - (t.ringCount - pre) else n - t.ringCount + pre
  let kept := t.rephs.filter (fun r => decide (t.ringCount - pre ≤ r.1))
  let time := s.cairnTime t.instant 1024
  let w0 := st * 2 ^ 30 + c * 2 ^ 28 + b overflow 27 + b stopped 26 +
    (if started then b (decide (2 ≤ kept.length)) 25 + b t.single 24 + t.primary * 2 ^ 20 + t.trigBits else 0)
  let w1 := t.chain.headD 0 + t.chain.length * 2 ^ 16 + (if started then t.frac * 2 ^ 24 else 0)
  let rest := if started then
      [pre + off * 2 ^ 16, t.frames + chLogS s p c * 2 ^ 24, time.sec % 2 ^ 32, time.sec / 2 ^ 32 + time.frac * 2 ^ 16, time.ns, t.eTrig] ++
        (match kept with
         | [] => [0, 0]
         | r :: _ => [index r.1 + 2 ^ 16 + b r.2.2 17, r.2.1]) ++ [t.lateTrig]
    else [0, chLogS s p c * 2 ^ 24, 0, 0, 0, 0, 0, 0, 0]
  let s := sramPuts p (a + 4) (w1 :: rest ++ [0, 0, 0, 0, 0]) s
  sramPut p a w0 s

/-- Append a buffer to a channel's chain: the link of the last one, LAST, and the owner (R380). -/
def chainBuf (p : PeakId) (c b : Nat) (s : State) : State :=
  let t := s.talChan p c
  let s := match t.chain.getLast? with
    | none => s
    | some l => (s.setFld p (Fd.talMorOwnNext l) b).setFld p (Fd.talMorOwnLast l) 0
  let s := (s.setFld p (Fd.talMorOwnNext b) 0).setFld p (Fd.talMorOwnLast b) 1
  setOwner p b (c + 1) (s.setTalChan p c { t with chain := t.chain ++ [b] })

/-- Take the lowest-numbered FREE buffer into the chain, n times. -/
def chainFree (p : PeakId) (c : Nat) : Nat → State → State
  | 0, s => s
  | n + 1, s => chainFree p c n (match s.freeBuf p with | some b => chainBuf p c b s | none => s)

/-- Arm a channel, or let it starve (R380). -/
def talusArm (p : PeakId) (c : Nat) (s : State) : State :=
  let need := chPre s p c + 1
  match (List.range 4096).find? (fun seg => decide (s.segOf p seg = 0)) with
  | some seg =>
    if need ≤ s.fld p Fd.talMorCountFree then
      let t := s.talChan p c
      let s := s.setTalChan p c { closed := t.closed }
      let s := chainFree p c need s
      let s := (s.setSeg p seg 1).setSegBufs p seg (s.talChan p c).chain
      let s := (s.setFld p (Fd.talChStatusSeg c) seg).setFld p (Fd.talChStatusState c) 1
      putDescriptor p c seg 1 false false s
    else (s.setFld p (Fd.talChStatusState c) 4).raise p Fd.talFlagsStarved
  | none => (s.setFld p (Fd.talChStatusState c) 4).raise p Fd.talFlagsStarved

/-- The segment closes (R384): the descriptor, the events and the count; the channel re-arms or, with SEGS reached, stops. -/
def segmentClose (p : PeakId) (c : Nat) (overflow stopped : Bool) (s : State) : State :=
  let seg := s.fld p (Fd.talChStatusSeg c)
  let s := (s.setSeg p seg 3).setSegBufs p seg (s.talChan p c).chain
  let s := putDescriptor p c seg 3 overflow stopped s
  let s := s.setTalChan p c { s.talChan p c with closed := (s.talChan p c).closed + 1 }
  let s := s.bump p (Fd.talChClosedCount c) (Fd.talChClosedSat c)
  let n := s.fld p (Fd.talChCfgSegs c)
  let done := stopped || (decide (n ≠ 0) && decide (2 ^ n - 1 ≤ (s.talChan p c).closed))
  let s := if done then (s.setFld p (Fd.talChCtrlRun c) 0).setFld p (Fd.talChStatusState c) 0
    else s.setFld p (Fd.talChStatusState c) 3
  let s := if overflow then fire p Ev.talOvf (s.raise p Fd.talFlagsOverflow) else s
  fire p Ev.talSeg s

/-- The words of a frame: the timestamp where TS holds, then the members in order (R376). -/
def frameWords (p : PeakId) (c : Nat) (s : State) : List Nat :=
  let k := chSlot s p c
  let m := (List.range (chN s p c)).map (fun f => (s.slot p (chMember s p c f) k).toNat)
  let e := s.slotE p (chMember s p c 0) k
  let w := if chTs s p c then s.cairnSlot e.1 e.2 :: m else m
  w ++ List.replicate (2 ^ chLogS s p c - w.length) 0

/-- Write a frame at frame position `n` of the chain's buffers from `base` on. -/
def putFrame (p : PeakId) (c base n : Nat) (s : State) : State :=
  let t := s.talChan p c
  let b := t.chain.getD (base + n / chF s p c) 0
  let a := 0x20000000 + 0x1000 * b + n % chF s p c * (4 * 2 ^ chLogS s p c)
  let rec put : Nat → List Nat → State → State
    | _, [], s => s
    | a, v :: r, s => put (a + 4) r (s.setBytes (peakKey p a) 4 v)
  put a (frameWords p c s) s

/-- A frame is stored from the trigger frame on; the segment closes with its last frame or for want of a buffer (R384). -/
def storeFrame (p : PeakId) (c : Nat) (s : State) : State :=
  let t := s.talChan p c
  let f := chF s p c
  let total := (chBufs s p c - chPre s p c) * f
  let s := putFrame p c (chPre s p c) t.frames s
  let s := s.setTalChan p c { s.talChan p c with frames := t.frames + 1 }
  if total ≤ t.frames + 1 then segmentClose p c false false s
  else if (t.frames + 1) % f = 0 then
    match s.freeBuf p with
    | some b => chainBuf p c b s
    | none => segmentClose p c true false s
  else s

/-- A frame is taken at an update of member 0's output (R376, R380, R383). -/
def talusFrame (p : PeakId) (c : Nat) (s : State) : State :=
  let k := chSlot s p c
  let i := chMember s p c 0
  let e := s.slotE p i k
  let word := s.slotE p i k
  let slotTime := s.cairnSlot word.1 word.2
  let single := s.bit .a Fd.cirqStatusSingle
  let note := fun (n : Nat) (t : TalChan) =>
    if wordReph (s.slot p i k) then { t with rephs := t.rephs ++ [(n, slotTime, single)] } else t
  let t := s.talChan p c
  match s.fld p (Fd.talChStatusState c) with
  | 1 =>
    let due := t.trigs.filter (fun g => decide (g.instant ≤ e1024 e))
    match due with
    | [] =>
      let ring := chPre s p c * chF s p c
      if ring = 0 then s
      else
        let s := putFrame p c 0 (t.ringCount % ring) s
        s.setTalChan p c { note t.ringCount t with ringCount := t.ringCount + 1 }
    | g :: r =>
      let prim := r.foldl (fun b x => if x.cond < b.cond then x else b) g
      let late := t.trigs.filter (fun g => decide (e1024 e < g.instant))
      let mask := fun (l : List TalTrig) (m : Nat) => l.foldl (fun m x => m ||| 2 ^ x.cond) m
      let seg := s.fld p (Fd.talChStatusSeg c)
      let t := { note t.ringCount t with trigs := [], trigBits := mask due 0, lateTrig := mask late 0, primary := prim.cond
                                         instant := prim.instant, frac := prim.frac, eTrig := slotTime, single := single }
      let s := ((s.setTalChan p c t).setSeg p seg 2).setFld p (Fd.talChStatusState c) 2
      let s := putDescriptor p c seg 2 false false s
      storeFrame p c s
  | 2 => storeFrame p c (s.setTalChan p c (note (t.ringCount + t.frames) t))
  | _ => s

/-! ### Trigger conditions (R381, R382) -/

def State.talCond (s : State) (p : PeakId) (n : Nat) : TalCond := Tab.get (fun _ => {}) (s.talus p).conds n
def State.setTalCond (s : State) (p : PeakId) (n : Nat) (c : TalCond) : State :=
  let t := s.talus p
  s.setTalus p { t with conds := Tab.put (fun _ => {}) t.conds n c }

/-- The interpolated trigger at a level between two valid outputs: its instant in 1/1024 ticks and FRAC (R382). -/
def crossing (level x0 x1 e0 e1 : Int) : Int × Nat :=
  let d := x1 - x0
  let n := rneDiv (256 * (level - x0) * (if d < 0 then -1 else 1)) d.natAbs
  let f := if n < 1 then 1 else n.toNat
  if 256 ≤ f then (e1, 0) else (e0 + rneDiv ((f : Int) * (e1 - e0)) 256, f)

/-- Evaluate condition n on a new output of its slot. -/
def condUpdate (p : PeakId) (n : Nat) (w : Word) (e : Int) (s : State) : State :=
  let c := s.talCond p n
  if wordValid w = false then s.setTalCond p n { c with gap := true }
  else
    let x := wordValue w
    let level := signed 24 (s.reg p (Reg.talCondLevel n))
    let level2 := signed 24 (s.reg p (Reg.talCondLevel2 n))
    let hyst : Int := s.reg p (Reg.talCondHyst n) % 2 ^ 23
    let edge := s.fld p (Fd.talCondCfgEdge n)
    let edge := if edge = 3 then Config.talEdge3.val else edge
    let up := decide (edge ≠ 1)
    let down := decide (edge ≠ 0)
    let hist := (x :: c.hist).take 256
    let keep := { c with prev := some (x, e), gap := false, hist := hist }
    let shot := fun (b x0 e0 : Int) (t : TalCond) (s : State) =>
      let q := if c.gap then (e, 0) else crossing b x0 x e0 e
      talusTrigger p n q.1 q.2 (s.setTalCond p n t)
    match s.fld p (Fd.talCondCfgKind n) with
    | 1 =>
      let spent := if (c.spent = 1 ∧ x < level - hyst) ∨ (c.spent = 2 ∧ level + hyst < x) then 0 else c.spent
      match c.prev with
      | none => s.setTalCond p n { keep with spent := spent }
      | some (x0, e0) =>
        if spent = 0 ∧ up = true ∧ x0 < level ∧ level ≤ x then shot level x0 e0 { keep with spent := 1 } s
        else if spent = 0 ∧ down = true ∧ level < x0 ∧ x ≤ level then shot level x0 e0 { keep with spent := 2 } s
        else s.setTalCond p n { keep with spent := spent }
    | 2 =>
      let s := s.setTalCond p n keep
      match hist[s.fld p (Fd.talCondCfgDist n)]? with
      | none => s
      | some y =>
        if (up = true ∧ level2 < x - y) ∨ (down = true ∧ x - y < -level2) then talusTrigger p n e 0 s else s
    | 3 =>
      let inside := fun (v : Int) => decide (level ≤ v ∧ v ≤ level2)
      match c.prev with
      | none => s.setTalCond p n keep
      | some (x0, e0) =>
        if up && inside x0 && !inside x then shot (if x < level then level else level2) x0 e0 keep s
        else if down && !inside x0 && inside x then shot (if x0 < level then level else level2) x0 e0 keep s
        else s.setTalCond p n keep
    | _ => s

/-- An output slot has been updated: the conditions on it are evaluated, then the channels whose member 0 it is take a frame. -/
def talusUpdate (p : PeakId) (i k : Nat) (s : State) : State :=
  let w := s.slot p i k
  let e := e1024 (s.slotE p i k)
  let code := if k = 0 then 0 else if k = 2 then 1 else if k = 4 then 2 else 3
  let s := forAll (List.range 16) (fun n s =>
    let kind := s.fld p (Fd.talCondCfgKind n)
    if 1 ≤ kind ∧ kind ≤ 3 ∧ s.fld p (Fd.talCondCfgSlot n) = code ∧ s.fld p (Fd.talCondCfgEvent n) % 64 = i ∧ code ≠ 3 ∧
        s.inputRetired p i = false then
      condUpdate p n w e s
    else s) s
  forAll (List.range 4) (fun c s =>
    if s.bit p (Fd.talChCtrlRun c) && decide (chSlot s p c = k) && decide (chMember s p c 0 = i) then talusFrame p c s else s) s

/-- A Ridgeline engine changes mode (KIND MODE). -/
def talusMode (p : PeakId) (engine mode : Nat) (instant : Int) (s : State) : State :=
  forAll (List.range 16) (fun n s =>
    if s.fld p (Fd.talCondCfgKind n) = 5 ∧ s.fld p (Fd.talCondCfgEngine n) = engine ∧
        (s.bit p (Fd.talCondCfgAny n) = true ∨ s.fld p (Fd.talCondCfgToMode n) = mode) then talusTrigger p n instant 0 s
    else s) s

/-! ### Running a channel (R377, R379, R384) -/

/-- Member 0's update rate in outputs per second, rounded up. -/
def chRate (p : PeakId) (c : Nat) (s : State) : Nat :=
  match chKind s p c with
  | 0 => 20000000
  | 1 => 625000
  | 2 => 400000000 / (s.fld .a (Fd.pwmTbPrdPrd (s.fld p (Fd.clnInCfgMeanTb (chMember s p c 0)))) + 1) + 1
  | _ => 70 * 2 ^ s.fld p (Fd.clnRsgCfgNcLog2 (s.fld p (Fd.clnInCfgRsg (chMember s p c 0))))

def runRefuse (p : PeakId) (c code : Nat) (s : State) : State :=
  ((s.setFld p (Fd.talChCtrlRun c) 0).setFld p (Fd.talChStatusRefuse c) code).raise p Fd.talFlagsRunRefused

def talusRun (p : PeakId) (c : Nat) (s : State) : State :=
  if s.retired p 0 21 || s.bit p (Fd.talChCtrlRun c) then s
  else if (List.range (chN s p c)).any (fun f => decide (47 < chMember s p c f) || s.inputRetired p (chMember s p c f)) then runRefuse p c 1 s
  else
    let sum := (((List.range 4).filter (fun d => decide (d = c) || s.bit p (Fd.talChCtrlRun d))).map
      (fun d => 2 ^ chLogS s p d * chRate p d s)).foldl (· + ·) 0
    if 320000000 < sum then runRefuse p c 2 s
    else if chBufs s p c ≤ chPre s p c then runRefuse p c 3 s
    else
      let s := (s.setFld p (Fd.talChCtrlRun c) 1).setFld p (Fd.talChStatusRefuse c) 0
      talusArm p c (s.setTalChan p c {})

def talusStop (p : PeakId) (c : Nat) (s : State) : State :=
  if s.bit p (Fd.talChCtrlRun c) then
    let st := s.fld p (Fd.talChStatusState c)
    let seg := s.fld p (Fd.talChStatusSeg c)
    if st = 2 then segmentClose p c false true s
    else
      let s := (s.setFld p (Fd.talChCtrlRun c) 0).setFld p (Fd.talChStatusState c) 0
      if st = 1 then
        let s := forAll (s.talChan p c).chain (fun b s => setOwner p b 0 s) s
        let s := ((s.setSeg p seg 0).setSegBufs p seg []).setTalChan p c {}
        sramPut p (s.reg p Reg.talSegBase + 0x40 * seg) 0 s
      else s
  else s

def execTalusRun (m : Master) (c : Fin 4) (s : State) : Out := .next (if (s.peak m.peak).up then talusRun m.peak c.val s else s)
def execTalusStop (m : Master) (c : Fin 4) (s : State) : Out := .next (if (s.peak m.peak).up then talusStop m.peak c.val s else s)

/-- A running channel that waits takes a segment and buffers. -/
def execTalusArm (p : PeakId) (c : Fin 4) (s : State) : Out :=
  .next (if s.bit p (Fd.talChCtrlRun c.val) && decide (3 ≤ s.fld p (Fd.talChStatusState c.val)) then talusArm p c.val s else s)

def execSnapTake (m : Master) (s : State) : Out := .next (if (s.peak m.peak).up then snapTake m.peak s else s)

/-! ### Moraine commands (R373, R386) -/

/-- A master's result (banked). -/
def setResult (m : Master) (done : Bool) (code n : Nat) (s : State) : State :=
  let t := s.talus m.peak
  let r := BitVec.ofNat 32 ((if done then 2 ^ 31 else 0) + code * 2 ^ 16 + n)
  s.setTalus m.peak { t with results := Tab.put (fun _ => 0) t.results (masterNum m) r }

def State.morResult (s : State) (m : Master) : Word := Tab.get (fun _ => 0) (s.talus m.peak).results (masterNum m)

def morAlloc (m : Master) (src dest : Nat) (s : State) : State :=
  let p := m.peak
  if src ≠ 0 then setResult m true 1 0 s
  else match s.freeBuf p with
    | none => setResult m true 2 0 s
    | some b => if isTalusOwner dest || decide (dest = 0) || decide (dest = 0xFF) then setResult m true 3 0 s
      else setResult m true 0 b (setOwner p b dest s)

def morGive (m : Master) (b src dest : Nat) (s : State) : State :=
  let p := m.peak
  if s.owner p b ≠ some src then setResult m true 1 b s
  else if isTalusOwner src || isTalusOwner dest || decide (src = 0xFF) || decide (dest = 0xFF) then setResult m true 3 b s
  else if 0x20 ≤ src ∧ src ≤ 0x27 ∧ s.bit p (⟨Reg.macCtrl + p.num * 0x10000, 0, 0⟩ : Fld) = true ∧
      s.fld p ⟨Reg.macTqStatus (src - 0x20) + p.num * 0x10000, 17, 9⟩ ≠ 0 then setResult m true 6 b s
  else setResult m true 0 b (setOwner p b dest s)

def morSegGive (m : Master) (seg src dest : Nat) (s : State) : State :=
  let p := m.peak
  let t := s.talus p
  let chain := s.segBufs p seg
  if t.gives.any (fun g => decide (g.master = masterNum m)) then setResult m true 5 seg s
  else if s.segOf p seg ≠ 3 ∨ t.gives.any (fun g => decide (g.seg = seg)) = true then setResult m true 4 seg s
  else if isTalusOwner dest || decide (dest = 0xFF) then setResult m true 3 seg s
  else if chain.any (fun b => decide (s.fld p (Fd.talMorOwnOwner b) ≠ src)) then setResult m true 1 seg s
  else
    let s := match chain with
      | [] => s
      | b :: _ => setOwner p b 0xFF s
    let t := s.talus p
    setResult m false 0 seg (s.setTalus p { t with gives := t.gives ++ [⟨masterNum m, seg, dest, chain⟩] })

/-- The last buffer of a SEG_GIVE moves: the segment becomes FREE and its word 0 is written. -/
def segGiveComplete (m : Master) (s : State) : State :=
  let p := m.peak
  let t := s.talus p
  match t.gives.find? (fun g => decide (g.master = masterNum m)) with
  | none => s
  | some g =>
    let s := s.setTalus p { t with gives := t.gives.filter (fun h => decide (h.master ≠ masterNum m)) }
    let s := forAll g.left (fun b s => setOwner p b g.newOwner s) s
    let s := (s.setSeg p g.seg 0).setSegBufs p g.seg []
    setResult m true 0 g.seg (sramPut p (s.reg p Reg.talSegBase + 0x40 * g.seg) 0 s)

/-- A write of MOR_CMD; other OP values have no effect. -/
def morCommand (m : Master) (v : Nat) (s : State) : State :=
  match bits v 15 13 with
  | 1 => morAlloc m (bits v 23 16) (bits v 31 24) s
  | 2 => morGive m (bits v 11 0) (bits v 23 16) (bits v 31 24) s
  | 3 => morSegGive m (bits v 11 0) (bits v 23 16) (bits v 31 24) s
  | _ => s

def execMorAlloc (m : Master) (dest src : BitVec 8) (s : State) : Out :=
  .next (if (s.peak m.peak).up then morAlloc m src.toNat dest.toNat s else s)
def execMorGive (m : Master) (buffer : BitVec 12) (src dest : BitVec 8) (s : State) : Out :=
  .next (if (s.peak m.peak).up then morGive m buffer.toNat src.toNat dest.toNat s else s)
def execMorSegGive (m : Master) (seg : BitVec 12) (src dest : BitVec 8) (s : State) : Out :=
  .next (if (s.peak m.peak).up then morSegGive m seg.toNat src.toNat dest.toNat s else s)
def execSegGiveComplete (m : Master) (s : State) : Out := .next (if (s.peak m.peak).up then segGiveComplete m s else s)

/-- A write of COND[n].CFG, discarded where its KIND, input or SLOT is out of range (R381). -/
def condCfgOk (v : Nat) : Bool :=
  let kind := bits v 2 0
  decide (kind ≤ 5) && decide (bits v 6 5 ≠ 3) && !(decide (1 ≤ kind) && decide (kind ≤ 3) && decide (47 < bits v 29 24))

end Sys2Proof.Machine
end

