-- ==== Sys2Proof/Machine/Mac.lean ====
section
/-! DEFINITION. The Ethernet MACs and MDIO (R406 to R418). Peak p's own MAC is MAC p (R26). -/

namespace Sys2Proof.Machine

/-- A field of the register of MAC p that `f` names in MAC0's map. -/
def macF (p : PeakId) (f : Fld) : Fld := { f with addr := f.addr + p.num * 0x10000 }
def macA (p : PeakId) (a : Nat) : Nat := a + p.num * 0x10000

/-! ### Receiving (R408 to R410) -/

/-- Bytes from the wire, most significant first. -/
def wireNum (l : List Byte) (at_ n : Nat) : Nat := ((l.drop at_).take n).foldl (fun a b => a * 256 + b.toNat) 0

/-- The six bytes of a register pair, the first transmitted in bits [7:0]. -/
def State.macAddr (s : State) (p : PeakId) (lo hi : Nat) : List Byte :=
  let n := s.reg p (macA p lo) + 2 ^ 32 * (s.reg p (macA p hi) % 2 ^ 16)
  (List.range 6).map (fun i => BitVec.ofNat 8 (n / 256 ^ i))

/-- Is the destination one that the MAC accepts (R409)? -/
def macAccepts (p : PeakId) (frame : List Byte) (s : State) : Bool :=
  let d := frame.take 6
  decide (d = s.macAddr p Reg.macAddrLo Reg.macAddrHi) || decide (d = List.replicate 6 0xFF) ||
    decide (d = [0x01, 0x1B, 0x19, 0x00, 0x00, 0x00]) || decide (d = [0x01, 0x80, 0xC2, 0x00, 0x00, 0x0E]) ||
    (List.range 4).any (fun m => decide (d = s.macAddr p (Reg.macMcastLo m) (Reg.macMcastHi m))) || s.bit p (macF p Fd.macCfgPromisc)

/-- The class of a frame, looking past one 802.1Q tag (R409). -/
def macClass (frame : List Byte) : Nat :=
  let h := if wireNum frame 12 2 = 0x8100 then 18 else 14
  let t := wireNum frame (h - 2) 2
  let udp := fun (o : Nat) =>
    let port := wireNum frame (o + 2) 2
    if port = 319 then 1 else if port = 320 then 2 else 0
  if t = 0x88F7 then (if wireNum frame h 1 % 16 ≤ 3 then 1 else 2)
  else if t = 0x88B8 then 3
  else if t = 0x88BA then 4
  else if t = 0x0800 ∧ wireNum frame (h + 9) 1 = 17 then udp (h + 4 * (wireNum frame h 1 % 16))
  else if t = 0x86DD ∧ wireNum frame (h + 6) 1 = 17 then udp (h + 40)
  else 0

/-- Store bytes to control SRAM, mirrored while a copy runs (R341). -/
def sramBytes (p : PeakId) (a : Nat) (l : List Byte) (s : State) : State :=
  let s := forAll (l.zip (List.range l.length)) (fun x s =>
    if 0x10000000 ≤ a + x.2 ∧ a + x.2 < 0x10200000 then s.setByte (peakKey p (a + x.2)) x.1 else s) s
  if s.copying p then mirrorBytes p (peakKey p a) (s.byteList (peakKey p a) l.length) s else s

/-- A timestamp's three words: seconds [31:0]; fraction and seconds [47:32]; nanoseconds (R410). -/
def CTime.words (t : CTime) : List Nat := [t.sec % 2 ^ 32, t.frac * 2 ^ 16 + t.sec / 2 ^ 32, t.ns]

/-- The timestamp of the instant `num / den` with a latency register and the error of R407. -/
def macStamp (num : Int) (den lat : Nat) (s : State) : CTime × State :=
  let err := ((Config.macTsError s.free).val : Int) - 4
  let t := s.cairnTime num den
  (if s.cairnRetired then t else t.add (signed 16 lat + err), { s with free := s.free + 1 })

/-- A frame has been received; `frame` is its bytes without the FCS, and its timestamp point was `ago` ticks ago. -/
def macReceive (p : PeakId) (frame : List Byte) (fcsOk : Bool) (ago : Nat) (s : State) : State :=
  if s.bit p (macF p Fd.macCtrlRxEn) = false then s
  else if fcsOk = false ∨ frame.length < 60 ∨ 1518 < frame.length then s.bump p (macF p Fd.macRxErrCount) (macF p Fd.macRxErrSat)
  else if macAccepts p frame s = false then s
  else
    let c := macClass frame
    let r := if c = 0 then 0 else 1
    let slots := s.reg p (macA p (Reg.macRxqSlots r)) % 2 ^ 11
    let head := s.reg p (macA p (Reg.macRxqHead r)) % 2 ^ 10
    let a := s.reg p (macA p (Reg.macRxqBase r)) + 2048 * head
    if slots < 2 ∨ 1024 < slots ∨ s.sramGet p a < 2 ^ 31 then
      (s.bump p (macF p (Fd.macRxqDropCount r)) (macF p (Fd.macRxqDropSat r))).raise p (macF p Fd.macFlagsRxDrop)
    else
      let s := sramBytes p (a + 16) frame s
      let ts := macStamp ((s.tick : Int) - ago) 1 (s.reg p (macA p Reg.macRxLat)) s
      let valid := bits (Config.freeWord ts.2.free).toNat 30 30
      let s := { ts.2 with free := ts.2.free + 1 }
      let s := sramPuts p (a + 4) ts.1.words s
      let s := sramPut p a (valid * 2 ^ 30 + c * 2 ^ 24 + frame.length) s
      let s := s.setReg p (macA p (Reg.macRxqHead r)) ((head + 1) % slots)
      fire p (Ev.macRx p.num) s

def execMacReceive (p : PeakId) (frame : List Byte) (fcsOk : Bool) (ago : Word) (s : State) : Out :=
  .next (if (s.peak p).up then macReceive p frame fcsOk ago.toNat s else s)

/-! ### Transmit rings (R411, R412) -/

def State.txSize (s : State) (p : PeakId) (q : Nat) : Nat := s.fld p (macF p (Fd.macTqCfgSize q))
def State.txMac (s : State) (p : PeakId) (q : Nat) : Nat := s.fld p (macF p (Fd.macTqStatusMac q))
def State.txDone (s : State) (p : PeakId) (q : Nat) : Nat := s.fld p (macF p (Fd.macTqStatusDone q))

/-- Keep STATUS.HOST in step, so that the three counts always sum to SIZE. -/
def txCounts (p : PeakId) (q mac done : Nat) (s : State) : State :=
  let s := (s.setFld p (macF p (Fd.macTqStatusMac q)) mac).setFld p (macF p (Fd.macTqStatusDone q)) done
  s.setFld p (macF p (Fd.macTqStatusHost q)) (s.txSize p q - mac - done)

/-- How many positions a write moves a pointer forward, modulo SIZE. -/
def ringMove (size old new : Nat) : Nat := if size = 0 then 0 else (new % size + size - old % size) % size

/-- A write of TAIL gives descriptors to the MAC; one that would pass RECLAIM is discarded. -/
def tqTail (p : PeakId) (q v : Nat) (s : State) : State :=
  let size := s.txSize p q
  let a := macA p (Reg.macTqTail q)
  let n := ringMove size (s.reg p a) v
  if size - s.txMac p q - s.txDone p q < n ∨ size = 0 then s.raise p (macF p Fd.macFlagsRingRange)
  else txCounts p q (s.txMac p q + n) (s.txDone p q) (s.setReg p a (v % size))

/-- A write of RECLAIM takes completed descriptors back; one that would pass HEAD is discarded. -/
def tqReclaim (p : PeakId) (q v : Nat) (s : State) : State :=
  let size := s.txSize p q
  let a := macA p (Reg.macTqReclaim q)
  let n := ringMove size (s.reg p a) v
  if s.txDone p q < n ∨ size = 0 then s.raise p (macF p Fd.macFlagsRingRange)
  else txCounts p q (s.txMac p q) (s.txDone p q - n) (s.setReg p a (v % size))

def execTqTailWrite (m : Master) (q : Fin 8) (val : Word) (s : State) : Out :=
  .next (if (s.peak m.peak).up then tqTail m.peak q.val (val.toNat % 2 ^ 9) s else s)
def execTqReclaimWrite (m : Master) (q : Fin 8) (val : Word) (s : State) : Out :=
  .next (if (s.peak m.peak).up then tqReclaim m.peak q.val (val.toNat % 2 ^ 9) s else s)

/-! ### Sending (R413 to R415) -/

def State.txHead (s : State) (p : PeakId) (q : Nat) : TxHead := Tab.get (fun _ => {}) (s.peak p).tx q
def State.setTxHead (s : State) (p : PeakId) (q : Nat) (h : TxHead) : State :=
  s.setPeak p { s.peak p with tx := Tab.put (fun _ => {}) (s.peak p).tx q h }

/-- The address of the head descriptor, and its word i. -/
def State.txDesc (s : State) (p : PeakId) (q : Nat) : Nat :=
  s.reg p (macA p (Reg.macTqBase q)) + 32 * (s.reg p (macA p (Reg.macTqHead q)) % 2 ^ 9)
def State.txWord (s : State) (p : PeakId) (q i : Nat) : Nat := s.sramGet p (s.txDesc p q + 4 * i)

/-- The time of one byte on the line in nanoseconds. -/
def State.byteNs (s : State) (p : PeakId) : Nat :=
  match s.fld p (macF p Fd.macCtrlSpeed) with
  | 0 => 800
  | 1 => 80
  | 2 => 8
  | _ => Config.macSpeed3

/-- A descriptor completes: its timestamp words, word 0 with DONE and RESULT, the buffer as RET directs, and the ring. -/
def txFinish (p : PeakId) (q result : Nat) (s : State) : State :=
  let a := s.txDesc p q
  let w0 := s.txWord p q 0
  let h := s.txHead p q
  let req := decide (bits w0 17 17 = 1)
  let sent := decide (result ≤ 1)
  let byteTicks := 2 * 8 * s.byteNs p
  let ts := macStamp ((5 * h.started + byteTicks : Nat) : Int) 5 (s.reg p (macA p Reg.macTxLat)) s
  let words := if req && sent then ts.1.words
    else [(Config.freeWord s.free).toNat, (Config.freeWord (s.free + 1)).toNat, (Config.freeWord (s.free + 2)).toNat]
  let s := if req && sent then ts.2 else { s with free := s.free + 3 }
  let s := sramPuts p (a + 16) (words ++ [0]) s
  let s := sramPut p a (putBits (putBits w0 31 31 1) 30 28 result) s
  let b := bits w0 10 0
  let s := if result = 3 ∨ result = 4 then s
    else match bits w0 21 20 with
      | 1 => setOwner p b 0x30 s
      | 2 => setOwner p b 0x00 s
      | _ => s
  let s := if result = 1 ∨ result = 2 then s.bump p (macF p (Fd.macTqLateCount q)) (macF p (Fd.macTqLateSat q)) else s
  let ha := macA p (Reg.macTqHead q)
  let size := s.txSize p q
  let s := s.setReg p ha (if size = 0 then 0 else (s.reg p ha + 1) % size)
  let s := txCounts p q (s.txMac p q - 1) (s.txDone p q + 1) s
  let s := s.setTxHead p q {}
  if req || decide (result ≠ 0) then fire p (Ev.macTxc p.num) s else s

/-- The launch time: the next instant with the descriptor's low 32 seconds bits at or after the present (R414). -/
def launchOf (now s32 ns : Nat) : Nat :=
  let base := now / 10 ^ 9 / 2 ^ 32 * 2 ^ 32 + s32
  let t := base * 10 ^ 9 + ns
  if now ≤ t then t else t + 2 ^ 32 * 10 ^ 9

/-- A descriptor reaches HEAD and is checked (R413). -/
def txCheck (p : PeakId) (q : Nat) (s : State) : State :=
  if s.bit p (macF p Fd.macCtrlTxEn) && decide (s.txMac p q ≠ 0) && decide ((s.txHead p q).stage = 0) then
    let w0 := s.txWord p q 0
    let w1 := s.txWord p q 1
    let len := bits w1 10 0
    if s.owner p (bits w0 10 0) ≠ some (0x20 + q) then txFinish p q 3 s
    else if len < 14 ∨ 1518 < len ∨ 4096 < bits w1 27 16 + len ∨ bits w0 21 20 = 3 then txFinish p q 4 s
    else
      let launch := if bits w0 16 16 = 1 then some (launchOf s.cairnNs (s.txWord p q 3) (s.txWord p q 2 % 2 ^ 30)) else none
      s.setTxHead p q { stage := 1, launch := launch }
  else s

def execTxDescriptorCheck (p : PeakId) (q : Fin 8) (s : State) : Out := .next (if (s.peak p).up then txCheck p q.val s else s)

def execTxFetchComplete (p : PeakId) (q : Fin 8) (s : State) : Out :=
  .next (if (s.peak p).up && decide ((s.txHead p q.val).stage = 1) then s.setTxHead p q.val { s.txHead p q.val with stage := 2 } else s)

/-- Cairn reaches the launch time of a queue's head. -/
def execLaunchTime (p : PeakId) (q : Fin 8) (s : State) : Out :=
  .next (let h := s.txHead p q.val
    if (s.peak p).up && h.launch.isSome && decide (h.stage ≠ 0) then s.setTxHead p q.val { h with reached := true } else s)

/-- Has the head's launch time come? A head without one is eligible at once. -/
def launched (now : Nat) (h : TxHead) : Bool :=
  match h.launch with
  | none => true
  | some t => h.reached || decide (t ≤ now)

/-- Would a transmission that ends at `fin` make another queue's timed head late (R414)? A head whose own time has come contends by
number with other timed heads only. -/
def txBlocked (p : PeakId) (q now fin : Nat) (s : State) : Bool :=
  (List.range 8).any (fun r =>
    let h := s.txHead p r
    match h.launch with
    | some t => decide (r ≠ q) && decide (h.stage = 2) && decide (t < fin) && !(launched now h && (s.txHead p q).launch.isSome)
    | none => false)

/-- The bytes of a head frame on the line: padded to 60, with FCS, preamble and inter-frame gap. -/
def State.txLine (s : State) (p : PeakId) (q : Nat) : Nat := max (bits (s.txWord p q 1) 10 0) 60 + 4 + 8 + 12

/-- The highest-numbered eligible queue starts to send. -/
def txStart (p : PeakId) (s : State) : State :=
  let now := s.cairnNs
  if s.bit p (macF p Fd.macCtrlTxEn) && (s.peak p).sending.isNone then
    match (List.range 8).reverse.find? (fun q => decide ((s.txHead p q).stage = 2) && launched now (s.txHead p q) &&
        !txBlocked p q now (now + s.txLine p q * s.byteNs p) s) with
    | none => s
    | some q =>
      let h := s.txHead p q
      let late := match h.launch with
        | some t => decide (t + 8 < now + 8 * s.byteNs p)
        | none => false
      let s := s.setPeak p { s.peak p with sending := some q }
      s.setTxHead p q { h with stage := 3, started := s.tick, late := late }
  else s

def execTxStart (p : PeakId) (s : State) : Out := .next (if (s.peak p).up then txStart p s else s)

/-- A timed head under LATE_DROP cannot start within 1 µs of its launch time. -/
def execLateDrop (p : PeakId) (q : Fin 8) (s : State) : Out :=
  .next (let h := s.txHead p q.val
    if (s.peak p).up && s.bit p (macF p (Fd.macTqCfgLateDrop q.val)) && h.launch.isSome && decide (1 ≤ h.stage) && decide (h.stage ≤ 2) then
      txFinish p q.val 2 s
    else s)

/-- The frame in transmission ends. -/
def execTxComplete (p : PeakId) (s : State) : Out :=
  .next (match (s.peak p).sending with
    | none => s
    | some q =>
      let late := (s.txHead p q).late
      txFinish p q (if late then 1 else 0) (s.setPeak p { s.peak p with sending := none }))

/-! ### MDIO (R416) -/

/-- A write of MDIO_CMD: it posts a command, or is discarded while BUSY. -/
def mdioWrite (p : PeakId) (v : Nat) (s : State) : State :=
  if s.bit p (macF p Fd.macMdioCmdBusy) then s.raise p (macF p Fd.macFlagsMdioBusy)
  else
    let v := v - bits v 27 26 * 2 ^ 26
    let s := s.setReg p (macA p Reg.macMdioCmd) v
    if bits v 31 31 = 1 then { s with mdio := s.mdio ++ [(p, BitVec.ofNat 32 v)] } else s

/-- The command whose turn it is completes; a read returns data. -/
def mdioComplete (data : Nat) (s : State) : State :=
  match s.mdio with
  | [] => s
  | (p, w) :: r =>
    let s := { s with mdio := r }
    let s := s.setFld p (macF p Fd.macMdioCmdBusy) 0
    let op := bits w.toNat 29 28
    let isRead := if bits w.toNat 30 30 = 0 then decide (op = 2) else decide (2 ≤ op)
    if isRead then s.setReg p (macA p Reg.macMdioData) data else s

def execMdioCommand (m : Master) (val : Word) (s : State) : Out :=
  .next (if (s.peak m.peak).up then mdioWrite m.peak val.toNat s else s)
def execMdioComplete (data : BitVec 16) (s : State) : Out := .next (mdioComplete data.toNat s)

end Sys2Proof.Machine
end

