-- ==== Sys2Proof/Machine/Couloir.lean ====
section
/-! DEFINITION. The Couloir filter chains (R200 to R224): Shoulder, fine path, period means, the fused output and the resampler groups. -/

namespace Sys2Proof.Machine

/-! ### The sample's word (R176, R201) -/

/-- X of a sample word under the input's gain 2^k: VALUE × 2^(3 − k). -/
def sampleX (gain : Nat) (w : Word) : Int := signed 18 (w.toNat % 2 ^ 18) * 2 ^ (3 - gain)

def CSamp.of (f : Flight) : CSamp :=
  let w := f.word.toNat
  ⟨f.at_, sampleX f.gain f.word, decide (bits w 31 31 = 1), bits w 30 28, decide (bits w 27 27 = 1), decide (bits w 25 25 = 1), f.single⟩

/-- Is a sample with REPHASE in an output's support one that its stream has not marked yet (R212)? -/
def marks (marked at_ : Option Nat) : Bool :=
  match at_, marked with
  | some u, some v => decide (v < u)
  | some _, none => true
  | none, _ => false

/-- The newer of two instants. -/
def newerOf (a b : Option Nat) : Option Nat :=
  match a, b with
  | some u, some v => some (max u v)
  | some u, none => some u
  | none, b => b

/-- An output word with its REPHASE bit set or clear. -/
def withReph (w : Word) (reph fine : Bool) : Word := outWord (wordValue w) (wordReason w) (wordClip w) reph fine

/-- A 24-bit stage result: saturated to the nearer end, with CLIP (R205). -/
def sat24 (n : Int) : Stage := if n < -2 ^ 23 then ⟨-2 ^ 23, true⟩ else if 2 ^ 23 - 1 < n then ⟨2 ^ 23 - 1, true⟩ else ⟨n, false⟩

def clnSat (p : PeakId) (sat : Bool) (s : State) : State := if sat then s.raise p Fd.clnFlagsSat else s

/-! ### Shoulder (R206, R209, R211, R212) -/

/-- The chain takes a sample into its Shoulder window, which holds whatever was sampled in the last 200 ns (R206). The first sample of all restarts the
path like one after EN went to 1. -/
def shoulderTake (c : Chain) (x : CSamp) : Chain :=
  let restart := match c.shRestart with
    | some t => decide (t ≤ x.at_)
    | none => c.shStart.isNone
  { c with hist := x :: c.hist.filter (fun y => decide (x.at_ < y.at_ + 80))
           shStart := if restart then some x.at_ else c.shStart, shRestart := if restart then none else c.shRestart }

/-- The reason of the Shoulder value: the window that ends last, as seen at the output. -/
def shoulderReason (c : Chain) (x : CSamp) : Nat :=
  match c.hist.find? (fun y => !y.valid) with
  | some y => y.reason
  | none =>
    match c.shStart with
    | some t => if x.at_ < t + 80 ∨ c.shRestart.isSome = true then 4 else 0
    | none => 4

/-- The instant of the newest sample with REPHASE in the Shoulder window. -/
def shoulderReph (c : Chain) : Option Nat := (c.hist.find? (fun y => y.reph)).map (fun y => y.at_)

/-- The Shoulder value: the mean of the window's samples, and its effective instant. -/
def shoulderValue (c : Chain) (x : CSamp) : Word × (Int × Nat) :=
  let n := c.hist.length
  let sum := c.hist.foldl (fun a y => a + y.x) 0
  let e : Nat := c.hist.foldl (fun a y => a + y.at_) 0
  (outWord (rneDiv (8 * sum) n) (shoulderReason c x) (c.hist.any (fun y => y.clip)) x.reph false, ((e : Int), n))

/-! ### Fine path (R207 to R209, R213) -/

/-- The impulse response of five cascaded boxcars of 8, whose sum is 8^5. -/
def cicTaps : List Nat :=
  [1, 5, 15, 35, 70, 126, 210, 330, 490, 690, 926, 1190, 1470, 1750, 2010, 2226, 2380, 2460] ++
  [2460, 2380, 2226, 2010, 1750, 1470, 1190, 926, 690, 490, 330, 210, 126, 70, 35, 15, 5, 1]

def dot (taps : List Int) (xs : List Stage) : Int := (List.zipWith (fun c x => c * x.v) taps xs).foldl (· + ·) 0

/-- The CIC output: X is in units of 8 × the output's, and 8^5 / 8 = 4,096. -/
def cicOut (slots : List Stage) : Stage :=
  { sat24 (rneDiv (dot (cicTaps.map (fun n => (n : Int))) slots) 4096) with clip := slots.any (fun x => x.clip) }

/-- The taps of a half-band filter with the given odd taps c1, c2, …: 0.5 at the centre, Q1.19. -/
def halfBand (cs : List Int) : List Int :=
  let side := cs.foldr (fun c r => r ++ [c, 0]) []
  side.dropLast ++ [2 ^ 18] ++ side.reverse.drop 1

/-- A half-band stage's output. -/
def hbOut (cs : List Int) (xs : List Stage) : Stage × Bool :=
  let y := sat24 (rneShift (dot (halfBand cs) xs) 19)
  (⟨y.v, y.clip || xs.any (fun x => x.clip)⟩, y.clip)

/-- The odd taps of a bank. -/
def State.hbBank (s : State) (p : PeakId) (first : Nat) (n : Nat) : List Int :=
  (List.range n).map (fun i => signed 20 (s.reg p (first + 4 * i) % 2 ^ 20))

/-- The fine path's group delay in ticks: 16,475 ns, or 16,500 ns in single-domain operation (R204). -/
def fineDelay (single : Bool) : Nat := if single then 6600 else 6590

/-- One slot enters the cascade; every 32nd yields an output. The flag says that a stage saturated. -/
def fineSlot (h1 h2 : List Int) (single : Bool) (f : FinePath) (t : Nat) (v : Int) (clip : Bool) : FinePath × Bool :=
  let first := f.start.isNone
  let n := if first then 0 else f.n + 1
  let f := { f with start := if first then some t else f.start, newest := t, n := n
                    slots := if first then ⟨v, clip⟩ :: List.replicate 35 ⟨v, false⟩ else (⟨v, clip⟩ :: f.slots).take 36 }
  if n % 8 ≠ 0 then (f, false)
  else
    let y := cicOut f.slots
    let f := { f with cic := if first then y :: List.replicate 18 ⟨y.v, false⟩ else (y :: f.cic).take 19 }
    if n % 16 ≠ 0 then (f, false)
    else
      let z := hbOut h1 f.cic
      let f := { f with hb1 := if first then z.1 :: List.replicate 30 ⟨z.1.v, false⟩ else (z.1 :: f.hb1).take 31 }
      if n % 32 ≠ 0 then (f, z.2)
      else
        let o := hbOut h2 f.hb1
        let inv := match f.lastInv with
          | some (u, r) => if t ≤ u + 13180 then r else 0
          | none => 0
        let fill := decide (t < f.start.getD 0 + fineDelay single)
        let reason := if inv ≠ 0 then inv else if fill then 5 else 0
        let sum := f.sum + o.1.v
        ({ f with sum := sum, reph := false
                  ready := f.ready ++ [⟨outWord o.1.v reason o.1.clip f.reph false, (t : Int) - fineDelay single, sum,
                    f.rephAt.filter (fun u => decide (t ≤ u + 13180))⟩] }, z.2 || o.2)

/-- Slots without a sample take the value of the latest sample before them (R208). -/
def fineHold (h1 h2 : List Int) (single : Bool) : Nat → FinePath → Nat → FinePath × Bool
  | 0, f, _ => (f, false)
  | fuel + 1, f, t =>
    if f.start.isSome && decide (f.newest + 40 ≤ t) then
      let a := fineSlot h1 h2 single f (f.newest + 20) f.held false
      let b := fineHold h1 h2 single fuel a.1 t
      (b.1, a.2 || b.2)
    else (f, false)

/-- A sample enters the fine path (R208, R209). A slot without a sample next to single-domain operation counts as filled in it (R213). -/
def fineTake (h1 h2 : List Int) (f : FinePath) (x : CSamp) : FinePath × Bool :=
  let a := fineHold h1 h2 (f.single || x.single) 4000 f x.at_
  let f := a.1
  let v := if x.valid then x.x else f.valid
  let f := { f with held := v, valid := v, reph := f.reph || x.reph, rephAt := if x.reph then some x.at_ else f.rephAt, single := x.single
                    lastInv := if x.valid then f.lastInv else some (x.at_, x.reason) }
  let b := fineSlot h1 h2 x.single f x.at_ v x.clip
  (b.1, a.2 || b.2)

/-- The fine path's coefficients: the banks that the input selects. -/
def State.hb1Of (s : State) (p : PeakId) (i : Nat) : List Int :=
  s.hbBank p (if s.fld p (Fd.clnInCfgHb1Bank i) = 0 then Reg.clnHb1A 0 else Reg.clnHb1B 0) 5
def State.hb2Of (s : State) (p : PeakId) (i : Nat) : List Int :=
  s.hbBank p (if s.fld p (Fd.clnInCfgHb2Bank i) = 0 then Reg.clnHb2A 0 else Reg.clnHb2B 0) 8

/-! ### Period means (R215, R216) -/

def MeanAcc.take (a : MeanAcc) (x : CSamp) : MeanAcc :=
  let a := if x.valid then { a with n := a.n + 1, sum := a.sum + x.x, instants := a.instants + x.at_ } else { a with inv := some x.reason }
  { a with clip := a.clip || x.clip, reph := a.reph || x.reph }

/-- A sample enters the integrator: the window that its instant lies in. -/
def meanTake (m : MeanPath) (x : CSamp) : MeanPath :=
  let counts := match m.from_ with
    | some t => decide (t ≤ x.at_)
    | none => false
  match m.closing with
  | some w =>
    if w ≤ x.at_ + 10 then (if counts then { m with next := m.next.take x } else m)
    else { m with acc := m.acc.take x }
  | none => if counts then { m with acc := m.acc.take x } else m

/-- The inputs of a Peak whose integrator follows timebase tb. -/
def meanInputs (p : PeakId) (tb : Nat) (s : State) : List Nat :=
  (List.range 48).filter (fun i => s.bit p (Fd.clnInCtrlMeanRun i) && decide (s.fld p (Fd.clnInCfgMeanTb i) = tb))

/-- Timebase tb wraps: windows close, and integrators set running start. -/
def meanWrap (tb : Nat) (s : State) : State :=
  let s := { s with meanDue := if s.meanDue.contains tb then s.meanDue else s.meanDue ++ [tb] }
  bothPeaks (fun p s => forAll (meanInputs p tb s) (fun i s =>
    let c := s.chain p i
    let m := c.mean
    let m := match m.from_ with
      | none => { m with from_ := some s.tick, whole := false }
      | some _ => match m.closing with
        | none => { m with closing := some s.tick, closeWhole := m.whole, whole := true }
        | some _ => { m with closing := some s.tick, closeWhole := m.whole, whole := true, acc := m.next, next := {} }
    s.setChain p i { c with mean := m }) s) s

/-- Timebase tb starts: its windows begin, not whole. -/
def meanStart (tb : Nat) (s : State) : State :=
  bothPeaks (fun p s => forAll (meanInputs p tb s) (fun i s =>
    let c := s.chain p i
    let m := c.mean
    let m := if m.closing.isSome then { m with from_ := some s.tick, whole := false, next := {} }
      else { from_ := some s.tick }
    s.setChain p i { c with mean := m }) s) s

/-- Timebase tb stops: its integrators wait for its start; a window that has closed is still delivered. -/
def meanStop (tb : Nat) (s : State) : State :=
  bothPeaks (fun p s => forAll (meanInputs p tb s) (fun i s =>
    let c := s.chain p i
    s.setChain p i { c with mean := { c.mean with from_ := none } }) s) s

/-- The mean of input i is ready. -/
def meanReady (p : PeakId) (i : Nat) (s : State) : State :=
  let c := s.chain p i
  let m := c.mean
  if m.closing.isNone then s
  else
    let a := m.acc
    let reason := a.inv.getD (if a.n = 0 ∨ m.closeWhole = false then 6 else 0)
    let value := if a.n = 0 then wordValue (s.slot p i 4) else (sat24 (rneDiv (8 * a.sum) a.n)).v
    let e := if a.n = 0 then s.slotE p i 4 else ((a.instants : Int), a.n)
    let s := s.setChain p i { c with mean := { m with closing := none, acc := m.next, next := {} } }
    let s := (s.setSlot p i 4 (outWord value reason a.clip a.reph false)).setSlotE p i 4 e
    let s := s.setSlot p i 7 (BitVec.ofNat 32 (s.cairnSlot e.1 e.2))
    let s := (s.setFld p (Fd.clnInStatusMeanN i) (min a.n 0xFFFF)).setBit p (Fd.clnInStatusMeanValid i) (decide (reason = 0))
    talusUpdate p i 4 s

/-! ### Fused output (R210) -/

/-- The fused output takes a value of its source; its own stream marks a sample with REPHASE once (R212). -/
def fusedSet (p : PeakId) (i : Nat) (w : Word) (fine : Bool) (e : Int × Nat) (rephAt : Option Nat) (s : State) : State :=
  let c := s.chain p i
  let s := s.setChain p i { c with fusedReph := newerOf c.fusedReph rephAt }
  let s := s.setSlot p i 3 (withReph w (marks c.fusedReph rephAt) fine)
  let s := (s.setSlotE p i 3 e).setSlot p i 6 (BitVec.ofNat 32 (s.cairnSlot e.1 e.2))
  (s.setFld p (Fd.clnInStatusFusedReason i) (wordReason w)).setBit p (Fd.clnInStatusFusedFine i) fine

/-! ### Arrivals (R204) -/

/-- A Shoulder value is ready, 200 ns after its newest sample's instant (R204, R210). -/
def shoulderReady (p : PeakId) (x : ShValue) (s : State) : State :=
  let s := (s.setSlot p x.i 0 x.word).setSlotE p x.i 0 x.e
  let s := s.setBit p (Fd.clnInStatusShValid x.i) (wordValid x.word)
  let s := if s.bit p (Fd.clnInCtrlFineRun x.i) && wordValid (s.slot p x.i 2) then s else fusedSet p x.i x.word false x.e x.rephAt s
  talusUpdate p x.i 0 s

/-- The Shoulder values that are ready by now. -/
def couloirTick (p : PeakId) (s : State) : State :=
  let c := (s.peak p).cln
  let r := c.soon.partition (fun x => decide (x.due ≤ s.tick))
  if r.1.isEmpty then s
  else forAll r.1 (fun x s => shoulderReady p x s) (s.setPeak p { s.peak p with cln := { c with soon := r.2 } })

/-- The chain takes a sample: its Shoulder window, its fine path and its integrator where they run, and the tag. The flag says that a stage
saturated. -/
def chainTake (h1 h2 : List Int) (fineRun meanRun tagged : Bool) (c : Chain) (x : CSamp) : Chain × Bool :=
  let k := shoulderTake c x
  let at_ := shoulderReph k
  let fine := if fineRun then fineTake h1 h2 k.fine x else ({ k.fine with valid := if x.valid then x.x else k.fine.valid }, false)
  ({ k with fine := fine.1, mean := if meanRun then meanTake k.mean x else k.mean
            tag := if tagged then some (withReph (shoulderValue k x).1 (marks k.tagReph at_) false) else k.tag
            tagReph := if tagged then newerOf k.tagReph at_ else k.tagReph }, fine.2)

/-- A sample reaches a Peak's Couloir, 160 ns after its instant; its Shoulder value is ready 40 ns (16 ticks) on. -/
def couloirArrival (p : PeakId) (i : Nat) (s : State) : State :=
  let c := s.cin i
  match c.flight.get p with
  | [] => s
  | f :: r =>
    let s := s.setCin i { c with flight := c.flight.set p r }
    if (s.peak p).up = false then s
    else
      let x := CSamp.of f
      let k := chainTake (s.hb1Of p i) (s.hb2Of p i) (s.bit p (Fd.clnInCtrlFineRun i)) (s.bit p (Fd.clnInCtrlMeanRun i)) f.tagged (s.chain p i) x
      let v := shoulderValue k.1 x
      let s := clnSat p k.2 (s.setChain p i k.1)
      let s := s.setBit p Fd.clnStatusDegraded f.single
      let l := (s.peak p).cln
      s.setPeak p { s.peak p with cln := { l with soon := l.soon ++ [⟨s.tick + 16, i, v.1, v.2, shoulderReph k.1⟩] } }

def execCouloirSampleArrival (p : PeakId) (i : Fin 48) (s : State) : Out := .next (couloirArrival p i.val s)

/-- A tagged sample's Shoulder value is ready (R180, R198, R203): TAG and LAST take it and EV_SMPnn fires in both Peaks, unless the input is disabled
or retired by now, or no domain runs (R472). -/
def sampleReady (i : Nat) (s : State) : State :=
  match (s.cin i).tag with
  | none => s
  | some f =>
    if s.cirq.running = false ∨ s.fld .a (Fd.cirqInCfgEn i) = 0 ∨ s.bit .a (Fd.cirqInStatusRetired i) = true then
      s.setCin i { s.cin i with tag := none }
    else
    let s := bothPeaks (fun p s =>
      let c := s.chain p i
      match c.tag with
      | some w => if (s.peak p).up then (s.setChain p i { c with tag := none }).setSlot p i 1 w else s
      | none => s) s
    fireBoth (Ev.smp i) (lastTake i f s)

def execSampleReady (i : Fin 48) (s : State) : Out := .next (sampleReady i.val s)

/-! ### FINE_RUN and MEAN_RUN -/

/-- The fine path restarts at the next sample; its outputs carry FINE_FILL until its window has passed. -/
def fineStart (p : PeakId) (i : Nat) (s : State) : State :=
  let c := s.chain p i
  let s := s.setChain p i { c with fine := { valid := c.fine.valid } }
  let s := s.setSlot p i 2 (outWord (wordValue (s.slot p i 2)) 5 false false false)
  (s.setFld p (Fd.clnInStatusFineValid i) 0).setFld p (Fd.clnInCtrlFineRun i) 1

def fineStop (p : PeakId) (i : Nat) (s : State) : State :=
  let c := s.chain p i
  (s.setChain p i { c with fine := { valid := c.fine.valid } }).setFld p (Fd.clnInCtrlFineRun i) 0

/-- A write of CLN.IN[i].CTRL. -/
def clnInCtrlWrite (p : PeakId) (i v : Nat) (s : State) : State :=
  let s := if v % 2 = 1 ∧ s.bit p (Fd.clnInCtrlFineRun i) = false then fineStart p i s
    else if v % 2 = 0 ∧ s.bit p (Fd.clnInCtrlFineRun i) = true then fineStop p i s else s
  if (v / 2 % 2 = 1) = (s.bit p (Fd.clnInCtrlMeanRun i) = true) then s
  else (s.setChain p i { s.chain p i with mean := {} }).setFld p (Fd.clnInCtrlMeanRun i) (v / 2 % 2)

def execFineRunStart (m : Master) (i : Fin 48) (s : State) : Out :=
  .next (if (s.peak m.peak).up then clnInCtrlWrite m.peak i.val (Nat.lor (s.reg m.peak (Reg.clnInCtrl i.val)) 1) s else s)
def execMeanRunStart (m : Master) (i : Fin 48) (s : State) : Out :=
  .next (if (s.peak m.peak).up then clnInCtrlWrite m.peak i.val (Nat.lor (s.reg m.peak (Reg.clnInCtrl i.val)) 2) s else s)

/-- A fine output is ready (R203, R204, R210). -/
def fineReady (p : PeakId) (i : Nat) (s : State) : State :=
  let c := s.chain p i
  match c.fine.ready with
  | [] => s
  | o :: r =>
    let s := s.setChain p i { c with fine := { c.fine with ready := r, hist := (o :: c.fine.hist).take 320 } }
    let e := (o.e, 1)
    let s := (s.setSlot p i 2 o.word).setSlotE p i 2 e
    let s := s.setBit p (Fd.clnInStatusFineValid i) (wordValid o.word)
    let s := if wordValid o.word then fusedSet p i o.word true e o.rephAt s else s
    talusUpdate p i 2 s

def execFineOutputReady (p : PeakId) (i : Fin 48) (s : State) : Out :=
  .next (if (s.peak p).up then fineReady p i.val s else s)

/-- 150 ns after a closing wrap of timebase tb: its means, and EV_TBn_MEAN. -/
def periodMean (tb : Nat) (s : State) : State :=
  if s.meanDue.contains tb then
    let s := { s with meanDue := s.meanDue.filter (fun n => decide (n ≠ tb)) }
    let s := bothPeaks (fun p s => if (s.peak p).up then forAll (meanInputs p tb s) (fun i s => meanReady p i s) s else s) s
    fireBoth (Ev.tbMean tb) s
  else s

def execPeriodMeanReady (tb : Fin 8) (s : State) : Out := .next (periodMean tb.val s)

/-! ### Resampler groups (R217 to R221) -/

def State.rsg (s : State) (p : PeakId) (g : Nat) : Rsg := Tab.get (fun _ => {}) (s.peak p).cln.rsg g
def State.setRsg (s : State) (p : PeakId) (g : Nat) (r : Rsg) : State :=
  let c := (s.peak p).cln
  s.setPeak p { s.peak p with cln := { c with rsg := Tab.put (fun _ => {}) c.rsg g r } }

/-- 40 Hz ≤ f1 ≤ 70 Hz, with f1 = inc × 400 MHz / 2^64. -/
def rsInRange (inc : Nat) : Bool := decide (2 ^ 64 ≤ inc * 10 ^ 7) && decide (inc * (4 * 10 ^ 7) ≤ 7 * 2 ^ 64)

/-- The increment in use: outside the range, the nearer bound. -/
def rsClamp (inc : Nat) : Nat :=
  if inc * 10 ^ 7 < 2 ^ 64 then 2 ^ 64 / 10 ^ 7 + 1 else if 7 * 2 ^ 64 < inc * (4 * 10 ^ 7) then 7 * 2 ^ 64 / (4 * 10 ^ 7) else inc

def rsNc (p : PeakId) (g : Nat) (s : State) : Nat := 2 ^ s.fld p (Fd.clnRsgCfgNcLog2 g)

/-- The instant of the group's next crossing in units of 1 / (1024 · inc) ticks: the first one at least half an interval after the last at
which NC × θ reaches its index (R218). An index whose crossing a bent line has moved before that bound comes at the bound. -/
def rsNext (nc : Nat) (r : Rsg) : Int :=
  let inc := rsClamp r.inc
  let from_ : Int := r.last + ((1024 * 2 ^ 63 / (nc * inc) : Nat) : Int)
  let target : Int := ((r.m * 2 ^ 64 / nc * 1024 : Nat) : Int)
  let now : Int := ((r.phase * 1024 : Nat) : Int) + (inc : Int) * (from_ - ((r.tick * 1024 : Nat) : Int))
  let turn : Int := 2 ^ 64 * 1024
  let ahead := (target - now) % turn
  from_ * inc + (if r.begun ∧ turn - 2 * turn / nc ≤ ahead then 0 else ahead)

/-- The crossings up to a tick are taken under the line in force. -/
def rsCross (nc tick : Nat) : Nat → Rsg → Rsg
  | 0, r => r
  | fuel + 1, r =>
    let inc := rsClamp r.inc
    let tau := rsNext nc r
    if tau ≤ ((tick * 1024 * inc : Nat) : Int) then
      rsCross nc tick fuel { r with due := r.due ++ [⟨r.m, tau, r.inc, r.reph⟩], m := (r.m + 1) % nc, last := rneDiv tau inc, begun := true, reph := false }
    else r

/-- The group's members, in ascending order. -/
def rsMembers (p : PeakId) (g : Nat) (s : State) : List Nat :=
  (List.range 48).filter (fun i => s.bit p (Fd.clnInCfgRsEn i) && decide (s.fld p (Fd.clnInCfgRsg i) = g))

/-- Keep IN_RANGE and RS_RANGE in step with the source. -/
def rsRange (p : PeakId) (g : Nat) (s : State) : State :=
  let ok := rsInRange (s.rsg p g).inc
  let s := s.setBit p (Fd.clnRsgStatusInRange g) ok
  if ok then s else s.raise p Fd.clnFlagsRsRange

/-- The group realigns: its next output takes the nearest crossing's index (R218). -/
def rsSlip (p : PeakId) (g m : Nat) (s : State) : State :=
  let s := s.setRsg p g { s.rsg p g with m := m, reph := true }
  let s := s.bump p Fd.clnSlipCountCount Fd.clnSlipCountSat
  fire p Ev.clnSlip (s.raise p Fd.clnFlagsSlip)

/-- Ridgeline engine e publishes its angle: the groups that follow it take the new line (R217, R218). -/
def rsPublish (p : PeakId) (e tick phase inc : Nat) (s : State) : State :=
  let c := (s.peak p).cln
  let s := s.setPeak p { s.peak p with cln := { c with pubs := Tab.put (fun _ => (0, 0, 0)) c.pubs e (tick, phase, inc) } }
  forAll (List.range 8) (fun g s =>
    if s.bit p (Fd.clnRsgCtrlRun g) && decide (s.fld p (Fd.clnRsgCfgSrc g) = 0) && decide (s.fld p (Fd.clnRsgCfgEngine g) = e) then
      let nc := rsNc p g s
      let r := rsCross nc s.tick 4096 (s.rsg p g)
      let old := rsClamp r.inc
      let new := rsClamp inc
      -- the angle that the new line gives at the instant predicted by the old one, in 2^-64 turns
      let at_ := rneDiv ((phase * 1024 * old : Nat) + (new : Int) * (rsNext nc r - ((tick * 1024 * old : Nat) : Int))) (1024 * old)
      let diff := signed 64 (unsigned 64 (at_ - ((r.m * 2 ^ 64 / nc : Nat) : Int)))
      let s := s.setRsg p g { r with tick := tick, phase := phase, inc := inc }
      let s := rsRange p g s
      if 2 ^ 64 / (2 * nc) < diff.natAbs then rsSlip p g ((rneDiv ((nc : Int) * at_) (2 ^ 64) % (nc : Int)).toNat) s else s
    else s) s

/-- A write of CLN.RSG[g].CTRL. -/
def resamplerRun (p : PeakId) (g : Nat) (run : Bool) (s : State) : State :=
  if run = s.bit p (Fd.clnRsgCtrlRun g) then s
  else if run then
    let n := s.fld p (Fd.clnRsgCfgNcLog2 g)
    if n < 6 ∨ 10 < n then s
    else
      let nc := rsNc p g s
      let fixed := decide (s.fld p (Fd.clnRsgCfgSrc g) = 1)
      let pub := Tab.get (fun _ => (0, 0, 0)) (s.peak p).cln.pubs (s.fld p (Fd.clnRsgCfgEngine g))
      let line := if fixed then (s.tick, (Config.rsgPhase g s.tick).toNat, s.reg p (Reg.clnRsgIncLo g) + 2 ^ 32 * s.reg p (Reg.clnRsgIncHi g)) else pub
      let r : Rsg := { tick := line.1, phase := line.2.1, inc := line.2.2, seq := (s.rsg p g).seq
                       last := ((s.tick * 1024 : Nat) : Int) - ((1024 * 2 ^ 63 / (nc * rsClamp line.2.2) : Nat) : Int) }
      let s := (s.setRsg p g r).setFld p (Fd.clnRsgCtrlRun g) 1
      rsRange p g (s.setFld p (Fd.clnRsgStatusRunning g) 1)
  else (s.setFld p (Fd.clnRsgCtrlRun g) 0).setFld p (Fd.clnRsgStatusRunning g) 0

def execResamplerRun (m : Master) (g : Fin 8) (run : Bool) (s : State) : Out :=
  .next (if (s.peak m.peak).up then resamplerRun m.peak g.val run s else s)

/-- H of a resampler bank: H[0] = 0, and H[4096 ± e] are equal (R219, R223). -/
def State.kernel (s : State) (p : PeakId) (bank n : Nat) : Int :=
  let n := if 4096 < n then 8192 - n else n
  if n = 0 then 0 else signed 20 (s.reg p ((if bank = 0 then Reg.clnRsA 0 else Reg.clnRsB 0) + 4 * (n - 1)) % 2 ^ 20)

/-- The 32 fine inputs around an instant `num / den` ticks with their kernel weights, newest first, and p and t_k; none where the fine
stream does not yet reach them, an inner none where it no longer does. -/
def rsWindow (hist : List FineOut) (num : Int) (den : Nat) : Option (Option (List FineOut × Nat × Int)) :=
  match hist.findIdx? (fun f => decide (f.e * (den : Int) ≤ num)) with
  | none => if hist.isEmpty then none else some none
  | some j =>
    match hist[j]? with
    | none => none
    | some f =>
      let q := rneDiv (256 * (num - f.e * (den : Int))) (640 * den)
      let q := if 256 < q then 256 else q
      let j := if q = 256 then j - 1 else j
      let q := if q = 256 then 0 else q
      if j < 16 then none
      else
        let w := (hist.drop (j - 16)).take 32
        if w.length < 32 then some none
        else some (some (w, q.toNat, (hist.getD j f).e))

/-- Σ x(k + j) · H[4096 + p − 256 j]: the window's newest is j = 16. -/
def rsSum (s : State) (p : PeakId) (bank : Nat) (f : FineOut → Int) (w : List FineOut) (q : Nat) : Int :=
  ((w.zip (List.range 32)).map (fun x => f x.1 * s.kernel p bank (q + 256 * x.2))).foldl (· + ·) 0

/-- A resampled value: its word, its quantised instant E, the newest sample with REPHASE in its support, and whether it saturated. -/
structure RsVal where
  word : Word
  e : Int × Nat
  rephAt : Option Nat
  sat : Bool
  deriving DecidableEq, Repr

/-- The value of one input at a crossing; none while not ready. -/
def rsValue (p : PeakId) (g i : Nat) (d : Crossing) (s : State) : Option RsVal :=
  let inc := rsClamp d.inc
  let num := d.tau
  let den := 1024 * inc
  let f := (s.chain p i).fine
  let bank := s.fld p (Fd.clnRsgCfgBank g)
  let range := if rsInRange d.inc then 0 else 7
  let rate := rsNc p g s * inc
  let missing := some ⟨outWord (Config.rsNoHistory i (rneDiv num inc)).toInt (if range = 7 then 7 else 5) false d.reph false, (num, den), none, false⟩
  let finish := fun (y : Stage) (used : List FineOut) (e : Int × Nat) =>
    let bad := match used.find? (fun o => !wordValid o.word) with
      | some o => wordReason o.word
      | none => 0
    let at_ := used.foldl (fun a o => newerOf a o.rephAt) none
    some ⟨outWord y.v (if range = 7 then 7 else bad) (y.clip || used.any (fun o => wordClip o.word)) (d.reph || marks f.rsReph at_) false, e, at_, y.clip⟩
  if s.bit p (Fd.clnInCtrlFineRun i) = false then missing
  else match rsWindow f.hist num den with
    | none => none
    | some none => missing
    | some (some (w, q, tk)) =>
      let e : Int × Nat := (2 * tk + 5 * (q : Int), 2)
      if s.fld p (Fd.clnRsgCfgMode g) = 0 then
        finish (sat24 (rneShift (rsSum s p bank (fun o => wordValue o.word) w q) 18)) w e
      else
        let d := 2 * rate
        let mid : Int := e.1 * rate
        match rsWindow f.hist (mid - 2 ^ 64) d, rsWindow f.hist (mid + 2 ^ 64) d with
        | _, none => none
        | some (some a), some (some b) =>
          let y := rneDiv ((rsSum s p bank (fun o => o.sum) b.1 b.2.1 - rsSum s p bank (fun o => o.sum) a.1 a.2.1) * 640 * rate) (2 ^ 82)
          let span := f.hist.filter (fun o => decide (((a.1.getLast?).map (fun o => o.e)).getD 0 ≤ o.e) &&
            decide (o.e ≤ ((b.1.head?).map (fun o => o.e)).getD 0))
          finish (sat24 y) span e
        | _, _ => missing

/-- A member takes its resampled value into slot 5. -/
def rsTake (p : PeakId) (i : Nat) (v : RsVal) (s : State) : State :=
  let c := s.chain p i
  let s := s.setChain p i { c with fine := { c.fine with rsReph := newerOf c.fine.rsReph v.rephAt } }
  ((clnSat p v.sat s).setSlot p i 5 v.word).setSlotE p i 5 v.e

/-- A group writes the record of an output to its ring (R221). -/
def rsRecord (p : PeakId) (g m seq : Nat) (e : Int × Nat) (vals : List Word) (s : State) : State :=
  let len := s.reg p (Reg.clnRsgRingLen g) % 2 ^ 21
  let w := s.reg p (Reg.clnRsgWptr g)
  let t := s.cairnTime e.1 e.2
  let words := [seq % 2 ^ 16 * 2 ^ 16 + m, t.sec % 2 ^ 32, t.ns, t.sec / 2 ^ 32 * 2 ^ 16 + t.frac] ++ vals.map (fun v => v.toNat)
  let words := words ++ List.replicate ((4 - words.length % 4) % 4) 0
  let s := forAll (words.zip (List.range words.length)) (fun x s =>
    sramPut p (s.reg p (Reg.clnRsgRingBase g) + (w + 4 * x.2) % len) x.1 s) s
  (s.setReg p (Reg.clnRsgWptr g) ((w + 4 * words.length) % len)).setFld p (Fd.clnRsgStatusSeq g) (seq % 2 ^ 16)

/-- A group's next output is ready: the members' values at the oldest crossing that has come, and the record. -/
def resamplerOutput (p : PeakId) (g : Nat) (s : State) : State :=
  if s.bit p (Fd.clnRsgCtrlRun g) then
    let r := rsCross (rsNc p g s) s.tick 4096 (s.rsg p g)
    match r.due with
    | [] => s
    | d :: rest =>
      let ms := rsMembers p g s
      let vals := ms.filterMap (fun i => (rsValue p g i d s).map (fun v => (i, v)))
      if vals.length < ms.length then s
      else
        let e := match vals with
          | [] => (d.tau, 1024 * rsClamp d.inc)
          | v :: _ => v.2.e
        let s := forAll vals (fun v s => rsTake p v.1 v.2 s) s
        let ring := decide (s.reg p (Reg.clnRsgRingLen g) % 2 ^ 21 ≠ 0)
        let s := s.when ring (rsRecord p g d.m r.seq e (vals.map (fun v => v.2.word)))
        let s := s.setRsg p g { r with due := rest, seq := if ring then r.seq + 1 else r.seq }
        forAll ms (fun i s => talusUpdate p i 5 s) s
  else s

def execResamplerOutputReady (p : PeakId) (g : Fin 8) (s : State) : Out :=
  .next (if (s.peak p).up then resamplerOutput p g.val s else s)

/-! ### What the registers and XC unit 0x30 read -/

/-- Output slot n = input × 8 + slot as unit 0x30 reads it: slot 5 carries RESAMPLE while the input is in no running group. -/
def State.clnSlot (s : State) (p : PeakId) (n : Nat) : Word :=
  let i := n / 8
  let w := s.slot p i (n % 8)
  if n % 8 = 5 ∧ (s.bit p (Fd.clnInCfgRsEn i) = false ∨ s.bit p (Fd.clnRsgCtrlRun (s.fld p (Fd.clnInCfgRsg i))) = false) then
    outWord (wordValue w) 7 false false false
  else w

/-- Is a coefficient bank running (R222)? The banks are in the order of COEF_CRC. -/
def State.bankRunning (s : State) (p : PeakId) (n : Nat) : Bool :=
  if n < 4 then
    (List.range 48).any (fun i => s.bit p (Fd.clnInCtrlFineRun i) &&
      decide (s.fld p (if n < 2 then Fd.clnInCfgHb1Bank i else Fd.clnInCfgHb2Bank i) = n % 2))
  else (List.range 8).any (fun g => s.bit p (Fd.clnRsgCtrlRun g) && decide (s.fld p (Fd.clnRsgCfgBank g) = n % 2))

end Sys2Proof.Machine
end

