-- ==== Sys2Proof/Machine/FpOps.lean ====
section
/-! DEFINITION. fp32 arithmetic as the Ridgeline and Switchback steps use it (R228, R234, R254): each operation of R98, without the flags. -/

namespace Sys2Proof.Machine

def fa (a b : Word) : Word := (fpAdd a b).val
def fs (a b : Word) : Word := (fpSub a b).val
def fm (a b : Word) : Word := (fpMul a b).val
def fd (a b : Word) : Word := (fpDiv a b).val
def fq (a : Word) : Word := (fpSqrt a).val
def fneg (a : Word) : Word := a ^^^ 0x80000000
def fabs (a : Word) : Word := a &&& 0x7FFFFFFF
def fmin (a b : Word) : Word := (fpMin a b).val
def fmax (a b : Word) : Word := (fpMax a b).val
def flt (a b : Word) : Bool := (fpCompare .lt a b).1
def fle (a b : Word) : Bool := (fpCompare .le a b).1
def feq (a b : Word) : Bool := (fpCompare .eq a b).1
def fclamp (x lo hi : Word) : Word := fmin (fmax x lo) hi
def fint (n : Int) : Word := fpOfRat n 1

def fOne : Word := 0x3F800000
def fTwo : Word := 0x40000000
def fThree : Word := 0x40400000
def fHalf : Word := 0x3F000000
def fQuarter : Word := 0x3E800000

/-- Is the word a finite fp32 number? -/
def fFinite (w : Word) : Bool := decide (bits w.toNat 30 23 ≠ 0xFF)

/-- Ts of a period of PRD + 1 ticks, in seconds. -/
def tsOf (prd : Nat) : Word := fpOfRat ((prd + 1) * 25) (10 ^ 10)

/-! ### The filter coefficient and the angle -/

/-- ⌊2^64 · 2π⌋. -/
def twoPi64 : Nat := 4 * halfPi64

/-- exp(−x) for x in units of 2^-64 by its series, in the same units. -/
def expTerms (x : Nat) : Nat → Nat → Nat → Int
  | 0, _, _ => 0
  | n + 1, k, t => (t : Int) - expTerms x n (k + 1) (t * x / 2 ^ 64 / k)

/-- The non-negative rational of a finite fp32 word in units of 2^-149. -/
def fmag (w : Word) : Nat :=
  match FVal.ofWord w with
  | .fin _ m => m
  | _ => 0

/-- 1 − exp(−2π · fc · Ts): the implementation's own rounding where it lies within 2^-24 of the exact value, else the nearest fp32. -/
def lpCoefOf (fc ts : Word) : Word :=
  let x := twoPi64 * fmag fc * fmag ts / 2 ^ 298
  let c : Int := 2 ^ 64 - expTerms x 80 1 (2 ^ 64)
  let w := Config.lpCoef fc ts
  if ((fmag w * 2 ^ 64 : Nat) - c * 2 ^ 149).natAbs ≤ 2 ^ 40 * 2 ^ 149 ∧ bits w.toNat 31 31 = 0 then w else fpOfRat c (2 ^ 64)

/-- y := y + (1 − exp(−2π fc Ts)) × (x − y). -/
def lp (y x fc ts : Word) : Word := fa y (fm (lpCoefOf fc ts) (fs x y))

/-- The phase of (d, q) in 2^-64 turns by bisection on the half-plane of q: the sign of q cos θ − d sin θ. -/
def angleBisect (d q : Int) : Nat → Nat → Nat → Nat
  | 0, lo, _ => lo
  | n + 1, lo, hi =>
    let m := (lo + hi) / 2
    let c := q * sinRef (BitVec.ofNat 64 m + 0x4000000000000000) - d * sinRef (BitVec.ofNat 64 m)
    if 0 ≤ c then angleBisect d q n m hi else angleBisect d q n lo m

/-- ∠(d, q) in turns (R234): the implementation's own word where it lies within 2^-24 of the exact angle, else the nearest fp32. The angle of
a vector that is zero or not finite is the implementation's. -/
def angleOf (v : Dq) : Word :=
  let w := Config.angleWord v.d v.q
  match FVal.ofWord v.d, FVal.ofWord v.q with
  | .fin sd md, .fin sq mq =>
    if md = 0 ∧ mq = 0 then w
    else
      let d := (FVal.fin sd md).int
      let q := (FVal.fin sq mq).int
      let ref : Int := if 0 ≤ q then (angleBisect d q 64 0 (2 ^ 63) : Nat) else -((angleBisect d (-q) 64 0 (2 ^ 63) : Nat) : Int)
      let own := match FVal.ofWord w with
        | .fin s m => decide (((FVal.fin s m).int - ref * 2 ^ 85).natAbs ≤ 2 ^ 40 * 2 ^ 85)
        | _ => false
      if own then w else (p2f (BitVec.ofInt 64 ref)).val
  | _, _ => w

/-! ### Pairs -/

def Dq.add (a b : Dq) : Dq := ⟨fa a.d b.d, fa a.q b.q⟩
def Dq.sub (a b : Dq) : Dq := ⟨fs a.d b.d, fs a.q b.q⟩
def Dq.scale (a : Dq) (k : Word) : Dq := ⟨fm a.d k, fm a.q k⟩
def Dq.over (a : Dq) (k : Word) : Dq := ⟨fd a.d k, fd a.q k⟩
def Dq.neg (a : Dq) : Dq := ⟨fneg a.d, fneg a.q⟩
def Dq.mag (a : Dq) : Word := fq (fa (fm a.d a.d) (fm a.q a.q))
/-- (r + jx) × a. -/
def Dq.timesZ (a : Dq) (r x : Word) : Dq := ⟨fs (fm r a.d) (fm x a.q), fa (fm r a.q) (fm x a.d)⟩
/-- a ÷ (r + jx). -/
def Dq.overZ (a : Dq) (r x : Word) : Dq :=
  let n := fa (fm r r) (fm x x)
  ⟨fd (fa (fm r a.d) (fm x a.q)) n, fd (fs (fm r a.q) (fm x a.d)) n⟩
/-- Rotation by a phase. -/
def Dq.rot (a : Dq) (ph : BitVec 64) : Dq :=
  let s := trigValue ph 0 false
  let c := trigValue ph 1 false
  ⟨fs (fm a.d c) (fm a.q s), fa (fm a.d s) (fm a.q c)⟩

/-- The amplitude-invariant Clarke transform; phase c is not used (R230). -/
def clarke (a b : Word) : Dq := ⟨a, fd (fa a (fm fTwo b)) (fq fThree)⟩

end Sys2Proof.Machine
end

