-- ==== Sys2Proof/Machine/Ridgeline.lean ====
section
/-! DEFINITION. The Ridgeline grid-forming engines (R225 to R250). -/

namespace Sys2Proof.Machine

def State.eng (s : State) (p : PeakId) (e : Nat) : Eng := Tab.get (fun _ => {}) (s.peak p).engs e
def State.setEng (s : State) (p : PeakId) (e : Nat) (g : Eng) : State :=
  s.setPeak p { s.peak p with engs := Tab.put (fun _ => {}) (s.peak p).engs e g }

/-- A retired engine (R81, R225). -/
def State.engRetired (s : State) (p : PeakId) (e : Nat) : Bool := decide (bits (s.fld p Fd.rdgStatusRetired) e e = 1)

/-- A word of the engine's window as fp32. -/
def State.w (s : State) (p : PeakId) (a : Nat) : Word := s.regW (regKey p a)
def State.setW (s : State) (p : PeakId) (a : Nat) (v : Word) : State := s.setRegW (regKey p a) v

/-- Modes (R236). -/
def mOff : Nat := 0
def mFollow : Nat := 1
def mForm : Nat := 2
def mIsland : Nat := 3
def mBlackStart : Nat := 4
def mFault : Nat := 5
def mRecover : Nat := 6

def State.engMode (s : State) (p : PeakId) (e : Nat) : Nat := s.fld p (Fd.rdgEngStatusMode e)
/-- The timebase that an engine belongs to; a write of CFG.TB takes effect at the engine's next step (R226, R229). -/
def State.engTb (s : State) (p : PeakId) (e : Nat) : Nat := (s.eng p e).tb

/-- A mode change (R236): STATUS, the summary bits, EV_RDG_MODE and Talus's mode-change trigger at the step's tagged sample instant. -/
def setMode (p : PeakId) (e mode : Nat) (instant : Nat) (s : State) : State :=
  let s := s.setFld p (Fd.rdgEngStatusMode e) mode
  let s := setBitOf p Fd.rdgStatusRunning e (decide (mode ≠ mOff)) s
  let s := setBitOf p Fd.rdgStatusFault e (decide (5 ≤ mode)) s
  let s := s.setFld p (Fd.rdgEngStatusBsWait e) (if mode = mBlackStart then s.fld p (Fd.rdgEngStatusBsWait e) else 0)
  talusMode p e mode ((instant * 1024 : Nat) : Int) (fire p Ev.rdgMode s)

/-- The transfer term is set by the next computation of the EMF (R242). -/
def armTransfer (p : PeakId) (e : Nat) (fromFollow : Bool) (s : State) : State :=
  s.setEng p e { s.eng p e with trPend := true, trFollow := fromFollow }

/-- A change into a voltage-source mode arms the transfer term; one into OFF ends it. -/
def changeMode (p : PeakId) (e mode instant : Nat) (s : State) : State :=
  let old := s.engMode p e
  let s := setMode p e mode instant s
  if mode = mOff then s.setEng p e { s.eng p e with tr := {}, trLeft := 0, trPend := false, eMag := 0, emf := {}, i1 := {} }
  else if mode = mFollow then s
  else armTransfer p e (decide (old = mFollow)) s

/-! ### The keeper (R231 to R233) and the Cairn angle (R245) -/

/-- The keeper at a tick. -/
def Eng.keeperAt (g : Eng) (tick : Int) : Nat := (((g.keeper : Int) + (g.inc : Int) * (tick - g.keepTick)) % 2 ^ 64).toNat

/-- θ_cairn at a tick in 2^-64 turns, rounded down, from the whole nanoseconds of the second. -/
def cairnAngle (p : PeakId) (e : Nat) (tick : Nat) (s : State) : Nat :=
  let f := s.reg p (Reg.rdgEngFNom e) % 2 ^ 8
  let ns := s.cairnAt tick 1 / 2 ^ 49 % 10 ^ 9
  (f * ns * 2 ^ 64 / 10 ^ 9 + (f2p (s.w p (Reg.rdgEngPhiAnchor e))).1.toNat) % 2 ^ 64

/-- INC := round_convergent(ω × F_NOM × 2^64 ÷ 400,000,000). -/
def incOf (omega : Word) (fNom : Nat) : Nat :=
  (rneDiv ((fmag omega * fNom * 2 ^ 64 : Nat) : Int) (400000000 * 2 ^ 149)).toNat

/-! ### Commands and black start (R237, R243, R244) -/

def rdgRefuse (p : PeakId) (e code : Nat) (s : State) : State :=
  (s.raise p (Fd.rdgEngFlagsCmdRefused e)).setFld p (Fd.rdgEngStatusRefuse e) code

/-- Has BS_START_S passed (R244)? -/
def bsPassed (p : PeakId) (e : Nat) (s : State) : Bool :=
  decide ((s.cairnNs / 10 ^ 9 % 2 ^ 32 + 2 ^ 32 - s.reg p (Reg.rdgEngBsStartS e)) % 2 ^ 32 ≤ 2 ^ 31)

/-- The conditions of a black start (R237): 0 where all hold, else the refusal code. -/
def bsCheck (p : PeakId) (e : Nat) (v1 : Word) (passed : Bool) (s : State) : Nat :=
  if fle (s.w p (Reg.rdgEngBsDead e)) v1 then 2
  else if s.bit .a Fd.crnStatusValid = false then 3
  else if passed then 4 else 0

/-- The engine enters FAULT (R238). -/
def enterFault (p : PeakId) (e instant : Nat) (s : State) : State :=
  let old := s.engMode p e
  let s := if old = mRecover then s else s.setFld p (Fd.rdgEngStatusReturnMode e) old
  let s := s.bump p (Fd.rdgEngCountsFaults e) (Fd.rdgEngCountsFaultSat e)
  let s := s.raise p (Fd.rdgEngFlagsFaultSeen e)
  let s := s.setEng p e { s.eng p e with omegaIn := (s.eng p e).omega }
  changeMode p e mFault instant s

/-- A command is examined (R237). -/
def rdgCommand (p : PeakId) (e c : Nat) (v1 : Word) (instant : Nat) (s : State) : State :=
  let mode := s.engMode p e
  if mode = c then s
  else if mode = mOff then
    if c = mFollow then changeMode p e mFollow instant s
    else if c = mBlackStart then
      match bsCheck p e v1 (bsPassed p e s) s with
      | 0 => (changeMode p e mBlackStart instant (s.setFld p (Fd.rdgEngStatusBsWait e) 1))
      | code => rdgRefuse p e code s
    else rdgRefuse p e 1 s
  else if c = mOff then changeMode p e mOff instant s
  else if c = mBlackStart then rdgRefuse p e 1 s
  else if mode = mFault ∨ mode = mRecover then s.setFld p (Fd.rdgEngStatusReturnMode e) c
  else if mode = mBlackStart ∧ c ≠ mIsland then rdgRefuse p e 1 s
  else changeMode p e c instant s

/-- What the step examines between its measurement and its frequency: the wait of a black start, entry to FAULT on low voltage, and the
command (R237, R238, R244). -/
def rdgExamine (p : PeakId) (e : Nat) (v1 : Word) (instant : Nat) (s : State) : State :=
  let mode := s.engMode p e
  let moved := (s.eng p e).bsMoved
  let cmd := (s.eng p e).cmd
  let s := s.setEng p e { s.eng p e with bsMoved := false, cmd := none }
  let s := if s.bit p (Fd.rdgEngStatusBsWait e) then
      match bsCheck p e v1 (moved && bsPassed p e s) s with
      | 0 => s
      | code => rdgRefuse p e code (changeMode p e mOff instant s)
    else if 1 ≤ mode ∧ mode ≤ 3 ∧ flt v1 (s.w p (Reg.rdgEngVFaultIn e)) = true then enterFault p e instant s
    else s
  match cmd with
  | none => s
  | some c => rdgCommand p e c v1 instant s

/-! ### Operations of the step (R234) -/

/-- The bases (R230): V_b and I_b. -/
def vBase (p : PeakId) (e : Nat) (s : State) : Word := fd (fm (s.w p (Reg.rdgEngVBase e)) (fq fTwo)) (fq fThree)
def iBase (p : PeakId) (e : Nat) (s : State) : Word :=
  fd (fm fTwo (s.w p (Reg.rdgEngSBase e))) (fm fThree (vBase p e s))

/-- The decoupled double synchronous frame for one αβ pair: both sequences' filtered values. -/
def ddsrf (ab : Dq) (theta : BitVec 64) (pos neg : Dq) (fc ts : Word) : Dq × Dq :=
  let x := (ab.rot (-theta)).sub (neg.rot (-(theta + theta)))
  let y := (ab.rot theta).sub (pos.rot (theta + theta))
  (⟨lp pos.d x.d fc ts, lp pos.q x.q fc ts⟩, ⟨lp neg.d y.d fc ts, lp neg.q y.q fc ts⟩)

/-- Operation 1: the measurement. -/
def rdgMeasure (p : PeakId) (e : Nat) (theta : BitVec 64) (ts : Word) (s : State) : State :=
  let g := s.eng p e
  let vb := vBase p e s
  let ib := iBase p e s
  let v := (clarke (s.w p (Reg.rdgEngVa e)) (s.w p (Reg.rdgEngVb e))).over vb
  let i := (clarke (s.w p (Reg.rdgEngIa e)) (s.w p (Reg.rdgEngIb e))).over ib
  let seq := s.w p (Reg.rdgEngSeqFc e)
  let pq := s.w p (Reg.rdgEngPqFc e)
  let vs := ddsrf v theta g.v1 g.v2 seq ts
  let is := ddsrf i theta g.i1m g.i2m seq ts
  let delta := angleOf vs.1
  let fNom := fint (s.reg p (Reg.rdgEngFNom e) : Nat)
  let wv := lp g.omegaV (fa g.omega (fd (fs delta g.deltaPrev) (fm fNom ts))) pq ts
  let pw := lp (s.w p (Reg.rdgEngP e)) (fa (fm vs.1.d is.1.d) (fm vs.1.q is.1.q)) pq ts
  let qw := lp (s.w p (Reg.rdgEngQ e)) (fs (fm vs.1.q is.1.d) (fm vs.1.d is.1.q)) pq ts
  let s := s.setEng p e { g with v1 := vs.1, v2 := vs.2, i1m := is.1, i2m := is.2, omegaV := wv, deltaPrev := delta }
  let s := (s.setW p (Reg.rdgEngP e) pw).setW p (Reg.rdgEngQ e) qw
  let s := (s.setW p (Reg.rdgEngV1 e) vs.1.mag).setW p (Reg.rdgEngV2 e) vs.2.mag
  s.setW p (Reg.rdgEngDelta e) delta

/-- Operation 2: frequency restoration (R245). -/
def rdgRestore (p : PeakId) (e : Nat) (theta : BitVec 64) (tick : Nat) (ts : Word) (s : State) : State :=
  let mode := s.engMode p e
  let valid := s.bit .a Fd.crnStatusValid
  let bus := theta + (f2p (s.w p (Reg.rdgEngDelta e))).1
  let err := (p2f (BitVec.ofNat 64 (cairnAngle p e tick s) - bus)).val
  let s := (s.setW p (Reg.rdgEngECairn e) err).setBit p (Fd.rdgEngStatusCairnOk e) valid
  let hold := s.bit p (Fd.rdgEngStatusRestoreHold e)
  let big := flt 0x3EC00000 (fabs err)
  let hold := if big then true else if flt (fabs err) fQuarter then false else hold
  let s := s.setBit p (Fd.rdgEngStatusRestoreHold e) hold
  let s := if big then s.raise p (Fd.rdgEngFlagsRestoreSat e) else s
  let now := s.w p (Reg.rdgEngDwR e)
  let lim := s.w p (Reg.rdgEngRestoreMax e)
  let wait := s.bit p (Fd.rdgEngStatusBsWait e)
  let target :=
    if mode ≤ 2 then 0
    else if (mode = mIsland ∨ mode = mBlackStart) ∧ valid = true ∧ hold = false then
      fclamp (fm (s.w p (Reg.rdgEngKr e)) err) (fneg lim) lim
    else now
  let step := fm (s.w p (Reg.rdgEngRestoreRate e)) ts
  s.setW p (Reg.rdgEngDwR e) (if wait then 0 else fa now (fclamp (fs target now) (fneg step) step))

/-- Operation 3: the frequency. -/
def rdgFrequency (p : PeakId) (e : Nat) (ts : Word) (s : State) : State :=
  let g := s.eng p e
  let mode := s.engMode p e
  let wSet := s.w p (Reg.rdgEngWSet e)
  let delta := s.w p (Reg.rdgEngDelta e)
  let g := if mode = mOff ∨ s.bit p (Fd.rdgEngStatusBsWait e) = true then { g with omega := wSet }
    else if mode = mFollow then
      let x := fa g.xPll (fm (fm (s.w p (Reg.rdgEngKiPll e)) ts) delta)
      { g with xPll := x, omega := fa (fa wSet (fm (s.w p (Reg.rdgEngKpPll e)) delta)) x }
    else
      let dp := fs (fa (s.w p (Reg.rdgEngP0 e)) (fm (s.w p (Reg.rdgEngKpf e)) (fs (fa wSet (s.w p (Reg.rdgEngDwR e))) g.omega)))
        (s.w p (Reg.rdgEngP e))
      let dp := if mode = mFault then fm dp (s.w p (Reg.rdgEngFaultGain e)) else dp
      let damp := fm (s.w p (Reg.rdgEngD e)) (fs g.omega g.omegaV)
      let w := fa g.omega (fm (fd ts (fm fTwo (s.w p (Reg.rdgEngH e)))) (fs dp damp))
      let dw := s.w p (Reg.rdgEngDwFault e)
      { g with omega := if mode = mFault then fclamp w (fs g.omegaIn dw) (fa g.omegaIn dw) else w }
  let w := fclamp g.omega 0x3F4CCCCD 0x3F99999A
  let s := if feq w g.omega then s else s.raise p (Fd.rdgEngFlagsFreqClamp e)
  s.setEng p e { g with omega := w }

/-- Operation 4: the internal voltage and the transfer term (R242). The last step's source for a change from FOLLOW is v1 + z × i1. -/
def rdgEmf (p : PeakId) (e : Nat) (ts rv xv : Word) (v1Last : Dq) (s : State) : State :=
  let g := s.eng p e
  let mode := s.engMode p e
  let e0 := s.w p (Reg.rdgEngE0 e)
  let eMag :=
    if s.bit p (Fd.rdgEngStatusBsWait e) then 0
    else if mode = mBlackStart then fmin e0 (fa g.eMag (fd ts (s.w p (Reg.rdgEngBsTime e))))
    else if mode = mForm ∨ mode = mIsland ∨ mode = mRecover then
      fclamp (fa e0 (fd (fs (s.w p (Reg.rdgEngQ0 e)) (s.w p (Reg.rdgEngQ e))) (s.w p (Reg.rdgEngKqv e)))) 0 (s.w p (Reg.rdgEngEMax e))
    else g.eMag
  let last := if g.trFollow then v1Last.add (g.i1.timesZ rv xv) else g.emf
  let g := if g.trPend then { g with tr := last.sub ⟨eMag, 0⟩, trSpan := s.w p (Reg.rdgEngTransferT e), trLeft := s.w p (Reg.rdgEngTransferT e), trPend := false }
    else { g with trLeft := if fle g.trLeft ts then 0 else fs g.trLeft ts }
  let tr : Dq := if feq g.trLeft 0 then {} else if feq g.trLeft g.trSpan then g.tr else g.tr.scale (fd g.trLeft g.trSpan)
  let emf := Dq.add ⟨eMag, 0⟩ tr
  let s := s.setEng p e { g with eMag := eMag, emf := emf }
  let s := s.setBit p (Fd.rdgEngStatusTransfer e) (!(feq tr.d 0 && feq tr.q 0))
  s.setW p (Reg.rdgEngE e) emf.mag

/-- The positive-sequence limit by priority (R235); PRIO is never 0b11 (R229). -/
def limitPos (prio : Nat) (i : Dq) (r : Word) : Dq :=
  match prio with
  | 0 => (i.scale r).over i.mag
  | 1 =>
    let q := fclamp i.q (fneg r) r
    let m := fq (fs (fm r r) (fm q q))
    ⟨fclamp i.d (fneg m) m, q⟩
  | _ =>
    let d := fclamp i.d (fneg r) r
    let m := fq (fs (fm r r) (fm d d))
    ⟨d, fclamp i.q (fneg m) m⟩

/-- The limit in force (R235, R249). -/
def rdgIlim (p : PeakId) (e : Nat) (s : State) : Word :=
  let mode := s.engMode p e
  let m := if mode = mFault ∨ mode = mRecover then s.w p (Reg.rdgEngIMaxFault e) else s.w p (Reg.rdgEngIMax e)
  if s.bit p (Fd.rdgEngCfgThrEn e) then fm m (fpOfRat ((s.eng p e).start.scale : Nat) 32) else m

/-- Operations 5 to 7: references, limiter and outputs. -/
def rdgOutputs (p : PeakId) (e : Nat) (theta : BitVec 64) (rv xv : Word) (s : State) : State :=
  let g := s.eng p e
  let mode := s.engMode p e
  let off := decide (mode = mOff) || s.bit p (Fd.rdgEngStatusBsWait e)
  let p0 := s.w p (Reg.rdgEngP0 e)
  let q0 := s.w p (Reg.rdgEngQ0 e)
  let i1s : Dq := if mode = mFollow then
      Dq.over ⟨fa (fm p0 g.v1.d) (fm q0 g.v1.q), fs (fm p0 g.v1.q) (fm q0 g.v1.d)⟩ (fa (fm g.v1.d g.v1.d) (fm g.v1.q g.v1.q))
    else (g.emf.sub g.v1).overZ rv xv
  let i2s : Dq := if s.bit p (Fd.rdgEngCfgNegEn e) then ((Dq.sub {} g.v2).scale (s.w p (Reg.rdgEngNegGain e))).overZ rv xv else {}
  let ilim := rdgIlim p e s
  let m2 := fmin i2s.mag (fm (s.w p (Reg.rdgEngNegShare e)) ilim)
  let i2 := if feq i2s.mag 0 then i2s else (i2s.scale m2).over i2s.mag
  let r := fs ilim m2
  let limiting := flt r i1s.mag && !off
  let i1 := if limiting then limitPos (s.fld p (Fd.rdgEngCfgPrio e)) i1s r else i1s
  let back := -(theta + theta)
  let ib := iBase p e s
  let vb := vBase p e s
  let iOut := (i1.add (i2.rot back)).scale ib
  let vOut := ((g.emf.sub (i1.timesZ rv xv)).add (((i2.timesZ rv xv).neg).rot back)).scale vb
  let was := s.bit p (Fd.rdgEngStatusLimiting e)
  let s := s.setBit p (Fd.rdgEngStatusLimiting e) limiting
  let s := s.setEng p e { g with i1 := if off then {} else i1, limCount := if limiting then g.limCount + 1 else 0
                                 clearCount := if limiting then 0 else g.clearCount + 1 }
  let s := s.setW p (Reg.rdgEngIlim e) ilim
  let s := (s.setW p (Reg.rdgEngIdRef e) (if off then 0 else iOut.d)).setW p (Reg.rdgEngIqRef e) (if off then 0 else iOut.q)
  let s := (s.setW p (Reg.rdgEngVdRef e) (if off then 0 else vOut.d)).setW p (Reg.rdgEngVqRef e) (if off then 0 else vOut.q)
  if limiting && !was then fire p Ev.rdgLimit s else s

/-- The changes of mode that a step's own results make (R238, R240, R243). -/
def rdgTransitions (p : PeakId) (e : Nat) (ts : Word) (instant : Nat) (s : State) : State :=
  let g := s.eng p e
  let mode := s.engMode p e
  let n := s.fld p (Fd.rdgEngCfgFaultN e)
  let wait := s.bit p (Fd.rdgEngStatusBsWait e)
  let ret := s.fld p (Fd.rdgEngStatusReturnMode e)
  let toRecover := fun (s : State) =>
    changeMode p e mRecover instant (s.setEng p e { s.eng p e with recovered := 0, limCount := 0 })
  if 1 ≤ mode ∧ mode ≤ 4 ∧ wait = false ∧ n ≤ g.limCount then enterFault p e instant s
  else if mode = mBlackStart ∧ wait = false ∧ fle (s.w p (Reg.rdgEngE0 e)) g.eMag = true then changeMode p e mIsland instant s
  else if mode = mFault then
    if ret = mBlackStart then (if n ≤ g.clearCount then toRecover s else s)
    else if fle (s.w p (Reg.rdgEngVFaultOut e)) (s.w p (Reg.rdgEngV1 e)) && decide (g.limCount = 0) then toRecover s else s
  else if mode = mRecover then
    if n ≤ g.limCount then enterFault p e instant s
    else
      let t := fa g.recovered ts
      let s := s.setEng p e { g with recovered := t }
      let total := fd (s.w p (Reg.rdgEngRecoverCyc e)) (fint (s.reg p (Reg.rdgEngFNom e) : Nat))
      if fle total t then changeMode p e ret instant s else s
  else s

/-- XV as RECOVER moves it, to XV and no further (R240). -/
def rdgXv (p : PeakId) (e : Nat) (s : State) : Word :=
  let xv := s.w p (Reg.rdgEngXv e)
  if s.engMode p e = mRecover then
    let rec_ := s.w p (Reg.rdgEngXvRec e)
    let total := fd (s.w p (Reg.rdgEngRecoverCyc e)) (fint (s.reg p (Reg.rdgEngFNom e) : Nat))
    fa rec_ (fm (fs xv rec_) (fmin (fd (s.eng p e).recovered total) fOne))
  else xv

/-- The keeper at a tick, as the step read it at its start. -/
def EngStep.keeperAt (g : EngStep) (tick : Int) : Nat := (((g.keeper : Int) + (g.inc : Int) * (tick - g.keepTick)) % 2 ^ 64).toNat

/-- The ticks from the tagged sample to the closing wrap: L_TICKS, or PRD + 1 where that is less (R232). -/
def stepLead (p : PeakId) (e : Nat) (s : State) : Nat := min (s.reg p (Reg.rdgEngLTicks e) % 2 ^ 21) ((s.eng p e).start.prd + 1)

/-- The tagged sample instant of the step's period. -/
def stepSample (p : PeakId) (e : Nat) (s : State) : Nat := (s.eng p e).start.wrap + ((s.eng p e).start.prd + 1 - stepLead p e s)

/-- A step's computation (R234). -/
def rdgCompute (p : PeakId) (e : Nat) (s : State) : State :=
  let g := s.eng p e
  let ts := tsOf g.start.prd
  let l := stepLead p e s
  let sample := stepSample p e s
  let thS := g.start.keeperAt sample
  let thA := (thS + g.start.inc * l) % 2 ^ 64
  let theta := BitVec.ofNat 64 thS
  let s := (s.setReg p (Reg.rdgEngThetaSLo e) (thS % 2 ^ 32)).setReg p (Reg.rdgEngThetaSHi e) (thS / 2 ^ 32)
  let s := (s.setReg p (Reg.rdgEngThetaALo e) (thA % 2 ^ 32)).setReg p (Reg.rdgEngThetaAHi e) (thA / 2 ^ 32)
  let s := s.setFld p (Fd.rdgEngStatusHolding e) 0
  let v1Last := g.v1
  let s := rdgMeasure p e theta ts s
  let s := rdgExamine p e (s.w p (Reg.rdgEngV1 e)) sample s
  let s := rdgRestore p e theta sample ts s
  let s := rdgFrequency p e ts s
  let rv := s.w p (Reg.rdgEngRv e)
  let xv := rdgXv p e s
  let s := rdgEmf p e ts rv xv v1Last s
  let s := rdgOutputs p e theta rv xv s
  let s := rdgTransitions p e ts sample s
  let w := (s.eng p e).omega
  let f := s.reg p (Reg.rdgEngFNom e) % 2 ^ 8
  let inc := incOf w f
  let s := s.setEng p e { s.eng p e with incNext := inc }
  let s := s.setW p (Reg.rdgEngFreq e) (fm w (fint (f : Nat)))
  let s := (s.setReg p (Reg.rdgEngIncLo e) (inc % 2 ^ 32)).setReg p (Reg.rdgEngIncHi e) (inc / 2 ^ 32)
  rsPublish p e (g.start.wrap + (g.start.prd + 1)) thA inc s

/-- Does the limiter bring an engine that was in modes 1 to 4 in `s` to FAULT in `t`, the end of its step (R238)? -/
def limiterFault (p : PeakId) (e : Nat) (s t : State) : Bool :=
  decide (1 ≤ s.engMode p e) && decide (s.engMode p e ≤ 4) && decide (t.engMode p e = mFault) &&
    decide (t.fld p (Fd.rdgEngCfgFaultN e) ≤ (t.eng p e).limCount)

/-- A step with the command it examines. Where the limiter enters FAULT in the step, the command is treated as in FAULT (R238), so the step is taken
without it first. -/
def rdgWhole (p : PeakId) (e : Nat) (s : State) : State :=
  match (s.eng p e).cmd with
  | none => rdgCompute p e s
  | some c =>
    let t := rdgCompute p e (s.setEng p e { s.eng p e with cmd := none })
    if limiterFault p e s t then rdgCommand p e c (t.w p (Reg.rdgEngV1 e)) (stepSample p e s) t else rdgCompute p e s

/-! ### Steps and wraps (R226, R227) -/

/-- XCS starts a step on the values written before it: it reads the period, the keeper and the scale here, and completes in the core cycle `due` of its
Peak. -/
def rdgStart (p : PeakId) (e due : Nat) (s : State) : State :=
  let g := s.eng p e
  let tb := s.fld p (Fd.rdgEngCfgTb e)
  s.setEng p e { g with tb := tb, running := true, due := due, twice := g.stepped, stepped := true
                        start := ⟨s.periodStart tb, s.prdNow tb, g.keeper, g.keepTick, g.inc, g.scale⟩ }

/-! ### Writes of engine words (R229, R246) -/

/-- Does an fp32 word lie in a closed range? -/
def inRng (w lo hi : Word) : Bool := fle lo w && fle w hi

/-- The word n / d. -/
def rat (n : Int) (d : Nat) : Word := fpOfRat n d

/-- Is the value in the range that the map gives the word at a window offset? -/
def rdgOk (p : PeakId) (e off : Nat) (v : Word) (s : State) : Bool :=
  let n := v.toNat
  match off with
  | 0x008 => decide (n % 8 ≤ 4)
  | 0x00C => decide (bits n 23 16 ≠ 0) && decide (bits n 5 4 ≠ 3)
  | 0x010 => decide (1 ≤ n) && decide (n ≤ 1048576)
  | 0x060 => inRng v (rat (-3) 2) (rat 3 2)
  | 0x064 => inRng v (rat (-3) 2) (rat 3 2)
  | 0x068 => inRng v fHalf (rat 6 5)
  | 0x06C => inRng v (rat 9 10) (rat 11 10)
  | 0x080 => inRng v (rat 1 10) (rat 20 1)
  | 0x084 => inRng v 0 (rat 400 1)
  | 0x088 => inRng v (rat 5 1) (rat 200 1)
  | 0x08C => inRng v (rat 5 1) (rat 100 1)
  | 0x090 => inRng v 0 fHalf
  | 0x094 => inRng v (rat 1 50) fHalf
  | 0x098 => inRng v (s.w p (Reg.rdgEngE0 e)) (rat 13 10)
  | 0x09C => inRng v (rat 1 10) (rat 3 2)
  | 0x0A0 => inRng v (s.w p (Reg.rdgEngIMax e)) fTwo
  | 0x0A4 => inRng v 0 fOne
  | 0x0A8 => inRng v 0 fHalf
  | 0x0AC => inRng v (fpOfRat (s.reg p (Reg.rdgEngFNom e) : Nat) 2) (rat 200 1)
  | 0x0B0 => inRng v fOne (rat 100 1)
  | 0x0B4 => inRng v (rat 3 10) (s.w p (Reg.rdgEngVFaultOut e))
  | 0x0B8 => inRng v fHalf (rat 19 20)
  | 0x0BC => inRng v 0 (rat 1 20)
  | 0x0C0 => inRng v 0 fOne
  | 0x0C4 => inRng v fQuarter fOne
  | 0x0C8 => inRng v (s.w p (Reg.rdgEngXv e)) fOne
  | 0x0CC => inRng v (rat 1 100) fOne
  | 0x0D0 => inRng v 0 fTwo && fle (fm (rat 4 1) (s.w p (Reg.rdgEngRestoreMax e))) v
  | 0x0D4 => inRng v 0 (rat 1 10) && fle (fm (rat 4 1) v) (s.w p (Reg.rdgEngKr e))
  | 0x0D8 => inRng v (rat 1 10000) fOne
  | 0x0DC => inRng v 0 fOne
  | 0x0E0 => inRng v (rat 1 50) (rat 10 1)
  | 0x0E8 => inRng v (rat 1 100) (rat 1 5)
  | 0x0EC => inRng v (rat 1 10) (rat 20 1)
  | 0x0F0 => inRng v 0 (rat 2000 1)
  | 0x0F4 => inRng v (rat 1000 1) (rat 10000000 1)
  | 0x0F8 => inRng v (rat 100 1) (rat 2000 1)
  | 0x0FC => decide (40 ≤ n) && decide (n ≤ 70)
  | _ => true

/-- Is the word at an offset RWS (CFG, L_TICKS, the bases and KEEPER_SET)? -/
def rdgRws (off : Nat) : Bool :=
  decide (off = 0x00C) || decide (off = 0x010) || (decide (0x0F4 ≤ off) && decide (off ≤ 0x0FC)) || decide (off = 0x180) || decide (off = 0x184)

/-- The bits that the map defines of a word. -/
def rdgMask (off : Nat) (v : Word) : Word :=
  match off with
  | 0x008 => v &&& 0x7
  | 0x00C => v &&& 0x00FF0337
  | 0x014 => v &&& 0x1
  | _ => v

/-- Can the word at an offset be written at all? FLAGS clears the bits written 1. -/
def rdgWritable (off : Nat) : Bool :=
  decide (off = 0x004) || decide (off = 0x008) || decide (off = 0x00C) || decide (off = 0x010) || decide (off = 0x014) ||
    (decide (0x040 ≤ off) && decide (off ≤ 0x054)) || (decide (0x060 ≤ off) && decide (off ≤ 0x06C)) ||
    (decide (0x080 ≤ off) && decide (off ≤ 0x0FC)) || decide (off = 0x180) || decide (off = 0x184)

/-- A write of an engine word takes effect. -/
def rdgPut (p : PeakId) (e off : Nat) (v : Word) (s : State) : State :=
  let a := 0x40091000 + 0x400 * e + off
  let s := s.setW p a (rdgMask off v)
  match off with
  | 0x008 => s.setEng p e { s.eng p e with cmd := some (v.toNat % 8) }
  | 0x0E4 => if s.bit p (Fd.rdgEngStatusBsWait e) then s.setEng p e { s.eng p e with bsMoved := true } else s
  | 0x184 => s.setEng p e { s.eng p e with keeperSet := some (s.reg p (Reg.rdgEngKeeperSetLo e) + 2 ^ 32 * v.toNat) }
  | _ => s

/-- The state with the writes that wait for a step's end in their words: what a further write meets (R229). -/
def rdgLateView (p : PeakId) (e : Nat) (s : State) : State :=
  forAll (s.eng p e).late (fun x s => s.setW p (0x40091000 + 0x400 * e + x.1) (rdgMask x.1 x.2)) s

/-- A write of an engine word: the RWS rule, the range, and the wait for a step that runs. -/
def rdgWrite (p : PeakId) (e off : Nat) (v : Word) (s : State) : State :=
  if s.engRetired p e || !rdgWritable off then s
  else if off = 0x004 then s.setW p (Reg.rdgEngFlags e) (s.w p (Reg.rdgEngFlags e) &&& ~~~v)
  else if rdgRws off && decide (s.engMode p e ≠ mOff) then s.raise p (Fd.rdgEngFlagsWriteWhileRunning e)
  else if rdgOk p e off v (rdgLateView p e s) = false then s.raise p (Fd.rdgEngFlagsRange e)
  else if (s.eng p e).running then s.setEng p e { s.eng p e with late := (s.eng p e).late ++ [(off, v)] }
  else rdgPut p e off v s

/-- A step completes, 40 core cycles after its XCS (R122). A second step in one period, and a step while HOLD = 1, change nothing else (R227). -/
def rdgStep (p : PeakId) (e : Nat) (s : State) : State :=
  let g := s.eng p e
  if g.running = false ∨ (s.peak p).cycles64 < 64 * g.due then s
  else
    let s := s.setEng p e { g with running := false, late := [] }
    let s := if g.twice then s.raise p (Fd.rdgEngFlagsStepTwice e)
      else if s.reg p (Reg.rdgEngHold e) % 2 = 1 then s.setFld p (Fd.rdgEngStatusHolding e) 1
      else rdgWhole p e s
    forAll g.late (fun x s => rdgPut p e x.1 x.2 s) s

/-- Timebase tb wraps: the keepers advance, the new increments take effect, and periods without a step are counted. -/
def rdgWrap (tb : Nat) (closing : Bool) (s : State) : State :=
  bothPeaks (fun p s =>
    if (s.peak p).up then
      forAll (List.range 8) (fun e s =>
        if s.engTb p e = tb ∧ s.engRetired p e = false then
          let g := s.eng p e
          let k := g.keeperAt s.tick
          let s := s.setEng p e { g with keeper := g.keeperSet.getD k, keepTick := s.tick, inc := g.incNext, stepped := false
                                         keeperSet := none, scale := s.fld p Fd.rdgThrottleScale }
          let s := if closing && !g.stepped && !(s.peak p).held then
              (s.bump p (Fd.rdgEngCountsMissed e) (Fd.rdgEngCountsMissedSat e)).raise p (Fd.rdgEngFlagsStepMissed e) else s
          if s.prdNow tb + 1 < s.reg p (Reg.rdgEngLTicks e) then s.raise p (Fd.rdgEngFlagsRange e) else s
        else s) s
    else s) s

/-- The scale reaches a Peak at a wrap of the period timebase; an engine whose period starts at that wrap uses it from there (R249). -/
def throttleDeliver (scale : Nat) (p : PeakId) (s : State) : State :=
  if (s.peak p).up then
    forAll (List.range 8) (fun e s =>
      if s.wrapOf (s.engTb p e) = s.tick then s.setEng p e { s.eng p e with scale := scale } else s) (s.setFld p Fd.rdgThrottleScale scale)
  else s

/-! ### The commands -/

def execRidgelineStep (p : PeakId) (e : Fin 8) (s : State) : Out := .next (if (s.peak p).up then rdgStep p e.val s else s)

/-- A command is a write of MODE_CMD; the next step examines it. -/
def rdgCmd (m : Master) (e c : Nat) (s : State) : State :=
  if (s.peak m.peak).up then rdgWrite m.peak e 0x008 (BitVec.ofNat 32 c) s else s

def execRdgCmdOff (m : Master) (e : Fin 8) (s : State) : Out := .next (rdgCmd m e.val mOff s)
def execRdgCmdFollow (m : Master) (e : Fin 8) (s : State) : Out := .next (rdgCmd m e.val mFollow s)
def execRdgCmdForm (m : Master) (e : Fin 8) (s : State) : Out := .next (rdgCmd m e.val mForm s)
def execRdgCmdIsland (m : Master) (e : Fin 8) (s : State) : Out := .next (rdgCmd m e.val mIsland s)
def execRdgCmdBlackStart (m : Master) (e : Fin 8) (s : State) : Out := .next (rdgCmd m e.val mBlackStart s)

/-- At the first wrap of the engine's timebase at or after BS_START_S the keeper takes θ_cairn of that instant and the ramp begins (R243). -/
def execBlackStartBegin (p : PeakId) (e : Fin 8) (s : State) : Out :=
  .next (if (s.peak p).up && s.bit p (Fd.rdgEngStatusBsWait e.val) && s.bit .a (Fd.pwmTbStatusRun (s.engTb p e.val)) &&
      decide (s.wrapOf (s.engTb p e.val) = s.tick) && bsPassed p e.val s then
      let g := s.eng p e.val
      let s := s.setEng p e.val { g with keeper := cairnAngle p e.val s.tick s, keepTick := s.tick
                                         omega := s.w p (Reg.rdgEngWSet e.val), eMag := 0 }
      s.setFld p (Fd.rdgEngStatusBsWait e.val) 0
    else s)

def execKeeperSet (m : Master) (e : Fin 8) (val : Word) (s : State) : Out :=
  .next (if (s.peak m.peak).up then rdgWrite m.peak e.val 0x184 val s else s)

end Sys2Proof.Machine
end

