-- ==== Sys2Proof/Machine/Switchback.lean ====
section
/-! DEFINITION. The Switchback loops and their test generators (R251 to R269). -/

namespace Sys2Proof.Machine

def State.loop (s : State) (p : PeakId) (m : Nat) : Loop := Tab.get (fun _ => {}) (s.peak p).loops m
def State.setLoop (s : State) (p : PeakId) (m : Nat) (l : Loop) : State :=
  s.setPeak p { s.peak p with loops := Tab.put (fun _ => {}) (s.peak p).loops m l }
def State.tg (s : State) (p : PeakId) (g : Nat) : Tg := Tab.get (fun _ => {}) (s.peak p).tgs g
def State.setTg (s : State) (p : PeakId) (g : Nat) (t : Tg) : State :=
  s.setPeak p { s.peak p with tgs := Tab.put (fun _ => {}) (s.peak p).tgs g t }

/-- The timebase that a loop belongs to; a write of CFG.TB takes effect at the loop's next step (R251, R252). -/
def loopTb (s : State) (p : PeakId) (m : Nat) : Nat := (s.loop p m).tb
def loopRuns (s : State) (p : PeakId) (m : Nat) : Bool := s.bit p (Fd.swbLoopStatusState m)

/-- Bit m of a LO/HI pair of summary registers. -/
def setLoHi (p : PeakId) (lo hi m : Nat) (v : Bool) (s : State) : State :=
  setBitOf p ⟨if m < 32 then lo else hi, 31, 0⟩ (m % 32) v s

/-! ### Test generators (R264 to R268) -/

/-- The generator that runs on a loop. -/
def loopTg (p : PeakId) (m : Nat) (s : State) : Option Nat :=
  (List.range 4).find? (fun g => s.bit p (Fd.swbTgStatusRunning g) && decide (s.fld p (Fd.swbTgCfgLoop g) = m))

/-- A run ends: RUN reads 0 and EV_SWB_TEST fires. -/
def tgEnd (p : PeakId) (g abort : Nat) (s : State) : State :=
  let s := (s.setFld p (Fd.swbTgStatusRunning g) 0).setFld p (Fd.swbTgCtrlRun g) 0
  let s := s.setFld p (Fd.swbLoopStatusTest (s.fld p (Fd.swbTgCfgLoop g))) 0
  let s := if abort = 0 then s.setFld p (Fd.swbTgStatusDone g) 1
    else (s.setFld p (Fd.swbTgStatusAborted g) 1).setFld p (Fd.swbTgStatusAbort g) abort
  fire p Ev.swbTest s

/-- The run on a loop aborts, if there is one. -/
def loopAbort (p : PeakId) (m code : Nat) (s : State) : State :=
  match loopTg p m s with
  | some g => tgEnd p g code s
  | none => s

/-- Are the configuration words in range (R264, R265, R267)? -/
def tgOk (p : PeakId) (g : Nat) (s : State) : Bool :=
  let win : Nat := s.reg p (Reg.swbTgWin g) % 2 ^ 24
  let pinc : Int := s.reg p (Reg.swbTgPinc g)
  let dinc := s.regI p (Reg.swbTgDinc g)
  let phase := fun (n : Int) => decide (1 ≤ n) && decide (n ≤ 2 ^ 31 - 1)
  let wave := match s.fld p (Fd.swbTgCfgWave g) with
    | 0 => phase pinc
    | 1 => phase (pinc + ((win : Int) - 1) * dinc)
    | 2 => decide (7 ≤ s.fld p (Fd.swbTgCfgPrbsN g)) && decide (s.fld p (Fd.swbTgCfgPrbsN g) ≤ 15) && decide (1 ≤ s.fld p (Fd.swbTgCfgChip g))
    | _ => false
  wave && decide (1 ≤ win) && fFinite (s.w p (Reg.swbTgAmp g)) && decide (s.reg p (Reg.swbTgRingBase g) % 32 = 0) &&
    decide (s.reg p (Reg.swbTgRingLen g) % 32 = 0)

def tgRefuse (p : PeakId) (g code : Nat) (s : State) : State :=
  (s.raise p Fd.swbFlagsTestRefused).setFld p (Fd.swbTgStatusRefuse g) code

/-- RUN written 1 (R264). -/
def tgStart (p : PeakId) (g : Nat) (s : State) : State :=
  let m := s.fld p (Fd.swbTgCfgLoop g)
  if s.bit p (Fd.swbTgCtrlRun g) then s
  else if loopRuns s p m = false then tgRefuse p g 1 s
  else if (loopTg p m s).isSome then tgRefuse p g 2 s
  else if tgOk p g s = false then tgRefuse p g 3 s
  else
    let s := s.setTg p g { waiting := (s.loop p m).running, prbs := 2 ^ s.fld p (Fd.swbTgCfgPrbsN g) - 1 }
    let s := (s.setFld p (Fd.swbTgCtrlRun g) 1).setReg p (Reg.swbTgStatus g) 1
    let s := s.setReg p (Reg.swbTgCount g) 0
    let s := ((s.setReg p (Reg.swbTgResMi g) 0).setReg p (Reg.swbTgResMq g) 0).setReg p (Reg.swbTgResAi g) 0
    (s.setReg p (Reg.swbTgResAq g) 0).setFld p (Fd.swbLoopStatusTest m) 1

/-- RUN written 0. -/
def tgStop (p : PeakId) (g : Nat) (s : State) : State := if s.bit p (Fd.swbTgStatusRunning g) then tgEnd p g 4 s else s

/-- The tap bits of a PRBS register, numbered from 1 (R265). -/
def prbsTaps (n : Nat) : List Nat :=
  match n with
  | 7 => [7, 6]
  | 8 => [8, 6, 5, 4]
  | 9 => [9, 5]
  | 10 => [10, 7]
  | 11 => [11, 9]
  | 12 => [12, 11, 10, 4]
  | 13 => [13, 12, 11, 8]
  | 14 => [14, 13, 12, 2]
  | _ => [15, 14]

/-- The register after one bit, and that bit. -/
def prbsNext (n r : Nat) : Nat × Bool :=
  let b := (prbsTaps n).foldl (fun x t => x + bits r (t - 1) (t - 1)) 0 % 2
  ((2 * r + b) % 2 ^ n, decide (b = 1))

/-- Round to 53 significant bits, ties to even: binary64 in the range that the sums have. -/
def round53 (n : Int) : Int :=
  let m := n.natAbs
  let l := if m = 0 then 0 else Nat.log2 m
  if l < 53 then n else rneShift n (l - 52) * 2 ^ (l - 52)

/-- The exact value of a finite fp32 word in units of 2^-149. -/
def fexact (w : Word) : Int := (FVal.ofWord w).int

/-- The injected value of step k, and the generator with its waveform ready for k (a new PRBS bit every CHIP steps from k = 0). -/
def tgSample (p : PeakId) (g : Nat) (s : State) : Word × Tg :=
  let t := s.tg p g
  let amp := s.w p (Reg.swbTgAmp g)
  if s.fld p (Fd.swbTgCfgWave g) = 2 then
    let t := if t.k % s.fld p (Fd.swbTgCfgChip g) = 0 then
        let r := prbsNext (s.fld p (Fd.swbTgCfgPrbsN g)) t.prbs
        { t with prbs := r.1, bit_ := r.2 }
      else t
    (if t.bit_ then amp else fneg amp, t)
  else (fm amp (trigValue (BitVec.ofNat 64 (t.phi * 2 ^ 32)) 0 false), t)

/-- A step of the run after the loop's own computation: the correlation, the record, and the end at WIN steps (R265 to R267). -/
def tgAfter (p : PeakId) (m g : Nat) (inj : Word) (t : Tg) (s : State) : State :=
  let ph := BitVec.ofNat 64 (t.phi * 2 ^ 32)
  let meas := fexact (s.w p (Reg.swbLoopMeas m))
  let aux := fexact (s.w p (Reg.swbLoopAux m))
  let sn := fexact (trigValue ph 0 false)
  let cs := fexact (trigValue ph 1 false)
  let wave := s.fld p (Fd.swbTgCfgWave g)
  let t1 := if wave = 0 then { t with mi := round53 (t.mi + meas * sn), mq := round53 (t.mq + meas * cs)
                                      ai := round53 (t.ai + aux * sn), aq := round53 (t.aq + aux * cs) } else t
  let win : Nat := s.reg p (Reg.swbTgWin g) % 2 ^ 24
  let len := s.reg p (Reg.swbTgRingLen g) % 2 ^ 21
  let s := if len = 0 then s
    else
      let w := s.reg p (Reg.swbTgWptr g)
      let r := fun a => s.reg p a
      let s := sramPuts p (s.reg p (Reg.swbTgRingBase g) + w) [t.k % 2 ^ 24, inj.toNat, r (Reg.swbLoopMeas m), r (Reg.swbLoopAux m),
        r (Reg.swbLoopOut m), r (Reg.swbLoopRef m), r (Reg.swbLoopErr m), 0] s
      s.setReg p (Reg.swbTgWptr g) ((w + 32) % len)
  let pinc : Int := s.reg p (Reg.swbTgPinc g)
  let dphi := if wave = 1 then pinc + (t.k : Int) * s.regI p (Reg.swbTgDinc g) else pinc
  let s := s.setTg p g { t1 with k := t.k + 1, phi := (((t.phi : Int) + dphi) % 2 ^ 32).toNat }
  let s := s.setReg p (Reg.swbTgCount g) (t.k + 1)
  if win ≤ t.k + 1 then
    let res := fun (n : Int) => fpOfRat (2 * n) (win * 2 ^ 298)
    let s := if wave = 0 then
        ((s.setW p (Reg.swbTgResMi g) (res t1.mi)).setW p (Reg.swbTgResMq g) (res t1.mq)).setW p (Reg.swbTgResAi g) (res t1.ai)
      else s
    let s := if wave = 0 then s.setW p (Reg.swbTgResAq g) (res t1.aq) else s
    tgEnd p g 0 s
  else s

/-! ### Commands and banks (R253, R261 to R263) -/

def swbRefuse (p : PeakId) (m code : Nat) (s : State) : State :=
  (s.raise p (Fd.swbLoopFlagsCmdRefused m)).setFld p (Fd.swbLoopStatusRefuse m) code

def setTripped (p : PeakId) (m : Nat) (v : Bool) (s : State) : State :=
  setLoHi p Reg.swbTripLo Reg.swbTripHi m v (s.setBit p (Fd.swbLoopStatusTripped m) v)

/-- The loop stops: a fade ends at once with the target bank active, the queue is dropped, and a test run aborts. -/
def loopStop (p : PeakId) (m : Nat) (s : State) : State :=
  let l := s.loop p m
  let s := match l.fade with
    | some (_, _, dst) => s.setFld p (Fd.swbLoopStatusBank m) dst
    | none => s
  let s := s.setLoop p m { l with fade := none, nextFade := none }
  let s := ((s.setFld p (Fd.swbLoopStatusFading m) 0).setFld p (Fd.swbLoopStatusQueued m) 0).setReg p (Reg.swbLoopLambda m) 0
  let s := setLoHi p Reg.swbRunLo Reg.swbRunHi m false (s.setFld p (Fd.swbLoopStatusState m) 0)
  loopAbort p m 1 s

/-- A command is examined; the flag says that START was accepted in this step. -/
def swbCommand (p : PeakId) (m c : Nat) (s : State) : State × Bool :=
  let tripped := s.bit p (Fd.swbLoopStatusTripped m)
  match c with
  | 1 =>
    if loopRuns s p m then (swbRefuse p m 1 s, false)
    else if tripped then (swbRefuse p m 2 s, false)
    else
      let s := (s.setW p (Reg.swbLoopRef m) (s.w p (Reg.swbLoopMeas m))).setW p (Reg.swbLoopRate m) 0
      let s := s.setW p (Reg.swbLoopInt m) (s.w p (Reg.swbLoopPreset m))
      (setLoHi p Reg.swbRunLo Reg.swbRunHi m true (s.setFld p (Fd.swbLoopStatusState m) 1), true)
  | 2 => (loopStop p m s, false)
  | 3 =>
    if s.reg p (Reg.swbLoopSupvCnt m) ≠ 0 then (swbRefuse p m 3 (s.raise p (Fd.swbLoopFlagsClearRefused m)), false)
    else if tripped then (setTripped p m false (s.setFld p (Fd.swbLoopStatusHalted m) 0), false)
    else (swbRefuse p m 0 s, false)
  | _ => (s, false)

/-- A fade to a bank starts, with N read now (R261). -/
def fadeStart (p : PeakId) (m bank : Nat) (s : State) : State :=
  (s.setLoop p m { s.loop p m with fade := some (0, s.reg p (Reg.swbLoopXfadeN m) % 2 ^ 16, bank) }).setFld p (Fd.swbLoopStatusFading m) 1

/-- A bank request is examined (R261, R262). -/
def bankExamine (p : PeakId) (m bank : Nat) (s : State) : State :=
  if loopRuns s p m = false then s.setFld p (Fd.swbLoopStatusBank m) bank
  else if (s.loop p m).fade.isSome then
    let s := if s.bit p (Fd.swbLoopStatusQueued m) then s.raise p (Fd.swbLoopFlagsQueueReplaced m) else s
    (s.setFld p (Fd.swbLoopStatusQueued m) 1).setFld p (Fd.swbLoopStatusQueueBank m) bank
  else if s.fld p (Fd.swbLoopStatusBank m) = bank then s
  else fadeStart p m bank s

/-- What operation 4 examines: the fade that a queue has left for this step, then the request. -/
def bankRequests (p : PeakId) (m : Nat) (s : State) : State :=
  let l := s.loop p m
  let s := s.setLoop p m { l with bankReq := none, nextFade := none }
  let s := match l.nextFade with
    | some b => fadeStart p m b s
    | none => s
  match l.bankReq with
  | some b => bankExamine p m b s
  | none => s

/-- Operation 4 (R261, R262): the requests, then the end of a fade whose k has reached N, with the examination of the queue. -/
def bankStep (p : PeakId) (m : Nat) (s : State) : State :=
  let s := bankRequests p m s
  match (s.loop p m).fade with
  | some (k, n, dst) =>
    if n ≤ k then
      let s := (s.setFld p (Fd.swbLoopStatusBank m) dst).setFld p (Fd.swbLoopStatusFading m) 0
      let s := s.setReg p (Reg.swbLoopLambda m) 0
      let q := s.bit p (Fd.swbLoopStatusQueued m)
      let qb := s.fld p (Fd.swbLoopStatusQueueBank m)
      let s := s.setLoop p m { s.loop p m with fade := none, nextFade := if q && decide (qb ≠ dst) then some qb else none }
      fire p Ev.swbXfade (s.setFld p (Fd.swbLoopStatusQueued m) 0)
    else s
  | none => s

/-- A blended gain: KP, KI or KV by its offset from KP (R261). -/
def gain (p : PeakId) (m off : Nat) (s : State) : Word :=
  let g := fun (b : Nat) => s.w p ((if b = 0 then Reg.swbLoopKpA m else Reg.swbLoopKpB m) + off)
  match (s.loop p m).fade with
  | none => g (s.fld p (Fd.swbLoopStatusBank m))
  | some (k, n, dst) =>
    let f := g (1 - dst)
    fa f (fm (fd (fint (k : Nat)) (fint (n : Nat))) (fs (g dst) f))

/-! ### The step (R254 to R260) -/

/-- Operation 1: the shaper; the results are r, v and the target. -/
def shaper (p : PeakId) (m : Nat) (ts : Word) (s : State) : Word × Word × Word :=
  let tgt := if s.bit p (Fd.swbLoopStatusHalted m) then (s.loop p m).haltRef else s.w p (Reg.swbLoopTarget m)
  if s.fld p (Fd.swbLoopCfgShapeEn m) = 0 then (tgt, 0, tgt)
  else
    let r := s.w p (Reg.swbLoopRef m)
    let v := s.w p (Reg.swbLoopRate m)
    let d := fs tgt r
    let a := fm (s.w p (Reg.swbLoopAmax m)) ts
    let root := fs (fq (fa fQuarter (fd (fm fTwo (fabs d)) (fm a ts)))) fHalf
    let sgn : Word := if feq d 0 then 0 else if flt d 0 then fneg fOne else fOne
    let vd := fm sgn (fmin (s.w p (Reg.swbLoopRmax m)) (fm a root))
    let v := fa v (fclamp (fs vd v) (fneg a) a)
    let rn := fa r (fm v ts)
    if fle (fm (fs tgt r) (fs tgt rn)) 0 && fle (fabs v) a then (tgt, 0, tgt) else (rn, v, tgt)

/-- Operation 3: supervision. -/
def supervise (p : PeakId) (m : Nat) (held : Bool) (s : State) : State :=
  if held then s
  else
    let e := s.w p (Reg.swbLoopErr m)
    let cond := match s.fld p (Fd.swbLoopCfgSupv m) with
      | 1 => flt (s.w p (Reg.swbLoopFeLimit m)) (fabs e)
      | 2 => s.bit p (Fd.swbLoopStatusSat m)
      | _ => false
    let n := if cond then min (s.reg p (Reg.swbLoopSupvCnt m) + 1) 65535 else 0
    let s := s.setReg p (Reg.swbLoopSupvCnt m) n
    if cond && decide (n = s.reg p (Reg.swbLoopSupvN m) % 2 ^ 16) && !s.bit p (Fd.swbLoopStatusTripped m) then
      let s := setTripped p m true (s.raise p (Fd.swbLoopFlagsSupvTrip m))
      let s := s.bump p (Fd.swbLoopCountsTrips m) (Fd.swbLoopCountsTripSat m)
      let s := fire p Ev.swbSupv s
      match s.fld p (Fd.swbLoopCfgAction m) with
      | 1 => (s.setLoop p m { s.loop p m with haltRef := s.w p (Reg.swbLoopRef m) }).setFld p (Fd.swbLoopStatusHalted m) 1
      | 2 => (loopStop p m s).setW p (Reg.swbLoopOut m) 0
      | _ => s
    else s

/-- The sample that a test generator injects: its number, the word, and the generator after it. -/
def smpWord (x : Option (Nat × Word × Tg)) : Word :=
  match x with
  | some (_, w, _) => w
  | none => 0

/-- Where the generator injects (R264): 0 into the reference, else into the output. -/
def smpPoint (p : PeakId) (x : Option (Nat × Word × Tg)) (s : State) : Nat :=
  match x with
  | some (g, _) => s.fld p (Fd.swbTgCfgPoint g)
  | none => 0

/-- The step of the generator that ends the loop's step. -/
def smpAfter (p : PeakId) (m : Nat) (x : Option (Nat × Word × Tg)) (s : State) : State :=
  match x with
  | some (g, w, t) => if s.bit p (Fd.swbTgStatusRunning g) then tgAfter p m g w t s else s
  | none => s

/-- Count the step of a running fade, and show λ. -/
def fadeStep (p : PeakId) (m : Nat) (l : Loop) (s : State) : State :=
  match l.fade with
  | some (k, n, dst) =>
    (s.setLoop p m { l with fade := some (k + 1, n, dst) }).setW p (Reg.swbLoopLambda m) (fd (fint ((k + 1 : Nat) : Int)) (fint (n : Nat)))
  | none => s

/-- The sample of the generator that drives the loop. -/
def smpOf (p : PeakId) (g : Option Nat) (s : State) : Option (Nat × Word × Tg) := g.map (fun g => (g, tgSample p g s))

/-- A RUNNING loop's step. A step that takes START keeps REF and RATE as START set them. -/
def loopRun (p : PeakId) (m : Nat) (ts : Word) (fresh : Bool) (s : State) : State :=
  let s := fadeStep p m (s.loop p m) s
  let tgr := (loopTg p m s).filter (fun g => !(s.tg p g).waiting)
  let smp := smpOf p tgr s
  let inj := smpWord smp
  let point := smpPoint p smp s
  let injR := if point = 0 then inj else 0
  let injO := if point = 0 then 0 else inj
  let sh := shaper p m ts s
  let r := if fresh then s.w p (Reg.swbLoopRef m) else sh.1
  let v := if fresh then 0 else sh.2.1
  let lim := !feq r sh.2.2
  let meas := s.w p (Reg.swbLoopMeas m)
  let outMin := s.w p (Reg.swbLoopOutMin m)
  let outMax := s.w p (Reg.swbLoopOutMax m)
  let e := fs (fa r injR) meas
  let int := s.w p (Reg.swbLoopInt m)
  let u := fa (fa (fa (fa (s.w p (Reg.swbLoopFf m)) (fm (gain p m 0 s) e)) (fm (gain p m 8 s) v)) int) injO
  let out := fclamp u outMin outMax
  let sat := flt outMax u || flt u outMin
  let stuck := (flt outMax u && flt 0 e) || (flt u outMin && flt e 0)
  let int := if s.bit p (Fd.swbLoopStatusHalted m) || stuck then int
    else fclamp (fa int (fm (fm (gain p m 4 s) ts) e)) outMin outMax
  let s := (s.setW p (Reg.swbLoopRef m) r).setW p (Reg.swbLoopRate m) v
  let s := ((s.setW p (Reg.swbLoopOut m) out).setW p (Reg.swbLoopErr m) e).setW p (Reg.swbLoopInt m) int
  let s := ((s.setW p (Reg.swbLoopInj m) inj).setBit p (Fd.swbLoopStatusRateLimited m) lim).setBit p (Fd.swbLoopStatusSat m) sat
  let s := if lim then s.raise p (Fd.swbLoopFlagsRateLimited m) else s
  let hold := match tgr with
    | some g => s.bit p (Fd.swbTgCfgSupvHold g)
    | none => false
  let s := supervise p m hold s
  let s := bankStep p m s
  smpAfter p m smp s

/-- A STOPPED loop's step (R253). -/
def loopRest (p : PeakId) (m : Nat) (s : State) : State :=
  let s := (s.setW p (Reg.swbLoopRef m) (s.w p (Reg.swbLoopMeas m))).setW p (Reg.swbLoopRate m) 0
  let s := ((s.setW p (Reg.swbLoopOut m) 0).setW p (Reg.swbLoopErr m) 0).setReg p (Reg.swbLoopSupvCnt m) 0
  bankStep p m s

/-- A step's computation: the command, then the step of its state. -/
def swbCompute (p : PeakId) (m : Nat) (s : State) : State :=
  let l := s.loop p m
  let ts := tsOf l.prd
  let s := s.setFld p (Fd.swbLoopStatusHolding m) 0
  let r := match l.cmd with
    | some c => swbCommand p m c (s.setLoop p m { l with cmd := none })
    | none => (s, false)
  if loopRuns r.1 p m then loopRun p m ts r.2 r.1 else loopRest p m r.1

/-- XCS starts a step: it reads the period here and completes in the core cycle `due` of its Peak, and a run that waits for it begins. -/
def swbStart (p : PeakId) (m due : Nat) (s : State) : State :=
  let l := s.loop p m
  let tb := s.fld p (Fd.swbLoopCfgTb m)
  let s := s.setLoop p m { l with tb := tb, prd := s.prdNow tb, running := true, due := due, twice := l.stepped, stepped := true }
  match loopTg p m s with
  | some g => s.setTg p g { s.tg p g with waiting := false }
  | none => s

/-! ### Writes of loop words (R251, R258, R263) -/

/-- Is a value in the range of the word at a window offset? -/
def swbOk (p : PeakId) (m off : Nat) (v : Word) (s : State) : Bool :=
  let n := v.toNat
  match off with
  | 0x00C => decide (bits n 13 12 ≠ 3) && decide (bits n 9 8 ≠ 3)
  | 0x018 => decide (1 ≤ n) && decide (n ≤ 65535)
  | 0x020 => fFinite v
  | 0x024 => fFinite v
  | 0x028 => fFinite v
  | 0x02C => fFinite v
  | 0x030 => inRng v (s.w p (Reg.swbLoopOutMin m)) (s.w p (Reg.swbLoopOutMax m))
  | 0x034 => fFinite v && flt 0 v
  | 0x038 => fFinite v && flt 0 v
  | 0x03C => flt v (s.w p (Reg.swbLoopOutMax m))
  | 0x040 => flt (s.w p (Reg.swbLoopOutMin m)) v
  | 0x044 => fle 0 v
  | 0x048 => decide (1 ≤ n) && decide (n ≤ 65535)
  | _ => true

/-- Is the word's owner running (R6, R263)? -/
def swbOwned (p : PeakId) (m off : Nat) (s : State) : Bool :=
  let run := loopRuns s p m
  let bank := s.fld p (Fd.swbLoopStatusBank m)
  let fading := (s.loop p m).fade.isSome
  if off = 0x00C then run
  else if 0x050 ≤ off ∧ off ≤ 0x058 then run && (decide (bank = 0) || fading)
  else if 0x060 ≤ off ∧ off ≤ 0x068 then run && (decide (bank = 1) || fading)
  else false

def swbMask (off : Nat) (v : Word) : Word :=
  match off with
  | 0x00C => v &&& 0x3317
  | 0x010 => v &&& 1
  | 0x018 => v &&& 0xFFFF
  | 0x048 => v &&& 0xFFFF
  | _ => v

def swbWritable (off : Nat) : Bool :=
  (decide (0x004 ≤ off) && decide (off ≤ 0x018)) || (decide (0x020 ≤ off) && decide (off ≤ 0x048)) ||
    (decide (0x050 ≤ off) && decide (off ≤ 0x058)) || (decide (0x060 ≤ off) && decide (off ≤ 0x068))

/-- A write of a loop word takes effect. -/
def swbPut (p : PeakId) (m off : Nat) (v : Word) (s : State) : State :=
  let a := 0x400A1000 + 0x100 * m + off
  match off with
  | 0x008 => if v.toNat % 4 = 0 then s else s.setLoop p m { s.loop p m with cmd := some (v.toNat % 4) }
  | 0x014 => s.setLoop p m { s.loop p m with bankReq := some (v.toNat % 2) }
  | _ => s.setW p a (swbMask off v)

/-- The state with the writes that wait for a step's end in their words: what a further write meets (R251). -/
def swbLateView (p : PeakId) (m : Nat) (s : State) : State :=
  forAll ((s.loop p m).late.filter (fun x => decide (x.1 ≠ 0x008 ∧ x.1 ≠ 0x014))) (fun x s => s.setW p (0x400A1000 + 0x100 * m + x.1) (swbMask x.1 x.2)) s

/-- A write of a loop word: the RWS rule, the range, and the wait for a step that runs. -/
def swbWrite (p : PeakId) (m off : Nat) (v : Word) (s : State) : State :=
  if !swbWritable off then s
  else if off = 0x004 then s.setW p (Reg.swbLoopFlags m) (s.w p (Reg.swbLoopFlags m) &&& ~~~v)
  else if swbOwned p m off s then s.raise p (Fd.swbLoopFlagsWriteWhileRunning m)
  else if swbOk p m off (swbMask off v) (swbLateView p m s) = false then s.raise p (Fd.swbLoopFlagsRange m)
  else if (s.loop p m).running then s.setLoop p m { s.loop p m with late := (s.loop p m).late ++ [(off, v)] }
  else swbPut p m off v s

/-- A step completes, 24 core cycles after its XCS (R122, R252). -/
def swbStep (p : PeakId) (m : Nat) (s : State) : State :=
  let l := s.loop p m
  if l.running = false ∨ (s.peak p).cycles64 < 64 * l.due then s
  else
    let s := s.setLoop p m { l with running := false, late := [] }
    let s := if l.twice then s.raise p (Fd.swbLoopFlagsStepTwice m)
      else if s.reg p (Reg.swbLoopHold m) % 2 = 1 then loopAbort p m 2 (s.setFld p (Fd.swbLoopStatusHolding m) 1)
      else swbCompute p m s
    forAll l.late (fun x s => swbPut p m x.1 x.2 s) s

/-- Timebase tb wraps: periods without a step are counted and abort a test run (R252, R268). -/
def swbWrap (tb : Nat) (closing : Bool) (s : State) : State :=
  bothPeaks (fun p s =>
    if (s.peak p).up then
      forAll (List.range 64) (fun m s =>
        if loopTb s p m = tb then
          let l := s.loop p m
          let s := s.setLoop p m { l with stepped := false }
          if closing && !l.stepped && !(s.peak p).held then
            let s := (s.bump p (Fd.swbLoopCountsMissed m) (Fd.swbLoopCountsMissedSat m)).raise p (Fd.swbLoopFlagsStepMissed m)
            loopAbort p m 3 s
          else s
        else s) s
    else s) s

/-! ### The commands -/

def execSwitchbackStep (p : PeakId) (l : Fin 64) (s : State) : Out := .next (if (s.peak p).up then swbStep p l.val s else s)

/-- A command is a write of CMD; the next step examines it. -/
def swbCmd (m : Master) (l c : Nat) (s : State) : State :=
  if (s.peak m.peak).up then swbWrite m.peak l 0x008 (BitVec.ofNat 32 c) s else s

def execSwbStart (m : Master) (l : Fin 64) (s : State) : Out := .next (swbCmd m l.val 1 s)
def execSwbStop (m : Master) (l : Fin 64) (s : State) : Out := .next (swbCmd m l.val 2 s)
def execSwbClear (m : Master) (l : Fin 64) (s : State) : Out := .next (swbCmd m l.val 3 s)
def execBankReq (m : Master) (l : Fin 64) (bank : Bool) (s : State) : Out :=
  .next (if (s.peak m.peak).up then swbWrite m.peak l.val 0x014 (if bank then 1 else 0) s else s)
def execTestRunStart (m : Master) (g : Fin 4) (s : State) : Out := .next (if (s.peak m.peak).up then tgStart m.peak g.val s else s)
def execTestRunStop (m : Master) (g : Fin 4) (s : State) : Out := .next (if (s.peak m.peak).up then tgStop m.peak g.val s else s)

end Sys2Proof.Machine
end

