-- ==== Sys2Proof/Machine/Saddle.lean ====
section
/-! DEFINITION. The Saddle's compares, pairs and shadows, and the trip matrix as far as it governs pairs (R270 to R299). -/

namespace Sys2Proof.Machine

def State.pair (s : State) (p : Nat) : Pair := Tab.get (fun _ => {}) s.saddle.pairs p
def State.setPair (s : State) (p : Nat) (q : Pair) : State :=
  { s with saddle := { s.saddle with pairs := Tab.put (fun _ => {}) s.saddle.pairs p q } }
def State.chan (s : State) (c : Nat) : Chan := Tab.get (fun _ => {}) s.saddle.chans c
def State.setChan (s : State) (c : Nat) (q : Chan) : State :=
  { s with saddle := { s.saddle with chans := Tab.put (fun _ => {}) s.saddle.chans c q } }

/-- The present time in steps of 1/64 tick. -/
def State.now64 (s : State) : Nat := s.tick * 64

def State.tbRuns (s : State) (n : Nat) : Bool := s.bit .a (Fd.pwmTbStatusRun n)
def State.tbCount (s : State) (n : Nat) : Nat := s.reg .a (Reg.pwmTbCount n)
/-- The period of a timebase in steps. -/
def State.tbSteps (s : State) (n : Nat) : Nat := 64 * (s.prdNow n + 1)
/-- Does any timebase run (R295)? -/
def State.anyTbRuns (s : State) : Bool := (List.range 8).any s.tbRuns

/-- The timebase of a channel (R274). -/
def chanTb (s : State) (c : Nat) : Nat := s.fld .a (Fd.pwmGrpCfgTb (c / 4))
def chanMode (s : State) (c : Nat) : Nat := s.fld .a (Fd.pwmChCfgMode c)

/-- The pairs that a channel owns with a mode and a PAIR field (R274). -/
def pairsOf (mode pair : Nat) : List Nat :=
  match mode with
  | 1 => [pair]
  | 2 => [pair, pair + 1]
  | _ => []

/-- The channel that owns a pair. -/
def pairOwner (s : State) (p : Nat) : Option Nat :=
  (List.range 32).find? (fun c => (pairsOf (chanMode s c) (s.fld .a (Fd.pwmChCfgPair c))).contains p)

/-- Is a segment of the inhibit asserted (R354)? -/
def State.segOn (s : State) (k : Nat) : Bool := decide (bits (s.fld .a Fd.safStatusSeg) k k = 1)

/-- The level of the pin PWMnn: pair nn / 2, the even pin its high side (R275, R296, R354). It is held low while VIO2 is below its threshold
(R57, R456). -/
def State.pwmPin (s : State) (n : Nat) : Bool :=
  let q := s.pair (n / 2)
  (if n % 2 = 0 then q.hi else q.lo) && !s.segOn (n / 8) && !q.heldLow && s.power.vio2

/-! ### Summaries -/

/-- Keep PWM.STATUS and TRIP.PAIRS in step. -/
def pwmRefresh (s : State) : State :=
  let mask := fun (f : Nat → Fld) (n : Nat) => (List.range n).foldl (fun m k => m + if s.bit .a (f k) then 2 ^ k else 0) 0
  let s := s.setFld .a Fd.pwmStatusRun (mask Fd.pwmTbStatusRun 8)
  let s := s.setFld .a Fd.pwmStatusLocked (mask Fd.pwmTbStatusLocked 8)
  let s := s.setBit .a Fd.pwmStatusInhibit (decide (s.fld .a Fd.safStatusSeg = 0x1FF))
  let s := s.setBit .a Fd.pwmStatusDlFallbackAny (decide (mask Fd.pwmPairStatusDlFallback 32 ≠ 0))
  s.setReg .a Reg.tripPairs (mask Fd.pwmPairStatusTripped 32)

/-! ### The switches of a pair (R279, R292) -/

/-- On whole ticks where the pair's delay line has failed: to the nearest tick, ties to even (R282). -/
def Pair.place (q : Pair) (t : Nat) : Nat := if q.fallback then (rneDiv (t : Int) 64).toNat * 64 else t

/-- The pair is asked for its switches' states: turn-offs act at once, a turn-on waits until DT after the complementary switch last
turned off. A request for both leaves the low side off. -/
def Pair.drive (q : Pair) (wantHi wantLo : Bool) (at64 : Nat) : Pair :=
  let wantLo := wantLo && !wantHi
  let hiOff := if q.hi && !wantHi then some at64 else q.hiOff
  let loOff := if q.lo && !wantLo then some at64 else q.loOff
  let free := fun (off : Option Nat) => match off with
    | none => true
    | some t => decide (q.place (t + q.dt) ≤ at64)
  let hi := wantHi && (q.hi || free loOff)
  let lo := wantLo && (q.lo || free hiOff)
  { q with hi := hi, lo := lo, hiOff := hiOff, loOff := loOff
           hiOn := if hi && !q.hi then some at64 else q.hiOn, loOn := if lo && !q.lo then some at64 else q.loOn
           wait := if wantHi && !hi then some true else if wantLo && !lo then some false else none }

def pairDrive (p : Nat) (wantHi wantLo : Bool) (at64 : Nat) (s : State) : State :=
  s.setPair p ((s.pair p).drive wantHi wantLo at64)

/-- Does the normal row of R296 govern the pair: owned, enabled, not retired, its timebase running? -/
def pairNormal (s : State) (p : Nat) : Bool :=
  match pairOwner s p with
  | some c => (s.pair p).en && !s.bit .a (Fd.pwmPairStatusRetired p) && s.tbRuns (chanTb s c)
  | none => false

/-- What the pair's compare asks for at the present count: high side over [0, c_eff), low side over [c_eff, T) (R278). Within the tick of the edge
the pair knows whether its fine position has passed. -/
def pairWant (s : State) (p : Nat) : Bool × Bool :=
  match pairOwner s p with
  | some c => if pairNormal s p then
      (if !(s.pair p).passed && decide (s.tbCount (chanTb s c) * 64 < (s.pair p).ceff) then (true, false) else (false, true))
    else (false, false)
  | none => (false, false)

/-! ### Trip patterns (R291 to R293) -/

/-- The sources that govern: active or latched. -/
def tripGoverns (s : State) (src : Nat) : Bool :=
  decide (bits (s.fld .a Fd.tripStatusActive) src src = 1) || decide (bits (s.fld .a Fd.tripStatusLatched) src src = 1)

/-- The action a source gives a pair. -/
def tripAct (s : State) (src p : Nat) : Nat :=
  if p < 16 then bits (s.reg .a (Reg.tripSrcActLo src)) (2 * p + 1) (2 * p)
  else bits (s.reg .a (Reg.tripSrcActHi src)) (2 * (p - 16) + 1) (2 * (p - 16))

/-- The pattern of a pair, 0 for none, and whether its sources disagree. -/
def patternOf (s : State) (p : Nat) : Nat × Bool :=
  match ((List.range 12).filter (tripGoverns s)).map (fun k => tripAct s k p) |>.filter (fun n => decide (n ≠ 0)) with
  | [] => (0, false)
  | n :: r => if r.all (fun m => decide (m = n)) then (n, false) else (1, true)

/-- Decide a pair anew: the rows of R296 in their order. -/
def pairDecide (p : Nat) (s : State) : State :=
  if s.saddle.clock then
    let n := (patternOf s p).1
    let at64 := s.now64
    if n ≠ 0 then
      let s := (s.setFld .a (Fd.pwmPairStatusTripAct p) n).setFld .a (Fd.pwmPairStatusTripped p) 1
      pairDrive p (decide (n = 3)) (decide (n = 2)) at64 (s.setPair p { s.pair p with leaving := false })
    else if s.bit .a (Fd.pwmPairStatusTripped p) then
      let runs := match pairOwner s p with
        | some c => s.tbRuns (chanTb s c)
        | none => false
      if runs then s.setPair p { s.pair p with leaving := true }
      else
        let s := (s.setFld .a (Fd.pwmPairStatusTripAct p) 0).setFld .a (Fd.pwmPairStatusTripped p) 0
        pairDrive p false false at64 (s.setPair p { s.pair p with leaving := false })
    else pairDrive p (pairWant s p).1 (pairWant s p).2 at64 s
  else s

/-- Decide every pair anew; a disagreement of sources sets CONFLICT. -/
def pairsDecide (s : State) : State :=
  let s := if (List.range 32).any (fun p => (patternOf s p).2) then s.raise .a Fd.tripFlagsConflict else s
  pwmRefresh (forAll (List.range 32) pairDecide s)

/-- A source of the matrix becomes active or inactive (R290, R293, R294), as far as pairs go. -/
def sourceSet (src : Nat) (on : Bool) (s : State) : State :=
  let was := decide (bits (s.fld .a Fd.tripStatusActive) src src = 1)
  if was = on then s
  else if on then
    let s := setBitOf .a Fd.tripStatusActive src true s
    let s := if s.bit .a (Fd.tripSrcCfgLatch src) then setBitOf .a Fd.tripStatusLatched src true s else s
    let s := s.bump .a (Fd.tripSrcCountCount src) (Fd.tripSrcCountSat src)
    let s := s.raise .a Fd.tripFlagsTripped
    let s := if s.bit .a Fd.tripFirstValid then
        (if s.saddle.firstTick = s.tick then setBitOf .a Fd.tripFirstSrc src true s else s)
      else
        let s := (s.setFld .a Fd.tripFirstValid 1).setFld .a Fd.tripFirstSrc (2 ^ src)
        let s := s.setReg .a Reg.tripFirstNs (s.cairnSlot s.tick 1)
        { s with saddle := { s.saddle with firstTick := s.tick } }
    let s := bothPeaks (fun p s => tracePut p 7 (p.num * 2 ^ 27 + 2 ^ src * 2 ^ 12 + s.stamp % 2 ^ 12) s) s
    fireBoth Ev.trip (pairsDecide s)
  else pairsDecide (setBitOf .a Fd.tripStatusActive src false s)

/-- A source as it stands at the matrix, with EN (R290). The matrix stands still while the Saddle clock is stopped (R297). -/
def sourceIn (src : Nat) (on : Bool) (s : State) : State :=
  if s.saddle.clock then
    let m : BitVec 12 := BitVec.ofNat 12 (2 ^ src)
    let s := { s with saddle := { s.saddle with trips := if on then s.saddle.trips ||| m else s.saddle.trips &&& ~~~m } }
    sourceSet src (on && s.bit .a (Fd.tripSrcCfgEn src)) s
  else s

/-- A write of TRIP.CLEAR: latches clear while their source is inactive (R293). -/
def latchClear (mask : Nat) (s : State) : State :=
  let act := s.fld .a Fd.tripStatusActive
  let lat := s.fld .a Fd.tripStatusLatched
  let s := if mask &&& act = 0 then s else s.raise .a Fd.tripFlagsClearRefused
  pairsDecide (s.setFld .a Fd.tripStatusLatched (lat &&& (0xFFF ^^^ (mask &&& (0xFFF ^^^ act)))))

/-- A holder's read of TRIP.FIRST clears it (R294). -/
def firstRead (p : PeakId) (s : State) : Nat × State :=
  let v := s.reg .a Reg.tripFirst
  (v, if s.holds p then s.setReg .a Reg.tripFirst 0 else s)

/-! ### Shadow writes (R283 to R286, R337) -/

/-- Is a write that completes now late on this timebase (R284)? -/
def lateNow (tb : Nat) (s : State) : Bool := s.tbRuns tb && decide (s.prdNow tb ≤ s.tbCount tb + 2)

/-- One late write of Peak `p`. -/
def lateCount (p : PeakId) (s : State) : State :=
  obsCount p 7 0 1 ((s.bump .a Fd.pwmLateCountCount Fd.pwmLateCountSat).raise .a Fd.pwmFlagsLateWrite)

/-- A compare goes to the late buffer or to the shadow. -/
def compareTo (c : Nat) (late : Bool) (v : Word) (s : State) : State :=
  if late then s.setChan c { s.chan c with late := some v }
  else (s.setRegW (regKey .a (Reg.pwmCmp c)) v).setChan c { s.chan c with late := none }

/-- The field of GDM.STATUS that holds a Peak's role (R327). -/
def gdmRoleFld : PeakId → Fld
  | .a => Fd.gdmStatusRoleA
  | .b => Fd.gdmStatusRoleB

/-- What the Saddle keeps of a Peak's shadow writes for its output comparison (R337): only writes of cores and DMA channels, and of the ACTIVE Peak's
only those that the gate admits. -/
def noteShadow (m : Master) (ch v : Nat) (s : State) : State :=
  let p := m.peak
  let counts := if s.fld .a (gdmRoleFld p) = 0 then s.holds p else true
  let w := s.saddle.wrote.set m.peak (Tab.put (fun _ => none) (s.saddle.wrote.get m.peak) ch (some v))
  let noted : State := { s with saddle := { s.saddle with wrote := w } }
  if counts then
    match m with
    | .core _ => noted
    | .dma _ _ => noted
    | .host _ => s
    | .boot _ => s
  else s

/-- One handshake of stores to compares of one group (R283, R285): `(channel, value)` pairs. -/
def compareStore (m : Master) (ws : List (Nat × Word)) (s : State) : State :=
  let s := forAll ws (fun w s => noteShadow m w.1 w.2.toNat s) s
  match ws with
  | [] => s
  | (c, _) :: _ =>
    if s.holds m.peak && s.saddle.clock then
      if s.bit .a (Fd.pwmGrpCfgStage (c / 4)) then forAll ws (fun w s => s.setChan w.1 { s.chan w.1 with staged := some w.2 }) s
      else
        let late := lateNow (chanTb s c) s
        let s := forAll ws (fun w s => compareTo w.1 late w.2 s) s
        if late then lateCount m.peak s else s
    else s

/-- A write of PWM.COMMIT (R285): the staging sets of the named groups move in one handshake. -/
def commitStore (m : Master) (mask : Nat) (s : State) : State :=
  let s := noteShadow m 32 mask s
  if s.holds m.peak && s.saddle.clock then
    forAll (List.range 8) (fun g s =>
      if bits mask g g = 1 then
        let late := lateNow (s.fld .a (Fd.pwmGrpCfgTb g)) s
        let s := forAll (List.range 4) (fun k s =>
          let c := 4 * g + k
          match (s.chan c).staged with
          | some v =>
            let s := compareTo c late v s
            s.setChan c { s.chan c with staged := none }
          | none => s) s
        if late then lateCount m.peak s else s
      else s) s
  else s

/-- The tick after a wrap: late buffers move into the shadows (R284). -/
def lateMove (tb : Nat) (s : State) : State :=
  let s := forAll (List.range 32) (fun c s =>
    if chanTb s c = tb then
      match (s.chan c).late with
      | some v => compareTo c false v s
      | none => s
    else s) s
  match (s.tb tb).latePrd with
  | some v => (s.setReg .a (Reg.pwmTbPrd tb) v).setTb tb { s.tb tb with latePrd := none }
  | none => s

/-! ### Register writes of the PWM block -/

/-- The enabled pairs on a timebase. -/
def enabledPairs (s : State) (tb : Nat) : List Nat :=
  (List.range 32).filter (fun p => s.bit .a (Fd.pwmPairCfgEn p) && match pairOwner s p with
    | some c => decide (chanTb s c = tb)
    | none => false)

/-- Is the PRD of a timebase locked by a loaded task (R160)? -/
def prdLocked (s : State) (tb : Nat) : Bool :=
  [PeakId.a, PeakId.b].any (fun p => (s.loaded p).any (fun n =>
    (isSummit n && decide (s.fld p (Fd.trvTaskCfgTb n) = tb)) || (isFrame n && decide (tb = s.periodTb))))

/-- May PRD + 1 be the period timebase's (R336)? -/
def periodRange (s : State) (tb prd : Nat) : Bool := decide (tb ≠ s.periodTb) || (decide (999 ≤ prd) && decide (prd ≤ 39999))

/-- The dead times of a pair as written: DT + MINPW in steps. -/
def pairDead (s : State) (p : Nat) : Nat := s.reg .a (Reg.pwmPairDt p) % 2 ^ 16 + s.reg .a (Reg.pwmPairMinpw p) % 2 ^ 16

/-- A write of TB[n].PRD that the gate admits (R179, R270, R271, R284, R336): every reason to discard it sets its flag. -/
def prdWrite (p : PeakId) (tb v : Nat) (s : State) : State :=
  let v := v % 2 ^ 20
  let old := (s.tb tb).latePrd.getD (s.fld .a (Fd.pwmTbPrdPrd tb))
  let three := (List.range 32).any (fun c => decide (chanTb s c = tb) && decide (chanMode s c = 2))
  let range := decide (v < 399) || !periodRange s tb v || (three && decide ((v + 1) % 2 ≠ 0)) ||
    (s.bit .a (Fd.pwmTbAlignTrack tb) && decide (400000000 % (v + 1) ≠ 0))
  let locked := decide (v ≠ old) && prdLocked s tb
  let grid := !(taggedOn s tb).isEmpty && decide ((v + 1) % 40 ≠ 0)
  let dead := (enabledPairs s tb).any (fun q => decide (64 * (v + 1) ≤ 2 * pairDead s q))
  if range || locked || grid || dead then
    let s := s.when range (fun s => s.raise .a Fd.pwmFlagsPrdRange)
    let s := s.when locked (fun s => s.raise p Fd.trvFlagsLockedWrite)
    let s := s.when grid (fun s => s.raise .a Fd.cirqFlagsPrdRefused)
    s.when dead (fun s => s.raise .a Fd.pwmFlagsDtRefused)
  else if lateNow tb s then lateCount p (s.setTb tb { s.tb tb with latePrd := some v })
  else (s.setReg .a (Reg.pwmTbPrd tb) v).setTb tb { s.tb tb with latePrd := none }

/-- The PRDs that a timebase is to run with: the written one, which the next wrap takes with the dead times, and a late one (R271, R284). -/
def comingPrds (s : State) (tb : Nat) : List Nat := s.fld .a (Fd.pwmTbPrdPrd tb) :: (s.tb tb).latePrd.toList

/-- A write of PAIR[p].DT or MINPW (R280). -/
def deadWrite (pair reg v : Nat) (s : State) : State :=
  let t := s.setReg .a reg (v % 2 ^ 16)
  let refused := match pairOwner s pair with
    | some c => (comingPrds s (chanTb s c)).any (fun v => decide (64 * (v + 1) ≤ 2 * pairDead t pair))
    | none => false
  if refused then s.raise .a Fd.pwmFlagsDtRefused else t

/-- PAIR[p].STATUS.ACTIVE: owned and enabled (R298). -/
def activeRefresh (s : State) : State :=
  forAll (List.range 32) (fun q s => s.setBit .a (Fd.pwmPairStatusActive q) ((pairOwner s q).isSome && (s.pair q).en)) s

/-- A write of CH[c].CFG while its group's timebase stands (R275). -/
def chanCfgWrite (c v : Nat) (s : State) : State :=
  let mode := bits v 1 0
  let pair := bits v 12 8
  let mine := pairsOf mode pair
  let taken := (List.range 32).any (fun d => decide (d ≠ c) && (pairsOf (chanMode s d) (s.fld .a (Fd.pwmChCfgPair d))).any (fun q => mine.contains q))
  let odd := decide (mode = 2) && (decide (pair % 2 = 1) || decide ((s.prdNow (chanTb s c) + 1) % 2 = 1))
  if taken || odd || mine.any (fun q => s.bit .a (Fd.pwmPairStatusRetired q)) then s.raise .a Fd.pwmFlagsPairRefused
  else pairsDecide (activeRefresh (s.setReg .a (Reg.pwmChCfg c) (mode + bits v 2 2 * 4 + pair * 256)))

/-- A timebase that counts as running for ALIGN: it runs or is armed (R289). -/
def alignBusy (s : State) (tb : Nat) : Bool := s.tbRuns tb || s.bit .a (Fd.pwmTbStatusArmed tb)

/-! ### Latching (R12, R276 to R278) -/

/-- The shadow of channel c becomes its active compare. -/
def chanLatch (tb c : Nat) (s : State) : State :=
  if chanTb s c = tb then
    let v := s.regI .a (Reg.pwmCmp c)
    let t : Int := ((s.tb tb).prd + 1 : Nat) * (if s.bit .a (Fd.pwmChCfgFrac c) then 64 else 1)
    let k := max 0 (min v t)
    let s := if k = v then s else s.raise .a Fd.pwmFlagsCmpClamp
    s.setRegI .a (Reg.pwmAct c) k
  else s

/-- The active compare of channel c in steps. -/
def actSteps (s : State) (c : Nat) : Nat := s.reg .a (Reg.pwmAct c) * (if s.bit .a (Fd.pwmChCfgFrac c) then 1 else 64)

/-- The effective compare of a compare `c` in a period `t` whose shortest pulse and dead time take `d`, with the pulses it drops: high, low
(R278). -/
def effective (c t d : Nat) : Nat × Bool × Bool :=
  if c < d then (0, decide (0 < c), false)
  else if t < c + d then (t, false, decide (c < t))
  else (c, false, false)

/-- At a wrap or start of its timebase a pair takes its new settings and opens its period. -/
def pairWrap (tb p : Nat) (s : State) : State :=
  match pairOwner s p with
  | none => s
  | some c =>
    if chanTb s c = tb then
      let q := s.pair p
      let t := s.tbSteps tb
      let k := actSteps s c
      let cmp := if chanMode s c = 1 then k
        else if p = s.fld .a (Fd.pwmChCfgPair c) then 2 * k - t else min (2 * k) t
      let dt := s.reg .a (Reg.pwmPairDt p) % 2 ^ 16
      let minpw := s.reg .a (Reg.pwmPairMinpw p) % 2 ^ 16
      let e := effective cmp t (dt + minpw)
      let en := s.bit .a (Fd.pwmPairCfgEn p)
      let bad := s.saddle.dlBad.getLsbD (p / 4)
      let q := { q with en := en, dt := dt, minpw := minpw, fallback := bad, heldLow := false, passed := false }
      let q := { q with ceff := q.place e.1 }
      let s := s.setPair p q
      let s := s.setBit .a (Fd.pwmPairStatusActive p) en
      let s := s.setBit .a (Fd.pwmPairStatusDlFallback p) bad
      let s := s.setBit .a (Fd.pwmPairStatusDropHi p) e.2.1
      let s := s.setBit .a (Fd.pwmPairStatusDropLo p) e.2.2
      let s := if q.leaving then
          ((s.setFld .a (Fd.pwmPairStatusTripAct p) 0).setFld .a (Fd.pwmPairStatusTripped p) 0).setPair p { q with leaving := false }
        else s
      pairDecide p s
    else s

/-- Every compare, setting and pair of a timebase latches. -/
def saddleLatch (tb : Nat) (s : State) : State :=
  let s := forAll (List.range 32) (chanLatch tb) s
  lateMove tb (forAll (List.range 32) (pairWrap tb) s)

/-! ### Edges (R274, R278, R279) -/

/-- A pair's count reaches its effective compare: the high side turns off, and the low side waits for its dead time. At a count that a correction
skipped the edge falls on the whole tick (R288). -/
def pairCompare (p : Nat) (s : State) : State :=
  match pairOwner s p with
  | some c =>
    let q := s.pair p
    let n := s.tbCount (chanTb s c)
    let due := decide (0 < q.ceff) && decide (q.ceff < s.tbSteps (chanTb s c)) && decide (q.ceff / 64 ≤ n) && !q.passed
    if s.saddle.clock && pairNormal s p && !s.bit .a (Fd.pwmPairStatusTripped p) && due then
      pairDrive p false true (s.now64 + if n = q.ceff / 64 then q.ceff % 64 else 0) (s.setPair p { q with passed := true })
    else s
  | none => s

/-- An EVENT channel's count reaches the whole-tick part of its compare, within 0 to PRD. -/
def eventCompare (c : Nat) (s : State) : State :=
  if s.saddle.clock && decide (chanMode s c = 3) && s.tbRuns (chanTb s c) && decide (actSteps s c / 64 ≤ s.prdNow (chanTb s c)) &&
      decide (actSteps s c / 64 ≤ s.tbCount (chanTb s c)) then
    fireBoth (Ev.pwmCmp (c / 4)) s
  else s

/-- The step at which a waiting switch turns on: DT after the other one turned off, on the step that its fine part gives, and not before now. -/
def Pair.onAt (q : Pair) (off : Option Nat) (now : Nat) : Nat :=
  match off with
  | some t => max now (q.place (t + q.dt))
  | none => now

/-- The dead time of a waiting turn-on is over in this tick (R279, R281). -/
def pairDeadEnd (p : Nat) (s : State) : State :=
  let q := s.pair p
  if s.saddle.clock then
    match q.wait with
    | some true =>
      let t := q.onAt q.loOff s.now64
      if q.lo || decide (s.now64 + 64 ≤ t) then s else s.setPair p { q with wait := none, hi := true, hiOn := some t }
    | some false =>
      let t := q.onAt q.hiOff s.now64
      if q.hi || decide (s.now64 + 64 ≤ t) then s else s.setPair p { q with wait := none, lo := true, loOn := some t }
    | none => s
  else s

/-! ### Delay lines (R282) -/

/-- A bank's replica line is measured. -/
def delayCalibrated (b : Nat) (ok : Bool) (s : State) : State :=
  if s.saddle.clock then
    let m : BitVec 8 := BitVec.ofNat 8 (2 ^ b)
    if ok then { s with saddle := { s.saddle with dlBad := s.saddle.dlBad &&& ~~~m } }
    else
      let s := { s with saddle := { s.saddle with dlBad := s.saddle.dlBad ||| m } }
      let s := s.raise .a Fd.pwmFlagsDlFail
      pwmRefresh (forAll (List.range 4) (fun k s => s.setFld .a (Fd.pwmPairStatusDlFallback (4 * b + k)) 1) s)
  else s

def execDelayLineCalibration (bank : Fin 8) (ok : Bool) (s : State) : Out := .next (delayCalibrated bank.val ok s)

/-! ### Commands that reach only the pairs -/

/-- Toward the stopped Saddle a write times out at its crossing, and a read returns 0 (R38). -/
def execCommit (m : Master) (mask : BitVec 8) (s : State) : Out :=
  .next (if !s.saddle.clock && (s.peak m.peak).up then xtoRecord m.peak 1 Reg.pwmCommit true s else commitStore m mask.toNat s)
def execTripFirstRead (m : Master) (s : State) : Out :=
  .next (if (s.peak m.peak).up then
      returned (if s.saddle.clock then firstRead m.peak s else (0, xtoRecord m.peak 1 Reg.tripFirst false s))
    else s)

end Sys2Proof.Machine
end

