-- ==== Sys2Proof/Machine/Spur.lean ====
section
/-! DEFINITION. The Spur legs, the active short, the diagnostics, and the whole trip matrix (R290 to R318). -/

namespace Sys2Proof.Machine

def State.leg (s : State) (n : Nat) : Leg := Tab.get (fun _ => {}) s.saddle.legs n
def State.setLeg (s : State) (n : Nat) (q : Leg) : State :=
  { s with saddle := { s.saddle with legs := Tab.put (fun _ => {}) s.saddle.legs n q } }

def legNumbers : List Nat := List.range 6
def legTb (s : State) (n : Nat) : Nat := s.fld .a (Fd.spurLegCfgTb n)

/-- Are the gates held low (R303)? -/
def gatesHeld (s : State) : Bool := s.segOn 8 || !s.bit .a Fd.spurStatusVdrvOk

/-- Is leg n one of the active-short group (R314)? -/
def inGroup (s : State) (n : Nat) : Bool := decide (bits (s.fld .a Fd.spurAscGroup) n n = 1)
/-- Is the group in an active short, with a side on or all off (R314)? -/
def ascOn (s : State) : Bool := s.bit .a Fd.spurStatusAscActive || s.bit .a Fd.spurStatusAllOff
def legInAsc (s : State) (n : Nat) : Bool := s.bit .a (Fd.spurLegStatusInAsc n)
/-- Does a source that the leg names govern (R313)? -/
def legSource (s : State) (n : Nat) : Bool :=
  (List.range 11).any (fun k => decide (bits (s.fld .a (Fd.spurLegCfgSrcMask n)) k k = 1) && tripGoverns s k)

/-- The output pins of a leg: the high-side gate, the low-side gate (R303, R354). -/
def State.legPins (s : State) (n : Nat) : Bool × Bool :=
  ((s.leg n).hi && !gatesHeld s, (s.leg n).lo && !gatesHeld s)

/-! ### Switches (R279, R301, R302) -/

/-- The leg is asked for its switches' states. Turn-offs act at once. A turn-on waits for its dead time, and the command that ends it carries the
measured swing of R308. -/
def legDrive (n : Nat) (wantHi wantLo : Bool) (s : State) : State :=
  let q := s.leg n
  let wantLo := wantLo && !wantHi
  let hiOff := if q.hi && !wantHi then some s.now64 else q.hiOff
  let loOff := if q.lo && !wantLo then some s.now64 else q.loOff
  let total := if q.lo && !wantLo && decide (q.refresh = 0) then q.loTotal + (s.tick - q.loSince) else q.loTotal
  s.setLeg n { q with hi := q.hi && wantHi, lo := q.lo && wantLo, hiOff := hiOff, loOff := loOff, loTotal := total
                      wait := if wantHi && !q.hi then some true else if wantLo && !q.lo then some false else none }

/-- What the leg's compare asks for at the present count; the first period after an enable holds the low side on (R302). -/
def legWant (s : State) (n : Nat) : Bool × Bool :=
  let q := s.leg n
  if q.en && s.tbRuns (legTb s n) && !s.bit .a (Fd.spurLegStatusRetired n) && !decide (s.fld .a (Fd.spurLegDiagState n) = 1) && !q.leaving then
    (if q.charging then (false, true) else if s.tbCount (legTb s n) < q.ceff then (true, false) else (false, true))
  else (false, false)

/-- The side that the active short turns on (R314). -/
def ascHigh (s : State) : Bool := s.saddle.ascHigh

/-- Decide a leg anew. -/
def legDecide (n : Nat) (s : State) : State :=
  if s.saddle.clock then
    if gatesHeld s || s.bit .a (Fd.spurLegStatusRetired n) then legDrive n false false s
    else if legInAsc s n then
      (if s.bit .a Fd.spurStatusAllOff then legDrive n false false s else legDrive n (ascHigh s) (!ascHigh s) s)
    else if s.bit .a (Fd.spurLegStatusTripped n) then legDrive n false false s
    else if legSource s n then
      legDrive n false false ((s.setFld .a (Fd.spurLegStatusSrcOff n) 1).setLeg n { s.leg n with leaving := true, refresh := 0 })
    else
      let s := s.setFld .a (Fd.spurLegStatusSrcOff n) 0
      if 0 < (s.leg n).refresh then s else legDrive n (legWant s n).1 (legWant s n).2 s
  else s

def legsDecide (s : State) : State := forAll legNumbers legDecide s

/-- A leg stops: EN clears, and it is neither enabled nor switching. -/
def legOff (n : Nat) (s : State) : State :=
  let s := s.setFld .a (Fd.spurLegCtrlEn n) 0
  let s := setBitOf .a Fd.spurStatusEnabled n false s
  let s := s.setFld .a (Fd.spurLegStatusActive n) 0
  s.setLeg n { s.leg n with en := false, charging := false, refresh := 0 }

/-! ### Active short (R313 to R316) -/

/-- Is a switch of one side recorded as faulted in the group? -/
def groupFault (s : State) (high : Bool) : Bool :=
  legNumbers.any (fun n => inGroup s n && s.bit .a (if high then Fd.spurLegStatusFaultHs n else Fd.spurLegStatusFaultLs n))

/-- Every switch of the group off: both sides are faulted. -/
def ascAllOff (s : State) : State :=
  ((s.setFld .a Fd.spurStatusAscActive 0).setFld .a Fd.spurStatusAllOff 1).raise .a Fd.spurFlagsAscFail

def ascSide (high : Bool) (s : State) : State :=
  let s := s.setFld .a Fd.spurStatusAscActive 1
  { s with saddle := { s.saddle with ascHigh := high } }

/-- The group enters an active short (R314); it ends with the gates, so it does not begin while they are held. -/
def ascEnter (s : State) : State :=
  if ascOn s || gatesHeld s || !s.saddle.clock then s
  else
    let s := forAll (legNumbers.filter (inGroup s)) (fun n s => (legOff n s).setFld .a (Fd.spurLegStatusInAsc n) 1) s
    let hs := groupFault s true
    let ls := groupFault s false
    let s := if hs && ls then ascAllOff s
      else ascSide (if hs then false else if ls then true else s.bit .a Fd.spurAscSidePref) s
    legsDecide s

/-- A new fault of one side during an active short (R315). -/
def ascFault (high : Bool) (s : State) : State :=
  if s.bit .a Fd.spurStatusAscActive && decide (ascHigh s = high) then
    legsDecide (if groupFault s (!high) then ascAllOff s else ascSide (!high) s)
  else s

/-- The active short ends: every switch of the group off, EN 0. -/
def ascEnd (s : State) : State :=
  let s := (s.setFld .a Fd.spurStatusAscActive 0).setFld .a Fd.spurStatusAllOff 0
  forAll legNumbers (fun n s =>
    if legInAsc s n then legDecide n ((legOff n s).setFld .a (Fd.spurLegStatusInAsc n) 0) else s) s

def ascRelease (s : State) : State :=
  if ascOn s then
    let g := legNumbers.filter (legInAsc s)
    if g.any (fun n => s.bit .a (Fd.spurLegStatusTripped n) || legSource s n) then s.raise .a Fd.spurFlagsAscRefused
    else ascEnd s
  else s

/-- A write of SPUR.ASC_CMD: with both bits set it acts as ENTER. -/
def ascCmd (v : Nat) (s : State) : State :=
  if v % 2 = 1 then ascEnter s else if v / 2 % 2 = 1 then ascRelease s else s

/-- After a change of the sources: a source of a group leg puts the group into an active short where ON_SRC asks for it (R313). -/
def legsSources (s : State) : State :=
  let s := if s.bit .a Fd.spurAscOnSrc && legNumbers.any (fun n => inGroup s n && legSource s n) then ascEnter s else s
  legsDecide s

/-- A source of the trip matrix as it stands: pairs and legs follow (R290 to R294, R313). -/
def tripInput (src : Nat) (on : Bool) (s : State) : State := legsSources (sourceIn src on s)

/-- A write of TRIP.SW: both bits at 1 act as SET (R290). -/
def tripSw (v : Nat) (s : State) : State :=
  if v % 2 = 1 then tripInput 8 true s else if v / 2 % 2 = 1 then tripInput 8 false s else s

def tripClear (mask : Nat) (s : State) : State := legsSources (latchClear mask s)

/-- After a write of SRC[s].CFG, ACT_LO or ACT_HI: the source, the pairs and the legs follow. -/
def tripCfg (src : Nat) (s : State) : State :=
  legsSources (pairsDecide (sourceSet src (s.saddle.trips.getLsbD src && s.bit .a (Fd.tripSrcCfgEn src)) s))

/-! ### Trips of legs (R306, R309 to R312) -/

/-- A counter of LEG[n].COUNT; a count that finds it stuck sets SAT. -/
def legCount (n : Nat) (f : Fld) (s : State) : State := s.bump .a f (Fd.spurLegCountSat n)

/-- A leg trips for a cause: 1 VDS, 2 BOOT_UV (R311). -/
def legTrip (n cause : Nat) (s : State) : State :=
  let s := legOff n s
  let s := (s.setFld .a (Fd.spurLegStatusTripped n) 1).setFld .a (Fd.spurLegStatusCause n) cause
  let s := setBitOf .a Fd.spurStatusTripped n true s
  let s := s.raise .a Fd.spurFlagsTrip
  let s := legCount n (Fd.spurLegCountTrips n) s
  let s := fireBoth Ev.spur s
  let s := sourceIn 11 true s
  let s := if inGroup s n && s.bit .a Fd.spurAscOnTrip then ascEnter s else s
  legDecide n s

/-- The VDS threshold of a leg in millivolts, and its blanking time in ticks (R309). -/
def vdsLimit (s : State) (n : Nat) : Nat := 200 + 100 * s.fld .a (Fd.spurLegVdsThresh n)
def vdsBlank (s : State) (n : Nat) : Nat := 40 * (s.fld .a (Fd.spurLegVdsBlank n) + 1)

/-- VDS of a switch that is on is `vds` millivolts, above its threshold and outside its blanking (R309, R310): the switch turns off, and its fault is
recorded. -/
def vdsTrip (n : Nat) (high : Bool) (vds : Nat) (s : State) : State :=
  let q := s.leg n
  let onAt := if high then q.hiOn else q.loOn
  if s.saddle.clock && (if high then q.hi else q.lo) && decide (vdsLimit s n < vds) && decide (onAt + vdsBlank s n ≤ s.tick) then
    let s := s.setFld .a (if high then Fd.spurLegStatusFaultHs n else Fd.spurLegStatusFaultLs n) 1
    let s := if legInAsc s n then ascFault high s else s
    legTrip n 1 s
  else s

/-- A refresh starts: it is counted, the high side goes off, the low side on after DT (R304). -/
def refreshStart (n : Nat) (s : State) : State :=
  let s := legDrive n false true (legCount n (Fd.spurLegCountRefresh n) s)
  s.setLeg n { s.leg n with refreshRun := 0, refresh := if (s.leg n).lo then 2 else 1, refreshAt := s.tick }

/-- BSTn − SWn is below 7.5 V while the high side is on or due to turn on (R306). -/
def bootUndervoltage (n : Nat) (s : State) : State :=
  let q := s.leg n
  if s.saddle.clock && (q.hi || decide (q.wait = some true)) then
    let s := (s.setFld .a (Fd.spurLegStatusBootUv n) 1).raise .a Fd.spurFlagsBootUv
    let s := legCount n (Fd.spurLegCountBootUv n) s
    let third := !q.uvNow && decide (2 ≤ q.uvRun)
    let s := s.setLeg n { q with uvNow := true }
    let s := if legInAsc s n then ascFault true s else refreshStart n s
    if third then legTrip n 2 s else s
  else s

/-- A write of SPUR.CLEAR (R312). -/
def spurClear (mask : Nat) (s : State) : State :=
  let s := forAll legNumbers (fun n s =>
    if bits mask n n = 1 then
      (if s.bit .a Fd.spurStatusVdrvOk = false ∨ legSource s n = true then s.raise .a Fd.spurFlagsClearRefused
      else
        let s := (s.setFld .a (Fd.spurLegStatusTripped n) 0).setFld .a (Fd.spurLegStatusCause n) 0
        let s := (s.setFld .a (Fd.spurLegStatusFaultHs n) 0).setFld .a (Fd.spurLegStatusFaultLs n) 0
        setBitOf .a Fd.spurStatusTripped n false s)
    else s) s
  let s := if s.fld .a Fd.spurStatusTripped = 0 then sourceIn 11 false s else s
  legsSources s

/-- The gates are held from now on: by the inhibit (true) or by VDRV (R303). -/
def gatesDown (inhibit : Bool) (s : State) : State :=
  let s := s.raise .a (if inhibit then Fd.spurFlagsInhibitSeen else Fd.spurFlagsVdrvLoss)
  let s := ascEnd s
  forAll legNumbers (fun n s => legDrive n false false (legOff n s)) s

/-! ### Enabling (R302) -/

/-- Did the leg pass its test, as the Peak reads BST.PASS (R85)? -/
def legPassed (p : PeakId) (n : Nat) (s : State) : Bool := decide (bits (s.reg p (Reg.bstPass 5)) (14 + n) (14 + n) = 1)

def legEnable (p : PeakId) (n : Nat) (s : State) : State :=
  if gatesHeld s || !legPassed p n s || s.bit .a (Fd.spurLegStatusTripped n) || legInAsc s n then s.raise .a Fd.spurFlagsEnableRefused
  else setBitOf .a Fd.spurStatusEnabled n true (s.setFld .a (Fd.spurLegCtrlEn n) 1)

def legDisable (n : Nat) (s : State) : State := legDecide n (legOff n s)

/-! ### Diagnostics (R317, R318) -/

/-- The reference leg of a diagnostic, none for 0b111. -/
def legRef (s : State) (n : Nat) : Option Nat := if s.fld .a (Fd.spurLegCfgRef n) < 6 then some (s.fld .a (Fd.spurLegCfgRef n)) else none

def legDiagStart (n : Nat) (vbusLow : Bool) (s : State) : State :=
  let refBusy := match legRef s n with
    | some r => s.bit .a (Fd.spurLegCtrlEn r) || decide (s.fld .a (Fd.spurLegDiagState r) = 1)
    | none => false
  let code := if s.bit .a (Fd.spurLegCtrlEn n) then 1
    else if inGroup s n && ascOn s then 2
    else if !s.bit .a Fd.spurStatusVdrvOk then 3
    else if vbusLow then 4
    else if refBusy then 5
    else if s.bit .a (Fd.spurLegStatusRetired n) then 6
    else 0
  let s := s.setFld .a (Fd.spurLegDiagRefuse n) code
  if code = 0 then ((s.setFld .a (Fd.spurLegDiagState n) 1).setFld .a (Fd.spurLegCtrlDiag n) 1).setLeg n { s.leg n with diagAt := s.tick }
  else s.raise .a Fd.spurFlagsDiagRefused

/-- The diagnostic's readings in millivolts, 600 µs after its start (R317). -/
def legDiagResult (n : Nat) (v1 v2 v3 vbus : Int) (s : State) : State :=
  if s.fld .a (Fd.spurLegDiagState n) = 1 ∧ (s.leg n).diagAt + 240000 ≤ s.tick then
    let opened := match legRef s n with
      | some _ => decide (2000 < v3)
      | none => decide (2000 < v1 - v2)
    let r := if vbus - 1000 < v2 then 1 else if v1 < 1000 then 2 else if opened then 3 else 0
    let s := ((s.setFld .a (Fd.spurLegDiagResult n) r).setFld .a (Fd.spurLegDiagState n) 2).setFld .a (Fd.spurLegCtrlDiag n) 0
    fireBoth Ev.spurDiag s
  else s

/-- A write of LEG[n].CTRL: EN, then DIAG. -/
def legCtrlWrite (p : PeakId) (n v : Nat) (vbusLow : Bool) (s : State) : State :=
  let s := if v % 2 = 0 then legDisable n s else if s.bit .a (Fd.spurLegCtrlEn n) then s else legEnable p n s
  if v / 2 % 2 = 1 then legDiagStart n vbusLow s else s

/-- A write of LEG[n].CMP (R301): a shadow under the late rule. -/
def legCmpStore (m : Master) (n v : Nat) (s : State) : State :=
  let v := v % 2 ^ 20
  let s := noteShadow m (33 + n) v s
  if s.holds m.peak && s.saddle.clock then
    if lateNow (legTb s n) s then lateCount m.peak (s.setLeg n { s.leg n with late := some v })
    else (s.setReg .a (Reg.spurLegCmp n) v).setLeg n { s.leg n with late := none }
  else s

/-- A write of LEG[n].DRIVE: the codes in use follow (R308). -/
def legDriveWrite (n v : Nat) (s : State) : State :=
  let s := s.setReg .a (Reg.spurLegDrive n) (bits v 4 0 + bits v 12 8 * 2 ^ 8 + bits v 20 16 * 2 ^ 16)
  (s.setFld .a (Fd.spurLegDriveNowHs n) (bits v 4 0)).setFld .a (Fd.spurLegDriveNowLs n) (bits v 12 8)

/-- After a write of LEG[n].CFG: with ADAPT = 0 the codes are those written in DRIVE (R308). -/
def legCodes (n : Nat) (s : State) : State :=
  if s.bit .a (Fd.spurLegCfgAdapt n) then s
  else (s.setFld .a (Fd.spurLegDriveNowHs n) (s.fld .a (Fd.spurLegDriveHs n))).setFld .a (Fd.spurLegDriveNowLs n) (s.fld .a (Fd.spurLegDriveLs n))

/-! ### Wraps and edges (R301 to R304, R308) -/

/-- A late write of a leg's compare moves into its shadow in the tick after the wrap (R284). -/
def legLateMove (tb n : Nat) (s : State) : State :=
  match (s.leg n).late with
  | some v => if legTb s n = tb then (s.setReg .a (Reg.spurLegCmp n) v).setLeg n { s.leg n with late := none } else s
  | none => s

/-- At a wrap or start of its timebase a leg takes its shadow and settings and opens its period. A refresh that is under way goes on. -/
def legWrap (tb n : Nat) (s : State) : State :=
  if legTb s n = tb then
    let q := s.leg n
    let total := q.loTotal + (if q.lo ∧ q.refresh = 0 then s.tick - q.loSince else 0)
    let run := if q.en then (if total < 160 then q.refreshRun + 1 else 0) else 0
    let t := (s.tb tb).prd + 1
    let dt := s.fld .a (Fd.spurLegDtDt n)
    let minpw := s.fld .a (Fd.spurLegDtMinpw n)
    let e := effective (min (s.fld .a ⟨Reg.spurLegCmp n, 19, 0⟩) t) t (dt + minpw)
    let on := s.bit .a (Fd.spurLegCtrlEn n)
    let charge := on && !q.en
    let s := s.setLeg n { q with en := on, charging := charge, dt := dt, minpw := minpw, act := s.fld .a ⟨Reg.spurLegCmp n, 19, 0⟩, ceff := e.1
                                 loTotal := 0, loSince := s.tick, refreshRun := run, leaving := false
                                 uvRun := if q.uvNow then q.uvRun + 1 else 0, uvNow := false }
    let s := s.setFld .a (Fd.spurLegStatusBootUv n) 0
    let s := s.setBit .a (Fd.spurLegStatusActive n) on
    let s := s.setBit .a (Fd.spurLegStatusDropHi n) (e.2.1 && on && !charge)
    let s := s.setBit .a (Fd.spurLegStatusDropLo n) (e.2.2 && on && !charge)
    let s := legDecide n (legLateMove tb n s)
    let planned := if e.1 = 0 then t else if t ≤ e.1 then 0 else t - e.1 - dt
    if on && !charge && decide (q.refresh = 0) && (legWant s n).1 && decide (s.fld .a (Fd.spurLegCfgRefreshN n) ≤ run) && decide (planned < 160) then
      refreshStart n s
    else s
  else s

/-- A leg's count reaches its effective compare. -/
def legCompare (n : Nat) (s : State) : State :=
  let q := s.leg n
  if s.saddle.clock && (legWant s n != (false, false)) && !legInAsc s n && !q.charging && decide (0 < q.ceff) &&
      decide (q.ceff ≤ s.prdNow (legTb s n)) && decide (q.ceff ≤ s.tbCount (legTb s n)) && decide (q.refresh = 0) && !gatesHeld s && !s.bit .a (Fd.spurLegStatusTripped n) then
    legDrive n false true s
  else s

/-- With ADAPT = 1, the code for the next turn-on of the switch that has just turned on in `t` half nanoseconds; 0x1FF stands for an edge that is not
measured (R308). DRIVE_NOW shows the time as ns × 2; of a time beyond its eight bits the spec states no code (assumption 84). -/
def legAdapt (n : Nat) (high : Bool) (t : Nat) (s : State) : State :=
  if s.bit .a (Fd.spurLegCfgAdapt n) then
    let time := if high then Fd.spurLegDriveNowHsTime n else Fd.spurLegDriveNowLsTime n
    let code := if high then Fd.spurLegDriveNowHs n else Fd.spurLegDriveNowLs n
    if t = 0x1FF then s.setFld .a time 0xFF
    else
      let s := if t ≤ 254 then s.setFld .a time t
        else
          let r := s.takeFree
          r.2.setFld .a time ((Config.freeWord r.1).toNat % 255)
      let target := 2 * s.fld .a (Fd.spurLegAdaptTarget n)
      let k := s.fld .a code
      if target + 2 < t ∧ k < s.fld .a (Fd.spurLegAdaptMax n) then s.setFld .a code (k + 1)
      else if t + 2 < target ∧ s.fld .a (Fd.spurLegAdaptMin n) < k then s.setFld .a code (k - 1)
      else s
  else s

/-- Has a leg's dead time passed since a switch turned off (R279)? -/
def legFree (s : State) (n : Nat) (off : Option Nat) : Bool :=
  match off with
  | some t => decide (t + 64 * (s.leg n).dt ≤ s.now64)
  | none => true

/-- The dead time of a leg's waiting turn-on is over; in a refresh, also the 400 ns of its low side (R304). -/
def legDeadEnd (n swing : Nat) (s : State) : State :=
  let q := s.leg n
  if s.saddle.clock && !gatesHeld s then
    match q.wait with
    | some true =>
      if q.lo || !legFree s n q.loOff then s else legAdapt n true swing (s.setLeg n { q with wait := none, hi := true, hiOn := s.tick })
    | some false =>
      if q.hi || !legFree s n q.hiOff then s
      else
        let s := if q.refresh = 1 then s.setLeg n { q with wait := none, lo := true, loOn := s.tick, loSince := s.tick, refresh := 2, refreshAt := s.tick }
          else s.setLeg n { q with wait := none, lo := true, loOn := s.tick, loSince := s.tick }
        legAdapt n false swing s
    | none =>
      if q.refresh = 2 ∧ q.refreshAt + 160 ≤ s.tick then
        let want := legWant s n
        let s := legDrive n want.1 want.2 s
        s.setLeg n { s.leg n with refresh := 0, loSince := s.tick }
      else s
  else s

/-! ### The commands -/

/-- A write of the Saddle's register at `a`, which only the baton holder's master makes (R333). Toward the stopped Saddle it times out at its crossing
(R38). -/
def gated (m : Master) (a : Nat) (f : State → State) (s : State) : State :=
  if s.saddle.clock then (if s.holds m.peak then f s else s)
  else if (s.peak m.peak).up then xtoRecord m.peak 1 a true s else s

def execTripPinActive (src : Fin 8) (s : State) : Out := .next (tripInput src.val true s)
def execTripPinInactive (src : Fin 8) (s : State) : Out := .next (tripInput src.val false s)
def execTripSwSet (m : Master) (s : State) : Out := .next (gated m Reg.tripSw (tripSw 1) s)
def execTripSwRelease (m : Master) (s : State) : Out := .next (gated m Reg.tripSw (tripSw 2) s)
def execTripClear (m : Master) (mask : BitVec 12) (s : State) : Out := .next (gated m Reg.tripClear (tripClear mask.toNat) s)
def execLegEnable (m : Master) (n : Fin 6) (s : State) : Out :=
  .next (gated m (Reg.spurLegCtrl n.val) (fun s => if s.bit .a (Fd.spurLegCtrlEn n.val) then s else legEnable m.peak n.val s) s)
def execLegDisable (m : Master) (n : Fin 6) (s : State) : Out := .next (gated m (Reg.spurLegCtrl n.val) (legDisable n.val) s)
def execBootUndervoltage (n : Fin 6) (s : State) : Out := .next (bootUndervoltage n.val s)
def execVdsTrip (n : Fin 6) (r : VdsReading) (s : State) : Out := .next (vdsTrip n.val r.high r.vds.toNat s)
def execSpurClear (m : Master) (mask : BitVec 6) (s : State) : Out := .next (gated m Reg.spurClear (spurClear mask.toNat) s)
def execAscEnter (m : Master) (s : State) : Out := .next (gated m Reg.spurAscCmd (ascCmd 1) s)
def execAscRelease (m : Master) (s : State) : Out := .next (gated m Reg.spurAscCmd (ascCmd 2) s)
/-- `vbus` is the bus voltage of the leg in millivolts. -/
def execLegDiagStart (m : Master) (n : Fin 6) (vbus : BitVec 16) (s : State) : Out :=
  .next (gated m (Reg.spurLegCtrl n.val) (legDiagStart n.val (decide (vbus.toNat < 5000))) s)
def execLegDiagComplete (n : Fin 6) (v1 v2 : BitVec 16) (v3 : BitVec 17) (vbus : BitVec 16) (s : State) : Out :=
  .next (if s.saddle.clock then legDiagResult n.val v1.toNat v2.toNat v3.toInt vbus.toNat s else s)

def execCompareReached (e : CompareSel) (s : State) : Out :=
  .next (match e with
    | .pair p => pairCompare p.val s
    | .event c => eventCompare c.val s
    | .leg n => legCompare n.val s)

/-- `swing` is the measured swing of a leg's turn-on edge in half nanoseconds. -/
def execDeadTimeEnd (e : SwitchSel) (swing : BitVec 9) (s : State) : Out :=
  .next (match e with
    | .pair p => pairDeadEnd p.val s
    | .leg n => legDeadEnd n.val swing.toNat s)

end Sys2Proof.Machine
end

