-- ==== Sys2Proof/Machine/Position.lean ====
section
/-! DEFINITION. The position channels and their speed (R319 to R326). -/

namespace Sys2Proof.Machine

def State.pif (s : State) (k : Nat) : Pif := Tab.get (fun _ => {}) s.saddle.pifs k
def State.setPif (s : State) (k : Nat) (q : Pif) : State :=
  { s with saddle := { s.saddle with pifs := Tab.put (fun _ => {}) s.saddle.pifs k q } }

/-- Counts per second of a period in ticks, with a sign (R322). -/
def periodSpeed (up : Bool) (ticks : Nat) : Word := fpOfRat (if up then 400000000 else -400000000) ticks

/-- A standstill: no edge is remembered (R323). -/
def pifStand (k : Nat) (s : State) : State := s.setPif k { s.pif k with last := none, est := 0, period := none }

def setSpeed (k : Nat) (w : Word) (s : State) : State := s.setRegW (regKey .a (Reg.pifChSpeed k)) w

/-- What an edge latches (R324): the set that is not frozen is seen at once. -/
def edgeLatch (k : Nat) (s : State) : State :=
  let t := s.cairnTime ((s.tick : Int) - (s.fld .a (Fd.pifChCfgFilt k) + 3 : Nat)) 1
  let q := { s.pif k with liveSpeed := s.regW (regKey .a (Reg.pifChSpeed k)), liveS := BitVec.ofNat 32 t.sec, liveNs := BitVec.ofNat 32 t.ns }
  let s := s.setPif k q
  let s := s.setReg .a (Reg.pifChEdgePos k) (s.reg .a (Reg.pifChPos k))
  let s := if q.frozen.getLsbD 0 then s else s.setRegW (regKey .a (Reg.pifChEdgeSpeed k)) q.liveSpeed
  let s := if q.frozen.getLsbD 1 then s else s.setRegW (regKey .a (Reg.pifChEdgeS k)) q.liveS
  if q.frozen.getLsbD 2 then s else s.setRegW (regKey .a (Reg.pifChEdgeNs k)) q.liveNs

/-- An edge for speed (R322, R323). -/
def pifEdge (k : Nat) (up : Bool) (s : State) : State :=
  let q := s.pif k
  let same := q.last.isSome && decide (s.bit .a (Fd.pifChStatusDir k) = !up)
  let s := (s.setBit .a (Fd.pifChStatusDir k) (!up)).setFld .a (Fd.pifChStatusStale k) 0
  let p := s.tick - q.last.getD 0
  let window := s.bit .a (Fd.pifChStatusMethod k)
  let s := if same then
      let s := s.setPif k { q with last := some s.tick, since := s.tick, est := periodSpeed up p, period := some p }
      let s := if window then s else
        ((setSpeed k (periodSpeed up p) s).setFld .a (Fd.pifChStatusBounded k) 0).setFld .a (Fd.pifChStatusValid k) 1
      if p < s.reg .a (Reg.pifChPLo k) % 2 ^ 24 then (s.setFld .a (Fd.pifChStatusMethod k) 1).setFld .a (Fd.pifChStatusBounded k) 0 else s
    else
      let s := s.setPif k { q with last := some s.tick, since := s.tick, est := 0, period := none }
      if window then s else ((setSpeed k 0 s).setFld .a (Fd.pifChStatusBounded k) 0).setFld .a (Fd.pifChStatusValid k) 0
  edgeLatch k s

/-- POS counts by `d` (R321): −1, 0 or 1. -/
def pifCount (k : Nat) (d : Int) (s : State) : State :=
  if d = 0 then s
  else
    let old := s.reg .a (Reg.pifChPos k)
    let wraps := decide (d = 1 ∧ old = 0xFFFFFFFF) || decide (d = -1 ∧ old = 0)
    let s := s.setRegI .a (Reg.pifChPos k) ((old : Int) + d)
    let s := s.setPif k { s.pif k with net := (s.pif k).net + d }
    let s := if wraps then fireBoth (Ev.pif k) (s.raise .a (Fd.pifChFlagsWrap k)) else s
    pifEdge k (decide (d = 1)) s

def upCount (k : Nat) (s : State) : State := s.bump .a (Fd.pifChUpCountCount k) (Fd.pifChUpCountSat k)
def dnCount (k : Nat) (s : State) : State := s.bump .a (Fd.pifChDnCountCount k) (Fd.pifChDnCountSat k)

/-- One step of the count with its edge counter. -/
def pifStep (k : Nat) (up : Bool) (s : State) : State :=
  if up then pifCount k 1 (upCount k s) else pifCount k (-1) (dnCount k s)

/-- A new sample of the filtered lines (R319, R320). -/
def pifSample (k : Nat) (a b z : Bool) (s : State) : State :=
  if s.saddle.clock then
    let q := s.pif k
    let s := s.setPif k { q with a := a, b := b, z := z }
    let upA := a && !q.a
    let upB := b && !q.b
    match s.fld .a (Fd.pifChCfgMode k) with
    | 0 => s
    | 1 =>
      if upA && upB then dnCount k (upCount k s) else if upA then pifStep k true s else if upB then pifStep k false s else s
    | 2 =>
      let s := if upA && decide (b ≠ q.b) then s.raise .a (Fd.pifChFlagsDirRace k) else s
      if upA then pifStep k q.b s else s
    | _ =>
      let s := if decide (a ≠ q.a) && decide (b ≠ q.b) then
          let s := (s.bump .a (Fd.pifChIllegalCount k) (Fd.pifChIllegalSat k)).raise .a (Fd.pifChFlagsIllegal k)
          fireBoth (Ev.pif k) (s.setPif k { s.pif k with winBad := true })
        else if a ≠ q.a then pifStep k (decide ((a != b) = Config.quadUp)) s
        else if b ≠ q.b then pifStep k (decide ((a == b) = Config.quadUp)) s
        else s
      if z && !q.z then
        let s := (s.setReg .a (Reg.pifChZPos k) (s.reg .a (Reg.pifChPos k))).raise .a (Fd.pifChFlagsZ k)
        if s.bit .a (Fd.pifChCfgZReset k) then s.setReg .a (Reg.pifChPos k) 0 else s
      else s
  else s

/-- A window of WIN ticks ends, and the next begins with it (R322). -/
def pifWindow (k : Nat) (s : State) : State :=
  let q := s.pif k
  let win := max 1 (s.reg .a (Reg.pifChWin k) % 2 ^ 24)
  if s.saddle.clock && decide (s.fld .a (Fd.pifChCfgMode k) ≠ 0) && decide (q.winFrom + win ≤ s.tick) then
    let s := s.setPif k { q with winFrom := q.winFrom + win, net := 0, winBad := false }
    if s.bit .a (Fd.pifChStatusMethod k) then
      if q.winBad then s.setFld .a (Fd.pifChStatusValid k) 0
      else
        let v := fpOfRat (q.net * 400000000) win
        let s := (setSpeed k v s).setFld .a (Fd.pifChStatusValid k) 1
        if flt (fabs v) (periodSpeed true (max 1 (s.reg .a (Reg.pifChPHi k) % 2 ^ 24))) then
          (s.setFld .a (Fd.pifChStatusMethod k) 0).setPif k { s.pif k with est := v }
        else s
    else s
  else s

/-- The bound between edges (R323). -/
def pifBound (k : Nat) (s : State) : State :=
  let q := s.pif k
  match q.last with
  | some t =>
    if s.saddle.clock && decide (s.fld .a (Fd.pifChCfgMode k) ≠ 0) && !s.bit .a (Fd.pifChStatusMethod k) && decide (t < s.tick) then
      let lim := periodSpeed true (s.tick - t)
      if flt lim (fabs q.est) then (setSpeed k (if flt q.est 0 then fneg lim else lim) s).setFld .a (Fd.pifChStatusBounded k) 1
      else (setSpeed k q.est s).setFld .a (Fd.pifChStatusBounded k) 0
    else s
  | none => s

/-- STALE_T ticks without an edge (R323). -/
def pifStale (k : Nat) (s : State) : State :=
  if s.saddle.clock && decide (s.fld .a (Fd.pifChCfgMode k) ≠ 0) && !s.bit .a (Fd.pifChStatusMethod k) && !s.bit .a (Fd.pifChStatusStale k) &&
      decide ((s.pif k).since + s.reg .a (Reg.pifChStaleT k) ≤ s.tick) then
    let s := pifStand k (setSpeed k 0 s)
    let s := ((s.setFld .a (Fd.pifChStatusBounded k) 0).setFld .a (Fd.pifChStatusValid k) 0).setFld .a (Fd.pifChStatusStale k) 1
    fireBoth (Ev.pif k) (s.raise .a (Fd.pifChFlagsStale k))
  else s

/-! ### Registers -/

/-- A write of CH[k].CFG while MODE is OFF (R326): a mode other than OFF starts the channel. -/
def pifCfgWrite (k v : Nat) (s : State) : State :=
  if bits v 1 0 ≠ 0 ∧ s.bit .a (Fd.pifChStatusRetired k) = true then s.raise .a (Fd.pifChFlagsRange k)
  else
    let s := s.setReg .a (Reg.pifChCfg k) (bits v 16 16 * 2 ^ 16 + bits v 15 8 * 2 ^ 8 + bits v 1 0)
    if bits v 1 0 = 0 then s
    else
      let s := s.setPif k { s.pif k with last := none, est := 0, period := none, since := s.tick, winFrom := s.tick, net := 0, winBad := false }
      let s := setSpeed k 0 s
      s.setReg .a (Reg.pifChStatus k) (s.fld .a (Fd.pifChStatusRetired k) * 32)

/-- CFG is RWS with MODE as its running state, but a write that sets MODE to OFF stops the channel. Its other fields keep their values then, and one
that the write would change sets the flag (R6); reserved bits are nothing (R7). -/
def pifCfg (k v : Nat) (s : State) : State :=
  let old := s.reg .a (Reg.pifChCfg k)
  if s.fld .a (Fd.pifChCfgMode k) = 0 then pifCfgWrite k v s
  else
    let same := decide (bits v 16 16 = bits old 16 16) && decide (bits v 15 8 = bits old 15 8)
    let s := if bits v 1 0 = 0 ∧ same = true then s else s.raise .a (Fd.pifChFlagsWriteWhileRunning k)
    if bits v 1 0 = 0 then s.setFld .a (Fd.pifChCfgMode k) 0 else s

/-- A write of POS_SET: POS takes it, and a standstill holds (R321, R323). -/
def posSet (k v : Nat) (s : State) : State :=
  if s.fld .a (Fd.pifChCfgMode k) = 0 then
    let s := setSpeed k 0 ((s.setReg .a (Reg.pifChPosSet k) v).setReg .a (Reg.pifChPos k) v)
    pifStand k ((s.setFld .a (Fd.pifChStatusBounded k) 0).setFld .a (Fd.pifChStatusValid k) 0)
  else s.raise .a (Fd.pifChFlagsWriteWhileRunning k)

/-- P_LO or P_HI: `reg` takes `v` unless P_HI ≤ P_LO (R322). -/
def pifPeriods (k reg v : Nat) (s : State) : State :=
  let t := s.setReg .a reg (v % 2 ^ 24)
  if t.reg .a (Reg.pifChPHi k) ≤ t.reg .a (Reg.pifChPLo k) then s.raise .a (Fd.pifChFlagsRange k) else t

/-- A read of EDGE_POS freezes the next three, as the same edge latched them (R324). -/
def edgePosRead (k : Nat) (s : State) : Nat × State :=
  let q := s.pif k
  let t := (s.setRegW (regKey .a (Reg.pifChEdgeSpeed k)) q.liveSpeed).setRegW (regKey .a (Reg.pifChEdgeS k)) q.liveS
  (s.reg .a (Reg.pifChEdgePos k), (t.setRegW (regKey .a (Reg.pifChEdgeNs k)) q.liveNs).setPif k { q with frozen := 7 })

/-- A read of EDGE_SPEED (j = 0), EDGE_S or EDGE_NS ends its freeze. -/
def edgeRead (k j reg : Nat) (s : State) : Nat × State :=
  let q := s.pif k
  let live := match j with
    | 0 => q.liveSpeed
    | 1 => q.liveS
    | _ => q.liveNs
  let v := s.reg .a reg
  let s := s.setPif k { q with frozen := q.frozen &&& ~~~(BitVec.ofNat 3 (2 ^ j)) }
  (v, s.setRegW (regKey .a reg) live)

def execPifLineChange (k : Fin 2) (a b z : Bool) (s : State) : Out := .next (pifSample k.val a b z s)
def execPosSet (m : Master) (k : Fin 2) (val : Word) (s : State) : Out := .next (gated m (Reg.pifChPosSet k.val) (posSet k.val val.toNat) s)
def execSpeedWindowEnd (k : Fin 2) (s : State) : Out := .next (pifWindow k.val s)
def execSpeedBoundUpdate (k : Fin 2) (s : State) : Out := .next (pifBound k.val s)
def execPifStale (k : Fin 2) (s : State) : Out := .next (pifStale k.val s)
/-- R21: only the holder's read has the side effect. -/
def execEdgePosRead (m : Master) (k : Fin 2) (s : State) : Out :=
  .next (if (s.peak m.peak).up then
      returned (if s.saddle.clock = false then (0, xtoRecord m.peak 1 (Reg.pifChEdgePos k.val) false s)
        else if s.holds m.peak then edgePosRead k.val s else (s.reg .a (Reg.pifChEdgePos k.val), s))
    else s)

end Sys2Proof.Machine
end

