-- ==== Sys2Proof/Machine/Kernel.lean ====
section
/-! DEFINITION. The safety kernel: its configuration, inputs, functions, outputs and segments (R353 to R370), but for what ends in the safe
state of R348. -/

namespace Sys2Proof.Machine

/-! ### Roles as the kernel sees them (R327) -/

def roleFld : PeakId → Fld := gdmRoleFld

/-- A Peak's role: 0 ACTIVE, 1 STANDBY, 2 RECOVERING, 3 FAILED. -/
def State.role (s : State) (p : PeakId) : Nat := s.fld .a (roleFld p)

/-- Is a Peak ACTIVE? Between a failover decision and its strobe the grant stands for the role (R335). -/
def anyActive (s : State) : Bool :=
  decide (s.role .a = 0) || decide (s.role .b = 0) || s.gdm.grant.isSome

/-! ### The safety configuration (R356, R357) -/

/-- Word `i` of the working image. -/
def State.cfgWord (s : State) (i : Nat) : Nat := s.saf.img.getD i 0

/-- The little-endian bytes of a word. -/
def wordBytes (w : Nat) : List Byte := [BitVec.ofNat 8 w, BitVec.ofNat 8 (w / 2 ^ 8), BitVec.ofNat 8 (w / 2 ^ 16), BitVec.ofNat 8 (w / 2 ^ 24)]

/-- CRC-32 over words 0 to 62 of an image. -/
def imageCrc (w : List Nat) : Nat := crc32 ((w.take 63).flatMap wordBytes)

/-- Is word 3 + n in range, as input n of an image? -/
def inputOk (w : List Nat) (n : Nat) : Bool :=
  let x := w.getD (3 + n) 0
  let y := w.getD (4 + n) 0
  let type := bits x 2 0
  let tpoOk := decide (type = 2) || decide (bits (w.getD 2 0) (16 + bits x 5 4) (16 + bits x 5 4) = 1)
  let paired := decide (bits x 6 6 = 1)
  decide (type ≤ 4) && (decide (type = 0) || tpoOk) &&
    (decide (type ≠ 2) || (decide (1 ≤ bits x 15 8) && decide (bits x 15 8 ≤ 250))) &&
    (!paired || (decide (n % 2 = 0) && decide (1 ≤ bits x 24 16) && decide (bits x 24 16 ≤ 500) && decide (bits y 2 0 = type) &&
      (decide (type = 2) || decide (bits y 5 4 ≠ bits x 5 4))))

/-- The check of an image (R356, R358): 0 valid, 2 its CRC is wrong, 3 MAGIC or a field is out of range. -/
def imageCheck (w : List Nat) : Nat :=
  let period := bits (w.getD 2 0) 15 0
  let stop := bits (w.getD 13 0) 23 8
  let fb := w.getD 14 0
  if w.getD 63 0 ≠ imageCrc w then 2
  else if w.getD 0 0 ≠ 0x53460001 ∨ w.getD 1 0 = 0 ∨ period < 10 ∨ 1000 < period ∨ stop < 1 ∨ 10000 < stop then 3
  else if bits fb 3 3 = 1 ∧ (bits fb 24 16 < 10 ∨ 500 < bits fb 24 16) then 3
  else if (List.range 8).all (inputOk w) then 0 else 3

def inType (s : State) (n : Nat) : Nat := bits (s.cfgWord (3 + n)) 2 0
def inTpo (s : State) (n : Nat) : Nat := bits (s.cfgWord (3 + n)) 5 4
/-- Is an input supplied by a TPO: every type but OFF and DEMAND_EXT? -/
def inSupplied (s : State) (n : Nat) : Bool := decide (inType s n = 1) || decide (inType s n = 3) || decide (inType s n = 4)

/-- The channels of the input that channel n belongs to (R356). -/
def channels (s : State) (n : Nat) : List Nat :=
  let b := n - n % 2
  if bits (s.cfgWord (3 + b)) 6 6 = 1 then [b, b + 1] else [n]

/-- The channels of every input that function f names: 0 STO, 1 SDC, 2 the timed stop. -/
def named (s : State) (f : Nat) : List Nat :=
  (List.range 8).filter (fun n => (channels s n).any (fun m => decide (bits (s.cfgWord (11 + f)) m m = 1)))

/-- The trip bit of a function. -/
def funcTrip (s : State) (f : Nat) : Bool := decide (bits (s.cfgWord (11 + f)) 25 25 = 1)
def funcAuto (s : State) (f : Nat) : Bool := decide (f < 2) && decide (bits (s.cfgWord (11 + f)) 24 24 = 1)
def stoSeg (s : State) : Nat := bits (s.cfgWord 11) 16 8
def sdcOut (s : State) : Nat := bits (s.cfgWord 12) 11 8
def thenSdc (s : State) : Bool := decide (bits (s.cfgWord 13) 26 26 = 1)
def fbIn (s : State) : Nat := bits (s.cfgWord 14) 2 0
def fbEn (s : State) : Bool := decide (bits (s.cfgWord 14) 3 3 = 1)

/-! ### States (R363) -/

def fRun : Nat := 0
def fDemanded : Nat := 1
def fSafe : Nat := 2
def fStopping : Nat := 3
def fFault : Nat := 4

def funcFld (f : Nat) : Fld := ⟨Reg.safFunc, 8 * f + 2, 8 * f⟩
def State.func (s : State) (f : Nat) : Nat := s.fld .a (funcFld f)

/-- The latched fault code of an input. -/
def inFaultFld (n : Nat) : Fld := ⟨Reg.safInFault, 4 * n + 3, 4 * n⟩
def inFault (s : State) (n : Nat) : Nat := s.fld .a (inFaultFld n)
def outFaults (s : State) : Nat := s.fld .a Fd.safOutStateSoutFault

/-- Is an input in demand: a channel of it is, or has a latched fault other than those in `clear` (R360, R361)? -/
def inDemand (s : State) (clear : List Nat) (n : Nat) : Bool :=
  (channels s n).any (fun m => s.saf.chan.getLsbD m || (decide (inFault s m ≠ 0) && !clear.contains m))

/-- A FEEDBACK fault that is latched (R366). -/
def fbFault (s : State) (clear : List Nat) : Bool := fbEn s && decide (inFault s (fbIn s) = 4) && !clear.contains (fbIn s)

/-- Does a latched fault concern function f: the kernel's, an output's, a named input's, SDC's feedback? -/
def concerns (s : State) (clear : List Nat) (outs : Nat) (f : Nat) : Bool :=
  s.bit .a Fd.safStatusKernelFault || decide (outs ≠ 0) || (named s f).any (fun n => decide (inFault s n ≠ 0) && !clear.contains n) ||
    (decide (f = 1) && fbFault s clear)

/-- Is function f demanded by its inputs; STO also by a feedback fault? -/
def demanded (s : State) (clear : List Nat) (f : Nat) : Bool :=
  (named s f).any (inDemand s clear) || (decide (f = 0) && fbFault s clear)

/-! ### Records and events -/

/-- The first demand since the last read (R370): a demand of the same tick joins it. -/
def safFirst (cause funcs inputs : Nat) (s : State) : State :=
  if s.bit .a Fd.safFirstValid then
    (if s.saf.firstTick = s.tick then
      (s.setFld .a Fd.safFirstFunc (s.fld .a Fd.safFirstFunc ||| funcs)).setFld .a Fd.safFirstInputs (s.fld .a Fd.safFirstInputs ||| inputs)
    else s)
  else
    let s := (s.setFld .a Fd.safFirstValid 1).setFld .a Fd.safFirstCause cause
    let s := (s.setFld .a Fd.safFirstFunc funcs).setFld .a Fd.safFirstInputs inputs
    let s := s.setReg .a Reg.safFirstNs (s.cairnSlot s.tick 1)
    { s with saf := { s.saf with firstTick := s.tick } }

def gwPend (f : Fld) (s : State) : State := s.setGwFld f 1

/-! ### Segments and outputs (R354, R355, R362, R364) -/

/-- Do the outputs of function f act: it is not in RUN, nor in the stop time? -/
def funcActs (s : State) (f : Nat) : Bool := decide (s.func f ≠ fRun) && !(decide (f = 2) && decide (s.func 2 = fStopping))

/-- Do the conditions of R84 hold: every "device safe" unit passed, and a valid configuration? -/
def r84 (s : State) : Bool := s.saf.unitsOk && s.bit .a Fd.safStatusCfgValid

def inBivouac (s : State) : Bool := decide (s.power.phase = .entering) || decide (s.power.phase = .bivouac)

/-- The segments to be asserted (R355), bit s = segment s. -/
def segWant (s : State) : Nat :=
  let open_ := r84 s && anyActive s && s.gdm.released && !s.bit .a Fd.gdmStatusSafe && !inBivouac s && !s.bit .a Fd.safStatusKernelFault &&
    decide (outFaults s = 0)
  let byFunc := if funcActs s 0 || funcActs s 2 then stoSeg s else 0
  if open_ then byFunc ||| s.saf.lost.toNat else 0x1FF

/-- The SOUTs to be on (R362): none before the Gendarme has released the inhibit (R58). -/
def soutWant (s : State) : Nat :=
  if r84 s && s.gdm.released && !s.bit .a Fd.gdmStatusSafe && !inBivouac s && !s.bit .a Fd.safStatusKernelFault && decide (outFaults s = 0) && decide (s.func 1 = fRun) then
    sdcOut s else 0

/-- Segments change: the pairs of a released segment stay low until their wrap (R354), and the legs lose their gates with segment 8 (R303). -/
def segSet (want : Nat) (s : State) : State :=
  let old := s.fld .a Fd.safStatusSeg
  let s := s.setFld .a Fd.safStatusSeg want
  let s := s.setBit .a Fd.gdmStatusInhibit (decide (want = 0x1FF))
  let s := forAll (List.range 32) (fun p s =>
    if bits old (p / 4) (p / 4) = 1 ∧ bits want (p / 4) (p / 4) = 0 then s.setPair p { s.pair p with heldLow := true } else s) s
  let s := if bits old 8 8 = 0 ∧ bits want 8 8 = 1 then gatesDown true s else s
  if old = want then s else pwmRefresh s

/-- The outputs of SDC change: its feedback is awaited (R366). -/
def feedbackAwait (on : Bool) (s : State) : State :=
  if fbEn s then
    let n := fbIn s
    let seen := decide (bits (s.fld .a Fd.safInStateMasked) n n = 0) && decide (bits (s.fld .a Fd.safInStateLevel) n n = (if on then 0 else 1))
    { s with saf := { s.saf with feedback := if seen then none else some on } }
  else s

/-- The kernel drives its outputs from its functions. -/
def safAct (s : State) : State :=
  let s := segSet (segWant s) s
  let old := s.fld .a Fd.safOutStateSoutOn
  let new := soutWant s
  let s := s.setFld .a Fd.safOutStateSoutOn new
  let s := { s with saf := { s.saf with offPulse := s.saf.offPulse &&& BitVec.ofNat 4 new } }
  let s := if decide (old = 0) = decide (new = 0) then s else feedbackAwait (decide (new ≠ 0)) s
  let trip := decide (s.saf.img ≠ []) && (List.range 3).any (fun f => funcTrip s f && funcActs s f)
  let s := s.setBit .a Fd.safStatusGdmTrip trip
  tripInput 10 trip s

/-- The level of SOUTn at its switch: on and not in its off-pulse (R362). -/
def State.soutPin (s : State) (n : Nat) : Bool := decide (bits (s.fld .a Fd.safOutStateSoutOn) n n = 1) && !s.saf.offPulse.getLsbD n

/-! ### The functions move (R363 to R365) -/

/-- The state that function f takes; `extra` is a demand of the moment (the host, Bivouac, the safe state). -/
def funcNext (s : State) (extra : Nat) (f : Nat) : Nat :=
  let st := s.func f
  let hard := s.bit .a Fd.safStatusKernelFault || decide (outFaults s ≠ 0)
  let held := decide (f = 1) && thenSdc s && decide (s.func 2 ≠ fRun) && decide (s.func 2 ≠ fStopping)
  let new := if st = fStopping ∧ hard = false then fStopping
    else if concerns s [] (outFaults s) f = true ∨ st = fFault then fFault
    else if bits extra f f = 1 ∨ demanded s [] f = true then (if f = 2 ∧ st = fRun then fStopping else fDemanded)
    else if st = fDemanded then fSafe else st
  if new = fSafe ∧ funcAuto s f = true ∧ held = false then fRun else new

/-- One function settles; the recorded functions are the mask of those that the settlement demanded. -/
def funcSettle (extra : Nat) (f : Nat) (r : Nat × State) : Nat × State :=
  let s := r.2
  let st := s.func f
  let new := funcNext s extra f
  if new = st then r
  else
    let s := s.setFld .a (funcFld f) new
    if (new = fDemanded ∨ new = fStopping) ∧ (st = fRun ∨ st = fSafe) then
      let s := (s.bump .a Fd.safDemandsCount Fd.safDemandsSat).raise .a Fd.safFlagsDemand
      let s := if new = fStopping then fireBoth Ev.safStop s else gwPend Fd.colGwIntPendSafDemand (fireBoth Ev.safDemand s)
      (r.1 ||| 2 ^ f, s)
    else (if new = fFault then r.1 ||| 2 ^ f else r.1, s)

/-- Keep SAF.STATUS and the DEMAND and FAULT bits in step. -/
def safRefresh (s : State) : State :=
  let s := s.setBit .a Fd.safStatusTsRun (decide (s.func 2 = fStopping))
  let s := s.setBit .a Fd.safStatusAnySafe ((List.range 3).any (fun f => decide (s.func f ≠ fRun)))
  let mask := fun (g : Nat → Bool) => (List.range 8).foldl (fun m n => m + if g n then 2 ^ n else 0) 0
  let s := s.setFld .a Fd.safInStateDemand (mask (inDemand s []))
  s.setFld .a Fd.safInStateFault (mask (fun n => decide (inFault s n ≠ 0)))

/-- Every function settles once. -/
def funcsSettle (cause inputs extra : Nat) (s : State) : State :=
  let r := funcSettle extra 2 (funcSettle extra 1 (funcSettle extra 0 (0, s)))
  if r.1 = 0 then r.2 else safFirst cause r.1 inputs r.2

/-- Something changed: the functions settle, a demand of the moment ends, and the outputs follow. -/
def safChanged (cause inputs extra : Nat) (s : State) : State :=
  let s := funcsSettle cause inputs extra s
  let s := if extra = 0 then s else funcsSettle cause 0 0 s
  safAct (safRefresh s)

/-! ### Inputs (R359 to R361) -/

def setMask8 (f : Fld) (n : Nat) (v : Bool) (s : State) : State := s.setFld .a f (putBits (s.fld .a f) n n (if v then 1 else 0))

/-- An input fault latches (R361). -/
def inputFault (n code : Nat) (s : State) : State :=
  let s := if inFault s n = 0 then s.setFld .a (inFaultFld n) code else s
  let s := s.bump .a Fd.safDiagFaultsCount Fd.safDiagFaultsSat
  let s := { s with saf := { s.saf with passes := Tab.put (fun _ => 0) s.saf.passes n 0 } }
  let s := fireBoth Ev.safFault (s.raise .a Fd.safFlagsInputFault)
  safChanged (if code = 4 then 4 else 2) (2 ^ n) 0 s

/-- The feedback shows what is awaited (R366). -/
def feedbackSeen (n : Nat) (s : State) : State :=
  if fbEn s && decide (n = fbIn s) && decide (s.saf.feedback = some (decide (bits (s.fld .a Fd.safInStateLevel) n n = 0))) then
    { s with saf := { s.saf with feedback := none } }
  else s

/-- An input reads low, or high, past its filter and outside its mask. -/
def inputLevel (n : Nat) (high : Bool) (s : State) : State :=
  let s := setMask8 Fd.safInStateLevel n high (setMask8 Fd.safInStateMasked n false s)
  let demand := decide (inType s n = 1) || decide (inType s n = 2)
  let m : BitVec 8 := BitVec.ofNat 8 (2 ^ n)
  let s := { s with saf := { s.saf with chan := if demand && !high then s.saf.chan ||| m else s.saf.chan &&& ~~~m } }
  safChanged 1 (if high then 0 else 2 ^ n) 0 (feedbackSeen n s)

/-- TPOn goes low for its test pulse: its inputs are masked, and those in `high` read high late in the pulse (R359, R361). -/
def pulseStart (n high : Nat) (s : State) : State :=
  if bits (s.cfgWord 2) (16 + n) (16 + n) = 1 ∧ inBivouac s = false then
    let s := setMask8 Fd.safOutStateTpoOn n false s
    forAll (List.range 8) (fun i s =>
      if inSupplied s i && decide (inTpo s i = n) then
        let s := setMask8 Fd.safInStateMasked i true s
        if bits high i i = 1 then inputFault i 1 s else s
      else s) s
  else s

/-- The pulse ends: the inputs in `high` read high again, and each input that followed the pulse has passed it. -/
def pulseEnd (n high : Nat) (s : State) : State :=
  if bits (s.cfgWord 2) (16 + n) (16 + n) = 1 then
    let s := setMask8 Fd.safOutStateTpoOn n true s
    forAll (List.range 8) (fun i s =>
      if inSupplied s i && decide (inTpo s i = n) then
        let p := Tab.get (fun _ => 0) s.saf.passes i
        let s := { s with saf := { s.saf with passes := Tab.put (fun _ => 0) s.saf.passes i (p + 1) } }
        if bits high i i = 1 then feedbackSeen i (setMask8 Fd.safInStateMasked i false s) else s
      else s) s
  else s

/-- One channel of a pair was in demand alone for DISC_T: both channels take the fault (R361). -/
def discrepancy (n : Nat) (s : State) : State :=
  match channels s n with
  | [a, b] => if s.saf.chan.getLsbD a ≠ s.saf.chan.getLsbD b then inputFault b 2 (inputFault a 2 s) else s
  | _ => s

/-- A TPO pin reads back wrong (R361). -/
def tpoFault (n : Nat) (s : State) : State :=
  let s := setMask8 Fd.safOutStateTpoFault n true s
  forAll (List.range 8) (fun i s => if inSupplied s i && decide (inTpo s i = n) then inputFault i 3 s else s) s

/-! ### Output faults (R362) -/

def outputFault (n : Nat) (s : State) : State :=
  let s := setMask8 Fd.safOutStateSoutFault n true s
  let s := (s.raise .a Fd.safFlagsOutputFault).bump .a Fd.safDiagFaultsCount Fd.safDiagFaultsSat
  safChanged 3 0 0 (fireBoth Ev.safFault s)

/-! ### Resets (R361, R362, R365) -/

/-- The inputs whose latch a reset clears: their tests of the two most recent pulses passed. An input without a TPO has no such test. -/
def clearable (s : State) : List Nat :=
  (List.range 8).filter (fun n => decide (inFault s n ≠ 0) && inSupplied s n && decide (2 ≤ Tab.get (fun _ => 0) s.saf.passes n))

/-- May function f be reset, the latches that qualify set aside? -/
def resetOk (s : State) (clear : List Nat) (outs f : Nat) : Bool :=
  decide (s.func f ≠ fStopping) && !concerns s clear outs f && !demanded s clear f &&
    !(named s f).any (fun n => decide (bits (s.fld .a Fd.safInStateMasked) n n = 1))

/-- A reset of the functions in `mask`; `low` are the SOUT pins that have read below 2 V for 100 ms while off. Answers whether all were reset. -/
def safReset (mask low : Nat) (s : State) : Bool × State :=
  let clear := clearable s
  let outs := outFaults s &&& (0xF ^^^ (low &&& (0xF ^^^ s.fld .a Fd.safOutStateSoutOn)))
  let asked := (List.range 3).filter (fun f => decide (bits mask f f = 1))
  let good := asked.filter (resetOk s clear outs)
  let all := decide (good = asked)
  let s := if good = [] then s
    else
      let s := forAll clear (fun n s => s.setFld .a (inFaultFld n) 0) s
      let s := s.setFld .a Fd.safOutStateSoutFault outs
      forAll good (fun f s => if s.func f = fSafe ∨ s.func f = fFault then s.setFld .a (funcFld f) fRun else s) s
  let s := if all then s else s.raise .a Fd.safFlagsResetRefused
  (all, safChanged 0 0 0 s)

/-! ### SAF.CMD (R358, R364, R365, R370) -/

def safResult (code : Nat) (s : State) : State :=
  let s := s.setFld .a Fd.safCmdStatusResult code
  if code = 0 then s else s.raise .a Fd.safFlagsCmdRefused

/-- Is everything off: all timebases stopped, every PWM output disabled, every Spur leg off (code 0x3 of R75)? -/
def outputsIdle (s : State) : Bool :=
  !s.anyTbRuns && (List.range 32).all (fun p => !s.bit .a (Fd.pwmPairCfgEn p)) &&
    legNumbers.all (fun n => !s.bit .a (Fd.spurLegCtrlEn n) && !(s.leg n).hi && !(s.leg n).lo)

/-- The staged image. -/
def stageWords (s : State) : List Nat := (List.range 64).map (fun i => s.reg .a (Reg.safCfgStage i))

def safCommit (keyOk : Bool) (s : State) : State :=
  let w := stageWords s
  let code := if !keyOk then 1
    else if imageCheck w ≠ 0 then imageCheck w
    else if w.getD 1 0 ≤ s.reg .a Reg.safCfgGen then 4
    else if outputsIdle s = false then 5
    else if (List.range 3).any (fun f => decide (s.func f ≠ fSafe) && decide (s.func f ≠ fFault)) then 6
    else if s.bit .a Fd.safCmdStatusBusy then 7
    else 0
  let s := safResult code s
  if code = 0 then { (s.setFld .a Fd.safCmdStatusBusy 1) with saf := { s.saf with commit := some w } } else s

/-- The parameter store's two copies (R356). -/
def copyKey (b : Bool) : Nat := storeKey (if b then 0x7FF00 else 0x7FE00)

def storeImage (key : Nat) (w : List Nat) (s : State) : State := s.setByteList key (w.flatMap wordBytes)

/-- An image becomes active: every function is in SAFE (R363). -/
def activate (w : List Nat) (copy : Bool) (s : State) : State :=
  let s := { s with saf := { s.saf with img := w, chan := 0, passes := [], feedback := none } }
  let s := (s.setFld .a Fd.safStatusCfgValid 1).setBit .a Fd.safStatusCfgCopy copy
  let s := s.setReg .a Reg.safCfgGen (w.getD 1 0)
  let s := s.setFld .a Fd.safOutStateTpoOn (bits (w.getD 2 0) 19 16)
  let s := forAll (List.range 3) (fun f s => if s.func f = fFault then s else s.setFld .a (funcFld f) fSafe) s
  safAct (safRefresh s)

/-- The commit's writes and readbacks are done. A failed readback keeps the old image; what it leaves in copy A nobody says. -/
def safCommitDone (ok : Bool) (s : State) : State :=
  match s.saf.commit with
  | none => s
  | some w =>
    let s := { (s.setFld .a Fd.safCmdStatusBusy 0) with saf := { s.saf with commit := none } }
    if ok then activate w false (safResult 0 (storeImage (copyKey true) w (storeImage (copyKey false) w s)))
    else
      let g := (List.range 64).map (fun i => (Config.freeWord (s.free + i)).toNat)
      safResult 8 (storeImage (copyKey false) g { s with free := s.free + 64 })

/-- The two stored copies are read (R357): the valid one with the higher GEN; of two equal ones copy A. -/
def safLoad (s : State) : State :=
  let a := s.wordList (copyKey false) 64
  let b := s.wordList (copyKey true) 64
  let okA := decide (imageCheck a = 0)
  let okB := decide (imageCheck b = 0)
  let s := if okA != okB then s.raise .a Fd.safFlagsCfgCopyBad else s
  if okA && (!okB || decide (b.getD 1 0 ≤ a.getD 1 0)) then activate a false s
  else if okB then activate b true s
  else s

/-- SAF.CMD.RESET. -/
def safCmdReset (keyOk : Bool) (mask low : Nat) (s : State) : State :=
  if !keyOk then safResult 1 s
  else if s.bit .a Fd.safCmdStatusBusy then safResult 7 s
  else
    let r := safReset mask low s
    if r.1 then safResult 0 r.2 else safResult 9 r.2

/-- SAF.CMD.DEMAND. -/
def safCmdDemand (keyOk : Bool) (mask : Nat) (s : State) : State :=
  if !keyOk then safResult 1 s
  else if s.bit .a Fd.safCmdStatusBusy then safResult 7 s
  else safResult 0 (safChanged 5 0 mask s)

/-- A write of SAF.CMD through the Gendarme window; an operation of no row is refused. -/
def safCmd (v low : Nat) (s : State) : State :=
  let keyOk := decide (bits v 31 16 = 0x5A3C)
  match bits v 15 8 with
  | 1 => safCommit keyOk s
  | 2 => safCmdReset keyOk (bits v 2 0) low s
  | 3 => safCmdDemand keyOk (bits v 2 0) s
  | _ => if keyOk then s.raise .a Fd.safFlagsCmdRefused else safResult 1 s

/-! ### The commands -/

/-- Does the kernel run: the Gendarme is out of reset (R61 t1)? -/
def kernelRuns (s : State) : Bool :=
  match s.power.phase with
  | .off => false
  | .cold i => decide (1 ≤ i)
  | _ => true

def whenKernel (f : State → State) (s : State) : State := if kernelRuns s then f s else s

/-- Does the window answer for the Gendarme and the kernel: they run, and the device is not RETIRED (R78)? -/
def gdmAnswers (s : State) : Bool := kernelRuns s && decide (s.fld .a Fd.lcsStateState ≠ 3)

def whenAnswers (f : State → State) (s : State) : State := if gdmAnswers s then f s else s

/-- R353, R354: a segment's release toggle stopped, and the pull network asserts it. -/
def execToggleLoss (seg : Fin 9) (s : State) : Out :=
  .next (whenKernel (fun s => safAct { s with saf := { s.saf with lost := s.saf.lost ||| BitVec.ofNat 9 (2 ^ seg.val) } }) s)
def execSafetyConfigLoad (s : State) : Out := .next (whenKernel safLoad s)
def execSafCommit (key : BitVec 16) (s : State) : Out := .next (whenAnswers (safCommit (decide (key = 0x5A3C))) s)
def execSafCommitComplete (ok : Bool) (s : State) : Out := .next (whenKernel (safCommitDone ok) s)
def execSafReset (key : BitVec 16) (func : BitVec 3) (low : BitVec 4) (s : State) : Out :=
  .next (whenAnswers (safCmdReset (decide (key = 0x5A3C)) func.toNat low.toNat) s)
def execSafDemand (key : BitVec 16) (func : BitVec 3) (s : State) : Out := .next (whenAnswers (safCmdDemand (decide (key = 0x5A3C)) func.toNat) s)
def execTestPulseStart (n : Fin 4) (high : BitVec 8) (s : State) : Out := .next (whenKernel (pulseStart n.val high.toNat) s)
def execTestPulseEnd (n : Fin 4) (high : BitVec 8) (s : State) : Out := .next (whenKernel (pulseEnd n.val high.toNat) s)
def execInputDemand (n : Fin 8) (s : State) : Out := .next (whenKernel (inputLevel n.val false) s)
def execInputRelease (n : Fin 8) (s : State) : Out := .next (whenKernel (inputLevel n.val true) s)
def execDiscrepancyExpiry (n : Fin 8) (s : State) : Out := .next (whenKernel (discrepancy n.val) s)
def execTpoFault (n : Fin 4) (s : State) : Out := .next (whenKernel (tpoFault n.val) s)
def execResetStuckExpiry (n : Fin 8) (s : State) : Out :=
  .next (whenKernel (fun s => if inType s n.val = 4 then inputFault n.val 5 s else s) s)

def soutOn (s : State) (n : Nat) : Bool := decide (bits (s.fld .a Fd.safOutStateSoutOn) n n = 1)

def execSoutOffPulse (n : Fin 4) (s : State) : Out :=
  .next (if soutOn s n.val then { s with saf := { s.saf with offPulse := s.saf.offPulse ||| BitVec.ofNat 4 (2 ^ n.val) } } else s)
def execSoutOffPulseEnd (n : Fin 4) (s : State) : Out :=
  .next { s with saf := { s.saf with offPulse := s.saf.offPulse &&& ~~~(BitVec.ofNat 4 (2 ^ n.val)) } }
def execSoutStuckOn (n : Fin 4) (s : State) : Out :=
  .next (if s.saf.offPulse.getLsbD n.val then outputFault n.val s else s)
def execSoutShorted (n : Fin 4) (s : State) : Out :=
  .next (whenKernel (fun s => if soutOn s n.val then s else outputFault n.val s) s)

/-- STOP_T ends (R364): the timed stop's outputs act, and SDC is demanded with it. -/
def stopTimeEnd (s : State) : State :=
  if s.func 2 = fStopping then
    let d := demanded s [] 2
    let s := s.setFld .a (funcFld 2) (if concerns s [] (outFaults s) 2 then fFault else if d then fDemanded else fSafe)
    let s := if d then gwPend Fd.colGwIntPendSafDemand (fireBoth Ev.safDemand s) else s
    safChanged 1 0 (if thenSdc s then 2 else 0) s
  else s

def execStopTimeExpiry (s : State) : Out := .next (stopTimeEnd s)
/-- The RESET input falls after 0.1 s to 5 s (R365): it resets every function. -/
def execResetInputRelease (low : BitVec 4) (s : State) : Out :=
  .next (whenKernel (fun s => if bits (s.cfgWord 15) 3 3 = 1 then (safReset 7 low.toNat s).2 else s) s)
def execFeedbackTimeout (s : State) : Out :=
  .next (if s.saf.feedback.isSome then
      inputFault (fbIn s) 4 { (s.raise .a Fd.safFlagsFeedbackFault) with saf := { s.saf with feedback := none } }
    else s)

end Sys2Proof.Machine
end

