-- ==== Sys2Proof/Machine/Peaks.lean ====
section
/-! DEFINITION. A Peak's reset and release, the baton, and what a state copy carries from one Peak to the other (R20 to R25, R327 to R330,
R340 to R344). -/

namespace Sys2Proof.Machine

/-! ### Reset and release -/

/-- The registers of a Peak's bank that its own reset leaves: the copy of `THM.FLAGS`, the clock it still has, and the results for shared
units. -/
def outlivesPeak (a : Nat) : Bool :=
  decide (a = Reg.thmFlags) || decide (a = Reg.clkCtrl) || decide (a = Reg.clkStatus) ||
    (List.range 5).any (fun w => decide (a = Reg.bstPass (w + 3)) || decide (a = Reg.bstDone (w + 3)))

/-- The memories of a Peak lose their contents (R80). -/
def peakMemClear (p : PeakId) (s : State) : State :=
  (s.clearBytes (p.num * 8 * 2 ^ 17) ((p.num + 1) * 8 * 2 ^ 17)).clearBytes ((1 + p.num) * 2 ^ 32) ((2 + p.num) * 2 ^ 32)

/-- A Peak's registers, cores, tasks and everything else of its own return to their reset state (R117, R352). -/
def peakForget (p : PeakId) (s : State) : State :=
  { s with
    regs := s.regs.filter (fun e => decide (e.1 / 2 ^ 32 ≠ p.num) || outlivesPeak (e.1 % 2 ^ 32))
    cores := s.cores.filter (fun e => decide (e.1 / 8 ≠ p.num))
    tasks := s.tasks.filter (fun e => decide (e.1 / 256 ≠ p.num))
    mdio := s.mdio.filter (fun e => decide (e.1 ≠ p))
    saddle := { s.saddle with wrote := s.saddle.wrote.set p [] }
    power := { s.power with boot := s.power.boot.set p .none, bist := s.power.bist.set p none, joinAt := s.power.joinAt.set p none }
    gdm := { s.gdm with failedAt := s.gdm.failedAt.set p s.tick, sent := s.gdm.sent.set p none, acks := s.gdm.acks.set p none, failCmd := s.gdm.failCmd.set p false
                        waited := s.gdm.waited.set p false }
    peaks := s.peaks.set p {} }

/-- A Peak goes into reset (R80, R117, R352). Its cores' STATUS.STATE reads its reset value 0b00, as all its registers do, and 0b11 never
shows (DESIGN CHOICE, assumption 145: R124 does not say when it does). -/
def peakReset (p : PeakId) (s : State) : State :=
  ((peakForget p (peakMemClear p s)).setReg .a (Reg.gdmPeakReport p.num) 0).setReg .a (Reg.gdmPeakView p.num) 3

/-- Bits of BOOT.CAUSE (R73). -/
def causePor : Nat := 1
def causePin : Nat := 2
def causeWake : Nat := 4
def causePeak : Nat := 8
def causeLifecycle : Nat := 16

/-- A Peak leaves reset (R54, R346, R349): its boot controller begins. -/
def peakRelease (p : PeakId) (cause : Nat) (s : State) : State :=
  let s := peakReset p s
  let s := s.setPeak p { s.peak p with up := true, releasedAt := s.tick }
  let s := { s with power := { s.power with boot := s.power.boot.set p .r0, joinAt := s.power.joinAt.set p none } }
  (s.setReg p Reg.bootCause cause).setFld p Fd.bstStatusBusy 1

/-! ### The baton (R22 to R25, R286) -/

/-- One move more of the baton. -/
def batonMoved (s : State) : State :=
  let n := min (s.fld .a Fd.pwmBatonMoves + 1) 0xFFFF
  (s.setFld .a Fd.pwmBatonMoves n).setBit .a Fd.pwmBatonSat (decide (n = 0xFFFF))

/-- Late buffers and staging sets are emptied (R286). -/
def lateDrop (s : State) : State :=
  let any := (List.range 32).any (fun c => (s.chan c).late.isSome || (s.chan c).staged.isSome) ||
    (List.range 8).any (fun t => (s.tb t).latePrd.isSome) || legNumbers.any (fun n => (s.leg n).late.isSome)
  if any then
    let s := forAll (List.range 32) (fun c s => s.setChan c {}) s
    let s := forAll (List.range 8) (fun t s => s.setTb t { s.tb t with latePrd := none }) s
    let s := forAll legNumbers (fun n s => s.setLeg n { s.leg n with late := none }) s
    s.raise .a Fd.pwmFlagsLateDropped
  else s

/-- At a strobe the baton sets off to a Peak. -/
def batonTo (p : PeakId) (s : State) : State :=
  if s.holder = p.num then s
  else
    let s := (lateDrop s).setFld .a Fd.pwmBatonHolder 2
    { s with saddle := { s.saddle with flight := some p } }

/-- The flight ends. -/
def batonLand (s : State) : State :=
  match s.saddle.flight with
  | none => s
  | some p =>
    let s := { s with saddle := { s.saddle with flight := none } }
    batonMoved ((lateDrop s).setFld .a Fd.pwmBatonHolder p.num)

/-- The Gendarme takes the baton at once (R23, R25). -/
def batonTake (s : State) : State :=
  let s := { s with saddle := { s.saddle with flight := none } }
  if s.holder = 3 then s else batonMoved ((lateDrop s).setFld .a Fd.pwmBatonHolder 3)

def execBatonFlightEnd (s : State) : Out := .next (batonLand s)

/-! ### Engine and loop images (R330, R340) -/

/-- The words of an engine's window that its next step continues from: filtered P and Q, DELTA and DW_R (R234, R245). -/
def engCarried (e : Nat) : List Nat := [Reg.rdgEngP e, Reg.rdgEngQ e, Reg.rdgEngDelta e, Reg.rdgEngDwR e]

/-- STATUS without REFUSE: modes, waits and holds (R250). -/
def engStatus (s : State) (p : PeakId) (e : Nat) : Nat := s.reg p (Reg.rdgEngStatus e) % 2 ^ 16

/-- What an engine carries from step to step in its hidden state, as numbers. -/
def Eng.image (g : Eng) : List Nat :=
  [g.keeper, g.keepTick, g.inc, g.incNext, g.omega.toNat, g.omegaV.toNat, g.deltaPrev.toNat, g.xPll.toNat, g.eMag.toNat, g.omegaIn.toNat,
    g.v1.d.toNat, g.v1.q.toNat, g.v2.d.toNat, g.v2.q.toNat, g.i1m.d.toNat, g.i1m.q.toNat, g.i2m.d.toNat, g.i2m.q.toNat,
    g.tr.d.toNat, g.tr.q.toNat, g.trLeft.toNat, if g.trPend then 1 else 0, if g.trFollow then 1 else 0, g.emf.d.toNat, g.emf.q.toNat,
    g.i1.d.toNat, g.i1.q.toNat, g.limCount, g.clearCount, g.recovered.toNat]

/-- Word j of an engine's STATE words (R250): 0 before anything has changed, else a word that the spec does not lay out. -/
def engWord (s : State) (p : PeakId) (e j : Nat) : Word :=
  let l := engStatus s p e :: (s.eng p e).image ++ (engCarried e).map (s.reg p)
  if l.all (fun n => decide (n = 0)) then 0 else Config.engState l j

/-- The 16 words of a loop's image (R330). -/
def loopWords (s : State) (p : PeakId) (m : Nat) : List Nat :=
  let l := s.loop p m
  let f := match l.fade with
    | some (k, n, _) => k % 2 ^ 16 + n % 2 ^ 16 * 2 ^ 16
    | none => 0
  let q := s.fld p (Fd.swbLoopStatusQueued m) + 2 * s.fld p (Fd.swbLoopStatusQueueBank m) + 4 * s.fld p (Fd.swbLoopStatusHalted m)
  s.reg p (Reg.swbLoopStatus m) :: (List.range 8).map (fun j => s.reg p (Reg.swbLoopRef m + 4 * j)) ++ [l.haltRef.toNat, f, q, 0, 0, 0, 0]

/-- SIG of a heartbeat (R330): over every running engine, then every running loop. -/
def signature (p : PeakId) (s : State) : Word :=
  let e := ((List.range 8).filter (fun e => decide (s.engMode p e ≠ mOff))).flatMap (fun e => (List.range 128).map (fun j => (engWord s p e j).toNat))
  let l := ((List.range 64).filter (loopRuns s p)).flatMap (loopWords s p)
  BitVec.ofNat 32 (crc32 ((e ++ l).flatMap wordBytes))

/-! ### What a copy carries (R340, R341, R343) -/

/-- The state of one engine from Peak p to the other: what one step leaves for the next, with the mode it stands in. -/
def copyEngine (p : PeakId) (e : Nat) (s : State) : State :=
  let q := p.other
  let g := s.eng p e
  let t := s.eng q e
  let s := s.setEng q e { g with tb := t.tb, keeperSet := t.keeperSet, running := t.running, start := t.start, due := t.due, twice := t.twice, stepped := t.stepped
                                 late := t.late, cmd := t.cmd, bsMoved := t.bsMoved }
  let s := s.setReg q (Reg.rdgEngStatus e) (s.reg p (Reg.rdgEngStatus e))
  let s := setBitOf q Fd.rdgStatusRunning e (decide (s.engMode p e ≠ mOff)) s
  let s := setBitOf q Fd.rdgStatusFault e (decide (5 ≤ s.engMode p e)) s
  let s := forAll (engCarried e) (fun a s => s.setReg q a (s.reg p a)) s
  let pub := Tab.get (fun _ => (0, 0, 0)) (s.peak p).cln.pubs e
  if Tab.get (fun _ => (0, 0, 0)) (s.peak q).cln.pubs e = pub then s else rsPublish q e pub.1 pub.2.1 pub.2.2 s

/-- The state of one loop: STATUS, the words 0x080 to 0x09C, and what the image's further words say. -/
def copyLoop (p : PeakId) (m : Nat) (s : State) : State :=
  let q := p.other
  let l := s.loop p m
  let s := s.setLoop q m { s.loop q m with fade := l.fade, nextFade := l.nextFade, haltRef := l.haltRef }
  let s := s.setReg q (Reg.swbLoopStatus m) (s.reg p (Reg.swbLoopStatus m))
  let s := forAll (List.range 8) (fun j s => s.setReg q (Reg.swbLoopRef m + 4 * j) (s.reg p (Reg.swbLoopRef m + 4 * j))) s
  let s := setLoHi q Reg.swbRunLo Reg.swbRunHi m (loopRuns s p m) s
  setLoHi q Reg.swbTripLo Reg.swbTripHi m (s.bit p (Fd.swbLoopStatusTripped m)) s

def copyEngines (p : PeakId) (s : State) : State := forAll (List.range 8) (copyEngine p) s
def copyLoops (p : PeakId) (s : State) : State := forAll (List.range 64) (copyLoop p) s

/-- While a copy runs, what the source's steps of the closing period left takes effect in the target after its own steps and before the wrap
(R341). -/
def mirrorSteps (tb : Nat) (s : State) : State :=
  bothPeaks (fun p s =>
    if s.copying p then
      let s := forAll (List.range 8) (fun e s => if (s.eng p e).tb = tb ∧ (s.eng p e).stepped = true then copyEngine p e s else s) s
      forAll (List.range 64) (fun m s => if (s.loop p m).tb = tb ∧ (s.loop p m).stepped = true then copyLoop p m s else s) s
    else s) s

/-- Test generators: their run, count and results. -/
def copyTgs (p : PeakId) (s : State) : State :=
  let q := p.other
  forAll (List.range 4) (fun g s =>
    let s := s.setTg q g (s.tg p g)
    forAll [Reg.swbTgCtrl g, Reg.swbTgStatus g, Reg.swbTgCount g, Reg.swbTgResMi g, Reg.swbTgResMq g, Reg.swbTgResAi g, Reg.swbTgResAq g, Reg.swbTgWptr g]
      (fun a s => s.setReg q a (s.reg p a)) s) s

/-- Traverse release state: every task's wait latches, every frame task's next release and LAG, with STAT.CATCHUP as it shows it. -/
def copyTasks (p : PeakId) (s : State) : State :=
  let q := p.other
  trvRefresh q (forAll ((s.loaded q).filter (fun n => (s.loaded p).contains n)) (fun n s =>
    let t := s.task p n
    let u := s.task q n
    if isFrame n then
      let s := s.setTask q n { u with wait := t.wait, b0 := t.b0, released := t.released, k := t.k, tk := t.tk, ek := t.ek }
      let s := s.setReg q (Reg.trvTaskLag n) (s.reg p (Reg.trvTaskLag n))
      s.setBit q (Fd.trvTaskStatCatchup n) (decide (s.reg p (Reg.trvTaskLag n) ≠ 0))
    else s.setTask q n { u with wait := t.wait }) s)

def copyRegions (p : PeakId) (s : State) : State :=
  forAll (carried p s) (fun e s => s.setByteList (carryKey p.other e.1 e.2.1) (s.byteList (carryKey p e.1 e.2.1) e.2.2)) s

/-- When a copy ends, every copied word in the target equals the source (R341). -/
def copyAll (p : PeakId) (s : State) : State := copyRegions p (copyTasks p (copyTgs p (copyLoops p (copyEngines p s))))

/-- The timebases on which Peak p's integrators wait for their wraps. -/
def meanTbs (p : PeakId) (s : State) : List Nat :=
  (List.range 8).filter (fun tb => (List.range 48).any (fun i => s.bit p (Fd.clnInCtrlMeanRun i) && decide (s.fld p (Fd.clnInCfgMeanTb i) = tb)))

/-- A wrap or start of a timebase brings a JOIN copy nearer to the instant of R343: the second one of every integrator's timebase counts. -/
def joinWrap (tb : Nat) (s : State) : State :=
  match s.gdm.copy with
  | some c =>
    match Tab.get (fun _ => 0) c.wraps tb with
    | 0 => s
    | n + 1 =>
      let c := { c with wraps := Tab.put (fun _ => 0) c.wraps tb n, sameAt := if n = 0 then max c.sameAt s.tick else c.sameAt }
      { s with gdm := { s.gdm with copy := some c } }
  | none => s

/-- Has the instant come from which the target's Couloir outputs are bit-identical (R343)? An integrator whose timebase stands holds nothing back
(DEDUCED, assumption 146). -/
def Copy.same (c : Copy) (s : State) : Bool :=
  decide (c.sameAt ≤ s.tick) && (List.range 8).all (fun tb => decide (Tab.get (fun _ => 0) c.wraps tb = 0) || !s.bit .a (Fd.pwmTbStatusRun tb))

/-- At the start of a JOIN copy the target's Couloir joins the source's decimation, integrators and resampler groups. Its dispatch is held, and
starts that wait in it are dropped, since it resumes with starts that fire after the sync strobe (R343, R344). -/
def joinStart (p : PeakId) (s : State) : State :=
  let q := p.other
  let s := forAll (List.range 48) (fun i s =>
    let s := if s.bit p (Fd.clnInCtrlFineRun i) then
        let c := s.chain q i
        let f := (s.chain p i).fine
        let s := s.setChain q i { c with fine := { f with start := some s.tick, valid := c.fine.valid, ready := [], hist := [], rsReph := none } }
        let s := s.setSlot q i 2 (outWord (wordValue (s.slot q i 2)) 5 false false false)
        (s.setFld q (Fd.clnInStatusFineValid i) 0).setFld q (Fd.clnInCtrlFineRun i) 1
      else s
    if s.bit p (Fd.clnInCtrlMeanRun i) then (s.setChain q i { s.chain q i with mean := {} }).setFld q (Fd.clnInCtrlMeanRun i) 1 else s) s
  let s := forAll (List.range 8) (fun g s =>
    if s.bit p (Fd.clnRsgCtrlRun g) then
      let s := s.setRsg q g (s.rsg p g)
      rsRange q g ((s.setFld q (Fd.clnRsgCtrlRun g) 1).setFld q (Fd.clnRsgStatusRunning g) 1)
    else s) s
  let s := forAll (s.loaded q) (fun n s => (s.setFld q (Fd.trvTaskStatPending n) 0).setTask q n { s.task q n with latchLate := false }) s
  s.setPeak q { s.peak q with held := true }

end Sys2Proof.Machine
end

