-- ==== Sys2Proof/Machine/Gendarme.lean ====
section
/-! DEFINITION. The Gendarme's arbiter: strobes, heartbeats, verdicts and decisions, failover, copies, start and rejoin, return home and the
safe state (R327 to R352), with what the safety kernel ends in the safe state (R357, R368). -/

namespace Sys2Proof.Machine

/-! ### Roles and records -/

def setRole (p : PeakId) (r : Nat) (s : State) : State := s.setFld .a (roleFld p) r

/-- The ACTIVE Peak. -/
def State.active (s : State) : Option PeakId :=
  if s.role .a = 0 then some .a else if s.role .b = 0 then some .b else none

def State.safe (s : State) : Bool := s.bit .a Fd.gdmStatusSafe
def State.synced (s : State) : Bool := s.bit .a Fd.gdmStatusSynced
/-- The home Peak (GDM.CFG.HOME). -/
def State.home (s : State) : PeakId := PeakId.ofNum (s.fld .a Fd.gdmCfgHome)

/-- Is the Gendarme silent: no running Peak receives its acknowledgements (R350)? -/
def State.gdmSilent (s : State) : Bool :=
  ((s.peak .a).up || (s.peak .b).up) &&
    [PeakId.a, PeakId.b].all (fun p => !(s.peak p).up || s.bit .a (Fd.gdmPeakViewSilent p.num))

/-- Has a span of `n` ticks passed since `start` on the Gendarme's oscillator, which is true to ±2 % (R347)? -/
def State.gdmPast (s : State) (start n : Nat) : Bool := decide (start * 100 + n * 98 ≤ s.tick * 100)

/-- GDM.LAST (R352). -/
def gdmLast (cause : Nat) (p : PeakId) (action : Nat) (s : State) : State :=
  s.setReg .a Reg.gdmLast (s.gdm.seq * 2 ^ 16 + cause * 2 ^ 8 + p.num * 2 ^ 4 + action)

/-- Roles have changed: each running Peak's VIEW follows, EV_GDM_ROLE fires, and the trace shows it (R328, R442, R447). -/
def announce (s : State) : State :=
  let s := bothPeaks (fun p s => if (s.peak p).up then s.setFld .a (Fd.gdmPeakViewRole p.num) (s.role p) else s) s
  let s := bothPeaks (fun p s => tracePut p 6
    (p.num * 2 ^ 27 + s.holder * 2 ^ 24 + s.role .a * 2 ^ 22 + s.role .b * 2 ^ 20 + s.stamp) s) s
  gwPend Fd.colGwIntPendRole (fireBoth Ev.gdmRole s)

/-! ### Host commands -/

/-- A command ends with a code (R352). -/
def gdmResult (code : Nat) (s : State) : State :=
  let s := s.setFld .a Fd.gdmCmdStatusResult code
  if code = 0 then s else s.raise .a Fd.gdmFlagsCmdRefused

/-- The copy of a SWAP or RESYNC command is over. -/
def cmdOver (code : Nat) (s : State) : State :=
  match s.gdm.cmd with
  | some _ => gdmResult code { (s.setFld .a Fd.gdmCmdStatusBusy 0) with gdm := { s.gdm with cmd := none } }
  | none => s

/-! ### The return-home hold (R347) -/

/-- May the hold run: the home Peak is STANDBY in lock-step, and no copy to it has begun? -/
def holdable (s : State) : Bool :=
  s.bit .a Fd.gdmCfgReturnEn && !s.safe && s.synced && decide (s.role s.home = 1) && match s.gdm.copy with
    | some c => decide (c.why ≠ .home)
    | none => true

/-- The hold restarts from zero where it may run. -/
def holdRestart (s : State) : State :=
  { (s.setBit .a Fd.gdmStatusHolding (holdable s)) with gdm := { s.gdm with hold := if holdable s then some s.tick else none } }

/-- The hold goes on, begins, or ends. -/
def holdKeep (s : State) : State := if holdable s && s.gdm.hold.isSome then s else holdRestart s

/-! ### State copies (R340 to R344) -/

def CopyFor.mode : CopyFor → Nat
  | .join => 1
  | _ => 2

/-- PEAK[x].COPY of both Peaks (R352). -/
def copyFields (c : Copy) (state result : Nat) (s : State) : State :=
  bothPeaks (fun p s => s.setReg .a (Reg.gdmPeakCopy p.num)
    (c.retries * 2 ^ 8 + result * 2 ^ 6 + c.why.mode * 2 ^ 4 + (if p = c.target then 0 else 8) + state)) s

/-- A copy ends without its effect. -/
def copyDrop (c : Copy) (result : Nat) (s : State) : State :=
  let s := (copyFields c 0 result s).setFld .a Fd.gdmStatusCopy 0
  cmdOver 5 { s with gdm := { s.gdm with copy := none } }

/-- A Peak leaves its role during a copy (R342). -/
def copyAbort (s : State) : State :=
  match s.gdm.copy with
  | some c => copyDrop c 3 s
  | none => s

/-- A copy that waits begins at the strobe (R342, R343, R347). A JOIN copy waits for 100 µs and for two wraps of every integrator's timebase. -/
def copyBegin (s : State) : State :=
  match s.gdm.copy with
  | some c =>
    if c.waiting then
      let join := decide (c.why = .join)
      let c := { c with waiting := false, complete := false, startAt := s.tick, sameAt := if join then s.tick + 40000 else s.tick
                        wraps := if join then (meanTbs c.target.other s).foldl (fun t tb => Tab.put (fun _ => 0) t tb 2) [] else [] }
      (copyFields c 1 0 { s with gdm := { s.gdm with copy := some c } }).setFld .a Fd.gdmStatusCopy 1
    else s
  | none => s

/-- The task instances that run in Peak p. -/
def runningTasks (p : PeakId) (s : State) : List (Nat × Nat) :=
  ((s.loaded p).filter (fun n => s.bit p (Fd.trvTaskStatRunning n))).map (fun n => (p.num, n))

/-- A complete copy ends at the strobe: every copied word in the target equals the source, and what asked for the copy follows (R342, R344,
R347). -/
def copyEnd (s : State) : State :=
  match s.gdm.copy with
  | some c =>
    if c.complete then
      let q := c.target
      let s := copyAll q.other s
      let s := (copyFields c 0 0 { s with gdm := { s.gdm with copy := none } }).setFld .a Fd.gdmStatusCopy 0
      let s := match c.why with
        | .join =>
          let s := { s with gdm := { s.gdm with mirrored := runningTasks q.other s, standbyAt := s.gdm.standbyAt.set q (some s.tick) } }
          let s := s.setPeak q { s.peak q with held := false }
          gdmLast 0 q 6 ((setRole q 1 s).setFld .a Fd.gdmStatusSynced 1)
        | .home => gdmLast 0 q 4 (batonTo q (setRole q 0 (setRole q.other 1 s)))
        | .swap => gdmLast 8 q 5 (batonTo q (setRole q 0 (setRole q.other 1 s)))
        | .resync => gdmLast (if s.gdm.cmd.isSome then 8 else 0) q 7 s
      holdKeep (cmdOver 0 s)
    else s
  | none => s

/-! ### FAILED (R327, R333, R335, R346) -/

def lockoutFld : PeakId → Fld
  | .a => Fd.gdmStatusLockoutA
  | .b => Fd.gdmStatusLockoutB

/-- A Peak is locked out until GDM.CMD REJOIN or RESTART. -/
def lockOut (p : PeakId) (s : State) : State :=
  ((s.setFld .a (Fd.gdmPeakFailRunLockout p.num) 1).setFld .a (lockoutFld p) 1).raise .a Fd.gdmFlagsLockout

def lockClear (p : PeakId) (s : State) : State := (s.setReg .a (Reg.gdmPeakFailRun p.num) 0).setFld .a (lockoutFld p) 0

/-- One failure more of a Peak: in the run of R346 where it comes before STANDBY or within HOLD_T of it. -/
def failRun (p : PeakId) (s : State) : State :=
  let early := match s.gdm.standbyAt.get p with
    | none => true
    | some t => decide (s.tick < t + s.fld .a Fd.gdmCfgHoldT * 400000000)
  let n := if early then min (s.fld .a (Fd.gdmPeakFailRunRun p.num) + 1) 3 else 0
  let s := s.setFld .a (Fd.gdmPeakFailRunRun p.num) n
  let s := { s with gdm := { s.gdm with standbyAt := s.gdm.standbyAt.set p none } }
  if n = 3 then lockOut p s else s

/-- A Peak is made FAILED and goes into reset at once. -/
def failPeak (p : PeakId) (cause action : Nat) (s : State) : State :=
  let s := peakReset p (failRun p (copyAbort s))
  let s := { s with gdm := { s.gdm with mirrored := [], grant := if s.gdm.grant = some p then none else s.gdm.grant } }
  let s := (setRole p 3 s).setFld .a Fd.gdmStatusSynced 0
  holdRestart (announce (gdmLast cause p action s))

/-- A failover decision (R335): the ACTIVE Peak is FAILED at once, the other takes over at the next strobe. -/
def failover (p : PeakId) (cause : Nat) (s : State) : State :=
  let s := { s with gdm := { s.gdm with grant := some p.other } }
  (failPeak p cause 2 (s.bump .a Fd.gdmFailoversCount Fd.gdmFailoversSat)).raise .a Fd.gdmFlagsFailover

/-! ### The safe state (R348, R349) -/

/-- All timebases stop at once, with no wrap; every pair and every Spur leg is disabled. A stopped Saddle stands still (R297). -/
def stopAll (s : State) : State :=
  if s.saddle.clock then
    let s := forAll (List.range 8) (fun t s =>
      let s := (s.setFld .a (Fd.pwmTbStatusRun t) 0).setFld .a (Fd.pwmTbStatusArmed t) 0
      meanStop t ((s.setReg .a (Reg.pwmTbCount t) 0).setTb t { s.tb t with stopping := false, plan := 0, hold := 0 })) s
    let s := forAll (List.range 32) (fun p s =>
      ((s.setFld .a (Fd.pwmPairCfgEn p) 0).setFld .a (Fd.pwmPairStatusActive p) 0).setPair p { s.pair p with en := false }) s
    forAll legNumbers legDisable (pairsDecide s)
  else s

/-- 600 s in ticks. -/
def restartSpan : Nat := 600 * 400000000

/-- The Gendarme enters the safe state. -/
def safeEnter (cause : Nat) (p : PeakId) (s : State) : State :=
  if s.safe then s
  else
    let s := cmdOver 5 (gdmLast cause p 3 ((s.setFld .a Fd.gdmStatusSafe 1).raise .a Fd.gdmFlagsSafeEntered))
    let s := copyAbort s
    let s := { s with gdm := { s.gdm with
      grant := none, hold := none, lolSince := none, standbyAt := ⟨none, none⟩, mirrored := [], diverged := false, divRun := 0,
      released := false, enteredAt := s.tick
      restarts := if s.gdm.safeAt + restartSpan ≤ s.tick then 0 else s.gdm.restarts } }
    let s := batonTake s
    let s := peakReset .b (peakReset .a s)
    let s := setRole .b 3 (setRole .a 3 s)
    let s := ((s.setFld .a Fd.gdmStatusSynced 0).setFld .a Fd.gdmStatusHolding 0).setFld .a Fd.gdmStatusCopy 0
    let s := stopAll s
    let s := { s with power := { s.power with pwrgd := false } }
    let s := gwPend Fd.colGwIntPendSafe (announce s)
    safChanged 6 0 (if bits (s.cfgWord 12) 26 26 = 1 then 2 else 0) s

/-- Does Peak p's PLL run at N = 160 with its core buck on? -/
def clocked (p : PeakId) (s : State) : Bool := decide (s.fld p Fd.clkStatusCurN = 160) && (s.pll p.num).locked

/-- A restart clocks and releases a Peak at once (R349), also one whose PLL and core buck were off (DEDUCED, assumption 104). -/
def peakClocked (p : PeakId) (s : State) : State :=
  if clocked p s then s
  else
    let s := (s.setReg p Reg.clkCtrl 160).setFld p Fd.clkStatusCurN 160
    let s := (s.setFld p Fd.clkStatusStepping 0).setPll p.num { locked := true }
    clkRefresh { s with power := { s.power with pllFail := s.power.pllFail.set p false } }

/-- Do the Peaks run, or may they: the device has passed its stages? -/
def State.running (s : State) : Bool := decide (s.power.phase = .running)

/-- The safe state is left (R349): every powered Peak is released, every lockout cleared, and a Cirque that stands is released too (R472). -/
def safeLeave (s : State) : State :=
  let s := lockClear .b (lockClear .a (s.setFld .a Fd.gdmStatusSafe 0))
  let s := { s with gdm := { s.gdm with safeAt := s.tick }
                    power := { s.power with merged := false, slot0 := none, slot1 := none, colBytes := [] } }
  let s := s.setGwFld ⟨Reg.colGwStatus, 1, 0⟩ 0
  let s := if s.domOk .a || s.domOk .b then s
    else cirqRelease (s.power.vauxA && (s.pll 3).locked) (s.power.vauxB && (s.pll 4).locked) s
  let s := bothPeaks (fun p s => if s.vaux p then peakRelease p causePeak (peakClocked p s) else s) s
  safChanged 0 0 0 s

/-- The conditions of R349 on a restart: 0 where it may be made, else the code of its refusal. -/
def restartCode (s : State) : Nat :=
  if !s.safe || !s.running then 2
  else if s.bit .a Fd.gdmStatusSaddleStop || !s.saddle.clock then 4
  else if s.bit .a Fd.safStatusKernelFault then 2 else 0

/-- The Gendarme restarts by itself, 100 ms after entry (R349). -/
def execAutoRestart (s : State) : Out :=
  .next (if s.gdmPast s.gdm.enteredAt 40000000 = true ∧ restartCode s = 0 ∧ s.bit .a Fd.gdmCfgAutoRestart = true ∧ s.gdm.restarts < 3 then
      safeLeave { s with gdm := { s.gdm with restarts := s.gdm.restarts + 1 } }
    else s)

/-! ### Strobes and heartbeats (R329, R330) -/

/-- The heartbeat of Peak p with strobe count `seq`. -/
def heartbeat (p : PeakId) (seq : Nat) (s : State) : Word × Word :=
  let pll := Tab.get (fun _ => {}) s.power.plls p.num
  let w := seq * 2 ^ 16 + s.gdm.viewNow.get p * 2 ^ 14 + (if s.gdm.seen.get p.other then 0 else 2 ^ 13) + (if (s.peak p).monSince then 2 ^ 12 else 0) +
    (if pll.coast && pll.lol then 2 ^ 11 else 0) + s.fld .a (Fd.gdmPeakReportFailReq p.num) * 2 ^ 10 + s.fld .a (Fd.gdmPeakReportReady p.num) * 2 ^ 9
  (BitVec.ofNat 32 w, signature p s)

/-- Does Peak p send heartbeats: it runs and has a role that is not FAILED? -/
def State.beats (s : State) (p : PeakId) : Bool := (s.peak p).up && decide (s.role p ≠ 3)

/-- Each Peak sends its heartbeat. Whether it reaches the other Peak through the Saddle is a free value (assumption 96). -/
def heartbeatsSend (seq : Nat) (s : State) : State :=
  let a := if s.beats .a then some (heartbeat .a seq s) else none
  let b := if s.beats .b then some (heartbeat .b seq s) else none
  let s := { s with free := s.free + 2
                    gdm := { s.gdm with sent := ⟨a, b⟩, got := ⟨none, none⟩, seq := seq, window := true, expect := ⟨s.role .a, s.role .b⟩
                                        seen := ⟨a.isSome && Config.freeBool s.free, b.isSome && Config.freeBool (s.free + 1)⟩ } }
  bothPeaks (fun p s => if s.beats p then s.setPeak p { s.peak p with monSince := false, silent := (s.peak p).silent + 1 } else s) s

/-- A FAILED Peak whose handover is complete becomes RECOVERING at the strobe (R345). -/
def recovers (s : State) (p : PeakId) : Bool := decide (s.role p = 3) && (s.peak p).up && decide (s.power.boot.get p = .done)

/-- The start rule (R345) on the roles `r`: the Peak that becomes ACTIVE. -/
def startPick (r : PeakId → Nat) (s : State) : Option PeakId :=
  let h := s.home
  let ready := fun p => decide (r p = 2) && s.bit .a (Fd.gdmPeakReportReady p.num)
  if (decide (r .a = 0) || decide (r .b = 0)) || s.safe || s.gdm.grant.isSome then none
  else if ready h then some h
  else if ready h.other && ((decide (r h = 3) && !(s.peak h).up) || s.gdm.waited.get h) then some h.other
  else none

def startRule (s : State) : Option PeakId := startPick s.role s

/-- A Peak is granted the baton as ACTIVE. -/
def grantTo (p : PeakId) (s : State) : State :=
  let s := { s with gdm := { s.gdm with grant := none
                                        standbyAt := s.gdm.standbyAt.set p (some ((s.gdm.standbyAt.get p).getD s.tick)) } }
  batonTo p (setRole p 0 s)

/-- The role changes of a strobe (R328, R335, R342, R345, R347); none while the Gendarme is silent (R350). -/
def strobeRoles (s : State) : State :=
  if s.gdmSilent then s
  else
    let s := bothPeaks (fun p s => if recovers s p then setRole p 2 s else s) s
    let s := copyEnd s
    let s := match s.gdm.grant with
      | some p => grantTo p s
      | none => s
    match startRule s with
    | some p => gdmLast 0 p 8 (grantTo p s)
    | none => s

/-- A JOIN copy starts at the first strobe after the RECOVERING Peak reports READY (R343), and a copy that waits starts; none does while the
Gendarme is silent (R350). -/
def strobeCopies (s : State) : State :=
  if s.gdmSilent then s
  else match s.gdm.copy, s.active with
    | none, some p =>
      if s.role p.other = 2 ∧ s.bit .a (Fd.gdmPeakReportReady p.other.num) = true then
        copyBegin (joinStart p { s with gdm := { s.gdm with copy := some { target := p.other, why := .join } } })
      else s
    | some _, some _ => copyBegin s
    | _, none => s

/-- The inhibit is released at the grant, or at the first strobe at which R84 allows it (R345). -/
def inhibitRelease (s : State) : State :=
  if s.active.isSome && !s.gdm.released && r84 s && !s.safe && !s.gdmSilent then safChanged 0 0 0 { s with gdm := { s.gdm with released := true } } else s

/-- A strobe. -/
def strobeNow (s : State) : State :=
  let seq := match s.saddle.strobe with
    | none => 0
    | some n => (n + 1) % 2 ^ 16
  let s := heartbeatsSend seq { s with saddle := { s.saddle with strobe := some seq } }
  let s := bothPeaks (throttleDeliver (s.fld .a Fd.thmStatusScale)) s
  let old := (s.role .a, s.role .b)
  let s := strobeCopies (strobeRoles s)
  let s := if old = (s.role .a, s.role .b) then s else announce s
  let s := holdKeep (inhibitRelease s)
  { s with gdm := { s.gdm with viewNow := ⟨s.fld .a (Fd.gdmPeakViewRole 0), s.fld .a (Fd.gdmPeakViewRole 1)⟩ } }

/-- A strobe at a wrap or start of the period timebase: that timebase runs, or has stopped in this tick. -/
def execStrobe (s : State) : Out :=
  .next (if s.saddle.clock && (s.tbRuns s.periodTb || decide (s.wrapOf s.periodTb = s.tick)) then strobeNow s else s)

/-- A strobe of the idle series, while the period timebase is stopped. -/
def execIdleStrobe (s : State) : Out := .next (if s.saddle.clock && !s.tbRuns s.periodTb then strobeNow s else s)

/-! ### Divergence (R337 to R339) -/

/-- A divergence of strobe `seq`. -/
def divergence (seq kind chan : Nat) (s : State) : State :=
  let s := if s.bit .a Fd.gdmFlagsDiverged then s else s.setReg .a Reg.gdmDivFirst (seq * 2 ^ 16 + kind * 2 ^ 8 + chan)
  let s := fireBoth Ev.gdmDiv (s.raise .a Fd.gdmFlagsDiverged)
  holdRestart (gwPend Fd.colGwIntPendDiv { s with gdm := { s.gdm with diverged := true } })

/-- Is one Peak ACTIVE and the other STANDBY in lock-step? -/
def inLockstep (s : State) : Bool :=
  s.synced && ((decide (s.role .a = 0) && decide (s.role .b = 1)) || (decide (s.role .b = 0) && decide (s.role .a = 1)))

/-- At a wrap of the period timebase the Saddle compares the Peaks' shadow writes since the previous wrap (R337). -/
def outputCompare (s : State) : State :=
  let w := s.saddle.wrote
  let at_ := fun p c => Tab.get (fun _ => none) (w.get p) c
  let first := (List.range 39).find? (fun c => decide (at_ .a c ≠ at_ .b c))
  let s := { s with saddle := { s.saddle with wrote := ⟨[], []⟩ } }
  match first with
  | some c =>
    if inLockstep s then
      let seq := match s.saddle.strobe with
        | none => 0
        | some n => (n + 1) % 2 ^ 16
      divergence seq 1 c (s.bump .a Fd.gdmDivOutCount Fd.gdmDivOutSat)
    else s
  | none => s

/-! ### Verdicts and decisions (R331 to R334, R351) -/

/-- A heartbeat reaches the Gendarme. -/
def heartbeatReceive (p : PeakId) (s : State) : State :=
  match s.gdm.sent.get p with
  | none => s
  | some h =>
    let s := { s with gdm := { s.gdm with sent := s.gdm.sent.set p none, got := if s.gdm.window then s.gdm.got.set p (some h) else s.gdm.got } }
    let s := (s.setRegW (regKey .a (Reg.gdmPeakHb0 p.num)) h.1).setRegW (regKey .a (Reg.gdmPeakHb1 p.num)) h.2
    if bits h.1.toNat 13 13 = 1 then (s.bump .a Fd.gdmPeerClaimsCount Fd.gdmPeerClaimsSat).raise .a Fd.gdmFlagsPeerClaim else s

def execHeartbeatReceive (p : PeakId) (s : State) : Out := .next (heartbeatReceive p s)

/-- Is Peak p judged at this window close? -/
def judged (s : State) (p : PeakId) : Bool := decide (s.gdm.expect.get p ≠ 3) && decide (s.role p ≠ 3)

/-- Bit [11] of the heartbeat received from Peak p. -/
def lolBeat (s : State) (p : PeakId) : Bool :=
  match s.gdm.got.get p with
  | some h => decide (bits h.1.toNat 11 11 = 1)
  | none => false

/-- The verdict on Peak p, 0 GOOD, 1 LOST, 2 SICK, 3 none, and its cause. LOL stands last, so its cause means LOL alone. -/
def verdict (s : State) (p : PeakId) : Nat × Nat :=
  if judged s p = false then (3, 0)
  else match s.gdm.got.get p with
    | none => (1, 1)
    | some h =>
      let w := h.1.toNat
      if bits w 31 16 ≠ s.gdm.seq then (1, 2)
      else if bits w 15 14 ≠ s.gdm.expect.get p then (1, 3)
      else if s.vaux p = false then (1, 4)
      else if bits w 12 12 = 1 then (2, 5)
      else if bits w 10 10 = 1 then (2, 6)
      else if s.gdm.failCmd.get p then (2, 8)
      else if bits w 11 11 = 1 then (2, 7)
      else (0, 0)

/-- LOST or SICK. -/
def isBad (v : Nat × Nat) : Bool := decide (v.1 = 1) || decide (v.1 = 2)

/-- A verdict is recorded (R331, R352). -/
def verdictNote (p : PeakId) (v : Nat × Nat) (s : State) : State :=
  let s := s.setReg .a (Reg.gdmPeakVerdict p.num) (v.1 + v.2 * 2 ^ 8)
  let s := { s with gdm := { s.gdm with failCmd := s.gdm.failCmd.set p false } }
  if v.1 = 1 then s.bump .a (Fd.gdmPeakMissesCount p.num) (Fd.gdmPeakMissesSat p.num) else s

/-- The decision table (R333, R334). -/
def decideRoles (va vb : Nat × Nat) (s : State) : State :=
  match s.active with
  | none => s
  | some p =>
    let v := fun (q : PeakId) => match q with
      | .a => va
      | .b => vb
    let o := p.other
    let goodStandby := decide (s.role o = 1) && decide ((v o).1 = 0)
    if !isBad (v p) || (decide (v p = (2, 7)) && !goodStandby) then
      (if isBad (v o) then failPeak o (v o).2 1 s else s)
    else if goodStandby then failover p (v p).2 s
    else safeEnter (v p).2 p s

/-- The Gendarme compares the SIG fields of one strobe (R338), and diverging strobes in a row order a resync (R339). -/
def stateCompare (s : State) : State :=
  let differ := match s.gdm.got.a, s.gdm.got.b with
    | some x, some y => decide (x.2 ≠ y.2)
    | _, _ => false
  let s := if inLockstep s && differ then divergence s.gdm.seq 2 127 (s.bump .a Fd.gdmDivStateCount Fd.gdmDivStateSat) else s
  let n := if s.gdm.diverged then s.gdm.divRun + 1 else 0
  let want := s.fld .a Fd.gdmCfgDivResync
  let s := { s with gdm := { s.gdm with diverged := false, divRun := n } }
  match s.active with
  | some p =>
    if want ≠ 0 ∧ want ≤ n ∧ inLockstep s = true ∧ s.gdm.copy = none ∧ s.gdmSilent = false then
      { s with gdm := { s.gdm with divRun := 0, copy := some { target := p.other, why := .resync } } }
    else s
  | none => s

/-- The role that Peak p is to hold from the next strobe (R332), as matters stand: by the grant, a complete copy, the start rule, or its own
handover. -/
def nextRole (s : State) (p : PeakId) : Nat :=
  let r := fun q => if recovers s q then 2 else s.role q
  let held := match s.gdm.copy with
    | some c => if !c.complete then r else match c.why with
      | .join => fun q => if q = c.target then 1 else r q
      | .resync => r
      | _ => fun q => if q = c.target then 0 else 1
    | none => r
  if s.gdmSilent then s.role p
  else if s.gdm.grant = some p then 0
  else if startPick held s = some p then 0
  else held p

/-- Acknowledgements set off. -/
def acksSend (s : State) : State :=
  let f := fun p => if (s.peak p).up then some (s.gdm.seq, nextRole s p) else none
  { s with gdm := { s.gdm with acks := ⟨f .a, f .b⟩ } }

/-- A decision that falls between a window's close and the strobe sets off a new acknowledgement for each Peak whose next role it changes (R332):
the completion of a copy, of a boot, a READY report (DEDUCED, assumption 147). -/
def acksAgain (old s : State) : State :=
  if s.gdm.window then s
  else
    let f := fun p => if (s.peak p).up && decide (nextRole s p ≠ nextRole old p) then some (s.gdm.seq, nextRole s p) else s.gdm.acks.get p
    { s with gdm := { s.gdm with acks := ⟨f .a, f .b⟩ } }

/-! ### What the host's commands do (R346 to R349, R352) -/

/-- A FAILED Peak that may rejoin is released, or, with its core buck or PLL off, begins to pass the instants of R54 alone (R346). It comes out of
reset with CAUSE.PEAK alone, whatever reset first held it (DESIGN CHOICE, assumption 148: R65 does not say for a Peak left out of a start). -/
def rejoin (p : PeakId) (s : State) : State :=
  if s.vaux p && !(s.peak p).up && s.running && decide (s.power.joinAt.get p = none) then
    if clocked p s then peakRelease p causePeak s
    else { s with power := { s.power with joinAt := s.power.joinAt.set p (some 0), pllFail := s.power.pllFail.set p false } }
  else s

/-- SWAP and RESYNC: a running copy to the STANDBY Peak. -/
def cmdCopy (op : Nat) (why : CopyFor) (s : State) : State :=
  match s.active with
  | some p =>
    if inLockstep s = false ∨ s.safe = true ∨ s.gdm.grant.isSome = true then gdmResult 2 s
    else if s.gdm.copy.isSome then gdmResult 3 s
    else
      let s := (s.setFld .a Fd.gdmCmdStatusBusy 1).setFld .a Fd.gdmCmdStatusResult 0
      { s with gdm := { s.gdm with cmd := some op, copy := some { target := p.other, why := why } } }
  | none => gdmResult 2 s

def cmdFail (p : PeakId) (s : State) : State :=
  if s.role p = 3 then gdmResult 2 s
  else gdmResult 0 { s with gdm := { s.gdm with failCmd := s.gdm.failCmd.set p true } }

def cmdRejoin (p : PeakId) (s : State) : State :=
  if s.role p ≠ 3 ∨ s.safe = true ∨ (s.peak p).up = true ∨ s.running = false then gdmResult 2 s
  else gdmResult 0 (rejoin p (lockClear p s))

def cmdRestart (s : State) : State :=
  if restartCode s = 0 then gdmResult 0 (safeLeave s) else gdmResult (restartCode s) s

/-- A command is examined: its key, BUSY, which SAFE does not heed (R348), and its operation; one of no row is not allowed. A silent Gendarme and a
RETIRED device answer none (R78, R350). -/
def gdmDo (c : GdmAsk) (s : State) : State :=
  if gdmAnswers s = false ∨ s.gdmSilent = true then s
  else if c.key ≠ 0x6D1A then gdmResult 1 s
  else if s.bit .a Fd.gdmCmdStatusBusy = true ∧ c.op ≠ 5 then gdmResult 3 s
  else match c.op with
    | 1 => cmdCopy 1 .swap s
    | 2 => cmdFail c.peak s
    | 3 => cmdRejoin c.peak s
    | 4 => cmdRestart s
    | 5 => gdmResult 0 (safeEnter 8 (s.active.getD .a) s)
    | 6 => cmdCopy 6 .resync s
    | _ => gdmResult 2 s

/-- The window closes: verdicts, the decision table, and last the host's commands against the roles that it leaves (R351). -/
def windowClose (s : State) : State :=
  if s.gdm.window then
    let va := verdict s .a
    let vb := verdict s .b
    let lol := match s.active with
      | some p => if lolBeat s p then some (s.gdm.lolSince.getD s.tick) else none
      | none => none
    let s := { s with gdm := { s.gdm with window := false, lolSince := lol } }
    let s := verdictNote .b vb (verdictNote .a va s)
    let s := if isBad va || isBad vb then holdRestart s else s
    let s := if s.gdmSilent then s else decideRoles va vb s
    let s := holdKeep (stateCompare s)
    acksSend (forAll s.gdm.asked gdmDo { s with gdm := { s.gdm with asked := [] } })
  else s

def execHeartbeatWindowClose (s : State) : Out := .next (windowClose s)

/-- LOL is still reported 10 ms after its first heartbeat (R334). -/
def execLolGraceExpiry (s : State) : Out :=
  .next (match s.gdm.lolSince, s.active with
    | some t, some p => if s.tick < t + 4000000 ∨ s.gdmSilent = true then s else safeEnter 7 p s
    | _, _ => s)

/-- A Peak receives an acknowledgement (R332, R350). -/
def execAckReceive (p : PeakId) (s : State) : Out :=
  .next (match s.gdm.acks.get p with
    | some a =>
      let s := { s with gdm := { s.gdm with acks := s.gdm.acks.set p none } }
      if (s.peak p).up then
        let s := s.setReg .a (Reg.gdmPeakView p.num) (a.1 * 2 ^ 16 + a.2)
        s.setPeak p { s.peak p with silent := 0 }
      else s
    | none => s)

/-- Three strobes in a row brought no acknowledgement (R350). -/
def execGendarmeSilent (p : PeakId) (s : State) : Out :=
  .next (if (s.peak p).up && decide (3 ≤ (s.peak p).silent) && !s.bit .a (Fd.gdmPeakViewSilent p.num) then
      fire p Ev.gdmSilent (s.setFld .a (Fd.gdmPeakViewSilent p.num) 1)
    else s)

/-! ### The ends of copies and waits -/

/-- The bulk transfer is done and the mirror queue is empty; a JOIN copy does not complete before the instant of R343. -/
def execCopyComplete (s : State) : Out :=
  .next (match s.gdm.copy with
    | some c => if c.waiting || c.complete || s.gdmSilent || !c.same s then s
      else acksAgain s (copyFields c 3 0 { s with gdm := { s.gdm with copy := some { c with complete := true } } })
    | none => s)

/-- A copy aborts with a result (R342): it restarts at the next strobe, up to three times. -/
def copyRetry (result : Nat) (s : State) : State :=
  match s.gdm.copy with
  | some c =>
    if c.waiting then s
    else if c.retries < 3 then
      let c := { c with retries := c.retries + 1, waiting := true, complete := false }
      (copyFields c 0 result { s with gdm := { s.gdm with copy := some c } }).setFld .a Fd.gdmStatusCopy 0
    else
      let s := (copyDrop c result s).raise .a Fd.gdmFlagsCopyFail
      match c.why with
      | .join => failPeak c.target 0xC 1 s
      | _ => holdRestart s
  | none => s

/-- The mirror queue overflows, which it can until mirroring stops at the strobe. -/
def execCopyOverflow (s : State) : Out := .next (copyRetry 1 s)

/-- 200 µs have passed since the copy's start, or since the instant of R343, and it is not complete. -/
def execCopyTimeout (s : State) : Out :=
  .next (match s.gdm.copy with
    | some c => if c.complete || !c.same s || decide (s.tick < c.sameAt + 80000) then s else copyRetry 2 s
    | none => s)

/-- HOLD_T has passed with the home Peak a GOOD STANDBY (R347). -/
def execReturnHoldExpiry (s : State) : Out :=
  .next (match s.gdm.hold with
    | some t => if holdable s && s.gdm.copy.isNone && !s.gdmSilent && s.gdmPast t (s.fld .a Fd.gdmCfgHoldT * 400000000) then
        { (s.setFld .a Fd.gdmStatusHolding 0) with gdm := { s.gdm with hold := none, copy := some { target := s.home, why := .home } } }
      else s
    | none => s)

def startWaited (p : PeakId) (s : State) : State := { s with gdm := { s.gdm with waited := s.gdm.waited.set p true } }

/-- A Peak that has not reported READY by then is FAILED. -/
def readyCheck (p : PeakId) (s : State) : State :=
  if (s.role p = 2 ∨ s.role p = 3) ∧ s.bit .a (Fd.gdmPeakReportReady p.num) = false then failPeak p 0xA 1 s else s

/-- GDM.START_WAIT in ticks. -/
def startWait (s : State) : Nat := s.reg .a Reg.gdmStartWait % 2 ^ 14 * 400000

/-- START_WAIT has passed since a Peak's handover (R345). -/
def execStartWaitExpiry (p : PeakId) (s : State) : Out :=
  .next (if (s.peak p).up && decide (s.power.boot.get p = .done) && !s.gdmSilent && s.gdmPast (s.gdm.handoverAt.get p) (startWait s) then
      acksAgain s (readyCheck p (startWaited p s))
    else s)


/-- 10 ms after a Peak became FAILED (R346). -/
def execAutoRejoinRelease (p : PeakId) (s : State) : Out :=
  .next (if s.bit .a Fd.gdmCfgAutoRejoin && decide (s.role p = 3) && !s.bit .a (lockoutFld p) && !s.safe && !s.gdmSilent &&
      s.gdmPast (s.gdm.failedAt.get p) 4000000 then rejoin p s else s)

/-- A joiner's attempt fails: it counts in its run, and the Peak is released again 10 ms later (R346). -/
def joinFailed (p : PeakId) (s : State) : State := peakReset p (failRun p s)

/-- A joiner's Col image has not fully arrived within START_WAIT of its release (R346): one failure. -/
def execJoinImageWaitExpiry (p : PeakId) (s : State) : Out :=
  .next (if (s.peak p).up && decide (s.power.boot.get p = .fetch 2) && (s.peak p.other).up && s.gdmPast (s.peak p).releasedAt (startWait s) then
      joinFailed p s
    else s)

/-! ### GDM.CMD (R347, R349, R351, R352) -/

/-- A write of GDM.CMD with a key: while a window is open the command waits for its close (R351). -/
def gdmAsked (key : BitVec 16) (op : Nat) (p : PeakId) (s : State) : State :=
  if s.gdm.window && gdmAnswers s then { s with gdm := { s.gdm with asked := s.gdm.asked ++ [⟨key, op, p⟩] } }
  else gdmDo ⟨key, op, p⟩ s

def gdmCmdWrite (v : Nat) (s : State) : State := gdmAsked (BitVec.ofNat 16 (bits v 31 16)) (bits v 15 8) (PeakId.ofNum (bits v 0 0)) s

def execGdmSwap (key : BitVec 16) (s : State) : Out := .next (gdmAsked key 1 .a s)
def execGdmFail (key : BitVec 16) (p : PeakId) (s : State) : Out := .next (gdmAsked key 2 p s)
def execGdmRejoin (key : BitVec 16) (p : PeakId) (s : State) : Out := .next (gdmAsked key 3 p s)
def execGdmRestart (key : BitVec 16) (s : State) : Out := .next (gdmAsked key 4 .a s)
def execGdmSafe (key : BitVec 16) (s : State) : Out := .next (gdmAsked key 5 .a s)
def execGdmResync (key : BitVec 16) (s : State) : Out := .next (gdmAsked key 6 .a s)

/-! ### The Saddle stops, and kernel faults (R297, R357, R368) -/

/-- The Gendarme misses the Saddle's toggle. -/
def execSaddleStopDetect (s : State) : Out :=
  .next (if (s.saddle.clock || s.running) && !s.bit .a Fd.gdmStatusSaddleStop then
      let s := { s with saddle := { s.saddle with clock := false } }
      safeEnter 9 (s.active.getD .a) (s.setFld .a Fd.gdmStatusSaddleStop 1)
    else s)

/-- A kernel fault: no command clears it. -/
def kernelFault (s : State) : State :=
  if s.bit .a Fd.safStatusKernelFault then s
  else
    let s := (s.setFld .a Fd.safStatusKernelFault 1).raise .a Fd.safFlagsKernelFault
    let s := s.bump .a Fd.safDiagFaultsCount Fd.safDiagFaultsSat
    safeEnter 0xD (s.active.getD .a) (safChanged 8 0 0 (fireBoth Ev.safFault s))

def execKernelFault (s : State) : Out := .next (whenKernel kernelFault s)

/-- The working image is checked against its word 63; `ok` is what the check reads. -/
def execImageCrcCheck (ok : Bool) (s : State) : Out :=
  .next (whenKernel (fun s =>
    if s.saf.img = [] then s else if ok && decide (s.cfgWord 63 = imageCrc s.saf.img) then s else kernelFault s) s)

end Sys2Proof.Machine
end

