-- ==== Sys2Proof/Machine/Power.lean ====
section
/-! DEFINITION. Supplies, reset, cold start, the stages, clocks and Bivouac (R34 to R65, R85). -/

namespace Sys2Proof.Machine

/-! ### PLLs (R40 to R45) -/

def pllNum : PllId → Nat
  | .a => 0
  | .b => 1
  | .s => 2
  | .ca => 3
  | .cb => 4
  | .n => 5

/-- Loss of lock (R41, R42, R45); armed only once the PLL has reported lock. -/
def pllLoss (i : Nat) (s : State) : State :=
  let q := s.pll i
  if q.locked && !q.coast then
    let s := s.setPll i { q with coast := true, lol := true, subst := false }
    let s := if i < 2 then
        let p := PeakId.ofNum i
        (s.raise p Fd.clkFlagsLol).bump p Fd.clkLolCountCount Fd.clkLolCountSat
      else s.setBoth Fd.clkFlagsLol 1
    clkRefresh s
  else s

def execPllLossOfLock (pll : PllId) (s : State) : Out := .next (pllLoss (pllNum pll) s)

/-- Cairn's lease ends at once. -/
def leaseDrop (s : State) : State := { s with cairn := { s.cairn with lease := 0 } }

/-- PLL N coasts on, and the loss of the reference is noted. -/
def netCoast (s : State) : State :=
  let s := s.setPll 5 { s.pll 5 with coast := true, lol := false, subst := false, returning := false }
  { s with power := { s.power with refLost := true } }

/-- In Bivouac a loss of reference leaves PLL N coasting and ends Cairn's lease (R53), without LEASE_END (R401). -/
def refLossBivouac (s : State) : State :=
  let s := netCoast s
  if s.cairn.lease = 0 then s else cairnValid (leaseDrop s)

/-- Loss of the reference (R43): PLL S coasts, the others take the substitute. -/
def refLoss (s : State) : State :=
  if inBivouac s && decide (s.power.phase = .bivouac) then clkRefresh (refLossBivouac s)
  else
    let s := s.setBoth Fd.clkFlagsRefLoss 1
    let s := forAll pllNumbers (fun i s =>
      let q := s.pll i
      if q.locked && !q.coast then
        s.setPll i (if i = 2 then { q with coast := true, lol := false } else if (s.pll 2).locked then { q with subst := true } else { q with coast := true, lol := false })
      else if q.returning then s.setPll i { q with returning := false } else s) s
    clkRefresh s

def execReferenceMissing (s : State) : Out :=
  .next (if s.power.missing then s else refLoss { s with power := { s.power with missing := true } })

/-- XIN has been good for 1 ms (R44): PLL S returns first; where it does not coast, every coasting PLL returns. -/
def refReturn (s : State) : State :=
  let s := { s with power := { s.power with missing := false, xin := true } }
  let s := if (s.pll 2).coast then s.setPll 2 { s.pll 2 with returning := true }
    else forAll pllNumbers (fun i s => if (s.pll i).coast then s.setPll i { s.pll i with returning := true } else s) s
  clkRefresh s

/-- A returning PLL reports lock. -/
def pllRelock (i : Nat) (s : State) : State :=
  let q := s.pll i
  if q.returning then
    let s := s.setPll i { q with locked := true, coast := false, lol := false, returning := false, subst := false }
    let s := if i = 2 then
        forAll pllNumbers (fun j s =>
          let r := s.pll j
          s.setPll j { r with subst := false, returning := r.returning || r.coast }) s
      else s
    let s := clkRefresh s
    if pllNumbers.any (fun j => (s.pll j).coast || (s.pll j).subst) then s else s.setBoth Fd.clkFlagsRelock 1
  else s

def execPllRelock (pll : PllId) (s : State) : Out := .next (pllRelock (pllNum pll) s)

/-- A returning PLL has not locked within 200 µs: it coasts on. -/
def execRelockDeadline (pll : PllId) (s : State) : Out :=
  .next (if (s.pll (pllNum pll)).returning then clkRefresh (s.setPll (pllNum pll) { s.pll (pllNum pll) with returning := false }) else s)

/-! ### Commanded frequency change (R46 to R48) -/

/-- A PLL moves N by 1 toward its target; at the target the change is over. -/
def stepOnce (p : PeakId) (s : State) : State :=
  let n := s.fld p Fd.clkStatusCurN
  let t := s.fld p Fd.clkCtrlTargetN
  if n = t then s.setFld p Fd.clkStatusStepping 0
  else (s.setFld p Fd.clkStatusCurN (if n < t then n + 1 else n - 1)).setFld p Fd.clkStatusStepping 1

/-- A write of CLK.CTRL. -/
def clkTarget (p : PeakId) (v : Nat) (s : State) : State :=
  let n := v % 256
  if n = s.fld p Fd.clkCtrlTargetN then s
  else if n < 128 ∨ 160 < n ∨ (s.loaded p).any isSummit = true then s.raise p Fd.clkFlagsStepRefused
  else
    let s := s.setFld p Fd.clkCtrlTargetN n
    if s.bit p Fd.clkStatusStepping then s else stepOnce p s

def execClkTargetWrite (m : Master) (val : Word) (s : State) : Out :=
  .next (if (s.peak m.peak).up then clkTarget m.peak val.toNat s else s)

/-- A step's relock is complete: the next step starts, or the change is over. -/
def execPllStepRelock (p : PeakId) (s : State) : Out :=
  .next (if s.bit p Fd.clkStatusStepping then stepOnce p s else s)

/-! ### Power gating and reset -/

/-- Is a register key part of a block in the Saddle's or the Cirque's supply? -/
def saddleKey (k : Nat) : Bool :=
  let a := k % 2 ^ 32
  (decide (k / 2 ^ 32 = 2) && [0x4002, 0x4005, 0x4006, 0x4007, 0x4008, 0x4010].contains (a / 0x10000)) || (decide (k / 2 ^ 32 < 2) && decide (a = Reg.thmFlags))

/-- The Saddle and the Cirque lose their state. -/
def saddleGate (s : State) : State :=
  { s with regs := s.regs.filter (fun e => !saddleKey e.1), saddle := {}, cirq := {}, wrapTick := [], meanDue := [], periodCount := 0 }

/-- A Peak loses its supply: its clocks stop and everything in it is lost. -/
def peakOff (p : PeakId) (s : State) : State :=
  let s := peakReset p s
  let s := (s.setReg p Reg.clkCtrl 0x80).setReg p Reg.clkStatus 0
  clkRefresh (s.setPll p.num {})

/-- A device reset (R57, R59, R76): everything but the fuses, the parameter store and the supplies returns to its reset state. -/
def deviceReset (s : State) : State :=
  { ({} : State) with
    pending := s.pending, tick := s.tick, free := s.free, readData := s.readData
    mem := s.mem.filter (fun e => decide (3 * 2 ^ 32 ≤ e.1))
    power := { vauxG := s.power.vauxG, vauxA := s.power.vauxA, vauxB := s.power.vauxB, vauxAt := s.power.vauxAt, vdrv := s.power.vdrv, vio1 := s.power.vio1
               vio2 := s.power.vio2
               resetLow := s.power.resetLow, missing := s.power.missing, fuses := s.power.fuses, cause := s.power.cause } }

/-! ### Fuses (R74, R77, R79) -/

/-- A group of eight fuses counts as blown when five or more read blown. -/
def groupBlown (n : Nat) : Bool := decide (5 ≤ n)

/-- The lifecycle state that the fuses spell. -/
def Fuses.state (f : Fuses) : Nat :=
  if groupBlown f.groups.2.2 then 3 else if groupBlown f.groups.2.1 then 2 else if groupBlown f.groups.1 then 1 else 0

/-- Is a state group partly blown below 5 of 8? -/
def Fuses.partly (f : Fuses) : Bool :=
  let p := fun (n : Nat) => decide (n ≠ 0) && !groupBlown n
  p f.groups.1 || p f.groups.2.1 || p f.groups.2.2

/-- Key slots and the SVN count as LCS shows them. -/
def lcsShow (s : State) : State :=
  let f := s.power.fuses
  let s := s.setReg .a Reg.lcsKeystat (f.programmed.toNat + f.damaged.toNat * 2 ^ 4 + f.revoked.toNat * 2 ^ 8)
  let s := s.setReg .a Reg.lcsSvn f.svn
  forAll (List.range 4) (fun k s => forAll (List.range 8) (fun j s =>
    s.setReg .a (Reg.lcsKeyhash k j) (Tab.get (fun _ => (0 : Word)) f.hashes (8 * k + j)).toNat) s) s

/-- The fuses are read into LCS. -/
def fuseRead (s : State) : State :=
  let f := s.power.fuses
  lcsShow (s.setReg .a Reg.lcsState (f.state + (if f.partly then 2 ^ 8 else 0)))

/-! ### Cold start (R61, R62) -/

def setPhase (f : Phase) (s : State) : State := { s with power := { s.power with phase := f } }

/-- The Gendarme goes no further (R62, R78). -/
def haltSafe (s : State) : State := setPhase .halted s

/-- RETIRED: the Gendarme holds the Peaks and keeps the safe state (R78). -/
def retiredStay (s : State) : State := haltSafe (safChanged 0 0 0 (s.setFld .a Fd.gdmStatusSafe 1))

/-- T0. -/
def coldStart (s : State) : State := setPhase (.cold 0) s

def gendarmeInstant (i : Nat) (ok xin : Bool) (s : State) : State :=
  match s.power.phase, i with
  | .cold 0, 1 => safChanged 0 0 0 (setPhase (.cold 1) (fuseRead s))
  | .cold 1, 2 =>
    if ok then clkRefresh (mapPoint (setPhase (.cold 2) { (s.setPll 5 { locked := true }) with cairn := { s.cairn with running := true } }))
    else haltSafe (safeEnter 0xB .a s)
  | .cold 2, 3 =>
    if !ok then haltSafe (safeEnter 0xB .a s)
    else if s.fld .a Fd.lcsStateState = 3 then retiredStay s
    else clkRefresh (setPhase .waiting { s with power := { s.power with xin := xin } })
  | _, _ => s

def execGendarmeStartInstant (i : Fin 4) (ok : Bool) (xin : Bool) (s : State) : Out := .next (gendarmeInstant i.val ok xin s)

/-- A 256 µs window ends: REF_BAD is judged (R41, R62). -/
def execRefCheckWindow (good : Bool) (s : State) : Out :=
  .next (match s.power.phase with
    | .off => s
    | .cold _ => s
    | .halted => s
    | .waiting => clkRefresh { s with power := { s.power with xin := good } }
    | _ => if good || !s.power.xin then s else refLoss { s with power := { s.power with xin := false } })

/-! ### Interrupted lifecycle operations (R77) -/

/-- What an operation that loses power or is reset leaves in the fuses: how far it had come nobody says. -/
def lcsInterrupt (s : State) : State :=
  match s.power.lcs with
  | none => s
  | some op =>
    let r := s.takeFree
    let n := (Config.freeWord r.1).toNat
    let s := r.2
    let f := s.power.fuses
    let bit : BitVec 4 := BitVec.ofNat 4 (2 ^ op.arg)
    let f := match op.op with
      | 1 =>
        let k := n % 9
        (match op.arg with
          | 1 => { f with groups := (max f.groups.1 k, f.groups.2) }
          | 2 => { f with groups := (f.groups.1, max f.groups.2.1 k, f.groups.2.2) }
          | _ => { f with groups := (f.groups.1, f.groups.2.1, max f.groups.2.2 k) })
      | 2 => (match n % 3 with
          | 0 => f
          | 1 => { f with damaged := f.damaged ||| bit }
          | _ => { f with programmed := f.programmed ||| bit
                          hashes := (List.range 8).foldl (fun t j => Tab.put (fun _ => 0) t (8 * op.arg + j) (s.regW (regKey .a (Reg.lcsProgData j)))) f.hashes })
      | 3 => if n % 2 = 0 then f else { f with revoked := f.revoked ||| bit }
      | _ => { f with svn := f.svn + n % (op.arg + 1 - f.svn) }
    { s with power := { s.power with fuses := f, lcs := none } }

/-! ### RESET_N (R59) -/

/-- RESET_N low (R59): 520 ns or longer resets, below 480 ns nothing happens, between them either may. -/
def resetPin (ns : Nat) (s : State) : State :=
  if ns < 480 then s
  else
    let r := s.takeFree
    let s := if 520 ≤ ns then s else r.2
    if 520 ≤ ns ∨ Config.freeBool r.1 = true then
      let s := lcsInterrupt s
      deviceReset { s with power := { s.power with resetLow := true, cause := Nat.lor s.power.cause causePin } }
    else s

def execResetPin (ns : Word) (s : State) : Out := .next (resetPin ns.toNat s)

/-- RESET_N returns high. -/
def execResetRelease (s : State) : Out :=
  .next (if s.power.resetLow then
      let s := { s with power := { s.power with resetLow := false } }
      if s.power.vauxG then coldStart s else s
    else s)

/-! ### The stages (R54, R55, R63) -/

/-- The stages begin; a Peak without its VAUX takes no part. -/
def stagesBegin (wake : Bool) (s : State) : State :=
  setPhase (.stages 0 wake) { s with gdm := { s.gdm with failedAt := ⟨s.tick, s.tick⟩ }
                                     power := { s.power with pllFail := ⟨!s.power.vauxA, !s.power.vauxB⟩, cirqOk := ⟨false, false⟩ } }

def execStageStart (s : State) : Out :=
  .next (if s.power.phase = .waiting ∧ s.refGone = false ∧ (s.power.vauxA = true ∨ s.power.vauxB = true) then stagesBegin false s else s)

/-- A latched wake begins once entry is complete and the reference is there (R51, R53). -/
def wakeGo (s : State) : State :=
  if s.power.phase = .bivouac ∧ s.power.wakeSrc ≠ 0 ∧ s.refGone = false then stagesBegin true s else s

def execReferenceReturn (s : State) : Out := .next (wakeGo (refReturn s))

/-- A Peak stays in reset, FAILED, because its PLL missed an instant (R55). -/
def leftOut (p : PeakId) (s : State) : State :=
  { s with gdm := { s.gdm with failedAt := s.gdm.failedAt.set p s.tick }, power := { s.power with pllFail := s.power.pllFail.set p true } }

/-- t3: lock deadline. A Peak whose PLL is locked has its clock at 800 MHz and begins to step toward N = 160. -/
def stageLock (l : BitVec 6) (s : State) : State :=
  let s := bothPeaks (fun p s =>
    if s.power.pllFail.get p then s
    else if l.getLsbD p.num then
      let s := s.setPll p.num { locked := true }
      stepOnce p (((s.setReg p Reg.clkCtrl 160).setFld p Fd.clkStatusCurN 128).setFld p Fd.clkStatusStepping 1)
    else leftOut p s) s
  let s := { s with power := { s.power with cirqOk := ⟨l.getLsbD 3 && s.power.vauxA, l.getLsbD 4 && s.power.vauxB⟩ } }
  let s := if s.power.cirqOk.a then s.setPll 3 { locked := true } else s
  let s := if s.power.cirqOk.b then s.setPll 4 { locked := true } else s
  if l.getLsbD 2 then clkRefresh (s.setPll 2 { locked := true })
  else clkRefresh (safeEnter 0xB .a (leftOut .b (leftOut .a s)))

/-- t4: stepping deadline. -/
def stageStep (l : BitVec 6) (s : State) : State :=
  bothPeaks (fun p s =>
    if s.power.pllFail.get p then s
    else if l.getLsbD p.num then (s.setFld p Fd.clkStatusCurN 160).setFld p Fd.clkStatusStepping 0
    else leftOut p s) s

/-- The fused limits of the on-die sensors of a YD9600-X (R429). -/
def fusedLimits (s : State) : State :=
  if s.power.fuses.xCode then
    forAll [8, 9, 10, 11] (fun n s => (s.setReg .a (Reg.thmSensLimWt n) 0x087007D0).setReg .a (Reg.thmSensLimS n) 0x0910) s
  else s

/-- t5: the Saddle and the Cirque leave reset. -/
def stageSaddle (s : State) : State :=
  if (s.pll 2).locked then
    let s := saddleGate s
    let s := { s with saddle := { s.saddle with clock := true }, tick0 := s.tick }
    let s := fusedLimits (s.setBit .a Fd.spurStatusVdrvOk s.power.vdrv)
    cirqRelease (s.power.cirqOk.a && s.power.vauxA) (s.power.cirqOk.b && s.power.vauxB) (mapPoint s)
  else s

/-- What a Peak finds in its CLK block and BST block at t6 (R50, R52, R53, R80). -/
def stagePeak (wake : Bool) (cause : Nat) (p : PeakId) (s : State) : State :=
  let s := peakRelease p cause s
  if wake then
    let s := (s.setFld p Fd.clkBivStatusWoke 1).setFld p Fd.clkBivStatusWakeSrc s.power.wakeSrc.toNat
    let s := forAll (List.range 4) (fun n s => s.setRegW (regKey p (Reg.clkKeep n)) (s.power.keep.getD n 0)) s
    if s.power.refLost then s.raise p Fd.clkFlagsRefLoss else s
  else s

/-- t6: the Peaks leave reset. Where none can start the Gendarme keeps the safe state (R83). -/
def stageRelease (wake : Bool) (s : State) : State :=
  let cause := if wake then causeWake else s.power.cause
  let s := bothPeaks (fun p s => if s.power.pllFail.get p || !s.vaux p then s else stagePeak wake cause p s) s
  let s := setPhase .running { s with power := { s.power with cause := 0, wakeSrc := 0, refLost := false, merged := false, slot0 := none, slot1 := none, colBytes := [] } }
  let s := clkRefresh s
  if (s.peak .a).up || (s.peak .b).up then safChanged 0 0 0 s else safeEnter 0xB .a s

/-- A Peak that rejoins passes the instants of R54 alone (R346): its PLL locks by t3 and has stepped to N = 160 by t4, or the attempt fails; t6
releases it. -/
def joinStage (i : Nat) (l : BitVec 6) (p : PeakId) (s : State) : State :=
  match s.power.joinAt.get p with
  | some j =>
    if i = j + 1 then
      let s := { s with power := { s.power with joinAt := s.power.joinAt.set p (some i) } }
      let ok := l.getLsbD p.num
      match i with
      | 3 => if ok then
          clkRefresh (stepOnce p ((((s.setPll p.num { locked := true }).setReg p Reg.clkCtrl 160).setFld p Fd.clkStatusCurN 128).setFld p Fd.clkStatusStepping 1))
        else joinFailed p s
      | 4 => if ok then (s.setFld p Fd.clkStatusCurN 160).setFld p Fd.clkStatusStepping 0 else clkRefresh ((joinFailed p s).setPll p.num {})
      | 6 => peakRelease p causePeak s
      | _ => s
    else s
  | none => s

/-- An instant of the stages, or, while the device runs, of a Peak that rejoins. -/
def stageInstant (i : Nat) (l : BitVec 6) (s : State) : State :=
  match s.power.phase with
  | .running => bothPeaks (joinStage i l) s
  | .stages j wake =>
    if i = j + 1 then
      let s := setPhase (.stages i wake) s
      match i with
      | 3 => stageLock l s
      | 4 => stageStep l s
      | 5 => stageSaddle s
      | 6 => stageRelease wake s
      | _ => s
    else s
  | _ => s

def execStageInstant (i : Fin 7) (locks : BitVec 6) (s : State) : Out := .next (stageInstant i.val locks s)

/-! ### Supplies (R57, R60, R85) -/

/-- VDRV crosses its rising threshold: legs without a test are tested (R85). -/
def legsTest (pass : BitVec 6) (s : State) : State :=
  if s.power.merged then
    forAll legNumbers (fun n s =>
      let tested := [PeakId.a, PeakId.b].any (fun p => decide (bits (s.reg p (Reg.bstDone 5)) (14 + n) (14 + n) = 1))
      if tested then s
      else
        let ok := pass.getLsbD n
        let s := bothPeaks (fun p s =>
          let s := s.setReg p (Reg.bstDone 5) (putBits (s.reg p (Reg.bstDone 5)) (14 + n) (14 + n) 1)
          s.setReg p (Reg.bstPass 5) (putBits (s.reg p (Reg.bstPass 5)) (14 + n) (14 + n) (if ok then 1 else 0))) s
        if ok then s else legDisable n (s.setFld .a (Fd.spurLegStatusRetired n) 1)) s
  else s

def vauxUp (p : PeakId) (v : Bool) (s : State) : State :=
  { s with power := match p with
      | .a => { s.power with vauxA := v }
      | .b => { s.power with vauxB := v } }

/-- VAUXA or VAUXB rises. -/
def vauxRise (p : PeakId) (s : State) : State :=
  if s.vaux p then s else vauxUp p true { s with power := { s.power with vauxAt := s.power.vauxAt.set p s.tick } }

def supplyRise (sup : Supply) (legs : BitVec 6) (s : State) : State :=
  match sup with
  | .vauxG => if s.power.vauxG then s
    else
      let s := { s with power := { s.power with vauxG := true, cause := Nat.lor s.power.cause causePor } }
      if s.power.resetLow then s else coldStart s
  | .vauxA => vauxRise .a s
  | .vauxB => vauxRise .b s
  | .vdrv => if s.power.vdrv then s
    else
      let s := { s with power := { s.power with vdrv := true } }
      if s.saddle.clock then legsDecide (legsTest legs (s.setFld .a Fd.spurStatusVdrvOk 1)) else s
  | .vio1 => { s with power := { s.power with vio1 := true } }
  | .vio2 => { s with power := { s.power with vio2 := true } }

/-- A Peak's supply is noted as gone: it is left out of the pair, and its Cirque domain is unpowered. -/
def vauxNote (p : PeakId) (s : State) : State :=
  let s := leftOut p (vauxUp p false s)
  { s with power := { s.power with cirqOk := s.power.cirqOk.set p false } }

/-- The Saddle's clock stops. -/
def saddleHalt (s : State) : State := { s with saddle := { s.saddle with clock := false } }

/-- With both VAUXA and VAUXB gone the device goes safe and the Saddle's clock stops. -/
def vauxBoth (p : PeakId) (s : State) : State :=
  if s.running && !s.vaux p.other then saddleHalt (safeEnter 4 (s.active.getD .a) s) else s

/-- VAUXA or VAUXB falls (R57, R60): that Peak and its Cirque domain are unpowered; with both, the device goes safe and the Saddle stops. -/
def vauxFall (p : PeakId) (s : State) : State :=
  if s.vaux p then
    let s := peakOff p (vauxNote p s)
    vauxBoth p (clkRefresh (domainLoss p (s.setPll (3 + p.num) {})))
  else s

def supplyFall (sup : Supply) (s : State) : State :=
  match sup with
  | .vauxG =>
    let s := lcsInterrupt s
    deviceReset { s with power := { s.power with vauxG := false } }
  | .vauxA => vauxFall .a s
  | .vauxB => vauxFall .b s
  | .vdrv =>
    if s.power.vdrv then
      let s := { s with power := { s.power with vdrv := false } }
      if s.saddle.clock then gatesDown false (s.setFld .a Fd.spurStatusVdrvOk 0) else s
    else s
  | .vio1 => { s with power := { s.power with vio1 := false } }
  | .vio2 => { s with power := { s.power with vio2 := false } }

def execSupplyRise (sup : Supply) (legs : BitVec 6) (s : State) : Out := .next (supplyRise sup legs s)
def execSupplyFall (sup : Supply) (s : State) : Out := .next (supplyFall sup s)

/-! ### Bivouac (R49 to R53) -/

/-- The first check that fails, 0 for none. -/
def bivouacCheck (p : PeakId) (v : Nat) (s : State) : Nat :=
  if bits v 31 16 ≠ 0xB1AC then 1
  else if s.holds p = false then 2
  else if s.anyTbRuns then 3
  else if (List.range 32).any (fun q => s.bit .a (Fd.pwmPairCfgEn q)) then 4
  else if legNumbers.any (fun n => s.bit .a (Fd.spurLegCtrlEn n) || (s.leg n).hi || (s.leg n).lo) then 5
  else if s.bit .a Fd.clkStatusStepping || s.bit .b Fd.clkStatusStepping then 6 else 0

/-- The test pulses stop, and every enabled TPO stays on (R49, R359). -/
def tposOn (s : State) : State := s.setFld .a Fd.safOutStateTpoOn (bits (s.cfgWord 2) 19 16)

/-- A write of CLK.BIVOUAC. -/
def bivouacWrite (p : PeakId) (v : Nat) (s : State) : State :=
  if v % 2 = 0 ∨ s.running = false then s
  else
    let c := bivouacCheck p v s
    let s := s.setFld p Fd.clkBivStatusRefuse c
    if c ≠ 0 then s.raise p Fd.clkFlagsBivRefused
    else
      let s := tposOn (batonTake s)
      let s := setPhase .entering { s with power := { s.power with
        wakeCfg := s.reg p Reg.clkWakeCfg, wakeTime := s.reg p Reg.clkWakeTime, wakeSrc := 0, refLost := false, pwrgd := false
        keep := (List.range 4).map (fun n => s.regW (regKey p (Reg.clkKeep n))) } }
      safChanged 7 0 7 s

def execBivouacEnter (m : Master) (val : Word) (s : State) : Out :=
  .next (if (s.peak m.peak).up then bivouacWrite m.peak val.toNat s else s)

/-- Entry is complete: the Peaks, the Saddle and the Cirque are power-gated, and the configuration no longer counts as valid (R50, R357). A
reference that is lost by then leaves PLL N without its substitute (R53). -/
def bivouacGated (s : State) : State :=
  let s := peakOff .b (peakOff .a (copyAbort s))
  let s := forAll [3, 4, 5, 6, 7] (fun w s => bothPeaks (fun p s => (s.setReg p (Reg.bstPass w) 0).setReg p (Reg.bstDone w) 0) s) s
  let s := { s with gdm := { s.gdm with grant := none, hold := none, lolSince := none, standbyAt := ⟨none, none⟩, mirrored := []
                                        released := false, diverged := false, divRun := 0 } }
  let s := setRole .b 3 (setRole .a 3 s)
  let s := ((s.setFld .a Fd.gdmStatusSynced 0).setFld .a Fd.gdmStatusHolding 0).setFld .a Fd.gdmStatusCopy 0
  let s := forAll [2, 3, 4] (fun i s => s.setPll i {}) s
  let s := if s.refGone then refLossBivouac s else s
  let s := ((saddleGate s).setFld .a Fd.safStatusCfgValid 0).setFld .a Fd.safInStateMasked 0
  let s := setPhase .bivouac { s with saf := { s.saf with unitsOk := false, img := [] } }
  clkRefresh (safChanged 0 0 0 s)

def execBivouacEntryComplete (s : State) : Out :=
  .next (if s.power.phase = .entering then wakeGo (bivouacGated s) else s)

/-- A wake source that is enabled is latched; the first one causes the wake, and those of its network cycle are recorded with it (R51, R52). -/
def wakeOn (src : BitVec 3) (s : State) : State :=
  if src = 0 then s
  else if inBivouac s && decide (s.power.wakeSrc = 0) then wakeGo { s with power := { s.power with wakeSrc := src, wakeAt := s.tick } }
  else if (inBivouac s || decide (s.power.phase = .stages 0 true)) && decide (5 * s.tick / 16 = 5 * s.power.wakeAt / 16) then
    { s with power := { s.power with wakeSrc := s.power.wakeSrc ||| src } }
  else s

def execWakeEvent (col : Bool) (sin : BitVec 8) (s : State) : Out :=
  .next (let cfg := s.power.wakeCfg
    let c : BitVec 3 := if col && decide (bits cfg 0 0 = 1) then 1 else 0
    let n : BitVec 3 := if sin.toNat &&& bits cfg 10 3 = 0 then 0 else 2
    wakeOn (c ||| n) s)

def execWakeAlarm (s : State) : Out :=
  .next (if bits s.power.wakeCfg 2 2 = 1 ∧ s.cairn.sec % 2 ^ 32 = s.power.wakeTime then wakeOn 4 s else s)

/-! ### Crossing timeouts (R38) -/

/-- Is the island that CLK.XTO codes as `dest` stopped or unpowered, as seen by Peak p? -/
def destDown (p : PeakId) (dest : Nat) (s : State) : Bool :=
  match dest with
  | 0 => !s.vaux p.other
  | 1 => !s.saddle.clock
  | 2 => !s.domOk .a
  | 3 => !s.domOk .b
  | 4 => !s.cairn.running
  | _ => false

/-- A crossing toward a stopped island gives up: a read returns 0, and the first timeout is recorded. -/
def crossingTimeout (p : PeakId) (dest addr : Nat) (write : Bool) (s : State) : State :=
  if (s.peak p).up && destDown p dest s then xtoRecord p dest addr write (if write then s else { s with readData := 0 }) else s

def execCrossingTimeout (m : Master) (dest : Fin 6) (addr : Word) (write : Bool) (s : State) : Out :=
  .next (crossingTimeout m.peak dest.val addr.toNat write s)

end Sys2Proof.Machine
end

