-- ==== Sys2Proof/Machine/Thermal.lean ====
section
/-! DEFINITION. Thermal supervision (R419 to R429). -/

namespace Sys2Proof.Machine

/-! ### Sensors (R419 to R424) -/

def sensorNumbers : List Nat := List.range 12

/-- Is sensor n measured: the Saddle runs, it is enabled and not retired? -/
def sensorOn (s : State) (n : Nat) : Bool :=
  s.saddle.clock && (decide (8 ≤ n) || s.bit .a (Fd.thmSensCtrlEn n)) && !s.bit .a (Fd.thmSensTempRetired n)

def reading16 (v : Nat) : Int := signed 16 v

/-- The three thresholds of a sensor with their hysteresis, in 1/16 K: WARN, THROTTLE, SHUTDOWN. -/
def sensorLimits (s : State) (n : Nat) : List (Int × Int) :=
  [(s.fldI .a (Fd.thmSensLimWtWarn n), 4 * s.fld .a (Fd.thmSensHystHystW n)),
   (s.fldI .a (Fd.thmSensLimWtThrottle n), 4 * s.fld .a (Fd.thmSensHystHystT n)),
   (s.fldI .a (Fd.thmSensLimSShutdown n), 4 * s.fld .a (Fd.thmSensHystHystS n))]

/-- The fields that say which thresholds count as exceeded. -/
def sensorState (n : Nat) : List Fld := [Fd.thmSensTempWarn n, Fd.thmSensTempThr n, Fd.thmSensTempShut n]

/-- While a sensor is faulted its thresholds follow FAULT_ACT (R423). -/
def faultStates (s : State) (n : Nat) : List Bool :=
  match s.fld .a (Fd.thmSensCfgFaultAct n) with
  | 0 => [false, false, false]
  | 1 => [true, true, false]
  | 2 => [true, true, true]
  | _ => [false, false, false]

def setStates (n : Nat) (l : List Bool) (s : State) : State := forAll ((sensorState n).zip l) (fun e s => s.setBit .a e.1 e.2) s

/-- A threshold after reading r (R424). -/
def exceeded (lim : Int × Int) (r : Int) (was : Bool) : Bool :=
  if lim.1 ≤ r then true else if r ≤ lim.1 - lim.2 then false else was

/-- FAST after reading r (R422). -/
def fastAfter (limits : List (Int × Int)) (r : Int) (was : Bool) : Bool :=
  if limits.any (fun l => decide (-80 < r - l.1) && decide (r - l.1 < 80)) then true
  else if limits.all (fun l => decide (r - l.1 < -96) || decide (96 < r - l.1)) then false else was

/-- A valid reading is taken. -/
def takeReading (n : Nat) (v : Nat) (s : State) : State :=
  let r := reading16 v
  let l := sensorLimits s n
  let st := (l.zip (sensorState n)).map (fun e => exceeded e.1 r (s.bit .a e.2))
  let s := (s.setFld .a (Fd.thmSensTempReading n) v).setFld .a (Fd.thmSensTempValid n) 1
  setStates n st (s.setBit .a (Fd.thmSensTempFast n) (fastAfter l r (s.bit .a (Fd.thmSensTempFast n))))

/-- A sensor is faulted. -/
def sensorFault (n : Nat) (s : State) : State :=
  let s := { s with saddle := { s.saddle with goodRuns := Tab.put (fun _ => 0) s.saddle.goodRuns n 0 } }
  let s := ((s.setFld .a (Fd.thmSensTempReading n) 0x8000).setFld .a (Fd.thmSensTempValid n) 0).setFld .a (Fd.thmSensTempFault n) 1
  setStates n (faultStates s n) s

/-- A measurement without a fault. -/
def sensorGood (n : Nat) (v : Nat) (s : State) : State :=
  if s.bit .a (Fd.thmSensTempFault n) then
    let runs := Tab.get (fun _ => 0) s.saddle.goodRuns n + 1
    if runs < 3 then { s with saddle := { s.saddle with goodRuns := Tab.put (fun _ => 0) s.saddle.goodRuns n runs } }
    else
      let s := { s with saddle := { s.saddle with goodRuns := Tab.put (fun _ => 0) s.saddle.goodRuns n 0 } }
      takeReading n v (s.setFld .a (Fd.thmSensTempFault n) 0)
  else takeReading n v s

/-! ### The throttle and trip source 9 (R425, R427) -/

/-- SCALE is at FLOOR while the condition holds; reaching it is flagged in both Peaks. -/
def floorMark (s : State) : State :=
  let at_ := s.bit .a Fd.thmStatusThrAny && decide (s.fld .a Fd.thmStatusScale ≤ s.fld .a Fd.thmCtrlFloor)
  let s := if at_ && !s.bit .a Fd.thmStatusAtFloor then s.setBoth Fd.thmFlagsFloor 1 else s
  s.setBit .a Fd.thmStatusAtFloor at_

/-- A fall step. -/
def fallStep (s : State) : State :=
  let n := s.fld .a Fd.thmStatusScale
  floorMark (if s.fld .a Fd.thmCtrlFloor < n then (s.setFld .a Fd.thmStatusScale (n - 1)).bump .a Fd.thmStepsCount Fd.thmStepsSat else s)

/-- Bring the summaries, the throttle and the trip source up to date. -/
def thmRefresh (s : State) : State :=
  let any := fun (f : Nat → Bool) => sensorNumbers.any f
  let s := s.setBit .a Fd.thmStatusWarnAny (any (fun n => s.bit .a (Fd.thmSensTempWarn n)))
  let s := s.setBit .a Fd.thmStatusFaultAny (any (fun n => s.bit .a (Fd.thmSensTempFault n)))
  let shut := any (fun n => s.bit .a (Fd.thmSensTempShut n) && s.bit .a (Fd.thmSensCfgShutEn n))
  let thr := any (fun n => s.bit .a (Fd.thmSensTempThr n) && s.bit .a (Fd.thmSensCfgThrEn n))
  let was := s.bit .a Fd.thmStatusThrAny
  let s := (s.setBit .a Fd.thmStatusShutAny shut).setBit .a Fd.thmStatusThrAny thr
  let s := if thr && !was then fallStep (s.setFld .a Fd.thmStatusRecovering 0)
    else if was && !thr then s.setBit .a Fd.thmStatusRecovering (decide (s.fld .a Fd.thmStatusScale < 32))
    else s
  tripInput 9 shut (floorMark s)

/-- What a measurement or a retirement has changed in a sensor is flagged and fires EV_THM in both Peaks (R424). -/
def sensorChange (n : Nat) (s0 s : State) : State :=
  let diff := fun (f : Fld) => decide (s0.bit .a f ≠ s.bit .a f)
  let flag := fun (c : Bool) (f : Fld) (s : State) => if c then s.setBoth f 1 else s
  let w := diff (Fd.thmSensTempWarn n)
  let t := diff (Fd.thmSensTempThr n)
  let h := diff (Fd.thmSensTempShut n)
  let f := diff (Fd.thmSensTempFault n)
  let s := flag f Fd.thmFlagsSensFault (flag h Fd.thmFlagsShutdown (flag t Fd.thmFlagsThrottle (flag w Fd.thmFlagsWarn s)))
  thmRefresh (if w || t || h || f then fireBoth Ev.thm s else s)

/-- Does a measurement fault: outside the pin's range (`bad`), or a diode's result outside −60 °C to +220 °C? -/
def measureBad (s : State) (n v : Nat) (bad : Bool) : Bool :=
  bad || decide (v = 0x8000) || (decide (n < 8) && decide (s.fld .a (Fd.thmSensCfgType n) = 0) && (decide (reading16 v < -960) || decide (3520 < reading16 v)))

def measure (n v : Nat) (bad : Bool) (s : State) : State :=
  if sensorOn s n then sensorChange n s (if measureBad s n v bad then sensorFault n s else sensorGood n v s) else s

def execThermalMeasurement (n : Fin 12) (reading : BitVec 16) (bad : Bool) (s : State) : Out := .next (measure n.val reading.toNat bad s)

/-- A retired sensor reads 0x8000 and counts as faulted (R423). -/
def sensorRetire (n : Nat) (s : State) : State :=
  if s.bit .a (Fd.thmSensTempRetired n) then s
  else sensorChange n s (sensorFault n (s.setFld .a (Fd.thmSensTempRetired n) 1))

/-- 100 ms after a step the condition still holds. -/
def execThrottleStep (s : State) : Out := .next (if s.saddle.clock && s.bit .a Fd.thmStatusThrAny then fallStep s else s)

/-- RECOVER_N × 100 ms after the condition ended or the last rise. -/
def execThrottleRecoverStep (s : State) : Out :=
  .next (if s.saddle.clock && s.bit .a Fd.thmStatusRecovering then
      let n := min (s.fld .a Fd.thmStatusScale + 1) 32
      (s.setFld .a Fd.thmStatusScale n).setBit .a Fd.thmStatusRecovering (decide (n < 32))
    else s)

/-! ### Writes (R6, R426, R427) -/

/-- A write of THM.CTRL by the baton holder. -/
def thmCtrlWrite (p : PeakId) (v : Nat) (s : State) : State :=
  let floor := bits v 5 0
  if 32 < floor ∨ bits v 15 8 = 0 then s.raise p Fd.thmFlagsRange
  else
    let s := s.setReg .a Reg.thmCtrl (v % 2 ^ 16 &&& 0xFF3F)
    let s := if s.fld .a Fd.thmStatusScale < floor then
        let s := s.setFld .a Fd.thmStatusScale floor
        if floor = 32 then s.setFld .a Fd.thmStatusRecovering 0 else s
      else s
    floorMark s

def execFloorWrite (m : Master) (val : Word) (s : State) : Out :=
  .next (gated m Reg.thmCtrl (thmCtrlWrite m.peak val.toNat) s)

/-- Is the order WARN ≤ THROTTLE ≤ SHUTDOWN kept? -/
def limitsOrdered (w t h : Int) : Bool := decide (w ≤ t) && decide (t ≤ h)

/-- May a remote sensor be enabled: its order holds and its configuration is in range? -/
def sensorCfgOk (s : State) (n : Nat) : Bool :=
  let eta := s.fld .a (Fd.thmSensCfgEta n)
  let r25 := s.reg .a (Reg.thmSensR25 n)
  let beta := s.reg .a (Reg.thmSensBeta n)
  limitsOrdered (s.fldI .a (Fd.thmSensLimWtWarn n)) (s.fldI .a (Fd.thmSensLimWtThrottle n)) (s.fldI .a (Fd.thmSensLimSShutdown n)) &&
    decide (s.fld .a (Fd.thmSensCfgType n) ≤ 1) && decide (s.fld .a (Fd.thmSensCfgFaultAct n) ≠ 3) &&
    decide (0x3999 ≤ eta) && decide (eta ≤ 0x4666) && decide (1000 ≤ r25) && decide (r25 ≤ 1000000) &&
    decide (1000 ≤ beta) && decide (beta ≤ 10000)

/-- A write of a remote sensor's word at offset `off`. -/
def remoteWrite (p : PeakId) (n off v : Nat) (s : State) : State :=
  if off = 0 then
    if v % 2 = 1 ∧ sensorCfgOk s n = false then s.raise p Fd.thmFlagsRange else s.setFld .a (Fd.thmSensCtrlEn n) (v % 2)
  else if s.bit .a (Fd.thmSensCtrlEn n) then s.raise p Fd.thmFlagsWriteWhileRunning
  else
    let s := s.setReg .a (Reg.thmSensCtrl n + off) v
    thmRefresh (if s.bit .a (Fd.thmSensTempFault n) then setStates n (faultStates s n) s else s)

/-- A write of an on-die sensor's word (R426). -/
def onDieWrite (p : PeakId) (n off v : Nat) (s : State) : State :=
  let most : Int := if s.power.fuses.xCode then 0x910 else 0x820
  let s' := s.setReg .a (Reg.thmSensCtrl n + off) v
  let h := s'.fldI .a (Fd.thmSensLimSShutdown n)
  let ok := limitsOrdered (s'.fldI .a (Fd.thmSensLimWtWarn n)) (s'.fldI .a (Fd.thmSensLimWtThrottle n)) h && decide (h ≤ most)
  if off = 0 then s
  else if ((off = 0x10 ∨ off = 0x14) ∧ ok = false) ∨ (off = 4 ∧ s'.fld .a (Fd.thmSensCfgFaultAct n) = 3) then s.raise p Fd.thmFlagsRange
  else thmRefresh (if s'.bit .a (Fd.thmSensTempFault n) then setStates n (faultStates s' n) s' else s')

/-- A write of a sensor's word by the baton holder; the value has its defined bits only. -/
def thmSensWrite (p : PeakId) (n off v : Nat) (s : State) : State := if n < 8 then remoteWrite p n off v s else onDieWrite p n off v s

end Sys2Proof.Machine
end

