-- ==== Sys2Proof/Machine/Boot.lean ====
section
/-! DEFINITION. Boot, lifecycle operations and self-test (R66 to R87), and the boot stream of the Col port (R72, R441). -/

namespace Sys2Proof.Machine

/-! ### Boot images (R67, R68) -/

/-- Byte i of an image; past its end the flash is erased. -/
def imgByte (img : List Byte) (i : Nat) : Nat := (img.getD i 0xFF).toNat

/-- The little-endian word at offset i. -/
def imgWord (img : List Byte) (i : Nat) : Nat :=
  imgByte img i + 2 ^ 8 * imgByte img (i + 1) + 2 ^ 16 * imgByte img (i + 2) + 2 ^ 24 * imgByte img (i + 3)

/-- `n` bytes from offset i on, with erased bytes past the end. -/
def imgSlice (img : List Byte) (i n : Nat) : List Byte :=
  let l := (img.drop i).take n
  l ++ List.replicate (n - l.length) 0xFF

/-- Bytes as a number, the first the least significant. -/
def leNat (l : List Byte) : Nat := l.foldr (fun b n => b.toNat + 256 * n) 0

/-- Header and payload. -/
def imgWhole (img : List Byte) : List Byte := imgSlice img 0 (1024 + imgWord img 0xC)

/-- The load entries: payload offset, destination, length, core mask. -/
def imgEntries (img : List Byte) : List (Nat × Nat × Nat × Nat) :=
  (List.range (imgWord img 0x10)).map (fun k =>
    let o := 0xA0 + 16 * k
    (imgWord img o, imgWord img (o + 4), imgWord img (o + 8), imgWord img (o + 12)))

/-- The memory that holds a destination wholly: 0 ITCM, 1 DTCM, 2 control SRAM, 3 none. -/
def destRegion (dest len : Nat) : Nat :=
  if dest + len ≤ 0x10000 then 0
  else if 0x10000 ≤ dest ∧ dest + len ≤ 0x20000 then 1
  else if 0x10000000 ≤ dest ∧ dest + len ≤ 0x10200000 then 2 else 3

/-- Do two entries overlap in destination? Copies in the TCMs meet only in a core that both name. -/
def entriesMeet (x y : Nat × Nat × Nat × Nat) : Bool :=
  decide (x.2.1 < y.2.1 + y.2.2.1) && decide (y.2.1 < x.2.1 + x.2.2.1) && (decide (0x20000 ≤ x.2.1) || decide (x.2.2.2 &&& y.2.2.2 ≠ 0))

def entriesApart : List (Nat × Nat × Nat × Nat) → Bool
  | [] => true
  | e :: r => r.all (fun f => !entriesMeet e f) && entriesApart r

/-- Check 2 of R68. -/
def headerOk (img : List Byte) : Bool :=
  let n := imgWord img 0x10
  let len := imgWord img 0xC
  decide (imgWord img 0x18 = crc32 (imgSlice img 0 0x18 ++ imgSlice img 0xA0 0x360)) &&
    decide (len % 16 = 0) && decide (len ≤ 0x400000) && decide (1 ≤ n) && decide (n ≤ 32) &&
    (imgSlice img (0xA0 + 16 * n) (16 * (32 - n))).all (fun b => decide (b = 0)) &&
    (imgEntries img).all (fun e => decide (e.1 + e.2.2.1 ≤ len) && decide (destRegion e.2.1 e.2.2.1 ≠ 3)) && entriesApart (imgEntries img)

/-- The programmed key slot, not revoked, that holds the hash of the image's public key. -/
def keySlotOf (s : State) (img : List Byte) : Option Nat :=
  let h := (Config.sha256 (imgSlice img 0x20 64)).toNat
  let stat := s.reg .a Reg.lcsKeystat
  (List.range 4).find? (fun k => decide (bits stat k k = 1) && decide (bits stat (8 + k) (8 + k) = 0) &&
    (List.range 8).all (fun j => decide (s.reg .a (Reg.lcsKeyhash k j) = bits h (32 * j + 31) (32 * j))))

/-- In BLANK with no key slot programmed, checks 3 to 5 are skipped. -/
def keysSkipped (s : State) : Bool := decide (s.fld .a Fd.lcsStateState = 0) && decide (s.fld .a Fd.lcsKeystatProgrammed = 0)

/-- R68: 0 where a slot is accepted, else its error; `bad` marks a Peak whose signature check fails. -/
def slotCheck (s : State) (img : List Byte) (bad : Bool) : Nat :=
  if imgWord img 0 ≠ 0x4B444C59 ∨ imgWord img 4 ≠ 1 then 1
  else if headerOk img = false then 2
  else if keysSkipped s then 0
  else if keySlotOf s img = none then 3
  else
    let sig := BitVec.ofNat 512 (leNat (imgSlice img 0x60 64))
    let key := BitVec.ofNat 512 (leNat (imgSlice img 0x20 64))
    let whole := imgWhole img
    let hash := Config.sha256 (whole.take 0x60 ++ List.replicate 64 0 ++ whole.drop 0xA0)
    if bad || !Config.ecdsaOk sig hash key then 4
    else if imgWord img 8 < s.fld .a Fd.lcsSvnCount then 5 else 0

/-! ### Fetch (R69, R70, R72, R346, R441) -/

/-- The image of a slot; slot 2 is the one that came through the Col port. -/
def slotImage (s : State) (slot : Nat) : Option (List Byte) :=
  match slot with
  | 0 => s.power.slot0
  | 1 => s.power.slot1
  | _ => if s.gwFld ⟨Reg.colGwStatus, 1, 0⟩ = 3 then some s.power.colBytes.reverse else none

def setBoot (p : PeakId) (b : BootAt) (s : State) : State := { s with power := { s.power with boot := s.power.boot.set p b } }

/-- The boot controllers wait for the host. -/
def colWait (s : State) : State :=
  let s := (s.setGwFld ⟨Reg.colGwStatus, 1, 0⟩ 1).setRegW (gwKey Reg.colGwBootCount) 0
  gwPend Fd.colGwIntPendBootWait { s with power := { s.power with colBytes := [] } }

/-- The slot that Peak p is to run with the other Peak, which is up and past it in its boot: both run one slot (R69, R346). -/
def joinSlot (s : State) (p : PeakId) : Option Nat :=
  if (s.peak p.other).up then
    match s.power.boot.get p.other with
    | .done => some (s.fld p.other Fd.bootStatusSlot)
    | .ready k => some k
    | .fetch (k + 1) => some (k + 1)
    | _ => none
  else none

/-- Does Peak p boot to join the other Peak? -/
def joins (s : State) (p : PeakId) : Bool := (joinSlot s p).isSome

/-- The fetch of a slot starts for a Peak. -/
def fetchStart (p : PeakId) (slot : Nat) (s : State) : State :=
  let s := setBoot p (.fetch slot) s
  match slot with
  | 0 => { s with power := { s.power with slot0 := none } }
  | 1 => { s with power := { s.power with slot1 := none } }
  | _ => colWait s

/-- r1: every word of the Peak's memories reads 0; the fetch starts. -/
def memoryPhase (p : PeakId) (s : State) : State :=
  if s.power.boot.get p = .r0 then
    let s := s.clearBytes (p.num * 8 * 2 ^ 17) ((p.num + 1) * 8 * 2 ^ 17)
    let s := s.clearBytes (peakKey p 0) (peakKey p (2 ^ 32))
    fetchStart p ((joinSlot s p).getD 0) s
  else s

def execMemoryPhaseComplete (s : State) : Out := .next (bothPeaks memoryPhase s)

/-- The last byte of a slot has reached both Peaks. -/
def slotFetched (slot : Nat) (img : List Byte) (s : State) : State :=
  if s.power.boot.a = .fetch slot ∨ s.power.boot.b = .fetch slot then
    { s with power := if slot = 0 then { s.power with slot0 := some (s.power.slot0.getD img) }
                      else { s.power with slot1 := some (s.power.slot1.getD img) } }
  else s

def execSlotFetchComplete (slot : Fin 2) (img : List Byte) (s : State) : Out := .next (slotFetched slot.val img s)

/-- A word of a Col image (R441). -/
def bootData (v : Word) (s : State) : State :=
  let st := s.gwFld ⟨Reg.colGwStatus, 1, 0⟩
  if st = 1 ∨ st = 2 then
    let s := { s with power := { s.power with colBytes := (wordBytes v.toNat).reverse ++ s.power.colBytes } }
    let n := s.power.colBytes.length
    let s := s.setRegW (gwKey Reg.colGwBootCount) (BitVec.ofNat 32 (n % 2 ^ 23))
    let done := decide (1024 ≤ n) && decide (1024 + imgWord s.power.colBytes.reverse 0xC ≤ n)
    s.setGwFld ⟨Reg.colGwStatus, 1, 0⟩ (if done then 3 else 2)
  else s.setGwFld Fd.colGwFlagsBootExtra 1

/-! ### Verdicts (R68, R69) -/

def errFld (slot : Nat) : Fld := if slot = 1 then Fd.bootStatusErr1 else Fd.bootStatusErr0

/-- A Peak has accepted a slot and will run it. -/
def bootAccept (p : PeakId) (slot : Nat) (img : List Byte) (s : State) : State :=
  let s := (s.setFld p Fd.bootStatusSlot slot).setFld p Fd.bootStatusSvn (imgWord img 8)
  let s := s.setFld p Fd.bootStatusKeySlot (if keysSkipped s then 0 else (keySlotOf s img).getD 0)
  setBoot p (.ready slot) { s with power := { s.power with imageHash := s.power.imageHash.set p (Config.sha256 (imgWhole img)) } }

/-- A Peak that accepted a slot which the other rejected shows 0x8 for it. -/
def errPeer (shown : State) (p : PeakId) (upTo : Nat) (s : State) : State :=
  forAll (List.range (upTo + 1)) (fun k s =>
    if shown.fld p (errFld k) = 0 ∧ shown.fld p.other (errFld k) ≠ 0 then s.setFld p (errFld k) 8 else s) s

/-- A joiner's verdict: a rejected slot locks it out (R346). -/
def joinVerdict (p : PeakId) (slot err : Nat) (img : List Byte) (s : State) : State :=
  let same := decide (slot ≠ 2) || decide (Config.sha256 (imgWhole img) = s.power.imageHash.get p.other)
  if err = 0 && same then bootAccept p slot img s else lockOut p (peakReset p s)

/-- The lowest slot up to `slot` that Peak p accepted, as its errors show. -/
def lowestOk (s : State) (p : PeakId) (slot : Nat) : Option Nat :=
  (List.range (slot + 1)).find? (fun k => decide (s.fld p (errFld k) = 0))

/-- Cases 3 to 5 of R69 and R72, for the Peaks `g`: after slot 1, or after an image of the Col port with its errors `err`. -/
def verdictRest (g : List PeakId) (col : Bool) (err : PeakId → Nat) (s : State) : State :=
  let bothMagic := g.all (fun p => decide (s.fld p Fd.bootStatusErr0 = 1) && decide (s.fld p Fd.bootStatusErr1 = 1))
  if !col && bothMagic && decide (s.fld .a Fd.lcsStateState ≤ 1) then forAll g (fun p s => fetchStart p 2 s) s
  else match g.find? (fun p => if col then decide (err p = 0) else (lowestOk s p 1).isSome) with
    | some p =>
      let s0 := s
      let slot := if col then 2 else (lowestOk s p 1).getD 0
      let s := if g.length = 2 then peakReset p.other (if col then s else errPeer s0 p 1 s) else s
      match slotImage s slot with
      | some img => bootAccept p slot img s
      | none => s
    | none => safeEnter 0xB .a (forAll g peakReset s)

/-- r3: the verdicts on the slot that the Peaks `g` fetched. BOOT.STATUS has no field for the result of a Col image. -/
def verdictCompare (g : List PeakId) (slot : Nat) (bad : PeakId → Bool) (s : State) : State :=
  match slotImage s slot with
  | none => s
  | some img =>
    let err := fun (p : PeakId) => slotCheck s img (bad p)
    let s := if slot = 2 then s else forAll g (fun p s => s.setFld p (errFld slot) (err p)) s
    match g with
    | [p] => if joins s p then joinVerdict p slot (err p) img s
      else if err p = 0 then bootAccept p slot img s
      else if slot = 0 then fetchStart p 1 s else verdictRest g (decide (slot = 2)) err s
    | _ =>
      if g.all (fun p => decide (err p = 0)) then
        let s0 := s
        forAll g (fun p s => bootAccept p slot img (if slot = 1 then errPeer s0 p 1 s else s)) s
      else if slot = 0 then forAll g (fun p s => fetchStart p 1 s) s
      else verdictRest g (decide (slot = 2)) err s

/-- The Peaks `g` fetched one slot, and its verdicts are compared. -/
def verdictsOn (badA badB : Bool) (g : List PeakId) (s : State) : State :=
  match g with
  | [] => s
  | p :: _ => match s.power.boot.get p with
    | .fetch slot => verdictCompare g slot (fun p => match p with
        | .a => badA
        | .b => badB) s
    | _ => s

def execBootVerdictCompare (badA badB : Bool) (s : State) : Out :=
  .next (if s.power.boot.a = s.power.boot.b then verdictsOn badA badB [.a, .b] s
    else bothPeaks (fun p s => verdictsOn badA badB [p] s) s)

/-! ### Retirement (R81) -/

/-- The tested units of each word. -/
def unitMask (w : Nat) : Nat :=
  match w with
  | 0 => 0xFFFFFF
  | 1 => 0xFFFFFFFF
  | 2 => 0xFFFF
  | 3 => 0xFFFFFFFF
  | 4 => 0x3F3FFFFF
  | 5 => 0x7FFFFFFF
  | 6 => 0xFFFFFFFF
  | _ => 0x3

/-- The bits in `0 ≤ i < n` of a number as a list. -/
def bitsOf (n v : Nat) : List Nat := (List.range n).filter (fun i => decide (bits v i i = 1))

/-- What Peak p shows of its retired cores and engines. -/
def retirePeak (p : PeakId) (s : State) : State :=
  let s := forAll (List.range 8) (fun c s => if s.retired p 0 c then s.setFld p (Fd.sysCoreStatusState c) 2 else s) s
  s.setFld p Fd.rdgStatusRetired ((List.range 8).foldl (fun n e => if s.retired p 0 (8 + e) then n + 2 ^ e else n) 0)

/-- What the shared blocks show of retired units: inputs, reliefs, timebases, legs, position channels, sensors, Cairn and pairs. -/
def retireShared (p : PeakId) (s : State) : State :=
  let s := forAll (List.range 48) (fun i s => if s.inputRetired p i then s.setFld .a (Fd.cirqInStatusRetired i) 1 else s) s
  let s := forAll (List.range 6) (fun b s =>
    let gone := fun (d : PeakId) => s.retired p 4 (match d with | .a => 16 + b | .b => 24 + b) || s.retired p 5 b
    let s := if gone .a && decide (s.fld .a (rotState .a b) ≠ rotNoRelief) then noRelief .a b s else s
    if gone .b && decide (s.fld .a (rotState .b b) ≠ rotNoRelief) then noRelief .b b s else s) s
  let s := forAll (List.range 8) (fun t s => if s.retired p 5 (6 + t) then s.setFld .a (Fd.pwmTbStatusRetired t) 1 else s) s
  let s := forAll legNumbers (fun n s => if s.retired p 5 (14 + n) then legDisable n (s.setFld .a (Fd.spurLegStatusRetired n) 1) else s) s
  let s := forAll (List.range 2) (fun k s => if s.retired p 5 (20 + k) then s.setFld .a (Fd.pifChStatusRetired k) 1 else s) s
  let s := forAll (List.range 4) (fun n s => if s.retired p 5 (22 + n) then sensorRetire (8 + n) s else s) s
  let s := if s.retired p 5 26 then cairnValid (s.setFld .a Fd.crnStatusRetired 1) else s
  let s := forAll (List.range 32) (fun q s => if s.retired p 6 q then s.setFld .a (Fd.pwmPairStatusRetired q) 1 else s) s
  pairsDecide s

/-- The units of word 0 whose failure holds the Peak in reset. -/
def holdMask : Nat := 0x8F0000

/-- Bits of a number that are 0 in another, in 32 bits. -/
def lacking (want have_ : Nat) : Nat := want &&& (0xFFFFFFFF ^^^ have_)

/-- The device-safe units of words 5 and 7 that were tested and failed. -/
def safeUnitsFail (s : State) (p : PeakId) : Bool := [27, 28, 29, 30].any (fun b => s.retired p 5 b) || [0, 1].any (fun b => s.retired p 7 b)

/-- The units of a word that can be tested now: Spur legs need VDRV (R85). -/
def testable (s : State) (w : Nat) : Nat := if w = 5 ∧ s.power.vdrv = false then unitMask 5 - 0x3F * 2 ^ 14 else unitMask w

/-- Results for the units `m` of a word enter PASS and DONE of Peak p; a unit that has failed stays failed until the next reset, but for
the units that are not retired (R83). -/
def passIn (p : PeakId) (w m pass : Nat) (s : State) : State :=
  let keep := if w = 5 then m &&& (0xFFFFFFFF - 0x78000000) else if w = 7 then 0 else m
  let failed := lacking (s.reg p (Reg.bstDone w) &&& keep) (s.reg p (Reg.bstPass w))
  let good := lacking (m &&& pass) failed
  let s := s.setReg p (Reg.bstPass w) (lacking (s.reg p (Reg.bstPass w)) m ||| good)
  s.setReg p (Reg.bstDone w) (s.reg p (Reg.bstDone w) ||| m)

/-! ### The power-on set (R80 to R85) -/

/-- The Peaks whose power-on set has not completed. -/
def testing (s : State) : List PeakId := [PeakId.a, PeakId.b].filter (fun p => (s.peak p).up && !s.bit p Fd.bstStatusPostDone)

/-- Peak p's own results. -/
def localIn (p : PeakId) (v : BitVec 96) (s : State) : State :=
  forAll (List.range 3) (fun w s => s.setReg p (Reg.bstLocal w) (bits v.toNat (32 * w + 31) (32 * w) &&& unitMask w)) s

def postDone (p : PeakId) (s : State) : State :=
  ((s.setFld p Fd.bstStatusMerged 1).setFld p Fd.bstStatusPostDone 1).setFld p Fd.bstStatusBusy 0

/-- A joiner's merge (R346): what is retired in the ACTIVE Peak is retired in it; a further failure locks it out. -/
def joinMerge (p : PeakId) (s : State) : State :=
  let q := p.other
  let bad := (List.range 3).any (fun w =>
    decide (lacking (lacking (unitMask w) (s.reg p (Reg.bstLocal w))) (lacking (s.reg q (Reg.bstDone w)) (s.reg q (Reg.bstPass w))) ≠ 0))
  if bad then lockOut p (peakReset p s)
  else
    let s := forAll (List.range 8) (fun w s =>
      (s.setReg p (Reg.bstPass w) (s.reg q (Reg.bstPass w))).setReg p (Reg.bstDone w) (s.reg q (Reg.bstDone w))) s
    retirePeak p (postDone p s)

/-- r4: the results merge. -/
def selfTestMerge (g : List PeakId) (shared : BitVec 160) (s : State) : State :=
  let ups := [PeakId.a, PeakId.b].filter (fun p => (s.peak p).up)
  let s := forAll (List.range 3) (fun w s =>
    let v := ups.foldl (fun n p => n &&& s.reg p (Reg.bstLocal w)) (unitMask w)
    forAll ups (fun p s => (s.setReg p (Reg.bstPass w) v).setReg p (Reg.bstDone w) (unitMask w)) s) s
  let s := if s.power.merged then s
    else bothPeaks (fun p s => forAll [3, 4, 5, 6, 7] (fun w s =>
      passIn p w (testable s w) (bits shared.toNat (32 * (w - 3) + 31) (32 * (w - 3))) s) s) s
  let s := forAll g postDone s
  let s := { s with power := { s.power with merged := true } }
  let s := retireShared (if (s.peak .a).up then .a else .b) (forAll ups retirePeak s)
  let held := g.filter (fun p => decide (lacking holdMask (s.reg p (Reg.bstLocal 0)) ≠ 0))
  let s := forAll held peakReset s
  if safeUnitsFail s .a then safeEnter 0xB .a { s with saf := { s.saf with unitsOk := false } }
  else
    let s := { s with saf := { s.saf with unitsOk := true } }
    if (s.peak .a).up || (s.peak .b).up then safChanged 0 0 0 s else safeEnter 0xB .a s

/-- r4 of a start or of a joiner. -/
def selfTestDone (a b : BitVec 96) (shared : BitVec 160) (s : State) : State :=
  let g := testing s
  let s := forAll g (fun p s => localIn p (match p with
    | .a => a
    | .b => b) s) s
  match g with
  | [] => s
  | [p] => if (s.peak p.other).up then joinMerge p s else selfTestMerge g shared s
  | _ => selfTestMerge g shared s

def execSelfTestComplete (a b : BitVec 96) (shared : BitVec 160) (s : State) : Out := .next (selfTestDone a b shared s)

/-! ### Handover (R71, R115, R156) -/

/-- The boot run starts on a core. -/
def bootRun (k : CoreSel) (s : State) : State :=
  let p := k.peak
  if s.retired p 0 k.core.val then s
  else
    let s := s.setCore k (({} : Core).enter 0 ((s.peak p).cycles64 / 64))
    let s := s.setFld p (Fd.sysCoreStatusState k.core.val) 1
    let s := s.setFld p (Fd.sysCoreStatusTask k.core.val) 0xFF
    let s := s.setFld p (Fd.sysCoreStatusSummit k.core.val) 0
    tracePut p 1 (p.num * 2 ^ 27 + k.core.val * 2 ^ 24 + 0xFF * 2 ^ 16 + s.stamp) s

/-- The load entries stand in the Peak's memories; a retired core's are skipped. -/
def loadImage (p : PeakId) (img : List Byte) (s : State) : State :=
  forAll (imgEntries img) (fun e s =>
    let data := imgSlice img (1024 + e.1) e.2.2.1
    if 0x20000 ≤ e.2.1 then s.setByteList (peakKey p e.2.1) data
    else forAll (List.finRange 8) (fun c s =>
      if bits e.2.2.2 c.val c.val = 1 ∧ s.retired p 0 c.val = false then s.setByteList (tcmKey ⟨p, c⟩ e.2.1) data else s) s) s

/-- Whole microseconds since Peak p's release. -/
def sinceRelease (p : PeakId) (s : State) : Nat := (s.tick - (s.peak p).releasedAt) / 400

/-- The handover of one Peak. -/
def handover (p : PeakId) (s : State) : State :=
  match s.power.boot.get p with
  | .ready slot =>
    if s.bit p Fd.bstStatusPostDone then
      match slotImage s slot with
      | some img =>
        let s := loadImage p img (setBoot p .done s)
        let s := (s.setFld p Fd.bootHandoverTimeUs (sinceRelease p s)).setBit p Fd.bootStatusAlone (!(s.peak p.other).up)
        let s := { s with gdm := { s.gdm with waited := s.gdm.waited.set p false, handoverAt := s.gdm.handoverAt.set p s.tick }
                          power := { s.power with pwrgd := s.power.pwrgd || !s.safe } }
        let s := if imgWord img 0x14 % 256 = 0 then s else fire p Ev.bootDone s
        forAll ((List.finRange 8).filter (fun c => decide (bits (imgWord img 0x14) c.val c.val = 1))) (fun c s => bootRun ⟨p, c⟩ s) s
      | none => s
    else s
  | _ => s

/-- A Peak that is ready hands over; in Bivouac and on the way to it none is left to. -/
def execHandover (p : PeakId) (s : State) : Out := .next (if s.running then acksAgain s (handover p s) else s)

/-! ### Lifecycle operations (R74 to R77) -/

/-- A request ends with a code. -/
def lcsResult (code : Nat) (s : State) : State := s.setFld .a Fd.lcsProgStatusResult code

/-- A request that the common conditions and its own have passed, or its refusal. -/
def lcsRequest (op : Nat) (key : Nat) (arg : Nat) (allowed v12 : Bool) (further : Nat) (s : State) : State :=
  if key ≠ 0x1C5A then lcsResult 1 s
  else if !allowed then lcsResult 2 s
  else if outputsIdle s = false then lcsResult 3 s
  else if !v12 then lcsResult 4 s
  else if s.bit .a Fd.lcsProgStatusBusy then lcsResult 0xA s
  else if further ≠ 0 then lcsResult further s
  else
    let s := (lcsResult 0 s).setFld .a Fd.lcsProgStatusBusy 1
    { s with power := { s.power with lcs := some ⟨op, arg⟩ } }

def lifeState (s : State) : Nat := s.fld .a Fd.lcsStateState

/-- Operation 0x01. An advance to RETIRED first clears the parameter store (R76). -/
def lcsAdvance (key arg : Nat) (v12 : Bool) (s : State) : State :=
  let st := lifeState s
  let ok := decide (st ≤ 2) && (decide (arg = 3) || (decide (arg = st + 1)))
  let further := if arg = 1 ∧ s.fld .a Fd.lcsKeystatProgrammed = 0 then 8
    else if arg = 2 ∧ s.bit .a Fd.safStatusCfgValid = false then 9 else 0
  let s' := lcsRequest 1 key arg ok v12 further s
  if arg = 3 ∧ s.power.lcs = none ∧ s'.power.lcs = some ⟨1, 3⟩ then s'.clearBytes (storeKey 0) (storeKey 0x80000) else s'

/-- Operation 0x02. -/
def lcsProgramKey (key arg : Nat) (v12 : Bool) (s : State) : State :=
  let stat := s.reg .a Reg.lcsKeystat
  let further := if bits stat arg arg = 1 ∨ bits stat (4 + arg) (4 + arg) = 1 then 7 else 0
  lcsRequest 2 key arg (decide (lifeState s ≤ 1) && decide (arg ≤ 3)) v12 further s

/-- Operation 0x03. -/
def lcsRevoke (key arg : Nat) (v12 : Bool) (s : State) : State :=
  let stat := s.reg .a Reg.lcsKeystat
  let live := (List.range 4).filter (fun k => decide (bits stat k k = 1) && decide (bits stat (8 + k) (8 + k) = 0))
  let allowed := (decide (lifeState s = 1) || decide (lifeState s = 2)) && decide (arg ≤ 3)
  lcsRequest 3 key arg allowed v12 (if live = [arg] then 6 else 0) s

/-- Operation 0x04. -/
def lcsRaise (key arg : Nat) (v12 : Bool) (s : State) : State :=
  let allowed := (decide (lifeState s = 1) || decide (lifeState s = 2)) && decide (arg ≤ 64)
  lcsRequest 4 key arg allowed v12 (if arg < s.fld .a Fd.lcsSvnCount then 2 else 0) s

/-- A write of LCS.PROG_CMD through the window. -/
def lcsCmdWrite (v : Nat) (v12 : Bool) (s : State) : State :=
  let key := bits v 31 16
  let arg := bits v 6 0
  match bits v 15 8 with
  | 1 => lcsAdvance key arg v12 s
  | 2 => lcsProgramKey key arg v12 s
  | 3 => lcsRevoke key arg v12 s
  | 4 => lcsRaise key arg v12 s
  | _ => lcsRequest 0 key arg false v12 0 s

def execLcsAdvanceState (key : BitVec 16) (arg : BitVec 7) (v12 : Bool) (s : State) : Out :=
  .next (whenKernel (lcsAdvance key.toNat arg.toNat v12) s)
def execLcsProgramKeySlot (key : BitVec 16) (arg : BitVec 7) (v12 : Bool) (s : State) : Out :=
  .next (whenKernel (lcsProgramKey key.toNat arg.toNat v12) s)
def execLcsRevokeKeySlot (key : BitVec 16) (arg : BitVec 7) (v12 : Bool) (s : State) : Out :=
  .next (whenKernel (lcsRevoke key.toNat arg.toNat v12) s)
def execLcsRaiseSvn (key : BitVec 16) (arg : BitVec 7) (v12 : Bool) (s : State) : Out :=
  .next (whenKernel (lcsRaise key.toNat arg.toNat v12) s)

/-- A state group after blowing: of its eight fuses `blown` read blown. -/
def blowGroup (f : Fuses) (target blown : Nat) : Fuses :=
  match target with
  | 1 => { f with groups := (max f.groups.1 blown, f.groups.2) }
  | 2 => { f with groups := (f.groups.1, max f.groups.2.1 blown, f.groups.2.2) }
  | _ => { f with groups := (f.groups.1, f.groups.2.1, max f.groups.2.2 blown) }

/-- The fuses an operation leaves where its verify passed, and where it failed; how far a failed raise of the SVN came nobody says. LCS.PROG_DATA is
taken as it stands when the operation completes or is interrupted, not when it is requested (DESIGN CHOICE, assumption 149: R75 does not say). -/
def lcsBlow (op : LcsOp) (blown : Nat) (ok : Bool) (s : State) : State :=
  let f := s.power.fuses
  let bit : BitVec 4 := BitVec.ofNat 4 (2 ^ op.arg)
  match op.op with
  | 1 => { s with power := { s.power with fuses := blowGroup f op.arg blown, lcsReset := ok && groupBlown blown } }
  | 2 =>
    let f := { f with hashes := (List.range 8).foldl (fun t j => Tab.put (fun _ => 0) t (8 * op.arg + j) (s.regW (regKey .a (Reg.lcsProgData j)))) f.hashes }
    { s with power := { s.power with fuses := if ok then { f with programmed := f.programmed ||| bit } else { f with damaged := f.damaged ||| bit } } }
  | 3 => { s with power := { s.power with fuses := if ok then { f with revoked := f.revoked ||| bit } else f } }
  | _ =>
    if ok then { s with power := { s.power with fuses := { f with svn := op.arg } } }
    else
      let r := s.takeFree
      let s := r.2
      { s with power := { s.power with fuses := { f with svn := f.svn + (Config.freeWord r.1).toNat % (op.arg + 1 - f.svn) } } }

/-- An operation has blown and verified its fuses. -/
def lcsDone (blown : Nat) (ok : Bool) (s : State) : State :=
  match s.power.lcs with
  | none => s
  | some op =>
    let ok := ok && (decide (op.op ≠ 1) || groupBlown blown)
    let s := lcsShow (lcsBlow op blown ok s)
    let s := lcsResult (if ok then 0 else 5) (s.setFld .a Fd.lcsProgStatusBusy 0)
    { s with power := { s.power with lcs := none } }

def execLifecycleOpComplete (blown : Fin 9) (ok : Bool) (s : State) : Out := .next (lcsDone blown.val ok s)

def execLifecycleReset (s : State) : Out :=
  .next (if s.power.lcsReset then
      let s := deviceReset { s with power := { s.power with cause := Nat.lor s.power.cause causeLifecycle } }
      if s.power.vauxG && !s.power.resetLow then coldStart s else s
    else s)

/-! ### On-demand tests (R86) -/

/-- Does a unit of Peak p carry a loaded task or a running stage? -/
def unitInUse (s : State) (p : PeakId) (w b : Nat) : Bool :=
  let input := fun (i : Nat) => decide (s.fld .a (Fd.cirqInCfgEn i) ≠ 0)
  let chain := fun (i : Nat) => s.bit p (Fd.clnInCtrlFineRun i) || s.bit p (Fd.clnInCtrlMeanRun i)
  let bank := fun (k : Nat) => (List.range 8).any (fun j => input (8 * k + j))
  match w with
  | 0 =>
    if b < 8 then s.inBootRun ⟨p, Fin.ofNat 8 b⟩ || (s.loaded p).any (fun n => decide (s.taskCore p n = ⟨p, Fin.ofNat 8 b⟩))
    else if b < 16 then
      decide (s.engMode p (b - 8) ≠ mOff) || (s.loaded p).any (fun n => decide (bits (s.reg p (Reg.trvTaskBindRdg n)) (b - 8) (b - 8) = 1))
    else if b = 19 then (List.range 64).any (loopRuns s p)
    else if b = 20 then (List.range 16).any (fun c => decide (s.fld p (Fd.dmaChStatusState c) ≠ 0))
    else if b = 21 ∨ b = 17 then (List.range 4).any (fun c => s.bit p (Fd.talChCtrlRun c))
    else if b = 22 then s.bit p ⟨Reg.macCtrl + p.num * 0x10000, 0, 0⟩ || s.bit p ⟨Reg.macCtrl + p.num * 0x10000, 1, 1⟩
    else !(s.loaded p).isEmpty
  | 1 => chain b
  | 2 => chain (32 + b)
  | 3 => input b
  | 4 => if b < 16 then input (32 + b) else bank (b % 8)
  | 5 => if b < 6 then bank b else if b = 20 ∨ b = 21 then decide (s.fld .a (Fd.pifChCfgMode (b - 20)) ≠ 0) else false
  | _ => false

/-- The reason to refuse a run, 0 for none. The run in progress of code 0x7 is the requesting Peak's own (DESIGN CHOICE, assumption 150: R86 does not
say whose). -/
def bistRefusal (m : Master) (w mask : Nat) (s : State) : Nat :=
  let p := m.peak
  let own := match m with
    | .core k => decide (w = 0) && decide (bits mask k.core.val k.core.val = 1)
    | _ => false
  if 2 ≤ lifeState s then 1
  else if s.holds p = false then 2
  else if outputsIdle s = false then 3
  else if (bitsOf 32 mask).any (unitInUse s p w) then 4
  else if own then 5
  else if w = 7 then 6
  else if (s.power.bist.get p).isSome then 7 else 0

/-- A write of BST.CTRL. -/
def bistWrite (m : Master) (v : Nat) (s : State) : State :=
  let p := m.peak
  let w := bits v 10 8
  let s := s.setFld p Fd.bstCtrlWord w
  if v % 2 = 0 then s
  else
    let mask := s.reg p Reg.bstMask &&& testable s w
    let code := bistRefusal m w mask s
    if code ≠ 0 then s.setFld p Fd.bstStatusRefuse code
    else
      let s := (s.setFld p Fd.bstCtrlStart 1).setFld p Fd.bstStatusBusy 1
      { s with power := { s.power with bist := s.power.bist.set p (some (w, mask)) } }

def execBistStart (m : Master) (val : Word) (s : State) : Out := .next (if (s.peak m.peak).up then bistWrite m val.toNat s else s)

/-- The marches leave 0 in what they test (R80). -/
def bistClear (p : PeakId) (mask : Nat) (s : State) : State :=
  let s := forAll (List.finRange 8) (fun c s => if bits mask c.val c.val = 1 then s.clearBytes (tcmKey ⟨p, c⟩ 0) (tcmKey ⟨p, c⟩ 0x20000) else s) s
  let s := if bits mask 16 16 = 1 then s.clearBytes (peakKey p 0x10000000) (peakKey p 0x10200000) else s
  if bits mask 17 17 = 1 then s.clearBytes (peakKey p 0x20000000) (peakKey p 0x20600000) else s

/-- A Peak is held in reset for a unit that failed while it runs; with both held the record is that of R83, PEAK 0. -/
def heldFail (p : PeakId) (s : State) : State :=
  if s.role p ≠ 0 then failPeak p 0xB 1 s
  else if s.role p.other = 1 then failover p 0xB s else safeEnter 0xB .a s

/-- A run completes: results and outcomes. -/
def bistDone (p : PeakId) (pass : Nat) (s : State) : State :=
  match s.power.bist.get p with
  | none => s
  | some (w, mask) =>
    let s := { s with power := { s.power with bist := s.power.bist.set p none } }
    let s := (s.setFld p Fd.bstCtrlStart 0).setFld p Fd.bstStatusBusy 0
    let s := if w < 3 then
        let s := s.setReg p (Reg.bstLocal w) (lacking (s.reg p (Reg.bstLocal w)) mask ||| (mask &&& pass))
        if w = 0 then bistClear p mask s else s
      else s
    let s := bothPeaks (fun q s => if (s.peak q).up then passIn q w mask pass s else s) s
    let s := retireShared p (bothPeaks (fun q s => if (s.peak q).up then retirePeak q s else s) s)
    if w = 0 ∧ lacking (mask &&& holdMask) pass ≠ 0 then heldFail p s
    else if w = 5 ∧ safeUnitsFail s p then safeEnter 0xB .a { s with saf := { s.saf with unitsOk := false } } else s

def execBistRunComplete (p : PeakId) (pass : Word) (s : State) : Out := .next (if (s.peak p).up then bistDone p pass.toNat s else s)

end Sys2Proof.Machine
end

