-- ==== Sys2Proof/Machine/Wrap.lean ====
section
/-! DEFINITION. The timebases: wraps, starts and stops, and their alignment to Cairn time (R10 to R12, R167, R270 to R273, R287 to R289, R336). -/

namespace Sys2Proof.Machine

/-! ### Alignment to Cairn time (R288) -/

/-- The signed offset from this tick to the nearest wrap of a running timebase. -/
def wrapOffset (s : State) (tb : Nat) : Int :=
  let back : Int := (s.wrapOf tb : Int) - s.tick
  let ahead : Int := (s.periodStart tb : Int) + ((s.tb tb).prd + 1 : Nat) - s.tick
  if back.natAbs ≤ ahead.natAbs then back else ahead

/-- What a Cairn second edge does to a tracked timebase. -/
def trackEdge (tb : Nat) (s : State) : State :=
  if s.tbRuns tb && s.bit .a (Fd.pwmTbAlignTrack tb) then
    let e := wrapOffset s tb
    let q := corrQ s tb
    let s := s.setRegI .a (Reg.pwmTbCairnErr tb) e
    alignRefresh tb (s.setTb tb { s.tb tb with plan := rneDiv e q, edged := true })
  else s

/-- A second edge: the nanoseconds pass through 0, and the tracked timebases plan their corrections. -/
def secondEdge (s : State) : State :=
  let c := s.cairn
  if c.running && !s.cairnRetired then
    let c := if 10 ^ 9 ≤ c.ns then { c with ns := c.ns - 10 ^ 9 } else { c with ns := 0, frac := 0 }
    let s := fireBoth Ev.crnSec { s with cairn := { c with sec := (c.sec + 1) % 2 ^ 48 } }
    if s.saddle.clock then forAll (List.range 8) trackEdge s else s
  else s

def execCairnSecondEdge (s : State) : Out := .next (secondEdge s)

/-- A planned correction is made at the wrap: a late wrap's period begins at Q, an early one's holds at 0. -/
def correct (tb : Nat) (s : State) : State :=
  if s.bit .a (Fd.pwmTbAlignTrack tb) then
    let t := s.tb tb
    if corrBlocked s tb || decide (t.plan = 0) then s
    else
      let q := corrQ s tb
      let s := s.bump .a (Fd.pwmTbCorrCountCount tb) (Fd.pwmTbCorrCountSat tb)
      if 0 < t.plan then (s.setReg .a (Reg.pwmTbCount tb) q).setTb tb { t with plan := t.plan - 1 }
      else s.setTb tb { t with plan := t.plan + 1, hold := q }
  else s

/-! ### Wraps and starts -/

/-- A new period begins: the PRD and every shadow of the timebase latch. -/
def periodBegin (tb : Nat) (s : State) : State :=
  let s := s.setTb tb { s.tb tb with prd := s.fld .a (Fd.pwmTbPrdPrd tb), hold := 0 }
  { (s.setReg .a (Reg.pwmTbCount tb) 0) with wrapTick := Tab.put (fun _ => 0) s.wrapTick tb s.tick }

/-- Compares, pairs and Spur legs of the timebase latch (R12, R302). -/
def latchAll (tb : Nat) (s : State) : State := pwmRefresh (forAll legNumbers (legWrap tb) (saddleLatch tb s))

/-- What the period timebase's wrap or start adds (R167, R168, R171, R337). -/
def periodEvent (tb : Nat) (start : Bool) (s : State) : State :=
  if tb = s.periodTb then
    let s := { s with periodCount := if start then 0 else (s.periodCount + 1) % 2 ^ 48 }
    outputCompare (bothPeaks (fun p s => frameSeries p start (replaceAtWrap p s)) s)
  else s

/-- A timebase starts: a start counts as a wrap. -/
def startTb (tb : Nat) (s : State) : State :=
  let s := joinWrap tb ((s.setFld .a (Fd.pwmTbStatusRun tb) 1).setFld .a (Fd.pwmTbStatusArmed tb) 0)
  let s := periodBegin tb (s.setTb tb { s.tb tb with stopping := false, plan := 0 })
  let s := meanStart tb (swbWrap tb false (rdgWrap tb false (rephaseTb tb s)))
  periodEvent tb true (fireBoth (Ev.tbWrap tb) (latchAll tb s))

/-- The wrap that a STOP asked for: it latches no shadow, and the counter holds at 0 (R273). Late writes move into their shadows (R284), and a
replacement's period is over (R171). -/
def stopWrap (tb : Nat) (s : State) : State :=
  let s := { s with wrapTick := Tab.put (fun _ => 0) s.wrapTick tb s.tick }
  let s := meanWrap tb (swbWrap tb true (rdgWrap tb true s))
  let s := meanStop tb ((s.setFld .a (Fd.pwmTbStatusRun tb) 0).setReg .a (Reg.pwmTbCount tb) 0)
  let s := forAll legNumbers (legLateMove tb) (lateMove tb (s.setTb tb { s.tb tb with stopping := false, plan := 0, hold := 0 }))
  let s := fireBoth (Ev.tbWrap tb) (legsDecide (pairsDecide s))
  if tb = s.periodTb then outputCompare (bothPeaks (fun p s => frameStop p (replaceClose p s)) s) else s

/-- A wrap from PRD to 0. -/
def wrapNow (tb : Nat) (s : State) : State :=
  if s.saddle.clock && s.tbRuns tb then
    let s := joinWrap tb (mirrorSteps tb s)
    if (s.tb tb).stopping then stopWrap tb s
    else
      let s := meanWrap tb (swbWrap tb true (rdgWrap tb true (periodBegin tb s)))
      periodEvent tb false (fireBoth (Ev.tbWrap tb) (latchAll tb (correct tb s)))
  else s

def execTimebaseWrap (tb : Fin 8) (s : State) : Out := .next (wrapNow tb.val s)

/-- An armed timebase reaches its Cairn instant. -/
def execAlignedStart (tb : Fin 8) (s : State) : Out :=
  .next (if s.saddle.clock && s.bit .a (Fd.pwmTbStatusArmed tb.val) then startTb tb.val s else s)

/-! ### PWM.TB_CMD (R272, R273, R287, R336) -/

/-- Has the aligned start's instant passed, or is Cairn not valid? -/
def alignLate (s : State) (tb : Nat) : Bool :=
  let at_ := s.reg .a (Reg.pwmTbAlignS tb) * 10 ^ 9 + s.reg .a (Reg.pwmTbAlignNs tb) % 2 ^ 30
  !s.bit .a Fd.crnStatusValid || decide (at_ < s.cairnNs % (2 ^ 32 * 10 ^ 9))

/-- A START bit for a timebase that stands. -/
def startBit (tb : Nat) (s : State) : State :=
  if s.bit .a (Fd.pwmTbStatusRetired tb) then s.raise .a Fd.pwmFlagsStartRefused
  else if periodRange s tb (s.fld .a (Fd.pwmTbPrdPrd tb)) = false then s.raise .a Fd.pwmFlagsPrdRange
  else if s.bit .a (Fd.pwmTbAlignStartAt tb) then
    if alignLate s tb then (s.setFld .a (Fd.pwmTbStatusArmed tb) 0).raise .a Fd.pwmFlagsAlignLate else s.setFld .a (Fd.pwmTbStatusArmed tb) 1
  else startTb tb s

/-- A write of PWM.TB_CMD that the gate admits: each bit is judged against the state before the write. -/
def tbCmdWrite (start stop : Nat) (s : State) : State :=
  if s.saddle.clock then
    let ran := (List.range 8).filter s.tbRuns
    forAll (List.range 8) (fun t s =>
      if ran.contains t then (if bits stop t t = 1 then s.setTb t { s.tb t with stopping := true } else s)
      else if bits start t t = 1 then startBit t s else s) s
  else s

def execTimebaseStart (m : Master) (mask : BitVec 8) (s : State) : Out :=
  .next (gated m Reg.pwmTbCmd (tbCmdWrite mask.toNat 0) s)
def execTimebaseStop (m : Master) (mask : BitVec 8) (s : State) : Out :=
  .next (gated m Reg.pwmTbCmd (tbCmdWrite 0 mask.toNat) s)

end Sys2Proof.Machine
end

