-- ==== Sys2Proof/Machine/Observe.lean ====
section
/-! DEFINITION. Mailboxes, doorbells and the interrupt lines (R438 to R440), the trace port (R442, R443) and the counters (R444). -/

namespace Sys2Proof.Machine

/-! ### Mailboxes (R438, R439) -/

/-- Keep COL.STATUS in step. -/
def colLevels (p : PeakId) (s : State) : State :=
  s.setReg p Reg.colStatus ((s.peak p).inbox.length + (s.peak p).outbox.length * 2 ^ 16)

/-- Is the master the host? -/
def fromHost : Master → Bool
  | .host _ => true
  | .core _ => false
  | .dma _ _ => false
  | .boot _ => false

/-- A write of COL.IN_PUSH. -/
def inPush (m : Master) (v : Word) (s : State) : State :=
  let p := m.peak
  let k := s.peak p
  if fromHost m = false then s.raise p Fd.colFlagsWrongSide
  else if 256 ≤ k.inbox.length then s.raise p Fd.colFlagsInOverflow
  else
    let s := colLevels p (s.setPeak p { k with inbox := k.inbox ++ [v] })
    if k.inbox.length = s.fld p Fd.colThreshInThresh then fire p Ev.colIn s else s

/-- A read of COL.IN_POP. -/
def inPop (m : Master) (s : State) : Nat × State :=
  let p := m.peak
  let k := s.peak p
  if fromHost m then (0, s.raise p Fd.colFlagsWrongSide)
  else match k.inbox with
    | [] => (0, s.raise p Fd.colFlagsInUnderrun)
    | v :: r =>
      let s := colLevels p (s.setPeak p { k with inbox := r })
      (v.toNat, if r = [] then s.setFld p Fd.colIntPendInEmpty 1 else s)

/-- A write of COL.OUT_PUSH. -/
def outPush (m : Master) (v : Word) (s : State) : State :=
  let p := m.peak
  let k := s.peak p
  if fromHost m then s.raise p Fd.colFlagsWrongSide
  else if 256 ≤ k.outbox.length then s.raise p Fd.colFlagsOutOverflow
  else
    let s := colLevels p (s.setPeak p { k with outbox := k.outbox ++ [v] })
    if k.outbox.length = s.fld p Fd.colThreshOutThresh then s.setFld p Fd.colIntPendOutReady 1 else s

/-- A read of COL.OUT_POP. -/
def outPop (m : Master) (s : State) : Nat × State :=
  let p := m.peak
  let k := s.peak p
  if fromHost m = false then (0, s.raise p Fd.colFlagsWrongSide)
  else match k.outbox with
    | [] => (0, s.raise p Fd.colFlagsOutUnderrun)
    | v :: r =>
      let s := colLevels p (s.setPeak p { k with outbox := r })
      (v.toNat, if r = [] then fire p Ev.colOut s else s)

/-- A core's write of COL.DOORBELL. -/
def doorbell (m : Master) (v : Nat) (s : State) : State :=
  let p := m.peak
  if fromHost m then s else s.setFld p Fd.colIntPendDb (s.fld p Fd.colIntPendDb ||| v % 256)

def execInPush (m : Master) (val : Word) (s : State) : Out := .next (if (s.peak m.peak).up then inPush m val s else s)
def execInPop (m : Master) (s : State) : Out := .next (if (s.peak m.peak).up then returned (inPop m s) else s)
def execOutPush (m : Master) (val : Word) (s : State) : Out := .next (if (s.peak m.peak).up then outPush m val s else s)
def execOutPop (m : Master) (s : State) : Out := .next (if (s.peak m.peak).up then returned (outPop m s) else s)
def execDoorbell (m : Master) (val : Word) (s : State) : Out := .next (if (s.peak m.peak).up then doorbell m val.toNat s else s)

/-- Is COL_INTn asserted (R440)? -/
def colInt (s : State) (second : Bool) : Bool :=
  let en := if second then Reg.colIntEn1 else Reg.colIntEn0
  let gw := if second then Reg.colGwIntEn1 else Reg.colGwIntEn0
  [PeakId.a, PeakId.b].any (fun p => (s.peak p).up && decide (s.reg p Reg.colIntPend &&& s.reg p en ≠ 0)) ||
    decide ((s.regW (gwKey Reg.colGwIntPend)).toNat &&& (s.regW (gwKey gw)).toNat ≠ 0)

/-- Is the open-drain pin COL_INT0, or COL_INT1, pulled low? Without VIO2 it is high-impedance (R57). -/
def State.colIntPin (s : State) (second : Bool) : Bool := s.power.vio2 && colInt s second

/-- A word written to COL.GW_BOOT_DATA: the window answers but in RETIRED (R78, R437). -/
def execBootDataWord (val : Word) (s : State) : Out :=
  .next (if kernelRuns s && decide (lifeState s ≠ 3) then bootData val s else s)

/-! ### Trace (R442, R443) -/

/-- A pair of tick words for a Peak. -/
def tickPair (p : PeakId) (s : State) : State :=
  let t := s.freeTick
  tracePut p 0xE (p.num * 2 ^ 27 + t % 2 ^ 24) (tracePut p 0xD (p.num * 2 ^ 27 + t / 2 ^ 24 % 2 ^ 24) s)

/-- Tick bits [15:0] wrap. -/
def execTickPair (s : State) : Out := .next (if s.saddle.clock then bothPeaks tickPair s else s)

/-- A write of OBS.TRC_CTRL: at enable an ALIGN and a tick pair are sent. -/
def trcCtrlWrite (p : PeakId) (v : Nat) (s : State) : State :=
  let was := s.bit p Fd.obsTrcCtrlEn
  let s := s.setReg p Reg.obsTrcCtrl (v % 2 ^ 16)
  if v % 2 = 1 ∧ was = false then tickPair p { s with col := { s.col with sinceAlign := 4096 } } else s

/-- The next packet of a Peak: LOST where packets were dropped, else the oldest of its FIFO. -/
def peakPacket (p : PeakId) (s : State) : Option Word :=
  let k := s.peak p
  if k.traceLost ≠ 0 then some (BitVec.ofNat 32 (9 * 2 ^ 28 + p.num * 2 ^ 27 + k.traceLost)) else k.trace.head?

/-- That packet leaves the Peak. -/
def packetTaken (p : PeakId) (s : State) : State :=
  if (s.peak p).traceLost ≠ 0 then s.setPeak p { s.peak p with traceLost := 0 }
  else s.setPeak p { s.peak p with trace := (s.peak p).trace.tail }

def traceOn (s : State) : Bool := s.bit .a Fd.obsTrcCtrlEn || s.bit .b Fd.obsTrcCtrlEn

/-- The merging unit's output, the packets since the last ALIGN and whose turn comes next. -/
def packetOut (w : Option Word) (since : Nat) (turn : PeakId) (s : State) : State :=
  { s with col := { s.col with sinceAlign := since, sent := w, turn := turn } }

/-- The merging unit sends one packet: ALIGN when it is due, else the Peak's whose turn it is, else the other's, else IDLE. -/
def tracePacket (s : State) : State :=
  if !s.saddle.clock then s
  else if !traceOn s then packetOut none s.col.sinceAlign s.col.turn s
  else if 4096 ≤ s.col.sinceAlign then packetOut (some 0xA25A5A5A) 0 s.col.turn s
  else if (peakPacket s.col.turn s).isSome then
    packetOut (peakPacket s.col.turn s) (s.col.sinceAlign + 1) s.col.turn.other (packetTaken s.col.turn s)
  else if (peakPacket s.col.turn.other s).isSome then
    packetOut (peakPacket s.col.turn.other s) (s.col.sinceAlign + 1) s.col.turn (packetTaken s.col.turn.other s)
  else packetOut (some 0) (s.col.sinceAlign + 1) s.col.turn s

def execTracePacket (s : State) : Out := .next (tracePacket s)

/-! ### Counters (R444) -/

/-- A write of EN. -/
def counterEnable (p : PeakId) (k v : Nat) (s : State) : State :=
  let was := s.bit p ⟨Reg.obsCntCtrl k, 0, 0⟩
  let s := s.setReg p (Reg.obsCntCtrl k) (v % 2)
  if v % 2 = 1 ∧ was = false then
    (s.setPeak p { s.peak p with obs := Tab.put (fun _ => 0) (s.peak p).obs k 0 }).setFld p (Fd.obsCntHiSat k) 0
  else s

/-- A read of LO latches HI. -/
def counterRead (p : PeakId) (k : Nat) (s : State) : Nat × State :=
  let c := Tab.get (fun _ => 0) (s.peak p).obs k
  (c % 2 ^ 32, s.setFld p ⟨Reg.obsCntHi k, 15, 0⟩ (c / 2 ^ 32))

def execCounterEnable (m : Master) (k : Fin 8) (s : State) : Out :=
  .next (if (s.peak m.peak).up then counterEnable m.peak k.val 1 s else s)
def execCounterRead (m : Master) (k : Fin 8) (s : State) : Out :=
  .next (if (s.peak m.peak).up then returned (counterRead m.peak k.val s) else s)

end Sys2Proof.Machine
end

