-- ==== Sys2Proof/Machine/Dma.lean ====
section
/-! DEFINITION. DMA channels: starting, appending, pausing and stopping (R387 to R392). -/

namespace Sys2Proof.Machine

def State.dch (s : State) (p : PeakId) (c : Nat) : DmaChan := Tab.get (fun _ => {}) (s.peak p).dma c
def State.setDch (s : State) (p : PeakId) (c : Nat) (g : DmaChan) : State :=
  s.setPeak p { s.peak p with dma := Tab.put (fun _ => {}) (s.peak p).dma c g }

/-- STATUS.STATE. -/
def dIdle : Nat := 0
def dRunning : Nat := 1
def dPausing : Nat := 2
def dPaused : Nat := 3
def dHalted : Nat := 4

def State.dmaState (s : State) (p : PeakId) (c : Nat) : Nat := s.fld p (Fd.dmaChStatusState c)
def State.rdWidth (s : State) (p : PeakId) (c : Nat) : Nat := 2 ^ s.fld p (Fd.dmaChCfgRdW c)
def State.wrWidth (s : State) (p : PeakId) (c : Nat) : Nat := 2 ^ s.fld p (Fd.dmaChCfgWrW c)
def State.dmaIndexed (s : State) (p : PeakId) (c : Nat) : Bool := decide (s.fld p (Fd.dmaChCfgSrcMode c) = 2)
def State.dmaCredits (s : State) (p : PeakId) (c : Nat) : Nat := s.fld p (Fd.dmaChCfgCredits c) + 1

/-- Bytes in the holding register. -/
def DmaChan.heldBytes (g : DmaChan) : Nat := (g.held.map List.length).foldl (· + ·) 0

/-- A flag of the channel, and its bit in DMA.FLAGS. -/
def dmaFlag (p : PeakId) (c : Nat) (f : Fld) (s : State) : State := setBitOf p ⟨Reg.dmaFlags, 15, 0⟩ c true (s.raise p f)

/-- Keep the credit counts of STATUS in step (R390). -/
def dmaRefresh (p : PeakId) (c : Nat) (s : State) : State :=
  let g := s.dch p c
  let s := (s.setFld p (Fd.dmaChStatusInFlight c) g.flight.length).setFld p (Fd.dmaChStatusHeld c) g.held.length
  s.setFld p (Fd.dmaChStatusFreeCr c) (s.dmaCredits p c - g.flight.length - g.held.length)

/-- Is there a read left to issue? An INDEX table ends after INDEX_N entries (R388). -/
def dmaCanRead (p : PeakId) (c : Nat) (s : State) : Bool :=
  let g := s.dch p c
  decide (0 < g.toRead) && (!s.dmaIndexed p c || (decide (g.idx < s.reg p (Reg.dmaChIndexN c) % 2 ^ 16) && decide (0 < s.reg p (Reg.dmaChElem c) % 2 ^ 13)))

/-- May the channel issue a read: freely while RUNNING; in a drain only until the bytes read make a whole number of writes (R392). -/
def dmaMayRead (p : PeakId) (c : Nat) (s : State) : Bool :=
  let g := s.dch p c
  let part := (g.flight.length * s.rdWidth p c + g.heldBytes) % s.wrWidth p c
  !g.failing && (decide (s.dmaState p c = dRunning) || (decide (s.dmaState p c = dPausing) && decide (part ≠ 0)))

/-- Issue one read: it takes a credit. -/
def dmaReadOne (p : PeakId) (c : Nat) (s : State) : State :=
  let g := s.dch p c
  let w := s.rdWidth p c
  if dmaMayRead p c s && dmaCanRead p c s && decide (g.flight.length + g.held.length < s.dmaCredits p c) then
    if s.dmaIndexed p c then
      let a := s.reg p (Reg.dmaChSrc c) + s.sramGet p (s.reg p (Reg.dmaChIndexBase c) + 4 * g.idx) + g.elem
      let past := decide (s.reg p (Reg.dmaChElem c) % 2 ^ 13 ≤ g.elem + w)
      s.setDch p c { g with flight := g.flight ++ [a % 2 ^ 32], toRead := g.toRead - w
                            idx := if past then g.idx + 1 else g.idx, elem := if past then 0 else g.elem + w }
    else
      s.setDch p c { g with flight := g.flight ++ [g.rdAddr % 2 ^ 32], toRead := g.toRead - w
                            rdAddr := if s.fld p (Fd.dmaChCfgSrcMode c) = 1 then g.rdAddr else g.rdAddr + w }
  else s

/-- Issue every read that the credits allow. -/
def dmaReads (p : PeakId) (c : Nat) (s : State) : State :=
  dmaRefresh p c (forAll (List.range 16) (fun _ s => dmaReadOne p c s) s)

/-- The active set starts from the first byte not yet moved. -/
def dmaBegin (p : PeakId) (c : Nat) (s : State) : State :=
  let s := s.setDch p c { toRead := s.reg p (Reg.dmaChCount c) % 2 ^ 24, rdAddr := s.reg p (Reg.dmaChSrc c)
                          idx := s.fld p (Fd.dmaChIndexPosIndex c), elem := s.fld p (Fd.dmaChIndexPosElemPos c) }
  dmaReads p c (s.setFld p (Fd.dmaChStatusState c) (if s.bit p (Fd.dmaChCtrlPause c) then dPausing else dRunning))

/-- The shadow set moves into the active set. -/
def dmaTake (p : PeakId) (c : Nat) (s : State) : State :=
  let s := (s.setReg p (Reg.dmaChSrc c) (s.reg p (Reg.dmaChShSrc c))).setReg p (Reg.dmaChDst c) (s.reg p (Reg.dmaChShDst c))
  let s := s.setReg p (Reg.dmaChCount c) (s.reg p (Reg.dmaChShCount c) % 2 ^ 24)
  let s := s.setReg p (Reg.dmaChIndexBase c) (s.reg p (Reg.dmaChShIndexBase c))
  let s := s.setReg p (Reg.dmaChIndexN c) (s.reg p (Reg.dmaChShIndexN c) % 2 ^ 16)
  (s.setReg p (Reg.dmaChIndexPos c) 0).setFld p (Fd.dmaChCtrlShadowValid c) 0

/-- Why a GO is refused, 0 for not at all (R389): judged on the set that would start. -/
def dmaGoCode (p : PeakId) (c : Nat) (s : State) : Nat :=
  let st := s.dmaState p c
  let sv := s.bit p (Fd.dmaChCtrlShadowValid c)
  let src := s.reg p (if sv then Reg.dmaChShSrc c else Reg.dmaChSrc c)
  let dst := s.reg p (if sv then Reg.dmaChShDst c else Reg.dmaChDst c)
  let count := s.reg p (if sv then Reg.dmaChShCount c else Reg.dmaChCount c) % 2 ^ 24
  let base := s.reg p (if sv then Reg.dmaChShIndexBase c else Reg.dmaChIndexBase c)
  let n := s.reg p (if sv then Reg.dmaChShIndexN c else Reg.dmaChIndexN c) % 2 ^ 16
  let elem := s.reg p (Reg.dmaChElem c) % 2 ^ 13
  let moved := if sv = false ∧ st = dHalted then s.fld p (Fd.dmaChIndexPosIndex c) * elem + s.fld p (Fd.dmaChIndexPosElemPos c) else 0
  if st = dRunning ∨ st = dPausing ∨ st = dPaused then 1
  else if count = 0 ∨ count % max (s.rdWidth p c) (s.wrWidth p c) ≠ 0 then 2
  else if src % s.rdWidth p c ≠ 0 ∨ dst % s.wrWidth p c ≠ 0 ∨ (s.dmaIndexed p c = true ∧ base % 4 ≠ 0) then 3
  else if s.dmaIndexed p c = true ∧ count + moved ≠ n * elem then 4
  else 0

/-- May the master start a transfer: a core or the host (R387)? -/
def dmaStarter : Master → Bool
  | .core _ => true
  | .host _ => true
  | .dma _ _ => false
  | .boot _ => false

/-- A write of GO. -/
def dmaGo (m : Master) (c : Nat) (s : State) : State :=
  let p := m.peak
  let code := dmaGoCode p c s
  if dmaStarter m = false then s
  else if s.retired p 0 20 then s.raise p Fd.dmaFlagsGoRefused
  else if code ≠ 0 then (s.setFld p (Fd.dmaChStatusRefuse c) code).raise p Fd.dmaFlagsGoRefused
  else
    let s := (s.setFld p (Fd.dmaChStatusRefuse c) 0).setFld p (Fd.dmaChStatusDone c) 0
    let s := s.setFld p (Fd.dmaChStatusAppended c) 0
    let s := if s.bit p (Fd.dmaChCtrlShadowValid c) then dmaTake p c s
      else if s.dmaState p c = dIdle then s.setReg p (Reg.dmaChIndexPos c) 0 else s
    dmaBegin p c s

/-- A write of SHADOW_VALID = 1; one in the tick of a completion that it missed is late (R391). -/
def dmaShadowValid (p : PeakId) (c : Nat) (s : State) : State :=
  let late := decide (s.dmaState p c = dIdle) && decide ((s.dch p c).doneAt = some s.tick)
  let s := s.setFld p (Fd.dmaChCtrlShadowValid c) 1
  if late then dmaFlag p c (Fd.dmaChFlagsLateAppend c) s else s

def dmaCancel (p : PeakId) (c : Nat) (s : State) : State := s.setFld p (Fd.dmaChCtrlShadowValid c) 0

/-- A write of PAUSE. -/
def dmaPause (p : PeakId) (c : Nat) (on : Bool) (s : State) : State :=
  let s := s.setBit p (Fd.dmaChCtrlPause c) on
  let st := s.dmaState p c
  if on then (if st = dRunning then dmaReads p c (s.setFld p (Fd.dmaChStatusState c) dPausing) else s)
  else if (st = dPausing ∨ st = dPaused) ∧ (s.dch p c).aborting = false then dmaReads p c (s.setFld p (Fd.dmaChStatusState c) dRunning)
  else s

/-- The channel stops and forgets its transfer. -/
def dmaStop (p : PeakId) (c st : Nat) (s : State) : State :=
  dmaRefresh p c ((s.setDch p c {}).setFld p (Fd.dmaChStatusState c) st)

/-- A write of ABORT. -/
def dmaAbort (p : PeakId) (c : Nat) (s : State) : State :=
  let st := s.dmaState p c
  if st = dIdle then s
  else if st = dRunning ∨ st = dPausing then
    dmaReads p c ((s.setDch p c { s.dch p c with aborting := true }).setFld p (Fd.dmaChStatusState c) dPausing)
  else dmaStop p c dIdle (s.setFld p (Fd.dmaChStatusDone c) 0)

/-- A write of CTRL: `act` its bits at 1, `low` whether it reaches the low byte. SHADOW_VALID acts before GO (R395). -/
def dmaCtrlWrite (m : Master) (c act : Nat) (low : Bool) (s : State) : State :=
  let p := m.peak
  if low = false then s
  else
    let s := if bits act 1 1 = 1 then dmaShadowValid p c s else s
    let s := if bits act 4 4 = 1 then dmaCancel p c s else s
    let s := if (bits act 2 2 = 1) = (s.bit p (Fd.dmaChCtrlPause c) = true) then s else dmaPause p c (decide (bits act 2 2 = 1)) s
    let s := if bits act 0 0 = 1 then dmaGo m c s else s
    if bits act 3 3 = 1 then dmaAbort p c s else s

/-- A write of the active set or CFG, whose owner runs while the channel is not IDLE or HALTED. -/
def dmaOwned (p : PeakId) (c : Nat) (s : State) : Bool := decide (s.dmaState p c ≠ dIdle) && decide (s.dmaState p c ≠ dHalted)

/-- The present drain is over (R392). -/
def dmaDrained (p : PeakId) (c : Nat) (s : State) : State :=
  let g := s.dch p c
  if s.dmaState p c = dPausing ∧ g.failing = false ∧ g.flight = [] ∧ g.held = [] ∧ g.errAddr = none then
    if g.aborting then dmaStop p c dIdle (s.setFld p (Fd.dmaChStatusDone c) 0)
    else dmaRefresh p c (s.setFld p (Fd.dmaChStatusState c) dPaused)
  else s

def execDmaGo (m : Master) (ch : Fin 16) (s : State) : Out := .next (if (s.peak m.peak).up then dmaGo m ch.val s else s)
def execDmaShadowValid (m : Master) (ch : Fin 16) (s : State) : Out :=
  .next (if (s.peak m.peak).up then dmaShadowValid m.peak ch.val s else s)
def execDmaCancel (m : Master) (ch : Fin 16) (s : State) : Out := .next (if (s.peak m.peak).up then dmaCancel m.peak ch.val s else s)
def execDmaPause (m : Master) (ch : Fin 16) (s : State) : Out := .next (if (s.peak m.peak).up then dmaPause m.peak ch.val true s else s)
def execDmaResume (m : Master) (ch : Fin 16) (s : State) : Out := .next (if (s.peak m.peak).up then dmaPause m.peak ch.val false s else s)
def execDmaAbort (m : Master) (ch : Fin 16) (s : State) : Out := .next (if (s.peak m.peak).up then dmaAbort m.peak ch.val s else s)
def execDmaDrainComplete (p : PeakId) (ch : Fin 16) (s : State) : Out := .next (if (s.peak p).up then dmaDrained p ch.val s else s)

/-- 64 fabric cycles after an error the access is repeated (R393). -/
def execDmaRetry (p : PeakId) (ch : Fin 16) (s : State) : Out :=
  .next (let g := s.dch p ch.val
    if (s.peak p).up && g.errAddr.isSome && !g.failing then
      let s := s.bump p (Fd.dmaChRetryCountCount ch.val) (Fd.dmaChRetryCountSat ch.val)
      s.setDch p ch.val { g with retries := g.retries + 1, errAddr := none }
    else s)

end Sys2Proof.Machine
end

