-- ==== Sys2Proof/Machine/Fabric.lean ====
section
/-! DEFINITION. A master's accesses to its Peak's view: what a register's write and read do (R5 to R7, R20, R21, R160, R473), the memories
(R31, R110, R372), and unmapped addresses (R33). -/

namespace Sys2Proof.Machine

/-! ### Places -/

/-- What an address of a Peak's view reaches. -/
inductive Place where
  /-- A byte of TCM or control SRAM, by key. -/
  | mem (key : Nat)
  /-- A byte of Moraine buffer b. -/
  | pool (b : Nat) (key : Nat)
  | store (key : Nat)
  | reg (row : RegRow)
  | unmapped
  deriving DecidableEq, Repr

/-- `core` is the core that a fabric master selects for TCM (R110); a core reaches its own DTCM. A retired core's TCM is unmapped. -/
def placeOf (m : Master) (core a : Nat) (s : State) : Place :=
  let p := m.peak
  if a < 0x20000 then
    match m with
    | .core k => if 0x10000 ≤ a then .mem (tcmKey k a) else .unmapped
    | _ => if s.retired p 0 core then .unmapped else .mem (tcmKey ⟨p, Fin.ofNat 8 core⟩ a)
  else if 0x10000000 ≤ a ∧ a < 0x10200000 then .mem (peakKey p a)
  else if 0x20000000 ≤ a ∧ a < 0x20600000 then .pool ((a - 0x20000000) / 4096) (peakKey p a)
  else if 0x30000000 ≤ a ∧ a < 0x30080000 then .store (storeKey a)
  else match rowAt (a / 4 * 4) with
    | some r => .reg r
    | none => .unmapped

/-- An unmapped access (R33). -/
def unmappedAt (p : PeakId) (a : Nat) (s : State) : State :=
  if s.bit p Fd.sysFaultUnmapped then s else (s.raise p Fd.sysFaultUnmapped).setReg p Reg.sysFaultAddr a

/-- The island that an address leads to, where its clock stands or it is unpowered (R38), as CLK.XTO codes it: the Saddle's blocks with the parameter
store, and the MAC of a Peak without its supply. The Cirque's configuration answers while no domain runs (R472), and the network and the Gendarme run
whenever a Peak does (R35). -/
def islandDown (p : PeakId) (s : State) (a : Nat) : Option Nat :=
  let b := a / 0x10000
  if decide (b = 0x4005) || decide (b = 0x4006) || decide (b = 0x4007) || decide (b = 0x4008) || decide (b = 0x4010) ||
      (decide (0x3000 ≤ b) && decide (b ≤ 0x3007)) then (if s.saddle.clock then none else some 1)
  else if b = 0x400E + p.other.num ∧ s.vaux p.other = false then some 0
  else none

/-! ### Plain writes (R5, R473) -/

/-- The word `old` with the lanes of `mask` taken from `v`. -/
def laneWord (old mask v : Word) : Word := (old &&& ~~~mask) ||| (v &&& mask)

/-- What a write of the lanes of `mask` leaves in a register, by its access codes. -/
def plainWord (r : RegRow) (old mask v : Word) : Word :=
  let st := BitVec.ofNat 32 (r.rw ||| r.rws)
  let kept := (old &&& ~~~st) ||| (laneWord old mask v &&& st)
  (kept &&& ~~~(v &&& mask &&& BitVec.ofNat 32 r.w1c)) ||| (v &&& mask &&& BitVec.ofNat 32 r.w1s)

/-- A register write: the row of the register, its address, the lanes and the value. -/
structure Wr where
  row : RegRow
  a : Nat
  mask : Word
  v : Word
  deriving DecidableEq, Repr

/-- The bits that a write of actions carries. -/
def Wr.act (w : Wr) : Nat := (w.v &&& w.mask).toNat
/-- Does the write reach the low byte? -/
def Wr.low (w : Wr) : Bool := decide (w.mask.toNat % 256 ≠ 0)
/-- The word that a write of a stored register asks for. -/
def Wr.full (w : Wr) (p : PeakId) (s : State) : Nat := (laneWord (s.regW (regKey p w.a)) w.mask w.v).toNat
def Wr.off (w : Wr) : Nat := w.a % 0x10000

def putReg (p : PeakId) (w : Wr) (s : State) : State := s.setRegW (regKey p w.a) (plainWord w.row (s.regW (regKey p w.a)) w.mask w.v)

/-- An RWS word: unchanged and flagged while its owner runs, where the lanes written hold an RWS bit (R6). -/
def rws (p : PeakId) (runs : Bool) (flag : State → State) (w : Wr) (s : State) : State :=
  if runs && decide (w.mask.toNat &&& w.row.rws ≠ 0) then flag s else putReg p w s

/-! ### Blocks of a Peak -/

def clkWrite (p : PeakId) (w : Wr) (s : State) : State :=
  match w.off with
  | 0x0000 => clkTarget p (w.full p s) s
  | 0x0020 => bivouacWrite p w.act s
  | _ => putReg p w s

/-- The coefficient bank of a CLN word, in the order of COEF_CRC. -/
def coefBank (o : Nat) : Option Nat :=
  if 0x800 ≤ o ∧ o < 0x880 then some ((o - 0x800) / 0x20) else if 0x8000 ≤ o then some (4 + (o - 0x8000) / 0x4000) else none

def clnWrite (p : PeakId) (w : Wr) (s : State) : State :=
  let o := w.off
  let flag := fun (s : State) => s.raise p Fd.clnFlagsWriteWhileRunning
  match coefBank o with
  | some b => rws p (s.bankRunning p b) flag w s
  | none =>
    if 0x100 ≤ o ∧ o < 0x200 then
      let g := (o - 0x100) / 0x20
      if o % 0x20 = 0 then (if w.low then resamplerRun p g (decide (w.act % 2 = 1)) s else s)
      else rws p (s.bit p (Fd.clnRsgCtrlRun g)) flag w s
    else if 0x1000 ≤ o then
      let i := (o - 0x1000) / 0x20
      if o % 0x20 = 0 then clnInCtrlWrite p i (w.full p s) s
      else rws p (s.bit p (Fd.clnInCtrlFineRun i) || s.bit p (Fd.clnInCtrlMeanRun i)) flag w s
    else putReg p w s

/-- Does a running channel name the condition? -/
def condOwned (p : PeakId) (n : Nat) (s : State) : Bool :=
  (List.range 4).any (fun c => s.bit p (Fd.talChCtrlRun c) && decide (bits (s.fld p (Fd.talChCfgTrigMask c)) n n = 1))

def talWrite (m : Master) (w : Wr) (s : State) : State :=
  let p := m.peak
  let o := w.off
  let flag := fun (s : State) => s.raise p Fd.talFlagsWriteWhileRunning
  if o = 0x004 then rws p ((List.range 4).any (fun c => s.bit p (Fd.talChCtrlRun c))) flag w s
  else if o = 0x008 then morLow p (putReg p w s)
  else if o = 0x010 then morCommand m w.act s
  else if o = 0x018 then (if w.act % 2 = 1 then snapTake p s else s)
  else if 0x100 ≤ o ∧ o < 0x200 then
    let n := (o - 0x100) / 0x10
    if o % 0x10 = 0 ∧ condOwned p n s = false ∧ condCfgOk (w.full p s) = false then s.raise p Fd.talFlagsRange
    else rws p (condOwned p n s) flag w s
  else if 0x200 ≤ o ∧ o < 0x280 then
    let c := (o - 0x200) / 0x20
    if o % 0x20 = 0 then
      (if !w.low then s else if w.act % 2 = 1 then talusRun p c s else talusStop p c s)
    else rws p (s.bit p (Fd.talChCtrlRun c)) flag w s
  else putReg p w s

/-- A write of the RDG block; only the low byte of MODE_CMD carries a command. -/
def rdgBlockWrite (p : PeakId) (w : Wr) (s : State) : State :=
  let o := w.off
  if o < 0x1000 then putReg p w s
  else
    let off := o % 0x400
    let e := (o - 0x1000) / 0x400
    if off = 8 ∧ w.low = false then s
    else rdgWrite p e off (if off = 4 then BitVec.ofNat 32 w.act else BitVec.ofNat 32 (w.full p (rdgLateView p e s))) s

/-- A write of the SWB block; only the low bytes of CMD and BANK_REQ carry a request. -/
def swbBlockWrite (p : PeakId) (w : Wr) (s : State) : State :=
  let o := w.off
  if 0x1000 ≤ o then
    let off := o % 0x100
    let m := (o - 0x1000) / 0x100
    let cmd := decide (off = 8) || decide (off = 0x14)
    if cmd && !w.low then s
    else swbWrite p m off (if cmd || decide (off = 4) then BitVec.ofNat 32 w.act else BitVec.ofNat 32 (w.full p (swbLateView p m s))) s
  else if 0x100 ≤ o then
    let g := (o - 0x100) / 0x40
    if o % 0x40 = 0 then (if !w.low then s else if w.act % 2 = 1 then tgStart p g s else tgStop p g s)
    else rws p (s.bit p (Fd.swbTgStatusRunning g)) (fun s => s.raise p Fd.swbFlagsWriteWhileRunning) w s
  else putReg p w s

def trvWrite (p : PeakId) (w : Wr) (s : State) : State :=
  let o := w.off
  if o = 0x000 then trvCommand p (bits w.act 1 0) (bits w.act 15 8) s
  else if o = 0x030 then (if w.low then evRaise p (w.act % 256) s else s)
  else if 0x1000 ≤ o ∧ o < 0x3000 then
    rws p (s.bit p (Fd.trvTaskStatLoaded ((o - 0x1000) / 0x20))) (fun s => s.raise p Fd.trvFlagsWriteWhileRunning) w s
  else putReg p w s

def dmaWrite (m : Master) (w : Wr) (s : State) : State :=
  let p := m.peak
  let o := w.off
  if o < 0x100 then putReg p w s
  else
    let c := (o - 0x100) / 0x80
    let off := (o - 0x100) % 0x80
    if off = 0 then dmaCtrlWrite m c w.act w.low s
    else if off ≤ 0x1C then
      let s := rws p (dmaOwned p c s) (dmaFlag p c (Fd.dmaChFlagsWriteWhileRunning c)) w s
      if off = 4 then dmaRefresh p c s else s
    else if 0x24 ≤ off ∧ off ≤ 0x34 then
      if s.bit p (Fd.dmaChCtrlShadowValid c) then dmaFlag p c (Fd.dmaChFlagsShadowBusy c) s else putReg p w s
    else putReg p w s

/-- A write of a Peak's own MAC; the other one's is discarded (R26). -/
def macWrite (p : PeakId) (w : Wr) (s : State) : State :=
  let o := w.off
  let flag := fun (s : State) => s.raise p (macF p Fd.macFlagsWriteWhileRunning)
  let tx := s.bit p (macF p Fd.macCtrlTxEn)
  let rx := s.bit p (macF p Fd.macCtrlRxEn)
  if w.a / 0x10000 ≠ 0x400E + p.num then s
  else if o = 0x000 then (if s.retired p 0 22 ∧ w.act % 4 ≠ 0 then s else putReg p w s)
  else if o = 0x004 then rws p (tx || rx) flag w s
  else if o = 0x020 then mdioWrite p (w.full p s) s
  else if 0x080 ≤ o ∧ o < 0x0A0 then rws p (rx && decide (o % 0x10 ≤ 4)) flag w s
  else if 0x100 ≤ o then
    let q := (o - 0x100) / 0x20
    match o % 0x20 with
    | 0x00 => rws p tx flag w s
    | 0x04 => if tx then flag s else
        let s := putReg p w s
        txCounts p q (s.txMac p q) (s.txDone p q) s
    | 0x08 => tqTail p q (w.full p s % 2 ^ 9) s
    | 0x0C => tqReclaim p q (w.full p s % 2 ^ 9) s
    | _ => putReg p w s
  else putReg p w s

def colWrite (m : Master) (w : Wr) (s : State) : State :=
  match w.off with
  | 0x0008 => inPush m (BitVec.ofNat 32 w.act) s
  | 0x0010 => outPush m (BitVec.ofNat 32 w.act) s
  | 0x0020 => doorbell m w.act s
  | _ => putReg m.peak w s

def obsWrite (p : PeakId) (w : Wr) (s : State) : State :=
  let o := w.off
  if o = 0 then trcCtrlWrite p (w.full p s) s
  else if 0x100 ≤ o then
    let k := (o - 0x100) / 0x10
    match o % 0x10 with
    | 0x0 => rws p (s.bit p ⟨Reg.obsCntCtrl k, 0, 0⟩) (fun s => s) w s
    | 0x4 => if w.low then counterEnable p k (w.act % 2) s else s
    | _ => putReg p w s
  else putReg p w s

/-! ### Shared blocks (R20) -/

def cirqWrite (p : PeakId) (w : Wr) (s : State) : State :=
  let o := w.off
  if 0x100 ≤ o ∧ o < 0x280 ∧ o % 0x40 = 8 then diagWrite ((o - 0x100) / 0x40) (w.full p s) s
  else if 0x1000 ≤ o then
    let i := (o - 0x1000) / 0x40
    match o % 0x40 with
    | 0x0 => cirqCfgWrite i (w.full p s) s
    | 0x4 => cirqTrigWrite p i (w.full p s) s
    | _ => putReg p w s
  else putReg p w s

/-- The word that lanes of a compare leave: the other bytes keep what the set that the store reaches holds (R473). -/
def compareWord (c : Nat) (mask v : Word) (s : State) : Word :=
  let now := s.regW (regKey .a (Reg.pwmCmp c))
  let old := if s.bit .a (Fd.pwmGrpCfgStage (c / 4)) then (s.chan c).staged.getD now
    else if lateNow (chanTb s c) s then (s.chan c).late.getD now else now
  laneWord old mask v

def pwmGated (p : PeakId) (w : Wr) (s : State) : State :=
  let o := w.off
  let flag := fun (s : State) => s.raise .a Fd.pwmFlagsWriteWhileRunning
  if o = 0x008 then tbCmdWrite (w.act % 256) (w.act / 256) s
  else if 0x100 ≤ o ∧ o < 0x200 then
    let t := (o - 0x100) / 0x20
    match o % 0x20 with
    | 0x00 =>
      let old := if lateNow t s then (s.tb t).latePrd.getD (s.reg .a w.a) else s.reg .a w.a
      prdWrite p t (laneWord (BitVec.ofNat 32 old) w.mask w.v).toNat s
    | 0x04 => s
    | 0x08 => s
    | 0x0C => alignRefresh t (rws p (alignBusy s t) flag w s)
    | 0x10 => rws p (alignBusy s t) flag w s
    | 0x14 => rws p (alignBusy s t) flag w s
    | _ => putReg p w s
  else if 0x200 ≤ o ∧ o < 0x400 then
    if o % 0x10 = 4 ∨ o % 0x10 = 8 then deadWrite ((o - 0x200) / 0x10) w.a (w.full p s) s else putReg p w s
  else if 0x500 ≤ o ∧ o < 0x580 then
    let c := (o - 0x500) / 4
    if s.tbRuns (chanTb s c) then flag s else chanCfgWrite c (w.full p s) s
  else if 0x600 ≤ o ∧ o < 0x620 then
    if s.tbRuns (s.fld .a (Fd.pwmGrpCfgTb ((o - 0x600) / 4))) then flag s else pairsDecide (putReg p w s)
  else if o = 0xFFF4 then rws p (s.tbRuns s.periodTb) flag w s
  else putReg p w s

/-- Writes of the PWM block; the shadows keep their own gate, since a discarded one is compared (R337). -/
def pwmWrite (m : Master) (w : Wr) (s : State) : State :=
  let o := w.off
  if 0x400 ≤ o ∧ o < 0x480 then
    let c := (o - 0x400) / 4
    compareStore m [(c, compareWord c w.mask w.v s)] s
  else if o = 0x480 then (if w.low then commitStore m (w.act % 256) s else s)
  else if s.holds m.peak then pwmGated m.peak w s
  else s

def spurGated (p : PeakId) (w : Wr) (s : State) : State :=
  let o := w.off
  let flag := fun (s : State) => s.raise .a Fd.spurFlagsWriteWhileRunning
  if o = 0x008 then
    legsSources (rws p (ascOn s || legNumbers.any (fun n => inGroup s n && s.bit .a (Fd.spurLegCtrlEn n))) flag w s)
  else if o = 0x00C then ascCmd w.act s
  else if o = 0x010 then spurClear (w.act % 64) s
  else if 0x100 ≤ o then
    let n := (o - 0x100) / 0x40
    let busy := s.bit .a (Fd.spurLegCtrlEn n) || legInAsc s n
    match o % 0x40 with
    | 0x00 => if w.low then legCtrlWrite p n w.act (Config.freeBool s.free) { s with free := s.free + 1 } else s
    | 0x04 => legsSources (legCodes n (rws p busy flag w s))
    | 0x10 => legDriveWrite n (w.full p s) s
    | 0x1C => rws p busy flag w s
    | _ => putReg p w s
  else putReg p w s

def spurWrite (m : Master) (w : Wr) (s : State) : State :=
  let o := w.off
  if 0x100 ≤ o ∧ o % 0x40 = 8 then
    let n := (o - 0x100) / 0x40
    let old := if lateNow (legTb s n) s then (s.leg n).late.getD (s.reg .a w.a) else s.reg .a w.a
    legCmpStore m n (laneWord (BitVec.ofNat 32 old) w.mask w.v).toNat s
  else if s.holds m.peak then spurGated m.peak w s
  else s

def tripWrite (p : PeakId) (w : Wr) (s : State) : State :=
  let o := w.off
  if o = 0x008 then tripClear (w.act % 2 ^ 12) s
  else if o = 0x00C then tripSw w.act s
  else if 0x100 ≤ o ∧ o % 0x10 ≤ 8 then
    if s.anyTbRuns then s.raise .a Fd.tripFlagsWriteWhileRunning else tripCfg ((o - 0x100) / 0x10) (putReg p w s)
  else putReg p w s

def pifWrite (p : PeakId) (w : Wr) (s : State) : State :=
  let o := w.off
  let k := (o - 0x100) / 0x80
  if o < 0x100 then putReg p w s
  else match (o - 0x100) % 0x80 with
    | 0x00 => pifCfg k (w.full p s) s
    | 0x08 => posSet k (w.full p s) s
    | 0x18 => pifPeriods k w.a (w.full p s) s
    | 0x1C => pifPeriods k w.a (w.full p s) s
    | _ => putReg p w s

def crnWrite (p : PeakId) (w : Wr) (s : State) : State :=
  match w.off with
  | 0x08 => crnCtrlWrite w.act s
  | 0x0C => leaseWrite (w.full p s) s
  | 0x20 => rateLoWrite (w.full p s) s
  | 0x24 => rateCommit (w.full p s) s
  | _ => putReg p w s

/-- THM: FLAGS has a copy for each Peak and no gate (R424). -/
def thmWrite (p : PeakId) (w : Wr) (s : State) : State :=
  let o := w.off
  if o = 0x004 then putReg p w s
  else if s.holds p then
    if o = 0x008 then thmCtrlWrite p (w.full p s) s
    else if 0x100 ≤ o ∧ (w.row.rw ||| w.row.rws) ≠ 0 then
      thmSensWrite p ((o - 0x100) / 0x20) (o % 0x20) (w.full p s &&& (w.row.rw ||| w.row.rws)) s
    else putReg p w s
  else s

/-- May Peak p's carried regions stand as `s` has them (R340)? -/
def carryOk (p : PeakId) (r : Nat) (s : State) : Bool :=
  let base := s.reg .a (Reg.gdmPeakCarryBase p.num r)
  let size := s.fld .a (Fd.gdmPeakCarrySizeSize p.num r)
  let total := ((List.range 8).map (fun j => s.fld .a (Fd.gdmPeakCarrySizeSize p.num j))).foldl (· + ·) 0
  decide (base % 16 = 0) && decide (size % 16 = 0) && decide (size ≤ 16384) && decide (total ≤ 49152) &&
    (decide (size = 0) || (decide (0x10000 ≤ base) && decide (base + size ≤ 0x20000)) ||
      (decide (0x10000000 ≤ base) && decide (base + size ≤ 0x10200000)))

/-- GDM from a Peak: its own REPORT and CARRY words alone (R352). -/
def gdmWrite (m : Master) (w : Wr) (s : State) : State :=
  let p := m.peak
  let o := w.off
  if fromHost m || decide (o < 0x100) || decide ((o - 0x100) / 0x80 ≠ p.num) then s
  else
    let off := (o - 0x100) % 0x80
    if off = 0x10 then acksAgain s (putReg p w s)
    else if 0x40 ≤ off then
      let t := putReg p w s
      if s.gdm.copy.isNone && carryOk p ((off - 0x40) / 8) t then t else s.raise .a Fd.gdmFlagsCarryRange
    else s

/-! ### Register accesses -/

/-- The bits of a row that a write can act on. -/
def RegRow.writable (r : RegRow) : Nat := r.rw ||| r.wo ||| r.w1c ||| r.w1s ||| r.rws

/-- A write that reaches a register; one of a read-only word does nothing (R5). -/
def regWrite (m : Master) (w : Wr) (s : State) : State :=
  let p := m.peak
  match islandDown p s w.a with
  | some d => xtoRecord p d w.a true s
  | none => if w.row.writable = 0 then s else match w.a / 0x10000 with
    | 0x4000 => putReg p w s
    | 0x4001 => clkWrite p w s
    | 0x4002 => if s.holds p then cirqWrite p w s else s
    | 0x4003 => clnWrite p w s
    | 0x4004 => talWrite m w s
    | 0x4005 => pwmWrite m w s
    | 0x4006 => spurWrite m w s
    | 0x4007 => if s.holds p then tripWrite p w s else s
    | 0x4008 => if s.holds p then pifWrite p w s else s
    | 0x4009 => rdgBlockWrite p w s
    | 0x400A => swbBlockWrite p w s
    | 0x400B => trvWrite p w s
    | 0x400C => dmaWrite m w s
    | 0x400D => if s.holds p then crnWrite p w s else s
    | 0x400E => macWrite p w s
    | 0x400F => macWrite p w s
    | 0x4010 => thmWrite p w s
    | 0x4011 => gdmWrite m w s
    | 0x4013 => if w.off = 0 then (if w.low then bistWrite m (w.full p s) s else s) else putReg p w s
    | 0x4015 => colWrite m w s
    | 0x4016 => obsWrite p w s
    | _ => s

/-- May a read by Peak p clear the register's RC bits (R21, R26, R352)? -/
def readClears (p : PeakId) (a : Nat) (s : State) : Bool :=
  match a / 0x10000 with
  | 0x4002 => s.holds p
  | 0x4005 => s.holds p
  | 0x4006 => s.holds p
  | 0x4007 => s.holds p
  | 0x4008 => s.holds p
  | 0x400D => s.holds p
  | 0x400E => decide (p = .a)
  | 0x400F => decide (p = .b)
  | 0x4010 => s.holds p
  | 0x4011 => false
  | 0x4012 => false
  | 0x4014 => false
  | _ => true

/-- The bits of a row that a read returns. -/
def RegRow.readable (r : RegRow) : Nat := r.ro ||| r.rw ||| r.w1c ||| r.w1s ||| r.rc ||| r.rws

/-- A stored register: its value, and its RC bits at reset after the read where the reader may clear them. -/
def plainRead (p : PeakId) (r : RegRow) (a : Nat) (s : State) : Nat × State :=
  let v := s.reg p a
  (v &&& r.readable, if r.rc ≠ 0 ∧ readClears p a s = true then s.setReg p a ((v &&& (0xFFFFFFFF ^^^ r.rc)) ||| (r.reset &&& r.rc)) else s)

/-- The CRC of a coefficient bank over its words, each four bytes, little-endian (R157, R222). -/
def coefCrc (p : PeakId) (n : Nat) (s : State) : Nat :=
  let b := match n with
    | 0 => (0x40030800, 5)
    | 1 => (0x40030820, 5)
    | 2 => (0x40030840, 8)
    | 3 => (0x40030860, 8)
    | 4 => (0x40038000, 4096)
    | _ => (0x4003C000, 4096)
  crc32 ((List.range b.2).flatMap (fun i => wordBytes (s.reg p (b.1 + 4 * i))))

def bitSum (n : Nat) (f : Nat → Bool) : Nat := ((List.range n).map (fun i => if f i then 2 ^ i else 0)).foldl (· + ·) 0

def sysRead (p : PeakId) (r : RegRow) (a : Nat) (s : State) : Nat × State :=
  let o := a % 0x10000
  if o = 0 then (putBits (s.reg p a) 9 8 (if s.power.fuses.xCode then 1 else 0), s)
  else if 0x100 ≤ o ∧ o % 0x20 = 0xC then readFaultInfo p ((o - 0x100) / 0x20) s
  else if 0x100 ≤ o ∧ o % 0x20 = 0x14 then readCyclesLo ⟨p, Fin.ofNat 8 ((o - 0x100) / 0x20)⟩ s
  else plainRead p r a s

def clnRead (p : PeakId) (r : RegRow) (a : Nat) (s : State) : Nat × State :=
  let o := a % 0x10000
  if o = 0 then
    (s.fld p Fd.clnStatusDegraded + bitSum 8 (fun g => s.bit p (Fd.clnRsgCtrlRun g)) * 2 ^ 8 + bitSum 6 (s.bankRunning p) * 2 ^ 16, s)
  else if 0x10 ≤ o ∧ o < 0x28 then (coefCrc p ((o - 0x10) / 4) s, s)
  else if 0x100 ≤ o ∧ o < 0x200 ∧ o % 0x20 = 0x1C then (putBits (s.reg p a) 13 8 (rsMembers p ((o - 0x100) / 0x20) s).length, s)
  else plainRead p r a s

/-- An engine word; the window of a retired engine reads 0 (R250). -/
def rdgRead (p : PeakId) (r : RegRow) (a : Nat) (s : State) : Nat × State :=
  let o := a % 0x10000
  if o < 0x1000 then plainRead p r a s
  else
    let e := (o - 0x1000) / 0x400
    if s.engRetired p e then (0, s)
    else if 0x200 ≤ o % 0x400 then ((engWord s p e ((o % 0x400 - 0x200) / 4)).toNat, s)
    else plainRead p r a s

def crnRead (m : Master) (r : RegRow) (a : Nat) (s : State) : Nat × State :=
  match a % 0x10000 with
  | 0x10 => nowRead m s
  | 0x14 => ((s.nowLatch m).1 % 2 ^ 32, s)
  | 0x18 => ((s.nowLatch m).1 / 2 ^ 32 % 2 ^ 16 + (s.nowLatch m).2 % 2 ^ 16 * 2 ^ 16, s)
  | 0x40 => (s.leaseLeft, s)
  | _ => plainRead m.peak r a s

def pifRead (p : PeakId) (r : RegRow) (a : Nat) (s : State) : Nat × State :=
  let o := a % 0x10000
  let k := (o - 0x100) / 0x80
  if o < 0x100 ∨ s.holds p = false then plainRead p r a s
  else match (o - 0x100) % 0x80 with
    | 0x28 => edgePosRead k s
    | 0x2C => edgeRead k 0 a s
    | 0x30 => edgeRead k 1 a s
    | 0x34 => edgeRead k 2 a s
    | _ => plainRead p r a s

/-- Whole seconds of the return-home hold (R347). -/
def holdElapsed (s : State) : Nat :=
  match s.gdm.hold with
  | some t => min ((s.tick - t) / 400000000) 0x3FF
  | none => 0

/-- A read of a register: what it returns and what it does. -/
def regRead (m : Master) (r : RegRow) (a : Nat) (s : State) : Nat × State :=
  let p := m.peak
  let o := a % 0x10000
  match islandDown p s a with
  | some d => (0, xtoRecord p d a false s)
  | none => match a / 0x10000 with
    | 0x4000 => sysRead p r a s
    | 0x4002 =>
      if o = 8 then (s.rotorTime, s)
      else if 0x1000 ≤ o ∧ o % 0x40 = 8 then readLast p ((o - 0x1000) / 0x40) s
      else if 0x1000 ≤ o ∧ o % 0x40 = 0xC then (inStatus ((o - 0x1000) / 0x40) s, s) else plainRead p r a s
    | 0x4003 => clnRead p r a s
    | 0x4004 => if o = 0x14 then ((s.morResult m).toNat, s) else plainRead p r a s
    | 0x4007 => if o = 0x10 then firstRead p s else plainRead p r a s
    | 0x4008 => pifRead p r a s
    | 0x4009 => rdgRead p r a s
    | 0x400B => if o = 0x18 then readPeriodLo p s else plainRead p r a s
    | 0x400D => crnRead m r a s
    | 0x4011 => if o = 0x18 then (holdElapsed s, s) else plainRead p r a s
    | 0x4015 => if o = 0x0C then inPop m s else if o = 0x14 then outPop m s else plainRead p r a s
    | 0x4016 => if 0x100 ≤ o ∧ o % 0x10 = 8 then counterRead p ((o - 0x100) / 0x10) s else plainRead p r a s
    | _ => plainRead p r a s

/-! ### Words of the view -/

/-- Do a master's writes reach the other Peak's copy: while its Peak is the source of a running copy, and from a core in an instance that goes on
being mirrored (R341, R344)? -/
def mirrors (m : Master) (s : State) : Bool :=
  s.copying m.peak ||
  (match m with
    | .core k => s.gdm.mirrored.contains (k.peak.num, s.curTask k)
    | _ => false)

/-- Put the bytes of `mask` into memory. -/
def putLanes (m : Master) (key : Nat) (mask v : Word) (s : State) : State :=
  forAll (List.range 4) (fun i s =>
    if bits mask.toNat (8 * i) (8 * i) = 1 then
      let b : Byte := BitVec.ofNat 8 (v.toNat / 2 ^ (8 * i))
      let s := s.setByte (key + i) b
      if mirrors m s then mirrorBytes m.peak (key + i) [b] s else s
    else s) s

/-- A write of lanes of the word that holds address `a`. -/
def writeWord (m : Master) (core a : Nat) (mask v : Word) (s : State) : State :=
  let w := a / 4 * 4
  match placeOf m core w s with
  | .mem key => putLanes m key mask v s
  | .pool b key =>
    if s.owner m.peak b = some 0x10 ∨ s.owner m.peak b = some 0x30 then putLanes m key mask v s else s.raise m.peak Fd.talFlagsOwnerWrite
  | .store key =>
    if 0x3007FE00 ≤ w then s.raise .a Fd.safFlagsPeakWrite
    else if s.saddle.clock = false then xtoRecord m.peak 1 w true s
    else if s.holds m.peak then putLanes m key mask v s else s
  | .reg r => regWrite m ⟨r, w, mask, v⟩ s
  | .unmapped => unmappedAt m.peak a s

/-- A read of the word that holds address `a`. -/
def readWord (m : Master) (core a : Nat) (s : State) : Nat × State :=
  let w := a / 4 * 4
  match placeOf m core w s with
  | .mem key => (s.bytes key 4, s)
  | .pool _ key => (s.bytes key 4, s)
  | .store key => if s.saddle.clock then (s.bytes key 4, s) else (0, xtoRecord m.peak 1 w false s)
  | .reg r => regRead m r w s
  | .unmapped => (0, unmappedAt m.peak a s)

/-- The words that `n` bytes from `a` on touch: each by the first address touched in it. -/
def wordsOf (a n : Nat) : List Nat := (List.range ((a + n - 1) / 4 - a / 4 + 1)).map (fun i => if i = 0 then a else (a / 4 + i) * 4)

/-- The bytes of a word that `n` bytes from `a` on touch, and their values. -/
def lanesOf (a n v w : Nat) : Word × Word :=
  let l := (List.range 4).filter (fun i => decide (a ≤ w / 4 * 4 + i) && decide (w / 4 * 4 + i < a + n))
  (BitVec.ofNat 32 ((l.map (fun i => 0xFF * 2 ^ (8 * i))).foldl (· + ·) 0),
   BitVec.ofNat 32 ((l.map (fun i => v / 2 ^ (8 * (w / 4 * 4 + i - a)) % 256 * 2 ^ (8 * i))).foldl (· + ·) 0))

/-- Write `n` bytes of `v` from `a` on, little-endian (R105). -/
def fabWrite (m : Master) (core a n v : Nat) (s : State) : State :=
  forAll (wordsOf a n) (fun w s => writeWord m core (w % 2 ^ 32) (lanesOf a n v w).1 (lanesOf a n v w).2 s) s

/-- Read the words at the addresses of a list, the first the lowest, each once and in order. -/
def readWords (m : Master) (core : Nat) : List Nat → State → Nat × State
  | [], s => (0, s)
  | w :: r, s =>
    let x := readWord m core (w % 2 ^ 32) s
    let y := readWords m core r x.2
    (x.1 + y.1 * 2 ^ 32, y.2)

/-- Read `n` bytes from `a` on. -/
def fabRead (m : Master) (core a n : Nat) (s : State) : Nat × State :=
  let r := readWords m core (wordsOf a n) s
  (r.1 / 2 ^ (8 * (a % 4)) % 2 ^ (8 * n), r.2)

/-- Does every byte from `a` on lead somewhere? -/
def mapped (m : Master) (core a n : Nat) (s : State) : Bool :=
  (wordsOf a n).all (fun w => decide (placeOf m core (w % 2 ^ 32 / 4 * 4) s ≠ .unmapped))

/-! ### The commands -/

/-- The byte lanes of a 32-bit access. -/
def laneMask (lanes : BitVec 4) : Word :=
  BitVec.ofNat 32 (((List.range 4).map (fun i => if lanes.getLsbD i then 0xFF * 2 ^ (8 * i) else 0)).foldl (· + ·) 0)

/-- A write of a register by a master (R5). -/
def execRegisterWrite (m : Master) (addr val : Word) (lanes : BitVec 4) (s : State) : Out :=
  .next (if (s.peak m.peak).up && decide (0x40000000 ≤ addr.toNat) then writeWord m 0 addr.toNat (laneMask lanes) val s else s)

/-- A read of an RC register by a master; the value goes to it (R5, R21). -/
def execRcRead (m : Master) (addr : Word) (s : State) : Out :=
  .next (if (s.peak m.peak).up && decide (0x40000000 ≤ addr.toNat) then returned (readWord m 0 addr.toNat s) else s)

end Sys2Proof.Machine
end

