-- ==== Sys2Proof/Machine/LoadStore.lean ====
section
/-! DEFINITION. Loads and stores of a core, its store buffer and its shadow lane (R104 to R109, R116, R141, R142, R283), and coprocessor
accesses (R120 to R123, R145, R146). -/

namespace Sys2Proof.Machine

/-! ### Targets -/

def isItcm (a : Nat) : Bool := decide (a < 0x10000)
def isDtcm (a : Nat) : Bool := decide (0x10000 ≤ a) && decide (a < 0x20000)
/-- The PWM shadow registers: CMP[0] to CMP[31] and COMMIT (R283, R285). -/
def isShadow (a : Nat) : Bool := decide (0x40050400 ≤ a) && decide (a < 0x40050484)

/-- The least and the greatest load latency of a target in core cycles (R106); toward an island that is down, 512 (R38). -/
def loadRange (p : PeakId) (a : Nat) (s : State) : Nat × Nat :=
  if a < 0x20000 then (2, 2)
  else if (islandDown p s a).isSome then (512, 512)
  else match a / 0x10000 with
    | 0x4002 => (60, 84)
    | 0x4005 => (36, 48)
    | 0x4006 => (36, 48)
    | 0x4007 => (36, 48)
    | 0x4008 => (36, 48)
    | 0x400D => (80, 110)
    | 0x4011 => (400, 420)
    | 0x4012 => (400, 420)
    | _ =>
      if 0x10000000 ≤ a ∧ a < 0x10200000 then (12, 44)
      else if 0x20000000 ≤ a ∧ a < 0x20600000 then (14, 46)
      else if 0x30000000 ≤ a ∧ a < 0x30080000 then (60, 120)
      else (16, 24)

/-- The latency of a load: free within its range (R89). -/
def takeLatency (p : PeakId) (a : Nat) (s : State) : Nat × State :=
  let r := loadRange p a s
  if r.1 = r.2 then (r.1, s) else (r.1 + Config.loadLatency s.free % (r.2 - r.1 + 1), { s with free := s.free + 1 })

/-- The effective address (R141). -/
def effAddr (c : Core) (base : Nat) (off : BitVec 16) (w : Nat) : Nat := ((c.rs base).toNat + off.toNat * w) % 2 ^ 32

/-- The fault code of an access of `w` bytes, 0 for none: alignment whatever the predicate holds, the rest only for an access that is made
(R104, R105, R116, R142). -/
def accessCode (k : CoreSel) (a w : Nat) (made load : Bool) (s : State) : Nat :=
  if a % w ≠ 0 then 4
  else if !made then 0
  else if isItcm a then 3
  else if s.inSummit k && !(isDtcm a || (!load && isShadow a)) then 5
  else 0

/-! ### Loads -/

/-- The byte at `a` of the newest pending store that holds it (R108). -/
def pendingByte (c : Core) (a : Nat) : Option Nat :=
  (c.buf.flatMap (fun e => e.pieces)).reverse.findSome? (fun x =>
    if x.1 ≤ a ∧ a < x.1 + x.2.1 then some (x.2.2 / 2 ^ (8 * (a - x.1)) % 256) else none)

/-- Do pending stores hold all of the `n` bytes from `a` on? -/
def forwarded (c : Core) (a n : Nat) : Bool := (List.range n).all (fun i => (pendingByte c (a + i)).isSome)

/-- The `n` bytes from `a` on: pending stores' bytes over those of `v`. -/
def overlay (c : Core) (a n v : Nat) : Nat :=
  ((List.range n).map (fun i => (pendingByte c (a + i)).getD (v / 2 ^ (8 * i) % 256) * 2 ^ (8 * i))).foldl (· + ·) 0

/-- What a load of `n` bytes returns: the bytes of pending stores, and the target's where none is pending; a target that pending stores cover is not
read. -/
def loadValue (k : CoreSel) (a n : Nat) (s : State) : Nat × State :=
  let c := s.core k
  if forwarded c a n then (overlay c a n 0, s)
  else
    let r := fabRead (.core k) 0 a n s
    (overlay c a n r.1, r.2)

/-- The latency of a load of `n` bytes, whatever its predicate holds (R96) and whether or not it is suppressed (R119): the least of its target where
pending stores answer. -/
def loadLatency (k : CoreSel) (a n : Nat) (s : State) : Nat × State :=
  if forwarded (s.core k) a n then ((loadRange k.peak a s).1, s) else takeLatency k.peak a s

/-- A scalar or phase load of `w` bytes into what `put` writes (R141). A fault in a summit task delivers 0 (R119). -/
def loadOp (x : Slot) (base : Fin 8) (off : BitVec 16) (w dest : Nat) (put : Core → Nat → Core) (s : State) : State :=
  let k := x.toCoreSel
  fetched k 4 (fun s =>
    let c := s.core k
    let a := effAddr c base.val off w
    let on := c.on x.pred.val
    let code := accessCode k a w on true s
    let l := loadLatency k a w s
    let u : Use := { reads := [kQ x.pred.val, kS base.val], writes := [dest], lat := l.1 }
    let s := l.2
    if code ≠ 0 then
      let s := coreFault k code a s
      if s.canIssue k then
        let s := if on then s.setCore k (put (s.core k) 0) else s
        passCore k 4 u s
      else s
    else if on then
      let r := loadValue k a w s
      passCore k 4 u (r.2.setCore k (put (r.2.core k) r.1))
    else passCore k 4 u s) s

/-- Sign extension of `n` bits. -/
def sextN (n v : Nat) : Word := BitVec.ofInt 32 (signed n v)

def loadScalar (x : Slot) (rt : Fin 32) (base : Fin 8) (off : BitVec 16) (w : Nat) (f : Nat → Word) (s : State) : State :=
  loadOp x base off w (kS rt.val) (fun c v => c.setS rt.val (f v)) s

def execLb (x : Slot) (rt : Fin 32) (base : Fin 8) (off : BitVec 16) (s : State) : Out := .next (loadScalar x rt base off 1 (sextN 8) s)
def execLbu (x : Slot) (rt : Fin 32) (base : Fin 8) (off : BitVec 16) (s : State) : Out :=
  .next (loadScalar x rt base off 1 (BitVec.ofNat 32) s)
def execLh (x : Slot) (rt : Fin 32) (base : Fin 8) (off : BitVec 16) (s : State) : Out := .next (loadScalar x rt base off 2 (sextN 16) s)
def execLhu (x : Slot) (rt : Fin 32) (base : Fin 8) (off : BitVec 16) (s : State) : Out :=
  .next (loadScalar x rt base off 2 (BitVec.ofNat 32) s)
def execLw (x : Slot) (rt : Fin 32) (base : Fin 8) (off : BitVec 16) (s : State) : Out :=
  .next (loadScalar x rt base off 4 (BitVec.ofNat 32) s)
def execLp (x : Slot) (rt : Fin 4) (base : Fin 8) (off : BitVec 16) (s : State) : Out :=
  .next (loadOp x base off 8 (kP rt.val) (fun c v => c.setPh rt.val (BitVec.ofNat 64 v)) s)

/-- The lanes whose predicate bit is 1. -/
def lanesOn (q : BitVec 4) : List Nat := (List.range 4).filter (fun l => q.getLsbD l)

/-- LV (R142): lane by lane. -/
def loadVector (x : Slot) (rt : Fin 8) (base : Fin 8) (off : BitVec 16) (s : State) : State :=
  let k := x.toCoreSel
  fetched k 4 (fun s =>
    let c := s.core k
    let a := effAddr c base.val off 16
    let ls := lanesOn (c.rq x.pred.val)
    let code := accessCode k a 16 (!ls.isEmpty) true s
    let l := loadLatency k a 16 s
    let u : Use := { reads := [kQ x.pred.val, kS base.val], writes := [kV rt.val], lat := l.1 }
    let s := l.2
    if code ≠ 0 then
      let s := coreFault k code a s
      if s.canIssue k then
        passCore k 4 u (forAll ls (fun i s => s.setCore k ((s.core k).setV rt.val i 0)) s)
      else s
    else
      passCore k 4 u (forAll ls (fun i s =>
        let r := loadValue k (a + 4 * i) 4 s
        r.2.setCore k ((r.2.core k).setV rt.val i (BitVec.ofNat 32 r.1))) s)) s

def execLv (x : Slot) (rt : Fin 8) (base : Fin 8) (off : BitVec 16) (s : State) : Out := .next (loadVector x rt base off s)

/-! ### Stores -/

/-- The cycle monitor and the deadline judge a PWM shadow store (R161, R165): is it discarded before the Saddle? -/
def shadowJudge (k : CoreSel) (cycle : Nat) (s : State) : Bool × State :=
  let n := s.curTask k
  let t := s.task k.peak n
  if s.inSummit k ∧ (t.cert.cStore = 0xFFFFFFFF ∨ t.cert.cStore < cycle) then (true, monitorViolation k.peak n 1 cycle s)
  else (decide (n ≠ 0xFF) && t.late, s)

/-- A store of pieces (address, bytes, value) at `a` (R108, R109): to DTCM at once, to a PWM shadow by the shadow lane, else by the store
buffer, where it waits while four entries are pending. -/
def storePieces (k : CoreSel) (a : Nat) (pieces : List (Nat × Nat × Nat)) (u : Use) (s : State) : State :=
  if isDtcm a then passCore k 4 u (forAll pieces (fun e s => fabWrite (.core k) 0 e.1 e.2.1 e.2.2 s) s)
  else if isShadow a then
    let u := { u with shadow := true }
    let j := shadowJudge k ((s.core k).issueAt u) s
    let s := passCore k 4 u j.2
    s.setCore k { s.core k with shadows := (s.core k).shadows ++ [⟨pieces, j.1⟩] }
  else if 4 ≤ (s.core k).buf.length then s
  else
    let s := passCore k 4 { u with after := (s.core k).freedAt } s
    s.setCore k { s.core k with buf := (s.core k).buf ++ [⟨pieces, false⟩] }

/-- A store of `w` bytes in all; `pieces` from its address. -/
def storeOp (x : Slot) (base : Fin 8) (off : BitVec 16) (w src : Nat) (pieces : Core → Nat → List (Nat × Nat × Nat)) (s : State) : State :=
  let k := x.toCoreSel
  fetched k 4 (fun s =>
    let c := s.core k
    let a := effAddr c base.val off w
    let ps := pieces c a
    let u : Use := { reads := [kQ x.pred.val, kS base.val, src] }
    let code := accessCode k a w (!ps.isEmpty) false s
    if code ≠ 0 then
      let s := coreFault k code a s
      if s.canIssue k then passCore k 4 u s else s
    else if ps.isEmpty then passCore k 4 u s
    else storePieces k a ps u s) s

/-- All the bytes or none, under lane 0. -/
def wholePiece (q w : Nat) (v : Core → Nat) (c : Core) (a : Nat) : List (Nat × Nat × Nat) := if c.on q then [(a, w, v c % 2 ^ (8 * w))] else []

def storeScalar (x : Slot) (rt : Fin 32) (base : Fin 8) (off : BitVec 16) (w : Nat) (s : State) : State :=
  storeOp x base off w (kS rt.val) (wholePiece x.pred.val w (fun c => (c.rs rt.val).toNat)) s

def execSb (x : Slot) (rt : Fin 32) (base : Fin 8) (off : BitVec 16) (s : State) : Out := .next (storeScalar x rt base off 1 s)
def execSh (x : Slot) (rt : Fin 32) (base : Fin 8) (off : BitVec 16) (s : State) : Out := .next (storeScalar x rt base off 2 s)
def execSw (x : Slot) (rt : Fin 32) (base : Fin 8) (off : BitVec 16) (s : State) : Out := .next (storeScalar x rt base off 4 s)
def execSp (x : Slot) (rt : Fin 4) (base : Fin 8) (off : BitVec 16) (s : State) : Out :=
  .next (storeOp x base off 8 (kP rt.val) (wholePiece x.pred.val 8 (fun c => (c.rph rt.val).toNat)) s)
def execSv (x : Slot) (rt : Fin 8) (base : Fin 8) (off : BitVec 16) (s : State) : Out :=
  .next (storeOp x base off 16 (kV rt.val)
    (fun c a => (lanesOn (c.rq x.pred.val)).map (fun l => (a + 4 * l, 4, (c.rv rt.val l).toNat))) s)

/-- The oldest store-buffer entry completes at its target (R108), and with it whatever waits for room or for the last store. Stores to different
targets may complete in any order; here they complete in program order (DESIGN CHOICE, assumption 142). -/
def execStoreBufferComplete (k : CoreSel) (s : State) : Out :=
  .next (match (s.core k).buf with
    | [] => s
    | e :: r =>
      let c := s.core k
      forAll e.pieces (fun x s => fabWrite (.core k) 0 x.1 x.2.1 x.2.2 s)
        (s.setCore k { c with buf := r, freedAt := if r.length = 3 then s.peakCycle k else c.freedAt, doneAt := max c.doneAt (s.peakCycle k) }))

/-- The compares that a shadow store's pieces reach, with the words they leave there. -/
def comparePieces (ps : List (Nat × Nat × Nat)) (s : State) : List (Nat × Word) :=
  (ps.flatMap (fun x => (wordsOf x.1 x.2.1).map (fun w => (w, lanesOf x.1 x.2.1 x.2.2 w)))).filterMap (fun e =>
    if 0x40050400 ≤ e.1 ∧ e.1 < 0x40050480 then
      let c := (e.1 - 0x40050400) / 4
      some (c, compareWord c e.2.1 e.2.2 s)
    else none)

/-- A shadow store completes its handshake (R283 to R285): its compares in one handshake; COMMIT; the words beside COMMIT are unmapped. -/
def shadowHandshake (k : CoreSel) (ps : List (Nat × Nat × Nat)) (s : State) : State :=
  if s.saddle.clock = false then forAll (ps.take 1) (fun x s => xtoRecord k.peak 1 x.1 true s) s
  else
    let s := compareStore (.core k) (comparePieces ps s) s
    forAll (ps.filter (fun x => decide (0x40050480 ≤ x.1))) (fun x s => fabWrite (.core k) 0 x.1 x.2.1 x.2.2 s) s

def execShadowStoreHandshake (k : CoreSel) (s : State) : Out :=
  .next (match (s.core k).shadows with
    | [] => s
    | e :: r =>
      let s := s.setCore k { s.core k with shadows := r, doneAt := max (s.core k).doneAt (s.peakCycle k) }
      if e.dropped then s else shadowHandshake k e.pieces s)

/-! ### Coprocessor units (R120, R121, R145) -/

/-- The unit that the 5-bit U field names. -/
inductive XUnit where
  | local_
  | rdg (e : Nat)
  | swb
  | cln
  | none
  deriving DecidableEq, Repr

def xUnit (u : Nat) : XUnit :=
  if u = 0 then .local_ else if 8 ≤ u ∧ u ≤ 15 then .rdg (u - 8) else if u = 16 then .swb else if u = 24 then .cln else .none

/-- Is an engine or a loop bound to the core, by a task that is loaded on it (R121)? -/
def boundTo (k : CoreSel) (f : Nat → Nat) (bit_ : Nat) (s : State) : Bool :=
  (s.loaded k.peak).any (fun n => decide ((s.taskCore k.peak n).core = k.core) && decide (bits (f n) bit_ bit_ = 1))

def rdgBound (k : CoreSel) (e : Nat) (s : State) : Bool := boundTo k (fun n => s.reg k.peak (Reg.trvTaskBindRdg n)) e s
def swbBound (k : CoreSel) (l : Nat) (s : State) : Bool :=
  boundTo k (fun n => s.reg k.peak (Reg.trvTaskBindSwbLo n) + 2 ^ 32 * s.reg k.peak (Reg.trvTaskBindSwbHi n)) l s

/-- The address of the register that an index names in an engine or a loop window. -/
def xAddr (u : XUnit) (idx : Nat) : Nat :=
  match u with
  | .rdg e => 0x40091000 + 0x400 * e + 4 * idx
  | _ => 0x400A1000 + 0x100 * (idx / 64) + 4 * (idx % 64)

/-- Is the unit bound to the core? LOCAL and the Couloir need no binding. -/
def xBound (k : CoreSel) (u : XUnit) (idx : Nat) (s : State) : Bool :=
  match u with
  | .rdg e => rdgBound k e s
  | .swb => swbBound k (idx / 64) s
  | .none => false
  | _ => true

/-- Is the index defined for a read? -/
def xReadOk (u : XUnit) (idx : Nat) : Bool :=
  match u with
  | .local_ => decide (idx ≤ 3)
  | .rdg _ => decide (idx < 256) && (rowAt (xAddr u idx)).isSome
  | .swb => (rowAt (xAddr u idx)).isSome
  | .cln => decide (idx / 8 ≤ 47)
  | .none => false

/-- Is the index one that can be written? -/
def xWriteOk (u : XUnit) (idx : Nat) : Bool :=
  match u with
  | .local_ => decide (idx = 1)
  | .rdg _ => decide (idx < 256) && rdgWritable (4 * idx)
  | .swb => swbWritable (4 * (idx % 64)) && (rowAt (xAddr u idx)).isSome
  | _ => false

/-- The fault code of an XC access, 0 for none: R116 admits to a summit task its bound units and the Couloir. -/
def xCode (k : CoreSel) (u : XUnit) (idx : Nat) (ok : Bool) (s : State) : Nat :=
  if xBound k u idx s = false ∨ ok = false then 6 else if s.inSummit k ∧ u = .local_ then 5 else 0

/-- FAULT_ADDR of an XC fault (R125). -/
def xFaultAddr (u idx code : Nat) : Nat := if code = 6 then u * 2 ^ 16 + idx else 0

/-- Does a step of the unit run, so that an access waits at issue (R122)? -/
def xBusy (k : CoreSel) (u : XUnit) (idx : Nat) (s : State) : Bool :=
  match u with
  | .rdg e => (s.eng k.peak e).running
  | .swb => (s.loop k.peak (idx / 64)).running
  | _ => false

/-- The key under which the end of a unit's step is kept. Each Switchback loop is a unit of its own: an access to one loop does not wait for another
loop's step (DESIGN CHOICE, assumption 143: R122 and R146 speak of the unit). -/
def xKey (u : Fin 32) (idx : Nat) : Nat := if u.val = 16 then 64 + idx / 64 else u.val

def xLatency (u : XUnit) : Nat :=
  match u with
  | .local_ => 2
  | .cln => 6
  | _ => 4

/-- A read of a LOCAL register (R123, R126). -/
def localRead (k : CoreSel) (idx : Nat) (s : State) : Nat × State :=
  match idx with
  | 0 => (k.core.val + 2 ^ 8 * k.peak.num, s)
  | 1 => ((s.core k).flagWord, s)
  | 2 =>
    let n := s.coreCycles k
    (n % 2 ^ 32, s.setCore k { s.core k with cyclesHi := n / 2 ^ 32 })
  | _ => ((s.core k).cyclesHi, s)

/-- A read of a unit's register. -/
def unitRead (k : CoreSel) (u : XUnit) (idx : Nat) (s : State) : Nat × State :=
  match u with
  | .local_ => localRead k idx s
  | .cln => ((s.clnSlot k.peak idx).toNat, s)
  | _ => readWord (.core k) 0 (xAddr u idx) s

/-- XCR (R145, R146): the value under lane 0, VALID lane by lane. -/
def xcRead (x : Slot) (uf : Fin 32) (idx : BitVec 12) (reg : Fin 32) (qd : Fin 4) (s : State) : State :=
  let k := x.toCoreSel
  let u := xUnit uf.val
  let n := idx.toNat
  fetched k 4 (fun s =>
    let c := s.core k
    let q := c.rq x.pred.val
    let use : Use := { reads := [kQ x.pred.val], writes := [kS reg.val, kQ qd.val], lat := xLatency u, unit := some (xKey uf n) }
    if q = 0 then passCore k 4 use s
    else
      let code := xCode k u n (xReadOk u n) s
      if code ≠ 0 then
        let s := coreFault k code (xFaultAddr uf.val n code) s
        if s.canIssue k then
          let c := s.core k
          let c := if c.on x.pred.val then c.setS reg.val 0 else c
          passCore k 4 use (s.setCore k (c.setQ qd.val 0 q))
        else s
      else if xBusy k u n s then s
      else
        let r := unitRead k u n s
        let c := r.2.core k
        let c := if c.on x.pred.val then c.setS reg.val (BitVec.ofNat 32 r.1) else c
        passCore k 4 use (r.2.setCore k (c.setQ qd.val (if u = .cln then allLanes (decide (bits r.1 7 7 = 1)) else 0xF) q))) s

/-- XCV (R145, R146): one output of four consecutive inputs. -/
def xcVector (x : Slot) (uf : Fin 32) (idx : BitVec 12) (reg : Fin 32) (qd : Fin 4) (s : State) : State :=
  let k := x.toCoreSel
  let n := idx.toNat
  let v := reg.val % 8
  fetched k 4 (fun s =>
    let c := s.core k
    let q := c.rq x.pred.val
    let use : Use := { reads := [kQ x.pred.val], writes := [kV v, kQ qd.val], lat := 7 }
    if q = 0 then passCore k 4 use s
    else if xUnit uf.val ≠ .cln ∨ 47 < n / 8 + 3 then
      let s := coreFault k 6 (xFaultAddr uf.val n 6) s
      if s.canIssue k then
        let c := (lanesOn q).foldl (fun c l => c.setV v l 0) (s.core k)
        passCore k 4 use (s.setCore k (c.setQ qd.val 0 q))
      else s
    else
      let w := fun (l : Nat) => s.clnSlot k.peak (n + 8 * l)
      let c := (lanesOn q).foldl (fun c l => c.setV v l (w l)) c
      let valid := BitVec.ofNat 4 (bitSum 4 (fun l => wordValid (w l)))
      passCore k 4 use (s.setCore k (c.setQ qd.val valid q))) s

/-- XCW (R145): FLAGS of LOCAL clears the bits written 1; an engine's or a loop's word is written as through its block. -/
def xcWrite (x : Slot) (uf : Fin 32) (idx : BitVec 12) (reg : Fin 32) (s : State) : State :=
  let k := x.toCoreSel
  let u := xUnit uf.val
  let n := idx.toNat
  fetched k 4 (fun s =>
    let c := s.core k
    let use : Use := { reads := [kQ x.pred.val, kS reg.val], unit := some (xKey uf n) }
    if c.on x.pred.val = false then passCore k 4 use s
    else
      let code := xCode k u n (xWriteOk u n) s
      if code ≠ 0 then
        let s := coreFault k code (xFaultAddr uf.val n code) s
        if s.canIssue k then passCore k 4 use s else s
      else if xBusy k u n s then s
      else
        let v := c.rs reg.val
        let s := passCore k 4 use s
        match u with
        | .local_ => s.setCore k { s.core k with flags := (s.core k).flags &&& ~~~(v.setWidth 5) }
        | _ => writeWord (.core k) 0 (xAddr u n) 0xFFFFFFFF v s) s

/-- XCS (R146): it returns in one issue cycle, and the step completes 40 or 24 cycles on (R122). -/
def xcStep (x : Slot) (uf : Fin 32) (idx : BitVec 12) (s : State) : State :=
  let k := x.toCoreSel
  let u := xUnit uf.val
  let n := idx.toNat
  fetched k 4 (fun s =>
    let c := s.core k
    let use : Use := { reads := [kQ x.pred.val], unit := some (xKey uf n) }
    if c.on x.pred.val = false then passCore k 4 use s
    else
      let ok := match u with
        | .rdg _ => decide (n = 0)
        | .swb => decide (n % 64 = 0)
        | _ => false
      let code := xCode k u n ok s
      if code ≠ 0 then
        let s := coreFault k code (xFaultAddr uf.val n code) s
        if s.canIssue k then passCore k 4 use s else s
      else if xBusy k u n s then s
      else
        let t := c.issueAt use
        let s := passCore k 4 use s
        let free := fun (d : Nat) (s : State) =>
          s.setCore k { s.core k with unitFree := Tab.put (fun _ => 0) (s.core k).unitFree (xKey uf n) (t + d) }
        match u with
        | .rdg e => rdgStart k.peak e (c.runBase + t + 40) (free 40 s)
        | _ => swbStart k.peak (n / 64) (c.runBase + t + 24) (free 24 s)) s

def execXcr (x : Slot) (u : Fin 32) (idx : BitVec 12) (reg : Fin 32) (qd : Fin 4) (s : State) : Out := .next (xcRead x u idx reg qd s)
def execXcv (x : Slot) (u : Fin 32) (idx : BitVec 12) (reg : Fin 8) (qd : Fin 4) (s : State) : Out :=
  .next (xcVector x u idx (reg.castLE (by decide)) qd s)
def execXcw (x : Slot) (u : Fin 32) (idx : BitVec 12) (reg : Fin 32) (s : State) : Out := .next (xcWrite x u idx reg s)
def execXcs (x : Slot) (u : Fin 32) (idx : BitVec 12) (s : State) : Out := .next (xcStep x u idx s)

end Sys2Proof.Machine
end

