-- ==== Sys2Proof/Machine/DmaRun.lean ====
section
/-! DEFINITION. DMA channels moving data (R388, R390, R391) and their bus errors (R393). -/

namespace Sys2Proof.Machine

def State.srcCore (s : State) (p : PeakId) (c : Nat) : Nat := s.fld p (Fd.dmaChCfgSrcCore c)
def State.dstCore (s : State) (p : PeakId) (c : Nat) : Nat := s.fld p (Fd.dmaChCfgDstCore c)

/-- The master that a channel is. -/
def dmaMaster (p : PeakId) (c : Nat) : Master := .dma p (Fin.ofNat 16 c)

/-- Where the next write goes, and the fewest bytes it moves: a channel that drains to HALTED writes what precedes the faulting byte. -/
def dmaWriteSize (p : PeakId) (c : Nat) (s : State) : Nat :=
  let g := s.dch p c
  if s.wrWidth p c ≤ g.heldBytes then s.wrWidth p c else if g.failing ∧ g.flight = [] then g.heldBytes else 0

/-- A draining failure that has nothing left to write ends in HALTED. -/
def dmaHalt (p : PeakId) (c : Nat) (s : State) : State :=
  let g := s.dch p c
  if g.failing ∧ g.flight = [] ∧ g.heldBytes = 0 then
    let s := (s.setReg p (Reg.dmaChFaultAddr c) (g.errAddr.getD 0)).setBit p (Fd.dmaChStatusFaultWr c) g.errWrite
    let s := dmaFlag p c (Fd.dmaChFlagsBusErr c) (dmaStop p c dHalted s)
    fire p Ev.dmaErr s
  else dmaRefresh p c s

/-- The retries are used up: no read issues any more; a failed write's data and what follows it are discarded. -/
def dmaFail (p : PeakId) (c addr : Nat) (write : Bool) (s : State) : State :=
  let g := s.dch p c
  let g := { g with failing := true, errAddr := some addr, errWrite := write }
  dmaHalt p c (s.setDch p c (if write then { g with held := [] } else { g with flight := g.flight.tail }))

/-- A read's data returns. -/
def dmaReturn (p : PeakId) (c : Nat) (s : State) : State :=
  let g := s.dch p c
  match g.flight with
  | [] => s
  | a :: rest =>
    if g.failing then dmaHalt p c (s.setDch p c { g with flight := rest })
    else if g.errAddr.isSome ∧ g.errWrite = false then s
    else
      let w := s.rdWidth p c
      if mapped (dmaMaster p c) (s.srcCore p c) a w s = false then dmaFail p c a false (unmappedAt p a s)
      else
        let r := fabRead (dmaMaster p c) (s.srcCore p c) a w s
        let g := r.2.dch p c
        let bytes := (List.range w).map (fun i => BitVec.ofNat 8 (r.1 / 2 ^ (8 * i)))
        dmaReads p c (r.2.setDch p c { g with flight := rest, held := g.held ++ [bytes], retries := 0 })

/-- The holding register without its first `n` bytes. -/
def dropHeld : Nat → List (List Byte) → List (List Byte)
  | _, [] => []
  | n, l :: r => if l.length ≤ n then dropHeld (n - l.length) r else l.drop n :: r

/-- The active set after `n` bytes have been written: it describes the first byte not yet moved (R392). -/
def dmaAdvance (p : PeakId) (c n : Nat) (s : State) : State :=
  let s := s.setReg p (Reg.dmaChCount c) (s.reg p (Reg.dmaChCount c) % 2 ^ 24 - n)
  let s := if s.fld p (Fd.dmaChCfgDstMode c) = 1 then s else s.setReg p (Reg.dmaChDst c) (s.reg p (Reg.dmaChDst c) + n)
  if s.dmaIndexed p c then
    let elem := s.reg p (Reg.dmaChElem c) % 2 ^ 13
    let e := s.fld p (Fd.dmaChIndexPosElemPos c) + n
    if elem = 0 then s
    else (s.setFld p (Fd.dmaChIndexPosElemPos c) (e % elem)).setFld p (Fd.dmaChIndexPosIndex c) (s.fld p (Fd.dmaChIndexPosIndex c) + e / elem)
  else if s.fld p (Fd.dmaChCfgSrcMode c) = 1 then s
  else s.setReg p (Reg.dmaChSrc c) (s.reg p (Reg.dmaChSrc c) + n)

/-- The completion step: the shadow set is taken, or the channel is IDLE (R391). -/
def dmaComplete (p : PeakId) (c : Nat) (s : State) : State :=
  if s.bit p (Fd.dmaChCtrlShadowValid c) then
    dmaBegin p c ((dmaTake p c s).setFld p (Fd.dmaChStatusAppended c) 1)
  else
    let s := dmaStop p c dIdle (s.setFld p (Fd.dmaChStatusDone c) 1)
    let s := s.setDch p c { s.dch p c with doneAt := some s.tick }
    if s.bit p (Fd.dmaChCfgEvEn c) then fire p Ev.dmaDone s else s

/-- A write completes. -/
def dmaWritten (p : PeakId) (c : Nat) (s : State) : State :=
  let g := s.dch p c
  let n := dmaWriteSize p c s
  if n = 0 ∨ (g.errAddr.isSome ∧ g.errWrite = true) then s
  else
    let a := s.reg p (Reg.dmaChDst c)
    if mapped (dmaMaster p c) (s.dstCore p c) a n s = false then dmaFail p c a true (unmappedAt p a s)
    else
      let s := fabWrite (dmaMaster p c) (s.dstCore p c) a n (leNat (g.held.flatten.take n)) s
      let s := obsCount p 4 c n (dmaAdvance p c n s)
      let g := s.dch p c
      let s := s.setDch p c { g with held := dropHeld n g.held, retries := 0 }
      let g := s.dch p c
      if g.failing then dmaHalt p c s
      else if !dmaCanRead p c s ∧ g.flight = [] ∧ g.heldBytes < s.wrWidth p c ∧ g.aborting = false then dmaComplete p c s
      else dmaReads p c s

/-- An access errs or has no response: it waits for its repetition, or the retries are used up. -/
def dmaTimeout (p : PeakId) (c : Nat) (write : Bool) (s : State) : State :=
  let g := s.dch p c
  let addr := if write then some (s.reg p (Reg.dmaChDst c)) else g.flight.head?
  match addr with
  | none => s
  | some a =>
    if write = true ∧ dmaWriteSize p c s = 0 then s
    else if g.failing then (if write then dmaHalt p c (s.setDch p c { g with held := [] }) else dmaHalt p c (s.setDch p c { g with flight := g.flight.tail }))
    else if g.errAddr.isSome then s
    else if g.retries < s.fld p (Fd.dmaChCfgRetry c) then s.setDch p c { g with errAddr := some a, errWrite := write }
    else dmaFail p c a write s

/-- Is a transfer in progress? -/
def dmaActive (p : PeakId) (c : Nat) (s : State) : Bool :=
  (s.peak p).up && (decide (s.dmaState p c = dRunning) || decide (s.dmaState p c = dPausing))

def execDmaReadReturn (p : PeakId) (ch : Fin 16) (s : State) : Out := .next (if dmaActive p ch.val s then dmaReturn p ch.val s else s)
def execDmaWriteComplete (p : PeakId) (ch : Fin 16) (s : State) : Out := .next (if dmaActive p ch.val s then dmaWritten p ch.val s else s)
def execDmaAccessTimeout (p : PeakId) (ch : Fin 16) (write : Bool) (s : State) : Out :=
  .next (if dmaActive p ch.val s then dmaTimeout p ch.val write s else s)

end Sys2Proof.Machine
end

