-- ==== Sys2Proof/Machine/ColPort.lean ====
section
/-! DEFINITION. Frames of the Col port (R430 to R437) and the Gendarme window (R78, R352, R370, R447). -/

namespace Sys2Proof.Machine

/-! ### The Gendarme window (R437) -/

/-- The block of a window address: its rows and key, none where the window defines nothing. -/
def windowRow (a : Nat) : Option (RegRow × Nat) :=
  let b := a / 0x10000
  if b = 0x4015 then (gwRowAt a).map (fun r => (r, gwKey a))
  else if b = 0x4011 ∨ b = 0x4012 ∨ b = 0x4014 ∨ a = Reg.sysDevid ∨ a = Reg.pwmBaton ∨ a = Reg.pwmPeriodTb then
    (rowAt a).map (fun r => (r, regKey .a a))
  else none

/-- Is the Saddle without power: its clock stands, and not for a stop that the Gendarme has detected (R297)? -/
def saddleDark (s : State) : Bool := !s.saddle.clock && !s.bit .a Fd.gdmStatusSaddleStop

/-- A read through the window: RC registers clear (R352, R370). -/
def windowRead (a : Nat) (s : State) : Nat × State :=
  match windowRow a with
  | none => (0, s.setGwFld Fd.colGwFlagsUnmapped 1)
  | some (r, key) =>
    let v := (s.regW key).toNat
    if a = Reg.sysDevid then (putBits v 9 8 (if s.power.fuses.xCode then 1 else 0), s)
    else if a = Reg.pwmBaton ∨ a = Reg.pwmPeriodTb then (if saddleDark s then 0 else v, s)
    else if a = Reg.gdmHoldElapsed then (holdElapsed s, s)
    else (v &&& r.readable,
      if r.rc = 0 then s else s.setRegW key (BitVec.ofNat 32 ((v &&& (0xFFFFFFFF ^^^ r.rc)) ||| (r.reset &&& r.rc))))

/-- A write of GDM.CFG: a HOLD_T that is out of range is not taken. -/
def gdmCfgWrite (v : Nat) (s : State) : State :=
  let t := bits v 25 16
  let t := if 1 ≤ t ∧ t ≤ 600 then t else s.fld .a Fd.gdmCfgHoldT
  s.setReg .a Reg.gdmCfg (putBits (v &&& 0x3FFFF0F) 25 16 t)

/-- A write through the window. -/
def windowWrite (a : Nat) (v : Word) (s : State) : State :=
  match windowRow a with
  | none => s.setGwFld Fd.colGwFlagsUnmapped 1
  | some (r, key) =>
    let n := v.toNat
    let put := s.setRegW key (plainWord r (s.regW key) 0xFFFFFFFF v)
    let b := a / 0x10000
    if a = Reg.sysDevid ∨ b = 0x4005 then s
    else if b = 0x4011 then
      if a = Reg.gdmCfg then gdmCfgWrite n s
      else if a = Reg.gdmStartWait then (if 10 ≤ n % 2 ^ 14 ∧ n % 2 ^ 14 ≤ 10000 then put else s)
      else if a = Reg.gdmCmd then gdmCmdWrite n s
      else if 0x40110100 ≤ a then s
      else put
    else if a = Reg.safCmd then safCmd n (Config.soutLow s.free).toNat { s with free := s.free + 1 }
    else if a = Reg.lcsProgCmd then lcsCmdWrite n (Config.freeBool s.free) { s with free := s.free + 1 }
    else if b = 0x4014 ∧ 0x20 ≤ a % 0x10000 ∧ a % 0x10000 < 0x40 then s.setRegW key v
    else if a = Reg.colGwBootData ∧ b = 0x4015 then bootData v s
    else put

/-! ### Frames (R431 to R435) -/

/-- The bytes of a word, most significant first. -/
def beBytes (w : Word) : List Byte := (wordBytes w.toNat).reverse

/-- Is the frame's CRC right? -/
def crcOk (ws : List Word) (crc : BitVec 16) : Bool := decide (crc16 (ws.flatMap beBytes) = crc.toNat)

/-- The fields of a header. -/
def hdrOp (h : Word) : Nat := bits h.toNat 31 30
def hdrGw (h : Word) : Bool := decide (bits h.toNat 29 29 = 1)
def hdrPeak (h : Word) : PeakId := PeakId.ofNum (bits h.toNat 28 28)
def hdrCore (h : Word) : Nat := bits h.toNat 27 25
def hdrFixed (h : Word) : Bool := decide (bits h.toNat 24 24 = 1)
def hdrLen (h : Word) : Nat := bits h.toNat 21 16 + 1
def hdrSeq (h : Word) : Nat := bits h.toNat 15 8

/-- A malformed header, or one whose OP is not the frame's. -/
def hdrBad (h : Word) (op : Nat) : Bool :=
  decide (hdrOp h ≠ op) || (hdrGw h && decide (bits h.toNat 28 28 = 1)) || decide (bits h.toNat 23 22 ≠ 0) || decide (bits h.toNat 7 0 ≠ 0)

/-- The addresses of a frame's words. -/
def frameAddrs (h addr : Word) : List Nat :=
  (List.range (hdrLen h)).map (fun i => if hdrFixed h then addr.toNat else (addr.toNat + 4 * i) % 2 ^ 32)

/-- In RETIRED the window answers for SYS.DEVID and LCS only (R78). -/
def retiredFrame (h addr : Word) (s : State) : Bool :=
  hdrGw h && decide (lifeState s = 3) && (frameAddrs h addr).any (fun a => decide (a ≠ Reg.sysDevid) && decide (a / 0x10000 ≠ 0x4014))

/-- Does the frame's target run (R436)? The window always answers. -/
def targetRuns (h : Word) (s : State) : Bool := hdrGw h || (s.peak (hdrPeak h)).up

/-- A frame is counted at its end; one to a Peak in that Peak's counters too (R444, R447). -/
def countFrame (h : Word) (s : State) : State :=
  let s := s.gwBump Fd.colGwFramesCount Fd.colGwFramesSat
  if hdrGw h || decide (2 ≤ hdrOp h) then s else obsCount (hdrPeak h) 5 0 1 s

/-- The outcome of a READ or WRITE frame is final (R434). -/
def colFinal (h : Word) (words result : Nat) (s : State) : State :=
  let s := { s with col := { s.col with seq := hdrSeq h, words := words, result := result } }
  let s := if result = 1 then s.gwBump Fd.colGwCrcErrsCount Fd.colGwCrcErrsSat else s
  if result = 0 || hdrGw h || decide (2 ≤ hdrOp h) then s else obsCount (hdrPeak h) 6 0 1 s

/-- The result of a frame's checks, 0 for sound. -/
def frameCheck (op : Nat) (h addr : Word) (ok cut : Bool) (s : State) : Nat :=
  if cut then 4
  else if !ok then 1
  else if hdrBad h op || decide (addr.toNat % 4 ≠ 0) then 2
  else if retiredFrame h addr s then 5
  else 0

/-- A WRITE frame ends: it is checked, and waits to be performed (R432, R435). -/
def writeFrame (h addr : Word) (data : List Word) (crc : BitVec 16) (cut : Bool) (s : State) : State :=
  let s := countFrame h s
  let code := frameCheck 1 h addr (crcOk (h :: addr :: data) crc) (cut || decide (data.length < hdrLen h)) s
  if code ≠ 0 then colFinal h 0 code s
  else if 2 ≤ s.col.writes.length then colFinal h 0 6 s
  else if targetRuns h s = false then colFinal h 0 3 s
  else { s with col := { s.col with writes := s.col.writes ++ [⟨h, addr, data.take (hdrLen h)⟩] } }

/-- Words performed in order: how many, and the state; a target that stops ends the frame. -/
def performWrites (h : Word) : List (Nat × Word) → Nat → State → Nat × State
  | [], n, s => (n, s)
  | (a, v) :: r, n, s =>
    if targetRuns h s then
      performWrites h r (n + 1) (if hdrGw h then windowWrite a v s else writeWord (.host (hdrPeak h)) (hdrCore h) a 0xFFFFFFFF v s)
    else (n, s)

/-- The WRITE being performed finishes (R435). -/
def writePerformed (s : State) : State :=
  match s.col.writes with
  | [] => s
  | f :: r =>
    let x := performWrites f.hdr ((frameAddrs f.hdr f.addr).zip f.data) 0 { s with col := { s.col with writes := r } }
    colFinal f.hdr x.1 (if x.1 < f.data.length then 3 else 0) x.2

/-- Words read in order. -/
def performReads (h : Word) : List Nat → List Word → State → Option (List Word) × State
  | [], ws, s => (some ws.reverse, s)
  | a :: r, ws, s =>
    if targetRuns h s then
      let x := if hdrGw h then windowRead a s else readWord (.host (hdrPeak h)) (hdrCore h) a s
      performReads h r (BitVec.ofNat 32 x.1 :: ws) x.2
    else (none, s)

/-- The device answers a READ: 0x5 without data where it was not performed. -/
def readReply (start : Nat) (ws : List Word) (s : State) : State := { s with col := { s.col with start := start, reply := ws } }

/-- A READ frame: it waits behind the WRITEs not yet performed (R433). One that CS_N cuts short has no reply (R434). -/
def readFrame (h addr : Word) (crc : BitVec 16) (cut : Bool) (s : State) : State :=
  let s := countFrame h s
  let code := frameCheck 0 h addr (crcOk [h, addr] crc) cut s
  if code = 4 then colFinal h 0 4 s
  else if code ≠ 0 then readReply 5 [] (colFinal h 0 code s)
  else
    let s := writePerformed (writePerformed s)
    let x := performReads h (frameAddrs h addr) [] s
    match x.1 with
    | some ws => readReply 0xA ws (colFinal h ws.length 0 x.2)
    | none => readReply 5 [] (colFinal h 0 3 x.2)

/-- The status word (R434). -/
def statusWord (s : State) : Word :=
  let c := s.col
  let asleep := match s.power.phase with
    | .bivouac => true
    | .stages _ wake => wake
    | _ => false
  BitVec.ofNat 32 (c.seq * 2 ^ 24 + c.words * 2 ^ 16 + c.result * 2 ^ 12 + (if s.bit .a Fd.gdmStatusSafe then 8 else 0) + (if asleep then 4 else 0) +
    (if colInt s true then 2 else 0) + (if colInt s false then 1 else 0))

def execColWrite (hdr addr : Word) (data : List Word) (crc : BitVec 16) (cut : Bool) (s : State) : Out :=
  .next (whenKernel (writeFrame hdr addr data crc cut) s)
def execColWritePerformed (s : State) : Out := .next (whenKernel writePerformed s)
def execColRead (hdr addr : Word) (crc : BitVec 16) (cut : Bool) (s : State) : Out :=
  .next (whenKernel (readFrame hdr addr crc cut) s)

/-- A STATUS frame is never refused; one whose CRC is wrong is answered like any other. -/
def execColStatus (hdr : Word) (_crc : BitVec 16) (s : State) : Out :=
  .next (whenKernel (fun s => readReply 0 [statusWord s] (countFrame hdr s)) s)

end Sys2Proof.Machine
end

