-- ==== Sys2Proof/Machine/Dispatch.lean ====
section
/-! DEFINITION. What each command does: one arm for each constructor, each one direct call of its meaning. -/

namespace Sys2Proof.Machine

def exec (i : Instr) (s : State) : Host.Outcome State Fault Refusal :=
  match i with
  | .registerWrite m addr val lanes => Sys2Proof.Machine.execRegisterWrite m addr val lanes s
  | .supplyRise sup legs => Sys2Proof.Machine.execSupplyRise sup legs s
  | .supplyFall sup => Sys2Proof.Machine.execSupplyFall sup s
  | .resetPin ns => Sys2Proof.Machine.execResetPin ns s
  | .resetRelease => Sys2Proof.Machine.execResetRelease s
  | .gendarmeStartInstant n ok xin => Sys2Proof.Machine.execGendarmeStartInstant n ok xin s
  | .refCheckWindow good => Sys2Proof.Machine.execRefCheckWindow good s
  | .stageStart => Sys2Proof.Machine.execStageStart s
  | .stageInstant n locks => Sys2Proof.Machine.execStageInstant n locks s
  | .safetyConfigLoad => Sys2Proof.Machine.execSafetyConfigLoad s
  | .pllLossOfLock pll => Sys2Proof.Machine.execPllLossOfLock pll s
  | .referenceMissing => Sys2Proof.Machine.execReferenceMissing s
  | .referenceReturn => Sys2Proof.Machine.execReferenceReturn s
  | .pllRelock pll => Sys2Proof.Machine.execPllRelock pll s
  | .clkTargetWrite m val => Sys2Proof.Machine.execClkTargetWrite m val s
  | .pllStepRelock p => Sys2Proof.Machine.execPllStepRelock p s
  | .bivouacEnter m val => Sys2Proof.Machine.execBivouacEnter m val s
  | .bivouacEntryComplete => Sys2Proof.Machine.execBivouacEntryComplete s
  | .wakeEvent col sin => Sys2Proof.Machine.execWakeEvent col sin s
  | .wakeAlarm => Sys2Proof.Machine.execWakeAlarm s
  | .crossingTimeout m dest addr write => Sys2Proof.Machine.execCrossingTimeout m dest addr write s
  | .slotFetchComplete slot img => Sys2Proof.Machine.execSlotFetchComplete slot img s
  | .bootVerdictCompare badA badB => Sys2Proof.Machine.execBootVerdictCompare badA badB s
  | .memoryPhaseComplete => Sys2Proof.Machine.execMemoryPhaseComplete s
  | .selfTestComplete a b shared => Sys2Proof.Machine.execSelfTestComplete a b shared s
  | .handover p => Sys2Proof.Machine.execHandover p s
  | .lcsAdvanceState key arg v12 => Sys2Proof.Machine.execLcsAdvanceState key arg v12 s
  | .lcsProgramKeySlot key arg v12 => Sys2Proof.Machine.execLcsProgramKeySlot key arg v12 s
  | .lcsRevokeKeySlot key arg v12 => Sys2Proof.Machine.execLcsRevokeKeySlot key arg v12 s
  | .lcsRaiseSvn key arg v12 => Sys2Proof.Machine.execLcsRaiseSvn key arg v12 s
  | .lifecycleOpComplete blown ok => Sys2Proof.Machine.execLifecycleOpComplete blown ok s
  | .lifecycleReset => Sys2Proof.Machine.execLifecycleReset s
  | .bistStart m val => Sys2Proof.Machine.execBistStart m val s
  | .bistRunComplete p pass => Sys2Proof.Machine.execBistRunComplete p pass s
  | .taskDispatch k => Sys2Proof.Machine.execTaskDispatch k s
  | .storeBufferComplete k => Sys2Proof.Machine.execStoreBufferComplete k s
  | .waitResume k => Sys2Proof.Machine.execWaitResume k s
  | .illegalWord x => Sys2Proof.Machine.execIllegalWord x s
  | .add x d a b => Sys2Proof.Machine.execAdd x d a b s
  | .sub x d a b => Sys2Proof.Machine.execSub x d a b s
  | .and x d a b => Sys2Proof.Machine.execAnd x d a b s
  | .or x d a b => Sys2Proof.Machine.execOr x d a b s
  | .xor x d a b => Sys2Proof.Machine.execXor x d a b s
  | .shl x d a b => Sys2Proof.Machine.execShl x d a b s
  | .shr x d a b => Sys2Proof.Machine.execShr x d a b s
  | .sar x d a b => Sys2Proof.Machine.execSar x d a b s
  | .mul x d a b => Sys2Proof.Machine.execMul x d a b s
  | .min x d a b => Sys2Proof.Machine.execMin x d a b s
  | .max x d a b => Sys2Proof.Machine.execMax x d a b s
  | .minu x d a b => Sys2Proof.Machine.execMinu x d a b s
  | .maxu x d a b => Sys2Proof.Machine.execMaxu x d a b s
  | .addi x d a imm => Sys2Proof.Machine.execAddi x d a imm s
  | .andi x d a imm => Sys2Proof.Machine.execAndi x d a imm s
  | .ori x d a imm => Sys2Proof.Machine.execOri x d a imm s
  | .xori x d a imm => Sys2Proof.Machine.execXori x d a imm s
  | .shli x d a sh => Sys2Proof.Machine.execShli x d a sh s
  | .shri x d a sh => Sys2Proof.Machine.execShri x d a sh s
  | .sari x d a sh => Sys2Proof.Machine.execSari x d a sh s
  | .ceq x d a b => Sys2Proof.Machine.execCeq x d a b s
  | .cne x d a b => Sys2Proof.Machine.execCne x d a b s
  | .clt x d a b => Sys2Proof.Machine.execClt x d a b s
  | .cge x d a b => Sys2Proof.Machine.execCge x d a b s
  | .cltu x d a b => Sys2Proof.Machine.execCltu x d a b s
  | .cgeu x d a b => Sys2Proof.Machine.execCgeu x d a b s
  | .ceqi x d a imm => Sys2Proof.Machine.execCeqi x d a imm s
  | .cnei x d a imm => Sys2Proof.Machine.execCnei x d a imm s
  | .clti x d a imm => Sys2Proof.Machine.execClti x d a imm s
  | .cgei x d a imm => Sys2Proof.Machine.execCgei x d a imm s
  | .cltui x d a imm => Sys2Proof.Machine.execCltui x d a imm s
  | .cgeui x d a imm => Sys2Proof.Machine.execCgeui x d a imm s
  | .andq x d a b => Sys2Proof.Machine.execAndq x d a b s
  | .orq x d a b => Sys2Proof.Machine.execOrq x d a b s
  | .xorq x d a b => Sys2Proof.Machine.execXorq x d a b s
  | .andnq x d a b => Sys2Proof.Machine.execAndnq x d a b s
  | .setq x d a => Sys2Proof.Machine.execSetq x d a s
  | .getq x d a => Sys2Proof.Machine.execGetq x d a s
  | .allq x d a => Sys2Proof.Machine.execAllq x d a s
  | .anyq x d a => Sys2Proof.Machine.execAnyq x d a s
  | .qadd x d a b => Sys2Proof.Machine.execQadd x d a b s
  | .qsub x d a b => Sys2Proof.Machine.execQsub x d a b s
  | .qneg x d a => Sys2Proof.Machine.execQneg x d a s
  | .qabs x d a => Sys2Proof.Machine.execQabs x d a s
  | .qmul x d a b => Sys2Proof.Machine.execQmul x d a b s
  | .qmac x d a b => Sys2Proof.Machine.execQmac x d a b s
  | .qmsu x d a b => Sys2Proof.Machine.execQmsu x d a b s
  | .fadd x d a b => Sys2Proof.Machine.execFadd x d a b s
  | .fsub x d a b => Sys2Proof.Machine.execFsub x d a b s
  | .fmul x d a b => Sys2Proof.Machine.execFmul x d a b s
  | .fma x d a b => Sys2Proof.Machine.execFma x d a b s
  | .fms x d a b => Sys2Proof.Machine.execFms x d a b s
  | .fmin x d a b => Sys2Proof.Machine.execFmin x d a b s
  | .fmax x d a b => Sys2Proof.Machine.execFmax x d a b s
  | .fneg x d a => Sys2Proof.Machine.execFneg x d a s
  | .fabs x d a => Sys2Proof.Machine.execFabs x d a s
  | .fdiv x d a b => Sys2Proof.Machine.execFdiv x d a b s
  | .fsqrt x d a => Sys2Proof.Machine.execFsqrt x d a s
  | .fceq x d a b => Sys2Proof.Machine.execFceq x d a b s
  | .fcne x d a b => Sys2Proof.Machine.execFcne x d a b s
  | .fclt x d a b => Sys2Proof.Machine.execFclt x d a b s
  | .fcle x d a b => Sys2Proof.Machine.execFcle x d a b s
  | .fcun x d a b => Sys2Proof.Machine.execFcun x d a b s
  | .f2q x d a => Sys2Proof.Machine.execF2q x d a s
  | .q2f x d a => Sys2Proof.Machine.execQ2f x d a s
  | .f2i x d a => Sys2Proof.Machine.execF2i x d a s
  | .i2f x d a => Sys2Proof.Machine.execI2f x d a s
  | .vadd x d a b => Sys2Proof.Machine.execVadd x d a b s
  | .vsub x d a b => Sys2Proof.Machine.execVsub x d a b s
  | .vand x d a b => Sys2Proof.Machine.execVand x d a b s
  | .vor x d a b => Sys2Proof.Machine.execVor x d a b s
  | .vxor x d a b => Sys2Proof.Machine.execVxor x d a b s
  | .vmul x d a b => Sys2Proof.Machine.execVmul x d a b s
  | .vshl x d a r => Sys2Proof.Machine.execVshl x d a r s
  | .vsar x d a r => Sys2Proof.Machine.execVsar x d a r s
  | .vqadd x d a b => Sys2Proof.Machine.execVqadd x d a b s
  | .vqsub x d a b => Sys2Proof.Machine.execVqsub x d a b s
  | .vqneg x d a => Sys2Proof.Machine.execVqneg x d a s
  | .vqabs x d a => Sys2Proof.Machine.execVqabs x d a s
  | .vqmul x d a b => Sys2Proof.Machine.execVqmul x d a b s
  | .vqmac x d a b => Sys2Proof.Machine.execVqmac x d a b s
  | .vqmuls x d a r => Sys2Proof.Machine.execVqmuls x d a r s
  | .vqmacs x d a r => Sys2Proof.Machine.execVqmacs x d a r s
  | .vfadd x d a b => Sys2Proof.Machine.execVfadd x d a b s
  | .vfsub x d a b => Sys2Proof.Machine.execVfsub x d a b s
  | .vfmul x d a b => Sys2Proof.Machine.execVfmul x d a b s
  | .vfma x d a b => Sys2Proof.Machine.execVfma x d a b s
  | .vfmuls x d a r => Sys2Proof.Machine.execVfmuls x d a r s
  | .vfmas x d a r => Sys2Proof.Machine.execVfmas x d a r s
  | .vfneg x d a => Sys2Proof.Machine.execVfneg x d a s
  | .vfabs x d a => Sys2Proof.Machine.execVfabs x d a s
  | .vfmin x d a b => Sys2Proof.Machine.execVfmin x d a b s
  | .vfmax x d a b => Sys2Proof.Machine.execVfmax x d a b s
  | .vq2f x d a => Sys2Proof.Machine.execVq2f x d a s
  | .vf2q x d a => Sys2Proof.Machine.execVf2q x d a s
  | .vf2i x d a => Sys2Proof.Machine.execVf2i x d a s
  | .vi2f x d a => Sys2Proof.Machine.execVi2f x d a s
  | .vceq x d a b => Sys2Proof.Machine.execVceq x d a b s
  | .vclt x d a b => Sys2Proof.Machine.execVclt x d a b s
  | .vcltu x d a b => Sys2Proof.Machine.execVcltu x d a b s
  | .vfceq x d a b => Sys2Proof.Machine.execVfceq x d a b s
  | .vfclt x d a b => Sys2Proof.Machine.execVfclt x d a b s
  | .vfcle x d a b => Sys2Proof.Machine.execVfcle x d a b s
  | .vbcast x d r => Sys2Proof.Machine.execVbcast x d r s
  | .vins x d r lane => Sys2Proof.Machine.execVins x d r lane s
  | .vext x r a lane => Sys2Proof.Machine.execVext x r a lane s
  | .vmov x d a => Sys2Proof.Machine.execVmov x d a s
  | .vdup2 x d a => Sys2Proof.Machine.execVdup2 x d a s
  | .vswap x d a => Sys2Proof.Machine.execVswap x d a s
  | .vfhadd4 x d a => Sys2Proof.Machine.execVfhadd4 x d a s
  | .vfhadd2 x d a => Sys2Proof.Machine.execVfhadd2 x d a s
  | .vqhadd2 x d a => Sys2Proof.Machine.execVqhadd2 x d a s
  | .padd x d a b => Sys2Proof.Machine.execPadd x d a b s
  | .psub x d a b => Sys2Proof.Machine.execPsub x d a b s
  | .pmov x d a => Sys2Proof.Machine.execPmov x d a s
  | .ppack x d hi lo => Sys2Proof.Machine.execPpack x d hi lo s
  | .plo x d a => Sys2Proof.Machine.execPlo x d a s
  | .phi x d a => Sys2Proof.Machine.execPhi x d a s
  | .p2f x d a => Sys2Proof.Machine.execP2f x d a s
  | .f2p x d r => Sys2Proof.Machine.execF2p x d r s
  | .pdiff x d a b => Sys2Proof.Machine.execPdiff x d a b s
  | .sinF x d a => Sys2Proof.Machine.execSinF x d a s
  | .cosF x d a => Sys2Proof.Machine.execCosF x d a s
  | .rotF x d a => Sys2Proof.Machine.execRotF x d a s
  | .sinQ x d a => Sys2Proof.Machine.execSinQ x d a s
  | .cosQ x d a => Sys2Proof.Machine.execCosQ x d a s
  | .rotQ x d a => Sys2Proof.Machine.execRotQ x d a s
  | .lb x rt base off => Sys2Proof.Machine.execLb x rt base off s
  | .lbu x rt base off => Sys2Proof.Machine.execLbu x rt base off s
  | .lh x rt base off => Sys2Proof.Machine.execLh x rt base off s
  | .lhu x rt base off => Sys2Proof.Machine.execLhu x rt base off s
  | .lw x rt base off => Sys2Proof.Machine.execLw x rt base off s
  | .lp x rt base off => Sys2Proof.Machine.execLp x rt base off s
  | .lv x rt base off => Sys2Proof.Machine.execLv x rt base off s
  | .sb x rt base off => Sys2Proof.Machine.execSb x rt base off s
  | .sh x rt base off => Sys2Proof.Machine.execSh x rt base off s
  | .sw x rt base off => Sys2Proof.Machine.execSw x rt base off s
  | .sp x rt base off => Sys2Proof.Machine.execSp x rt base off s
  | .sv x rt base off => Sys2Proof.Machine.execSv x rt base off s
  | .b k cond off => Sys2Proof.Machine.execB k cond off s
  | .bl k cond off => Sys2Proof.Machine.execBl k cond off s
  | .jr k cond rs => Sys2Proof.Machine.execJr k cond rs s
  | .wait k ev => Sys2Proof.Machine.execWait k ev s
  | .signal x ev => Sys2Proof.Machine.execSignal x ev s
  | .endTask k => Sys2Proof.Machine.execEndTask k s
  | .fence x => Sys2Proof.Machine.execFence x s
  | .xcr x u idx reg qd => Sys2Proof.Machine.execXcr x u idx reg qd s
  | .xcv x u idx reg qd => Sys2Proof.Machine.execXcv x u idx reg qd s
  | .xcw x u idx reg => Sys2Proof.Machine.execXcw x u idx reg s
  | .xcs x u idx => Sys2Proof.Machine.execXcs x u idx s
  | .li x d imm => Sys2Proof.Machine.execLi x d imm s
  | .addl x d a imm => Sys2Proof.Machine.execAddl x d a imm s
  | .andl x d a imm => Sys2Proof.Machine.execAndl x d a imm s
  | .orl x d a imm => Sys2Proof.Machine.execOrl x d a imm s
  | .faddl x d a imm => Sys2Proof.Machine.execFaddl x d a imm s
  | .fmull x d a imm => Sys2Proof.Machine.execFmull x d a imm s
  | .qmull x d a imm => Sys2Proof.Machine.execQmull x d a imm s
  | .shadowStoreHandshake k => Sys2Proof.Machine.execShadowStoreHandshake k s
  | .summitEndDeadline k => Sys2Proof.Machine.execSummitEndDeadline k s
  | .codeRecheck p task => Sys2Proof.Machine.execCodeRecheck p task s
  | .faultInfoRead m core => Sys2Proof.Machine.execFaultInfoRead m core s
  | .cyclesRead m core => Sys2Proof.Machine.execCyclesRead m core s
  | .evRaise m val => Sys2Proof.Machine.execEvRaise m val s
  | .taskLoad m task => Sys2Proof.Machine.execTaskLoad m task s
  | .taskLoadComplete p => Sys2Proof.Machine.execTaskLoadComplete p s
  | .taskUnload m task => Sys2Proof.Machine.execTaskUnload m task s
  | .taskReplace m task => Sys2Proof.Machine.execTaskReplace m task s
  | .replaceCheckComplete p => Sys2Proof.Machine.execReplaceCheckComplete p s
  | .deadlineExpiry p task latched => Sys2Proof.Machine.execDeadlineExpiry p task latched s
  | .frameRelease p task => Sys2Proof.Machine.execFrameRelease p task s
  | .periodCountRead m => Sys2Proof.Machine.execPeriodCountRead m s
  | .timebaseWrap tb => Sys2Proof.Machine.execTimebaseWrap tb s
  | .strobe => Sys2Proof.Machine.execStrobe s
  | .idleStrobe => Sys2Proof.Machine.execIdleStrobe s
  | .batonFlightEnd => Sys2Proof.Machine.execBatonFlightEnd s
  | .cirqueSample n code frac => Sys2Proof.Machine.execCirqueSample n code frac s
  | .couloirSampleArrival p n => Sys2Proof.Machine.execCouloirSampleArrival p n s
  | .sampleReady n => Sys2Proof.Machine.execSampleReady n s
  | .cirqCfgWrite m n val => Sys2Proof.Machine.execCirqCfgWrite m n val s
  | .cirqTrigWrite m n val => Sys2Proof.Machine.execCirqTrigWrite m n val s
  | .validityWindowEnd n => Sys2Proof.Machine.execValidityWindowEnd n s
  | .rotorStepStart d b => Sys2Proof.Machine.execRotorStepStart d b s
  | .rotorOverlapStart d b => Sys2Proof.Machine.execRotorOverlapStart d b s
  | .rotorFitComplete d b off gain rms => Sys2Proof.Machine.execRotorFitComplete d b off gain rms s
  | .rotorStepTimeout d b => Sys2Proof.Machine.execRotorStepTimeout d b s
  | .calibrationComplete d c off gain refOk => Sys2Proof.Machine.execCalibrationComplete d c off gain refOk s
  | .rotorReady d b => Sys2Proof.Machine.execRotorReady d b s
  | .calAgeExpiry n => Sys2Proof.Machine.execCalAgeExpiry n s
  | .diagRequest m b val => Sys2Proof.Machine.execDiagRequest m b val s
  | .diagWindow b => Sys2Proof.Machine.execDiagWindow b s
  | .diagEnd b => Sys2Proof.Machine.execDiagEnd b s
  | .domainLoss d => Sys2Proof.Machine.execDomainLoss d s
  | .domainPllStart d => Sys2Proof.Machine.execDomainPllStart d s
  | .domainPllLock d => Sys2Proof.Machine.execDomainPllLock d s
  | .domainRejoin d => Sys2Proof.Machine.execDomainRejoin d s
  | .cirqLastRead m n => Sys2Proof.Machine.execCirqLastRead m n s
  | .fineRunStart m n => Sys2Proof.Machine.execFineRunStart m n s
  | .fineOutputReady p n => Sys2Proof.Machine.execFineOutputReady p n s
  | .meanRunStart m n => Sys2Proof.Machine.execMeanRunStart m n s
  | .periodMeanReady tb => Sys2Proof.Machine.execPeriodMeanReady tb s
  | .resamplerRun m g run => Sys2Proof.Machine.execResamplerRun m g run s
  | .resamplerOutputReady p g => Sys2Proof.Machine.execResamplerOutputReady p g s
  | .ridgelineStep p e => Sys2Proof.Machine.execRidgelineStep p e s
  | .rdgCmdOff m e => Sys2Proof.Machine.execRdgCmdOff m e s
  | .rdgCmdFollow m e => Sys2Proof.Machine.execRdgCmdFollow m e s
  | .rdgCmdForm m e => Sys2Proof.Machine.execRdgCmdForm m e s
  | .rdgCmdIsland m e => Sys2Proof.Machine.execRdgCmdIsland m e s
  | .rdgCmdBlackStart m e => Sys2Proof.Machine.execRdgCmdBlackStart m e s
  | .blackStartBegin p e => Sys2Proof.Machine.execBlackStartBegin p e s
  | .keeperSet m e val => Sys2Proof.Machine.execKeeperSet m e val s
  | .switchbackStep p l => Sys2Proof.Machine.execSwitchbackStep p l s
  | .swbStart m l => Sys2Proof.Machine.execSwbStart m l s
  | .swbStop m l => Sys2Proof.Machine.execSwbStop m l s
  | .swbClear m l => Sys2Proof.Machine.execSwbClear m l s
  | .bankReq m l bank => Sys2Proof.Machine.execBankReq m l bank s
  | .testRunStart m g => Sys2Proof.Machine.execTestRunStart m g s
  | .testRunStop m g => Sys2Proof.Machine.execTestRunStop m g s
  | .timebaseStart m mask => Sys2Proof.Machine.execTimebaseStart m mask s
  | .timebaseStop m mask => Sys2Proof.Machine.execTimebaseStop m mask s
  | .alignedStart tb => Sys2Proof.Machine.execAlignedStart tb s
  | .commit m mask => Sys2Proof.Machine.execCommit m mask s
  | .delayLineCalibration bank ok => Sys2Proof.Machine.execDelayLineCalibration bank ok s
  | .tripPinActive src => Sys2Proof.Machine.execTripPinActive src s
  | .tripPinInactive src => Sys2Proof.Machine.execTripPinInactive src s
  | .tripSwSet m => Sys2Proof.Machine.execTripSwSet m s
  | .tripSwRelease m => Sys2Proof.Machine.execTripSwRelease m s
  | .tripClear m mask => Sys2Proof.Machine.execTripClear m mask s
  | .tripFirstRead m => Sys2Proof.Machine.execTripFirstRead m s
  | .saddleStopDetect => Sys2Proof.Machine.execSaddleStopDetect s
  | .legEnable m n => Sys2Proof.Machine.execLegEnable m n s
  | .legDisable m n => Sys2Proof.Machine.execLegDisable m n s
  | .bootUndervoltage n => Sys2Proof.Machine.execBootUndervoltage n s
  | .vdsTrip n r => Sys2Proof.Machine.execVdsTrip n r s
  | .spurClear m mask => Sys2Proof.Machine.execSpurClear m mask s
  | .ascEnter m => Sys2Proof.Machine.execAscEnter m s
  | .ascRelease m => Sys2Proof.Machine.execAscRelease m s
  | .legDiagStart m n vbus => Sys2Proof.Machine.execLegDiagStart m n vbus s
  | .legDiagComplete n v1 v2 v3 vbus => Sys2Proof.Machine.execLegDiagComplete n v1 v2 v3 vbus s
  | .pifLineChange k a b z => Sys2Proof.Machine.execPifLineChange k a b z s
  | .posSet m k val => Sys2Proof.Machine.execPosSet m k val s
  | .speedWindowEnd k => Sys2Proof.Machine.execSpeedWindowEnd k s
  | .speedBoundUpdate k => Sys2Proof.Machine.execSpeedBoundUpdate k s
  | .pifStale k => Sys2Proof.Machine.execPifStale k s
  | .edgePosRead m k => Sys2Proof.Machine.execEdgePosRead m k s
  | .heartbeatReceive p => Sys2Proof.Machine.execHeartbeatReceive p s
  | .heartbeatWindowClose => Sys2Proof.Machine.execHeartbeatWindowClose s
  | .ackReceive p => Sys2Proof.Machine.execAckReceive p s
  | .gendarmeSilent p => Sys2Proof.Machine.execGendarmeSilent p s
  | .lolGraceExpiry => Sys2Proof.Machine.execLolGraceExpiry s
  | .copyComplete => Sys2Proof.Machine.execCopyComplete s
  | .copyOverflow => Sys2Proof.Machine.execCopyOverflow s
  | .copyTimeout => Sys2Proof.Machine.execCopyTimeout s
  | .startWaitExpiry p => Sys2Proof.Machine.execStartWaitExpiry p s
  | .autoRejoinRelease p => Sys2Proof.Machine.execAutoRejoinRelease p s
  | .returnHoldExpiry => Sys2Proof.Machine.execReturnHoldExpiry s
  | .autoRestart => Sys2Proof.Machine.execAutoRestart s
  | .gdmSwap key => Sys2Proof.Machine.execGdmSwap key s
  | .gdmFail key p => Sys2Proof.Machine.execGdmFail key p s
  | .gdmRejoin key p => Sys2Proof.Machine.execGdmRejoin key p s
  | .gdmRestart key => Sys2Proof.Machine.execGdmRestart key s
  | .gdmSafe key => Sys2Proof.Machine.execGdmSafe key s
  | .gdmResync key => Sys2Proof.Machine.execGdmResync key s
  | .toggleLoss seg => Sys2Proof.Machine.execToggleLoss seg s
  | .imageCrcCheck ok => Sys2Proof.Machine.execImageCrcCheck ok s
  | .safCommit key => Sys2Proof.Machine.execSafCommit key s
  | .safCommitComplete ok => Sys2Proof.Machine.execSafCommitComplete ok s
  | .safReset key func low => Sys2Proof.Machine.execSafReset key func low s
  | .safDemand key func => Sys2Proof.Machine.execSafDemand key func s
  | .testPulseStart n high => Sys2Proof.Machine.execTestPulseStart n high s
  | .testPulseEnd n high => Sys2Proof.Machine.execTestPulseEnd n high s
  | .inputDemand n => Sys2Proof.Machine.execInputDemand n s
  | .inputRelease n => Sys2Proof.Machine.execInputRelease n s
  | .discrepancyExpiry n => Sys2Proof.Machine.execDiscrepancyExpiry n s
  | .tpoFault n => Sys2Proof.Machine.execTpoFault n s
  | .resetStuckExpiry n => Sys2Proof.Machine.execResetStuckExpiry n s
  | .soutOffPulse n => Sys2Proof.Machine.execSoutOffPulse n s
  | .soutOffPulseEnd n => Sys2Proof.Machine.execSoutOffPulseEnd n s
  | .soutStuckOn n => Sys2Proof.Machine.execSoutStuckOn n s
  | .soutShorted n => Sys2Proof.Machine.execSoutShorted n s
  | .stopTimeExpiry => Sys2Proof.Machine.execStopTimeExpiry s
  | .resetInputRelease low => Sys2Proof.Machine.execResetInputRelease low s
  | .feedbackTimeout => Sys2Proof.Machine.execFeedbackTimeout s
  | .kernelFault => Sys2Proof.Machine.execKernelFault s
  | .morAlloc m dest src => Sys2Proof.Machine.execMorAlloc m dest src s
  | .morGive m buffer src dest => Sys2Proof.Machine.execMorGive m buffer src dest s
  | .morSegGive m seg src dest => Sys2Proof.Machine.execMorSegGive m seg src dest s
  | .segGiveComplete m => Sys2Proof.Machine.execSegGiveComplete m s
  | .snapTake m => Sys2Proof.Machine.execSnapTake m s
  | .talusRun m c => Sys2Proof.Machine.execTalusRun m c s
  | .talusStop m c => Sys2Proof.Machine.execTalusStop m c s
  | .talusArm p c => Sys2Proof.Machine.execTalusArm p c s
  | .dmaGo m ch => Sys2Proof.Machine.execDmaGo m ch s
  | .dmaShadowValid m ch => Sys2Proof.Machine.execDmaShadowValid m ch s
  | .dmaCancel m ch => Sys2Proof.Machine.execDmaCancel m ch s
  | .dmaPause m ch => Sys2Proof.Machine.execDmaPause m ch s
  | .dmaResume m ch => Sys2Proof.Machine.execDmaResume m ch s
  | .dmaAbort m ch => Sys2Proof.Machine.execDmaAbort m ch s
  | .dmaReadReturn p ch => Sys2Proof.Machine.execDmaReadReturn p ch s
  | .dmaWriteComplete p ch => Sys2Proof.Machine.execDmaWriteComplete p ch s
  | .dmaDrainComplete p ch => Sys2Proof.Machine.execDmaDrainComplete p ch s
  | .dmaAccessTimeout p ch write => Sys2Proof.Machine.execDmaAccessTimeout p ch write s
  | .dmaRetry p ch => Sys2Proof.Machine.execDmaRetry p ch s
  | .cairnSecondEdge => Sys2Proof.Machine.execCairnSecondEdge s
  | .rateLoWrite m val => Sys2Proof.Machine.execRateLoWrite m val s
  | .rateCommit m val => Sys2Proof.Machine.execRateCommit m val s
  | .nowRead m => Sys2Proof.Machine.execNowRead m s
  | .cairnArm m => Sys2Proof.Machine.execCairnArm m s
  | .cairnStep m => Sys2Proof.Machine.execCairnStep m s
  | .leaseWrite m val => Sys2Proof.Machine.execLeaseWrite m val s
  | .leaseExpiry => Sys2Proof.Machine.execLeaseExpiry s
  | .mapPoint => Sys2Proof.Machine.execMapPoint s
  | .macReceive p frame fcsOk ago => Sys2Proof.Machine.execMacReceive p frame fcsOk ago s
  | .tqTailWrite m q val => Sys2Proof.Machine.execTqTailWrite m q val s
  | .tqReclaimWrite m q val => Sys2Proof.Machine.execTqReclaimWrite m q val s
  | .txDescriptorCheck p q => Sys2Proof.Machine.execTxDescriptorCheck p q s
  | .txFetchComplete p q => Sys2Proof.Machine.execTxFetchComplete p q s
  | .txStart p => Sys2Proof.Machine.execTxStart p s
  | .launchTime p q => Sys2Proof.Machine.execLaunchTime p q s
  | .lateDrop p q => Sys2Proof.Machine.execLateDrop p q s
  | .txComplete p => Sys2Proof.Machine.execTxComplete p s
  | .mdioCommand m val => Sys2Proof.Machine.execMdioCommand m val s
  | .mdioComplete data => Sys2Proof.Machine.execMdioComplete data s
  | .thermalMeasurement n reading bad => Sys2Proof.Machine.execThermalMeasurement n reading bad s
  | .throttleStep => Sys2Proof.Machine.execThrottleStep s
  | .throttleRecoverStep => Sys2Proof.Machine.execThrottleRecoverStep s
  | .floorWrite m val => Sys2Proof.Machine.execFloorWrite m val s
  | .colWrite hdr addr data crc cut => Sys2Proof.Machine.execColWrite hdr addr data crc cut s
  | .colWritePerformed => Sys2Proof.Machine.execColWritePerformed s
  | .colRead hdr addr crc cut => Sys2Proof.Machine.execColRead hdr addr crc cut s
  | .colStatus hdr crc => Sys2Proof.Machine.execColStatus hdr crc s
  | .inPush m val => Sys2Proof.Machine.execInPush m val s
  | .inPop m => Sys2Proof.Machine.execInPop m s
  | .outPush m val => Sys2Proof.Machine.execOutPush m val s
  | .outPop m => Sys2Proof.Machine.execOutPop m s
  | .doorbell m val => Sys2Proof.Machine.execDoorbell m val s
  | .bootDataWord val => Sys2Proof.Machine.execBootDataWord val s
  | .tracePacket => Sys2Proof.Machine.execTracePacket s
  | .tickPair => Sys2Proof.Machine.execTickPair s
  | .counterEnable m k => Sys2Proof.Machine.execCounterEnable m k s
  | .counterRead m k => Sys2Proof.Machine.execCounterRead m k s
  | .rcRead m addr => Sys2Proof.Machine.execRcRead m addr s
  | .compareReached e => Sys2Proof.Machine.execCompareReached e s
  | .deadTimeEnd e swing => Sys2Proof.Machine.execDeadTimeEnd e swing s
  | .relockDeadline pll => Sys2Proof.Machine.execRelockDeadline pll s
  | .joinImageWaitExpiry p => Sys2Proof.Machine.execJoinImageWaitExpiry p s

end Sys2Proof.Machine
end

