-- ==== Sys2Proof/Machine/Tick.lean ====
section
/-! DEFINITION. What passes while no command waits: one tick of the Saddle clock (DESIGN CHOICE, assumption 3). Time moves on, running timebases
count, Cairn and the cores' cycle counts advance, and the rows that such a count makes due are put into the queue. Every other row that time brings
about is sent from outside. -/

namespace Sys2Proof.Machine

/-- Put a command behind those that wait. -/
def State.enqueue (i : Instr) (s : State) : State := { s with pending := s.pending ++ [i] }

/-- One tick of a running timebase: it holds at 0 after a correction, counts, or wraps from PRD (R271, R288). A wrap of the period timebase is
followed by its strobe (R329). -/
def tbTick (tb : Fin 8) (s : State) : State :=
  if s.tbRuns tb.val then
    let t := s.tb tb.val
    if 0 < t.hold then s.setTb tb.val { t with hold := t.hold - 1 }
    else if t.prd ≤ s.tbCount tb.val then
      let s := s.enqueue (.timebaseWrap tb)
      if tb.val = s.periodTb then s.enqueue .strobe else s
    else s.setReg .a (Reg.pwmTbCount tb.val) (s.tbCount tb.val + 1)
  else s

/-- The network cycle that falls in a tick, if one does: five in sixteen ticks (R396). -/
def networkTick (s : State) : State :=
  if 5 * (s.tick - 1) / 16 < 5 * s.tick / 16 ∧ s.cairn.running = true then
    let s := if s.cairn.lease = 1 then s.enqueue .leaseExpiry else s
    let s := cairnCycle s
    if 10 ^ 9 ≤ s.cairn.ns then s.enqueue .cairnSecondEdge else s
  else s

/-- The core cycles of a tick: N / 64 of a cycle (R126), and the events that reach the matrix in them (R114, R152). -/
def cyclesTick (p : PeakId) (s : State) : State :=
  if (s.peak p).up then
    let n := (s.peak p).cycles64 + s.fld p Fd.clkStatusCurN
    let r := (s.peak p).signals.partition (fun e => decide (e.1 ≤ n))
    forAll r.1 (fun e s => fire p e.2 s) (s.setPeak p { s.peak p with cycles64 := n, signals := r.2 })
  else s

/-- One tick with no command waiting. -/
def tick (s : State) : State :=
  let s := bothPeaks couloirTick (bothPeaks cyclesTick { s with tick := s.tick + 1 })
  let s := networkTick s
  if s.saddle.clock then forAll (List.finRange 8) tbTick s else s

end Sys2Proof.Machine
end

