-- ==== Sys2Proof/Safety.lean ====
section
/-! DEFINITION. The terms of the statements: what a sound state is, what an instruction of a core leaves alone, and what it writes. -/

namespace Sys2Proof.Machine

/-! ### Sound states -/

/-- The registers are in the canonical form. -/
def State.regsWf (s : State) : Bool := Tab.wf regDefault s.regs

/-- The memories are in the canonical form. -/
def State.memWf (s : State) : Bool := Tab.wf memDefault s.mem

/-- No pair has both switches on (R279, R292). -/
def pairsSafe (t : Tab Pair) : Bool := t.all (fun e => !(e.2.hi && e.2.lo))

/-- No Spur leg has both switches on (R302, R303). -/
def legsSafe (t : Tab Leg) : Bool := t.all (fun e => !(e.2.hi && e.2.lo))

/-- A sound state. -/
def State.sound (s : State) : Bool := s.regsWf && s.memWf && pairsSafe s.saddle.pairs && legsSafe s.saddle.legs

/-! ### Instructions of a core -/

/-- Core `k` can issue an instruction of `len` bytes: its Peak runs, the core is in a task and not waiting, and the words lie below the end of the
ITCM (R104, R111, R114). -/
def State.runs (s : State) (k : CoreSel) (len : Nat) : Prop := s.canIssue k = true ∧ (s.core k).pc.toNat + len ≤ 0x10000

/-- Of the whole device, only core `k` and the Peaks' observation counters (R444) may differ: every other core, every register but the counters'
overflow marks, every byte of memory, every task and everything each block keeps is unchanged. -/
structure OnlyCore (k : CoreSel) (s t : State) : Prop where
  others : ∀ j, j ≠ k → t.core j = s.core j
  regs : ∀ i, (∀ n < 8, i ≠ regKey k.peak (Reg.obsCntHi n)) → t.regW i = s.regW i
  peaks : ∀ p, { t.peak p with obs := (s.peak p).obs } = s.peak p
  rest : { t with regs := s.regs, cores := s.cores, peaks := s.peaks } = s

/-- As `OnlyCore`, and a free value may have been taken. -/
structure OnlyCoreFree (k : CoreSel) (s t : State) : Prop where
  others : ∀ j, j ≠ k → t.core j = s.core j
  regs : ∀ i, (∀ n < 8, i ≠ regKey k.peak (Reg.obsCntHi n)) → t.regW i = s.regW i
  peaks : ∀ p, { t.peak p with obs := (s.peak p).obs } = s.peak p
  rest : { t with regs := s.regs, cores := s.cores, peaks := s.peaks, free := s.free } = s

/-- The instruction issued as `u` says and passed its `len` bytes: it waited for what it uses, holds the issue slot for its occupancy, and its
results can be used its latency later (R88, R90, R91). -/
structure Issued (u : Use) (len : Nat) (c c' : Core) : Prop where
  pc : c'.pc = c.pc + BitVec.ofNat 32 len
  issue : c'.issue = c.issueAt u + u.occ
  ready : ∀ r, c'.readyAt r = if r ∈ u.writes ∧ r ≠ 0 ∧ r ≠ 44 then c.issueAt u + u.lat else c.readyAt r
  div : c'.divFree = if u.div then c.issueAt u + 8 else c.divFree
  lane : c'.laneFree = if u.shadow then c.issueAt u + 3 else c.laneFree

/-- `c'` with the pc and the times of `c`: what an instruction did to the core beside time. -/
def Core.at_ (c' c : Core) : Core :=
  { c' with pc := c.pc, issue := c.issue, ready := c.ready, divFree := c.divFree, laneFree := c.laneFree }

/-- Scalar `d` took the result, s0 discards it, the result's flags are set, and nothing else of the core changed (R94, R103). -/
structure ScalarWrite (d : Nat) (r : Res) (c c' : Core) : Prop where
  dest : c'.rs d = if d = 0 then 0 else r.val
  others : ∀ n, n ≠ d → c'.rs n = c.rs n
  flags : c'.flags = c.flags ||| r.fl
  rest : { c'.at_ c with s := c.s, flags := c.flags } = c

/-- The lanes of predicate `d` that `mask` names took `v`, q0 discards it, `fl` was set, and nothing else of the core changed (R94, R134). -/
structure PredWrite (d : Nat) (v mask : BitVec 4) (fl : FlagSet) (c c' : Core) : Prop where
  dest : c'.rq d = if d = 0 then 0xF else (v &&& mask) ||| (c.rq d &&& ~~~mask)
  others : ∀ n, n ≠ d → c'.rq n = c.rq n
  flags : c'.flags = c.flags ||| fl
  rest : { c'.at_ c with q := c.q, flags := c.flags } = c

/-- Each lane of vector `d` whose bit of `mask` is 1 took its result and set its flags, and nothing else of the core changed (R96). -/
structure VectorWrite (d : Nat) (mask : BitVec 4) (f : Nat → Res) (c c' : Core) : Prop where
  dest : ∀ l < 4, c'.rv d l = if mask.getLsbD l then (f l).val else c.rv d l
  others : ∀ n l, n ≠ d → l < 4 → c'.rv n l = c.rv n l
  flags : c'.flags = (List.range 4).foldl (fun g l => if mask.getLsbD l then g ||| (f l).fl else g) c.flags
  rest : { c'.at_ c with v := c.v, flags := c.flags } = c

/-- Phase register `d` took the value, `fl` was set, and nothing else of the core changed. -/
structure PhaseWrite (d : Nat) (v : BitVec 64) (fl : FlagSet) (c c' : Core) : Prop where
  dest : c'.rph d = v
  others : ∀ n, n ≠ d → c'.rph n = c.rph n
  flags : c'.flags = c.flags ||| fl
  rest : { c'.at_ c with ph := c.ph, flags := c.flags } = c

/-- The command completes with a next state that satisfies `P`. -/
def Completes (i : Instr) (s : State) (P : State → Prop) : Prop := ∃ t, exec i s = .next t ∧ P t

/-- The instruction of core `k` completes: it issues as `u` says, and what it does to the core is `W`. -/
def CompletesOn (i : Instr) (k : CoreSel) (len : Nat) (u : Use) (s : State) (W : Core → Core → Prop) : Prop :=
  Completes i s (fun t => OnlyCore k s t ∧ Issued u len (s.core k) (t.core k) ∧ W (s.core k) (t.core k))

/-! ### What commands change -/

/-- Between `s` and `t` each register changed at most in the bits that `M` gives for its address. -/
def RegFrame (M : Nat → Nat) (s t : State) : Prop :=
  ∀ p a i, a < 2 ^ 32 → (M a).testBit i = false → (t.reg p a).testBit i = (s.reg p a).testBit i

/-- The register bits that an event may change, whatever fires: the flags, pending bits, overrun counts and monitor record of TRV, the trace and
counter marks of OBS, the lost counts of TAL (R155, R161, R383, R442, R444). -/
def eventMask (a : Nat) : Nat :=
  if a = Reg.trvStatus ∨ a = Reg.trvMonCycle ∨ a = Reg.trvEvWatchCnt then 0xFFFFFFFF
  else if a = Reg.trvFlags then 0x12
  else if a = Reg.trvMon then 0xFF0F
  else if a = Reg.obsTrcLost then 0x1FFFF
  else if 0x4016010C ≤ a ∧ a ≤ 0x4016017C ∧ a % 16 = 12 then 0x10000
  else if 0x40040214 ≤ a ∧ a ≤ 0x40040274 ∧ a % 32 = 20 then 0x1FFFF
  else if 0x400B3000 ≤ a ∧ a < 0x400B3700 ∧ a % 16 = 0 then 0x82
  else if 0x400B3000 ≤ a ∧ a < 0x400B3700 ∧ a % 16 = 4 then 0xFFFF0000
  else 0

/-- The listed registers' bits. -/
def onlyRegs (own : List (Nat × Nat)) (a : Nat) : Nat := (own.find? (fun e => e.1 == a)).elim 0 (·.2)

/-- The bits that an event may change, and the listed registers' bits. -/
def eventsAnd (own : List (Nat × Nat)) (a : Nat) : Nat := eventMask a ||| onlyRegs own a

/-- The register bits in which deciding the pairs anew may show: TRIPPED and TRIPACT of each, the summaries, the CONFLICT flag (R291, R292). -/
def pairMask (a : Nat) : Nat :=
  if a = Reg.pwmStatus then 0x3FFFF
  else if a = Reg.tripPairs then 0xFFFFFFFF
  else if a = Reg.tripFlags then 0x4
  else if 0x4005020C ≤ a ∧ a ≤ 0x400503FC ∧ a % 16 = 12 then 0x38
  else 0

/-- The register bits in which deciding the legs anew and an active short may show: EN, ACTIVE, SRC_OFF and IN_ASC of each leg, the summaries, the
ASC_FAIL flag (R302, R313, R314). -/
def legMask (a : Nat) : Nat :=
  if a = Reg.spurStatus then 0x3003F
  else if a = Reg.spurFlags then 0x40
  else if 0x40060100 ≤ a ∧ a ≤ 0x40060240 ∧ a % 64 = 0 then 0x1
  else if 0x40060120 ≤ a ∧ a ≤ 0x40060260 ∧ a % 64 = 32 then 0x61
  else 0

/-- The bits that events, pairs and legs may change, and the listed registers' bits. -/
def switchesAnd (own : List (Nat × Nat)) (a : Nat) : Nat := eventMask a ||| pairMask a ||| legMask a ||| onlyRegs own a

/-- The registers in which source `src` of the trip matrix shows (R293, R294). -/
def sourceRegs (src : Nat) : List (Nat × Nat) :=
  [(Reg.tripStatus, 0x0FFF0FFF), (Reg.tripFlags, 0x8), (Reg.tripFirst, 0x80000FFF), (Reg.tripFirstNs, 0xFFFFFFFF), (Reg.tripSrcCount src, 0x1FFFF)]

/-- The register bits that the safety kernel may change as it settles: its own block, GDM.STATUS.INHIBIT, the flags of lost gates, and what source
10 of the trip matrix brings about (R303, R354, R363). -/
def kernelMask (a : Nat) : Nat :=
  if a / 0x10000 = 0x4012 then 0xFFFFFFFF
  else if a = Reg.gdmStatus then 0x10
  else if a = Reg.spurFlags then 0x4C
  else switchesAnd (sourceRegs 10) a

/-- Event `ev` reached the ordinary tasks of a Peak: each loaded one has it latched for its WAIT (R114, R151). -/
def Fired (p : PeakId) (ev : Nat) (s t : State) : Prop :=
  (s.peak p).up = true → ∀ n ∈ s.loaded p, isSummit n = false → (t.task p n).wait.getLsbD ev = true

end Sys2Proof.Machine
end

