-- ==== Sys2Proof/Certificates/Slice0/Obligations.lean ====
section
/-! DEFINITION. The statements about the machine for the provers. -/

open Sys2Proof Sys2Proof.Machine

/-- A step with a command at the front of the queue is exec of that command on the state with the queue's rest. With an empty queue one tick passes
(assumption 3), which is the model's choice. -/
def Obligations.StepRunsTheFrontCommand : Prop :=
  ∀ (c : Instr) (r : List Instr) (s : State), step { s with pending := c :: r } = exec c { s with pending := r } ∧
    step { s with pending := [] } = .next (tick { s with pending := [] }) ∧ (tick s).tick = s.tick + 1

/-- R5, R279, R303: after reset the queue is empty, no byte of memory and no register has been written, so each register of the map but the factory
filter banks reads the reset value of its table, and the state is sound: canonical registers and memories, every switch off. -/
def Obligations.ResetState : Prop :=
  State.reset.sound = true ∧ State.reset.pending = [] ∧ (∀ key, State.reset.byte key = memDefault key) ∧
  ∀ p a r, a < 2 ^ 32 → rowAt a = some r → isRomCoef a = false → State.reset.reg p a = r.reset % 2 ^ 32

/-- R279, R292, R303: every step keeps the state sound: the registers and memories stay in canonical form, and no output pair and no gate-drive leg
ever has both its switches on. A step that runs a command takes that command, and nothing else, from the queue. -/
def Obligations.StepKeepsSoundness : Prop :=
  ∀ s t : State, s.sound = true → step s = .next t → t.sound = true ∧ ∀ c r, s.pending = c :: r → t.pending = r

/-- R94: scalar 0 always reads as 0 and predicate 0 as 0b1111, and a write to either is discarded; every other register of each file holds the last
value written to it, and a write to it leaves every other register of every file alone. -/
def Obligations.RegisterFiles : Prop :=
  ∀ (c : Core) (n m l j : Nat) (w : Word) (v : BitVec 64) (b : BitVec 4), l < 4 → j < 4 →
    let sameS := fun (t : Core) => ∀ i, t.rs i = c.rs i
    let sameV := fun (t : Core) => ∀ i k, t.rv i k = c.rv i k
    let sameP := fun (t : Core) => ∀ i, t.rph i = c.rph i
    let sameQ := fun (t : Core) => ∀ i, t.rq i = c.rq i
    c.rs 0 = 0 ∧ c.rq 0 = 0xF ∧
    (c.setS 0 w = c ∧ c.setQ 0 b 0xF = c) ∧
    ((c.setS n w).rs m = (if m = n ∧ n ≠ 0 then w else c.rs m) ∧ sameV (c.setS n w) ∧ sameP (c.setS n w) ∧ sameQ (c.setS n w)) ∧
    ((c.setV n l w).rv m j = (if m = n ∧ j = l then w else c.rv m j) ∧ sameS (c.setV n l w) ∧ sameP (c.setV n l w) ∧ sameQ (c.setV n l w)) ∧
    ((c.setPh n v).rph m = (if m = n then v else c.rph m) ∧ sameS (c.setPh n v) ∧ sameV (c.setPh n v) ∧ sameQ (c.setPh n v)) ∧
    ((c.setQ n b 0xF).rq m = (if m = n ∧ n ≠ 0 then b else c.rq m) ∧ sameS (c.setQ n b 0xF) ∧ sameV (c.setQ n b 0xF) ∧ sameP (c.setQ n b 0xF))

/-- R132, R94, R95, R90, R97: the integer instructions. Where lane 0 of the governing predicate is 1, each puts its result into s[rd] (s0 discards
it), sets no flag, and leaves every other register, all of memory and every other part of the device unchanged. -/
def Obligations.IntegerResultsAndFrame : Prop :=
  ∀ (x : Slot) (d a b : Fin 32) (imm : BitVec 12) (s : State),
    s.runs x.toCoreSel 4 → (s.core x.toCoreSel).on x.pred.val = true →
    let k := x.toCoreSel
    let u := (s.core k).rs a.val
    let v := (s.core k).rs b.val
    let two : Nat → Use := fun lat => { reads := [kQ x.pred.val, kS a.val, kS b.val], writes := [kS d.val], lat := lat }
    let one : Use := { reads := [kQ x.pred.val, kS a.val], writes := [kS d.val], lat := 1 }
    let done := fun (i : Instr) (use : Use) (w : Word) => CompletesOn i k 4 use s (ScalarWrite d.val ⟨w, 0⟩)
    done (.add x d a b) (two 1) (u + v) ∧
    done (.sub x d a b) (two 1) (u - v) ∧
    done (.and x d a b) (two 1) (u &&& v) ∧
    done (.or x d a b) (two 1) (u ||| v) ∧
    done (.xor x d a b) (two 1) (u ^^^ v) ∧
    done (.shl x d a b) (two 1) (u <<< (v.toNat % 32)) ∧
    done (.shr x d a b) (two 1) (u >>> (v.toNat % 32)) ∧
    done (.sar x d a b) (two 1) (u.sshiftRight (v.toNat % 32)) ∧
    done (.mul x d a b) (two 2) (BitVec.ofNat 32 (u.toNat * v.toNat)) ∧
    done (.min x d a b) (two 1) (BitVec.ofInt 32 (min u.toInt v.toInt)) ∧
    done (.max x d a b) (two 1) (BitVec.ofInt 32 (max u.toInt v.toInt)) ∧
    done (.minu x d a b) (two 1) (BitVec.ofNat 32 (min u.toNat v.toNat)) ∧
    done (.maxu x d a b) (two 1) (BitVec.ofNat 32 (max u.toNat v.toNat)) ∧
    done (.addi x d a imm) one (u + imm.signExtend 32) ∧
    done (.andi x d a imm) one (u &&& imm.setWidth 32) ∧
    done (.ori x d a imm) one (u ||| imm.setWidth 32) ∧
    done (.xori x d a imm) one (u ^^^ imm.setWidth 32) ∧
    done (.shli x d a b) one (u <<< b.val) ∧
    done (.shri x d a b) one (u >>> b.val) ∧
    done (.sari x d a b) one (u.sshiftRight b.val)

/-- R133, R95, R134: a scalar compare writes its one result bit to all four lanes of qd (q0 discards it) and sets no flag. R133, R134: the predicate
operations act lane by lane in the lanes of the governing predicate; GETQ writes a scalar under lane 0. R136, R95: an fp32 compare writes its bit to
all four lanes of qd, and sets INV on a signalling NaN, FCLT and FCLE also on a quiet one. -/
def Obligations.ComparesAndPredicates : Prop :=
  (∀ (x : Slot) (d : Fin 4) (a b : Fin 32) (imm : BitVec 12) (s : State),
    s.runs x.toCoreSel 4 → (s.core x.toCoreSel).on x.pred.val = true →
    let k := x.toCoreSel
    let u := (s.core k).rs a.val
    let v := (s.core k).rs b.val
    let two : Use := { reads := [kQ x.pred.val, kS a.val, kS b.val], writes := [kQ d.val], lat := 1 }
    let one : Use := { reads := [kQ x.pred.val, kS a.val], writes := [kQ d.val], lat := 1 }
    let done := fun (i : Instr) (use : Use) (r : Bool) => CompletesOn i k 4 use s (PredWrite d.val (if r then 0xF else 0) 0xF 0)
    done (.ceq x d a b) two (decide (u = v)) ∧
    done (.cne x d a b) two (decide (u ≠ v)) ∧
    done (.clt x d a b) two (decide (u.toInt < v.toInt)) ∧
    done (.cge x d a b) two (decide (v.toInt ≤ u.toInt)) ∧
    done (.cltu x d a b) two (decide (u.toNat < v.toNat)) ∧
    done (.cgeu x d a b) two (decide (v.toNat ≤ u.toNat)) ∧
    done (.ceqi x d a imm) one (decide (u.toInt = imm.toInt)) ∧
    done (.cnei x d a imm) one (decide (u.toInt ≠ imm.toInt)) ∧
    done (.clti x d a imm) one (decide (u.toInt < imm.toInt)) ∧
    done (.cgei x d a imm) one (decide (imm.toInt ≤ u.toInt)) ∧
    done (.cltui x d a imm) one (decide (u.toNat < imm.toNat)) ∧
    done (.cgeui x d a imm) one (decide (imm.toNat ≤ u.toNat))) ∧
  (∀ (x : Slot) (d a b : Fin 4) (r : Fin 32) (s : State), s.runs x.toCoreSel 4 →
    let k := x.toCoreSel
    let c := s.core k
    let two : Use := { reads := [kQ x.pred.val, kQ a.val, kQ b.val], writes := [kQ d.val], lat := 1 }
    let one : Use := { reads := [kQ x.pred.val, kQ a.val], writes := [kQ d.val], lat := 1 }
    let done := fun (i : Instr) (use : Use) (v : BitVec 4) => CompletesOn i k 4 use s (PredWrite d.val v (c.rq x.pred.val) 0)
    done (.andq x d a b) two (c.rq a.val &&& c.rq b.val) ∧
    done (.orq x d a b) two (c.rq a.val ||| c.rq b.val) ∧
    done (.xorq x d a b) two (c.rq a.val ^^^ c.rq b.val) ∧
    done (.andnq x d a b) two (c.rq a.val &&& ~~~(c.rq b.val)) ∧
    done (.setq x d r) { reads := [kQ x.pred.val, kS r.val], writes := [kQ d.val] } ((c.rs r.val).setWidth 4) ∧
    done (.allq x d a) one (if c.lane a.val 0 && c.lane a.val 1 && c.lane a.val 2 && c.lane a.val 3 then 0xF else 0) ∧
    done (.anyq x d a) one (if c.lane a.val 0 || c.lane a.val 1 || c.lane a.val 2 || c.lane a.val 3 then 0xF else 0) ∧
    (c.on x.pred.val = true →
      CompletesOn (.getq x r a) k 4 { reads := [kQ x.pred.val, kQ a.val], writes := [kS r.val] } s
        (ScalarWrite r.val ⟨(c.rq a.val).setWidth 32, 0⟩))) ∧
  (∀ (x : Slot) (d : Fin 4) (a b : Fin 32) (s : State),
    s.runs x.toCoreSel 4 → (s.core x.toCoreSel).on x.pred.val = true →
    let k := x.toCoreSel
    let u := FVal.ofWord ((s.core k).rs a.val)
    let v := FVal.ofWord ((s.core k).rs b.val)
    let nan := u.isNan || v.isNan
    let quiet : FlagSet := if u.isSnan || v.isSnan then flInv else 0
    let any : FlagSet := if nan then flInv else 0
    let use : Use := { reads := [kQ x.pred.val, kS a.val, kS b.val], writes := [kQ d.val], lat := 3 }
    let done := fun (i : Instr) (r : Bool) (fl : FlagSet) => CompletesOn i k 4 use s (PredWrite d.val (if r then 0xF else 0) 0xF fl)
    (nan = true →
      done (.fceq x d a b) false quiet ∧ done (.fcne x d a b) true quiet ∧ done (.fclt x d a b) false any ∧ done (.fcle x d a b) false any ∧
      done (.fcun x d a b) true quiet) ∧
    (∀ p m q n, u = .fin p m → v = .fin q n →
      done (.fceq x d a b) (decide (u.int = v.int)) 0 ∧ done (.fcne x d a b) (decide (u.int ≠ v.int)) 0 ∧
      done (.fclt x d a b) (decide (u.int < v.int)) 0 ∧ done (.fcle x d a b) (decide (u.int ≤ v.int)) 0 ∧ done (.fcun x d a b) false 0))

/-- R135: the Q1.31 instructions put the model's Q1.31 result and its SAT flag into the core, and change nothing else. R99: what those results are.
The exact result is an integer number of 2^-62; it is rounded once to the nearest multiple of 2^-31, ties to even, and saturated once, and SAT is
set exactly where it had to be saturated. -/
def Obligations.FractionalArithmetic : Prop :=
  (∀ (x : Slot) (d a b : Fin 32) (s : State),
    s.runs x.toCoreSel 4 → (s.core x.toCoreSel).on x.pred.val = true →
    let k := x.toCoreSel
    let o := (s.core k).rs d.val
    let u := (s.core k).rs a.val
    let v := (s.core k).rs b.val
    let two : Nat → Use := fun lat => { reads := [kQ x.pred.val, kS a.val, kS b.val], writes := [kS d.val], lat := lat }
    let one : Use := { reads := [kQ x.pred.val, kS a.val], writes := [kS d.val], lat := 1 }
    let acc : Use := { reads := [kQ x.pred.val, kS d.val, kS a.val, kS b.val], writes := [kS d.val], lat := 2 }
    let done := fun (i : Instr) (use : Use) (r : Res) => CompletesOn i k 4 use s (ScalarWrite d.val r)
    done (.qadd x d a b) (two 1) (qAdd u v) ∧
    done (.qsub x d a b) (two 1) (qSub u v) ∧
    done (.qneg x d a) one (qNeg u) ∧
    done (.qabs x d a) one (qAbs u) ∧
    done (.qmul x d a b) (two 2) (qMul u v) ∧
    done (.qmac x d a b) acc (qMac o u v) ∧
    done (.qmsu x d a b) acc (qMsu o u v)) ∧
  (let lim : Int := 2147483647
  let sat := fun (n : Int) (r : Res) => r.val.toInt = max (-lim - 1) (min lim n) ∧ (r.fl = if -lim - 1 ≤ n ∧ n ≤ lim then 0 else flSat)
  let near := fun (n e : Int) => 2 * (e - 2147483648 * n) ≤ 2147483648 ∧ -2147483648 ≤ 2 * (e - 2147483648 * n) ∧
    ((2 * (e - 2147483648 * n) = 2147483648 ∨ 2 * (e - 2147483648 * n) = -2147483648) → n % 2 = 0)
  ∀ o u v : Word,
    sat (u.toInt + v.toInt) (qAdd u v) ∧ sat (u.toInt - v.toInt) (qSub u v) ∧ sat (-u.toInt) (qNeg u) ∧ sat u.toInt.natAbs (qAbs u) ∧
    (∃ n, near n (u.toInt * v.toInt) ∧ sat n (qMul u v)) ∧
    (∃ n, near n (2147483648 * o.toInt + u.toInt * v.toInt) ∧ sat n (qMac o u v)) ∧
    (∃ n, near n (2147483648 * o.toInt - u.toInt * v.toInt) ∧ sat n (qMsu o u v)))

/-- R147, R90: the long forms pass 8 bytes, and take one more issue cycle at an address that is no multiple of 8. -/
def Obligations.LongForms : Prop :=
  ∀ (x : Slot) (d a : Fin 32) (imm : Word) (s : State),
    s.runs x.toCoreSel 8 → (s.core x.toCoreSel).on x.pred.val = true →
    let k := x.toCoreSel
    let u := (s.core k).rs a.val
    let occ := if (s.core k).pc.toNat % 8 = 0 then 1 else 2
    let use : Nat → Use := fun lat => { reads := [kQ x.pred.val, kS a.val], writes := [kS d.val], lat := lat, occ := occ }
    let done := fun (i : Instr) (lat : Nat) (r : Res) => CompletesOn i k 8 (use lat) s (ScalarWrite d.val r)
    CompletesOn (.li x d imm) k 8 { reads := [kQ x.pred.val], writes := [kS d.val], lat := 1, occ := occ } s (ScalarWrite d.val ⟨imm, 0⟩) ∧
    done (.addl x d a imm) 1 ⟨u + imm, 0⟩ ∧
    done (.andl x d a imm) 1 ⟨u &&& imm, 0⟩ ∧
    done (.orl x d a imm) 1 ⟨u ||| imm, 0⟩ ∧
    done (.faddl x d a imm) 3 (fpAdd u imm) ∧
    done (.fmull x d a imm) 3 (fpMul u imm) ∧
    done (.qmull x d a imm) 2 (qMul u imm)

/-- R136, R91: the scalar fp32 instructions put the fp32 result and its flags into the core; divide and square root hold their unit for 8 cycles.
R98: no fp32 sum, difference, product, quotient or root is ever delivered on the subnormal grid, and every NaN among them is the default NaN. -/
def Obligations.FloatArithmetic : Prop :=
  (∀ (x : Slot) (d a b : Fin 32) (s : State),
    s.runs x.toCoreSel 4 → (s.core x.toCoreSel).on x.pred.val = true →
    let k := x.toCoreSel
    let o := (s.core k).rs d.val
    let u := (s.core k).rs a.val
    let v := (s.core k).rs b.val
    let two : Use := { reads := [kQ x.pred.val, kS a.val, kS b.val], writes := [kS d.val], lat := 3 }
    let one : Nat → Use := fun lat => { reads := [kQ x.pred.val, kS a.val], writes := [kS d.val], lat := lat }
    let acc : Use := { reads := [kQ x.pred.val, kS d.val, kS a.val, kS b.val], writes := [kS d.val], lat := 4 }
    let done := fun (i : Instr) (use : Use) (r : Res) => CompletesOn i k 4 use s (ScalarWrite d.val r)
    done (.fadd x d a b) two (fpAdd u v) ∧
    done (.fsub x d a b) two (fpSub u v) ∧
    done (.fmul x d a b) two (fpMul u v) ∧
    done (.fma x d a b) acc (fpFma Config.fmaQnanInv o u v) ∧
    done (.fms x d a b) acc (fpFms Config.fmaQnanInv o u v) ∧
    done (.fmin x d a b) two (fpMin u v) ∧
    done (.fmax x d a b) two (fpMax u v) ∧
    done (.fneg x d a) (one 1) ⟨u ^^^ 0x80000000, 0⟩ ∧
    done (.fabs x d a) (one 1) ⟨u &&& 0x7FFFFFFF, 0⟩ ∧
    done (.fdiv x d a b) { two with lat := 8, div := true } (fpDiv u v) ∧
    done (.fsqrt x d a) { one 8 with div := true } (fpSqrt u) ∧
    done (.f2q x d a) (one 3) (f2q u) ∧
    done (.q2f x d a) (one 3) (q2f u) ∧
    done (.f2i x d a) (one 3) (f2i u) ∧
    done (.i2f x d a) (one 3) (i2f u)) ∧
  (let good := fun (w : Word) =>
    (w.toNat / 2 ^ 23 % 256 = 0 → w.toNat % 2 ^ 23 = 0) ∧ (w.toNat / 2 ^ 23 % 256 = 255 → w.toNat % 2 ^ 23 ≠ 0 → w = 0x7FC00000)
  ∀ u v : Word, good (fpAdd u v).val ∧ good (fpSub u v).val ∧ good (fpMul u v).val ∧ good (fpDiv u v).val ∧ good (fpSqrt u).val)

/-- R137, R96: a vector instruction acts in each lane whose governing predicate bit is 1, with that lane's flags; a scalar operand is the same in
all lanes. -/
def Obligations.VectorLaneResults : Prop :=
  ∀ (x : Slot) (d a b : Fin 8) (r : Fin 32) (s : State), s.runs x.toCoreSel 4 →
    let k := x.toCoreSel
    let c := s.core k
    let o := fun l => c.rv d.val l
    let u := fun l => c.rv a.val l
    let v := fun l => c.rv b.val l
    let w := c.rs r.val
    let vv : Nat → Use := fun lat => { reads := [kQ x.pred.val, kV a.val, kV b.val], writes := [kV d.val], lat := lat }
    let vva : Nat → Use := fun lat => { reads := [kQ x.pred.val, kV d.val, kV a.val, kV b.val], writes := [kV d.val], lat := lat }
    let vs : Nat → Use := fun lat => { reads := [kQ x.pred.val, kV a.val, kS r.val], writes := [kV d.val], lat := lat }
    let vsa : Nat → Use := fun lat => { reads := [kQ x.pred.val, kV d.val, kV a.val, kS r.val], writes := [kV d.val], lat := lat }
    let v1 : Nat → Use := fun lat => { reads := [kQ x.pred.val, kV a.val], writes := [kV d.val], lat := lat }
    let done := fun (i : Instr) (use : Use) (f : Nat → Res) => CompletesOn i k 4 use s (VectorWrite d.val (c.rq x.pred.val) f)
    done (.vadd x d a b) (vv 1) (fun l => ⟨u l + v l, 0⟩) ∧
    done (.vsub x d a b) (vv 1) (fun l => ⟨u l - v l, 0⟩) ∧
    done (.vand x d a b) (vv 1) (fun l => ⟨u l &&& v l, 0⟩) ∧
    done (.vor x d a b) (vv 1) (fun l => ⟨u l ||| v l, 0⟩) ∧
    done (.vxor x d a b) (vv 1) (fun l => ⟨u l ^^^ v l, 0⟩) ∧
    done (.vmul x d a b) (vv 2) (fun l => ⟨BitVec.ofNat 32 ((u l).toNat * (v l).toNat), 0⟩) ∧
    done (.vshl x d a r) (vs 1) (fun l => ⟨u l <<< (w.toNat % 32), 0⟩) ∧
    done (.vsar x d a r) (vs 1) (fun l => ⟨(u l).sshiftRight (w.toNat % 32), 0⟩) ∧
    done (.vqadd x d a b) (vv 1) (fun l => qAdd (u l) (v l)) ∧
    done (.vqsub x d a b) (vv 1) (fun l => qSub (u l) (v l)) ∧
    done (.vqneg x d a) (v1 1) (fun l => qNeg (u l)) ∧
    done (.vqabs x d a) (v1 1) (fun l => qAbs (u l)) ∧
    done (.vqmul x d a b) (vv 2) (fun l => qMul (u l) (v l)) ∧
    done (.vqmac x d a b) (vva 2) (fun l => qMac (o l) (u l) (v l)) ∧
    done (.vqmuls x d a r) (vs 2) (fun l => qMul (u l) w) ∧
    done (.vqmacs x d a r) (vsa 2) (fun l => qMac (o l) (u l) w) ∧
    done (.vfadd x d a b) (vv 3) (fun l => fpAdd (u l) (v l)) ∧
    done (.vfsub x d a b) (vv 3) (fun l => fpSub (u l) (v l)) ∧
    done (.vfmul x d a b) (vv 3) (fun l => fpMul (u l) (v l)) ∧
    done (.vfma x d a b) (vva 4) (fun l => fpFma Config.fmaQnanInv (o l) (u l) (v l)) ∧
    done (.vfmuls x d a r) (vs 3) (fun l => fpMul (u l) w) ∧
    done (.vfmas x d a r) (vsa 4) (fun l => fpFma Config.fmaQnanInv (o l) (u l) w) ∧
    done (.vfneg x d a) (v1 1) (fun l => ⟨u l ^^^ 0x80000000, 0⟩) ∧
    done (.vfabs x d a) (v1 1) (fun l => ⟨u l &&& 0x7FFFFFFF, 0⟩) ∧
    done (.vfmin x d a b) (vv 3) (fun l => fpMin (u l) (v l)) ∧
    done (.vfmax x d a b) (vv 3) (fun l => fpMax (u l) (v l)) ∧
    done (.vq2f x d a) (v1 3) (fun l => q2f (u l)) ∧
    done (.vf2q x d a) (v1 3) (fun l => f2q (u l)) ∧
    done (.vf2i x d a) (v1 3) (fun l => f2i (u l)) ∧
    done (.vi2f x d a) (v1 3) (fun l => i2f (u l))

/-- R137, R95, R134: a vector compare writes each lane of qd from the compare in that lane, in the lanes of the governing predicate. R138: the move
and reduce instructions. VINS is governed by the named lane's own predicate bit, VEXT by lane 0. -/
def Obligations.VectorComparesMovesAndReductions : Prop :=
  (∀ (x : Slot) (d : Fin 4) (a b : Fin 8) (s : State), s.runs x.toCoreSel 4 →
    let k := x.toCoreSel
    let c := s.core k
    let u := fun l => c.rv a.val l
    let v := fun l => c.rv b.val l
    let use : Nat → Use := fun lat => { reads := [kQ x.pred.val, kV a.val, kV b.val], writes := [kQ d.val], lat := lat }
    let mask := c.rq x.pred.val
    let done := fun (i : Instr) (lat : Nat) (f : Nat → Bool × FlagSet) =>
      ∃ w : BitVec 4, (∀ l < 4, w.getLsbD l = (f l).1) ∧
        CompletesOn i k 4 (use lat) s (PredWrite d.val w mask
          ((List.range 4).foldl (fun g l => if mask.getLsbD l then g ||| (f l).2 else g) 0))
    done (.vceq x d a b) 1 (fun l => (decide (u l = v l), 0)) ∧
    done (.vclt x d a b) 1 (fun l => (decide ((u l).toInt < (v l).toInt), 0)) ∧
    done (.vcltu x d a b) 1 (fun l => (decide ((u l).toNat < (v l).toNat), 0)) ∧
    done (.vfceq x d a b) 3 (fun l => fpCompare .eq (u l) (v l)) ∧
    done (.vfclt x d a b) 3 (fun l => fpCompare .lt (u l) (v l)) ∧
    done (.vfcle x d a b) 3 (fun l => fpCompare .le (u l) (v l))) ∧
  (∀ (x : Slot) (d a : Fin 8) (r : Fin 32) (lane : Fin 4) (s : State), s.runs x.toCoreSel 4 →
    let k := x.toCoreSel
    let c := s.core k
    let u := fun l => c.rv a.val l
    let v1 : Nat → Use := fun lat => { reads := [kQ x.pred.val, kV a.val], writes := [kV d.val], lat := lat }
    let mask := c.rq x.pred.val
    let done := fun (i : Instr) (use : Use) (f : Nat → Res) => CompletesOn i k 4 use s (VectorWrite d.val mask f)
    let lo := fpAdd (u 0) (u 1)
    let hi := fpAdd (u 2) (u 3)
    let all := fpAdd lo.val hi.val
    done (.vbcast x d r) { reads := [kQ x.pred.val, kS r.val], writes := [kV d.val] } (fun _ => ⟨c.rs r.val, 0⟩) ∧
    CompletesOn (.vins x d r lane) k 4 { reads := [kQ x.pred.val, kS r.val, kV d.val], writes := [kV d.val] } s
      (VectorWrite d.val (mask &&& BitVec.ofNat 4 (2 ^ lane.val)) (fun _ => ⟨c.rs r.val, 0⟩)) ∧
    (c.on x.pred.val = true → CompletesOn (.vext x r a lane) k 4 { reads := [kQ x.pred.val, kV a.val], writes := [kS r.val] } s
      (ScalarWrite r.val ⟨u lane.val, 0⟩)) ∧
    done (.vmov x d a) (v1 1) (fun l => ⟨u l, 0⟩) ∧
    done (.vdup2 x d a) (v1 1) (fun l => ⟨u (l % 2), 0⟩) ∧
    done (.vswap x d a) (v1 1) (fun l => ⟨u (if l % 2 = 0 then l + 1 else l - 1), 0⟩) ∧
    done (.vfhadd4 x d a) (v1 5) (fun _ => ⟨all.val, lo.fl ||| hi.fl ||| all.fl⟩) ∧
    done (.vfhadd2 x d a) (v1 5) (fun l => if l < 2 then lo else hi) ∧
    done (.vqhadd2 x d a) (v1 5) (fun l => if l < 2 then qAdd (u 0) (u 1) else qAdd (u 2) (u 3)))

/-- R139, R97, R101: the phase instructions, under lane 0 of the governing predicate. -/
def Obligations.PhaseResults : Prop :=
  ∀ (x : Slot) (d a b : Fin 4) (r r2 : Fin 32) (s : State),
    s.runs x.toCoreSel 4 → (s.core x.toCoreSel).on x.pred.val = true →
    let k := x.toCoreSel
    let c := s.core k
    let u := c.rph a.val
    let v := c.rph b.val
    let ph := fun (i : Instr) (reads : List Nat) (lat : Nat) (w : BitVec 64) (fl : FlagSet) =>
      CompletesOn i k 4 { reads := kQ x.pred.val :: reads, writes := [kP d.val], lat := lat } s (PhaseWrite d.val w fl)
    let sc := fun (i : Instr) (reads : List Nat) (lat : Nat) (w : Res) =>
      CompletesOn i k 4 { reads := kQ x.pred.val :: reads, writes := [kS r.val], lat := lat } s (ScalarWrite r.val w)
    ph (.padd x d a b) [kP a.val, kP b.val] 1 (u + v) 0 ∧
    ph (.psub x d a b) [kP a.val, kP b.val] 1 (u - v) 0 ∧
    ph (.pmov x d a) [kP a.val] 1 u 0 ∧
    ph (.ppack x d r r2) [kS r.val, kS r2.val] 1 (BitVec.ofNat 64 ((c.rs r.val).toNat * 2 ^ 32 + (c.rs r2.val).toNat)) 0 ∧
    ph (.f2p x d r) [kS r.val] 3 (f2p (c.rs r.val)).1 (f2p (c.rs r.val)).2 ∧
    sc (.plo x r a) [kP a.val] 1 ⟨BitVec.ofNat 32 (u.toNat % 2 ^ 32), 0⟩ ∧
    sc (.phi x r a) [kP a.val] 1 ⟨BitVec.ofNat 32 (u.toNat / 2 ^ 32), 0⟩ ∧
    sc (.p2f x r a) [kP a.val] 3 (p2f u) ∧
    sc (.pdiff x r a b) [kP a.val, kP b.val] 3 (p2f (u - v))

/-- R140, R102: the trig instructions deliver the unit's words with latency 4 and set no flag; the rotor's lanes are cos, sin, −sin and cos. The
words are a free value of the model but for what R102 states of them (assumption 6). -/
def Obligations.TrigResults : Prop :=
  ∀ (x : Slot) (d : Fin 32) (vd : Fin 8) (a : Fin 4) (s : State), s.runs x.toCoreSel 4 →
    let k := x.toCoreSel
    let c := s.core k
    let w := fun (lane : Nat) (q : Bool) => trigValue (c.rph a.val) lane q
    let sc := fun (i : Instr) (v : Word) =>
      CompletesOn i k 4 { reads := [kQ x.pred.val, kP a.val], writes := [kS d.val], lat := 4 } s (ScalarWrite d.val ⟨v, 0⟩)
    let rot := fun (i : Instr) (q : Bool) =>
      CompletesOn i k 4 { reads := [kQ x.pred.val, kP a.val], writes := [kV vd.val], lat := 4 } s
        (VectorWrite vd.val (c.rq x.pred.val) (fun l => ⟨if l = 1 then w 0 q else if l = 2 then w 2 q else w 1 q, 0⟩))
    (c.on x.pred.val = true →
      sc (.sinF x d a) (w 0 false) ∧ sc (.cosF x d a) (w 1 false) ∧ sc (.sinQ x d a) (w 0 true) ∧ sc (.cosQ x d a) (w 1 true)) ∧
    rot (.rotF x vd a) false ∧ rot (.rotQ x vd a) true

/-- R96: where its predicate is 0, a scalar instruction writes no register and sets no flag, and takes the same latency and occupancy; one
instruction of each class is named. -/
def Obligations.PredicatedOffDoesNothing : Prop :=
  ∀ (x : Slot) (d a b : Fin 32) (p : Fin 4) (base : Fin 8) (off : BitVec 16) (imm : Word) (s : State), s.runs x.toCoreSel 8 → (s.core x.toCoreSel).on x.pred.val = false →
    let k := x.toCoreSel
    let quiet := fun (i : Instr) (len : Nat) (use : Use) => CompletesOn i k len use s (fun c c' => c'.at_ c = c)
    let two : Nat → Use := fun lat => { reads := [kQ x.pred.val, kS a.val, kS b.val], writes := [kS d.val], lat := lat }
    quiet (.add x d a b) 4 (two 1) ∧ quiet (.mul x d a b) 4 (two 2) ∧ quiet (.qadd x d a b) 4 (two 1) ∧ quiet (.qmul x d a b) 4 (two 2) ∧
    quiet (.fadd x d a b) 4 (two 3) ∧ quiet (.fdiv x d a b) 4 { two 8 with div := true } ∧
    quiet (.ceq x p a b) 4 { reads := [kQ x.pred.val, kS a.val, kS b.val], writes := [kQ p.val], lat := 1 } ∧
    quiet (.pmov x p p) 4 { reads := [kQ x.pred.val, kP p.val], writes := [kP p.val], lat := 1 } ∧
    (0x10000 ≤ effAddr (s.core k) base.val off 4 → effAddr (s.core k) base.val off 4 < 0x20000 → effAddr (s.core k) base.val off 4 % 4 = 0 →
      quiet (.lw x d base off) 4 { reads := [kQ x.pred.val, kS base.val], writes := [kS d.val], lat := 2 }) ∧
    quiet (.li x d imm) 8 { reads := [kQ x.pred.val], writes := [kS d.val], lat := 1, occ := if (s.core k).pc.toNat % 8 = 0 then 1 else 2 }

/-- R143, R90: a taken branch goes to its target and holds the issue slot for 2 cycles, an untaken one goes on and holds it for 1; BL writes the
address of the word after it to s31 only when taken, and DEC counts its scalar down either way. -/
def Obligations.BranchTargets : Prop :=
  ∀ (k : CoreSel) (cond : BrCond) (jc : JrCond) (off : BitVec 16) (rs : Fin 32) (s : State), s.runs k 4 →
    let c := s.core k
    let taken := fun (b : BrCond) => match b with
      | .al => true
      | .q p => c.lane p.val 0
      | .nq p => !c.lane p.val 0
      | .any p => decide (c.rq p.val ≠ 0)
      | .all p => decide (c.rq p.val = 0xF)
      | .none p => decide (c.rq p.val = 0)
      | .dec r => decide (c.rs r.val ≠ 1)
    let dec := fun (n : Nat) (w : Word) => match cond with
      | .dec r => if n = r.val ∧ n ≠ 0 then w - 1 else w
      | _ => w
    let moved := fun (i : Instr) (t : Bool) (target : Word) (f : Nat → Word) =>
      Completes i s (fun s' => OnlyCore k s s' ∧ (s'.core k).pc = (if t then target else c.pc + 4) ∧
        (∃ u : Use, u.occ = (if t then 2 else 1) ∧ (s'.core k).issue = c.issueAt u + u.occ) ∧
        (∀ n < 32, (s'.core k).rs n = f n) ∧ { (s'.core k).at_ c with s := c.s } = c)
    let rel := c.pc + (off.signExtend 32) * 4
    moved (.b k cond off) (taken cond) rel (fun n => dec n (c.rs n)) ∧
    moved (.bl k cond off) (taken cond) rel (fun n => if taken cond ∧ n = 31 then c.pc + 4 else dec n (c.rs n)) ∧
    moved (.jr k jc rs) (taken (jrCond jc)) (c.rs rs.val &&& 0xFFFFFFFC) (fun n => c.rs n)

/-- R141, R105, R106: a load from the core's own DTCM that no pending store covers delivers the little-endian bytes at its effective address,
sign-extended or zero-extended, with latency 2, and changes nothing else. LV moves the lanes of its predicate (R142). R106, R89: a word load from
the Peak's control SRAM outside a summit task delivers the word there with a latency from 12 to 44 cycles, which one being a free value (assumption
5). R108: where the newest pending store holds that word, the load delivers the stored word with the least latency. -/
def Obligations.Loads : Prop :=
  (∀ (x : Slot) (rt : Fin 32) (pt : Fin 4) (vt : Fin 8) (base : Fin 8) (off : BitVec 16) (s : State), s.runs x.toCoreSel 4 →
    let k := x.toCoreSel
    let c := s.core k
    let a := fun (w : Nat) => ((c.rs base.val).toNat + off.toNat * w) % 2 ^ 32
    let inDtcm := fun (w : Nat) => 0x10000 ≤ a w ∧ a w < 0x20000 ∧ a w % w = 0 ∧ ∀ i < w, pendingByte c (a w + i) = none
    let word := fun (w : Nat) => s.bytes (tcmKey k (a w)) w
    let use : Nat → Use := fun d => { reads := [kQ x.pred.val, kS base.val], writes := [d], lat := 2 }
    let sc := fun (i : Instr) (v : Word) => CompletesOn i k 4 (use (kS rt.val)) s (ScalarWrite rt.val ⟨v, 0⟩)
    (c.on x.pred.val = true →
      (inDtcm 1 → sc (.lb x rt base off) ((BitVec.ofNat 8 (word 1)).signExtend 32) ∧ sc (.lbu x rt base off) (BitVec.ofNat 32 (word 1))) ∧
      (inDtcm 2 → sc (.lh x rt base off) ((BitVec.ofNat 16 (word 2)).signExtend 32) ∧ sc (.lhu x rt base off) (BitVec.ofNat 32 (word 2))) ∧
      (inDtcm 4 → sc (.lw x rt base off) (BitVec.ofNat 32 (word 4))) ∧
      (inDtcm 8 → CompletesOn (.lp x pt base off) k 4 (use (kP pt.val)) s (PhaseWrite pt.val (BitVec.ofNat 64 (word 8)) 0))) ∧
    (inDtcm 16 →
      CompletesOn (.lv x vt base off) k 4 (use (kV vt.val)) s
        (VectorWrite vt.val (c.rq x.pred.val) (fun l => ⟨BitVec.ofNat 32 (s.bytes (tcmKey k (a 16 + 4 * l)) 4), 0⟩)))) ∧
  (∀ (x : Slot) (rt : Fin 32) (base : Fin 8) (off : BitVec 16) (s : State), s.runs x.toCoreSel 4 → (s.core x.toCoreSel).on x.pred.val = true →
    let k := x.toCoreSel
    let c := s.core k
    let a := ((c.rs base.val).toNat + off.toNat * 4) % 2 ^ 32
    let use : Nat → Use := fun lat => { reads := [kQ x.pred.val, kS base.val], writes := [kS rt.val], lat := lat }
    0x10000000 ≤ a → a < 0x10200000 → a % 4 = 0 → s.inSummit k = false →
    ((∀ i < 4, pendingByte c (a + i) = none) → ∃ lat, 12 ≤ lat ∧ lat ≤ 44 ∧ Completes (.lw x rt base off) s (fun t => OnlyCoreFree k s t ∧
      Issued (use lat) 4 c (t.core k) ∧ ScalarWrite rt.val ⟨BitVec.ofNat 32 (s.bytes (peakKey k.peak a) 4), 0⟩ c (t.core k))) ∧
    (∀ b v, c.buf = b ++ [⟨[(a, 4, v)], false⟩] →
      CompletesOn (.lw x rt base off) k 4 (use 12) s (ScalarWrite rt.val ⟨BitVec.ofNat 32 v, 0⟩)))

/-- R141, R105, R142: a store to the core's own DTCM puts its bytes there, little-endian, and leaves every other byte of memory, every register file
and every other part of the device unchanged. -/
def Obligations.StoresToDtcm : Prop :=
  ∀ (x : Slot) (rt : Fin 32) (pt : Fin 4) (vt : Fin 8) (base : Fin 8) (off : BitVec 16) (s : State), s.runs x.toCoreSel 4 →
    mirrors (.core x.toCoreSel) s = false →
    let k := x.toCoreSel
    let c := s.core k
    let a := fun (w : Nat) => effAddr c base.val off w
    let inDtcm := fun (w : Nat) => 0x10000 ≤ a w ∧ a w < 0x20000 ∧ a w % w = 0
    let stored := fun (i : Instr) (src : Nat) (byte : Nat → Option Nat) =>
      Completes i s (fun t => Issued { reads := [kQ x.pred.val, kS base.val, src] } 4 c (t.core k) ∧ (t.core k).at_ c = c ∧
        (∀ key, t.byte key = match byte key with | some v => BitVec.ofNat 8 v | none => s.byte key) ∧
        OnlyCore k s { t with mem := s.mem })
    let run := fun (w v key : Nat) => if tcmKey k (a w) ≤ key ∧ key < tcmKey k (a w) + w then some (v / 2 ^ (8 * (key - tcmKey k (a w))) % 256) else none
    (c.on x.pred.val = true →
      (inDtcm 1 → stored (.sb x rt base off) (kS rt.val) (run 1 (c.rs rt.val).toNat)) ∧
      (inDtcm 2 → stored (.sh x rt base off) (kS rt.val) (run 2 (c.rs rt.val).toNat)) ∧
      (inDtcm 4 → stored (.sw x rt base off) (kS rt.val) (run 4 (c.rs rt.val).toNat)) ∧
      (inDtcm 8 → stored (.sp x pt base off) (kP pt.val) (run 8 (c.rph pt.val).toNat))) ∧
    (inDtcm 16 → stored (.sv x vt base off) (kV vt.val) (fun key =>
      let i := key - tcmKey k (a 16)
      if tcmKey k (a 16) ≤ key ∧ i < 16 ∧ c.lane x.pred.val (i / 4) = true then some ((c.rv vt.val (i / 4)).toNat / 2 ^ (8 * (i % 4)) % 256) else none))

/-- R108, R109: outside a summit task, a word store to control SRAM enters the store buffer where it has room, not before the cycle in which a full
buffer last had room again, and waits at issue with no effect where four entries are pending; a word store to a PWM compare by a task that is not
late enters the shadow lane. Neither reaches memory yet. R108, R109, R283: the oldest entry of the store buffer completes: a word for control SRAM
reaches it and every other byte stays; the oldest shadow store of a holder's core completes its handshake: a compare outside its group's staging and
outside the late window reaches its shadow. -/
def Obligations.PostedStores : Prop :=
  (∀ (x : Slot) (rt : Fin 32) (base : Fin 8) (off : BitVec 16) (s : State), s.runs x.toCoreSel 4 → (s.core x.toCoreSel).on x.pred.val = true →
    let k := x.toCoreSel
    let c := s.core k
    let a := effAddr c base.val off 4
    let piece : Posted := ⟨[(a, 4, (c.rs rt.val).toNat)], false⟩
    let use : Use := { reads := [kQ x.pred.val, kS base.val, kS rt.val] }
    s.inSummit k = false → a % 4 = 0 →
    (0x10000000 ≤ a → a < 0x10200000 →
      if c.buf.length < 4 then
        CompletesOn (.sw x rt base off) k 4 { use with after := c.freedAt } s
          (fun c c' => { c'.at_ c with buf := c.buf } = c ∧ c'.buf = c.buf ++ [piece])
      else Completes (.sw x rt base off) s (fun t => t = s)) ∧
    (0x40050400 ≤ a → a < 0x40050480 → s.curTask k = 0xFF ∨ (s.task k.peak (s.curTask k)).late = false →
      CompletesOn (.sw x rt base off) k 4 { use with shadow := true } s
        (fun c c' => { c'.at_ c with shadows := c.shadows } = c ∧ c'.shadows = c.shadows ++ [piece]))) ∧
  (∀ (k : CoreSel) (s : State), mirrors (.core k) s = false →
    (∀ a v r, (s.core k).buf = ⟨[(a, 4, v)], false⟩ :: r → 0x10000000 ≤ a → a < 0x10200000 → a % 4 = 0 →
      Completes (.storeBufferComplete k) s (fun t =>
        t.core k = { s.core k with buf := r, freedAt := if r.length = 3 then s.peakCycle k else (s.core k).freedAt
                                   doneAt := max (s.core k).doneAt (s.peakCycle k) } ∧ (∀ j, j ≠ k → t.core j = s.core j) ∧
        t.bytes (peakKey k.peak a) 4 = v % 2 ^ 32 ∧ (∀ key, key < peakKey k.peak a ∨ peakKey k.peak a + 4 ≤ key → t.byte key = s.byte key) ∧
        { t with cores := s.cores, mem := s.mem } = s)) ∧
    (∀ (ch : Fin 32) (v : Word) r, (s.core k).shadows = ⟨[(0x40050400 + 4 * ch.val, 4, v.toNat)], false⟩ :: r → s.saddle.clock = true →
      s.holds k.peak = true → s.bit .a (Fd.pwmGrpCfgStage (ch.val / 4)) = false → lateNow (chanTb s ch.val) s = false →
      Completes (.shadowStoreHandshake k) s (fun t =>
        t.core k = { s.core k with shadows := r, doneAt := max (s.core k).doneAt (s.peakCycle k) } ∧
        t.reg .a (Reg.pwmCmp ch.val) = v.toNat ∧
        (∀ p a, a ≠ Reg.pwmCmp ch.val → a < 2 ^ 32 → t.reg p a = s.reg p a) ∧ t.mem = s.mem ∧ t.tasks = s.tasks ∧ t.peaks = s.peaks)))

/-- R105, R118, R125: an access whose address is not a multiple of its width makes no part of it, whatever the predicate holds: the fault code 0x4
is recorded with the pc and the address, where no earlier fault waits, and an ordinary task ends. R118, R104, R119: a word that spells no
instruction is fault 0x1 of an ordinary task and a fetch past the ITCM is fault 0x2; both end the task. In a summit task an illegal word is recorded
and passes as one issue cycle. Of a word that spells an instruction the command has nothing to say, which is the model's form of the command
(assumption 1). R127, R128, R130, R131: a word spells an instruction exactly where its major and function are listed and its unused fields are zero;
words written out from the eight formats spell their instructions, and three that break a format spell none. -/
def Obligations.InstructionFaults : Prop :=
  (∀ (x : Slot) (rt : Fin 32) (pt : Fin 4) (vt : Fin 8) (base : Fin 8) (off : BitVec 16) (s : State), s.runs x.toCoreSel 4 →
    s.inSummit x.toCoreSel = false → s.fld x.peak (Fd.sysCoreFaultInfoCode x.core.val) = 0 →
    let k := x.toCoreSel
    let c := s.core k
    let a := fun (w : Nat) => effAddr c base.val off w
    let trapped := fun (i : Instr) (w : Nat) => a w % w ≠ 0 → Completes i s (fun t =>
      t.fld k.peak (Fd.sysCoreFaultInfoCode k.core.val) = 4 ∧ t.reg k.peak (Reg.sysCoreFaultPc k.core.val) = c.pc.toNat ∧
      t.reg k.peak (Reg.sysCoreFaultAddr k.core.val) = a w ∧ t.fld k.peak (Fd.sysCoreStatusState k.core.val) = 0 ∧
      (∀ j, (t.core j).s = (s.core j).s ∧ (t.core j).v = (s.core j).v ∧ (t.core j).ph = (s.core j).ph ∧ (t.core j).q = (s.core j).q) ∧
      t.mem = s.mem)
    trapped (.lh x rt base off) 2 ∧ trapped (.lhu x rt base off) 2 ∧ trapped (.lw x rt base off) 4 ∧ trapped (.lp x pt base off) 8 ∧
    trapped (.lv x vt base off) 16 ∧ trapped (.sh x rt base off) 2 ∧ trapped (.sw x rt base off) 4 ∧ trapped (.sp x pt base off) 8 ∧
    trapped (.sv x vt base off) 16) ∧
  (∀ (k : CoreSel) (w : Word) (s : State), (spelled k w 0).isSome = true → Completes (.illegalWord ⟨k, w⟩) s (fun t => t = s)) ∧
  (∀ (k : CoreSel) (w : Word) (s : State), spelled k w 0 = none → s.canIssue k = true → s.fld k.peak (Fd.sysCoreFaultInfoCode k.core.val) = 0 →
    let far := decide (0x10000 < (s.core k).pc.toNat + 4)
    Completes (.illegalWord ⟨k, w⟩) s (fun t =>
      t.fld k.peak (Fd.sysCoreFaultInfoCode k.core.val) = (if far then 2 else 1) ∧
      t.reg k.peak (Reg.sysCoreFaultPc k.core.val) = (s.core k).pc.toNat ∧ t.reg k.peak (Reg.sysCoreFaultAddr k.core.val) = 0 ∧
      (s.inSummit k = false ∨ far = true → t.fld k.peak (Fd.sysCoreStatusState k.core.val) = 0) ∧
      (s.inSummit k = true → far = false →
        t.fld k.peak (Fd.sysCoreStatusState k.core.val) = s.fld k.peak (Fd.sysCoreStatusState k.core.val) ∧
        (t.core k).pc = (s.core k).pc + 4 ∧ (t.core k).issue = (s.core k).issueAt { reads := [] } + 1 ∧ (t.core k).rs = (s.core k).rs) ∧ t.mem = s.mem)) ∧
  (∀ (k : CoreSel) (w imm : Word), (spelled k w imm).isSome = wordOk w.toNat) ∧
  (∀ (k : CoreSel) (imm : Word),
    let x : Nat → Slot := fun q => ⟨k, Fin.ofNat 4 q⟩
    -- RRR: major 0x05, pred q0, rd 7, ra 5, rb 5, func 0x000
    spelled k 0x14394A00 imm = some (.fadd (x 0) 7 5 5) ∧
    -- RRR: major 0x01, pred q0, all registers s0, func 0x003
    spelled k 0x04000003 imm = some (.or (x 0) 0 0 0) ∧
    -- RRI: major 0x09, pred q1, rd 3, ra 4, sub 0, imm12 0x801
    spelled k 0x25190801 imm = some (.addi (x 1) 3 4 0x801) ∧
    -- VEC: major 0x26, pred q3, vd 5, va 6, rs 11, func 0x05
    spelled k 0x9BB82C05 imm = some (.vfmas (x 3) 5 6 11) ∧
    -- LS: major 0x14, pred q0, rt 9, base 2, off16 0x0010
    spelled k 0x504A0010 imm = some (.lw (x 0) 9 2 0x10) ∧
    -- BR: major 0x20, cond NONE, qc 2, off16 0xFFFE
    spelled k 0x82C0FFFE imm = some (.b k (.none 2) 0xFFFE) ∧
    -- PH: major 0x2C, pred q0, pd 1, pa 2, pb 3, func 0x00
    spelled k 0xB06C0000 imm = some (.padd (x 0) 1 2 3) ∧
    -- XC: major 0x30, pred q0, U 0x10, index 0x005, reg 4, qd 2
    spelled k 0xC0800292 imm = some (.xcr (x 0) 0x10 5 4 2) ∧
    -- EV: major 0x38, func END
    spelled k 0xE0800000 imm = some (.endTask k) ∧
    -- long form: major 0x3F, pred q0, rd 6, sub8 0x00, and the second word
    spelled k 0xFC300000 imm = some (.li (x 0) 6 imm) ∧
    -- a word of zeros, FNEG with its unused rb not 0, and SHLI with bit 5 of its immediate set
    spelled k 0 imm = none ∧ spelled k 0x14000207 imm = none ∧ spelled k 0x34000020 imm = none)

/-- R114: WAIT consumes an event that fired since it was last consumed and takes 2 cycles; else the core waits, and the event's arrival lets its
next instruction issue 20 cycles later. R114, R152, R153, R144: SIGNAL of a software-raised event sends it to the matrix, which it reaches 4 core
cycles after issue; a write of TRV.EV_RAISE does so 16 core cycles after the write; an event that is due reaches, as the time passes, the wait latch
of every ordinary loaded task of the Peak. SIGNAL takes one issue cycle and where its predicate is 0 signals nothing. A number that software may not
raise is refused. R113, R103, R108: END ends the run: the core waits again and its sticky flags are ORed into SYS.CORE[n].FLAGS. FENCE passes once
the store buffer is empty and every shadow store has completed, in the cycle after, whatever its predicate holds, and else waits at issue. -/
def Obligations.TaskControlInstructions : Prop :=
  (∀ (k : CoreSel) (ev : BitVec 8) (s : State),
    (s.runs k 4 → s.inSummit k = false →
      if s.waitLatch k ev.toNat = true then
        Completes (.wait k ev) s (fun t => (∀ e, t.waitLatch k e = (s.waitLatch k e && decide (e ≠ ev.toNat))) ∧
          (t.core k).pc = (s.core k).pc + 4 ∧ (t.core k).issue = (s.core k).issueAt { reads := [] } + 2 ∧ (t.core k).waitFor = none ∧ t.mem = s.mem)
      else
        Completes (.wait k ev) s (fun t => (t.core k).waitFor = some ev ∧ (t.core k).pc = (s.core k).pc ∧ t.tasks = s.tasks ∧ t.mem = s.mem)) ∧
    ((s.core k).waitFor = some ev → s.waitLatch k ev.toNat = true →
      Completes (.waitResume k) s (fun t => (∀ e, t.waitLatch k e = (s.waitLatch k e && decide (e ≠ ev.toNat))) ∧ (t.core k).waitFor = none ∧
        (t.core k).pc = (s.core k).pc + 4 ∧ (t.core k).issue = s.runCycle k + 20 ∧ t.regs = s.regs ∧ t.mem = s.mem))) ∧
  (∀ (x : Slot) (m : Master) (ev : BitVec 8) (val : Word) (s : State),
    let k := x.toCoreSel
    let c := s.core k
    let use : Use := { reads := [kQ x.pred.val] }
    let sent := fun (p : PeakId) (at_ e : Nat) => (s.peak p).signals ++ [(64 * at_, e)]
    (s.runs k 4 → 192 ≤ ev.toNat →
      Completes (.signal x ev) s (fun t =>
        (t.peak k.peak).signals = (if c.on x.pred.val then sent k.peak (c.runBase + c.issueAt use + 4) ev.toNat else (s.peak k.peak).signals) ∧
        OnlyCore k s (t.setPeak k.peak { t.peak k.peak with signals := (s.peak k.peak).signals }) ∧ Issued use 4 c (t.core k) ∧ (t.core k).at_ c = c)) ∧
    (∀ p, (s.peak p).up = true → ∀ e ∈ (s.peak p).signals, e.1 ≤ (s.peak p).cycles64 + s.fld p Fd.clkStatusCurN → isSoftEvent e.2 = true →
      ∀ n ∈ s.loaded p, isSummit n = false → ((cyclesTick p s).task p n).wait.getLsbD e.2 = true) ∧
    ((s.peak m.peak).up = true →
      if 192 ≤ val.toNat % 256 then Completes (.evRaise m val) s (fun t =>
        t = s.setPeak m.peak { s.peak m.peak with signals := sent m.peak ((s.peak m.peak).cycles64 / 64 + 16) (val.toNat % 256) })
      else Completes (.evRaise m val) s (fun t => t.bit m.peak Fd.trvFlagsRaiseRefused = true ∧ t.tasks = s.tasks ∧ t.mem = s.mem ∧ t.cores = s.cores))) ∧
  (∀ (x : Slot) (s : State), s.runs x.toCoreSel 4 →
    let k := x.toCoreSel
    let c := s.core k
    Completes (.endTask k) s (fun t => t.fld k.peak (Fd.sysCoreStatusState k.core.val) = 0 ∧ t.bit k.peak (Fd.sysCoreStatusSummit k.core.val) = false ∧
      t.reg k.peak (Reg.sysCoreFlags k.core.val) = s.reg k.peak (Reg.sysCoreFlags k.core.val) ||| c.flags.toNat ∧ (t.core k).rs = c.rs ∧ t.mem = s.mem) ∧
    (if c.buf = [] ∧ c.shadows = [] then CompletesOn (.fence x) k 4 { reads := [kQ x.pred.val], after := c.doneAt } s (fun c c' => c'.at_ c = c)
     else Completes (.fence x) s (fun t => t = s)))

/-- R120 to R123, R145, R146: coprocessor accesses of an ordinary task. LOCAL index 0 names the core and 1 its sticky flags, which a write of ones
clears; a Couloir read delivers the output word and its VALID bit; XCV does so for four consecutive inputs; a step of a bound, idle engine or loop
is started and completes 40 or 24 cycles on. -/
def Obligations.CoprocessorAccesses : Prop :=
  ∀ (x : Slot) (reg : Fin 32) (vreg : Fin 8) (qd : Fin 4) (idx : BitVec 12) (e : Fin 8) (l : Fin 64) (s : State),
    s.runs x.toCoreSel 4 → s.inSummit x.toCoreSel = false → (s.core x.toCoreSel).rq x.pred.val = 0xF →
    let k := x.toCoreSel
    let c := s.core k
    let took := fun (v : Word) (q : BitVec 4) (c' : Core) => c'.rs reg.val = (if reg = 0 then 0 else v) ∧ c'.rq qd.val = (if qd = 0 then 0xF else q) ∧
      (∀ n, n ≠ reg.val → c'.rs n = c.rs n) ∧ (∀ n, n ≠ qd.val → c'.rq n = c.rq n) ∧ c'.flags = c.flags ∧ c'.v = c.v ∧ c'.ph = c.ph ∧ c'.pc = c.pc + 4
    Completes (.xcr x 0 0 reg qd) s (fun t => OnlyCore k s t ∧ took (BitVec.ofNat 32 (k.core.val + 256 * k.peak.num)) 0xF (t.core k)) ∧
    Completes (.xcr x 0 1 reg qd) s (fun t => OnlyCore k s t ∧ took (c.flags.setWidth 32) 0xF (t.core k)) ∧
    (idx.toNat < 384 → Completes (.xcr x 24 idx reg qd) s (fun t => OnlyCore k s t ∧
      took (s.clnSlot k.peak idx.toNat) (if (s.clnSlot k.peak idx.toNat).getLsbD 7 then 0xF else 0) (t.core k))) ∧
    (idx.toNat < 360 → Completes (.xcv x 24 idx vreg qd) s (fun t => OnlyCore k s t ∧
      (∀ n < 4, (t.core k).rv vreg.val n = s.clnSlot k.peak (idx.toNat + 8 * n)) ∧
      (∀ n < 4, qd ≠ 0 → (t.core k).lane qd.val n = (s.clnSlot k.peak (idx.toNat + 8 * n)).getLsbD 7) ∧ (t.core k).s = c.s ∧ (t.core k).flags = c.flags)) ∧
    Completes (.xcw x 0 1 reg) s (fun t => OnlyCore k s t ∧ (t.core k).flags = c.flags &&& ~~~((c.rs reg.val).setWidth 5) ∧ (t.core k).s = c.s ∧
      (t.core k).pc = c.pc + 4) ∧
    (rdgBound k e.val s = true → (s.eng k.peak e.val).running = false →
      Completes (.xcs x (8 + e.castLE (by decide)) 0) s (fun t => (t.core k).pc = c.pc + 4 ∧ (t.core k).s = c.s ∧
        Tab.get (fun _ => 0) (t.core k).unitFree (8 + e.val) = c.issueAt { reads := [kQ x.pred.val], unit := some (8 + e.val) } + 40 ∧
        (t.eng k.peak e.val).running = true)) ∧
    (swbBound k l.val s = true → (s.loop k.peak l.val).running = false →
      Completes (.xcs x 16 (BitVec.ofNat 12 (64 * l.val))) s (fun t => (t.core k).pc = c.pc + 4 ∧ (t.core k).s = c.s ∧
        Tab.get (fun _ => 0) (t.core k).unitFree (64 + l.val) = c.issueAt { reads := [kQ x.pred.val], unit := some (64 + l.val) } + 24))

/-- R149, R158, R159, R170, R171: a write of TRV.CMD. While a command runs it is discarded with result 1; an unknown task is result 2. A LOAD begins
with the code of its first failed check; an UNLOAD ends a task that does not run at once and else waits for END; a REPLACE of a control task is
armed for its period, and of a summit task is checked first. R159, R171: the command that runs ends. A load whose checks passed leaves the task
loaded and idle with its certificate in force, but for a summit task whose Peak no longer stands at N = 160 (R48: result 9); a replacement
certificate that passes its check is armed, and one that fails ends the command with its code. EV_CMD_DONE follows. -/
def Obligations.TaskCommands : Prop :=
  (∀ (m : Master) (task : BitVec 8) (s : State), (s.peak m.peak).up = true →
    let p := m.peak
    let n := task.toNat
    let cmd := (Reg.trvCmdStatus, 0xFF1F)
    let entry := BitVec.ofNat 32 (s.reg p Reg.trvNextEntry)
    let cert := BitVec.ofNat 32 (s.reg p Reg.trvNextCert)
    let at_ := if n ≤ 3 then Repl.checking entry cert (s.reg p Reg.trvReplaceAt) else Repl.armed entry {} cert (s.reg p Reg.trvReplaceAt)
    let shown := fun (busy : Bool) (code : Nat) (t : State) =>
      t.bit p Fd.trvCmdStatusBusy = busy ∧ t.fld p Fd.trvCmdStatusTask = n ∧ t.fld p Fd.trvCmdStatusResult = code
    let refused := fun (i : Instr) (busy : Bool) (code : Nat) =>
      Completes i s (fun t => shown busy code t ∧ (busy = true → t.bit p Fd.trvFlagsCmdDiscarded = true) ∧
        RegFrame (onlyRegs [cmd, (Reg.trvFlags, 0x100)]) s t ∧ { t with regs := s.regs } = s)
    (s.bit p Fd.trvCmdStatusBusy = true → refused (.taskLoad m task) true 1 ∧ refused (.taskUnload m task) true 1 ∧ refused (.taskReplace m task) true 1) ∧
    (s.bit p Fd.trvCmdStatusBusy = false → n ∉ taskNumbers →
      refused (.taskLoad m task) false 2 ∧ refused (.taskUnload m task) false 2 ∧ refused (.taskReplace m task) false 2) ∧
    (s.bit p Fd.trvCmdStatusBusy = false → n ∈ taskNumbers →
      Completes (.taskLoad m task) s (fun t => shown true 0 t ∧ RegFrame (onlyRegs [cmd]) s t ∧ t.tasks = s.tasks ∧ t.mem = s.mem ∧ t.cores = s.cores ∧
        (t.peak p).trvCmd = some (if n ∈ s.loaded p then ⟨1, n, 2, {}⟩ else ⟨1, n, (loadChecks p n s).1, (loadChecks p n s).2⟩)) ∧
      (n ∈ s.loaded p → s.bit p (Fd.trvTaskStatRunning n) = true →
        Completes (.taskUnload m task) s (fun t => shown true 0 t ∧ RegFrame (onlyRegs [cmd]) s t ∧ t.task p n = { s.task p n with unloadAtEnd := true })) ∧
      (n ∈ s.loaded p → s.bit p (Fd.trvTaskStatRunning n) = false →
        Completes (.taskUnload m task) s (fun t => shown false 0 t ∧ t.loaded p = (s.loaded p).filter (fun j => decide (j ≠ n)) ∧ t.task p n = {} ∧
          RegFrame (eventsAnd [cmd, (Reg.trvTaskStat n, 0x43)]) s t ∧ t.mem = s.mem)) ∧
      (n ∈ s.loaded p →
        Completes (.taskReplace m task) s (fun t => shown true 0 t ∧ t.bit p (Fd.trvTaskStatReplacePending n) = true ∧
          RegFrame (onlyRegs [cmd, (Reg.trvTaskStat n, 0x40), (Reg.trvStatus, 0xFFFFFFFF)]) s t ∧
          t.task p n = { s.task p n with repl := at_ })))) ∧
  (∀ (p : PeakId) (c : TrvCmd) (s : State), (s.peak p).trvCmd = some c → c.task ∈ taskNumbers → c.code < 16 →
    let ended := fun (code : Nat) (t : State) => (t.peak p).trvCmd = none ∧ t.bit p Fd.trvCmdStatusBusy = false ∧
      t.fld p Fd.trvCmdStatusTask = c.task ∧ t.fld p Fd.trvCmdStatusResult = code ∧ Fired p 134 s t ∧ t.mem = s.mem
    let loaded := fun (code : Nat) => Completes (.taskLoadComplete p) s (fun t => ended code t ∧
      (code = 0 → c.task ∈ t.loaded p ∧ t.bit p (Fd.trvTaskStatRunning c.task) = false ∧ t.reg p (Reg.trvTaskLag c.task) = 0 ∧
        (t.task p c.task).cert = c.cert ∧ (t.task p c.task).repl = .none) ∧
      (code ≠ 0 → t.loaded p = s.loaded p))
    (c.op = 1 → if c.code = 0 ∧ isSummit c.task = true ∧ fullSpeed p s = false then loaded 9 else loaded c.code) ∧
    (∀ entry cert at_, (s.task p c.task).repl = .checking entry cert at_ →
      let r := summitChecks p c.task entry.toNat cert.toNat s
      (r.1 = 0 → Completes (.replaceCheckComplete p) s (fun t =>
        t = s.setTask p c.task { s.task p c.task with repl := .armed entry r.2 cert at_ })) ∧
      (r.1 ≠ 0 → Completes (.replaceCheckComplete p) s (fun t => ended r.1 t ∧ (t.task p c.task).repl = .none ∧
        t.bit p (Fd.trvTaskStatReplacePending c.task) = false ∧ t.loaded p = s.loaded p))))

/-- R111, R112: an idle core starts the first of its Peak's latched tasks that names it, summit before control before frame tasks: its sticky flags
are cleared, s1 holds the event and s2 TRV.TASK[t].ARG, and fetch begins at ENTRY; no other register file of it changes. -/
def Obligations.TaskDispatch : Prop :=
  ∀ (k : CoreSel) (n : Nat) (s : State), (s.peak k.peak).up = true → (s.peak k.peak).held = false →
    s.fld k.peak (Fd.sysCoreStatusState k.core.val) = 0 → nextTask k s = some n → (∀ e c a, (s.task k.peak n).repl ≠ .open_ e c a) →
    Completes (.taskDispatch k) s (fun t =>
      let c := s.core k
      let c' := t.core k
      c'.pc = BitVec.ofNat 32 (s.reg k.peak (Reg.trvTaskEntry n)) &&& 0xFFFFFFFC ∧ c'.flags = 0 ∧ c'.waitFor = none ∧ c'.issue = 0 ∧
      c'.rs 1 = BitVec.ofNat 32 (if 0x60 ≤ n then s.periodTb else (s.task k.peak n).latchEv) ∧
      c'.rs 2 = BitVec.ofNat 32 (s.reg k.peak (Reg.trvTaskArg n)) ∧
      (∀ r, r ≠ 1 → r ≠ 2 → c'.rs r = c.rs r) ∧ c'.v = c.v ∧ c'.ph = c.ph ∧ c'.q = c.q ∧
      (∀ j, j ≠ k → t.core j = s.core j) ∧
      t.curTask k = n ∧ t.fld k.peak (Fd.sysCoreStatusState k.core.val) = 1 ∧ t.inSummit k = decide (n ≤ 3) ∧
      t.bit k.peak (Fd.trvTaskStatRunning n) = true ∧ t.bit k.peak (Fd.trvTaskStatPending n) = false ∧
      t.loaded k.peak = s.loaded k.peak ∧ t.mem = s.mem)

/-- R161, R162, R164, R165, R168: what time brings to tasks. A control instance without END at its deadline, TIMING.VALUE ticks after its start
event, is LATE, counted and signalled; a frame instance is released at its T_k with its lag; a summit run without END by C_END, and summit code
whose CRC no longer matches, is a monitor violation. -/
def Obligations.DeadlinesFramesAndMonitor : Prop :=
  ∀ (p : PeakId) (task : BitVec 8) (k : CoreSel) (c : Fin 4) (s : State),
    let n := task.toNat
    let old := s.task p n
    (0x10 ≤ n → n ≤ 0x4F → n ∈ s.loaded p → s.bit p (Fd.trvTaskStatRunning n) = true → old.late = false →
      old.startTick + s.reg p (Reg.trvTaskTiming n) ≤ s.tick → s.fld p (Fd.trvTaskMissMisses n) < 0x7FFF →
      Completes (.deadlineExpiry p task false) s (fun t => (t.task p n).late = true ∧ t.bit p (Fd.trvTaskStatLate n) = true ∧
        t.fld p (Fd.trvTaskMissMisses n) = s.fld p (Fd.trvTaskMissMisses n) + 1 ∧ t.bit p Fd.trvFlagsDeadlineMiss = true ∧ Fired p 130 s t ∧
        RegFrame (eventsAnd [(Reg.trvTaskStat n, 0x08), (Reg.trvTaskMiss n, 0x7FFF), (Reg.trvFlags, 0x04)]) s t ∧ t.mem = s.mem)) ∧
    (∀ b0, 0x60 ≤ n → n ≤ 0x6F → n ∈ s.loaded p → s.bit p (Fd.trvTaskStatRunning n) = false → s.bit p (Fd.trvTaskStatPending n) = false →
      s.bit p (Fd.pwmTbStatusRun s.periodTb) = true → (s.peak p).held = false → s.gdm.mirrored.contains (p.other.num, n) = false → old.b0 = some b0 →
      let k' := if old.released then old.k + 1 else 0
      let b := b0 + k' * s.frameLen p n
      let tk := if old.released then max (old.ek.getD 0) (s.frameBound p n) else max b0 (old.ek.getD 0)
      tk ≤ s.tick → Completes (.frameRelease p task) s (fun t => t.bit p (Fd.trvTaskStatPending n) = true ∧ t.reg p (Reg.trvTaskLag n) = min (tk - b) 0xFFFFFFFF ∧
        t.bit p (Fd.trvTaskStatCatchup n) = decide (tk - b ≠ 0) ∧ (t.task p n).k = k' ∧ (t.task p n).tk = tk ∧ (t.task p n).released = true ∧
        RegFrame (onlyRegs [(Reg.trvTaskStat n, 0x12), (Reg.trvTaskLag n, 0xFFFFFFFF), (Reg.trvStatus, 0xFFFFFFFF)]) s t ∧
        t.mem = s.mem ∧ t.cores = s.cores)) ∧
    (s.inSummit k = true → s.curTask k ∈ taskNumbers → (s.task k.peak (s.curTask k)).endMissed = false →
      (s.task k.peak (s.curTask k)).cert.cEnd < s.runCycle k →
      Completes (.summitEndDeadline k) s (fun t => t.bit k.peak (Fd.trvTaskStatMonFault (s.curTask k)) = true ∧ t.bit k.peak Fd.trvFlagsMonitor = true ∧
        (t.task k.peak (s.curTask k)).endMissed = true ∧ RegFrame eventMask s t ∧ Fired k.peak 132 s t ∧ t.mem = s.mem)) ∧
    (c.val ∈ s.loaded p → crc32 (s.codeBytes (s.taskCore p c.val) (s.task p c.val).cert) ≠ (s.task p c.val).cert.codeCrc →
      Completes (.codeRecheck p c) s (fun t => t.bit p (Fd.trvTaskStatMonFault c.val) = true ∧ t.bit p Fd.trvFlagsMonitor = true ∧
        RegFrame eventMask s t ∧ Fired p 132 s t ∧ t.mem = s.mem))

/-- R125, R126, R173: reads with an effect. FAULT_INFO returns the record and clears it and the core's bit of SYS.FAULT; CYCLES_LO and
PERIOD_COUNT_LO return the low word of their count and latch the high one. Nothing else changes. -/
def Obligations.TraverseReads : Prop :=
  ∀ (m : Master) (core : Fin 8) (s : State), (s.peak m.peak).up = true →
    let p := m.peak
    let c := core.val
    let cycles := s.coreCycles ⟨p, core⟩
    let read := fun (i : Instr) (v : Nat) (own : List (Nat × Nat)) (P : State → Prop) => Completes i s (fun t =>
      t.readData = BitVec.ofNat 32 v ∧ P t ∧ RegFrame (onlyRegs own) s t ∧ { t with regs := s.regs, readData := s.readData } = s)
    read (.faultInfoRead m core) (s.reg p (Reg.sysCoreFaultInfo c)) [(Reg.sysCoreFaultInfo c, 0xFFFFFFFF), (Reg.sysFault, 2 ^ (8 + c))] (fun t =>
      t.reg p (Reg.sysCoreFaultInfo c) = 0 ∧ (t.fld p Fd.sysFaultCore).testBit c = false) ∧
    read (.cyclesRead m core) (cycles % 2 ^ 32) [(Reg.sysCoreCyclesHi c, 0xFFFFFFFF)] (fun t =>
      t.reg p (Reg.sysCoreCyclesHi c) = cycles / 2 ^ 32 % 2 ^ 32) ∧
    read (.periodCountRead m) (s.periodCount % 2 ^ 32) [(Reg.trvPeriodCountHi, 0xFFFFFFFF)] (fun t =>
      t.reg p Reg.trvPeriodCountHi = s.periodCount / 2 ^ 32 % 2 ^ 16)

/-- R126: a read of CYCLES_LO, in SYS or in LOCAL, returns bits [31:0] of the count and latches bits [47:32], which the following read of CYCLES_HI
returns, so that the two are one coherent 48-bit value. The count wraps at 2^48. -/
def Obligations.CyclesReadsAreCoherent : Prop :=
  ∀ (m : Master) (core : Fin 8) (x : Slot) (lo hi : Fin 32) (qd : Fin 4) (s : State),
    let whole := fun (l h n : Nat) => l + 2 ^ 32 * h = n ∧ n < 2 ^ 48;
    ((s.peak m.peak).up = true → Completes (.cyclesRead m core) s (fun t =>
      Completes (.rcRead m (BitVec.ofNat 32 (Reg.sysCoreCyclesHi core.val))) t (fun u => whole t.readData.toNat u.readData.toNat (s.coreCycles ⟨m.peak, core⟩)))) ∧
    (let k := x.toCoreSel;
      s.runs k 8 → s.inSummit k = false → (s.core k).rq x.pred.val = 0xF → lo ≠ 0 → hi ≠ 0 →
      Completes (.xcr x 0 2 lo qd) s (fun t => Completes (.xcr x 0 3 hi qd) t (fun u =>
        whole ((t.core k).rs lo.val).toNat ((u.core k).rs hi.val).toNat (s.coreCycles k)))) ∧
    ((s.core ⟨m.peak, core⟩).runBase + (s.core ⟨m.peak, core⟩).issue ≤ (s.peak m.peak).cycles64 / 64 →
      s.coreCycles ⟨m.peak, core⟩ = (s.peak m.peak).cycles64 / 64 % 2 ^ 48)

/-- R290, R292, R293, R294, R296: a source that becomes active at the trip matrix shows in ACTIVE, is latched where LATCH is 1, is counted and
flagged, is the first source where none was, fires EV_TRIP in both Peaks, and every pair to which it gives OFF has both its switches off. A source
that becomes inactive leaves its latch. -/
def Obligations.TripSources : Prop :=
  ∀ (src : Fin 8) (m : Master) (s : State), s.saddle.clock = true →
    let act := fun (t : State) (k : Nat) => (t.fld .a Fd.tripStatusActive).testBit k
    let lat := fun (t : State) (k : Nat) => (t.fld .a Fd.tripStatusLatched).testBit k
    let own := fun (k : Nat) => switchesAnd (sourceRegs k)
    let comes := fun (i : Instr) (k : Nat) => s.bit .a (Fd.tripSrcCfgEn k) = true → act s k = false → Completes i s (fun t =>
      t.saddle.trips = s.saddle.trips ||| BitVec.ofNat 12 (2 ^ k) ∧
      act t k = true ∧ (∀ j, j ≠ k → act t j = act s j) ∧
      lat t k = (lat s k || s.bit .a (Fd.tripSrcCfgLatch k)) ∧ (∀ j, j ≠ k → lat t j = lat s j) ∧
      t.bit .a Fd.tripFlagsTripped = true ∧
      (s.fld .a (Fd.tripSrcCountCount k) < 0xFFFF → t.fld .a (Fd.tripSrcCountCount k) = s.fld .a (Fd.tripSrcCountCount k) + 1) ∧
      (s.bit .a Fd.tripFirstValid = false → t.bit .a Fd.tripFirstValid = true ∧ t.fld .a Fd.tripFirstSrc = 2 ^ k) ∧
      (∀ p < 32, tripAct s k p = 1 → (t.pair p).hi = false ∧ (t.pair p).lo = false) ∧
      (∀ p, Fired p 81 s t) ∧ RegFrame (own k) s t ∧ t.mem = s.mem)
    let goes := fun (i : Instr) (k : Nat) => act s k = true → Completes i s (fun t =>
      t.saddle.trips = s.saddle.trips &&& ~~~(BitVec.ofNat 12 (2 ^ k)) ∧ act t k = false ∧ (∀ j, j ≠ k → act t j = act s j) ∧ (∀ j, lat t j = lat s j) ∧
      RegFrame (own k) s t ∧ t.tasks = s.tasks ∧ t.cores = s.cores ∧ t.mem = s.mem)
    comes (.tripPinActive src) src.val ∧ goes (.tripPinInactive src) src.val ∧
    (s.holds m.peak = true → comes (.tripSwSet m) 8 ∧ goes (.tripSwRelease m) 8)

/-- R293, R294: TRIP.CLEAR clears each named latch whose source is inactive and sets CLEAR_REFUSED where a named source is active; a holder's read
of TRIP.FIRST returns and clears it. -/
def Obligations.TripLatchesAndFirst : Prop :=
  ∀ (m : Master) (mask : BitVec 12) (s : State),
    (s.holds m.peak = true → s.saddle.clock = true →
      let act := fun (k : Nat) => (s.fld .a Fd.tripStatusActive).testBit k
      Completes (.tripClear m mask) s (fun t =>
        (∀ k < 12, (t.fld .a Fd.tripStatusLatched).testBit k = ((s.fld .a Fd.tripStatusLatched).testBit k && !(mask.getLsbD k && !act k))) ∧
        t.fld .a Fd.tripStatusActive = s.fld .a Fd.tripStatusActive ∧
        ((∃ k, mask.getLsbD k = true ∧ act k = true) → t.bit .a Fd.tripFlagsClearRefused = true) ∧
        RegFrame (switchesAnd [(Reg.tripStatus, 0x0FFF0000), (Reg.tripFlags, 0x2)]) s t ∧ t.tasks = s.tasks ∧ t.cores = s.cores ∧ t.mem = s.mem)) ∧
    ((s.peak m.peak).up = true → s.saddle.clock = true → Completes (.tripFirstRead m) s (fun t =>
      t.readData = BitVec.ofNat 32 (s.reg .a Reg.tripFirst) ∧ t.reg .a Reg.tripFirst = (if s.holds m.peak then 0 else s.reg .a Reg.tripFirst) ∧
      RegFrame (onlyRegs [(Reg.tripFirst, 0xFFFFFFFF)]) s t ∧ { t with regs := s.regs, readData := s.readData } = s))

/-- R274, R278, R279, R281, R301, R308: at a compare the high side turns off, at its fine step where the count stands on the compare's tick, and the
low side waits for its dead time; once the dead time ends within a tick the waiting switch turns on at that step, and before it nothing happens. An
EVENT channel fires its group's event. A leg's turn-on is written to DRIVE_NOW where it adapts. -/
def Obligations.EdgesAndDeadTimes : Prop :=
  ∀ (p c : Fin 32) (n : Fin 6) (swing : BitVec 9) (s : State), s.saddle.clock = true →
    let q := s.pair p.val
    let l := s.leg n.val
    (∀ o, pairOwner s p.val = some o → pairNormal s p.val = true → s.bit .a (Fd.pwmPairStatusTripped p.val) = false → q.hi = true → q.lo = false →
      q.fallback = false → q.passed = false → 0 < q.dt → 0 < q.ceff → q.ceff < s.tbSteps (chanTb s o) → q.ceff / 64 ≤ s.tbCount (chanTb s o) →
      Completes (.compareReached (.pair p)) s (fun t =>
        t.pair p.val = { q with hi := false, lo := false, wait := some false, passed := true
                                hiOff := some (s.now64 + if s.tbCount (chanTb s o) = q.ceff / 64 then q.ceff % 64 else 0) } ∧
        (∀ j, j ≠ p.val → t.pair j = s.pair j) ∧ { t with saddle := { t.saddle with pairs := s.saddle.pairs } } = s)) ∧
    (q.wait = some true → q.lo = false →
      let t0 := q.onAt q.loOff s.now64
      Completes (.deadTimeEnd (.pair p) swing) s (fun t =>
        t = if t0 < s.now64 + 64 then s.setPair p.val { q with wait := none, hi := true, hiOn := some t0 } else s)) ∧
    (q.wait = some false → q.hi = false →
      let t0 := q.onAt q.hiOff s.now64
      Completes (.deadTimeEnd (.pair p) swing) s (fun t =>
        t = if t0 < s.now64 + 64 then s.setPair p.val { q with wait := none, lo := true, loOn := some t0 } else s)) ∧
    (chanMode s c.val = 3 → s.tbRuns (chanTb s c.val) = true → actSteps s c.val / 64 ≤ s.prdNow (chanTb s c.val) →
      actSteps s c.val / 64 ≤ s.tbCount (chanTb s c.val) →
      Completes (.compareReached (.event c)) s (fun t => (∀ k, Fired k (73 + c.val / 4) s t) ∧ RegFrame eventMask s t ∧ t.saddle = s.saddle ∧
        t.mem = s.mem)) ∧
    (let adapts := s.bit .a (Fd.spurLegCfgAdapt n.val)
    let shown := fun (f : Fld) (t : State) => RegFrame (onlyRegs [(Reg.spurLegDriveNow n.val, 0xFFFFFFFF)]) s t ∧ t.saddle.pairs = s.saddle.pairs ∧
      (adapts = false → t.regs = s.regs) ∧ (adapts = true → swing.toNat ≤ 254 → t.fld .a f = swing.toNat) ∧ (adapts = true → swing.toNat = 511 → t.fld .a f = 255)
    (gatesHeld s = false → l.wait = some true → l.lo = false → legFree s n.val l.loOff = true →
      Completes (.deadTimeEnd (.leg n) swing) s (fun t =>
        t.leg n.val = { l with wait := none, hi := true, hiOn := s.tick } ∧ shown (Fd.spurLegDriveNowHsTime n.val) t)) ∧
    (gatesHeld s = false → l.wait = some false → l.hi = false → l.refresh = 0 → legFree s n.val l.hiOff = true →
      Completes (.deadTimeEnd (.leg n) swing) s (fun t =>
        t.leg n.val = { l with wait := none, lo := true, loOn := s.tick, loSince := s.tick } ∧ shown (Fd.spurLegDriveNowLsTime n.val) t))) ∧
    (legWant s n.val ≠ (false, false) → legInAsc s n.val = false → l.charging = false → 0 < l.ceff → l.ceff ≤ s.prdNow (legTb s n.val) →
      l.ceff ≤ s.tbCount (legTb s n.val) → l.refresh = 0 →
      gatesHeld s = false → s.bit .a (Fd.spurLegStatusTripped n.val) = false → l.hi = true → l.lo = false →
      Completes (.compareReached (.leg n)) s (fun t =>
        t = s.setLeg n.val { l with hi := false, lo := false, hiOff := some s.now64, wait := some false }))

/-- R284, R285: a COMMIT moves the staged compares of the groups it names into their shadows, or, where the group's timebase stands within two ticks
of its wrap, into their late buffers; other channels are untouched. R282: a delay-line calibration. A bank whose line fails sets DL_FAIL and
DL_FALLBACK of its four pairs; one that passes leaves every register. -/
def Obligations.CommitAndDelayLines : Prop :=
  (∀ (m : Master) (mask : BitVec 8) (s : State), s.holds m.peak = true → s.saddle.clock = true →
    Completes (.commit m mask) s (fun t =>
      (∀ c < 32, ∀ v, mask.getLsbD (c / 4) = true → (s.chan c).staged = some v →
        if lateNow (chanTb s c) s then t.chan c = ⟨some v, none⟩ ∧ t.reg .a (Reg.pwmCmp c) = s.reg .a (Reg.pwmCmp c)
        else t.chan c = ⟨none, none⟩ ∧ t.reg .a (Reg.pwmCmp c) = v.toNat) ∧
      (∀ c < 32, mask.getLsbD (c / 4) = false ∨ (s.chan c).staged = none →
        t.chan c = s.chan c ∧ t.reg .a (Reg.pwmCmp c) = s.reg .a (Reg.pwmCmp c)) ∧
      ((∃ g < 8, mask.getLsbD g = true ∧ lateNow (s.fld .a (Fd.pwmGrpCfgTb g)) s = true) → t.bit .a Fd.pwmFlagsLateWrite = true) ∧
      t.saddle.pairs = s.saddle.pairs ∧ t.tasks = s.tasks ∧ t.cores = s.cores ∧ t.mem = s.mem)) ∧
  (∀ (b : Fin 8) (s : State), s.saddle.clock = true →
    Completes (.delayLineCalibration b true) s (fun t =>
      { t with saddle := { t.saddle with dlBad := s.saddle.dlBad } } = s ∧ ∀ k, t.saddle.dlBad.getLsbD k = (s.saddle.dlBad.getLsbD k && decide (k ≠ b.val))) ∧
    Completes (.delayLineCalibration b false) s (fun t => t.bit .a Fd.pwmFlagsDlFail = true ∧
      (∀ k, t.saddle.dlBad.getLsbD k = (s.saddle.dlBad.getLsbD k || decide (k = b.val))) ∧
      (∀ k < 4, t.bit .a (Fd.pwmPairStatusDlFallback (4 * b.val + k)) = true) ∧ { t with regs := s.regs, saddle := s.saddle } = s))

/-- R302, R304, R306, R309 to R312: enabling and disabling a leg, its VDS trip, its boot undervoltage and the clearing of trips. A VDS below its
threshold, or within the blanking time of the turn-on, trips nothing. A tripped leg is disabled with both switches off, its cause recorded, source
11 of the trip matrix active. -/
def Obligations.SpurLegs : Prop :=
  ∀ (m : Master) (n : Fin 6) (high : Bool) (vds : BitVec 16) (mask : BitVec 6) (s : State), s.saddle.clock = true →
    let l := s.leg n.val
    let on := if high then l.hi else l.lo
    let seen := vdsLimit s n.val < vds.toNat ∧ (if high then l.hiOn else l.loOn) + vdsBlank s n.val ≤ s.tick
    let enabled := fun (t : State) => (t.fld .a Fd.spurStatusEnabled).testBit n.val
    (s.holds m.peak = true →
      (s.bit .a (Fd.spurLegCtrlEn n.val) = false →
        let refused := gatesHeld s || !legPassed m.peak n.val s || s.bit .a (Fd.spurLegStatusTripped n.val) || legInAsc s n.val
        (refused = true → Completes (.legEnable m n) s (fun t => t = s.raise .a Fd.spurFlagsEnableRefused)) ∧
        (refused = false → Completes (.legEnable m n) s (fun t => t.bit .a (Fd.spurLegCtrlEn n.val) = true ∧ enabled t = true ∧
          RegFrame (onlyRegs [(Reg.spurLegCtrl n.val, 1), (Reg.spurStatus, 2 ^ n.val)]) s t ∧ { t with regs := s.regs } = s))) ∧
      Completes (.legDisable m n) s (fun t => t.bit .a (Fd.spurLegCtrlEn n.val) = false ∧ enabled t = false ∧ (t.leg n.val).en = false ∧
        (legInAsc s n.val = false → (t.leg n.val).hi = false ∧ (t.leg n.val).lo = false) ∧ (∀ j, j ≠ n.val → t.leg j = s.leg j) ∧
        RegFrame legMask s t ∧ t.saddle.pairs = s.saddle.pairs ∧ t.mem = s.mem) ∧
      (s.bit .a Fd.spurStatusVdrvOk = true → (∀ k < 6, legSource s k = false) → (∀ k < 6, (s.fld .a Fd.spurStatusTripped).testBit k = true → mask.getLsbD k = true) →
        Completes (.spurClear m mask) s (fun t => t.fld .a Fd.spurStatusTripped = 0 ∧ t.saddle.trips.getLsbD 11 = false ∧
          (∀ k < 6, mask.getLsbD k = true → t.bit .a (Fd.spurLegStatusTripped k) = false ∧ t.fld .a (Fd.spurLegStatusCause k) = 0) ∧ t.mem = s.mem))) ∧
    (on = false ∨ ¬seen → Completes (.vdsTrip n ⟨high, vds⟩) s (fun t => t = s)) ∧
    (on = true → seen →
      Completes (.vdsTrip n ⟨high, vds⟩) s (fun t => t.bit .a (Fd.spurLegStatusTripped n.val) = true ∧ t.fld .a (Fd.spurLegStatusCause n.val) = 1 ∧
        t.bit .a (if high then Fd.spurLegStatusFaultHs n.val else Fd.spurLegStatusFaultLs n.val) = true ∧
        (t.leg n.val).en = false ∧ t.saddle.trips.getLsbD 11 = true ∧ t.bit .a Fd.spurFlagsTrip = true ∧
        (legInAsc s n.val = false → inGroup s n.val = false → (t.leg n.val).hi = false ∧ (t.leg n.val).lo = false) ∧ t.mem = s.mem)) ∧
    (l.hi = true → l.uvNow = false → 2 ≤ l.uvRun →
      Completes (.bootUndervoltage n) s (fun t => t.bit .a (Fd.spurLegStatusTripped n.val) = true ∧ t.fld .a (Fd.spurLegStatusCause n.val) = 2 ∧
        (t.leg n.val).en = false ∧ t.mem = s.mem)) ∧
    (l.hi = true → l.uvNow = false → l.uvRun < 2 → legInAsc s n.val = false →
      Completes (.bootUndervoltage n) s (fun t => t.bit .a (Fd.spurLegStatusBootUv n.val) = true ∧ t.bit .a Fd.spurFlagsBootUv = true ∧
        (t.leg n.val).hi = false ∧ (t.leg n.val).refresh ≠ 0 ∧ (t.leg n.val).uvNow = true ∧ (∀ j, j ≠ n.val → t.leg j = s.leg j) ∧
        t.saddle.pairs = s.saddle.pairs ∧ t.tasks = s.tasks ∧ t.mem = s.mem))

/-- R314, R317, R318: an active short disables every leg of its group and turns on one side only; its release ends it unless a leg of the group is
tripped or a source still governs. The diagnostic of a leg starts where nothing refuses it, and its readings, 600 µs on, give one of four results.
Each of the four commands completes, under conditions on the state and the operands alone. -/
def Obligations.ActiveShortAndDiagnostic : Prop :=
  ∀ (m : Master) (n : Fin 6) (v1 v2 vbus : BitVec 16) (v3 : BitVec 17) (s : State), s.saddle.clock = true →
    (s.holds m.peak = true →
      (ascOn s = false → gatesHeld s = false → (∃ t, exec (.ascEnter m) s = .next t ∧ ascOn t = true ∧
        (∀ k < 6, inGroup s k = true → legInAsc t k = true ∧ t.bit .a (Fd.spurLegCtrlEn k) = false ∧ (t.leg k).en = false ∧
          ((t.leg k).hi && (t.leg k).lo) = false ∧ (t.saddle.ascHigh = true → (t.leg k).lo = false) ∧ (t.saddle.ascHigh = false → (t.leg k).hi = false)) ∧
        RegFrame legMask s t ∧ t.saddle.pairs = s.saddle.pairs ∧ t.tasks = s.tasks ∧ t.mem = s.mem)) ∧
      (ascOn s = true → (∀ k < 6, legInAsc s k = true → s.bit .a (Fd.spurLegStatusTripped k) = false ∧ legSource s k = false) →
        (∃ t, exec (.ascRelease m) s = .next t ∧ ascOn t = false ∧ (∀ k < 6, legInAsc t k = false) ∧
          (∀ k < 6, legInAsc s k = true → (t.leg k).hi = false ∧ (t.leg k).lo = false ∧ t.bit .a (Fd.spurLegCtrlEn k) = false) ∧
          t.saddle.pairs = s.saddle.pairs ∧ t.mem = s.mem)) ∧
      (s.bit .a (Fd.spurLegCtrlEn n.val) = false → (inGroup s n.val && ascOn s) = false → s.bit .a Fd.spurStatusVdrvOk = true → 5000 ≤ vbus.toNat →
        (∀ r, legRef s n.val = some r → s.bit .a (Fd.spurLegCtrlEn r) = false ∧ s.fld .a (Fd.spurLegDiagState r) ≠ 1) →
        s.bit .a (Fd.spurLegStatusRetired n.val) = false →
        (∃ t, exec (.legDiagStart m n vbus) s = .next t ∧ t.fld .a (Fd.spurLegDiagState n.val) = 1 ∧ t.fld .a (Fd.spurLegDiagRefuse n.val) = 0 ∧
          t.bit .a (Fd.spurLegCtrlDiag n.val) = true ∧ t.leg n.val = { s.leg n.val with diagAt := s.tick } ∧ (∀ k, k ≠ n.val → t.leg k = s.leg k) ∧
          { t with regs := s.regs, saddle := { t.saddle with legs := s.saddle.legs } } = s)) ∧
      (s.bit .a (Fd.spurLegCtrlEn n.val) = true → (∃ t, exec (.legDiagStart m n vbus) s = .next t ∧
        t.fld .a (Fd.spurLegDiagRefuse n.val) = 1 ∧ t.bit .a Fd.spurFlagsDiagRefused = true ∧
        t.fld .a (Fd.spurLegDiagState n.val) = s.fld .a (Fd.spurLegDiagState n.val) ∧ { t with regs := s.regs } = s))) ∧
    (s.fld .a (Fd.spurLegDiagState n.val) = 1 → (s.leg n.val).diagAt + 240000 ≤ s.tick →
      let opened := if (legRef s n.val).isSome then decide (2000 < v3.toInt) else decide ((2000 : Int) < (v1.toNat : Int) - v2.toNat)
      (∃ t, exec (.legDiagComplete n v1 v2 v3 vbus) s = .next t ∧ t.fld .a (Fd.spurLegDiagState n.val) = 2 ∧ t.bit .a (Fd.spurLegCtrlDiag n.val) = false ∧
        t.fld .a (Fd.spurLegDiagResult n.val) = (if (vbus.toNat : Int) - 1000 < v2.toNat then 1 else if v1.toNat < 1000 then 2
          else if opened then 3 else 0) ∧
        (∀ p, Fired p 83 s t) ∧ t.saddle = s.saddle ∧ t.mem = s.mem))

/-- R286, R329, R330, R332, R350: strobes count on; a heartbeat that reaches the Gendarme shows in its registers; an acknowledgement becomes the
Peak's VIEW and ends its silence, and three strobes without one raise EV_GDM_SILENT; the baton's flight ends with the baton at its Peak and every
late buffer and staging set empty. -/
def Obligations.StrobesHeartbeatsAndBaton : Prop :=
  ∀ (p : PeakId) (s : State),
    let next := match s.saddle.strobe with | none => 0 | some n => (n + 1) % 2 ^ 16
    (s.saddle.clock = true → s.tbRuns s.periodTb = true ∨ s.wrapOf s.periodTb = s.tick → Completes .strobe s (fun t => t.saddle.strobe = some next)) ∧
    (s.saddle.clock = true → s.tbRuns s.periodTb = false → Completes .idleStrobe s (fun t => t.saddle.strobe = some next)) ∧
    (∀ h, s.gdm.sent.get p = some h → Completes (.heartbeatReceive p) s (fun t =>
      t.gdm = { s.gdm with sent := s.gdm.sent.set p none, got := if s.gdm.window then s.gdm.got.set p (some h) else s.gdm.got } ∧
      t.reg .a (Reg.gdmPeakHb0 p.num) = h.1.toNat ∧ t.reg .a (Reg.gdmPeakHb1 p.num) = h.2.toNat ∧
      (h.1.getLsbD 13 = true → t.bit .a Fd.gdmFlagsPeerClaim = true) ∧ { t with regs := s.regs, gdm := s.gdm } = s)) ∧
    (∀ a, s.gdm.acks.get p = some a → (s.peak p).up = true → Completes (.ackReceive p) s (fun t =>
      t.gdm = { s.gdm with acks := s.gdm.acks.set p none } ∧ t.reg .a (Reg.gdmPeakView p.num) = (a.1 * 2 ^ 16 + a.2) % 2 ^ 32 ∧
      t.peak p = { s.peak p with silent := 0 } ∧ t.peak p.other = s.peak p.other ∧
      RegFrame (onlyRegs [(Reg.gdmPeakView p.num, 0xFFFFFFFF)]) s t ∧ { t with regs := s.regs, gdm := s.gdm, peaks := s.peaks } = s)) ∧
    ((s.peak p).up = true → 3 ≤ (s.peak p).silent → s.bit .a (Fd.gdmPeakViewSilent p.num) = false →
      Completes (.gendarmeSilent p) s (fun t => t.bit .a (Fd.gdmPeakViewSilent p.num) = true ∧ Fired p 99 s t ∧
        RegFrame (eventsAnd [(Reg.gdmPeakView p.num, 0x4)]) s t ∧ t.gdm = s.gdm ∧ t.mem = s.mem)) ∧
    (s.saddle.flight = some p → Completes .batonFlightEnd s (fun t =>
      t.holder = p.num ∧ t.saddle.flight = none ∧ t.fld .a Fd.pwmBatonMoves = min (s.fld .a Fd.pwmBatonMoves + 1) 0xFFFF ∧
      (∀ c < 32, (t.chan c).late = none ∧ (t.chan c).staged = none) ∧ (∀ n < 8, (t.tb n).latePrd = none) ∧ (∀ n < 6, (t.leg n).late = none) ∧
      t.saddle.pairs = s.saddle.pairs ∧ t.peaks = s.peaks ∧ t.gdm = s.gdm ∧ t.mem = s.mem))

/-- R331, R333, R334, R335, R343, R345: as the window closes each verdict is recorded. An ACTIVE Peak that is LOST or SICK beside a GOOD STANDBY is
FAILED and in reset at once, the other takes over at the next strobe; without a GOOD STANDBY (LOL alone apart, for its grace time) the device goes
safe. A Peak that has not reported READY within START_WAIT of its handover, or a joiner whose image has not come within START_WAIT of its release,
is put into reset. -/
def Obligations.VerdictsAndFailover : Prop :=
  ∀ (p : PeakId) (s : State),
    let down := fun (q : PeakId) (t : State) => (t.peak q).up = false ∧ t.role q = 3
    let safe := fun (t : State) => t.safe = true ∧ (s.safe = false → ∀ q, down q t)
    (s.gdm.window = true → s.gdm.asked = [] → s.gdmSilent = false →
      (isBad (verdict s .a) = false → isBad (verdict s .b) = false → Completes .heartbeatWindowClose s (fun t =>
        t.gdm.window = false ∧ (∀ q, t.role q = s.role q) ∧ (∀ q, (t.peak q).up = (s.peak q).up) ∧ t.mem = s.mem ∧
        (∀ q, t.reg .a (Reg.gdmPeakVerdict q.num) = (verdict s q).1 + (verdict s q).2 * 2 ^ 8))) ∧
      (s.active = some p → isBad (verdict s p) = true → s.role p.other = 1 → (verdict s p.other).1 = 0 →
        Completes .heartbeatWindowClose s (fun t => down p t ∧ t.gdm.grant = some p.other ∧ t.role p.other = 1 ∧ t.synced = false ∧
          t.bit .a Fd.gdmFlagsFailover = true ∧ (t.peak p.other).up = (s.peak p.other).up)) ∧
      (s.active = some p → isBad (verdict s p) = true → verdict s p ≠ (2, 7) → ¬(s.role p.other = 1 ∧ (verdict s p.other).1 = 0) →
        Completes .heartbeatWindowClose s safe)) ∧
    (∀ t0, s.gdm.lolSince = some t0 → t0 + 4000000 ≤ s.tick → s.gdmSilent = false → s.active = some p → Completes .lolGraceExpiry s safe) ∧
    ((s.peak p).up = true → s.power.boot.get p = .done → s.gdmSilent = false → s.gdmPast (s.gdm.handoverAt.get p) (startWait s) = true →
      (s.bit .a (Fd.gdmPeakReportReady p.num) = true →
        Completes (.startWaitExpiry p) s (fun t =>
          { t with gdm := { t.gdm with acks := s.gdm.acks } } = { s with gdm := { s.gdm with waited := s.gdm.waited.set p true } })) ∧
      (s.bit .a (Fd.gdmPeakReportReady p.num) = false → 2 ≤ s.role p → Completes (.startWaitExpiry p) s (down p))) ∧
    ((s.peak p).up = true → s.power.boot.get p = .fetch 2 → (s.peak p.other).up = true → s.gdmPast (s.peak p).releasedAt (startWait s) = true →
      Completes (.joinImageWaitExpiry p) s (fun t => (t.peak p).up = false ∧ t.power.boot.get p = .none ∧ t.peak p.other = s.peak p.other))

/-- R297, R348, R349, R357, R368: a stopped Saddle, a kernel fault, a working image that no longer matches its CRC and the command SAFE bring the
device into the safe state: both Peaks FAILED and in reset, PWRGD low; SAFE does so also while another command is BUSY. It is left only by a restart
that R349 allows, by command or 100 ms after the entry, which releases every powered Peak. -/
def Obligations.SafeStateEntryAndExit : Prop :=
  ∀ (key : BitVec 16) (ok : Bool) (s : State),
    let entered := fun (t : State) => t.safe = true ∧
      (s.safe = false → t.power.pwrgd = false ∧ t.saddle.flight = none ∧ ∀ p, (t.peak p).up = false ∧ t.role p = 3)
    let left := fun (t : State) => t.safe = false ∧ t.gdm.safeAt = s.tick ∧
      ∀ p, s.vaux p = true → (t.peak p).up = true ∧ t.power.boot.get p = .r0 ∧ t.bit .a (lockoutFld p) = false
    (s.saddle.clock = true ∨ s.running = true → s.bit .a Fd.gdmStatusSaddleStop = false →
      Completes .saddleStopDetect s (fun t => entered t ∧ t.saddle.clock = false ∧ t.bit .a Fd.gdmStatusSaddleStop = true)) ∧
    (kernelRuns s = true → s.bit .a Fd.safStatusKernelFault = false →
      Completes .kernelFault s (fun t => entered t ∧ t.bit .a Fd.safStatusKernelFault = true) ∧
      (s.saf.img ≠ [] → (ok && decide (s.cfgWord 63 = imageCrc s.saf.img)) = false →
        Completes (.imageCrcCheck ok) s (fun t => entered t ∧ t.bit .a Fd.safStatusKernelFault = true)) ∧
      (s.saf.img ≠ [] → (ok && decide (s.cfgWord 63 = imageCrc s.saf.img)) = true → Completes (.imageCrcCheck ok) s (fun t => t = s))) ∧
    (gdmAnswers s = true → s.gdm.window = false → s.gdmSilent = false → key = 0x6D1A →
      Completes (.gdmSafe key) s (fun t => entered t ∧ t.fld .a Fd.gdmCmdStatusResult = 0)) ∧
    (gdmAnswers s = true → s.gdm.window = false → s.gdmSilent = false → key = 0x6D1A → s.bit .a Fd.gdmCmdStatusBusy = false →
      (restartCode s = 0 → Completes (.gdmRestart key) s (fun t => left t ∧ t.fld .a Fd.gdmCmdStatusResult = 0)) ∧
      (restartCode s ≠ 0 → Completes (.gdmRestart key) s (fun t => t.fld .a Fd.gdmCmdStatusResult = restartCode s ∧
        t.bit .a Fd.gdmFlagsCmdRefused = true ∧ { t with regs := s.regs } = s))) ∧
    (restartCode s = 0 → s.bit .a Fd.gdmCfgAutoRestart = true → s.gdm.restarts < 3 → s.gdmPast s.gdm.enteredAt 40000000 = true →
      Completes .autoRestart s (fun t => left t ∧ t.gdm.restarts = s.gdm.restarts + 1))

/-- R342, R343, R346, R347, R351, R352: a copy completes, a JOIN copy not before its Couloir outputs are the source's, or aborts and restarts at the
next strobe up to three times; the return hold ends in a copy to the home Peak; a FAILED Peak that may rejoin is released 10 ms after it failed, or
first clocked; and the commands of GDM.CMD, which wait while a window is open, whose wrong key is result 1 and whose busy result is 3, SAFE apart.
-/
def Obligations.CopiesRejoinAndCommands : Prop :=
  ∀ (key : BitVec 16) (p : PeakId) (s : State),
    (∀ c, s.gdm.copy = some c → c.waiting = false →
      let late := c.complete = false ∧ c.same s = true ∧ c.sameAt + 80000 ≤ s.tick
      (c.complete = false → s.gdmSilent = false → c.same s = true → Completes .copyComplete s (fun t =>
        t.gdm.copy = some { c with complete := true } ∧ { t.gdm with copy := s.gdm.copy, acks := s.gdm.acks } = s.gdm ∧
        (∀ q : PeakId, t.fld .a (Fd.gdmPeakCopyState q.num) = 3) ∧
        RegFrame (onlyRegs [(Reg.gdmPeakCopy 0, 0xFFFFFFFF), (Reg.gdmPeakCopy 1, 0xFFFFFFFF)]) s t ∧ { t with regs := s.regs, gdm := s.gdm } = s)) ∧
      (c.retries < 3 →
        let again := fun (t : State) => t.gdm = { s.gdm with copy := some { c with retries := c.retries + 1, waiting := true, complete := false } } ∧
          t.bit .a Fd.gdmStatusCopy = false ∧ { t with regs := s.regs, gdm := s.gdm } = s
        Completes .copyOverflow s again ∧ (late → Completes .copyTimeout s again)) ∧
      (3 ≤ c.retries →
        let given := fun (t : State) => t.gdm.copy = none ∧ t.bit .a Fd.gdmFlagsCopyFail = true ∧
          (c.why = .join → t.role c.target = 3 ∧ (t.peak c.target).up = false)
        Completes .copyOverflow s given ∧ (late → Completes .copyTimeout s given))) ∧
    (∀ t0, s.gdm.hold = some t0 → s.gdmPast t0 (s.fld .a Fd.gdmCfgHoldT * 400000000) = true → s.gdmSilent = false → holdable s = true →
      s.gdm.copy = none → Completes .returnHoldExpiry s (fun t =>
      t.gdm = { s.gdm with hold := none, copy := some { target := s.home, why := .home } } ∧ t.bit .a Fd.gdmStatusHolding = false ∧
      RegFrame (onlyRegs [(Reg.gdmStatus, 0x80)]) s t ∧ { t with regs := s.regs, gdm := s.gdm } = s)) ∧
    (let may := s.vaux p = true ∧ (s.peak p).up = false ∧ s.running = true ∧ s.power.joinAt.get p = none
    let released := fun (t : State) => (t.peak p).up = true ∧ t.power.boot.get p = .r0 ∧ t.peak p.other = s.peak p.other ∧ t.role p = 3
    s.bit .a Fd.gdmCfgAutoRejoin = true → s.role p = 3 → s.bit .a (lockoutFld p) = false → s.safe = false → s.gdmSilent = false →
      s.gdmPast (s.gdm.failedAt.get p) 4000000 = true → may →
      (clocked p s = true → Completes (.autoRejoinRelease p) s released) ∧
      (clocked p s = false → Completes (.autoRejoinRelease p) s (fun t =>
        t = { s with power := { s.power with joinAt := s.power.joinAt.set p (some 0), pllFail := s.power.pllFail.set p false } }))) ∧
    (s.gdm.window = true → gdmAnswers s = true →
      let waits := fun (i : Instr) (a : GdmAsk) => Completes i s (fun t => t = { s with gdm := { s.gdm with asked := s.gdm.asked ++ [a] } })
      waits (.gdmSwap key) ⟨key, 1, .a⟩ ∧ waits (.gdmFail key p) ⟨key, 2, p⟩ ∧ waits (.gdmRejoin key p) ⟨key, 3, p⟩ ∧
      waits (.gdmRestart key) ⟨key, 4, .a⟩ ∧ waits (.gdmSafe key) ⟨key, 5, .a⟩ ∧ waits (.gdmResync key) ⟨key, 6, .a⟩) ∧
    (gdmAnswers s = true → s.gdm.window = false → s.gdmSilent = false →
      let all := [Instr.gdmSwap key, .gdmFail key p, .gdmRejoin key p, .gdmRestart key, .gdmSafe key, .gdmResync key]
      let refused := fun (i : Instr) (code : Nat) => Completes i s (fun t => t.fld .a Fd.gdmCmdStatusResult = code ∧ t.bit .a Fd.gdmFlagsCmdRefused = true ∧
        { t with regs := s.regs } = s)
      (key ≠ 0x6D1A → ∀ i ∈ all, refused i 1) ∧
      (key = 0x6D1A → s.bit .a Fd.gdmCmdStatusBusy = true → ∀ i ∈ all, i ≠ .gdmSafe key → refused i 3) ∧
      (key = 0x6D1A → s.bit .a Fd.gdmCmdStatusBusy = false →
        (∀ q, s.active = some q → inLockstep s = true → s.safe = false → s.gdm.grant = none → s.gdm.copy = none →
          let begun := fun (op : Nat) (why : CopyFor) (t : State) => t.bit .a Fd.gdmCmdStatusBusy = true ∧
            t.gdm = { s.gdm with cmd := some op, copy := some { target := q.other, why := why } } ∧ { t with regs := s.regs, gdm := s.gdm } = s
          Completes (.gdmSwap key) s (begun 1 .swap) ∧ Completes (.gdmResync key) s (begun 6 .resync)) ∧
        (s.role p ≠ 3 → Completes (.gdmFail key p) s (fun t => t.gdm = { s.gdm with failCmd := s.gdm.failCmd.set p true } ∧
          t.fld .a Fd.gdmCmdStatusResult = 0 ∧ { t with regs := s.regs, gdm := s.gdm } = s)) ∧
        (s.role p = 3 → s.safe = false → (s.peak p).up = false → s.running = true → s.vaux p = true → s.power.joinAt.get p = none → clocked p s = true →
          Completes (.gdmRejoin key p) s (fun t => (t.peak p).up = true ∧ t.power.boot.get p = .r0 ∧ t.bit .a (lockoutFld p) = false ∧
            t.reg .a (Reg.gdmPeakFailRun p.num) = 0 ∧ t.fld .a Fd.gdmCmdStatusResult = 0))))

/-- R355, R359, R360, R361, R366: what the safety inputs bring about. A channel in demand demands every function that names it; a channel that fails
its test pulse, disagrees with its partner, sees a bad test output, sticks or shows no feedback has a fault latched. Afterwards the segments
asserted and the SOUTs on are those that R355 and R362 ask for. -/
def Obligations.SafetyInputs : Prop :=
  ∀ (n : Fin 8) (q : Fin 4) (high : BitVec 8) (s : State), kernelRuns s = true →
    let settled := fun (t : State) => t.fld .a Fd.safStatusSeg = segWant t ∧ t.fld .a Fd.safOutStateSoutOn = soutWant t
    let on := fun (f : Fld) (t : State) (i : Nat) => (t.fld .a f).testBit i
    let fed := fun (i : Nat) => inSupplied s i = true ∧ inTpo s i = q.val
    Completes (.inputDemand n) s (fun t => settled t ∧ on Fd.safInStateLevel t n.val = false ∧ t.saf.img = s.saf.img ∧
      (inType s n.val = 1 ∨ inType s n.val = 2 → t.saf.chan = s.saf.chan ||| BitVec.ofNat 8 (2 ^ n.val) ∧
        ∀ f < 3, n.val ∈ named s f → s.func f = 0 → t.func f ≠ 0)) ∧
    Completes (.inputRelease n) s (fun t => settled t ∧ on Fd.safInStateLevel t n.val = true ∧ on Fd.safInStateMasked t n.val = false ∧
      t.saf.chan = s.saf.chan &&& ~~~(BitVec.ofNat 8 (2 ^ n.val)) ∧ t.saf.img = s.saf.img) ∧
    (bits (s.cfgWord 2) (16 + q.val) (16 + q.val) = 1 →
      (inBivouac s = false → Completes (.testPulseStart q high) s (fun t => on Fd.safOutStateTpoOn t q.val = false ∧
        ∀ i < 8, fed i → on Fd.safInStateMasked t i = true ∧ (high.getLsbD i = true → inFault t i ≠ 0))) ∧
      Completes (.testPulseEnd q high) s (fun t => on Fd.safOutStateTpoOn t q.val = true ∧
        ∀ i < 8, fed i → Tab.get (fun _ => 0) t.saf.passes i = Tab.get (fun _ => 0) s.saf.passes i + 1 ∧
          (high.getLsbD i = true → on Fd.safInStateMasked t i = false))) ∧
    (∀ a b, channels s n.val = [a, b] → s.saf.chan.getLsbD a ≠ s.saf.chan.getLsbD b →
      Completes (.discrepancyExpiry n) s (fun t => settled t ∧ inFault t a ≠ 0 ∧ inFault t b ≠ 0)) ∧
    Completes (.tpoFault q) s (fun t => on Fd.safOutStateTpoFault t q.val = true ∧ ∀ i < 8, fed i → inFault t i ≠ 0) ∧
    (inType s n.val = 4 → Completes (.resetStuckExpiry n) s (fun t => settled t ∧ inFault t n.val ≠ 0)) ∧
    (s.saf.feedback.isSome = true → Completes .feedbackTimeout s (fun t => settled t ∧ inFault t (fbIn s) ≠ 0 ∧
      t.bit .a Fd.safFlagsFeedbackFault = true))

/-- R353, R354, R362, R364, R365: what the outputs and the functions do. A stopped release toggle asserts its segment; a SOUT that fails its
off-pulse or is shorted asserts every segment and turns every SOUT off; a demand by command takes functions out of RUN; a reset takes them back
where nothing stands against it; the stop time ends with the timed stop's outputs acting. -/
def Obligations.SafetyOutputsAndFunctions : Prop :=
  ∀ (g : Fin 9) (n : Fin 4) (key : BitVec 16) (mask : BitVec 3) (low : BitVec 4) (s : State), kernelRuns s = true →
    let settled := fun (t : State) => t.fld .a Fd.safStatusSeg = segWant t ∧ t.fld .a Fd.safOutStateSoutOn = soutWant t
    let dead := fun (t : State) => settled t ∧ t.fld .a Fd.safStatusSeg = 0x1FF ∧ t.fld .a Fd.safOutStateSoutOn = 0 ∧ (outFaults t).testBit n.val = true
    let outs := outFaults s &&& (0xF ^^^ (low.toNat &&& (0xF ^^^ s.fld .a Fd.safOutStateSoutOn)))
    let may := fun (f : Nat) => resetOk s (clearable s) outs f = true
    let back := fun (m : BitVec 3) (t : State) => settled t ∧ (∀ f < 3, m.getLsbD f = true → s.func f = 2 ∨ s.func f = 4 → t.func f = 0)
    Completes (.toggleLoss g) s (fun t => settled t ∧ (t.fld .a Fd.safStatusSeg).testBit g.val = true ∧
      t.saf.lost = s.saf.lost ||| BitVec.ofNat 9 (2 ^ g.val)) ∧
    (soutOn s n.val = true → Completes (.soutOffPulse n) s (fun t => t.saf.offPulse.getLsbD n.val = true ∧
      { t with saf := { t.saf with offPulse := s.saf.offPulse } } = s)) ∧
    Completes (.soutOffPulseEnd n) s (fun t => t.saf.offPulse.getLsbD n.val = false ∧ { t with saf := { t.saf with offPulse := s.saf.offPulse } } = s) ∧
    (s.saf.offPulse.getLsbD n.val = true → Completes (.soutStuckOn n) s dead) ∧
    (soutOn s n.val = false → Completes (.soutShorted n) s dead) ∧
    (key ≠ 0x5A3C → gdmAnswers s = true → ∀ i ∈ [Instr.safDemand key mask, .safReset key mask low, .safCommit key], Completes i s (fun t =>
      t.fld .a Fd.safCmdStatusResult = 1 ∧ t.bit .a Fd.safFlagsCmdRefused = true ∧ { t with regs := s.regs } = s)) ∧
    (key = 0x5A3C → gdmAnswers s = true → s.bit .a Fd.safCmdStatusBusy = false →
      Completes (.safDemand key mask) s (fun t => settled t ∧ t.fld .a Fd.safCmdStatusResult = 0 ∧
        ∀ f < 3, mask.getLsbD f = true → funcAuto s f = false → t.func f ≠ 0) ∧
      ((∀ f < 3, mask.getLsbD f = true → may f) → Completes (.safReset key mask low) s (fun t => back mask t ∧ t.fld .a Fd.safCmdStatusResult = 0)) ∧
      ((∃ f < 3, mask.getLsbD f = true ∧ ¬may f) → Completes (.safReset key mask low) s (fun t => settled t ∧ t.fld .a Fd.safCmdStatusResult = 9 ∧
        t.bit .a Fd.safFlagsResetRefused = true))) ∧
    (bits (s.cfgWord 15) 3 3 = 1 → (∀ f < 3, may f) → Completes (.resetInputRelease low) s (back 7)) ∧
    (s.func 2 = 3 → Completes .stopTimeExpiry s (fun t => settled t ∧ t.func 2 ≠ 3 ∧ t.func 2 ≠ 0 ∧ (thenSdc s = true → t.func 1 ≠ 0)))

/-- R356, R357, R358, R363: of the two stored images the valid one with the higher GEN becomes active, copy A where they are equal, and every
function without a fault stands in SAFE. A commit is refused by the first check that fails; one that is accepted waits, and its success stores the
image in both copies and makes it active. -/
def Obligations.SafetyConfiguration : Prop :=
  ∀ (key : BitVec 16) (s : State), kernelRuns s = true →
    let a := s.wordList (copyKey false) 64
    let b := s.wordList (copyKey true) 64
    let taken := fun (w : List Nat) (copy : Bool) (t : State) => t.saf.img = w ∧ t.bit .a Fd.safStatusCfgValid = true ∧
      t.bit .a Fd.safStatusCfgCopy = copy ∧ t.reg .a Reg.safCfgGen = w.getD 1 0 % 2 ^ 32 ∧ (∀ f < 3, t.func f = if s.func f = 4 then 4 else 2)
    let first := imageCheck a = 0 ∧ (imageCheck b ≠ 0 ∨ b.getD 1 0 ≤ a.getD 1 0)
    (first → Completes .safetyConfigLoad s (taken a false)) ∧
    (¬first → imageCheck b = 0 → Completes .safetyConfigLoad s (taken b true)) ∧
    (imageCheck a ≠ 0 → imageCheck b ≠ 0 → Completes .safetyConfigLoad s (fun t => t = s)) ∧
    (key = 0x5A3C → gdmAnswers s = true →
      let w := stageWords s
      let code := if imageCheck w ≠ 0 then imageCheck w else if w.getD 1 0 ≤ s.reg .a Reg.safCfgGen then 4 else if outputsIdle s = false then 5
        else if (List.range 3).any (fun f => decide (s.func f ≠ 2 ∧ s.func f ≠ 4)) then 6 else if s.bit .a Fd.safCmdStatusBusy = true then 7 else 0
      Completes (.safCommit key) s (fun t => t.fld .a Fd.safCmdStatusResult = code ∧ t.mem = s.mem ∧
        (code = 0 → t.bit .a Fd.safCmdStatusBusy = true ∧ t.saf = { s.saf with commit := some w }) ∧
        (code ≠ 0 → t.bit .a Fd.safFlagsCmdRefused = true ∧ t.saf = s.saf))) ∧
    (∀ w, s.saf.commit = some w → w.length = 64 →
      Completes (.safCommitComplete true) s (fun t => taken w false t ∧ t.saf.commit = none ∧ t.bit .a Fd.safCmdStatusBusy = false ∧
        t.fld .a Fd.safCmdStatusResult = 0 ∧ t.byteList (copyKey false) 256 = w.flatMap wordBytes ∧ t.byteList (copyKey true) 256 = w.flatMap wordBytes ∧
        (∀ k, k < copyKey false ∨ copyKey false + 512 ≤ k → t.byte k = s.byte k)) ∧
      Completes (.safCommitComplete false) s (fun t => t.saf.img = s.saf.img ∧ t.saf.commit = none ∧ t.fld .a Fd.safCmdStatusResult = 8 ∧
        (∀ k, k < copyKey false ∨ copyKey false + 256 ≤ k → t.byte k = s.byte k)))

/-- R57, R59, R60, R61, R64, R85: supplies and RESET_N. VAUXG begins a cold start and its loss resets the device, which keeps only fuses, the
parameter store and the supplies; a lost VAUXA or VAUXB takes its Peak down; VDRV gives and takes the gates. A pulse below 480 ns does nothing and
one of 520 ns or more resets; between them either happens. -/
def Obligations.SuppliesAndReset : Prop :=
  ∀ (legs : BitVec 6) (p : PeakId) (ns : Word) (s : State),
    let reset := fun (t : State) => t.regs = [] ∧ t.cores = [] ∧ t.tasks = [] ∧ t.power.phase = .off ∧ (∀ q, (t.peak q).up = false) ∧
      (∀ k, t.byte k = if 3 * 2 ^ 32 ≤ k then s.byte k else 0)
    let sup := fun (q : PeakId) => if q = .a then Supply.vauxA else Supply.vauxB
    (s.power.vauxG = false → Completes (.supplyRise .vauxG legs) s (fun t => t.power.vauxG = true ∧ t.power.cause % 2 = 1 ∧
      t.power.phase = (if s.power.resetLow then s.power.phase else .cold 0) ∧ { t with power := s.power } = s)) ∧
    Completes (.supplyRise (sup p) legs) s (fun t => t.vaux p = true ∧ t.vaux p.other = s.vaux p.other ∧ { t with power := s.power } = s) ∧
    Completes (.supplyRise .vio1 legs) s (fun t => t = { s with power := { s.power with vio1 := true } }) ∧
    Completes (.supplyRise .vio2 legs) s (fun t => t = { s with power := { s.power with vio2 := true } }) ∧
    (s.power.vdrv = false → s.saddle.clock = true → Completes (.supplyRise .vdrv legs) s (fun t =>
      t.power = { s.power with vdrv := true } ∧ t.bit .a Fd.spurStatusVdrvOk = true ∧ t.mem = s.mem)) ∧
    (s.power.lcs = none → Completes (.supplyFall .vauxG) s (fun t => reset t ∧ t.power.vauxG = false ∧ t.power.fuses = s.power.fuses)) ∧
    (s.vaux p = true → Completes (.supplyFall (sup p)) s (fun t => t.vaux p = false ∧ (t.peak p).up = false ∧ t.vaux p.other = s.vaux p.other ∧
      (s.running = true → s.vaux p.other = false → t.saddle.clock = false))) ∧
    (s.power.vdrv = true → s.saddle.clock = true → Completes (.supplyFall .vdrv) s (fun t => t.power = { s.power with vdrv := false } ∧
      t.bit .a Fd.spurStatusVdrvOk = false ∧ t.bit .a Fd.spurFlagsVdrvLoss = true ∧ (∀ n < 6, (t.leg n).hi = false ∧ (t.leg n).lo = false) ∧ t.mem = s.mem)) ∧
    Completes (.supplyFall .vio1) s (fun t => t = { s with power := { s.power with vio1 := false } }) ∧
    Completes (.supplyFall .vio2) s (fun t => t = { s with power := { s.power with vio2 := false } }) ∧
    (ns.toNat < 480 → Completes (.resetPin ns) s (fun t => t = s)) ∧
    (520 ≤ ns.toNat → Completes (.resetPin ns) s (fun t => reset t ∧ t.power.resetLow = true)) ∧
    (480 ≤ ns.toNat → ns.toNat < 520 → Completes (.resetPin ns) s (fun t => (reset t ∧ t.power.resetLow = true) ∨ t = { s with free := s.free + 1 })) ∧
    (s.power.resetLow = true → Completes .resetRelease s (fun t => t.power.resetLow = false ∧
      t.power.phase = (if s.power.vauxG then .cold 0 else s.power.phase) ∧ { t with power := s.power } = s))

/-- R54, R55, R61, R62, R63: the Gendarme's start instants, the reference check and the stages t1 to t6. At t5 the Saddle's clock starts; at t6
every Peak with its supply and its lock leaves reset. A failed self-test ends in the safe state. -/
def Obligations.ColdStartAndStages : Prop :=
  ∀ (xin good : Bool) (locks : BitVec 6) (s : State),
    let at_ := fun (i : Fin 7) (P : State → Prop) => ∀ j wake, s.power.phase = .stages j wake → i.val = j + 1 → Completes (.stageInstant i locks) s P
    (s.power.phase = .cold 0 → Completes (.gendarmeStartInstant 1 good xin) s (fun t => t.power.phase = .cold 1 ∧
      t.fld .a Fd.lcsStateState = s.power.fuses.state)) ∧
    (s.power.phase = .cold 1 → Completes (.gendarmeStartInstant 2 true xin) s (fun t => t.power.phase = .cold 2 ∧ t.cairn.running = true ∧
        (t.pll 5).locked = true) ∧
      Completes (.gendarmeStartInstant 2 false xin) s (fun t => t.power.phase = .halted ∧ t.safe = true)) ∧
    (s.power.phase = .cold 2 → Completes (.gendarmeStartInstant 3 false xin) s (fun t => t.power.phase = .halted ∧ t.safe = true) ∧
      (s.fld .a Fd.lcsStateState = 3 → Completes (.gendarmeStartInstant 3 true xin) s (fun t => t.power.phase = .halted ∧ t.safe = true)) ∧
      (s.fld .a Fd.lcsStateState ≠ 3 → Completes (.gendarmeStartInstant 3 true xin) s (fun t => t.power = { s.power with phase := .waiting, xin := xin }))) ∧
    (s.power.phase = .waiting → Completes (.refCheckWindow good) s (fun t => t.power = { s.power with xin := good })) ∧
    (s.power.phase = .running → s.power.xin = true → Completes (.refCheckWindow false) s (fun t => t.power.xin = false ∧
      (∀ q, t.bit q Fd.clkFlagsRefLoss = true ∧ t.bit q Fd.clkStatusRefLost = true) ∧ ((s.pll 2).locked = true → (t.pll 2).coast = true))) ∧
    (s.power.phase = .waiting → s.refGone = false → s.power.vauxA = true ∨ s.power.vauxB = true → Completes .stageStart s (fun t =>
      t.power = { s.power with phase := .stages 0 false, pllFail := ⟨!s.power.vauxA, !s.power.vauxB⟩, cirqOk := ⟨false, false⟩ } ∧
      t.gdm = { s.gdm with failedAt := ⟨s.tick, s.tick⟩ } ∧ { t with power := s.power, gdm := s.gdm } = s)) ∧
    at_ 1 (fun t => ∃ wake, t = setPhase (.stages 1 wake) s) ∧ at_ 2 (fun t => ∃ wake, t = setPhase (.stages 2 wake) s) ∧
    at_ 3 (fun t => (∃ wake, t.power.phase = .stages 3 wake) ∧ (locks.getLsbD 2 = true → (t.pll 2).locked = true) ∧
      ∀ q, s.power.pllFail.get q = false → locks.getLsbD 2 = true → t.power.pllFail.get q = !locks.getLsbD q.num) ∧
    at_ 4 (fun t => (∃ wake, t.power.phase = .stages 4 wake) ∧
      ∀ q, s.power.pllFail.get q = false → (locks.getLsbD q.num = true → t.fld q Fd.clkStatusCurN = 160 ∧ t.power.pllFail.get q = false) ∧
        (locks.getLsbD q.num = false → t.power.pllFail.get q = true)) ∧
    at_ 5 (fun t => (∃ wake, t.power.phase = .stages 5 wake) ∧ ((s.pll 2).locked = true → t.saddle.clock = true ∧ t.tick0 = s.tick)) ∧
    at_ 6 (fun t => t.power.phase = .running ∧
      ∀ q, s.power.pllFail.get q = false → s.vaux q = true → (t.peak q).up = true ∧ t.power.boot.get q = .r0)

/-- R40 to R48: loss and return of lock and reference, and the commanded frequency change, which moves N by one per relock within 128 to 160. -/
def Obligations.ClocksAndReference : Prop :=
  ∀ (m : Master) (i : PllId) (val : Word) (p : PeakId) (s : State),
    let n := pllNum i
    let q := s.pll n
    (q.locked = true → q.coast = false → Completes (.pllLossOfLock i) s (fun t => t.pll n = { q with coast := true, lol := true, subst := false } ∧
      (∀ j, j ≠ n → t.pll j = s.pll j) ∧ (∀ r : PeakId, 2 ≤ n ∨ n = r.num → t.bit r Fd.clkFlagsLol = true) ∧ t.mem = s.mem)) ∧
    (s.power.missing = false → s.power.phase = .running → Completes .referenceMissing s (fun t => t.power.missing = true ∧
      (∀ r, t.bit r Fd.clkFlagsRefLoss = true ∧ t.bit r Fd.clkStatusRefLost = true) ∧
      ((s.pll 2).locked = true → (t.pll 2).coast = true) ∧ t.mem = s.mem)) ∧
    (s.power.phase = .running → Completes .referenceReturn s (fun t => t.power.missing = false ∧ t.power.xin = true ∧
      ((s.pll 2).coast = true → (t.pll 2).returning = true) ∧
      ((s.pll 2).coast = false → ∀ j < 6, (s.pll j).coast = true → (t.pll j).returning = true) ∧ t.mem = s.mem)) ∧
    (q.returning = true → Completes (.pllRelock i) s (fun t => (t.pll n).locked = true ∧ (t.pll n).coast = false ∧ (t.pll n).subst = false ∧ t.mem = s.mem) ∧
      Completes (.relockDeadline i) s (fun t => t.pll n = { q with returning := false } ∧ (∀ j, j ≠ n → t.pll j = s.pll j) ∧ t.mem = s.mem)) ∧
    ((s.peak m.peak).up = true →
      let v := val.toNat % 256
      let cur := s.fld m.peak Fd.clkStatusCurN
      v ≠ s.fld m.peak Fd.clkCtrlTargetN →
      (v < 128 ∨ 160 < v ∨ (s.loaded m.peak).any isSummit = true → Completes (.clkTargetWrite m val) s (fun t => t = s.raise m.peak Fd.clkFlagsStepRefused)) ∧
      (128 ≤ v → v ≤ 160 → (s.loaded m.peak).any isSummit = false → Completes (.clkTargetWrite m val) s (fun t =>
        t.fld m.peak Fd.clkCtrlTargetN = v ∧
        (s.bit m.peak Fd.clkStatusStepping = false → cur ≠ v → t.bit m.peak Fd.clkStatusStepping = true ∧
          t.fld m.peak Fd.clkStatusCurN = if cur < v then cur + 1 else cur - 1) ∧
        { t with regs := s.regs } = s))) ∧
    (s.bit p Fd.clkStatusStepping = true →
      let cur := s.fld p Fd.clkStatusCurN
      let target := s.fld p Fd.clkCtrlTargetN
      Completes (.pllStepRelock p) s (fun t => t.bit p Fd.clkStatusStepping = decide (cur ≠ target) ∧
        t.fld p Fd.clkStatusCurN = (if cur = target then cur else if cur < target then cur + 1 else cur - 1) ∧ { t with regs := s.regs } = s))

/-- R38, R49, R50, R51, R52: Bivouac. Entry is refused with the code of the first check that fails, else the configuration for the wake is kept and
the Gendarme takes the baton; when it is complete the Peaks, the Saddle and the Cirque have lost their state. A wake source that is enabled is
latched and begins the stages. A crossing into a stopped island reads 0 and is recorded once; toward one that runs nothing times out. -/
def Obligations.BivouacAndCrossings : Prop :=
  ∀ (m : Master) (val : Word) (sin : BitVec 8) (dest : Fin 6) (addr : Word) (write : Bool) (s : State),
    ((s.peak m.peak).up = true → s.running = true → val.toNat % 2 = 1 →
      let c := bivouacCheck m.peak val.toNat s
      (c ≠ 0 → Completes (.bivouacEnter m val) s (fun t => t.fld m.peak Fd.clkBivStatusRefuse = c ∧ t.bit m.peak Fd.clkFlagsBivRefused = true ∧
        { t with regs := s.regs } = s)) ∧
      (c = 0 → Completes (.bivouacEnter m val) s (fun t => t.power.phase = .entering ∧ t.power.wakeCfg = s.reg m.peak Reg.clkWakeCfg ∧
        t.power.wakeTime = s.reg m.peak Reg.clkWakeTime ∧ t.power.keep = (List.range 4).map (fun n => s.regW (regKey m.peak (Reg.clkKeep n))) ∧
        t.power.wakeSrc = 0 ∧ t.power.pwrgd = false ∧ t.saddle.flight = none ∧ t.holder = 3))) ∧
    (s.power.phase = .entering → s.power.wakeSrc = 0 → Completes .bivouacEntryComplete s (fun t => t.power.phase = .bivouac ∧
      (∀ p, (t.peak p).up = false ∧ t.role p = 3) ∧ t.saf.img = [] ∧ t.saddle.clock = false ∧ t.saddle.pairs = [] ∧ t.cirq.running = false)) ∧
    (s.power.phase = .bivouac → s.refGone = false → s.power.wakeSrc = 0 →
      (bits s.power.wakeCfg 0 0 = 1 → Completes (.wakeEvent true 0) s (fun t => t.power.wakeSrc = 1 ∧ t.power.phase = .stages 0 true)) ∧
      (sin.toNat &&& bits s.power.wakeCfg 10 3 ≠ 0 → Completes (.wakeEvent false sin) s (fun t => t.power.wakeSrc = 2 ∧ t.power.phase = .stages 0 true)) ∧
      (bits s.power.wakeCfg 2 2 = 1 → s.cairn.sec % 2 ^ 32 = s.power.wakeTime →
        Completes .wakeAlarm s (fun t => t.power.wakeSrc = 4 ∧ t.power.phase = .stages 0 true))) ∧
    ((s.peak m.peak).up = true → destDown m.peak dest.val s = true → Completes (.crossingTimeout m dest addr write) s (fun t => t.bit m.peak Fd.clkFlagsXto = true ∧
      t.readData = (if write then s.readData else 0) ∧
      (s.bit m.peak Fd.clkFlagsXto = false → t.fld m.peak Fd.clkXtoDest = dest.val ∧ t.bit m.peak Fd.clkXtoWrite = write ∧
        t.reg m.peak Reg.clkXtoAddr = addr.toNat) ∧
      (s.bit m.peak Fd.clkFlagsXto = true → t.regs = s.regs) ∧ { t with regs := s.regs, readData := s.readData } = s)) ∧
    (destDown m.peak dest.val s = false → Completes (.crossingTimeout m dest addr write) s (fun t => t = s))

/-- R68, R69, R70, R72, R80, R441: the memory phase clears a Peak's memories and starts its fetch; a fetched image is held for the verdicts; a slot
that both Peaks accept becomes ready in both, a rejected slot 0 leads to slot 1; where one Peak accepted a slot, that Peak alone runs it; where none
did, the safe state follows, or the Col port is waited for. A word of a Col image is appended. -/
def Obligations.BootImages : Prop :=
  ∀ (p : PeakId) (slot : Fin 2) (img : List Byte) (val : Word) (s : State),
    let at_ := fun (n : Nat) => s.power.boot.a = .fetch n ∧ s.power.boot.b = .fetch n
    let have_ := fun (n : Nat) => (if n = 0 then s.power.slot0 else s.power.slot1) = some img
    (s.power.boot.get p = .r0 → Completes .memoryPhaseComplete s (fun t =>
      t.power.boot.get p = .fetch ((joinSlot s p).getD 0) ∧
      (∀ c a, a < 0x20000 → t.byte (tcmKey ⟨p, c⟩ a) = 0) ∧ (∀ a < 2 ^ 32, t.byte (peakKey p a) = 0) ∧ ∀ a, t.byte (storeKey a) = s.byte (storeKey a))) ∧
    (s.power.boot.get p = .fetch slot.val → (if slot.val = 0 then s.power.slot0 else s.power.slot1) = none → Completes (.slotFetchComplete slot img) s (fun t =>
      (if slot.val = 0 then t.power.slot0 else t.power.slot1) = some img ∧ t.power.boot = s.power.boot ∧ { t with power := s.power } = s)) ∧
    (at_ slot.val → have_ slot.val → slotCheck s img false = 0 → Completes (.bootVerdictCompare false false) s (fun t => ∀ q,
      t.power.boot.get q = .ready slot.val ∧ t.fld q Fd.bootStatusSlot = slot.val ∧ t.fld q Fd.bootStatusSvn = imgWord img 8 % 128 ∧
      t.power.imageHash.get q = Config.sha256 (imgWhole img) ∧ t.peak q = s.peak q)) ∧
    (at_ 0 → have_ 0 → slotCheck s img false ≠ 0 → Completes (.bootVerdictCompare false false) s (fun t => ∀ q,
      t.power.boot.get q = .fetch 1 ∧ t.fld q Fd.bootStatusErr0 = slotCheck s img false ∧ t.peak q = s.peak q)) ∧
    (at_ 1 → have_ 1 → slotCheck s img false ≠ 0 → (∀ q, s.fld q Fd.bootStatusErr0 ≠ 0) → s.safe = false →
      ((∀ q, s.fld q Fd.bootStatusErr0 = 1) → slotCheck s img false = 1 → s.fld .a Fd.lcsStateState ≤ 1 →
        Completes (.bootVerdictCompare false false) s (fun t => (∀ q, t.power.boot.get q = .fetch 2) ∧ t.gwFld Fd.colGwStatusBoot = 1 ∧ t.safe = false)) ∧
      (2 ≤ s.fld .a Fd.lcsStateState ∨ slotCheck s img false ≠ 1 → Completes (.bootVerdictCompare false false) s (fun t =>
        t.safe = true ∧ ∀ q, (t.peak q).up = false ∧ t.role q = 3))) ∧
    (at_ 1 → have_ 1 → slotCheck s img false = 0 → slotCheck s img true ≠ 0 → s.fld p Fd.bootStatusErr0 ≠ 0 → (p = .b → s.fld .a Fd.bootStatusErr0 ≠ 0) →
      Completes (.bootVerdictCompare (p == .b) (p == .a)) s (fun t =>
        t.power.boot.get p = .ready 1 ∧ t.fld p Fd.bootStatusErr1 = 8 ∧ (t.peak p.other).up = false ∧ t.peak p = s.peak p)) ∧
    (kernelRuns s = true → s.fld .a Fd.lcsStateState ≠ 3 → s.gwFld Fd.colGwStatusBoot = 1 ∨ s.gwFld Fd.colGwStatusBoot = 2 →
      Completes (.bootDataWord val) s (fun t => t.power.colBytes = (wordBytes val.toNat).reverse ++ s.power.colBytes ∧
        t.regW (gwKey Reg.colGwBootCount) = BitVec.ofNat 32 ((s.power.colBytes.length + 4) % 2 ^ 23) ∧ t.mem = s.mem))

/-- R71, R80, R81, R82, R83, R86: the power-on results merge, words 0 to 2 as the AND of both Peaks; a failed device-safe unit means the safe state.
Handover starts the boot run on each core of START_MASK with its code and data in place. A test on demand is refused with its reason or runs; passed
units show DONE, and a failed unit that holds its Peak takes it down. -/
def Obligations.SelfTestAndHandover : Prop :=
  ∀ (a b : BitVec 96) (shared : BitVec 160) (p : PeakId) (m : Master) (val pass : Word) (s : State),
    let seg := fun (w : Nat) => bits shared.toNat (32 * (w - 3) + 31) (32 * (w - 3))
    ((∀ q, (s.peak q).up = true ∧ s.bit q Fd.bstStatusPostDone = false) → s.power.merged = false → s.safe = false →
      (bits a.toNat 31 0 &&& holdMask = holdMask → bits b.toNat 31 0 &&& holdMask = holdMask → seg 5 &&& 0x78000000 = 0x78000000 → seg 7 &&& 3 = 3 →
        Completes (.selfTestComplete a b shared) s (fun t => t.saf.unitsOk = true ∧ t.power.merged = true ∧ ∀ q,
          t.bit q Fd.bstStatusPostDone = true ∧ t.bit q Fd.bstStatusMerged = true ∧ t.bit q Fd.bstStatusBusy = false ∧
          ∀ w < 3, t.reg q (Reg.bstPass w) = (bits a.toNat (32 * w + 31) (32 * w) &&& bits b.toNat (32 * w + 31) (32 * w)) &&& unitMask w ∧
            t.reg q (Reg.bstDone w) = unitMask w ∧
            t.reg q (Reg.bstLocal w) = bits (if q = .a then a else b).toNat (32 * w + 31) (32 * w) &&& unitMask w)) ∧
      (shared.getLsbD 128 = false → Completes (.selfTestComplete a b shared) s (fun t => t.safe = true ∧ ∀ q, (t.peak q).up = false ∧ t.role q = 3))) ∧
    (∀ slot img, s.power.boot.get p = .ready slot → s.bit p Fd.bstStatusPostDone = true → slotImage s slot = some img → headerOk img = true → s.running = true →
      Completes (.handover p) s (fun t => t.power.boot.get p = .done ∧ t.fld p Fd.bootHandoverTimeUs = (s.tick - (s.peak p).releasedAt) / 400 % 2 ^ 16 ∧
        t.bit p Fd.bootStatusAlone = !(s.peak p.other).up ∧
        (∀ c : Fin 8, bits (imgWord img 0x14) c.val c.val = 1 → s.retired p 0 c.val = false → (t.core ⟨p, c⟩).pc = 0 ∧
          t.fld p (Fd.sysCoreStatusState c.val) = 1 ∧ t.fld p (Fd.sysCoreStatusTask c.val) = 0xFF) ∧
        ∀ e ∈ imgEntries img, ∀ i < e.2.2.1,
          (0x20000 ≤ e.2.1 → (t.byte (peakKey p (e.2.1 + i))).toNat = imgByte img (1024 + e.1 + i)) ∧
          (e.2.1 < 0x20000 → ∀ c : Fin 8, bits e.2.2.2 c.val c.val = 1 → s.retired p 0 c.val = false →
            (t.byte (tcmKey ⟨p, c⟩ (e.2.1 + i))).toNat = imgByte img (1024 + e.1 + i)))) ∧
    ((s.peak m.peak).up = true → val.toNat % 2 = 1 →
      let w := bits val.toNat 10 8
      let s1 := s.setFld m.peak Fd.bstCtrlWord w
      let mask := s.reg m.peak Reg.bstMask &&& testable s w
      let c := bistRefusal m w mask s1
      (c ≠ 0 → Completes (.bistStart m val) s (fun t => t = s1.setFld m.peak Fd.bstStatusRefuse c)) ∧
      (c = 0 → Completes (.bistStart m val) s (fun t => t.power.bist.get m.peak = some (w, mask) ∧ t.bit m.peak Fd.bstStatusBusy = true ∧
        t.bit m.peak Fd.bstCtrlStart = true ∧ t.power.bist.get m.peak.other = s.power.bist.get m.peak.other ∧ { t with regs := s.regs, power := s.power } = s))) ∧
    (∀ w mask, (s.peak p).up = true → s.power.bist.get p = some (w, mask) → w < 8 → mask < 2 ^ 32 →
      (mask &&& pass.toNat = mask → (w = 5 → safeUnitsFail s p = false) → Completes (.bistRunComplete p pass) s (fun t =>
        t.power.bist.get p = none ∧ t.bit p Fd.bstStatusBusy = false ∧ t.bit p Fd.bstCtrlStart = false ∧
        t.reg p (Reg.bstDone w) = s.reg p (Reg.bstDone w) ||| mask ∧ (t.peak p).up = true)) ∧
      (w = 0 → mask &&& holdMask &&& pass.toNat ≠ mask &&& holdMask → s.role p ≠ 0 → Completes (.bistRunComplete p pass) s (fun t => (t.peak p).up = false)))

/-- R75, R76, R77: the lifecycle operations. A request is refused with the code of the first condition that fails (assumption 70 says in which
order) or begins; an advance to RETIRED clears the parameter store first. A verified operation shows in the fuses, a failed one ends with code 5.
After a verified advance the device is reset with cause LIFECYCLE. -/
def Obligations.LifecycleOperations : Prop :=
  ∀ (key : BitVec 16) (arg : BitVec 7) (v12 : Bool) (blown : Fin 9) (ok : Bool) (s : State),
    let st := s.fld .a Fd.lcsStateState
    let stat := s.reg .a Reg.lcsKeystat
    let programmed := fun (k : Nat) => stat.testBit k
    let live := fun (k : Nat) => stat.testBit k && !stat.testBit (8 + k)
    let n := arg.toNat
    let code := fun (allowed : Prop) [Decidable allowed] (further : Nat) =>
      if key ≠ 0x1C5A then 1 else if ¬allowed then 2 else if outputsIdle s = false then 3 else if v12 = false then 4
      else if s.bit .a Fd.lcsProgStatusBusy = true then 0xA else further
    let request := fun (i : Instr) (op c : Nat) =>
      (c ≠ 0 → Completes i s (fun t => t = s.setFld .a Fd.lcsProgStatusResult c)) ∧
      (c = 0 → Completes i s (fun t => t.power = { s.power with lcs := some ⟨op, n⟩ } ∧ t.fld .a Fd.lcsProgStatusResult = 0 ∧
        t.bit .a Fd.lcsProgStatusBusy = true ∧ RegFrame (onlyRegs [(Reg.lcsProgStatus, 0x1F)]) s t ∧
        { t with regs := s.regs, power := s.power, mem := s.mem } = s ∧
        (op ≠ 1 ∨ n ≠ 3 → t.mem = s.mem) ∧ (op = 1 → n = 3 → s.power.lcs = none → ∀ i, i < 0x80000 → t.byte (storeKey i) = 0)))
    (kernelRuns s = true →
      request (.lcsAdvanceState key arg v12) 1 (code (st ≤ 2 ∧ (n = 3 ∨ n = st + 1))
        (if n = 1 ∧ stat % 16 = 0 then 8 else if n = 2 ∧ s.bit .a Fd.safStatusCfgValid = false then 9 else 0)) ∧
      request (.lcsProgramKeySlot key arg v12) 2 (code (st ≤ 1 ∧ n ≤ 3) (if programmed n || stat.testBit (4 + n) then 7 else 0)) ∧
      request (.lcsRevokeKeySlot key arg v12) 3 (code ((st = 1 ∨ st = 2) ∧ n ≤ 3) (if (List.range 4).filter live = [n] then 6 else 0)) ∧
      request (.lcsRaiseSvn key arg v12) 4 (code ((st = 1 ∨ st = 2) ∧ n ≤ 64) (if n < s.fld .a Fd.lcsSvnCount then 2 else 0))) ∧
    (∀ op, s.power.lcs = some op →
      let good := ok && (decide (op.op ≠ 1) || decide (5 ≤ blown.val))
      let f := s.power.fuses
      Completes (.lifecycleOpComplete blown ok) s (fun t => t.power.lcs = none ∧ t.bit .a Fd.lcsProgStatusBusy = false ∧
        t.fld .a Fd.lcsProgStatusResult = (if good then 0 else 5) ∧ t.fld .a Fd.lcsKeystatProgrammed = t.power.fuses.programmed.toNat ∧
        t.fld .a Fd.lcsKeystatDamaged = t.power.fuses.damaged.toNat ∧ t.fld .a Fd.lcsKeystatRevoked = t.power.fuses.revoked.toNat ∧
        (op.op = 1 → t.power.lcsReset = good ∧ t.power.fuses.svn = f.svn ∧ t.power.fuses.programmed = f.programmed) ∧
        (op.op = 2 → t.power.fuses.svn = f.svn ∧ ∀ k < 4, t.power.fuses.programmed.getLsbD k = (f.programmed.getLsbD k || (good && decide (k = op.arg))) ∧
          t.power.fuses.damaged.getLsbD k = (f.damaged.getLsbD k || (!good && decide (k = op.arg)))) ∧
        (op.op = 3 → t.power.fuses.programmed = f.programmed ∧ ∀ k < 4, t.power.fuses.revoked.getLsbD k = (f.revoked.getLsbD k || (good && decide (k = op.arg)))) ∧
        (op.op = 4 → f.svn ≤ op.arg → f.svn ≤ t.power.fuses.svn ∧ t.power.fuses.svn ≤ op.arg ∧ (good = true → t.power.fuses.svn = op.arg)))) ∧
    (s.power.lcsReset = true → Completes .lifecycleReset s (fun t => t.power.cause.testBit 4 = true ∧ t.power.fuses = s.power.fuses ∧ t.regs = [] ∧
      t.cores = [] ∧ (∀ q, (t.peak q).up = false) ∧ t.power.phase = (if s.power.vauxG && !s.power.resetLow then .cold 0 else .off)))

/-- R11, R12, R167, R270, R272, R273, R288, R336: at a wrap the timebase takes its new PRD, every compare of the timebase latches clamped to its
period, the wrap's event fires and the period timebase counts a period; a wrap that a STOP asked for stops it and latches no compare. START starts
every named timebase that stands and may start, from count 0; STOP marks those that run. At a Cairn second edge a tracked timebase records its error
and plans its corrections. -/
def Obligations.Timebases : Prop :=
  ∀ (tb : Fin 8) (m : Master) (mask : BitVec 8) (s : State), s.saddle.clock = true →
    let n := tb.val
    let started := fun (k : Nat) (t : State) => t.tbRuns k = true ∧ t.tbCount k = 0 ∧ t.wrapOf k = s.tick ∧ (t.tb k).prd = s.fld .a (Fd.pwmTbPrdPrd k) ∧
      (t.tb k).stopping = false ∧ t.bit .a (Fd.pwmTbStatusArmed k) = false
    let latched := fun (t : State) => ∀ c < 32, chanTb s c = n → t.regI .a (Reg.pwmAct c) =
      max 0 (min (s.regI .a (Reg.pwmCmp c)) ((s.fld .a (Fd.pwmTbPrdPrd n) + 1 : Nat) * (if s.bit .a (Fd.pwmChCfgFrac c) then 64 else 1)))
    let fired := fun (t : State) => n ≠ s.periodTb → ∀ p, Fired p n s t
    (s.tbRuns n = true → (s.tb n).stopping = false → Completes (.timebaseWrap tb) s (fun t => t.wrapOf n = s.tick ∧
      (t.tb n).prd = s.fld .a (Fd.pwmTbPrdPrd n) ∧ t.tbRuns n = true ∧ latched t ∧ fired t ∧ ((s.tb n).plan = 0 → t.tbCount n = 0) ∧
      t.periodCount = (if n = s.periodTb then (s.periodCount + 1) % 2 ^ 48 else s.periodCount) ∧ t.mem = s.mem)) ∧
    (s.tbRuns n = true → (s.tb n).stopping = true → Completes (.timebaseWrap tb) s (fun t => t.tbRuns n = false ∧ t.tbCount n = 0 ∧
      (∀ c < 32, t.reg .a (Reg.pwmAct c) = s.reg .a (Reg.pwmAct c)) ∧ fired t ∧ t.periodCount = s.periodCount ∧ t.mem = s.mem)) ∧
    (s.bit .a (Fd.pwmTbStatusArmed n) = true → Completes (.alignedStart tb) s (fun t => started n t ∧ latched t ∧ fired t ∧
      (n = s.periodTb → t.periodCount = 0) ∧ t.mem = s.mem)) ∧
    (s.holds m.peak = true → Completes (.timebaseStart m mask) s (fun t => t.mem = s.mem ∧ ∀ k < 8,
      let named := mask.getLsbD k = true ∧ s.tbRuns k = false
      let may := s.bit .a (Fd.pwmTbStatusRetired k) = false ∧ periodRange s k (s.fld .a (Fd.pwmTbPrdPrd k)) = true
      (named → may → s.bit .a (Fd.pwmTbAlignStartAt k) = false → started k t) ∧
      (named → may → s.bit .a (Fd.pwmTbAlignStartAt k) = true → t.tbRuns k = false ∧ t.bit .a (Fd.pwmTbStatusArmed k) = !alignLate s k ∧
        (alignLate s k = true → t.bit .a Fd.pwmFlagsAlignLate = true)) ∧
      (named → s.bit .a (Fd.pwmTbStatusRetired k) = true → t.tbRuns k = false ∧ t.bit .a Fd.pwmFlagsStartRefused = true) ∧
      (named → s.bit .a (Fd.pwmTbStatusRetired k) = false → periodRange s k (s.fld .a (Fd.pwmTbPrdPrd k)) = false →
        t.tbRuns k = false ∧ t.bit .a Fd.pwmFlagsPrdRange = true) ∧
      (¬named → t.tbRuns k = s.tbRuns k ∧ t.tbCount k = s.tbCount k ∧ t.tb k = s.tb k))) ∧
    (s.holds m.peak = true → Completes (.timebaseStop m mask) s (fun t =>
      (∀ k < 8, t.tb k = { s.tb k with stopping := (s.tb k).stopping || (mask.getLsbD k && s.tbRuns k) }) ∧ t.regs = s.regs ∧ t.tasks = s.tasks ∧
      t.cores = s.cores ∧ t.mem = s.mem)) ∧
    (s.cairn.running = true → s.cairnRetired = false → Completes .cairnSecondEdge s (fun t => t.cairn.sec = (s.cairn.sec + 1) % 2 ^ 48 ∧
      t.cairn.ns = (if 10 ^ 9 ≤ s.cairn.ns then s.cairn.ns - 10 ^ 9 else 0) ∧ (∀ p, Fired p 91 s t) ∧
      (s.tbRuns n = true → s.bit .a (Fd.pwmTbAlignTrack n) = true → (wrapOffset s n).natAbs < 2 ^ 31 →
        t.regW (regKey .a (Reg.pwmTbCairnErr n)) = BitVec.ofInt 32 (wrapOffset s n) ∧ (t.tb n).plan = rneDiv (wrapOffset s n) (corrQ s n) ∧
        t.bit .a (Fd.pwmTbStatusLocked n) = decide (2 * (wrapOffset s n).natAbs ≤ corrQ s n)) ∧ t.mem = s.mem))

/-- R396 to R401, R403: the writes and reads of Cairn's registers, ARM and STEP with their refusals, the lease, and a map point. -/
def Obligations.CairnTime : Prop :=
  ∀ (m : Master) (val : Word) (s : State),
    let c := s.cairn
    let refused := fun (i : Instr) (code : Nat) => Completes i s (fun t => t.fld .a Fd.crnStatusRefuse = code ∧ t.bit .a Fd.crnFlagsCmdRefused = true ∧
      RegFrame (onlyRegs [(Reg.crnStatus, 0xFFFFFFFF), (Reg.crnFlags, 0xFFFFFFFF)]) s t ∧ { t with regs := s.regs } = s)
    let valid := fun (t : State) (lease : Nat) (stepped : Bool) => t.cairn.lease = lease ∧ t.bit .a Fd.crnStatusStepped = stepped ∧
      t.bit .a Fd.crnStatusValid = (stepped && decide (lease ≠ 0) && !s.cairnRetired) ∧ (∀ p, t.bit .a Fd.crnStatusValid ≠ s.bit .a Fd.crnStatusValid → Fired p 92 s t)
    let point := fun (t : State) => t.cairn.points.head? = some ⟨s.tick, t.cairn.value, t.rate⟩
    (s.holds m.peak = true →
      Completes (.rateLoWrite m val) s (fun t => t = { s with cairn := { c with rateHeld := some val.toNat } }) ∧
      (∀ lo, lo < 2 ^ 32 → c.rateHeld.getD (s.reg .a Reg.crnRateLo) = lo →
        let r := signed 40 (val.toNat % 256 * 2 ^ 32 + lo)
        (r.natAbs ≤ 140737488355 → Completes (.rateCommit m val) s (fun t => t.rate = r ∧ point t ∧ t.cairn.rateHeld = none ∧ t.cairn.value = c.value ∧
          RegFrame (onlyRegs [(Reg.crnRateLo, 0xFFFFFFFF), (Reg.crnRateHi, 0xFFFFFFFF)]) s t ∧ { t with regs := s.regs, cairn := c } = s)) ∧
        (140737488355 < r.natAbs → Completes (.rateCommit m val) s (fun t => t.rate = s.rate ∧ t.bit .a Fd.crnFlagsRange = true ∧
          t.cairn = { c with rateHeld := none } ∧ { t with regs := s.regs, cairn := c } = s))) ∧
      (s.cairnRetired = false → s.tbLocked = false → Completes (.cairnArm m) s (fun t => t.bit .a Fd.crnStatusArmed = true ∧ valid t 0 false ∧
        t.cairn = { c with lease := 0 } ∧ t.mem = s.mem)) ∧
      (s.cairnRetired = true → refused (.cairnArm m) 4 ∧ refused (.cairnStep m) 4) ∧
      (s.cairnRetired = false → s.tbLocked = true → refused (.cairnArm m) 2 ∧ refused (.cairnStep m) 2) ∧
      (s.cairnRetired = false → s.tbLocked = false → s.bit .a Fd.crnStatusArmed = false → refused (.cairnStep m) 1) ∧
      (s.cairnRetired = false → s.tbLocked = false → s.bit .a Fd.crnStatusArmed = true →
        let stepNs := s.regI .a Reg.crnStepNs
        let stepS := signed 48 (s.reg .a Reg.crnStepSHi % 2 ^ 16 * 2 ^ 32 + s.reg .a Reg.crnStepSLo)
        (999999999 < stepNs.natAbs → refused (.cairnStep m) 3) ∧
        (stepNs.natAbs ≤ 999999999 → Completes (.cairnStep m) s (fun t => t.bit .a Fd.crnStatusArmed = false ∧ valid t c.lease true ∧ point t ∧
          t.cairn.frac = c.frac ∧ t.cairn.ns < 10 ^ 9 ∧
          ((t.cairn.sec * 10 ^ 9 + t.cairn.ns : Nat) : Int) = (((c.sec * 10 ^ 9 + c.ns : Nat) : Int) + stepS * 10 ^ 9 + stepNs) % ((2 ^ 48 * 10 ^ 9 : Nat) : Int) ∧
          t.mem = s.mem))) ∧
      Completes (.leaseWrite m val) s (fun t => valid t (val.toNat % 256 * 125000000) (s.bit .a Fd.crnStatusStepped) ∧
        t.cairn = { c with lease := val.toNat % 256 * 125000000 } ∧ RegFrame (eventsAnd [(Reg.crnSync, 0xFFFFFFFF), (Reg.crnStatus, 0xFFFFFFFF)]) s t ∧ t.mem = s.mem)) ∧
    (c.lease ≠ 0 → Completes .leaseExpiry s (fun t => valid t 0 (s.bit .a Fd.crnStatusStepped) ∧ t.cairn = { c with lease := 0 } ∧
      (s.bit .a Fd.crnStatusStepped = true → t.bit .a Fd.crnFlagsLeaseEnd = true) ∧
      RegFrame (eventsAnd [(Reg.crnFlags, 0xFFFFFFFF), (Reg.crnStatus, 0xFFFFFFFF)]) s t ∧ t.mem = s.mem)) ∧
    (c.running = true → Completes .mapPoint s (fun t => point t ∧ t.cairn.value = c.value ∧ { t with cairn := c } = s)) ∧
    ((s.peak m.peak).up = true → Completes (.nowRead m) s (fun t =>
      t.readData = BitVec.ofNat 32 (if s.cairnRetired then 0 else c.ns % 10 ^ 9) ∧ t.nowLatch m = (if s.cairnRetired then (0, 0) else (c.sec, c.frac / 2 ^ 32)) ∧
      (∀ m', m' ≠ m → t.nowLatch m' = s.nowLatch m') ∧ t.cairn.value = c.value ∧ { t with cairn := c, readData := s.readData } = s))

/-- R422 to R427: a measurement gives the sensor its reading and threshold states, or a fault with the states of FAULT_ACT; a change fires EV_THM in
both Peaks. The throttle falls to FLOOR and recovers to 32 by one, and a FLOOR above SCALE raises it. -/
def Obligations.ThermalSupervision : Prop :=
  ∀ (n : Fin 12) (reading : BitVec 16) (bad : Bool) (m : Master) (val : Word) (s : State), s.saddle.clock = true →
    let states := fun (t : State) => [t.bit .a (Fd.thmSensTempWarn n.val), t.bit .a (Fd.thmSensTempThr n.val), t.bit .a (Fd.thmSensTempShut n.val)]
    let faulted := fun (t : State) => t.bit .a (Fd.thmSensTempFault n.val)
    let next := (sensorLimits s n.val).zipWith (fun l was => exceeded l (reading16 reading.toNat) was) (states s)
    let told := fun (t : State) => states t ≠ states s ∨ faulted t ≠ faulted s → ∀ p, Fired p 97 s t
    let valid := fun (t : State) => t.fld .a (Fd.thmSensTempReading n.val) = reading.toNat ∧ t.bit .a (Fd.thmSensTempValid n.val) = true ∧ faulted t = false ∧ states t = next
    (sensorOn s n.val = true →
      (measureBad s n.val reading.toNat bad = true → Completes (.thermalMeasurement n reading bad) s (fun t =>
        t.fld .a (Fd.thmSensTempReading n.val) = 0x8000 ∧ t.bit .a (Fd.thmSensTempValid n.val) = false ∧ faulted t = true ∧
        states t = faultStates s n.val ∧ told t ∧ t.mem = s.mem)) ∧
      (measureBad s n.val reading.toNat bad = false → faulted s = false → Completes (.thermalMeasurement n reading bad) s (fun t =>
        valid t ∧ told t ∧ t.mem = s.mem)) ∧
      (measureBad s n.val reading.toNat bad = false → faulted s = true →
        (Tab.get (fun _ => 0) s.saddle.goodRuns n.val < 2 → Completes (.thermalMeasurement n reading bad) s (fun t =>
          faulted t = true ∧ states t = states s ∧ Tab.get (fun _ => 0) t.saddle.goodRuns n.val = Tab.get (fun _ => 0) s.saddle.goodRuns n.val + 1 ∧
          t.mem = s.mem)) ∧
        (Tab.get (fun _ => 0) s.saddle.goodRuns n.val = 2 → Completes (.thermalMeasurement n reading bad) s (fun t => valid t ∧ told t ∧ t.mem = s.mem)))) ∧
    (let scale := s.fld .a Fd.thmStatusScale
      let floor := s.fld .a Fd.thmCtrlFloor
      (s.bit .a Fd.thmStatusThrAny = true → Completes .throttleStep s (fun t => t.fld .a Fd.thmStatusScale = (if floor < scale then scale - 1 else scale) ∧
        t.bit .a Fd.thmStatusAtFloor = decide (t.fld .a Fd.thmStatusScale ≤ floor) ∧
        (t.bit .a Fd.thmStatusAtFloor = true → s.bit .a Fd.thmStatusAtFloor = false → ∀ p, t.bit p Fd.thmFlagsFloor = true) ∧
        RegFrame (onlyRegs [(Reg.thmStatus, 0xFFFFFFFF), (Reg.thmSteps, 0xFFFFFFFF), (Reg.thmFlags, 0xFFFFFFFF)]) s t ∧ { t with regs := s.regs } = s)) ∧
      (s.bit .a Fd.thmStatusRecovering = true → Completes .throttleRecoverStep s (fun t => t.fld .a Fd.thmStatusScale = min (scale + 1) 32 ∧
        t.bit .a Fd.thmStatusRecovering = decide (scale + 1 < 32) ∧ RegFrame (onlyRegs [(Reg.thmStatus, 0xFFFFFFFF)]) s t ∧ { t with regs := s.regs } = s)) ∧
      (s.holds m.peak = true →
        let want := val.toNat % 64
        let rn := bits val.toNat 15 8
        (32 < want ∨ rn = 0 → Completes (.floorWrite m val) s (fun t => t = s.raise m.peak Fd.thmFlagsRange)) ∧
        (want ≤ 32 → rn ≠ 0 → Completes (.floorWrite m val) s (fun t => t.fld .a Fd.thmCtrlFloor = want ∧ t.fld .a Fd.thmStatusScale = max scale want ∧
          RegFrame (onlyRegs [(Reg.thmStatus, 0xFFFFFFFF), (Reg.thmCtrl, 0xFFFFFFFF), (Reg.thmFlags, 0xFFFFFFFF)]) s t ∧ { t with regs := s.regs } = s))))

/-- R319 to R324: the counting of each mode, the illegal sample, the index, the window and period estimates of speed and their bound, the
standstill, POS_SET and the freeze of an edge's record. -/
def Obligations.PositionChannels : Prop :=
  ∀ (k : Fin 2) (a b z : Bool) (m : Master) (val : Word) (s : State), s.saddle.clock = true →
    let q := s.pif k.val
    let mode := s.fld .a (Fd.pifChCfgMode k.val)
    let pos := s.regW (regKey .a (Reg.pifChPos k.val))
    let posOf := fun (t : State) => t.regW (regKey .a (Reg.pifChPos k.val))
    let speed := fun (t : State) => t.regW (regKey .a (Reg.pifChSpeed k.val))
    let flag := fun (t : State) (f : Nat → Fld) => t.bit .a (f k.val)
    let win := max 1 (s.reg .a (Reg.pifChWin k.val) % 2 ^ 24)
    let line := fun (P : State → Prop) => Completes (.pifLineChange k a b z) s (fun t => (t.pif k.val).a = a ∧ (t.pif k.val).b = b ∧ (t.pif k.val).z = z ∧
      RegFrame (fun r => eventMask r ||| (if Reg.pifChCfg k.val < r ∧ r < Reg.pifChCfg k.val + 0x80 then 0xFFFFFFFF else 0)) s t ∧ t.mem = s.mem ∧ P t)
    let counts := fun (up : Bool) (t : State) => posOf t = (if up then pos + 1 else pos - 1) ∧ flag t Fd.pifChStatusDir = !up ∧ flag t Fd.pifChStatusStale = false ∧
      (pos = (if up then 0xFFFFFFFF else 0) → flag t Fd.pifChFlagsWrap = true ∧ ∀ p, Fired p (84 + k.val) s t) ∧
      t.regW (regKey .a (Reg.pifChEdgePos k.val)) = posOf t ∧ (t.pif k.val).last = some s.tick ∧
      (flag s Fd.pifChStatusMethod = false → ∀ t0, q.last = some t0 → flag s Fd.pifChStatusDir = !up →
        speed t = periodSpeed up (s.tick - t0) ∧ flag t Fd.pifChStatusValid = true)
    let upA := a = true ∧ q.a = false
    let upB := b = true ∧ q.b = false
    (mode = 0 → line (fun t => t.regs = s.regs)) ∧
    (mode = 1 → upA → ¬upB → line (counts true)) ∧
    (mode = 1 → ¬upA → upB → line (counts false)) ∧
    (mode = 1 → upA ∧ upB ∨ (¬upA ∧ ¬upB) → line (fun t => posOf t = pos)) ∧
    (mode = 2 → upA → line (fun t => counts q.b t ∧ (b ≠ q.b → flag t Fd.pifChFlagsDirRace = true))) ∧
    (mode = 3 → (a ≠ q.a ↔ b = q.b) → (z = true → q.z = true) → line (fun t => counts true t ∨ counts false t)) ∧
    (mode = 3 → a ≠ q.a → b ≠ q.b → (z = true → q.z = true) → line (fun t => posOf t = pos ∧ flag t Fd.pifChFlagsIllegal = true ∧ (t.pif k.val).winBad = true ∧
      ∀ p, Fired p (84 + k.val) s t)) ∧
    (mode = 3 → a = q.a → b = q.b → z = true → q.z = false → line (fun t => t.regW (regKey .a (Reg.pifChZPos k.val)) = pos ∧ flag t Fd.pifChFlagsZ = true ∧
      posOf t = if flag s Fd.pifChCfgZReset then 0 else pos)) ∧
    (mode ≠ 0 → flag s Fd.pifChStatusMethod = true → q.winBad = false → q.winFrom + win ≤ s.tick → Completes (.speedWindowEnd k) s (fun t =>
      speed t = fpOfRat (q.net * 400000000) win ∧ flag t Fd.pifChStatusValid = true ∧
      (t.pif k.val).net = 0 ∧ (t.pif k.val).winFrom = q.winFrom + win ∧ t.mem = s.mem)) ∧
    (mode ≠ 0 → flag s Fd.pifChStatusMethod = true → q.winBad = true → q.winFrom + win ≤ s.tick → Completes (.speedWindowEnd k) s (fun t =>
      speed t = speed s ∧ flag t Fd.pifChStatusValid = false ∧ (t.pif k.val).winBad = false ∧ (t.pif k.val).net = 0 ∧ t.mem = s.mem)) ∧
    (mode ≠ 0 → flag s Fd.pifChStatusMethod = false → ∀ t0, q.last = some t0 → t0 < s.tick →
      let lim := periodSpeed true (s.tick - t0)
      Completes (.speedBoundUpdate k) s (fun t => speed t = (if flt lim (fabs q.est) then (if flt q.est 0 then fneg lim else lim) else q.est) ∧
        flag t Fd.pifChStatusBounded = flt lim (fabs q.est) ∧ { t with regs := s.regs } = s)) ∧
    (mode ≠ 0 → flag s Fd.pifChStatusMethod = false → flag s Fd.pifChStatusStale = false → q.since + s.reg .a (Reg.pifChStaleT k.val) ≤ s.tick →
      Completes (.pifStale k) s (fun t => speed t = 0 ∧ flag t Fd.pifChStatusStale = true ∧
      flag t Fd.pifChFlagsStale = true ∧ flag t Fd.pifChStatusValid = false ∧ (t.pif k.val).last = none ∧ (∀ p, Fired p (84 + k.val) s t) ∧ posOf t = pos ∧ t.mem = s.mem)) ∧
    (s.holds m.peak = true → mode = 0 → Completes (.posSet m k val) s (fun t => posOf t = val ∧ (t.pif k.val).last = none ∧
      speed t = 0 ∧ flag t Fd.pifChStatusValid = false ∧ flag t Fd.pifChStatusBounded = false ∧ RegFrame (onlyRegs [(Reg.pifChPos k.val, 0xFFFFFFFF),
        (Reg.pifChPosSet k.val, 0xFFFFFFFF), (Reg.pifChSpeed k.val, 0xFFFFFFFF), (Reg.pifChStatus k.val, 0xFFFFFFFF)]) s t ∧ t.mem = s.mem)) ∧
    (s.holds m.peak = true → mode ≠ 0 → Completes (.posSet m k val) s (fun t => t = s.raise .a (Fd.pifChFlagsWriteWhileRunning k.val))) ∧
    ((s.peak m.peak).up = true → Completes (.edgePosRead m k) s (fun t => t.readData = s.regW (regKey .a (Reg.pifChEdgePos k.val)) ∧ t.mem = s.mem ∧
      (s.holds m.peak = true → t.pif k.val = { q with frozen := 7 } ∧ t.regW (regKey .a (Reg.pifChEdgeSpeed k.val)) = q.liveSpeed ∧
        t.regW (regKey .a (Reg.pifChEdgeS k.val)) = q.liveS ∧ t.regW (regKey .a (Reg.pifChEdgeNs k.val)) = q.liveNs ∧
        RegFrame (onlyRegs [(Reg.pifChEdgeSpeed k.val, 0xFFFFFFFF), (Reg.pifChEdgeS k.val, 0xFFFFFFFF), (Reg.pifChEdgeNs k.val, 0xFFFFFFFF)]) s t) ∧
      (s.holds m.peak = false → t.regs = s.regs ∧ t.pif k.val = q)))

/-- R438, R440, R442, R443, R444: pushes and pops of the mailboxes from either side, the doorbell, the merging unit's next packet, the tick pair,
and the enabling and reading of a counter. -/
def Obligations.MailboxesTraceAndCounters : Prop :=
  ∀ (m : Master) (val : Word) (k : Fin 8) (s : State),
    let p := m.peak
    let i := (s.peak p).inbox
    let o := (s.peak p).outbox
    let cell := Tab.get (fun _ => 0) (s.peak p).obs k.val
    let count := fun (t : State) => Tab.get (fun _ => 0) (t.peak p).obs k.val
    let flagged := fun (c : Instr) (f : Fld) (v : Word) => Completes c s (fun t => t.bit p f = true ∧ t.readData = v ∧
      RegFrame (onlyRegs [(Reg.colFlags, 0x1F)]) s t ∧ { t with regs := s.regs, readData := s.readData } = s)
    let levels := fun (t : State) => (i.length ≤ 256 → o.length ≤ 256 → t.reg p Reg.colStatus = (t.peak p).inbox.length + (t.peak p).outbox.length * 2 ^ 16) ∧
      RegFrame (eventsAnd [(Reg.colStatus, 0xFFFFFFFF), (Reg.colIntPend, 3)]) s t ∧ t.peak p.other = s.peak p.other ∧ t.mem = s.mem
    ((s.peak p).up = true →
      (fromHost m = true →
        (i.length < 256 → Completes (.inPush m val) s (fun t => (t.peak p).inbox = i ++ [val] ∧ (t.peak p).outbox = o ∧ levels t ∧
          (i.length = s.fld p Fd.colThreshInThresh → Fired p 104 s t))) ∧
        (256 ≤ i.length → flagged (.inPush m val) Fd.colFlagsInOverflow s.readData) ∧
        (∀ v r, o = v :: r → Completes (.outPop m) s (fun t => t.readData = v ∧ (t.peak p).outbox = r ∧ (t.peak p).inbox = i ∧ levels t ∧
          (r = [] → Fired p 105 s t))) ∧
        (o = [] → flagged (.outPop m) Fd.colFlagsOutUnderrun 0) ∧ flagged (.inPop m) Fd.colFlagsWrongSide 0 ∧
        flagged (.outPush m val) Fd.colFlagsWrongSide s.readData) ∧
      (fromHost m = false →
        (o.length < 256 → Completes (.outPush m val) s (fun t => (t.peak p).outbox = o ++ [val] ∧ (t.peak p).inbox = i ∧ levels t ∧
          t.bit p Fd.colIntPendOutReady = (s.bit p Fd.colIntPendOutReady || decide (o.length = s.fld p Fd.colThreshOutThresh)))) ∧
        (256 ≤ o.length → flagged (.outPush m val) Fd.colFlagsOutOverflow s.readData) ∧
        (∀ v r, i = v :: r → Completes (.inPop m) s (fun t => t.readData = v ∧ (t.peak p).inbox = r ∧ (t.peak p).outbox = o ∧ levels t ∧
          t.bit p Fd.colIntPendInEmpty = (s.bit p Fd.colIntPendInEmpty || r.isEmpty))) ∧
        (i = [] → flagged (.inPop m) Fd.colFlagsInUnderrun 0) ∧ flagged (.inPush m val) Fd.colFlagsWrongSide s.readData ∧
        flagged (.outPop m) Fd.colFlagsWrongSide 0 ∧
        Completes (.doorbell m val) s (fun t => (∀ n < 8, (t.fld p Fd.colIntPendDb).testBit n = ((s.fld p Fd.colIntPendDb).testBit n || val.getLsbD n)) ∧
          RegFrame (onlyRegs [(Reg.colIntPend, 0xFF00)]) s t ∧ { t with regs := s.regs } = s)) ∧
      (s.bit p (Fd.obsCntCtrlEn k.val) = false → Completes (.counterEnable m k) s (fun t => t.bit p (Fd.obsCntCtrlEn k.val) = true ∧ count t = 0 ∧
        t.bit p (Fd.obsCntHiSat k.val) = false ∧ RegFrame (onlyRegs [(Reg.obsCntCtrl k.val, 0xFFFFFFFF), (Reg.obsCntHi k.val, 0x10000)]) s t ∧
        { t with regs := s.regs, peaks := s.peaks } = s)) ∧
      (s.bit p (Fd.obsCntCtrlEn k.val) = true → Completes (.counterEnable m k) s (fun t => count t = cell ∧ { t with regs := s.regs } = s)) ∧
      Completes (.counterRead m k) s (fun t => t.readData = BitVec.ofNat 32 cell ∧ t.fld p (Fd.obsCntHiCount k.val) = cell / 2 ^ 32 % 2 ^ 16 ∧
        count t = cell ∧ RegFrame (onlyRegs [(Reg.obsCntHi k.val, 0xFFFF)]) s t ∧ { t with regs := s.regs, readData := s.readData } = s)) ∧
    (s.saddle.clock = true →
      (traceOn s = false → Completes .tracePacket s (fun t => t.col = { s.col with sent := none } ∧ t.peaks = s.peaks)) ∧
      (traceOn s = true → 4096 ≤ s.col.sinceAlign → Completes .tracePacket s (fun t => t.col = { s.col with sinceAlign := 0, sent := some 0xA25A5A5A } ∧
        t.peaks = s.peaks)) ∧
      (traceOn s = true → s.col.sinceAlign < 4096 →
        let q := s.col.turn
        (∀ w, (s.peak q).traceLost = 0 → (s.peak q).trace.head? = some w → Completes .tracePacket s (fun t =>
          t.col.sent = some w ∧ t.col.turn = q.other ∧ t.peak q = { s.peak q with trace := (s.peak q).trace.tail } ∧ t.peak q.other = s.peak q.other)) ∧
        ((s.peak q).traceLost ≠ 0 → Completes .tracePacket s (fun t =>
          t.col.sent = some (BitVec.ofNat 32 (9 * 2 ^ 28 + q.num * 2 ^ 27 + (s.peak q).traceLost)) ∧ t.peak q = { s.peak q with traceLost := 0 })) ∧
        ((∀ r, (s.peak r).traceLost = 0 ∧ (s.peak r).trace = []) → Completes .tracePacket s (fun t => t.col.sent = some 0 ∧
          t.col.sinceAlign = s.col.sinceAlign + 1 ∧ t.peaks = s.peaks))) ∧
      Completes .tickPair s (fun t => ∀ q, (s.bit q Fd.obsTrcCtrlEn = true → (s.peak q).trace.length + 2 ≤ 64 →
          (t.peak q).trace = (s.peak q).trace ++ [BitVec.ofNat 32 (0xD * 2 ^ 28 + (q.num * 2 ^ 27 + s.freeTick / 2 ^ 24 % 2 ^ 24)),
            BitVec.ofNat 32 (0xE * 2 ^ 28 + (q.num * 2 ^ 27 + s.freeTick % 2 ^ 24))]) ∧
        (s.bit q Fd.obsTrcCtrlEn = false → t.peak q = s.peak q)))

/-- R5, R20, R21, R33, R431 to R437: an unmapped access is discarded and recorded once; a write of a plain register acts by its access codes in the
lanes written; a Peak without the baton changes no gated register; a read of an RC register clears it. A WRITE frame waits and is performed, a READ
frame answers, each with its result where a check fails; STATUS reports. -/
def Obligations.FabricAndColPort : Prop :=
  ∀ (m : Master) (addr val hdr : Word) (lanes : BitVec 4) (data : List Word) (crc : BitVec 16) (cut : Bool) (s : State),
    let p := m.peak
    let a := addr.toNat / 4 * 4
    let block := addr.toNat / 0x10000
    let lane := fun (i : Nat) => lanes.getLsbD (i / 8)
    let unmapped := fun (t : State) => t.bit p Fd.sysFaultUnmapped = true ∧
      (s.bit p Fd.sysFaultUnmapped = false → t.reg p Reg.sysFaultAddr = addr.toNat) ∧ (s.bit p Fd.sysFaultUnmapped = true → t.regs = s.regs)
    ((s.peak p).up = true → 0x40000000 ≤ addr.toNat →
      (rowAt a = none → Completes (.registerWrite m addr val lanes) s (fun t => unmapped t ∧ { t with regs := s.regs } = s) ∧
        Completes (.rcRead m addr) s (fun t => unmapped t ∧ t.readData = 0 ∧ { t with regs := s.regs, readData := s.readData } = s)) ∧
      (∀ r, rowAt a = some r → block = 0x4000 → Completes (.registerWrite m addr val lanes) s (fun t =>
        (∀ i < 32, (t.regW (regKey p a)).getLsbD i =
          (if !lane i then (s.regW (regKey p a)).getLsbD i
          else ((if (r.rw ||| r.rws).testBit i then val.getLsbD i else (s.regW (regKey p a)).getLsbD i) && !(r.w1c.testBit i && val.getLsbD i)) ||
            (r.w1s.testBit i && val.getLsbD i))) ∧
        RegFrame (onlyRegs [(a, 0xFFFFFFFF)]) s t ∧ { t with regs := s.regs } = s)) ∧
      (∀ r, rowAt a = some r → s.holds p = false → s.saddle.clock = true → block = 0x4002 ∨ block = 0x4007 ∨ block = 0x4008 ∨ block = 0x400D →
        Completes (.registerWrite m addr val lanes) s (fun t => t = s)) ∧
      (∀ r, rowAt a = some r → block = 0x4006 → s.saddle.clock = true → Completes (.rcRead m addr) s (fun t =>
        t.readData = BitVec.ofNat 32 (s.reg p a &&& r.readable) ∧
        t.reg p a = (if s.holds p = true then (s.reg p a &&& (0xFFFFFFFF ^^^ r.rc)) ||| (r.reset &&& r.rc) else s.reg p a) % 2 ^ 32 ∧
        RegFrame (onlyRegs [(a, r.rc)]) s t ∧ { t with regs := s.regs, readData := s.readData } = s))) ∧
    (kernelRuns s = true →
      let gw := hdrGw hdr
      let code := frameCheck 0 hdr addr (crcOk [hdr, addr] crc) cut s
      let same := fun (t : State) => t.col.writes = s.col.writes ∧ t.mem = s.mem ∧ t.power = s.power
      let ended := fun (t : State) (words result : Nat) => t.col.seq = hdrSeq hdr ∧ t.col.words = words ∧ t.col.result = result
      let wcode := frameCheck 1 hdr addr (crcOk (hdr :: addr :: data) crc) (cut || decide (data.length < hdrLen hdr)) s
      (wcode ≠ 0 → Completes (.colWrite hdr addr data crc cut) s (fun t => ended t 0 wcode ∧ same t)) ∧
      (wcode = 0 → 2 ≤ s.col.writes.length → Completes (.colWrite hdr addr data crc cut) s (fun t => ended t 0 6 ∧ same t)) ∧
      (wcode = 0 → s.col.writes.length < 2 → gw = false → (s.peak (hdrPeak hdr)).up = false →
        Completes (.colWrite hdr addr data crc cut) s (fun t => ended t 0 3 ∧ same t)) ∧
      (wcode = 0 → s.col.writes.length < 2 → gw = true ∨ (s.peak (hdrPeak hdr)).up = true → Completes (.colWrite hdr addr data crc cut) s (fun t =>
        t.col = { s.col with writes := s.col.writes ++ [⟨hdr, addr, data.take (hdrLen hdr)⟩] } ∧ t.mem = s.mem ∧ t.power = s.power)) ∧
      (∀ f r, s.col.writes = f :: r → f.data.length ≤ hdrLen f.hdr →
        (hdrGw f.hdr = true → Completes .colWritePerformed s (fun t => t.col.writes = r ∧ t.col.seq = hdrSeq f.hdr ∧ t.col.words = f.data.length ∧ t.col.result = 0)) ∧
        (hdrGw f.hdr = false → (s.peak (hdrPeak f.hdr)).up = false → f.data ≠ [] →
          Completes .colWritePerformed s (fun t => t.col.writes = r ∧ t.col.seq = hdrSeq f.hdr ∧ t.col.words = 0 ∧ t.col.result = 3 ∧ t.mem = s.mem))) ∧
      (code = 4 → Completes (.colRead hdr addr crc cut) s (fun t => ended t 0 4 ∧ t.col.reply = s.col.reply ∧ same t)) ∧
        (code ≠ 0 → code ≠ 4 → Completes (.colRead hdr addr crc cut) s (fun t => ended t 0 code ∧ t.col.start = 5 ∧ t.col.reply = [] ∧ same t)) ∧
        (code = 0 → s.col.writes = [] → gw = true → Completes (.colRead hdr addr crc cut) s (fun t => ended t (hdrLen hdr) 0 ∧ t.col.start = 0xA ∧
          t.col.reply.length = hdrLen hdr ∧
          (∀ r key, hdrLen hdr = 1 → block = 0x4012 ∨ block = 0x4014 → windowRow addr.toNat = some (r, key) →
            t.col.reply = [BitVec.ofNat 32 ((s.regW key).toNat &&& r.readable)]))) ∧
        (code = 0 → s.col.writes = [] → gw = false → (s.peak (hdrPeak hdr)).up = false → Completes (.colRead hdr addr crc cut) s (fun t =>
          ended t 0 3 ∧ t.col.start = 5 ∧ t.col.reply = [] ∧ same t)) ∧
      (s.col.seq < 2 ^ 8 → s.col.words ≤ 64 → s.col.result < 16 → Completes (.colStatus hdr crc) s (fun t => ∃ w : Word, t.col.reply = [w] ∧ t.col.start = 0 ∧
        bits w.toNat 31 24 = s.col.seq ∧ bits w.toNat 22 16 = s.col.words ∧ bits w.toNat 15 12 = s.col.result ∧
        w.getLsbD 3 = s.bit .a Fd.gdmStatusSafe ∧ w.getLsbD 1 = colInt s true ∧ w.getLsbD 0 = colInt s false ∧ same t)))

/-- R176 to R198: a sample's word and its way to both Peaks; the writes of CFG and TRIG; validity windows; the relief rotation with its match,
abort, calibration and hand-back; the diagnostic; loss and return of a supply domain; the read of LAST. -/
def Obligations.CirqueConverters : Prop :=
  ∀ (i : Fin 48) (b : Fin 6) (d : PeakId) (m : Master) (code : BitVec 24) (frac : BitVec 8) (conv : Fin 9) (ok : Bool) (val : Word) (off gain : BitVec 24)
    (rms : BitVec 16) (s : State),
    let n := i.val
    let c := s.cin n
    let r := s.rotor d b.val
    let st := fun (t : State) => t.fld .a (rotState d b.val)
    let rel := fun (t : State) => t.fld .a (rotRelief d b.val)
    let keptBut := fun (own : List (Nat × Nat)) (t : State) =>
      RegFrame (fun a => eventsAnd own a ||| (if a / 0x10000 = 0x4002 then 0xFFFFFFFF else 0)) s t ∧ t.mem = s.mem
    let kept := keptBut []
    let aligned := keptBut ((Reg.pwmStatus, 0xFF00) :: (List.range 8).map (fun k => (Reg.pwmTbStatus k, 0xC)))
    let off_ := s.fld .a (Fd.cirqInCfgEn n) = 0 ∨ s.bit .a (Fd.cirqInStatusRetired n) = true
    (∀ q, sampler c s = some q → Completes (.cirqueSample i code frac) s (fun t => kept t ∧ (t.cin n).rephase = c.bWait ∧
      let v := sampleValue ((s.corr q (n / 8) (s.fld .a (convFld q n))).apply (code.toInt * 256 + frac.toNat))
      ∃ f : Flight, (t.cin n).flight = ⟨c.flight.a ++ [f], c.flight.b ++ [f]⟩ ∧ f.at_ = s.tick ∧ f.word.toNat % 2 ^ 18 = unsigned 18 v ∧
        f.word.getLsbD 27 = sampleClip v ∧ bits f.word.toNat 26 26 = q.num ∧ f.word.getLsbD 25 = c.rephase ∧
        f.gain = s.fld .a (Fd.cirqInCfgGain n) ∧
        f.word.getLsbD 31 = decide (bits f.word.toNat 30 28 = 0) ∧ t.fld .a (Fd.cirqInStatusReasonNow n) = bits f.word.toNat 30 28 ∧
        (off_ → bits f.word.toNat 30 28 = 3) ∧ (¬off_ → s.bit .a (Fd.cirqInStatusOnDiag n) = true → bits f.word.toNat 30 28 = 2) ∧
        (¬off_ → s.bit .a (Fd.cirqInStatusOnDiag n) = false → c.checkUntil ≤ s.tick →
          bits f.word.toNat 30 28 = if c.gainArm = true ∨ s.tick < c.gainUntil then 1 else 0))) ∧
    (s.holds m.peak = true →
      (s.bit .a (Fd.cirqInStatusRetired n) = true → val.getLsbD 0 = true →
        Completes (.cirqCfgWrite m i val) s (fun t => t = s.raise .a Fd.cirqFlagsEnableRefused)) ∧
      (s.bit .a (Fd.cirqInStatusRetired n) = false ∨ val.getLsbD 0 = false → Completes (.cirqCfgWrite m i val) s (fun t => aligned t ∧
        t.fld .a (Fd.cirqInCfgEn n) = val.toNat % 2 ∧ t.fld .a (Fd.cirqInCfgGain n) = bits val.toNat 2 1 ∧
        (t.cin n).gainArm = (c.gainArm || (val.getLsbD 0 && (decide (s.fld .a (Fd.cirqInCfgEn n) = 0) ||
          decide (bits val.toNat 2 1 ≠ s.fld .a (Fd.cirqInCfgGain n))))))) ∧
      (trigLocked n s = false →
        let tb := bits val.toNat 26 24
        let delay := bits val.toNat 19 0
        let prd := s.fld .a (Fd.pwmTbPrdPrd tb)
        let bad := val.getLsbD 31 = true ∧ (delay % 5 ≠ 0 ∨ prd < delay ∨ (prd + 1) % 40 ≠ 0)
        (s.fld .a (Fd.cirqInCfgEn n) = 1 → bad → Completes (.cirqTrigWrite m i val) s (fun t =>
          t = (s.raise .a Fd.cirqFlagsTrigRefused).raise .a Fd.cirqFlagsWriteWhileRunning)) ∧
        (s.fld .a (Fd.cirqInCfgEn n) = 1 → ¬bad → Completes (.cirqTrigWrite m i val) s (fun t => t = s.raise .a Fd.cirqFlagsWriteWhileRunning)) ∧
        (s.fld .a (Fd.cirqInCfgEn n) = 0 → bad → Completes (.cirqTrigWrite m i val) s (fun t => t = s.raise .a Fd.cirqFlagsTrigRefused)) ∧
        (s.fld .a (Fd.cirqInCfgEn n) = 0 → ¬bad → Completes (.cirqTrigWrite m i val) s (fun t => aligned t ∧
          t.bit .a (Fd.cirqInTrigEn n) = val.getLsbD 31 ∧ t.fld .a (Fd.cirqInTrigTb n) = tb ∧ t.fld .a (Fd.cirqInTrigDelay n) = delay))) ∧
      (let code := if bits val.toNat 9 0 = 0 ∨ 600 < bits val.toNat 9 0 then 1
          else if s.bit .a (Fd.cirqInStatusRetired (slotInput b.val (bits val.toNat 30 28))) = true then 2
          else if trigLocked (slotInput b.val (bits val.toNat 30 28)) s = true then 3
          else if s.fld .a (Fd.cirqBankDiagStatusState b.val) ≠ 0 then 4 else 0;
        val.getLsbD 31 = true → Completes (.diagRequest m b val) s (fun t => kept t ∧ t.fld .a (Fd.cirqBankDiagStatusRefuse b.val) = code ∧
          (code ≠ 0 → t.bit .a Fd.cirqFlagsDiagRefused = true ∧ t.fld .a (Fd.cirqBankDiagStatusState b.val) = s.fld .a (Fd.cirqBankDiagStatusState b.val)) ∧
          (code = 0 → t.fld .a (Fd.cirqBankDiagStatusState b.val) = 1)))) ∧
    Completes (.validityWindowEnd i) s (fun t => kept t ∧ t.regs = s.regs ∧ t.cin n = { c with
      gainUntil := if c.gainUntil ≤ s.tick then 0 else c.gainUntil, checkUntil := if c.checkUntil ≤ s.tick then 0 else c.checkUntil }) ∧
    ((s.peak m.peak).up = true → Completes (.cirqLastRead m i) s (fun t => t.readData = s.regW (regKey .a (Reg.cirqInLast n)) ∧
      t.bit .a (Fd.cirqInLastNew n) = (s.bit .a (Fd.cirqInLastNew n) && !s.holds m.peak) ∧
      t.bit .a (Fd.cirqInLastOvr n) = (s.bit .a (Fd.cirqInLastOvr n) && !s.holds m.peak) ∧
      RegFrame (onlyRegs [(Reg.cirqInLast n, 0xC0000000)]) s t ∧ { t with regs := s.regs, readData := s.readData } = s)) ∧
    (s.cirq.running = true → s.rotorTime = stepAt d →
      (st s = 0 → s.domOk d = true → rel s ≠ 0xF → Completes (.rotorStepStart d b) s (fun t => kept t ∧ st t = 1 ∧ (t.rotor d b.val).count = 0 ∧
        (t.rotor d b.val).startAt = s.tick)) ∧
      (st s = 6 → Completes (.rotorStepStart d b) s (fun t => kept t ∧ t.regs = s.regs ∧ (t.rotor d b.val).retBegun = true))) ∧
    (st s = 1 → r.startAt + 640 ≤ s.tick → Completes (.rotorOverlapStart d b) s (fun t => kept t ∧ st t = 2 ∧ (t.rotor d b.val).count = 0)) ∧
    (st s = 2 → 256 ≤ r.count →
      let input := slotInput b.val (s.fld .a (rotSlot d b))
      let g := if s.bit .a (Fd.cirqInCfgEn input) && spansEighth r.span then gain.toInt else 0
      let fail := 2048 < off.toInt.natAbs ∨ 51200 < g.natAbs ∨ 768 < rms.toNat
      s.fld .a (rotSlot d b) < 8 →
      (fail → Completes (.rotorFitComplete d b off gain rms) s (fun t => kept t ∧ st t = 3 ∧ rel t = 0xF ∧ t.bit .a Fd.cirqFlagsMatchFail = true ∧
        t.fld .a (convFld d input) = s.fld .a (convFld d input) ∧ (t.rotor d b.val).freed = some (rel s) ∧ (t.rotor d b.val).sameSlot = true)) ∧
      (¬fail → Completes (.rotorFitComplete d b off gain rms) s (fun t => kept t ∧ st t = 3 ∧ rel t = 0xF ∧ t.fld .a (convFld d input) = rel s ∧
        (let k := s.corr d b.val (rel s); t.corr d b.val (rel s) = { k with off := k.calOff + off.toInt, gain := k.calGain + g }) ∧
        (t.rotor d b.val).freed = some (s.fld .a (convFld d input)) ∧ (t.rotor d b.val).sameSlot = false))) ∧
    (st s = 1 ∨ st s = 2 → r.count < 256 → r.startAt + 120000 ≤ s.tick → Completes (.rotorStepTimeout d b) s (fun t => kept t ∧ st t = 0 ∧
      t.bit .a Fd.cirqFlagsStepAbort = true ∧ rel t = rel s ∧ (t.rotor d b.val).sameSlot = true)) ∧
    (let fits := off.toInt.natAbs ≤ 16384 ∧ gain.toInt.natAbs ≤ 1280000
      let run := fun (P : State → Prop) => Completes (.calibrationComplete d ⟨b, conv⟩ off gain ok) s (fun t => kept t ∧ P t)
      (st s = 3 ∨ st s = 6 ∧ r.retBegun = true →
        (ok = false → run (fun t => t.bit .a Fd.cirqFlagsReliefLost = true ∧ ∀ q, t.fld .a (rotState q b.val) = 5 ∧ t.fld .a (rotRelief q b.val) = 0xF)) ∧
        (ok = true → ¬fits → run (fun t => t.bit .a Fd.cirqFlagsReliefLost = true ∧ st t = 5 ∧
          t.fld .a (rotState d.other b.val) = s.fld .a (rotState d.other b.val)))) ∧
      (ok = true → fits →
        (∀ x, st s = 3 → r.freed = some x → run (fun t => t.regs = s.regs ∧ (t.rotor d b.val).calDone = true ∧
          t.corr d b.val x = ⟨off.toInt, gain.toInt, off.toInt, gain.toInt⟩)) ∧
        (st s = 6 → r.retBegun = true → run (fun t => t.regs = s.regs ∧ conv.val ∈ (t.rotor d b.val).retConvs ∧
          t.corr d b.val conv.val = ⟨off.toInt, gain.toInt, off.toInt, gain.toInt⟩)))) ∧
    (∀ x, x < 9 → st s = 3 → r.calDone = true → r.freed = some x → r.startAt + 400000 ≤ s.tick → Completes (.rotorReady d b) s (fun t =>
      kept t ∧ st t = 0 ∧ rel t = x ∧ (t.rotor d b.val).freed = none)) ∧
    (s.cirq.running = true → calOld .a n s = true ∨ calOld .b n s = true → Completes (.calAgeExpiry i) s (fun t => kept t ∧
      t.bit .a (Fd.cirqInStatusCalLate n) = true ∧ t.bit .a Fd.cirqFlagsCalLate = true ∧ ∀ p, Fired p 65 s t)) ∧
    (let input := slotInput b.val (s.fld .a (Fd.cirqBankDiagCtrlInput b.val))
      let g := Tab.get (fun _ => {}) s.cirq.diags b.val;
      (s.fld .a (Fd.cirqBankDiagStatusState b.val) = 1 → s.cirq.running = true → s.rotorTime = 1000 ∨ s.rotorTime = 2600 → dacHeld b.val s = false →
        Completes (.diagWindow b) s (fun t => kept t ∧ t.fld .a (Fd.cirqBankDiagStatusState b.val) = 2 ∧
          t.bit .a (Fd.cirqInStatusOnDiag input) = true)) ∧
      (s.fld .a (Fd.cirqBankDiagStatusState b.val) = 2 → g.connected + 400 * s.fld .a (Fd.cirqBankDiagCtrlLen b.val) ≤ s.tick →
        Completes (.diagEnd b) s (fun t => kept t ∧ t.fld .a (Fd.cirqBankDiagStatusState b.val) = 0 ∧
        t.bit .a (Fd.cirqInStatusOnDiag input) = false ∧ t.bit .a (Fd.cirqBankDiagCtrlReq b.val) = false ∧ (t.cin input).checkUntil = s.tick + 640 ∧
        (g.count ≠ 0 → g.sum % g.count = 0 → t.reg .a (Reg.cirqBankDiagMean b.val) = unsigned 18 (g.sum / g.count)) ∧ ∀ p, Fired p 66 s t))) ∧
    (s.domOk d = true → Completes (.domainLoss d) s (fun t => kept t ∧ t.domOk d = false ∧ t.domOk d.other = s.domOk d.other ∧
      t.bit .a Fd.cirqStatusSingle = s.domOk d.other ∧ t.bit .a Fd.cirqFlagsDomainLoss = true ∧
      (∀ k < 6, t.fld .a (rotState d k) = 4 ∧ t.fld .a (rotState d.other k) = s.fld .a (rotState d.other k)) ∧ (∀ k < 48, (t.cin k).rephase = true) ∧
      ∀ p, Fired p 64 s t)) ∧
    (s.domOk d = false → s.vaux d = true → s.power.vauxAt.get d + 180000 ≤ s.tick → (s.pll (3 + d.num)).locked = false →
      Completes (.domainPllStart d) s (fun t => t.cirq = { s.cirq with acquiring := s.cirq.acquiring.set d true } ∧ { t with cirq := s.cirq } = s)) ∧
    (s.cirq.acquiring.get d = true → s.domOk d = false → Completes (.domainPllLock d) s (fun t =>
      keptBut [(Reg.clkStatus, 0xFFFFFFFF), (Reg.crnStatus, 0xFFFFFFFF)] t ∧ (t.pll (3 + d.num)).locked = true ∧
      (s.cirq.running = true → t.cirq.locked.get d = true ∧ ∀ k < 6, t.fld .a (rotState d k) = 6))) ∧
    (s.cirq.locked.get d = true → s.domOk d = false → s.domOk d.other = true → (∀ k < 6, bankReturned d k s = true) →
      s.bit .a (Fd.pwmTbStatusRun s.periodTb) = true → s.wrapOf s.periodTb = s.tick → Completes (.domainRejoin d) s (fun t =>
      kept t ∧ t.domOk d = true ∧ t.bit .a Fd.cirqStatusSingle = false ∧
      (∀ k < 48, (t.cin k).rephase = decide (d = .a) ∧ (t.cin k).bWait = decide (d = .b)) ∧
      (∀ k < 6, s.fld .a (rotState d k) ≠ 5 → t.fld .a (rotState d k) = 0 ∧ t.fld .a (rotRelief d k) = 8) ∧ ∀ p, Fired p 64 s t))

/-- R201, R203, R204, R206, R210, R215, R216, R218, R221: an arrival gives the Shoulder value of its window, which slot 0 takes 40 ns on; a tagged
sample's value goes to TAG and LAST and fires its event; a fine output goes to slot 2 and, where valid, to the fused slot 3; a closed window gives
its mean in slot 4; a resampler group delivers its members' values in slot 5 and moves to its next index. -/
def Obligations.CouloirChains : Prop :=
  ∀ (p : PeakId) (i : Fin 48) (tb : Fin 8) (g : Fin 8) (run : Bool) (m : Master) (s : State),
    let n := i.val
    let c := s.chain p n
    (∀ f l, (s.cin n).flight.get p = f :: l → (s.peak p).up = true → c.shRestart = none →
      let x := CSamp.of f
      let window := x :: c.hist.filter (fun y => decide (x.at_ < y.at_ + 80))
      x.x = signed 18 (f.word.toNat % 2 ^ 18) * 2 ^ (3 - f.gain) ∧
      Completes (.couloirSampleArrival p i) s (fun t => (t.cin n).flight.get p = l ∧ (t.cin n).flight.get p.other = (s.cin n).flight.get p.other ∧
        (t.chain p n).hist = window ∧ ∃ v : ShValue, (t.peak p).cln.soon = (s.peak p).cln.soon ++ [v] ∧ v.due = s.tick + 16 ∧ v.i = n ∧ ∃ reason, v.word =
          outWord (rneDiv (8 * window.foldl (fun a y => a + y.x) 0) window.length) reason (window.any (fun y => y.clip)) x.reph false ∧
          (window.all (fun y => y.valid) = true → c.shStart = none → reason = 4) ∧
          (window.all (fun y => y.valid) = true → ∀ t0, c.shStart = some t0 → reason = if x.at_ < t0 + 80 then 4 else 0))) ∧
    (∀ x, (s.peak p).cln.soon = [x] → x.due ≤ s.tick → x.i < 48 → (couloirTick p s).slot p x.i 0 = x.word ∧ ((couloirTick p s).peak p).cln.soon = [] ∧
      (s.bit p (Fd.clnInCtrlFineRun x.i) = false →
        (couloirTick p s).slot p x.i 3 = withReph x.word (marks (s.chain p x.i).fusedReph x.rephAt) false)) ∧
    (∀ f l, (s.cin n).flight.get p = f :: l → (s.peak p).up = false → Completes (.couloirSampleArrival p i) s (fun t =>
      (t.cin n).flight.get p = l ∧ t.peaks = s.peaks ∧ t.regs = s.regs ∧ t.mem = s.mem)) ∧
    (∀ f, (s.cin n).tag = some f → s.cirq.running = false ∨ s.fld .a (Fd.cirqInCfgEn n) = 0 ∨ s.bit .a (Fd.cirqInStatusRetired n) = true →
      Completes (.sampleReady i) s (fun t => t = s.setCin n { s.cin n with tag := none })) ∧
    (∀ f, (s.cin n).tag = some f → s.cirq.running = true → s.fld .a (Fd.cirqInCfgEn n) ≠ 0 → s.bit .a (Fd.cirqInStatusRetired n) = false →
      Completes (.sampleReady i) s (fun t => (t.cin n).tag = none ∧ (t.cin n).seq = ((s.cin n).seq + 1) % 128 ∧
      t.bit .a (Fd.cirqInLastNew n) = true ∧ t.fld .a (Fd.cirqInLastValue n) = f.word.toNat % 2 ^ 18 ∧ t.bit .a (Fd.cirqInLastValid n) = f.word.getLsbD 31 ∧
      ((s.cin n).seq < 128 → t.fld .a (Fd.cirqInLastSeq n) = (s.cin n).seq) ∧ (s.bit .a (Fd.cirqInLastNew n) = true → t.bit .a (Fd.cirqInLastOvr n) = true) ∧
      (∀ q w, (s.peak q).up = true → (s.chain q n).tag = some w → t.slot q n 1 = w) ∧ ∀ q, Fired q (16 + n) s t)) ∧
    ((s.peak m.peak).up = true →
      let q := m.peak
      (s.bit q (Fd.clnInCtrlFineRun n) = false → Completes (.fineRunStart m i) s (fun t => t.bit q (Fd.clnInCtrlFineRun n) = true ∧
        t.bit q (Fd.clnInCtrlMeanRun n) = s.bit q (Fd.clnInCtrlMeanRun n) ∧ t.bit q (Fd.clnInStatusFineValid n) = false ∧
        (t.chain q n).fine = { valid := (s.chain q n).fine.valid } ∧ wordValid (t.slot q n 2) = false ∧ wordReason (t.slot q n 2) = 5 ∧ t.mem = s.mem)) ∧
      (s.bit q (Fd.clnInCtrlFineRun n) = true → Completes (.fineRunStart m i) s (fun t => t = s)) ∧
      (s.bit q (Fd.clnInCtrlMeanRun n) = false → Completes (.meanRunStart m i) s (fun t => t.bit q (Fd.clnInCtrlMeanRun n) = true ∧
        t.bit q (Fd.clnInCtrlFineRun n) = s.bit q (Fd.clnInCtrlFineRun n) ∧ (t.chain q n).mean = {} ∧ t.mem = s.mem)) ∧
      (s.bit q (Fd.clnInCtrlMeanRun n) = true → Completes (.meanRunStart m i) s (fun t => t = s)) ∧
      (s.bit q (Fd.clnRsgCtrlRun g.val) = true → Completes (.resamplerRun m g false) s (fun t => t.bit q (Fd.clnRsgCtrlRun g.val) = false ∧
        t.bit q (Fd.clnRsgStatusRunning g.val) = false ∧ { t with regs := s.regs } = s)) ∧
      (s.bit q (Fd.clnRsgCtrlRun g.val) = false → 6 ≤ s.fld q (Fd.clnRsgCfgNcLog2 g.val) → s.fld q (Fd.clnRsgCfgNcLog2 g.val) ≤ 10 →
        Completes (.resamplerRun m g true) s (fun t => t.bit q (Fd.clnRsgCtrlRun g.val) = true ∧ t.bit q (Fd.clnRsgStatusRunning g.val) = true ∧
          (t.rsg q g.val).m = 0 ∧ (t.rsg q g.val).due = [] ∧ t.bit q (Fd.clnRsgStatusInRange g.val) = rsInRange (t.rsg q g.val).inc ∧
          (s.fld q (Fd.clnRsgCfgSrc g.val) = 1 → (t.rsg q g.val).inc = s.reg q (Reg.clnRsgIncLo g.val) + 2 ^ 32 * s.reg q (Reg.clnRsgIncHi g.val)) ∧ t.mem = s.mem)) ∧
      (run = s.bit q (Fd.clnRsgCtrlRun g.val) → Completes (.resamplerRun m g run) s (fun t => t = s))) ∧
    (∀ o l, (s.peak p).up = true → c.fine.ready = o :: l → Completes (.fineOutputReady p i) s (fun t => (t.chain p n).fine.ready = l ∧ t.slot p n 2 = o.word ∧
      t.bit p (Fd.clnInStatusFineValid n) = wordValid o.word ∧ (t.chain p n).fine.hist = (o :: c.fine.hist).take 320 ∧
      t.slot p n 3 = (if wordValid o.word then withReph o.word (marks c.fusedReph o.rephAt) true else s.slot p n 3))) ∧
    (s.meanDue.contains tb.val = true → Completes (.periodMeanReady tb) s (fun t => t.meanDue = s.meanDue.filter (fun k => decide (k ≠ tb.val)) ∧
      (∀ q, Fired q (8 + tb.val) s t) ∧
      ((s.peak p).up = true → s.bit p (Fd.clnInCtrlMeanRun n) = true → s.fld p (Fd.clnInCfgMeanTb n) = tb.val → c.mean.closing.isSome = true → c.mean.acc.n ≠ 0 →
        c.mean.acc.inv = none → t.fld p (Fd.clnInStatusMeanN n) = min c.mean.acc.n 0xFFFF ∧ t.slot p n 4 =
          outWord (sat24 (rneDiv (8 * c.mean.acc.sum) c.mean.acc.n)).v (if c.mean.closeWhole = true then 0 else 6) c.mean.acc.clip c.mean.acc.reph false))) ∧
    ((s.peak p).up = true → s.bit p (Fd.clnRsgCtrlRun g.val) = true →
      let nc := rsNc p g.val s
      let r0 := s.rsg p g.val
      let r := rsCross nc s.tick 4096 r0
      let ring := s.reg p (Reg.clnRsgRingLen g.val) % 2 ^ 21 ≠ 0
      (r0.due = [] → rsNext nc r0 ≤ ((s.tick * 1024 * rsClamp r0.inc : Nat) : Int) → r.due.head? = some ⟨r0.m, rsNext nc r0, r0.inc, r0.reph⟩) ∧
      (r0.due = [] → ((s.tick * 1024 * rsClamp r0.inc : Nat) : Int) < rsNext nc r0 → Completes (.resamplerOutputReady p g) s (fun t => t = s)) ∧
      (∀ d rest, r.due = d :: rest →
        let value := fun (k : Nat) => rsValue p g.val k d s
        ((∃ k ∈ rsMembers p g.val s, value k = none) → Completes (.resamplerOutputReady p g) s (fun t => t = s)) ∧
        ((∀ k ∈ rsMembers p g.val s, (value k).isSome = true) → Completes (.resamplerOutputReady p g) s (fun t =>
          (ring → t.rsg p g.val = { r with due := rest, seq := r.seq + 1 }) ∧ (¬ring → t.rsg p g.val = { r with due := rest }) ∧
          ∀ k ∈ rsMembers p g.val s, ∀ v, value k = some v → t.slot p k 5 = v.word))))

/-- R122, R227, R229, R231, R234, R236, R237, R243: a step completes in its core cycle and not before; a second or a held step changes nothing but
its mark; a step in OFF gives zero references and publishes its angles; a command and KEEPER_SET wait for the next step or wrap, KEEPER_SET only in
OFF; a black start's ramp begins at the Cairn angle. -/
def Obligations.RidgelineEngines : Prop :=
  ∀ (p : PeakId) (e : Fin 8) (m : Master) (val : Word) (s : State),
    let n := e.val
    let g := s.eng p n
    let rdg := fun (t : State) => RegFrame (fun a => eventMask a ||| (if a / 0x10000 = 0x4009 ∨ a / 0x10000 = 0x4003 then 0xFFFFFFFF else 0)) s t ∧ t.mem = s.mem
    let at_ := fun (t : State) (reg : Nat → Nat) => t.regW (regKey p (reg n))
    let prd := g.start.prd
    let l := min (s.reg p (Reg.rdgEngLTicks n) % 2 ^ 21) (prd + 1)
    let thetaS := g.start.keeperAt ((g.start.wrap + (prd + 1 - l) : Nat) : Int)
    ((s.peak p).up = true → g.running = true → (s.peak p).cycles64 < 64 * g.due → Completes (.ridgelineStep p e) s (fun t => t = s)) ∧
    ((s.peak p).up = true → g.running = true → 64 * g.due ≤ (s.peak p).cycles64 → g.late = [] →
      (g.twice = true → Completes (.ridgelineStep p e) s (fun t => t.bit p (Fd.rdgEngFlagsStepTwice n) = true ∧ t.eng p n = { g with running := false, late := [] } ∧
        RegFrame (onlyRegs [(Reg.rdgEngFlags n, 0xFFFFFFFF)]) s t ∧ t.mem = s.mem)) ∧
      (g.twice = false → s.reg p (Reg.rdgEngHold n) % 2 = 1 → Completes (.ridgelineStep p e) s (fun t => t.bit p (Fd.rdgEngStatusHolding n) = true ∧
        t.eng p n = { g with running := false, late := [] } ∧ RegFrame (onlyRegs [(Reg.rdgEngStatus n, 0xFFFFFFFF)]) s t ∧ t.mem = s.mem)) ∧
      (g.twice = false → s.reg p (Reg.rdgEngHold n) % 2 = 0 → Completes (.ridgelineStep p e) s (fun t => rdg t ∧ (t.eng p n).running = false ∧
        t.bit p (Fd.rdgEngStatusHolding n) = false ∧
        t.reg p (Reg.rdgEngThetaSLo n) + 2 ^ 32 * t.reg p (Reg.rdgEngThetaSHi n) = thetaS ∧
        t.reg p (Reg.rdgEngThetaALo n) + 2 ^ 32 * t.reg p (Reg.rdgEngThetaAHi n) = (thetaS + g.start.inc * l) % 2 ^ 64 ∧
        (t.eng p n).incNext = incOf (t.eng p n).omega (s.reg p (Reg.rdgEngFNom n) % 2 ^ 8) ∧
        (s.engMode p n = 0 → g.cmd = none → s.bit p (Fd.rdgEngStatusBsWait n) = false → s.engMode p n = t.engMode p n ∧
          at_ t Reg.rdgEngIdRef = 0 ∧ at_ t Reg.rdgEngIqRef = 0 ∧ at_ t Reg.rdgEngVdRef = 0 ∧ at_ t Reg.rdgEngVqRef = 0 ∧
          (t.eng p n).omega = fclamp (at_ s Reg.rdgEngWSet) 0x3F4CCCCD 0x3F99999A)))) ∧
    ((s.peak m.peak).up = true →
      let q := m.peak
      let h := s.eng q n
      let cmd := fun (i : Instr) (c : Nat) =>
        (s.engRetired q n = true → Completes i s (fun t => t = s)) ∧
        (s.engRetired q n = false → h.running = false → Completes i s (fun t => t.eng q n = { h with cmd := some c } ∧ t.reg q (Reg.rdgEngModeCmd n) = c ∧
          RegFrame (onlyRegs [(Reg.rdgEngModeCmd n, 0xFFFFFFFF)]) s t ∧ { t with regs := s.regs, peaks := s.peaks } = s)) ∧
        (s.engRetired q n = false → h.running = true → Completes i s (fun t => t.eng q n = { h with late := h.late ++ [(8, BitVec.ofNat 32 c)] } ∧
          { t with peaks := s.peaks } = s))
      cmd (.rdgCmdOff m e) 0 ∧ cmd (.rdgCmdFollow m e) 1 ∧ cmd (.rdgCmdForm m e) 2 ∧ cmd (.rdgCmdIsland m e) 3 ∧ cmd (.rdgCmdBlackStart m e) 4 ∧
      (s.engRetired q n = false → s.engMode q n ≠ 0 → Completes (.keeperSet m e val) s (fun t => t = s.raise q (Fd.rdgEngFlagsWriteWhileRunning n))) ∧
      (s.engRetired q n = false → s.engMode q n = 0 → h.running = false → Completes (.keeperSet m e val) s (fun t =>
        t.eng q n = { h with keeperSet := some (s.reg q (Reg.rdgEngKeeperSetLo n) + 2 ^ 32 * val.toNat) } ∧ { t with regs := s.regs, peaks := s.peaks } = s))) ∧
    ((s.peak p).up = true → s.bit p (Fd.rdgEngStatusBsWait n) = true → s.bit .a (Fd.pwmTbStatusRun g.tb) = true → s.wrapOf g.tb = s.tick →
      (s.cairnNs / 10 ^ 9 % 2 ^ 32 + 2 ^ 32 - s.reg p (Reg.rdgEngBsStartS n)) % 2 ^ 32 ≤ 2 ^ 31 → Completes (.blackStartBegin p e) s (fun t =>
      t.eng p n = { g with keeper := cairnAngle p n s.tick s, keepTick := s.tick, omega := at_ s Reg.rdgEngWSet, eMag := 0 } ∧
      t.bit p (Fd.rdgEngStatusBsWait n) = false ∧ RegFrame (onlyRegs [(Reg.rdgEngStatus n, 0xFFFFFFFF)]) s t ∧ t.mem = s.mem))

/-- R122, R252, R253, R254, R261, R264, R268: a step completes in its core cycle and not before; a second or a held step changes nothing but its
mark; a STOPPED loop follows MEAS with its output at 0; START begins from MEAS; a RUNNING loop without shaper, fade, generator and supervision gives
the clamped control law; commands, bank requests and test runs with their refusals. -/
def Obligations.SwitchbackLoops : Prop :=
  ∀ (p : PeakId) (l : Fin 64) (g : Fin 4) (m : Master) (bank : Bool) (s : State),
    let n := l.val
    let k := s.loop p n
    let w := fun (t : State) (reg : Nat → Nat) => t.regW (regKey p (reg n))
    let swb := fun (t : State) => RegFrame (fun a => eventMask a ||| (if a / 0x10000 = 0x400A then 0xFFFFFFFF else 0)) s t ∧ t.mem = s.mem
    let step := fun (P : State → Prop) => Completes (.switchbackStep p l) s (fun t => swb t ∧ (t.loop p n).running = false ∧ P t)
    let plain := k.bankReq = none ∧ k.nextFade = none ∧ k.fade = none
    ((s.peak p).up = true → k.running = true → (s.peak p).cycles64 < 64 * k.due → Completes (.switchbackStep p l) s (fun t => t = s)) ∧
    ((s.peak p).up = true → k.running = true → 64 * k.due ≤ (s.peak p).cycles64 → k.late = [] →
      (k.twice = true → step (fun t => t.bit p (Fd.swbLoopFlagsStepTwice n) = true ∧ t.loop p n = { k with running := false, late := [] } ∧
        RegFrame (onlyRegs [(Reg.swbLoopFlags n, 0xFFFFFFFF)]) s t)) ∧
      (k.twice = false → s.reg p (Reg.swbLoopHold n) % 2 = 1 → loopTg p n s = none → step (fun t => t.bit p (Fd.swbLoopStatusHolding n) = true ∧
        t.loop p n = { k with running := false, late := [] } ∧ RegFrame (onlyRegs [(Reg.swbLoopStatus n, 0xFFFFFFFF)]) s t)) ∧
      (k.twice = false → s.reg p (Reg.swbLoopHold n) % 2 = 0 → plain →
        (loopRuns s p n = false → k.cmd = none → step (fun t => w t Reg.swbLoopRef = w s Reg.swbLoopMeas ∧ w t Reg.swbLoopRate = 0 ∧ w t Reg.swbLoopOut = 0 ∧
          w t Reg.swbLoopErr = 0 ∧ w t Reg.swbLoopSupvCnt = 0 ∧ loopRuns t p n = false)) ∧
        (loopRuns s p n = false → k.cmd = some 1 → s.bit p (Fd.swbLoopStatusTripped n) = false → s.fld p (Fd.swbLoopCfgSupv n) = 0 → loopTg p n s = none →
          step (fun t => loopRuns t p n = true ∧ w t Reg.swbLoopRef = w s Reg.swbLoopMeas ∧ w t Reg.swbLoopRate = 0)) ∧
        (loopRuns s p n = true → k.cmd = some 1 → s.fld p (Fd.swbLoopCfgSupv n) = 0 → loopTg p n s = none →
          step (fun t => loopRuns t p n = true ∧ t.fld p (Fd.swbLoopStatusRefuse n) = 1 ∧ t.bit p (Fd.swbLoopFlagsCmdRefused n) = true)) ∧
        (k.cmd = some 2 → loopTg p n s = none → step (fun t => loopRuns t p n = false ∧ w t Reg.swbLoopOut = 0)) ∧
        (loopRuns s p n = true → k.cmd = none → s.fld p (Fd.swbLoopCfgSupv n) = 0 → s.fld p (Fd.swbLoopCfgShapeEn n) = 0 →
          s.bit p (Fd.swbLoopStatusHalted n) = false → loopTg p n s = none →
          let b := s.fld p (Fd.swbLoopStatusBank n) = 0
          let err := fs (fa (w s Reg.swbLoopTarget) 0) (w s Reg.swbLoopMeas)
          let u := fa (fa (fa (fa (w s Reg.swbLoopFf) (fm (w s (if b then Reg.swbLoopKpA else Reg.swbLoopKpB)) err))
            (fm (w s (if b then Reg.swbLoopKvA else Reg.swbLoopKvB)) 0)) (w s Reg.swbLoopInt)) 0
          step (fun t => w t Reg.swbLoopRef = w s Reg.swbLoopTarget ∧ w t Reg.swbLoopErr = err ∧
            w t Reg.swbLoopOut = fclamp u (w s Reg.swbLoopOutMin) (w s Reg.swbLoopOutMax) ∧
            t.bit p (Fd.swbLoopStatusSat n) = (flt (w s Reg.swbLoopOutMax) u || flt u (w s Reg.swbLoopOutMin)) ∧ loopRuns t p n = true)))) ∧
    ((s.peak m.peak).up = true →
      let q := m.peak
      let h := s.loop q n
      let cmd := fun (i : Instr) (c : Nat) =>
        (h.running = false → Completes i s (fun t => t.loop q n = { h with cmd := some c } ∧ { t with peaks := s.peaks } = s)) ∧
        (h.running = true → Completes i s (fun t => t.loop q n = { h with late := h.late ++ [(8, BitVec.ofNat 32 c)] } ∧ { t with peaks := s.peaks } = s))
      let tg := s.fld q (Fd.swbTgCfgLoop g.val)
      let code := if loopRuns s q tg = false then 1 else if (loopTg q tg s).isSome then 2 else if tgOk q g.val s = false then 3 else 0
      cmd (.swbStart m l) 1 ∧ cmd (.swbStop m l) 2 ∧ cmd (.swbClear m l) 3 ∧
      (h.running = false → Completes (.bankReq m l bank) s (fun t => t.loop q n = { h with bankReq := some (if bank then 1 else 0) } ∧
        { t with peaks := s.peaks } = s)) ∧
      (s.bit q (Fd.swbTgCtrlRun g.val) = false →
        (code ≠ 0 → Completes (.testRunStart m g) s (fun t => t.fld q (Fd.swbTgStatusRefuse g.val) = code ∧ t.bit q Fd.swbFlagsTestRefused = true ∧
          RegFrame (onlyRegs [(Reg.swbFlags, 0xFFFFFFFF), (Reg.swbTgStatus g.val, 0xFFFFFFFF)]) s t ∧ { t with regs := s.regs } = s)) ∧
        (code = 0 → Completes (.testRunStart m g) s (fun t => t.bit q (Fd.swbTgCtrlRun g.val) = true ∧ t.bit q (Fd.swbTgStatusRunning g.val) = true ∧
          t.reg q (Reg.swbTgCount g.val) = 0 ∧ t.bit q (Fd.swbLoopStatusTest tg) = true ∧ (t.tg q g.val).k = 0 ∧
          (t.tg q g.val).waiting = (s.loop q tg).running ∧ t.mem = s.mem))) ∧
      (s.bit q (Fd.swbTgStatusRunning g.val) = true → Completes (.testRunStop m g) s (fun t => t.bit q (Fd.swbTgStatusRunning g.val) = false ∧
        t.bit q (Fd.swbTgCtrlRun g.val) = false ∧ t.bit q (Fd.swbTgStatusAborted g.val) = true ∧ t.fld q (Fd.swbTgStatusAbort g.val) = 4 ∧ Fired q 72 s t ∧
        t.mem = s.mem)))

/-- R371, R373 to R375, R378 to R380, R383, R384, R386: the Moraine commands, a segment's handover, the snapshot and its identities, and the
running, arming and stopping of a recorder channel. The order in which two reasons for a refusal are checked is the model's (assumption 73). -/
def Obligations.MoraineAndTalus : Prop :=
  ∀ (m : Master) (dest src : BitVec 8) (buffer : BitVec 12) (c : Fin 4) (s : State), (s.peak m.peak).up = true →
    let p := m.peak
    let b := buffer.toNat
    let free := (List.range 1536).filter (fun n => decide (s.owner p n = some 0))
    let count := s.fld p Fd.talMorCountFree
    let ended := fun (i : Instr) (code n : Nat) => Completes i s (fun t => t.morResult m = BitVec.ofNat 32 (2 ^ 31 + code * 2 ^ 16 + n) ∧
      t.regs = s.regs ∧ t.peak p.other = s.peak p.other ∧ { t with peaks := s.peaks } = s)
    let reserved := fun (o : Nat) => (1 ≤ o ∧ o ≤ 4) ∨ o = 0xFF
    let moves := fun (l : List Nat) (o : Nat) (t : State) => ∀ n, n < 1536 → t.owner p n = if n ∈ l then some o else s.owner p n
    let given := fun (n o : Nat) (t : State) => moves [n] o t ∧ t.fld p Fd.talMorCountFree = (count + (if o = 0 then 1 else 0) - (if s.owner p n = some 0 then 1 else 0)) % 2 ^ 11 ∧
      (t.fld p Fd.talMorCountFree < s.fld p Fd.talMorLowFree → (s.talus p).lowSpent = false → t.bit p Fd.talFlagsMorLow = true ∧ Fired p 88 s t) ∧
      RegFrame (eventsAnd [(Reg.talMorOwn n, 0xFF0000), (Reg.talMorCount, 0x07FF07FF), (Reg.talFlags, 0x20)]) s t ∧ t.mem = s.mem
    let word0 := fun (seg : Nat) (t : State) (v : Nat → Prop) => let a := s.reg p Reg.talSegBase + 0x40 * seg
      s.copying p = false → 0x10000000 ≤ a → a + 4 ≤ 0x10200000 → v (t.bytes (peakKey p a) 4)
    let described := fun (seg : Nat) (t : State) => let a := peakKey p (s.reg p Reg.talSegBase + 0x40 * seg)
      s.copying p = false → ∀ key, key < a ∨ a + 64 ≤ key → t.byte key = s.byte key
    (src.toNat ≠ 0 → ended (.morAlloc m dest src) 1 0) ∧
    (src = 0 → free = [] → ended (.morAlloc m dest src) 2 0) ∧
    (∀ n r, src = 0 → free = n :: r → reserved dest.toNat ∨ dest = 0 → ended (.morAlloc m dest src) 3 0) ∧
    (∀ n r, src = 0 → free = n :: r → ¬reserved dest.toNat → dest ≠ 0 → Completes (.morAlloc m dest src) s (fun t =>
      t.morResult m = BitVec.ofNat 32 (2 ^ 31 + n) ∧ given n dest.toNat t)) ∧
    (s.owner p b ≠ some src.toNat → ended (.morGive m buffer src dest) 1 b) ∧
    (s.owner p b = some src.toNat → reserved src.toNat ∨ reserved dest.toNat → ended (.morGive m buffer src dest) 3 b) ∧
    (s.owner p b = some src.toNat → ¬reserved src.toNat → ¬reserved dest.toNat →
      let busy := 0x20 ≤ src.toNat ∧ src.toNat ≤ 0x27 ∧ s.bit p (macF p Fd.macCtrlTxEn) = true ∧ s.txMac p (src.toNat - 0x20) ≠ 0
      (busy → ended (.morGive m buffer src dest) 6 b) ∧
      (¬busy → Completes (.morGive m buffer src dest) s (fun t => t.morResult m = BitVec.ofNat 32 (2 ^ 31 + b) ∧ given b dest.toNat t))) ∧
    (let waits := (s.talus p).gives.any (fun g => decide (g.master = masterNum m))
      let taken := (s.talus p).gives.any (fun g => decide (g.seg = b))
      let chain := s.segBufs p b
      (waits = true → ended (.morSegGive m buffer src dest) 5 b) ∧
      (waits = false → s.segOf p b ≠ 3 ∨ taken = true → ended (.morSegGive m buffer src dest) 4 b) ∧
      (waits = false → s.segOf p b = 3 → taken = false → reserved dest.toNat → ended (.morSegGive m buffer src dest) 3 b) ∧
      (∀ n r, waits = false → s.segOf p b = 3 → taken = false → ¬reserved dest.toNat → chain = n :: r → n < 1536 →
        (∀ x ∈ chain, s.fld p (Fd.talMorOwnOwner x) = src.toNat) → Completes (.morSegGive m buffer src dest) s (fun t =>
          t.morResult m = BitVec.ofNat 32 b ∧ moves [n] 0xFF t ∧ t.segOf p b = 3 ∧ t.mem = s.mem ∧
          (t.talus p).gives = (s.talus p).gives ++ [⟨masterNum m, b, dest.toNat, chain⟩]))) ∧
    ((s.talus p).gives.find? (fun g => decide (g.master = masterNum m)) = none → Completes (.segGiveComplete m) s (fun t => t = s)) ∧
    (∀ g, (s.talus p).gives.find? (fun g => decide (g.master = masterNum m)) = some g → (∀ n ∈ g.left, n < 1536) → g.newOwner < 2 ^ 8 →
      Completes (.segGiveComplete m) s (fun t => t.morResult m = BitVec.ofNat 32 (2 ^ 31 + g.seg) ∧ moves g.left g.newOwner t ∧ t.segOf p g.seg = 0 ∧
        (∀ n, n ≠ g.seg → t.segOf p n = s.segOf p n) ∧ word0 g.seg t (· = 0) ∧ described g.seg t)) ∧
    (let owned := fun (lo hi : Nat) => s.owned p (fun o => decide (lo ≤ o) && decide (o ≤ hi))
      let f := fun (t : State) (x : Fld) => t.fld p x
      s.owned p (fun _ => true) = owned 1 4 + owned 0x10 0x10 + owned 0x20 0x27 + owned 0x30 0x30 + owned 0xFF 0xFF → s.owned p (fun _ => true) ≤ 1536 →
      owned 0xFF 0xFF < 16 → s.segs p 1 + s.segs p 2 + s.segs p 3 ≤ 4096 → Completes (.snapTake m) s (fun t =>
        f t Fd.talSnapMor2Talus = owned 1 4 ∧ f t Fd.talSnapMor1Dma = owned 0x10 0x10 ∧ f t Fd.talSnapMor1Mac = owned 0x20 0x27 ∧
        f t Fd.talSnapMor0Host = owned 0x30 0x30 ∧ f t Fd.talSnapMor2Transit = owned 0xFF 0xFF ∧
        f t Fd.talSnapMor0Free + f t Fd.talSnapMor0Host + f t Fd.talSnapMor1Dma + f t Fd.talSnapMor1Mac + f t Fd.talSnapMor2Talus + f t Fd.talSnapMor2Transit = 1536 ∧
        f t Fd.talSnapSeg0Armed = s.segs p 1 ∧ f t Fd.talSnapSeg1Filling = s.segs p 2 ∧ f t Fd.talSnapSeg1Closed = s.segs p 3 ∧
        f t Fd.talSnapSeg0Free + f t Fd.talSnapSeg0Armed + f t Fd.talSnapSeg1Filling + f t Fd.talSnapSeg1Closed = 4096 ∧ { t with regs := s.regs } = s)) ∧
    (let st := s.fld p (Fd.talChStatusState c.val)
      let seg := s.fld p (Fd.talChStatusSeg c.val)
      let run := s.bit p (Fd.talChCtrlRun c.val)
      let need := chPre s p c.val + 1
      let next := (List.range 4096).find? (fun n => decide (s.segOf p n = 0))
      let member := ∃ k < chN s p c.val, 47 < chMember s p c.val k ∨ s.inputRetired p (chMember s p c.val k) = true
      let words := (((List.range 4).filter (fun d => decide (d = c.val) || s.bit p (Fd.talChCtrlRun d))).map (fun d => 2 ^ chLogS s p d * chRate p d s)).foldl (· + ·) 0
      let refused := fun (code : Nat) => Completes (.talusRun m c) s (fun t => t.bit p (Fd.talChCtrlRun c.val) = false ∧ t.fld p (Fd.talChStatusRefuse c.val) = code ∧
        t.bit p Fd.talFlagsRunRefused = true ∧ RegFrame (onlyRegs [(Reg.talChCtrl c.val, 1), (Reg.talChStatus c.val, 0xF0000), (Reg.talFlags, 2)]) s t ∧
        { t with regs := s.regs } = s)
      let arms := fun (i : Instr) =>
        (∀ n, next = some n → need ≤ count → need ≤ free.length → Completes i s (fun t => t.bit p (Fd.talChCtrlRun c.val) = true ∧
          t.fld p (Fd.talChStatusState c.val) = 1 ∧ t.fld p (Fd.talChStatusSeg c.val) = n ∧ t.segOf p n = 1 ∧ (t.talChan p c.val).chain = free.take need ∧
          moves (free.take need) (c.val + 1) t ∧ word0 n t (· = 2 ^ 30 + c.val * 2 ^ 28) ∧ described n t)) ∧
        (next = none ∨ count < need → Completes i s (fun t => t.bit p (Fd.talChCtrlRun c.val) = true ∧ t.fld p (Fd.talChStatusState c.val) = 4 ∧
          t.bit p Fd.talFlagsStarved = true ∧ t.mem = s.mem))
      (run = true ∨ s.retired p 0 21 = true → Completes (.talusRun m c) s (fun t => t = s)) ∧
      (run = false → s.retired p 0 21 = false → member → refused 1) ∧
      (run = false → s.retired p 0 21 = false → ¬member → 320000000 < words → refused 2) ∧
      (run = false → s.retired p 0 21 = false → ¬member → words ≤ 320000000 → chBufs s p c.val ≤ chPre s p c.val → refused 3) ∧
      (run = false → s.retired p 0 21 = false → ¬member → words ≤ 320000000 → chPre s p c.val < chBufs s p c.val → arms (.talusRun m c)) ∧
      (run = true → 3 ≤ st → arms (.talusArm p c)) ∧
      (run = false → Completes (.talusStop m c) s (fun t => t = s)) ∧
      (run = true → st = 1 → (∀ n ∈ (s.talChan p c.val).chain, n < 1536) → Completes (.talusStop m c) s (fun t => t.bit p (Fd.talChCtrlRun c.val) = false ∧
        t.fld p (Fd.talChStatusState c.val) = 0 ∧ moves (s.talChan p c.val).chain 0 t ∧ t.segOf p seg = 0 ∧ word0 seg t (· = 0) ∧ described seg t)) ∧
      (run = true → st = 2 → (s.talChan p c.val).primary < 16 → (s.talChan p c.val).trigBits < 2 ^ 16 → Completes (.talusStop m c) s (fun t =>
        t.bit p (Fd.talChCtrlRun c.val) = false ∧ t.fld p (Fd.talChStatusState c.val) = 0 ∧ t.segOf p seg = 3 ∧
        word0 seg t (fun w => bits w 31 30 = 3 ∧ bits w 29 28 = c.val ∧ bits w 27 26 = 1 ∧ bits w 23 20 = (s.talChan p c.val).primary ∧
          bits w 15 0 = (s.talChan p c.val).trigBits) ∧ described seg t ∧ Fired p 86 s t)))

/-- R375: a handover after which FREE lies below MOR_LOW fires EV_MOR_LOW and sets its flag, once: until FREE has risen to MOR_LOW + 16 or above, no
handover does so again. GIVE and ALLOC make such handovers. -/
def Obligations.MoraineLowEventFiresOnce : Prop :=
  ∀ (m : Master) (src dest : BitVec 8) (buffer : BitVec 12) (s : State), (s.peak m.peak).up = true →
    let p := m.peak
    let b := buffer.toNat
    let reserved := fun (o : Nat) => (1 ≤ o ∧ o ≤ 4) ∨ o = 0xFF
    let low := s.fld p Fd.talMorLowFree
    let spent := (s.talus p).lowSpent
    let quiet := fun (t : State) => t.tasks = s.tasks ∧ t.bit p Fd.talFlagsMorLow = s.bit p Fd.talFlagsMorLow
    let once := fun (t : State) => let free := t.fld p Fd.talMorCountFree;
      (free < low → spent = false → Fired p 88 s t ∧ t.bit p Fd.talFlagsMorLow = true ∧ (t.talus p).lowSpent = true) ∧
      (spent = true → quiet t ∧ (t.talus p).lowSpent = decide (free < low + 16)) ∧
      (low ≤ free → quiet t ∧ (t.talus p).lowSpent = (spent && decide (free < low + 16)))
    (∀ n owner, n < 1536 → once (setOwner p n owner s)) ∧
    (s.owner p b = some src.toNat → ¬reserved src.toNat → ¬reserved dest.toNat → ¬(0x20 ≤ src.toNat ∧ src.toNat ≤ 0x27) →
      Completes (.morGive m buffer src dest) s once) ∧
    (∀ n, s.freeBuf p = some n → ¬reserved dest.toNat → dest ≠ 0 → Completes (.morAlloc m dest 0) s once)

/-- R388 to R393: starting a channel, its shadow set, pause, resume and abort; the return of a read and the completion of a write with the credits
in balance; the end of a transfer, the repetition of an access and the halt. -/
def Obligations.DmaChannels : Prop :=
  ∀ (m : Master) (p : PeakId) (ch : Fin 16) (write : Bool) (s : State), p = m.peak → dmaStarter m = true → (s.peak p).up = true →
    let c := ch.val
    let g := s.dch p c
    let st := s.dmaState p c
    let rw := s.rdWidth p c
    let ww := s.wrWidth p c
    let sv := s.bit p (Fd.dmaChCtrlShadowValid c)
    let pause := s.bit p (Fd.dmaChCtrlPause c)
    let own := fun (a : Nat) => 0x400C0100 + 0x80 * c ≤ a ∧ a < 0x400C0180 + 0x80 * c
    let kept := fun (t : State) => RegFrame (fun a => eventMask a ||| (if own a ∨ a = Reg.dmaFlags then 0xFFFFFFFF else 0)) s t
    let balanced := fun (t : State) => t.fld p (Fd.dmaChStatusFreeCr c) + t.fld p (Fd.dmaChStatusInFlight c) + t.fld p (Fd.dmaChStatusHeld c) = s.dmaCredits p c
    let count := s.reg p (Reg.dmaChCount c) % 2 ^ 24
    let sat := s.fld p (Fd.dmaChRetryCountCount c) = 0xFFFF
    let idleNow := fun (t : State) => t.dmaState p c = 0 ∧ t.fld p (Fd.dmaChStatusFreeCr c) = s.dmaCredits p c ∧ t.dch p c = {} ∧ t.bit p (Fd.dmaChStatusDone c) = false ∧
      t.bit p (Fd.dmaChCtrlShadowValid c) = sv ∧ t.mem = s.mem
    let halted := fun (t : State) (a : Nat) (w : Bool) => t.dmaState p c = 4 ∧ t.bit p (Fd.dmaChFlagsBusErr c) = true ∧ t.reg p (Reg.dmaChFaultAddr c) = a % 2 ^ 32 ∧
      t.bit p (Fd.dmaChStatusFaultWr c) = w ∧ t.fld p (Fd.dmaChStatusFreeCr c) = s.dmaCredits p c ∧ t.bit p (Fd.dmaChCtrlShadowValid c) = sv ∧
      t.reg p (Reg.dmaChRetryCount c) = s.reg p (Reg.dmaChRetryCount c) ∧ Fired p 90 s t ∧ t.mem = s.mem
    (s.retired p 0 20 = false →
      let pick := fun (act sh : Nat) => s.reg p (if sv then sh else act)
      let n := pick (Reg.dmaChCount c) (Reg.dmaChShCount c) % 2 ^ 24
      let index := s.fld p (Fd.dmaChCfgSrcMode c) = 2
      let code := if st = 1 ∨ st = 2 ∨ st = 3 then 1
        else if n = 0 ∨ n % max rw ww ≠ 0 then 2
        else if pick (Reg.dmaChSrc c) (Reg.dmaChShSrc c) % rw ≠ 0 ∨ pick (Reg.dmaChDst c) (Reg.dmaChShDst c) % ww ≠ 0 ∨
          (index ∧ pick (Reg.dmaChIndexBase c) (Reg.dmaChShIndexBase c) % 4 ≠ 0) then 3
        else if index ∧ n ≠ pick (Reg.dmaChIndexN c) (Reg.dmaChShIndexN c) % 2 ^ 16 * (s.reg p (Reg.dmaChElem c) % 2 ^ 13) then 4 else 0;
      (st ≠ 4 ∨ sv = true → code ≠ 0 → Completes (.dmaGo m ch) s (fun t => t.fld p (Fd.dmaChStatusRefuse c) = code ∧ t.bit p Fd.dmaFlagsGoRefused = true ∧
        RegFrame (onlyRegs [(Reg.dmaChStatus c, 0xF000), (Reg.dmaFlags, 0x10000)]) s t ∧ { t with regs := s.regs } = s)) ∧
      (st = 0 ∨ (st = 4 ∧ sv = true) → code = 0 → Completes (.dmaGo m ch) s (fun t => kept t ∧ t.mem = s.mem ∧ t.dmaState p c = (if pause then 2 else 1) ∧
        t.fld p (Fd.dmaChStatusRefuse c) = 0 ∧ t.bit p (Fd.dmaChStatusDone c) = false ∧ t.bit p (Fd.dmaChStatusAppended c) = false ∧
        t.bit p (Fd.dmaChCtrlShadowValid c) = false ∧ balanced t ∧
        t.reg p (Reg.dmaChSrc c) = pick (Reg.dmaChSrc c) (Reg.dmaChShSrc c) ∧ t.reg p (Reg.dmaChDst c) = pick (Reg.dmaChDst c) (Reg.dmaChShDst c) ∧
        t.reg p (Reg.dmaChCount c) % 2 ^ 24 = n ∧
        (¬index → pause = false → t.fld p (Fd.dmaChStatusInFlight c) = min (s.dmaCredits p c) (n / rw) ∧ t.fld p (Fd.dmaChStatusHeld c) = 0)))) ∧
    Completes (.dmaShadowValid m ch) s (fun t => t.bit p (Fd.dmaChCtrlShadowValid c) = true ∧
      t.bit p (Fd.dmaChFlagsLateAppend c) = (s.bit p (Fd.dmaChFlagsLateAppend c) || (decide (st = 0) && decide (g.doneAt = some s.tick))) ∧
      RegFrame (onlyRegs [(Reg.dmaChCtrl c, 2), (Reg.dmaChFlags c, 2), (Reg.dmaFlags, 0xFFFF)]) s t ∧ { t with regs := s.regs } = s) ∧
    Completes (.dmaCancel m ch) s (fun t => t.bit p (Fd.dmaChCtrlShadowValid c) = false ∧ RegFrame (onlyRegs [(Reg.dmaChCtrl c, 2)]) s t ∧
      { t with regs := s.regs } = s) ∧
    Completes (.dmaPause m ch) s (fun t => kept t ∧ t.mem = s.mem ∧ t.bit p (Fd.dmaChCtrlPause c) = true ∧ t.dmaState p c = (if st = 1 then 2 else st) ∧
      (t.dch p c).held = g.held) ∧
    Completes (.dmaResume m ch) s (fun t => kept t ∧ t.mem = s.mem ∧ t.bit p (Fd.dmaChCtrlPause c) = false ∧
      t.dmaState p c = (if (st = 2 ∨ st = 3) ∧ g.aborting = false then 1 else st) ∧ (t.dch p c).held = g.held) ∧
    (st = 0 → Completes (.dmaAbort m ch) s (fun t => t = s)) ∧
    (st = 3 ∨ st = 4 → Completes (.dmaAbort m ch) s (fun t => kept t ∧ idleNow t)) ∧
    (st = 1 ∨ st = 2 → Completes (.dmaAbort m ch) s (fun t => kept t ∧ t.mem = s.mem ∧ t.dmaState p c = 2 ∧ (t.dch p c).aborting = true ∧ (t.dch p c).held = g.held)) ∧
    (st = 2 → g.flight = [] → g.held = [] → g.errAddr = none → g.failing = false →
      (g.aborting = true → Completes (.dmaDrainComplete p ch) s (fun t => kept t ∧ idleNow t)) ∧
      (g.aborting = false → Completes (.dmaDrainComplete p ch) s (fun t => t.dmaState p c = 3 ∧ t.fld p (Fd.dmaChStatusFreeCr c) = s.dmaCredits p c ∧
        RegFrame (onlyRegs [(Reg.dmaChStatus c, 0xFFFE0007)]) s t ∧ { t with regs := s.regs } = s))) ∧
    (∀ a, g.errAddr = some a → g.failing = false → Completes (.dmaRetry p ch) s (fun t => t.dch p c = { g with retries := g.retries + 1, errAddr := none } ∧
      (if sat then t.bit p (Fd.dmaChRetryCountSat c) = true else t.fld p (Fd.dmaChRetryCountCount c) = s.fld p (Fd.dmaChRetryCountCount c) + 1) ∧
      RegFrame (onlyRegs [(Reg.dmaChRetryCount c, 0x1FFFF)]) s t ∧ { t with regs := s.regs, peaks := s.peaks } = s)) ∧
    (st = 1 ∨ st = 2 → g.failing = false →
      (∀ a r, g.flight = a :: r → g.errAddr = none → 0x10000000 ≤ a → a + rw ≤ 0x10200000 → a % rw = 0 → g.flight.length + g.held.length ≤ s.dmaCredits p c →
        Completes (.dmaReadReturn p ch) s (fun t => kept t ∧ t.mem = s.mem ∧ balanced t ∧ t.dmaState p c = st ∧ (∃ more, (t.dch p c).flight = r ++ more) ∧
          (t.dch p c).held = g.held ++ [(List.range rw).map (fun i => s.byte (peakKey p (a + i)))])) ∧
      (∀ a, g.flight = [a] → g.held = [] → g.errAddr = none → mapped (dmaMaster p c) (s.srcCore p c) a rw s = false →
        Completes (.dmaReadReturn p ch) s (fun t => halted t a false)) ∧
      (g.errAddr = none → ww ≤ g.heldBytes →
        let dst := s.reg p (Reg.dmaChDst c)
        let data := g.held.flatten
        let last := dmaCanRead p c s = false ∧ g.flight = [] ∧ g.heldBytes < 2 * ww ∧ g.aborting = false
        let stored := fun (t : State) => kept t ∧ ∀ key, t.byte key = if peakKey p dst ≤ key ∧ key < peakKey p dst + ww then data.getD (key - peakKey p dst) 0 else s.byte key
        let moved := fun (t : State) => t.reg p (Reg.dmaChCount c) % 2 ^ 24 = count - ww ∧
          t.reg p (Reg.dmaChDst c) = (if s.fld p (Fd.dmaChCfgDstMode c) = 1 then dst else dst + ww) ∧
          (s.fld p (Fd.dmaChCfgSrcMode c) = 0 → t.reg p (Reg.dmaChSrc c) = (s.reg p (Reg.dmaChSrc c) + ww) % 2 ^ 32)
        0x10000000 ≤ dst → dst + ww ≤ 0x10200000 → dst % ww = 0 → mirrors (dmaMaster p c) s = false →
        (¬last → g.flight.length + g.held.length ≤ s.dmaCredits p c → Completes (.dmaWriteComplete p ch) s (fun t => stored t ∧ moved t ∧ t.dmaState p c = st ∧
          balanced t)) ∧
        (last → sv = false → Completes (.dmaWriteComplete p ch) s (fun t => stored t ∧ moved t ∧ t.dmaState p c = 0 ∧ t.bit p (Fd.dmaChStatusDone c) = true ∧
          t.fld p (Fd.dmaChStatusFreeCr c) = s.dmaCredits p c ∧ (s.bit p (Fd.dmaChCfgEvEn c) = true → Fired p 89 s t))) ∧
        (last → sv = true → Completes (.dmaWriteComplete p ch) s (fun t => stored t ∧ t.dmaState p c = (if pause then 2 else 1) ∧
          t.bit p (Fd.dmaChCtrlShadowValid c) = false ∧ t.bit p (Fd.dmaChStatusAppended c) = true ∧ balanced t ∧
          t.reg p (Reg.dmaChSrc c) = s.reg p (Reg.dmaChShSrc c) ∧ t.reg p (Reg.dmaChDst c) = s.reg p (Reg.dmaChShDst c) ∧
          t.reg p (Reg.dmaChCount c) % 2 ^ 24 = s.reg p (Reg.dmaChShCount c) % 2 ^ 24))) ∧
      (g.errAddr = none →
        let target := if write then (if ww ≤ g.heldBytes then some (s.reg p (Reg.dmaChDst c)) else none) else g.flight.head?
        (target = none → Completes (.dmaAccessTimeout p ch write) s (fun t => t = s)) ∧
        (∀ a, target = some a → g.retries < s.fld p (Fd.dmaChCfgRetry c) → Completes (.dmaAccessTimeout p ch write) s (fun t =>
          t.dch p c = { g with errAddr := some a, errWrite := write } ∧ { t with peaks := s.peaks } = s)) ∧
        (∀ a, target = some a → s.fld p (Fd.dmaChCfgRetry c) ≤ g.retries → (if write then g.flight = [] else g.flight = [a] ∧ g.held = []) →
          Completes (.dmaAccessTimeout p ch write) s (fun t => halted t a write))))

/-- R407 to R416: what a MAC does with a received frame; the transmit ring's moves; the check of a descriptor, the start of the highest queue's
frame and its completion, and what a late frame leads to; the MDIO commands. -/
def Obligations.EthernetMacs : Prop :=
  ∀ (m : Master) (p : PeakId) (frame : List Byte) (fcsOk : Bool) (ago : Word) (q : Fin 8) (val : Word) (data : BitVec 16) (s : State),
    p = m.peak → (s.peak p).up = true →
    let n := q.val
    let f := fun (t : State) (x : Fld) => t.fld p (macF p x)
    let on := fun (x : Fld) => s.bit p (macF p x) = true
    let size := s.txSize p n
    let mac := s.txMac p n
    let done := s.txDone p n
    let h := s.txHead p n
    let d := s.txDesc p n
    let len := frame.length
    let bumped := fun (cnt sat : Fld) (t : State) => if f s cnt = 0xFFFF then t.bit p (macF p sat) = true else f t cnt = f s cnt + 1
    let flagged := fun (i : Instr) (x : Fld) => Completes i s (fun t => t.bit p (macF p x) = true ∧ RegFrame (onlyRegs [(macA p Reg.macFlags, 7)]) s t ∧
      { t with regs := s.regs } = s)
    (let whole := fcsOk = true ∧ 60 ≤ len ∧ len ≤ 1518
      let r := if macClass frame = 0 then 0 else 1
      let slots := s.reg p (macA p (Reg.macRxqSlots r)) % 2 ^ 11
      let head := s.reg p (macA p (Reg.macRxqHead r)) % 2 ^ 10
      let a := s.reg p (macA p (Reg.macRxqBase r)) + 2048 * head
      let type := wireNum frame (if wireNum frame 12 2 = 0x8100 then 16 else 12) 2
      let rx := Instr.macReceive p frame fcsOk ago
      (¬on Fd.macCtrlRxEn → Completes rx s (fun t => t = s)) ∧
      (on Fd.macCtrlRxEn → ¬whole → Completes rx s (fun t => bumped Fd.macRxErrCount Fd.macRxErrSat t ∧
        RegFrame (onlyRegs [(macA p Reg.macRxErr, 0x1FFFF)]) s t ∧ { t with regs := s.regs } = s)) ∧
      (on Fd.macCtrlRxEn → whole → macAccepts p frame s = false → Completes rx s (fun t => t = s)) ∧
      (on Fd.macCtrlRxEn → whole → frame.take 6 = List.replicate 6 0xFF ∨ frame.take 6 = s.macAddr p Reg.macAddrLo Reg.macAddrHi ∨ on Fd.macCfgPromisc →
        2 ≤ slots → slots ≤ 1024 → 0x10000000 ≤ a → a + 2048 ≤ 0x10200000 →
        (s.bytes (peakKey p a) 4 < 2 ^ 31 → Completes rx s (fun t => bumped (Fd.macRxqDropCount r) (Fd.macRxqDropSat r) t ∧ t.bit p (macF p Fd.macFlagsRxDrop) = true ∧
          RegFrame (onlyRegs [(macA p (Reg.macRxqDrop r), 0x1FFFF), (macA p Reg.macFlags, 1)]) s t ∧ { t with regs := s.regs } = s)) ∧
        (2 ^ 31 ≤ s.bytes (peakKey p a) 4 → s.copying p = false → Completes rx s (fun t =>
          let w0 := t.bytes (peakKey p a) 4
          bits w0 31 31 = 0 ∧ bits w0 26 24 = macClass frame ∧ (type = 0x88B8 → bits w0 26 24 = 3) ∧ (type = 0x88BA → bits w0 26 24 = 4) ∧ bits w0 10 0 = len ∧
          (∀ i < len, t.byte (peakKey p (a + 16 + i)) = frame.getD i 0) ∧
          (∀ key, key < peakKey p a ∨ peakKey p a + 16 + len ≤ key → t.byte key = s.byte key) ∧
          t.reg p (macA p (Reg.macRxqHead r)) = (head + 1) % slots ∧ RegFrame (eventsAnd [(macA p (Reg.macRxqHead r), 0xFFFFFFFF)]) s t ∧
          Fired p (93 + 2 * p.num) s t)))) ∧
    (2 ≤ size → size ≤ 256 → mac + done ≤ size →
      let v := val.toNat % 2 ^ 9
      let ahead := fun (x : Nat) => (v % size + size - s.reg p (macA p x) % size) % size
      let tail := ahead (Reg.macTqTail n)
      let back := ahead (Reg.macTqReclaim n)
      let counts := fun (t : State) (k l : Nat) => f t (Fd.macTqStatusMac n) = k ∧ f t (Fd.macTqStatusDone n) = l ∧ f t (Fd.macTqStatusHost n) + k + l = size
      let ringOnly := fun (x : Nat) (t : State) => RegFrame (onlyRegs [(macA p x, 0xFFFFFFFF), (macA p (Reg.macTqStatus n), 0x1FF3FFFF)]) s t ∧ { t with regs := s.regs } = s
      let finished := fun (result : Nat) (t : State) => t.bytes (peakKey p d) 4 = putBits (putBits (s.txWord p n 0) 31 31 1) 30 28 result ∧
        t.bytes (peakKey p (d + 28)) 4 = 0 ∧
        (∀ key, key < peakKey p d ∨ peakKey p d + 32 ≤ key ∨ (peakKey p d + 4 ≤ key ∧ key < peakKey p d + 16) → t.byte key = s.byte key) ∧
        t.reg p (macA p (Reg.macTqHead n)) = (s.reg p (macA p (Reg.macTqHead n)) + 1) % size ∧ counts t (mac - 1) (done + 1) ∧ t.txHead p n = {} ∧
        (bits (s.txWord p n 0) 17 17 = 1 ∨ result ≠ 0 → Fired p (94 + 2 * p.num) s t) ∧
        (result = 1 ∨ result = 2 → bumped (Fd.macTqLateCount n) (Fd.macTqLateSat n) t)
      let buffer := bits (s.txWord p n 0) 10 0
      let returned := fun (t : State) => ∀ b, t.owner p b =
        if b = buffer ∧ b < 1536 ∧ bits (s.txWord p n 0) 21 20 = 1 then some 0x30 else if b = buffer ∧ b < 1536 ∧ bits (s.txWord p n 0) 21 20 = 2 then some 0 else s.owner p b
      let ready := mac ≠ 0 ∧ done < size ∧ 0x10000000 ≤ d ∧ d + 32 ≤ 0x10200000 ∧ s.copying p = false
      (size - mac - done < tail → flagged (.tqTailWrite m q val) Fd.macFlagsRingRange) ∧
      (tail ≤ size - mac - done → Completes (.tqTailWrite m q val) s (fun t => t.reg p (macA p (Reg.macTqTail n)) = v % size ∧ counts t (mac + tail) done ∧
        ringOnly (Reg.macTqTail n) t)) ∧
      (done < back → flagged (.tqReclaimWrite m q val) Fd.macFlagsRingRange) ∧
      (back ≤ done → Completes (.tqReclaimWrite m q val) s (fun t => t.reg p (macA p (Reg.macTqReclaim n)) = v % size ∧ counts t mac (done - back) ∧
        ringOnly (Reg.macTqReclaim n) t)) ∧
      (on Fd.macCtrlTxEn → h.stage = 0 → ready →
        let owned := s.owner p buffer = some (0x20 + n)
        let l := bits (s.txWord p n 1) 10 0
        let format := l < 14 ∨ 1518 < l ∨ 4096 < bits (s.txWord p n 1) 27 16 + l ∨ bits (s.txWord p n 0) 21 20 = 3
        (¬owned → Completes (.txDescriptorCheck p q) s (fun t => finished 3 t ∧ ∀ b, t.owner p b = s.owner p b)) ∧
        (owned → format → Completes (.txDescriptorCheck p q) s (fun t => finished 4 t ∧ ∀ b, t.owner p b = s.owner p b)) ∧
        (owned → ¬format → Completes (.txDescriptorCheck p q) s (fun t => (t.txHead p n).stage = 1 ∧
          ((t.txHead p n).launch.isSome = decide (bits (s.txWord p n 0) 16 16 = 1)) ∧ { t with peaks := s.peaks } = s))) ∧
      (h.launch.isSome = true → h.stage = 1 ∨ h.stage = 2 → on (Fd.macTqCfgLateDrop n) → ready →
        Completes (.lateDrop p q) s (fun t => finished 2 t ∧ returned t)) ∧
      ((s.peak p).sending = some n → ready → Completes (.txComplete p) s (fun t => (t.peak p).sending = none ∧ finished (if h.late then 1 else 0) t ∧ returned t))) ∧
    (h.stage = 1 → Completes (.txFetchComplete p q) s (fun t => t.txHead p n = { h with stage := 2 } ∧ (∀ k, k ≠ n → t.txHead p k = s.txHead p k) ∧
      { t with peaks := s.peaks } = s)) ∧
    (h.launch.isSome = true → h.stage ≠ 0 → Completes (.launchTime p q) s (fun t => t.txHead p n = { h with reached := true } ∧ { t with peaks := s.peaks } = s)) ∧
    (on Fd.macCtrlTxEn → (s.peak p).sending = none → h.stage = 2 →
      ((∀ k, (s.txHead p k).launch = none) → (∀ k, n < k → k < 8 → (s.txHead p k).stage ≠ 2) → Completes (.txStart p) s (fun t =>
        (t.peak p).sending = some n ∧ (t.txHead p n).stage = 3 ∧ (t.txHead p n).started = s.tick ∧ (t.txHead p n).late = false ∧ { t with peaks := s.peaks } = s)) ∧
      (∀ r due, r < 8 → h.launch = none → (s.txHead p r).stage = 2 → (s.txHead p r).launch = some due → (s.txHead p r).reached = false → s.cairnNs < due →
        due < s.cairnNs + (max (bits (s.txWord p n 1) 10 0) 60 + 24) * s.byteNs p → (∀ k, k < 8 → k ≠ n → k ≠ r → (s.txHead p k).stage ≠ 2) →
        Completes (.txStart p) s (fun t => t = s))) ∧
    (on Fd.macMdioCmdBusy → flagged (.mdioCommand m val) Fd.macFlagsMdioBusy) ∧
    (¬on Fd.macMdioCmdBusy → Completes (.mdioCommand m val) s (fun t => t.regW (regKey p (macA p Reg.macMdioCmd)) = val &&& 0xF3FFFFFF ∧
      t.mdio = (if val.getLsbD 31 then s.mdio ++ [(p, val &&& 0xF3FFFFFF)] else s.mdio) ∧ RegFrame (onlyRegs [(macA p Reg.macMdioCmd, 0xFFFFFFFF)]) s t ∧
      { t with regs := s.regs, mdio := s.mdio } = s)) ∧
    (∀ x w l, s.mdio = (x, w) :: l → Completes (.mdioComplete data) s (fun t => t.mdio = l ∧ t.bit x (macF x Fd.macMdioCmdBusy) = false ∧
      t.reg x (macA x Reg.macMdioData) = (if bits w.toNat 29 28 = 2 ∨ (w.getLsbD 30 = true ∧ bits w.toNat 29 28 = 3) then data.toNat else s.reg x (macA x Reg.macMdioData)) ∧
      RegFrame (onlyRegs [(macA x Reg.macMdioCmd, 0x80000000), (macA x Reg.macMdioData, 0xFFFFFFFF)]) s t ∧ { t with regs := s.regs, mdio := s.mdio } = s))
end

