-- ==== Sys2Proof/Laws/Bits.lean ====
section
/-! SUPPORT. Bit fields of numbers: what `bits` reads after `putBits`. -/

namespace Sys2Proof.Machine

theorem bits_lt (n hi lo : Nat) : bits n hi lo < 2 ^ (hi + 1 - lo) := Nat.mod_lt _ (Nat.two_pow_pos _)

theorem bits_mul_le (n hi lo : Nat) : bits n hi lo * 2 ^ lo ≤ n := by
  unfold bits
  calc n / 2 ^ lo % 2 ^ (hi + 1 - lo) * 2 ^ lo ≤ n / 2 ^ lo * 2 ^ lo := Nat.mul_le_mul_right _ (Nat.mod_le _ _)
    _ ≤ n := Nat.div_mul_le_self _ _

/-- A number is what lies above a field, the field, and what lies below it. -/
theorem bits_split (n : Nat) {hi lo : Nat} (h : lo ≤ hi) :
    n = n / 2 ^ (hi + 1) * 2 ^ (hi + 1) + bits n hi lo * 2 ^ lo + n % 2 ^ lo := by
  unfold bits
  have e : 2 ^ (hi + 1) = 2 ^ lo * 2 ^ (hi + 1 - lo) := by rw [← Nat.pow_add]; congr 1; omega
  have h1 := Nat.div_add_mod n (2 ^ lo)
  have h2 := Nat.div_add_mod (n / 2 ^ lo) (2 ^ (hi + 1 - lo))
  rw [Nat.div_div_eq_div_mul, ← e] at h2
  calc n = 2 ^ lo * (n / 2 ^ lo) + n % 2 ^ lo := h1.symm
    _ = 2 ^ lo * (2 ^ (hi + 1 - lo) * (n / 2 ^ (hi + 1)) + n / 2 ^ lo % 2 ^ (hi + 1 - lo)) + n % 2 ^ lo := by rw [h2]
    _ = _ := by rw [e]; ring

theorem putBits_split (n v : Nat) {hi lo : Nat} (h : lo ≤ hi) :
    putBits n hi lo v = n / 2 ^ (hi + 1) * 2 ^ (hi + 1) + v % 2 ^ (hi + 1 - lo) * 2 ^ lo + n % 2 ^ lo := by
  have := bits_split n h
  unfold putBits
  have h2 := bits_mul_le n hi lo
  omega

/-- `putBits` changes only the field's bits. -/
theorem testBit_putBits (n v : Nat) {hi lo : Nat} (h : lo ≤ hi) (i : Nat) :
    (putBits n hi lo v).testBit i = if lo ≤ i ∧ i ≤ hi then v.testBit (i - lo) else n.testBit i := by
  rw [putBits_split n v h]
  have e : 2 ^ (hi + 1) = 2 ^ lo * 2 ^ (hi + 1 - lo) := by rw [← Nat.pow_add]; congr 1; omega
  have r : n / 2 ^ (hi + 1) * 2 ^ (hi + 1) + v % 2 ^ (hi + 1 - lo) * 2 ^ lo + n % 2 ^ lo =
      2 ^ lo * (2 ^ (hi + 1 - lo) * (n / 2 ^ (hi + 1)) + v % 2 ^ (hi + 1 - lo)) + n % 2 ^ lo := by rw [e]; ring
  rw [r, Nat.testBit_two_pow_mul_add _ (Nat.mod_lt _ (Nat.two_pow_pos _)), Nat.testBit_two_pow_mul_add _ (Nat.mod_lt _ (Nat.two_pow_pos _))]
  by_cases h1 : i < lo
  · simp [h1, Nat.testBit_mod_two_pow]
  · by_cases h2 : i - lo < hi + 1 - lo
    · simp [h1, h2, Nat.testBit_mod_two_pow]
      omega
    · simp [h1, h2, Nat.testBit_div_two_pow]
      rw [if_neg (by omega)]
      congr 1; omega

theorem testBit_bits (n hi lo i : Nat) : (bits n hi lo).testBit i = (decide (i < hi + 1 - lo) && n.testBit (lo + i)) := by
  unfold bits
  rw [Nat.testBit_mod_two_pow, Nat.testBit_div_two_pow, Nat.add_comm i lo]

/-- A field that was just written. -/
theorem bits_putBits_same (n v : Nat) {hi lo : Nat} (h : lo ≤ hi) : bits (putBits n hi lo v) hi lo = v % 2 ^ (hi + 1 - lo) := by
  refine Nat.eq_of_testBit_eq fun i => ?_
  rw [testBit_bits, testBit_putBits n v h, Nat.testBit_mod_two_pow]
  by_cases hi' : i < hi + 1 - lo
  · rw [if_pos (by omega)]
    simp [hi']
  · simp [hi']

/-- A field apart from the one that was written. -/
theorem bits_putBits_apart (n v : Nat) {hi lo hi' lo' : Nat} (h : lo ≤ hi) (hd : hi < lo' ∨ hi' < lo) :
    bits (putBits n hi lo v) hi' lo' = bits n hi' lo' := by
  refine Nat.eq_of_testBit_eq fun i => ?_
  rw [testBit_bits, testBit_bits, testBit_putBits n v h]
  by_cases hi2 : i < hi' + 1 - lo'
  · rw [if_neg (by omega)]
  · simp [hi2]

/-- A register stays a register. -/
theorem putBits_lt (n v : Nat) {hi lo : Nat} (h : lo ≤ hi) (h32 : hi < 32) (hn : n < 2 ^ 32) : putBits n hi lo v < 2 ^ 32 := by
  refine Nat.lt_pow_two_of_testBit _ fun i hi' => ?_
  rw [testBit_putBits n v h, if_neg (by omega)]
  exact Nat.testBit_lt_two_pow (lt_of_lt_of_le hn (Nat.pow_le_pow_right (by decide) hi'))

end Sys2Proof.Machine
end

