-- ==== Sys2Proof/Laws/Tab.lean ====
section
/-! SUPPORT. What the sparse tables satisfy: a read after a write, and the canonical form, which every table operation keeps. -/

namespace Sys2Proof.Machine

variable {α : Type}

@[simp] theorem Tab.get_nil (d : Nat → α) (k : Nat) : Tab.get d [] k = d k := rfl

theorem Tab.get_erase (d : Nat → α) (t : Tab α) (k k' : Nat) :
    Tab.get d (Tab.erase t k) k' = if k' = k then d k else Tab.get d t k' := by
  induction t with
  | nil => by_cases h : k' = k <;> simp [Tab.erase, Tab.get, h]
  | cons e r ih =>
    obtain ⟨a, v⟩ := e
    unfold Tab.erase at ih ⊢
    by_cases ha : a = k
    · subst ha
      rw [List.filter_cons_of_neg (by simp), ih]
      by_cases h : k' = a
      · simp [h]
      · simp [h, Tab.get, Ne.symm h]
    · rw [List.filter_cons_of_pos (by simpa using ha)]
      by_cases h : a = k'
      · subst h; simp [Tab.get, ha]
      · simp only [Tab.get, h, if_false, ih]

theorem Tab.get_insert (d : Nat → α) (t : Tab α) (k : Nat) (v : α) (k' : Nat) (hk : ∀ e ∈ t, e.1 ≠ k) :
    Tab.get d (Tab.insert t k v) k' = if k' = k then v else Tab.get d t k' := by
  induction t with
  | nil => by_cases h : k' = k <;> simp [Tab.insert, Tab.get, h, Ne.symm]
  | cons e r ih =>
    obtain ⟨a, w⟩ := e
    have ha : a ≠ k := hk (a, w) (by simp)
    have ihr := ih (fun e he => hk e (by simp [he]))
    by_cases hlt : k < a
    · simp only [Tab.insert, hlt, if_true, Tab.get]
      by_cases h : k = k'
      · subst h; simp
      · simp [h, Ne.symm h]
    · simp only [Tab.insert, hlt, if_false, Tab.get, ihr]
      by_cases h : a = k'
      · subst h; simp [ha]
      · simp [h]

theorem Tab.erase_keys (t : Tab α) (k : Nat) : ∀ e ∈ Tab.erase t k, e.1 ≠ k := by
  intro e he
  simpa [Tab.erase] using (List.mem_filter.mp he).2

/-- A read after a write: the written key gives the value, every other key what it gave before. -/
theorem Tab.get_put [DecidableEq α] (d : Nat → α) (t : Tab α) (k : Nat) (v : α) (k' : Nat) :
    Tab.get d (Tab.put d t k v) k' = if k' = k then v else Tab.get d t k' := by
  unfold Tab.put
  by_cases hv : v = d k
  · rw [if_pos hv, Tab.get_erase]
    by_cases h : k' = k <;> simp [h, hv]
  · rw [if_neg hv, Tab.get_insert _ _ _ _ _ (Tab.erase_keys t k), Tab.get_erase]
    by_cases h : k' = k <;> simp [h]

@[simp] theorem Tab.get_put_same [DecidableEq α] (d : Nat → α) (t : Tab α) (k : Nat) (v : α) :
    Tab.get d (Tab.put d t k v) k = v := by simp [Tab.get_put]

theorem Tab.get_put_ne [DecidableEq α] (d : Nat → α) (t : Tab α) (k : Nat) (v : α) {k' : Nat} (h : k' ≠ k) :
    Tab.get d (Tab.put d t k v) k' = Tab.get d t k' := by simp [Tab.get_put, h]

theorem Tab.get_filter (d : Nat → α) (t : Tab α) (f : Nat → Bool) (k : Nat) :
    Tab.get d (t.filter (fun e => f e.1)) k = if f k then Tab.get d t k else d k := by
  induction t with
  | nil => simp
  | cons e r ih =>
    obtain ⟨a, v⟩ := e
    by_cases ha : f a = true
    · rw [List.filter_cons_of_pos (by simpa using ha)]
      by_cases h : a = k
      · subst h; simp [Tab.get, ha]
      · simp only [Tab.get, h, if_false, ih]
    · rw [List.filter_cons_of_neg (by simpa using ha), ih]
      by_cases h : a = k
      · subst h; simp [ha]
      · simp [Tab.get, h]

/-! ### The canonical form -/

theorem Tab.sortedFrom_mono {lo lo' : Nat} {t : Tab α} (h : Tab.sortedFrom lo t = true) (hl : lo' ≤ lo) : Tab.sortedFrom lo' t = true := by
  cases t with
  | nil => rfl
  | cons e r =>
    obtain ⟨a, v⟩ := e
    simp only [Tab.sortedFrom, Bool.and_eq_true, decide_eq_true_eq] at h ⊢
    exact ⟨by omega, h.2⟩

theorem Tab.sortedFrom_filter (t : Tab α) (f : Nat × α → Bool) (lo : Nat) (h : Tab.sortedFrom lo t = true) :
    Tab.sortedFrom lo (t.filter f) = true := by
  induction t generalizing lo with
  | nil => rfl
  | cons e r ih =>
    obtain ⟨a, v⟩ := e
    simp only [Tab.sortedFrom, Bool.and_eq_true, decide_eq_true_eq] at h
    by_cases hf : f (a, v) = true
    · rw [List.filter_cons_of_pos hf]
      simp only [Tab.sortedFrom, Bool.and_eq_true, decide_eq_true_eq]
      exact ⟨h.1, ih _ h.2⟩
    · rw [List.filter_cons_of_neg hf]
      exact Tab.sortedFrom_mono (ih _ h.2) (by omega)

theorem Tab.sortedFrom_insert (t : Tab α) (k : Nat) (v : α) (lo : Nat) (h : Tab.sortedFrom lo t = true) (hk : ∀ e ∈ t, e.1 ≠ k)
    (hlo : lo ≤ k) : Tab.sortedFrom lo (Tab.insert t k v) = true := by
  induction t generalizing lo with
  | nil => simp [Tab.insert, Tab.sortedFrom, hlo]
  | cons e r ih =>
    obtain ⟨a, w⟩ := e
    simp only [Tab.sortedFrom, Bool.and_eq_true, decide_eq_true_eq] at h
    have ha : a ≠ k := hk (a, w) (by simp)
    by_cases hlt : k < a
    · simp only [Tab.insert, hlt, if_true, Tab.sortedFrom, Bool.and_eq_true, decide_eq_true_eq]
      exact ⟨hlo, by omega, h.2⟩
    · simp only [Tab.insert, hlt, if_false, Tab.sortedFrom, Bool.and_eq_true, decide_eq_true_eq]
      exact ⟨h.1, ih _ h.2 (fun e he => hk e (by simp [he])) (by omega)⟩

theorem Tab.mem_insert {t : Tab α} {k : Nat} {v : α} {e : Nat × α} (h : e ∈ Tab.insert t k v) : e = (k, v) ∨ e ∈ t := by
  induction t with
  | nil => simpa [Tab.insert] using h
  | cons a r ih =>
    unfold Tab.insert at h
    split at h
    · simpa using h
    · rcases List.mem_cons.mp h with h | h
      · simp [h]
      · rcases ih h with h | h <;> simp [h]

/-- A write keeps the canonical form. -/
theorem Tab.wf_put [DecidableEq α] (d : Nat → α) (t : Tab α) (k : Nat) (v : α) (h : Tab.wf d t = true) : Tab.wf d (Tab.put d t k v) = true := by
  simp only [Tab.wf, Bool.and_eq_true, List.all_eq_true, decide_eq_true_eq] at h ⊢
  have hs : Tab.sortedFrom 0 (Tab.erase t k) = true := Tab.sortedFrom_filter _ _ _ h.1
  have he : ∀ e ∈ Tab.erase t k, e.2 ≠ d e.1 := fun e he => h.2 e (List.mem_of_mem_filter he)
  unfold Tab.put
  split
  · exact ⟨hs, he⟩
  · refine ⟨Tab.sortedFrom_insert _ _ _ _ hs (Tab.erase_keys t k) (Nat.zero_le k), fun e hm => ?_⟩
    rcases Tab.mem_insert hm with rfl | hm
    · assumption
    · exact he e hm

/-- A filter keeps the canonical form. -/
theorem Tab.wf_filter [DecidableEq α] (d : Nat → α) (t : Tab α) (f : Nat × α → Bool) (h : Tab.wf d t = true) : Tab.wf d (t.filter f) = true := by
  simp only [Tab.wf, Bool.and_eq_true, List.all_eq_true, decide_eq_true_eq] at h ⊢
  exact ⟨Tab.sortedFrom_filter _ _ _ h.1, fun e he => h.2 e (List.mem_of_mem_filter he)⟩

@[simp] theorem Tab.wf_nil [DecidableEq α] (d : Nat → α) : Tab.wf d [] = true := rfl

/-- What holds of every listed value, of the default and of the new value holds of every value after a write. -/
theorem Tab.all_put [DecidableEq α] (d : Nat → α) (p : α → Bool) (t : Tab α) (k : Nat) (v : α) (h : t.all (fun e => p e.2) = true)
    (hv : p v = true) : (Tab.put d t k v).all (fun e => p e.2) = true := by
  simp only [List.all_eq_true] at h ⊢
  intro e he
  unfold Tab.put at he
  split at he
  · exact h e (List.mem_of_mem_filter he)
  · rcases Tab.mem_insert he with rfl | hm
    · exact hv
    · exact h e (List.mem_of_mem_filter hm)

theorem Tab.get_all (d : Nat → α) (p : α → Bool) (t : Tab α) (h : t.all (fun e => p e.2) = true) (k : Nat) (hd : p (d k) = true) :
    p (Tab.get d t k) = true := by
  induction t with
  | nil => exact hd
  | cons e r ih =>
    obtain ⟨a, v⟩ := e
    simp only [List.all_cons, Bool.and_eq_true] at h
    simp only [Tab.get]
    split
    · exact h.1
    · exact ih h.2

end Sys2Proof.Machine
end

