-- ==== Sys2Proof/Laws/State.lean ====
section
/-! SUPPORT. What each update of the state leaves alone, field by field and reading by reading, and a read after a write of a register, a field, a
byte, a core, a task and a Peak. -/

namespace Sys2Proof.Machine

variable (s : State)

/-! ### Fields of the state that an update does not touch -/

@[simp] theorem State.setRegW_pending (key : Nat) (v : Word) : (s.setRegW key v).pending = s.pending := rfl
@[simp] theorem State.setRegW_tick (key : Nat) (v : Word) : (s.setRegW key v).tick = s.tick := rfl
@[simp] theorem State.setRegW_free (key : Nat) (v : Word) : (s.setRegW key v).free = s.free := rfl
@[simp] theorem State.setRegW_mem (key : Nat) (v : Word) : (s.setRegW key v).mem = s.mem := rfl
@[simp] theorem State.setRegW_cores (key : Nat) (v : Word) : (s.setRegW key v).cores = s.cores := rfl
@[simp] theorem State.setRegW_tasks (key : Nat) (v : Word) : (s.setRegW key v).tasks = s.tasks := rfl
@[simp] theorem State.setRegW_readData (key : Nat) (v : Word) : (s.setRegW key v).readData = s.readData := rfl
@[simp] theorem State.setRegW_periodCount (key : Nat) (v : Word) : (s.setRegW key v).periodCount = s.periodCount := rfl
@[simp] theorem State.setRegW_cirq (key : Nat) (v : Word) : (s.setRegW key v).cirq = s.cirq := rfl
@[simp] theorem State.setRegW_cairn (key : Nat) (v : Word) : (s.setRegW key v).cairn = s.cairn := rfl
@[simp] theorem State.setRegW_tick0 (key : Nat) (v : Word) : (s.setRegW key v).tick0 = s.tick0 := rfl
@[simp] theorem State.setRegW_mdio (key : Nat) (v : Word) : (s.setRegW key v).mdio = s.mdio := rfl
@[simp] theorem State.setRegW_saddle (key : Nat) (v : Word) : (s.setRegW key v).saddle = s.saddle := rfl
@[simp] theorem State.setRegW_gdm (key : Nat) (v : Word) : (s.setRegW key v).gdm = s.gdm := rfl
@[simp] theorem State.setRegW_saf (key : Nat) (v : Word) : (s.setRegW key v).saf = s.saf := rfl
@[simp] theorem State.setRegW_power (key : Nat) (v : Word) : (s.setRegW key v).power = s.power := rfl
@[simp] theorem State.setRegW_col (key : Nat) (v : Word) : (s.setRegW key v).col = s.col := rfl
@[simp] theorem State.setRegW_wrapTick (key : Nat) (v : Word) : (s.setRegW key v).wrapTick = s.wrapTick := rfl
@[simp] theorem State.setRegW_meanDue (key : Nat) (v : Word) : (s.setRegW key v).meanDue = s.meanDue := rfl
@[simp] theorem State.setRegW_peaks (key : Nat) (v : Word) : (s.setRegW key v).peaks = s.peaks := rfl

@[simp] theorem State.setReg_pending (p : PeakId) (a v : Nat) : (s.setReg p a v).pending = s.pending := State.setRegW_pending s _ _
@[simp] theorem State.setReg_tick (p : PeakId) (a v : Nat) : (s.setReg p a v).tick = s.tick := State.setRegW_tick s _ _
@[simp] theorem State.setReg_free (p : PeakId) (a v : Nat) : (s.setReg p a v).free = s.free := State.setRegW_free s _ _
@[simp] theorem State.setReg_mem (p : PeakId) (a v : Nat) : (s.setReg p a v).mem = s.mem := State.setRegW_mem s _ _
@[simp] theorem State.setReg_cores (p : PeakId) (a v : Nat) : (s.setReg p a v).cores = s.cores := State.setRegW_cores s _ _
@[simp] theorem State.setReg_tasks (p : PeakId) (a v : Nat) : (s.setReg p a v).tasks = s.tasks := State.setRegW_tasks s _ _
@[simp] theorem State.setReg_readData (p : PeakId) (a v : Nat) : (s.setReg p a v).readData = s.readData := State.setRegW_readData s _ _
@[simp] theorem State.setReg_periodCount (p : PeakId) (a v : Nat) : (s.setReg p a v).periodCount = s.periodCount := State.setRegW_periodCount s _ _
@[simp] theorem State.setReg_cirq (p : PeakId) (a v : Nat) : (s.setReg p a v).cirq = s.cirq := State.setRegW_cirq s _ _
@[simp] theorem State.setReg_cairn (p : PeakId) (a v : Nat) : (s.setReg p a v).cairn = s.cairn := State.setRegW_cairn s _ _
@[simp] theorem State.setReg_tick0 (p : PeakId) (a v : Nat) : (s.setReg p a v).tick0 = s.tick0 := State.setRegW_tick0 s _ _
@[simp] theorem State.setReg_mdio (p : PeakId) (a v : Nat) : (s.setReg p a v).mdio = s.mdio := State.setRegW_mdio s _ _
@[simp] theorem State.setReg_saddle (p : PeakId) (a v : Nat) : (s.setReg p a v).saddle = s.saddle := State.setRegW_saddle s _ _
@[simp] theorem State.setReg_gdm (p : PeakId) (a v : Nat) : (s.setReg p a v).gdm = s.gdm := State.setRegW_gdm s _ _
@[simp] theorem State.setReg_saf (p : PeakId) (a v : Nat) : (s.setReg p a v).saf = s.saf := State.setRegW_saf s _ _
@[simp] theorem State.setReg_power (p : PeakId) (a v : Nat) : (s.setReg p a v).power = s.power := State.setRegW_power s _ _
@[simp] theorem State.setReg_col (p : PeakId) (a v : Nat) : (s.setReg p a v).col = s.col := State.setRegW_col s _ _
@[simp] theorem State.setReg_wrapTick (p : PeakId) (a v : Nat) : (s.setReg p a v).wrapTick = s.wrapTick := State.setRegW_wrapTick s _ _
@[simp] theorem State.setReg_meanDue (p : PeakId) (a v : Nat) : (s.setReg p a v).meanDue = s.meanDue := State.setRegW_meanDue s _ _
@[simp] theorem State.setReg_peaks (p : PeakId) (a v : Nat) : (s.setReg p a v).peaks = s.peaks := State.setRegW_peaks s _ _

@[simp] theorem State.setRegI_pending (p : PeakId) (a : Nat) (v : Int) : (s.setRegI p a v).pending = s.pending := State.setRegW_pending s _ _
@[simp] theorem State.setRegI_tick (p : PeakId) (a : Nat) (v : Int) : (s.setRegI p a v).tick = s.tick := State.setRegW_tick s _ _
@[simp] theorem State.setRegI_free (p : PeakId) (a : Nat) (v : Int) : (s.setRegI p a v).free = s.free := State.setRegW_free s _ _
@[simp] theorem State.setRegI_mem (p : PeakId) (a : Nat) (v : Int) : (s.setRegI p a v).mem = s.mem := State.setRegW_mem s _ _
@[simp] theorem State.setRegI_cores (p : PeakId) (a : Nat) (v : Int) : (s.setRegI p a v).cores = s.cores := State.setRegW_cores s _ _
@[simp] theorem State.setRegI_tasks (p : PeakId) (a : Nat) (v : Int) : (s.setRegI p a v).tasks = s.tasks := State.setRegW_tasks s _ _
@[simp] theorem State.setRegI_readData (p : PeakId) (a : Nat) (v : Int) : (s.setRegI p a v).readData = s.readData := State.setRegW_readData s _ _
@[simp] theorem State.setRegI_periodCount (p : PeakId) (a : Nat) (v : Int) : (s.setRegI p a v).periodCount = s.periodCount := State.setRegW_periodCount s _ _
@[simp] theorem State.setRegI_cirq (p : PeakId) (a : Nat) (v : Int) : (s.setRegI p a v).cirq = s.cirq := State.setRegW_cirq s _ _
@[simp] theorem State.setRegI_cairn (p : PeakId) (a : Nat) (v : Int) : (s.setRegI p a v).cairn = s.cairn := State.setRegW_cairn s _ _
@[simp] theorem State.setRegI_tick0 (p : PeakId) (a : Nat) (v : Int) : (s.setRegI p a v).tick0 = s.tick0 := State.setRegW_tick0 s _ _
@[simp] theorem State.setRegI_mdio (p : PeakId) (a : Nat) (v : Int) : (s.setRegI p a v).mdio = s.mdio := State.setRegW_mdio s _ _
@[simp] theorem State.setRegI_saddle (p : PeakId) (a : Nat) (v : Int) : (s.setRegI p a v).saddle = s.saddle := State.setRegW_saddle s _ _
@[simp] theorem State.setRegI_gdm (p : PeakId) (a : Nat) (v : Int) : (s.setRegI p a v).gdm = s.gdm := State.setRegW_gdm s _ _
@[simp] theorem State.setRegI_saf (p : PeakId) (a : Nat) (v : Int) : (s.setRegI p a v).saf = s.saf := State.setRegW_saf s _ _
@[simp] theorem State.setRegI_power (p : PeakId) (a : Nat) (v : Int) : (s.setRegI p a v).power = s.power := State.setRegW_power s _ _
@[simp] theorem State.setRegI_col (p : PeakId) (a : Nat) (v : Int) : (s.setRegI p a v).col = s.col := State.setRegW_col s _ _
@[simp] theorem State.setRegI_wrapTick (p : PeakId) (a : Nat) (v : Int) : (s.setRegI p a v).wrapTick = s.wrapTick := State.setRegW_wrapTick s _ _
@[simp] theorem State.setRegI_meanDue (p : PeakId) (a : Nat) (v : Int) : (s.setRegI p a v).meanDue = s.meanDue := State.setRegW_meanDue s _ _
@[simp] theorem State.setRegI_peaks (p : PeakId) (a : Nat) (v : Int) : (s.setRegI p a v).peaks = s.peaks := State.setRegW_peaks s _ _

@[simp] theorem State.setFld_pending (p : PeakId) (f : Fld) (v : Nat) : (s.setFld p f v).pending = s.pending := State.setReg_pending s _ _ _
@[simp] theorem State.setFld_tick (p : PeakId) (f : Fld) (v : Nat) : (s.setFld p f v).tick = s.tick := State.setReg_tick s _ _ _
@[simp] theorem State.setFld_free (p : PeakId) (f : Fld) (v : Nat) : (s.setFld p f v).free = s.free := State.setReg_free s _ _ _
@[simp] theorem State.setFld_mem (p : PeakId) (f : Fld) (v : Nat) : (s.setFld p f v).mem = s.mem := State.setReg_mem s _ _ _
@[simp] theorem State.setFld_cores (p : PeakId) (f : Fld) (v : Nat) : (s.setFld p f v).cores = s.cores := State.setReg_cores s _ _ _
@[simp] theorem State.setFld_tasks (p : PeakId) (f : Fld) (v : Nat) : (s.setFld p f v).tasks = s.tasks := State.setReg_tasks s _ _ _
@[simp] theorem State.setFld_readData (p : PeakId) (f : Fld) (v : Nat) : (s.setFld p f v).readData = s.readData := State.setReg_readData s _ _ _
@[simp] theorem State.setFld_periodCount (p : PeakId) (f : Fld) (v : Nat) : (s.setFld p f v).periodCount = s.periodCount := State.setReg_periodCount s _ _ _
@[simp] theorem State.setFld_cirq (p : PeakId) (f : Fld) (v : Nat) : (s.setFld p f v).cirq = s.cirq := State.setReg_cirq s _ _ _
@[simp] theorem State.setFld_cairn (p : PeakId) (f : Fld) (v : Nat) : (s.setFld p f v).cairn = s.cairn := State.setReg_cairn s _ _ _
@[simp] theorem State.setFld_tick0 (p : PeakId) (f : Fld) (v : Nat) : (s.setFld p f v).tick0 = s.tick0 := State.setReg_tick0 s _ _ _
@[simp] theorem State.setFld_mdio (p : PeakId) (f : Fld) (v : Nat) : (s.setFld p f v).mdio = s.mdio := State.setReg_mdio s _ _ _
@[simp] theorem State.setFld_saddle (p : PeakId) (f : Fld) (v : Nat) : (s.setFld p f v).saddle = s.saddle := State.setReg_saddle s _ _ _
@[simp] theorem State.setFld_gdm (p : PeakId) (f : Fld) (v : Nat) : (s.setFld p f v).gdm = s.gdm := State.setReg_gdm s _ _ _
@[simp] theorem State.setFld_saf (p : PeakId) (f : Fld) (v : Nat) : (s.setFld p f v).saf = s.saf := State.setReg_saf s _ _ _
@[simp] theorem State.setFld_power (p : PeakId) (f : Fld) (v : Nat) : (s.setFld p f v).power = s.power := State.setReg_power s _ _ _
@[simp] theorem State.setFld_col (p : PeakId) (f : Fld) (v : Nat) : (s.setFld p f v).col = s.col := State.setReg_col s _ _ _
@[simp] theorem State.setFld_wrapTick (p : PeakId) (f : Fld) (v : Nat) : (s.setFld p f v).wrapTick = s.wrapTick := State.setReg_wrapTick s _ _ _
@[simp] theorem State.setFld_meanDue (p : PeakId) (f : Fld) (v : Nat) : (s.setFld p f v).meanDue = s.meanDue := State.setReg_meanDue s _ _ _
@[simp] theorem State.setFld_peaks (p : PeakId) (f : Fld) (v : Nat) : (s.setFld p f v).peaks = s.peaks := State.setReg_peaks s _ _ _

@[simp] theorem State.setBit_pending (p : PeakId) (f : Fld) (v : Bool) : (s.setBit p f v).pending = s.pending := State.setFld_pending s _ _ _
@[simp] theorem State.setBit_tick (p : PeakId) (f : Fld) (v : Bool) : (s.setBit p f v).tick = s.tick := State.setFld_tick s _ _ _
@[simp] theorem State.setBit_free (p : PeakId) (f : Fld) (v : Bool) : (s.setBit p f v).free = s.free := State.setFld_free s _ _ _
@[simp] theorem State.setBit_mem (p : PeakId) (f : Fld) (v : Bool) : (s.setBit p f v).mem = s.mem := State.setFld_mem s _ _ _
@[simp] theorem State.setBit_cores (p : PeakId) (f : Fld) (v : Bool) : (s.setBit p f v).cores = s.cores := State.setFld_cores s _ _ _
@[simp] theorem State.setBit_tasks (p : PeakId) (f : Fld) (v : Bool) : (s.setBit p f v).tasks = s.tasks := State.setFld_tasks s _ _ _
@[simp] theorem State.setBit_readData (p : PeakId) (f : Fld) (v : Bool) : (s.setBit p f v).readData = s.readData := State.setFld_readData s _ _ _
@[simp] theorem State.setBit_periodCount (p : PeakId) (f : Fld) (v : Bool) : (s.setBit p f v).periodCount = s.periodCount := State.setFld_periodCount s _ _ _
@[simp] theorem State.setBit_cirq (p : PeakId) (f : Fld) (v : Bool) : (s.setBit p f v).cirq = s.cirq := State.setFld_cirq s _ _ _
@[simp] theorem State.setBit_cairn (p : PeakId) (f : Fld) (v : Bool) : (s.setBit p f v).cairn = s.cairn := State.setFld_cairn s _ _ _
@[simp] theorem State.setBit_tick0 (p : PeakId) (f : Fld) (v : Bool) : (s.setBit p f v).tick0 = s.tick0 := State.setFld_tick0 s _ _ _
@[simp] theorem State.setBit_mdio (p : PeakId) (f : Fld) (v : Bool) : (s.setBit p f v).mdio = s.mdio := State.setFld_mdio s _ _ _
@[simp] theorem State.setBit_saddle (p : PeakId) (f : Fld) (v : Bool) : (s.setBit p f v).saddle = s.saddle := State.setFld_saddle s _ _ _
@[simp] theorem State.setBit_gdm (p : PeakId) (f : Fld) (v : Bool) : (s.setBit p f v).gdm = s.gdm := State.setFld_gdm s _ _ _
@[simp] theorem State.setBit_saf (p : PeakId) (f : Fld) (v : Bool) : (s.setBit p f v).saf = s.saf := State.setFld_saf s _ _ _
@[simp] theorem State.setBit_power (p : PeakId) (f : Fld) (v : Bool) : (s.setBit p f v).power = s.power := State.setFld_power s _ _ _
@[simp] theorem State.setBit_col (p : PeakId) (f : Fld) (v : Bool) : (s.setBit p f v).col = s.col := State.setFld_col s _ _ _
@[simp] theorem State.setBit_wrapTick (p : PeakId) (f : Fld) (v : Bool) : (s.setBit p f v).wrapTick = s.wrapTick := State.setFld_wrapTick s _ _ _
@[simp] theorem State.setBit_meanDue (p : PeakId) (f : Fld) (v : Bool) : (s.setBit p f v).meanDue = s.meanDue := State.setFld_meanDue s _ _ _
@[simp] theorem State.setBit_peaks (p : PeakId) (f : Fld) (v : Bool) : (s.setBit p f v).peaks = s.peaks := State.setFld_peaks s _ _ _

@[simp] theorem State.raise_pending (p : PeakId) (f : Fld) : (s.raise p f).pending = s.pending := State.setFld_pending s _ _ _
@[simp] theorem State.raise_tick (p : PeakId) (f : Fld) : (s.raise p f).tick = s.tick := State.setFld_tick s _ _ _
@[simp] theorem State.raise_free (p : PeakId) (f : Fld) : (s.raise p f).free = s.free := State.setFld_free s _ _ _
@[simp] theorem State.raise_mem (p : PeakId) (f : Fld) : (s.raise p f).mem = s.mem := State.setFld_mem s _ _ _
@[simp] theorem State.raise_cores (p : PeakId) (f : Fld) : (s.raise p f).cores = s.cores := State.setFld_cores s _ _ _
@[simp] theorem State.raise_tasks (p : PeakId) (f : Fld) : (s.raise p f).tasks = s.tasks := State.setFld_tasks s _ _ _
@[simp] theorem State.raise_readData (p : PeakId) (f : Fld) : (s.raise p f).readData = s.readData := State.setFld_readData s _ _ _
@[simp] theorem State.raise_periodCount (p : PeakId) (f : Fld) : (s.raise p f).periodCount = s.periodCount := State.setFld_periodCount s _ _ _
@[simp] theorem State.raise_cirq (p : PeakId) (f : Fld) : (s.raise p f).cirq = s.cirq := State.setFld_cirq s _ _ _
@[simp] theorem State.raise_cairn (p : PeakId) (f : Fld) : (s.raise p f).cairn = s.cairn := State.setFld_cairn s _ _ _
@[simp] theorem State.raise_tick0 (p : PeakId) (f : Fld) : (s.raise p f).tick0 = s.tick0 := State.setFld_tick0 s _ _ _
@[simp] theorem State.raise_mdio (p : PeakId) (f : Fld) : (s.raise p f).mdio = s.mdio := State.setFld_mdio s _ _ _
@[simp] theorem State.raise_saddle (p : PeakId) (f : Fld) : (s.raise p f).saddle = s.saddle := State.setFld_saddle s _ _ _
@[simp] theorem State.raise_gdm (p : PeakId) (f : Fld) : (s.raise p f).gdm = s.gdm := State.setFld_gdm s _ _ _
@[simp] theorem State.raise_saf (p : PeakId) (f : Fld) : (s.raise p f).saf = s.saf := State.setFld_saf s _ _ _
@[simp] theorem State.raise_power (p : PeakId) (f : Fld) : (s.raise p f).power = s.power := State.setFld_power s _ _ _
@[simp] theorem State.raise_col (p : PeakId) (f : Fld) : (s.raise p f).col = s.col := State.setFld_col s _ _ _
@[simp] theorem State.raise_wrapTick (p : PeakId) (f : Fld) : (s.raise p f).wrapTick = s.wrapTick := State.setFld_wrapTick s _ _ _
@[simp] theorem State.raise_meanDue (p : PeakId) (f : Fld) : (s.raise p f).meanDue = s.meanDue := State.setFld_meanDue s _ _ _
@[simp] theorem State.raise_peaks (p : PeakId) (f : Fld) : (s.raise p f).peaks = s.peaks := State.setFld_peaks s _ _ _

@[simp] theorem State.setBoth_pending (f : Fld) (v : Nat) : (s.setBoth f v).pending = s.pending := (State.setFld_pending (s.setFld .a f v) .b f v).trans (State.setFld_pending s .a f v)
@[simp] theorem State.setBoth_tick (f : Fld) (v : Nat) : (s.setBoth f v).tick = s.tick := (State.setFld_tick (s.setFld .a f v) .b f v).trans (State.setFld_tick s .a f v)
@[simp] theorem State.setBoth_free (f : Fld) (v : Nat) : (s.setBoth f v).free = s.free := (State.setFld_free (s.setFld .a f v) .b f v).trans (State.setFld_free s .a f v)
@[simp] theorem State.setBoth_mem (f : Fld) (v : Nat) : (s.setBoth f v).mem = s.mem := (State.setFld_mem (s.setFld .a f v) .b f v).trans (State.setFld_mem s .a f v)
@[simp] theorem State.setBoth_cores (f : Fld) (v : Nat) : (s.setBoth f v).cores = s.cores := (State.setFld_cores (s.setFld .a f v) .b f v).trans (State.setFld_cores s .a f v)
@[simp] theorem State.setBoth_tasks (f : Fld) (v : Nat) : (s.setBoth f v).tasks = s.tasks := (State.setFld_tasks (s.setFld .a f v) .b f v).trans (State.setFld_tasks s .a f v)
@[simp] theorem State.setBoth_readData (f : Fld) (v : Nat) : (s.setBoth f v).readData = s.readData := (State.setFld_readData (s.setFld .a f v) .b f v).trans (State.setFld_readData s .a f v)
@[simp] theorem State.setBoth_periodCount (f : Fld) (v : Nat) : (s.setBoth f v).periodCount = s.periodCount := (State.setFld_periodCount (s.setFld .a f v) .b f v).trans (State.setFld_periodCount s .a f v)
@[simp] theorem State.setBoth_cirq (f : Fld) (v : Nat) : (s.setBoth f v).cirq = s.cirq := (State.setFld_cirq (s.setFld .a f v) .b f v).trans (State.setFld_cirq s .a f v)
@[simp] theorem State.setBoth_cairn (f : Fld) (v : Nat) : (s.setBoth f v).cairn = s.cairn := (State.setFld_cairn (s.setFld .a f v) .b f v).trans (State.setFld_cairn s .a f v)
@[simp] theorem State.setBoth_tick0 (f : Fld) (v : Nat) : (s.setBoth f v).tick0 = s.tick0 := (State.setFld_tick0 (s.setFld .a f v) .b f v).trans (State.setFld_tick0 s .a f v)
@[simp] theorem State.setBoth_mdio (f : Fld) (v : Nat) : (s.setBoth f v).mdio = s.mdio := (State.setFld_mdio (s.setFld .a f v) .b f v).trans (State.setFld_mdio s .a f v)
@[simp] theorem State.setBoth_saddle (f : Fld) (v : Nat) : (s.setBoth f v).saddle = s.saddle := (State.setFld_saddle (s.setFld .a f v) .b f v).trans (State.setFld_saddle s .a f v)
@[simp] theorem State.setBoth_gdm (f : Fld) (v : Nat) : (s.setBoth f v).gdm = s.gdm := (State.setFld_gdm (s.setFld .a f v) .b f v).trans (State.setFld_gdm s .a f v)
@[simp] theorem State.setBoth_saf (f : Fld) (v : Nat) : (s.setBoth f v).saf = s.saf := (State.setFld_saf (s.setFld .a f v) .b f v).trans (State.setFld_saf s .a f v)
@[simp] theorem State.setBoth_power (f : Fld) (v : Nat) : (s.setBoth f v).power = s.power := (State.setFld_power (s.setFld .a f v) .b f v).trans (State.setFld_power s .a f v)
@[simp] theorem State.setBoth_col (f : Fld) (v : Nat) : (s.setBoth f v).col = s.col := (State.setFld_col (s.setFld .a f v) .b f v).trans (State.setFld_col s .a f v)
@[simp] theorem State.setBoth_wrapTick (f : Fld) (v : Nat) : (s.setBoth f v).wrapTick = s.wrapTick := (State.setFld_wrapTick (s.setFld .a f v) .b f v).trans (State.setFld_wrapTick s .a f v)
@[simp] theorem State.setBoth_meanDue (f : Fld) (v : Nat) : (s.setBoth f v).meanDue = s.meanDue := (State.setFld_meanDue (s.setFld .a f v) .b f v).trans (State.setFld_meanDue s .a f v)
@[simp] theorem State.setBoth_peaks (f : Fld) (v : Nat) : (s.setBoth f v).peaks = s.peaks := (State.setFld_peaks (s.setFld .a f v) .b f v).trans (State.setFld_peaks s .a f v)

@[simp] theorem State.setGwFld_pending (f : Fld) (v : Nat) : (s.setGwFld f v).pending = s.pending := State.setRegW_pending s _ _
@[simp] theorem State.setGwFld_tick (f : Fld) (v : Nat) : (s.setGwFld f v).tick = s.tick := State.setRegW_tick s _ _
@[simp] theorem State.setGwFld_free (f : Fld) (v : Nat) : (s.setGwFld f v).free = s.free := State.setRegW_free s _ _
@[simp] theorem State.setGwFld_mem (f : Fld) (v : Nat) : (s.setGwFld f v).mem = s.mem := State.setRegW_mem s _ _
@[simp] theorem State.setGwFld_cores (f : Fld) (v : Nat) : (s.setGwFld f v).cores = s.cores := State.setRegW_cores s _ _
@[simp] theorem State.setGwFld_tasks (f : Fld) (v : Nat) : (s.setGwFld f v).tasks = s.tasks := State.setRegW_tasks s _ _
@[simp] theorem State.setGwFld_readData (f : Fld) (v : Nat) : (s.setGwFld f v).readData = s.readData := State.setRegW_readData s _ _
@[simp] theorem State.setGwFld_periodCount (f : Fld) (v : Nat) : (s.setGwFld f v).periodCount = s.periodCount := State.setRegW_periodCount s _ _
@[simp] theorem State.setGwFld_cirq (f : Fld) (v : Nat) : (s.setGwFld f v).cirq = s.cirq := State.setRegW_cirq s _ _
@[simp] theorem State.setGwFld_cairn (f : Fld) (v : Nat) : (s.setGwFld f v).cairn = s.cairn := State.setRegW_cairn s _ _
@[simp] theorem State.setGwFld_tick0 (f : Fld) (v : Nat) : (s.setGwFld f v).tick0 = s.tick0 := State.setRegW_tick0 s _ _
@[simp] theorem State.setGwFld_mdio (f : Fld) (v : Nat) : (s.setGwFld f v).mdio = s.mdio := State.setRegW_mdio s _ _
@[simp] theorem State.setGwFld_saddle (f : Fld) (v : Nat) : (s.setGwFld f v).saddle = s.saddle := State.setRegW_saddle s _ _
@[simp] theorem State.setGwFld_gdm (f : Fld) (v : Nat) : (s.setGwFld f v).gdm = s.gdm := State.setRegW_gdm s _ _
@[simp] theorem State.setGwFld_saf (f : Fld) (v : Nat) : (s.setGwFld f v).saf = s.saf := State.setRegW_saf s _ _
@[simp] theorem State.setGwFld_power (f : Fld) (v : Nat) : (s.setGwFld f v).power = s.power := State.setRegW_power s _ _
@[simp] theorem State.setGwFld_col (f : Fld) (v : Nat) : (s.setGwFld f v).col = s.col := State.setRegW_col s _ _
@[simp] theorem State.setGwFld_wrapTick (f : Fld) (v : Nat) : (s.setGwFld f v).wrapTick = s.wrapTick := State.setRegW_wrapTick s _ _
@[simp] theorem State.setGwFld_meanDue (f : Fld) (v : Nat) : (s.setGwFld f v).meanDue = s.meanDue := State.setRegW_meanDue s _ _
@[simp] theorem State.setGwFld_peaks (f : Fld) (v : Nat) : (s.setGwFld f v).peaks = s.peaks := State.setRegW_peaks s _ _

@[simp] theorem State.bump_pending (p : PeakId) (c f : Fld) : (s.bump p c f).pending = s.pending := by unfold State.bump; split <;> exact State.setFld_pending s _ _ _
@[simp] theorem State.bump_tick (p : PeakId) (c f : Fld) : (s.bump p c f).tick = s.tick := by unfold State.bump; split <;> exact State.setFld_tick s _ _ _
@[simp] theorem State.bump_free (p : PeakId) (c f : Fld) : (s.bump p c f).free = s.free := by unfold State.bump; split <;> exact State.setFld_free s _ _ _
@[simp] theorem State.bump_mem (p : PeakId) (c f : Fld) : (s.bump p c f).mem = s.mem := by unfold State.bump; split <;> exact State.setFld_mem s _ _ _
@[simp] theorem State.bump_cores (p : PeakId) (c f : Fld) : (s.bump p c f).cores = s.cores := by unfold State.bump; split <;> exact State.setFld_cores s _ _ _
@[simp] theorem State.bump_tasks (p : PeakId) (c f : Fld) : (s.bump p c f).tasks = s.tasks := by unfold State.bump; split <;> exact State.setFld_tasks s _ _ _
@[simp] theorem State.bump_readData (p : PeakId) (c f : Fld) : (s.bump p c f).readData = s.readData := by unfold State.bump; split <;> exact State.setFld_readData s _ _ _
@[simp] theorem State.bump_periodCount (p : PeakId) (c f : Fld) : (s.bump p c f).periodCount = s.periodCount := by unfold State.bump; split <;> exact State.setFld_periodCount s _ _ _
@[simp] theorem State.bump_cirq (p : PeakId) (c f : Fld) : (s.bump p c f).cirq = s.cirq := by unfold State.bump; split <;> exact State.setFld_cirq s _ _ _
@[simp] theorem State.bump_cairn (p : PeakId) (c f : Fld) : (s.bump p c f).cairn = s.cairn := by unfold State.bump; split <;> exact State.setFld_cairn s _ _ _
@[simp] theorem State.bump_tick0 (p : PeakId) (c f : Fld) : (s.bump p c f).tick0 = s.tick0 := by unfold State.bump; split <;> exact State.setFld_tick0 s _ _ _
@[simp] theorem State.bump_mdio (p : PeakId) (c f : Fld) : (s.bump p c f).mdio = s.mdio := by unfold State.bump; split <;> exact State.setFld_mdio s _ _ _
@[simp] theorem State.bump_saddle (p : PeakId) (c f : Fld) : (s.bump p c f).saddle = s.saddle := by unfold State.bump; split <;> exact State.setFld_saddle s _ _ _
@[simp] theorem State.bump_gdm (p : PeakId) (c f : Fld) : (s.bump p c f).gdm = s.gdm := by unfold State.bump; split <;> exact State.setFld_gdm s _ _ _
@[simp] theorem State.bump_saf (p : PeakId) (c f : Fld) : (s.bump p c f).saf = s.saf := by unfold State.bump; split <;> exact State.setFld_saf s _ _ _
@[simp] theorem State.bump_power (p : PeakId) (c f : Fld) : (s.bump p c f).power = s.power := by unfold State.bump; split <;> exact State.setFld_power s _ _ _
@[simp] theorem State.bump_col (p : PeakId) (c f : Fld) : (s.bump p c f).col = s.col := by unfold State.bump; split <;> exact State.setFld_col s _ _ _
@[simp] theorem State.bump_wrapTick (p : PeakId) (c f : Fld) : (s.bump p c f).wrapTick = s.wrapTick := by unfold State.bump; split <;> exact State.setFld_wrapTick s _ _ _
@[simp] theorem State.bump_meanDue (p : PeakId) (c f : Fld) : (s.bump p c f).meanDue = s.meanDue := by unfold State.bump; split <;> exact State.setFld_meanDue s _ _ _
@[simp] theorem State.bump_peaks (p : PeakId) (c f : Fld) : (s.bump p c f).peaks = s.peaks := by unfold State.bump; split <;> exact State.setFld_peaks s _ _ _

@[simp] theorem State.setByte_pending (key : Nat) (v : Byte) : (s.setByte key v).pending = s.pending := rfl
@[simp] theorem State.setByte_tick (key : Nat) (v : Byte) : (s.setByte key v).tick = s.tick := rfl
@[simp] theorem State.setByte_free (key : Nat) (v : Byte) : (s.setByte key v).free = s.free := rfl
@[simp] theorem State.setByte_regs (key : Nat) (v : Byte) : (s.setByte key v).regs = s.regs := rfl
@[simp] theorem State.setByte_cores (key : Nat) (v : Byte) : (s.setByte key v).cores = s.cores := rfl
@[simp] theorem State.setByte_tasks (key : Nat) (v : Byte) : (s.setByte key v).tasks = s.tasks := rfl
@[simp] theorem State.setByte_readData (key : Nat) (v : Byte) : (s.setByte key v).readData = s.readData := rfl
@[simp] theorem State.setByte_periodCount (key : Nat) (v : Byte) : (s.setByte key v).periodCount = s.periodCount := rfl
@[simp] theorem State.setByte_cirq (key : Nat) (v : Byte) : (s.setByte key v).cirq = s.cirq := rfl
@[simp] theorem State.setByte_cairn (key : Nat) (v : Byte) : (s.setByte key v).cairn = s.cairn := rfl
@[simp] theorem State.setByte_tick0 (key : Nat) (v : Byte) : (s.setByte key v).tick0 = s.tick0 := rfl
@[simp] theorem State.setByte_mdio (key : Nat) (v : Byte) : (s.setByte key v).mdio = s.mdio := rfl
@[simp] theorem State.setByte_saddle (key : Nat) (v : Byte) : (s.setByte key v).saddle = s.saddle := rfl
@[simp] theorem State.setByte_gdm (key : Nat) (v : Byte) : (s.setByte key v).gdm = s.gdm := rfl
@[simp] theorem State.setByte_saf (key : Nat) (v : Byte) : (s.setByte key v).saf = s.saf := rfl
@[simp] theorem State.setByte_power (key : Nat) (v : Byte) : (s.setByte key v).power = s.power := rfl
@[simp] theorem State.setByte_col (key : Nat) (v : Byte) : (s.setByte key v).col = s.col := rfl
@[simp] theorem State.setByte_wrapTick (key : Nat) (v : Byte) : (s.setByte key v).wrapTick = s.wrapTick := rfl
@[simp] theorem State.setByte_meanDue (key : Nat) (v : Byte) : (s.setByte key v).meanDue = s.meanDue := rfl
@[simp] theorem State.setByte_peaks (key : Nat) (v : Byte) : (s.setByte key v).peaks = s.peaks := rfl

@[simp] theorem State.setCore_pending (k : CoreSel) (c : Core) : (s.setCore k c).pending = s.pending := rfl
@[simp] theorem State.setCore_tick (k : CoreSel) (c : Core) : (s.setCore k c).tick = s.tick := rfl
@[simp] theorem State.setCore_free (k : CoreSel) (c : Core) : (s.setCore k c).free = s.free := rfl
@[simp] theorem State.setCore_regs (k : CoreSel) (c : Core) : (s.setCore k c).regs = s.regs := rfl
@[simp] theorem State.setCore_mem (k : CoreSel) (c : Core) : (s.setCore k c).mem = s.mem := rfl
@[simp] theorem State.setCore_tasks (k : CoreSel) (c : Core) : (s.setCore k c).tasks = s.tasks := rfl
@[simp] theorem State.setCore_readData (k : CoreSel) (c : Core) : (s.setCore k c).readData = s.readData := rfl
@[simp] theorem State.setCore_periodCount (k : CoreSel) (c : Core) : (s.setCore k c).periodCount = s.periodCount := rfl
@[simp] theorem State.setCore_cirq (k : CoreSel) (c : Core) : (s.setCore k c).cirq = s.cirq := rfl
@[simp] theorem State.setCore_cairn (k : CoreSel) (c : Core) : (s.setCore k c).cairn = s.cairn := rfl
@[simp] theorem State.setCore_tick0 (k : CoreSel) (c : Core) : (s.setCore k c).tick0 = s.tick0 := rfl
@[simp] theorem State.setCore_mdio (k : CoreSel) (c : Core) : (s.setCore k c).mdio = s.mdio := rfl
@[simp] theorem State.setCore_saddle (k : CoreSel) (c : Core) : (s.setCore k c).saddle = s.saddle := rfl
@[simp] theorem State.setCore_gdm (k : CoreSel) (c : Core) : (s.setCore k c).gdm = s.gdm := rfl
@[simp] theorem State.setCore_saf (k : CoreSel) (c : Core) : (s.setCore k c).saf = s.saf := rfl
@[simp] theorem State.setCore_power (k : CoreSel) (c : Core) : (s.setCore k c).power = s.power := rfl
@[simp] theorem State.setCore_col (k : CoreSel) (c : Core) : (s.setCore k c).col = s.col := rfl
@[simp] theorem State.setCore_wrapTick (k : CoreSel) (c : Core) : (s.setCore k c).wrapTick = s.wrapTick := rfl
@[simp] theorem State.setCore_meanDue (k : CoreSel) (c : Core) : (s.setCore k c).meanDue = s.meanDue := rfl
@[simp] theorem State.setCore_peaks (k : CoreSel) (c : Core) : (s.setCore k c).peaks = s.peaks := rfl

@[simp] theorem State.setTask_pending (p : PeakId) (n : Nat) (t : Task) : (s.setTask p n t).pending = s.pending := rfl
@[simp] theorem State.setTask_tick (p : PeakId) (n : Nat) (t : Task) : (s.setTask p n t).tick = s.tick := rfl
@[simp] theorem State.setTask_free (p : PeakId) (n : Nat) (t : Task) : (s.setTask p n t).free = s.free := rfl
@[simp] theorem State.setTask_regs (p : PeakId) (n : Nat) (t : Task) : (s.setTask p n t).regs = s.regs := rfl
@[simp] theorem State.setTask_mem (p : PeakId) (n : Nat) (t : Task) : (s.setTask p n t).mem = s.mem := rfl
@[simp] theorem State.setTask_cores (p : PeakId) (n : Nat) (t : Task) : (s.setTask p n t).cores = s.cores := rfl
@[simp] theorem State.setTask_readData (p : PeakId) (n : Nat) (t : Task) : (s.setTask p n t).readData = s.readData := rfl
@[simp] theorem State.setTask_periodCount (p : PeakId) (n : Nat) (t : Task) : (s.setTask p n t).periodCount = s.periodCount := rfl
@[simp] theorem State.setTask_cirq (p : PeakId) (n : Nat) (t : Task) : (s.setTask p n t).cirq = s.cirq := rfl
@[simp] theorem State.setTask_cairn (p : PeakId) (n : Nat) (t : Task) : (s.setTask p n t).cairn = s.cairn := rfl
@[simp] theorem State.setTask_tick0 (p : PeakId) (n : Nat) (t : Task) : (s.setTask p n t).tick0 = s.tick0 := rfl
@[simp] theorem State.setTask_mdio (p : PeakId) (n : Nat) (t : Task) : (s.setTask p n t).mdio = s.mdio := rfl
@[simp] theorem State.setTask_saddle (p : PeakId) (n : Nat) (t : Task) : (s.setTask p n t).saddle = s.saddle := rfl
@[simp] theorem State.setTask_gdm (p : PeakId) (n : Nat) (t : Task) : (s.setTask p n t).gdm = s.gdm := rfl
@[simp] theorem State.setTask_saf (p : PeakId) (n : Nat) (t : Task) : (s.setTask p n t).saf = s.saf := rfl
@[simp] theorem State.setTask_power (p : PeakId) (n : Nat) (t : Task) : (s.setTask p n t).power = s.power := rfl
@[simp] theorem State.setTask_col (p : PeakId) (n : Nat) (t : Task) : (s.setTask p n t).col = s.col := rfl
@[simp] theorem State.setTask_wrapTick (p : PeakId) (n : Nat) (t : Task) : (s.setTask p n t).wrapTick = s.wrapTick := rfl
@[simp] theorem State.setTask_meanDue (p : PeakId) (n : Nat) (t : Task) : (s.setTask p n t).meanDue = s.meanDue := rfl
@[simp] theorem State.setTask_peaks (p : PeakId) (n : Nat) (t : Task) : (s.setTask p n t).peaks = s.peaks := rfl

@[simp] theorem State.setPeak_pending (p : PeakId) (k : Peak) : (s.setPeak p k).pending = s.pending := rfl
@[simp] theorem State.setPeak_tick (p : PeakId) (k : Peak) : (s.setPeak p k).tick = s.tick := rfl
@[simp] theorem State.setPeak_free (p : PeakId) (k : Peak) : (s.setPeak p k).free = s.free := rfl
@[simp] theorem State.setPeak_regs (p : PeakId) (k : Peak) : (s.setPeak p k).regs = s.regs := rfl
@[simp] theorem State.setPeak_mem (p : PeakId) (k : Peak) : (s.setPeak p k).mem = s.mem := rfl
@[simp] theorem State.setPeak_cores (p : PeakId) (k : Peak) : (s.setPeak p k).cores = s.cores := rfl
@[simp] theorem State.setPeak_tasks (p : PeakId) (k : Peak) : (s.setPeak p k).tasks = s.tasks := rfl
@[simp] theorem State.setPeak_readData (p : PeakId) (k : Peak) : (s.setPeak p k).readData = s.readData := rfl
@[simp] theorem State.setPeak_periodCount (p : PeakId) (k : Peak) : (s.setPeak p k).periodCount = s.periodCount := rfl
@[simp] theorem State.setPeak_cirq (p : PeakId) (k : Peak) : (s.setPeak p k).cirq = s.cirq := rfl
@[simp] theorem State.setPeak_cairn (p : PeakId) (k : Peak) : (s.setPeak p k).cairn = s.cairn := rfl
@[simp] theorem State.setPeak_tick0 (p : PeakId) (k : Peak) : (s.setPeak p k).tick0 = s.tick0 := rfl
@[simp] theorem State.setPeak_mdio (p : PeakId) (k : Peak) : (s.setPeak p k).mdio = s.mdio := rfl
@[simp] theorem State.setPeak_saddle (p : PeakId) (k : Peak) : (s.setPeak p k).saddle = s.saddle := rfl
@[simp] theorem State.setPeak_gdm (p : PeakId) (k : Peak) : (s.setPeak p k).gdm = s.gdm := rfl
@[simp] theorem State.setPeak_saf (p : PeakId) (k : Peak) : (s.setPeak p k).saf = s.saf := rfl
@[simp] theorem State.setPeak_power (p : PeakId) (k : Peak) : (s.setPeak p k).power = s.power := rfl
@[simp] theorem State.setPeak_col (p : PeakId) (k : Peak) : (s.setPeak p k).col = s.col := rfl
@[simp] theorem State.setPeak_wrapTick (p : PeakId) (k : Peak) : (s.setPeak p k).wrapTick = s.wrapTick := rfl
@[simp] theorem State.setPeak_meanDue (p : PeakId) (k : Peak) : (s.setPeak p k).meanDue = s.meanDue := rfl

@[simp] theorem State.setTb_pending (n : Nat) (t : Tb) : (s.setTb n t).pending = s.pending := rfl
@[simp] theorem State.setTb_tick (n : Nat) (t : Tb) : (s.setTb n t).tick = s.tick := rfl
@[simp] theorem State.setTb_free (n : Nat) (t : Tb) : (s.setTb n t).free = s.free := rfl
@[simp] theorem State.setTb_regs (n : Nat) (t : Tb) : (s.setTb n t).regs = s.regs := rfl
@[simp] theorem State.setTb_mem (n : Nat) (t : Tb) : (s.setTb n t).mem = s.mem := rfl
@[simp] theorem State.setTb_cores (n : Nat) (t : Tb) : (s.setTb n t).cores = s.cores := rfl
@[simp] theorem State.setTb_tasks (n : Nat) (t : Tb) : (s.setTb n t).tasks = s.tasks := rfl
@[simp] theorem State.setTb_readData (n : Nat) (t : Tb) : (s.setTb n t).readData = s.readData := rfl
@[simp] theorem State.setTb_periodCount (n : Nat) (t : Tb) : (s.setTb n t).periodCount = s.periodCount := rfl
@[simp] theorem State.setTb_cirq (n : Nat) (t : Tb) : (s.setTb n t).cirq = s.cirq := rfl
@[simp] theorem State.setTb_cairn (n : Nat) (t : Tb) : (s.setTb n t).cairn = s.cairn := rfl
@[simp] theorem State.setTb_tick0 (n : Nat) (t : Tb) : (s.setTb n t).tick0 = s.tick0 := rfl
@[simp] theorem State.setTb_mdio (n : Nat) (t : Tb) : (s.setTb n t).mdio = s.mdio := rfl
@[simp] theorem State.setTb_gdm (n : Nat) (t : Tb) : (s.setTb n t).gdm = s.gdm := rfl
@[simp] theorem State.setTb_saf (n : Nat) (t : Tb) : (s.setTb n t).saf = s.saf := rfl
@[simp] theorem State.setTb_power (n : Nat) (t : Tb) : (s.setTb n t).power = s.power := rfl
@[simp] theorem State.setTb_col (n : Nat) (t : Tb) : (s.setTb n t).col = s.col := rfl
@[simp] theorem State.setTb_wrapTick (n : Nat) (t : Tb) : (s.setTb n t).wrapTick = s.wrapTick := rfl
@[simp] theorem State.setTb_meanDue (n : Nat) (t : Tb) : (s.setTb n t).meanDue = s.meanDue := rfl
@[simp] theorem State.setTb_peaks (n : Nat) (t : Tb) : (s.setTb n t).peaks = s.peaks := rfl

@[simp] theorem State.setPair_pending (n : Nat) (x : Pair) : (s.setPair n x).pending = s.pending := rfl
@[simp] theorem State.setPair_tick (n : Nat) (x : Pair) : (s.setPair n x).tick = s.tick := rfl
@[simp] theorem State.setPair_free (n : Nat) (x : Pair) : (s.setPair n x).free = s.free := rfl
@[simp] theorem State.setPair_regs (n : Nat) (x : Pair) : (s.setPair n x).regs = s.regs := rfl
@[simp] theorem State.setPair_mem (n : Nat) (x : Pair) : (s.setPair n x).mem = s.mem := rfl
@[simp] theorem State.setPair_cores (n : Nat) (x : Pair) : (s.setPair n x).cores = s.cores := rfl
@[simp] theorem State.setPair_tasks (n : Nat) (x : Pair) : (s.setPair n x).tasks = s.tasks := rfl
@[simp] theorem State.setPair_readData (n : Nat) (x : Pair) : (s.setPair n x).readData = s.readData := rfl
@[simp] theorem State.setPair_periodCount (n : Nat) (x : Pair) : (s.setPair n x).periodCount = s.periodCount := rfl
@[simp] theorem State.setPair_cirq (n : Nat) (x : Pair) : (s.setPair n x).cirq = s.cirq := rfl
@[simp] theorem State.setPair_cairn (n : Nat) (x : Pair) : (s.setPair n x).cairn = s.cairn := rfl
@[simp] theorem State.setPair_tick0 (n : Nat) (x : Pair) : (s.setPair n x).tick0 = s.tick0 := rfl
@[simp] theorem State.setPair_mdio (n : Nat) (x : Pair) : (s.setPair n x).mdio = s.mdio := rfl
@[simp] theorem State.setPair_gdm (n : Nat) (x : Pair) : (s.setPair n x).gdm = s.gdm := rfl
@[simp] theorem State.setPair_saf (n : Nat) (x : Pair) : (s.setPair n x).saf = s.saf := rfl
@[simp] theorem State.setPair_power (n : Nat) (x : Pair) : (s.setPair n x).power = s.power := rfl
@[simp] theorem State.setPair_col (n : Nat) (x : Pair) : (s.setPair n x).col = s.col := rfl
@[simp] theorem State.setPair_wrapTick (n : Nat) (x : Pair) : (s.setPair n x).wrapTick = s.wrapTick := rfl
@[simp] theorem State.setPair_meanDue (n : Nat) (x : Pair) : (s.setPair n x).meanDue = s.meanDue := rfl
@[simp] theorem State.setPair_peaks (n : Nat) (x : Pair) : (s.setPair n x).peaks = s.peaks := rfl

@[simp] theorem State.setChan_pending (n : Nat) (x : Chan) : (s.setChan n x).pending = s.pending := rfl
@[simp] theorem State.setChan_tick (n : Nat) (x : Chan) : (s.setChan n x).tick = s.tick := rfl
@[simp] theorem State.setChan_free (n : Nat) (x : Chan) : (s.setChan n x).free = s.free := rfl
@[simp] theorem State.setChan_regs (n : Nat) (x : Chan) : (s.setChan n x).regs = s.regs := rfl
@[simp] theorem State.setChan_mem (n : Nat) (x : Chan) : (s.setChan n x).mem = s.mem := rfl
@[simp] theorem State.setChan_cores (n : Nat) (x : Chan) : (s.setChan n x).cores = s.cores := rfl
@[simp] theorem State.setChan_tasks (n : Nat) (x : Chan) : (s.setChan n x).tasks = s.tasks := rfl
@[simp] theorem State.setChan_readData (n : Nat) (x : Chan) : (s.setChan n x).readData = s.readData := rfl
@[simp] theorem State.setChan_periodCount (n : Nat) (x : Chan) : (s.setChan n x).periodCount = s.periodCount := rfl
@[simp] theorem State.setChan_cirq (n : Nat) (x : Chan) : (s.setChan n x).cirq = s.cirq := rfl
@[simp] theorem State.setChan_cairn (n : Nat) (x : Chan) : (s.setChan n x).cairn = s.cairn := rfl
@[simp] theorem State.setChan_tick0 (n : Nat) (x : Chan) : (s.setChan n x).tick0 = s.tick0 := rfl
@[simp] theorem State.setChan_mdio (n : Nat) (x : Chan) : (s.setChan n x).mdio = s.mdio := rfl
@[simp] theorem State.setChan_gdm (n : Nat) (x : Chan) : (s.setChan n x).gdm = s.gdm := rfl
@[simp] theorem State.setChan_saf (n : Nat) (x : Chan) : (s.setChan n x).saf = s.saf := rfl
@[simp] theorem State.setChan_power (n : Nat) (x : Chan) : (s.setChan n x).power = s.power := rfl
@[simp] theorem State.setChan_col (n : Nat) (x : Chan) : (s.setChan n x).col = s.col := rfl
@[simp] theorem State.setChan_wrapTick (n : Nat) (x : Chan) : (s.setChan n x).wrapTick = s.wrapTick := rfl
@[simp] theorem State.setChan_meanDue (n : Nat) (x : Chan) : (s.setChan n x).meanDue = s.meanDue := rfl
@[simp] theorem State.setChan_peaks (n : Nat) (x : Chan) : (s.setChan n x).peaks = s.peaks := rfl

@[simp] theorem State.setLeg_pending (n : Nat) (x : Leg) : (s.setLeg n x).pending = s.pending := rfl
@[simp] theorem State.setLeg_tick (n : Nat) (x : Leg) : (s.setLeg n x).tick = s.tick := rfl
@[simp] theorem State.setLeg_free (n : Nat) (x : Leg) : (s.setLeg n x).free = s.free := rfl
@[simp] theorem State.setLeg_regs (n : Nat) (x : Leg) : (s.setLeg n x).regs = s.regs := rfl
@[simp] theorem State.setLeg_mem (n : Nat) (x : Leg) : (s.setLeg n x).mem = s.mem := rfl
@[simp] theorem State.setLeg_cores (n : Nat) (x : Leg) : (s.setLeg n x).cores = s.cores := rfl
@[simp] theorem State.setLeg_tasks (n : Nat) (x : Leg) : (s.setLeg n x).tasks = s.tasks := rfl
@[simp] theorem State.setLeg_readData (n : Nat) (x : Leg) : (s.setLeg n x).readData = s.readData := rfl
@[simp] theorem State.setLeg_periodCount (n : Nat) (x : Leg) : (s.setLeg n x).periodCount = s.periodCount := rfl
@[simp] theorem State.setLeg_cirq (n : Nat) (x : Leg) : (s.setLeg n x).cirq = s.cirq := rfl
@[simp] theorem State.setLeg_cairn (n : Nat) (x : Leg) : (s.setLeg n x).cairn = s.cairn := rfl
@[simp] theorem State.setLeg_tick0 (n : Nat) (x : Leg) : (s.setLeg n x).tick0 = s.tick0 := rfl
@[simp] theorem State.setLeg_mdio (n : Nat) (x : Leg) : (s.setLeg n x).mdio = s.mdio := rfl
@[simp] theorem State.setLeg_gdm (n : Nat) (x : Leg) : (s.setLeg n x).gdm = s.gdm := rfl
@[simp] theorem State.setLeg_saf (n : Nat) (x : Leg) : (s.setLeg n x).saf = s.saf := rfl
@[simp] theorem State.setLeg_power (n : Nat) (x : Leg) : (s.setLeg n x).power = s.power := rfl
@[simp] theorem State.setLeg_col (n : Nat) (x : Leg) : (s.setLeg n x).col = s.col := rfl
@[simp] theorem State.setLeg_wrapTick (n : Nat) (x : Leg) : (s.setLeg n x).wrapTick = s.wrapTick := rfl
@[simp] theorem State.setLeg_meanDue (n : Nat) (x : Leg) : (s.setLeg n x).meanDue = s.meanDue := rfl
@[simp] theorem State.setLeg_peaks (n : Nat) (x : Leg) : (s.setLeg n x).peaks = s.peaks := rfl

@[simp] theorem State.setPif_pending (n : Nat) (x : Pif) : (s.setPif n x).pending = s.pending := rfl
@[simp] theorem State.setPif_tick (n : Nat) (x : Pif) : (s.setPif n x).tick = s.tick := rfl
@[simp] theorem State.setPif_free (n : Nat) (x : Pif) : (s.setPif n x).free = s.free := rfl
@[simp] theorem State.setPif_regs (n : Nat) (x : Pif) : (s.setPif n x).regs = s.regs := rfl
@[simp] theorem State.setPif_mem (n : Nat) (x : Pif) : (s.setPif n x).mem = s.mem := rfl
@[simp] theorem State.setPif_cores (n : Nat) (x : Pif) : (s.setPif n x).cores = s.cores := rfl
@[simp] theorem State.setPif_tasks (n : Nat) (x : Pif) : (s.setPif n x).tasks = s.tasks := rfl
@[simp] theorem State.setPif_readData (n : Nat) (x : Pif) : (s.setPif n x).readData = s.readData := rfl
@[simp] theorem State.setPif_periodCount (n : Nat) (x : Pif) : (s.setPif n x).periodCount = s.periodCount := rfl
@[simp] theorem State.setPif_cirq (n : Nat) (x : Pif) : (s.setPif n x).cirq = s.cirq := rfl
@[simp] theorem State.setPif_cairn (n : Nat) (x : Pif) : (s.setPif n x).cairn = s.cairn := rfl
@[simp] theorem State.setPif_tick0 (n : Nat) (x : Pif) : (s.setPif n x).tick0 = s.tick0 := rfl
@[simp] theorem State.setPif_mdio (n : Nat) (x : Pif) : (s.setPif n x).mdio = s.mdio := rfl
@[simp] theorem State.setPif_gdm (n : Nat) (x : Pif) : (s.setPif n x).gdm = s.gdm := rfl
@[simp] theorem State.setPif_saf (n : Nat) (x : Pif) : (s.setPif n x).saf = s.saf := rfl
@[simp] theorem State.setPif_power (n : Nat) (x : Pif) : (s.setPif n x).power = s.power := rfl
@[simp] theorem State.setPif_col (n : Nat) (x : Pif) : (s.setPif n x).col = s.col := rfl
@[simp] theorem State.setPif_wrapTick (n : Nat) (x : Pif) : (s.setPif n x).wrapTick = s.wrapTick := rfl
@[simp] theorem State.setPif_meanDue (n : Nat) (x : Pif) : (s.setPif n x).meanDue = s.meanDue := rfl
@[simp] theorem State.setPif_peaks (n : Nat) (x : Pif) : (s.setPif n x).peaks = s.peaks := rfl

@[simp] theorem State.setPll_pending (n : Nat) (x : Pll) : (s.setPll n x).pending = s.pending := rfl
@[simp] theorem State.setPll_tick (n : Nat) (x : Pll) : (s.setPll n x).tick = s.tick := rfl
@[simp] theorem State.setPll_free (n : Nat) (x : Pll) : (s.setPll n x).free = s.free := rfl
@[simp] theorem State.setPll_regs (n : Nat) (x : Pll) : (s.setPll n x).regs = s.regs := rfl
@[simp] theorem State.setPll_mem (n : Nat) (x : Pll) : (s.setPll n x).mem = s.mem := rfl
@[simp] theorem State.setPll_cores (n : Nat) (x : Pll) : (s.setPll n x).cores = s.cores := rfl
@[simp] theorem State.setPll_tasks (n : Nat) (x : Pll) : (s.setPll n x).tasks = s.tasks := rfl
@[simp] theorem State.setPll_readData (n : Nat) (x : Pll) : (s.setPll n x).readData = s.readData := rfl
@[simp] theorem State.setPll_periodCount (n : Nat) (x : Pll) : (s.setPll n x).periodCount = s.periodCount := rfl
@[simp] theorem State.setPll_cirq (n : Nat) (x : Pll) : (s.setPll n x).cirq = s.cirq := rfl
@[simp] theorem State.setPll_cairn (n : Nat) (x : Pll) : (s.setPll n x).cairn = s.cairn := rfl
@[simp] theorem State.setPll_tick0 (n : Nat) (x : Pll) : (s.setPll n x).tick0 = s.tick0 := rfl
@[simp] theorem State.setPll_mdio (n : Nat) (x : Pll) : (s.setPll n x).mdio = s.mdio := rfl
@[simp] theorem State.setPll_saddle (n : Nat) (x : Pll) : (s.setPll n x).saddle = s.saddle := rfl
@[simp] theorem State.setPll_gdm (n : Nat) (x : Pll) : (s.setPll n x).gdm = s.gdm := rfl
@[simp] theorem State.setPll_saf (n : Nat) (x : Pll) : (s.setPll n x).saf = s.saf := rfl
@[simp] theorem State.setPll_col (n : Nat) (x : Pll) : (s.setPll n x).col = s.col := rfl
@[simp] theorem State.setPll_wrapTick (n : Nat) (x : Pll) : (s.setPll n x).wrapTick = s.wrapTick := rfl
@[simp] theorem State.setPll_meanDue (n : Nat) (x : Pll) : (s.setPll n x).meanDue = s.meanDue := rfl
@[simp] theorem State.setPll_peaks (n : Nat) (x : Pll) : (s.setPll n x).peaks = s.peaks := rfl

/-! ### Readings that an update does not touch -/

@[simp] theorem State.byte_setRegW (i : Nat) (key : Nat) (v : Word) : (s.setRegW key v).byte i = s.byte i := by unfold State.byte; rw [State.setRegW_mem]
@[simp] theorem State.core_setRegW (j : CoreSel) (key : Nat) (v : Word) : (s.setRegW key v).core j = s.core j := by unfold State.core; rw [State.setRegW_cores]
@[simp] theorem State.task_setRegW (q : PeakId) (m : Nat) (key : Nat) (v : Word) : (s.setRegW key v).task q m = s.task q m := by unfold State.task; rw [State.setRegW_tasks]
@[simp] theorem State.peak_setRegW (q : PeakId) (key : Nat) (v : Word) : (s.setRegW key v).peak q = s.peak q := by unfold State.peak; rw [State.setRegW_peaks]
@[simp] theorem State.tb_setRegW (m : Nat) (key : Nat) (v : Word) : (s.setRegW key v).tb m = s.tb m := by unfold State.tb; rw [State.setRegW_saddle]
@[simp] theorem State.pair_setRegW (m : Nat) (key : Nat) (v : Word) : (s.setRegW key v).pair m = s.pair m := by unfold State.pair; rw [State.setRegW_saddle]
@[simp] theorem State.chan_setRegW (m : Nat) (key : Nat) (v : Word) : (s.setRegW key v).chan m = s.chan m := by unfold State.chan; rw [State.setRegW_saddle]
@[simp] theorem State.leg_setRegW (m : Nat) (key : Nat) (v : Word) : (s.setRegW key v).leg m = s.leg m := by unfold State.leg; rw [State.setRegW_saddle]
@[simp] theorem State.pll_setRegW (m : Nat) (key : Nat) (v : Word) : (s.setRegW key v).pll m = s.pll m := by unfold State.pll; rw [State.setRegW_power]

@[simp] theorem State.byte_setReg (i : Nat) (p : PeakId) (a v : Nat) : (s.setReg p a v).byte i = s.byte i := by unfold State.byte; rw [State.setReg_mem]
@[simp] theorem State.core_setReg (j : CoreSel) (p : PeakId) (a v : Nat) : (s.setReg p a v).core j = s.core j := by unfold State.core; rw [State.setReg_cores]
@[simp] theorem State.task_setReg (q : PeakId) (m : Nat) (p : PeakId) (a v : Nat) : (s.setReg p a v).task q m = s.task q m := by unfold State.task; rw [State.setReg_tasks]
@[simp] theorem State.peak_setReg (q : PeakId) (p : PeakId) (a v : Nat) : (s.setReg p a v).peak q = s.peak q := by unfold State.peak; rw [State.setReg_peaks]
@[simp] theorem State.tb_setReg (m : Nat) (p : PeakId) (a v : Nat) : (s.setReg p a v).tb m = s.tb m := by unfold State.tb; rw [State.setReg_saddle]
@[simp] theorem State.pair_setReg (m : Nat) (p : PeakId) (a v : Nat) : (s.setReg p a v).pair m = s.pair m := by unfold State.pair; rw [State.setReg_saddle]
@[simp] theorem State.chan_setReg (m : Nat) (p : PeakId) (a v : Nat) : (s.setReg p a v).chan m = s.chan m := by unfold State.chan; rw [State.setReg_saddle]
@[simp] theorem State.leg_setReg (m : Nat) (p : PeakId) (a v : Nat) : (s.setReg p a v).leg m = s.leg m := by unfold State.leg; rw [State.setReg_saddle]
@[simp] theorem State.pll_setReg (m : Nat) (p : PeakId) (a v : Nat) : (s.setReg p a v).pll m = s.pll m := by unfold State.pll; rw [State.setReg_power]

@[simp] theorem State.byte_setRegI (i : Nat) (p : PeakId) (a : Nat) (v : Int) : (s.setRegI p a v).byte i = s.byte i := by unfold State.byte; rw [State.setRegI_mem]
@[simp] theorem State.core_setRegI (j : CoreSel) (p : PeakId) (a : Nat) (v : Int) : (s.setRegI p a v).core j = s.core j := by unfold State.core; rw [State.setRegI_cores]
@[simp] theorem State.task_setRegI (q : PeakId) (m : Nat) (p : PeakId) (a : Nat) (v : Int) : (s.setRegI p a v).task q m = s.task q m := by unfold State.task; rw [State.setRegI_tasks]
@[simp] theorem State.peak_setRegI (q : PeakId) (p : PeakId) (a : Nat) (v : Int) : (s.setRegI p a v).peak q = s.peak q := by unfold State.peak; rw [State.setRegI_peaks]
@[simp] theorem State.tb_setRegI (m : Nat) (p : PeakId) (a : Nat) (v : Int) : (s.setRegI p a v).tb m = s.tb m := by unfold State.tb; rw [State.setRegI_saddle]
@[simp] theorem State.pair_setRegI (m : Nat) (p : PeakId) (a : Nat) (v : Int) : (s.setRegI p a v).pair m = s.pair m := by unfold State.pair; rw [State.setRegI_saddle]
@[simp] theorem State.chan_setRegI (m : Nat) (p : PeakId) (a : Nat) (v : Int) : (s.setRegI p a v).chan m = s.chan m := by unfold State.chan; rw [State.setRegI_saddle]
@[simp] theorem State.leg_setRegI (m : Nat) (p : PeakId) (a : Nat) (v : Int) : (s.setRegI p a v).leg m = s.leg m := by unfold State.leg; rw [State.setRegI_saddle]
@[simp] theorem State.pll_setRegI (m : Nat) (p : PeakId) (a : Nat) (v : Int) : (s.setRegI p a v).pll m = s.pll m := by unfold State.pll; rw [State.setRegI_power]

@[simp] theorem State.byte_setFld (i : Nat) (p : PeakId) (f : Fld) (v : Nat) : (s.setFld p f v).byte i = s.byte i := by unfold State.byte; rw [State.setFld_mem]
@[simp] theorem State.core_setFld (j : CoreSel) (p : PeakId) (f : Fld) (v : Nat) : (s.setFld p f v).core j = s.core j := by unfold State.core; rw [State.setFld_cores]
@[simp] theorem State.task_setFld (q : PeakId) (m : Nat) (p : PeakId) (f : Fld) (v : Nat) : (s.setFld p f v).task q m = s.task q m := by unfold State.task; rw [State.setFld_tasks]
@[simp] theorem State.peak_setFld (q : PeakId) (p : PeakId) (f : Fld) (v : Nat) : (s.setFld p f v).peak q = s.peak q := by unfold State.peak; rw [State.setFld_peaks]
@[simp] theorem State.tb_setFld (m : Nat) (p : PeakId) (f : Fld) (v : Nat) : (s.setFld p f v).tb m = s.tb m := by unfold State.tb; rw [State.setFld_saddle]
@[simp] theorem State.pair_setFld (m : Nat) (p : PeakId) (f : Fld) (v : Nat) : (s.setFld p f v).pair m = s.pair m := by unfold State.pair; rw [State.setFld_saddle]
@[simp] theorem State.chan_setFld (m : Nat) (p : PeakId) (f : Fld) (v : Nat) : (s.setFld p f v).chan m = s.chan m := by unfold State.chan; rw [State.setFld_saddle]
@[simp] theorem State.leg_setFld (m : Nat) (p : PeakId) (f : Fld) (v : Nat) : (s.setFld p f v).leg m = s.leg m := by unfold State.leg; rw [State.setFld_saddle]
@[simp] theorem State.pll_setFld (m : Nat) (p : PeakId) (f : Fld) (v : Nat) : (s.setFld p f v).pll m = s.pll m := by unfold State.pll; rw [State.setFld_power]

@[simp] theorem State.byte_setBit (i : Nat) (p : PeakId) (f : Fld) (v : Bool) : (s.setBit p f v).byte i = s.byte i := by unfold State.byte; rw [State.setBit_mem]
@[simp] theorem State.core_setBit (j : CoreSel) (p : PeakId) (f : Fld) (v : Bool) : (s.setBit p f v).core j = s.core j := by unfold State.core; rw [State.setBit_cores]
@[simp] theorem State.task_setBit (q : PeakId) (m : Nat) (p : PeakId) (f : Fld) (v : Bool) : (s.setBit p f v).task q m = s.task q m := by unfold State.task; rw [State.setBit_tasks]
@[simp] theorem State.peak_setBit (q : PeakId) (p : PeakId) (f : Fld) (v : Bool) : (s.setBit p f v).peak q = s.peak q := by unfold State.peak; rw [State.setBit_peaks]
@[simp] theorem State.tb_setBit (m : Nat) (p : PeakId) (f : Fld) (v : Bool) : (s.setBit p f v).tb m = s.tb m := by unfold State.tb; rw [State.setBit_saddle]
@[simp] theorem State.pair_setBit (m : Nat) (p : PeakId) (f : Fld) (v : Bool) : (s.setBit p f v).pair m = s.pair m := by unfold State.pair; rw [State.setBit_saddle]
@[simp] theorem State.chan_setBit (m : Nat) (p : PeakId) (f : Fld) (v : Bool) : (s.setBit p f v).chan m = s.chan m := by unfold State.chan; rw [State.setBit_saddle]
@[simp] theorem State.leg_setBit (m : Nat) (p : PeakId) (f : Fld) (v : Bool) : (s.setBit p f v).leg m = s.leg m := by unfold State.leg; rw [State.setBit_saddle]
@[simp] theorem State.pll_setBit (m : Nat) (p : PeakId) (f : Fld) (v : Bool) : (s.setBit p f v).pll m = s.pll m := by unfold State.pll; rw [State.setBit_power]

@[simp] theorem State.byte_raise (i : Nat) (p : PeakId) (f : Fld) : (s.raise p f).byte i = s.byte i := by unfold State.byte; rw [State.raise_mem]
@[simp] theorem State.core_raise (j : CoreSel) (p : PeakId) (f : Fld) : (s.raise p f).core j = s.core j := by unfold State.core; rw [State.raise_cores]
@[simp] theorem State.task_raise (q : PeakId) (m : Nat) (p : PeakId) (f : Fld) : (s.raise p f).task q m = s.task q m := by unfold State.task; rw [State.raise_tasks]
@[simp] theorem State.peak_raise (q : PeakId) (p : PeakId) (f : Fld) : (s.raise p f).peak q = s.peak q := by unfold State.peak; rw [State.raise_peaks]
@[simp] theorem State.tb_raise (m : Nat) (p : PeakId) (f : Fld) : (s.raise p f).tb m = s.tb m := by unfold State.tb; rw [State.raise_saddle]
@[simp] theorem State.pair_raise (m : Nat) (p : PeakId) (f : Fld) : (s.raise p f).pair m = s.pair m := by unfold State.pair; rw [State.raise_saddle]
@[simp] theorem State.chan_raise (m : Nat) (p : PeakId) (f : Fld) : (s.raise p f).chan m = s.chan m := by unfold State.chan; rw [State.raise_saddle]
@[simp] theorem State.leg_raise (m : Nat) (p : PeakId) (f : Fld) : (s.raise p f).leg m = s.leg m := by unfold State.leg; rw [State.raise_saddle]
@[simp] theorem State.pll_raise (m : Nat) (p : PeakId) (f : Fld) : (s.raise p f).pll m = s.pll m := by unfold State.pll; rw [State.raise_power]

@[simp] theorem State.byte_setBoth (i : Nat) (f : Fld) (v : Nat) : (s.setBoth f v).byte i = s.byte i := by unfold State.byte; rw [State.setBoth_mem]
@[simp] theorem State.core_setBoth (j : CoreSel) (f : Fld) (v : Nat) : (s.setBoth f v).core j = s.core j := by unfold State.core; rw [State.setBoth_cores]
@[simp] theorem State.task_setBoth (q : PeakId) (m : Nat) (f : Fld) (v : Nat) : (s.setBoth f v).task q m = s.task q m := by unfold State.task; rw [State.setBoth_tasks]
@[simp] theorem State.peak_setBoth (q : PeakId) (f : Fld) (v : Nat) : (s.setBoth f v).peak q = s.peak q := by unfold State.peak; rw [State.setBoth_peaks]
@[simp] theorem State.tb_setBoth (m : Nat) (f : Fld) (v : Nat) : (s.setBoth f v).tb m = s.tb m := by unfold State.tb; rw [State.setBoth_saddle]
@[simp] theorem State.pair_setBoth (m : Nat) (f : Fld) (v : Nat) : (s.setBoth f v).pair m = s.pair m := by unfold State.pair; rw [State.setBoth_saddle]
@[simp] theorem State.chan_setBoth (m : Nat) (f : Fld) (v : Nat) : (s.setBoth f v).chan m = s.chan m := by unfold State.chan; rw [State.setBoth_saddle]
@[simp] theorem State.leg_setBoth (m : Nat) (f : Fld) (v : Nat) : (s.setBoth f v).leg m = s.leg m := by unfold State.leg; rw [State.setBoth_saddle]
@[simp] theorem State.pll_setBoth (m : Nat) (f : Fld) (v : Nat) : (s.setBoth f v).pll m = s.pll m := by unfold State.pll; rw [State.setBoth_power]

@[simp] theorem State.byte_setGwFld (i : Nat) (f : Fld) (v : Nat) : (s.setGwFld f v).byte i = s.byte i := by unfold State.byte; rw [State.setGwFld_mem]
@[simp] theorem State.core_setGwFld (j : CoreSel) (f : Fld) (v : Nat) : (s.setGwFld f v).core j = s.core j := by unfold State.core; rw [State.setGwFld_cores]
@[simp] theorem State.task_setGwFld (q : PeakId) (m : Nat) (f : Fld) (v : Nat) : (s.setGwFld f v).task q m = s.task q m := by unfold State.task; rw [State.setGwFld_tasks]
@[simp] theorem State.peak_setGwFld (q : PeakId) (f : Fld) (v : Nat) : (s.setGwFld f v).peak q = s.peak q := by unfold State.peak; rw [State.setGwFld_peaks]
@[simp] theorem State.tb_setGwFld (m : Nat) (f : Fld) (v : Nat) : (s.setGwFld f v).tb m = s.tb m := by unfold State.tb; rw [State.setGwFld_saddle]
@[simp] theorem State.pair_setGwFld (m : Nat) (f : Fld) (v : Nat) : (s.setGwFld f v).pair m = s.pair m := by unfold State.pair; rw [State.setGwFld_saddle]
@[simp] theorem State.chan_setGwFld (m : Nat) (f : Fld) (v : Nat) : (s.setGwFld f v).chan m = s.chan m := by unfold State.chan; rw [State.setGwFld_saddle]
@[simp] theorem State.leg_setGwFld (m : Nat) (f : Fld) (v : Nat) : (s.setGwFld f v).leg m = s.leg m := by unfold State.leg; rw [State.setGwFld_saddle]
@[simp] theorem State.pll_setGwFld (m : Nat) (f : Fld) (v : Nat) : (s.setGwFld f v).pll m = s.pll m := by unfold State.pll; rw [State.setGwFld_power]

@[simp] theorem State.byte_bump (i : Nat) (p : PeakId) (c f : Fld) : (s.bump p c f).byte i = s.byte i := by unfold State.byte; rw [State.bump_mem]
@[simp] theorem State.core_bump (j : CoreSel) (p : PeakId) (c f : Fld) : (s.bump p c f).core j = s.core j := by unfold State.core; rw [State.bump_cores]
@[simp] theorem State.task_bump (q : PeakId) (m : Nat) (p : PeakId) (c f : Fld) : (s.bump p c f).task q m = s.task q m := by unfold State.task; rw [State.bump_tasks]
@[simp] theorem State.peak_bump (q : PeakId) (p : PeakId) (c f : Fld) : (s.bump p c f).peak q = s.peak q := by unfold State.peak; rw [State.bump_peaks]
@[simp] theorem State.tb_bump (m : Nat) (p : PeakId) (c f : Fld) : (s.bump p c f).tb m = s.tb m := by unfold State.tb; rw [State.bump_saddle]
@[simp] theorem State.pair_bump (m : Nat) (p : PeakId) (c f : Fld) : (s.bump p c f).pair m = s.pair m := by unfold State.pair; rw [State.bump_saddle]
@[simp] theorem State.chan_bump (m : Nat) (p : PeakId) (c f : Fld) : (s.bump p c f).chan m = s.chan m := by unfold State.chan; rw [State.bump_saddle]
@[simp] theorem State.leg_bump (m : Nat) (p : PeakId) (c f : Fld) : (s.bump p c f).leg m = s.leg m := by unfold State.leg; rw [State.bump_saddle]
@[simp] theorem State.pll_bump (m : Nat) (p : PeakId) (c f : Fld) : (s.bump p c f).pll m = s.pll m := by unfold State.pll; rw [State.bump_power]

@[simp] theorem State.regW_setByte (i : Nat) (key : Nat) (v : Byte) : (s.setByte key v).regW i = s.regW i := by unfold State.regW; rw [State.setByte_regs]
@[simp] theorem State.reg_setByte (q : PeakId) (b : Nat) (key : Nat) (v : Byte) : (s.setByte key v).reg q b = s.reg q b := by unfold State.reg State.regW; rw [State.setByte_regs]
@[simp] theorem State.fld_setByte (q : PeakId) (g : Fld) (key : Nat) (v : Byte) : (s.setByte key v).fld q g = s.fld q g := by unfold State.fld State.reg State.regW; rw [State.setByte_regs]
@[simp] theorem State.bit_setByte (q : PeakId) (g : Fld) (key : Nat) (v : Byte) : (s.setByte key v).bit q g = s.bit q g := by unfold State.bit State.fld State.reg State.regW; rw [State.setByte_regs]
@[simp] theorem State.gwFld_setByte (g : Fld) (key : Nat) (v : Byte) : (s.setByte key v).gwFld g = s.gwFld g := by unfold State.gwFld State.regW; rw [State.setByte_regs]
@[simp] theorem State.core_setByte (j : CoreSel) (key : Nat) (v : Byte) : (s.setByte key v).core j = s.core j := by unfold State.core; rw [State.setByte_cores]
@[simp] theorem State.task_setByte (q : PeakId) (m : Nat) (key : Nat) (v : Byte) : (s.setByte key v).task q m = s.task q m := by unfold State.task; rw [State.setByte_tasks]
@[simp] theorem State.peak_setByte (q : PeakId) (key : Nat) (v : Byte) : (s.setByte key v).peak q = s.peak q := by unfold State.peak; rw [State.setByte_peaks]
@[simp] theorem State.tb_setByte (m : Nat) (key : Nat) (v : Byte) : (s.setByte key v).tb m = s.tb m := by unfold State.tb; rw [State.setByte_saddle]
@[simp] theorem State.pair_setByte (m : Nat) (key : Nat) (v : Byte) : (s.setByte key v).pair m = s.pair m := by unfold State.pair; rw [State.setByte_saddle]
@[simp] theorem State.chan_setByte (m : Nat) (key : Nat) (v : Byte) : (s.setByte key v).chan m = s.chan m := by unfold State.chan; rw [State.setByte_saddle]
@[simp] theorem State.leg_setByte (m : Nat) (key : Nat) (v : Byte) : (s.setByte key v).leg m = s.leg m := by unfold State.leg; rw [State.setByte_saddle]
@[simp] theorem State.pll_setByte (m : Nat) (key : Nat) (v : Byte) : (s.setByte key v).pll m = s.pll m := by unfold State.pll; rw [State.setByte_power]

@[simp] theorem State.regW_setCore (i : Nat) (k : CoreSel) (c : Core) : (s.setCore k c).regW i = s.regW i := by unfold State.regW; rw [State.setCore_regs]
@[simp] theorem State.reg_setCore (q : PeakId) (b : Nat) (k : CoreSel) (c : Core) : (s.setCore k c).reg q b = s.reg q b := by unfold State.reg State.regW; rw [State.setCore_regs]
@[simp] theorem State.fld_setCore (q : PeakId) (g : Fld) (k : CoreSel) (c : Core) : (s.setCore k c).fld q g = s.fld q g := by unfold State.fld State.reg State.regW; rw [State.setCore_regs]
@[simp] theorem State.bit_setCore (q : PeakId) (g : Fld) (k : CoreSel) (c : Core) : (s.setCore k c).bit q g = s.bit q g := by unfold State.bit State.fld State.reg State.regW; rw [State.setCore_regs]
@[simp] theorem State.gwFld_setCore (g : Fld) (k : CoreSel) (c : Core) : (s.setCore k c).gwFld g = s.gwFld g := by unfold State.gwFld State.regW; rw [State.setCore_regs]
@[simp] theorem State.byte_setCore (i : Nat) (k : CoreSel) (c : Core) : (s.setCore k c).byte i = s.byte i := by unfold State.byte; rw [State.setCore_mem]
@[simp] theorem State.task_setCore (q : PeakId) (m : Nat) (k : CoreSel) (c : Core) : (s.setCore k c).task q m = s.task q m := by unfold State.task; rw [State.setCore_tasks]
@[simp] theorem State.peak_setCore (q : PeakId) (k : CoreSel) (c : Core) : (s.setCore k c).peak q = s.peak q := by unfold State.peak; rw [State.setCore_peaks]
@[simp] theorem State.tb_setCore (m : Nat) (k : CoreSel) (c : Core) : (s.setCore k c).tb m = s.tb m := by unfold State.tb; rw [State.setCore_saddle]
@[simp] theorem State.pair_setCore (m : Nat) (k : CoreSel) (c : Core) : (s.setCore k c).pair m = s.pair m := by unfold State.pair; rw [State.setCore_saddle]
@[simp] theorem State.chan_setCore (m : Nat) (k : CoreSel) (c : Core) : (s.setCore k c).chan m = s.chan m := by unfold State.chan; rw [State.setCore_saddle]
@[simp] theorem State.leg_setCore (m : Nat) (k : CoreSel) (c : Core) : (s.setCore k c).leg m = s.leg m := by unfold State.leg; rw [State.setCore_saddle]
@[simp] theorem State.pll_setCore (m : Nat) (k : CoreSel) (c : Core) : (s.setCore k c).pll m = s.pll m := by unfold State.pll; rw [State.setCore_power]

@[simp] theorem State.regW_setTask (i : Nat) (p : PeakId) (n : Nat) (t : Task) : (s.setTask p n t).regW i = s.regW i := by unfold State.regW; rw [State.setTask_regs]
@[simp] theorem State.reg_setTask (q : PeakId) (b : Nat) (p : PeakId) (n : Nat) (t : Task) : (s.setTask p n t).reg q b = s.reg q b := by unfold State.reg State.regW; rw [State.setTask_regs]
@[simp] theorem State.fld_setTask (q : PeakId) (g : Fld) (p : PeakId) (n : Nat) (t : Task) : (s.setTask p n t).fld q g = s.fld q g := by unfold State.fld State.reg State.regW; rw [State.setTask_regs]
@[simp] theorem State.bit_setTask (q : PeakId) (g : Fld) (p : PeakId) (n : Nat) (t : Task) : (s.setTask p n t).bit q g = s.bit q g := by unfold State.bit State.fld State.reg State.regW; rw [State.setTask_regs]
@[simp] theorem State.gwFld_setTask (g : Fld) (p : PeakId) (n : Nat) (t : Task) : (s.setTask p n t).gwFld g = s.gwFld g := by unfold State.gwFld State.regW; rw [State.setTask_regs]
@[simp] theorem State.byte_setTask (i : Nat) (p : PeakId) (n : Nat) (t : Task) : (s.setTask p n t).byte i = s.byte i := by unfold State.byte; rw [State.setTask_mem]
@[simp] theorem State.core_setTask (j : CoreSel) (p : PeakId) (n : Nat) (t : Task) : (s.setTask p n t).core j = s.core j := by unfold State.core; rw [State.setTask_cores]
@[simp] theorem State.peak_setTask (q : PeakId) (p : PeakId) (n : Nat) (t : Task) : (s.setTask p n t).peak q = s.peak q := by unfold State.peak; rw [State.setTask_peaks]
@[simp] theorem State.tb_setTask (m : Nat) (p : PeakId) (n : Nat) (t : Task) : (s.setTask p n t).tb m = s.tb m := by unfold State.tb; rw [State.setTask_saddle]
@[simp] theorem State.pair_setTask (m : Nat) (p : PeakId) (n : Nat) (t : Task) : (s.setTask p n t).pair m = s.pair m := by unfold State.pair; rw [State.setTask_saddle]
@[simp] theorem State.chan_setTask (m : Nat) (p : PeakId) (n : Nat) (t : Task) : (s.setTask p n t).chan m = s.chan m := by unfold State.chan; rw [State.setTask_saddle]
@[simp] theorem State.leg_setTask (m : Nat) (p : PeakId) (n : Nat) (t : Task) : (s.setTask p n t).leg m = s.leg m := by unfold State.leg; rw [State.setTask_saddle]
@[simp] theorem State.pll_setTask (m : Nat) (p : PeakId) (n : Nat) (t : Task) : (s.setTask p n t).pll m = s.pll m := by unfold State.pll; rw [State.setTask_power]

@[simp] theorem State.regW_setPeak (i : Nat) (p : PeakId) (k : Peak) : (s.setPeak p k).regW i = s.regW i := by unfold State.regW; rw [State.setPeak_regs]
@[simp] theorem State.reg_setPeak (q : PeakId) (b : Nat) (p : PeakId) (k : Peak) : (s.setPeak p k).reg q b = s.reg q b := by unfold State.reg State.regW; rw [State.setPeak_regs]
@[simp] theorem State.fld_setPeak (q : PeakId) (g : Fld) (p : PeakId) (k : Peak) : (s.setPeak p k).fld q g = s.fld q g := by unfold State.fld State.reg State.regW; rw [State.setPeak_regs]
@[simp] theorem State.bit_setPeak (q : PeakId) (g : Fld) (p : PeakId) (k : Peak) : (s.setPeak p k).bit q g = s.bit q g := by unfold State.bit State.fld State.reg State.regW; rw [State.setPeak_regs]
@[simp] theorem State.gwFld_setPeak (g : Fld) (p : PeakId) (k : Peak) : (s.setPeak p k).gwFld g = s.gwFld g := by unfold State.gwFld State.regW; rw [State.setPeak_regs]
@[simp] theorem State.byte_setPeak (i : Nat) (p : PeakId) (k : Peak) : (s.setPeak p k).byte i = s.byte i := by unfold State.byte; rw [State.setPeak_mem]
@[simp] theorem State.core_setPeak (j : CoreSel) (p : PeakId) (k : Peak) : (s.setPeak p k).core j = s.core j := by unfold State.core; rw [State.setPeak_cores]
@[simp] theorem State.task_setPeak (q : PeakId) (m : Nat) (p : PeakId) (k : Peak) : (s.setPeak p k).task q m = s.task q m := by unfold State.task; rw [State.setPeak_tasks]
@[simp] theorem State.tb_setPeak (m : Nat) (p : PeakId) (k : Peak) : (s.setPeak p k).tb m = s.tb m := by unfold State.tb; rw [State.setPeak_saddle]
@[simp] theorem State.pair_setPeak (m : Nat) (p : PeakId) (k : Peak) : (s.setPeak p k).pair m = s.pair m := by unfold State.pair; rw [State.setPeak_saddle]
@[simp] theorem State.chan_setPeak (m : Nat) (p : PeakId) (k : Peak) : (s.setPeak p k).chan m = s.chan m := by unfold State.chan; rw [State.setPeak_saddle]
@[simp] theorem State.leg_setPeak (m : Nat) (p : PeakId) (k : Peak) : (s.setPeak p k).leg m = s.leg m := by unfold State.leg; rw [State.setPeak_saddle]
@[simp] theorem State.pll_setPeak (m : Nat) (p : PeakId) (k : Peak) : (s.setPeak p k).pll m = s.pll m := by unfold State.pll; rw [State.setPeak_power]

@[simp] theorem State.regW_setTb (i : Nat) (n : Nat) (t : Tb) : (s.setTb n t).regW i = s.regW i := by unfold State.regW; rw [State.setTb_regs]
@[simp] theorem State.reg_setTb (q : PeakId) (b : Nat) (n : Nat) (t : Tb) : (s.setTb n t).reg q b = s.reg q b := by unfold State.reg State.regW; rw [State.setTb_regs]
@[simp] theorem State.fld_setTb (q : PeakId) (g : Fld) (n : Nat) (t : Tb) : (s.setTb n t).fld q g = s.fld q g := by unfold State.fld State.reg State.regW; rw [State.setTb_regs]
@[simp] theorem State.bit_setTb (q : PeakId) (g : Fld) (n : Nat) (t : Tb) : (s.setTb n t).bit q g = s.bit q g := by unfold State.bit State.fld State.reg State.regW; rw [State.setTb_regs]
@[simp] theorem State.gwFld_setTb (g : Fld) (n : Nat) (t : Tb) : (s.setTb n t).gwFld g = s.gwFld g := by unfold State.gwFld State.regW; rw [State.setTb_regs]
@[simp] theorem State.byte_setTb (i : Nat) (n : Nat) (t : Tb) : (s.setTb n t).byte i = s.byte i := by unfold State.byte; rw [State.setTb_mem]
@[simp] theorem State.core_setTb (j : CoreSel) (n : Nat) (t : Tb) : (s.setTb n t).core j = s.core j := by unfold State.core; rw [State.setTb_cores]
@[simp] theorem State.task_setTb (q : PeakId) (m : Nat) (n : Nat) (t : Tb) : (s.setTb n t).task q m = s.task q m := by unfold State.task; rw [State.setTb_tasks]
@[simp] theorem State.peak_setTb (q : PeakId) (n : Nat) (t : Tb) : (s.setTb n t).peak q = s.peak q := by unfold State.peak; rw [State.setTb_peaks]
@[simp] theorem State.pll_setTb (m : Nat) (n : Nat) (t : Tb) : (s.setTb n t).pll m = s.pll m := by unfold State.pll; rw [State.setTb_power]

@[simp] theorem State.regW_setPair (i : Nat) (n : Nat) (x : Pair) : (s.setPair n x).regW i = s.regW i := by unfold State.regW; rw [State.setPair_regs]
@[simp] theorem State.reg_setPair (q : PeakId) (b : Nat) (n : Nat) (x : Pair) : (s.setPair n x).reg q b = s.reg q b := by unfold State.reg State.regW; rw [State.setPair_regs]
@[simp] theorem State.fld_setPair (q : PeakId) (g : Fld) (n : Nat) (x : Pair) : (s.setPair n x).fld q g = s.fld q g := by unfold State.fld State.reg State.regW; rw [State.setPair_regs]
@[simp] theorem State.bit_setPair (q : PeakId) (g : Fld) (n : Nat) (x : Pair) : (s.setPair n x).bit q g = s.bit q g := by unfold State.bit State.fld State.reg State.regW; rw [State.setPair_regs]
@[simp] theorem State.gwFld_setPair (g : Fld) (n : Nat) (x : Pair) : (s.setPair n x).gwFld g = s.gwFld g := by unfold State.gwFld State.regW; rw [State.setPair_regs]
@[simp] theorem State.byte_setPair (i : Nat) (n : Nat) (x : Pair) : (s.setPair n x).byte i = s.byte i := by unfold State.byte; rw [State.setPair_mem]
@[simp] theorem State.core_setPair (j : CoreSel) (n : Nat) (x : Pair) : (s.setPair n x).core j = s.core j := by unfold State.core; rw [State.setPair_cores]
@[simp] theorem State.task_setPair (q : PeakId) (m : Nat) (n : Nat) (x : Pair) : (s.setPair n x).task q m = s.task q m := by unfold State.task; rw [State.setPair_tasks]
@[simp] theorem State.peak_setPair (q : PeakId) (n : Nat) (x : Pair) : (s.setPair n x).peak q = s.peak q := by unfold State.peak; rw [State.setPair_peaks]
@[simp] theorem State.pll_setPair (m : Nat) (n : Nat) (x : Pair) : (s.setPair n x).pll m = s.pll m := by unfold State.pll; rw [State.setPair_power]

@[simp] theorem State.regW_setChan (i : Nat) (n : Nat) (x : Chan) : (s.setChan n x).regW i = s.regW i := by unfold State.regW; rw [State.setChan_regs]
@[simp] theorem State.reg_setChan (q : PeakId) (b : Nat) (n : Nat) (x : Chan) : (s.setChan n x).reg q b = s.reg q b := by unfold State.reg State.regW; rw [State.setChan_regs]
@[simp] theorem State.fld_setChan (q : PeakId) (g : Fld) (n : Nat) (x : Chan) : (s.setChan n x).fld q g = s.fld q g := by unfold State.fld State.reg State.regW; rw [State.setChan_regs]
@[simp] theorem State.bit_setChan (q : PeakId) (g : Fld) (n : Nat) (x : Chan) : (s.setChan n x).bit q g = s.bit q g := by unfold State.bit State.fld State.reg State.regW; rw [State.setChan_regs]
@[simp] theorem State.gwFld_setChan (g : Fld) (n : Nat) (x : Chan) : (s.setChan n x).gwFld g = s.gwFld g := by unfold State.gwFld State.regW; rw [State.setChan_regs]
@[simp] theorem State.byte_setChan (i : Nat) (n : Nat) (x : Chan) : (s.setChan n x).byte i = s.byte i := by unfold State.byte; rw [State.setChan_mem]
@[simp] theorem State.core_setChan (j : CoreSel) (n : Nat) (x : Chan) : (s.setChan n x).core j = s.core j := by unfold State.core; rw [State.setChan_cores]
@[simp] theorem State.task_setChan (q : PeakId) (m : Nat) (n : Nat) (x : Chan) : (s.setChan n x).task q m = s.task q m := by unfold State.task; rw [State.setChan_tasks]
@[simp] theorem State.peak_setChan (q : PeakId) (n : Nat) (x : Chan) : (s.setChan n x).peak q = s.peak q := by unfold State.peak; rw [State.setChan_peaks]
@[simp] theorem State.pll_setChan (m : Nat) (n : Nat) (x : Chan) : (s.setChan n x).pll m = s.pll m := by unfold State.pll; rw [State.setChan_power]

@[simp] theorem State.regW_setLeg (i : Nat) (n : Nat) (x : Leg) : (s.setLeg n x).regW i = s.regW i := by unfold State.regW; rw [State.setLeg_regs]
@[simp] theorem State.reg_setLeg (q : PeakId) (b : Nat) (n : Nat) (x : Leg) : (s.setLeg n x).reg q b = s.reg q b := by unfold State.reg State.regW; rw [State.setLeg_regs]
@[simp] theorem State.fld_setLeg (q : PeakId) (g : Fld) (n : Nat) (x : Leg) : (s.setLeg n x).fld q g = s.fld q g := by unfold State.fld State.reg State.regW; rw [State.setLeg_regs]
@[simp] theorem State.bit_setLeg (q : PeakId) (g : Fld) (n : Nat) (x : Leg) : (s.setLeg n x).bit q g = s.bit q g := by unfold State.bit State.fld State.reg State.regW; rw [State.setLeg_regs]
@[simp] theorem State.gwFld_setLeg (g : Fld) (n : Nat) (x : Leg) : (s.setLeg n x).gwFld g = s.gwFld g := by unfold State.gwFld State.regW; rw [State.setLeg_regs]
@[simp] theorem State.byte_setLeg (i : Nat) (n : Nat) (x : Leg) : (s.setLeg n x).byte i = s.byte i := by unfold State.byte; rw [State.setLeg_mem]
@[simp] theorem State.core_setLeg (j : CoreSel) (n : Nat) (x : Leg) : (s.setLeg n x).core j = s.core j := by unfold State.core; rw [State.setLeg_cores]
@[simp] theorem State.task_setLeg (q : PeakId) (m : Nat) (n : Nat) (x : Leg) : (s.setLeg n x).task q m = s.task q m := by unfold State.task; rw [State.setLeg_tasks]
@[simp] theorem State.peak_setLeg (q : PeakId) (n : Nat) (x : Leg) : (s.setLeg n x).peak q = s.peak q := by unfold State.peak; rw [State.setLeg_peaks]
@[simp] theorem State.pll_setLeg (m : Nat) (n : Nat) (x : Leg) : (s.setLeg n x).pll m = s.pll m := by unfold State.pll; rw [State.setLeg_power]

@[simp] theorem State.regW_setPif (i : Nat) (n : Nat) (x : Pif) : (s.setPif n x).regW i = s.regW i := by unfold State.regW; rw [State.setPif_regs]
@[simp] theorem State.reg_setPif (q : PeakId) (b : Nat) (n : Nat) (x : Pif) : (s.setPif n x).reg q b = s.reg q b := by unfold State.reg State.regW; rw [State.setPif_regs]
@[simp] theorem State.fld_setPif (q : PeakId) (g : Fld) (n : Nat) (x : Pif) : (s.setPif n x).fld q g = s.fld q g := by unfold State.fld State.reg State.regW; rw [State.setPif_regs]
@[simp] theorem State.bit_setPif (q : PeakId) (g : Fld) (n : Nat) (x : Pif) : (s.setPif n x).bit q g = s.bit q g := by unfold State.bit State.fld State.reg State.regW; rw [State.setPif_regs]
@[simp] theorem State.gwFld_setPif (g : Fld) (n : Nat) (x : Pif) : (s.setPif n x).gwFld g = s.gwFld g := by unfold State.gwFld State.regW; rw [State.setPif_regs]
@[simp] theorem State.byte_setPif (i : Nat) (n : Nat) (x : Pif) : (s.setPif n x).byte i = s.byte i := by unfold State.byte; rw [State.setPif_mem]
@[simp] theorem State.core_setPif (j : CoreSel) (n : Nat) (x : Pif) : (s.setPif n x).core j = s.core j := by unfold State.core; rw [State.setPif_cores]
@[simp] theorem State.task_setPif (q : PeakId) (m : Nat) (n : Nat) (x : Pif) : (s.setPif n x).task q m = s.task q m := by unfold State.task; rw [State.setPif_tasks]
@[simp] theorem State.peak_setPif (q : PeakId) (n : Nat) (x : Pif) : (s.setPif n x).peak q = s.peak q := by unfold State.peak; rw [State.setPif_peaks]
@[simp] theorem State.pll_setPif (m : Nat) (n : Nat) (x : Pif) : (s.setPif n x).pll m = s.pll m := by unfold State.pll; rw [State.setPif_power]

@[simp] theorem State.regW_setPll (i : Nat) (n : Nat) (x : Pll) : (s.setPll n x).regW i = s.regW i := by unfold State.regW; rw [State.setPll_regs]
@[simp] theorem State.reg_setPll (q : PeakId) (b : Nat) (n : Nat) (x : Pll) : (s.setPll n x).reg q b = s.reg q b := by unfold State.reg State.regW; rw [State.setPll_regs]
@[simp] theorem State.fld_setPll (q : PeakId) (g : Fld) (n : Nat) (x : Pll) : (s.setPll n x).fld q g = s.fld q g := by unfold State.fld State.reg State.regW; rw [State.setPll_regs]
@[simp] theorem State.bit_setPll (q : PeakId) (g : Fld) (n : Nat) (x : Pll) : (s.setPll n x).bit q g = s.bit q g := by unfold State.bit State.fld State.reg State.regW; rw [State.setPll_regs]
@[simp] theorem State.gwFld_setPll (g : Fld) (n : Nat) (x : Pll) : (s.setPll n x).gwFld g = s.gwFld g := by unfold State.gwFld State.regW; rw [State.setPll_regs]
@[simp] theorem State.byte_setPll (i : Nat) (n : Nat) (x : Pll) : (s.setPll n x).byte i = s.byte i := by unfold State.byte; rw [State.setPll_mem]
@[simp] theorem State.core_setPll (j : CoreSel) (n : Nat) (x : Pll) : (s.setPll n x).core j = s.core j := by unfold State.core; rw [State.setPll_cores]
@[simp] theorem State.task_setPll (q : PeakId) (m : Nat) (n : Nat) (x : Pll) : (s.setPll n x).task q m = s.task q m := by unfold State.task; rw [State.setPll_tasks]
@[simp] theorem State.peak_setPll (q : PeakId) (n : Nat) (x : Pll) : (s.setPll n x).peak q = s.peak q := by unfold State.peak; rw [State.setPll_peaks]
@[simp] theorem State.tb_setPll (m : Nat) (n : Nat) (x : Pll) : (s.setPll n x).tb m = s.tb m := by unfold State.tb; rw [State.setPll_saddle]
@[simp] theorem State.pair_setPll (m : Nat) (n : Nat) (x : Pll) : (s.setPll n x).pair m = s.pair m := by unfold State.pair; rw [State.setPll_saddle]
@[simp] theorem State.chan_setPll (m : Nat) (n : Nat) (x : Pll) : (s.setPll n x).chan m = s.chan m := by unfold State.chan; rw [State.setPll_saddle]
@[simp] theorem State.leg_setPll (m : Nat) (n : Nat) (x : Pll) : (s.setPll n x).leg m = s.leg m := by unfold State.leg; rw [State.setPll_saddle]

/-! ### A read after a write -/

theorem State.regW_setRegW (key : Nat) (v : Word) (i : Nat) : (s.setRegW key v).regW i = if i = key then v else s.regW i := by
  unfold State.regW State.setRegW
  exact Tab.get_put ..

theorem regBank_lt (p : PeakId) (a : Nat) : regBank p a < 3 := by
  unfold regBank
  cases p <;> split <;> simp [PeakId.num] <;> split <;> decide

/-- Registers at different addresses are different registers. -/
theorem regKey_ne {p q : PeakId} {a b : Nat} (h : a ≠ b) (ha : a < 2 ^ 32) (hb : b < 2 ^ 32) : regKey p a ≠ regKey q b := by
  unfold regKey
  omega

theorem State.reg_lt (p : PeakId) (a : Nat) : s.reg p a < 2 ^ 32 := BitVec.isLt _

@[simp] theorem State.reg_setReg (p : PeakId) (a v : Nat) : (s.setReg p a v).reg p a = v % 2 ^ 32 := by
  unfold State.reg State.setReg
  rw [State.regW_setRegW, if_pos rfl, BitVec.toNat_ofNat]

theorem State.reg_setReg_ne {p q : PeakId} {a b : Nat} (v : Nat) (h : regKey q b ≠ regKey p a) : (s.setReg p a v).reg q b = s.reg q b := by
  unfold State.reg State.setReg
  rw [State.regW_setRegW, if_neg h]

theorem State.regW_setReg_ne {p : PeakId} {a i : Nat} (v : Nat) (h : i ≠ regKey p a) : (s.setReg p a v).regW i = s.regW i := by
  unfold State.setReg
  rw [State.regW_setRegW, if_neg h]

theorem State.regW_setFld_ne {p : PeakId} {f : Fld} {i : Nat} (v : Nat) (h : i ≠ regKey p f.addr) : (s.setFld p f v).regW i = s.regW i :=
  State.regW_setReg_ne s _ h

/-- A register in which a field was written. -/
theorem State.reg_setFld (p : PeakId) {f : Fld} (v : Nat) (h : f.lo ≤ f.hi) (h32 : f.hi < 32) :
    (s.setFld p f v).reg p f.addr = putBits (s.reg p f.addr) f.hi f.lo v := by
  unfold State.setFld
  rw [State.reg_setReg, Nat.mod_eq_of_lt (putBits_lt _ _ h h32 (State.reg_lt ..))]

theorem State.reg_setFld_ne {p q : PeakId} {f : Fld} {b : Nat} (v : Nat) (h : regKey q b ≠ regKey p f.addr) : (s.setFld p f v).reg q b = s.reg q b :=
  State.reg_setReg_ne s _ h

/-- The two Peaks see one register where its block has one instance. -/
theorem State.reg_congr {p q : PeakId} {a : Nat} (h : regBank p a = regBank q a) : s.reg p a = s.reg q a := by
  unfold State.reg regKey
  rw [h]

theorem State.fld_congr {p q : PeakId} {f : Fld} (h : regBank p f.addr = regBank q f.addr) : s.fld p f = s.fld q f := by
  unfold State.fld
  rw [State.reg_congr s h]

/-- The field that was written. -/
theorem State.fld_setFld (p : PeakId) {f : Fld} (v : Nat) (h : f.lo ≤ f.hi) (h32 : f.hi < 32) :
    (s.setFld p f v).fld p f = v % 2 ^ (f.hi + 1 - f.lo) := by
  unfold State.fld
  rw [State.reg_setFld s p v h h32, bits_putBits_same _ _ h]

/-- A field apart from it in the same register. -/
theorem State.fld_setFld_apart (p : PeakId) {f g : Fld} (v : Nat) (h : f.lo ≤ f.hi) (h32 : f.hi < 32) (ha : g.addr = f.addr)
    (hd : f.hi < g.lo ∨ g.hi < f.lo) : (s.setFld p f v).fld p g = s.fld p g := by
  unfold State.fld
  rw [ha, State.reg_setFld s p v h h32, bits_putBits_apart _ _ h hd]

/-- A field of another register. -/
theorem State.fld_setFld_ne {p q : PeakId} {f g : Fld} (v : Nat) (h : regKey q g.addr ≠ regKey p f.addr) : (s.setFld p f v).fld q g = s.fld q g := by
  unfold State.fld
  rw [State.reg_setFld_ne s v h]

theorem State.fld_setReg_ne {p q : PeakId} {a : Nat} {g : Fld} (v : Nat) (h : regKey q g.addr ≠ regKey p a) : (s.setReg p a v).fld q g = s.fld q g := by
  unfold State.fld
  rw [State.reg_setReg_ne s v h]

theorem State.fld_setReg (p : PeakId) {a : Nat} {g : Fld} (v : Nat) (h : g.addr = a) : (s.setReg p a v).fld p g = bits (v % 2 ^ 32) g.hi g.lo := by
  unfold State.fld
  rw [h, State.reg_setReg]

theorem State.bit_setFld (p : PeakId) {f : Fld} (v : Nat) (h : f.lo ≤ f.hi) (h32 : f.hi < 32) :
    (s.setFld p f v).bit p f = decide (v % 2 ^ (f.hi + 1 - f.lo) = 1) := by
  unfold State.bit
  rw [State.fld_setFld s p v h h32]

theorem State.bit_setFld_apart (p : PeakId) {f g : Fld} (v : Nat) (h : f.lo ≤ f.hi) (h32 : f.hi < 32) (ha : g.addr = f.addr)
    (hd : f.hi < g.lo ∨ g.hi < f.lo) : (s.setFld p f v).bit p g = s.bit p g := by
  unfold State.bit
  rw [State.fld_setFld_apart s p v h h32 ha hd]

theorem State.bit_setFld_ne {p q : PeakId} {f g : Fld} (v : Nat) (h : regKey q g.addr ≠ regKey p f.addr) : (s.setFld p f v).bit q g = s.bit q g := by
  unfold State.bit
  rw [State.fld_setFld_ne s v h]

/-- A sticky flag that is raised reads 1. -/
theorem State.bit_raise (p : PeakId) {f : Fld} (h : f.lo = f.hi) (h32 : f.hi < 32) : (s.raise p f).bit p f = true := by
  unfold State.raise
  rw [State.bit_setFld s p 1 (le_of_eq h) h32]
  have : f.hi + 1 - f.lo = 1 := by omega
  simp [this]

/-- A count goes up by one, or stays at its largest value. -/
theorem State.reg_bump_ne {p q : PeakId} {c f : Fld} {b : Nat} (hc : regKey q b ≠ regKey p c.addr) (hf : regKey q b ≠ regKey p f.addr) :
    (s.bump p c f).reg q b = s.reg q b := by
  unfold State.bump
  split
  · exact State.reg_setFld_ne s _ hf
  · exact State.reg_setFld_ne s _ hc

theorem State.fld_bump_ne {p q : PeakId} {c f g : Fld} (hc : regKey q g.addr ≠ regKey p c.addr) (hf : regKey q g.addr ≠ regKey p f.addr) :
    (s.bump p c f).fld q g = s.fld q g := by
  unfold State.fld
  rw [State.reg_bump_ne s hc hf]

theorem State.byte_setByte (key : Nat) (v : Byte) (i : Nat) : (s.setByte key v).byte i = if i = key then v else s.byte i := by
  unfold State.byte State.setByte
  exact Tab.get_put ..

theorem coreKey_inj {j k : CoreSel} (h : coreKey j = coreKey k) : j = k := by
  obtain ⟨p, c⟩ := j
  obtain ⟨q, e⟩ := k
  unfold coreKey at h
  have h1 := c.isLt
  have h2 := e.isLt
  cases p <;> cases q <;> simp only [PeakId.num] at h <;> first | (congr 1; apply Fin.ext; omega) | (exfalso; omega)

theorem State.core_setCore (k : CoreSel) (c : Core) (j : CoreSel) : (s.setCore k c).core j = if j = k then c else s.core j := by
  unfold State.core State.setCore
  dsimp only
  rw [Tab.get_put]
  by_cases h : j = k
  · simp [h]
  · rw [if_neg (fun e => h (coreKey_inj e)), if_neg h]

@[simp] theorem State.core_setCore_same (k : CoreSel) (c : Core) : (s.setCore k c).core k = c := by simp [State.core_setCore]

theorem State.core_setCore_ne {j k : CoreSel} (c : Core) (h : j ≠ k) : (s.setCore k c).core j = s.core j := by simp [State.core_setCore, h]

@[simp] theorem State.task_setTask_same (p : PeakId) (n : Nat) (t : Task) : (s.setTask p n t).task p n = t := by
  unfold State.task State.setTask
  simp

theorem State.task_setTask_ne {p q : PeakId} {m n : Nat} (t : Task) (h : taskKey q m ≠ taskKey p n) : (s.setTask p n t).task q m = s.task q m := by
  unfold State.task State.setTask
  exact Tab.get_put_ne _ _ _ _ h

theorem State.peak_setPeak (p : PeakId) (k : Peak) (q : PeakId) : (s.setPeak p k).peak q = if q = p then k else s.peak q := by
  cases p <;> cases q <;> rfl

@[simp] theorem State.peak_setPeak_same (p : PeakId) (k : Peak) : (s.setPeak p k).peak p = k := by cases p <;> rfl

@[simp] theorem State.tb_setTb_same (n : Nat) (t : Tb) : (s.setTb n t).tb n = t := by
  unfold State.tb State.setTb
  simp

theorem State.tb_setTb_ne {m n : Nat} (t : Tb) (h : m ≠ n) : (s.setTb n t).tb m = s.tb m := by
  unfold State.tb State.setTb
  exact Tab.get_put_ne _ _ _ _ h

@[simp] theorem State.pair_setPair_same (n : Nat) (q : Pair) : (s.setPair n q).pair n = q := by
  unfold State.pair State.setPair
  simp

theorem State.pair_setPair_ne {m n : Nat} (q : Pair) (h : m ≠ n) : (s.setPair n q).pair m = s.pair m := by
  unfold State.pair State.setPair
  exact Tab.get_put_ne _ _ _ _ h

@[simp] theorem State.leg_setLeg_same (n : Nat) (q : Leg) : (s.setLeg n q).leg n = q := by
  unfold State.leg State.setLeg
  simp

theorem State.leg_setLeg_ne {m n : Nat} (q : Leg) (h : m ≠ n) : (s.setLeg n q).leg m = s.leg m := by
  unfold State.leg State.setLeg
  exact Tab.get_put_ne _ _ _ _ h

@[simp] theorem State.pll_setPll_same (n : Nat) (q : Pll) : (s.setPll n q).pll n = q := by
  unfold State.pll State.setPll
  simp

theorem State.pll_setPll_ne {m n : Nat} (q : Pll) (h : m ≠ n) : (s.setPll n q).pll m = s.pll m := by
  unfold State.pll State.setPll
  exact Tab.get_put_ne _ _ _ _ h

end Sys2Proof.Machine
end

