-- ==== Sys2Proof/Laws/Events.lean ====
section
/-! SUPPORT. Which registers the event matrix, the trace and the observation counters write: those of TRV, TAL and OBS only. -/

namespace Sys2Proof.Machine

/-- The block number of a register's key (R32). -/
def blockOf (key : Nat) : Nat := key % 2 ^ 32 / 0x10000

theorem blockOf_regKey (p : PeakId) {a : Nat} (h : a < 2 ^ 32) : blockOf (regKey p a) = a / 0x10000 := by
  unfold blockOf regKey
  rw [Nat.add_comm, Nat.add_mul_mod_self_right, Nat.mod_eq_of_lt h]

/-- Going from `s` to `t` writes registers of the blocks `l` only. -/
def RegsIn (l : List Nat) (s t : State) : Prop := ∀ i, blockOf i ∉ l → t.regW i = s.regW i

variable {l : List Nat} {s t u : State}

theorem RegsIn.refl (s : State) : RegsIn l s s := fun _ _ => rfl

theorem RegsIn.trans (h : RegsIn l s t) (g : RegsIn l t u) : RegsIn l s u := fun i hi => (g i hi).trans (h i hi)

theorem RegsIn.mono {l' : List Nat} (h : RegsIn l s t) (hl : ∀ x ∈ l, x ∈ l') : RegsIn l' s t := fun i hi => h i (fun hx => hi (hl _ hx))

theorem RegsIn.of_regs (h : RegsIn l s t) (e : u.regs = t.regs) : RegsIn l s u := by
  intro i hi
  rw [← h i hi]
  unfold State.regW
  rw [e]

theorem RegsIn.setReg (h : RegsIn l s t) (p : PeakId) {a : Nat} (v : Nat) (ha : a < 2 ^ 32) (hb : a / 0x10000 ∈ l) : RegsIn l s (t.setReg p a v) := by
  intro i hi
  rw [State.regW_setReg_ne, h i hi]
  rintro rfl
  exact hi (by rwa [blockOf_regKey p ha])

theorem RegsIn.setFld (h : RegsIn l s t) (p : PeakId) {f : Fld} (v : Nat) (ha : f.addr < 2 ^ 32) (hb : f.addr / 0x10000 ∈ l) :
    RegsIn l s (t.setFld p f v) := h.setReg p _ ha hb

theorem RegsIn.bump (h : RegsIn l s t) (p : PeakId) {c f : Fld} (hc : c.addr < 2 ^ 32) (hcb : c.addr / 0x10000 ∈ l) (hf : f.addr < 2 ^ 32)
    (hfb : f.addr / 0x10000 ∈ l) : RegsIn l s (t.bump p c f) := by
  unfold State.bump
  split
  · exact h.setFld p _ hf hfb
  · exact h.setFld p _ hc hcb

theorem RegsIn.forAll {α : Type} (xs : List α) (f : α → State → State) (h : RegsIn l s t)
    (hf : ∀ x ∈ xs, ∀ v, RegsIn l s v → RegsIn l s (f x v)) : RegsIn l s (forAll xs f t) := by
  unfold Machine.forAll
  induction xs generalizing t with
  | nil => exact h
  | cons a r ih => exact ih (hf a (by simp) t h) (fun x hx => hf x (by simp [hx]))

theorem RegsIn.reg (h : RegsIn l s t) (p : PeakId) {a : Nat} (ha : a < 2 ^ 32) (hb : a / 0x10000 ∉ l) : t.reg p a = s.reg p a := by
  unfold State.reg
  rw [h _ (by rwa [blockOf_regKey p ha])]

theorem RegsIn.fld (h : RegsIn l s t) (p : PeakId) {f : Fld} (ha : f.addr < 2 ^ 32) (hb : f.addr / 0x10000 ∉ l) : t.fld p f = s.fld p f := by
  unfold State.fld
  rw [h.reg p ha hb]

theorem RegsIn.bit (h : RegsIn l s t) (p : PeakId) {f : Fld} (ha : f.addr < 2 ^ 32) (hb : f.addr / 0x10000 ∉ l) : t.bit p f = s.bit p f := by
  unfold State.bit
  rw [h.fld p ha hb]

/-- The blocks that events write: TAL, TRV and OBS. -/
def eventBlocks : List Nat := [0x4004, 0x400B, 0x4016]

/-- Is a number one of the tasks'? Every such number is below 0x70. -/
theorem taskNumbers_lt {n : Nat} (h : n ∈ taskNumbers) : n < 0x70 := by
  unfold taskNumbers at h
  simp only [List.mem_append, List.mem_range, List.mem_map] at h
  rcases h with (h | ⟨a, ha, rfl⟩) | ⟨a, ha, rfl⟩ <;> omega

theorem loaded_lt {p : PeakId} {n : Nat} (h : n ∈ s.loaded p) : n < 0x70 := taskNumbers_lt (List.mem_filter.mp h).1

/-- Registers of those blocks have one instance in each Peak. -/
theorem regBank_event {p : PeakId} {a : Nat} (h : a / 0x10000 ∈ eventBlocks) : regBank p a = p.num := by
  simp only [eventBlocks, List.mem_cons, List.not_mem_nil, or_false] at h
  unfold regBank
  rcases h with h | h | h <;> rw [h] <;> rfl

/-- Going from `s` to `t` writes only Peak `p`'s registers of those blocks. -/
def EventRegs (p : PeakId) (s t : State) : Prop := ∀ i, ¬(blockOf i ∈ eventBlocks ∧ i / 2 ^ 32 = p.num) → t.regW i = s.regW i

theorem EventRegs.refl (p : PeakId) (s : State) : EventRegs p s s := fun _ _ => rfl

theorem EventRegs.trans {p : PeakId} (h : EventRegs p s t) (g : EventRegs p t u) : EventRegs p s u := fun i hi => (g i hi).trans (h i hi)

theorem EventRegs.regsIn {p : PeakId} (h : EventRegs p s t) : RegsIn eventBlocks s t := fun i hi => h i (fun hx => hi hx.1)

theorem EventRegs.of_regs {p : PeakId} (h : EventRegs p s t) (e : u.regs = t.regs) : EventRegs p s u := by
  intro i hi
  rw [← h i hi]
  unfold State.regW
  rw [e]

theorem EventRegs.setReg {q : PeakId} (h : EventRegs q s t) (p : PeakId) {a : Nat} (v : Nat) (ha : a < 2 ^ 32) (hb : a / 0x10000 ∈ eventBlocks)
    (hp : p = q := by rfl) : EventRegs q s (t.setReg p a v) := by
  subst hp
  intro i hi
  rw [State.regW_setReg_ne, h i hi]
  rintro rfl
  refine hi ⟨by rwa [blockOf_regKey p ha], ?_⟩
  unfold regKey
  rw [regBank_event hb]
  omega

theorem EventRegs.setFld {q : PeakId} (h : EventRegs q s t) (p : PeakId) {f : Fld} (v : Nat) (ha : f.addr < 2 ^ 32) (hb : f.addr / 0x10000 ∈ eventBlocks)
    (hp : p = q := by rfl) : EventRegs q s (t.setFld p f v) := h.setReg p _ ha hb hp

theorem EventRegs.bump {q : PeakId} (h : EventRegs q s t) (p : PeakId) {c f : Fld} (hc : c.addr < 2 ^ 32) (hcb : c.addr / 0x10000 ∈ eventBlocks)
    (hf : f.addr < 2 ^ 32) (hfb : f.addr / 0x10000 ∈ eventBlocks) (hp : p = q := by rfl) : EventRegs q s (t.bump p c f) := by
  unfold State.bump
  split
  · exact h.setFld p _ hf hfb hp
  · exact h.setFld p _ hc hcb hp

theorem EventRegs.forAll {α : Type} {q : PeakId} (xs : List α) (f : α → State → State) (h : EventRegs q s t)
    (hf : ∀ x ∈ xs, ∀ v, EventRegs q s v → EventRegs q s (f x v)) : EventRegs q s (forAll xs f t) := by
  unfold Machine.forAll
  induction xs generalizing t with
  | nil => exact h
  | cons a r ih => exact ih (hf a (by simp) t h) (fun x hx => hf x (by simp [hx]))

theorem obsCount_eventRegs (p : PeakId) (src arg n : Nat) (h : EventRegs p s t) : EventRegs p s (obsCount p src arg n t) := by
  unfold obsCount
  refine h.forAll _ _ fun k hk v hv => ?_
  have hk8 : k < 8 := List.mem_range.mp hk
  dsimp only
  split
  · split
    · refine EventRegs.setFld (hv.of_regs rfl) p _ ?_ ?_ <;> simp only [Fd.obsCntHiSat, Reg.obsCntHi, eventBlocks] <;> norm_num <;> omega
    · exact hv.of_regs rfl
  · exact hv

theorem tracePut_eventRegs (p : PeakId) (ty pay : Nat) (h : EventRegs p s t) : EventRegs p s (tracePut p ty pay t) := by
  unfold tracePut
  dsimp only
  split
  · split
    · apply EventRegs.bump
      · exact h.of_regs rfl
      all_goals first | rfl | decide
    · exact h.of_regs rfl
  · exact h

theorem talusTrigger_eventRegs (p : PeakId) (cond : Nat) (at_ : Int) (fr : Nat) (h : EventRegs p s t) :
    EventRegs p s (talusTrigger p cond at_ fr t) := by
  unfold talusTrigger
  refine h.forAll _ _ fun c hc v hv => ?_
  have hc4 : c < 4 := List.mem_range.mp hc
  dsimp only
  split
  · split
    · exact hv.of_regs rfl
    · exact hv.of_regs rfl
    · refine EventRegs.bump hv p ?_ ?_ ?_ ?_ <;> simp only [Fd.talChLostCount, Fd.talChLostSat, Reg.talChLost, eventBlocks] <;> norm_num <;> omega
  · exact hv

theorem trvRefresh_eventRegs (p : PeakId) (h : EventRegs p s t) : EventRegs p s (trvRefresh p t) := by
  unfold trvRefresh State.setBit
  dsimp only
  refine EventRegs.setFld (EventRegs.setFld (EventRegs.setFld (EventRegs.setFld (EventRegs.setFld (EventRegs.setFld h p _ ?_ ?_) p _ ?_ ?_) p _ ?_ ?_) p _ ?_ ?_) p _ ?_ ?_) p _ ?_ ?_ <;>
    decide

theorem trvTask_block {n : Nat} (h : n < 0x100) :
    Reg.trvTaskStat n < 2 ^ 32 ∧ Reg.trvTaskStat n / 0x10000 ∈ eventBlocks ∧ Reg.trvTaskMiss n < 2 ^ 32 ∧ Reg.trvTaskMiss n / 0x10000 ∈ eventBlocks := by
  simp only [Reg.trvTaskStat, Reg.trvTaskMiss, eventBlocks, List.mem_cons]
  omega

theorem monitorMark_eventRegs (p : PeakId) {n : Nat} (kind cycle : Nat) (hn : n < 0x100) (h : EventRegs p s t) :
    EventRegs p s (monitorMark p n kind cycle t) := by
  unfold monitorMark
  have hb := trvTask_block hn
  dsimp only
  refine trvRefresh_eventRegs p (tracePut_eventRegs p _ _ ?_)
  have h1 : EventRegs p s (((t.setPeak p { t.peak p with monSince := true }).setFld p (Fd.trvTaskStatMonFault n) 1).raise p Fd.trvFlagsMonitor) :=
    EventRegs.setFld (EventRegs.setFld (h.of_regs rfl) p _ hb.1 hb.2.1) p _ (by decide) (by decide)
  split
  · exact EventRegs.setReg (EventRegs.setFld (EventRegs.setFld h1 p _ (by decide) (by decide)) p _ (by decide) (by decide)) p _ (by decide) (by decide)
  · exact h1

theorem fireN_eventRegs (fuel : Nat) (p : PeakId) (ev : Nat) (h : EventRegs p s t) : EventRegs p s (fireN fuel p ev t) := by
  induction fuel generalizing t ev with
  | zero =>
    unfold fireN
    split
    · dsimp only
      refine EventRegs.forAll _ _ (EventRegs.forAll _ _ (EventRegs.forAll _ _ (tracePut_eventRegs p _ _ (obsCount_eventRegs p _ _ _ ?_)) ?_) ?_) ?_
      · split
        · exact EventRegs.bump h p (by decide) (by decide) (by decide) (by decide)
        · exact h
      · intro n _ v hv
        split
        · exact talusTrigger_eventRegs p _ _ _ hv
        · exact hv
      · intro k _ v hv
        split
        · exact hv.of_regs rfl
        · exact hv
      · intro n hn v hv
        have hb := trvTask_block (show n < 0x100 from lt_trans (loaded_lt hn) (by decide))
        have h1 : EventRegs p s (if isSummit n || decide (ev = Ev.bootDone) then v else v.setTask p n { v.task p n with wait := (v.task p n).wait ||| BitVec.ofNat 256 (2 ^ ev) }) := by
          split
          · exact hv
          · exact hv.of_regs rfl
        generalize (if isSummit n || decide (ev = Ev.bootDone) then v else v.setTask p n { v.task p n with wait := (v.task p n).wait ||| BitVec.ofNat 256 (2 ^ ev) }) = w at h1 ⊢
        split
        · exact h1
        · split
          · split
            · exact monitorMark_eventRegs p _ _ (lt_trans (loaded_lt hn) (by decide)) h1
            · exact (h1.setFld p _ hb.1 hb.2.1).of_regs rfl
          · split
            · exact EventRegs.setFld (h1.bump p hb.2.2.1 hb.2.2.2 hb.2.2.1 hb.2.2.2) p _ (by decide) (by decide)
            · exact (h1.setFld p _ hb.1 hb.2.1).of_regs rfl
    · exact h
  | succ fuel ih =>
    unfold fireN
    split
    · dsimp only
      refine EventRegs.forAll _ _ (EventRegs.forAll _ _ (EventRegs.forAll _ _ (tracePut_eventRegs p _ _ (obsCount_eventRegs p _ _ _ ?_)) ?_) ?_) ?_
      · split
        · exact EventRegs.bump h p (by decide) (by decide) (by decide) (by decide)
        · exact h
      · intro n _ v hv
        split
        · exact talusTrigger_eventRegs p _ _ _ hv
        · exact hv
      · intro k _ v hv
        split
        · exact hv.of_regs rfl
        · exact hv
      · intro n hn v hv
        have hb := trvTask_block (show n < 0x100 from lt_trans (loaded_lt hn) (by decide))
        have h1 : EventRegs p s (if isSummit n || decide (ev = Ev.bootDone) then v else v.setTask p n { v.task p n with wait := (v.task p n).wait ||| BitVec.ofNat 256 (2 ^ ev) }) := by
          split
          · exact hv
          · exact hv.of_regs rfl
        generalize (if isSummit n || decide (ev = Ev.bootDone) then v else v.setTask p n { v.task p n with wait := (v.task p n).wait ||| BitVec.ofNat 256 (2 ^ ev) }) = w at h1 ⊢
        split
        · exact h1
        · split
          · split
            · exact ih _ (monitorMark_eventRegs p _ _ (lt_trans (loaded_lt hn) (by decide)) h1)
            · exact (h1.setFld p _ hb.1 hb.2.1).of_regs rfl
          · split
            · exact ih _ (EventRegs.setFld (h1.bump p hb.2.2.1 hb.2.2.2 hb.2.2.1 hb.2.2.2) p _ (by decide) (by decide))
            · exact (h1.setFld p _ hb.1 hb.2.1).of_regs rfl
    · exact h

/-- An event writes registers of TAL, TRV and OBS only. -/
theorem fire_eventRegs (p : PeakId) (ev : Nat) (h : EventRegs p s t) : EventRegs p s (fire p ev t) := fireN_eventRegs 2 p ev h

/-- An event writes registers of TAL, TRV and OBS only. -/
theorem fire_regsIn (p : PeakId) (ev : Nat) (h : RegsIn eventBlocks s t) : RegsIn eventBlocks s (fire p ev t) :=
  h.trans (fire_eventRegs p ev (EventRegs.refl p t)).regsIn

theorem obsCount_regsIn (p : PeakId) (src arg n : Nat) (h : RegsIn eventBlocks s t) : RegsIn eventBlocks s (obsCount p src arg n t) :=
  h.trans (obsCount_eventRegs p src arg n (EventRegs.refl p t)).regsIn

theorem tracePut_regsIn (p : PeakId) (ty pay : Nat) (h : RegsIn eventBlocks s t) : RegsIn eventBlocks s (tracePut p ty pay t) :=
  h.trans (tracePut_eventRegs p ty pay (EventRegs.refl p t)).regsIn

theorem trvRefresh_regsIn (p : PeakId) (h : RegsIn eventBlocks s t) : RegsIn eventBlocks s (trvRefresh p t) :=
  h.trans (trvRefresh_eventRegs p (EventRegs.refl p t)).regsIn

theorem monitorMark_regsIn (p : PeakId) {n : Nat} (kind cycle : Nat) (hn : n < 0x100) (h : RegsIn eventBlocks s t) :
    RegsIn eventBlocks s (monitorMark p n kind cycle t) := h.trans (monitorMark_eventRegs p kind cycle hn (EventRegs.refl p t)).regsIn

theorem fireBoth_regsIn (ev : Nat) (h : RegsIn eventBlocks s t) : RegsIn eventBlocks s (fireBoth ev t) :=
  fire_regsIn .b ev (fire_regsIn .a ev h)

theorem monitorViolation_regsIn (p : PeakId) {n : Nat} (kind cycle : Nat) (hn : n < 0x100) (h : RegsIn eventBlocks s t) :
    RegsIn eventBlocks s (monitorViolation p n kind cycle t) := fire_regsIn p _ (monitorMark_regsIn p kind cycle hn h)

/-! ### Wait latches -/

theorem forAll_induct {α : Type} (P : State → Prop) (xs : List α) (f : α → State → State) (hs : P s) (hf : ∀ x ∈ xs, ∀ v, P v → P (f x v)) :
    P (forAll xs f s) := by
  unfold Machine.forAll
  induction xs generalizing s with
  | nil => exact hs
  | cons a r ih => exact ih (hf a (by simp) s hs) (fun x hx => hf x (by simp [hx]))

/-- Once an element of the list has made `P` true it stays true. -/
theorem forAll_reaches {α : Type} (P : State → Prop) (xs : List α) (f : α → State → State) {a : α} (ha : a ∈ xs) (hm : ∀ v, P (f a v))
    (hf : ∀ x ∈ xs, ∀ v, P v → P (f x v)) : P (forAll xs f s) := by
  unfold Machine.forAll
  induction xs generalizing s with
  | nil => simp at ha
  | cons b r ih =>
    rw [List.foldl_cons]
    rcases List.mem_cons.mp ha with rfl | h
    · exact forAll_induct P r f (hm s) (fun x hx => hf x (by simp [hx]))
    · exact ih h (fun x hx => hf x (by simp [hx]))

theorem forAll_task {α : Type} (p : PeakId) (n : Nat) (xs : List α) (f : α → State → State) (hf : ∀ x v, (f x v).task p n = v.task p n) :
    (forAll xs f s).task p n = s.task p n :=
  forAll_induct (fun v => v.task p n = s.task p n) xs f rfl (fun x _ v hv => (hf x v).trans hv)

theorem obsCount_task (p : PeakId) (src arg c : Nat) (q : PeakId) (n : Nat) : (obsCount p src arg c s).task q n = s.task q n := by
  unfold obsCount
  refine forAll_task q n _ _ fun k v => ?_
  dsimp only
  split
  · split <;> simp
  · rfl

theorem tracePut_task (p : PeakId) (ty pay : Nat) (q : PeakId) (n : Nat) : (tracePut p ty pay s).task q n = s.task q n := by
  unfold tracePut
  dsimp only
  split
  · split <;> simp
  · rfl

theorem talusTrigger_task (p : PeakId) (cond : Nat) (i : Int) (fr : Nat) (q : PeakId) (n : Nat) : (talusTrigger p cond i fr s).task q n = s.task q n := by
  unfold talusTrigger
  refine forAll_task q n _ _ fun c v => ?_
  dsimp only
  split
  · split <;> first | rfl | simp
  · rfl

theorem trvRefresh_task (p q : PeakId) (n : Nat) : (trvRefresh p s).task q n = s.task q n := by
  unfold trvRefresh
  simp

theorem monitorMark_task (p : PeakId) (m kind cyc : Nat) (q : PeakId) (n : Nat) : (monitorMark p m kind cyc s).task q n = s.task q n := by
  unfold monitorMark
  dsimp only
  rw [trvRefresh_task, tracePut_task]
  split <;> simp

theorem taskKey_inj {p : PeakId} {m n : Nat} (h : m ≠ n) : taskKey p m ≠ taskKey p n := by
  unfold taskKey
  omega

/-- The wait bit of task `n`. -/
def WaitSet (p : PeakId) (n ev : Nat) (s : State) : Prop := (s.task p n).wait.getLsbD ev = true

theorem WaitSet.of_task {p : PeakId} {n ev : Nat} (h : WaitSet p n ev s) (e : t.task p n = s.task p n) : WaitSet p n ev t := by
  unfold WaitSet
  rw [e]
  exact h

theorem WaitSet.setTask {p : PeakId} {n ev : Nat} (h : WaitSet p n ev s) (m : Nat) (k : Task) (hk : m = n → k.wait.getLsbD ev = true) :
    WaitSet p n ev (s.setTask p m k) := by
  by_cases hm : m = n
  · subst hm
    unfold WaitSet
    rw [State.task_setTask_same]
    exact hk rfl
  · exact h.of_task (State.task_setTask_ne _ _ (taskKey_inj (Ne.symm hm)))

theorem fireN_waitSet (fuel : Nat) (p : PeakId) (e ev n : Nat) (h : WaitSet p n ev s) : WaitSet p n ev (fireN fuel p e s) := by
  induction fuel generalizing s e with
  | zero =>
    unfold fireN
    split
    · dsimp only
      refine forAll_induct _ _ _ (forAll_induct _ _ _ (forAll_induct _ _ _ ((WaitSet.of_task h ?_)) ?_) ?_) ?_
      · rw [tracePut_task, obsCount_task]
        split <;> simp
      · intro c _ v hv
        split
        · exact hv.of_task (talusTrigger_task ..)
        · exact hv
      · intro k _ v hv
        split
        · exact hv.of_task (State.task_setCore ..)
        · exact hv
      · intro m _ v hv
        have h1 : WaitSet p n ev (if isSummit m || decide (e = Ev.bootDone) then v else v.setTask p m { v.task p m with wait := (v.task p m).wait ||| BitVec.ofNat 256 (2 ^ e) }) := by
          split
          · exact hv
          · refine hv.setTask m _ fun hm => ?_
            subst hm
            simp only [BitVec.getLsbD_or, Bool.or_eq_true]
            exact Or.inl hv
        generalize (if isSummit m || decide (e = Ev.bootDone) then v else v.setTask p m { v.task p m with wait := (v.task p m).wait ||| BitVec.ofNat 256 (2 ^ e) }) = w at h1 ⊢
        split
        · exact h1
        · split
          · split
            · exact h1.of_task (monitorMark_task ..)
            · refine WaitSet.setTask (h1.of_task (State.task_setFld ..)) m _ fun hm => ?_
              subst hm
              exact h1
          · split
            · exact h1.of_task (by simp)
            · refine WaitSet.setTask (h1.of_task (State.task_setFld ..)) m _ fun hm => ?_
              subst hm
              exact h1
    · exact h
  | succ fuel ih =>
    unfold fireN
    split
    · dsimp only
      refine forAll_induct _ _ _ (forAll_induct _ _ _ (forAll_induct _ _ _ ((WaitSet.of_task h ?_)) ?_) ?_) ?_
      · rw [tracePut_task, obsCount_task]
        split <;> simp
      · intro c _ v hv
        split
        · exact hv.of_task (talusTrigger_task ..)
        · exact hv
      · intro k _ v hv
        split
        · exact hv.of_task (State.task_setCore ..)
        · exact hv
      · intro m _ v hv
        have h1 : WaitSet p n ev (if isSummit m || decide (e = Ev.bootDone) then v else v.setTask p m { v.task p m with wait := (v.task p m).wait ||| BitVec.ofNat 256 (2 ^ e) }) := by
          split
          · exact hv
          · refine hv.setTask m _ fun hm => ?_
            subst hm
            simp only [BitVec.getLsbD_or, Bool.or_eq_true]
            exact Or.inl hv
        generalize (if isSummit m || decide (e = Ev.bootDone) then v else v.setTask p m { v.task p m with wait := (v.task p m).wait ||| BitVec.ofNat 256 (2 ^ e) }) = w at h1 ⊢
        split
        · exact h1
        · split
          · split
            · exact ih _ (h1.of_task (monitorMark_task ..))
            · refine WaitSet.setTask (h1.of_task (State.task_setFld ..)) m _ fun hm => ?_
              subst hm
              exact h1
          · split
            · exact ih _ (h1.of_task (by simp))
            · refine WaitSet.setTask (h1.of_task (State.task_setFld ..)) m _ fun hm => ?_
              subst hm
              exact h1
    · exact h

theorem fld_block (p : PeakId) {g : Fld} (l : List Nat) (h : RegsIn l s t) (ha : g.addr < 2 ^ 32) (hb : g.addr / 0x10000 ∉ l) : t.bit p g = s.bit p g :=
  h.bit p ha hb

theorem obsCount_regsObs (p : PeakId) (src arg n : Nat) : RegsIn [0x4016] s (obsCount p src arg n s) := by
  unfold obsCount
  refine (RegsIn.refl s).forAll _ _ fun k hk v hv => ?_
  have hk8 : k < 8 := List.mem_range.mp hk
  dsimp only
  split
  · split
    · refine RegsIn.setFld (hv.of_regs rfl) p _ ?_ ?_ <;> simp only [Fd.obsCntHiSat, Reg.obsCntHi] <;> norm_num <;> omega
    · exact hv.of_regs rfl
  · exact hv

theorem tracePut_regsObs (p : PeakId) (ty pay : Nat) : RegsIn [0x4016] s (tracePut p ty pay s) := by
  unfold tracePut
  dsimp only
  split
  · split
    · apply RegsIn.bump
      · exact (RegsIn.refl s).of_regs rfl
      all_goals first | rfl | decide
    · exact (RegsIn.refl s).of_regs rfl
  · exact RegsIn.refl s

theorem talusTrigger_regsTal (p : PeakId) (cond : Nat) (at_ : Int) (fr : Nat) (h : RegsIn [0x4004, 0x4016] s t) :
    RegsIn [0x4004, 0x4016] s (talusTrigger p cond at_ fr t) := by
  unfold talusTrigger
  refine h.forAll _ _ fun c hc v hv => ?_
  have hc4 : c < 4 := List.mem_range.mp hc
  dsimp only
  split
  · split
    · exact hv.of_regs rfl
    · exact hv.of_regs rfl
    · refine RegsIn.bump hv p ?_ ?_ ?_ ?_ <;> simp only [Fd.talChLostCount, Fd.talChLostSat, Reg.talChLost] <;> norm_num <;> omega
  · exact hv

/-- A task stays loaded where no register of TRV is written. -/
theorem loaded_regsIn (p : PeakId) {l : List Nat} (h : RegsIn l s t) (hl : 0x400B ∉ l) : t.loaded p = s.loaded p := by
  unfold State.loaded
  refine List.filter_congr fun n hn => ?_
  have hn := taskNumbers_lt hn
  refine h.bit p ?_ ?_ <;> simp only [Fd.trvTaskStatLoaded, Reg.trvTaskStat]
  · omega
  · rwa [show (0x400B3000 + 0x10 * n) / 0x10000 = 0x400B by omega]

/-- Every wait latch of an ordinary loaded task is set when an event fires in its Peak (R153). -/
theorem fire_waitSet (p : PeakId) (ev n : Nat) (hev : ev < 256) (hbd : ev ≠ Ev.bootDone) (hup : (s.peak p).up = true) (hn : n ∈ s.loaded p) (hs : isSummit n = false) :
    WaitSet p n ev (fire p ev s) := by
  unfold fire fireN
  rw [if_pos hup]
  dsimp only
  refine forAll_reaches (a := n) _ _ _ ?_ ?_ ?_
  · have h1 : ∀ v : State, RegsIn [0x4004, 0x4016] v (forAll (List.range 16) (fun n s =>
        if s.fld p (Fd.talCondCfgKind n) = 4 ∧ s.fld p (Fd.talCondCfgEvent n) = ev then talusTrigger p n (s.tick * 1024 : Nat) 0 s else s)
        (tracePut p 3 (p.num * 2 ^ 27 + ev * 2 ^ 16 + (obsCount p 3 ev 1 v).stamp) (obsCount p 3 ev 1 v))) := by
      intro v
      refine RegsIn.forAll _ _ (RegsIn.mono ((obsCount_regsObs p 3 ev 1).trans (tracePut_regsObs p _ _)) (by simp)) ?_
      intro c _ w hw
      split
      · exact talusTrigger_regsTal _ _ _ _ hw
      · exact hw
    have h2 : ∀ v : State, RegsIn [0x4004, 0x4016] v (forAll ((List.finRange 8).map (fun c => (⟨p, c⟩ : CoreSel))) (fun k s =>
        if s.inBootRun k then
          let c := s.core k
          s.setCore k { c with bootWait := c.bootWait ||| BitVec.ofNat 256 (2 ^ ev) }
        else s) v) := by
      intro v
      refine RegsIn.forAll _ _ (RegsIn.refl v) ?_
      intro c _ w hw
      split
      · exact hw.of_regs rfl
      · exact hw
    rw [loaded_regsIn p ((h1 _).trans (h2 _)) (by decide)]
    split
    · have hl : ∀ (c f : Fld) (v : Nat), c.addr = Reg.trvEvWatchCnt → ((s.setFld p c v).loaded p) = s.loaded p := by
        intro c f v hc
        unfold State.loaded
        refine List.filter_congr fun m hm => ?_
        have hm := taskNumbers_lt hm
        refine State.bit_setFld_ne s v (regKey_ne ?_ ?_ ?_) <;> (try rw [hc]) <;> (try rw [show (Fd.trvTaskStatLoaded m).addr = 0x400B3000 + 0x10 * m from rfl]) <;> (try simp only [Reg.trvEvWatchCnt]) <;> omega
      unfold State.bump
      split
      · rw [hl _ Fd.trvEvWatchCntSat _ rfl]
        exact hn
      · rw [hl _ Fd.trvEvWatchCntSat _ rfl]
        exact hn
    · exact hn
  · intro v
    have h1 : WaitSet p n ev (v.setTask p n { v.task p n with wait := (v.task p n).wait ||| BitVec.ofNat 256 (2 ^ ev) }) := by
      unfold WaitSet
      rw [State.task_setTask_same]
      simp only [BitVec.getLsbD_or, BitVec.getLsbD_ofNat, Nat.testBit_two_pow_self, hev, decide_true, Bool.and_self, Bool.or_true]
    simp only [hs, hbd, decide_false, Bool.or_false, Bool.false_eq_true, if_false]
    generalize v.setTask p n { v.task p n with wait := (v.task p n).wait ||| BitVec.ofNat 256 (2 ^ ev) } = w at h1 ⊢
    split
    · exact h1
    · split
      · exact fireN_waitSet _ p _ ev n (h1.of_task (by simp))
      · exact WaitSet.setTask (h1.of_task (State.task_setFld ..)) n _ fun _ => h1
  · intro m _ v hv
    have h1 : WaitSet p n ev (if isSummit m || decide (ev = Ev.bootDone) then v else v.setTask p m { v.task p m with wait := (v.task p m).wait ||| BitVec.ofNat 256 (2 ^ ev) }) := by
      split
      · exact hv
      · refine hv.setTask m _ fun hm => ?_
        subst hm
        simp only [BitVec.getLsbD_or, Bool.or_eq_true]
        exact Or.inl hv
    generalize (if isSummit m || decide (ev = Ev.bootDone) then v else v.setTask p m { v.task p m with wait := (v.task p m).wait ||| BitVec.ofNat 256 (2 ^ ev) }) = w at h1 ⊢
    split
    · exact h1
    · split
      · split
        · exact fireN_waitSet _ p _ ev n (h1.of_task (monitorMark_task ..))
        · refine WaitSet.setTask (h1.of_task (State.task_setFld ..)) m _ fun hm => ?_
          subst hm
          exact h1
      · split
        · exact fireN_waitSet _ p _ ev n (h1.of_task (by simp))
        · refine WaitSet.setTask (h1.of_task (State.task_setFld ..)) m _ fun hm => ?_
          subst hm
          exact h1

/-! ### Events in both Peaks -/

theorem taskKey_other {p q : PeakId} {m n : Nat} (hp : p ≠ q) (hm : m < 256) (hn : n < 256) : taskKey q n ≠ taskKey p m := by
  unfold taskKey
  cases p <;> cases q <;> simp only [PeakId.num] <;> first | omega | exact absurd rfl hp

/-- An event of one Peak leaves the other Peak's tasks alone. -/
theorem fireN_task_other (fuel : Nat) {p q : PeakId} (hp : p ≠ q) (e n : Nat) (hn : n < 256) : (fireN fuel p e s).task q n = s.task q n := by
  have key : ∀ (v : State) (m : Nat) (k : Task), m < 0x70 → (v.setTask p m k).task q n = v.task q n := fun v m k hm =>
    State.task_setTask_ne _ _ (taskKey_other hp (by omega) hn)
  induction fuel generalizing s e with
  | zero =>
    unfold fireN
    split
    · dsimp only
      refine forAll_induct (fun t => t.task q n = s.task q n) _ _ (forAll_induct (fun t => t.task q n = s.task q n) _ _
        (forAll_induct (fun t => t.task q n = s.task q n) _ _ ?_ ?_) ?_) ?_
      · rw [tracePut_task, obsCount_task]
        split <;> simp
      · intro c _ v hv
        split
        · exact (talusTrigger_task ..).trans hv
        · exact hv
      · intro k _ v hv
        split
        · exact (State.task_setCore ..).trans hv
        · exact hv
      · intro m hm v hv
        have hm := loaded_lt hm
        have h1 : (if isSummit m || decide (e = Ev.bootDone) then v else v.setTask p m { v.task p m with wait := (v.task p m).wait ||| BitVec.ofNat 256 (2 ^ e) }).task q n =
            s.task q n := by
          split
          · exact hv
          · exact (key _ _ _ hm).trans hv
        generalize (if isSummit m || decide (e = Ev.bootDone) then v else v.setTask p m { v.task p m with wait := (v.task p m).wait ||| BitVec.ofNat 256 (2 ^ e) }) = w at h1 ⊢
        split
        · exact h1
        · split
          · split
            · exact (monitorMark_task ..).trans h1
            · exact (key _ _ _ hm).trans ((State.task_setFld ..).trans h1)
          · split
            · simpa using h1
            · exact (key _ _ _ hm).trans ((State.task_setFld ..).trans h1)
    · rfl
  | succ fuel ih =>
    unfold fireN
    split
    · dsimp only
      refine forAll_induct (fun t => t.task q n = s.task q n) _ _ (forAll_induct (fun t => t.task q n = s.task q n) _ _
        (forAll_induct (fun t => t.task q n = s.task q n) _ _ ?_ ?_) ?_) ?_
      · rw [tracePut_task, obsCount_task]
        split <;> simp
      · intro c _ v hv
        split
        · exact (talusTrigger_task ..).trans hv
        · exact hv
      · intro k _ v hv
        split
        · exact (State.task_setCore ..).trans hv
        · exact hv
      · intro m hm v hv
        have hm := loaded_lt hm
        have h1 : (if isSummit m || decide (e = Ev.bootDone) then v else v.setTask p m { v.task p m with wait := (v.task p m).wait ||| BitVec.ofNat 256 (2 ^ e) }).task q n =
            s.task q n := by
          split
          · exact hv
          · exact (key _ _ _ hm).trans hv
        generalize (if isSummit m || decide (e = Ev.bootDone) then v else v.setTask p m { v.task p m with wait := (v.task p m).wait ||| BitVec.ofNat 256 (2 ^ e) }) = w at h1 ⊢
        split
        · exact h1
        · split
          · split
            · exact (ih _).trans ((monitorMark_task ..).trans h1)
            · exact (key _ _ _ hm).trans ((State.task_setFld ..).trans h1)
          · split
            · refine (ih _).trans ?_
              simpa using h1
            · exact (key _ _ _ hm).trans ((State.task_setFld ..).trans h1)
    · rfl

theorem fire_task_other {p q : PeakId} (hp : p ≠ q) (e n : Nat) (hn : n < 256) : (fire p e s).task q n = s.task q n := fireN_task_other 2 hp e n hn

/-- An event of one Peak changes no register of the other Peak that events write. -/
theorem fire_loaded_other {p q : PeakId} (hp : p ≠ q) (e : Nat) : (fire p e s).loaded q = s.loaded q := by
  have h := fire_eventRegs p e (EventRegs.refl p s)
  unfold State.loaded
  refine List.filter_congr fun n hn => ?_
  have hn := taskNumbers_lt hn
  have ha : (Fd.trvTaskStatLoaded n).addr = 0x400B3000 + 0x10 * n := rfl
  unfold State.bit State.fld State.reg
  rw [h]
  rintro ⟨_, h2⟩
  unfold regKey at h2
  rw [ha, regBank_event (show (0x400B3000 + 0x10 * n) / 0x10000 ∈ eventBlocks by rw [show (0x400B3000 + 0x10 * n) / 0x10000 = 0x400B by omega]; decide)] at h2
  cases p <;> cases q <;> simp only [PeakId.num] at h2 <;> first | omega | exact absurd rfl hp

/-- An event of both Peaks sets the wait latches of every ordinary loaded task of each Peak that is up (R151, R153). -/
theorem fireBoth_waitSet (ev : Nat) (hev : ev < 256) (hbd : ev ≠ Ev.bootDone) (p : PeakId) (n : Nat) (hup : (s.peak p).up = true) (hupb : ((fire .a ev s).peak .b).up = (s.peak .b).up)
    (hn : n ∈ s.loaded p) (hs : isSummit n = false) : WaitSet p n ev (fireBoth ev s) := by
  have hn' : n < 256 := lt_trans (loaded_lt hn) (by decide)
  unfold fireBoth bothPeaks
  cases p with
  | a => exact (fire_waitSet .a ev n hev hbd hup hn hs).of_task (fire_task_other (by decide) ev n hn')
  | b => exact fire_waitSet .b ev n hev hbd (hupb.trans hup) (by rwa [fire_loaded_other (by decide)]) hs

end Sys2Proof.Machine
end

