-- ==== Sys2Proof/Laws/Cores.lean ====
section
/-! SUPPORT. What the shared shapes of the core instructions do: one lemma for the frame of an instruction and one for each kind of result. -/

namespace Sys2Proof.Machine

/-! ### Register files -/

@[simp] theorem Core.rs_zero (c : Core) : c.rs 0 = 0 := rfl
@[simp] theorem Core.rq_zero (c : Core) : c.rq 0 = 0xF := rfl

theorem Core.rs_setS (c : Core) (d : Nat) (v : Word) (n : Nat) : (c.setS d v).rs n = if n = d then (if d = 0 then 0 else v) else c.rs n := by
  unfold Core.rs Core.setS
  by_cases hd : d = 0
  · subst hd
    by_cases hn : n = 0 <;> simp [hn]
  · by_cases hn : n = 0
    · subst hn
      simp [Ne.symm hd]
    · simp [hd, hn, Tab.get_put]

theorem Core.rv_setV (c : Core) (d l : Nat) (v : Word) (n m : Nat) (hl : l < 4) (hm : m < 4) :
    (c.setV d l v).rv n m = if n = d ∧ m = l then v else c.rv n m := by
  unfold Core.rv Core.setV
  simp only [Tab.get_put]
  by_cases h : n = d ∧ m = l
  · rw [if_pos h, if_pos (by rw [h.1, h.2])]
  · rw [if_neg h, if_neg (by omega)]

theorem Core.rph_setPh (c : Core) (d : Nat) (v : BitVec 64) (n : Nat) : (c.setPh d v).rph n = if n = d then v else c.rph n := by
  unfold Core.rph Core.setPh
  exact Tab.get_put ..

theorem Core.rq_setQ (c : Core) (d : Nat) (v mask : BitVec 4) (n : Nat) :
    (c.setQ d v mask).rq n = if n = d then (if d = 0 then 0xF else (v &&& mask) ||| (c.rq d &&& ~~~mask)) else c.rq n := by
  unfold Core.rq Core.setQ
  by_cases hd : d = 0
  · subst hd
    by_cases hn : n = 0 <;> simp [hn]
  · by_cases hn : n = 0
    · subst hn
      simp [Ne.symm hd]
    · simp only [hd, hn, if_false, Tab.get_put]

/-! ### Issue -/

theorem Core.book_issue (c : Core) (u : Use) : (c.book u).issue = c.issueAt u + u.occ := by
  unfold Core.book
  dsimp only
  split <;> split <;> rfl

theorem Core.book_divFree (c : Core) (u : Use) : (c.book u).divFree = if u.div then c.issueAt u + 8 else c.divFree := by
  unfold Core.book
  dsimp only
  split <;> split <;> rfl

theorem Core.book_laneFree (c : Core) (u : Use) : (c.book u).laneFree = if u.shadow then c.issueAt u + 3 else c.laneFree := by
  unfold Core.book
  dsimp only
  split <;> split <;> rfl

theorem Tab.get_foldl_put (l : List Nat) (v : Nat) (r : Tab Nat) (k : Nat) :
    Tab.get (fun _ => 0) (l.foldl (fun r k => Tab.put (fun _ => 0) r k v) r) k = if k ∈ l then v else Tab.get (fun _ => 0) r k := by
  induction l generalizing r with
  | nil => simp
  | cons a l ih =>
    rw [List.foldl_cons, ih, Tab.get_put]
    by_cases h : k ∈ l
    · simp [h]
    · by_cases ha : k = a <;> simp [h, ha]

theorem Core.book_readyAt (c : Core) (u : Use) (k : Nat) :
    (c.book u).readyAt k = if k ∈ u.writes ∧ k ≠ 0 ∧ k ≠ 44 then c.issueAt u + u.lat else c.readyAt k := by
  have e : (c.book u).ready = (u.writes.filter (fun k => decide (k ≠ 0) && decide (k ≠ 44))).foldl
      (fun r k => Tab.put (fun _ => 0) r k (c.issueAt u + u.lat)) c.ready := by
    unfold Core.book
    dsimp only
    split <;> split <;> rfl
  unfold Core.readyAt
  rw [e, Tab.get_foldl_put]
  by_cases h : k = 0 ∨ k = 44
  · rw [if_pos h, if_neg (by tauto)]
    simp only [h, if_true]
  · simp only [h, if_false, List.mem_filter, Bool.and_eq_true, decide_eq_true_eq]

/-- Booking changes the times alone. -/
theorem Core.book_at (c : Core) (u : Use) : (c.book u).at_ c = c := by
  unfold Core.book Core.at_
  dsimp only
  split <;> split <;> rfl

theorem Core.issued_book (c : Core) (u : Use) (len : Nat) {c' : Core} (hp : c'.pc = c.pc + BitVec.ofNat 32 len) (hi : c'.issue = (c.book u).issue)
    (hr : c'.ready = (c.book u).ready) (hd : c'.divFree = (c.book u).divFree) (hl : c'.laneFree = (c.book u).laneFree) : Issued u len c c' where
  pc := hp
  issue := hi.trans (c.book_issue u)
  ready := fun r => by
    rw [← c.book_readyAt u r]
    unfold Core.readyAt
    rw [hr]
  div := hd.trans (c.book_divFree u)
  lane := hl.trans (c.book_laneFree u)

/-! ### Observation counters -/

/-- What the observation counters change: the counts, and the overflow marks of their own Peak. -/
structure ObsOnly (p : PeakId) (s t : State) : Prop where
  regs : ∀ i, (∀ n < 8, i ≠ regKey p (Reg.obsCntHi n)) → t.regW i = s.regW i
  peaks : ∀ q, { t.peak q with obs := (s.peak q).obs } = s.peak q
  rest : { t with regs := s.regs, peaks := s.peaks } = s

theorem ObsOnly.refl (p : PeakId) (s : State) : ObsOnly p s s := ⟨fun _ _ => rfl, fun _ => rfl, rfl⟩

theorem ObsOnly.trans {p : PeakId} {s t u : State} (h : ObsOnly p s t) (g : ObsOnly p t u) : ObsOnly p s u where
  regs := fun i hi => (g.regs i hi).trans (h.regs i hi)
  peaks := fun q => by
    have h1 := h.peaks q
    have g1 := g.peaks q
    rw [← h1, ← g1]
  rest := by
    have h1 := h.rest
    have g1 := g.rest
    rw [← h1, ← g1]

theorem State.setRegW_with (s : State) (k : Nat) (v : Word) (r : Tab Word) (q : Two Peak) :
    { s.setRegW k v with regs := r, peaks := q } = { s with regs := r, peaks := q } := rfl

theorem State.setFld_with (s : State) (p : PeakId) (f : Fld) (v : Nat) (r : Tab Word) (q : Two Peak) :
    { s.setFld p f v with regs := r, peaks := q } = { s with regs := r, peaks := q } := State.setRegW_with ..

theorem obsCount_obsOnly (p : PeakId) (src arg n : Nat) (s : State) : ObsOnly p s (obsCount p src arg n s) := by
  suffices h : ∀ (xs : List Nat), (∀ k ∈ xs, k < 8) → ∀ t, ObsOnly p s t → ObsOnly p s (forAll xs (fun k s =>
      if s.bit p ⟨Reg.obsCntCtrl k, 0, 0⟩ && decide (s.fld p (Fd.obsCntSelSrc k) = src) && (decide (5 ≤ src) || decide (s.fld p (Fd.obsCntSelArg k) = arg)) then
        let c := Tab.get (fun _ => 0) (s.peak p).obs k
        let c' := c + n
        let s1 := s.setPeak p { s.peak p with obs := Tab.put (fun _ => 0) (s.peak p).obs k (min c' (2 ^ 48 - 1)) }
        if 2 ^ 48 ≤ c' then s1.setFld p (Fd.obsCntHiSat k) 1 else s1
      else s) t) from h (List.range 8) (fun k hk => List.mem_range.mp hk) s (ObsOnly.refl p s)
  intro xs
  induction xs with
  | nil => exact fun _ t h => h
  | cons k r ih =>
    intro hk t h
    refine ih (fun j hj => hk j (by simp [hj])) _ (h.trans ?_)
    have hk8 := hk k (by simp)
    dsimp only
    have h1 : ∀ o : Tab Nat, ObsOnly p t (t.setPeak p { t.peak p with obs := o }) := fun o =>
      ⟨fun _ _ => rfl, fun q => by cases p <;> cases q <;> rfl, rfl⟩
    split
    · split
      · refine (h1 _).trans ⟨fun i hi => State.regW_setFld_ne _ _ (hi k hk8), fun q => by rw [State.peak_setFld], ?_⟩
        rw [State.setFld_with]
      · exact h1 _
    · exact ObsOnly.refl p t

theorem issueObs_obsOnly (k : CoreSel) (u : Use) (s : State) : ObsOnly k.peak s (issueObs k u s) :=
  (obsCount_obsOnly _ _ _ _ s).trans (obsCount_obsOnly _ _ _ _ _)

theorem ObsOnly.core {p : PeakId} {s t : State} (h : ObsOnly p s t) (k : CoreSel) : t.core k = s.core k := by
  rw [← h.rest]
  rfl

theorem ObsOnly.setCore {k : CoreSel} {s t : State} (h : ObsOnly k.peak s t) (c : Core) : OnlyCore k s (t.setCore k c) where
  others := fun j hj => by rw [State.core_setCore_ne _ _ hj, h.core]
  regs := fun i hi => h.regs i hi
  peaks := fun q => h.peaks q
  rest := by
    have h1 := h.rest
    rw [← h1]
    rfl

/-! ### The frame of an instruction -/

/-- An instruction that acts on its core alone issues, passes its words, and changes what its effect says. -/
theorem runCore_spec {k : CoreSel} {len : Nat} {s : State} (h : s.runs k len) (u : Use) (f : Core → Core)
    (hf : { f (s.core k) with s := (s.core k).s, v := (s.core k).v, ph := (s.core k).ph, q := (s.core k).q, flags := (s.core k).flags } = s.core k) :
    OnlyCore k s (runCore k len u f s) ∧ Issued u len (s.core k) ((runCore k len u f s).core k) ∧
      ((runCore k len u f s).core k).at_ (s.core k) = f (s.core k) := by
  have e : runCore k len u f s = (issueObs k u s).setCore k { ((s.core k).book u) with
      s := (f (s.core k)).s, v := (f (s.core k)).v, ph := (f (s.core k)).ph, q := (f (s.core k)).q, flags := (f (s.core k)).flags,
      pc := (s.core k).pc + BitVec.ofNat 32 len } := by
    unfold runCore fetched
    rw [if_pos h.1, if_neg (by have := h.2; omega)]
  rw [e]
  refine ⟨(issueObs_obsOnly k u s).setCore _, ?_, ?_⟩
  · rw [State.core_setCore_same]
    exact Core.issued_book _ u len rfl rfl rfl rfl rfl
  · rw [State.core_setCore_same]
    have hb := (s.core k).book_at u
    generalize f (s.core k) = g at hf
    generalize (s.core k).book u = b at hb ⊢
    generalize (s.core k) = c at hf hb ⊢
    obtain ⟨⟩ := g
    obtain ⟨⟩ := b
    obtain ⟨⟩ := c
    simp only [Core.at_, Core.mk.injEq, true_and] at hf hb ⊢
    simp only [hf, hb, and_self]

/-- An instruction that leaves the register files alone. -/
theorem passCore_spec (k : CoreSel) (len : Nat) (u : Use) (s : State) :
    OnlyCore k s (passCore k len u s) ∧ Issued u len (s.core k) ((passCore k len u s).core k) ∧
      ((passCore k len u s).core k).at_ (s.core k) = s.core k := by
  unfold passCore
  refine ⟨(issueObs_obsOnly k u s).setCore _, ?_, ?_⟩
  · rw [State.core_setCore_same]
    exact Core.issued_book _ u len rfl rfl rfl rfl rfl
  · rw [State.core_setCore_same]
    exact (s.core k).book_at u

/-! ### What results do to a core -/

theorem Core.scalarWrite {c c' : Core} {d : Nat} {r : Res} (h : c'.at_ c = (c.setS d r.val).flag r.fl) : ScalarWrite d r c c' := by
  have hs : c'.s = (c.setS d r.val).s :=
    (show (c'.at_ c).s = ((c.setS d r.val).flag r.fl).s from congrArg Core.s h)
  have hr : ∀ n, c'.rs n = (c.setS d r.val).rs n := fun n => by unfold Core.rs; rw [hs]
  refine ⟨?_, ?_, ?_, ?_⟩
  · rw [hr, Core.rs_setS, if_pos rfl]
  · intro n hn
    rw [hr, Core.rs_setS, if_neg hn]
  · have := congrArg Core.flags h
    unfold Core.flag at this
    rw [show c'.flags = (c'.at_ c).flags from rfl, this]
    unfold Core.setS
    split <;> rfl
  · rw [h]
    unfold Core.flag Core.setS
    split <;> rfl

theorem Core.predWrite {c c' : Core} {d : Nat} {v mask : BitVec 4} {fl : FlagSet} (h : c'.at_ c = (c.setQ d v mask).flag fl) : PredWrite d v mask fl c c' := by
  have hs : c'.q = (c.setQ d v mask).q :=
    (show (c'.at_ c).q = ((c.setQ d v mask).flag fl).q from congrArg Core.q h)
  have hr : ∀ n, c'.rq n = (c.setQ d v mask).rq n := fun n => by unfold Core.rq; rw [hs]
  refine ⟨?_, ?_, ?_, ?_⟩
  · rw [hr, Core.rq_setQ, if_pos rfl]
  · intro n hn
    rw [hr, Core.rq_setQ, if_neg hn]
  · have := congrArg Core.flags h
    unfold Core.flag at this
    rw [show c'.flags = (c'.at_ c).flags from rfl, this]
    unfold Core.setQ
    split <;> rfl
  · rw [h]
    unfold Core.flag Core.setQ
    split <;> rfl

theorem Core.phaseWrite {c c' : Core} {d : Nat} {v : BitVec 64} {fl : FlagSet} (h : c'.at_ c = (c.setPh d v).flag fl) : PhaseWrite d v fl c c' := by
  have hs : c'.ph = (c.setPh d v).ph :=
    (show (c'.at_ c).ph = ((c.setPh d v).flag fl).ph from congrArg Core.ph h)
  have hr : ∀ n, c'.rph n = (c.setPh d v).rph n := fun n => by unfold Core.rph; rw [hs]
  refine ⟨?_, ?_, ?_, ?_⟩
  · rw [hr, Core.rph_setPh, if_pos rfl]
  · intro n hn
    rw [hr, Core.rph_setPh, if_neg hn]
  · exact congrArg Core.flags h
  · rw [h]
    rfl

@[simp] theorem Core.flag_none (c : Core) : c.flag flNone = c := by
  unfold Core.flag flNone
  simp

/-! ### The shared shapes, one lemma each -/

/-- What an instruction that issues as `u` does: the frame, the issue, and `W` on its core. -/
structure Did (s t : State) (k : CoreSel) (len : Nat) (u : Use) (W : Core → Core → Prop) : Prop where
  frame : OnlyCore k s t
  issued : Issued u len (s.core k) (t.core k)
  write : W (s.core k) (t.core k)

theorem runCore_did {k : CoreSel} {len : Nat} {u : Use} {f : Core → Core} {s : State} {W : Core → Core → Prop} (h : s.runs k len)
    (hf : { f (s.core k) with s := (s.core k).s, v := (s.core k).v, ph := (s.core k).ph, q := (s.core k).q, flags := (s.core k).flags } = s.core k)
    (hW : ∀ c', c'.at_ (s.core k) = f (s.core k) → W (s.core k) c') : Did s (runCore k len u f s) k len u
      W :=
  ⟨(runCore_spec h u f hf).1, (runCore_spec h u f hf).2.1, hW _ (runCore_spec h u f hf).2.2⟩

theorem Core.frame_setS (c : Core) (d : Nat) (v : Word) (fl : FlagSet) :
    { (c.setS d v).flag fl with s := c.s, v := c.v, ph := c.ph, q := c.q, flags := c.flags } = c := by
  unfold Core.flag Core.setS
  split <;> rfl

theorem Core.frame_setQ (c : Core) (d : Nat) (v m : BitVec 4) (fl : FlagSet) :
    { (c.setQ d v m).flag fl with s := c.s, v := c.v, ph := c.ph, q := c.q, flags := c.flags } = c := by
  unfold Core.flag Core.setQ
  split <;> rfl

theorem guarded_spec {x : Slot} {len : Nat} {u : Use} {d : Nat} {f : Core → Res} {s : State} (h : s.runs x.toCoreSel len)
    (hon : (s.core x.toCoreSel).on x.pred.val = true) :
    Did s (runCore x.toCoreSel len u (fun c => if c.on x.pred.val then (c.setS d (f c).val).flag (f c).fl else c) s) x.toCoreSel len u
      (ScalarWrite d (f (s.core x.toCoreSel))) := by
  refine runCore_did h ?_ fun c' hc => ?_
  · simp only [hon, if_true]
    exact Core.frame_setS ..
  · simp only [hon, if_true] at hc
    exact Core.scalarWrite hc

theorem guarded_off {k : CoreSel} {len : Nat} {u : Use} {p : Core → Bool} {g : Core → Core} {s : State} (h : s.runs k len) (hoff : p (s.core k) = false) :
    Did s (runCore k len u (fun c => if p c then g c else c) s) k len u
      (fun c c' => c'.at_ c = c) := by
  refine runCore_did h ?_ fun c' hc => ?_
  · simp only [hoff, Bool.false_eq_true, if_false]
  · simpa only [hoff, Bool.false_eq_true, if_false] using hc

/-- A scalar instruction whose predicate's lane 0 is 1. -/
theorem scalarOp_spec {x : Slot} (d : Fin 32) (reads : List Nat) (lat : Nat) (f : Core → Res) {s : State} (h : s.runs x.toCoreSel 4)
    (hon : (s.core x.toCoreSel).on x.pred.val = true) :
    Did s (scalarOp x d reads lat f s) x.toCoreSel 4 { reads := kQ x.pred.val :: reads, writes := [kS d.val], lat := lat }
      (ScalarWrite d.val (f (s.core x.toCoreSel))) := guarded_spec h hon

theorem divOp_spec {x : Slot} (d : Fin 32) (reads : List Nat) (f : Core → Res) {s : State} (h : s.runs x.toCoreSel 4)
    (hon : (s.core x.toCoreSel).on x.pred.val = true) :
    Did s (divOp x d reads f s) x.toCoreSel 4 { reads := kQ x.pred.val :: reads, writes := [kS d.val], lat := 8, div := true }
      (ScalarWrite d.val (f (s.core x.toCoreSel))) := guarded_spec h hon

theorem longOp_spec {x : Slot} (d : Fin 32) (reads : List Nat) (lat : Nat) (f : Core → Res) {s : State} (h : s.runs x.toCoreSel 8)
    (hon : (s.core x.toCoreSel).on x.pred.val = true) :
    Did s (longOp x d reads lat f s) x.toCoreSel 8 { reads := kQ x.pred.val :: reads, writes := [kS d.val], lat := lat, occ := 1 + longExtra s x.toCoreSel }
      (ScalarWrite d.val (f (s.core x.toCoreSel))) := guarded_spec h hon

/-- A compare into a predicate whose governing lane 0 is 1. -/
theorem compareOp_spec {x : Slot} (d : Fin 4) (reads : List Nat) (lat : Nat) (f : Core → Bool × FlagSet) {s : State} (h : s.runs x.toCoreSel 4)
    (hon : (s.core x.toCoreSel).on x.pred.val = true) :
    Did s (compareOp x d reads lat f s) x.toCoreSel 4 { reads := kQ x.pred.val :: reads, writes := [kQ d.val], lat := lat }
      (PredWrite d.val (allLanes (f (s.core x.toCoreSel)).1) 0xF (f (s.core x.toCoreSel)).2) := by
  refine runCore_did h ?_ fun c' hc => ?_
  · simp only [hon, if_true]
    exact Core.frame_setQ ..
  · simp only [hon, if_true] at hc
    exact Core.predWrite hc

theorem predOp_spec {x : Slot} (d : Fin 4) (reads : List Nat) (f : Core → BitVec 4) {s : State} (h : s.runs x.toCoreSel 4) :
    Did s (predOp x d reads f s) x.toCoreSel 4 { reads := kQ x.pred.val :: reads, writes := [kQ d.val] }
      (PredWrite d.val (f (s.core x.toCoreSel)) ((s.core x.toCoreSel).rq x.pred.val) 0) := by
  refine runCore_did h ?_ fun c' hc => ?_
  · have := Core.frame_setQ (s.core x.toCoreSel) d.val (f (s.core x.toCoreSel)) ((s.core x.toCoreSel).rq x.pred.val) flNone
    rwa [Core.flag_none] at this
  · refine Core.predWrite ?_
    rw [hc]
    exact (Core.flag_none _).symm

theorem phaseOp_spec {x : Slot} (d : Fin 4) (reads : List Nat) (lat : Nat) (f : Core → BitVec 64 × FlagSet) {s : State} (h : s.runs x.toCoreSel 4)
    (hon : (s.core x.toCoreSel).on x.pred.val = true) :
    Did s (phaseOp x d reads lat f s) x.toCoreSel 4 { reads := kQ x.pred.val :: reads, writes := [kP d.val], lat := lat }
      (PhaseWrite d.val (f (s.core x.toCoreSel)).1 (f (s.core x.toCoreSel)).2) := by
  refine runCore_did h ?_ fun c' hc => ?_
  · simp only [hon, if_true]
    rfl
  · simp only [hon, if_true] at hc
    exact Core.phaseWrite hc

/-! ### Vectors -/

/-- The lanes written so far: those below `n`. -/
theorem Core.laneWrite_aux (c : Core) (q d : Nat) (f : Nat → Res) (n : Nat) (hn : n ≤ 4) :
    let k := (List.range n).foldl (fun k l => if c.lane q l then (k.setV d l (f l).val).flag (f l).fl else k) c
    (∀ m l, l < 4 → k.rv m l = if m = d ∧ l < n ∧ c.lane q l = true then (f l).val else c.rv m l) ∧
      k.flags = (List.range n).foldl (fun g l => if c.lane q l then g ||| (f l).fl else g) c.flags ∧ { k with v := c.v, flags := c.flags } = c := by
  induction n with
  | zero => exact ⟨by simp, rfl, rfl⟩
  | succ n ih =>
    obtain ⟨h1, h2, h3⟩ := ih (by omega)
    simp only [List.range_succ, List.foldl_append, List.foldl_cons, List.foldl_nil]
    generalize (List.range n).foldl (fun k l => if c.lane q l then (k.setV d l (f l).val).flag (f l).fl else k) c = k at h1 h2 h3
    by_cases hl : c.lane q n = true
    · simp only [hl, if_true]
      refine ⟨fun m l h4 => ?_, ?_, ?_⟩
      · rw [show ((k.setV d n (f n).val).flag (f n).fl).rv m l = (k.setV d n (f n).val).rv m l from rfl, Core.rv_setV _ _ _ _ _ _ (by omega) h4, h1 m l h4]
        by_cases hm : m = d
        · by_cases hln : l = n
          · subst hln
            simp [hm, hl]
          · have e : (l < n + 1) = (l < n) := propext ⟨fun _ => by omega, fun _ => by omega⟩
            simp only [hm, hln, e, true_and, and_false, if_false]
        · simp [hm]
      · rw [← h2]
        rfl
      · rw [← h3]
        rfl
    · simp only [hl, Bool.false_eq_true, if_false]
      refine ⟨fun m l h4 => ?_, h2, h3⟩
      rw [h1 m l h4]
      by_cases hln : l = n
      · subst hln
        simp [hl]
      · have e : (l < n + 1) = (l < n) := propext ⟨fun _ => by omega, fun _ => by omega⟩
        simp only [e]

theorem Core.frame_laneWrite (c : Core) (q d : Nat) (f : Nat → Res) :
    { c.laneWrite q d f with s := c.s, v := c.v, ph := c.ph, q := c.q, flags := c.flags } = c := by
  have h3 : ({ c.laneWrite q d f with v := c.v, flags := c.flags } : Core) = c := (Core.laneWrite_aux c q d f 4 (le_refl 4)).2.2
  generalize c.laneWrite q d f = g at h3 ⊢
  obtain ⟨⟩ := g
  obtain ⟨⟩ := c
  simp only [Core.mk.injEq, true_and] at h3 ⊢
  simp only [h3, and_self]

theorem Core.vectorWrite {c c' : Core} {q d : Nat} {f : Nat → Res} (h : c'.at_ c = c.laneWrite q d f) : VectorWrite d (c.rq q) f c c' := by
  obtain ⟨h1, h2, h3⟩ := Core.laneWrite_aux c q d f 4 (le_refl 4)
  have hv : c'.v = (c.laneWrite q d f).v := (show (c'.at_ c).v = (c.laneWrite q d f).v from congrArg Core.v h)
  have hr : ∀ m l, c'.rv m l = (c.laneWrite q d f).rv m l := fun m l => by unfold Core.rv; rw [hv]
  refine ⟨fun l hl => ?_, fun m l hm hl => ?_, ?_, ?_⟩
  · rw [hr]
    refine (h1 d l hl).trans ?_
    simp only [hl, true_and]
    rfl
  · rw [hr]
    refine (h1 m l hl).trans ?_
    simp only [hm, false_and, if_false]
  · exact (show (c'.at_ c).flags = (c.laneWrite q d f).flags from congrArg Core.flags h).trans h2
  · rw [h]
    exact h3

theorem vecOp_spec {x : Slot} (d : Fin 8) (reads : List Nat) (lat : Nat) (f : Core → Nat → Res) {s : State} (h : s.runs x.toCoreSel 4) :
    Did s (vecOp x d reads lat f s) x.toCoreSel 4 { reads := kQ x.pred.val :: reads, writes := [kV d.val], lat := lat }
      (VectorWrite d.val ((s.core x.toCoreSel).rq x.pred.val) (f (s.core x.toCoreSel))) := by
  exact runCore_did h (Core.frame_laneWrite ..) fun c' hc => Core.vectorWrite hc

end Sys2Proof.Machine
end

