-- ==== Sys2Proof/Laws/Exec.lean ====
section
/-! SUPPORT. The dispatch, one constructor at a time. -/

namespace Sys2Proof.Machine

theorem exec_registerWrite (m : Master) (addr : Word) (val : Word) (lanes : BitVec 4) (s : State) :
    exec (.registerWrite m addr val lanes) s = execRegisterWrite m addr val lanes s := rfl
theorem exec_supplyRise (sup : Supply) (legs : BitVec 6) (s : State) :
    exec (.supplyRise sup legs) s = execSupplyRise sup legs s := rfl
theorem exec_supplyFall (sup : Supply) (s : State) :
    exec (.supplyFall sup) s = execSupplyFall sup s := rfl
theorem exec_resetPin (ns : Word) (s : State) :
    exec (.resetPin ns) s = execResetPin ns s := rfl
theorem exec_resetRelease (s : State) :
    exec (.resetRelease) s = execResetRelease s := rfl
theorem exec_gendarmeStartInstant (i : Fin 4) (ok : Bool) (xin : Bool) (s : State) :
    exec (.gendarmeStartInstant i ok xin) s = execGendarmeStartInstant i ok xin s := rfl
theorem exec_refCheckWindow (good : Bool) (s : State) :
    exec (.refCheckWindow good) s = execRefCheckWindow good s := rfl
theorem exec_stageStart (s : State) :
    exec (.stageStart) s = execStageStart s := rfl
theorem exec_stageInstant (i : Fin 7) (locks : BitVec 6) (s : State) :
    exec (.stageInstant i locks) s = execStageInstant i locks s := rfl
theorem exec_safetyConfigLoad (s : State) :
    exec (.safetyConfigLoad) s = execSafetyConfigLoad s := rfl
theorem exec_pllLossOfLock (pll : PllId) (s : State) :
    exec (.pllLossOfLock pll) s = execPllLossOfLock pll s := rfl
theorem exec_referenceMissing (s : State) :
    exec (.referenceMissing) s = execReferenceMissing s := rfl
theorem exec_referenceReturn (s : State) :
    exec (.referenceReturn) s = execReferenceReturn s := rfl
theorem exec_pllRelock (pll : PllId) (s : State) :
    exec (.pllRelock pll) s = execPllRelock pll s := rfl
theorem exec_clkTargetWrite (m : Master) (val : Word) (s : State) :
    exec (.clkTargetWrite m val) s = execClkTargetWrite m val s := rfl
theorem exec_pllStepRelock (p : PeakId) (s : State) :
    exec (.pllStepRelock p) s = execPllStepRelock p s := rfl
theorem exec_bivouacEnter (m : Master) (val : Word) (s : State) :
    exec (.bivouacEnter m val) s = execBivouacEnter m val s := rfl
theorem exec_bivouacEntryComplete (s : State) :
    exec (.bivouacEntryComplete) s = execBivouacEntryComplete s := rfl
theorem exec_wakeEvent (col : Bool) (sin : BitVec 8) (s : State) :
    exec (.wakeEvent col sin) s = execWakeEvent col sin s := rfl
theorem exec_wakeAlarm (s : State) :
    exec (.wakeAlarm) s = execWakeAlarm s := rfl
theorem exec_crossingTimeout (m : Master) (dest : Fin 6) (addr : Word) (write : Bool) (s : State) :
    exec (.crossingTimeout m dest addr write) s = execCrossingTimeout m dest addr write s := rfl
theorem exec_slotFetchComplete (slot : Fin 2) (img : List Byte) (s : State) :
    exec (.slotFetchComplete slot img) s = execSlotFetchComplete slot img s := rfl
theorem exec_bootVerdictCompare (badA : Bool) (badB : Bool) (s : State) :
    exec (.bootVerdictCompare badA badB) s = execBootVerdictCompare badA badB s := rfl
theorem exec_memoryPhaseComplete (s : State) :
    exec (.memoryPhaseComplete) s = execMemoryPhaseComplete s := rfl
theorem exec_selfTestComplete (a : BitVec 96) (b : BitVec 96) (shared : BitVec 160) (s : State) :
    exec (.selfTestComplete a b shared) s = execSelfTestComplete a b shared s := rfl
theorem exec_handover (p : PeakId) (s : State) :
    exec (.handover p) s = execHandover p s := rfl
theorem exec_lcsAdvanceState (key : BitVec 16) (arg : BitVec 7) (v12 : Bool) (s : State) :
    exec (.lcsAdvanceState key arg v12) s = execLcsAdvanceState key arg v12 s := rfl
theorem exec_lcsProgramKeySlot (key : BitVec 16) (arg : BitVec 7) (v12 : Bool) (s : State) :
    exec (.lcsProgramKeySlot key arg v12) s = execLcsProgramKeySlot key arg v12 s := rfl
theorem exec_lcsRevokeKeySlot (key : BitVec 16) (arg : BitVec 7) (v12 : Bool) (s : State) :
    exec (.lcsRevokeKeySlot key arg v12) s = execLcsRevokeKeySlot key arg v12 s := rfl
theorem exec_lcsRaiseSvn (key : BitVec 16) (arg : BitVec 7) (v12 : Bool) (s : State) :
    exec (.lcsRaiseSvn key arg v12) s = execLcsRaiseSvn key arg v12 s := rfl
theorem exec_lifecycleOpComplete (blown : Fin 9) (ok : Bool) (s : State) :
    exec (.lifecycleOpComplete blown ok) s = execLifecycleOpComplete blown ok s := rfl
theorem exec_lifecycleReset (s : State) :
    exec (.lifecycleReset) s = execLifecycleReset s := rfl
theorem exec_bistStart (m : Master) (val : Word) (s : State) :
    exec (.bistStart m val) s = execBistStart m val s := rfl
theorem exec_bistRunComplete (p : PeakId) (pass : Word) (s : State) :
    exec (.bistRunComplete p pass) s = execBistRunComplete p pass s := rfl
theorem exec_taskDispatch (k : CoreSel) (s : State) :
    exec (.taskDispatch k) s = execTaskDispatch k s := rfl
theorem exec_storeBufferComplete (k : CoreSel) (s : State) :
    exec (.storeBufferComplete k) s = execStoreBufferComplete k s := rfl
theorem exec_waitResume (k : CoreSel) (s : State) :
    exec (.waitResume k) s = execWaitResume k s := rfl
theorem exec_illegalWord (x : CoreWord) (s : State) :
    exec (.illegalWord x) s = execIllegalWord x s := rfl
theorem exec_add (x : Slot) (d : Fin 32) (a : Fin 32) (b : Fin 32) (s : State) :
    exec (.add x d a b) s = execAdd x d a b s := rfl
theorem exec_sub (x : Slot) (d : Fin 32) (a : Fin 32) (b : Fin 32) (s : State) :
    exec (.sub x d a b) s = execSub x d a b s := rfl
theorem exec_and (x : Slot) (d : Fin 32) (a : Fin 32) (b : Fin 32) (s : State) :
    exec (.and x d a b) s = execAnd x d a b s := rfl
theorem exec_or (x : Slot) (d : Fin 32) (a : Fin 32) (b : Fin 32) (s : State) :
    exec (.or x d a b) s = execOr x d a b s := rfl
theorem exec_xor (x : Slot) (d : Fin 32) (a : Fin 32) (b : Fin 32) (s : State) :
    exec (.xor x d a b) s = execXor x d a b s := rfl
theorem exec_shl (x : Slot) (d : Fin 32) (a : Fin 32) (b : Fin 32) (s : State) :
    exec (.shl x d a b) s = execShl x d a b s := rfl
theorem exec_shr (x : Slot) (d : Fin 32) (a : Fin 32) (b : Fin 32) (s : State) :
    exec (.shr x d a b) s = execShr x d a b s := rfl
theorem exec_sar (x : Slot) (d : Fin 32) (a : Fin 32) (b : Fin 32) (s : State) :
    exec (.sar x d a b) s = execSar x d a b s := rfl
theorem exec_mul (x : Slot) (d : Fin 32) (a : Fin 32) (b : Fin 32) (s : State) :
    exec (.mul x d a b) s = execMul x d a b s := rfl
theorem exec_min (x : Slot) (d : Fin 32) (a : Fin 32) (b : Fin 32) (s : State) :
    exec (.min x d a b) s = execMin x d a b s := rfl
theorem exec_max (x : Slot) (d : Fin 32) (a : Fin 32) (b : Fin 32) (s : State) :
    exec (.max x d a b) s = execMax x d a b s := rfl
theorem exec_minu (x : Slot) (d : Fin 32) (a : Fin 32) (b : Fin 32) (s : State) :
    exec (.minu x d a b) s = execMinu x d a b s := rfl
theorem exec_maxu (x : Slot) (d : Fin 32) (a : Fin 32) (b : Fin 32) (s : State) :
    exec (.maxu x d a b) s = execMaxu x d a b s := rfl
theorem exec_addi (x : Slot) (d : Fin 32) (a : Fin 32) (imm : BitVec 12) (s : State) :
    exec (.addi x d a imm) s = execAddi x d a imm s := rfl
theorem exec_andi (x : Slot) (d : Fin 32) (a : Fin 32) (imm : BitVec 12) (s : State) :
    exec (.andi x d a imm) s = execAndi x d a imm s := rfl
theorem exec_ori (x : Slot) (d : Fin 32) (a : Fin 32) (imm : BitVec 12) (s : State) :
    exec (.ori x d a imm) s = execOri x d a imm s := rfl
theorem exec_xori (x : Slot) (d : Fin 32) (a : Fin 32) (imm : BitVec 12) (s : State) :
    exec (.xori x d a imm) s = execXori x d a imm s := rfl
theorem exec_shli (x : Slot) (d : Fin 32) (a : Fin 32) (sh : Fin 32) (s : State) :
    exec (.shli x d a sh) s = execShli x d a sh s := rfl
theorem exec_shri (x : Slot) (d : Fin 32) (a : Fin 32) (sh : Fin 32) (s : State) :
    exec (.shri x d a sh) s = execShri x d a sh s := rfl
theorem exec_sari (x : Slot) (d : Fin 32) (a : Fin 32) (sh : Fin 32) (s : State) :
    exec (.sari x d a sh) s = execSari x d a sh s := rfl
theorem exec_ceq (x : Slot) (d : Fin 4) (a : Fin 32) (b : Fin 32) (s : State) :
    exec (.ceq x d a b) s = execCeq x d a b s := rfl
theorem exec_cne (x : Slot) (d : Fin 4) (a : Fin 32) (b : Fin 32) (s : State) :
    exec (.cne x d a b) s = execCne x d a b s := rfl
theorem exec_clt (x : Slot) (d : Fin 4) (a : Fin 32) (b : Fin 32) (s : State) :
    exec (.clt x d a b) s = execClt x d a b s := rfl
theorem exec_cge (x : Slot) (d : Fin 4) (a : Fin 32) (b : Fin 32) (s : State) :
    exec (.cge x d a b) s = execCge x d a b s := rfl
theorem exec_cltu (x : Slot) (d : Fin 4) (a : Fin 32) (b : Fin 32) (s : State) :
    exec (.cltu x d a b) s = execCltu x d a b s := rfl
theorem exec_cgeu (x : Slot) (d : Fin 4) (a : Fin 32) (b : Fin 32) (s : State) :
    exec (.cgeu x d a b) s = execCgeu x d a b s := rfl
theorem exec_ceqi (x : Slot) (d : Fin 4) (a : Fin 32) (imm : BitVec 12) (s : State) :
    exec (.ceqi x d a imm) s = execCeqi x d a imm s := rfl
theorem exec_cnei (x : Slot) (d : Fin 4) (a : Fin 32) (imm : BitVec 12) (s : State) :
    exec (.cnei x d a imm) s = execCnei x d a imm s := rfl
theorem exec_clti (x : Slot) (d : Fin 4) (a : Fin 32) (imm : BitVec 12) (s : State) :
    exec (.clti x d a imm) s = execClti x d a imm s := rfl
theorem exec_cgei (x : Slot) (d : Fin 4) (a : Fin 32) (imm : BitVec 12) (s : State) :
    exec (.cgei x d a imm) s = execCgei x d a imm s := rfl
theorem exec_cltui (x : Slot) (d : Fin 4) (a : Fin 32) (imm : BitVec 12) (s : State) :
    exec (.cltui x d a imm) s = execCltui x d a imm s := rfl
theorem exec_cgeui (x : Slot) (d : Fin 4) (a : Fin 32) (imm : BitVec 12) (s : State) :
    exec (.cgeui x d a imm) s = execCgeui x d a imm s := rfl
theorem exec_andq (x : Slot) (d : Fin 4) (a : Fin 4) (b : Fin 4) (s : State) :
    exec (.andq x d a b) s = execAndq x d a b s := rfl
theorem exec_orq (x : Slot) (d : Fin 4) (a : Fin 4) (b : Fin 4) (s : State) :
    exec (.orq x d a b) s = execOrq x d a b s := rfl
theorem exec_xorq (x : Slot) (d : Fin 4) (a : Fin 4) (b : Fin 4) (s : State) :
    exec (.xorq x d a b) s = execXorq x d a b s := rfl
theorem exec_andnq (x : Slot) (d : Fin 4) (a : Fin 4) (b : Fin 4) (s : State) :
    exec (.andnq x d a b) s = execAndnq x d a b s := rfl
theorem exec_setq (x : Slot) (d : Fin 4) (a : Fin 32) (s : State) :
    exec (.setq x d a) s = execSetq x d a s := rfl
theorem exec_getq (x : Slot) (d : Fin 32) (a : Fin 4) (s : State) :
    exec (.getq x d a) s = execGetq x d a s := rfl
theorem exec_allq (x : Slot) (d : Fin 4) (a : Fin 4) (s : State) :
    exec (.allq x d a) s = execAllq x d a s := rfl
theorem exec_anyq (x : Slot) (d : Fin 4) (a : Fin 4) (s : State) :
    exec (.anyq x d a) s = execAnyq x d a s := rfl
theorem exec_qadd (x : Slot) (d : Fin 32) (a : Fin 32) (b : Fin 32) (s : State) :
    exec (.qadd x d a b) s = execQadd x d a b s := rfl
theorem exec_qsub (x : Slot) (d : Fin 32) (a : Fin 32) (b : Fin 32) (s : State) :
    exec (.qsub x d a b) s = execQsub x d a b s := rfl
theorem exec_qneg (x : Slot) (d : Fin 32) (a : Fin 32) (s : State) :
    exec (.qneg x d a) s = execQneg x d a s := rfl
theorem exec_qabs (x : Slot) (d : Fin 32) (a : Fin 32) (s : State) :
    exec (.qabs x d a) s = execQabs x d a s := rfl
theorem exec_qmul (x : Slot) (d : Fin 32) (a : Fin 32) (b : Fin 32) (s : State) :
    exec (.qmul x d a b) s = execQmul x d a b s := rfl
theorem exec_qmac (x : Slot) (d : Fin 32) (a : Fin 32) (b : Fin 32) (s : State) :
    exec (.qmac x d a b) s = execQmac x d a b s := rfl
theorem exec_qmsu (x : Slot) (d : Fin 32) (a : Fin 32) (b : Fin 32) (s : State) :
    exec (.qmsu x d a b) s = execQmsu x d a b s := rfl
theorem exec_fadd (x : Slot) (d : Fin 32) (a : Fin 32) (b : Fin 32) (s : State) :
    exec (.fadd x d a b) s = execFadd x d a b s := rfl
theorem exec_fsub (x : Slot) (d : Fin 32) (a : Fin 32) (b : Fin 32) (s : State) :
    exec (.fsub x d a b) s = execFsub x d a b s := rfl
theorem exec_fmul (x : Slot) (d : Fin 32) (a : Fin 32) (b : Fin 32) (s : State) :
    exec (.fmul x d a b) s = execFmul x d a b s := rfl
theorem exec_fma (x : Slot) (d : Fin 32) (a : Fin 32) (b : Fin 32) (s : State) :
    exec (.fma x d a b) s = execFma x d a b s := rfl
theorem exec_fms (x : Slot) (d : Fin 32) (a : Fin 32) (b : Fin 32) (s : State) :
    exec (.fms x d a b) s = execFms x d a b s := rfl
theorem exec_fmin (x : Slot) (d : Fin 32) (a : Fin 32) (b : Fin 32) (s : State) :
    exec (.fmin x d a b) s = execFmin x d a b s := rfl
theorem exec_fmax (x : Slot) (d : Fin 32) (a : Fin 32) (b : Fin 32) (s : State) :
    exec (.fmax x d a b) s = execFmax x d a b s := rfl
theorem exec_fneg (x : Slot) (d : Fin 32) (a : Fin 32) (s : State) :
    exec (.fneg x d a) s = execFneg x d a s := rfl
theorem exec_fabs (x : Slot) (d : Fin 32) (a : Fin 32) (s : State) :
    exec (.fabs x d a) s = execFabs x d a s := rfl
theorem exec_fdiv (x : Slot) (d : Fin 32) (a : Fin 32) (b : Fin 32) (s : State) :
    exec (.fdiv x d a b) s = execFdiv x d a b s := rfl
theorem exec_fsqrt (x : Slot) (d : Fin 32) (a : Fin 32) (s : State) :
    exec (.fsqrt x d a) s = execFsqrt x d a s := rfl
theorem exec_fceq (x : Slot) (d : Fin 4) (a : Fin 32) (b : Fin 32) (s : State) :
    exec (.fceq x d a b) s = execFceq x d a b s := rfl
theorem exec_fcne (x : Slot) (d : Fin 4) (a : Fin 32) (b : Fin 32) (s : State) :
    exec (.fcne x d a b) s = execFcne x d a b s := rfl
theorem exec_fclt (x : Slot) (d : Fin 4) (a : Fin 32) (b : Fin 32) (s : State) :
    exec (.fclt x d a b) s = execFclt x d a b s := rfl
theorem exec_fcle (x : Slot) (d : Fin 4) (a : Fin 32) (b : Fin 32) (s : State) :
    exec (.fcle x d a b) s = execFcle x d a b s := rfl
theorem exec_fcun (x : Slot) (d : Fin 4) (a : Fin 32) (b : Fin 32) (s : State) :
    exec (.fcun x d a b) s = execFcun x d a b s := rfl
theorem exec_f2q (x : Slot) (d : Fin 32) (a : Fin 32) (s : State) :
    exec (.f2q x d a) s = execF2q x d a s := rfl
theorem exec_q2f (x : Slot) (d : Fin 32) (a : Fin 32) (s : State) :
    exec (.q2f x d a) s = execQ2f x d a s := rfl
theorem exec_f2i (x : Slot) (d : Fin 32) (a : Fin 32) (s : State) :
    exec (.f2i x d a) s = execF2i x d a s := rfl
theorem exec_i2f (x : Slot) (d : Fin 32) (a : Fin 32) (s : State) :
    exec (.i2f x d a) s = execI2f x d a s := rfl
theorem exec_vadd (x : Slot) (d : Fin 8) (a : Fin 8) (b : Fin 8) (s : State) :
    exec (.vadd x d a b) s = execVadd x d a b s := rfl
theorem exec_vsub (x : Slot) (d : Fin 8) (a : Fin 8) (b : Fin 8) (s : State) :
    exec (.vsub x d a b) s = execVsub x d a b s := rfl
theorem exec_vand (x : Slot) (d : Fin 8) (a : Fin 8) (b : Fin 8) (s : State) :
    exec (.vand x d a b) s = execVand x d a b s := rfl
theorem exec_vor (x : Slot) (d : Fin 8) (a : Fin 8) (b : Fin 8) (s : State) :
    exec (.vor x d a b) s = execVor x d a b s := rfl
theorem exec_vxor (x : Slot) (d : Fin 8) (a : Fin 8) (b : Fin 8) (s : State) :
    exec (.vxor x d a b) s = execVxor x d a b s := rfl
theorem exec_vmul (x : Slot) (d : Fin 8) (a : Fin 8) (b : Fin 8) (s : State) :
    exec (.vmul x d a b) s = execVmul x d a b s := rfl
theorem exec_vshl (x : Slot) (d : Fin 8) (a : Fin 8) (r : Fin 32) (s : State) :
    exec (.vshl x d a r) s = execVshl x d a r s := rfl
theorem exec_vsar (x : Slot) (d : Fin 8) (a : Fin 8) (r : Fin 32) (s : State) :
    exec (.vsar x d a r) s = execVsar x d a r s := rfl
theorem exec_vqadd (x : Slot) (d : Fin 8) (a : Fin 8) (b : Fin 8) (s : State) :
    exec (.vqadd x d a b) s = execVqadd x d a b s := rfl
theorem exec_vqsub (x : Slot) (d : Fin 8) (a : Fin 8) (b : Fin 8) (s : State) :
    exec (.vqsub x d a b) s = execVqsub x d a b s := rfl
theorem exec_vqneg (x : Slot) (d : Fin 8) (a : Fin 8) (s : State) :
    exec (.vqneg x d a) s = execVqneg x d a s := rfl
theorem exec_vqabs (x : Slot) (d : Fin 8) (a : Fin 8) (s : State) :
    exec (.vqabs x d a) s = execVqabs x d a s := rfl
theorem exec_vqmul (x : Slot) (d : Fin 8) (a : Fin 8) (b : Fin 8) (s : State) :
    exec (.vqmul x d a b) s = execVqmul x d a b s := rfl
theorem exec_vqmac (x : Slot) (d : Fin 8) (a : Fin 8) (b : Fin 8) (s : State) :
    exec (.vqmac x d a b) s = execVqmac x d a b s := rfl
theorem exec_vqmuls (x : Slot) (d : Fin 8) (a : Fin 8) (r : Fin 32) (s : State) :
    exec (.vqmuls x d a r) s = execVqmuls x d a r s := rfl
theorem exec_vqmacs (x : Slot) (d : Fin 8) (a : Fin 8) (r : Fin 32) (s : State) :
    exec (.vqmacs x d a r) s = execVqmacs x d a r s := rfl
theorem exec_vfadd (x : Slot) (d : Fin 8) (a : Fin 8) (b : Fin 8) (s : State) :
    exec (.vfadd x d a b) s = execVfadd x d a b s := rfl
theorem exec_vfsub (x : Slot) (d : Fin 8) (a : Fin 8) (b : Fin 8) (s : State) :
    exec (.vfsub x d a b) s = execVfsub x d a b s := rfl
theorem exec_vfmul (x : Slot) (d : Fin 8) (a : Fin 8) (b : Fin 8) (s : State) :
    exec (.vfmul x d a b) s = execVfmul x d a b s := rfl
theorem exec_vfma (x : Slot) (d : Fin 8) (a : Fin 8) (b : Fin 8) (s : State) :
    exec (.vfma x d a b) s = execVfma x d a b s := rfl
theorem exec_vfmuls (x : Slot) (d : Fin 8) (a : Fin 8) (r : Fin 32) (s : State) :
    exec (.vfmuls x d a r) s = execVfmuls x d a r s := rfl
theorem exec_vfmas (x : Slot) (d : Fin 8) (a : Fin 8) (r : Fin 32) (s : State) :
    exec (.vfmas x d a r) s = execVfmas x d a r s := rfl
theorem exec_vfneg (x : Slot) (d : Fin 8) (a : Fin 8) (s : State) :
    exec (.vfneg x d a) s = execVfneg x d a s := rfl
theorem exec_vfabs (x : Slot) (d : Fin 8) (a : Fin 8) (s : State) :
    exec (.vfabs x d a) s = execVfabs x d a s := rfl
theorem exec_vfmin (x : Slot) (d : Fin 8) (a : Fin 8) (b : Fin 8) (s : State) :
    exec (.vfmin x d a b) s = execVfmin x d a b s := rfl
theorem exec_vfmax (x : Slot) (d : Fin 8) (a : Fin 8) (b : Fin 8) (s : State) :
    exec (.vfmax x d a b) s = execVfmax x d a b s := rfl
theorem exec_vq2f (x : Slot) (d : Fin 8) (a : Fin 8) (s : State) :
    exec (.vq2f x d a) s = execVq2f x d a s := rfl
theorem exec_vf2q (x : Slot) (d : Fin 8) (a : Fin 8) (s : State) :
    exec (.vf2q x d a) s = execVf2q x d a s := rfl
theorem exec_vf2i (x : Slot) (d : Fin 8) (a : Fin 8) (s : State) :
    exec (.vf2i x d a) s = execVf2i x d a s := rfl
theorem exec_vi2f (x : Slot) (d : Fin 8) (a : Fin 8) (s : State) :
    exec (.vi2f x d a) s = execVi2f x d a s := rfl
theorem exec_vceq (x : Slot) (d : Fin 4) (a : Fin 8) (b : Fin 8) (s : State) :
    exec (.vceq x d a b) s = execVceq x d a b s := rfl
theorem exec_vclt (x : Slot) (d : Fin 4) (a : Fin 8) (b : Fin 8) (s : State) :
    exec (.vclt x d a b) s = execVclt x d a b s := rfl
theorem exec_vcltu (x : Slot) (d : Fin 4) (a : Fin 8) (b : Fin 8) (s : State) :
    exec (.vcltu x d a b) s = execVcltu x d a b s := rfl
theorem exec_vfceq (x : Slot) (d : Fin 4) (a : Fin 8) (b : Fin 8) (s : State) :
    exec (.vfceq x d a b) s = execVfceq x d a b s := rfl
theorem exec_vfclt (x : Slot) (d : Fin 4) (a : Fin 8) (b : Fin 8) (s : State) :
    exec (.vfclt x d a b) s = execVfclt x d a b s := rfl
theorem exec_vfcle (x : Slot) (d : Fin 4) (a : Fin 8) (b : Fin 8) (s : State) :
    exec (.vfcle x d a b) s = execVfcle x d a b s := rfl
theorem exec_vbcast (x : Slot) (d : Fin 8) (r : Fin 32) (s : State) :
    exec (.vbcast x d r) s = execVbcast x d r s := rfl
theorem exec_vins (x : Slot) (d : Fin 8) (r : Fin 32) (lane : Fin 4) (s : State) :
    exec (.vins x d r lane) s = execVins x d r lane s := rfl
theorem exec_vext (x : Slot) (r : Fin 32) (a : Fin 8) (lane : Fin 4) (s : State) :
    exec (.vext x r a lane) s = execVext x r a lane s := rfl
theorem exec_vmov (x : Slot) (d : Fin 8) (a : Fin 8) (s : State) :
    exec (.vmov x d a) s = execVmov x d a s := rfl
theorem exec_vdup2 (x : Slot) (d : Fin 8) (a : Fin 8) (s : State) :
    exec (.vdup2 x d a) s = execVdup2 x d a s := rfl
theorem exec_vswap (x : Slot) (d : Fin 8) (a : Fin 8) (s : State) :
    exec (.vswap x d a) s = execVswap x d a s := rfl
theorem exec_vfhadd4 (x : Slot) (d : Fin 8) (a : Fin 8) (s : State) :
    exec (.vfhadd4 x d a) s = execVfhadd4 x d a s := rfl
theorem exec_vfhadd2 (x : Slot) (d : Fin 8) (a : Fin 8) (s : State) :
    exec (.vfhadd2 x d a) s = execVfhadd2 x d a s := rfl
theorem exec_vqhadd2 (x : Slot) (d : Fin 8) (a : Fin 8) (s : State) :
    exec (.vqhadd2 x d a) s = execVqhadd2 x d a s := rfl
theorem exec_padd (x : Slot) (d : Fin 4) (a : Fin 4) (b : Fin 4) (s : State) :
    exec (.padd x d a b) s = execPadd x d a b s := rfl
theorem exec_psub (x : Slot) (d : Fin 4) (a : Fin 4) (b : Fin 4) (s : State) :
    exec (.psub x d a b) s = execPsub x d a b s := rfl
theorem exec_pmov (x : Slot) (d : Fin 4) (a : Fin 4) (s : State) :
    exec (.pmov x d a) s = execPmov x d a s := rfl
theorem exec_ppack (x : Slot) (d : Fin 4) (hi : Fin 32) (lo : Fin 32) (s : State) :
    exec (.ppack x d hi lo) s = execPpack x d hi lo s := rfl
theorem exec_plo (x : Slot) (d : Fin 32) (a : Fin 4) (s : State) :
    exec (.plo x d a) s = execPlo x d a s := rfl
theorem exec_phi (x : Slot) (d : Fin 32) (a : Fin 4) (s : State) :
    exec (.phi x d a) s = execPhi x d a s := rfl
theorem exec_p2f (x : Slot) (d : Fin 32) (a : Fin 4) (s : State) :
    exec (.p2f x d a) s = execP2f x d a s := rfl
theorem exec_f2p (x : Slot) (d : Fin 4) (r : Fin 32) (s : State) :
    exec (.f2p x d r) s = execF2p x d r s := rfl
theorem exec_pdiff (x : Slot) (d : Fin 32) (a : Fin 4) (b : Fin 4) (s : State) :
    exec (.pdiff x d a b) s = execPdiff x d a b s := rfl
theorem exec_sinF (x : Slot) (d : Fin 32) (a : Fin 4) (s : State) :
    exec (.sinF x d a) s = execSinF x d a s := rfl
theorem exec_cosF (x : Slot) (d : Fin 32) (a : Fin 4) (s : State) :
    exec (.cosF x d a) s = execCosF x d a s := rfl
theorem exec_rotF (x : Slot) (d : Fin 8) (a : Fin 4) (s : State) :
    exec (.rotF x d a) s = execRotF x d a s := rfl
theorem exec_sinQ (x : Slot) (d : Fin 32) (a : Fin 4) (s : State) :
    exec (.sinQ x d a) s = execSinQ x d a s := rfl
theorem exec_cosQ (x : Slot) (d : Fin 32) (a : Fin 4) (s : State) :
    exec (.cosQ x d a) s = execCosQ x d a s := rfl
theorem exec_rotQ (x : Slot) (d : Fin 8) (a : Fin 4) (s : State) :
    exec (.rotQ x d a) s = execRotQ x d a s := rfl
theorem exec_lb (x : Slot) (rt : Fin 32) (base : Fin 8) (off : BitVec 16) (s : State) :
    exec (.lb x rt base off) s = execLb x rt base off s := rfl
theorem exec_lbu (x : Slot) (rt : Fin 32) (base : Fin 8) (off : BitVec 16) (s : State) :
    exec (.lbu x rt base off) s = execLbu x rt base off s := rfl
theorem exec_lh (x : Slot) (rt : Fin 32) (base : Fin 8) (off : BitVec 16) (s : State) :
    exec (.lh x rt base off) s = execLh x rt base off s := rfl
theorem exec_lhu (x : Slot) (rt : Fin 32) (base : Fin 8) (off : BitVec 16) (s : State) :
    exec (.lhu x rt base off) s = execLhu x rt base off s := rfl
theorem exec_lw (x : Slot) (rt : Fin 32) (base : Fin 8) (off : BitVec 16) (s : State) :
    exec (.lw x rt base off) s = execLw x rt base off s := rfl
theorem exec_lp (x : Slot) (rt : Fin 4) (base : Fin 8) (off : BitVec 16) (s : State) :
    exec (.lp x rt base off) s = execLp x rt base off s := rfl
theorem exec_lv (x : Slot) (rt : Fin 8) (base : Fin 8) (off : BitVec 16) (s : State) :
    exec (.lv x rt base off) s = execLv x rt base off s := rfl
theorem exec_sb (x : Slot) (rt : Fin 32) (base : Fin 8) (off : BitVec 16) (s : State) :
    exec (.sb x rt base off) s = execSb x rt base off s := rfl
theorem exec_sh (x : Slot) (rt : Fin 32) (base : Fin 8) (off : BitVec 16) (s : State) :
    exec (.sh x rt base off) s = execSh x rt base off s := rfl
theorem exec_sw (x : Slot) (rt : Fin 32) (base : Fin 8) (off : BitVec 16) (s : State) :
    exec (.sw x rt base off) s = execSw x rt base off s := rfl
theorem exec_sp (x : Slot) (rt : Fin 4) (base : Fin 8) (off : BitVec 16) (s : State) :
    exec (.sp x rt base off) s = execSp x rt base off s := rfl
theorem exec_sv (x : Slot) (rt : Fin 8) (base : Fin 8) (off : BitVec 16) (s : State) :
    exec (.sv x rt base off) s = execSv x rt base off s := rfl
theorem exec_b (k : CoreSel) (cond : BrCond) (off : BitVec 16) (s : State) :
    exec (.b k cond off) s = execB k cond off s := rfl
theorem exec_bl (k : CoreSel) (cond : BrCond) (off : BitVec 16) (s : State) :
    exec (.bl k cond off) s = execBl k cond off s := rfl
theorem exec_jr (k : CoreSel) (cond : JrCond) (rs : Fin 32) (s : State) :
    exec (.jr k cond rs) s = execJr k cond rs s := rfl
theorem exec_wait (k : CoreSel) (ev : BitVec 8) (s : State) :
    exec (.wait k ev) s = execWait k ev s := rfl
theorem exec_signal (x : Slot) (ev : BitVec 8) (s : State) :
    exec (.signal x ev) s = execSignal x ev s := rfl
theorem exec_endTask (k : CoreSel) (s : State) :
    exec (.endTask k) s = execEndTask k s := rfl
theorem exec_fence (x : Slot) (s : State) :
    exec (.fence x) s = execFence x s := rfl
theorem exec_xcr (x : Slot) (u : Fin 32) (idx : BitVec 12) (reg : Fin 32) (qd : Fin 4) (s : State) :
    exec (.xcr x u idx reg qd) s = execXcr x u idx reg qd s := rfl
theorem exec_xcv (x : Slot) (u : Fin 32) (idx : BitVec 12) (reg : Fin 8) (qd : Fin 4) (s : State) :
    exec (.xcv x u idx reg qd) s = execXcv x u idx reg qd s := rfl
theorem exec_xcw (x : Slot) (u : Fin 32) (idx : BitVec 12) (reg : Fin 32) (s : State) :
    exec (.xcw x u idx reg) s = execXcw x u idx reg s := rfl
theorem exec_xcs (x : Slot) (u : Fin 32) (idx : BitVec 12) (s : State) :
    exec (.xcs x u idx) s = execXcs x u idx s := rfl
theorem exec_li (x : Slot) (d : Fin 32) (imm : Word) (s : State) :
    exec (.li x d imm) s = execLi x d imm s := rfl
theorem exec_addl (x : Slot) (d : Fin 32) (a : Fin 32) (imm : Word) (s : State) :
    exec (.addl x d a imm) s = execAddl x d a imm s := rfl
theorem exec_andl (x : Slot) (d : Fin 32) (a : Fin 32) (imm : Word) (s : State) :
    exec (.andl x d a imm) s = execAndl x d a imm s := rfl
theorem exec_orl (x : Slot) (d : Fin 32) (a : Fin 32) (imm : Word) (s : State) :
    exec (.orl x d a imm) s = execOrl x d a imm s := rfl
theorem exec_faddl (x : Slot) (d : Fin 32) (a : Fin 32) (imm : Word) (s : State) :
    exec (.faddl x d a imm) s = execFaddl x d a imm s := rfl
theorem exec_fmull (x : Slot) (d : Fin 32) (a : Fin 32) (imm : Word) (s : State) :
    exec (.fmull x d a imm) s = execFmull x d a imm s := rfl
theorem exec_qmull (x : Slot) (d : Fin 32) (a : Fin 32) (imm : Word) (s : State) :
    exec (.qmull x d a imm) s = execQmull x d a imm s := rfl
theorem exec_shadowStoreHandshake (k : CoreSel) (s : State) :
    exec (.shadowStoreHandshake k) s = execShadowStoreHandshake k s := rfl
theorem exec_summitEndDeadline (k : CoreSel) (s : State) :
    exec (.summitEndDeadline k) s = execSummitEndDeadline k s := rfl
theorem exec_codeRecheck (p : PeakId) (task : Fin 4) (s : State) :
    exec (.codeRecheck p task) s = execCodeRecheck p task s := rfl
theorem exec_faultInfoRead (m : Master) (core : Fin 8) (s : State) :
    exec (.faultInfoRead m core) s = execFaultInfoRead m core s := rfl
theorem exec_cyclesRead (m : Master) (core : Fin 8) (s : State) :
    exec (.cyclesRead m core) s = execCyclesRead m core s := rfl
theorem exec_evRaise (m : Master) (val : Word) (s : State) :
    exec (.evRaise m val) s = execEvRaise m val s := rfl
theorem exec_taskLoad (m : Master) (task : BitVec 8) (s : State) :
    exec (.taskLoad m task) s = execTaskLoad m task s := rfl
theorem exec_taskLoadComplete (p : PeakId) (s : State) :
    exec (.taskLoadComplete p) s = execTaskLoadComplete p s := rfl
theorem exec_taskUnload (m : Master) (task : BitVec 8) (s : State) :
    exec (.taskUnload m task) s = execTaskUnload m task s := rfl
theorem exec_taskReplace (m : Master) (task : BitVec 8) (s : State) :
    exec (.taskReplace m task) s = execTaskReplace m task s := rfl
theorem exec_replaceCheckComplete (p : PeakId) (s : State) :
    exec (.replaceCheckComplete p) s = execReplaceCheckComplete p s := rfl
theorem exec_deadlineExpiry (p : PeakId) (task : BitVec 8) (latched : Bool) (s : State) :
    exec (.deadlineExpiry p task latched) s = execDeadlineExpiry p task latched s := rfl
theorem exec_frameRelease (p : PeakId) (task : BitVec 8) (s : State) :
    exec (.frameRelease p task) s = execFrameRelease p task s := rfl
theorem exec_periodCountRead (m : Master) (s : State) :
    exec (.periodCountRead m) s = execPeriodCountRead m s := rfl
theorem exec_timebaseWrap (tb : Fin 8) (s : State) :
    exec (.timebaseWrap tb) s = execTimebaseWrap tb s := rfl
theorem exec_strobe (s : State) :
    exec (.strobe) s = execStrobe s := rfl
theorem exec_idleStrobe (s : State) :
    exec (.idleStrobe) s = execIdleStrobe s := rfl
theorem exec_batonFlightEnd (s : State) :
    exec (.batonFlightEnd) s = execBatonFlightEnd s := rfl
theorem exec_cirqueSample (i : Fin 48) (code : BitVec 24) (frac : BitVec 8) (s : State) :
    exec (.cirqueSample i code frac) s = execCirqueSample i code frac s := rfl
theorem exec_couloirSampleArrival (p : PeakId) (i : Fin 48) (s : State) :
    exec (.couloirSampleArrival p i) s = execCouloirSampleArrival p i s := rfl
theorem exec_sampleReady (i : Fin 48) (s : State) :
    exec (.sampleReady i) s = execSampleReady i s := rfl
theorem exec_cirqCfgWrite (m : Master) (i : Fin 48) (val : Word) (s : State) :
    exec (.cirqCfgWrite m i val) s = execCirqCfgWrite m i val s := rfl
theorem exec_cirqTrigWrite (m : Master) (i : Fin 48) (val : Word) (s : State) :
    exec (.cirqTrigWrite m i val) s = execCirqTrigWrite m i val s := rfl
theorem exec_validityWindowEnd (i : Fin 48) (s : State) :
    exec (.validityWindowEnd i) s = execValidityWindowEnd i s := rfl
theorem exec_rotorStepStart (d : PeakId) (b : Fin 6) (s : State) :
    exec (.rotorStepStart d b) s = execRotorStepStart d b s := rfl
theorem exec_rotorOverlapStart (d : PeakId) (b : Fin 6) (s : State) :
    exec (.rotorOverlapStart d b) s = execRotorOverlapStart d b s := rfl
theorem exec_rotorFitComplete (d : PeakId) (b : Fin 6) (off : BitVec 24) (gain : BitVec 24) (rms : BitVec 16) (s : State) :
    exec (.rotorFitComplete d b off gain rms) s = execRotorFitComplete d b off gain rms s := rfl
theorem exec_rotorStepTimeout (d : PeakId) (b : Fin 6) (s : State) :
    exec (.rotorStepTimeout d b) s = execRotorStepTimeout d b s := rfl
theorem exec_calibrationComplete (d : PeakId) (c : BankConv) (off : BitVec 24) (gain : BitVec 24) (refOk : Bool) (s : State) :
    exec (.calibrationComplete d c off gain refOk) s = execCalibrationComplete d c off gain refOk s := rfl
theorem exec_rotorReady (d : PeakId) (b : Fin 6) (s : State) :
    exec (.rotorReady d b) s = execRotorReady d b s := rfl
theorem exec_calAgeExpiry (i : Fin 48) (s : State) :
    exec (.calAgeExpiry i) s = execCalAgeExpiry i s := rfl
theorem exec_diagRequest (m : Master) (b : Fin 6) (val : Word) (s : State) :
    exec (.diagRequest m b val) s = execDiagRequest m b val s := rfl
theorem exec_diagWindow (b : Fin 6) (s : State) :
    exec (.diagWindow b) s = execDiagWindow b s := rfl
theorem exec_diagEnd (b : Fin 6) (s : State) :
    exec (.diagEnd b) s = execDiagEnd b s := rfl
theorem exec_domainLoss (d : PeakId) (s : State) :
    exec (.domainLoss d) s = execDomainLoss d s := rfl
theorem exec_domainPllStart (d : PeakId) (s : State) :
    exec (.domainPllStart d) s = execDomainPllStart d s := rfl
theorem exec_domainPllLock (d : PeakId) (s : State) :
    exec (.domainPllLock d) s = execDomainPllLock d s := rfl
theorem exec_domainRejoin (d : PeakId) (s : State) :
    exec (.domainRejoin d) s = execDomainRejoin d s := rfl
theorem exec_cirqLastRead (m : Master) (i : Fin 48) (s : State) :
    exec (.cirqLastRead m i) s = execCirqLastRead m i s := rfl
theorem exec_fineRunStart (m : Master) (i : Fin 48) (s : State) :
    exec (.fineRunStart m i) s = execFineRunStart m i s := rfl
theorem exec_fineOutputReady (p : PeakId) (i : Fin 48) (s : State) :
    exec (.fineOutputReady p i) s = execFineOutputReady p i s := rfl
theorem exec_meanRunStart (m : Master) (i : Fin 48) (s : State) :
    exec (.meanRunStart m i) s = execMeanRunStart m i s := rfl
theorem exec_periodMeanReady (tb : Fin 8) (s : State) :
    exec (.periodMeanReady tb) s = execPeriodMeanReady tb s := rfl
theorem exec_resamplerRun (m : Master) (g : Fin 8) (run : Bool) (s : State) :
    exec (.resamplerRun m g run) s = execResamplerRun m g run s := rfl
theorem exec_resamplerOutputReady (p : PeakId) (g : Fin 8) (s : State) :
    exec (.resamplerOutputReady p g) s = execResamplerOutputReady p g s := rfl
theorem exec_ridgelineStep (p : PeakId) (e : Fin 8) (s : State) :
    exec (.ridgelineStep p e) s = execRidgelineStep p e s := rfl
theorem exec_rdgCmdOff (m : Master) (e : Fin 8) (s : State) :
    exec (.rdgCmdOff m e) s = execRdgCmdOff m e s := rfl
theorem exec_rdgCmdFollow (m : Master) (e : Fin 8) (s : State) :
    exec (.rdgCmdFollow m e) s = execRdgCmdFollow m e s := rfl
theorem exec_rdgCmdForm (m : Master) (e : Fin 8) (s : State) :
    exec (.rdgCmdForm m e) s = execRdgCmdForm m e s := rfl
theorem exec_rdgCmdIsland (m : Master) (e : Fin 8) (s : State) :
    exec (.rdgCmdIsland m e) s = execRdgCmdIsland m e s := rfl
theorem exec_rdgCmdBlackStart (m : Master) (e : Fin 8) (s : State) :
    exec (.rdgCmdBlackStart m e) s = execRdgCmdBlackStart m e s := rfl
theorem exec_blackStartBegin (p : PeakId) (e : Fin 8) (s : State) :
    exec (.blackStartBegin p e) s = execBlackStartBegin p e s := rfl
theorem exec_keeperSet (m : Master) (e : Fin 8) (val : Word) (s : State) :
    exec (.keeperSet m e val) s = execKeeperSet m e val s := rfl
theorem exec_switchbackStep (p : PeakId) (l : Fin 64) (s : State) :
    exec (.switchbackStep p l) s = execSwitchbackStep p l s := rfl
theorem exec_swbStart (m : Master) (l : Fin 64) (s : State) :
    exec (.swbStart m l) s = execSwbStart m l s := rfl
theorem exec_swbStop (m : Master) (l : Fin 64) (s : State) :
    exec (.swbStop m l) s = execSwbStop m l s := rfl
theorem exec_swbClear (m : Master) (l : Fin 64) (s : State) :
    exec (.swbClear m l) s = execSwbClear m l s := rfl
theorem exec_bankReq (m : Master) (l : Fin 64) (bank : Bool) (s : State) :
    exec (.bankReq m l bank) s = execBankReq m l bank s := rfl
theorem exec_testRunStart (m : Master) (g : Fin 4) (s : State) :
    exec (.testRunStart m g) s = execTestRunStart m g s := rfl
theorem exec_testRunStop (m : Master) (g : Fin 4) (s : State) :
    exec (.testRunStop m g) s = execTestRunStop m g s := rfl
theorem exec_timebaseStart (m : Master) (mask : BitVec 8) (s : State) :
    exec (.timebaseStart m mask) s = execTimebaseStart m mask s := rfl
theorem exec_timebaseStop (m : Master) (mask : BitVec 8) (s : State) :
    exec (.timebaseStop m mask) s = execTimebaseStop m mask s := rfl
theorem exec_alignedStart (tb : Fin 8) (s : State) :
    exec (.alignedStart tb) s = execAlignedStart tb s := rfl
theorem exec_commit (m : Master) (mask : BitVec 8) (s : State) :
    exec (.commit m mask) s = execCommit m mask s := rfl
theorem exec_delayLineCalibration (bank : Fin 8) (ok : Bool) (s : State) :
    exec (.delayLineCalibration bank ok) s = execDelayLineCalibration bank ok s := rfl
theorem exec_tripPinActive (src : Fin 8) (s : State) :
    exec (.tripPinActive src) s = execTripPinActive src s := rfl
theorem exec_tripPinInactive (src : Fin 8) (s : State) :
    exec (.tripPinInactive src) s = execTripPinInactive src s := rfl
theorem exec_tripSwSet (m : Master) (s : State) :
    exec (.tripSwSet m) s = execTripSwSet m s := rfl
theorem exec_tripSwRelease (m : Master) (s : State) :
    exec (.tripSwRelease m) s = execTripSwRelease m s := rfl
theorem exec_tripClear (m : Master) (mask : BitVec 12) (s : State) :
    exec (.tripClear m mask) s = execTripClear m mask s := rfl
theorem exec_tripFirstRead (m : Master) (s : State) :
    exec (.tripFirstRead m) s = execTripFirstRead m s := rfl
theorem exec_saddleStopDetect (s : State) :
    exec (.saddleStopDetect) s = execSaddleStopDetect s := rfl
theorem exec_legEnable (m : Master) (n : Fin 6) (s : State) :
    exec (.legEnable m n) s = execLegEnable m n s := rfl
theorem exec_legDisable (m : Master) (n : Fin 6) (s : State) :
    exec (.legDisable m n) s = execLegDisable m n s := rfl
theorem exec_bootUndervoltage (n : Fin 6) (s : State) :
    exec (.bootUndervoltage n) s = execBootUndervoltage n s := rfl
theorem exec_vdsTrip (n : Fin 6) (r : VdsReading) (s : State) :
    exec (.vdsTrip n r) s = execVdsTrip n r s := rfl
theorem exec_spurClear (m : Master) (mask : BitVec 6) (s : State) :
    exec (.spurClear m mask) s = execSpurClear m mask s := rfl
theorem exec_ascEnter (m : Master) (s : State) :
    exec (.ascEnter m) s = execAscEnter m s := rfl
theorem exec_ascRelease (m : Master) (s : State) :
    exec (.ascRelease m) s = execAscRelease m s := rfl
theorem exec_legDiagStart (m : Master) (n : Fin 6) (vbus : BitVec 16) (s : State) :
    exec (.legDiagStart m n vbus) s = execLegDiagStart m n vbus s := rfl
theorem exec_legDiagComplete (n : Fin 6) (v1 : BitVec 16) (v2 : BitVec 16) (v3 : BitVec 17) (vbus : BitVec 16) (s : State) :
    exec (.legDiagComplete n v1 v2 v3 vbus) s = execLegDiagComplete n v1 v2 v3 vbus s := rfl
theorem exec_pifLineChange (k : Fin 2) (a : Bool) (b : Bool) (z : Bool) (s : State) :
    exec (.pifLineChange k a b z) s = execPifLineChange k a b z s := rfl
theorem exec_posSet (m : Master) (k : Fin 2) (val : Word) (s : State) :
    exec (.posSet m k val) s = execPosSet m k val s := rfl
theorem exec_speedWindowEnd (k : Fin 2) (s : State) :
    exec (.speedWindowEnd k) s = execSpeedWindowEnd k s := rfl
theorem exec_speedBoundUpdate (k : Fin 2) (s : State) :
    exec (.speedBoundUpdate k) s = execSpeedBoundUpdate k s := rfl
theorem exec_pifStale (k : Fin 2) (s : State) :
    exec (.pifStale k) s = execPifStale k s := rfl
theorem exec_edgePosRead (m : Master) (k : Fin 2) (s : State) :
    exec (.edgePosRead m k) s = execEdgePosRead m k s := rfl
theorem exec_heartbeatReceive (p : PeakId) (s : State) :
    exec (.heartbeatReceive p) s = execHeartbeatReceive p s := rfl
theorem exec_heartbeatWindowClose (s : State) :
    exec (.heartbeatWindowClose) s = execHeartbeatWindowClose s := rfl
theorem exec_ackReceive (p : PeakId) (s : State) :
    exec (.ackReceive p) s = execAckReceive p s := rfl
theorem exec_gendarmeSilent (p : PeakId) (s : State) :
    exec (.gendarmeSilent p) s = execGendarmeSilent p s := rfl
theorem exec_lolGraceExpiry (s : State) :
    exec (.lolGraceExpiry) s = execLolGraceExpiry s := rfl
theorem exec_copyComplete (s : State) :
    exec (.copyComplete) s = execCopyComplete s := rfl
theorem exec_copyOverflow (s : State) :
    exec (.copyOverflow) s = execCopyOverflow s := rfl
theorem exec_copyTimeout (s : State) :
    exec (.copyTimeout) s = execCopyTimeout s := rfl
theorem exec_startWaitExpiry (p : PeakId) (s : State) :
    exec (.startWaitExpiry p) s = execStartWaitExpiry p s := rfl
theorem exec_autoRejoinRelease (p : PeakId) (s : State) :
    exec (.autoRejoinRelease p) s = execAutoRejoinRelease p s := rfl
theorem exec_returnHoldExpiry (s : State) :
    exec (.returnHoldExpiry) s = execReturnHoldExpiry s := rfl
theorem exec_autoRestart (s : State) :
    exec (.autoRestart) s = execAutoRestart s := rfl
theorem exec_gdmSwap (key : BitVec 16) (s : State) :
    exec (.gdmSwap key) s = execGdmSwap key s := rfl
theorem exec_gdmFail (key : BitVec 16) (p : PeakId) (s : State) :
    exec (.gdmFail key p) s = execGdmFail key p s := rfl
theorem exec_gdmRejoin (key : BitVec 16) (p : PeakId) (s : State) :
    exec (.gdmRejoin key p) s = execGdmRejoin key p s := rfl
theorem exec_gdmRestart (key : BitVec 16) (s : State) :
    exec (.gdmRestart key) s = execGdmRestart key s := rfl
theorem exec_gdmSafe (key : BitVec 16) (s : State) :
    exec (.gdmSafe key) s = execGdmSafe key s := rfl
theorem exec_gdmResync (key : BitVec 16) (s : State) :
    exec (.gdmResync key) s = execGdmResync key s := rfl
theorem exec_toggleLoss (seg : Fin 9) (s : State) :
    exec (.toggleLoss seg) s = execToggleLoss seg s := rfl
theorem exec_imageCrcCheck (ok : Bool) (s : State) :
    exec (.imageCrcCheck ok) s = execImageCrcCheck ok s := rfl
theorem exec_safCommit (key : BitVec 16) (s : State) :
    exec (.safCommit key) s = execSafCommit key s := rfl
theorem exec_safCommitComplete (ok : Bool) (s : State) :
    exec (.safCommitComplete ok) s = execSafCommitComplete ok s := rfl
theorem exec_safReset (key : BitVec 16) (func : BitVec 3) (low : BitVec 4) (s : State) :
    exec (.safReset key func low) s = execSafReset key func low s := rfl
theorem exec_safDemand (key : BitVec 16) (func : BitVec 3) (s : State) :
    exec (.safDemand key func) s = execSafDemand key func s := rfl
theorem exec_testPulseStart (n : Fin 4) (high : BitVec 8) (s : State) :
    exec (.testPulseStart n high) s = execTestPulseStart n high s := rfl
theorem exec_testPulseEnd (n : Fin 4) (high : BitVec 8) (s : State) :
    exec (.testPulseEnd n high) s = execTestPulseEnd n high s := rfl
theorem exec_inputDemand (n : Fin 8) (s : State) :
    exec (.inputDemand n) s = execInputDemand n s := rfl
theorem exec_inputRelease (n : Fin 8) (s : State) :
    exec (.inputRelease n) s = execInputRelease n s := rfl
theorem exec_discrepancyExpiry (n : Fin 8) (s : State) :
    exec (.discrepancyExpiry n) s = execDiscrepancyExpiry n s := rfl
theorem exec_tpoFault (n : Fin 4) (s : State) :
    exec (.tpoFault n) s = execTpoFault n s := rfl
theorem exec_resetStuckExpiry (n : Fin 8) (s : State) :
    exec (.resetStuckExpiry n) s = execResetStuckExpiry n s := rfl
theorem exec_soutOffPulse (n : Fin 4) (s : State) :
    exec (.soutOffPulse n) s = execSoutOffPulse n s := rfl
theorem exec_soutOffPulseEnd (n : Fin 4) (s : State) :
    exec (.soutOffPulseEnd n) s = execSoutOffPulseEnd n s := rfl
theorem exec_soutStuckOn (n : Fin 4) (s : State) :
    exec (.soutStuckOn n) s = execSoutStuckOn n s := rfl
theorem exec_soutShorted (n : Fin 4) (s : State) :
    exec (.soutShorted n) s = execSoutShorted n s := rfl
theorem exec_stopTimeExpiry (s : State) :
    exec (.stopTimeExpiry) s = execStopTimeExpiry s := rfl
theorem exec_resetInputRelease (low : BitVec 4) (s : State) :
    exec (.resetInputRelease low) s = execResetInputRelease low s := rfl
theorem exec_feedbackTimeout (s : State) :
    exec (.feedbackTimeout) s = execFeedbackTimeout s := rfl
theorem exec_kernelFault (s : State) :
    exec (.kernelFault) s = execKernelFault s := rfl
theorem exec_morAlloc (m : Master) (dest : BitVec 8) (src : BitVec 8) (s : State) :
    exec (.morAlloc m dest src) s = execMorAlloc m dest src s := rfl
theorem exec_morGive (m : Master) (buffer : BitVec 12) (src : BitVec 8) (dest : BitVec 8) (s : State) :
    exec (.morGive m buffer src dest) s = execMorGive m buffer src dest s := rfl
theorem exec_morSegGive (m : Master) (seg : BitVec 12) (src : BitVec 8) (dest : BitVec 8) (s : State) :
    exec (.morSegGive m seg src dest) s = execMorSegGive m seg src dest s := rfl
theorem exec_segGiveComplete (m : Master) (s : State) :
    exec (.segGiveComplete m) s = execSegGiveComplete m s := rfl
theorem exec_snapTake (m : Master) (s : State) :
    exec (.snapTake m) s = execSnapTake m s := rfl
theorem exec_talusRun (m : Master) (c : Fin 4) (s : State) :
    exec (.talusRun m c) s = execTalusRun m c s := rfl
theorem exec_talusStop (m : Master) (c : Fin 4) (s : State) :
    exec (.talusStop m c) s = execTalusStop m c s := rfl
theorem exec_talusArm (p : PeakId) (c : Fin 4) (s : State) :
    exec (.talusArm p c) s = execTalusArm p c s := rfl
theorem exec_dmaGo (m : Master) (ch : Fin 16) (s : State) :
    exec (.dmaGo m ch) s = execDmaGo m ch s := rfl
theorem exec_dmaShadowValid (m : Master) (ch : Fin 16) (s : State) :
    exec (.dmaShadowValid m ch) s = execDmaShadowValid m ch s := rfl
theorem exec_dmaCancel (m : Master) (ch : Fin 16) (s : State) :
    exec (.dmaCancel m ch) s = execDmaCancel m ch s := rfl
theorem exec_dmaPause (m : Master) (ch : Fin 16) (s : State) :
    exec (.dmaPause m ch) s = execDmaPause m ch s := rfl
theorem exec_dmaResume (m : Master) (ch : Fin 16) (s : State) :
    exec (.dmaResume m ch) s = execDmaResume m ch s := rfl
theorem exec_dmaAbort (m : Master) (ch : Fin 16) (s : State) :
    exec (.dmaAbort m ch) s = execDmaAbort m ch s := rfl
theorem exec_dmaReadReturn (p : PeakId) (ch : Fin 16) (s : State) :
    exec (.dmaReadReturn p ch) s = execDmaReadReturn p ch s := rfl
theorem exec_dmaWriteComplete (p : PeakId) (ch : Fin 16) (s : State) :
    exec (.dmaWriteComplete p ch) s = execDmaWriteComplete p ch s := rfl
theorem exec_dmaDrainComplete (p : PeakId) (ch : Fin 16) (s : State) :
    exec (.dmaDrainComplete p ch) s = execDmaDrainComplete p ch s := rfl
theorem exec_dmaAccessTimeout (p : PeakId) (ch : Fin 16) (write : Bool) (s : State) :
    exec (.dmaAccessTimeout p ch write) s = execDmaAccessTimeout p ch write s := rfl
theorem exec_dmaRetry (p : PeakId) (ch : Fin 16) (s : State) :
    exec (.dmaRetry p ch) s = execDmaRetry p ch s := rfl
theorem exec_cairnSecondEdge (s : State) :
    exec (.cairnSecondEdge) s = execCairnSecondEdge s := rfl
theorem exec_rateLoWrite (m : Master) (val : Word) (s : State) :
    exec (.rateLoWrite m val) s = execRateLoWrite m val s := rfl
theorem exec_rateCommit (m : Master) (val : Word) (s : State) :
    exec (.rateCommit m val) s = execRateCommit m val s := rfl
theorem exec_nowRead (m : Master) (s : State) :
    exec (.nowRead m) s = execNowRead m s := rfl
theorem exec_cairnArm (m : Master) (s : State) :
    exec (.cairnArm m) s = execCairnArm m s := rfl
theorem exec_cairnStep (m : Master) (s : State) :
    exec (.cairnStep m) s = execCairnStep m s := rfl
theorem exec_leaseWrite (m : Master) (val : Word) (s : State) :
    exec (.leaseWrite m val) s = execLeaseWrite m val s := rfl
theorem exec_leaseExpiry (s : State) :
    exec (.leaseExpiry) s = execLeaseExpiry s := rfl
theorem exec_mapPoint (s : State) :
    exec (.mapPoint) s = execMapPoint s := rfl
theorem exec_macReceive (p : PeakId) (frame : List Byte) (fcsOk : Bool) (ago : Word) (s : State) :
    exec (.macReceive p frame fcsOk ago) s = execMacReceive p frame fcsOk ago s := rfl
theorem exec_tqTailWrite (m : Master) (q : Fin 8) (val : Word) (s : State) :
    exec (.tqTailWrite m q val) s = execTqTailWrite m q val s := rfl
theorem exec_tqReclaimWrite (m : Master) (q : Fin 8) (val : Word) (s : State) :
    exec (.tqReclaimWrite m q val) s = execTqReclaimWrite m q val s := rfl
theorem exec_txDescriptorCheck (p : PeakId) (q : Fin 8) (s : State) :
    exec (.txDescriptorCheck p q) s = execTxDescriptorCheck p q s := rfl
theorem exec_txFetchComplete (p : PeakId) (q : Fin 8) (s : State) :
    exec (.txFetchComplete p q) s = execTxFetchComplete p q s := rfl
theorem exec_txStart (p : PeakId) (s : State) :
    exec (.txStart p) s = execTxStart p s := rfl
theorem exec_launchTime (p : PeakId) (q : Fin 8) (s : State) :
    exec (.launchTime p q) s = execLaunchTime p q s := rfl
theorem exec_lateDrop (p : PeakId) (q : Fin 8) (s : State) :
    exec (.lateDrop p q) s = execLateDrop p q s := rfl
theorem exec_txComplete (p : PeakId) (s : State) :
    exec (.txComplete p) s = execTxComplete p s := rfl
theorem exec_mdioCommand (m : Master) (val : Word) (s : State) :
    exec (.mdioCommand m val) s = execMdioCommand m val s := rfl
theorem exec_mdioComplete (data : BitVec 16) (s : State) :
    exec (.mdioComplete data) s = execMdioComplete data s := rfl
theorem exec_thermalMeasurement (n : Fin 12) (reading : BitVec 16) (bad : Bool) (s : State) :
    exec (.thermalMeasurement n reading bad) s = execThermalMeasurement n reading bad s := rfl
theorem exec_throttleStep (s : State) :
    exec (.throttleStep) s = execThrottleStep s := rfl
theorem exec_throttleRecoverStep (s : State) :
    exec (.throttleRecoverStep) s = execThrottleRecoverStep s := rfl
theorem exec_floorWrite (m : Master) (val : Word) (s : State) :
    exec (.floorWrite m val) s = execFloorWrite m val s := rfl
theorem exec_colWrite (hdr : Word) (addr : Word) (data : List Word) (crc : BitVec 16) (cut : Bool) (s : State) :
    exec (.colWrite hdr addr data crc cut) s = execColWrite hdr addr data crc cut s := rfl
theorem exec_colWritePerformed (s : State) :
    exec (.colWritePerformed) s = execColWritePerformed s := rfl
theorem exec_colRead (hdr : Word) (addr : Word) (crc : BitVec 16) (cut : Bool) (s : State) :
    exec (.colRead hdr addr crc cut) s = execColRead hdr addr crc cut s := rfl
theorem exec_colStatus (hdr : Word) (crc : BitVec 16) (s : State) :
    exec (.colStatus hdr crc) s = execColStatus hdr crc s := rfl
theorem exec_inPush (m : Master) (val : Word) (s : State) :
    exec (.inPush m val) s = execInPush m val s := rfl
theorem exec_inPop (m : Master) (s : State) :
    exec (.inPop m) s = execInPop m s := rfl
theorem exec_outPush (m : Master) (val : Word) (s : State) :
    exec (.outPush m val) s = execOutPush m val s := rfl
theorem exec_outPop (m : Master) (s : State) :
    exec (.outPop m) s = execOutPop m s := rfl
theorem exec_doorbell (m : Master) (val : Word) (s : State) :
    exec (.doorbell m val) s = execDoorbell m val s := rfl
theorem exec_bootDataWord (val : Word) (s : State) :
    exec (.bootDataWord val) s = execBootDataWord val s := rfl
theorem exec_tracePacket (s : State) :
    exec (.tracePacket) s = execTracePacket s := rfl
theorem exec_tickPair (s : State) :
    exec (.tickPair) s = execTickPair s := rfl
theorem exec_counterEnable (m : Master) (k : Fin 8) (s : State) :
    exec (.counterEnable m k) s = execCounterEnable m k s := rfl
theorem exec_counterRead (m : Master) (k : Fin 8) (s : State) :
    exec (.counterRead m k) s = execCounterRead m k s := rfl
theorem exec_rcRead (m : Master) (addr : Word) (s : State) :
    exec (.rcRead m addr) s = execRcRead m addr s := rfl
theorem exec_compareReached (e : CompareSel) (s : State) :
    exec (.compareReached e) s = execCompareReached e s := rfl
theorem exec_deadTimeEnd (e : SwitchSel) (swing : BitVec 9) (s : State) :
    exec (.deadTimeEnd e swing) s = execDeadTimeEnd e swing s := rfl
theorem exec_relockDeadline (pll : PllId) (s : State) :
    exec (.relockDeadline pll) s = execRelockDeadline pll s := rfl
theorem exec_joinImageWaitExpiry (p : PeakId) (s : State) :
    exec (.joinImageWaitExpiry p) s = execJoinImageWaitExpiry p s := rfl

end Sys2Proof.Machine
end

