-- ==== Sys2Proof/Laws/Upd.lean ====
section
/-! SUPPORT. What an operation may change. `Upd M s t` says that going from `s` to `t` touches only the parts of the state whose bits are set in the
number `M`, moves neither the queue nor the tick, and keeps a sound state sound. Every operation of the model has one such lemma. -/

namespace Sys2Proof.Machine

/-- What changes of one Peak's own part, by bits of `M` from 31 on. -/
structure PeakUpd (M : Nat) (a b : Peak) : Prop where
  up : Nat.testBit M 31 = false → b.up = a.up
  cycles64 : Nat.testBit M 32 = false → b.cycles64 = a.cycles64
  trvCmd : Nat.testBit M 33 = false → b.trvCmd = a.trvCmd
  held : Nat.testBit M 34 = false → b.held = a.held
  monSince : Nat.testBit M 35 = false → b.monSince = a.monSince
  silent : Nat.testBit M 36 = false → b.silent = a.silent
  cln : Nat.testBit M 37 = false → b.cln = a.cln
  engs : Nat.testBit M 38 = false → b.engs = a.engs
  loops : Nat.testBit M 39 = false → b.loops = a.loops
  tgs : Nat.testBit M 40 = false → b.tgs = a.tgs
  talus : Nat.testBit M 41 = false → b.talus = a.talus
  tx : Nat.testBit M 42 = false → b.tx = a.tx
  sending : Nat.testBit M 43 = false → b.sending = a.sending
  dma : Nat.testBit M 44 = false → b.dma = a.dma
  obs : Nat.testBit M 45 = false → b.obs = a.obs
  trace : Nat.testBit M 46 = false → b.trace = a.trace
  traceLost : Nat.testBit M 47 = false → b.traceLost = a.traceLost
  inbox : Nat.testBit M 48 = false → b.inbox = a.inbox
  outbox : Nat.testBit M 49 = false → b.outbox = a.outbox
  signals : Nat.testBit M 50 = false → b.signals = a.signals
  releasedAt : Nat.testBit M 51 = false → b.releasedAt = a.releasedAt

/-- What changes between two states. -/
structure Upd (M : Nat) (s t : State) : Prop where
  pending : t.pending = s.pending
  tick : t.tick = s.tick
  sound : s.sound = true → t.sound = true
  regs : Nat.testBit M 0 = false → t.regs = s.regs
  mem : Nat.testBit M 1 = false → t.mem = s.mem
  cores : Nat.testBit M 2 = false → t.cores = s.cores
  tasks : Nat.testBit M 3 = false → t.tasks = s.tasks
  readData : Nat.testBit M 4 = false → t.readData = s.readData
  periodCount : Nat.testBit M 5 = false → t.periodCount = s.periodCount
  cirq : Nat.testBit M 6 = false → t.cirq = s.cirq
  cairn : Nat.testBit M 7 = false → t.cairn = s.cairn
  tick0 : Nat.testBit M 8 = false → t.tick0 = s.tick0
  mdio : Nat.testBit M 9 = false → t.mdio = s.mdio
  tbs : Nat.testBit M 10 = false → t.saddle.tbs = s.saddle.tbs
  chans : Nat.testBit M 11 = false → t.saddle.chans = s.saddle.chans
  pairs : Nat.testBit M 12 = false → t.saddle.pairs = s.saddle.pairs
  legs : Nat.testBit M 13 = false → t.saddle.legs = s.saddle.legs
  pifs : Nat.testBit M 14 = false → t.saddle.pifs = s.saddle.pifs
  clock : Nat.testBit M 15 = false → t.saddle.clock = s.saddle.clock
  trips : Nat.testBit M 16 = false → t.saddle.trips = s.saddle.trips
  ascHigh : Nat.testBit M 17 = false → t.saddle.ascHigh = s.saddle.ascHigh
  firstTick : Nat.testBit M 18 = false → t.saddle.firstTick = s.saddle.firstTick
  dlBad : Nat.testBit M 19 = false → t.saddle.dlBad = s.saddle.dlBad
  strobe : Nat.testBit M 20 = false → t.saddle.strobe = s.saddle.strobe
  flight : Nat.testBit M 21 = false → t.saddle.flight = s.saddle.flight
  wrote : Nat.testBit M 22 = false → t.saddle.wrote = s.saddle.wrote
  goodRuns : Nat.testBit M 23 = false → t.saddle.goodRuns = s.saddle.goodRuns
  gdm : Nat.testBit M 24 = false → t.gdm = s.gdm
  saf : Nat.testBit M 25 = false → t.saf = s.saf
  power : Nat.testBit M 26 = false → t.power = s.power
  col : Nat.testBit M 27 = false → t.col = s.col
  wrapTick : Nat.testBit M 28 = false → t.wrapTick = s.wrapTick
  meanDue : Nat.testBit M 29 = false → t.meanDue = s.meanDue
  free : Nat.testBit M 30 = false → t.free = s.free
  peak : ∀ p, PeakUpd M (s.peak p) (t.peak p)

theorem PeakUpd.refl (M : Nat) (a : Peak) : PeakUpd M a a := by
  constructor <;> exact fun _ => rfl

theorem PeakUpd.trans {M : Nat} {a b c : Peak} (h : PeakUpd M a b) (k : PeakUpd M b c) : PeakUpd M a c := by
  constructor <;> intro hm
  · exact (k.up hm).trans (h.up hm)
  · exact (k.cycles64 hm).trans (h.cycles64 hm)
  · exact (k.trvCmd hm).trans (h.trvCmd hm)
  · exact (k.held hm).trans (h.held hm)
  · exact (k.monSince hm).trans (h.monSince hm)
  · exact (k.silent hm).trans (h.silent hm)
  · exact (k.cln hm).trans (h.cln hm)
  · exact (k.engs hm).trans (h.engs hm)
  · exact (k.loops hm).trans (h.loops hm)
  · exact (k.tgs hm).trans (h.tgs hm)
  · exact (k.talus hm).trans (h.talus hm)
  · exact (k.tx hm).trans (h.tx hm)
  · exact (k.sending hm).trans (h.sending hm)
  · exact (k.dma hm).trans (h.dma hm)
  · exact (k.obs hm).trans (h.obs hm)
  · exact (k.trace hm).trans (h.trace hm)
  · exact (k.traceLost hm).trans (h.traceLost hm)
  · exact (k.inbox hm).trans (h.inbox hm)
  · exact (k.outbox hm).trans (h.outbox hm)
  · exact (k.signals hm).trans (h.signals hm)
  · exact (k.releasedAt hm).trans (h.releasedAt hm)

theorem testBit_of_or {M N i : Nat} (h : M ||| N = N) (hi : Nat.testBit N i = false) : Nat.testBit M i = false := by
  rw [← h, Nat.testBit_or] at hi
  simp only [Bool.or_eq_false_iff] at hi
  exact hi.1

theorem PeakUpd.mono {M N : Nat} {a b : Peak} (h : PeakUpd M a b) (hm : M ||| N = N) : PeakUpd N a b := by
  constructor <;> intro hi
  · exact h.up (testBit_of_or hm hi)
  · exact h.cycles64 (testBit_of_or hm hi)
  · exact h.trvCmd (testBit_of_or hm hi)
  · exact h.held (testBit_of_or hm hi)
  · exact h.monSince (testBit_of_or hm hi)
  · exact h.silent (testBit_of_or hm hi)
  · exact h.cln (testBit_of_or hm hi)
  · exact h.engs (testBit_of_or hm hi)
  · exact h.loops (testBit_of_or hm hi)
  · exact h.tgs (testBit_of_or hm hi)
  · exact h.talus (testBit_of_or hm hi)
  · exact h.tx (testBit_of_or hm hi)
  · exact h.sending (testBit_of_or hm hi)
  · exact h.dma (testBit_of_or hm hi)
  · exact h.obs (testBit_of_or hm hi)
  · exact h.trace (testBit_of_or hm hi)
  · exact h.traceLost (testBit_of_or hm hi)
  · exact h.inbox (testBit_of_or hm hi)
  · exact h.outbox (testBit_of_or hm hi)
  · exact h.signals (testBit_of_or hm hi)
  · exact h.releasedAt (testBit_of_or hm hi)

theorem Upd.refl (M : Nat) (s : State) : Upd M s s := by
  constructor
  case peak => exact fun p => PeakUpd.refl M _
  case sound => exact id
  all_goals first | exact rfl | exact fun _ => rfl

theorem Upd.trans {M : Nat} {s t u : State} (h : Upd M s t) (k : Upd M t u) : Upd M s u where
  pending := k.pending.trans h.pending
  tick := k.tick.trans h.tick
  sound hs := k.sound (h.sound hs)
  regs hm := (k.regs hm).trans (h.regs hm)
  mem hm := (k.mem hm).trans (h.mem hm)
  cores hm := (k.cores hm).trans (h.cores hm)
  tasks hm := (k.tasks hm).trans (h.tasks hm)
  readData hm := (k.readData hm).trans (h.readData hm)
  periodCount hm := (k.periodCount hm).trans (h.periodCount hm)
  cirq hm := (k.cirq hm).trans (h.cirq hm)
  cairn hm := (k.cairn hm).trans (h.cairn hm)
  tick0 hm := (k.tick0 hm).trans (h.tick0 hm)
  mdio hm := (k.mdio hm).trans (h.mdio hm)
  tbs hm := (k.tbs hm).trans (h.tbs hm)
  chans hm := (k.chans hm).trans (h.chans hm)
  pairs hm := (k.pairs hm).trans (h.pairs hm)
  legs hm := (k.legs hm).trans (h.legs hm)
  pifs hm := (k.pifs hm).trans (h.pifs hm)
  clock hm := (k.clock hm).trans (h.clock hm)
  trips hm := (k.trips hm).trans (h.trips hm)
  ascHigh hm := (k.ascHigh hm).trans (h.ascHigh hm)
  firstTick hm := (k.firstTick hm).trans (h.firstTick hm)
  dlBad hm := (k.dlBad hm).trans (h.dlBad hm)
  strobe hm := (k.strobe hm).trans (h.strobe hm)
  flight hm := (k.flight hm).trans (h.flight hm)
  wrote hm := (k.wrote hm).trans (h.wrote hm)
  goodRuns hm := (k.goodRuns hm).trans (h.goodRuns hm)
  gdm hm := (k.gdm hm).trans (h.gdm hm)
  saf hm := (k.saf hm).trans (h.saf hm)
  power hm := (k.power hm).trans (h.power hm)
  col hm := (k.col hm).trans (h.col hm)
  wrapTick hm := (k.wrapTick hm).trans (h.wrapTick hm)
  meanDue hm := (k.meanDue hm).trans (h.meanDue hm)
  free hm := (k.free hm).trans (h.free hm)
  peak p := (h.peak p).trans (k.peak p)

theorem Upd.mono {M N : Nat} {s t : State} (h : Upd M s t) (hm : M ||| N = N) : Upd N s t where
  pending := h.pending
  tick := h.tick
  sound := h.sound
  regs hi := h.regs (testBit_of_or hm hi)
  mem hi := h.mem (testBit_of_or hm hi)
  cores hi := h.cores (testBit_of_or hm hi)
  tasks hi := h.tasks (testBit_of_or hm hi)
  readData hi := h.readData (testBit_of_or hm hi)
  periodCount hi := h.periodCount (testBit_of_or hm hi)
  cirq hi := h.cirq (testBit_of_or hm hi)
  cairn hi := h.cairn (testBit_of_or hm hi)
  tick0 hi := h.tick0 (testBit_of_or hm hi)
  mdio hi := h.mdio (testBit_of_or hm hi)
  tbs hi := h.tbs (testBit_of_or hm hi)
  chans hi := h.chans (testBit_of_or hm hi)
  pairs hi := h.pairs (testBit_of_or hm hi)
  legs hi := h.legs (testBit_of_or hm hi)
  pifs hi := h.pifs (testBit_of_or hm hi)
  clock hi := h.clock (testBit_of_or hm hi)
  trips hi := h.trips (testBit_of_or hm hi)
  ascHigh hi := h.ascHigh (testBit_of_or hm hi)
  firstTick hi := h.firstTick (testBit_of_or hm hi)
  dlBad hi := h.dlBad (testBit_of_or hm hi)
  strobe hi := h.strobe (testBit_of_or hm hi)
  flight hi := h.flight (testBit_of_or hm hi)
  wrote hi := h.wrote (testBit_of_or hm hi)
  goodRuns hi := h.goodRuns (testBit_of_or hm hi)
  gdm hi := h.gdm (testBit_of_or hm hi)
  saf hi := h.saf (testBit_of_or hm hi)
  power hi := h.power (testBit_of_or hm hi)
  col hi := h.col (testBit_of_or hm hi)
  wrapTick hi := h.wrapTick (testBit_of_or hm hi)
  meanDue hi := h.meanDue (testBit_of_or hm hi)
  free hi := h.free (testBit_of_or hm hi)
  peak p := (h.peak p).mono hm

/-- One operation more. -/
theorem Upd.step {M N : Nat} {s t u : State} (h : Upd N s t) (k : Upd M t u) (hm : M ||| N = N) : Upd N s u := h.trans (k.mono hm)

theorem Upd.ite {M : Nat} {s a b : State} {c : Prop} [Decidable c] (ha : Upd M s a) (hb : Upd M s b) : Upd M s (if c then a else b) := by
  split <;> assumption

theorem Upd.ite_snd {α : Type} {M : Nat} {s : State} {a b : α × State} {c : Prop} [Decidable c] (ha : Upd M s a.2) (hb : Upd M s b.2) :
    Upd M s (if c then a else b).2 := by
  split <;> assumption

theorem Upd.foldl {α : Type} {M : Nat} {s : State} (f : State → α → State) (hf : ∀ t x, Upd M s t → Upd M s (f t x)) (xs : List α) (t : State)
    (h : Upd M s t) : Upd M s (xs.foldl f t) := by
  induction xs generalizing t with
  | nil => exact h
  | cons x r ih => exact ih _ (hf _ _ h)

theorem Upd.forAll {α : Type} {M : Nat} {s : State} {xs : List α} {f : α → State → State} {t : State} (h : Upd M s t)
    (hf : ∀ x t, Upd M s t → Upd M s (f x t)) : Upd M s (forAll xs f t) := Upd.foldl _ (fun t x => hf x t) xs t h

theorem Upd.bothPeaks {M : Nat} {s : State} {f : PeakId → State → State} {t : State} (h : Upd M s t)
    (hf : ∀ p t, Upd M s t → Upd M s (f p t)) : Upd M s (bothPeaks f t) := hf _ _ (hf _ _ h)

theorem Upd.when {M : Nat} {s t : State} {b : Bool} {f : State → State} (h : Upd M s t) (hf : ∀ t, Upd M s t → Upd M s (f t)) :
    Upd M s (t.when b f) := by
  unfold State.when; exact Upd.ite (hf _ h) h

theorem PeakUpd.ite {M : Nat} {a b c : Peak} {p : Prop} [Decidable p] (ha : PeakUpd M a b) (hb : PeakUpd M a c) : PeakUpd M a (if p then b else c) := by
  split <;> assumption

/-! ### The written parts -/

theorem State.sound_iff (s : State) : s.sound = true ↔ s.regsWf = true ∧ s.memWf = true ∧ pairsSafe s.saddle.pairs = true ∧ legsSafe s.saddle.legs = true := by
  simp [State.sound, and_assoc]

theorem State.sound_of_eq {s t : State} (hr : t.regs = s.regs) (hm : t.mem = s.mem) (hp : t.saddle.pairs = s.saddle.pairs)
    (hl : t.saddle.legs = s.saddle.legs) (h : s.sound = true) : t.sound = true := by
  rw [State.sound_iff] at h ⊢
  simpa [State.regsWf, State.memWf, hr, hm, hp, hl] using h

theorem eq_of_bit {α : Sort _} {M i : Nat} {a b : α} (h : Nat.testBit M i = true ∨ a = b) (hb : Nat.testBit M i = false) : a = b := by
  rcases h with h | h
  · rw [h] at hb; exact absurd hb (by decide)
  · exact h

/-- What changes of the Saddle's own part; its pairs and legs do not. -/
structure SadUpd (M : Nat) (a b : Saddle) : Prop where
  tbs : Nat.testBit M 10 = true ∨ b.tbs = a.tbs
  chans : Nat.testBit M 11 = true ∨ b.chans = a.chans
  pairs : b.pairs = a.pairs
  legs : b.legs = a.legs
  pifs : Nat.testBit M 14 = true ∨ b.pifs = a.pifs
  clock : Nat.testBit M 15 = true ∨ b.clock = a.clock
  trips : Nat.testBit M 16 = true ∨ b.trips = a.trips
  ascHigh : Nat.testBit M 17 = true ∨ b.ascHigh = a.ascHigh
  firstTick : Nat.testBit M 18 = true ∨ b.firstTick = a.firstTick
  dlBad : Nat.testBit M 19 = true ∨ b.dlBad = a.dlBad
  strobe : Nat.testBit M 20 = true ∨ b.strobe = a.strobe
  flight : Nat.testBit M 21 = true ∨ b.flight = a.flight
  wrote : Nat.testBit M 22 = true ∨ b.wrote = a.wrote
  goodRuns : Nat.testBit M 23 = true ∨ b.goodRuns = a.goodRuns

theorem SadUpd.refl (M : Nat) (a : Saddle) : SadUpd M a a := by
  constructor <;> first | exact rfl | exact Or.inr rfl

theorem SadUpd.ite {M : Nat} {a b c : Saddle} {p : Prop} [Decidable p] (hb : SadUpd M a b) (hc : SadUpd M a c) : SadUpd M a (if p then b else c) := by
  split <;> assumption

/-- A record update that leaves registers, memory, pairs and legs alone. -/
theorem Upd.lit {M : Nat} {s x : State} {free' : _} {regs' : _} {mem' : _} {cores' : _} {tasks' : _} {readData' : _} {periodCount' : _} {cirq' : _} {cairn' : _} {tick0' : _} {mdio' : _} {saddle' : _} {gdm' : _} {saf' : _} {power' : _} {col' : _} {wrapTick' : _} {meanDue' : _} {peaks' : _} (h : Upd M s x)
    (hfree : Nat.testBit M 30 = true ∨ free' = x.free)
    (hcores : Nat.testBit M 2 = true ∨ cores' = x.cores)
    (htasks : Nat.testBit M 3 = true ∨ tasks' = x.tasks)
    (hreadData : Nat.testBit M 4 = true ∨ readData' = x.readData)
    (hperiodCount : Nat.testBit M 5 = true ∨ periodCount' = x.periodCount)
    (hcirq : Nat.testBit M 6 = true ∨ cirq' = x.cirq)
    (hcairn : Nat.testBit M 7 = true ∨ cairn' = x.cairn)
    (htick0 : Nat.testBit M 8 = true ∨ tick0' = x.tick0)
    (hmdio : Nat.testBit M 9 = true ∨ mdio' = x.mdio)
    (hgdm : Nat.testBit M 24 = true ∨ gdm' = x.gdm)
    (hsaf : Nat.testBit M 25 = true ∨ saf' = x.saf)
    (hpower : Nat.testBit M 26 = true ∨ power' = x.power)
    (hcol : Nat.testBit M 27 = true ∨ col' = x.col)
    (hwrapTick : Nat.testBit M 28 = true ∨ wrapTick' = x.wrapTick)
    (hmeanDue : Nat.testBit M 29 = true ∨ meanDue' = x.meanDue)
    (hregs : regs' = x.regs) (hmem : mem' = x.mem) (hsaddle : SadUpd M x.saddle saddle') (hpeaks : ∀ p, PeakUpd M (x.peaks.get p) (peaks'.get p)) :
    Upd M s ⟨x.pending, x.tick, free', regs', mem', cores', tasks', readData', periodCount', cirq', cairn', tick0', mdio', saddle', gdm', saf', power', col', wrapTick', meanDue', peaks'⟩ := by
  refine h.trans ?_
  constructor
  case sound => exact State.sound_of_eq hregs hmem hsaddle.pairs hsaddle.legs
  case regs => exact fun _ => hregs
  case mem => exact fun _ => hmem
  case pairs => exact fun _ => hsaddle.pairs
  case legs => exact fun _ => hsaddle.legs
  case free => exact eq_of_bit hfree
  case cores => exact eq_of_bit hcores
  case tasks => exact eq_of_bit htasks
  case readData => exact eq_of_bit hreadData
  case periodCount => exact eq_of_bit hperiodCount
  case cirq => exact eq_of_bit hcirq
  case cairn => exact eq_of_bit hcairn
  case tick0 => exact eq_of_bit htick0
  case mdio => exact eq_of_bit hmdio
  case gdm => exact eq_of_bit hgdm
  case saf => exact eq_of_bit hsaf
  case power => exact eq_of_bit hpower
  case col => exact eq_of_bit hcol
  case wrapTick => exact eq_of_bit hwrapTick
  case meanDue => exact eq_of_bit hmeanDue
  case tbs => exact eq_of_bit hsaddle.tbs
  case chans => exact eq_of_bit hsaddle.chans
  case pifs => exact eq_of_bit hsaddle.pifs
  case clock => exact eq_of_bit hsaddle.clock
  case trips => exact eq_of_bit hsaddle.trips
  case ascHigh => exact eq_of_bit hsaddle.ascHigh
  case firstTick => exact eq_of_bit hsaddle.firstTick
  case dlBad => exact eq_of_bit hsaddle.dlBad
  case strobe => exact eq_of_bit hsaddle.strobe
  case flight => exact eq_of_bit hsaddle.flight
  case wrote => exact eq_of_bit hsaddle.wrote
  case goodRuns => exact eq_of_bit hsaddle.goodRuns
  case peak => exact hpeaks
  all_goals exact rfl

/-- A record update of a Peak's own part. -/
theorem PeakUpd.lit {M : Nat} {a b : Peak}
    (hup : Nat.testBit M 31 = true ∨ b.up = a.up)
    (hcycles64 : Nat.testBit M 32 = true ∨ b.cycles64 = a.cycles64)
    (htrvCmd : Nat.testBit M 33 = true ∨ b.trvCmd = a.trvCmd)
    (hheld : Nat.testBit M 34 = true ∨ b.held = a.held)
    (hmonSince : Nat.testBit M 35 = true ∨ b.monSince = a.monSince)
    (hsilent : Nat.testBit M 36 = true ∨ b.silent = a.silent)
    (hcln : Nat.testBit M 37 = true ∨ b.cln = a.cln)
    (hengs : Nat.testBit M 38 = true ∨ b.engs = a.engs)
    (hloops : Nat.testBit M 39 = true ∨ b.loops = a.loops)
    (htgs : Nat.testBit M 40 = true ∨ b.tgs = a.tgs)
    (htalus : Nat.testBit M 41 = true ∨ b.talus = a.talus)
    (htx : Nat.testBit M 42 = true ∨ b.tx = a.tx)
    (hsending : Nat.testBit M 43 = true ∨ b.sending = a.sending)
    (hdma : Nat.testBit M 44 = true ∨ b.dma = a.dma)
    (hobs : Nat.testBit M 45 = true ∨ b.obs = a.obs)
    (htrace : Nat.testBit M 46 = true ∨ b.trace = a.trace)
    (htraceLost : Nat.testBit M 47 = true ∨ b.traceLost = a.traceLost)
    (hinbox : Nat.testBit M 48 = true ∨ b.inbox = a.inbox)
    (houtbox : Nat.testBit M 49 = true ∨ b.outbox = a.outbox)
    (hsignals : Nat.testBit M 50 = true ∨ b.signals = a.signals)
    (hreleasedAt : Nat.testBit M 51 = true ∨ b.releasedAt = a.releasedAt)
    : PeakUpd M a b := ⟨eq_of_bit hup, eq_of_bit hcycles64, eq_of_bit htrvCmd, eq_of_bit hheld, eq_of_bit hmonSince, eq_of_bit hsilent, eq_of_bit hcln, eq_of_bit hengs, eq_of_bit hloops, eq_of_bit htgs, eq_of_bit htalus, eq_of_bit htx, eq_of_bit hsending, eq_of_bit hdma, eq_of_bit hobs, eq_of_bit htrace, eq_of_bit htraceLost, eq_of_bit hinbox, eq_of_bit houtbox, eq_of_bit hsignals, eq_of_bit hreleasedAt⟩

end Sys2Proof.Machine
end

