-- ==== Sys2Proof/Laws/UpdOps.lean ====
section
/-! SUPPORT. What each operation of Machine/Ops.lean may change. -/

set_option linter.unusedTactic false
set_option linter.unreachableTactic false

namespace Sys2Proof.Machine

theorem State.setRegW_upd {M0 : Nat} {s0 s : State} {key : Nat} {v : Word} (h : Upd M0 s0 s) (hM : 1 ||| M0 = M0) : Upd M0 s0 (s.setRegW key v) := by
  refine Upd.step h ?_ hM
  clear h hM
  unfold State.setRegW
  constructor
  case sound =>
    intro h
    rw [State.sound_iff] at h ⊢
    exact ⟨Tab.wf_put _ _ _ _ h.1, h.2⟩
  all_goals first | exact rfl | exact fun h => absurd h (by decide) | exact fun _ => rfl | exact fun _ => PeakUpd.refl _ _

theorem State.setReg_upd {M0 : Nat} {s0 : State} {s : State} {p : PeakId} {a : Nat} {v : Nat} (hU : Upd M0 s0 s) (hM : 1 ||| M0 = M0) : Upd M0 s0 (State.setReg s p a v) := by
  refine Upd.step hU ?_ hM
  clear hU hM
  unfold State.setReg
  have h0 := Upd.refl 1 s
  repeat' first | with_reducible assumption | (guard_target =~ (_ ||| _ : Nat) = _; decide) | with_reducible apply State.setRegW_upd

theorem State.setRegI_upd {M0 : Nat} {s0 : State} {s : State} {p : PeakId} {a : Nat} {v : Int} (hU : Upd M0 s0 s) (hM : 1 ||| M0 = M0) : Upd M0 s0 (State.setRegI s p a v) := by
  refine Upd.step hU ?_ hM
  clear hU hM
  unfold State.setRegI
  have h0 := Upd.refl 1 s
  repeat' first | with_reducible assumption | (guard_target =~ (_ ||| _ : Nat) = _; decide) | with_reducible apply State.setRegW_upd

theorem State.setFld_upd {M0 : Nat} {s0 : State} {s : State} {p : PeakId} {f : Fld} {v : Nat} (hU : Upd M0 s0 s) (hM : 1 ||| M0 = M0) : Upd M0 s0 (State.setFld s p f v) := by
  refine Upd.step hU ?_ hM
  clear hU hM
  unfold State.setFld
  have h0 := Upd.refl 1 s
  repeat' first | with_reducible assumption | (guard_target =~ (_ ||| _ : Nat) = _; decide) | with_reducible apply State.setReg_upd

theorem State.setBit_upd {M0 : Nat} {s0 : State} {s : State} {p : PeakId} {f : Fld} {v : Bool} (hU : Upd M0 s0 s) (hM : 1 ||| M0 = M0) : Upd M0 s0 (State.setBit s p f v) := by
  refine Upd.step hU ?_ hM
  clear hU hM
  unfold State.setBit
  have h0 := Upd.refl 1 s
  repeat' first | with_reducible assumption | (guard_target =~ (_ ||| _ : Nat) = _; decide) | with_reducible apply Upd.ite | with_reducible apply State.setFld_upd

theorem State.raise_upd {M0 : Nat} {s0 : State} {s : State} {p : PeakId} {f : Fld} (hU : Upd M0 s0 s) (hM : 1 ||| M0 = M0) : Upd M0 s0 (State.raise s p f) := by
  refine Upd.step hU ?_ hM
  clear hU hM
  unfold State.raise
  have h0 := Upd.refl 1 s
  repeat' first | with_reducible assumption | (guard_target =~ (_ ||| _ : Nat) = _; decide) | with_reducible apply State.setFld_upd

theorem setBitOf_upd {M0 : Nat} {s0 : State} {p : PeakId} {f : Fld} {e : Nat} {v : Bool} {s : State} (hU : Upd M0 s0 s) (hM : 1 ||| M0 = M0) : Upd M0 s0 (setBitOf p f e v s) := by
  refine Upd.step hU ?_ hM
  clear hU hM
  unfold setBitOf
  have h0 := Upd.refl 1 s
  repeat' first | with_reducible assumption | (guard_target =~ (_ ||| _ : Nat) = _; decide) | with_reducible apply Upd.ite | with_reducible apply State.setFld_upd

theorem State.setBoth_upd {M0 : Nat} {s0 : State} {s : State} {f : Fld} {v : Nat} (hU : Upd M0 s0 s) (hM : 1 ||| M0 = M0) : Upd M0 s0 (State.setBoth s f v) := by
  refine Upd.step hU ?_ hM
  clear hU hM
  unfold State.setBoth
  have h0 := Upd.refl 1 s
  repeat' first | with_reducible assumption | (guard_target =~ (_ ||| _ : Nat) = _; decide) | with_reducible apply State.setFld_upd

theorem State.bump_upd {M0 : Nat} {s0 : State} {s : State} {p : PeakId} {count : Fld} {sat : Fld} (hU : Upd M0 s0 s) (hM : 1 ||| M0 = M0) : Upd M0 s0 (State.bump s p count sat) := by
  refine Upd.step hU ?_ hM
  clear hU hM
  unfold State.bump
  have h0 := Upd.refl 1 s
  repeat' first | with_reducible assumption | (guard_target =~ (_ ||| _ : Nat) = _; decide) | with_reducible apply Upd.ite | with_reducible apply State.setFld_upd

theorem State.setGwFld_upd {M0 : Nat} {s0 : State} {s : State} {f : Fld} {v : Nat} (hU : Upd M0 s0 s) (hM : 1 ||| M0 = M0) : Upd M0 s0 (State.setGwFld s f v) := by
  refine Upd.step hU ?_ hM
  clear hU hM
  unfold State.setGwFld
  have h0 := Upd.refl 1 s
  repeat' first | with_reducible assumption | (guard_target =~ (_ ||| _ : Nat) = _; decide) | with_reducible apply State.setRegW_upd

theorem State.gwBump_upd {M0 : Nat} {s0 : State} {s : State} {count : Fld} {sat : Fld} (hU : Upd M0 s0 s) (hM : 1 ||| M0 = M0) : Upd M0 s0 (State.gwBump s count sat) := by
  refine Upd.step hU ?_ hM
  clear hU hM
  unfold State.gwBump
  have h0 := Upd.refl 1 s
  repeat' first | with_reducible assumption | (guard_target =~ (_ ||| _ : Nat) = _; decide) | with_reducible apply Upd.ite | with_reducible apply State.setGwFld_upd

theorem State.setByte_upd {M0 : Nat} {s0 s : State} {key : Nat} {v : Byte} (h : Upd M0 s0 s) (hM : 2 ||| M0 = M0) : Upd M0 s0 (s.setByte key v) := by
  refine Upd.step h ?_ hM
  clear h hM
  unfold State.setByte
  constructor
  case sound =>
    intro h
    rw [State.sound_iff] at h ⊢
    exact ⟨h.1, Tab.wf_put _ _ _ _ h.2.1, h.2.2⟩
  all_goals first | exact rfl | exact fun h => absurd h (by decide) | exact fun _ => rfl | exact fun _ => PeakUpd.refl _ _

theorem State.setBytes_upd {M0 : Nat} {s0 s : State} {key n v : Nat} (h : Upd M0 s0 s) (hM : 2 ||| M0 = M0) : Upd M0 s0 (s.setBytes key n v) := by
  induction n generalizing s key v with
  | zero => exact h
  | succ n ih => exact ih (State.setByte_upd h hM)

theorem State.setByteList_upd {M0 : Nat} {s0 s : State} {key : Nat} {l : List Byte} (h : Upd M0 s0 s) (hM : 2 ||| M0 = M0) : Upd M0 s0 (s.setByteList key l) := by
  induction l generalizing s key with
  | nil => exact h
  | cons b r ih => exact ih (State.setByte_upd h hM)

theorem State.clearBytes_upd {M0 : Nat} {s0 s : State} {lo hi : Nat} (h : Upd M0 s0 s) (hM : 2 ||| M0 = M0) : Upd M0 s0 (s.clearBytes lo hi) := by
  refine Upd.step h ?_ hM
  clear h hM
  unfold State.clearBytes
  constructor
  case sound =>
    intro h
    rw [State.sound_iff] at h ⊢
    exact ⟨h.1, Tab.wf_filter _ _ _ h.2.1, h.2.2⟩
  all_goals first | exact rfl | exact fun h => absurd h (by decide) | exact fun _ => rfl | exact fun _ => PeakUpd.refl _ _

theorem State.setCore_upd {M0 : Nat} {s0 : State} {s : State} {k : CoreSel} {c : Core} (hU : Upd M0 s0 s) (hM : 4 ||| M0 = M0) : Upd M0 s0 (State.setCore s k c) := by
  refine Upd.step hU ?_ hM
  clear hU hM
  unfold State.setCore
  have h0 := Upd.refl 4 s
  repeat' first | with_reducible assumption | (guard_target =~ (_ ||| _ : Nat) = _; decide) | with_reducible apply Upd.lit | exact rfl | exact SadUpd.refl _ _ | with_reducible apply SadUpd.ite | apply SadUpd.mk | exact fun _ => PeakUpd.refl _ _ | exact Or.inl (by decide) | exact Or.inr rfl

theorem State.setTask_upd {M0 : Nat} {s0 : State} {s : State} {p : PeakId} {n : Nat} {t : Task} (hU : Upd M0 s0 s) (hM : 8 ||| M0 = M0) : Upd M0 s0 (State.setTask s p n t) := by
  refine Upd.step hU ?_ hM
  clear hU hM
  unfold State.setTask
  have h0 := Upd.refl 8 s
  repeat' first | with_reducible assumption | (guard_target =~ (_ ||| _ : Nat) = _; decide) | with_reducible apply Upd.lit | exact rfl | exact SadUpd.refl _ _ | with_reducible apply SadUpd.ite | apply SadUpd.mk | exact fun _ => PeakUpd.refl _ _ | exact Or.inl (by decide) | exact Or.inr rfl

theorem Upd.setPeak {M : Nat} {s x : State} {p : PeakId} {k : Peak} (h : Upd M s x) (hk : PeakUpd M (x.peak p) k) : Upd M s (x.setPeak p k) := by
  refine h.trans ?_
  unfold State.setPeak
  constructor
  case sound => exact State.sound_of_eq rfl rfl rfl rfl
  case peak =>
    intro q
    cases p <;> cases q <;> first | exact hk | exact PeakUpd.refl _ _
  all_goals first | exact rfl | exact fun _ => rfl

theorem State.signal_upd {M0 : Nat} {s0 : State} {p : PeakId} {at_ : Nat} {ev : Nat} {s : State} (hU : Upd M0 s0 s) (hM : 1125899906842624 ||| M0 = M0) : Upd M0 s0 (State.signal p at_ ev s) := by
  refine Upd.step hU ?_ hM
  clear hU hM
  unfold State.signal
  have h0 := Upd.refl 1125899906842624 s
  repeat' first | with_reducible assumption | (guard_target =~ (_ ||| _ : Nat) = _; decide) | with_reducible refine Upd.setPeak ?_ ?_ | exact PeakUpd.refl _ _ | with_reducible apply PeakUpd.ite | with_reducible apply PeakUpd.lit | exact Or.inl (by decide) | exact Or.inr rfl

theorem State.setTb_upd {M0 : Nat} {s0 : State} {s : State} {n : Nat} {t : Tb} (hU : Upd M0 s0 s) (hM : 1024 ||| M0 = M0) : Upd M0 s0 (State.setTb s n t) := by
  refine Upd.step hU ?_ hM
  clear hU hM
  unfold State.setTb
  have h0 := Upd.refl 1024 s
  repeat' first | with_reducible assumption | (guard_target =~ (_ ||| _ : Nat) = _; decide) | with_reducible apply Upd.lit | exact rfl | exact SadUpd.refl _ _ | with_reducible apply SadUpd.ite | apply SadUpd.mk | exact fun _ => PeakUpd.refl _ _ | exact Or.inl (by decide) | exact Or.inr rfl

theorem mirrorBytes_upd {M0 : Nat} {s0 : State} {p : PeakId} {key : Nat} {l : List Byte} {s : State} (hU : Upd M0 s0 s) (hM : 2 ||| M0 = M0) : Upd M0 s0 (mirrorBytes p key l s) := by
  refine Upd.step hU ?_ hM
  clear hU hM
  unfold mirrorBytes
  have h0 := Upd.refl 2 s
  repeat' first | with_reducible assumption | (guard_target =~ (_ ||| _ : Nat) = _; decide) | (fail_if_no_progress extract_lets +onlyGivenNames x; first | (have hx : Upd 2 s x := (by unfold x; repeat' first | with_reducible assumption | (guard_target =~ (_ ||| _ : Nat) = _; decide) | with_reducible apply Upd.ite | with_reducible refine Upd.forAll ?_ (fun _ _ _ => ?_) | with_reducible apply State.setByte_upd); try clear_value x) | (have hx : Upd 2 s x.2 := (by unfold x; repeat' first | with_reducible assumption | (guard_target =~ (_ ||| _ : Nat) = _; decide) | with_reducible apply Upd.ite | with_reducible refine Upd.forAll ?_ (fun _ _ _ => ?_) | with_reducible apply State.setByte_upd); try clear_value x) | (have h9 : (x : Peak) = x := rfl; clear h9) | (have h9 : (x : Saddle) = x := rfl; clear h9) | (have h9 : (x : Pair) = x := rfl; clear h9) | (have h9 : (x : Leg) = x := rfl; clear h9) | clear_value x | skip) | with_reducible apply Upd.ite | with_reducible refine Upd.forAll ?_ (fun _ _ _ => ?_) | with_reducible apply State.setByte_upd

theorem State.takeFree_upd {M0 : Nat} {s0 : State} {s : State} (hU : Upd M0 s0 s) (hM : 1073741824 ||| M0 = M0) : Upd M0 s0 (State.takeFree s).2 := by
  refine Upd.step hU ?_ hM
  clear hU hM
  unfold State.takeFree
  have h0 := Upd.refl 1073741824 s
  repeat' first | with_reducible assumption | (guard_target =~ (_ ||| _ : Nat) = _; decide) | with_reducible apply Upd.lit | exact rfl | exact SadUpd.refl _ _ | with_reducible apply SadUpd.ite | apply SadUpd.mk | exact fun _ => PeakUpd.refl _ _ | exact Or.inl (by decide) | exact Or.inr rfl

end Sys2Proof.Machine
end

