-- ==== Sys2Proof/Laws/UpdEvents.lean ====
section
/-! SUPPORT. What each operation of Machine/Events.lean may change. -/

set_option linter.unusedTactic false
set_option linter.unreachableTactic false

namespace Sys2Proof.Machine

theorem obsCount_upd {M0 : Nat} {s0 : State} {p : PeakId} {src : Nat} {arg : Nat} {n : Nat} {s : State} (hU : Upd M0 s0 s) (hM : 35184372088833 ||| M0 = M0) : Upd M0 s0 (obsCount p src arg n s) := by
  refine Upd.step hU ?_ hM
  clear hU hM
  unfold obsCount
  have h0 := Upd.refl 35184372088833 s
  repeat' first | with_reducible assumption | (guard_target =~ (_ ||| _ : Nat) = _; decide) | (fail_if_no_progress extract_lets +onlyGivenNames x; first | (have hx : Upd 35184372088833 s x := (by unfold x; repeat' first | with_reducible assumption | (guard_target =~ (_ ||| _ : Nat) = _; decide) | with_reducible apply Upd.ite | with_reducible refine Upd.forAll ?_ (fun _ _ _ => ?_) | with_reducible refine Upd.setPeak ?_ ?_ | with_reducible apply State.setFld_upd | exact PeakUpd.refl _ _ | with_reducible apply PeakUpd.ite | with_reducible apply PeakUpd.lit | exact Or.inl (by decide) | exact Or.inr rfl); try clear_value x) | (have h9 : (x : Peak) = x := rfl; clear h9) | (have h9 : (x : Saddle) = x := rfl; clear h9) | (have h9 : (x : Pair) = x := rfl; clear h9) | (have h9 : (x : Leg) = x := rfl; clear h9) | clear_value x | skip) | with_reducible apply Upd.ite | with_reducible refine Upd.forAll ?_ (fun _ _ _ => ?_) | with_reducible refine Upd.setPeak ?_ ?_ | with_reducible apply State.setFld_upd | exact PeakUpd.refl _ _ | with_reducible apply PeakUpd.ite | with_reducible apply PeakUpd.lit | exact Or.inl (by decide) | exact Or.inr rfl

theorem tracePut_upd {M0 : Nat} {s0 : State} {p : PeakId} {type : Nat} {payload : Nat} {s : State} (hU : Upd M0 s0 s) (hM : 211106232532993 ||| M0 = M0) : Upd M0 s0 (tracePut p type payload s) := by
  refine Upd.step hU ?_ hM
  clear hU hM
  unfold tracePut
  have h0 := Upd.refl 211106232532993 s
  repeat' first | with_reducible assumption | (guard_target =~ (_ ||| _ : Nat) = _; decide) | (fail_if_no_progress extract_lets +onlyGivenNames x; first | (have hx : Upd 211106232532993 s x := (by unfold x; repeat' first | with_reducible assumption | (guard_target =~ (_ ||| _ : Nat) = _; decide) | with_reducible apply Upd.ite | with_reducible refine Upd.setPeak ?_ ?_ | with_reducible apply State.bump_upd | exact PeakUpd.refl _ _ | with_reducible apply PeakUpd.ite | with_reducible apply PeakUpd.lit | exact Or.inl (by decide) | exact Or.inr rfl); try clear_value x) | (have h9 : (x : Peak) = x := rfl; clear h9) | (have h9 : (x : Saddle) = x := rfl; clear h9) | (have h9 : (x : Pair) = x := rfl; clear h9) | (have h9 : (x : Leg) = x := rfl; clear h9) | clear_value x | skip) | with_reducible apply Upd.ite | with_reducible refine Upd.setPeak ?_ ?_ | with_reducible apply State.bump_upd | exact PeakUpd.refl _ _ | with_reducible apply PeakUpd.ite | with_reducible apply PeakUpd.lit | exact Or.inl (by decide) | exact Or.inr rfl

theorem State.setTalChan_upd {M0 : Nat} {s0 : State} {s : State} {p : PeakId} {c : Nat} {t : TalChan} (hU : Upd M0 s0 s) (hM : 2199023255552 ||| M0 = M0) : Upd M0 s0 (State.setTalChan s p c t) := by
  refine Upd.step hU ?_ hM
  clear hU hM
  unfold State.setTalChan
  have h0 := Upd.refl 2199023255552 s
  repeat' first | with_reducible assumption | (guard_target =~ (_ ||| _ : Nat) = _; decide) | (fail_if_no_progress extract_lets +onlyGivenNames x; first | (have hx : Upd 2199023255552 s x := (by unfold x; repeat' first | with_reducible assumption | (guard_target =~ (_ ||| _ : Nat) = _; decide) | with_reducible refine Upd.setPeak ?_ ?_ | exact PeakUpd.refl _ _ | with_reducible apply PeakUpd.ite | with_reducible apply PeakUpd.lit | exact Or.inl (by decide) | exact Or.inr rfl); try clear_value x) | (have h9 : (x : Peak) = x := rfl; clear h9) | (have h9 : (x : Saddle) = x := rfl; clear h9) | (have h9 : (x : Pair) = x := rfl; clear h9) | (have h9 : (x : Leg) = x := rfl; clear h9) | clear_value x | skip) | with_reducible refine Upd.setPeak ?_ ?_ | exact PeakUpd.refl _ _ | with_reducible apply PeakUpd.ite | with_reducible apply PeakUpd.lit | exact Or.inl (by decide) | exact Or.inr rfl

theorem talusTrigger_upd {M0 : Nat} {s0 : State} {p : PeakId} {cond : Nat} {instant : Int} {frac : Nat} {s : State} (hU : Upd M0 s0 s) (hM : 2199023255553 ||| M0 = M0) : Upd M0 s0 (talusTrigger p cond instant frac s) := by
  refine Upd.step hU ?_ hM
  clear hU hM
  unfold talusTrigger
  have h0 := Upd.refl 2199023255553 s
  repeat' first | with_reducible assumption | (guard_target =~ (_ ||| _ : Nat) = _; decide) | (fail_if_no_progress extract_lets +onlyGivenNames x; first | (have hx : Upd 2199023255553 s x := (by unfold x; repeat' first | with_reducible assumption | (guard_target =~ (_ ||| _ : Nat) = _; decide) | with_reducible apply Upd.ite | with_reducible refine Upd.forAll ?_ (fun _ _ _ => ?_) | with_reducible apply State.setTalChan_upd | with_reducible apply State.bump_upd | split); try clear_value x) | (have h9 : (x : Peak) = x := rfl; clear h9) | (have h9 : (x : Saddle) = x := rfl; clear h9) | (have h9 : (x : Pair) = x := rfl; clear h9) | (have h9 : (x : Leg) = x := rfl; clear h9) | clear_value x | skip) | with_reducible apply Upd.ite | with_reducible refine Upd.forAll ?_ (fun _ _ _ => ?_) | with_reducible apply State.setTalChan_upd | with_reducible apply State.bump_upd | split

theorem trvRefresh_upd {M0 : Nat} {s0 : State} {p : PeakId} {s : State} (hU : Upd M0 s0 s) (hM : 1 ||| M0 = M0) : Upd M0 s0 (trvRefresh p s) := by
  refine Upd.step hU ?_ hM
  clear hU hM
  unfold trvRefresh
  have h0 := Upd.refl 1 s
  repeat' first | with_reducible assumption | (guard_target =~ (_ ||| _ : Nat) = _; decide) | (fail_if_no_progress extract_lets +onlyGivenNames x; first | (have hx : Upd 1 s x := (by unfold x; repeat' first | with_reducible assumption | (guard_target =~ (_ ||| _ : Nat) = _; decide) | with_reducible apply State.setFld_upd | with_reducible apply State.setBit_upd); try clear_value x) | (have h9 : (x : Peak) = x := rfl; clear h9) | (have h9 : (x : Saddle) = x := rfl; clear h9) | (have h9 : (x : Pair) = x := rfl; clear h9) | (have h9 : (x : Leg) = x := rfl; clear h9) | clear_value x | skip) | with_reducible apply State.setFld_upd | with_reducible apply State.setBit_upd

theorem monitorMark_upd {M0 : Nat} {s0 : State} {p : PeakId} {n : Nat} {kind : Nat} {cycle : Nat} {s : State} (hU : Upd M0 s0 s) (hM : 211140592271361 ||| M0 = M0) : Upd M0 s0 (monitorMark p n kind cycle s) := by
  refine Upd.step hU ?_ hM
  clear hU hM
  unfold monitorMark
  have h0 := Upd.refl 211140592271361 s
  repeat' first | with_reducible assumption | (guard_target =~ (_ ||| _ : Nat) = _; decide) | (fail_if_no_progress extract_lets +onlyGivenNames x; first | (have hx : Upd 211140592271361 s x := (by unfold x; repeat' first | with_reducible assumption | (guard_target =~ (_ ||| _ : Nat) = _; decide) | with_reducible apply Upd.ite | with_reducible refine Upd.setPeak ?_ ?_ | with_reducible apply State.setFld_upd | with_reducible apply State.raise_upd | with_reducible apply tracePut_upd | with_reducible apply trvRefresh_upd | with_reducible apply State.setReg_upd | exact PeakUpd.refl _ _ | with_reducible apply PeakUpd.ite | with_reducible apply PeakUpd.lit | exact Or.inl (by decide) | exact Or.inr rfl); try clear_value x) | (have h9 : (x : Peak) = x := rfl; clear h9) | (have h9 : (x : Saddle) = x := rfl; clear h9) | (have h9 : (x : Pair) = x := rfl; clear h9) | (have h9 : (x : Leg) = x := rfl; clear h9) | clear_value x | skip) | with_reducible apply Upd.ite | with_reducible refine Upd.setPeak ?_ ?_ | with_reducible apply State.setFld_upd | with_reducible apply State.raise_upd | with_reducible apply tracePut_upd | with_reducible apply trvRefresh_upd | with_reducible apply State.setReg_upd | exact PeakUpd.refl _ _ | with_reducible apply PeakUpd.ite | with_reducible apply PeakUpd.lit | exact Or.inl (by decide) | exact Or.inr rfl

theorem fireN_upd {M0 : Nat} {s0 : State} {n : Nat} {p : PeakId} {ev : Nat} {s : State} (h : Upd M0 s0 s) (hM : 248523987615757 ||| M0 = M0) : Upd M0 s0 (fireN n p ev s) := by
  refine Upd.step h ?_ hM
  clear h hM
  induction n generalizing ev s with
  | zero =>
    unfold fireN
    have h0 := Upd.refl 248523987615757 s
    repeat' first | with_reducible assumption | (guard_target =~ (_ ||| _ : Nat) = _; decide) | (fail_if_no_progress extract_lets +onlyGivenNames x; first | (have hx : Upd 248523987615757 s x := (by unfold x; repeat' first | with_reducible assumption | (guard_target =~ (_ ||| _ : Nat) = _; decide) | with_reducible apply Upd.ite | with_reducible apply State.bump_upd | with_reducible apply obsCount_upd | with_reducible apply tracePut_upd | with_reducible refine Upd.forAll ?_ (fun _ _ _ => ?_) | with_reducible apply talusTrigger_upd | with_reducible apply State.setCore_upd | with_reducible apply State.setTask_upd | with_reducible apply monitorMark_upd | with_reducible apply State.setFld_upd | with_reducible apply State.raise_upd | split); try clear_value x) | (have h9 : (x : Peak) = x := rfl; clear h9) | (have h9 : (x : Saddle) = x := rfl; clear h9) | (have h9 : (x : Pair) = x := rfl; clear h9) | (have h9 : (x : Leg) = x := rfl; clear h9) | clear_value x | skip) | with_reducible apply Upd.ite | with_reducible apply State.bump_upd | with_reducible apply obsCount_upd | with_reducible apply tracePut_upd | with_reducible refine Upd.forAll ?_ (fun _ _ _ => ?_) | with_reducible apply talusTrigger_upd | with_reducible apply State.setCore_upd | with_reducible apply State.setTask_upd | with_reducible apply monitorMark_upd | with_reducible apply State.setFld_upd | with_reducible apply State.raise_upd | split
  | succ n ih' =>
    have ih : ∀ {t : State} {e : Nat}, Upd 248523987615757 s t → Upd 248523987615757 s (fireN n p e t) := fun h => h.trans (ih' ..)
    unfold fireN
    have h0 := Upd.refl 248523987615757 s
    repeat' first | with_reducible assumption | with_reducible apply ih | (guard_target =~ (_ ||| _ : Nat) = _; decide) | (fail_if_no_progress extract_lets +onlyGivenNames x; first | (have hx : Upd 248523987615757 s x := (by unfold x; repeat' first | with_reducible assumption | with_reducible apply ih | (guard_target =~ (_ ||| _ : Nat) = _; decide) | with_reducible apply Upd.ite | with_reducible apply State.bump_upd | with_reducible apply obsCount_upd | with_reducible apply tracePut_upd | with_reducible refine Upd.forAll ?_ (fun _ _ _ => ?_) | with_reducible apply talusTrigger_upd | with_reducible apply State.setCore_upd | with_reducible apply State.setTask_upd | with_reducible apply monitorMark_upd | with_reducible apply State.setFld_upd | with_reducible apply State.raise_upd | split); try clear_value x) | (have h9 : (x : Peak) = x := rfl; clear h9) | (have h9 : (x : Saddle) = x := rfl; clear h9) | (have h9 : (x : Pair) = x := rfl; clear h9) | (have h9 : (x : Leg) = x := rfl; clear h9) | clear_value x | skip) | with_reducible apply Upd.ite | with_reducible apply State.bump_upd | with_reducible apply obsCount_upd | with_reducible apply tracePut_upd | with_reducible refine Upd.forAll ?_ (fun _ _ _ => ?_) | with_reducible apply talusTrigger_upd | with_reducible apply State.setCore_upd | with_reducible apply State.setTask_upd | with_reducible apply monitorMark_upd | with_reducible apply State.setFld_upd | with_reducible apply State.raise_upd | split

theorem fire_upd {M0 : Nat} {s0 : State} {p : PeakId} {ev : Nat} {s : State} (hU : Upd M0 s0 s) (hM : 248523987615757 ||| M0 = M0) : Upd M0 s0 (fire p ev s) := by
  refine Upd.step hU ?_ hM
  clear hU hM
  unfold fire
  have h0 := Upd.refl 248523987615757 s
  repeat' first | with_reducible assumption | (guard_target =~ (_ ||| _ : Nat) = _; decide) | with_reducible apply fireN_upd

theorem fireBoth_upd {M0 : Nat} {s0 : State} {ev : Nat} {s : State} (hU : Upd M0 s0 s) (hM : 248523987615757 ||| M0 = M0) : Upd M0 s0 (fireBoth ev s) := by
  refine Upd.step hU ?_ hM
  clear hU hM
  unfold fireBoth
  have h0 := Upd.refl 248523987615757 s
  repeat' first | with_reducible assumption | (guard_target =~ (_ ||| _ : Nat) = _; decide) | with_reducible refine Upd.bothPeaks ?_ (fun _ _ _ => ?_) | with_reducible apply fire_upd

theorem monitorViolation_upd {M0 : Nat} {s0 : State} {p : PeakId} {n : Nat} {kind : Nat} {cycle : Nat} {s : State} (hU : Upd M0 s0 s) (hM : 248523987615757 ||| M0 = M0) : Upd M0 s0 (monitorViolation p n kind cycle s) := by
  refine Upd.step hU ?_ hM
  clear hU hM
  unfold monitorViolation
  have h0 := Upd.refl 248523987615757 s
  repeat' first | with_reducible assumption | (guard_target =~ (_ ||| _ : Nat) = _; decide) | with_reducible apply fire_upd | with_reducible apply monitorMark_upd

end Sys2Proof.Machine
end

