-- ==== Sys2Proof/Laws/Frames.lean ====
section
/-! SUPPORT. Which register bits an event may change, one lemma per operation of the event matrix. -/

namespace Sys2Proof.Machine

variable {M : Nat → Nat} {s t u : State}

theorem RegFrame.refl (M : Nat → Nat) (s : State) : RegFrame M s s := fun _ _ _ _ _ => rfl

theorem RegFrame.trans (h : RegFrame M s t) (g : RegFrame M t u) : RegFrame M s u := fun p a i ha hm => (g p a i ha hm).trans (h p a i ha hm)

theorem RegFrame.mono {N : Nat → Nat} (h : RegFrame M s t) (hm : ∀ a i, (N a).testBit i = false → (M a).testBit i = false) : RegFrame N s t :=
  fun p a i ha hi => h p a i ha (hm a i hi)

theorem State.reg_of_regs (e : u.regs = t.regs) (p : PeakId) (a : Nat) : u.reg p a = t.reg p a := by
  unfold State.reg State.regW
  rw [e]

theorem RegFrame.of_regs (h : RegFrame M s t) (e : u.regs = t.regs) : RegFrame M s u := by
  intro p a i ha hm
  rw [State.reg_of_regs e, h p a i ha hm]

theorem RegFrame.setFld (h : RegFrame M s t) (p : PeakId) {f : Fld} (v : Nat) (hf : f.lo ≤ f.hi) (h32 : f.hi < 32) (ha : f.addr < 2 ^ 32)
    (hm : ∀ i, f.lo ≤ i → i ≤ f.hi → (M f.addr).testBit i = true) : RegFrame M s (t.setFld p f v) := by
  intro q b i hb hi
  by_cases hk : regKey q b = regKey p f.addr
  · have hab : b = f.addr := by
      by_contra hne
      exact regKey_ne hne hb ha hk
    subst hab
    have : (t.setFld p f v).reg q f.addr = (t.setFld p f v).reg p f.addr := by
      unfold State.reg; rw [hk]
    rw [this, State.reg_setFld t p v hf h32, testBit_putBits _ _ hf]
    have h1 : t.reg p f.addr = t.reg q f.addr := by unfold State.reg; rw [hk]
    rw [h1]
    split
    · next hr => rw [hm i hr.1 hr.2] at hi; cases hi
    · exact h q _ i hb hi
  · rw [State.reg_setFld_ne _ _ hk]
    exact h q b i hb hi

theorem RegFrame.setReg (h : RegFrame M s t) (p : PeakId) {a : Nat} (v : Nat) (ha : a < 2 ^ 32) (hm : ∀ i, i < 32 → (M a).testBit i = true) :
    RegFrame M s (t.setReg p a v) := by
  intro q b i hb hi
  by_cases hk : regKey q b = regKey p a
  · have hab : b = a := by
      by_contra hne
      exact regKey_ne hne hb ha hk
    subst hab
    by_cases h32 : i < 32
    · rw [hm i h32] at hi; cases hi
    · rw [Nat.testBit_lt_two_pow (lt_of_lt_of_le (State.reg_lt _ q b) (Nat.pow_le_pow_right (by decide) (by omega))),
        Nat.testBit_lt_two_pow (lt_of_lt_of_le (State.reg_lt _ q b) (Nat.pow_le_pow_right (by decide) (by omega)))]
  · rw [State.reg_setReg_ne _ _ hk]
    exact h q b i hb hi

theorem RegFrame.bump (h : RegFrame M s t) (p : PeakId) {c f : Fld} (hc : c.lo ≤ c.hi) (hc32 : c.hi < 32) (hca : c.addr < 2 ^ 32)
    (hcm : ∀ i, c.lo ≤ i → i ≤ c.hi → (M c.addr).testBit i = true) (hf : f.lo ≤ f.hi) (h32 : f.hi < 32) (ha : f.addr < 2 ^ 32)
    (hm : ∀ i, f.lo ≤ i → i ≤ f.hi → (M f.addr).testBit i = true) : RegFrame M s (t.bump p c f) := by
  unfold State.bump
  split
  · exact h.setFld p _ hf h32 ha hm
  · exact h.setFld p _ hc hc32 hca hcm

theorem RegFrame.forAll {α : Type} (xs : List α) (f : α → State → State) (h : RegFrame M s t)
    (hf : ∀ x ∈ xs, ∀ v, RegFrame M s v → RegFrame M s (f x v)) : RegFrame M s (forAll xs f t) :=
  forAll_induct (RegFrame M s) xs f h hf

/-- A register no bit of which may change. -/
theorem RegFrame.reg (h : RegFrame M s t) (p : PeakId) {a : Nat} (ha : a < 2 ^ 32) (hm : M a = 0) : t.reg p a = s.reg p a :=
  Nat.eq_of_testBit_eq fun i => h p a i ha (by rw [hm, Nat.zero_testBit])

/-- A field no bit of which may change. -/
theorem RegFrame.fld (h : RegFrame M s t) (p : PeakId) {f : Fld} (ha : f.addr < 2 ^ 32) (hm : bits (M f.addr) f.hi f.lo = 0) :
    t.fld p f = s.fld p f := by
  unfold State.fld
  refine Nat.eq_of_testBit_eq fun i => ?_
  rw [testBit_bits, testBit_bits]
  by_cases hi : i < f.hi + 1 - f.lo
  · have := testBit_bits (M f.addr) f.hi f.lo i
    rw [hm, Nat.zero_testBit] at this
    simp only [hi, decide_true, Bool.true_and] at this ⊢
    exact h p _ _ ha this.symm
  · simp [hi]

theorem RegFrame.bit (h : RegFrame M s t) (p : PeakId) {f : Fld} (ha : f.addr < 2 ^ 32) (hm : bits (M f.addr) f.hi f.lo = 0) :
    t.bit p f = s.bit p f := by
  unfold State.bit
  rw [h.fld p ha hm]

/-! ### The mask at the registers of an array -/

theorem eventMask_taskStat {n : Nat} (h : n < 0x70) : eventMask (Reg.trvTaskStat n) = 0x82 := by
  unfold eventMask
  repeat first
    | rw [if_pos (by simp only [Reg.trvTaskStat, Reg.trvStatus, Reg.trvMonCycle, Reg.trvEvWatchCnt, Reg.trvFlags, Reg.trvMon, Reg.obsTrcLost]; omega)]
    | rw [if_neg (by simp only [Reg.trvTaskStat, Reg.trvStatus, Reg.trvMonCycle, Reg.trvEvWatchCnt, Reg.trvFlags, Reg.trvMon, Reg.obsTrcLost]; omega)]

theorem eventMask_taskMiss {n : Nat} (h : n < 0x70) : eventMask (Reg.trvTaskMiss n) = 0xFFFF0000 := by
  unfold eventMask
  repeat first
    | rw [if_pos (by simp only [Reg.trvTaskMiss, Reg.trvStatus, Reg.trvMonCycle, Reg.trvEvWatchCnt, Reg.trvFlags, Reg.trvMon, Reg.obsTrcLost]; omega)]
    | rw [if_neg (by simp only [Reg.trvTaskMiss, Reg.trvStatus, Reg.trvMonCycle, Reg.trvEvWatchCnt, Reg.trvFlags, Reg.trvMon, Reg.obsTrcLost]; omega)]

theorem eventMask_obsCntHi {n : Nat} (h : n < 8) : eventMask (Reg.obsCntHi n) = 0x10000 := by
  unfold eventMask
  repeat first
    | rw [if_pos (by simp only [Reg.obsCntHi, Reg.trvStatus, Reg.trvMonCycle, Reg.trvEvWatchCnt, Reg.trvFlags, Reg.trvMon, Reg.obsTrcLost]; omega)]
    | rw [if_neg (by simp only [Reg.obsCntHi, Reg.trvStatus, Reg.trvMonCycle, Reg.trvEvWatchCnt, Reg.trvFlags, Reg.trvMon, Reg.obsTrcLost]; omega)]

theorem eventMask_talChLost {n : Nat} (h : n < 4) : eventMask (Reg.talChLost n) = 0x1FFFF := by
  unfold eventMask
  repeat first
    | rw [if_pos (by simp only [Reg.talChLost, Reg.trvStatus, Reg.trvMonCycle, Reg.trvEvWatchCnt, Reg.trvFlags, Reg.trvMon, Reg.obsTrcLost]; omega)]
    | rw [if_neg (by simp only [Reg.talChLost, Reg.trvStatus, Reg.trvMonCycle, Reg.trvEvWatchCnt, Reg.trvFlags, Reg.trvMon, Reg.obsTrcLost]; omega)]

/-- A field's bits lie in a mask. -/
theorem inMask {a m lo hi : Nat} (hM : M a = m) (h : ∀ i ∈ List.range (hi + 1), lo ≤ i → m.testBit i = true) :
    ∀ i, lo ≤ i → i ≤ hi → (M a).testBit i = true := fun i h1 h2 => by
  rw [hM]
  exact h i (List.mem_range.mpr (by omega)) h1

theorem le_lit {a b : Nat} (h : Nat.ble a b = true) : a ≤ b := Nat.le_of_ble_eq_true h

theorem eventMask_trvStatus : eventMask Reg.trvStatus = 0xFFFFFFFF := rfl
theorem eventMask_trvMonCycle : eventMask Reg.trvMonCycle = 0xFFFFFFFF := rfl
theorem eventMask_trvEvWatchCnt : eventMask Reg.trvEvWatchCnt = 0xFFFFFFFF := rfl
theorem eventMask_trvFlags : eventMask Reg.trvFlags = 0x12 := rfl
theorem eventMask_trvMon : eventMask Reg.trvMon = 0xFF0F := rfl
theorem eventMask_obsTrcLost : eventMask Reg.obsTrcLost = 0x1FFFF := rfl

theorem setTaskStat_frame (h : RegFrame eventMask s t) (p : PeakId) {n b : Nat} (v : Nat) (hn : n < 0x70) (hb : b = 1 ∨ b = 7) :
    RegFrame eventMask s (t.setFld p ⟨Reg.trvTaskStat n, b, b⟩ v) := by
  refine h.setFld p v (le_refl _) ?_ ?_ ?_
  · simp only; omega
  · simp only [Reg.trvTaskStat]; omega
  · rcases hb with rfl | rfl <;> exact inMask (eventMask_taskStat hn) (by simp only; decide)

theorem bumpOverruns_frame (h : RegFrame eventMask s t) (p : PeakId) {n : Nat} (hn : n < 0x70) :
    RegFrame eventMask s (t.bump p (Fd.trvTaskMissOverruns n) (Fd.trvTaskMissOvrSat n)) := by
  have ha : Reg.trvTaskMiss n < 2 ^ 32 := by simp only [Reg.trvTaskMiss]; omega
  exact h.bump p (le_lit rfl) (le_lit rfl) ha (inMask (eventMask_taskMiss hn) (by simp only [Fd.trvTaskMissOverruns]; decide)) (le_lit rfl)
    (le_lit rfl) ha (inMask (eventMask_taskMiss hn) (by simp only [Fd.trvTaskMissOvrSat]; decide))

/-! ### Operations -/

theorem obsCount_frame (p : PeakId) (src arg n : Nat) (h : RegFrame eventMask s t) : RegFrame eventMask s (obsCount p src arg n t) := by
  unfold obsCount
  refine h.forAll _ _ fun k hk v hv => ?_
  have hk8 : k < 8 := List.mem_range.mp hk
  dsimp only
  split
  · split
    · exact RegFrame.setFld (hv.of_regs rfl) p _ (le_lit rfl) (le_lit rfl) (by simp only [Fd.obsCntHiSat, Reg.obsCntHi]; omega)
        (inMask (eventMask_obsCntHi hk8) (by simp only [Fd.obsCntHiSat]; decide))
    · exact hv.of_regs rfl
  · exact hv

theorem tracePut_frame (p : PeakId) (ty pay : Nat) (h : RegFrame eventMask s t) : RegFrame eventMask s (tracePut p ty pay t) := by
  unfold tracePut
  dsimp only
  split
  · split
    · have h1 : RegFrame eventMask s (t.setPeak p { t.peak p with traceLost := min ((t.peak p).traceLost + 1) 0xFFFF }) :=
        h.of_regs (State.setPeak_regs ..)
      generalize t.setPeak p { t.peak p with traceLost := min ((t.peak p).traceLost + 1) 0xFFFF } = v at h1 ⊢
      refine h1.bump p (le_lit rfl) (le_lit rfl) (le_lit rfl) ?_ (le_lit rfl) (le_lit rfl) (le_lit rfl) ?_
      · exact inMask (hi := 15) (lo := 0) eventMask_obsTrcLost (by decide)
      · exact inMask (hi := 16) (lo := 16) eventMask_obsTrcLost (by decide)
    · exact h.of_regs rfl
  · exact h

theorem talusTrigger_frame (p : PeakId) (cond : Nat) (at_ : Int) (fr : Nat) (h : RegFrame eventMask s t) :
    RegFrame eventMask s (talusTrigger p cond at_ fr t) := by
  unfold talusTrigger
  refine h.forAll _ _ fun c hc v hv => ?_
  have hc4 : c < 4 := List.mem_range.mp hc
  dsimp only
  split
  · split
    · exact hv.of_regs rfl
    · exact hv.of_regs rfl
    · have ha : Reg.talChLost c < 2 ^ 32 := by simp only [Reg.talChLost]; omega
      exact RegFrame.bump hv p (le_lit rfl) (le_lit rfl) ha (inMask (eventMask_talChLost hc4) (by simp only [Fd.talChLostCount]; decide)) (le_lit rfl)
        (le_lit rfl) ha (inMask (eventMask_talChLost hc4) (by simp only [Fd.talChLostSat]; decide))
  · exact hv

theorem trvRefresh_frame (p : PeakId) (h : RegFrame eventMask s t) : RegFrame eventMask s (trvRefresh p t) := by
  have step : ∀ (u : State) (f : Fld) (v : Nat), f.addr = Reg.trvStatus → f.lo ≤ f.hi → f.hi < 32 → RegFrame eventMask s u →
      RegFrame eventMask s (u.setFld p f v) := by
    intro u f v hf h1 h2 hu
    refine hu.setFld p v h1 h2 (by rw [hf]; decide) ?_
    intro i _ hi
    rw [hf]
    rw [eventMask_trvStatus, show 0xFFFFFFFF = 2 ^ 32 - 1 from rfl, Nat.testBit_two_pow_sub_one]
    exact decide_eq_true (by omega)
  unfold trvRefresh State.setBit
  dsimp only
  exact step _ _ _ rfl (le_lit rfl) (le_lit rfl) (step _ _ _ rfl (le_lit rfl) (le_lit rfl) (step _ _ _ rfl (by decide) (by decide)
    (step _ _ _ rfl (le_lit rfl) (le_lit rfl) (step _ _ _ rfl (le_lit rfl) (le_lit rfl) (step _ _ _ rfl (le_lit rfl) (le_lit rfl) h)))))

theorem monitorMark_frame (p : PeakId) {n : Nat} (kind cycle : Nat) (hn : n < 0x70) (h : RegFrame eventMask s t) :
    RegFrame eventMask s (monitorMark p n kind cycle t) := by
  unfold monitorMark
  dsimp only
  refine trvRefresh_frame p (tracePut_frame p _ _ ?_)
  have h1 : RegFrame eventMask s (((t.setPeak p { t.peak p with monSince := true }).setFld p (Fd.trvTaskStatMonFault n) 1).raise p Fd.trvFlagsMonitor) :=
    RegFrame.setFld (setTaskStat_frame (h.of_regs rfl) p 1 hn (Or.inr rfl)) p 1 (le_lit rfl) (le_lit rfl) (le_lit rfl)
      (inMask eventMask_trvFlags (by decide))
  split
  · refine RegFrame.setReg (RegFrame.setFld (RegFrame.setFld h1 p _ (le_lit rfl) (le_lit rfl) (le_lit rfl) (inMask eventMask_trvMon (by decide))) p _
      (le_lit rfl) (le_lit rfl) (le_lit rfl) (inMask eventMask_trvMon (by decide))) p _ (le_lit rfl) fun i hi => ?_
    rw [eventMask_trvMonCycle, show 0xFFFFFFFF = 2 ^ 32 - 1 from rfl, Nat.testBit_two_pow_sub_one]
    exact decide_eq_true hi
  · exact h1

/-- A property that every part of an event keeps is kept by the event. -/
theorem fireN_induct (P : State → Prop) (p : PeakId) (s : State) (h : P s)
    (hw : ∀ v, P v → P (v.bump p Fd.trvEvWatchCntCount Fd.trvEvWatchCntSat))
    (hobs : ∀ v src arg n, P v → P (obsCount p src arg n v))
    (htr : ∀ v ty pay, P v → P (tracePut p ty pay v))
    (htal : ∀ v c i f, P v → P (talusTrigger p c i f v))
    (hboot : ∀ v k w, P v → P (v.setCore k { v.core k with bootWait := w }))
    (hwait : ∀ v n w, n ∈ s.loaded p → isSummit n = false → P v → P (v.setTask p n { v.task p n with wait := w }))
    (hmon : ∀ v n kind cyc, n ∈ s.loaded p → P v → P (monitorMark p n kind cyc v))
    (hpend : ∀ v n e, n ∈ s.loaded p → P v →
      P ((v.setFld p (Fd.trvTaskStatPending n) 1).setTask p n { v.task p n with latchEv := e, latchTick := v.tick, latchLate := false }))
    (hovr : ∀ v n, n ∈ s.loaded p → P v → P ((v.bump p (Fd.trvTaskMissOverruns n) (Fd.trvTaskMissOvrSat n)).raise p Fd.trvFlagsOverrun))
    (hload : ∀ v, P v → v.loaded p = s.loaded p) (fuel ev : Nat) : P (fireN fuel p ev s) := by
  have main : ∀ (fuel : Nat) (ev : Nat) (t : State), P t → P (fireN fuel p ev t) := by
    have first : ∀ (u : State) (e : Nat), P u → P (if u.reg p Reg.trvEvWatch = e then u.bump p Fd.trvEvWatchCntCount Fd.trvEvWatchCntSat else u) := by
      intro u e hu
      split
      · exact hw u hu
      · exact hu
    have conds : ∀ (u : State) (e : Nat), P u → P (forAll (List.range 16) (fun n s =>
        if s.fld p (Fd.talCondCfgKind n) = 4 ∧ s.fld p (Fd.talCondCfgEvent n) = e then
          talusTrigger p n (s.tick * 1024 : Nat) 0 s else s) u) := by
      intro u e hu
      refine forAll_induct P _ _ hu fun n _ v hv => ?_
      split
      · exact htal _ _ _ _ hv
      · exact hv
    have boots : ∀ (u : State) (e : Nat), P u → P (forAll ((List.finRange 8).map (fun c => (⟨p, c⟩ : CoreSel))) (fun k s =>
        if s.inBootRun k then
          let c := s.core k
          s.setCore k { c with bootWait := c.bootWait ||| BitVec.ofNat 256 (2 ^ e) }
        else s) u) := by
      intro u e hu
      refine forAll_induct P _ _ hu fun k _ v hv => ?_
      dsimp only
      split
      · exact hboot _ _ _ hv
      · exact hv
    intro fuel
    induction fuel with
    | zero =>
      intro ev t ht
      unfold fireN
      split
      · dsimp only
        have h3 := boots _ ev (conds _ ev (htr _ 3 (p.num * 2 ^ 27 + ev * 2 ^ 16 +
          (obsCount p 3 ev 1 (if t.reg p Reg.trvEvWatch = ev then t.bump p Fd.trvEvWatchCntCount Fd.trvEvWatchCntSat else t)).stamp)
          (hobs _ 3 ev 1 (first t ev ht))))
        have hl := hload _ h3
        refine forAll_induct P _ _ h3 ?_
        intro n hn v hv
        have hn' : n ∈ s.loaded p := hl ▸ hn
        have h1 : P (if isSummit n || decide (ev = Ev.bootDone) then v else v.setTask p n { v.task p n with wait := (v.task p n).wait ||| BitVec.ofNat 256 (2 ^ ev) }) := by
          split
          · exact hv
          · next hs => exact hwait _ _ _ hn' (by simp only [Bool.or_eq_true, not_or, Bool.not_eq_true] at hs; exact hs.1) hv
        generalize (if isSummit n || decide (ev = Ev.bootDone) then v else v.setTask p n { v.task p n with wait := (v.task p n).wait ||| BitVec.ofNat 256 (2 ^ ev) }) = w at h1 ⊢
        split
        · exact h1
        · split
          · split
            · exact hmon _ _ _ _ hn' h1
            · exact hpend w n ev hn' h1
          · split
            · exact hovr _ _ hn' h1
            · exact hpend w n ev hn' h1
      · exact ht
    | succ fuel ih =>
      intro ev t ht
      unfold fireN
      split
      · dsimp only
        have h3 := boots _ ev (conds _ ev (htr _ 3 (p.num * 2 ^ 27 + ev * 2 ^ 16 +
          (obsCount p 3 ev 1 (if t.reg p Reg.trvEvWatch = ev then t.bump p Fd.trvEvWatchCntCount Fd.trvEvWatchCntSat else t)).stamp)
          (hobs _ 3 ev 1 (first t ev ht))))
        have hl := hload _ h3
        refine forAll_induct P _ _ h3 ?_
        intro n hn v hv
        have hn' : n ∈ s.loaded p := hl ▸ hn
        have h1 : P (if isSummit n || decide (ev = Ev.bootDone) then v else v.setTask p n { v.task p n with wait := (v.task p n).wait ||| BitVec.ofNat 256 (2 ^ ev) }) := by
          split
          · exact hv
          · next hs => exact hwait _ _ _ hn' (by simp only [Bool.or_eq_true, not_or, Bool.not_eq_true] at hs; exact hs.1) hv
        generalize (if isSummit n || decide (ev = Ev.bootDone) then v else v.setTask p n { v.task p n with wait := (v.task p n).wait ||| BitVec.ofNat 256 (2 ^ ev) }) = w at h1 ⊢
        split
        · exact h1
        · split
          · split
            · exact ih _ _ (hmon _ _ _ _ hn' h1)
            · exact hpend w n ev hn' h1
          · split
            · exact ih _ _ (hovr _ _ hn' h1)
            · exact hpend w n ev hn' h1
      · exact ht
  exact main fuel ev s h

theorem loaded_of_frame (q : PeakId) (h : RegFrame eventMask s t) : t.loaded q = s.loaded q := by
  unfold State.loaded
  refine List.filter_congr fun n hn => ?_
  have h70 := taskNumbers_lt hn
  refine h.bit q (by simp only [Fd.trvTaskStatLoaded, Reg.trvTaskStat]; omega) ?_
  simp only [Fd.trvTaskStatLoaded]
  rw [eventMask_taskStat h70]
  decide

theorem fireN_frame (fuel : Nat) (p : PeakId) (ev : Nat) (h : RegFrame eventMask s t) : RegFrame eventMask s (fireN fuel p ev t) := by
  refine h.trans ?_
  refine fireN_induct (RegFrame eventMask t) p t (RegFrame.refl _ t) ?_ (fun v _ _ _ hv => obsCount_frame p _ _ _ hv) (fun v _ _ hv => tracePut_frame p _ _ hv)
    (fun v _ _ _ hv => talusTrigger_frame p _ _ _ hv) (fun v _ _ hv => hv.of_regs rfl) (fun v _ _ _ _ hv => hv.of_regs rfl)
    (fun v n _ _ hn hv => monitorMark_frame p _ _ (loaded_lt hn) hv)
    (fun v n _ hn hv => (setTaskStat_frame hv p 1 (loaded_lt hn) (Or.inl rfl)).of_regs rfl)
    (fun v n hn hv => RegFrame.setFld (bumpOverruns_frame hv p (loaded_lt hn)) p 1 (le_lit rfl) (le_lit rfl) (le_lit rfl) (inMask eventMask_trvFlags (by decide)))
    (fun v hv => loaded_of_frame p hv) fuel ev
  intro v hv
  exact RegFrame.bump hv p (le_lit rfl) (le_lit rfl) (le_lit rfl) (inMask eventMask_trvEvWatchCnt (by decide)) (le_lit rfl) (le_lit rfl)
    (le_lit rfl) (inMask eventMask_trvEvWatchCnt (by decide))

/-- An event changes registers within `eventMask` only. -/
theorem fire_frame (p : PeakId) (ev : Nat) (h : RegFrame eventMask s t) : RegFrame eventMask s (fire p ev t) := fireN_frame 2 p ev h

theorem fireBoth_frame (ev : Nat) (h : RegFrame eventMask s t) : RegFrame eventMask s (fireBoth ev t) := fire_frame .b ev (fire_frame .a ev h)

theorem monitorViolation_frame (p : PeakId) {n : Nat} (kind cycle : Nat) (hn : n < 0x70) (h : RegFrame eventMask s t) :
    RegFrame eventMask s (monitorViolation p n kind cycle t) := fire_frame p _ (monitorMark_frame p kind cycle hn h)

theorem eventsAnd_or (own : List (Nat × Nat)) {a i : Nat} (h : (eventsAnd own a).testBit i = false) : (eventMask a).testBit i = false := by
  unfold eventsAnd at h
  rw [Nat.testBit_or, Bool.or_eq_false_iff] at h
  exact h.1

/-- A larger mask: events beside the statement's own registers. -/
theorem RegFrame.events (own : List (Nat × Nat)) (h : RegFrame eventMask s t) : RegFrame (eventsAnd own) s t :=
  h.mono fun _ _ => eventsAnd_or own

/-- An event leaves what is loaded. -/
theorem fire_loaded (p q : PeakId) (ev : Nat) : (fire p ev s).loaded q = s.loaded q := loaded_of_frame q (fire_frame p ev (RegFrame.refl _ s))

/-- What of a task an event may change: its wait latches and its latched start. -/
def TaskKept (a b : Task) : Prop := { b with wait := a.wait, latchEv := a.latchEv, latchTick := a.latchTick, latchLate := a.latchLate } = a

/-- An event changes the wait latches and the latched start of loaded tasks of its Peak, and nothing else of any task. -/
theorem fire_task (p : PeakId) (ev : Nat) (q : PeakId) (n : Nat) (hn : n < 0x100) :
    TaskKept (s.task q n) ((fire p ev s).task q n) ∧ (¬(q = p ∧ n ∈ s.loaded p) → (fire p ev s).task q n = s.task q n) := by
  let P := fun v : State => RegFrame eventMask s v ∧ TaskKept (s.task q n) (v.task q n) ∧ (¬(q = p ∧ n ∈ s.loaded p) → v.task q n = s.task q n)
  have same : ∀ u v : State, P u → RegFrame eventMask s v → v.task q n = u.task q n → P v := by
    intro u v hu hv he
    refine ⟨hv, ?_, ?_⟩
    · rw [he]; exact hu.2.1
    · rw [he]; exact hu.2.2
  have put : ∀ (v : State) (m : Nat) (k : Task), m ∈ s.loaded p → P v → RegFrame eventMask s (v.setTask p m k) → TaskKept (v.task p m) k → P (v.setTask p m k) := by
    intro v m k hm hv hf hk
    have hm' := loaded_lt hm
    by_cases he : q = p ∧ n = m
    · obtain ⟨rfl, rfl⟩ := he
      refine ⟨hf, ?_, fun h => absurd ⟨rfl, hm⟩ h⟩
      rw [State.task_setTask_same]
      have h1 := hv.2.1
      unfold TaskKept at h1 hk ⊢
      rw [← h1, ← hk]
    · refine same v _ hv hf (State.task_setTask_ne _ _ ?_)
      unfold taskKey
      intro hh
      apply he
      cases p <;> cases q <;> simp only [PeakId.num] at hh <;> first | exact ⟨rfl, by omega⟩ | omega
  have h := fireN_induct P p s ⟨RegFrame.refl _ s, rfl, fun _ => rfl⟩
    (fun v hv => same v _ hv (RegFrame.bump hv.1 p (le_lit rfl) (le_lit rfl) (le_lit rfl) (inMask eventMask_trvEvWatchCnt (by decide)) (le_lit rfl) (le_lit rfl)
      (le_lit rfl) (inMask eventMask_trvEvWatchCnt (by decide))) (by simp))
    (fun v _ _ _ hv => same v _ hv (obsCount_frame p _ _ _ hv.1) (obsCount_task ..))
    (fun v _ _ hv => same v _ hv (tracePut_frame p _ _ hv.1) (tracePut_task ..))
    (fun v _ _ _ hv => same v _ hv (talusTrigger_frame p _ _ _ hv.1) (talusTrigger_task ..))
    (fun v _ _ hv => same v _ hv (hv.1.of_regs rfl) (State.task_setCore ..))
    (fun v m w hm _ hv => put v m _ hm hv (hv.1.of_regs rfl) rfl)
    (fun v m _ _ hm hv => same v _ hv (monitorMark_frame p _ _ (loaded_lt hm) hv.1) (monitorMark_task ..))
    (fun v m e hm hv => by
      have hf := setTaskStat_frame hv.1 p 1 (loaded_lt hm) (Or.inl rfl) (n := m) (b := 1)
      have h1 : P (v.setFld p (Fd.trvTaskStatPending m) 1) := same v _ hv hf (State.task_setFld ..)
      refine put _ m _ hm h1 (hf.of_regs rfl) ?_
      rw [State.task_setFld]
      exact rfl)
    (fun v m hm hv => same v _ hv (RegFrame.setFld (bumpOverruns_frame hv.1 p (loaded_lt hm)) p 1 (le_lit rfl) (le_lit rfl) (le_lit rfl)
      (inMask eventMask_trvFlags (by decide))) (by simp [State.raise]))
    (fun v hv => loaded_of_frame p hv.1) 2 ev
  exact h.2

/-- What of a core an event may change: the events that its boot run waits for. -/
def CoreKept (a b : Core) : Prop := { b with bootWait := a.bootWait } = a

theorem CoreKept.refl (a : Core) : CoreKept a a := rfl

theorem CoreKept.bootWait {a b : Core} (h : CoreKept a b) (w : BitVec 256) : CoreKept a { b with bootWait := w } := h

theorem CoreKept.setCore {a : Core} {j : CoreSel} {v : State} (h : CoreKept a (v.core j)) (k : CoreSel) (w : BitVec 256) :
    CoreKept a ((v.setCore k { v.core k with bootWait := w }).core j) := by
  rw [State.core_setCore]
  split
  · next hk =>
    subst hk
    exact h.bootWait w
  · exact h

theorem core_of_cores (e : u.cores = t.cores) (j : CoreSel) : u.core j = t.core j := by
  unfold State.core
  rw [e]

theorem eventParts_cores (p : PeakId) (v : State) :
    (∀ a b c, (obsCount p a b c v).cores = v.cores) ∧ (∀ a b, (tracePut p a b v).cores = v.cores) ∧
    (∀ a b c, (talusTrigger p a b c v).cores = v.cores) ∧ (∀ a b c, (monitorMark p a b c v).cores = v.cores) :=
  ⟨fun _ _ _ => (obsCount_upd (Upd.refl 35184372088833 v) (by decide)).cores (by decide), fun _ _ => (tracePut_upd (Upd.refl 211106232532993 v) (by decide)).cores (by decide),
    fun _ _ _ => (talusTrigger_upd (Upd.refl 2199023255553 v) (by decide)).cores (by decide),
    fun _ _ _ => (monitorMark_upd (Upd.refl 211140592271361 v) (by decide)).cores (by decide)⟩

/-- Of the cores an event may change what the boot runs wait for, and nothing else. -/
theorem fire_core (p : PeakId) (ev : Nat) (j : CoreSel) : CoreKept (s.core j) ((fire p ev s).core j) := by
  let P := fun v : State => RegFrame eventMask s v ∧ CoreKept (s.core j) (v.core j)
  have same : ∀ u v : State, P u → RegFrame eventMask s v → v.cores = u.cores → P v := fun u v hu hv he => ⟨hv, by rw [core_of_cores he]; exact hu.2⟩
  have h := fireN_induct P p s ⟨RegFrame.refl _ s, CoreKept.refl _⟩
    (fun v hv => same v _ hv (RegFrame.bump hv.1 p (le_lit rfl) (le_lit rfl) (le_lit rfl) (inMask eventMask_trvEvWatchCnt (by decide)) (le_lit rfl) (le_lit rfl)
      (le_lit rfl) (inMask eventMask_trvEvWatchCnt (by decide))) (State.bump_cores ..))
    (fun v _ _ _ hv => same v _ hv (obsCount_frame p _ _ _ hv.1) ((eventParts_cores p v).1 ..))
    (fun v _ _ hv => same v _ hv (tracePut_frame p _ _ hv.1) ((eventParts_cores p v).2.1 ..))
    (fun v _ _ _ hv => same v _ hv (talusTrigger_frame p _ _ _ hv.1) ((eventParts_cores p v).2.2.1 ..))
    (fun v k w hv => ⟨hv.1.of_regs rfl, hv.2.setCore k w⟩)
    (fun v m w _ _ hv => same v _ hv (hv.1.of_regs rfl) (State.setTask_cores ..))
    (fun v m _ _ hm' hv => same v _ hv (monitorMark_frame p _ _ (loaded_lt hm') hv.1) ((eventParts_cores p v).2.2.2 ..))
    (fun v m e hm' hv => same v _ hv ((setTaskStat_frame hv.1 p 1 (loaded_lt hm') (Or.inl rfl)).of_regs rfl)
      ((State.setTask_cores ..).trans (State.setFld_cores ..)))
    (fun v m hm' hv => same v _ hv (RegFrame.setFld (bumpOverruns_frame hv.1 p (loaded_lt hm')) p 1 (le_lit rfl) (le_lit rfl) (le_lit rfl)
      (inMask eventMask_trvFlags (by decide))) ((State.raise_cores ..).trans (State.bump_cores ..)))
    (fun v hv => loaded_of_frame p hv.1) 2 ev
  exact h.2

end Sys2Proof.Machine
end

