-- ==== Sys2Proof/Laws/Switches.lean ====
section
/-! SUPPORT. Which register bits the pairs, the legs and the trip matrix may change, and that a pair under an OFF action has both switches off. -/

namespace Sys2Proof.Machine

variable {M N : Nat → Nat} {s t u : State}

theorem RegFrame.left (N : Nat → Nat) (h : RegFrame M s t) : RegFrame (fun a => M a ||| N a) s t := h.mono fun a i hi => by
  rw [Nat.testBit_or, Bool.or_eq_false_iff] at hi
  exact hi.1

theorem RegFrame.right (N : Nat → Nat) (h : RegFrame M s t) : RegFrame (fun a => N a ||| M a) s t := h.mono fun a i hi => by
  rw [Nat.testBit_or, Bool.or_eq_false_iff] at hi
  exact hi.2

theorem regs_saddle (v : State) (x : Saddle) : State.regs { v with saddle := x } = v.regs := rfl

theorem eventMask_or (own : List (Nat × Nat)) {a i : Nat} (h : (switchesAnd own a).testBit i = false) :
    (eventMask a).testBit i = false ∧ (pairMask a).testBit i = false ∧ (legMask a).testBit i = false ∧ (onlyRegs own a).testBit i = false := by
  unfold switchesAnd at h
  simp only [Nat.testBit_or, Bool.or_eq_false_iff] at h
  exact ⟨h.1.1.1, h.1.1.2, h.1.2, h.2⟩

theorem RegFrame.eventsSw (own : List (Nat × Nat)) (h : RegFrame eventMask s t) : RegFrame (switchesAnd own) s t := h.mono fun _ _ hi => (eventMask_or own hi).1
theorem RegFrame.pairsSw (own : List (Nat × Nat)) (h : RegFrame pairMask s t) : RegFrame (switchesAnd own) s t := h.mono fun _ _ hi => (eventMask_or own hi).2.1
theorem RegFrame.legsSw (own : List (Nat × Nat)) (h : RegFrame legMask s t) : RegFrame (switchesAnd own) s t := h.mono fun _ _ hi => (eventMask_or own hi).2.2.1
theorem RegFrame.ownSw (own : List (Nat × Nat)) (h : RegFrame (onlyRegs own) s t) : RegFrame (switchesAnd own) s t := h.mono fun _ _ hi => (eventMask_or own hi).2.2.2

/-! ### Pairs -/

theorem pairMask_pairStatus {n : Nat} (h : n < 32) : pairMask (Reg.pwmPairStatus n) = 0x38 := by
  unfold pairMask
  repeat first
    | rw [if_pos (by simp only [Reg.pwmPairStatus, Reg.pwmStatus, Reg.tripPairs, Reg.tripFlags]; omega)]
    | rw [if_neg (by simp only [Reg.pwmPairStatus, Reg.pwmStatus, Reg.tripPairs, Reg.tripFlags]; omega)]

theorem pairMask_pwmStatus : pairMask Reg.pwmStatus = 0x3FFFF := rfl
theorem pairMask_tripFlags : pairMask Reg.tripFlags = 0x4 := rfl
theorem pairMask_tripPairs : pairMask Reg.tripPairs = 0xFFFFFFFF := rfl

theorem setTripAct_frame (h : RegFrame pairMask s t) {n : Nat} (v : Nat) (hn : n < 32) : RegFrame pairMask s (t.setFld .a (Fd.pwmPairStatusTripAct n) v) :=
  h.setFld .a v (le_lit rfl) (le_lit rfl) (by simp only [Fd.pwmPairStatusTripAct, Reg.pwmPairStatus]; omega)
    (inMask (pairMask_pairStatus hn) (by simp only [Fd.pwmPairStatusTripAct]; decide))

theorem setTripped_frame (h : RegFrame pairMask s t) {n : Nat} (v : Nat) (hn : n < 32) : RegFrame pairMask s (t.setFld .a (Fd.pwmPairStatusTripped n) v) :=
  h.setFld .a v (le_lit rfl) (le_lit rfl) (by simp only [Fd.pwmPairStatusTripped, Reg.pwmPairStatus]; omega)
    (inMask (pairMask_pairStatus hn) (by simp only [Fd.pwmPairStatusTripped]; decide))

theorem pairDrive_frame (p : Nat) (a b : Bool) (w : Nat) (h : RegFrame M s t) : RegFrame M s (pairDrive p a b w t) := h.of_regs (State.setPair_regs ..)

theorem setPair_frame (p : Nat) (q : Pair) (h : RegFrame M s t) : RegFrame M s (t.setPair p q) := h.of_regs (State.setPair_regs ..)

theorem pairDecide_frame {p : Nat} (hp : p < 32) (h : RegFrame pairMask s t) : RegFrame pairMask s (pairDecide p t) := by
  unfold pairDecide
  dsimp only
  split
  · split
    · exact pairDrive_frame _ _ _ _ (setPair_frame _ _ (setTripped_frame (setTripAct_frame h _ hp) _ hp))
    · split
      · have h1 := pairDrive_frame p false false t.now64 (setPair_frame p
          { ((t.setFld .a (Fd.pwmPairStatusTripAct p) 0).setFld .a (Fd.pwmPairStatusTripped p) 0).pair p with leaving := false }
          (setTripped_frame (setTripAct_frame h 0 hp) 0 hp))
        split
        · split
          · exact setPair_frame _ _ h
          · exact h1
        · exact h1
      · exact pairDrive_frame _ _ _ _ h
  · exact h

theorem pwmRefresh_frame (h : RegFrame pairMask s t) : RegFrame pairMask s (pwmRefresh t) := by
  unfold pwmRefresh State.setBit
  dsimp only
  refine RegFrame.setReg (RegFrame.setFld (RegFrame.setFld (RegFrame.setFld (RegFrame.setFld h .a _ (le_lit rfl) (le_lit rfl) (le_lit rfl)
    (inMask pairMask_pwmStatus (by decide))) .a _ (le_lit rfl) (le_lit rfl) (le_lit rfl) (inMask pairMask_pwmStatus (by decide))) .a _ (le_lit rfl)
    (le_lit rfl) (le_lit rfl) (inMask pairMask_pwmStatus (by decide))) .a _ (le_lit rfl) (le_lit rfl) (le_lit rfl)
    (inMask pairMask_pwmStatus (by decide))) .a _ (le_lit rfl) fun i hi => ?_
  rw [pairMask_tripPairs, show 0xFFFFFFFF = 2 ^ 32 - 1 from rfl, Nat.testBit_two_pow_sub_one]
  exact decide_eq_true hi

theorem pairsDecide_frame (h : RegFrame pairMask s t) : RegFrame pairMask s (pairsDecide t) := by
  unfold pairsDecide
  dsimp only
  refine pwmRefresh_frame (RegFrame.forAll _ _ ?_ fun p hp v hv => pairDecide_frame (List.mem_range.mp hp) hv)
  split
  · exact RegFrame.setFld h .a _ (le_lit rfl) (le_lit rfl) (le_lit rfl) (inMask pairMask_tripFlags (by decide))
  · exact h

/-! ### Legs -/

theorem legMask_ctrl {n : Nat} (h : n < 6) : legMask (Reg.spurLegCtrl n) = 1 := by
  unfold legMask
  repeat first
    | rw [if_pos (by simp only [Reg.spurLegCtrl, Reg.spurStatus, Reg.spurFlags]; omega)]
    | rw [if_neg (by simp only [Reg.spurLegCtrl, Reg.spurStatus, Reg.spurFlags]; omega)]

theorem legMask_status {n : Nat} (h : n < 6) : legMask (Reg.spurLegStatus n) = 0x61 := by
  unfold legMask
  repeat first
    | rw [if_pos (by simp only [Reg.spurLegStatus, Reg.spurStatus, Reg.spurFlags]; omega)]
    | rw [if_neg (by simp only [Reg.spurLegStatus, Reg.spurStatus, Reg.spurFlags]; omega)]

theorem legMask_spurStatus : legMask Reg.spurStatus = 0x3003F := rfl
theorem legMask_spurFlags : legMask Reg.spurFlags = 0x40 := rfl

theorem legNumbers_lt {n : Nat} (h : n ∈ legNumbers) : n < 6 := List.mem_range.mp h

theorem setLegEn_frame (h : RegFrame legMask s t) {n : Nat} (v : Nat) (hn : n < 6) : RegFrame legMask s (t.setFld .a (Fd.spurLegCtrlEn n) v) :=
  h.setFld .a v (le_lit rfl) (le_lit rfl) (by simp only [Fd.spurLegCtrlEn, Reg.spurLegCtrl]; omega)
    (inMask (legMask_ctrl hn) (by simp only [Fd.spurLegCtrlEn]; decide))

theorem setLegStatus_frame (h : RegFrame legMask s t) {n b : Nat} (v : Nat) (hn : n < 6) (hb : b = 0 ∨ b = 5 ∨ b = 6) :
    RegFrame legMask s (t.setFld .a ⟨Reg.spurLegStatus n, b, b⟩ v) := by
  refine h.setFld .a v (le_refl _) ?_ ?_ ?_
  · simp only; omega
  · simp only [Reg.spurLegStatus]; omega
  · rcases hb with rfl | rfl | rfl <;> exact inMask (legMask_status hn) (by simp only; decide)

theorem setSpurStatus_frame (h : RegFrame legMask s t) (f : Fld) (v : Nat) (hf : f ∈ [Fd.spurStatusEnabled, Fd.spurStatusAscActive, Fd.spurStatusAllOff]) :
    RegFrame legMask s (t.setFld .a f v) := by
  simp only [List.mem_cons, List.not_mem_nil, or_false] at hf
  rcases hf with rfl | rfl | rfl <;>
    exact h.setFld .a v (le_lit rfl) (le_lit rfl) (le_lit rfl) (inMask legMask_spurStatus (by decide))

theorem setLeg_frame (n : Nat) (q : Leg) (h : RegFrame M s t) : RegFrame M s (t.setLeg n q) := h.of_regs (State.setLeg_regs ..)

theorem legDrive_frame (n : Nat) (a b : Bool) (h : RegFrame M s t) : RegFrame M s (legDrive n a b t) := by
  unfold legDrive
  exact setLeg_frame _ _ h

theorem legDecide_frame {n : Nat} (hn : n < 6) (h : RegFrame legMask s t) : RegFrame legMask s (legDecide n t) := by
  unfold legDecide
  dsimp only
  split
  · split
    · exact legDrive_frame _ _ _ h
    · split
      · split <;> exact legDrive_frame _ _ _ h
      · split
        · exact legDrive_frame _ _ _ h
        · split
          · exact legDrive_frame _ _ _ (setLeg_frame _ _ (setLegStatus_frame h 1 hn (Or.inr (Or.inl rfl))))
          · have h1 := setLegStatus_frame h 0 hn (Or.inr (Or.inl rfl))
            split
            · exact h1
            · exact legDrive_frame _ _ _ h1
  · exact h

theorem legsDecide_frame (h : RegFrame legMask s t) : RegFrame legMask s (legsDecide t) :=
  RegFrame.forAll _ _ h fun _ hn _ hv => legDecide_frame (legNumbers_lt hn) hv

theorem legOff_frame {n : Nat} (hn : n < 6) (h : RegFrame legMask s t) : RegFrame legMask s (legOff n t) := by
  unfold legOff
  dsimp only
  refine setLeg_frame _ _ (setLegStatus_frame ?_ 0 hn (Or.inl rfl))
  unfold setBitOf
  exact setSpurStatus_frame (setLegEn_frame h 0 hn) Fd.spurStatusEnabled _ (by simp)

theorem ascAllOff_frame (h : RegFrame legMask s t) : RegFrame legMask s (ascAllOff t) := by
  unfold ascAllOff
  exact RegFrame.setFld (setSpurStatus_frame (setSpurStatus_frame h Fd.spurStatusAscActive _ (by simp)) Fd.spurStatusAllOff _ (by simp)) .a _ (le_lit rfl) (le_lit rfl) (le_lit rfl)
    (inMask legMask_spurFlags (by decide))

theorem ascSide_frame (b : Bool) (h : RegFrame legMask s t) : RegFrame legMask s (ascSide b t) := by
  unfold ascSide
  exact (setSpurStatus_frame h Fd.spurStatusAscActive 1 (by simp)).of_regs (regs_saddle _ _)

theorem ascEnter_frame (h : RegFrame legMask s t) : RegFrame legMask s (ascEnter t) := by
  unfold ascEnter
  dsimp only
  split
  · exact h
  · refine legsDecide_frame ?_
    have h1 := RegFrame.forAll (legNumbers.filter (inGroup t)) (fun n s => (legOff n s).setFld .a (Fd.spurLegStatusInAsc n) 1) h
      fun n hn v hv => setLegStatus_frame (legOff_frame (legNumbers_lt (List.mem_filter.mp hn).1) hv) 1 (legNumbers_lt (List.mem_filter.mp hn).1)
        (Or.inr (Or.inr rfl))
    generalize forAll (legNumbers.filter (inGroup t)) (fun n s => (legOff n s).setFld .a (Fd.spurLegStatusInAsc n) 1) t = w at h1 ⊢
    split
    · exact ascAllOff_frame h1
    · exact ascSide_frame _ h1

theorem ascFault_frame (b : Bool) (h : RegFrame legMask s t) : RegFrame legMask s (ascFault b t) := by
  unfold ascFault
  split
  · refine legsDecide_frame ?_
    split
    · exact ascAllOff_frame h
    · exact ascSide_frame _ h
  · exact h

theorem ascEnd_frame (h : RegFrame legMask s t) : RegFrame legMask s (ascEnd t) := by
  unfold ascEnd
  dsimp only
  refine RegFrame.forAll _ _ (setSpurStatus_frame (setSpurStatus_frame h Fd.spurStatusAscActive _ (by simp)) Fd.spurStatusAllOff _ (by simp)) fun n hn v hv => ?_
  have hn := legNumbers_lt hn
  split
  · exact legDecide_frame hn (setLegStatus_frame (legOff_frame hn hv) 0 hn (Or.inr (Or.inr rfl)))
  · exact hv

theorem legsSources_frame (h : RegFrame legMask s t) : RegFrame legMask s (legsSources t) := by
  unfold legsSources
  dsimp only
  refine legsDecide_frame ?_
  split
  · exact ascEnter_frame h
  · exact h

/-! ### The trip matrix -/

theorem onlyRegs_count {src : Nat} (h : src < 12) : onlyRegs (sourceRegs src) (Reg.tripSrcCount src) = 0x1FFFF := by
  unfold onlyRegs sourceRegs
  have : ∀ a : Nat, a < 0x40070100 → (a == Reg.tripSrcCount src) = false := fun a ha => by
    simp only [Reg.tripSrcCount, beq_eq_false_iff_ne]; omega
  simp only [List.find?_cons]
  rw [this _ (le_lit rfl), this _ (le_lit rfl), this _ (le_lit rfl), this _ (le_lit rfl)]
  simp

/-- A source changes the trip registers, and what the pairs and the event make of them. -/
theorem sourceSet_frame {src : Nat} (on : Bool) (hs : src < 12) : RegFrame (switchesAnd (sourceRegs src)) s (sourceSet src on s) := by
  have own : ∀ {v : State} (f : Fld) (x m : Nat), f.lo ≤ f.hi → f.hi < 32 → f.addr < 2 ^ 32 → onlyRegs (sourceRegs src) f.addr = m →
      (∀ i ∈ List.range (f.hi + 1), f.lo ≤ i → m.testBit i = true) → RegFrame (onlyRegs (sourceRegs src)) s v →
      RegFrame (onlyRegs (sourceRegs src)) s (v.setFld .a f x) := fun f x m h1 h2 h3 hm hb hv => hv.setFld .a x h1 h2 h3 (inMask hm hb)
  have hcount := onlyRegs_count hs
  have hstat : onlyRegs (sourceRegs src) Reg.tripStatus = 0x0FFF0FFF := rfl
  have hflags : onlyRegs (sourceRegs src) Reg.tripFlags = 0x8 := rfl
  have hfirst : onlyRegs (sourceRegs src) Reg.tripFirst = 0x80000FFF := rfl
  have hns : onlyRegs (sourceRegs src) Reg.tripFirstNs = 0xFFFFFFFF := rfl
  have active : ∀ {v : State} (x : Nat), RegFrame (onlyRegs (sourceRegs src)) s v → RegFrame (onlyRegs (sourceRegs src)) s (v.setFld .a Fd.tripStatusActive x) :=
    fun x hv => own _ x _ (le_lit rfl) (le_lit rfl) (le_lit rfl) hstat (by decide) hv
  unfold sourceSet setBitOf State.raise
  dsimp only
  split
  · exact RegFrame.refl _ s
  · split
    · have h0 := active (putBits (s.fld .a Fd.tripStatusActive) src src (if true = true then 1 else 0)) (RegFrame.refl _ s)
      generalize s.setFld .a Fd.tripStatusActive (putBits (s.fld .a Fd.tripStatusActive) src src (if true = true then 1 else 0)) = v0 at h0 ⊢
      have h1 : RegFrame (onlyRegs (sourceRegs src)) s (if v0.bit .a (Fd.tripSrcCfgLatch src) = true then
          v0.setFld .a Fd.tripStatusLatched (putBits (v0.fld .a Fd.tripStatusLatched) src src (if true = true then 1 else 0)) else v0) := by
        split
        · exact own _ _ _ (le_lit rfl) (le_lit rfl) (le_lit rfl) hstat (by decide) h0
        · exact h0
      generalize (if v0.bit .a (Fd.tripSrcCfgLatch src) = true then
          v0.setFld .a Fd.tripStatusLatched (putBits (v0.fld .a Fd.tripStatusLatched) src src (if true = true then 1 else 0)) else v0) = v1 at h1 ⊢
      have ha : Reg.tripSrcCount src < 2 ^ 32 := by simp only [Reg.tripSrcCount]; omega
      have h2 : RegFrame (onlyRegs (sourceRegs src)) s (v1.bump .a (Fd.tripSrcCountCount src) (Fd.tripSrcCountSat src)) :=
        h1.bump .a (le_lit rfl) (le_lit rfl) ha (inMask hcount (by simp only [Fd.tripSrcCountCount]; decide)) (le_lit rfl) (le_lit rfl) ha
          (inMask hcount (by simp only [Fd.tripSrcCountSat]; decide))
      generalize v1.bump .a (Fd.tripSrcCountCount src) (Fd.tripSrcCountSat src) = v2 at h2 ⊢
      have h3 := own Fd.tripFlagsTripped 1 _ (le_lit rfl) (le_lit rfl) (le_lit rfl) hflags (by decide) h2
      generalize v2.setFld .a Fd.tripFlagsTripped 1 = v3 at h3 ⊢
      have h4 : RegFrame (onlyRegs (sourceRegs src)) s (if v3.bit .a Fd.tripFirstValid = true then
          if v3.saddle.firstTick = v3.tick then v3.setFld .a Fd.tripFirstSrc (putBits (v3.fld .a Fd.tripFirstSrc) src src (if true = true then 1 else 0))
          else v3
        else
          let w := ((v3.setFld .a Fd.tripFirstValid 1).setFld .a Fd.tripFirstSrc (2 ^ src)).setReg .a Reg.tripFirstNs
            (((v3.setFld .a Fd.tripFirstValid 1).setFld .a Fd.tripFirstSrc (2 ^ src)).cairnSlot
              ((v3.setFld .a Fd.tripFirstValid 1).setFld .a Fd.tripFirstSrc (2 ^ src)).tick 1)
          { w with saddle := { w.saddle with firstTick := w.tick } }) := by
        split
        · split
          · exact own _ _ _ (le_lit rfl) (le_lit rfl) (le_lit rfl) hfirst (by decide) h3
          · exact h3
        · dsimp only
          have h5 := own Fd.tripFirstSrc (2 ^ src) _ (le_lit rfl) (le_lit rfl) (le_lit rfl) hfirst (by decide)
            (own Fd.tripFirstValid 1 _ (le_lit rfl) (le_lit rfl) (le_lit rfl) hfirst (by decide) h3)
          generalize (v3.setFld .a Fd.tripFirstValid 1).setFld .a Fd.tripFirstSrc (2 ^ src) = v4 at h5 ⊢
          have h6 : RegFrame (onlyRegs (sourceRegs src)) s (v4.setReg .a Reg.tripFirstNs (v4.cairnSlot v4.tick 1)) := h5.setReg .a _ (le_lit rfl) fun i hi => by
            rw [hns, show 0xFFFFFFFF = 2 ^ 32 - 1 from rfl, Nat.testBit_two_pow_sub_one]
            exact decide_eq_true hi
          exact h6.of_regs (regs_saddle _ _)
      exact (((h4.ownSw _).trans ((tracePut_frame .b _ _ (tracePut_frame .a _ _ (RegFrame.refl _ _))).eventsSw _)).trans
        ((pairsDecide_frame (RegFrame.refl _ _)).pairsSw _)).trans ((fireBoth_frame _ (RegFrame.refl _ _)).eventsSw _)
    · exact ((active _ (RegFrame.refl _ s)).ownSw _).trans ((pairsDecide_frame (RegFrame.refl _ _)).pairsSw _)

/-- A source as it stands at the matrix. -/
theorem sourceIn_frame {src : Nat} (on : Bool) (hs : src < 12) : RegFrame (switchesAnd (sourceRegs src)) s (sourceIn src on s) := by
  unfold sourceIn
  dsimp only
  split
  · have h1 : ∀ m, RegFrame (switchesAnd (sourceRegs src)) s { s with saddle := { s.saddle with trips := m } } := fun m =>
      (RegFrame.refl _ s).of_regs rfl
    exact (h1 _).trans (sourceSet_frame _ hs)
  · exact RegFrame.refl _ s

theorem tripInput_frame {src : Nat} (on : Bool) (hs : src < 12) : RegFrame (switchesAnd (sourceRegs src)) s (tripInput src on s) :=
  (sourceIn_frame on hs).trans ((legsSources_frame (RegFrame.refl _ _)).legsSw _)

/-! ### The switches under a pattern -/

/-- Asked for neither switch, a pair has both off. -/
theorem Pair.drive_off (q : Pair) (w : Nat) : (q.drive false false w).hi = false ∧ (q.drive false false w).lo = false := by
  unfold Pair.drive
  simp

end Sys2Proof.Machine
end

