-- ==== Sys2Proof/Laws/Kernel.lean ====
section
/-! SUPPORT. Which register bits the safety kernel may change as it settles. -/

namespace Sys2Proof.Machine

variable {M N : Nat → Nat} {s t u : State}

theorem kernelMask_block {a : Nat} (h : a / 0x10000 = 0x4012) : kernelMask a = 0xFFFFFFFF := by
  unfold kernelMask
  rw [if_pos h]

theorem testBit_all {i : Nat} (h : i < 32) : (0xFFFFFFFF : Nat).testBit i = true := by
  rw [show 0xFFFFFFFF = 2 ^ 32 - 1 from rfl, Nat.testBit_two_pow_sub_one]
  exact decide_eq_true h

/-- A mask of switches and events within that of the kernel. -/
theorem kernelMask_switches {a i : Nat} (h : (kernelMask a).testBit i = false) :
    (switchesAnd (sourceRegs 10) a).testBit i = false := by
  unfold kernelMask at h
  by_cases h1 : a / 0x10000 = 0x4012
  · rw [if_pos h1] at h
    by_cases hi : i < 32
    · rw [testBit_all hi] at h; cases h
    · have e : switchesAnd (sourceRegs 10) a = 0 := by
        have h2 : eventMask a = 0 := by
          unfold eventMask
          repeat first
            | rw [if_neg (by first | omega | (simp only [Reg.trvStatus, Reg.trvMonCycle, Reg.trvEvWatchCnt, Reg.trvFlags, Reg.trvMon, Reg.obsTrcLost]; omega))]
            | rfl
        have h3 : pairMask a = 0 := by
          unfold pairMask
          repeat first
            | rw [if_neg (by first | omega | (simp only [Reg.pwmStatus, Reg.tripPairs, Reg.tripFlags]; omega))]
            | rfl
        have h4 : legMask a = 0 := by
          unfold legMask
          repeat first
            | rw [if_neg (by first | omega | (simp only [Reg.spurStatus, Reg.spurFlags]; omega))]
            | rfl
        have h5 : onlyRegs (sourceRegs 10) a = 0 := by
          unfold onlyRegs sourceRegs
          have : ∀ b : Nat, b < 0x40120000 → (b == a) = false := fun b hb => by
            simp only [beq_eq_false_iff_ne]; omega
          simp only [List.find?_cons]
          rw [this _ (le_lit rfl), this _ (le_lit rfl), this _ (le_lit rfl), this _ (le_lit rfl), this _ (le_lit rfl)]
          rfl
        unfold switchesAnd
        rw [h2, h3, h4, h5]
        rfl
      rw [e, Nat.zero_testBit]
  · rw [if_neg h1] at h
    by_cases h2 : a = Reg.gdmStatus
    · subst h2
      have e : switchesAnd (sourceRegs 10) Reg.gdmStatus = 0 := rfl
      rw [e, Nat.zero_testBit]
    · rw [if_neg h2] at h
      by_cases h3 : a = Reg.spurFlags
      · subst h3
        rw [if_pos rfl] at h
        have e : switchesAnd (sourceRegs 10) Reg.spurFlags = 0x40 := rfl
        rw [e]
        have e2 : (0x40 : Nat) &&& 0x4C = 0x40 := rfl
        rw [← e2, Nat.testBit_and, h, Bool.and_false]
      · rwa [if_neg h3] at h

theorem RegFrame.kernel (h : RegFrame (switchesAnd (sourceRegs 10)) s t) : RegFrame kernelMask s t := h.mono fun _ _ => kernelMask_switches

/-- A field of the kernel's own block. -/
theorem RegFrame.saf (h : RegFrame kernelMask s t) (p : PeakId) (f : Fld) (v : Nat) (hf : f.lo ≤ f.hi) (h32 : f.hi < 32)
    (hb : f.addr / 0x10000 = 0x4012) : RegFrame kernelMask s (t.setFld p f v) :=
  h.setFld p v hf h32 (by omega) fun i _ hi => by
    rw [kernelMask_block hb]
    exact testBit_all (by omega)

theorem RegFrame.safReg (h : RegFrame kernelMask s t) (p : PeakId) (a v : Nat) (hb : a / 0x10000 = 0x4012) : RegFrame kernelMask s (t.setReg p a v) :=
  h.setReg p v (by omega) fun i hi => by
    rw [kernelMask_block hb]
    exact testBit_all hi

theorem RegFrame.safBump (h : RegFrame kernelMask s t) (p : PeakId) (c f : Fld) (hc : c.lo ≤ c.hi) (hc32 : c.hi < 32) (hcb : c.addr / 0x10000 = 0x4012)
    (hf : f.lo ≤ f.hi) (h32 : f.hi < 32) (hb : f.addr / 0x10000 = 0x4012) : RegFrame kernelMask s (t.bump p c f) := by
  unfold State.bump
  split
  · exact h.saf p f _ hf h32 hb
  · exact h.saf p c _ hc hc32 hcb

/-- The Gendarme window's own registers are no register of the map. -/
theorem RegFrame.setGwFld (h : RegFrame M s t) (f : Fld) (v : Nat) (hf : f.addr < 2 ^ 32) : RegFrame M s (t.setGwFld f v) := by
  intro p a i ha hm
  have : (t.setGwFld f v).reg p a = t.reg p a := by
    unfold State.reg State.setGwFld
    rw [State.regW_setRegW, if_neg]
    have hb : ∀ q : PeakId, regBank q a ≤ 2 := fun q => by
      unfold regBank
      split <;> first | omega | (split <;> first | omega | (cases q <;> decide)) | (cases q <;> decide)
    have hp := hb p
    unfold regKey gwKey
    omega
  rw [this]
  exact h p a i ha hm

theorem gwPend_frame (f : Fld) (hf : f.addr < 2 ^ 32) (h : RegFrame M s t) : RegFrame M s (gwPend f t) := h.setGwFld f 1 hf

/-! ### Operations -/

theorem events_kernel (h : RegFrame eventMask s t) : RegFrame kernelMask s t := (h.eventsSw _).kernel
theorem pairs_kernel (h : RegFrame pairMask s t) : RegFrame kernelMask s t := (h.pairsSw _).kernel
theorem legs_kernel (h : RegFrame legMask s t) : RegFrame kernelMask s t := (h.legsSw _).kernel

theorem kernelMask_spurFlags : kernelMask Reg.spurFlags = 0x4C := rfl
theorem kernelMask_gdmStatus : kernelMask Reg.gdmStatus = 0x10 := rfl

theorem gatesDown_frame (h : RegFrame kernelMask s t) : RegFrame kernelMask s (gatesDown true t) := by
  unfold gatesDown
  dsimp only
  have h1 : RegFrame kernelMask s (t.raise .a (if true = true then Fd.spurFlagsInhibitSeen else Fd.spurFlagsVdrvLoss)) := by
    rw [if_pos rfl]
    exact RegFrame.setFld h .a 1 (le_lit rfl) (le_lit rfl) (le_lit rfl) (inMask kernelMask_spurFlags (by decide))
  refine (h1.trans (legs_kernel (ascEnd_frame (RegFrame.refl _ _)))).trans (legs_kernel ?_)
  exact RegFrame.forAll _ _ (RegFrame.refl _ _) fun n hn v hv => legDrive_frame _ _ _ (legOff_frame (legNumbers_lt hn) hv)

theorem segSet_frame (want : Nat) (h : RegFrame kernelMask s t) : RegFrame kernelMask s (segSet want t) := by
  unfold segSet State.setBit
  dsimp only
  have h1 := h.saf .a Fd.safStatusSeg want (le_lit rfl) (le_lit rfl) rfl
  generalize t.setFld .a Fd.safStatusSeg want = v1 at h1 ⊢
  have h2 : RegFrame kernelMask s (v1.setFld .a Fd.gdmStatusInhibit (if decide (want = 0x1FF) = true then 1 else 0)) :=
    h1.setFld .a _ (le_lit rfl) (le_lit rfl) (le_lit rfl) (inMask kernelMask_gdmStatus (by decide))
  generalize v1.setFld .a Fd.gdmStatusInhibit (if decide (want = 0x1FF) = true then 1 else 0) = v2 at h2 ⊢
  have h3 : RegFrame kernelMask s (forAll (List.range 32) (fun p s =>
      if bits (t.fld .a Fd.safStatusSeg) (p / 4) (p / 4) = 1 ∧ bits want (p / 4) (p / 4) = 0 then s.setPair p { s.pair p with heldLow := true } else s) v2) :=
    RegFrame.forAll _ _ h2 fun p _ v hv => by
      split
      · exact setPair_frame _ _ hv
      · exact hv
  generalize forAll (List.range 32) (fun p s =>
      if bits (t.fld .a Fd.safStatusSeg) (p / 4) (p / 4) = 1 ∧ bits want (p / 4) (p / 4) = 0 then s.setPair p { s.pair p with heldLow := true } else s) v2 = v3 at h3 ⊢
  have h4 : RegFrame kernelMask s (if bits (t.fld .a Fd.safStatusSeg) 8 8 = 0 ∧ bits want 8 8 = 1 then gatesDown true v3 else v3) := by
    split
    · exact gatesDown_frame h3
    · exact h3
  split
  · exact h4
  · exact h4.trans (pairs_kernel (pwmRefresh_frame (RegFrame.refl _ _)))

theorem feedbackAwait_frame (b : Bool) (h : RegFrame M s t) : RegFrame M s (feedbackAwait b t) := by
  unfold feedbackAwait
  dsimp only
  split
  · exact h.of_regs rfl
  · exact h

theorem regs_saf (v : State) (x : Saf) : State.regs { v with saf := x } = v.regs := rfl

theorem safAct_frame (h : RegFrame kernelMask s t) : RegFrame kernelMask s (safAct t) := by
  unfold safAct State.setBit
  dsimp only
  have h1 := segSet_frame (segWant t) h
  generalize segSet (segWant t) t = v1 at h1 ⊢
  have h2 := h1.saf .a Fd.safOutStateSoutOn (soutWant v1) (le_lit rfl) (le_lit rfl) rfl
  generalize v1.setFld .a Fd.safOutStateSoutOn (soutWant v1) = v2 at h2 ⊢
  have h3 : RegFrame kernelMask s { v2 with saf := { v2.saf with offPulse := v2.saf.offPulse &&& BitVec.ofNat 4 (soutWant v1) } } := h2.of_regs (regs_saf _ _)
  generalize ({ v2 with saf := { v2.saf with offPulse := v2.saf.offPulse &&& BitVec.ofNat 4 (soutWant v1) } } : State) = v3 at h3 ⊢
  have h4 : RegFrame kernelMask s (if decide (v1.fld .a Fd.safOutStateSoutOn = 0) = decide (soutWant v1 = 0) then v3 else feedbackAwait (decide (soutWant v1 ≠ 0)) v3) := by
    split
    · exact h3
    · exact feedbackAwait_frame _ h3
  generalize (if decide (v1.fld .a Fd.safOutStateSoutOn = 0) = decide (soutWant v1 = 0) then v3 else feedbackAwait (decide (soutWant v1 ≠ 0)) v3) = v4 at h4 ⊢
  exact (h4.saf .a Fd.safStatusGdmTrip _ (le_lit rfl) (le_lit rfl) rfl).trans (RegFrame.kernel (tripInput_frame _ (by decide)))

theorem safFirst_frame (c f i : Nat) (h : RegFrame kernelMask s t) : RegFrame kernelMask s (safFirst c f i t) := by
  unfold safFirst
  dsimp only
  split
  · split
    · exact (h.saf .a Fd.safFirstFunc _ (le_lit rfl) (le_lit rfl) rfl).saf .a Fd.safFirstInputs _ (le_lit rfl) (le_lit rfl) rfl
    · exact h
  · exact RegFrame.of_regs (((((h.saf .a Fd.safFirstValid _ (le_lit rfl) (le_lit rfl) rfl).saf .a Fd.safFirstCause _ (le_lit rfl) (le_lit rfl) rfl).saf .a
      Fd.safFirstFunc _ (le_lit rfl) (le_lit rfl) rfl).saf .a Fd.safFirstInputs _ (le_lit rfl) (le_lit rfl) rfl).safReg .a Reg.safFirstNs _ rfl) (regs_saf _ _)

theorem setFunc_frame (f v : Nat) (hf : f < 3) (h : RegFrame kernelMask s t) : RegFrame kernelMask s (t.setFld .a (funcFld f) v) :=
  h.saf .a (funcFld f) v (by simp only [funcFld]; omega) (by simp only [funcFld]; omega) (show Reg.safFunc / 0x10000 = 0x4012 from rfl)

theorem funcSettle_frame (extra f : Nat) (hf : f < 3) (r : Nat × State) (h : RegFrame kernelMask s r.2) : RegFrame kernelMask s (funcSettle extra f r).2 := by
  unfold funcSettle
  dsimp only
  split
  · exact h
  · have h1 := setFunc_frame f (funcNext r.2 extra f) hf h
    generalize r.2.setFld .a (funcFld f) (funcNext r.2 extra f) = v1 at h1 ⊢
    split
    · have h2 := (h1.safBump .a Fd.safDemandsCount Fd.safDemandsSat (le_lit rfl) (le_lit rfl) rfl (le_lit rfl) (le_lit rfl) rfl).saf .a Fd.safFlagsDemand 1
        (le_lit rfl) (le_lit rfl) rfl
      split
      · exact h2.trans (events_kernel (fireBoth_frame _ (RegFrame.refl _ _)))
      · exact gwPend_frame _ (le_lit rfl) (h2.trans (events_kernel (fireBoth_frame _ (RegFrame.refl _ _))))
    · exact h1

theorem funcsSettle_frame (c i e : Nat) (h : RegFrame kernelMask s t) : RegFrame kernelMask s (funcsSettle c i e t) := by
  unfold funcsSettle
  dsimp only
  have h1 := funcSettle_frame e 2 (by decide) _ (funcSettle_frame e 1 (by decide) _ (funcSettle_frame e 0 (by decide) (0, t) h))
  split
  · exact h1
  · exact safFirst_frame _ _ _ h1

theorem safRefresh_frame (h : RegFrame kernelMask s t) : RegFrame kernelMask s (safRefresh t) := by
  unfold safRefresh State.setBit
  dsimp only
  exact (((h.saf .a Fd.safStatusTsRun _ (le_lit rfl) (le_lit rfl) rfl).saf .a Fd.safStatusAnySafe _ (le_lit rfl) (le_lit rfl) rfl).saf .a
    Fd.safInStateDemand _ (le_lit rfl) (le_lit rfl) rfl).saf .a Fd.safInStateFault _ (le_lit rfl) (le_lit rfl) rfl

/-- The kernel settles within its mask. -/
theorem safChanged_frame (c i e : Nat) (h : RegFrame kernelMask s t) : RegFrame kernelMask s (safChanged c i e t) := by
  unfold safChanged
  dsimp only
  have h1 := funcsSettle_frame c i e h
  refine safAct_frame (safRefresh_frame ?_)
  split
  · exact h1
  · exact funcsSettle_frame c 0 0 h1

theorem inputFault_frame (n code : Nat) (hn : n < 8) (h : RegFrame kernelMask s t) : RegFrame kernelMask s (inputFault n code t) := by
  unfold inputFault
  dsimp only
  have h1 : RegFrame kernelMask s (if inFault t n = 0 then t.setFld .a (inFaultFld n) code else t) := by
    split
    · exact h.saf .a (inFaultFld n) _ (by simp only [inFaultFld]; omega) (by simp only [inFaultFld]; omega)
        (show Reg.safInFault / 0x10000 = 0x4012 from rfl)
    · exact h
  have h2 := h1.safBump .a Fd.safDiagFaultsCount Fd.safDiagFaultsSat (le_lit rfl) (le_lit rfl) rfl (le_lit rfl) (le_lit rfl) rfl
  refine safChanged_frame _ _ _ (RegFrame.trans ?_ (events_kernel (fireBoth_frame _ (RegFrame.refl _ _))))
  exact (h2.of_regs (regs_saf _ _)).saf .a Fd.safFlagsInputFault 1 (le_lit rfl) (le_lit rfl) rfl

end Sys2Proof.Machine
end

