-- ==== Sys2Proof/Laws/UpdFlags.lean ====
section
/-! SUPPORT. What each operation of Machine/Flags.lean may change. -/

set_option linter.unusedTactic false
set_option linter.unreachableTactic false

namespace Sys2Proof.Machine

theorem foldFlags_upd {M0 : Nat} {s0 : State} {k : CoreSel} {s : State} (hU : Upd M0 s0 s) (hM : 1 ||| M0 = M0) : Upd M0 s0 (foldFlags k s) := by
  refine Upd.step hU ?_ hM
  clear hU hM
  unfold foldFlags
  have h0 := Upd.refl 1 s
  repeat' first | with_reducible assumption | (guard_target =~ (_ ||| _ : Nat) = _; decide) | with_reducible apply State.setReg_upd

end Sys2Proof.Machine
end

