-- ==== Sys2Proof/Laws/UpdTaskRun.lean ====
section
/-! SUPPORT. What each operation of Machine/TaskRun.lean may change. -/

set_option linter.unusedTactic false
set_option linter.unreachableTactic false

namespace Sys2Proof.Machine

theorem unloadTask_upd {M0 : Nat} {s0 : State} {p : PeakId} {n : Nat} {s : State} (hU : Upd M0 s0 s) (hM : 9 ||| M0 = M0) : Upd M0 s0 (unloadTask p n s) := by
  refine Upd.step hU ?_ hM
  clear hU hM
  unfold unloadTask
  have h0 := Upd.refl 9 s
  repeat' first | with_reducible assumption | (guard_target =~ (_ ||| _ : Nat) = _; decide) | (fail_if_no_progress extract_lets +onlyGivenNames x; first | (have hx : Upd 9 s x := (by unfold x; repeat' first | with_reducible assumption | (guard_target =~ (_ ||| _ : Nat) = _; decide) | with_reducible apply State.setFld_upd | with_reducible apply trvRefresh_upd | with_reducible apply State.setTask_upd); try clear_value x) | (have h9 : (x : Peak) = x := rfl; clear h9) | (have h9 : (x : Saddle) = x := rfl; clear h9) | (have h9 : (x : Pair) = x := rfl; clear h9) | (have h9 : (x : Leg) = x := rfl; clear h9) | clear_value x | skip) | with_reducible apply State.setFld_upd | with_reducible apply trvRefresh_upd | with_reducible apply State.setTask_upd

theorem trvDone_upd {M0 : Nat} {s0 : State} {p : PeakId} {n : Nat} {code : Nat} {s : State} (hU : Upd M0 s0 s) (hM : 248532577550349 ||| M0 = M0) : Upd M0 s0 (trvDone p n code s) := by
  refine Upd.step hU ?_ hM
  clear hU hM
  unfold trvDone
  have h0 := Upd.refl 248532577550349 s
  repeat' first | with_reducible assumption | (guard_target =~ (_ ||| _ : Nat) = _; decide) | (fail_if_no_progress extract_lets +onlyGivenNames x; first | (have hx : Upd 248532577550349 s x := (by unfold x; repeat' first | with_reducible assumption | (guard_target =~ (_ ||| _ : Nat) = _; decide) | with_reducible refine Upd.setPeak ?_ ?_ | with_reducible apply State.setFld_upd | with_reducible apply fire_upd | exact PeakUpd.refl _ _ | with_reducible apply PeakUpd.ite | with_reducible apply PeakUpd.lit | exact Or.inl (by decide) | exact Or.inr rfl); try clear_value x) | (have h9 : (x : Peak) = x := rfl; clear h9) | (have h9 : (x : Saddle) = x := rfl; clear h9) | (have h9 : (x : Pair) = x := rfl; clear h9) | (have h9 : (x : Leg) = x := rfl; clear h9) | clear_value x | skip) | with_reducible refine Upd.setPeak ?_ ?_ | with_reducible apply State.setFld_upd | with_reducible apply fire_upd | exact PeakUpd.refl _ _ | with_reducible apply PeakUpd.ite | with_reducible apply PeakUpd.lit | exact Or.inl (by decide) | exact Or.inr rfl

theorem faultUnload_upd {M0 : Nat} {s0 : State} {p : PeakId} {n : Nat} {s : State} (hU : Upd M0 s0 s) (hM : 248532577550349 ||| M0 = M0) : Upd M0 s0 (faultUnload p n s) := by
  refine Upd.step hU ?_ hM
  clear hU hM
  unfold faultUnload
  have h0 := Upd.refl 248532577550349 s
  repeat' first | with_reducible assumption | (guard_target =~ (_ ||| _ : Nat) = _; decide) | with_reducible apply Upd.ite | with_reducible apply unloadTask_upd | with_reducible apply trvDone_upd

theorem mirrorEnd_upd {M0 : Nat} {s0 : State} {p : PeakId} {n : Nat} {s : State} (hU : Upd M0 s0 s) (hM : 16777224 ||| M0 = M0) : Upd M0 s0 (mirrorEnd p n s) := by
  refine Upd.step hU ?_ hM
  clear hU hM
  unfold mirrorEnd
  have h0 := Upd.refl 16777224 s
  repeat' first | with_reducible assumption | (guard_target =~ (_ ||| _ : Nat) = _; decide) | (fail_if_no_progress extract_lets +onlyGivenNames x; first | (have hx : Upd 16777224 s x := (by unfold x; repeat' first | with_reducible assumption | (guard_target =~ (_ ||| _ : Nat) = _; decide) | with_reducible apply Upd.ite | with_reducible apply State.setTask_upd | with_reducible apply Upd.lit | exact rfl | exact SadUpd.refl _ _ | with_reducible apply SadUpd.ite | apply SadUpd.mk | exact fun _ => PeakUpd.refl _ _ | exact Or.inl (by decide) | exact Or.inr rfl); try clear_value x) | (have h9 : (x : Peak) = x := rfl; clear h9) | (have h9 : (x : Saddle) = x := rfl; clear h9) | (have h9 : (x : Pair) = x := rfl; clear h9) | (have h9 : (x : Leg) = x := rfl; clear h9) | clear_value x | skip) | with_reducible apply Upd.ite | with_reducible apply State.setTask_upd | with_reducible apply Upd.lit | exact rfl | exact SadUpd.refl _ _ | with_reducible apply SadUpd.ite | apply SadUpd.mk | exact fun _ => PeakUpd.refl _ _ | exact Or.inl (by decide) | exact Or.inr rfl

theorem endInstance_upd {M0 : Nat} {s0 : State} {k : CoreSel} {s : State} (hU : Upd M0 s0 s) (hM : 248532594327565 ||| M0 = M0) : Upd M0 s0 (endInstance k s) := by
  refine Upd.step hU ?_ hM
  clear hU hM
  unfold endInstance
  have h0 := Upd.refl 248532594327565 s
  repeat' first | with_reducible assumption | (guard_target =~ (_ ||| _ : Nat) = _; decide) | (fail_if_no_progress extract_lets +onlyGivenNames x; first | (have hx : Upd 248532594327565 s x := (by unfold x; repeat' first | with_reducible assumption | (guard_target =~ (_ ||| _ : Nat) = _; decide) | with_reducible apply Upd.ite | with_reducible apply foldFlags_upd | with_reducible apply tracePut_upd | with_reducible apply State.setFld_upd | with_reducible apply fire_upd | with_reducible apply State.bump_upd | with_reducible apply State.setTask_upd | with_reducible apply mirrorEnd_upd | with_reducible apply trvDone_upd | with_reducible apply unloadTask_upd | with_reducible apply State.raise_upd); try clear_value x) | (have h9 : (x : Peak) = x := rfl; clear h9) | (have h9 : (x : Saddle) = x := rfl; clear h9) | (have h9 : (x : Pair) = x := rfl; clear h9) | (have h9 : (x : Leg) = x := rfl; clear h9) | clear_value x | skip) | with_reducible apply Upd.ite | with_reducible apply foldFlags_upd | with_reducible apply tracePut_upd | with_reducible apply State.setFld_upd | with_reducible apply fire_upd | with_reducible apply State.bump_upd | with_reducible apply State.setTask_upd | with_reducible apply mirrorEnd_upd | with_reducible apply trvDone_upd | with_reducible apply unloadTask_upd | with_reducible apply State.raise_upd

theorem coreFault_upd {M0 : Nat} {s0 : State} {k : CoreSel} {code : Nat} {addr : Nat} {s : State} (hU : Upd M0 s0 s) (hM : 248532594327565 ||| M0 = M0) : Upd M0 s0 (coreFault k code addr s) := by
  refine Upd.step hU ?_ hM
  clear hU hM
  unfold coreFault
  have h0 := Upd.refl 248532594327565 s
  repeat' first | with_reducible assumption | (guard_target =~ (_ ||| _ : Nat) = _; decide) | (fail_if_no_progress extract_lets +onlyGivenNames x; first | (have hx : Upd 248532594327565 s x := (by unfold x; repeat' first | with_reducible assumption | (guard_target =~ (_ ||| _ : Nat) = _; decide) | with_reducible apply Upd.ite | with_reducible apply State.setFld_upd | with_reducible apply State.setReg_upd | with_reducible apply State.bump_upd | with_reducible apply tracePut_upd | with_reducible apply fire_upd | with_reducible apply State.setTask_upd | with_reducible apply endInstance_upd | with_reducible apply faultUnload_upd | with_reducible apply State.raise_upd); try clear_value x) | (have h9 : (x : Peak) = x := rfl; clear h9) | (have h9 : (x : Saddle) = x := rfl; clear h9) | (have h9 : (x : Pair) = x := rfl; clear h9) | (have h9 : (x : Leg) = x := rfl; clear h9) | clear_value x | skip) | with_reducible apply Upd.ite | with_reducible apply State.setFld_upd | with_reducible apply State.setReg_upd | with_reducible apply State.bump_upd | with_reducible apply tracePut_upd | with_reducible apply fire_upd | with_reducible apply State.setTask_upd | with_reducible apply endInstance_upd | with_reducible apply faultUnload_upd | with_reducible apply State.raise_upd

theorem issueObs_upd {M0 : Nat} {s0 : State} {k : CoreSel} {u : Use} {s : State} (hU : Upd M0 s0 s) (hM : 35184372088833 ||| M0 = M0) : Upd M0 s0 (issueObs k u s) := by
  refine Upd.step hU ?_ hM
  clear hU hM
  unfold issueObs
  have h0 := Upd.refl 35184372088833 s
  repeat' first | with_reducible assumption | (guard_target =~ (_ ||| _ : Nat) = _; decide) | (fail_if_no_progress extract_lets +onlyGivenNames x; first | (have hx : Upd 35184372088833 s x := (by unfold x; repeat' first | with_reducible assumption | (guard_target =~ (_ ||| _ : Nat) = _; decide) | with_reducible apply obsCount_upd); try clear_value x) | (have h9 : (x : Peak) = x := rfl; clear h9) | (have h9 : (x : Saddle) = x := rfl; clear h9) | (have h9 : (x : Pair) = x := rfl; clear h9) | (have h9 : (x : Leg) = x := rfl; clear h9) | clear_value x | skip) | with_reducible apply obsCount_upd

theorem fetched_upd {M : Nat} {x : State} {k : CoreSel} {len : Nat} {f : State → State} {s : State} (h : Upd M x s) (hf : ∀ t, Upd M x t → Upd M x (f t)) (hM : 248532594327565 ||| M = M) : Upd M x (fetched k len f s) := by
  unfold fetched
  refine Upd.ite (Upd.ite ?_ (hf _ h)) h
  exact coreFault_upd h hM

theorem runCore_upd {M0 : Nat} {s0 : State} {k : CoreSel} {len : Nat} {u : Use} {f : Core → Core} {s : State} (hU : Upd M0 s0 s) (hM : 248532594327565 ||| M0 = M0) : Upd M0 s0 (runCore k len u f s) := by
  refine Upd.step hU ?_ hM
  clear hU hM
  unfold runCore
  have h0 := Upd.refl 248532594327565 s
  repeat' first | with_reducible assumption | (guard_target =~ (_ ||| _ : Nat) = _; decide) | (fail_if_no_progress extract_lets +onlyGivenNames x; first | (have hx : Upd 248532594327565 s x := (by unfold x; repeat' first | with_reducible assumption | (guard_target =~ (_ ||| _ : Nat) = _; decide) | with_reducible refine fetched_upd ?_ (fun _ _ => ?_) ?_ | with_reducible apply issueObs_upd | with_reducible apply State.setCore_upd); try clear_value x) | (have h9 : (x : Peak) = x := rfl; clear h9) | (have h9 : (x : Saddle) = x := rfl; clear h9) | (have h9 : (x : Pair) = x := rfl; clear h9) | (have h9 : (x : Leg) = x := rfl; clear h9) | clear_value x | skip) | with_reducible refine fetched_upd ?_ (fun _ _ => ?_) ?_ | with_reducible apply issueObs_upd | with_reducible apply State.setCore_upd

theorem passCore_upd {M0 : Nat} {s0 : State} {k : CoreSel} {len : Nat} {u : Use} {s : State} (hU : Upd M0 s0 s) (hM : 35184372088837 ||| M0 = M0) : Upd M0 s0 (passCore k len u s) := by
  refine Upd.step hU ?_ hM
  clear hU hM
  unfold passCore
  have h0 := Upd.refl 35184372088837 s
  repeat' first | with_reducible assumption | (guard_target =~ (_ ||| _ : Nat) = _; decide) | (fail_if_no_progress extract_lets +onlyGivenNames x; first | (have hx : Upd 35184372088837 s x := (by unfold x; repeat' first | with_reducible assumption | (guard_target =~ (_ ||| _ : Nat) = _; decide) | with_reducible apply issueObs_upd | with_reducible apply State.setCore_upd); try clear_value x) | (have h9 : (x : Peak) = x := rfl; clear h9) | (have h9 : (x : Saddle) = x := rfl; clear h9) | (have h9 : (x : Pair) = x := rfl; clear h9) | (have h9 : (x : Leg) = x := rfl; clear h9) | clear_value x | skip) | with_reducible apply issueObs_upd | with_reducible apply State.setCore_upd

end Sys2Proof.Machine
end

