-- ==== Sys2Proof/Laws/UpdAlu.lean ====
section
/-! SUPPORT. What each operation of Machine/Alu.lean may change. -/

set_option linter.unusedTactic false
set_option linter.unreachableTactic false

namespace Sys2Proof.Machine

theorem scalarOp_upd {M0 : Nat} {s0 : State} {x : Slot} {d : Fin 32} {reads : List Nat} {lat : Nat} {f : Core → Res} {s : State} (hU : Upd M0 s0 s) (hM : 248532594327565 ||| M0 = M0) : Upd M0 s0 (scalarOp x d reads lat f s) := by
  refine Upd.step hU ?_ hM
  clear hU hM
  unfold scalarOp
  have h0 := Upd.refl 248532594327565 s
  repeat' first | with_reducible assumption | (guard_target =~ (_ ||| _ : Nat) = _; decide) | with_reducible apply Upd.ite | with_reducible apply runCore_upd

theorem longOp_upd {M0 : Nat} {s0 : State} {x : Slot} {d : Fin 32} {reads : List Nat} {lat : Nat} {f : Core → Res} {s : State} (hU : Upd M0 s0 s) (hM : 248532594327565 ||| M0 = M0) : Upd M0 s0 (longOp x d reads lat f s) := by
  refine Upd.step hU ?_ hM
  clear hU hM
  unfold longOp
  have h0 := Upd.refl 248532594327565 s
  repeat' first | with_reducible assumption | (guard_target =~ (_ ||| _ : Nat) = _; decide) | with_reducible apply Upd.ite | with_reducible apply runCore_upd

theorem compareOp_upd {M0 : Nat} {s0 : State} {x : Slot} {d : Fin 4} {reads : List Nat} {lat : Nat} {f : Core → Bool × FlagSet} {s : State} (hU : Upd M0 s0 s) (hM : 248532594327565 ||| M0 = M0) : Upd M0 s0 (compareOp x d reads lat f s) := by
  refine Upd.step hU ?_ hM
  clear hU hM
  unfold compareOp
  have h0 := Upd.refl 248532594327565 s
  repeat' first | with_reducible assumption | (guard_target =~ (_ ||| _ : Nat) = _; decide) | with_reducible apply Upd.ite | with_reducible apply runCore_upd

theorem predOp_upd {M0 : Nat} {s0 : State} {x : Slot} {d : Fin 4} {reads : List Nat} {f : Core → BitVec 4} {s : State} (hU : Upd M0 s0 s) (hM : 248532594327565 ||| M0 = M0) : Upd M0 s0 (predOp x d reads f s) := by
  refine Upd.step hU ?_ hM
  clear hU hM
  unfold predOp
  have h0 := Upd.refl 248532594327565 s
  repeat' first | with_reducible assumption | (guard_target =~ (_ ||| _ : Nat) = _; decide) | with_reducible apply runCore_upd

theorem intOp_upd {M0 : Nat} {s0 : State} {x : Slot} {d : Fin 32} {a : Fin 32} {b : Fin 32} {lat : Nat} {f : Word → Word → Word} {s : State} (hU : Upd M0 s0 s) (hM : 248532594327565 ||| M0 = M0) : Upd M0 s0 (intOp x d a b lat f s) := by
  refine Upd.step hU ?_ hM
  clear hU hM
  unfold intOp
  have h0 := Upd.refl 248532594327565 s
  repeat' first | with_reducible assumption | (guard_target =~ (_ ||| _ : Nat) = _; decide) | with_reducible apply scalarOp_upd

theorem immOp_upd {M0 : Nat} {s0 : State} {x : Slot} {d : Fin 32} {a : Fin 32} {f : Word → Word} {s : State} (hU : Upd M0 s0 s) (hM : 248532594327565 ||| M0 = M0) : Upd M0 s0 (immOp x d a f s) := by
  refine Upd.step hU ?_ hM
  clear hU hM
  unfold immOp
  have h0 := Upd.refl 248532594327565 s
  repeat' first | with_reducible assumption | (guard_target =~ (_ ||| _ : Nat) = _; decide) | with_reducible apply scalarOp_upd

theorem relOp_upd {M0 : Nat} {s0 : State} {x : Slot} {d : Fin 4} {a : Fin 32} {b : Fin 32} {f : Word → Word → Bool} {s : State} (hU : Upd M0 s0 s) (hM : 248532594327565 ||| M0 = M0) : Upd M0 s0 (relOp x d a b f s) := by
  refine Upd.step hU ?_ hM
  clear hU hM
  unfold relOp
  have h0 := Upd.refl 248532594327565 s
  repeat' first | with_reducible assumption | (guard_target =~ (_ ||| _ : Nat) = _; decide) | with_reducible apply compareOp_upd

theorem relImm_upd {M0 : Nat} {s0 : State} {x : Slot} {d : Fin 4} {a : Fin 32} {f : Word → Bool} {s : State} (hU : Upd M0 s0 s) (hM : 248532594327565 ||| M0 = M0) : Upd M0 s0 (relImm x d a f s) := by
  refine Upd.step hU ?_ hM
  clear hU hM
  unfold relImm
  have h0 := Upd.refl 248532594327565 s
  repeat' first | with_reducible assumption | (guard_target =~ (_ ||| _ : Nat) = _; decide) | with_reducible apply compareOp_upd

theorem execAdd_upd (x : Slot) (d : Fin 32) (a : Fin 32) (b : Fin 32) (s : State) {t : State} (hX : execAdd x d a b s = .next t) : Upd 248532594327565 s t := by
  unfold execAdd at hX
  cases hX
  have h0 := Upd.refl 248532594327565 s
  repeat' first | with_reducible assumption | (guard_target =~ (_ ||| _ : Nat) = _; decide) | with_reducible apply intOp_upd

theorem execSub_upd (x : Slot) (d : Fin 32) (a : Fin 32) (b : Fin 32) (s : State) {t : State} (hX : execSub x d a b s = .next t) : Upd 248532594327565 s t := by
  unfold execSub at hX
  cases hX
  have h0 := Upd.refl 248532594327565 s
  repeat' first | with_reducible assumption | (guard_target =~ (_ ||| _ : Nat) = _; decide) | with_reducible apply intOp_upd

theorem execAnd_upd (x : Slot) (d : Fin 32) (a : Fin 32) (b : Fin 32) (s : State) {t : State} (hX : execAnd x d a b s = .next t) : Upd 248532594327565 s t := by
  unfold execAnd at hX
  cases hX
  have h0 := Upd.refl 248532594327565 s
  repeat' first | with_reducible assumption | (guard_target =~ (_ ||| _ : Nat) = _; decide) | with_reducible apply intOp_upd

theorem execOr_upd (x : Slot) (d : Fin 32) (a : Fin 32) (b : Fin 32) (s : State) {t : State} (hX : execOr x d a b s = .next t) : Upd 248532594327565 s t := by
  unfold execOr at hX
  cases hX
  have h0 := Upd.refl 248532594327565 s
  repeat' first | with_reducible assumption | (guard_target =~ (_ ||| _ : Nat) = _; decide) | with_reducible apply intOp_upd

theorem execXor_upd (x : Slot) (d : Fin 32) (a : Fin 32) (b : Fin 32) (s : State) {t : State} (hX : execXor x d a b s = .next t) : Upd 248532594327565 s t := by
  unfold execXor at hX
  cases hX
  have h0 := Upd.refl 248532594327565 s
  repeat' first | with_reducible assumption | (guard_target =~ (_ ||| _ : Nat) = _; decide) | with_reducible apply intOp_upd

theorem execShl_upd (x : Slot) (d : Fin 32) (a : Fin 32) (b : Fin 32) (s : State) {t : State} (hX : execShl x d a b s = .next t) : Upd 248532594327565 s t := by
  unfold execShl at hX
  cases hX
  have h0 := Upd.refl 248532594327565 s
  repeat' first | with_reducible assumption | (guard_target =~ (_ ||| _ : Nat) = _; decide) | with_reducible apply intOp_upd

theorem execShr_upd (x : Slot) (d : Fin 32) (a : Fin 32) (b : Fin 32) (s : State) {t : State} (hX : execShr x d a b s = .next t) : Upd 248532594327565 s t := by
  unfold execShr at hX
  cases hX
  have h0 := Upd.refl 248532594327565 s
  repeat' first | with_reducible assumption | (guard_target =~ (_ ||| _ : Nat) = _; decide) | with_reducible apply intOp_upd

theorem execSar_upd (x : Slot) (d : Fin 32) (a : Fin 32) (b : Fin 32) (s : State) {t : State} (hX : execSar x d a b s = .next t) : Upd 248532594327565 s t := by
  unfold execSar at hX
  cases hX
  have h0 := Upd.refl 248532594327565 s
  repeat' first | with_reducible assumption | (guard_target =~ (_ ||| _ : Nat) = _; decide) | with_reducible apply Upd.ite | with_reducible apply intOp_upd

theorem execMul_upd (x : Slot) (d : Fin 32) (a : Fin 32) (b : Fin 32) (s : State) {t : State} (hX : execMul x d a b s = .next t) : Upd 248532594327565 s t := by
  unfold execMul at hX
  cases hX
  have h0 := Upd.refl 248532594327565 s
  repeat' first | with_reducible assumption | (guard_target =~ (_ ||| _ : Nat) = _; decide) | with_reducible apply intOp_upd

theorem execMin_upd (x : Slot) (d : Fin 32) (a : Fin 32) (b : Fin 32) (s : State) {t : State} (hX : execMin x d a b s = .next t) : Upd 248532594327565 s t := by
  unfold execMin at hX
  cases hX
  have h0 := Upd.refl 248532594327565 s
  repeat' first | with_reducible assumption | (guard_target =~ (_ ||| _ : Nat) = _; decide) | with_reducible apply Upd.ite | with_reducible apply intOp_upd

theorem execMax_upd (x : Slot) (d : Fin 32) (a : Fin 32) (b : Fin 32) (s : State) {t : State} (hX : execMax x d a b s = .next t) : Upd 248532594327565 s t := by
  unfold execMax at hX
  cases hX
  have h0 := Upd.refl 248532594327565 s
  repeat' first | with_reducible assumption | (guard_target =~ (_ ||| _ : Nat) = _; decide) | with_reducible apply Upd.ite | with_reducible apply intOp_upd

theorem execMinu_upd (x : Slot) (d : Fin 32) (a : Fin 32) (b : Fin 32) (s : State) {t : State} (hX : execMinu x d a b s = .next t) : Upd 248532594327565 s t := by
  unfold execMinu at hX
  cases hX
  have h0 := Upd.refl 248532594327565 s
  repeat' first | with_reducible assumption | (guard_target =~ (_ ||| _ : Nat) = _; decide) | with_reducible apply Upd.ite | with_reducible apply intOp_upd

theorem execMaxu_upd (x : Slot) (d : Fin 32) (a : Fin 32) (b : Fin 32) (s : State) {t : State} (hX : execMaxu x d a b s = .next t) : Upd 248532594327565 s t := by
  unfold execMaxu at hX
  cases hX
  have h0 := Upd.refl 248532594327565 s
  repeat' first | with_reducible assumption | (guard_target =~ (_ ||| _ : Nat) = _; decide) | with_reducible apply Upd.ite | with_reducible apply intOp_upd

theorem execAddi_upd (x : Slot) (d : Fin 32) (a : Fin 32) (imm : BitVec 12) (s : State) {t : State} (hX : execAddi x d a imm s = .next t) : Upd 248532594327565 s t := by
  unfold execAddi at hX
  cases hX
  have h0 := Upd.refl 248532594327565 s
  repeat' first | with_reducible assumption | (guard_target =~ (_ ||| _ : Nat) = _; decide) | with_reducible apply immOp_upd

theorem execAndi_upd (x : Slot) (d : Fin 32) (a : Fin 32) (imm : BitVec 12) (s : State) {t : State} (hX : execAndi x d a imm s = .next t) : Upd 248532594327565 s t := by
  unfold execAndi at hX
  cases hX
  have h0 := Upd.refl 248532594327565 s
  repeat' first | with_reducible assumption | (guard_target =~ (_ ||| _ : Nat) = _; decide) | with_reducible apply immOp_upd

theorem execOri_upd (x : Slot) (d : Fin 32) (a : Fin 32) (imm : BitVec 12) (s : State) {t : State} (hX : execOri x d a imm s = .next t) : Upd 248532594327565 s t := by
  unfold execOri at hX
  cases hX
  have h0 := Upd.refl 248532594327565 s
  repeat' first | with_reducible assumption | (guard_target =~ (_ ||| _ : Nat) = _; decide) | with_reducible apply immOp_upd

theorem execXori_upd (x : Slot) (d : Fin 32) (a : Fin 32) (imm : BitVec 12) (s : State) {t : State} (hX : execXori x d a imm s = .next t) : Upd 248532594327565 s t := by
  unfold execXori at hX
  cases hX
  have h0 := Upd.refl 248532594327565 s
  repeat' first | with_reducible assumption | (guard_target =~ (_ ||| _ : Nat) = _; decide) | with_reducible apply immOp_upd

theorem execShli_upd (x : Slot) (d : Fin 32) (a : Fin 32) (sh : Fin 32) (s : State) {t : State} (hX : execShli x d a sh s = .next t) : Upd 248532594327565 s t := by
  unfold execShli at hX
  cases hX
  have h0 := Upd.refl 248532594327565 s
  repeat' first | with_reducible assumption | (guard_target =~ (_ ||| _ : Nat) = _; decide) | with_reducible apply immOp_upd

theorem execShri_upd (x : Slot) (d : Fin 32) (a : Fin 32) (sh : Fin 32) (s : State) {t : State} (hX : execShri x d a sh s = .next t) : Upd 248532594327565 s t := by
  unfold execShri at hX
  cases hX
  have h0 := Upd.refl 248532594327565 s
  repeat' first | with_reducible assumption | (guard_target =~ (_ ||| _ : Nat) = _; decide) | with_reducible apply immOp_upd

theorem execSari_upd (x : Slot) (d : Fin 32) (a : Fin 32) (sh : Fin 32) (s : State) {t : State} (hX : execSari x d a sh s = .next t) : Upd 248532594327565 s t := by
  unfold execSari at hX
  cases hX
  have h0 := Upd.refl 248532594327565 s
  repeat' first | with_reducible assumption | (guard_target =~ (_ ||| _ : Nat) = _; decide) | with_reducible apply Upd.ite | with_reducible apply immOp_upd

theorem execCeq_upd (x : Slot) (d : Fin 4) (a : Fin 32) (b : Fin 32) (s : State) {t : State} (hX : execCeq x d a b s = .next t) : Upd 248532594327565 s t := by
  unfold execCeq at hX
  cases hX
  have h0 := Upd.refl 248532594327565 s
  repeat' first | with_reducible assumption | (guard_target =~ (_ ||| _ : Nat) = _; decide) | with_reducible apply relOp_upd

theorem execCne_upd (x : Slot) (d : Fin 4) (a : Fin 32) (b : Fin 32) (s : State) {t : State} (hX : execCne x d a b s = .next t) : Upd 248532594327565 s t := by
  unfold execCne at hX
  cases hX
  have h0 := Upd.refl 248532594327565 s
  repeat' first | with_reducible assumption | (guard_target =~ (_ ||| _ : Nat) = _; decide) | with_reducible apply relOp_upd

theorem execClt_upd (x : Slot) (d : Fin 4) (a : Fin 32) (b : Fin 32) (s : State) {t : State} (hX : execClt x d a b s = .next t) : Upd 248532594327565 s t := by
  unfold execClt at hX
  cases hX
  have h0 := Upd.refl 248532594327565 s
  repeat' first | with_reducible assumption | (guard_target =~ (_ ||| _ : Nat) = _; decide) | with_reducible apply relOp_upd

theorem execCge_upd (x : Slot) (d : Fin 4) (a : Fin 32) (b : Fin 32) (s : State) {t : State} (hX : execCge x d a b s = .next t) : Upd 248532594327565 s t := by
  unfold execCge at hX
  cases hX
  have h0 := Upd.refl 248532594327565 s
  repeat' first | with_reducible assumption | (guard_target =~ (_ ||| _ : Nat) = _; decide) | with_reducible apply relOp_upd

theorem execCltu_upd (x : Slot) (d : Fin 4) (a : Fin 32) (b : Fin 32) (s : State) {t : State} (hX : execCltu x d a b s = .next t) : Upd 248532594327565 s t := by
  unfold execCltu at hX
  cases hX
  have h0 := Upd.refl 248532594327565 s
  repeat' first | with_reducible assumption | (guard_target =~ (_ ||| _ : Nat) = _; decide) | with_reducible apply relOp_upd

theorem execCgeu_upd (x : Slot) (d : Fin 4) (a : Fin 32) (b : Fin 32) (s : State) {t : State} (hX : execCgeu x d a b s = .next t) : Upd 248532594327565 s t := by
  unfold execCgeu at hX
  cases hX
  have h0 := Upd.refl 248532594327565 s
  repeat' first | with_reducible assumption | (guard_target =~ (_ ||| _ : Nat) = _; decide) | with_reducible apply relOp_upd

theorem execCeqi_upd (x : Slot) (d : Fin 4) (a : Fin 32) (imm : BitVec 12) (s : State) {t : State} (hX : execCeqi x d a imm s = .next t) : Upd 248532594327565 s t := by
  unfold execCeqi at hX
  cases hX
  have h0 := Upd.refl 248532594327565 s
  repeat' first | with_reducible assumption | (guard_target =~ (_ ||| _ : Nat) = _; decide) | with_reducible apply relImm_upd

theorem execCnei_upd (x : Slot) (d : Fin 4) (a : Fin 32) (imm : BitVec 12) (s : State) {t : State} (hX : execCnei x d a imm s = .next t) : Upd 248532594327565 s t := by
  unfold execCnei at hX
  cases hX
  have h0 := Upd.refl 248532594327565 s
  repeat' first | with_reducible assumption | (guard_target =~ (_ ||| _ : Nat) = _; decide) | with_reducible apply relImm_upd

theorem execClti_upd (x : Slot) (d : Fin 4) (a : Fin 32) (imm : BitVec 12) (s : State) {t : State} (hX : execClti x d a imm s = .next t) : Upd 248532594327565 s t := by
  unfold execClti at hX
  cases hX
  have h0 := Upd.refl 248532594327565 s
  repeat' first | with_reducible assumption | (guard_target =~ (_ ||| _ : Nat) = _; decide) | with_reducible apply relImm_upd

theorem execCgei_upd (x : Slot) (d : Fin 4) (a : Fin 32) (imm : BitVec 12) (s : State) {t : State} (hX : execCgei x d a imm s = .next t) : Upd 248532594327565 s t := by
  unfold execCgei at hX
  cases hX
  have h0 := Upd.refl 248532594327565 s
  repeat' first | with_reducible assumption | (guard_target =~ (_ ||| _ : Nat) = _; decide) | with_reducible apply relImm_upd

theorem execCltui_upd (x : Slot) (d : Fin 4) (a : Fin 32) (imm : BitVec 12) (s : State) {t : State} (hX : execCltui x d a imm s = .next t) : Upd 248532594327565 s t := by
  unfold execCltui at hX
  cases hX
  have h0 := Upd.refl 248532594327565 s
  repeat' first | with_reducible assumption | (guard_target =~ (_ ||| _ : Nat) = _; decide) | with_reducible apply relImm_upd

theorem execCgeui_upd (x : Slot) (d : Fin 4) (a : Fin 32) (imm : BitVec 12) (s : State) {t : State} (hX : execCgeui x d a imm s = .next t) : Upd 248532594327565 s t := by
  unfold execCgeui at hX
  cases hX
  have h0 := Upd.refl 248532594327565 s
  repeat' first | with_reducible assumption | (guard_target =~ (_ ||| _ : Nat) = _; decide) | with_reducible apply relImm_upd

theorem execAndq_upd (x : Slot) (d : Fin 4) (a : Fin 4) (b : Fin 4) (s : State) {t : State} (hX : execAndq x d a b s = .next t) : Upd 248532594327565 s t := by
  unfold execAndq at hX
  cases hX
  have h0 := Upd.refl 248532594327565 s
  repeat' first | with_reducible assumption | (guard_target =~ (_ ||| _ : Nat) = _; decide) | with_reducible apply predOp_upd

theorem execOrq_upd (x : Slot) (d : Fin 4) (a : Fin 4) (b : Fin 4) (s : State) {t : State} (hX : execOrq x d a b s = .next t) : Upd 248532594327565 s t := by
  unfold execOrq at hX
  cases hX
  have h0 := Upd.refl 248532594327565 s
  repeat' first | with_reducible assumption | (guard_target =~ (_ ||| _ : Nat) = _; decide) | with_reducible apply predOp_upd

theorem execXorq_upd (x : Slot) (d : Fin 4) (a : Fin 4) (b : Fin 4) (s : State) {t : State} (hX : execXorq x d a b s = .next t) : Upd 248532594327565 s t := by
  unfold execXorq at hX
  cases hX
  have h0 := Upd.refl 248532594327565 s
  repeat' first | with_reducible assumption | (guard_target =~ (_ ||| _ : Nat) = _; decide) | with_reducible apply predOp_upd

theorem execAndnq_upd (x : Slot) (d : Fin 4) (a : Fin 4) (b : Fin 4) (s : State) {t : State} (hX : execAndnq x d a b s = .next t) : Upd 248532594327565 s t := by
  unfold execAndnq at hX
  cases hX
  have h0 := Upd.refl 248532594327565 s
  repeat' first | with_reducible assumption | (guard_target =~ (_ ||| _ : Nat) = _; decide) | with_reducible apply predOp_upd

theorem execSetq_upd (x : Slot) (d : Fin 4) (a : Fin 32) (s : State) {t : State} (hX : execSetq x d a s = .next t) : Upd 248532594327565 s t := by
  unfold execSetq at hX
  cases hX
  have h0 := Upd.refl 248532594327565 s
  repeat' first | with_reducible assumption | (guard_target =~ (_ ||| _ : Nat) = _; decide) | with_reducible apply predOp_upd

theorem execGetq_upd (x : Slot) (d : Fin 32) (a : Fin 4) (s : State) {t : State} (hX : execGetq x d a s = .next t) : Upd 248532594327565 s t := by
  unfold execGetq at hX
  cases hX
  have h0 := Upd.refl 248532594327565 s
  repeat' first | with_reducible assumption | (guard_target =~ (_ ||| _ : Nat) = _; decide) | with_reducible apply scalarOp_upd

theorem execAllq_upd (x : Slot) (d : Fin 4) (a : Fin 4) (s : State) {t : State} (hX : execAllq x d a s = .next t) : Upd 248532594327565 s t := by
  unfold execAllq at hX
  cases hX
  have h0 := Upd.refl 248532594327565 s
  repeat' first | with_reducible assumption | (guard_target =~ (_ ||| _ : Nat) = _; decide) | with_reducible apply predOp_upd

theorem execAnyq_upd (x : Slot) (d : Fin 4) (a : Fin 4) (s : State) {t : State} (hX : execAnyq x d a s = .next t) : Upd 248532594327565 s t := by
  unfold execAnyq at hX
  cases hX
  have h0 := Upd.refl 248532594327565 s
  repeat' first | with_reducible assumption | (guard_target =~ (_ ||| _ : Nat) = _; decide) | with_reducible apply predOp_upd

theorem qOp2_upd {M0 : Nat} {s0 : State} {x : Slot} {d : Fin 32} {a : Fin 32} {b : Fin 32} {lat : Nat} {f : Word → Word → Res} {s : State} (hU : Upd M0 s0 s) (hM : 248532594327565 ||| M0 = M0) : Upd M0 s0 (qOp2 x d a b lat f s) := by
  refine Upd.step hU ?_ hM
  clear hU hM
  unfold qOp2
  have h0 := Upd.refl 248532594327565 s
  repeat' first | with_reducible assumption | (guard_target =~ (_ ||| _ : Nat) = _; decide) | with_reducible apply scalarOp_upd

theorem qOp3_upd {M0 : Nat} {s0 : State} {x : Slot} {d : Fin 32} {a : Fin 32} {b : Fin 32} {lat : Nat} {f : Word → Word → Word → Res} {s : State} (hU : Upd M0 s0 s) (hM : 248532594327565 ||| M0 = M0) : Upd M0 s0 (qOp3 x d a b lat f s) := by
  refine Upd.step hU ?_ hM
  clear hU hM
  unfold qOp3
  have h0 := Upd.refl 248532594327565 s
  repeat' first | with_reducible assumption | (guard_target =~ (_ ||| _ : Nat) = _; decide) | with_reducible apply scalarOp_upd

theorem qOp1_upd {M0 : Nat} {s0 : State} {x : Slot} {d : Fin 32} {a : Fin 32} {lat : Nat} {f : Word → Res} {s : State} (hU : Upd M0 s0 s) (hM : 248532594327565 ||| M0 = M0) : Upd M0 s0 (qOp1 x d a lat f s) := by
  refine Upd.step hU ?_ hM
  clear hU hM
  unfold qOp1
  have h0 := Upd.refl 248532594327565 s
  repeat' first | with_reducible assumption | (guard_target =~ (_ ||| _ : Nat) = _; decide) | with_reducible apply scalarOp_upd

theorem execQadd_upd (x : Slot) (d : Fin 32) (a : Fin 32) (b : Fin 32) (s : State) {t : State} (hX : execQadd x d a b s = .next t) : Upd 248532594327565 s t := by
  unfold execQadd at hX
  cases hX
  have h0 := Upd.refl 248532594327565 s
  repeat' first | with_reducible assumption | (guard_target =~ (_ ||| _ : Nat) = _; decide) | with_reducible apply qOp2_upd

theorem execQsub_upd (x : Slot) (d : Fin 32) (a : Fin 32) (b : Fin 32) (s : State) {t : State} (hX : execQsub x d a b s = .next t) : Upd 248532594327565 s t := by
  unfold execQsub at hX
  cases hX
  have h0 := Upd.refl 248532594327565 s
  repeat' first | with_reducible assumption | (guard_target =~ (_ ||| _ : Nat) = _; decide) | with_reducible apply qOp2_upd

theorem execQneg_upd (x : Slot) (d : Fin 32) (a : Fin 32) (s : State) {t : State} (hX : execQneg x d a s = .next t) : Upd 248532594327565 s t := by
  unfold execQneg at hX
  cases hX
  have h0 := Upd.refl 248532594327565 s
  repeat' first | with_reducible assumption | (guard_target =~ (_ ||| _ : Nat) = _; decide) | with_reducible apply qOp1_upd

theorem execQabs_upd (x : Slot) (d : Fin 32) (a : Fin 32) (s : State) {t : State} (hX : execQabs x d a s = .next t) : Upd 248532594327565 s t := by
  unfold execQabs at hX
  cases hX
  have h0 := Upd.refl 248532594327565 s
  repeat' first | with_reducible assumption | (guard_target =~ (_ ||| _ : Nat) = _; decide) | with_reducible apply qOp1_upd

theorem execQmul_upd (x : Slot) (d : Fin 32) (a : Fin 32) (b : Fin 32) (s : State) {t : State} (hX : execQmul x d a b s = .next t) : Upd 248532594327565 s t := by
  unfold execQmul at hX
  cases hX
  have h0 := Upd.refl 248532594327565 s
  repeat' first | with_reducible assumption | (guard_target =~ (_ ||| _ : Nat) = _; decide) | with_reducible apply qOp2_upd

theorem execQmac_upd (x : Slot) (d : Fin 32) (a : Fin 32) (b : Fin 32) (s : State) {t : State} (hX : execQmac x d a b s = .next t) : Upd 248532594327565 s t := by
  unfold execQmac at hX
  cases hX
  have h0 := Upd.refl 248532594327565 s
  repeat' first | with_reducible assumption | (guard_target =~ (_ ||| _ : Nat) = _; decide) | with_reducible apply qOp3_upd

theorem execQmsu_upd (x : Slot) (d : Fin 32) (a : Fin 32) (b : Fin 32) (s : State) {t : State} (hX : execQmsu x d a b s = .next t) : Upd 248532594327565 s t := by
  unfold execQmsu at hX
  cases hX
  have h0 := Upd.refl 248532594327565 s
  repeat' first | with_reducible assumption | (guard_target =~ (_ ||| _ : Nat) = _; decide) | with_reducible apply qOp3_upd

theorem execLi_upd (x : Slot) (d : Fin 32) (imm : Word) (s : State) {t : State} (hX : execLi x d imm s = .next t) : Upd 248532594327565 s t := by
  unfold execLi at hX
  cases hX
  have h0 := Upd.refl 248532594327565 s
  repeat' first | with_reducible assumption | (guard_target =~ (_ ||| _ : Nat) = _; decide) | with_reducible apply longOp_upd

theorem execAddl_upd (x : Slot) (d : Fin 32) (a : Fin 32) (imm : Word) (s : State) {t : State} (hX : execAddl x d a imm s = .next t) : Upd 248532594327565 s t := by
  unfold execAddl at hX
  cases hX
  have h0 := Upd.refl 248532594327565 s
  repeat' first | with_reducible assumption | (guard_target =~ (_ ||| _ : Nat) = _; decide) | with_reducible apply longOp_upd

theorem execAndl_upd (x : Slot) (d : Fin 32) (a : Fin 32) (imm : Word) (s : State) {t : State} (hX : execAndl x d a imm s = .next t) : Upd 248532594327565 s t := by
  unfold execAndl at hX
  cases hX
  have h0 := Upd.refl 248532594327565 s
  repeat' first | with_reducible assumption | (guard_target =~ (_ ||| _ : Nat) = _; decide) | with_reducible apply longOp_upd

theorem execOrl_upd (x : Slot) (d : Fin 32) (a : Fin 32) (imm : Word) (s : State) {t : State} (hX : execOrl x d a imm s = .next t) : Upd 248532594327565 s t := by
  unfold execOrl at hX
  cases hX
  have h0 := Upd.refl 248532594327565 s
  repeat' first | with_reducible assumption | (guard_target =~ (_ ||| _ : Nat) = _; decide) | with_reducible apply longOp_upd

theorem execFaddl_upd (x : Slot) (d : Fin 32) (a : Fin 32) (imm : Word) (s : State) {t : State} (hX : execFaddl x d a imm s = .next t) : Upd 248532594327565 s t := by
  unfold execFaddl at hX
  cases hX
  have h0 := Upd.refl 248532594327565 s
  repeat' first | with_reducible assumption | (guard_target =~ (_ ||| _ : Nat) = _; decide) | with_reducible apply longOp_upd

theorem execFmull_upd (x : Slot) (d : Fin 32) (a : Fin 32) (imm : Word) (s : State) {t : State} (hX : execFmull x d a imm s = .next t) : Upd 248532594327565 s t := by
  unfold execFmull at hX
  cases hX
  have h0 := Upd.refl 248532594327565 s
  repeat' first | with_reducible assumption | (guard_target =~ (_ ||| _ : Nat) = _; decide) | with_reducible apply longOp_upd

theorem execQmull_upd (x : Slot) (d : Fin 32) (a : Fin 32) (imm : Word) (s : State) {t : State} (hX : execQmull x d a imm s = .next t) : Upd 248532594327565 s t := by
  unfold execQmull at hX
  cases hX
  have h0 := Upd.refl 248532594327565 s
  repeat' first | with_reducible assumption | (guard_target =~ (_ ||| _ : Nat) = _; decide) | with_reducible apply longOp_upd

end Sys2Proof.Machine
end

