-- ==== Sys2Proof/Laws/UpdFloat.lean ====
section
/-! SUPPORT. What each operation of Machine/Float.lean may change. -/

set_option linter.unusedTactic false
set_option linter.unreachableTactic false

namespace Sys2Proof.Machine

theorem divOp_upd {M0 : Nat} {s0 : State} {x : Slot} {d : Fin 32} {reads : List Nat} {f : Core → Res} {s : State} (hU : Upd M0 s0 s) (hM : 248532594327565 ||| M0 = M0) : Upd M0 s0 (divOp x d reads f s) := by
  refine Upd.step hU ?_ hM
  clear hU hM
  unfold divOp
  have h0 := Upd.refl 248532594327565 s
  repeat' first | with_reducible assumption | (guard_target =~ (_ ||| _ : Nat) = _; decide) | with_reducible apply Upd.ite | with_reducible apply runCore_upd

theorem fcmpOp_upd {M0 : Nat} {s0 : State} {x : Slot} {d : Fin 4} {a : Fin 32} {b : Fin 32} {r : FRel} {s : State} (hU : Upd M0 s0 s) (hM : 248532594327565 ||| M0 = M0) : Upd M0 s0 (fcmpOp x d a b r s) := by
  refine Upd.step hU ?_ hM
  clear hU hM
  unfold fcmpOp
  have h0 := Upd.refl 248532594327565 s
  repeat' first | with_reducible assumption | (guard_target =~ (_ ||| _ : Nat) = _; decide) | with_reducible apply compareOp_upd

theorem execFadd_upd (x : Slot) (d : Fin 32) (a : Fin 32) (b : Fin 32) (s : State) {t : State} (hX : execFadd x d a b s = .next t) : Upd 248532594327565 s t := by
  unfold execFadd at hX
  cases hX
  have h0 := Upd.refl 248532594327565 s
  repeat' first | with_reducible assumption | (guard_target =~ (_ ||| _ : Nat) = _; decide) | with_reducible apply qOp2_upd

theorem execFsub_upd (x : Slot) (d : Fin 32) (a : Fin 32) (b : Fin 32) (s : State) {t : State} (hX : execFsub x d a b s = .next t) : Upd 248532594327565 s t := by
  unfold execFsub at hX
  cases hX
  have h0 := Upd.refl 248532594327565 s
  repeat' first | with_reducible assumption | (guard_target =~ (_ ||| _ : Nat) = _; decide) | with_reducible apply qOp2_upd

theorem execFmul_upd (x : Slot) (d : Fin 32) (a : Fin 32) (b : Fin 32) (s : State) {t : State} (hX : execFmul x d a b s = .next t) : Upd 248532594327565 s t := by
  unfold execFmul at hX
  cases hX
  have h0 := Upd.refl 248532594327565 s
  repeat' first | with_reducible assumption | (guard_target =~ (_ ||| _ : Nat) = _; decide) | with_reducible apply qOp2_upd

theorem execFma_upd (x : Slot) (d : Fin 32) (a : Fin 32) (b : Fin 32) (s : State) {t : State} (hX : execFma x d a b s = .next t) : Upd 248532594327565 s t := by
  unfold execFma at hX
  cases hX
  have h0 := Upd.refl 248532594327565 s
  repeat' first | with_reducible assumption | (guard_target =~ (_ ||| _ : Nat) = _; decide) | with_reducible apply qOp3_upd

theorem execFms_upd (x : Slot) (d : Fin 32) (a : Fin 32) (b : Fin 32) (s : State) {t : State} (hX : execFms x d a b s = .next t) : Upd 248532594327565 s t := by
  unfold execFms at hX
  cases hX
  have h0 := Upd.refl 248532594327565 s
  repeat' first | with_reducible assumption | (guard_target =~ (_ ||| _ : Nat) = _; decide) | with_reducible apply qOp3_upd

theorem execFmin_upd (x : Slot) (d : Fin 32) (a : Fin 32) (b : Fin 32) (s : State) {t : State} (hX : execFmin x d a b s = .next t) : Upd 248532594327565 s t := by
  unfold execFmin at hX
  cases hX
  have h0 := Upd.refl 248532594327565 s
  repeat' first | with_reducible assumption | (guard_target =~ (_ ||| _ : Nat) = _; decide) | with_reducible apply qOp2_upd

theorem execFmax_upd (x : Slot) (d : Fin 32) (a : Fin 32) (b : Fin 32) (s : State) {t : State} (hX : execFmax x d a b s = .next t) : Upd 248532594327565 s t := by
  unfold execFmax at hX
  cases hX
  have h0 := Upd.refl 248532594327565 s
  repeat' first | with_reducible assumption | (guard_target =~ (_ ||| _ : Nat) = _; decide) | with_reducible apply qOp2_upd

theorem execFneg_upd (x : Slot) (d : Fin 32) (a : Fin 32) (s : State) {t : State} (hX : execFneg x d a s = .next t) : Upd 248532594327565 s t := by
  unfold execFneg at hX
  cases hX
  have h0 := Upd.refl 248532594327565 s
  repeat' first | with_reducible assumption | (guard_target =~ (_ ||| _ : Nat) = _; decide) | with_reducible apply qOp1_upd

theorem execFabs_upd (x : Slot) (d : Fin 32) (a : Fin 32) (s : State) {t : State} (hX : execFabs x d a s = .next t) : Upd 248532594327565 s t := by
  unfold execFabs at hX
  cases hX
  have h0 := Upd.refl 248532594327565 s
  repeat' first | with_reducible assumption | (guard_target =~ (_ ||| _ : Nat) = _; decide) | with_reducible apply qOp1_upd

theorem execFdiv_upd (x : Slot) (d : Fin 32) (a : Fin 32) (b : Fin 32) (s : State) {t : State} (hX : execFdiv x d a b s = .next t) : Upd 248532594327565 s t := by
  unfold execFdiv at hX
  cases hX
  have h0 := Upd.refl 248532594327565 s
  repeat' first | with_reducible assumption | (guard_target =~ (_ ||| _ : Nat) = _; decide) | with_reducible apply divOp_upd

theorem execFsqrt_upd (x : Slot) (d : Fin 32) (a : Fin 32) (s : State) {t : State} (hX : execFsqrt x d a s = .next t) : Upd 248532594327565 s t := by
  unfold execFsqrt at hX
  cases hX
  have h0 := Upd.refl 248532594327565 s
  repeat' first | with_reducible assumption | (guard_target =~ (_ ||| _ : Nat) = _; decide) | with_reducible apply divOp_upd

theorem execFceq_upd (x : Slot) (d : Fin 4) (a : Fin 32) (b : Fin 32) (s : State) {t : State} (hX : execFceq x d a b s = .next t) : Upd 248532594327565 s t := by
  unfold execFceq at hX
  cases hX
  have h0 := Upd.refl 248532594327565 s
  repeat' first | with_reducible assumption | (guard_target =~ (_ ||| _ : Nat) = _; decide) | with_reducible apply fcmpOp_upd

theorem execFcne_upd (x : Slot) (d : Fin 4) (a : Fin 32) (b : Fin 32) (s : State) {t : State} (hX : execFcne x d a b s = .next t) : Upd 248532594327565 s t := by
  unfold execFcne at hX
  cases hX
  have h0 := Upd.refl 248532594327565 s
  repeat' first | with_reducible assumption | (guard_target =~ (_ ||| _ : Nat) = _; decide) | with_reducible apply fcmpOp_upd

theorem execFclt_upd (x : Slot) (d : Fin 4) (a : Fin 32) (b : Fin 32) (s : State) {t : State} (hX : execFclt x d a b s = .next t) : Upd 248532594327565 s t := by
  unfold execFclt at hX
  cases hX
  have h0 := Upd.refl 248532594327565 s
  repeat' first | with_reducible assumption | (guard_target =~ (_ ||| _ : Nat) = _; decide) | with_reducible apply fcmpOp_upd

theorem execFcle_upd (x : Slot) (d : Fin 4) (a : Fin 32) (b : Fin 32) (s : State) {t : State} (hX : execFcle x d a b s = .next t) : Upd 248532594327565 s t := by
  unfold execFcle at hX
  cases hX
  have h0 := Upd.refl 248532594327565 s
  repeat' first | with_reducible assumption | (guard_target =~ (_ ||| _ : Nat) = _; decide) | with_reducible apply fcmpOp_upd

theorem execFcun_upd (x : Slot) (d : Fin 4) (a : Fin 32) (b : Fin 32) (s : State) {t : State} (hX : execFcun x d a b s = .next t) : Upd 248532594327565 s t := by
  unfold execFcun at hX
  cases hX
  have h0 := Upd.refl 248532594327565 s
  repeat' first | with_reducible assumption | (guard_target =~ (_ ||| _ : Nat) = _; decide) | with_reducible apply fcmpOp_upd

theorem execF2q_upd (x : Slot) (d : Fin 32) (a : Fin 32) (s : State) {t : State} (hX : execF2q x d a s = .next t) : Upd 248532594327565 s t := by
  unfold execF2q at hX
  cases hX
  have h0 := Upd.refl 248532594327565 s
  repeat' first | with_reducible assumption | (guard_target =~ (_ ||| _ : Nat) = _; decide) | with_reducible apply qOp1_upd

theorem execQ2f_upd (x : Slot) (d : Fin 32) (a : Fin 32) (s : State) {t : State} (hX : execQ2f x d a s = .next t) : Upd 248532594327565 s t := by
  unfold execQ2f at hX
  cases hX
  have h0 := Upd.refl 248532594327565 s
  repeat' first | with_reducible assumption | (guard_target =~ (_ ||| _ : Nat) = _; decide) | with_reducible apply qOp1_upd

theorem execF2i_upd (x : Slot) (d : Fin 32) (a : Fin 32) (s : State) {t : State} (hX : execF2i x d a s = .next t) : Upd 248532594327565 s t := by
  unfold execF2i at hX
  cases hX
  have h0 := Upd.refl 248532594327565 s
  repeat' first | with_reducible assumption | (guard_target =~ (_ ||| _ : Nat) = _; decide) | with_reducible apply qOp1_upd

theorem execI2f_upd (x : Slot) (d : Fin 32) (a : Fin 32) (s : State) {t : State} (hX : execI2f x d a s = .next t) : Upd 248532594327565 s t := by
  unfold execI2f at hX
  cases hX
  have h0 := Upd.refl 248532594327565 s
  repeat' first | with_reducible assumption | (guard_target =~ (_ ||| _ : Nat) = _; decide) | with_reducible apply qOp1_upd

end Sys2Proof.Machine
end

