-- ==== Sys2Proof/Laws/UpdVector.lean ====
section
/-! SUPPORT. What each operation of Machine/Vector.lean may change. -/

set_option linter.unusedTactic false
set_option linter.unreachableTactic false

namespace Sys2Proof.Machine

theorem vecOp_upd {M0 : Nat} {s0 : State} {x : Slot} {d : Fin 8} {reads : List Nat} {lat : Nat} {f : Core → Nat → Res} {s : State} (hU : Upd M0 s0 s) (hM : 248532594327565 ||| M0 = M0) : Upd M0 s0 (vecOp x d reads lat f s) := by
  refine Upd.step hU ?_ hM
  clear hU hM
  unfold vecOp
  have h0 := Upd.refl 248532594327565 s
  repeat' first | with_reducible assumption | (guard_target =~ (_ ||| _ : Nat) = _; decide) | with_reducible apply runCore_upd

theorem vvOp_upd {M0 : Nat} {s0 : State} {x : Slot} {d : Fin 8} {a : Fin 8} {b : Fin 8} {lat : Nat} {f : Word → Word → Res} {s : State} (hU : Upd M0 s0 s) (hM : 248532594327565 ||| M0 = M0) : Upd M0 s0 (vvOp x d a b lat f s) := by
  refine Upd.step hU ?_ hM
  clear hU hM
  unfold vvOp
  have h0 := Upd.refl 248532594327565 s
  repeat' first | with_reducible assumption | (guard_target =~ (_ ||| _ : Nat) = _; decide) | with_reducible apply vecOp_upd

theorem vvAcc_upd {M0 : Nat} {s0 : State} {x : Slot} {d : Fin 8} {a : Fin 8} {b : Fin 8} {lat : Nat} {f : Word → Word → Word → Res} {s : State} (hU : Upd M0 s0 s) (hM : 248532594327565 ||| M0 = M0) : Upd M0 s0 (vvAcc x d a b lat f s) := by
  refine Upd.step hU ?_ hM
  clear hU hM
  unfold vvAcc
  have h0 := Upd.refl 248532594327565 s
  repeat' first | with_reducible assumption | (guard_target =~ (_ ||| _ : Nat) = _; decide) | with_reducible apply vecOp_upd

theorem vsOp_upd {M0 : Nat} {s0 : State} {x : Slot} {d : Fin 8} {a : Fin 8} {r : Fin 32} {lat : Nat} {f : Word → Word → Res} {s : State} (hU : Upd M0 s0 s) (hM : 248532594327565 ||| M0 = M0) : Upd M0 s0 (vsOp x d a r lat f s) := by
  refine Upd.step hU ?_ hM
  clear hU hM
  unfold vsOp
  have h0 := Upd.refl 248532594327565 s
  repeat' first | with_reducible assumption | (guard_target =~ (_ ||| _ : Nat) = _; decide) | with_reducible apply vecOp_upd

theorem vsAcc_upd {M0 : Nat} {s0 : State} {x : Slot} {d : Fin 8} {a : Fin 8} {r : Fin 32} {lat : Nat} {f : Word → Word → Word → Res} {s : State} (hU : Upd M0 s0 s) (hM : 248532594327565 ||| M0 = M0) : Upd M0 s0 (vsAcc x d a r lat f s) := by
  refine Upd.step hU ?_ hM
  clear hU hM
  unfold vsAcc
  have h0 := Upd.refl 248532594327565 s
  repeat' first | with_reducible assumption | (guard_target =~ (_ ||| _ : Nat) = _; decide) | with_reducible apply vecOp_upd

theorem vOp1_upd {M0 : Nat} {s0 : State} {x : Slot} {d : Fin 8} {a : Fin 8} {lat : Nat} {f : Word → Res} {s : State} (hU : Upd M0 s0 s) (hM : 248532594327565 ||| M0 = M0) : Upd M0 s0 (vOp1 x d a lat f s) := by
  refine Upd.step hU ?_ hM
  clear hU hM
  unfold vOp1
  have h0 := Upd.refl 248532594327565 s
  repeat' first | with_reducible assumption | (guard_target =~ (_ ||| _ : Nat) = _; decide) | with_reducible apply vecOp_upd

theorem vcmpOp_upd {M0 : Nat} {s0 : State} {x : Slot} {d : Fin 4} {a : Fin 8} {b : Fin 8} {lat : Nat} {f : Word → Word → Bool × FlagSet} {s : State} (hU : Upd M0 s0 s) (hM : 248532594327565 ||| M0 = M0) : Upd M0 s0 (vcmpOp x d a b lat f s) := by
  refine Upd.step hU ?_ hM
  clear hU hM
  unfold vcmpOp
  have h0 := Upd.refl 248532594327565 s
  repeat' first | with_reducible assumption | (guard_target =~ (_ ||| _ : Nat) = _; decide) | with_reducible apply h90 | with_reducible apply h91 | with_reducible apply h92 | with_reducible apply h93 | with_reducible apply h94 | (fail_if_no_progress extract_lets +onlyGivenNames x; first | (have hx : Upd 248532594327565 s x := (by unfold x; repeat' first | with_reducible assumption | (guard_target =~ (_ ||| _ : Nat) = _; decide) | with_reducible apply h90 | with_reducible apply h91 | with_reducible apply h92 | with_reducible apply h93 | with_reducible apply h94 | with_reducible apply Upd.ite | with_reducible apply runCore_upd); try clear_value x) | (have hx : Upd 248532594327565 s x.2 := (by unfold x; repeat' first | with_reducible assumption | (guard_target =~ (_ ||| _ : Nat) = _; decide) | with_reducible apply h90 | with_reducible apply h91 | with_reducible apply h92 | with_reducible apply h93 | with_reducible apply h94 | with_reducible apply Upd.ite | with_reducible apply runCore_upd); try clear_value x) | (have h9 : (x : Peak) = x := rfl; clear h9) | (have h9 : (x : Saddle) = x := rfl; clear h9) | (have h9 : (x : Pair) = x := rfl; clear h9) | (have h9 : (x : Leg) = x := rfl; clear h9) | (have h90 : ∀  t, Upd 248532594327565 s t → Upd 248532594327565 s (x  t) := (by intro  t ht; unfold x; repeat' first | with_reducible assumption | (guard_target =~ (_ ||| _ : Nat) = _; decide) | with_reducible apply h90 | with_reducible apply h91 | with_reducible apply h92 | with_reducible apply h93 | with_reducible apply h94 | with_reducible apply Upd.ite | with_reducible apply runCore_upd); try clear_value x) | (have h91 : ∀ a0 t, Upd 248532594327565 s t → Upd 248532594327565 s (x a0 t) := (by intro a0 t ht; unfold x; repeat' first | with_reducible assumption | (guard_target =~ (_ ||| _ : Nat) = _; decide) | with_reducible apply h90 | with_reducible apply h91 | with_reducible apply h92 | with_reducible apply h93 | with_reducible apply h94 | with_reducible apply Upd.ite | with_reducible apply runCore_upd); try clear_value x) | (have h92 : ∀ a0 a1 t, Upd 248532594327565 s t → Upd 248532594327565 s (x a0 a1 t) := (by intro a0 a1 t ht; unfold x; repeat' first | with_reducible assumption | (guard_target =~ (_ ||| _ : Nat) = _; decide) | with_reducible apply h90 | with_reducible apply h91 | with_reducible apply h92 | with_reducible apply h93 | with_reducible apply h94 | with_reducible apply Upd.ite | with_reducible apply runCore_upd); try clear_value x) | (have h93 : ∀ a0 a1 a2 t, Upd 248532594327565 s t → Upd 248532594327565 s (x a0 a1 a2 t) := (by intro a0 a1 a2 t ht; unfold x; repeat' first | with_reducible assumption | (guard_target =~ (_ ||| _ : Nat) = _; decide) | with_reducible apply h90 | with_reducible apply h91 | with_reducible apply h92 | with_reducible apply h93 | with_reducible apply h94 | with_reducible apply Upd.ite | with_reducible apply runCore_upd); try clear_value x) | (have h94 : ∀ a0 a1 a2 a3 t, Upd 248532594327565 s t → Upd 248532594327565 s (x a0 a1 a2 a3 t) := (by intro a0 a1 a2 a3 t ht; unfold x; repeat' first | with_reducible assumption | (guard_target =~ (_ ||| _ : Nat) = _; decide) | with_reducible apply h90 | with_reducible apply h91 | with_reducible apply h92 | with_reducible apply h93 | with_reducible apply h94 | with_reducible apply Upd.ite | with_reducible apply runCore_upd); try clear_value x) | clear_value x | skip) | with_reducible apply Upd.ite | with_reducible apply runCore_upd

theorem execVadd_upd (x : Slot) (d : Fin 8) (a : Fin 8) (b : Fin 8) (s : State) {t : State} (hX : execVadd x d a b s = .next t) : Upd 248532594327565 s t := by
  unfold execVadd at hX
  cases hX
  have h0 := Upd.refl 248532594327565 s
  repeat' first | with_reducible assumption | (guard_target =~ (_ ||| _ : Nat) = _; decide) | with_reducible apply vvOp_upd

theorem execVsub_upd (x : Slot) (d : Fin 8) (a : Fin 8) (b : Fin 8) (s : State) {t : State} (hX : execVsub x d a b s = .next t) : Upd 248532594327565 s t := by
  unfold execVsub at hX
  cases hX
  have h0 := Upd.refl 248532594327565 s
  repeat' first | with_reducible assumption | (guard_target =~ (_ ||| _ : Nat) = _; decide) | with_reducible apply vvOp_upd

theorem execVand_upd (x : Slot) (d : Fin 8) (a : Fin 8) (b : Fin 8) (s : State) {t : State} (hX : execVand x d a b s = .next t) : Upd 248532594327565 s t := by
  unfold execVand at hX
  cases hX
  have h0 := Upd.refl 248532594327565 s
  repeat' first | with_reducible assumption | (guard_target =~ (_ ||| _ : Nat) = _; decide) | with_reducible apply vvOp_upd

theorem execVor_upd (x : Slot) (d : Fin 8) (a : Fin 8) (b : Fin 8) (s : State) {t : State} (hX : execVor x d a b s = .next t) : Upd 248532594327565 s t := by
  unfold execVor at hX
  cases hX
  have h0 := Upd.refl 248532594327565 s
  repeat' first | with_reducible assumption | (guard_target =~ (_ ||| _ : Nat) = _; decide) | with_reducible apply vvOp_upd

theorem execVxor_upd (x : Slot) (d : Fin 8) (a : Fin 8) (b : Fin 8) (s : State) {t : State} (hX : execVxor x d a b s = .next t) : Upd 248532594327565 s t := by
  unfold execVxor at hX
  cases hX
  have h0 := Upd.refl 248532594327565 s
  repeat' first | with_reducible assumption | (guard_target =~ (_ ||| _ : Nat) = _; decide) | with_reducible apply vvOp_upd

theorem execVmul_upd (x : Slot) (d : Fin 8) (a : Fin 8) (b : Fin 8) (s : State) {t : State} (hX : execVmul x d a b s = .next t) : Upd 248532594327565 s t := by
  unfold execVmul at hX
  cases hX
  have h0 := Upd.refl 248532594327565 s
  repeat' first | with_reducible assumption | (guard_target =~ (_ ||| _ : Nat) = _; decide) | with_reducible apply vvOp_upd

theorem execVshl_upd (x : Slot) (d : Fin 8) (a : Fin 8) (r : Fin 32) (s : State) {t : State} (hX : execVshl x d a r s = .next t) : Upd 248532594327565 s t := by
  unfold execVshl at hX
  cases hX
  have h0 := Upd.refl 248532594327565 s
  repeat' first | with_reducible assumption | (guard_target =~ (_ ||| _ : Nat) = _; decide) | with_reducible apply vsOp_upd

theorem execVsar_upd (x : Slot) (d : Fin 8) (a : Fin 8) (r : Fin 32) (s : State) {t : State} (hX : execVsar x d a r s = .next t) : Upd 248532594327565 s t := by
  unfold execVsar at hX
  cases hX
  have h0 := Upd.refl 248532594327565 s
  repeat' first | with_reducible assumption | (guard_target =~ (_ ||| _ : Nat) = _; decide) | with_reducible apply Upd.ite | with_reducible apply vsOp_upd

theorem execVqadd_upd (x : Slot) (d : Fin 8) (a : Fin 8) (b : Fin 8) (s : State) {t : State} (hX : execVqadd x d a b s = .next t) : Upd 248532594327565 s t := by
  unfold execVqadd at hX
  cases hX
  have h0 := Upd.refl 248532594327565 s
  repeat' first | with_reducible assumption | (guard_target =~ (_ ||| _ : Nat) = _; decide) | with_reducible apply vvOp_upd

theorem execVqsub_upd (x : Slot) (d : Fin 8) (a : Fin 8) (b : Fin 8) (s : State) {t : State} (hX : execVqsub x d a b s = .next t) : Upd 248532594327565 s t := by
  unfold execVqsub at hX
  cases hX
  have h0 := Upd.refl 248532594327565 s
  repeat' first | with_reducible assumption | (guard_target =~ (_ ||| _ : Nat) = _; decide) | with_reducible apply vvOp_upd

theorem execVqneg_upd (x : Slot) (d : Fin 8) (a : Fin 8) (s : State) {t : State} (hX : execVqneg x d a s = .next t) : Upd 248532594327565 s t := by
  unfold execVqneg at hX
  cases hX
  have h0 := Upd.refl 248532594327565 s
  repeat' first | with_reducible assumption | (guard_target =~ (_ ||| _ : Nat) = _; decide) | with_reducible apply vOp1_upd

theorem execVqabs_upd (x : Slot) (d : Fin 8) (a : Fin 8) (s : State) {t : State} (hX : execVqabs x d a s = .next t) : Upd 248532594327565 s t := by
  unfold execVqabs at hX
  cases hX
  have h0 := Upd.refl 248532594327565 s
  repeat' first | with_reducible assumption | (guard_target =~ (_ ||| _ : Nat) = _; decide) | with_reducible apply vOp1_upd

theorem execVqmul_upd (x : Slot) (d : Fin 8) (a : Fin 8) (b : Fin 8) (s : State) {t : State} (hX : execVqmul x d a b s = .next t) : Upd 248532594327565 s t := by
  unfold execVqmul at hX
  cases hX
  have h0 := Upd.refl 248532594327565 s
  repeat' first | with_reducible assumption | (guard_target =~ (_ ||| _ : Nat) = _; decide) | with_reducible apply vvOp_upd

theorem execVqmac_upd (x : Slot) (d : Fin 8) (a : Fin 8) (b : Fin 8) (s : State) {t : State} (hX : execVqmac x d a b s = .next t) : Upd 248532594327565 s t := by
  unfold execVqmac at hX
  cases hX
  have h0 := Upd.refl 248532594327565 s
  repeat' first | with_reducible assumption | (guard_target =~ (_ ||| _ : Nat) = _; decide) | with_reducible apply vvAcc_upd

theorem execVqmuls_upd (x : Slot) (d : Fin 8) (a : Fin 8) (r : Fin 32) (s : State) {t : State} (hX : execVqmuls x d a r s = .next t) : Upd 248532594327565 s t := by
  unfold execVqmuls at hX
  cases hX
  have h0 := Upd.refl 248532594327565 s
  repeat' first | with_reducible assumption | (guard_target =~ (_ ||| _ : Nat) = _; decide) | with_reducible apply vsOp_upd

theorem execVqmacs_upd (x : Slot) (d : Fin 8) (a : Fin 8) (r : Fin 32) (s : State) {t : State} (hX : execVqmacs x d a r s = .next t) : Upd 248532594327565 s t := by
  unfold execVqmacs at hX
  cases hX
  have h0 := Upd.refl 248532594327565 s
  repeat' first | with_reducible assumption | (guard_target =~ (_ ||| _ : Nat) = _; decide) | with_reducible apply vsAcc_upd

theorem execVfadd_upd (x : Slot) (d : Fin 8) (a : Fin 8) (b : Fin 8) (s : State) {t : State} (hX : execVfadd x d a b s = .next t) : Upd 248532594327565 s t := by
  unfold execVfadd at hX
  cases hX
  have h0 := Upd.refl 248532594327565 s
  repeat' first | with_reducible assumption | (guard_target =~ (_ ||| _ : Nat) = _; decide) | with_reducible apply vvOp_upd

theorem execVfsub_upd (x : Slot) (d : Fin 8) (a : Fin 8) (b : Fin 8) (s : State) {t : State} (hX : execVfsub x d a b s = .next t) : Upd 248532594327565 s t := by
  unfold execVfsub at hX
  cases hX
  have h0 := Upd.refl 248532594327565 s
  repeat' first | with_reducible assumption | (guard_target =~ (_ ||| _ : Nat) = _; decide) | with_reducible apply vvOp_upd

theorem execVfmul_upd (x : Slot) (d : Fin 8) (a : Fin 8) (b : Fin 8) (s : State) {t : State} (hX : execVfmul x d a b s = .next t) : Upd 248532594327565 s t := by
  unfold execVfmul at hX
  cases hX
  have h0 := Upd.refl 248532594327565 s
  repeat' first | with_reducible assumption | (guard_target =~ (_ ||| _ : Nat) = _; decide) | with_reducible apply vvOp_upd

theorem execVfma_upd (x : Slot) (d : Fin 8) (a : Fin 8) (b : Fin 8) (s : State) {t : State} (hX : execVfma x d a b s = .next t) : Upd 248532594327565 s t := by
  unfold execVfma at hX
  cases hX
  have h0 := Upd.refl 248532594327565 s
  repeat' first | with_reducible assumption | (guard_target =~ (_ ||| _ : Nat) = _; decide) | with_reducible apply vvAcc_upd

theorem execVfmuls_upd (x : Slot) (d : Fin 8) (a : Fin 8) (r : Fin 32) (s : State) {t : State} (hX : execVfmuls x d a r s = .next t) : Upd 248532594327565 s t := by
  unfold execVfmuls at hX
  cases hX
  have h0 := Upd.refl 248532594327565 s
  repeat' first | with_reducible assumption | (guard_target =~ (_ ||| _ : Nat) = _; decide) | with_reducible apply vsOp_upd

theorem execVfmas_upd (x : Slot) (d : Fin 8) (a : Fin 8) (r : Fin 32) (s : State) {t : State} (hX : execVfmas x d a r s = .next t) : Upd 248532594327565 s t := by
  unfold execVfmas at hX
  cases hX
  have h0 := Upd.refl 248532594327565 s
  repeat' first | with_reducible assumption | (guard_target =~ (_ ||| _ : Nat) = _; decide) | with_reducible apply vsAcc_upd

theorem execVfneg_upd (x : Slot) (d : Fin 8) (a : Fin 8) (s : State) {t : State} (hX : execVfneg x d a s = .next t) : Upd 248532594327565 s t := by
  unfold execVfneg at hX
  cases hX
  have h0 := Upd.refl 248532594327565 s
  repeat' first | with_reducible assumption | (guard_target =~ (_ ||| _ : Nat) = _; decide) | with_reducible apply vOp1_upd

theorem execVfabs_upd (x : Slot) (d : Fin 8) (a : Fin 8) (s : State) {t : State} (hX : execVfabs x d a s = .next t) : Upd 248532594327565 s t := by
  unfold execVfabs at hX
  cases hX
  have h0 := Upd.refl 248532594327565 s
  repeat' first | with_reducible assumption | (guard_target =~ (_ ||| _ : Nat) = _; decide) | with_reducible apply vOp1_upd

theorem execVfmin_upd (x : Slot) (d : Fin 8) (a : Fin 8) (b : Fin 8) (s : State) {t : State} (hX : execVfmin x d a b s = .next t) : Upd 248532594327565 s t := by
  unfold execVfmin at hX
  cases hX
  have h0 := Upd.refl 248532594327565 s
  repeat' first | with_reducible assumption | (guard_target =~ (_ ||| _ : Nat) = _; decide) | with_reducible apply vvOp_upd

theorem execVfmax_upd (x : Slot) (d : Fin 8) (a : Fin 8) (b : Fin 8) (s : State) {t : State} (hX : execVfmax x d a b s = .next t) : Upd 248532594327565 s t := by
  unfold execVfmax at hX
  cases hX
  have h0 := Upd.refl 248532594327565 s
  repeat' first | with_reducible assumption | (guard_target =~ (_ ||| _ : Nat) = _; decide) | with_reducible apply vvOp_upd

theorem execVq2f_upd (x : Slot) (d : Fin 8) (a : Fin 8) (s : State) {t : State} (hX : execVq2f x d a s = .next t) : Upd 248532594327565 s t := by
  unfold execVq2f at hX
  cases hX
  have h0 := Upd.refl 248532594327565 s
  repeat' first | with_reducible assumption | (guard_target =~ (_ ||| _ : Nat) = _; decide) | with_reducible apply vOp1_upd

theorem execVf2q_upd (x : Slot) (d : Fin 8) (a : Fin 8) (s : State) {t : State} (hX : execVf2q x d a s = .next t) : Upd 248532594327565 s t := by
  unfold execVf2q at hX
  cases hX
  have h0 := Upd.refl 248532594327565 s
  repeat' first | with_reducible assumption | (guard_target =~ (_ ||| _ : Nat) = _; decide) | with_reducible apply vOp1_upd

theorem execVf2i_upd (x : Slot) (d : Fin 8) (a : Fin 8) (s : State) {t : State} (hX : execVf2i x d a s = .next t) : Upd 248532594327565 s t := by
  unfold execVf2i at hX
  cases hX
  have h0 := Upd.refl 248532594327565 s
  repeat' first | with_reducible assumption | (guard_target =~ (_ ||| _ : Nat) = _; decide) | with_reducible apply vOp1_upd

theorem execVi2f_upd (x : Slot) (d : Fin 8) (a : Fin 8) (s : State) {t : State} (hX : execVi2f x d a s = .next t) : Upd 248532594327565 s t := by
  unfold execVi2f at hX
  cases hX
  have h0 := Upd.refl 248532594327565 s
  repeat' first | with_reducible assumption | (guard_target =~ (_ ||| _ : Nat) = _; decide) | with_reducible apply vOp1_upd

theorem execVceq_upd (x : Slot) (d : Fin 4) (a : Fin 8) (b : Fin 8) (s : State) {t : State} (hX : execVceq x d a b s = .next t) : Upd 248532594327565 s t := by
  unfold execVceq at hX
  cases hX
  have h0 := Upd.refl 248532594327565 s
  repeat' first | with_reducible assumption | (guard_target =~ (_ ||| _ : Nat) = _; decide) | with_reducible apply vcmpOp_upd

theorem execVclt_upd (x : Slot) (d : Fin 4) (a : Fin 8) (b : Fin 8) (s : State) {t : State} (hX : execVclt x d a b s = .next t) : Upd 248532594327565 s t := by
  unfold execVclt at hX
  cases hX
  have h0 := Upd.refl 248532594327565 s
  repeat' first | with_reducible assumption | (guard_target =~ (_ ||| _ : Nat) = _; decide) | with_reducible apply vcmpOp_upd

theorem execVcltu_upd (x : Slot) (d : Fin 4) (a : Fin 8) (b : Fin 8) (s : State) {t : State} (hX : execVcltu x d a b s = .next t) : Upd 248532594327565 s t := by
  unfold execVcltu at hX
  cases hX
  have h0 := Upd.refl 248532594327565 s
  repeat' first | with_reducible assumption | (guard_target =~ (_ ||| _ : Nat) = _; decide) | with_reducible apply vcmpOp_upd

theorem execVfceq_upd (x : Slot) (d : Fin 4) (a : Fin 8) (b : Fin 8) (s : State) {t : State} (hX : execVfceq x d a b s = .next t) : Upd 248532594327565 s t := by
  unfold execVfceq at hX
  cases hX
  have h0 := Upd.refl 248532594327565 s
  repeat' first | with_reducible assumption | (guard_target =~ (_ ||| _ : Nat) = _; decide) | with_reducible apply vcmpOp_upd

theorem execVfclt_upd (x : Slot) (d : Fin 4) (a : Fin 8) (b : Fin 8) (s : State) {t : State} (hX : execVfclt x d a b s = .next t) : Upd 248532594327565 s t := by
  unfold execVfclt at hX
  cases hX
  have h0 := Upd.refl 248532594327565 s
  repeat' first | with_reducible assumption | (guard_target =~ (_ ||| _ : Nat) = _; decide) | with_reducible apply vcmpOp_upd

theorem execVfcle_upd (x : Slot) (d : Fin 4) (a : Fin 8) (b : Fin 8) (s : State) {t : State} (hX : execVfcle x d a b s = .next t) : Upd 248532594327565 s t := by
  unfold execVfcle at hX
  cases hX
  have h0 := Upd.refl 248532594327565 s
  repeat' first | with_reducible assumption | (guard_target =~ (_ ||| _ : Nat) = _; decide) | with_reducible apply vcmpOp_upd

theorem execVbcast_upd (x : Slot) (d : Fin 8) (r : Fin 32) (s : State) {t : State} (hX : execVbcast x d r s = .next t) : Upd 248532594327565 s t := by
  unfold execVbcast at hX
  cases hX
  have h0 := Upd.refl 248532594327565 s
  repeat' first | with_reducible assumption | (guard_target =~ (_ ||| _ : Nat) = _; decide) | with_reducible apply vecOp_upd

theorem execVins_upd (x : Slot) (d : Fin 8) (r : Fin 32) (lane : Fin 4) (s : State) {t : State} (hX : execVins x d r lane s = .next t) : Upd 248532594327565 s t := by
  unfold execVins at hX
  cases hX
  have h0 := Upd.refl 248532594327565 s
  repeat' first | with_reducible assumption | (guard_target =~ (_ ||| _ : Nat) = _; decide) | with_reducible apply Upd.ite | with_reducible apply runCore_upd

theorem execVext_upd (x : Slot) (r : Fin 32) (a : Fin 8) (lane : Fin 4) (s : State) {t : State} (hX : execVext x r a lane s = .next t) : Upd 248532594327565 s t := by
  unfold execVext at hX
  cases hX
  have h0 := Upd.refl 248532594327565 s
  repeat' first | with_reducible assumption | (guard_target =~ (_ ||| _ : Nat) = _; decide) | with_reducible apply scalarOp_upd

theorem placeOp_upd {M0 : Nat} {s0 : State} {x : Slot} {d : Fin 8} {a : Fin 8} {from_ : Nat → Nat} {s : State} (hU : Upd M0 s0 s) (hM : 248532594327565 ||| M0 = M0) : Upd M0 s0 (placeOp x d a from_ s) := by
  refine Upd.step hU ?_ hM
  clear hU hM
  unfold placeOp
  have h0 := Upd.refl 248532594327565 s
  repeat' first | with_reducible assumption | (guard_target =~ (_ ||| _ : Nat) = _; decide) | with_reducible apply vecOp_upd

theorem execVmov_upd (x : Slot) (d : Fin 8) (a : Fin 8) (s : State) {t : State} (hX : execVmov x d a s = .next t) : Upd 248532594327565 s t := by
  unfold execVmov at hX
  cases hX
  have h0 := Upd.refl 248532594327565 s
  repeat' first | with_reducible assumption | (guard_target =~ (_ ||| _ : Nat) = _; decide) | with_reducible apply placeOp_upd

theorem execVdup2_upd (x : Slot) (d : Fin 8) (a : Fin 8) (s : State) {t : State} (hX : execVdup2 x d a s = .next t) : Upd 248532594327565 s t := by
  unfold execVdup2 at hX
  cases hX
  have h0 := Upd.refl 248532594327565 s
  repeat' first | with_reducible assumption | (guard_target =~ (_ ||| _ : Nat) = _; decide) | with_reducible apply placeOp_upd

theorem execVswap_upd (x : Slot) (d : Fin 8) (a : Fin 8) (s : State) {t : State} (hX : execVswap x d a s = .next t) : Upd 248532594327565 s t := by
  unfold execVswap at hX
  cases hX
  have h0 := Upd.refl 248532594327565 s
  repeat' first | with_reducible assumption | (guard_target =~ (_ ||| _ : Nat) = _; decide) | with_reducible apply placeOp_upd

theorem execVfhadd4_upd (x : Slot) (d : Fin 8) (a : Fin 8) (s : State) {t : State} (hX : execVfhadd4 x d a s = .next t) : Upd 248532594327565 s t := by
  unfold execVfhadd4 at hX
  cases hX
  have h0 := Upd.refl 248532594327565 s
  repeat' first | with_reducible assumption | (guard_target =~ (_ ||| _ : Nat) = _; decide) | with_reducible apply vecOp_upd

theorem execVfhadd2_upd (x : Slot) (d : Fin 8) (a : Fin 8) (s : State) {t : State} (hX : execVfhadd2 x d a s = .next t) : Upd 248532594327565 s t := by
  unfold execVfhadd2 at hX
  cases hX
  have h0 := Upd.refl 248532594327565 s
  repeat' first | with_reducible assumption | (guard_target =~ (_ ||| _ : Nat) = _; decide) | with_reducible apply vecOp_upd

theorem execVqhadd2_upd (x : Slot) (d : Fin 8) (a : Fin 8) (s : State) {t : State} (hX : execVqhadd2 x d a s = .next t) : Upd 248532594327565 s t := by
  unfold execVqhadd2 at hX
  cases hX
  have h0 := Upd.refl 248532594327565 s
  repeat' first | with_reducible assumption | (guard_target =~ (_ ||| _ : Nat) = _; decide) | with_reducible apply vecOp_upd

end Sys2Proof.Machine
end

