-- ==== Sys2Proof/Laws/UpdPhaseTrig.lean ====
section
/-! SUPPORT. What each operation of Machine/PhaseTrig.lean may change. -/

set_option linter.unusedTactic false
set_option linter.unreachableTactic false

namespace Sys2Proof.Machine

theorem phaseOp_upd {M0 : Nat} {s0 : State} {x : Slot} {d : Fin 4} {reads : List Nat} {lat : Nat} {f : Core → BitVec 64 × FlagSet} {s : State} (hU : Upd M0 s0 s) (hM : 248532594327565 ||| M0 = M0) : Upd M0 s0 (phaseOp x d reads lat f s) := by
  refine Upd.step hU ?_ hM
  clear hU hM
  unfold phaseOp
  have h0 := Upd.refl 248532594327565 s
  repeat' first | with_reducible assumption | (guard_target =~ (_ ||| _ : Nat) = _; decide) | with_reducible apply Upd.ite | with_reducible apply runCore_upd

theorem execPadd_upd (x : Slot) (d : Fin 4) (a : Fin 4) (b : Fin 4) (s : State) {t : State} (hX : execPadd x d a b s = .next t) : Upd 248532594327565 s t := by
  unfold execPadd at hX
  cases hX
  have h0 := Upd.refl 248532594327565 s
  repeat' first | with_reducible assumption | (guard_target =~ (_ ||| _ : Nat) = _; decide) | with_reducible apply phaseOp_upd

theorem execPsub_upd (x : Slot) (d : Fin 4) (a : Fin 4) (b : Fin 4) (s : State) {t : State} (hX : execPsub x d a b s = .next t) : Upd 248532594327565 s t := by
  unfold execPsub at hX
  cases hX
  have h0 := Upd.refl 248532594327565 s
  repeat' first | with_reducible assumption | (guard_target =~ (_ ||| _ : Nat) = _; decide) | with_reducible apply phaseOp_upd

theorem execPmov_upd (x : Slot) (d : Fin 4) (a : Fin 4) (s : State) {t : State} (hX : execPmov x d a s = .next t) : Upd 248532594327565 s t := by
  unfold execPmov at hX
  cases hX
  have h0 := Upd.refl 248532594327565 s
  repeat' first | with_reducible assumption | (guard_target =~ (_ ||| _ : Nat) = _; decide) | with_reducible apply phaseOp_upd

theorem execPpack_upd (x : Slot) (d : Fin 4) (hi : Fin 32) (lo : Fin 32) (s : State) {t : State} (hX : execPpack x d hi lo s = .next t) : Upd 248532594327565 s t := by
  unfold execPpack at hX
  cases hX
  have h0 := Upd.refl 248532594327565 s
  repeat' first | with_reducible assumption | (guard_target =~ (_ ||| _ : Nat) = _; decide) | with_reducible apply phaseOp_upd

theorem execPlo_upd (x : Slot) (d : Fin 32) (a : Fin 4) (s : State) {t : State} (hX : execPlo x d a s = .next t) : Upd 248532594327565 s t := by
  unfold execPlo at hX
  cases hX
  have h0 := Upd.refl 248532594327565 s
  repeat' first | with_reducible assumption | (guard_target =~ (_ ||| _ : Nat) = _; decide) | with_reducible apply scalarOp_upd

theorem execPhi_upd (x : Slot) (d : Fin 32) (a : Fin 4) (s : State) {t : State} (hX : execPhi x d a s = .next t) : Upd 248532594327565 s t := by
  unfold execPhi at hX
  cases hX
  have h0 := Upd.refl 248532594327565 s
  repeat' first | with_reducible assumption | (guard_target =~ (_ ||| _ : Nat) = _; decide) | with_reducible apply scalarOp_upd

theorem execP2f_upd (x : Slot) (d : Fin 32) (a : Fin 4) (s : State) {t : State} (hX : execP2f x d a s = .next t) : Upd 248532594327565 s t := by
  unfold execP2f at hX
  cases hX
  have h0 := Upd.refl 248532594327565 s
  repeat' first | with_reducible assumption | (guard_target =~ (_ ||| _ : Nat) = _; decide) | with_reducible apply scalarOp_upd

theorem execF2p_upd (x : Slot) (d : Fin 4) (r : Fin 32) (s : State) {t : State} (hX : execF2p x d r s = .next t) : Upd 248532594327565 s t := by
  unfold execF2p at hX
  cases hX
  have h0 := Upd.refl 248532594327565 s
  repeat' first | with_reducible assumption | (guard_target =~ (_ ||| _ : Nat) = _; decide) | with_reducible apply phaseOp_upd

theorem execPdiff_upd (x : Slot) (d : Fin 32) (a : Fin 4) (b : Fin 4) (s : State) {t : State} (hX : execPdiff x d a b s = .next t) : Upd 248532594327565 s t := by
  unfold execPdiff at hX
  cases hX
  have h0 := Upd.refl 248532594327565 s
  repeat' first | with_reducible assumption | (guard_target =~ (_ ||| _ : Nat) = _; decide) | with_reducible apply scalarOp_upd

theorem trigOp_upd {M0 : Nat} {s0 : State} {x : Slot} {d : Fin 32} {a : Fin 4} {lane : Nat} {q : Bool} {s : State} (hU : Upd M0 s0 s) (hM : 248532594327565 ||| M0 = M0) : Upd M0 s0 (trigOp x d a lane q s) := by
  refine Upd.step hU ?_ hM
  clear hU hM
  unfold trigOp
  have h0 := Upd.refl 248532594327565 s
  repeat' first | with_reducible assumption | (guard_target =~ (_ ||| _ : Nat) = _; decide) | with_reducible apply scalarOp_upd

theorem rotOp_upd {M0 : Nat} {s0 : State} {x : Slot} {d : Fin 8} {a : Fin 4} {q : Bool} {s : State} (hU : Upd M0 s0 s) (hM : 248532594327565 ||| M0 = M0) : Upd M0 s0 (rotOp x d a q s) := by
  refine Upd.step hU ?_ hM
  clear hU hM
  unfold rotOp
  have h0 := Upd.refl 248532594327565 s
  repeat' first | with_reducible assumption | (guard_target =~ (_ ||| _ : Nat) = _; decide) | with_reducible apply vecOp_upd

theorem execSinF_upd (x : Slot) (d : Fin 32) (a : Fin 4) (s : State) {t : State} (hX : execSinF x d a s = .next t) : Upd 248532594327565 s t := by
  unfold execSinF at hX
  cases hX
  have h0 := Upd.refl 248532594327565 s
  repeat' first | with_reducible assumption | (guard_target =~ (_ ||| _ : Nat) = _; decide) | with_reducible apply trigOp_upd

theorem execCosF_upd (x : Slot) (d : Fin 32) (a : Fin 4) (s : State) {t : State} (hX : execCosF x d a s = .next t) : Upd 248532594327565 s t := by
  unfold execCosF at hX
  cases hX
  have h0 := Upd.refl 248532594327565 s
  repeat' first | with_reducible assumption | (guard_target =~ (_ ||| _ : Nat) = _; decide) | with_reducible apply trigOp_upd

theorem execRotF_upd (x : Slot) (d : Fin 8) (a : Fin 4) (s : State) {t : State} (hX : execRotF x d a s = .next t) : Upd 248532594327565 s t := by
  unfold execRotF at hX
  cases hX
  have h0 := Upd.refl 248532594327565 s
  repeat' first | with_reducible assumption | (guard_target =~ (_ ||| _ : Nat) = _; decide) | with_reducible apply rotOp_upd

theorem execSinQ_upd (x : Slot) (d : Fin 32) (a : Fin 4) (s : State) {t : State} (hX : execSinQ x d a s = .next t) : Upd 248532594327565 s t := by
  unfold execSinQ at hX
  cases hX
  have h0 := Upd.refl 248532594327565 s
  repeat' first | with_reducible assumption | (guard_target =~ (_ ||| _ : Nat) = _; decide) | with_reducible apply trigOp_upd

theorem execCosQ_upd (x : Slot) (d : Fin 32) (a : Fin 4) (s : State) {t : State} (hX : execCosQ x d a s = .next t) : Upd 248532594327565 s t := by
  unfold execCosQ at hX
  cases hX
  have h0 := Upd.refl 248532594327565 s
  repeat' first | with_reducible assumption | (guard_target =~ (_ ||| _ : Nat) = _; decide) | with_reducible apply trigOp_upd

theorem execRotQ_upd (x : Slot) (d : Fin 8) (a : Fin 4) (s : State) {t : State} (hX : execRotQ x d a s = .next t) : Upd 248532594327565 s t := by
  unfold execRotQ at hX
  cases hX
  have h0 := Upd.refl 248532594327565 s
  repeat' first | with_reducible assumption | (guard_target =~ (_ ||| _ : Nat) = _; decide) | with_reducible apply rotOp_upd

end Sys2Proof.Machine
end

