-- ==== Sys2Proof/Laws/UpdControl.lean ====
section
/-! SUPPORT. What each operation of Machine/Control.lean may change. -/

set_option linter.unusedTactic false
set_option linter.unreachableTactic false

namespace Sys2Proof.Machine

theorem branchOp_upd {M0 : Nat} {s0 : State} {k : CoreSel} {cond : BrCond} {reads : List Nat} {link : Bool} {target : Core → Word} {s : State} (hU : Upd M0 s0 s) (hM : 248532594327565 ||| M0 = M0) : Upd M0 s0 (branchOp k cond reads link target s) := by
  refine Upd.step hU ?_ hM
  clear hU hM
  unfold branchOp
  have h0 := Upd.refl 248532594327565 s
  repeat' first | with_reducible assumption | (guard_target =~ (_ ||| _ : Nat) = _; decide) | (fail_if_no_progress extract_lets +onlyGivenNames x; first | (have hx : Upd 248532594327565 s x := (by unfold x; repeat' first | with_reducible assumption | (guard_target =~ (_ ||| _ : Nat) = _; decide) | with_reducible apply Upd.ite | with_reducible refine fetched_upd ?_ (fun _ _ => ?_) ?_ | with_reducible apply issueObs_upd | with_reducible apply State.setCore_upd); try clear_value x) | (have h9 : (x : Peak) = x := rfl; clear h9) | (have h9 : (x : Saddle) = x := rfl; clear h9) | (have h9 : (x : Pair) = x := rfl; clear h9) | (have h9 : (x : Leg) = x := rfl; clear h9) | clear_value x | skip) | with_reducible apply Upd.ite | with_reducible refine fetched_upd ?_ (fun _ _ => ?_) ?_ | with_reducible apply issueObs_upd | with_reducible apply State.setCore_upd

theorem execB_upd (k : CoreSel) (cond : BrCond) (off : BitVec 16) (s : State) {t : State} (hX : execB k cond off s = .next t) : Upd 248532594327565 s t := by
  unfold execB at hX
  cases hX
  have h0 := Upd.refl 248532594327565 s
  repeat' first | with_reducible assumption | (guard_target =~ (_ ||| _ : Nat) = _; decide) | with_reducible apply branchOp_upd

theorem execBl_upd (k : CoreSel) (cond : BrCond) (off : BitVec 16) (s : State) {t : State} (hX : execBl k cond off s = .next t) : Upd 248532594327565 s t := by
  unfold execBl at hX
  cases hX
  have h0 := Upd.refl 248532594327565 s
  repeat' first | with_reducible assumption | (guard_target =~ (_ ||| _ : Nat) = _; decide) | with_reducible apply branchOp_upd

theorem execJr_upd (k : CoreSel) (cond : JrCond) (rs : Fin 32) (s : State) {t : State} (hX : execJr k cond rs s = .next t) : Upd 248532594327565 s t := by
  unfold execJr at hX
  cases hX
  have h0 := Upd.refl 248532594327565 s
  repeat' first | with_reducible assumption | (guard_target =~ (_ ||| _ : Nat) = _; decide) | with_reducible apply branchOp_upd

theorem consumeLatch_upd {M0 : Nat} {s0 : State} {k : CoreSel} {ev : Nat} {s : State} (hU : Upd M0 s0 s) (hM : 12 ||| M0 = M0) : Upd M0 s0 (consumeLatch k ev s) := by
  refine Upd.step hU ?_ hM
  clear hU hM
  unfold consumeLatch
  have h0 := Upd.refl 12 s
  repeat' first | with_reducible assumption | (guard_target =~ (_ ||| _ : Nat) = _; decide) | (fail_if_no_progress extract_lets +onlyGivenNames x; first | (have hx : Upd 12 s x := (by unfold x; repeat' first | with_reducible assumption | (guard_target =~ (_ ||| _ : Nat) = _; decide) | with_reducible apply Upd.ite | with_reducible apply State.setCore_upd | with_reducible apply State.setTask_upd); try clear_value x) | (have h9 : (x : Peak) = x := rfl; clear h9) | (have h9 : (x : Saddle) = x := rfl; clear h9) | (have h9 : (x : Pair) = x := rfl; clear h9) | (have h9 : (x : Leg) = x := rfl; clear h9) | clear_value x | skip) | with_reducible apply Upd.ite | with_reducible apply State.setCore_upd | with_reducible apply State.setTask_upd

theorem execWait_upd (k : CoreSel) (ev : BitVec 8) (s : State) {t : State} (hX : execWait k ev s = .next t) : Upd 248532594327565 s t := by
  unfold execWait at hX
  cases hX
  have h0 := Upd.refl 248532594327565 s
  repeat' first | with_reducible assumption | (guard_target =~ (_ ||| _ : Nat) = _; decide) | (fail_if_no_progress extract_lets +onlyGivenNames x; first | (have hx : Upd 248532594327565 s x := (by unfold x; repeat' first | with_reducible assumption | (guard_target =~ (_ ||| _ : Nat) = _; decide) | with_reducible apply Upd.ite | with_reducible refine fetched_upd ?_ (fun _ _ => ?_) ?_ | with_reducible apply passCore_upd | with_reducible apply coreFault_upd | with_reducible apply consumeLatch_upd | with_reducible apply issueObs_upd | with_reducible apply State.setCore_upd); try clear_value x) | (have h9 : (x : Peak) = x := rfl; clear h9) | (have h9 : (x : Saddle) = x := rfl; clear h9) | (have h9 : (x : Pair) = x := rfl; clear h9) | (have h9 : (x : Leg) = x := rfl; clear h9) | clear_value x | skip) | with_reducible apply Upd.ite | with_reducible refine fetched_upd ?_ (fun _ _ => ?_) ?_ | with_reducible apply passCore_upd | with_reducible apply coreFault_upd | with_reducible apply consumeLatch_upd | with_reducible apply issueObs_upd | with_reducible apply State.setCore_upd

theorem execWaitResume_upd (k : CoreSel) (s : State) {t : State} (hX : execWaitResume k s = .next t) : Upd 12 s t := by
  unfold execWaitResume at hX
  cases hX
  have h0 := Upd.refl 12 s
  repeat' first | with_reducible assumption | (guard_target =~ (_ ||| _ : Nat) = _; decide) | (fail_if_no_progress extract_lets +onlyGivenNames x; first | (have hx : Upd 12 s x := (by unfold x; repeat' first | with_reducible assumption | (guard_target =~ (_ ||| _ : Nat) = _; decide) | with_reducible apply Upd.ite | with_reducible apply consumeLatch_upd | with_reducible apply State.setCore_upd | split); try clear_value x) | (have h9 : (x : Peak) = x := rfl; clear h9) | (have h9 : (x : Saddle) = x := rfl; clear h9) | (have h9 : (x : Pair) = x := rfl; clear h9) | (have h9 : (x : Leg) = x := rfl; clear h9) | clear_value x | skip) | with_reducible apply Upd.ite | with_reducible apply consumeLatch_upd | with_reducible apply State.setCore_upd | split

theorem illegal_upd {M0 : Nat} {s0 : State} {k : CoreSel} {s : State} (hU : Upd M0 s0 s) (hM : 248532594327565 ||| M0 = M0) : Upd M0 s0 (illegal k s) := by
  refine Upd.step hU ?_ hM
  clear hU hM
  unfold illegal
  have h0 := Upd.refl 248532594327565 s
  repeat' first | with_reducible assumption | (guard_target =~ (_ ||| _ : Nat) = _; decide) | with_reducible apply Upd.ite | with_reducible apply passCore_upd | with_reducible apply coreFault_upd

theorem execIllegalWord_upd (x : CoreWord) (s : State) {t : State} (hX : execIllegalWord x s = .next t) : Upd 248532594327565 s t := by
  unfold execIllegalWord at hX
  cases hX
  have h0 := Upd.refl 248532594327565 s
  repeat' first | with_reducible assumption | (guard_target =~ (_ ||| _ : Nat) = _; decide) | with_reducible apply Upd.ite | with_reducible refine fetched_upd ?_ (fun _ _ => ?_) ?_ | with_reducible apply illegal_upd

theorem execSignal_upd (x : Slot) (ev : BitVec 8) (s : State) {t : State} (hX : execSignal x ev s = .next t) : Upd 1374432501170189 s t := by
  unfold execSignal at hX
  cases hX
  have h0 := Upd.refl 1374432501170189 s
  repeat' first | with_reducible assumption | (guard_target =~ (_ ||| _ : Nat) = _; decide) | (fail_if_no_progress extract_lets +onlyGivenNames x; first | (have hx : Upd 1374432501170189 s x := (by unfold x; repeat' first | with_reducible assumption | (guard_target =~ (_ ||| _ : Nat) = _; decide) | with_reducible apply Upd.ite | with_reducible refine fetched_upd ?_ (fun _ _ => ?_) ?_ | with_reducible apply passCore_upd | with_reducible apply State.signal_upd | with_reducible apply illegal_upd); try clear_value x) | (have h9 : (x : Peak) = x := rfl; clear h9) | (have h9 : (x : Saddle) = x := rfl; clear h9) | (have h9 : (x : Pair) = x := rfl; clear h9) | (have h9 : (x : Leg) = x := rfl; clear h9) | clear_value x | skip) | with_reducible apply Upd.ite | with_reducible refine fetched_upd ?_ (fun _ _ => ?_) ?_ | with_reducible apply passCore_upd | with_reducible apply State.signal_upd | with_reducible apply illegal_upd

theorem execEndTask_upd (k : CoreSel) (s : State) {t : State} (hX : execEndTask k s = .next t) : Upd 248532594327565 s t := by
  unfold execEndTask at hX
  cases hX
  have h0 := Upd.refl 248532594327565 s
  repeat' first | with_reducible assumption | (guard_target =~ (_ ||| _ : Nat) = _; decide) | (fail_if_no_progress extract_lets +onlyGivenNames x; first | (have hx : Upd 248532594327565 s x := (by unfold x; repeat' first | with_reducible assumption | (guard_target =~ (_ ||| _ : Nat) = _; decide) | with_reducible apply Upd.ite | with_reducible refine fetched_upd ?_ (fun _ _ => ?_) ?_ | with_reducible apply passCore_upd | with_reducible apply monitorViolation_upd | with_reducible apply endInstance_upd); try clear_value x) | (have h9 : (x : Peak) = x := rfl; clear h9) | (have h9 : (x : Saddle) = x := rfl; clear h9) | (have h9 : (x : Pair) = x := rfl; clear h9) | (have h9 : (x : Leg) = x := rfl; clear h9) | clear_value x | skip) | with_reducible apply Upd.ite | with_reducible refine fetched_upd ?_ (fun _ _ => ?_) ?_ | with_reducible apply passCore_upd | with_reducible apply monitorViolation_upd | with_reducible apply endInstance_upd

theorem execFence_upd (x : Slot) (s : State) {t : State} (hX : execFence x s = .next t) : Upd 248532594327565 s t := by
  unfold execFence at hX
  cases hX
  have h0 := Upd.refl 248532594327565 s
  repeat' first | with_reducible assumption | (guard_target =~ (_ ||| _ : Nat) = _; decide) | (fail_if_no_progress extract_lets +onlyGivenNames x; first | (have hx : Upd 248532594327565 s x := (by unfold x; repeat' first | with_reducible assumption | (guard_target =~ (_ ||| _ : Nat) = _; decide) | with_reducible apply Upd.ite | with_reducible refine fetched_upd ?_ (fun _ _ => ?_) ?_ | with_reducible apply passCore_upd); try clear_value x) | (have h9 : (x : Peak) = x := rfl; clear h9) | (have h9 : (x : Saddle) = x := rfl; clear h9) | (have h9 : (x : Pair) = x := rfl; clear h9) | (have h9 : (x : Leg) = x := rfl; clear h9) | clear_value x | skip) | with_reducible apply Upd.ite | with_reducible refine fetched_upd ?_ (fun _ _ => ?_) ?_ | with_reducible apply passCore_upd

end Sys2Proof.Machine
end

