-- ==== Sys2Proof/Laws/UpdTraverse.lean ====
section
/-! SUPPORT. What each operation of Machine/Traverse.lean may change. -/

set_option linter.unusedTactic false
set_option linter.unreachableTactic false

namespace Sys2Proof.Machine

theorem trvBegin_upd {M0 : Nat} {s0 : State} {p : PeakId} {c : TrvCmd} {s : State} (hU : Upd M0 s0 s) (hM : 8589934593 ||| M0 = M0) : Upd M0 s0 (trvBegin p c s) := by
  refine Upd.step hU ?_ hM
  clear hU hM
  unfold trvBegin
  have h0 := Upd.refl 8589934593 s
  repeat' first | with_reducible assumption | (guard_target =~ (_ ||| _ : Nat) = _; decide) | (fail_if_no_progress extract_lets +onlyGivenNames x; first | (have hx : Upd 8589934593 s x := (by unfold x; repeat' first | with_reducible assumption | (guard_target =~ (_ ||| _ : Nat) = _; decide) | with_reducible refine Upd.setPeak ?_ ?_ | with_reducible apply State.setFld_upd | exact PeakUpd.refl _ _ | with_reducible apply PeakUpd.ite | with_reducible apply PeakUpd.lit | exact Or.inl (by decide) | exact Or.inr rfl); try clear_value x) | (have h9 : (x : Peak) = x := rfl; clear h9) | (have h9 : (x : Saddle) = x := rfl; clear h9) | (have h9 : (x : Pair) = x := rfl; clear h9) | (have h9 : (x : Leg) = x := rfl; clear h9) | clear_value x | skip) | with_reducible refine Upd.setPeak ?_ ?_ | with_reducible apply State.setFld_upd | exact PeakUpd.refl _ _ | with_reducible apply PeakUpd.ite | with_reducible apply PeakUpd.lit | exact Or.inl (by decide) | exact Or.inr rfl

theorem trvCommand_upd {M0 : Nat} {s0 : State} {p : PeakId} {op : Nat} {n : Nat} {s : State} (hU : Upd M0 s0 s) (hM : 248532577550349 ||| M0 = M0) : Upd M0 s0 (trvCommand p op n s) := by
  refine Upd.step hU ?_ hM
  clear hU hM
  unfold trvCommand
  have h0 := Upd.refl 248532577550349 s
  repeat' first | with_reducible assumption | (guard_target =~ (_ ||| _ : Nat) = _; decide) | (fail_if_no_progress extract_lets +onlyGivenNames x; first | (have hx : Upd 248532577550349 s x := (by unfold x; repeat' first | with_reducible assumption | (guard_target =~ (_ ||| _ : Nat) = _; decide) | with_reducible apply Upd.ite | with_reducible apply State.setFld_upd | with_reducible apply trvBegin_upd | with_reducible apply trvDone_upd | with_reducible apply State.setTask_upd | with_reducible apply unloadTask_upd | with_reducible apply trvRefresh_upd | with_reducible apply State.raise_upd); try clear_value x) | (have hx : Upd 248532577550349 s x.2 := (by unfold x; repeat' first | with_reducible assumption | (guard_target =~ (_ ||| _ : Nat) = _; decide) | with_reducible apply Upd.ite | with_reducible apply State.setFld_upd | with_reducible apply trvBegin_upd | with_reducible apply trvDone_upd | with_reducible apply State.setTask_upd | with_reducible apply unloadTask_upd | with_reducible apply trvRefresh_upd | with_reducible apply State.raise_upd); try clear_value x) | (have h9 : (x : Peak) = x := rfl; clear h9) | (have h9 : (x : Saddle) = x := rfl; clear h9) | (have h9 : (x : Pair) = x := rfl; clear h9) | (have h9 : (x : Leg) = x := rfl; clear h9) | clear_value x | skip) | with_reducible apply Upd.ite | with_reducible apply State.setFld_upd | with_reducible apply trvBegin_upd | with_reducible apply trvDone_upd | with_reducible apply State.setTask_upd | with_reducible apply unloadTask_upd | with_reducible apply trvRefresh_upd | with_reducible apply State.raise_upd

theorem loadComplete_upd {M0 : Nat} {s0 : State} {p : PeakId} {s : State} (hU : Upd M0 s0 s) (hM : 248532577550349 ||| M0 = M0) : Upd M0 s0 (loadComplete p s) := by
  refine Upd.step hU ?_ hM
  clear hU hM
  unfold loadComplete
  have h0 := Upd.refl 248532577550349 s
  repeat' first | with_reducible assumption | (guard_target =~ (_ ||| _ : Nat) = _; decide) | (fail_if_no_progress extract_lets +onlyGivenNames x; first | (have hx : Upd 248532577550349 s x := (by unfold x; repeat' first | with_reducible assumption | (guard_target =~ (_ ||| _ : Nat) = _; decide) | with_reducible apply Upd.ite | with_reducible apply trvRefresh_upd | with_reducible apply State.setReg_upd | with_reducible apply trvDone_upd | with_reducible apply State.setTask_upd | split); try clear_value x) | (have h9 : (x : Peak) = x := rfl; clear h9) | (have h9 : (x : Saddle) = x := rfl; clear h9) | (have h9 : (x : Pair) = x := rfl; clear h9) | (have h9 : (x : Leg) = x := rfl; clear h9) | clear_value x | skip) | with_reducible apply Upd.ite | with_reducible apply trvRefresh_upd | with_reducible apply State.setReg_upd | with_reducible apply trvDone_upd | with_reducible apply State.setTask_upd | split

theorem replaceRefused_upd {M0 : Nat} {s0 : State} {p : PeakId} {n : Nat} {code : Nat} {s : State} (hU : Upd M0 s0 s) (hM : 248532577550349 ||| M0 = M0) : Upd M0 s0 (replaceRefused p n code s) := by
  refine Upd.step hU ?_ hM
  clear hU hM
  unfold replaceRefused
  have h0 := Upd.refl 248532577550349 s
  repeat' first | with_reducible assumption | (guard_target =~ (_ ||| _ : Nat) = _; decide) | (fail_if_no_progress extract_lets +onlyGivenNames x; first | (have hx : Upd 248532577550349 s x := (by unfold x; repeat' first | with_reducible assumption | (guard_target =~ (_ ||| _ : Nat) = _; decide) | with_reducible apply State.setTask_upd | with_reducible apply trvDone_upd | with_reducible apply trvRefresh_upd | with_reducible apply State.setFld_upd); try clear_value x) | (have h9 : (x : Peak) = x := rfl; clear h9) | (have h9 : (x : Saddle) = x := rfl; clear h9) | (have h9 : (x : Pair) = x := rfl; clear h9) | (have h9 : (x : Leg) = x := rfl; clear h9) | clear_value x | skip) | with_reducible apply State.setTask_upd | with_reducible apply trvDone_upd | with_reducible apply trvRefresh_upd | with_reducible apply State.setFld_upd

theorem replaceChecked_upd {M0 : Nat} {s0 : State} {p : PeakId} {s : State} (hU : Upd M0 s0 s) (hM : 248532577550349 ||| M0 = M0) : Upd M0 s0 (replaceChecked p s) := by
  refine Upd.step hU ?_ hM
  clear hU hM
  unfold replaceChecked
  have h0 := Upd.refl 248532577550349 s
  repeat' first | with_reducible assumption | (guard_target =~ (_ ||| _ : Nat) = _; decide) | (fail_if_no_progress extract_lets +onlyGivenNames x; first | (have hx : Upd 248532577550349 s x := (by unfold x; repeat' first | with_reducible assumption | (guard_target =~ (_ ||| _ : Nat) = _; decide) | with_reducible apply Upd.ite | with_reducible apply State.setTask_upd | with_reducible apply replaceRefused_upd | split); try clear_value x) | (have hx : Upd 248532577550349 s x.2 := (by unfold x; repeat' first | with_reducible assumption | (guard_target =~ (_ ||| _ : Nat) = _; decide) | with_reducible apply Upd.ite | with_reducible apply State.setTask_upd | with_reducible apply replaceRefused_upd | split); try clear_value x) | (have h9 : (x : Peak) = x := rfl; clear h9) | (have h9 : (x : Saddle) = x := rfl; clear h9) | (have h9 : (x : Pair) = x := rfl; clear h9) | (have h9 : (x : Leg) = x := rfl; clear h9) | clear_value x | skip) | with_reducible apply Upd.ite | with_reducible apply State.setTask_upd | with_reducible apply replaceRefused_upd | split

theorem replaceClose_upd {M0 : Nat} {s0 : State} {p : PeakId} {s : State} (hU : Upd M0 s0 s) (hM : 248532577550349 ||| M0 = M0) : Upd M0 s0 (replaceClose p s) := by
  refine Upd.step hU ?_ hM
  clear hU hM
  unfold replaceClose
  have h0 := Upd.refl 248532577550349 s
  repeat' first | with_reducible assumption | (guard_target =~ (_ ||| _ : Nat) = _; decide) | with_reducible apply replaceRefused_upd | split

theorem replaceAtWrap_upd {M0 : Nat} {s0 : State} {p : PeakId} {s : State} (hU : Upd M0 s0 s) (hM : 248532577550349 ||| M0 = M0) : Upd M0 s0 (replaceAtWrap p s) := by
  refine Upd.step hU ?_ hM
  clear hU hM
  unfold replaceAtWrap
  have h0 := Upd.refl 248532577550349 s
  repeat' first | with_reducible assumption | (guard_target =~ (_ ||| _ : Nat) = _; decide) | with_reducible apply Upd.ite | with_reducible apply replaceRefused_upd | with_reducible apply State.setTask_upd | split

theorem replaceTake_upd {M0 : Nat} {s0 : State} {p : PeakId} {n : Nat} {s : State} (hU : Upd M0 s0 s) (hM : 248532577550349 ||| M0 = M0) : Upd M0 s0 (replaceTake p n s) := by
  refine Upd.step hU ?_ hM
  clear hU hM
  unfold replaceTake
  have h0 := Upd.refl 248532577550349 s
  repeat' first | with_reducible assumption | (guard_target =~ (_ ||| _ : Nat) = _; decide) | (fail_if_no_progress extract_lets +onlyGivenNames x; first | (have hx : Upd 248532577550349 s x := (by unfold x; repeat' first | with_reducible assumption | (guard_target =~ (_ ||| _ : Nat) = _; decide) | with_reducible apply Upd.ite | with_reducible apply State.setReg_upd | with_reducible apply State.setTask_upd | with_reducible apply trvDone_upd | with_reducible apply trvRefresh_upd | with_reducible apply State.setFld_upd | split); try clear_value x) | (have h9 : (x : Peak) = x := rfl; clear h9) | (have h9 : (x : Saddle) = x := rfl; clear h9) | (have h9 : (x : Pair) = x := rfl; clear h9) | (have h9 : (x : Leg) = x := rfl; clear h9) | clear_value x | skip) | with_reducible apply Upd.ite | with_reducible apply State.setReg_upd | with_reducible apply State.setTask_upd | with_reducible apply trvDone_upd | with_reducible apply trvRefresh_upd | with_reducible apply State.setFld_upd | split

theorem startTask_upd {M0 : Nat} {s0 : State} {k : CoreSel} {n : Nat} {s : State} (hU : Upd M0 s0 s) (hM : 248532577550349 ||| M0 = M0) : Upd M0 s0 (startTask k n s) := by
  refine Upd.step hU ?_ hM
  clear hU hM
  unfold startTask
  have h0 := Upd.refl 248532577550349 s
  repeat' first | with_reducible assumption | (guard_target =~ (_ ||| _ : Nat) = _; decide) | (fail_if_no_progress extract_lets +onlyGivenNames x; first | (have hx : Upd 248532577550349 s x := (by unfold x; repeat' first | with_reducible assumption | (guard_target =~ (_ ||| _ : Nat) = _; decide) | with_reducible apply Upd.ite | with_reducible apply replaceTake_upd | with_reducible apply State.setFld_upd | with_reducible apply State.setBit_upd | with_reducible apply State.setTask_upd | with_reducible apply State.setCore_upd | with_reducible apply tracePut_upd); try clear_value x) | (have h9 : (x : Peak) = x := rfl; clear h9) | (have h9 : (x : Saddle) = x := rfl; clear h9) | (have h9 : (x : Pair) = x := rfl; clear h9) | (have h9 : (x : Leg) = x := rfl; clear h9) | clear_value x | skip) | with_reducible apply Upd.ite | with_reducible apply replaceTake_upd | with_reducible apply State.setFld_upd | with_reducible apply State.setBit_upd | with_reducible apply State.setTask_upd | with_reducible apply State.setCore_upd | with_reducible apply tracePut_upd

theorem execTaskDispatch_upd (k : CoreSel) (s : State) {t : State} (hX : execTaskDispatch k s = .next t) : Upd 248532577550349 s t := by
  unfold execTaskDispatch at hX
  cases hX
  have h0 := Upd.refl 248532577550349 s
  repeat' first | with_reducible assumption | (guard_target =~ (_ ||| _ : Nat) = _; decide) | with_reducible apply Upd.ite | with_reducible apply startTask_upd | split

theorem deadlineExpiry_upd {M0 : Nat} {s0 : State} {p : PeakId} {n : Nat} {latched : Bool} {s : State} (hU : Upd M0 s0 s) (hM : 248523987615757 ||| M0 = M0) : Upd M0 s0 (deadlineExpiry p n latched s) := by
  refine Upd.step hU ?_ hM
  clear hU hM
  unfold deadlineExpiry
  have h0 := Upd.refl 248523987615757 s
  repeat' first | with_reducible assumption | (guard_target =~ (_ ||| _ : Nat) = _; decide) | (fail_if_no_progress extract_lets +onlyGivenNames x; first | (have hx : Upd 248523987615757 s x := (by unfold x; repeat' first | with_reducible assumption | (guard_target =~ (_ ||| _ : Nat) = _; decide) | with_reducible apply Upd.ite | with_reducible apply State.setTask_upd | with_reducible apply State.setFld_upd | with_reducible apply State.bump_upd | with_reducible apply fire_upd | with_reducible apply State.raise_upd); try clear_value x) | (have h9 : (x : Peak) = x := rfl; clear h9) | (have h9 : (x : Saddle) = x := rfl; clear h9) | (have h9 : (x : Pair) = x := rfl; clear h9) | (have h9 : (x : Leg) = x := rfl; clear h9) | clear_value x | skip) | with_reducible apply Upd.ite | with_reducible apply State.setTask_upd | with_reducible apply State.setFld_upd | with_reducible apply State.bump_upd | with_reducible apply fire_upd | with_reducible apply State.raise_upd

theorem execDeadlineExpiry_upd (p : PeakId) (task : BitVec 8) (latched : Bool) (s : State) {t : State} (hX : execDeadlineExpiry p task latched s = .next t) : Upd 248523987615757 s t := by
  unfold execDeadlineExpiry at hX
  cases hX
  have h0 := Upd.refl 248523987615757 s
  repeat' first | with_reducible assumption | (guard_target =~ (_ ||| _ : Nat) = _; decide) | with_reducible apply deadlineExpiry_upd

theorem frameSeries_upd {M0 : Nat} {s0 : State} {p : PeakId} {restart : Bool} {s : State} (hU : Upd M0 s0 s) (hM : 8 ||| M0 = M0) : Upd M0 s0 (frameSeries p restart s) := by
  refine Upd.step hU ?_ hM
  clear hU hM
  unfold frameSeries
  have h0 := Upd.refl 8 s
  repeat' first | with_reducible assumption | (guard_target =~ (_ ||| _ : Nat) = _; decide) | (fail_if_no_progress extract_lets +onlyGivenNames x; first | (have hx : Upd 8 s x := (by unfold x; repeat' first | with_reducible assumption | (guard_target =~ (_ ||| _ : Nat) = _; decide) | with_reducible apply Upd.ite | with_reducible refine Upd.forAll ?_ (fun _ _ _ => ?_) | with_reducible apply State.setTask_upd); try clear_value x) | (have h9 : (x : Peak) = x := rfl; clear h9) | (have h9 : (x : Saddle) = x := rfl; clear h9) | (have h9 : (x : Pair) = x := rfl; clear h9) | (have h9 : (x : Leg) = x := rfl; clear h9) | clear_value x | skip) | with_reducible apply Upd.ite | with_reducible refine Upd.forAll ?_ (fun _ _ _ => ?_) | with_reducible apply State.setTask_upd

theorem frameStop_upd {M0 : Nat} {s0 : State} {p : PeakId} {s : State} (hU : Upd M0 s0 s) (hM : 8 ||| M0 = M0) : Upd M0 s0 (frameStop p s) := by
  refine Upd.step hU ?_ hM
  clear hU hM
  unfold frameStop
  have h0 := Upd.refl 8 s
  repeat' first | with_reducible assumption | (guard_target =~ (_ ||| _ : Nat) = _; decide) | with_reducible refine Upd.forAll ?_ (fun _ _ _ => ?_) | with_reducible apply State.setTask_upd

theorem frameRelease_upd {M0 : Nat} {s0 : State} {p : PeakId} {n : Nat} {s : State} (hU : Upd M0 s0 s) (hM : 9 ||| M0 = M0) : Upd M0 s0 (frameRelease p n s) := by
  refine Upd.step hU ?_ hM
  clear hU hM
  unfold frameRelease
  have h0 := Upd.refl 9 s
  repeat' first | with_reducible assumption | (guard_target =~ (_ ||| _ : Nat) = _; decide) | (fail_if_no_progress extract_lets +onlyGivenNames x; first | (have hx : Upd 9 s x := (by unfold x; repeat' first | with_reducible assumption | (guard_target =~ (_ ||| _ : Nat) = _; decide) | with_reducible apply Upd.ite | with_reducible apply State.setTask_upd | with_reducible apply State.setFld_upd | with_reducible apply State.setReg_upd | with_reducible apply trvRefresh_upd | with_reducible apply State.setBit_upd | split); try clear_value x) | (have h9 : (x : Peak) = x := rfl; clear h9) | (have h9 : (x : Saddle) = x := rfl; clear h9) | (have h9 : (x : Pair) = x := rfl; clear h9) | (have h9 : (x : Leg) = x := rfl; clear h9) | clear_value x | skip) | with_reducible apply Upd.ite | with_reducible apply State.setTask_upd | with_reducible apply State.setFld_upd | with_reducible apply State.setReg_upd | with_reducible apply trvRefresh_upd | with_reducible apply State.setBit_upd | split

theorem execFrameRelease_upd (p : PeakId) (task : BitVec 8) (s : State) {t : State} (hX : execFrameRelease p task s = .next t) : Upd 9 s t := by
  unfold execFrameRelease at hX
  cases hX
  have h0 := Upd.refl 9 s
  repeat' first | with_reducible assumption | (guard_target =~ (_ ||| _ : Nat) = _; decide) | with_reducible apply frameRelease_upd

theorem summitEndDeadline_upd {M0 : Nat} {s0 : State} {k : CoreSel} {s : State} (hU : Upd M0 s0 s) (hM : 248523987615757 ||| M0 = M0) : Upd M0 s0 (summitEndDeadline k s) := by
  refine Upd.step hU ?_ hM
  clear hU hM
  unfold summitEndDeadline
  have h0 := Upd.refl 248523987615757 s
  repeat' first | with_reducible assumption | (guard_target =~ (_ ||| _ : Nat) = _; decide) | (fail_if_no_progress extract_lets +onlyGivenNames x; first | (have hx : Upd 248523987615757 s x := (by unfold x; repeat' first | with_reducible assumption | (guard_target =~ (_ ||| _ : Nat) = _; decide) | with_reducible apply Upd.ite | with_reducible apply monitorViolation_upd | with_reducible apply State.setTask_upd); try clear_value x) | (have h9 : (x : Peak) = x := rfl; clear h9) | (have h9 : (x : Saddle) = x := rfl; clear h9) | (have h9 : (x : Pair) = x := rfl; clear h9) | (have h9 : (x : Leg) = x := rfl; clear h9) | clear_value x | skip) | with_reducible apply Upd.ite | with_reducible apply monitorViolation_upd | with_reducible apply State.setTask_upd

theorem execSummitEndDeadline_upd (k : CoreSel) (s : State) {t : State} (hX : execSummitEndDeadline k s = .next t) : Upd 248523987615757 s t := by
  unfold execSummitEndDeadline at hX
  cases hX
  have h0 := Upd.refl 248523987615757 s
  repeat' first | with_reducible assumption | (guard_target =~ (_ ||| _ : Nat) = _; decide) | with_reducible apply summitEndDeadline_upd

theorem execCodeRecheck_upd (p : PeakId) (task : Fin 4) (s : State) {t : State} (hX : execCodeRecheck p task s = .next t) : Upd 248523987615757 s t := by
  unfold execCodeRecheck at hX
  cases hX
  have h0 := Upd.refl 248523987615757 s
  repeat' first | with_reducible assumption | (guard_target =~ (_ ||| _ : Nat) = _; decide) | (fail_if_no_progress extract_lets +onlyGivenNames x; first | (have hx : Upd 248523987615757 s x := (by unfold x; repeat' first | with_reducible assumption | (guard_target =~ (_ ||| _ : Nat) = _; decide) | with_reducible apply Upd.ite | with_reducible apply monitorViolation_upd); try clear_value x) | (have h9 : (x : Peak) = x := rfl; clear h9) | (have h9 : (x : Saddle) = x := rfl; clear h9) | (have h9 : (x : Pair) = x := rfl; clear h9) | (have h9 : (x : Leg) = x := rfl; clear h9) | clear_value x | skip) | with_reducible apply Upd.ite | with_reducible apply monitorViolation_upd

theorem evRaise_upd {M0 : Nat} {s0 : State} {p : PeakId} {ev : Nat} {s : State} (hU : Upd M0 s0 s) (hM : 1125899906842625 ||| M0 = M0) : Upd M0 s0 (evRaise p ev s) := by
  refine Upd.step hU ?_ hM
  clear hU hM
  unfold evRaise
  have h0 := Upd.refl 1125899906842625 s
  repeat' first | with_reducible assumption | (guard_target =~ (_ ||| _ : Nat) = _; decide) | with_reducible apply Upd.ite | with_reducible apply State.signal_upd | with_reducible apply State.raise_upd

theorem readFaultInfo_upd {M0 : Nat} {s0 : State} {p : PeakId} {c : Nat} {s : State} (hU : Upd M0 s0 s) (hM : 1 ||| M0 = M0) : Upd M0 s0 (readFaultInfo p c s).2 := by
  refine Upd.step hU ?_ hM
  clear hU hM
  unfold readFaultInfo
  have h0 := Upd.refl 1 s
  repeat' first | with_reducible assumption | (guard_target =~ (_ ||| _ : Nat) = _; decide) | (fail_if_no_progress extract_lets +onlyGivenNames x; first | (have hx : Upd 1 s x := (by unfold x; repeat' first | with_reducible assumption | (guard_target =~ (_ ||| _ : Nat) = _; decide) | with_reducible apply State.setReg_upd | with_reducible apply State.setFld_upd); try clear_value x) | (have hx : Upd 1 s x.2 := (by unfold x; repeat' first | with_reducible assumption | (guard_target =~ (_ ||| _ : Nat) = _; decide) | with_reducible apply State.setReg_upd | with_reducible apply State.setFld_upd); try clear_value x) | (have h9 : (x : Peak) = x := rfl; clear h9) | (have h9 : (x : Saddle) = x := rfl; clear h9) | (have h9 : (x : Pair) = x := rfl; clear h9) | (have h9 : (x : Leg) = x := rfl; clear h9) | clear_value x | skip) | with_reducible apply State.setReg_upd | with_reducible apply State.setFld_upd

theorem readCyclesLo_upd {M0 : Nat} {s0 : State} {k : CoreSel} {s : State} (hU : Upd M0 s0 s) (hM : 1 ||| M0 = M0) : Upd M0 s0 (readCyclesLo k s).2 := by
  refine Upd.step hU ?_ hM
  clear hU hM
  unfold readCyclesLo
  have h0 := Upd.refl 1 s
  repeat' first | with_reducible assumption | (guard_target =~ (_ ||| _ : Nat) = _; decide) | (fail_if_no_progress extract_lets +onlyGivenNames x; first | (have hx : Upd 1 s x := (by unfold x; repeat' first | with_reducible assumption | (guard_target =~ (_ ||| _ : Nat) = _; decide) | with_reducible apply State.setReg_upd); try clear_value x) | (have hx : Upd 1 s x.2 := (by unfold x; repeat' first | with_reducible assumption | (guard_target =~ (_ ||| _ : Nat) = _; decide) | with_reducible apply State.setReg_upd); try clear_value x) | (have h9 : (x : Peak) = x := rfl; clear h9) | (have h9 : (x : Saddle) = x := rfl; clear h9) | (have h9 : (x : Pair) = x := rfl; clear h9) | (have h9 : (x : Leg) = x := rfl; clear h9) | clear_value x | skip) | with_reducible apply State.setReg_upd

theorem readPeriodLo_upd {M0 : Nat} {s0 : State} {p : PeakId} {s : State} (hU : Upd M0 s0 s) (hM : 1 ||| M0 = M0) : Upd M0 s0 (readPeriodLo p s).2 := by
  refine Upd.step hU ?_ hM
  clear hU hM
  unfold readPeriodLo
  have h0 := Upd.refl 1 s
  repeat' first | with_reducible assumption | (guard_target =~ (_ ||| _ : Nat) = _; decide) | with_reducible apply State.setReg_upd

theorem returned_upd {M : Nat} {s : State} {r : Nat × State} (h : Upd M s r.2) (hM : 16 ||| M = M) : Upd M s (returned r) := by
  unfold returned
  refine h.trans (Upd.mono (M := 16) ?_ hM)
  constructor <;> first | exact rfl | exact State.sound_of_eq rfl rfl rfl rfl | exact fun h => absurd h (by decide) | exact fun _ => rfl | exact fun _ => PeakUpd.refl _ _

theorem execTaskLoad_upd (m : Master) (task : BitVec 8) (s : State) {t : State} (hX : execTaskLoad m task s = .next t) : Upd 248532577550349 s t := by
  unfold execTaskLoad at hX
  cases hX
  have h0 := Upd.refl 248532577550349 s
  repeat' first | with_reducible assumption | (guard_target =~ (_ ||| _ : Nat) = _; decide) | with_reducible apply Upd.ite | with_reducible apply trvCommand_upd

theorem execTaskUnload_upd (m : Master) (task : BitVec 8) (s : State) {t : State} (hX : execTaskUnload m task s = .next t) : Upd 248532577550349 s t := by
  unfold execTaskUnload at hX
  cases hX
  have h0 := Upd.refl 248532577550349 s
  repeat' first | with_reducible assumption | (guard_target =~ (_ ||| _ : Nat) = _; decide) | with_reducible apply Upd.ite | with_reducible apply trvCommand_upd

theorem execTaskReplace_upd (m : Master) (task : BitVec 8) (s : State) {t : State} (hX : execTaskReplace m task s = .next t) : Upd 248532577550349 s t := by
  unfold execTaskReplace at hX
  cases hX
  have h0 := Upd.refl 248532577550349 s
  repeat' first | with_reducible assumption | (guard_target =~ (_ ||| _ : Nat) = _; decide) | with_reducible apply Upd.ite | with_reducible apply trvCommand_upd

theorem execTaskLoadComplete_upd (p : PeakId) (s : State) {t : State} (hX : execTaskLoadComplete p s = .next t) : Upd 248532577550349 s t := by
  unfold execTaskLoadComplete at hX
  cases hX
  have h0 := Upd.refl 248532577550349 s
  repeat' first | with_reducible assumption | (guard_target =~ (_ ||| _ : Nat) = _; decide) | with_reducible apply loadComplete_upd

theorem execReplaceCheckComplete_upd (p : PeakId) (s : State) {t : State} (hX : execReplaceCheckComplete p s = .next t) : Upd 248532577550349 s t := by
  unfold execReplaceCheckComplete at hX
  cases hX
  have h0 := Upd.refl 248532577550349 s
  repeat' first | with_reducible assumption | (guard_target =~ (_ ||| _ : Nat) = _; decide) | with_reducible apply replaceChecked_upd

theorem execEvRaise_upd (m : Master) (val : Word) (s : State) {t : State} (hX : execEvRaise m val s = .next t) : Upd 1125899906842625 s t := by
  unfold execEvRaise at hX
  cases hX
  have h0 := Upd.refl 1125899906842625 s
  repeat' first | with_reducible assumption | (guard_target =~ (_ ||| _ : Nat) = _; decide) | with_reducible apply Upd.ite | with_reducible apply evRaise_upd

theorem execFaultInfoRead_upd (m : Master) (core : Fin 8) (s : State) {t : State} (hX : execFaultInfoRead m core s = .next t) : Upd 17 s t := by
  unfold execFaultInfoRead at hX
  cases hX
  have h0 := Upd.refl 17 s
  repeat' first | with_reducible assumption | (guard_target =~ (_ ||| _ : Nat) = _; decide) | with_reducible apply Upd.ite | with_reducible apply Upd.ite_snd | with_reducible refine returned_upd ?_ ?_ | with_reducible apply readFaultInfo_upd

theorem execCyclesRead_upd (m : Master) (core : Fin 8) (s : State) {t : State} (hX : execCyclesRead m core s = .next t) : Upd 17 s t := by
  unfold execCyclesRead at hX
  cases hX
  have h0 := Upd.refl 17 s
  repeat' first | with_reducible assumption | (guard_target =~ (_ ||| _ : Nat) = _; decide) | with_reducible apply Upd.ite | with_reducible apply Upd.ite_snd | with_reducible refine returned_upd ?_ ?_ | with_reducible apply readCyclesLo_upd

theorem execPeriodCountRead_upd (m : Master) (s : State) {t : State} (hX : execPeriodCountRead m s = .next t) : Upd 17 s t := by
  unfold execPeriodCountRead at hX
  cases hX
  have h0 := Upd.refl 17 s
  repeat' first | with_reducible assumption | (guard_target =~ (_ ||| _ : Nat) = _; decide) | with_reducible apply Upd.ite | with_reducible apply Upd.ite_snd | with_reducible refine returned_upd ?_ ?_ | with_reducible apply readPeriodLo_upd

end Sys2Proof.Machine
end

