-- ==== Sys2Proof/Laws/UpdPll.lean ====
section
/-! SUPPORT. What each operation of Machine/Pll.lean may change. -/

set_option linter.unusedTactic false
set_option linter.unreachableTactic false

namespace Sys2Proof.Machine

theorem xtoRecord_upd {M0 : Nat} {s0 : State} {p : PeakId} {dest : Nat} {addr : Nat} {write : Bool} {s : State} (hU : Upd M0 s0 s) (hM : 1 ||| M0 = M0) : Upd M0 s0 (xtoRecord p dest addr write s) := by
  refine Upd.step hU ?_ hM
  clear hU hM
  unfold xtoRecord
  have h0 := Upd.refl 1 s
  repeat' first | with_reducible assumption | (guard_target =~ (_ ||| _ : Nat) = _; decide) | (fail_if_no_progress extract_lets +onlyGivenNames x; first | (have hx : Upd 1 s x := (by unfold x; repeat' first | with_reducible assumption | (guard_target =~ (_ ||| _ : Nat) = _; decide) | with_reducible apply Upd.ite | with_reducible apply State.raise_upd | with_reducible apply State.setBit_upd | with_reducible apply State.setFld_upd | with_reducible apply State.setReg_upd); try clear_value x) | (have h9 : (x : Peak) = x := rfl; clear h9) | (have h9 : (x : Saddle) = x := rfl; clear h9) | (have h9 : (x : Pair) = x := rfl; clear h9) | (have h9 : (x : Leg) = x := rfl; clear h9) | clear_value x | skip) | with_reducible apply Upd.ite | with_reducible apply State.raise_upd | with_reducible apply State.setBit_upd | with_reducible apply State.setFld_upd | with_reducible apply State.setReg_upd

theorem State.setPll_upd {M0 : Nat} {s0 : State} {s : State} {i : Nat} {q : Pll} (hU : Upd M0 s0 s) (hM : 67108864 ||| M0 = M0) : Upd M0 s0 (State.setPll s i q) := by
  refine Upd.step hU ?_ hM
  clear hU hM
  unfold State.setPll
  have h0 := Upd.refl 67108864 s
  repeat' first | with_reducible assumption | (guard_target =~ (_ ||| _ : Nat) = _; decide) | with_reducible apply Upd.lit | exact rfl | exact SadUpd.refl _ _ | with_reducible apply SadUpd.ite | apply SadUpd.mk | exact fun _ => PeakUpd.refl _ _ | exact Or.inl (by decide) | exact Or.inr rfl

theorem clkRefresh_upd {M0 : Nat} {s0 : State} {s : State} (hU : Upd M0 s0 s) (hM : 1 ||| M0 = M0) : Upd M0 s0 (clkRefresh s) := by
  refine Upd.step hU ?_ hM
  clear hU hM
  unfold clkRefresh
  have h0 := Upd.refl 1 s
  repeat' first | with_reducible assumption | (guard_target =~ (_ ||| _ : Nat) = _; decide) | with_reducible apply h90 | with_reducible apply h91 | with_reducible apply h92 | with_reducible apply h93 | with_reducible apply h94 | (fail_if_no_progress extract_lets +onlyGivenNames x; first | (have hx : Upd 1 s x := (by unfold x; repeat' first | with_reducible assumption | (guard_target =~ (_ ||| _ : Nat) = _; decide) | with_reducible apply h90 | with_reducible apply h91 | with_reducible apply h92 | with_reducible apply h93 | with_reducible apply h94 | with_reducible apply State.setBit_upd | with_reducible refine Upd.bothPeaks ?_ (fun _ _ _ => ?_)); try clear_value x) | (have h9 : (x : Peak) = x := rfl; clear h9) | (have h9 : (x : Saddle) = x := rfl; clear h9) | (have h9 : (x : Pair) = x := rfl; clear h9) | (have h9 : (x : Leg) = x := rfl; clear h9) | (have h90 : ∀  t, Upd 1 s t → Upd 1 s (x  t) := (by intro  t ht; unfold x; repeat' first | with_reducible assumption | (guard_target =~ (_ ||| _ : Nat) = _; decide) | with_reducible apply h90 | with_reducible apply h91 | with_reducible apply h92 | with_reducible apply h93 | with_reducible apply h94 | with_reducible apply State.setBit_upd | with_reducible refine Upd.bothPeaks ?_ (fun _ _ _ => ?_)); try clear_value x) | (have h91 : ∀ a0 t, Upd 1 s t → Upd 1 s (x a0 t) := (by intro a0 t ht; unfold x; repeat' first | with_reducible assumption | (guard_target =~ (_ ||| _ : Nat) = _; decide) | with_reducible apply h90 | with_reducible apply h91 | with_reducible apply h92 | with_reducible apply h93 | with_reducible apply h94 | with_reducible apply State.setBit_upd | with_reducible refine Upd.bothPeaks ?_ (fun _ _ _ => ?_)); try clear_value x) | (have h92 : ∀ a0 a1 t, Upd 1 s t → Upd 1 s (x a0 a1 t) := (by intro a0 a1 t ht; unfold x; repeat' first | with_reducible assumption | (guard_target =~ (_ ||| _ : Nat) = _; decide) | with_reducible apply h90 | with_reducible apply h91 | with_reducible apply h92 | with_reducible apply h93 | with_reducible apply h94 | with_reducible apply State.setBit_upd | with_reducible refine Upd.bothPeaks ?_ (fun _ _ _ => ?_)); try clear_value x) | (have h93 : ∀ a0 a1 a2 t, Upd 1 s t → Upd 1 s (x a0 a1 a2 t) := (by intro a0 a1 a2 t ht; unfold x; repeat' first | with_reducible assumption | (guard_target =~ (_ ||| _ : Nat) = _; decide) | with_reducible apply h90 | with_reducible apply h91 | with_reducible apply h92 | with_reducible apply h93 | with_reducible apply h94 | with_reducible apply State.setBit_upd | with_reducible refine Upd.bothPeaks ?_ (fun _ _ _ => ?_)); try clear_value x) | (have h94 : ∀ a0 a1 a2 a3 t, Upd 1 s t → Upd 1 s (x a0 a1 a2 a3 t) := (by intro a0 a1 a2 a3 t ht; unfold x; repeat' first | with_reducible assumption | (guard_target =~ (_ ||| _ : Nat) = _; decide) | with_reducible apply h90 | with_reducible apply h91 | with_reducible apply h92 | with_reducible apply h93 | with_reducible apply h94 | with_reducible apply State.setBit_upd | with_reducible refine Upd.bothPeaks ?_ (fun _ _ _ => ?_)); try clear_value x) | clear_value x | skip) | with_reducible apply State.setBit_upd | with_reducible refine Upd.bothPeaks ?_ (fun _ _ _ => ?_)

end Sys2Proof.Machine
end

