-- ==== Sys2Proof/Laws/UpdCirque.lean ====
section
/-! SUPPORT. What each operation of Machine/Cirque.lean may change. -/

set_option linter.unusedTactic false
set_option linter.unreachableTactic false

namespace Sys2Proof.Machine

theorem State.setSlot_upd {M0 : Nat} {s0 : State} {s : State} {p : PeakId} {i : Nat} {k : Nat} {w : Word} (hU : Upd M0 s0 s) (hM : 137438953472 ||| M0 = M0) : Upd M0 s0 (State.setSlot s p i k w) := by
  refine Upd.step hU ?_ hM
  clear hU hM
  unfold State.setSlot
  have h0 := Upd.refl 137438953472 s
  repeat' first | with_reducible assumption | (guard_target =~ (_ ||| _ : Nat) = _; decide) | (fail_if_no_progress extract_lets +onlyGivenNames x; first | (have hx : Upd 137438953472 s x := (by unfold x; repeat' first | with_reducible assumption | (guard_target =~ (_ ||| _ : Nat) = _; decide) | with_reducible refine Upd.setPeak ?_ ?_ | exact PeakUpd.refl _ _ | with_reducible apply PeakUpd.ite | with_reducible apply PeakUpd.lit | exact Or.inl (by decide) | exact Or.inr rfl); try clear_value x) | (have h9 : (x : Peak) = x := rfl; clear h9) | (have h9 : (x : Saddle) = x := rfl; clear h9) | (have h9 : (x : Pair) = x := rfl; clear h9) | (have h9 : (x : Leg) = x := rfl; clear h9) | clear_value x | skip) | with_reducible refine Upd.setPeak ?_ ?_ | exact PeakUpd.refl _ _ | with_reducible apply PeakUpd.ite | with_reducible apply PeakUpd.lit | exact Or.inl (by decide) | exact Or.inr rfl

theorem State.setSlotE_upd {M0 : Nat} {s0 : State} {s : State} {p : PeakId} {i : Nat} {k : Nat} {e : Int × Nat} (hU : Upd M0 s0 s) (hM : 137438953472 ||| M0 = M0) : Upd M0 s0 (State.setSlotE s p i k e) := by
  refine Upd.step hU ?_ hM
  clear hU hM
  unfold State.setSlotE
  have h0 := Upd.refl 137438953472 s
  repeat' first | with_reducible assumption | (guard_target =~ (_ ||| _ : Nat) = _; decide) | (fail_if_no_progress extract_lets +onlyGivenNames x; first | (have hx : Upd 137438953472 s x := (by unfold x; repeat' first | with_reducible assumption | (guard_target =~ (_ ||| _ : Nat) = _; decide) | with_reducible refine Upd.setPeak ?_ ?_ | exact PeakUpd.refl _ _ | with_reducible apply PeakUpd.ite | with_reducible apply PeakUpd.lit | exact Or.inl (by decide) | exact Or.inr rfl); try clear_value x) | (have h9 : (x : Peak) = x := rfl; clear h9) | (have h9 : (x : Saddle) = x := rfl; clear h9) | (have h9 : (x : Pair) = x := rfl; clear h9) | (have h9 : (x : Leg) = x := rfl; clear h9) | clear_value x | skip) | with_reducible refine Upd.setPeak ?_ ?_ | exact PeakUpd.refl _ _ | with_reducible apply PeakUpd.ite | with_reducible apply PeakUpd.lit | exact Or.inl (by decide) | exact Or.inr rfl

theorem State.setChain_upd {M0 : Nat} {s0 : State} {s : State} {p : PeakId} {i : Nat} {c : Chain} (hU : Upd M0 s0 s) (hM : 137438953472 ||| M0 = M0) : Upd M0 s0 (State.setChain s p i c) := by
  refine Upd.step hU ?_ hM
  clear hU hM
  unfold State.setChain
  have h0 := Upd.refl 137438953472 s
  repeat' first | with_reducible assumption | (guard_target =~ (_ ||| _ : Nat) = _; decide) | (fail_if_no_progress extract_lets +onlyGivenNames x; first | (have hx : Upd 137438953472 s x := (by unfold x; repeat' first | with_reducible assumption | (guard_target =~ (_ ||| _ : Nat) = _; decide) | with_reducible refine Upd.setPeak ?_ ?_ | exact PeakUpd.refl _ _ | with_reducible apply PeakUpd.ite | with_reducible apply PeakUpd.lit | exact Or.inl (by decide) | exact Or.inr rfl); try clear_value x) | (have h9 : (x : Peak) = x := rfl; clear h9) | (have h9 : (x : Saddle) = x := rfl; clear h9) | (have h9 : (x : Pair) = x := rfl; clear h9) | (have h9 : (x : Leg) = x := rfl; clear h9) | clear_value x | skip) | with_reducible refine Upd.setPeak ?_ ?_ | exact PeakUpd.refl _ _ | with_reducible apply PeakUpd.ite | with_reducible apply PeakUpd.lit | exact Or.inl (by decide) | exact Or.inr rfl

theorem shoulderRestart_upd {M0 : Nat} {s0 : State} {i : Nat} {s : State} (hU : Upd M0 s0 s) (hM : 137438953472 ||| M0 = M0) : Upd M0 s0 (shoulderRestart i s) := by
  refine Upd.step hU ?_ hM
  clear hU hM
  unfold shoulderRestart
  have h0 := Upd.refl 137438953472 s
  repeat' first | with_reducible assumption | (guard_target =~ (_ ||| _ : Nat) = _; decide) | with_reducible refine Upd.bothPeaks ?_ (fun _ _ _ => ?_) | with_reducible apply State.setChain_upd | with_reducible apply State.setSlot_upd

theorem State.setCin_upd {M0 : Nat} {s0 : State} {s : State} {i : Nat} {c : CirqIn} (hU : Upd M0 s0 s) (hM : 64 ||| M0 = M0) : Upd M0 s0 (State.setCin s i c) := by
  refine Upd.step hU ?_ hM
  clear hU hM
  unfold State.setCin
  have h0 := Upd.refl 64 s
  repeat' first | with_reducible assumption | (guard_target =~ (_ ||| _ : Nat) = _; decide) | with_reducible apply Upd.lit | exact rfl | exact SadUpd.refl _ _ | with_reducible apply SadUpd.ite | apply SadUpd.mk | exact fun _ => PeakUpd.refl _ _ | exact Or.inl (by decide) | exact Or.inr rfl

theorem State.setRotor_upd {M0 : Nat} {s0 : State} {s : State} {d : PeakId} {b : Nat} {r : Rotor} (hU : Upd M0 s0 s) (hM : 64 ||| M0 = M0) : Upd M0 s0 (State.setRotor s d b r) := by
  refine Upd.step hU ?_ hM
  clear hU hM
  unfold State.setRotor
  have h0 := Upd.refl 64 s
  repeat' first | with_reducible assumption | (guard_target =~ (_ ||| _ : Nat) = _; decide) | with_reducible apply Upd.lit | exact rfl | exact SadUpd.refl _ _ | with_reducible apply SadUpd.ite | apply SadUpd.mk | exact fun _ => PeakUpd.refl _ _ | exact Or.inl (by decide) | exact Or.inr rfl

theorem cirqRefresh_upd {M0 : Nat} {s0 : State} {s : State} (hU : Upd M0 s0 s) (hM : 1 ||| M0 = M0) : Upd M0 s0 (cirqRefresh s) := by
  refine Upd.step hU ?_ hM
  clear hU hM
  unfold cirqRefresh
  have h0 := Upd.refl 1 s
  repeat' first | with_reducible assumption | (guard_target =~ (_ ||| _ : Nat) = _; decide) | with_reducible apply h90 | with_reducible apply h91 | with_reducible apply h92 | with_reducible apply h93 | with_reducible apply h94 | (fail_if_no_progress extract_lets +onlyGivenNames x; first | (have hx : Upd 1 s x := (by unfold x; repeat' first | with_reducible assumption | (guard_target =~ (_ ||| _ : Nat) = _; decide) | with_reducible apply h90 | with_reducible apply h91 | with_reducible apply h92 | with_reducible apply h93 | with_reducible apply h94 | with_reducible apply State.setBit_upd); try clear_value x) | (have h9 : (x : Peak) = x := rfl; clear h9) | (have h9 : (x : Saddle) = x := rfl; clear h9) | (have h9 : (x : Pair) = x := rfl; clear h9) | (have h9 : (x : Leg) = x := rfl; clear h9) | (have h90 : ∀  t, Upd 1 s t → Upd 1 s (x  t) := (by intro  t ht; unfold x; repeat' first | with_reducible assumption | (guard_target =~ (_ ||| _ : Nat) = _; decide) | with_reducible apply h90 | with_reducible apply h91 | with_reducible apply h92 | with_reducible apply h93 | with_reducible apply h94 | with_reducible apply State.setBit_upd); try clear_value x) | (have h91 : ∀ a0 t, Upd 1 s t → Upd 1 s (x a0 t) := (by intro a0 t ht; unfold x; repeat' first | with_reducible assumption | (guard_target =~ (_ ||| _ : Nat) = _; decide) | with_reducible apply h90 | with_reducible apply h91 | with_reducible apply h92 | with_reducible apply h93 | with_reducible apply h94 | with_reducible apply State.setBit_upd); try clear_value x) | (have h92 : ∀ a0 a1 t, Upd 1 s t → Upd 1 s (x a0 a1 t) := (by intro a0 a1 t ht; unfold x; repeat' first | with_reducible assumption | (guard_target =~ (_ ||| _ : Nat) = _; decide) | with_reducible apply h90 | with_reducible apply h91 | with_reducible apply h92 | with_reducible apply h93 | with_reducible apply h94 | with_reducible apply State.setBit_upd); try clear_value x) | (have h93 : ∀ a0 a1 a2 t, Upd 1 s t → Upd 1 s (x a0 a1 a2 t) := (by intro a0 a1 a2 t ht; unfold x; repeat' first | with_reducible assumption | (guard_target =~ (_ ||| _ : Nat) = _; decide) | with_reducible apply h90 | with_reducible apply h91 | with_reducible apply h92 | with_reducible apply h93 | with_reducible apply h94 | with_reducible apply State.setBit_upd); try clear_value x) | (have h94 : ∀ a0 a1 a2 a3 t, Upd 1 s t → Upd 1 s (x a0 a1 a2 a3 t) := (by intro a0 a1 a2 a3 t ht; unfold x; repeat' first | with_reducible assumption | (guard_target =~ (_ ||| _ : Nat) = _; decide) | with_reducible apply h90 | with_reducible apply h91 | with_reducible apply h92 | with_reducible apply h93 | with_reducible apply h94 | with_reducible apply State.setBit_upd); try clear_value x) | clear_value x | skip) | with_reducible apply State.setBit_upd

theorem rephaseInput_upd {M0 : Nat} {s0 : State} {i : Nat} {origin : Nat} {s : State} (hU : Upd M0 s0 s) (hM : 64 ||| M0 = M0) : Upd M0 s0 (rephaseInput i origin s) := by
  refine Upd.step hU ?_ hM
  clear hU hM
  unfold rephaseInput
  have h0 := Upd.refl 64 s
  repeat' first | with_reducible assumption | (guard_target =~ (_ ||| _ : Nat) = _; decide) | with_reducible apply State.setCin_upd

theorem rephaseTb_upd {M0 : Nat} {s0 : State} {tb : Nat} {s : State} (hU : Upd M0 s0 s) (hM : 64 ||| M0 = M0) : Upd M0 s0 (rephaseTb tb s) := by
  refine Upd.step hU ?_ hM
  clear hU hM
  unfold rephaseTb
  have h0 := Upd.refl 64 s
  repeat' first | with_reducible assumption | (guard_target =~ (_ ||| _ : Nat) = _; decide) | with_reducible apply Upd.ite | with_reducible refine Upd.forAll ?_ (fun _ _ _ => ?_) | with_reducible apply rephaseInput_upd

theorem State.setCorr_upd {M0 : Nat} {s0 : State} {s : State} {d : PeakId} {b : Nat} {conv : Nat} {c : Corr} (hU : Upd M0 s0 s) (hM : 64 ||| M0 = M0) : Upd M0 s0 (State.setCorr s d b conv c) := by
  refine Upd.step hU ?_ hM
  clear hU hM
  unfold State.setCorr
  have h0 := Upd.refl 64 s
  repeat' first | with_reducible assumption | (guard_target =~ (_ ||| _ : Nat) = _; decide) | with_reducible apply Upd.lit | exact rfl | exact SadUpd.refl _ _ | with_reducible apply SadUpd.ite | apply SadUpd.mk | exact fun _ => PeakUpd.refl _ _ | exact Or.inl (by decide) | exact Or.inr rfl

theorem overlapTake_upd {M0 : Nat} {s0 : State} {m : PeakId} {i : Nat} {reason : Nat} {v : Int} {s : State} (hU : Upd M0 s0 s) (hM : 64 ||| M0 = M0) : Upd M0 s0 (overlapTake m i reason v s) := by
  refine Upd.step hU ?_ hM
  clear hU hM
  unfold overlapTake
  have h0 := Upd.refl 64 s
  repeat' first | with_reducible assumption | (guard_target =~ (_ ||| _ : Nat) = _; decide) | (fail_if_no_progress extract_lets +onlyGivenNames x; first | (have hx : Upd 64 s x := (by unfold x; repeat' first | with_reducible assumption | (guard_target =~ (_ ||| _ : Nat) = _; decide) | with_reducible apply Upd.ite | with_reducible apply State.setRotor_upd); try clear_value x) | (have h9 : (x : Peak) = x := rfl; clear h9) | (have h9 : (x : Saddle) = x := rfl; clear h9) | (have h9 : (x : Pair) = x := rfl; clear h9) | (have h9 : (x : Leg) = x := rfl; clear h9) | clear_value x | skip) | with_reducible apply Upd.ite | with_reducible apply State.setRotor_upd

theorem diagTake_upd {M0 : Nat} {s0 : State} {i : Nat} {v : Int} {s : State} (hU : Upd M0 s0 s) (hM : 64 ||| M0 = M0) : Upd M0 s0 (diagTake i v s) := by
  refine Upd.step hU ?_ hM
  clear hU hM
  unfold diagTake
  have h0 := Upd.refl 64 s
  repeat' first | with_reducible assumption | (guard_target =~ (_ ||| _ : Nat) = _; decide) | (fail_if_no_progress extract_lets +onlyGivenNames x; first | (have hx : Upd 64 s x := (by unfold x; repeat' first | with_reducible assumption | (guard_target =~ (_ ||| _ : Nat) = _; decide) | with_reducible apply Upd.ite | with_reducible apply Upd.lit | exact rfl | exact SadUpd.refl _ _ | with_reducible apply SadUpd.ite | apply SadUpd.mk | exact fun _ => PeakUpd.refl _ _ | exact Or.inl (by decide) | exact Or.inr rfl); try clear_value x) | (have h9 : (x : Peak) = x := rfl; clear h9) | (have h9 : (x : Saddle) = x := rfl; clear h9) | (have h9 : (x : Pair) = x := rfl; clear h9) | (have h9 : (x : Leg) = x := rfl; clear h9) | clear_value x | skip) | with_reducible apply Upd.ite | with_reducible apply Upd.lit | exact rfl | exact SadUpd.refl _ _ | with_reducible apply SadUpd.ite | apply SadUpd.mk | exact fun _ => PeakUpd.refl _ _ | exact Or.inl (by decide) | exact Or.inr rfl

theorem cirqSample_upd {M0 : Nat} {s0 : State} {i : Nat} {code : Int} {s : State} (hU : Upd M0 s0 s) (hM : 65 ||| M0 = M0) : Upd M0 s0 (cirqSample i code s) := by
  refine Upd.step hU ?_ hM
  clear hU hM
  unfold cirqSample
  have h0 := Upd.refl 65 s
  repeat' first | with_reducible assumption | (guard_target =~ (_ ||| _ : Nat) = _; decide) | (fail_if_no_progress extract_lets +onlyGivenNames x; first | (have hx : Upd 65 s x := (by unfold x; repeat' first | with_reducible assumption | (guard_target =~ (_ ||| _ : Nat) = _; decide) | with_reducible apply Upd.ite | with_reducible apply State.setCin_upd | with_reducible apply State.setBit_upd | with_reducible apply State.setFld_upd | with_reducible apply diagTake_upd | with_reducible apply overlapTake_upd | split); try clear_value x) | (have h9 : (x : Peak) = x := rfl; clear h9) | (have h9 : (x : Saddle) = x := rfl; clear h9) | (have h9 : (x : Pair) = x := rfl; clear h9) | (have h9 : (x : Leg) = x := rfl; clear h9) | clear_value x | skip) | with_reducible apply Upd.ite | with_reducible apply State.setCin_upd | with_reducible apply State.setBit_upd | with_reducible apply State.setFld_upd | with_reducible apply diagTake_upd | with_reducible apply overlapTake_upd | split

theorem execCirqueSample_upd (i : Fin 48) (code : BitVec 24) (frac : BitVec 8) (s : State) {t : State} (hX : execCirqueSample i code frac s = .next t) : Upd 65 s t := by
  unfold execCirqueSample at hX
  cases hX
  have h0 := Upd.refl 65 s
  repeat' first | with_reducible assumption | (guard_target =~ (_ ||| _ : Nat) = _; decide) | with_reducible apply cirqSample_upd

theorem lastTake_upd {M0 : Nat} {s0 : State} {i : Nat} {f : Flight} {s : State} (hU : Upd M0 s0 s) (hM : 65 ||| M0 = M0) : Upd M0 s0 (lastTake i f s) := by
  refine Upd.step hU ?_ hM
  clear hU hM
  unfold lastTake
  have h0 := Upd.refl 65 s
  repeat' first | with_reducible assumption | (guard_target =~ (_ ||| _ : Nat) = _; decide) | (fail_if_no_progress extract_lets +onlyGivenNames x; first | (have hx : Upd 65 s x := (by unfold x; repeat' first | with_reducible assumption | (guard_target =~ (_ ||| _ : Nat) = _; decide) | with_reducible apply Upd.ite | with_reducible apply State.bump_upd | with_reducible apply State.setFld_upd | with_reducible apply State.setCin_upd); try clear_value x) | (have h9 : (x : Peak) = x := rfl; clear h9) | (have h9 : (x : Saddle) = x := rfl; clear h9) | (have h9 : (x : Pair) = x := rfl; clear h9) | (have h9 : (x : Leg) = x := rfl; clear h9) | clear_value x | skip) | with_reducible apply Upd.ite | with_reducible apply State.bump_upd | with_reducible apply State.setFld_upd | with_reducible apply State.setCin_upd

theorem alignRefresh_upd {M0 : Nat} {s0 : State} {tb : Nat} {s : State} (hU : Upd M0 s0 s) (hM : 1025 ||| M0 = M0) : Upd M0 s0 (alignRefresh tb s) := by
  refine Upd.step hU ?_ hM
  clear hU hM
  unfold alignRefresh
  have h0 := Upd.refl 1025 s
  repeat' first | with_reducible assumption | (guard_target =~ (_ ||| _ : Nat) = _; decide) | (fail_if_no_progress extract_lets +onlyGivenNames x; first | (have hx : Upd 1025 s x := (by unfold x; repeat' first | with_reducible assumption | (guard_target =~ (_ ||| _ : Nat) = _; decide) | with_reducible apply Upd.ite | with_reducible apply State.setTb_upd | with_reducible apply setBitOf_upd | with_reducible apply State.setBit_upd); try clear_value x) | (have h9 : (x : Peak) = x := rfl; clear h9) | (have h9 : (x : Saddle) = x := rfl; clear h9) | (have h9 : (x : Pair) = x := rfl; clear h9) | (have h9 : (x : Leg) = x := rfl; clear h9) | clear_value x | skip) | with_reducible apply Upd.ite | with_reducible apply State.setTb_upd | with_reducible apply setBitOf_upd | with_reducible apply State.setBit_upd

theorem alignsRefresh_upd {M0 : Nat} {s0 : State} {s : State} (hU : Upd M0 s0 s) (hM : 1025 ||| M0 = M0) : Upd M0 s0 (alignsRefresh s) := by
  refine Upd.step hU ?_ hM
  clear hU hM
  unfold alignsRefresh
  have h0 := Upd.refl 1025 s
  repeat' first | with_reducible assumption | (guard_target =~ (_ ||| _ : Nat) = _; decide) | with_reducible refine Upd.forAll ?_ (fun _ _ _ => ?_) | with_reducible apply alignRefresh_upd

theorem cirqCfgWrite_upd {M0 : Nat} {s0 : State} {i : Nat} {v : Nat} {s : State} (hU : Upd M0 s0 s) (hM : 137438954561 ||| M0 = M0) : Upd M0 s0 (cirqCfgWrite i v s) := by
  refine Upd.step hU ?_ hM
  clear hU hM
  unfold cirqCfgWrite
  have h0 := Upd.refl 137438954561 s
  repeat' first | with_reducible assumption | (guard_target =~ (_ ||| _ : Nat) = _; decide) | (fail_if_no_progress extract_lets +onlyGivenNames x; first | (have hx : Upd 137438954561 s x := (by unfold x; repeat' first | with_reducible assumption | (guard_target =~ (_ ||| _ : Nat) = _; decide) | with_reducible apply Upd.ite | with_reducible apply State.raise_upd | with_reducible apply State.setReg_upd | with_reducible apply shoulderRestart_upd | with_reducible apply alignsRefresh_upd | with_reducible apply State.setCin_upd); try clear_value x) | (have h9 : (x : Peak) = x := rfl; clear h9) | (have h9 : (x : Saddle) = x := rfl; clear h9) | (have h9 : (x : Pair) = x := rfl; clear h9) | (have h9 : (x : Leg) = x := rfl; clear h9) | clear_value x | skip) | with_reducible apply Upd.ite | with_reducible apply State.raise_upd | with_reducible apply State.setReg_upd | with_reducible apply shoulderRestart_upd | with_reducible apply alignsRefresh_upd | with_reducible apply State.setCin_upd

theorem cirqTrigWrite_upd {M0 : Nat} {s0 : State} {p : PeakId} {i : Nat} {v : Nat} {s : State} (hU : Upd M0 s0 s) (hM : 1089 ||| M0 = M0) : Upd M0 s0 (cirqTrigWrite p i v s) := by
  refine Upd.step hU ?_ hM
  clear hU hM
  unfold cirqTrigWrite
  have h0 := Upd.refl 1089 s
  repeat' first | with_reducible assumption | (guard_target =~ (_ ||| _ : Nat) = _; decide) | (fail_if_no_progress extract_lets +onlyGivenNames x; first | (have hx : Upd 1089 s x := (by unfold x; repeat' first | with_reducible assumption | (guard_target =~ (_ ||| _ : Nat) = _; decide) | with_reducible apply Upd.ite | with_reducible apply State.raise_upd | with_reducible apply alignsRefresh_upd | with_reducible apply State.setReg_upd | with_reducible apply rephaseInput_upd); try clear_value x) | (have h9 : (x : Peak) = x := rfl; clear h9) | (have h9 : (x : Saddle) = x := rfl; clear h9) | (have h9 : (x : Pair) = x := rfl; clear h9) | (have h9 : (x : Leg) = x := rfl; clear h9) | clear_value x | skip) | with_reducible apply Upd.ite | with_reducible apply State.raise_upd | with_reducible apply alignsRefresh_upd | with_reducible apply State.setReg_upd | with_reducible apply rephaseInput_upd

theorem execCirqCfgWrite_upd (m : Master) (i : Fin 48) (val : Word) (s : State) {t : State} (hX : execCirqCfgWrite m i val s = .next t) : Upd 137438954561 s t := by
  unfold execCirqCfgWrite at hX
  cases hX
  have h0 := Upd.refl 137438954561 s
  repeat' first | with_reducible assumption | (guard_target =~ (_ ||| _ : Nat) = _; decide) | with_reducible apply Upd.ite | with_reducible apply cirqCfgWrite_upd

theorem execCirqTrigWrite_upd (m : Master) (i : Fin 48) (val : Word) (s : State) {t : State} (hX : execCirqTrigWrite m i val s = .next t) : Upd 1089 s t := by
  unfold execCirqTrigWrite at hX
  cases hX
  have h0 := Upd.refl 1089 s
  repeat' first | with_reducible assumption | (guard_target =~ (_ ||| _ : Nat) = _; decide) | with_reducible apply Upd.ite | with_reducible apply cirqTrigWrite_upd

theorem execValidityWindowEnd_upd (i : Fin 48) (s : State) {t : State} (hX : execValidityWindowEnd i s = .next t) : Upd 64 s t := by
  unfold execValidityWindowEnd at hX
  cases hX
  have h0 := Upd.refl 64 s
  repeat' first | with_reducible assumption | (guard_target =~ (_ ||| _ : Nat) = _; decide) | (fail_if_no_progress extract_lets +onlyGivenNames x; first | (have hx : Upd 64 s x := (by unfold x; repeat' first | with_reducible assumption | (guard_target =~ (_ ||| _ : Nat) = _; decide) | with_reducible apply Upd.ite | with_reducible apply State.setCin_upd); try clear_value x) | (have h9 : (x : Peak) = x := rfl; clear h9) | (have h9 : (x : Saddle) = x := rfl; clear h9) | (have h9 : (x : Pair) = x := rfl; clear h9) | (have h9 : (x : Leg) = x := rfl; clear h9) | clear_value x | skip) | with_reducible apply Upd.ite | with_reducible apply State.setCin_upd

theorem readLast_upd {M0 : Nat} {s0 : State} {p : PeakId} {i : Nat} {s : State} (hU : Upd M0 s0 s) (hM : 1 ||| M0 = M0) : Upd M0 s0 (readLast p i s).2 := by
  refine Upd.step hU ?_ hM
  clear hU hM
  unfold readLast
  have h0 := Upd.refl 1 s
  repeat' first | with_reducible assumption | (guard_target =~ (_ ||| _ : Nat) = _; decide) | with_reducible apply Upd.ite | with_reducible apply Upd.ite_snd | with_reducible apply State.setFld_upd

theorem execCirqLastRead_upd (m : Master) (i : Fin 48) (s : State) {t : State} (hX : execCirqLastRead m i s = .next t) : Upd 17 s t := by
  unfold execCirqLastRead at hX
  cases hX
  have h0 := Upd.refl 17 s
  repeat' first | with_reducible assumption | (guard_target =~ (_ ||| _ : Nat) = _; decide) | with_reducible apply Upd.ite | with_reducible apply Upd.ite_snd | with_reducible refine returned_upd ?_ ?_ | with_reducible apply readLast_upd

theorem setCal_upd {M0 : Nat} {s0 : State} {d : PeakId} {b : Nat} {conv : Nat} {s : State} (hU : Upd M0 s0 s) (hM : 64 ||| M0 = M0) : Upd M0 s0 (setCal d b conv s) := by
  refine Upd.step hU ?_ hM
  clear hU hM
  unfold setCal
  have h0 := Upd.refl 64 s
  repeat' first | with_reducible assumption | (guard_target =~ (_ ||| _ : Nat) = _; decide) | with_reducible apply Upd.lit | exact rfl | exact SadUpd.refl _ _ | with_reducible apply SadUpd.ite | apply SadUpd.mk | exact fun _ => PeakUpd.refl _ _ | exact Or.inl (by decide) | exact Or.inr rfl

theorem rotorStart_upd {M0 : Nat} {s0 : State} {d : PeakId} {b : Nat} {s : State} (hU : Upd M0 s0 s) (hM : 65 ||| M0 = M0) : Upd M0 s0 (rotorStart d b s) := by
  refine Upd.step hU ?_ hM
  clear hU hM
  unfold rotorStart
  have h0 := Upd.refl 65 s
  repeat' first | with_reducible assumption | (guard_target =~ (_ ||| _ : Nat) = _; decide) | (fail_if_no_progress extract_lets +onlyGivenNames x; first | (have hx : Upd 65 s x := (by unfold x; repeat' first | with_reducible assumption | (guard_target =~ (_ ||| _ : Nat) = _; decide) | with_reducible apply Upd.ite | with_reducible apply State.setRotor_upd | with_reducible apply State.setFld_upd); try clear_value x) | (have h9 : (x : Peak) = x := rfl; clear h9) | (have h9 : (x : Saddle) = x := rfl; clear h9) | (have h9 : (x : Pair) = x := rfl; clear h9) | (have h9 : (x : Leg) = x := rfl; clear h9) | clear_value x | skip) | with_reducible apply Upd.ite | with_reducible apply State.setRotor_upd | with_reducible apply State.setFld_upd

theorem rotorOverlap_upd {M0 : Nat} {s0 : State} {d : PeakId} {b : Nat} {s : State} (hU : Upd M0 s0 s) (hM : 65 ||| M0 = M0) : Upd M0 s0 (rotorOverlap d b s) := by
  refine Upd.step hU ?_ hM
  clear hU hM
  unfold rotorOverlap
  have h0 := Upd.refl 65 s
  repeat' first | with_reducible assumption | (guard_target =~ (_ ||| _ : Nat) = _; decide) | with_reducible apply Upd.ite | with_reducible apply State.setRotor_upd | with_reducible apply State.setFld_upd

theorem calFresh_upd {M0 : Nat} {s0 : State} {i : Nat} {s : State} (hU : Upd M0 s0 s) (hM : 1 ||| M0 = M0) : Upd M0 s0 (calFresh i s) := by
  refine Upd.step hU ?_ hM
  clear hU hM
  unfold calFresh
  have h0 := Upd.refl 1 s
  repeat' first | with_reducible assumption | (guard_target =~ (_ ||| _ : Nat) = _; decide) | with_reducible apply Upd.ite | with_reducible apply State.setFld_upd

theorem rotorFit_upd {M0 : Nat} {s0 : State} {d : PeakId} {b : Nat} {off : Int} {gain : Int} {rms : Nat} {s : State} (hU : Upd M0 s0 s) (hM : 65 ||| M0 = M0) : Upd M0 s0 (rotorFit d b off gain rms s) := by
  refine Upd.step hU ?_ hM
  clear hU hM
  unfold rotorFit
  have h0 := Upd.refl 65 s
  repeat' first | with_reducible assumption | (guard_target =~ (_ ||| _ : Nat) = _; decide) | (fail_if_no_progress extract_lets +onlyGivenNames x; first | (have hx : Upd 65 s x := (by unfold x; repeat' first | with_reducible assumption | (guard_target =~ (_ ||| _ : Nat) = _; decide) | with_reducible apply Upd.ite | with_reducible apply State.setFld_upd | with_reducible apply State.raise_upd | with_reducible apply State.bump_upd | with_reducible apply State.setRotor_upd | with_reducible apply State.setCorr_upd | with_reducible apply cirqRefresh_upd | with_reducible apply calFresh_upd | split); try clear_value x) | (have h9 : (x : Peak) = x := rfl; clear h9) | (have h9 : (x : Saddle) = x := rfl; clear h9) | (have h9 : (x : Pair) = x := rfl; clear h9) | (have h9 : (x : Leg) = x := rfl; clear h9) | clear_value x | skip) | with_reducible apply Upd.ite | with_reducible apply State.setFld_upd | with_reducible apply State.raise_upd | with_reducible apply State.bump_upd | with_reducible apply State.setRotor_upd | with_reducible apply State.setCorr_upd | with_reducible apply cirqRefresh_upd | with_reducible apply calFresh_upd | split

theorem rotorTimeout_upd {M0 : Nat} {s0 : State} {d : PeakId} {b : Nat} {s : State} (hU : Upd M0 s0 s) (hM : 65 ||| M0 = M0) : Upd M0 s0 (rotorTimeout d b s) := by
  refine Upd.step hU ?_ hM
  clear hU hM
  unfold rotorTimeout
  have h0 := Upd.refl 65 s
  repeat' first | with_reducible assumption | (guard_target =~ (_ ||| _ : Nat) = _; decide) | (fail_if_no_progress extract_lets +onlyGivenNames x; first | (have hx : Upd 65 s x := (by unfold x; repeat' first | with_reducible assumption | (guard_target =~ (_ ||| _ : Nat) = _; decide) | with_reducible apply Upd.ite | with_reducible apply State.raise_upd | with_reducible apply State.setRotor_upd | with_reducible apply State.setFld_upd); try clear_value x) | (have h9 : (x : Peak) = x := rfl; clear h9) | (have h9 : (x : Saddle) = x := rfl; clear h9) | (have h9 : (x : Pair) = x := rfl; clear h9) | (have h9 : (x : Leg) = x := rfl; clear h9) | clear_value x | skip) | with_reducible apply Upd.ite | with_reducible apply State.raise_upd | with_reducible apply State.setRotor_upd | with_reducible apply State.setFld_upd

theorem noRelief_upd {M0 : Nat} {s0 : State} {d : PeakId} {b : Nat} {s : State} (hU : Upd M0 s0 s) (hM : 65 ||| M0 = M0) : Upd M0 s0 (noRelief d b s) := by
  refine Upd.step hU ?_ hM
  clear hU hM
  unfold noRelief
  have h0 := Upd.refl 65 s
  repeat' first | with_reducible assumption | (guard_target =~ (_ ||| _ : Nat) = _; decide) | (fail_if_no_progress extract_lets +onlyGivenNames x; first | (have hx : Upd 65 s x := (by unfold x; repeat' first | with_reducible assumption | (guard_target =~ (_ ||| _ : Nat) = _; decide) | with_reducible apply State.raise_upd | with_reducible apply State.setFld_upd | with_reducible apply cirqRefresh_upd | with_reducible apply State.setRotor_upd); try clear_value x) | (have h9 : (x : Peak) = x := rfl; clear h9) | (have h9 : (x : Saddle) = x := rfl; clear h9) | (have h9 : (x : Pair) = x := rfl; clear h9) | (have h9 : (x : Leg) = x := rfl; clear h9) | clear_value x | skip) | with_reducible apply State.raise_upd | with_reducible apply State.setFld_upd | with_reducible apply cirqRefresh_upd | with_reducible apply State.setRotor_upd

theorem calTake_upd {M0 : Nat} {s0 : State} {d : PeakId} {b : Nat} {conv : Nat} {off : Int} {gain : Int} {s : State} (hU : Upd M0 s0 s) (hM : 64 ||| M0 = M0) : Upd M0 s0 (calTake d b conv off gain s) := by
  refine Upd.step hU ?_ hM
  clear hU hM
  unfold calTake
  have h0 := Upd.refl 64 s
  repeat' first | with_reducible assumption | (guard_target =~ (_ ||| _ : Nat) = _; decide) | with_reducible apply setCal_upd | with_reducible apply State.setCorr_upd

theorem calComplete_upd {M0 : Nat} {s0 : State} {d : PeakId} {b : Nat} {conv : Nat} {off : Int} {gain : Int} {refOk : Bool} {s : State} (hU : Upd M0 s0 s) (hM : 65 ||| M0 = M0) : Upd M0 s0 (calComplete d b conv off gain refOk s) := by
  refine Upd.step hU ?_ hM
  clear hU hM
  unfold calComplete
  have h0 := Upd.refl 65 s
  repeat' first | with_reducible assumption | (guard_target =~ (_ ||| _ : Nat) = _; decide) | (fail_if_no_progress extract_lets +onlyGivenNames x; first | (have hx : Upd 65 s x := (by unfold x; repeat' first | with_reducible assumption | (guard_target =~ (_ ||| _ : Nat) = _; decide) | with_reducible apply Upd.ite | with_reducible apply noRelief_upd | with_reducible apply calTake_upd | with_reducible apply State.setRotor_upd | split); try clear_value x) | (have h9 : (x : Peak) = x := rfl; clear h9) | (have h9 : (x : Saddle) = x := rfl; clear h9) | (have h9 : (x : Pair) = x := rfl; clear h9) | (have h9 : (x : Leg) = x := rfl; clear h9) | clear_value x | skip) | with_reducible apply Upd.ite | with_reducible apply noRelief_upd | with_reducible apply calTake_upd | with_reducible apply State.setRotor_upd | split

theorem rotorReady_upd {M0 : Nat} {s0 : State} {d : PeakId} {b : Nat} {s : State} (hU : Upd M0 s0 s) (hM : 65 ||| M0 = M0) : Upd M0 s0 (rotorReady d b s) := by
  refine Upd.step hU ?_ hM
  clear hU hM
  unfold rotorReady
  have h0 := Upd.refl 65 s
  repeat' first | with_reducible assumption | (guard_target =~ (_ ||| _ : Nat) = _; decide) | (fail_if_no_progress extract_lets +onlyGivenNames x; first | (have hx : Upd 65 s x := (by unfold x; repeat' first | with_reducible assumption | (guard_target =~ (_ ||| _ : Nat) = _; decide) | with_reducible apply Upd.ite | with_reducible apply State.setFld_upd | with_reducible apply State.setRotor_upd); try clear_value x) | (have h9 : (x : Peak) = x := rfl; clear h9) | (have h9 : (x : Saddle) = x := rfl; clear h9) | (have h9 : (x : Pair) = x := rfl; clear h9) | (have h9 : (x : Leg) = x := rfl; clear h9) | clear_value x | skip) | with_reducible apply Upd.ite | with_reducible apply State.setFld_upd | with_reducible apply State.setRotor_upd

theorem execRotorStepStart_upd (d : PeakId) (b : Fin 6) (s : State) {t : State} (hX : execRotorStepStart d b s = .next t) : Upd 65 s t := by
  unfold execRotorStepStart at hX
  cases hX
  have h0 := Upd.refl 65 s
  repeat' first | with_reducible assumption | (guard_target =~ (_ ||| _ : Nat) = _; decide) | with_reducible apply rotorStart_upd

theorem execRotorOverlapStart_upd (d : PeakId) (b : Fin 6) (s : State) {t : State} (hX : execRotorOverlapStart d b s = .next t) : Upd 65 s t := by
  unfold execRotorOverlapStart at hX
  cases hX
  have h0 := Upd.refl 65 s
  repeat' first | with_reducible assumption | (guard_target =~ (_ ||| _ : Nat) = _; decide) | with_reducible apply rotorOverlap_upd

theorem execRotorFitComplete_upd (d : PeakId) (b : Fin 6) (off : BitVec 24) (gain : BitVec 24) (rms : BitVec 16) (s : State) {t : State} (hX : execRotorFitComplete d b off gain rms s = .next t) : Upd 65 s t := by
  unfold execRotorFitComplete at hX
  cases hX
  have h0 := Upd.refl 65 s
  repeat' first | with_reducible assumption | (guard_target =~ (_ ||| _ : Nat) = _; decide) | with_reducible apply rotorFit_upd

theorem execRotorStepTimeout_upd (d : PeakId) (b : Fin 6) (s : State) {t : State} (hX : execRotorStepTimeout d b s = .next t) : Upd 65 s t := by
  unfold execRotorStepTimeout at hX
  cases hX
  have h0 := Upd.refl 65 s
  repeat' first | with_reducible assumption | (guard_target =~ (_ ||| _ : Nat) = _; decide) | with_reducible apply rotorTimeout_upd

theorem execCalibrationComplete_upd (d : PeakId) (c : BankConv) (off : BitVec 24) (gain : BitVec 24) (refOk : Bool) (s : State) {t : State} (hX : execCalibrationComplete d c off gain refOk s = .next t) : Upd 65 s t := by
  unfold execCalibrationComplete at hX
  cases hX
  have h0 := Upd.refl 65 s
  repeat' first | with_reducible assumption | (guard_target =~ (_ ||| _ : Nat) = _; decide) | with_reducible apply calComplete_upd

theorem execRotorReady_upd (d : PeakId) (b : Fin 6) (s : State) {t : State} (hX : execRotorReady d b s = .next t) : Upd 65 s t := by
  unfold execRotorReady at hX
  cases hX
  have h0 := Upd.refl 65 s
  repeat' first | with_reducible assumption | (guard_target =~ (_ ||| _ : Nat) = _; decide) | with_reducible apply rotorReady_upd

theorem execCalAgeExpiry_upd (i : Fin 48) (s : State) {t : State} (hX : execCalAgeExpiry i s = .next t) : Upd 248523987615757 s t := by
  unfold execCalAgeExpiry at hX
  cases hX
  have h0 := Upd.refl 248523987615757 s
  repeat' first | with_reducible assumption | (guard_target =~ (_ ||| _ : Nat) = _; decide) | (fail_if_no_progress extract_lets +onlyGivenNames x; first | (have hx : Upd 248523987615757 s x := (by unfold x; repeat' first | with_reducible assumption | (guard_target =~ (_ ||| _ : Nat) = _; decide) | with_reducible apply Upd.ite | with_reducible apply State.setFld_upd | with_reducible apply fireBoth_upd | with_reducible apply cirqRefresh_upd | with_reducible apply State.raise_upd); try clear_value x) | (have h9 : (x : Peak) = x := rfl; clear h9) | (have h9 : (x : Saddle) = x := rfl; clear h9) | (have h9 : (x : Pair) = x := rfl; clear h9) | (have h9 : (x : Leg) = x := rfl; clear h9) | clear_value x | skip) | with_reducible apply Upd.ite | with_reducible apply State.setFld_upd | with_reducible apply fireBoth_upd | with_reducible apply cirqRefresh_upd | with_reducible apply State.raise_upd

theorem diagWrite_upd {M0 : Nat} {s0 : State} {b : Nat} {v : Nat} {s : State} (hU : Upd M0 s0 s) (hM : 1 ||| M0 = M0) : Upd M0 s0 (diagWrite b v s) := by
  refine Upd.step hU ?_ hM
  clear hU hM
  unfold diagWrite
  have h0 := Upd.refl 1 s
  repeat' first | with_reducible assumption | (guard_target =~ (_ ||| _ : Nat) = _; decide) | with_reducible apply h90 | with_reducible apply h91 | with_reducible apply h92 | with_reducible apply h93 | with_reducible apply h94 | (fail_if_no_progress extract_lets +onlyGivenNames x; first | (have hx : Upd 1 s x := (by unfold x; repeat' first | with_reducible assumption | (guard_target =~ (_ ||| _ : Nat) = _; decide) | with_reducible apply h90 | with_reducible apply h91 | with_reducible apply h92 | with_reducible apply h93 | with_reducible apply h94 | with_reducible apply Upd.ite | with_reducible apply State.setFld_upd | with_reducible apply State.setReg_upd | with_reducible apply State.raise_upd); try clear_value x) | (have h9 : (x : Peak) = x := rfl; clear h9) | (have h9 : (x : Saddle) = x := rfl; clear h9) | (have h9 : (x : Pair) = x := rfl; clear h9) | (have h9 : (x : Leg) = x := rfl; clear h9) | (have h90 : ∀  t, Upd 1 s t → Upd 1 s (x  t) := (by intro  t ht; unfold x; repeat' first | with_reducible assumption | (guard_target =~ (_ ||| _ : Nat) = _; decide) | with_reducible apply h90 | with_reducible apply h91 | with_reducible apply h92 | with_reducible apply h93 | with_reducible apply h94 | with_reducible apply Upd.ite | with_reducible apply State.setFld_upd | with_reducible apply State.setReg_upd | with_reducible apply State.raise_upd); try clear_value x) | (have h91 : ∀ a0 t, Upd 1 s t → Upd 1 s (x a0 t) := (by intro a0 t ht; unfold x; repeat' first | with_reducible assumption | (guard_target =~ (_ ||| _ : Nat) = _; decide) | with_reducible apply h90 | with_reducible apply h91 | with_reducible apply h92 | with_reducible apply h93 | with_reducible apply h94 | with_reducible apply Upd.ite | with_reducible apply State.setFld_upd | with_reducible apply State.setReg_upd | with_reducible apply State.raise_upd); try clear_value x) | (have h92 : ∀ a0 a1 t, Upd 1 s t → Upd 1 s (x a0 a1 t) := (by intro a0 a1 t ht; unfold x; repeat' first | with_reducible assumption | (guard_target =~ (_ ||| _ : Nat) = _; decide) | with_reducible apply h90 | with_reducible apply h91 | with_reducible apply h92 | with_reducible apply h93 | with_reducible apply h94 | with_reducible apply Upd.ite | with_reducible apply State.setFld_upd | with_reducible apply State.setReg_upd | with_reducible apply State.raise_upd); try clear_value x) | (have h93 : ∀ a0 a1 a2 t, Upd 1 s t → Upd 1 s (x a0 a1 a2 t) := (by intro a0 a1 a2 t ht; unfold x; repeat' first | with_reducible assumption | (guard_target =~ (_ ||| _ : Nat) = _; decide) | with_reducible apply h90 | with_reducible apply h91 | with_reducible apply h92 | with_reducible apply h93 | with_reducible apply h94 | with_reducible apply Upd.ite | with_reducible apply State.setFld_upd | with_reducible apply State.setReg_upd | with_reducible apply State.raise_upd); try clear_value x) | (have h94 : ∀ a0 a1 a2 a3 t, Upd 1 s t → Upd 1 s (x a0 a1 a2 a3 t) := (by intro a0 a1 a2 a3 t ht; unfold x; repeat' first | with_reducible assumption | (guard_target =~ (_ ||| _ : Nat) = _; decide) | with_reducible apply h90 | with_reducible apply h91 | with_reducible apply h92 | with_reducible apply h93 | with_reducible apply h94 | with_reducible apply Upd.ite | with_reducible apply State.setFld_upd | with_reducible apply State.setReg_upd | with_reducible apply State.raise_upd); try clear_value x) | clear_value x | skip) | with_reducible apply Upd.ite | with_reducible apply State.setFld_upd | with_reducible apply State.setReg_upd | with_reducible apply State.raise_upd

theorem execDiagRequest_upd (m : Master) (b : Fin 6) (val : Word) (s : State) {t : State} (hX : execDiagRequest m b val s = .next t) : Upd 1 s t := by
  unfold execDiagRequest at hX
  cases hX
  have h0 := Upd.refl 1 s
  repeat' first | with_reducible assumption | (guard_target =~ (_ ||| _ : Nat) = _; decide) | with_reducible apply Upd.ite | with_reducible apply diagWrite_upd

theorem execDiagWindow_upd (b : Fin 6) (s : State) {t : State} (hX : execDiagWindow b s = .next t) : Upd 65 s t := by
  unfold execDiagWindow at hX
  cases hX
  have h0 := Upd.refl 65 s
  repeat' first | with_reducible assumption | (guard_target =~ (_ ||| _ : Nat) = _; decide) | (fail_if_no_progress extract_lets +onlyGivenNames x; first | (have hx : Upd 65 s x := (by unfold x; repeat' first | with_reducible assumption | (guard_target =~ (_ ||| _ : Nat) = _; decide) | with_reducible apply Upd.ite | with_reducible apply State.setFld_upd | with_reducible apply Upd.lit | exact rfl | exact SadUpd.refl _ _ | with_reducible apply SadUpd.ite | apply SadUpd.mk | exact fun _ => PeakUpd.refl _ _ | exact Or.inl (by decide) | exact Or.inr rfl); try clear_value x) | (have h9 : (x : Peak) = x := rfl; clear h9) | (have h9 : (x : Saddle) = x := rfl; clear h9) | (have h9 : (x : Pair) = x := rfl; clear h9) | (have h9 : (x : Leg) = x := rfl; clear h9) | clear_value x | skip) | with_reducible apply Upd.ite | with_reducible apply State.setFld_upd | with_reducible apply Upd.lit | exact rfl | exact SadUpd.refl _ _ | with_reducible apply SadUpd.ite | apply SadUpd.mk | exact fun _ => PeakUpd.refl _ _ | exact Or.inl (by decide) | exact Or.inr rfl

theorem execDiagEnd_upd (b : Fin 6) (s : State) {t : State} (hX : execDiagEnd b s = .next t) : Upd 248523987615821 s t := by
  unfold execDiagEnd at hX
  cases hX
  have h0 := Upd.refl 248523987615821 s
  repeat' first | with_reducible assumption | (guard_target =~ (_ ||| _ : Nat) = _; decide) | (fail_if_no_progress extract_lets +onlyGivenNames x; first | (have hx : Upd 248523987615821 s x := (by unfold x; repeat' first | with_reducible assumption | (guard_target =~ (_ ||| _ : Nat) = _; decide) | with_reducible apply Upd.ite | with_reducible apply State.setFld_upd | with_reducible apply State.setReg_upd | with_reducible apply State.setCin_upd | with_reducible apply fireBoth_upd | with_reducible apply Upd.lit | exact rfl | exact SadUpd.refl _ _ | with_reducible apply SadUpd.ite | apply SadUpd.mk | exact fun _ => PeakUpd.refl _ _ | exact Or.inl (by decide) | exact Or.inr rfl); try clear_value x) | (have h9 : (x : Peak) = x := rfl; clear h9) | (have h9 : (x : Saddle) = x := rfl; clear h9) | (have h9 : (x : Pair) = x := rfl; clear h9) | (have h9 : (x : Leg) = x := rfl; clear h9) | clear_value x | skip) | with_reducible apply Upd.ite | with_reducible apply State.setFld_upd | with_reducible apply State.setReg_upd | with_reducible apply State.setCin_upd | with_reducible apply fireBoth_upd | with_reducible apply Upd.lit | exact rfl | exact SadUpd.refl _ _ | with_reducible apply SadUpd.ite | apply SadUpd.mk | exact fun _ => PeakUpd.refl _ _ | exact Or.inl (by decide) | exact Or.inr rfl

theorem rotorsStop_upd {M0 : Nat} {s0 : State} {d : PeakId} {s : State} (hU : Upd M0 s0 s) (hM : 65 ||| M0 = M0) : Upd M0 s0 (rotorsStop d s) := by
  refine Upd.step hU ?_ hM
  clear hU hM
  unfold rotorsStop
  have h0 := Upd.refl 65 s
  repeat' first | with_reducible assumption | (guard_target =~ (_ ||| _ : Nat) = _; decide) | with_reducible refine Upd.forAll ?_ (fun _ _ _ => ?_) | with_reducible apply State.setFld_upd | with_reducible apply State.setRotor_upd

theorem returnCut_upd {M0 : Nat} {s0 : State} {d : PeakId} {s : State} (hU : Upd M0 s0 s) (hM : 65 ||| M0 = M0) : Upd M0 s0 (returnCut d s) := by
  refine Upd.step hU ?_ hM
  clear hU hM
  unfold returnCut
  have h0 := Upd.refl 65 s
  repeat' first | with_reducible assumption | (guard_target =~ (_ ||| _ : Nat) = _; decide) | with_reducible apply Upd.ite | with_reducible apply cirqRefresh_upd | with_reducible apply rotorsStop_upd | with_reducible apply Upd.lit | exact rfl | exact SadUpd.refl _ _ | with_reducible apply SadUpd.ite | apply SadUpd.mk | exact fun _ => PeakUpd.refl _ _ | exact Or.inl (by decide) | exact Or.inr rfl

theorem diagsCut_upd {M0 : Nat} {s0 : State} {s : State} (hU : Upd M0 s0 s) (hM : 65 ||| M0 = M0) : Upd M0 s0 (diagsCut s) := by
  refine Upd.step hU ?_ hM
  clear hU hM
  unfold diagsCut
  have h0 := Upd.refl 65 s
  repeat' first | with_reducible assumption | (guard_target =~ (_ ||| _ : Nat) = _; decide) | (fail_if_no_progress extract_lets +onlyGivenNames x; first | (have hx : Upd 65 s x := (by unfold x; repeat' first | with_reducible assumption | (guard_target =~ (_ ||| _ : Nat) = _; decide) | with_reducible refine Upd.forAll ?_ (fun _ _ _ => ?_) | with_reducible apply State.setFld_upd | with_reducible apply Upd.lit | exact rfl | exact SadUpd.refl _ _ | with_reducible apply SadUpd.ite | apply SadUpd.mk | exact fun _ => PeakUpd.refl _ _ | exact Or.inl (by decide) | exact Or.inr rfl); try clear_value x) | (have h9 : (x : Peak) = x := rfl; clear h9) | (have h9 : (x : Saddle) = x := rfl; clear h9) | (have h9 : (x : Pair) = x := rfl; clear h9) | (have h9 : (x : Leg) = x := rfl; clear h9) | clear_value x | skip) | with_reducible refine Upd.forAll ?_ (fun _ _ _ => ?_) | with_reducible apply State.setFld_upd | with_reducible apply Upd.lit | exact rfl | exact SadUpd.refl _ _ | with_reducible apply SadUpd.ite | apply SadUpd.mk | exact fun _ => PeakUpd.refl _ _ | exact Or.inl (by decide) | exact Or.inr rfl

theorem domainLoss_upd {M0 : Nat} {s0 : State} {d : PeakId} {s : State} (hU : Upd M0 s0 s) (hM : 248523987615821 ||| M0 = M0) : Upd M0 s0 (domainLoss d s) := by
  refine Upd.step hU ?_ hM
  clear hU hM
  unfold domainLoss
  have h0 := Upd.refl 248523987615821 s
  repeat' first | with_reducible assumption | (guard_target =~ (_ ||| _ : Nat) = _; decide) | with_reducible apply h90 | with_reducible apply h91 | with_reducible apply h92 | with_reducible apply h93 | with_reducible apply h94 | (fail_if_no_progress extract_lets +onlyGivenNames x; first | (have hx : Upd 248523987615821 s x := (by unfold x; repeat' first | with_reducible assumption | (guard_target =~ (_ ||| _ : Nat) = _; decide) | with_reducible apply h90 | with_reducible apply h91 | with_reducible apply h92 | with_reducible apply h93 | with_reducible apply h94 | with_reducible apply Upd.ite | with_reducible apply State.setFld_upd | with_reducible apply State.setBit_upd | with_reducible apply State.raise_upd | with_reducible apply rotorsStop_upd | with_reducible apply diagsCut_upd | with_reducible refine Upd.forAll ?_ (fun _ _ _ => ?_) | with_reducible apply State.setCin_upd | with_reducible apply fireBoth_upd | with_reducible apply cirqRefresh_upd | with_reducible apply returnCut_upd | split | with_reducible apply Upd.lit | exact rfl | exact SadUpd.refl _ _ | with_reducible apply SadUpd.ite | apply SadUpd.mk | exact fun _ => PeakUpd.refl _ _ | exact Or.inl (by decide) | exact Or.inr rfl); try clear_value x) | (have h9 : (x : Peak) = x := rfl; clear h9) | (have h9 : (x : Saddle) = x := rfl; clear h9) | (have h9 : (x : Pair) = x := rfl; clear h9) | (have h9 : (x : Leg) = x := rfl; clear h9) | (have h90 : ∀  t, Upd 248523987615821 s t → Upd 248523987615821 s (x  t) := (by intro  t ht; unfold x; repeat' first | with_reducible assumption | (guard_target =~ (_ ||| _ : Nat) = _; decide) | with_reducible apply h90 | with_reducible apply h91 | with_reducible apply h92 | with_reducible apply h93 | with_reducible apply h94 | with_reducible apply Upd.ite | with_reducible apply State.setFld_upd | with_reducible apply State.setBit_upd | with_reducible apply State.raise_upd | with_reducible apply rotorsStop_upd | with_reducible apply diagsCut_upd | with_reducible refine Upd.forAll ?_ (fun _ _ _ => ?_) | with_reducible apply State.setCin_upd | with_reducible apply fireBoth_upd | with_reducible apply cirqRefresh_upd | with_reducible apply returnCut_upd | split | with_reducible apply Upd.lit | exact rfl | exact SadUpd.refl _ _ | with_reducible apply SadUpd.ite | apply SadUpd.mk | exact fun _ => PeakUpd.refl _ _ | exact Or.inl (by decide) | exact Or.inr rfl); try clear_value x) | (have h91 : ∀ a0 t, Upd 248523987615821 s t → Upd 248523987615821 s (x a0 t) := (by intro a0 t ht; unfold x; repeat' first | with_reducible assumption | (guard_target =~ (_ ||| _ : Nat) = _; decide) | with_reducible apply h90 | with_reducible apply h91 | with_reducible apply h92 | with_reducible apply h93 | with_reducible apply h94 | with_reducible apply Upd.ite | with_reducible apply State.setFld_upd | with_reducible apply State.setBit_upd | with_reducible apply State.raise_upd | with_reducible apply rotorsStop_upd | with_reducible apply diagsCut_upd | with_reducible refine Upd.forAll ?_ (fun _ _ _ => ?_) | with_reducible apply State.setCin_upd | with_reducible apply fireBoth_upd | with_reducible apply cirqRefresh_upd | with_reducible apply returnCut_upd | split | with_reducible apply Upd.lit | exact rfl | exact SadUpd.refl _ _ | with_reducible apply SadUpd.ite | apply SadUpd.mk | exact fun _ => PeakUpd.refl _ _ | exact Or.inl (by decide) | exact Or.inr rfl); try clear_value x) | (have h92 : ∀ a0 a1 t, Upd 248523987615821 s t → Upd 248523987615821 s (x a0 a1 t) := (by intro a0 a1 t ht; unfold x; repeat' first | with_reducible assumption | (guard_target =~ (_ ||| _ : Nat) = _; decide) | with_reducible apply h90 | with_reducible apply h91 | with_reducible apply h92 | with_reducible apply h93 | with_reducible apply h94 | with_reducible apply Upd.ite | with_reducible apply State.setFld_upd | with_reducible apply State.setBit_upd | with_reducible apply State.raise_upd | with_reducible apply rotorsStop_upd | with_reducible apply diagsCut_upd | with_reducible refine Upd.forAll ?_ (fun _ _ _ => ?_) | with_reducible apply State.setCin_upd | with_reducible apply fireBoth_upd | with_reducible apply cirqRefresh_upd | with_reducible apply returnCut_upd | split | with_reducible apply Upd.lit | exact rfl | exact SadUpd.refl _ _ | with_reducible apply SadUpd.ite | apply SadUpd.mk | exact fun _ => PeakUpd.refl _ _ | exact Or.inl (by decide) | exact Or.inr rfl); try clear_value x) | (have h93 : ∀ a0 a1 a2 t, Upd 248523987615821 s t → Upd 248523987615821 s (x a0 a1 a2 t) := (by intro a0 a1 a2 t ht; unfold x; repeat' first | with_reducible assumption | (guard_target =~ (_ ||| _ : Nat) = _; decide) | with_reducible apply h90 | with_reducible apply h91 | with_reducible apply h92 | with_reducible apply h93 | with_reducible apply h94 | with_reducible apply Upd.ite | with_reducible apply State.setFld_upd | with_reducible apply State.setBit_upd | with_reducible apply State.raise_upd | with_reducible apply rotorsStop_upd | with_reducible apply diagsCut_upd | with_reducible refine Upd.forAll ?_ (fun _ _ _ => ?_) | with_reducible apply State.setCin_upd | with_reducible apply fireBoth_upd | with_reducible apply cirqRefresh_upd | with_reducible apply returnCut_upd | split | with_reducible apply Upd.lit | exact rfl | exact SadUpd.refl _ _ | with_reducible apply SadUpd.ite | apply SadUpd.mk | exact fun _ => PeakUpd.refl _ _ | exact Or.inl (by decide) | exact Or.inr rfl); try clear_value x) | (have h94 : ∀ a0 a1 a2 a3 t, Upd 248523987615821 s t → Upd 248523987615821 s (x a0 a1 a2 a3 t) := (by intro a0 a1 a2 a3 t ht; unfold x; repeat' first | with_reducible assumption | (guard_target =~ (_ ||| _ : Nat) = _; decide) | with_reducible apply h90 | with_reducible apply h91 | with_reducible apply h92 | with_reducible apply h93 | with_reducible apply h94 | with_reducible apply Upd.ite | with_reducible apply State.setFld_upd | with_reducible apply State.setBit_upd | with_reducible apply State.raise_upd | with_reducible apply rotorsStop_upd | with_reducible apply diagsCut_upd | with_reducible refine Upd.forAll ?_ (fun _ _ _ => ?_) | with_reducible apply State.setCin_upd | with_reducible apply fireBoth_upd | with_reducible apply cirqRefresh_upd | with_reducible apply returnCut_upd | split | with_reducible apply Upd.lit | exact rfl | exact SadUpd.refl _ _ | with_reducible apply SadUpd.ite | apply SadUpd.mk | exact fun _ => PeakUpd.refl _ _ | exact Or.inl (by decide) | exact Or.inr rfl); try clear_value x) | clear_value x | skip) | with_reducible apply Upd.ite | with_reducible apply State.setFld_upd | with_reducible apply State.setBit_upd | with_reducible apply State.raise_upd | with_reducible apply rotorsStop_upd | with_reducible apply diagsCut_upd | with_reducible refine Upd.forAll ?_ (fun _ _ _ => ?_) | with_reducible apply State.setCin_upd | with_reducible apply fireBoth_upd | with_reducible apply cirqRefresh_upd | with_reducible apply returnCut_upd | split | with_reducible apply Upd.lit | exact rfl | exact SadUpd.refl _ _ | with_reducible apply SadUpd.ite | apply SadUpd.mk | exact fun _ => PeakUpd.refl _ _ | exact Or.inl (by decide) | exact Or.inr rfl

theorem execDomainLoss_upd (d : PeakId) (s : State) {t : State} (hX : execDomainLoss d s = .next t) : Upd 248523987615821 s t := by
  unfold execDomainLoss at hX
  cases hX
  have h0 := Upd.refl 248523987615821 s
  repeat' first | with_reducible assumption | (guard_target =~ (_ ||| _ : Nat) = _; decide) | with_reducible apply domainLoss_upd

theorem execDomainPllStart_upd (d : PeakId) (s : State) {t : State} (hX : execDomainPllStart d s = .next t) : Upd 64 s t := by
  unfold execDomainPllStart at hX
  cases hX
  have h0 := Upd.refl 64 s
  repeat' first | with_reducible assumption | (guard_target =~ (_ ||| _ : Nat) = _; decide) | with_reducible apply Upd.ite | with_reducible apply Upd.lit | exact rfl | exact SadUpd.refl _ _ | with_reducible apply SadUpd.ite | apply SadUpd.mk | exact fun _ => PeakUpd.refl _ _ | exact Or.inl (by decide) | exact Or.inr rfl

theorem domainPllLock_upd {M0 : Nat} {s0 : State} {d : PeakId} {s : State} (hU : Upd M0 s0 s) (hM : 67108929 ||| M0 = M0) : Upd M0 s0 (domainPllLock d s) := by
  refine Upd.step hU ?_ hM
  clear hU hM
  unfold domainPllLock
  have h0 := Upd.refl 67108929 s
  repeat' first | with_reducible assumption | (guard_target =~ (_ ||| _ : Nat) = _; decide) | (fail_if_no_progress extract_lets +onlyGivenNames x; first | (have hx : Upd 67108929 s x := (by unfold x; repeat' first | with_reducible assumption | (guard_target =~ (_ ||| _ : Nat) = _; decide) | with_reducible apply Upd.ite | with_reducible apply clkRefresh_upd | with_reducible apply State.setPll_upd | with_reducible apply cirqRefresh_upd | with_reducible refine Upd.forAll ?_ (fun _ _ _ => ?_) | with_reducible apply State.setFld_upd | with_reducible apply State.setRotor_upd | with_reducible apply Upd.lit | exact rfl | exact SadUpd.refl _ _ | with_reducible apply SadUpd.ite | apply SadUpd.mk | exact fun _ => PeakUpd.refl _ _ | exact Or.inl (by decide) | exact Or.inr rfl); try clear_value x) | (have h9 : (x : Peak) = x := rfl; clear h9) | (have h9 : (x : Saddle) = x := rfl; clear h9) | (have h9 : (x : Pair) = x := rfl; clear h9) | (have h9 : (x : Leg) = x := rfl; clear h9) | clear_value x | skip) | with_reducible apply Upd.ite | with_reducible apply clkRefresh_upd | with_reducible apply State.setPll_upd | with_reducible apply cirqRefresh_upd | with_reducible refine Upd.forAll ?_ (fun _ _ _ => ?_) | with_reducible apply State.setFld_upd | with_reducible apply State.setRotor_upd | with_reducible apply Upd.lit | exact rfl | exact SadUpd.refl _ _ | with_reducible apply SadUpd.ite | apply SadUpd.mk | exact fun _ => PeakUpd.refl _ _ | exact Or.inl (by decide) | exact Or.inr rfl

theorem execDomainPllLock_upd (d : PeakId) (s : State) {t : State} (hX : execDomainPllLock d s = .next t) : Upd 67108929 s t := by
  unfold execDomainPllLock at hX
  cases hX
  have h0 := Upd.refl 67108929 s
  repeat' first | with_reducible assumption | (guard_target =~ (_ ||| _ : Nat) = _; decide) | with_reducible apply domainPllLock_upd

theorem rotorsBegin_upd {M0 : Nat} {s0 : State} {d : PeakId} {s : State} (hU : Upd M0 s0 s) (hM : 65 ||| M0 = M0) : Upd M0 s0 (rotorsBegin d s) := by
  refine Upd.step hU ?_ hM
  clear hU hM
  unfold rotorsBegin
  have h0 := Upd.refl 65 s
  repeat' first | with_reducible assumption | (guard_target =~ (_ ||| _ : Nat) = _; decide) | (fail_if_no_progress extract_lets +onlyGivenNames x; first | (have hx : Upd 65 s x := (by unfold x; repeat' first | with_reducible assumption | (guard_target =~ (_ ||| _ : Nat) = _; decide) | with_reducible apply Upd.ite | with_reducible refine Upd.forAll ?_ (fun _ _ _ => ?_) | with_reducible apply State.setFld_upd | with_reducible apply State.setRotor_upd | with_reducible apply calTake_upd | split); try clear_value x) | (have hx : Upd 65 s x.2 := (by unfold x; repeat' first | with_reducible assumption | (guard_target =~ (_ ||| _ : Nat) = _; decide) | with_reducible apply Upd.ite | with_reducible refine Upd.forAll ?_ (fun _ _ _ => ?_) | with_reducible apply State.setFld_upd | with_reducible apply State.setRotor_upd | with_reducible apply calTake_upd | split); try clear_value x) | (have h9 : (x : Peak) = x := rfl; clear h9) | (have h9 : (x : Saddle) = x := rfl; clear h9) | (have h9 : (x : Pair) = x := rfl; clear h9) | (have h9 : (x : Leg) = x := rfl; clear h9) | clear_value x | skip) | with_reducible apply Upd.ite | with_reducible refine Upd.forAll ?_ (fun _ _ _ => ?_) | with_reducible apply State.setFld_upd | with_reducible apply State.setRotor_upd | with_reducible apply calTake_upd | split

theorem domainRejoin_upd {M0 : Nat} {s0 : State} {d : PeakId} {s : State} (hU : Upd M0 s0 s) (hM : 248523987615821 ||| M0 = M0) : Upd M0 s0 (domainRejoin d s) := by
  refine Upd.step hU ?_ hM
  clear hU hM
  unfold domainRejoin
  have h0 := Upd.refl 248523987615821 s
  repeat' first | with_reducible assumption | (guard_target =~ (_ ||| _ : Nat) = _; decide) | (fail_if_no_progress extract_lets +onlyGivenNames x; first | (have hx : Upd 248523987615821 s x := (by unfold x; repeat' first | with_reducible assumption | (guard_target =~ (_ ||| _ : Nat) = _; decide) | with_reducible apply Upd.ite | with_reducible apply State.setFld_upd | with_reducible refine Upd.forAll ?_ (fun _ _ _ => ?_) | with_reducible apply calFresh_upd | with_reducible apply fireBoth_upd | with_reducible apply cirqRefresh_upd | with_reducible apply State.setCin_upd | with_reducible apply State.setRotor_upd | with_reducible apply Upd.lit | exact rfl | exact SadUpd.refl _ _ | with_reducible apply SadUpd.ite | apply SadUpd.mk | exact fun _ => PeakUpd.refl _ _ | exact Or.inl (by decide) | exact Or.inr rfl); try clear_value x) | (have h9 : (x : Peak) = x := rfl; clear h9) | (have h9 : (x : Saddle) = x := rfl; clear h9) | (have h9 : (x : Pair) = x := rfl; clear h9) | (have h9 : (x : Leg) = x := rfl; clear h9) | clear_value x | skip) | with_reducible apply Upd.ite | with_reducible apply State.setFld_upd | with_reducible refine Upd.forAll ?_ (fun _ _ _ => ?_) | with_reducible apply calFresh_upd | with_reducible apply fireBoth_upd | with_reducible apply cirqRefresh_upd | with_reducible apply State.setCin_upd | with_reducible apply State.setRotor_upd | with_reducible apply Upd.lit | exact rfl | exact SadUpd.refl _ _ | with_reducible apply SadUpd.ite | apply SadUpd.mk | exact fun _ => PeakUpd.refl _ _ | exact Or.inl (by decide) | exact Or.inr rfl

theorem execDomainRejoin_upd (d : PeakId) (s : State) {t : State} (hX : execDomainRejoin d s = .next t) : Upd 248523987615821 s t := by
  unfold execDomainRejoin at hX
  cases hX
  have h0 := Upd.refl 248523987615821 s
  repeat' first | with_reducible assumption | (guard_target =~ (_ ||| _ : Nat) = _; decide) | with_reducible apply domainRejoin_upd

theorem domainBegin_upd {M0 : Nat} {s0 : State} {d : PeakId} {ok : Bool} {s : State} (hU : Upd M0 s0 s) (hM : 65 ||| M0 = M0) : Upd M0 s0 (domainBegin d ok s) := by
  refine Upd.step hU ?_ hM
  clear hU hM
  unfold domainBegin
  have h0 := Upd.refl 65 s
  repeat' first | with_reducible assumption | (guard_target =~ (_ ||| _ : Nat) = _; decide) | (fail_if_no_progress extract_lets +onlyGivenNames x; first | (have hx : Upd 65 s x := (by unfold x; repeat' first | with_reducible assumption | (guard_target =~ (_ ||| _ : Nat) = _; decide) | with_reducible apply Upd.ite | with_reducible apply State.setBit_upd | with_reducible apply rotorsBegin_upd | with_reducible apply rotorsStop_upd | with_reducible apply State.raise_upd); try clear_value x) | (have h9 : (x : Peak) = x := rfl; clear h9) | (have h9 : (x : Saddle) = x := rfl; clear h9) | (have h9 : (x : Pair) = x := rfl; clear h9) | (have h9 : (x : Leg) = x := rfl; clear h9) | clear_value x | skip) | with_reducible apply Upd.ite | with_reducible apply State.setBit_upd | with_reducible apply rotorsBegin_upd | with_reducible apply rotorsStop_upd | with_reducible apply State.raise_upd

theorem cirqRelease_upd {M0 : Nat} {s0 : State} {okA : Bool} {okB : Bool} {s : State} (hU : Upd M0 s0 s) (hM : 1073741889 ||| M0 = M0) : Upd M0 s0 (cirqRelease okA okB s) := by
  refine Upd.step hU ?_ hM
  clear hU hM
  unfold cirqRelease
  have h0 := Upd.refl 1073741889 s
  repeat' first | with_reducible assumption | (guard_target =~ (_ ||| _ : Nat) = _; decide) | (fail_if_no_progress extract_lets +onlyGivenNames x; first | (have hx : Upd 1073741889 s x := (by unfold x; repeat' first | with_reducible assumption | (guard_target =~ (_ ||| _ : Nat) = _; decide) | with_reducible apply diagsCut_upd | with_reducible apply domainBegin_upd | with_reducible apply State.setBit_upd | with_reducible refine Upd.forAll ?_ (fun _ _ _ => ?_) | with_reducible apply State.setCin_upd | with_reducible apply cirqRefresh_upd | with_reducible apply Upd.lit | exact rfl | exact SadUpd.refl _ _ | with_reducible apply SadUpd.ite | apply SadUpd.mk | exact fun _ => PeakUpd.refl _ _ | exact Or.inl (by decide) | exact Or.inr rfl); try clear_value x) | (have h9 : (x : Peak) = x := rfl; clear h9) | (have h9 : (x : Saddle) = x := rfl; clear h9) | (have h9 : (x : Pair) = x := rfl; clear h9) | (have h9 : (x : Leg) = x := rfl; clear h9) | clear_value x | skip) | with_reducible apply diagsCut_upd | with_reducible apply domainBegin_upd | with_reducible apply State.setBit_upd | with_reducible refine Upd.forAll ?_ (fun _ _ _ => ?_) | with_reducible apply State.setCin_upd | with_reducible apply cirqRefresh_upd | with_reducible apply Upd.lit | exact rfl | exact SadUpd.refl _ _ | with_reducible apply SadUpd.ite | apply SadUpd.mk | exact fun _ => PeakUpd.refl _ _ | exact Or.inl (by decide) | exact Or.inr rfl

end Sys2Proof.Machine
end

