-- ==== Sys2Proof/Laws/UpdCairn.lean ====
section
/-! SUPPORT. What each operation of Machine/Cairn.lean may change. -/

set_option linter.unusedTactic false
set_option linter.unreachableTactic false

namespace Sys2Proof.Machine

theorem cairnCycle_upd {M0 : Nat} {s0 : State} {s : State} (hU : Upd M0 s0 s) (hM : 128 ||| M0 = M0) : Upd M0 s0 (cairnCycle s) := by
  refine Upd.step hU ?_ hM
  clear hU hM
  unfold cairnCycle
  have h0 := Upd.refl 128 s
  repeat' first | with_reducible assumption | (guard_target =~ (_ ||| _ : Nat) = _; decide) | (fail_if_no_progress extract_lets +onlyGivenNames x; first | (have hx : Upd 128 s x := (by unfold x; repeat' first | with_reducible assumption | (guard_target =~ (_ ||| _ : Nat) = _; decide) | with_reducible apply Upd.ite | with_reducible apply Upd.lit | exact rfl | exact SadUpd.refl _ _ | with_reducible apply SadUpd.ite | apply SadUpd.mk | exact fun _ => PeakUpd.refl _ _ | exact Or.inl (by decide) | exact Or.inr rfl); try clear_value x) | (have h9 : (x : Peak) = x := rfl; clear h9) | (have h9 : (x : Saddle) = x := rfl; clear h9) | (have h9 : (x : Pair) = x := rfl; clear h9) | (have h9 : (x : Leg) = x := rfl; clear h9) | clear_value x | skip) | with_reducible apply Upd.ite | with_reducible apply Upd.lit | exact rfl | exact SadUpd.refl _ _ | with_reducible apply SadUpd.ite | apply SadUpd.mk | exact fun _ => PeakUpd.refl _ _ | exact Or.inl (by decide) | exact Or.inr rfl

theorem mapPoint_upd {M0 : Nat} {s0 : State} {s : State} (hU : Upd M0 s0 s) (hM : 128 ||| M0 = M0) : Upd M0 s0 (mapPoint s) := by
  refine Upd.step hU ?_ hM
  clear hU hM
  unfold mapPoint
  have h0 := Upd.refl 128 s
  repeat' first | with_reducible assumption | (guard_target =~ (_ ||| _ : Nat) = _; decide) | (fail_if_no_progress extract_lets +onlyGivenNames x; first | (have hx : Upd 128 s x := (by unfold x; repeat' first | with_reducible assumption | (guard_target =~ (_ ||| _ : Nat) = _; decide) | with_reducible apply Upd.lit | exact rfl | exact SadUpd.refl _ _ | with_reducible apply SadUpd.ite | apply SadUpd.mk | exact fun _ => PeakUpd.refl _ _ | exact Or.inl (by decide) | exact Or.inr rfl); try clear_value x) | (have h9 : (x : Peak) = x := rfl; clear h9) | (have h9 : (x : Saddle) = x := rfl; clear h9) | (have h9 : (x : Pair) = x := rfl; clear h9) | (have h9 : (x : Leg) = x := rfl; clear h9) | clear_value x | skip) | with_reducible apply Upd.lit | exact rfl | exact SadUpd.refl _ _ | with_reducible apply SadUpd.ite | apply SadUpd.mk | exact fun _ => PeakUpd.refl _ _ | exact Or.inl (by decide) | exact Or.inr rfl

theorem cairnValid_upd {M0 : Nat} {s0 : State} {s : State} (hU : Upd M0 s0 s) (hM : 248523987615757 ||| M0 = M0) : Upd M0 s0 (cairnValid s) := by
  refine Upd.step hU ?_ hM
  clear hU hM
  unfold cairnValid
  have h0 := Upd.refl 248523987615757 s
  repeat' first | with_reducible assumption | (guard_target =~ (_ ||| _ : Nat) = _; decide) | (fail_if_no_progress extract_lets +onlyGivenNames x; first | (have hx : Upd 248523987615757 s x := (by unfold x; repeat' first | with_reducible assumption | (guard_target =~ (_ ||| _ : Nat) = _; decide) | with_reducible apply Upd.ite | with_reducible apply fireBoth_upd | with_reducible apply State.setBit_upd); try clear_value x) | (have h9 : (x : Peak) = x := rfl; clear h9) | (have h9 : (x : Saddle) = x := rfl; clear h9) | (have h9 : (x : Pair) = x := rfl; clear h9) | (have h9 : (x : Leg) = x := rfl; clear h9) | clear_value x | skip) | with_reducible apply Upd.ite | with_reducible apply fireBoth_upd | with_reducible apply State.setBit_upd

theorem leaseWrite_upd {M0 : Nat} {s0 : State} {v : Nat} {s : State} (hU : Upd M0 s0 s) (hM : 248523987615885 ||| M0 = M0) : Upd M0 s0 (leaseWrite v s) := by
  refine Upd.step hU ?_ hM
  clear hU hM
  unfold leaseWrite
  have h0 := Upd.refl 248523987615885 s
  repeat' first | with_reducible assumption | (guard_target =~ (_ ||| _ : Nat) = _; decide) | (fail_if_no_progress extract_lets +onlyGivenNames x; first | (have hx : Upd 248523987615885 s x := (by unfold x; repeat' first | with_reducible assumption | (guard_target =~ (_ ||| _ : Nat) = _; decide) | with_reducible apply State.setReg_upd | with_reducible apply cairnValid_upd | with_reducible apply Upd.lit | exact rfl | exact SadUpd.refl _ _ | with_reducible apply SadUpd.ite | apply SadUpd.mk | exact fun _ => PeakUpd.refl _ _ | exact Or.inl (by decide) | exact Or.inr rfl); try clear_value x) | (have h9 : (x : Peak) = x := rfl; clear h9) | (have h9 : (x : Saddle) = x := rfl; clear h9) | (have h9 : (x : Pair) = x := rfl; clear h9) | (have h9 : (x : Leg) = x := rfl; clear h9) | clear_value x | skip) | with_reducible apply State.setReg_upd | with_reducible apply cairnValid_upd | with_reducible apply Upd.lit | exact rfl | exact SadUpd.refl _ _ | with_reducible apply SadUpd.ite | apply SadUpd.mk | exact fun _ => PeakUpd.refl _ _ | exact Or.inl (by decide) | exact Or.inr rfl

theorem rateLoWrite_upd {M0 : Nat} {s0 : State} {v : Nat} {s : State} (hU : Upd M0 s0 s) (hM : 128 ||| M0 = M0) : Upd M0 s0 (rateLoWrite v s) := by
  refine Upd.step hU ?_ hM
  clear hU hM
  unfold rateLoWrite
  have h0 := Upd.refl 128 s
  repeat' first | with_reducible assumption | (guard_target =~ (_ ||| _ : Nat) = _; decide) | with_reducible apply Upd.lit | exact rfl | exact SadUpd.refl _ _ | with_reducible apply SadUpd.ite | apply SadUpd.mk | exact fun _ => PeakUpd.refl _ _ | exact Or.inl (by decide) | exact Or.inr rfl

theorem rateCommit_upd {M0 : Nat} {s0 : State} {v : Nat} {s : State} (hU : Upd M0 s0 s) (hM : 129 ||| M0 = M0) : Upd M0 s0 (rateCommit v s) := by
  refine Upd.step hU ?_ hM
  clear hU hM
  unfold rateCommit
  have h0 := Upd.refl 129 s
  repeat' first | with_reducible assumption | (guard_target =~ (_ ||| _ : Nat) = _; decide) | (fail_if_no_progress extract_lets +onlyGivenNames x; first | (have hx : Upd 129 s x := (by unfold x; repeat' first | with_reducible assumption | (guard_target =~ (_ ||| _ : Nat) = _; decide) | with_reducible apply Upd.ite | with_reducible apply State.raise_upd | with_reducible apply mapPoint_upd | with_reducible apply State.setReg_upd | with_reducible apply Upd.lit | exact rfl | exact SadUpd.refl _ _ | with_reducible apply SadUpd.ite | apply SadUpd.mk | exact fun _ => PeakUpd.refl _ _ | exact Or.inl (by decide) | exact Or.inr rfl); try clear_value x) | (have h9 : (x : Peak) = x := rfl; clear h9) | (have h9 : (x : Saddle) = x := rfl; clear h9) | (have h9 : (x : Pair) = x := rfl; clear h9) | (have h9 : (x : Leg) = x := rfl; clear h9) | clear_value x | skip) | with_reducible apply Upd.ite | with_reducible apply State.raise_upd | with_reducible apply mapPoint_upd | with_reducible apply State.setReg_upd | with_reducible apply Upd.lit | exact rfl | exact SadUpd.refl _ _ | with_reducible apply SadUpd.ite | apply SadUpd.mk | exact fun _ => PeakUpd.refl _ _ | exact Or.inl (by decide) | exact Or.inr rfl

theorem crnRefuse_upd {M0 : Nat} {s0 : State} {code : Nat} {s : State} (hU : Upd M0 s0 s) (hM : 1 ||| M0 = M0) : Upd M0 s0 (crnRefuse code s) := by
  refine Upd.step hU ?_ hM
  clear hU hM
  unfold crnRefuse
  have h0 := Upd.refl 1 s
  repeat' first | with_reducible assumption | (guard_target =~ (_ ||| _ : Nat) = _; decide) | with_reducible apply State.raise_upd | with_reducible apply State.setFld_upd

theorem cairnArm_upd {M0 : Nat} {s0 : State} {s : State} (hU : Upd M0 s0 s) (hM : 248523987615885 ||| M0 = M0) : Upd M0 s0 (cairnArm s) := by
  refine Upd.step hU ?_ hM
  clear hU hM
  unfold cairnArm
  have h0 := Upd.refl 248523987615885 s
  repeat' first | with_reducible assumption | (guard_target =~ (_ ||| _ : Nat) = _; decide) | (fail_if_no_progress extract_lets +onlyGivenNames x; first | (have hx : Upd 248523987615885 s x := (by unfold x; repeat' first | with_reducible assumption | (guard_target =~ (_ ||| _ : Nat) = _; decide) | with_reducible apply Upd.ite | with_reducible apply crnRefuse_upd | with_reducible apply State.setFld_upd | with_reducible apply cairnValid_upd | with_reducible apply Upd.lit | exact rfl | exact SadUpd.refl _ _ | with_reducible apply SadUpd.ite | apply SadUpd.mk | exact fun _ => PeakUpd.refl _ _ | exact Or.inl (by decide) | exact Or.inr rfl); try clear_value x) | (have h9 : (x : Peak) = x := rfl; clear h9) | (have h9 : (x : Saddle) = x := rfl; clear h9) | (have h9 : (x : Pair) = x := rfl; clear h9) | (have h9 : (x : Leg) = x := rfl; clear h9) | clear_value x | skip) | with_reducible apply Upd.ite | with_reducible apply crnRefuse_upd | with_reducible apply State.setFld_upd | with_reducible apply cairnValid_upd | with_reducible apply Upd.lit | exact rfl | exact SadUpd.refl _ _ | with_reducible apply SadUpd.ite | apply SadUpd.mk | exact fun _ => PeakUpd.refl _ _ | exact Or.inl (by decide) | exact Or.inr rfl

theorem cairnStep_upd {M0 : Nat} {s0 : State} {s : State} (hU : Upd M0 s0 s) (hM : 248523987615885 ||| M0 = M0) : Upd M0 s0 (cairnStep s) := by
  refine Upd.step hU ?_ hM
  clear hU hM
  unfold cairnStep
  have h0 := Upd.refl 248523987615885 s
  repeat' first | with_reducible assumption | (guard_target =~ (_ ||| _ : Nat) = _; decide) | (fail_if_no_progress extract_lets +onlyGivenNames x; first | (have hx : Upd 248523987615885 s x := (by unfold x; repeat' first | with_reducible assumption | (guard_target =~ (_ ||| _ : Nat) = _; decide) | with_reducible apply Upd.ite | with_reducible apply crnRefuse_upd | with_reducible apply State.setFld_upd | with_reducible apply cairnValid_upd | with_reducible apply mapPoint_upd | with_reducible apply State.bump_upd | with_reducible apply Upd.lit | exact rfl | exact SadUpd.refl _ _ | with_reducible apply SadUpd.ite | apply SadUpd.mk | exact fun _ => PeakUpd.refl _ _ | exact Or.inl (by decide) | exact Or.inr rfl); try clear_value x) | (have h9 : (x : Peak) = x := rfl; clear h9) | (have h9 : (x : Saddle) = x := rfl; clear h9) | (have h9 : (x : Pair) = x := rfl; clear h9) | (have h9 : (x : Leg) = x := rfl; clear h9) | clear_value x | skip) | with_reducible apply Upd.ite | with_reducible apply crnRefuse_upd | with_reducible apply State.setFld_upd | with_reducible apply cairnValid_upd | with_reducible apply mapPoint_upd | with_reducible apply State.bump_upd | with_reducible apply Upd.lit | exact rfl | exact SadUpd.refl _ _ | with_reducible apply SadUpd.ite | apply SadUpd.mk | exact fun _ => PeakUpd.refl _ _ | exact Or.inl (by decide) | exact Or.inr rfl

theorem crnCtrlWrite_upd {M0 : Nat} {s0 : State} {v : Nat} {s : State} (hU : Upd M0 s0 s) (hM : 248523987615885 ||| M0 = M0) : Upd M0 s0 (crnCtrlWrite v s) := by
  refine Upd.step hU ?_ hM
  clear hU hM
  unfold crnCtrlWrite
  have h0 := Upd.refl 248523987615885 s
  repeat' first | with_reducible assumption | (guard_target =~ (_ ||| _ : Nat) = _; decide) | (fail_if_no_progress extract_lets +onlyGivenNames x; first | (have hx : Upd 248523987615885 s x := (by unfold x; repeat' first | with_reducible assumption | (guard_target =~ (_ ||| _ : Nat) = _; decide) | with_reducible apply Upd.ite | with_reducible apply cairnArm_upd | with_reducible apply cairnStep_upd); try clear_value x) | (have h9 : (x : Peak) = x := rfl; clear h9) | (have h9 : (x : Saddle) = x := rfl; clear h9) | (have h9 : (x : Pair) = x := rfl; clear h9) | (have h9 : (x : Leg) = x := rfl; clear h9) | clear_value x | skip) | with_reducible apply Upd.ite | with_reducible apply cairnArm_upd | with_reducible apply cairnStep_upd

theorem nowRead_upd {M0 : Nat} {s0 : State} {m : Master} {s : State} (hU : Upd M0 s0 s) (hM : 128 ||| M0 = M0) : Upd M0 s0 (nowRead m s).2 := by
  refine Upd.step hU ?_ hM
  clear hU hM
  unfold nowRead
  have h0 := Upd.refl 128 s
  repeat' first | with_reducible assumption | (guard_target =~ (_ ||| _ : Nat) = _; decide) | (fail_if_no_progress extract_lets +onlyGivenNames x; first | (have hx : Upd 128 s x := (by unfold x; repeat' first | with_reducible assumption | (guard_target =~ (_ ||| _ : Nat) = _; decide) | with_reducible apply Upd.ite | with_reducible apply Upd.ite_snd | with_reducible apply Upd.lit | exact rfl | exact SadUpd.refl _ _ | with_reducible apply SadUpd.ite | apply SadUpd.mk | exact fun _ => PeakUpd.refl _ _ | exact Or.inl (by decide) | exact Or.inr rfl); try clear_value x) | (have hx : Upd 128 s x.2 := (by unfold x; repeat' first | with_reducible assumption | (guard_target =~ (_ ||| _ : Nat) = _; decide) | with_reducible apply Upd.ite | with_reducible apply Upd.ite_snd | with_reducible apply Upd.lit | exact rfl | exact SadUpd.refl _ _ | with_reducible apply SadUpd.ite | apply SadUpd.mk | exact fun _ => PeakUpd.refl _ _ | exact Or.inl (by decide) | exact Or.inr rfl); try clear_value x) | (have h9 : (x : Peak) = x := rfl; clear h9) | (have h9 : (x : Saddle) = x := rfl; clear h9) | (have h9 : (x : Pair) = x := rfl; clear h9) | (have h9 : (x : Leg) = x := rfl; clear h9) | clear_value x | skip) | with_reducible apply Upd.ite | with_reducible apply Upd.ite_snd | with_reducible apply Upd.lit | exact rfl | exact SadUpd.refl _ _ | with_reducible apply SadUpd.ite | apply SadUpd.mk | exact fun _ => PeakUpd.refl _ _ | exact Or.inl (by decide) | exact Or.inr rfl

theorem execRateLoWrite_upd (m : Master) (val : Word) (s : State) {t : State} (hX : execRateLoWrite m val s = .next t) : Upd 128 s t := by
  unfold execRateLoWrite at hX
  cases hX
  have h0 := Upd.refl 128 s
  repeat' first | with_reducible assumption | (guard_target =~ (_ ||| _ : Nat) = _; decide) | with_reducible apply Upd.ite | with_reducible apply rateLoWrite_upd

theorem execRateCommit_upd (m : Master) (val : Word) (s : State) {t : State} (hX : execRateCommit m val s = .next t) : Upd 129 s t := by
  unfold execRateCommit at hX
  cases hX
  have h0 := Upd.refl 129 s
  repeat' first | with_reducible assumption | (guard_target =~ (_ ||| _ : Nat) = _; decide) | with_reducible apply Upd.ite | with_reducible apply rateCommit_upd

theorem execNowRead_upd (m : Master) (s : State) {t : State} (hX : execNowRead m s = .next t) : Upd 144 s t := by
  unfold execNowRead at hX
  cases hX
  have h0 := Upd.refl 144 s
  repeat' first | with_reducible assumption | (guard_target =~ (_ ||| _ : Nat) = _; decide) | with_reducible apply Upd.ite | with_reducible apply Upd.ite_snd | with_reducible refine returned_upd ?_ ?_ | with_reducible apply nowRead_upd

theorem execCairnArm_upd (m : Master) (s : State) {t : State} (hX : execCairnArm m s = .next t) : Upd 248523987615885 s t := by
  unfold execCairnArm at hX
  cases hX
  have h0 := Upd.refl 248523987615885 s
  repeat' first | with_reducible assumption | (guard_target =~ (_ ||| _ : Nat) = _; decide) | with_reducible apply Upd.ite | with_reducible apply crnCtrlWrite_upd

theorem execCairnStep_upd (m : Master) (s : State) {t : State} (hX : execCairnStep m s = .next t) : Upd 248523987615885 s t := by
  unfold execCairnStep at hX
  cases hX
  have h0 := Upd.refl 248523987615885 s
  repeat' first | with_reducible assumption | (guard_target =~ (_ ||| _ : Nat) = _; decide) | with_reducible apply Upd.ite | with_reducible apply crnCtrlWrite_upd

theorem execLeaseWrite_upd (m : Master) (val : Word) (s : State) {t : State} (hX : execLeaseWrite m val s = .next t) : Upd 248523987615885 s t := by
  unfold execLeaseWrite at hX
  cases hX
  have h0 := Upd.refl 248523987615885 s
  repeat' first | with_reducible assumption | (guard_target =~ (_ ||| _ : Nat) = _; decide) | with_reducible apply Upd.ite | with_reducible apply leaseWrite_upd

theorem execLeaseExpiry_upd (s : State) {t : State} (hX : execLeaseExpiry s = .next t) : Upd 248523987615885 s t := by
  unfold execLeaseExpiry at hX
  cases hX
  have h0 := Upd.refl 248523987615885 s
  repeat' first | with_reducible assumption | (guard_target =~ (_ ||| _ : Nat) = _; decide) | (fail_if_no_progress extract_lets +onlyGivenNames x; first | (have hx : Upd 248523987615885 s x := (by unfold x; repeat' first | with_reducible assumption | (guard_target =~ (_ ||| _ : Nat) = _; decide) | with_reducible apply Upd.ite | with_reducible apply cairnValid_upd | with_reducible apply State.raise_upd | with_reducible apply Upd.lit | exact rfl | exact SadUpd.refl _ _ | with_reducible apply SadUpd.ite | apply SadUpd.mk | exact fun _ => PeakUpd.refl _ _ | exact Or.inl (by decide) | exact Or.inr rfl); try clear_value x) | (have h9 : (x : Peak) = x := rfl; clear h9) | (have h9 : (x : Saddle) = x := rfl; clear h9) | (have h9 : (x : Pair) = x := rfl; clear h9) | (have h9 : (x : Leg) = x := rfl; clear h9) | clear_value x | skip) | with_reducible apply Upd.ite | with_reducible apply cairnValid_upd | with_reducible apply State.raise_upd | with_reducible apply Upd.lit | exact rfl | exact SadUpd.refl _ _ | with_reducible apply SadUpd.ite | apply SadUpd.mk | exact fun _ => PeakUpd.refl _ _ | exact Or.inl (by decide) | exact Or.inr rfl

theorem execMapPoint_upd (s : State) {t : State} (hX : execMapPoint s = .next t) : Upd 128 s t := by
  unfold execMapPoint at hX
  cases hX
  have h0 := Upd.refl 128 s
  repeat' first | with_reducible assumption | (guard_target =~ (_ ||| _ : Nat) = _; decide) | with_reducible apply Upd.ite | with_reducible apply mapPoint_upd

end Sys2Proof.Machine
end

