-- ==== Sys2Proof/Laws/UpdTalus.lean ====
section
/-! SUPPORT. What each operation of Machine/Talus.lean may change. -/

set_option linter.unusedTactic false
set_option linter.unreachableTactic false

namespace Sys2Proof.Machine

theorem sramPut_upd {M0 : Nat} {s0 : State} {p : PeakId} {a : Nat} {v : Nat} {s : State} (hU : Upd M0 s0 s) (hM : 2 ||| M0 = M0) : Upd M0 s0 (sramPut p a v s) := by
  refine Upd.step hU ?_ hM
  clear hU hM
  unfold sramPut
  have h0 := Upd.refl 2 s
  repeat' first | with_reducible assumption | (guard_target =~ (_ ||| _ : Nat) = _; decide) | (fail_if_no_progress extract_lets +onlyGivenNames x; first | (have hx : Upd 2 s x := (by unfold x; repeat' first | with_reducible assumption | (guard_target =~ (_ ||| _ : Nat) = _; decide) | with_reducible apply Upd.ite | with_reducible apply State.setBytes_upd | with_reducible apply mirrorBytes_upd); try clear_value x) | (have h9 : (x : Peak) = x := rfl; clear h9) | (have h9 : (x : Saddle) = x := rfl; clear h9) | (have h9 : (x : Pair) = x := rfl; clear h9) | (have h9 : (x : Leg) = x := rfl; clear h9) | clear_value x | skip) | with_reducible apply Upd.ite | with_reducible apply State.setBytes_upd | with_reducible apply mirrorBytes_upd

theorem sramPuts_upd {M0 : Nat} {s0 : State} {p : PeakId} {a : Nat} {l : List Nat} {s : State} (h : Upd M0 s0 s) (hM : 2 ||| M0 = M0) : Upd M0 s0 (sramPuts p a l s) := by
  induction l generalizing a s with
  | nil => exact h
  | cons v r ih => exact ih (sramPut_upd h hM)

theorem State.setTalus_upd {M0 : Nat} {s0 : State} {s : State} {p : PeakId} {t : Talus} (hU : Upd M0 s0 s) (hM : 2199023255552 ||| M0 = M0) : Upd M0 s0 (State.setTalus s p t) := by
  refine Upd.step hU ?_ hM
  clear hU hM
  unfold State.setTalus
  have h0 := Upd.refl 2199023255552 s
  repeat' first | with_reducible assumption | (guard_target =~ (_ ||| _ : Nat) = _; decide) | with_reducible refine Upd.setPeak ?_ ?_ | exact PeakUpd.refl _ _ | with_reducible apply PeakUpd.ite | with_reducible apply PeakUpd.lit | exact Or.inl (by decide) | exact Or.inr rfl

theorem morLow_upd {M0 : Nat} {s0 : State} {p : PeakId} {s : State} (hU : Upd M0 s0 s) (hM : 248523987615757 ||| M0 = M0) : Upd M0 s0 (morLow p s) := by
  refine Upd.step hU ?_ hM
  clear hU hM
  unfold morLow
  have h0 := Upd.refl 248523987615757 s
  repeat' first | with_reducible assumption | (guard_target =~ (_ ||| _ : Nat) = _; decide) | (fail_if_no_progress extract_lets +onlyGivenNames x; first | (have hx : Upd 248523987615757 s x := (by unfold x; repeat' first | with_reducible assumption | (guard_target =~ (_ ||| _ : Nat) = _; decide) | with_reducible apply Upd.ite | with_reducible apply fire_upd | with_reducible apply State.setTalus_upd | with_reducible apply State.raise_upd); try clear_value x) | (have h9 : (x : Peak) = x := rfl; clear h9) | (have h9 : (x : Saddle) = x := rfl; clear h9) | (have h9 : (x : Pair) = x := rfl; clear h9) | (have h9 : (x : Leg) = x := rfl; clear h9) | clear_value x | skip) | with_reducible apply Upd.ite | with_reducible apply fire_upd | with_reducible apply State.setTalus_upd | with_reducible apply State.raise_upd

theorem setOwner_upd {M0 : Nat} {s0 : State} {p : PeakId} {b : Nat} {owner : Nat} {s : State} (hU : Upd M0 s0 s) (hM : 248523987615757 ||| M0 = M0) : Upd M0 s0 (setOwner p b owner s) := by
  refine Upd.step hU ?_ hM
  clear hU hM
  unfold setOwner
  have h0 := Upd.refl 248523987615757 s
  repeat' first | with_reducible assumption | (guard_target =~ (_ ||| _ : Nat) = _; decide) | (fail_if_no_progress extract_lets +onlyGivenNames x; first | (have hx : Upd 248523987615757 s x := (by unfold x; repeat' first | with_reducible assumption | (guard_target =~ (_ ||| _ : Nat) = _; decide) | with_reducible apply Upd.ite | with_reducible apply State.setFld_upd | with_reducible apply morLow_upd); try clear_value x) | (have h9 : (x : Peak) = x := rfl; clear h9) | (have h9 : (x : Saddle) = x := rfl; clear h9) | (have h9 : (x : Pair) = x := rfl; clear h9) | (have h9 : (x : Leg) = x := rfl; clear h9) | clear_value x | skip) | with_reducible apply Upd.ite | with_reducible apply State.setFld_upd | with_reducible apply morLow_upd

theorem snapTake_upd {M0 : Nat} {s0 : State} {p : PeakId} {s : State} (hU : Upd M0 s0 s) (hM : 1 ||| M0 = M0) : Upd M0 s0 (snapTake p s) := by
  refine Upd.step hU ?_ hM
  clear hU hM
  unfold snapTake
  have h0 := Upd.refl 1 s
  repeat' first | with_reducible assumption | (guard_target =~ (_ ||| _ : Nat) = _; decide) | (fail_if_no_progress extract_lets +onlyGivenNames x; first | (have hx : Upd 1 s x := (by unfold x; repeat' first | with_reducible assumption | (guard_target =~ (_ ||| _ : Nat) = _; decide) | with_reducible apply State.setReg_upd); try clear_value x) | (have h9 : (x : Peak) = x := rfl; clear h9) | (have h9 : (x : Saddle) = x := rfl; clear h9) | (have h9 : (x : Pair) = x := rfl; clear h9) | (have h9 : (x : Leg) = x := rfl; clear h9) | clear_value x | skip) | with_reducible apply State.setReg_upd

theorem State.setSeg_upd {M0 : Nat} {s0 : State} {s : State} {p : PeakId} {seg : Nat} {st : Nat} (hU : Upd M0 s0 s) (hM : 2199023255552 ||| M0 = M0) : Upd M0 s0 (State.setSeg s p seg st) := by
  refine Upd.step hU ?_ hM
  clear hU hM
  unfold State.setSeg
  have h0 := Upd.refl 2199023255552 s
  repeat' first | with_reducible assumption | (guard_target =~ (_ ||| _ : Nat) = _; decide) | (fail_if_no_progress extract_lets +onlyGivenNames x; first | (have hx : Upd 2199023255552 s x := (by unfold x; repeat' first | with_reducible assumption | (guard_target =~ (_ ||| _ : Nat) = _; decide) | with_reducible apply State.setTalus_upd); try clear_value x) | (have h9 : (x : Peak) = x := rfl; clear h9) | (have h9 : (x : Saddle) = x := rfl; clear h9) | (have h9 : (x : Pair) = x := rfl; clear h9) | (have h9 : (x : Leg) = x := rfl; clear h9) | clear_value x | skip) | with_reducible apply State.setTalus_upd

theorem State.setSegBufs_upd {M0 : Nat} {s0 : State} {s : State} {p : PeakId} {seg : Nat} {l : List Nat} (hU : Upd M0 s0 s) (hM : 2199023255552 ||| M0 = M0) : Upd M0 s0 (State.setSegBufs s p seg l) := by
  refine Upd.step hU ?_ hM
  clear hU hM
  unfold State.setSegBufs
  have h0 := Upd.refl 2199023255552 s
  repeat' first | with_reducible assumption | (guard_target =~ (_ ||| _ : Nat) = _; decide) | (fail_if_no_progress extract_lets +onlyGivenNames x; first | (have hx : Upd 2199023255552 s x := (by unfold x; repeat' first | with_reducible assumption | (guard_target =~ (_ ||| _ : Nat) = _; decide) | with_reducible apply State.setTalus_upd); try clear_value x) | (have h9 : (x : Peak) = x := rfl; clear h9) | (have h9 : (x : Saddle) = x := rfl; clear h9) | (have h9 : (x : Pair) = x := rfl; clear h9) | (have h9 : (x : Leg) = x := rfl; clear h9) | clear_value x | skip) | with_reducible apply State.setTalus_upd

theorem putDescriptor_upd {M0 : Nat} {s0 : State} {p : PeakId} {c : Nat} {seg : Nat} {st : Nat} {overflow : Bool} {stopped : Bool} {s : State} (hU : Upd M0 s0 s) (hM : 2 ||| M0 = M0) : Upd M0 s0 (putDescriptor p c seg st overflow stopped s) := by
  refine Upd.step hU ?_ hM
  clear hU hM
  unfold putDescriptor
  have h0 := Upd.refl 2 s
  repeat' first | with_reducible assumption | (guard_target =~ (_ ||| _ : Nat) = _; decide) | with_reducible apply h90 | with_reducible apply h91 | with_reducible apply h92 | with_reducible apply h93 | with_reducible apply h94 | (fail_if_no_progress extract_lets +onlyGivenNames x; first | (have hx : Upd 2 s x := (by unfold x; repeat' first | with_reducible assumption | (guard_target =~ (_ ||| _ : Nat) = _; decide) | with_reducible apply h90 | with_reducible apply h91 | with_reducible apply h92 | with_reducible apply h93 | with_reducible apply h94 | with_reducible apply Upd.ite | with_reducible apply sramPuts_upd | with_reducible apply sramPut_upd | split); try clear_value x) | (have hx : Upd 2 s x.2 := (by unfold x; repeat' first | with_reducible assumption | (guard_target =~ (_ ||| _ : Nat) = _; decide) | with_reducible apply h90 | with_reducible apply h91 | with_reducible apply h92 | with_reducible apply h93 | with_reducible apply h94 | with_reducible apply Upd.ite | with_reducible apply sramPuts_upd | with_reducible apply sramPut_upd | split); try clear_value x) | (have h9 : (x : Peak) = x := rfl; clear h9) | (have h9 : (x : Saddle) = x := rfl; clear h9) | (have h9 : (x : Pair) = x := rfl; clear h9) | (have h9 : (x : Leg) = x := rfl; clear h9) | (have h90 : ∀  t, Upd 2 s t → Upd 2 s (x  t) := (by intro  t ht; unfold x; repeat' first | with_reducible assumption | (guard_target =~ (_ ||| _ : Nat) = _; decide) | with_reducible apply h90 | with_reducible apply h91 | with_reducible apply h92 | with_reducible apply h93 | with_reducible apply h94 | with_reducible apply Upd.ite | with_reducible apply sramPuts_upd | with_reducible apply sramPut_upd | split); try clear_value x) | (have h91 : ∀ a0 t, Upd 2 s t → Upd 2 s (x a0 t) := (by intro a0 t ht; unfold x; repeat' first | with_reducible assumption | (guard_target =~ (_ ||| _ : Nat) = _; decide) | with_reducible apply h90 | with_reducible apply h91 | with_reducible apply h92 | with_reducible apply h93 | with_reducible apply h94 | with_reducible apply Upd.ite | with_reducible apply sramPuts_upd | with_reducible apply sramPut_upd | split); try clear_value x) | (have h92 : ∀ a0 a1 t, Upd 2 s t → Upd 2 s (x a0 a1 t) := (by intro a0 a1 t ht; unfold x; repeat' first | with_reducible assumption | (guard_target =~ (_ ||| _ : Nat) = _; decide) | with_reducible apply h90 | with_reducible apply h91 | with_reducible apply h92 | with_reducible apply h93 | with_reducible apply h94 | with_reducible apply Upd.ite | with_reducible apply sramPuts_upd | with_reducible apply sramPut_upd | split); try clear_value x) | (have h93 : ∀ a0 a1 a2 t, Upd 2 s t → Upd 2 s (x a0 a1 a2 t) := (by intro a0 a1 a2 t ht; unfold x; repeat' first | with_reducible assumption | (guard_target =~ (_ ||| _ : Nat) = _; decide) | with_reducible apply h90 | with_reducible apply h91 | with_reducible apply h92 | with_reducible apply h93 | with_reducible apply h94 | with_reducible apply Upd.ite | with_reducible apply sramPuts_upd | with_reducible apply sramPut_upd | split); try clear_value x) | (have h94 : ∀ a0 a1 a2 a3 t, Upd 2 s t → Upd 2 s (x a0 a1 a2 a3 t) := (by intro a0 a1 a2 a3 t ht; unfold x; repeat' first | with_reducible assumption | (guard_target =~ (_ ||| _ : Nat) = _; decide) | with_reducible apply h90 | with_reducible apply h91 | with_reducible apply h92 | with_reducible apply h93 | with_reducible apply h94 | with_reducible apply Upd.ite | with_reducible apply sramPuts_upd | with_reducible apply sramPut_upd | split); try clear_value x) | clear_value x | skip) | with_reducible apply Upd.ite | with_reducible apply sramPuts_upd | with_reducible apply sramPut_upd | split

theorem chainBuf_upd {M0 : Nat} {s0 : State} {p : PeakId} {c : Nat} {b : Nat} {s : State} (hU : Upd M0 s0 s) (hM : 248523987615757 ||| M0 = M0) : Upd M0 s0 (chainBuf p c b s) := by
  refine Upd.step hU ?_ hM
  clear hU hM
  unfold chainBuf
  have h0 := Upd.refl 248523987615757 s
  repeat' first | with_reducible assumption | (guard_target =~ (_ ||| _ : Nat) = _; decide) | (fail_if_no_progress extract_lets +onlyGivenNames x; first | (have hx : Upd 248523987615757 s x := (by unfold x; repeat' first | with_reducible assumption | (guard_target =~ (_ ||| _ : Nat) = _; decide) | with_reducible apply State.setFld_upd | with_reducible apply setOwner_upd | with_reducible apply State.setTalChan_upd | split); try clear_value x) | (have h9 : (x : Peak) = x := rfl; clear h9) | (have h9 : (x : Saddle) = x := rfl; clear h9) | (have h9 : (x : Pair) = x := rfl; clear h9) | (have h9 : (x : Leg) = x := rfl; clear h9) | clear_value x | skip) | with_reducible apply State.setFld_upd | with_reducible apply setOwner_upd | with_reducible apply State.setTalChan_upd | split

theorem chainFree_upd {M0 : Nat} {s0 : State} {p : PeakId} {c : Nat} {y0 : Nat} {y1 : State} (hU : Upd M0 s0 y1) (hM : 248523987615757 ||| M0 = M0) : Upd M0 s0 (chainFree p c y0 y1) := by
  refine Upd.step hU ?_ hM
  clear hU hM
  induction y0 generalizing y1 with
  | zero =>
    unfold chainFree
    have h0 := Upd.refl 248523987615757 y1
    repeat' first | with_reducible assumption | (guard_target =~ (_ ||| _ : Nat) = _; decide) | with_reducible apply chainBuf_upd | split
  | succ n ih =>
    have ih2 : ∀ {z1 : State}, Upd 248523987615757 y1 z1 → Upd 248523987615757 y1 (chainFree p c n z1) := fun h => h.trans (ih ..)
    unfold chainFree
    have h0 := Upd.refl 248523987615757 y1
    repeat' first | with_reducible assumption | with_reducible apply ih2 | (guard_target =~ (_ ||| _ : Nat) = _; decide) | with_reducible apply chainBuf_upd | split

theorem talusArm_upd {M0 : Nat} {s0 : State} {p : PeakId} {c : Nat} {s : State} (hU : Upd M0 s0 s) (hM : 248523987615759 ||| M0 = M0) : Upd M0 s0 (talusArm p c s) := by
  refine Upd.step hU ?_ hM
  clear hU hM
  unfold talusArm
  have h0 := Upd.refl 248523987615759 s
  repeat' first | with_reducible assumption | (guard_target =~ (_ ||| _ : Nat) = _; decide) | (fail_if_no_progress extract_lets +onlyGivenNames x; first | (have hx : Upd 248523987615759 s x := (by unfold x; repeat' first | with_reducible assumption | (guard_target =~ (_ ||| _ : Nat) = _; decide) | with_reducible apply Upd.ite | with_reducible apply State.setTalChan_upd | with_reducible apply chainFree_upd | with_reducible apply State.setSeg_upd | with_reducible apply State.setFld_upd | with_reducible apply putDescriptor_upd | with_reducible apply State.setSegBufs_upd | with_reducible apply State.raise_upd | split); try clear_value x) | (have h9 : (x : Peak) = x := rfl; clear h9) | (have h9 : (x : Saddle) = x := rfl; clear h9) | (have h9 : (x : Pair) = x := rfl; clear h9) | (have h9 : (x : Leg) = x := rfl; clear h9) | clear_value x | skip) | with_reducible apply Upd.ite | with_reducible apply State.setTalChan_upd | with_reducible apply chainFree_upd | with_reducible apply State.setSeg_upd | with_reducible apply State.setFld_upd | with_reducible apply putDescriptor_upd | with_reducible apply State.setSegBufs_upd | with_reducible apply State.raise_upd | split

theorem segmentClose_upd {M0 : Nat} {s0 : State} {p : PeakId} {c : Nat} {overflow : Bool} {stopped : Bool} {s : State} (hU : Upd M0 s0 s) (hM : 248523987615759 ||| M0 = M0) : Upd M0 s0 (segmentClose p c overflow stopped s) := by
  refine Upd.step hU ?_ hM
  clear hU hM
  unfold segmentClose
  have h0 := Upd.refl 248523987615759 s
  repeat' first | with_reducible assumption | (guard_target =~ (_ ||| _ : Nat) = _; decide) | (fail_if_no_progress extract_lets +onlyGivenNames x; first | (have hx : Upd 248523987615759 s x := (by unfold x; repeat' first | with_reducible assumption | (guard_target =~ (_ ||| _ : Nat) = _; decide) | with_reducible apply Upd.ite | with_reducible apply State.setSeg_upd | with_reducible apply putDescriptor_upd | with_reducible apply State.setTalChan_upd | with_reducible apply State.bump_upd | with_reducible apply State.setFld_upd | with_reducible apply fire_upd | with_reducible apply State.raise_upd | with_reducible apply State.setSegBufs_upd); try clear_value x) | (have h9 : (x : Peak) = x := rfl; clear h9) | (have h9 : (x : Saddle) = x := rfl; clear h9) | (have h9 : (x : Pair) = x := rfl; clear h9) | (have h9 : (x : Leg) = x := rfl; clear h9) | clear_value x | skip) | with_reducible apply Upd.ite | with_reducible apply State.setSeg_upd | with_reducible apply putDescriptor_upd | with_reducible apply State.setTalChan_upd | with_reducible apply State.bump_upd | with_reducible apply State.setFld_upd | with_reducible apply fire_upd | with_reducible apply State.raise_upd | with_reducible apply State.setSegBufs_upd

theorem putFrame_put_upd {M0 : Nat} {s0 : State} {p : PeakId} {a : Nat} {l : List Nat} {s : State} (h : Upd M0 s0 s) (hM : 2 ||| M0 = M0) : Upd M0 s0 (putFrame.put p a l s) := by
  induction l generalizing a s with
  | nil => exact h
  | cons v r ih => exact ih (State.setBytes_upd h hM)

theorem putFrame_upd {M0 : Nat} {s0 : State} {p : PeakId} {c base n : Nat} {s : State} (h : Upd M0 s0 s) (hM : 2 ||| M0 = M0) : Upd M0 s0 (putFrame p c base n s) :=
  putFrame_put_upd h hM

theorem storeFrame_upd {M0 : Nat} {s0 : State} {p : PeakId} {c : Nat} {s : State} (hU : Upd M0 s0 s) (hM : 248523987615759 ||| M0 = M0) : Upd M0 s0 (storeFrame p c s) := by
  refine Upd.step hU ?_ hM
  clear hU hM
  unfold storeFrame
  have h0 := Upd.refl 248523987615759 s
  repeat' first | with_reducible assumption | (guard_target =~ (_ ||| _ : Nat) = _; decide) | (fail_if_no_progress extract_lets +onlyGivenNames x; first | (have hx : Upd 248523987615759 s x := (by unfold x; repeat' first | with_reducible assumption | (guard_target =~ (_ ||| _ : Nat) = _; decide) | with_reducible apply Upd.ite | with_reducible apply putFrame_upd | with_reducible apply State.setTalChan_upd | with_reducible apply segmentClose_upd | with_reducible apply chainBuf_upd | split); try clear_value x) | (have h9 : (x : Peak) = x := rfl; clear h9) | (have h9 : (x : Saddle) = x := rfl; clear h9) | (have h9 : (x : Pair) = x := rfl; clear h9) | (have h9 : (x : Leg) = x := rfl; clear h9) | clear_value x | skip) | with_reducible apply Upd.ite | with_reducible apply putFrame_upd | with_reducible apply State.setTalChan_upd | with_reducible apply segmentClose_upd | with_reducible apply chainBuf_upd | split

theorem talusFrame_upd {M0 : Nat} {s0 : State} {p : PeakId} {c : Nat} {s : State} (hU : Upd M0 s0 s) (hM : 248523987615759 ||| M0 = M0) : Upd M0 s0 (talusFrame p c s) := by
  refine Upd.step hU ?_ hM
  clear hU hM
  unfold talusFrame
  have h0 := Upd.refl 248523987615759 s
  repeat' first | with_reducible assumption | (guard_target =~ (_ ||| _ : Nat) = _; decide) | with_reducible apply h90 | with_reducible apply h91 | with_reducible apply h92 | with_reducible apply h93 | with_reducible apply h94 | (fail_if_no_progress extract_lets +onlyGivenNames x; first | (have hx : Upd 248523987615759 s x := (by unfold x; repeat' first | with_reducible assumption | (guard_target =~ (_ ||| _ : Nat) = _; decide) | with_reducible apply h90 | with_reducible apply h91 | with_reducible apply h92 | with_reducible apply h93 | with_reducible apply h94 | with_reducible apply Upd.ite | with_reducible apply putFrame_upd | with_reducible apply State.setTalChan_upd | with_reducible apply putDescriptor_upd | with_reducible apply storeFrame_upd | with_reducible apply State.setSeg_upd | with_reducible apply State.setFld_upd | split); try clear_value x) | (have hx : Upd 248523987615759 s x.2 := (by unfold x; repeat' first | with_reducible assumption | (guard_target =~ (_ ||| _ : Nat) = _; decide) | with_reducible apply h90 | with_reducible apply h91 | with_reducible apply h92 | with_reducible apply h93 | with_reducible apply h94 | with_reducible apply Upd.ite | with_reducible apply putFrame_upd | with_reducible apply State.setTalChan_upd | with_reducible apply putDescriptor_upd | with_reducible apply storeFrame_upd | with_reducible apply State.setSeg_upd | with_reducible apply State.setFld_upd | split); try clear_value x) | (have h9 : (x : Peak) = x := rfl; clear h9) | (have h9 : (x : Saddle) = x := rfl; clear h9) | (have h9 : (x : Pair) = x := rfl; clear h9) | (have h9 : (x : Leg) = x := rfl; clear h9) | (have h90 : ∀  t, Upd 248523987615759 s t → Upd 248523987615759 s (x  t) := (by intro  t ht; unfold x; repeat' first | with_reducible assumption | (guard_target =~ (_ ||| _ : Nat) = _; decide) | with_reducible apply h90 | with_reducible apply h91 | with_reducible apply h92 | with_reducible apply h93 | with_reducible apply h94 | with_reducible apply Upd.ite | with_reducible apply putFrame_upd | with_reducible apply State.setTalChan_upd | with_reducible apply putDescriptor_upd | with_reducible apply storeFrame_upd | with_reducible apply State.setSeg_upd | with_reducible apply State.setFld_upd | split); try clear_value x) | (have h91 : ∀ a0 t, Upd 248523987615759 s t → Upd 248523987615759 s (x a0 t) := (by intro a0 t ht; unfold x; repeat' first | with_reducible assumption | (guard_target =~ (_ ||| _ : Nat) = _; decide) | with_reducible apply h90 | with_reducible apply h91 | with_reducible apply h92 | with_reducible apply h93 | with_reducible apply h94 | with_reducible apply Upd.ite | with_reducible apply putFrame_upd | with_reducible apply State.setTalChan_upd | with_reducible apply putDescriptor_upd | with_reducible apply storeFrame_upd | with_reducible apply State.setSeg_upd | with_reducible apply State.setFld_upd | split); try clear_value x) | (have h92 : ∀ a0 a1 t, Upd 248523987615759 s t → Upd 248523987615759 s (x a0 a1 t) := (by intro a0 a1 t ht; unfold x; repeat' first | with_reducible assumption | (guard_target =~ (_ ||| _ : Nat) = _; decide) | with_reducible apply h90 | with_reducible apply h91 | with_reducible apply h92 | with_reducible apply h93 | with_reducible apply h94 | with_reducible apply Upd.ite | with_reducible apply putFrame_upd | with_reducible apply State.setTalChan_upd | with_reducible apply putDescriptor_upd | with_reducible apply storeFrame_upd | with_reducible apply State.setSeg_upd | with_reducible apply State.setFld_upd | split); try clear_value x) | (have h93 : ∀ a0 a1 a2 t, Upd 248523987615759 s t → Upd 248523987615759 s (x a0 a1 a2 t) := (by intro a0 a1 a2 t ht; unfold x; repeat' first | with_reducible assumption | (guard_target =~ (_ ||| _ : Nat) = _; decide) | with_reducible apply h90 | with_reducible apply h91 | with_reducible apply h92 | with_reducible apply h93 | with_reducible apply h94 | with_reducible apply Upd.ite | with_reducible apply putFrame_upd | with_reducible apply State.setTalChan_upd | with_reducible apply putDescriptor_upd | with_reducible apply storeFrame_upd | with_reducible apply State.setSeg_upd | with_reducible apply State.setFld_upd | split); try clear_value x) | (have h94 : ∀ a0 a1 a2 a3 t, Upd 248523987615759 s t → Upd 248523987615759 s (x a0 a1 a2 a3 t) := (by intro a0 a1 a2 a3 t ht; unfold x; repeat' first | with_reducible assumption | (guard_target =~ (_ ||| _ : Nat) = _; decide) | with_reducible apply h90 | with_reducible apply h91 | with_reducible apply h92 | with_reducible apply h93 | with_reducible apply h94 | with_reducible apply Upd.ite | with_reducible apply putFrame_upd | with_reducible apply State.setTalChan_upd | with_reducible apply putDescriptor_upd | with_reducible apply storeFrame_upd | with_reducible apply State.setSeg_upd | with_reducible apply State.setFld_upd | split); try clear_value x) | clear_value x | skip) | with_reducible apply Upd.ite | with_reducible apply putFrame_upd | with_reducible apply State.setTalChan_upd | with_reducible apply putDescriptor_upd | with_reducible apply storeFrame_upd | with_reducible apply State.setSeg_upd | with_reducible apply State.setFld_upd | split

theorem State.setTalCond_upd {M0 : Nat} {s0 : State} {s : State} {p : PeakId} {n : Nat} {c : TalCond} (hU : Upd M0 s0 s) (hM : 2199023255552 ||| M0 = M0) : Upd M0 s0 (State.setTalCond s p n c) := by
  refine Upd.step hU ?_ hM
  clear hU hM
  unfold State.setTalCond
  have h0 := Upd.refl 2199023255552 s
  repeat' first | with_reducible assumption | (guard_target =~ (_ ||| _ : Nat) = _; decide) | (fail_if_no_progress extract_lets +onlyGivenNames x; first | (have hx : Upd 2199023255552 s x := (by unfold x; repeat' first | with_reducible assumption | (guard_target =~ (_ ||| _ : Nat) = _; decide) | with_reducible apply State.setTalus_upd); try clear_value x) | (have h9 : (x : Peak) = x := rfl; clear h9) | (have h9 : (x : Saddle) = x := rfl; clear h9) | (have h9 : (x : Pair) = x := rfl; clear h9) | (have h9 : (x : Leg) = x := rfl; clear h9) | clear_value x | skip) | with_reducible apply State.setTalus_upd

theorem condUpdate_upd {M0 : Nat} {s0 : State} {p : PeakId} {n : Nat} {w : Word} {e : Int} {s : State} (hU : Upd M0 s0 s) (hM : 2199023255553 ||| M0 = M0) : Upd M0 s0 (condUpdate p n w e s) := by
  refine Upd.step hU ?_ hM
  clear hU hM
  unfold condUpdate
  have h0 := Upd.refl 2199023255553 s
  repeat' first | with_reducible assumption | (guard_target =~ (_ ||| _ : Nat) = _; decide) | with_reducible apply h90 | with_reducible apply h91 | with_reducible apply h92 | with_reducible apply h93 | with_reducible apply h94 | (fail_if_no_progress extract_lets +onlyGivenNames x; first | (have hx : Upd 2199023255553 s x := (by unfold x; repeat' first | with_reducible assumption | (guard_target =~ (_ ||| _ : Nat) = _; decide) | with_reducible apply h90 | with_reducible apply h91 | with_reducible apply h92 | with_reducible apply h93 | with_reducible apply h94 | with_reducible apply Upd.ite | with_reducible apply State.setTalCond_upd | with_reducible apply talusTrigger_upd | split); try clear_value x) | (have hx : Upd 2199023255553 s x.2 := (by unfold x; repeat' first | with_reducible assumption | (guard_target =~ (_ ||| _ : Nat) = _; decide) | with_reducible apply h90 | with_reducible apply h91 | with_reducible apply h92 | with_reducible apply h93 | with_reducible apply h94 | with_reducible apply Upd.ite | with_reducible apply State.setTalCond_upd | with_reducible apply talusTrigger_upd | split); try clear_value x) | (have h9 : (x : Peak) = x := rfl; clear h9) | (have h9 : (x : Saddle) = x := rfl; clear h9) | (have h9 : (x : Pair) = x := rfl; clear h9) | (have h9 : (x : Leg) = x := rfl; clear h9) | (have h90 : ∀  t, Upd 2199023255553 s t → Upd 2199023255553 s (x  t) := (by intro  t ht; unfold x; repeat' first | with_reducible assumption | (guard_target =~ (_ ||| _ : Nat) = _; decide) | with_reducible apply h90 | with_reducible apply h91 | with_reducible apply h92 | with_reducible apply h93 | with_reducible apply h94 | with_reducible apply Upd.ite | with_reducible apply State.setTalCond_upd | with_reducible apply talusTrigger_upd | split); try clear_value x) | (have h91 : ∀ a0 t, Upd 2199023255553 s t → Upd 2199023255553 s (x a0 t) := (by intro a0 t ht; unfold x; repeat' first | with_reducible assumption | (guard_target =~ (_ ||| _ : Nat) = _; decide) | with_reducible apply h90 | with_reducible apply h91 | with_reducible apply h92 | with_reducible apply h93 | with_reducible apply h94 | with_reducible apply Upd.ite | with_reducible apply State.setTalCond_upd | with_reducible apply talusTrigger_upd | split); try clear_value x) | (have h92 : ∀ a0 a1 t, Upd 2199023255553 s t → Upd 2199023255553 s (x a0 a1 t) := (by intro a0 a1 t ht; unfold x; repeat' first | with_reducible assumption | (guard_target =~ (_ ||| _ : Nat) = _; decide) | with_reducible apply h90 | with_reducible apply h91 | with_reducible apply h92 | with_reducible apply h93 | with_reducible apply h94 | with_reducible apply Upd.ite | with_reducible apply State.setTalCond_upd | with_reducible apply talusTrigger_upd | split); try clear_value x) | (have h93 : ∀ a0 a1 a2 t, Upd 2199023255553 s t → Upd 2199023255553 s (x a0 a1 a2 t) := (by intro a0 a1 a2 t ht; unfold x; repeat' first | with_reducible assumption | (guard_target =~ (_ ||| _ : Nat) = _; decide) | with_reducible apply h90 | with_reducible apply h91 | with_reducible apply h92 | with_reducible apply h93 | with_reducible apply h94 | with_reducible apply Upd.ite | with_reducible apply State.setTalCond_upd | with_reducible apply talusTrigger_upd | split); try clear_value x) | (have h94 : ∀ a0 a1 a2 a3 t, Upd 2199023255553 s t → Upd 2199023255553 s (x a0 a1 a2 a3 t) := (by intro a0 a1 a2 a3 t ht; unfold x; repeat' first | with_reducible assumption | (guard_target =~ (_ ||| _ : Nat) = _; decide) | with_reducible apply h90 | with_reducible apply h91 | with_reducible apply h92 | with_reducible apply h93 | with_reducible apply h94 | with_reducible apply Upd.ite | with_reducible apply State.setTalCond_upd | with_reducible apply talusTrigger_upd | split); try clear_value x) | clear_value x | skip) | with_reducible apply Upd.ite | with_reducible apply State.setTalCond_upd | with_reducible apply talusTrigger_upd | split

theorem talusUpdate_upd {M0 : Nat} {s0 : State} {p : PeakId} {i : Nat} {k : Nat} {s : State} (hU : Upd M0 s0 s) (hM : 248523987615759 ||| M0 = M0) : Upd M0 s0 (talusUpdate p i k s) := by
  refine Upd.step hU ?_ hM
  clear hU hM
  unfold talusUpdate
  have h0 := Upd.refl 248523987615759 s
  repeat' first | with_reducible assumption | (guard_target =~ (_ ||| _ : Nat) = _; decide) | (fail_if_no_progress extract_lets +onlyGivenNames x; first | (have hx : Upd 248523987615759 s x := (by unfold x; repeat' first | with_reducible assumption | (guard_target =~ (_ ||| _ : Nat) = _; decide) | with_reducible apply Upd.ite | with_reducible refine Upd.forAll ?_ (fun _ _ _ => ?_) | with_reducible apply condUpdate_upd | with_reducible apply talusFrame_upd); try clear_value x) | (have h9 : (x : Peak) = x := rfl; clear h9) | (have h9 : (x : Saddle) = x := rfl; clear h9) | (have h9 : (x : Pair) = x := rfl; clear h9) | (have h9 : (x : Leg) = x := rfl; clear h9) | clear_value x | skip) | with_reducible apply Upd.ite | with_reducible refine Upd.forAll ?_ (fun _ _ _ => ?_) | with_reducible apply condUpdate_upd | with_reducible apply talusFrame_upd

theorem talusMode_upd {M0 : Nat} {s0 : State} {p : PeakId} {engine : Nat} {mode : Nat} {instant : Int} {s : State} (hU : Upd M0 s0 s) (hM : 2199023255553 ||| M0 = M0) : Upd M0 s0 (talusMode p engine mode instant s) := by
  refine Upd.step hU ?_ hM
  clear hU hM
  unfold talusMode
  have h0 := Upd.refl 2199023255553 s
  repeat' first | with_reducible assumption | (guard_target =~ (_ ||| _ : Nat) = _; decide) | with_reducible apply Upd.ite | with_reducible refine Upd.forAll ?_ (fun _ _ _ => ?_) | with_reducible apply talusTrigger_upd

theorem runRefuse_upd {M0 : Nat} {s0 : State} {p : PeakId} {c : Nat} {code : Nat} {s : State} (hU : Upd M0 s0 s) (hM : 1 ||| M0 = M0) : Upd M0 s0 (runRefuse p c code s) := by
  refine Upd.step hU ?_ hM
  clear hU hM
  unfold runRefuse
  have h0 := Upd.refl 1 s
  repeat' first | with_reducible assumption | (guard_target =~ (_ ||| _ : Nat) = _; decide) | with_reducible apply State.setFld_upd | with_reducible apply State.raise_upd

theorem talusRun_upd {M0 : Nat} {s0 : State} {p : PeakId} {c : Nat} {s : State} (hU : Upd M0 s0 s) (hM : 248523987615759 ||| M0 = M0) : Upd M0 s0 (talusRun p c s) := by
  refine Upd.step hU ?_ hM
  clear hU hM
  unfold talusRun
  have h0 := Upd.refl 248523987615759 s
  repeat' first | with_reducible assumption | (guard_target =~ (_ ||| _ : Nat) = _; decide) | (fail_if_no_progress extract_lets +onlyGivenNames x; first | (have hx : Upd 248523987615759 s x := (by unfold x; repeat' first | with_reducible assumption | (guard_target =~ (_ ||| _ : Nat) = _; decide) | with_reducible apply Upd.ite | with_reducible apply runRefuse_upd | with_reducible apply State.setFld_upd | with_reducible apply talusArm_upd | with_reducible apply State.setTalChan_upd); try clear_value x) | (have h9 : (x : Peak) = x := rfl; clear h9) | (have h9 : (x : Saddle) = x := rfl; clear h9) | (have h9 : (x : Pair) = x := rfl; clear h9) | (have h9 : (x : Leg) = x := rfl; clear h9) | clear_value x | skip) | with_reducible apply Upd.ite | with_reducible apply runRefuse_upd | with_reducible apply State.setFld_upd | with_reducible apply talusArm_upd | with_reducible apply State.setTalChan_upd

theorem talusStop_upd {M0 : Nat} {s0 : State} {p : PeakId} {c : Nat} {s : State} (hU : Upd M0 s0 s) (hM : 248523987615759 ||| M0 = M0) : Upd M0 s0 (talusStop p c s) := by
  refine Upd.step hU ?_ hM
  clear hU hM
  unfold talusStop
  have h0 := Upd.refl 248523987615759 s
  repeat' first | with_reducible assumption | (guard_target =~ (_ ||| _ : Nat) = _; decide) | (fail_if_no_progress extract_lets +onlyGivenNames x; first | (have hx : Upd 248523987615759 s x := (by unfold x; repeat' first | with_reducible assumption | (guard_target =~ (_ ||| _ : Nat) = _; decide) | with_reducible apply Upd.ite | with_reducible apply segmentClose_upd | with_reducible apply State.setFld_upd | with_reducible refine Upd.forAll ?_ (fun _ _ _ => ?_) | with_reducible apply setOwner_upd | with_reducible apply State.setSeg_upd | with_reducible apply sramPut_upd | with_reducible apply State.setSegBufs_upd | with_reducible apply State.setTalChan_upd); try clear_value x) | (have h9 : (x : Peak) = x := rfl; clear h9) | (have h9 : (x : Saddle) = x := rfl; clear h9) | (have h9 : (x : Pair) = x := rfl; clear h9) | (have h9 : (x : Leg) = x := rfl; clear h9) | clear_value x | skip) | with_reducible apply Upd.ite | with_reducible apply segmentClose_upd | with_reducible apply State.setFld_upd | with_reducible refine Upd.forAll ?_ (fun _ _ _ => ?_) | with_reducible apply setOwner_upd | with_reducible apply State.setSeg_upd | with_reducible apply sramPut_upd | with_reducible apply State.setSegBufs_upd | with_reducible apply State.setTalChan_upd

theorem execTalusRun_upd (m : Master) (c : Fin 4) (s : State) {t : State} (hX : execTalusRun m c s = .next t) : Upd 248523987615759 s t := by
  unfold execTalusRun at hX
  cases hX
  have h0 := Upd.refl 248523987615759 s
  repeat' first | with_reducible assumption | (guard_target =~ (_ ||| _ : Nat) = _; decide) | with_reducible apply Upd.ite | with_reducible apply talusRun_upd

theorem execTalusStop_upd (m : Master) (c : Fin 4) (s : State) {t : State} (hX : execTalusStop m c s = .next t) : Upd 248523987615759 s t := by
  unfold execTalusStop at hX
  cases hX
  have h0 := Upd.refl 248523987615759 s
  repeat' first | with_reducible assumption | (guard_target =~ (_ ||| _ : Nat) = _; decide) | with_reducible apply Upd.ite | with_reducible apply talusStop_upd

theorem execTalusArm_upd (p : PeakId) (c : Fin 4) (s : State) {t : State} (hX : execTalusArm p c s = .next t) : Upd 248523987615759 s t := by
  unfold execTalusArm at hX
  cases hX
  have h0 := Upd.refl 248523987615759 s
  repeat' first | with_reducible assumption | (guard_target =~ (_ ||| _ : Nat) = _; decide) | with_reducible apply Upd.ite | with_reducible apply talusArm_upd

theorem execSnapTake_upd (m : Master) (s : State) {t : State} (hX : execSnapTake m s = .next t) : Upd 1 s t := by
  unfold execSnapTake at hX
  cases hX
  have h0 := Upd.refl 1 s
  repeat' first | with_reducible assumption | (guard_target =~ (_ ||| _ : Nat) = _; decide) | with_reducible apply Upd.ite | with_reducible apply snapTake_upd

theorem setResult_upd {M0 : Nat} {s0 : State} {m : Master} {done : Bool} {code : Nat} {n : Nat} {s : State} (hU : Upd M0 s0 s) (hM : 2199023255552 ||| M0 = M0) : Upd M0 s0 (setResult m done code n s) := by
  refine Upd.step hU ?_ hM
  clear hU hM
  unfold setResult
  have h0 := Upd.refl 2199023255552 s
  repeat' first | with_reducible assumption | (guard_target =~ (_ ||| _ : Nat) = _; decide) | (fail_if_no_progress extract_lets +onlyGivenNames x; first | (have hx : Upd 2199023255552 s x := (by unfold x; repeat' first | with_reducible assumption | (guard_target =~ (_ ||| _ : Nat) = _; decide) | with_reducible apply Upd.ite | with_reducible apply State.setTalus_upd); try clear_value x) | (have h9 : (x : Peak) = x := rfl; clear h9) | (have h9 : (x : Saddle) = x := rfl; clear h9) | (have h9 : (x : Pair) = x := rfl; clear h9) | (have h9 : (x : Leg) = x := rfl; clear h9) | clear_value x | skip) | with_reducible apply Upd.ite | with_reducible apply State.setTalus_upd

theorem morAlloc_upd {M0 : Nat} {s0 : State} {m : Master} {src : Nat} {dest : Nat} {s : State} (hU : Upd M0 s0 s) (hM : 248523987615757 ||| M0 = M0) : Upd M0 s0 (morAlloc m src dest s) := by
  refine Upd.step hU ?_ hM
  clear hU hM
  unfold morAlloc
  have h0 := Upd.refl 248523987615757 s
  repeat' first | with_reducible assumption | (guard_target =~ (_ ||| _ : Nat) = _; decide) | (fail_if_no_progress extract_lets +onlyGivenNames x; first | (have hx : Upd 248523987615757 s x := (by unfold x; repeat' first | with_reducible assumption | (guard_target =~ (_ ||| _ : Nat) = _; decide) | with_reducible apply Upd.ite | with_reducible apply setResult_upd | with_reducible apply setOwner_upd | split); try clear_value x) | (have h9 : (x : Peak) = x := rfl; clear h9) | (have h9 : (x : Saddle) = x := rfl; clear h9) | (have h9 : (x : Pair) = x := rfl; clear h9) | (have h9 : (x : Leg) = x := rfl; clear h9) | clear_value x | skip) | with_reducible apply Upd.ite | with_reducible apply setResult_upd | with_reducible apply setOwner_upd | split

theorem morGive_upd {M0 : Nat} {s0 : State} {m : Master} {b : Nat} {src : Nat} {dest : Nat} {s : State} (hU : Upd M0 s0 s) (hM : 248523987615757 ||| M0 = M0) : Upd M0 s0 (morGive m b src dest s) := by
  refine Upd.step hU ?_ hM
  clear hU hM
  unfold morGive
  have h0 := Upd.refl 248523987615757 s
  repeat' first | with_reducible assumption | (guard_target =~ (_ ||| _ : Nat) = _; decide) | (fail_if_no_progress extract_lets +onlyGivenNames x; first | (have hx : Upd 248523987615757 s x := (by unfold x; repeat' first | with_reducible assumption | (guard_target =~ (_ ||| _ : Nat) = _; decide) | with_reducible apply Upd.ite | with_reducible apply setResult_upd | with_reducible apply setOwner_upd); try clear_value x) | (have h9 : (x : Peak) = x := rfl; clear h9) | (have h9 : (x : Saddle) = x := rfl; clear h9) | (have h9 : (x : Pair) = x := rfl; clear h9) | (have h9 : (x : Leg) = x := rfl; clear h9) | clear_value x | skip) | with_reducible apply Upd.ite | with_reducible apply setResult_upd | with_reducible apply setOwner_upd

theorem morSegGive_upd {M0 : Nat} {s0 : State} {m : Master} {seg : Nat} {src : Nat} {dest : Nat} {s : State} (hU : Upd M0 s0 s) (hM : 248523987615757 ||| M0 = M0) : Upd M0 s0 (morSegGive m seg src dest s) := by
  refine Upd.step hU ?_ hM
  clear hU hM
  unfold morSegGive
  have h0 := Upd.refl 248523987615757 s
  repeat' first | with_reducible assumption | (guard_target =~ (_ ||| _ : Nat) = _; decide) | (fail_if_no_progress extract_lets +onlyGivenNames x; first | (have hx : Upd 248523987615757 s x := (by unfold x; repeat' first | with_reducible assumption | (guard_target =~ (_ ||| _ : Nat) = _; decide) | with_reducible apply Upd.ite | with_reducible apply setResult_upd | with_reducible apply setOwner_upd | with_reducible apply State.setTalus_upd | split); try clear_value x) | (have h9 : (x : Peak) = x := rfl; clear h9) | (have h9 : (x : Saddle) = x := rfl; clear h9) | (have h9 : (x : Pair) = x := rfl; clear h9) | (have h9 : (x : Leg) = x := rfl; clear h9) | clear_value x | skip) | with_reducible apply Upd.ite | with_reducible apply setResult_upd | with_reducible apply setOwner_upd | with_reducible apply State.setTalus_upd | split

theorem segGiveComplete_upd {M0 : Nat} {s0 : State} {m : Master} {s : State} (hU : Upd M0 s0 s) (hM : 248523987615759 ||| M0 = M0) : Upd M0 s0 (segGiveComplete m s) := by
  refine Upd.step hU ?_ hM
  clear hU hM
  unfold segGiveComplete
  have h0 := Upd.refl 248523987615759 s
  repeat' first | with_reducible assumption | (guard_target =~ (_ ||| _ : Nat) = _; decide) | (fail_if_no_progress extract_lets +onlyGivenNames x; first | (have hx : Upd 248523987615759 s x := (by unfold x; repeat' first | with_reducible assumption | (guard_target =~ (_ ||| _ : Nat) = _; decide) | with_reducible apply State.setTalus_upd | with_reducible refine Upd.forAll ?_ (fun _ _ _ => ?_) | with_reducible apply setOwner_upd | with_reducible apply State.setSeg_upd | with_reducible apply setResult_upd | with_reducible apply sramPut_upd | with_reducible apply State.setSegBufs_upd | split); try clear_value x) | (have h9 : (x : Peak) = x := rfl; clear h9) | (have h9 : (x : Saddle) = x := rfl; clear h9) | (have h9 : (x : Pair) = x := rfl; clear h9) | (have h9 : (x : Leg) = x := rfl; clear h9) | clear_value x | skip) | with_reducible apply State.setTalus_upd | with_reducible refine Upd.forAll ?_ (fun _ _ _ => ?_) | with_reducible apply setOwner_upd | with_reducible apply State.setSeg_upd | with_reducible apply setResult_upd | with_reducible apply sramPut_upd | with_reducible apply State.setSegBufs_upd | split

theorem morCommand_upd {M0 : Nat} {s0 : State} {m : Master} {v : Nat} {s : State} (hU : Upd M0 s0 s) (hM : 248523987615757 ||| M0 = M0) : Upd M0 s0 (morCommand m v s) := by
  refine Upd.step hU ?_ hM
  clear hU hM
  unfold morCommand
  have h0 := Upd.refl 248523987615757 s
  repeat' first | with_reducible assumption | (guard_target =~ (_ ||| _ : Nat) = _; decide) | with_reducible apply morAlloc_upd | with_reducible apply morGive_upd | with_reducible apply morSegGive_upd | split

theorem execMorAlloc_upd (m : Master) (dest : BitVec 8) (src : BitVec 8) (s : State) {t : State} (hX : execMorAlloc m dest src s = .next t) : Upd 248523987615757 s t := by
  unfold execMorAlloc at hX
  cases hX
  have h0 := Upd.refl 248523987615757 s
  repeat' first | with_reducible assumption | (guard_target =~ (_ ||| _ : Nat) = _; decide) | with_reducible apply Upd.ite | with_reducible apply morAlloc_upd

theorem execMorGive_upd (m : Master) (buffer : BitVec 12) (src : BitVec 8) (dest : BitVec 8) (s : State) {t : State} (hX : execMorGive m buffer src dest s = .next t) : Upd 248523987615757 s t := by
  unfold execMorGive at hX
  cases hX
  have h0 := Upd.refl 248523987615757 s
  repeat' first | with_reducible assumption | (guard_target =~ (_ ||| _ : Nat) = _; decide) | with_reducible apply Upd.ite | with_reducible apply morGive_upd

theorem execMorSegGive_upd (m : Master) (seg : BitVec 12) (src : BitVec 8) (dest : BitVec 8) (s : State) {t : State} (hX : execMorSegGive m seg src dest s = .next t) : Upd 248523987615757 s t := by
  unfold execMorSegGive at hX
  cases hX
  have h0 := Upd.refl 248523987615757 s
  repeat' first | with_reducible assumption | (guard_target =~ (_ ||| _ : Nat) = _; decide) | with_reducible apply Upd.ite | with_reducible apply morSegGive_upd

theorem execSegGiveComplete_upd (m : Master) (s : State) {t : State} (hX : execSegGiveComplete m s = .next t) : Upd 248523987615759 s t := by
  unfold execSegGiveComplete at hX
  cases hX
  have h0 := Upd.refl 248523987615759 s
  repeat' first | with_reducible assumption | (guard_target =~ (_ ||| _ : Nat) = _; decide) | with_reducible apply Upd.ite | with_reducible apply segGiveComplete_upd

end Sys2Proof.Machine
end

