-- ==== Sys2Proof/Laws/UpdMac.lean ====
section
/-! SUPPORT. What each operation of Machine/Mac.lean may change. -/

set_option linter.unusedTactic false
set_option linter.unreachableTactic false

namespace Sys2Proof.Machine

theorem sramBytes_upd {M0 : Nat} {s0 : State} {p : PeakId} {a : Nat} {l : List Byte} {s : State} (hU : Upd M0 s0 s) (hM : 2 ||| M0 = M0) : Upd M0 s0 (sramBytes p a l s) := by
  refine Upd.step hU ?_ hM
  clear hU hM
  unfold sramBytes
  have h0 := Upd.refl 2 s
  repeat' first | with_reducible assumption | (guard_target =~ (_ ||| _ : Nat) = _; decide) | (fail_if_no_progress extract_lets +onlyGivenNames x; first | (have hx : Upd 2 s x := (by unfold x; repeat' first | with_reducible assumption | (guard_target =~ (_ ||| _ : Nat) = _; decide) | with_reducible apply Upd.ite | with_reducible refine Upd.forAll ?_ (fun _ _ _ => ?_) | with_reducible apply State.setByte_upd | with_reducible apply mirrorBytes_upd); try clear_value x) | (have hx : Upd 2 s x.2 := (by unfold x; repeat' first | with_reducible assumption | (guard_target =~ (_ ||| _ : Nat) = _; decide) | with_reducible apply Upd.ite | with_reducible refine Upd.forAll ?_ (fun _ _ _ => ?_) | with_reducible apply State.setByte_upd | with_reducible apply mirrorBytes_upd); try clear_value x) | (have h9 : (x : Peak) = x := rfl; clear h9) | (have h9 : (x : Saddle) = x := rfl; clear h9) | (have h9 : (x : Pair) = x := rfl; clear h9) | (have h9 : (x : Leg) = x := rfl; clear h9) | clear_value x | skip) | with_reducible apply Upd.ite | with_reducible refine Upd.forAll ?_ (fun _ _ _ => ?_) | with_reducible apply State.setByte_upd | with_reducible apply mirrorBytes_upd

theorem macStamp_upd {M0 : Nat} {s0 : State} {num : Int} {den : Nat} {lat : Nat} {s : State} (hU : Upd M0 s0 s) (hM : 1073741824 ||| M0 = M0) : Upd M0 s0 (macStamp num den lat s).2 := by
  refine Upd.step hU ?_ hM
  clear hU hM
  unfold macStamp
  have h0 := Upd.refl 1073741824 s
  repeat' first | with_reducible assumption | (guard_target =~ (_ ||| _ : Nat) = _; decide) | (fail_if_no_progress extract_lets +onlyGivenNames x; first | (have hx : Upd 1073741824 s x := (by unfold x; repeat' first | with_reducible assumption | (guard_target =~ (_ ||| _ : Nat) = _; decide) | with_reducible apply Upd.ite | with_reducible apply Upd.ite_snd | with_reducible apply Upd.lit | exact rfl | exact SadUpd.refl _ _ | with_reducible apply SadUpd.ite | apply SadUpd.mk | exact fun _ => PeakUpd.refl _ _ | exact Or.inl (by decide) | exact Or.inr rfl); try clear_value x) | (have h9 : (x : Peak) = x := rfl; clear h9) | (have h9 : (x : Saddle) = x := rfl; clear h9) | (have h9 : (x : Pair) = x := rfl; clear h9) | (have h9 : (x : Leg) = x := rfl; clear h9) | clear_value x | skip) | with_reducible apply Upd.ite | with_reducible apply Upd.ite_snd | with_reducible apply Upd.lit | exact rfl | exact SadUpd.refl _ _ | with_reducible apply SadUpd.ite | apply SadUpd.mk | exact fun _ => PeakUpd.refl _ _ | exact Or.inl (by decide) | exact Or.inr rfl

theorem macReceive_upd {M0 : Nat} {s0 : State} {p : PeakId} {frame : List Byte} {fcsOk : Bool} {ago : Nat} {s : State} (hU : Upd M0 s0 s) (hM : 248525061357583 ||| M0 = M0) : Upd M0 s0 (macReceive p frame fcsOk ago s) := by
  refine Upd.step hU ?_ hM
  clear hU hM
  unfold macReceive
  have h0 := Upd.refl 248525061357583 s
  repeat' first | with_reducible assumption | (guard_target =~ (_ ||| _ : Nat) = _; decide) | (fail_if_no_progress extract_lets +onlyGivenNames x; first | (have hx : Upd 248525061357583 s x := (by unfold x; repeat' first | with_reducible assumption | (guard_target =~ (_ ||| _ : Nat) = _; decide) | with_reducible apply Upd.ite | with_reducible apply State.bump_upd | with_reducible apply sramBytes_upd | with_reducible apply macStamp_upd | with_reducible apply sramPuts_upd | with_reducible apply sramPut_upd | with_reducible apply State.setReg_upd | with_reducible apply fire_upd | with_reducible apply State.raise_upd | with_reducible apply Upd.lit | exact rfl | exact SadUpd.refl _ _ | with_reducible apply SadUpd.ite | apply SadUpd.mk | exact fun _ => PeakUpd.refl _ _ | exact Or.inl (by decide) | exact Or.inr rfl); try clear_value x) | (have hx : Upd 248525061357583 s x.2 := (by unfold x; repeat' first | with_reducible assumption | (guard_target =~ (_ ||| _ : Nat) = _; decide) | with_reducible apply Upd.ite | with_reducible apply State.bump_upd | with_reducible apply sramBytes_upd | with_reducible apply macStamp_upd | with_reducible apply sramPuts_upd | with_reducible apply sramPut_upd | with_reducible apply State.setReg_upd | with_reducible apply fire_upd | with_reducible apply State.raise_upd | with_reducible apply Upd.lit | exact rfl | exact SadUpd.refl _ _ | with_reducible apply SadUpd.ite | apply SadUpd.mk | exact fun _ => PeakUpd.refl _ _ | exact Or.inl (by decide) | exact Or.inr rfl); try clear_value x) | (have h9 : (x : Peak) = x := rfl; clear h9) | (have h9 : (x : Saddle) = x := rfl; clear h9) | (have h9 : (x : Pair) = x := rfl; clear h9) | (have h9 : (x : Leg) = x := rfl; clear h9) | clear_value x | skip) | with_reducible apply Upd.ite | with_reducible apply State.bump_upd | with_reducible apply sramBytes_upd | with_reducible apply macStamp_upd | with_reducible apply sramPuts_upd | with_reducible apply sramPut_upd | with_reducible apply State.setReg_upd | with_reducible apply fire_upd | with_reducible apply State.raise_upd | with_reducible apply Upd.lit | exact rfl | exact SadUpd.refl _ _ | with_reducible apply SadUpd.ite | apply SadUpd.mk | exact fun _ => PeakUpd.refl _ _ | exact Or.inl (by decide) | exact Or.inr rfl

theorem execMacReceive_upd (p : PeakId) (frame : List Byte) (fcsOk : Bool) (ago : Word) (s : State) {t : State} (hX : execMacReceive p frame fcsOk ago s = .next t) : Upd 248525061357583 s t := by
  unfold execMacReceive at hX
  cases hX
  have h0 := Upd.refl 248525061357583 s
  repeat' first | with_reducible assumption | (guard_target =~ (_ ||| _ : Nat) = _; decide) | with_reducible apply Upd.ite | with_reducible apply macReceive_upd

theorem txCounts_upd {M0 : Nat} {s0 : State} {p : PeakId} {q : Nat} {mac : Nat} {done : Nat} {s : State} (hU : Upd M0 s0 s) (hM : 1 ||| M0 = M0) : Upd M0 s0 (txCounts p q mac done s) := by
  refine Upd.step hU ?_ hM
  clear hU hM
  unfold txCounts
  have h0 := Upd.refl 1 s
  repeat' first | with_reducible assumption | (guard_target =~ (_ ||| _ : Nat) = _; decide) | (fail_if_no_progress extract_lets +onlyGivenNames x; first | (have hx : Upd 1 s x := (by unfold x; repeat' first | with_reducible assumption | (guard_target =~ (_ ||| _ : Nat) = _; decide) | with_reducible apply State.setFld_upd); try clear_value x) | (have h9 : (x : Peak) = x := rfl; clear h9) | (have h9 : (x : Saddle) = x := rfl; clear h9) | (have h9 : (x : Pair) = x := rfl; clear h9) | (have h9 : (x : Leg) = x := rfl; clear h9) | clear_value x | skip) | with_reducible apply State.setFld_upd

theorem tqTail_upd {M0 : Nat} {s0 : State} {p : PeakId} {q : Nat} {v : Nat} {s : State} (hU : Upd M0 s0 s) (hM : 1 ||| M0 = M0) : Upd M0 s0 (tqTail p q v s) := by
  refine Upd.step hU ?_ hM
  clear hU hM
  unfold tqTail
  have h0 := Upd.refl 1 s
  repeat' first | with_reducible assumption | (guard_target =~ (_ ||| _ : Nat) = _; decide) | (fail_if_no_progress extract_lets +onlyGivenNames x; first | (have hx : Upd 1 s x := (by unfold x; repeat' first | with_reducible assumption | (guard_target =~ (_ ||| _ : Nat) = _; decide) | with_reducible apply Upd.ite | with_reducible apply State.raise_upd | with_reducible apply txCounts_upd | with_reducible apply State.setReg_upd); try clear_value x) | (have h9 : (x : Peak) = x := rfl; clear h9) | (have h9 : (x : Saddle) = x := rfl; clear h9) | (have h9 : (x : Pair) = x := rfl; clear h9) | (have h9 : (x : Leg) = x := rfl; clear h9) | clear_value x | skip) | with_reducible apply Upd.ite | with_reducible apply State.raise_upd | with_reducible apply txCounts_upd | with_reducible apply State.setReg_upd

theorem tqReclaim_upd {M0 : Nat} {s0 : State} {p : PeakId} {q : Nat} {v : Nat} {s : State} (hU : Upd M0 s0 s) (hM : 1 ||| M0 = M0) : Upd M0 s0 (tqReclaim p q v s) := by
  refine Upd.step hU ?_ hM
  clear hU hM
  unfold tqReclaim
  have h0 := Upd.refl 1 s
  repeat' first | with_reducible assumption | (guard_target =~ (_ ||| _ : Nat) = _; decide) | (fail_if_no_progress extract_lets +onlyGivenNames x; first | (have hx : Upd 1 s x := (by unfold x; repeat' first | with_reducible assumption | (guard_target =~ (_ ||| _ : Nat) = _; decide) | with_reducible apply Upd.ite | with_reducible apply State.raise_upd | with_reducible apply txCounts_upd | with_reducible apply State.setReg_upd); try clear_value x) | (have h9 : (x : Peak) = x := rfl; clear h9) | (have h9 : (x : Saddle) = x := rfl; clear h9) | (have h9 : (x : Pair) = x := rfl; clear h9) | (have h9 : (x : Leg) = x := rfl; clear h9) | clear_value x | skip) | with_reducible apply Upd.ite | with_reducible apply State.raise_upd | with_reducible apply txCounts_upd | with_reducible apply State.setReg_upd

theorem execTqTailWrite_upd (m : Master) (q : Fin 8) (val : Word) (s : State) {t : State} (hX : execTqTailWrite m q val s = .next t) : Upd 1 s t := by
  unfold execTqTailWrite at hX
  cases hX
  have h0 := Upd.refl 1 s
  repeat' first | with_reducible assumption | (guard_target =~ (_ ||| _ : Nat) = _; decide) | with_reducible apply Upd.ite | with_reducible apply tqTail_upd

theorem execTqReclaimWrite_upd (m : Master) (q : Fin 8) (val : Word) (s : State) {t : State} (hX : execTqReclaimWrite m q val s = .next t) : Upd 1 s t := by
  unfold execTqReclaimWrite at hX
  cases hX
  have h0 := Upd.refl 1 s
  repeat' first | with_reducible assumption | (guard_target =~ (_ ||| _ : Nat) = _; decide) | with_reducible apply Upd.ite | with_reducible apply tqReclaim_upd

theorem State.setTxHead_upd {M0 : Nat} {s0 : State} {s : State} {p : PeakId} {q : Nat} {h : TxHead} (hU : Upd M0 s0 s) (hM : 4398046511104 ||| M0 = M0) : Upd M0 s0 (State.setTxHead s p q h) := by
  refine Upd.step hU ?_ hM
  clear hU hM
  unfold State.setTxHead
  have h0 := Upd.refl 4398046511104 s
  repeat' first | with_reducible assumption | (guard_target =~ (_ ||| _ : Nat) = _; decide) | with_reducible refine Upd.setPeak ?_ ?_ | exact PeakUpd.refl _ _ | with_reducible apply PeakUpd.ite | with_reducible apply PeakUpd.lit | exact Or.inl (by decide) | exact Or.inr rfl

theorem txFinish_upd {M0 : Nat} {s0 : State} {p : PeakId} {q : Nat} {result : Nat} {s : State} (hU : Upd M0 s0 s) (hM : 252923107868687 ||| M0 = M0) : Upd M0 s0 (txFinish p q result s) := by
  refine Upd.step hU ?_ hM
  clear hU hM
  unfold txFinish
  have h0 := Upd.refl 252923107868687 s
  repeat' first | with_reducible assumption | (guard_target =~ (_ ||| _ : Nat) = _; decide) | (fail_if_no_progress extract_lets +onlyGivenNames x; first | (have hx : Upd 252923107868687 s x := (by unfold x; repeat' first | with_reducible assumption | (guard_target =~ (_ ||| _ : Nat) = _; decide) | with_reducible apply Upd.ite | with_reducible apply macStamp_upd | with_reducible apply sramPuts_upd | with_reducible apply sramPut_upd | with_reducible apply setOwner_upd | with_reducible apply State.bump_upd | with_reducible apply State.setReg_upd | with_reducible apply txCounts_upd | with_reducible apply State.setTxHead_upd | with_reducible apply fire_upd | split | with_reducible apply Upd.lit | exact rfl | exact SadUpd.refl _ _ | with_reducible apply SadUpd.ite | apply SadUpd.mk | exact fun _ => PeakUpd.refl _ _ | exact Or.inl (by decide) | exact Or.inr rfl); try clear_value x) | (have hx : Upd 252923107868687 s x.2 := (by unfold x; repeat' first | with_reducible assumption | (guard_target =~ (_ ||| _ : Nat) = _; decide) | with_reducible apply Upd.ite | with_reducible apply macStamp_upd | with_reducible apply sramPuts_upd | with_reducible apply sramPut_upd | with_reducible apply setOwner_upd | with_reducible apply State.bump_upd | with_reducible apply State.setReg_upd | with_reducible apply txCounts_upd | with_reducible apply State.setTxHead_upd | with_reducible apply fire_upd | split | with_reducible apply Upd.lit | exact rfl | exact SadUpd.refl _ _ | with_reducible apply SadUpd.ite | apply SadUpd.mk | exact fun _ => PeakUpd.refl _ _ | exact Or.inl (by decide) | exact Or.inr rfl); try clear_value x) | (have h9 : (x : Peak) = x := rfl; clear h9) | (have h9 : (x : Saddle) = x := rfl; clear h9) | (have h9 : (x : Pair) = x := rfl; clear h9) | (have h9 : (x : Leg) = x := rfl; clear h9) | clear_value x | skip) | with_reducible apply Upd.ite | with_reducible apply macStamp_upd | with_reducible apply sramPuts_upd | with_reducible apply sramPut_upd | with_reducible apply setOwner_upd | with_reducible apply State.bump_upd | with_reducible apply State.setReg_upd | with_reducible apply txCounts_upd | with_reducible apply State.setTxHead_upd | with_reducible apply fire_upd | split | with_reducible apply Upd.lit | exact rfl | exact SadUpd.refl _ _ | with_reducible apply SadUpd.ite | apply SadUpd.mk | exact fun _ => PeakUpd.refl _ _ | exact Or.inl (by decide) | exact Or.inr rfl

theorem txCheck_upd {M0 : Nat} {s0 : State} {p : PeakId} {q : Nat} {s : State} (hU : Upd M0 s0 s) (hM : 252923107868687 ||| M0 = M0) : Upd M0 s0 (txCheck p q s) := by
  refine Upd.step hU ?_ hM
  clear hU hM
  unfold txCheck
  have h0 := Upd.refl 252923107868687 s
  repeat' first | with_reducible assumption | (guard_target =~ (_ ||| _ : Nat) = _; decide) | (fail_if_no_progress extract_lets +onlyGivenNames x; first | (have hx : Upd 252923107868687 s x := (by unfold x; repeat' first | with_reducible assumption | (guard_target =~ (_ ||| _ : Nat) = _; decide) | with_reducible apply Upd.ite | with_reducible apply txFinish_upd | with_reducible apply State.setTxHead_upd); try clear_value x) | (have h9 : (x : Peak) = x := rfl; clear h9) | (have h9 : (x : Saddle) = x := rfl; clear h9) | (have h9 : (x : Pair) = x := rfl; clear h9) | (have h9 : (x : Leg) = x := rfl; clear h9) | clear_value x | skip) | with_reducible apply Upd.ite | with_reducible apply txFinish_upd | with_reducible apply State.setTxHead_upd

theorem execTxDescriptorCheck_upd (p : PeakId) (q : Fin 8) (s : State) {t : State} (hX : execTxDescriptorCheck p q s = .next t) : Upd 252923107868687 s t := by
  unfold execTxDescriptorCheck at hX
  cases hX
  have h0 := Upd.refl 252923107868687 s
  repeat' first | with_reducible assumption | (guard_target =~ (_ ||| _ : Nat) = _; decide) | with_reducible apply Upd.ite | with_reducible apply txCheck_upd

theorem execTxFetchComplete_upd (p : PeakId) (q : Fin 8) (s : State) {t : State} (hX : execTxFetchComplete p q s = .next t) : Upd 4398046511104 s t := by
  unfold execTxFetchComplete at hX
  cases hX
  have h0 := Upd.refl 4398046511104 s
  repeat' first | with_reducible assumption | (guard_target =~ (_ ||| _ : Nat) = _; decide) | with_reducible apply Upd.ite | with_reducible apply State.setTxHead_upd

theorem execLaunchTime_upd (p : PeakId) (q : Fin 8) (s : State) {t : State} (hX : execLaunchTime p q s = .next t) : Upd 4398046511104 s t := by
  unfold execLaunchTime at hX
  cases hX
  have h0 := Upd.refl 4398046511104 s
  repeat' first | with_reducible assumption | (guard_target =~ (_ ||| _ : Nat) = _; decide) | (fail_if_no_progress extract_lets +onlyGivenNames x; first | (have hx : Upd 4398046511104 s x := (by unfold x; repeat' first | with_reducible assumption | (guard_target =~ (_ ||| _ : Nat) = _; decide) | with_reducible apply Upd.ite | with_reducible apply State.setTxHead_upd); try clear_value x) | (have h9 : (x : Peak) = x := rfl; clear h9) | (have h9 : (x : Saddle) = x := rfl; clear h9) | (have h9 : (x : Pair) = x := rfl; clear h9) | (have h9 : (x : Leg) = x := rfl; clear h9) | clear_value x | skip) | with_reducible apply Upd.ite | with_reducible apply State.setTxHead_upd

theorem txStart_upd {M0 : Nat} {s0 : State} {p : PeakId} {s : State} (hU : Upd M0 s0 s) (hM : 13194139533312 ||| M0 = M0) : Upd M0 s0 (txStart p s) := by
  refine Upd.step hU ?_ hM
  clear hU hM
  unfold txStart
  have h0 := Upd.refl 13194139533312 s
  repeat' first | with_reducible assumption | (guard_target =~ (_ ||| _ : Nat) = _; decide) | (fail_if_no_progress extract_lets +onlyGivenNames x; first | (have hx : Upd 13194139533312 s x := (by unfold x; repeat' first | with_reducible assumption | (guard_target =~ (_ ||| _ : Nat) = _; decide) | with_reducible apply Upd.ite | with_reducible refine Upd.setPeak ?_ ?_ | with_reducible apply State.setTxHead_upd | split | exact PeakUpd.refl _ _ | with_reducible apply PeakUpd.ite | with_reducible apply PeakUpd.lit | exact Or.inl (by decide) | exact Or.inr rfl); try clear_value x) | (have h9 : (x : Peak) = x := rfl; clear h9) | (have h9 : (x : Saddle) = x := rfl; clear h9) | (have h9 : (x : Pair) = x := rfl; clear h9) | (have h9 : (x : Leg) = x := rfl; clear h9) | clear_value x | skip) | with_reducible apply Upd.ite | with_reducible refine Upd.setPeak ?_ ?_ | with_reducible apply State.setTxHead_upd | split | exact PeakUpd.refl _ _ | with_reducible apply PeakUpd.ite | with_reducible apply PeakUpd.lit | exact Or.inl (by decide) | exact Or.inr rfl

theorem execTxStart_upd (p : PeakId) (s : State) {t : State} (hX : execTxStart p s = .next t) : Upd 13194139533312 s t := by
  unfold execTxStart at hX
  cases hX
  have h0 := Upd.refl 13194139533312 s
  repeat' first | with_reducible assumption | (guard_target =~ (_ ||| _ : Nat) = _; decide) | with_reducible apply Upd.ite | with_reducible apply txStart_upd

theorem execLateDrop_upd (p : PeakId) (q : Fin 8) (s : State) {t : State} (hX : execLateDrop p q s = .next t) : Upd 252923107868687 s t := by
  unfold execLateDrop at hX
  cases hX
  have h0 := Upd.refl 252923107868687 s
  repeat' first | with_reducible assumption | (guard_target =~ (_ ||| _ : Nat) = _; decide) | (fail_if_no_progress extract_lets +onlyGivenNames x; first | (have hx : Upd 252923107868687 s x := (by unfold x; repeat' first | with_reducible assumption | (guard_target =~ (_ ||| _ : Nat) = _; decide) | with_reducible apply Upd.ite | with_reducible apply txFinish_upd); try clear_value x) | (have h9 : (x : Peak) = x := rfl; clear h9) | (have h9 : (x : Saddle) = x := rfl; clear h9) | (have h9 : (x : Pair) = x := rfl; clear h9) | (have h9 : (x : Leg) = x := rfl; clear h9) | clear_value x | skip) | with_reducible apply Upd.ite | with_reducible apply txFinish_upd

theorem execTxComplete_upd (p : PeakId) (s : State) {t : State} (hX : execTxComplete p s = .next t) : Upd 261719200890895 s t := by
  unfold execTxComplete at hX
  cases hX
  have h0 := Upd.refl 261719200890895 s
  repeat' first | with_reducible assumption | (guard_target =~ (_ ||| _ : Nat) = _; decide) | (fail_if_no_progress extract_lets +onlyGivenNames x; first | (have hx : Upd 261719200890895 s x := (by unfold x; repeat' first | with_reducible assumption | (guard_target =~ (_ ||| _ : Nat) = _; decide) | with_reducible apply Upd.ite | with_reducible apply txFinish_upd | with_reducible refine Upd.setPeak ?_ ?_ | split | exact PeakUpd.refl _ _ | with_reducible apply PeakUpd.ite | with_reducible apply PeakUpd.lit | exact Or.inl (by decide) | exact Or.inr rfl); try clear_value x) | (have h9 : (x : Peak) = x := rfl; clear h9) | (have h9 : (x : Saddle) = x := rfl; clear h9) | (have h9 : (x : Pair) = x := rfl; clear h9) | (have h9 : (x : Leg) = x := rfl; clear h9) | clear_value x | skip) | with_reducible apply Upd.ite | with_reducible apply txFinish_upd | with_reducible refine Upd.setPeak ?_ ?_ | split | exact PeakUpd.refl _ _ | with_reducible apply PeakUpd.ite | with_reducible apply PeakUpd.lit | exact Or.inl (by decide) | exact Or.inr rfl

theorem mdioWrite_upd {M0 : Nat} {s0 : State} {p : PeakId} {v : Nat} {s : State} (hU : Upd M0 s0 s) (hM : 513 ||| M0 = M0) : Upd M0 s0 (mdioWrite p v s) := by
  refine Upd.step hU ?_ hM
  clear hU hM
  unfold mdioWrite
  have h0 := Upd.refl 513 s
  repeat' first | with_reducible assumption | (guard_target =~ (_ ||| _ : Nat) = _; decide) | (fail_if_no_progress extract_lets +onlyGivenNames x; first | (have hx : Upd 513 s x := (by unfold x; repeat' first | with_reducible assumption | (guard_target =~ (_ ||| _ : Nat) = _; decide) | with_reducible apply Upd.ite | with_reducible apply State.raise_upd | with_reducible apply State.setReg_upd | with_reducible apply Upd.lit | exact rfl | exact SadUpd.refl _ _ | with_reducible apply SadUpd.ite | apply SadUpd.mk | exact fun _ => PeakUpd.refl _ _ | exact Or.inl (by decide) | exact Or.inr rfl); try clear_value x) | (have h9 : (x : Peak) = x := rfl; clear h9) | (have h9 : (x : Saddle) = x := rfl; clear h9) | (have h9 : (x : Pair) = x := rfl; clear h9) | (have h9 : (x : Leg) = x := rfl; clear h9) | clear_value x | skip) | with_reducible apply Upd.ite | with_reducible apply State.raise_upd | with_reducible apply State.setReg_upd | with_reducible apply Upd.lit | exact rfl | exact SadUpd.refl _ _ | with_reducible apply SadUpd.ite | apply SadUpd.mk | exact fun _ => PeakUpd.refl _ _ | exact Or.inl (by decide) | exact Or.inr rfl

theorem mdioComplete_upd {M0 : Nat} {s0 : State} {data : Nat} {s : State} (hU : Upd M0 s0 s) (hM : 513 ||| M0 = M0) : Upd M0 s0 (mdioComplete data s) := by
  refine Upd.step hU ?_ hM
  clear hU hM
  unfold mdioComplete
  have h0 := Upd.refl 513 s
  repeat' first | with_reducible assumption | (guard_target =~ (_ ||| _ : Nat) = _; decide) | (fail_if_no_progress extract_lets +onlyGivenNames x; first | (have hx : Upd 513 s x := (by unfold x; repeat' first | with_reducible assumption | (guard_target =~ (_ ||| _ : Nat) = _; decide) | with_reducible apply Upd.ite | with_reducible apply State.setFld_upd | with_reducible apply State.setReg_upd | split | with_reducible apply Upd.lit | exact rfl | exact SadUpd.refl _ _ | with_reducible apply SadUpd.ite | apply SadUpd.mk | exact fun _ => PeakUpd.refl _ _ | exact Or.inl (by decide) | exact Or.inr rfl); try clear_value x) | (have h9 : (x : Peak) = x := rfl; clear h9) | (have h9 : (x : Saddle) = x := rfl; clear h9) | (have h9 : (x : Pair) = x := rfl; clear h9) | (have h9 : (x : Leg) = x := rfl; clear h9) | clear_value x | skip) | with_reducible apply Upd.ite | with_reducible apply State.setFld_upd | with_reducible apply State.setReg_upd | split | with_reducible apply Upd.lit | exact rfl | exact SadUpd.refl _ _ | with_reducible apply SadUpd.ite | apply SadUpd.mk | exact fun _ => PeakUpd.refl _ _ | exact Or.inl (by decide) | exact Or.inr rfl

theorem execMdioCommand_upd (m : Master) (val : Word) (s : State) {t : State} (hX : execMdioCommand m val s = .next t) : Upd 513 s t := by
  unfold execMdioCommand at hX
  cases hX
  have h0 := Upd.refl 513 s
  repeat' first | with_reducible assumption | (guard_target =~ (_ ||| _ : Nat) = _; decide) | with_reducible apply Upd.ite | with_reducible apply mdioWrite_upd

theorem execMdioComplete_upd (data : BitVec 16) (s : State) {t : State} (hX : execMdioComplete data s = .next t) : Upd 513 s t := by
  unfold execMdioComplete at hX
  cases hX
  have h0 := Upd.refl 513 s
  repeat' first | with_reducible assumption | (guard_target =~ (_ ||| _ : Nat) = _; decide) | with_reducible apply mdioComplete_upd

end Sys2Proof.Machine
end

