-- ==== Sys2Proof/Laws/UpdCouloir.lean ====
section
/-! SUPPORT. What each operation of Machine/Couloir.lean may change. -/

set_option linter.unusedTactic false
set_option linter.unreachableTactic false

namespace Sys2Proof.Machine

theorem clnSat_upd {M0 : Nat} {s0 : State} {p : PeakId} {sat : Bool} {s : State} (hU : Upd M0 s0 s) (hM : 1 ||| M0 = M0) : Upd M0 s0 (clnSat p sat s) := by
  refine Upd.step hU ?_ hM
  clear hU hM
  unfold clnSat
  have h0 := Upd.refl 1 s
  repeat' first | with_reducible assumption | (guard_target =~ (_ ||| _ : Nat) = _; decide) | with_reducible apply Upd.ite | with_reducible apply State.raise_upd

theorem meanWrap_upd {M0 : Nat} {s0 : State} {tb : Nat} {s : State} (hU : Upd M0 s0 s) (hM : 137975824384 ||| M0 = M0) : Upd M0 s0 (meanWrap tb s) := by
  refine Upd.step hU ?_ hM
  clear hU hM
  unfold meanWrap
  have h0 := Upd.refl 137975824384 s
  repeat' first | with_reducible assumption | (guard_target =~ (_ ||| _ : Nat) = _; decide) | (fail_if_no_progress extract_lets +onlyGivenNames x; first | (have hx : Upd 137975824384 s x := (by unfold x; repeat' first | with_reducible assumption | (guard_target =~ (_ ||| _ : Nat) = _; decide) | with_reducible apply Upd.ite | with_reducible refine Upd.bothPeaks ?_ (fun _ _ _ => ?_) | with_reducible refine Upd.forAll ?_ (fun _ _ _ => ?_) | with_reducible apply State.setChain_upd | split | with_reducible apply Upd.lit | exact rfl | exact SadUpd.refl _ _ | with_reducible apply SadUpd.ite | apply SadUpd.mk | exact fun _ => PeakUpd.refl _ _ | exact Or.inl (by decide) | exact Or.inr rfl); try clear_value x) | (have h9 : (x : Peak) = x := rfl; clear h9) | (have h9 : (x : Saddle) = x := rfl; clear h9) | (have h9 : (x : Pair) = x := rfl; clear h9) | (have h9 : (x : Leg) = x := rfl; clear h9) | clear_value x | skip) | with_reducible apply Upd.ite | with_reducible refine Upd.bothPeaks ?_ (fun _ _ _ => ?_) | with_reducible refine Upd.forAll ?_ (fun _ _ _ => ?_) | with_reducible apply State.setChain_upd | split | with_reducible apply Upd.lit | exact rfl | exact SadUpd.refl _ _ | with_reducible apply SadUpd.ite | apply SadUpd.mk | exact fun _ => PeakUpd.refl _ _ | exact Or.inl (by decide) | exact Or.inr rfl

theorem meanStart_upd {M0 : Nat} {s0 : State} {tb : Nat} {s : State} (hU : Upd M0 s0 s) (hM : 137438953472 ||| M0 = M0) : Upd M0 s0 (meanStart tb s) := by
  refine Upd.step hU ?_ hM
  clear hU hM
  unfold meanStart
  have h0 := Upd.refl 137438953472 s
  repeat' first | with_reducible assumption | (guard_target =~ (_ ||| _ : Nat) = _; decide) | (fail_if_no_progress extract_lets +onlyGivenNames x; first | (have hx : Upd 137438953472 s x := (by unfold x; repeat' first | with_reducible assumption | (guard_target =~ (_ ||| _ : Nat) = _; decide) | with_reducible apply Upd.ite | with_reducible refine Upd.bothPeaks ?_ (fun _ _ _ => ?_) | with_reducible refine Upd.forAll ?_ (fun _ _ _ => ?_) | with_reducible apply State.setChain_upd); try clear_value x) | (have h9 : (x : Peak) = x := rfl; clear h9) | (have h9 : (x : Saddle) = x := rfl; clear h9) | (have h9 : (x : Pair) = x := rfl; clear h9) | (have h9 : (x : Leg) = x := rfl; clear h9) | clear_value x | skip) | with_reducible apply Upd.ite | with_reducible refine Upd.bothPeaks ?_ (fun _ _ _ => ?_) | with_reducible refine Upd.forAll ?_ (fun _ _ _ => ?_) | with_reducible apply State.setChain_upd

theorem meanStop_upd {M0 : Nat} {s0 : State} {tb : Nat} {s : State} (hU : Upd M0 s0 s) (hM : 137438953472 ||| M0 = M0) : Upd M0 s0 (meanStop tb s) := by
  refine Upd.step hU ?_ hM
  clear hU hM
  unfold meanStop
  have h0 := Upd.refl 137438953472 s
  repeat' first | with_reducible assumption | (guard_target =~ (_ ||| _ : Nat) = _; decide) | (fail_if_no_progress extract_lets +onlyGivenNames x; first | (have hx : Upd 137438953472 s x := (by unfold x; repeat' first | with_reducible assumption | (guard_target =~ (_ ||| _ : Nat) = _; decide) | with_reducible refine Upd.bothPeaks ?_ (fun _ _ _ => ?_) | with_reducible refine Upd.forAll ?_ (fun _ _ _ => ?_) | with_reducible apply State.setChain_upd); try clear_value x) | (have h9 : (x : Peak) = x := rfl; clear h9) | (have h9 : (x : Saddle) = x := rfl; clear h9) | (have h9 : (x : Pair) = x := rfl; clear h9) | (have h9 : (x : Leg) = x := rfl; clear h9) | clear_value x | skip) | with_reducible refine Upd.bothPeaks ?_ (fun _ _ _ => ?_) | with_reducible refine Upd.forAll ?_ (fun _ _ _ => ?_) | with_reducible apply State.setChain_upd

theorem meanReady_upd {M0 : Nat} {s0 : State} {p : PeakId} {i : Nat} {s : State} (hU : Upd M0 s0 s) (hM : 248661426569231 ||| M0 = M0) : Upd M0 s0 (meanReady p i s) := by
  refine Upd.step hU ?_ hM
  clear hU hM
  unfold meanReady
  have h0 := Upd.refl 248661426569231 s
  repeat' first | with_reducible assumption | (guard_target =~ (_ ||| _ : Nat) = _; decide) | (fail_if_no_progress extract_lets +onlyGivenNames x; first | (have hx : Upd 248661426569231 s x := (by unfold x; repeat' first | with_reducible assumption | (guard_target =~ (_ ||| _ : Nat) = _; decide) | with_reducible apply Upd.ite | with_reducible apply State.setChain_upd | with_reducible apply State.setSlot_upd | with_reducible apply State.setFld_upd | with_reducible apply talusUpdate_upd | with_reducible apply State.setSlotE_upd | with_reducible apply State.setBit_upd); try clear_value x) | (have hx : Upd 248661426569231 s x.2 := (by unfold x; repeat' first | with_reducible assumption | (guard_target =~ (_ ||| _ : Nat) = _; decide) | with_reducible apply Upd.ite | with_reducible apply State.setChain_upd | with_reducible apply State.setSlot_upd | with_reducible apply State.setFld_upd | with_reducible apply talusUpdate_upd | with_reducible apply State.setSlotE_upd | with_reducible apply State.setBit_upd); try clear_value x) | (have h9 : (x : Peak) = x := rfl; clear h9) | (have h9 : (x : Saddle) = x := rfl; clear h9) | (have h9 : (x : Pair) = x := rfl; clear h9) | (have h9 : (x : Leg) = x := rfl; clear h9) | clear_value x | skip) | with_reducible apply Upd.ite | with_reducible apply State.setChain_upd | with_reducible apply State.setSlot_upd | with_reducible apply State.setFld_upd | with_reducible apply talusUpdate_upd | with_reducible apply State.setSlotE_upd | with_reducible apply State.setBit_upd

theorem fusedSet_upd {M0 : Nat} {s0 : State} {p : PeakId} {i : Nat} {w : Word} {fine : Bool} {e : Int × Nat} {rephAt : Option Nat} {s : State} (hU : Upd M0 s0 s) (hM : 137438953473 ||| M0 = M0) : Upd M0 s0 (fusedSet p i w fine e rephAt s) := by
  refine Upd.step hU ?_ hM
  clear hU hM
  unfold fusedSet
  have h0 := Upd.refl 137438953473 s
  repeat' first | with_reducible assumption | (guard_target =~ (_ ||| _ : Nat) = _; decide) | (fail_if_no_progress extract_lets +onlyGivenNames x; first | (have hx : Upd 137438953473 s x := (by unfold x; repeat' first | with_reducible assumption | (guard_target =~ (_ ||| _ : Nat) = _; decide) | with_reducible apply State.setChain_upd | with_reducible apply State.setSlot_upd | with_reducible apply State.setSlotE_upd | with_reducible apply State.setFld_upd | with_reducible apply State.setBit_upd); try clear_value x) | (have hx : Upd 137438953473 s x.2 := (by unfold x; repeat' first | with_reducible assumption | (guard_target =~ (_ ||| _ : Nat) = _; decide) | with_reducible apply State.setChain_upd | with_reducible apply State.setSlot_upd | with_reducible apply State.setSlotE_upd | with_reducible apply State.setFld_upd | with_reducible apply State.setBit_upd); try clear_value x) | (have h9 : (x : Peak) = x := rfl; clear h9) | (have h9 : (x : Saddle) = x := rfl; clear h9) | (have h9 : (x : Pair) = x := rfl; clear h9) | (have h9 : (x : Leg) = x := rfl; clear h9) | clear_value x | skip) | with_reducible apply State.setChain_upd | with_reducible apply State.setSlot_upd | with_reducible apply State.setSlotE_upd | with_reducible apply State.setFld_upd | with_reducible apply State.setBit_upd

theorem shoulderReady_upd {M0 : Nat} {s0 : State} {p : PeakId} {x : ShValue} {s : State} (hU : Upd M0 s0 s) (hM : 248661426569231 ||| M0 = M0) : Upd M0 s0 (shoulderReady p x s) := by
  refine Upd.step hU ?_ hM
  clear hU hM
  unfold shoulderReady
  have h0 := Upd.refl 248661426569231 s
  repeat' first | with_reducible assumption | (guard_target =~ (_ ||| _ : Nat) = _; decide) | (fail_if_no_progress extract_lets +onlyGivenNames x; first | (have hx : Upd 248661426569231 s x := (by unfold x; repeat' first | with_reducible assumption | (guard_target =~ (_ ||| _ : Nat) = _; decide) | with_reducible apply Upd.ite | with_reducible apply State.setSlot_upd | with_reducible apply State.setBit_upd | with_reducible apply fusedSet_upd | with_reducible apply talusUpdate_upd | with_reducible apply State.setSlotE_upd); try clear_value x) | (have h9 : (x : Peak) = x := rfl; clear h9) | (have h9 : (x : Saddle) = x := rfl; clear h9) | (have h9 : (x : Pair) = x := rfl; clear h9) | (have h9 : (x : Leg) = x := rfl; clear h9) | clear_value x | skip) | with_reducible apply Upd.ite | with_reducible apply State.setSlot_upd | with_reducible apply State.setBit_upd | with_reducible apply fusedSet_upd | with_reducible apply talusUpdate_upd | with_reducible apply State.setSlotE_upd

theorem couloirTick_upd {M0 : Nat} {s0 : State} {p : PeakId} {s : State} (hU : Upd M0 s0 s) (hM : 248661426569231 ||| M0 = M0) : Upd M0 s0 (couloirTick p s) := by
  refine Upd.step hU ?_ hM
  clear hU hM
  unfold couloirTick
  have h0 := Upd.refl 248661426569231 s
  repeat' first | with_reducible assumption | (guard_target =~ (_ ||| _ : Nat) = _; decide) | (fail_if_no_progress extract_lets +onlyGivenNames x; first | (have hx : Upd 248661426569231 s x := (by unfold x; repeat' first | with_reducible assumption | (guard_target =~ (_ ||| _ : Nat) = _; decide) | with_reducible apply Upd.ite | with_reducible refine Upd.forAll ?_ (fun _ _ _ => ?_) | with_reducible apply shoulderReady_upd | with_reducible refine Upd.setPeak ?_ ?_ | exact PeakUpd.refl _ _ | with_reducible apply PeakUpd.ite | with_reducible apply PeakUpd.lit | exact Or.inl (by decide) | exact Or.inr rfl); try clear_value x) | (have hx : Upd 248661426569231 s x.2 := (by unfold x; repeat' first | with_reducible assumption | (guard_target =~ (_ ||| _ : Nat) = _; decide) | with_reducible apply Upd.ite | with_reducible refine Upd.forAll ?_ (fun _ _ _ => ?_) | with_reducible apply shoulderReady_upd | with_reducible refine Upd.setPeak ?_ ?_ | exact PeakUpd.refl _ _ | with_reducible apply PeakUpd.ite | with_reducible apply PeakUpd.lit | exact Or.inl (by decide) | exact Or.inr rfl); try clear_value x) | (have h9 : (x : Peak) = x := rfl; clear h9) | (have h9 : (x : Saddle) = x := rfl; clear h9) | (have h9 : (x : Pair) = x := rfl; clear h9) | (have h9 : (x : Leg) = x := rfl; clear h9) | clear_value x | skip) | with_reducible apply Upd.ite | with_reducible refine Upd.forAll ?_ (fun _ _ _ => ?_) | with_reducible apply shoulderReady_upd | with_reducible refine Upd.setPeak ?_ ?_ | exact PeakUpd.refl _ _ | with_reducible apply PeakUpd.ite | with_reducible apply PeakUpd.lit | exact Or.inl (by decide) | exact Or.inr rfl

theorem couloirArrival_upd {M0 : Nat} {s0 : State} {p : PeakId} {i : Nat} {s : State} (hU : Upd M0 s0 s) (hM : 137438953537 ||| M0 = M0) : Upd M0 s0 (couloirArrival p i s) := by
  refine Upd.step hU ?_ hM
  clear hU hM
  unfold couloirArrival
  have h0 := Upd.refl 137438953537 s
  repeat' first | with_reducible assumption | (guard_target =~ (_ ||| _ : Nat) = _; decide) | (fail_if_no_progress extract_lets +onlyGivenNames x; first | (have hx : Upd 137438953537 s x := (by unfold x; repeat' first | with_reducible assumption | (guard_target =~ (_ ||| _ : Nat) = _; decide) | with_reducible apply Upd.ite | with_reducible apply State.setCin_upd | with_reducible apply clnSat_upd | with_reducible apply State.setChain_upd | with_reducible apply State.setBit_upd | with_reducible refine Upd.setPeak ?_ ?_ | split | exact PeakUpd.refl _ _ | with_reducible apply PeakUpd.ite | with_reducible apply PeakUpd.lit | exact Or.inl (by decide) | exact Or.inr rfl); try clear_value x) | (have hx : Upd 137438953537 s x.2 := (by unfold x; repeat' first | with_reducible assumption | (guard_target =~ (_ ||| _ : Nat) = _; decide) | with_reducible apply Upd.ite | with_reducible apply State.setCin_upd | with_reducible apply clnSat_upd | with_reducible apply State.setChain_upd | with_reducible apply State.setBit_upd | with_reducible refine Upd.setPeak ?_ ?_ | split | exact PeakUpd.refl _ _ | with_reducible apply PeakUpd.ite | with_reducible apply PeakUpd.lit | exact Or.inl (by decide) | exact Or.inr rfl); try clear_value x) | (have h9 : (x : Peak) = x := rfl; clear h9) | (have h9 : (x : Saddle) = x := rfl; clear h9) | (have h9 : (x : Pair) = x := rfl; clear h9) | (have h9 : (x : Leg) = x := rfl; clear h9) | clear_value x | skip) | with_reducible apply Upd.ite | with_reducible apply State.setCin_upd | with_reducible apply clnSat_upd | with_reducible apply State.setChain_upd | with_reducible apply State.setBit_upd | with_reducible refine Upd.setPeak ?_ ?_ | split | exact PeakUpd.refl _ _ | with_reducible apply PeakUpd.ite | with_reducible apply PeakUpd.lit | exact Or.inl (by decide) | exact Or.inr rfl

theorem execCouloirSampleArrival_upd (p : PeakId) (i : Fin 48) (s : State) {t : State} (hX : execCouloirSampleArrival p i s = .next t) : Upd 137438953537 s t := by
  unfold execCouloirSampleArrival at hX
  cases hX
  have h0 := Upd.refl 137438953537 s
  repeat' first | with_reducible assumption | (guard_target =~ (_ ||| _ : Nat) = _; decide) | with_reducible apply couloirArrival_upd

theorem sampleReady_upd {M0 : Nat} {s0 : State} {i : Nat} {s : State} (hU : Upd M0 s0 s) (hM : 248661426569293 ||| M0 = M0) : Upd M0 s0 (sampleReady i s) := by
  refine Upd.step hU ?_ hM
  clear hU hM
  unfold sampleReady
  have h0 := Upd.refl 248661426569293 s
  repeat' first | with_reducible assumption | (guard_target =~ (_ ||| _ : Nat) = _; decide) | (fail_if_no_progress extract_lets +onlyGivenNames x; first | (have hx : Upd 248661426569293 s x := (by unfold x; repeat' first | with_reducible assumption | (guard_target =~ (_ ||| _ : Nat) = _; decide) | (fail_if_no_progress extract_lets +onlyGivenNames x; first | (have hx : Upd 248661426569293 s x := (by unfold x; repeat' first | with_reducible assumption | (guard_target =~ (_ ||| _ : Nat) = _; decide) | with_reducible apply Upd.ite | with_reducible apply State.setCin_upd | with_reducible refine Upd.bothPeaks ?_ (fun _ _ _ => ?_) | with_reducible apply State.setChain_upd | with_reducible apply fireBoth_upd | with_reducible apply lastTake_upd | with_reducible apply State.setSlot_upd | split); try clear_value x) | (have h9 : (x : Peak) = x := rfl; clear h9) | (have h9 : (x : Saddle) = x := rfl; clear h9) | (have h9 : (x : Pair) = x := rfl; clear h9) | (have h9 : (x : Leg) = x := rfl; clear h9) | clear_value x | skip) | with_reducible apply Upd.ite | with_reducible apply State.setCin_upd | with_reducible refine Upd.bothPeaks ?_ (fun _ _ _ => ?_) | with_reducible apply State.setChain_upd | with_reducible apply fireBoth_upd | with_reducible apply lastTake_upd | with_reducible apply State.setSlot_upd | split); try clear_value x) | (have h9 : (x : Peak) = x := rfl; clear h9) | (have h9 : (x : Saddle) = x := rfl; clear h9) | (have h9 : (x : Pair) = x := rfl; clear h9) | (have h9 : (x : Leg) = x := rfl; clear h9) | clear_value x | skip) | with_reducible apply Upd.ite | with_reducible apply State.setCin_upd | with_reducible refine Upd.bothPeaks ?_ (fun _ _ _ => ?_) | with_reducible apply State.setChain_upd | with_reducible apply fireBoth_upd | with_reducible apply lastTake_upd | with_reducible apply State.setSlot_upd | split

theorem execSampleReady_upd (i : Fin 48) (s : State) {t : State} (hX : execSampleReady i s = .next t) : Upd 248661426569293 s t := by
  unfold execSampleReady at hX
  cases hX
  have h0 := Upd.refl 248661426569293 s
  repeat' first | with_reducible assumption | (guard_target =~ (_ ||| _ : Nat) = _; decide) | with_reducible apply sampleReady_upd

theorem fineStart_upd {M0 : Nat} {s0 : State} {p : PeakId} {i : Nat} {s : State} (hU : Upd M0 s0 s) (hM : 137438953473 ||| M0 = M0) : Upd M0 s0 (fineStart p i s) := by
  refine Upd.step hU ?_ hM
  clear hU hM
  unfold fineStart
  have h0 := Upd.refl 137438953473 s
  repeat' first | with_reducible assumption | (guard_target =~ (_ ||| _ : Nat) = _; decide) | (fail_if_no_progress extract_lets +onlyGivenNames x; first | (have hx : Upd 137438953473 s x := (by unfold x; repeat' first | with_reducible assumption | (guard_target =~ (_ ||| _ : Nat) = _; decide) | with_reducible apply State.setChain_upd | with_reducible apply State.setSlot_upd | with_reducible apply State.setFld_upd); try clear_value x) | (have h9 : (x : Peak) = x := rfl; clear h9) | (have h9 : (x : Saddle) = x := rfl; clear h9) | (have h9 : (x : Pair) = x := rfl; clear h9) | (have h9 : (x : Leg) = x := rfl; clear h9) | clear_value x | skip) | with_reducible apply State.setChain_upd | with_reducible apply State.setSlot_upd | with_reducible apply State.setFld_upd

theorem fineStop_upd {M0 : Nat} {s0 : State} {p : PeakId} {i : Nat} {s : State} (hU : Upd M0 s0 s) (hM : 137438953473 ||| M0 = M0) : Upd M0 s0 (fineStop p i s) := by
  refine Upd.step hU ?_ hM
  clear hU hM
  unfold fineStop
  have h0 := Upd.refl 137438953473 s
  repeat' first | with_reducible assumption | (guard_target =~ (_ ||| _ : Nat) = _; decide) | (fail_if_no_progress extract_lets +onlyGivenNames x; first | (have hx : Upd 137438953473 s x := (by unfold x; repeat' first | with_reducible assumption | (guard_target =~ (_ ||| _ : Nat) = _; decide) | with_reducible apply State.setChain_upd | with_reducible apply State.setFld_upd); try clear_value x) | (have h9 : (x : Peak) = x := rfl; clear h9) | (have h9 : (x : Saddle) = x := rfl; clear h9) | (have h9 : (x : Pair) = x := rfl; clear h9) | (have h9 : (x : Leg) = x := rfl; clear h9) | clear_value x | skip) | with_reducible apply State.setChain_upd | with_reducible apply State.setFld_upd

theorem clnInCtrlWrite_upd {M0 : Nat} {s0 : State} {p : PeakId} {i : Nat} {v : Nat} {s : State} (hU : Upd M0 s0 s) (hM : 137438953473 ||| M0 = M0) : Upd M0 s0 (clnInCtrlWrite p i v s) := by
  refine Upd.step hU ?_ hM
  clear hU hM
  unfold clnInCtrlWrite
  have h0 := Upd.refl 137438953473 s
  repeat' first | with_reducible assumption | (guard_target =~ (_ ||| _ : Nat) = _; decide) | (fail_if_no_progress extract_lets +onlyGivenNames x; first | (have hx : Upd 137438953473 s x := (by unfold x; repeat' first | with_reducible assumption | (guard_target =~ (_ ||| _ : Nat) = _; decide) | with_reducible apply Upd.ite | with_reducible apply fineStart_upd | with_reducible apply fineStop_upd | with_reducible apply State.setChain_upd | with_reducible apply State.setFld_upd); try clear_value x) | (have h9 : (x : Peak) = x := rfl; clear h9) | (have h9 : (x : Saddle) = x := rfl; clear h9) | (have h9 : (x : Pair) = x := rfl; clear h9) | (have h9 : (x : Leg) = x := rfl; clear h9) | clear_value x | skip) | with_reducible apply Upd.ite | with_reducible apply fineStart_upd | with_reducible apply fineStop_upd | with_reducible apply State.setChain_upd | with_reducible apply State.setFld_upd

theorem execFineRunStart_upd (m : Master) (i : Fin 48) (s : State) {t : State} (hX : execFineRunStart m i s = .next t) : Upd 137438953473 s t := by
  unfold execFineRunStart at hX
  cases hX
  have h0 := Upd.refl 137438953473 s
  repeat' first | with_reducible assumption | (guard_target =~ (_ ||| _ : Nat) = _; decide) | with_reducible apply Upd.ite | with_reducible apply clnInCtrlWrite_upd

theorem execMeanRunStart_upd (m : Master) (i : Fin 48) (s : State) {t : State} (hX : execMeanRunStart m i s = .next t) : Upd 137438953473 s t := by
  unfold execMeanRunStart at hX
  cases hX
  have h0 := Upd.refl 137438953473 s
  repeat' first | with_reducible assumption | (guard_target =~ (_ ||| _ : Nat) = _; decide) | with_reducible apply Upd.ite | with_reducible apply clnInCtrlWrite_upd

theorem fineReady_upd {M0 : Nat} {s0 : State} {p : PeakId} {i : Nat} {s : State} (hU : Upd M0 s0 s) (hM : 248661426569231 ||| M0 = M0) : Upd M0 s0 (fineReady p i s) := by
  refine Upd.step hU ?_ hM
  clear hU hM
  unfold fineReady
  have h0 := Upd.refl 248661426569231 s
  repeat' first | with_reducible assumption | (guard_target =~ (_ ||| _ : Nat) = _; decide) | (fail_if_no_progress extract_lets +onlyGivenNames x; first | (have hx : Upd 248661426569231 s x := (by unfold x; repeat' first | with_reducible assumption | (guard_target =~ (_ ||| _ : Nat) = _; decide) | with_reducible apply Upd.ite | with_reducible apply State.setChain_upd | with_reducible apply State.setSlot_upd | with_reducible apply State.setBit_upd | with_reducible apply fusedSet_upd | with_reducible apply talusUpdate_upd | with_reducible apply State.setSlotE_upd | split); try clear_value x) | (have h9 : (x : Peak) = x := rfl; clear h9) | (have h9 : (x : Saddle) = x := rfl; clear h9) | (have h9 : (x : Pair) = x := rfl; clear h9) | (have h9 : (x : Leg) = x := rfl; clear h9) | clear_value x | skip) | with_reducible apply Upd.ite | with_reducible apply State.setChain_upd | with_reducible apply State.setSlot_upd | with_reducible apply State.setBit_upd | with_reducible apply fusedSet_upd | with_reducible apply talusUpdate_upd | with_reducible apply State.setSlotE_upd | split

theorem execFineOutputReady_upd (p : PeakId) (i : Fin 48) (s : State) {t : State} (hX : execFineOutputReady p i s = .next t) : Upd 248661426569231 s t := by
  unfold execFineOutputReady at hX
  cases hX
  have h0 := Upd.refl 248661426569231 s
  repeat' first | with_reducible assumption | (guard_target =~ (_ ||| _ : Nat) = _; decide) | with_reducible apply Upd.ite | with_reducible apply fineReady_upd

theorem periodMean_upd {M0 : Nat} {s0 : State} {tb : Nat} {s : State} (hU : Upd M0 s0 s) (hM : 248661963440143 ||| M0 = M0) : Upd M0 s0 (periodMean tb s) := by
  refine Upd.step hU ?_ hM
  clear hU hM
  unfold periodMean
  have h0 := Upd.refl 248661963440143 s
  repeat' first | with_reducible assumption | (guard_target =~ (_ ||| _ : Nat) = _; decide) | (fail_if_no_progress extract_lets +onlyGivenNames x; first | (have hx : Upd 248661963440143 s x := (by unfold x; repeat' first | with_reducible assumption | (guard_target =~ (_ ||| _ : Nat) = _; decide) | with_reducible apply Upd.ite | with_reducible refine Upd.bothPeaks ?_ (fun _ _ _ => ?_) | with_reducible refine Upd.forAll ?_ (fun _ _ _ => ?_) | with_reducible apply meanReady_upd | with_reducible apply fireBoth_upd | with_reducible apply Upd.lit | exact rfl | exact SadUpd.refl _ _ | with_reducible apply SadUpd.ite | apply SadUpd.mk | exact fun _ => PeakUpd.refl _ _ | exact Or.inl (by decide) | exact Or.inr rfl); try clear_value x) | (have h9 : (x : Peak) = x := rfl; clear h9) | (have h9 : (x : Saddle) = x := rfl; clear h9) | (have h9 : (x : Pair) = x := rfl; clear h9) | (have h9 : (x : Leg) = x := rfl; clear h9) | clear_value x | skip) | with_reducible apply Upd.ite | with_reducible refine Upd.bothPeaks ?_ (fun _ _ _ => ?_) | with_reducible refine Upd.forAll ?_ (fun _ _ _ => ?_) | with_reducible apply meanReady_upd | with_reducible apply fireBoth_upd | with_reducible apply Upd.lit | exact rfl | exact SadUpd.refl _ _ | with_reducible apply SadUpd.ite | apply SadUpd.mk | exact fun _ => PeakUpd.refl _ _ | exact Or.inl (by decide) | exact Or.inr rfl

theorem execPeriodMeanReady_upd (tb : Fin 8) (s : State) {t : State} (hX : execPeriodMeanReady tb s = .next t) : Upd 248661963440143 s t := by
  unfold execPeriodMeanReady at hX
  cases hX
  have h0 := Upd.refl 248661963440143 s
  repeat' first | with_reducible assumption | (guard_target =~ (_ ||| _ : Nat) = _; decide) | with_reducible apply periodMean_upd

theorem State.setRsg_upd {M0 : Nat} {s0 : State} {s : State} {p : PeakId} {g : Nat} {r : Rsg} (hU : Upd M0 s0 s) (hM : 137438953472 ||| M0 = M0) : Upd M0 s0 (State.setRsg s p g r) := by
  refine Upd.step hU ?_ hM
  clear hU hM
  unfold State.setRsg
  have h0 := Upd.refl 137438953472 s
  repeat' first | with_reducible assumption | (guard_target =~ (_ ||| _ : Nat) = _; decide) | (fail_if_no_progress extract_lets +onlyGivenNames x; first | (have hx : Upd 137438953472 s x := (by unfold x; repeat' first | with_reducible assumption | (guard_target =~ (_ ||| _ : Nat) = _; decide) | with_reducible refine Upd.setPeak ?_ ?_ | exact PeakUpd.refl _ _ | with_reducible apply PeakUpd.ite | with_reducible apply PeakUpd.lit | exact Or.inl (by decide) | exact Or.inr rfl); try clear_value x) | (have h9 : (x : Peak) = x := rfl; clear h9) | (have h9 : (x : Saddle) = x := rfl; clear h9) | (have h9 : (x : Pair) = x := rfl; clear h9) | (have h9 : (x : Leg) = x := rfl; clear h9) | clear_value x | skip) | with_reducible refine Upd.setPeak ?_ ?_ | exact PeakUpd.refl _ _ | with_reducible apply PeakUpd.ite | with_reducible apply PeakUpd.lit | exact Or.inl (by decide) | exact Or.inr rfl

theorem rsRange_upd {M0 : Nat} {s0 : State} {p : PeakId} {g : Nat} {s : State} (hU : Upd M0 s0 s) (hM : 1 ||| M0 = M0) : Upd M0 s0 (rsRange p g s) := by
  refine Upd.step hU ?_ hM
  clear hU hM
  unfold rsRange
  have h0 := Upd.refl 1 s
  repeat' first | with_reducible assumption | (guard_target =~ (_ ||| _ : Nat) = _; decide) | (fail_if_no_progress extract_lets +onlyGivenNames x; first | (have hx : Upd 1 s x := (by unfold x; repeat' first | with_reducible assumption | (guard_target =~ (_ ||| _ : Nat) = _; decide) | with_reducible apply Upd.ite | with_reducible apply State.setBit_upd | with_reducible apply State.raise_upd); try clear_value x) | (have h9 : (x : Peak) = x := rfl; clear h9) | (have h9 : (x : Saddle) = x := rfl; clear h9) | (have h9 : (x : Pair) = x := rfl; clear h9) | (have h9 : (x : Leg) = x := rfl; clear h9) | clear_value x | skip) | with_reducible apply Upd.ite | with_reducible apply State.setBit_upd | with_reducible apply State.raise_upd

theorem rsSlip_upd {M0 : Nat} {s0 : State} {p : PeakId} {g : Nat} {m : Nat} {s : State} (hU : Upd M0 s0 s) (hM : 248661426569229 ||| M0 = M0) : Upd M0 s0 (rsSlip p g m s) := by
  refine Upd.step hU ?_ hM
  clear hU hM
  unfold rsSlip
  have h0 := Upd.refl 248661426569229 s
  repeat' first | with_reducible assumption | (guard_target =~ (_ ||| _ : Nat) = _; decide) | (fail_if_no_progress extract_lets +onlyGivenNames x; first | (have hx : Upd 248661426569229 s x := (by unfold x; repeat' first | with_reducible assumption | (guard_target =~ (_ ||| _ : Nat) = _; decide) | with_reducible apply State.setRsg_upd | with_reducible apply State.bump_upd | with_reducible apply fire_upd | with_reducible apply State.raise_upd); try clear_value x) | (have h9 : (x : Peak) = x := rfl; clear h9) | (have h9 : (x : Saddle) = x := rfl; clear h9) | (have h9 : (x : Pair) = x := rfl; clear h9) | (have h9 : (x : Leg) = x := rfl; clear h9) | clear_value x | skip) | with_reducible apply State.setRsg_upd | with_reducible apply State.bump_upd | with_reducible apply fire_upd | with_reducible apply State.raise_upd

theorem rsPublish_upd {M0 : Nat} {s0 : State} {p : PeakId} {e : Nat} {tick : Nat} {phase : Nat} {inc : Nat} {s : State} (hU : Upd M0 s0 s) (hM : 248661426569229 ||| M0 = M0) : Upd M0 s0 (rsPublish p e tick phase inc s) := by
  refine Upd.step hU ?_ hM
  clear hU hM
  unfold rsPublish
  have h0 := Upd.refl 248661426569229 s
  repeat' first | with_reducible assumption | (guard_target =~ (_ ||| _ : Nat) = _; decide) | (fail_if_no_progress extract_lets +onlyGivenNames x; first | (have hx : Upd 248661426569229 s x := (by unfold x; repeat' first | with_reducible assumption | (guard_target =~ (_ ||| _ : Nat) = _; decide) | with_reducible apply Upd.ite | with_reducible refine Upd.setPeak ?_ ?_ | with_reducible apply tick_upd | with_reducible refine Upd.forAll ?_ (fun _ _ _ => ?_) | with_reducible apply State.setRsg_upd | with_reducible apply rsRange_upd | with_reducible apply rsSlip_upd | exact PeakUpd.refl _ _ | with_reducible apply PeakUpd.ite | with_reducible apply PeakUpd.lit | exact Or.inl (by decide) | exact Or.inr rfl); try clear_value x) | (have h9 : (x : Peak) = x := rfl; clear h9) | (have h9 : (x : Saddle) = x := rfl; clear h9) | (have h9 : (x : Pair) = x := rfl; clear h9) | (have h9 : (x : Leg) = x := rfl; clear h9) | clear_value x | skip) | with_reducible apply Upd.ite | with_reducible refine Upd.setPeak ?_ ?_ | with_reducible apply tick_upd | with_reducible refine Upd.forAll ?_ (fun _ _ _ => ?_) | with_reducible apply State.setRsg_upd | with_reducible apply rsRange_upd | with_reducible apply rsSlip_upd | exact PeakUpd.refl _ _ | with_reducible apply PeakUpd.ite | with_reducible apply PeakUpd.lit | exact Or.inl (by decide) | exact Or.inr rfl

theorem resamplerRun_upd {M0 : Nat} {s0 : State} {p : PeakId} {g : Nat} {run : Bool} {s : State} (hU : Upd M0 s0 s) (hM : 137438953473 ||| M0 = M0) : Upd M0 s0 (resamplerRun p g run s) := by
  refine Upd.step hU ?_ hM
  clear hU hM
  unfold resamplerRun
  have h0 := Upd.refl 137438953473 s
  repeat' first | with_reducible assumption | (guard_target =~ (_ ||| _ : Nat) = _; decide) | (fail_if_no_progress extract_lets +onlyGivenNames x; first | (have hx : Upd 137438953473 s x := (by unfold x; repeat' first | with_reducible assumption | (guard_target =~ (_ ||| _ : Nat) = _; decide) | with_reducible apply Upd.ite | with_reducible apply tick_upd | with_reducible apply State.setRsg_upd | with_reducible apply rsRange_upd | with_reducible apply State.setFld_upd); try clear_value x) | (have hx : Upd 137438953473 s x.2 := (by unfold x; repeat' first | with_reducible assumption | (guard_target =~ (_ ||| _ : Nat) = _; decide) | with_reducible apply Upd.ite | with_reducible apply tick_upd | with_reducible apply State.setRsg_upd | with_reducible apply rsRange_upd | with_reducible apply State.setFld_upd); try clear_value x) | (have h9 : (x : Peak) = x := rfl; clear h9) | (have h9 : (x : Saddle) = x := rfl; clear h9) | (have h9 : (x : Pair) = x := rfl; clear h9) | (have h9 : (x : Leg) = x := rfl; clear h9) | clear_value x | skip) | with_reducible apply Upd.ite | with_reducible apply tick_upd | with_reducible apply State.setRsg_upd | with_reducible apply rsRange_upd | with_reducible apply State.setFld_upd

theorem execResamplerRun_upd (m : Master) (g : Fin 8) (run : Bool) (s : State) {t : State} (hX : execResamplerRun m g run s = .next t) : Upd 137438953473 s t := by
  unfold execResamplerRun at hX
  cases hX
  have h0 := Upd.refl 137438953473 s
  repeat' first | with_reducible assumption | (guard_target =~ (_ ||| _ : Nat) = _; decide) | with_reducible apply Upd.ite | with_reducible apply resamplerRun_upd

theorem rsTake_upd {M0 : Nat} {s0 : State} {p : PeakId} {i : Nat} {v : RsVal} {s : State} (hU : Upd M0 s0 s) (hM : 137438953473 ||| M0 = M0) : Upd M0 s0 (rsTake p i v s) := by
  refine Upd.step hU ?_ hM
  clear hU hM
  unfold rsTake
  have h0 := Upd.refl 137438953473 s
  repeat' first | with_reducible assumption | (guard_target =~ (_ ||| _ : Nat) = _; decide) | (fail_if_no_progress extract_lets +onlyGivenNames x; first | (have hx : Upd 137438953473 s x := (by unfold x; repeat' first | with_reducible assumption | (guard_target =~ (_ ||| _ : Nat) = _; decide) | with_reducible apply State.setChain_upd | with_reducible apply clnSat_upd | with_reducible apply State.setSlot_upd | with_reducible apply State.setSlotE_upd); try clear_value x) | (have h9 : (x : Peak) = x := rfl; clear h9) | (have h9 : (x : Saddle) = x := rfl; clear h9) | (have h9 : (x : Pair) = x := rfl; clear h9) | (have h9 : (x : Leg) = x := rfl; clear h9) | clear_value x | skip) | with_reducible apply State.setChain_upd | with_reducible apply clnSat_upd | with_reducible apply State.setSlot_upd | with_reducible apply State.setSlotE_upd

theorem rsRecord_upd {M0 : Nat} {s0 : State} {p : PeakId} {g : Nat} {m : Nat} {seq : Nat} {e : Int × Nat} {vals : List Word} {s : State} (hU : Upd M0 s0 s) (hM : 3 ||| M0 = M0) : Upd M0 s0 (rsRecord p g m seq e vals s) := by
  refine Upd.step hU ?_ hM
  clear hU hM
  unfold rsRecord
  have h0 := Upd.refl 3 s
  repeat' first | with_reducible assumption | (guard_target =~ (_ ||| _ : Nat) = _; decide) | (fail_if_no_progress extract_lets +onlyGivenNames x; first | (have hx : Upd 3 s x := (by unfold x; repeat' first | with_reducible assumption | (guard_target =~ (_ ||| _ : Nat) = _; decide) | with_reducible refine Upd.forAll ?_ (fun _ _ _ => ?_) | with_reducible apply sramPut_upd | with_reducible apply State.setReg_upd | with_reducible apply State.setFld_upd); try clear_value x) | (have hx : Upd 3 s x.2 := (by unfold x; repeat' first | with_reducible assumption | (guard_target =~ (_ ||| _ : Nat) = _; decide) | with_reducible refine Upd.forAll ?_ (fun _ _ _ => ?_) | with_reducible apply sramPut_upd | with_reducible apply State.setReg_upd | with_reducible apply State.setFld_upd); try clear_value x) | (have h9 : (x : Peak) = x := rfl; clear h9) | (have h9 : (x : Saddle) = x := rfl; clear h9) | (have h9 : (x : Pair) = x := rfl; clear h9) | (have h9 : (x : Leg) = x := rfl; clear h9) | clear_value x | skip) | with_reducible refine Upd.forAll ?_ (fun _ _ _ => ?_) | with_reducible apply sramPut_upd | with_reducible apply State.setReg_upd | with_reducible apply State.setFld_upd

theorem resamplerOutput_upd {M0 : Nat} {s0 : State} {p : PeakId} {g : Nat} {s : State} (hU : Upd M0 s0 s) (hM : 248661426569231 ||| M0 = M0) : Upd M0 s0 (resamplerOutput p g s) := by
  refine Upd.step hU ?_ hM
  clear hU hM
  unfold resamplerOutput
  have h0 := Upd.refl 248661426569231 s
  repeat' first | with_reducible assumption | (guard_target =~ (_ ||| _ : Nat) = _; decide) | (fail_if_no_progress extract_lets +onlyGivenNames x; first | (have hx : Upd 248661426569231 s x := (by unfold x; repeat' first | with_reducible assumption | (guard_target =~ (_ ||| _ : Nat) = _; decide) | with_reducible apply Upd.ite | with_reducible refine Upd.forAll ?_ (fun _ _ _ => ?_) | with_reducible apply rsTake_upd | with_reducible refine Upd.when ?_ (fun _ _ => ?_) | with_reducible apply rsRecord_upd | with_reducible apply State.setRsg_upd | with_reducible apply talusUpdate_upd | split); try clear_value x) | (have hx : Upd 248661426569231 s x.2 := (by unfold x; repeat' first | with_reducible assumption | (guard_target =~ (_ ||| _ : Nat) = _; decide) | with_reducible apply Upd.ite | with_reducible refine Upd.forAll ?_ (fun _ _ _ => ?_) | with_reducible apply rsTake_upd | with_reducible refine Upd.when ?_ (fun _ _ => ?_) | with_reducible apply rsRecord_upd | with_reducible apply State.setRsg_upd | with_reducible apply talusUpdate_upd | split); try clear_value x) | (have h9 : (x : Peak) = x := rfl; clear h9) | (have h9 : (x : Saddle) = x := rfl; clear h9) | (have h9 : (x : Pair) = x := rfl; clear h9) | (have h9 : (x : Leg) = x := rfl; clear h9) | clear_value x | skip) | with_reducible apply Upd.ite | with_reducible refine Upd.forAll ?_ (fun _ _ _ => ?_) | with_reducible apply rsTake_upd | with_reducible refine Upd.when ?_ (fun _ _ => ?_) | with_reducible apply rsRecord_upd | with_reducible apply State.setRsg_upd | with_reducible apply talusUpdate_upd | split

theorem execResamplerOutputReady_upd (p : PeakId) (g : Fin 8) (s : State) {t : State} (hX : execResamplerOutputReady p g s = .next t) : Upd 248661426569231 s t := by
  unfold execResamplerOutputReady at hX
  cases hX
  have h0 := Upd.refl 248661426569231 s
  repeat' first | with_reducible assumption | (guard_target =~ (_ ||| _ : Nat) = _; decide) | with_reducible apply Upd.ite | with_reducible apply resamplerOutput_upd

end Sys2Proof.Machine
end

