-- ==== Sys2Proof/Laws/UpdRidgeline.lean ====
section
/-! SUPPORT. What each operation of Machine/Ridgeline.lean may change. -/

set_option linter.unusedTactic false
set_option linter.unreachableTactic false

namespace Sys2Proof.Machine

theorem State.setEng_upd {M0 : Nat} {s0 : State} {s : State} {p : PeakId} {e : Nat} {g : Eng} (hU : Upd M0 s0 s) (hM : 274877906944 ||| M0 = M0) : Upd M0 s0 (State.setEng s p e g) := by
  refine Upd.step hU ?_ hM
  clear hU hM
  unfold State.setEng
  have h0 := Upd.refl 274877906944 s
  repeat' first | with_reducible assumption | (guard_target =~ (_ ||| _ : Nat) = _; decide) | with_reducible refine Upd.setPeak ?_ ?_ | exact PeakUpd.refl _ _ | with_reducible apply PeakUpd.ite | with_reducible apply PeakUpd.lit | exact Or.inl (by decide) | exact Or.inr rfl

theorem State.setW_upd {M0 : Nat} {s0 : State} {s : State} {p : PeakId} {a : Nat} {v : Word} (hU : Upd M0 s0 s) (hM : 1 ||| M0 = M0) : Upd M0 s0 (State.setW s p a v) := by
  refine Upd.step hU ?_ hM
  clear hU hM
  unfold State.setW
  have h0 := Upd.refl 1 s
  repeat' first | with_reducible assumption | (guard_target =~ (_ ||| _ : Nat) = _; decide) | with_reducible apply State.setRegW_upd

theorem setMode_upd {M0 : Nat} {s0 : State} {p : PeakId} {e : Nat} {mode : Nat} {instant : Nat} {s : State} (hU : Upd M0 s0 s) (hM : 248523987615757 ||| M0 = M0) : Upd M0 s0 (setMode p e mode instant s) := by
  refine Upd.step hU ?_ hM
  clear hU hM
  unfold setMode
  have h0 := Upd.refl 248523987615757 s
  repeat' first | with_reducible assumption | (guard_target =~ (_ ||| _ : Nat) = _; decide) | (fail_if_no_progress extract_lets +onlyGivenNames x; first | (have hx : Upd 248523987615757 s x := (by unfold x; repeat' first | with_reducible assumption | (guard_target =~ (_ ||| _ : Nat) = _; decide) | with_reducible apply Upd.ite | with_reducible apply State.setFld_upd | with_reducible apply setBitOf_upd | with_reducible apply talusMode_upd | with_reducible apply fire_upd); try clear_value x) | (have h9 : (x : Peak) = x := rfl; clear h9) | (have h9 : (x : Saddle) = x := rfl; clear h9) | (have h9 : (x : Pair) = x := rfl; clear h9) | (have h9 : (x : Leg) = x := rfl; clear h9) | clear_value x | skip) | with_reducible apply Upd.ite | with_reducible apply State.setFld_upd | with_reducible apply setBitOf_upd | with_reducible apply talusMode_upd | with_reducible apply fire_upd

theorem armTransfer_upd {M0 : Nat} {s0 : State} {p : PeakId} {e : Nat} {fromFollow : Bool} {s : State} (hU : Upd M0 s0 s) (hM : 274877906944 ||| M0 = M0) : Upd M0 s0 (armTransfer p e fromFollow s) := by
  refine Upd.step hU ?_ hM
  clear hU hM
  unfold armTransfer
  have h0 := Upd.refl 274877906944 s
  repeat' first | with_reducible assumption | (guard_target =~ (_ ||| _ : Nat) = _; decide) | with_reducible apply State.setEng_upd

theorem changeMode_upd {M0 : Nat} {s0 : State} {p : PeakId} {e : Nat} {mode : Nat} {instant : Nat} {s : State} (hU : Upd M0 s0 s) (hM : 248798865522701 ||| M0 = M0) : Upd M0 s0 (changeMode p e mode instant s) := by
  refine Upd.step hU ?_ hM
  clear hU hM
  unfold changeMode
  have h0 := Upd.refl 248798865522701 s
  repeat' first | with_reducible assumption | (guard_target =~ (_ ||| _ : Nat) = _; decide) | (fail_if_no_progress extract_lets +onlyGivenNames x; first | (have hx : Upd 248798865522701 s x := (by unfold x; repeat' first | with_reducible assumption | (guard_target =~ (_ ||| _ : Nat) = _; decide) | with_reducible apply Upd.ite | with_reducible apply setMode_upd | with_reducible apply State.setEng_upd | with_reducible apply armTransfer_upd); try clear_value x) | (have h9 : (x : Peak) = x := rfl; clear h9) | (have h9 : (x : Saddle) = x := rfl; clear h9) | (have h9 : (x : Pair) = x := rfl; clear h9) | (have h9 : (x : Leg) = x := rfl; clear h9) | clear_value x | skip) | with_reducible apply Upd.ite | with_reducible apply setMode_upd | with_reducible apply State.setEng_upd | with_reducible apply armTransfer_upd

theorem rdgRefuse_upd {M0 : Nat} {s0 : State} {p : PeakId} {e : Nat} {code : Nat} {s : State} (hU : Upd M0 s0 s) (hM : 1 ||| M0 = M0) : Upd M0 s0 (rdgRefuse p e code s) := by
  refine Upd.step hU ?_ hM
  clear hU hM
  unfold rdgRefuse
  have h0 := Upd.refl 1 s
  repeat' first | with_reducible assumption | (guard_target =~ (_ ||| _ : Nat) = _; decide) | with_reducible apply State.raise_upd | with_reducible apply State.setFld_upd

theorem enterFault_upd {M0 : Nat} {s0 : State} {p : PeakId} {e : Nat} {instant : Nat} {s : State} (hU : Upd M0 s0 s) (hM : 248798865522701 ||| M0 = M0) : Upd M0 s0 (enterFault p e instant s) := by
  refine Upd.step hU ?_ hM
  clear hU hM
  unfold enterFault
  have h0 := Upd.refl 248798865522701 s
  repeat' first | with_reducible assumption | (guard_target =~ (_ ||| _ : Nat) = _; decide) | (fail_if_no_progress extract_lets +onlyGivenNames x; first | (have hx : Upd 248798865522701 s x := (by unfold x; repeat' first | with_reducible assumption | (guard_target =~ (_ ||| _ : Nat) = _; decide) | with_reducible apply Upd.ite | with_reducible apply State.setFld_upd | with_reducible apply State.bump_upd | with_reducible apply State.raise_upd | with_reducible apply State.setEng_upd | with_reducible apply changeMode_upd); try clear_value x) | (have h9 : (x : Peak) = x := rfl; clear h9) | (have h9 : (x : Saddle) = x := rfl; clear h9) | (have h9 : (x : Pair) = x := rfl; clear h9) | (have h9 : (x : Leg) = x := rfl; clear h9) | clear_value x | skip) | with_reducible apply Upd.ite | with_reducible apply State.setFld_upd | with_reducible apply State.bump_upd | with_reducible apply State.raise_upd | with_reducible apply State.setEng_upd | with_reducible apply changeMode_upd

theorem rdgCommand_upd {M0 : Nat} {s0 : State} {p : PeakId} {e : Nat} {c : Nat} {v1 : Word} {instant : Nat} {s : State} (hU : Upd M0 s0 s) (hM : 248798865522701 ||| M0 = M0) : Upd M0 s0 (rdgCommand p e c v1 instant s) := by
  refine Upd.step hU ?_ hM
  clear hU hM
  unfold rdgCommand
  have h0 := Upd.refl 248798865522701 s
  repeat' first | with_reducible assumption | (guard_target =~ (_ ||| _ : Nat) = _; decide) | (fail_if_no_progress extract_lets +onlyGivenNames x; first | (have hx : Upd 248798865522701 s x := (by unfold x; repeat' first | with_reducible assumption | (guard_target =~ (_ ||| _ : Nat) = _; decide) | with_reducible apply Upd.ite | with_reducible apply changeMode_upd | with_reducible apply State.setFld_upd | with_reducible apply rdgRefuse_upd | split); try clear_value x) | (have h9 : (x : Peak) = x := rfl; clear h9) | (have h9 : (x : Saddle) = x := rfl; clear h9) | (have h9 : (x : Pair) = x := rfl; clear h9) | (have h9 : (x : Leg) = x := rfl; clear h9) | clear_value x | skip) | with_reducible apply Upd.ite | with_reducible apply changeMode_upd | with_reducible apply State.setFld_upd | with_reducible apply rdgRefuse_upd | split

theorem rdgExamine_upd {M0 : Nat} {s0 : State} {p : PeakId} {e : Nat} {v1 : Word} {instant : Nat} {s : State} (hU : Upd M0 s0 s) (hM : 248798865522701 ||| M0 = M0) : Upd M0 s0 (rdgExamine p e v1 instant s) := by
  refine Upd.step hU ?_ hM
  clear hU hM
  unfold rdgExamine
  have h0 := Upd.refl 248798865522701 s
  repeat' first | with_reducible assumption | (guard_target =~ (_ ||| _ : Nat) = _; decide) | (fail_if_no_progress extract_lets +onlyGivenNames x; first | (have hx : Upd 248798865522701 s x := (by unfold x; repeat' first | with_reducible assumption | (guard_target =~ (_ ||| _ : Nat) = _; decide) | with_reducible apply Upd.ite | with_reducible apply State.setEng_upd | with_reducible apply rdgRefuse_upd | with_reducible apply changeMode_upd | with_reducible apply enterFault_upd | with_reducible apply rdgCommand_upd | split); try clear_value x) | (have h9 : (x : Peak) = x := rfl; clear h9) | (have h9 : (x : Saddle) = x := rfl; clear h9) | (have h9 : (x : Pair) = x := rfl; clear h9) | (have h9 : (x : Leg) = x := rfl; clear h9) | clear_value x | skip) | with_reducible apply Upd.ite | with_reducible apply State.setEng_upd | with_reducible apply rdgRefuse_upd | with_reducible apply changeMode_upd | with_reducible apply enterFault_upd | with_reducible apply rdgCommand_upd | split

theorem rdgMeasure_upd {M0 : Nat} {s0 : State} {p : PeakId} {e : Nat} {theta : BitVec 64} {ts : Word} {s : State} (hU : Upd M0 s0 s) (hM : 274877906945 ||| M0 = M0) : Upd M0 s0 (rdgMeasure p e theta ts s) := by
  refine Upd.step hU ?_ hM
  clear hU hM
  unfold rdgMeasure
  have h0 := Upd.refl 274877906945 s
  repeat' first | with_reducible assumption | (guard_target =~ (_ ||| _ : Nat) = _; decide) | (fail_if_no_progress extract_lets +onlyGivenNames x; first | (have hx : Upd 274877906945 s x := (by unfold x; repeat' first | with_reducible assumption | (guard_target =~ (_ ||| _ : Nat) = _; decide) | with_reducible apply State.setEng_upd | with_reducible apply State.setW_upd); try clear_value x) | (have hx : Upd 274877906945 s x.2 := (by unfold x; repeat' first | with_reducible assumption | (guard_target =~ (_ ||| _ : Nat) = _; decide) | with_reducible apply State.setEng_upd | with_reducible apply State.setW_upd); try clear_value x) | (have h9 : (x : Peak) = x := rfl; clear h9) | (have h9 : (x : Saddle) = x := rfl; clear h9) | (have h9 : (x : Pair) = x := rfl; clear h9) | (have h9 : (x : Leg) = x := rfl; clear h9) | clear_value x | skip) | with_reducible apply State.setEng_upd | with_reducible apply State.setW_upd

theorem rdgRestore_upd {M0 : Nat} {s0 : State} {p : PeakId} {e : Nat} {theta : BitVec 64} {tick : Nat} {ts : Word} {s : State} (hU : Upd M0 s0 s) (hM : 1 ||| M0 = M0) : Upd M0 s0 (rdgRestore p e theta tick ts s) := by
  refine Upd.step hU ?_ hM
  clear hU hM
  unfold rdgRestore
  have h0 := Upd.refl 1 s
  repeat' first | with_reducible assumption | (guard_target =~ (_ ||| _ : Nat) = _; decide) | (fail_if_no_progress extract_lets +onlyGivenNames x; first | (have hx : Upd 1 s x := (by unfold x; repeat' first | with_reducible assumption | (guard_target =~ (_ ||| _ : Nat) = _; decide) | with_reducible apply Upd.ite | with_reducible apply tick_upd | with_reducible apply State.setW_upd | with_reducible apply State.setBit_upd | with_reducible apply State.raise_upd); try clear_value x) | (have h9 : (x : Peak) = x := rfl; clear h9) | (have h9 : (x : Saddle) = x := rfl; clear h9) | (have h9 : (x : Pair) = x := rfl; clear h9) | (have h9 : (x : Leg) = x := rfl; clear h9) | clear_value x | skip) | with_reducible apply Upd.ite | with_reducible apply tick_upd | with_reducible apply State.setW_upd | with_reducible apply State.setBit_upd | with_reducible apply State.raise_upd

theorem rdgFrequency_upd {M0 : Nat} {s0 : State} {p : PeakId} {e : Nat} {ts : Word} {s : State} (hU : Upd M0 s0 s) (hM : 274877906945 ||| M0 = M0) : Upd M0 s0 (rdgFrequency p e ts s) := by
  refine Upd.step hU ?_ hM
  clear hU hM
  unfold rdgFrequency
  have h0 := Upd.refl 274877906945 s
  repeat' first | with_reducible assumption | (guard_target =~ (_ ||| _ : Nat) = _; decide) | (fail_if_no_progress extract_lets +onlyGivenNames x; first | (have hx : Upd 274877906945 s x := (by unfold x; repeat' first | with_reducible assumption | (guard_target =~ (_ ||| _ : Nat) = _; decide) | with_reducible apply Upd.ite | with_reducible apply State.raise_upd | with_reducible apply State.setEng_upd); try clear_value x) | (have h9 : (x : Peak) = x := rfl; clear h9) | (have h9 : (x : Saddle) = x := rfl; clear h9) | (have h9 : (x : Pair) = x := rfl; clear h9) | (have h9 : (x : Leg) = x := rfl; clear h9) | clear_value x | skip) | with_reducible apply Upd.ite | with_reducible apply State.raise_upd | with_reducible apply State.setEng_upd

theorem rdgEmf_upd {M0 : Nat} {s0 : State} {p : PeakId} {e : Nat} {ts : Word} {rv : Word} {xv : Word} {v1Last : Dq} {s : State} (hU : Upd M0 s0 s) (hM : 274877906945 ||| M0 = M0) : Upd M0 s0 (rdgEmf p e ts rv xv v1Last s) := by
  refine Upd.step hU ?_ hM
  clear hU hM
  unfold rdgEmf
  have h0 := Upd.refl 274877906945 s
  repeat' first | with_reducible assumption | (guard_target =~ (_ ||| _ : Nat) = _; decide) | (fail_if_no_progress extract_lets +onlyGivenNames x; first | (have hx : Upd 274877906945 s x := (by unfold x; repeat' first | with_reducible assumption | (guard_target =~ (_ ||| _ : Nat) = _; decide) | with_reducible apply Upd.ite | with_reducible apply State.setEng_upd | with_reducible apply State.setBit_upd | with_reducible apply State.setW_upd); try clear_value x) | (have h9 : (x : Peak) = x := rfl; clear h9) | (have h9 : (x : Saddle) = x := rfl; clear h9) | (have h9 : (x : Pair) = x := rfl; clear h9) | (have h9 : (x : Leg) = x := rfl; clear h9) | clear_value x | skip) | with_reducible apply Upd.ite | with_reducible apply State.setEng_upd | with_reducible apply State.setBit_upd | with_reducible apply State.setW_upd

theorem rdgOutputs_upd {M0 : Nat} {s0 : State} {p : PeakId} {e : Nat} {theta : BitVec 64} {rv : Word} {xv : Word} {s : State} (hU : Upd M0 s0 s) (hM : 248798865522701 ||| M0 = M0) : Upd M0 s0 (rdgOutputs p e theta rv xv s) := by
  refine Upd.step hU ?_ hM
  clear hU hM
  unfold rdgOutputs
  have h0 := Upd.refl 248798865522701 s
  repeat' first | with_reducible assumption | (guard_target =~ (_ ||| _ : Nat) = _; decide) | (fail_if_no_progress extract_lets +onlyGivenNames x; first | (have hx : Upd 248798865522701 s x := (by unfold x; repeat' first | with_reducible assumption | (guard_target =~ (_ ||| _ : Nat) = _; decide) | with_reducible apply Upd.ite | with_reducible apply State.setBit_upd | with_reducible apply State.setEng_upd | with_reducible apply State.setW_upd | with_reducible apply fire_upd); try clear_value x) | (have h9 : (x : Peak) = x := rfl; clear h9) | (have h9 : (x : Saddle) = x := rfl; clear h9) | (have h9 : (x : Pair) = x := rfl; clear h9) | (have h9 : (x : Leg) = x := rfl; clear h9) | clear_value x | skip) | with_reducible apply Upd.ite | with_reducible apply State.setBit_upd | with_reducible apply State.setEng_upd | with_reducible apply State.setW_upd | with_reducible apply fire_upd

theorem rdgTransitions_upd {M0 : Nat} {s0 : State} {p : PeakId} {e : Nat} {ts : Word} {instant : Nat} {s : State} (hU : Upd M0 s0 s) (hM : 248798865522701 ||| M0 = M0) : Upd M0 s0 (rdgTransitions p e ts instant s) := by
  refine Upd.step hU ?_ hM
  clear hU hM
  unfold rdgTransitions
  have h0 := Upd.refl 248798865522701 s
  repeat' first | with_reducible assumption | (guard_target =~ (_ ||| _ : Nat) = _; decide) | with_reducible apply h90 | with_reducible apply h91 | with_reducible apply h92 | with_reducible apply h93 | with_reducible apply h94 | (fail_if_no_progress extract_lets +onlyGivenNames x; first | (have hx : Upd 248798865522701 s x := (by unfold x; repeat' first | with_reducible assumption | (guard_target =~ (_ ||| _ : Nat) = _; decide) | with_reducible apply h90 | with_reducible apply h91 | with_reducible apply h92 | with_reducible apply h93 | with_reducible apply h94 | with_reducible apply Upd.ite | with_reducible apply changeMode_upd | with_reducible apply State.setEng_upd | with_reducible apply enterFault_upd); try clear_value x) | (have h9 : (x : Peak) = x := rfl; clear h9) | (have h9 : (x : Saddle) = x := rfl; clear h9) | (have h9 : (x : Pair) = x := rfl; clear h9) | (have h9 : (x : Leg) = x := rfl; clear h9) | (have h90 : ∀  t, Upd 248798865522701 s t → Upd 248798865522701 s (x  t) := (by intro  t ht; unfold x; repeat' first | with_reducible assumption | (guard_target =~ (_ ||| _ : Nat) = _; decide) | with_reducible apply h90 | with_reducible apply h91 | with_reducible apply h92 | with_reducible apply h93 | with_reducible apply h94 | with_reducible apply Upd.ite | with_reducible apply changeMode_upd | with_reducible apply State.setEng_upd | with_reducible apply enterFault_upd); try clear_value x) | (have h91 : ∀ a0 t, Upd 248798865522701 s t → Upd 248798865522701 s (x a0 t) := (by intro a0 t ht; unfold x; repeat' first | with_reducible assumption | (guard_target =~ (_ ||| _ : Nat) = _; decide) | with_reducible apply h90 | with_reducible apply h91 | with_reducible apply h92 | with_reducible apply h93 | with_reducible apply h94 | with_reducible apply Upd.ite | with_reducible apply changeMode_upd | with_reducible apply State.setEng_upd | with_reducible apply enterFault_upd); try clear_value x) | (have h92 : ∀ a0 a1 t, Upd 248798865522701 s t → Upd 248798865522701 s (x a0 a1 t) := (by intro a0 a1 t ht; unfold x; repeat' first | with_reducible assumption | (guard_target =~ (_ ||| _ : Nat) = _; decide) | with_reducible apply h90 | with_reducible apply h91 | with_reducible apply h92 | with_reducible apply h93 | with_reducible apply h94 | with_reducible apply Upd.ite | with_reducible apply changeMode_upd | with_reducible apply State.setEng_upd | with_reducible apply enterFault_upd); try clear_value x) | (have h93 : ∀ a0 a1 a2 t, Upd 248798865522701 s t → Upd 248798865522701 s (x a0 a1 a2 t) := (by intro a0 a1 a2 t ht; unfold x; repeat' first | with_reducible assumption | (guard_target =~ (_ ||| _ : Nat) = _; decide) | with_reducible apply h90 | with_reducible apply h91 | with_reducible apply h92 | with_reducible apply h93 | with_reducible apply h94 | with_reducible apply Upd.ite | with_reducible apply changeMode_upd | with_reducible apply State.setEng_upd | with_reducible apply enterFault_upd); try clear_value x) | (have h94 : ∀ a0 a1 a2 a3 t, Upd 248798865522701 s t → Upd 248798865522701 s (x a0 a1 a2 a3 t) := (by intro a0 a1 a2 a3 t ht; unfold x; repeat' first | with_reducible assumption | (guard_target =~ (_ ||| _ : Nat) = _; decide) | with_reducible apply h90 | with_reducible apply h91 | with_reducible apply h92 | with_reducible apply h93 | with_reducible apply h94 | with_reducible apply Upd.ite | with_reducible apply changeMode_upd | with_reducible apply State.setEng_upd | with_reducible apply enterFault_upd); try clear_value x) | clear_value x | skip) | with_reducible apply Upd.ite | with_reducible apply changeMode_upd | with_reducible apply State.setEng_upd | with_reducible apply enterFault_upd

theorem rdgCompute_upd {M0 : Nat} {s0 : State} {p : PeakId} {e : Nat} {s : State} (hU : Upd M0 s0 s) (hM : 248936304476173 ||| M0 = M0) : Upd M0 s0 (rdgCompute p e s) := by
  refine Upd.step hU ?_ hM
  clear hU hM
  unfold rdgCompute
  have h0 := Upd.refl 248936304476173 s
  repeat' first | with_reducible assumption | (guard_target =~ (_ ||| _ : Nat) = _; decide) | (fail_if_no_progress extract_lets +onlyGivenNames x; first | (have hx : Upd 248936304476173 s x := (by unfold x; repeat' first | with_reducible assumption | (guard_target =~ (_ ||| _ : Nat) = _; decide) | with_reducible apply State.setReg_upd | with_reducible apply State.setFld_upd | with_reducible apply rdgMeasure_upd | with_reducible apply rdgExamine_upd | with_reducible apply rdgRestore_upd | with_reducible apply rdgFrequency_upd | with_reducible apply rdgEmf_upd | with_reducible apply rdgOutputs_upd | with_reducible apply rdgTransitions_upd | with_reducible apply State.setEng_upd | with_reducible apply State.setW_upd | with_reducible apply rsPublish_upd); try clear_value x) | (have h9 : (x : Peak) = x := rfl; clear h9) | (have h9 : (x : Saddle) = x := rfl; clear h9) | (have h9 : (x : Pair) = x := rfl; clear h9) | (have h9 : (x : Leg) = x := rfl; clear h9) | clear_value x | skip) | with_reducible apply State.setReg_upd | with_reducible apply State.setFld_upd | with_reducible apply rdgMeasure_upd | with_reducible apply rdgExamine_upd | with_reducible apply rdgRestore_upd | with_reducible apply rdgFrequency_upd | with_reducible apply rdgEmf_upd | with_reducible apply rdgOutputs_upd | with_reducible apply rdgTransitions_upd | with_reducible apply State.setEng_upd | with_reducible apply State.setW_upd | with_reducible apply rsPublish_upd

theorem rdgWhole_upd {M0 : Nat} {s0 : State} {p : PeakId} {e : Nat} {s : State} (hU : Upd M0 s0 s) (hM : 248936304476173 ||| M0 = M0) : Upd M0 s0 (rdgWhole p e s) := by
  refine Upd.step hU ?_ hM
  clear hU hM
  unfold rdgWhole
  have h0 := Upd.refl 248936304476173 s
  repeat' first | with_reducible assumption | (guard_target =~ (_ ||| _ : Nat) = _; decide) | (fail_if_no_progress extract_lets +onlyGivenNames x; first | (have hx : Upd 248936304476173 s x := (by unfold x; repeat' first | with_reducible assumption | (guard_target =~ (_ ||| _ : Nat) = _; decide) | with_reducible apply Upd.ite | with_reducible apply rdgCompute_upd | with_reducible apply State.setEng_upd | with_reducible apply rdgCommand_upd | split); try clear_value x) | (have h9 : (x : Peak) = x := rfl; clear h9) | (have h9 : (x : Saddle) = x := rfl; clear h9) | (have h9 : (x : Pair) = x := rfl; clear h9) | (have h9 : (x : Leg) = x := rfl; clear h9) | clear_value x | skip) | with_reducible apply Upd.ite | with_reducible apply rdgCompute_upd | with_reducible apply State.setEng_upd | with_reducible apply rdgCommand_upd | split

theorem rdgStart_upd {M0 : Nat} {s0 : State} {p : PeakId} {e : Nat} {due : Nat} {s : State} (hU : Upd M0 s0 s) (hM : 274877906944 ||| M0 = M0) : Upd M0 s0 (rdgStart p e due s) := by
  refine Upd.step hU ?_ hM
  clear hU hM
  unfold rdgStart
  have h0 := Upd.refl 274877906944 s
  repeat' first | with_reducible assumption | (guard_target =~ (_ ||| _ : Nat) = _; decide) | (fail_if_no_progress extract_lets +onlyGivenNames x; first | (have hx : Upd 274877906944 s x := (by unfold x; repeat' first | with_reducible assumption | (guard_target =~ (_ ||| _ : Nat) = _; decide) | with_reducible apply State.setEng_upd); try clear_value x) | (have h9 : (x : Peak) = x := rfl; clear h9) | (have h9 : (x : Saddle) = x := rfl; clear h9) | (have h9 : (x : Pair) = x := rfl; clear h9) | (have h9 : (x : Leg) = x := rfl; clear h9) | clear_value x | skip) | with_reducible apply State.setEng_upd

theorem rdgPut_upd {M0 : Nat} {s0 : State} {p : PeakId} {e : Nat} {off : Nat} {v : Word} {s : State} (hU : Upd M0 s0 s) (hM : 274877906945 ||| M0 = M0) : Upd M0 s0 (rdgPut p e off v s) := by
  refine Upd.step hU ?_ hM
  clear hU hM
  unfold rdgPut
  have h0 := Upd.refl 274877906945 s
  repeat' first | with_reducible assumption | (guard_target =~ (_ ||| _ : Nat) = _; decide) | (fail_if_no_progress extract_lets +onlyGivenNames x; first | (have hx : Upd 274877906945 s x := (by unfold x; repeat' first | with_reducible assumption | (guard_target =~ (_ ||| _ : Nat) = _; decide) | with_reducible apply Upd.ite | with_reducible apply State.setW_upd | with_reducible apply State.setEng_upd | split); try clear_value x) | (have h9 : (x : Peak) = x := rfl; clear h9) | (have h9 : (x : Saddle) = x := rfl; clear h9) | (have h9 : (x : Pair) = x := rfl; clear h9) | (have h9 : (x : Leg) = x := rfl; clear h9) | clear_value x | skip) | with_reducible apply Upd.ite | with_reducible apply State.setW_upd | with_reducible apply State.setEng_upd | split

theorem rdgLateView_upd {M0 : Nat} {s0 : State} {p : PeakId} {e : Nat} {s : State} (hU : Upd M0 s0 s) (hM : 1 ||| M0 = M0) : Upd M0 s0 (rdgLateView p e s) := by
  refine Upd.step hU ?_ hM
  clear hU hM
  unfold rdgLateView
  have h0 := Upd.refl 1 s
  repeat' first | with_reducible assumption | (guard_target =~ (_ ||| _ : Nat) = _; decide) | with_reducible refine Upd.forAll ?_ (fun _ _ _ => ?_) | with_reducible apply State.setW_upd

theorem rdgWrite_upd {M0 : Nat} {s0 : State} {p : PeakId} {e : Nat} {off : Nat} {v : Word} {s : State} (hU : Upd M0 s0 s) (hM : 274877906945 ||| M0 = M0) : Upd M0 s0 (rdgWrite p e off v s) := by
  refine Upd.step hU ?_ hM
  clear hU hM
  unfold rdgWrite
  have h0 := Upd.refl 274877906945 s
  repeat' first | with_reducible assumption | (guard_target =~ (_ ||| _ : Nat) = _; decide) | with_reducible apply Upd.ite | with_reducible apply State.setW_upd | with_reducible apply State.raise_upd | with_reducible apply rdgLateView_upd | with_reducible apply State.setEng_upd | with_reducible apply rdgPut_upd

theorem rdgStep_upd {M0 : Nat} {s0 : State} {p : PeakId} {e : Nat} {s : State} (hU : Upd M0 s0 s) (hM : 248936304476173 ||| M0 = M0) : Upd M0 s0 (rdgStep p e s) := by
  refine Upd.step hU ?_ hM
  clear hU hM
  unfold rdgStep
  have h0 := Upd.refl 248936304476173 s
  repeat' first | with_reducible assumption | (guard_target =~ (_ ||| _ : Nat) = _; decide) | (fail_if_no_progress extract_lets +onlyGivenNames x; first | (have hx : Upd 248936304476173 s x := (by unfold x; repeat' first | with_reducible assumption | (guard_target =~ (_ ||| _ : Nat) = _; decide) | with_reducible apply Upd.ite | with_reducible apply State.setEng_upd | with_reducible apply State.raise_upd | with_reducible apply State.setFld_upd | with_reducible apply rdgWhole_upd | with_reducible refine Upd.forAll ?_ (fun _ _ _ => ?_) | with_reducible apply rdgPut_upd); try clear_value x) | (have hx : Upd 248936304476173 s x.2 := (by unfold x; repeat' first | with_reducible assumption | (guard_target =~ (_ ||| _ : Nat) = _; decide) | with_reducible apply Upd.ite | with_reducible apply State.setEng_upd | with_reducible apply State.raise_upd | with_reducible apply State.setFld_upd | with_reducible apply rdgWhole_upd | with_reducible refine Upd.forAll ?_ (fun _ _ _ => ?_) | with_reducible apply rdgPut_upd); try clear_value x) | (have h9 : (x : Peak) = x := rfl; clear h9) | (have h9 : (x : Saddle) = x := rfl; clear h9) | (have h9 : (x : Pair) = x := rfl; clear h9) | (have h9 : (x : Leg) = x := rfl; clear h9) | clear_value x | skip) | with_reducible apply Upd.ite | with_reducible apply State.setEng_upd | with_reducible apply State.raise_upd | with_reducible apply State.setFld_upd | with_reducible apply rdgWhole_upd | with_reducible refine Upd.forAll ?_ (fun _ _ _ => ?_) | with_reducible apply rdgPut_upd

theorem rdgWrap_upd {M0 : Nat} {s0 : State} {tb : Nat} {closing : Bool} {s : State} (hU : Upd M0 s0 s) (hM : 274877906945 ||| M0 = M0) : Upd M0 s0 (rdgWrap tb closing s) := by
  refine Upd.step hU ?_ hM
  clear hU hM
  unfold rdgWrap
  have h0 := Upd.refl 274877906945 s
  repeat' first | with_reducible assumption | (guard_target =~ (_ ||| _ : Nat) = _; decide) | (fail_if_no_progress extract_lets +onlyGivenNames x; first | (have hx : Upd 274877906945 s x := (by unfold x; repeat' first | with_reducible assumption | (guard_target =~ (_ ||| _ : Nat) = _; decide) | with_reducible apply Upd.ite | with_reducible refine Upd.bothPeaks ?_ (fun _ _ _ => ?_) | with_reducible refine Upd.forAll ?_ (fun _ _ _ => ?_) | with_reducible apply State.setEng_upd | with_reducible apply State.bump_upd | with_reducible apply State.raise_upd); try clear_value x) | (have h9 : (x : Peak) = x := rfl; clear h9) | (have h9 : (x : Saddle) = x := rfl; clear h9) | (have h9 : (x : Pair) = x := rfl; clear h9) | (have h9 : (x : Leg) = x := rfl; clear h9) | clear_value x | skip) | with_reducible apply Upd.ite | with_reducible refine Upd.bothPeaks ?_ (fun _ _ _ => ?_) | with_reducible refine Upd.forAll ?_ (fun _ _ _ => ?_) | with_reducible apply State.setEng_upd | with_reducible apply State.bump_upd | with_reducible apply State.raise_upd

theorem throttleDeliver_upd {M0 : Nat} {s0 : State} {scale : Nat} {p : PeakId} {s : State} (hU : Upd M0 s0 s) (hM : 274877906945 ||| M0 = M0) : Upd M0 s0 (throttleDeliver scale p s) := by
  refine Upd.step hU ?_ hM
  clear hU hM
  unfold throttleDeliver
  have h0 := Upd.refl 274877906945 s
  repeat' first | with_reducible assumption | (guard_target =~ (_ ||| _ : Nat) = _; decide) | with_reducible apply Upd.ite | with_reducible refine Upd.forAll ?_ (fun _ _ _ => ?_) | with_reducible apply State.setEng_upd | with_reducible apply State.setFld_upd

theorem execRidgelineStep_upd (p : PeakId) (e : Fin 8) (s : State) {t : State} (hX : execRidgelineStep p e s = .next t) : Upd 248936304476173 s t := by
  unfold execRidgelineStep at hX
  cases hX
  have h0 := Upd.refl 248936304476173 s
  repeat' first | with_reducible assumption | (guard_target =~ (_ ||| _ : Nat) = _; decide) | with_reducible apply Upd.ite | with_reducible apply rdgStep_upd

theorem rdgCmd_upd {M0 : Nat} {s0 : State} {m : Master} {e : Nat} {c : Nat} {s : State} (hU : Upd M0 s0 s) (hM : 274877906945 ||| M0 = M0) : Upd M0 s0 (rdgCmd m e c s) := by
  refine Upd.step hU ?_ hM
  clear hU hM
  unfold rdgCmd
  have h0 := Upd.refl 274877906945 s
  repeat' first | with_reducible assumption | (guard_target =~ (_ ||| _ : Nat) = _; decide) | with_reducible apply Upd.ite | with_reducible apply rdgWrite_upd

theorem execRdgCmdOff_upd (m : Master) (e : Fin 8) (s : State) {t : State} (hX : execRdgCmdOff m e s = .next t) : Upd 274877906945 s t := by
  unfold execRdgCmdOff at hX
  cases hX
  have h0 := Upd.refl 274877906945 s
  repeat' first | with_reducible assumption | (guard_target =~ (_ ||| _ : Nat) = _; decide) | with_reducible apply rdgCmd_upd

theorem execRdgCmdFollow_upd (m : Master) (e : Fin 8) (s : State) {t : State} (hX : execRdgCmdFollow m e s = .next t) : Upd 274877906945 s t := by
  unfold execRdgCmdFollow at hX
  cases hX
  have h0 := Upd.refl 274877906945 s
  repeat' first | with_reducible assumption | (guard_target =~ (_ ||| _ : Nat) = _; decide) | with_reducible apply rdgCmd_upd

theorem execRdgCmdForm_upd (m : Master) (e : Fin 8) (s : State) {t : State} (hX : execRdgCmdForm m e s = .next t) : Upd 274877906945 s t := by
  unfold execRdgCmdForm at hX
  cases hX
  have h0 := Upd.refl 274877906945 s
  repeat' first | with_reducible assumption | (guard_target =~ (_ ||| _ : Nat) = _; decide) | with_reducible apply rdgCmd_upd

theorem execRdgCmdIsland_upd (m : Master) (e : Fin 8) (s : State) {t : State} (hX : execRdgCmdIsland m e s = .next t) : Upd 274877906945 s t := by
  unfold execRdgCmdIsland at hX
  cases hX
  have h0 := Upd.refl 274877906945 s
  repeat' first | with_reducible assumption | (guard_target =~ (_ ||| _ : Nat) = _; decide) | with_reducible apply rdgCmd_upd

theorem execRdgCmdBlackStart_upd (m : Master) (e : Fin 8) (s : State) {t : State} (hX : execRdgCmdBlackStart m e s = .next t) : Upd 274877906945 s t := by
  unfold execRdgCmdBlackStart at hX
  cases hX
  have h0 := Upd.refl 274877906945 s
  repeat' first | with_reducible assumption | (guard_target =~ (_ ||| _ : Nat) = _; decide) | with_reducible apply rdgCmd_upd

theorem execBlackStartBegin_upd (p : PeakId) (e : Fin 8) (s : State) {t : State} (hX : execBlackStartBegin p e s = .next t) : Upd 274877906945 s t := by
  unfold execBlackStartBegin at hX
  cases hX
  have h0 := Upd.refl 274877906945 s
  repeat' first | with_reducible assumption | (guard_target =~ (_ ||| _ : Nat) = _; decide) | (fail_if_no_progress extract_lets +onlyGivenNames x; first | (have hx : Upd 274877906945 s x := (by unfold x; repeat' first | with_reducible assumption | (guard_target =~ (_ ||| _ : Nat) = _; decide) | with_reducible apply Upd.ite | with_reducible apply State.setEng_upd | with_reducible apply State.setFld_upd); try clear_value x) | (have h9 : (x : Peak) = x := rfl; clear h9) | (have h9 : (x : Saddle) = x := rfl; clear h9) | (have h9 : (x : Pair) = x := rfl; clear h9) | (have h9 : (x : Leg) = x := rfl; clear h9) | clear_value x | skip) | with_reducible apply Upd.ite | with_reducible apply State.setEng_upd | with_reducible apply State.setFld_upd

theorem execKeeperSet_upd (m : Master) (e : Fin 8) (val : Word) (s : State) {t : State} (hX : execKeeperSet m e val s = .next t) : Upd 274877906945 s t := by
  unfold execKeeperSet at hX
  cases hX
  have h0 := Upd.refl 274877906945 s
  repeat' first | with_reducible assumption | (guard_target =~ (_ ||| _ : Nat) = _; decide) | with_reducible apply Upd.ite | with_reducible apply rdgWrite_upd

end Sys2Proof.Machine
end

