-- ==== Sys2Proof/Laws/UpdSwitchback.lean ====
section
/-! SUPPORT. What each operation of Machine/Switchback.lean may change. -/

set_option linter.unusedTactic false
set_option linter.unreachableTactic false

namespace Sys2Proof.Machine

theorem State.setLoop_upd {M0 : Nat} {s0 : State} {s : State} {p : PeakId} {m : Nat} {l : Loop} (hU : Upd M0 s0 s) (hM : 549755813888 ||| M0 = M0) : Upd M0 s0 (State.setLoop s p m l) := by
  refine Upd.step hU ?_ hM
  clear hU hM
  unfold State.setLoop
  have h0 := Upd.refl 549755813888 s
  repeat' first | with_reducible assumption | (guard_target =~ (_ ||| _ : Nat) = _; decide) | with_reducible refine Upd.setPeak ?_ ?_ | exact PeakUpd.refl _ _ | with_reducible apply PeakUpd.ite | with_reducible apply PeakUpd.lit | exact Or.inl (by decide) | exact Or.inr rfl

theorem State.setTg_upd {M0 : Nat} {s0 : State} {s : State} {p : PeakId} {g : Nat} {t : Tg} (hU : Upd M0 s0 s) (hM : 1099511627776 ||| M0 = M0) : Upd M0 s0 (State.setTg s p g t) := by
  refine Upd.step hU ?_ hM
  clear hU hM
  unfold State.setTg
  have h0 := Upd.refl 1099511627776 s
  repeat' first | with_reducible assumption | (guard_target =~ (_ ||| _ : Nat) = _; decide) | with_reducible refine Upd.setPeak ?_ ?_ | exact PeakUpd.refl _ _ | with_reducible apply PeakUpd.ite | with_reducible apply PeakUpd.lit | exact Or.inl (by decide) | exact Or.inr rfl

theorem setLoHi_upd {M0 : Nat} {s0 : State} {p : PeakId} {lo : Nat} {hi : Nat} {m : Nat} {v : Bool} {s : State} (hU : Upd M0 s0 s) (hM : 1 ||| M0 = M0) : Upd M0 s0 (setLoHi p lo hi m v s) := by
  refine Upd.step hU ?_ hM
  clear hU hM
  unfold setLoHi
  have h0 := Upd.refl 1 s
  repeat' first | with_reducible assumption | (guard_target =~ (_ ||| _ : Nat) = _; decide) | with_reducible apply Upd.ite | with_reducible apply setBitOf_upd

theorem tgEnd_upd {M0 : Nat} {s0 : State} {p : PeakId} {g : Nat} {abort : Nat} {s : State} (hU : Upd M0 s0 s) (hM : 248523987615757 ||| M0 = M0) : Upd M0 s0 (tgEnd p g abort s) := by
  refine Upd.step hU ?_ hM
  clear hU hM
  unfold tgEnd
  have h0 := Upd.refl 248523987615757 s
  repeat' first | with_reducible assumption | (guard_target =~ (_ ||| _ : Nat) = _; decide) | (fail_if_no_progress extract_lets +onlyGivenNames x; first | (have hx : Upd 248523987615757 s x := (by unfold x; repeat' first | with_reducible assumption | (guard_target =~ (_ ||| _ : Nat) = _; decide) | with_reducible apply Upd.ite | with_reducible apply State.setFld_upd | with_reducible apply fire_upd); try clear_value x) | (have h9 : (x : Peak) = x := rfl; clear h9) | (have h9 : (x : Saddle) = x := rfl; clear h9) | (have h9 : (x : Pair) = x := rfl; clear h9) | (have h9 : (x : Leg) = x := rfl; clear h9) | clear_value x | skip) | with_reducible apply Upd.ite | with_reducible apply State.setFld_upd | with_reducible apply fire_upd

theorem loopAbort_upd {M0 : Nat} {s0 : State} {p : PeakId} {m : Nat} {code : Nat} {s : State} (hU : Upd M0 s0 s) (hM : 248523987615757 ||| M0 = M0) : Upd M0 s0 (loopAbort p m code s) := by
  refine Upd.step hU ?_ hM
  clear hU hM
  unfold loopAbort
  have h0 := Upd.refl 248523987615757 s
  repeat' first | with_reducible assumption | (guard_target =~ (_ ||| _ : Nat) = _; decide) | with_reducible apply tgEnd_upd | split

theorem tgRefuse_upd {M0 : Nat} {s0 : State} {p : PeakId} {g : Nat} {code : Nat} {s : State} (hU : Upd M0 s0 s) (hM : 1 ||| M0 = M0) : Upd M0 s0 (tgRefuse p g code s) := by
  refine Upd.step hU ?_ hM
  clear hU hM
  unfold tgRefuse
  have h0 := Upd.refl 1 s
  repeat' first | with_reducible assumption | (guard_target =~ (_ ||| _ : Nat) = _; decide) | with_reducible apply State.raise_upd | with_reducible apply State.setFld_upd

theorem tgStart_upd {M0 : Nat} {s0 : State} {p : PeakId} {g : Nat} {s : State} (hU : Upd M0 s0 s) (hM : 1099511627777 ||| M0 = M0) : Upd M0 s0 (tgStart p g s) := by
  refine Upd.step hU ?_ hM
  clear hU hM
  unfold tgStart
  have h0 := Upd.refl 1099511627777 s
  repeat' first | with_reducible assumption | (guard_target =~ (_ ||| _ : Nat) = _; decide) | (fail_if_no_progress extract_lets +onlyGivenNames x; first | (have hx : Upd 1099511627777 s x := (by unfold x; repeat' first | with_reducible assumption | (guard_target =~ (_ ||| _ : Nat) = _; decide) | with_reducible apply Upd.ite | with_reducible apply tgRefuse_upd | with_reducible apply State.setTg_upd | with_reducible apply State.setFld_upd | with_reducible apply State.setReg_upd); try clear_value x) | (have h9 : (x : Peak) = x := rfl; clear h9) | (have h9 : (x : Saddle) = x := rfl; clear h9) | (have h9 : (x : Pair) = x := rfl; clear h9) | (have h9 : (x : Leg) = x := rfl; clear h9) | clear_value x | skip) | with_reducible apply Upd.ite | with_reducible apply tgRefuse_upd | with_reducible apply State.setTg_upd | with_reducible apply State.setFld_upd | with_reducible apply State.setReg_upd

theorem tgStop_upd {M0 : Nat} {s0 : State} {p : PeakId} {g : Nat} {s : State} (hU : Upd M0 s0 s) (hM : 248523987615757 ||| M0 = M0) : Upd M0 s0 (tgStop p g s) := by
  refine Upd.step hU ?_ hM
  clear hU hM
  unfold tgStop
  have h0 := Upd.refl 248523987615757 s
  repeat' first | with_reducible assumption | (guard_target =~ (_ ||| _ : Nat) = _; decide) | with_reducible apply Upd.ite | with_reducible apply tgEnd_upd

theorem tgAfter_upd {M0 : Nat} {s0 : State} {p : PeakId} {m : Nat} {g : Nat} {inj : Word} {t : Tg} {s : State} (hU : Upd M0 s0 s) (hM : 249623499243535 ||| M0 = M0) : Upd M0 s0 (tgAfter p m g inj t s) := by
  refine Upd.step hU ?_ hM
  clear hU hM
  unfold tgAfter
  have h0 := Upd.refl 249623499243535 s
  repeat' first | with_reducible assumption | (guard_target =~ (_ ||| _ : Nat) = _; decide) | with_reducible apply h90 | with_reducible apply h91 | with_reducible apply h92 | with_reducible apply h93 | with_reducible apply h94 | (fail_if_no_progress extract_lets +onlyGivenNames x; first | (have hx : Upd 249623499243535 s x := (by unfold x; repeat' first | with_reducible assumption | (guard_target =~ (_ ||| _ : Nat) = _; decide) | with_reducible apply h90 | with_reducible apply h91 | with_reducible apply h92 | with_reducible apply h93 | with_reducible apply h94 | with_reducible apply Upd.ite | with_reducible apply sramPuts_upd | with_reducible apply State.setReg_upd | with_reducible apply State.setTg_upd | with_reducible apply State.setW_upd | with_reducible apply tgEnd_upd); try clear_value x) | (have h9 : (x : Peak) = x := rfl; clear h9) | (have h9 : (x : Saddle) = x := rfl; clear h9) | (have h9 : (x : Pair) = x := rfl; clear h9) | (have h9 : (x : Leg) = x := rfl; clear h9) | (have h90 : ∀  t, Upd 249623499243535 s t → Upd 249623499243535 s (x  t) := (by intro  t ht; unfold x; repeat' first | with_reducible assumption | (guard_target =~ (_ ||| _ : Nat) = _; decide) | with_reducible apply h90 | with_reducible apply h91 | with_reducible apply h92 | with_reducible apply h93 | with_reducible apply h94 | with_reducible apply Upd.ite | with_reducible apply sramPuts_upd | with_reducible apply State.setReg_upd | with_reducible apply State.setTg_upd | with_reducible apply State.setW_upd | with_reducible apply tgEnd_upd); try clear_value x) | (have h91 : ∀ a0 t, Upd 249623499243535 s t → Upd 249623499243535 s (x a0 t) := (by intro a0 t ht; unfold x; repeat' first | with_reducible assumption | (guard_target =~ (_ ||| _ : Nat) = _; decide) | with_reducible apply h90 | with_reducible apply h91 | with_reducible apply h92 | with_reducible apply h93 | with_reducible apply h94 | with_reducible apply Upd.ite | with_reducible apply sramPuts_upd | with_reducible apply State.setReg_upd | with_reducible apply State.setTg_upd | with_reducible apply State.setW_upd | with_reducible apply tgEnd_upd); try clear_value x) | (have h92 : ∀ a0 a1 t, Upd 249623499243535 s t → Upd 249623499243535 s (x a0 a1 t) := (by intro a0 a1 t ht; unfold x; repeat' first | with_reducible assumption | (guard_target =~ (_ ||| _ : Nat) = _; decide) | with_reducible apply h90 | with_reducible apply h91 | with_reducible apply h92 | with_reducible apply h93 | with_reducible apply h94 | with_reducible apply Upd.ite | with_reducible apply sramPuts_upd | with_reducible apply State.setReg_upd | with_reducible apply State.setTg_upd | with_reducible apply State.setW_upd | with_reducible apply tgEnd_upd); try clear_value x) | (have h93 : ∀ a0 a1 a2 t, Upd 249623499243535 s t → Upd 249623499243535 s (x a0 a1 a2 t) := (by intro a0 a1 a2 t ht; unfold x; repeat' first | with_reducible assumption | (guard_target =~ (_ ||| _ : Nat) = _; decide) | with_reducible apply h90 | with_reducible apply h91 | with_reducible apply h92 | with_reducible apply h93 | with_reducible apply h94 | with_reducible apply Upd.ite | with_reducible apply sramPuts_upd | with_reducible apply State.setReg_upd | with_reducible apply State.setTg_upd | with_reducible apply State.setW_upd | with_reducible apply tgEnd_upd); try clear_value x) | (have h94 : ∀ a0 a1 a2 a3 t, Upd 249623499243535 s t → Upd 249623499243535 s (x a0 a1 a2 a3 t) := (by intro a0 a1 a2 a3 t ht; unfold x; repeat' first | with_reducible assumption | (guard_target =~ (_ ||| _ : Nat) = _; decide) | with_reducible apply h90 | with_reducible apply h91 | with_reducible apply h92 | with_reducible apply h93 | with_reducible apply h94 | with_reducible apply Upd.ite | with_reducible apply sramPuts_upd | with_reducible apply State.setReg_upd | with_reducible apply State.setTg_upd | with_reducible apply State.setW_upd | with_reducible apply tgEnd_upd); try clear_value x) | clear_value x | skip) | with_reducible apply Upd.ite | with_reducible apply sramPuts_upd | with_reducible apply State.setReg_upd | with_reducible apply State.setTg_upd | with_reducible apply State.setW_upd | with_reducible apply tgEnd_upd

theorem swbRefuse_upd {M0 : Nat} {s0 : State} {p : PeakId} {m : Nat} {code : Nat} {s : State} (hU : Upd M0 s0 s) (hM : 1 ||| M0 = M0) : Upd M0 s0 (swbRefuse p m code s) := by
  refine Upd.step hU ?_ hM
  clear hU hM
  unfold swbRefuse
  have h0 := Upd.refl 1 s
  repeat' first | with_reducible assumption | (guard_target =~ (_ ||| _ : Nat) = _; decide) | with_reducible apply State.raise_upd | with_reducible apply State.setFld_upd

theorem setTripped_upd {M0 : Nat} {s0 : State} {p : PeakId} {m : Nat} {v : Bool} {s : State} (hU : Upd M0 s0 s) (hM : 1 ||| M0 = M0) : Upd M0 s0 (setTripped p m v s) := by
  refine Upd.step hU ?_ hM
  clear hU hM
  unfold setTripped
  have h0 := Upd.refl 1 s
  repeat' first | with_reducible assumption | (guard_target =~ (_ ||| _ : Nat) = _; decide) | with_reducible apply setLoHi_upd | with_reducible apply State.setBit_upd

theorem loopStop_upd {M0 : Nat} {s0 : State} {p : PeakId} {m : Nat} {s : State} (hU : Upd M0 s0 s) (hM : 249073743429645 ||| M0 = M0) : Upd M0 s0 (loopStop p m s) := by
  refine Upd.step hU ?_ hM
  clear hU hM
  unfold loopStop
  have h0 := Upd.refl 249073743429645 s
  repeat' first | with_reducible assumption | (guard_target =~ (_ ||| _ : Nat) = _; decide) | (fail_if_no_progress extract_lets +onlyGivenNames x; first | (have hx : Upd 249073743429645 s x := (by unfold x; repeat' first | with_reducible assumption | (guard_target =~ (_ ||| _ : Nat) = _; decide) | with_reducible apply State.setFld_upd | with_reducible apply State.setLoop_upd | with_reducible apply setLoHi_upd | with_reducible apply loopAbort_upd | with_reducible apply State.setReg_upd | split); try clear_value x) | (have h9 : (x : Peak) = x := rfl; clear h9) | (have h9 : (x : Saddle) = x := rfl; clear h9) | (have h9 : (x : Pair) = x := rfl; clear h9) | (have h9 : (x : Leg) = x := rfl; clear h9) | clear_value x | skip) | with_reducible apply State.setFld_upd | with_reducible apply State.setLoop_upd | with_reducible apply setLoHi_upd | with_reducible apply loopAbort_upd | with_reducible apply State.setReg_upd | split

theorem swbCommand_upd {M0 : Nat} {s0 : State} {p : PeakId} {m : Nat} {c : Nat} {s : State} (hU : Upd M0 s0 s) (hM : 249073743429645 ||| M0 = M0) : Upd M0 s0 (swbCommand p m c s).1 := by
  refine Upd.step hU ?_ hM
  clear hU hM
  unfold swbCommand
  have h0 := Upd.refl 249073743429645 s
  repeat' first | with_reducible assumption | (guard_target =~ (_ ||| _ : Nat) = _; decide) | (fail_if_no_progress extract_lets +onlyGivenNames x; first | (have hx : Upd 249073743429645 s x := (by unfold x; repeat' first | with_reducible assumption | (guard_target =~ (_ ||| _ : Nat) = _; decide) | with_reducible apply Upd.ite | with_reducible apply swbRefuse_upd | with_reducible apply State.setW_upd | with_reducible apply setLoHi_upd | with_reducible apply State.setFld_upd | with_reducible apply loopStop_upd | with_reducible apply State.raise_upd | with_reducible apply setTripped_upd | split); try clear_value x) | (have h9 : (x : Peak) = x := rfl; clear h9) | (have h9 : (x : Saddle) = x := rfl; clear h9) | (have h9 : (x : Pair) = x := rfl; clear h9) | (have h9 : (x : Leg) = x := rfl; clear h9) | clear_value x | skip) | with_reducible apply Upd.ite | with_reducible apply swbRefuse_upd | with_reducible apply State.setW_upd | with_reducible apply setLoHi_upd | with_reducible apply State.setFld_upd | with_reducible apply loopStop_upd | with_reducible apply State.raise_upd | with_reducible apply setTripped_upd | split

theorem fadeStart_upd {M0 : Nat} {s0 : State} {p : PeakId} {m : Nat} {bank : Nat} {s : State} (hU : Upd M0 s0 s) (hM : 549755813889 ||| M0 = M0) : Upd M0 s0 (fadeStart p m bank s) := by
  refine Upd.step hU ?_ hM
  clear hU hM
  unfold fadeStart
  have h0 := Upd.refl 549755813889 s
  repeat' first | with_reducible assumption | (guard_target =~ (_ ||| _ : Nat) = _; decide) | with_reducible apply State.setLoop_upd | with_reducible apply State.setFld_upd

theorem bankExamine_upd {M0 : Nat} {s0 : State} {p : PeakId} {m : Nat} {bank : Nat} {s : State} (hU : Upd M0 s0 s) (hM : 549755813889 ||| M0 = M0) : Upd M0 s0 (bankExamine p m bank s) := by
  refine Upd.step hU ?_ hM
  clear hU hM
  unfold bankExamine
  have h0 := Upd.refl 549755813889 s
  repeat' first | with_reducible assumption | (guard_target =~ (_ ||| _ : Nat) = _; decide) | (fail_if_no_progress extract_lets +onlyGivenNames x; first | (have hx : Upd 549755813889 s x := (by unfold x; repeat' first | with_reducible assumption | (guard_target =~ (_ ||| _ : Nat) = _; decide) | with_reducible apply Upd.ite | with_reducible apply State.setFld_upd | with_reducible apply State.raise_upd | with_reducible apply fadeStart_upd); try clear_value x) | (have h9 : (x : Peak) = x := rfl; clear h9) | (have h9 : (x : Saddle) = x := rfl; clear h9) | (have h9 : (x : Pair) = x := rfl; clear h9) | (have h9 : (x : Leg) = x := rfl; clear h9) | clear_value x | skip) | with_reducible apply Upd.ite | with_reducible apply State.setFld_upd | with_reducible apply State.raise_upd | with_reducible apply fadeStart_upd

theorem bankRequests_upd {M0 : Nat} {s0 : State} {p : PeakId} {m : Nat} {s : State} (hU : Upd M0 s0 s) (hM : 549755813889 ||| M0 = M0) : Upd M0 s0 (bankRequests p m s) := by
  refine Upd.step hU ?_ hM
  clear hU hM
  unfold bankRequests
  have h0 := Upd.refl 549755813889 s
  repeat' first | with_reducible assumption | (guard_target =~ (_ ||| _ : Nat) = _; decide) | (fail_if_no_progress extract_lets +onlyGivenNames x; first | (have hx : Upd 549755813889 s x := (by unfold x; repeat' first | with_reducible assumption | (guard_target =~ (_ ||| _ : Nat) = _; decide) | with_reducible apply State.setLoop_upd | with_reducible apply fadeStart_upd | with_reducible apply bankExamine_upd | split); try clear_value x) | (have h9 : (x : Peak) = x := rfl; clear h9) | (have h9 : (x : Saddle) = x := rfl; clear h9) | (have h9 : (x : Pair) = x := rfl; clear h9) | (have h9 : (x : Leg) = x := rfl; clear h9) | clear_value x | skip) | with_reducible apply State.setLoop_upd | with_reducible apply fadeStart_upd | with_reducible apply bankExamine_upd | split

theorem bankStep_upd {M0 : Nat} {s0 : State} {p : PeakId} {m : Nat} {s : State} (hU : Upd M0 s0 s) (hM : 249073743429645 ||| M0 = M0) : Upd M0 s0 (bankStep p m s) := by
  refine Upd.step hU ?_ hM
  clear hU hM
  unfold bankStep
  have h0 := Upd.refl 249073743429645 s
  repeat' first | with_reducible assumption | (guard_target =~ (_ ||| _ : Nat) = _; decide) | (fail_if_no_progress extract_lets +onlyGivenNames x; first | (have hx : Upd 249073743429645 s x := (by unfold x; repeat' first | with_reducible assumption | (guard_target =~ (_ ||| _ : Nat) = _; decide) | with_reducible apply Upd.ite | with_reducible apply bankRequests_upd | with_reducible apply State.setFld_upd | with_reducible apply State.setReg_upd | with_reducible apply State.setLoop_upd | with_reducible apply fire_upd | split); try clear_value x) | (have h9 : (x : Peak) = x := rfl; clear h9) | (have h9 : (x : Saddle) = x := rfl; clear h9) | (have h9 : (x : Pair) = x := rfl; clear h9) | (have h9 : (x : Leg) = x := rfl; clear h9) | clear_value x | skip) | with_reducible apply Upd.ite | with_reducible apply bankRequests_upd | with_reducible apply State.setFld_upd | with_reducible apply State.setReg_upd | with_reducible apply State.setLoop_upd | with_reducible apply fire_upd | split

theorem supervise_upd {M0 : Nat} {s0 : State} {p : PeakId} {m : Nat} {held : Bool} {s : State} (hU : Upd M0 s0 s) (hM : 249073743429645 ||| M0 = M0) : Upd M0 s0 (supervise p m held s) := by
  refine Upd.step hU ?_ hM
  clear hU hM
  unfold supervise
  have h0 := Upd.refl 249073743429645 s
  repeat' first | with_reducible assumption | (guard_target =~ (_ ||| _ : Nat) = _; decide) | (fail_if_no_progress extract_lets +onlyGivenNames x; first | (have hx : Upd 249073743429645 s x := (by unfold x; repeat' first | with_reducible assumption | (guard_target =~ (_ ||| _ : Nat) = _; decide) | with_reducible apply Upd.ite | with_reducible apply State.setReg_upd | with_reducible apply setTripped_upd | with_reducible apply State.raise_upd | with_reducible apply State.bump_upd | with_reducible apply fire_upd | with_reducible apply State.setLoop_upd | with_reducible apply loopStop_upd | with_reducible apply State.setFld_upd | with_reducible apply State.setW_upd | split); try clear_value x) | (have h9 : (x : Peak) = x := rfl; clear h9) | (have h9 : (x : Saddle) = x := rfl; clear h9) | (have h9 : (x : Pair) = x := rfl; clear h9) | (have h9 : (x : Leg) = x := rfl; clear h9) | clear_value x | skip) | with_reducible apply Upd.ite | with_reducible apply State.setReg_upd | with_reducible apply setTripped_upd | with_reducible apply State.raise_upd | with_reducible apply State.bump_upd | with_reducible apply fire_upd | with_reducible apply State.setLoop_upd | with_reducible apply loopStop_upd | with_reducible apply State.setFld_upd | with_reducible apply State.setW_upd | split

theorem smpAfter_upd {M0 : Nat} {s0 : State} {p : PeakId} {m : Nat} {x : Option (Nat × Word × Tg)} {s : State} (hU : Upd M0 s0 s) (hM : 249623499243535 ||| M0 = M0) : Upd M0 s0 (smpAfter p m x s) := by
  refine Upd.step hU ?_ hM
  clear hU hM
  unfold smpAfter
  have h0 := Upd.refl 249623499243535 s
  repeat' first | with_reducible assumption | (guard_target =~ (_ ||| _ : Nat) = _; decide) | with_reducible apply Upd.ite | with_reducible apply tgAfter_upd | split

theorem fadeStep_upd {M0 : Nat} {s0 : State} {p : PeakId} {m : Nat} {l : Loop} {s : State} (hU : Upd M0 s0 s) (hM : 549755813889 ||| M0 = M0) : Upd M0 s0 (fadeStep p m l s) := by
  refine Upd.step hU ?_ hM
  clear hU hM
  unfold fadeStep
  have h0 := Upd.refl 549755813889 s
  repeat' first | with_reducible assumption | (guard_target =~ (_ ||| _ : Nat) = _; decide) | with_reducible apply State.setLoop_upd | with_reducible apply State.setW_upd | split

theorem loopRun_upd {M0 : Nat} {s0 : State} {p : PeakId} {m : Nat} {ts : Word} {fresh : Bool} {s : State} (hU : Upd M0 s0 s) (hM : 250173255057423 ||| M0 = M0) : Upd M0 s0 (loopRun p m ts fresh s) := by
  refine Upd.step hU ?_ hM
  clear hU hM
  unfold loopRun
  have h0 := Upd.refl 250173255057423 s
  repeat' first | with_reducible assumption | (guard_target =~ (_ ||| _ : Nat) = _; decide) | (fail_if_no_progress extract_lets +onlyGivenNames x; first | (have hx : Upd 250173255057423 s x := (by unfold x; repeat' first | with_reducible assumption | (guard_target =~ (_ ||| _ : Nat) = _; decide) | with_reducible apply Upd.ite | with_reducible apply fadeStep_upd | with_reducible apply State.setW_upd | with_reducible apply State.raise_upd | with_reducible apply supervise_upd | with_reducible apply bankStep_upd | with_reducible apply smpAfter_upd | with_reducible apply State.setBit_upd | split); try clear_value x) | (have hx : Upd 250173255057423 s x.2 := (by unfold x; repeat' first | with_reducible assumption | (guard_target =~ (_ ||| _ : Nat) = _; decide) | with_reducible apply Upd.ite | with_reducible apply fadeStep_upd | with_reducible apply State.setW_upd | with_reducible apply State.raise_upd | with_reducible apply supervise_upd | with_reducible apply bankStep_upd | with_reducible apply smpAfter_upd | with_reducible apply State.setBit_upd | split); try clear_value x) | (have h9 : (x : Peak) = x := rfl; clear h9) | (have h9 : (x : Saddle) = x := rfl; clear h9) | (have h9 : (x : Pair) = x := rfl; clear h9) | (have h9 : (x : Leg) = x := rfl; clear h9) | clear_value x | skip) | with_reducible apply Upd.ite | with_reducible apply fadeStep_upd | with_reducible apply State.setW_upd | with_reducible apply State.raise_upd | with_reducible apply supervise_upd | with_reducible apply bankStep_upd | with_reducible apply smpAfter_upd | with_reducible apply State.setBit_upd | split

theorem loopRest_upd {M0 : Nat} {s0 : State} {p : PeakId} {m : Nat} {s : State} (hU : Upd M0 s0 s) (hM : 249073743429645 ||| M0 = M0) : Upd M0 s0 (loopRest p m s) := by
  refine Upd.step hU ?_ hM
  clear hU hM
  unfold loopRest
  have h0 := Upd.refl 249073743429645 s
  repeat' first | with_reducible assumption | (guard_target =~ (_ ||| _ : Nat) = _; decide) | (fail_if_no_progress extract_lets +onlyGivenNames x; first | (have hx : Upd 249073743429645 s x := (by unfold x; repeat' first | with_reducible assumption | (guard_target =~ (_ ||| _ : Nat) = _; decide) | with_reducible apply State.setW_upd | with_reducible apply bankStep_upd | with_reducible apply State.setReg_upd); try clear_value x) | (have h9 : (x : Peak) = x := rfl; clear h9) | (have h9 : (x : Saddle) = x := rfl; clear h9) | (have h9 : (x : Pair) = x := rfl; clear h9) | (have h9 : (x : Leg) = x := rfl; clear h9) | clear_value x | skip) | with_reducible apply State.setW_upd | with_reducible apply bankStep_upd | with_reducible apply State.setReg_upd

theorem swbCompute_upd {M0 : Nat} {s0 : State} {p : PeakId} {m : Nat} {s : State} (hU : Upd M0 s0 s) (hM : 250173255057423 ||| M0 = M0) : Upd M0 s0 (swbCompute p m s) := by
  refine Upd.step hU ?_ hM
  clear hU hM
  unfold swbCompute
  have h0 := Upd.refl 250173255057423 s
  repeat' first | with_reducible assumption | (guard_target =~ (_ ||| _ : Nat) = _; decide) | (fail_if_no_progress extract_lets +onlyGivenNames x; first | (have hx : Upd 250173255057423 s x := (by unfold x; repeat' first | with_reducible assumption | (guard_target =~ (_ ||| _ : Nat) = _; decide) | with_reducible apply Upd.ite | with_reducible apply State.setFld_upd | with_reducible apply swbCommand_upd | with_reducible apply State.setLoop_upd | with_reducible apply loopRun_upd | with_reducible apply loopRest_upd | split); try clear_value x) | (have hx : Upd 250173255057423 s x.1 := (by unfold x; repeat' first | with_reducible assumption | (guard_target =~ (_ ||| _ : Nat) = _; decide) | with_reducible apply Upd.ite | with_reducible apply State.setFld_upd | with_reducible apply swbCommand_upd | with_reducible apply State.setLoop_upd | with_reducible apply loopRun_upd | with_reducible apply loopRest_upd | split); try clear_value x) | clear_value x | skip) | with_reducible apply Upd.ite | with_reducible apply State.setFld_upd | with_reducible apply swbCommand_upd | with_reducible apply State.setLoop_upd | with_reducible apply loopRun_upd | with_reducible apply loopRest_upd | split

theorem swbStart_upd {M0 : Nat} {s0 : State} {p : PeakId} {m : Nat} {due : Nat} {s : State} (hU : Upd M0 s0 s) (hM : 1649267441664 ||| M0 = M0) : Upd M0 s0 (swbStart p m due s) := by
  refine Upd.step hU ?_ hM
  clear hU hM
  unfold swbStart
  have h0 := Upd.refl 1649267441664 s
  repeat' first | with_reducible assumption | (guard_target =~ (_ ||| _ : Nat) = _; decide) | (fail_if_no_progress extract_lets +onlyGivenNames x; first | (have hx : Upd 1649267441664 s x := (by unfold x; repeat' first | with_reducible assumption | (guard_target =~ (_ ||| _ : Nat) = _; decide) | with_reducible apply State.setLoop_upd | with_reducible apply State.setTg_upd | split); try clear_value x) | (have h9 : (x : Peak) = x := rfl; clear h9) | (have h9 : (x : Saddle) = x := rfl; clear h9) | (have h9 : (x : Pair) = x := rfl; clear h9) | (have h9 : (x : Leg) = x := rfl; clear h9) | clear_value x | skip) | with_reducible apply State.setLoop_upd | with_reducible apply State.setTg_upd | split

theorem swbPut_upd {M0 : Nat} {s0 : State} {p : PeakId} {m : Nat} {off : Nat} {v : Word} {s : State} (hU : Upd M0 s0 s) (hM : 549755813889 ||| M0 = M0) : Upd M0 s0 (swbPut p m off v s) := by
  refine Upd.step hU ?_ hM
  clear hU hM
  unfold swbPut
  have h0 := Upd.refl 549755813889 s
  repeat' first | with_reducible assumption | (guard_target =~ (_ ||| _ : Nat) = _; decide) | (fail_if_no_progress extract_lets +onlyGivenNames x; first | (have hx : Upd 549755813889 s x := (by unfold x; repeat' first | with_reducible assumption | (guard_target =~ (_ ||| _ : Nat) = _; decide) | with_reducible apply Upd.ite | with_reducible apply State.setLoop_upd | with_reducible apply State.setW_upd | split); try clear_value x) | (have h9 : (x : Peak) = x := rfl; clear h9) | (have h9 : (x : Saddle) = x := rfl; clear h9) | (have h9 : (x : Pair) = x := rfl; clear h9) | (have h9 : (x : Leg) = x := rfl; clear h9) | clear_value x | skip) | with_reducible apply Upd.ite | with_reducible apply State.setLoop_upd | with_reducible apply State.setW_upd | split

theorem swbLateView_upd {M0 : Nat} {s0 : State} {p : PeakId} {m : Nat} {s : State} (hU : Upd M0 s0 s) (hM : 1 ||| M0 = M0) : Upd M0 s0 (swbLateView p m s) := by
  refine Upd.step hU ?_ hM
  clear hU hM
  unfold swbLateView
  have h0 := Upd.refl 1 s
  repeat' first | with_reducible assumption | (guard_target =~ (_ ||| _ : Nat) = _; decide) | with_reducible refine Upd.forAll ?_ (fun _ _ _ => ?_) | with_reducible apply State.setW_upd

theorem swbWrite_upd {M0 : Nat} {s0 : State} {p : PeakId} {m : Nat} {off : Nat} {v : Word} {s : State} (hU : Upd M0 s0 s) (hM : 549755813889 ||| M0 = M0) : Upd M0 s0 (swbWrite p m off v s) := by
  refine Upd.step hU ?_ hM
  clear hU hM
  unfold swbWrite
  have h0 := Upd.refl 549755813889 s
  repeat' first | with_reducible assumption | (guard_target =~ (_ ||| _ : Nat) = _; decide) | with_reducible apply Upd.ite | with_reducible apply State.setW_upd | with_reducible apply State.raise_upd | with_reducible apply swbLateView_upd | with_reducible apply State.setLoop_upd | with_reducible apply swbPut_upd

theorem swbStep_upd {M0 : Nat} {s0 : State} {p : PeakId} {m : Nat} {s : State} (hU : Upd M0 s0 s) (hM : 250173255057423 ||| M0 = M0) : Upd M0 s0 (swbStep p m s) := by
  refine Upd.step hU ?_ hM
  clear hU hM
  unfold swbStep
  have h0 := Upd.refl 250173255057423 s
  repeat' first | with_reducible assumption | (guard_target =~ (_ ||| _ : Nat) = _; decide) | (fail_if_no_progress extract_lets +onlyGivenNames x; first | (have hx : Upd 250173255057423 s x := (by unfold x; repeat' first | with_reducible assumption | (guard_target =~ (_ ||| _ : Nat) = _; decide) | with_reducible apply Upd.ite | with_reducible apply State.setLoop_upd | with_reducible apply State.raise_upd | with_reducible apply loopAbort_upd | with_reducible apply State.setFld_upd | with_reducible apply swbCompute_upd | with_reducible refine Upd.forAll ?_ (fun _ _ _ => ?_) | with_reducible apply swbPut_upd); try clear_value x) | (have hx : Upd 250173255057423 s x.2 := (by unfold x; repeat' first | with_reducible assumption | (guard_target =~ (_ ||| _ : Nat) = _; decide) | with_reducible apply Upd.ite | with_reducible apply State.setLoop_upd | with_reducible apply State.raise_upd | with_reducible apply loopAbort_upd | with_reducible apply State.setFld_upd | with_reducible apply swbCompute_upd | with_reducible refine Upd.forAll ?_ (fun _ _ _ => ?_) | with_reducible apply swbPut_upd); try clear_value x) | (have h9 : (x : Peak) = x := rfl; clear h9) | (have h9 : (x : Saddle) = x := rfl; clear h9) | (have h9 : (x : Pair) = x := rfl; clear h9) | (have h9 : (x : Leg) = x := rfl; clear h9) | clear_value x | skip) | with_reducible apply Upd.ite | with_reducible apply State.setLoop_upd | with_reducible apply State.raise_upd | with_reducible apply loopAbort_upd | with_reducible apply State.setFld_upd | with_reducible apply swbCompute_upd | with_reducible refine Upd.forAll ?_ (fun _ _ _ => ?_) | with_reducible apply swbPut_upd

theorem swbWrap_upd {M0 : Nat} {s0 : State} {tb : Nat} {closing : Bool} {s : State} (hU : Upd M0 s0 s) (hM : 249073743429645 ||| M0 = M0) : Upd M0 s0 (swbWrap tb closing s) := by
  refine Upd.step hU ?_ hM
  clear hU hM
  unfold swbWrap
  have h0 := Upd.refl 249073743429645 s
  repeat' first | with_reducible assumption | (guard_target =~ (_ ||| _ : Nat) = _; decide) | (fail_if_no_progress extract_lets +onlyGivenNames x; first | (have hx : Upd 249073743429645 s x := (by unfold x; repeat' first | with_reducible assumption | (guard_target =~ (_ ||| _ : Nat) = _; decide) | with_reducible apply Upd.ite | with_reducible refine Upd.bothPeaks ?_ (fun _ _ _ => ?_) | with_reducible refine Upd.forAll ?_ (fun _ _ _ => ?_) | with_reducible apply State.setLoop_upd | with_reducible apply State.bump_upd | with_reducible apply loopAbort_upd | with_reducible apply State.raise_upd); try clear_value x) | (have h9 : (x : Peak) = x := rfl; clear h9) | (have h9 : (x : Saddle) = x := rfl; clear h9) | (have h9 : (x : Pair) = x := rfl; clear h9) | (have h9 : (x : Leg) = x := rfl; clear h9) | clear_value x | skip) | with_reducible apply Upd.ite | with_reducible refine Upd.bothPeaks ?_ (fun _ _ _ => ?_) | with_reducible refine Upd.forAll ?_ (fun _ _ _ => ?_) | with_reducible apply State.setLoop_upd | with_reducible apply State.bump_upd | with_reducible apply loopAbort_upd | with_reducible apply State.raise_upd

theorem execSwitchbackStep_upd (p : PeakId) (l : Fin 64) (s : State) {t : State} (hX : execSwitchbackStep p l s = .next t) : Upd 250173255057423 s t := by
  unfold execSwitchbackStep at hX
  cases hX
  have h0 := Upd.refl 250173255057423 s
  repeat' first | with_reducible assumption | (guard_target =~ (_ ||| _ : Nat) = _; decide) | with_reducible apply Upd.ite | with_reducible apply swbStep_upd

theorem swbCmd_upd {M0 : Nat} {s0 : State} {m : Master} {l : Nat} {c : Nat} {s : State} (hU : Upd M0 s0 s) (hM : 549755813889 ||| M0 = M0) : Upd M0 s0 (swbCmd m l c s) := by
  refine Upd.step hU ?_ hM
  clear hU hM
  unfold swbCmd
  have h0 := Upd.refl 549755813889 s
  repeat' first | with_reducible assumption | (guard_target =~ (_ ||| _ : Nat) = _; decide) | with_reducible apply Upd.ite | with_reducible apply swbWrite_upd

theorem execSwbStart_upd (m : Master) (l : Fin 64) (s : State) {t : State} (hX : execSwbStart m l s = .next t) : Upd 549755813889 s t := by
  unfold execSwbStart at hX
  cases hX
  have h0 := Upd.refl 549755813889 s
  repeat' first | with_reducible assumption | (guard_target =~ (_ ||| _ : Nat) = _; decide) | with_reducible apply swbCmd_upd

theorem execSwbStop_upd (m : Master) (l : Fin 64) (s : State) {t : State} (hX : execSwbStop m l s = .next t) : Upd 549755813889 s t := by
  unfold execSwbStop at hX
  cases hX
  have h0 := Upd.refl 549755813889 s
  repeat' first | with_reducible assumption | (guard_target =~ (_ ||| _ : Nat) = _; decide) | with_reducible apply swbCmd_upd

theorem execSwbClear_upd (m : Master) (l : Fin 64) (s : State) {t : State} (hX : execSwbClear m l s = .next t) : Upd 549755813889 s t := by
  unfold execSwbClear at hX
  cases hX
  have h0 := Upd.refl 549755813889 s
  repeat' first | with_reducible assumption | (guard_target =~ (_ ||| _ : Nat) = _; decide) | with_reducible apply swbCmd_upd

theorem execBankReq_upd (m : Master) (l : Fin 64) (bank : Bool) (s : State) {t : State} (hX : execBankReq m l bank s = .next t) : Upd 549755813889 s t := by
  unfold execBankReq at hX
  cases hX
  have h0 := Upd.refl 549755813889 s
  repeat' first | with_reducible assumption | (guard_target =~ (_ ||| _ : Nat) = _; decide) | with_reducible apply Upd.ite | with_reducible apply swbWrite_upd

theorem execTestRunStart_upd (m : Master) (g : Fin 4) (s : State) {t : State} (hX : execTestRunStart m g s = .next t) : Upd 1099511627777 s t := by
  unfold execTestRunStart at hX
  cases hX
  have h0 := Upd.refl 1099511627777 s
  repeat' first | with_reducible assumption | (guard_target =~ (_ ||| _ : Nat) = _; decide) | with_reducible apply Upd.ite | with_reducible apply tgStart_upd

theorem execTestRunStop_upd (m : Master) (g : Fin 4) (s : State) {t : State} (hX : execTestRunStop m g s = .next t) : Upd 248523987615757 s t := by
  unfold execTestRunStop at hX
  cases hX
  have h0 := Upd.refl 248523987615757 s
  repeat' first | with_reducible assumption | (guard_target =~ (_ ||| _ : Nat) = _; decide) | with_reducible apply Upd.ite | with_reducible apply tgStop_upd

end Sys2Proof.Machine
end

