-- ==== Sys2Proof/Laws/UpdSaddle.lean ====
section
/-! SUPPORT. What each operation of Machine/Saddle.lean may change. -/

set_option linter.unusedTactic false
set_option linter.unreachableTactic false

namespace Sys2Proof.Machine

theorem State.pair_safe {s : State} (h : s.sound = true) (p : Nat) : ((s.pair p).hi && (s.pair p).lo) = false := by
  rw [State.sound_iff] at h
  have k := Tab.get_all (fun _ => ({} : Pair)) (fun q => !(q.hi && q.lo)) s.saddle.pairs h.2.2.1 p rfl
  exact Bool.not_eq_true' _ ▸ k

/-- A pair is written with at most one of its switches on. -/
theorem Upd.setPair {M : Nat} {s x : State} {p : Nat} {q : Pair} (hM : Nat.testBit M 12 = true) (h : Upd M s x)
    (hq : s.sound = true → (q.hi && q.lo) = false) : Upd M s (x.setPair p q) := by
  unfold State.setPair
  constructor
  case sound =>
    intro hs
    have hx := h.sound hs
    rw [State.sound_iff] at hx ⊢
    exact ⟨hx.1, hx.2.1, Tab.all_put (fun _ => ({} : Pair)) (fun q : Pair => !(q.hi && q.lo)) x.saddle.pairs p q hx.2.2.1 (by simp only [hq hs, Bool.not_false]), hx.2.2.2⟩
  case pairs => intro hb; rw [hM] at hb; exact absurd hb (by decide)
  case pending => exact h.pending
  case tick => exact h.tick
  case peak => exact h.peak
  case regs => exact h.regs
  case mem => exact h.mem
  case cores => exact h.cores
  case tasks => exact h.tasks
  case readData => exact h.readData
  case periodCount => exact h.periodCount
  case cirq => exact h.cirq
  case cairn => exact h.cairn
  case tick0 => exact h.tick0
  case mdio => exact h.mdio
  case tbs => exact h.tbs
  case chans => exact h.chans
  case legs => exact h.legs
  case pifs => exact h.pifs
  case clock => exact h.clock
  case trips => exact h.trips
  case ascHigh => exact h.ascHigh
  case firstTick => exact h.firstTick
  case dlBad => exact h.dlBad
  case strobe => exact h.strobe
  case flight => exact h.flight
  case wrote => exact h.wrote
  case goodRuns => exact h.goodRuns
  case gdm => exact h.gdm
  case saf => exact h.saf
  case power => exact h.power
  case col => exact h.col
  case wrapTick => exact h.wrapTick
  case meanDue => exact h.meanDue
  case free => exact h.free

theorem State.setChan_upd {M0 : Nat} {s0 : State} {s : State} {c : Nat} {q : Chan} (hU : Upd M0 s0 s) (hM : 2048 ||| M0 = M0) : Upd M0 s0 (State.setChan s c q) := by
  refine Upd.step hU ?_ hM
  clear hU hM
  unfold State.setChan
  have h0 := Upd.refl 2048 s
  repeat' first | with_reducible assumption | (guard_target =~ (_ ||| _ : Nat) = _; decide) | with_reducible apply Upd.lit | exact rfl | exact SadUpd.refl _ _ | with_reducible apply SadUpd.ite | apply SadUpd.mk | exact fun _ => PeakUpd.refl _ _ | exact Or.inl (by decide) | exact Or.inr rfl

theorem pwmRefresh_upd {M0 : Nat} {s0 : State} {s : State} (hU : Upd M0 s0 s) (hM : 1 ||| M0 = M0) : Upd M0 s0 (pwmRefresh s) := by
  refine Upd.step hU ?_ hM
  clear hU hM
  unfold pwmRefresh
  have h0 := Upd.refl 1 s
  repeat' first | with_reducible assumption | (guard_target =~ (_ ||| _ : Nat) = _; decide) | with_reducible apply h90 | with_reducible apply h91 | with_reducible apply h92 | with_reducible apply h93 | with_reducible apply h94 | (fail_if_no_progress extract_lets +onlyGivenNames x; first | (have hx : Upd 1 s x := (by unfold x; repeat' first | with_reducible assumption | (guard_target =~ (_ ||| _ : Nat) = _; decide) | with_reducible apply h90 | with_reducible apply h91 | with_reducible apply h92 | with_reducible apply h93 | with_reducible apply h94 | with_reducible apply Upd.ite | with_reducible apply State.setFld_upd | with_reducible apply State.setBit_upd | with_reducible apply State.setReg_upd); try clear_value x) | (have h9 : (x : Peak) = x := rfl; clear h9) | (have h9 : (x : Saddle) = x := rfl; clear h9) | (have h9 : (x : Pair) = x := rfl; clear h9) | (have h9 : (x : Leg) = x := rfl; clear h9) | (have h90 : ∀  t, Upd 1 s t → Upd 1 s (x  t) := (by intro  t ht; unfold x; repeat' first | with_reducible assumption | (guard_target =~ (_ ||| _ : Nat) = _; decide) | with_reducible apply h90 | with_reducible apply h91 | with_reducible apply h92 | with_reducible apply h93 | with_reducible apply h94 | with_reducible apply Upd.ite | with_reducible apply State.setFld_upd | with_reducible apply State.setBit_upd | with_reducible apply State.setReg_upd); try clear_value x) | (have h91 : ∀ a0 t, Upd 1 s t → Upd 1 s (x a0 t) := (by intro a0 t ht; unfold x; repeat' first | with_reducible assumption | (guard_target =~ (_ ||| _ : Nat) = _; decide) | with_reducible apply h90 | with_reducible apply h91 | with_reducible apply h92 | with_reducible apply h93 | with_reducible apply h94 | with_reducible apply Upd.ite | with_reducible apply State.setFld_upd | with_reducible apply State.setBit_upd | with_reducible apply State.setReg_upd); try clear_value x) | (have h92 : ∀ a0 a1 t, Upd 1 s t → Upd 1 s (x a0 a1 t) := (by intro a0 a1 t ht; unfold x; repeat' first | with_reducible assumption | (guard_target =~ (_ ||| _ : Nat) = _; decide) | with_reducible apply h90 | with_reducible apply h91 | with_reducible apply h92 | with_reducible apply h93 | with_reducible apply h94 | with_reducible apply Upd.ite | with_reducible apply State.setFld_upd | with_reducible apply State.setBit_upd | with_reducible apply State.setReg_upd); try clear_value x) | (have h93 : ∀ a0 a1 a2 t, Upd 1 s t → Upd 1 s (x a0 a1 a2 t) := (by intro a0 a1 a2 t ht; unfold x; repeat' first | with_reducible assumption | (guard_target =~ (_ ||| _ : Nat) = _; decide) | with_reducible apply h90 | with_reducible apply h91 | with_reducible apply h92 | with_reducible apply h93 | with_reducible apply h94 | with_reducible apply Upd.ite | with_reducible apply State.setFld_upd | with_reducible apply State.setBit_upd | with_reducible apply State.setReg_upd); try clear_value x) | (have h94 : ∀ a0 a1 a2 a3 t, Upd 1 s t → Upd 1 s (x a0 a1 a2 a3 t) := (by intro a0 a1 a2 a3 t ht; unfold x; repeat' first | with_reducible assumption | (guard_target =~ (_ ||| _ : Nat) = _; decide) | with_reducible apply h90 | with_reducible apply h91 | with_reducible apply h92 | with_reducible apply h93 | with_reducible apply h94 | with_reducible apply Upd.ite | with_reducible apply State.setFld_upd | with_reducible apply State.setBit_upd | with_reducible apply State.setReg_upd); try clear_value x) | clear_value x | skip) | with_reducible apply Upd.ite | with_reducible apply State.setFld_upd | with_reducible apply State.setBit_upd | with_reducible apply State.setReg_upd

theorem Pair.drive_safe (q : Pair) (a b : Bool) (t : Nat) : ((q.drive a b t).hi && (q.drive a b t).lo) = false := by
  cases a <;> simp [Pair.drive]

theorem pairDrive_upd {M0 : Nat} {s0 : State} {p : Nat} {wantHi wantLo : Bool} {at64 : Nat} {s : State} (hU : Upd M0 s0 s) (hM : 4096 ||| M0 = M0) : Upd M0 s0 (pairDrive p wantHi wantLo at64 s) := by
  refine Upd.step hU ?_ hM
  exact Upd.setPair (by decide) (Upd.refl _ _) (fun _ => Pair.drive_safe ..)

theorem pairDecide_upd {M0 : Nat} {s0 : State} {p : Nat} {s : State} (hU : Upd M0 s0 s) (hM : 4097 ||| M0 = M0) : Upd M0 s0 (pairDecide p s) := by
  refine Upd.step hU ?_ hM
  clear hU hM
  unfold pairDecide
  have h0 := Upd.refl 4097 s
  repeat' first | with_reducible assumption | (guard_target =~ (_ ||| _ : Nat) = _; decide) | (fail_if_no_progress extract_lets +onlyGivenNames x; first | (have hx : Upd 4097 s x := (by unfold x; repeat' first | with_reducible assumption | (guard_target =~ (_ ||| _ : Nat) = _; decide) | with_reducible apply Upd.ite | with_reducible apply State.setFld_upd | with_reducible apply pairDrive_upd | with_reducible refine Upd.setPair ?_ ?_ ?_ | split | (guard_target =~ Nat.testBit _ _ = true; decide) | exact fun hs => State.pair_safe (Upd.sound (by with_reducible assumption) hs) _ | (guard_target =~ _ = true → _ = false; intro _; simp)); try clear_value x) | (have hx : Upd 4097 s x.2 := (by unfold x; repeat' first | with_reducible assumption | (guard_target =~ (_ ||| _ : Nat) = _; decide) | with_reducible apply Upd.ite | with_reducible apply State.setFld_upd | with_reducible apply pairDrive_upd | with_reducible refine Upd.setPair ?_ ?_ ?_ | split | (guard_target =~ Nat.testBit _ _ = true; decide) | exact fun hs => State.pair_safe (Upd.sound (by with_reducible assumption) hs) _ | (guard_target =~ _ = true → _ = false; intro _; simp)); try clear_value x) | (have h9 : (x : Peak) = x := rfl; clear h9) | (have h9 : (x : Saddle) = x := rfl; clear h9) | (have h9 : (x : Pair) = x := rfl; clear h9) | (have h9 : (x : Leg) = x := rfl; clear h9) | clear_value x | skip) | with_reducible apply Upd.ite | with_reducible apply State.setFld_upd | with_reducible apply pairDrive_upd | with_reducible refine Upd.setPair ?_ ?_ ?_ | split | (guard_target =~ Nat.testBit _ _ = true; decide) | exact fun hs => State.pair_safe (Upd.sound (by with_reducible assumption) hs) _ | (guard_target =~ _ = true → _ = false; intro _; simp)

theorem pairsDecide_upd {M0 : Nat} {s0 : State} {s : State} (hU : Upd M0 s0 s) (hM : 4097 ||| M0 = M0) : Upd M0 s0 (pairsDecide s) := by
  refine Upd.step hU ?_ hM
  clear hU hM
  unfold pairsDecide
  have h0 := Upd.refl 4097 s
  repeat' first | with_reducible assumption | (guard_target =~ (_ ||| _ : Nat) = _; decide) | (fail_if_no_progress extract_lets +onlyGivenNames x; first | (have hx : Upd 4097 s x := (by unfold x; repeat' first | with_reducible assumption | (guard_target =~ (_ ||| _ : Nat) = _; decide) | with_reducible apply Upd.ite | with_reducible apply State.raise_upd | with_reducible apply pwmRefresh_upd | with_reducible refine Upd.forAll ?_ (fun _ _ _ => ?_) | with_reducible apply pairDecide_upd); try clear_value x) | (have hx : Upd 4097 s x.2 := (by unfold x; repeat' first | with_reducible assumption | (guard_target =~ (_ ||| _ : Nat) = _; decide) | with_reducible apply Upd.ite | with_reducible apply State.raise_upd | with_reducible apply pwmRefresh_upd | with_reducible refine Upd.forAll ?_ (fun _ _ _ => ?_) | with_reducible apply pairDecide_upd); try clear_value x) | (have h9 : (x : Peak) = x := rfl; clear h9) | (have h9 : (x : Saddle) = x := rfl; clear h9) | (have h9 : (x : Pair) = x := rfl; clear h9) | (have h9 : (x : Leg) = x := rfl; clear h9) | clear_value x | skip) | with_reducible apply Upd.ite | with_reducible apply State.raise_upd | with_reducible apply pwmRefresh_upd | with_reducible refine Upd.forAll ?_ (fun _ _ _ => ?_) | with_reducible apply pairDecide_upd

theorem sourceSet_upd {M0 : Nat} {s0 : State} {src : Nat} {on : Bool} {s : State} (hU : Upd M0 s0 s) (hM : 248523987881997 ||| M0 = M0) : Upd M0 s0 (sourceSet src on s) := by
  refine Upd.step hU ?_ hM
  clear hU hM
  unfold sourceSet
  have h0 := Upd.refl 248523987881997 s
  repeat' first | with_reducible assumption | (guard_target =~ (_ ||| _ : Nat) = _; decide) | (fail_if_no_progress extract_lets +onlyGivenNames x; first | (have hx : Upd 248523987881997 s x := (by unfold x; repeat' first | with_reducible assumption | (guard_target =~ (_ ||| _ : Nat) = _; decide) | with_reducible apply Upd.ite | with_reducible apply setBitOf_upd | with_reducible apply State.bump_upd | with_reducible apply State.raise_upd | with_reducible apply State.setFld_upd | with_reducible apply State.setReg_upd | with_reducible refine Upd.bothPeaks ?_ (fun _ _ _ => ?_) | with_reducible apply tracePut_upd | with_reducible apply fireBoth_upd | with_reducible apply pairsDecide_upd | with_reducible apply Upd.lit | exact rfl | exact SadUpd.refl _ _ | with_reducible apply SadUpd.ite | apply SadUpd.mk | exact fun _ => PeakUpd.refl _ _ | exact Or.inl (by decide) | exact Or.inr rfl); try clear_value x) | (have h9 : (x : Peak) = x := rfl; clear h9) | (have h9 : (x : Saddle) = x := rfl; clear h9) | (have h9 : (x : Pair) = x := rfl; clear h9) | (have h9 : (x : Leg) = x := rfl; clear h9) | clear_value x | skip) | with_reducible apply Upd.ite | with_reducible apply setBitOf_upd | with_reducible apply State.bump_upd | with_reducible apply State.raise_upd | with_reducible apply State.setFld_upd | with_reducible apply State.setReg_upd | with_reducible refine Upd.bothPeaks ?_ (fun _ _ _ => ?_) | with_reducible apply tracePut_upd | with_reducible apply fireBoth_upd | with_reducible apply pairsDecide_upd | with_reducible apply Upd.lit | exact rfl | exact SadUpd.refl _ _ | with_reducible apply SadUpd.ite | apply SadUpd.mk | exact fun _ => PeakUpd.refl _ _ | exact Or.inl (by decide) | exact Or.inr rfl

theorem sourceIn_upd {M0 : Nat} {s0 : State} {src : Nat} {on : Bool} {s : State} (hU : Upd M0 s0 s) (hM : 248523987947533 ||| M0 = M0) : Upd M0 s0 (sourceIn src on s) := by
  refine Upd.step hU ?_ hM
  clear hU hM
  unfold sourceIn
  have h0 := Upd.refl 248523987947533 s
  repeat' first | with_reducible assumption | (guard_target =~ (_ ||| _ : Nat) = _; decide) | (fail_if_no_progress extract_lets +onlyGivenNames x; first | (have hx : Upd 248523987947533 s x := (by unfold x; repeat' first | with_reducible assumption | (guard_target =~ (_ ||| _ : Nat) = _; decide) | with_reducible apply Upd.ite | with_reducible apply sourceSet_upd | with_reducible apply Upd.lit | exact rfl | exact SadUpd.refl _ _ | with_reducible apply SadUpd.ite | apply SadUpd.mk | exact fun _ => PeakUpd.refl _ _ | exact Or.inl (by decide) | exact Or.inr rfl); try clear_value x) | (have h9 : (x : Peak) = x := rfl; clear h9) | (have h9 : (x : Saddle) = x := rfl; clear h9) | (have h9 : (x : Pair) = x := rfl; clear h9) | (have h9 : (x : Leg) = x := rfl; clear h9) | clear_value x | skip) | with_reducible apply Upd.ite | with_reducible apply sourceSet_upd | with_reducible apply Upd.lit | exact rfl | exact SadUpd.refl _ _ | with_reducible apply SadUpd.ite | apply SadUpd.mk | exact fun _ => PeakUpd.refl _ _ | exact Or.inl (by decide) | exact Or.inr rfl

theorem latchClear_upd {M0 : Nat} {s0 : State} {mask : Nat} {s : State} (hU : Upd M0 s0 s) (hM : 4097 ||| M0 = M0) : Upd M0 s0 (latchClear mask s) := by
  refine Upd.step hU ?_ hM
  clear hU hM
  unfold latchClear
  have h0 := Upd.refl 4097 s
  repeat' first | with_reducible assumption | (guard_target =~ (_ ||| _ : Nat) = _; decide) | (fail_if_no_progress extract_lets +onlyGivenNames x; first | (have hx : Upd 4097 s x := (by unfold x; repeat' first | with_reducible assumption | (guard_target =~ (_ ||| _ : Nat) = _; decide) | with_reducible apply Upd.ite | with_reducible apply State.raise_upd | with_reducible apply pairsDecide_upd | with_reducible apply State.setFld_upd); try clear_value x) | (have h9 : (x : Peak) = x := rfl; clear h9) | (have h9 : (x : Saddle) = x := rfl; clear h9) | (have h9 : (x : Pair) = x := rfl; clear h9) | (have h9 : (x : Leg) = x := rfl; clear h9) | clear_value x | skip) | with_reducible apply Upd.ite | with_reducible apply State.raise_upd | with_reducible apply pairsDecide_upd | with_reducible apply State.setFld_upd

theorem firstRead_upd {M0 : Nat} {s0 : State} {p : PeakId} {s : State} (hU : Upd M0 s0 s) (hM : 1 ||| M0 = M0) : Upd M0 s0 (firstRead p s).2 := by
  refine Upd.step hU ?_ hM
  clear hU hM
  unfold firstRead
  have h0 := Upd.refl 1 s
  repeat' first | with_reducible assumption | (guard_target =~ (_ ||| _ : Nat) = _; decide) | (fail_if_no_progress extract_lets +onlyGivenNames x; first | (have hx : Upd 1 s x := (by unfold x; repeat' first | with_reducible assumption | (guard_target =~ (_ ||| _ : Nat) = _; decide) | with_reducible apply Upd.ite | with_reducible apply Upd.ite_snd | with_reducible apply State.setReg_upd); try clear_value x) | (have hx : Upd 1 s x.2 := (by unfold x; repeat' first | with_reducible assumption | (guard_target =~ (_ ||| _ : Nat) = _; decide) | with_reducible apply Upd.ite | with_reducible apply Upd.ite_snd | with_reducible apply State.setReg_upd); try clear_value x) | (have h9 : (x : Peak) = x := rfl; clear h9) | (have h9 : (x : Saddle) = x := rfl; clear h9) | (have h9 : (x : Pair) = x := rfl; clear h9) | (have h9 : (x : Leg) = x := rfl; clear h9) | clear_value x | skip) | with_reducible apply Upd.ite | with_reducible apply Upd.ite_snd | with_reducible apply State.setReg_upd

theorem lateCount_upd {M0 : Nat} {s0 : State} {p : PeakId} {s : State} (hU : Upd M0 s0 s) (hM : 35184372088833 ||| M0 = M0) : Upd M0 s0 (lateCount p s) := by
  refine Upd.step hU ?_ hM
  clear hU hM
  unfold lateCount
  have h0 := Upd.refl 35184372088833 s
  repeat' first | with_reducible assumption | (guard_target =~ (_ ||| _ : Nat) = _; decide) | with_reducible apply obsCount_upd | with_reducible apply State.bump_upd | with_reducible apply State.raise_upd

theorem compareTo_upd {M0 : Nat} {s0 : State} {c : Nat} {late : Bool} {v : Word} {s : State} (hU : Upd M0 s0 s) (hM : 2049 ||| M0 = M0) : Upd M0 s0 (compareTo c late v s) := by
  refine Upd.step hU ?_ hM
  clear hU hM
  unfold compareTo
  have h0 := Upd.refl 2049 s
  repeat' first | with_reducible assumption | (guard_target =~ (_ ||| _ : Nat) = _; decide) | with_reducible apply Upd.ite | with_reducible apply State.setChan_upd | with_reducible apply State.setRegW_upd

theorem noteShadow_upd {M0 : Nat} {s0 : State} {m : Master} {ch : Nat} {v : Nat} {s : State} (hU : Upd M0 s0 s) (hM : 4194304 ||| M0 = M0) : Upd M0 s0 (noteShadow m ch v s) := by
  refine Upd.step hU ?_ hM
  clear hU hM
  unfold noteShadow
  have h0 := Upd.refl 4194304 s
  repeat' first | with_reducible assumption | (guard_target =~ (_ ||| _ : Nat) = _; decide) | (fail_if_no_progress extract_lets +onlyGivenNames x; first | (have hx : Upd 4194304 s x := (by unfold x; repeat' first | with_reducible assumption | (guard_target =~ (_ ||| _ : Nat) = _; decide) | with_reducible apply Upd.ite | split | with_reducible apply Upd.lit | exact rfl | exact SadUpd.refl _ _ | with_reducible apply SadUpd.ite | apply SadUpd.mk | exact fun _ => PeakUpd.refl _ _ | exact Or.inl (by decide) | exact Or.inr rfl); try clear_value x) | (have h9 : (x : Peak) = x := rfl; clear h9) | (have h9 : (x : Saddle) = x := rfl; clear h9) | (have h9 : (x : Pair) = x := rfl; clear h9) | (have h9 : (x : Leg) = x := rfl; clear h9) | clear_value x | skip) | with_reducible apply Upd.ite | split | with_reducible apply Upd.lit | exact rfl | exact SadUpd.refl _ _ | with_reducible apply SadUpd.ite | apply SadUpd.mk | exact fun _ => PeakUpd.refl _ _ | exact Or.inl (by decide) | exact Or.inr rfl

theorem compareStore_upd {M0 : Nat} {s0 : State} {m : Master} {ws : List (Nat × Word)} {s : State} (hU : Upd M0 s0 s) (hM : 35184376285185 ||| M0 = M0) : Upd M0 s0 (compareStore m ws s) := by
  refine Upd.step hU ?_ hM
  clear hU hM
  unfold compareStore
  have h0 := Upd.refl 35184376285185 s
  repeat' first | with_reducible assumption | (guard_target =~ (_ ||| _ : Nat) = _; decide) | (fail_if_no_progress extract_lets +onlyGivenNames x; first | (have hx : Upd 35184376285185 s x := (by unfold x; repeat' first | with_reducible assumption | (guard_target =~ (_ ||| _ : Nat) = _; decide) | with_reducible apply Upd.ite | with_reducible refine Upd.forAll ?_ (fun _ _ _ => ?_) | with_reducible apply noteShadow_upd | with_reducible apply State.setChan_upd | with_reducible apply compareTo_upd | with_reducible apply lateCount_upd | split); try clear_value x) | (have hx : Upd 35184376285185 s x.2 := (by unfold x; repeat' first | with_reducible assumption | (guard_target =~ (_ ||| _ : Nat) = _; decide) | with_reducible apply Upd.ite | with_reducible refine Upd.forAll ?_ (fun _ _ _ => ?_) | with_reducible apply noteShadow_upd | with_reducible apply State.setChan_upd | with_reducible apply compareTo_upd | with_reducible apply lateCount_upd | split); try clear_value x) | (have h9 : (x : Peak) = x := rfl; clear h9) | (have h9 : (x : Saddle) = x := rfl; clear h9) | (have h9 : (x : Pair) = x := rfl; clear h9) | (have h9 : (x : Leg) = x := rfl; clear h9) | clear_value x | skip) | with_reducible apply Upd.ite | with_reducible refine Upd.forAll ?_ (fun _ _ _ => ?_) | with_reducible apply noteShadow_upd | with_reducible apply State.setChan_upd | with_reducible apply compareTo_upd | with_reducible apply lateCount_upd | split

theorem commitStore_upd {M0 : Nat} {s0 : State} {m : Master} {mask : Nat} {s : State} (hU : Upd M0 s0 s) (hM : 35184376285185 ||| M0 = M0) : Upd M0 s0 (commitStore m mask s) := by
  refine Upd.step hU ?_ hM
  clear hU hM
  unfold commitStore
  have h0 := Upd.refl 35184376285185 s
  repeat' first | with_reducible assumption | (guard_target =~ (_ ||| _ : Nat) = _; decide) | (fail_if_no_progress extract_lets +onlyGivenNames x; first | (have hx : Upd 35184376285185 s x := (by unfold x; repeat' first | with_reducible assumption | (guard_target =~ (_ ||| _ : Nat) = _; decide) | (fail_if_no_progress extract_lets +onlyGivenNames x; first | (have hx : Upd 35184376285185 s x := (by unfold x; repeat' first | with_reducible assumption | (guard_target =~ (_ ||| _ : Nat) = _; decide) | with_reducible apply Upd.ite | with_reducible apply noteShadow_upd | with_reducible refine Upd.forAll ?_ (fun _ _ _ => ?_) | with_reducible apply compareTo_upd | with_reducible apply State.setChan_upd | with_reducible apply lateCount_upd | split); try clear_value x) | (have h9 : (x : Peak) = x := rfl; clear h9) | (have h9 : (x : Saddle) = x := rfl; clear h9) | (have h9 : (x : Pair) = x := rfl; clear h9) | (have h9 : (x : Leg) = x := rfl; clear h9) | clear_value x | skip) | with_reducible apply Upd.ite | with_reducible apply noteShadow_upd | with_reducible refine Upd.forAll ?_ (fun _ _ _ => ?_) | with_reducible apply compareTo_upd | with_reducible apply State.setChan_upd | with_reducible apply lateCount_upd | split); try clear_value x) | (have h9 : (x : Peak) = x := rfl; clear h9) | (have h9 : (x : Saddle) = x := rfl; clear h9) | (have h9 : (x : Pair) = x := rfl; clear h9) | (have h9 : (x : Leg) = x := rfl; clear h9) | clear_value x | skip) | with_reducible apply Upd.ite | with_reducible apply noteShadow_upd | with_reducible refine Upd.forAll ?_ (fun _ _ _ => ?_) | with_reducible apply compareTo_upd | with_reducible apply State.setChan_upd | with_reducible apply lateCount_upd | split

theorem lateMove_upd {M0 : Nat} {s0 : State} {tb : Nat} {s : State} (hU : Upd M0 s0 s) (hM : 3073 ||| M0 = M0) : Upd M0 s0 (lateMove tb s) := by
  refine Upd.step hU ?_ hM
  clear hU hM
  unfold lateMove
  have h0 := Upd.refl 3073 s
  repeat' first | with_reducible assumption | (guard_target =~ (_ ||| _ : Nat) = _; decide) | (fail_if_no_progress extract_lets +onlyGivenNames x; first | (have hx : Upd 3073 s x := (by unfold x; repeat' first | with_reducible assumption | (guard_target =~ (_ ||| _ : Nat) = _; decide) | with_reducible apply Upd.ite | with_reducible refine Upd.forAll ?_ (fun _ _ _ => ?_) | with_reducible apply compareTo_upd | with_reducible apply State.setReg_upd | with_reducible apply State.setTb_upd | split); try clear_value x) | (have h9 : (x : Peak) = x := rfl; clear h9) | (have h9 : (x : Saddle) = x := rfl; clear h9) | (have h9 : (x : Pair) = x := rfl; clear h9) | (have h9 : (x : Leg) = x := rfl; clear h9) | clear_value x | skip) | with_reducible apply Upd.ite | with_reducible refine Upd.forAll ?_ (fun _ _ _ => ?_) | with_reducible apply compareTo_upd | with_reducible apply State.setReg_upd | with_reducible apply State.setTb_upd | split

theorem prdWrite_upd {M0 : Nat} {s0 : State} {p : PeakId} {tb : Nat} {v : Nat} {s : State} (hU : Upd M0 s0 s) (hM : 35184372089857 ||| M0 = M0) : Upd M0 s0 (prdWrite p tb v s) := by
  refine Upd.step hU ?_ hM
  clear hU hM
  unfold prdWrite
  have h0 := Upd.refl 35184372089857 s
  repeat' first | with_reducible assumption | (guard_target =~ (_ ||| _ : Nat) = _; decide) | (fail_if_no_progress extract_lets +onlyGivenNames x; first | (have hx : Upd 35184372089857 s x := (by unfold x; repeat' first | with_reducible assumption | (guard_target =~ (_ ||| _ : Nat) = _; decide) | with_reducible apply Upd.ite | with_reducible refine Upd.when ?_ (fun _ _ => ?_) | with_reducible apply State.raise_upd | with_reducible apply lateCount_upd | with_reducible apply State.setTb_upd | with_reducible apply State.setReg_upd); try clear_value x) | (have h9 : (x : Peak) = x := rfl; clear h9) | (have h9 : (x : Saddle) = x := rfl; clear h9) | (have h9 : (x : Pair) = x := rfl; clear h9) | (have h9 : (x : Leg) = x := rfl; clear h9) | clear_value x | skip) | with_reducible apply Upd.ite | with_reducible refine Upd.when ?_ (fun _ _ => ?_) | with_reducible apply State.raise_upd | with_reducible apply lateCount_upd | with_reducible apply State.setTb_upd | with_reducible apply State.setReg_upd

theorem deadWrite_upd {M0 : Nat} {s0 : State} {pair : Nat} {reg : Nat} {v : Nat} {s : State} (hU : Upd M0 s0 s) (hM : 1 ||| M0 = M0) : Upd M0 s0 (deadWrite pair reg v s) := by
  refine Upd.step hU ?_ hM
  clear hU hM
  unfold deadWrite
  have h0 := Upd.refl 1 s
  repeat' first | with_reducible assumption | (guard_target =~ (_ ||| _ : Nat) = _; decide) | (fail_if_no_progress extract_lets +onlyGivenNames x; first | (have hx : Upd 1 s x := (by unfold x; repeat' first | with_reducible assumption | (guard_target =~ (_ ||| _ : Nat) = _; decide) | with_reducible apply Upd.ite | with_reducible apply State.setReg_upd | with_reducible apply State.raise_upd | split); try clear_value x) | (have h9 : (x : Peak) = x := rfl; clear h9) | (have h9 : (x : Saddle) = x := rfl; clear h9) | (have h9 : (x : Pair) = x := rfl; clear h9) | (have h9 : (x : Leg) = x := rfl; clear h9) | clear_value x | skip) | with_reducible apply Upd.ite | with_reducible apply State.setReg_upd | with_reducible apply State.raise_upd | split

theorem activeRefresh_upd {M0 : Nat} {s0 : State} {s : State} (hU : Upd M0 s0 s) (hM : 1 ||| M0 = M0) : Upd M0 s0 (activeRefresh s) := by
  refine Upd.step hU ?_ hM
  clear hU hM
  unfold activeRefresh
  have h0 := Upd.refl 1 s
  repeat' first | with_reducible assumption | (guard_target =~ (_ ||| _ : Nat) = _; decide) | with_reducible refine Upd.forAll ?_ (fun _ _ _ => ?_) | with_reducible apply State.setBit_upd

theorem chanCfgWrite_upd {M0 : Nat} {s0 : State} {c : Nat} {v : Nat} {s : State} (hU : Upd M0 s0 s) (hM : 4097 ||| M0 = M0) : Upd M0 s0 (chanCfgWrite c v s) := by
  refine Upd.step hU ?_ hM
  clear hU hM
  unfold chanCfgWrite
  have h0 := Upd.refl 4097 s
  repeat' first | with_reducible assumption | (guard_target =~ (_ ||| _ : Nat) = _; decide) | (fail_if_no_progress extract_lets +onlyGivenNames x; first | (have hx : Upd 4097 s x := (by unfold x; repeat' first | with_reducible assumption | (guard_target =~ (_ ||| _ : Nat) = _; decide) | with_reducible apply Upd.ite | with_reducible apply State.raise_upd | with_reducible apply pairsDecide_upd | with_reducible apply activeRefresh_upd | with_reducible apply State.setReg_upd); try clear_value x) | (have h9 : (x : Peak) = x := rfl; clear h9) | (have h9 : (x : Saddle) = x := rfl; clear h9) | (have h9 : (x : Pair) = x := rfl; clear h9) | (have h9 : (x : Leg) = x := rfl; clear h9) | clear_value x | skip) | with_reducible apply Upd.ite | with_reducible apply State.raise_upd | with_reducible apply pairsDecide_upd | with_reducible apply activeRefresh_upd | with_reducible apply State.setReg_upd

theorem chanLatch_upd {M0 : Nat} {s0 : State} {tb : Nat} {c : Nat} {s : State} (hU : Upd M0 s0 s) (hM : 1 ||| M0 = M0) : Upd M0 s0 (chanLatch tb c s) := by
  refine Upd.step hU ?_ hM
  clear hU hM
  unfold chanLatch
  have h0 := Upd.refl 1 s
  repeat' first | with_reducible assumption | (guard_target =~ (_ ||| _ : Nat) = _; decide) | (fail_if_no_progress extract_lets +onlyGivenNames x; first | (have hx : Upd 1 s x := (by unfold x; repeat' first | with_reducible assumption | (guard_target =~ (_ ||| _ : Nat) = _; decide) | with_reducible apply Upd.ite | with_reducible apply State.raise_upd | with_reducible apply State.setRegI_upd); try clear_value x) | (have h9 : (x : Peak) = x := rfl; clear h9) | (have h9 : (x : Saddle) = x := rfl; clear h9) | (have h9 : (x : Pair) = x := rfl; clear h9) | (have h9 : (x : Leg) = x := rfl; clear h9) | clear_value x | skip) | with_reducible apply Upd.ite | with_reducible apply State.raise_upd | with_reducible apply State.setRegI_upd

theorem pairWrap_upd {M0 : Nat} {s0 : State} {tb : Nat} {p : Nat} {s : State} (hU : Upd M0 s0 s) (hM : 4097 ||| M0 = M0) : Upd M0 s0 (pairWrap tb p s) := by
  refine Upd.step hU ?_ hM
  clear hU hM
  unfold pairWrap
  have h0 := Upd.refl 4097 s
  repeat' first | with_reducible assumption | (guard_target =~ (_ ||| _ : Nat) = _; decide) | (fail_if_no_progress extract_lets +onlyGivenNames x; first | (have hx : Upd 4097 s x := (by unfold x; repeat' first | with_reducible assumption | (guard_target =~ (_ ||| _ : Nat) = _; decide) | with_reducible apply Upd.ite | with_reducible refine Upd.setPair ?_ ?_ ?_ | with_reducible apply State.setBit_upd | with_reducible apply State.setFld_upd | with_reducible apply pairDecide_upd | split | (guard_target =~ Nat.testBit _ _ = true; decide) | exact fun hs => State.pair_safe (Upd.sound (by with_reducible assumption) hs) _ | (guard_target =~ _ = true → _ = false; intro _; simp)); try clear_value x) | (have hx : Upd 4097 s x.2 := (by unfold x; repeat' first | with_reducible assumption | (guard_target =~ (_ ||| _ : Nat) = _; decide) | with_reducible apply Upd.ite | with_reducible refine Upd.setPair ?_ ?_ ?_ | with_reducible apply State.setBit_upd | with_reducible apply State.setFld_upd | with_reducible apply pairDecide_upd | split | (guard_target =~ Nat.testBit _ _ = true; decide) | exact fun hs => State.pair_safe (Upd.sound (by with_reducible assumption) hs) _ | (guard_target =~ _ = true → _ = false; intro _; simp)); try clear_value x) | (have h9 : (x : Peak) = x := rfl; clear h9) | (have h9 : (x : Saddle) = x := rfl; clear h9) | (have h9 : (x : Pair) = x := rfl; clear h9) | (have h9 : (x : Leg) = x := rfl; clear h9) | clear_value x | skip) | with_reducible apply Upd.ite | with_reducible refine Upd.setPair ?_ ?_ ?_ | with_reducible apply State.setBit_upd | with_reducible apply State.setFld_upd | with_reducible apply pairDecide_upd | split | (guard_target =~ Nat.testBit _ _ = true; decide) | exact fun hs => State.pair_safe (Upd.sound (by with_reducible assumption) hs) _ | (guard_target =~ _ = true → _ = false; intro _; simp)

theorem saddleLatch_upd {M0 : Nat} {s0 : State} {tb : Nat} {s : State} (hU : Upd M0 s0 s) (hM : 7169 ||| M0 = M0) : Upd M0 s0 (saddleLatch tb s) := by
  refine Upd.step hU ?_ hM
  clear hU hM
  unfold saddleLatch
  have h0 := Upd.refl 7169 s
  repeat' first | with_reducible assumption | (guard_target =~ (_ ||| _ : Nat) = _; decide) | (fail_if_no_progress extract_lets +onlyGivenNames x; first | (have hx : Upd 7169 s x := (by unfold x; repeat' first | with_reducible assumption | (guard_target =~ (_ ||| _ : Nat) = _; decide) | with_reducible refine Upd.forAll ?_ (fun _ _ _ => ?_) | with_reducible apply chanLatch_upd | with_reducible apply lateMove_upd | with_reducible apply pairWrap_upd); try clear_value x) | (have h9 : (x : Peak) = x := rfl; clear h9) | (have h9 : (x : Saddle) = x := rfl; clear h9) | (have h9 : (x : Pair) = x := rfl; clear h9) | (have h9 : (x : Leg) = x := rfl; clear h9) | clear_value x | skip) | with_reducible refine Upd.forAll ?_ (fun _ _ _ => ?_) | with_reducible apply chanLatch_upd | with_reducible apply lateMove_upd | with_reducible apply pairWrap_upd

theorem pairCompare_upd {M0 : Nat} {s0 : State} {p : Nat} {s : State} (hU : Upd M0 s0 s) (hM : 4096 ||| M0 = M0) : Upd M0 s0 (pairCompare p s) := by
  refine Upd.step hU ?_ hM
  clear hU hM
  unfold pairCompare
  have h0 := Upd.refl 4096 s
  repeat' first | with_reducible assumption | (guard_target =~ (_ ||| _ : Nat) = _; decide) | (fail_if_no_progress extract_lets +onlyGivenNames x; first | (have hx : Upd 4096 s x := (by unfold x; repeat' first | with_reducible assumption | (guard_target =~ (_ ||| _ : Nat) = _; decide) | with_reducible apply Upd.ite | with_reducible apply pairDrive_upd | with_reducible refine Upd.setPair ?_ ?_ ?_ | split | (guard_target =~ Nat.testBit _ _ = true; decide) | exact fun hs => State.pair_safe (Upd.sound (by with_reducible assumption) hs) _ | (guard_target =~ _ = true → _ = false; intro _; simp)); try clear_value x) | (have h9 : (x : Peak) = x := rfl; clear h9) | (have h9 : (x : Saddle) = x := rfl; clear h9) | (have h9 : (x : Pair) = x := rfl; clear h9) | (have h9 : (x : Leg) = x := rfl; clear h9) | clear_value x | skip) | with_reducible apply Upd.ite | with_reducible apply pairDrive_upd | with_reducible refine Upd.setPair ?_ ?_ ?_ | split | (guard_target =~ Nat.testBit _ _ = true; decide) | exact fun hs => State.pair_safe (Upd.sound (by with_reducible assumption) hs) _ | (guard_target =~ _ = true → _ = false; intro _; simp)

theorem eventCompare_upd {M0 : Nat} {s0 : State} {c : Nat} {s : State} (hU : Upd M0 s0 s) (hM : 248523987615757 ||| M0 = M0) : Upd M0 s0 (eventCompare c s) := by
  refine Upd.step hU ?_ hM
  clear hU hM
  unfold eventCompare
  have h0 := Upd.refl 248523987615757 s
  repeat' first | with_reducible assumption | (guard_target =~ (_ ||| _ : Nat) = _; decide) | with_reducible apply Upd.ite | with_reducible apply fireBoth_upd

theorem pairDeadEnd_upd {M0 : Nat} {s0 : State} {p : Nat} {s : State} (hU : Upd M0 s0 s) (hM : 4096 ||| M0 = M0) : Upd M0 s0 (pairDeadEnd p s) := by
  refine Upd.step hU ?_ hM
  clear hU hM
  unfold pairDeadEnd
  have h0 := Upd.refl 4096 s
  dsimp only
  repeat' first | exact h0 | split
  all_goals
    rename_i hn
    rw [Bool.or_eq_true, not_or] at hn
    exact Upd.setPair (by decide) h0 (fun _ => by simpa using hn.1)

theorem delayCalibrated_upd {M0 : Nat} {s0 : State} {b : Nat} {ok : Bool} {s : State} (hU : Upd M0 s0 s) (hM : 524289 ||| M0 = M0) : Upd M0 s0 (delayCalibrated b ok s) := by
  refine Upd.step hU ?_ hM
  clear hU hM
  unfold delayCalibrated
  have h0 := Upd.refl 524289 s
  repeat' first | with_reducible assumption | (guard_target =~ (_ ||| _ : Nat) = _; decide) | (fail_if_no_progress extract_lets +onlyGivenNames x; first | (have hx : Upd 524289 s x := (by unfold x; repeat' first | with_reducible assumption | (guard_target =~ (_ ||| _ : Nat) = _; decide) | with_reducible apply Upd.ite | with_reducible apply State.raise_upd | with_reducible apply pwmRefresh_upd | with_reducible refine Upd.forAll ?_ (fun _ _ _ => ?_) | with_reducible apply State.setFld_upd | with_reducible apply Upd.lit | exact rfl | exact SadUpd.refl _ _ | with_reducible apply SadUpd.ite | apply SadUpd.mk | exact fun _ => PeakUpd.refl _ _ | exact Or.inl (by decide) | exact Or.inr rfl); try clear_value x) | (have h9 : (x : Peak) = x := rfl; clear h9) | (have h9 : (x : Saddle) = x := rfl; clear h9) | (have h9 : (x : Pair) = x := rfl; clear h9) | (have h9 : (x : Leg) = x := rfl; clear h9) | clear_value x | skip) | with_reducible apply Upd.ite | with_reducible apply State.raise_upd | with_reducible apply pwmRefresh_upd | with_reducible refine Upd.forAll ?_ (fun _ _ _ => ?_) | with_reducible apply State.setFld_upd | with_reducible apply Upd.lit | exact rfl | exact SadUpd.refl _ _ | with_reducible apply SadUpd.ite | apply SadUpd.mk | exact fun _ => PeakUpd.refl _ _ | exact Or.inl (by decide) | exact Or.inr rfl

theorem execDelayLineCalibration_upd (bank : Fin 8) (ok : Bool) (s : State) {t : State} (hX : execDelayLineCalibration bank ok s = .next t) : Upd 524289 s t := by
  unfold execDelayLineCalibration at hX
  cases hX
  have h0 := Upd.refl 524289 s
  repeat' first | with_reducible assumption | (guard_target =~ (_ ||| _ : Nat) = _; decide) | with_reducible apply delayCalibrated_upd

theorem execCommit_upd (m : Master) (mask : BitVec 8) (s : State) {t : State} (hX : execCommit m mask s = .next t) : Upd 35184376285185 s t := by
  unfold execCommit at hX
  cases hX
  have h0 := Upd.refl 35184376285185 s
  repeat' first | with_reducible assumption | (guard_target =~ (_ ||| _ : Nat) = _; decide) | with_reducible apply Upd.ite | with_reducible apply xtoRecord_upd | with_reducible apply commitStore_upd

theorem execTripFirstRead_upd (m : Master) (s : State) {t : State} (hX : execTripFirstRead m s = .next t) : Upd 17 s t := by
  unfold execTripFirstRead at hX
  cases hX
  have h0 := Upd.refl 17 s
  repeat' first | with_reducible assumption | (guard_target =~ (_ ||| _ : Nat) = _; decide) | with_reducible apply Upd.ite | with_reducible apply Upd.ite_snd | with_reducible refine returned_upd ?_ ?_ | with_reducible apply firstRead_upd | with_reducible apply xtoRecord_upd

end Sys2Proof.Machine
end

