-- ==== Sys2Proof/Laws/UpdSpur.lean ====
section
/-! SUPPORT. What each operation of Machine/Spur.lean may change. -/

set_option linter.unusedTactic false
set_option linter.unreachableTactic false

namespace Sys2Proof.Machine

theorem State.leg_safe {s : State} (h : s.sound = true) (p : Nat) : ((s.leg p).hi && (s.leg p).lo) = false := by
  rw [State.sound_iff] at h
  have k := Tab.get_all (fun _ => ({} : Leg)) (fun q => !(q.hi && q.lo)) s.saddle.legs h.2.2.2 p rfl
  exact Bool.not_eq_true' _ ▸ k

/-- A leg is written with at most one of its switches on. -/
theorem Upd.setLeg {M : Nat} {s x : State} {p : Nat} {q : Leg} (hM : Nat.testBit M 13 = true) (h : Upd M s x)
    (hq : s.sound = true → (q.hi && q.lo) = false) : Upd M s (x.setLeg p q) := by
  unfold State.setLeg
  constructor
  case sound =>
    intro hs
    have hx := h.sound hs
    rw [State.sound_iff] at hx ⊢
    exact ⟨hx.1, hx.2.1, hx.2.2.1, Tab.all_put (fun _ => ({} : Leg)) (fun q : Leg => !(q.hi && q.lo)) x.saddle.legs p q hx.2.2.2 (by simp only [hq hs, Bool.not_false])⟩
  case legs => intro hb; rw [hM] at hb; exact absurd hb (by decide)
  case pending => exact h.pending
  case tick => exact h.tick
  case peak => exact h.peak
  case regs => exact h.regs
  case mem => exact h.mem
  case cores => exact h.cores
  case tasks => exact h.tasks
  case readData => exact h.readData
  case periodCount => exact h.periodCount
  case cirq => exact h.cirq
  case cairn => exact h.cairn
  case tick0 => exact h.tick0
  case mdio => exact h.mdio
  case tbs => exact h.tbs
  case chans => exact h.chans
  case pairs => exact h.pairs
  case pifs => exact h.pifs
  case clock => exact h.clock
  case trips => exact h.trips
  case ascHigh => exact h.ascHigh
  case firstTick => exact h.firstTick
  case dlBad => exact h.dlBad
  case strobe => exact h.strobe
  case flight => exact h.flight
  case wrote => exact h.wrote
  case goodRuns => exact h.goodRuns
  case gdm => exact h.gdm
  case saf => exact h.saf
  case power => exact h.power
  case col => exact h.col
  case wrapTick => exact h.wrapTick
  case meanDue => exact h.meanDue
  case free => exact h.free

theorem legDrive_upd {M0 : Nat} {s0 : State} {n : Nat} {wantHi wantLo : Bool} {s : State} (hU : Upd M0 s0 s) (hM : 8192 ||| M0 = M0) : Upd M0 s0 (legDrive n wantHi wantLo s) := by
  refine Upd.step hU ?_ hM
  refine Upd.setLeg (by decide) (Upd.refl _ _) (fun _ => ?_)
  cases wantHi <;> simp

theorem legDecide_upd {M0 : Nat} {s0 : State} {n : Nat} {s : State} (hU : Upd M0 s0 s) (hM : 8193 ||| M0 = M0) : Upd M0 s0 (legDecide n s) := by
  refine Upd.step hU ?_ hM
  clear hU hM
  unfold legDecide
  have h0 := Upd.refl 8193 s
  repeat' first | with_reducible assumption | (guard_target =~ (_ ||| _ : Nat) = _; decide) | (fail_if_no_progress extract_lets +onlyGivenNames x; first | (have hx : Upd 8193 s x := (by unfold x; repeat' first | with_reducible assumption | (guard_target =~ (_ ||| _ : Nat) = _; decide) | with_reducible apply Upd.ite | with_reducible apply legDrive_upd | with_reducible apply State.setFld_upd | with_reducible refine Upd.setLeg ?_ ?_ ?_ | (guard_target =~ Nat.testBit _ _ = true; decide) | exact fun hs => State.leg_safe (Upd.sound (by with_reducible assumption) hs) _ | (guard_target =~ _ = true → _ = false; intro _; simp [*])); try clear_value x) | (have hx : Upd 8193 s x.2 := (by unfold x; repeat' first | with_reducible assumption | (guard_target =~ (_ ||| _ : Nat) = _; decide) | with_reducible apply Upd.ite | with_reducible apply legDrive_upd | with_reducible apply State.setFld_upd | with_reducible refine Upd.setLeg ?_ ?_ ?_ | (guard_target =~ Nat.testBit _ _ = true; decide) | exact fun hs => State.leg_safe (Upd.sound (by with_reducible assumption) hs) _ | (guard_target =~ _ = true → _ = false; intro _; simp [*])); try clear_value x) | (have h9 : (x : Peak) = x := rfl; clear h9) | (have h9 : (x : Saddle) = x := rfl; clear h9) | (have h9 : (x : Pair) = x := rfl; clear h9) | (have h9 : (x : Leg) = x := rfl; clear h9) | clear_value x | skip) | with_reducible apply Upd.ite | with_reducible apply legDrive_upd | with_reducible apply State.setFld_upd | with_reducible refine Upd.setLeg ?_ ?_ ?_ | (guard_target =~ Nat.testBit _ _ = true; decide) | exact fun hs => State.leg_safe (Upd.sound (by with_reducible assumption) hs) _ | (guard_target =~ _ = true → _ = false; intro _; simp [*])

theorem legsDecide_upd {M0 : Nat} {s0 : State} {s : State} (hU : Upd M0 s0 s) (hM : 8193 ||| M0 = M0) : Upd M0 s0 (legsDecide s) := by
  refine Upd.step hU ?_ hM
  clear hU hM
  unfold legsDecide
  have h0 := Upd.refl 8193 s
  repeat' first | with_reducible assumption | (guard_target =~ (_ ||| _ : Nat) = _; decide) | with_reducible refine Upd.forAll ?_ (fun _ _ _ => ?_) | with_reducible apply legDecide_upd

theorem legOff_upd {M0 : Nat} {s0 : State} {n : Nat} {s : State} (hU : Upd M0 s0 s) (hM : 8193 ||| M0 = M0) : Upd M0 s0 (legOff n s) := by
  refine Upd.step hU ?_ hM
  clear hU hM
  unfold legOff
  have h0 := Upd.refl 8193 s
  repeat' first | with_reducible assumption | (guard_target =~ (_ ||| _ : Nat) = _; decide) | (fail_if_no_progress extract_lets +onlyGivenNames x; first | (have hx : Upd 8193 s x := (by unfold x; repeat' first | with_reducible assumption | (guard_target =~ (_ ||| _ : Nat) = _; decide) | with_reducible apply State.setFld_upd | with_reducible apply setBitOf_upd | with_reducible refine Upd.setLeg ?_ ?_ ?_ | (guard_target =~ Nat.testBit _ _ = true; decide) | exact fun hs => State.leg_safe (Upd.sound (by with_reducible assumption) hs) _ | (guard_target =~ _ = true → _ = false; intro _; simp [*])); try clear_value x) | (have h9 : (x : Peak) = x := rfl; clear h9) | (have h9 : (x : Saddle) = x := rfl; clear h9) | (have h9 : (x : Pair) = x := rfl; clear h9) | (have h9 : (x : Leg) = x := rfl; clear h9) | clear_value x | skip) | with_reducible apply State.setFld_upd | with_reducible apply setBitOf_upd | with_reducible refine Upd.setLeg ?_ ?_ ?_ | (guard_target =~ Nat.testBit _ _ = true; decide) | exact fun hs => State.leg_safe (Upd.sound (by with_reducible assumption) hs) _ | (guard_target =~ _ = true → _ = false; intro _; simp [*])

theorem ascAllOff_upd {M0 : Nat} {s0 : State} {s : State} (hU : Upd M0 s0 s) (hM : 1 ||| M0 = M0) : Upd M0 s0 (ascAllOff s) := by
  refine Upd.step hU ?_ hM
  clear hU hM
  unfold ascAllOff
  have h0 := Upd.refl 1 s
  repeat' first | with_reducible assumption | (guard_target =~ (_ ||| _ : Nat) = _; decide) | with_reducible apply State.setFld_upd | with_reducible apply State.raise_upd

theorem ascSide_upd {M0 : Nat} {s0 : State} {high : Bool} {s : State} (hU : Upd M0 s0 s) (hM : 131073 ||| M0 = M0) : Upd M0 s0 (ascSide high s) := by
  refine Upd.step hU ?_ hM
  clear hU hM
  unfold ascSide
  have h0 := Upd.refl 131073 s
  repeat' first | with_reducible assumption | (guard_target =~ (_ ||| _ : Nat) = _; decide) | (fail_if_no_progress extract_lets +onlyGivenNames x; first | (have hx : Upd 131073 s x := (by unfold x; repeat' first | with_reducible assumption | (guard_target =~ (_ ||| _ : Nat) = _; decide) | with_reducible apply State.setFld_upd | with_reducible apply Upd.lit | exact rfl | exact SadUpd.refl _ _ | with_reducible apply SadUpd.ite | apply SadUpd.mk | exact fun _ => PeakUpd.refl _ _ | exact Or.inl (by decide) | exact Or.inr rfl); try clear_value x) | (have h9 : (x : Peak) = x := rfl; clear h9) | (have h9 : (x : Saddle) = x := rfl; clear h9) | (have h9 : (x : Pair) = x := rfl; clear h9) | (have h9 : (x : Leg) = x := rfl; clear h9) | clear_value x | skip) | with_reducible apply State.setFld_upd | with_reducible apply Upd.lit | exact rfl | exact SadUpd.refl _ _ | with_reducible apply SadUpd.ite | apply SadUpd.mk | exact fun _ => PeakUpd.refl _ _ | exact Or.inl (by decide) | exact Or.inr rfl

theorem ascEnter_upd {M0 : Nat} {s0 : State} {s : State} (hU : Upd M0 s0 s) (hM : 139265 ||| M0 = M0) : Upd M0 s0 (ascEnter s) := by
  refine Upd.step hU ?_ hM
  clear hU hM
  unfold ascEnter
  have h0 := Upd.refl 139265 s
  repeat' first | with_reducible assumption | (guard_target =~ (_ ||| _ : Nat) = _; decide) | (fail_if_no_progress extract_lets +onlyGivenNames x; first | (have hx : Upd 139265 s x := (by unfold x; repeat' first | with_reducible assumption | (guard_target =~ (_ ||| _ : Nat) = _; decide) | with_reducible apply Upd.ite | with_reducible refine Upd.forAll ?_ (fun _ _ _ => ?_) | with_reducible apply legOff_upd | with_reducible apply ascAllOff_upd | with_reducible apply ascSide_upd | with_reducible apply legsDecide_upd | with_reducible apply State.setFld_upd); try clear_value x) | (have h9 : (x : Peak) = x := rfl; clear h9) | (have h9 : (x : Saddle) = x := rfl; clear h9) | (have h9 : (x : Pair) = x := rfl; clear h9) | (have h9 : (x : Leg) = x := rfl; clear h9) | clear_value x | skip) | with_reducible apply Upd.ite | with_reducible refine Upd.forAll ?_ (fun _ _ _ => ?_) | with_reducible apply legOff_upd | with_reducible apply ascAllOff_upd | with_reducible apply ascSide_upd | with_reducible apply legsDecide_upd | with_reducible apply State.setFld_upd

theorem ascFault_upd {M0 : Nat} {s0 : State} {high : Bool} {s : State} (hU : Upd M0 s0 s) (hM : 139265 ||| M0 = M0) : Upd M0 s0 (ascFault high s) := by
  refine Upd.step hU ?_ hM
  clear hU hM
  unfold ascFault
  have h0 := Upd.refl 139265 s
  repeat' first | with_reducible assumption | (guard_target =~ (_ ||| _ : Nat) = _; decide) | with_reducible apply Upd.ite | with_reducible apply legsDecide_upd | with_reducible apply ascAllOff_upd | with_reducible apply ascSide_upd

theorem ascEnd_upd {M0 : Nat} {s0 : State} {s : State} (hU : Upd M0 s0 s) (hM : 8193 ||| M0 = M0) : Upd M0 s0 (ascEnd s) := by
  refine Upd.step hU ?_ hM
  clear hU hM
  unfold ascEnd
  have h0 := Upd.refl 8193 s
  repeat' first | with_reducible assumption | (guard_target =~ (_ ||| _ : Nat) = _; decide) | (fail_if_no_progress extract_lets +onlyGivenNames x; first | (have hx : Upd 8193 s x := (by unfold x; repeat' first | with_reducible assumption | (guard_target =~ (_ ||| _ : Nat) = _; decide) | with_reducible apply Upd.ite | with_reducible apply State.setFld_upd | with_reducible refine Upd.forAll ?_ (fun _ _ _ => ?_) | with_reducible apply legDecide_upd | with_reducible apply legOff_upd); try clear_value x) | (have h9 : (x : Peak) = x := rfl; clear h9) | (have h9 : (x : Saddle) = x := rfl; clear h9) | (have h9 : (x : Pair) = x := rfl; clear h9) | (have h9 : (x : Leg) = x := rfl; clear h9) | clear_value x | skip) | with_reducible apply Upd.ite | with_reducible apply State.setFld_upd | with_reducible refine Upd.forAll ?_ (fun _ _ _ => ?_) | with_reducible apply legDecide_upd | with_reducible apply legOff_upd

theorem ascRelease_upd {M0 : Nat} {s0 : State} {s : State} (hU : Upd M0 s0 s) (hM : 8193 ||| M0 = M0) : Upd M0 s0 (ascRelease s) := by
  refine Upd.step hU ?_ hM
  clear hU hM
  unfold ascRelease
  have h0 := Upd.refl 8193 s
  repeat' first | with_reducible assumption | (guard_target =~ (_ ||| _ : Nat) = _; decide) | (fail_if_no_progress extract_lets +onlyGivenNames x; first | (have hx : Upd 8193 s x := (by unfold x; repeat' first | with_reducible assumption | (guard_target =~ (_ ||| _ : Nat) = _; decide) | with_reducible apply Upd.ite | with_reducible apply State.raise_upd | with_reducible apply ascEnd_upd); try clear_value x) | (have h9 : (x : Peak) = x := rfl; clear h9) | (have h9 : (x : Saddle) = x := rfl; clear h9) | (have h9 : (x : Pair) = x := rfl; clear h9) | (have h9 : (x : Leg) = x := rfl; clear h9) | clear_value x | skip) | with_reducible apply Upd.ite | with_reducible apply State.raise_upd | with_reducible apply ascEnd_upd

theorem ascCmd_upd {M0 : Nat} {s0 : State} {v : Nat} {s : State} (hU : Upd M0 s0 s) (hM : 139265 ||| M0 = M0) : Upd M0 s0 (ascCmd v s) := by
  refine Upd.step hU ?_ hM
  clear hU hM
  unfold ascCmd
  have h0 := Upd.refl 139265 s
  repeat' first | with_reducible assumption | (guard_target =~ (_ ||| _ : Nat) = _; decide) | with_reducible apply Upd.ite | with_reducible apply ascEnter_upd | with_reducible apply ascRelease_upd

theorem legsSources_upd {M0 : Nat} {s0 : State} {s : State} (hU : Upd M0 s0 s) (hM : 139265 ||| M0 = M0) : Upd M0 s0 (legsSources s) := by
  refine Upd.step hU ?_ hM
  clear hU hM
  unfold legsSources
  have h0 := Upd.refl 139265 s
  repeat' first | with_reducible assumption | (guard_target =~ (_ ||| _ : Nat) = _; decide) | (fail_if_no_progress extract_lets +onlyGivenNames x; first | (have hx : Upd 139265 s x := (by unfold x; repeat' first | with_reducible assumption | (guard_target =~ (_ ||| _ : Nat) = _; decide) | with_reducible apply Upd.ite | with_reducible apply ascEnter_upd | with_reducible apply legsDecide_upd); try clear_value x) | (have h9 : (x : Peak) = x := rfl; clear h9) | (have h9 : (x : Saddle) = x := rfl; clear h9) | (have h9 : (x : Pair) = x := rfl; clear h9) | (have h9 : (x : Leg) = x := rfl; clear h9) | clear_value x | skip) | with_reducible apply Upd.ite | with_reducible apply ascEnter_upd | with_reducible apply legsDecide_upd

theorem tripInput_upd {M0 : Nat} {s0 : State} {src : Nat} {on : Bool} {s : State} (hU : Upd M0 s0 s) (hM : 248523988086797 ||| M0 = M0) : Upd M0 s0 (tripInput src on s) := by
  refine Upd.step hU ?_ hM
  clear hU hM
  unfold tripInput
  have h0 := Upd.refl 248523988086797 s
  repeat' first | with_reducible assumption | (guard_target =~ (_ ||| _ : Nat) = _; decide) | with_reducible apply legsSources_upd | with_reducible apply sourceIn_upd

theorem tripSw_upd {M0 : Nat} {s0 : State} {v : Nat} {s : State} (hU : Upd M0 s0 s) (hM : 248523988086797 ||| M0 = M0) : Upd M0 s0 (tripSw v s) := by
  refine Upd.step hU ?_ hM
  clear hU hM
  unfold tripSw
  have h0 := Upd.refl 248523988086797 s
  repeat' first | with_reducible assumption | (guard_target =~ (_ ||| _ : Nat) = _; decide) | with_reducible apply Upd.ite | with_reducible apply tripInput_upd

theorem tripClear_upd {M0 : Nat} {s0 : State} {mask : Nat} {s : State} (hU : Upd M0 s0 s) (hM : 143361 ||| M0 = M0) : Upd M0 s0 (tripClear mask s) := by
  refine Upd.step hU ?_ hM
  clear hU hM
  unfold tripClear
  have h0 := Upd.refl 143361 s
  repeat' first | with_reducible assumption | (guard_target =~ (_ ||| _ : Nat) = _; decide) | with_reducible apply legsSources_upd | with_reducible apply latchClear_upd

theorem tripCfg_upd {M0 : Nat} {s0 : State} {src : Nat} {s : State} (hU : Upd M0 s0 s) (hM : 248523988021261 ||| M0 = M0) : Upd M0 s0 (tripCfg src s) := by
  refine Upd.step hU ?_ hM
  clear hU hM
  unfold tripCfg
  have h0 := Upd.refl 248523988021261 s
  repeat' first | with_reducible assumption | (guard_target =~ (_ ||| _ : Nat) = _; decide) | with_reducible apply legsSources_upd | with_reducible apply pairsDecide_upd | with_reducible apply sourceSet_upd

theorem legCount_upd {M0 : Nat} {s0 : State} {n : Nat} {f : Fld} {s : State} (hU : Upd M0 s0 s) (hM : 1 ||| M0 = M0) : Upd M0 s0 (legCount n f s) := by
  refine Upd.step hU ?_ hM
  clear hU hM
  unfold legCount
  have h0 := Upd.refl 1 s
  repeat' first | with_reducible assumption | (guard_target =~ (_ ||| _ : Nat) = _; decide) | with_reducible apply State.bump_upd

theorem legTrip_upd {M0 : Nat} {s0 : State} {n : Nat} {cause : Nat} {s : State} (hU : Upd M0 s0 s) (hM : 248523988086797 ||| M0 = M0) : Upd M0 s0 (legTrip n cause s) := by
  refine Upd.step hU ?_ hM
  clear hU hM
  unfold legTrip
  have h0 := Upd.refl 248523988086797 s
  repeat' first | with_reducible assumption | (guard_target =~ (_ ||| _ : Nat) = _; decide) | (fail_if_no_progress extract_lets +onlyGivenNames x; first | (have hx : Upd 248523988086797 s x := (by unfold x; repeat' first | with_reducible assumption | (guard_target =~ (_ ||| _ : Nat) = _; decide) | with_reducible apply Upd.ite | with_reducible apply legOff_upd | with_reducible apply State.setFld_upd | with_reducible apply setBitOf_upd | with_reducible apply State.raise_upd | with_reducible apply legCount_upd | with_reducible apply fireBoth_upd | with_reducible apply sourceIn_upd | with_reducible apply ascEnter_upd | with_reducible apply legDecide_upd); try clear_value x) | (have h9 : (x : Peak) = x := rfl; clear h9) | (have h9 : (x : Saddle) = x := rfl; clear h9) | (have h9 : (x : Pair) = x := rfl; clear h9) | (have h9 : (x : Leg) = x := rfl; clear h9) | clear_value x | skip) | with_reducible apply Upd.ite | with_reducible apply legOff_upd | with_reducible apply State.setFld_upd | with_reducible apply setBitOf_upd | with_reducible apply State.raise_upd | with_reducible apply legCount_upd | with_reducible apply fireBoth_upd | with_reducible apply sourceIn_upd | with_reducible apply ascEnter_upd | with_reducible apply legDecide_upd

theorem vdsTrip_upd {M0 : Nat} {s0 : State} {n : Nat} {high : Bool} {vds : Nat} {s : State} (hU : Upd M0 s0 s) (hM : 248523988086797 ||| M0 = M0) : Upd M0 s0 (vdsTrip n high vds s) := by
  refine Upd.step hU ?_ hM
  clear hU hM
  unfold vdsTrip
  have h0 := Upd.refl 248523988086797 s
  repeat' first | with_reducible assumption | (guard_target =~ (_ ||| _ : Nat) = _; decide) | (fail_if_no_progress extract_lets +onlyGivenNames x; first | (have hx : Upd 248523988086797 s x := (by unfold x; repeat' first | with_reducible assumption | (guard_target =~ (_ ||| _ : Nat) = _; decide) | with_reducible apply Upd.ite | with_reducible apply State.setFld_upd | with_reducible apply ascFault_upd | with_reducible apply legTrip_upd); try clear_value x) | (have h9 : (x : Peak) = x := rfl; clear h9) | (have h9 : (x : Saddle) = x := rfl; clear h9) | (have h9 : (x : Pair) = x := rfl; clear h9) | (have h9 : (x : Leg) = x := rfl; clear h9) | clear_value x | skip) | with_reducible apply Upd.ite | with_reducible apply State.setFld_upd | with_reducible apply ascFault_upd | with_reducible apply legTrip_upd

theorem refreshStart_upd {M0 : Nat} {s0 : State} {n : Nat} {s : State} (hU : Upd M0 s0 s) (hM : 8193 ||| M0 = M0) : Upd M0 s0 (refreshStart n s) := by
  refine Upd.step hU ?_ hM
  clear hU hM
  unfold refreshStart
  have h0 := Upd.refl 8193 s
  repeat' first | with_reducible assumption | (guard_target =~ (_ ||| _ : Nat) = _; decide) | (fail_if_no_progress extract_lets +onlyGivenNames x; first | (have hx : Upd 8193 s x := (by unfold x; repeat' first | with_reducible assumption | (guard_target =~ (_ ||| _ : Nat) = _; decide) | with_reducible apply Upd.ite | with_reducible apply legDrive_upd | with_reducible apply legCount_upd | with_reducible refine Upd.setLeg ?_ ?_ ?_ | (guard_target =~ Nat.testBit _ _ = true; decide) | exact fun hs => State.leg_safe (Upd.sound (by with_reducible assumption) hs) _ | (guard_target =~ _ = true → _ = false; intro _; simp [*])); try clear_value x) | (have h9 : (x : Peak) = x := rfl; clear h9) | (have h9 : (x : Saddle) = x := rfl; clear h9) | (have h9 : (x : Pair) = x := rfl; clear h9) | (have h9 : (x : Leg) = x := rfl; clear h9) | clear_value x | skip) | with_reducible apply Upd.ite | with_reducible apply legDrive_upd | with_reducible apply legCount_upd | with_reducible refine Upd.setLeg ?_ ?_ ?_ | (guard_target =~ Nat.testBit _ _ = true; decide) | exact fun hs => State.leg_safe (Upd.sound (by with_reducible assumption) hs) _ | (guard_target =~ _ = true → _ = false; intro _; simp [*])

theorem bootUndervoltage_upd {M0 : Nat} {s0 : State} {n : Nat} {s : State} (hU : Upd M0 s0 s) (hM : 248523988086797 ||| M0 = M0) : Upd M0 s0 (bootUndervoltage n s) := by
  refine Upd.step hU ?_ hM
  clear hU hM
  unfold bootUndervoltage
  have h0 := Upd.refl 248523988086797 s
  repeat' first | with_reducible assumption | (guard_target =~ (_ ||| _ : Nat) = _; decide) | (fail_if_no_progress extract_lets +onlyGivenNames x; first | (have hx : Upd 248523988086797 s x := (by unfold x; repeat' first | with_reducible assumption | (guard_target =~ (_ ||| _ : Nat) = _; decide) | with_reducible apply Upd.ite | with_reducible apply State.setFld_upd | with_reducible apply legCount_upd | with_reducible refine Upd.setLeg ?_ ?_ ?_ | with_reducible apply ascFault_upd | with_reducible apply refreshStart_upd | with_reducible apply legTrip_upd | with_reducible apply State.raise_upd | (guard_target =~ Nat.testBit _ _ = true; decide) | exact fun hs => State.leg_safe (Upd.sound (by with_reducible assumption) hs) _ | (guard_target =~ _ = true → _ = false; intro _; simp [*])); try clear_value x) | (have h9 : (x : Peak) = x := rfl; clear h9) | (have h9 : (x : Saddle) = x := rfl; clear h9) | (have h9 : (x : Pair) = x := rfl; clear h9) | (have h9 : (x : Leg) = x := rfl; clear h9) | clear_value x | skip) | with_reducible apply Upd.ite | with_reducible apply State.setFld_upd | with_reducible apply legCount_upd | with_reducible refine Upd.setLeg ?_ ?_ ?_ | with_reducible apply ascFault_upd | with_reducible apply refreshStart_upd | with_reducible apply legTrip_upd | with_reducible apply State.raise_upd | (guard_target =~ Nat.testBit _ _ = true; decide) | exact fun hs => State.leg_safe (Upd.sound (by with_reducible assumption) hs) _ | (guard_target =~ _ = true → _ = false; intro _; simp [*])

theorem spurClear_upd {M0 : Nat} {s0 : State} {mask : Nat} {s : State} (hU : Upd M0 s0 s) (hM : 248523988086797 ||| M0 = M0) : Upd M0 s0 (spurClear mask s) := by
  refine Upd.step hU ?_ hM
  clear hU hM
  unfold spurClear
  have h0 := Upd.refl 248523988086797 s
  repeat' first | with_reducible assumption | (guard_target =~ (_ ||| _ : Nat) = _; decide) | (fail_if_no_progress extract_lets +onlyGivenNames x; first | (have hx : Upd 248523988086797 s x := (by unfold x; repeat' first | with_reducible assumption | (guard_target =~ (_ ||| _ : Nat) = _; decide) | with_reducible apply Upd.ite | with_reducible refine Upd.forAll ?_ (fun _ _ _ => ?_) | with_reducible apply State.raise_upd | with_reducible apply State.setFld_upd | with_reducible apply setBitOf_upd | with_reducible apply sourceIn_upd | with_reducible apply legsSources_upd); try clear_value x) | (have h9 : (x : Peak) = x := rfl; clear h9) | (have h9 : (x : Saddle) = x := rfl; clear h9) | (have h9 : (x : Pair) = x := rfl; clear h9) | (have h9 : (x : Leg) = x := rfl; clear h9) | clear_value x | skip) | with_reducible apply Upd.ite | with_reducible refine Upd.forAll ?_ (fun _ _ _ => ?_) | with_reducible apply State.raise_upd | with_reducible apply State.setFld_upd | with_reducible apply setBitOf_upd | with_reducible apply sourceIn_upd | with_reducible apply legsSources_upd

theorem gatesDown_upd {M0 : Nat} {s0 : State} {inhibit : Bool} {s : State} (hU : Upd M0 s0 s) (hM : 8193 ||| M0 = M0) : Upd M0 s0 (gatesDown inhibit s) := by
  refine Upd.step hU ?_ hM
  clear hU hM
  unfold gatesDown
  have h0 := Upd.refl 8193 s
  repeat' first | with_reducible assumption | (guard_target =~ (_ ||| _ : Nat) = _; decide) | (fail_if_no_progress extract_lets +onlyGivenNames x; first | (have hx : Upd 8193 s x := (by unfold x; repeat' first | with_reducible assumption | (guard_target =~ (_ ||| _ : Nat) = _; decide) | with_reducible apply Upd.ite | with_reducible apply State.raise_upd | with_reducible apply ascEnd_upd | with_reducible refine Upd.forAll ?_ (fun _ _ _ => ?_) | with_reducible apply legDrive_upd | with_reducible apply legOff_upd); try clear_value x) | (have h9 : (x : Peak) = x := rfl; clear h9) | (have h9 : (x : Saddle) = x := rfl; clear h9) | (have h9 : (x : Pair) = x := rfl; clear h9) | (have h9 : (x : Leg) = x := rfl; clear h9) | clear_value x | skip) | with_reducible apply Upd.ite | with_reducible apply State.raise_upd | with_reducible apply ascEnd_upd | with_reducible refine Upd.forAll ?_ (fun _ _ _ => ?_) | with_reducible apply legDrive_upd | with_reducible apply legOff_upd

theorem legEnable_upd {M0 : Nat} {s0 : State} {p : PeakId} {n : Nat} {s : State} (hU : Upd M0 s0 s) (hM : 1 ||| M0 = M0) : Upd M0 s0 (legEnable p n s) := by
  refine Upd.step hU ?_ hM
  clear hU hM
  unfold legEnable
  have h0 := Upd.refl 1 s
  repeat' first | with_reducible assumption | (guard_target =~ (_ ||| _ : Nat) = _; decide) | with_reducible apply Upd.ite | with_reducible apply State.raise_upd | with_reducible apply setBitOf_upd | with_reducible apply State.setFld_upd

theorem legDisable_upd {M0 : Nat} {s0 : State} {n : Nat} {s : State} (hU : Upd M0 s0 s) (hM : 8193 ||| M0 = M0) : Upd M0 s0 (legDisable n s) := by
  refine Upd.step hU ?_ hM
  clear hU hM
  unfold legDisable
  have h0 := Upd.refl 8193 s
  repeat' first | with_reducible assumption | (guard_target =~ (_ ||| _ : Nat) = _; decide) | with_reducible apply legDecide_upd | with_reducible apply legOff_upd

theorem legDiagStart_upd {M0 : Nat} {s0 : State} {n : Nat} {vbusLow : Bool} {s : State} (hU : Upd M0 s0 s) (hM : 8193 ||| M0 = M0) : Upd M0 s0 (legDiagStart n vbusLow s) := by
  refine Upd.step hU ?_ hM
  clear hU hM
  unfold legDiagStart
  have h0 := Upd.refl 8193 s
  repeat' first | with_reducible assumption | (guard_target =~ (_ ||| _ : Nat) = _; decide) | (fail_if_no_progress extract_lets +onlyGivenNames x; first | (have hx : Upd 8193 s x := (by unfold x; repeat' first | with_reducible assumption | (guard_target =~ (_ ||| _ : Nat) = _; decide) | with_reducible apply Upd.ite | with_reducible apply State.setFld_upd | with_reducible apply State.raise_upd | with_reducible refine Upd.setLeg ?_ ?_ ?_ | split | (guard_target =~ Nat.testBit _ _ = true; decide) | exact fun hs => State.leg_safe (Upd.sound (by with_reducible assumption) hs) _ | (guard_target =~ _ = true → _ = false; intro _; simp [*])); try clear_value x) | (have h9 : (x : Peak) = x := rfl; clear h9) | (have h9 : (x : Saddle) = x := rfl; clear h9) | (have h9 : (x : Pair) = x := rfl; clear h9) | (have h9 : (x : Leg) = x := rfl; clear h9) | clear_value x | skip) | with_reducible apply Upd.ite | with_reducible apply State.setFld_upd | with_reducible apply State.raise_upd | with_reducible refine Upd.setLeg ?_ ?_ ?_ | split | (guard_target =~ Nat.testBit _ _ = true; decide) | exact fun hs => State.leg_safe (Upd.sound (by with_reducible assumption) hs) _ | (guard_target =~ _ = true → _ = false; intro _; simp [*])

theorem legDiagResult_upd {M0 : Nat} {s0 : State} {n : Nat} {v1 : Int} {v2 : Int} {v3 : Int} {vbus : Int} {s : State} (hU : Upd M0 s0 s) (hM : 248523987615757 ||| M0 = M0) : Upd M0 s0 (legDiagResult n v1 v2 v3 vbus s) := by
  refine Upd.step hU ?_ hM
  clear hU hM
  unfold legDiagResult
  have h0 := Upd.refl 248523987615757 s
  repeat' first | with_reducible assumption | (guard_target =~ (_ ||| _ : Nat) = _; decide) | (fail_if_no_progress extract_lets +onlyGivenNames x; first | (have hx : Upd 248523987615757 s x := (by unfold x; repeat' first | with_reducible assumption | (guard_target =~ (_ ||| _ : Nat) = _; decide) | with_reducible apply Upd.ite | with_reducible apply State.setFld_upd | with_reducible apply fireBoth_upd | split); try clear_value x) | (have h9 : (x : Peak) = x := rfl; clear h9) | (have h9 : (x : Saddle) = x := rfl; clear h9) | (have h9 : (x : Pair) = x := rfl; clear h9) | (have h9 : (x : Leg) = x := rfl; clear h9) | clear_value x | skip) | with_reducible apply Upd.ite | with_reducible apply State.setFld_upd | with_reducible apply fireBoth_upd | split

theorem legCtrlWrite_upd {M0 : Nat} {s0 : State} {p : PeakId} {n : Nat} {v : Nat} {vbusLow : Bool} {s : State} (hU : Upd M0 s0 s) (hM : 8193 ||| M0 = M0) : Upd M0 s0 (legCtrlWrite p n v vbusLow s) := by
  refine Upd.step hU ?_ hM
  clear hU hM
  unfold legCtrlWrite
  have h0 := Upd.refl 8193 s
  repeat' first | with_reducible assumption | (guard_target =~ (_ ||| _ : Nat) = _; decide) | (fail_if_no_progress extract_lets +onlyGivenNames x; first | (have hx : Upd 8193 s x := (by unfold x; repeat' first | with_reducible assumption | (guard_target =~ (_ ||| _ : Nat) = _; decide) | with_reducible apply Upd.ite | with_reducible apply legDisable_upd | with_reducible apply legEnable_upd | with_reducible apply legDiagStart_upd); try clear_value x) | (have h9 : (x : Peak) = x := rfl; clear h9) | (have h9 : (x : Saddle) = x := rfl; clear h9) | (have h9 : (x : Pair) = x := rfl; clear h9) | (have h9 : (x : Leg) = x := rfl; clear h9) | clear_value x | skip) | with_reducible apply Upd.ite | with_reducible apply legDisable_upd | with_reducible apply legEnable_upd | with_reducible apply legDiagStart_upd

theorem legCmpStore_upd {M0 : Nat} {s0 : State} {m : Master} {n : Nat} {v : Nat} {s : State} (hU : Upd M0 s0 s) (hM : 35184376291329 ||| M0 = M0) : Upd M0 s0 (legCmpStore m n v s) := by
  refine Upd.step hU ?_ hM
  clear hU hM
  unfold legCmpStore
  have h0 := Upd.refl 35184376291329 s
  repeat' first | with_reducible assumption | (guard_target =~ (_ ||| _ : Nat) = _; decide) | (fail_if_no_progress extract_lets +onlyGivenNames x; first | (have hx : Upd 35184376291329 s x := (by unfold x; repeat' first | with_reducible assumption | (guard_target =~ (_ ||| _ : Nat) = _; decide) | with_reducible apply Upd.ite | with_reducible apply noteShadow_upd | with_reducible apply lateCount_upd | with_reducible refine Upd.setLeg ?_ ?_ ?_ | with_reducible apply State.setReg_upd | (guard_target =~ Nat.testBit _ _ = true; decide) | exact fun hs => State.leg_safe (Upd.sound (by with_reducible assumption) hs) _ | (guard_target =~ _ = true → _ = false; intro _; simp [*])); try clear_value x) | (have h9 : (x : Peak) = x := rfl; clear h9) | (have h9 : (x : Saddle) = x := rfl; clear h9) | (have h9 : (x : Pair) = x := rfl; clear h9) | (have h9 : (x : Leg) = x := rfl; clear h9) | clear_value x | skip) | with_reducible apply Upd.ite | with_reducible apply noteShadow_upd | with_reducible apply lateCount_upd | with_reducible refine Upd.setLeg ?_ ?_ ?_ | with_reducible apply State.setReg_upd | (guard_target =~ Nat.testBit _ _ = true; decide) | exact fun hs => State.leg_safe (Upd.sound (by with_reducible assumption) hs) _ | (guard_target =~ _ = true → _ = false; intro _; simp [*])

theorem legDriveWrite_upd {M0 : Nat} {s0 : State} {n : Nat} {v : Nat} {s : State} (hU : Upd M0 s0 s) (hM : 1 ||| M0 = M0) : Upd M0 s0 (legDriveWrite n v s) := by
  refine Upd.step hU ?_ hM
  clear hU hM
  unfold legDriveWrite
  have h0 := Upd.refl 1 s
  repeat' first | with_reducible assumption | (guard_target =~ (_ ||| _ : Nat) = _; decide) | (fail_if_no_progress extract_lets +onlyGivenNames x; first | (have hx : Upd 1 s x := (by unfold x; repeat' first | with_reducible assumption | (guard_target =~ (_ ||| _ : Nat) = _; decide) | with_reducible apply State.setReg_upd | with_reducible apply State.setFld_upd); try clear_value x) | (have h9 : (x : Peak) = x := rfl; clear h9) | (have h9 : (x : Saddle) = x := rfl; clear h9) | (have h9 : (x : Pair) = x := rfl; clear h9) | (have h9 : (x : Leg) = x := rfl; clear h9) | clear_value x | skip) | with_reducible apply State.setReg_upd | with_reducible apply State.setFld_upd

theorem legCodes_upd {M0 : Nat} {s0 : State} {n : Nat} {s : State} (hU : Upd M0 s0 s) (hM : 1 ||| M0 = M0) : Upd M0 s0 (legCodes n s) := by
  refine Upd.step hU ?_ hM
  clear hU hM
  unfold legCodes
  have h0 := Upd.refl 1 s
  repeat' first | with_reducible assumption | (guard_target =~ (_ ||| _ : Nat) = _; decide) | with_reducible apply Upd.ite | with_reducible apply State.setFld_upd

theorem legLateMove_upd {M0 : Nat} {s0 : State} {tb : Nat} {n : Nat} {s : State} (hU : Upd M0 s0 s) (hM : 8193 ||| M0 = M0) : Upd M0 s0 (legLateMove tb n s) := by
  refine Upd.step hU ?_ hM
  clear hU hM
  unfold legLateMove
  have h0 := Upd.refl 8193 s
  repeat' first | with_reducible assumption | (guard_target =~ (_ ||| _ : Nat) = _; decide) | with_reducible apply Upd.ite | with_reducible apply State.setReg_upd | with_reducible refine Upd.setLeg ?_ ?_ ?_ | split | (guard_target =~ Nat.testBit _ _ = true; decide) | exact fun hs => State.leg_safe (Upd.sound (by with_reducible assumption) hs) _ | (guard_target =~ _ = true → _ = false; intro _; simp [*])

theorem legWrap_upd {M0 : Nat} {s0 : State} {tb : Nat} {n : Nat} {s : State} (hU : Upd M0 s0 s) (hM : 8193 ||| M0 = M0) : Upd M0 s0 (legWrap tb n s) := by
  refine Upd.step hU ?_ hM
  clear hU hM
  unfold legWrap
  have h0 := Upd.refl 8193 s
  repeat' first | with_reducible assumption | (guard_target =~ (_ ||| _ : Nat) = _; decide) | (fail_if_no_progress extract_lets +onlyGivenNames x; first | (have hx : Upd 8193 s x := (by unfold x; repeat' first | with_reducible assumption | (guard_target =~ (_ ||| _ : Nat) = _; decide) | with_reducible apply Upd.ite | with_reducible refine Upd.setLeg ?_ ?_ ?_ | with_reducible apply State.setFld_upd | with_reducible apply State.setBit_upd | with_reducible apply legDecide_upd | with_reducible apply legLateMove_upd | with_reducible apply refreshStart_upd | (guard_target =~ Nat.testBit _ _ = true; decide) | exact fun hs => State.leg_safe (Upd.sound (by with_reducible assumption) hs) _ | (guard_target =~ _ = true → _ = false; intro _; simp [*])); try clear_value x) | (have hx : Upd 8193 s x.2 := (by unfold x; repeat' first | with_reducible assumption | (guard_target =~ (_ ||| _ : Nat) = _; decide) | with_reducible apply Upd.ite | with_reducible refine Upd.setLeg ?_ ?_ ?_ | with_reducible apply State.setFld_upd | with_reducible apply State.setBit_upd | with_reducible apply legDecide_upd | with_reducible apply legLateMove_upd | with_reducible apply refreshStart_upd | (guard_target =~ Nat.testBit _ _ = true; decide) | exact fun hs => State.leg_safe (Upd.sound (by with_reducible assumption) hs) _ | (guard_target =~ _ = true → _ = false; intro _; simp [*])); try clear_value x) | (have h9 : (x : Peak) = x := rfl; clear h9) | (have h9 : (x : Saddle) = x := rfl; clear h9) | (have h9 : (x : Pair) = x := rfl; clear h9) | (have h9 : (x : Leg) = x := rfl; clear h9) | clear_value x | skip) | with_reducible apply Upd.ite | with_reducible refine Upd.setLeg ?_ ?_ ?_ | with_reducible apply State.setFld_upd | with_reducible apply State.setBit_upd | with_reducible apply legDecide_upd | with_reducible apply legLateMove_upd | with_reducible apply refreshStart_upd | (guard_target =~ Nat.testBit _ _ = true; decide) | exact fun hs => State.leg_safe (Upd.sound (by with_reducible assumption) hs) _ | (guard_target =~ _ = true → _ = false; intro _; simp [*])

theorem legCompare_upd {M0 : Nat} {s0 : State} {n : Nat} {s : State} (hU : Upd M0 s0 s) (hM : 8192 ||| M0 = M0) : Upd M0 s0 (legCompare n s) := by
  refine Upd.step hU ?_ hM
  clear hU hM
  unfold legCompare
  have h0 := Upd.refl 8192 s
  repeat' first | with_reducible assumption | (guard_target =~ (_ ||| _ : Nat) = _; decide) | (fail_if_no_progress extract_lets +onlyGivenNames x; first | (have hx : Upd 8192 s x := (by unfold x; repeat' first | with_reducible assumption | (guard_target =~ (_ ||| _ : Nat) = _; decide) | with_reducible apply Upd.ite | with_reducible apply legDrive_upd); try clear_value x) | (have h9 : (x : Peak) = x := rfl; clear h9) | (have h9 : (x : Saddle) = x := rfl; clear h9) | (have h9 : (x : Pair) = x := rfl; clear h9) | (have h9 : (x : Leg) = x := rfl; clear h9) | clear_value x | skip) | with_reducible apply Upd.ite | with_reducible apply legDrive_upd

theorem legAdapt_upd {M0 : Nat} {s0 : State} {n : Nat} {high : Bool} {t : Nat} {s : State} (hU : Upd M0 s0 s) (hM : 1073741825 ||| M0 = M0) : Upd M0 s0 (legAdapt n high t s) := by
  refine Upd.step hU ?_ hM
  clear hU hM
  unfold legAdapt
  have h0 := Upd.refl 1073741825 s
  repeat' first | with_reducible assumption | (guard_target =~ (_ ||| _ : Nat) = _; decide) | (fail_if_no_progress extract_lets +onlyGivenNames x; first | (have hx : Upd 1073741825 s x := (by unfold x; repeat' first | with_reducible assumption | (guard_target =~ (_ ||| _ : Nat) = _; decide) | with_reducible apply Upd.ite | with_reducible apply State.setFld_upd | with_reducible apply State.takeFree_upd); try clear_value x) | (have hx : Upd 1073741825 s x.2 := (by unfold x; repeat' first | with_reducible assumption | (guard_target =~ (_ ||| _ : Nat) = _; decide) | with_reducible apply Upd.ite | with_reducible apply State.setFld_upd | with_reducible apply State.takeFree_upd); try clear_value x) | (have h9 : (x : Peak) = x := rfl; clear h9) | (have h9 : (x : Saddle) = x := rfl; clear h9) | (have h9 : (x : Pair) = x := rfl; clear h9) | (have h9 : (x : Leg) = x := rfl; clear h9) | clear_value x | skip) | with_reducible apply Upd.ite | with_reducible apply State.setFld_upd | with_reducible apply State.takeFree_upd

theorem legDeadEnd_upd {M0 : Nat} {s0 : State} {n swing : Nat} {s : State} (hU : Upd M0 s0 s) (hM : 1073750017 ||| M0 = M0) : Upd M0 s0 (legDeadEnd n swing s) := by
  refine Upd.step hU ?_ hM
  clear hU hM
  unfold legDeadEnd
  have h0 := Upd.refl 1073750017 s
  refine Upd.ite ?_ h0
  split
  · split
    · exact h0
    · rename_i hn
      rw [Bool.or_eq_true, not_or] at hn
      exact legAdapt_upd (Upd.setLeg (by decide) h0 (fun _ => by simpa using hn.1)) (by decide)
  · split
    · exact h0
    · rename_i hn
      rw [Bool.or_eq_true, not_or] at hn
      exact legAdapt_upd (Upd.ite (Upd.setLeg (by decide) h0 (fun _ => by simpa using hn.1)) (Upd.setLeg (by decide) h0 (fun _ => by simpa using hn.1))) (by decide)
  · refine Upd.ite ?_ h0
    have h1 := legDrive_upd (n := n) (wantHi := (legWant s n).1) (wantLo := (legWant s n).2) h0 (by decide : 8192 ||| 1073750017 = 1073750017)
    exact Upd.setLeg (by decide) h1 (fun hs => State.leg_safe (h1.sound hs) _)

theorem gated_upd {M : Nat} {x : State} {m : Master} {a : Nat} {f : State → State} {s : State} (h : Upd M x s) (hf : ∀ t, Upd M x t → Upd M x (f t)) (hM : 1 ||| M = M) : Upd M x (gated m a f s) := by
  unfold gated
  exact Upd.ite (Upd.ite (hf _ h) h) (Upd.ite (xtoRecord_upd h hM) h)

theorem execTripPinActive_upd (src : Fin 8) (s : State) {t : State} (hX : execTripPinActive src s = .next t) : Upd 248523988086797 s t := by
  unfold execTripPinActive at hX
  cases hX
  have h0 := Upd.refl 248523988086797 s
  repeat' first | with_reducible assumption | (guard_target =~ (_ ||| _ : Nat) = _; decide) | with_reducible apply tripInput_upd

theorem execTripPinInactive_upd (src : Fin 8) (s : State) {t : State} (hX : execTripPinInactive src s = .next t) : Upd 248523988086797 s t := by
  unfold execTripPinInactive at hX
  cases hX
  have h0 := Upd.refl 248523988086797 s
  repeat' first | with_reducible assumption | (guard_target =~ (_ ||| _ : Nat) = _; decide) | with_reducible apply tripInput_upd

theorem execTripSwSet_upd (m : Master) (s : State) {t : State} (hX : execTripSwSet m s = .next t) : Upd 248523988086797 s t := by
  unfold execTripSwSet at hX
  cases hX
  have h0 := Upd.refl 248523988086797 s
  repeat' first | with_reducible assumption | (guard_target =~ (_ ||| _ : Nat) = _; decide) | with_reducible refine gated_upd ?_ (fun _ _ => ?_) ?_ | with_reducible apply tripSw_upd

theorem execTripSwRelease_upd (m : Master) (s : State) {t : State} (hX : execTripSwRelease m s = .next t) : Upd 248523988086797 s t := by
  unfold execTripSwRelease at hX
  cases hX
  have h0 := Upd.refl 248523988086797 s
  repeat' first | with_reducible assumption | (guard_target =~ (_ ||| _ : Nat) = _; decide) | with_reducible refine gated_upd ?_ (fun _ _ => ?_) ?_ | with_reducible apply tripSw_upd

theorem execTripClear_upd (m : Master) (mask : BitVec 12) (s : State) {t : State} (hX : execTripClear m mask s = .next t) : Upd 143361 s t := by
  unfold execTripClear at hX
  cases hX
  have h0 := Upd.refl 143361 s
  repeat' first | with_reducible assumption | (guard_target =~ (_ ||| _ : Nat) = _; decide) | with_reducible refine gated_upd ?_ (fun _ _ => ?_) ?_ | with_reducible apply tripClear_upd

theorem execLegEnable_upd (m : Master) (n : Fin 6) (s : State) {t : State} (hX : execLegEnable m n s = .next t) : Upd 1 s t := by
  unfold execLegEnable at hX
  cases hX
  have h0 := Upd.refl 1 s
  repeat' first | with_reducible assumption | (guard_target =~ (_ ||| _ : Nat) = _; decide) | with_reducible apply Upd.ite | with_reducible refine gated_upd ?_ (fun _ _ => ?_) ?_ | with_reducible apply legEnable_upd

theorem execLegDisable_upd (m : Master) (n : Fin 6) (s : State) {t : State} (hX : execLegDisable m n s = .next t) : Upd 8193 s t := by
  unfold execLegDisable at hX
  cases hX
  have h0 := Upd.refl 8193 s
  repeat' first | with_reducible assumption | (guard_target =~ (_ ||| _ : Nat) = _; decide) | with_reducible refine gated_upd ?_ (fun _ _ => ?_) ?_ | with_reducible apply legDisable_upd

theorem execBootUndervoltage_upd (n : Fin 6) (s : State) {t : State} (hX : execBootUndervoltage n s = .next t) : Upd 248523988086797 s t := by
  unfold execBootUndervoltage at hX
  cases hX
  have h0 := Upd.refl 248523988086797 s
  repeat' first | with_reducible assumption | (guard_target =~ (_ ||| _ : Nat) = _; decide) | with_reducible apply bootUndervoltage_upd

theorem execVdsTrip_upd (n : Fin 6) (r : VdsReading) (s : State) {t : State} (hX : execVdsTrip n r s = .next t) : Upd 248523988086797 s t := by
  unfold execVdsTrip at hX
  cases hX
  have h0 := Upd.refl 248523988086797 s
  repeat' first | with_reducible assumption | (guard_target =~ (_ ||| _ : Nat) = _; decide) | with_reducible apply vdsTrip_upd

theorem execSpurClear_upd (m : Master) (mask : BitVec 6) (s : State) {t : State} (hX : execSpurClear m mask s = .next t) : Upd 248523988086797 s t := by
  unfold execSpurClear at hX
  cases hX
  have h0 := Upd.refl 248523988086797 s
  repeat' first | with_reducible assumption | (guard_target =~ (_ ||| _ : Nat) = _; decide) | with_reducible refine gated_upd ?_ (fun _ _ => ?_) ?_ | with_reducible apply spurClear_upd

theorem execAscEnter_upd (m : Master) (s : State) {t : State} (hX : execAscEnter m s = .next t) : Upd 139265 s t := by
  unfold execAscEnter at hX
  cases hX
  have h0 := Upd.refl 139265 s
  repeat' first | with_reducible assumption | (guard_target =~ (_ ||| _ : Nat) = _; decide) | with_reducible refine gated_upd ?_ (fun _ _ => ?_) ?_ | with_reducible apply ascCmd_upd

theorem execAscRelease_upd (m : Master) (s : State) {t : State} (hX : execAscRelease m s = .next t) : Upd 139265 s t := by
  unfold execAscRelease at hX
  cases hX
  have h0 := Upd.refl 139265 s
  repeat' first | with_reducible assumption | (guard_target =~ (_ ||| _ : Nat) = _; decide) | with_reducible refine gated_upd ?_ (fun _ _ => ?_) ?_ | with_reducible apply ascCmd_upd

theorem execLegDiagStart_upd (m : Master) (n : Fin 6) (vbus : BitVec 16) (s : State) {t : State} (hX : execLegDiagStart m n vbus s = .next t) : Upd 8193 s t := by
  unfold execLegDiagStart at hX
  cases hX
  have h0 := Upd.refl 8193 s
  repeat' first | with_reducible assumption | (guard_target =~ (_ ||| _ : Nat) = _; decide) | with_reducible refine gated_upd ?_ (fun _ _ => ?_) ?_ | with_reducible apply legDiagStart_upd

theorem execLegDiagComplete_upd (n : Fin 6) (v1 : BitVec 16) (v2 : BitVec 16) (v3 : BitVec 17) (vbus : BitVec 16) (s : State) {t : State} (hX : execLegDiagComplete n v1 v2 v3 vbus s = .next t) : Upd 248523987615757 s t := by
  unfold execLegDiagComplete at hX
  cases hX
  have h0 := Upd.refl 248523987615757 s
  repeat' first | with_reducible assumption | (guard_target =~ (_ ||| _ : Nat) = _; decide) | with_reducible apply Upd.ite | with_reducible apply legDiagResult_upd

theorem execCompareReached_upd (e : CompareSel) (s : State) {t : State} (hX : execCompareReached e s = .next t) : Upd 248523987628045 s t := by
  unfold execCompareReached at hX
  cases hX
  have h0 := Upd.refl 248523987628045 s
  repeat' first | with_reducible assumption | (guard_target =~ (_ ||| _ : Nat) = _; decide) | with_reducible apply pairCompare_upd | with_reducible apply eventCompare_upd | with_reducible apply legCompare_upd | split

theorem execDeadTimeEnd_upd (e : SwitchSel) (swing : BitVec 9) (s : State) {t : State} (hX : execDeadTimeEnd e swing s = .next t) : Upd 1073754113 s t := by
  unfold execDeadTimeEnd at hX
  cases hX
  have h0 := Upd.refl 1073754113 s
  repeat' first | with_reducible assumption | (guard_target =~ (_ ||| _ : Nat) = _; decide) | with_reducible apply pairDeadEnd_upd | with_reducible apply legDeadEnd_upd | split

end Sys2Proof.Machine
end

