-- ==== Sys2Proof/Laws/UpdPosition.lean ====
section
/-! SUPPORT. What each operation of Machine/Position.lean may change. -/

set_option linter.unusedTactic false
set_option linter.unreachableTactic false

namespace Sys2Proof.Machine

theorem State.setPif_upd {M0 : Nat} {s0 : State} {s : State} {k : Nat} {q : Pif} (hU : Upd M0 s0 s) (hM : 16384 ||| M0 = M0) : Upd M0 s0 (State.setPif s k q) := by
  refine Upd.step hU ?_ hM
  clear hU hM
  unfold State.setPif
  have h0 := Upd.refl 16384 s
  repeat' first | with_reducible assumption | (guard_target =~ (_ ||| _ : Nat) = _; decide) | with_reducible apply Upd.ite | with_reducible apply Upd.lit | exact rfl | exact SadUpd.refl _ _ | with_reducible apply SadUpd.ite | apply SadUpd.mk | exact fun _ => PeakUpd.refl _ _ | exact Or.inl (by decide) | exact Or.inr rfl

theorem pifStand_upd {M0 : Nat} {s0 : State} {k : Nat} {s : State} (hU : Upd M0 s0 s) (hM : 16384 ||| M0 = M0) : Upd M0 s0 (pifStand k s) := by
  refine Upd.step hU ?_ hM
  clear hU hM
  unfold pifStand
  have h0 := Upd.refl 16384 s
  repeat' first | with_reducible assumption | (guard_target =~ (_ ||| _ : Nat) = _; decide) | with_reducible apply Upd.ite | with_reducible apply State.setPif_upd

theorem setSpeed_upd {M0 : Nat} {s0 : State} {k : Nat} {w : Word} {s : State} (hU : Upd M0 s0 s) (hM : 1 ||| M0 = M0) : Upd M0 s0 (setSpeed k w s) := by
  refine Upd.step hU ?_ hM
  clear hU hM
  unfold setSpeed
  have h0 := Upd.refl 1 s
  repeat' first | with_reducible assumption | (guard_target =~ (_ ||| _ : Nat) = _; decide) | with_reducible apply Upd.ite | with_reducible apply State.setRegW_upd

theorem edgeLatch_upd {M0 : Nat} {s0 : State} {k : Nat} {s : State} (hU : Upd M0 s0 s) (hM : 16385 ||| M0 = M0) : Upd M0 s0 (edgeLatch k s) := by
  refine Upd.step hU ?_ hM
  clear hU hM
  unfold edgeLatch
  have h0 := Upd.refl 16385 s
  repeat' first | with_reducible assumption | (guard_target =~ (_ ||| _ : Nat) = _; decide) | (fail_if_no_progress extract_lets +onlyGivenNames x; first | (have hx : Upd 16385 s x := (by unfold x; repeat' first | with_reducible assumption | (guard_target =~ (_ ||| _ : Nat) = _; decide) | with_reducible apply Upd.ite | with_reducible apply State.setPif_upd | with_reducible apply State.setReg_upd | with_reducible apply State.setRegW_upd); try clear_value x) | (have h9 : (x : Peak) = x := rfl; clear h9) | (have h9 : (x : Saddle) = x := rfl; clear h9) | (have h9 : (x : Pair) = x := rfl; clear h9) | (have h9 : (x : Leg) = x := rfl; clear h9) | clear_value x | skip) | with_reducible apply Upd.ite | with_reducible apply State.setPif_upd | with_reducible apply State.setReg_upd | with_reducible apply State.setRegW_upd

theorem pifEdge_upd {M0 : Nat} {s0 : State} {k : Nat} {up : Bool} {s : State} (hU : Upd M0 s0 s) (hM : 16385 ||| M0 = M0) : Upd M0 s0 (pifEdge k up s) := by
  refine Upd.step hU ?_ hM
  clear hU hM
  unfold pifEdge
  have h0 := Upd.refl 16385 s
  repeat' first | with_reducible assumption | (guard_target =~ (_ ||| _ : Nat) = _; decide) | (fail_if_no_progress extract_lets +onlyGivenNames x; first | (have hx : Upd 16385 s x := (by unfold x; repeat' first | with_reducible assumption | (guard_target =~ (_ ||| _ : Nat) = _; decide) | with_reducible apply Upd.ite | with_reducible apply State.setBit_upd | with_reducible apply State.setPif_upd | with_reducible apply setSpeed_upd | with_reducible apply State.setFld_upd | with_reducible apply edgeLatch_upd); try clear_value x) | (have h9 : (x : Peak) = x := rfl; clear h9) | (have h9 : (x : Saddle) = x := rfl; clear h9) | (have h9 : (x : Pair) = x := rfl; clear h9) | (have h9 : (x : Leg) = x := rfl; clear h9) | clear_value x | skip) | with_reducible apply Upd.ite | with_reducible apply State.setBit_upd | with_reducible apply State.setPif_upd | with_reducible apply setSpeed_upd | with_reducible apply State.setFld_upd | with_reducible apply edgeLatch_upd

theorem pifCount_upd {M0 : Nat} {s0 : State} {k : Nat} {d : Int} {s : State} (hU : Upd M0 s0 s) (hM : 248523987632141 ||| M0 = M0) : Upd M0 s0 (pifCount k d s) := by
  refine Upd.step hU ?_ hM
  clear hU hM
  unfold pifCount
  have h0 := Upd.refl 248523987632141 s
  repeat' first | with_reducible assumption | (guard_target =~ (_ ||| _ : Nat) = _; decide) | (fail_if_no_progress extract_lets +onlyGivenNames x; first | (have hx : Upd 248523987632141 s x := (by unfold x; repeat' first | with_reducible assumption | (guard_target =~ (_ ||| _ : Nat) = _; decide) | with_reducible apply Upd.ite | with_reducible apply State.setRegI_upd | with_reducible apply State.setPif_upd | with_reducible apply fireBoth_upd | with_reducible apply State.raise_upd | with_reducible apply pifEdge_upd); try clear_value x) | (have h9 : (x : Peak) = x := rfl; clear h9) | (have h9 : (x : Saddle) = x := rfl; clear h9) | (have h9 : (x : Pair) = x := rfl; clear h9) | (have h9 : (x : Leg) = x := rfl; clear h9) | clear_value x | skip) | with_reducible apply Upd.ite | with_reducible apply State.setRegI_upd | with_reducible apply State.setPif_upd | with_reducible apply fireBoth_upd | with_reducible apply State.raise_upd | with_reducible apply pifEdge_upd

theorem upCount_upd {M0 : Nat} {s0 : State} {k : Nat} {s : State} (hU : Upd M0 s0 s) (hM : 1 ||| M0 = M0) : Upd M0 s0 (upCount k s) := by
  refine Upd.step hU ?_ hM
  clear hU hM
  unfold upCount
  have h0 := Upd.refl 1 s
  repeat' first | with_reducible assumption | (guard_target =~ (_ ||| _ : Nat) = _; decide) | with_reducible apply Upd.ite | with_reducible apply State.bump_upd

theorem dnCount_upd {M0 : Nat} {s0 : State} {k : Nat} {s : State} (hU : Upd M0 s0 s) (hM : 1 ||| M0 = M0) : Upd M0 s0 (dnCount k s) := by
  refine Upd.step hU ?_ hM
  clear hU hM
  unfold dnCount
  have h0 := Upd.refl 1 s
  repeat' first | with_reducible assumption | (guard_target =~ (_ ||| _ : Nat) = _; decide) | with_reducible apply Upd.ite | with_reducible apply State.bump_upd

theorem pifStep_upd {M0 : Nat} {s0 : State} {k : Nat} {up : Bool} {s : State} (hU : Upd M0 s0 s) (hM : 248523987632141 ||| M0 = M0) : Upd M0 s0 (pifStep k up s) := by
  refine Upd.step hU ?_ hM
  clear hU hM
  unfold pifStep
  have h0 := Upd.refl 248523987632141 s
  repeat' first | with_reducible assumption | (guard_target =~ (_ ||| _ : Nat) = _; decide) | with_reducible apply Upd.ite | with_reducible apply pifCount_upd | with_reducible apply upCount_upd | with_reducible apply dnCount_upd

theorem pifSample_upd {M0 : Nat} {s0 : State} {k : Nat} {a : Bool} {b : Bool} {z : Bool} {s : State} (hU : Upd M0 s0 s) (hM : 248523987632141 ||| M0 = M0) : Upd M0 s0 (pifSample k a b z s) := by
  refine Upd.step hU ?_ hM
  clear hU hM
  unfold pifSample
  have h0 := Upd.refl 248523987632141 s
  repeat' first | with_reducible assumption | (guard_target =~ (_ ||| _ : Nat) = _; decide) | (fail_if_no_progress extract_lets +onlyGivenNames x; first | (have hx : Upd 248523987632141 s x := (by unfold x; repeat' first | with_reducible assumption | (guard_target =~ (_ ||| _ : Nat) = _; decide) | with_reducible apply Upd.ite | with_reducible apply State.setPif_upd | with_reducible apply dnCount_upd | with_reducible apply upCount_upd | with_reducible apply pifStep_upd | with_reducible apply State.raise_upd | with_reducible apply State.bump_upd | with_reducible apply fireBoth_upd | with_reducible apply State.setReg_upd | split); try clear_value x) | (have h9 : (x : Peak) = x := rfl; clear h9) | (have h9 : (x : Saddle) = x := rfl; clear h9) | (have h9 : (x : Pair) = x := rfl; clear h9) | (have h9 : (x : Leg) = x := rfl; clear h9) | clear_value x | skip) | with_reducible apply Upd.ite | with_reducible apply State.setPif_upd | with_reducible apply dnCount_upd | with_reducible apply upCount_upd | with_reducible apply pifStep_upd | with_reducible apply State.raise_upd | with_reducible apply State.bump_upd | with_reducible apply fireBoth_upd | with_reducible apply State.setReg_upd | split

theorem pifWindow_upd {M0 : Nat} {s0 : State} {k : Nat} {s : State} (hU : Upd M0 s0 s) (hM : 16385 ||| M0 = M0) : Upd M0 s0 (pifWindow k s) := by
  refine Upd.step hU ?_ hM
  clear hU hM
  unfold pifWindow
  have h0 := Upd.refl 16385 s
  repeat' first | with_reducible assumption | (guard_target =~ (_ ||| _ : Nat) = _; decide) | (fail_if_no_progress extract_lets +onlyGivenNames x; first | (have hx : Upd 16385 s x := (by unfold x; repeat' first | with_reducible assumption | (guard_target =~ (_ ||| _ : Nat) = _; decide) | with_reducible apply Upd.ite | with_reducible apply State.setPif_upd | with_reducible apply State.setFld_upd | with_reducible apply setSpeed_upd); try clear_value x) | (have h9 : (x : Peak) = x := rfl; clear h9) | (have h9 : (x : Saddle) = x := rfl; clear h9) | (have h9 : (x : Pair) = x := rfl; clear h9) | (have h9 : (x : Leg) = x := rfl; clear h9) | clear_value x | skip) | with_reducible apply Upd.ite | with_reducible apply State.setPif_upd | with_reducible apply State.setFld_upd | with_reducible apply setSpeed_upd

theorem pifBound_upd {M0 : Nat} {s0 : State} {k : Nat} {s : State} (hU : Upd M0 s0 s) (hM : 1 ||| M0 = M0) : Upd M0 s0 (pifBound k s) := by
  refine Upd.step hU ?_ hM
  clear hU hM
  unfold pifBound
  have h0 := Upd.refl 1 s
  repeat' first | with_reducible assumption | (guard_target =~ (_ ||| _ : Nat) = _; decide) | (fail_if_no_progress extract_lets +onlyGivenNames x; first | (have hx : Upd 1 s x := (by unfold x; repeat' first | with_reducible assumption | (guard_target =~ (_ ||| _ : Nat) = _; decide) | with_reducible apply Upd.ite | with_reducible apply setSpeed_upd | with_reducible apply State.setFld_upd | split); try clear_value x) | (have h9 : (x : Peak) = x := rfl; clear h9) | (have h9 : (x : Saddle) = x := rfl; clear h9) | (have h9 : (x : Pair) = x := rfl; clear h9) | (have h9 : (x : Leg) = x := rfl; clear h9) | clear_value x | skip) | with_reducible apply Upd.ite | with_reducible apply setSpeed_upd | with_reducible apply State.setFld_upd | split

theorem pifStale_upd {M0 : Nat} {s0 : State} {k : Nat} {s : State} (hU : Upd M0 s0 s) (hM : 248523987632141 ||| M0 = M0) : Upd M0 s0 (pifStale k s) := by
  refine Upd.step hU ?_ hM
  clear hU hM
  unfold pifStale
  have h0 := Upd.refl 248523987632141 s
  repeat' first | with_reducible assumption | (guard_target =~ (_ ||| _ : Nat) = _; decide) | (fail_if_no_progress extract_lets +onlyGivenNames x; first | (have hx : Upd 248523987632141 s x := (by unfold x; repeat' first | with_reducible assumption | (guard_target =~ (_ ||| _ : Nat) = _; decide) | with_reducible apply Upd.ite | with_reducible apply pifStand_upd | with_reducible apply setSpeed_upd | with_reducible apply State.setFld_upd | with_reducible apply fireBoth_upd | with_reducible apply State.raise_upd); try clear_value x) | (have h9 : (x : Peak) = x := rfl; clear h9) | (have h9 : (x : Saddle) = x := rfl; clear h9) | (have h9 : (x : Pair) = x := rfl; clear h9) | (have h9 : (x : Leg) = x := rfl; clear h9) | clear_value x | skip) | with_reducible apply Upd.ite | with_reducible apply pifStand_upd | with_reducible apply setSpeed_upd | with_reducible apply State.setFld_upd | with_reducible apply fireBoth_upd | with_reducible apply State.raise_upd

theorem pifCfgWrite_upd {M0 : Nat} {s0 : State} {k : Nat} {v : Nat} {s : State} (hU : Upd M0 s0 s) (hM : 16385 ||| M0 = M0) : Upd M0 s0 (pifCfgWrite k v s) := by
  refine Upd.step hU ?_ hM
  clear hU hM
  unfold pifCfgWrite
  have h0 := Upd.refl 16385 s
  repeat' first | with_reducible assumption | (guard_target =~ (_ ||| _ : Nat) = _; decide) | (fail_if_no_progress extract_lets +onlyGivenNames x; first | (have hx : Upd 16385 s x := (by unfold x; repeat' first | with_reducible assumption | (guard_target =~ (_ ||| _ : Nat) = _; decide) | with_reducible apply Upd.ite | with_reducible apply State.raise_upd | with_reducible apply State.setReg_upd | with_reducible apply State.setPif_upd | with_reducible apply setSpeed_upd); try clear_value x) | (have h9 : (x : Peak) = x := rfl; clear h9) | (have h9 : (x : Saddle) = x := rfl; clear h9) | (have h9 : (x : Pair) = x := rfl; clear h9) | (have h9 : (x : Leg) = x := rfl; clear h9) | clear_value x | skip) | with_reducible apply Upd.ite | with_reducible apply State.raise_upd | with_reducible apply State.setReg_upd | with_reducible apply State.setPif_upd | with_reducible apply setSpeed_upd

theorem pifCfg_upd {M0 : Nat} {s0 : State} {k : Nat} {v : Nat} {s : State} (hU : Upd M0 s0 s) (hM : 16385 ||| M0 = M0) : Upd M0 s0 (pifCfg k v s) := by
  refine Upd.step hU ?_ hM
  clear hU hM
  unfold pifCfg
  have h0 := Upd.refl 16385 s
  repeat' first | with_reducible assumption | (guard_target =~ (_ ||| _ : Nat) = _; decide) | (fail_if_no_progress extract_lets +onlyGivenNames x; first | (have hx : Upd 16385 s x := (by unfold x; repeat' first | with_reducible assumption | (guard_target =~ (_ ||| _ : Nat) = _; decide) | with_reducible apply Upd.ite | with_reducible apply pifCfgWrite_upd | with_reducible apply State.raise_upd | with_reducible apply State.setFld_upd); try clear_value x) | (have h9 : (x : Peak) = x := rfl; clear h9) | (have h9 : (x : Saddle) = x := rfl; clear h9) | (have h9 : (x : Pair) = x := rfl; clear h9) | (have h9 : (x : Leg) = x := rfl; clear h9) | clear_value x | skip) | with_reducible apply Upd.ite | with_reducible apply pifCfgWrite_upd | with_reducible apply State.raise_upd | with_reducible apply State.setFld_upd

theorem posSet_upd {M0 : Nat} {s0 : State} {k : Nat} {v : Nat} {s : State} (hU : Upd M0 s0 s) (hM : 16385 ||| M0 = M0) : Upd M0 s0 (posSet k v s) := by
  refine Upd.step hU ?_ hM
  clear hU hM
  unfold posSet
  have h0 := Upd.refl 16385 s
  repeat' first | with_reducible assumption | (guard_target =~ (_ ||| _ : Nat) = _; decide) | (fail_if_no_progress extract_lets +onlyGivenNames x; first | (have hx : Upd 16385 s x := (by unfold x; repeat' first | with_reducible assumption | (guard_target =~ (_ ||| _ : Nat) = _; decide) | with_reducible apply Upd.ite | with_reducible apply setSpeed_upd | with_reducible apply State.setReg_upd | with_reducible apply pifStand_upd | with_reducible apply State.setFld_upd | with_reducible apply State.raise_upd); try clear_value x) | (have h9 : (x : Peak) = x := rfl; clear h9) | (have h9 : (x : Saddle) = x := rfl; clear h9) | (have h9 : (x : Pair) = x := rfl; clear h9) | (have h9 : (x : Leg) = x := rfl; clear h9) | clear_value x | skip) | with_reducible apply Upd.ite | with_reducible apply setSpeed_upd | with_reducible apply State.setReg_upd | with_reducible apply pifStand_upd | with_reducible apply State.setFld_upd | with_reducible apply State.raise_upd

theorem pifPeriods_upd {M0 : Nat} {s0 : State} {k : Nat} {reg : Nat} {v : Nat} {s : State} (hU : Upd M0 s0 s) (hM : 1 ||| M0 = M0) : Upd M0 s0 (pifPeriods k reg v s) := by
  refine Upd.step hU ?_ hM
  clear hU hM
  unfold pifPeriods
  have h0 := Upd.refl 1 s
  repeat' first | with_reducible assumption | (guard_target =~ (_ ||| _ : Nat) = _; decide) | (fail_if_no_progress extract_lets +onlyGivenNames x; first | (have hx : Upd 1 s x := (by unfold x; repeat' first | with_reducible assumption | (guard_target =~ (_ ||| _ : Nat) = _; decide) | with_reducible apply Upd.ite | with_reducible apply State.setReg_upd | with_reducible apply State.raise_upd); try clear_value x) | (have h9 : (x : Peak) = x := rfl; clear h9) | (have h9 : (x : Saddle) = x := rfl; clear h9) | (have h9 : (x : Pair) = x := rfl; clear h9) | (have h9 : (x : Leg) = x := rfl; clear h9) | clear_value x | skip) | with_reducible apply Upd.ite | with_reducible apply State.setReg_upd | with_reducible apply State.raise_upd

theorem edgePosRead_upd {M0 : Nat} {s0 : State} {k : Nat} {s : State} (hU : Upd M0 s0 s) (hM : 16385 ||| M0 = M0) : Upd M0 s0 (edgePosRead k s).2 := by
  refine Upd.step hU ?_ hM
  clear hU hM
  unfold edgePosRead
  have h0 := Upd.refl 16385 s
  repeat' first | with_reducible assumption | (guard_target =~ (_ ||| _ : Nat) = _; decide) | (fail_if_no_progress extract_lets +onlyGivenNames x; first | (have hx : Upd 16385 s x := (by unfold x; repeat' first | with_reducible assumption | (guard_target =~ (_ ||| _ : Nat) = _; decide) | with_reducible apply Upd.ite | with_reducible apply Upd.ite_snd | with_reducible apply State.setRegW_upd | with_reducible apply State.setPif_upd); try clear_value x) | (have hx : Upd 16385 s x.2 := (by unfold x; repeat' first | with_reducible assumption | (guard_target =~ (_ ||| _ : Nat) = _; decide) | with_reducible apply Upd.ite | with_reducible apply Upd.ite_snd | with_reducible apply State.setRegW_upd | with_reducible apply State.setPif_upd); try clear_value x) | (have h9 : (x : Peak) = x := rfl; clear h9) | (have h9 : (x : Saddle) = x := rfl; clear h9) | (have h9 : (x : Pair) = x := rfl; clear h9) | (have h9 : (x : Leg) = x := rfl; clear h9) | clear_value x | skip) | with_reducible apply Upd.ite | with_reducible apply Upd.ite_snd | with_reducible apply State.setRegW_upd | with_reducible apply State.setPif_upd

theorem edgeRead_upd {M0 : Nat} {s0 : State} {k : Nat} {j : Nat} {reg : Nat} {s : State} (hU : Upd M0 s0 s) (hM : 16385 ||| M0 = M0) : Upd M0 s0 (edgeRead k j reg s).2 := by
  refine Upd.step hU ?_ hM
  clear hU hM
  unfold edgeRead
  have h0 := Upd.refl 16385 s
  repeat' first | with_reducible assumption | (guard_target =~ (_ ||| _ : Nat) = _; decide) | (fail_if_no_progress extract_lets +onlyGivenNames x; first | (have hx : Upd 16385 s x := (by unfold x; repeat' first | with_reducible assumption | (guard_target =~ (_ ||| _ : Nat) = _; decide) | with_reducible apply Upd.ite | with_reducible apply Upd.ite_snd | with_reducible apply State.setPif_upd | with_reducible apply State.setRegW_upd | split); try clear_value x) | (have hx : Upd 16385 s x.2 := (by unfold x; repeat' first | with_reducible assumption | (guard_target =~ (_ ||| _ : Nat) = _; decide) | with_reducible apply Upd.ite | with_reducible apply Upd.ite_snd | with_reducible apply State.setPif_upd | with_reducible apply State.setRegW_upd | split); try clear_value x) | (have h9 : (x : Peak) = x := rfl; clear h9) | (have h9 : (x : Saddle) = x := rfl; clear h9) | (have h9 : (x : Pair) = x := rfl; clear h9) | (have h9 : (x : Leg) = x := rfl; clear h9) | clear_value x | skip) | with_reducible apply Upd.ite | with_reducible apply Upd.ite_snd | with_reducible apply State.setPif_upd | with_reducible apply State.setRegW_upd | split

theorem execPifLineChange_upd (k : Fin 2) (a : Bool) (b : Bool) (z : Bool) (s : State) {t : State} (hX : execPifLineChange k a b z s = .next t) : Upd 248523987632141 s t := by
  unfold execPifLineChange at hX
  cases hX
  have h0 := Upd.refl 248523987632141 s
  repeat' first | with_reducible assumption | (guard_target =~ (_ ||| _ : Nat) = _; decide) | with_reducible apply Upd.ite | with_reducible apply pifSample_upd

theorem execPosSet_upd (m : Master) (k : Fin 2) (val : Word) (s : State) {t : State} (hX : execPosSet m k val s = .next t) : Upd 16385 s t := by
  unfold execPosSet at hX
  cases hX
  have h0 := Upd.refl 16385 s
  repeat' first | with_reducible assumption | (guard_target =~ (_ ||| _ : Nat) = _; decide) | with_reducible apply Upd.ite | with_reducible refine gated_upd ?_ (fun _ _ => ?_) ?_ | with_reducible apply posSet_upd

theorem execSpeedWindowEnd_upd (k : Fin 2) (s : State) {t : State} (hX : execSpeedWindowEnd k s = .next t) : Upd 16385 s t := by
  unfold execSpeedWindowEnd at hX
  cases hX
  have h0 := Upd.refl 16385 s
  repeat' first | with_reducible assumption | (guard_target =~ (_ ||| _ : Nat) = _; decide) | with_reducible apply Upd.ite | with_reducible apply pifWindow_upd

theorem execSpeedBoundUpdate_upd (k : Fin 2) (s : State) {t : State} (hX : execSpeedBoundUpdate k s = .next t) : Upd 1 s t := by
  unfold execSpeedBoundUpdate at hX
  cases hX
  have h0 := Upd.refl 1 s
  repeat' first | with_reducible assumption | (guard_target =~ (_ ||| _ : Nat) = _; decide) | with_reducible apply Upd.ite | with_reducible apply pifBound_upd

theorem execPifStale_upd (k : Fin 2) (s : State) {t : State} (hX : execPifStale k s = .next t) : Upd 248523987632141 s t := by
  unfold execPifStale at hX
  cases hX
  have h0 := Upd.refl 248523987632141 s
  repeat' first | with_reducible assumption | (guard_target =~ (_ ||| _ : Nat) = _; decide) | with_reducible apply Upd.ite | with_reducible apply pifStale_upd

theorem execEdgePosRead_upd (m : Master) (k : Fin 2) (s : State) {t : State} (hX : execEdgePosRead m k s = .next t) : Upd 16401 s t := by
  unfold execEdgePosRead at hX
  cases hX
  have h0 := Upd.refl 16401 s
  repeat' first | with_reducible assumption | (guard_target =~ (_ ||| _ : Nat) = _; decide) | with_reducible apply Upd.ite | with_reducible apply Upd.ite_snd | with_reducible refine returned_upd ?_ ?_ | with_reducible apply xtoRecord_upd | with_reducible apply edgePosRead_upd

end Sys2Proof.Machine
end

