-- ==== Sys2Proof/Laws/UpdKernel.lean ====
section
/-! SUPPORT. What each operation of Machine/Kernel.lean may change. -/

set_option linter.unusedTactic false
set_option linter.unreachableTactic false

namespace Sys2Proof.Machine

theorem safFirst_upd {M0 : Nat} {s0 : State} {cause : Nat} {funcs : Nat} {inputs : Nat} {s : State} (hU : Upd M0 s0 s) (hM : 33554433 ||| M0 = M0) : Upd M0 s0 (safFirst cause funcs inputs s) := by
  refine Upd.step hU ?_ hM
  clear hU hM
  unfold safFirst
  have h0 := Upd.refl 33554433 s
  repeat' first | with_reducible assumption | (guard_target =~ (_ ||| _ : Nat) = _; decide) | (fail_if_no_progress extract_lets +onlyGivenNames x; first | (have hx : Upd 33554433 s x := (by unfold x; repeat' first | with_reducible assumption | (guard_target =~ (_ ||| _ : Nat) = _; decide) | with_reducible apply Upd.ite | with_reducible apply State.setFld_upd | with_reducible apply State.setReg_upd | with_reducible apply Upd.lit | exact rfl | exact SadUpd.refl _ _ | with_reducible apply SadUpd.ite | apply SadUpd.mk | exact fun _ => PeakUpd.refl _ _ | exact Or.inl (by decide) | exact Or.inr rfl); try clear_value x) | (have h9 : (x : Peak) = x := rfl; clear h9) | (have h9 : (x : Saddle) = x := rfl; clear h9) | (have h9 : (x : Pair) = x := rfl; clear h9) | (have h9 : (x : Leg) = x := rfl; clear h9) | clear_value x | skip) | with_reducible apply Upd.ite | with_reducible apply State.setFld_upd | with_reducible apply State.setReg_upd | with_reducible apply Upd.lit | exact rfl | exact SadUpd.refl _ _ | with_reducible apply SadUpd.ite | apply SadUpd.mk | exact fun _ => PeakUpd.refl _ _ | exact Or.inl (by decide) | exact Or.inr rfl

theorem gwPend_upd {M0 : Nat} {s0 : State} {f : Fld} {s : State} (hU : Upd M0 s0 s) (hM : 1 ||| M0 = M0) : Upd M0 s0 (gwPend f s) := by
  refine Upd.step hU ?_ hM
  clear hU hM
  unfold gwPend
  have h0 := Upd.refl 1 s
  repeat' first | with_reducible assumption | (guard_target =~ (_ ||| _ : Nat) = _; decide) | with_reducible apply State.setGwFld_upd

theorem segSet_upd {M0 : Nat} {s0 : State} {want : Nat} {s : State} (hU : Upd M0 s0 s) (hM : 12289 ||| M0 = M0) : Upd M0 s0 (segSet want s) := by
  refine Upd.step hU ?_ hM
  clear hU hM
  unfold segSet
  have h0 := Upd.refl 12289 s
  repeat' first | with_reducible assumption | (guard_target =~ (_ ||| _ : Nat) = _; decide) | (fail_if_no_progress extract_lets +onlyGivenNames x; first | (have hx : Upd 12289 s x := (by unfold x; repeat' first | with_reducible assumption | (guard_target =~ (_ ||| _ : Nat) = _; decide) | with_reducible apply Upd.ite | with_reducible apply State.setFld_upd | with_reducible apply State.setBit_upd | with_reducible refine Upd.forAll ?_ (fun _ _ _ => ?_) | with_reducible refine Upd.setPair ?_ ?_ ?_ | with_reducible apply gatesDown_upd | with_reducible apply pwmRefresh_upd | (guard_target =~ Nat.testBit _ _ = true; decide) | exact fun hs => State.pair_safe (Upd.sound (by with_reducible assumption) hs) _ | (guard_target =~ _ = true → _ = false; intro _; simp)); try clear_value x) | (have h9 : (x : Peak) = x := rfl; clear h9) | (have h9 : (x : Saddle) = x := rfl; clear h9) | (have h9 : (x : Pair) = x := rfl; clear h9) | (have h9 : (x : Leg) = x := rfl; clear h9) | clear_value x | skip) | with_reducible apply Upd.ite | with_reducible apply State.setFld_upd | with_reducible apply State.setBit_upd | with_reducible refine Upd.forAll ?_ (fun _ _ _ => ?_) | with_reducible refine Upd.setPair ?_ ?_ ?_ | with_reducible apply gatesDown_upd | with_reducible apply pwmRefresh_upd | (guard_target =~ Nat.testBit _ _ = true; decide) | exact fun hs => State.pair_safe (Upd.sound (by with_reducible assumption) hs) _ | (guard_target =~ _ = true → _ = false; intro _; simp)

theorem feedbackAwait_upd {M0 : Nat} {s0 : State} {on : Bool} {s : State} (hU : Upd M0 s0 s) (hM : 33554432 ||| M0 = M0) : Upd M0 s0 (feedbackAwait on s) := by
  refine Upd.step hU ?_ hM
  clear hU hM
  unfold feedbackAwait
  have h0 := Upd.refl 33554432 s
  repeat' first | with_reducible assumption | (guard_target =~ (_ ||| _ : Nat) = _; decide) | (fail_if_no_progress extract_lets +onlyGivenNames x; first | (have hx : Upd 33554432 s x := (by unfold x; repeat' first | with_reducible assumption | (guard_target =~ (_ ||| _ : Nat) = _; decide) | with_reducible apply Upd.ite | with_reducible apply Upd.lit | exact rfl | exact SadUpd.refl _ _ | with_reducible apply SadUpd.ite | apply SadUpd.mk | exact fun _ => PeakUpd.refl _ _ | exact Or.inl (by decide) | exact Or.inr rfl); try clear_value x) | (have h9 : (x : Peak) = x := rfl; clear h9) | (have h9 : (x : Saddle) = x := rfl; clear h9) | (have h9 : (x : Pair) = x := rfl; clear h9) | (have h9 : (x : Leg) = x := rfl; clear h9) | clear_value x | skip) | with_reducible apply Upd.ite | with_reducible apply Upd.lit | exact rfl | exact SadUpd.refl _ _ | with_reducible apply SadUpd.ite | apply SadUpd.mk | exact fun _ => PeakUpd.refl _ _ | exact Or.inl (by decide) | exact Or.inr rfl

theorem safAct_upd {M0 : Nat} {s0 : State} {s : State} (hU : Upd M0 s0 s) (hM : 248524021641229 ||| M0 = M0) : Upd M0 s0 (safAct s) := by
  refine Upd.step hU ?_ hM
  clear hU hM
  unfold safAct
  have h0 := Upd.refl 248524021641229 s
  repeat' first | with_reducible assumption | (guard_target =~ (_ ||| _ : Nat) = _; decide) | (fail_if_no_progress extract_lets +onlyGivenNames x; first | (have hx : Upd 248524021641229 s x := (by unfold x; repeat' first | with_reducible assumption | (guard_target =~ (_ ||| _ : Nat) = _; decide) | with_reducible apply Upd.ite | with_reducible apply segSet_upd | with_reducible apply State.setFld_upd | with_reducible apply feedbackAwait_upd | with_reducible apply State.setBit_upd | with_reducible apply tripInput_upd | with_reducible apply Upd.lit | exact rfl | exact SadUpd.refl _ _ | with_reducible apply SadUpd.ite | apply SadUpd.mk | exact fun _ => PeakUpd.refl _ _ | exact Or.inl (by decide) | exact Or.inr rfl); try clear_value x) | (have h9 : (x : Peak) = x := rfl; clear h9) | (have h9 : (x : Saddle) = x := rfl; clear h9) | (have h9 : (x : Pair) = x := rfl; clear h9) | (have h9 : (x : Leg) = x := rfl; clear h9) | clear_value x | skip) | with_reducible apply Upd.ite | with_reducible apply segSet_upd | with_reducible apply State.setFld_upd | with_reducible apply feedbackAwait_upd | with_reducible apply State.setBit_upd | with_reducible apply tripInput_upd | with_reducible apply Upd.lit | exact rfl | exact SadUpd.refl _ _ | with_reducible apply SadUpd.ite | apply SadUpd.mk | exact fun _ => PeakUpd.refl _ _ | exact Or.inl (by decide) | exact Or.inr rfl

theorem funcSettle_upd {M0 : Nat} {s0 : State} {extra f : Nat} {r : Nat × State} (hU : Upd M0 s0 r.2) (hM : 248523987615757 ||| M0 = M0) : Upd M0 s0 (funcSettle extra f r).2 := by
  refine Upd.step hU ?_ hM
  clear hU hM
  unfold funcSettle
  obtain ⟨r1, s⟩ := r
  have h0 := Upd.refl 248523987615757 s
  dsimp only
  repeat' first | with_reducible assumption | (guard_target =~ (_ ||| _ : Nat) = _; decide) | with_reducible apply h90 | with_reducible apply h91 | with_reducible apply h92 | with_reducible apply h93 | with_reducible apply h94 | (fail_if_no_progress extract_lets +onlyGivenNames x; first | (have hx : Upd 248523987615757 s x := (by unfold x; repeat' first | with_reducible assumption | (guard_target =~ (_ ||| _ : Nat) = _; decide) | with_reducible apply h90 | with_reducible apply h91 | with_reducible apply h92 | with_reducible apply h93 | with_reducible apply h94 | with_reducible apply Upd.ite | with_reducible apply Upd.ite_snd | with_reducible apply State.setFld_upd | with_reducible apply State.bump_upd | with_reducible apply fireBoth_upd | with_reducible apply gwPend_upd | with_reducible apply State.raise_upd); try clear_value x) | (have hx : Upd 248523987615757 s x.2 := (by unfold x; repeat' first | with_reducible assumption | (guard_target =~ (_ ||| _ : Nat) = _; decide) | with_reducible apply h90 | with_reducible apply h91 | with_reducible apply h92 | with_reducible apply h93 | with_reducible apply h94 | with_reducible apply Upd.ite | with_reducible apply Upd.ite_snd | with_reducible apply State.setFld_upd | with_reducible apply State.bump_upd | with_reducible apply fireBoth_upd | with_reducible apply gwPend_upd | with_reducible apply State.raise_upd); try clear_value x) | (have h9 : (x : Peak) = x := rfl; clear h9) | (have h9 : (x : Saddle) = x := rfl; clear h9) | (have h9 : (x : Pair) = x := rfl; clear h9) | (have h9 : (x : Leg) = x := rfl; clear h9) | (have h90 : ∀  t, Upd 248523987615757 s t → Upd 248523987615757 s (x  t) := (by intro  t ht; unfold x; repeat' first | with_reducible assumption | (guard_target =~ (_ ||| _ : Nat) = _; decide) | with_reducible apply h90 | with_reducible apply h91 | with_reducible apply h92 | with_reducible apply h93 | with_reducible apply h94 | with_reducible apply Upd.ite | with_reducible apply Upd.ite_snd | with_reducible apply State.setFld_upd | with_reducible apply State.bump_upd | with_reducible apply fireBoth_upd | with_reducible apply gwPend_upd | with_reducible apply State.raise_upd); try clear_value x) | (have h91 : ∀ a0 t, Upd 248523987615757 s t → Upd 248523987615757 s (x a0 t) := (by intro a0 t ht; unfold x; repeat' first | with_reducible assumption | (guard_target =~ (_ ||| _ : Nat) = _; decide) | with_reducible apply h90 | with_reducible apply h91 | with_reducible apply h92 | with_reducible apply h93 | with_reducible apply h94 | with_reducible apply Upd.ite | with_reducible apply Upd.ite_snd | with_reducible apply State.setFld_upd | with_reducible apply State.bump_upd | with_reducible apply fireBoth_upd | with_reducible apply gwPend_upd | with_reducible apply State.raise_upd); try clear_value x) | (have h92 : ∀ a0 a1 t, Upd 248523987615757 s t → Upd 248523987615757 s (x a0 a1 t) := (by intro a0 a1 t ht; unfold x; repeat' first | with_reducible assumption | (guard_target =~ (_ ||| _ : Nat) = _; decide) | with_reducible apply h90 | with_reducible apply h91 | with_reducible apply h92 | with_reducible apply h93 | with_reducible apply h94 | with_reducible apply Upd.ite | with_reducible apply Upd.ite_snd | with_reducible apply State.setFld_upd | with_reducible apply State.bump_upd | with_reducible apply fireBoth_upd | with_reducible apply gwPend_upd | with_reducible apply State.raise_upd); try clear_value x) | (have h93 : ∀ a0 a1 a2 t, Upd 248523987615757 s t → Upd 248523987615757 s (x a0 a1 a2 t) := (by intro a0 a1 a2 t ht; unfold x; repeat' first | with_reducible assumption | (guard_target =~ (_ ||| _ : Nat) = _; decide) | with_reducible apply h90 | with_reducible apply h91 | with_reducible apply h92 | with_reducible apply h93 | with_reducible apply h94 | with_reducible apply Upd.ite | with_reducible apply Upd.ite_snd | with_reducible apply State.setFld_upd | with_reducible apply State.bump_upd | with_reducible apply fireBoth_upd | with_reducible apply gwPend_upd | with_reducible apply State.raise_upd); try clear_value x) | (have h94 : ∀ a0 a1 a2 a3 t, Upd 248523987615757 s t → Upd 248523987615757 s (x a0 a1 a2 a3 t) := (by intro a0 a1 a2 a3 t ht; unfold x; repeat' first | with_reducible assumption | (guard_target =~ (_ ||| _ : Nat) = _; decide) | with_reducible apply h90 | with_reducible apply h91 | with_reducible apply h92 | with_reducible apply h93 | with_reducible apply h94 | with_reducible apply Upd.ite | with_reducible apply Upd.ite_snd | with_reducible apply State.setFld_upd | with_reducible apply State.bump_upd | with_reducible apply fireBoth_upd | with_reducible apply gwPend_upd | with_reducible apply State.raise_upd); try clear_value x) | clear_value x | skip) | with_reducible apply Upd.ite | with_reducible apply Upd.ite_snd | with_reducible apply State.setFld_upd | with_reducible apply State.bump_upd | with_reducible apply fireBoth_upd | with_reducible apply gwPend_upd | with_reducible apply State.raise_upd

theorem safRefresh_upd {M0 : Nat} {s0 : State} {s : State} (hU : Upd M0 s0 s) (hM : 1 ||| M0 = M0) : Upd M0 s0 (safRefresh s) := by
  refine Upd.step hU ?_ hM
  clear hU hM
  unfold safRefresh
  have h0 := Upd.refl 1 s
  repeat' first | with_reducible assumption | (guard_target =~ (_ ||| _ : Nat) = _; decide) | with_reducible apply h90 | with_reducible apply h91 | with_reducible apply h92 | with_reducible apply h93 | with_reducible apply h94 | (fail_if_no_progress extract_lets +onlyGivenNames x; first | (have hx : Upd 1 s x := (by unfold x; repeat' first | with_reducible assumption | (guard_target =~ (_ ||| _ : Nat) = _; decide) | with_reducible apply h90 | with_reducible apply h91 | with_reducible apply h92 | with_reducible apply h93 | with_reducible apply h94 | with_reducible apply Upd.ite | with_reducible apply State.setBit_upd | with_reducible apply State.setFld_upd); try clear_value x) | (have h9 : (x : Peak) = x := rfl; clear h9) | (have h9 : (x : Saddle) = x := rfl; clear h9) | (have h9 : (x : Pair) = x := rfl; clear h9) | (have h9 : (x : Leg) = x := rfl; clear h9) | (have h90 : ∀  t, Upd 1 s t → Upd 1 s (x  t) := (by intro  t ht; unfold x; repeat' first | with_reducible assumption | (guard_target =~ (_ ||| _ : Nat) = _; decide) | with_reducible apply h90 | with_reducible apply h91 | with_reducible apply h92 | with_reducible apply h93 | with_reducible apply h94 | with_reducible apply Upd.ite | with_reducible apply State.setBit_upd | with_reducible apply State.setFld_upd); try clear_value x) | (have h91 : ∀ a0 t, Upd 1 s t → Upd 1 s (x a0 t) := (by intro a0 t ht; unfold x; repeat' first | with_reducible assumption | (guard_target =~ (_ ||| _ : Nat) = _; decide) | with_reducible apply h90 | with_reducible apply h91 | with_reducible apply h92 | with_reducible apply h93 | with_reducible apply h94 | with_reducible apply Upd.ite | with_reducible apply State.setBit_upd | with_reducible apply State.setFld_upd); try clear_value x) | (have h92 : ∀ a0 a1 t, Upd 1 s t → Upd 1 s (x a0 a1 t) := (by intro a0 a1 t ht; unfold x; repeat' first | with_reducible assumption | (guard_target =~ (_ ||| _ : Nat) = _; decide) | with_reducible apply h90 | with_reducible apply h91 | with_reducible apply h92 | with_reducible apply h93 | with_reducible apply h94 | with_reducible apply Upd.ite | with_reducible apply State.setBit_upd | with_reducible apply State.setFld_upd); try clear_value x) | (have h93 : ∀ a0 a1 a2 t, Upd 1 s t → Upd 1 s (x a0 a1 a2 t) := (by intro a0 a1 a2 t ht; unfold x; repeat' first | with_reducible assumption | (guard_target =~ (_ ||| _ : Nat) = _; decide) | with_reducible apply h90 | with_reducible apply h91 | with_reducible apply h92 | with_reducible apply h93 | with_reducible apply h94 | with_reducible apply Upd.ite | with_reducible apply State.setBit_upd | with_reducible apply State.setFld_upd); try clear_value x) | (have h94 : ∀ a0 a1 a2 a3 t, Upd 1 s t → Upd 1 s (x a0 a1 a2 a3 t) := (by intro a0 a1 a2 a3 t ht; unfold x; repeat' first | with_reducible assumption | (guard_target =~ (_ ||| _ : Nat) = _; decide) | with_reducible apply h90 | with_reducible apply h91 | with_reducible apply h92 | with_reducible apply h93 | with_reducible apply h94 | with_reducible apply Upd.ite | with_reducible apply State.setBit_upd | with_reducible apply State.setFld_upd); try clear_value x) | clear_value x | skip) | with_reducible apply Upd.ite | with_reducible apply State.setBit_upd | with_reducible apply State.setFld_upd

theorem funcsSettle_upd {M0 : Nat} {s0 : State} {cause : Nat} {inputs : Nat} {extra : Nat} {s : State} (hU : Upd M0 s0 s) (hM : 248524021170189 ||| M0 = M0) : Upd M0 s0 (funcsSettle cause inputs extra s) := by
  refine Upd.step hU ?_ hM
  clear hU hM
  unfold funcsSettle
  have h0 := Upd.refl 248524021170189 s
  repeat' first | with_reducible assumption | (guard_target =~ (_ ||| _ : Nat) = _; decide) | with_reducible apply h90 | with_reducible apply h91 | with_reducible apply h92 | with_reducible apply h93 | with_reducible apply h94 | (fail_if_no_progress extract_lets +onlyGivenNames x; first | (have hx : Upd 248524021170189 s x := (by unfold x; repeat' first | with_reducible assumption | (guard_target =~ (_ ||| _ : Nat) = _; decide) | with_reducible apply h90 | with_reducible apply h91 | with_reducible apply h92 | with_reducible apply h93 | with_reducible apply h94 | with_reducible apply Upd.ite | with_reducible apply funcSettle_upd | with_reducible apply safFirst_upd); try clear_value x) | (have hx : Upd 248524021170189 s x.2 := (by unfold x; repeat' first | with_reducible assumption | (guard_target =~ (_ ||| _ : Nat) = _; decide) | with_reducible apply h90 | with_reducible apply h91 | with_reducible apply h92 | with_reducible apply h93 | with_reducible apply h94 | with_reducible apply Upd.ite | with_reducible apply funcSettle_upd | with_reducible apply safFirst_upd); try clear_value x) | (have h9 : (x : Peak) = x := rfl; clear h9) | (have h9 : (x : Saddle) = x := rfl; clear h9) | (have h9 : (x : Pair) = x := rfl; clear h9) | (have h9 : (x : Leg) = x := rfl; clear h9) | (have h90 : ∀  t, Upd 248524021170189 s t → Upd 248524021170189 s (x  t) := (by intro  t ht; unfold x; repeat' first | with_reducible assumption | (guard_target =~ (_ ||| _ : Nat) = _; decide) | with_reducible apply h90 | with_reducible apply h91 | with_reducible apply h92 | with_reducible apply h93 | with_reducible apply h94 | with_reducible apply Upd.ite | with_reducible apply funcSettle_upd | with_reducible apply safFirst_upd); try clear_value x) | (have h91 : ∀ a0 t, Upd 248524021170189 s t → Upd 248524021170189 s (x a0 t) := (by intro a0 t ht; unfold x; repeat' first | with_reducible assumption | (guard_target =~ (_ ||| _ : Nat) = _; decide) | with_reducible apply h90 | with_reducible apply h91 | with_reducible apply h92 | with_reducible apply h93 | with_reducible apply h94 | with_reducible apply Upd.ite | with_reducible apply funcSettle_upd | with_reducible apply safFirst_upd); try clear_value x) | (have h92 : ∀ a0 a1 t, Upd 248524021170189 s t → Upd 248524021170189 s (x a0 a1 t) := (by intro a0 a1 t ht; unfold x; repeat' first | with_reducible assumption | (guard_target =~ (_ ||| _ : Nat) = _; decide) | with_reducible apply h90 | with_reducible apply h91 | with_reducible apply h92 | with_reducible apply h93 | with_reducible apply h94 | with_reducible apply Upd.ite | with_reducible apply funcSettle_upd | with_reducible apply safFirst_upd); try clear_value x) | (have h93 : ∀ a0 a1 a2 t, Upd 248524021170189 s t → Upd 248524021170189 s (x a0 a1 a2 t) := (by intro a0 a1 a2 t ht; unfold x; repeat' first | with_reducible assumption | (guard_target =~ (_ ||| _ : Nat) = _; decide) | with_reducible apply h90 | with_reducible apply h91 | with_reducible apply h92 | with_reducible apply h93 | with_reducible apply h94 | with_reducible apply Upd.ite | with_reducible apply funcSettle_upd | with_reducible apply safFirst_upd); try clear_value x) | (have h94 : ∀ a0 a1 a2 a3 t, Upd 248524021170189 s t → Upd 248524021170189 s (x a0 a1 a2 a3 t) := (by intro a0 a1 a2 a3 t ht; unfold x; repeat' first | with_reducible assumption | (guard_target =~ (_ ||| _ : Nat) = _; decide) | with_reducible apply h90 | with_reducible apply h91 | with_reducible apply h92 | with_reducible apply h93 | with_reducible apply h94 | with_reducible apply Upd.ite | with_reducible apply funcSettle_upd | with_reducible apply safFirst_upd); try clear_value x) | clear_value x | skip) | with_reducible apply Upd.ite | with_reducible apply funcSettle_upd | with_reducible apply safFirst_upd

theorem safChanged_upd {M0 : Nat} {s0 : State} {cause : Nat} {inputs : Nat} {extra : Nat} {s : State} (hU : Upd M0 s0 s) (hM : 248524021641229 ||| M0 = M0) : Upd M0 s0 (safChanged cause inputs extra s) := by
  refine Upd.step hU ?_ hM
  clear hU hM
  unfold safChanged
  have h0 := Upd.refl 248524021641229 s
  repeat' first | with_reducible assumption | (guard_target =~ (_ ||| _ : Nat) = _; decide) | with_reducible apply h90 | with_reducible apply h91 | with_reducible apply h92 | with_reducible apply h93 | with_reducible apply h94 | (fail_if_no_progress extract_lets +onlyGivenNames x; first | (have hx : Upd 248524021641229 s x := (by unfold x; repeat' first | with_reducible assumption | (guard_target =~ (_ ||| _ : Nat) = _; decide) | with_reducible apply h90 | with_reducible apply h91 | with_reducible apply h92 | with_reducible apply h93 | with_reducible apply h94 | with_reducible apply Upd.ite | with_reducible apply funcsSettle_upd | with_reducible apply safAct_upd | with_reducible apply safRefresh_upd); try clear_value x) | (have h9 : (x : Peak) = x := rfl; clear h9) | (have h9 : (x : Saddle) = x := rfl; clear h9) | (have h9 : (x : Pair) = x := rfl; clear h9) | (have h9 : (x : Leg) = x := rfl; clear h9) | (have h90 : ∀  t, Upd 248524021641229 s t → Upd 248524021641229 s (x  t) := (by intro  t ht; unfold x; repeat' first | with_reducible assumption | (guard_target =~ (_ ||| _ : Nat) = _; decide) | with_reducible apply h90 | with_reducible apply h91 | with_reducible apply h92 | with_reducible apply h93 | with_reducible apply h94 | with_reducible apply Upd.ite | with_reducible apply funcsSettle_upd | with_reducible apply safAct_upd | with_reducible apply safRefresh_upd); try clear_value x) | (have h91 : ∀ a0 t, Upd 248524021641229 s t → Upd 248524021641229 s (x a0 t) := (by intro a0 t ht; unfold x; repeat' first | with_reducible assumption | (guard_target =~ (_ ||| _ : Nat) = _; decide) | with_reducible apply h90 | with_reducible apply h91 | with_reducible apply h92 | with_reducible apply h93 | with_reducible apply h94 | with_reducible apply Upd.ite | with_reducible apply funcsSettle_upd | with_reducible apply safAct_upd | with_reducible apply safRefresh_upd); try clear_value x) | (have h92 : ∀ a0 a1 t, Upd 248524021641229 s t → Upd 248524021641229 s (x a0 a1 t) := (by intro a0 a1 t ht; unfold x; repeat' first | with_reducible assumption | (guard_target =~ (_ ||| _ : Nat) = _; decide) | with_reducible apply h90 | with_reducible apply h91 | with_reducible apply h92 | with_reducible apply h93 | with_reducible apply h94 | with_reducible apply Upd.ite | with_reducible apply funcsSettle_upd | with_reducible apply safAct_upd | with_reducible apply safRefresh_upd); try clear_value x) | (have h93 : ∀ a0 a1 a2 t, Upd 248524021641229 s t → Upd 248524021641229 s (x a0 a1 a2 t) := (by intro a0 a1 a2 t ht; unfold x; repeat' first | with_reducible assumption | (guard_target =~ (_ ||| _ : Nat) = _; decide) | with_reducible apply h90 | with_reducible apply h91 | with_reducible apply h92 | with_reducible apply h93 | with_reducible apply h94 | with_reducible apply Upd.ite | with_reducible apply funcsSettle_upd | with_reducible apply safAct_upd | with_reducible apply safRefresh_upd); try clear_value x) | (have h94 : ∀ a0 a1 a2 a3 t, Upd 248524021641229 s t → Upd 248524021641229 s (x a0 a1 a2 a3 t) := (by intro a0 a1 a2 a3 t ht; unfold x; repeat' first | with_reducible assumption | (guard_target =~ (_ ||| _ : Nat) = _; decide) | with_reducible apply h90 | with_reducible apply h91 | with_reducible apply h92 | with_reducible apply h93 | with_reducible apply h94 | with_reducible apply Upd.ite | with_reducible apply funcsSettle_upd | with_reducible apply safAct_upd | with_reducible apply safRefresh_upd); try clear_value x) | clear_value x | skip) | with_reducible apply Upd.ite | with_reducible apply funcsSettle_upd | with_reducible apply safAct_upd | with_reducible apply safRefresh_upd

theorem setMask8_upd {M0 : Nat} {s0 : State} {f : Fld} {n : Nat} {v : Bool} {s : State} (hU : Upd M0 s0 s) (hM : 1 ||| M0 = M0) : Upd M0 s0 (setMask8 f n v s) := by
  refine Upd.step hU ?_ hM
  clear hU hM
  unfold setMask8
  have h0 := Upd.refl 1 s
  repeat' first | with_reducible assumption | (guard_target =~ (_ ||| _ : Nat) = _; decide) | with_reducible apply Upd.ite | with_reducible apply State.setFld_upd

theorem inputFault_upd {M0 : Nat} {s0 : State} {n : Nat} {code : Nat} {s : State} (hU : Upd M0 s0 s) (hM : 248524021641229 ||| M0 = M0) : Upd M0 s0 (inputFault n code s) := by
  refine Upd.step hU ?_ hM
  clear hU hM
  unfold inputFault
  have h0 := Upd.refl 248524021641229 s
  repeat' first | with_reducible assumption | (guard_target =~ (_ ||| _ : Nat) = _; decide) | (fail_if_no_progress extract_lets +onlyGivenNames x; first | (have hx : Upd 248524021641229 s x := (by unfold x; repeat' first | with_reducible assumption | (guard_target =~ (_ ||| _ : Nat) = _; decide) | with_reducible apply Upd.ite | with_reducible apply State.setFld_upd | with_reducible apply State.bump_upd | with_reducible apply fireBoth_upd | with_reducible apply State.raise_upd | with_reducible apply safChanged_upd | with_reducible apply Upd.lit | exact rfl | exact SadUpd.refl _ _ | with_reducible apply SadUpd.ite | apply SadUpd.mk | exact fun _ => PeakUpd.refl _ _ | exact Or.inl (by decide) | exact Or.inr rfl); try clear_value x) | (have h9 : (x : Peak) = x := rfl; clear h9) | (have h9 : (x : Saddle) = x := rfl; clear h9) | (have h9 : (x : Pair) = x := rfl; clear h9) | (have h9 : (x : Leg) = x := rfl; clear h9) | clear_value x | skip) | with_reducible apply Upd.ite | with_reducible apply State.setFld_upd | with_reducible apply State.bump_upd | with_reducible apply fireBoth_upd | with_reducible apply State.raise_upd | with_reducible apply safChanged_upd | with_reducible apply Upd.lit | exact rfl | exact SadUpd.refl _ _ | with_reducible apply SadUpd.ite | apply SadUpd.mk | exact fun _ => PeakUpd.refl _ _ | exact Or.inl (by decide) | exact Or.inr rfl

theorem feedbackSeen_upd {M0 : Nat} {s0 : State} {n : Nat} {s : State} (hU : Upd M0 s0 s) (hM : 33554432 ||| M0 = M0) : Upd M0 s0 (feedbackSeen n s) := by
  refine Upd.step hU ?_ hM
  clear hU hM
  unfold feedbackSeen
  have h0 := Upd.refl 33554432 s
  repeat' first | with_reducible assumption | (guard_target =~ (_ ||| _ : Nat) = _; decide) | with_reducible apply Upd.ite | with_reducible apply Upd.lit | exact rfl | exact SadUpd.refl _ _ | with_reducible apply SadUpd.ite | apply SadUpd.mk | exact fun _ => PeakUpd.refl _ _ | exact Or.inl (by decide) | exact Or.inr rfl

theorem inputLevel_upd {M0 : Nat} {s0 : State} {n : Nat} {high : Bool} {s : State} (hU : Upd M0 s0 s) (hM : 248524021641229 ||| M0 = M0) : Upd M0 s0 (inputLevel n high s) := by
  refine Upd.step hU ?_ hM
  clear hU hM
  unfold inputLevel
  have h0 := Upd.refl 248524021641229 s
  repeat' first | with_reducible assumption | (guard_target =~ (_ ||| _ : Nat) = _; decide) | (fail_if_no_progress extract_lets +onlyGivenNames x; first | (have hx : Upd 248524021641229 s x := (by unfold x; repeat' first | with_reducible assumption | (guard_target =~ (_ ||| _ : Nat) = _; decide) | with_reducible apply Upd.ite | with_reducible apply setMask8_upd | with_reducible apply safChanged_upd | with_reducible apply feedbackSeen_upd | with_reducible apply Upd.lit | exact rfl | exact SadUpd.refl _ _ | with_reducible apply SadUpd.ite | apply SadUpd.mk | exact fun _ => PeakUpd.refl _ _ | exact Or.inl (by decide) | exact Or.inr rfl); try clear_value x) | (have h9 : (x : Peak) = x := rfl; clear h9) | (have h9 : (x : Saddle) = x := rfl; clear h9) | (have h9 : (x : Pair) = x := rfl; clear h9) | (have h9 : (x : Leg) = x := rfl; clear h9) | clear_value x | skip) | with_reducible apply Upd.ite | with_reducible apply setMask8_upd | with_reducible apply safChanged_upd | with_reducible apply feedbackSeen_upd | with_reducible apply Upd.lit | exact rfl | exact SadUpd.refl _ _ | with_reducible apply SadUpd.ite | apply SadUpd.mk | exact fun _ => PeakUpd.refl _ _ | exact Or.inl (by decide) | exact Or.inr rfl

theorem pulseStart_upd {M0 : Nat} {s0 : State} {n : Nat} {high : Nat} {s : State} (hU : Upd M0 s0 s) (hM : 248524021641229 ||| M0 = M0) : Upd M0 s0 (pulseStart n high s) := by
  refine Upd.step hU ?_ hM
  clear hU hM
  unfold pulseStart
  have h0 := Upd.refl 248524021641229 s
  repeat' first | with_reducible assumption | (guard_target =~ (_ ||| _ : Nat) = _; decide) | (fail_if_no_progress extract_lets +onlyGivenNames x; first | (have hx : Upd 248524021641229 s x := (by unfold x; repeat' first | with_reducible assumption | (guard_target =~ (_ ||| _ : Nat) = _; decide) | with_reducible apply Upd.ite | with_reducible apply setMask8_upd | with_reducible refine Upd.forAll ?_ (fun _ _ _ => ?_) | with_reducible apply inputFault_upd); try clear_value x) | (have h9 : (x : Peak) = x := rfl; clear h9) | (have h9 : (x : Saddle) = x := rfl; clear h9) | (have h9 : (x : Pair) = x := rfl; clear h9) | (have h9 : (x : Leg) = x := rfl; clear h9) | clear_value x | skip) | with_reducible apply Upd.ite | with_reducible apply setMask8_upd | with_reducible refine Upd.forAll ?_ (fun _ _ _ => ?_) | with_reducible apply inputFault_upd

theorem pulseEnd_upd {M0 : Nat} {s0 : State} {n : Nat} {high : Nat} {s : State} (hU : Upd M0 s0 s) (hM : 33554433 ||| M0 = M0) : Upd M0 s0 (pulseEnd n high s) := by
  refine Upd.step hU ?_ hM
  clear hU hM
  unfold pulseEnd
  have h0 := Upd.refl 33554433 s
  repeat' first | with_reducible assumption | (guard_target =~ (_ ||| _ : Nat) = _; decide) | (fail_if_no_progress extract_lets +onlyGivenNames x; first | (have hx : Upd 33554433 s x := (by unfold x; repeat' first | with_reducible assumption | (guard_target =~ (_ ||| _ : Nat) = _; decide) | with_reducible apply Upd.ite | with_reducible apply setMask8_upd | with_reducible refine Upd.forAll ?_ (fun _ _ _ => ?_) | with_reducible apply feedbackSeen_upd | with_reducible apply Upd.lit | exact rfl | exact SadUpd.refl _ _ | with_reducible apply SadUpd.ite | apply SadUpd.mk | exact fun _ => PeakUpd.refl _ _ | exact Or.inl (by decide) | exact Or.inr rfl); try clear_value x) | (have h9 : (x : Peak) = x := rfl; clear h9) | (have h9 : (x : Saddle) = x := rfl; clear h9) | (have h9 : (x : Pair) = x := rfl; clear h9) | (have h9 : (x : Leg) = x := rfl; clear h9) | clear_value x | skip) | with_reducible apply Upd.ite | with_reducible apply setMask8_upd | with_reducible refine Upd.forAll ?_ (fun _ _ _ => ?_) | with_reducible apply feedbackSeen_upd | with_reducible apply Upd.lit | exact rfl | exact SadUpd.refl _ _ | with_reducible apply SadUpd.ite | apply SadUpd.mk | exact fun _ => PeakUpd.refl _ _ | exact Or.inl (by decide) | exact Or.inr rfl

theorem discrepancy_upd {M0 : Nat} {s0 : State} {n : Nat} {s : State} (hU : Upd M0 s0 s) (hM : 248524021641229 ||| M0 = M0) : Upd M0 s0 (discrepancy n s) := by
  refine Upd.step hU ?_ hM
  clear hU hM
  unfold discrepancy
  have h0 := Upd.refl 248524021641229 s
  repeat' first | with_reducible assumption | (guard_target =~ (_ ||| _ : Nat) = _; decide) | with_reducible apply Upd.ite | with_reducible apply inputFault_upd | split

theorem tpoFault_upd {M0 : Nat} {s0 : State} {n : Nat} {s : State} (hU : Upd M0 s0 s) (hM : 248524021641229 ||| M0 = M0) : Upd M0 s0 (tpoFault n s) := by
  refine Upd.step hU ?_ hM
  clear hU hM
  unfold tpoFault
  have h0 := Upd.refl 248524021641229 s
  repeat' first | with_reducible assumption | (guard_target =~ (_ ||| _ : Nat) = _; decide) | (fail_if_no_progress extract_lets +onlyGivenNames x; first | (have hx : Upd 248524021641229 s x := (by unfold x; repeat' first | with_reducible assumption | (guard_target =~ (_ ||| _ : Nat) = _; decide) | with_reducible apply Upd.ite | with_reducible apply setMask8_upd | with_reducible refine Upd.forAll ?_ (fun _ _ _ => ?_) | with_reducible apply inputFault_upd); try clear_value x) | (have h9 : (x : Peak) = x := rfl; clear h9) | (have h9 : (x : Saddle) = x := rfl; clear h9) | (have h9 : (x : Pair) = x := rfl; clear h9) | (have h9 : (x : Leg) = x := rfl; clear h9) | clear_value x | skip) | with_reducible apply Upd.ite | with_reducible apply setMask8_upd | with_reducible refine Upd.forAll ?_ (fun _ _ _ => ?_) | with_reducible apply inputFault_upd

theorem outputFault_upd {M0 : Nat} {s0 : State} {n : Nat} {s : State} (hU : Upd M0 s0 s) (hM : 248524021641229 ||| M0 = M0) : Upd M0 s0 (outputFault n s) := by
  refine Upd.step hU ?_ hM
  clear hU hM
  unfold outputFault
  have h0 := Upd.refl 248524021641229 s
  repeat' first | with_reducible assumption | (guard_target =~ (_ ||| _ : Nat) = _; decide) | (fail_if_no_progress extract_lets +onlyGivenNames x; first | (have hx : Upd 248524021641229 s x := (by unfold x; repeat' first | with_reducible assumption | (guard_target =~ (_ ||| _ : Nat) = _; decide) | with_reducible apply setMask8_upd | with_reducible apply State.raise_upd | with_reducible apply safChanged_upd | with_reducible apply fireBoth_upd | with_reducible apply State.bump_upd); try clear_value x) | (have h9 : (x : Peak) = x := rfl; clear h9) | (have h9 : (x : Saddle) = x := rfl; clear h9) | (have h9 : (x : Pair) = x := rfl; clear h9) | (have h9 : (x : Leg) = x := rfl; clear h9) | clear_value x | skip) | with_reducible apply setMask8_upd | with_reducible apply State.raise_upd | with_reducible apply safChanged_upd | with_reducible apply fireBoth_upd | with_reducible apply State.bump_upd

theorem safReset_upd {M0 : Nat} {s0 : State} {mask : Nat} {low : Nat} {s : State} (hU : Upd M0 s0 s) (hM : 248524021641229 ||| M0 = M0) : Upd M0 s0 (safReset mask low s).2 := by
  refine Upd.step hU ?_ hM
  clear hU hM
  unfold safReset
  have h0 := Upd.refl 248524021641229 s
  repeat' first | with_reducible assumption | (guard_target =~ (_ ||| _ : Nat) = _; decide) | (fail_if_no_progress extract_lets +onlyGivenNames x; first | (have hx : Upd 248524021641229 s x := (by unfold x; repeat' first | with_reducible assumption | (guard_target =~ (_ ||| _ : Nat) = _; decide) | with_reducible apply Upd.ite | with_reducible apply Upd.ite_snd | with_reducible refine Upd.forAll ?_ (fun _ _ _ => ?_) | with_reducible apply State.setFld_upd | with_reducible apply State.raise_upd | with_reducible apply safChanged_upd); try clear_value x) | (have h9 : (x : Peak) = x := rfl; clear h9) | (have h9 : (x : Saddle) = x := rfl; clear h9) | (have h9 : (x : Pair) = x := rfl; clear h9) | (have h9 : (x : Leg) = x := rfl; clear h9) | clear_value x | skip) | with_reducible apply Upd.ite | with_reducible apply Upd.ite_snd | with_reducible refine Upd.forAll ?_ (fun _ _ _ => ?_) | with_reducible apply State.setFld_upd | with_reducible apply State.raise_upd | with_reducible apply safChanged_upd

theorem safResult_upd {M0 : Nat} {s0 : State} {code : Nat} {s : State} (hU : Upd M0 s0 s) (hM : 1 ||| M0 = M0) : Upd M0 s0 (safResult code s) := by
  refine Upd.step hU ?_ hM
  clear hU hM
  unfold safResult
  have h0 := Upd.refl 1 s
  repeat' first | with_reducible assumption | (guard_target =~ (_ ||| _ : Nat) = _; decide) | (fail_if_no_progress extract_lets +onlyGivenNames x; first | (have hx : Upd 1 s x := (by unfold x; repeat' first | with_reducible assumption | (guard_target =~ (_ ||| _ : Nat) = _; decide) | with_reducible apply Upd.ite | with_reducible apply State.setFld_upd | with_reducible apply State.raise_upd); try clear_value x) | (have h9 : (x : Peak) = x := rfl; clear h9) | (have h9 : (x : Saddle) = x := rfl; clear h9) | (have h9 : (x : Pair) = x := rfl; clear h9) | (have h9 : (x : Leg) = x := rfl; clear h9) | clear_value x | skip) | with_reducible apply Upd.ite | with_reducible apply State.setFld_upd | with_reducible apply State.raise_upd

theorem safCommit_upd {M0 : Nat} {s0 : State} {keyOk : Bool} {s : State} (hU : Upd M0 s0 s) (hM : 33554433 ||| M0 = M0) : Upd M0 s0 (safCommit keyOk s) := by
  refine Upd.step hU ?_ hM
  clear hU hM
  unfold safCommit
  have h0 := Upd.refl 33554433 s
  repeat' first | with_reducible assumption | (guard_target =~ (_ ||| _ : Nat) = _; decide) | (fail_if_no_progress extract_lets +onlyGivenNames x; first | (have hx : Upd 33554433 s x := (by unfold x; repeat' first | with_reducible assumption | (guard_target =~ (_ ||| _ : Nat) = _; decide) | with_reducible apply Upd.ite | with_reducible apply safResult_upd | with_reducible apply State.setFld_upd | with_reducible apply Upd.lit | exact rfl | exact SadUpd.refl _ _ | with_reducible apply SadUpd.ite | apply SadUpd.mk | exact fun _ => PeakUpd.refl _ _ | exact Or.inl (by decide) | exact Or.inr rfl); try clear_value x) | (have h9 : (x : Peak) = x := rfl; clear h9) | (have h9 : (x : Saddle) = x := rfl; clear h9) | (have h9 : (x : Pair) = x := rfl; clear h9) | (have h9 : (x : Leg) = x := rfl; clear h9) | clear_value x | skip) | with_reducible apply Upd.ite | with_reducible apply safResult_upd | with_reducible apply State.setFld_upd | with_reducible apply Upd.lit | exact rfl | exact SadUpd.refl _ _ | with_reducible apply SadUpd.ite | apply SadUpd.mk | exact fun _ => PeakUpd.refl _ _ | exact Or.inl (by decide) | exact Or.inr rfl

theorem storeImage_upd {M0 : Nat} {s0 : State} {key : Nat} {w : List Nat} {s : State} (hU : Upd M0 s0 s) (hM : 2 ||| M0 = M0) : Upd M0 s0 (storeImage key w s) := by
  refine Upd.step hU ?_ hM
  clear hU hM
  unfold storeImage
  have h0 := Upd.refl 2 s
  repeat' first | with_reducible assumption | (guard_target =~ (_ ||| _ : Nat) = _; decide) | with_reducible apply State.setByteList_upd

theorem activate_upd {M0 : Nat} {s0 : State} {w : List Nat} {copy : Bool} {s : State} (hU : Upd M0 s0 s) (hM : 248524021641229 ||| M0 = M0) : Upd M0 s0 (activate w copy s) := by
  refine Upd.step hU ?_ hM
  clear hU hM
  unfold activate
  have h0 := Upd.refl 248524021641229 s
  repeat' first | with_reducible assumption | (guard_target =~ (_ ||| _ : Nat) = _; decide) | (fail_if_no_progress extract_lets +onlyGivenNames x; first | (have hx : Upd 248524021641229 s x := (by unfold x; repeat' first | with_reducible assumption | (guard_target =~ (_ ||| _ : Nat) = _; decide) | with_reducible apply Upd.ite | with_reducible apply State.setFld_upd | with_reducible apply State.setReg_upd | with_reducible refine Upd.forAll ?_ (fun _ _ _ => ?_) | with_reducible apply safAct_upd | with_reducible apply safRefresh_upd | with_reducible apply State.setBit_upd | with_reducible apply Upd.lit | exact rfl | exact SadUpd.refl _ _ | with_reducible apply SadUpd.ite | apply SadUpd.mk | exact fun _ => PeakUpd.refl _ _ | exact Or.inl (by decide) | exact Or.inr rfl); try clear_value x) | (have h9 : (x : Peak) = x := rfl; clear h9) | (have h9 : (x : Saddle) = x := rfl; clear h9) | (have h9 : (x : Pair) = x := rfl; clear h9) | (have h9 : (x : Leg) = x := rfl; clear h9) | clear_value x | skip) | with_reducible apply Upd.ite | with_reducible apply State.setFld_upd | with_reducible apply State.setReg_upd | with_reducible refine Upd.forAll ?_ (fun _ _ _ => ?_) | with_reducible apply safAct_upd | with_reducible apply safRefresh_upd | with_reducible apply State.setBit_upd | with_reducible apply Upd.lit | exact rfl | exact SadUpd.refl _ _ | with_reducible apply SadUpd.ite | apply SadUpd.mk | exact fun _ => PeakUpd.refl _ _ | exact Or.inl (by decide) | exact Or.inr rfl

theorem safCommitDone_upd {M0 : Nat} {s0 : State} {ok : Bool} {s : State} (hU : Upd M0 s0 s) (hM : 248525095383055 ||| M0 = M0) : Upd M0 s0 (safCommitDone ok s) := by
  refine Upd.step hU ?_ hM
  clear hU hM
  unfold safCommitDone
  have h0 := Upd.refl 248525095383055 s
  repeat' first | with_reducible assumption | (guard_target =~ (_ ||| _ : Nat) = _; decide) | (fail_if_no_progress extract_lets +onlyGivenNames x; first | (have hx : Upd 248525095383055 s x := (by unfold x; repeat' first | with_reducible assumption | (guard_target =~ (_ ||| _ : Nat) = _; decide) | with_reducible apply Upd.ite | with_reducible apply State.setFld_upd | with_reducible apply activate_upd | with_reducible apply safResult_upd | with_reducible apply storeImage_upd | split | with_reducible apply Upd.lit | exact rfl | exact SadUpd.refl _ _ | with_reducible apply SadUpd.ite | apply SadUpd.mk | exact fun _ => PeakUpd.refl _ _ | exact Or.inl (by decide) | exact Or.inr rfl); try clear_value x) | (have h9 : (x : Peak) = x := rfl; clear h9) | (have h9 : (x : Saddle) = x := rfl; clear h9) | (have h9 : (x : Pair) = x := rfl; clear h9) | (have h9 : (x : Leg) = x := rfl; clear h9) | clear_value x | skip) | with_reducible apply Upd.ite | with_reducible apply State.setFld_upd | with_reducible apply activate_upd | with_reducible apply safResult_upd | with_reducible apply storeImage_upd | split | with_reducible apply Upd.lit | exact rfl | exact SadUpd.refl _ _ | with_reducible apply SadUpd.ite | apply SadUpd.mk | exact fun _ => PeakUpd.refl _ _ | exact Or.inl (by decide) | exact Or.inr rfl

theorem safLoad_upd {M0 : Nat} {s0 : State} {s : State} (hU : Upd M0 s0 s) (hM : 248524021641229 ||| M0 = M0) : Upd M0 s0 (safLoad s) := by
  refine Upd.step hU ?_ hM
  clear hU hM
  unfold safLoad
  have h0 := Upd.refl 248524021641229 s
  repeat' first | with_reducible assumption | (guard_target =~ (_ ||| _ : Nat) = _; decide) | (fail_if_no_progress extract_lets +onlyGivenNames x; first | (have hx : Upd 248524021641229 s x := (by unfold x; repeat' first | with_reducible assumption | (guard_target =~ (_ ||| _ : Nat) = _; decide) | with_reducible apply Upd.ite | with_reducible apply State.raise_upd | with_reducible apply activate_upd); try clear_value x) | (have h9 : (x : Peak) = x := rfl; clear h9) | (have h9 : (x : Saddle) = x := rfl; clear h9) | (have h9 : (x : Pair) = x := rfl; clear h9) | (have h9 : (x : Leg) = x := rfl; clear h9) | clear_value x | skip) | with_reducible apply Upd.ite | with_reducible apply State.raise_upd | with_reducible apply activate_upd

theorem safCmdReset_upd {M0 : Nat} {s0 : State} {keyOk : Bool} {mask : Nat} {low : Nat} {s : State} (hU : Upd M0 s0 s) (hM : 248524021641229 ||| M0 = M0) : Upd M0 s0 (safCmdReset keyOk mask low s) := by
  refine Upd.step hU ?_ hM
  clear hU hM
  unfold safCmdReset
  have h0 := Upd.refl 248524021641229 s
  repeat' first | with_reducible assumption | (guard_target =~ (_ ||| _ : Nat) = _; decide) | (fail_if_no_progress extract_lets +onlyGivenNames x; first | (have hx : Upd 248524021641229 s x := (by unfold x; repeat' first | with_reducible assumption | (guard_target =~ (_ ||| _ : Nat) = _; decide) | with_reducible apply Upd.ite | with_reducible apply safResult_upd | with_reducible apply safReset_upd); try clear_value x) | (have hx : Upd 248524021641229 s x.2 := (by unfold x; repeat' first | with_reducible assumption | (guard_target =~ (_ ||| _ : Nat) = _; decide) | with_reducible apply Upd.ite | with_reducible apply safResult_upd | with_reducible apply safReset_upd); try clear_value x) | (have h9 : (x : Peak) = x := rfl; clear h9) | (have h9 : (x : Saddle) = x := rfl; clear h9) | (have h9 : (x : Pair) = x := rfl; clear h9) | (have h9 : (x : Leg) = x := rfl; clear h9) | clear_value x | skip) | with_reducible apply Upd.ite | with_reducible apply safResult_upd | with_reducible apply safReset_upd

theorem safCmdDemand_upd {M0 : Nat} {s0 : State} {keyOk : Bool} {mask : Nat} {s : State} (hU : Upd M0 s0 s) (hM : 248524021641229 ||| M0 = M0) : Upd M0 s0 (safCmdDemand keyOk mask s) := by
  refine Upd.step hU ?_ hM
  clear hU hM
  unfold safCmdDemand
  have h0 := Upd.refl 248524021641229 s
  repeat' first | with_reducible assumption | (guard_target =~ (_ ||| _ : Nat) = _; decide) | with_reducible apply Upd.ite | with_reducible apply safResult_upd | with_reducible apply safChanged_upd

theorem safCmd_upd {M0 : Nat} {s0 : State} {v : Nat} {low : Nat} {s : State} (hU : Upd M0 s0 s) (hM : 248524021641229 ||| M0 = M0) : Upd M0 s0 (safCmd v low s) := by
  refine Upd.step hU ?_ hM
  clear hU hM
  unfold safCmd
  have h0 := Upd.refl 248524021641229 s
  repeat' first | with_reducible assumption | (guard_target =~ (_ ||| _ : Nat) = _; decide) | (fail_if_no_progress extract_lets +onlyGivenNames x; first | (have hx : Upd 248524021641229 s x := (by unfold x; repeat' first | with_reducible assumption | (guard_target =~ (_ ||| _ : Nat) = _; decide) | with_reducible apply Upd.ite | with_reducible apply safCommit_upd | with_reducible apply safCmdReset_upd | with_reducible apply safCmdDemand_upd | with_reducible apply State.raise_upd | with_reducible apply safResult_upd | split); try clear_value x) | (have h9 : (x : Peak) = x := rfl; clear h9) | (have h9 : (x : Saddle) = x := rfl; clear h9) | (have h9 : (x : Pair) = x := rfl; clear h9) | (have h9 : (x : Leg) = x := rfl; clear h9) | clear_value x | skip) | with_reducible apply Upd.ite | with_reducible apply safCommit_upd | with_reducible apply safCmdReset_upd | with_reducible apply safCmdDemand_upd | with_reducible apply State.raise_upd | with_reducible apply safResult_upd | split

theorem whenKernel_upd {M : Nat} {x : State} {f : State → State} {s : State} (h : Upd M x s) (hf : ∀ t, Upd M x t → Upd M x (f t)) (hM : 0 ||| M = M) : Upd M x (whenKernel f s) := by
  unfold whenKernel
  exact Upd.ite (hf _ h) h

theorem whenAnswers_upd {M : Nat} {x : State} {f : State → State} {s : State} (h : Upd M x s) (hf : ∀ t, Upd M x t → Upd M x (f t)) (hM : 0 ||| M = M) : Upd M x (whenAnswers f s) := by
  unfold whenAnswers
  exact Upd.ite (hf _ h) h

theorem execToggleLoss_upd (seg : Fin 9) (s : State) {t : State} (hX : execToggleLoss seg s = .next t) : Upd 248524021641229 s t := by
  unfold execToggleLoss at hX
  cases hX
  have h0 := Upd.refl 248524021641229 s
  repeat' first | with_reducible assumption | (guard_target =~ (_ ||| _ : Nat) = _; decide) | with_reducible refine whenKernel_upd ?_ (fun _ _ => ?_) ?_ | with_reducible apply safAct_upd | with_reducible apply Upd.lit | exact rfl | exact SadUpd.refl _ _ | with_reducible apply SadUpd.ite | apply SadUpd.mk | exact fun _ => PeakUpd.refl _ _ | exact Or.inl (by decide) | exact Or.inr rfl

theorem execSafetyConfigLoad_upd (s : State) {t : State} (hX : execSafetyConfigLoad s = .next t) : Upd 248524021641229 s t := by
  unfold execSafetyConfigLoad at hX
  cases hX
  have h0 := Upd.refl 248524021641229 s
  repeat' first | with_reducible assumption | (guard_target =~ (_ ||| _ : Nat) = _; decide) | with_reducible refine whenKernel_upd ?_ (fun _ _ => ?_) ?_ | with_reducible apply safLoad_upd

theorem execSafCommit_upd (key : BitVec 16) (s : State) {t : State} (hX : execSafCommit key s = .next t) : Upd 33554433 s t := by
  unfold execSafCommit at hX
  cases hX
  have h0 := Upd.refl 33554433 s
  repeat' first | with_reducible assumption | (guard_target =~ (_ ||| _ : Nat) = _; decide) | with_reducible refine whenAnswers_upd ?_ (fun _ _ => ?_) ?_ | with_reducible apply safCommit_upd

theorem execSafCommitComplete_upd (ok : Bool) (s : State) {t : State} (hX : execSafCommitComplete ok s = .next t) : Upd 248525095383055 s t := by
  unfold execSafCommitComplete at hX
  cases hX
  have h0 := Upd.refl 248525095383055 s
  repeat' first | with_reducible assumption | (guard_target =~ (_ ||| _ : Nat) = _; decide) | with_reducible refine whenKernel_upd ?_ (fun _ _ => ?_) ?_ | with_reducible apply safCommitDone_upd

theorem execSafReset_upd (key : BitVec 16) (func : BitVec 3) (low : BitVec 4) (s : State) {t : State} (hX : execSafReset key func low s = .next t) : Upd 248524021641229 s t := by
  unfold execSafReset at hX
  cases hX
  have h0 := Upd.refl 248524021641229 s
  repeat' first | with_reducible assumption | (guard_target =~ (_ ||| _ : Nat) = _; decide) | with_reducible refine whenAnswers_upd ?_ (fun _ _ => ?_) ?_ | with_reducible apply safCmdReset_upd

theorem execSafDemand_upd (key : BitVec 16) (func : BitVec 3) (s : State) {t : State} (hX : execSafDemand key func s = .next t) : Upd 248524021641229 s t := by
  unfold execSafDemand at hX
  cases hX
  have h0 := Upd.refl 248524021641229 s
  repeat' first | with_reducible assumption | (guard_target =~ (_ ||| _ : Nat) = _; decide) | with_reducible refine whenAnswers_upd ?_ (fun _ _ => ?_) ?_ | with_reducible apply safCmdDemand_upd

theorem execTestPulseStart_upd (n : Fin 4) (high : BitVec 8) (s : State) {t : State} (hX : execTestPulseStart n high s = .next t) : Upd 248524021641229 s t := by
  unfold execTestPulseStart at hX
  cases hX
  have h0 := Upd.refl 248524021641229 s
  repeat' first | with_reducible assumption | (guard_target =~ (_ ||| _ : Nat) = _; decide) | with_reducible refine whenKernel_upd ?_ (fun _ _ => ?_) ?_ | with_reducible apply pulseStart_upd

theorem execTestPulseEnd_upd (n : Fin 4) (high : BitVec 8) (s : State) {t : State} (hX : execTestPulseEnd n high s = .next t) : Upd 33554433 s t := by
  unfold execTestPulseEnd at hX
  cases hX
  have h0 := Upd.refl 33554433 s
  repeat' first | with_reducible assumption | (guard_target =~ (_ ||| _ : Nat) = _; decide) | with_reducible refine whenKernel_upd ?_ (fun _ _ => ?_) ?_ | with_reducible apply pulseEnd_upd

theorem execInputDemand_upd (n : Fin 8) (s : State) {t : State} (hX : execInputDemand n s = .next t) : Upd 248524021641229 s t := by
  unfold execInputDemand at hX
  cases hX
  have h0 := Upd.refl 248524021641229 s
  repeat' first | with_reducible assumption | (guard_target =~ (_ ||| _ : Nat) = _; decide) | with_reducible refine whenKernel_upd ?_ (fun _ _ => ?_) ?_ | with_reducible apply inputLevel_upd

theorem execInputRelease_upd (n : Fin 8) (s : State) {t : State} (hX : execInputRelease n s = .next t) : Upd 248524021641229 s t := by
  unfold execInputRelease at hX
  cases hX
  have h0 := Upd.refl 248524021641229 s
  repeat' first | with_reducible assumption | (guard_target =~ (_ ||| _ : Nat) = _; decide) | with_reducible refine whenKernel_upd ?_ (fun _ _ => ?_) ?_ | with_reducible apply inputLevel_upd

theorem execDiscrepancyExpiry_upd (n : Fin 8) (s : State) {t : State} (hX : execDiscrepancyExpiry n s = .next t) : Upd 248524021641229 s t := by
  unfold execDiscrepancyExpiry at hX
  cases hX
  have h0 := Upd.refl 248524021641229 s
  repeat' first | with_reducible assumption | (guard_target =~ (_ ||| _ : Nat) = _; decide) | with_reducible refine whenKernel_upd ?_ (fun _ _ => ?_) ?_ | with_reducible apply discrepancy_upd

theorem execTpoFault_upd (n : Fin 4) (s : State) {t : State} (hX : execTpoFault n s = .next t) : Upd 248524021641229 s t := by
  unfold execTpoFault at hX
  cases hX
  have h0 := Upd.refl 248524021641229 s
  repeat' first | with_reducible assumption | (guard_target =~ (_ ||| _ : Nat) = _; decide) | with_reducible refine whenKernel_upd ?_ (fun _ _ => ?_) ?_ | with_reducible apply tpoFault_upd

theorem execResetStuckExpiry_upd (n : Fin 8) (s : State) {t : State} (hX : execResetStuckExpiry n s = .next t) : Upd 248524021641229 s t := by
  unfold execResetStuckExpiry at hX
  cases hX
  have h0 := Upd.refl 248524021641229 s
  repeat' first | with_reducible assumption | (guard_target =~ (_ ||| _ : Nat) = _; decide) | with_reducible apply Upd.ite | with_reducible refine whenKernel_upd ?_ (fun _ _ => ?_) ?_ | with_reducible apply inputFault_upd

theorem execSoutOffPulse_upd (n : Fin 4) (s : State) {t : State} (hX : execSoutOffPulse n s = .next t) : Upd 33554432 s t := by
  unfold execSoutOffPulse at hX
  cases hX
  have h0 := Upd.refl 33554432 s
  repeat' first | with_reducible assumption | (guard_target =~ (_ ||| _ : Nat) = _; decide) | with_reducible apply Upd.ite | with_reducible apply Upd.lit | exact rfl | exact SadUpd.refl _ _ | with_reducible apply SadUpd.ite | apply SadUpd.mk | exact fun _ => PeakUpd.refl _ _ | exact Or.inl (by decide) | exact Or.inr rfl

theorem execSoutOffPulseEnd_upd (n : Fin 4) (s : State) {t : State} (hX : execSoutOffPulseEnd n s = .next t) : Upd 33554432 s t := by
  unfold execSoutOffPulseEnd at hX
  cases hX
  have h0 := Upd.refl 33554432 s
  repeat' first | with_reducible assumption | (guard_target =~ (_ ||| _ : Nat) = _; decide) | with_reducible apply Upd.lit | exact rfl | exact SadUpd.refl _ _ | with_reducible apply SadUpd.ite | apply SadUpd.mk | exact fun _ => PeakUpd.refl _ _ | exact Or.inl (by decide) | exact Or.inr rfl

theorem execSoutStuckOn_upd (n : Fin 4) (s : State) {t : State} (hX : execSoutStuckOn n s = .next t) : Upd 248524021641229 s t := by
  unfold execSoutStuckOn at hX
  cases hX
  have h0 := Upd.refl 248524021641229 s
  repeat' first | with_reducible assumption | (guard_target =~ (_ ||| _ : Nat) = _; decide) | with_reducible apply Upd.ite | with_reducible apply outputFault_upd

theorem execSoutShorted_upd (n : Fin 4) (s : State) {t : State} (hX : execSoutShorted n s = .next t) : Upd 248524021641229 s t := by
  unfold execSoutShorted at hX
  cases hX
  have h0 := Upd.refl 248524021641229 s
  repeat' first | with_reducible assumption | (guard_target =~ (_ ||| _ : Nat) = _; decide) | with_reducible apply Upd.ite | with_reducible refine whenKernel_upd ?_ (fun _ _ => ?_) ?_ | with_reducible apply outputFault_upd

theorem stopTimeEnd_upd {M0 : Nat} {s0 : State} {s : State} (hU : Upd M0 s0 s) (hM : 248524021641229 ||| M0 = M0) : Upd M0 s0 (stopTimeEnd s) := by
  refine Upd.step hU ?_ hM
  clear hU hM
  unfold stopTimeEnd
  have h0 := Upd.refl 248524021641229 s
  repeat' first | with_reducible assumption | (guard_target =~ (_ ||| _ : Nat) = _; decide) | (fail_if_no_progress extract_lets +onlyGivenNames x; first | (have hx : Upd 248524021641229 s x := (by unfold x; repeat' first | with_reducible assumption | (guard_target =~ (_ ||| _ : Nat) = _; decide) | with_reducible apply Upd.ite | with_reducible apply State.setFld_upd | with_reducible apply gwPend_upd | with_reducible apply fireBoth_upd | with_reducible apply safChanged_upd); try clear_value x) | (have h9 : (x : Peak) = x := rfl; clear h9) | (have h9 : (x : Saddle) = x := rfl; clear h9) | (have h9 : (x : Pair) = x := rfl; clear h9) | (have h9 : (x : Leg) = x := rfl; clear h9) | clear_value x | skip) | with_reducible apply Upd.ite | with_reducible apply State.setFld_upd | with_reducible apply gwPend_upd | with_reducible apply fireBoth_upd | with_reducible apply safChanged_upd

theorem execStopTimeExpiry_upd (s : State) {t : State} (hX : execStopTimeExpiry s = .next t) : Upd 248524021641229 s t := by
  unfold execStopTimeExpiry at hX
  cases hX
  have h0 := Upd.refl 248524021641229 s
  repeat' first | with_reducible assumption | (guard_target =~ (_ ||| _ : Nat) = _; decide) | with_reducible apply stopTimeEnd_upd

theorem execResetInputRelease_upd (low : BitVec 4) (s : State) {t : State} (hX : execResetInputRelease low s = .next t) : Upd 248524021641229 s t := by
  unfold execResetInputRelease at hX
  cases hX
  have h0 := Upd.refl 248524021641229 s
  repeat' first | with_reducible assumption | (guard_target =~ (_ ||| _ : Nat) = _; decide) | with_reducible apply Upd.ite | with_reducible refine whenKernel_upd ?_ (fun _ _ => ?_) ?_ | with_reducible apply safReset_upd

theorem execFeedbackTimeout_upd (s : State) {t : State} (hX : execFeedbackTimeout s = .next t) : Upd 248524021641229 s t := by
  unfold execFeedbackTimeout at hX
  cases hX
  have h0 := Upd.refl 248524021641229 s
  repeat' first | with_reducible assumption | (guard_target =~ (_ ||| _ : Nat) = _; decide) | (fail_if_no_progress extract_lets +onlyGivenNames x; first | (have hx : Upd 248524021641229 s x := (by unfold x; repeat' first | with_reducible assumption | (guard_target =~ (_ ||| _ : Nat) = _; decide) | with_reducible apply Upd.ite | with_reducible apply inputFault_upd | with_reducible apply State.raise_upd | with_reducible apply Upd.lit | exact rfl | exact SadUpd.refl _ _ | with_reducible apply SadUpd.ite | apply SadUpd.mk | exact fun _ => PeakUpd.refl _ _ | exact Or.inl (by decide) | exact Or.inr rfl); try clear_value x) | (have h9 : (x : Peak) = x := rfl; clear h9) | (have h9 : (x : Saddle) = x := rfl; clear h9) | (have h9 : (x : Pair) = x := rfl; clear h9) | (have h9 : (x : Leg) = x := rfl; clear h9) | clear_value x | skip) | with_reducible apply Upd.ite | with_reducible apply inputFault_upd | with_reducible apply State.raise_upd | with_reducible apply Upd.lit | exact rfl | exact SadUpd.refl _ _ | with_reducible apply SadUpd.ite | apply SadUpd.mk | exact fun _ => PeakUpd.refl _ _ | exact Or.inl (by decide) | exact Or.inr rfl

end Sys2Proof.Machine
end

