-- ==== Sys2Proof/Laws/UpdPeaks.lean ====
section
/-! SUPPORT. What each operation of Machine/Peaks.lean may change. -/

set_option linter.unusedTactic false
set_option linter.unreachableTactic false

namespace Sys2Proof.Machine

theorem peakMemClear_upd {M0 : Nat} {s0 : State} {p : PeakId} {s : State} (hU : Upd M0 s0 s) (hM : 2 ||| M0 = M0) : Upd M0 s0 (peakMemClear p s) := by
  refine Upd.step hU ?_ hM
  clear hU hM
  unfold peakMemClear
  have h0 := Upd.refl 2 s
  repeat' first | with_reducible assumption | (guard_target =~ (_ ||| _ : Nat) = _; decide) | with_reducible apply State.clearBytes_upd

theorem peakForget_upd {M0 : Nat} {s0 : State} {p : PeakId} {s : State} (hU : Upd M0 s0 s) (hM : 4503597567967757 ||| M0 = M0) : Upd M0 s0 (peakForget p s) := by
  refine Upd.step hU ?_ hM
  clear hU hM
  unfold peakForget
  constructor
  case sound =>
    intro h
    rw [State.sound_iff] at h ⊢
    exact ⟨Tab.wf_filter _ _ _ h.1, h.2⟩
  case peak => exact (by intro q; cases p <;> cases q <;> first | exact PeakUpd.refl _ _ | (constructor <;> exact fun h => absurd h (by decide)))
  all_goals first | exact rfl | exact fun h => absurd h (by decide) | exact fun _ => rfl

theorem peakReset_upd {M0 : Nat} {s0 : State} {p : PeakId} {s : State} (hU : Upd M0 s0 s) (hM : 4503597567967759 ||| M0 = M0) : Upd M0 s0 (peakReset p s) := by
  refine Upd.step hU ?_ hM
  clear hU hM
  unfold peakReset
  have h0 := Upd.refl 4503597567967759 s
  repeat' first | with_reducible assumption | (guard_target =~ (_ ||| _ : Nat) = _; decide) | with_reducible apply peakForget_upd | with_reducible apply peakMemClear_upd | with_reducible apply State.setReg_upd

theorem peakRelease_upd {M0 : Nat} {s0 : State} {p : PeakId} {cause : Nat} {s : State} (hU : Upd M0 s0 s) (hM : 4503597567967759 ||| M0 = M0) : Upd M0 s0 (peakRelease p cause s) := by
  refine Upd.step hU ?_ hM
  clear hU hM
  unfold peakRelease
  have h0 := Upd.refl 4503597567967759 s
  repeat' first | with_reducible assumption | (guard_target =~ (_ ||| _ : Nat) = _; decide) | (fail_if_no_progress extract_lets +onlyGivenNames x; first | (have hx : Upd 4503597567967759 s x := (by unfold x; repeat' first | with_reducible assumption | (guard_target =~ (_ ||| _ : Nat) = _; decide) | with_reducible apply peakReset_upd | with_reducible refine Upd.setPeak ?_ ?_ | with_reducible apply State.setReg_upd | with_reducible apply State.setFld_upd | with_reducible apply Upd.lit | exact rfl | exact SadUpd.refl _ _ | with_reducible apply SadUpd.ite | apply SadUpd.mk | exact fun _ => PeakUpd.refl _ _ | exact PeakUpd.refl _ _ | with_reducible apply PeakUpd.ite | with_reducible apply PeakUpd.lit | exact Or.inl (by decide) | exact Or.inr rfl); try clear_value x) | (have h9 : (x : Peak) = x := rfl; clear h9) | (have h9 : (x : Saddle) = x := rfl; clear h9) | (have h9 : (x : Pair) = x := rfl; clear h9) | (have h9 : (x : Leg) = x := rfl; clear h9) | clear_value x | skip) | with_reducible apply peakReset_upd | with_reducible refine Upd.setPeak ?_ ?_ | with_reducible apply State.setReg_upd | with_reducible apply State.setFld_upd | with_reducible apply Upd.lit | exact rfl | exact SadUpd.refl _ _ | with_reducible apply SadUpd.ite | apply SadUpd.mk | exact fun _ => PeakUpd.refl _ _ | exact PeakUpd.refl _ _ | with_reducible apply PeakUpd.ite | with_reducible apply PeakUpd.lit | exact Or.inl (by decide) | exact Or.inr rfl

theorem batonMoved_upd {M0 : Nat} {s0 : State} {s : State} (hU : Upd M0 s0 s) (hM : 1 ||| M0 = M0) : Upd M0 s0 (batonMoved s) := by
  refine Upd.step hU ?_ hM
  clear hU hM
  unfold batonMoved
  have h0 := Upd.refl 1 s
  repeat' first | with_reducible assumption | (guard_target =~ (_ ||| _ : Nat) = _; decide) | (fail_if_no_progress extract_lets +onlyGivenNames x; first | (have hx : Upd 1 s x := (by unfold x; repeat' first | with_reducible assumption | (guard_target =~ (_ ||| _ : Nat) = _; decide) | with_reducible apply State.setFld_upd | with_reducible apply State.setBit_upd); try clear_value x) | (have h9 : (x : Peak) = x := rfl; clear h9) | (have h9 : (x : Saddle) = x := rfl; clear h9) | (have h9 : (x : Pair) = x := rfl; clear h9) | (have h9 : (x : Leg) = x := rfl; clear h9) | clear_value x | skip) | with_reducible apply State.setFld_upd | with_reducible apply State.setBit_upd

theorem lateDrop_upd {M0 : Nat} {s0 : State} {s : State} (hU : Upd M0 s0 s) (hM : 11265 ||| M0 = M0) : Upd M0 s0 (lateDrop s) := by
  refine Upd.step hU ?_ hM
  clear hU hM
  unfold lateDrop
  have h0 := Upd.refl 11265 s
  repeat' first | with_reducible assumption | (guard_target =~ (_ ||| _ : Nat) = _; decide) | (fail_if_no_progress extract_lets +onlyGivenNames x; first | (have hx : Upd 11265 s x := (by unfold x; repeat' first | with_reducible assumption | (guard_target =~ (_ ||| _ : Nat) = _; decide) | with_reducible apply Upd.ite | with_reducible refine Upd.forAll ?_ (fun _ _ _ => ?_) | with_reducible apply State.setChan_upd | with_reducible apply State.setTb_upd | with_reducible refine Upd.setLeg ?_ ?_ ?_ | with_reducible apply State.raise_upd | (guard_target =~ Nat.testBit _ _ = true; decide) | exact fun hs => State.leg_safe (Upd.sound (by with_reducible assumption) hs) _ | (guard_target =~ _ = true → _ = false; intro _; simp [*])); try clear_value x) | (have h9 : (x : Peak) = x := rfl; clear h9) | (have h9 : (x : Saddle) = x := rfl; clear h9) | (have h9 : (x : Pair) = x := rfl; clear h9) | (have h9 : (x : Leg) = x := rfl; clear h9) | clear_value x | skip) | with_reducible apply Upd.ite | with_reducible refine Upd.forAll ?_ (fun _ _ _ => ?_) | with_reducible apply State.setChan_upd | with_reducible apply State.setTb_upd | with_reducible refine Upd.setLeg ?_ ?_ ?_ | with_reducible apply State.raise_upd | (guard_target =~ Nat.testBit _ _ = true; decide) | exact fun hs => State.leg_safe (Upd.sound (by with_reducible assumption) hs) _ | (guard_target =~ _ = true → _ = false; intro _; simp [*])

theorem batonTo_upd {M0 : Nat} {s0 : State} {p : PeakId} {s : State} (hU : Upd M0 s0 s) (hM : 2108417 ||| M0 = M0) : Upd M0 s0 (batonTo p s) := by
  refine Upd.step hU ?_ hM
  clear hU hM
  unfold batonTo
  have h0 := Upd.refl 2108417 s
  repeat' first | with_reducible assumption | (guard_target =~ (_ ||| _ : Nat) = _; decide) | (fail_if_no_progress extract_lets +onlyGivenNames x; first | (have hx : Upd 2108417 s x := (by unfold x; repeat' first | with_reducible assumption | (guard_target =~ (_ ||| _ : Nat) = _; decide) | with_reducible apply Upd.ite | with_reducible apply lateDrop_upd | with_reducible apply State.setFld_upd | with_reducible apply Upd.lit | exact rfl | exact SadUpd.refl _ _ | with_reducible apply SadUpd.ite | apply SadUpd.mk | exact fun _ => PeakUpd.refl _ _ | exact Or.inl (by decide) | exact Or.inr rfl); try clear_value x) | (have h9 : (x : Peak) = x := rfl; clear h9) | (have h9 : (x : Saddle) = x := rfl; clear h9) | (have h9 : (x : Pair) = x := rfl; clear h9) | (have h9 : (x : Leg) = x := rfl; clear h9) | clear_value x | skip) | with_reducible apply Upd.ite | with_reducible apply lateDrop_upd | with_reducible apply State.setFld_upd | with_reducible apply Upd.lit | exact rfl | exact SadUpd.refl _ _ | with_reducible apply SadUpd.ite | apply SadUpd.mk | exact fun _ => PeakUpd.refl _ _ | exact Or.inl (by decide) | exact Or.inr rfl

theorem batonLand_upd {M0 : Nat} {s0 : State} {s : State} (hU : Upd M0 s0 s) (hM : 2108417 ||| M0 = M0) : Upd M0 s0 (batonLand s) := by
  refine Upd.step hU ?_ hM
  clear hU hM
  unfold batonLand
  have h0 := Upd.refl 2108417 s
  repeat' first | with_reducible assumption | (guard_target =~ (_ ||| _ : Nat) = _; decide) | (fail_if_no_progress extract_lets +onlyGivenNames x; first | (have hx : Upd 2108417 s x := (by unfold x; repeat' first | with_reducible assumption | (guard_target =~ (_ ||| _ : Nat) = _; decide) | with_reducible apply batonMoved_upd | with_reducible apply lateDrop_upd | with_reducible apply State.setFld_upd | split | with_reducible apply Upd.lit | exact rfl | exact SadUpd.refl _ _ | with_reducible apply SadUpd.ite | apply SadUpd.mk | exact fun _ => PeakUpd.refl _ _ | exact Or.inl (by decide) | exact Or.inr rfl); try clear_value x) | (have h9 : (x : Peak) = x := rfl; clear h9) | (have h9 : (x : Saddle) = x := rfl; clear h9) | (have h9 : (x : Pair) = x := rfl; clear h9) | (have h9 : (x : Leg) = x := rfl; clear h9) | clear_value x | skip) | with_reducible apply batonMoved_upd | with_reducible apply lateDrop_upd | with_reducible apply State.setFld_upd | split | with_reducible apply Upd.lit | exact rfl | exact SadUpd.refl _ _ | with_reducible apply SadUpd.ite | apply SadUpd.mk | exact fun _ => PeakUpd.refl _ _ | exact Or.inl (by decide) | exact Or.inr rfl

theorem batonTake_upd {M0 : Nat} {s0 : State} {s : State} (hU : Upd M0 s0 s) (hM : 2108417 ||| M0 = M0) : Upd M0 s0 (batonTake s) := by
  refine Upd.step hU ?_ hM
  clear hU hM
  unfold batonTake
  have h0 := Upd.refl 2108417 s
  repeat' first | with_reducible assumption | (guard_target =~ (_ ||| _ : Nat) = _; decide) | (fail_if_no_progress extract_lets +onlyGivenNames x; first | (have hx : Upd 2108417 s x := (by unfold x; repeat' first | with_reducible assumption | (guard_target =~ (_ ||| _ : Nat) = _; decide) | with_reducible apply Upd.ite | with_reducible apply batonMoved_upd | with_reducible apply lateDrop_upd | with_reducible apply State.setFld_upd | with_reducible apply Upd.lit | exact rfl | exact SadUpd.refl _ _ | with_reducible apply SadUpd.ite | apply SadUpd.mk | exact fun _ => PeakUpd.refl _ _ | exact Or.inl (by decide) | exact Or.inr rfl); try clear_value x) | (have h9 : (x : Peak) = x := rfl; clear h9) | (have h9 : (x : Saddle) = x := rfl; clear h9) | (have h9 : (x : Pair) = x := rfl; clear h9) | (have h9 : (x : Leg) = x := rfl; clear h9) | clear_value x | skip) | with_reducible apply Upd.ite | with_reducible apply batonMoved_upd | with_reducible apply lateDrop_upd | with_reducible apply State.setFld_upd | with_reducible apply Upd.lit | exact rfl | exact SadUpd.refl _ _ | with_reducible apply SadUpd.ite | apply SadUpd.mk | exact fun _ => PeakUpd.refl _ _ | exact Or.inl (by decide) | exact Or.inr rfl

theorem execBatonFlightEnd_upd (s : State) {t : State} (hX : execBatonFlightEnd s = .next t) : Upd 2108417 s t := by
  unfold execBatonFlightEnd at hX
  cases hX
  have h0 := Upd.refl 2108417 s
  repeat' first | with_reducible assumption | (guard_target =~ (_ ||| _ : Nat) = _; decide) | with_reducible apply batonLand_upd

theorem copyEngine_upd {M0 : Nat} {s0 : State} {p : PeakId} {e : Nat} {s : State} (hU : Upd M0 s0 s) (hM : 248936304476173 ||| M0 = M0) : Upd M0 s0 (copyEngine p e s) := by
  refine Upd.step hU ?_ hM
  clear hU hM
  unfold copyEngine
  have h0 := Upd.refl 248936304476173 s
  repeat' first | with_reducible assumption | (guard_target =~ (_ ||| _ : Nat) = _; decide) | (fail_if_no_progress extract_lets +onlyGivenNames x; first | (have hx : Upd 248936304476173 s x := (by unfold x; repeat' first | with_reducible assumption | (guard_target =~ (_ ||| _ : Nat) = _; decide) | with_reducible apply Upd.ite | with_reducible apply State.setEng_upd | with_reducible apply State.setReg_upd | with_reducible apply setBitOf_upd | with_reducible refine Upd.forAll ?_ (fun _ _ _ => ?_) | with_reducible apply rsPublish_upd); try clear_value x) | (have hx : Upd 248936304476173 s x.2 := (by unfold x; repeat' first | with_reducible assumption | (guard_target =~ (_ ||| _ : Nat) = _; decide) | with_reducible apply Upd.ite | with_reducible apply State.setEng_upd | with_reducible apply State.setReg_upd | with_reducible apply setBitOf_upd | with_reducible refine Upd.forAll ?_ (fun _ _ _ => ?_) | with_reducible apply rsPublish_upd); try clear_value x) | (have h9 : (x : Peak) = x := rfl; clear h9) | (have h9 : (x : Saddle) = x := rfl; clear h9) | (have h9 : (x : Pair) = x := rfl; clear h9) | (have h9 : (x : Leg) = x := rfl; clear h9) | clear_value x | skip) | with_reducible apply Upd.ite | with_reducible apply State.setEng_upd | with_reducible apply State.setReg_upd | with_reducible apply setBitOf_upd | with_reducible refine Upd.forAll ?_ (fun _ _ _ => ?_) | with_reducible apply rsPublish_upd

theorem copyLoop_upd {M0 : Nat} {s0 : State} {p : PeakId} {m : Nat} {s : State} (hU : Upd M0 s0 s) (hM : 549755813889 ||| M0 = M0) : Upd M0 s0 (copyLoop p m s) := by
  refine Upd.step hU ?_ hM
  clear hU hM
  unfold copyLoop
  have h0 := Upd.refl 549755813889 s
  repeat' first | with_reducible assumption | (guard_target =~ (_ ||| _ : Nat) = _; decide) | (fail_if_no_progress extract_lets +onlyGivenNames x; first | (have hx : Upd 549755813889 s x := (by unfold x; repeat' first | with_reducible assumption | (guard_target =~ (_ ||| _ : Nat) = _; decide) | with_reducible apply State.setLoop_upd | with_reducible apply State.setReg_upd | with_reducible refine Upd.forAll ?_ (fun _ _ _ => ?_) | with_reducible apply setLoHi_upd); try clear_value x) | (have h9 : (x : Peak) = x := rfl; clear h9) | (have h9 : (x : Saddle) = x := rfl; clear h9) | (have h9 : (x : Pair) = x := rfl; clear h9) | (have h9 : (x : Leg) = x := rfl; clear h9) | clear_value x | skip) | with_reducible apply State.setLoop_upd | with_reducible apply State.setReg_upd | with_reducible refine Upd.forAll ?_ (fun _ _ _ => ?_) | with_reducible apply setLoHi_upd

theorem copyEngines_upd {M0 : Nat} {s0 : State} {p : PeakId} {s : State} (hU : Upd M0 s0 s) (hM : 248936304476173 ||| M0 = M0) : Upd M0 s0 (copyEngines p s) := by
  refine Upd.step hU ?_ hM
  clear hU hM
  unfold copyEngines
  have h0 := Upd.refl 248936304476173 s
  repeat' first | with_reducible assumption | (guard_target =~ (_ ||| _ : Nat) = _; decide) | with_reducible refine Upd.forAll ?_ (fun _ _ _ => ?_) | with_reducible apply copyEngine_upd

theorem copyLoops_upd {M0 : Nat} {s0 : State} {p : PeakId} {s : State} (hU : Upd M0 s0 s) (hM : 549755813889 ||| M0 = M0) : Upd M0 s0 (copyLoops p s) := by
  refine Upd.step hU ?_ hM
  clear hU hM
  unfold copyLoops
  have h0 := Upd.refl 549755813889 s
  repeat' first | with_reducible assumption | (guard_target =~ (_ ||| _ : Nat) = _; decide) | with_reducible refine Upd.forAll ?_ (fun _ _ _ => ?_) | with_reducible apply copyLoop_upd

theorem mirrorSteps_upd {M0 : Nat} {s0 : State} {tb : Nat} {s : State} (hU : Upd M0 s0 s) (hM : 249486060290061 ||| M0 = M0) : Upd M0 s0 (mirrorSteps tb s) := by
  refine Upd.step hU ?_ hM
  clear hU hM
  unfold mirrorSteps
  have h0 := Upd.refl 249486060290061 s
  repeat' first | with_reducible assumption | (guard_target =~ (_ ||| _ : Nat) = _; decide) | (fail_if_no_progress extract_lets +onlyGivenNames x; first | (have hx : Upd 249486060290061 s x := (by unfold x; repeat' first | with_reducible assumption | (guard_target =~ (_ ||| _ : Nat) = _; decide) | with_reducible apply Upd.ite | with_reducible refine Upd.bothPeaks ?_ (fun _ _ _ => ?_) | with_reducible refine Upd.forAll ?_ (fun _ _ _ => ?_) | with_reducible apply copyEngine_upd | with_reducible apply copyLoop_upd); try clear_value x) | (have h9 : (x : Peak) = x := rfl; clear h9) | (have h9 : (x : Saddle) = x := rfl; clear h9) | (have h9 : (x : Pair) = x := rfl; clear h9) | (have h9 : (x : Leg) = x := rfl; clear h9) | clear_value x | skip) | with_reducible apply Upd.ite | with_reducible refine Upd.bothPeaks ?_ (fun _ _ _ => ?_) | with_reducible refine Upd.forAll ?_ (fun _ _ _ => ?_) | with_reducible apply copyEngine_upd | with_reducible apply copyLoop_upd

theorem copyTgs_upd {M0 : Nat} {s0 : State} {p : PeakId} {s : State} (hU : Upd M0 s0 s) (hM : 1099511627777 ||| M0 = M0) : Upd M0 s0 (copyTgs p s) := by
  refine Upd.step hU ?_ hM
  clear hU hM
  unfold copyTgs
  have h0 := Upd.refl 1099511627777 s
  repeat' first | with_reducible assumption | (guard_target =~ (_ ||| _ : Nat) = _; decide) | (fail_if_no_progress extract_lets +onlyGivenNames x; first | (have hx : Upd 1099511627777 s x := (by unfold x; repeat' first | with_reducible assumption | (guard_target =~ (_ ||| _ : Nat) = _; decide) | with_reducible refine Upd.forAll ?_ (fun _ _ _ => ?_) | with_reducible apply State.setTg_upd | with_reducible apply State.setReg_upd); try clear_value x) | (have h9 : (x : Peak) = x := rfl; clear h9) | (have h9 : (x : Saddle) = x := rfl; clear h9) | (have h9 : (x : Pair) = x := rfl; clear h9) | (have h9 : (x : Leg) = x := rfl; clear h9) | clear_value x | skip) | with_reducible refine Upd.forAll ?_ (fun _ _ _ => ?_) | with_reducible apply State.setTg_upd | with_reducible apply State.setReg_upd

theorem copyTasks_upd {M0 : Nat} {s0 : State} {p : PeakId} {s : State} (hU : Upd M0 s0 s) (hM : 9 ||| M0 = M0) : Upd M0 s0 (copyTasks p s) := by
  refine Upd.step hU ?_ hM
  clear hU hM
  unfold copyTasks
  have h0 := Upd.refl 9 s
  repeat' first | with_reducible assumption | (guard_target =~ (_ ||| _ : Nat) = _; decide) | (fail_if_no_progress extract_lets +onlyGivenNames x; first | (have hx : Upd 9 s x := (by unfold x; repeat' first | with_reducible assumption | (guard_target =~ (_ ||| _ : Nat) = _; decide) | with_reducible apply Upd.ite | with_reducible apply trvRefresh_upd | with_reducible refine Upd.forAll ?_ (fun _ _ _ => ?_) | with_reducible apply State.setTask_upd | with_reducible apply State.setReg_upd | with_reducible apply State.setBit_upd); try clear_value x) | (have h9 : (x : Peak) = x := rfl; clear h9) | (have h9 : (x : Saddle) = x := rfl; clear h9) | (have h9 : (x : Pair) = x := rfl; clear h9) | (have h9 : (x : Leg) = x := rfl; clear h9) | clear_value x | skip) | with_reducible apply Upd.ite | with_reducible apply trvRefresh_upd | with_reducible refine Upd.forAll ?_ (fun _ _ _ => ?_) | with_reducible apply State.setTask_upd | with_reducible apply State.setReg_upd | with_reducible apply State.setBit_upd

theorem copyRegions_upd {M0 : Nat} {s0 : State} {p : PeakId} {s : State} (hU : Upd M0 s0 s) (hM : 2 ||| M0 = M0) : Upd M0 s0 (copyRegions p s) := by
  refine Upd.step hU ?_ hM
  clear hU hM
  unfold copyRegions
  have h0 := Upd.refl 2 s
  repeat' first | with_reducible assumption | (guard_target =~ (_ ||| _ : Nat) = _; decide) | with_reducible refine Upd.forAll ?_ (fun _ _ _ => ?_) | with_reducible apply State.setByteList_upd

theorem copyAll_upd {M0 : Nat} {s0 : State} {p : PeakId} {s : State} (hU : Upd M0 s0 s) (hM : 250585571917839 ||| M0 = M0) : Upd M0 s0 (copyAll p s) := by
  refine Upd.step hU ?_ hM
  clear hU hM
  unfold copyAll
  have h0 := Upd.refl 250585571917839 s
  repeat' first | with_reducible assumption | (guard_target =~ (_ ||| _ : Nat) = _; decide) | with_reducible apply copyRegions_upd | with_reducible apply copyTasks_upd | with_reducible apply copyTgs_upd | with_reducible apply copyLoops_upd | with_reducible apply copyEngines_upd

theorem joinWrap_upd {M0 : Nat} {s0 : State} {tb : Nat} {s : State} (hU : Upd M0 s0 s) (hM : 16777216 ||| M0 = M0) : Upd M0 s0 (joinWrap tb s) := by
  refine Upd.step hU ?_ hM
  clear hU hM
  unfold joinWrap
  have h0 := Upd.refl 16777216 s
  repeat' first | with_reducible assumption | (guard_target =~ (_ ||| _ : Nat) = _; decide) | (fail_if_no_progress extract_lets +onlyGivenNames x; first | (have hx : Upd 16777216 s x := (by unfold x; repeat' first | with_reducible assumption | (guard_target =~ (_ ||| _ : Nat) = _; decide) | with_reducible apply Upd.ite | split | with_reducible apply Upd.lit | exact rfl | exact SadUpd.refl _ _ | with_reducible apply SadUpd.ite | apply SadUpd.mk | exact fun _ => PeakUpd.refl _ _ | exact Or.inl (by decide) | exact Or.inr rfl); try clear_value x) | (have h9 : (x : Peak) = x := rfl; clear h9) | (have h9 : (x : Saddle) = x := rfl; clear h9) | (have h9 : (x : Pair) = x := rfl; clear h9) | (have h9 : (x : Leg) = x := rfl; clear h9) | clear_value x | skip) | with_reducible apply Upd.ite | split | with_reducible apply Upd.lit | exact rfl | exact SadUpd.refl _ _ | with_reducible apply SadUpd.ite | apply SadUpd.mk | exact fun _ => PeakUpd.refl _ _ | exact Or.inl (by decide) | exact Or.inr rfl

theorem joinStart_upd {M0 : Nat} {s0 : State} {p : PeakId} {s : State} (hU : Upd M0 s0 s) (hM : 154618822665 ||| M0 = M0) : Upd M0 s0 (joinStart p s) := by
  refine Upd.step hU ?_ hM
  clear hU hM
  unfold joinStart
  have h0 := Upd.refl 154618822665 s
  repeat' first | with_reducible assumption | (guard_target =~ (_ ||| _ : Nat) = _; decide) | (fail_if_no_progress extract_lets +onlyGivenNames x; first | (have hx : Upd 154618822665 s x := (by unfold x; repeat' first | with_reducible assumption | (guard_target =~ (_ ||| _ : Nat) = _; decide) | with_reducible apply Upd.ite | with_reducible refine Upd.forAll ?_ (fun _ _ _ => ?_) | with_reducible apply State.setChain_upd | with_reducible apply State.setSlot_upd | with_reducible apply State.setFld_upd | with_reducible apply State.setRsg_upd | with_reducible apply rsRange_upd | with_reducible refine Upd.setPeak ?_ ?_ | with_reducible apply State.setTask_upd | exact PeakUpd.refl _ _ | with_reducible apply PeakUpd.ite | with_reducible apply PeakUpd.lit | exact Or.inl (by decide) | exact Or.inr rfl); try clear_value x) | (have h9 : (x : Peak) = x := rfl; clear h9) | (have h9 : (x : Saddle) = x := rfl; clear h9) | (have h9 : (x : Pair) = x := rfl; clear h9) | (have h9 : (x : Leg) = x := rfl; clear h9) | clear_value x | skip) | with_reducible apply Upd.ite | with_reducible refine Upd.forAll ?_ (fun _ _ _ => ?_) | with_reducible apply State.setChain_upd | with_reducible apply State.setSlot_upd | with_reducible apply State.setFld_upd | with_reducible apply State.setRsg_upd | with_reducible apply rsRange_upd | with_reducible refine Upd.setPeak ?_ ?_ | with_reducible apply State.setTask_upd | exact PeakUpd.refl _ _ | with_reducible apply PeakUpd.ite | with_reducible apply PeakUpd.lit | exact Or.inl (by decide) | exact Or.inr rfl

end Sys2Proof.Machine
end

