-- ==== Sys2Proof/Laws/UpdGendarme.lean ====
section
/-! SUPPORT. What each operation of Machine/Gendarme.lean may change. -/

set_option linter.unusedTactic false
set_option linter.unreachableTactic false

namespace Sys2Proof.Machine

theorem setRole_upd {M0 : Nat} {s0 : State} {p : PeakId} {r : Nat} {s : State} (hU : Upd M0 s0 s) (hM : 1 ||| M0 = M0) : Upd M0 s0 (setRole p r s) := by
  refine Upd.step hU ?_ hM
  clear hU hM
  unfold setRole
  have h0 := Upd.refl 1 s
  repeat' first | with_reducible assumption | (guard_target =~ (_ ||| _ : Nat) = _; decide) | with_reducible apply State.setFld_upd

theorem gdmLast_upd {M0 : Nat} {s0 : State} {cause : Nat} {p : PeakId} {action : Nat} {s : State} (hU : Upd M0 s0 s) (hM : 1 ||| M0 = M0) : Upd M0 s0 (gdmLast cause p action s) := by
  refine Upd.step hU ?_ hM
  clear hU hM
  unfold gdmLast
  have h0 := Upd.refl 1 s
  repeat' first | with_reducible assumption | (guard_target =~ (_ ||| _ : Nat) = _; decide) | with_reducible apply State.setReg_upd

theorem announce_upd {M0 : Nat} {s0 : State} {s : State} (hU : Upd M0 s0 s) (hM : 248523987615757 ||| M0 = M0) : Upd M0 s0 (announce s) := by
  refine Upd.step hU ?_ hM
  clear hU hM
  unfold announce
  have h0 := Upd.refl 248523987615757 s
  repeat' first | with_reducible assumption | (guard_target =~ (_ ||| _ : Nat) = _; decide) | (fail_if_no_progress extract_lets +onlyGivenNames x; first | (have hx : Upd 248523987615757 s x := (by unfold x; repeat' first | with_reducible assumption | (guard_target =~ (_ ||| _ : Nat) = _; decide) | with_reducible apply Upd.ite | with_reducible refine Upd.bothPeaks ?_ (fun _ _ _ => ?_) | with_reducible apply State.setFld_upd | with_reducible apply tracePut_upd | with_reducible apply gwPend_upd | with_reducible apply fireBoth_upd); try clear_value x) | (have h9 : (x : Peak) = x := rfl; clear h9) | (have h9 : (x : Saddle) = x := rfl; clear h9) | (have h9 : (x : Pair) = x := rfl; clear h9) | (have h9 : (x : Leg) = x := rfl; clear h9) | clear_value x | skip) | with_reducible apply Upd.ite | with_reducible refine Upd.bothPeaks ?_ (fun _ _ _ => ?_) | with_reducible apply State.setFld_upd | with_reducible apply tracePut_upd | with_reducible apply gwPend_upd | with_reducible apply fireBoth_upd

theorem gdmResult_upd {M0 : Nat} {s0 : State} {code : Nat} {s : State} (hU : Upd M0 s0 s) (hM : 1 ||| M0 = M0) : Upd M0 s0 (gdmResult code s) := by
  refine Upd.step hU ?_ hM
  clear hU hM
  unfold gdmResult
  have h0 := Upd.refl 1 s
  repeat' first | with_reducible assumption | (guard_target =~ (_ ||| _ : Nat) = _; decide) | (fail_if_no_progress extract_lets +onlyGivenNames x; first | (have hx : Upd 1 s x := (by unfold x; repeat' first | with_reducible assumption | (guard_target =~ (_ ||| _ : Nat) = _; decide) | with_reducible apply Upd.ite | with_reducible apply State.setFld_upd | with_reducible apply State.raise_upd); try clear_value x) | (have h9 : (x : Peak) = x := rfl; clear h9) | (have h9 : (x : Saddle) = x := rfl; clear h9) | (have h9 : (x : Pair) = x := rfl; clear h9) | (have h9 : (x : Leg) = x := rfl; clear h9) | clear_value x | skip) | with_reducible apply Upd.ite | with_reducible apply State.setFld_upd | with_reducible apply State.raise_upd

theorem cmdOver_upd {M0 : Nat} {s0 : State} {code : Nat} {s : State} (hU : Upd M0 s0 s) (hM : 16777217 ||| M0 = M0) : Upd M0 s0 (cmdOver code s) := by
  refine Upd.step hU ?_ hM
  clear hU hM
  unfold cmdOver
  have h0 := Upd.refl 16777217 s
  repeat' first | with_reducible assumption | (guard_target =~ (_ ||| _ : Nat) = _; decide) | (fail_if_no_progress extract_lets +onlyGivenNames x; first | (have hx : Upd 16777217 s x := (by unfold x; repeat' first | with_reducible assumption | (guard_target =~ (_ ||| _ : Nat) = _; decide) | with_reducible apply gdmResult_upd | with_reducible apply State.setFld_upd | split | with_reducible apply Upd.lit | exact rfl | exact SadUpd.refl _ _ | with_reducible apply SadUpd.ite | apply SadUpd.mk | exact fun _ => PeakUpd.refl _ _ | exact Or.inl (by decide) | exact Or.inr rfl); try clear_value x) | (have h9 : (x : Peak) = x := rfl; clear h9) | (have h9 : (x : Saddle) = x := rfl; clear h9) | (have h9 : (x : Pair) = x := rfl; clear h9) | (have h9 : (x : Leg) = x := rfl; clear h9) | clear_value x | skip) | with_reducible apply gdmResult_upd | with_reducible apply State.setFld_upd | split | with_reducible apply Upd.lit | exact rfl | exact SadUpd.refl _ _ | with_reducible apply SadUpd.ite | apply SadUpd.mk | exact fun _ => PeakUpd.refl _ _ | exact Or.inl (by decide) | exact Or.inr rfl

theorem holdRestart_upd {M0 : Nat} {s0 : State} {s : State} (hU : Upd M0 s0 s) (hM : 16777217 ||| M0 = M0) : Upd M0 s0 (holdRestart s) := by
  refine Upd.step hU ?_ hM
  clear hU hM
  unfold holdRestart
  have h0 := Upd.refl 16777217 s
  repeat' first | with_reducible assumption | (guard_target =~ (_ ||| _ : Nat) = _; decide) | (fail_if_no_progress extract_lets +onlyGivenNames x; first | (have hx : Upd 16777217 s x := (by unfold x; repeat' first | with_reducible assumption | (guard_target =~ (_ ||| _ : Nat) = _; decide) | with_reducible apply Upd.ite | with_reducible apply State.setBit_upd | with_reducible apply Upd.lit | exact rfl | exact SadUpd.refl _ _ | with_reducible apply SadUpd.ite | apply SadUpd.mk | exact fun _ => PeakUpd.refl _ _ | exact Or.inl (by decide) | exact Or.inr rfl); try clear_value x) | (have h9 : (x : Peak) = x := rfl; clear h9) | (have h9 : (x : Saddle) = x := rfl; clear h9) | (have h9 : (x : Pair) = x := rfl; clear h9) | (have h9 : (x : Leg) = x := rfl; clear h9) | clear_value x | skip) | with_reducible apply Upd.ite | with_reducible apply State.setBit_upd | with_reducible apply Upd.lit | exact rfl | exact SadUpd.refl _ _ | with_reducible apply SadUpd.ite | apply SadUpd.mk | exact fun _ => PeakUpd.refl _ _ | exact Or.inl (by decide) | exact Or.inr rfl

theorem holdKeep_upd {M0 : Nat} {s0 : State} {s : State} (hU : Upd M0 s0 s) (hM : 16777217 ||| M0 = M0) : Upd M0 s0 (holdKeep s) := by
  refine Upd.step hU ?_ hM
  clear hU hM
  unfold holdKeep
  have h0 := Upd.refl 16777217 s
  repeat' first | with_reducible assumption | (guard_target =~ (_ ||| _ : Nat) = _; decide) | with_reducible apply Upd.ite | with_reducible apply holdRestart_upd

theorem copyFields_upd {M0 : Nat} {s0 : State} {c : Copy} {state : Nat} {result : Nat} {s : State} (hU : Upd M0 s0 s) (hM : 1 ||| M0 = M0) : Upd M0 s0 (copyFields c state result s) := by
  refine Upd.step hU ?_ hM
  clear hU hM
  unfold copyFields
  have h0 := Upd.refl 1 s
  repeat' first | with_reducible assumption | (guard_target =~ (_ ||| _ : Nat) = _; decide) | with_reducible apply Upd.ite | with_reducible refine Upd.bothPeaks ?_ (fun _ _ _ => ?_) | with_reducible apply State.setReg_upd

theorem copyDrop_upd {M0 : Nat} {s0 : State} {c : Copy} {result : Nat} {s : State} (hU : Upd M0 s0 s) (hM : 16777217 ||| M0 = M0) : Upd M0 s0 (copyDrop c result s) := by
  refine Upd.step hU ?_ hM
  clear hU hM
  unfold copyDrop
  have h0 := Upd.refl 16777217 s
  repeat' first | with_reducible assumption | (guard_target =~ (_ ||| _ : Nat) = _; decide) | (fail_if_no_progress extract_lets +onlyGivenNames x; first | (have hx : Upd 16777217 s x := (by unfold x; repeat' first | with_reducible assumption | (guard_target =~ (_ ||| _ : Nat) = _; decide) | with_reducible apply copyFields_upd | with_reducible apply cmdOver_upd | with_reducible apply State.setFld_upd | with_reducible apply Upd.lit | exact rfl | exact SadUpd.refl _ _ | with_reducible apply SadUpd.ite | apply SadUpd.mk | exact fun _ => PeakUpd.refl _ _ | exact Or.inl (by decide) | exact Or.inr rfl); try clear_value x) | (have h9 : (x : Peak) = x := rfl; clear h9) | (have h9 : (x : Saddle) = x := rfl; clear h9) | (have h9 : (x : Pair) = x := rfl; clear h9) | (have h9 : (x : Leg) = x := rfl; clear h9) | clear_value x | skip) | with_reducible apply copyFields_upd | with_reducible apply cmdOver_upd | with_reducible apply State.setFld_upd | with_reducible apply Upd.lit | exact rfl | exact SadUpd.refl _ _ | with_reducible apply SadUpd.ite | apply SadUpd.mk | exact fun _ => PeakUpd.refl _ _ | exact Or.inl (by decide) | exact Or.inr rfl

theorem copyAbort_upd {M0 : Nat} {s0 : State} {s : State} (hU : Upd M0 s0 s) (hM : 16777217 ||| M0 = M0) : Upd M0 s0 (copyAbort s) := by
  refine Upd.step hU ?_ hM
  clear hU hM
  unfold copyAbort
  have h0 := Upd.refl 16777217 s
  repeat' first | with_reducible assumption | (guard_target =~ (_ ||| _ : Nat) = _; decide) | with_reducible apply copyDrop_upd | split

theorem copyBegin_upd {M0 : Nat} {s0 : State} {s : State} (hU : Upd M0 s0 s) (hM : 16777217 ||| M0 = M0) : Upd M0 s0 (copyBegin s) := by
  refine Upd.step hU ?_ hM
  clear hU hM
  unfold copyBegin
  have h0 := Upd.refl 16777217 s
  repeat' first | with_reducible assumption | (guard_target =~ (_ ||| _ : Nat) = _; decide) | (fail_if_no_progress extract_lets +onlyGivenNames x; first | (have hx : Upd 16777217 s x := (by unfold x; repeat' first | with_reducible assumption | (guard_target =~ (_ ||| _ : Nat) = _; decide) | with_reducible apply Upd.ite | with_reducible apply copyFields_upd | with_reducible apply State.setFld_upd | split | with_reducible apply Upd.lit | exact rfl | exact SadUpd.refl _ _ | with_reducible apply SadUpd.ite | apply SadUpd.mk | exact fun _ => PeakUpd.refl _ _ | exact Or.inl (by decide) | exact Or.inr rfl); try clear_value x) | (have h9 : (x : Peak) = x := rfl; clear h9) | (have h9 : (x : Saddle) = x := rfl; clear h9) | (have h9 : (x : Pair) = x := rfl; clear h9) | (have h9 : (x : Leg) = x := rfl; clear h9) | clear_value x | skip) | with_reducible apply Upd.ite | with_reducible apply copyFields_upd | with_reducible apply State.setFld_upd | split | with_reducible apply Upd.lit | exact rfl | exact SadUpd.refl _ _ | with_reducible apply SadUpd.ite | apply SadUpd.mk | exact fun _ => PeakUpd.refl _ _ | exact Or.inl (by decide) | exact Or.inr rfl

theorem copyEnd_upd {M0 : Nat} {s0 : State} {s : State} (hU : Upd M0 s0 s) (hM : 250602770672655 ||| M0 = M0) : Upd M0 s0 (copyEnd s) := by
  refine Upd.step hU ?_ hM
  clear hU hM
  unfold copyEnd
  have h0 := Upd.refl 250602770672655 s
  repeat' first | with_reducible assumption | (guard_target =~ (_ ||| _ : Nat) = _; decide) | (fail_if_no_progress extract_lets +onlyGivenNames x; first | (have hx : Upd 250602770672655 s x := (by unfold x; repeat' first | with_reducible assumption | (guard_target =~ (_ ||| _ : Nat) = _; decide) | with_reducible apply Upd.ite | with_reducible apply copyAll_upd | with_reducible apply copyFields_upd | with_reducible refine Upd.setPeak ?_ ?_ | with_reducible apply gdmLast_upd | with_reducible apply setRole_upd | with_reducible apply batonTo_upd | with_reducible apply holdKeep_upd | with_reducible apply cmdOver_upd | with_reducible apply State.setFld_upd | split | with_reducible apply Upd.lit | exact rfl | exact SadUpd.refl _ _ | with_reducible apply SadUpd.ite | apply SadUpd.mk | exact fun _ => PeakUpd.refl _ _ | exact PeakUpd.refl _ _ | with_reducible apply PeakUpd.ite | with_reducible apply PeakUpd.lit | exact Or.inl (by decide) | exact Or.inr rfl); try clear_value x) | (have h9 : (x : Peak) = x := rfl; clear h9) | (have h9 : (x : Saddle) = x := rfl; clear h9) | (have h9 : (x : Pair) = x := rfl; clear h9) | (have h9 : (x : Leg) = x := rfl; clear h9) | clear_value x | skip) | with_reducible apply Upd.ite | with_reducible apply copyAll_upd | with_reducible apply copyFields_upd | with_reducible refine Upd.setPeak ?_ ?_ | with_reducible apply gdmLast_upd | with_reducible apply setRole_upd | with_reducible apply batonTo_upd | with_reducible apply holdKeep_upd | with_reducible apply cmdOver_upd | with_reducible apply State.setFld_upd | split | with_reducible apply Upd.lit | exact rfl | exact SadUpd.refl _ _ | with_reducible apply SadUpd.ite | apply SadUpd.mk | exact fun _ => PeakUpd.refl _ _ | exact PeakUpd.refl _ _ | with_reducible apply PeakUpd.ite | with_reducible apply PeakUpd.lit | exact Or.inl (by decide) | exact Or.inr rfl

theorem lockOut_upd {M0 : Nat} {s0 : State} {p : PeakId} {s : State} (hU : Upd M0 s0 s) (hM : 1 ||| M0 = M0) : Upd M0 s0 (lockOut p s) := by
  refine Upd.step hU ?_ hM
  clear hU hM
  unfold lockOut
  have h0 := Upd.refl 1 s
  repeat' first | with_reducible assumption | (guard_target =~ (_ ||| _ : Nat) = _; decide) | with_reducible apply State.setFld_upd | with_reducible apply State.raise_upd

theorem lockClear_upd {M0 : Nat} {s0 : State} {p : PeakId} {s : State} (hU : Upd M0 s0 s) (hM : 1 ||| M0 = M0) : Upd M0 s0 (lockClear p s) := by
  refine Upd.step hU ?_ hM
  clear hU hM
  unfold lockClear
  have h0 := Upd.refl 1 s
  repeat' first | with_reducible assumption | (guard_target =~ (_ ||| _ : Nat) = _; decide) | with_reducible apply State.setReg_upd | with_reducible apply State.setFld_upd

theorem failRun_upd {M0 : Nat} {s0 : State} {p : PeakId} {s : State} (hU : Upd M0 s0 s) (hM : 16777217 ||| M0 = M0) : Upd M0 s0 (failRun p s) := by
  refine Upd.step hU ?_ hM
  clear hU hM
  unfold failRun
  have h0 := Upd.refl 16777217 s
  repeat' first | with_reducible assumption | (guard_target =~ (_ ||| _ : Nat) = _; decide) | (fail_if_no_progress extract_lets +onlyGivenNames x; first | (have hx : Upd 16777217 s x := (by unfold x; repeat' first | with_reducible assumption | (guard_target =~ (_ ||| _ : Nat) = _; decide) | with_reducible apply Upd.ite | with_reducible apply State.setFld_upd | with_reducible apply lockOut_upd | split | with_reducible apply Upd.lit | exact rfl | exact SadUpd.refl _ _ | with_reducible apply SadUpd.ite | apply SadUpd.mk | exact fun _ => PeakUpd.refl _ _ | exact Or.inl (by decide) | exact Or.inr rfl); try clear_value x) | (have h9 : (x : Peak) = x := rfl; clear h9) | (have h9 : (x : Saddle) = x := rfl; clear h9) | (have h9 : (x : Pair) = x := rfl; clear h9) | (have h9 : (x : Leg) = x := rfl; clear h9) | clear_value x | skip) | with_reducible apply Upd.ite | with_reducible apply State.setFld_upd | with_reducible apply lockOut_upd | split | with_reducible apply Upd.lit | exact rfl | exact SadUpd.refl _ _ | with_reducible apply SadUpd.ite | apply SadUpd.mk | exact fun _ => PeakUpd.refl _ _ | exact Or.inl (by decide) | exact Or.inr rfl

theorem failPeak_upd {M0 : Nat} {s0 : State} {p : PeakId} {cause : Nat} {action : Nat} {s : State} (hU : Upd M0 s0 s) (hM : 4503597567967759 ||| M0 = M0) : Upd M0 s0 (failPeak p cause action s) := by
  refine Upd.step hU ?_ hM
  clear hU hM
  unfold failPeak
  have h0 := Upd.refl 4503597567967759 s
  repeat' first | with_reducible assumption | (guard_target =~ (_ ||| _ : Nat) = _; decide) | (fail_if_no_progress extract_lets +onlyGivenNames x; first | (have hx : Upd 4503597567967759 s x := (by unfold x; repeat' first | with_reducible assumption | (guard_target =~ (_ ||| _ : Nat) = _; decide) | with_reducible apply Upd.ite | with_reducible apply peakReset_upd | with_reducible apply failRun_upd | with_reducible apply copyAbort_upd | with_reducible apply setRole_upd | with_reducible apply holdRestart_upd | with_reducible apply announce_upd | with_reducible apply gdmLast_upd | with_reducible apply State.setFld_upd | with_reducible apply Upd.lit | exact rfl | exact SadUpd.refl _ _ | with_reducible apply SadUpd.ite | apply SadUpd.mk | exact fun _ => PeakUpd.refl _ _ | exact Or.inl (by decide) | exact Or.inr rfl); try clear_value x) | (have h9 : (x : Peak) = x := rfl; clear h9) | (have h9 : (x : Saddle) = x := rfl; clear h9) | (have h9 : (x : Pair) = x := rfl; clear h9) | (have h9 : (x : Leg) = x := rfl; clear h9) | clear_value x | skip) | with_reducible apply Upd.ite | with_reducible apply peakReset_upd | with_reducible apply failRun_upd | with_reducible apply copyAbort_upd | with_reducible apply setRole_upd | with_reducible apply holdRestart_upd | with_reducible apply announce_upd | with_reducible apply gdmLast_upd | with_reducible apply State.setFld_upd | with_reducible apply Upd.lit | exact rfl | exact SadUpd.refl _ _ | with_reducible apply SadUpd.ite | apply SadUpd.mk | exact fun _ => PeakUpd.refl _ _ | exact Or.inl (by decide) | exact Or.inr rfl

theorem failover_upd {M0 : Nat} {s0 : State} {p : PeakId} {cause : Nat} {s : State} (hU : Upd M0 s0 s) (hM : 4503597567967759 ||| M0 = M0) : Upd M0 s0 (failover p cause s) := by
  refine Upd.step hU ?_ hM
  clear hU hM
  unfold failover
  have h0 := Upd.refl 4503597567967759 s
  repeat' first | with_reducible assumption | (guard_target =~ (_ ||| _ : Nat) = _; decide) | (fail_if_no_progress extract_lets +onlyGivenNames x; first | (have hx : Upd 4503597567967759 s x := (by unfold x; repeat' first | with_reducible assumption | (guard_target =~ (_ ||| _ : Nat) = _; decide) | with_reducible apply failPeak_upd | with_reducible apply State.bump_upd | with_reducible apply State.raise_upd | with_reducible apply Upd.lit | exact rfl | exact SadUpd.refl _ _ | with_reducible apply SadUpd.ite | apply SadUpd.mk | exact fun _ => PeakUpd.refl _ _ | exact Or.inl (by decide) | exact Or.inr rfl); try clear_value x) | (have h9 : (x : Peak) = x := rfl; clear h9) | (have h9 : (x : Saddle) = x := rfl; clear h9) | (have h9 : (x : Pair) = x := rfl; clear h9) | (have h9 : (x : Leg) = x := rfl; clear h9) | clear_value x | skip) | with_reducible apply failPeak_upd | with_reducible apply State.bump_upd | with_reducible apply State.raise_upd | with_reducible apply Upd.lit | exact rfl | exact SadUpd.refl _ _ | with_reducible apply SadUpd.ite | apply SadUpd.mk | exact fun _ => PeakUpd.refl _ _ | exact Or.inl (by decide) | exact Or.inr rfl

theorem stopAll_upd {M0 : Nat} {s0 : State} {s : State} (hU : Upd M0 s0 s) (hM : 137438966785 ||| M0 = M0) : Upd M0 s0 (stopAll s) := by
  refine Upd.step hU ?_ hM
  clear hU hM
  unfold stopAll
  have h0 := Upd.refl 137438966785 s
  repeat' first | with_reducible assumption | (guard_target =~ (_ ||| _ : Nat) = _; decide) | (fail_if_no_progress extract_lets +onlyGivenNames x; first | (have hx : Upd 137438966785 s x := (by unfold x; repeat' first | with_reducible assumption | (guard_target =~ (_ ||| _ : Nat) = _; decide) | with_reducible apply Upd.ite | with_reducible refine Upd.forAll ?_ (fun _ _ _ => ?_) | with_reducible apply State.setFld_upd | with_reducible apply meanStop_upd | with_reducible apply State.setReg_upd | with_reducible apply legDisable_upd | with_reducible apply pairsDecide_upd | with_reducible apply State.setTb_upd | with_reducible refine Upd.setPair ?_ ?_ ?_ | (guard_target =~ Nat.testBit _ _ = true; decide) | exact fun hs => State.pair_safe (Upd.sound (by with_reducible assumption) hs) _ | (guard_target =~ _ = true → _ = false; intro _; simp)); try clear_value x) | (have h9 : (x : Peak) = x := rfl; clear h9) | (have h9 : (x : Saddle) = x := rfl; clear h9) | (have h9 : (x : Pair) = x := rfl; clear h9) | (have h9 : (x : Leg) = x := rfl; clear h9) | clear_value x | skip) | with_reducible apply Upd.ite | with_reducible refine Upd.forAll ?_ (fun _ _ _ => ?_) | with_reducible apply State.setFld_upd | with_reducible apply meanStop_upd | with_reducible apply State.setReg_upd | with_reducible apply legDisable_upd | with_reducible apply pairsDecide_upd | with_reducible apply State.setTb_upd | with_reducible refine Upd.setPair ?_ ?_ ?_ | (guard_target =~ Nat.testBit _ _ = true; decide) | exact fun hs => State.pair_safe (Upd.sound (by with_reducible assumption) hs) _ | (guard_target =~ _ = true → _ = false; intro _; simp)

theorem safeEnter_upd {M0 : Nat} {s0 : State} {cause : Nat} {p : PeakId} {s : State} (hU : Upd M0 s0 s) (hM : 4503597604093455 ||| M0 = M0) : Upd M0 s0 (safeEnter cause p s) := by
  refine Upd.step hU ?_ hM
  clear hU hM
  unfold safeEnter
  have h0 := Upd.refl 4503597604093455 s
  repeat' first | with_reducible assumption | (guard_target =~ (_ ||| _ : Nat) = _; decide) | (fail_if_no_progress extract_lets +onlyGivenNames x; first | (have hx : Upd 4503597604093455 s x := (by unfold x; repeat' first | with_reducible assumption | (guard_target =~ (_ ||| _ : Nat) = _; decide) | with_reducible apply Upd.ite | with_reducible apply cmdOver_upd | with_reducible apply gdmLast_upd | with_reducible apply State.setFld_upd | with_reducible apply copyAbort_upd | with_reducible apply batonTake_upd | with_reducible apply peakReset_upd | with_reducible apply setRole_upd | with_reducible apply stopAll_upd | with_reducible apply gwPend_upd | with_reducible apply announce_upd | with_reducible apply safChanged_upd | with_reducible apply State.raise_upd | with_reducible apply Upd.lit | exact rfl | exact SadUpd.refl _ _ | with_reducible apply SadUpd.ite | apply SadUpd.mk | exact fun _ => PeakUpd.refl _ _ | exact Or.inl (by decide) | exact Or.inr rfl); try clear_value x) | (have h9 : (x : Peak) = x := rfl; clear h9) | (have h9 : (x : Saddle) = x := rfl; clear h9) | (have h9 : (x : Pair) = x := rfl; clear h9) | (have h9 : (x : Leg) = x := rfl; clear h9) | clear_value x | skip) | with_reducible apply Upd.ite | with_reducible apply cmdOver_upd | with_reducible apply gdmLast_upd | with_reducible apply State.setFld_upd | with_reducible apply copyAbort_upd | with_reducible apply batonTake_upd | with_reducible apply peakReset_upd | with_reducible apply setRole_upd | with_reducible apply stopAll_upd | with_reducible apply gwPend_upd | with_reducible apply announce_upd | with_reducible apply safChanged_upd | with_reducible apply State.raise_upd | with_reducible apply Upd.lit | exact rfl | exact SadUpd.refl _ _ | with_reducible apply SadUpd.ite | apply SadUpd.mk | exact fun _ => PeakUpd.refl _ _ | exact Or.inl (by decide) | exact Or.inr rfl

theorem peakClocked_upd {M0 : Nat} {s0 : State} {p : PeakId} {s : State} (hU : Upd M0 s0 s) (hM : 67108865 ||| M0 = M0) : Upd M0 s0 (peakClocked p s) := by
  refine Upd.step hU ?_ hM
  clear hU hM
  unfold peakClocked
  have h0 := Upd.refl 67108865 s
  repeat' first | with_reducible assumption | (guard_target =~ (_ ||| _ : Nat) = _; decide) | (fail_if_no_progress extract_lets +onlyGivenNames x; first | (have hx : Upd 67108865 s x := (by unfold x; repeat' first | with_reducible assumption | (guard_target =~ (_ ||| _ : Nat) = _; decide) | with_reducible apply Upd.ite | with_reducible apply State.setReg_upd | with_reducible apply State.setFld_upd | with_reducible apply clkRefresh_upd | with_reducible apply State.setPll_upd | with_reducible apply Upd.lit | exact rfl | exact SadUpd.refl _ _ | with_reducible apply SadUpd.ite | apply SadUpd.mk | exact fun _ => PeakUpd.refl _ _ | exact Or.inl (by decide) | exact Or.inr rfl); try clear_value x) | (have h9 : (x : Peak) = x := rfl; clear h9) | (have h9 : (x : Saddle) = x := rfl; clear h9) | (have h9 : (x : Pair) = x := rfl; clear h9) | (have h9 : (x : Leg) = x := rfl; clear h9) | clear_value x | skip) | with_reducible apply Upd.ite | with_reducible apply State.setReg_upd | with_reducible apply State.setFld_upd | with_reducible apply clkRefresh_upd | with_reducible apply State.setPll_upd | with_reducible apply Upd.lit | exact rfl | exact SadUpd.refl _ _ | with_reducible apply SadUpd.ite | apply SadUpd.mk | exact fun _ => PeakUpd.refl _ _ | exact Or.inl (by decide) | exact Or.inr rfl

theorem safeLeave_upd {M0 : Nat} {s0 : State} {s : State} (hU : Upd M0 s0 s) (hM : 4503598675735119 ||| M0 = M0) : Upd M0 s0 (safeLeave s) := by
  refine Upd.step hU ?_ hM
  clear hU hM
  unfold safeLeave
  have h0 := Upd.refl 4503598675735119 s
  repeat' first | with_reducible assumption | (guard_target =~ (_ ||| _ : Nat) = _; decide) | (fail_if_no_progress extract_lets +onlyGivenNames x; first | (have hx : Upd 4503598675735119 s x := (by unfold x; repeat' first | with_reducible assumption | (guard_target =~ (_ ||| _ : Nat) = _; decide) | with_reducible apply Upd.ite | with_reducible apply lockClear_upd | with_reducible apply State.setFld_upd | with_reducible apply State.setGwFld_upd | with_reducible apply cirqRelease_upd | with_reducible refine Upd.bothPeaks ?_ (fun _ _ _ => ?_) | with_reducible apply peakRelease_upd | with_reducible apply peakClocked_upd | with_reducible apply safChanged_upd | with_reducible apply Upd.lit | exact rfl | exact SadUpd.refl _ _ | with_reducible apply SadUpd.ite | apply SadUpd.mk | exact fun _ => PeakUpd.refl _ _ | exact Or.inl (by decide) | exact Or.inr rfl); try clear_value x) | (have h9 : (x : Peak) = x := rfl; clear h9) | (have h9 : (x : Saddle) = x := rfl; clear h9) | (have h9 : (x : Pair) = x := rfl; clear h9) | (have h9 : (x : Leg) = x := rfl; clear h9) | clear_value x | skip) | with_reducible apply Upd.ite | with_reducible apply lockClear_upd | with_reducible apply State.setFld_upd | with_reducible apply State.setGwFld_upd | with_reducible apply cirqRelease_upd | with_reducible refine Upd.bothPeaks ?_ (fun _ _ _ => ?_) | with_reducible apply peakRelease_upd | with_reducible apply peakClocked_upd | with_reducible apply safChanged_upd | with_reducible apply Upd.lit | exact rfl | exact SadUpd.refl _ _ | with_reducible apply SadUpd.ite | apply SadUpd.mk | exact fun _ => PeakUpd.refl _ _ | exact Or.inl (by decide) | exact Or.inr rfl

theorem execAutoRestart_upd (s : State) {t : State} (hX : execAutoRestart s = .next t) : Upd 4503598675735119 s t := by
  unfold execAutoRestart at hX
  cases hX
  have h0 := Upd.refl 4503598675735119 s
  repeat' first | with_reducible assumption | (guard_target =~ (_ ||| _ : Nat) = _; decide) | with_reducible apply Upd.ite | with_reducible apply safeLeave_upd | with_reducible apply Upd.lit | exact rfl | exact SadUpd.refl _ _ | with_reducible apply SadUpd.ite | apply SadUpd.mk | exact fun _ => PeakUpd.refl _ _ | exact Or.inl (by decide) | exact Or.inr rfl

theorem heartbeatsSend_upd {M0 : Nat} {s0 : State} {seq : Nat} {s : State} (hU : Upd M0 s0 s) (hM : 104169734144 ||| M0 = M0) : Upd M0 s0 (heartbeatsSend seq s) := by
  refine Upd.step hU ?_ hM
  clear hU hM
  unfold heartbeatsSend
  have h0 := Upd.refl 104169734144 s
  repeat' first | with_reducible assumption | (guard_target =~ (_ ||| _ : Nat) = _; decide) | (fail_if_no_progress extract_lets +onlyGivenNames x; first | (have hx : Upd 104169734144 s x := (by unfold x; repeat' first | with_reducible assumption | (guard_target =~ (_ ||| _ : Nat) = _; decide) | with_reducible apply Upd.ite | with_reducible refine Upd.bothPeaks ?_ (fun _ _ _ => ?_) | with_reducible refine Upd.setPeak ?_ ?_ | with_reducible apply Upd.lit | exact rfl | exact SadUpd.refl _ _ | with_reducible apply SadUpd.ite | apply SadUpd.mk | exact fun _ => PeakUpd.refl _ _ | exact PeakUpd.refl _ _ | with_reducible apply PeakUpd.ite | with_reducible apply PeakUpd.lit | exact Or.inl (by decide) | exact Or.inr rfl); try clear_value x) | (have h9 : (x : Peak) = x := rfl; clear h9) | (have h9 : (x : Saddle) = x := rfl; clear h9) | (have h9 : (x : Pair) = x := rfl; clear h9) | (have h9 : (x : Leg) = x := rfl; clear h9) | clear_value x | skip) | with_reducible apply Upd.ite | with_reducible refine Upd.bothPeaks ?_ (fun _ _ _ => ?_) | with_reducible refine Upd.setPeak ?_ ?_ | with_reducible apply Upd.lit | exact rfl | exact SadUpd.refl _ _ | with_reducible apply SadUpd.ite | apply SadUpd.mk | exact fun _ => PeakUpd.refl _ _ | exact PeakUpd.refl _ _ | with_reducible apply PeakUpd.ite | with_reducible apply PeakUpd.lit | exact Or.inl (by decide) | exact Or.inr rfl

theorem grantTo_upd {M0 : Nat} {s0 : State} {p : PeakId} {s : State} (hU : Upd M0 s0 s) (hM : 18885633 ||| M0 = M0) : Upd M0 s0 (grantTo p s) := by
  refine Upd.step hU ?_ hM
  clear hU hM
  unfold grantTo
  have h0 := Upd.refl 18885633 s
  repeat' first | with_reducible assumption | (guard_target =~ (_ ||| _ : Nat) = _; decide) | (fail_if_no_progress extract_lets +onlyGivenNames x; first | (have hx : Upd 18885633 s x := (by unfold x; repeat' first | with_reducible assumption | (guard_target =~ (_ ||| _ : Nat) = _; decide) | with_reducible apply batonTo_upd | with_reducible apply setRole_upd | with_reducible apply Upd.lit | exact rfl | exact SadUpd.refl _ _ | with_reducible apply SadUpd.ite | apply SadUpd.mk | exact fun _ => PeakUpd.refl _ _ | exact Or.inl (by decide) | exact Or.inr rfl); try clear_value x) | (have h9 : (x : Peak) = x := rfl; clear h9) | (have h9 : (x : Saddle) = x := rfl; clear h9) | (have h9 : (x : Pair) = x := rfl; clear h9) | (have h9 : (x : Leg) = x := rfl; clear h9) | clear_value x | skip) | with_reducible apply batonTo_upd | with_reducible apply setRole_upd | with_reducible apply Upd.lit | exact rfl | exact SadUpd.refl _ _ | with_reducible apply SadUpd.ite | apply SadUpd.mk | exact fun _ => PeakUpd.refl _ _ | exact Or.inl (by decide) | exact Or.inr rfl

theorem strobeRoles_upd {M0 : Nat} {s0 : State} {s : State} (hU : Upd M0 s0 s) (hM : 250602770672655 ||| M0 = M0) : Upd M0 s0 (strobeRoles s) := by
  refine Upd.step hU ?_ hM
  clear hU hM
  unfold strobeRoles
  have h0 := Upd.refl 250602770672655 s
  repeat' first | with_reducible assumption | (guard_target =~ (_ ||| _ : Nat) = _; decide) | (fail_if_no_progress extract_lets +onlyGivenNames x; first | (have hx : Upd 250602770672655 s x := (by unfold x; repeat' first | with_reducible assumption | (guard_target =~ (_ ||| _ : Nat) = _; decide) | with_reducible apply Upd.ite | with_reducible refine Upd.bothPeaks ?_ (fun _ _ _ => ?_) | with_reducible apply setRole_upd | with_reducible apply copyEnd_upd | with_reducible apply grantTo_upd | with_reducible apply gdmLast_upd | split); try clear_value x) | (have h9 : (x : Peak) = x := rfl; clear h9) | (have h9 : (x : Saddle) = x := rfl; clear h9) | (have h9 : (x : Pair) = x := rfl; clear h9) | (have h9 : (x : Leg) = x := rfl; clear h9) | clear_value x | skip) | with_reducible apply Upd.ite | with_reducible refine Upd.bothPeaks ?_ (fun _ _ _ => ?_) | with_reducible apply setRole_upd | with_reducible apply copyEnd_upd | with_reducible apply grantTo_upd | with_reducible apply gdmLast_upd | split

theorem strobeCopies_upd {M0 : Nat} {s0 : State} {s : State} (hU : Upd M0 s0 s) (hM : 154635599881 ||| M0 = M0) : Upd M0 s0 (strobeCopies s) := by
  refine Upd.step hU ?_ hM
  clear hU hM
  unfold strobeCopies
  have h0 := Upd.refl 154635599881 s
  repeat' first | with_reducible assumption | (guard_target =~ (_ ||| _ : Nat) = _; decide) | with_reducible apply Upd.ite | with_reducible apply copyBegin_upd | with_reducible apply joinStart_upd | split | with_reducible apply Upd.lit | exact rfl | exact SadUpd.refl _ _ | with_reducible apply SadUpd.ite | apply SadUpd.mk | exact fun _ => PeakUpd.refl _ _ | exact Or.inl (by decide) | exact Or.inr rfl

theorem inhibitRelease_upd {M0 : Nat} {s0 : State} {s : State} (hU : Upd M0 s0 s) (hM : 248524038418445 ||| M0 = M0) : Upd M0 s0 (inhibitRelease s) := by
  refine Upd.step hU ?_ hM
  clear hU hM
  unfold inhibitRelease
  have h0 := Upd.refl 248524038418445 s
  repeat' first | with_reducible assumption | (guard_target =~ (_ ||| _ : Nat) = _; decide) | with_reducible apply Upd.ite | with_reducible apply safChanged_upd | with_reducible apply Upd.lit | exact rfl | exact SadUpd.refl _ _ | with_reducible apply SadUpd.ite | apply SadUpd.mk | exact fun _ => PeakUpd.refl _ _ | exact Or.inl (by decide) | exact Or.inr rfl

theorem strobeNow_upd {M0 : Nat} {s0 : State} {s : State} (hU : Upd M0 s0 s) (hM : 250672598957071 ||| M0 = M0) : Upd M0 s0 (strobeNow s) := by
  refine Upd.step hU ?_ hM
  clear hU hM
  unfold strobeNow
  have h0 := Upd.refl 250672598957071 s
  repeat' first | with_reducible assumption | (guard_target =~ (_ ||| _ : Nat) = _; decide) | (fail_if_no_progress extract_lets +onlyGivenNames x; first | (have hx : Upd 250672598957071 s x := (by unfold x; repeat' first | with_reducible assumption | (guard_target =~ (_ ||| _ : Nat) = _; decide) | with_reducible apply Upd.ite | with_reducible apply heartbeatsSend_upd | with_reducible refine Upd.bothPeaks ?_ (fun _ _ _ => ?_) | with_reducible apply throttleDeliver_upd | with_reducible apply strobeCopies_upd | with_reducible apply strobeRoles_upd | with_reducible apply announce_upd | with_reducible apply holdKeep_upd | with_reducible apply inhibitRelease_upd | split | with_reducible apply Upd.lit | exact rfl | exact SadUpd.refl _ _ | with_reducible apply SadUpd.ite | apply SadUpd.mk | exact fun _ => PeakUpd.refl _ _ | exact Or.inl (by decide) | exact Or.inr rfl); try clear_value x) | (have h9 : (x : Peak) = x := rfl; clear h9) | (have h9 : (x : Saddle) = x := rfl; clear h9) | (have h9 : (x : Pair) = x := rfl; clear h9) | (have h9 : (x : Leg) = x := rfl; clear h9) | clear_value x | skip) | with_reducible apply Upd.ite | with_reducible apply heartbeatsSend_upd | with_reducible refine Upd.bothPeaks ?_ (fun _ _ _ => ?_) | with_reducible apply throttleDeliver_upd | with_reducible apply strobeCopies_upd | with_reducible apply strobeRoles_upd | with_reducible apply announce_upd | with_reducible apply holdKeep_upd | with_reducible apply inhibitRelease_upd | split | with_reducible apply Upd.lit | exact rfl | exact SadUpd.refl _ _ | with_reducible apply SadUpd.ite | apply SadUpd.mk | exact fun _ => PeakUpd.refl _ _ | exact Or.inl (by decide) | exact Or.inr rfl

theorem execStrobe_upd (s : State) {t : State} (hX : execStrobe s = .next t) : Upd 250672598957071 s t := by
  unfold execStrobe at hX
  cases hX
  have h0 := Upd.refl 250672598957071 s
  repeat' first | with_reducible assumption | (guard_target =~ (_ ||| _ : Nat) = _; decide) | with_reducible apply Upd.ite | with_reducible apply strobeNow_upd

theorem execIdleStrobe_upd (s : State) {t : State} (hX : execIdleStrobe s = .next t) : Upd 250672598957071 s t := by
  unfold execIdleStrobe at hX
  cases hX
  have h0 := Upd.refl 250672598957071 s
  repeat' first | with_reducible assumption | (guard_target =~ (_ ||| _ : Nat) = _; decide) | with_reducible apply Upd.ite | with_reducible apply strobeNow_upd

theorem divergence_upd {M0 : Nat} {s0 : State} {seq : Nat} {kind : Nat} {chan : Nat} {s : State} (hU : Upd M0 s0 s) (hM : 248524004392973 ||| M0 = M0) : Upd M0 s0 (divergence seq kind chan s) := by
  refine Upd.step hU ?_ hM
  clear hU hM
  unfold divergence
  have h0 := Upd.refl 248524004392973 s
  repeat' first | with_reducible assumption | (guard_target =~ (_ ||| _ : Nat) = _; decide) | (fail_if_no_progress extract_lets +onlyGivenNames x; first | (have hx : Upd 248524004392973 s x := (by unfold x; repeat' first | with_reducible assumption | (guard_target =~ (_ ||| _ : Nat) = _; decide) | with_reducible apply Upd.ite | with_reducible apply State.setReg_upd | with_reducible apply fireBoth_upd | with_reducible apply State.raise_upd | with_reducible apply holdRestart_upd | with_reducible apply gwPend_upd | with_reducible apply Upd.lit | exact rfl | exact SadUpd.refl _ _ | with_reducible apply SadUpd.ite | apply SadUpd.mk | exact fun _ => PeakUpd.refl _ _ | exact Or.inl (by decide) | exact Or.inr rfl); try clear_value x) | (have h9 : (x : Peak) = x := rfl; clear h9) | (have h9 : (x : Saddle) = x := rfl; clear h9) | (have h9 : (x : Pair) = x := rfl; clear h9) | (have h9 : (x : Leg) = x := rfl; clear h9) | clear_value x | skip) | with_reducible apply Upd.ite | with_reducible apply State.setReg_upd | with_reducible apply fireBoth_upd | with_reducible apply State.raise_upd | with_reducible apply holdRestart_upd | with_reducible apply gwPend_upd | with_reducible apply Upd.lit | exact rfl | exact SadUpd.refl _ _ | with_reducible apply SadUpd.ite | apply SadUpd.mk | exact fun _ => PeakUpd.refl _ _ | exact Or.inl (by decide) | exact Or.inr rfl

theorem outputCompare_upd {M0 : Nat} {s0 : State} {s : State} (hU : Upd M0 s0 s) (hM : 248524008587277 ||| M0 = M0) : Upd M0 s0 (outputCompare s) := by
  refine Upd.step hU ?_ hM
  clear hU hM
  unfold outputCompare
  have h0 := Upd.refl 248524008587277 s
  repeat' first | with_reducible assumption | (guard_target =~ (_ ||| _ : Nat) = _; decide) | with_reducible apply h90 | with_reducible apply h91 | with_reducible apply h92 | with_reducible apply h93 | with_reducible apply h94 | (fail_if_no_progress extract_lets +onlyGivenNames x; first | (have hx : Upd 248524008587277 s x := (by unfold x; repeat' first | with_reducible assumption | (guard_target =~ (_ ||| _ : Nat) = _; decide) | with_reducible apply h90 | with_reducible apply h91 | with_reducible apply h92 | with_reducible apply h93 | with_reducible apply h94 | with_reducible apply Upd.ite | with_reducible apply divergence_upd | with_reducible apply State.bump_upd | split | with_reducible apply Upd.lit | exact rfl | exact SadUpd.refl _ _ | with_reducible apply SadUpd.ite | apply SadUpd.mk | exact fun _ => PeakUpd.refl _ _ | exact Or.inl (by decide) | exact Or.inr rfl); try clear_value x) | (have h9 : (x : Peak) = x := rfl; clear h9) | (have h9 : (x : Saddle) = x := rfl; clear h9) | (have h9 : (x : Pair) = x := rfl; clear h9) | (have h9 : (x : Leg) = x := rfl; clear h9) | (have h90 : ∀  t, Upd 248524008587277 s t → Upd 248524008587277 s (x  t) := (by intro  t ht; unfold x; repeat' first | with_reducible assumption | (guard_target =~ (_ ||| _ : Nat) = _; decide) | with_reducible apply h90 | with_reducible apply h91 | with_reducible apply h92 | with_reducible apply h93 | with_reducible apply h94 | with_reducible apply Upd.ite | with_reducible apply divergence_upd | with_reducible apply State.bump_upd | split | with_reducible apply Upd.lit | exact rfl | exact SadUpd.refl _ _ | with_reducible apply SadUpd.ite | apply SadUpd.mk | exact fun _ => PeakUpd.refl _ _ | exact Or.inl (by decide) | exact Or.inr rfl); try clear_value x) | (have h91 : ∀ a0 t, Upd 248524008587277 s t → Upd 248524008587277 s (x a0 t) := (by intro a0 t ht; unfold x; repeat' first | with_reducible assumption | (guard_target =~ (_ ||| _ : Nat) = _; decide) | with_reducible apply h90 | with_reducible apply h91 | with_reducible apply h92 | with_reducible apply h93 | with_reducible apply h94 | with_reducible apply Upd.ite | with_reducible apply divergence_upd | with_reducible apply State.bump_upd | split | with_reducible apply Upd.lit | exact rfl | exact SadUpd.refl _ _ | with_reducible apply SadUpd.ite | apply SadUpd.mk | exact fun _ => PeakUpd.refl _ _ | exact Or.inl (by decide) | exact Or.inr rfl); try clear_value x) | (have h92 : ∀ a0 a1 t, Upd 248524008587277 s t → Upd 248524008587277 s (x a0 a1 t) := (by intro a0 a1 t ht; unfold x; repeat' first | with_reducible assumption | (guard_target =~ (_ ||| _ : Nat) = _; decide) | with_reducible apply h90 | with_reducible apply h91 | with_reducible apply h92 | with_reducible apply h93 | with_reducible apply h94 | with_reducible apply Upd.ite | with_reducible apply divergence_upd | with_reducible apply State.bump_upd | split | with_reducible apply Upd.lit | exact rfl | exact SadUpd.refl _ _ | with_reducible apply SadUpd.ite | apply SadUpd.mk | exact fun _ => PeakUpd.refl _ _ | exact Or.inl (by decide) | exact Or.inr rfl); try clear_value x) | (have h93 : ∀ a0 a1 a2 t, Upd 248524008587277 s t → Upd 248524008587277 s (x a0 a1 a2 t) := (by intro a0 a1 a2 t ht; unfold x; repeat' first | with_reducible assumption | (guard_target =~ (_ ||| _ : Nat) = _; decide) | with_reducible apply h90 | with_reducible apply h91 | with_reducible apply h92 | with_reducible apply h93 | with_reducible apply h94 | with_reducible apply Upd.ite | with_reducible apply divergence_upd | with_reducible apply State.bump_upd | split | with_reducible apply Upd.lit | exact rfl | exact SadUpd.refl _ _ | with_reducible apply SadUpd.ite | apply SadUpd.mk | exact fun _ => PeakUpd.refl _ _ | exact Or.inl (by decide) | exact Or.inr rfl); try clear_value x) | (have h94 : ∀ a0 a1 a2 a3 t, Upd 248524008587277 s t → Upd 248524008587277 s (x a0 a1 a2 a3 t) := (by intro a0 a1 a2 a3 t ht; unfold x; repeat' first | with_reducible assumption | (guard_target =~ (_ ||| _ : Nat) = _; decide) | with_reducible apply h90 | with_reducible apply h91 | with_reducible apply h92 | with_reducible apply h93 | with_reducible apply h94 | with_reducible apply Upd.ite | with_reducible apply divergence_upd | with_reducible apply State.bump_upd | split | with_reducible apply Upd.lit | exact rfl | exact SadUpd.refl _ _ | with_reducible apply SadUpd.ite | apply SadUpd.mk | exact fun _ => PeakUpd.refl _ _ | exact Or.inl (by decide) | exact Or.inr rfl); try clear_value x) | clear_value x | skip) | with_reducible apply Upd.ite | with_reducible apply divergence_upd | with_reducible apply State.bump_upd | split | with_reducible apply Upd.lit | exact rfl | exact SadUpd.refl _ _ | with_reducible apply SadUpd.ite | apply SadUpd.mk | exact fun _ => PeakUpd.refl _ _ | exact Or.inl (by decide) | exact Or.inr rfl

theorem heartbeatReceive_upd {M0 : Nat} {s0 : State} {p : PeakId} {s : State} (hU : Upd M0 s0 s) (hM : 16777217 ||| M0 = M0) : Upd M0 s0 (heartbeatReceive p s) := by
  refine Upd.step hU ?_ hM
  clear hU hM
  unfold heartbeatReceive
  have h0 := Upd.refl 16777217 s
  repeat' first | with_reducible assumption | (guard_target =~ (_ ||| _ : Nat) = _; decide) | (fail_if_no_progress extract_lets +onlyGivenNames x; first | (have hx : Upd 16777217 s x := (by unfold x; repeat' first | with_reducible assumption | (guard_target =~ (_ ||| _ : Nat) = _; decide) | with_reducible apply Upd.ite | with_reducible apply State.setRegW_upd | with_reducible apply State.bump_upd | with_reducible apply State.raise_upd | split | with_reducible apply Upd.lit | exact rfl | exact SadUpd.refl _ _ | with_reducible apply SadUpd.ite | apply SadUpd.mk | exact fun _ => PeakUpd.refl _ _ | exact Or.inl (by decide) | exact Or.inr rfl); try clear_value x) | (have hx : Upd 16777217 s x.2 := (by unfold x; repeat' first | with_reducible assumption | (guard_target =~ (_ ||| _ : Nat) = _; decide) | with_reducible apply Upd.ite | with_reducible apply State.setRegW_upd | with_reducible apply State.bump_upd | with_reducible apply State.raise_upd | split | with_reducible apply Upd.lit | exact rfl | exact SadUpd.refl _ _ | with_reducible apply SadUpd.ite | apply SadUpd.mk | exact fun _ => PeakUpd.refl _ _ | exact Or.inl (by decide) | exact Or.inr rfl); try clear_value x) | (have h9 : (x : Peak) = x := rfl; clear h9) | (have h9 : (x : Saddle) = x := rfl; clear h9) | (have h9 : (x : Pair) = x := rfl; clear h9) | (have h9 : (x : Leg) = x := rfl; clear h9) | clear_value x | skip) | with_reducible apply Upd.ite | with_reducible apply State.setRegW_upd | with_reducible apply State.bump_upd | with_reducible apply State.raise_upd | split | with_reducible apply Upd.lit | exact rfl | exact SadUpd.refl _ _ | with_reducible apply SadUpd.ite | apply SadUpd.mk | exact fun _ => PeakUpd.refl _ _ | exact Or.inl (by decide) | exact Or.inr rfl

theorem execHeartbeatReceive_upd (p : PeakId) (s : State) {t : State} (hX : execHeartbeatReceive p s = .next t) : Upd 16777217 s t := by
  unfold execHeartbeatReceive at hX
  cases hX
  have h0 := Upd.refl 16777217 s
  repeat' first | with_reducible assumption | (guard_target =~ (_ ||| _ : Nat) = _; decide) | with_reducible apply heartbeatReceive_upd

theorem verdictNote_upd {M0 : Nat} {s0 : State} {p : PeakId} {v : Nat × Nat} {s : State} (hU : Upd M0 s0 s) (hM : 16777217 ||| M0 = M0) : Upd M0 s0 (verdictNote p v s) := by
  refine Upd.step hU ?_ hM
  clear hU hM
  unfold verdictNote
  have h0 := Upd.refl 16777217 s
  repeat' first | with_reducible assumption | (guard_target =~ (_ ||| _ : Nat) = _; decide) | (fail_if_no_progress extract_lets +onlyGivenNames x; first | (have hx : Upd 16777217 s x := (by unfold x; repeat' first | with_reducible assumption | (guard_target =~ (_ ||| _ : Nat) = _; decide) | with_reducible apply Upd.ite | with_reducible apply State.setReg_upd | with_reducible apply State.bump_upd | with_reducible apply Upd.lit | exact rfl | exact SadUpd.refl _ _ | with_reducible apply SadUpd.ite | apply SadUpd.mk | exact fun _ => PeakUpd.refl _ _ | exact Or.inl (by decide) | exact Or.inr rfl); try clear_value x) | (have hx : Upd 16777217 s x.2 := (by unfold x; repeat' first | with_reducible assumption | (guard_target =~ (_ ||| _ : Nat) = _; decide) | with_reducible apply Upd.ite | with_reducible apply State.setReg_upd | with_reducible apply State.bump_upd | with_reducible apply Upd.lit | exact rfl | exact SadUpd.refl _ _ | with_reducible apply SadUpd.ite | apply SadUpd.mk | exact fun _ => PeakUpd.refl _ _ | exact Or.inl (by decide) | exact Or.inr rfl); try clear_value x) | (have h9 : (x : Peak) = x := rfl; clear h9) | (have h9 : (x : Saddle) = x := rfl; clear h9) | (have h9 : (x : Pair) = x := rfl; clear h9) | (have h9 : (x : Leg) = x := rfl; clear h9) | clear_value x | skip) | with_reducible apply Upd.ite | with_reducible apply State.setReg_upd | with_reducible apply State.bump_upd | with_reducible apply Upd.lit | exact rfl | exact SadUpd.refl _ _ | with_reducible apply SadUpd.ite | apply SadUpd.mk | exact fun _ => PeakUpd.refl _ _ | exact Or.inl (by decide) | exact Or.inr rfl

theorem decideRoles_upd {M0 : Nat} {s0 : State} {va : Nat × Nat} {vb : Nat × Nat} {s : State} (hU : Upd M0 s0 s) (hM : 4503597604093455 ||| M0 = M0) : Upd M0 s0 (decideRoles va vb s) := by
  refine Upd.step hU ?_ hM
  clear hU hM
  unfold decideRoles
  have h0 := Upd.refl 4503597604093455 s
  repeat' first | with_reducible assumption | (guard_target =~ (_ ||| _ : Nat) = _; decide) | with_reducible apply h90 | with_reducible apply h91 | with_reducible apply h92 | with_reducible apply h93 | with_reducible apply h94 | (fail_if_no_progress extract_lets +onlyGivenNames x; first | (have hx : Upd 4503597604093455 s x := (by unfold x; repeat' first | with_reducible assumption | (guard_target =~ (_ ||| _ : Nat) = _; decide) | with_reducible apply h90 | with_reducible apply h91 | with_reducible apply h92 | with_reducible apply h93 | with_reducible apply h94 | with_reducible apply Upd.ite | with_reducible apply failPeak_upd | with_reducible apply failover_upd | with_reducible apply safeEnter_upd | split); try clear_value x) | (have hx : Upd 4503597604093455 s x.2 := (by unfold x; repeat' first | with_reducible assumption | (guard_target =~ (_ ||| _ : Nat) = _; decide) | with_reducible apply h90 | with_reducible apply h91 | with_reducible apply h92 | with_reducible apply h93 | with_reducible apply h94 | with_reducible apply Upd.ite | with_reducible apply failPeak_upd | with_reducible apply failover_upd | with_reducible apply safeEnter_upd | split); try clear_value x) | (have h9 : (x : Peak) = x := rfl; clear h9) | (have h9 : (x : Saddle) = x := rfl; clear h9) | (have h9 : (x : Pair) = x := rfl; clear h9) | (have h9 : (x : Leg) = x := rfl; clear h9) | (have h90 : ∀  t, Upd 4503597604093455 s t → Upd 4503597604093455 s (x  t) := (by intro  t ht; unfold x; repeat' first | with_reducible assumption | (guard_target =~ (_ ||| _ : Nat) = _; decide) | with_reducible apply h90 | with_reducible apply h91 | with_reducible apply h92 | with_reducible apply h93 | with_reducible apply h94 | with_reducible apply Upd.ite | with_reducible apply failPeak_upd | with_reducible apply failover_upd | with_reducible apply safeEnter_upd | split); try clear_value x) | (have h91 : ∀ a0 t, Upd 4503597604093455 s t → Upd 4503597604093455 s (x a0 t) := (by intro a0 t ht; unfold x; repeat' first | with_reducible assumption | (guard_target =~ (_ ||| _ : Nat) = _; decide) | with_reducible apply h90 | with_reducible apply h91 | with_reducible apply h92 | with_reducible apply h93 | with_reducible apply h94 | with_reducible apply Upd.ite | with_reducible apply failPeak_upd | with_reducible apply failover_upd | with_reducible apply safeEnter_upd | split); try clear_value x) | (have h92 : ∀ a0 a1 t, Upd 4503597604093455 s t → Upd 4503597604093455 s (x a0 a1 t) := (by intro a0 a1 t ht; unfold x; repeat' first | with_reducible assumption | (guard_target =~ (_ ||| _ : Nat) = _; decide) | with_reducible apply h90 | with_reducible apply h91 | with_reducible apply h92 | with_reducible apply h93 | with_reducible apply h94 | with_reducible apply Upd.ite | with_reducible apply failPeak_upd | with_reducible apply failover_upd | with_reducible apply safeEnter_upd | split); try clear_value x) | (have h93 : ∀ a0 a1 a2 t, Upd 4503597604093455 s t → Upd 4503597604093455 s (x a0 a1 a2 t) := (by intro a0 a1 a2 t ht; unfold x; repeat' first | with_reducible assumption | (guard_target =~ (_ ||| _ : Nat) = _; decide) | with_reducible apply h90 | with_reducible apply h91 | with_reducible apply h92 | with_reducible apply h93 | with_reducible apply h94 | with_reducible apply Upd.ite | with_reducible apply failPeak_upd | with_reducible apply failover_upd | with_reducible apply safeEnter_upd | split); try clear_value x) | (have h94 : ∀ a0 a1 a2 a3 t, Upd 4503597604093455 s t → Upd 4503597604093455 s (x a0 a1 a2 a3 t) := (by intro a0 a1 a2 a3 t ht; unfold x; repeat' first | with_reducible assumption | (guard_target =~ (_ ||| _ : Nat) = _; decide) | with_reducible apply h90 | with_reducible apply h91 | with_reducible apply h92 | with_reducible apply h93 | with_reducible apply h94 | with_reducible apply Upd.ite | with_reducible apply failPeak_upd | with_reducible apply failover_upd | with_reducible apply safeEnter_upd | split); try clear_value x) | clear_value x | skip) | with_reducible apply Upd.ite | with_reducible apply failPeak_upd | with_reducible apply failover_upd | with_reducible apply safeEnter_upd | split

theorem stateCompare_upd {M0 : Nat} {s0 : State} {s : State} (hU : Upd M0 s0 s) (hM : 248524004392973 ||| M0 = M0) : Upd M0 s0 (stateCompare s) := by
  refine Upd.step hU ?_ hM
  clear hU hM
  unfold stateCompare
  have h0 := Upd.refl 248524004392973 s
  repeat' first | with_reducible assumption | (guard_target =~ (_ ||| _ : Nat) = _; decide) | (fail_if_no_progress extract_lets +onlyGivenNames x; first | (have hx : Upd 248524004392973 s x := (by unfold x; repeat' first | with_reducible assumption | (guard_target =~ (_ ||| _ : Nat) = _; decide) | with_reducible apply Upd.ite | with_reducible apply divergence_upd | with_reducible apply State.bump_upd | split | with_reducible apply Upd.lit | exact rfl | exact SadUpd.refl _ _ | with_reducible apply SadUpd.ite | apply SadUpd.mk | exact fun _ => PeakUpd.refl _ _ | exact Or.inl (by decide) | exact Or.inr rfl); try clear_value x) | (have hx : Upd 248524004392973 s x.2 := (by unfold x; repeat' first | with_reducible assumption | (guard_target =~ (_ ||| _ : Nat) = _; decide) | with_reducible apply Upd.ite | with_reducible apply divergence_upd | with_reducible apply State.bump_upd | split | with_reducible apply Upd.lit | exact rfl | exact SadUpd.refl _ _ | with_reducible apply SadUpd.ite | apply SadUpd.mk | exact fun _ => PeakUpd.refl _ _ | exact Or.inl (by decide) | exact Or.inr rfl); try clear_value x) | (have h9 : (x : Peak) = x := rfl; clear h9) | (have h9 : (x : Saddle) = x := rfl; clear h9) | (have h9 : (x : Pair) = x := rfl; clear h9) | (have h9 : (x : Leg) = x := rfl; clear h9) | clear_value x | skip) | with_reducible apply Upd.ite | with_reducible apply divergence_upd | with_reducible apply State.bump_upd | split | with_reducible apply Upd.lit | exact rfl | exact SadUpd.refl _ _ | with_reducible apply SadUpd.ite | apply SadUpd.mk | exact fun _ => PeakUpd.refl _ _ | exact Or.inl (by decide) | exact Or.inr rfl

theorem acksSend_upd {M0 : Nat} {s0 : State} {s : State} (hU : Upd M0 s0 s) (hM : 16777216 ||| M0 = M0) : Upd M0 s0 (acksSend s) := by
  refine Upd.step hU ?_ hM
  clear hU hM
  unfold acksSend
  have h0 := Upd.refl 16777216 s
  repeat' first | with_reducible assumption | (guard_target =~ (_ ||| _ : Nat) = _; decide) | with_reducible apply h90 | with_reducible apply h91 | with_reducible apply h92 | with_reducible apply h93 | with_reducible apply h94 | (fail_if_no_progress extract_lets +onlyGivenNames x; first | (have hx : Upd 16777216 s x := (by unfold x; repeat' first | with_reducible assumption | (guard_target =~ (_ ||| _ : Nat) = _; decide) | with_reducible apply h90 | with_reducible apply h91 | with_reducible apply h92 | with_reducible apply h93 | with_reducible apply h94 | with_reducible apply Upd.ite | with_reducible apply Upd.lit | exact rfl | exact SadUpd.refl _ _ | with_reducible apply SadUpd.ite | apply SadUpd.mk | exact fun _ => PeakUpd.refl _ _ | exact Or.inl (by decide) | exact Or.inr rfl); try clear_value x) | (have h9 : (x : Peak) = x := rfl; clear h9) | (have h9 : (x : Saddle) = x := rfl; clear h9) | (have h9 : (x : Pair) = x := rfl; clear h9) | (have h9 : (x : Leg) = x := rfl; clear h9) | (have h90 : ∀  t, Upd 16777216 s t → Upd 16777216 s (x  t) := (by intro  t ht; unfold x; repeat' first | with_reducible assumption | (guard_target =~ (_ ||| _ : Nat) = _; decide) | with_reducible apply h90 | with_reducible apply h91 | with_reducible apply h92 | with_reducible apply h93 | with_reducible apply h94 | with_reducible apply Upd.ite | with_reducible apply Upd.lit | exact rfl | exact SadUpd.refl _ _ | with_reducible apply SadUpd.ite | apply SadUpd.mk | exact fun _ => PeakUpd.refl _ _ | exact Or.inl (by decide) | exact Or.inr rfl); try clear_value x) | (have h91 : ∀ a0 t, Upd 16777216 s t → Upd 16777216 s (x a0 t) := (by intro a0 t ht; unfold x; repeat' first | with_reducible assumption | (guard_target =~ (_ ||| _ : Nat) = _; decide) | with_reducible apply h90 | with_reducible apply h91 | with_reducible apply h92 | with_reducible apply h93 | with_reducible apply h94 | with_reducible apply Upd.ite | with_reducible apply Upd.lit | exact rfl | exact SadUpd.refl _ _ | with_reducible apply SadUpd.ite | apply SadUpd.mk | exact fun _ => PeakUpd.refl _ _ | exact Or.inl (by decide) | exact Or.inr rfl); try clear_value x) | (have h92 : ∀ a0 a1 t, Upd 16777216 s t → Upd 16777216 s (x a0 a1 t) := (by intro a0 a1 t ht; unfold x; repeat' first | with_reducible assumption | (guard_target =~ (_ ||| _ : Nat) = _; decide) | with_reducible apply h90 | with_reducible apply h91 | with_reducible apply h92 | with_reducible apply h93 | with_reducible apply h94 | with_reducible apply Upd.ite | with_reducible apply Upd.lit | exact rfl | exact SadUpd.refl _ _ | with_reducible apply SadUpd.ite | apply SadUpd.mk | exact fun _ => PeakUpd.refl _ _ | exact Or.inl (by decide) | exact Or.inr rfl); try clear_value x) | (have h93 : ∀ a0 a1 a2 t, Upd 16777216 s t → Upd 16777216 s (x a0 a1 a2 t) := (by intro a0 a1 a2 t ht; unfold x; repeat' first | with_reducible assumption | (guard_target =~ (_ ||| _ : Nat) = _; decide) | with_reducible apply h90 | with_reducible apply h91 | with_reducible apply h92 | with_reducible apply h93 | with_reducible apply h94 | with_reducible apply Upd.ite | with_reducible apply Upd.lit | exact rfl | exact SadUpd.refl _ _ | with_reducible apply SadUpd.ite | apply SadUpd.mk | exact fun _ => PeakUpd.refl _ _ | exact Or.inl (by decide) | exact Or.inr rfl); try clear_value x) | (have h94 : ∀ a0 a1 a2 a3 t, Upd 16777216 s t → Upd 16777216 s (x a0 a1 a2 a3 t) := (by intro a0 a1 a2 a3 t ht; unfold x; repeat' first | with_reducible assumption | (guard_target =~ (_ ||| _ : Nat) = _; decide) | with_reducible apply h90 | with_reducible apply h91 | with_reducible apply h92 | with_reducible apply h93 | with_reducible apply h94 | with_reducible apply Upd.ite | with_reducible apply Upd.lit | exact rfl | exact SadUpd.refl _ _ | with_reducible apply SadUpd.ite | apply SadUpd.mk | exact fun _ => PeakUpd.refl _ _ | exact Or.inl (by decide) | exact Or.inr rfl); try clear_value x) | clear_value x | skip) | with_reducible apply Upd.ite | with_reducible apply Upd.lit | exact rfl | exact SadUpd.refl _ _ | with_reducible apply SadUpd.ite | apply SadUpd.mk | exact fun _ => PeakUpd.refl _ _ | exact Or.inl (by decide) | exact Or.inr rfl

theorem acksAgain_upd {M0 : Nat} {s0 : State} {old : State} {s : State} (hU : Upd M0 s0 s) (hM : 16777216 ||| M0 = M0) : Upd M0 s0 (acksAgain old s) := by
  refine Upd.step hU ?_ hM
  clear hU hM
  unfold acksAgain
  have h0 := Upd.refl 16777216 s
  repeat' first | with_reducible assumption | (guard_target =~ (_ ||| _ : Nat) = _; decide) | with_reducible apply h90 | with_reducible apply h91 | with_reducible apply h92 | with_reducible apply h93 | with_reducible apply h94 | (fail_if_no_progress extract_lets +onlyGivenNames x; first | (have hx : Upd 16777216 s x := (by unfold x; repeat' first | with_reducible assumption | (guard_target =~ (_ ||| _ : Nat) = _; decide) | with_reducible apply h90 | with_reducible apply h91 | with_reducible apply h92 | with_reducible apply h93 | with_reducible apply h94 | with_reducible apply Upd.ite | with_reducible apply Upd.lit | exact rfl | exact SadUpd.refl _ _ | with_reducible apply SadUpd.ite | apply SadUpd.mk | exact fun _ => PeakUpd.refl _ _ | exact Or.inl (by decide) | exact Or.inr rfl); try clear_value x) | (have h9 : (x : Peak) = x := rfl; clear h9) | (have h9 : (x : Saddle) = x := rfl; clear h9) | (have h9 : (x : Pair) = x := rfl; clear h9) | (have h9 : (x : Leg) = x := rfl; clear h9) | (have h90 : ∀  t, Upd 16777216 s t → Upd 16777216 s (x  t) := (by intro  t ht; unfold x; repeat' first | with_reducible assumption | (guard_target =~ (_ ||| _ : Nat) = _; decide) | with_reducible apply h90 | with_reducible apply h91 | with_reducible apply h92 | with_reducible apply h93 | with_reducible apply h94 | with_reducible apply Upd.ite | with_reducible apply Upd.lit | exact rfl | exact SadUpd.refl _ _ | with_reducible apply SadUpd.ite | apply SadUpd.mk | exact fun _ => PeakUpd.refl _ _ | exact Or.inl (by decide) | exact Or.inr rfl); try clear_value x) | (have h91 : ∀ a0 t, Upd 16777216 s t → Upd 16777216 s (x a0 t) := (by intro a0 t ht; unfold x; repeat' first | with_reducible assumption | (guard_target =~ (_ ||| _ : Nat) = _; decide) | with_reducible apply h90 | with_reducible apply h91 | with_reducible apply h92 | with_reducible apply h93 | with_reducible apply h94 | with_reducible apply Upd.ite | with_reducible apply Upd.lit | exact rfl | exact SadUpd.refl _ _ | with_reducible apply SadUpd.ite | apply SadUpd.mk | exact fun _ => PeakUpd.refl _ _ | exact Or.inl (by decide) | exact Or.inr rfl); try clear_value x) | (have h92 : ∀ a0 a1 t, Upd 16777216 s t → Upd 16777216 s (x a0 a1 t) := (by intro a0 a1 t ht; unfold x; repeat' first | with_reducible assumption | (guard_target =~ (_ ||| _ : Nat) = _; decide) | with_reducible apply h90 | with_reducible apply h91 | with_reducible apply h92 | with_reducible apply h93 | with_reducible apply h94 | with_reducible apply Upd.ite | with_reducible apply Upd.lit | exact rfl | exact SadUpd.refl _ _ | with_reducible apply SadUpd.ite | apply SadUpd.mk | exact fun _ => PeakUpd.refl _ _ | exact Or.inl (by decide) | exact Or.inr rfl); try clear_value x) | (have h93 : ∀ a0 a1 a2 t, Upd 16777216 s t → Upd 16777216 s (x a0 a1 a2 t) := (by intro a0 a1 a2 t ht; unfold x; repeat' first | with_reducible assumption | (guard_target =~ (_ ||| _ : Nat) = _; decide) | with_reducible apply h90 | with_reducible apply h91 | with_reducible apply h92 | with_reducible apply h93 | with_reducible apply h94 | with_reducible apply Upd.ite | with_reducible apply Upd.lit | exact rfl | exact SadUpd.refl _ _ | with_reducible apply SadUpd.ite | apply SadUpd.mk | exact fun _ => PeakUpd.refl _ _ | exact Or.inl (by decide) | exact Or.inr rfl); try clear_value x) | (have h94 : ∀ a0 a1 a2 a3 t, Upd 16777216 s t → Upd 16777216 s (x a0 a1 a2 a3 t) := (by intro a0 a1 a2 a3 t ht; unfold x; repeat' first | with_reducible assumption | (guard_target =~ (_ ||| _ : Nat) = _; decide) | with_reducible apply h90 | with_reducible apply h91 | with_reducible apply h92 | with_reducible apply h93 | with_reducible apply h94 | with_reducible apply Upd.ite | with_reducible apply Upd.lit | exact rfl | exact SadUpd.refl _ _ | with_reducible apply SadUpd.ite | apply SadUpd.mk | exact fun _ => PeakUpd.refl _ _ | exact Or.inl (by decide) | exact Or.inr rfl); try clear_value x) | clear_value x | skip) | with_reducible apply Upd.ite | with_reducible apply Upd.lit | exact rfl | exact SadUpd.refl _ _ | with_reducible apply SadUpd.ite | apply SadUpd.mk | exact fun _ => PeakUpd.refl _ _ | exact Or.inl (by decide) | exact Or.inr rfl

theorem rejoin_upd {M0 : Nat} {s0 : State} {p : PeakId} {s : State} (hU : Upd M0 s0 s) (hM : 4503597567967759 ||| M0 = M0) : Upd M0 s0 (rejoin p s) := by
  refine Upd.step hU ?_ hM
  clear hU hM
  unfold rejoin
  have h0 := Upd.refl 4503597567967759 s
  repeat' first | with_reducible assumption | (guard_target =~ (_ ||| _ : Nat) = _; decide) | with_reducible apply Upd.ite | with_reducible apply peakRelease_upd | with_reducible apply Upd.lit | exact rfl | exact SadUpd.refl _ _ | with_reducible apply SadUpd.ite | apply SadUpd.mk | exact fun _ => PeakUpd.refl _ _ | exact Or.inl (by decide) | exact Or.inr rfl

theorem cmdCopy_upd {M0 : Nat} {s0 : State} {op : Nat} {why : CopyFor} {s : State} (hU : Upd M0 s0 s) (hM : 16777217 ||| M0 = M0) : Upd M0 s0 (cmdCopy op why s) := by
  refine Upd.step hU ?_ hM
  clear hU hM
  unfold cmdCopy
  have h0 := Upd.refl 16777217 s
  repeat' first | with_reducible assumption | (guard_target =~ (_ ||| _ : Nat) = _; decide) | (fail_if_no_progress extract_lets +onlyGivenNames x; first | (have hx : Upd 16777217 s x := (by unfold x; repeat' first | with_reducible assumption | (guard_target =~ (_ ||| _ : Nat) = _; decide) | with_reducible apply Upd.ite | with_reducible apply gdmResult_upd | with_reducible apply State.setFld_upd | split | with_reducible apply Upd.lit | exact rfl | exact SadUpd.refl _ _ | with_reducible apply SadUpd.ite | apply SadUpd.mk | exact fun _ => PeakUpd.refl _ _ | exact Or.inl (by decide) | exact Or.inr rfl); try clear_value x) | (have h9 : (x : Peak) = x := rfl; clear h9) | (have h9 : (x : Saddle) = x := rfl; clear h9) | (have h9 : (x : Pair) = x := rfl; clear h9) | (have h9 : (x : Leg) = x := rfl; clear h9) | clear_value x | skip) | with_reducible apply Upd.ite | with_reducible apply gdmResult_upd | with_reducible apply State.setFld_upd | split | with_reducible apply Upd.lit | exact rfl | exact SadUpd.refl _ _ | with_reducible apply SadUpd.ite | apply SadUpd.mk | exact fun _ => PeakUpd.refl _ _ | exact Or.inl (by decide) | exact Or.inr rfl

theorem cmdFail_upd {M0 : Nat} {s0 : State} {p : PeakId} {s : State} (hU : Upd M0 s0 s) (hM : 16777217 ||| M0 = M0) : Upd M0 s0 (cmdFail p s) := by
  refine Upd.step hU ?_ hM
  clear hU hM
  unfold cmdFail
  have h0 := Upd.refl 16777217 s
  repeat' first | with_reducible assumption | (guard_target =~ (_ ||| _ : Nat) = _; decide) | with_reducible apply Upd.ite | with_reducible apply gdmResult_upd | with_reducible apply Upd.lit | exact rfl | exact SadUpd.refl _ _ | with_reducible apply SadUpd.ite | apply SadUpd.mk | exact fun _ => PeakUpd.refl _ _ | exact Or.inl (by decide) | exact Or.inr rfl

theorem cmdRejoin_upd {M0 : Nat} {s0 : State} {p : PeakId} {s : State} (hU : Upd M0 s0 s) (hM : 4503597567967759 ||| M0 = M0) : Upd M0 s0 (cmdRejoin p s) := by
  refine Upd.step hU ?_ hM
  clear hU hM
  unfold cmdRejoin
  have h0 := Upd.refl 4503597567967759 s
  repeat' first | with_reducible assumption | (guard_target =~ (_ ||| _ : Nat) = _; decide) | with_reducible apply Upd.ite | with_reducible apply gdmResult_upd | with_reducible apply rejoin_upd | with_reducible apply lockClear_upd

theorem cmdRestart_upd {M0 : Nat} {s0 : State} {s : State} (hU : Upd M0 s0 s) (hM : 4503598675735119 ||| M0 = M0) : Upd M0 s0 (cmdRestart s) := by
  refine Upd.step hU ?_ hM
  clear hU hM
  unfold cmdRestart
  have h0 := Upd.refl 4503598675735119 s
  repeat' first | with_reducible assumption | (guard_target =~ (_ ||| _ : Nat) = _; decide) | with_reducible apply Upd.ite | with_reducible apply gdmResult_upd | with_reducible apply safeLeave_upd

theorem gdmDo_upd {M0 : Nat} {s0 : State} {c : GdmAsk} {s : State} (hU : Upd M0 s0 s) (hM : 4503598677835343 ||| M0 = M0) : Upd M0 s0 (gdmDo c s) := by
  refine Upd.step hU ?_ hM
  clear hU hM
  unfold gdmDo
  have h0 := Upd.refl 4503598677835343 s
  repeat' first | with_reducible assumption | (guard_target =~ (_ ||| _ : Nat) = _; decide) | with_reducible apply Upd.ite | with_reducible apply gdmResult_upd | with_reducible apply cmdCopy_upd | with_reducible apply cmdFail_upd | with_reducible apply cmdRejoin_upd | with_reducible apply cmdRestart_upd | with_reducible apply safeEnter_upd | split

theorem windowClose_upd {M0 : Nat} {s0 : State} {s : State} (hU : Upd M0 s0 s) (hM : 4503598677835343 ||| M0 = M0) : Upd M0 s0 (windowClose s) := by
  refine Upd.step hU ?_ hM
  clear hU hM
  unfold windowClose
  have h0 := Upd.refl 4503598677835343 s
  repeat' first | with_reducible assumption | (guard_target =~ (_ ||| _ : Nat) = _; decide) | (fail_if_no_progress extract_lets +onlyGivenNames x; first | (have hx : Upd 4503598677835343 s x := (by unfold x; repeat' first | with_reducible assumption | (guard_target =~ (_ ||| _ : Nat) = _; decide) | with_reducible apply Upd.ite | with_reducible apply verdictNote_upd | with_reducible apply holdRestart_upd | with_reducible apply decideRoles_upd | with_reducible apply holdKeep_upd | with_reducible apply stateCompare_upd | with_reducible apply acksSend_upd | with_reducible refine Upd.forAll ?_ (fun _ _ _ => ?_) | with_reducible apply gdmDo_upd | split | with_reducible apply Upd.lit | exact rfl | exact SadUpd.refl _ _ | with_reducible apply SadUpd.ite | apply SadUpd.mk | exact fun _ => PeakUpd.refl _ _ | exact Or.inl (by decide) | exact Or.inr rfl); try clear_value x) | (have h9 : (x : Peak) = x := rfl; clear h9) | (have h9 : (x : Saddle) = x := rfl; clear h9) | (have h9 : (x : Pair) = x := rfl; clear h9) | (have h9 : (x : Leg) = x := rfl; clear h9) | clear_value x | skip) | with_reducible apply Upd.ite | with_reducible apply verdictNote_upd | with_reducible apply holdRestart_upd | with_reducible apply decideRoles_upd | with_reducible apply holdKeep_upd | with_reducible apply stateCompare_upd | with_reducible apply acksSend_upd | with_reducible refine Upd.forAll ?_ (fun _ _ _ => ?_) | with_reducible apply gdmDo_upd | split | with_reducible apply Upd.lit | exact rfl | exact SadUpd.refl _ _ | with_reducible apply SadUpd.ite | apply SadUpd.mk | exact fun _ => PeakUpd.refl _ _ | exact Or.inl (by decide) | exact Or.inr rfl

theorem execHeartbeatWindowClose_upd (s : State) {t : State} (hX : execHeartbeatWindowClose s = .next t) : Upd 4503598677835343 s t := by
  unfold execHeartbeatWindowClose at hX
  cases hX
  have h0 := Upd.refl 4503598677835343 s
  repeat' first | with_reducible assumption | (guard_target =~ (_ ||| _ : Nat) = _; decide) | with_reducible apply windowClose_upd

theorem execLolGraceExpiry_upd (s : State) {t : State} (hX : execLolGraceExpiry s = .next t) : Upd 4503597604093455 s t := by
  unfold execLolGraceExpiry at hX
  cases hX
  have h0 := Upd.refl 4503597604093455 s
  repeat' first | with_reducible assumption | (guard_target =~ (_ ||| _ : Nat) = _; decide) | with_reducible apply Upd.ite | with_reducible apply safeEnter_upd | split

theorem execAckReceive_upd (p : PeakId) (s : State) {t : State} (hX : execAckReceive p s = .next t) : Upd 68736253953 s t := by
  unfold execAckReceive at hX
  cases hX
  have h0 := Upd.refl 68736253953 s
  repeat' first | with_reducible assumption | (guard_target =~ (_ ||| _ : Nat) = _; decide) | (fail_if_no_progress extract_lets +onlyGivenNames x; first | (have hx : Upd 68736253953 s x := (by unfold x; repeat' first | with_reducible assumption | (guard_target =~ (_ ||| _ : Nat) = _; decide) | with_reducible apply Upd.ite | with_reducible apply State.setReg_upd | with_reducible refine Upd.setPeak ?_ ?_ | split | with_reducible apply Upd.lit | exact rfl | exact SadUpd.refl _ _ | with_reducible apply SadUpd.ite | apply SadUpd.mk | exact fun _ => PeakUpd.refl _ _ | exact PeakUpd.refl _ _ | with_reducible apply PeakUpd.ite | with_reducible apply PeakUpd.lit | exact Or.inl (by decide) | exact Or.inr rfl); try clear_value x) | (have hx : Upd 68736253953 s x.2 := (by unfold x; repeat' first | with_reducible assumption | (guard_target =~ (_ ||| _ : Nat) = _; decide) | with_reducible apply Upd.ite | with_reducible apply State.setReg_upd | with_reducible refine Upd.setPeak ?_ ?_ | split | with_reducible apply Upd.lit | exact rfl | exact SadUpd.refl _ _ | with_reducible apply SadUpd.ite | apply SadUpd.mk | exact fun _ => PeakUpd.refl _ _ | exact PeakUpd.refl _ _ | with_reducible apply PeakUpd.ite | with_reducible apply PeakUpd.lit | exact Or.inl (by decide) | exact Or.inr rfl); try clear_value x) | (have h9 : (x : Peak) = x := rfl; clear h9) | (have h9 : (x : Saddle) = x := rfl; clear h9) | (have h9 : (x : Pair) = x := rfl; clear h9) | (have h9 : (x : Leg) = x := rfl; clear h9) | clear_value x | skip) | with_reducible apply Upd.ite | with_reducible apply State.setReg_upd | with_reducible refine Upd.setPeak ?_ ?_ | split | with_reducible apply Upd.lit | exact rfl | exact SadUpd.refl _ _ | with_reducible apply SadUpd.ite | apply SadUpd.mk | exact fun _ => PeakUpd.refl _ _ | exact PeakUpd.refl _ _ | with_reducible apply PeakUpd.ite | with_reducible apply PeakUpd.lit | exact Or.inl (by decide) | exact Or.inr rfl

theorem execGendarmeSilent_upd (p : PeakId) (s : State) {t : State} (hX : execGendarmeSilent p s = .next t) : Upd 248523987615757 s t := by
  unfold execGendarmeSilent at hX
  cases hX
  have h0 := Upd.refl 248523987615757 s
  repeat' first | with_reducible assumption | (guard_target =~ (_ ||| _ : Nat) = _; decide) | with_reducible apply Upd.ite | with_reducible apply fire_upd | with_reducible apply State.setFld_upd

theorem execCopyComplete_upd (s : State) {t : State} (hX : execCopyComplete s = .next t) : Upd 16777217 s t := by
  unfold execCopyComplete at hX
  cases hX
  have h0 := Upd.refl 16777217 s
  repeat' first | with_reducible assumption | (guard_target =~ (_ ||| _ : Nat) = _; decide) | with_reducible apply Upd.ite | with_reducible apply acksAgain_upd | with_reducible apply copyFields_upd | split | with_reducible apply Upd.lit | exact rfl | exact SadUpd.refl _ _ | with_reducible apply SadUpd.ite | apply SadUpd.mk | exact fun _ => PeakUpd.refl _ _ | exact Or.inl (by decide) | exact Or.inr rfl

theorem copyRetry_upd {M0 : Nat} {s0 : State} {result : Nat} {s : State} (hU : Upd M0 s0 s) (hM : 4503597567967759 ||| M0 = M0) : Upd M0 s0 (copyRetry result s) := by
  refine Upd.step hU ?_ hM
  clear hU hM
  unfold copyRetry
  have h0 := Upd.refl 4503597567967759 s
  repeat' first | with_reducible assumption | (guard_target =~ (_ ||| _ : Nat) = _; decide) | (fail_if_no_progress extract_lets +onlyGivenNames x; first | (have hx : Upd 4503597567967759 s x := (by unfold x; repeat' first | with_reducible assumption | (guard_target =~ (_ ||| _ : Nat) = _; decide) | with_reducible apply Upd.ite | with_reducible apply copyFields_upd | with_reducible apply copyDrop_upd | with_reducible apply failPeak_upd | with_reducible apply holdRestart_upd | with_reducible apply State.setFld_upd | with_reducible apply State.raise_upd | split | with_reducible apply Upd.lit | exact rfl | exact SadUpd.refl _ _ | with_reducible apply SadUpd.ite | apply SadUpd.mk | exact fun _ => PeakUpd.refl _ _ | exact Or.inl (by decide) | exact Or.inr rfl); try clear_value x) | (have h9 : (x : Peak) = x := rfl; clear h9) | (have h9 : (x : Saddle) = x := rfl; clear h9) | (have h9 : (x : Pair) = x := rfl; clear h9) | (have h9 : (x : Leg) = x := rfl; clear h9) | clear_value x | skip) | with_reducible apply Upd.ite | with_reducible apply copyFields_upd | with_reducible apply copyDrop_upd | with_reducible apply failPeak_upd | with_reducible apply holdRestart_upd | with_reducible apply State.setFld_upd | with_reducible apply State.raise_upd | split | with_reducible apply Upd.lit | exact rfl | exact SadUpd.refl _ _ | with_reducible apply SadUpd.ite | apply SadUpd.mk | exact fun _ => PeakUpd.refl _ _ | exact Or.inl (by decide) | exact Or.inr rfl

theorem execCopyOverflow_upd (s : State) {t : State} (hX : execCopyOverflow s = .next t) : Upd 4503597567967759 s t := by
  unfold execCopyOverflow at hX
  cases hX
  have h0 := Upd.refl 4503597567967759 s
  repeat' first | with_reducible assumption | (guard_target =~ (_ ||| _ : Nat) = _; decide) | with_reducible apply copyRetry_upd

theorem execCopyTimeout_upd (s : State) {t : State} (hX : execCopyTimeout s = .next t) : Upd 4503597567967759 s t := by
  unfold execCopyTimeout at hX
  cases hX
  have h0 := Upd.refl 4503597567967759 s
  repeat' first | with_reducible assumption | (guard_target =~ (_ ||| _ : Nat) = _; decide) | with_reducible apply Upd.ite | with_reducible apply copyRetry_upd | split

theorem execReturnHoldExpiry_upd (s : State) {t : State} (hX : execReturnHoldExpiry s = .next t) : Upd 16777217 s t := by
  unfold execReturnHoldExpiry at hX
  cases hX
  have h0 := Upd.refl 16777217 s
  repeat' first | with_reducible assumption | (guard_target =~ (_ ||| _ : Nat) = _; decide) | (fail_if_no_progress extract_lets +onlyGivenNames x; first | (have hx : Upd 16777217 s x := (by unfold x; repeat' first | with_reducible assumption | (guard_target =~ (_ ||| _ : Nat) = _; decide) | with_reducible apply Upd.ite | with_reducible apply State.setFld_upd | split | with_reducible apply Upd.lit | exact rfl | exact SadUpd.refl _ _ | with_reducible apply SadUpd.ite | apply SadUpd.mk | exact fun _ => PeakUpd.refl _ _ | exact Or.inl (by decide) | exact Or.inr rfl); try clear_value x) | (have h9 : (x : Peak) = x := rfl; clear h9) | (have h9 : (x : Saddle) = x := rfl; clear h9) | (have h9 : (x : Pair) = x := rfl; clear h9) | (have h9 : (x : Leg) = x := rfl; clear h9) | clear_value x | skip) | with_reducible apply Upd.ite | with_reducible apply State.setFld_upd | split | with_reducible apply Upd.lit | exact rfl | exact SadUpd.refl _ _ | with_reducible apply SadUpd.ite | apply SadUpd.mk | exact fun _ => PeakUpd.refl _ _ | exact Or.inl (by decide) | exact Or.inr rfl

theorem startWaited_upd {M0 : Nat} {s0 : State} {p : PeakId} {s : State} (hU : Upd M0 s0 s) (hM : 16777216 ||| M0 = M0) : Upd M0 s0 (startWaited p s) := by
  refine Upd.step hU ?_ hM
  clear hU hM
  unfold startWaited
  have h0 := Upd.refl 16777216 s
  repeat' first | with_reducible assumption | (guard_target =~ (_ ||| _ : Nat) = _; decide) | with_reducible apply Upd.lit | exact rfl | exact SadUpd.refl _ _ | with_reducible apply SadUpd.ite | apply SadUpd.mk | exact fun _ => PeakUpd.refl _ _ | exact Or.inl (by decide) | exact Or.inr rfl

theorem readyCheck_upd {M0 : Nat} {s0 : State} {p : PeakId} {s : State} (hU : Upd M0 s0 s) (hM : 4503597567967759 ||| M0 = M0) : Upd M0 s0 (readyCheck p s) := by
  refine Upd.step hU ?_ hM
  clear hU hM
  unfold readyCheck
  have h0 := Upd.refl 4503597567967759 s
  repeat' first | with_reducible assumption | (guard_target =~ (_ ||| _ : Nat) = _; decide) | with_reducible apply Upd.ite | with_reducible apply failPeak_upd

theorem execStartWaitExpiry_upd (p : PeakId) (s : State) {t : State} (hX : execStartWaitExpiry p s = .next t) : Upd 4503597567967759 s t := by
  unfold execStartWaitExpiry at hX
  cases hX
  have h0 := Upd.refl 4503597567967759 s
  repeat' first | with_reducible assumption | (guard_target =~ (_ ||| _ : Nat) = _; decide) | with_reducible apply Upd.ite | with_reducible apply acksAgain_upd | with_reducible apply readyCheck_upd | with_reducible apply startWaited_upd

theorem execAutoRejoinRelease_upd (p : PeakId) (s : State) {t : State} (hX : execAutoRejoinRelease p s = .next t) : Upd 4503597567967759 s t := by
  unfold execAutoRejoinRelease at hX
  cases hX
  have h0 := Upd.refl 4503597567967759 s
  repeat' first | with_reducible assumption | (guard_target =~ (_ ||| _ : Nat) = _; decide) | with_reducible apply Upd.ite | with_reducible apply rejoin_upd

theorem joinFailed_upd {M0 : Nat} {s0 : State} {p : PeakId} {s : State} (hU : Upd M0 s0 s) (hM : 4503597567967759 ||| M0 = M0) : Upd M0 s0 (joinFailed p s) := by
  refine Upd.step hU ?_ hM
  clear hU hM
  unfold joinFailed
  have h0 := Upd.refl 4503597567967759 s
  repeat' first | with_reducible assumption | (guard_target =~ (_ ||| _ : Nat) = _; decide) | with_reducible apply peakReset_upd | with_reducible apply failRun_upd

theorem execJoinImageWaitExpiry_upd (p : PeakId) (s : State) {t : State} (hX : execJoinImageWaitExpiry p s = .next t) : Upd 4503597567967759 s t := by
  unfold execJoinImageWaitExpiry at hX
  cases hX
  have h0 := Upd.refl 4503597567967759 s
  repeat' first | with_reducible assumption | (guard_target =~ (_ ||| _ : Nat) = _; decide) | with_reducible apply Upd.ite | with_reducible apply joinFailed_upd

theorem gdmAsked_upd {M0 : Nat} {s0 : State} {key : BitVec 16} {op : Nat} {p : PeakId} {s : State} (hU : Upd M0 s0 s) (hM : 4503598677835343 ||| M0 = M0) : Upd M0 s0 (gdmAsked key op p s) := by
  refine Upd.step hU ?_ hM
  clear hU hM
  unfold gdmAsked
  have h0 := Upd.refl 4503598677835343 s
  repeat' first | with_reducible assumption | (guard_target =~ (_ ||| _ : Nat) = _; decide) | with_reducible apply Upd.ite | with_reducible apply gdmDo_upd | with_reducible apply Upd.lit | exact rfl | exact SadUpd.refl _ _ | with_reducible apply SadUpd.ite | apply SadUpd.mk | exact fun _ => PeakUpd.refl _ _ | exact Or.inl (by decide) | exact Or.inr rfl

theorem gdmCmdWrite_upd {M0 : Nat} {s0 : State} {v : Nat} {s : State} (hU : Upd M0 s0 s) (hM : 4503598677835343 ||| M0 = M0) : Upd M0 s0 (gdmCmdWrite v s) := by
  refine Upd.step hU ?_ hM
  clear hU hM
  unfold gdmCmdWrite
  have h0 := Upd.refl 4503598677835343 s
  repeat' first | with_reducible assumption | (guard_target =~ (_ ||| _ : Nat) = _; decide) | with_reducible apply gdmAsked_upd

theorem execGdmSwap_upd (key : BitVec 16) (s : State) {t : State} (hX : execGdmSwap key s = .next t) : Upd 4503598677835343 s t := by
  unfold execGdmSwap at hX
  cases hX
  have h0 := Upd.refl 4503598677835343 s
  repeat' first | with_reducible assumption | (guard_target =~ (_ ||| _ : Nat) = _; decide) | with_reducible apply gdmAsked_upd

theorem execGdmFail_upd (key : BitVec 16) (p : PeakId) (s : State) {t : State} (hX : execGdmFail key p s = .next t) : Upd 4503598677835343 s t := by
  unfold execGdmFail at hX
  cases hX
  have h0 := Upd.refl 4503598677835343 s
  repeat' first | with_reducible assumption | (guard_target =~ (_ ||| _ : Nat) = _; decide) | with_reducible apply gdmAsked_upd

theorem execGdmRejoin_upd (key : BitVec 16) (p : PeakId) (s : State) {t : State} (hX : execGdmRejoin key p s = .next t) : Upd 4503598677835343 s t := by
  unfold execGdmRejoin at hX
  cases hX
  have h0 := Upd.refl 4503598677835343 s
  repeat' first | with_reducible assumption | (guard_target =~ (_ ||| _ : Nat) = _; decide) | with_reducible apply gdmAsked_upd

theorem execGdmRestart_upd (key : BitVec 16) (s : State) {t : State} (hX : execGdmRestart key s = .next t) : Upd 4503598677835343 s t := by
  unfold execGdmRestart at hX
  cases hX
  have h0 := Upd.refl 4503598677835343 s
  repeat' first | with_reducible assumption | (guard_target =~ (_ ||| _ : Nat) = _; decide) | with_reducible apply gdmAsked_upd

theorem execGdmSafe_upd (key : BitVec 16) (s : State) {t : State} (hX : execGdmSafe key s = .next t) : Upd 4503598677835343 s t := by
  unfold execGdmSafe at hX
  cases hX
  have h0 := Upd.refl 4503598677835343 s
  repeat' first | with_reducible assumption | (guard_target =~ (_ ||| _ : Nat) = _; decide) | with_reducible apply gdmAsked_upd

theorem execGdmResync_upd (key : BitVec 16) (s : State) {t : State} (hX : execGdmResync key s = .next t) : Upd 4503598677835343 s t := by
  unfold execGdmResync at hX
  cases hX
  have h0 := Upd.refl 4503598677835343 s
  repeat' first | with_reducible assumption | (guard_target =~ (_ ||| _ : Nat) = _; decide) | with_reducible apply gdmAsked_upd

theorem execSaddleStopDetect_upd (s : State) {t : State} (hX : execSaddleStopDetect s = .next t) : Upd 4503597604126223 s t := by
  unfold execSaddleStopDetect at hX
  cases hX
  have h0 := Upd.refl 4503597604126223 s
  repeat' first | with_reducible assumption | (guard_target =~ (_ ||| _ : Nat) = _; decide) | (fail_if_no_progress extract_lets +onlyGivenNames x; first | (have hx : Upd 4503597604126223 s x := (by unfold x; repeat' first | with_reducible assumption | (guard_target =~ (_ ||| _ : Nat) = _; decide) | with_reducible apply Upd.ite | with_reducible apply safeEnter_upd | with_reducible apply State.setFld_upd | with_reducible apply Upd.lit | exact rfl | exact SadUpd.refl _ _ | with_reducible apply SadUpd.ite | apply SadUpd.mk | exact fun _ => PeakUpd.refl _ _ | exact Or.inl (by decide) | exact Or.inr rfl); try clear_value x) | (have h9 : (x : Peak) = x := rfl; clear h9) | (have h9 : (x : Saddle) = x := rfl; clear h9) | (have h9 : (x : Pair) = x := rfl; clear h9) | (have h9 : (x : Leg) = x := rfl; clear h9) | clear_value x | skip) | with_reducible apply Upd.ite | with_reducible apply safeEnter_upd | with_reducible apply State.setFld_upd | with_reducible apply Upd.lit | exact rfl | exact SadUpd.refl _ _ | with_reducible apply SadUpd.ite | apply SadUpd.mk | exact fun _ => PeakUpd.refl _ _ | exact Or.inl (by decide) | exact Or.inr rfl

theorem kernelFault_upd {M0 : Nat} {s0 : State} {s : State} (hU : Upd M0 s0 s) (hM : 4503597604093455 ||| M0 = M0) : Upd M0 s0 (kernelFault s) := by
  refine Upd.step hU ?_ hM
  clear hU hM
  unfold kernelFault
  have h0 := Upd.refl 4503597604093455 s
  repeat' first | with_reducible assumption | (guard_target =~ (_ ||| _ : Nat) = _; decide) | (fail_if_no_progress extract_lets +onlyGivenNames x; first | (have hx : Upd 4503597604093455 s x := (by unfold x; repeat' first | with_reducible assumption | (guard_target =~ (_ ||| _ : Nat) = _; decide) | with_reducible apply Upd.ite | with_reducible apply State.setFld_upd | with_reducible apply State.bump_upd | with_reducible apply safeEnter_upd | with_reducible apply safChanged_upd | with_reducible apply fireBoth_upd | with_reducible apply State.raise_upd); try clear_value x) | (have h9 : (x : Peak) = x := rfl; clear h9) | (have h9 : (x : Saddle) = x := rfl; clear h9) | (have h9 : (x : Pair) = x := rfl; clear h9) | (have h9 : (x : Leg) = x := rfl; clear h9) | clear_value x | skip) | with_reducible apply Upd.ite | with_reducible apply State.setFld_upd | with_reducible apply State.bump_upd | with_reducible apply safeEnter_upd | with_reducible apply safChanged_upd | with_reducible apply fireBoth_upd | with_reducible apply State.raise_upd

theorem execKernelFault_upd (s : State) {t : State} (hX : execKernelFault s = .next t) : Upd 4503597604093455 s t := by
  unfold execKernelFault at hX
  cases hX
  have h0 := Upd.refl 4503597604093455 s
  repeat' first | with_reducible assumption | (guard_target =~ (_ ||| _ : Nat) = _; decide) | with_reducible refine whenKernel_upd ?_ (fun _ _ => ?_) ?_ | with_reducible apply kernelFault_upd

theorem execImageCrcCheck_upd (ok : Bool) (s : State) {t : State} (hX : execImageCrcCheck ok s = .next t) : Upd 4503597604093455 s t := by
  unfold execImageCrcCheck at hX
  cases hX
  have h0 := Upd.refl 4503597604093455 s
  repeat' first | with_reducible assumption | (guard_target =~ (_ ||| _ : Nat) = _; decide) | with_reducible apply Upd.ite | with_reducible refine whenKernel_upd ?_ (fun _ _ => ?_) ?_ | with_reducible apply kernelFault_upd

end Sys2Proof.Machine
end

