-- ==== Sys2Proof/Laws/UpdPower.lean ====
section
/-! SUPPORT. What each operation of Machine/Power.lean may change. -/

set_option linter.unusedTactic false
set_option linter.unreachableTactic false

namespace Sys2Proof.Machine

theorem pllLoss_upd {M0 : Nat} {s0 : State} {i : Nat} {s : State} (hU : Upd M0 s0 s) (hM : 67108865 ||| M0 = M0) : Upd M0 s0 (pllLoss i s) := by
  refine Upd.step hU ?_ hM
  clear hU hM
  unfold pllLoss
  have h0 := Upd.refl 67108865 s
  repeat' first | with_reducible assumption | (guard_target =~ (_ ||| _ : Nat) = _; decide) | (fail_if_no_progress extract_lets +onlyGivenNames x; first | (have hx : Upd 67108865 s x := (by unfold x; repeat' first | with_reducible assumption | (guard_target =~ (_ ||| _ : Nat) = _; decide) | with_reducible apply Upd.ite | with_reducible apply State.setPll_upd | with_reducible apply State.raise_upd | with_reducible apply State.setBoth_upd | with_reducible apply clkRefresh_upd | with_reducible apply State.bump_upd); try clear_value x) | (have h9 : (x : Peak) = x := rfl; clear h9) | (have h9 : (x : Saddle) = x := rfl; clear h9) | (have h9 : (x : Pair) = x := rfl; clear h9) | (have h9 : (x : Leg) = x := rfl; clear h9) | clear_value x | skip) | with_reducible apply Upd.ite | with_reducible apply State.setPll_upd | with_reducible apply State.raise_upd | with_reducible apply State.setBoth_upd | with_reducible apply clkRefresh_upd | with_reducible apply State.bump_upd

theorem execPllLossOfLock_upd (pll : PllId) (s : State) {t : State} (hX : execPllLossOfLock pll s = .next t) : Upd 67108865 s t := by
  unfold execPllLossOfLock at hX
  cases hX
  have h0 := Upd.refl 67108865 s
  repeat' first | with_reducible assumption | (guard_target =~ (_ ||| _ : Nat) = _; decide) | with_reducible apply pllLoss_upd

theorem leaseDrop_upd {M0 : Nat} {s0 : State} {s : State} (hU : Upd M0 s0 s) (hM : 128 ||| M0 = M0) : Upd M0 s0 (leaseDrop s) := by
  refine Upd.step hU ?_ hM
  clear hU hM
  unfold leaseDrop
  have h0 := Upd.refl 128 s
  repeat' first | with_reducible assumption | (guard_target =~ (_ ||| _ : Nat) = _; decide) | with_reducible apply Upd.lit | exact rfl | exact SadUpd.refl _ _ | with_reducible apply SadUpd.ite | apply SadUpd.mk | exact fun _ => PeakUpd.refl _ _ | exact Or.inl (by decide) | exact Or.inr rfl

theorem netCoast_upd {M0 : Nat} {s0 : State} {s : State} (hU : Upd M0 s0 s) (hM : 67108864 ||| M0 = M0) : Upd M0 s0 (netCoast s) := by
  refine Upd.step hU ?_ hM
  clear hU hM
  unfold netCoast
  have h0 := Upd.refl 67108864 s
  repeat' first | with_reducible assumption | (guard_target =~ (_ ||| _ : Nat) = _; decide) | (fail_if_no_progress extract_lets +onlyGivenNames x; first | (have hx : Upd 67108864 s x := (by unfold x; repeat' first | with_reducible assumption | (guard_target =~ (_ ||| _ : Nat) = _; decide) | with_reducible apply State.setPll_upd | with_reducible apply Upd.lit | exact rfl | exact SadUpd.refl _ _ | with_reducible apply SadUpd.ite | apply SadUpd.mk | exact fun _ => PeakUpd.refl _ _ | exact Or.inl (by decide) | exact Or.inr rfl); try clear_value x) | (have h9 : (x : Peak) = x := rfl; clear h9) | (have h9 : (x : Saddle) = x := rfl; clear h9) | (have h9 : (x : Pair) = x := rfl; clear h9) | (have h9 : (x : Leg) = x := rfl; clear h9) | clear_value x | skip) | with_reducible apply State.setPll_upd | with_reducible apply Upd.lit | exact rfl | exact SadUpd.refl _ _ | with_reducible apply SadUpd.ite | apply SadUpd.mk | exact fun _ => PeakUpd.refl _ _ | exact Or.inl (by decide) | exact Or.inr rfl

theorem refLossBivouac_upd {M0 : Nat} {s0 : State} {s : State} (hU : Upd M0 s0 s) (hM : 248524054724749 ||| M0 = M0) : Upd M0 s0 (refLossBivouac s) := by
  refine Upd.step hU ?_ hM
  clear hU hM
  unfold refLossBivouac
  have h0 := Upd.refl 248524054724749 s
  repeat' first | with_reducible assumption | (guard_target =~ (_ ||| _ : Nat) = _; decide) | (fail_if_no_progress extract_lets +onlyGivenNames x; first | (have hx : Upd 248524054724749 s x := (by unfold x; repeat' first | with_reducible assumption | (guard_target =~ (_ ||| _ : Nat) = _; decide) | with_reducible apply Upd.ite | with_reducible apply netCoast_upd | with_reducible apply cairnValid_upd | with_reducible apply leaseDrop_upd); try clear_value x) | (have h9 : (x : Peak) = x := rfl; clear h9) | (have h9 : (x : Saddle) = x := rfl; clear h9) | (have h9 : (x : Pair) = x := rfl; clear h9) | (have h9 : (x : Leg) = x := rfl; clear h9) | clear_value x | skip) | with_reducible apply Upd.ite | with_reducible apply netCoast_upd | with_reducible apply cairnValid_upd | with_reducible apply leaseDrop_upd

theorem refLoss_upd {M0 : Nat} {s0 : State} {s : State} (hU : Upd M0 s0 s) (hM : 248524054724749 ||| M0 = M0) : Upd M0 s0 (refLoss s) := by
  refine Upd.step hU ?_ hM
  clear hU hM
  unfold refLoss
  have h0 := Upd.refl 248524054724749 s
  repeat' first | with_reducible assumption | (guard_target =~ (_ ||| _ : Nat) = _; decide) | (fail_if_no_progress extract_lets +onlyGivenNames x; first | (have hx : Upd 248524054724749 s x := (by unfold x; repeat' first | with_reducible assumption | (guard_target =~ (_ ||| _ : Nat) = _; decide) | with_reducible apply Upd.ite | with_reducible apply clkRefresh_upd | with_reducible apply refLossBivouac_upd | with_reducible apply State.setBoth_upd | with_reducible refine Upd.forAll ?_ (fun _ _ _ => ?_) | with_reducible apply State.setPll_upd); try clear_value x) | (have h9 : (x : Peak) = x := rfl; clear h9) | (have h9 : (x : Saddle) = x := rfl; clear h9) | (have h9 : (x : Pair) = x := rfl; clear h9) | (have h9 : (x : Leg) = x := rfl; clear h9) | clear_value x | skip) | with_reducible apply Upd.ite | with_reducible apply clkRefresh_upd | with_reducible apply refLossBivouac_upd | with_reducible apply State.setBoth_upd | with_reducible refine Upd.forAll ?_ (fun _ _ _ => ?_) | with_reducible apply State.setPll_upd

theorem execReferenceMissing_upd (s : State) {t : State} (hX : execReferenceMissing s = .next t) : Upd 248524054724749 s t := by
  unfold execReferenceMissing at hX
  cases hX
  have h0 := Upd.refl 248524054724749 s
  repeat' first | with_reducible assumption | (guard_target =~ (_ ||| _ : Nat) = _; decide) | with_reducible apply Upd.ite | with_reducible apply refLoss_upd | with_reducible apply Upd.lit | exact rfl | exact SadUpd.refl _ _ | with_reducible apply SadUpd.ite | apply SadUpd.mk | exact fun _ => PeakUpd.refl _ _ | exact Or.inl (by decide) | exact Or.inr rfl

theorem refReturn_upd {M0 : Nat} {s0 : State} {s : State} (hU : Upd M0 s0 s) (hM : 67108865 ||| M0 = M0) : Upd M0 s0 (refReturn s) := by
  refine Upd.step hU ?_ hM
  clear hU hM
  unfold refReturn
  have h0 := Upd.refl 67108865 s
  repeat' first | with_reducible assumption | (guard_target =~ (_ ||| _ : Nat) = _; decide) | (fail_if_no_progress extract_lets +onlyGivenNames x; first | (have hx : Upd 67108865 s x := (by unfold x; repeat' first | with_reducible assumption | (guard_target =~ (_ ||| _ : Nat) = _; decide) | with_reducible apply Upd.ite | with_reducible apply State.setPll_upd | with_reducible refine Upd.forAll ?_ (fun _ _ _ => ?_) | with_reducible apply clkRefresh_upd | with_reducible apply Upd.lit | exact rfl | exact SadUpd.refl _ _ | with_reducible apply SadUpd.ite | apply SadUpd.mk | exact fun _ => PeakUpd.refl _ _ | exact Or.inl (by decide) | exact Or.inr rfl); try clear_value x) | (have h9 : (x : Peak) = x := rfl; clear h9) | (have h9 : (x : Saddle) = x := rfl; clear h9) | (have h9 : (x : Pair) = x := rfl; clear h9) | (have h9 : (x : Leg) = x := rfl; clear h9) | clear_value x | skip) | with_reducible apply Upd.ite | with_reducible apply State.setPll_upd | with_reducible refine Upd.forAll ?_ (fun _ _ _ => ?_) | with_reducible apply clkRefresh_upd | with_reducible apply Upd.lit | exact rfl | exact SadUpd.refl _ _ | with_reducible apply SadUpd.ite | apply SadUpd.mk | exact fun _ => PeakUpd.refl _ _ | exact Or.inl (by decide) | exact Or.inr rfl

theorem pllRelock_upd {M0 : Nat} {s0 : State} {i : Nat} {s : State} (hU : Upd M0 s0 s) (hM : 67108865 ||| M0 = M0) : Upd M0 s0 (pllRelock i s) := by
  refine Upd.step hU ?_ hM
  clear hU hM
  unfold pllRelock
  have h0 := Upd.refl 67108865 s
  repeat' first | with_reducible assumption | (guard_target =~ (_ ||| _ : Nat) = _; decide) | (fail_if_no_progress extract_lets +onlyGivenNames x; first | (have hx : Upd 67108865 s x := (by unfold x; repeat' first | with_reducible assumption | (guard_target =~ (_ ||| _ : Nat) = _; decide) | with_reducible apply Upd.ite | with_reducible apply State.setPll_upd | with_reducible refine Upd.forAll ?_ (fun _ _ _ => ?_) | with_reducible apply clkRefresh_upd | with_reducible apply State.setBoth_upd); try clear_value x) | (have h9 : (x : Peak) = x := rfl; clear h9) | (have h9 : (x : Saddle) = x := rfl; clear h9) | (have h9 : (x : Pair) = x := rfl; clear h9) | (have h9 : (x : Leg) = x := rfl; clear h9) | clear_value x | skip) | with_reducible apply Upd.ite | with_reducible apply State.setPll_upd | with_reducible refine Upd.forAll ?_ (fun _ _ _ => ?_) | with_reducible apply clkRefresh_upd | with_reducible apply State.setBoth_upd

theorem execPllRelock_upd (pll : PllId) (s : State) {t : State} (hX : execPllRelock pll s = .next t) : Upd 67108865 s t := by
  unfold execPllRelock at hX
  cases hX
  have h0 := Upd.refl 67108865 s
  repeat' first | with_reducible assumption | (guard_target =~ (_ ||| _ : Nat) = _; decide) | with_reducible apply pllRelock_upd

theorem execRelockDeadline_upd (pll : PllId) (s : State) {t : State} (hX : execRelockDeadline pll s = .next t) : Upd 67108865 s t := by
  unfold execRelockDeadline at hX
  cases hX
  have h0 := Upd.refl 67108865 s
  repeat' first | with_reducible assumption | (guard_target =~ (_ ||| _ : Nat) = _; decide) | with_reducible apply Upd.ite | with_reducible apply clkRefresh_upd | with_reducible apply State.setPll_upd

theorem stepOnce_upd {M0 : Nat} {s0 : State} {p : PeakId} {s : State} (hU : Upd M0 s0 s) (hM : 1 ||| M0 = M0) : Upd M0 s0 (stepOnce p s) := by
  refine Upd.step hU ?_ hM
  clear hU hM
  unfold stepOnce
  have h0 := Upd.refl 1 s
  repeat' first | with_reducible assumption | (guard_target =~ (_ ||| _ : Nat) = _; decide) | (fail_if_no_progress extract_lets +onlyGivenNames x; first | (have hx : Upd 1 s x := (by unfold x; repeat' first | with_reducible assumption | (guard_target =~ (_ ||| _ : Nat) = _; decide) | with_reducible apply Upd.ite | with_reducible apply State.setFld_upd); try clear_value x) | (have h9 : (x : Peak) = x := rfl; clear h9) | (have h9 : (x : Saddle) = x := rfl; clear h9) | (have h9 : (x : Pair) = x := rfl; clear h9) | (have h9 : (x : Leg) = x := rfl; clear h9) | clear_value x | skip) | with_reducible apply Upd.ite | with_reducible apply State.setFld_upd

theorem clkTarget_upd {M0 : Nat} {s0 : State} {p : PeakId} {v : Nat} {s : State} (hU : Upd M0 s0 s) (hM : 1 ||| M0 = M0) : Upd M0 s0 (clkTarget p v s) := by
  refine Upd.step hU ?_ hM
  clear hU hM
  unfold clkTarget
  have h0 := Upd.refl 1 s
  repeat' first | with_reducible assumption | (guard_target =~ (_ ||| _ : Nat) = _; decide) | (fail_if_no_progress extract_lets +onlyGivenNames x; first | (have hx : Upd 1 s x := (by unfold x; repeat' first | with_reducible assumption | (guard_target =~ (_ ||| _ : Nat) = _; decide) | with_reducible apply Upd.ite | with_reducible apply State.raise_upd | with_reducible apply State.setFld_upd | with_reducible apply stepOnce_upd); try clear_value x) | (have h9 : (x : Peak) = x := rfl; clear h9) | (have h9 : (x : Saddle) = x := rfl; clear h9) | (have h9 : (x : Pair) = x := rfl; clear h9) | (have h9 : (x : Leg) = x := rfl; clear h9) | clear_value x | skip) | with_reducible apply Upd.ite | with_reducible apply State.raise_upd | with_reducible apply State.setFld_upd | with_reducible apply stepOnce_upd

theorem execClkTargetWrite_upd (m : Master) (val : Word) (s : State) {t : State} (hX : execClkTargetWrite m val s = .next t) : Upd 1 s t := by
  unfold execClkTargetWrite at hX
  cases hX
  have h0 := Upd.refl 1 s
  repeat' first | with_reducible assumption | (guard_target =~ (_ ||| _ : Nat) = _; decide) | with_reducible apply Upd.ite | with_reducible apply clkTarget_upd

theorem execPllStepRelock_upd (p : PeakId) (s : State) {t : State} (hX : execPllStepRelock p s = .next t) : Upd 1 s t := by
  unfold execPllStepRelock at hX
  cases hX
  have h0 := Upd.refl 1 s
  repeat' first | with_reducible assumption | (guard_target =~ (_ ||| _ : Nat) = _; decide) | with_reducible apply Upd.ite | with_reducible apply stepOnce_upd

theorem saddleGate_upd {M0 : Nat} {s0 : State} {s : State} (hU : Upd M0 s0 s) (hM : 822082657 ||| M0 = M0) : Upd M0 s0 (saddleGate s) := by
  refine Upd.step hU ?_ hM
  unfold saddleGate
  constructor
  case sound =>
    intro h
    rw [State.sound_iff] at h ⊢
    exact ⟨Tab.wf_filter _ _ _ h.1, h.2.1, rfl, rfl⟩
  case peak => exact fun _ => PeakUpd.refl _ _
  all_goals first | exact rfl | exact fun h => absurd h (by decide) | exact fun _ => rfl

theorem peakOff_upd {M0 : Nat} {s0 : State} {p : PeakId} {s : State} (hU : Upd M0 s0 s) (hM : 4503597567967759 ||| M0 = M0) : Upd M0 s0 (peakOff p s) := by
  refine Upd.step hU ?_ hM
  clear hU hM
  unfold peakOff
  have h0 := Upd.refl 4503597567967759 s
  repeat' first | with_reducible assumption | (guard_target =~ (_ ||| _ : Nat) = _; decide) | (fail_if_no_progress extract_lets +onlyGivenNames x; first | (have hx : Upd 4503597567967759 s x := (by unfold x; repeat' first | with_reducible assumption | (guard_target =~ (_ ||| _ : Nat) = _; decide) | with_reducible apply peakReset_upd | with_reducible apply State.setReg_upd | with_reducible apply clkRefresh_upd | with_reducible apply State.setPll_upd); try clear_value x) | (have h9 : (x : Peak) = x := rfl; clear h9) | (have h9 : (x : Saddle) = x := rfl; clear h9) | (have h9 : (x : Pair) = x := rfl; clear h9) | (have h9 : (x : Leg) = x := rfl; clear h9) | clear_value x | skip) | with_reducible apply peakReset_upd | with_reducible apply State.setReg_upd | with_reducible apply clkRefresh_upd | with_reducible apply State.setPll_upd

theorem deviceReset_upd {M0 : Nat} {s0 : State} {s : State} (hU : Upd M0 s0 s) (hM : 4503598553628655 ||| M0 = M0) : Upd M0 s0 (deviceReset s) := by
  refine Upd.step hU ?_ hM
  unfold deviceReset
  constructor
  case sound =>
    intro h
    rw [State.sound_iff] at h ⊢
    exact ⟨rfl, Tab.wf_filter _ _ _ h.2.1, rfl, rfl⟩
  case peak => exact (by intro q; constructor <;> exact fun h => absurd h (by decide))
  all_goals first | exact rfl | exact fun h => absurd h (by decide) | exact fun _ => rfl

theorem lcsShow_upd {M0 : Nat} {s0 : State} {s : State} (hU : Upd M0 s0 s) (hM : 1 ||| M0 = M0) : Upd M0 s0 (lcsShow s) := by
  refine Upd.step hU ?_ hM
  clear hU hM
  unfold lcsShow
  have h0 := Upd.refl 1 s
  repeat' first | with_reducible assumption | (guard_target =~ (_ ||| _ : Nat) = _; decide) | (fail_if_no_progress extract_lets +onlyGivenNames x; first | (have hx : Upd 1 s x := (by unfold x; repeat' first | with_reducible assumption | (guard_target =~ (_ ||| _ : Nat) = _; decide) | with_reducible apply State.setReg_upd | with_reducible refine Upd.forAll ?_ (fun _ _ _ => ?_)); try clear_value x) | (have h9 : (x : Peak) = x := rfl; clear h9) | (have h9 : (x : Saddle) = x := rfl; clear h9) | (have h9 : (x : Pair) = x := rfl; clear h9) | (have h9 : (x : Leg) = x := rfl; clear h9) | clear_value x | skip) | with_reducible apply State.setReg_upd | with_reducible refine Upd.forAll ?_ (fun _ _ _ => ?_)

theorem fuseRead_upd {M0 : Nat} {s0 : State} {s : State} (hU : Upd M0 s0 s) (hM : 1 ||| M0 = M0) : Upd M0 s0 (fuseRead s) := by
  refine Upd.step hU ?_ hM
  clear hU hM
  unfold fuseRead
  have h0 := Upd.refl 1 s
  repeat' first | with_reducible assumption | (guard_target =~ (_ ||| _ : Nat) = _; decide) | (fail_if_no_progress extract_lets +onlyGivenNames x; first | (have hx : Upd 1 s x := (by unfold x; repeat' first | with_reducible assumption | (guard_target =~ (_ ||| _ : Nat) = _; decide) | with_reducible apply Upd.ite | with_reducible apply lcsShow_upd | with_reducible apply State.setReg_upd); try clear_value x) | (have h9 : (x : Peak) = x := rfl; clear h9) | (have h9 : (x : Saddle) = x := rfl; clear h9) | (have h9 : (x : Pair) = x := rfl; clear h9) | (have h9 : (x : Leg) = x := rfl; clear h9) | clear_value x | skip) | with_reducible apply Upd.ite | with_reducible apply lcsShow_upd | with_reducible apply State.setReg_upd

theorem setPhase_upd {M0 : Nat} {s0 : State} {f : Phase} {s : State} (hU : Upd M0 s0 s) (hM : 67108864 ||| M0 = M0) : Upd M0 s0 (setPhase f s) := by
  refine Upd.step hU ?_ hM
  clear hU hM
  unfold setPhase
  have h0 := Upd.refl 67108864 s
  repeat' first | with_reducible assumption | (guard_target =~ (_ ||| _ : Nat) = _; decide) | with_reducible apply Upd.lit | exact rfl | exact SadUpd.refl _ _ | with_reducible apply SadUpd.ite | apply SadUpd.mk | exact fun _ => PeakUpd.refl _ _ | exact Or.inl (by decide) | exact Or.inr rfl

theorem haltSafe_upd {M0 : Nat} {s0 : State} {s : State} (hU : Upd M0 s0 s) (hM : 67108864 ||| M0 = M0) : Upd M0 s0 (haltSafe s) := by
  refine Upd.step hU ?_ hM
  clear hU hM
  unfold haltSafe
  have h0 := Upd.refl 67108864 s
  repeat' first | with_reducible assumption | (guard_target =~ (_ ||| _ : Nat) = _; decide) | with_reducible apply setPhase_upd

theorem retiredStay_upd {M0 : Nat} {s0 : State} {s : State} (hU : Upd M0 s0 s) (hM : 248524088750093 ||| M0 = M0) : Upd M0 s0 (retiredStay s) := by
  refine Upd.step hU ?_ hM
  clear hU hM
  unfold retiredStay
  have h0 := Upd.refl 248524088750093 s
  repeat' first | with_reducible assumption | (guard_target =~ (_ ||| _ : Nat) = _; decide) | with_reducible apply haltSafe_upd | with_reducible apply safChanged_upd | with_reducible apply State.setFld_upd

theorem coldStart_upd {M0 : Nat} {s0 : State} {s : State} (hU : Upd M0 s0 s) (hM : 67108864 ||| M0 = M0) : Upd M0 s0 (coldStart s) := by
  refine Upd.step hU ?_ hM
  clear hU hM
  unfold coldStart
  have h0 := Upd.refl 67108864 s
  repeat' first | with_reducible assumption | (guard_target =~ (_ ||| _ : Nat) = _; decide) | with_reducible apply setPhase_upd

theorem gendarmeInstant_upd {M0 : Nat} {s0 : State} {i : Nat} {ok : Bool} {xin : Bool} {s : State} (hU : Upd M0 s0 s) (hM : 4503597604093583 ||| M0 = M0) : Upd M0 s0 (gendarmeInstant i ok xin s) := by
  refine Upd.step hU ?_ hM
  clear hU hM
  unfold gendarmeInstant
  have h0 := Upd.refl 4503597604093583 s
  repeat' first | with_reducible assumption | (guard_target =~ (_ ||| _ : Nat) = _; decide) | (fail_if_no_progress extract_lets +onlyGivenNames x; first | (have hx : Upd 4503597604093583 s x := (by unfold x; repeat' first | with_reducible assumption | (guard_target =~ (_ ||| _ : Nat) = _; decide) | with_reducible apply Upd.ite | with_reducible apply safChanged_upd | with_reducible apply setPhase_upd | with_reducible apply fuseRead_upd | with_reducible apply clkRefresh_upd | with_reducible apply mapPoint_upd | with_reducible apply State.setPll_upd | with_reducible apply haltSafe_upd | with_reducible apply safeEnter_upd | with_reducible apply retiredStay_upd | split | with_reducible apply Upd.lit | exact rfl | exact SadUpd.refl _ _ | with_reducible apply SadUpd.ite | apply SadUpd.mk | exact fun _ => PeakUpd.refl _ _ | exact Or.inl (by decide) | exact Or.inr rfl); try clear_value x) | (have h9 : (x : Peak) = x := rfl; clear h9) | (have h9 : (x : Saddle) = x := rfl; clear h9) | (have h9 : (x : Pair) = x := rfl; clear h9) | (have h9 : (x : Leg) = x := rfl; clear h9) | clear_value x | skip) | with_reducible apply Upd.ite | with_reducible apply safChanged_upd | with_reducible apply setPhase_upd | with_reducible apply fuseRead_upd | with_reducible apply clkRefresh_upd | with_reducible apply mapPoint_upd | with_reducible apply State.setPll_upd | with_reducible apply haltSafe_upd | with_reducible apply safeEnter_upd | with_reducible apply retiredStay_upd | split | with_reducible apply Upd.lit | exact rfl | exact SadUpd.refl _ _ | with_reducible apply SadUpd.ite | apply SadUpd.mk | exact fun _ => PeakUpd.refl _ _ | exact Or.inl (by decide) | exact Or.inr rfl

theorem execGendarmeStartInstant_upd (i : Fin 4) (ok : Bool) (xin : Bool) (s : State) {t : State} (hX : execGendarmeStartInstant i ok xin s = .next t) : Upd 4503597604093583 s t := by
  unfold execGendarmeStartInstant at hX
  cases hX
  have h0 := Upd.refl 4503597604093583 s
  repeat' first | with_reducible assumption | (guard_target =~ (_ ||| _ : Nat) = _; decide) | with_reducible apply gendarmeInstant_upd

theorem execRefCheckWindow_upd (good : Bool) (s : State) {t : State} (hX : execRefCheckWindow good s = .next t) : Upd 248524054724749 s t := by
  unfold execRefCheckWindow at hX
  cases hX
  have h0 := Upd.refl 248524054724749 s
  repeat' first | with_reducible assumption | (guard_target =~ (_ ||| _ : Nat) = _; decide) | with_reducible apply Upd.ite | with_reducible apply clkRefresh_upd | with_reducible apply refLoss_upd | split | with_reducible apply Upd.lit | exact rfl | exact SadUpd.refl _ _ | with_reducible apply SadUpd.ite | apply SadUpd.mk | exact fun _ => PeakUpd.refl _ _ | exact Or.inl (by decide) | exact Or.inr rfl

theorem lcsInterrupt_upd {M0 : Nat} {s0 : State} {s : State} (hU : Upd M0 s0 s) (hM : 1140850688 ||| M0 = M0) : Upd M0 s0 (lcsInterrupt s) := by
  refine Upd.step hU ?_ hM
  clear hU hM
  unfold lcsInterrupt
  have h0 := Upd.refl 1140850688 s
  repeat' first | with_reducible assumption | (guard_target =~ (_ ||| _ : Nat) = _; decide) | (fail_if_no_progress extract_lets +onlyGivenNames x; first | (have hx : Upd 1140850688 s x := (by unfold x; repeat' first | with_reducible assumption | (guard_target =~ (_ ||| _ : Nat) = _; decide) | with_reducible apply Upd.ite | with_reducible apply State.takeFree_upd | split | with_reducible apply Upd.lit | exact rfl | exact SadUpd.refl _ _ | with_reducible apply SadUpd.ite | apply SadUpd.mk | exact fun _ => PeakUpd.refl _ _ | exact Or.inl (by decide) | exact Or.inr rfl); try clear_value x) | (have hx : Upd 1140850688 s x.2 := (by unfold x; repeat' first | with_reducible assumption | (guard_target =~ (_ ||| _ : Nat) = _; decide) | with_reducible apply Upd.ite | with_reducible apply State.takeFree_upd | split | with_reducible apply Upd.lit | exact rfl | exact SadUpd.refl _ _ | with_reducible apply SadUpd.ite | apply SadUpd.mk | exact fun _ => PeakUpd.refl _ _ | exact Or.inl (by decide) | exact Or.inr rfl); try clear_value x) | (have h9 : (x : Peak) = x := rfl; clear h9) | (have h9 : (x : Saddle) = x := rfl; clear h9) | (have h9 : (x : Pair) = x := rfl; clear h9) | (have h9 : (x : Leg) = x := rfl; clear h9) | clear_value x | skip) | with_reducible apply Upd.ite | with_reducible apply State.takeFree_upd | split | with_reducible apply Upd.lit | exact rfl | exact SadUpd.refl _ _ | with_reducible apply SadUpd.ite | apply SadUpd.mk | exact fun _ => PeakUpd.refl _ _ | exact Or.inl (by decide) | exact Or.inr rfl

theorem resetPin_upd {M0 : Nat} {s0 : State} {ns : Nat} {s : State} (hU : Upd M0 s0 s) (hM : 4503599627370479 ||| M0 = M0) : Upd M0 s0 (resetPin ns s) := by
  refine Upd.step hU ?_ hM
  clear hU hM
  unfold resetPin
  have h0 := Upd.refl 4503599627370479 s
  repeat' first | with_reducible assumption | (guard_target =~ (_ ||| _ : Nat) = _; decide) | (fail_if_no_progress extract_lets +onlyGivenNames x; first | (have hx : Upd 4503599627370479 s x := (by unfold x; repeat' first | with_reducible assumption | (guard_target =~ (_ ||| _ : Nat) = _; decide) | with_reducible apply Upd.ite | with_reducible apply State.takeFree_upd | with_reducible apply lcsInterrupt_upd | with_reducible apply deviceReset_upd | with_reducible apply Upd.lit | exact rfl | exact SadUpd.refl _ _ | with_reducible apply SadUpd.ite | apply SadUpd.mk | exact fun _ => PeakUpd.refl _ _ | exact Or.inl (by decide) | exact Or.inr rfl); try clear_value x) | (have hx : Upd 4503599627370479 s x.2 := (by unfold x; repeat' first | with_reducible assumption | (guard_target =~ (_ ||| _ : Nat) = _; decide) | with_reducible apply Upd.ite | with_reducible apply State.takeFree_upd | with_reducible apply lcsInterrupt_upd | with_reducible apply deviceReset_upd | with_reducible apply Upd.lit | exact rfl | exact SadUpd.refl _ _ | with_reducible apply SadUpd.ite | apply SadUpd.mk | exact fun _ => PeakUpd.refl _ _ | exact Or.inl (by decide) | exact Or.inr rfl); try clear_value x) | (have h9 : (x : Peak) = x := rfl; clear h9) | (have h9 : (x : Saddle) = x := rfl; clear h9) | (have h9 : (x : Pair) = x := rfl; clear h9) | (have h9 : (x : Leg) = x := rfl; clear h9) | clear_value x | skip) | with_reducible apply Upd.ite | with_reducible apply State.takeFree_upd | with_reducible apply lcsInterrupt_upd | with_reducible apply deviceReset_upd | with_reducible apply Upd.lit | exact rfl | exact SadUpd.refl _ _ | with_reducible apply SadUpd.ite | apply SadUpd.mk | exact fun _ => PeakUpd.refl _ _ | exact Or.inl (by decide) | exact Or.inr rfl

theorem execResetPin_upd (ns : Word) (s : State) {t : State} (hX : execResetPin ns s = .next t) : Upd 4503599627370479 s t := by
  unfold execResetPin at hX
  cases hX
  have h0 := Upd.refl 4503599627370479 s
  repeat' first | with_reducible assumption | (guard_target =~ (_ ||| _ : Nat) = _; decide) | with_reducible apply resetPin_upd

theorem execResetRelease_upd (s : State) {t : State} (hX : execResetRelease s = .next t) : Upd 67108864 s t := by
  unfold execResetRelease at hX
  cases hX
  have h0 := Upd.refl 67108864 s
  repeat' first | with_reducible assumption | (guard_target =~ (_ ||| _ : Nat) = _; decide) | (fail_if_no_progress extract_lets +onlyGivenNames x; first | (have hx : Upd 67108864 s x := (by unfold x; repeat' first | with_reducible assumption | (guard_target =~ (_ ||| _ : Nat) = _; decide) | with_reducible apply Upd.ite | with_reducible apply coldStart_upd | with_reducible apply Upd.lit | exact rfl | exact SadUpd.refl _ _ | with_reducible apply SadUpd.ite | apply SadUpd.mk | exact fun _ => PeakUpd.refl _ _ | exact Or.inl (by decide) | exact Or.inr rfl); try clear_value x) | (have h9 : (x : Peak) = x := rfl; clear h9) | (have h9 : (x : Saddle) = x := rfl; clear h9) | (have h9 : (x : Pair) = x := rfl; clear h9) | (have h9 : (x : Leg) = x := rfl; clear h9) | clear_value x | skip) | with_reducible apply Upd.ite | with_reducible apply coldStart_upd | with_reducible apply Upd.lit | exact rfl | exact SadUpd.refl _ _ | with_reducible apply SadUpd.ite | apply SadUpd.mk | exact fun _ => PeakUpd.refl _ _ | exact Or.inl (by decide) | exact Or.inr rfl

theorem stagesBegin_upd {M0 : Nat} {s0 : State} {wake : Bool} {s : State} (hU : Upd M0 s0 s) (hM : 83886080 ||| M0 = M0) : Upd M0 s0 (stagesBegin wake s) := by
  refine Upd.step hU ?_ hM
  clear hU hM
  unfold stagesBegin
  have h0 := Upd.refl 83886080 s
  repeat' first | with_reducible assumption | (guard_target =~ (_ ||| _ : Nat) = _; decide) | with_reducible apply setPhase_upd | with_reducible apply Upd.lit | exact rfl | exact SadUpd.refl _ _ | with_reducible apply SadUpd.ite | apply SadUpd.mk | exact fun _ => PeakUpd.refl _ _ | exact Or.inl (by decide) | exact Or.inr rfl

theorem execStageStart_upd (s : State) {t : State} (hX : execStageStart s = .next t) : Upd 83886080 s t := by
  unfold execStageStart at hX
  cases hX
  have h0 := Upd.refl 83886080 s
  repeat' first | with_reducible assumption | (guard_target =~ (_ ||| _ : Nat) = _; decide) | with_reducible apply Upd.ite | with_reducible apply stagesBegin_upd

theorem wakeGo_upd {M0 : Nat} {s0 : State} {s : State} (hU : Upd M0 s0 s) (hM : 83886080 ||| M0 = M0) : Upd M0 s0 (wakeGo s) := by
  refine Upd.step hU ?_ hM
  clear hU hM
  unfold wakeGo
  have h0 := Upd.refl 83886080 s
  repeat' first | with_reducible assumption | (guard_target =~ (_ ||| _ : Nat) = _; decide) | with_reducible apply Upd.ite | with_reducible apply stagesBegin_upd

theorem execReferenceReturn_upd (s : State) {t : State} (hX : execReferenceReturn s = .next t) : Upd 83886081 s t := by
  unfold execReferenceReturn at hX
  cases hX
  have h0 := Upd.refl 83886081 s
  repeat' first | with_reducible assumption | (guard_target =~ (_ ||| _ : Nat) = _; decide) | with_reducible apply wakeGo_upd | with_reducible apply refReturn_upd

theorem leftOut_upd {M0 : Nat} {s0 : State} {p : PeakId} {s : State} (hU : Upd M0 s0 s) (hM : 83886080 ||| M0 = M0) : Upd M0 s0 (leftOut p s) := by
  refine Upd.step hU ?_ hM
  clear hU hM
  unfold leftOut
  have h0 := Upd.refl 83886080 s
  repeat' first | with_reducible assumption | (guard_target =~ (_ ||| _ : Nat) = _; decide) | with_reducible apply Upd.lit | exact rfl | exact SadUpd.refl _ _ | with_reducible apply SadUpd.ite | apply SadUpd.mk | exact fun _ => PeakUpd.refl _ _ | exact Or.inl (by decide) | exact Or.inr rfl

theorem stageLock_upd {M0 : Nat} {s0 : State} {l : BitVec 6} {s : State} (hU : Upd M0 s0 s) (hM : 4503597604093455 ||| M0 = M0) : Upd M0 s0 (stageLock l s) := by
  refine Upd.step hU ?_ hM
  clear hU hM
  unfold stageLock
  have h0 := Upd.refl 4503597604093455 s
  repeat' first | with_reducible assumption | (guard_target =~ (_ ||| _ : Nat) = _; decide) | (fail_if_no_progress extract_lets +onlyGivenNames x; first | (have hx : Upd 4503597604093455 s x := (by unfold x; repeat' first | with_reducible assumption | (guard_target =~ (_ ||| _ : Nat) = _; decide) | with_reducible apply Upd.ite | with_reducible refine Upd.bothPeaks ?_ (fun _ _ _ => ?_) | with_reducible apply State.setPll_upd | with_reducible apply stepOnce_upd | with_reducible apply State.setReg_upd | with_reducible apply leftOut_upd | with_reducible apply clkRefresh_upd | with_reducible apply safeEnter_upd | with_reducible apply State.setFld_upd | with_reducible apply Upd.lit | exact rfl | exact SadUpd.refl _ _ | with_reducible apply SadUpd.ite | apply SadUpd.mk | exact fun _ => PeakUpd.refl _ _ | exact Or.inl (by decide) | exact Or.inr rfl); try clear_value x) | (have h9 : (x : Peak) = x := rfl; clear h9) | (have h9 : (x : Saddle) = x := rfl; clear h9) | (have h9 : (x : Pair) = x := rfl; clear h9) | (have h9 : (x : Leg) = x := rfl; clear h9) | clear_value x | skip) | with_reducible apply Upd.ite | with_reducible refine Upd.bothPeaks ?_ (fun _ _ _ => ?_) | with_reducible apply State.setPll_upd | with_reducible apply stepOnce_upd | with_reducible apply State.setReg_upd | with_reducible apply leftOut_upd | with_reducible apply clkRefresh_upd | with_reducible apply safeEnter_upd | with_reducible apply State.setFld_upd | with_reducible apply Upd.lit | exact rfl | exact SadUpd.refl _ _ | with_reducible apply SadUpd.ite | apply SadUpd.mk | exact fun _ => PeakUpd.refl _ _ | exact Or.inl (by decide) | exact Or.inr rfl

theorem stageStep_upd {M0 : Nat} {s0 : State} {l : BitVec 6} {s : State} (hU : Upd M0 s0 s) (hM : 83886081 ||| M0 = M0) : Upd M0 s0 (stageStep l s) := by
  refine Upd.step hU ?_ hM
  clear hU hM
  unfold stageStep
  have h0 := Upd.refl 83886081 s
  repeat' first | with_reducible assumption | (guard_target =~ (_ ||| _ : Nat) = _; decide) | with_reducible apply Upd.ite | with_reducible refine Upd.bothPeaks ?_ (fun _ _ _ => ?_) | with_reducible apply State.setFld_upd | with_reducible apply leftOut_upd

theorem fusedLimits_upd {M0 : Nat} {s0 : State} {s : State} (hU : Upd M0 s0 s) (hM : 1 ||| M0 = M0) : Upd M0 s0 (fusedLimits s) := by
  refine Upd.step hU ?_ hM
  clear hU hM
  unfold fusedLimits
  have h0 := Upd.refl 1 s
  repeat' first | with_reducible assumption | (guard_target =~ (_ ||| _ : Nat) = _; decide) | with_reducible apply Upd.ite | with_reducible refine Upd.forAll ?_ (fun _ _ _ => ?_) | with_reducible apply State.setReg_upd

theorem stageSaddle_upd {M0 : Nat} {s0 : State} {s : State} (hU : Upd M0 s0 s) (hM : 1895824865 ||| M0 = M0) : Upd M0 s0 (stageSaddle s) := by
  refine Upd.step hU ?_ hM
  clear hU hM
  unfold stageSaddle
  have h0 := Upd.refl 1895824865 s
  repeat' first | with_reducible assumption | (guard_target =~ (_ ||| _ : Nat) = _; decide) | (fail_if_no_progress extract_lets +onlyGivenNames x; first | (have hx : Upd 1895824865 s x := (by unfold x; repeat' first | with_reducible assumption | (guard_target =~ (_ ||| _ : Nat) = _; decide) | with_reducible apply Upd.ite | with_reducible apply saddleGate_upd | with_reducible apply fusedLimits_upd | with_reducible apply State.setBit_upd | with_reducible apply cirqRelease_upd | with_reducible apply mapPoint_upd | with_reducible apply Upd.lit | exact rfl | exact SadUpd.refl _ _ | with_reducible apply SadUpd.ite | apply SadUpd.mk | exact fun _ => PeakUpd.refl _ _ | exact Or.inl (by decide) | exact Or.inr rfl); try clear_value x) | (have h9 : (x : Peak) = x := rfl; clear h9) | (have h9 : (x : Saddle) = x := rfl; clear h9) | (have h9 : (x : Pair) = x := rfl; clear h9) | (have h9 : (x : Leg) = x := rfl; clear h9) | clear_value x | skip) | with_reducible apply Upd.ite | with_reducible apply saddleGate_upd | with_reducible apply fusedLimits_upd | with_reducible apply State.setBit_upd | with_reducible apply cirqRelease_upd | with_reducible apply mapPoint_upd | with_reducible apply Upd.lit | exact rfl | exact SadUpd.refl _ _ | with_reducible apply SadUpd.ite | apply SadUpd.mk | exact fun _ => PeakUpd.refl _ _ | exact Or.inl (by decide) | exact Or.inr rfl

theorem stagePeak_upd {M0 : Nat} {s0 : State} {wake : Bool} {cause : Nat} {p : PeakId} {s : State} (hU : Upd M0 s0 s) (hM : 4503597567967759 ||| M0 = M0) : Upd M0 s0 (stagePeak wake cause p s) := by
  refine Upd.step hU ?_ hM
  clear hU hM
  unfold stagePeak
  have h0 := Upd.refl 4503597567967759 s
  repeat' first | with_reducible assumption | (guard_target =~ (_ ||| _ : Nat) = _; decide) | (fail_if_no_progress extract_lets +onlyGivenNames x; first | (have hx : Upd 4503597567967759 s x := (by unfold x; repeat' first | with_reducible assumption | (guard_target =~ (_ ||| _ : Nat) = _; decide) | with_reducible apply Upd.ite | with_reducible apply peakRelease_upd | with_reducible apply State.setFld_upd | with_reducible refine Upd.forAll ?_ (fun _ _ _ => ?_) | with_reducible apply State.setRegW_upd | with_reducible apply State.raise_upd); try clear_value x) | (have h9 : (x : Peak) = x := rfl; clear h9) | (have h9 : (x : Saddle) = x := rfl; clear h9) | (have h9 : (x : Pair) = x := rfl; clear h9) | (have h9 : (x : Leg) = x := rfl; clear h9) | clear_value x | skip) | with_reducible apply Upd.ite | with_reducible apply peakRelease_upd | with_reducible apply State.setFld_upd | with_reducible refine Upd.forAll ?_ (fun _ _ _ => ?_) | with_reducible apply State.setRegW_upd | with_reducible apply State.raise_upd

theorem stageRelease_upd {M0 : Nat} {s0 : State} {wake : Bool} {s : State} (hU : Upd M0 s0 s) (hM : 4503597604093455 ||| M0 = M0) : Upd M0 s0 (stageRelease wake s) := by
  refine Upd.step hU ?_ hM
  clear hU hM
  unfold stageRelease
  have h0 := Upd.refl 4503597604093455 s
  repeat' first | with_reducible assumption | (guard_target =~ (_ ||| _ : Nat) = _; decide) | (fail_if_no_progress extract_lets +onlyGivenNames x; first | (have hx : Upd 4503597604093455 s x := (by unfold x; repeat' first | with_reducible assumption | (guard_target =~ (_ ||| _ : Nat) = _; decide) | with_reducible apply Upd.ite | with_reducible refine Upd.bothPeaks ?_ (fun _ _ _ => ?_) | with_reducible apply stagePeak_upd | with_reducible apply setPhase_upd | with_reducible apply clkRefresh_upd | with_reducible apply safChanged_upd | with_reducible apply safeEnter_upd | with_reducible apply Upd.lit | exact rfl | exact SadUpd.refl _ _ | with_reducible apply SadUpd.ite | apply SadUpd.mk | exact fun _ => PeakUpd.refl _ _ | exact Or.inl (by decide) | exact Or.inr rfl); try clear_value x) | (have h9 : (x : Peak) = x := rfl; clear h9) | (have h9 : (x : Saddle) = x := rfl; clear h9) | (have h9 : (x : Pair) = x := rfl; clear h9) | (have h9 : (x : Leg) = x := rfl; clear h9) | clear_value x | skip) | with_reducible apply Upd.ite | with_reducible refine Upd.bothPeaks ?_ (fun _ _ _ => ?_) | with_reducible apply stagePeak_upd | with_reducible apply setPhase_upd | with_reducible apply clkRefresh_upd | with_reducible apply safChanged_upd | with_reducible apply safeEnter_upd | with_reducible apply Upd.lit | exact rfl | exact SadUpd.refl _ _ | with_reducible apply SadUpd.ite | apply SadUpd.mk | exact fun _ => PeakUpd.refl _ _ | exact Or.inl (by decide) | exact Or.inr rfl

theorem joinStage_upd {M0 : Nat} {s0 : State} {i : Nat} {l : BitVec 6} {p : PeakId} {s : State} (hU : Upd M0 s0 s) (hM : 4503597567967759 ||| M0 = M0) : Upd M0 s0 (joinStage i l p s) := by
  refine Upd.step hU ?_ hM
  clear hU hM
  unfold joinStage
  have h0 := Upd.refl 4503597567967759 s
  repeat' first | with_reducible assumption | (guard_target =~ (_ ||| _ : Nat) = _; decide) | (fail_if_no_progress extract_lets +onlyGivenNames x; first | (have hx : Upd 4503597567967759 s x := (by unfold x; repeat' first | with_reducible assumption | (guard_target =~ (_ ||| _ : Nat) = _; decide) | with_reducible apply Upd.ite | with_reducible apply clkRefresh_upd | with_reducible apply stepOnce_upd | with_reducible apply State.setPll_upd | with_reducible apply joinFailed_upd | with_reducible apply State.setFld_upd | with_reducible apply peakRelease_upd | with_reducible apply State.setReg_upd | split | with_reducible apply Upd.lit | exact rfl | exact SadUpd.refl _ _ | with_reducible apply SadUpd.ite | apply SadUpd.mk | exact fun _ => PeakUpd.refl _ _ | exact Or.inl (by decide) | exact Or.inr rfl); try clear_value x) | (have h9 : (x : Peak) = x := rfl; clear h9) | (have h9 : (x : Saddle) = x := rfl; clear h9) | (have h9 : (x : Pair) = x := rfl; clear h9) | (have h9 : (x : Leg) = x := rfl; clear h9) | clear_value x | skip) | with_reducible apply Upd.ite | with_reducible apply clkRefresh_upd | with_reducible apply stepOnce_upd | with_reducible apply State.setPll_upd | with_reducible apply joinFailed_upd | with_reducible apply State.setFld_upd | with_reducible apply peakRelease_upd | with_reducible apply State.setReg_upd | split | with_reducible apply Upd.lit | exact rfl | exact SadUpd.refl _ _ | with_reducible apply SadUpd.ite | apply SadUpd.mk | exact fun _ => PeakUpd.refl _ _ | exact Or.inl (by decide) | exact Or.inr rfl

theorem stageInstant_upd {M0 : Nat} {s0 : State} {i : Nat} {l : BitVec 6} {s : State} (hU : Upd M0 s0 s) (hM : 4503599493152751 ||| M0 = M0) : Upd M0 s0 (stageInstant i l s) := by
  refine Upd.step hU ?_ hM
  clear hU hM
  unfold stageInstant
  have h0 := Upd.refl 4503599493152751 s
  repeat' first | with_reducible assumption | (guard_target =~ (_ ||| _ : Nat) = _; decide) | (fail_if_no_progress extract_lets +onlyGivenNames x; first | (have hx : Upd 4503599493152751 s x := (by unfold x; repeat' first | with_reducible assumption | (guard_target =~ (_ ||| _ : Nat) = _; decide) | with_reducible apply Upd.ite | with_reducible refine Upd.bothPeaks ?_ (fun _ _ _ => ?_) | with_reducible apply joinStage_upd | with_reducible apply setPhase_upd | with_reducible apply stageLock_upd | with_reducible apply stageStep_upd | with_reducible apply stageSaddle_upd | with_reducible apply stageRelease_upd | split); try clear_value x) | (have h9 : (x : Peak) = x := rfl; clear h9) | (have h9 : (x : Saddle) = x := rfl; clear h9) | (have h9 : (x : Pair) = x := rfl; clear h9) | (have h9 : (x : Leg) = x := rfl; clear h9) | clear_value x | skip) | with_reducible apply Upd.ite | with_reducible refine Upd.bothPeaks ?_ (fun _ _ _ => ?_) | with_reducible apply joinStage_upd | with_reducible apply setPhase_upd | with_reducible apply stageLock_upd | with_reducible apply stageStep_upd | with_reducible apply stageSaddle_upd | with_reducible apply stageRelease_upd | split

theorem execStageInstant_upd (i : Fin 7) (locks : BitVec 6) (s : State) {t : State} (hX : execStageInstant i locks s = .next t) : Upd 4503599493152751 s t := by
  unfold execStageInstant at hX
  cases hX
  have h0 := Upd.refl 4503599493152751 s
  repeat' first | with_reducible assumption | (guard_target =~ (_ ||| _ : Nat) = _; decide) | with_reducible apply stageInstant_upd

theorem legsTest_upd {M0 : Nat} {s0 : State} {pass : BitVec 6} {s : State} (hU : Upd M0 s0 s) (hM : 8193 ||| M0 = M0) : Upd M0 s0 (legsTest pass s) := by
  refine Upd.step hU ?_ hM
  clear hU hM
  unfold legsTest
  have h0 := Upd.refl 8193 s
  repeat' first | with_reducible assumption | (guard_target =~ (_ ||| _ : Nat) = _; decide) | (fail_if_no_progress extract_lets +onlyGivenNames x; first | (have hx : Upd 8193 s x := (by unfold x; repeat' first | with_reducible assumption | (guard_target =~ (_ ||| _ : Nat) = _; decide) | with_reducible apply Upd.ite | with_reducible refine Upd.forAll ?_ (fun _ _ _ => ?_) | with_reducible refine Upd.bothPeaks ?_ (fun _ _ _ => ?_) | with_reducible apply State.setReg_upd | with_reducible apply legDisable_upd | with_reducible apply State.setFld_upd); try clear_value x) | (have h9 : (x : Peak) = x := rfl; clear h9) | (have h9 : (x : Saddle) = x := rfl; clear h9) | (have h9 : (x : Pair) = x := rfl; clear h9) | (have h9 : (x : Leg) = x := rfl; clear h9) | clear_value x | skip) | with_reducible apply Upd.ite | with_reducible refine Upd.forAll ?_ (fun _ _ _ => ?_) | with_reducible refine Upd.bothPeaks ?_ (fun _ _ _ => ?_) | with_reducible apply State.setReg_upd | with_reducible apply legDisable_upd | with_reducible apply State.setFld_upd

theorem vauxUp_upd {M0 : Nat} {s0 : State} {p : PeakId} {v : Bool} {s : State} (hU : Upd M0 s0 s) (hM : 67108864 ||| M0 = M0) : Upd M0 s0 (vauxUp p v s) := by
  refine Upd.step hU ?_ hM
  clear hU hM
  unfold vauxUp
  have h0 := Upd.refl 67108864 s
  repeat' first | with_reducible assumption | (guard_target =~ (_ ||| _ : Nat) = _; decide) | split | with_reducible apply Upd.lit | exact rfl | exact SadUpd.refl _ _ | with_reducible apply SadUpd.ite | apply SadUpd.mk | exact fun _ => PeakUpd.refl _ _ | exact Or.inl (by decide) | exact Or.inr rfl

theorem vauxRise_upd {M0 : Nat} {s0 : State} {p : PeakId} {s : State} (hU : Upd M0 s0 s) (hM : 67108864 ||| M0 = M0) : Upd M0 s0 (vauxRise p s) := by
  refine Upd.step hU ?_ hM
  clear hU hM
  unfold vauxRise
  have h0 := Upd.refl 67108864 s
  repeat' first | with_reducible assumption | (guard_target =~ (_ ||| _ : Nat) = _; decide) | with_reducible apply Upd.ite | with_reducible apply vauxUp_upd | with_reducible apply Upd.lit | exact rfl | exact SadUpd.refl _ _ | with_reducible apply SadUpd.ite | apply SadUpd.mk | exact fun _ => PeakUpd.refl _ _ | exact Or.inl (by decide) | exact Or.inr rfl

theorem supplyRise_upd {M0 : Nat} {s0 : State} {sup : Supply} {legs : BitVec 6} {s : State} (hU : Upd M0 s0 s) (hM : 67117057 ||| M0 = M0) : Upd M0 s0 (supplyRise sup legs s) := by
  refine Upd.step hU ?_ hM
  clear hU hM
  unfold supplyRise
  have h0 := Upd.refl 67117057 s
  repeat' first | with_reducible assumption | (guard_target =~ (_ ||| _ : Nat) = _; decide) | (fail_if_no_progress extract_lets +onlyGivenNames x; first | (have hx : Upd 67117057 s x := (by unfold x; repeat' first | with_reducible assumption | (guard_target =~ (_ ||| _ : Nat) = _; decide) | with_reducible apply Upd.ite | with_reducible apply coldStart_upd | with_reducible apply vauxRise_upd | with_reducible apply legsDecide_upd | with_reducible apply legsTest_upd | with_reducible apply State.setFld_upd | split | with_reducible apply Upd.lit | exact rfl | exact SadUpd.refl _ _ | with_reducible apply SadUpd.ite | apply SadUpd.mk | exact fun _ => PeakUpd.refl _ _ | exact Or.inl (by decide) | exact Or.inr rfl); try clear_value x) | (have h9 : (x : Peak) = x := rfl; clear h9) | (have h9 : (x : Saddle) = x := rfl; clear h9) | (have h9 : (x : Pair) = x := rfl; clear h9) | (have h9 : (x : Leg) = x := rfl; clear h9) | clear_value x | skip) | with_reducible apply Upd.ite | with_reducible apply coldStart_upd | with_reducible apply vauxRise_upd | with_reducible apply legsDecide_upd | with_reducible apply legsTest_upd | with_reducible apply State.setFld_upd | split | with_reducible apply Upd.lit | exact rfl | exact SadUpd.refl _ _ | with_reducible apply SadUpd.ite | apply SadUpd.mk | exact fun _ => PeakUpd.refl _ _ | exact Or.inl (by decide) | exact Or.inr rfl

theorem vauxNote_upd {M0 : Nat} {s0 : State} {p : PeakId} {s : State} (hU : Upd M0 s0 s) (hM : 83886080 ||| M0 = M0) : Upd M0 s0 (vauxNote p s) := by
  refine Upd.step hU ?_ hM
  clear hU hM
  unfold vauxNote
  have h0 := Upd.refl 83886080 s
  repeat' first | with_reducible assumption | (guard_target =~ (_ ||| _ : Nat) = _; decide) | (fail_if_no_progress extract_lets +onlyGivenNames x; first | (have hx : Upd 83886080 s x := (by unfold x; repeat' first | with_reducible assumption | (guard_target =~ (_ ||| _ : Nat) = _; decide) | with_reducible apply leftOut_upd | with_reducible apply vauxUp_upd | with_reducible apply Upd.lit | exact rfl | exact SadUpd.refl _ _ | with_reducible apply SadUpd.ite | apply SadUpd.mk | exact fun _ => PeakUpd.refl _ _ | exact Or.inl (by decide) | exact Or.inr rfl); try clear_value x) | (have h9 : (x : Peak) = x := rfl; clear h9) | (have h9 : (x : Saddle) = x := rfl; clear h9) | (have h9 : (x : Pair) = x := rfl; clear h9) | (have h9 : (x : Leg) = x := rfl; clear h9) | clear_value x | skip) | with_reducible apply leftOut_upd | with_reducible apply vauxUp_upd | with_reducible apply Upd.lit | exact rfl | exact SadUpd.refl _ _ | with_reducible apply SadUpd.ite | apply SadUpd.mk | exact fun _ => PeakUpd.refl _ _ | exact Or.inl (by decide) | exact Or.inr rfl

theorem saddleHalt_upd {M0 : Nat} {s0 : State} {s : State} (hU : Upd M0 s0 s) (hM : 32768 ||| M0 = M0) : Upd M0 s0 (saddleHalt s) := by
  refine Upd.step hU ?_ hM
  clear hU hM
  unfold saddleHalt
  have h0 := Upd.refl 32768 s
  repeat' first | with_reducible assumption | (guard_target =~ (_ ||| _ : Nat) = _; decide) | with_reducible apply Upd.lit | exact rfl | exact SadUpd.refl _ _ | with_reducible apply SadUpd.ite | apply SadUpd.mk | exact fun _ => PeakUpd.refl _ _ | exact Or.inl (by decide) | exact Or.inr rfl

theorem vauxBoth_upd {M0 : Nat} {s0 : State} {p : PeakId} {s : State} (hU : Upd M0 s0 s) (hM : 4503597604126223 ||| M0 = M0) : Upd M0 s0 (vauxBoth p s) := by
  refine Upd.step hU ?_ hM
  clear hU hM
  unfold vauxBoth
  have h0 := Upd.refl 4503597604126223 s
  repeat' first | with_reducible assumption | (guard_target =~ (_ ||| _ : Nat) = _; decide) | with_reducible apply Upd.ite | with_reducible apply saddleHalt_upd | with_reducible apply safeEnter_upd

theorem vauxFall_upd {M0 : Nat} {s0 : State} {p : PeakId} {s : State} (hU : Upd M0 s0 s) (hM : 4503597604126287 ||| M0 = M0) : Upd M0 s0 (vauxFall p s) := by
  refine Upd.step hU ?_ hM
  clear hU hM
  unfold vauxFall
  have h0 := Upd.refl 4503597604126287 s
  repeat' first | with_reducible assumption | (guard_target =~ (_ ||| _ : Nat) = _; decide) | (fail_if_no_progress extract_lets +onlyGivenNames x; first | (have hx : Upd 4503597604126287 s x := (by unfold x; repeat' first | with_reducible assumption | (guard_target =~ (_ ||| _ : Nat) = _; decide) | with_reducible apply Upd.ite | with_reducible apply peakOff_upd | with_reducible apply vauxNote_upd | with_reducible apply vauxBoth_upd | with_reducible apply clkRefresh_upd | with_reducible apply domainLoss_upd | with_reducible apply State.setPll_upd); try clear_value x) | (have h9 : (x : Peak) = x := rfl; clear h9) | (have h9 : (x : Saddle) = x := rfl; clear h9) | (have h9 : (x : Pair) = x := rfl; clear h9) | (have h9 : (x : Leg) = x := rfl; clear h9) | clear_value x | skip) | with_reducible apply Upd.ite | with_reducible apply peakOff_upd | with_reducible apply vauxNote_upd | with_reducible apply vauxBoth_upd | with_reducible apply clkRefresh_upd | with_reducible apply domainLoss_upd | with_reducible apply State.setPll_upd

theorem supplyFall_upd {M0 : Nat} {s0 : State} {sup : Supply} {s : State} (hU : Upd M0 s0 s) (hM : 4503599627370479 ||| M0 = M0) : Upd M0 s0 (supplyFall sup s) := by
  refine Upd.step hU ?_ hM
  clear hU hM
  unfold supplyFall
  have h0 := Upd.refl 4503599627370479 s
  repeat' first | with_reducible assumption | (guard_target =~ (_ ||| _ : Nat) = _; decide) | (fail_if_no_progress extract_lets +onlyGivenNames x; first | (have hx : Upd 4503599627370479 s x := (by unfold x; repeat' first | with_reducible assumption | (guard_target =~ (_ ||| _ : Nat) = _; decide) | with_reducible apply Upd.ite | with_reducible apply lcsInterrupt_upd | with_reducible apply deviceReset_upd | with_reducible apply vauxFall_upd | with_reducible apply gatesDown_upd | with_reducible apply State.setFld_upd | split | with_reducible apply Upd.lit | exact rfl | exact SadUpd.refl _ _ | with_reducible apply SadUpd.ite | apply SadUpd.mk | exact fun _ => PeakUpd.refl _ _ | exact Or.inl (by decide) | exact Or.inr rfl); try clear_value x) | (have h9 : (x : Peak) = x := rfl; clear h9) | (have h9 : (x : Saddle) = x := rfl; clear h9) | (have h9 : (x : Pair) = x := rfl; clear h9) | (have h9 : (x : Leg) = x := rfl; clear h9) | clear_value x | skip) | with_reducible apply Upd.ite | with_reducible apply lcsInterrupt_upd | with_reducible apply deviceReset_upd | with_reducible apply vauxFall_upd | with_reducible apply gatesDown_upd | with_reducible apply State.setFld_upd | split | with_reducible apply Upd.lit | exact rfl | exact SadUpd.refl _ _ | with_reducible apply SadUpd.ite | apply SadUpd.mk | exact fun _ => PeakUpd.refl _ _ | exact Or.inl (by decide) | exact Or.inr rfl

theorem execSupplyRise_upd (sup : Supply) (legs : BitVec 6) (s : State) {t : State} (hX : execSupplyRise sup legs s = .next t) : Upd 67117057 s t := by
  unfold execSupplyRise at hX
  cases hX
  have h0 := Upd.refl 67117057 s
  repeat' first | with_reducible assumption | (guard_target =~ (_ ||| _ : Nat) = _; decide) | with_reducible apply supplyRise_upd

theorem execSupplyFall_upd (sup : Supply) (s : State) {t : State} (hX : execSupplyFall sup s = .next t) : Upd 4503599627370479 s t := by
  unfold execSupplyFall at hX
  cases hX
  have h0 := Upd.refl 4503599627370479 s
  repeat' first | with_reducible assumption | (guard_target =~ (_ ||| _ : Nat) = _; decide) | with_reducible apply supplyFall_upd

theorem tposOn_upd {M0 : Nat} {s0 : State} {s : State} (hU : Upd M0 s0 s) (hM : 1 ||| M0 = M0) : Upd M0 s0 (tposOn s) := by
  refine Upd.step hU ?_ hM
  clear hU hM
  unfold tposOn
  have h0 := Upd.refl 1 s
  repeat' first | with_reducible assumption | (guard_target =~ (_ ||| _ : Nat) = _; decide) | with_reducible apply State.setFld_upd

theorem bivouacWrite_upd {M0 : Nat} {s0 : State} {p : PeakId} {v : Nat} {s : State} (hU : Upd M0 s0 s) (hM : 248524090850317 ||| M0 = M0) : Upd M0 s0 (bivouacWrite p v s) := by
  refine Upd.step hU ?_ hM
  clear hU hM
  unfold bivouacWrite
  have h0 := Upd.refl 248524090850317 s
  repeat' first | with_reducible assumption | (guard_target =~ (_ ||| _ : Nat) = _; decide) | (fail_if_no_progress extract_lets +onlyGivenNames x; first | (have hx : Upd 248524090850317 s x := (by unfold x; repeat' first | with_reducible assumption | (guard_target =~ (_ ||| _ : Nat) = _; decide) | with_reducible apply Upd.ite | with_reducible apply State.setFld_upd | with_reducible apply State.raise_upd | with_reducible apply tposOn_upd | with_reducible apply batonTake_upd | with_reducible apply setPhase_upd | with_reducible apply safChanged_upd | with_reducible apply Upd.lit | exact rfl | exact SadUpd.refl _ _ | with_reducible apply SadUpd.ite | apply SadUpd.mk | exact fun _ => PeakUpd.refl _ _ | exact Or.inl (by decide) | exact Or.inr rfl); try clear_value x) | (have h9 : (x : Peak) = x := rfl; clear h9) | (have h9 : (x : Saddle) = x := rfl; clear h9) | (have h9 : (x : Pair) = x := rfl; clear h9) | (have h9 : (x : Leg) = x := rfl; clear h9) | clear_value x | skip) | with_reducible apply Upd.ite | with_reducible apply State.setFld_upd | with_reducible apply State.raise_upd | with_reducible apply tposOn_upd | with_reducible apply batonTake_upd | with_reducible apply setPhase_upd | with_reducible apply safChanged_upd | with_reducible apply Upd.lit | exact rfl | exact SadUpd.refl _ _ | with_reducible apply SadUpd.ite | apply SadUpd.mk | exact fun _ => PeakUpd.refl _ _ | exact Or.inl (by decide) | exact Or.inr rfl

theorem execBivouacEnter_upd (m : Master) (val : Word) (s : State) {t : State} (hX : execBivouacEnter m val s = .next t) : Upd 248524090850317 s t := by
  unfold execBivouacEnter at hX
  cases hX
  have h0 := Upd.refl 248524090850317 s
  repeat' first | with_reducible assumption | (guard_target =~ (_ ||| _ : Nat) = _; decide) | with_reducible apply Upd.ite | with_reducible apply bivouacWrite_upd

theorem bivouacGated_upd {M0 : Nat} {s0 : State} {s : State} (hU : Upd M0 s0 s) (hM : 4503598419410671 ||| M0 = M0) : Upd M0 s0 (bivouacGated s) := by
  refine Upd.step hU ?_ hM
  clear hU hM
  unfold bivouacGated
  have h0 := Upd.refl 4503598419410671 s
  repeat' first | with_reducible assumption | (guard_target =~ (_ ||| _ : Nat) = _; decide) | (fail_if_no_progress extract_lets +onlyGivenNames x; first | (have hx : Upd 4503598419410671 s x := (by unfold x; repeat' first | with_reducible assumption | (guard_target =~ (_ ||| _ : Nat) = _; decide) | with_reducible apply Upd.ite | with_reducible apply peakOff_upd | with_reducible apply copyAbort_upd | with_reducible refine Upd.forAll ?_ (fun _ _ _ => ?_) | with_reducible refine Upd.bothPeaks ?_ (fun _ _ _ => ?_) | with_reducible apply State.setReg_upd | with_reducible apply setRole_upd | with_reducible apply State.setFld_upd | with_reducible apply State.setPll_upd | with_reducible apply refLossBivouac_upd | with_reducible apply saddleGate_upd | with_reducible apply setPhase_upd | with_reducible apply clkRefresh_upd | with_reducible apply safChanged_upd | with_reducible apply Upd.lit | exact rfl | exact SadUpd.refl _ _ | with_reducible apply SadUpd.ite | apply SadUpd.mk | exact fun _ => PeakUpd.refl _ _ | exact Or.inl (by decide) | exact Or.inr rfl); try clear_value x) | (have h9 : (x : Peak) = x := rfl; clear h9) | (have h9 : (x : Saddle) = x := rfl; clear h9) | (have h9 : (x : Pair) = x := rfl; clear h9) | (have h9 : (x : Leg) = x := rfl; clear h9) | clear_value x | skip) | with_reducible apply Upd.ite | with_reducible apply peakOff_upd | with_reducible apply copyAbort_upd | with_reducible refine Upd.forAll ?_ (fun _ _ _ => ?_) | with_reducible refine Upd.bothPeaks ?_ (fun _ _ _ => ?_) | with_reducible apply State.setReg_upd | with_reducible apply setRole_upd | with_reducible apply State.setFld_upd | with_reducible apply State.setPll_upd | with_reducible apply refLossBivouac_upd | with_reducible apply saddleGate_upd | with_reducible apply setPhase_upd | with_reducible apply clkRefresh_upd | with_reducible apply safChanged_upd | with_reducible apply Upd.lit | exact rfl | exact SadUpd.refl _ _ | with_reducible apply SadUpd.ite | apply SadUpd.mk | exact fun _ => PeakUpd.refl _ _ | exact Or.inl (by decide) | exact Or.inr rfl

theorem execBivouacEntryComplete_upd (s : State) {t : State} (hX : execBivouacEntryComplete s = .next t) : Upd 4503598419410671 s t := by
  unfold execBivouacEntryComplete at hX
  cases hX
  have h0 := Upd.refl 4503598419410671 s
  repeat' first | with_reducible assumption | (guard_target =~ (_ ||| _ : Nat) = _; decide) | with_reducible apply Upd.ite | with_reducible apply wakeGo_upd | with_reducible apply bivouacGated_upd

theorem wakeOn_upd {M0 : Nat} {s0 : State} {src : BitVec 3} {s : State} (hU : Upd M0 s0 s) (hM : 83886080 ||| M0 = M0) : Upd M0 s0 (wakeOn src s) := by
  refine Upd.step hU ?_ hM
  clear hU hM
  unfold wakeOn
  have h0 := Upd.refl 83886080 s
  repeat' first | with_reducible assumption | (guard_target =~ (_ ||| _ : Nat) = _; decide) | with_reducible apply Upd.ite | with_reducible apply wakeGo_upd | with_reducible apply Upd.lit | exact rfl | exact SadUpd.refl _ _ | with_reducible apply SadUpd.ite | apply SadUpd.mk | exact fun _ => PeakUpd.refl _ _ | exact Or.inl (by decide) | exact Or.inr rfl

theorem execWakeEvent_upd (col : Bool) (sin : BitVec 8) (s : State) {t : State} (hX : execWakeEvent col sin s = .next t) : Upd 83886080 s t := by
  unfold execWakeEvent at hX
  cases hX
  have h0 := Upd.refl 83886080 s
  repeat' first | with_reducible assumption | (guard_target =~ (_ ||| _ : Nat) = _; decide) | (fail_if_no_progress extract_lets +onlyGivenNames x; first | (have hx : Upd 83886080 s x := (by unfold x; repeat' first | with_reducible assumption | (guard_target =~ (_ ||| _ : Nat) = _; decide) | with_reducible apply Upd.ite | with_reducible apply wakeOn_upd); try clear_value x) | (have h9 : (x : Peak) = x := rfl; clear h9) | (have h9 : (x : Saddle) = x := rfl; clear h9) | (have h9 : (x : Pair) = x := rfl; clear h9) | (have h9 : (x : Leg) = x := rfl; clear h9) | clear_value x | skip) | with_reducible apply Upd.ite | with_reducible apply wakeOn_upd

theorem execWakeAlarm_upd (s : State) {t : State} (hX : execWakeAlarm s = .next t) : Upd 83886080 s t := by
  unfold execWakeAlarm at hX
  cases hX
  have h0 := Upd.refl 83886080 s
  repeat' first | with_reducible assumption | (guard_target =~ (_ ||| _ : Nat) = _; decide) | with_reducible apply Upd.ite | with_reducible apply wakeOn_upd

theorem crossingTimeout_upd {M0 : Nat} {s0 : State} {p : PeakId} {dest : Nat} {addr : Nat} {write : Bool} {s : State} (hU : Upd M0 s0 s) (hM : 17 ||| M0 = M0) : Upd M0 s0 (crossingTimeout p dest addr write s) := by
  refine Upd.step hU ?_ hM
  clear hU hM
  unfold crossingTimeout
  have h0 := Upd.refl 17 s
  repeat' first | with_reducible assumption | (guard_target =~ (_ ||| _ : Nat) = _; decide) | with_reducible apply Upd.ite | with_reducible apply xtoRecord_upd | with_reducible apply Upd.lit | exact rfl | exact SadUpd.refl _ _ | with_reducible apply SadUpd.ite | apply SadUpd.mk | exact fun _ => PeakUpd.refl _ _ | exact Or.inl (by decide) | exact Or.inr rfl

theorem execCrossingTimeout_upd (m : Master) (dest : Fin 6) (addr : Word) (write : Bool) (s : State) {t : State} (hX : execCrossingTimeout m dest addr write s = .next t) : Upd 17 s t := by
  unfold execCrossingTimeout at hX
  cases hX
  have h0 := Upd.refl 17 s
  repeat' first | with_reducible assumption | (guard_target =~ (_ ||| _ : Nat) = _; decide) | with_reducible apply crossingTimeout_upd

end Sys2Proof.Machine
end

