-- ==== Sys2Proof/Laws/UpdThermal.lean ====
section
/-! SUPPORT. What each operation of Machine/Thermal.lean may change. -/

set_option linter.unusedTactic false
set_option linter.unreachableTactic false

namespace Sys2Proof.Machine

theorem setStates_upd {M0 : Nat} {s0 : State} {n : Nat} {l : List Bool} {s : State} (hU : Upd M0 s0 s) (hM : 1 ||| M0 = M0) : Upd M0 s0 (setStates n l s) := by
  refine Upd.step hU ?_ hM
  clear hU hM
  unfold setStates
  have h0 := Upd.refl 1 s
  repeat' first | with_reducible assumption | (guard_target =~ (_ ||| _ : Nat) = _; decide) | with_reducible refine Upd.forAll ?_ (fun _ _ _ => ?_) | with_reducible apply State.setBit_upd

theorem takeReading_upd {M0 : Nat} {s0 : State} {n : Nat} {v : Nat} {s : State} (hU : Upd M0 s0 s) (hM : 1 ||| M0 = M0) : Upd M0 s0 (takeReading n v s) := by
  refine Upd.step hU ?_ hM
  clear hU hM
  unfold takeReading
  have h0 := Upd.refl 1 s
  repeat' first | with_reducible assumption | (guard_target =~ (_ ||| _ : Nat) = _; decide) | (fail_if_no_progress extract_lets +onlyGivenNames x; first | (have hx : Upd 1 s x := (by unfold x; repeat' first | with_reducible assumption | (guard_target =~ (_ ||| _ : Nat) = _; decide) | with_reducible apply State.setFld_upd | with_reducible apply setStates_upd | with_reducible apply State.setBit_upd); try clear_value x) | (have hx : Upd 1 s x.2 := (by unfold x; repeat' first | with_reducible assumption | (guard_target =~ (_ ||| _ : Nat) = _; decide) | with_reducible apply State.setFld_upd | with_reducible apply setStates_upd | with_reducible apply State.setBit_upd); try clear_value x) | (have h9 : (x : Peak) = x := rfl; clear h9) | (have h9 : (x : Saddle) = x := rfl; clear h9) | (have h9 : (x : Pair) = x := rfl; clear h9) | (have h9 : (x : Leg) = x := rfl; clear h9) | clear_value x | skip) | with_reducible apply State.setFld_upd | with_reducible apply setStates_upd | with_reducible apply State.setBit_upd

theorem sensorFault_upd {M0 : Nat} {s0 : State} {n : Nat} {s : State} (hU : Upd M0 s0 s) (hM : 8388609 ||| M0 = M0) : Upd M0 s0 (sensorFault n s) := by
  refine Upd.step hU ?_ hM
  clear hU hM
  unfold sensorFault
  have h0 := Upd.refl 8388609 s
  repeat' first | with_reducible assumption | (guard_target =~ (_ ||| _ : Nat) = _; decide) | (fail_if_no_progress extract_lets +onlyGivenNames x; first | (have hx : Upd 8388609 s x := (by unfold x; repeat' first | with_reducible assumption | (guard_target =~ (_ ||| _ : Nat) = _; decide) | with_reducible apply State.setFld_upd | with_reducible apply setStates_upd | with_reducible apply Upd.lit | exact rfl | exact SadUpd.refl _ _ | with_reducible apply SadUpd.ite | apply SadUpd.mk | exact fun _ => PeakUpd.refl _ _ | exact Or.inl (by decide) | exact Or.inr rfl); try clear_value x) | (have h9 : (x : Peak) = x := rfl; clear h9) | (have h9 : (x : Saddle) = x := rfl; clear h9) | (have h9 : (x : Pair) = x := rfl; clear h9) | (have h9 : (x : Leg) = x := rfl; clear h9) | clear_value x | skip) | with_reducible apply State.setFld_upd | with_reducible apply setStates_upd | with_reducible apply Upd.lit | exact rfl | exact SadUpd.refl _ _ | with_reducible apply SadUpd.ite | apply SadUpd.mk | exact fun _ => PeakUpd.refl _ _ | exact Or.inl (by decide) | exact Or.inr rfl

theorem sensorGood_upd {M0 : Nat} {s0 : State} {n : Nat} {v : Nat} {s : State} (hU : Upd M0 s0 s) (hM : 8388609 ||| M0 = M0) : Upd M0 s0 (sensorGood n v s) := by
  refine Upd.step hU ?_ hM
  clear hU hM
  unfold sensorGood
  have h0 := Upd.refl 8388609 s
  repeat' first | with_reducible assumption | (guard_target =~ (_ ||| _ : Nat) = _; decide) | (fail_if_no_progress extract_lets +onlyGivenNames x; first | (have hx : Upd 8388609 s x := (by unfold x; repeat' first | with_reducible assumption | (guard_target =~ (_ ||| _ : Nat) = _; decide) | with_reducible apply Upd.ite | with_reducible apply takeReading_upd | with_reducible apply State.setFld_upd | with_reducible apply Upd.lit | exact rfl | exact SadUpd.refl _ _ | with_reducible apply SadUpd.ite | apply SadUpd.mk | exact fun _ => PeakUpd.refl _ _ | exact Or.inl (by decide) | exact Or.inr rfl); try clear_value x) | (have h9 : (x : Peak) = x := rfl; clear h9) | (have h9 : (x : Saddle) = x := rfl; clear h9) | (have h9 : (x : Pair) = x := rfl; clear h9) | (have h9 : (x : Leg) = x := rfl; clear h9) | clear_value x | skip) | with_reducible apply Upd.ite | with_reducible apply takeReading_upd | with_reducible apply State.setFld_upd | with_reducible apply Upd.lit | exact rfl | exact SadUpd.refl _ _ | with_reducible apply SadUpd.ite | apply SadUpd.mk | exact fun _ => PeakUpd.refl _ _ | exact Or.inl (by decide) | exact Or.inr rfl

theorem floorMark_upd {M0 : Nat} {s0 : State} {s : State} (hU : Upd M0 s0 s) (hM : 1 ||| M0 = M0) : Upd M0 s0 (floorMark s) := by
  refine Upd.step hU ?_ hM
  clear hU hM
  unfold floorMark
  have h0 := Upd.refl 1 s
  repeat' first | with_reducible assumption | (guard_target =~ (_ ||| _ : Nat) = _; decide) | (fail_if_no_progress extract_lets +onlyGivenNames x; first | (have hx : Upd 1 s x := (by unfold x; repeat' first | with_reducible assumption | (guard_target =~ (_ ||| _ : Nat) = _; decide) | with_reducible apply Upd.ite | with_reducible apply State.setBoth_upd | with_reducible apply State.setBit_upd); try clear_value x) | (have h9 : (x : Peak) = x := rfl; clear h9) | (have h9 : (x : Saddle) = x := rfl; clear h9) | (have h9 : (x : Pair) = x := rfl; clear h9) | (have h9 : (x : Leg) = x := rfl; clear h9) | clear_value x | skip) | with_reducible apply Upd.ite | with_reducible apply State.setBoth_upd | with_reducible apply State.setBit_upd

theorem fallStep_upd {M0 : Nat} {s0 : State} {s : State} (hU : Upd M0 s0 s) (hM : 1 ||| M0 = M0) : Upd M0 s0 (fallStep s) := by
  refine Upd.step hU ?_ hM
  clear hU hM
  unfold fallStep
  have h0 := Upd.refl 1 s
  repeat' first | with_reducible assumption | (guard_target =~ (_ ||| _ : Nat) = _; decide) | (fail_if_no_progress extract_lets +onlyGivenNames x; first | (have hx : Upd 1 s x := (by unfold x; repeat' first | with_reducible assumption | (guard_target =~ (_ ||| _ : Nat) = _; decide) | with_reducible apply Upd.ite | with_reducible apply floorMark_upd | with_reducible apply State.setFld_upd | with_reducible apply State.bump_upd); try clear_value x) | (have h9 : (x : Peak) = x := rfl; clear h9) | (have h9 : (x : Saddle) = x := rfl; clear h9) | (have h9 : (x : Pair) = x := rfl; clear h9) | (have h9 : (x : Leg) = x := rfl; clear h9) | clear_value x | skip) | with_reducible apply Upd.ite | with_reducible apply floorMark_upd | with_reducible apply State.setFld_upd | with_reducible apply State.bump_upd

theorem thmRefresh_upd {M0 : Nat} {s0 : State} {s : State} (hU : Upd M0 s0 s) (hM : 248523988086797 ||| M0 = M0) : Upd M0 s0 (thmRefresh s) := by
  refine Upd.step hU ?_ hM
  clear hU hM
  unfold thmRefresh
  have h0 := Upd.refl 248523988086797 s
  repeat' first | with_reducible assumption | (guard_target =~ (_ ||| _ : Nat) = _; decide) | with_reducible apply h90 | with_reducible apply h91 | with_reducible apply h92 | with_reducible apply h93 | with_reducible apply h94 | (fail_if_no_progress extract_lets +onlyGivenNames x; first | (have hx : Upd 248523988086797 s x := (by unfold x; repeat' first | with_reducible assumption | (guard_target =~ (_ ||| _ : Nat) = _; decide) | with_reducible apply h90 | with_reducible apply h91 | with_reducible apply h92 | with_reducible apply h93 | with_reducible apply h94 | with_reducible apply Upd.ite | with_reducible apply State.setBit_upd | with_reducible apply fallStep_upd | with_reducible apply State.setFld_upd | with_reducible apply tripInput_upd | with_reducible apply floorMark_upd); try clear_value x) | (have h9 : (x : Peak) = x := rfl; clear h9) | (have h9 : (x : Saddle) = x := rfl; clear h9) | (have h9 : (x : Pair) = x := rfl; clear h9) | (have h9 : (x : Leg) = x := rfl; clear h9) | (have h90 : ∀  t, Upd 248523988086797 s t → Upd 248523988086797 s (x  t) := (by intro  t ht; unfold x; repeat' first | with_reducible assumption | (guard_target =~ (_ ||| _ : Nat) = _; decide) | with_reducible apply h90 | with_reducible apply h91 | with_reducible apply h92 | with_reducible apply h93 | with_reducible apply h94 | with_reducible apply Upd.ite | with_reducible apply State.setBit_upd | with_reducible apply fallStep_upd | with_reducible apply State.setFld_upd | with_reducible apply tripInput_upd | with_reducible apply floorMark_upd); try clear_value x) | (have h91 : ∀ a0 t, Upd 248523988086797 s t → Upd 248523988086797 s (x a0 t) := (by intro a0 t ht; unfold x; repeat' first | with_reducible assumption | (guard_target =~ (_ ||| _ : Nat) = _; decide) | with_reducible apply h90 | with_reducible apply h91 | with_reducible apply h92 | with_reducible apply h93 | with_reducible apply h94 | with_reducible apply Upd.ite | with_reducible apply State.setBit_upd | with_reducible apply fallStep_upd | with_reducible apply State.setFld_upd | with_reducible apply tripInput_upd | with_reducible apply floorMark_upd); try clear_value x) | (have h92 : ∀ a0 a1 t, Upd 248523988086797 s t → Upd 248523988086797 s (x a0 a1 t) := (by intro a0 a1 t ht; unfold x; repeat' first | with_reducible assumption | (guard_target =~ (_ ||| _ : Nat) = _; decide) | with_reducible apply h90 | with_reducible apply h91 | with_reducible apply h92 | with_reducible apply h93 | with_reducible apply h94 | with_reducible apply Upd.ite | with_reducible apply State.setBit_upd | with_reducible apply fallStep_upd | with_reducible apply State.setFld_upd | with_reducible apply tripInput_upd | with_reducible apply floorMark_upd); try clear_value x) | (have h93 : ∀ a0 a1 a2 t, Upd 248523988086797 s t → Upd 248523988086797 s (x a0 a1 a2 t) := (by intro a0 a1 a2 t ht; unfold x; repeat' first | with_reducible assumption | (guard_target =~ (_ ||| _ : Nat) = _; decide) | with_reducible apply h90 | with_reducible apply h91 | with_reducible apply h92 | with_reducible apply h93 | with_reducible apply h94 | with_reducible apply Upd.ite | with_reducible apply State.setBit_upd | with_reducible apply fallStep_upd | with_reducible apply State.setFld_upd | with_reducible apply tripInput_upd | with_reducible apply floorMark_upd); try clear_value x) | (have h94 : ∀ a0 a1 a2 a3 t, Upd 248523988086797 s t → Upd 248523988086797 s (x a0 a1 a2 a3 t) := (by intro a0 a1 a2 a3 t ht; unfold x; repeat' first | with_reducible assumption | (guard_target =~ (_ ||| _ : Nat) = _; decide) | with_reducible apply h90 | with_reducible apply h91 | with_reducible apply h92 | with_reducible apply h93 | with_reducible apply h94 | with_reducible apply Upd.ite | with_reducible apply State.setBit_upd | with_reducible apply fallStep_upd | with_reducible apply State.setFld_upd | with_reducible apply tripInput_upd | with_reducible apply floorMark_upd); try clear_value x) | clear_value x | skip) | with_reducible apply Upd.ite | with_reducible apply State.setBit_upd | with_reducible apply fallStep_upd | with_reducible apply State.setFld_upd | with_reducible apply tripInput_upd | with_reducible apply floorMark_upd

theorem sensorChange_upd {M0 : Nat} {s0 : State} {n : Nat} {s0 : State} {s : State} (hU : Upd M0 s0 s) (hM : 248523988086797 ||| M0 = M0) : Upd M0 s0 (sensorChange n s0 s) := by
  refine Upd.step hU ?_ hM
  clear hU hM
  unfold sensorChange
  have h0 := Upd.refl 248523988086797 s
  repeat' first | with_reducible assumption | (guard_target =~ (_ ||| _ : Nat) = _; decide) | with_reducible apply h90 | with_reducible apply h91 | with_reducible apply h92 | with_reducible apply h93 | with_reducible apply h94 | (fail_if_no_progress extract_lets +onlyGivenNames x; first | (have hx : Upd 248523988086797 s x := (by unfold x; repeat' first | with_reducible assumption | (guard_target =~ (_ ||| _ : Nat) = _; decide) | with_reducible apply h90 | with_reducible apply h91 | with_reducible apply h92 | with_reducible apply h93 | with_reducible apply h94 | with_reducible apply Upd.ite | with_reducible apply State.setBoth_upd | with_reducible apply thmRefresh_upd | with_reducible apply fireBoth_upd); try clear_value x) | (have h9 : (x : Peak) = x := rfl; clear h9) | (have h9 : (x : Saddle) = x := rfl; clear h9) | (have h9 : (x : Pair) = x := rfl; clear h9) | (have h9 : (x : Leg) = x := rfl; clear h9) | (have h90 : ∀  t, Upd 248523988086797 s t → Upd 248523988086797 s (x  t) := (by intro  t ht; unfold x; repeat' first | with_reducible assumption | (guard_target =~ (_ ||| _ : Nat) = _; decide) | with_reducible apply h90 | with_reducible apply h91 | with_reducible apply h92 | with_reducible apply h93 | with_reducible apply h94 | with_reducible apply Upd.ite | with_reducible apply State.setBoth_upd | with_reducible apply thmRefresh_upd | with_reducible apply fireBoth_upd); try clear_value x) | (have h91 : ∀ a0 t, Upd 248523988086797 s t → Upd 248523988086797 s (x a0 t) := (by intro a0 t ht; unfold x; repeat' first | with_reducible assumption | (guard_target =~ (_ ||| _ : Nat) = _; decide) | with_reducible apply h90 | with_reducible apply h91 | with_reducible apply h92 | with_reducible apply h93 | with_reducible apply h94 | with_reducible apply Upd.ite | with_reducible apply State.setBoth_upd | with_reducible apply thmRefresh_upd | with_reducible apply fireBoth_upd); try clear_value x) | (have h92 : ∀ a0 a1 t, Upd 248523988086797 s t → Upd 248523988086797 s (x a0 a1 t) := (by intro a0 a1 t ht; unfold x; repeat' first | with_reducible assumption | (guard_target =~ (_ ||| _ : Nat) = _; decide) | with_reducible apply h90 | with_reducible apply h91 | with_reducible apply h92 | with_reducible apply h93 | with_reducible apply h94 | with_reducible apply Upd.ite | with_reducible apply State.setBoth_upd | with_reducible apply thmRefresh_upd | with_reducible apply fireBoth_upd); try clear_value x) | (have h93 : ∀ a0 a1 a2 t, Upd 248523988086797 s t → Upd 248523988086797 s (x a0 a1 a2 t) := (by intro a0 a1 a2 t ht; unfold x; repeat' first | with_reducible assumption | (guard_target =~ (_ ||| _ : Nat) = _; decide) | with_reducible apply h90 | with_reducible apply h91 | with_reducible apply h92 | with_reducible apply h93 | with_reducible apply h94 | with_reducible apply Upd.ite | with_reducible apply State.setBoth_upd | with_reducible apply thmRefresh_upd | with_reducible apply fireBoth_upd); try clear_value x) | (have h94 : ∀ a0 a1 a2 a3 t, Upd 248523988086797 s t → Upd 248523988086797 s (x a0 a1 a2 a3 t) := (by intro a0 a1 a2 a3 t ht; unfold x; repeat' first | with_reducible assumption | (guard_target =~ (_ ||| _ : Nat) = _; decide) | with_reducible apply h90 | with_reducible apply h91 | with_reducible apply h92 | with_reducible apply h93 | with_reducible apply h94 | with_reducible apply Upd.ite | with_reducible apply State.setBoth_upd | with_reducible apply thmRefresh_upd | with_reducible apply fireBoth_upd); try clear_value x) | clear_value x | skip) | with_reducible apply Upd.ite | with_reducible apply State.setBoth_upd | with_reducible apply thmRefresh_upd | with_reducible apply fireBoth_upd

theorem measure_upd {M0 : Nat} {s0 : State} {n : Nat} {v : Nat} {bad : Bool} {s : State} (hU : Upd M0 s0 s) (hM : 248523996475405 ||| M0 = M0) : Upd M0 s0 (measure n v bad s) := by
  refine Upd.step hU ?_ hM
  clear hU hM
  unfold measure
  have h0 := Upd.refl 248523996475405 s
  repeat' first | with_reducible assumption | (guard_target =~ (_ ||| _ : Nat) = _; decide) | with_reducible apply Upd.ite | with_reducible apply sensorChange_upd | with_reducible apply sensorFault_upd | with_reducible apply sensorGood_upd

theorem execThermalMeasurement_upd (n : Fin 12) (reading : BitVec 16) (bad : Bool) (s : State) {t : State} (hX : execThermalMeasurement n reading bad s = .next t) : Upd 248523996475405 s t := by
  unfold execThermalMeasurement at hX
  cases hX
  have h0 := Upd.refl 248523996475405 s
  repeat' first | with_reducible assumption | (guard_target =~ (_ ||| _ : Nat) = _; decide) | with_reducible apply measure_upd

theorem sensorRetire_upd {M0 : Nat} {s0 : State} {n : Nat} {s : State} (hU : Upd M0 s0 s) (hM : 248523996475405 ||| M0 = M0) : Upd M0 s0 (sensorRetire n s) := by
  refine Upd.step hU ?_ hM
  clear hU hM
  unfold sensorRetire
  have h0 := Upd.refl 248523996475405 s
  repeat' first | with_reducible assumption | (guard_target =~ (_ ||| _ : Nat) = _; decide) | with_reducible apply Upd.ite | with_reducible apply sensorChange_upd | with_reducible apply sensorFault_upd | with_reducible apply State.setFld_upd

theorem execThrottleStep_upd (s : State) {t : State} (hX : execThrottleStep s = .next t) : Upd 1 s t := by
  unfold execThrottleStep at hX
  cases hX
  have h0 := Upd.refl 1 s
  repeat' first | with_reducible assumption | (guard_target =~ (_ ||| _ : Nat) = _; decide) | with_reducible apply Upd.ite | with_reducible apply fallStep_upd

theorem execThrottleRecoverStep_upd (s : State) {t : State} (hX : execThrottleRecoverStep s = .next t) : Upd 1 s t := by
  unfold execThrottleRecoverStep at hX
  cases hX
  have h0 := Upd.refl 1 s
  repeat' first | with_reducible assumption | (guard_target =~ (_ ||| _ : Nat) = _; decide) | (fail_if_no_progress extract_lets +onlyGivenNames x; first | (have hx : Upd 1 s x := (by unfold x; repeat' first | with_reducible assumption | (guard_target =~ (_ ||| _ : Nat) = _; decide) | with_reducible apply Upd.ite | with_reducible apply State.setFld_upd | with_reducible apply State.setBit_upd); try clear_value x) | (have h9 : (x : Peak) = x := rfl; clear h9) | (have h9 : (x : Saddle) = x := rfl; clear h9) | (have h9 : (x : Pair) = x := rfl; clear h9) | (have h9 : (x : Leg) = x := rfl; clear h9) | clear_value x | skip) | with_reducible apply Upd.ite | with_reducible apply State.setFld_upd | with_reducible apply State.setBit_upd

theorem thmCtrlWrite_upd {M0 : Nat} {s0 : State} {p : PeakId} {v : Nat} {s : State} (hU : Upd M0 s0 s) (hM : 1 ||| M0 = M0) : Upd M0 s0 (thmCtrlWrite p v s) := by
  refine Upd.step hU ?_ hM
  clear hU hM
  unfold thmCtrlWrite
  have h0 := Upd.refl 1 s
  repeat' first | with_reducible assumption | (guard_target =~ (_ ||| _ : Nat) = _; decide) | (fail_if_no_progress extract_lets +onlyGivenNames x; first | (have hx : Upd 1 s x := (by unfold x; repeat' first | with_reducible assumption | (guard_target =~ (_ ||| _ : Nat) = _; decide) | with_reducible apply Upd.ite | with_reducible apply State.raise_upd | with_reducible apply State.setReg_upd | with_reducible apply State.setFld_upd | with_reducible apply floorMark_upd); try clear_value x) | (have h9 : (x : Peak) = x := rfl; clear h9) | (have h9 : (x : Saddle) = x := rfl; clear h9) | (have h9 : (x : Pair) = x := rfl; clear h9) | (have h9 : (x : Leg) = x := rfl; clear h9) | clear_value x | skip) | with_reducible apply Upd.ite | with_reducible apply State.raise_upd | with_reducible apply State.setReg_upd | with_reducible apply State.setFld_upd | with_reducible apply floorMark_upd

theorem execFloorWrite_upd (m : Master) (val : Word) (s : State) {t : State} (hX : execFloorWrite m val s = .next t) : Upd 1 s t := by
  unfold execFloorWrite at hX
  cases hX
  have h0 := Upd.refl 1 s
  repeat' first | with_reducible assumption | (guard_target =~ (_ ||| _ : Nat) = _; decide) | with_reducible refine gated_upd ?_ (fun _ _ => ?_) ?_ | with_reducible apply thmCtrlWrite_upd

theorem remoteWrite_upd {M0 : Nat} {s0 : State} {p : PeakId} {n : Nat} {off : Nat} {v : Nat} {s : State} (hU : Upd M0 s0 s) (hM : 248523988086797 ||| M0 = M0) : Upd M0 s0 (remoteWrite p n off v s) := by
  refine Upd.step hU ?_ hM
  clear hU hM
  unfold remoteWrite
  have h0 := Upd.refl 248523988086797 s
  repeat' first | with_reducible assumption | (guard_target =~ (_ ||| _ : Nat) = _; decide) | (fail_if_no_progress extract_lets +onlyGivenNames x; first | (have hx : Upd 248523988086797 s x := (by unfold x; repeat' first | with_reducible assumption | (guard_target =~ (_ ||| _ : Nat) = _; decide) | with_reducible apply Upd.ite | with_reducible apply State.raise_upd | with_reducible apply State.setFld_upd | with_reducible apply State.setReg_upd | with_reducible apply thmRefresh_upd | with_reducible apply setStates_upd); try clear_value x) | (have h9 : (x : Peak) = x := rfl; clear h9) | (have h9 : (x : Saddle) = x := rfl; clear h9) | (have h9 : (x : Pair) = x := rfl; clear h9) | (have h9 : (x : Leg) = x := rfl; clear h9) | clear_value x | skip) | with_reducible apply Upd.ite | with_reducible apply State.raise_upd | with_reducible apply State.setFld_upd | with_reducible apply State.setReg_upd | with_reducible apply thmRefresh_upd | with_reducible apply setStates_upd

theorem onDieWrite_upd {M0 : Nat} {s0 : State} {p : PeakId} {n : Nat} {off : Nat} {v : Nat} {s : State} (hU : Upd M0 s0 s) (hM : 248523988086797 ||| M0 = M0) : Upd M0 s0 (onDieWrite p n off v s) := by
  refine Upd.step hU ?_ hM
  clear hU hM
  unfold onDieWrite
  have h0 := Upd.refl 248523988086797 s
  repeat' first | with_reducible assumption | (guard_target =~ (_ ||| _ : Nat) = _; decide) | (fail_if_no_progress extract_lets +onlyGivenNames x; first | (have hx : Upd 248523988086797 s x := (by unfold x; repeat' first | with_reducible assumption | (guard_target =~ (_ ||| _ : Nat) = _; decide) | with_reducible apply Upd.ite | with_reducible apply State.setReg_upd | with_reducible apply State.raise_upd | with_reducible apply thmRefresh_upd | with_reducible apply setStates_upd); try clear_value x) | (have h9 : (x : Peak) = x := rfl; clear h9) | (have h9 : (x : Saddle) = x := rfl; clear h9) | (have h9 : (x : Pair) = x := rfl; clear h9) | (have h9 : (x : Leg) = x := rfl; clear h9) | clear_value x | skip) | with_reducible apply Upd.ite | with_reducible apply State.setReg_upd | with_reducible apply State.raise_upd | with_reducible apply thmRefresh_upd | with_reducible apply setStates_upd

theorem thmSensWrite_upd {M0 : Nat} {s0 : State} {p : PeakId} {n : Nat} {off : Nat} {v : Nat} {s : State} (hU : Upd M0 s0 s) (hM : 248523988086797 ||| M0 = M0) : Upd M0 s0 (thmSensWrite p n off v s) := by
  refine Upd.step hU ?_ hM
  clear hU hM
  unfold thmSensWrite
  have h0 := Upd.refl 248523988086797 s
  repeat' first | with_reducible assumption | (guard_target =~ (_ ||| _ : Nat) = _; decide) | with_reducible apply Upd.ite | with_reducible apply remoteWrite_upd | with_reducible apply onDieWrite_upd

end Sys2Proof.Machine
end

