-- ==== Sys2Proof/Laws/UpdBoot.lean ====
section
/-! SUPPORT. What each operation of Machine/Boot.lean may change. -/

set_option linter.unusedTactic false
set_option linter.unreachableTactic false

namespace Sys2Proof.Machine

theorem setBoot_upd {M0 : Nat} {s0 : State} {p : PeakId} {b : BootAt} {s : State} (hU : Upd M0 s0 s) (hM : 67108864 ||| M0 = M0) : Upd M0 s0 (setBoot p b s) := by
  refine Upd.step hU ?_ hM
  clear hU hM
  unfold setBoot
  have h0 := Upd.refl 67108864 s
  repeat' first | with_reducible assumption | (guard_target =~ (_ ||| _ : Nat) = _; decide) | with_reducible apply Upd.lit | exact rfl | exact SadUpd.refl _ _ | with_reducible apply SadUpd.ite | apply SadUpd.mk | exact fun _ => PeakUpd.refl _ _ | exact Or.inl (by decide) | exact Or.inr rfl

theorem colWait_upd {M0 : Nat} {s0 : State} {s : State} (hU : Upd M0 s0 s) (hM : 67108865 ||| M0 = M0) : Upd M0 s0 (colWait s) := by
  refine Upd.step hU ?_ hM
  clear hU hM
  unfold colWait
  have h0 := Upd.refl 67108865 s
  repeat' first | with_reducible assumption | (guard_target =~ (_ ||| _ : Nat) = _; decide) | (fail_if_no_progress extract_lets +onlyGivenNames x; first | (have hx : Upd 67108865 s x := (by unfold x; repeat' first | with_reducible assumption | (guard_target =~ (_ ||| _ : Nat) = _; decide) | with_reducible apply State.setGwFld_upd | with_reducible apply gwPend_upd | with_reducible apply State.setRegW_upd | with_reducible apply Upd.lit | exact rfl | exact SadUpd.refl _ _ | with_reducible apply SadUpd.ite | apply SadUpd.mk | exact fun _ => PeakUpd.refl _ _ | exact Or.inl (by decide) | exact Or.inr rfl); try clear_value x) | (have h9 : (x : Peak) = x := rfl; clear h9) | (have h9 : (x : Saddle) = x := rfl; clear h9) | (have h9 : (x : Pair) = x := rfl; clear h9) | (have h9 : (x : Leg) = x := rfl; clear h9) | clear_value x | skip) | with_reducible apply State.setGwFld_upd | with_reducible apply gwPend_upd | with_reducible apply State.setRegW_upd | with_reducible apply Upd.lit | exact rfl | exact SadUpd.refl _ _ | with_reducible apply SadUpd.ite | apply SadUpd.mk | exact fun _ => PeakUpd.refl _ _ | exact Or.inl (by decide) | exact Or.inr rfl

theorem fetchStart_upd {M0 : Nat} {s0 : State} {p : PeakId} {slot : Nat} {s : State} (hU : Upd M0 s0 s) (hM : 67108865 ||| M0 = M0) : Upd M0 s0 (fetchStart p slot s) := by
  refine Upd.step hU ?_ hM
  clear hU hM
  unfold fetchStart
  have h0 := Upd.refl 67108865 s
  repeat' first | with_reducible assumption | (guard_target =~ (_ ||| _ : Nat) = _; decide) | (fail_if_no_progress extract_lets +onlyGivenNames x; first | (have hx : Upd 67108865 s x := (by unfold x; repeat' first | with_reducible assumption | (guard_target =~ (_ ||| _ : Nat) = _; decide) | with_reducible apply setBoot_upd | with_reducible apply colWait_upd | split | with_reducible apply Upd.lit | exact rfl | exact SadUpd.refl _ _ | with_reducible apply SadUpd.ite | apply SadUpd.mk | exact fun _ => PeakUpd.refl _ _ | exact Or.inl (by decide) | exact Or.inr rfl); try clear_value x) | (have h9 : (x : Peak) = x := rfl; clear h9) | (have h9 : (x : Saddle) = x := rfl; clear h9) | (have h9 : (x : Pair) = x := rfl; clear h9) | (have h9 : (x : Leg) = x := rfl; clear h9) | clear_value x | skip) | with_reducible apply setBoot_upd | with_reducible apply colWait_upd | split | with_reducible apply Upd.lit | exact rfl | exact SadUpd.refl _ _ | with_reducible apply SadUpd.ite | apply SadUpd.mk | exact fun _ => PeakUpd.refl _ _ | exact Or.inl (by decide) | exact Or.inr rfl

theorem memoryPhase_upd {M0 : Nat} {s0 : State} {p : PeakId} {s : State} (hU : Upd M0 s0 s) (hM : 67108867 ||| M0 = M0) : Upd M0 s0 (memoryPhase p s) := by
  refine Upd.step hU ?_ hM
  clear hU hM
  unfold memoryPhase
  have h0 := Upd.refl 67108867 s
  repeat' first | with_reducible assumption | (guard_target =~ (_ ||| _ : Nat) = _; decide) | (fail_if_no_progress extract_lets +onlyGivenNames x; first | (have hx : Upd 67108867 s x := (by unfold x; repeat' first | with_reducible assumption | (guard_target =~ (_ ||| _ : Nat) = _; decide) | with_reducible apply Upd.ite | with_reducible apply State.clearBytes_upd | with_reducible apply fetchStart_upd); try clear_value x) | (have h9 : (x : Peak) = x := rfl; clear h9) | (have h9 : (x : Saddle) = x := rfl; clear h9) | (have h9 : (x : Pair) = x := rfl; clear h9) | (have h9 : (x : Leg) = x := rfl; clear h9) | clear_value x | skip) | with_reducible apply Upd.ite | with_reducible apply State.clearBytes_upd | with_reducible apply fetchStart_upd

theorem execMemoryPhaseComplete_upd (s : State) {t : State} (hX : execMemoryPhaseComplete s = .next t) : Upd 67108867 s t := by
  unfold execMemoryPhaseComplete at hX
  cases hX
  have h0 := Upd.refl 67108867 s
  repeat' first | with_reducible assumption | (guard_target =~ (_ ||| _ : Nat) = _; decide) | with_reducible refine Upd.bothPeaks ?_ (fun _ _ _ => ?_) | with_reducible apply memoryPhase_upd

theorem slotFetched_upd {M0 : Nat} {s0 : State} {slot : Nat} {img : List Byte} {s : State} (hU : Upd M0 s0 s) (hM : 67108864 ||| M0 = M0) : Upd M0 s0 (slotFetched slot img s) := by
  refine Upd.step hU ?_ hM
  clear hU hM
  unfold slotFetched
  have h0 := Upd.refl 67108864 s
  repeat' first | with_reducible assumption | (guard_target =~ (_ ||| _ : Nat) = _; decide) | with_reducible apply Upd.ite | with_reducible apply Upd.lit | exact rfl | exact SadUpd.refl _ _ | with_reducible apply SadUpd.ite | apply SadUpd.mk | exact fun _ => PeakUpd.refl _ _ | exact Or.inl (by decide) | exact Or.inr rfl

theorem execSlotFetchComplete_upd (slot : Fin 2) (img : List Byte) (s : State) {t : State} (hX : execSlotFetchComplete slot img s = .next t) : Upd 67108864 s t := by
  unfold execSlotFetchComplete at hX
  cases hX
  have h0 := Upd.refl 67108864 s
  repeat' first | with_reducible assumption | (guard_target =~ (_ ||| _ : Nat) = _; decide) | with_reducible apply slotFetched_upd

theorem bootData_upd {M0 : Nat} {s0 : State} {v : Word} {s : State} (hU : Upd M0 s0 s) (hM : 67108865 ||| M0 = M0) : Upd M0 s0 (bootData v s) := by
  refine Upd.step hU ?_ hM
  clear hU hM
  unfold bootData
  have h0 := Upd.refl 67108865 s
  repeat' first | with_reducible assumption | (guard_target =~ (_ ||| _ : Nat) = _; decide) | (fail_if_no_progress extract_lets +onlyGivenNames x; first | (have hx : Upd 67108865 s x := (by unfold x; repeat' first | with_reducible assumption | (guard_target =~ (_ ||| _ : Nat) = _; decide) | with_reducible apply Upd.ite | with_reducible apply State.setRegW_upd | with_reducible apply State.setGwFld_upd | with_reducible apply Upd.lit | exact rfl | exact SadUpd.refl _ _ | with_reducible apply SadUpd.ite | apply SadUpd.mk | exact fun _ => PeakUpd.refl _ _ | exact Or.inl (by decide) | exact Or.inr rfl); try clear_value x) | (have h9 : (x : Peak) = x := rfl; clear h9) | (have h9 : (x : Saddle) = x := rfl; clear h9) | (have h9 : (x : Pair) = x := rfl; clear h9) | (have h9 : (x : Leg) = x := rfl; clear h9) | clear_value x | skip) | with_reducible apply Upd.ite | with_reducible apply State.setRegW_upd | with_reducible apply State.setGwFld_upd | with_reducible apply Upd.lit | exact rfl | exact SadUpd.refl _ _ | with_reducible apply SadUpd.ite | apply SadUpd.mk | exact fun _ => PeakUpd.refl _ _ | exact Or.inl (by decide) | exact Or.inr rfl

theorem bootAccept_upd {M0 : Nat} {s0 : State} {p : PeakId} {slot : Nat} {img : List Byte} {s : State} (hU : Upd M0 s0 s) (hM : 67108865 ||| M0 = M0) : Upd M0 s0 (bootAccept p slot img s) := by
  refine Upd.step hU ?_ hM
  clear hU hM
  unfold bootAccept
  have h0 := Upd.refl 67108865 s
  repeat' first | with_reducible assumption | (guard_target =~ (_ ||| _ : Nat) = _; decide) | (fail_if_no_progress extract_lets +onlyGivenNames x; first | (have hx : Upd 67108865 s x := (by unfold x; repeat' first | with_reducible assumption | (guard_target =~ (_ ||| _ : Nat) = _; decide) | with_reducible apply Upd.ite | with_reducible apply State.setFld_upd | with_reducible apply setBoot_upd | with_reducible apply Upd.lit | exact rfl | exact SadUpd.refl _ _ | with_reducible apply SadUpd.ite | apply SadUpd.mk | exact fun _ => PeakUpd.refl _ _ | exact Or.inl (by decide) | exact Or.inr rfl); try clear_value x) | (have h9 : (x : Peak) = x := rfl; clear h9) | (have h9 : (x : Saddle) = x := rfl; clear h9) | (have h9 : (x : Pair) = x := rfl; clear h9) | (have h9 : (x : Leg) = x := rfl; clear h9) | clear_value x | skip) | with_reducible apply Upd.ite | with_reducible apply State.setFld_upd | with_reducible apply setBoot_upd | with_reducible apply Upd.lit | exact rfl | exact SadUpd.refl _ _ | with_reducible apply SadUpd.ite | apply SadUpd.mk | exact fun _ => PeakUpd.refl _ _ | exact Or.inl (by decide) | exact Or.inr rfl

theorem errPeer_upd {M0 : Nat} {s0 : State} {shown : State} {p : PeakId} {upTo : Nat} {s : State} (hU : Upd M0 s0 s) (hM : 1 ||| M0 = M0) : Upd M0 s0 (errPeer shown p upTo s) := by
  refine Upd.step hU ?_ hM
  clear hU hM
  unfold errPeer
  have h0 := Upd.refl 1 s
  repeat' first | with_reducible assumption | (guard_target =~ (_ ||| _ : Nat) = _; decide) | with_reducible apply Upd.ite | with_reducible refine Upd.forAll ?_ (fun _ _ _ => ?_) | with_reducible apply State.setFld_upd

theorem joinVerdict_upd {M0 : Nat} {s0 : State} {p : PeakId} {slot : Nat} {err : Nat} {img : List Byte} {s : State} (hU : Upd M0 s0 s) (hM : 4503597567967759 ||| M0 = M0) : Upd M0 s0 (joinVerdict p slot err img s) := by
  refine Upd.step hU ?_ hM
  clear hU hM
  unfold joinVerdict
  have h0 := Upd.refl 4503597567967759 s
  repeat' first | with_reducible assumption | (guard_target =~ (_ ||| _ : Nat) = _; decide) | (fail_if_no_progress extract_lets +onlyGivenNames x; first | (have hx : Upd 4503597567967759 s x := (by unfold x; repeat' first | with_reducible assumption | (guard_target =~ (_ ||| _ : Nat) = _; decide) | with_reducible apply Upd.ite | with_reducible apply bootAccept_upd | with_reducible apply lockOut_upd | with_reducible apply peakReset_upd); try clear_value x) | (have h9 : (x : Peak) = x := rfl; clear h9) | (have h9 : (x : Saddle) = x := rfl; clear h9) | (have h9 : (x : Pair) = x := rfl; clear h9) | (have h9 : (x : Leg) = x := rfl; clear h9) | clear_value x | skip) | with_reducible apply Upd.ite | with_reducible apply bootAccept_upd | with_reducible apply lockOut_upd | with_reducible apply peakReset_upd

theorem verdictRest_upd {M0 : Nat} {s0 : State} {g : List PeakId} {col : Bool} {err : PeakId → Nat} {s : State} (hU : Upd M0 s0 s) (hM : 4503597604093455 ||| M0 = M0) : Upd M0 s0 (verdictRest g col err s) := by
  refine Upd.step hU ?_ hM
  clear hU hM
  unfold verdictRest
  have h0 := Upd.refl 4503597604093455 s
  repeat' first | with_reducible assumption | (guard_target =~ (_ ||| _ : Nat) = _; decide) | (fail_if_no_progress extract_lets +onlyGivenNames x; first | (have hx : Upd 4503597604093455 s x := (by unfold x; repeat' first | with_reducible assumption | (guard_target =~ (_ ||| _ : Nat) = _; decide) | with_reducible apply Upd.ite | with_reducible refine Upd.forAll ?_ (fun _ _ _ => ?_) | with_reducible apply fetchStart_upd | with_reducible apply peakReset_upd | with_reducible apply errPeer_upd | with_reducible apply bootAccept_upd | with_reducible apply safeEnter_upd | split); try clear_value x) | (have h9 : (x : Peak) = x := rfl; clear h9) | (have h9 : (x : Saddle) = x := rfl; clear h9) | (have h9 : (x : Pair) = x := rfl; clear h9) | (have h9 : (x : Leg) = x := rfl; clear h9) | clear_value x | skip) | with_reducible apply Upd.ite | with_reducible refine Upd.forAll ?_ (fun _ _ _ => ?_) | with_reducible apply fetchStart_upd | with_reducible apply peakReset_upd | with_reducible apply errPeer_upd | with_reducible apply bootAccept_upd | with_reducible apply safeEnter_upd | split

theorem verdictCompare_upd {M0 : Nat} {s0 : State} {g : List PeakId} {slot : Nat} {bad : PeakId → Bool} {s : State} (hU : Upd M0 s0 s) (hM : 4503597604093455 ||| M0 = M0) : Upd M0 s0 (verdictCompare g slot bad s) := by
  refine Upd.step hU ?_ hM
  clear hU hM
  unfold verdictCompare
  have h0 := Upd.refl 4503597604093455 s
  repeat' first | with_reducible assumption | (guard_target =~ (_ ||| _ : Nat) = _; decide) | with_reducible apply h90 | with_reducible apply h91 | with_reducible apply h92 | with_reducible apply h93 | with_reducible apply h94 | (fail_if_no_progress extract_lets +onlyGivenNames x; first | (have hx : Upd 4503597604093455 s x := (by unfold x; repeat' first | with_reducible assumption | (guard_target =~ (_ ||| _ : Nat) = _; decide) | with_reducible apply h90 | with_reducible apply h91 | with_reducible apply h92 | with_reducible apply h93 | with_reducible apply h94 | with_reducible apply Upd.ite | with_reducible refine Upd.forAll ?_ (fun _ _ _ => ?_) | with_reducible apply State.setFld_upd | with_reducible apply joinVerdict_upd | with_reducible apply bootAccept_upd | with_reducible apply fetchStart_upd | with_reducible apply verdictRest_upd | with_reducible apply errPeer_upd | split); try clear_value x) | (have h9 : (x : Peak) = x := rfl; clear h9) | (have h9 : (x : Saddle) = x := rfl; clear h9) | (have h9 : (x : Pair) = x := rfl; clear h9) | (have h9 : (x : Leg) = x := rfl; clear h9) | (have h90 : ∀  t, Upd 4503597604093455 s t → Upd 4503597604093455 s (x  t) := (by intro  t ht; unfold x; repeat' first | with_reducible assumption | (guard_target =~ (_ ||| _ : Nat) = _; decide) | with_reducible apply h90 | with_reducible apply h91 | with_reducible apply h92 | with_reducible apply h93 | with_reducible apply h94 | with_reducible apply Upd.ite | with_reducible refine Upd.forAll ?_ (fun _ _ _ => ?_) | with_reducible apply State.setFld_upd | with_reducible apply joinVerdict_upd | with_reducible apply bootAccept_upd | with_reducible apply fetchStart_upd | with_reducible apply verdictRest_upd | with_reducible apply errPeer_upd | split); try clear_value x) | (have h91 : ∀ a0 t, Upd 4503597604093455 s t → Upd 4503597604093455 s (x a0 t) := (by intro a0 t ht; unfold x; repeat' first | with_reducible assumption | (guard_target =~ (_ ||| _ : Nat) = _; decide) | with_reducible apply h90 | with_reducible apply h91 | with_reducible apply h92 | with_reducible apply h93 | with_reducible apply h94 | with_reducible apply Upd.ite | with_reducible refine Upd.forAll ?_ (fun _ _ _ => ?_) | with_reducible apply State.setFld_upd | with_reducible apply joinVerdict_upd | with_reducible apply bootAccept_upd | with_reducible apply fetchStart_upd | with_reducible apply verdictRest_upd | with_reducible apply errPeer_upd | split); try clear_value x) | (have h92 : ∀ a0 a1 t, Upd 4503597604093455 s t → Upd 4503597604093455 s (x a0 a1 t) := (by intro a0 a1 t ht; unfold x; repeat' first | with_reducible assumption | (guard_target =~ (_ ||| _ : Nat) = _; decide) | with_reducible apply h90 | with_reducible apply h91 | with_reducible apply h92 | with_reducible apply h93 | with_reducible apply h94 | with_reducible apply Upd.ite | with_reducible refine Upd.forAll ?_ (fun _ _ _ => ?_) | with_reducible apply State.setFld_upd | with_reducible apply joinVerdict_upd | with_reducible apply bootAccept_upd | with_reducible apply fetchStart_upd | with_reducible apply verdictRest_upd | with_reducible apply errPeer_upd | split); try clear_value x) | (have h93 : ∀ a0 a1 a2 t, Upd 4503597604093455 s t → Upd 4503597604093455 s (x a0 a1 a2 t) := (by intro a0 a1 a2 t ht; unfold x; repeat' first | with_reducible assumption | (guard_target =~ (_ ||| _ : Nat) = _; decide) | with_reducible apply h90 | with_reducible apply h91 | with_reducible apply h92 | with_reducible apply h93 | with_reducible apply h94 | with_reducible apply Upd.ite | with_reducible refine Upd.forAll ?_ (fun _ _ _ => ?_) | with_reducible apply State.setFld_upd | with_reducible apply joinVerdict_upd | with_reducible apply bootAccept_upd | with_reducible apply fetchStart_upd | with_reducible apply verdictRest_upd | with_reducible apply errPeer_upd | split); try clear_value x) | (have h94 : ∀ a0 a1 a2 a3 t, Upd 4503597604093455 s t → Upd 4503597604093455 s (x a0 a1 a2 a3 t) := (by intro a0 a1 a2 a3 t ht; unfold x; repeat' first | with_reducible assumption | (guard_target =~ (_ ||| _ : Nat) = _; decide) | with_reducible apply h90 | with_reducible apply h91 | with_reducible apply h92 | with_reducible apply h93 | with_reducible apply h94 | with_reducible apply Upd.ite | with_reducible refine Upd.forAll ?_ (fun _ _ _ => ?_) | with_reducible apply State.setFld_upd | with_reducible apply joinVerdict_upd | with_reducible apply bootAccept_upd | with_reducible apply fetchStart_upd | with_reducible apply verdictRest_upd | with_reducible apply errPeer_upd | split); try clear_value x) | clear_value x | skip) | with_reducible apply Upd.ite | with_reducible refine Upd.forAll ?_ (fun _ _ _ => ?_) | with_reducible apply State.setFld_upd | with_reducible apply joinVerdict_upd | with_reducible apply bootAccept_upd | with_reducible apply fetchStart_upd | with_reducible apply verdictRest_upd | with_reducible apply errPeer_upd | split

theorem verdictsOn_upd {M0 : Nat} {s0 : State} {badA : Bool} {badB : Bool} {g : List PeakId} {s : State} (hU : Upd M0 s0 s) (hM : 4503597604093455 ||| M0 = M0) : Upd M0 s0 (verdictsOn badA badB g s) := by
  refine Upd.step hU ?_ hM
  clear hU hM
  unfold verdictsOn
  have h0 := Upd.refl 4503597604093455 s
  repeat' first | with_reducible assumption | (guard_target =~ (_ ||| _ : Nat) = _; decide) | with_reducible apply verdictCompare_upd | split

theorem execBootVerdictCompare_upd (badA : Bool) (badB : Bool) (s : State) {t : State} (hX : execBootVerdictCompare badA badB s = .next t) : Upd 4503597604093455 s t := by
  unfold execBootVerdictCompare at hX
  cases hX
  have h0 := Upd.refl 4503597604093455 s
  repeat' first | with_reducible assumption | (guard_target =~ (_ ||| _ : Nat) = _; decide) | with_reducible apply Upd.ite | with_reducible apply verdictsOn_upd | with_reducible refine Upd.bothPeaks ?_ (fun _ _ _ => ?_)

theorem retirePeak_upd {M0 : Nat} {s0 : State} {p : PeakId} {s : State} (hU : Upd M0 s0 s) (hM : 1 ||| M0 = M0) : Upd M0 s0 (retirePeak p s) := by
  refine Upd.step hU ?_ hM
  clear hU hM
  unfold retirePeak
  have h0 := Upd.refl 1 s
  repeat' first | with_reducible assumption | (guard_target =~ (_ ||| _ : Nat) = _; decide) | (fail_if_no_progress extract_lets +onlyGivenNames x; first | (have hx : Upd 1 s x := (by unfold x; repeat' first | with_reducible assumption | (guard_target =~ (_ ||| _ : Nat) = _; decide) | with_reducible apply Upd.ite | with_reducible refine Upd.forAll ?_ (fun _ _ _ => ?_) | with_reducible apply State.setFld_upd); try clear_value x) | (have h9 : (x : Peak) = x := rfl; clear h9) | (have h9 : (x : Saddle) = x := rfl; clear h9) | (have h9 : (x : Pair) = x := rfl; clear h9) | (have h9 : (x : Leg) = x := rfl; clear h9) | clear_value x | skip) | with_reducible apply Upd.ite | with_reducible refine Upd.forAll ?_ (fun _ _ _ => ?_) | with_reducible apply State.setFld_upd

theorem retireShared_upd {M0 : Nat} {s0 : State} {p : PeakId} {s : State} (hU : Upd M0 s0 s) (hM : 248523996475469 ||| M0 = M0) : Upd M0 s0 (retireShared p s) := by
  refine Upd.step hU ?_ hM
  clear hU hM
  unfold retireShared
  have h0 := Upd.refl 248523996475469 s
  repeat' first | with_reducible assumption | (guard_target =~ (_ ||| _ : Nat) = _; decide) | with_reducible apply h90 | with_reducible apply h91 | with_reducible apply h92 | with_reducible apply h93 | with_reducible apply h94 | (fail_if_no_progress extract_lets +onlyGivenNames x; first | (have hx : Upd 248523996475469 s x := (by unfold x; repeat' first | with_reducible assumption | (guard_target =~ (_ ||| _ : Nat) = _; decide) | with_reducible apply h90 | with_reducible apply h91 | with_reducible apply h92 | with_reducible apply h93 | with_reducible apply h94 | with_reducible apply Upd.ite | with_reducible refine Upd.forAll ?_ (fun _ _ _ => ?_) | with_reducible apply State.setFld_upd | with_reducible apply noRelief_upd | with_reducible apply legDisable_upd | with_reducible apply sensorRetire_upd | with_reducible apply cairnValid_upd | with_reducible apply pairsDecide_upd | split); try clear_value x) | (have h9 : (x : Peak) = x := rfl; clear h9) | (have h9 : (x : Saddle) = x := rfl; clear h9) | (have h9 : (x : Pair) = x := rfl; clear h9) | (have h9 : (x : Leg) = x := rfl; clear h9) | (have h90 : ∀  t, Upd 248523996475469 s t → Upd 248523996475469 s (x  t) := (by intro  t ht; unfold x; repeat' first | with_reducible assumption | (guard_target =~ (_ ||| _ : Nat) = _; decide) | with_reducible apply h90 | with_reducible apply h91 | with_reducible apply h92 | with_reducible apply h93 | with_reducible apply h94 | with_reducible apply Upd.ite | with_reducible refine Upd.forAll ?_ (fun _ _ _ => ?_) | with_reducible apply State.setFld_upd | with_reducible apply noRelief_upd | with_reducible apply legDisable_upd | with_reducible apply sensorRetire_upd | with_reducible apply cairnValid_upd | with_reducible apply pairsDecide_upd | split); try clear_value x) | (have h91 : ∀ a0 t, Upd 248523996475469 s t → Upd 248523996475469 s (x a0 t) := (by intro a0 t ht; unfold x; repeat' first | with_reducible assumption | (guard_target =~ (_ ||| _ : Nat) = _; decide) | with_reducible apply h90 | with_reducible apply h91 | with_reducible apply h92 | with_reducible apply h93 | with_reducible apply h94 | with_reducible apply Upd.ite | with_reducible refine Upd.forAll ?_ (fun _ _ _ => ?_) | with_reducible apply State.setFld_upd | with_reducible apply noRelief_upd | with_reducible apply legDisable_upd | with_reducible apply sensorRetire_upd | with_reducible apply cairnValid_upd | with_reducible apply pairsDecide_upd | split); try clear_value x) | (have h92 : ∀ a0 a1 t, Upd 248523996475469 s t → Upd 248523996475469 s (x a0 a1 t) := (by intro a0 a1 t ht; unfold x; repeat' first | with_reducible assumption | (guard_target =~ (_ ||| _ : Nat) = _; decide) | with_reducible apply h90 | with_reducible apply h91 | with_reducible apply h92 | with_reducible apply h93 | with_reducible apply h94 | with_reducible apply Upd.ite | with_reducible refine Upd.forAll ?_ (fun _ _ _ => ?_) | with_reducible apply State.setFld_upd | with_reducible apply noRelief_upd | with_reducible apply legDisable_upd | with_reducible apply sensorRetire_upd | with_reducible apply cairnValid_upd | with_reducible apply pairsDecide_upd | split); try clear_value x) | (have h93 : ∀ a0 a1 a2 t, Upd 248523996475469 s t → Upd 248523996475469 s (x a0 a1 a2 t) := (by intro a0 a1 a2 t ht; unfold x; repeat' first | with_reducible assumption | (guard_target =~ (_ ||| _ : Nat) = _; decide) | with_reducible apply h90 | with_reducible apply h91 | with_reducible apply h92 | with_reducible apply h93 | with_reducible apply h94 | with_reducible apply Upd.ite | with_reducible refine Upd.forAll ?_ (fun _ _ _ => ?_) | with_reducible apply State.setFld_upd | with_reducible apply noRelief_upd | with_reducible apply legDisable_upd | with_reducible apply sensorRetire_upd | with_reducible apply cairnValid_upd | with_reducible apply pairsDecide_upd | split); try clear_value x) | (have h94 : ∀ a0 a1 a2 a3 t, Upd 248523996475469 s t → Upd 248523996475469 s (x a0 a1 a2 a3 t) := (by intro a0 a1 a2 a3 t ht; unfold x; repeat' first | with_reducible assumption | (guard_target =~ (_ ||| _ : Nat) = _; decide) | with_reducible apply h90 | with_reducible apply h91 | with_reducible apply h92 | with_reducible apply h93 | with_reducible apply h94 | with_reducible apply Upd.ite | with_reducible refine Upd.forAll ?_ (fun _ _ _ => ?_) | with_reducible apply State.setFld_upd | with_reducible apply noRelief_upd | with_reducible apply legDisable_upd | with_reducible apply sensorRetire_upd | with_reducible apply cairnValid_upd | with_reducible apply pairsDecide_upd | split); try clear_value x) | clear_value x | skip) | with_reducible apply Upd.ite | with_reducible refine Upd.forAll ?_ (fun _ _ _ => ?_) | with_reducible apply State.setFld_upd | with_reducible apply noRelief_upd | with_reducible apply legDisable_upd | with_reducible apply sensorRetire_upd | with_reducible apply cairnValid_upd | with_reducible apply pairsDecide_upd | split

theorem passIn_upd {M0 : Nat} {s0 : State} {p : PeakId} {w : Nat} {m : Nat} {pass : Nat} {s : State} (hU : Upd M0 s0 s) (hM : 1 ||| M0 = M0) : Upd M0 s0 (passIn p w m pass s) := by
  refine Upd.step hU ?_ hM
  clear hU hM
  unfold passIn
  have h0 := Upd.refl 1 s
  repeat' first | with_reducible assumption | (guard_target =~ (_ ||| _ : Nat) = _; decide) | (fail_if_no_progress extract_lets +onlyGivenNames x; first | (have hx : Upd 1 s x := (by unfold x; repeat' first | with_reducible assumption | (guard_target =~ (_ ||| _ : Nat) = _; decide) | with_reducible apply Upd.ite | with_reducible apply State.setReg_upd); try clear_value x) | (have h9 : (x : Peak) = x := rfl; clear h9) | (have h9 : (x : Saddle) = x := rfl; clear h9) | (have h9 : (x : Pair) = x := rfl; clear h9) | (have h9 : (x : Leg) = x := rfl; clear h9) | clear_value x | skip) | with_reducible apply Upd.ite | with_reducible apply State.setReg_upd

theorem localIn_upd {M0 : Nat} {s0 : State} {p : PeakId} {v : BitVec 96} {s : State} (hU : Upd M0 s0 s) (hM : 1 ||| M0 = M0) : Upd M0 s0 (localIn p v s) := by
  refine Upd.step hU ?_ hM
  clear hU hM
  unfold localIn
  have h0 := Upd.refl 1 s
  repeat' first | with_reducible assumption | (guard_target =~ (_ ||| _ : Nat) = _; decide) | with_reducible refine Upd.forAll ?_ (fun _ _ _ => ?_) | with_reducible apply State.setReg_upd

theorem postDone_upd {M0 : Nat} {s0 : State} {p : PeakId} {s : State} (hU : Upd M0 s0 s) (hM : 1 ||| M0 = M0) : Upd M0 s0 (postDone p s) := by
  refine Upd.step hU ?_ hM
  clear hU hM
  unfold postDone
  have h0 := Upd.refl 1 s
  repeat' first | with_reducible assumption | (guard_target =~ (_ ||| _ : Nat) = _; decide) | with_reducible apply State.setFld_upd

theorem joinMerge_upd {M0 : Nat} {s0 : State} {p : PeakId} {s : State} (hU : Upd M0 s0 s) (hM : 4503597567967759 ||| M0 = M0) : Upd M0 s0 (joinMerge p s) := by
  refine Upd.step hU ?_ hM
  clear hU hM
  unfold joinMerge
  have h0 := Upd.refl 4503597567967759 s
  repeat' first | with_reducible assumption | (guard_target =~ (_ ||| _ : Nat) = _; decide) | (fail_if_no_progress extract_lets +onlyGivenNames x; first | (have hx : Upd 4503597567967759 s x := (by unfold x; repeat' first | with_reducible assumption | (guard_target =~ (_ ||| _ : Nat) = _; decide) | with_reducible apply Upd.ite | with_reducible apply lockOut_upd | with_reducible apply peakReset_upd | with_reducible refine Upd.forAll ?_ (fun _ _ _ => ?_) | with_reducible apply State.setReg_upd | with_reducible apply retirePeak_upd | with_reducible apply postDone_upd); try clear_value x) | (have h9 : (x : Peak) = x := rfl; clear h9) | (have h9 : (x : Saddle) = x := rfl; clear h9) | (have h9 : (x : Pair) = x := rfl; clear h9) | (have h9 : (x : Leg) = x := rfl; clear h9) | clear_value x | skip) | with_reducible apply Upd.ite | with_reducible apply lockOut_upd | with_reducible apply peakReset_upd | with_reducible refine Upd.forAll ?_ (fun _ _ _ => ?_) | with_reducible apply State.setReg_upd | with_reducible apply retirePeak_upd | with_reducible apply postDone_upd

theorem selfTestMerge_upd {M0 : Nat} {s0 : State} {g : List PeakId} {shared : BitVec 160} {s : State} (hU : Upd M0 s0 s) (hM : 4503597612482127 ||| M0 = M0) : Upd M0 s0 (selfTestMerge g shared s) := by
  refine Upd.step hU ?_ hM
  clear hU hM
  unfold selfTestMerge
  have h0 := Upd.refl 4503597612482127 s
  repeat' first | with_reducible assumption | (guard_target =~ (_ ||| _ : Nat) = _; decide) | (fail_if_no_progress extract_lets +onlyGivenNames x; first | (have hx : Upd 4503597612482127 s x := (by unfold x; repeat' first | with_reducible assumption | (guard_target =~ (_ ||| _ : Nat) = _; decide) | with_reducible apply Upd.ite | with_reducible refine Upd.forAll ?_ (fun _ _ _ => ?_) | with_reducible apply State.setReg_upd | with_reducible refine Upd.bothPeaks ?_ (fun _ _ _ => ?_) | with_reducible apply passIn_upd | with_reducible apply postDone_upd | with_reducible apply retireShared_upd | with_reducible apply retirePeak_upd | with_reducible apply peakReset_upd | with_reducible apply safeEnter_upd | with_reducible apply safChanged_upd | with_reducible apply Upd.lit | exact rfl | exact SadUpd.refl _ _ | with_reducible apply SadUpd.ite | apply SadUpd.mk | exact fun _ => PeakUpd.refl _ _ | exact Or.inl (by decide) | exact Or.inr rfl); try clear_value x) | (have h9 : (x : Peak) = x := rfl; clear h9) | (have h9 : (x : Saddle) = x := rfl; clear h9) | (have h9 : (x : Pair) = x := rfl; clear h9) | (have h9 : (x : Leg) = x := rfl; clear h9) | clear_value x | skip) | with_reducible apply Upd.ite | with_reducible refine Upd.forAll ?_ (fun _ _ _ => ?_) | with_reducible apply State.setReg_upd | with_reducible refine Upd.bothPeaks ?_ (fun _ _ _ => ?_) | with_reducible apply passIn_upd | with_reducible apply postDone_upd | with_reducible apply retireShared_upd | with_reducible apply retirePeak_upd | with_reducible apply peakReset_upd | with_reducible apply safeEnter_upd | with_reducible apply safChanged_upd | with_reducible apply Upd.lit | exact rfl | exact SadUpd.refl _ _ | with_reducible apply SadUpd.ite | apply SadUpd.mk | exact fun _ => PeakUpd.refl _ _ | exact Or.inl (by decide) | exact Or.inr rfl

theorem selfTestDone_upd {M0 : Nat} {s0 : State} {a : BitVec 96} {b : BitVec 96} {shared : BitVec 160} {s : State} (hU : Upd M0 s0 s) (hM : 4503597612482127 ||| M0 = M0) : Upd M0 s0 (selfTestDone a b shared s) := by
  refine Upd.step hU ?_ hM
  clear hU hM
  unfold selfTestDone
  have h0 := Upd.refl 4503597612482127 s
  repeat' first | with_reducible assumption | (guard_target =~ (_ ||| _ : Nat) = _; decide) | (fail_if_no_progress extract_lets +onlyGivenNames x; first | (have hx : Upd 4503597612482127 s x := (by unfold x; repeat' first | with_reducible assumption | (guard_target =~ (_ ||| _ : Nat) = _; decide) | with_reducible apply Upd.ite | with_reducible refine Upd.forAll ?_ (fun _ _ _ => ?_) | with_reducible apply localIn_upd | with_reducible apply joinMerge_upd | with_reducible apply selfTestMerge_upd | split); try clear_value x) | (have h9 : (x : Peak) = x := rfl; clear h9) | (have h9 : (x : Saddle) = x := rfl; clear h9) | (have h9 : (x : Pair) = x := rfl; clear h9) | (have h9 : (x : Leg) = x := rfl; clear h9) | clear_value x | skip) | with_reducible apply Upd.ite | with_reducible refine Upd.forAll ?_ (fun _ _ _ => ?_) | with_reducible apply localIn_upd | with_reducible apply joinMerge_upd | with_reducible apply selfTestMerge_upd | split

theorem execSelfTestComplete_upd (a : BitVec 96) (b : BitVec 96) (shared : BitVec 160) (s : State) {t : State} (hX : execSelfTestComplete a b shared s = .next t) : Upd 4503597612482127 s t := by
  unfold execSelfTestComplete at hX
  cases hX
  have h0 := Upd.refl 4503597612482127 s
  repeat' first | with_reducible assumption | (guard_target =~ (_ ||| _ : Nat) = _; decide) | with_reducible apply selfTestDone_upd

theorem bootRun_upd {M0 : Nat} {s0 : State} {k : CoreSel} {s : State} (hU : Upd M0 s0 s) (hM : 211106232532997 ||| M0 = M0) : Upd M0 s0 (bootRun k s) := by
  refine Upd.step hU ?_ hM
  clear hU hM
  unfold bootRun
  have h0 := Upd.refl 211106232532997 s
  repeat' first | with_reducible assumption | (guard_target =~ (_ ||| _ : Nat) = _; decide) | (fail_if_no_progress extract_lets +onlyGivenNames x; first | (have hx : Upd 211106232532997 s x := (by unfold x; repeat' first | with_reducible assumption | (guard_target =~ (_ ||| _ : Nat) = _; decide) | with_reducible apply Upd.ite | with_reducible apply State.setCore_upd | with_reducible apply State.setFld_upd | with_reducible apply tracePut_upd); try clear_value x) | (have h9 : (x : Peak) = x := rfl; clear h9) | (have h9 : (x : Saddle) = x := rfl; clear h9) | (have h9 : (x : Pair) = x := rfl; clear h9) | (have h9 : (x : Leg) = x := rfl; clear h9) | clear_value x | skip) | with_reducible apply Upd.ite | with_reducible apply State.setCore_upd | with_reducible apply State.setFld_upd | with_reducible apply tracePut_upd

theorem loadImage_upd {M0 : Nat} {s0 : State} {p : PeakId} {img : List Byte} {s : State} (hU : Upd M0 s0 s) (hM : 2 ||| M0 = M0) : Upd M0 s0 (loadImage p img s) := by
  refine Upd.step hU ?_ hM
  clear hU hM
  unfold loadImage
  have h0 := Upd.refl 2 s
  repeat' first | with_reducible assumption | (guard_target =~ (_ ||| _ : Nat) = _; decide) | (fail_if_no_progress extract_lets +onlyGivenNames x; first | (have hx : Upd 2 s x := (by unfold x; repeat' first | with_reducible assumption | (guard_target =~ (_ ||| _ : Nat) = _; decide) | with_reducible apply Upd.ite | with_reducible refine Upd.forAll ?_ (fun _ _ _ => ?_) | with_reducible apply State.setByteList_upd); try clear_value x) | (have hx : Upd 2 s x.2 := (by unfold x; repeat' first | with_reducible assumption | (guard_target =~ (_ ||| _ : Nat) = _; decide) | with_reducible apply Upd.ite | with_reducible refine Upd.forAll ?_ (fun _ _ _ => ?_) | with_reducible apply State.setByteList_upd); try clear_value x) | (have h9 : (x : Peak) = x := rfl; clear h9) | (have h9 : (x : Saddle) = x := rfl; clear h9) | (have h9 : (x : Pair) = x := rfl; clear h9) | (have h9 : (x : Leg) = x := rfl; clear h9) | clear_value x | skip) | with_reducible apply Upd.ite | with_reducible refine Upd.forAll ?_ (fun _ _ _ => ?_) | with_reducible apply State.setByteList_upd

theorem handover_upd {M0 : Nat} {s0 : State} {p : PeakId} {s : State} (hU : Upd M0 s0 s) (hM : 248524071501839 ||| M0 = M0) : Upd M0 s0 (handover p s) := by
  refine Upd.step hU ?_ hM
  clear hU hM
  unfold handover
  have h0 := Upd.refl 248524071501839 s
  repeat' first | with_reducible assumption | (guard_target =~ (_ ||| _ : Nat) = _; decide) | (fail_if_no_progress extract_lets +onlyGivenNames x; first | (have hx : Upd 248524071501839 s x := (by unfold x; repeat' first | with_reducible assumption | (guard_target =~ (_ ||| _ : Nat) = _; decide) | with_reducible apply Upd.ite | with_reducible apply loadImage_upd | with_reducible apply setBoot_upd | with_reducible apply State.setFld_upd | with_reducible apply fire_upd | with_reducible refine Upd.forAll ?_ (fun _ _ _ => ?_) | with_reducible apply bootRun_upd | with_reducible apply State.setBit_upd | split | with_reducible apply Upd.lit | exact rfl | exact SadUpd.refl _ _ | with_reducible apply SadUpd.ite | apply SadUpd.mk | exact fun _ => PeakUpd.refl _ _ | exact Or.inl (by decide) | exact Or.inr rfl); try clear_value x) | (have h9 : (x : Peak) = x := rfl; clear h9) | (have h9 : (x : Saddle) = x := rfl; clear h9) | (have h9 : (x : Pair) = x := rfl; clear h9) | (have h9 : (x : Leg) = x := rfl; clear h9) | clear_value x | skip) | with_reducible apply Upd.ite | with_reducible apply loadImage_upd | with_reducible apply setBoot_upd | with_reducible apply State.setFld_upd | with_reducible apply fire_upd | with_reducible refine Upd.forAll ?_ (fun _ _ _ => ?_) | with_reducible apply bootRun_upd | with_reducible apply State.setBit_upd | split | with_reducible apply Upd.lit | exact rfl | exact SadUpd.refl _ _ | with_reducible apply SadUpd.ite | apply SadUpd.mk | exact fun _ => PeakUpd.refl _ _ | exact Or.inl (by decide) | exact Or.inr rfl

theorem execHandover_upd (p : PeakId) (s : State) {t : State} (hX : execHandover p s = .next t) : Upd 248524071501839 s t := by
  unfold execHandover at hX
  cases hX
  have h0 := Upd.refl 248524071501839 s
  repeat' first | with_reducible assumption | (guard_target =~ (_ ||| _ : Nat) = _; decide) | with_reducible apply Upd.ite | with_reducible apply acksAgain_upd | with_reducible apply handover_upd

theorem lcsResult_upd {M0 : Nat} {s0 : State} {code : Nat} {s : State} (hU : Upd M0 s0 s) (hM : 1 ||| M0 = M0) : Upd M0 s0 (lcsResult code s) := by
  refine Upd.step hU ?_ hM
  clear hU hM
  unfold lcsResult
  have h0 := Upd.refl 1 s
  repeat' first | with_reducible assumption | (guard_target =~ (_ ||| _ : Nat) = _; decide) | with_reducible apply State.setFld_upd

theorem lcsRequest_upd {M0 : Nat} {s0 : State} {op : Nat} {key : Nat} {arg : Nat} {allowed : Bool} {v12 : Bool} {further : Nat} {s : State} (hU : Upd M0 s0 s) (hM : 67108865 ||| M0 = M0) : Upd M0 s0 (lcsRequest op key arg allowed v12 further s) := by
  refine Upd.step hU ?_ hM
  clear hU hM
  unfold lcsRequest
  have h0 := Upd.refl 67108865 s
  repeat' first | with_reducible assumption | (guard_target =~ (_ ||| _ : Nat) = _; decide) | (fail_if_no_progress extract_lets +onlyGivenNames x; first | (have hx : Upd 67108865 s x := (by unfold x; repeat' first | with_reducible assumption | (guard_target =~ (_ ||| _ : Nat) = _; decide) | with_reducible apply Upd.ite | with_reducible apply lcsResult_upd | with_reducible apply State.setFld_upd | with_reducible apply Upd.lit | exact rfl | exact SadUpd.refl _ _ | with_reducible apply SadUpd.ite | apply SadUpd.mk | exact fun _ => PeakUpd.refl _ _ | exact Or.inl (by decide) | exact Or.inr rfl); try clear_value x) | (have h9 : (x : Peak) = x := rfl; clear h9) | (have h9 : (x : Saddle) = x := rfl; clear h9) | (have h9 : (x : Pair) = x := rfl; clear h9) | (have h9 : (x : Leg) = x := rfl; clear h9) | clear_value x | skip) | with_reducible apply Upd.ite | with_reducible apply lcsResult_upd | with_reducible apply State.setFld_upd | with_reducible apply Upd.lit | exact rfl | exact SadUpd.refl _ _ | with_reducible apply SadUpd.ite | apply SadUpd.mk | exact fun _ => PeakUpd.refl _ _ | exact Or.inl (by decide) | exact Or.inr rfl

theorem lcsAdvance_upd {M0 : Nat} {s0 : State} {key : Nat} {arg : Nat} {v12 : Bool} {s : State} (hU : Upd M0 s0 s) (hM : 67108867 ||| M0 = M0) : Upd M0 s0 (lcsAdvance key arg v12 s) := by
  refine Upd.step hU ?_ hM
  clear hU hM
  unfold lcsAdvance
  have h0 := Upd.refl 67108867 s
  repeat' first | with_reducible assumption | (guard_target =~ (_ ||| _ : Nat) = _; decide) | (fail_if_no_progress extract_lets +onlyGivenNames x; first | (have hx : Upd 67108867 s x := (by unfold x; repeat' first | with_reducible assumption | (guard_target =~ (_ ||| _ : Nat) = _; decide) | with_reducible apply Upd.ite | with_reducible apply lcsRequest_upd | with_reducible apply State.clearBytes_upd); try clear_value x) | (have h9 : (x : Peak) = x := rfl; clear h9) | (have h9 : (x : Saddle) = x := rfl; clear h9) | (have h9 : (x : Pair) = x := rfl; clear h9) | (have h9 : (x : Leg) = x := rfl; clear h9) | clear_value x | skip) | with_reducible apply Upd.ite | with_reducible apply lcsRequest_upd | with_reducible apply State.clearBytes_upd

theorem lcsProgramKey_upd {M0 : Nat} {s0 : State} {key : Nat} {arg : Nat} {v12 : Bool} {s : State} (hU : Upd M0 s0 s) (hM : 67108865 ||| M0 = M0) : Upd M0 s0 (lcsProgramKey key arg v12 s) := by
  refine Upd.step hU ?_ hM
  clear hU hM
  unfold lcsProgramKey
  have h0 := Upd.refl 67108865 s
  repeat' first | with_reducible assumption | (guard_target =~ (_ ||| _ : Nat) = _; decide) | (fail_if_no_progress extract_lets +onlyGivenNames x; first | (have hx : Upd 67108865 s x := (by unfold x; repeat' first | with_reducible assumption | (guard_target =~ (_ ||| _ : Nat) = _; decide) | with_reducible apply Upd.ite | with_reducible apply lcsRequest_upd); try clear_value x) | (have h9 : (x : Peak) = x := rfl; clear h9) | (have h9 : (x : Saddle) = x := rfl; clear h9) | (have h9 : (x : Pair) = x := rfl; clear h9) | (have h9 : (x : Leg) = x := rfl; clear h9) | clear_value x | skip) | with_reducible apply Upd.ite | with_reducible apply lcsRequest_upd

theorem lcsRevoke_upd {M0 : Nat} {s0 : State} {key : Nat} {arg : Nat} {v12 : Bool} {s : State} (hU : Upd M0 s0 s) (hM : 67108865 ||| M0 = M0) : Upd M0 s0 (lcsRevoke key arg v12 s) := by
  refine Upd.step hU ?_ hM
  clear hU hM
  unfold lcsRevoke
  have h0 := Upd.refl 67108865 s
  repeat' first | with_reducible assumption | (guard_target =~ (_ ||| _ : Nat) = _; decide) | (fail_if_no_progress extract_lets +onlyGivenNames x; first | (have hx : Upd 67108865 s x := (by unfold x; repeat' first | with_reducible assumption | (guard_target =~ (_ ||| _ : Nat) = _; decide) | with_reducible apply Upd.ite | with_reducible apply lcsRequest_upd); try clear_value x) | (have h9 : (x : Peak) = x := rfl; clear h9) | (have h9 : (x : Saddle) = x := rfl; clear h9) | (have h9 : (x : Pair) = x := rfl; clear h9) | (have h9 : (x : Leg) = x := rfl; clear h9) | clear_value x | skip) | with_reducible apply Upd.ite | with_reducible apply lcsRequest_upd

theorem lcsRaise_upd {M0 : Nat} {s0 : State} {key : Nat} {arg : Nat} {v12 : Bool} {s : State} (hU : Upd M0 s0 s) (hM : 67108865 ||| M0 = M0) : Upd M0 s0 (lcsRaise key arg v12 s) := by
  refine Upd.step hU ?_ hM
  clear hU hM
  unfold lcsRaise
  have h0 := Upd.refl 67108865 s
  repeat' first | with_reducible assumption | (guard_target =~ (_ ||| _ : Nat) = _; decide) | (fail_if_no_progress extract_lets +onlyGivenNames x; first | (have hx : Upd 67108865 s x := (by unfold x; repeat' first | with_reducible assumption | (guard_target =~ (_ ||| _ : Nat) = _; decide) | with_reducible apply Upd.ite | with_reducible apply lcsRequest_upd); try clear_value x) | (have h9 : (x : Peak) = x := rfl; clear h9) | (have h9 : (x : Saddle) = x := rfl; clear h9) | (have h9 : (x : Pair) = x := rfl; clear h9) | (have h9 : (x : Leg) = x := rfl; clear h9) | clear_value x | skip) | with_reducible apply Upd.ite | with_reducible apply lcsRequest_upd

theorem lcsCmdWrite_upd {M0 : Nat} {s0 : State} {v : Nat} {v12 : Bool} {s : State} (hU : Upd M0 s0 s) (hM : 67108867 ||| M0 = M0) : Upd M0 s0 (lcsCmdWrite v v12 s) := by
  refine Upd.step hU ?_ hM
  clear hU hM
  unfold lcsCmdWrite
  have h0 := Upd.refl 67108867 s
  repeat' first | with_reducible assumption | (guard_target =~ (_ ||| _ : Nat) = _; decide) | (fail_if_no_progress extract_lets +onlyGivenNames x; first | (have hx : Upd 67108867 s x := (by unfold x; repeat' first | with_reducible assumption | (guard_target =~ (_ ||| _ : Nat) = _; decide) | with_reducible apply lcsAdvance_upd | with_reducible apply lcsProgramKey_upd | with_reducible apply lcsRevoke_upd | with_reducible apply lcsRaise_upd | with_reducible apply lcsRequest_upd | split); try clear_value x) | (have h9 : (x : Peak) = x := rfl; clear h9) | (have h9 : (x : Saddle) = x := rfl; clear h9) | (have h9 : (x : Pair) = x := rfl; clear h9) | (have h9 : (x : Leg) = x := rfl; clear h9) | clear_value x | skip) | with_reducible apply lcsAdvance_upd | with_reducible apply lcsProgramKey_upd | with_reducible apply lcsRevoke_upd | with_reducible apply lcsRaise_upd | with_reducible apply lcsRequest_upd | split

theorem execLcsAdvanceState_upd (key : BitVec 16) (arg : BitVec 7) (v12 : Bool) (s : State) {t : State} (hX : execLcsAdvanceState key arg v12 s = .next t) : Upd 67108867 s t := by
  unfold execLcsAdvanceState at hX
  cases hX
  have h0 := Upd.refl 67108867 s
  repeat' first | with_reducible assumption | (guard_target =~ (_ ||| _ : Nat) = _; decide) | with_reducible refine whenKernel_upd ?_ (fun _ _ => ?_) ?_ | with_reducible apply lcsAdvance_upd

theorem execLcsProgramKeySlot_upd (key : BitVec 16) (arg : BitVec 7) (v12 : Bool) (s : State) {t : State} (hX : execLcsProgramKeySlot key arg v12 s = .next t) : Upd 67108865 s t := by
  unfold execLcsProgramKeySlot at hX
  cases hX
  have h0 := Upd.refl 67108865 s
  repeat' first | with_reducible assumption | (guard_target =~ (_ ||| _ : Nat) = _; decide) | with_reducible refine whenKernel_upd ?_ (fun _ _ => ?_) ?_ | with_reducible apply lcsProgramKey_upd

theorem execLcsRevokeKeySlot_upd (key : BitVec 16) (arg : BitVec 7) (v12 : Bool) (s : State) {t : State} (hX : execLcsRevokeKeySlot key arg v12 s = .next t) : Upd 67108865 s t := by
  unfold execLcsRevokeKeySlot at hX
  cases hX
  have h0 := Upd.refl 67108865 s
  repeat' first | with_reducible assumption | (guard_target =~ (_ ||| _ : Nat) = _; decide) | with_reducible refine whenKernel_upd ?_ (fun _ _ => ?_) ?_ | with_reducible apply lcsRevoke_upd

theorem execLcsRaiseSvn_upd (key : BitVec 16) (arg : BitVec 7) (v12 : Bool) (s : State) {t : State} (hX : execLcsRaiseSvn key arg v12 s = .next t) : Upd 67108865 s t := by
  unfold execLcsRaiseSvn at hX
  cases hX
  have h0 := Upd.refl 67108865 s
  repeat' first | with_reducible assumption | (guard_target =~ (_ ||| _ : Nat) = _; decide) | with_reducible refine whenKernel_upd ?_ (fun _ _ => ?_) ?_ | with_reducible apply lcsRaise_upd

theorem lcsBlow_upd {M0 : Nat} {s0 : State} {op : LcsOp} {blown : Nat} {ok : Bool} {s : State} (hU : Upd M0 s0 s) (hM : 1140850688 ||| M0 = M0) : Upd M0 s0 (lcsBlow op blown ok s) := by
  refine Upd.step hU ?_ hM
  clear hU hM
  unfold lcsBlow
  have h0 := Upd.refl 1140850688 s
  repeat' first | with_reducible assumption | (guard_target =~ (_ ||| _ : Nat) = _; decide) | (fail_if_no_progress extract_lets +onlyGivenNames x; first | (have hx : Upd 1140850688 s x := (by unfold x; repeat' first | with_reducible assumption | (guard_target =~ (_ ||| _ : Nat) = _; decide) | with_reducible apply Upd.ite | with_reducible apply State.takeFree_upd | split | with_reducible apply Upd.lit | exact rfl | exact SadUpd.refl _ _ | with_reducible apply SadUpd.ite | apply SadUpd.mk | exact fun _ => PeakUpd.refl _ _ | exact Or.inl (by decide) | exact Or.inr rfl); try clear_value x) | (have hx : Upd 1140850688 s x.2 := (by unfold x; repeat' first | with_reducible assumption | (guard_target =~ (_ ||| _ : Nat) = _; decide) | with_reducible apply Upd.ite | with_reducible apply State.takeFree_upd | split | with_reducible apply Upd.lit | exact rfl | exact SadUpd.refl _ _ | with_reducible apply SadUpd.ite | apply SadUpd.mk | exact fun _ => PeakUpd.refl _ _ | exact Or.inl (by decide) | exact Or.inr rfl); try clear_value x) | (have h9 : (x : Peak) = x := rfl; clear h9) | (have h9 : (x : Saddle) = x := rfl; clear h9) | (have h9 : (x : Pair) = x := rfl; clear h9) | (have h9 : (x : Leg) = x := rfl; clear h9) | clear_value x | skip) | with_reducible apply Upd.ite | with_reducible apply State.takeFree_upd | split | with_reducible apply Upd.lit | exact rfl | exact SadUpd.refl _ _ | with_reducible apply SadUpd.ite | apply SadUpd.mk | exact fun _ => PeakUpd.refl _ _ | exact Or.inl (by decide) | exact Or.inr rfl

theorem lcsDone_upd {M0 : Nat} {s0 : State} {blown : Nat} {ok : Bool} {s : State} (hU : Upd M0 s0 s) (hM : 1140850689 ||| M0 = M0) : Upd M0 s0 (lcsDone blown ok s) := by
  refine Upd.step hU ?_ hM
  clear hU hM
  unfold lcsDone
  have h0 := Upd.refl 1140850689 s
  repeat' first | with_reducible assumption | (guard_target =~ (_ ||| _ : Nat) = _; decide) | (fail_if_no_progress extract_lets +onlyGivenNames x; first | (have hx : Upd 1140850689 s x := (by unfold x; repeat' first | with_reducible assumption | (guard_target =~ (_ ||| _ : Nat) = _; decide) | with_reducible apply Upd.ite | with_reducible apply lcsShow_upd | with_reducible apply lcsBlow_upd | with_reducible apply lcsResult_upd | with_reducible apply State.setFld_upd | split | with_reducible apply Upd.lit | exact rfl | exact SadUpd.refl _ _ | with_reducible apply SadUpd.ite | apply SadUpd.mk | exact fun _ => PeakUpd.refl _ _ | exact Or.inl (by decide) | exact Or.inr rfl); try clear_value x) | (have h9 : (x : Peak) = x := rfl; clear h9) | (have h9 : (x : Saddle) = x := rfl; clear h9) | (have h9 : (x : Pair) = x := rfl; clear h9) | (have h9 : (x : Leg) = x := rfl; clear h9) | clear_value x | skip) | with_reducible apply Upd.ite | with_reducible apply lcsShow_upd | with_reducible apply lcsBlow_upd | with_reducible apply lcsResult_upd | with_reducible apply State.setFld_upd | split | with_reducible apply Upd.lit | exact rfl | exact SadUpd.refl _ _ | with_reducible apply SadUpd.ite | apply SadUpd.mk | exact fun _ => PeakUpd.refl _ _ | exact Or.inl (by decide) | exact Or.inr rfl

theorem execLifecycleOpComplete_upd (blown : Fin 9) (ok : Bool) (s : State) {t : State} (hX : execLifecycleOpComplete blown ok s = .next t) : Upd 1140850689 s t := by
  unfold execLifecycleOpComplete at hX
  cases hX
  have h0 := Upd.refl 1140850689 s
  repeat' first | with_reducible assumption | (guard_target =~ (_ ||| _ : Nat) = _; decide) | with_reducible apply lcsDone_upd

theorem execLifecycleReset_upd (s : State) {t : State} (hX : execLifecycleReset s = .next t) : Upd 4503598553628655 s t := by
  unfold execLifecycleReset at hX
  cases hX
  have h0 := Upd.refl 4503598553628655 s
  repeat' first | with_reducible assumption | (guard_target =~ (_ ||| _ : Nat) = _; decide) | (fail_if_no_progress extract_lets +onlyGivenNames x; first | (have hx : Upd 4503598553628655 s x := (by unfold x; repeat' first | with_reducible assumption | (guard_target =~ (_ ||| _ : Nat) = _; decide) | with_reducible apply Upd.ite | with_reducible apply deviceReset_upd | with_reducible apply coldStart_upd | with_reducible apply Upd.lit | exact rfl | exact SadUpd.refl _ _ | with_reducible apply SadUpd.ite | apply SadUpd.mk | exact fun _ => PeakUpd.refl _ _ | exact Or.inl (by decide) | exact Or.inr rfl); try clear_value x) | (have h9 : (x : Peak) = x := rfl; clear h9) | (have h9 : (x : Saddle) = x := rfl; clear h9) | (have h9 : (x : Pair) = x := rfl; clear h9) | (have h9 : (x : Leg) = x := rfl; clear h9) | clear_value x | skip) | with_reducible apply Upd.ite | with_reducible apply deviceReset_upd | with_reducible apply coldStart_upd | with_reducible apply Upd.lit | exact rfl | exact SadUpd.refl _ _ | with_reducible apply SadUpd.ite | apply SadUpd.mk | exact fun _ => PeakUpd.refl _ _ | exact Or.inl (by decide) | exact Or.inr rfl

theorem bistWrite_upd {M0 : Nat} {s0 : State} {m : Master} {v : Nat} {s : State} (hU : Upd M0 s0 s) (hM : 67108865 ||| M0 = M0) : Upd M0 s0 (bistWrite m v s) := by
  refine Upd.step hU ?_ hM
  clear hU hM
  unfold bistWrite
  have h0 := Upd.refl 67108865 s
  repeat' first | with_reducible assumption | (guard_target =~ (_ ||| _ : Nat) = _; decide) | (fail_if_no_progress extract_lets +onlyGivenNames x; first | (have hx : Upd 67108865 s x := (by unfold x; repeat' first | with_reducible assumption | (guard_target =~ (_ ||| _ : Nat) = _; decide) | with_reducible apply Upd.ite | with_reducible apply State.setFld_upd | with_reducible apply Upd.lit | exact rfl | exact SadUpd.refl _ _ | with_reducible apply SadUpd.ite | apply SadUpd.mk | exact fun _ => PeakUpd.refl _ _ | exact Or.inl (by decide) | exact Or.inr rfl); try clear_value x) | (have h9 : (x : Peak) = x := rfl; clear h9) | (have h9 : (x : Saddle) = x := rfl; clear h9) | (have h9 : (x : Pair) = x := rfl; clear h9) | (have h9 : (x : Leg) = x := rfl; clear h9) | clear_value x | skip) | with_reducible apply Upd.ite | with_reducible apply State.setFld_upd | with_reducible apply Upd.lit | exact rfl | exact SadUpd.refl _ _ | with_reducible apply SadUpd.ite | apply SadUpd.mk | exact fun _ => PeakUpd.refl _ _ | exact Or.inl (by decide) | exact Or.inr rfl

theorem execBistStart_upd (m : Master) (val : Word) (s : State) {t : State} (hX : execBistStart m val s = .next t) : Upd 67108865 s t := by
  unfold execBistStart at hX
  cases hX
  have h0 := Upd.refl 67108865 s
  repeat' first | with_reducible assumption | (guard_target =~ (_ ||| _ : Nat) = _; decide) | with_reducible apply Upd.ite | with_reducible apply bistWrite_upd

theorem bistClear_upd {M0 : Nat} {s0 : State} {p : PeakId} {mask : Nat} {s : State} (hU : Upd M0 s0 s) (hM : 2 ||| M0 = M0) : Upd M0 s0 (bistClear p mask s) := by
  refine Upd.step hU ?_ hM
  clear hU hM
  unfold bistClear
  have h0 := Upd.refl 2 s
  repeat' first | with_reducible assumption | (guard_target =~ (_ ||| _ : Nat) = _; decide) | (fail_if_no_progress extract_lets +onlyGivenNames x; first | (have hx : Upd 2 s x := (by unfold x; repeat' first | with_reducible assumption | (guard_target =~ (_ ||| _ : Nat) = _; decide) | with_reducible apply Upd.ite | with_reducible refine Upd.forAll ?_ (fun _ _ _ => ?_) | with_reducible apply State.clearBytes_upd); try clear_value x) | (have h9 : (x : Peak) = x := rfl; clear h9) | (have h9 : (x : Saddle) = x := rfl; clear h9) | (have h9 : (x : Pair) = x := rfl; clear h9) | (have h9 : (x : Leg) = x := rfl; clear h9) | clear_value x | skip) | with_reducible apply Upd.ite | with_reducible refine Upd.forAll ?_ (fun _ _ _ => ?_) | with_reducible apply State.clearBytes_upd

theorem heldFail_upd {M0 : Nat} {s0 : State} {p : PeakId} {s : State} (hU : Upd M0 s0 s) (hM : 4503597604093455 ||| M0 = M0) : Upd M0 s0 (heldFail p s) := by
  refine Upd.step hU ?_ hM
  clear hU hM
  unfold heldFail
  have h0 := Upd.refl 4503597604093455 s
  repeat' first | with_reducible assumption | (guard_target =~ (_ ||| _ : Nat) = _; decide) | with_reducible apply Upd.ite | with_reducible apply failPeak_upd | with_reducible apply failover_upd | with_reducible apply safeEnter_upd

theorem bistDone_upd {M0 : Nat} {s0 : State} {p : PeakId} {pass : Nat} {s : State} (hU : Upd M0 s0 s) (hM : 4503597612482127 ||| M0 = M0) : Upd M0 s0 (bistDone p pass s) := by
  refine Upd.step hU ?_ hM
  clear hU hM
  unfold bistDone
  have h0 := Upd.refl 4503597612482127 s
  repeat' first | with_reducible assumption | (guard_target =~ (_ ||| _ : Nat) = _; decide) | (fail_if_no_progress extract_lets +onlyGivenNames x; first | (have hx : Upd 4503597612482127 s x := (by unfold x; repeat' first | with_reducible assumption | (guard_target =~ (_ ||| _ : Nat) = _; decide) | with_reducible apply Upd.ite | with_reducible apply State.setFld_upd | with_reducible apply State.setReg_upd | with_reducible apply bistClear_upd | with_reducible refine Upd.bothPeaks ?_ (fun _ _ _ => ?_) | with_reducible apply passIn_upd | with_reducible apply retireShared_upd | with_reducible apply retirePeak_upd | with_reducible apply heldFail_upd | with_reducible apply safeEnter_upd | split | with_reducible apply Upd.lit | exact rfl | exact SadUpd.refl _ _ | with_reducible apply SadUpd.ite | apply SadUpd.mk | exact fun _ => PeakUpd.refl _ _ | exact Or.inl (by decide) | exact Or.inr rfl); try clear_value x) | (have h9 : (x : Peak) = x := rfl; clear h9) | (have h9 : (x : Saddle) = x := rfl; clear h9) | (have h9 : (x : Pair) = x := rfl; clear h9) | (have h9 : (x : Leg) = x := rfl; clear h9) | clear_value x | skip) | with_reducible apply Upd.ite | with_reducible apply State.setFld_upd | with_reducible apply State.setReg_upd | with_reducible apply bistClear_upd | with_reducible refine Upd.bothPeaks ?_ (fun _ _ _ => ?_) | with_reducible apply passIn_upd | with_reducible apply retireShared_upd | with_reducible apply retirePeak_upd | with_reducible apply heldFail_upd | with_reducible apply safeEnter_upd | split | with_reducible apply Upd.lit | exact rfl | exact SadUpd.refl _ _ | with_reducible apply SadUpd.ite | apply SadUpd.mk | exact fun _ => PeakUpd.refl _ _ | exact Or.inl (by decide) | exact Or.inr rfl

theorem execBistRunComplete_upd (p : PeakId) (pass : Word) (s : State) {t : State} (hX : execBistRunComplete p pass s = .next t) : Upd 4503597612482127 s t := by
  unfold execBistRunComplete at hX
  cases hX
  have h0 := Upd.refl 4503597612482127 s
  repeat' first | with_reducible assumption | (guard_target =~ (_ ||| _ : Nat) = _; decide) | with_reducible apply Upd.ite | with_reducible apply bistDone_upd

end Sys2Proof.Machine
end

