-- ==== Sys2Proof/Laws/UpdWrap.lean ====
section
/-! SUPPORT. What each operation of Machine/Wrap.lean may change. -/

set_option linter.unusedTactic false
set_option linter.unreachableTactic false

namespace Sys2Proof.Machine

theorem trackEdge_upd {M0 : Nat} {s0 : State} {tb : Nat} {s : State} (hU : Upd M0 s0 s) (hM : 1025 ||| M0 = M0) : Upd M0 s0 (trackEdge tb s) := by
  refine Upd.step hU ?_ hM
  clear hU hM
  unfold trackEdge
  have h0 := Upd.refl 1025 s
  repeat' first | with_reducible assumption | (guard_target =~ (_ ||| _ : Nat) = _; decide) | (fail_if_no_progress extract_lets +onlyGivenNames x; first | (have hx : Upd 1025 s x := (by unfold x; repeat' first | with_reducible assumption | (guard_target =~ (_ ||| _ : Nat) = _; decide) | with_reducible apply Upd.ite | with_reducible apply State.setRegI_upd | with_reducible apply alignRefresh_upd | with_reducible apply State.setTb_upd); try clear_value x) | (have h9 : (x : Peak) = x := rfl; clear h9) | (have h9 : (x : Saddle) = x := rfl; clear h9) | (have h9 : (x : Pair) = x := rfl; clear h9) | (have h9 : (x : Leg) = x := rfl; clear h9) | clear_value x | skip) | with_reducible apply Upd.ite | with_reducible apply State.setRegI_upd | with_reducible apply alignRefresh_upd | with_reducible apply State.setTb_upd

theorem secondEdge_upd {M0 : Nat} {s0 : State} {s : State} (hU : Upd M0 s0 s) (hM : 248523987616909 ||| M0 = M0) : Upd M0 s0 (secondEdge s) := by
  refine Upd.step hU ?_ hM
  clear hU hM
  unfold secondEdge
  have h0 := Upd.refl 248523987616909 s
  repeat' first | with_reducible assumption | (guard_target =~ (_ ||| _ : Nat) = _; decide) | (fail_if_no_progress extract_lets +onlyGivenNames x; first | (have hx : Upd 248523987616909 s x := (by unfold x; repeat' first | with_reducible assumption | (guard_target =~ (_ ||| _ : Nat) = _; decide) | with_reducible apply Upd.ite | with_reducible apply fireBoth_upd | with_reducible refine Upd.forAll ?_ (fun _ _ _ => ?_) | with_reducible apply trackEdge_upd | with_reducible apply Upd.lit | exact rfl | exact SadUpd.refl _ _ | with_reducible apply SadUpd.ite | apply SadUpd.mk | exact fun _ => PeakUpd.refl _ _ | exact Or.inl (by decide) | exact Or.inr rfl); try clear_value x) | (have h9 : (x : Peak) = x := rfl; clear h9) | (have h9 : (x : Saddle) = x := rfl; clear h9) | (have h9 : (x : Pair) = x := rfl; clear h9) | (have h9 : (x : Leg) = x := rfl; clear h9) | clear_value x | skip) | with_reducible apply Upd.ite | with_reducible apply fireBoth_upd | with_reducible refine Upd.forAll ?_ (fun _ _ _ => ?_) | with_reducible apply trackEdge_upd | with_reducible apply Upd.lit | exact rfl | exact SadUpd.refl _ _ | with_reducible apply SadUpd.ite | apply SadUpd.mk | exact fun _ => PeakUpd.refl _ _ | exact Or.inl (by decide) | exact Or.inr rfl

theorem execCairnSecondEdge_upd (s : State) {t : State} (hX : execCairnSecondEdge s = .next t) : Upd 248523987616909 s t := by
  unfold execCairnSecondEdge at hX
  cases hX
  have h0 := Upd.refl 248523987616909 s
  repeat' first | with_reducible assumption | (guard_target =~ (_ ||| _ : Nat) = _; decide) | with_reducible apply secondEdge_upd

theorem correct_upd {M0 : Nat} {s0 : State} {tb : Nat} {s : State} (hU : Upd M0 s0 s) (hM : 1025 ||| M0 = M0) : Upd M0 s0 (correct tb s) := by
  refine Upd.step hU ?_ hM
  clear hU hM
  unfold correct
  have h0 := Upd.refl 1025 s
  repeat' first | with_reducible assumption | (guard_target =~ (_ ||| _ : Nat) = _; decide) | (fail_if_no_progress extract_lets +onlyGivenNames x; first | (have hx : Upd 1025 s x := (by unfold x; repeat' first | with_reducible assumption | (guard_target =~ (_ ||| _ : Nat) = _; decide) | with_reducible apply Upd.ite | with_reducible apply State.bump_upd | with_reducible apply State.setReg_upd | with_reducible apply State.setTb_upd); try clear_value x) | (have h9 : (x : Peak) = x := rfl; clear h9) | (have h9 : (x : Saddle) = x := rfl; clear h9) | (have h9 : (x : Pair) = x := rfl; clear h9) | (have h9 : (x : Leg) = x := rfl; clear h9) | clear_value x | skip) | with_reducible apply Upd.ite | with_reducible apply State.bump_upd | with_reducible apply State.setReg_upd | with_reducible apply State.setTb_upd

theorem periodBegin_upd {M0 : Nat} {s0 : State} {tb : Nat} {s : State} (hU : Upd M0 s0 s) (hM : 268436481 ||| M0 = M0) : Upd M0 s0 (periodBegin tb s) := by
  refine Upd.step hU ?_ hM
  clear hU hM
  unfold periodBegin
  have h0 := Upd.refl 268436481 s
  repeat' first | with_reducible assumption | (guard_target =~ (_ ||| _ : Nat) = _; decide) | (fail_if_no_progress extract_lets +onlyGivenNames x; first | (have hx : Upd 268436481 s x := (by unfold x; repeat' first | with_reducible assumption | (guard_target =~ (_ ||| _ : Nat) = _; decide) | with_reducible apply State.setTb_upd | with_reducible apply State.setReg_upd | with_reducible apply Upd.lit | exact rfl | exact SadUpd.refl _ _ | with_reducible apply SadUpd.ite | apply SadUpd.mk | exact fun _ => PeakUpd.refl _ _ | exact Or.inl (by decide) | exact Or.inr rfl); try clear_value x) | (have h9 : (x : Peak) = x := rfl; clear h9) | (have h9 : (x : Saddle) = x := rfl; clear h9) | (have h9 : (x : Pair) = x := rfl; clear h9) | (have h9 : (x : Leg) = x := rfl; clear h9) | clear_value x | skip) | with_reducible apply State.setTb_upd | with_reducible apply State.setReg_upd | with_reducible apply Upd.lit | exact rfl | exact SadUpd.refl _ _ | with_reducible apply SadUpd.ite | apply SadUpd.mk | exact fun _ => PeakUpd.refl _ _ | exact Or.inl (by decide) | exact Or.inr rfl

theorem latchAll_upd {M0 : Nat} {s0 : State} {tb : Nat} {s : State} (hU : Upd M0 s0 s) (hM : 15361 ||| M0 = M0) : Upd M0 s0 (latchAll tb s) := by
  refine Upd.step hU ?_ hM
  clear hU hM
  unfold latchAll
  have h0 := Upd.refl 15361 s
  repeat' first | with_reducible assumption | (guard_target =~ (_ ||| _ : Nat) = _; decide) | with_reducible apply pwmRefresh_upd | with_reducible refine Upd.forAll ?_ (fun _ _ _ => ?_) | with_reducible apply legWrap_upd | with_reducible apply saddleLatch_upd

theorem periodEvent_upd {M0 : Nat} {s0 : State} {tb : Nat} {start : Bool} {s : State} (hU : Upd M0 s0 s) (hM : 248532598521901 ||| M0 = M0) : Upd M0 s0 (periodEvent tb start s) := by
  refine Upd.step hU ?_ hM
  clear hU hM
  unfold periodEvent
  have h0 := Upd.refl 248532598521901 s
  repeat' first | with_reducible assumption | (guard_target =~ (_ ||| _ : Nat) = _; decide) | (fail_if_no_progress extract_lets +onlyGivenNames x; first | (have hx : Upd 248532598521901 s x := (by unfold x; repeat' first | with_reducible assumption | (guard_target =~ (_ ||| _ : Nat) = _; decide) | with_reducible apply Upd.ite | with_reducible apply outputCompare_upd | with_reducible refine Upd.bothPeaks ?_ (fun _ _ _ => ?_) | with_reducible apply frameSeries_upd | with_reducible apply replaceAtWrap_upd | with_reducible apply Upd.lit | exact rfl | exact SadUpd.refl _ _ | with_reducible apply SadUpd.ite | apply SadUpd.mk | exact fun _ => PeakUpd.refl _ _ | exact Or.inl (by decide) | exact Or.inr rfl); try clear_value x) | (have h9 : (x : Peak) = x := rfl; clear h9) | (have h9 : (x : Saddle) = x := rfl; clear h9) | (have h9 : (x : Pair) = x := rfl; clear h9) | (have h9 : (x : Leg) = x := rfl; clear h9) | clear_value x | skip) | with_reducible apply Upd.ite | with_reducible apply outputCompare_upd | with_reducible refine Upd.bothPeaks ?_ (fun _ _ _ => ?_) | with_reducible apply frameSeries_upd | with_reducible apply replaceAtWrap_upd | with_reducible apply Upd.lit | exact rfl | exact SadUpd.refl _ _ | with_reducible apply SadUpd.ite | apply SadUpd.mk | exact fun _ => PeakUpd.refl _ _ | exact Or.inl (by decide) | exact Or.inr rfl

theorem startTb_upd {M0 : Nat} {s0 : State} {tb : Nat} {s : State} (hU : Upd M0 s0 s) (hM : 249494939647085 ||| M0 = M0) : Upd M0 s0 (startTb tb s) := by
  refine Upd.step hU ?_ hM
  clear hU hM
  unfold startTb
  have h0 := Upd.refl 249494939647085 s
  repeat' first | with_reducible assumption | (guard_target =~ (_ ||| _ : Nat) = _; decide) | (fail_if_no_progress extract_lets +onlyGivenNames x; first | (have hx : Upd 249494939647085 s x := (by unfold x; repeat' first | with_reducible assumption | (guard_target =~ (_ ||| _ : Nat) = _; decide) | with_reducible apply joinWrap_upd | with_reducible apply State.setFld_upd | with_reducible apply periodBegin_upd | with_reducible apply State.setTb_upd | with_reducible apply meanStart_upd | with_reducible apply swbWrap_upd | with_reducible apply rdgWrap_upd | with_reducible apply rephaseTb_upd | with_reducible apply periodEvent_upd | with_reducible apply fireBoth_upd | with_reducible apply latchAll_upd); try clear_value x) | (have h9 : (x : Peak) = x := rfl; clear h9) | (have h9 : (x : Saddle) = x := rfl; clear h9) | (have h9 : (x : Pair) = x := rfl; clear h9) | (have h9 : (x : Leg) = x := rfl; clear h9) | clear_value x | skip) | with_reducible apply joinWrap_upd | with_reducible apply State.setFld_upd | with_reducible apply periodBegin_upd | with_reducible apply State.setTb_upd | with_reducible apply meanStart_upd | with_reducible apply swbWrap_upd | with_reducible apply rdgWrap_upd | with_reducible apply rephaseTb_upd | with_reducible apply periodEvent_upd | with_reducible apply fireBoth_upd | with_reducible apply latchAll_upd

theorem stopWrap_upd {M0 : Nat} {s0 : State} {tb : Nat} {s : State} (hU : Upd M0 s0 s) (hM : 249495476517901 ||| M0 = M0) : Upd M0 s0 (stopWrap tb s) := by
  refine Upd.step hU ?_ hM
  clear hU hM
  unfold stopWrap
  have h0 := Upd.refl 249495476517901 s
  repeat' first | with_reducible assumption | (guard_target =~ (_ ||| _ : Nat) = _; decide) | (fail_if_no_progress extract_lets +onlyGivenNames x; first | (have hx : Upd 249495476517901 s x := (by unfold x; repeat' first | with_reducible assumption | (guard_target =~ (_ ||| _ : Nat) = _; decide) | with_reducible apply Upd.ite | with_reducible apply meanWrap_upd | with_reducible apply swbWrap_upd | with_reducible apply rdgWrap_upd | with_reducible apply meanStop_upd | with_reducible apply State.setFld_upd | with_reducible refine Upd.forAll ?_ (fun _ _ _ => ?_) | with_reducible apply legLateMove_upd | with_reducible apply lateMove_upd | with_reducible apply State.setTb_upd | with_reducible apply fireBoth_upd | with_reducible apply legsDecide_upd | with_reducible apply pairsDecide_upd | with_reducible apply outputCompare_upd | with_reducible refine Upd.bothPeaks ?_ (fun _ _ _ => ?_) | with_reducible apply frameStop_upd | with_reducible apply replaceClose_upd | with_reducible apply State.setReg_upd | with_reducible apply Upd.lit | exact rfl | exact SadUpd.refl _ _ | with_reducible apply SadUpd.ite | apply SadUpd.mk | exact fun _ => PeakUpd.refl _ _ | exact Or.inl (by decide) | exact Or.inr rfl); try clear_value x) | (have h9 : (x : Peak) = x := rfl; clear h9) | (have h9 : (x : Saddle) = x := rfl; clear h9) | (have h9 : (x : Pair) = x := rfl; clear h9) | (have h9 : (x : Leg) = x := rfl; clear h9) | clear_value x | skip) | with_reducible apply Upd.ite | with_reducible apply meanWrap_upd | with_reducible apply swbWrap_upd | with_reducible apply rdgWrap_upd | with_reducible apply meanStop_upd | with_reducible apply State.setFld_upd | with_reducible refine Upd.forAll ?_ (fun _ _ _ => ?_) | with_reducible apply legLateMove_upd | with_reducible apply lateMove_upd | with_reducible apply State.setTb_upd | with_reducible apply fireBoth_upd | with_reducible apply legsDecide_upd | with_reducible apply pairsDecide_upd | with_reducible apply outputCompare_upd | with_reducible refine Upd.bothPeaks ?_ (fun _ _ _ => ?_) | with_reducible apply frameStop_upd | with_reducible apply replaceClose_upd | with_reducible apply State.setReg_upd | with_reducible apply Upd.lit | exact rfl | exact SadUpd.refl _ _ | with_reducible apply SadUpd.ite | apply SadUpd.mk | exact fun _ => PeakUpd.refl _ _ | exact Or.inl (by decide) | exact Or.inr rfl

theorem wrapNow_upd {M0 : Nat} {s0 : State} {tb : Nat} {s : State} (hU : Upd M0 s0 s) (hM : 249495476517933 ||| M0 = M0) : Upd M0 s0 (wrapNow tb s) := by
  refine Upd.step hU ?_ hM
  clear hU hM
  unfold wrapNow
  have h0 := Upd.refl 249495476517933 s
  repeat' first | with_reducible assumption | (guard_target =~ (_ ||| _ : Nat) = _; decide) | (fail_if_no_progress extract_lets +onlyGivenNames x; first | (have hx : Upd 249495476517933 s x := (by unfold x; repeat' first | with_reducible assumption | (guard_target =~ (_ ||| _ : Nat) = _; decide) | with_reducible apply Upd.ite | with_reducible apply joinWrap_upd | with_reducible apply mirrorSteps_upd | with_reducible apply stopWrap_upd | with_reducible apply meanWrap_upd | with_reducible apply swbWrap_upd | with_reducible apply rdgWrap_upd | with_reducible apply periodBegin_upd | with_reducible apply periodEvent_upd | with_reducible apply fireBoth_upd | with_reducible apply latchAll_upd | with_reducible apply correct_upd); try clear_value x) | (have h9 : (x : Peak) = x := rfl; clear h9) | (have h9 : (x : Saddle) = x := rfl; clear h9) | (have h9 : (x : Pair) = x := rfl; clear h9) | (have h9 : (x : Leg) = x := rfl; clear h9) | clear_value x | skip) | with_reducible apply Upd.ite | with_reducible apply joinWrap_upd | with_reducible apply mirrorSteps_upd | with_reducible apply stopWrap_upd | with_reducible apply meanWrap_upd | with_reducible apply swbWrap_upd | with_reducible apply rdgWrap_upd | with_reducible apply periodBegin_upd | with_reducible apply periodEvent_upd | with_reducible apply fireBoth_upd | with_reducible apply latchAll_upd | with_reducible apply correct_upd

theorem execTimebaseWrap_upd (tb : Fin 8) (s : State) {t : State} (hX : execTimebaseWrap tb s = .next t) : Upd 249495476517933 s t := by
  unfold execTimebaseWrap at hX
  cases hX
  have h0 := Upd.refl 249495476517933 s
  repeat' first | with_reducible assumption | (guard_target =~ (_ ||| _ : Nat) = _; decide) | with_reducible apply wrapNow_upd

theorem execAlignedStart_upd (tb : Fin 8) (s : State) {t : State} (hX : execAlignedStart tb s = .next t) : Upd 249494939647085 s t := by
  unfold execAlignedStart at hX
  cases hX
  have h0 := Upd.refl 249494939647085 s
  repeat' first | with_reducible assumption | (guard_target =~ (_ ||| _ : Nat) = _; decide) | with_reducible apply Upd.ite | with_reducible apply startTb_upd

theorem startBit_upd {M0 : Nat} {s0 : State} {tb : Nat} {s : State} (hU : Upd M0 s0 s) (hM : 249494939647085 ||| M0 = M0) : Upd M0 s0 (startBit tb s) := by
  refine Upd.step hU ?_ hM
  clear hU hM
  unfold startBit
  have h0 := Upd.refl 249494939647085 s
  repeat' first | with_reducible assumption | (guard_target =~ (_ ||| _ : Nat) = _; decide) | with_reducible apply Upd.ite | with_reducible apply State.raise_upd | with_reducible apply State.setFld_upd | with_reducible apply startTb_upd

theorem tbCmdWrite_upd {M0 : Nat} {s0 : State} {start : Nat} {stop : Nat} {s : State} (hU : Upd M0 s0 s) (hM : 249494939647085 ||| M0 = M0) : Upd M0 s0 (tbCmdWrite start stop s) := by
  refine Upd.step hU ?_ hM
  clear hU hM
  unfold tbCmdWrite
  have h0 := Upd.refl 249494939647085 s
  repeat' first | with_reducible assumption | (guard_target =~ (_ ||| _ : Nat) = _; decide) | (fail_if_no_progress extract_lets +onlyGivenNames x; first | (have hx : Upd 249494939647085 s x := (by unfold x; repeat' first | with_reducible assumption | (guard_target =~ (_ ||| _ : Nat) = _; decide) | with_reducible apply Upd.ite | with_reducible refine Upd.forAll ?_ (fun _ _ _ => ?_) | with_reducible apply State.setTb_upd | with_reducible apply startBit_upd); try clear_value x) | (have h9 : (x : Peak) = x := rfl; clear h9) | (have h9 : (x : Saddle) = x := rfl; clear h9) | (have h9 : (x : Pair) = x := rfl; clear h9) | (have h9 : (x : Leg) = x := rfl; clear h9) | clear_value x | skip) | with_reducible apply Upd.ite | with_reducible refine Upd.forAll ?_ (fun _ _ _ => ?_) | with_reducible apply State.setTb_upd | with_reducible apply startBit_upd

theorem execTimebaseStart_upd (m : Master) (mask : BitVec 8) (s : State) {t : State} (hX : execTimebaseStart m mask s = .next t) : Upd 249494939647085 s t := by
  unfold execTimebaseStart at hX
  cases hX
  have h0 := Upd.refl 249494939647085 s
  repeat' first | with_reducible assumption | (guard_target =~ (_ ||| _ : Nat) = _; decide) | with_reducible refine gated_upd ?_ (fun _ _ => ?_) ?_ | with_reducible apply tbCmdWrite_upd

theorem execTimebaseStop_upd (m : Master) (mask : BitVec 8) (s : State) {t : State} (hX : execTimebaseStop m mask s = .next t) : Upd 249494939647085 s t := by
  unfold execTimebaseStop at hX
  cases hX
  have h0 := Upd.refl 249494939647085 s
  repeat' first | with_reducible assumption | (guard_target =~ (_ ||| _ : Nat) = _; decide) | with_reducible refine gated_upd ?_ (fun _ _ => ?_) ?_ | with_reducible apply tbCmdWrite_upd

end Sys2Proof.Machine
end

