-- ==== Sys2Proof/Laws/UpdObserve.lean ====
section
/-! SUPPORT. What each operation of Machine/Observe.lean may change. -/

set_option linter.unusedTactic false
set_option linter.unreachableTactic false

namespace Sys2Proof.Machine

theorem colLevels_upd {M0 : Nat} {s0 : State} {p : PeakId} {s : State} (hU : Upd M0 s0 s) (hM : 1 ||| M0 = M0) : Upd M0 s0 (colLevels p s) := by
  refine Upd.step hU ?_ hM
  clear hU hM
  unfold colLevels
  have h0 := Upd.refl 1 s
  repeat' first | with_reducible assumption | (guard_target =~ (_ ||| _ : Nat) = _; decide) | with_reducible apply State.setReg_upd

theorem inPush_upd {M0 : Nat} {s0 : State} {m : Master} {v : Word} {s : State} (hU : Upd M0 s0 s) (hM : 529998964326413 ||| M0 = M0) : Upd M0 s0 (inPush m v s) := by
  refine Upd.step hU ?_ hM
  clear hU hM
  unfold inPush
  have h0 := Upd.refl 529998964326413 s
  repeat' first | with_reducible assumption | (guard_target =~ (_ ||| _ : Nat) = _; decide) | (fail_if_no_progress extract_lets +onlyGivenNames x; first | (have hx : Upd 529998964326413 s x := (by unfold x; repeat' first | with_reducible assumption | (guard_target =~ (_ ||| _ : Nat) = _; decide) | with_reducible apply Upd.ite | with_reducible apply State.raise_upd | with_reducible apply colLevels_upd | with_reducible refine Upd.setPeak ?_ ?_ | with_reducible apply fire_upd | exact PeakUpd.refl _ _ | with_reducible apply PeakUpd.ite | with_reducible apply PeakUpd.lit | exact Or.inl (by decide) | exact Or.inr rfl); try clear_value x) | (have h9 : (x : Peak) = x := rfl; clear h9) | (have h9 : (x : Saddle) = x := rfl; clear h9) | (have h9 : (x : Pair) = x := rfl; clear h9) | (have h9 : (x : Leg) = x := rfl; clear h9) | clear_value x | skip) | with_reducible apply Upd.ite | with_reducible apply State.raise_upd | with_reducible apply colLevels_upd | with_reducible refine Upd.setPeak ?_ ?_ | with_reducible apply fire_upd | exact PeakUpd.refl _ _ | with_reducible apply PeakUpd.ite | with_reducible apply PeakUpd.lit | exact Or.inl (by decide) | exact Or.inr rfl

theorem inPop_upd {M0 : Nat} {s0 : State} {m : Master} {s : State} (hU : Upd M0 s0 s) (hM : 281474976710657 ||| M0 = M0) : Upd M0 s0 (inPop m s).2 := by
  refine Upd.step hU ?_ hM
  clear hU hM
  unfold inPop
  have h0 := Upd.refl 281474976710657 s
  repeat' first | with_reducible assumption | (guard_target =~ (_ ||| _ : Nat) = _; decide) | (fail_if_no_progress extract_lets +onlyGivenNames x; first | (have hx : Upd 281474976710657 s x := (by unfold x; repeat' first | with_reducible assumption | (guard_target =~ (_ ||| _ : Nat) = _; decide) | with_reducible apply Upd.ite | with_reducible apply Upd.ite_snd | with_reducible apply State.raise_upd | with_reducible apply colLevels_upd | with_reducible refine Upd.setPeak ?_ ?_ | with_reducible apply State.setFld_upd | split | exact PeakUpd.refl _ _ | with_reducible apply PeakUpd.ite | with_reducible apply PeakUpd.lit | exact Or.inl (by decide) | exact Or.inr rfl); try clear_value x) | (have hx : Upd 281474976710657 s x.2 := (by unfold x; repeat' first | with_reducible assumption | (guard_target =~ (_ ||| _ : Nat) = _; decide) | with_reducible apply Upd.ite | with_reducible apply Upd.ite_snd | with_reducible apply State.raise_upd | with_reducible apply colLevels_upd | with_reducible refine Upd.setPeak ?_ ?_ | with_reducible apply State.setFld_upd | split | exact PeakUpd.refl _ _ | with_reducible apply PeakUpd.ite | with_reducible apply PeakUpd.lit | exact Or.inl (by decide) | exact Or.inr rfl); try clear_value x) | (have h9 : (x : Peak) = x := rfl; clear h9) | (have h9 : (x : Saddle) = x := rfl; clear h9) | (have h9 : (x : Pair) = x := rfl; clear h9) | (have h9 : (x : Leg) = x := rfl; clear h9) | clear_value x | skip) | with_reducible apply Upd.ite | with_reducible apply Upd.ite_snd | with_reducible apply State.raise_upd | with_reducible apply colLevels_upd | with_reducible refine Upd.setPeak ?_ ?_ | with_reducible apply State.setFld_upd | split | exact PeakUpd.refl _ _ | with_reducible apply PeakUpd.ite | with_reducible apply PeakUpd.lit | exact Or.inl (by decide) | exact Or.inr rfl

theorem outPush_upd {M0 : Nat} {s0 : State} {m : Master} {v : Word} {s : State} (hU : Upd M0 s0 s) (hM : 562949953421313 ||| M0 = M0) : Upd M0 s0 (outPush m v s) := by
  refine Upd.step hU ?_ hM
  clear hU hM
  unfold outPush
  have h0 := Upd.refl 562949953421313 s
  repeat' first | with_reducible assumption | (guard_target =~ (_ ||| _ : Nat) = _; decide) | (fail_if_no_progress extract_lets +onlyGivenNames x; first | (have hx : Upd 562949953421313 s x := (by unfold x; repeat' first | with_reducible assumption | (guard_target =~ (_ ||| _ : Nat) = _; decide) | with_reducible apply Upd.ite | with_reducible apply State.raise_upd | with_reducible apply colLevels_upd | with_reducible refine Upd.setPeak ?_ ?_ | with_reducible apply State.setFld_upd | exact PeakUpd.refl _ _ | with_reducible apply PeakUpd.ite | with_reducible apply PeakUpd.lit | exact Or.inl (by decide) | exact Or.inr rfl); try clear_value x) | (have h9 : (x : Peak) = x := rfl; clear h9) | (have h9 : (x : Saddle) = x := rfl; clear h9) | (have h9 : (x : Pair) = x := rfl; clear h9) | (have h9 : (x : Leg) = x := rfl; clear h9) | clear_value x | skip) | with_reducible apply Upd.ite | with_reducible apply State.raise_upd | with_reducible apply colLevels_upd | with_reducible refine Upd.setPeak ?_ ?_ | with_reducible apply State.setFld_upd | exact PeakUpd.refl _ _ | with_reducible apply PeakUpd.ite | with_reducible apply PeakUpd.lit | exact Or.inl (by decide) | exact Or.inr rfl

theorem outPop_upd {M0 : Nat} {s0 : State} {m : Master} {s : State} (hU : Upd M0 s0 s) (hM : 811473941037069 ||| M0 = M0) : Upd M0 s0 (outPop m s).2 := by
  refine Upd.step hU ?_ hM
  clear hU hM
  unfold outPop
  have h0 := Upd.refl 811473941037069 s
  repeat' first | with_reducible assumption | (guard_target =~ (_ ||| _ : Nat) = _; decide) | (fail_if_no_progress extract_lets +onlyGivenNames x; first | (have hx : Upd 811473941037069 s x := (by unfold x; repeat' first | with_reducible assumption | (guard_target =~ (_ ||| _ : Nat) = _; decide) | with_reducible apply Upd.ite | with_reducible apply Upd.ite_snd | with_reducible apply State.raise_upd | with_reducible apply colLevels_upd | with_reducible refine Upd.setPeak ?_ ?_ | with_reducible apply fire_upd | split | exact PeakUpd.refl _ _ | with_reducible apply PeakUpd.ite | with_reducible apply PeakUpd.lit | exact Or.inl (by decide) | exact Or.inr rfl); try clear_value x) | (have hx : Upd 811473941037069 s x.2 := (by unfold x; repeat' first | with_reducible assumption | (guard_target =~ (_ ||| _ : Nat) = _; decide) | with_reducible apply Upd.ite | with_reducible apply Upd.ite_snd | with_reducible apply State.raise_upd | with_reducible apply colLevels_upd | with_reducible refine Upd.setPeak ?_ ?_ | with_reducible apply fire_upd | split | exact PeakUpd.refl _ _ | with_reducible apply PeakUpd.ite | with_reducible apply PeakUpd.lit | exact Or.inl (by decide) | exact Or.inr rfl); try clear_value x) | (have h9 : (x : Peak) = x := rfl; clear h9) | (have h9 : (x : Saddle) = x := rfl; clear h9) | (have h9 : (x : Pair) = x := rfl; clear h9) | (have h9 : (x : Leg) = x := rfl; clear h9) | clear_value x | skip) | with_reducible apply Upd.ite | with_reducible apply Upd.ite_snd | with_reducible apply State.raise_upd | with_reducible apply colLevels_upd | with_reducible refine Upd.setPeak ?_ ?_ | with_reducible apply fire_upd | split | exact PeakUpd.refl _ _ | with_reducible apply PeakUpd.ite | with_reducible apply PeakUpd.lit | exact Or.inl (by decide) | exact Or.inr rfl

theorem doorbell_upd {M0 : Nat} {s0 : State} {m : Master} {v : Nat} {s : State} (hU : Upd M0 s0 s) (hM : 1 ||| M0 = M0) : Upd M0 s0 (doorbell m v s) := by
  refine Upd.step hU ?_ hM
  clear hU hM
  unfold doorbell
  have h0 := Upd.refl 1 s
  repeat' first | with_reducible assumption | (guard_target =~ (_ ||| _ : Nat) = _; decide) | (fail_if_no_progress extract_lets +onlyGivenNames x; first | (have hx : Upd 1 s x := (by unfold x; repeat' first | with_reducible assumption | (guard_target =~ (_ ||| _ : Nat) = _; decide) | with_reducible apply Upd.ite | with_reducible apply State.setFld_upd); try clear_value x) | (have h9 : (x : Peak) = x := rfl; clear h9) | (have h9 : (x : Saddle) = x := rfl; clear h9) | (have h9 : (x : Pair) = x := rfl; clear h9) | (have h9 : (x : Leg) = x := rfl; clear h9) | clear_value x | skip) | with_reducible apply Upd.ite | with_reducible apply State.setFld_upd

theorem execInPush_upd (m : Master) (val : Word) (s : State) {t : State} (hX : execInPush m val s = .next t) : Upd 529998964326413 s t := by
  unfold execInPush at hX
  cases hX
  have h0 := Upd.refl 529998964326413 s
  repeat' first | with_reducible assumption | (guard_target =~ (_ ||| _ : Nat) = _; decide) | with_reducible apply Upd.ite | with_reducible apply inPush_upd

theorem execInPop_upd (m : Master) (s : State) {t : State} (hX : execInPop m s = .next t) : Upd 281474976710673 s t := by
  unfold execInPop at hX
  cases hX
  have h0 := Upd.refl 281474976710673 s
  repeat' first | with_reducible assumption | (guard_target =~ (_ ||| _ : Nat) = _; decide) | with_reducible apply Upd.ite | with_reducible apply Upd.ite_snd | with_reducible refine returned_upd ?_ ?_ | with_reducible apply inPop_upd

theorem execOutPush_upd (m : Master) (val : Word) (s : State) {t : State} (hX : execOutPush m val s = .next t) : Upd 562949953421313 s t := by
  unfold execOutPush at hX
  cases hX
  have h0 := Upd.refl 562949953421313 s
  repeat' first | with_reducible assumption | (guard_target =~ (_ ||| _ : Nat) = _; decide) | with_reducible apply Upd.ite | with_reducible apply outPush_upd

theorem execOutPop_upd (m : Master) (s : State) {t : State} (hX : execOutPop m s = .next t) : Upd 811473941037085 s t := by
  unfold execOutPop at hX
  cases hX
  have h0 := Upd.refl 811473941037085 s
  repeat' first | with_reducible assumption | (guard_target =~ (_ ||| _ : Nat) = _; decide) | with_reducible apply Upd.ite | with_reducible apply Upd.ite_snd | with_reducible refine returned_upd ?_ ?_ | with_reducible apply outPop_upd

theorem execDoorbell_upd (m : Master) (val : Word) (s : State) {t : State} (hX : execDoorbell m val s = .next t) : Upd 1 s t := by
  unfold execDoorbell at hX
  cases hX
  have h0 := Upd.refl 1 s
  repeat' first | with_reducible assumption | (guard_target =~ (_ ||| _ : Nat) = _; decide) | with_reducible apply Upd.ite | with_reducible apply doorbell_upd

theorem execBootDataWord_upd (val : Word) (s : State) {t : State} (hX : execBootDataWord val s = .next t) : Upd 67108865 s t := by
  unfold execBootDataWord at hX
  cases hX
  have h0 := Upd.refl 67108865 s
  repeat' first | with_reducible assumption | (guard_target =~ (_ ||| _ : Nat) = _; decide) | with_reducible apply Upd.ite | with_reducible apply bootData_upd

theorem tickPair_upd {M0 : Nat} {s0 : State} {p : PeakId} {s : State} (hU : Upd M0 s0 s) (hM : 211106232532993 ||| M0 = M0) : Upd M0 s0 (tickPair p s) := by
  refine Upd.step hU ?_ hM
  clear hU hM
  unfold tickPair
  have h0 := Upd.refl 211106232532993 s
  repeat' first | with_reducible assumption | (guard_target =~ (_ ||| _ : Nat) = _; decide) | (fail_if_no_progress extract_lets +onlyGivenNames x; first | (have hx : Upd 211106232532993 s x := (by unfold x; repeat' first | with_reducible assumption | (guard_target =~ (_ ||| _ : Nat) = _; decide) | with_reducible apply tracePut_upd); try clear_value x) | (have h9 : (x : Peak) = x := rfl; clear h9) | (have h9 : (x : Saddle) = x := rfl; clear h9) | (have h9 : (x : Pair) = x := rfl; clear h9) | (have h9 : (x : Leg) = x := rfl; clear h9) | clear_value x | skip) | with_reducible apply tracePut_upd

theorem execTickPair_upd (s : State) {t : State} (hX : execTickPair s = .next t) : Upd 211106232532993 s t := by
  unfold execTickPair at hX
  cases hX
  have h0 := Upd.refl 211106232532993 s
  repeat' first | with_reducible assumption | (guard_target =~ (_ ||| _ : Nat) = _; decide) | with_reducible apply Upd.ite | with_reducible refine Upd.bothPeaks ?_ (fun _ _ _ => ?_) | with_reducible apply tickPair_upd

theorem trcCtrlWrite_upd {M0 : Nat} {s0 : State} {p : PeakId} {v : Nat} {s : State} (hU : Upd M0 s0 s) (hM : 211106366750721 ||| M0 = M0) : Upd M0 s0 (trcCtrlWrite p v s) := by
  refine Upd.step hU ?_ hM
  clear hU hM
  unfold trcCtrlWrite
  have h0 := Upd.refl 211106366750721 s
  repeat' first | with_reducible assumption | (guard_target =~ (_ ||| _ : Nat) = _; decide) | (fail_if_no_progress extract_lets +onlyGivenNames x; first | (have hx : Upd 211106366750721 s x := (by unfold x; repeat' first | with_reducible assumption | (guard_target =~ (_ ||| _ : Nat) = _; decide) | with_reducible apply Upd.ite | with_reducible apply State.setReg_upd | with_reducible apply tickPair_upd | with_reducible apply Upd.lit | exact rfl | exact SadUpd.refl _ _ | with_reducible apply SadUpd.ite | apply SadUpd.mk | exact fun _ => PeakUpd.refl _ _ | exact Or.inl (by decide) | exact Or.inr rfl); try clear_value x) | (have h9 : (x : Peak) = x := rfl; clear h9) | (have h9 : (x : Saddle) = x := rfl; clear h9) | (have h9 : (x : Pair) = x := rfl; clear h9) | (have h9 : (x : Leg) = x := rfl; clear h9) | clear_value x | skip) | with_reducible apply Upd.ite | with_reducible apply State.setReg_upd | with_reducible apply tickPair_upd | with_reducible apply Upd.lit | exact rfl | exact SadUpd.refl _ _ | with_reducible apply SadUpd.ite | apply SadUpd.mk | exact fun _ => PeakUpd.refl _ _ | exact Or.inl (by decide) | exact Or.inr rfl

theorem packetTaken_upd {M0 : Nat} {s0 : State} {p : PeakId} {s : State} (hU : Upd M0 s0 s) (hM : 211106232532992 ||| M0 = M0) : Upd M0 s0 (packetTaken p s) := by
  refine Upd.step hU ?_ hM
  clear hU hM
  unfold packetTaken
  have h0 := Upd.refl 211106232532992 s
  repeat' first | with_reducible assumption | (guard_target =~ (_ ||| _ : Nat) = _; decide) | with_reducible apply Upd.ite | with_reducible refine Upd.setPeak ?_ ?_ | exact PeakUpd.refl _ _ | with_reducible apply PeakUpd.ite | with_reducible apply PeakUpd.lit | exact Or.inl (by decide) | exact Or.inr rfl

theorem packetOut_upd {M0 : Nat} {s0 : State} {w : Option Word} {since : Nat} {turn : PeakId} {s : State} (hU : Upd M0 s0 s) (hM : 134217728 ||| M0 = M0) : Upd M0 s0 (packetOut w since turn s) := by
  refine Upd.step hU ?_ hM
  clear hU hM
  unfold packetOut
  have h0 := Upd.refl 134217728 s
  repeat' first | with_reducible assumption | (guard_target =~ (_ ||| _ : Nat) = _; decide) | with_reducible apply Upd.lit | exact rfl | exact SadUpd.refl _ _ | with_reducible apply SadUpd.ite | apply SadUpd.mk | exact fun _ => PeakUpd.refl _ _ | exact Or.inl (by decide) | exact Or.inr rfl

theorem tracePacket_upd {M0 : Nat} {s0 : State} {s : State} (hU : Upd M0 s0 s) (hM : 211106366750720 ||| M0 = M0) : Upd M0 s0 (tracePacket s) := by
  refine Upd.step hU ?_ hM
  clear hU hM
  unfold tracePacket
  have h0 := Upd.refl 211106366750720 s
  repeat' first | with_reducible assumption | (guard_target =~ (_ ||| _ : Nat) = _; decide) | with_reducible apply Upd.ite | with_reducible apply packetOut_upd | with_reducible apply packetTaken_upd

theorem execTracePacket_upd (s : State) {t : State} (hX : execTracePacket s = .next t) : Upd 211106366750720 s t := by
  unfold execTracePacket at hX
  cases hX
  have h0 := Upd.refl 211106366750720 s
  repeat' first | with_reducible assumption | (guard_target =~ (_ ||| _ : Nat) = _; decide) | with_reducible apply tracePacket_upd

theorem counterEnable_upd {M0 : Nat} {s0 : State} {p : PeakId} {k : Nat} {v : Nat} {s : State} (hU : Upd M0 s0 s) (hM : 35184372088833 ||| M0 = M0) : Upd M0 s0 (counterEnable p k v s) := by
  refine Upd.step hU ?_ hM
  clear hU hM
  unfold counterEnable
  have h0 := Upd.refl 35184372088833 s
  repeat' first | with_reducible assumption | (guard_target =~ (_ ||| _ : Nat) = _; decide) | (fail_if_no_progress extract_lets +onlyGivenNames x; first | (have hx : Upd 35184372088833 s x := (by unfold x; repeat' first | with_reducible assumption | (guard_target =~ (_ ||| _ : Nat) = _; decide) | with_reducible apply Upd.ite | with_reducible apply State.setReg_upd | with_reducible refine Upd.setPeak ?_ ?_ | with_reducible apply State.setFld_upd | exact PeakUpd.refl _ _ | with_reducible apply PeakUpd.ite | with_reducible apply PeakUpd.lit | exact Or.inl (by decide) | exact Or.inr rfl); try clear_value x) | (have h9 : (x : Peak) = x := rfl; clear h9) | (have h9 : (x : Saddle) = x := rfl; clear h9) | (have h9 : (x : Pair) = x := rfl; clear h9) | (have h9 : (x : Leg) = x := rfl; clear h9) | clear_value x | skip) | with_reducible apply Upd.ite | with_reducible apply State.setReg_upd | with_reducible refine Upd.setPeak ?_ ?_ | with_reducible apply State.setFld_upd | exact PeakUpd.refl _ _ | with_reducible apply PeakUpd.ite | with_reducible apply PeakUpd.lit | exact Or.inl (by decide) | exact Or.inr rfl

theorem counterRead_upd {M0 : Nat} {s0 : State} {p : PeakId} {k : Nat} {s : State} (hU : Upd M0 s0 s) (hM : 1 ||| M0 = M0) : Upd M0 s0 (counterRead p k s).2 := by
  refine Upd.step hU ?_ hM
  clear hU hM
  unfold counterRead
  have h0 := Upd.refl 1 s
  repeat' first | with_reducible assumption | (guard_target =~ (_ ||| _ : Nat) = _; decide) | (fail_if_no_progress extract_lets +onlyGivenNames x; first | (have hx : Upd 1 s x := (by unfold x; repeat' first | with_reducible assumption | (guard_target =~ (_ ||| _ : Nat) = _; decide) | with_reducible apply State.setFld_upd); try clear_value x) | (have hx : Upd 1 s x.2 := (by unfold x; repeat' first | with_reducible assumption | (guard_target =~ (_ ||| _ : Nat) = _; decide) | with_reducible apply State.setFld_upd); try clear_value x) | (have h9 : (x : Peak) = x := rfl; clear h9) | (have h9 : (x : Saddle) = x := rfl; clear h9) | (have h9 : (x : Pair) = x := rfl; clear h9) | (have h9 : (x : Leg) = x := rfl; clear h9) | clear_value x | skip) | with_reducible apply State.setFld_upd

theorem execCounterEnable_upd (m : Master) (k : Fin 8) (s : State) {t : State} (hX : execCounterEnable m k s = .next t) : Upd 35184372088833 s t := by
  unfold execCounterEnable at hX
  cases hX
  have h0 := Upd.refl 35184372088833 s
  repeat' first | with_reducible assumption | (guard_target =~ (_ ||| _ : Nat) = _; decide) | with_reducible apply Upd.ite | with_reducible apply counterEnable_upd

theorem execCounterRead_upd (m : Master) (k : Fin 8) (s : State) {t : State} (hX : execCounterRead m k s = .next t) : Upd 17 s t := by
  unfold execCounterRead at hX
  cases hX
  have h0 := Upd.refl 17 s
  repeat' first | with_reducible assumption | (guard_target =~ (_ ||| _ : Nat) = _; decide) | with_reducible apply Upd.ite | with_reducible apply Upd.ite_snd | with_reducible refine returned_upd ?_ ?_ | with_reducible apply counterRead_upd

end Sys2Proof.Machine
end

