-- ==== Sys2Proof/Laws/UpdDma.lean ====
section
/-! SUPPORT. What each operation of Machine/Dma.lean may change. -/

set_option linter.unusedTactic false
set_option linter.unreachableTactic false

namespace Sys2Proof.Machine

theorem State.setDch_upd {M0 : Nat} {s0 : State} {s : State} {p : PeakId} {c : Nat} {g : DmaChan} (hU : Upd M0 s0 s) (hM : 17592186044416 ||| M0 = M0) : Upd M0 s0 (State.setDch s p c g) := by
  refine Upd.step hU ?_ hM
  clear hU hM
  unfold State.setDch
  have h0 := Upd.refl 17592186044416 s
  repeat' first | with_reducible assumption | (guard_target =~ (_ ||| _ : Nat) = _; decide) | with_reducible refine Upd.setPeak ?_ ?_ | exact PeakUpd.refl _ _ | with_reducible apply PeakUpd.ite | with_reducible apply PeakUpd.lit | exact Or.inl (by decide) | exact Or.inr rfl

theorem dmaFlag_upd {M0 : Nat} {s0 : State} {p : PeakId} {c : Nat} {f : Fld} {s : State} (hU : Upd M0 s0 s) (hM : 1 ||| M0 = M0) : Upd M0 s0 (dmaFlag p c f s) := by
  refine Upd.step hU ?_ hM
  clear hU hM
  unfold dmaFlag
  have h0 := Upd.refl 1 s
  repeat' first | with_reducible assumption | (guard_target =~ (_ ||| _ : Nat) = _; decide) | with_reducible apply setBitOf_upd | with_reducible apply State.raise_upd

theorem dmaRefresh_upd {M0 : Nat} {s0 : State} {p : PeakId} {c : Nat} {s : State} (hU : Upd M0 s0 s) (hM : 1 ||| M0 = M0) : Upd M0 s0 (dmaRefresh p c s) := by
  refine Upd.step hU ?_ hM
  clear hU hM
  unfold dmaRefresh
  have h0 := Upd.refl 1 s
  repeat' first | with_reducible assumption | (guard_target =~ (_ ||| _ : Nat) = _; decide) | (fail_if_no_progress extract_lets +onlyGivenNames x; first | (have hx : Upd 1 s x := (by unfold x; repeat' first | with_reducible assumption | (guard_target =~ (_ ||| _ : Nat) = _; decide) | with_reducible apply State.setFld_upd); try clear_value x) | (have h9 : (x : Peak) = x := rfl; clear h9) | (have h9 : (x : Saddle) = x := rfl; clear h9) | (have h9 : (x : Pair) = x := rfl; clear h9) | (have h9 : (x : Leg) = x := rfl; clear h9) | clear_value x | skip) | with_reducible apply State.setFld_upd

theorem dmaReadOne_upd {M0 : Nat} {s0 : State} {p : PeakId} {c : Nat} {s : State} (hU : Upd M0 s0 s) (hM : 17592186044416 ||| M0 = M0) : Upd M0 s0 (dmaReadOne p c s) := by
  refine Upd.step hU ?_ hM
  clear hU hM
  unfold dmaReadOne
  have h0 := Upd.refl 17592186044416 s
  repeat' first | with_reducible assumption | (guard_target =~ (_ ||| _ : Nat) = _; decide) | (fail_if_no_progress extract_lets +onlyGivenNames x; first | (have hx : Upd 17592186044416 s x := (by unfold x; repeat' first | with_reducible assumption | (guard_target =~ (_ ||| _ : Nat) = _; decide) | with_reducible apply Upd.ite | with_reducible apply State.setDch_upd); try clear_value x) | (have h9 : (x : Peak) = x := rfl; clear h9) | (have h9 : (x : Saddle) = x := rfl; clear h9) | (have h9 : (x : Pair) = x := rfl; clear h9) | (have h9 : (x : Leg) = x := rfl; clear h9) | clear_value x | skip) | with_reducible apply Upd.ite | with_reducible apply State.setDch_upd

theorem dmaReads_upd {M0 : Nat} {s0 : State} {p : PeakId} {c : Nat} {s : State} (hU : Upd M0 s0 s) (hM : 17592186044417 ||| M0 = M0) : Upd M0 s0 (dmaReads p c s) := by
  refine Upd.step hU ?_ hM
  clear hU hM
  unfold dmaReads
  have h0 := Upd.refl 17592186044417 s
  repeat' first | with_reducible assumption | (guard_target =~ (_ ||| _ : Nat) = _; decide) | with_reducible apply dmaRefresh_upd | with_reducible refine Upd.forAll ?_ (fun _ _ _ => ?_) | with_reducible apply dmaReadOne_upd

theorem dmaBegin_upd {M0 : Nat} {s0 : State} {p : PeakId} {c : Nat} {s : State} (hU : Upd M0 s0 s) (hM : 17592186044417 ||| M0 = M0) : Upd M0 s0 (dmaBegin p c s) := by
  refine Upd.step hU ?_ hM
  clear hU hM
  unfold dmaBegin
  have h0 := Upd.refl 17592186044417 s
  repeat' first | with_reducible assumption | (guard_target =~ (_ ||| _ : Nat) = _; decide) | (fail_if_no_progress extract_lets +onlyGivenNames x; first | (have hx : Upd 17592186044417 s x := (by unfold x; repeat' first | with_reducible assumption | (guard_target =~ (_ ||| _ : Nat) = _; decide) | with_reducible apply Upd.ite | with_reducible apply State.setDch_upd | with_reducible apply dmaReads_upd | with_reducible apply State.setFld_upd); try clear_value x) | (have h9 : (x : Peak) = x := rfl; clear h9) | (have h9 : (x : Saddle) = x := rfl; clear h9) | (have h9 : (x : Pair) = x := rfl; clear h9) | (have h9 : (x : Leg) = x := rfl; clear h9) | clear_value x | skip) | with_reducible apply Upd.ite | with_reducible apply State.setDch_upd | with_reducible apply dmaReads_upd | with_reducible apply State.setFld_upd

theorem dmaTake_upd {M0 : Nat} {s0 : State} {p : PeakId} {c : Nat} {s : State} (hU : Upd M0 s0 s) (hM : 1 ||| M0 = M0) : Upd M0 s0 (dmaTake p c s) := by
  refine Upd.step hU ?_ hM
  clear hU hM
  unfold dmaTake
  have h0 := Upd.refl 1 s
  repeat' first | with_reducible assumption | (guard_target =~ (_ ||| _ : Nat) = _; decide) | (fail_if_no_progress extract_lets +onlyGivenNames x; first | (have hx : Upd 1 s x := (by unfold x; repeat' first | with_reducible assumption | (guard_target =~ (_ ||| _ : Nat) = _; decide) | with_reducible apply State.setReg_upd | with_reducible apply State.setFld_upd); try clear_value x) | (have h9 : (x : Peak) = x := rfl; clear h9) | (have h9 : (x : Saddle) = x := rfl; clear h9) | (have h9 : (x : Pair) = x := rfl; clear h9) | (have h9 : (x : Leg) = x := rfl; clear h9) | clear_value x | skip) | with_reducible apply State.setReg_upd | with_reducible apply State.setFld_upd

theorem dmaGo_upd {M0 : Nat} {s0 : State} {m : Master} {c : Nat} {s : State} (hU : Upd M0 s0 s) (hM : 17592186044417 ||| M0 = M0) : Upd M0 s0 (dmaGo m c s) := by
  refine Upd.step hU ?_ hM
  clear hU hM
  unfold dmaGo
  have h0 := Upd.refl 17592186044417 s
  repeat' first | with_reducible assumption | (guard_target =~ (_ ||| _ : Nat) = _; decide) | (fail_if_no_progress extract_lets +onlyGivenNames x; first | (have hx : Upd 17592186044417 s x := (by unfold x; repeat' first | with_reducible assumption | (guard_target =~ (_ ||| _ : Nat) = _; decide) | with_reducible apply Upd.ite | with_reducible apply State.raise_upd | with_reducible apply State.setFld_upd | with_reducible apply dmaTake_upd | with_reducible apply State.setReg_upd | with_reducible apply dmaBegin_upd); try clear_value x) | (have h9 : (x : Peak) = x := rfl; clear h9) | (have h9 : (x : Saddle) = x := rfl; clear h9) | (have h9 : (x : Pair) = x := rfl; clear h9) | (have h9 : (x : Leg) = x := rfl; clear h9) | clear_value x | skip) | with_reducible apply Upd.ite | with_reducible apply State.raise_upd | with_reducible apply State.setFld_upd | with_reducible apply dmaTake_upd | with_reducible apply State.setReg_upd | with_reducible apply dmaBegin_upd

theorem dmaShadowValid_upd {M0 : Nat} {s0 : State} {p : PeakId} {c : Nat} {s : State} (hU : Upd M0 s0 s) (hM : 1 ||| M0 = M0) : Upd M0 s0 (dmaShadowValid p c s) := by
  refine Upd.step hU ?_ hM
  clear hU hM
  unfold dmaShadowValid
  have h0 := Upd.refl 1 s
  repeat' first | with_reducible assumption | (guard_target =~ (_ ||| _ : Nat) = _; decide) | (fail_if_no_progress extract_lets +onlyGivenNames x; first | (have hx : Upd 1 s x := (by unfold x; repeat' first | with_reducible assumption | (guard_target =~ (_ ||| _ : Nat) = _; decide) | with_reducible apply Upd.ite | with_reducible apply State.setFld_upd | with_reducible apply dmaFlag_upd); try clear_value x) | (have h9 : (x : Peak) = x := rfl; clear h9) | (have h9 : (x : Saddle) = x := rfl; clear h9) | (have h9 : (x : Pair) = x := rfl; clear h9) | (have h9 : (x : Leg) = x := rfl; clear h9) | clear_value x | skip) | with_reducible apply Upd.ite | with_reducible apply State.setFld_upd | with_reducible apply dmaFlag_upd

theorem dmaCancel_upd {M0 : Nat} {s0 : State} {p : PeakId} {c : Nat} {s : State} (hU : Upd M0 s0 s) (hM : 1 ||| M0 = M0) : Upd M0 s0 (dmaCancel p c s) := by
  refine Upd.step hU ?_ hM
  clear hU hM
  unfold dmaCancel
  have h0 := Upd.refl 1 s
  repeat' first | with_reducible assumption | (guard_target =~ (_ ||| _ : Nat) = _; decide) | with_reducible apply State.setFld_upd

theorem dmaPause_upd {M0 : Nat} {s0 : State} {p : PeakId} {c : Nat} {on : Bool} {s : State} (hU : Upd M0 s0 s) (hM : 17592186044417 ||| M0 = M0) : Upd M0 s0 (dmaPause p c on s) := by
  refine Upd.step hU ?_ hM
  clear hU hM
  unfold dmaPause
  have h0 := Upd.refl 17592186044417 s
  repeat' first | with_reducible assumption | (guard_target =~ (_ ||| _ : Nat) = _; decide) | (fail_if_no_progress extract_lets +onlyGivenNames x; first | (have hx : Upd 17592186044417 s x := (by unfold x; repeat' first | with_reducible assumption | (guard_target =~ (_ ||| _ : Nat) = _; decide) | with_reducible apply Upd.ite | with_reducible apply State.setBit_upd | with_reducible apply dmaReads_upd | with_reducible apply State.setFld_upd); try clear_value x) | (have h9 : (x : Peak) = x := rfl; clear h9) | (have h9 : (x : Saddle) = x := rfl; clear h9) | (have h9 : (x : Pair) = x := rfl; clear h9) | (have h9 : (x : Leg) = x := rfl; clear h9) | clear_value x | skip) | with_reducible apply Upd.ite | with_reducible apply State.setBit_upd | with_reducible apply dmaReads_upd | with_reducible apply State.setFld_upd

theorem dmaStop_upd {M0 : Nat} {s0 : State} {p : PeakId} {c : Nat} {st : Nat} {s : State} (hU : Upd M0 s0 s) (hM : 17592186044417 ||| M0 = M0) : Upd M0 s0 (dmaStop p c st s) := by
  refine Upd.step hU ?_ hM
  clear hU hM
  unfold dmaStop
  have h0 := Upd.refl 17592186044417 s
  repeat' first | with_reducible assumption | (guard_target =~ (_ ||| _ : Nat) = _; decide) | with_reducible apply dmaRefresh_upd | with_reducible apply State.setDch_upd | with_reducible apply State.setFld_upd

theorem dmaAbort_upd {M0 : Nat} {s0 : State} {p : PeakId} {c : Nat} {s : State} (hU : Upd M0 s0 s) (hM : 17592186044417 ||| M0 = M0) : Upd M0 s0 (dmaAbort p c s) := by
  refine Upd.step hU ?_ hM
  clear hU hM
  unfold dmaAbort
  have h0 := Upd.refl 17592186044417 s
  repeat' first | with_reducible assumption | (guard_target =~ (_ ||| _ : Nat) = _; decide) | (fail_if_no_progress extract_lets +onlyGivenNames x; first | (have hx : Upd 17592186044417 s x := (by unfold x; repeat' first | with_reducible assumption | (guard_target =~ (_ ||| _ : Nat) = _; decide) | with_reducible apply Upd.ite | with_reducible apply dmaReads_upd | with_reducible apply State.setDch_upd | with_reducible apply dmaStop_upd | with_reducible apply State.setFld_upd); try clear_value x) | (have h9 : (x : Peak) = x := rfl; clear h9) | (have h9 : (x : Saddle) = x := rfl; clear h9) | (have h9 : (x : Pair) = x := rfl; clear h9) | (have h9 : (x : Leg) = x := rfl; clear h9) | clear_value x | skip) | with_reducible apply Upd.ite | with_reducible apply dmaReads_upd | with_reducible apply State.setDch_upd | with_reducible apply dmaStop_upd | with_reducible apply State.setFld_upd

theorem dmaCtrlWrite_upd {M0 : Nat} {s0 : State} {m : Master} {c : Nat} {act : Nat} {low : Bool} {s : State} (hU : Upd M0 s0 s) (hM : 17592186044417 ||| M0 = M0) : Upd M0 s0 (dmaCtrlWrite m c act low s) := by
  refine Upd.step hU ?_ hM
  clear hU hM
  unfold dmaCtrlWrite
  have h0 := Upd.refl 17592186044417 s
  repeat' first | with_reducible assumption | (guard_target =~ (_ ||| _ : Nat) = _; decide) | (fail_if_no_progress extract_lets +onlyGivenNames x; first | (have hx : Upd 17592186044417 s x := (by unfold x; repeat' first | with_reducible assumption | (guard_target =~ (_ ||| _ : Nat) = _; decide) | with_reducible apply Upd.ite | with_reducible apply dmaShadowValid_upd | with_reducible apply dmaCancel_upd | with_reducible apply dmaPause_upd | with_reducible apply dmaGo_upd | with_reducible apply dmaAbort_upd); try clear_value x) | (have h9 : (x : Peak) = x := rfl; clear h9) | (have h9 : (x : Saddle) = x := rfl; clear h9) | (have h9 : (x : Pair) = x := rfl; clear h9) | (have h9 : (x : Leg) = x := rfl; clear h9) | clear_value x | skip) | with_reducible apply Upd.ite | with_reducible apply dmaShadowValid_upd | with_reducible apply dmaCancel_upd | with_reducible apply dmaPause_upd | with_reducible apply dmaGo_upd | with_reducible apply dmaAbort_upd

theorem dmaDrained_upd {M0 : Nat} {s0 : State} {p : PeakId} {c : Nat} {s : State} (hU : Upd M0 s0 s) (hM : 17592186044417 ||| M0 = M0) : Upd M0 s0 (dmaDrained p c s) := by
  refine Upd.step hU ?_ hM
  clear hU hM
  unfold dmaDrained
  have h0 := Upd.refl 17592186044417 s
  repeat' first | with_reducible assumption | (guard_target =~ (_ ||| _ : Nat) = _; decide) | (fail_if_no_progress extract_lets +onlyGivenNames x; first | (have hx : Upd 17592186044417 s x := (by unfold x; repeat' first | with_reducible assumption | (guard_target =~ (_ ||| _ : Nat) = _; decide) | with_reducible apply Upd.ite | with_reducible apply dmaStop_upd | with_reducible apply State.setFld_upd | with_reducible apply dmaRefresh_upd); try clear_value x) | (have h9 : (x : Peak) = x := rfl; clear h9) | (have h9 : (x : Saddle) = x := rfl; clear h9) | (have h9 : (x : Pair) = x := rfl; clear h9) | (have h9 : (x : Leg) = x := rfl; clear h9) | clear_value x | skip) | with_reducible apply Upd.ite | with_reducible apply dmaStop_upd | with_reducible apply State.setFld_upd | with_reducible apply dmaRefresh_upd

theorem execDmaGo_upd (m : Master) (ch : Fin 16) (s : State) {t : State} (hX : execDmaGo m ch s = .next t) : Upd 17592186044417 s t := by
  unfold execDmaGo at hX
  cases hX
  have h0 := Upd.refl 17592186044417 s
  repeat' first | with_reducible assumption | (guard_target =~ (_ ||| _ : Nat) = _; decide) | with_reducible apply Upd.ite | with_reducible apply dmaGo_upd

theorem execDmaShadowValid_upd (m : Master) (ch : Fin 16) (s : State) {t : State} (hX : execDmaShadowValid m ch s = .next t) : Upd 1 s t := by
  unfold execDmaShadowValid at hX
  cases hX
  have h0 := Upd.refl 1 s
  repeat' first | with_reducible assumption | (guard_target =~ (_ ||| _ : Nat) = _; decide) | with_reducible apply Upd.ite | with_reducible apply dmaShadowValid_upd

theorem execDmaCancel_upd (m : Master) (ch : Fin 16) (s : State) {t : State} (hX : execDmaCancel m ch s = .next t) : Upd 1 s t := by
  unfold execDmaCancel at hX
  cases hX
  have h0 := Upd.refl 1 s
  repeat' first | with_reducible assumption | (guard_target =~ (_ ||| _ : Nat) = _; decide) | with_reducible apply Upd.ite | with_reducible apply dmaCancel_upd

theorem execDmaPause_upd (m : Master) (ch : Fin 16) (s : State) {t : State} (hX : execDmaPause m ch s = .next t) : Upd 17592186044417 s t := by
  unfold execDmaPause at hX
  cases hX
  have h0 := Upd.refl 17592186044417 s
  repeat' first | with_reducible assumption | (guard_target =~ (_ ||| _ : Nat) = _; decide) | with_reducible apply Upd.ite | with_reducible apply dmaPause_upd

theorem execDmaResume_upd (m : Master) (ch : Fin 16) (s : State) {t : State} (hX : execDmaResume m ch s = .next t) : Upd 17592186044417 s t := by
  unfold execDmaResume at hX
  cases hX
  have h0 := Upd.refl 17592186044417 s
  repeat' first | with_reducible assumption | (guard_target =~ (_ ||| _ : Nat) = _; decide) | with_reducible apply Upd.ite | with_reducible apply dmaPause_upd

theorem execDmaAbort_upd (m : Master) (ch : Fin 16) (s : State) {t : State} (hX : execDmaAbort m ch s = .next t) : Upd 17592186044417 s t := by
  unfold execDmaAbort at hX
  cases hX
  have h0 := Upd.refl 17592186044417 s
  repeat' first | with_reducible assumption | (guard_target =~ (_ ||| _ : Nat) = _; decide) | with_reducible apply Upd.ite | with_reducible apply dmaAbort_upd

theorem execDmaDrainComplete_upd (p : PeakId) (ch : Fin 16) (s : State) {t : State} (hX : execDmaDrainComplete p ch s = .next t) : Upd 17592186044417 s t := by
  unfold execDmaDrainComplete at hX
  cases hX
  have h0 := Upd.refl 17592186044417 s
  repeat' first | with_reducible assumption | (guard_target =~ (_ ||| _ : Nat) = _; decide) | with_reducible apply Upd.ite | with_reducible apply dmaDrained_upd

theorem execDmaRetry_upd (p : PeakId) (ch : Fin 16) (s : State) {t : State} (hX : execDmaRetry p ch s = .next t) : Upd 17592186044417 s t := by
  unfold execDmaRetry at hX
  cases hX
  have h0 := Upd.refl 17592186044417 s
  repeat' first | with_reducible assumption | (guard_target =~ (_ ||| _ : Nat) = _; decide) | (fail_if_no_progress extract_lets +onlyGivenNames x; first | (have hx : Upd 17592186044417 s x := (by unfold x; repeat' first | with_reducible assumption | (guard_target =~ (_ ||| _ : Nat) = _; decide) | with_reducible apply Upd.ite | with_reducible apply State.bump_upd | with_reducible apply State.setDch_upd); try clear_value x) | (have h9 : (x : Peak) = x := rfl; clear h9) | (have h9 : (x : Saddle) = x := rfl; clear h9) | (have h9 : (x : Pair) = x := rfl; clear h9) | (have h9 : (x : Leg) = x := rfl; clear h9) | clear_value x | skip) | with_reducible apply Upd.ite | with_reducible apply State.bump_upd | with_reducible apply State.setDch_upd

end Sys2Proof.Machine
end

