-- ==== Sys2Proof/Laws/UpdFabric.lean ====
section
/-! SUPPORT. What each operation of Machine/Fabric.lean may change. -/

set_option linter.unusedTactic false
set_option linter.unreachableTactic false

namespace Sys2Proof.Machine

theorem unmappedAt_upd {M0 : Nat} {s0 : State} {p : PeakId} {a : Nat} {s : State} (hU : Upd M0 s0 s) (hM : 1 ||| M0 = M0) : Upd M0 s0 (unmappedAt p a s) := by
  refine Upd.step hU ?_ hM
  clear hU hM
  unfold unmappedAt
  have h0 := Upd.refl 1 s
  repeat' first | with_reducible assumption | (guard_target =~ (_ ||| _ : Nat) = _; decide) | with_reducible apply Upd.ite | with_reducible apply State.raise_upd | with_reducible apply State.setReg_upd

theorem putReg_upd {M0 : Nat} {s0 : State} {p : PeakId} {w : Wr} {s : State} (hU : Upd M0 s0 s) (hM : 1 ||| M0 = M0) : Upd M0 s0 (putReg p w s) := by
  refine Upd.step hU ?_ hM
  clear hU hM
  unfold putReg
  have h0 := Upd.refl 1 s
  repeat' first | with_reducible assumption | (guard_target =~ (_ ||| _ : Nat) = _; decide) | with_reducible apply State.setRegW_upd

theorem rws_upd {M : Nat} {x : State} {p : PeakId} {runs : Bool} {flag : State → State} {w : Wr} {s : State} (h : Upd M x s) (hf : ∀ t, Upd M x t → Upd M x (flag t)) (hM : 1 ||| M = M) : Upd M x (rws p runs flag w s) := by
  unfold rws
  exact Upd.ite (hf _ h) (putReg_upd h hM)

theorem clkWrite_upd {M0 : Nat} {s0 : State} {p : PeakId} {w : Wr} {s : State} (hU : Upd M0 s0 s) (hM : 248524090850317 ||| M0 = M0) : Upd M0 s0 (clkWrite p w s) := by
  refine Upd.step hU ?_ hM
  clear hU hM
  unfold clkWrite
  have h0 := Upd.refl 248524090850317 s
  repeat' first | with_reducible assumption | (guard_target =~ (_ ||| _ : Nat) = _; decide) | with_reducible apply clkTarget_upd | with_reducible apply bivouacWrite_upd | with_reducible apply putReg_upd | split

theorem clnWrite_upd {M0 : Nat} {s0 : State} {p : PeakId} {w : Wr} {s : State} (hU : Upd M0 s0 s) (hM : 137438953473 ||| M0 = M0) : Upd M0 s0 (clnWrite p w s) := by
  refine Upd.step hU ?_ hM
  clear hU hM
  unfold clnWrite
  have h0 := Upd.refl 137438953473 s
  repeat' first | with_reducible assumption | (guard_target =~ (_ ||| _ : Nat) = _; decide) | with_reducible apply h90 | with_reducible apply h91 | with_reducible apply h92 | with_reducible apply h93 | with_reducible apply h94 | (fail_if_no_progress extract_lets +onlyGivenNames x; first | (have hx : Upd 137438953473 s x := (by unfold x; repeat' first | with_reducible assumption | (guard_target =~ (_ ||| _ : Nat) = _; decide) | with_reducible apply h90 | with_reducible apply h91 | with_reducible apply h92 | with_reducible apply h93 | with_reducible apply h94 | with_reducible apply Upd.ite | with_reducible apply State.raise_upd | with_reducible refine rws_upd ?_ (fun _ _ => ?_) ?_ | with_reducible apply resamplerRun_upd | with_reducible apply clnInCtrlWrite_upd | with_reducible apply putReg_upd | split); try clear_value x) | (have h9 : (x : Peak) = x := rfl; clear h9) | (have h9 : (x : Saddle) = x := rfl; clear h9) | (have h9 : (x : Pair) = x := rfl; clear h9) | (have h9 : (x : Leg) = x := rfl; clear h9) | (have h90 : ∀  t, Upd 137438953473 s t → Upd 137438953473 s (x  t) := (by intro  t ht; unfold x; repeat' first | with_reducible assumption | (guard_target =~ (_ ||| _ : Nat) = _; decide) | with_reducible apply h90 | with_reducible apply h91 | with_reducible apply h92 | with_reducible apply h93 | with_reducible apply h94 | with_reducible apply Upd.ite | with_reducible apply State.raise_upd | with_reducible refine rws_upd ?_ (fun _ _ => ?_) ?_ | with_reducible apply resamplerRun_upd | with_reducible apply clnInCtrlWrite_upd | with_reducible apply putReg_upd | split); try clear_value x) | (have h91 : ∀ a0 t, Upd 137438953473 s t → Upd 137438953473 s (x a0 t) := (by intro a0 t ht; unfold x; repeat' first | with_reducible assumption | (guard_target =~ (_ ||| _ : Nat) = _; decide) | with_reducible apply h90 | with_reducible apply h91 | with_reducible apply h92 | with_reducible apply h93 | with_reducible apply h94 | with_reducible apply Upd.ite | with_reducible apply State.raise_upd | with_reducible refine rws_upd ?_ (fun _ _ => ?_) ?_ | with_reducible apply resamplerRun_upd | with_reducible apply clnInCtrlWrite_upd | with_reducible apply putReg_upd | split); try clear_value x) | (have h92 : ∀ a0 a1 t, Upd 137438953473 s t → Upd 137438953473 s (x a0 a1 t) := (by intro a0 a1 t ht; unfold x; repeat' first | with_reducible assumption | (guard_target =~ (_ ||| _ : Nat) = _; decide) | with_reducible apply h90 | with_reducible apply h91 | with_reducible apply h92 | with_reducible apply h93 | with_reducible apply h94 | with_reducible apply Upd.ite | with_reducible apply State.raise_upd | with_reducible refine rws_upd ?_ (fun _ _ => ?_) ?_ | with_reducible apply resamplerRun_upd | with_reducible apply clnInCtrlWrite_upd | with_reducible apply putReg_upd | split); try clear_value x) | (have h93 : ∀ a0 a1 a2 t, Upd 137438953473 s t → Upd 137438953473 s (x a0 a1 a2 t) := (by intro a0 a1 a2 t ht; unfold x; repeat' first | with_reducible assumption | (guard_target =~ (_ ||| _ : Nat) = _; decide) | with_reducible apply h90 | with_reducible apply h91 | with_reducible apply h92 | with_reducible apply h93 | with_reducible apply h94 | with_reducible apply Upd.ite | with_reducible apply State.raise_upd | with_reducible refine rws_upd ?_ (fun _ _ => ?_) ?_ | with_reducible apply resamplerRun_upd | with_reducible apply clnInCtrlWrite_upd | with_reducible apply putReg_upd | split); try clear_value x) | (have h94 : ∀ a0 a1 a2 a3 t, Upd 137438953473 s t → Upd 137438953473 s (x a0 a1 a2 a3 t) := (by intro a0 a1 a2 a3 t ht; unfold x; repeat' first | with_reducible assumption | (guard_target =~ (_ ||| _ : Nat) = _; decide) | with_reducible apply h90 | with_reducible apply h91 | with_reducible apply h92 | with_reducible apply h93 | with_reducible apply h94 | with_reducible apply Upd.ite | with_reducible apply State.raise_upd | with_reducible refine rws_upd ?_ (fun _ _ => ?_) ?_ | with_reducible apply resamplerRun_upd | with_reducible apply clnInCtrlWrite_upd | with_reducible apply putReg_upd | split); try clear_value x) | clear_value x | skip) | with_reducible apply Upd.ite | with_reducible apply State.raise_upd | with_reducible refine rws_upd ?_ (fun _ _ => ?_) ?_ | with_reducible apply resamplerRun_upd | with_reducible apply clnInCtrlWrite_upd | with_reducible apply putReg_upd | split

theorem talWrite_upd {M0 : Nat} {s0 : State} {m : Master} {w : Wr} {s : State} (hU : Upd M0 s0 s) (hM : 248523987615759 ||| M0 = M0) : Upd M0 s0 (talWrite m w s) := by
  refine Upd.step hU ?_ hM
  clear hU hM
  unfold talWrite
  have h0 := Upd.refl 248523987615759 s
  repeat' first | with_reducible assumption | (guard_target =~ (_ ||| _ : Nat) = _; decide) | with_reducible apply h90 | with_reducible apply h91 | with_reducible apply h92 | with_reducible apply h93 | with_reducible apply h94 | (fail_if_no_progress extract_lets +onlyGivenNames x; first | (have hx : Upd 248523987615759 s x := (by unfold x; repeat' first | with_reducible assumption | (guard_target =~ (_ ||| _ : Nat) = _; decide) | with_reducible apply h90 | with_reducible apply h91 | with_reducible apply h92 | with_reducible apply h93 | with_reducible apply h94 | with_reducible apply Upd.ite | with_reducible apply State.raise_upd | with_reducible refine rws_upd ?_ (fun _ _ => ?_) ?_ | with_reducible apply morLow_upd | with_reducible apply putReg_upd | with_reducible apply morCommand_upd | with_reducible apply snapTake_upd | with_reducible apply talusRun_upd | with_reducible apply talusStop_upd); try clear_value x) | (have h9 : (x : Peak) = x := rfl; clear h9) | (have h9 : (x : Saddle) = x := rfl; clear h9) | (have h9 : (x : Pair) = x := rfl; clear h9) | (have h9 : (x : Leg) = x := rfl; clear h9) | (have h90 : ∀  t, Upd 248523987615759 s t → Upd 248523987615759 s (x  t) := (by intro  t ht; unfold x; repeat' first | with_reducible assumption | (guard_target =~ (_ ||| _ : Nat) = _; decide) | with_reducible apply h90 | with_reducible apply h91 | with_reducible apply h92 | with_reducible apply h93 | with_reducible apply h94 | with_reducible apply Upd.ite | with_reducible apply State.raise_upd | with_reducible refine rws_upd ?_ (fun _ _ => ?_) ?_ | with_reducible apply morLow_upd | with_reducible apply putReg_upd | with_reducible apply morCommand_upd | with_reducible apply snapTake_upd | with_reducible apply talusRun_upd | with_reducible apply talusStop_upd); try clear_value x) | (have h91 : ∀ a0 t, Upd 248523987615759 s t → Upd 248523987615759 s (x a0 t) := (by intro a0 t ht; unfold x; repeat' first | with_reducible assumption | (guard_target =~ (_ ||| _ : Nat) = _; decide) | with_reducible apply h90 | with_reducible apply h91 | with_reducible apply h92 | with_reducible apply h93 | with_reducible apply h94 | with_reducible apply Upd.ite | with_reducible apply State.raise_upd | with_reducible refine rws_upd ?_ (fun _ _ => ?_) ?_ | with_reducible apply morLow_upd | with_reducible apply putReg_upd | with_reducible apply morCommand_upd | with_reducible apply snapTake_upd | with_reducible apply talusRun_upd | with_reducible apply talusStop_upd); try clear_value x) | (have h92 : ∀ a0 a1 t, Upd 248523987615759 s t → Upd 248523987615759 s (x a0 a1 t) := (by intro a0 a1 t ht; unfold x; repeat' first | with_reducible assumption | (guard_target =~ (_ ||| _ : Nat) = _; decide) | with_reducible apply h90 | with_reducible apply h91 | with_reducible apply h92 | with_reducible apply h93 | with_reducible apply h94 | with_reducible apply Upd.ite | with_reducible apply State.raise_upd | with_reducible refine rws_upd ?_ (fun _ _ => ?_) ?_ | with_reducible apply morLow_upd | with_reducible apply putReg_upd | with_reducible apply morCommand_upd | with_reducible apply snapTake_upd | with_reducible apply talusRun_upd | with_reducible apply talusStop_upd); try clear_value x) | (have h93 : ∀ a0 a1 a2 t, Upd 248523987615759 s t → Upd 248523987615759 s (x a0 a1 a2 t) := (by intro a0 a1 a2 t ht; unfold x; repeat' first | with_reducible assumption | (guard_target =~ (_ ||| _ : Nat) = _; decide) | with_reducible apply h90 | with_reducible apply h91 | with_reducible apply h92 | with_reducible apply h93 | with_reducible apply h94 | with_reducible apply Upd.ite | with_reducible apply State.raise_upd | with_reducible refine rws_upd ?_ (fun _ _ => ?_) ?_ | with_reducible apply morLow_upd | with_reducible apply putReg_upd | with_reducible apply morCommand_upd | with_reducible apply snapTake_upd | with_reducible apply talusRun_upd | with_reducible apply talusStop_upd); try clear_value x) | (have h94 : ∀ a0 a1 a2 a3 t, Upd 248523987615759 s t → Upd 248523987615759 s (x a0 a1 a2 a3 t) := (by intro a0 a1 a2 a3 t ht; unfold x; repeat' first | with_reducible assumption | (guard_target =~ (_ ||| _ : Nat) = _; decide) | with_reducible apply h90 | with_reducible apply h91 | with_reducible apply h92 | with_reducible apply h93 | with_reducible apply h94 | with_reducible apply Upd.ite | with_reducible apply State.raise_upd | with_reducible refine rws_upd ?_ (fun _ _ => ?_) ?_ | with_reducible apply morLow_upd | with_reducible apply putReg_upd | with_reducible apply morCommand_upd | with_reducible apply snapTake_upd | with_reducible apply talusRun_upd | with_reducible apply talusStop_upd); try clear_value x) | clear_value x | skip) | with_reducible apply Upd.ite | with_reducible apply State.raise_upd | with_reducible refine rws_upd ?_ (fun _ _ => ?_) ?_ | with_reducible apply morLow_upd | with_reducible apply putReg_upd | with_reducible apply morCommand_upd | with_reducible apply snapTake_upd | with_reducible apply talusRun_upd | with_reducible apply talusStop_upd

theorem rdgBlockWrite_upd {M0 : Nat} {s0 : State} {p : PeakId} {w : Wr} {s : State} (hU : Upd M0 s0 s) (hM : 274877906945 ||| M0 = M0) : Upd M0 s0 (rdgBlockWrite p w s) := by
  refine Upd.step hU ?_ hM
  clear hU hM
  unfold rdgBlockWrite
  have h0 := Upd.refl 274877906945 s
  repeat' first | with_reducible assumption | (guard_target =~ (_ ||| _ : Nat) = _; decide) | (fail_if_no_progress extract_lets +onlyGivenNames x; first | (have hx : Upd 274877906945 s x := (by unfold x; repeat' first | with_reducible assumption | (guard_target =~ (_ ||| _ : Nat) = _; decide) | with_reducible apply Upd.ite | with_reducible apply putReg_upd | with_reducible apply rdgWrite_upd | with_reducible apply rdgLateView_upd); try clear_value x) | (have h9 : (x : Peak) = x := rfl; clear h9) | (have h9 : (x : Saddle) = x := rfl; clear h9) | (have h9 : (x : Pair) = x := rfl; clear h9) | (have h9 : (x : Leg) = x := rfl; clear h9) | clear_value x | skip) | with_reducible apply Upd.ite | with_reducible apply putReg_upd | with_reducible apply rdgWrite_upd | with_reducible apply rdgLateView_upd

theorem swbBlockWrite_upd {M0 : Nat} {s0 : State} {p : PeakId} {w : Wr} {s : State} (hU : Upd M0 s0 s) (hM : 250173255057421 ||| M0 = M0) : Upd M0 s0 (swbBlockWrite p w s) := by
  refine Upd.step hU ?_ hM
  clear hU hM
  unfold swbBlockWrite
  have h0 := Upd.refl 250173255057421 s
  repeat' first | with_reducible assumption | (guard_target =~ (_ ||| _ : Nat) = _; decide) | (fail_if_no_progress extract_lets +onlyGivenNames x; first | (have hx : Upd 250173255057421 s x := (by unfold x; repeat' first | with_reducible assumption | (guard_target =~ (_ ||| _ : Nat) = _; decide) | with_reducible apply Upd.ite | with_reducible apply swbWrite_upd | with_reducible apply swbLateView_upd | with_reducible apply tgStart_upd | with_reducible apply tgStop_upd | with_reducible refine rws_upd ?_ (fun _ _ => ?_) ?_ | with_reducible apply State.raise_upd | with_reducible apply putReg_upd); try clear_value x) | (have h9 : (x : Peak) = x := rfl; clear h9) | (have h9 : (x : Saddle) = x := rfl; clear h9) | (have h9 : (x : Pair) = x := rfl; clear h9) | (have h9 : (x : Leg) = x := rfl; clear h9) | clear_value x | skip) | with_reducible apply Upd.ite | with_reducible apply swbWrite_upd | with_reducible apply swbLateView_upd | with_reducible apply tgStart_upd | with_reducible apply tgStop_upd | with_reducible refine rws_upd ?_ (fun _ _ => ?_) ?_ | with_reducible apply State.raise_upd | with_reducible apply putReg_upd

theorem trvWrite_upd {M0 : Nat} {s0 : State} {p : PeakId} {w : Wr} {s : State} (hU : Upd M0 s0 s) (hM : 1374432484392973 ||| M0 = M0) : Upd M0 s0 (trvWrite p w s) := by
  refine Upd.step hU ?_ hM
  clear hU hM
  unfold trvWrite
  have h0 := Upd.refl 1374432484392973 s
  repeat' first | with_reducible assumption | (guard_target =~ (_ ||| _ : Nat) = _; decide) | (fail_if_no_progress extract_lets +onlyGivenNames x; first | (have hx : Upd 1374432484392973 s x := (by unfold x; repeat' first | with_reducible assumption | (guard_target =~ (_ ||| _ : Nat) = _; decide) | with_reducible apply Upd.ite | with_reducible apply trvCommand_upd | with_reducible apply evRaise_upd | with_reducible refine rws_upd ?_ (fun _ _ => ?_) ?_ | with_reducible apply State.raise_upd | with_reducible apply putReg_upd); try clear_value x) | (have h9 : (x : Peak) = x := rfl; clear h9) | (have h9 : (x : Saddle) = x := rfl; clear h9) | (have h9 : (x : Pair) = x := rfl; clear h9) | (have h9 : (x : Leg) = x := rfl; clear h9) | clear_value x | skip) | with_reducible apply Upd.ite | with_reducible apply trvCommand_upd | with_reducible apply evRaise_upd | with_reducible refine rws_upd ?_ (fun _ _ => ?_) ?_ | with_reducible apply State.raise_upd | with_reducible apply putReg_upd

theorem dmaWrite_upd {M0 : Nat} {s0 : State} {m : Master} {w : Wr} {s : State} (hU : Upd M0 s0 s) (hM : 17592186044417 ||| M0 = M0) : Upd M0 s0 (dmaWrite m w s) := by
  refine Upd.step hU ?_ hM
  clear hU hM
  unfold dmaWrite
  have h0 := Upd.refl 17592186044417 s
  repeat' first | with_reducible assumption | (guard_target =~ (_ ||| _ : Nat) = _; decide) | (fail_if_no_progress extract_lets +onlyGivenNames x; first | (have hx : Upd 17592186044417 s x := (by unfold x; repeat' first | with_reducible assumption | (guard_target =~ (_ ||| _ : Nat) = _; decide) | with_reducible apply Upd.ite | with_reducible apply putReg_upd | with_reducible apply dmaCtrlWrite_upd | with_reducible refine rws_upd ?_ (fun _ _ => ?_) ?_ | with_reducible apply dmaFlag_upd | with_reducible apply dmaRefresh_upd); try clear_value x) | (have h9 : (x : Peak) = x := rfl; clear h9) | (have h9 : (x : Saddle) = x := rfl; clear h9) | (have h9 : (x : Pair) = x := rfl; clear h9) | (have h9 : (x : Leg) = x := rfl; clear h9) | clear_value x | skip) | with_reducible apply Upd.ite | with_reducible apply putReg_upd | with_reducible apply dmaCtrlWrite_upd | with_reducible refine rws_upd ?_ (fun _ _ => ?_) ?_ | with_reducible apply dmaFlag_upd | with_reducible apply dmaRefresh_upd

theorem macWrite_upd {M0 : Nat} {s0 : State} {p : PeakId} {w : Wr} {s : State} (hU : Upd M0 s0 s) (hM : 513 ||| M0 = M0) : Upd M0 s0 (macWrite p w s) := by
  refine Upd.step hU ?_ hM
  clear hU hM
  unfold macWrite
  have h0 := Upd.refl 513 s
  repeat' first | with_reducible assumption | (guard_target =~ (_ ||| _ : Nat) = _; decide) | with_reducible apply h90 | with_reducible apply h91 | with_reducible apply h92 | with_reducible apply h93 | with_reducible apply h94 | (fail_if_no_progress extract_lets +onlyGivenNames x; first | (have hx : Upd 513 s x := (by unfold x; repeat' first | with_reducible assumption | (guard_target =~ (_ ||| _ : Nat) = _; decide) | with_reducible apply h90 | with_reducible apply h91 | with_reducible apply h92 | with_reducible apply h93 | with_reducible apply h94 | with_reducible apply Upd.ite | with_reducible apply State.raise_upd | with_reducible apply putReg_upd | with_reducible refine rws_upd ?_ (fun _ _ => ?_) ?_ | with_reducible apply mdioWrite_upd | with_reducible apply txCounts_upd | with_reducible apply tqTail_upd | with_reducible apply tqReclaim_upd | split); try clear_value x) | (have h9 : (x : Peak) = x := rfl; clear h9) | (have h9 : (x : Saddle) = x := rfl; clear h9) | (have h9 : (x : Pair) = x := rfl; clear h9) | (have h9 : (x : Leg) = x := rfl; clear h9) | (have h90 : ∀  t, Upd 513 s t → Upd 513 s (x  t) := (by intro  t ht; unfold x; repeat' first | with_reducible assumption | (guard_target =~ (_ ||| _ : Nat) = _; decide) | with_reducible apply h90 | with_reducible apply h91 | with_reducible apply h92 | with_reducible apply h93 | with_reducible apply h94 | with_reducible apply Upd.ite | with_reducible apply State.raise_upd | with_reducible apply putReg_upd | with_reducible refine rws_upd ?_ (fun _ _ => ?_) ?_ | with_reducible apply mdioWrite_upd | with_reducible apply txCounts_upd | with_reducible apply tqTail_upd | with_reducible apply tqReclaim_upd | split); try clear_value x) | (have h91 : ∀ a0 t, Upd 513 s t → Upd 513 s (x a0 t) := (by intro a0 t ht; unfold x; repeat' first | with_reducible assumption | (guard_target =~ (_ ||| _ : Nat) = _; decide) | with_reducible apply h90 | with_reducible apply h91 | with_reducible apply h92 | with_reducible apply h93 | with_reducible apply h94 | with_reducible apply Upd.ite | with_reducible apply State.raise_upd | with_reducible apply putReg_upd | with_reducible refine rws_upd ?_ (fun _ _ => ?_) ?_ | with_reducible apply mdioWrite_upd | with_reducible apply txCounts_upd | with_reducible apply tqTail_upd | with_reducible apply tqReclaim_upd | split); try clear_value x) | (have h92 : ∀ a0 a1 t, Upd 513 s t → Upd 513 s (x a0 a1 t) := (by intro a0 a1 t ht; unfold x; repeat' first | with_reducible assumption | (guard_target =~ (_ ||| _ : Nat) = _; decide) | with_reducible apply h90 | with_reducible apply h91 | with_reducible apply h92 | with_reducible apply h93 | with_reducible apply h94 | with_reducible apply Upd.ite | with_reducible apply State.raise_upd | with_reducible apply putReg_upd | with_reducible refine rws_upd ?_ (fun _ _ => ?_) ?_ | with_reducible apply mdioWrite_upd | with_reducible apply txCounts_upd | with_reducible apply tqTail_upd | with_reducible apply tqReclaim_upd | split); try clear_value x) | (have h93 : ∀ a0 a1 a2 t, Upd 513 s t → Upd 513 s (x a0 a1 a2 t) := (by intro a0 a1 a2 t ht; unfold x; repeat' first | with_reducible assumption | (guard_target =~ (_ ||| _ : Nat) = _; decide) | with_reducible apply h90 | with_reducible apply h91 | with_reducible apply h92 | with_reducible apply h93 | with_reducible apply h94 | with_reducible apply Upd.ite | with_reducible apply State.raise_upd | with_reducible apply putReg_upd | with_reducible refine rws_upd ?_ (fun _ _ => ?_) ?_ | with_reducible apply mdioWrite_upd | with_reducible apply txCounts_upd | with_reducible apply tqTail_upd | with_reducible apply tqReclaim_upd | split); try clear_value x) | (have h94 : ∀ a0 a1 a2 a3 t, Upd 513 s t → Upd 513 s (x a0 a1 a2 a3 t) := (by intro a0 a1 a2 a3 t ht; unfold x; repeat' first | with_reducible assumption | (guard_target =~ (_ ||| _ : Nat) = _; decide) | with_reducible apply h90 | with_reducible apply h91 | with_reducible apply h92 | with_reducible apply h93 | with_reducible apply h94 | with_reducible apply Upd.ite | with_reducible apply State.raise_upd | with_reducible apply putReg_upd | with_reducible refine rws_upd ?_ (fun _ _ => ?_) ?_ | with_reducible apply mdioWrite_upd | with_reducible apply txCounts_upd | with_reducible apply tqTail_upd | with_reducible apply tqReclaim_upd | split); try clear_value x) | clear_value x | skip) | with_reducible apply Upd.ite | with_reducible apply State.raise_upd | with_reducible apply putReg_upd | with_reducible refine rws_upd ?_ (fun _ _ => ?_) ?_ | with_reducible apply mdioWrite_upd | with_reducible apply txCounts_upd | with_reducible apply tqTail_upd | with_reducible apply tqReclaim_upd | split

theorem colWrite_upd {M0 : Nat} {s0 : State} {m : Master} {w : Wr} {s : State} (hU : Upd M0 s0 s) (hM : 1092948917747725 ||| M0 = M0) : Upd M0 s0 (colWrite m w s) := by
  refine Upd.step hU ?_ hM
  clear hU hM
  unfold colWrite
  have h0 := Upd.refl 1092948917747725 s
  repeat' first | with_reducible assumption | (guard_target =~ (_ ||| _ : Nat) = _; decide) | with_reducible apply inPush_upd | with_reducible apply outPush_upd | with_reducible apply doorbell_upd | with_reducible apply putReg_upd | split

theorem obsWrite_upd {M0 : Nat} {s0 : State} {p : PeakId} {w : Wr} {s : State} (hU : Upd M0 s0 s) (hM : 246290738839553 ||| M0 = M0) : Upd M0 s0 (obsWrite p w s) := by
  refine Upd.step hU ?_ hM
  clear hU hM
  unfold obsWrite
  have h0 := Upd.refl 246290738839553 s
  repeat' first | with_reducible assumption | (guard_target =~ (_ ||| _ : Nat) = _; decide) | (fail_if_no_progress extract_lets +onlyGivenNames x; first | (have hx : Upd 246290738839553 s x := (by unfold x; repeat' first | with_reducible assumption | (guard_target =~ (_ ||| _ : Nat) = _; decide) | with_reducible apply Upd.ite | with_reducible apply trcCtrlWrite_upd | with_reducible refine rws_upd ?_ (fun _ _ => ?_) ?_ | with_reducible apply counterEnable_upd | with_reducible apply putReg_upd | split); try clear_value x) | (have h9 : (x : Peak) = x := rfl; clear h9) | (have h9 : (x : Saddle) = x := rfl; clear h9) | (have h9 : (x : Pair) = x := rfl; clear h9) | (have h9 : (x : Leg) = x := rfl; clear h9) | clear_value x | skip) | with_reducible apply Upd.ite | with_reducible apply trcCtrlWrite_upd | with_reducible refine rws_upd ?_ (fun _ _ => ?_) ?_ | with_reducible apply counterEnable_upd | with_reducible apply putReg_upd | split

theorem cirqWrite_upd {M0 : Nat} {s0 : State} {p : PeakId} {w : Wr} {s : State} (hU : Upd M0 s0 s) (hM : 137438954561 ||| M0 = M0) : Upd M0 s0 (cirqWrite p w s) := by
  refine Upd.step hU ?_ hM
  clear hU hM
  unfold cirqWrite
  have h0 := Upd.refl 137438954561 s
  repeat' first | with_reducible assumption | (guard_target =~ (_ ||| _ : Nat) = _; decide) | (fail_if_no_progress extract_lets +onlyGivenNames x; first | (have hx : Upd 137438954561 s x := (by unfold x; repeat' first | with_reducible assumption | (guard_target =~ (_ ||| _ : Nat) = _; decide) | with_reducible apply Upd.ite | with_reducible apply diagWrite_upd | with_reducible apply cirqCfgWrite_upd | with_reducible apply cirqTrigWrite_upd | with_reducible apply putReg_upd | split); try clear_value x) | (have h9 : (x : Peak) = x := rfl; clear h9) | (have h9 : (x : Saddle) = x := rfl; clear h9) | (have h9 : (x : Pair) = x := rfl; clear h9) | (have h9 : (x : Leg) = x := rfl; clear h9) | clear_value x | skip) | with_reducible apply Upd.ite | with_reducible apply diagWrite_upd | with_reducible apply cirqCfgWrite_upd | with_reducible apply cirqTrigWrite_upd | with_reducible apply putReg_upd | split

theorem pwmGated_upd {M0 : Nat} {s0 : State} {p : PeakId} {w : Wr} {s : State} (hU : Upd M0 s0 s) (hM : 249494939647085 ||| M0 = M0) : Upd M0 s0 (pwmGated p w s) := by
  refine Upd.step hU ?_ hM
  clear hU hM
  unfold pwmGated
  have h0 := Upd.refl 249494939647085 s
  repeat' first | with_reducible assumption | (guard_target =~ (_ ||| _ : Nat) = _; decide) | with_reducible apply h90 | with_reducible apply h91 | with_reducible apply h92 | with_reducible apply h93 | with_reducible apply h94 | (fail_if_no_progress extract_lets +onlyGivenNames x; first | (have hx : Upd 249494939647085 s x := (by unfold x; repeat' first | with_reducible assumption | (guard_target =~ (_ ||| _ : Nat) = _; decide) | with_reducible apply h90 | with_reducible apply h91 | with_reducible apply h92 | with_reducible apply h93 | with_reducible apply h94 | with_reducible apply Upd.ite | with_reducible apply State.raise_upd | with_reducible apply tbCmdWrite_upd | with_reducible apply prdWrite_upd | with_reducible apply alignRefresh_upd | with_reducible refine rws_upd ?_ (fun _ _ => ?_) ?_ | with_reducible apply putReg_upd | with_reducible apply deadWrite_upd | with_reducible apply chanCfgWrite_upd | with_reducible apply pairsDecide_upd | split); try clear_value x) | (have h9 : (x : Peak) = x := rfl; clear h9) | (have h9 : (x : Saddle) = x := rfl; clear h9) | (have h9 : (x : Pair) = x := rfl; clear h9) | (have h9 : (x : Leg) = x := rfl; clear h9) | (have h90 : ∀  t, Upd 249494939647085 s t → Upd 249494939647085 s (x  t) := (by intro  t ht; unfold x; repeat' first | with_reducible assumption | (guard_target =~ (_ ||| _ : Nat) = _; decide) | with_reducible apply h90 | with_reducible apply h91 | with_reducible apply h92 | with_reducible apply h93 | with_reducible apply h94 | with_reducible apply Upd.ite | with_reducible apply State.raise_upd | with_reducible apply tbCmdWrite_upd | with_reducible apply prdWrite_upd | with_reducible apply alignRefresh_upd | with_reducible refine rws_upd ?_ (fun _ _ => ?_) ?_ | with_reducible apply putReg_upd | with_reducible apply deadWrite_upd | with_reducible apply chanCfgWrite_upd | with_reducible apply pairsDecide_upd | split); try clear_value x) | (have h91 : ∀ a0 t, Upd 249494939647085 s t → Upd 249494939647085 s (x a0 t) := (by intro a0 t ht; unfold x; repeat' first | with_reducible assumption | (guard_target =~ (_ ||| _ : Nat) = _; decide) | with_reducible apply h90 | with_reducible apply h91 | with_reducible apply h92 | with_reducible apply h93 | with_reducible apply h94 | with_reducible apply Upd.ite | with_reducible apply State.raise_upd | with_reducible apply tbCmdWrite_upd | with_reducible apply prdWrite_upd | with_reducible apply alignRefresh_upd | with_reducible refine rws_upd ?_ (fun _ _ => ?_) ?_ | with_reducible apply putReg_upd | with_reducible apply deadWrite_upd | with_reducible apply chanCfgWrite_upd | with_reducible apply pairsDecide_upd | split); try clear_value x) | (have h92 : ∀ a0 a1 t, Upd 249494939647085 s t → Upd 249494939647085 s (x a0 a1 t) := (by intro a0 a1 t ht; unfold x; repeat' first | with_reducible assumption | (guard_target =~ (_ ||| _ : Nat) = _; decide) | with_reducible apply h90 | with_reducible apply h91 | with_reducible apply h92 | with_reducible apply h93 | with_reducible apply h94 | with_reducible apply Upd.ite | with_reducible apply State.raise_upd | with_reducible apply tbCmdWrite_upd | with_reducible apply prdWrite_upd | with_reducible apply alignRefresh_upd | with_reducible refine rws_upd ?_ (fun _ _ => ?_) ?_ | with_reducible apply putReg_upd | with_reducible apply deadWrite_upd | with_reducible apply chanCfgWrite_upd | with_reducible apply pairsDecide_upd | split); try clear_value x) | (have h93 : ∀ a0 a1 a2 t, Upd 249494939647085 s t → Upd 249494939647085 s (x a0 a1 a2 t) := (by intro a0 a1 a2 t ht; unfold x; repeat' first | with_reducible assumption | (guard_target =~ (_ ||| _ : Nat) = _; decide) | with_reducible apply h90 | with_reducible apply h91 | with_reducible apply h92 | with_reducible apply h93 | with_reducible apply h94 | with_reducible apply Upd.ite | with_reducible apply State.raise_upd | with_reducible apply tbCmdWrite_upd | with_reducible apply prdWrite_upd | with_reducible apply alignRefresh_upd | with_reducible refine rws_upd ?_ (fun _ _ => ?_) ?_ | with_reducible apply putReg_upd | with_reducible apply deadWrite_upd | with_reducible apply chanCfgWrite_upd | with_reducible apply pairsDecide_upd | split); try clear_value x) | (have h94 : ∀ a0 a1 a2 a3 t, Upd 249494939647085 s t → Upd 249494939647085 s (x a0 a1 a2 a3 t) := (by intro a0 a1 a2 a3 t ht; unfold x; repeat' first | with_reducible assumption | (guard_target =~ (_ ||| _ : Nat) = _; decide) | with_reducible apply h90 | with_reducible apply h91 | with_reducible apply h92 | with_reducible apply h93 | with_reducible apply h94 | with_reducible apply Upd.ite | with_reducible apply State.raise_upd | with_reducible apply tbCmdWrite_upd | with_reducible apply prdWrite_upd | with_reducible apply alignRefresh_upd | with_reducible refine rws_upd ?_ (fun _ _ => ?_) ?_ | with_reducible apply putReg_upd | with_reducible apply deadWrite_upd | with_reducible apply chanCfgWrite_upd | with_reducible apply pairsDecide_upd | split); try clear_value x) | clear_value x | skip) | with_reducible apply Upd.ite | with_reducible apply State.raise_upd | with_reducible apply tbCmdWrite_upd | with_reducible apply prdWrite_upd | with_reducible apply alignRefresh_upd | with_reducible refine rws_upd ?_ (fun _ _ => ?_) ?_ | with_reducible apply putReg_upd | with_reducible apply deadWrite_upd | with_reducible apply chanCfgWrite_upd | with_reducible apply pairsDecide_upd | split

theorem pwmWrite_upd {M0 : Nat} {s0 : State} {m : Master} {w : Wr} {s : State} (hU : Upd M0 s0 s) (hM : 249494939647085 ||| M0 = M0) : Upd M0 s0 (pwmWrite m w s) := by
  refine Upd.step hU ?_ hM
  clear hU hM
  unfold pwmWrite
  have h0 := Upd.refl 249494939647085 s
  repeat' first | with_reducible assumption | (guard_target =~ (_ ||| _ : Nat) = _; decide) | (fail_if_no_progress extract_lets +onlyGivenNames x; first | (have hx : Upd 249494939647085 s x := (by unfold x; repeat' first | with_reducible assumption | (guard_target =~ (_ ||| _ : Nat) = _; decide) | with_reducible apply Upd.ite | with_reducible apply compareStore_upd | with_reducible apply commitStore_upd | with_reducible apply pwmGated_upd); try clear_value x) | (have h9 : (x : Peak) = x := rfl; clear h9) | (have h9 : (x : Saddle) = x := rfl; clear h9) | (have h9 : (x : Pair) = x := rfl; clear h9) | (have h9 : (x : Leg) = x := rfl; clear h9) | clear_value x | skip) | with_reducible apply Upd.ite | with_reducible apply compareStore_upd | with_reducible apply commitStore_upd | with_reducible apply pwmGated_upd

theorem spurGated_upd {M0 : Nat} {s0 : State} {p : PeakId} {w : Wr} {s : State} (hU : Upd M0 s0 s) (hM : 248525061828621 ||| M0 = M0) : Upd M0 s0 (spurGated p w s) := by
  refine Upd.step hU ?_ hM
  clear hU hM
  unfold spurGated
  have h0 := Upd.refl 248525061828621 s
  repeat' first | with_reducible assumption | (guard_target =~ (_ ||| _ : Nat) = _; decide) | with_reducible apply h90 | with_reducible apply h91 | with_reducible apply h92 | with_reducible apply h93 | with_reducible apply h94 | (fail_if_no_progress extract_lets +onlyGivenNames x; first | (have hx : Upd 248525061828621 s x := (by unfold x; repeat' first | with_reducible assumption | (guard_target =~ (_ ||| _ : Nat) = _; decide) | with_reducible apply h90 | with_reducible apply h91 | with_reducible apply h92 | with_reducible apply h93 | with_reducible apply h94 | with_reducible apply Upd.ite | with_reducible apply State.raise_upd | with_reducible apply legsSources_upd | with_reducible refine rws_upd ?_ (fun _ _ => ?_) ?_ | with_reducible apply ascCmd_upd | with_reducible apply spurClear_upd | with_reducible apply legCtrlWrite_upd | with_reducible apply legCodes_upd | with_reducible apply legDriveWrite_upd | with_reducible apply putReg_upd | split | with_reducible apply Upd.lit | exact rfl | exact SadUpd.refl _ _ | with_reducible apply SadUpd.ite | apply SadUpd.mk | exact fun _ => PeakUpd.refl _ _ | exact Or.inl (by decide) | exact Or.inr rfl); try clear_value x) | (have h9 : (x : Peak) = x := rfl; clear h9) | (have h9 : (x : Saddle) = x := rfl; clear h9) | (have h9 : (x : Pair) = x := rfl; clear h9) | (have h9 : (x : Leg) = x := rfl; clear h9) | (have h90 : ∀  t, Upd 248525061828621 s t → Upd 248525061828621 s (x  t) := (by intro  t ht; unfold x; repeat' first | with_reducible assumption | (guard_target =~ (_ ||| _ : Nat) = _; decide) | with_reducible apply h90 | with_reducible apply h91 | with_reducible apply h92 | with_reducible apply h93 | with_reducible apply h94 | with_reducible apply Upd.ite | with_reducible apply State.raise_upd | with_reducible apply legsSources_upd | with_reducible refine rws_upd ?_ (fun _ _ => ?_) ?_ | with_reducible apply ascCmd_upd | with_reducible apply spurClear_upd | with_reducible apply legCtrlWrite_upd | with_reducible apply legCodes_upd | with_reducible apply legDriveWrite_upd | with_reducible apply putReg_upd | split | with_reducible apply Upd.lit | exact rfl | exact SadUpd.refl _ _ | with_reducible apply SadUpd.ite | apply SadUpd.mk | exact fun _ => PeakUpd.refl _ _ | exact Or.inl (by decide) | exact Or.inr rfl); try clear_value x) | (have h91 : ∀ a0 t, Upd 248525061828621 s t → Upd 248525061828621 s (x a0 t) := (by intro a0 t ht; unfold x; repeat' first | with_reducible assumption | (guard_target =~ (_ ||| _ : Nat) = _; decide) | with_reducible apply h90 | with_reducible apply h91 | with_reducible apply h92 | with_reducible apply h93 | with_reducible apply h94 | with_reducible apply Upd.ite | with_reducible apply State.raise_upd | with_reducible apply legsSources_upd | with_reducible refine rws_upd ?_ (fun _ _ => ?_) ?_ | with_reducible apply ascCmd_upd | with_reducible apply spurClear_upd | with_reducible apply legCtrlWrite_upd | with_reducible apply legCodes_upd | with_reducible apply legDriveWrite_upd | with_reducible apply putReg_upd | split | with_reducible apply Upd.lit | exact rfl | exact SadUpd.refl _ _ | with_reducible apply SadUpd.ite | apply SadUpd.mk | exact fun _ => PeakUpd.refl _ _ | exact Or.inl (by decide) | exact Or.inr rfl); try clear_value x) | (have h92 : ∀ a0 a1 t, Upd 248525061828621 s t → Upd 248525061828621 s (x a0 a1 t) := (by intro a0 a1 t ht; unfold x; repeat' first | with_reducible assumption | (guard_target =~ (_ ||| _ : Nat) = _; decide) | with_reducible apply h90 | with_reducible apply h91 | with_reducible apply h92 | with_reducible apply h93 | with_reducible apply h94 | with_reducible apply Upd.ite | with_reducible apply State.raise_upd | with_reducible apply legsSources_upd | with_reducible refine rws_upd ?_ (fun _ _ => ?_) ?_ | with_reducible apply ascCmd_upd | with_reducible apply spurClear_upd | with_reducible apply legCtrlWrite_upd | with_reducible apply legCodes_upd | with_reducible apply legDriveWrite_upd | with_reducible apply putReg_upd | split | with_reducible apply Upd.lit | exact rfl | exact SadUpd.refl _ _ | with_reducible apply SadUpd.ite | apply SadUpd.mk | exact fun _ => PeakUpd.refl _ _ | exact Or.inl (by decide) | exact Or.inr rfl); try clear_value x) | (have h93 : ∀ a0 a1 a2 t, Upd 248525061828621 s t → Upd 248525061828621 s (x a0 a1 a2 t) := (by intro a0 a1 a2 t ht; unfold x; repeat' first | with_reducible assumption | (guard_target =~ (_ ||| _ : Nat) = _; decide) | with_reducible apply h90 | with_reducible apply h91 | with_reducible apply h92 | with_reducible apply h93 | with_reducible apply h94 | with_reducible apply Upd.ite | with_reducible apply State.raise_upd | with_reducible apply legsSources_upd | with_reducible refine rws_upd ?_ (fun _ _ => ?_) ?_ | with_reducible apply ascCmd_upd | with_reducible apply spurClear_upd | with_reducible apply legCtrlWrite_upd | with_reducible apply legCodes_upd | with_reducible apply legDriveWrite_upd | with_reducible apply putReg_upd | split | with_reducible apply Upd.lit | exact rfl | exact SadUpd.refl _ _ | with_reducible apply SadUpd.ite | apply SadUpd.mk | exact fun _ => PeakUpd.refl _ _ | exact Or.inl (by decide) | exact Or.inr rfl); try clear_value x) | (have h94 : ∀ a0 a1 a2 a3 t, Upd 248525061828621 s t → Upd 248525061828621 s (x a0 a1 a2 a3 t) := (by intro a0 a1 a2 a3 t ht; unfold x; repeat' first | with_reducible assumption | (guard_target =~ (_ ||| _ : Nat) = _; decide) | with_reducible apply h90 | with_reducible apply h91 | with_reducible apply h92 | with_reducible apply h93 | with_reducible apply h94 | with_reducible apply Upd.ite | with_reducible apply State.raise_upd | with_reducible apply legsSources_upd | with_reducible refine rws_upd ?_ (fun _ _ => ?_) ?_ | with_reducible apply ascCmd_upd | with_reducible apply spurClear_upd | with_reducible apply legCtrlWrite_upd | with_reducible apply legCodes_upd | with_reducible apply legDriveWrite_upd | with_reducible apply putReg_upd | split | with_reducible apply Upd.lit | exact rfl | exact SadUpd.refl _ _ | with_reducible apply SadUpd.ite | apply SadUpd.mk | exact fun _ => PeakUpd.refl _ _ | exact Or.inl (by decide) | exact Or.inr rfl); try clear_value x) | clear_value x | skip) | with_reducible apply Upd.ite | with_reducible apply State.raise_upd | with_reducible apply legsSources_upd | with_reducible refine rws_upd ?_ (fun _ _ => ?_) ?_ | with_reducible apply ascCmd_upd | with_reducible apply spurClear_upd | with_reducible apply legCtrlWrite_upd | with_reducible apply legCodes_upd | with_reducible apply legDriveWrite_upd | with_reducible apply putReg_upd | split | with_reducible apply Upd.lit | exact rfl | exact SadUpd.refl _ _ | with_reducible apply SadUpd.ite | apply SadUpd.mk | exact fun _ => PeakUpd.refl _ _ | exact Or.inl (by decide) | exact Or.inr rfl

theorem spurWrite_upd {M0 : Nat} {s0 : State} {m : Master} {w : Wr} {s : State} (hU : Upd M0 s0 s) (hM : 248525066022925 ||| M0 = M0) : Upd M0 s0 (spurWrite m w s) := by
  refine Upd.step hU ?_ hM
  clear hU hM
  unfold spurWrite
  have h0 := Upd.refl 248525066022925 s
  repeat' first | with_reducible assumption | (guard_target =~ (_ ||| _ : Nat) = _; decide) | (fail_if_no_progress extract_lets +onlyGivenNames x; first | (have hx : Upd 248525066022925 s x := (by unfold x; repeat' first | with_reducible assumption | (guard_target =~ (_ ||| _ : Nat) = _; decide) | with_reducible apply Upd.ite | with_reducible apply legCmpStore_upd | with_reducible apply spurGated_upd); try clear_value x) | (have h9 : (x : Peak) = x := rfl; clear h9) | (have h9 : (x : Saddle) = x := rfl; clear h9) | (have h9 : (x : Pair) = x := rfl; clear h9) | (have h9 : (x : Leg) = x := rfl; clear h9) | clear_value x | skip) | with_reducible apply Upd.ite | with_reducible apply legCmpStore_upd | with_reducible apply spurGated_upd

theorem tripWrite_upd {M0 : Nat} {s0 : State} {p : PeakId} {w : Wr} {s : State} (hU : Upd M0 s0 s) (hM : 248523988086797 ||| M0 = M0) : Upd M0 s0 (tripWrite p w s) := by
  refine Upd.step hU ?_ hM
  clear hU hM
  unfold tripWrite
  have h0 := Upd.refl 248523988086797 s
  repeat' first | with_reducible assumption | (guard_target =~ (_ ||| _ : Nat) = _; decide) | (fail_if_no_progress extract_lets +onlyGivenNames x; first | (have hx : Upd 248523988086797 s x := (by unfold x; repeat' first | with_reducible assumption | (guard_target =~ (_ ||| _ : Nat) = _; decide) | with_reducible apply Upd.ite | with_reducible apply tripClear_upd | with_reducible apply tripSw_upd | with_reducible apply State.raise_upd | with_reducible apply tripCfg_upd | with_reducible apply putReg_upd); try clear_value x) | (have h9 : (x : Peak) = x := rfl; clear h9) | (have h9 : (x : Saddle) = x := rfl; clear h9) | (have h9 : (x : Pair) = x := rfl; clear h9) | (have h9 : (x : Leg) = x := rfl; clear h9) | clear_value x | skip) | with_reducible apply Upd.ite | with_reducible apply tripClear_upd | with_reducible apply tripSw_upd | with_reducible apply State.raise_upd | with_reducible apply tripCfg_upd | with_reducible apply putReg_upd

theorem pifWrite_upd {M0 : Nat} {s0 : State} {p : PeakId} {w : Wr} {s : State} (hU : Upd M0 s0 s) (hM : 16385 ||| M0 = M0) : Upd M0 s0 (pifWrite p w s) := by
  refine Upd.step hU ?_ hM
  clear hU hM
  unfold pifWrite
  have h0 := Upd.refl 16385 s
  repeat' first | with_reducible assumption | (guard_target =~ (_ ||| _ : Nat) = _; decide) | (fail_if_no_progress extract_lets +onlyGivenNames x; first | (have hx : Upd 16385 s x := (by unfold x; repeat' first | with_reducible assumption | (guard_target =~ (_ ||| _ : Nat) = _; decide) | with_reducible apply Upd.ite | with_reducible apply putReg_upd | with_reducible apply pifCfg_upd | with_reducible apply posSet_upd | with_reducible apply pifPeriods_upd | split); try clear_value x) | (have h9 : (x : Peak) = x := rfl; clear h9) | (have h9 : (x : Saddle) = x := rfl; clear h9) | (have h9 : (x : Pair) = x := rfl; clear h9) | (have h9 : (x : Leg) = x := rfl; clear h9) | clear_value x | skip) | with_reducible apply Upd.ite | with_reducible apply putReg_upd | with_reducible apply pifCfg_upd | with_reducible apply posSet_upd | with_reducible apply pifPeriods_upd | split

theorem crnWrite_upd {M0 : Nat} {s0 : State} {p : PeakId} {w : Wr} {s : State} (hU : Upd M0 s0 s) (hM : 248523987615885 ||| M0 = M0) : Upd M0 s0 (crnWrite p w s) := by
  refine Upd.step hU ?_ hM
  clear hU hM
  unfold crnWrite
  have h0 := Upd.refl 248523987615885 s
  repeat' first | with_reducible assumption | (guard_target =~ (_ ||| _ : Nat) = _; decide) | with_reducible apply crnCtrlWrite_upd | with_reducible apply leaseWrite_upd | with_reducible apply rateLoWrite_upd | with_reducible apply rateCommit_upd | with_reducible apply putReg_upd | split

theorem thmWrite_upd {M0 : Nat} {s0 : State} {p : PeakId} {w : Wr} {s : State} (hU : Upd M0 s0 s) (hM : 248523988086797 ||| M0 = M0) : Upd M0 s0 (thmWrite p w s) := by
  refine Upd.step hU ?_ hM
  clear hU hM
  unfold thmWrite
  have h0 := Upd.refl 248523988086797 s
  repeat' first | with_reducible assumption | (guard_target =~ (_ ||| _ : Nat) = _; decide) | (fail_if_no_progress extract_lets +onlyGivenNames x; first | (have hx : Upd 248523988086797 s x := (by unfold x; repeat' first | with_reducible assumption | (guard_target =~ (_ ||| _ : Nat) = _; decide) | with_reducible apply Upd.ite | with_reducible apply putReg_upd | with_reducible apply thmCtrlWrite_upd | with_reducible apply thmSensWrite_upd); try clear_value x) | (have h9 : (x : Peak) = x := rfl; clear h9) | (have h9 : (x : Saddle) = x := rfl; clear h9) | (have h9 : (x : Pair) = x := rfl; clear h9) | (have h9 : (x : Leg) = x := rfl; clear h9) | clear_value x | skip) | with_reducible apply Upd.ite | with_reducible apply putReg_upd | with_reducible apply thmCtrlWrite_upd | with_reducible apply thmSensWrite_upd

theorem gdmWrite_upd {M0 : Nat} {s0 : State} {m : Master} {w : Wr} {s : State} (hU : Upd M0 s0 s) (hM : 16777217 ||| M0 = M0) : Upd M0 s0 (gdmWrite m w s) := by
  refine Upd.step hU ?_ hM
  clear hU hM
  unfold gdmWrite
  have h0 := Upd.refl 16777217 s
  repeat' first | with_reducible assumption | (guard_target =~ (_ ||| _ : Nat) = _; decide) | (fail_if_no_progress extract_lets +onlyGivenNames x; first | (have hx : Upd 16777217 s x := (by unfold x; repeat' first | with_reducible assumption | (guard_target =~ (_ ||| _ : Nat) = _; decide) | with_reducible apply Upd.ite | with_reducible apply acksAgain_upd | with_reducible apply putReg_upd | with_reducible apply State.raise_upd); try clear_value x) | (have h9 : (x : Peak) = x := rfl; clear h9) | (have h9 : (x : Saddle) = x := rfl; clear h9) | (have h9 : (x : Pair) = x := rfl; clear h9) | (have h9 : (x : Leg) = x := rfl; clear h9) | clear_value x | skip) | with_reducible apply Upd.ite | with_reducible apply acksAgain_upd | with_reducible apply putReg_upd | with_reducible apply State.raise_upd

theorem regWrite_upd {M0 : Nat} {s0 : State} {m : Master} {w : Wr} {s : State} (hU : Upd M0 s0 s) (hM : 2238512785489647 ||| M0 = M0) : Upd M0 s0 (regWrite m w s) := by
  refine Upd.step hU ?_ hM
  clear hU hM
  unfold regWrite
  have h0 := Upd.refl 2238512785489647 s
  repeat' first | with_reducible assumption | (guard_target =~ (_ ||| _ : Nat) = _; decide) | (fail_if_no_progress extract_lets +onlyGivenNames x; first | (have hx : Upd 2238512785489647 s x := (by unfold x; repeat' first | with_reducible assumption | (guard_target =~ (_ ||| _ : Nat) = _; decide) | with_reducible apply Upd.ite | with_reducible apply xtoRecord_upd | with_reducible apply putReg_upd | with_reducible apply clkWrite_upd | with_reducible apply cirqWrite_upd | with_reducible apply clnWrite_upd | with_reducible apply talWrite_upd | with_reducible apply pwmWrite_upd | with_reducible apply spurWrite_upd | with_reducible apply tripWrite_upd | with_reducible apply pifWrite_upd | with_reducible apply rdgBlockWrite_upd | with_reducible apply swbBlockWrite_upd | with_reducible apply trvWrite_upd | with_reducible apply dmaWrite_upd | with_reducible apply crnWrite_upd | with_reducible apply macWrite_upd | with_reducible apply thmWrite_upd | with_reducible apply gdmWrite_upd | with_reducible apply bistWrite_upd | with_reducible apply colWrite_upd | with_reducible apply obsWrite_upd | split); try clear_value x) | (have h9 : (x : Peak) = x := rfl; clear h9) | (have h9 : (x : Saddle) = x := rfl; clear h9) | (have h9 : (x : Pair) = x := rfl; clear h9) | (have h9 : (x : Leg) = x := rfl; clear h9) | clear_value x | skip) | with_reducible apply Upd.ite | with_reducible apply xtoRecord_upd | with_reducible apply putReg_upd | with_reducible apply clkWrite_upd | with_reducible apply cirqWrite_upd | with_reducible apply clnWrite_upd | with_reducible apply talWrite_upd | with_reducible apply pwmWrite_upd | with_reducible apply spurWrite_upd | with_reducible apply tripWrite_upd | with_reducible apply pifWrite_upd | with_reducible apply rdgBlockWrite_upd | with_reducible apply swbBlockWrite_upd | with_reducible apply trvWrite_upd | with_reducible apply dmaWrite_upd | with_reducible apply crnWrite_upd | with_reducible apply macWrite_upd | with_reducible apply thmWrite_upd | with_reducible apply gdmWrite_upd | with_reducible apply bistWrite_upd | with_reducible apply colWrite_upd | with_reducible apply obsWrite_upd | split

theorem plainRead_upd {M0 : Nat} {s0 : State} {p : PeakId} {r : RegRow} {a : Nat} {s : State} (hU : Upd M0 s0 s) (hM : 1 ||| M0 = M0) : Upd M0 s0 (plainRead p r a s).2 := by
  refine Upd.step hU ?_ hM
  clear hU hM
  unfold plainRead
  have h0 := Upd.refl 1 s
  repeat' first | with_reducible assumption | (guard_target =~ (_ ||| _ : Nat) = _; decide) | (fail_if_no_progress extract_lets +onlyGivenNames x; first | (have hx : Upd 1 s x := (by unfold x; repeat' first | with_reducible assumption | (guard_target =~ (_ ||| _ : Nat) = _; decide) | with_reducible apply Upd.ite | with_reducible apply Upd.ite_snd | with_reducible apply State.setReg_upd | with_reducible apply State.reset_upd); try clear_value x) | (have hx : Upd 1 s x.2 := (by unfold x; repeat' first | with_reducible assumption | (guard_target =~ (_ ||| _ : Nat) = _; decide) | with_reducible apply Upd.ite | with_reducible apply Upd.ite_snd | with_reducible apply State.setReg_upd | with_reducible apply State.reset_upd); try clear_value x) | (have h9 : (x : Peak) = x := rfl; clear h9) | (have h9 : (x : Saddle) = x := rfl; clear h9) | (have h9 : (x : Pair) = x := rfl; clear h9) | (have h9 : (x : Leg) = x := rfl; clear h9) | clear_value x | skip) | with_reducible apply Upd.ite | with_reducible apply Upd.ite_snd | with_reducible apply State.setReg_upd | with_reducible apply State.reset_upd

theorem sysRead_upd {M0 : Nat} {s0 : State} {p : PeakId} {r : RegRow} {a : Nat} {s : State} (hU : Upd M0 s0 s) (hM : 1 ||| M0 = M0) : Upd M0 s0 (sysRead p r a s).2 := by
  refine Upd.step hU ?_ hM
  clear hU hM
  unfold sysRead
  have h0 := Upd.refl 1 s
  repeat' first | with_reducible assumption | (guard_target =~ (_ ||| _ : Nat) = _; decide) | (fail_if_no_progress extract_lets +onlyGivenNames x; first | (have hx : Upd 1 s x := (by unfold x; repeat' first | with_reducible assumption | (guard_target =~ (_ ||| _ : Nat) = _; decide) | with_reducible apply Upd.ite | with_reducible apply Upd.ite_snd | with_reducible apply readFaultInfo_upd | with_reducible apply readCyclesLo_upd | with_reducible apply plainRead_upd); try clear_value x) | (have hx : Upd 1 s x.2 := (by unfold x; repeat' first | with_reducible assumption | (guard_target =~ (_ ||| _ : Nat) = _; decide) | with_reducible apply Upd.ite | with_reducible apply Upd.ite_snd | with_reducible apply readFaultInfo_upd | with_reducible apply readCyclesLo_upd | with_reducible apply plainRead_upd); try clear_value x) | (have h9 : (x : Peak) = x := rfl; clear h9) | (have h9 : (x : Saddle) = x := rfl; clear h9) | (have h9 : (x : Pair) = x := rfl; clear h9) | (have h9 : (x : Leg) = x := rfl; clear h9) | clear_value x | skip) | with_reducible apply Upd.ite | with_reducible apply Upd.ite_snd | with_reducible apply readFaultInfo_upd | with_reducible apply readCyclesLo_upd | with_reducible apply plainRead_upd

theorem clnRead_upd {M0 : Nat} {s0 : State} {p : PeakId} {r : RegRow} {a : Nat} {s : State} (hU : Upd M0 s0 s) (hM : 1 ||| M0 = M0) : Upd M0 s0 (clnRead p r a s).2 := by
  refine Upd.step hU ?_ hM
  clear hU hM
  unfold clnRead
  have h0 := Upd.refl 1 s
  repeat' first | with_reducible assumption | (guard_target =~ (_ ||| _ : Nat) = _; decide) | (fail_if_no_progress extract_lets +onlyGivenNames x; first | (have hx : Upd 1 s x := (by unfold x; repeat' first | with_reducible assumption | (guard_target =~ (_ ||| _ : Nat) = _; decide) | with_reducible apply Upd.ite | with_reducible apply Upd.ite_snd | with_reducible apply plainRead_upd); try clear_value x) | (have hx : Upd 1 s x.2 := (by unfold x; repeat' first | with_reducible assumption | (guard_target =~ (_ ||| _ : Nat) = _; decide) | with_reducible apply Upd.ite | with_reducible apply Upd.ite_snd | with_reducible apply plainRead_upd); try clear_value x) | (have h9 : (x : Peak) = x := rfl; clear h9) | (have h9 : (x : Saddle) = x := rfl; clear h9) | (have h9 : (x : Pair) = x := rfl; clear h9) | (have h9 : (x : Leg) = x := rfl; clear h9) | clear_value x | skip) | with_reducible apply Upd.ite | with_reducible apply Upd.ite_snd | with_reducible apply plainRead_upd

theorem rdgRead_upd {M0 : Nat} {s0 : State} {p : PeakId} {r : RegRow} {a : Nat} {s : State} (hU : Upd M0 s0 s) (hM : 1 ||| M0 = M0) : Upd M0 s0 (rdgRead p r a s).2 := by
  refine Upd.step hU ?_ hM
  clear hU hM
  unfold rdgRead
  have h0 := Upd.refl 1 s
  repeat' first | with_reducible assumption | (guard_target =~ (_ ||| _ : Nat) = _; decide) | (fail_if_no_progress extract_lets +onlyGivenNames x; first | (have hx : Upd 1 s x := (by unfold x; repeat' first | with_reducible assumption | (guard_target =~ (_ ||| _ : Nat) = _; decide) | with_reducible apply Upd.ite | with_reducible apply Upd.ite_snd | with_reducible apply plainRead_upd); try clear_value x) | (have hx : Upd 1 s x.2 := (by unfold x; repeat' first | with_reducible assumption | (guard_target =~ (_ ||| _ : Nat) = _; decide) | with_reducible apply Upd.ite | with_reducible apply Upd.ite_snd | with_reducible apply plainRead_upd); try clear_value x) | (have h9 : (x : Peak) = x := rfl; clear h9) | (have h9 : (x : Saddle) = x := rfl; clear h9) | (have h9 : (x : Pair) = x := rfl; clear h9) | (have h9 : (x : Leg) = x := rfl; clear h9) | clear_value x | skip) | with_reducible apply Upd.ite | with_reducible apply Upd.ite_snd | with_reducible apply plainRead_upd

theorem crnRead_upd {M0 : Nat} {s0 : State} {m : Master} {r : RegRow} {a : Nat} {s : State} (hU : Upd M0 s0 s) (hM : 129 ||| M0 = M0) : Upd M0 s0 (crnRead m r a s).2 := by
  refine Upd.step hU ?_ hM
  clear hU hM
  unfold crnRead
  have h0 := Upd.refl 129 s
  repeat' first | with_reducible assumption | (guard_target =~ (_ ||| _ : Nat) = _; decide) | with_reducible apply nowRead_upd | with_reducible apply plainRead_upd | split

theorem pifRead_upd {M0 : Nat} {s0 : State} {p : PeakId} {r : RegRow} {a : Nat} {s : State} (hU : Upd M0 s0 s) (hM : 16385 ||| M0 = M0) : Upd M0 s0 (pifRead p r a s).2 := by
  refine Upd.step hU ?_ hM
  clear hU hM
  unfold pifRead
  have h0 := Upd.refl 16385 s
  repeat' first | with_reducible assumption | (guard_target =~ (_ ||| _ : Nat) = _; decide) | (fail_if_no_progress extract_lets +onlyGivenNames x; first | (have hx : Upd 16385 s x := (by unfold x; repeat' first | with_reducible assumption | (guard_target =~ (_ ||| _ : Nat) = _; decide) | with_reducible apply Upd.ite | with_reducible apply Upd.ite_snd | with_reducible apply plainRead_upd | with_reducible apply edgePosRead_upd | with_reducible apply edgeRead_upd | split); try clear_value x) | (have hx : Upd 16385 s x.2 := (by unfold x; repeat' first | with_reducible assumption | (guard_target =~ (_ ||| _ : Nat) = _; decide) | with_reducible apply Upd.ite | with_reducible apply Upd.ite_snd | with_reducible apply plainRead_upd | with_reducible apply edgePosRead_upd | with_reducible apply edgeRead_upd | split); try clear_value x) | (have h9 : (x : Peak) = x := rfl; clear h9) | (have h9 : (x : Saddle) = x := rfl; clear h9) | (have h9 : (x : Pair) = x := rfl; clear h9) | (have h9 : (x : Leg) = x := rfl; clear h9) | clear_value x | skip) | with_reducible apply Upd.ite | with_reducible apply Upd.ite_snd | with_reducible apply plainRead_upd | with_reducible apply edgePosRead_upd | with_reducible apply edgeRead_upd | split

theorem regRead_upd {M0 : Nat} {s0 : State} {m : Master} {r : RegRow} {a : Nat} {s : State} (hU : Upd M0 s0 s) (hM : 1092948917764237 ||| M0 = M0) : Upd M0 s0 (regRead m r a s).2 := by
  refine Upd.step hU ?_ hM
  clear hU hM
  unfold regRead
  have h0 := Upd.refl 1092948917764237 s
  repeat' first | with_reducible assumption | (guard_target =~ (_ ||| _ : Nat) = _; decide) | (fail_if_no_progress extract_lets +onlyGivenNames x; first | (have hx : Upd 1092948917764237 s x := (by unfold x; repeat' first | with_reducible assumption | (guard_target =~ (_ ||| _ : Nat) = _; decide) | with_reducible apply Upd.ite | with_reducible apply Upd.ite_snd | with_reducible apply xtoRecord_upd | with_reducible apply sysRead_upd | with_reducible apply readLast_upd | with_reducible apply plainRead_upd | with_reducible apply clnRead_upd | with_reducible apply firstRead_upd | with_reducible apply pifRead_upd | with_reducible apply rdgRead_upd | with_reducible apply readPeriodLo_upd | with_reducible apply crnRead_upd | with_reducible apply inPop_upd | with_reducible apply outPop_upd | with_reducible apply counterRead_upd | split); try clear_value x) | (have hx : Upd 1092948917764237 s x.2 := (by unfold x; repeat' first | with_reducible assumption | (guard_target =~ (_ ||| _ : Nat) = _; decide) | with_reducible apply Upd.ite | with_reducible apply Upd.ite_snd | with_reducible apply xtoRecord_upd | with_reducible apply sysRead_upd | with_reducible apply readLast_upd | with_reducible apply plainRead_upd | with_reducible apply clnRead_upd | with_reducible apply firstRead_upd | with_reducible apply pifRead_upd | with_reducible apply rdgRead_upd | with_reducible apply readPeriodLo_upd | with_reducible apply crnRead_upd | with_reducible apply inPop_upd | with_reducible apply outPop_upd | with_reducible apply counterRead_upd | split); try clear_value x) | (have h9 : (x : Peak) = x := rfl; clear h9) | (have h9 : (x : Saddle) = x := rfl; clear h9) | (have h9 : (x : Pair) = x := rfl; clear h9) | (have h9 : (x : Leg) = x := rfl; clear h9) | clear_value x | skip) | with_reducible apply Upd.ite | with_reducible apply Upd.ite_snd | with_reducible apply xtoRecord_upd | with_reducible apply sysRead_upd | with_reducible apply readLast_upd | with_reducible apply plainRead_upd | with_reducible apply clnRead_upd | with_reducible apply firstRead_upd | with_reducible apply pifRead_upd | with_reducible apply rdgRead_upd | with_reducible apply readPeriodLo_upd | with_reducible apply crnRead_upd | with_reducible apply inPop_upd | with_reducible apply outPop_upd | with_reducible apply counterRead_upd | split

theorem putLanes_upd {M0 : Nat} {s0 : State} {m : Master} {key : Nat} {mask : Word} {v : Word} {s : State} (hU : Upd M0 s0 s) (hM : 2 ||| M0 = M0) : Upd M0 s0 (putLanes m key mask v s) := by
  refine Upd.step hU ?_ hM
  clear hU hM
  unfold putLanes
  have h0 := Upd.refl 2 s
  repeat' first | with_reducible assumption | (guard_target =~ (_ ||| _ : Nat) = _; decide) | (fail_if_no_progress extract_lets +onlyGivenNames x; first | (have hx : Upd 2 s x := (by unfold x; repeat' first | with_reducible assumption | (guard_target =~ (_ ||| _ : Nat) = _; decide) | with_reducible apply Upd.ite | with_reducible refine Upd.forAll ?_ (fun _ _ _ => ?_) | with_reducible apply State.setByte_upd | with_reducible apply mirrorBytes_upd); try clear_value x) | (have h9 : (x : Peak) = x := rfl; clear h9) | (have h9 : (x : Saddle) = x := rfl; clear h9) | (have h9 : (x : Pair) = x := rfl; clear h9) | (have h9 : (x : Leg) = x := rfl; clear h9) | clear_value x | skip) | with_reducible apply Upd.ite | with_reducible refine Upd.forAll ?_ (fun _ _ _ => ?_) | with_reducible apply State.setByte_upd | with_reducible apply mirrorBytes_upd

theorem writeWord_upd {M0 : Nat} {s0 : State} {m : Master} {core : Nat} {a : Nat} {mask : Word} {v : Word} {s : State} (hU : Upd M0 s0 s) (hM : 2238512785489647 ||| M0 = M0) : Upd M0 s0 (writeWord m core a mask v s) := by
  refine Upd.step hU ?_ hM
  clear hU hM
  unfold writeWord
  have h0 := Upd.refl 2238512785489647 s
  repeat' first | with_reducible assumption | (guard_target =~ (_ ||| _ : Nat) = _; decide) | (fail_if_no_progress extract_lets +onlyGivenNames x; first | (have hx : Upd 2238512785489647 s x := (by unfold x; repeat' first | with_reducible assumption | (guard_target =~ (_ ||| _ : Nat) = _; decide) | with_reducible apply Upd.ite | with_reducible apply putLanes_upd | with_reducible apply State.raise_upd | with_reducible apply xtoRecord_upd | with_reducible apply regWrite_upd | with_reducible apply unmappedAt_upd | split); try clear_value x) | (have h9 : (x : Peak) = x := rfl; clear h9) | (have h9 : (x : Saddle) = x := rfl; clear h9) | (have h9 : (x : Pair) = x := rfl; clear h9) | (have h9 : (x : Leg) = x := rfl; clear h9) | clear_value x | skip) | with_reducible apply Upd.ite | with_reducible apply putLanes_upd | with_reducible apply State.raise_upd | with_reducible apply xtoRecord_upd | with_reducible apply regWrite_upd | with_reducible apply unmappedAt_upd | split

theorem readWord_upd {M0 : Nat} {s0 : State} {m : Master} {core : Nat} {a : Nat} {s : State} (hU : Upd M0 s0 s) (hM : 1092948917764237 ||| M0 = M0) : Upd M0 s0 (readWord m core a s).2 := by
  refine Upd.step hU ?_ hM
  clear hU hM
  unfold readWord
  have h0 := Upd.refl 1092948917764237 s
  repeat' first | with_reducible assumption | (guard_target =~ (_ ||| _ : Nat) = _; decide) | (fail_if_no_progress extract_lets +onlyGivenNames x; first | (have hx : Upd 1092948917764237 s x := (by unfold x; repeat' first | with_reducible assumption | (guard_target =~ (_ ||| _ : Nat) = _; decide) | with_reducible apply Upd.ite | with_reducible apply Upd.ite_snd | with_reducible apply xtoRecord_upd | with_reducible apply regRead_upd | with_reducible apply unmappedAt_upd | split); try clear_value x) | (have hx : Upd 1092948917764237 s x.2 := (by unfold x; repeat' first | with_reducible assumption | (guard_target =~ (_ ||| _ : Nat) = _; decide) | with_reducible apply Upd.ite | with_reducible apply Upd.ite_snd | with_reducible apply xtoRecord_upd | with_reducible apply regRead_upd | with_reducible apply unmappedAt_upd | split); try clear_value x) | (have h9 : (x : Peak) = x := rfl; clear h9) | (have h9 : (x : Saddle) = x := rfl; clear h9) | (have h9 : (x : Pair) = x := rfl; clear h9) | (have h9 : (x : Leg) = x := rfl; clear h9) | clear_value x | skip) | with_reducible apply Upd.ite | with_reducible apply Upd.ite_snd | with_reducible apply xtoRecord_upd | with_reducible apply regRead_upd | with_reducible apply unmappedAt_upd | split

theorem fabWrite_upd {M0 : Nat} {s0 : State} {m : Master} {core : Nat} {a : Nat} {n : Nat} {v : Nat} {s : State} (hU : Upd M0 s0 s) (hM : 2238512785489647 ||| M0 = M0) : Upd M0 s0 (fabWrite m core a n v s) := by
  refine Upd.step hU ?_ hM
  clear hU hM
  unfold fabWrite
  have h0 := Upd.refl 2238512785489647 s
  repeat' first | with_reducible assumption | (guard_target =~ (_ ||| _ : Nat) = _; decide) | with_reducible refine Upd.forAll ?_ (fun _ _ _ => ?_) | with_reducible apply writeWord_upd

theorem readWords_upd {M0 : Nat} {s0 : State} {m : Master} {core : Nat} {y0 : List Nat} {y1 : State} (hU : Upd M0 s0 y1) (hM : 1092948917764237 ||| M0 = M0) : Upd M0 s0 (readWords m core y0 y1).2 := by
  refine Upd.step hU ?_ hM
  clear hU hM
  induction y0 generalizing y1 with
  | nil =>
    unfold readWords
    have h0 := Upd.refl 1092948917764237 y1
    repeat' first | with_reducible assumption | (guard_target =~ (_ ||| _ : Nat) = _; decide) | (fail_if_no_progress extract_lets +onlyGivenNames x; first | (have hx : Upd 1092948917764237 y1 x := (by unfold x; repeat' first | with_reducible assumption | (guard_target =~ (_ ||| _ : Nat) = _; decide) | with_reducible apply readWord_upd | split); try clear_value x) | (have hx : Upd 1092948917764237 y1 x.2 := (by unfold x; repeat' first | with_reducible assumption | (guard_target =~ (_ ||| _ : Nat) = _; decide) | with_reducible apply readWord_upd | split); try clear_value x) | (have h9 : (x : Peak) = x := rfl; clear h9) | (have h9 : (x : Saddle) = x := rfl; clear h9) | (have h9 : (x : Pair) = x := rfl; clear h9) | (have h9 : (x : Leg) = x := rfl; clear h9) | clear_value x | skip) | with_reducible apply readWord_upd | split
  | cons a r ih =>
    have ih2 : ∀ {z1 : State}, Upd 1092948917764237 y1 z1 → Upd 1092948917764237 y1 (readWords m core r z1).2 := fun h => h.trans (ih ..)
    unfold readWords
    have h0 := Upd.refl 1092948917764237 y1
    repeat' first | with_reducible assumption | with_reducible apply ih2 | (guard_target =~ (_ ||| _ : Nat) = _; decide) | (fail_if_no_progress extract_lets +onlyGivenNames x; first | (have hx : Upd 1092948917764237 y1 x := (by unfold x; repeat' first | with_reducible assumption | with_reducible apply ih2 | (guard_target =~ (_ ||| _ : Nat) = _; decide) | with_reducible apply readWord_upd | split); try clear_value x) | (have hx : Upd 1092948917764237 y1 x.2 := (by unfold x; repeat' first | with_reducible assumption | with_reducible apply ih2 | (guard_target =~ (_ ||| _ : Nat) = _; decide) | with_reducible apply readWord_upd | split); try clear_value x) | (have h9 : (x : Peak) = x := rfl; clear h9) | (have h9 : (x : Saddle) = x := rfl; clear h9) | (have h9 : (x : Pair) = x := rfl; clear h9) | (have h9 : (x : Leg) = x := rfl; clear h9) | clear_value x | skip) | with_reducible apply readWord_upd | split

theorem fabRead_upd {M0 : Nat} {s0 : State} {m : Master} {core : Nat} {a : Nat} {n : Nat} {s : State} (hU : Upd M0 s0 s) (hM : 1092948917764237 ||| M0 = M0) : Upd M0 s0 (fabRead m core a n s).2 := by
  refine Upd.step hU ?_ hM
  clear hU hM
  unfold fabRead
  have h0 := Upd.refl 1092948917764237 s
  repeat' first | with_reducible assumption | (guard_target =~ (_ ||| _ : Nat) = _; decide) | (fail_if_no_progress extract_lets +onlyGivenNames x; first | (have hx : Upd 1092948917764237 s x := (by unfold x; repeat' first | with_reducible assumption | (guard_target =~ (_ ||| _ : Nat) = _; decide) | with_reducible apply readWords_upd); try clear_value x) | (have hx : Upd 1092948917764237 s x.2 := (by unfold x; repeat' first | with_reducible assumption | (guard_target =~ (_ ||| _ : Nat) = _; decide) | with_reducible apply readWords_upd); try clear_value x) | (have h9 : (x : Peak) = x := rfl; clear h9) | (have h9 : (x : Saddle) = x := rfl; clear h9) | (have h9 : (x : Pair) = x := rfl; clear h9) | (have h9 : (x : Leg) = x := rfl; clear h9) | clear_value x | skip) | with_reducible apply readWords_upd

theorem execRegisterWrite_upd (m : Master) (addr : Word) (val : Word) (lanes : BitVec 4) (s : State) {t : State} (hX : execRegisterWrite m addr val lanes s = .next t) : Upd 2238512785489647 s t := by
  unfold execRegisterWrite at hX
  cases hX
  have h0 := Upd.refl 2238512785489647 s
  repeat' first | with_reducible assumption | (guard_target =~ (_ ||| _ : Nat) = _; decide) | with_reducible apply Upd.ite | with_reducible apply writeWord_upd

theorem execRcRead_upd (m : Master) (addr : Word) (s : State) {t : State} (hX : execRcRead m addr s = .next t) : Upd 1092948917764253 s t := by
  unfold execRcRead at hX
  cases hX
  have h0 := Upd.refl 1092948917764253 s
  repeat' first | with_reducible assumption | (guard_target =~ (_ ||| _ : Nat) = _; decide) | with_reducible apply Upd.ite | with_reducible apply Upd.ite_snd | with_reducible refine returned_upd ?_ ?_ | with_reducible apply readWord_upd

end Sys2Proof.Machine
end

