-- ==== Sys2Proof/Laws/UpdLoadStore.lean ====
section
/-! SUPPORT. What each operation of Machine/LoadStore.lean may change. -/

set_option linter.unusedTactic false
set_option linter.unreachableTactic false

namespace Sys2Proof.Machine

theorem takeLatency_upd {M0 : Nat} {s0 : State} {p : PeakId} {a : Nat} {s : State} (hU : Upd M0 s0 s) (hM : 1073741824 ||| M0 = M0) : Upd M0 s0 (takeLatency p a s).2 := by
  refine Upd.step hU ?_ hM
  clear hU hM
  unfold takeLatency
  have h0 := Upd.refl 1073741824 s
  repeat' first | with_reducible assumption | (guard_target =~ (_ ||| _ : Nat) = _; decide) | (fail_if_no_progress extract_lets +onlyGivenNames x; first | (have hx : Upd 1073741824 s x := (by unfold x; repeat' first | with_reducible assumption | (guard_target =~ (_ ||| _ : Nat) = _; decide) | with_reducible apply Upd.ite | with_reducible apply Upd.ite_snd | with_reducible apply Upd.lit | exact rfl | exact SadUpd.refl _ _ | with_reducible apply SadUpd.ite | apply SadUpd.mk | exact fun _ => PeakUpd.refl _ _ | exact Or.inl (by decide) | exact Or.inr rfl); try clear_value x) | (have hx : Upd 1073741824 s x.2 := (by unfold x; repeat' first | with_reducible assumption | (guard_target =~ (_ ||| _ : Nat) = _; decide) | with_reducible apply Upd.ite | with_reducible apply Upd.ite_snd | with_reducible apply Upd.lit | exact rfl | exact SadUpd.refl _ _ | with_reducible apply SadUpd.ite | apply SadUpd.mk | exact fun _ => PeakUpd.refl _ _ | exact Or.inl (by decide) | exact Or.inr rfl); try clear_value x) | (have h9 : (x : Peak) = x := rfl; clear h9) | (have h9 : (x : Saddle) = x := rfl; clear h9) | (have h9 : (x : Pair) = x := rfl; clear h9) | (have h9 : (x : Leg) = x := rfl; clear h9) | clear_value x | skip) | with_reducible apply Upd.ite | with_reducible apply Upd.ite_snd | with_reducible apply Upd.lit | exact rfl | exact SadUpd.refl _ _ | with_reducible apply SadUpd.ite | apply SadUpd.mk | exact fun _ => PeakUpd.refl _ _ | exact Or.inl (by decide) | exact Or.inr rfl

theorem loadValue_upd {M0 : Nat} {s0 : State} {k : CoreSel} {a : Nat} {n : Nat} {s : State} (hU : Upd M0 s0 s) (hM : 1092948917764237 ||| M0 = M0) : Upd M0 s0 (loadValue k a n s).2 := by
  refine Upd.step hU ?_ hM
  clear hU hM
  unfold loadValue
  have h0 := Upd.refl 1092948917764237 s
  repeat' first | with_reducible assumption | (guard_target =~ (_ ||| _ : Nat) = _; decide) | (fail_if_no_progress extract_lets +onlyGivenNames x; first | (have hx : Upd 1092948917764237 s x := (by unfold x; repeat' first | with_reducible assumption | (guard_target =~ (_ ||| _ : Nat) = _; decide) | with_reducible apply Upd.ite | with_reducible apply Upd.ite_snd | with_reducible apply fabRead_upd); try clear_value x) | (have hx : Upd 1092948917764237 s x.2 := (by unfold x; repeat' first | with_reducible assumption | (guard_target =~ (_ ||| _ : Nat) = _; decide) | with_reducible apply Upd.ite | with_reducible apply Upd.ite_snd | with_reducible apply fabRead_upd); try clear_value x) | (have h9 : (x : Peak) = x := rfl; clear h9) | (have h9 : (x : Saddle) = x := rfl; clear h9) | (have h9 : (x : Pair) = x := rfl; clear h9) | (have h9 : (x : Leg) = x := rfl; clear h9) | clear_value x | skip) | with_reducible apply Upd.ite | with_reducible apply Upd.ite_snd | with_reducible apply fabRead_upd

theorem loadLatency_upd {M0 : Nat} {s0 : State} {k : CoreSel} {a : Nat} {n : Nat} {s : State} (hU : Upd M0 s0 s) (hM : 1073741824 ||| M0 = M0) : Upd M0 s0 (loadLatency k a n s).2 := by
  refine Upd.step hU ?_ hM
  clear hU hM
  unfold loadLatency
  have h0 := Upd.refl 1073741824 s
  repeat' first | with_reducible assumption | (guard_target =~ (_ ||| _ : Nat) = _; decide) | with_reducible apply Upd.ite | with_reducible apply Upd.ite_snd | with_reducible apply takeLatency_upd

theorem loadOp_upd {M0 : Nat} {s0 : State} {x : Slot} {base : Fin 8} {off : BitVec 16} {w : Nat} {dest : Nat} {put : Core → Nat → Core} {s : State} (hU : Upd M0 s0 s) (hM : 1092958598217869 ||| M0 = M0) : Upd M0 s0 (loadOp x base off w dest put s) := by
  refine Upd.step hU ?_ hM
  clear hU hM
  unfold loadOp
  have h0 := Upd.refl 1092958598217869 s
  repeat' first | with_reducible assumption | (guard_target =~ (_ ||| _ : Nat) = _; decide) | (fail_if_no_progress extract_lets +onlyGivenNames x; first | (have hx : Upd 1092958598217869 s x := (by unfold x; repeat' first | with_reducible assumption | (guard_target =~ (_ ||| _ : Nat) = _; decide) | with_reducible apply Upd.ite | with_reducible apply Upd.ite_snd | with_reducible refine fetched_upd ?_ (fun _ _ => ?_) ?_ | with_reducible apply loadLatency_upd | with_reducible apply coreFault_upd | with_reducible apply State.setCore_upd | with_reducible apply passCore_upd | with_reducible apply loadValue_upd); try clear_value x) | (have hx : Upd 1092958598217869 s x.2 := (by unfold x; repeat' first | with_reducible assumption | (guard_target =~ (_ ||| _ : Nat) = _; decide) | with_reducible apply Upd.ite | with_reducible apply Upd.ite_snd | with_reducible refine fetched_upd ?_ (fun _ _ => ?_) ?_ | with_reducible apply loadLatency_upd | with_reducible apply coreFault_upd | with_reducible apply State.setCore_upd | with_reducible apply passCore_upd | with_reducible apply loadValue_upd); try clear_value x) | (have h9 : (x : Peak) = x := rfl; clear h9) | (have h9 : (x : Saddle) = x := rfl; clear h9) | (have h9 : (x : Pair) = x := rfl; clear h9) | (have h9 : (x : Leg) = x := rfl; clear h9) | clear_value x | skip) | with_reducible apply Upd.ite | with_reducible apply Upd.ite_snd | with_reducible refine fetched_upd ?_ (fun _ _ => ?_) ?_ | with_reducible apply loadLatency_upd | with_reducible apply coreFault_upd | with_reducible apply State.setCore_upd | with_reducible apply passCore_upd | with_reducible apply loadValue_upd

theorem loadScalar_upd {M0 : Nat} {s0 : State} {x : Slot} {rt : Fin 32} {base : Fin 8} {off : BitVec 16} {w : Nat} {f : Nat → Word} {s : State} (hU : Upd M0 s0 s) (hM : 1092958598217869 ||| M0 = M0) : Upd M0 s0 (loadScalar x rt base off w f s) := by
  refine Upd.step hU ?_ hM
  clear hU hM
  unfold loadScalar
  have h0 := Upd.refl 1092958598217869 s
  repeat' first | with_reducible assumption | (guard_target =~ (_ ||| _ : Nat) = _; decide) | with_reducible apply loadOp_upd

theorem execLb_upd (x : Slot) (rt : Fin 32) (base : Fin 8) (off : BitVec 16) (s : State) {t : State} (hX : execLb x rt base off s = .next t) : Upd 1092958598217869 s t := by
  unfold execLb at hX
  cases hX
  have h0 := Upd.refl 1092958598217869 s
  repeat' first | with_reducible assumption | (guard_target =~ (_ ||| _ : Nat) = _; decide) | with_reducible apply loadScalar_upd

theorem execLbu_upd (x : Slot) (rt : Fin 32) (base : Fin 8) (off : BitVec 16) (s : State) {t : State} (hX : execLbu x rt base off s = .next t) : Upd 1092958598217869 s t := by
  unfold execLbu at hX
  cases hX
  have h0 := Upd.refl 1092958598217869 s
  repeat' first | with_reducible assumption | (guard_target =~ (_ ||| _ : Nat) = _; decide) | with_reducible apply loadScalar_upd

theorem execLh_upd (x : Slot) (rt : Fin 32) (base : Fin 8) (off : BitVec 16) (s : State) {t : State} (hX : execLh x rt base off s = .next t) : Upd 1092958598217869 s t := by
  unfold execLh at hX
  cases hX
  have h0 := Upd.refl 1092958598217869 s
  repeat' first | with_reducible assumption | (guard_target =~ (_ ||| _ : Nat) = _; decide) | with_reducible apply loadScalar_upd

theorem execLhu_upd (x : Slot) (rt : Fin 32) (base : Fin 8) (off : BitVec 16) (s : State) {t : State} (hX : execLhu x rt base off s = .next t) : Upd 1092958598217869 s t := by
  unfold execLhu at hX
  cases hX
  have h0 := Upd.refl 1092958598217869 s
  repeat' first | with_reducible assumption | (guard_target =~ (_ ||| _ : Nat) = _; decide) | with_reducible apply loadScalar_upd

theorem execLw_upd (x : Slot) (rt : Fin 32) (base : Fin 8) (off : BitVec 16) (s : State) {t : State} (hX : execLw x rt base off s = .next t) : Upd 1092958598217869 s t := by
  unfold execLw at hX
  cases hX
  have h0 := Upd.refl 1092958598217869 s
  repeat' first | with_reducible assumption | (guard_target =~ (_ ||| _ : Nat) = _; decide) | with_reducible apply loadScalar_upd

theorem execLp_upd (x : Slot) (rt : Fin 4) (base : Fin 8) (off : BitVec 16) (s : State) {t : State} (hX : execLp x rt base off s = .next t) : Upd 1092958598217869 s t := by
  unfold execLp at hX
  cases hX
  have h0 := Upd.refl 1092958598217869 s
  repeat' first | with_reducible assumption | (guard_target =~ (_ ||| _ : Nat) = _; decide) | with_reducible apply loadOp_upd

theorem loadVector_upd {M0 : Nat} {s0 : State} {x : Slot} {rt : Fin 8} {base : Fin 8} {off : BitVec 16} {s : State} (hU : Upd M0 s0 s) (hM : 1092958598217869 ||| M0 = M0) : Upd M0 s0 (loadVector x rt base off s) := by
  refine Upd.step hU ?_ hM
  clear hU hM
  unfold loadVector
  have h0 := Upd.refl 1092958598217869 s
  repeat' first | with_reducible assumption | (guard_target =~ (_ ||| _ : Nat) = _; decide) | (fail_if_no_progress extract_lets +onlyGivenNames x; first | (have hx : Upd 1092958598217869 s x := (by unfold x; repeat' first | with_reducible assumption | (guard_target =~ (_ ||| _ : Nat) = _; decide) | with_reducible apply Upd.ite | with_reducible apply Upd.ite_snd | with_reducible refine fetched_upd ?_ (fun _ _ => ?_) ?_ | with_reducible apply loadLatency_upd | with_reducible apply coreFault_upd | with_reducible apply passCore_upd | with_reducible refine Upd.forAll ?_ (fun _ _ _ => ?_) | with_reducible apply State.setCore_upd | with_reducible apply loadValue_upd); try clear_value x) | (have hx : Upd 1092958598217869 s x.2 := (by unfold x; repeat' first | with_reducible assumption | (guard_target =~ (_ ||| _ : Nat) = _; decide) | with_reducible apply Upd.ite | with_reducible apply Upd.ite_snd | with_reducible refine fetched_upd ?_ (fun _ _ => ?_) ?_ | with_reducible apply loadLatency_upd | with_reducible apply coreFault_upd | with_reducible apply passCore_upd | with_reducible refine Upd.forAll ?_ (fun _ _ _ => ?_) | with_reducible apply State.setCore_upd | with_reducible apply loadValue_upd); try clear_value x) | (have h9 : (x : Peak) = x := rfl; clear h9) | (have h9 : (x : Saddle) = x := rfl; clear h9) | (have h9 : (x : Pair) = x := rfl; clear h9) | (have h9 : (x : Leg) = x := rfl; clear h9) | clear_value x | skip) | with_reducible apply Upd.ite | with_reducible apply Upd.ite_snd | with_reducible refine fetched_upd ?_ (fun _ _ => ?_) ?_ | with_reducible apply loadLatency_upd | with_reducible apply coreFault_upd | with_reducible apply passCore_upd | with_reducible refine Upd.forAll ?_ (fun _ _ _ => ?_) | with_reducible apply State.setCore_upd | with_reducible apply loadValue_upd

theorem execLv_upd (x : Slot) (rt : Fin 8) (base : Fin 8) (off : BitVec 16) (s : State) {t : State} (hX : execLv x rt base off s = .next t) : Upd 1092958598217869 s t := by
  unfold execLv at hX
  cases hX
  have h0 := Upd.refl 1092958598217869 s
  repeat' first | with_reducible assumption | (guard_target =~ (_ ||| _ : Nat) = _; decide) | with_reducible apply loadVector_upd

theorem shadowJudge_upd {M0 : Nat} {s0 : State} {k : CoreSel} {cycle : Nat} {s : State} (hU : Upd M0 s0 s) (hM : 248523987615757 ||| M0 = M0) : Upd M0 s0 (shadowJudge k cycle s).2 := by
  refine Upd.step hU ?_ hM
  clear hU hM
  unfold shadowJudge
  have h0 := Upd.refl 248523987615757 s
  repeat' first | with_reducible assumption | (guard_target =~ (_ ||| _ : Nat) = _; decide) | (fail_if_no_progress extract_lets +onlyGivenNames x; first | (have hx : Upd 248523987615757 s x := (by unfold x; repeat' first | with_reducible assumption | (guard_target =~ (_ ||| _ : Nat) = _; decide) | with_reducible apply Upd.ite | with_reducible apply Upd.ite_snd | with_reducible apply monitorViolation_upd); try clear_value x) | (have h9 : (x : Peak) = x := rfl; clear h9) | (have h9 : (x : Saddle) = x := rfl; clear h9) | (have h9 : (x : Pair) = x := rfl; clear h9) | (have h9 : (x : Leg) = x := rfl; clear h9) | clear_value x | skip) | with_reducible apply Upd.ite | with_reducible apply Upd.ite_snd | with_reducible apply monitorViolation_upd

theorem storePieces_upd {M0 : Nat} {s0 : State} {k : CoreSel} {a : Nat} {pieces : List (Nat × Nat × Nat)} {u : Use} {s : State} (hU : Upd M0 s0 s) (hM : 2238512785489647 ||| M0 = M0) : Upd M0 s0 (storePieces k a pieces u s) := by
  refine Upd.step hU ?_ hM
  clear hU hM
  unfold storePieces
  have h0 := Upd.refl 2238512785489647 s
  repeat' first | with_reducible assumption | (guard_target =~ (_ ||| _ : Nat) = _; decide) | (fail_if_no_progress extract_lets +onlyGivenNames x; first | (have hx : Upd 2238512785489647 s x := (by unfold x; repeat' first | with_reducible assumption | (guard_target =~ (_ ||| _ : Nat) = _; decide) | with_reducible apply Upd.ite | with_reducible apply passCore_upd | with_reducible refine Upd.forAll ?_ (fun _ _ _ => ?_) | with_reducible apply fabWrite_upd | with_reducible apply shadowJudge_upd | with_reducible apply State.setCore_upd); try clear_value x) | (have hx : Upd 2238512785489647 s x.2 := (by unfold x; repeat' first | with_reducible assumption | (guard_target =~ (_ ||| _ : Nat) = _; decide) | with_reducible apply Upd.ite | with_reducible apply passCore_upd | with_reducible refine Upd.forAll ?_ (fun _ _ _ => ?_) | with_reducible apply fabWrite_upd | with_reducible apply shadowJudge_upd | with_reducible apply State.setCore_upd); try clear_value x) | (have h9 : (x : Peak) = x := rfl; clear h9) | (have h9 : (x : Saddle) = x := rfl; clear h9) | (have h9 : (x : Pair) = x := rfl; clear h9) | (have h9 : (x : Leg) = x := rfl; clear h9) | clear_value x | skip) | with_reducible apply Upd.ite | with_reducible apply passCore_upd | with_reducible refine Upd.forAll ?_ (fun _ _ _ => ?_) | with_reducible apply fabWrite_upd | with_reducible apply shadowJudge_upd | with_reducible apply State.setCore_upd

theorem storeOp_upd {M0 : Nat} {s0 : State} {x : Slot} {base : Fin 8} {off : BitVec 16} {w : Nat} {src : Nat} {pieces : Core → Nat → List (Nat × Nat × Nat)} {s : State} (hU : Upd M0 s0 s) (hM : 2238512785489647 ||| M0 = M0) : Upd M0 s0 (storeOp x base off w src pieces s) := by
  refine Upd.step hU ?_ hM
  clear hU hM
  unfold storeOp
  have h0 := Upd.refl 2238512785489647 s
  repeat' first | with_reducible assumption | (guard_target =~ (_ ||| _ : Nat) = _; decide) | (fail_if_no_progress extract_lets +onlyGivenNames x; first | (have hx : Upd 2238512785489647 s x := (by unfold x; repeat' first | with_reducible assumption | (guard_target =~ (_ ||| _ : Nat) = _; decide) | with_reducible apply Upd.ite | with_reducible refine fetched_upd ?_ (fun _ _ => ?_) ?_ | with_reducible apply coreFault_upd | with_reducible apply passCore_upd | with_reducible apply storePieces_upd); try clear_value x) | (have h9 : (x : Peak) = x := rfl; clear h9) | (have h9 : (x : Saddle) = x := rfl; clear h9) | (have h9 : (x : Pair) = x := rfl; clear h9) | (have h9 : (x : Leg) = x := rfl; clear h9) | clear_value x | skip) | with_reducible apply Upd.ite | with_reducible refine fetched_upd ?_ (fun _ _ => ?_) ?_ | with_reducible apply coreFault_upd | with_reducible apply passCore_upd | with_reducible apply storePieces_upd

theorem storeScalar_upd {M0 : Nat} {s0 : State} {x : Slot} {rt : Fin 32} {base : Fin 8} {off : BitVec 16} {w : Nat} {s : State} (hU : Upd M0 s0 s) (hM : 2238512785489647 ||| M0 = M0) : Upd M0 s0 (storeScalar x rt base off w s) := by
  refine Upd.step hU ?_ hM
  clear hU hM
  unfold storeScalar
  have h0 := Upd.refl 2238512785489647 s
  repeat' first | with_reducible assumption | (guard_target =~ (_ ||| _ : Nat) = _; decide) | with_reducible apply storeOp_upd

theorem execSb_upd (x : Slot) (rt : Fin 32) (base : Fin 8) (off : BitVec 16) (s : State) {t : State} (hX : execSb x rt base off s = .next t) : Upd 2238512785489647 s t := by
  unfold execSb at hX
  cases hX
  have h0 := Upd.refl 2238512785489647 s
  repeat' first | with_reducible assumption | (guard_target =~ (_ ||| _ : Nat) = _; decide) | with_reducible apply storeScalar_upd

theorem execSh_upd (x : Slot) (rt : Fin 32) (base : Fin 8) (off : BitVec 16) (s : State) {t : State} (hX : execSh x rt base off s = .next t) : Upd 2238512785489647 s t := by
  unfold execSh at hX
  cases hX
  have h0 := Upd.refl 2238512785489647 s
  repeat' first | with_reducible assumption | (guard_target =~ (_ ||| _ : Nat) = _; decide) | with_reducible apply storeScalar_upd

theorem execSw_upd (x : Slot) (rt : Fin 32) (base : Fin 8) (off : BitVec 16) (s : State) {t : State} (hX : execSw x rt base off s = .next t) : Upd 2238512785489647 s t := by
  unfold execSw at hX
  cases hX
  have h0 := Upd.refl 2238512785489647 s
  repeat' first | with_reducible assumption | (guard_target =~ (_ ||| _ : Nat) = _; decide) | with_reducible apply storeScalar_upd

theorem execSp_upd (x : Slot) (rt : Fin 4) (base : Fin 8) (off : BitVec 16) (s : State) {t : State} (hX : execSp x rt base off s = .next t) : Upd 2238512785489647 s t := by
  unfold execSp at hX
  cases hX
  have h0 := Upd.refl 2238512785489647 s
  repeat' first | with_reducible assumption | (guard_target =~ (_ ||| _ : Nat) = _; decide) | with_reducible apply storeOp_upd

theorem execSv_upd (x : Slot) (rt : Fin 8) (base : Fin 8) (off : BitVec 16) (s : State) {t : State} (hX : execSv x rt base off s = .next t) : Upd 2238512785489647 s t := by
  unfold execSv at hX
  cases hX
  have h0 := Upd.refl 2238512785489647 s
  repeat' first | with_reducible assumption | (guard_target =~ (_ ||| _ : Nat) = _; decide) | with_reducible apply storeOp_upd

theorem execStoreBufferComplete_upd (k : CoreSel) (s : State) {t : State} (hX : execStoreBufferComplete k s = .next t) : Upd 2238512785489647 s t := by
  unfold execStoreBufferComplete at hX
  cases hX
  have h0 := Upd.refl 2238512785489647 s
  repeat' first | with_reducible assumption | (guard_target =~ (_ ||| _ : Nat) = _; decide) | (fail_if_no_progress extract_lets +onlyGivenNames x; first | (have hx : Upd 2238512785489647 s x := (by unfold x; repeat' first | with_reducible assumption | (guard_target =~ (_ ||| _ : Nat) = _; decide) | with_reducible apply Upd.ite | with_reducible refine Upd.forAll ?_ (fun _ _ _ => ?_) | with_reducible apply fabWrite_upd | with_reducible apply State.setCore_upd | split); try clear_value x) | (have hx : Upd 2238512785489647 s x.2 := (by unfold x; repeat' first | with_reducible assumption | (guard_target =~ (_ ||| _ : Nat) = _; decide) | with_reducible apply Upd.ite | with_reducible refine Upd.forAll ?_ (fun _ _ _ => ?_) | with_reducible apply fabWrite_upd | with_reducible apply State.setCore_upd | split); try clear_value x) | (have h9 : (x : Peak) = x := rfl; clear h9) | (have h9 : (x : Saddle) = x := rfl; clear h9) | (have h9 : (x : Pair) = x := rfl; clear h9) | (have h9 : (x : Leg) = x := rfl; clear h9) | clear_value x | skip) | with_reducible apply Upd.ite | with_reducible refine Upd.forAll ?_ (fun _ _ _ => ?_) | with_reducible apply fabWrite_upd | with_reducible apply State.setCore_upd | split

theorem shadowHandshake_upd {M0 : Nat} {s0 : State} {k : CoreSel} {ps : List (Nat × Nat × Nat)} {s : State} (hU : Upd M0 s0 s) (hM : 2238512785489647 ||| M0 = M0) : Upd M0 s0 (shadowHandshake k ps s) := by
  refine Upd.step hU ?_ hM
  clear hU hM
  unfold shadowHandshake
  have h0 := Upd.refl 2238512785489647 s
  repeat' first | with_reducible assumption | (guard_target =~ (_ ||| _ : Nat) = _; decide) | (fail_if_no_progress extract_lets +onlyGivenNames x; first | (have hx : Upd 2238512785489647 s x := (by unfold x; repeat' first | with_reducible assumption | (guard_target =~ (_ ||| _ : Nat) = _; decide) | with_reducible apply Upd.ite | with_reducible refine Upd.forAll ?_ (fun _ _ _ => ?_) | with_reducible apply xtoRecord_upd | with_reducible apply compareStore_upd | with_reducible apply fabWrite_upd); try clear_value x) | (have hx : Upd 2238512785489647 s x.2 := (by unfold x; repeat' first | with_reducible assumption | (guard_target =~ (_ ||| _ : Nat) = _; decide) | with_reducible apply Upd.ite | with_reducible refine Upd.forAll ?_ (fun _ _ _ => ?_) | with_reducible apply xtoRecord_upd | with_reducible apply compareStore_upd | with_reducible apply fabWrite_upd); try clear_value x) | (have h9 : (x : Peak) = x := rfl; clear h9) | (have h9 : (x : Saddle) = x := rfl; clear h9) | (have h9 : (x : Pair) = x := rfl; clear h9) | (have h9 : (x : Leg) = x := rfl; clear h9) | clear_value x | skip) | with_reducible apply Upd.ite | with_reducible refine Upd.forAll ?_ (fun _ _ _ => ?_) | with_reducible apply xtoRecord_upd | with_reducible apply compareStore_upd | with_reducible apply fabWrite_upd

theorem execShadowStoreHandshake_upd (k : CoreSel) (s : State) {t : State} (hX : execShadowStoreHandshake k s = .next t) : Upd 2238512785489647 s t := by
  unfold execShadowStoreHandshake at hX
  cases hX
  have h0 := Upd.refl 2238512785489647 s
  repeat' first | with_reducible assumption | (guard_target =~ (_ ||| _ : Nat) = _; decide) | (fail_if_no_progress extract_lets +onlyGivenNames x; first | (have hx : Upd 2238512785489647 s x := (by unfold x; repeat' first | with_reducible assumption | (guard_target =~ (_ ||| _ : Nat) = _; decide) | with_reducible apply Upd.ite | with_reducible apply State.setCore_upd | with_reducible apply shadowHandshake_upd | split); try clear_value x) | (have h9 : (x : Peak) = x := rfl; clear h9) | (have h9 : (x : Saddle) = x := rfl; clear h9) | (have h9 : (x : Pair) = x := rfl; clear h9) | (have h9 : (x : Leg) = x := rfl; clear h9) | clear_value x | skip) | with_reducible apply Upd.ite | with_reducible apply State.setCore_upd | with_reducible apply shadowHandshake_upd | split

theorem localRead_upd {M0 : Nat} {s0 : State} {k : CoreSel} {idx : Nat} {s : State} (hU : Upd M0 s0 s) (hM : 4 ||| M0 = M0) : Upd M0 s0 (localRead k idx s).2 := by
  refine Upd.step hU ?_ hM
  clear hU hM
  unfold localRead
  have h0 := Upd.refl 4 s
  repeat' first | with_reducible assumption | (guard_target =~ (_ ||| _ : Nat) = _; decide) | (fail_if_no_progress extract_lets +onlyGivenNames x; first | (have hx : Upd 4 s x := (by unfold x; repeat' first | with_reducible assumption | (guard_target =~ (_ ||| _ : Nat) = _; decide) | with_reducible apply State.setCore_upd | split); try clear_value x) | (have hx : Upd 4 s x.2 := (by unfold x; repeat' first | with_reducible assumption | (guard_target =~ (_ ||| _ : Nat) = _; decide) | with_reducible apply State.setCore_upd | split); try clear_value x) | (have h9 : (x : Peak) = x := rfl; clear h9) | (have h9 : (x : Saddle) = x := rfl; clear h9) | (have h9 : (x : Pair) = x := rfl; clear h9) | (have h9 : (x : Leg) = x := rfl; clear h9) | clear_value x | skip) | with_reducible apply State.setCore_upd | split

theorem unitRead_upd {M0 : Nat} {s0 : State} {k : CoreSel} {u : XUnit} {idx : Nat} {s : State} (hU : Upd M0 s0 s) (hM : 1092948917764237 ||| M0 = M0) : Upd M0 s0 (unitRead k u idx s).2 := by
  refine Upd.step hU ?_ hM
  clear hU hM
  unfold unitRead
  have h0 := Upd.refl 1092948917764237 s
  repeat' first | with_reducible assumption | (guard_target =~ (_ ||| _ : Nat) = _; decide) | with_reducible apply localRead_upd | with_reducible apply readWord_upd | split

theorem xcRead_upd {M0 : Nat} {s0 : State} {x : Slot} {uf : Fin 32} {idx : BitVec 12} {reg : Fin 32} {qd : Fin 4} {s : State} (hU : Upd M0 s0 s) (hM : 1092957524476045 ||| M0 = M0) : Upd M0 s0 (xcRead x uf idx reg qd s) := by
  refine Upd.step hU ?_ hM
  clear hU hM
  unfold xcRead
  have h0 := Upd.refl 1092957524476045 s
  repeat' first | with_reducible assumption | (guard_target =~ (_ ||| _ : Nat) = _; decide) | (fail_if_no_progress extract_lets +onlyGivenNames x; first | (have hx : Upd 1092957524476045 s x := (by unfold x; repeat' first | with_reducible assumption | (guard_target =~ (_ ||| _ : Nat) = _; decide) | with_reducible apply Upd.ite | with_reducible refine fetched_upd ?_ (fun _ _ => ?_) ?_ | with_reducible apply passCore_upd | with_reducible apply coreFault_upd | with_reducible apply State.setCore_upd | with_reducible apply unitRead_upd); try clear_value x) | (have hx : Upd 1092957524476045 s x.2 := (by unfold x; repeat' first | with_reducible assumption | (guard_target =~ (_ ||| _ : Nat) = _; decide) | with_reducible apply Upd.ite | with_reducible refine fetched_upd ?_ (fun _ _ => ?_) ?_ | with_reducible apply passCore_upd | with_reducible apply coreFault_upd | with_reducible apply State.setCore_upd | with_reducible apply unitRead_upd); try clear_value x) | (have h9 : (x : Peak) = x := rfl; clear h9) | (have h9 : (x : Saddle) = x := rfl; clear h9) | (have h9 : (x : Pair) = x := rfl; clear h9) | (have h9 : (x : Leg) = x := rfl; clear h9) | clear_value x | skip) | with_reducible apply Upd.ite | with_reducible refine fetched_upd ?_ (fun _ _ => ?_) ?_ | with_reducible apply passCore_upd | with_reducible apply coreFault_upd | with_reducible apply State.setCore_upd | with_reducible apply unitRead_upd

theorem xcVector_upd {M0 : Nat} {s0 : State} {x : Slot} {uf : Fin 32} {idx : BitVec 12} {reg : Fin 32} {qd : Fin 4} {s : State} (hU : Upd M0 s0 s) (hM : 248532594327565 ||| M0 = M0) : Upd M0 s0 (xcVector x uf idx reg qd s) := by
  refine Upd.step hU ?_ hM
  clear hU hM
  unfold xcVector
  have h0 := Upd.refl 248532594327565 s
  repeat' first | with_reducible assumption | (guard_target =~ (_ ||| _ : Nat) = _; decide) | with_reducible apply h90 | with_reducible apply h91 | with_reducible apply h92 | with_reducible apply h93 | with_reducible apply h94 | (fail_if_no_progress extract_lets +onlyGivenNames x; first | (have hx : Upd 248532594327565 s x := (by unfold x; repeat' first | with_reducible assumption | (guard_target =~ (_ ||| _ : Nat) = _; decide) | with_reducible apply h90 | with_reducible apply h91 | with_reducible apply h92 | with_reducible apply h93 | with_reducible apply h94 | with_reducible apply Upd.ite | with_reducible refine fetched_upd ?_ (fun _ _ => ?_) ?_ | with_reducible apply passCore_upd | with_reducible apply coreFault_upd | with_reducible apply State.setCore_upd); try clear_value x) | (have h9 : (x : Peak) = x := rfl; clear h9) | (have h9 : (x : Saddle) = x := rfl; clear h9) | (have h9 : (x : Pair) = x := rfl; clear h9) | (have h9 : (x : Leg) = x := rfl; clear h9) | (have h90 : ∀  t, Upd 248532594327565 s t → Upd 248532594327565 s (x  t) := (by intro  t ht; unfold x; repeat' first | with_reducible assumption | (guard_target =~ (_ ||| _ : Nat) = _; decide) | with_reducible apply h90 | with_reducible apply h91 | with_reducible apply h92 | with_reducible apply h93 | with_reducible apply h94 | with_reducible apply Upd.ite | with_reducible refine fetched_upd ?_ (fun _ _ => ?_) ?_ | with_reducible apply passCore_upd | with_reducible apply coreFault_upd | with_reducible apply State.setCore_upd); try clear_value x) | (have h91 : ∀ a0 t, Upd 248532594327565 s t → Upd 248532594327565 s (x a0 t) := (by intro a0 t ht; unfold x; repeat' first | with_reducible assumption | (guard_target =~ (_ ||| _ : Nat) = _; decide) | with_reducible apply h90 | with_reducible apply h91 | with_reducible apply h92 | with_reducible apply h93 | with_reducible apply h94 | with_reducible apply Upd.ite | with_reducible refine fetched_upd ?_ (fun _ _ => ?_) ?_ | with_reducible apply passCore_upd | with_reducible apply coreFault_upd | with_reducible apply State.setCore_upd); try clear_value x) | (have h92 : ∀ a0 a1 t, Upd 248532594327565 s t → Upd 248532594327565 s (x a0 a1 t) := (by intro a0 a1 t ht; unfold x; repeat' first | with_reducible assumption | (guard_target =~ (_ ||| _ : Nat) = _; decide) | with_reducible apply h90 | with_reducible apply h91 | with_reducible apply h92 | with_reducible apply h93 | with_reducible apply h94 | with_reducible apply Upd.ite | with_reducible refine fetched_upd ?_ (fun _ _ => ?_) ?_ | with_reducible apply passCore_upd | with_reducible apply coreFault_upd | with_reducible apply State.setCore_upd); try clear_value x) | (have h93 : ∀ a0 a1 a2 t, Upd 248532594327565 s t → Upd 248532594327565 s (x a0 a1 a2 t) := (by intro a0 a1 a2 t ht; unfold x; repeat' first | with_reducible assumption | (guard_target =~ (_ ||| _ : Nat) = _; decide) | with_reducible apply h90 | with_reducible apply h91 | with_reducible apply h92 | with_reducible apply h93 | with_reducible apply h94 | with_reducible apply Upd.ite | with_reducible refine fetched_upd ?_ (fun _ _ => ?_) ?_ | with_reducible apply passCore_upd | with_reducible apply coreFault_upd | with_reducible apply State.setCore_upd); try clear_value x) | (have h94 : ∀ a0 a1 a2 a3 t, Upd 248532594327565 s t → Upd 248532594327565 s (x a0 a1 a2 a3 t) := (by intro a0 a1 a2 a3 t ht; unfold x; repeat' first | with_reducible assumption | (guard_target =~ (_ ||| _ : Nat) = _; decide) | with_reducible apply h90 | with_reducible apply h91 | with_reducible apply h92 | with_reducible apply h93 | with_reducible apply h94 | with_reducible apply Upd.ite | with_reducible refine fetched_upd ?_ (fun _ _ => ?_) ?_ | with_reducible apply passCore_upd | with_reducible apply coreFault_upd | with_reducible apply State.setCore_upd); try clear_value x) | clear_value x | skip) | with_reducible apply Upd.ite | with_reducible refine fetched_upd ?_ (fun _ _ => ?_) ?_ | with_reducible apply passCore_upd | with_reducible apply coreFault_upd | with_reducible apply State.setCore_upd

theorem xcWrite_upd {M0 : Nat} {s0 : State} {x : Slot} {uf : Fin 32} {idx : BitVec 12} {reg : Fin 32} {s : State} (hU : Upd M0 s0 s) (hM : 2238512785489647 ||| M0 = M0) : Upd M0 s0 (xcWrite x uf idx reg s) := by
  refine Upd.step hU ?_ hM
  clear hU hM
  unfold xcWrite
  have h0 := Upd.refl 2238512785489647 s
  repeat' first | with_reducible assumption | (guard_target =~ (_ ||| _ : Nat) = _; decide) | (fail_if_no_progress extract_lets +onlyGivenNames x; first | (have hx : Upd 2238512785489647 s x := (by unfold x; repeat' first | with_reducible assumption | (guard_target =~ (_ ||| _ : Nat) = _; decide) | with_reducible apply Upd.ite | with_reducible refine fetched_upd ?_ (fun _ _ => ?_) ?_ | with_reducible apply passCore_upd | with_reducible apply coreFault_upd | with_reducible apply State.setCore_upd | with_reducible apply writeWord_upd | split); try clear_value x) | (have h9 : (x : Peak) = x := rfl; clear h9) | (have h9 : (x : Saddle) = x := rfl; clear h9) | (have h9 : (x : Pair) = x := rfl; clear h9) | (have h9 : (x : Leg) = x := rfl; clear h9) | clear_value x | skip) | with_reducible apply Upd.ite | with_reducible refine fetched_upd ?_ (fun _ _ => ?_) ?_ | with_reducible apply passCore_upd | with_reducible apply coreFault_upd | with_reducible apply State.setCore_upd | with_reducible apply writeWord_upd | split

theorem xcStep_upd {M0 : Nat} {s0 : State} {x : Slot} {uf : Fin 32} {idx : BitVec 12} {s : State} (hU : Upd M0 s0 s) (hM : 250456739676173 ||| M0 = M0) : Upd M0 s0 (xcStep x uf idx s) := by
  refine Upd.step hU ?_ hM
  clear hU hM
  unfold xcStep
  have h0 := Upd.refl 250456739676173 s
  repeat' first | with_reducible assumption | (guard_target =~ (_ ||| _ : Nat) = _; decide) | with_reducible apply h90 | with_reducible apply h91 | with_reducible apply h92 | with_reducible apply h93 | with_reducible apply h94 | (fail_if_no_progress extract_lets +onlyGivenNames x; first | (have hx : Upd 250456739676173 s x := (by unfold x; repeat' first | with_reducible assumption | (guard_target =~ (_ ||| _ : Nat) = _; decide) | with_reducible apply h90 | with_reducible apply h91 | with_reducible apply h92 | with_reducible apply h93 | with_reducible apply h94 | with_reducible apply Upd.ite | with_reducible refine fetched_upd ?_ (fun _ _ => ?_) ?_ | with_reducible apply passCore_upd | with_reducible apply coreFault_upd | with_reducible apply State.setCore_upd | with_reducible apply rdgStart_upd | with_reducible apply swbStart_upd | split); try clear_value x) | (have h9 : (x : Peak) = x := rfl; clear h9) | (have h9 : (x : Saddle) = x := rfl; clear h9) | (have h9 : (x : Pair) = x := rfl; clear h9) | (have h9 : (x : Leg) = x := rfl; clear h9) | (have h90 : ∀  t, Upd 250456739676173 s t → Upd 250456739676173 s (x  t) := (by intro  t ht; unfold x; repeat' first | with_reducible assumption | (guard_target =~ (_ ||| _ : Nat) = _; decide) | with_reducible apply h90 | with_reducible apply h91 | with_reducible apply h92 | with_reducible apply h93 | with_reducible apply h94 | with_reducible apply Upd.ite | with_reducible refine fetched_upd ?_ (fun _ _ => ?_) ?_ | with_reducible apply passCore_upd | with_reducible apply coreFault_upd | with_reducible apply State.setCore_upd | with_reducible apply rdgStart_upd | with_reducible apply swbStart_upd | split); try clear_value x) | (have h91 : ∀ a0 t, Upd 250456739676173 s t → Upd 250456739676173 s (x a0 t) := (by intro a0 t ht; unfold x; repeat' first | with_reducible assumption | (guard_target =~ (_ ||| _ : Nat) = _; decide) | with_reducible apply h90 | with_reducible apply h91 | with_reducible apply h92 | with_reducible apply h93 | with_reducible apply h94 | with_reducible apply Upd.ite | with_reducible refine fetched_upd ?_ (fun _ _ => ?_) ?_ | with_reducible apply passCore_upd | with_reducible apply coreFault_upd | with_reducible apply State.setCore_upd | with_reducible apply rdgStart_upd | with_reducible apply swbStart_upd | split); try clear_value x) | (have h92 : ∀ a0 a1 t, Upd 250456739676173 s t → Upd 250456739676173 s (x a0 a1 t) := (by intro a0 a1 t ht; unfold x; repeat' first | with_reducible assumption | (guard_target =~ (_ ||| _ : Nat) = _; decide) | with_reducible apply h90 | with_reducible apply h91 | with_reducible apply h92 | with_reducible apply h93 | with_reducible apply h94 | with_reducible apply Upd.ite | with_reducible refine fetched_upd ?_ (fun _ _ => ?_) ?_ | with_reducible apply passCore_upd | with_reducible apply coreFault_upd | with_reducible apply State.setCore_upd | with_reducible apply rdgStart_upd | with_reducible apply swbStart_upd | split); try clear_value x) | (have h93 : ∀ a0 a1 a2 t, Upd 250456739676173 s t → Upd 250456739676173 s (x a0 a1 a2 t) := (by intro a0 a1 a2 t ht; unfold x; repeat' first | with_reducible assumption | (guard_target =~ (_ ||| _ : Nat) = _; decide) | with_reducible apply h90 | with_reducible apply h91 | with_reducible apply h92 | with_reducible apply h93 | with_reducible apply h94 | with_reducible apply Upd.ite | with_reducible refine fetched_upd ?_ (fun _ _ => ?_) ?_ | with_reducible apply passCore_upd | with_reducible apply coreFault_upd | with_reducible apply State.setCore_upd | with_reducible apply rdgStart_upd | with_reducible apply swbStart_upd | split); try clear_value x) | (have h94 : ∀ a0 a1 a2 a3 t, Upd 250456739676173 s t → Upd 250456739676173 s (x a0 a1 a2 a3 t) := (by intro a0 a1 a2 a3 t ht; unfold x; repeat' first | with_reducible assumption | (guard_target =~ (_ ||| _ : Nat) = _; decide) | with_reducible apply h90 | with_reducible apply h91 | with_reducible apply h92 | with_reducible apply h93 | with_reducible apply h94 | with_reducible apply Upd.ite | with_reducible refine fetched_upd ?_ (fun _ _ => ?_) ?_ | with_reducible apply passCore_upd | with_reducible apply coreFault_upd | with_reducible apply State.setCore_upd | with_reducible apply rdgStart_upd | with_reducible apply swbStart_upd | split); try clear_value x) | clear_value x | skip) | with_reducible apply Upd.ite | with_reducible refine fetched_upd ?_ (fun _ _ => ?_) ?_ | with_reducible apply passCore_upd | with_reducible apply coreFault_upd | with_reducible apply State.setCore_upd | with_reducible apply rdgStart_upd | with_reducible apply swbStart_upd | split

theorem execXcr_upd (x : Slot) (u : Fin 32) (idx : BitVec 12) (reg : Fin 32) (qd : Fin 4) (s : State) {t : State} (hX : execXcr x u idx reg qd s = .next t) : Upd 1092957524476045 s t := by
  unfold execXcr at hX
  cases hX
  have h0 := Upd.refl 1092957524476045 s
  repeat' first | with_reducible assumption | (guard_target =~ (_ ||| _ : Nat) = _; decide) | with_reducible apply xcRead_upd

theorem execXcv_upd (x : Slot) (u : Fin 32) (idx : BitVec 12) (reg : Fin 8) (qd : Fin 4) (s : State) {t : State} (hX : execXcv x u idx reg qd s = .next t) : Upd 248532594327565 s t := by
  unfold execXcv at hX
  cases hX
  have h0 := Upd.refl 248532594327565 s
  repeat' first | with_reducible assumption | (guard_target =~ (_ ||| _ : Nat) = _; decide) | with_reducible apply xcVector_upd

theorem execXcw_upd (x : Slot) (u : Fin 32) (idx : BitVec 12) (reg : Fin 32) (s : State) {t : State} (hX : execXcw x u idx reg s = .next t) : Upd 2238512785489647 s t := by
  unfold execXcw at hX
  cases hX
  have h0 := Upd.refl 2238512785489647 s
  repeat' first | with_reducible assumption | (guard_target =~ (_ ||| _ : Nat) = _; decide) | with_reducible apply xcWrite_upd

theorem execXcs_upd (x : Slot) (u : Fin 32) (idx : BitVec 12) (s : State) {t : State} (hX : execXcs x u idx s = .next t) : Upd 250456739676173 s t := by
  unfold execXcs at hX
  cases hX
  have h0 := Upd.refl 250456739676173 s
  repeat' first | with_reducible assumption | (guard_target =~ (_ ||| _ : Nat) = _; decide) | with_reducible apply xcStep_upd

end Sys2Proof.Machine
end

