-- ==== Sys2Proof/Laws/UpdDmaRun.lean ====
section
/-! SUPPORT. What each operation of Machine/DmaRun.lean may change. -/

set_option linter.unusedTactic false
set_option linter.unreachableTactic false

namespace Sys2Proof.Machine

theorem dmaHalt_upd {M0 : Nat} {s0 : State} {p : PeakId} {c : Nat} {s : State} (hU : Upd M0 s0 s) (hM : 266116173660173 ||| M0 = M0) : Upd M0 s0 (dmaHalt p c s) := by
  refine Upd.step hU ?_ hM
  clear hU hM
  unfold dmaHalt
  have h0 := Upd.refl 266116173660173 s
  repeat' first | with_reducible assumption | (guard_target =~ (_ ||| _ : Nat) = _; decide) | (fail_if_no_progress extract_lets +onlyGivenNames x; first | (have hx : Upd 266116173660173 s x := (by unfold x; repeat' first | with_reducible assumption | (guard_target =~ (_ ||| _ : Nat) = _; decide) | with_reducible apply Upd.ite | with_reducible apply State.setReg_upd | with_reducible apply dmaFlag_upd | with_reducible apply dmaStop_upd | with_reducible apply fire_upd | with_reducible apply dmaRefresh_upd | with_reducible apply State.setBit_upd); try clear_value x) | (have h9 : (x : Peak) = x := rfl; clear h9) | (have h9 : (x : Saddle) = x := rfl; clear h9) | (have h9 : (x : Pair) = x := rfl; clear h9) | (have h9 : (x : Leg) = x := rfl; clear h9) | clear_value x | skip) | with_reducible apply Upd.ite | with_reducible apply State.setReg_upd | with_reducible apply dmaFlag_upd | with_reducible apply dmaStop_upd | with_reducible apply fire_upd | with_reducible apply dmaRefresh_upd | with_reducible apply State.setBit_upd

theorem dmaFail_upd {M0 : Nat} {s0 : State} {p : PeakId} {c : Nat} {addr : Nat} {write : Bool} {s : State} (hU : Upd M0 s0 s) (hM : 266116173660173 ||| M0 = M0) : Upd M0 s0 (dmaFail p c addr write s) := by
  refine Upd.step hU ?_ hM
  clear hU hM
  unfold dmaFail
  have h0 := Upd.refl 266116173660173 s
  repeat' first | with_reducible assumption | (guard_target =~ (_ ||| _ : Nat) = _; decide) | (fail_if_no_progress extract_lets +onlyGivenNames x; first | (have hx : Upd 266116173660173 s x := (by unfold x; repeat' first | with_reducible assumption | (guard_target =~ (_ ||| _ : Nat) = _; decide) | with_reducible apply Upd.ite | with_reducible apply dmaHalt_upd | with_reducible apply State.setDch_upd); try clear_value x) | (have h9 : (x : Peak) = x := rfl; clear h9) | (have h9 : (x : Saddle) = x := rfl; clear h9) | (have h9 : (x : Pair) = x := rfl; clear h9) | (have h9 : (x : Leg) = x := rfl; clear h9) | clear_value x | skip) | with_reducible apply Upd.ite | with_reducible apply dmaHalt_upd | with_reducible apply State.setDch_upd

theorem dmaReturn_upd {M0 : Nat} {s0 : State} {p : PeakId} {c : Nat} {s : State} (hU : Upd M0 s0 s) (hM : 1110541103808653 ||| M0 = M0) : Upd M0 s0 (dmaReturn p c s) := by
  refine Upd.step hU ?_ hM
  clear hU hM
  unfold dmaReturn
  have h0 := Upd.refl 1110541103808653 s
  repeat' first | with_reducible assumption | (guard_target =~ (_ ||| _ : Nat) = _; decide) | (fail_if_no_progress extract_lets +onlyGivenNames x; first | (have hx : Upd 1110541103808653 s x := (by unfold x; repeat' first | with_reducible assumption | (guard_target =~ (_ ||| _ : Nat) = _; decide) | with_reducible apply Upd.ite | with_reducible apply dmaHalt_upd | with_reducible apply State.setDch_upd | with_reducible apply dmaFail_upd | with_reducible apply unmappedAt_upd | with_reducible apply fabRead_upd | with_reducible apply dmaReads_upd | split); try clear_value x) | (have hx : Upd 1110541103808653 s x.2 := (by unfold x; repeat' first | with_reducible assumption | (guard_target =~ (_ ||| _ : Nat) = _; decide) | with_reducible apply Upd.ite | with_reducible apply dmaHalt_upd | with_reducible apply State.setDch_upd | with_reducible apply dmaFail_upd | with_reducible apply unmappedAt_upd | with_reducible apply fabRead_upd | with_reducible apply dmaReads_upd | split); try clear_value x) | (have h9 : (x : Peak) = x := rfl; clear h9) | (have h9 : (x : Saddle) = x := rfl; clear h9) | (have h9 : (x : Pair) = x := rfl; clear h9) | (have h9 : (x : Leg) = x := rfl; clear h9) | clear_value x | skip) | with_reducible apply Upd.ite | with_reducible apply dmaHalt_upd | with_reducible apply State.setDch_upd | with_reducible apply dmaFail_upd | with_reducible apply unmappedAt_upd | with_reducible apply fabRead_upd | with_reducible apply dmaReads_upd | split

theorem dmaAdvance_upd {M0 : Nat} {s0 : State} {p : PeakId} {c : Nat} {n : Nat} {s : State} (hU : Upd M0 s0 s) (hM : 1 ||| M0 = M0) : Upd M0 s0 (dmaAdvance p c n s) := by
  refine Upd.step hU ?_ hM
  clear hU hM
  unfold dmaAdvance
  have h0 := Upd.refl 1 s
  repeat' first | with_reducible assumption | (guard_target =~ (_ ||| _ : Nat) = _; decide) | (fail_if_no_progress extract_lets +onlyGivenNames x; first | (have hx : Upd 1 s x := (by unfold x; repeat' first | with_reducible assumption | (guard_target =~ (_ ||| _ : Nat) = _; decide) | with_reducible apply Upd.ite | with_reducible apply State.setReg_upd | with_reducible apply State.setFld_upd); try clear_value x) | (have h9 : (x : Peak) = x := rfl; clear h9) | (have h9 : (x : Saddle) = x := rfl; clear h9) | (have h9 : (x : Pair) = x := rfl; clear h9) | (have h9 : (x : Leg) = x := rfl; clear h9) | clear_value x | skip) | with_reducible apply Upd.ite | with_reducible apply State.setReg_upd | with_reducible apply State.setFld_upd

theorem dmaComplete_upd {M0 : Nat} {s0 : State} {p : PeakId} {c : Nat} {s : State} (hU : Upd M0 s0 s) (hM : 266116173660173 ||| M0 = M0) : Upd M0 s0 (dmaComplete p c s) := by
  refine Upd.step hU ?_ hM
  clear hU hM
  unfold dmaComplete
  have h0 := Upd.refl 266116173660173 s
  repeat' first | with_reducible assumption | (guard_target =~ (_ ||| _ : Nat) = _; decide) | (fail_if_no_progress extract_lets +onlyGivenNames x; first | (have hx : Upd 266116173660173 s x := (by unfold x; repeat' first | with_reducible assumption | (guard_target =~ (_ ||| _ : Nat) = _; decide) | with_reducible apply Upd.ite | with_reducible apply dmaBegin_upd | with_reducible apply dmaTake_upd | with_reducible apply dmaStop_upd | with_reducible apply State.setFld_upd | with_reducible apply State.setDch_upd | with_reducible apply fire_upd); try clear_value x) | (have h9 : (x : Peak) = x := rfl; clear h9) | (have h9 : (x : Saddle) = x := rfl; clear h9) | (have h9 : (x : Pair) = x := rfl; clear h9) | (have h9 : (x : Leg) = x := rfl; clear h9) | clear_value x | skip) | with_reducible apply Upd.ite | with_reducible apply dmaBegin_upd | with_reducible apply dmaTake_upd | with_reducible apply dmaStop_upd | with_reducible apply State.setFld_upd | with_reducible apply State.setDch_upd | with_reducible apply fire_upd

theorem dmaWritten_upd {M0 : Nat} {s0 : State} {p : PeakId} {c : Nat} {s : State} (hU : Upd M0 s0 s) (hM : 2238512785489647 ||| M0 = M0) : Upd M0 s0 (dmaWritten p c s) := by
  refine Upd.step hU ?_ hM
  clear hU hM
  unfold dmaWritten
  have h0 := Upd.refl 2238512785489647 s
  repeat' first | with_reducible assumption | (guard_target =~ (_ ||| _ : Nat) = _; decide) | (fail_if_no_progress extract_lets +onlyGivenNames x; first | (have hx : Upd 2238512785489647 s x := (by unfold x; repeat' first | with_reducible assumption | (guard_target =~ (_ ||| _ : Nat) = _; decide) | with_reducible apply Upd.ite | with_reducible apply dmaFail_upd | with_reducible apply unmappedAt_upd | with_reducible apply fabWrite_upd | with_reducible apply obsCount_upd | with_reducible apply dmaAdvance_upd | with_reducible apply State.setDch_upd | with_reducible apply dmaHalt_upd | with_reducible apply dmaComplete_upd | with_reducible apply dmaReads_upd); try clear_value x) | (have h9 : (x : Peak) = x := rfl; clear h9) | (have h9 : (x : Saddle) = x := rfl; clear h9) | (have h9 : (x : Pair) = x := rfl; clear h9) | (have h9 : (x : Leg) = x := rfl; clear h9) | clear_value x | skip) | with_reducible apply Upd.ite | with_reducible apply dmaFail_upd | with_reducible apply unmappedAt_upd | with_reducible apply fabWrite_upd | with_reducible apply obsCount_upd | with_reducible apply dmaAdvance_upd | with_reducible apply State.setDch_upd | with_reducible apply dmaHalt_upd | with_reducible apply dmaComplete_upd | with_reducible apply dmaReads_upd

theorem dmaTimeout_upd {M0 : Nat} {s0 : State} {p : PeakId} {c : Nat} {write : Bool} {s : State} (hU : Upd M0 s0 s) (hM : 266116173660173 ||| M0 = M0) : Upd M0 s0 (dmaTimeout p c write s) := by
  refine Upd.step hU ?_ hM
  clear hU hM
  unfold dmaTimeout
  have h0 := Upd.refl 266116173660173 s
  repeat' first | with_reducible assumption | (guard_target =~ (_ ||| _ : Nat) = _; decide) | (fail_if_no_progress extract_lets +onlyGivenNames x; first | (have hx : Upd 266116173660173 s x := (by unfold x; repeat' first | with_reducible assumption | (guard_target =~ (_ ||| _ : Nat) = _; decide) | with_reducible apply Upd.ite | with_reducible apply dmaHalt_upd | with_reducible apply State.setDch_upd | with_reducible apply dmaFail_upd | split); try clear_value x) | (have h9 : (x : Peak) = x := rfl; clear h9) | (have h9 : (x : Saddle) = x := rfl; clear h9) | (have h9 : (x : Pair) = x := rfl; clear h9) | (have h9 : (x : Leg) = x := rfl; clear h9) | clear_value x | skip) | with_reducible apply Upd.ite | with_reducible apply dmaHalt_upd | with_reducible apply State.setDch_upd | with_reducible apply dmaFail_upd | split

theorem execDmaReadReturn_upd (p : PeakId) (ch : Fin 16) (s : State) {t : State} (hX : execDmaReadReturn p ch s = .next t) : Upd 1110541103808653 s t := by
  unfold execDmaReadReturn at hX
  cases hX
  have h0 := Upd.refl 1110541103808653 s
  repeat' first | with_reducible assumption | (guard_target =~ (_ ||| _ : Nat) = _; decide) | with_reducible apply Upd.ite | with_reducible apply dmaReturn_upd

theorem execDmaWriteComplete_upd (p : PeakId) (ch : Fin 16) (s : State) {t : State} (hX : execDmaWriteComplete p ch s = .next t) : Upd 2238512785489647 s t := by
  unfold execDmaWriteComplete at hX
  cases hX
  have h0 := Upd.refl 2238512785489647 s
  repeat' first | with_reducible assumption | (guard_target =~ (_ ||| _ : Nat) = _; decide) | with_reducible apply Upd.ite | with_reducible apply dmaWritten_upd

theorem execDmaAccessTimeout_upd (p : PeakId) (ch : Fin 16) (write : Bool) (s : State) {t : State} (hX : execDmaAccessTimeout p ch write s = .next t) : Upd 266116173660173 s t := by
  unfold execDmaAccessTimeout at hX
  cases hX
  have h0 := Upd.refl 266116173660173 s
  repeat' first | with_reducible assumption | (guard_target =~ (_ ||| _ : Nat) = _; decide) | with_reducible apply Upd.ite | with_reducible apply dmaTimeout_upd

end Sys2Proof.Machine
end

