-- ==== Sys2Proof/Laws/UpdColPort.lean ====
section
/-! SUPPORT. What each operation of Machine/ColPort.lean may change. -/

set_option linter.unusedTactic false
set_option linter.unreachableTactic false

namespace Sys2Proof.Machine

theorem windowRead_upd {M0 : Nat} {s0 : State} {a : Nat} {s : State} (hU : Upd M0 s0 s) (hM : 1 ||| M0 = M0) : Upd M0 s0 (windowRead a s).2 := by
  refine Upd.step hU ?_ hM
  clear hU hM
  unfold windowRead
  have h0 := Upd.refl 1 s
  repeat' first | with_reducible assumption | (guard_target =~ (_ ||| _ : Nat) = _; decide) | (fail_if_no_progress extract_lets +onlyGivenNames x; first | (have hx : Upd 1 s x := (by unfold x; repeat' first | with_reducible assumption | (guard_target =~ (_ ||| _ : Nat) = _; decide) | with_reducible apply Upd.ite | with_reducible apply Upd.ite_snd | with_reducible apply State.setGwFld_upd | with_reducible apply State.setRegW_upd | with_reducible apply State.reset_upd | split); try clear_value x) | (have hx : Upd 1 s x.2 := (by unfold x; repeat' first | with_reducible assumption | (guard_target =~ (_ ||| _ : Nat) = _; decide) | with_reducible apply Upd.ite | with_reducible apply Upd.ite_snd | with_reducible apply State.setGwFld_upd | with_reducible apply State.setRegW_upd | with_reducible apply State.reset_upd | split); try clear_value x) | (have h9 : (x : Peak) = x := rfl; clear h9) | (have h9 : (x : Saddle) = x := rfl; clear h9) | (have h9 : (x : Pair) = x := rfl; clear h9) | (have h9 : (x : Leg) = x := rfl; clear h9) | clear_value x | skip) | with_reducible apply Upd.ite | with_reducible apply Upd.ite_snd | with_reducible apply State.setGwFld_upd | with_reducible apply State.setRegW_upd | with_reducible apply State.reset_upd | split

theorem gdmCfgWrite_upd {M0 : Nat} {s0 : State} {v : Nat} {s : State} (hU : Upd M0 s0 s) (hM : 1 ||| M0 = M0) : Upd M0 s0 (gdmCfgWrite v s) := by
  refine Upd.step hU ?_ hM
  clear hU hM
  unfold gdmCfgWrite
  have h0 := Upd.refl 1 s
  repeat' first | with_reducible assumption | (guard_target =~ (_ ||| _ : Nat) = _; decide) | (fail_if_no_progress extract_lets +onlyGivenNames x; first | (have hx : Upd 1 s x := (by unfold x; repeat' first | with_reducible assumption | (guard_target =~ (_ ||| _ : Nat) = _; decide) | with_reducible apply Upd.ite | with_reducible apply State.setReg_upd); try clear_value x) | (have h9 : (x : Peak) = x := rfl; clear h9) | (have h9 : (x : Saddle) = x := rfl; clear h9) | (have h9 : (x : Pair) = x := rfl; clear h9) | (have h9 : (x : Leg) = x := rfl; clear h9) | clear_value x | skip) | with_reducible apply Upd.ite | with_reducible apply State.setReg_upd

theorem windowWrite_upd {M0 : Nat} {s0 : State} {a : Nat} {v : Word} {s : State} (hU : Upd M0 s0 s) (hM : 4503598677835343 ||| M0 = M0) : Upd M0 s0 (windowWrite a v s) := by
  refine Upd.step hU ?_ hM
  clear hU hM
  unfold windowWrite
  have h0 := Upd.refl 4503598677835343 s
  repeat' first | with_reducible assumption | (guard_target =~ (_ ||| _ : Nat) = _; decide) | (fail_if_no_progress extract_lets +onlyGivenNames x; first | (have hx : Upd 4503598677835343 s x := (by unfold x; repeat' first | with_reducible assumption | (guard_target =~ (_ ||| _ : Nat) = _; decide) | with_reducible apply Upd.ite | with_reducible apply State.setGwFld_upd | with_reducible apply State.setRegW_upd | with_reducible apply gdmCfgWrite_upd | with_reducible apply gdmCmdWrite_upd | with_reducible apply safCmd_upd | with_reducible apply lcsCmdWrite_upd | with_reducible apply bootData_upd | split | with_reducible apply Upd.lit | exact rfl | exact SadUpd.refl _ _ | with_reducible apply SadUpd.ite | apply SadUpd.mk | exact fun _ => PeakUpd.refl _ _ | exact Or.inl (by decide) | exact Or.inr rfl); try clear_value x) | (have h9 : (x : Peak) = x := rfl; clear h9) | (have h9 : (x : Saddle) = x := rfl; clear h9) | (have h9 : (x : Pair) = x := rfl; clear h9) | (have h9 : (x : Leg) = x := rfl; clear h9) | clear_value x | skip) | with_reducible apply Upd.ite | with_reducible apply State.setGwFld_upd | with_reducible apply State.setRegW_upd | with_reducible apply gdmCfgWrite_upd | with_reducible apply gdmCmdWrite_upd | with_reducible apply safCmd_upd | with_reducible apply lcsCmdWrite_upd | with_reducible apply bootData_upd | split | with_reducible apply Upd.lit | exact rfl | exact SadUpd.refl _ _ | with_reducible apply SadUpd.ite | apply SadUpd.mk | exact fun _ => PeakUpd.refl _ _ | exact Or.inl (by decide) | exact Or.inr rfl

theorem countFrame_upd {M0 : Nat} {s0 : State} {h : Word} {s : State} (hU : Upd M0 s0 s) (hM : 35184372088833 ||| M0 = M0) : Upd M0 s0 (countFrame h s) := by
  refine Upd.step hU ?_ hM
  clear hU hM
  unfold countFrame
  have h0 := Upd.refl 35184372088833 s
  repeat' first | with_reducible assumption | (guard_target =~ (_ ||| _ : Nat) = _; decide) | (fail_if_no_progress extract_lets +onlyGivenNames x; first | (have hx : Upd 35184372088833 s x := (by unfold x; repeat' first | with_reducible assumption | (guard_target =~ (_ ||| _ : Nat) = _; decide) | with_reducible apply Upd.ite | with_reducible apply State.gwBump_upd | with_reducible apply obsCount_upd); try clear_value x) | (have h9 : (x : Peak) = x := rfl; clear h9) | (have h9 : (x : Saddle) = x := rfl; clear h9) | (have h9 : (x : Pair) = x := rfl; clear h9) | (have h9 : (x : Leg) = x := rfl; clear h9) | clear_value x | skip) | with_reducible apply Upd.ite | with_reducible apply State.gwBump_upd | with_reducible apply obsCount_upd

theorem colFinal_upd {M0 : Nat} {s0 : State} {h : Word} {words : Nat} {result : Nat} {s : State} (hU : Upd M0 s0 s) (hM : 35184506306561 ||| M0 = M0) : Upd M0 s0 (colFinal h words result s) := by
  refine Upd.step hU ?_ hM
  clear hU hM
  unfold colFinal
  have h0 := Upd.refl 35184506306561 s
  repeat' first | with_reducible assumption | (guard_target =~ (_ ||| _ : Nat) = _; decide) | (fail_if_no_progress extract_lets +onlyGivenNames x; first | (have hx : Upd 35184506306561 s x := (by unfold x; repeat' first | with_reducible assumption | (guard_target =~ (_ ||| _ : Nat) = _; decide) | with_reducible apply Upd.ite | with_reducible apply State.gwBump_upd | with_reducible apply obsCount_upd | with_reducible apply Upd.lit | exact rfl | exact SadUpd.refl _ _ | with_reducible apply SadUpd.ite | apply SadUpd.mk | exact fun _ => PeakUpd.refl _ _ | exact Or.inl (by decide) | exact Or.inr rfl); try clear_value x) | (have h9 : (x : Peak) = x := rfl; clear h9) | (have h9 : (x : Saddle) = x := rfl; clear h9) | (have h9 : (x : Pair) = x := rfl; clear h9) | (have h9 : (x : Leg) = x := rfl; clear h9) | clear_value x | skip) | with_reducible apply Upd.ite | with_reducible apply State.gwBump_upd | with_reducible apply obsCount_upd | with_reducible apply Upd.lit | exact rfl | exact SadUpd.refl _ _ | with_reducible apply SadUpd.ite | apply SadUpd.mk | exact fun _ => PeakUpd.refl _ _ | exact Or.inl (by decide) | exact Or.inr rfl

theorem writeFrame_upd {M0 : Nat} {s0 : State} {h : Word} {addr : Word} {data : List Word} {crc : BitVec 16} {cut : Bool} {s : State} (hU : Upd M0 s0 s) (hM : 35184506306561 ||| M0 = M0) : Upd M0 s0 (writeFrame h addr data crc cut s) := by
  refine Upd.step hU ?_ hM
  clear hU hM
  unfold writeFrame
  have h0 := Upd.refl 35184506306561 s
  repeat' first | with_reducible assumption | (guard_target =~ (_ ||| _ : Nat) = _; decide) | (fail_if_no_progress extract_lets +onlyGivenNames x; first | (have hx : Upd 35184506306561 s x := (by unfold x; repeat' first | with_reducible assumption | (guard_target =~ (_ ||| _ : Nat) = _; decide) | with_reducible apply Upd.ite | with_reducible apply countFrame_upd | with_reducible apply colFinal_upd | with_reducible apply Upd.lit | exact rfl | exact SadUpd.refl _ _ | with_reducible apply SadUpd.ite | apply SadUpd.mk | exact fun _ => PeakUpd.refl _ _ | exact Or.inl (by decide) | exact Or.inr rfl); try clear_value x) | (have h9 : (x : Peak) = x := rfl; clear h9) | (have h9 : (x : Saddle) = x := rfl; clear h9) | (have h9 : (x : Pair) = x := rfl; clear h9) | (have h9 : (x : Leg) = x := rfl; clear h9) | clear_value x | skip) | with_reducible apply Upd.ite | with_reducible apply countFrame_upd | with_reducible apply colFinal_upd | with_reducible apply Upd.lit | exact rfl | exact SadUpd.refl _ _ | with_reducible apply SadUpd.ite | apply SadUpd.mk | exact fun _ => PeakUpd.refl _ _ | exact Or.inl (by decide) | exact Or.inr rfl

theorem performWrites_upd {M0 : Nat} {s0 : State} {h : Word} {y0 : List (Nat × Word)} {y1 : Nat} {y2 : State} (hU : Upd M0 s0 y2) (hM : 4503599080505071 ||| M0 = M0) : Upd M0 s0 (performWrites h y0 y1 y2).2 := by
  refine Upd.step hU ?_ hM
  clear hU hM
  induction y0 generalizing y1 y2 with
  | nil =>
    unfold performWrites
    have h0 := Upd.refl 4503599080505071 y2
    repeat' first | with_reducible assumption | (guard_target =~ (_ ||| _ : Nat) = _; decide) | with_reducible apply Upd.ite | with_reducible apply Upd.ite_snd | with_reducible apply windowWrite_upd | with_reducible apply writeWord_upd | split
  | cons a r ih =>
    have ih2 : ∀ {z1 : Nat} {z2 : State}, Upd 4503599080505071 y2 z2 → Upd 4503599080505071 y2 (performWrites h r z1 z2).2 := fun h => h.trans (ih ..)
    unfold performWrites
    have h0 := Upd.refl 4503599080505071 y2
    repeat' first | with_reducible assumption | with_reducible apply ih2 | (guard_target =~ (_ ||| _ : Nat) = _; decide) | with_reducible apply Upd.ite | with_reducible apply Upd.ite_snd | with_reducible apply windowWrite_upd | with_reducible apply writeWord_upd | split

theorem writePerformed_upd {M0 : Nat} {s0 : State} {s : State} (hU : Upd M0 s0 s) (hM : 4503599080505071 ||| M0 = M0) : Upd M0 s0 (writePerformed s) := by
  refine Upd.step hU ?_ hM
  clear hU hM
  unfold writePerformed
  have h0 := Upd.refl 4503599080505071 s
  repeat' first | with_reducible assumption | (guard_target =~ (_ ||| _ : Nat) = _; decide) | (fail_if_no_progress extract_lets +onlyGivenNames x; first | (have hx : Upd 4503599080505071 s x := (by unfold x; repeat' first | with_reducible assumption | (guard_target =~ (_ ||| _ : Nat) = _; decide) | with_reducible apply Upd.ite | with_reducible apply performWrites_upd | with_reducible apply colFinal_upd | split | with_reducible apply Upd.lit | exact rfl | exact SadUpd.refl _ _ | with_reducible apply SadUpd.ite | apply SadUpd.mk | exact fun _ => PeakUpd.refl _ _ | exact Or.inl (by decide) | exact Or.inr rfl); try clear_value x) | (have hx : Upd 4503599080505071 s x.2 := (by unfold x; repeat' first | with_reducible assumption | (guard_target =~ (_ ||| _ : Nat) = _; decide) | with_reducible apply Upd.ite | with_reducible apply performWrites_upd | with_reducible apply colFinal_upd | split | with_reducible apply Upd.lit | exact rfl | exact SadUpd.refl _ _ | with_reducible apply SadUpd.ite | apply SadUpd.mk | exact fun _ => PeakUpd.refl _ _ | exact Or.inl (by decide) | exact Or.inr rfl); try clear_value x) | (have h9 : (x : Peak) = x := rfl; clear h9) | (have h9 : (x : Saddle) = x := rfl; clear h9) | (have h9 : (x : Pair) = x := rfl; clear h9) | (have h9 : (x : Leg) = x := rfl; clear h9) | clear_value x | skip) | with_reducible apply Upd.ite | with_reducible apply performWrites_upd | with_reducible apply colFinal_upd | split | with_reducible apply Upd.lit | exact rfl | exact SadUpd.refl _ _ | with_reducible apply SadUpd.ite | apply SadUpd.mk | exact fun _ => PeakUpd.refl _ _ | exact Or.inl (by decide) | exact Or.inr rfl

theorem performReads_upd {M0 : Nat} {s0 : State} {h : Word} {y0 : List Nat} {y1 : List Word} {y2 : State} (hU : Upd M0 s0 y2) (hM : 1092948917764237 ||| M0 = M0) : Upd M0 s0 (performReads h y0 y1 y2).2 := by
  refine Upd.step hU ?_ hM
  clear hU hM
  induction y0 generalizing y1 y2 with
  | nil =>
    unfold performReads
    have h0 := Upd.refl 1092948917764237 y2
    repeat' first | with_reducible assumption | (guard_target =~ (_ ||| _ : Nat) = _; decide) | (fail_if_no_progress extract_lets +onlyGivenNames x; first | (have hx : Upd 1092948917764237 y2 x := (by unfold x; repeat' first | with_reducible assumption | (guard_target =~ (_ ||| _ : Nat) = _; decide) | with_reducible apply Upd.ite | with_reducible apply Upd.ite_snd | with_reducible apply windowRead_upd | with_reducible apply readWord_upd | split); try clear_value x) | (have hx : Upd 1092948917764237 y2 x.2 := (by unfold x; repeat' first | with_reducible assumption | (guard_target =~ (_ ||| _ : Nat) = _; decide) | with_reducible apply Upd.ite | with_reducible apply Upd.ite_snd | with_reducible apply windowRead_upd | with_reducible apply readWord_upd | split); try clear_value x) | (have h9 : (x : Peak) = x := rfl; clear h9) | (have h9 : (x : Saddle) = x := rfl; clear h9) | (have h9 : (x : Pair) = x := rfl; clear h9) | (have h9 : (x : Leg) = x := rfl; clear h9) | clear_value x | skip) | with_reducible apply Upd.ite | with_reducible apply Upd.ite_snd | with_reducible apply windowRead_upd | with_reducible apply readWord_upd | split
  | cons a r ih =>
    have ih2 : ∀ {z1 : List Word} {z2 : State}, Upd 1092948917764237 y2 z2 → Upd 1092948917764237 y2 (performReads h r z1 z2).2 := fun h => h.trans (ih ..)
    unfold performReads
    have h0 := Upd.refl 1092948917764237 y2
    repeat' first | with_reducible assumption | with_reducible apply ih2 | (guard_target =~ (_ ||| _ : Nat) = _; decide) | (fail_if_no_progress extract_lets +onlyGivenNames x; first | (have hx : Upd 1092948917764237 y2 x := (by unfold x; repeat' first | with_reducible assumption | with_reducible apply ih2 | (guard_target =~ (_ ||| _ : Nat) = _; decide) | with_reducible apply Upd.ite | with_reducible apply Upd.ite_snd | with_reducible apply windowRead_upd | with_reducible apply readWord_upd | split); try clear_value x) | (have hx : Upd 1092948917764237 y2 x.2 := (by unfold x; repeat' first | with_reducible assumption | with_reducible apply ih2 | (guard_target =~ (_ ||| _ : Nat) = _; decide) | with_reducible apply Upd.ite | with_reducible apply Upd.ite_snd | with_reducible apply windowRead_upd | with_reducible apply readWord_upd | split); try clear_value x) | (have h9 : (x : Peak) = x := rfl; clear h9) | (have h9 : (x : Saddle) = x := rfl; clear h9) | (have h9 : (x : Pair) = x := rfl; clear h9) | (have h9 : (x : Leg) = x := rfl; clear h9) | clear_value x | skip) | with_reducible apply Upd.ite | with_reducible apply Upd.ite_snd | with_reducible apply windowRead_upd | with_reducible apply readWord_upd | split

theorem readReply_upd {M0 : Nat} {s0 : State} {start : Nat} {ws : List Word} {s : State} (hU : Upd M0 s0 s) (hM : 134217728 ||| M0 = M0) : Upd M0 s0 (readReply start ws s) := by
  refine Upd.step hU ?_ hM
  clear hU hM
  unfold readReply
  have h0 := Upd.refl 134217728 s
  repeat' first | with_reducible assumption | (guard_target =~ (_ ||| _ : Nat) = _; decide) | with_reducible apply Upd.lit | exact rfl | exact SadUpd.refl _ _ | with_reducible apply SadUpd.ite | apply SadUpd.mk | exact fun _ => PeakUpd.refl _ _ | exact Or.inl (by decide) | exact Or.inr rfl

theorem readFrame_upd {M0 : Nat} {s0 : State} {h : Word} {addr : Word} {crc : BitVec 16} {cut : Bool} {s : State} (hU : Upd M0 s0 s) (hM : 4503599080505071 ||| M0 = M0) : Upd M0 s0 (readFrame h addr crc cut s) := by
  refine Upd.step hU ?_ hM
  clear hU hM
  unfold readFrame
  have h0 := Upd.refl 4503599080505071 s
  repeat' first | with_reducible assumption | (guard_target =~ (_ ||| _ : Nat) = _; decide) | (fail_if_no_progress extract_lets +onlyGivenNames x; first | (have hx : Upd 4503599080505071 s x := (by unfold x; repeat' first | with_reducible assumption | (guard_target =~ (_ ||| _ : Nat) = _; decide) | with_reducible apply Upd.ite | with_reducible apply countFrame_upd | with_reducible apply colFinal_upd | with_reducible apply readReply_upd | with_reducible apply writePerformed_upd | with_reducible apply performReads_upd | split); try clear_value x) | (have hx : Upd 4503599080505071 s x.2 := (by unfold x; repeat' first | with_reducible assumption | (guard_target =~ (_ ||| _ : Nat) = _; decide) | with_reducible apply Upd.ite | with_reducible apply countFrame_upd | with_reducible apply colFinal_upd | with_reducible apply readReply_upd | with_reducible apply writePerformed_upd | with_reducible apply performReads_upd | split); try clear_value x) | (have h9 : (x : Peak) = x := rfl; clear h9) | (have h9 : (x : Saddle) = x := rfl; clear h9) | (have h9 : (x : Pair) = x := rfl; clear h9) | (have h9 : (x : Leg) = x := rfl; clear h9) | clear_value x | skip) | with_reducible apply Upd.ite | with_reducible apply countFrame_upd | with_reducible apply colFinal_upd | with_reducible apply readReply_upd | with_reducible apply writePerformed_upd | with_reducible apply performReads_upd | split

theorem execColWrite_upd (hdr : Word) (addr : Word) (data : List Word) (crc : BitVec 16) (cut : Bool) (s : State) {t : State} (hX : execColWrite hdr addr data crc cut s = .next t) : Upd 35184506306561 s t := by
  unfold execColWrite at hX
  cases hX
  have h0 := Upd.refl 35184506306561 s
  repeat' first | with_reducible assumption | (guard_target =~ (_ ||| _ : Nat) = _; decide) | with_reducible refine whenKernel_upd ?_ (fun _ _ => ?_) ?_ | with_reducible apply writeFrame_upd

theorem execColWritePerformed_upd (s : State) {t : State} (hX : execColWritePerformed s = .next t) : Upd 4503599080505071 s t := by
  unfold execColWritePerformed at hX
  cases hX
  have h0 := Upd.refl 4503599080505071 s
  repeat' first | with_reducible assumption | (guard_target =~ (_ ||| _ : Nat) = _; decide) | with_reducible refine whenKernel_upd ?_ (fun _ _ => ?_) ?_ | with_reducible apply writePerformed_upd

theorem execColRead_upd (hdr : Word) (addr : Word) (crc : BitVec 16) (cut : Bool) (s : State) {t : State} (hX : execColRead hdr addr crc cut s = .next t) : Upd 4503599080505071 s t := by
  unfold execColRead at hX
  cases hX
  have h0 := Upd.refl 4503599080505071 s
  repeat' first | with_reducible assumption | (guard_target =~ (_ ||| _ : Nat) = _; decide) | with_reducible refine whenKernel_upd ?_ (fun _ _ => ?_) ?_ | with_reducible apply readFrame_upd

theorem execColStatus_upd (hdr : Word) (_crc : BitVec 16) (s : State) {t : State} (hX : execColStatus hdr _crc s = .next t) : Upd 35184506306561 s t := by
  unfold execColStatus at hX
  cases hX
  have h0 := Upd.refl 35184506306561 s
  repeat' first | with_reducible assumption | (guard_target =~ (_ ||| _ : Nat) = _; decide) | with_reducible refine whenKernel_upd ?_ (fun _ _ => ?_) ?_ | with_reducible apply readReply_upd | with_reducible apply countFrame_upd

end Sys2Proof.Machine
end

