-- ==== Sys2Proof/WellFormed.lean ====
section
/-! DEFINITION. Which commands can be sent at all: the operand values that the types admit and the device's interfaces do not. A command that is not
well formed still has a meaning; the statements that need its form name it. -/

namespace Sys2Proof

/-- The task numbers of R148: summit tasks. -/
def isSummitNo (n : BitVec 8) : Bool := decide (n.toNat ≤ 0x03)
/-- Control tasks. -/
def isControlNo (n : BitVec 8) : Bool := decide (0x10 ≤ n.toNat) && decide (n.toNat ≤ 0x4F)
/-- Frame tasks. -/
def isFrameNo (n : BitVec 8) : Bool := decide (0x60 ≤ n.toNat) && decide (n.toNat ≤ 0x6F)

/-- The bytes of the largest image: its header and 4 MiB of payload (R67). -/
def slotBytes : Nat := 1024 + 4 * 1024 * 1024

/-- A command whose operands an interface of the device can carry: a Col frame has 1 to 64 words (R431), a register access is of an aligned
word with a byte lane at least (R473), an image is no larger than its slot (R67), and an instant of a task names a task (R148). -/
def Instr.wf : Instr → Bool
  | .registerWrite _ addr _ lanes => decide (addr.toNat % 4 = 0) && decide (lanes ≠ 0)
  | .supplyRise .. => true
  | .supplyFall .. => true
  | .resetPin .. => true
  | .resetRelease .. => true
  | .gendarmeStartInstant .. => true
  | .refCheckWindow .. => true
  | .stageStart .. => true
  | .stageInstant .. => true
  | .safetyConfigLoad .. => true
  | .pllLossOfLock .. => true
  | .referenceMissing .. => true
  | .referenceReturn .. => true
  | .pllRelock .. => true
  | .clkTargetWrite .. => true
  | .pllStepRelock .. => true
  | .bivouacEnter .. => true
  | .bivouacEntryComplete .. => true
  | .wakeEvent .. => true
  | .wakeAlarm .. => true
  | .crossingTimeout .. => true
  | .slotFetchComplete _ img => decide (img.length ≤ slotBytes)
  | .bootVerdictCompare .. => true
  | .memoryPhaseComplete .. => true
  | .selfTestComplete .. => true
  | .handover .. => true
  | .lcsAdvanceState .. => true
  | .lcsProgramKeySlot .. => true
  | .lcsRevokeKeySlot .. => true
  | .lcsRaiseSvn .. => true
  | .lifecycleOpComplete .. => true
  | .lifecycleReset .. => true
  | .bistStart .. => true
  | .bistRunComplete .. => true
  | .taskDispatch .. => true
  | .storeBufferComplete .. => true
  | .waitResume .. => true
  | .illegalWord .. => true
  | .add .. => true
  | .sub .. => true
  | .and .. => true
  | .or .. => true
  | .xor .. => true
  | .shl .. => true
  | .shr .. => true
  | .sar .. => true
  | .mul .. => true
  | .min .. => true
  | .max .. => true
  | .minu .. => true
  | .maxu .. => true
  | .addi .. => true
  | .andi .. => true
  | .ori .. => true
  | .xori .. => true
  | .shli .. => true
  | .shri .. => true
  | .sari .. => true
  | .ceq .. => true
  | .cne .. => true
  | .clt .. => true
  | .cge .. => true
  | .cltu .. => true
  | .cgeu .. => true
  | .ceqi .. => true
  | .cnei .. => true
  | .clti .. => true
  | .cgei .. => true
  | .cltui .. => true
  | .cgeui .. => true
  | .andq .. => true
  | .orq .. => true
  | .xorq .. => true
  | .andnq .. => true
  | .setq .. => true
  | .getq .. => true
  | .allq .. => true
  | .anyq .. => true
  | .qadd .. => true
  | .qsub .. => true
  | .qneg .. => true
  | .qabs .. => true
  | .qmul .. => true
  | .qmac .. => true
  | .qmsu .. => true
  | .fadd .. => true
  | .fsub .. => true
  | .fmul .. => true
  | .fma .. => true
  | .fms .. => true
  | .fmin .. => true
  | .fmax .. => true
  | .fneg .. => true
  | .fabs .. => true
  | .fdiv .. => true
  | .fsqrt .. => true
  | .fceq .. => true
  | .fcne .. => true
  | .fclt .. => true
  | .fcle .. => true
  | .fcun .. => true
  | .f2q .. => true
  | .q2f .. => true
  | .f2i .. => true
  | .i2f .. => true
  | .vadd .. => true
  | .vsub .. => true
  | .vand .. => true
  | .vor .. => true
  | .vxor .. => true
  | .vmul .. => true
  | .vshl .. => true
  | .vsar .. => true
  | .vqadd .. => true
  | .vqsub .. => true
  | .vqneg .. => true
  | .vqabs .. => true
  | .vqmul .. => true
  | .vqmac .. => true
  | .vqmuls .. => true
  | .vqmacs .. => true
  | .vfadd .. => true
  | .vfsub .. => true
  | .vfmul .. => true
  | .vfma .. => true
  | .vfmuls .. => true
  | .vfmas .. => true
  | .vfneg .. => true
  | .vfabs .. => true
  | .vfmin .. => true
  | .vfmax .. => true
  | .vq2f .. => true
  | .vf2q .. => true
  | .vf2i .. => true
  | .vi2f .. => true
  | .vceq .. => true
  | .vclt .. => true
  | .vcltu .. => true
  | .vfceq .. => true
  | .vfclt .. => true
  | .vfcle .. => true
  | .vbcast .. => true
  | .vins .. => true
  | .vext .. => true
  | .vmov .. => true
  | .vdup2 .. => true
  | .vswap .. => true
  | .vfhadd4 .. => true
  | .vfhadd2 .. => true
  | .vqhadd2 .. => true
  | .padd .. => true
  | .psub .. => true
  | .pmov .. => true
  | .ppack .. => true
  | .plo .. => true
  | .phi .. => true
  | .p2f .. => true
  | .f2p .. => true
  | .pdiff .. => true
  | .sinF .. => true
  | .cosF .. => true
  | .rotF .. => true
  | .sinQ .. => true
  | .cosQ .. => true
  | .rotQ .. => true
  | .lb .. => true
  | .lbu .. => true
  | .lh .. => true
  | .lhu .. => true
  | .lw .. => true
  | .lp .. => true
  | .lv .. => true
  | .sb .. => true
  | .sh .. => true
  | .sw .. => true
  | .sp .. => true
  | .sv .. => true
  | .b .. => true
  | .bl .. => true
  | .jr .. => true
  | .wait .. => true
  | .signal .. => true
  | .endTask .. => true
  | .fence .. => true
  | .xcr .. => true
  | .xcv .. => true
  | .xcw .. => true
  | .xcs .. => true
  | .li .. => true
  | .addl .. => true
  | .andl .. => true
  | .orl .. => true
  | .faddl .. => true
  | .fmull .. => true
  | .qmull .. => true
  | .shadowStoreHandshake .. => true
  | .summitEndDeadline .. => true
  | .codeRecheck .. => true
  | .faultInfoRead .. => true
  | .cyclesRead .. => true
  | .evRaise .. => true
  | .taskLoad .. => true
  | .taskLoadComplete .. => true
  | .taskUnload .. => true
  | .taskReplace .. => true
  | .replaceCheckComplete .. => true
  | .deadlineExpiry _ task _ => isSummitNo task || isControlNo task || isFrameNo task
  | .frameRelease _ task => isFrameNo task
  | .periodCountRead .. => true
  | .timebaseWrap .. => true
  | .strobe .. => true
  | .idleStrobe .. => true
  | .batonFlightEnd .. => true
  | .cirqueSample .. => true
  | .couloirSampleArrival .. => true
  | .sampleReady .. => true
  | .cirqCfgWrite .. => true
  | .cirqTrigWrite .. => true
  | .validityWindowEnd .. => true
  | .rotorStepStart .. => true
  | .rotorOverlapStart .. => true
  | .rotorFitComplete .. => true
  | .rotorStepTimeout .. => true
  | .calibrationComplete .. => true
  | .rotorReady .. => true
  | .calAgeExpiry .. => true
  | .diagRequest .. => true
  | .diagWindow .. => true
  | .diagEnd .. => true
  | .domainLoss .. => true
  | .domainPllStart .. => true
  | .domainPllLock .. => true
  | .domainRejoin .. => true
  | .cirqLastRead .. => true
  | .fineRunStart .. => true
  | .fineOutputReady .. => true
  | .meanRunStart .. => true
  | .periodMeanReady .. => true
  | .resamplerRun .. => true
  | .resamplerOutputReady .. => true
  | .ridgelineStep .. => true
  | .rdgCmdOff .. => true
  | .rdgCmdFollow .. => true
  | .rdgCmdForm .. => true
  | .rdgCmdIsland .. => true
  | .rdgCmdBlackStart .. => true
  | .blackStartBegin .. => true
  | .keeperSet .. => true
  | .switchbackStep .. => true
  | .swbStart .. => true
  | .swbStop .. => true
  | .swbClear .. => true
  | .bankReq .. => true
  | .testRunStart .. => true
  | .testRunStop .. => true
  | .timebaseStart .. => true
  | .timebaseStop .. => true
  | .alignedStart .. => true
  | .commit .. => true
  | .delayLineCalibration .. => true
  | .tripPinActive .. => true
  | .tripPinInactive .. => true
  | .tripSwSet .. => true
  | .tripSwRelease .. => true
  | .tripClear .. => true
  | .tripFirstRead .. => true
  | .saddleStopDetect .. => true
  | .legEnable .. => true
  | .legDisable .. => true
  | .bootUndervoltage .. => true
  | .vdsTrip .. => true
  | .spurClear .. => true
  | .ascEnter .. => true
  | .ascRelease .. => true
  | .legDiagStart .. => true
  | .legDiagComplete .. => true
  | .pifLineChange .. => true
  | .posSet .. => true
  | .speedWindowEnd .. => true
  | .speedBoundUpdate .. => true
  | .pifStale .. => true
  | .edgePosRead .. => true
  | .heartbeatReceive .. => true
  | .heartbeatWindowClose .. => true
  | .ackReceive .. => true
  | .gendarmeSilent .. => true
  | .lolGraceExpiry .. => true
  | .copyComplete .. => true
  | .copyOverflow .. => true
  | .copyTimeout .. => true
  | .startWaitExpiry .. => true
  | .autoRejoinRelease .. => true
  | .returnHoldExpiry .. => true
  | .autoRestart .. => true
  | .gdmSwap .. => true
  | .gdmFail .. => true
  | .gdmRejoin .. => true
  | .gdmRestart .. => true
  | .gdmSafe .. => true
  | .gdmResync .. => true
  | .toggleLoss .. => true
  | .imageCrcCheck .. => true
  | .safCommit .. => true
  | .safCommitComplete .. => true
  | .safReset .. => true
  | .safDemand .. => true
  | .testPulseStart .. => true
  | .testPulseEnd .. => true
  | .inputDemand .. => true
  | .inputRelease .. => true
  | .discrepancyExpiry .. => true
  | .tpoFault .. => true
  | .resetStuckExpiry .. => true
  | .soutOffPulse .. => true
  | .soutOffPulseEnd .. => true
  | .soutStuckOn .. => true
  | .soutShorted .. => true
  | .stopTimeExpiry .. => true
  | .resetInputRelease .. => true
  | .feedbackTimeout .. => true
  | .kernelFault .. => true
  | .morAlloc .. => true
  | .morGive .. => true
  | .morSegGive .. => true
  | .segGiveComplete .. => true
  | .snapTake .. => true
  | .talusRun .. => true
  | .talusStop .. => true
  | .talusArm .. => true
  | .dmaGo .. => true
  | .dmaShadowValid .. => true
  | .dmaCancel .. => true
  | .dmaPause .. => true
  | .dmaResume .. => true
  | .dmaAbort .. => true
  | .dmaReadReturn .. => true
  | .dmaWriteComplete .. => true
  | .dmaDrainComplete .. => true
  | .dmaAccessTimeout .. => true
  | .dmaRetry .. => true
  | .cairnSecondEdge .. => true
  | .rateLoWrite .. => true
  | .rateCommit .. => true
  | .nowRead .. => true
  | .cairnArm .. => true
  | .cairnStep .. => true
  | .leaseWrite .. => true
  | .leaseExpiry .. => true
  | .mapPoint .. => true
  | .macReceive .. => true
  | .tqTailWrite .. => true
  | .tqReclaimWrite .. => true
  | .txDescriptorCheck .. => true
  | .txFetchComplete .. => true
  | .txStart .. => true
  | .launchTime .. => true
  | .lateDrop .. => true
  | .txComplete .. => true
  | .mdioCommand .. => true
  | .mdioComplete .. => true
  | .thermalMeasurement .. => true
  | .throttleStep .. => true
  | .throttleRecoverStep .. => true
  | .floorWrite .. => true
  | .colWrite _ _ data _ _ => decide (1 ≤ data.length) && decide (data.length ≤ 64)
  | .colWritePerformed .. => true
  | .colRead .. => true
  | .colStatus .. => true
  | .inPush .. => true
  | .inPop .. => true
  | .outPush .. => true
  | .outPop .. => true
  | .doorbell .. => true
  | .bootDataWord .. => true
  | .tracePacket .. => true
  | .tickPair .. => true
  | .counterEnable .. => true
  | .counterRead .. => true
  | .rcRead _ addr => decide (addr.toNat % 4 = 0)
  | .compareReached .. => true
  | .deadTimeEnd .. => true
  | .relockDeadline .. => true
  | .joinImageWaitExpiry .. => true

end Sys2Proof
end

