-- ==== Sys2Proof/Tests/Slice0.lean ====
section
/-! SUPPORT. Tests: what is not well formed is refused, single steps with results worked out by hand from the spec, and states that meet the hypotheses of
the statements. -/

namespace Sys2Proof.Tests

open Sys2Proof Sys2Proof.Machine

-- The evaluations below are many: one after another, each on the one thread.
set_option Elab.async false

/-! ### States -/

/-- Both Peaks up, the device running with every supply, the Saddle clocked, the baton at A, and no safe state; the listed fields set. -/
def dev (l : List (Fld × Nat)) : State :=
  ([(Fd.pwmBatonHolder, 0), (Fd.gdmStatusSafe, 0)] ++ l).foldl (fun (s : State) (e : Fld × Nat) => s.setFld .a e.1 e.2)
    { State.reset with
      peaks := ⟨{ up := true }, { up := true }⟩
      saddle := { clock := true }
      power := { vauxG := true, vauxA := true, vauxB := true, vdrv := true, xin := true, phase := .running } }

def k0 : CoreSel := ⟨.a, 0⟩
def x0 : Slot := ⟨k0, 0⟩
def atTick (n : Nat) (s : State) : State := { s with tick := n }

/-- As `dev`, with core 0 of Peak A in a task. -/
def run (c : Core) (l : List (Fld × Nat)) : State := (dev ([(Fd.sysCoreStatusState 0, 1), (Fd.sysCoreStatusTask 0, 0x10)] ++ l)).setCore k0 c

def issues (len : Nat) (s : State) : Bool := s.canIssue k0 && decide ((s.core k0).pc.toNat + len ≤ 0x10000)

/-! ### Well-formedness -/

theorem test_write_needs_alignment : (Instr.registerWrite (.core k0) 0x40000002 0 0xF).wf = false := by decide
theorem test_write_needs_a_lane : (Instr.registerWrite (.core k0) 0x40000004 0 0).wf = false := by decide
theorem test_read_needs_alignment : (Instr.rcRead (.core k0) 0x40000001).wf = false := by decide
theorem test_deadline_needs_a_task : (Instr.deadlineExpiry .a 0x50 false).wf = false := by decide
theorem test_release_needs_a_frame_task : (Instr.frameRelease .a 0x5F).wf = false := by decide
theorem test_col_frame_needs_a_word : (Instr.colWrite 0 0 [] 0 false).wf = false := by decide
theorem test_col_frame_has_at_most_64 : (Instr.colWrite 0 0 (List.replicate 65 0) 0 false).wf = false := by decide
theorem test_image_fits_its_slot (img : List Byte) (h : slotBytes < img.length) : (Instr.slotFetchComplete 0 img).wf = false :=
  decide_eq_false (Nat.not_le.mpr h)
theorem test_no_word_spells_a_command (nbits w : Nat) : decodeTableWord nbits w = none := rfl

/-! ### Steps of the cores -/

def scalars (l : Tab Word) : State := run { s := l } []
def after (i : Instr) (s : State) : Core := match exec i s with
  | .next t => t.core k0
  | _ => {}

theorem test_add_wraps : (after (.add x0 3 1 2) (scalars [(1, 0xFFFFFFFF), (2, 2)])).rs 3 = 1 := by decide +kernel
theorem test_s0_discards : (after (.add x0 0 1 2) (scalars [(1, 5), (2, 2)])).rs 0 = 0 := by decide +kernel
theorem test_sar_of_own_source : (after (.sar x0 1 1 2) (scalars [(1, 0x80000000), (2, 33)])).rs 1 = 0xC0000000 := by decide +kernel
theorem test_addi_sign_extends : (after (.addi x0 3 0 0xFFF) (scalars [])).rs 3 = 0xFFFFFFFF := by decide +kernel
theorem test_andi_zero_extends : (after (.andi x0 3 1 0xFFF) (scalars [(1, 0xFFFFFFFF)])).rs 3 = 0xFFF := by decide +kernel
theorem test_clt_is_signed : (after (.clt x0 1 1 2) (scalars [(1, 0xFFFFFFFF), (2, 0)])).rq 1 = 0xF := by decide +kernel
theorem test_cltu_is_unsigned : (after (.cltu x0 1 1 2) (scalars [(1, 0xFFFFFFFF), (2, 0)])).rq 1 = 0 := by decide +kernel
theorem test_qmul_of_minus_one_saturates :
    (after (.qmul x0 3 1 1) (scalars [(1, 0x80000000)])).rs 3 = 0x7FFFFFFF ∧ (after (.qmul x0 3 1 1) (scalars [(1, 0x80000000)])).flags = flSat := by
  decide +kernel
theorem test_qmul_ties_to_even : (after (.qmul x0 3 1 2) (scalars [(1, 0x40000000), (2, 3)])).rs 3 = 2 := by decide +kernel
theorem test_fadd_one_and_two : (after (.fadd x0 3 1 2) (scalars [(1, 0x3F800000), (2, 0x40000000)])).rs 3 = 0x40400000 := by decide +kernel
theorem test_fmin_orders_minus_zero : (after (.fmin x0 3 1 2) (scalars [(1, 0), (2, 0x80000000)])).rs 3 = 0x80000000 := by decide +kernel
theorem test_fdiv_by_zero : (after (.fdiv x0 3 1 0) (scalars [(1, 0x3F800000)])).rs 3 = 0x7F800000 ∧
    (after (.fdiv x0 3 1 0) (scalars [(1, 0x3F800000)])).flags = flDz := by decide +kernel
theorem test_fsqrt_of_four : (after (.fsqrt x0 3 1) (scalars [(1, 0x40800000)])).rs 3 = 0x40000000 := by decide +kernel
theorem test_padd_wraps : (after (.padd x0 2 0 1) (run { ph := [(0, 0xFFFFFFFFFFFFFFFF), (1, 3)] } [])).rph 2 = 2 := by decide +kernel
theorem test_p2f_of_three_quarters : (after (.p2f x0 3 0) (run { ph := [(0, 0xC000000000000000)] } [])).rs 3 = 0xBE800000 := by decide +kernel
theorem test_vswap : (after (.vswap x0 1 0) (run { v := [(0, 7), (1, 8), (2, 9)] } [])).rv 1 1 = 7 := by decide +kernel
theorem test_branch_back : (after (.b k0 .al 0xFFFF) (run { pc := 0x100 } [])).pc = 0xFC := by decide +kernel
theorem test_bl_links_after_the_branch : (after (.bl k0 .al 4) (run { pc := 0x100 } [])).rs 31 = 0x104 := by decide +kernel
theorem test_dec_not_taken_at_one : (after (.b k0 (.dec 5) 4) (run { pc := 0x100, s := [(5, 1)] } [])).pc = 0x104 := by decide +kernel
theorem test_long_form_passes_eight : (after (.li x0 3 0xDEADBEEF) (run { pc := 0x104 } [])).pc = 0x10C := by decide +kernel

/-! ### CRCs that the kernel can evaluate -/

/-- `g n`, with n evaluated first. -/
def force {α : Type} (n : Nat) (g : Nat → α) : α := match n with
  | 0 => g 0
  | k + 1 => g (k + 1)

theorem force_eq {α : Type} (n : Nat) (g : Nat → α) : force n g = g n := by cases n <;> rfl

def crcStrict : List Byte → Nat → Nat
  | [], c => c
  | b :: r, c => force (crc32Step 8 (Nat.xor c b.toNat)) (crcStrict r)

theorem crcStrict_eq (l : List Byte) (c : Nat) : crcStrict l c = l.foldl (fun c b => crc32Step 8 (Nat.xor c b.toNat)) c := by
  induction l generalizing c with
  | nil => rfl
  | cons b r ih => rw [crcStrict, force_eq, ih]; rfl

theorem crc32_eq (l : List Byte) : crc32 l = Nat.xor (crcStrict l 0xFFFFFFFF) 0xFFFFFFFF := by rw [crcStrict_eq]; rfl

/-! ### States that meet the hypotheses of the statements -/

theorem witness_ResetState : 0x4004000C < 2 ^ 32 ∧ (rowAt 0x4004000C).isSome = true ∧ isRomCoef 0x4004000C = false := by decide +kernel

theorem witness_StepKeepsSoundness : (dev [(Fd.talMorLowFree, 5)]).sound = true ∧ ({ dev [] with pending := [.strobe] } : State).sound = true := by decide +kernel

/-- For every statement about one instruction at its last place in the ITCM: predicate 0 is on in every lane, predicate 1 off. -/
theorem witness_instructions : issues 4 (run { pc := 0xFFFC } []) = true ∧ issues 8 (run { pc := 0xFFF8 } []) = true ∧
    ((run {} []).core k0).on 0 = true ∧ ((run {} []).core k0).on 1 = false ∧ ((run {} []).core k0).rq 0 = 0xF := by decide +kernel

theorem witness_IntegerResultsAndFrame : (run { pc := 0xFFFC } []).runs k0 4 ∧ ((run { pc := 0xFFFC } []).core k0).on x0.pred.val = true :=
  ⟨⟨by decide +kernel, by decide +kernel⟩, by decide +kernel⟩

theorem witness_FractionalArithmetic : (run { pc := 0xFFFC } []).runs k0 4 ∧ ((run { pc := 0xFFFC } []).core k0).on x0.pred.val = true := witness_IntegerResultsAndFrame
theorem witness_FloatArithmetic : (run { pc := 0xFFFC } []).runs k0 4 ∧ ((run { pc := 0xFFFC } []).core k0).on x0.pred.val = true := witness_IntegerResultsAndFrame
theorem witness_VectorLaneResults : (run { pc := 0xFFFC } []).runs k0 4 ∧ ((run { pc := 0xFFFC } []).core k0).on x0.pred.val = true := witness_IntegerResultsAndFrame
theorem witness_VectorComparesMovesAndReductions : (run { pc := 0xFFFC } []).runs k0 4 ∧ ((run { pc := 0xFFFC } []).core k0).on x0.pred.val = true := witness_IntegerResultsAndFrame
theorem witness_PhaseResults : (run { pc := 0xFFFC } []).runs k0 4 ∧ ((run { pc := 0xFFFC } []).core k0).on x0.pred.val = true := witness_IntegerResultsAndFrame
theorem witness_TrigResults : (run { pc := 0xFFFC } []).runs k0 4 ∧ ((run { pc := 0xFFFC } []).core k0).on x0.pred.val = true := witness_IntegerResultsAndFrame
theorem witness_BranchTargets : (run { pc := 0xFFFC } []).runs k0 4 ∧ ((run { pc := 0xFFFC } []).core k0).on x0.pred.val = true := witness_IntegerResultsAndFrame
theorem witness_RegisterFiles : (3 : Nat) < 4 := by decide

/-- With operands of both kinds: a signalling NaN, and two finite numbers. -/
theorem witness_ComparesAndPredicates : (FVal.ofWord 0x7F800001).isNan = true ∧ (∃ p m, FVal.ofWord 0x3F800000 = .fin p m) ∧ ∃ q n, FVal.ofWord 0x80000001 = .fin q n :=
  ⟨by decide +kernel, ⟨_, _, rfl⟩, ⟨_, _, rfl⟩⟩

theorem witness_LongForms : (run { pc := 0xFFF8 } []).runs k0 8 ∧ ((run { pc := 0xFFF8 } []).core k0).on x0.pred.val = true :=
  ⟨⟨by decide +kernel, by decide +kernel⟩, by decide +kernel⟩

theorem witness_PredicatedOffDoesNothing : (run { pc := 0xFFF8, s := [(1, 0x1FFFC)] } []).runs k0 8 ∧
    (let c := (run { pc := 0xFFF8, s := [(1, 0x1FFFC)] } []).core k0; c.on (1 : Fin 4).val = false ∧ effAddr c 1 0 4 = 0x1FFFC) :=
  ⟨⟨by decide +kernel, by decide +kernel⟩, by decide +kernel⟩

/-- The last 16 bytes of the DTCM, and the last word of control SRAM, in memory and in the newest pending store. -/
theorem witness_Loads :
    (let c := (run { s := [(1, 0x1FFE0)] } []).core k0;
      [1, 2, 4, 8, 16].all (fun w => let a := ((c.rs 1).toNat + 16 / w * w) % 2 ^ 32
        decide (0x10000 ≤ a) && decide (a < 0x20000) && decide (a % w = 0) && (List.range w).all (fun i => (pendingByte c (a + i)).isNone)) = true) ∧
    (let s := run { s := [(1, 0x101FFFFC)] } [];
      issues 4 s = true ∧ (∀ i < 4, pendingByte (s.core k0) (0x101FFFFC + i) = none) ∧ s.inSummit k0 = false) ∧
    ((run { buf := [⟨[(0x101FFFFC, 4, 5)], false⟩] } []).core k0).buf = [] ++ [⟨[(0x101FFFFC, 4, 5)], false⟩] := by decide +kernel

theorem witness_StoresToDtcm : mirrors (.core k0) (run { s := [(1, 0x1FFF0)] } []) = false ∧
    effAddr ((run { s := [(1, 0x1FFF0)] } []).core k0) 1 0 16 = 0x1FFF0 := by decide +kernel

def fullBuf : List Posted := List.replicate 4 ⟨[(0x10000000, 4, 5)], false⟩
theorem witness_PostedStores :
    (let s := run { s := [(1, 0x101FFFFC)] } [];
      s.inSummit k0 = false ∧ effAddr (s.core k0) 1 0 4 = 0x101FFFFC ∧ (s.core k0).buf.length < 4) ∧
    ((run { s := [(1, 0x10000000)], buf := fullBuf } []).core k0).buf.length = 4 ∧
    (let s := run { s := [(1, 0x4005047C)] } [];
      effAddr (s.core k0) 1 0 4 = 0x4005047C ∧ (s.task .a (s.curTask k0)).late = false) ∧
    (let s := run { buf := fullBuf } [];
      mirrors (.core k0) s = false ∧ (s.core k0).buf = ⟨[(0x10000000, 4, 5)], false⟩ :: fullBuf.tail) ∧
    (let s := run { shadows := [⟨[(0x4005047C, 4, 7)], false⟩] } [];
      s.saddle.clock = true ∧ s.holds .a = true ∧ s.bit .a (Fd.pwmGrpCfgStage 7) = false ∧ lateNow (chanTb s 31) s = false) := by decide +kernel

theorem witness_InstructionFaults :
    (let s := run { s := [(1, 0xFFFFFFFF)] } [];
      issues 4 s = true ∧ s.inSummit k0 = false ∧ s.fld .a (Fd.sysCoreFaultInfoCode 0) = 0 ∧ [2, 4, 8, 16].all (fun w => decide (effAddr (s.core k0) 1 0 w % w ≠ 0)) = true) ∧
    (let s := run { pc := 0xFFFC } [];
      s.canIssue k0 = true ∧ s.inSummit k0 = false ∧ ¬0x10000 < (s.core k0).pc.toNat + 4) ∧
    (let s := run { pc := 0x10000 } [];
      s.canIssue k0 = true ∧ 0x10000 < (s.core k0).pc.toNat + 4) ∧
    (let s := run {} [(Fd.sysCoreStatusSummit 0, 1)];
      s.canIssue k0 = true ∧ s.inSummit k0 = true ∧ s.fld .a (Fd.sysCoreFaultInfoCode 0) = 0) ∧
    spelled k0 0 0 = none ∧ (spelled k0 0x14394A00 0).isSome = true := by decide +kernel

/-- A word from the widths and the values of its fields, most significant first, as R130 lists them. -/
def word (l : List (Nat × Nat)) : Word := BitVec.ofNat 32 (l.foldl (fun n e => n * 2 ^ e.1 + e.2) 0)

theorem test_word_rri : spelled k0 (word [(6, 0x09), (2, 1), (5, 4), (5, 2), (2, 0), (12, 0xFFF)]) 0 = some (.addi ⟨k0, 1⟩ 4 2 0xFFF) := by decide +kernel
theorem test_word_vec :
    spelled k0 (word [(6, 0x28), (2, 0), (3, 0), (3, 5), (3, 0), (5, 17), (2, 2), (8, 2)]) 0 = some (.vext x0 17 5 2) := by decide +kernel
theorem test_word_ph :
    spelled k0 (word [(6, 0x2C), (2, 0), (2, 2), (2, 0), (2, 0), (5, 4), (5, 9), (3, 0), (5, 3)]) 0 = some (.ppack x0 2 9 4) := by decide +kernel
theorem test_word_ls : spelled k0 (word [(6, 0x1C), (2, 2), (5, 3), (3, 7), (16, 0xFFFF)]) 0 = some (.sv ⟨k0, 2⟩ 3 7 0xFFFF) := by decide +kernel
theorem test_word_br : spelled k0 (word [(6, 0x22), (3, 1), (2, 2), (5, 31), (16, 0)]) 0 = some (.jr k0 (.q 2) 31) := by decide +kernel
theorem test_word_ev : spelled k0 (word [(6, 0x38), (2, 0), (2, 0), (8, 0xC0), (14, 0)]) 0 = some (.wait k0 0xC0) := by decide +kernel
theorem test_word_xc : spelled k0 (word [(6, 0x33), (2, 0), (5, 16), (12, 0x40), (5, 0), (2, 0)]) 0 = some (.xcs x0 16 0x40) := by decide +kernel
theorem test_word_fence_event : spelled k0 (word [(6, 0x38), (2, 0), (2, 3), (8, 1), (14, 0)]) 0 = none := by decide +kernel

def task10 (t : Task) (l : List (Fld × Nat)) : State := (dev ([(Fd.trvTaskStatLoaded 0x10, 1)] ++ l)).setTask .a 0x10 t

theorem witness_TaskControlInstructions :
    (let s := (run {} []).setTask .a 0x10 { wait := 1 };
      issues 4 s = true ∧ s.inSummit k0 = false ∧ s.waitLatch k0 0 = true ∧ s.waitLatch k0 255 = false) ∧
    (let s := (run { waitFor := some 0 } []).setTask .a 0x10 { wait := 1 };
      (s.core k0).waitFor = some 0 ∧ s.waitLatch k0 0 = true) ∧
    (let s := (task10 {} []).setPeak .a { up := true, signals := [(0, 255)] };
      (s.peak .a).up = true ∧ (0, 255) ∈ (s.peak .a).signals ∧ 0 ≤ (s.peak .a).cycles64 + s.fld .a Fd.clkStatusCurN ∧ isSoftEvent 255 = true ∧
        0x10 ∈ s.loaded .a) ∧
    (192 ≤ (192 : BitVec 8).toNat ∧ ¬192 ≤ (191 : Word).toNat % 256 ∧ ((run {} []).core k0).on 1 = false) ∧
    (((run {} []).core k0).buf = [] ∧ ((run {} []).core k0).shadows = [] ∧ ((run { buf := fullBuf } []).core k0).buf ≠ []) := by decide +kernel

theorem witness_CoprocessorAccesses :
    (let s := run {} [(Fd.trvTaskStatLoaded 0x10, 1)];
      issues 4 s = true ∧ s.inSummit k0 = false ∧ (s.core k0).rq 0 = 0xF) ∧ (383 : BitVec 12).toNat < 384 ∧ (359 : BitVec 12).toNat < 360 := by decide +kernel

theorem witness_TaskCommands :
    (dev [(Fd.trvCmdStatusBusy, 1)]).bit .a Fd.trvCmdStatusBusy = true ∧
    ((dev []).bit .a Fd.trvCmdStatusBusy = false ∧ (4 : BitVec 8).toNat ∉ taskNumbers ∧ (0x6F : BitVec 8).toNat ∈ taskNumbers) ∧
    (0x10 ∈ (task10 {} [(Fd.trvTaskStatRunning 0x10, 1)]).loaded .a ∧ (task10 {} [(Fd.trvTaskStatRunning 0x10, 1)]).bit .a (Fd.trvTaskStatRunning 0x10) = true) ∧
    (0x10 ∈ (task10 {} []).loaded .a ∧ (task10 {} []).bit .a (Fd.trvTaskStatRunning 0x10) = false) := by decide +kernel

theorem witness_TaskCommandsComplete :
    (let s := (dev []).setPeak .a { up := true, trvCmd := some { op := 1, task := 0x6F } };
      (s.peak .a).trvCmd = some { op := 1, task := 0x6F } ∧ 0x6F ∈ taskNumbers ∧ isSummit 3 = true ∧ fullSpeed .a s = false ∧
        fullSpeed .a (s.setFld .a Fd.clkStatusCurN 160) = true) ∧
    (let s := ((dev []).setPeak .a { up := true, trvCmd := some { op := 3, task := 3, code := 15 } }).setTask .a 3 { repl := .checking 0 0 0 };
      (s.task .a 3).repl = .checking 0 0 0 ∧ (summitChecks .a 3 0 0 s).1 ≠ 0) := by decide +kernel

theorem witness_TaskDispatch :
    let s := task10 {} [(Fd.trvTaskStatPending 0x10, 1)];
    (s.peak .a).up = true ∧ (s.peak .a).held = false ∧ s.fld .a (Fd.sysCoreStatusState 0) = 0 ∧ nextTask k0 s = some 0x10 ∧ (s.task .a 0x10).repl = .none := by
  decide +kernel

theorem witness_DeadlinesFramesAndMonitor :
    (let s := task10 {} [(Fd.trvTaskStatRunning 0x10, 1), (Fd.trvTaskMissMisses 0x10, 0x7FFE)];
      0x10 ∈ s.loaded .a ∧ s.bit .a (Fd.trvTaskStatRunning 0x10) = true ∧ (s.task .a 0x10).late = false ∧ s.fld .a (Fd.trvTaskMissMisses 0x10) < 0x7FFF ∧
        (s.task .a 0x10).startTick + s.reg .a (Reg.trvTaskTiming 0x10) ≤ (atTick 0xFFFFF s).tick) ∧
    (let s := (dev [(Fd.trvTaskStatLoaded 0x60, 1), (Fd.pwmTbStatusRun 0, 1)]).setTask .a 0x60 { b0 := some 0 };
      0x60 ∈ s.loaded .a ∧ s.bit .a (Fd.trvTaskStatRunning 0x60) = false ∧ s.bit .a (Fd.trvTaskStatPending 0x60) = false ∧
        s.bit .a (Fd.pwmTbStatusRun s.periodTb) = true ∧ (s.peak .a).held = false ∧ s.gdm.mirrored.contains (1, 0x60) = false ∧ (s.task .a 0x60).b0 = some 0 ∧ max 0 ((s.task .a 0x60).ek.getD 0) ≤ s.tick) ∧
    (let s := run { issue := 1 } [(Fd.sysCoreStatusSummit 0, 1), (Fd.sysCoreStatusTask 0, 3)];
      s.inSummit k0 = true ∧ s.curTask k0 ∈ taskNumbers ∧ (s.task .a (s.curTask k0)).endMissed = false ∧ (s.task .a (s.curTask k0)).cert.cEnd < s.runCycle k0) ∧
    (let s := (dev [(Fd.trvTaskStatLoaded 0, 1)]).setTask .a 0 { cert := { codeCrc := 1 } };
      0 ∈ s.loaded .a ∧ crc32 (s.codeBytes (s.taskCore .a 0) (s.task .a 0).cert) ≠ (s.task .a 0).cert.codeCrc) := by decide +kernel

theorem witness_TraverseReads : ((dev []).peak (Master.core k0).peak).up = true := by decide +kernel

theorem witness_CyclesReadsAreCoherent :
    (run { pc := 0xFFF8 } []).runs k0 8 ∧ ((run {} []).core k0).rq 0 = 0xF ∧ ((dev []).core k0).runBase + ((dev []).core k0).issue ≤ ((dev []).peak .a).cycles64 / 64 :=
  ⟨⟨by decide +kernel, by decide +kernel⟩, by decide +kernel, by decide +kernel⟩

/-! ### Saddle, Spur, Gendarme, safety -/

def withSaddle (f : Saddle → Saddle) (s : State) : State := { s with saddle := f s.saddle }
def withGdm (f : Gdm → Gdm) (s : State) : State := { s with gdm := f s.gdm }
def withPower (f : Power → Power) (s : State) : State := { s with power := f s.power }

theorem witness_TripSources :
    (let s := dev [(Fd.tripSrcCfgEn 7, 1), (Fd.tripSrcCfgEn 8, 1), (Fd.tripSrcCfgLatch 7, 1), (Fd.tripSrcCountCount 7, 0xFFFE)];
      s.saddle.clock = true ∧ s.bit .a (Fd.tripSrcCfgEn 7) = true ∧ (s.fld .a Fd.tripStatusActive).testBit 7 = false ∧
        s.bit .a (Fd.tripSrcCfgEn 8) = true ∧ (s.fld .a Fd.tripStatusActive).testBit 8 = false ∧ s.holds .a = true ∧
        s.fld .a (Fd.tripSrcCountCount 7) < 0xFFFF ∧ s.bit .a Fd.tripFirstValid = false) ∧
    (let s := dev [(Fd.tripStatusActive, 0x180)];
      (s.fld .a Fd.tripStatusActive).testBit 7 = true ∧ (s.fld .a Fd.tripStatusActive).testBit 8 = true) := by decide +kernel

theorem witness_TripLatchesAndFirst : (dev []).holds (Master.core k0).peak = true ∧ (dev []).saddle.clock = true ∧
    ((0x801 : BitVec 12).getLsbD 11 = true ∧ ((dev [(Fd.tripStatusActive, 0x800)]).fld .a Fd.tripStatusActive).testBit 11 = true) := by decide +kernel

theorem witness_EdgesAndDeadTimes :
    (let s := (dev [(Fd.pwmChCfgMode 31, 1), (Fd.pwmChCfgPair 31, 31), (Fd.pwmTbStatusRun 0, 1)]).setPair 31 { en := true, hi := true, ceff := 1, dt := 1 };
      pairNormal s 31 = true ∧ s.bit .a (Fd.pwmPairStatusTripped 31) = false ∧ (s.pair 31).hi = true ∧ (s.pair 31).lo = false ∧ (s.pair 31).fallback = false ∧
        (s.pair 31).passed = false ∧ 0 < (s.pair 31).dt ∧ 0 < (s.pair 31).ceff ∧ pairOwner s 31 = some 31 ∧ (s.pair 31).ceff < s.tbSteps (chanTb s 31) ∧
        (s.pair 31).ceff / 64 ≤ s.tbCount (chanTb s 31)) ∧
    (let s := ((dev []).setPair 0 { wait := some true }).setPair 31 { wait := some false };
      (s.pair 0).wait = some true ∧ (s.pair 0).lo = false ∧ (s.pair 31).wait = some false ∧ (s.pair 31).hi = false) ∧
    (let s := dev [(Fd.pwmChCfgMode 31, 3), (Fd.pwmTbStatusRun 0, 1)];
      chanMode s 31 = 3 ∧ s.tbRuns (chanTb s 31) = true ∧ actSteps s 31 / 64 ≤ s.prdNow (chanTb s 31) ∧ actSteps s 31 / 64 ≤ s.tbCount (chanTb s 31)) ∧
    (let s := ((dev [(Fd.safStatusSeg, 0xFF), (Fd.spurStatusVdrvOk, 1)]).setLeg 0 { wait := some true }).setLeg 5 { wait := some false };
      gatesHeld s = false ∧ (s.leg 0).wait = some true ∧ (s.leg 0).lo = false ∧ (s.leg 5).wait = some false ∧ (s.leg 5).hi = false ∧ (s.leg 5).refresh = 0 ∧
        legFree s 0 (s.leg 0).loOff = true ∧ legFree s 5 (s.leg 5).hiOff = true ∧ s.bit .a (Fd.spurLegCfgAdapt 0) = false ∧
        (s.setFld .a (Fd.spurLegCfgAdapt 0) 1).bit .a (Fd.spurLegCfgAdapt 0) = true) ∧
    (let s := (dev [(Fd.safStatusSeg, 0xFF), (Fd.spurStatusVdrvOk, 1), (Fd.pwmTbStatusRun 0, 1)]).setLeg 5 { en := true, hi := true, ceff := 1 } |>.setReg .a (Reg.pwmTbCount 0) 1;
      legWant s 5 ≠ (false, false) ∧ legInAsc s 5 = false ∧ (s.leg 5).charging = false ∧ 0 < (s.leg 5).ceff ∧ (s.leg 5).ceff ≤ s.prdNow (legTb s 5) ∧
        (s.leg 5).ceff ≤ s.tbCount (legTb s 5) ∧ (s.leg 5).refresh = 0 ∧ gatesHeld s = false ∧ s.bit .a (Fd.spurLegStatusTripped 5) = false ∧ (s.leg 5).hi = true ∧ (s.leg 5).lo = false) := by
  decide +kernel

theorem witness_CommitAndDelayLines :
    (let s := (dev []).setChan 31 { staged := some 5 };
      s.holds .a = true ∧ s.saddle.clock = true ∧ (0x80 : BitVec 8).getLsbD (31 / 4) = true ∧ (s.chan 31).staged = some 5 ∧ lateNow (chanTb s 31) s = false) ∧
    (let s := (dev [(Fd.pwmTbStatusRun 0, 1)]).setReg .a (Reg.pwmTbCount 0) 0xFFFFD |>.setChan 0 { staged := some 5 };
      lateNow (chanTb s 0) s = true ∧ lateNow (s.fld .a (Fd.pwmGrpCfgTb 0)) s = true) := by decide +kernel

theorem witness_SpurLegs :
    (let s := dev [];
      s.bit .a (Fd.spurLegCtrlEn 5) = false ∧ (gatesHeld s || !legPassed .a 5 s || s.bit .a (Fd.spurLegStatusTripped 5) || legInAsc s 5) = true) ∧
    (let s := (dev [(Fd.safStatusSeg, 0), (Fd.spurStatusVdrvOk, 1)]).setReg .a (Reg.bstPass 5) (2 ^ 19);
      s.bit .a (Fd.spurLegCtrlEn 5) = false ∧ (gatesHeld s || !legPassed .a 5 s || s.bit .a (Fd.spurLegStatusTripped 5) || legInAsc s 5) = false) ∧
    (let s := dev [(Fd.spurStatusVdrvOk, 1), (Fd.spurStatusTripped, 0x20)];
      s.bit .a Fd.spurStatusVdrvOk = true ∧ (∀ k < 6, legSource s k = false) ∧
        (∀ k < 6, (s.fld .a Fd.spurStatusTripped).testBit k = true → (0x20 : BitVec 6).getLsbD k = true)) ∧
    (let s := atTick 100000 ((dev []).setLeg 5 { hi := true, uvRun := 2 });
      ((if true = true then (s.leg 5).hi else (s.leg 5).lo) = true ∧ vdsLimit s 5 < (0xFFFF : BitVec 16).toNat ∧
        (if true = true then (s.leg 5).hiOn else (s.leg 5).loOn) + vdsBlank s 5 ≤ s.tick) ∧ ¬vdsLimit s 5 < (0 : BitVec 16).toNat ∧
        legInAsc s 5 = false ∧ inGroup s 5 = false ∧ (s.leg 5).uvNow = false ∧ 2 ≤ (s.leg 5).uvRun) ∧
    (let s := (dev []).setLeg 5 { hi := true, uvRun := 1 };
      (s.leg 5).hi = true ∧ (s.leg 5).uvNow = false ∧ (s.leg 5).uvRun < 2 ∧ legInAsc s 5 = false) := by decide +kernel

theorem witness_ActiveShortAndDiagnostic :
    (let s := dev [(Fd.safStatusSeg, 0), (Fd.spurStatusVdrvOk, 1), (Fd.spurAscGroup, 0x20)];
      ascOn s = false ∧ gatesHeld s = false ∧ inGroup s 5 = true) ∧
    (let s := dev [(Fd.spurStatusAscActive, 1), (Fd.spurLegStatusInAsc 5, 1)];
      ascOn s = true ∧ ∀ k < 6, legInAsc s k = true → s.bit .a (Fd.spurLegStatusTripped k) = false ∧ legSource s k = false) ∧
    (let s := dev [(Fd.spurStatusVdrvOk, 1)];
      s.bit .a (Fd.spurLegCtrlEn 5) = false ∧ (inGroup s 5 && ascOn s) = false ∧ s.bit .a Fd.spurStatusVdrvOk = true ∧ 5000 ≤ (5000 : BitVec 16).toNat ∧
        s.bit .a (Fd.spurLegStatusRetired 5) = false ∧
        (legRef s 5).all (fun r => !s.bit .a (Fd.spurLegCtrlEn r) && decide (s.fld .a (Fd.spurLegDiagState r) ≠ 1)) = true) ∧
    (dev [(Fd.spurLegCtrlEn 5, 1)]).bit .a (Fd.spurLegCtrlEn 5) = true ∧ (dev [(Fd.spurLegDiagState 5, 1)]).fld .a (Fd.spurLegDiagState 5) = 1 ∧
    ((dev []).leg 5).diagAt + 240000 ≤ (atTick 240000 (dev [])).tick := by
  decide +kernel

theorem witness_StrobesHeartbeatsAndBaton :
    (let s := dev [(Fd.pwmTbStatusRun 0, 1)];
      s.saddle.clock = true ∧ s.tbRuns s.periodTb = true) ∧ (dev []).tbRuns (dev []).periodTb = false ∧
    ((withGdm (fun g => { g with sent := ⟨none, some (0x2000, 0)⟩ }) (dev [])).gdm.sent.get .b = some (0x2000, 0) ∧ (0x2000 : Word).getLsbD 13 = true) ∧
    ((withGdm (fun g => { g with acks := ⟨none, some (0xFFFF, 1)⟩ }) (dev [])).gdm.acks.get .b = some (0xFFFF, 1) ∧ ((dev []).peak .b).up = true) ∧
    (let s := (dev []).setPeak .b { up := true, silent := 3 };
      (s.peak .b).up = true ∧ 3 ≤ (s.peak .b).silent ∧ s.bit .a (Fd.gdmPeakViewSilent 1) = false) ∧
    (withSaddle (fun d => { d with flight := some .b }) (dev [])).saddle.flight = some .b := by decide +kernel

/-- Peak A ACTIVE and B STANDBY, the window open with both heartbeats of strobe 0 in. -/
def judgedState (hb ha : Word) : State :=
  withGdm (fun g => { g with window := true, expect := ⟨0, 1⟩, viewNow := ⟨0, 1⟩, got := ⟨some (ha, 0), some (hb, 0)⟩ })
    (withPower (fun p => { p with boot := ⟨.done, .done⟩ }) (dev [(roleFld .a, 0), (roleFld .b, 1), (Fd.gdmStatusSynced, 1)]))

theorem witness_VerdictsAndFailover :
    (let s := judgedState 0x4000 0;
      s.gdm.window = true ∧ isBad (verdict s .a) = false ∧ isBad (verdict s .b) = false) ∧
    (let s := judgedState 0x4000 0x1000;
      s.active = some .a ∧ isBad (verdict s .a) = true ∧ s.role .b = 1 ∧ (verdict s .b).1 = 0) ∧
    (let s := judgedState 0x5000 0x1000;
      s.active = some .a ∧ isBad (verdict s .a) = true ∧ verdict s .a ≠ (2, 7) ∧ ¬(s.role .b = 1 ∧ (verdict s .b).1 = 0)) ∧
    (let s := judgedState 0x4000 0;
      s.gdm.asked = [] ∧ s.gdmSilent = false) ∧
    (let s := atTick 4000000 (withGdm (fun g => { g with lolSince := some 0 }) (judgedState 0x4000 0));
      s.gdm.lolSince = some 0 ∧ 0 + 4000000 ≤ s.tick ∧ s.gdmSilent = false ∧ s.active = some .a) ∧
    (let s := atTick (10 ^ 10) (withPower (fun p => { p with boot := ⟨.done, .fetch 2⟩ }) (dev [(Fd.gdmPeakReportReady 0, 1), (roleFld .b, 2)]));
      (s.peak .a).up = true ∧ s.power.boot.get .a = .done ∧ s.gdmSilent = false ∧ s.gdmPast (s.gdm.handoverAt.get .a) (startWait s) = true ∧
        s.bit .a (Fd.gdmPeakReportReady 0) = true) ∧
    (let s := atTick (10 ^ 10) (withPower (fun p => { p with boot := ⟨.done, .done⟩ }) (dev [(roleFld .a, 0), (roleFld .b, 2)]));
      s.power.boot.get .b = .done ∧ s.gdmPast (s.gdm.handoverAt.get .b) (startWait s) = true ∧ s.bit .a (Fd.gdmPeakReportReady 1) = false ∧ 2 ≤ s.role .b) ∧
    (let s := atTick (10 ^ 10) (withPower (fun p => { p with boot := ⟨.fetch 2, .done⟩ }) (dev []));
      (s.peak .a).up = true ∧ s.power.boot.get .a = .fetch 2 ∧ (s.peak .b).up = true ∧ s.gdmPast (s.peak .a).releasedAt (startWait s) = true) := by
  decide +kernel

/-- A safety image whose fields are in range, with its CRC. -/
def imgGood : List Nat := [0x53460001, 1, 10] ++ List.replicate 10 0 ++ [0x100] ++ List.replicate 49 0 ++ [0x4EACBCFE]

theorem imgGood_crc : imageCrc imgGood = 0x4EACBCFE := by unfold imageCrc; rw [crc32_eq]; decide +kernel
theorem imgGood_ok : imageCheck imgGood = 0 := by unfold imageCheck; rw [imgGood_crc]; decide +kernel
theorem imageCheck_magic (w : List Nat) (h : w.getD 0 0 = 0) : imageCheck w ≠ 0 := by
  unfold imageCheck; rw [h]; split <;> simp

def stored (copy : Bool) : State := storeImage (copyKey copy) imgGood (dev [])
theorem stored_a : (stored false).wordList (copyKey false) 64 = imgGood := by decide +kernel
theorem stored_b : (stored true).wordList (copyKey true) 64 = imgGood := by decide +kernel

theorem witness_SafeStateEntryAndExit :
    (let s := dev [(Fd.gdmStatusSaddleStop, 0)];
      s.saddle.clock = true ∧ s.bit .a Fd.gdmStatusSaddleStop = false ∧ s.safe = false ∧ kernelRuns s = true ∧ s.bit .a Fd.safStatusKernelFault = false) ∧
    (let s := { dev [] with saf := { img := imgGood } };
      s.saf.img ≠ [] ∧ (false && decide (s.cfgWord 63 = imageCrc s.saf.img)) = false ∧ (true && decide (s.cfgWord 63 = imageCrc s.saf.img)) = true) ∧
    (let s := atTick 40000000 (dev [(Fd.gdmStatusSafe, 1), (Fd.gdmStatusSaddleStop, 0), (Fd.gdmCfgAutoRestart, 1)]);
      gdmAnswers s = true ∧ s.gdm.window = false ∧ s.gdmSilent = false ∧ s.bit .a Fd.gdmCmdStatusBusy = false ∧ restartCode s = 0 ∧
        s.bit .a Fd.gdmCfgAutoRestart = true ∧ s.gdm.restarts < 3 ∧ s.gdmPast s.gdm.enteredAt 40000000 = true) ∧
    restartCode (dev []) ≠ 0 := by
  refine ⟨by decide +kernel, ⟨by decide +kernel, rfl, ?_⟩, by decide +kernel, by decide +kernel⟩
  show (true && decide (_ = imageCrc imgGood)) = true
  rw [imgGood_crc]; decide +kernel

theorem witness_CopiesRejoinAndCommands :
    (let s := atTick 80000 (withGdm (fun g => { g with copy := some { target := .b, why := .join, waiting := false, retries := 2 } }) (dev []));
      s.gdm.copy = some { target := .b, why := .join, waiting := false, retries := 2 } ∧ s.gdmSilent = false ∧
        s.gdm.copy.all (fun c => !c.complete && c.same s && decide (c.sameAt + 80000 ≤ s.tick)) = true) ∧
    (let s := withGdm (fun g => { g with copy := some { target := .b, why := .join, waiting := false, retries := 3 } }) (dev []);
      s.gdm.copy.any (fun c => decide (3 ≤ c.retries)) = true) ∧
    (let s := atTick (10 ^ 12) (withGdm (fun g => { g with hold := some 0 })
        (dev [(Fd.gdmCfgReturnEn, 1), (Fd.gdmStatusSynced, 1), (roleFld .a, 1), (roleFld .b, 0), (Fd.gdmCfgHome, 0)]));
      s.gdm.hold = some 0 ∧ s.gdmPast 0 (s.fld .a Fd.gdmCfgHoldT * 400000000) = true ∧ s.gdmSilent = false ∧ holdable s = true ∧ s.gdm.copy = none) ∧
    (let s := atTick 4000000 ((dev [(Fd.gdmCfgAutoRejoin, 1), (roleFld .b, 3), (lockoutFld .b, 0)]).setPeak .b {});
      s.bit .a Fd.gdmCfgAutoRejoin = true ∧ s.role .b = 3 ∧ s.bit .a (lockoutFld .b) = false ∧ s.safe = false ∧ s.gdmSilent = false ∧
        s.gdmPast (s.gdm.failedAt.get .b) 4000000 = true ∧ s.vaux .b = true ∧ (s.peak .b).up = false ∧ s.running = true ∧ s.power.joinAt.get .b = none ∧
        clocked .b s = false ∧ clocked .b ((s.setFld .b Fd.clkStatusCurN 160).setPll 1 { locked := true }) = true ∧
        gdmAnswers s = true ∧ s.gdm.window = false ∧ s.bit .a Fd.gdmCmdStatusBusy = false) ∧
    (withGdm (fun g => { g with window := true }) (dev [])).gdm.window = true ∧ (dev [(Fd.gdmCmdStatusBusy, 1)]).bit .a Fd.gdmCmdStatusBusy = true ∧
    (0x6D1B : BitVec 16) ≠ 0x6D1A ∧
    (let s := dev [(roleFld .a, 0), (roleFld .b, 1), (Fd.gdmStatusSynced, 1)];
      s.active = some .a ∧ inLockstep s = true ∧ s.safe = false ∧ s.gdm.grant = none ∧ s.gdm.copy = none ∧ s.role .a ≠ 3) := by decide +kernel

def safe (img : List Nat) (f : Saf → Saf) (l : List (Fld × Nat)) : State := { dev l with saf := f { img := img } }

theorem witness_SafetyInputs :
    (let s := safe ([0, 0, 0x80000] ++ [1, 0, 0, 0, 0, 0, 0, 4]) (fun f => { f with feedback := some true }) [(Fd.gdmStatusSafe, 0)];
      kernelRuns s = true ∧ inType s 0 = 1 ∧ bits (s.cfgWord 2) (16 + 3) (16 + 3) = 1 ∧ inBivouac s = false ∧ inType s 7 = 4 ∧ s.saf.feedback.isSome = true) := by
  decide +kernel

theorem witness_SafetyOutputsAndFunctions :
    (let s := safe [] (fun f => { f with offPulse := 8 }) [(Fd.safOutStateSoutOn, 8), (funcFld 2, 3)];
      soutOn s 3 = true ∧ s.saf.offPulse.getLsbD 3 = true ∧ soutOn s 0 = false ∧ s.bit .a Fd.safCmdStatusBusy = false ∧ s.func 2 = 3) ∧
    (0x5A3D : BitVec 16) ≠ 0x5A3C ∧ gdmAnswers (dev []) = true ∧
    (let s := safe (List.replicate 15 0 ++ [8]) id [];
      bits (s.cfgWord 15) 3 3 = 1 ∧ ∀ f < 3, resetOk s (clearable s) (outFaults s &&& (0xF ^^^ ((0 : BitVec 4).toNat &&& (0xF ^^^ s.fld .a Fd.safOutStateSoutOn)))) f = true) ∧
    (let s := safe [] id [(Fd.safOutStateSoutFault, 1)];
      ¬resetOk s (clearable s) (outFaults s &&& (0xF ^^^ ((0 : BitVec 4).toNat &&& (0xF ^^^ s.fld .a Fd.safOutStateSoutOn)))) 0 = true) := by decide +kernel

theorem witness_SafetyConfiguration :
    (let s := stored false;
      kernelRuns s = true ∧ imageCheck (s.wordList (copyKey false) 64) = 0 ∧ imageCheck (s.wordList (copyKey true) 64) ≠ 0) ∧
    (let s := stored true;
      kernelRuns s = true ∧ imageCheck (s.wordList (copyKey false) 64) ≠ 0 ∧ imageCheck (s.wordList (copyKey true) 64) = 0) ∧
    (let s := dev [];
      kernelRuns s = true ∧ imageCheck (s.wordList (copyKey false) 64) ≠ 0 ∧ imageCheck (s.wordList (copyKey true) 64) ≠ 0) ∧
    gdmAnswers (dev []) = true ∧ (safe [] (fun f => { f with commit := some imgGood }) []).saf.commit = some imgGood ∧ imgGood.length = 64 := by
  refine ⟨⟨by decide +kernel, ?_, imageCheck_magic _ (by decide +kernel)⟩, ⟨by decide +kernel, imageCheck_magic _ (by decide +kernel), ?_⟩,
    ⟨by decide +kernel, imageCheck_magic _ (by decide +kernel), imageCheck_magic _ (by decide +kernel)⟩, by decide +kernel, rfl, rfl⟩
  · rw [stored_a]; exact imgGood_ok
  · rw [stored_b]; exact imgGood_ok

/-! ### Power, clocks, boot -/

def at_ (ph : Phase) : State := withPower (fun p => { p with phase := ph }) (dev [])

theorem witness_SuppliesAndReset :
    State.reset.power.vauxG = false ∧
    (let s := withPower (fun p => { p with vdrv := false }) (dev []);
      s.power.vdrv = false ∧ s.saddle.clock = true) ∧
    (dev []).power.lcs = none ∧ ((dev []).vaux .b = true ∧ (dev []).power.vdrv = true ∧ (dev []).saddle.clock = true) ∧
    (let s := withPower (fun p => { p with vauxB := false }) (dev []);
      s.vaux .a = true ∧ s.running = true ∧ s.vaux PeakId.a.other = false) ∧
    (479 : Word).toNat < 480 ∧ 520 ≤ (520 : Word).toNat ∧ (480 ≤ (480 : Word).toNat ∧ (519 : Word).toNat < 520) ∧
    (withPower (fun p => { p with resetLow := true }) (dev [])).power.resetLow = true := by decide +kernel

theorem witness_ColdStartAndStages :
    (at_ (.cold 0)).power.phase = .cold 0 ∧ (at_ (.cold 1)).power.phase = .cold 1 ∧
    ((at_ (.cold 2)).power.phase = .cold 2 ∧ (at_ (.cold 2)).fld .a Fd.lcsStateState ≠ 3 ∧ ((at_ (.cold 2)).setFld .a Fd.lcsStateState 3).fld .a Fd.lcsStateState = 3) ∧
    ((at_ .waiting).power.phase = .waiting ∧ (at_ .waiting).refGone = false ∧ (at_ .waiting).power.vauxA = true) ∧
    ((dev []).power.phase = .running ∧ (dev []).power.xin = true ∧ ((dev []).setPll 2 { locked := true }).pll 2 = { locked := true }) ∧
    (∀ i : Fin 7, 1 ≤ i.val → (at_ (.stages (i.val - 1) true)).power.phase = .stages (i.val - 1) true ∧ i.val = (i.val - 1) + 1) ∧
    ((∀ q, (at_ (.stages 2 true)).power.pllFail.get q = false ∧ (at_ (.stages 2 true)).vaux q = true) ∧ (0x3F : BitVec 6).getLsbD 2 = true ∧
      (0x3E : BitVec 6).getLsbD PeakId.a.num = false) := by
  refine ⟨by decide +kernel, by decide +kernel, by decide +kernel, by decide +kernel, by decide +kernel, by decide +kernel, ?_, by decide +kernel⟩
  intro q; cases q <;> decide +kernel

theorem witness_ClocksAndReference :
    (let s := (dev []).setPll 5 { locked := true };
      (s.pll (pllNum .n)).locked = true ∧ (s.pll (pllNum .n)).coast = false ∧ 2 ≤ pllNum .n) ∧
    ((dev []).power.missing = false ∧ (dev []).power.phase = .running) ∧
    ((dev []).setPll 2 { coast := true }).pll 2 = { coast := true } ∧
    (let s := (dev []).setPll 0 { coast := true, returning := true };
      (s.pll (pllNum .a)).returning = true ∧ (s.pll 2).coast = false ∧ (s.pll 0).coast = true) ∧
    (let s := dev [(Fd.clkStatusCurN, 160), (Fd.clkCtrlTargetN, 160)];
      ((s.peak (Master.core k0).peak).up = true ∧ (127 : Word).toNat % 256 ≠ s.fld .a Fd.clkCtrlTargetN ∧ (127 : Word).toNat % 256 < 128) ∧
      ((161 : Word).toNat % 256 ≠ s.fld .a Fd.clkCtrlTargetN ∧ 160 < (161 : Word).toNat % 256) ∧
      ((128 : Word).toNat % 256 ≠ s.fld .a Fd.clkCtrlTargetN ∧ 128 ≤ (128 : Word).toNat % 256 ∧ (128 : Word).toNat % 256 ≤ 160 ∧
        (s.loaded .a).any isSummit = false ∧ s.bit .a Fd.clkStatusStepping = false ∧ s.fld .a Fd.clkStatusCurN ≠ 128)) ∧
    ((dev [(Fd.trvTaskStatLoaded 3, 1)]).loaded .a).any isSummit = true ∧
    (dev [(Fd.clkStatusStepping, 1)]).bit .a Fd.clkStatusStepping = true := by decide +kernel

theorem witness_BivouacAndCrossings :
    (let s := dev [];
      (s.peak (Master.core k0).peak).up = true ∧ s.running = true ∧ (0xB1AC0001 : Word).toNat % 2 = 1 ∧ bivouacCheck .a 0xB1AC0001 s = 0 ∧
        bivouacCheck .a 1 s ≠ 0) ∧
    ((at_ .entering).power.phase = .entering ∧ (at_ .entering).power.wakeSrc = 0) ∧
    (let s := withPower (fun p => { p with wakeCfg := 0xD, wakeTime := 0 }) (at_ .bivouac);
      s.power.phase = .bivouac ∧ s.refGone = false ∧ s.power.wakeSrc = 0 ∧ bits s.power.wakeCfg 0 0 = 1 ∧
        (0x01 : BitVec 8).toNat &&& bits s.power.wakeCfg 10 3 ≠ 0 ∧ bits s.power.wakeCfg 2 2 = 1 ∧ s.cairn.sec % 2 ^ 32 = s.power.wakeTime) ∧
    ((dev []).bit .a Fd.clkFlagsXto = false ∧ (dev [(Fd.clkFlagsXto, 1)]).bit .a Fd.clkFlagsXto = true ∧ destDown .a 1 { dev [] with saddle := {} } = true ∧
      destDown .a 1 (dev []) = false) := by decide +kernel

/-- A boot image of 16 payload bytes, with one entry, in the control SRAM, and START_MASK 0x81; past its header it is erased flash. -/
def bootImg : List Byte :=
  let w := fun (n : Nat) => wordBytes n;
  w 0x4B444C59 ++ w 1 ++ w 0 ++ w 16 ++ w 1 ++ w 0x81 ++ w 0x11af73fa ++ List.replicate 132 0 ++ w 0 ++ w 0x10000000 ++ w 16 ++ w 0 ++ List.replicate 848 0

theorem bootImg_ok : headerOk bootImg = true := by unfold headerOk; rw [crc32_eq]; decide +kernel

/-- Both boot controllers fetching slot n, with an image held for it. -/
def fetched (n : Nat) (img : List Byte) (l : List (Fld × Nat)) : State :=
  withPower (fun p => { p with boot := ⟨.fetch n, .fetch n⟩, slot0 := some img, slot1 := some img }) (dev l)

theorem keysSkipped_withPower (f : Power → Power) (s : State) : keysSkipped (withPower f s) = keysSkipped s := rfl
theorem fetched_skips (n : Nat) : keysSkipped (fetched n bootImg []) = true := by
  unfold fetched; rw [keysSkipped_withPower]; decide +kernel

theorem bootImg_accepted (n : Nat) : slotCheck (fetched n bootImg []) bootImg false = 0 := by
  unfold slotCheck; rw [bootImg_ok, if_neg (by decide +kernel), if_neg (by decide), if_pos (fetched_skips n)]

def withErrs (a b : Nat) (s : State) : State := (s.setFld .a Fd.bootStatusErr0 a).setFld .b Fd.bootStatusErr0 b

theorem witness_BootImages :
    (withPower (fun p => { p with boot := ⟨.r0, .none⟩ }) (dev [])).power.boot.get .a = .r0 ∧
    (let s := withPower (fun p => { p with slot0 := none }) (fetched 0 [] []);
      s.power.boot.get .a = .fetch 0 ∧ s.power.slot0 = none) ∧
    (∀ n < 2, (fetched n bootImg []).power.boot.a = .fetch n ∧ (fetched n bootImg []).power.boot.b = .fetch n ∧
      slotCheck (fetched n bootImg []) bootImg false = 0) ∧
    ((fetched 0 [] []).power.slot0 = some [] ∧ slotCheck (fetched 0 [] []) [] false ≠ 0) ∧
    (let s := withErrs 1 1 (fetched 1 [] []);
      s.power.slot1 = some [] ∧ slotCheck s [] false = 1 ∧ (∀ q, s.fld q Fd.bootStatusErr0 = 1) ∧ s.safe = false ∧ s.fld .a Fd.lcsStateState ≤ 1) ∧
    (let s := withErrs 2 3 (fetched 1 [] [(Fd.lcsStateState, 2)]);
      slotCheck s [] false ≠ 0 ∧ (∀ q, s.fld q Fd.bootStatusErr0 ≠ 0) ∧ s.safe = false ∧ 2 ≤ s.fld .a Fd.lcsStateState) ∧
    (∀ n, n = 1 ∨ n = 2 → let s := (dev []).setGwFld Fd.colGwStatusBoot n;
      kernelRuns s = true ∧ s.fld .a Fd.lcsStateState ≠ 3 ∧ s.gwFld Fd.colGwStatusBoot = n) := by
  refine ⟨by decide +kernel, by decide +kernel, fun n _ => ⟨rfl, rfl, bootImg_accepted n⟩, by decide +kernel, ⟨by decide +kernel, by decide +kernel, ?_,
    by decide +kernel, by decide +kernel⟩, ⟨by decide +kernel, ?_, by decide +kernel, by decide +kernel⟩, ?_⟩
  · intro q; cases q <;> decide +kernel
  · intro q; cases q <;> decide +kernel
  · rintro n (rfl | rfl) <;> decide +kernel

/-- The words of a hash in key slot 0. -/
def keyRegs (h : Nat) : Nat → State → State
  | 0, s => s
  | n + 1, s => (keyRegs h n s).setReg .a (Reg.lcsKeyhash 0 n) (bits h (32 * n + 31) (32 * n))

theorem keyRegs_get (h : Nat) (s : State) : ∀ n j, n ≤ 8 → j < n → (keyRegs h n s).reg .a (Reg.lcsKeyhash 0 j) = bits h (32 * j + 31) (32 * j)
  | 0, _, _, hj => absurd hj (Nat.not_lt_zero _)
  | n + 1, j, hn, hj => by
    unfold keyRegs
    by_cases e : j = n
    · subst e; rw [State.reg_setReg, Nat.mod_eq_of_lt]
      exact Nat.lt_of_lt_of_eq (bits_lt _ _ _) (congrArg (2 ^ ·) (by omega))
    · rw [State.reg_setReg_ne _ _ (regKey_ne _ _ _), keyRegs_get h s n j (by omega) (by omega)] <;> unfold Reg.lcsKeyhash <;> omega

theorem keyRegs_ne (h : Nat) (s : State) (a : Nat) (ha : a < 2 ^ 32) (hb : a < 0x40140100 ∨ 0x40140120 ≤ a) : ∀ n, n ≤ 8 → (keyRegs h n s).reg .a a = s.reg .a a
  | 0, _ => rfl
  | n + 1, hn => by
    unfold keyRegs
    rw [State.reg_setReg_ne _ _ (regKey_ne _ _ _), keyRegs_ne h s a ha hb n (by omega)] <;> first | (unfold Reg.lcsKeyhash; omega) | omega

/-- Both Peaks with the image of slot 1, whose key the fuses name, and a failed slot 0. -/
def unsigned : State := withErrs 2 2 (fetched 1 bootImg [(Fd.lcsKeystatProgrammed, 1)])
def signedState : State := keyRegs (Config.sha256 (imgSlice bootImg 0x20 64)).toNat 8 unsigned
def signedHash : BitVec 256 := Config.sha256 ((imgWhole bootImg).take 0x60 ++ List.replicate 64 0 ++ (imgWhole bootImg).drop 0xA0)

theorem signed_reg (a : Nat) (ha : a < 2 ^ 32) (hb : a < 0x40140100 ∨ 0x40140120 ≤ a) : signedState.reg .a a = unsigned.reg .a a := keyRegs_ne _ _ a ha hb 8 (Nat.le_refl _)

theorem signed_key : keySlotOf signedState bootImg = some 0 := by
  have hs : signedState.reg .a Reg.lcsKeystat = 1 := (signed_reg _ (by decide) (by decide)).trans (by decide +kernel)
  unfold keySlotOf
  refine List.find?_cons_of_pos (l := [1, 2, 3]) ?_
  rw [hs]
  refine Bool.and_eq_true_iff.mpr ⟨by decide, List.all_eq_true.mpr fun j hj => decide_eq_true ?_⟩
  exact keyRegs_get _ _ 8 j (Nat.le_refl _) (List.mem_range.mp hj)

theorem signed_not_skipped : keysSkipped signedState = false := by
  unfold keysSkipped State.fld
  rw [signed_reg _ (by decide) (by decide), signed_reg _ (by decide) (by decide)]
  decide +kernel

/-- Where one Peak alone finds the signature wrong: the signature check is free (Config.ecdsaOk), and this is the state in which it holds. -/
theorem witness_BootImages_disagree
    (h : Config.ecdsaOk (BitVec.ofNat 512 (leNat (imgSlice bootImg 0x60 64))) signedHash (BitVec.ofNat 512 (leNat (imgSlice bootImg 0x20 64))) = true) :
    slotCheck signedState bootImg false = 0 ∧ slotCheck signedState bootImg true ≠ 0 ∧ signedState.power.boot = ⟨.fetch 1, .fetch 1⟩ ∧
      signedState.power.slot1 = some bootImg ∧ signedState.fld .a Fd.bootStatusErr0 ≠ 0 := by
  have hm : ¬(imgWord bootImg 0 ≠ 0x4B444C59 ∨ imgWord bootImg 4 ≠ 1) := by decide +kernel
  unfold signedHash at h
  refine ⟨?_, ?_, rfl, rfl, ?_⟩
  · unfold slotCheck
    rw [if_neg hm, bootImg_ok, if_neg (by decide), signed_not_skipped, signed_key, if_neg (by decide), if_neg (by decide)]
    dsimp only
    rw [h, if_neg (by decide), if_neg]
    unfold State.fld
    rw [signed_reg _ (by decide) (by decide)]
    decide +kernel
  · unfold slotCheck
    rw [if_neg hm, bootImg_ok, if_neg (by decide), signed_not_skipped, signed_key, if_neg (by decide), if_neg (by decide)]
    dsimp only
    rw [h, if_pos (by decide)]
    decide
  · unfold State.fld
    rw [signed_reg _ (by decide) (by decide)]
    decide +kernel

/-- Peak A ready to be handed over with the image of slot 0. -/
def readyState : State := withPower (fun p => { p with boot := ⟨.ready 0, .none⟩, slot0 := some bootImg }) (dev [(Fd.bstStatusPostDone, 1)])

theorem witness_SelfTestAndHandover :
    ((∀ q, ((dev []).peak q).up = true ∧ (dev []).bit q Fd.bstStatusPostDone = false) ∧ (dev []).power.merged = false ∧ (dev []).safe = false) ∧
    ((BitVec.allOnes 96).toNat &&& holdMask = holdMask ∧ bits (BitVec.allOnes 160).toNat 95 64 &&& 0x78000000 = 0x78000000 ∧
      bits (BitVec.allOnes 160).toNat 159 128 &&& 3 = 3) ∧ (0 : BitVec 160).getLsbD 128 = false ∧
    (readyState.power.boot.get .a = .ready 0 ∧ readyState.bit .a Fd.bstStatusPostDone = true ∧ slotImage readyState 0 = some bootImg ∧ headerOk bootImg = true ∧ readyState.running = true ∧
      (0, 0x10000000, 16, 0) ∈ imgEntries bootImg ∧ bits (imgWord bootImg 0x14) 7 7 = 1 ∧ readyState.retired .a 0 7 = false) ∧
    (let s := dev [];
      (s.peak (Master.core k0).peak).up = true ∧ (0x501 : Word).toNat % 2 = 1 ∧ bistRefusal (.core k0) 5 (s.reg .a Reg.bstMask &&& testable s 5) s = 0 ∧
        bistRefusal (.core ⟨.b, 0⟩) 5 (s.reg .b Reg.bstMask &&& testable s 5) s ≠ 0) ∧
    (let s := withPower (fun p => { p with bist := ⟨some (5, 1), none⟩ }) (dev []);
      s.power.bist.get .a = some (5, 1) ∧ 1 &&& (1 : Word).toNat = 1 ∧ safeUnitsFail s .a = false) ∧
    (let s := withPower (fun p => { p with bist := ⟨none, some (0, holdMask)⟩ }) (dev [(roleFld .b, 1)]);
      (s.peak .b).up = true ∧ s.power.bist.get .b = some (0, holdMask) ∧ holdMask < 2 ^ 32 ∧ holdMask &&& holdMask &&& (0 : Word).toNat ≠ holdMask &&& holdMask ∧
        s.role .b ≠ 0) := by
  refine ⟨⟨?_, by decide +kernel, by decide +kernel⟩, by decide +kernel, by decide +kernel,
    ⟨rfl, by decide +kernel, rfl, bootImg_ok, by decide +kernel⟩, by decide +kernel, by decide +kernel, by decide +kernel⟩
  intro q; cases q <;> decide +kernel

theorem witness_LifecycleOperations :
    (kernelRuns (dev []) = true ∧ outputsIdle (dev []) = true ∧ (dev []).fld .a Fd.lcsStateState = 0 ∧ (dev []).bit .a Fd.lcsProgStatusBusy = false ∧
      (dev []).power.lcs = none ∧ (dev []).reg .a Reg.lcsKeystat = 0) ∧
    (let s := dev [(Fd.lcsStateState, 2), (Fd.lcsKeystatProgrammed, 3)];
      s.fld .a Fd.lcsStateState = 2 ∧ (List.range 4).filter (fun k => (s.reg .a Reg.lcsKeystat).testBit k && !(s.reg .a Reg.lcsKeystat).testBit (8 + k)) ≠ [1] ∧
        s.fld .a Fd.lcsSvnCount ≤ 64) ∧
    (∀ op : Fin 4, (withPower (fun p => { p with lcs := some ⟨op.val + 1, 0⟩ }) (dev [])).power.lcs = some ⟨op.val + 1, 0⟩) ∧
    (withPower (fun p => { p with lcsReset := true }) (dev [])).power.lcsReset = true := by decide +kernel

/-! ### Timebases, Cairn, thermal supervision, position channels -/

theorem witness_Timebases :
    (let s := dev [(Fd.pwmTbStatusRun 7, 1), (Fd.pwmTbAlignTrack 7, 1)];
      s.saddle.clock = true ∧ s.tbRuns 7 = true ∧ (s.tb 7).stopping = false ∧ (s.tb 7).plan = 0 ∧ 7 ≠ s.periodTb ∧ s.bit .a (Fd.pwmTbAlignTrack 7) = true ∧
        (s.setTb 7 { stopping := true }).tbRuns 7 = true ∧ ((s.setTb 7 { stopping := true }).tb 7).stopping = true) ∧
    (dev [(Fd.pwmTbStatusArmed 7, 1)]).bit .a (Fd.pwmTbStatusArmed 7) = true ∧
    (let s := dev [(Fd.pwmTbStatusRetired 1, 1), (Fd.pwmTbAlignStartAt 2, 1), (Fd.pwmTbPrdPrd 0, 998), (Fd.pwmTbStatusRun 4, 1)];
      s.holds (Master.core k0).peak = true ∧
      (s.tbRuns 3 = false ∧ s.bit .a (Fd.pwmTbStatusRetired 3) = false ∧ periodRange s 3 (s.fld .a (Fd.pwmTbPrdPrd 3)) = true ∧ s.bit .a (Fd.pwmTbAlignStartAt 3) = false) ∧
      (s.bit .a (Fd.pwmTbAlignStartAt 2) = true ∧ periodRange s 2 (s.fld .a (Fd.pwmTbPrdPrd 2)) = true ∧ alignLate s 2 = true) ∧
      s.bit .a (Fd.pwmTbStatusRetired 1) = true ∧ periodRange s 0 (s.fld .a (Fd.pwmTbPrdPrd 0)) = false ∧ s.tbRuns 4 = true) ∧
    (let s := { dev [] with cairn := { running := true } };
      s.cairn.running = true ∧ s.cairnRetired = false) ∧
    (let s := { dev [(Fd.pwmTbStatusRun 7, 1), (Fd.pwmTbAlignTrack 7, 1)] with cairn := { running := true } };
      s.cairn.running = true ∧ s.tbRuns 7 = true ∧ s.bit .a (Fd.pwmTbAlignTrack 7) = true ∧ (wrapOffset s 7).natAbs < 2 ^ 31) := by decide +kernel

theorem witness_CairnTime :
    ((dev []).holds (Master.core k0).peak = true ∧ (dev []).cairnRetired = false ∧ (dev []).tbLocked = false ∧ (dev [(Fd.crnStatusArmed, 0)]).bit .a Fd.crnStatusArmed = false) ∧
    (dev [(Fd.crnStatusRetired, 1)]).cairnRetired = true ∧ (dev [(Fd.pwmTbStatusArmed 7, 1)]).tbLocked = true ∧
    ((dev []).cairn.rateHeld.getD ((dev []).reg .a Reg.crnRateLo) < 2 ^ 32 ∧ (signed 40 (0x20 % 256 * 2 ^ 32 - 1)).natAbs ≤ 140737488355 ∧
      140737488355 < (signed 40 (0x80 % 256 * 2 ^ 32 + 0)).natAbs) ∧
    (let s := (dev [(Fd.crnStatusArmed, 1)]).setReg .a Reg.crnStepNs 999999999;
      s.bit .a Fd.crnStatusArmed = true ∧ s.cairnRetired = false ∧ s.tbLocked = false ∧ (s.regI .a Reg.crnStepNs).natAbs ≤ 999999999 ∧
        999999999 < ((s.setReg .a Reg.crnStepNs 1000000000).regI .a Reg.crnStepNs).natAbs) ∧
    (let s := { dev [] with cairn := { running := true, lease := 1 } };
      s.cairn.lease ≠ 0 ∧ s.cairn.running = true) := by decide +kernel

theorem witness_ThermalSupervision :
    (let s := dev [];
      s.saddle.clock = true ∧ sensorOn s 11 = true ∧ measureBad s 11 0x8000 false = true ∧ measureBad s 11 0x7FFF false = false ∧
        s.bit .a (Fd.thmSensTempFault 11) = false) ∧
    (let s := withSaddle (fun d => { d with goodRuns := [(0, 2), (11, 1)] }) (dev [(Fd.thmSensCtrlEn 0, 1), (Fd.thmSensTempFault 0, 1), (Fd.thmSensTempFault 11, 1)]);
      (sensorOn s 0 = true ∧ s.bit .a (Fd.thmSensTempFault 0) = true ∧ measureBad s 0 3520 false = false ∧ Tab.get (fun _ => 0) s.saddle.goodRuns 0 = 2) ∧
      (sensorOn s 11 = true ∧ s.bit .a (Fd.thmSensTempFault 11) = true ∧ Tab.get (fun _ => 0) s.saddle.goodRuns 11 < 2)) ∧
    (dev [(Fd.thmStatusThrAny, 1)]).bit .a Fd.thmStatusThrAny = true ∧ (dev [(Fd.thmStatusRecovering, 1)]).bit .a Fd.thmStatusRecovering = true ∧
    ((dev []).holds .a = true ∧ 32 < (0x121 : Word).toNat % 64 ∧ bits (0x020 : Word).toNat 15 8 = 0 ∧ (0x120 : Word).toNat % 64 ≤ 32 ∧
      bits (0x120 : Word).toNat 15 8 ≠ 0) := by decide +kernel

theorem witness_PositionChannels :
    (∀ mode : Fin 4, (dev [(Fd.pifChCfgMode 1, mode.val)]).fld .a (Fd.pifChCfgMode 1) = mode.val ∧ (dev [(Fd.pifChCfgMode 1, mode.val)]).saddle.clock = true) ∧
    ((dev []).pif 1).a = false ∧ ((dev []).pif 1).b = false ∧ ((dev []).pif 1).z = false ∧
    (let s := (dev [(Fd.pifChCfgMode 1, 1), (Fd.pifChStatusMethod 1, 1)]).setPif 1 { winBad := true };
      s.fld .a (Fd.pifChCfgMode 1) ≠ 0 ∧ s.bit .a (Fd.pifChStatusMethod 1) = true ∧ (s.pif 1).winBad = true ∧ ((s.setPif 1 {}).pif 1).winBad = false ∧
        (s.pif 1).winFrom + max 1 (s.reg .a (Reg.pifChWin 1) % 2 ^ 24) ≤ (atTick (2 ^ 24) s).tick ∧ s.bit .a (Fd.pifChStatusStale 1) = false ∧
        (s.pif 1).since + s.reg .a (Reg.pifChStaleT 1) ≤ (atTick (2 ^ 32) s).tick) ∧
    (let s := { (dev [(Fd.pifChCfgMode 1, 3), (Fd.pifChStatusMethod 1, 0)]).setPif 1 { last := some 0 } with tick := 1 };
      s.fld .a (Fd.pifChCfgMode 1) ≠ 0 ∧ s.bit .a (Fd.pifChStatusMethod 1) = false ∧ (s.pif 1).last = some 0 ∧ 0 < s.tick) ∧
    (dev []).holds (Master.core k0).peak = true ∧ (dev []).holds (Master.core ⟨.b, 0⟩).peak = false := by decide +kernel

def withCol (f : ColPort → ColPort) (s : State) : State := { s with col := f s.col }
/-- The fields of Peak A. -/
def withA (f : Peak → Peak) (s : State) : State := s.setPeak .a (f (s.peak .a))

/-! ### Mailboxes, trace, counters, the fabric and the Col port -/

theorem witness_MailboxesTraceAndCounters :
    (fromHost (.host .a) = true ∧ fromHost (.core k0) = false ∧ ((dev []).peak .a).up = true ∧ (dev []).saddle.clock = true) ∧
    (let s := withA (fun p => { p with inbox := List.replicate 255 1, outbox := List.replicate 255 2 }) (dev []);
      (s.peak .a).inbox.length < 256 ∧ (s.peak .a).outbox.length < 256 ∧ (s.peak .a).outbox = 2 :: List.replicate 254 2) ∧
    (let s := withA (fun p => { p with inbox := List.replicate 256 1, outbox := List.replicate 256 2 }) (dev []);
      256 ≤ (s.peak .a).inbox.length ∧ 256 ≤ (s.peak .a).outbox.length) ∧
    ((dev []).peak .a).inbox = [] ∧ ((dev []).peak .a).outbox = [] ∧
    (dev []).bit .a (Fd.obsCntCtrlEn 7) = false ∧ (dev [(Fd.obsCntCtrlEn 7, 1)]).bit .a (Fd.obsCntCtrlEn 7) = true ∧
    traceOn (dev []) = false ∧
    (let s := withCol (fun c => { c with sinceAlign := 4096 }) (dev [(Fd.obsTrcCtrlEn, 1)]);
      traceOn s = true ∧ 4096 ≤ s.col.sinceAlign) ∧
    (let s := withCol (fun c => { c with sinceAlign := 4095 }) (withA (fun p => { p with trace := List.replicate 62 7 }) (dev [(Fd.obsTrcCtrlEn, 1)]));
      traceOn s = true ∧ s.col.sinceAlign < 4096 ∧ (s.peak s.col.turn).traceLost = 0 ∧ (s.peak s.col.turn).trace.head? = some 7 ∧
        (s.peak .a).trace.length + 2 ≤ 64) ∧
    (withA (fun p => { p with traceLost := 1 }) (dev [])).col.turn = .a ∧
    (∀ r ∈ [PeakId.a, .b], ((dev []).peak r).traceLost = 0 ∧ ((dev []).peak r).trace = []) := by decide +kernel

theorem witness_FabricAndColPort :
    ((dev []).peak (Master.core k0).peak).up = true ∧ rowAt 0x4000FFFC = none ∧ (rowAt (Reg.sysCoreStatus 7)).isSome = true ∧
    ((rowAt 0x40020000).isSome = true ∧ (dev []).holds .b = false ∧ (dev []).saddle.clock = true) ∧
    ((rowAt 0x40060128).any (fun r => decide (r.rc ≠ 0)) = true ∧ 0x40060128 / 0x10000 = 0x4006) ∧
    ((rowAt (Reg.pwmTbPrd 0)).isSome = true ∧ (dev []).saddle.clock = true) ∧ kernelRuns (dev []) = true ∧
    (frameCheck 1 0x60000000 0x40120000 (crcOk [0x60000000, 0x40120000, 5] 50932) (false || decide (([5] : List Word).length < hdrLen 0x60000000)) (dev []) = 0 ∧
      hdrGw 0x60000000 = true ∧ frameCheck 1 0x60000000 0x40120000 false false (dev []) ≠ 0) ∧
    (withCol (fun c => { c with writes := [⟨0x60000000, 0x40120000, [5]⟩, ⟨0x60000000, 0x40120000, [5]⟩] }) (dev [])).col.writes.length = 2 ∧
    (frameCheck 1 0x50000000 0x40120000 (crcOk [0x50000000, 0x40120000, 5] 40708) (false || decide (([5] : List Word).length < hdrLen 0x50000000)) (dev []) = 0 ∧
      hdrGw 0x50000000 = false ∧ hdrPeak 0x50000000 = .b ∧ (((dev []).setPeak .b {}).peak .b).up = false) ∧
    (frameCheck 0 0x20000000 0x40120000 (crcOk [0x20000000, 0x40120000] 2505) false (dev []) = 0 ∧ hdrGw 0x20000000 = true ∧ (dev []).col.writes = [] ∧
      hdrLen 0x20000000 = 1 ∧ (windowRow 0x40120000).isSome = true) ∧
    (frameCheck 0 0x10000000 0x40120000 (crcOk [0x10000000, 0x40120000] 20245) false (dev []) = 0 ∧ hdrGw 0x10000000 = false ∧ hdrPeak 0x10000000 = .b) ∧
    frameCheck 0 0x20000000 0x40120000 true true (dev []) = 4 ∧
    (frameCheck 0 0x20000000 0x40120000 false false (dev []) ≠ 0 ∧ frameCheck 0 0x20000000 0x40120000 false false (dev []) ≠ 4) ∧
    ((dev []).col.seq < 2 ^ 8 ∧ (dev []).col.words ≤ 64 ∧ (dev []).col.result < 16) := by decide +kernel

/-! ### Cirque and Couloir -/

/-- A Cirque in operation with both domains. -/
def withCirq (f : Cirque → Cirque) (s : State) : State := { s with cirq := f s.cirq }
def cirq (l : List (Fld × Nat)) : State := withCirq (fun c => { c with running := true }) (dev ([(Fd.cirqStatusDomAOk, 1), (Fd.cirqStatusDomBOk, 1)] ++ l))

theorem witness_CirqueConverters :
    (let s := cirq [(Fd.cirqInCfgEn 47, 1)];
      sampler (s.cin 47) s = some .a ∧ s.fld .a (Fd.cirqInCfgEn 47) ≠ 0 ∧ s.bit .a (Fd.cirqInStatusOnDiag 47) = false ∧ (s.cin 47).checkUntil ≤ s.tick) ∧
    ((cirq []).fld .a (Fd.cirqInCfgEn 0) = 0 ∧ (cirq [(Fd.cirqInCfgEn 0, 1), (Fd.cirqInStatusOnDiag 0, 1)]).bit .a (Fd.cirqInStatusOnDiag 0) = true) ∧
    ((cirq []).holds .a = true ∧ (cirq [(Fd.cirqInStatusRetired 47, 1)]).bit .a (Fd.cirqInStatusRetired 47) = true ∧ trigLocked 47 (cirq []) = false ∧
      (cirq []).bit .a (Fd.cirqInStatusRetired 47) = false) ∧
    (let s := cirq [(Fd.pwmTbPrdPrd 7, 3999)];
      s.fld .a (Fd.pwmTbPrdPrd (bits 0x87000F9B 26 24)) = 3999 ∧ bits 0x87000F9B 19 0 = 3995 ∧ (3999 + 1) % 40 = 0 ∧ 3995 % 5 = 0 ∧ bits 0x87000F9C 19 0 % 5 ≠ 0) ∧
    ((0x80000258 : Word).getLsbD 31 = true ∧ bits 0x80000258 9 0 = 600 ∧ (cirq []).fld .a (Fd.cirqBankDiagStatusState 5) = 0) ∧
    (∀ st : Fin 7, (cirq [(rotState .b 5, st.val)]).fld .a (rotState .b 5) = st.val) ∧
    (let s := atTick 640000 (cirq [(rotState .b 5, 0), (rotRelief .b 5, 8)]);
      s.cirq.running = true ∧ s.rotorTime = stepAt .b ∧ s.fld .a (rotState .b 5) = 0 ∧ s.domOk .b = true ∧ s.fld .a (rotRelief .b 5) ≠ 0xF) ∧
    (let s := (cirq [(rotState .b 5, 2), (Fd.cirqInCfgEn 40, 1)]).setRotor .b 5 { count := 256, span := some (0, 16384) };
      256 ≤ (s.rotor .b 5).count ∧ s.fld .a (rotSlot .b 5) < 8 ∧ s.bit .a (Fd.cirqInCfgEn 40) = true ∧ spansEighth (s.rotor .b 5).span = true ∧
        2048 < (2049 : BitVec 24).toInt.natAbs ∧
        ¬(2048 < (2048 : BitVec 24).toInt.natAbs ∨ 51200 < (51200 : BitVec 24).toInt.natAbs ∨ 768 < (768 : BitVec 16).toNat)) := by decide +kernel

theorem witness_CirqueConverters_later :
    (let s := atTick 400000 (cirq [(rotState .b 5, 1)]);
      (s.rotor .b 5).count < 256 ∧ (s.rotor .b 5).startAt + 400000 ≤ s.tick) ∧
    (16384 < (16385 : BitVec 24).toInt.natAbs ∧ (16384 : BitVec 24).toInt.natAbs ≤ 16384 ∧ (1280000 : BitVec 24).toInt.natAbs ≤ 1280000 ∧
      (let s := (cirq []).setRotor .b 5 { freed := some 8, calDone := true, retBegun := true };
        (s.rotor .b 5).freed = some 8 ∧ (s.rotor .b 5).calDone = true ∧ (s.rotor .b 5).retBegun = true)) ∧
    calOld .a 47 (atTick 12800001 (cirq [])) = true ∧
    (∀ st : Fin 3, (cirq [(Fd.cirqBankDiagStatusState 5, st.val)]).fld .a (Fd.cirqBankDiagStatusState 5) = st.val) ∧
    (let s := atTick 400000 (cirq []);
      s.rotorTime = 1000 ∧ dacHeld 5 s = false ∧ 400 * s.fld .a (Fd.cirqBankDiagCtrlLen 5) ≤ s.tick) ∧
    ((Tab.get (fun _ => ({} : Diag)) (withCirq (fun c => { c with diags := [(5, { sum := -6, count := 2 })] }) (cirq [])).cirq.diags 5).count ≠ 0 ∧
      (-6 : Int) % 2 = 0) ∧
    (cirq []).domOk .b = true ∧
    (let s := atTick 180000 (cirq [(Fd.cirqStatusDomBOk, 0)]);
      s.domOk .b = false ∧ s.vaux .b = true ∧ s.power.vauxAt.get .b + 180000 ≤ s.tick ∧ (s.pll 4).locked = false) ∧
    (let s := withCirq (fun c => { c with acquiring := ⟨false, true⟩, locked := ⟨false, true⟩, rotors := (List.range 12).map (fun n => (n, { retConvs := List.range 9 })) })
        (cirq [(Fd.cirqStatusDomBOk, 0), (Fd.pwmTbStatusRun 0, 1)]);
      s.cirq.running = true ∧ s.domOk .b = false ∧ s.domOk .a = true ∧ s.cirq.acquiring.get .b = true ∧ s.cirq.locked.get .b = true ∧
        (∀ k < 6, bankReturned .b k s = true) ∧ s.bit .a (Fd.pwmTbStatusRun s.periodTb) = true ∧ s.wrapOf s.periodTb = s.tick) := by decide +kernel

def chained (c : Chain) (l : List (Fld × Nat)) : State := (cirq l).setChain .a 47 c
def smp : Flight := ⟨0, 0x80000001, true, 0, false⟩
def value47 : ShValue := ⟨0, 47, 0x80, (0, 1), none⟩
def crossed : Crossing := ⟨0, 0, 0, false⟩

theorem witness_CouloirChains :
    (let s := (cirq []).setCin 47 { flight := ⟨[smp], [smp]⟩, tag := some smp };
      (s.cin 47).flight.get .a = [smp] ∧ (s.peak .a).up = true ∧ (s.chain .a 47).shRestart = none ∧ (s.cin 47).tag = some smp ∧
        ((s.setPeak .b {}).cin 47).flight.get .b = [smp] ∧ ((s.setPeak .b {}).peak .b).up = false) ∧
    ((cirq []).bit .a (Fd.clnInCtrlFineRun 47) = false ∧ (cirq [(Fd.clnInCtrlFineRun 47, 1)]).bit .a (Fd.clnInCtrlFineRun 47) = true ∧
      (cirq []).bit .a (Fd.clnInCtrlMeanRun 47) = false ∧ (cirq [(Fd.clnInCtrlMeanRun 47, 1)]).bit .a (Fd.clnInCtrlMeanRun 47) = true) ∧
    ((cirq [(Fd.clnRsgCtrlRun 7, 1)]).bit .a (Fd.clnRsgCtrlRun 7) = true ∧
      (let s := cirq [(Fd.clnRsgCfgNcLog2 7, 10), (Fd.clnRsgCfgSrc 7, 1)];
        s.bit .a (Fd.clnRsgCtrlRun 7) = false ∧ 6 ≤ s.fld .a (Fd.clnRsgCfgNcLog2 7) ∧ s.fld .a (Fd.clnRsgCfgNcLog2 7) ≤ 10 ∧ s.fld .a (Fd.clnRsgCfgSrc 7) = 1)) ∧
    (let s := (cirq []).setPeak .a { up := true, cln := { soon := [value47] } };
      (s.peak .a).cln.soon = [value47] ∧ value47.due ≤ s.tick ∧ s.bit .a (Fd.clnInCtrlFineRun 47) = false) ∧
    ((cirq []).fld .a (Fd.cirqInCfgEn 47) = 0 ∧ (cirq [(Fd.cirqInCfgEn 47, 1)]).fld .a (Fd.cirqInCfgEn 47) ≠ 0 ∧ (cirq []).cirq.running = true ∧
      (cirq []).bit .a (Fd.cirqInStatusRetired 47) = false) ∧
    ((chained { fine := { ready := [⟨0x80000001, 0, 0, none⟩] } } []).chain .a 47).fine.ready = [⟨0x80000001, 0, 0, none⟩] ∧
    (let s := { chained { mean := { acc := { n := 1 }, closing := some 0 } } [(Fd.clnInCtrlMeanRun 47, 1), (Fd.clnInCfgMeanTb 47, 7)] with meanDue := [7] };
      s.meanDue.contains 7 = true ∧ s.bit .a (Fd.clnInCtrlMeanRun 47) = true ∧ s.fld .a (Fd.clnInCfgMeanTb 47) = 7 ∧ (s.chain .a 47).mean.closing.isSome = true ∧
        (s.chain .a 47).mean.acc.n ≠ 0 ∧ (s.chain .a 47).mean.acc.inv = none) ∧
    (let s := cirq [(Fd.clnRsgCtrlRun 7, 1)];
      s.bit .a (Fd.clnRsgCtrlRun 7) = true ∧ rsMembers .a 7 s = [] ∧ (s.rsg .a 7).due = [] ∧
        ((s.tick * 1024 * rsClamp (s.rsg .a 7).inc : Nat) : Int) < rsNext (rsNc .a 7 s) (s.rsg .a 7) ∧
        rsNext (rsNc .a 7 s) (s.rsg .a 7) ≤ (((atTick (2 ^ 64) s).tick * 1024 * rsClamp (s.rsg .a 7).inc : Nat) : Int)) ∧
    (let s := (cirq [(Fd.clnRsgCtrlRun 7, 1), (Fd.clnInCtrlFineRun 47, 1), (Fd.clnInCfgRsEn 47, 1), (Fd.clnInCfgRsg 47, 7)]).setRsg .a 7 { due := [crossed] };
      (rsCross (rsNc .a 7 s) s.tick 4096 (s.rsg .a 7)).due = [crossed] ∧ 47 ∈ rsMembers .a 7 s ∧ rsValue .a 7 47 crossed s = none) := by decide +kernel

/-! ### Ridgeline and Switchback -/

theorem witness_RidgelineEngines :
    (let s := (dev []).setEng .a 7 { running := true, twice := true };
      (s.peak .a).up = true ∧ (s.eng .a 7).running = true ∧ 64 * (s.eng .a 7).due ≤ (s.peak .a).cycles64 ∧ (s.eng .a 7).late = [] ∧ (s.eng .a 7).twice = true) ∧
    (let s := (dev []).setEng .a 7 { running := true, due := 1 };
      (s.eng .a 7).running = true ∧ (s.peak .a).cycles64 < 64 * (s.eng .a 7).due) ∧
    (let s := (dev []).setEng .a 7 { running := true };
      (s.eng .a 7).twice = false ∧ s.reg .a (Reg.rdgEngHold 7) % 2 = 0 ∧ s.engMode .a 7 = 0 ∧ (s.eng .a 7).cmd = none ∧ s.bit .a (Fd.rdgEngStatusBsWait 7) = false ∧
        (s.setReg .a (Reg.rdgEngHold 7) 1).reg .a (Reg.rdgEngHold 7) % 2 = 1 ∧ s.engRetired .a 7 = false) ∧
    ((dev []).eng .a 7).running = false ∧ (dev [(Fd.rdgStatusRetired, 0x80)]).engRetired .a 7 = true ∧
    (dev [(Fd.rdgEngStatusMode 7, 1)]).engMode .a 7 ≠ 0 ∧ (let s := dev [(Fd.rdgEngStatusBsWait 7, 1), (Fd.pwmTbStatusRun 0, 1)];
      s.bit .a (Fd.rdgEngStatusBsWait 7) = true ∧ s.bit .a (Fd.pwmTbStatusRun (s.eng .a 7).tb) = true ∧ s.wrapOf (s.eng .a 7).tb = s.tick ∧
        (s.cairnNs / 10 ^ 9 % 2 ^ 32 + 2 ^ 32 - s.reg .a (Reg.rdgEngBsStartS 7)) % 2 ^ 32 ≤ 2 ^ 31) := by decide +kernel

def looped (l : Loop) (f : List (Fld × Nat)) : State := (dev f).setLoop .a 63 l

theorem witness_SwitchbackLoops :
    (let s := looped { running := true, twice := true } [];
      (s.peak .a).up = true ∧ (s.loop .a 63).running = true ∧ 64 * (s.loop .a 63).due ≤ (s.peak .a).cycles64 ∧ (s.loop .a 63).late = [] ∧
        (s.loop .a 63).twice = true ∧ (s.peak .a).cycles64 < 64 * ((looped { running := true, due := 1 } []).loop .a 63).due) ∧
    (let s := (looped { running := true } []).setReg .a (Reg.swbLoopHold 63) 1;
      (s.loop .a 63).twice = false ∧ s.reg .a (Reg.swbLoopHold 63) % 2 = 1 ∧ loopTg .a 63 s = none) ∧
    (let s := looped { running := true } [];
      s.reg .a (Reg.swbLoopHold 63) % 2 = 0 ∧ (s.loop .a 63).bankReq = none ∧ (s.loop .a 63).nextFade = none ∧ (s.loop .a 63).fade = none ∧ loopRuns s .a 63 = false ∧ (s.loop .a 63).cmd = none) ∧
    (let s := looped { running := true, cmd := some 1 } [];
      loopRuns s .a 63 = false ∧ (s.loop .a 63).cmd = some 1 ∧ s.bit .a (Fd.swbLoopStatusTripped 63) = false ∧ s.fld .a (Fd.swbLoopCfgSupv 63) = 0) ∧
    (let s := looped { running := true, cmd := some 1 } [(Fd.swbLoopStatusState 63, 1)];
      loopRuns s .a 63 = true ∧ (s.loop .a 63).cmd = some 1 ∧ s.fld .a (Fd.swbLoopCfgSupv 63) = 0 ∧ loopTg .a 63 s = none) ∧
    ((looped { running := true, cmd := some 2 } []).loop .a 63).cmd = some 2 ∧
    (let s := looped { running := true } [(Fd.swbLoopStatusState 63, 1), (Fd.swbLoopCfgShapeEn 63, 0)];
      loopRuns s .a 63 = true ∧ (s.loop .a 63).cmd = none ∧ s.fld .a (Fd.swbLoopCfgSupv 63) = 0 ∧ s.fld .a (Fd.swbLoopCfgShapeEn 63) = 0 ∧
        s.bit .a (Fd.swbLoopStatusHalted 63) = false ∧ loopTg .a 63 s = none) ∧
    ((dev []).loop .a 63).running = false ∧
    (let s := (dev [(Fd.swbLoopStatusState 63, 1), (Fd.swbTgCfgLoop 3, 63), (Fd.swbTgCfgWave 3, 0)]).setReg .a (Reg.swbTgPinc 3) 1 |>.setReg .a (Reg.swbTgWin 3) 0xFFFFFF;
      s.bit .a (Fd.swbTgCtrlRun 3) = false ∧ loopRuns s .a 63 = true ∧ loopTg .a 63 s = none ∧ tgOk .a 3 s = true) ∧
    ((dev []).bit .a (Fd.swbTgCtrlRun 3) = false ∧ loopRuns (dev []) .a ((dev []).fld .a (Fd.swbTgCfgLoop 3)) = false) ∧
    (dev [(Fd.swbTgStatusRunning 3, 1)]).bit .a (Fd.swbTgStatusRunning 3) = true := by decide +kernel

/-! ### Moraine, Talus, DMA and the MACs -/

/-- The listed buffers of Peak A owned by the host. -/
def hosts (l : List Nat) : State := { dev [] with regs := l.map (fun n => (regKey .a (Reg.talMorOwn n), (0x300000 : Word))) }

theorem getMap (d : Nat → Word) (f : Nat → Nat) (v : Word) (hf : ∀ i j, f i = f j → i = j) (j : Nat) : ∀ l : List Nat, j ∈ l →
    Tab.get d (l.map (fun n => (f n, v))) (f j) = v
  | [], h => absurd h (List.not_mem_nil)
  | i :: r, h => by
    show (if f i = f j then v else _) = v
    split
    · rfl
    · rename_i hne
      exact getMap d f v hf j r ((List.mem_cons.mp h).resolve_left (fun e => hne (congrArg f e.symm)))

theorem ownKey (n : Nat) (h : n < 1536) : regKey .a (Reg.talMorOwn n) = 0x40044000 + 4 * n := by
  have : (0x40044000 + 0x4 * n) / 0x10000 = 0x4004 := by omega
  unfold regKey regBank Reg.talMorOwn
  rw [this]; simp [PeakId.num]

theorem hosts_owner (l : List Nat) (hl : ∀ k ∈ l, k < 1536) (n : Nat) (h : n ∈ l) : (hosts l).fld .a (Fd.talMorOwnOwner n) = 0x30 := by
  have e : (hosts l).regs = l.map (fun n => (0x40044000 + 4 * n, (0x300000 : Word))) :=
    List.map_congr_left fun k hk => Prod.ext (ownKey k (hl k hk)) rfl
  unfold State.fld State.reg State.regW
  rw [e, show (Fd.talMorOwnOwner n).addr = Reg.talMorOwn n from rfl, ownKey n (hl n h)]
  rw [getMap regDefault (fun n => 0x40044000 + 4 * n) 0x300000 (fun i j e => by simpa using e) n l h]
  show bits 0x300000 23 16 = 0x30
  decide

def owned (n o : Nat) (l : List (Fld × Nat)) : State := (dev l).setFld .a (Fd.talMorOwnOwner n) o
def withTalus (f : Talus → Talus) (s : State) : State := s.setTalus .a (f (s.talus .a))

theorem witness_MoraineAndTalus :
    ((List.range 1536).filter (fun n => decide ((hosts (List.range 1536)).owner .a n = some 0)) = [] ∧ ((hosts (List.range 1536)).peak .a).up = true) ∧
    ((dev []).owner .a 0 = some 0 ∧ (∀ o : BitVec 8, o = 4 ∨ o = 0xFF → (1 ≤ o.toNat ∧ o.toNat ≤ 4) ∨ o.toNat = 0xFF)) ∧
    (let s := owned 1535 0x30 [];
      s.owner .a 1535 = some 0x30 ∧ s.owner .a 1536 ≠ some 0x30 ∧ (owned 1535 0x27 []).owner .a 1535 = some 0x27) ∧
    (let s := withA (fun p => p) (owned 1535 0x27 [(macF .a Fd.macCtrlTxEn, 1), (macF .a (Fd.macTqStatusMac 7), 1)]);
      s.owner .a 1535 = some 0x27 ∧ s.bit .a (macF .a Fd.macCtrlTxEn) = true ∧ s.txMac .a (0x27 - 0x20) ≠ 0) ∧
    (let s := withTalus (fun t => { t with segState := [(4095, 3)], segChain := [(4095, [1535])] }) (owned 1535 0x01 []);
      s.segOf .a 4095 = 3 ∧ s.segBufs .a 4095 = [1535] ∧ s.fld .a (Fd.talMorOwnOwner 1535) = 0x01 ∧ (s.talus .a).gives = [] ∧ s.segOf .a 4094 ≠ 3) ∧
    (let s := withTalus (fun t => { t with gives := [⟨masterNum (.core k0), 4095, 0x30, [1535]⟩] }) (dev []);
      (s.talus .a).gives.any (fun g => decide (g.master = masterNum (.core k0))) = true ∧
        (s.talus .a).gives.find? (fun g => decide (g.master = masterNum (.core k0))) = some ⟨masterNum (.core k0), 4095, 0x30, [1535]⟩) ∧
    (let s := owned 1535 0x30 [];
      s.owned .a (fun _ => true) = 1 ∧ s.owned .a (fun o => decide (0x30 ≤ o) && decide (o ≤ 0x30)) = 1 ∧
        s.owned .a (fun o => decide (0xFF ≤ o) && decide (o ≤ 0xFF)) = 0 ∧ s.segs .a 1 + s.segs .a 2 + s.segs .a 3 = 0) ∧
    (let s := (dev [(Fd.talChCfgSegBufs 3, 63), (Fd.talChCfgPrePreBufs 3, 63)]).setReg .a (Reg.talChSrc 3) 47;
      s.bit .a (Fd.talChCtrlRun 3) = false ∧ s.retired .a 0 21 = false ∧ s.copying .a = false ∧ chPre s .a 3 < chBufs s .a 3 ∧ chPre s .a 3 + 1 ≤ s.fld .a Fd.talMorCountFree ∧ chMember s .a 3 0 = 47 ∧
        chN s .a 3 = 1 ∧ s.inputRetired .a 47 = false ∧ 2 ^ chLogS s .a 3 * chRate .a 3 s ≤ 320000000 ∧ s.segOf .a 0 = 0) ∧
    (let s := (dev []).setReg .a (Reg.talChSrc 3) 48;
      0 < chN s .a 3 ∧ 47 < chMember s .a 3 0) ∧
    (let s := dev [(Fd.talChCfgLog2N 3, 3), (Fd.talChCfgTs 3, 1)];
      320000000 ≤ 2 ^ chLogS s .a 3 * chRate .a 3 s) ∧
    (let s := dev [(Fd.talChCfgPrePreBufs 3, 1)];
      chBufs s .a 3 ≤ chPre s .a 3) ∧ (dev [(Fd.talMorCountFree, 0)]).fld .a Fd.talMorCountFree < 1 ∧
    (∀ st : Fin 5, (dev [(Fd.talChCtrlRun 3, 1), (Fd.talChStatusState 3, st.val)]).bit .a (Fd.talChCtrlRun 3) = true ∧
      (dev [(Fd.talChCtrlRun 3, 1), (Fd.talChStatusState 3, st.val)]).fld .a (Fd.talChStatusState 3) = st.val) ∧
    (let s := (dev []).setTalChan .a 3 { chain := [1535], primary := 15, trigBits := 0xFFFF };
      (∀ n ∈ (s.talChan .a 3).chain, n < 1536) ∧ (s.talChan .a 3).primary < 16 ∧ (s.talChan .a 3).trigBits < 2 ^ 16) := by
  refine ⟨⟨List.filter_eq_nil_iff.mpr fun n hn h => ?_, ?_⟩, ?_⟩
  case refine_1 =>
    have hn := List.mem_range.mp hn
    unfold State.owner at h
    rw [if_pos hn, hosts_owner _ (fun k hk => List.mem_range.mp hk) n (List.mem_range.mpr hn)] at h
    exact absurd h (by decide)
  all_goals decide +kernel

theorem witness_MoraineLowEventFiresOnce :
    ((dev []).peak .a).up = true ∧ (owned 1535 0x30 []).owner .a 1535 = some 0x30 ∧ (dev []).freeBuf .a = some 0 ∧
    (let s := dev [(Fd.talMorLowFree, 0x600)];
      (setOwner .a 0 0x10 s).fld .a Fd.talMorCountFree < s.fld .a Fd.talMorLowFree ∧ (s.talus .a).lowSpent = false) ∧
    (withTalus (fun t => { t with lowSpent := true }) (dev [])).talus .a = { lowSpent := true } ∧
    (dev []).fld .a Fd.talMorLowFree ≤ (setOwner .a 0 0x10 (dev [])).fld .a Fd.talMorCountFree := by decide +kernel

/-- Channel 15 of Peak A moving words from 0x10000000 to 0x10000100, one read in flight and one word held. -/
def moving (f : DmaChan → DmaChan) (l : List (Fld × Nat)) : State :=
  (((dev ([(Fd.dmaChCfgRdW 15, 2), (Fd.dmaChCfgWrW 15, 2), (Fd.dmaChCfgCredits 15, 1), (Fd.dmaChStatusState 15, 1)] ++ l)).setReg .a (Reg.dmaChSrc 15) 0x10000000).setReg
    .a (Reg.dmaChDst 15) 0x100FFFFC |>.setReg .a (Reg.dmaChCount 15) 8).setDch .a 15 (f { flight := [0x10000004], held := [[1, 2, 3, 4]] })

theorem witness_DmaChannels :
    (dmaStarter (.core k0) = true ∧ dmaStarter (.host .a) = true ∧ ((dev []).peak .a).up = true ∧ (dev []).retired .a 0 20 = false) ∧
    (let s := moving id [(Fd.dmaChStatusState 15, 0)];
      s.dmaState .a 15 = 0 ∧ s.reg .a (Reg.dmaChCount 15) % 2 ^ 24 % max (s.rdWidth .a 15) (s.wrWidth .a 15) = 0 ∧ s.reg .a (Reg.dmaChSrc 15) % s.rdWidth .a 15 = 0 ∧
        s.reg .a (Reg.dmaChDst 15) % s.wrWidth .a 15 = 0 ∧ s.fld .a (Fd.dmaChCfgSrcMode 15) ≠ 2) ∧
    (let s := moving id [(Fd.dmaChStatusState 15, 4), (Fd.dmaChCtrlShadowValid 15, 1)];
      s.dmaState .a 15 = 4 ∧ s.bit .a (Fd.dmaChCtrlShadowValid 15) = true) ∧
    (∀ st : Fin 5, (moving id [(Fd.dmaChStatusState 15, st.val)]).dmaState .a 15 = st.val) ∧
    (let s := moving (fun _ => {}) [(Fd.dmaChStatusState 15, 2)];
      s.dmaState .a 15 = 2 ∧ (s.dch .a 15).flight = [] ∧ (s.dch .a 15).held = [] ∧ (s.dch .a 15).errAddr = none ∧ (s.dch .a 15).failing = false ∧
        (s.dch .a 15).aborting = false) ∧
    (let s := moving (fun g => { g with errAddr := some 0x10000004, retries := 15 }) [];
      (s.dch .a 15).errAddr = some 0x10000004 ∧ (s.dch .a 15).failing = false) ∧
    (let s := moving id [];
      s.dmaState .a 15 = 1 ∧ (s.dch .a 15).flight = [0x10000004] ∧ (s.dch .a 15).errAddr = none ∧ 0x10000004 + s.rdWidth .a 15 ≤ 0x10200000 ∧
        0x10000004 % s.rdWidth .a 15 = 0 ∧ (s.dch .a 15).flight.length + (s.dch .a 15).held.length ≤ s.dmaCredits .a 15 ∧
        s.wrWidth .a 15 ≤ (s.dch .a 15).heldBytes ∧ 0x10000000 ≤ s.reg .a (Reg.dmaChDst 15) ∧ s.reg .a (Reg.dmaChDst 15) + s.wrWidth .a 15 ≤ 0x10200000 ∧
        s.reg .a (Reg.dmaChDst 15) % s.wrWidth .a 15 = 0 ∧ mirrors (dmaMaster .a 15) s = false) ∧
    (let s := moving (fun g => { g with flight := [0x10200000], held := [] }) [(Fd.dmaChCfgRetry 15, 15)];
      (s.dch .a 15).flight = [0x10200000] ∧ (s.dch .a 15).held = [] ∧ mapped (dmaMaster .a 15) (s.srcCore .a 15) 0x10200000 (s.rdWidth .a 15) s = false ∧
        (s.dch .a 15).retries < s.fld .a (Fd.dmaChCfgRetry 15)) ∧
    (let s := moving (fun g => { g with flight := [] }) [];
      dmaCanRead .a 15 s = false ∧ (s.dch .a 15).heldBytes < 2 * s.wrWidth .a 15 ∧ (s.dch .a 15).aborting = false ∧
        s.fld .a (Fd.dmaChCfgRetry 15) ≤ (s.dch .a 15).retries) := by decide +kernel

/-- The MAC of Peak A on, with a ring of two descriptors at 0x10000000 for queue 7. -/
def mac (l : List (Fld × Nat)) (h : TxHead) : State :=
  ((dev ([(macF .a Fd.macCtrlTxEn, 1), (macF .a Fd.macCtrlRxEn, 1), (macF .a (Fd.macTqCfgSize 7), 2), (macF .a (Fd.macTqStatusMac 7), 1)] ++ l)).setReg .a
    (macA .a (Reg.macTqBase 7)) 0x101FFFC0).setTxHead .a 7 h
def bcast : List Byte := List.replicate 60 0xFF
def ringOf (s : State) : State := (s.setReg .a (macA .a (Reg.macRxqBase 0)) 0x10000000).setReg .a (macA .a (Reg.macRxqSlots 0)) 2
/-- The buffer of the head descriptor belongs to the queue, and its length is 14. -/
def filled (s : State) : State := ((s.setFld .a (Fd.talMorOwnOwner 0) 0x27).setBytes (peakKey .a (s.txDesc .a 7 + 4)) 4 14)

theorem witness_EthernetMacs :
    (let s := ringOf (mac [] {});
      (s.peak .a).up = true ∧ s.bit .a (macF .a Fd.macCtrlRxEn) = true ∧ (60 ≤ bcast.length ∧ bcast.length ≤ 1518) ∧ bcast.take 6 = List.replicate 6 0xFF ∧
        macAccepts .a (List.replicate 60 2) s = false ∧ macClass bcast = 0 ∧ 2 ≤ s.reg .a (macA .a (Reg.macRxqSlots 0)) % 2 ^ 11 ∧
        s.bytes (peakKey .a 0x10000000) 4 < 2 ^ 31 ∧ 2 ^ 31 ≤ (s.setByte (peakKey .a 0x10000003) 0x80).bytes (peakKey .a 0x10000000) 4) ∧
    (dev []).bit .a (macF .a Fd.macCtrlRxEn) = false ∧
    (let s := mac [] {};
      s.txSize .a 7 = 2 ∧ s.txMac .a 7 + s.txDone .a 7 ≤ s.txSize .a 7 ∧
        (s.txSize .a 7 - s.txMac .a 7 - s.txDone .a 7 = 1 ∧ ((1 : Word).toNat % 2 ^ 9 % 2 + 2 - s.reg .a (macA .a (Reg.macTqTail 7)) % 2) % 2 = 1 ∧
          s.txDone .a 7 < ((1 : Word).toNat % 2 ^ 9 % 2 + 2 - s.reg .a (macA .a (Reg.macTqReclaim 7)) % 2) % 2) ∧
        s.bit .a (macF .a Fd.macCtrlTxEn) = true ∧ s.copying .a = false ∧ (s.txHead .a 7).stage = 0 ∧ s.txMac .a 7 ≠ 0 ∧ s.txDone .a 7 < s.txSize .a 7 ∧
        0x10000000 ≤ s.txDesc .a 7 ∧ s.txDesc .a 7 + 32 ≤ 0x10200000 ∧ s.owner .a (bits (s.txWord .a 7 0) 10 0) ≠ some 0x27) ∧
    (let s := mac [(macF .a (Fd.macTqStatusMac 7), 2)] {};
      s.txSize .a 7 - s.txMac .a 7 - s.txDone .a 7 < ((1 : Word).toNat % 2 ^ 9 % 2 + 2 - s.reg .a (macA .a (Reg.macTqTail 7)) % 2) % 2) ∧
    (let s := filled (mac [] {});
      s.owner .a (bits (s.txWord .a 7 0) 10 0) = some 0x27 ∧ bits (s.txWord .a 7 1) 10 0 = 14 ∧ bits (s.txWord .a 7 1) 27 16 + 14 ≤ 4096 ∧
        bits (s.txWord .a 7 0) 21 20 ≠ 3) ∧
    (let s := (mac [] {}).setFld .a (Fd.talMorOwnOwner 0) 0x27;
      s.owner .a (bits (s.txWord .a 7 0) 10 0) = some 0x27 ∧ bits (s.txWord .a 7 1) 10 0 < 14) := by decide +kernel

theorem witness_EthernetMacs_sending :
    (let s := mac [(macF .a (Fd.macTqCfgLateDrop 7), 1)] { stage := 2, launch := some 0 };
      (s.txHead .a 7).launch.isSome = true ∧ (s.txHead .a 7).stage = 2 ∧ s.bit .a (macF .a (Fd.macTqCfgLateDrop 7)) = true) ∧
    ((withA (fun p => { p with sending := some 7 }) (mac [] { stage := 3 })).peak .a).sending = some 7 ∧
    ((mac [] { stage := 1 }).txHead .a 7).stage = 1 ∧
    (let s := mac [] { stage := 2 };
      (s.peak .a).sending = none ∧ (s.txHead .a 7).stage = 2 ∧ (∀ k < 7, (s.txHead .a k).launch = none) ∧ (s.txHead .a 7).launch = none ∧
        ∀ k < 8, 7 < k → (s.txHead .a k).stage ≠ 2) ∧
    (let s := ((mac [(macF .a Fd.macCtrlSpeed, 1)] { stage := 2 }).setTxHead .a 6 { stage := 2, launch := some 6719 });
      (s.txHead .a 7).launch = none ∧ (s.txHead .a 6).stage = 2 ∧ (s.txHead .a 6).launch = some 6719 ∧ (s.txHead .a 6).reached = false ∧ s.cairnNs < 6719 ∧
        6719 < s.cairnNs + (max (bits (s.txWord .a 7 1) 10 0) 60 + 24) * s.byteNs .a ∧ (∀ k < 8, k ≠ 7 → k ≠ 6 → (s.txHead .a k).stage ≠ 2)) ∧
    (dev [(macF .a Fd.macMdioCmdBusy, 1)]).bit .a (macF .a Fd.macMdioCmdBusy) = true ∧ (dev []).bit .a (macF .a Fd.macMdioCmdBusy) = false ∧
    ({ dev [] with mdio := [(.b, 0x20000000)] } : State).mdio = [(.b, 0x20000000)] := by decide +kernel

end Sys2Proof.Tests
end

section
/-! SUPPORT and CERTIFICATE. What the state after reset reads: every byte and every register at its default, which for a mapped register is the
reset value of its table. -/

namespace Sys2Proof.Machine

theorem regKey_div (p : PeakId) {a : Nat} (ha : a < 2 ^ 32) : regKey p a / 2 ^ 32 = regBank p a := by
  unfold regKey; omega

theorem regKey_mod (p : PeakId) {a : Nat} (ha : a < 2 ^ 32) : regKey p a % 2 ^ 32 = a := by
  unfold regKey; omega

/-- Bank 3 is the Gendarme window's own (R447), and no register of a Peak's view lies in it. -/
theorem regDefault_regKey_of_row (p : PeakId) {a : Nat} {r : RegRow} (ha : a < 2 ^ 32) (hrow : rowAt a = some r)
    (hrom : isRomCoef a = false) : regDefault (regKey p a) = BitVec.ofNat 32 r.reset := by
  have hview : regBank p a ≠ 3 := (regBank_lt p a).ne
  simp only [regDefault, regKey_div p ha, regKey_mod p ha, hview, hrom, hrow, if_false, Bool.false_eq_true]

@[simp] theorem State.reset_regW (key : Nat) : State.reset.regW key = regDefault key := Tab.get_nil regDefault key

@[simp] theorem State.reset_byte (key : Nat) : State.reset.byte key = memDefault key := Tab.get_nil memDefault key

/-- Nothing is listed in any table of the state after reset, so no entry breaks the canonical form or closes a switch. -/
theorem State.reset_sound : State.reset.sound = true :=
  (State.sound_iff _).mpr ⟨Tab.wf_nil _, Tab.wf_nil _, rfl, rfl⟩

theorem State.reset_reg_of_row (p : PeakId) {a : Nat} {r : RegRow} (ha : a < 2 ^ 32) (hrow : rowAt a = some r)
    (hrom : isRomCoef a = false) : State.reset.reg p a = r.reset % 2 ^ 32 := by
  rw [State.reg, State.reset_regW, regDefault_regKey_of_row p ha hrow hrom, BitVec.toNat_ofNat]

/-- Settles O2: after reset the tables of registers and memories are empty, so each read is the default, and a mapped register's key leads back to
its row. -/
theorem resetState : Obligations.ResetState := by
  unfold Obligations.ResetState
  exact ⟨State.reset_sound, rfl, State.reset_byte, fun p _ _ ha hrow hrom => State.reset_reg_of_row p ha hrow hrom⟩

end Sys2Proof.Machine
end

section
/-! SUPPORT and CERTIFICATE. The statement on the timebases asks nothing of the state but the Saddle's clock, and a state can hold a TRV command whose
task number is none of R148. The end of such a command at a wrap of the period timebase can write any register, the latched compares among them. -/

namespace Sys2Proof.Machine

/-- A number of no task (R148): the key that TRV.TASK[n].STAT of Peak B has for it is the key of PWM.ACT[0]. -/
def strayTask : Nat := (regKey .a (Reg.pwmAct 0) - regKey .b (Reg.trvTaskStat 0)) / 0x10

/-- The period timebase runs with 64 ticks in the shadow of channel 0, and a replacement of `strayTask` is open in Peak B. No command of TRV leads
here: `trvCommand` refuses the number. -/
def strayReplacement : State :=
  let s := (State.reset.setFld .a (Fd.pwmTbStatusRun 0) 1).setReg .a (Reg.pwmCmp 0) 64
  let s := (s.setTask .b strayTask { repl := .open_ 0 {} 0 }).setPeak .b { trvCmd := some { op := 3, task := strayTask } }
  { s with saddle := { s.saddle with clock := true } }

theorem strayReplacement_due :
    strayReplacement.tbRuns 0 = true ∧ (strayReplacement.tb 0).stopping = false ∧ chanTb strayReplacement 0 = 0 := by decide +kernel

/-- The shadow of channel 0 lies within the period, so that R12 latches it as it is. -/
theorem strayReplacement_clamped :
    max 0 (min (strayReplacement.regI .a (Reg.pwmCmp 0)) ((strayReplacement.fld .a (Fd.pwmTbPrdPrd 0) + 1 : Nat) *
      (if strayReplacement.bit .a (Fd.pwmChCfgFrac 0) then 64 else 1))) = 64 := by decide +kernel

/-- The wrap latches 64, then refuses the replacement (R171), and clearing its REPLACE_PENDING, bit 6, leaves 0. -/
theorem strayReplacement_wrapped :
    (latchAll 0 strayReplacement).regI .a (Reg.pwmAct 0) = 64 ∧ (wrapNow 0 strayReplacement).regI .a (Reg.pwmAct 0) = 0 := by decide +kernel

/-- Refutes O47: at the wrap of `strayReplacement` the compare of channel 0 is 0 where its shadow, within the period, is 64. The statement lacks the
hypothesis that a TRV command in progress names a task. -/
theorem not_timebases : ¬ Obligations.Timebases := by
  unfold Obligations.Timebases
  intro h
  obtain ⟨hruns, hgoes, htb⟩ := strayReplacement_due
  obtain ⟨hwrap, -⟩ := h 0 (.host .a) 0 strayReplacement rfl
  obtain ⟨t, ht, -, -, -, hlatched, -⟩ := hwrap hruns hgoes
  have hwrapped : wrapNow 0 strayReplacement = t := Host.Outcome.next.inj ht
  have hact := (hlatched 0 (by decide) htb).trans strayReplacement_clamped
  rw [← hwrapped, strayReplacement_wrapped.2] at hact
  exact absurd hact (by decide)

end Sys2Proof.Machine
end

section
/-! SUPPORT and CERTIFICATE. The clocks (R40 to R48): what CLK.STATUS follows, and how each operation on the PLLs leaves them. -/

namespace Sys2Proof.Machine

variable {M : Nat → Nat} {s t : State}

/-! ### What every clock operation shares -/

/-- The two Peaks have a CLK block each. -/
theorem clkKey_ne {p q : PeakId} (h : q ≠ p) (a : Nat) (ha : a / 0x10000 = 0x4001) : regKey q a ≠ regKey p a := by
  unfold regKey regBank
  rw [ha]
  cases p <;> cases q <;> simp [PeakId.num] at h ⊢

/-- The register bits in which the PLLs show (R40 to R45): the locks and states of CLK.STATUS, and CRN.STATUS.MAP_COARSE. -/
def clkShown : List (Nat × Nat) := [(Reg.clkStatus, 0x1F01D00), (Reg.crnStatus, 0x10)]

theorem clkShown_status : onlyRegs clkShown Reg.clkStatus = 0x1F01D00 := rfl
theorem clkShown_crnStatus : onlyRegs clkShown Reg.crnStatus = 0x10 := rfl

/-- One bit of CLK.STATUS that follows the PLLs. -/
theorem clkShown_setBit (h : RegFrame (onlyRegs clkShown) s t) (p : PeakId) (v : Bool) {n : Nat} (hn : n ∈ [8, 10, 11, 12, 20, 21, 22, 23, 24]) :
    RegFrame (onlyRegs clkShown) s (t.setBit p ⟨Reg.clkStatus, n, n⟩ v) := by
  have hbit : ∀ m ∈ [8, 10, 11, 12, 20, 21, 22, 23, 24], m < 32 ∧ (0x1F01D00 : Nat).testBit m = true := by decide
  obtain ⟨h32, hmask⟩ := hbit n hn
  unfold State.setBit
  refine h.setFld p _ (le_refl n) h32 (show Reg.clkStatus < 2 ^ 32 from le_lit rfl) fun i hlo hhi => ?_
  rw [clkShown_status, show i = n from le_antisymm hhi hlo]
  exact hmask

theorem RegFrame.bothPeaks {f : PeakId → State → State} (h : RegFrame M s t) (hf : ∀ p u, RegFrame M s u → RegFrame M s (f p u)) :
    RegFrame M s (bothPeaks f t) := hf .b _ (hf .a _ h)

theorem clkRefresh_frame (h : RegFrame (onlyRegs clkShown) s t) : RegFrame (onlyRegs clkShown) s (clkRefresh t) := by
  have hmap : ∀ v, RegFrame (onlyRegs clkShown) s (t.setBit .a Fd.crnStatusMapCoarse v) := fun v => by
    unfold State.setBit
    exact h.setFld .a _ (le_lit rfl) (le_lit rfl) (le_lit rfl) (inMask clkShown_crnStatus (by decide))
  unfold clkRefresh
  refine RegFrame.bothPeaks (hmap _) fun p u hu => ?_
  dsimp only
  refine clkShown_setBit (n := 11) ?_ p _ (by decide)
  refine clkShown_setBit (n := 12) ?_ p _ (by decide)
  refine clkShown_setBit (n := 10) ?_ p _ (by decide)
  refine clkShown_setBit (n := 23) ?_ p _ (by decide)
  refine clkShown_setBit (n := 22) ?_ p _ (by decide)
  refine clkShown_setBit (n := 21) ?_ p _ (by decide)
  refine clkShown_setBit (n := 20) ?_ p _ (by decide)
  refine clkShown_setBit (n := 24) ?_ p _ (by decide)
  exact clkShown_setBit (n := 8) hu p _ (by decide)

theorem clkRefresh_keeps (s : State) : Upd 1 s (clkRefresh s) := clkRefresh_upd (Upd.refl 1 s) (by decide)

@[simp] theorem clkRefresh_power (s : State) : (clkRefresh s).power = s.power := (clkRefresh_keeps s).power (by decide)
@[simp] theorem clkRefresh_mem (s : State) : (clkRefresh s).mem = s.mem := (clkRefresh_keeps s).mem (by decide)

/-- A PLL is what the power block keeps of it. -/
theorem State.pll_of_power (h : t.power = s.power) (n : Nat) : t.pll n = s.pll n := by
  unfold State.pll
  rw [h]

@[simp] theorem clkRefresh_pll (s : State) (n : Nat) : (clkRefresh s).pll n = s.pll n := State.pll_of_power (clkRefresh_power s) n

/-- A bit of the CLK block outside those that follow the PLLs. -/
theorem clkRefresh_bit (s : State) (p : PeakId) {f : Fld} (ha : f.addr < 2 ^ 32) (hm : bits (onlyRegs clkShown f.addr) f.hi f.lo = 0) :
    (clkRefresh s).bit p f = s.bit p f := (clkRefresh_frame (RegFrame.refl _ s)).bit p ha hm

theorem clkRefresh_flag (s : State) (p : PeakId) (n : Nat) : (clkRefresh s).bit p ⟨Reg.clkFlags, n, n⟩ = s.bit p ⟨Reg.clkFlags, n, n⟩ :=
  clkRefresh_bit s p (show Reg.clkFlags < 2 ^ 32 from le_lit rfl) (by rw [show onlyRegs clkShown Reg.clkFlags = 0 from rfl]; simp [bits])

theorem State.bit_setBit_peer {p q : PeakId} (h : q ≠ p) (s : State) (n m : Nat) (v : Bool) :
    (s.setBit p ⟨Reg.clkStatus, m, m⟩ v).bit q ⟨Reg.clkStatus, n, n⟩ = s.bit q ⟨Reg.clkStatus, n, n⟩ :=
  State.bit_setFld_ne s _ (clkKey_ne h Reg.clkStatus (by decide))

@[simp] theorem State.refGone_setBit (s : State) (p : PeakId) (f : Fld) (v : Bool) : (s.setBit p f v).refGone = s.refGone := by
  unfold State.refGone
  rw [State.setBit_power]

theorem State.bit_setBit (s : State) (p : PeakId) {f : Fld} (h : f.lo = f.hi) (h32 : f.hi < 32) (v : Bool) : (s.setBit p f v).bit p f = v := by
  unfold State.setBit
  rw [State.bit_setFld s p _ (le_of_eq h) h32, show f.hi + 1 - f.lo = 1 by omega]
  cases v <;> rfl

/-- R43: CLK.STATUS.REF_LOST shows in both Peaks whether the reference is lost. -/
theorem clkRefresh_refLost (s : State) (p : PeakId) : (clkRefresh s).bit p Fd.clkStatusRefLost = s.refGone := by
  unfold clkRefresh bothPeaks
  cases p with
  | a =>
    have hb : PeakId.a ≠ .b := by decide
    unfold Fd.clkStatusRefLost Fd.clkStatusOnSubst Fd.clkStatusCoast Fd.clkStatusNLock Fd.clkStatusCbLock Fd.clkStatusCaLock Fd.clkStatusSLock
      Fd.clkStatusPeerLock Fd.clkStatusLocked
    simp only [State.bit_setBit_peer hb, State.bit_setBit _ _ (f := ⟨Reg.clkStatus, 11, 11⟩) rfl (by decide), State.refGone_setBit]
  | b => simp only [State.bit_setBit _ _ (f := Fd.clkStatusRefLost) rfl (by decide), State.refGone_setBit]

/-- The same flag in both Peaks' CLK.FLAGS. -/
theorem State.bit_setBoth_flag (s : State) (p : PeakId) {n : Nat} (hn : n < 32) : (s.setBoth ⟨Reg.clkFlags, n, n⟩ 1).bit p ⟨Reg.clkFlags, n, n⟩ = true := by
  have set : ∀ (u : State) (q : PeakId), (u.setFld q ⟨Reg.clkFlags, n, n⟩ 1).bit q ⟨Reg.clkFlags, n, n⟩ = true := fun u q => State.bit_raise u q rfl hn
  unfold State.setBoth
  cases p with
  | a =>
    have hkey : regKey .a Reg.clkFlags ≠ regKey .b Reg.clkFlags := clkKey_ne (by decide) _ (by decide)
    have keep : ∀ u : State, (u.setFld .b ⟨Reg.clkFlags, n, n⟩ 1).bit .a ⟨Reg.clkFlags, n, n⟩ = u.bit .a ⟨Reg.clkFlags, n, n⟩ := fun u =>
      State.bit_setFld_ne u 1 hkey
    exact (keep _).trans (set s .a)
  | b => exact set _ _

/-! ### The PLLs one after the other -/

/-- Where each turn of a loop over the PLLs moves its own PLL alone, a PLL ends as its own turn leaves it. -/
theorem pll_forAll_turn {f : Nat → State → State} (hown : ∀ i v n, n ≠ i → (f i v).pll n = v.pll n) (xs : List Nat) (hxs : xs.Nodup) (v : State)
    {n : Nat} (hn : n ∈ xs) : ∃ u : State, u.pll n = v.pll n ∧ (forAll xs f v).pll n = (f n u).pll n := by
  have past : ∀ (ys : List Nat) (w : State), n ∉ ys → (forAll ys f w).pll n = w.pll n := fun ys w hy =>
    forAll_induct (fun x => x.pll n = w.pll n) ys f rfl fun i hi x hx => (hown i x n (fun e => hy (e ▸ hi))).trans hx
  induction xs generalizing v with
  | nil => cases hn
  | cons i r ih =>
    obtain ⟨hi, hr⟩ := List.nodup_cons.mp hxs
    by_cases e : n = i
    · subst e
      exact ⟨v, rfl, past r _ hi⟩
    · obtain ⟨u, hu, ht⟩ := ih hr (f i v) (List.mem_of_ne_of_mem e hn)
      exact ⟨u, hu.trans (hown i v n e), ht⟩

theorem pllNumbers_nodup : pllNumbers.Nodup := List.nodup_range

theorem mem_pllNumbers {n : Nat} (h : n < 6) : n ∈ pllNumbers := List.mem_range.mpr h

/-! ### Loss of lock (R41, R42, R45) -/

theorem pllLoss_pll {i : Nat} (hl : (s.pll i).locked = true) (hc : (s.pll i).coast = false) (j : Nat) :
    (pllLoss i s).pll j = if j = i then { s.pll i with coast := true, lol := true, subst := false } else s.pll j := by
  have moved : ∀ q : Pll, (s.setPll i q).pll j = if j = i then q else s.pll j := fun q => by
    split
    · next e => rw [e, State.pll_setPll_same]
    · next e => exact State.pll_setPll_ne s q e
  unfold pllLoss
  simp only [hl, hc, Bool.not_false, Bool.and_self, if_true, clkRefresh_pll]
  split
  · rw [State.pll_bump, State.pll_raise, moved]
  · rw [State.pll_setBoth, moved]

/-- R45: a Peak's own PLL flags in that Peak, a shared one in both. -/
theorem pllLoss_flag {i : Nat} (hl : (s.pll i).locked = true) (hc : (s.pll i).coast = false) {r : PeakId} (hr : 2 ≤ i ∨ i = r.num) :
    (pllLoss i s).bit r Fd.clkFlagsLol = true := by
  unfold pllLoss
  simp only [hl, hc, Bool.not_false, Bool.and_self, if_true]
  refine (clkRefresh_flag _ r 0).trans ?_
  split
  · next h2 =>
    have hp : PeakId.ofNum i = r := by
      rcases hr with h | rfl
      · omega
      · cases r <;> rfl
    unfold State.bit
    rw [hp, State.fld_bump_ne _ (regKey_ne (by decide) (by decide) (by decide)) (regKey_ne (by decide) (by decide) (by decide))]
    exact State.bit_raise _ r rfl (by decide)
  · exact State.bit_setBoth_flag _ r (by decide)

theorem pllLoss_mem (i : Nat) (s : State) : (pllLoss i s).mem = s.mem := (pllLoss_upd (Upd.refl 67108865 s) (by decide)).mem (by decide)

/-! ### Loss and return of the reference (R43, R44) -/

/-- One PLL's turn when the reference is lost: PLL S coasts, another takes the substitute while PLL S is locked, and a return is broken off. -/
def refLossTurn (i : Nat) (s : State) : State :=
  let q := s.pll i
  if q.locked && !q.coast then
    s.setPll i (if i = 2 then { q with coast := true, lol := false } else if (s.pll 2).locked then { q with subst := true }
      else { q with coast := true, lol := false })
  else if q.returning then s.setPll i { q with returning := false } else s

theorem refLoss_of_running (h : s.power.phase = .running) :
    refLoss s = clkRefresh (forAll pllNumbers refLossTurn (s.setBoth Fd.clkFlagsRefLoss 1)) := by
  have hb : (inBivouac s && decide (s.power.phase = .bivouac)) = false := by simp [h]
  unfold refLoss
  rw [hb]
  rfl

theorem refLossTurn_pll_ne (i : Nat) (v : State) (n : Nat) (h : n ≠ i) : (refLossTurn i v).pll n = v.pll n := by
  unfold refLossTurn
  dsimp only
  split
  · exact State.pll_setPll_ne v _ h
  · split
    · exact State.pll_setPll_ne v _ h
    · rfl

/-- Of registers and power a PLL's turn moves the PLLs alone. -/
theorem refLossTurn_keeps (i : Nat) (v : State) : (refLossTurn i v).regs = v.regs ∧ { (refLossTurn i v).power with plls := v.power.plls } = v.power := by
  unfold refLossTurn
  dsimp only
  split
  · exact ⟨rfl, rfl⟩
  · split
    · exact ⟨rfl, rfl⟩
    · exact ⟨rfl, rfl⟩

theorem refLossTurns_keep (v : State) : (forAll pllNumbers refLossTurn v).regs = v.regs ∧
    { (forAll pllNumbers refLossTurn v).power with plls := v.power.plls } = v.power := by
  refine forAll_induct (fun x => x.regs = v.regs ∧ { x.power with plls := v.power.plls } = v.power) _ _ ⟨rfl, rfl⟩ fun i _ x hx => ?_
  obtain ⟨hregs, hpower⟩ := hx
  obtain ⟨hr, hp⟩ := refLossTurn_keeps i x
  refine ⟨hr.trans hregs, ?_⟩
  rw [← hpower, ← hp]

theorem refLoss_power (h : s.power.phase = .running) : { (refLoss s).power with plls := s.power.plls } = s.power := by
  have hk := (refLossTurns_keep (s.setBoth Fd.clkFlagsRefLoss 1)).2
  rw [State.setBoth_power] at hk
  rw [refLoss_of_running h, clkRefresh_power, hk]

/-- R43: both Peaks flag the loss and show the reference as lost. -/
theorem refLoss_shows (h : s.power.phase = .running) (r : PeakId) :
    (refLoss s).bit r Fd.clkFlagsRefLoss = true ∧ (refLoss s).bit r Fd.clkStatusRefLost = s.refGone := by
  have hp := refLoss_power h
  obtain ⟨hregs, -⟩ := refLossTurns_keep (s.setBoth Fd.clkFlagsRefLoss 1)
  constructor
  · rw [refLoss_of_running h]
    refine (clkRefresh_flag _ r 1).trans ?_
    unfold State.bit State.fld
    rw [State.reg_of_regs hregs]
    exact State.bit_setBoth_flag s r (by decide)
  · rw [show s.refGone = (refLoss s).refGone by unfold State.refGone; rw [← hp]]
    rw [refLoss_of_running h, clkRefresh_refLost]
    unfold State.refGone
    rw [clkRefresh_power]

/-- R43: PLL S coasts when the reference is lost. -/
theorem refLoss_coasts (h : s.power.phase = .running) (hl : (s.pll 2).locked = true) : ((refLoss s).pll 2).coast = true := by
  obtain ⟨u, hu, ht⟩ := pll_forAll_turn refLossTurn_pll_ne pllNumbers pllNumbers_nodup (s.setBoth Fd.clkFlagsRefLoss 1) (mem_pllNumbers (n := 2) (by decide))
  rw [State.pll_setBoth] at hu
  rw [refLoss_of_running h, clkRefresh_pll, ht]
  unfold refLossTurn
  dsimp only
  rw [hu, hl]
  cases hc : (s.pll 2).coast
  · simp
  · simp only [Bool.not_true, Bool.and_false, Bool.false_eq_true, if_false]
    split
    · simp
    · rw [hu, hc]

theorem refLoss_mem (s : State) : (refLoss s).mem = s.mem := (refLoss_upd (Upd.refl 248524054724749 s) (by decide)).mem (by decide)

/-- A PLL's turn when the reference is back and PLL S does not coast: a PLL that coasts returns. -/
def refReturnTurn (i : Nat) (s : State) : State := if (s.pll i).coast then s.setPll i { s.pll i with returning := true } else s

theorem refReturnTurn_pll_ne (i : Nat) (v : State) (n : Nat) (h : n ≠ i) : (refReturnTurn i v).pll n = v.pll n := by
  unfold refReturnTurn
  split
  · exact State.pll_setPll_ne v _ h
  · rfl

/-- The reference is noted as back. -/
def refBack (s : State) : State := { s with power := { s.power with missing := false, xin := true } }

theorem refReturn_eq (s : State) : refReturn s =
    clkRefresh (if (s.pll 2).coast then (refBack s).setPll 2 { s.pll 2 with returning := true } else forAll pllNumbers refReturnTurn (refBack s)) := rfl

theorem refReturnTurns_keep (v : State) : { (forAll pllNumbers refReturnTurn v).power with plls := v.power.plls } = v.power := by
  refine forAll_induct (fun x => { x.power with plls := v.power.plls } = v.power) _ _ rfl fun i _ x hx => ?_
  rw [← hx]
  unfold refReturnTurn
  split <;> rfl

/-- The return of the reference is noted, and of the rest of the power block only PLLs move. -/
theorem refReturn_power (s : State) : { (refReturn s).power with plls := s.power.plls } = (refBack s).power := by
  rw [refReturn_eq, clkRefresh_power]
  split
  · rfl
  · exact refReturnTurns_keep (refBack s)

theorem refReturn_first (h : (s.pll 2).coast = true) : ((refReturn s).pll 2).returning = true := by
  rw [refReturn_eq, clkRefresh_pll, if_pos h, State.pll_setPll_same]

theorem refReturn_others (h : (s.pll 2).coast = false) {j : Nat} (hj : j < 6) (hc : (s.pll j).coast = true) :
    ((refReturn s).pll j).returning = true := by
  obtain ⟨u, hu, ht⟩ := pll_forAll_turn refReturnTurn_pll_ne pllNumbers pllNumbers_nodup (refBack s) (mem_pllNumbers hj)
  have hcoast : (u.pll j).coast = true := hu ▸ hc
  rw [refReturn_eq, clkRefresh_pll, if_neg (by simp [h]), ht]
  unfold refReturnTurn
  rw [if_pos hcoast, State.pll_setPll_same]

theorem refReturn_mem (s : State) : (refReturn s).mem = s.mem := (refReturn_upd (Upd.refl 67108865 s) (by decide)).mem (by decide)

theorem wakeGo_of_running (h : s.power.phase = .running) : wakeGo s = s := by
  unfold wakeGo
  exact if_neg (by simp [h])

/-! ### Relock (R44, R45) -/

/-- Once PLL S is back, no PLL stays on the substitute, and each that coasts returns. -/
def relockTurn (j : Nat) (s : State) : State :=
  s.setPll j { s.pll j with subst := false, returning := (s.pll j).returning || (s.pll j).coast }

theorem relockTurn_pll_ne (i : Nat) (v : State) (n : Nat) (h : n ≠ i) : (relockTurn i v).pll n = v.pll n := State.pll_setPll_ne v _ h

/-- The PLL that relocks, before CLK.STATUS follows. -/
def relocked (i : Nat) (s : State) : State :=
  let u := s.setPll i { s.pll i with locked := true, coast := false, lol := false, returning := false, subst := false }
  if i = 2 then forAll pllNumbers relockTurn u else u

theorem relocked_pll {i : Nat} (hi : i < 6) (s : State) :
    ((relocked i s).pll i).locked = true ∧ ((relocked i s).pll i).coast = false ∧ ((relocked i s).pll i).subst = false := by
  unfold relocked
  dsimp only
  split
  · obtain ⟨u, hu, ht⟩ := pll_forAll_turn relockTurn_pll_ne pllNumbers pllNumbers_nodup
      (s.setPll i { s.pll i with locked := true, coast := false, lol := false, returning := false, subst := false }) (mem_pllNumbers hi)
    rw [State.pll_setPll_same] at hu
    rw [ht, relockTurn, State.pll_setPll_same, hu]
    exact ⟨rfl, rfl, rfl⟩
  · rw [State.pll_setPll_same]
    exact ⟨rfl, rfl, rfl⟩

/-- Beyond the PLLs themselves a relock shows in registers only. -/
theorem pllRelock_pll {i : Nat} (h : (s.pll i).returning = true) (n : Nat) : (pllRelock i s).pll n = (relocked i s).pll n := by
  have e : pllRelock i s = if pllNumbers.any (fun j => ((clkRefresh (relocked i s)).pll j).coast || ((clkRefresh (relocked i s)).pll j).subst)
      then clkRefresh (relocked i s) else (clkRefresh (relocked i s)).setBoth Fd.clkFlagsRelock 1 := by
    unfold pllRelock
    simp only [h, if_true]
    rfl
  rw [e]
  split
  · exact clkRefresh_pll _ n
  · rw [State.pll_setBoth, clkRefresh_pll]

theorem pllRelock_mem (i : Nat) (s : State) : (pllRelock i s).mem = s.mem := (pllRelock_upd (Upd.refl 67108865 s) (by decide)).mem (by decide)

/-! ### The commanded frequency change (R46 to R48) -/

theorem State.fld_lt (s : State) (p : PeakId) (f : Fld) : s.fld p f < 2 ^ (f.hi + 1 - f.lo) := bits_lt _ _ _

theorem stepOnce_at {p : PeakId} (h : s.fld p Fd.clkStatusCurN = s.fld p Fd.clkCtrlTargetN) : stepOnce p s = s.setFld p Fd.clkStatusStepping 0 := by
  unfold stepOnce
  exact if_pos h

theorem stepOnce_toward {p : PeakId} (h : s.fld p Fd.clkStatusCurN ≠ s.fld p Fd.clkCtrlTargetN) :
    stepOnce p s = (s.setFld p Fd.clkStatusCurN (if s.fld p Fd.clkStatusCurN < s.fld p Fd.clkCtrlTargetN then s.fld p Fd.clkStatusCurN + 1
      else s.fld p Fd.clkStatusCurN - 1)).setFld p Fd.clkStatusStepping 1 := by
  unfold stepOnce
  exact if_neg h

/-- One step moves N by 1 toward its target, and STEPPING shows whether it had to. -/
theorem stepOnce_shows (p : PeakId) (s : State) :
    let cur := s.fld p Fd.clkStatusCurN
    let target := s.fld p Fd.clkCtrlTargetN
    (stepOnce p s).bit p Fd.clkStatusStepping = decide (cur ≠ target) ∧
      (stepOnce p s).fld p Fd.clkStatusCurN = (if cur = target then cur else if cur < target then cur + 1 else cur - 1) := by
  have htarget : s.fld p Fd.clkCtrlTargetN < 256 := s.fld_lt p _
  have hcur : s.fld p Fd.clkStatusCurN < 256 := s.fld_lt p _
  have apart : ∀ (u : State) (v : Nat), (u.setFld p Fd.clkStatusStepping v).fld p Fd.clkStatusCurN = u.fld p Fd.clkStatusCurN := fun u v =>
    State.fld_setFld_apart u p v (le_lit rfl) (le_lit rfl) rfl (Or.inr (le_lit rfl))
  have moved : ∀ v, (s.setFld p Fd.clkStatusCurN v).fld p Fd.clkStatusCurN = v % 256 := fun v => State.fld_setFld s p v (le_lit rfl) (le_lit rfl)
  intro cur target
  by_cases h : cur = target
  · rw [stepOnce_at h, if_pos h, apart, State.bit_setFld _ p 0 (le_lit rfl) (le_lit rfl)]
    exact ⟨by simp [h], rfl⟩
  · rw [stepOnce_toward h, if_neg h, apart, moved, State.bit_setFld _ p 1 (le_lit rfl) (le_lit rfl)]
    refine ⟨by simp [h, Fd.clkStatusStepping], Nat.mod_eq_of_lt ?_⟩
    split <;> omega

theorem State.setFld_rest (s : State) (p : PeakId) (f : Fld) (v : Nat) (r : Tab Word) : { s.setFld p f v with regs := r } = { s with regs := r } := by simp

theorem stepOnce_rest (p : PeakId) (s : State) (r : Tab Word) : { stepOnce p s with regs := r } = { s with regs := r } := by
  by_cases h : s.fld p Fd.clkStatusCurN = s.fld p Fd.clkCtrlTargetN
  · rw [stepOnce_at h, State.setFld_rest]
  · rw [stepOnce_toward h, State.setFld_rest, State.setFld_rest]

theorem setTarget_shows (p : PeakId) (s : State) (v : Nat) :
    (s.setFld p Fd.clkCtrlTargetN v).fld p Fd.clkCtrlTargetN = v % 256 ∧
      (s.setFld p Fd.clkCtrlTargetN v).fld p Fd.clkStatusCurN = s.fld p Fd.clkStatusCurN ∧
      (s.setFld p Fd.clkCtrlTargetN v).bit p Fd.clkStatusStepping = s.bit p Fd.clkStatusStepping := by
  have hkey : regKey p Reg.clkStatus ≠ regKey p Reg.clkCtrl := regKey_ne (by decide) (by decide) (by decide)
  exact ⟨State.fld_setFld s p v (le_lit rfl) (le_lit rfl), State.fld_setFld_ne s v hkey, State.bit_setFld_ne s v hkey⟩

theorem stepOnce_target (p : PeakId) (s : State) : (stepOnce p s).fld p Fd.clkCtrlTargetN = s.fld p Fd.clkCtrlTargetN := by
  have hkey : regKey p Reg.clkCtrl ≠ regKey p Reg.clkStatus := regKey_ne (by decide) (by decide) (by decide)
  have status : ∀ (u : State) (f : Fld) (v : Nat), f.addr = Reg.clkStatus → (u.setFld p f v).fld p Fd.clkCtrlTargetN = u.fld p Fd.clkCtrlTargetN :=
    fun u f v ha => State.fld_setFld_ne u v (ha ▸ hkey)
  by_cases h : s.fld p Fd.clkStatusCurN = s.fld p Fd.clkCtrlTargetN
  · rw [stepOnce_at h]
    exact status s Fd.clkStatusStepping 0 rfl
  · rw [stepOnce_toward h]
    exact (status _ Fd.clkStatusStepping 1 rfl).trans (status s Fd.clkStatusCurN _ rfl)

/-- R47: a target that is refused leaves only its flag. -/
theorem clkTarget_refused {p : PeakId} {v : Nat} (hne : v % 256 ≠ s.fld p Fd.clkCtrlTargetN)
    (hbad : v % 256 < 128 ∨ 160 < v % 256 ∨ (s.loaded p).any isSummit = true) : clkTarget p v s = s.raise p Fd.clkFlagsStepRefused := by
  unfold clkTarget
  dsimp only
  rw [if_neg hne, if_pos hbad]

theorem clkTarget_accepted {p : PeakId} {v : Nat} (hne : v % 256 ≠ s.fld p Fd.clkCtrlTargetN) (hlo : 128 ≤ v % 256) (hhi : v % 256 ≤ 160)
    (hsummit : (s.loaded p).any isSummit = false) :
    clkTarget p v s = if s.bit p Fd.clkStatusStepping then s.setFld p Fd.clkCtrlTargetN (v % 256) else stepOnce p (s.setFld p Fd.clkCtrlTargetN (v % 256)) := by
  have hgood : ¬(v % 256 < 128 ∨ 160 < v % 256 ∨ (s.loaded p).any isSummit = true) := by
    rintro (h | h | h)
    · omega
    · omega
    · rw [hsummit] at h; cases h
  unfold clkTarget
  dsimp only
  rw [if_neg hne, if_neg hgood, (setTarget_shows p s _).2.2]

/-! ### The statement, clause by clause -/

theorem pllLossOfLock_completes (i : PllId) (s : State) (hl : (s.pll (pllNum i)).locked = true) (hc : (s.pll (pllNum i)).coast = false) :
    Completes (.pllLossOfLock i) s (fun t => t.pll (pllNum i) = { s.pll (pllNum i) with coast := true, lol := true, subst := false } ∧
      (∀ j, j ≠ pllNum i → t.pll j = s.pll j) ∧ (∀ r : PeakId, 2 ≤ pllNum i ∨ pllNum i = r.num → t.bit r Fd.clkFlagsLol = true) ∧ t.mem = s.mem) := by
  refine ⟨_, exec_pllLossOfLock i s, ?_, fun j hj => ?_, fun r hr => pllLoss_flag hl hc hr, pllLoss_mem _ s⟩
  · rw [pllLoss_pll hl hc, if_pos rfl]
  · rw [pllLoss_pll hl hc, if_neg hj]

theorem referenceMissing_completes (s : State) (hm : s.power.missing = false) (hr : s.power.phase = .running) :
    Completes .referenceMissing s (fun t => t.power.missing = true ∧
      (∀ r, t.bit r Fd.clkFlagsRefLoss = true ∧ t.bit r Fd.clkStatusRefLost = true) ∧
      ((s.pll 2).locked = true → (t.pll 2).coast = true) ∧ t.mem = s.mem) := by
  let u : State := { s with power := { s.power with missing := true } }
  have hu : u.power.phase = .running := hr
  have hgone : u.refGone = true := rfl
  have he : exec .referenceMissing s = .next (refLoss u) := by
    rw [exec_referenceMissing, execReferenceMissing, hm]
    rfl
  refine ⟨_, he, ?_, fun r => ?_, fun hl => refLoss_coasts hu hl, refLoss_mem u⟩
  · have hkeep := congrArg Power.missing (refLoss_power hu)
    exact hkeep
  · obtain ⟨hflag, hlost⟩ := refLoss_shows hu r
    exact ⟨hflag, hlost.trans hgone⟩

theorem referenceReturn_completes (s : State) (hr : s.power.phase = .running) :
    Completes .referenceReturn s (fun t => t.power.missing = false ∧ t.power.xin = true ∧
      ((s.pll 2).coast = true → (t.pll 2).returning = true) ∧
      ((s.pll 2).coast = false → ∀ j < 6, (s.pll j).coast = true → (t.pll j).returning = true) ∧ t.mem = s.mem) := by
  have hp := refReturn_power s
  have hphase : (refReturn s).power.phase = .running := (congrArg Power.phase hp).trans hr
  have he : exec .referenceReturn s = .next (refReturn s) := by
    rw [exec_referenceReturn, execReferenceReturn, wakeGo_of_running hphase]
  exact ⟨_, he, congrArg Power.missing hp, congrArg Power.xin hp, refReturn_first, fun h _ hj hc => refReturn_others h hj hc, refReturn_mem s⟩

theorem pllNum_lt (i : PllId) : pllNum i < 6 := by cases i <;> decide

theorem pllRelock_completes (i : PllId) (s : State) (h : (s.pll (pllNum i)).returning = true) :
    Completes (.pllRelock i) s (fun t => (t.pll (pllNum i)).locked = true ∧ (t.pll (pllNum i)).coast = false ∧ (t.pll (pllNum i)).subst = false ∧
      t.mem = s.mem) := by
  obtain ⟨hl, hc, hsub⟩ := relocked_pll (pllNum_lt i) s
  have hpll := pllRelock_pll h (pllNum i)
  exact ⟨_, exec_pllRelock i s, hpll ▸ hl, hpll ▸ hc, hpll ▸ hsub, pllRelock_mem _ s⟩

theorem relockDeadline_completes (i : PllId) (s : State) (h : (s.pll (pllNum i)).returning = true) :
    Completes (.relockDeadline i) s (fun t => t.pll (pllNum i) = { s.pll (pllNum i) with returning := false } ∧
      (∀ j, j ≠ pllNum i → t.pll j = s.pll j) ∧ t.mem = s.mem) := by
  have he : exec (.relockDeadline i) s = .next (clkRefresh (s.setPll (pllNum i) { s.pll (pllNum i) with returning := false })) := by
    rw [exec_relockDeadline, execRelockDeadline, if_pos h]
  refine ⟨_, he, ?_, fun j hj => ?_, ?_⟩
  · rw [clkRefresh_pll, State.pll_setPll_same]
  · rw [clkRefresh_pll, State.pll_setPll_ne _ _ hj]
  · rw [clkRefresh_mem, State.setPll_mem]

theorem exec_clkTargetWrite_up (m : Master) (val : Word) (s : State) (hup : (s.peak m.peak).up = true) :
    exec (.clkTargetWrite m val) s = .next (clkTarget m.peak val.toNat s) := by
  rw [exec_clkTargetWrite, execClkTargetWrite, if_pos hup]

theorem clkTargetWrite_moves (m : Master) (val : Word) (s : State) (hup : (s.peak m.peak).up = true)
    (hne : val.toNat % 256 ≠ s.fld m.peak Fd.clkCtrlTargetN) (hlo : 128 ≤ val.toNat % 256) (hhi : val.toNat % 256 ≤ 160)
    (hsummit : (s.loaded m.peak).any isSummit = false) :
    Completes (.clkTargetWrite m val) s (fun t => t.fld m.peak Fd.clkCtrlTargetN = val.toNat % 256 ∧
      (s.bit m.peak Fd.clkStatusStepping = false → s.fld m.peak Fd.clkStatusCurN ≠ val.toNat % 256 → t.bit m.peak Fd.clkStatusStepping = true ∧
        t.fld m.peak Fd.clkStatusCurN = if s.fld m.peak Fd.clkStatusCurN < val.toNat % 256 then s.fld m.peak Fd.clkStatusCurN + 1
          else s.fld m.peak Fd.clkStatusCurN - 1) ∧
      { t with regs := s.regs } = s) := by
  obtain ⟨htarget, hcur, -⟩ := setTarget_shows m.peak s (val.toNat % 256)
  rw [Nat.mod_mod] at htarget
  refine ⟨_, (exec_clkTargetWrite_up m val s hup).trans (congrArg Host.Outcome.next (clkTarget_accepted hne hlo hhi hsummit)), ?_⟩
  by_cases hstep : s.bit m.peak Fd.clkStatusStepping = true
  · rw [if_pos hstep]
    refine ⟨htarget, fun h => ?_, State.setFld_rest s _ _ _ s.regs⟩
    rw [hstep] at h
    cases h
  · rw [if_neg hstep]
    obtain ⟨hshows, hmoved⟩ := stepOnce_shows m.peak (s.setFld m.peak Fd.clkCtrlTargetN (val.toNat % 256))
    rw [htarget, hcur] at hshows hmoved
    refine ⟨?_, fun _ hn => ⟨?_, ?_⟩, ?_⟩
    · rw [stepOnce_target, htarget]
    · rw [hshows]; exact decide_eq_true hn
    · rw [hmoved, if_neg hn]
    · rw [stepOnce_rest, State.setFld_rest]

theorem pllStepRelock_completes (p : PeakId) (s : State) (h : s.bit p Fd.clkStatusStepping = true) :
    Completes (.pllStepRelock p) s (fun t => t.bit p Fd.clkStatusStepping = decide (s.fld p Fd.clkStatusCurN ≠ s.fld p Fd.clkCtrlTargetN) ∧
      t.fld p Fd.clkStatusCurN = (if s.fld p Fd.clkStatusCurN = s.fld p Fd.clkCtrlTargetN then s.fld p Fd.clkStatusCurN
        else if s.fld p Fd.clkStatusCurN < s.fld p Fd.clkCtrlTargetN then s.fld p Fd.clkStatusCurN + 1 else s.fld p Fd.clkStatusCurN - 1) ∧
      { t with regs := s.regs } = s) := by
  have he : exec (.pllStepRelock p) s = .next (stepOnce p s) := by
    rw [exec_pllStepRelock, execPllStepRelock, if_pos h]
  obtain ⟨hshows, hmoved⟩ := stepOnce_shows p s
  exact ⟨_, he, hshows, hmoved, stepOnce_rest p s s.regs⟩

/-- Settles O42: each operation on a PLL moves the PLLs by its own rule, and CLK.STATUS and CLK.FLAGS follow; a frequency change moves N by 1 per
relock. -/
theorem clocksAndReference : Obligations.ClocksAndReference := by
  unfold Obligations.ClocksAndReference
  intro m i val p s n q
  refine ⟨pllLossOfLock_completes i s, referenceMissing_completes s, referenceReturn_completes s,
    fun h => ⟨pllRelock_completes i s h, relockDeadline_completes i s h⟩, ?_, pllStepRelock_completes p s⟩
  intro hup v cur hne
  refine ⟨fun hbad => ?_, clkTargetWrite_moves m val s hup hne⟩
  exact ⟨_, exec_clkTargetWrite_up m val s hup, clkTarget_refused hne hbad⟩

end Sys2Proof.Machine
end

section
/-! SUPPORT. What the operations that power, reset and the safe state share leave alone: the baton, the kernel as it settles, a Peak's reset. -/

namespace Sys2Proof.Machine

variable {M : Nat → Nat} {s t : State}

/-! ### The kernel settles (R353 to R366) -/

theorem safChanged_keeps (c i e : Nat) (s : State) : Upd 248524021641229 s (safChanged c i e s) := safChanged_upd (Upd.refl _ s) (by decide)

@[simp] theorem safChanged_power (c i e : Nat) (s : State) : (safChanged c i e s).power = s.power := (safChanged_keeps c i e s).power (by decide)
@[simp] theorem safChanged_cirq (c i e : Nat) (s : State) : (safChanged c i e s).cirq = s.cirq := (safChanged_keeps c i e s).cirq (by decide)
@[simp] theorem safChanged_clock (c i e : Nat) (s : State) : (safChanged c i e s).saddle.clock = s.saddle.clock :=
  (safChanged_keeps c i e s).clock (by decide)
@[simp] theorem safChanged_flight (c i e : Nat) (s : State) : (safChanged c i e s).saddle.flight = s.saddle.flight :=
  (safChanged_keeps c i e s).flight (by decide)
@[simp] theorem safChanged_up (c i e : Nat) (s : State) (p : PeakId) : ((safChanged c i e s).peak p).up = (s.peak p).up :=
  ((safChanged_keeps c i e s).peak p).up (by decide)

/-- A field outside the kernel's mask. -/
theorem safChanged_fld (c i e : Nat) (s : State) (p : PeakId) {f : Fld} (ha : f.addr < 2 ^ 32) (hm : bits (kernelMask f.addr) f.hi f.lo = 0) :
    (safChanged c i e s).fld p f = s.fld p f := (safChanged_frame c i e (RegFrame.refl _ s)).fld p ha hm

/-- Settling a function raises its demand and moves nothing of what the kernel holds beside registers. -/
theorem funcSettle_saf (e f : Nat) (r : Nat × State) : (funcSettle e f r).2.saf = r.2.saf :=
  (funcSettle_upd (Upd.refl 248523987615757 r.2) (by decide)).saf (by decide)

theorem safFirst_img (c f i : Nat) (s : State) : (safFirst c f i s).saf.img = s.saf.img := by
  unfold safFirst
  dsimp only
  split
  · split <;> simp
  · simp

theorem funcsSettle_img (c i e : Nat) (s : State) : (funcsSettle c i e s).saf.img = s.saf.img := by
  have settled : (funcSettle e 2 (funcSettle e 1 (funcSettle e 0 (0, s)))).2.saf = s.saf := by
    rw [funcSettle_saf, funcSettle_saf, funcSettle_saf]
  unfold funcsSettle
  dsimp only
  split
  · rw [settled]
  · rw [safFirst_img, settled]

theorem feedbackAwait_img (on : Bool) (s : State) : (feedbackAwait on s).saf.img = s.saf.img := by
  unfold feedbackAwait
  dsimp only
  split <;> rfl

theorem segSet_keeps (w : Nat) (s : State) : Upd 12289 s (segSet w s) := segSet_upd (Upd.refl _ s) (by decide)

theorem tripInput_saf (src : Nat) (on : Bool) (s : State) : (tripInput src on s).saf = s.saf :=
  (tripInput_upd (Upd.refl 248523988086797 s) (by decide)).saf (by decide)

/-- No settling of the kernel changes its working image (R357). -/
theorem safAct_img (s : State) : (safAct s).saf.img = s.saf.img := by
  unfold safAct
  dsimp only
  rw [tripInput_saf, State.setBit_saf]
  split
  · rw [State.setFld_saf, (segSet_keeps _ s).saf (by decide)]
  · rw [feedbackAwait_img, State.setFld_saf, (segSet_keeps _ s).saf (by decide)]

theorem safRefresh_keeps (s : State) : Upd 1 s (safRefresh s) := safRefresh_upd (Upd.refl _ s) (by decide)

/-- What the kernel's functions settle to, before its outputs follow. -/
def safSettled (c i e : Nat) (s : State) : State :=
  safRefresh (if e = 0 then funcsSettle c i e s else funcsSettle c 0 0 (funcsSettle c i e s))

theorem safChanged_eq (c i e : Nat) (s : State) : safChanged c i e s = safAct (safSettled c i e s) := rfl

theorem safSettled_img (c i e : Nat) (s : State) : (safSettled c i e s).saf.img = s.saf.img := by
  unfold safSettled
  rw [(safRefresh_keeps _).saf (by decide)]
  by_cases he : e = 0
  · rw [if_pos he, funcsSettle_img]
  · rw [if_neg he, funcsSettle_img, funcsSettle_img]

@[simp] theorem safChanged_img (c i e : Nat) (s : State) : (safChanged c i e s).saf.img = s.saf.img := by
  rw [safChanged_eq, safAct_img, safSettled_img]

/-! ### The kernel settles in Bivouac: no pair moves -/

theorem inBivouac_of_power (h : t.power = s.power) : inBivouac t = inBivouac s := by
  unfold inBivouac
  rw [h]

/-- R355: in Bivouac every segment is asserted. -/
theorem segWant_of_bivouac (h : inBivouac s = true) : segWant s = 0x1FF := by
  unfold segWant
  simp [h]

/-- Asserting every segment releases none, so no pair is held for its wrap (R354). -/
theorem segSet_all_pairs (s : State) : (segSet 0x1FF s).saddle.pairs = s.saddle.pairs := by
  have asserted : ∀ p ∈ List.range 32, bits 0x1FF (p / 4) (p / 4) = 1 := by decide
  unfold segSet
  dsimp only
  have loop : ∀ (old : Nat) (u : State), (forAll (List.range 32) (fun p s =>
      if bits old (p / 4) (p / 4) = 1 ∧ bits 0x1FF (p / 4) (p / 4) = 0 then s.setPair p { s.pair p with heldLow := true } else s) u) = u := fun old u =>
    forAll_induct (fun v => v = u) _ _ rfl fun p hp v hv => by
      rw [if_neg (by rw [asserted p hp]; simp), hv]
  rw [loop]
  split
  · split
    · rw [(gatesDown_upd (Upd.refl 8193 _) (by decide)).pairs (by decide), State.setBit_saddle, State.setFld_saddle]
    · rw [State.setBit_saddle, State.setFld_saddle]
  · rw [(pwmRefresh_upd (Upd.refl 1 _) (by decide)).pairs (by decide)]
    split
    · rw [(gatesDown_upd (Upd.refl 8193 _) (by decide)).pairs (by decide), State.setBit_saddle, State.setFld_saddle]
    · rw [State.setBit_saddle, State.setFld_saddle]

/-- R297: the trip matrix stands while the Saddle's clock does. -/
theorem tripInput_pairs_stopped (src : Nat) (on : Bool) (hc : s.saddle.clock = false) : (tripInput src on s).saddle.pairs = s.saddle.pairs := by
  have hs : sourceIn src on s = s := by
    unfold sourceIn
    exact if_neg (by simp [hc])
  unfold tripInput
  rw [hs, (legsSources_upd (Upd.refl 139265 s) (by decide)).pairs (by decide)]

theorem feedbackAwait_saddle (on : Bool) (s : State) : (feedbackAwait on s).saddle = s.saddle := by
  unfold feedbackAwait
  dsimp only
  split <;> rfl

theorem safAct_pairs_bivouac (hb : inBivouac s = true) (hc : s.saddle.clock = false) : (safAct s).saddle.pairs = s.saddle.pairs := by
  have hpairs : (segSet 0x1FF s).saddle.pairs = s.saddle.pairs := segSet_all_pairs s
  have hclock : (segSet 0x1FF s).saddle.clock = false := ((segSet_keeps 0x1FF s).clock (by decide)).trans hc
  unfold safAct
  dsimp only
  rw [segWant_of_bivouac hb]
  generalize segSet 0x1FF s = u at hpairs hclock ⊢
  split
  · rw [tripInput_pairs_stopped, State.setBit_saddle, State.setFld_saddle, hpairs]
    rw [State.setBit_saddle, State.setFld_saddle, hclock]
  · rw [tripInput_pairs_stopped, State.setBit_saddle, feedbackAwait_saddle, State.setFld_saddle, hpairs]
    rw [State.setBit_saddle, feedbackAwait_saddle, State.setFld_saddle, hclock]

theorem funcsSettle_keeps (c i e : Nat) (s : State) : Upd 248524021170189 s (funcsSettle c i e s) := funcsSettle_upd (Upd.refl _ s) (by decide)

theorem safSettled_keeps (c i e : Nat) (s : State) : Upd 248524021170189 s (safSettled c i e s) := by
  unfold safSettled
  refine safRefresh_upd ?_ (by decide)
  by_cases he : e = 0
  · rw [if_pos he]
    exact funcsSettle_keeps c i e s
  · rw [if_neg he]
    exact funcsSettle_upd (funcsSettle_keeps c i e s) (by decide)

theorem safChanged_pairs_bivouac (c i e : Nat) (hb : inBivouac s = true) (hc : s.saddle.clock = false) :
    (safChanged c i e s).saddle.pairs = s.saddle.pairs := by
  have hk := safSettled_keeps c i e s
  rw [safChanged_eq, safAct_pairs_bivouac ((inBivouac_of_power (hk.power (by decide))).trans hb) ((hk.clock (by decide)).trans hc)]
  exact hk.pairs (by decide)

/-! ### The baton (R23, R25, R286) -/

/-- The registers in which the baton shows. -/
def batonRegs : List (Nat × Nat) := [(Reg.pwmBaton, 0xFFFF0007), (Reg.pwmFlags, 0x4)]

theorem batonRegs_baton : onlyRegs batonRegs Reg.pwmBaton = 0xFFFF0007 := rfl
theorem batonRegs_flags : onlyRegs batonRegs Reg.pwmFlags = 0x4 := rfl

theorem lateDrop_frame (h : RegFrame (onlyRegs batonRegs) s t) : RegFrame (onlyRegs batonRegs) s (lateDrop t) := by
  unfold lateDrop State.raise
  dsimp only
  split
  · refine RegFrame.setFld ?_ .a 1 (le_lit rfl) (le_lit rfl) (le_lit rfl) (inMask batonRegs_flags (by decide))
    refine RegFrame.forAll _ _ ?_ fun n _ v hv => hv.of_regs (State.setLeg_regs ..)
    refine RegFrame.forAll _ _ ?_ fun n _ v hv => hv.of_regs (State.setTb_regs ..)
    exact RegFrame.forAll _ _ h fun n _ v hv => hv.of_regs (State.setChan_regs ..)
  · exact h

theorem batonMoved_frame (h : RegFrame (onlyRegs batonRegs) s t) : RegFrame (onlyRegs batonRegs) s (batonMoved t) := by
  unfold batonMoved State.setBit
  dsimp only
  exact RegFrame.setFld (h.setFld .a _ (le_lit rfl) (le_lit rfl) (le_lit rfl) (inMask batonRegs_baton (by decide))) .a _ (le_lit rfl) (le_lit rfl)
    (le_lit rfl) (inMask batonRegs_baton (by decide))

theorem batonTake_frame (h : RegFrame (onlyRegs batonRegs) s t) : RegFrame (onlyRegs batonRegs) s (batonTake t) := by
  have hflight : RegFrame (onlyRegs batonRegs) s { t with saddle := { t.saddle with flight := none } } := h.of_regs (regs_saddle t _)
  unfold batonTake
  dsimp only
  split
  · exact hflight
  · exact batonMoved_frame (RegFrame.setFld (lateDrop_frame hflight) .a 3 (le_lit rfl) (le_lit rfl) (le_lit rfl) (inMask batonRegs_baton (by decide)))

theorem batonMoved_holder (s : State) : (batonMoved s).holder = s.holder := by
  have apart : ∀ (u : State) (v : Nat), (u.setFld .a Fd.pwmBatonMoves v).holder = u.holder := fun u v =>
    State.fld_setFld_apart u .a v (le_lit rfl) (le_lit rfl) rfl (Or.inr (le_lit rfl))
  have sat : ∀ (u : State) (v : Nat), (u.setFld .a Fd.pwmBatonSat v).holder = u.holder := fun u v =>
    State.fld_setFld_apart u .a v (le_lit rfl) (le_lit rfl) rfl (Or.inr (le_lit rfl))
  unfold batonMoved State.setBit
  exact (sat _ _).trans (apart _ _)

/-- R23: the Gendarme has the baton, and no flight goes on. -/
theorem batonTake_holder (s : State) : (batonTake s).holder = 3 := by
  unfold batonTake
  dsimp only
  split
  · assumption
  · rw [batonMoved_holder]
    exact State.fld_setFld _ .a 3 (le_lit rfl) (le_lit rfl)

theorem batonTake_flight (s : State) : (batonTake s).saddle.flight = none := by
  unfold batonTake
  dsimp only
  split
  · rfl
  · rw [(batonMoved_upd (Upd.refl 1 _) (by decide)).flight (by decide), State.setFld_saddle,
      (lateDrop_upd (Upd.refl 11265 _) (by decide)).flight (by decide)]

theorem batonTake_power (s : State) : (batonTake s).power = s.power := (batonTake_upd (Upd.refl 2108417 s) (by decide)).power (by decide)

/-! ### A Peak's reset (R80, R117, R352) -/

/-- A register of a block that both Peaks share outlives a Peak's reset, but for the Gendarme's own record of that Peak. -/
theorem peakReset_reg_shared (p q : PeakId) (s : State) {a : Nat} (ha : a < 2 ^ 32) (hb : regBank q a = 2)
    (hown : a ≠ Reg.gdmPeakReport p.num ∧ a ≠ Reg.gdmPeakView p.num) : (peakReset p s).reg q a = s.reg q a := by
  have hnum : p.num < 2 := by cases p <;> decide
  have hreport : Reg.gdmPeakReport p.num < 2 ^ 32 := by simp only [Reg.gdmPeakReport]; omega
  have hview : Reg.gdmPeakView p.num < 2 ^ 32 := by simp only [Reg.gdmPeakView]; omega
  have hkept : regKey q a / 2 ^ 32 ≠ p.num := by
    rw [regKey_div q ha, hb]
    omega
  unfold peakReset
  rw [State.reg_setReg_ne _ _ (regKey_ne hown.2 ha hview), State.reg_setReg_ne _ _ (regKey_ne hown.1 ha hreport)]
  unfold State.reg State.regW peakForget
  congr 1
  refine (Tab.get_filter regDefault _ (fun k => decide (k / 2 ^ 32 ≠ p.num) || outlivesPeak (k % 2 ^ 32)) (regKey q a)).trans ?_
  rw [if_pos (by rw [decide_eq_true hkept, Bool.true_or])]
  rfl

@[simp] theorem peakReset_power (p : PeakId) (s : State) : (peakReset p s).power =
    { s.power with boot := s.power.boot.set p .none, bist := s.power.bist.set p none, joinAt := s.power.joinAt.set p none } := rfl

theorem peakReset_peaks (p : PeakId) (s : State) : (peakReset p s).peaks = s.peaks.set p {} := rfl

end Sys2Proof.Machine
end

section
/-! SUPPORT and CERTIFICATE. Bivouac (R49 to R53): its entry, what is left when the entry is complete, its wake, and crossings into a stopped
island (R38). -/

namespace Sys2Proof.Machine

variable {M : Nat → Nat} {s t : State}

theorem State.saddle_power (s : State) (w : Power) : ({ s with power := w } : State).saddle = s.saddle := rfl

@[simp] theorem setPhase_regs (f : Phase) (s : State) : (setPhase f s).regs = s.regs := rfl
@[simp] theorem setPhase_saddle (f : Phase) (s : State) : (setPhase f s).saddle = s.saddle := rfl
@[simp] theorem setPhase_power (f : Phase) (s : State) : (setPhase f s).power = { s.power with phase := f } := rfl

/-! ### The write of CLK.BIVOUAC (R49) -/

theorem bivouacWrite_refused {p : PeakId} {v : Nat} (hv : v % 2 = 1) (hrun : s.running = true) (hc : bivouacCheck p v s ≠ 0) :
    bivouacWrite p v s = (s.setFld p Fd.clkBivStatusRefuse (bivouacCheck p v s)).raise p Fd.clkFlagsBivRefused := by
  unfold bivouacWrite
  dsimp only
  rw [if_neg (by simp [hv, hrun]), if_pos hc]

/-- The state in which the kernel hears of an accepted entry: the baton is the Gendarme's, and the wake logic holds the Peak's configuration. -/
def bivouacEntering (p : PeakId) (s : State) : State :=
  let u := tposOn (batonTake (s.setFld p Fd.clkBivStatusRefuse 0))
  setPhase .entering { u with power := { u.power with
    wakeCfg := u.reg p Reg.clkWakeCfg, wakeTime := u.reg p Reg.clkWakeTime, wakeSrc := 0, refLost := false, pwrgd := false
    keep := (List.range 4).map (fun n => u.regW (regKey p (Reg.clkKeep n))) } }

theorem bivouacWrite_accepted {p : PeakId} {v : Nat} (hv : v % 2 = 1) (hrun : s.running = true) (hc : bivouacCheck p v s = 0) :
    bivouacWrite p v s = safChanged 7 0 7 (bivouacEntering p s) := by
  unfold bivouacWrite
  dsimp only
  rw [if_neg (by simp [hv, hrun]), hc, if_neg (by simp)]
  rfl

theorem onlyRegs_of_ne {own : List (Nat × Nat)} {a : Nat} (h : ∀ e ∈ own, e.1 ≠ a) : onlyRegs own a = 0 := by
  have hnone : own.find? (fun e => e.1 == a) = none := List.find?_eq_none.mpr fun e he => by simpa using h e he
  unfold onlyRegs
  rw [hnone]
  rfl

/-- Taking the baton and stopping the test pulses leave the CLK block as it was. -/
theorem entering_reg (p : PeakId) (s : State) {a : Nat} (ha : a / 0x10000 = 0x4001) (hne : a ≠ Reg.clkBivStatus) :
    (tposOn (batonTake (s.setFld p Fd.clkBivStatusRefuse 0))).reg p a = s.reg p a := by
  have ha32 : a < 2 ^ 32 := by omega
  have hsaf : a ≠ Reg.safOutState := by simp only [Reg.safOutState]; omega
  have hbaton : onlyRegs batonRegs a = 0 := onlyRegs_of_ne fun e he => by
    simp only [batonRegs, List.mem_cons, List.not_mem_nil, or_false] at he
    rcases he with rfl | rfl
    · simp only [Reg.pwmBaton]; omega
    · simp only [Reg.pwmFlags]; omega
  calc (tposOn (batonTake (s.setFld p Fd.clkBivStatusRefuse 0))).reg p a
      = (batonTake (s.setFld p Fd.clkBivStatusRefuse 0)).reg p a := State.reg_setFld_ne _ _ (regKey_ne hsaf ha32 (by decide))
    _ = (s.setFld p Fd.clkBivStatusRefuse 0).reg p a := (batonTake_frame (RegFrame.refl _ _)).reg p ha32 hbaton
    _ = s.reg p a := State.reg_setFld_ne s _ (regKey_ne hne ha32 (by decide))

/-- R50: the wake logic holds the Peak's configuration as it stood at the write. -/
theorem bivouacEntering_power (p : PeakId) (s : State) :
    let w := (bivouacEntering p s).power
    w.phase = .entering ∧ w.wakeCfg = s.reg p Reg.clkWakeCfg ∧ w.wakeTime = s.reg p Reg.clkWakeTime ∧
      w.keep = (List.range 4).map (fun n => s.regW (regKey p (Reg.clkKeep n))) ∧ w.wakeSrc = 0 ∧ w.pwrgd = false := by
  have hkeep : ∀ n ∈ List.range 4, Reg.clkKeep n / 0x10000 = 0x4001 ∧ Reg.clkKeep n ≠ Reg.clkBivStatus := by decide
  refine ⟨rfl, entering_reg p s (by decide) (by decide), entering_reg p s (by decide) (by decide), ?_, rfl, rfl⟩
  refine List.map_congr_left fun n hn => ?_
  obtain ⟨hblock, hne⟩ := hkeep n hn
  exact BitVec.eq_of_toNat_eq (entering_reg p s hblock hne)

theorem tposOn_saddle (s : State) : (tposOn s).saddle = s.saddle := by
  unfold tposOn
  rw [State.setFld_saddle]

theorem tposOn_holder (s : State) : (tposOn s).holder = s.holder := by
  have hkey : regKey .a Reg.pwmBaton ≠ regKey .a Reg.safOutState := regKey_ne (by decide) (by decide) (by decide)
  exact State.fld_setFld_ne (f := Fd.safOutStateTpoOn) (g := Fd.pwmBatonHolder) s _ hkey

theorem bivouacEntering_flight (p : PeakId) (s : State) : (bivouacEntering p s).saddle.flight = none := by
  unfold bivouacEntering
  rw [setPhase_saddle, State.saddle_power, tposOn_saddle, batonTake_flight]

theorem bivouacEntering_regs (p : PeakId) (s : State) : (bivouacEntering p s).regs = (tposOn (batonTake (s.setFld p Fd.clkBivStatusRefuse 0))).regs := by
  unfold bivouacEntering
  rw [setPhase_regs]

theorem bivouacEntering_holder (p : PeakId) (s : State) : (bivouacEntering p s).holder = 3 := by
  unfold State.holder State.fld
  rw [State.reg_of_regs (bivouacEntering_regs p s)]
  exact (tposOn_holder _).trans (batonTake_holder _)

theorem kernelMask_pwmBaton : kernelMask Reg.pwmBaton = 0 := rfl

theorem safChanged_holder (c i e : Nat) (s : State) : (safChanged c i e s).holder = s.holder := by
  refine safChanged_fld c i e s .a (f := Fd.pwmBatonHolder) (le_lit rfl) ?_
  rw [show Fd.pwmBatonHolder.addr = Reg.pwmBaton from rfl, kernelMask_pwmBaton]
  rfl

/-! ### What is left when the entry is complete (R50, R53, R357) -/

theorem State.setPll_power (s : State) (n : Nat) (q : Pll) :
    (s.setPll n q).power = { s.power with plls := Tab.put (fun _ => {}) s.power.plls n q } := rfl

theorem peakOff_wakeSrc (p : PeakId) (s : State) : (peakOff p s).power.wakeSrc = s.power.wakeSrc := by
  unfold peakOff
  dsimp only
  rw [clkRefresh_power, State.setPll_power, State.setReg_power, State.setReg_power, peakReset_power]

theorem clkRefresh_up (s : State) (p : PeakId) : ((clkRefresh s).peak p).up = (s.peak p).up := ((clkRefresh_keeps s).peak p).up (by decide)

/-- A Peak without its supply does not run, and the other is as it was. -/
theorem peakOff_up (p q : PeakId) (s : State) : ((peakOff p s).peak q).up = if q = p then false else (s.peak q).up := by
  have hset : ((peakReset p s).peak q).up = if q = p then false else (s.peak q).up := by cases p <;> cases q <;> rfl
  unfold peakOff
  dsimp only
  rw [clkRefresh_up, State.peak_setPll, State.peak_setReg, State.peak_setReg, hset]

/-- The first part of the gating: a copy is dropped, the Peaks lose their supplies, and the results for shared units read 0. -/
def gatePeaks (s : State) : State :=
  forAll [3, 4, 5, 6, 7] (fun w s => bothPeaks (fun p s => (s.setReg p (Reg.bstPass w) 0).setReg p (Reg.bstDone w) 0) s)
    (peakOff .b (peakOff .a (copyAbort s)))

/-- Its second part: the arbiter forgets, and both roles are FAILED. -/
def gateRoles (s : State) : State :=
  let s := { s with gdm := { s.gdm with grant := none, hold := none, lolSince := none, standbyAt := ⟨none, none⟩, mirrored := []
                                        released := false, diverged := false, divRun := 0 } }
  let s := setRole .b 3 (setRole .a 3 s)
  ((s.setFld .a Fd.gdmStatusSynced 0).setFld .a Fd.gdmStatusHolding 0).setFld .a Fd.gdmStatusCopy 0

/-- Its third part: the PLLs of the Saddle and the Cirque stop, and PLL N coasts where the reference is lost. -/
def gateClocks (s : State) : State :=
  let s := forAll [2, 3, 4] (fun i s => s.setPll i {}) s
  if s.refGone then refLossBivouac s else s

/-- Its fourth part: the Saddle and the Cirque lose their supplies, and the kernel's marks clear. -/
def gateSaddle (s : State) : State := ((saddleGate s).setFld .a Fd.safStatusCfgValid 0).setFld .a Fd.safInStateMasked 0

/-- Its last part: the working image is gone, and the device is in Bivouac. -/
def gateImage (s : State) : State := setPhase .bivouac { s with saf := { s.saf with unitsOk := false, img := [] } }

theorem bivouacGated_eq (s : State) :
    bivouacGated s = clkRefresh (safChanged 0 0 0 (gateImage (gateSaddle (gateClocks (gateRoles (gatePeaks s)))))) := rfl

theorem gatePeaks_keeps (s : State) : Upd 1 (peakOff .b (peakOff .a (copyAbort s))) (gatePeaks s) :=
  Upd.forAll (Upd.refl 1 _) fun _ _ h => Upd.bothPeaks h fun _ _ h => State.setReg_upd (State.setReg_upd h (by decide)) (by decide)

theorem gatePeaks_up (s : State) (p : PeakId) : ((gatePeaks s).peak p).up = false := by
  rw [((gatePeaks_keeps s).peak p).up (by decide), peakOff_up, peakOff_up]
  cases p <;> simp

theorem gatePeaks_wakeSrc (s : State) : (gatePeaks s).power.wakeSrc = s.power.wakeSrc := by
  rw [(gatePeaks_keeps s).power (by decide), peakOff_wakeSrc, peakOff_wakeSrc, (copyAbort_upd (Upd.refl 16777217 s) (by decide)).power (by decide)]

theorem setRole_power (p : PeakId) (r : Nat) (s : State) : (setRole p r s).power = s.power := State.setFld_power ..
theorem setRole_peaks (p : PeakId) (r : Nat) (s : State) : (setRole p r s).peaks = s.peaks := State.setFld_peaks ..

theorem gateRoles_power (s : State) : (gateRoles s).power = s.power := by
  unfold gateRoles
  dsimp only
  rw [State.setFld_power, State.setFld_power, State.setFld_power, setRole_power, setRole_power]

theorem gateRoles_peaks (s : State) : (gateRoles s).peaks = s.peaks := by
  unfold gateRoles
  dsimp only
  rw [State.setFld_peaks, State.setFld_peaks, State.setFld_peaks, setRole_peaks, setRole_peaks]

/-! ### The roles (R328) -/

theorem roleFld_addr (p : PeakId) : (roleFld p).addr = Reg.gdmStatus ∧ (roleFld p).lo ≤ (roleFld p).hi ∧ (roleFld p).hi < 4 := by
  cases p <;> decide

theorem role_of_fld {f : Fld} (hf : f.addr = Reg.gdmStatus) (hlo : 4 ≤ f.lo) (hhi : f.lo ≤ f.hi) (h32 : f.hi < 32) (s : State) (v : Nat) (p : PeakId) :
    (s.setFld .a f v).role p = s.role p := by
  obtain ⟨ha, -, hp⟩ := roleFld_addr p
  exact State.fld_setFld_apart s .a v hhi h32 (ha.trans hf.symm) (Or.inr (by omega))

theorem role_setRole (p q : PeakId) (r : Nat) (s : State) : (setRole p r s).role q = if q = p then r % 4 else s.role q := by
  cases p <;> cases q
  · exact State.fld_setFld s .a r (le_lit rfl) (le_lit rfl)
  · exact State.fld_setFld_apart s .a r (le_lit rfl) (le_lit rfl) rfl (Or.inl (le_lit rfl))
  · exact State.fld_setFld_apart s .a r (le_lit rfl) (le_lit rfl) rfl (Or.inr (le_lit rfl))
  · exact State.fld_setFld s .a r (le_lit rfl) (le_lit rfl)

theorem gateRoles_role (s : State) (p : PeakId) : (gateRoles s).role p = 3 := by
  unfold gateRoles
  dsimp only
  rw [role_of_fld rfl (by decide) (by decide) (by decide), role_of_fld rfl (by decide) (by decide) (by decide),
    role_of_fld rfl (by decide) (by decide) (by decide), role_setRole, role_setRole]
  cases p <;> rfl

/-- The roles are bits 3 to 0 of GDM.STATUS. -/
theorem role_of_frame (h : RegFrame M s t) (hm : M Reg.gdmStatus % 16 = 0) (p : PeakId) : t.role p = s.role p := by
  cases p with
  | a =>
    refine h.fld .a (f := Fd.gdmStatusRoleA) (le_lit rfl) ?_
    simp only [Fd.gdmStatusRoleA, bits]
    omega
  | b =>
    refine h.fld .a (f := Fd.gdmStatusRoleB) (le_lit rfl) ?_
    simp only [Fd.gdmStatusRoleB, bits]
    omega

theorem role_of_regs (h : t.regs = s.regs) (p : PeakId) : t.role p = s.role p := by
  unfold State.role State.fld
  rw [State.reg_of_regs h]

/-! ### The clocks in Bivouac (R53) -/

theorem cairnValid_keeps (s : State) : Upd 248523987615757 s (cairnValid s) := cairnValid_upd (Upd.refl _ s) (by decide)

theorem cairnValid_frame : RegFrame (eventsAnd [(Reg.crnStatus, 0x8)]) s (cairnValid s) := by
  have hvalid : RegFrame (onlyRegs [(Reg.crnStatus, 0x8)]) s (s.setBit .a Fd.crnStatusValid (s.bit .a Fd.crnStatusStepped && decide (s.cairn.lease ≠ 0) &&
      !s.cairnRetired)) := by
    unfold State.setBit
    exact (RegFrame.refl _ s).setFld .a _ (le_lit rfl) (le_lit rfl) (le_lit rfl)
      (inMask (show onlyRegs [(Reg.crnStatus, 0x8)] Reg.crnStatus = 0x8 from rfl) (by decide))
  unfold cairnValid
  dsimp only
  split
  · exact RegFrame.refl _ s
  · exact (hvalid.right eventMask).trans ((fireBoth_frame _ (RegFrame.refl _ _)).left _)

/-- What the gating of the clocks leaves: the roles, who runs, and the source of the wake. -/
structure GateKept (s t : State) : Prop where
  role : ∀ p, t.role p = s.role p
  up : ∀ p, (t.peak p).up = (s.peak p).up
  wakeSrc : t.power.wakeSrc = s.power.wakeSrc

theorem GateKept.refl (s : State) : GateKept s s := ⟨fun _ => rfl, fun _ => rfl, rfl⟩

theorem GateKept.trans {u : State} (h : GateKept s t) (g : GateKept t u) : GateKept s u :=
  ⟨fun p => (g.role p).trans (h.role p), fun p => (g.up p).trans (h.up p), g.wakeSrc.trans h.wakeSrc⟩

theorem setPll_gateKept (s : State) (n : Nat) (q : Pll) : GateKept s (s.setPll n q) := ⟨fun _ => rfl, fun _ => rfl, rfl⟩

theorem netCoast_gateKept (s : State) : GateKept s (netCoast s) := ⟨fun _ => rfl, fun _ => rfl, rfl⟩

theorem leaseDrop_gateKept (s : State) : GateKept s (leaseDrop s) := ⟨fun _ => rfl, fun _ => rfl, rfl⟩

theorem cairnValid_gateKept (s : State) : GateKept s (cairnValid s) where
  role := role_of_frame cairnValid_frame rfl
  up p := ((cairnValid_keeps s).peak p).up (by decide)
  wakeSrc := congrArg Power.wakeSrc ((cairnValid_keeps s).power (by decide))

theorem refLossBivouac_gateKept (s : State) : GateKept s (refLossBivouac s) := by
  unfold refLossBivouac
  dsimp only
  split
  · exact netCoast_gateKept s
  · exact ((netCoast_gateKept s).trans (leaseDrop_gateKept _)).trans (cairnValid_gateKept _)

theorem gateClocks_gateKept (s : State) : GateKept s (gateClocks s) := by
  have hstop : GateKept s (forAll [2, 3, 4] (fun i s => s.setPll i {}) s) :=
    forAll_induct (GateKept s) _ _ (GateKept.refl s) fun i _ v hv => hv.trans (setPll_gateKept v i {})
  unfold gateClocks
  dsimp only
  split
  · exact hstop.trans (refLossBivouac_gateKept _)
  · exact hstop

/-! ### The Saddle and the Cirque without their supply -/

/-- A register outside the gated blocks outlives the gating. -/
theorem saddleGate_reg (s : State) (p : PeakId) {a : Nat} (h : saddleKey (regKey p a) = false) : (saddleGate s).reg p a = s.reg p a := by
  have hget := Tab.get_filter regDefault s.regs (fun k => !saddleKey k) (regKey p a)
  rw [h] at hget
  unfold State.reg State.regW saddleGate
  exact congrArg BitVec.toNat hget

theorem saddleGate_role (s : State) (p : PeakId) : (saddleGate s).role p = s.role p := by
  obtain ⟨ha, -, -⟩ := roleFld_addr p
  unfold State.role State.fld
  rw [ha, saddleGate_reg s .a (by decide)]

theorem saddleGate_power (s : State) : (saddleGate s).power = s.power := rfl
theorem saddleGate_peaks (s : State) : (saddleGate s).peaks = s.peaks := rfl
theorem saddleGate_saddle (s : State) : (saddleGate s).saddle = {} := rfl
theorem saddleGate_cirq (s : State) : (saddleGate s).cirq = {} := rfl

theorem role_setFld_ne {f : Fld} (hne : f.addr ≠ Reg.gdmStatus) (ha : f.addr < 2 ^ 32) (s : State) (v : Nat) (p : PeakId) :
    (s.setFld .a f v).role p = s.role p := by
  obtain ⟨hrole, -, -⟩ := roleFld_addr p
  have hkey : regKey .a (roleFld p).addr ≠ regKey .a f.addr := by
    rw [hrole]
    exact regKey_ne hne.symm (by decide) ha
  exact State.fld_setFld_ne s v hkey

theorem gateSaddle_role (s : State) (p : PeakId) : (gateSaddle s).role p = s.role p := by
  unfold gateSaddle
  rw [role_setFld_ne (by decide) (by decide), role_setFld_ne (by decide) (by decide), saddleGate_role]

theorem gateSaddle_power (s : State) : (gateSaddle s).power = s.power := by
  unfold gateSaddle
  rw [State.setFld_power, State.setFld_power, saddleGate_power]

theorem gateSaddle_peaks (s : State) : (gateSaddle s).peaks = s.peaks := by
  unfold gateSaddle
  rw [State.setFld_peaks, State.setFld_peaks, saddleGate_peaks]

theorem gateSaddle_saddle (s : State) : (gateSaddle s).saddle = {} := by
  unfold gateSaddle
  rw [State.setFld_saddle, State.setFld_saddle, saddleGate_saddle]

theorem gateSaddle_cirq (s : State) : (gateSaddle s).cirq = {} := by
  unfold gateSaddle
  rw [State.setFld_cirq, State.setFld_cirq, saddleGate_cirq]

/-- Losing the image changes the kernel's part and the phase alone. -/
theorem gateImage_reads (s : State) : let u := gateImage s
    u.regs = s.regs ∧ u.power = { s.power with phase := .bivouac } ∧ u.peaks = s.peaks ∧ u.saddle = s.saddle ∧ u.cirq = s.cirq ∧ u.saf.img = [] :=
  ⟨rfl, rfl, rfl, rfl, rfl, rfl⟩

/-- The state in which the kernel settles at the end of the entry. -/
theorem gated_reads (s : State) : let u := gateImage (gateSaddle (gateClocks (gateRoles (gatePeaks s))))
    u.power.phase = .bivouac ∧ u.power.wakeSrc = s.power.wakeSrc ∧ (∀ p, (u.peak p).up = false ∧ u.role p = 3) ∧ u.saf.img = [] ∧ u.saddle = {} ∧
      u.cirq = {} := by
  have hclocks := gateClocks_gateKept (gateRoles (gatePeaks s))
  obtain ⟨hregs, hpower, hpeaks, hsaddle, hcirq, himg⟩ := gateImage_reads (gateSaddle (gateClocks (gateRoles (gatePeaks s))))
  intro u
  refine ⟨congrArg Power.phase hpower, (congrArg Power.wakeSrc hpower).trans ?_, fun p => ⟨?_, (role_of_regs hregs p).trans ?_⟩, himg, ?_, ?_⟩
  · rw [gateSaddle_power, hclocks.wakeSrc, gateRoles_power, gatePeaks_wakeSrc]
  · have hpeak : u.peak p = (gateClocks (gateRoles (gatePeaks s))).peak p := by
      unfold State.peak
      rw [hpeaks, gateSaddle_peaks]
    have hroles : (gateRoles (gatePeaks s)).peak p = (gatePeaks s).peak p := by
      unfold State.peak
      rw [gateRoles_peaks]
    rw [hpeak, hclocks.up, hroles, gatePeaks_up]
  · rw [gateSaddle_role, hclocks.role, gateRoles_role]
  · exact hsaddle.trans (gateSaddle_saddle _)
  · exact hcirq.trans (gateSaddle_cirq _)

/-- Entry is complete (R50, R357): the Peaks, the Saddle and the Cirque have lost their state. -/
theorem bivouacGated_reads (s : State) : let t := bivouacGated s
    t.power.phase = .bivouac ∧ t.power.wakeSrc = s.power.wakeSrc ∧ (∀ p, (t.peak p).up = false ∧ t.role p = 3) ∧ t.saf.img = [] ∧
      t.saddle.clock = false ∧ t.saddle.pairs = [] ∧ t.cirq.running = false := by
  have ht := bivouacGated_eq s
  obtain ⟨hphase, hsrc, hpeaks, himg, hsaddle, hcirq⟩ := gated_reads s
  generalize gateImage (gateSaddle (gateClocks (gateRoles (gatePeaks s)))) = u at *
  have hk := clkRefresh_keeps (safChanged 0 0 0 u)
  intro t
  rw [show t = clkRefresh (safChanged 0 0 0 u) from ht]
  refine ⟨?_, ?_, fun p => ⟨?_, ?_⟩, ?_, ?_, ?_, ?_⟩
  · rw [clkRefresh_power, safChanged_power, hphase]
  · rw [clkRefresh_power, safChanged_power, hsrc]
  · rw [clkRefresh_up, safChanged_up, (hpeaks p).1]
  · rw [role_of_frame (clkRefresh_frame (RegFrame.refl _ _)) rfl, role_of_frame (safChanged_frame 0 0 0 (RegFrame.refl _ _)) rfl, (hpeaks p).2]
  · rw [hk.saf (by decide), safChanged_img, himg]
  · rw [hk.clock (by decide), safChanged_clock, hsaddle]
  · rw [hk.pairs (by decide), safChanged_pairs_bivouac 0 0 0 (by unfold inBivouac; rw [hphase]; rfl) (by rw [hsaddle]), hsaddle]
  · rw [hk.cirq (by decide), safChanged_cirq, hcirq]

/-! ### The wake (R51, R52, R53) -/

theorem wakeGo_of_src (h : s.power.wakeSrc = 0) : wakeGo s = s := by
  unfold wakeGo
  exact if_neg (by simp [h])

/-- The first source that is latched in Bivouac begins the stages, where the reference is there. -/
theorem wakeOn_begins {src : BitVec 3} (hsrc : src ≠ 0) (hp : s.power.phase = .bivouac) (hr : s.refGone = false) (h0 : s.power.wakeSrc = 0) :
    (wakeOn src s).power.wakeSrc = src ∧ (wakeOn src s).power.phase = .stages 0 true := by
  have hb : (inBivouac s && decide (s.power.wakeSrc = 0)) = true := by
    unfold inBivouac
    rw [hp, h0]
    rfl
  let u : State := { s with power := { s.power with wakeSrc := src, wakeAt := s.tick } }
  have hgo : wakeGo u = stagesBegin true u := if_pos ⟨hp, hsrc, hr⟩
  have he : wakeOn src s = stagesBegin true u := by
    unfold wakeOn
    rw [if_neg hsrc, if_pos hb]
    exact hgo
  rw [he]
  exact ⟨rfl, rfl⟩

/-! ### Crossings into a stopped island (R38) -/

theorem xtoRecord_again {p : PeakId} {dest addr : Nat} {write : Bool} (h : s.bit p Fd.clkFlagsXto = true) : xtoRecord p dest addr write s = s := by
  unfold xtoRecord
  rw [if_pos h]

/-- The first timeout is recorded with its destination, its kind and its address. -/
theorem xtoRecord_first {p : PeakId} {dest addr : Nat} {write : Bool} (h : s.bit p Fd.clkFlagsXto = false) (hd : dest < 8) (ha : addr < 2 ^ 32) :
    let t := xtoRecord p dest addr write s
    t.bit p Fd.clkFlagsXto = true ∧ t.fld p Fd.clkXtoDest = dest ∧ t.bit p Fd.clkXtoWrite = write ∧ t.reg p Reg.clkXtoAddr = addr := by
  have hflagsXto : regKey p Reg.clkFlags ≠ regKey p Reg.clkXto := regKey_ne (by decide) (by decide) (by decide)
  have hflagsAddr : regKey p Reg.clkFlags ≠ regKey p Reg.clkXtoAddr := regKey_ne (by decide) (by decide) (by decide)
  have hxtoAddr : regKey p Reg.clkXto ≠ regKey p Reg.clkXtoAddr := regKey_ne (by decide) (by decide) (by decide)
  let flagged := s.raise p Fd.clkFlagsXto
  let named := flagged.setFld p Fd.clkXtoDest dest
  let kind := named.setBit p Fd.clkXtoWrite write
  have hrecord : xtoRecord p dest addr write s = kind.setReg p Reg.clkXtoAddr addr := by
    unfold xtoRecord
    rw [if_neg (by simp [h])]
  have hflag : kind.bit p Fd.clkFlagsXto = true := by
    have hkind : kind.bit p Fd.clkFlagsXto = named.bit p Fd.clkFlagsXto := State.bit_setFld_ne (f := Fd.clkXtoWrite) named _ hflagsXto
    have hnamed : named.bit p Fd.clkFlagsXto = flagged.bit p Fd.clkFlagsXto := State.bit_setFld_ne (f := Fd.clkXtoDest) flagged _ hflagsXto
    rw [hkind, hnamed]
    exact State.bit_raise s p rfl (by decide)
  have hdest : kind.fld p Fd.clkXtoDest = dest := by
    have hkind : kind.fld p Fd.clkXtoDest = named.fld p Fd.clkXtoDest :=
      State.fld_setFld_apart (f := Fd.clkXtoWrite) named p _ (le_lit rfl) (le_lit rfl) rfl (Or.inr (le_lit rfl))
    have hset : named.fld p Fd.clkXtoDest = dest % 8 := State.fld_setFld (f := Fd.clkXtoDest) flagged p dest (le_lit rfl) (le_lit rfl)
    rw [hkind, hset, Nat.mod_eq_of_lt hd]
  have hwrite : kind.bit p Fd.clkXtoWrite = write := State.bit_setBit named p rfl (by decide) write
  intro t
  have ht : t = kind.setReg p Reg.clkXtoAddr addr := hrecord
  generalize kind = k at *
  rw [ht]
  refine ⟨?_, ?_, ?_, ?_⟩
  · unfold State.bit
    rw [State.fld_setReg_ne k addr (g := Fd.clkFlagsXto) hflagsAddr]
    exact hflag
  · rw [State.fld_setReg_ne k addr (g := Fd.clkXtoDest) hxtoAddr]
    exact hdest
  · unfold State.bit
    rw [State.fld_setReg_ne k addr (g := Fd.clkXtoWrite) hxtoAddr]
    exact hwrite
  · rw [State.reg_setReg, Nat.mod_eq_of_lt ha]

theorem xtoRecord_rest (p : PeakId) (dest addr : Nat) (write : Bool) (s : State) (r : Tab Word) (d : Word) :
    { xtoRecord p dest addr write s with regs := r, readData := d } = { s with regs := r, readData := d } := by
  by_cases h : s.bit p Fd.clkFlagsXto = true
  · rw [xtoRecord_again h]
  · unfold xtoRecord
    rw [if_neg h]
    simp

theorem xtoRecord_readData (p : PeakId) (dest addr : Nat) (write : Bool) (s : State) : (xtoRecord p dest addr write s).readData = s.readData :=
  (xtoRecord_upd (Upd.refl 1 s) (by decide)).readData (by decide)

/-- What a crossing that gives up returns to its master: a read returns 0. -/
def gaveUp (write : Bool) (s : State) : State := if write then s else { s with readData := 0 }

theorem crossingTimeout_down {p : PeakId} {dest : Nat} (addr : Nat) (write : Bool) (hup : (s.peak p).up = true) (hd : destDown p dest s = true) :
    crossingTimeout p dest addr write s = xtoRecord p dest addr write (gaveUp write s) := by
  unfold crossingTimeout
  rw [hup, hd]
  rfl

theorem gaveUp_reads (write : Bool) (s : State) : (gaveUp write s).regs = s.regs ∧ (gaveUp write s).readData = (if write then s.readData else 0) ∧
    ∀ r, { gaveUp write s with regs := r, readData := s.readData } = { s with regs := r, readData := s.readData } := by
  cases write <;> exact ⟨rfl, rfl, fun _ => rfl⟩

/-! ### The statement, clause by clause -/

theorem exec_bivouacEnter_up (m : Master) (val : Word) (s : State) (hup : (s.peak m.peak).up = true) :
    exec (.bivouacEnter m val) s = .next (bivouacWrite m.peak val.toNat s) := by
  rw [exec_bivouacEnter, execBivouacEnter, if_pos hup]

theorem bivouacCheck_lt (p : PeakId) (v : Nat) (s : State) : bivouacCheck p v s < 16 := by
  unfold bivouacCheck
  repeat' split
  all_goals decide

theorem bivouacEnter_refused (m : Master) (val : Word) (s : State) (hup : (s.peak m.peak).up = true) (hrun : s.running = true)
    (hv : val.toNat % 2 = 1) (hc : bivouacCheck m.peak val.toNat s ≠ 0) :
    Completes (.bivouacEnter m val) s (fun t => t.fld m.peak Fd.clkBivStatusRefuse = bivouacCheck m.peak val.toNat s ∧
      t.bit m.peak Fd.clkFlagsBivRefused = true ∧ { t with regs := s.regs } = s) := by
  have hkey : regKey m.peak Reg.clkBivStatus ≠ regKey m.peak Reg.clkFlags := regKey_ne (by decide) (by decide) (by decide)
  have he := (exec_bivouacEnter_up m val s hup).trans (congrArg Host.Outcome.next (bivouacWrite_refused hv hrun hc))
  have hlt := bivouacCheck_lt m.peak val.toNat s
  generalize bivouacCheck m.peak val.toNat s = c at *
  have hcode : (s.setFld m.peak Fd.clkBivStatusRefuse c).fld m.peak Fd.clkBivStatusRefuse = c % 16 :=
    State.fld_setFld s m.peak c (le_lit rfl) (le_lit rfl)
  have hraise : ((s.setFld m.peak Fd.clkBivStatusRefuse c).raise m.peak Fd.clkFlagsBivRefused).fld m.peak Fd.clkBivStatusRefuse =
      (s.setFld m.peak Fd.clkBivStatusRefuse c).fld m.peak Fd.clkBivStatusRefuse := State.fld_setFld_ne (f := Fd.clkFlagsBivRefused) _ 1 hkey
  refine ⟨_, he, ?_, State.bit_raise _ m.peak rfl (by decide), by simp⟩
  rw [hraise, hcode, Nat.mod_eq_of_lt hlt]

theorem bivouacEnter_accepted (m : Master) (val : Word) (s : State) (hup : (s.peak m.peak).up = true) (hrun : s.running = true)
    (hv : val.toNat % 2 = 1) (hc : bivouacCheck m.peak val.toNat s = 0) :
    Completes (.bivouacEnter m val) s (fun t => t.power.phase = .entering ∧ t.power.wakeCfg = s.reg m.peak Reg.clkWakeCfg ∧
      t.power.wakeTime = s.reg m.peak Reg.clkWakeTime ∧ t.power.keep = (List.range 4).map (fun n => s.regW (regKey m.peak (Reg.clkKeep n))) ∧
      t.power.wakeSrc = 0 ∧ t.power.pwrgd = false ∧ t.saddle.flight = none ∧ t.holder = 3) := by
  have he := (exec_bivouacEnter_up m val s hup).trans (congrArg Host.Outcome.next (bivouacWrite_accepted hv hrun hc))
  obtain ⟨hphase, hcfg, htime, hkeep, hsrc, hpwrgd⟩ := bivouacEntering_power m.peak s
  have hpower := safChanged_power 7 0 7 (bivouacEntering m.peak s)
  refine ⟨_, he, ?_⟩
  beta_reduce
  rw [hpower]
  refine ⟨hphase, hcfg, htime, hkeep, hsrc, hpwrgd, ?_, ?_⟩
  · rw [safChanged_flight, bivouacEntering_flight]
  · rw [safChanged_holder, bivouacEntering_holder]

theorem bivouacEntryComplete_completes (s : State) (hp : s.power.phase = .entering) (hsrc : s.power.wakeSrc = 0) :
    Completes .bivouacEntryComplete s (fun t => t.power.phase = .bivouac ∧ (∀ p, (t.peak p).up = false ∧ t.role p = 3) ∧ t.saf.img = [] ∧
      t.saddle.clock = false ∧ t.saddle.pairs = [] ∧ t.cirq.running = false) := by
  obtain ⟨hphase, hkept, hpeaks, himg, hclock, hpairs, hcirq⟩ := bivouacGated_reads s
  have he : exec .bivouacEntryComplete s = .next (bivouacGated s) := by
    rw [exec_bivouacEntryComplete, execBivouacEntryComplete, if_pos hp, wakeGo_of_src (hkept.trans hsrc)]
  exact ⟨_, he, hphase, hpeaks, himg, hclock, hpairs, hcirq⟩

theorem wakeEvent_col (s : State) (hp : s.power.phase = .bivouac) (hr : s.refGone = false) (h0 : s.power.wakeSrc = 0)
    (hen : bits s.power.wakeCfg 0 0 = 1) : Completes (.wakeEvent true 0) s (fun t => t.power.wakeSrc = 1 ∧ t.power.phase = .stages 0 true) := by
  have he : exec (.wakeEvent true 0) s = .next (wakeOn 1 s) := by
    rw [exec_wakeEvent, execWakeEvent]
    simp [hen]
  exact ⟨_, he, wakeOn_begins (by decide) hp hr h0⟩

theorem wakeEvent_sin (sin : BitVec 8) (s : State) (hp : s.power.phase = .bivouac) (hr : s.refGone = false) (h0 : s.power.wakeSrc = 0)
    (hen : sin.toNat &&& bits s.power.wakeCfg 10 3 ≠ 0) :
    Completes (.wakeEvent false sin) s (fun t => t.power.wakeSrc = 2 ∧ t.power.phase = .stages 0 true) := by
  have he : exec (.wakeEvent false sin) s = .next (wakeOn 2 s) := by
    rw [exec_wakeEvent, execWakeEvent]
    simp [hen]
  exact ⟨_, he, wakeOn_begins (by decide) hp hr h0⟩

theorem wakeAlarm_completes (s : State) (hp : s.power.phase = .bivouac) (hr : s.refGone = false) (h0 : s.power.wakeSrc = 0)
    (hen : bits s.power.wakeCfg 2 2 = 1) (ht : s.cairn.sec % 2 ^ 32 = s.power.wakeTime) :
    Completes .wakeAlarm s (fun t => t.power.wakeSrc = 4 ∧ t.power.phase = .stages 0 true) := by
  have he : exec .wakeAlarm s = .next (wakeOn 4 s) := by
    rw [exec_wakeAlarm, execWakeAlarm, if_pos ⟨hen, ht⟩]
  exact ⟨_, he, wakeOn_begins (by decide) hp hr h0⟩

theorem crossingTimeout_stopped (m : Master) (dest : Fin 6) (addr : Word) (write : Bool) (s : State) (hup : (s.peak m.peak).up = true)
    (hd : destDown m.peak dest.val s = true) :
    Completes (.crossingTimeout m dest addr write) s (fun t => t.bit m.peak Fd.clkFlagsXto = true ∧ t.readData = (if write then s.readData else 0) ∧
      (s.bit m.peak Fd.clkFlagsXto = false → t.fld m.peak Fd.clkXtoDest = dest.val ∧ t.bit m.peak Fd.clkXtoWrite = write ∧
        t.reg m.peak Reg.clkXtoAddr = addr.toNat) ∧
      (s.bit m.peak Fd.clkFlagsXto = true → t.regs = s.regs) ∧ { t with regs := s.regs, readData := s.readData } = s) := by
  obtain ⟨hregs, hread, hrest⟩ := gaveUp_reads write s
  have he : exec (.crossingTimeout m dest addr write) s = .next (xtoRecord m.peak dest.val addr.toNat write (gaveUp write s)) := by
    rw [exec_crossingTimeout, execCrossingTimeout, crossingTimeout_down _ _ hup hd]
  have hbit : (gaveUp write s).bit m.peak Fd.clkFlagsXto = s.bit m.peak Fd.clkFlagsXto := by
    unfold State.bit State.fld
    rw [State.reg_of_regs hregs]
  have hback : { xtoRecord m.peak dest.val addr.toNat write (gaveUp write s) with regs := s.regs, readData := s.readData } = s :=
    (xtoRecord_rest ..).trans (hrest s.regs)
  have hdata := (xtoRecord_readData m.peak dest.val addr.toNat write (gaveUp write s)).trans hread
  by_cases h : s.bit m.peak Fd.clkFlagsXto = true
  · have hagain := xtoRecord_again (p := m.peak) (dest := dest.val) (addr := addr.toNat) (write := write) (hbit.trans h)
    refine ⟨_, he, ?_, hdata, fun hf => ?_, fun _ => ?_, hback⟩
    · rw [hagain, hbit, h]
    · rw [h] at hf
      cases hf
    · rw [hagain, hregs]
  · have hf : s.bit m.peak Fd.clkFlagsXto = false := by simpa using h
    obtain ⟨hflag, hdest, hwrite, haddr⟩ := xtoRecord_first (dest := dest.val) (addr := addr.toNat) (write := write) (hbit.trans hf) (by omega) addr.isLt
    exact ⟨_, he, hflag, hdata, fun _ => ⟨hdest, hwrite, haddr⟩, fun ht => absurd ht h, hback⟩

theorem crossingTimeout_running (m : Master) (dest : Fin 6) (addr : Word) (write : Bool) (s : State) (hd : destDown m.peak dest.val s = false) :
    Completes (.crossingTimeout m dest addr write) s (fun t => t = s) := by
  have he : exec (.crossingTimeout m dest addr write) s = .next s := by
    rw [exec_crossingTimeout, execCrossingTimeout, crossingTimeout, hd]
    simp
  exact ⟨_, he, rfl⟩

/-- Settles O43: entry is checked, then the wake logic holds the configuration and the baton is taken; the gating leaves neither Peaks nor Saddle nor
Cirque; an enabled source begins the stages; a crossing gives up toward a stopped island alone. -/
theorem bivouacAndCrossings : Obligations.BivouacAndCrossings := by
  unfold Obligations.BivouacAndCrossings
  intro m val sin dest addr write s
  refine ⟨fun hup hrun hv => ⟨bivouacEnter_refused m val s hup hrun hv, bivouacEnter_accepted m val s hup hrun hv⟩, bivouacEntryComplete_completes s,
    fun hp hr h0 => ⟨wakeEvent_col s hp hr h0, wakeEvent_sin sin s hp hr h0, wakeAlarm_completes s hp hr h0⟩,
    crossingTimeout_stopped m dest addr write s, crossingTimeout_running m dest addr write s⟩

end Sys2Proof.Machine
end

section
/-! SUPPORT. Entry to the safe state (R348): it shows in GDM.STATUS.SAFE, and the stage of the device is not its business. -/

namespace Sys2Proof.Machine

variable {M : Nat → Nat} {s t : State}

theorem State.safe_of_regs (h : t.regs = s.regs) : t.safe = s.safe := by
  unfold State.safe State.bit State.fld
  rw [State.reg_of_regs h]

/-- From `s` to `t` neither the mark of the safe state nor the phase of the device changed. -/
structure SafeKept (s t : State) : Prop where
  safe : t.safe = s.safe
  phase : t.power.phase = s.power.phase

theorem SafeKept.refl (s : State) : SafeKept s s := ⟨rfl, rfl⟩

theorem SafeKept.trans {u : State} (h : SafeKept s t) (g : SafeKept t u) : SafeKept s u := ⟨g.safe.trans h.safe, g.phase.trans h.phase⟩

/-- SAFE is bit 5 of GDM.STATUS. -/
theorem SafeKept.of_frame (h : RegFrame M s t) (hm : M Reg.gdmStatus / 32 % 2 = 0) (hp : t.power = s.power) : SafeKept s t where
  safe := h.bit .a (f := Fd.gdmStatusSafe) (le_lit rfl) (by simp only [Fd.gdmStatusSafe, bits]; omega)
  phase := congrArg Power.phase hp

theorem SafeKept.of_regs (hr : t.regs = s.regs) (hp : t.power = s.power) : SafeKept s t where
  safe := State.safe_of_regs hr
  phase := congrArg Power.phase hp

theorem SafeKept.setReg (h : SafeKept s t) {a : Nat} (v : Nat) (hne : a ≠ Reg.gdmStatus) (ha : a < 2 ^ 32) : SafeKept s (t.setReg .a a v) := by
  have hkey : regKey .a Reg.gdmStatus ≠ regKey .a a := regKey_ne hne.symm (by decide) ha
  refine h.trans ⟨?_, congrArg Power.phase (State.setReg_power t .a a v)⟩
  unfold State.safe State.bit
  rw [State.fld_setReg_ne t v (g := Fd.gdmStatusSafe) hkey]

theorem SafeKept.setFld (h : SafeKept s t) {f : Fld} (v : Nat) (hne : f.addr ≠ Reg.gdmStatus) (ha : f.addr < 2 ^ 32) : SafeKept s (t.setFld .a f v) :=
  h.setReg _ hne ha

/-- Another field of GDM.STATUS. -/
theorem SafeKept.setStatus (h : SafeKept s t) {hi lo : Nat} (v : Nat) (hlh : lo ≤ hi) (h32 : hi < 32) (hd : hi < 5 ∨ 5 < lo) :
    SafeKept s (t.setFld .a ⟨Reg.gdmStatus, hi, lo⟩ v) :=
  h.trans ⟨State.bit_setFld_apart (f := ⟨Reg.gdmStatus, hi, lo⟩) (g := Fd.gdmStatusSafe) t .a v hlh h32 rfl hd, congrArg Power.phase (State.setFld_power ..)⟩

theorem SafeKept.gdm (h : SafeKept s t) (g : Gdm) : SafeKept s { t with gdm := g } := h.trans ⟨rfl, rfl⟩

theorem SafeKept.pwrgd (h : SafeKept s t) (b : Bool) : SafeKept s { t with power := { t.power with pwrgd := b } } := h.trans ⟨rfl, rfl⟩

/-! ### The operations of the entry -/

theorem gdmLast_safeKept (c : Nat) (p : PeakId) (a : Nat) (h : SafeKept s t) : SafeKept s (gdmLast c p a t) :=
  h.setReg _ (by decide) (by decide)

theorem cmdOver_safeKept (c : Nat) (h : SafeKept s t) : SafeKept s (cmdOver c t) := by
  unfold cmdOver gdmResult
  split
  · have hbusy := (h.setFld (f := Fd.gdmCmdStatusBusy) 0 (by decide) (by decide)).gdm { t.gdm with cmd := none }
    have hresult := hbusy.setFld (f := Fd.gdmCmdStatusResult) c (by decide) (by decide)
    dsimp only
    split
    · exact hresult
    · exact hresult.setFld (f := Fd.gdmFlagsCmdRefused) 1 (by decide) (by decide)
  · exact h

theorem gdmPeak_addr (p : PeakId) : ∀ a ∈ [Reg.gdmPeakCopy p.num, Reg.gdmPeakReport p.num, Reg.gdmPeakView p.num], a ≠ Reg.gdmStatus ∧ a < 2 ^ 32 := by
  cases p <;> decide

theorem copyAbort_safeKept (h : SafeKept s t) : SafeKept s (copyAbort t) := by
  unfold copyAbort copyDrop copyFields bothPeaks
  split
  · dsimp only
    refine cmdOver_safeKept 5 (SafeKept.gdm ?_ _)
    refine SafeKept.setStatus ?_ 0 (by decide) (by decide) (by decide)
    obtain ⟨hna, hla⟩ := gdmPeak_addr .a (Reg.gdmPeakCopy PeakId.a.num) (by simp)
    obtain ⟨hnb, hlb⟩ := gdmPeak_addr .b (Reg.gdmPeakCopy PeakId.b.num) (by simp)
    exact (h.setReg _ hna hla).setReg _ hnb hlb
  · exact h

theorem batonTake_safeKept (h : SafeKept s t) : SafeKept s (batonTake t) :=
  h.trans (SafeKept.of_frame (batonTake_frame (RegFrame.refl _ t)) rfl (batonTake_power t))

theorem peakReset_safeKept (p : PeakId) (h : SafeKept s t) : SafeKept s (peakReset p t) := by
  have hphase := congrArg Power.phase (peakReset_power p t)
  refine h.trans ⟨?_, hphase⟩
  have hreg : (peakReset p t).reg .a Reg.gdmStatus = t.reg .a Reg.gdmStatus := by
    refine peakReset_reg_shared p .a t (by decide) rfl ⟨?_, ?_⟩
    · exact (gdmPeak_addr p _ (by simp)).1.symm
    · exact (gdmPeak_addr p _ (by simp)).1.symm
  unfold State.safe State.bit State.fld
  rw [show Fd.gdmStatusSafe.addr = Reg.gdmStatus from rfl, hreg]

theorem setRole_safeKept (p : PeakId) (r : Nat) (h : SafeKept s t) : SafeKept s (setRole p r t) := by
  cases p <;> exact h.setStatus r (by decide) (by decide) (by decide)

theorem meanStop_safeKept (n : Nat) (h : SafeKept s t) : SafeKept s (meanStop n t) := by
  have hk := meanStop_upd (tb := n) (Upd.refl 137438953472 t) (by decide)
  exact h.trans (SafeKept.of_regs (hk.regs (by decide)) (hk.power (by decide)))

theorem pairsDecide_safeKept (h : SafeKept s t) : SafeKept s (pairsDecide t) :=
  h.trans (SafeKept.of_frame (pairsDecide_frame (RegFrame.refl _ t)) rfl ((pairsDecide_upd (Upd.refl 4097 t) (by decide)).power (by decide)))

theorem legDisable_safeKept {n : Nat} (hn : n < 6) (h : SafeKept s t) : SafeKept s (legDisable n t) :=
  h.trans (SafeKept.of_frame (legDecide_frame hn (legOff_frame hn (RegFrame.refl _ t))) rfl ((legDisable_upd (Upd.refl 8193 t) (by decide)).power (by decide)))

theorem stopAll_safeKept (h : SafeKept s t) : SafeKept s (stopAll t) := by
  unfold stopAll
  split
  · dsimp only
    refine forAll_induct (SafeKept s) _ _ (pairsDecide_safeKept ?_) fun n hn v hv => legDisable_safeKept (legNumbers_lt hn) hv
    refine forAll_induct (SafeKept s) _ _ ?_ fun p hp v hv => ?_
    · refine forAll_induct (SafeKept s) _ _ h fun n hn v hv => meanStop_safeKept n ?_
      have hn8 : n < 8 := List.mem_range.mp hn
      have hstatus : Reg.pwmTbStatus n ≠ Reg.gdmStatus ∧ Reg.pwmTbStatus n < 2 ^ 32 := by
        simp only [Reg.pwmTbStatus, Reg.gdmStatus]; omega
      have hcount : Reg.pwmTbCount n ≠ Reg.gdmStatus ∧ Reg.pwmTbCount n < 2 ^ 32 := by
        simp only [Reg.pwmTbCount, Reg.gdmStatus]; omega
      have hrun := (hv.setFld (f := Fd.pwmTbStatusRun n) 0 hstatus.1 hstatus.2).setFld (f := Fd.pwmTbStatusArmed n) 0 hstatus.1 hstatus.2
      have hzero := hrun.setReg 0 hcount.1 hcount.2
      exact hzero.trans (SafeKept.of_regs (State.setTb_regs ..) (State.setTb_power ..))
    · have hp32 : p < 32 := List.mem_range.mp hp
      have hcfg : Reg.pwmPairCfg p ≠ Reg.gdmStatus ∧ Reg.pwmPairCfg p < 2 ^ 32 := by
        simp only [Reg.pwmPairCfg, Reg.gdmStatus]; omega
      have hstatus : Reg.pwmPairStatus p ≠ Reg.gdmStatus ∧ Reg.pwmPairStatus p < 2 ^ 32 := by
        simp only [Reg.pwmPairStatus, Reg.gdmStatus]; omega
      have hoff := (hv.setFld (f := Fd.pwmPairCfgEn p) 0 hcfg.1 hcfg.2).setFld (f := Fd.pwmPairStatusActive p) 0 hstatus.1 hstatus.2
      exact hoff.trans (SafeKept.of_regs (State.setPair_regs ..) (State.setPair_power ..))
  · exact h

theorem tracePut_safeKept (p : PeakId) (ty pay : Nat) (h : SafeKept s t) : SafeKept s (tracePut p ty pay t) :=
  h.trans (SafeKept.of_frame (tracePut_frame p ty pay (RegFrame.refl _ t)) rfl ((tracePut_upd (Upd.refl 211106232532993 t) (by decide)).power (by decide)))

theorem fireBoth_safeKept (ev : Nat) (h : SafeKept s t) : SafeKept s (fireBoth ev t) :=
  h.trans (SafeKept.of_frame (fireBoth_frame ev (RegFrame.refl _ t)) rfl ((fireBoth_upd (Upd.refl 248523987615757 t) (by decide)).power (by decide)))

theorem gwPend_safeKept (f : Fld) (hf : f.addr < 2 ^ 32) (h : SafeKept s t) : SafeKept s (gwPend f t) :=
  h.trans (SafeKept.of_frame (M := fun _ => 0) (gwPend_frame f hf (RegFrame.refl _ t)) rfl (State.setRegW_power ..))

theorem viewRole_safeKept (p : PeakId) (r : Nat) (h : SafeKept s t) : SafeKept s (t.setFld .a (Fd.gdmPeakViewRole p.num) r) := by
  obtain ⟨hne, hlt⟩ := gdmPeak_addr p (Reg.gdmPeakView p.num) (by simp)
  exact h.setFld (f := Fd.gdmPeakViewRole p.num) r hne hlt

theorem announce_safeKept (h : SafeKept s t) : SafeKept s (announce t) := by
  have hview : ∀ (p : PeakId) (u : State), SafeKept s u →
      SafeKept s (if (u.peak p).up then u.setFld .a (Fd.gdmPeakViewRole p.num) (u.role p) else u) := by
    intro p u hu
    split
    · exact viewRole_safeKept p _ hu
    · exact hu
  unfold announce bothPeaks
  exact gwPend_safeKept _ (by decide) (fireBoth_safeKept _ (tracePut_safeKept .b _ _ (tracePut_safeKept .a _ _ (hview .b _ (hview .a _ h)))))

theorem safChanged_safeKept (c i e : Nat) (h : SafeKept s t) : SafeKept s (safChanged c i e t) :=
  h.trans (SafeKept.of_frame (safChanged_frame c i e (RegFrame.refl _ t)) rfl (safChanged_power c i e t))

theorem setSafe_safe (s : State) : (s.setFld .a Fd.gdmStatusSafe 1).safe = true := State.bit_raise s .a (f := Fd.gdmStatusSafe) rfl (by decide)

/-- R348: after the entry the device is in the safe state, and its phase is as it was. -/
theorem safeEnter_enters (c : Nat) (p : PeakId) (s : State) : (safeEnter c p s).safe = true ∧ (safeEnter c p s).power.phase = s.power.phase := by
  by_cases hs : s.safe = true
  · unfold safeEnter
    rw [if_pos hs]
    exact ⟨hs, rfl⟩
  · have hkept : SafeKept (s.setFld .a Fd.gdmStatusSafe 1) (safeEnter c p s) := by
      unfold safeEnter
      rw [if_neg hs]
      refine safChanged_safeKept _ _ _ (gwPend_safeKept _ (by decide) (announce_safeKept (SafeKept.pwrgd (stopAll_safeKept ?_) false)))
      refine SafeKept.setStatus (SafeKept.setStatus (SafeKept.setStatus ?_ 0 (by decide) (by decide) (by decide)) 0 (by decide) (by decide) (by decide))
        0 (by decide) (by decide) (by decide)
      refine setRole_safeKept _ _ (setRole_safeKept _ _ (peakReset_safeKept _ (peakReset_safeKept _ (batonTake_safeKept (SafeKept.gdm ?_ _)))))
      refine copyAbort_safeKept (cmdOver_safeKept _ (gdmLast_safeKept _ _ _ ?_))
      exact (SafeKept.refl _).setFld (f := Fd.gdmFlagsSafeEntered) 1 (by decide) (by decide)
    exact ⟨hkept.safe.trans (setSafe_safe s), hkept.phase.trans (congrArg Power.phase (State.setFld_power ..))⟩

end Sys2Proof.Machine
end

section
/-! SUPPORT and CERTIFICATE. The cold start, the reference check and the stages (R54, R55, R61 to R63). -/

namespace Sys2Proof.Machine

variable {s t : State}

theorem State.fld_of_regs (h : t.regs = s.regs) (p : PeakId) (f : Fld) : t.fld p f = s.fld p f := by
  unfold State.fld
  rw [State.reg_of_regs h]

/-! ### The start instants -/

/-- A register of the LCS block beside STATE. -/
theorem lcsShow_reg {a : Nat} (ha : a < 2 ^ 32) (hbelow : a < Reg.lcsKeystat) (s : State) : (lcsShow s).reg .a a = s.reg .a a := by
  have keeps : ∀ (b v : Nat) (u : State), Reg.lcsKeystat ≤ b → b < 2 ^ 32 → (u.setReg .a b v).reg .a a = u.reg .a a := fun b v u hb hlt =>
    State.reg_setReg_ne u v (regKey_ne (Nat.ne_of_lt (Nat.lt_of_lt_of_le hbelow hb)) ha hlt)
  unfold lcsShow
  dsimp only
  refine forAll_induct (fun u => u.reg .a a = s.reg .a a) _ _ ?_ fun k hk v hv => forAll_induct (fun u => u.reg .a a = s.reg .a a) _ _ hv fun j hj w hw => ?_
  · rw [keeps _ _ _ (by decide) (by decide), keeps _ _ _ (by decide) (by decide)]
  · have hk4 : k < 4 := List.mem_range.mp hk
    have hj8 : j < 8 := List.mem_range.mp hj
    refine (keeps _ _ _ ?_ ?_).trans hw
    · simp only [Reg.lcsKeystat, Reg.lcsKeyhash]; omega
    · simp only [Reg.lcsKeyhash]; omega

theorem Fuses.state_lt (f : Fuses) : f.state < 4 := by
  unfold Fuses.state
  split_ifs <;> decide

/-- R61: LCS.STATE.STATE shows the lifecycle state that the fuses spell. -/
theorem fuseRead_state (s : State) : (fuseRead s).fld .a Fd.lcsStateState = s.power.fuses.state := by
  have hstate := s.power.fuses.state_lt
  unfold fuseRead State.fld
  dsimp only
  rw [show Fd.lcsStateState.addr = Reg.lcsState from rfl, lcsShow_reg (by decide) (by decide), State.reg_setReg]
  simp only [Fd.lcsStateState, bits]
  split <;> omega

/-- The network clock and Cairn begin (R61). -/
def clockOn (s : State) : State := { s.setPll 5 { locked := true } with cairn := { s.cairn with running := true } }

theorem clockOn_reads (s : State) : (clockOn s).cairn.running = true ∧ (clockOn s).pll 5 = { locked := true } :=
  ⟨rfl, State.pll_setPll_same ..⟩

theorem gendarmeInstant_fuses (ok xin : Bool) (h : s.power.phase = .cold 0) :
    gendarmeInstant 1 ok xin s = safChanged 0 0 0 (setPhase (.cold 1) (fuseRead s)) := by
  unfold gendarmeInstant
  rw [h]
  rfl

theorem gendarmeInstant_clock (xin : Bool) (h : s.power.phase = .cold 1) : gendarmeInstant 2 true xin s =
    clkRefresh (mapPoint (setPhase (.cold 2) (clockOn s))) := by
  unfold gendarmeInstant
  rw [h]
  rfl

theorem gendarmeInstant_failed {i : Nat} (xin : Bool) (h : s.power.phase = .cold 1 ∧ i = 2 ∨ s.power.phase = .cold 2 ∧ i = 3) :
    gendarmeInstant i false xin s = haltSafe (safeEnter 0xB .a s) := by
  unfold gendarmeInstant
  obtain ⟨hp, rfl⟩ | ⟨hp, rfl⟩ := h
  · rw [hp]; rfl
  · rw [hp]; rfl

theorem gendarmeInstant_tested (xin : Bool) (h : s.power.phase = .cold 2) : gendarmeInstant 3 true xin s =
    if s.fld .a Fd.lcsStateState = 3 then retiredStay s else clkRefresh (setPhase .waiting { s with power := { s.power with xin := xin } }) := by
  unfold gendarmeInstant
  rw [h]
  rfl

theorem mapPoint_keeps (s : State) : Upd 128 s (mapPoint s) := mapPoint_upd (Upd.refl 128 s) (by decide)

theorem mapPoint_running (s : State) : (mapPoint s).cairn.running = s.cairn.running := rfl

theorem State.pll_setPhase (f : Phase) (s : State) (n : Nat) : (setPhase f s).pll n = s.pll n := rfl

theorem clockStart_reads (s : State) : let t := clkRefresh (mapPoint (setPhase (.cold 2) (clockOn s)))
    t.power.phase = .cold 2 ∧ t.cairn.running = true ∧ (t.pll 5).locked = true := by
  intro t
  obtain ⟨hrun, hpll⟩ := clockOn_reads s
  have hcairn : t.cairn = (mapPoint (setPhase (.cold 2) (clockOn s))).cairn := (clkRefresh_keeps _).cairn (by decide)
  have hpower : t.power = (setPhase (.cold 2) (clockOn s)).power := (clkRefresh_power _).trans ((mapPoint_keeps _).power (by decide))
  refine ⟨?_, ?_, ?_⟩
  · rw [hpower, setPhase_power]
  · rw [hcairn, mapPoint_running]
    exact hrun
  · rw [State.pll_of_power hpower, State.pll_setPhase, hpll]

theorem haltSafe_halts (h : s.safe = true) : (haltSafe s).power.phase = .halted ∧ (haltSafe s).safe = true :=
  ⟨rfl, (State.safe_of_regs (setPhase_regs .halted s)).trans h⟩

/-- R62, R63: a failed self-test ends in the safe state. -/
theorem failedTest_halts (s : State) : (haltSafe (safeEnter 0xB .a s)).power.phase = .halted ∧ (haltSafe (safeEnter 0xB .a s)).safe = true :=
  haltSafe_halts (safeEnter_enters _ _ s).1

theorem retiredStay_halts (s : State) : (retiredStay s).power.phase = .halted ∧ (retiredStay s).safe = true :=
  haltSafe_halts ((safChanged_safeKept 0 0 0 (SafeKept.refl _)).safe.trans (setSafe_safe s))

/-! ### The first instants and the reference check, clause by clause -/

theorem gendarmeStartInstant_completes {i : Fin 4} {ok xin : Bool} {P : State → Prop} (h : gendarmeInstant i.val ok xin s = t) (hP : P t) :
    Completes (.gendarmeStartInstant i ok xin) s P := ⟨t, by rw [exec_gendarmeStartInstant, execGendarmeStartInstant, h], hP⟩

theorem fuseInstant_completes (good xin : Bool) (s : State) (h : s.power.phase = .cold 0) :
    Completes (.gendarmeStartInstant 1 good xin) s (fun t => t.power.phase = .cold 1 ∧ t.fld .a Fd.lcsStateState = s.power.fuses.state) := by
  refine gendarmeStartInstant_completes (gendarmeInstant_fuses good xin h) ⟨?_, ?_⟩
  · rw [safChanged_power, setPhase_power]
  · have hmask : kernelMask Reg.lcsState = 0 := rfl
    rw [safChanged_fld 0 0 0 _ .a (f := Fd.lcsStateState) (le_lit rfl) (by rw [show Fd.lcsStateState.addr = Reg.lcsState from rfl, hmask]; simp [bits]),
      State.fld_of_regs (setPhase_regs ..), fuseRead_state]

theorem clockInstant_completes (xin : Bool) (s : State) (h : s.power.phase = .cold 1) :
    Completes (.gendarmeStartInstant 2 true xin) s (fun t => t.power.phase = .cold 2 ∧ t.cairn.running = true ∧ (t.pll 5).locked = true) :=
  gendarmeStartInstant_completes (gendarmeInstant_clock xin h) (clockStart_reads s)

theorem failedInstant_completes {i : Fin 4} (xin : Bool) (s : State) (h : s.power.phase = .cold 1 ∧ i.val = 2 ∨ s.power.phase = .cold 2 ∧ i.val = 3) :
    Completes (.gendarmeStartInstant i false xin) s (fun t => t.power.phase = .halted ∧ t.safe = true) :=
  gendarmeStartInstant_completes (gendarmeInstant_failed xin h) (failedTest_halts s)

theorem retiredInstant_completes (xin : Bool) (s : State) (h : s.power.phase = .cold 2) (hr : s.fld .a Fd.lcsStateState = 3) :
    Completes (.gendarmeStartInstant 3 true xin) s (fun t => t.power.phase = .halted ∧ t.safe = true) :=
  gendarmeStartInstant_completes ((gendarmeInstant_tested xin h).trans (if_pos hr)) (retiredStay_halts s)

theorem testedInstant_completes (xin : Bool) (s : State) (h : s.power.phase = .cold 2) (hr : s.fld .a Fd.lcsStateState ≠ 3) :
    Completes (.gendarmeStartInstant 3 true xin) s (fun t => t.power = { s.power with phase := .waiting, xin := xin }) := by
  refine gendarmeStartInstant_completes ((gendarmeInstant_tested xin h).trans (if_neg hr)) ?_
  rw [clkRefresh_power, setPhase_power]

theorem refCheck_waiting (good : Bool) (s : State) (h : s.power.phase = .waiting) :
    Completes (.refCheckWindow good) s (fun t => t.power = { s.power with xin := good }) := by
  have he : exec (.refCheckWindow good) s = .next (clkRefresh { s with power := { s.power with xin := good } }) := by
    rw [exec_refCheckWindow, execRefCheckWindow, h]
  exact ⟨_, he, clkRefresh_power _⟩

theorem refCheck_running (s : State) (h : s.power.phase = .running) (hx : s.power.xin = true) :
    Completes (.refCheckWindow false) s (fun t => t.power.xin = false ∧
      (∀ q, t.bit q Fd.clkFlagsRefLoss = true ∧ t.bit q Fd.clkStatusRefLost = true) ∧ ((s.pll 2).locked = true → (t.pll 2).coast = true)) := by
  let u : State := { s with power := { s.power with xin := false } }
  have hu : u.power.phase = .running := h
  have hgone : u.refGone = true := by simp [u, State.refGone]
  have he : exec (.refCheckWindow false) s = .next (refLoss u) := by
    rw [exec_refCheckWindow, execRefCheckWindow, h]
    simp only [hx]
    rfl
  refine ⟨_, he, ?_, fun q => ?_, fun hl => refLoss_coasts hu hl⟩
  · have hkeep := congrArg Power.xin (refLoss_power hu)
    exact hkeep
  · obtain ⟨hflag, hlost⟩ := refLoss_shows hu q
    exact ⟨hflag, hlost.trans hgone⟩

theorem stageStart_begins (s : State) (hp : s.power.phase = .waiting) (hr : s.refGone = false) (hv : s.power.vauxA = true ∨ s.power.vauxB = true) :
    Completes .stageStart s (fun t =>
      t.power = { s.power with phase := .stages 0 false, pllFail := ⟨!s.power.vauxA, !s.power.vauxB⟩, cirqOk := ⟨false, false⟩ } ∧
      t.gdm = { s.gdm with failedAt := ⟨s.tick, s.tick⟩ } ∧ { t with power := s.power, gdm := s.gdm } = s) := by
  refine ⟨stagesBegin false s, ?_, rfl, rfl, rfl⟩
  rw [exec_stageStart, execStageStart, if_pos ⟨hp, hr, hv⟩]

end Sys2Proof.Machine
end

section
/-! CERTIFICATE. The stages t1 to t6 (R54, R55, R63). -/

namespace Sys2Proof.Machine

variable {s t : State} {l : BitVec 6} {wake : Bool} {p q : PeakId}

theorem stageInstant_completes {i : Fin 7} {P : State → Prop} (h : stageInstant i.val l s = t) (hP : P t) : Completes (.stageInstant i l) s P :=
  ⟨t, by rw [exec_stageInstant, execStageInstant, h], hP⟩

/-- What happens at an instant of the stages. -/
def stageAct (i : Nat) (l : BitVec 6) (wake : Bool) (s : State) : State :=
  match i with
  | 3 => stageLock l s
  | 4 => stageStep l s
  | 5 => stageSaddle s
  | 6 => stageRelease wake s
  | _ => s

theorem stageAct_quiet {i : Nat} (h : i = 1 ∨ i = 2) (l : BitVec 6) (wake : Bool) (s : State) : stageAct i l wake s = s := by
  obtain rfl | rfl := h
  · rfl
  · rfl

theorem stageAct_lock (l : BitVec 6) (wake : Bool) (s : State) : stageAct 3 l wake s = stageLock l s := rfl
theorem stageAct_step (l : BitVec 6) (wake : Bool) (s : State) : stageAct 4 l wake s = stageStep l s := rfl
theorem stageAct_saddle (l : BitVec 6) (wake : Bool) (s : State) : stageAct 5 l wake s = stageSaddle s := rfl
theorem stageAct_release (l : BitVec 6) (wake : Bool) (s : State) : stageAct 6 l wake s = stageRelease wake s := rfl

/-- The instants pass in their order, each with its act. -/
theorem stageInstant_eq {j : Nat} (h : s.power.phase = .stages j wake) :
    stageInstant (j + 1) l s = stageAct (j + 1) l wake (setPhase (.stages (j + 1) wake) s) := by
  unfold stageInstant
  rw [h]
  exact if_pos rfl

/-! ### The Peaks' turns at the two deadlines -/

/-- A Peak's turn at a deadline: it is left out where it was already or where its PLL misses the instant. -/
def DeadlineTurn (l : BitVec 6) (f : PeakId → State → State) : Prop :=
  ∀ p u, (f p u).power.phase = u.power.phase ∧
    ∀ q, (f p u).power.pllFail.get q = if q = p then u.power.pllFail.get p || !l.getLsbD p.num else u.power.pllFail.get q

theorem DeadlineTurn.bothPeaks {f : PeakId → State → State} (hf : DeadlineTurn l f) (s : State) :
    (bothPeaks f s).power.phase = s.power.phase ∧ ∀ q, (bothPeaks f s).power.pllFail.get q = (s.power.pllFail.get q || !l.getLsbD q.num) := by
  obtain ⟨hpa, hfa⟩ := hf .a s
  obtain ⟨hpb, hfb⟩ := hf .b (f .a s)
  refine ⟨hpb.trans hpa, fun q => ?_⟩
  unfold Machine.bothPeaks
  rw [hfb, hfa, hfa]
  cases q <;> simp

theorem Two.get_set {α : Type} (w : Two α) (p q : PeakId) (v : α) : (w.set p v).get q = if q = p then v else w.get q := by
  cases p <;> cases q <;> rfl

theorem leftOut_fails (p q : PeakId) (s : State) : (leftOut p s).power.pllFail.get q = if q = p then true else s.power.pllFail.get q :=
  Two.get_set ..

/-- A turn that leaves the Peak out where its PLL missed the instant, and elsewhere touches no mark of a failure. -/
theorem deadlineTurn_of {f g : PeakId → State → State}
    (hf : ∀ p u, f p u = if u.power.pllFail.get p then u else if l.getLsbD p.num then g p u else leftOut p u)
    (hg : ∀ p u, (g p u).power.phase = u.power.phase ∧ (g p u).power.pllFail = u.power.pllFail) : DeadlineTurn l f := by
  intro p u
  obtain ⟨hphase, hfail⟩ := hg p u
  rw [hf]
  cases h : u.power.pllFail.get p with
  | true =>
    refine ⟨rfl, fun q => ?_⟩
    rw [if_pos rfl, Bool.true_or]
    split
    · rename_i hq
      rw [hq, h]
    · rfl
  | false =>
    rw [if_neg Bool.false_ne_true]
    cases hl : l.getLsbD p.num with
    | true =>
      refine ⟨hphase, fun q => ?_⟩
      rw [if_pos rfl, hfail]
      split
      · rename_i hq
        rw [hq, h]
        rfl
      · rfl
    | false => exact ⟨rfl, fun q => leftOut_fails p q u⟩

/-- t3: the Peak's PLL is locked, and it begins to step toward N = 160. -/
def peakLocked (p : PeakId) (s : State) : State :=
  stepOnce p ((((s.setPll p.num { locked := true }).setReg p Reg.clkCtrl 160).setFld p Fd.clkStatusCurN 128).setFld p Fd.clkStatusStepping 1)

def lockTurn (l : BitVec 6) (p : PeakId) (s : State) : State :=
  if s.power.pllFail.get p then s else if l.getLsbD p.num then peakLocked p s else leftOut p s

/-- t3: the Cirque's PLLs. -/
def cirqLock (l : BitVec 6) (s : State) : State :=
  let s := { s with power := { s.power with cirqOk := ⟨l.getLsbD 3 && s.power.vauxA, l.getLsbD 4 && s.power.vauxB⟩ } }
  let s := if s.power.cirqOk.a then s.setPll 3 { locked := true } else s
  if s.power.cirqOk.b then s.setPll 4 { locked := true } else s

theorem stageLock_locked (h : l.getLsbD 2 = true) (s : State) :
    stageLock l s = clkRefresh ((cirqLock l (bothPeaks (lockTurn l) s)).setPll 2 { locked := true }) := by
  unfold stageLock
  exact if_pos h

theorem stageLock_missed (h : ¬l.getLsbD 2 = true) (s : State) :
    stageLock l s = clkRefresh (safeEnter 0xB .a (leftOut .b (leftOut .a (cirqLock l (bothPeaks (lockTurn l) s))))) := by
  unfold stageLock
  exact if_neg h

theorem State.setPll_phase (s : State) (n : Nat) (x : Pll) : (s.setPll n x).power.phase = s.power.phase := rfl
theorem State.setPll_pllFail (s : State) (n : Nat) (x : Pll) : (s.setPll n x).power.pllFail = s.power.pllFail := rfl

theorem stepOnce_power (p : PeakId) (s : State) : (stepOnce p s).power = s.power := (stepOnce_upd (Upd.refl 1 s) (by decide)).power (by decide)

theorem peakLocked_power (p : PeakId) (s : State) : (peakLocked p s).power = (s.setPll p.num { locked := true }).power := by
  unfold peakLocked
  rw [stepOnce_power, State.setFld_power, State.setFld_power, State.setReg_power]

theorem lockTurn_deadline (l : BitVec 6) : DeadlineTurn l (lockTurn l) :=
  deadlineTurn_of (fun _ _ => rfl) fun p u =>
    ⟨(congrArg Power.phase (peakLocked_power p u)).trans (State.setPll_phase ..), (congrArg Power.pllFail (peakLocked_power p u)).trans (State.setPll_pllFail ..)⟩

theorem cirqLock_keeps (l : BitVec 6) (s : State) : (cirqLock l s).power.phase = s.power.phase ∧ (cirqLock l s).power.pllFail = s.power.pllFail := by
  unfold cirqLock
  dsimp only
  split_ifs <;> exact ⟨rfl, rfl⟩

theorem stageLock_phase (l : BitVec 6) (s : State) : (stageLock l s).power.phase = s.power.phase := by
  have hturns := ((cirqLock_keeps l _).1).trans ((lockTurn_deadline l).bothPeaks s).1
  by_cases h : l.getLsbD 2 = true
  · rw [stageLock_locked h, clkRefresh_power, State.setPll_phase, hturns]
  · rw [stageLock_missed h, clkRefresh_power, (safeEnter_enters ..).2]
    exact hturns

theorem stageLock_shows (h : l.getLsbD 2 = true) (s : State) : ((stageLock l s).pll 2).locked = true ∧
    ∀ q, (stageLock l s).power.pllFail.get q = (s.power.pllFail.get q || !l.getLsbD q.num) := by
  rw [stageLock_locked h]
  refine ⟨?_, fun q => ?_⟩
  · rw [clkRefresh_pll, State.pll_setPll_same]
  · rw [clkRefresh_power, State.setPll_pllFail, (cirqLock_keeps l _).2, ((lockTurn_deadline l).bothPeaks s).2]

/-- t4: the Peak has stepped to N = 160. -/
def peakStepped (p : PeakId) (s : State) : State := (s.setFld p Fd.clkStatusCurN 160).setFld p Fd.clkStatusStepping 0

def stepTurn (l : BitVec 6) (p : PeakId) (s : State) : State :=
  if s.power.pllFail.get p then s else if l.getLsbD p.num then peakStepped p s else leftOut p s

theorem stageStep_eq (l : BitVec 6) (s : State) : stageStep l s = bothPeaks (stepTurn l) s := rfl

theorem peakStepped_power (p : PeakId) (s : State) : (peakStepped p s).power = s.power := by
  unfold peakStepped
  rw [State.setFld_power, State.setFld_power]

theorem stepTurn_deadline (l : BitVec 6) : DeadlineTurn l (stepTurn l) :=
  deadlineTurn_of (fun _ _ => rfl) fun p u => ⟨congrArg Power.phase (peakStepped_power p u), congrArg Power.pllFail (peakStepped_power p u)⟩

theorem peakStepped_curN (p : PeakId) (s : State) : (peakStepped p s).fld p Fd.clkStatusCurN = 160 := by
  unfold peakStepped
  rw [State.fld_setFld_apart _ p (f := Fd.clkStatusStepping) (g := Fd.clkStatusCurN) 0 (le_lit rfl) (le_lit rfl) rfl (Or.inr (le_lit rfl)),
    State.fld_setFld s p (f := Fd.clkStatusCurN) 160 (le_lit rfl) (le_lit rfl)]
  rfl

theorem stepTurn_curN (hf : s.power.pllFail.get p = false) (hl : l.getLsbD p.num = true) : (stepTurn l p s).fld p Fd.clkStatusCurN = 160 := by
  unfold stepTurn
  rw [hf, if_neg Bool.false_ne_true, if_pos hl, peakStepped_curN]

theorem stepTurn_curN_peer (h : q ≠ p) (l : BitVec 6) (s : State) : (stepTurn l p s).fld q Fd.clkStatusCurN = s.fld q Fd.clkStatusCurN := by
  have hkey : regKey q Reg.clkStatus ≠ regKey p Reg.clkStatus := clkKey_ne h _ (by decide)
  unfold stepTurn peakStepped
  split_ifs
  · rfl
  · rw [State.fld_setFld_ne (f := Fd.clkStatusStepping) (g := Fd.clkStatusCurN) _ 0 hkey, State.fld_setFld_ne (f := Fd.clkStatusCurN) (g := Fd.clkStatusCurN) _ 160 hkey]
  · exact State.fld_of_regs rfl q _

/-- R54: at t4 every Peak that is locked still runs at N = 160. -/
theorem stageStep_curN (hf : s.power.pllFail.get q = false) (hl : l.getLsbD q.num = true) : (stageStep l s).fld q Fd.clkStatusCurN = 160 := by
  rw [stageStep_eq]
  unfold bothPeaks
  cases q with
  | a => rw [stepTurn_curN_peer (by decide), stepTurn_curN hf hl]
  | b => exact stepTurn_curN (((stepTurn_deadline l .a s).2 .b).trans hf) hl

/-! ### t5: the Saddle and the Cirque -/

/-- The Saddle's clock runs, and its ticks count from here. -/
def saddleOn (s : State) : State := { saddleGate s with saddle := { (saddleGate s).saddle with clock := true }, tick0 := (saddleGate s).tick }

theorem saddleOn_reads (s : State) : (saddleOn s).saddle.clock = true ∧ (saddleOn s).tick0 = s.tick ∧ (saddleOn s).power = s.power := ⟨rfl, rfl, rfl⟩

theorem stageSaddle_locked (h : (s.pll 2).locked = true) :
    ∃ okA okB, stageSaddle s = cirqRelease okA okB (mapPoint (fusedLimits ((saddleOn s).setBit .a Fd.spurStatusVdrvOk s.power.vdrv))) := by
  unfold stageSaddle
  rw [if_pos h]
  exact ⟨_, _, rfl⟩

/-- R54: the Saddle's clock runs from t5, and nothing after it in the stage touches that. -/
theorem stageSaddle_shows (h : (s.pll 2).locked = true) :
    (stageSaddle s).saddle.clock = true ∧ (stageSaddle s).tick0 = s.tick ∧ (stageSaddle s).power = s.power := by
  obtain ⟨okA, okB, he⟩ := stageSaddle_locked h
  obtain ⟨hclock, htick, hpower⟩ := saddleOn_reads s
  have hkeep : Upd 1073742017 (saddleOn s) (stageSaddle s) := by
    rw [he]
    exact cirqRelease_upd (mapPoint_upd (fusedLimits_upd (State.setBit_upd (Upd.refl _ _) (by decide)) (by decide)) (by decide)) (by decide)
  exact ⟨(hkeep.clock (by decide)).trans hclock, (hkeep.tick0 (by decide)).trans htick, (hkeep.power (by decide)).trans hpower⟩

theorem stageSaddle_phase (s : State) : (stageSaddle s).power.phase = s.power.phase := by
  by_cases h : (s.pll 2).locked = true
  · exact congrArg Power.phase (stageSaddle_shows h).2.2
  · unfold stageSaddle
    rw [if_neg h]

/-! ### t6: the Peaks -/

theorem State.vaux_setPhase (f : Phase) (s : State) (p : PeakId) : (setPhase f s).vaux p = s.vaux p := by
  cases p <;> rfl

/-- A Peak out of reset, as its boot controller finds it. -/
def peakStarted (p : PeakId) (s : State) : State :=
  let s := s.setPeak p { s.peak p with up := true, releasedAt := s.tick }
  { s with power := { s.power with boot := s.power.boot.set p .r0, joinAt := s.power.joinAt.set p none } }

theorem peakStarted_up (p q : PeakId) (s : State) : ((peakStarted p s).peak q).up = if q = p then true else (s.peak q).up := by
  cases p <;> cases q <;> rfl

theorem peakStarted_power (p : PeakId) (s : State) : (peakStarted p s).power =
    { s.power with boot := s.power.boot.set p .r0, joinAt := s.power.joinAt.set p none } := rfl

theorem peakRelease_eq (p : PeakId) (cause : Nat) (s : State) :
    peakRelease p cause s = ((peakStarted p (peakReset p s)).setReg p Reg.bootCause cause).setFld p Fd.bstStatusBusy 1 := rfl

theorem peakReset_up_peer (h : q ≠ p) (s : State) : ((peakReset p s).peak q).up = (s.peak q).up := by
  unfold State.peak
  rw [peakReset_peaks, Two.get_set, if_neg h]

/-- After a wake the stage shows the wake in registers, beside the release. -/
theorem stagePeak_keeps (wake : Bool) (cause : Nat) (p : PeakId) (s : State) : Upd 1 (peakRelease p cause s) (stagePeak wake cause p s) := by
  unfold stagePeak
  generalize peakRelease p cause s = u
  have hwoke := State.setFld_upd (p := p) (f := Fd.clkBivStatusWakeSrc) (v := u.power.wakeSrc.toNat)
    (State.setFld_upd (p := p) (f := Fd.clkBivStatusWoke) (v := 1) (Upd.refl 1 u) (by decide)) (by decide)
  have hkeep : ∀ (w : State) (f : State → Nat → Word), Upd 1 u w →
      Upd 1 u (forAll (List.range 4) (fun n s => State.setRegW s (regKey p (Reg.clkKeep n)) (f s n)) w) := fun w f hw =>
    Upd.forAll hw fun _ _ hv => State.setRegW_upd hv (by decide)
  exact Upd.ite (Upd.ite (State.raise_upd (hkeep _ _ hwoke) (by decide)) (hkeep _ _ hwoke)) (Upd.refl 1 u)

theorem stagePeak_up (wake : Bool) (cause : Nat) (p q : PeakId) (s : State) :
    ((stagePeak wake cause p s).peak q).up = if q = p then true else (s.peak q).up := by
  rw [((stagePeak_keeps wake cause p s).peak q).up (by decide), peakRelease_eq, State.peak_setFld, State.peak_setReg, peakStarted_up]
  split
  · rfl
  · rename_i h
    exact peakReset_up_peer h s

theorem stagePeak_power (wake : Bool) (cause : Nat) (p : PeakId) (s : State) : (stagePeak wake cause p s).power =
    { (peakReset p s).power with boot := (peakReset p s).power.boot.set p .r0, joinAt := (peakReset p s).power.joinAt.set p none } := by
  rw [(stagePeak_keeps wake cause p s).power (by decide), peakRelease_eq, State.setFld_power, State.setReg_power, peakStarted_power]

theorem stagePeak_boot (wake : Bool) (cause : Nat) (p q : PeakId) (s : State) :
    (stagePeak wake cause p s).power.boot.get q = if q = p then .r0 else s.power.boot.get q := by
  rw [stagePeak_power, peakReset_power]
  dsimp only
  rw [Two.get_set, Two.get_set]
  split <;> rfl

/-- A Peak's turn at t6: it stays in reset where the stages left it out or where it has no supply. -/
def releaseTurn (wake : Bool) (cause : Nat) (p : PeakId) (s : State) : State :=
  if s.power.pllFail.get p || !s.vaux p then s else stagePeak wake cause p s

/-- The marks and supplies by which the turns are taken stay. -/
theorem releaseTurn_marks (wake : Bool) (cause : Nat) (p q : PeakId) (s : State) :
    (releaseTurn wake cause p s).power.pllFail.get q = s.power.pllFail.get q ∧ (releaseTurn wake cause p s).vaux q = s.vaux q := by
  unfold releaseTurn
  split
  · exact ⟨rfl, rfl⟩
  · unfold State.vaux
    rw [stagePeak_power, peakReset_power]
    exact ⟨rfl, rfl⟩

theorem releaseTurn_starts (hf : s.power.pllFail.get p = false) (hv : s.vaux p = true) (wake : Bool) (cause : Nat) :
    ((releaseTurn wake cause p s).peak p).up = true ∧ (releaseTurn wake cause p s).power.boot.get p = .r0 := by
  unfold releaseTurn
  rw [hf, hv, if_neg (by decide), stagePeak_up, stagePeak_boot, if_pos rfl, if_pos rfl]
  exact ⟨rfl, rfl⟩

theorem releaseTurn_peer (h : q ≠ p) (wake : Bool) (cause : Nat) (s : State) :
    ((releaseTurn wake cause p s).peak q).up = (s.peak q).up ∧ (releaseTurn wake cause p s).power.boot.get q = s.power.boot.get q := by
  unfold releaseTurn
  split
  · exact ⟨rfl, rfl⟩
  · rw [stagePeak_up, stagePeak_boot, if_neg h, if_neg h]
    exact ⟨rfl, rfl⟩

theorem releaseTurns_start (hf : s.power.pllFail.get q = false) (hv : s.vaux q = true) (wake : Bool) (cause : Nat) :
    ((bothPeaks (releaseTurn wake cause) s).peak q).up = true ∧ (bothPeaks (releaseTurn wake cause) s).power.boot.get q = .r0 := by
  unfold bothPeaks
  cases q with
  | a =>
    obtain ⟨hup, hboot⟩ := releaseTurn_peer (p := .b) (q := .a) (by decide) wake cause (releaseTurn wake cause .a s)
    rw [hup, hboot]
    exact releaseTurn_starts hf hv wake cause
  | b =>
    obtain ⟨hfail, hvaux⟩ := releaseTurn_marks wake cause .a .b s
    exact releaseTurn_starts (hfail.trans hf) (hvaux.trans hv) wake cause

/-- The stages are over and the device runs. -/
def stagesDone (s : State) : State :=
  setPhase .running { s with power := { s.power with cause := 0, wakeSrc := 0, refLost := false, merged := false, slot0 := none, slot1 := none, colBytes := [] } }

theorem stagesDone_reads (q : PeakId) (s : State) : (stagesDone s).power.phase = .running ∧ ((stagesDone s).peak q).up = (s.peak q).up ∧
    (stagesDone s).power.boot.get q = s.power.boot.get q := ⟨rfl, rfl, rfl⟩

/-- What the Peaks' turns leave, before the safety kernel looks at it. -/
def released (wake : Bool) (s : State) : State := clkRefresh (stagesDone (bothPeaks (releaseTurn wake (if wake then causeWake else s.power.cause)) s))

theorem stageRelease_eq (wake : Bool) (s : State) : stageRelease wake s =
    if ((released wake s).peak .a).up || ((released wake s).peak .b).up then safChanged 0 0 0 (released wake s) else safeEnter 0xB .a (released wake s) := rfl

theorem released_phase (wake : Bool) (s : State) : (released wake s).power.phase = .running := by
  unfold released
  rw [clkRefresh_power]
  exact (stagesDone_reads .a _).1

theorem released_starts (hf : s.power.pllFail.get q = false) (hv : s.vaux q = true) (wake : Bool) :
    ((released wake s).peak q).up = true ∧ (released wake s).power.boot.get q = .r0 := by
  unfold released
  generalize (if wake then causeWake else s.power.cause) = cause
  obtain ⟨hup, hboot⟩ := releaseTurns_start hf hv wake cause
  obtain ⟨-, hkeepUp, hkeepBoot⟩ := stagesDone_reads q (bothPeaks (releaseTurn wake cause) s)
  rw [clkRefresh_up, clkRefresh_power, hkeepUp, hkeepBoot]
  exact ⟨hup, hboot⟩

theorem stageRelease_phase (wake : Bool) (s : State) : (stageRelease wake s).power.phase = .running := by
  rw [stageRelease_eq]
  split
  · rw [safChanged_power, released_phase]
  · rw [(safeEnter_enters ..).2, released_phase]

/-- R54: a Peak with its supply and its lock leaves reset at t6, and its boot begins. -/
theorem stageRelease_starts (hf : s.power.pllFail.get q = false) (hv : s.vaux q = true) (wake : Bool) :
    ((stageRelease wake s).peak q).up = true ∧ (stageRelease wake s).power.boot.get q = .r0 := by
  obtain ⟨hup, hboot⟩ := released_starts hf hv wake
  have hany : (((released wake s).peak .a).up || ((released wake s).peak .b).up) = true := by
    cases q with
    | a => rw [hup, Bool.true_or]
    | b => rw [hup, Bool.or_true]
  rw [stageRelease_eq, if_pos hany, safChanged_up, safChanged_power]
  exact ⟨hup, hboot⟩

/-! ### The statement, instant by instant -/

theorem quietInstant_completes {i : Fin 7} {j : Nat} (hp : s.power.phase = .stages j wake) (hi : i.val = j + 1) (hq : i.val = 1 ∨ i.val = 2) :
    Completes (.stageInstant i l) s (fun t => ∃ wake, t = setPhase (.stages i.val wake) s) := by
  have he : stageInstant i.val l s = stageAct i.val l wake (setPhase (.stages i.val wake) s) := hi ▸ stageInstant_eq hp
  exact stageInstant_completes (he.trans (stageAct_quiet hq ..)) ⟨wake, rfl⟩

theorem lockInstant_completes {j : Nat} (hp : s.power.phase = .stages j wake) (hi : (3 : Fin 7).val = j + 1) : Completes (.stageInstant 3 l) s (fun t =>
    (∃ wake, t.power.phase = .stages 3 wake) ∧ (l.getLsbD 2 = true → (t.pll 2).locked = true) ∧
      ∀ q, s.power.pllFail.get q = false → l.getLsbD 2 = true → t.power.pllFail.get q = !l.getLsbD q.num) := by
  obtain rfl : 2 = j := Nat.succ.inj hi
  refine stageInstant_completes ((stageInstant_eq hp).trans (stageAct_lock ..)) ⟨⟨wake, ?_⟩, fun hl => (stageLock_shows hl _).1, fun q hf hl => ?_⟩
  · rw [stageLock_phase, setPhase_power]
  · rw [(stageLock_shows hl _).2 q, setPhase_power, hf, Bool.false_or]

theorem stepInstant_completes {j : Nat} (hp : s.power.phase = .stages j wake) (hi : (4 : Fin 7).val = j + 1) : Completes (.stageInstant 4 l) s (fun t =>
    (∃ wake, t.power.phase = .stages 4 wake) ∧
      ∀ q, s.power.pllFail.get q = false → (l.getLsbD q.num = true → t.fld q Fd.clkStatusCurN = 160 ∧ t.power.pllFail.get q = false) ∧
        (l.getLsbD q.num = false → t.power.pllFail.get q = true)) := by
  obtain rfl : 3 = j := Nat.succ.inj hi
  obtain ⟨hphase, hfails⟩ := (stepTurn_deadline l).bothPeaks (setPhase (.stages 4 wake) s)
  refine stageInstant_completes ((stageInstant_eq hp).trans (stageAct_step ..))
    ⟨⟨wake, hphase⟩, fun q hf => ⟨fun hl => ⟨stageStep_curN hf hl, ?_⟩, fun hl => ?_⟩⟩
  · rw [stageStep_eq, hfails, setPhase_power, hf, hl]
    rfl
  · rw [stageStep_eq, hfails, hl, Bool.not_false, Bool.or_true]

theorem saddleInstant_completes {j : Nat} (hp : s.power.phase = .stages j wake) (hi : (5 : Fin 7).val = j + 1) : Completes (.stageInstant 5 l) s (fun t =>
    (∃ wake, t.power.phase = .stages 5 wake) ∧ ((s.pll 2).locked = true → t.saddle.clock = true ∧ t.tick0 = s.tick)) := by
  obtain rfl : 4 = j := Nat.succ.inj hi
  refine stageInstant_completes ((stageInstant_eq hp).trans (stageAct_saddle ..)) ⟨⟨wake, ?_⟩, fun hl => ?_⟩
  · rw [stageSaddle_phase, setPhase_power]
  · obtain ⟨hclock, htick, -⟩ := stageSaddle_shows (s := setPhase (.stages 5 wake) s) hl
    exact ⟨hclock, htick⟩

theorem releaseInstant_completes {j : Nat} (hp : s.power.phase = .stages j wake) (hi : (6 : Fin 7).val = j + 1) : Completes (.stageInstant 6 l) s (fun t =>
    t.power.phase = .running ∧ ∀ q, s.power.pllFail.get q = false → s.vaux q = true → (t.peak q).up = true ∧ t.power.boot.get q = .r0) := by
  obtain rfl : 5 = j := Nat.succ.inj hi
  refine stageInstant_completes ((stageInstant_eq hp).trans (stageAct_release ..))
    ⟨stageRelease_phase .., fun q hf hv => stageRelease_starts (s := setPhase (.stages 6 wake) s) hf ?_ wake⟩
  exact (State.vaux_setPhase ..).trans hv

/-- Settles O41: the Gendarme's instants by what each writes, a failed self-test by the entry into the safe state, and the stages by the Peaks' turns. -/
theorem coldStartAndStages : Obligations.ColdStartAndStages := by
  unfold Obligations.ColdStartAndStages
  intro xin good locks s at_
  refine ⟨fuseInstant_completes good xin s, fun h => ⟨clockInstant_completes xin s h, failedInstant_completes xin s (Or.inl ⟨h, rfl⟩)⟩,
    fun h => ⟨failedInstant_completes xin s (Or.inr ⟨h, rfl⟩), retiredInstant_completes xin s h, testedInstant_completes xin s h⟩,
    refCheck_waiting good s, refCheck_running s, stageStart_begins s, ?_, ?_, ?_, ?_, ?_, ?_⟩
  · exact fun _ _ hp hi => quietInstant_completes hp hi (Or.inl rfl)
  · exact fun _ _ hp hi => quietInstant_completes hp hi (Or.inr rfl)
  · exact fun _ _ hp hi => lockInstant_completes hp hi
  · exact fun _ _ hp hi => stepInstant_completes hp hi
  · exact fun _ _ hp hi => saddleInstant_completes hp hi
  · exact fun _ _ hp hi => releaseInstant_completes hp hi

end Sys2Proof.Machine
end

section
/-! SUPPORT and CERTIFICATE. The lifecycle operations (R75 to R77): what a request answers, what a completed operation leaves, and the reset. -/

namespace Sys2Proof.Machine

variable {s t : State}

/-! ### Single bits, and memory that is cleared -/

theorem bits_one_iff (n i : Nat) : bits n i i = 1 ↔ n.testBit i = true := by
  rw [Nat.testBit_eq_decide_div_mod_eq, decide_eq_true_eq, bits, Nat.add_sub_cancel_left, pow_one]

theorem bits_zero_iff (n i : Nat) : bits n i i = 0 ↔ n.testBit i = false := by
  have hlt := bits_lt n i i
  rw [Nat.add_sub_cancel_left, pow_one] at hlt
  rw [← Bool.not_eq_true, ← bits_one_iff]
  omega

theorem State.regs_withPower (s : State) (w : Power) : ({ s with power := w } : State).regs = s.regs := rfl

theorem State.clearBytes_regs (s : State) (lo hi : Nat) : (s.clearBytes lo hi).regs = s.regs := rfl
theorem State.clearBytes_power (s : State) (lo hi : Nat) : (s.clearBytes lo hi).power = s.power := rfl

theorem State.clearBytes_rest (s : State) (lo hi : Nat) (r : Tab Word) (w : Power) (m : Tab Byte) :
    { s.clearBytes lo hi with regs := r, power := w, mem := m } = { s with regs := r, power := w, mem := m } := rfl

theorem State.byte_clearBytes (s : State) (lo hi k : Nat) : (s.clearBytes lo hi).byte k = if lo ≤ k ∧ k < hi then 0 else s.byte k := by
  have hget := Tab.get_filter memDefault s.mem (fun k => decide (k < lo) || decide (hi ≤ k)) k
  unfold State.byte State.clearBytes
  rw [hget]
  by_cases h : lo ≤ k ∧ k < hi
  · rw [if_pos h, if_neg (by simp [h])]
    rfl
  · rw [if_neg h, if_pos (by simp; omega)]

theorem State.bit_of_regs (h : t.regs = s.regs) (p : PeakId) (f : Fld) : t.bit p f = s.bit p f := by
  unfold State.bit
  rw [State.fld_of_regs h]

/-! ### Requests (R75) -/

/-- The code of the first condition that fails, 0 where all hold; `further` is the operation's own (assumption 70). -/
def lcsCode (key : Nat) (allowed v12 : Bool) (further : Nat) (s : State) : Nat :=
  if key ≠ 0x1C5A then 1 else if !allowed then 2 else if outputsIdle s = false then 3 else if !v12 then 4
  else if s.bit .a Fd.lcsProgStatusBusy then 0xA else further

/-- The operation is in progress. -/
def lcsBegun (op arg : Nat) (s : State) : State :=
  let s := (lcsResult 0 s).setFld .a Fd.lcsProgStatusBusy 1
  { s with power := { s.power with lcs := some ⟨op, arg⟩ } }

/-- One condition more in front of the others. -/
theorem answer_step {p : Prop} [Decidable p] {n c : Nat} (hn : n ≠ 0) {f : Nat → State} {b r : State} (h : r = if c = 0 then b else f c) :
    (if p then f n else r) = if (if p then n else c) = 0 then b else f (if p then n else c) := by
  by_cases hp : p
  · simp only [hp, if_true, hn, if_false]
  · simp only [hp, if_false, h]

theorem lcsRequest_eq (op key arg : Nat) (allowed v12 : Bool) (further : Nat) (s : State) : lcsRequest op key arg allowed v12 further s =
    if lcsCode key allowed v12 further s = 0 then lcsBegun op arg s else lcsResult (lcsCode key allowed v12 further s) s := by
  have hlast : (if further ≠ 0 then lcsResult further s else lcsBegun op arg s) = if further = 0 then lcsBegun op arg s else lcsResult further s := ite_not ..
  exact answer_step (f := fun c => lcsResult c s) (by decide) (answer_step (by decide) (answer_step (by decide) (answer_step (by decide)
    (answer_step (by decide) hlast))))

/-- What an accepted request leaves: an advance to RETIRED clears the parameter store first (R76). -/
def lcsAccepted (op arg : Nat) (s : State) : State :=
  if op = 1 ∧ arg = 3 ∧ s.power.lcs = none then (lcsBegun op arg s).clearBytes (storeKey 0) (storeKey 0x80000) else lcsBegun op arg s

theorem lcsAccepted_of_ne {op arg : Nat} (h : op ≠ 1 ∨ arg ≠ 3) (s : State) : lcsAccepted op arg s = lcsBegun op arg s :=
  if_neg fun hc => by omega

theorem lcsBegun_lcs (op arg : Nat) (s : State) : (lcsBegun op arg s).power.lcs = some ⟨op, arg⟩ := rfl

theorem lcsResult_power (code : Nat) (s : State) : (lcsResult code s).power = s.power := State.setFld_power ..

/-- A request of operation `op` that the conditions answer with `c`. -/
def lcsAnswered (op arg c : Nat) (s : State) : State := if c = 0 then lcsAccepted op arg s else lcsResult c s

theorem lcsRequest_answered {op arg : Nat} (h : op ≠ 1) (key : Nat) (allowed v12 : Bool) (further : Nat) (s : State) :
    lcsRequest op key arg allowed v12 further s = lcsAnswered op arg (lcsCode key allowed v12 further s) s := by
  rw [lcsRequest_eq, lcsAnswered, lcsAccepted_of_ne (Or.inl h)]

/-- The conditions of an advance beside those that all operations share. -/
def advanceFurther (arg : Nat) (s : State) : Nat :=
  if arg = 1 ∧ s.fld .a Fd.lcsKeystatProgrammed = 0 then 8 else if arg = 2 ∧ s.bit .a Fd.safStatusCfgValid = false then 9 else 0

theorem lcsAdvance_answered (key arg : Nat) (v12 : Bool) (s : State) : lcsAdvance key arg v12 s = lcsAnswered 1 arg
    (lcsCode key (decide (lifeState s ≤ 2) && (decide (arg = 3) || decide (arg = lifeState s + 1))) v12 (advanceFurther arg s) s) s := by
  have hreq := lcsRequest_eq 1 key arg (decide (lifeState s ≤ 2) && (decide (arg = 3) || decide (arg = lifeState s + 1))) v12 (advanceFurther arg s) s
  change (if arg = 3 ∧ s.power.lcs = none ∧ (lcsRequest 1 key arg _ v12 (advanceFurther arg s) s).power.lcs = some ⟨1, 3⟩ then
    (lcsRequest 1 key arg _ v12 (advanceFurther arg s) s).clearBytes (storeKey 0) (storeKey 0x80000) else lcsRequest 1 key arg _ v12 (advanceFurther arg s) s) = _
  rw [hreq]
  generalize lcsCode key _ v12 (advanceFurther arg s) s = c
  unfold lcsAnswered
  by_cases hc : c = 0
  · simp only [hc, if_true, lcsBegun_lcs, lcsAccepted, true_and]
    by_cases h3 : arg = 3
    · simp [h3]
    · simp [h3]
  · simp only [hc, if_false, lcsResult_power]
    rw [if_neg]
    rintro ⟨-, hnone, hsome⟩
    rw [hnone] at hsome
    cases hsome

/-- RESULT and BUSY are all of LCS.PROG_STATUS. -/
def progStatusRegs : List (Nat × Nat) := [(Reg.lcsProgStatus, 0x1F)]

theorem progStatusRegs_mask : onlyRegs progStatusRegs Reg.lcsProgStatus = 0x1F := rfl

theorem lcsBegun_regs (op arg : Nat) (s : State) : (lcsBegun op arg s).regs = ((lcsResult 0 s).setFld .a Fd.lcsProgStatusBusy 1).regs :=
  State.regs_withPower ..

theorem lcsBegun_shows (op arg : Nat) (s : State) : (lcsBegun op arg s).fld .a Fd.lcsProgStatusResult = 0 ∧
    (lcsBegun op arg s).bit .a Fd.lcsProgStatusBusy = true ∧ RegFrame (onlyRegs progStatusRegs) s (lcsBegun op arg s) := by
  have hregs := lcsBegun_regs op arg s
  refine ⟨(State.fld_of_regs hregs ..).trans ?_, (State.bit_of_regs hregs ..).trans ?_, RegFrame.of_regs ?_ hregs⟩
  · have hkeep := State.fld_setFld_apart (lcsResult 0 s) .a (f := Fd.lcsProgStatusBusy) (g := Fd.lcsProgStatusResult) 1 (by decide) (by decide) rfl
      (Or.inr (by decide))
    exact hkeep.trans (State.fld_setFld s .a (f := Fd.lcsProgStatusResult) 0 (by decide) (by decide))
  · exact State.bit_raise (lcsResult 0 s) .a (f := Fd.lcsProgStatusBusy) rfl (by decide)
  · have hresult : RegFrame (onlyRegs progStatusRegs) s (lcsResult 0 s) :=
      (RegFrame.refl _ s).setFld .a 0 (by decide) (by decide) (by decide) (inMask progStatusRegs_mask (by decide))
    exact hresult.setFld .a 1 (by decide) (by decide) (by decide) (inMask progStatusRegs_mask (by decide))

theorem lcsBegun_rest (op arg : Nat) (s : State) (r : Tab Word) (w : Power) (m : Tab Byte) :
    { lcsBegun op arg s with regs := r, power := w, mem := m } = { s with regs := r, power := w, mem := m } := by
  simp [lcsBegun, lcsResult]

theorem lcsBegun_power (op arg : Nat) (s : State) : (lcsBegun op arg s).power = { s.power with lcs := some ⟨op, arg⟩ } := by
  simp [lcsBegun, lcsResult]

theorem lcsBegun_mem (op arg : Nat) (s : State) : (lcsBegun op arg s).mem = s.mem := by
  simp [lcsBegun, lcsResult]

/-- The statement's answer to a request. -/
def LcsAnswers (i : Instr) (op n c : Nat) (s : State) : Prop :=
  (c ≠ 0 → Completes i s (fun t => t = s.setFld .a Fd.lcsProgStatusResult c)) ∧
  (c = 0 → Completes i s (fun t => t.power = { s.power with lcs := some ⟨op, n⟩ } ∧ t.fld .a Fd.lcsProgStatusResult = 0 ∧
    t.bit .a Fd.lcsProgStatusBusy = true ∧ RegFrame (onlyRegs [(Reg.lcsProgStatus, 0x1F)]) s t ∧
    { t with regs := s.regs, power := s.power, mem := s.mem } = s ∧
    (op ≠ 1 ∨ n ≠ 3 → t.mem = s.mem) ∧ (op = 1 → n = 3 → s.power.lcs = none → ∀ i, i < 0x80000 → t.byte (storeKey i) = 0)))

theorem lcsAnswers_of_exec {i : Instr} {op n c : Nat} (h : exec i s = .next (lcsAnswered op n c s)) : LcsAnswers i op n c s := by
  obtain ⟨hresult, hbusy, hframe⟩ := lcsBegun_shows op n s
  refine ⟨fun hc => ⟨_, h, if_neg hc⟩, fun hc => ?_⟩
  unfold lcsAnswered lcsAccepted at h
  rw [if_pos hc] at h
  by_cases hclear : op = 1 ∧ n = 3 ∧ s.power.lcs = none
  · rw [if_pos hclear] at h
    have hregs := State.clearBytes_regs (lcsBegun op n s) (storeKey 0) (storeKey 0x80000)
    refine ⟨_, h, (State.clearBytes_power ..).trans (lcsBegun_power op n s), (State.fld_of_regs hregs ..).trans hresult,
      (State.bit_of_regs hregs ..).trans hbusy, hframe.of_regs hregs, (State.clearBytes_rest ..).trans (lcsBegun_rest op n s _ _ _),
      fun hne => by omega, fun _ _ _ i hi => ?_⟩
    rw [State.byte_clearBytes, if_pos]
    unfold storeKey
    omega
  · rw [if_neg hclear] at h
    exact ⟨_, h, lcsBegun_power op n s, hresult, hbusy, hframe, lcsBegun_rest op n s _ _ _, fun _ => lcsBegun_mem op n s,
      fun h1 h3 hnone => absurd ⟨h1, h3, hnone⟩ hclear⟩

/-! ### The four operations -/

/-- The statement's key is a word, the model's a number. -/
theorem key_ne_iff (key : BitVec 16) : key.toNat ≠ 0x1C5A ↔ key ≠ 0x1C5A := by
  rw [not_iff_not, ← BitVec.toNat_inj]
  rfl

/-- The code of the statement is that of the model. -/
theorem lcsCode_eq (key : BitVec 16) {allowed : Bool} {P : Prop} [Decidable P] (h : allowed = true ↔ P) (v12 : Bool) (further : Nat) :
    lcsCode key.toNat allowed v12 further s = if key ≠ 0x1C5A then 1 else if ¬P then 2 else if outputsIdle s = false then 3 else if v12 = false then 4
      else if s.bit .a Fd.lcsProgStatusBusy = true then 0xA else further := by
  have hallowed : (!allowed) = true ↔ ¬P := by rw [← h, Bool.not_eq_true, Bool.not_eq_true']
  have hv12 : (!v12) = true ↔ v12 = false := by rw [Bool.not_eq_true']
  simp only [lcsCode, key_ne_iff, hallowed, hv12]

theorem exec_whenKernel {i : Instr} {f : State → State} (hk : kernelRuns s = true) (he : exec i s = .next (whenKernel f s)) : exec i s = .next (f s) := by
  rw [he, whenKernel, if_pos hk]

/-- The register of the key slots in its three groups. -/
theorem keystat_programmed (s : State) : s.fld .a Fd.lcsKeystatProgrammed = s.reg .a Reg.lcsKeystat % 16 := by
  simp [State.fld, bits, Fd.lcsKeystatProgrammed]

theorem slotLive_eq (stat : Nat) : (fun k => decide (bits stat k k = 1) && decide (bits stat (8 + k) (8 + k) = 0)) =
    fun k => stat.testBit k && !stat.testBit (8 + k) := by
  funext k
  simp only [bits_one_iff, bits_zero_iff]
  cases stat.testBit k <;> cases stat.testBit (8 + k) <;> rfl

/-! ### Completion (R75, R77) -/

/-- What of the fuses' registers LCS shows (R75). -/
theorem lcsShow_keystat (s : State) : (lcsShow s).reg .a Reg.lcsKeystat =
    s.power.fuses.programmed.toNat + s.power.fuses.damaged.toNat * 2 ^ 4 + s.power.fuses.revoked.toNat * 2 ^ 8 := by
  have keeps : ∀ (b v : Nat) (u : State), Reg.lcsKeystat < b → b < 2 ^ 32 → (u.setReg .a b v).reg .a Reg.lcsKeystat = u.reg .a Reg.lcsKeystat :=
    fun b v u hb hlt => State.reg_setReg_ne u v (regKey_ne (Nat.ne_of_lt hb) (by decide) hlt)
  have hp := s.power.fuses.programmed.isLt
  have hd := s.power.fuses.damaged.isLt
  have hr := s.power.fuses.revoked.isLt
  unfold lcsShow
  dsimp only
  refine forAll_induct (fun u => u.reg .a Reg.lcsKeystat = _) _ _ ?_ fun k hk v hv => forAll_induct (fun u => u.reg .a Reg.lcsKeystat = _) _ _ hv
    fun j hj w hw => ?_
  · rw [keeps _ _ _ (by decide) (by decide), State.reg_setReg]
    omega
  · have hk4 : k < 4 := List.mem_range.mp hk
    have hj8 : j < 8 := List.mem_range.mp hj
    refine (keeps _ _ _ ?_ ?_).trans hw
    · simp only [Reg.lcsKeystat, Reg.lcsKeyhash]; omega
    · simp only [Reg.lcsKeyhash]; omega

theorem lcsShow_groups (s : State) : (lcsShow s).fld .a Fd.lcsKeystatProgrammed = s.power.fuses.programmed.toNat ∧
    (lcsShow s).fld .a Fd.lcsKeystatDamaged = s.power.fuses.damaged.toNat ∧ (lcsShow s).fld .a Fd.lcsKeystatRevoked = s.power.fuses.revoked.toNat := by
  have hp := s.power.fuses.programmed.isLt
  have hd := s.power.fuses.damaged.isLt
  have hr := s.power.fuses.revoked.isLt
  have hstat := lcsShow_keystat s
  unfold State.fld
  simp only [Fd.lcsKeystatProgrammed, Fd.lcsKeystatDamaged, Fd.lcsKeystatRevoked, hstat, bits]
  omega

/-- The fuses are blown and shown, and the request is over. -/
def lcsFinished (op : LcsOp) (blown : Nat) (good : Bool) (s : State) : State :=
  let s := lcsResult (if good then 0 else 5) ((lcsShow (lcsBlow op blown good s)).setFld .a Fd.lcsProgStatusBusy 0)
  { s with power := { s.power with lcs := none } }

/-- R75: a verified operation, in which an advance counts as verified where five of its fuses read blown. -/
def lcsGood (op : LcsOp) (blown : Nat) (ok : Bool) : Bool := ok && (decide (op.op ≠ 1) || groupBlown blown)

theorem lcsDone_finished {op : LcsOp} (h : s.power.lcs = some op) (blown : Nat) (ok : Bool) :
    lcsDone blown ok s = lcsFinished op blown (lcsGood op blown ok) s := by
  unfold lcsDone
  rw [h]
  rfl

theorem lcsFinished_power (op : LcsOp) (blown : Nat) (good : Bool) (s : State) :
    (lcsFinished op blown good s).power = { (lcsBlow op blown good s).power with lcs := none } := by
  have hshow : (lcsShow (lcsBlow op blown good s)).power = (lcsBlow op blown good s).power :=
    (lcsShow_upd (Upd.refl 1 _) (by decide)).power (by decide)
  simp only [lcsFinished, lcsResult, State.setFld_power, hshow]

theorem lcsFinished_status (op : LcsOp) (blown : Nat) (good : Bool) (s : State) : let t := lcsFinished op blown good s
    t.bit .a Fd.lcsProgStatusBusy = false ∧ t.fld .a Fd.lcsProgStatusResult = (if good then 0 else 5) := by
  let u := (lcsShow (lcsBlow op blown good s)).setFld .a Fd.lcsProgStatusBusy 0
  have hregs : (lcsFinished op blown good s).regs = (u.setFld .a Fd.lcsProgStatusResult (if good then 0 else 5)).regs :=
    State.regs_withPower ..
  intro t
  refine ⟨?_, ?_⟩
  · unfold State.bit
    rw [State.fld_of_regs hregs, State.fld_setFld_apart u .a (f := Fd.lcsProgStatusResult) (g := Fd.lcsProgStatusBusy) _ (by decide) (by decide) rfl
      (Or.inl (by decide)), State.fld_setFld _ .a (f := Fd.lcsProgStatusBusy) 0 (by decide) (by decide)]
    rfl
  · rw [State.fld_of_regs hregs, State.fld_setFld u .a (f := Fd.lcsProgStatusResult) _ (by decide) (by decide)]
    cases good <;> rfl

/-- KEYSTAT shows the slots as the operation leaves them (assumption 116). -/
theorem lcsFinished_keystat (op : LcsOp) (blown : Nat) (good : Bool) (s : State) : let t := lcsFinished op blown good s
    t.fld .a Fd.lcsKeystatProgrammed = t.power.fuses.programmed.toNat ∧ t.fld .a Fd.lcsKeystatDamaged = t.power.fuses.damaged.toNat ∧
      t.fld .a Fd.lcsKeystatRevoked = t.power.fuses.revoked.toNat := by
  let u := lcsShow (lcsBlow op blown good s)
  have hregs : (lcsFinished op blown good s).regs =
      ((u.setFld .a Fd.lcsProgStatusBusy 0).setFld .a Fd.lcsProgStatusResult (if good then 0 else 5)).regs :=
    State.regs_withPower ..
  have keeps : ∀ hi lo, (lcsFinished op blown good s).fld .a ⟨Reg.lcsKeystat, hi, lo⟩ = u.fld .a ⟨Reg.lcsKeystat, hi, lo⟩ := fun hi lo => by
    have hkey : regKey .a Reg.lcsKeystat ≠ regKey .a Reg.lcsProgStatus := regKey_ne (by decide) (by decide) (by decide)
    rw [State.fld_of_regs hregs, State.fld_setFld_ne (f := Fd.lcsProgStatusResult) (g := ⟨Reg.lcsKeystat, hi, lo⟩) _ _ hkey,
      State.fld_setFld_ne (f := Fd.lcsProgStatusBusy) (g := ⟨Reg.lcsKeystat, hi, lo⟩) _ _ hkey]
  obtain ⟨hp, hd, hr⟩ := lcsShow_groups (lcsBlow op blown good s)
  intro t
  rw [show t.power = _ from lcsFinished_power op blown good s]
  exact ⟨(keeps 3 0).trans hp, (keeps 7 4).trans hd, (keeps 11 8).trans hr⟩

/-- Slot k is the one that the operation names. -/
theorem slotBit (f : BitVec 4) (arg : Nat) {k : Nat} (hk : k < 4) : (f ||| BitVec.ofNat 4 (2 ^ arg)).getLsbD k = (f.getLsbD k || decide (k = arg)) := by
  rw [BitVec.getLsbD_or, BitVec.getLsbD_ofNat, Nat.testBit_two_pow]
  simp [hk, eq_comm]

theorem blowGroup_keeps (f : Fuses) (target blown : Nat) : (blowGroup f target blown).svn = f.svn ∧ (blowGroup f target blown).programmed = f.programmed := by
  unfold blowGroup
  split <;> exact ⟨rfl, rfl⟩

theorem lcsBlow_advance {op : LcsOp} (h : op.op = 1) (blown : Nat) (good : Bool) (s : State) : let w := (lcsBlow op blown good s).power
    w.lcsReset = (good && groupBlown blown) ∧ w.fuses.svn = s.power.fuses.svn ∧ w.fuses.programmed = s.power.fuses.programmed := by
  unfold lcsBlow
  rw [h]
  exact ⟨rfl, blowGroup_keeps ..⟩

theorem lcsBlow_program {op : LcsOp} (h : op.op = 2) (blown : Nat) (good : Bool) (s : State) : let w := (lcsBlow op blown good s).power
    w.fuses.svn = s.power.fuses.svn ∧ ∀ k < 4, w.fuses.programmed.getLsbD k = (s.power.fuses.programmed.getLsbD k || (good && decide (k = op.arg))) ∧
      w.fuses.damaged.getLsbD k = (s.power.fuses.damaged.getLsbD k || (!good && decide (k = op.arg))) := by
  unfold lcsBlow
  rw [h]
  cases good with
  | true => exact ⟨rfl, fun k hk => ⟨slotBit _ _ hk, (Bool.or_false _).symm⟩⟩
  | false => exact ⟨rfl, fun k hk => ⟨(Bool.or_false _).symm, slotBit _ _ hk⟩⟩

theorem lcsBlow_revoke {op : LcsOp} (h : op.op = 3) (blown : Nat) (good : Bool) (s : State) : let w := (lcsBlow op blown good s).power
    w.fuses.programmed = s.power.fuses.programmed ∧
      ∀ k < 4, w.fuses.revoked.getLsbD k = (s.power.fuses.revoked.getLsbD k || (good && decide (k = op.arg))) := by
  unfold lcsBlow
  rw [h]
  cases good with
  | true => exact ⟨rfl, fun k hk => slotBit _ _ hk⟩
  | false => exact ⟨rfl, fun k _ => (Bool.or_false _).symm⟩

/-- A failed raise leaves a count between the old one and what was to be blown. -/
theorem lcsBlow_raise {op : LcsOp} (h : op.op = 4) (hle : s.power.fuses.svn ≤ op.arg) (blown : Nat) (good : Bool) :
    let w := (lcsBlow op blown good s).power
    s.power.fuses.svn ≤ w.fuses.svn ∧ w.fuses.svn ≤ op.arg ∧ (good = true → w.fuses.svn = op.arg) := by
  unfold lcsBlow
  rw [h]
  cases good with
  | true => exact ⟨hle, le_refl _, fun _ => rfl⟩
  | false =>
    have hmod := Nat.mod_lt (Config.freeWord s.free).toNat (show 0 < op.arg + 1 - s.power.fuses.svn by omega)
    refine ⟨Nat.le_add_right _ _, ?_, fun hf => by cases hf⟩
    change s.power.fuses.svn + (Config.freeWord s.free).toNat % (op.arg + 1 - s.power.fuses.svn) ≤ op.arg
    omega

/-! ### The device's reset (R57, R59, R76) -/

/-- A device reset keeps the fuses, the parameter store and the supplies. -/
theorem deviceReset_forgets (s : State) : let t := deviceReset s
    t.regs = [] ∧ t.cores = [] ∧ t.tasks = [] ∧ t.power.phase = .off ∧ (∀ q, (t.peak q).up = false) ∧
      ∀ k, t.byte k = if 3 * 2 ^ 32 ≤ k then s.byte k else 0 := by
  refine ⟨rfl, rfl, rfl, rfl, fun q => by cases q <;> rfl, fun k => ?_⟩
  refine (Tab.get_filter memDefault s.mem (fun k => decide (3 * 2 ^ 32 ≤ k)) k).trans ?_
  simp only [decide_eq_true_eq]
  rfl

theorem lifecycleReset_completes (s : State) (h : s.power.lcsReset = true) : Completes .lifecycleReset s (fun t =>
    t.power.cause.testBit 4 = true ∧ t.power.fuses = s.power.fuses ∧ t.regs = [] ∧ t.cores = [] ∧ (∀ q, (t.peak q).up = false) ∧
      t.power.phase = (if s.power.vauxG && !s.power.resetLow then .cold 0 else .off)) := by
  let u : State := { s with power := { s.power with cause := Nat.lor s.power.cause causeLifecycle } }
  have hcause : (deviceReset u).power.cause.testBit 4 = true := by
    change (s.power.cause ||| causeLifecycle).testBit 4 = true
    rw [Nat.testBit_or, show causeLifecycle.testBit 4 = true from rfl, Bool.or_true]
  have hdown : ∀ q, ((deviceReset u).peak q).up = false := fun q => by cases q <;> rfl
  have he : exec .lifecycleReset s = .next (if s.power.vauxG && !s.power.resetLow then coldStart (deviceReset u) else deviceReset u) := by
    rw [exec_lifecycleReset, execLifecycleReset, if_pos h]
    rfl
  refine ⟨_, he, ?_⟩
  split
  · exact ⟨hcause, rfl, rfl, rfl, hdown, rfl⟩
  · exact ⟨hcause, rfl, rfl, rfl, hdown, rfl⟩

/-! ### The statement, clause by clause -/

theorem lifecycleOpComplete_completes (blown : Fin 9) (ok : Bool) (s : State) (op : LcsOp) (h : s.power.lcs = some op) :
    let good := ok && (decide (op.op ≠ 1) || decide (5 ≤ blown.val))
    let f := s.power.fuses
    Completes (.lifecycleOpComplete blown ok) s (fun t => t.power.lcs = none ∧ t.bit .a Fd.lcsProgStatusBusy = false ∧
      t.fld .a Fd.lcsProgStatusResult = (if good then 0 else 5) ∧ t.fld .a Fd.lcsKeystatProgrammed = t.power.fuses.programmed.toNat ∧
      t.fld .a Fd.lcsKeystatDamaged = t.power.fuses.damaged.toNat ∧ t.fld .a Fd.lcsKeystatRevoked = t.power.fuses.revoked.toNat ∧
      (op.op = 1 → t.power.lcsReset = good ∧ t.power.fuses.svn = f.svn ∧ t.power.fuses.programmed = f.programmed) ∧
      (op.op = 2 → t.power.fuses.svn = f.svn ∧ ∀ k < 4, t.power.fuses.programmed.getLsbD k = (f.programmed.getLsbD k || (good && decide (k = op.arg))) ∧
        t.power.fuses.damaged.getLsbD k = (f.damaged.getLsbD k || (!good && decide (k = op.arg)))) ∧
      (op.op = 3 → t.power.fuses.programmed = f.programmed ∧ ∀ k < 4, t.power.fuses.revoked.getLsbD k = (f.revoked.getLsbD k || (good && decide (k = op.arg)))) ∧
      (op.op = 4 → f.svn ≤ op.arg → f.svn ≤ t.power.fuses.svn ∧ t.power.fuses.svn ≤ op.arg ∧ (good = true → t.power.fuses.svn = op.arg))) := by
  intro good f
  have he : exec (.lifecycleOpComplete blown ok) s = .next (lcsFinished op blown.val good s) := by
    rw [exec_lifecycleOpComplete, execLifecycleOpComplete, lcsDone_finished h]
    rfl
  have hpower := lcsFinished_power op blown.val good s
  obtain ⟨hbusy, hresult⟩ := lcsFinished_status op blown.val good s
  obtain ⟨hprog, hdam, hrev⟩ := lcsFinished_keystat op blown.val good s
  refine ⟨_, he, by rw [hpower], hbusy, hresult, hprog, hdam, hrev, fun h1 => ?_, fun h2 => ?_, fun h3 => ?_, fun h4 hle => ?_⟩
  · rw [hpower]
    obtain ⟨hreset, hsvn, hp⟩ := lcsBlow_advance h1 blown.val good s
    refine ⟨hreset.trans ?_, hsvn, hp⟩
    simp only [good, h1, groupBlown]
    cases ok <;> simp
  · rw [hpower]
    exact lcsBlow_program h2 blown.val good s
  · rw [hpower]
    exact lcsBlow_revoke h3 blown.val good s
  · rw [hpower]
    exact lcsBlow_raise h4 hle blown.val good

/-- Settles O46: each request is answered by the first condition that fails, a completion blows and shows the fuses, and a verified advance resets. -/
theorem lifecycleOperations : Obligations.LifecycleOperations := by
  unfold Obligations.LifecycleOperations
  intro key arg v12 blown ok s st stat programmed live n code request
  refine ⟨fun hk => ⟨?_, ?_, ?_, ?_⟩, fun op h => lifecycleOpComplete_completes blown ok s op h, lifecycleReset_completes s⟩
  · have hmay : (decide (st ≤ 2) && (decide (n = 3) || decide (n = st + 1))) = true ↔ st ≤ 2 ∧ (n = 3 ∨ n = st + 1) := by simp
    have he := exec_whenKernel hk (exec_lcsAdvanceState key arg v12 s)
    rw [lcsAdvance_answered, lifeState, lcsCode_eq key hmay, advanceFurther, keystat_programmed] at he
    exact lcsAnswers_of_exec he
  · have hmay : (decide (st ≤ 1) && decide (n ≤ 3)) = true ↔ st ≤ 1 ∧ n ≤ 3 := by simp
    have hslot : bits stat n n = 1 ∨ bits stat (4 + n) (4 + n) = 1 ↔ (programmed n || stat.testBit (4 + n)) = true := by
      rw [bits_one_iff, bits_one_iff, Bool.or_eq_true]
    have he := exec_whenKernel hk (exec_lcsProgramKeySlot key arg v12 s)
    rw [lcsProgramKey, lcsRequest_answered (by decide), lifeState, lcsCode_eq key hmay, if_congr hslot rfl rfl] at he
    exact lcsAnswers_of_exec he
  · have hmay : ((decide (st = 1) || decide (st = 2)) && decide (n ≤ 3)) = true ↔ (st = 1 ∨ st = 2) ∧ n ≤ 3 := by simp
    have he := exec_whenKernel hk (exec_lcsRevokeKeySlot key arg v12 s)
    rw [lcsRevoke, lcsRequest_answered (by decide), lifeState, lcsCode_eq key hmay, slotLive_eq] at he
    exact lcsAnswers_of_exec he
  · have hmay : ((decide (st = 1) || decide (st = 2)) && decide (n ≤ 64)) = true ↔ (st = 1 ∨ st = 2) ∧ n ≤ 64 := by simp
    have he := exec_whenKernel hk (exec_lcsRaiseSvn key arg v12 s)
    rw [lcsRaise, lcsRequest_answered (by decide), lifeState, lcsCode_eq key hmay] at he
    exact lcsAnswers_of_exec he

end Sys2Proof.Machine
end

section
/-! SUPPORT. Register bits that an operation must leave alone, and the safe state's hold on the Peaks (R348). -/

namespace Sys2Proof.Machine

variable {M K : Nat → Nat} {s t : State}

/-! ### Frames by what they keep -/

/-- Every bit of a register but those that `K` names. -/
def allBut (K : Nat → Nat) (a : Nat) : Nat := 0xFFFFFFFF ^^^ K a

theorem allBut_testBit {a i : Nat} (hi : i < 32) : (allBut K a).testBit i = !(K a).testBit i := by
  rw [allBut, Nat.testBit_xor, testBit_all hi, Bool.true_xor]

theorem allBut_free {a lo hi : Nat} (h32 : hi < 32) (hK : K a = 0) : ∀ i, lo ≤ i → i ≤ hi → (allBut K a).testBit i = true := fun i _ hi => by
  rw [allBut_testBit (by omega), hK, Nat.zero_testBit, Bool.not_false]

/-- A frame that touches none of the bits of `K`. -/
theorem RegFrame.allBut (h : RegFrame M s t) (hm : ∀ a, K a &&& M a = 0) : RegFrame (allBut K) s t := fun p a i ha hi => by
  by_cases h32 : i < 32
  · refine h p a i ha ?_
    rw [allBut_testBit h32, Bool.not_eq_false'] at hi
    have hand := congrArg (fun n => n.testBit i) (hm a)
    simpa [Nat.testBit_and, hi] using hand
  · have hbig : 2 ^ 32 ≤ 2 ^ i := Nat.pow_le_pow_right (by decide) (by omega)
    rw [Nat.testBit_lt_two_pow (lt_of_lt_of_le (State.reg_lt ..) hbig), Nat.testBit_lt_two_pow (lt_of_lt_of_le (State.reg_lt ..) hbig)]

/-- A write of a register of which nothing has to stay. -/
theorem RegFrame.setRegFree (h : RegFrame (Machine.allBut K) s t) (p : PeakId) {a : Nat} (v : Nat) (ha : a < 2 ^ 32) (hK : K a = 0) :
    RegFrame (Machine.allBut K) s (t.setReg p a v) :=
  h.setReg p v ha fun i hi => allBut_free (lo := 0) hi hK i (Nat.zero_le i) (le_refl i)

theorem RegFrame.setFldFree (h : RegFrame (Machine.allBut K) s t) (p : PeakId) {f : Fld} (v : Nat) (ha : f.addr < 2 ^ 32) (hK : K f.addr = 0) :
    RegFrame (Machine.allBut K) s (t.setFld p f v) :=
  h.setRegFree p _ ha hK

/-- A write of a field of GDM.STATUS beside the bits to keep. -/
theorem RegFrame.setFldBut (h : RegFrame (Machine.allBut K) s t) (p : PeakId) {f : Fld} (v : Nat) (hf : f.lo ≤ f.hi) (h32 : f.hi < 32) (ha : f.addr < 2 ^ 32)
    (hK : ∀ i ∈ List.range (f.hi + 1), f.lo ≤ i → (K f.addr).testBit i = false) : RegFrame (Machine.allBut K) s (t.setFld p f v) :=
  h.setFld p v hf h32 ha fun i hlo hhi => by
    rw [allBut_testBit (by omega), hK i (List.mem_range.mpr (by omega)) hlo, Bool.not_false]

/-- What is kept of one register. -/
def oneReg (r m : Nat) (a : Nat) : Nat := if a = r then m else 0

theorem oneReg_ne {r m a : Nat} (h : a ≠ r) : oneReg r m a = 0 := if_neg h

theorem oneReg_and {r m : Nat} (h : m &&& M r = 0) (a : Nat) : oneReg r m a &&& M a = 0 := by
  unfold oneReg
  split
  · next he => rw [he, h]
  · exact Nat.zero_and _

/-! ### What stops in the Saddle -/

/-- The mark of the safe state and the roles: bits 5 and 3 to 0 of GDM.STATUS. -/
def rolesSafe : Nat → Nat := oneReg Reg.gdmStatus 0x2F

theorem legDisable_frame {n : Nat} (hn : n < 6) (h : RegFrame legMask s t) : RegFrame legMask s (legDisable n t) := legDecide_frame hn (legOff_frame hn h)

theorem stopAll_frame (h : RegFrame (allBut rolesSafe) s t) : RegFrame (allBut rolesSafe) s (stopAll t) := by
  unfold stopAll
  split
  · dsimp only
    refine RegFrame.forAll _ _ ?_ fun n hn v hv =>
      hv.trans ((legDisable_frame (legNumbers_lt hn) (RegFrame.refl legMask v)).allBut (oneReg_and rfl))
    refine RegFrame.trans (t := _) ?_ ((pairsDecide_frame (RegFrame.refl pairMask _)).allBut (oneReg_and rfl))
    refine RegFrame.forAll _ _ (RegFrame.forAll _ _ h fun n hn v hv => ?_) fun p hp v hv => ?_
    · have hn8 : n < 8 := List.mem_range.mp hn
      have hstatus : Reg.pwmTbStatus n ≠ Reg.gdmStatus ∧ Reg.pwmTbStatus n < 2 ^ 32 := by
        simp only [Reg.pwmTbStatus, Reg.gdmStatus]; omega
      have hcount : Reg.pwmTbCount n ≠ Reg.gdmStatus ∧ Reg.pwmTbCount n < 2 ^ 32 := by
        simp only [Reg.pwmTbCount, Reg.gdmStatus]; omega
      have hrun := (hv.setFldFree .a (f := Fd.pwmTbStatusRun n) 0 hstatus.2 (oneReg_ne hstatus.1)).setFldFree .a (f := Fd.pwmTbStatusArmed n) 0
        hstatus.2 (oneReg_ne hstatus.1)
      have hzero := hrun.setRegFree .a 0 hcount.2 (oneReg_ne hcount.1)
      refine RegFrame.of_regs ?_ ((meanStop_upd (tb := n) (Upd.refl 137438953472 _) (by decide)).regs (by decide))
      exact hzero.of_regs (State.setTb_regs ..)
    · have hp32 : p < 32 := List.mem_range.mp hp
      have hcfg : Reg.pwmPairCfg p ≠ Reg.gdmStatus ∧ Reg.pwmPairCfg p < 2 ^ 32 := by
        simp only [Reg.pwmPairCfg, Reg.gdmStatus]; omega
      have hstatus : Reg.pwmPairStatus p ≠ Reg.gdmStatus ∧ Reg.pwmPairStatus p < 2 ^ 32 := by
        simp only [Reg.pwmPairStatus, Reg.gdmStatus]; omega
      have hoff := (hv.setFldFree .a (f := Fd.pwmPairCfgEn p) 0 hcfg.2 (oneReg_ne hcfg.1)).setFldFree .a (f := Fd.pwmPairStatusActive p) 0
        hstatus.2 (oneReg_ne hstatus.1)
      exact hoff.of_regs (State.setPair_regs ..)
  · exact h

theorem viewRole_frame (p : PeakId) (r : Nat) (h : RegFrame (allBut rolesSafe) s t) :
    RegFrame (allBut rolesSafe) s (t.setFld .a (Fd.gdmPeakViewRole p.num) r) := by
  obtain ⟨hne, hlt⟩ := gdmPeak_addr p (Reg.gdmPeakView p.num) (by simp)
  exact h.setFldFree .a (f := Fd.gdmPeakViewRole p.num) r hlt (oneReg_ne hne)

theorem events_rolesSafe (a : Nat) : rolesSafe a &&& eventMask a = 0 := oneReg_and rfl a

theorem announce_frame (h : RegFrame (allBut rolesSafe) s t) : RegFrame (allBut rolesSafe) s (announce t) := by
  have hview : ∀ (p : PeakId) (u : State), RegFrame (allBut rolesSafe) s u →
      RegFrame (allBut rolesSafe) s (if (u.peak p).up then u.setFld .a (Fd.gdmPeakViewRole p.num) (u.role p) else u) := by
    intro p u hu
    split
    · exact viewRole_frame p _ hu
    · exact hu
  have htrace : ∀ (p : PeakId) (pay : Nat) (u : State), RegFrame (allBut rolesSafe) s u → RegFrame (allBut rolesSafe) s (tracePut p 6 pay u) :=
    fun p pay u hu => hu.trans ((tracePut_frame p 6 pay (RegFrame.refl eventMask u)).allBut events_rolesSafe)
  unfold announce bothPeaks
  exact gwPend_frame _ (by decide) ((htrace .b _ _ (htrace .a _ _ (hview .b _ (hview .a _ h)))).trans
    ((fireBoth_frame _ (RegFrame.refl eventMask _)).allBut events_rolesSafe))

theorem safChanged_rolesSafe (c i e : Nat) (h : RegFrame (allBut rolesSafe) s t) : RegFrame (allBut rolesSafe) s (safChanged c i e t) :=
  h.trans ((safChanged_frame c i e (RegFrame.refl kernelMask t)).allBut (oneReg_and rfl))

/-! ### Entry to the safe state holds both Peaks (R348) -/

/-- Both Peaks reset, with role FAILED. -/
def peaksFailed (s : State) : State := setRole .b 3 (setRole .a 3 (peakReset .b (peakReset .a s)))

/-- The entry up to the reset of the Peaks. -/
def safeBegin (cause : Nat) (p : PeakId) (s : State) : State :=
  let s := copyAbort (cmdOver 5 (gdmLast cause p 3 ((s.setFld .a Fd.gdmStatusSafe 1).raise .a Fd.gdmFlagsSafeEntered)))
  batonTake { s with gdm := { s.gdm with
    grant := none, hold := none, lolSince := none, standbyAt := ⟨none, none⟩, mirrored := [], diverged := false, divRun := 0,
    released := false, enteredAt := s.tick
    restarts := if s.gdm.safeAt + restartSpan ≤ s.tick then 0 else s.gdm.restarts } }

/-- The pair's state shows cleared, the outputs stop, and PWRGD falls. -/
def outputsStopped (s : State) : State :=
  let s := stopAll (((s.setFld .a Fd.gdmStatusSynced 0).setFld .a Fd.gdmStatusHolding 0).setFld .a Fd.gdmStatusCopy 0)
  { s with power := { s.power with pwrgd := false } }

/-- The entry after it: the outputs stop and the entry is announced. -/
def safeFinish (s : State) : State :=
  let s := gwPend Fd.colGwIntPendSafe (announce (outputsStopped s))
  safChanged 6 0 (if bits (s.cfgWord 12) 26 26 = 1 then 2 else 0) s

theorem safeEnter_eq (c : Nat) (p : PeakId) (s : State) : safeEnter c p s = if s.safe then s else safeFinish (peaksFailed (safeBegin c p s)) := rfl

theorem safeBegin_power (c : Nat) (p : PeakId) (s : State) : (safeBegin c p s).power = s.power := by
  unfold safeBegin
  dsimp only
  rw [batonTake_power]
  refine ((copyAbort_upd (Upd.refl 16777217 _) (by decide)).power (by decide)).trans ?_
  refine ((cmdOver_upd (Upd.refl 16777217 _) (by decide)).power (by decide)).trans ?_
  refine ((gdmLast_upd (Upd.refl 1 _) (by decide)).power (by decide)).trans ?_
  exact (State.raise_upd (State.setFld_upd (Upd.refl 1 s) (by decide)) (by decide)).power (by decide)

theorem outputsStopped_frame (s : State) : RegFrame (allBut rolesSafe) s (outputsStopped s) := by
  unfold outputsStopped
  dsimp only
  refine RegFrame.of_regs (stopAll_frame ?_) (State.regs_withPower ..)
  have hsynced := (RegFrame.refl (allBut rolesSafe) s).setFldBut .a (f := Fd.gdmStatusSynced) 0 (by decide) (by decide) (by decide) (by decide)
  have hholding := hsynced.setFldBut .a (f := Fd.gdmStatusHolding) 0 (by decide) (by decide) (by decide) (by decide)
  exact hholding.setFldBut .a (f := Fd.gdmStatusCopy) 0 (by decide) (by decide) (by decide) (by decide)

theorem safeFinish_frame (s : State) : RegFrame (allBut rolesSafe) s (safeFinish s) :=
  safChanged_rolesSafe _ _ _ (gwPend_frame _ (by decide) (announce_frame (outputsStopped_frame s)))

theorem outputsStopped_keeps (s : State) : (outputsStopped s).power = { s.power with pwrgd := false } ∧
    ∀ q, ((outputsStopped s).peak q).up = (s.peak q).up := by
  have hshown := State.setFld_upd (p := .a) (f := Fd.gdmStatusCopy) (v := 0) (State.setFld_upd (p := .a) (f := Fd.gdmStatusHolding) (v := 0)
    (State.setFld_upd (p := .a) (f := Fd.gdmStatusSynced) (v := 0) (Upd.refl 137438966785 s) (by decide)) (by decide)) (by decide)
  have hstop := stopAll_upd hshown (by decide)
  refine ⟨?_, fun q => (hstop.peak q).up (by decide)⟩
  exact congrArg (fun w : Power => { w with pwrgd := false }) (hstop.power (by decide))

theorem safeFinish_keeps (s : State) : (safeFinish s).power = { s.power with pwrgd := false } ∧ ∀ q, ((safeFinish s).peak q).up = (s.peak q).up := by
  obtain ⟨hpower, hup⟩ := outputsStopped_keeps s
  have hlast : Upd 248524021641229 (outputsStopped s) (safeFinish s) :=
    safChanged_upd (gwPend_upd (announce_upd (Upd.refl _ _) (by decide)) (by decide)) (by decide)
  exact ⟨(hlast.power (by decide)).trans hpower, fun q => ((hlast.peak q).up (by decide)).trans (hup q)⟩

theorem setRole_peak (p q : PeakId) (r : Nat) (s : State) : (setRole p r s).peak q = s.peak q := State.peak_setFld ..

theorem peaksFailed_up (s : State) (q : PeakId) : ((peaksFailed s).peak q).up = false := by
  unfold peaksFailed
  rw [setRole_peak, setRole_peak]
  cases q <;> rfl

theorem peaksFailed_role (s : State) (q : PeakId) : (peaksFailed s).role q = 3 := by
  unfold peaksFailed
  rw [role_setRole, role_setRole]
  cases q <;> rfl

/-- A device that was not safe: both Peaks are held in reset, FAILED. -/
theorem safeEnter_holds (c : Nat) (p : PeakId) {s : State} (h : s.safe = false) (q : PeakId) :
    ((safeEnter c p s).peak q).up = false ∧ (safeEnter c p s).role q = 3 := by
  rw [safeEnter_eq, h]
  refine ⟨((safeFinish_keeps _).2 q).trans (peaksFailed_up _ q), ?_⟩
  exact (role_of_frame (safeFinish_frame _) (by decide) q).trans (peaksFailed_role _ q)

theorem vaux_of_supplies (ha : t.power.vauxA = s.power.vauxA) (hb : t.power.vauxB = s.power.vauxB) (q : PeakId) : t.vaux q = s.vaux q := by
  cases q <;> assumption

/-- The entry touches no supply, and starts no Peak. -/
theorem safeEnter_keeps (c : Nat) (p : PeakId) (s : State) (q : PeakId) : (safeEnter c p s).vaux q = s.vaux q ∧
    ((s.peak q).up = false → ((safeEnter c p s).peak q).up = false) := by
  rw [safeEnter_eq]
  split
  · exact ⟨rfl, id⟩
  · have hbegin := safeBegin_power c p s
    have hfailed : (peaksFailed (safeBegin c p s)).power = (peakReset .b (peakReset .a (safeBegin c p s))).power :=
      (State.setFld_power ..).trans (State.setFld_power ..)
    refine ⟨vaux_of_supplies ?_ ?_ q, fun _ => ((safeFinish_keeps _).2 q).trans (peaksFailed_up _ q)⟩
    · rw [(safeFinish_keeps _).1, hfailed, peakReset_power, peakReset_power, hbegin]
    · rw [(safeFinish_keeps _).1, hfailed, peakReset_power, peakReset_power, hbegin]

end Sys2Proof.Machine
end

section
/-! SUPPORT and CERTIFICATE. The supplies and RESET_N (R57, R59, R60, R61, R64, R85). -/

namespace Sys2Proof.Machine

variable {M K : Nat → Nat} {s t : State}

/-! ### Supplies that rise -/

theorem Power.cause_por (n : Nat) : Nat.lor n causePor % 2 = 1 := by
  have hbit : (n ||| 1).testBit 0 = true := by rw [Nat.testBit_or, show Nat.testBit 1 0 = true from rfl, Bool.or_true]
  rw [Nat.testBit_zero, decide_eq_true_eq] at hbit
  exact hbit

theorem riseVauxG_completes (legs : BitVec 6) (s : State) (h : s.power.vauxG = false) : Completes (.supplyRise .vauxG legs) s (fun t =>
    t.power.vauxG = true ∧ t.power.cause % 2 = 1 ∧ t.power.phase = (if s.power.resetLow then s.power.phase else .cold 0) ∧
    { t with power := s.power } = s) := by
  let u : State := { s with power := { s.power with vauxG := true, cause := Nat.lor s.power.cause causePor } }
  have he : exec (.supplyRise .vauxG legs) s = .next (if s.power.resetLow then u else coldStart u) := by
    rw [exec_supplyRise, execSupplyRise, supplyRise, if_neg (by rw [h]; decide)]
  refine ⟨_, he, ?_⟩
  split
  · exact ⟨rfl, Power.cause_por _, rfl, rfl⟩
  · exact ⟨rfl, Power.cause_por _, rfl, rfl⟩

/-- VAUXA or VAUXB. -/
def peakSupply (q : PeakId) : Supply := if q = .a then .vauxA else .vauxB

theorem supplyRise_peak (p : PeakId) (legs : BitVec 6) (s : State) : supplyRise (peakSupply p) legs s = vauxRise p s := by cases p <;> rfl
theorem supplyFall_peak (p : PeakId) (s : State) : supplyFall (peakSupply p) s = vauxFall p s := by cases p <;> rfl

theorem vauxUp_vaux (p q : PeakId) (v : Bool) (s : State) : (vauxUp p v s).vaux q = if q = p then v else s.vaux q := by
  cases p <;> cases q <;> rfl

theorem PeakId.other_ne (p : PeakId) : p.other ≠ p := by cases p <;> decide

theorem risePeak_completes (p : PeakId) (legs : BitVec 6) (s : State) : Completes (.supplyRise (peakSupply p) legs) s (fun t =>
    t.vaux p = true ∧ t.vaux p.other = s.vaux p.other ∧ { t with power := s.power } = s) := by
  have he : exec (.supplyRise (peakSupply p) legs) s = .next (vauxRise p s) := by rw [exec_supplyRise, execSupplyRise, supplyRise_peak]
  refine ⟨_, he, ?_⟩
  unfold vauxRise
  split
  · next hv => exact ⟨hv, rfl, rfl⟩
  · rw [vauxUp_vaux, vauxUp_vaux, if_pos rfl, if_neg (PeakId.other_ne p)]
    exact ⟨rfl, by cases p <;> rfl, by cases p <;> rfl⟩

/-! ### VDRV: the gates (R60, R85) -/

/-- SPUR.STATUS.VDRV_OK. -/
def vdrvShown : Nat → Nat := oneReg Reg.spurStatus 0x40000

theorem legMask_vdrvShown (a : Nat) : vdrvShown a &&& legMask a = 0 := oneReg_and (by rw [legMask_spurStatus]; rfl) a

/-- A leg's result as both Peaks read it. -/
def legResult (n r : Nat) (s : State) : State :=
  bothPeaks (fun p s =>
    let s := s.setReg p (Reg.bstDone 5) (putBits (s.reg p (Reg.bstDone 5)) (14 + n) (14 + n) 1)
    s.setReg p (Reg.bstPass 5) (putBits (s.reg p (Reg.bstPass 5)) (14 + n) (14 + n) r)) s

/-- A leg is tested: one that fails is retired. -/
def legJudge (n : Nat) (ok : Bool) (s : State) : State :=
  let s := legResult n (if ok then 1 else 0) s
  if ok then s else legDisable n (s.setFld .a (Fd.spurLegStatusRetired n) 1)

/-- Has either Peak a result for leg n? -/
def legHasTest (n : Nat) (s : State) : Bool := [PeakId.a, PeakId.b].any (fun p => decide (bits (s.reg p (Reg.bstDone 5)) (14 + n) (14 + n) = 1))

theorem legsTest_eq (pass : BitVec 6) (s : State) : legsTest pass s =
    if s.power.merged then forAll legNumbers (fun n s => if legHasTest n s then s else legJudge n (pass.getLsbD n) s) s else s := rfl

theorem legResult_frame (n r : Nat) (h : RegFrame (allBut vdrvShown) s t) : RegFrame (allBut vdrvShown) s (legResult n r t) :=
  RegFrame.bothPeaks h fun p _ hu => (hu.setRegFree p _ (by decide) rfl).setRegFree p _ (by decide) rfl

theorem legJudge_frame {n : Nat} (hn : n < 6) (ok : Bool) (h : RegFrame (allBut vdrvShown) s t) : RegFrame (allBut vdrvShown) s (legJudge n ok t) := by
  have hresult := legResult_frame n (if ok then 1 else 0) h
  have hstatus : Reg.spurLegStatus n ≠ Reg.spurStatus ∧ Reg.spurLegStatus n < 2 ^ 32 := by
    simp only [Reg.spurLegStatus, Reg.spurStatus]; omega
  unfold legJudge
  cases ok with
  | true => exact hresult
  | false =>
    exact (hresult.setFldFree .a (f := Fd.spurLegStatusRetired n) 1 hstatus.2 (oneReg_ne hstatus.1)).trans
      ((legDisable_frame hn (RegFrame.refl legMask _)).allBut legMask_vdrvShown)

theorem legsTest_frame (pass : BitVec 6) (h : RegFrame (allBut vdrvShown) s t) : RegFrame (allBut vdrvShown) s (legsTest pass t) := by
  rw [legsTest_eq]
  split
  · refine RegFrame.forAll _ _ h fun n hn v hv => ?_
    split
    · exact hv
    · exact legJudge_frame (legNumbers_lt hn) _ hv
  · exact h

theorem allBut_vdrvShown : bits (allBut vdrvShown Fd.spurStatusVdrvOk.addr) Fd.spurStatusVdrvOk.hi Fd.spurStatusVdrvOk.lo = 0 := by decide

/-- VDRV is up while the Saddle is clocked: VDRV_OK shows, legs without a test are tested, and each leg is decided anew. -/
def gatesUp (legs : BitVec 6) (s : State) : State := legsDecide (legsTest legs (s.setFld .a Fd.spurStatusVdrvOk 1))

theorem gatesUp_shows (legs : BitVec 6) (s : State) : (gatesUp legs s).bit .a Fd.spurStatusVdrvOk = true := by
  have htest := legsTest_frame legs (RegFrame.refl (allBut vdrvShown) (s.setFld .a Fd.spurStatusVdrvOk 1))
  have hdecide := htest.trans ((legsDecide_frame (RegFrame.refl legMask _)).allBut legMask_vdrvShown)
  exact (hdecide.bit .a (le_lit rfl) allBut_vdrvShown).trans (State.bit_raise s .a (f := Fd.spurStatusVdrvOk) rfl (by decide))

theorem gatesUp_keeps (legs : BitVec 6) (s : State) : Upd 8193 s (gatesUp legs s) :=
  legsDecide_upd (legsTest_upd (State.setFld_upd (Upd.refl _ s) (by decide)) (by decide)) (by decide)

theorem riseVdrv_completes (legs : BitVec 6) (s : State) (h : s.power.vdrv = false) (hc : s.saddle.clock = true) :
    Completes (.supplyRise .vdrv legs) s (fun t => t.power = { s.power with vdrv := true } ∧ t.bit .a Fd.spurStatusVdrvOk = true ∧ t.mem = s.mem) := by
  have he : exec (.supplyRise .vdrv legs) s = .next (gatesUp legs { s with power := { s.power with vdrv := true } }) := by
    rw [exec_supplyRise, execSupplyRise, supplyRise, if_neg (by rw [h]; decide)]
    exact congrArg _ (if_pos hc)
  have hkeeps := gatesUp_keeps legs { s with power := { s.power with vdrv := true } }
  exact ⟨_, he, hkeeps.power (by decide), gatesUp_shows _ _, hkeeps.mem (by decide)⟩

/-- Both switches of leg m are off. -/
def LegOff (m : Nat) (s : State) : Prop := (s.leg m).hi = false ∧ (s.leg m).lo = false

theorem legDrive_off (n : Nat) (s : State) : LegOff n (legDrive n false false s) := by
  unfold LegOff legDrive
  simp

theorem legDrive_leg_ne {m n : Nat} (h : m ≠ n) (a b : Bool) (s : State) : (legDrive n a b s).leg m = s.leg m := State.leg_setLeg_ne _ _ h

theorem legOff_switches (m n : Nat) (s : State) : ((legOff n s).leg m).hi = (s.leg m).hi ∧ ((legOff n s).leg m).lo = (s.leg m).lo := by
  unfold legOff setBitOf
  by_cases h : m = n
  · subst h
    simp
  · simp [State.leg_setLeg_ne _ _ h]

theorem gatesDown_off (inhibit : Bool) (s : State) {m : Nat} (hm : m < 6) : LegOff m (gatesDown inhibit s) := by
  unfold gatesDown
  refine forAll_reaches (LegOff m) _ _ (List.mem_range.mpr hm) (fun v => legDrive_off m _) fun n _ v hv => ?_
  by_cases h : m = n
  · subst h
    exact legDrive_off m _
  · unfold LegOff
    rw [legDrive_leg_ne h, (legOff_switches m n v).1, (legOff_switches m n v).2]
    exact hv

/-- The gates go down after the flag is raised. -/
theorem gatesDown_legs (s : State) : RegFrame legMask (s.raise .a Fd.spurFlagsVdrvLoss) (gatesDown false s) := by
  unfold gatesDown
  exact RegFrame.forAll _ _ (ascEnd_frame (RegFrame.refl legMask _)) fun n hn v hv => legDrive_frame _ _ _ (legOff_frame (legNumbers_lt hn) hv)

/-- The loss of VDRV shows in the flag, and VDRV_OK stays as it is. -/
theorem gatesDown_shows (s : State) : (gatesDown false s).bit .a Fd.spurFlagsVdrvLoss = true ∧
    (gatesDown false s).bit .a Fd.spurStatusVdrvOk = s.bit .a Fd.spurStatusVdrvOk := by
  have hlegs := gatesDown_legs s
  refine ⟨(hlegs.bit .a (f := Fd.spurFlagsVdrvLoss) (le_lit rfl) rfl).trans (State.bit_raise s .a (f := Fd.spurFlagsVdrvLoss) rfl (by decide)), ?_⟩
  refine (hlegs.bit .a (f := Fd.spurStatusVdrvOk) (le_lit rfl) rfl).trans ?_
  exact State.bit_setFld_ne s (f := Fd.spurFlagsVdrvLoss) (g := Fd.spurStatusVdrvOk) 1 (by decide)

theorem fallVdrv_completes (s : State) (h : s.power.vdrv = true) (hc : s.saddle.clock = true) : Completes (.supplyFall .vdrv) s (fun t =>
    t.power = { s.power with vdrv := false } ∧ t.bit .a Fd.spurStatusVdrvOk = false ∧ t.bit .a Fd.spurFlagsVdrvLoss = true ∧
    (∀ n < 6, (t.leg n).hi = false ∧ (t.leg n).lo = false) ∧ t.mem = s.mem) := by
  let u : State := { s with power := { s.power with vdrv := false } }
  have he : exec (.supplyFall .vdrv) s = .next (gatesDown false (u.setFld .a Fd.spurStatusVdrvOk 0)) := by
    rw [exec_supplyFall, execSupplyFall, supplyFall, if_pos h]
    exact congrArg _ (if_pos hc)
  have hkeeps : Upd 8193 u (gatesDown false (u.setFld .a Fd.spurStatusVdrvOk 0)) :=
    gatesDown_upd (State.setFld_upd (Upd.refl _ u) (by decide)) (by decide)
  obtain ⟨hloss, hok⟩ := gatesDown_shows (u.setFld .a Fd.spurStatusVdrvOk 0)
  have hcleared : (u.setFld .a Fd.spurStatusVdrvOk 0).bit .a Fd.spurStatusVdrvOk = false :=
    State.bit_setFld u .a (f := Fd.spurStatusVdrvOk) 0 (by decide) (by decide)
  exact ⟨_, he, hkeeps.power (by decide), hok.trans hcleared, hloss, fun n hn => gatesDown_off false _ hn, hkeeps.mem (by decide)⟩

/-! ### VAUXA and VAUXB fall (R57, R60) -/

/-- The Peak and its Cirque domain are unpowered. -/
def peakUnpowered (p : PeakId) (s : State) : State := clkRefresh (domainLoss p ((peakOff p (vauxNote p s)).setPll (3 + p.num) {}))

theorem vauxFall_eq {p : PeakId} (h : s.vaux p = true) : vauxFall p s = vauxBoth p (peakUnpowered p s) := if_pos h

theorem peakOff_supplies (p : PeakId) (s : State) : (peakOff p s).power.phase = s.power.phase ∧ ∀ q, (peakOff p s).vaux q = s.vaux q := by
  have hpower : (peakOff p s).power = (((peakReset p s).setReg p Reg.clkCtrl 0x80).setReg p Reg.clkStatus 0 |>.setPll p.num {}).power := clkRefresh_power _
  rw [State.setPll_power, State.setReg_power, State.setReg_power, peakReset_power] at hpower
  exact ⟨by rw [hpower], vaux_of_supplies (by rw [hpower]) (by rw [hpower])⟩

theorem vauxNote_supplies (p : PeakId) (s : State) : (vauxNote p s).power.phase = s.power.phase ∧ ∀ q, (vauxNote p s).vaux q = if q = p then false else s.vaux q :=
  ⟨by cases p <;> rfl, fun q => by cases p <;> cases q <;> rfl⟩

theorem peakUnpowered_keeps (p : PeakId) (s : State) : Upd 248523987615821 ((peakOff p (vauxNote p s)).setPll (3 + p.num) {}) (peakUnpowered p s) :=
  clkRefresh_upd (domainLoss_upd (Upd.refl _ _) (by decide)) (by decide)

theorem peakUnpowered_supplies (p : PeakId) (s : State) : (peakUnpowered p s).power.phase = s.power.phase ∧
    (∀ q, (peakUnpowered p s).vaux q = if q = p then false else s.vaux q) ∧ ((peakUnpowered p s).peak p).up = false := by
  have hkeeps := peakUnpowered_keeps p s
  have hpower := (hkeeps.power (by decide)).trans (State.setPll_power ..)
  obtain ⟨hoffPhase, hoffVaux⟩ := peakOff_supplies p (vauxNote p s)
  obtain ⟨hnotePhase, hnoteVaux⟩ := vauxNote_supplies p s
  refine ⟨?_, fun q => ?_, ?_⟩
  · rw [hpower]
    exact hoffPhase.trans hnotePhase
  · refine (vaux_of_supplies ?_ ?_ q).trans ((hoffVaux q).trans (hnoteVaux q)) <;> rw [hpower]
  · refine ((hkeeps.peak p).up (by decide)).trans ?_
    rw [State.peak_setPll, peakOff_up, if_pos rfl]

/-- The last supply's loss stops the Saddle, and neither supplies nor a Peak return by it. -/
theorem vauxBoth_keeps (p q : PeakId) (s : State) : (vauxBoth p s).vaux q = s.vaux q ∧ ((s.peak q).up = false → ((vauxBoth p s).peak q).up = false) ∧
    (s.running = true → s.vaux p.other = false → (vauxBoth p s).saddle.clock = false) := by
  unfold vauxBoth
  split
  · obtain ⟨hvaux, hup⟩ := safeEnter_keeps 4 (s.active.getD .a) s q
    exact ⟨(by cases q <;> exact hvaux), hup, fun _ _ => rfl⟩
  · next hn => exact ⟨rfl, id, fun hr ho => absurd (by rw [hr, ho]; rfl) hn⟩

theorem fallPeak_completes (p : PeakId) (s : State) (h : s.vaux p = true) : Completes (.supplyFall (peakSupply p)) s (fun t => t.vaux p = false ∧
    (t.peak p).up = false ∧ t.vaux p.other = s.vaux p.other ∧ (s.running = true → s.vaux p.other = false → t.saddle.clock = false)) := by
  have he : exec (.supplyFall (peakSupply p)) s = .next (vauxBoth p (peakUnpowered p s)) := by
    rw [exec_supplyFall, execSupplyFall, supplyFall_peak, vauxFall_eq h]
  obtain ⟨hphase, hvaux, hdown⟩ := peakUnpowered_supplies p s
  have hother : (peakUnpowered p s).vaux p.other = s.vaux p.other := (hvaux _).trans (if_neg (PeakId.other_ne p))
  refine ⟨_, he, (vauxBoth_keeps p p _).1.trans ((hvaux p).trans (if_pos rfl)), (vauxBoth_keeps p p _).2.1 hdown,
    (vauxBoth_keeps p p.other _).1.trans hother, fun hr ho => (vauxBoth_keeps p p _).2.2 ?_ (hother.trans ho)⟩
  unfold State.running at hr ⊢
  rw [hphase, hr]

/-! ### VAUXG falls, and RESET_N -/

/-- What a device reset leaves of `s`. -/
def DeviceWasReset (s t : State) : Prop := t.regs = [] ∧ t.cores = [] ∧ t.tasks = [] ∧ t.power.phase = .off ∧ (∀ q, (t.peak q).up = false) ∧
  (∀ k, t.byte k = if 3 * 2 ^ 32 ≤ k then s.byte k else 0)

theorem deviceReset_was {u : State} (h : u.mem = s.mem) : DeviceWasReset s (deviceReset u) := by
  obtain ⟨hregs, hcores, htasks, hphase, hup, hbyte⟩ := deviceReset_forgets u
  refine ⟨hregs, hcores, htasks, hphase, hup, fun k => ?_⟩
  rw [hbyte k]
  unfold State.byte
  rw [h]

theorem lcsInterrupt_mem (s : State) : (lcsInterrupt s).mem = s.mem := (lcsInterrupt_upd (Upd.refl 1140850688 s) (by decide)).mem (by decide)

theorem lcsInterrupt_none (h : s.power.lcs = none) : lcsInterrupt s = s := by
  unfold lcsInterrupt
  rw [h]

theorem fallVauxG_completes (s : State) (h : s.power.lcs = none) : Completes (.supplyFall .vauxG) s (fun t => DeviceWasReset s t ∧ t.power.vauxG = false ∧
    t.power.fuses = s.power.fuses) := by
  have he : exec (.supplyFall .vauxG) s = .next (deviceReset { s with power := { s.power with vauxG := false } }) := by
    rw [exec_supplyFall, execSupplyFall, supplyFall]
    dsimp only
    rw [lcsInterrupt_none h]
  exact ⟨_, he, deviceReset_was rfl, rfl, rfl⟩

/-- RESET_N resets the device. -/
def pinReset (s : State) : State :=
  let s := lcsInterrupt s
  deviceReset { s with power := { s.power with resetLow := true, cause := Nat.lor s.power.cause causePin } }

theorem pinReset_resets {u : State} (h : u.mem = s.mem) : DeviceWasReset s (pinReset u) ∧ (pinReset u).power.resetLow = true :=
  ⟨deviceReset_was ((lcsInterrupt_mem u).trans h), rfl⟩

theorem exec_resetPin_eq (ns : Word) (s : State) : exec (.resetPin ns) s = .next (resetPin ns.toNat s) := rfl

theorem resetPin_short {n : Nat} (h : n < 480) (s : State) : resetPin n s = s := if_pos h

theorem resetPin_long {n : Nat} (h : 520 ≤ n) (s : State) : resetPin n s = pinReset s := by
  unfold resetPin
  rw [if_neg (by omega)]
  dsimp only
  rw [if_pos h, if_pos (Or.inl h)]
  rfl

/-- Between them one choice that nobody states decides. -/
theorem resetPin_between {n : Nat} (h : 480 ≤ n) (h2 : n < 520) (s : State) : resetPin n s =
    if Config.freeBool s.free then pinReset { s with free := s.free + 1 } else { s with free := s.free + 1 } := by
  unfold resetPin
  have hlong : ¬520 ≤ n := by omega
  rw [if_neg (by omega)]
  dsimp only [State.takeFree]
  simp only [hlong, false_or, if_false]
  rfl

theorem resetRelease_completes (s : State) (h : s.power.resetLow = true) : Completes .resetRelease s (fun t => t.power.resetLow = false ∧
    t.power.phase = (if s.power.vauxG then .cold 0 else s.power.phase) ∧ { t with power := s.power } = s) := by
  let u : State := { s with power := { s.power with resetLow := false } }
  have he : exec .resetRelease s = .next (if s.power.vauxG then coldStart u else u) := by
    rw [exec_resetRelease, execResetRelease, if_pos h]
  refine ⟨_, he, ?_⟩
  split
  · exact ⟨rfl, rfl, rfl⟩
  · exact ⟨rfl, rfl, rfl⟩

/-- Settles O40: each supply's rise and fall and each pulse on RESET_N, one lemma apiece. -/
theorem suppliesAndReset : Obligations.SuppliesAndReset := by
  unfold Obligations.SuppliesAndReset
  intro legs p ns s reset sup
  refine ⟨riseVauxG_completes legs s, risePeak_completes p legs s, ⟨_, exec_supplyRise .vio1 legs s, rfl⟩, ⟨_, exec_supplyRise .vio2 legs s, rfl⟩,
    riseVdrv_completes legs s, fallVauxG_completes s, fallPeak_completes p s, fallVdrv_completes s, ⟨_, exec_supplyFall .vio1 s, rfl⟩,
    ⟨_, exec_supplyFall .vio2 s, rfl⟩, fun h => ⟨_, exec_resetPin_eq ns s, resetPin_short h s⟩, fun h => ⟨_, exec_resetPin_eq ns s, ?_⟩,
    fun h h2 => ⟨_, exec_resetPin_eq ns s, ?_⟩, resetRelease_completes s⟩
  · rw [resetPin_long h]
    exact pinReset_resets rfl
  · rw [resetPin_between h h2]
    split
    · exact Or.inl (pinReset_resets rfl)
    · exact Or.inr rfl

end Sys2Proof.Machine
end

section
/-! SUPPORT. Boot images (R68 to R70, R72, R80): what the memory phase clears, and what a verdict shows of one Peak and leaves of the other. -/

namespace Sys2Proof.Machine

variable {s t u : State} {p q : PeakId}

/-! ### The memory phase (R80) -/

/-- The bytes of a Peak's memories: those of its cores, then its control SRAM and its pool. -/
def ownByte (p : PeakId) (k : Nat) : Prop := (p.num * 8 * 2 ^ 17 ≤ k ∧ k < (p.num + 1) * 8 * 2 ^ 17) ∨ (peakKey p 0 ≤ k ∧ k < peakKey p (2 ^ 32))

theorem ownByte_tcm (p : PeakId) (c : Fin 8) {a : Nat} (ha : a < 0x20000) : ownByte p (tcmKey ⟨p, c⟩ a) := by
  have hc := c.isLt
  left
  simp only [tcmKey]
  omega

theorem ownByte_peakKey (p : PeakId) {a : Nat} (ha : a < 2 ^ 32) : ownByte p (peakKey p a) := by
  right
  simp only [peakKey]
  omega

theorem not_ownByte_store (p : PeakId) (a : Nat) : ¬ownByte p (storeKey a) := by
  unfold ownByte storeKey peakKey
  cases p <;> simp only [PeakId.num] <;> omega

/-- A Peak's memories read 0. -/
def ramCleared (p : PeakId) (s : State) : State :=
  (s.clearBytes (p.num * 8 * 2 ^ 17) ((p.num + 1) * 8 * 2 ^ 17)).clearBytes (peakKey p 0) (peakKey p (2 ^ 32))

theorem ramCleared_byte (p : PeakId) (s : State) (k : Nat) : (ownByte p k → (ramCleared p s).byte k = 0) ∧
    (¬ownByte p k → (ramCleared p s).byte k = s.byte k) := by
  unfold ramCleared ownByte
  rw [State.byte_clearBytes, State.byte_clearBytes]
  refine ⟨fun h => ?_, fun h => ?_⟩
  · rcases h with h | h
    · rw [if_pos h, ite_self]
    · exact if_pos h
  · rw [if_neg fun hc => h (Or.inr hc), if_neg fun hc => h (Or.inl hc)]

theorem fetchStart_mem (p : PeakId) (n : Nat) (s : State) : (fetchStart p n s).mem = s.mem := (fetchStart_upd (Upd.refl 67108865 s) (by decide)).mem (by decide)

theorem colWait_boot (s : State) : (colWait s).power.boot = s.power.boot := by
  unfold colWait gwPend
  simp

theorem fetchStart_boot (p : PeakId) (n : Nat) (s : State) : (fetchStart p n s).power.boot = s.power.boot.set p (.fetch n) := by
  unfold fetchStart
  split
  · rfl
  · rfl
  · exact colWait_boot _

theorem joinSlot_of_boot (h : t.power.boot = s.power.boot) (hp : t.peaks = s.peaks) (hr : t.regs = s.regs) (p : PeakId) : joinSlot t p = joinSlot s p := by
  unfold joinSlot State.peak
  rw [h, hp]
  split
  · split
    · rw [State.fld_of_regs hr]
    · rfl
    · rfl
    · rfl
  · rfl

theorem memoryPhase_eq (p : PeakId) (s : State) : memoryPhase p s =
    if s.power.boot.get p = .r0 then fetchStart p ((joinSlot s p).getD 0) (ramCleared p s) else s := by
  have hjoin : joinSlot (ramCleared p s) p = joinSlot s p := joinSlot_of_boot rfl rfl rfl p
  rw [← hjoin]
  rfl

theorem memoryPhase_boot (p q : PeakId) (s : State) : (memoryPhase p s).power.boot.get q =
    if q = p ∧ s.power.boot.get p = .r0 then .fetch ((joinSlot s p).getD 0) else s.power.boot.get q := by
  rw [memoryPhase_eq]
  by_cases h : s.power.boot.get p = .r0
  · rw [if_pos h, fetchStart_boot, Two.get_set]
    exact if_congr (and_iff_left h).symm rfl rfl
  · rw [if_neg h, if_neg fun hc => h hc.2]

theorem memoryPhase_byte (p : PeakId) (s : State) (k : Nat) : ((s.power.boot.get p = .r0 ∧ ownByte p k) → (memoryPhase p s).byte k = 0) ∧
    (s.byte k = 0 ∨ ¬ownByte p k → (memoryPhase p s).byte k = s.byte k) := by
  rw [memoryPhase_eq]
  obtain ⟨hown, hother⟩ := ramCleared_byte p s k
  have hfetch : (fetchStart p ((joinSlot s p).getD 0) (ramCleared p s)).byte k = (ramCleared p s).byte k := by
    unfold State.byte
    rw [fetchStart_mem]
  refine ⟨fun h => by rw [if_pos h.1, hfetch, hown h.2], fun h => ?_⟩
  split
  · rw [hfetch]
    by_cases hk : ownByte p k
    · rw [hown hk, h.resolve_right fun hn => hn hk]
    · exact hother hk
  · rfl

/-- A Peak that waits in r0, or fetches slot 0, gives the other no slot to join. -/
theorem joinSlot_first (h : s.power.boot.get p.other = .r0 ∨ s.power.boot.get p.other = .fetch 0) : (joinSlot s p).getD 0 = 0 := by
  unfold joinSlot
  rcases h with h | h <;> rw [h] <;> exact congrArg (Option.getD · 0) (ite_self none)

theorem memoryPhase_peaks (p : PeakId) (s : State) : (memoryPhase p s).peaks = s.peaks ∧ (s.power.boot.get p ≠ .r0 → memoryPhase p s = s) := by
  rw [memoryPhase_eq]
  refine ⟨?_, fun h => if_neg h⟩
  split
  · unfold fetchStart colWait gwPend setBoot ramCleared State.clearBytes
    split <;> simp
  · rfl

theorem memoryPhase_completes (p : PeakId) (s : State) (h : s.power.boot.get p = .r0) : Completes .memoryPhaseComplete s (fun t =>
    t.power.boot.get p = .fetch ((joinSlot s p).getD 0) ∧
    (∀ c a, a < 0x20000 → t.byte (tcmKey ⟨p, c⟩ a) = 0) ∧ (∀ a < 2 ^ 32, t.byte (peakKey p a) = 0) ∧ ∀ a, t.byte (storeKey a) = s.byte (storeKey a)) := by
  have hzero : ∀ k, ownByte p k → (memoryPhase .b (memoryPhase .a s)).byte k = 0 := by
    intro k hk
    cases p with
    | a =>
      have hfirst := (memoryPhase_byte .a s k).1 ⟨h, hk⟩
      rw [(memoryPhase_byte .b _ k).2 (Or.inl hfirst), hfirst]
    | b =>
      refine (memoryPhase_byte .b _ k).1 ⟨?_, hk⟩
      rw [memoryPhase_boot, if_neg fun hc => absurd hc.1 (by decide), h]
  refine ⟨_, exec_memoryPhaseComplete s, ?_, fun c a ha => hzero _ (ownByte_tcm p c ha), fun a ha => hzero _ (ownByte_peakKey p ha), fun a => ?_⟩
  · change (memoryPhase .b (memoryPhase .a s)).power.boot.get p = _
    rw [memoryPhase_boot]
    cases p with
    | a => rw [if_neg fun hc => absurd hc.1 (by decide), memoryPhase_boot, if_pos ⟨rfl, h⟩]
    | b =>
      rw [if_pos ⟨rfl, by rw [memoryPhase_boot, if_neg fun hc => absurd hc.1 (by decide), h]⟩]
      by_cases ha : s.power.boot.get .a = .r0
      · have hfetch : (memoryPhase .a s).power.boot.get .a = .fetch 0 := by
          rw [memoryPhase_boot, if_pos ⟨rfl, ha⟩, joinSlot_first (p := .a) (Or.inl h)]
        rw [joinSlot_first (p := .b) (Or.inr hfetch), joinSlot_first (p := .b) (Or.inl ha)]
      · rw [(memoryPhase_peaks .a s).2 ha]
  · exact ((memoryPhase_byte .b _ _).2 (Or.inr (not_ownByte_store .b a))).trans ((memoryPhase_byte .a s _).2 (Or.inr (not_ownByte_store .a a)))

/-! ### Fetch (R69) -/

theorem slotFetch_completes (p : PeakId) (slot : Fin 2) (img : List Byte) (s : State) (h : s.power.boot.get p = .fetch slot.val)
    (hnone : (if slot.val = 0 then s.power.slot0 else s.power.slot1) = none) : Completes (.slotFetchComplete slot img) s (fun t =>
      (if slot.val = 0 then t.power.slot0 else t.power.slot1) = some img ∧ t.power.boot = s.power.boot ∧ { t with power := s.power } = s) := by
  have hone : s.power.boot.a = .fetch slot.val ∨ s.power.boot.b = .fetch slot.val := by
    cases p with
    | a => exact Or.inl h
    | b => exact Or.inr h
  refine ⟨_, exec_slotFetchComplete slot img s, ?_⟩
  unfold slotFetched
  rw [if_pos hone]
  by_cases h0 : slot.val = 0
  · rw [if_pos h0] at hnone
    simp [h0, hnone]
  · rw [if_neg h0] at hnone
    simp [h0, hnone]

/-! ### What a verdict shows (R68, R69) -/

theorem slotCheck_lt (s : State) (img : List Byte) (bad : Bool) : slotCheck s img bad < 2 ^ 4 := by
  unfold slotCheck
  split
  · decide
  split
  · decide
  split
  · decide
  split
  · decide
  dsimp only
  split
  · decide
  split <;> decide

theorem bootStatus_key (h : q ≠ p) : regKey q Reg.bootStatus ≠ regKey p Reg.bootStatus := by
  revert h
  cases p <;> cases q <;> decide

/-- From `s` to `t` nothing of the boot of Peak q changed. -/
structure BootKept (q : PeakId) (s t : State) : Prop where
  boot : t.power.boot.get q = s.power.boot.get q
  hash : t.power.imageHash.get q = s.power.imageHash.get q
  status : t.reg q Reg.bootStatus = s.reg q Reg.bootStatus
  peaks : t.peaks = s.peaks

theorem BootKept.refl (q : PeakId) (s : State) : BootKept q s s := ⟨rfl, rfl, rfl, rfl⟩

theorem BootKept.trans (h : BootKept q s t) (g : BootKept q t u) : BootKept q s u :=
  ⟨g.boot.trans h.boot, g.hash.trans h.hash, g.status.trans h.status, g.peaks.trans h.peaks⟩

theorem BootKept.fld (h : BootKept q s t) {f : Fld} (hf : f.addr = Reg.bootStatus) : t.fld q f = s.fld q f := by
  unfold State.fld
  rw [hf, h.status]

theorem BootKept.setStatus (h : BootKept q s t) (hqp : q ≠ p) {f : Fld} (hf : f.addr = Reg.bootStatus) (v : Nat) : BootKept q s (t.setFld p f v) :=
  h.trans ⟨by rw [State.setFld_power], by rw [State.setFld_power], State.reg_setFld_ne t v (by rw [hf]; exact bootStatus_key hqp), State.setFld_peaks ..⟩

theorem errFld_addr (n : Nat) : (errFld n).addr = Reg.bootStatus := by unfold errFld; split <;> rfl

theorem errFld_range (n : Nat) : (errFld n).lo ≤ (errFld n).hi ∧ (errFld n).hi < 32 ∧ (errFld n).hi + 1 - (errFld n).lo = 4 := by
  unfold errFld
  split <;> decide

theorem errPeer_kept (hqp : q ≠ p) (shown : State) (n : Nat) (s : State) : BootKept q s (errPeer shown p n s) :=
  forAll_induct (BootKept q s) _ _ (BootKept.refl q s) fun k _ v hv => by
    split
    · exact hv.setStatus hqp (errFld_addr k) 8
    · exact hv

theorem errPeer_same (shown : State) (p : PeakId) (n : Nat) (s : State) : (errPeer shown p n s).power = s.power ∧ (errPeer shown p n s).peaks = s.peaks :=
  forAll_induct (fun t => t.power = s.power ∧ t.peaks = s.peaks) _ _ ⟨rfl, rfl⟩ fun k _ v hv => by
    split
    · exact ⟨(State.setFld_power ..).trans hv.1, (State.setFld_peaks ..).trans hv.2⟩
    · exact hv

/-- The registers of an accepted slot. -/
def acceptShown (p : PeakId) (slot : Nat) (img : List Byte) (s : State) : State :=
  let s := (s.setFld p Fd.bootStatusSlot slot).setFld p Fd.bootStatusSvn (imgWord img 8)
  s.setFld p Fd.bootStatusKeySlot (if keysSkipped s then 0 else (keySlotOf s img).getD 0)

theorem bootAccept_eq (p : PeakId) (slot : Nat) (img : List Byte) (s : State) : bootAccept p slot img s =
    setBoot p (.ready slot) { acceptShown p slot img s with power := { (acceptShown p slot img s).power with
      imageHash := (acceptShown p slot img s).power.imageHash.set p (Config.sha256 (imgWhole img)) } } := rfl

theorem acceptShown_power (p : PeakId) (slot : Nat) (img : List Byte) (s : State) : (acceptShown p slot img s).power = s.power := by
  simp [acceptShown]

theorem bootAccept_power (p : PeakId) (slot : Nat) (img : List Byte) (s : State) : (bootAccept p slot img s).power =
    { s.power with imageHash := s.power.imageHash.set p (Config.sha256 (imgWhole img)), boot := s.power.boot.set p (.ready slot) } := by
  rw [bootAccept_eq, setBoot]
  dsimp only
  rw [acceptShown_power]

theorem acceptShown_peaks (p : PeakId) (slot : Nat) (img : List Byte) (s : State) : (acceptShown p slot img s).peaks = s.peaks := by
  simp [acceptShown]

theorem bootAccept_peaks (p : PeakId) (slot : Nat) (img : List Byte) (s : State) : (bootAccept p slot img s).peaks = s.peaks := by
  rw [bootAccept_eq, setBoot]
  dsimp only
  rw [acceptShown_peaks]

theorem bootAccept_regs (p : PeakId) (slot : Nat) (img : List Byte) (s : State) : (bootAccept p slot img s).regs = (acceptShown p slot img s).regs := rfl

/-- A slot that Peak p accepted shows in its BOOT.STATUS; its errors stay. -/
theorem bootAccept_shows (p : PeakId) (slot : Nat) (img : List Byte) (s : State) : let t := bootAccept p slot img s
    t.fld p Fd.bootStatusSlot = slot % 4 ∧ t.fld p Fd.bootStatusSvn = imgWord img 8 % 128 ∧ t.fld p Fd.bootStatusErr1 = s.fld p Fd.bootStatusErr1 := by
  intro t
  have hregs : ∀ f, t.fld p f = (acceptShown p slot img s).fld p f := fun f => State.fld_of_regs (bootAccept_regs p slot img s) p f
  rw [hregs, hregs, hregs]
  unfold acceptShown
  dsimp only
  generalize (if keysSkipped _ then 0 else _) = key
  have hapart : ∀ (g f : Fld) (v : Nat) (u : State), f.lo ≤ f.hi → f.hi < 32 → g.addr = f.addr → (f.hi < g.lo ∨ g.hi < f.lo) →
      (u.setFld p f v).fld p g = u.fld p g := fun g f v u h h32 ha hd => State.fld_setFld_apart u p v h h32 ha hd
  refine ⟨?_, ?_, ?_⟩
  · rw [hapart Fd.bootStatusSlot Fd.bootStatusKeySlot _ _ (by decide) (by decide) rfl (Or.inr (by decide)),
      hapart Fd.bootStatusSlot Fd.bootStatusSvn _ _ (by decide) (by decide) rfl (Or.inr (by decide))]
    exact State.fld_setFld s p (f := Fd.bootStatusSlot) slot (by decide) (by decide)
  · rw [hapart Fd.bootStatusSvn Fd.bootStatusKeySlot _ _ (by decide) (by decide) rfl (Or.inl (by decide))]
    exact State.fld_setFld _ p (f := Fd.bootStatusSvn) _ (by decide) (by decide)
  · rw [hapart Fd.bootStatusErr1 Fd.bootStatusKeySlot _ _ (by decide) (by decide) rfl (Or.inl (by decide)),
      hapart Fd.bootStatusErr1 Fd.bootStatusSvn _ _ (by decide) (by decide) rfl (Or.inr (by decide)),
      hapart Fd.bootStatusErr1 Fd.bootStatusSlot _ _ (by decide) (by decide) rfl (Or.inl (by decide))]

theorem bootAccept_kept (hqp : q ≠ p) (slot : Nat) (img : List Byte) (s : State) : BootKept q s (bootAccept p slot img s) where
  boot := by rw [bootAccept_power]; exact (Two.get_set ..).trans (if_neg hqp)
  hash := by rw [bootAccept_power]; exact (Two.get_set ..).trans (if_neg hqp)
  status := by
    rw [State.reg_of_regs (bootAccept_regs p slot img s)]
    exact (((BootKept.refl q s).setStatus hqp rfl _).setStatus hqp rfl _ |>.setStatus hqp rfl _).status
  peaks := bootAccept_peaks ..

/-! ### The verdicts of both Peaks on one slot (R69) -/

/-- The Peak whose signature check fails. -/
def badOf (badA badB : Bool) : PeakId → Bool
  | .a => badA
  | .b => badB

/-- Each Peak's result shows. -/
def errsShown (n : Nat) (e : PeakId → Nat) (s : State) : State := (s.setFld .a (errFld n) (e .a)).setFld .b (errFld n) (e .b)

/-- A Peak takes a slot that both accepted. -/
def acceptBoth (n : Nat) (img : List Byte) (s0 : State) (p : PeakId) (s : State) : State := bootAccept p n img (if n = 1 then errPeer s0 p 1 s else s)

theorem slotImage_of {n : Nat} (hn : n < 2) {img : List Byte} (h : (if n = 0 then s.power.slot0 else s.power.slot1) = some img) : slotImage s n = some img := by
  interval_cases n
  · exact h
  · exact h

/-- The verdicts of two Peaks that fetched slot n. -/
theorem verdicts_both (badA badB : Bool) {n : Nat} (hn : n < 2) {img : List Byte} (hat : s.power.boot.a = .fetch n ∧ s.power.boot.b = .fetch n)
    (himg : (if n = 0 then s.power.slot0 else s.power.slot1) = some img) :
    let e := fun p => slotCheck s img (badOf badA badB p)
    let s1 := errsShown n e s
    exec (.bootVerdictCompare badA badB) s = .next (
      if e .a = 0 ∧ e .b = 0 then acceptBoth n img s1 .b (acceptBoth n img s1 .a s1)
      else if n = 0 then fetchStart .b 1 (fetchStart .a 1 s1) else verdictRest [.a, .b] false e s1) := by
  intro e s1
  have hon : verdictsOn badA badB [.a, .b] s = verdictCompare [.a, .b] n (badOf badA badB) s := by
    unfold verdictsOn
    dsimp only [Two.get]
    rw [hat.1]
    rfl
  have h2 : n ≠ 2 := by omega
  rw [exec_bootVerdictCompare, execBootVerdictCompare, if_pos (hat.1.trans hat.2.symm), hon]
  unfold verdictCompare
  rw [slotImage_of hn himg]
  simp only [h2, if_false, List.all_cons, List.all_nil, Bool.and_true, Bool.and_eq_true, decide_eq_true_eq, decide_false]
  rfl

theorem errsShown_fld (n : Nat) {e : PeakId → Nat} (he : ∀ p, e p < 2 ^ 4) (q : PeakId) (s : State) : (errsShown n e s).fld q (errFld n) = e q := by
  obtain ⟨hle, h32, hw⟩ := errFld_range n
  have hsame : ∀ (p : PeakId) (u : State), (u.setFld p (errFld n) (e p)).fld p (errFld n) = e p := fun p u => by
    rw [State.fld_setFld u p _ hle h32, hw, Nat.mod_eq_of_lt (he p)]
  unfold errsShown
  cases q with
  | a =>
    rw [State.fld_setFld_ne _ _ (by rw [errFld_addr]; exact bootStatus_key (by decide))]
    exact hsame .a s
  | b => exact hsame .b _

/-- Another field stays. -/
theorem errsShown_fld_ne (n : Nat) (e : PeakId → Nat) (q : PeakId) {g : Fld} (h : g.addr ≠ Reg.bootStatus ∧ g.addr < 2 ^ 32 ∨
    g.addr = Reg.bootStatus ∧ ((errFld n).hi < g.lo ∨ g.hi < (errFld n).lo)) (s : State) : (errsShown n e s).fld q g = s.fld q g := by
  obtain ⟨hle, h32, -⟩ := errFld_range n
  have hkeep : ∀ (p : PeakId) (v : Nat) (u : State), (u.setFld p (errFld n) v).fld q g = u.fld q g := fun p v u => by
    rcases h with ⟨hne, hlt⟩ | ⟨ha, hd⟩
    · exact State.fld_setFld_ne u v (by rw [errFld_addr]; exact regKey_ne hne hlt (by decide))
    · by_cases hqp : q = p
      · subst hqp
        exact State.fld_setFld_apart u q v hle h32 (by rw [errFld_addr, ha]) hd
      · exact State.fld_setFld_ne u v (by rw [errFld_addr, ha]; exact bootStatus_key hqp)
  unfold errsShown
  rw [hkeep, hkeep]

theorem errsShown_power (n : Nat) (e : PeakId → Nat) (s : State) : (errsShown n e s).power = s.power := by simp [errsShown]
theorem errsShown_peaks (n : Nat) (e : PeakId → Nat) (s : State) : (errsShown n e s).peaks = s.peaks := by simp [errsShown]

end Sys2Proof.Machine
end

section
/-! CERTIFICATE. Boot images (R68 to R70, R72, R80, R441): the outcomes of the verdicts on a slot, and a word of a Col image. -/

namespace Sys2Proof.Machine

variable {s t u : State} {p q : PeakId}

/-! ### Both Peaks accept (R69) -/

theorem badOf_none (p : PeakId) : badOf false false p = false := by cases p <;> rfl

theorem acceptBoth_shows (n : Nat) (img : List Byte) (s0 : State) (p : PeakId) (s : State) : let t := acceptBoth n img s0 p s
    t.power.boot.get p = .ready n ∧ t.fld p Fd.bootStatusSlot = n % 4 ∧ t.fld p Fd.bootStatusSvn = imgWord img 8 % 128 ∧
    t.power.imageHash.get p = Config.sha256 (imgWhole img) ∧ t.peaks = s.peaks := by
  intro t
  obtain ⟨hslot, hsvn, -⟩ := bootAccept_shows p n img (if n = 1 then errPeer s0 p 1 s else s)
  refine ⟨?_, hslot, hsvn, ?_, (bootAccept_peaks ..).trans ?_⟩
  · exact (congrArg (fun w : Power => w.boot.get p) (bootAccept_power ..)).trans ((Two.get_set ..).trans (if_pos rfl))
  · exact (congrArg (fun w : Power => w.imageHash.get p) (bootAccept_power ..)).trans ((Two.get_set ..).trans (if_pos rfl))
  · split
    · exact (errPeer_same ..).2
    · rfl

theorem acceptBoth_kept (hqp : q ≠ p) (n : Nat) (img : List Byte) (s0 s : State) : BootKept q s (acceptBoth n img s0 p s) := by
  unfold acceptBoth
  split
  · exact (errPeer_kept hqp s0 1 s).trans (bootAccept_kept hqp ..)
  · exact bootAccept_kept hqp ..

theorem verdictAccepted_completes {n : Nat} (hn : n < 2) {img : List Byte} (hat : s.power.boot.a = .fetch n ∧ s.power.boot.b = .fetch n)
    (himg : (if n = 0 then s.power.slot0 else s.power.slot1) = some img) (hok : slotCheck s img false = 0) :
    Completes (.bootVerdictCompare false false) s (fun t => ∀ q,
      t.power.boot.get q = .ready n ∧ t.fld q Fd.bootStatusSlot = n ∧ t.fld q Fd.bootStatusSvn = imgWord img 8 % 128 ∧
      t.power.imageHash.get q = Config.sha256 (imgWhole img) ∧ t.peak q = s.peak q) := by
  have hall : ∀ p, slotCheck s img (badOf false false p) = 0 := fun p => (congrArg (slotCheck s img) (badOf_none p)).trans hok
  have he := verdicts_both false false hn hat himg
  dsimp only at he
  rw [if_pos ⟨hall .a, hall .b⟩] at he
  generalize hs1 : errsShown n (fun p => slotCheck s img (badOf false false p)) s = s1 at he
  have hmod : n % 4 = n := Nat.mod_eq_of_lt (by omega)
  have hpeaks : s1.peaks = s.peaks := hs1 ▸ errsShown_peaks ..
  obtain ⟨hbootA, hslotA, hsvnA, hhashA, hpeaksA⟩ := acceptBoth_shows n img s1 .a s1
  obtain ⟨hbootB, hslotB, hsvnB, hhashB, hpeaksB⟩ := acceptBoth_shows n img s1 .b (acceptBoth n img s1 .a s1)
  have hkept : BootKept .a (acceptBoth n img s1 .a s1) (acceptBoth n img s1 .b (acceptBoth n img s1 .a s1)) := acceptBoth_kept (by decide) n img s1 _
  have hpeak : ∀ q, (acceptBoth n img s1 .b (acceptBoth n img s1 .a s1)).peak q = s.peak q := fun q => by
    unfold State.peak
    rw [hpeaksB, hpeaksA, hpeaks]
  refine ⟨_, he, fun q => ?_⟩
  cases q with
  | a => exact ⟨hkept.boot.trans hbootA, (hkept.fld rfl).trans (hslotA.trans hmod), (hkept.fld rfl).trans hsvnA, hkept.hash.trans hhashA, hpeak .a⟩
  | b => exact ⟨hbootB, hslotB.trans hmod, hsvnB, hhashB, hpeak .b⟩

/-! ### Slot 0 is rejected (R69) -/

theorem fetchStart_slot (p : PeakId) (s : State) : (fetchStart p 1 s).regs = s.regs ∧ (fetchStart p 1 s).peaks = s.peaks := ⟨rfl, rfl⟩

theorem verdictNext_completes {img : List Byte} (hat : s.power.boot.a = .fetch 0 ∧ s.power.boot.b = .fetch 0) (himg : s.power.slot0 = some img)
    (hbad : slotCheck s img false ≠ 0) : Completes (.bootVerdictCompare false false) s (fun t => ∀ q,
      t.power.boot.get q = .fetch 1 ∧ t.fld q Fd.bootStatusErr0 = slotCheck s img false ∧ t.peak q = s.peak q) := by
  have hsame : ∀ p, slotCheck s img (badOf false false p) = slotCheck s img false := fun p => congrArg (slotCheck s img) (badOf_none p)
  have he := verdicts_both false false (n := 0) (by decide) hat himg
  dsimp only at he
  rw [if_neg fun hc => hbad ((hsame .a).symm.trans hc.1), if_pos rfl] at he
  refine ⟨_, he, fun q => ⟨?_, ?_, ?_⟩⟩
  · rw [fetchStart_boot, fetchStart_boot, Two.get_set, Two.get_set]
    cases q <;> rfl
  · refine (State.fld_of_regs ((fetchStart_slot ..).1.trans (fetchStart_slot ..).1) ..).trans ?_
    exact (errsShown_fld 0 (fun p => slotCheck_lt s img (badOf false false p)) q s).trans (hsame q)
  · unfold State.peak
    rw [(fetchStart_slot ..).2, (fetchStart_slot ..).2, errsShown_peaks]

/-! ### No slot is accepted (R69, R72, R83) -/

theorem State.gwFld_setGwFld {f : Fld} (v : Nat) (h : f.lo ≤ f.hi) (h32 : f.hi < 32) : (s.setGwFld f v).gwFld f = v % 2 ^ (f.hi + 1 - f.lo) := by
  unfold State.gwFld State.setGwFld
  rw [State.regW_setRegW, if_pos rfl, BitVec.toNat_ofNat, Nat.mod_eq_of_lt (putBits_lt _ _ h h32 (BitVec.isLt _)), bits_putBits_same _ _ h]

theorem State.gwFld_setRegW_ne {k : Nat} {g : Fld} (v : Word) (h : gwKey g.addr ≠ k) : (s.setRegW k v).gwFld g = s.gwFld g := by
  unfold State.gwFld
  rw [State.regW_setRegW, if_neg h]

/-- A register of the Gendarme's own window is none of a Peak's. -/
theorem State.fld_setRegW_gw (q : PeakId) {f : Fld} (hf : f.addr < 2 ^ 32) (a : Nat) (v : Word) (s : State) : (s.setRegW (gwKey a) v).fld q f = s.fld q f := by
  have hbank := regBank_lt q f.addr
  have hkey : regKey q f.addr ≠ gwKey a := by unfold regKey gwKey; omega
  unfold State.fld State.reg
  rw [State.regW_setRegW, if_neg hkey]

/-- The boot controllers wait: STATUS.BOOT and the count of words. -/
def colCleared (s : State) : State :=
  let s := (s.setGwFld Fd.colGwStatusBoot 1).setRegW (gwKey Reg.colGwBootCount) 0
  { s with power := { s.power with colBytes := [] } }

theorem colWait_eq (s : State) : colWait s = (colCleared s).setGwFld Fd.colGwIntPendBootWait 1 := rfl

theorem colCleared_regs (s : State) : (colCleared s).regs = ((s.setGwFld Fd.colGwStatusBoot 1).setRegW (gwKey Reg.colGwBootCount) 0).regs :=
  State.regs_withPower ..

/-- The wait for the host shows, and the Gendarme's own registers alone change. -/
theorem colWait_shows (s : State) : (colWait s).gwFld Fd.colGwStatusBoot = 1 ∧ ∀ (q : PeakId) (f : Fld), f.addr < 2 ^ 32 → (colWait s).fld q f = s.fld q f := by
  rw [colWait_eq]
  refine ⟨?_, fun q f hf => ?_⟩
  · refine (State.gwFld_setRegW_ne (k := gwKey Reg.colGwIntPend) (g := Fd.colGwStatusBoot) _ (by decide)).trans ?_
    unfold State.gwFld State.regW
    rw [colCleared_regs]
    refine (State.gwFld_setRegW_ne (k := gwKey Reg.colGwBootCount) (g := Fd.colGwStatusBoot) _ (by decide)).trans ?_
    exact State.gwFld_setGwFld (f := Fd.colGwStatusBoot) 1 (by decide) (by decide)
  · refine (State.fld_setRegW_gw q hf _ _ _).trans ((State.fld_of_regs (colCleared_regs s) q f).trans ?_)
    exact (State.fld_setRegW_gw q hf _ _ _).trans (State.fld_setRegW_gw q hf _ _ _)

theorem fetchCol_shows (p : PeakId) (s : State) : (fetchStart p 2 s).gwFld Fd.colGwStatusBoot = 1 ∧ (fetchStart p 2 s).safe = s.safe :=
  ⟨(colWait_shows _).1, congrArg (fun n => decide (n = 1)) ((colWait_shows (setBoot p (.fetch 2) s)).2 .a Fd.gdmStatusSafe (by decide))⟩

/-- The results of slot 1, and those of slot 0 before them. -/
theorem slotOne_errs {img : List Byte} (badA badB : Bool) (s : State) : let e := fun p => slotCheck s img (badOf badA badB p)
    ∀ q, (errsShown 1 e s).fld q Fd.bootStatusErr1 = e q ∧ (errsShown 1 e s).fld q Fd.bootStatusErr0 = s.fld q Fd.bootStatusErr0 := by
  intro e q
  exact ⟨errsShown_fld 1 (fun p => slotCheck_lt s img (badOf badA badB p)) q s, errsShown_fld_ne 1 e q (Or.inr ⟨rfl, Or.inr (by decide)⟩) s⟩

/-- Do both Peaks show that neither slot has the magic number? -/
def bothMagic (s : State) : Bool :=
  [PeakId.a, PeakId.b].all (fun p => decide (s.fld p Fd.bootStatusErr0 = 1) && decide (s.fld p Fd.bootStatusErr1 = 1))

theorem verdictRest_wait {err : PeakId → Nat} (hm : bothMagic s = true) (hl : s.fld .a Fd.lcsStateState ≤ 1) :
    verdictRest [.a, .b] false err s = fetchStart .b 2 (fetchStart .a 2 s) := by
  unfold verdictRest
  exact if_pos (by rw [Bool.and_eq_true, Bool.and_eq_true]; exact ⟨⟨rfl, hm⟩, decide_eq_true hl⟩)

/-- The first Peak that accepted a slot. -/
def acceptedBy (s : State) : Option PeakId := [PeakId.a, PeakId.b].find? (fun p => (lowestOk s p 1).isSome)

theorem verdictRest_else {err : PeakId → Nat} (hm : bothMagic s = false ∨ ¬s.fld .a Fd.lcsStateState ≤ 1) : verdictRest [.a, .b] false err s =
    match acceptedBy s with
    | some p =>
      let t := peakReset p.other (errPeer s p 1 s)
      match slotImage t ((lowestOk s p 1).getD 0) with
      | some img => bootAccept p ((lowestOk s p 1).getD 0) img t
      | none => t
    | none => safeEnter 0xB .a (peakReset .b (peakReset .a s)) := by
  unfold verdictRest
  refine if_neg fun hc => ?_
  rw [Bool.and_eq_true, Bool.and_eq_true, decide_eq_true_eq] at hc
  rcases hm with hm | hm
  · have hboth : bothMagic s = true := hc.1.2
    rw [hm] at hboth
    cases hboth
  · exact hm hc.2

theorem lowestOk_none (h0 : s.fld p Fd.bootStatusErr0 ≠ 0) (h1 : s.fld p Fd.bootStatusErr1 ≠ 0) : lowestOk s p 1 = none := by
  refine List.find?_eq_none.mpr fun k hk => ?_
  rw [decide_eq_true_eq]
  obtain rfl | rfl : k = 0 ∨ k = 1 := by have := List.mem_range.mp hk; omega
  · exact h0
  · exact h1

theorem lowestOk_one (h0 : s.fld p Fd.bootStatusErr0 ≠ 0) (h1 : s.fld p Fd.bootStatusErr1 = 0) : lowestOk s p 1 = some 1 := by
  have he0 : s.fld p (errFld 0) ≠ 0 := h0
  have he1 : s.fld p (errFld 1) = 0 := h1
  unfold lowestOk
  simp [List.range_succ, he0, he1]

theorem lcsState_errs (n : Nat) (e : PeakId → Nat) (s : State) : (errsShown n e s).fld .a Fd.lcsStateState = s.fld .a Fd.lcsStateState :=
  errsShown_fld_ne n e .a (Or.inl ⟨by decide, by decide⟩) s

theorem safe_errs (n : Nat) (e : PeakId → Nat) (s : State) : (errsShown n e s).safe = s.safe :=
  congrArg (fun n => decide (n = 1)) (errsShown_fld_ne n e .a (g := Fd.gdmStatusSafe) (Or.inl ⟨by decide, by decide⟩) s)

section
variable {img : List Byte} (hat : s.power.boot.a = .fetch 1 ∧ s.power.boot.b = .fetch 1) (himg : s.power.slot1 = some img)
include hat himg

theorem exec_verdictRest (badA badB : Bool) (h : ¬(slotCheck s img (badOf badA badB .a) = 0 ∧ slotCheck s img (badOf badA badB .b) = 0)) :
    let e := fun p => slotCheck s img (badOf badA badB p)
    exec (.bootVerdictCompare badA badB) s = .next (verdictRest [.a, .b] false e (errsShown 1 e s)) := by
  have he := verdicts_both badA badB (n := 1) (by decide) hat himg
  dsimp only at he ⊢
  rw [he, if_neg h, if_neg (by decide)]

theorem verdictWait_completes (h0 : ∀ q, s.fld q Fd.bootStatusErr0 = 1) (h1 : slotCheck s img false = 1) (hl : s.fld .a Fd.lcsStateState ≤ 1)
    (hsafe : s.safe = false) : Completes (.bootVerdictCompare false false) s (fun t => (∀ q, t.power.boot.get q = .fetch 2) ∧
      t.gwFld Fd.colGwStatusBoot = 1 ∧ t.safe = false) := by
  have hsame : ∀ p, slotCheck s img (badOf false false p) = 1 := fun p => (congrArg (slotCheck s img) (badOf_none p)).trans h1
  have he := exec_verdictRest hat himg false false fun hc => absurd ((hsame .a).symm.trans hc.1) one_ne_zero
  dsimp only at he
  have hmagic : bothMagic (errsShown 1 (fun p => slotCheck s img (badOf false false p)) s) = true := by
    refine List.all_eq_true.mpr fun q _ => ?_
    obtain ⟨herr1, herr0⟩ := slotOne_errs (img := img) false false s q
    rw [herr0, herr1.trans (hsame q), h0 q]
    rfl
  rw [verdictRest_wait hmagic (by rw [lcsState_errs]; exact hl)] at he
  refine ⟨_, he, fun q => ?_, (fetchCol_shows ..).1, ?_⟩
  · rw [fetchStart_boot, fetchStart_boot, Two.get_set, Two.get_set]
    cases q <;> rfl
  · rw [(fetchCol_shows ..).2, (fetchCol_shows ..).2, safe_errs, hsafe]

theorem verdictNone_completes (h0 : ∀ q, s.fld q Fd.bootStatusErr0 ≠ 0) (h1 : slotCheck s img false ≠ 0)
    (hl : 2 ≤ s.fld .a Fd.lcsStateState ∨ slotCheck s img false ≠ 1) (hsafe : s.safe = false) :
    Completes (.bootVerdictCompare false false) s (fun t => t.safe = true ∧ ∀ q, (t.peak q).up = false ∧ t.role q = 3) := by
  have hsame : ∀ p, slotCheck s img (badOf false false p) = slotCheck s img false := fun p => congrArg (slotCheck s img) (badOf_none p)
  have he := exec_verdictRest hat himg false false fun hc => h1 ((hsame .a).symm.trans hc.1)
  dsimp only at he
  generalize hs1 : errsShown 1 (fun p => slotCheck s img (badOf false false p)) s = s1 at he
  have herrs : ∀ q, s1.fld q Fd.bootStatusErr1 = slotCheck s img false ∧ s1.fld q Fd.bootStatusErr0 = s.fld q Fd.bootStatusErr0 := fun q => by
    obtain ⟨herr1, herr0⟩ := slotOne_errs (img := img) false false s q
    rw [← hs1]
    exact ⟨herr1.trans (hsame q), herr0⟩
  have hmagic : bothMagic s1 = false ∨ ¬s1.fld .a Fd.lcsStateState ≤ 1 := by
    rcases hl with hl | hl
    · right
      rw [← hs1, lcsState_errs]
      omega
    · left
      refine Bool.eq_false_iff.mpr fun hc => hl ?_
      have hmember := List.all_eq_true.mp hc .a (by simp)
      rw [Bool.and_eq_true, decide_eq_true_eq, decide_eq_true_eq, (herrs .a).1] at hmember
      exact hmember.2
  have hnone : ∀ q, lowestOk s1 q 1 = none := fun q => lowestOk_none (by rw [(herrs q).2]; exact h0 q) (by rw [(herrs q).1]; exact h1)
  have hnobody : acceptedBy s1 = none := List.find?_eq_none.mpr fun q _ => by rw [hnone q]; decide
  rw [verdictRest_else hmagic, hnobody] at he
  have hreset : (peakReset .b (peakReset .a s1)).safe = false := by
    rw [(peakReset_safeKept .b (peakReset_safeKept .a (SafeKept.refl s1))).safe, ← hs1, safe_errs, hsafe]
  exact ⟨_, he, (safeEnter_enters ..).1, safeEnter_holds _ _ hreset⟩

end

/-! ### One Peak accepts (R69) -/

/-- A register of a Peak's own stays where the other Peak is reset, and one that outlives the reset stays in either. -/
theorem peakReset_reg_kept (p q : PeakId) (s : State) {a : Nat} (ha : a < 2 ^ 32) (hb : regBank q a ≠ p.num ∨ outlivesPeak a = true)
    (hown : a ≠ Reg.gdmPeakReport p.num ∧ a ≠ Reg.gdmPeakView p.num) : (peakReset p s).reg q a = s.reg q a := by
  have hnum : p.num < 2 := by cases p <;> decide
  have hreport : Reg.gdmPeakReport p.num < 2 ^ 32 := by simp only [Reg.gdmPeakReport]; omega
  have hview : Reg.gdmPeakView p.num < 2 ^ 32 := by simp only [Reg.gdmPeakView]; omega
  have hkept : (decide (regKey q a / 2 ^ 32 ≠ p.num) || outlivesPeak (regKey q a % 2 ^ 32)) = true := by
    rw [regKey_div q ha, regKey_mod q ha, Bool.or_eq_true, decide_eq_true_eq]
    exact hb
  unfold peakReset
  rw [State.reg_setReg_ne _ _ (regKey_ne hown.2 ha hview), State.reg_setReg_ne _ _ (regKey_ne hown.1 ha hreport)]
  unfold State.reg State.regW peakForget
  congr 1
  refine (Tab.get_filter regDefault _ (fun k => decide (k / 2 ^ 32 ≠ p.num) || outlivesPeak (k % 2 ^ 32)) (regKey q a)).trans ?_
  rw [if_pos hkept]
  rfl

theorem peakReset_status (p : PeakId) (s : State) : (peakReset p.other s).reg p Reg.bootStatus = s.reg p Reg.bootStatus := by
  cases p <;> exact peakReset_reg_kept _ _ s (by decide) (Or.inl (by decide)) (by decide)

/-- The other Peak's rejection of slot 1 alone is marked. -/
theorem errPeer_one (h0 : s.fld p Fd.bootStatusErr0 ≠ 0) (h1 : s.fld p Fd.bootStatusErr1 = 0) (hother : s.fld p.other Fd.bootStatusErr1 ≠ 0) :
    errPeer s p 1 s = s.setFld p Fd.bootStatusErr1 8 := by
  have hzero : ¬(s.fld p (errFld 0) = 0 ∧ s.fld p.other (errFld 0) ≠ 0) := fun hc => h0 hc.1
  have hone : s.fld p (errFld 1) = 0 ∧ s.fld p.other (errFld 1) ≠ 0 := ⟨h1, hother⟩
  have hlist : List.range (1 + 1) = [0, 1] := rfl
  unfold errPeer forAll
  rw [hlist, List.foldl_cons, List.foldl_cons, List.foldl_nil]
  dsimp only
  rw [if_neg hzero, if_pos hone]
  rfl

/-- Peak p alone runs the slot. -/
theorem verdictAlone_shows {img : List Byte} (himg : s.power.slot1 = some img) (p : PeakId) :
    let t := bootAccept p 1 img (peakReset p.other (s.setFld p Fd.bootStatusErr1 8))
    t.power.boot.get p = .ready 1 ∧ t.fld p Fd.bootStatusErr1 = 8 ∧ (t.peak p.other).up = false ∧ t.peak p = s.peak p ∧
    slotImage (peakReset p.other (s.setFld p Fd.bootStatusErr1 8)) 1 = some img := by
  intro t
  have hpeaks : t.peaks = s.peaks.set p.other {} := (bootAccept_peaks ..).trans ((peakReset_peaks ..).trans (by rw [State.setFld_peaks]))
  refine ⟨?_, ?_, ?_, ?_, ?_⟩
  · exact (congrArg (fun w : Power => w.boot.get p) (bootAccept_power ..)).trans ((Two.get_set ..).trans (if_pos rfl))
  · refine (bootAccept_shows p 1 img _).2.2.trans ?_
    have hkeep : (peakReset p.other (s.setFld p Fd.bootStatusErr1 8)).fld p Fd.bootStatusErr1 = (s.setFld p Fd.bootStatusErr1 8).fld p Fd.bootStatusErr1 := by
      unfold State.fld
      exact congrArg (bits · 11 8) (peakReset_status p _)
    exact hkeep.trans (State.fld_setFld s p (f := Fd.bootStatusErr1) 8 (by decide) (by decide))
  · unfold State.peak
    rw [hpeaks, Two.get_set, if_pos rfl]
  · unfold State.peak
    rw [hpeaks, Two.get_set, if_neg (PeakId.other_ne p).symm]
  · change (peakReset p.other (s.setFld p Fd.bootStatusErr1 8)).power.slot1 = some img
    rw [peakReset_power, State.setFld_power]
    exact himg

theorem verdictAlone_completes {img : List Byte} (hat : s.power.boot.a = .fetch 1 ∧ s.power.boot.b = .fetch 1) (himg : s.power.slot1 = some img)
    (hgood : slotCheck s img false = 0) (hbad : slotCheck s img true ≠ 0) (h0 : s.fld p Fd.bootStatusErr0 ≠ 0)
    (hfirst : p = .b → s.fld .a Fd.bootStatusErr0 ≠ 0) : Completes (.bootVerdictCompare (p == .b) (p == .a)) s (fun t =>
      t.power.boot.get p = .ready 1 ∧ t.fld p Fd.bootStatusErr1 = 8 ∧ (t.peak p.other).up = false ∧ t.peak p = s.peak p) := by
  have hown : badOf (p == .b) (p == .a) p = false := by cases p <;> rfl
  have hpeer : badOf (p == .b) (p == .a) p.other = true := by cases p <;> rfl
  have hnotBoth : ¬(slotCheck s img (badOf (p == .b) (p == .a) .a) = 0 ∧ slotCheck s img (badOf (p == .b) (p == .a) .b) = 0) := by
    cases p with
    | a => exact fun hc => hbad hc.2
    | b => exact fun hc => hbad hc.1
  have he := exec_verdictRest hat himg _ _ hnotBoth
  dsimp only at he
  have herrs := slotOne_errs (img := img) (p == .b) (p == .a) s
  generalize hs1 : errsShown 1 (fun q => slotCheck s img (badOf (p == .b) (p == .a) q)) s = s1 at he
  have hp1 : s1.fld p Fd.bootStatusErr1 = 0 := hs1 ▸ (herrs p).1.trans ((congrArg (slotCheck s img) hown).trans hgood)
  have hq1 : s1.fld p.other Fd.bootStatusErr1 ≠ 0 := fun hc =>
    hbad ((congrArg (slotCheck s img) hpeer).symm.trans ((herrs p.other).1.symm.trans (hs1 ▸ hc)))
  have hp0 : s1.fld p Fd.bootStatusErr0 ≠ 0 := by rw [← hs1, (herrs p).2]; exact h0
  have hlow := lowestOk_one hp0 hp1
  have haccepted : acceptedBy s1 = some p := by
    unfold acceptedBy
    cases p with
    | a => rw [List.find?_cons_of_pos (by rw [hlow]; rfl)]
    | b =>
      have ha0 : s1.fld .a Fd.bootStatusErr0 ≠ 0 := by rw [← hs1, (herrs .a).2]; exact hfirst rfl
      rw [List.find?_cons_of_neg (by rw [lowestOk_none ha0 hq1]; decide), List.find?_cons_of_pos (by rw [hlow]; rfl)]
  have hmagic : bothMagic s1 = false := Bool.eq_false_iff.mpr fun hc => by
    have hmember := List.all_eq_true.mp hc p (by cases p <;> simp)
    rw [Bool.and_eq_true, decide_eq_true_eq, decide_eq_true_eq, hp1] at hmember
    exact absurd hmember.2 (by decide)
  have himg1 : s1.power.slot1 = some img := by rw [← hs1, errsShown_power, himg]
  obtain ⟨hboot, herr, hdown, hpeak, hslot⟩ := verdictAlone_shows himg1 p
  rw [verdictRest_else (Or.inl hmagic), haccepted] at he
  dsimp only at he
  rw [errPeer_one hp0 hp1 hq1, hlow, Option.getD_some, hslot] at he
  refine ⟨_, he, hboot, herr, hdown, hpeak.trans ?_⟩
  unfold State.peak
  rw [← hs1, errsShown_peaks]

/-! ### A word of a Col image (R441) -/

/-- The word is appended to the image. -/
def colAppended (val : Word) (s : State) : State :=
  { s with power := { s.power with colBytes := (wordBytes val.toNat).reverse ++ s.power.colBytes } }

theorem bootData_appends (val : Word) (h : s.gwFld Fd.colGwStatusBoot = 1 ∨ s.gwFld Fd.colGwStatusBoot = 2) : ∃ v, bootData val s =
    ((colAppended val s).setRegW (gwKey Reg.colGwBootCount)
      (BitVec.ofNat 32 ((colAppended val s).power.colBytes.length % 2 ^ 23))).setGwFld Fd.colGwStatusBoot v :=
  ⟨_, if_pos h⟩

theorem bootData_completes (val : Word) (hk : kernelRuns s = true) (hl : s.fld .a Fd.lcsStateState ≠ 3)
    (h : s.gwFld Fd.colGwStatusBoot = 1 ∨ s.gwFld Fd.colGwStatusBoot = 2) : Completes (.bootDataWord val) s (fun t =>
      t.power.colBytes = (wordBytes val.toNat).reverse ++ s.power.colBytes ∧
      t.regW (gwKey Reg.colGwBootCount) = BitVec.ofNat 32 ((s.power.colBytes.length + 4) % 2 ^ 23) ∧ t.mem = s.mem) := by
  have he : exec (.bootDataWord val) s = .next (bootData val s) := by
    rw [exec_bootDataWord, execBootDataWord, if_pos (by rw [hk, Bool.true_and, decide_eq_true_eq]; exact hl)]
  have hlen : (colAppended val s).power.colBytes.length = s.power.colBytes.length + 4 := by
    refine (List.length_append ..).trans ?_
    rw [List.length_reverse, Nat.add_comm]
    rfl
  obtain ⟨v, happ⟩ := bootData_appends val h
  rw [happ, hlen] at he
  refine ⟨_, he, ?_, ?_, ?_⟩
  · rw [State.setGwFld_power, State.setRegW_power]
    rfl
  · unfold State.setGwFld
    rw [State.regW_setRegW, if_neg (by decide), State.regW_setRegW, if_pos rfl]
  · rw [State.setGwFld_mem, State.setRegW_mem]
    rfl

/-- Settles O44: the memory phase, the fetch, each outcome of the verdicts and a word of a Col image, one lemma apiece. -/
theorem bootImages : Obligations.BootImages := by
  unfold Obligations.BootImages
  intro p slot img val s at_ have_
  refine ⟨memoryPhase_completes p s, slotFetch_completes p slot img s, fun hat himg hok => verdictAccepted_completes slot.isLt hat himg hok,
    fun hat himg hbad => verdictNext_completes hat himg hbad, fun hat himg hbad h0 hsafe => ⟨fun hmagic hone hl => ?_, fun hl => ?_⟩,
    fun hat himg hgood hbad h0 hfirst => verdictAlone_completes hat himg hgood hbad h0 hfirst, fun hk hl h => bootData_completes val hk hl h⟩
  · exact verdictWait_completes hat himg hmagic hone hl hsafe
  · exact verdictNone_completes hat himg h0 hbad hl hsafe

end Sys2Proof.Machine
end

section
/-! SUPPORT. What the outcomes of the self-tests leave alone: the registers of BST and BOOT, the roles and the mark of the safe state (R80 to R82). -/

namespace Sys2Proof.Machine

variable {M : Nat → Nat} {s t : State}

/-! ### The registers that stay -/

/-- Every bit of BST and BOOT, and bits 5 and 3 to 0 of GDM.STATUS. -/
def unitsKept (a : Nat) : Nat := if a / 0x10000 = 0x4013 ∨ a / 0x10000 = 0x4017 then 0xFFFFFFFF else if a = Reg.gdmStatus then 0x2F else 0

/-- From `s` to `t` none of them changed. -/
abbrev UnitsKept (s t : State) : Prop := RegFrame (allBut unitsKept) s t

/-- An address of none of their blocks. -/
abbrev UnitsApart (a : Nat) : Prop := a < 2 ^ 32 ∧ a / 0x10000 ≠ 0x4011 ∧ a / 0x10000 ≠ 0x4013 ∧ a / 0x10000 ≠ 0x4017

theorem unitsKept_apart {a : Nat} (h : UnitsApart a) : unitsKept a = 0 := by
  obtain ⟨-, hgdm, hbst, hboot⟩ := h
  have hne : a ≠ Reg.gdmStatus := fun he => hgdm (by rw [he]; rfl)
  unfold unitsKept
  rw [if_neg (not_or.mpr ⟨hbst, hboot⟩), if_neg hne]

theorem UnitsKept.setReg (h : UnitsKept s t) (p : PeakId) {a : Nat} (v : Nat) (ha : UnitsApart a) : UnitsKept s (t.setReg p a v) :=
  h.setRegFree p v ha.1 (unitsKept_apart ha)

theorem UnitsKept.setFld (h : UnitsKept s t) (p : PeakId) (f : Fld) (v : Nat) (ha : UnitsApart f.addr) : UnitsKept s (t.setFld p f v) :=
  UnitsKept.setReg h p _ ha

theorem UnitsKept.setBit (h : UnitsKept s t) (p : PeakId) (f : Fld) (v : Bool) (ha : UnitsApart f.addr) : UnitsKept s (t.setBit p f v) :=
  UnitsKept.setFld h p f _ ha

theorem UnitsKept.setBoth (h : UnitsKept s t) (f : Fld) (v : Nat) (ha : UnitsApart f.addr) : UnitsKept s (t.setBoth f v) :=
  UnitsKept.setFld (UnitsKept.setFld h .a f v ha) .b f v ha

theorem UnitsKept.bump (h : UnitsKept s t) (p : PeakId) (c f : Fld) (hc : UnitsApart c.addr) (hf : UnitsApart f.addr) : UnitsKept s (t.bump p c f) := by
  unfold State.bump
  split
  · exact UnitsKept.setFld h p f _ hf
  · exact UnitsKept.setFld h p c _ hc

theorem UnitsKept.reg (h : UnitsKept s t) (p : PeakId) {a : Nat} (ha : a < 2 ^ 32) (hb : a / 0x10000 = 0x4013 ∨ a / 0x10000 = 0x4017) :
    t.reg p a = s.reg p a := RegFrame.reg h p ha (by unfold allBut unitsKept; rw [if_pos hb]; rfl)

theorem UnitsKept.fld (h : UnitsKept s t) (p : PeakId) {f : Fld} (ha : f.addr < 2 ^ 32) (hb : f.addr / 0x10000 = 0x4013 ∨ f.addr / 0x10000 = 0x4017) :
    t.fld p f = s.fld p f := by
  unfold State.fld
  rw [UnitsKept.reg h p ha hb]

theorem UnitsKept.bit (h : UnitsKept s t) (p : PeakId) {f : Fld} (ha : f.addr < 2 ^ 32) (hb : f.addr / 0x10000 = 0x4013 ∨ f.addr / 0x10000 = 0x4017) :
    t.bit p f = s.bit p f := by
  unfold State.bit
  rw [UnitsKept.fld h p ha hb]

theorem UnitsKept.role (h : UnitsKept s t) (p : PeakId) : t.role p = s.role p := role_of_frame h (by decide) p

theorem UnitsKept.safe (h : UnitsKept s t) : t.safe = s.safe := RegFrame.bit h .a (f := Fd.gdmStatusSafe) (le_lit rfl) (by decide)

/-! ### The masks of the blocks that move -/

/-- A register of BST or BOOT is none of another block. -/
theorem ne_of_units {a r : Nat} (h : a / 0x10000 = 0x4013 ∨ a / 0x10000 = 0x4017) (hr : r / 0x10000 ≠ 0x4013 ∧ r / 0x10000 ≠ 0x4017) : a ≠ r := by
  rintro rfl
  exact h.elim hr.1 hr.2

theorem eventMask_units {a : Nat} (h : a / 0x10000 = 0x4013 ∨ a / 0x10000 = 0x4017) : eventMask a = 0 := by
  have htrv : ¬(a = Reg.trvStatus ∨ a = Reg.trvMonCycle ∨ a = Reg.trvEvWatchCnt) :=
    not_or.mpr ⟨ne_of_units h (by decide), not_or.mpr ⟨ne_of_units h (by decide), ne_of_units h (by decide)⟩⟩
  unfold eventMask
  rw [if_neg htrv, if_neg (ne_of_units h (by decide)), if_neg (ne_of_units h (by decide)), if_neg (ne_of_units h (by decide)), if_neg (by omega),
    if_neg (by omega), if_neg (by omega), if_neg (by omega)]

theorem pairMask_units {a : Nat} (h : a / 0x10000 = 0x4013 ∨ a / 0x10000 = 0x4017) : pairMask a = 0 := by
  unfold pairMask
  rw [if_neg (ne_of_units h (by decide)), if_neg (ne_of_units h (by decide)), if_neg (ne_of_units h (by decide)), if_neg (by omega)]

theorem legMask_units {a : Nat} (h : a / 0x10000 = 0x4013 ∨ a / 0x10000 = 0x4017) : legMask a = 0 := by
  unfold legMask
  rw [if_neg (ne_of_units h (by decide)), if_neg (ne_of_units h (by decide)), if_neg (by omega), if_neg (by omega)]

theorem onlyRegs_units {own : List (Nat × Nat)} (hown : ∀ e ∈ own, e.1 / 0x10000 ≠ 0x4013 ∧ e.1 / 0x10000 ≠ 0x4017) {a : Nat}
    (h : a / 0x10000 = 0x4013 ∨ a / 0x10000 = 0x4017) : onlyRegs own a = 0 := by
  have hnone : own.find? (fun e => e.1 == a) = none := List.find?_eq_none.mpr fun e he => by
    obtain ⟨hbst, hboot⟩ := hown e he
    rw [beq_iff_eq]
    rintro rfl
    exact h.elim hbst hboot
  unfold onlyRegs
  rw [hnone]
  rfl

theorem switchesAnd_units {own : List (Nat × Nat)} (hown : ∀ e ∈ own, e.1 / 0x10000 ≠ 0x4013 ∧ e.1 / 0x10000 ≠ 0x4017) {a : Nat}
    (h : a / 0x10000 = 0x4013 ∨ a / 0x10000 = 0x4017) : switchesAnd own a = 0 := by
  unfold switchesAnd
  rw [eventMask_units h, pairMask_units h, legMask_units h, onlyRegs_units hown h]
  rfl

theorem kernelMask_units {a : Nat} (h : a / 0x10000 = 0x4013 ∨ a / 0x10000 = 0x4017) : kernelMask a = 0 := by
  unfold kernelMask
  rw [if_neg (by omega), if_neg (ne_of_units h (by decide)), if_neg (ne_of_units h (by decide))]
  exact switchesAnd_units (by decide) h

/-- A frame that leaves both blocks and those bits of GDM.STATUS. -/
theorem RegFrame.units (h : RegFrame M s t) (hz : ∀ a, a / 0x10000 = 0x4013 ∨ a / 0x10000 = 0x4017 → M a = 0) (hg : 0x2F &&& M Reg.gdmStatus = 0) :
    UnitsKept s t := h.allBut fun a => by
  unfold unitsKept
  by_cases hb : a / 0x10000 = 0x4013 ∨ a / 0x10000 = 0x4017
  · rw [hz a hb, Nat.and_zero]
  · rw [if_neg hb]
    by_cases ha : a = Reg.gdmStatus
    · rw [if_pos ha, ha, hg]
    · rw [if_neg ha, Nat.zero_and]

theorem fireBoth_units (ev : Nat) (h : UnitsKept s t) : UnitsKept s (fireBoth ev t) :=
  h.trans ((fireBoth_frame ev (RegFrame.refl eventMask t)).units (fun _ => eventMask_units) (by decide))

theorem pairsDecide_units (h : UnitsKept s t) : UnitsKept s (pairsDecide t) :=
  h.trans ((pairsDecide_frame (RegFrame.refl pairMask t)).units (fun _ => pairMask_units) (by decide))

theorem legDisable_units {n : Nat} (hn : n < 6) (h : UnitsKept s t) : UnitsKept s (legDisable n t) :=
  h.trans ((legDisable_frame hn (RegFrame.refl legMask t)).units (fun _ => legMask_units) (by decide))

theorem safChanged_units (c i e : Nat) (h : UnitsKept s t) : UnitsKept s (safChanged c i e t) :=
  h.trans ((safChanged_frame c i e (RegFrame.refl kernelMask t)).units (fun _ => kernelMask_units) (by decide))

theorem cairnValid_units (h : UnitsKept s t) : UnitsKept s (cairnValid t) :=
  h.trans (cairnValid_frame.units (fun a ha => by
    unfold eventsAnd
    rw [eventMask_units ha, onlyRegs_units (by decide) ha]
    rfl) (by decide))

theorem tripInput_units (on : Bool) (h : UnitsKept s t) : UnitsKept s (tripInput 9 on t) :=
  h.trans ((tripInput_frame on (by decide)).units (fun _ => switchesAnd_units (by decide)) (by decide))

/-! ### The reliefs of the Cirque (R181, R188) -/

theorem cirqRefresh_units (h : UnitsKept s t) : UnitsKept s (cirqRefresh t) :=
  UnitsKept.setBit (UnitsKept.setBit (UnitsKept.setBit h .a Fd.cirqStatusReturn _ (by decide)) .a Fd.cirqStatusNoReliefAny _ (by decide))
    .a Fd.cirqStatusCalLateAny _ (by decide)

theorem rotor_apart (d : PeakId) {b : Nat} (hb : b < 6) : UnitsApart (rotState d b).addr ∧ UnitsApart (rotRelief d b).addr := by
  cases d <;>
    simp only [rotState, rotRelief, Fd.cirqBankRotAState, Fd.cirqBankRotBState, Fd.cirqBankRotARelief, Fd.cirqBankRotBRelief, Reg.cirqBankRotA,
      Reg.cirqBankRotB, UnitsApart] <;> omega

theorem noRelief_units (d : PeakId) {b : Nat} (hb : b < 6) (h : UnitsKept s t) : UnitsKept s (noRelief d b t) := by
  obtain ⟨hstate, hrelief⟩ := rotor_apart d hb
  have hlost := UnitsKept.setFld h .a Fd.cirqFlagsReliefLost 1 (by decide)
  have hshown := UnitsKept.setFld (UnitsKept.setFld hlost .a (rotState d b) rotNoRelief hstate) .a (rotRelief d b) 0xF hrelief
  unfold noRelief
  exact cirqRefresh_units (RegFrame.of_regs hshown rfl)

/-! ### Sensors (R423, R424) -/

theorem floorMark_units (h : UnitsKept s t) : UnitsKept s (floorMark t) := by
  unfold floorMark
  dsimp only
  refine UnitsKept.setBit ?_ _ _ _ (by decide)
  split
  · exact UnitsKept.setBoth h _ _ (by decide)
  · exact h

theorem fallStep_units (h : UnitsKept s t) : UnitsKept s (fallStep t) := by
  unfold fallStep
  refine floorMark_units ?_
  split
  · exact UnitsKept.bump (UnitsKept.setFld h .a Fd.thmStatusScale _ (by decide)) .a _ _ (by decide) (by decide)
  · exact h

theorem thmRefresh_units (h : UnitsKept s t) : UnitsKept s (thmRefresh t) := by
  have hany : ∀ (w f x y : Bool), UnitsKept s ((((t.setBit .a Fd.thmStatusWarnAny w).setBit .a Fd.thmStatusFaultAny f).setBit .a Fd.thmStatusShutAny x).setBit .a
      Fd.thmStatusThrAny y) := fun w f x y =>
    UnitsKept.setBit (UnitsKept.setBit (UnitsKept.setBit (UnitsKept.setBit h .a _ w (by decide)) .a _ f (by decide)) .a _ x (by decide)) .a _ y (by decide)
  unfold thmRefresh
  dsimp only
  refine tripInput_units _ (floorMark_units ?_)
  split
  · exact fallStep_units (UnitsKept.setFld (hany _ _ _ _) .a Fd.thmStatusRecovering 0 (by decide))
  · split
    · exact UnitsKept.setBit (hany _ _ _ _) .a Fd.thmStatusRecovering _ (by decide)
    · exact hany _ _ _ _

theorem sensTemp_apart {n : Nat} (hn : n < 12) : UnitsApart (Reg.thmSensTemp n) := by
  simp only [Reg.thmSensTemp, UnitsApart]
  omega

theorem setStates_units {n : Nat} (hn : n < 12) (l : List Bool) (h : UnitsKept s t) : UnitsKept s (setStates n l t) := by
  refine RegFrame.forAll _ _ h fun e he v hv => UnitsKept.setBit hv .a e.1 _ ?_
  have hmem : e.1 ∈ sensorState n := (List.of_mem_zip he).1
  simp only [sensorState, List.mem_cons, List.not_mem_nil, or_false] at hmem
  rcases hmem with hf | hf | hf <;> rw [hf] <;> exact sensTemp_apart hn

theorem sensorFault_units {n : Nat} (hn : n < 12) (h : UnitsKept s t) : UnitsKept s (sensorFault n t) := by
  have hruns : UnitsKept s { t with saddle := { t.saddle with goodRuns := Tab.put (fun _ => 0) t.saddle.goodRuns n 0 } } := RegFrame.of_regs h rfl
  have hreading := UnitsKept.setFld hruns .a (Fd.thmSensTempReading n) 0x8000 (sensTemp_apart hn)
  have hvalid := UnitsKept.setFld hreading .a (Fd.thmSensTempValid n) 0 (sensTemp_apart hn)
  exact setStates_units hn _ (UnitsKept.setFld hvalid .a (Fd.thmSensTempFault n) 1 (sensTemp_apart hn))

theorem sensorChange_units (n : Nat) (s0 : State) (h : UnitsKept s t) : UnitsKept s (sensorChange n s0 t) := by
  have hflag : ∀ (c : Bool) (f : Fld) (u : State), UnitsApart f.addr → UnitsKept s u → UnitsKept s (if c then u.setBoth f 1 else u) := by
    intro c f u hf hu
    split
    · exact UnitsKept.setBoth hu f 1 hf
    · exact hu
  have hflags : ∀ w x y z : Bool, UnitsKept s _ := fun w x y z =>
    hflag w Fd.thmFlagsSensFault _ (by decide) (hflag x Fd.thmFlagsShutdown _ (by decide) (hflag y Fd.thmFlagsThrottle _ (by decide)
      (hflag z Fd.thmFlagsWarn _ (by decide) h)))
  unfold sensorChange
  dsimp only
  refine thmRefresh_units ?_
  split
  · exact fireBoth_units _ (hflags _ _ _ _)
  · exact hflags _ _ _ _

theorem sensorRetire_units {n : Nat} (hn : n < 12) (h : UnitsKept s t) : UnitsKept s (sensorRetire n t) := by
  unfold sensorRetire
  split
  · exact h
  · exact sensorChange_units n t (sensorFault_units hn (UnitsKept.setFld h .a (Fd.thmSensTempRetired n) 1 (sensTemp_apart hn)))

/-! ### Retirement (R81) -/

/-- A loop that retires units, one by one. -/
theorem UnitsKept.retire {n : Nat} {c : State → Nat → Bool} {f : Nat → State → State} (h : UnitsKept s t)
    (hf : ∀ i < n, ∀ v, UnitsKept s v → UnitsKept s (f i v)) : UnitsKept s (forAll (List.range n) (fun i v => if c v i then f i v else v) t) :=
  RegFrame.forAll _ _ h fun i hi v hv => by
    split
    · exact hf i (List.mem_range.mp hi) v hv
    · exact hv

/-- A bank whose rotor lost its relief by a retirement. -/
def bankRetire (p : PeakId) (b : Nat) (s : State) : State :=
  let gone := fun (d : PeakId) => s.retired p 4 (match d with | .a => 16 + b | .b => 24 + b) || s.retired p 5 b
  let s := if gone .a && decide (s.fld .a (rotState .a b) ≠ rotNoRelief) then noRelief .a b s else s
  if gone .b && decide (s.fld .a (rotState .b b) ≠ rotNoRelief) then noRelief .b b s else s

theorem bankRetire_units (p : PeakId) {b : Nat} (hb : b < 6) (h : UnitsKept s t) : UnitsKept s (bankRetire p b t) := by
  have hone : ∀ (d : PeakId) (c : Bool) (u : State), UnitsKept s u → UnitsKept s (if c then noRelief d b u else u) := by
    intro d c u hu
    split
    · exact noRelief_units d hb hu
    · exact hu
  exact hone .b _ _ (hone .a _ _ h)

/-- Inputs and reliefs, then timebases, legs and position channels, then sensors, Cairn and pairs. -/
def cirqRetire (p : PeakId) (s : State) : State :=
  forAll (List.range 6) (bankRetire p) (forAll (List.range 48) (fun i s => if s.inputRetired p i then s.setFld .a (Fd.cirqInStatusRetired i) 1 else s) s)

def saddleRetire (p : PeakId) (s : State) : State :=
  let s := forAll (List.range 8) (fun t s => if s.retired p 5 (6 + t) then s.setFld .a (Fd.pwmTbStatusRetired t) 1 else s) s
  let s := forAll (List.range 6) (fun n s => if s.retired p 5 (14 + n) then legDisable n (s.setFld .a (Fd.spurLegStatusRetired n) 1) else s) s
  forAll (List.range 2) (fun k s => if s.retired p 5 (20 + k) then s.setFld .a (Fd.pifChStatusRetired k) 1 else s) s

def otherRetire (p : PeakId) (s : State) : State :=
  let s := forAll (List.range 4) (fun n s => if s.retired p 5 (22 + n) then sensorRetire (8 + n) s else s) s
  let s := if s.retired p 5 26 then cairnValid (s.setFld .a Fd.crnStatusRetired 1) else s
  let s := forAll (List.range 32) (fun q s => if s.retired p 6 q then s.setFld .a (Fd.pwmPairStatusRetired q) 1 else s) s
  pairsDecide s

theorem retireShared_eq (p : PeakId) (s : State) : retireShared p s = otherRetire p (saddleRetire p (cirqRetire p s)) := rfl

theorem cirqRetire_units (p : PeakId) (h : UnitsKept s t) : UnitsKept s (cirqRetire p t) := by
  refine RegFrame.forAll _ _ (UnitsKept.retire h fun i hi v hv => ?_) fun b hb v hv => bankRetire_units p (List.mem_range.mp hb) hv
  refine UnitsKept.setFld hv .a _ 1 ?_
  simp only [Fd.cirqInStatusRetired, Reg.cirqInStatus, UnitsApart]
  omega

theorem saddleRetire_units (p : PeakId) (h : UnitsKept s t) : UnitsKept s (saddleRetire p t) := by
  refine UnitsKept.retire (UnitsKept.retire (UnitsKept.retire h fun i hi v hv => ?_) fun n hn v hv => legDisable_units hn ?_) fun k hk v hv => ?_
  · refine UnitsKept.setFld hv .a _ 1 ?_
    simp only [Fd.pwmTbStatusRetired, Reg.pwmTbStatus, UnitsApart]
    omega
  · refine UnitsKept.setFld hv .a _ 1 ?_
    simp only [Fd.spurLegStatusRetired, Reg.spurLegStatus, UnitsApart]
    omega
  · refine UnitsKept.setFld hv .a _ 1 ?_
    simp only [Fd.pifChStatusRetired, Reg.pifChStatus, UnitsApart]
    omega

theorem otherRetire_units (p : PeakId) (h : UnitsKept s t) : UnitsKept s (otherRetire p t) := by
  have hsensors := UnitsKept.retire (c := fun v n => v.retired p 5 (22 + n)) (f := fun n => sensorRetire (8 + n)) (n := 4) h
    fun n hn v hv => sensorRetire_units (by omega) hv
  unfold otherRetire
  dsimp only
  refine pairsDecide_units (UnitsKept.retire ?_ fun q hq v hv => ?_)
  · split
    · exact cairnValid_units (UnitsKept.setFld hsensors .a Fd.crnStatusRetired 1 (by decide))
    · exact hsensors
  · refine UnitsKept.setFld hv .a _ 1 ?_
    simp only [Fd.pwmPairStatusRetired, Reg.pwmPairStatus, UnitsApart]
    omega

theorem retireShared_units (p : PeakId) (h : UnitsKept s t) : UnitsKept s (retireShared p t) := by
  rw [retireShared_eq]
  exact otherRetire_units p (saddleRetire_units p (cirqRetire_units p h))

theorem retirePeak_units (p : PeakId) (h : UnitsKept s t) : UnitsKept s (retirePeak p t) := by
  unfold retirePeak
  dsimp only
  refine UnitsKept.setFld (UnitsKept.retire h fun c hc v hv => UnitsKept.setFld hv p _ 2 ?_) p _ _ (by decide)
  simp only [Fd.sysCoreStatusState, Reg.sysCoreStatus, UnitsApart]
  omega

end Sys2Proof.Machine
end

section
/-! SUPPORT and CERTIFICATE. The results of the self-tests as BST keeps them (R80 to R82), and tests on demand (R86). -/

namespace Sys2Proof.Machine

variable {s t u : State} {p q : PeakId}

/-! ### The registers of BST -/

/-- An address of the block. -/
abbrev InBst (a : Nat) : Prop := a / 0x10000 = 0x4013

theorem InBst.lt {a : Nat} (h : InBst a) : a < 2 ^ 32 := by omega

theorem bstKey (p : PeakId) {a : Nat} (h : InBst a) : regKey p a = p.num * 2 ^ 32 + a := by
  unfold regKey regBank
  rw [h]
  rfl

theorem bstKey_ne {a b : Nat} (ha : InBst a) (hb : InBst b) (h : q ≠ p ∨ b ≠ a) : regKey q b ≠ regKey p a := by
  have halt := ha.lt
  have hblt := hb.lt
  have hnum : q ≠ p → q.num ≠ p.num := by cases p <;> cases q <;> decide
  rw [bstKey q hb, bstKey p ha]
  rcases h with h | h
  · have := hnum h
    omega
  · omega

theorem reg_setReg_bst {a b : Nat} (ha : InBst a) (hb : InBst b) (h : q ≠ p ∨ b ≠ a) (v : Nat) (s : State) : (s.setReg p a v).reg q b = s.reg q b :=
  State.reg_setReg_ne s v (bstKey_ne ha hb h)

theorem bstPass_in {w : Nat} (h : w < 8) : InBst (Reg.bstPass w) := by simp only [InBst, Reg.bstPass]; omega
theorem bstDone_in {w : Nat} (h : w < 8) : InBst (Reg.bstDone w) := by simp only [InBst, Reg.bstDone]; omega
theorem bstLocal_in {w : Nat} (h : w < 8) : InBst (Reg.bstLocal w) := by simp only [InBst, Reg.bstLocal]; omega

/-- No register of one set of results is one of another set, or of another word. -/
theorem bstResults_ne {v w : Nat} (hv : v < 8) (hw : w < 8) : Reg.bstPass v ≠ Reg.bstDone w ∧ Reg.bstPass v ≠ Reg.bstLocal w ∧ Reg.bstDone v ≠ Reg.bstLocal w ∧
    (v ≠ w → Reg.bstPass v ≠ Reg.bstPass w ∧ Reg.bstDone v ≠ Reg.bstDone w ∧ Reg.bstLocal v ≠ Reg.bstLocal w) := by
  simp only [Reg.bstPass, Reg.bstDone, Reg.bstLocal]
  omega

/-! ### Results that enter (R82, R83) -/

theorem testBit_lacking (x y : Nat) {i : Nat} (hi : i < 32) : (lacking x y).testBit i = (x.testBit i && !y.testBit i) := by
  unfold lacking
  rw [Nat.testBit_and, Nat.testBit_xor, testBit_all hi, Bool.true_xor]

theorem lacking_le (x y : Nat) : lacking x y ≤ x := Nat.and_le_left

/-- The units of which a failure stays. -/
def passKeep (w m : Nat) : Nat := if w = 5 then m &&& (0xFFFFFFFF - 0x78000000) else if w = 7 then 0 else m

/-- PASS after results for the units `m`. -/
def passAfter (w m pass done old : Nat) : Nat := lacking old m ||| lacking (m &&& pass) (lacking (done &&& passKeep w m) old)

theorem passIn_eq (p : PeakId) (w m pass : Nat) (s : State) : passIn p w m pass s =
    let t := s.setReg p (Reg.bstPass w) (passAfter w m pass (s.reg p (Reg.bstDone w)) (s.reg p (Reg.bstPass w)))
    t.setReg p (Reg.bstDone w) (t.reg p (Reg.bstDone w) ||| m) := rfl

/-- What results for a word leave: the other Peak's registers, and every register but PASS and DONE of the word. -/
theorem passIn_reg_ne {w b : Nat} (hw : w < 8) (hb : InBst b) (h : q ≠ p ∨ b ≠ Reg.bstPass w ∧ b ≠ Reg.bstDone w) (m pass : Nat) (s : State) :
    (passIn p w m pass s).reg q b = s.reg q b := by
  rw [passIn_eq]
  dsimp only
  rw [reg_setReg_bst (bstDone_in hw) hb (h.imp_right And.right), reg_setReg_bst (bstPass_in hw) hb (h.imp_right And.left)]

theorem passIn_done {w m : Nat} (hw : w < 8) (hm : m < 2 ^ 32) (p : PeakId) (pass : Nat) (s : State) :
    (passIn p w m pass s).reg p (Reg.bstDone w) = s.reg p (Reg.bstDone w) ||| m := by
  have hne := (bstResults_ne hw hw).1
  rw [passIn_eq]
  dsimp only
  rw [State.reg_setReg, reg_setReg_bst (bstPass_in hw) (bstDone_in hw) (Or.inr hne.symm), Nat.mod_eq_of_lt (Nat.or_lt_two_pow (State.reg_lt ..) hm)]

theorem passIn_pass {w m : Nat} (hw : w < 8) (hm : m < 2 ^ 32) (p : PeakId) (pass : Nat) (s : State) :
    (passIn p w m pass s).reg p (Reg.bstPass w) = passAfter w m pass (s.reg p (Reg.bstDone w)) (s.reg p (Reg.bstPass w)) := by
  have hne := (bstResults_ne hw hw).1
  have hlt : passAfter w m pass (s.reg p (Reg.bstDone w)) (s.reg p (Reg.bstPass w)) < 2 ^ 32 :=
    Nat.or_lt_two_pow (lt_of_le_of_lt (lacking_le ..) (State.reg_lt ..)) (lt_of_le_of_lt (lacking_le ..) (lt_of_le_of_lt Nat.and_le_left hm))
  rw [passIn_eq]
  dsimp only
  rw [reg_setReg_bst (bstDone_in hw) (bstPass_in hw) (Or.inr hne), State.reg_setReg, Nat.mod_eq_of_lt hlt]

/-- A unit is retired where it was tested and did not pass. -/
theorem State.retired_eq (s : State) (p : PeakId) (w b : Nat) :
    s.retired p w b = ((s.reg p (Reg.bstDone w)).testBit b && !(s.reg p (Reg.bstPass w)).testBit b) := by
  unfold State.retired
  rw [Bool.eq_iff_iff, Bool.and_eq_true, Bool.and_eq_true, decide_eq_true_eq, decide_eq_true_eq, bits_one_iff, bits_zero_iff, Bool.not_eq_true']

theorem State.retired_of_reg {w : Nat} (hd : t.reg p (Reg.bstDone w) = s.reg p (Reg.bstDone w)) (hp : t.reg p (Reg.bstPass w) = s.reg p (Reg.bstPass w)) (b : Nat) :
    t.retired p w b = s.retired p w b := by
  rw [State.retired_eq, State.retired_eq, hd, hp]

/-- A tested unit whose failures do not stay is retired by its last result alone. -/
theorem passIn_retired {w m b : Nat} (hw : w < 8) (hm : m < 2 ^ 32) (hb : b < 32) (hkeep : (passKeep w m).testBit b = false) (p : PeakId) (pass : Nat) (s : State) :
    (passIn p w m pass s).retired p w b = if m.testBit b then !pass.testBit b else s.retired p w b := by
  rw [State.retired_eq, passIn_done hw hm, passIn_pass hw hm, passAfter, Nat.testBit_or, Nat.testBit_or, testBit_lacking _ _ hb, testBit_lacking _ _ hb,
    testBit_lacking _ _ hb, Nat.testBit_and, Nat.testBit_and, hkeep, State.retired_eq]
  cases m.testBit b <;> simp

theorem passIn_retired_ne {v w : Nat} (hv : v < 8) (hw : w < 8) (h : q ≠ p ∨ v ≠ w) (m pass : Nat) (s : State) (b : Nat) :
    (passIn p w m pass s).retired q v b = s.retired q v b := by
  obtain ⟨hpd, -, -, -⟩ := bstResults_ne hv hw
  obtain ⟨hdp, -, -, -⟩ := bstResults_ne hw hv
  have hsame : v ≠ w → Reg.bstPass v ≠ Reg.bstPass w ∧ Reg.bstDone v ≠ Reg.bstDone w := fun hne =>
    ⟨((bstResults_ne hv hw).2.2.2 hne).1, ((bstResults_ne hv hw).2.2.2 hne).2.1⟩
  refine State.retired_of_reg ?_ ?_ b
  · exact passIn_reg_ne hw (bstDone_in hv) (h.imp_right fun hne => ⟨hdp.symm, (hsame hne).2⟩) m pass s
  · exact passIn_reg_ne hw (bstPass_in hv) (h.imp_right fun hne => ⟨(hsame hne).1, hpd⟩) m pass s

theorem UnitsKept.retired (h : UnitsKept s t) (p : PeakId) {w : Nat} (hw : w < 8) (b : Nat) : t.retired p w b = s.retired p w b :=
  State.retired_of_reg (UnitsKept.reg h p (bstDone_in hw).lt (Or.inl (bstDone_in hw))) (UnitsKept.reg h p (bstPass_in hw).lt (Or.inl (bstPass_in hw))) b

/-- The device-safe units: those of word 5 and those of word 7. -/
theorem safeUnitsFail_false_iff (s : State) (p : PeakId) : safeUnitsFail s p = false ↔
    (∀ b ∈ [27, 28, 29, 30], s.retired p 5 b = false) ∧ ∀ b ∈ [0, 1], s.retired p 7 b = false := by
  unfold safeUnitsFail
  rw [Bool.or_eq_false_iff, List.any_eq_false, List.any_eq_false]
  simp only [Bool.not_eq_true]

theorem UnitsKept.safeUnits (h : UnitsKept s t) (p : PeakId) : safeUnitsFail t p = safeUnitsFail s p := by
  unfold safeUnitsFail
  simp only [UnitsKept.retired h p (w := 5) (by decide), UnitsKept.retired h p (w := 7) (by decide)]

theorem passIn_roles (p : PeakId) {w : Nat} (hw : w < 8) (m pass : Nat) (s : State) : RegFrame (allBut rolesSafe) s (passIn p w m pass s) := by
  have hpass := bstPass_in hw
  have hdone := bstDone_in hw
  have hne : ∀ {a : Nat}, InBst a → a ≠ Reg.gdmStatus := fun {a} ha he => by
    rw [he] at ha
    exact absurd ha (by decide)
  exact ((RegFrame.refl _ s).setRegFree p _ hpass.lt (oneReg_ne (hne hpass))).setRegFree p _ hdone.lt (oneReg_ne (hne hdone))

/-! ### A test on demand is asked for (R86) -/

/-- The run is in progress. -/
def bistBegun (p : PeakId) (w mask : Nat) (s : State) : State :=
  let s := (s.setFld p Fd.bstCtrlStart 1).setFld p Fd.bstStatusBusy 1
  { s with power := { s.power with bist := s.power.bist.set p (some (w, mask)) } }

theorem bistBegun_power (p : PeakId) (w mask : Nat) (s : State) : (bistBegun p w mask s).power = { s.power with bist := s.power.bist.set p (some (w, mask)) } := by
  simp [bistBegun]

theorem bistBegun_rest (p : PeakId) (w mask : Nat) (s : State) (r : Tab Word) (x : Power) :
    { bistBegun p w mask s with regs := r, power := x } = { s with regs := r, power := x } := by
  simp [bistBegun]

theorem bistBegun_bits (p : PeakId) (w mask : Nat) (s : State) : (bistBegun p w mask s).bit p Fd.bstStatusBusy = true ∧
    (bistBegun p w mask s).bit p Fd.bstCtrlStart = true := by
  have hregs : (bistBegun p w mask s).regs = ((s.setFld p Fd.bstCtrlStart 1).setFld p Fd.bstStatusBusy 1).regs := State.regs_withPower ..
  rw [State.bit_of_regs hregs, State.bit_of_regs hregs]
  refine ⟨State.bit_raise _ p (f := Fd.bstStatusBusy) rfl (by decide), ?_⟩
  refine (State.bit_setFld_ne _ (f := Fd.bstStatusBusy) (g := Fd.bstCtrlStart) 1 (bstKey_ne (by decide) (by decide) (Or.inr (by decide)))).trans ?_
  exact State.bit_raise _ p (f := Fd.bstCtrlStart) rfl (by decide)

/-- A write of CTRL with START. -/
theorem bistWrite_start (m : Master) {v : Nat} (hv : v % 2 = 1) (s : State) :
    let w := bits v 10 8
    let s1 := s.setFld m.peak Fd.bstCtrlWord w
    let mask := s.reg m.peak Reg.bstMask &&& testable s w
    bistWrite m v s = if bistRefusal m w mask s1 ≠ 0 then s1.setFld m.peak Fd.bstStatusRefuse (bistRefusal m w mask s1) else bistBegun m.peak w mask s1 := by
  intro w s1 mask
  have hreg : s1.reg m.peak Reg.bstMask = s.reg m.peak Reg.bstMask := State.reg_setFld_ne s _ (bstKey_ne (by decide) (by decide) (Or.inr (by decide)))
  have htest : testable s1 w = testable s w := by
    unfold testable
    rw [State.setFld_power]
  have hmask : s1.reg m.peak Reg.bstMask &&& testable s1 w = mask := by rw [hreg, htest]
  have hstart : bistWrite m v s = if bistRefusal m w (s1.reg m.peak Reg.bstMask &&& testable s1 w) s1 ≠ 0 then
      s1.setFld m.peak Fd.bstStatusRefuse (bistRefusal m w (s1.reg m.peak Reg.bstMask &&& testable s1 w) s1)
      else bistBegun m.peak w (s1.reg m.peak Reg.bstMask &&& testable s1 w) s1 := if_neg (by omega)
  rw [hstart, hmask]

theorem bistStart_completes (m : Master) (val : Word) (s : State) (hup : (s.peak m.peak).up = true) (hv : val.toNat % 2 = 1) :
    let w := bits val.toNat 10 8
    let s1 := s.setFld m.peak Fd.bstCtrlWord w
    let mask := s.reg m.peak Reg.bstMask &&& testable s w
    let c := bistRefusal m w mask s1
    (c ≠ 0 → Completes (.bistStart m val) s (fun t => t = s1.setFld m.peak Fd.bstStatusRefuse c)) ∧
    (c = 0 → Completes (.bistStart m val) s (fun t => t.power.bist.get m.peak = some (w, mask) ∧ t.bit m.peak Fd.bstStatusBusy = true ∧
      t.bit m.peak Fd.bstCtrlStart = true ∧ t.power.bist.get m.peak.other = s.power.bist.get m.peak.other ∧ { t with regs := s.regs, power := s.power } = s)) := by
  intro w s1 mask c
  have he : exec (.bistStart m val) s = .next (bistWrite m val.toNat s) := by rw [exec_bistStart, execBistStart, if_pos hup]
  rw [bistWrite_start m hv] at he
  refine ⟨fun hc => ⟨_, he, if_pos hc⟩, fun hc => ?_⟩
  rw [if_neg (not_not.mpr hc)] at he
  have hpower : s1.power = s.power := State.setFld_power ..
  obtain ⟨hbusy, hstart⟩ := bistBegun_bits m.peak w mask s1
  have hbist := congrArg Power.bist (bistBegun_power m.peak w mask s1)
  refine ⟨_, he, ?_, hbusy, hstart, ?_, ?_⟩
  · exact (congrArg (fun b => b.get m.peak) hbist).trans ((Two.get_set ..).trans (if_pos rfl))
  · refine (congrArg (fun b => b.get m.peak.other) hbist).trans ((Two.get_set ..).trans ((if_neg (PeakId.other_ne _)).trans ?_))
    rw [hpower]
  · rw [bistBegun_rest]
    simp

/-! ### A test on demand is complete (R86) -/

/-- The run is over. -/
def bistOver (p : PeakId) (s : State) : State :=
  let s := { s with power := { s.power with bist := s.power.bist.set p none } }
  (s.setFld p Fd.bstCtrlStart 0).setFld p Fd.bstStatusBusy 0

/-- The Peak's own result of a word of its own, and what the marches leave. -/
def bistLocal (p : PeakId) (w mask pass : Nat) (s : State) : State :=
  if w < 3 then
    let s := s.setReg p (Reg.bstLocal w) (lacking (s.reg p (Reg.bstLocal w)) mask ||| (mask &&& pass))
    if w = 0 then bistClear p mask s else s
  else s

/-- The results enter in each Peak that runs. -/
def bistIn (w mask pass : Nat) (s : State) : State := bothPeaks (fun q s => if (s.peak q).up then passIn q w mask pass s else s) s

/-- The blocks show what is retired. -/
def bistRetire (p : PeakId) (s : State) : State := retireShared p (bothPeaks (fun q s => if (s.peak q).up then retirePeak q s else s) s)

/-- All of it, before a failure is acted on. -/
def bistResults (p : PeakId) (w mask pass : Nat) (s : State) : State := bistRetire p (bistIn w mask pass (bistLocal p w mask pass (bistOver p s)))

theorem bistDone_eq {w mask : Nat} (h : s.power.bist.get p = some (w, mask)) (pass : Nat) : bistDone p pass s =
    let t := bistResults p w mask pass s
    if w = 0 ∧ lacking (mask &&& holdMask) pass ≠ 0 then heldFail p t
    else if w = 5 ∧ safeUnitsFail t p then safeEnter 0xB .a { t with saf := { t.saf with unitsOk := false } } else t := by
  unfold bistDone
  rw [h]
  rfl

theorem bistRetire_units (p : PeakId) (h : UnitsKept s t) : UnitsKept s (bistRetire p t) := by
  have hone : ∀ (q : PeakId) (u : State), UnitsKept s u → UnitsKept s (if (u.peak q).up then retirePeak q u else u) := by
    intro q u hu
    split
    · exact retirePeak_units q hu
    · exact hu
  exact retireShared_units p (RegFrame.bothPeaks h hone)

/-- Neither power nor who runs moves once the run is over. -/
theorem bistResults_keeps (p : PeakId) (w mask pass : Nat) (s : State) : Upd 248523996475471 (bistOver p s) (bistResults p w mask pass s) := by
  have hlocal : Upd 248523996475471 (bistOver p s) (bistLocal p w mask pass (bistOver p s)) := by
    have hreg := State.setReg_upd (p := p) (a := Reg.bstLocal w) (v := lacking ((bistOver p s).reg p (Reg.bstLocal w)) mask ||| (mask &&& pass))
      (Upd.refl 248523996475471 (bistOver p s)) (by decide)
    exact Upd.ite (Upd.ite (bistClear_upd hreg (by decide)) hreg) (Upd.refl _ _)
  have hin : Upd 248523996475471 (bistOver p s) (bistIn w mask pass (bistLocal p w mask pass (bistOver p s))) :=
    Upd.bothPeaks hlocal fun q u hu => Upd.ite (passIn_upd hu (by decide)) hu
  exact retireShared_upd (Upd.bothPeaks hin fun q u hu => Upd.ite (retirePeak_upd hu (by decide)) hu) (by decide)

theorem bistOver_power (p : PeakId) (s : State) : (bistOver p s).power = { s.power with bist := s.power.bist.set p none } := by
  simp [bistOver]

theorem bistOver_up (p q : PeakId) (s : State) : ((bistOver p s).peak q).up = (s.peak q).up := by
  unfold bistOver
  rw [State.peak_setFld, State.peak_setFld]
  rfl

/-- START and BUSY are all that the end of the run shows. -/
theorem bistOver_reg {a : Nat} (ha : InBst a) (hne : a ≠ Reg.bstCtrl ∧ a ≠ Reg.bstStatus) (p : PeakId) (s : State) : (bistOver p s).reg p a = s.reg p a := by
  unfold bistOver
  dsimp only
  rw [State.reg_setFld_ne _ _ (bstKey_ne (a := Fd.bstStatusBusy.addr) (by decide) ha (Or.inr hne.2)),
    State.reg_setFld_ne _ _ (bstKey_ne (a := Fd.bstCtrlStart.addr) (by decide) ha (Or.inr hne.1))]
  rfl

theorem bistOver_bits (p : PeakId) (s : State) : (bistOver p s).bit p Fd.bstStatusBusy = false ∧ (bistOver p s).bit p Fd.bstCtrlStart = false := by
  unfold bistOver
  dsimp only
  refine ⟨State.bit_setFld _ p (f := Fd.bstStatusBusy) 0 (by decide) (by decide), ?_⟩
  refine (State.bit_setFld_ne _ (f := Fd.bstStatusBusy) (g := Fd.bstCtrlStart) 0 (bstKey_ne (by decide) (by decide) (Or.inr (by decide)))).trans ?_
  exact State.bit_setFld _ p (f := Fd.bstCtrlStart) 0 (by decide) (by decide)

theorem bistClear_regs (p : PeakId) (mask : Nat) (s : State) : (bistClear p mask s).regs = s.regs := (bistClear_upd (Upd.refl 2 s) (by decide)).regs (by decide)

theorem bistLocal_regs (p : PeakId) (w mask pass : Nat) (s : State) : (bistLocal p w mask pass s).regs =
    if w < 3 then (s.setReg p (Reg.bstLocal w) (lacking (s.reg p (Reg.bstLocal w)) mask ||| (mask &&& pass))).regs else s.regs := by
  unfold bistLocal
  split
  · dsimp only
    split
    · exact bistClear_regs ..
    · rfl
  · rfl

theorem bistLocal_reg {w a : Nat} (ha : InBst a) (hne : w < 3 → a ≠ Reg.bstLocal w) (p : PeakId) (mask pass : Nat) (s : State) :
    (bistLocal p w mask pass s).reg p a = s.reg p a := by
  have hregs := bistLocal_regs p w mask pass s
  by_cases hw : w < 3
  · rw [if_pos hw] at hregs
    exact (State.reg_of_regs hregs p a).trans (reg_setReg_bst (bstLocal_in (by omega)) ha (Or.inr (hne hw)) _ s)
  · rw [if_neg hw] at hregs
    exact State.reg_of_regs hregs p a

/-- In a Peak that runs the results of a word enter, whatever the other does. -/
theorem bistIn_own {w : Nat} (hw : w < 8) (mask pass : Nat) (hup : (s.peak p).up = true) : ∃ v, (∀ a, InBst a → v.reg p a = s.reg p a) ∧
    ∀ a, InBst a → (bistIn w mask pass s).reg p a = (passIn p w mask pass v).reg p a := by
  cases p with
  | a =>
    refine ⟨s, fun _ _ => rfl, fun a ha => ?_⟩
    unfold bistIn bothPeaks
    dsimp only
    rw [if_pos hup]
    split
    · exact passIn_reg_ne hw ha (Or.inl (by decide)) ..
    · rfl
  | b =>
    have hfirst : ∀ u : State, u = (if (s.peak .a).up then passIn .a w mask pass s else s) → (u.peak .b).up = true ∧ ∀ a, InBst a → u.reg .b a = s.reg .b a := by
      rintro u rfl
      split
      · exact ⟨(((passIn_upd (Upd.refl 1 s) (by decide)).peak .b).up (by decide)).trans hup, fun a ha => passIn_reg_ne hw ha (Or.inl (by decide)) ..⟩
      · exact ⟨hup, fun _ _ => rfl⟩
    obtain ⟨hupB, hregB⟩ := hfirst _ rfl
    refine ⟨_, hregB, fun a ha => ?_⟩
    unfold bistIn bothPeaks
    exact congrArg (fun u : State => u.reg .b a) (if_pos hupB)

/-- Of the Peak's registers in BST, those of the run alone change, and the results enter in them. -/
theorem bistResults_own {w : Nat} (hw : w < 8) (mask pass : Nat) (hup : (s.peak p).up = true) : ∃ v,
    (∀ a, InBst a → (w < 3 → a ≠ Reg.bstLocal w) → v.reg p a = (bistOver p s).reg p a) ∧
    ∀ a, InBst a → (bistResults p w mask pass s).reg p a = (passIn p w mask pass v).reg p a := by
  have hrun : ((bistLocal p w mask pass (bistOver p s)).peak p).up = true := by
    have hreg := State.setReg_upd (p := p) (a := Reg.bstLocal w) (v := lacking ((bistOver p s).reg p (Reg.bstLocal w)) mask ||| (mask &&& pass))
      (Upd.refl 3 (bistOver p s)) (by decide)
    have hkeep : Upd 3 (bistOver p s) (bistLocal p w mask pass (bistOver p s)) := Upd.ite (Upd.ite (bistClear_upd hreg (by decide)) hreg) (Upd.refl _ _)
    rw [(hkeep.peak p).up (by decide), bistOver_up, hup]
  obtain ⟨v, hv, hin⟩ := bistIn_own hw mask pass hrun
  refine ⟨v, fun a ha hne => (hv a ha).trans (bistLocal_reg ha hne ..), fun a ha => ?_⟩
  exact (UnitsKept.reg (bistRetire_units p (RegFrame.refl _ _)) p ha.lt (Or.inl ha)).trans (hin a ha)

theorem testBit_word {a i : Nat} (ha : a < 2 ^ 32) (hi : ¬i < 32) : a.testBit i = false :=
  Nat.testBit_lt_two_pow (lt_of_lt_of_le ha (Nat.pow_le_pow_right (by decide) (not_lt.mp hi)))

theorem lacking_of_sub {a pass : Nat} (ha : a < 2 ^ 32) (h : a &&& pass = a) (b : Nat) : lacking (a &&& b) pass = 0 := by
  refine Nat.eq_of_testBit_eq fun i => ?_
  have hi := congrArg (fun n => n.testBit i) h
  simp only [Nat.testBit_and] at hi
  by_cases h32 : i < 32
  · rw [testBit_lacking _ _ h32, Nat.testBit_and, Nat.zero_testBit]
    cases hx : a.testBit i <;> simp_all
  · unfold lacking
    rw [Nat.testBit_and, Nat.testBit_and, testBit_word ha h32, Nat.zero_testBit, Bool.false_and, Bool.false_and]

theorem passKeep_safe (m : Nat) {b : Nat} (hb : b ∈ [27, 28, 29, 30]) : (passKeep 5 m).testBit b = false := by
  have hmask : ∀ b ∈ [27, 28, 29, 30], (0xFFFFFFFF - 0x78000000 : Nat).testBit b = false := by decide
  unfold passKeep
  rw [if_pos rfl, Nat.testBit_and, hmask b hb, Bool.and_false]

/-- A run that passes leaves the device-safe units as they were. -/
theorem bistResults_safe {w mask pass : Nat} (hw : w < 8) (hm : mask < 2 ^ 32) (hup : (s.peak p).up = true) (hpass : mask &&& pass = mask)
    (hw5 : w = 5) (hsafe : safeUnitsFail s p = false) : safeUnitsFail (bistResults p w mask pass s) p = false := by
  obtain ⟨v, hv, hin⟩ := bistResults_own hw mask pass hup
  have hretired : ∀ x, x < 8 → ∀ b, (bistResults p w mask pass s).retired p x b = (passIn p w mask pass v).retired p x b := fun x hx b =>
    State.retired_of_reg (hin _ (bstDone_in hx)) (hin _ (bstPass_in hx)) b
  have hbefore : ∀ x, x < 8 → ∀ b, v.retired p x b = s.retired p x b := fun x hx b => by
    have hd := (hv _ (bstDone_in hx) fun h3 => by omega).trans (bistOver_reg (bstDone_in hx) (by simp only [Reg.bstDone, Reg.bstCtrl, Reg.bstStatus]; omega) p s)
    have hp := (hv _ (bstPass_in hx) fun h3 => by omega).trans (bistOver_reg (bstPass_in hx) (by simp only [Reg.bstPass, Reg.bstCtrl, Reg.bstStatus]; omega) p s)
    exact State.retired_of_reg hd hp b
  obtain ⟨h5, h7⟩ := (safeUnitsFail_false_iff s p).mp hsafe
  subst hw5
  refine (safeUnitsFail_false_iff _ p).mpr ⟨fun b hb => ?_, fun b hb => ?_⟩
  · have hb32 : b < 32 := by
      simp only [List.mem_cons, List.not_mem_nil, or_false] at hb
      omega
    rw [hretired 5 (by decide), passIn_retired (by decide) hm hb32 (passKeep_safe mask hb), hbefore 5 (by decide), h5 b hb]
    have hbit := congrArg (fun n => n.testBit b) hpass
    simp only [Nat.testBit_and] at hbit
    cases hmb : mask.testBit b <;> simp_all
  · rw [hretired 7 (by decide), passIn_retired_ne (by decide) (by decide) (Or.inr (by decide)), hbefore 7 (by decide), h7 b hb]

theorem bistPassed_completes {w mask : Nat} (pass : Word) (hw : w < 8) (hm : mask < 2 ^ 32) (hup : (s.peak p).up = true)
    (hb : s.power.bist.get p = some (w, mask)) (hpass : mask &&& pass.toNat = mask) (hsafe : w = 5 → safeUnitsFail s p = false) :
    Completes (.bistRunComplete p pass) s (fun t => t.power.bist.get p = none ∧ t.bit p Fd.bstStatusBusy = false ∧ t.bit p Fd.bstCtrlStart = false ∧
      t.reg p (Reg.bstDone w) = s.reg p (Reg.bstDone w) ||| mask ∧ (t.peak p).up = true) := by
  have he : exec (.bistRunComplete p pass) s = .next (bistResults p w mask pass.toNat s) := by
    rw [exec_bistRunComplete, execBistRunComplete, if_pos hup, bistDone_eq hb]
    dsimp only
    rw [if_neg fun hc => hc.2 (lacking_of_sub hm hpass _), if_neg]
    rintro ⟨h5, hfail⟩
    rw [bistResults_safe hw hm hup hpass h5 (hsafe h5)] at hfail
    cases hfail
  obtain ⟨v, hv, hin⟩ := bistResults_own hw mask pass.toNat hup
  have hkeeps := bistResults_keeps p w mask pass.toNat s
  have hbits : ∀ f : Fld, InBst f.addr → f.addr ≠ Reg.bstPass w ∧ f.addr ≠ Reg.bstDone w ∧ f.addr ≠ Reg.bstLocal w →
      (bistResults p w mask pass.toNat s).bit p f = (bistOver p s).bit p f := by
    intro f hf hne
    unfold State.bit State.fld
    rw [hin _ hf, passIn_reg_ne hw hf (Or.inr ⟨hne.1, hne.2.1⟩), hv _ hf fun _ => hne.2.2]
  obtain ⟨hbusy, hstart⟩ := bistOver_bits p s
  refine ⟨_, he, ?_, (hbits _ (by decide) ?_).trans hbusy, (hbits _ (by decide) ?_).trans hstart, ?_, ?_⟩
  · rw [hkeeps.power (by decide), bistOver_power]
    exact (Two.get_set ..).trans (if_pos rfl)
  · simp only [Fd.bstStatusBusy, Reg.bstStatus, Reg.bstPass, Reg.bstDone, Reg.bstLocal]
    omega
  · simp only [Fd.bstCtrlStart, Reg.bstCtrl, Reg.bstPass, Reg.bstDone, Reg.bstLocal]
    omega
  · rw [hin _ (bstDone_in hw), passIn_done hw hm, hv _ (bstDone_in hw) fun _ => (bstResults_ne hw hw).2.2.1]
    rw [bistOver_reg (bstDone_in hw) (by simp only [Reg.bstDone, Reg.bstCtrl, Reg.bstStatus]; omega)]
  · rw [(hkeeps.peak p).up (by decide), bistOver_up, hup]

/-! ### A failed unit that holds its Peak (R81, R86) -/

theorem rolesSafe_bst {a : Nat} (ha : InBst a) : rolesSafe a = 0 := oneReg_ne fun he => by
  rw [he] at ha
  exact absurd ha (by decide)

theorem bistResults_role (p : PeakId) (mask pass : Nat) (s : State) (q : PeakId) : (bistResults p 0 mask pass s).role q = s.role q := by
  have hover : RegFrame (allBut rolesSafe) s (bistOver p s) :=
    ((RegFrame.of_regs (RegFrame.refl _ s) (State.regs_withPower ..)).setFldFree p (f := Fd.bstCtrlStart) 0 (by decide) (rolesSafe_bst (by decide))).setFldFree p
      (f := Fd.bstStatusBusy) 0 (by decide) (rolesSafe_bst (by decide))
  have hlocal : RegFrame (allBut rolesSafe) s (bistLocal p 0 mask pass (bistOver p s)) :=
    RegFrame.of_regs (hover.setRegFree p _ (by decide) (rolesSafe_bst (by decide))) ((bistLocal_regs ..).trans (if_pos (by decide)))
  have hin : RegFrame (allBut rolesSafe) s (bistIn 0 mask pass (bistLocal p 0 mask pass (bistOver p s))) :=
    RegFrame.bothPeaks hlocal fun r u hu => by
      split
      · exact hu.trans (passIn_roles r (by decide) mask pass u)
      · exact hu
  exact (UnitsKept.role (bistRetire_units p (RegFrame.refl _ _)) q).trans (role_of_frame hin (by decide) q)

theorem failPeak_up (p : PeakId) (c a : Nat) (s : State) : ((failPeak p c a s).peak p).up = false := by
  unfold failPeak
  dsimp only
  generalize failRun p (copyAbort s) = u
  have hreset : ((peakReset p u).peak p).up = false := by
    unfold State.peak
    rw [peakReset_peaks, Two.get_set, if_pos rfl]
  generalize hv : ({ peakReset p u with gdm := _ } : State) = v
  have hdown : (v.peak p).up = false := by rw [← hv]; exact hreset
  have hshown : Upd 16777217 v ((setRole p 3 v).setFld .a Fd.gdmStatusSynced 0) := State.setFld_upd (setRole_upd (Upd.refl _ v) (by decide)) (by decide)
  have htold := holdRestart_upd (announce_upd (gdmLast_upd (cause := c) (p := p) (action := a) (hshown.mono (N := 248524004392973) (by decide)) (by decide))
    (by decide)) (by decide)
  rw [(htold.peak p).up (by decide), hdown]

theorem bistFailed_completes {mask : Nat} (pass : Word) (hup : (s.peak p).up = true) (hb : s.power.bist.get p = some (0, mask))
    (hfail : mask &&& holdMask &&& pass.toNat ≠ mask &&& holdMask) (hrole : s.role p ≠ 0) :
    Completes (.bistRunComplete p pass) s (fun t => (t.peak p).up = false) := by
  have hlack : lacking (mask &&& holdMask) pass.toNat ≠ 0 := fun hc => hfail (by
    refine Nat.eq_of_testBit_eq fun i => ?_
    have hi := congrArg (fun n => n.testBit i) hc
    by_cases h32 : i < 32
    · simp only [testBit_lacking _ _ h32, Nat.zero_testBit] at hi
      rw [Nat.testBit_and]
      cases hx : (mask &&& holdMask).testBit i <;> simp_all
    · rw [Nat.testBit_and, Nat.testBit_and, testBit_word (a := holdMask) (by decide) h32, Bool.and_false, Bool.false_and])
  have he : exec (.bistRunComplete p pass) s = .next (failPeak p 0xB 1 (bistResults p 0 mask pass.toNat s)) := by
    rw [exec_bistRunComplete, execBistRunComplete, if_pos hup, bistDone_eq hb]
    dsimp only
    rw [if_pos ⟨rfl, hlack⟩, heldFail, if_pos (by rw [bistResults_role]; exact hrole)]
  exact ⟨_, he, failPeak_up ..⟩

end Sys2Proof.Machine
end

section
/-! SUPPORT and CERTIFICATE. The power-on set (R80 to R85): how the results merge, and what a failed device-safe unit leads to. -/

namespace Sys2Proof.Machine

variable {s t u : State} {p q : PeakId}

/-! ### The merge in parts -/

/-- Words 0 to 2: the AND of the Peaks that run. -/
def ownMerge (ups : List PeakId) (s : State) : State :=
  forAll (List.range 3) (fun w s =>
    let v := ups.foldl (fun n p => n &&& s.reg p (Reg.bstLocal w)) (unitMask w)
    forAll ups (fun p s => (s.setReg p (Reg.bstPass w) v).setReg p (Reg.bstDone w) (unitMask w)) s) s

/-- The results of a word of the shared units. -/
def sharedWord (shared : BitVec 160) (w : Nat) : Nat := bits shared.toNat (32 * (w - 3) + 31) (32 * (w - 3))

/-- The shared units' results enter in a Peak. -/
def sharedIn (shared : BitVec 160) (p : PeakId) (s : State) : State :=
  forAll [3, 4, 5, 6, 7] (fun w s => passIn p w (testable s w) (sharedWord shared w) s) s

def sharedMerge (shared : BitVec 160) (s : State) : State := if s.power.merged then s else bothPeaks (sharedIn shared) s

/-- The results show, and what is retired with them. -/
def mergeShown (ups g : List PeakId) (s : State) : State :=
  let s := forAll g postDone s
  let s := { s with power := { s.power with merged := true } }
  retireShared (if (s.peak .a).up then .a else .b) (forAll ups retirePeak s)

/-- What the merged results lead to. -/
def mergeAct (g : List PeakId) (s : State) : State :=
  let s := forAll (g.filter (fun p => decide (lacking holdMask (s.reg p (Reg.bstLocal 0)) ≠ 0))) peakReset s
  if safeUnitsFail s .a then safeEnter 0xB .a { s with saf := { s.saf with unitsOk := false } }
  else
    let s := { s with saf := { s.saf with unitsOk := true } }
    if (s.peak .a).up || (s.peak .b).up then safChanged 0 0 0 s else safeEnter 0xB .a s

theorem selfTestMerge_eq (g : List PeakId) (shared : BitVec 160) (s : State) : selfTestMerge g shared s =
    mergeAct g (mergeShown ([PeakId.a, PeakId.b].filter (fun p => (s.peak p).up)) g
      (sharedMerge shared (ownMerge ([PeakId.a, PeakId.b].filter (fun p => (s.peak p).up)) s))) := rfl

/-- Both Peaks' own results. -/
def localsIn (a b : BitVec 96) (s : State) : State := localIn .b b (localIn .a a s)

/-- The merge of both Peaks, before it is acted on. -/
def mergedBoth (a b : BitVec 96) (shared : BitVec 160) (s : State) : State :=
  mergeShown [.a, .b] [.a, .b] (sharedMerge shared (ownMerge [.a, .b] (localsIn a b s)))

theorem localsIn_keeps (a b : BitVec 96) (s : State) : Upd 1 s (localsIn a b s) := localIn_upd (localIn_upd (Upd.refl 1 s) (by decide)) (by decide)

theorem both_filter {f : PeakId → Bool} (h : ∀ p, f p = true) : [PeakId.a, PeakId.b].filter f = [.a, .b] :=
  List.filter_eq_self.mpr fun p _ => h p

theorem selfTest_both (a b : BitVec 96) (shared : BitVec 160) (h : ∀ q, (s.peak q).up = true ∧ s.bit q Fd.bstStatusPostDone = false) :
    exec (.selfTestComplete a b shared) s = .next (mergeAct [.a, .b] (mergedBoth a b shared s)) := by
  have htesting : testing s = [.a, .b] := both_filter fun p => by rw [(h p).1, (h p).2]; rfl
  have hups : [PeakId.a, PeakId.b].filter (fun p => ((localsIn a b s).peak p).up) = [.a, .b] := both_filter fun p =>
    (((localsIn_keeps a b s).peak p).up (by decide)).trans (h p).1
  have hmerge : selfTestDone a b shared s = selfTestMerge [.a, .b] shared (localsIn a b s) := by
    unfold selfTestDone
    rw [htesting]
    rfl
  rw [exec_selfTestComplete, execSelfTestComplete, hmerge, selfTestMerge_eq, hups]
  rfl

/-! ### The Peaks' own results (R82) -/

/-- A Peak's result of a word of its own. -/
def localWord (v : BitVec 96) (w : Nat) : Nat := bits v.toNat (32 * w + 31) (32 * w) &&& unitMask w

theorem unitMask_lt (w : Nat) : unitMask w < 2 ^ 32 := by
  unfold unitMask
  split <;> decide

theorem localWord_lt (v : BitVec 96) (w : Nat) : localWord v w < 2 ^ 32 := lt_of_le_of_lt Nat.and_le_right (unitMask_lt w)

theorem localIn_eq (p : PeakId) (v : BitVec 96) (s : State) : localIn p v s =
    ((s.setReg p (Reg.bstLocal 0) (localWord v 0)).setReg p (Reg.bstLocal 1) (localWord v 1)).setReg p (Reg.bstLocal 2) (localWord v 2) := rfl

theorem localIn_reg_ne {b : Nat} (hb : InBst b) (h : q ≠ p ∨ ∀ w < 3, b ≠ Reg.bstLocal w) (v : BitVec 96) (s : State) :
    (localIn p v s).reg q b = s.reg q b := by
  have hword : ∀ w, w < 3 → q ≠ p ∨ b ≠ Reg.bstLocal w := fun w hw => h.imp_right fun hne => hne w hw
  rw [localIn_eq, reg_setReg_bst (bstLocal_in (by decide)) hb (hword 2 (by decide)), reg_setReg_bst (bstLocal_in (by decide)) hb (hword 1 (by decide)),
    reg_setReg_bst (bstLocal_in (by decide)) hb (hword 0 (by decide))]

theorem localIn_reg {w : Nat} (hw : w < 3) (p : PeakId) (v : BitVec 96) (s : State) : (localIn p v s).reg p (Reg.bstLocal w) = localWord v w := by
  have hset : ∀ (x : Nat) (u : State), (u.setReg p (Reg.bstLocal x) (localWord v x)).reg p (Reg.bstLocal x) = localWord v x := fun x u => by
    rw [State.reg_setReg, Nat.mod_eq_of_lt (localWord_lt v x)]
  have hkeep : ∀ (x y : Nat) (n : Nat) (u : State), x < 8 → y < 8 → y ≠ x → (u.setReg p (Reg.bstLocal x) n).reg p (Reg.bstLocal y) = u.reg p (Reg.bstLocal y) :=
    fun x y n u hx hy hne => reg_setReg_bst (bstLocal_in hx) (bstLocal_in hy) (Or.inr ((bstResults_ne hy hx).2.2.2 hne).2.2) n u
  rw [localIn_eq]
  interval_cases w
  · rw [hkeep 2 0 _ _ (by decide) (by decide) (by decide), hkeep 1 0 _ _ (by decide) (by decide) (by decide), hset]
  · rw [hkeep 2 1 _ _ (by decide) (by decide) (by decide), hset]
  · rw [hset]

theorem localsIn_reg {w : Nat} (hw : w < 3) (a b : BitVec 96) (s : State) (q : PeakId) :
    (localsIn a b s).reg q (Reg.bstLocal w) = localWord (if q = .a then a else b) w := by
  unfold localsIn
  cases q with
  | a => rw [localIn_reg_ne (bstLocal_in (by omega)) (Or.inl (by decide)), localIn_reg hw, if_pos rfl]
  | b => rw [localIn_reg hw, if_neg (by decide)]

/-! ### Words 0 to 2 merge (R82) -/

/-- One word of both Peaks. -/
def ownWord (w : Nat) (s : State) : State :=
  let v := unitMask w &&& s.reg .a (Reg.bstLocal w) &&& s.reg .b (Reg.bstLocal w)
  (((s.setReg .a (Reg.bstPass w) v).setReg .a (Reg.bstDone w) (unitMask w)).setReg .b (Reg.bstPass w) v).setReg .b (Reg.bstDone w) (unitMask w)

theorem ownMerge_both (s : State) : ownMerge [.a, .b] s = ownWord 2 (ownWord 1 (ownWord 0 s)) := rfl

theorem ownWord_reg_ne {w b : Nat} (hw : w < 8) (hb : InBst b) (h : b ≠ Reg.bstPass w ∧ b ≠ Reg.bstDone w) (q : PeakId) (s : State) :
    (ownWord w s).reg q b = s.reg q b := by
  unfold ownWord
  dsimp only
  rw [reg_setReg_bst (bstDone_in hw) hb (Or.inr h.2), reg_setReg_bst (bstPass_in hw) hb (Or.inr h.1), reg_setReg_bst (bstDone_in hw) hb (Or.inr h.2),
    reg_setReg_bst (bstPass_in hw) hb (Or.inr h.1)]

theorem ownWord_reg {w : Nat} (hw : w < 8) (q : PeakId) (s : State) :
    (ownWord w s).reg q (Reg.bstPass w) = unitMask w &&& s.reg .a (Reg.bstLocal w) &&& s.reg .b (Reg.bstLocal w) ∧
    (ownWord w s).reg q (Reg.bstDone w) = unitMask w := by
  have hpass := bstPass_in hw
  have hdone := bstDone_in hw
  have hne := (bstResults_ne hw hw).1
  have hlt : unitMask w &&& s.reg .a (Reg.bstLocal w) &&& s.reg .b (Reg.bstLocal w) < 2 ^ 32 :=
    lt_of_le_of_lt Nat.and_le_left (lt_of_le_of_lt Nat.and_le_left (unitMask_lt w))
  unfold ownWord
  dsimp only
  cases q with
  | a =>
    rw [reg_setReg_bst hdone hpass (Or.inr hne), reg_setReg_bst hpass hpass (Or.inl (by decide)), reg_setReg_bst hdone hpass (Or.inr hne), State.reg_setReg,
      reg_setReg_bst hdone hdone (Or.inl (by decide)), reg_setReg_bst hpass hdone (Or.inr hne.symm), State.reg_setReg]
    exact ⟨Nat.mod_eq_of_lt hlt, Nat.mod_eq_of_lt (unitMask_lt w)⟩
  | b =>
    rw [reg_setReg_bst hdone hpass (Or.inr hne), State.reg_setReg, State.reg_setReg]
    exact ⟨Nat.mod_eq_of_lt hlt, Nat.mod_eq_of_lt (unitMask_lt w)⟩

/-- Each word is the one that its turn wrote, from the Peaks' own results. -/
theorem ownMerge_reg {w : Nat} (hw : w < 3) (q : PeakId) (s : State) :
    (ownMerge [.a, .b] s).reg q (Reg.bstPass w) = unitMask w &&& s.reg .a (Reg.bstLocal w) &&& s.reg .b (Reg.bstLocal w) ∧
    (ownMerge [.a, .b] s).reg q (Reg.bstDone w) = unitMask w := by
  have hlocal : ∀ (x : Nat) (r : PeakId) (u : State), x < 3 → (ownWord x u).reg r (Reg.bstLocal w) = u.reg r (Reg.bstLocal w) := fun x r u hx =>
    ownWord_reg_ne (by omega) (bstLocal_in (by omega)) ⟨(bstResults_ne (v := x) (w := w) (by omega) (by omega)).2.1.symm,
      (bstResults_ne (v := x) (w := w) (by omega) (by omega)).2.2.1.symm⟩ r u
  have hother : ∀ (x : Nat) (u : State), x < 3 → w ≠ x → (ownWord x u).reg q (Reg.bstPass w) = u.reg q (Reg.bstPass w) ∧
      (ownWord x u).reg q (Reg.bstDone w) = u.reg q (Reg.bstDone w) := fun x u hx hne => by
    obtain ⟨hpd, -, -, hsame⟩ := bstResults_ne (v := w) (w := x) (by omega) (by omega)
    have hdp := (bstResults_ne (v := x) (w := w) (by omega) (by omega)).1
    exact ⟨ownWord_reg_ne (by omega) (bstPass_in (by omega)) ⟨(hsame hne).1, hpd⟩ q u,
      ownWord_reg_ne (by omega) (bstDone_in (by omega)) ⟨hdp.symm, (hsame hne).2.1⟩ q u⟩
  have hown := fun u : State => ownWord_reg (w := w) (by omega) q u
  rw [ownMerge_both]
  interval_cases w
  · rw [(hother 2 _ (by decide) (by decide)).1, (hother 2 _ (by decide) (by decide)).2, (hother 1 _ (by decide) (by decide)).1,
      (hother 1 _ (by decide) (by decide)).2]
    exact hown s
  · rw [(hother 2 _ (by decide) (by decide)).1, (hother 2 _ (by decide) (by decide)).2, (hown _).1, (hown _).2, hlocal 0 _ _ (by decide),
      hlocal 0 _ _ (by decide)]
    exact ⟨rfl, rfl⟩
  · rw [(hown _).1, (hown _).2, hlocal 1 _ _ (by decide), hlocal 1 _ _ (by decide), hlocal 0 _ _ (by decide), hlocal 0 _ _ (by decide)]
    exact ⟨rfl, rfl⟩

theorem ownMerge_reg_ne {b : Nat} (hb : InBst b) (h : ∀ w < 3, b ≠ Reg.bstPass w ∧ b ≠ Reg.bstDone w) (q : PeakId) (s : State) :
    (ownMerge [.a, .b] s).reg q b = s.reg q b := by
  rw [ownMerge_both, ownWord_reg_ne (by decide) hb (h 2 (by decide)), ownWord_reg_ne (by decide) hb (h 1 (by decide)),
    ownWord_reg_ne (by decide) hb (h 0 (by decide))]

/-! ### The shared units' results (R82, R85) -/

theorem mem_sharedWords {w : Nat} (h : w ∈ [3, 4, 5, 6, 7]) : 3 ≤ w ∧ w < 8 := by
  simp only [List.mem_cons, List.not_mem_nil, or_false] at h
  omega

/-- PASS and DONE of words 3 to 7 alone change, in that Peak. -/
theorem sharedIn_reg_ne (shared : BitVec 160) {b : Nat} (hb : InBst b) (h : q ≠ p ∨ ∀ w, 3 ≤ w → w < 8 → b ≠ Reg.bstPass w ∧ b ≠ Reg.bstDone w) (s : State) :
    (sharedIn shared p s).reg q b = s.reg q b :=
  forAll_induct (fun u => u.reg q b = s.reg q b) _ _ rfl fun w hw u hu => by
    obtain ⟨h3, h8⟩ := mem_sharedWords hw
    exact (passIn_reg_ne h8 hb (h.imp_right fun hne => hne w h3 h8) ..).trans hu

theorem testable_lt (s : State) (w : Nat) : testable s w < 2 ^ 32 := by
  unfold testable
  split
  · decide
  · exact unitMask_lt w

/-- The device-safe units are always tested. -/
theorem testable_safe (s : State) : (∀ b ∈ [27, 28, 29, 30], (testable s 5).testBit b = true) ∧ ∀ b ∈ [0, 1], (testable s 7).testBit b = true := by
  unfold testable
  refine ⟨?_, ?_⟩
  · split <;> decide
  · rw [if_neg (by simp)]
    decide

theorem passKeep_word7 (m b : Nat) : (passKeep 7 m).testBit b = false := by
  unfold passKeep
  rw [if_neg (by decide), if_pos rfl, Nat.zero_testBit]

/-- A device-safe unit is retired where its last result is a failure. -/
theorem sharedIn_retired (shared : BitVec 160) (p : PeakId) (s : State) :
    (∀ b ∈ [27, 28, 29, 30], (sharedIn shared p s).retired p 5 b = !(sharedWord shared 5).testBit b) ∧
    ∀ b ∈ [0, 1], (sharedIn shared p s).retired p 7 b = !(sharedWord shared 7).testBit b := by
  have hsmall : ∀ b ∈ [27, 28, 29, 30], b < 32 := by decide
  have hsmall7 : ∀ b ∈ [0, 1], b < 32 := by decide
  unfold sharedIn Machine.forAll
  simp only [List.foldl_cons, List.foldl_nil]
  refine ⟨fun b hb => ?_, fun b hb => ?_⟩
  · rw [passIn_retired_ne (by decide) (by decide) (Or.inr (by decide)), passIn_retired_ne (by decide) (by decide) (Or.inr (by decide)),
      passIn_retired (by decide) (testable_lt _ 5) (hsmall b hb) (passKeep_safe _ hb), if_pos ((testable_safe _).1 b hb)]
  · rw [passIn_retired (by decide) (testable_lt _ 7) (hsmall7 b hb) (passKeep_word7 _ b), if_pos ((testable_safe _).2 b hb)]

/-! ### The merged results -/

theorem ownWord_keeps (w : Nat) (h : Upd 1 s t) : Upd 1 s (ownWord w t) :=
  State.setReg_upd (State.setReg_upd (State.setReg_upd (State.setReg_upd h (by decide)) (by decide)) (by decide)) (by decide)

theorem ownMerge_keeps (h : Upd 1 s t) : Upd 1 s (ownMerge [.a, .b] t) := by
  rw [ownMerge_both]
  exact ownWord_keeps 2 (ownWord_keeps 1 (ownWord_keeps 0 h))

theorem sharedIn_keeps (shared : BitVec 160) (p : PeakId) (h : Upd 1 s t) : Upd 1 s (sharedIn shared p t) :=
  Upd.forAll h fun _ _ hv => passIn_upd hv (by decide)

theorem sharedMerge_both (shared : BitVec 160) (h : s.power.merged = false) : sharedMerge shared s = sharedIn shared .b (sharedIn shared .a s) := by
  unfold sharedMerge bothPeaks
  rw [h, if_neg (by decide)]

/-- What the postings of both Peaks show. -/
def posted (s : State) : State :=
  let s := postDone .b (postDone .a s)
  { s with power := { s.power with merged := true } }

theorem mergeShown_both (s : State) : mergeShown [.a, .b] [.a, .b] s =
    retireShared (if ((posted s).peak .a).up then .a else .b) (retirePeak .b (retirePeak .a (posted s))) := rfl

theorem mergeShown_units (s : State) : UnitsKept (posted s) (mergeShown [.a, .b] [.a, .b] s) := by
  rw [mergeShown_both]
  exact retireShared_units _ (retirePeak_units .b (retirePeak_units .a (RegFrame.refl _ _)))

theorem mergeShown_keeps (s : State) : Upd 248523996475469 (posted s) (mergeShown [.a, .b] [.a, .b] s) := by
  have hpeaks : Upd 248523996475469 (posted s) (retirePeak .b (retirePeak .a (posted s))) :=
    retirePeak_upd (retirePeak_upd (Upd.refl _ (posted s)) (by decide)) (by decide)
  rw [mergeShown_both]
  exact retireShared_upd hpeaks (by decide)

theorem posted_regs (s : State) : (posted s).regs = (postDone .b (postDone .a s)).regs := State.regs_withPower ..

theorem postDone_reg_ne {b : Nat} (hb : InBst b) (h : q ≠ p ∨ b ≠ Reg.bstStatus) (s : State) : (postDone p s).reg q b = s.reg q b := by
  have hkey : regKey q b ≠ regKey p Reg.bstStatus := bstKey_ne (by decide) hb h
  unfold postDone
  rw [State.reg_setFld_ne _ (f := Fd.bstStatusBusy) _ hkey, State.reg_setFld_ne _ (f := Fd.bstStatusPostDone) _ hkey,
    State.reg_setFld_ne _ (f := Fd.bstStatusMerged) _ hkey]

theorem posted_reg_ne {b : Nat} (hb : InBst b) (h : b ≠ Reg.bstStatus) (q : PeakId) (s : State) : (posted s).reg q b = s.reg q b := by
  rw [State.reg_of_regs (posted_regs s), postDone_reg_ne hb (Or.inr h), postDone_reg_ne hb (Or.inr h)]

/-- The set is complete and merged. -/
def PostShown (p : PeakId) (s : State) : Prop :=
  s.bit p Fd.bstStatusPostDone = true ∧ s.bit p Fd.bstStatusMerged = true ∧ s.bit p Fd.bstStatusBusy = false

theorem postDone_shows (p : PeakId) (s : State) : PostShown p (postDone p s) := by
  have hapart : ∀ (g f : Fld) (v : Nat) (u : State), f.lo ≤ f.hi → f.hi < 32 → g.addr = f.addr → (f.hi < g.lo ∨ g.hi < f.lo) →
      (u.setFld p f v).bit p g = u.bit p g := fun g f v u h h32 ha hd => State.bit_setFld_apart u p v h h32 ha hd
  unfold PostShown postDone
  refine ⟨?_, ?_, State.bit_setFld _ p (f := Fd.bstStatusBusy) 0 (by decide) (by decide)⟩
  · rw [hapart Fd.bstStatusPostDone Fd.bstStatusBusy _ _ (by decide) (by decide) rfl (Or.inl (by decide))]
    exact State.bit_raise _ p (f := Fd.bstStatusPostDone) rfl (by decide)
  · rw [hapart Fd.bstStatusMerged Fd.bstStatusBusy _ _ (by decide) (by decide) rfl (Or.inl (by decide)),
      hapart Fd.bstStatusMerged Fd.bstStatusPostDone _ _ (by decide) (by decide) rfl (Or.inl (by decide))]
    exact State.bit_raise _ p (f := Fd.bstStatusMerged) rfl (by decide)

theorem PostShown.of_reg (h : PostShown p s) (hr : t.reg p Reg.bstStatus = s.reg p Reg.bstStatus) : PostShown p t := by
  have hbit : ∀ f : Fld, f.addr = Reg.bstStatus → t.bit p f = s.bit p f := fun f hf => by
    unfold State.bit State.fld
    rw [hf, hr]
  unfold PostShown
  rw [hbit _ rfl, hbit _ rfl, hbit _ rfl]
  exact h

theorem posted_shows (q : PeakId) (s : State) : PostShown q (posted s) := by
  refine PostShown.of_reg (s := postDone .b (postDone .a s)) ?_ (State.reg_of_regs (posted_regs s) ..)
  cases q with
  | a => exact (postDone_shows .a s).of_reg (postDone_reg_ne (by decide) (Or.inl (by decide)) _)
  | b => exact postDone_shows .b _

end Sys2Proof.Machine
end

section
/-! CERTIFICATE. The power-on set (R80 to R83): the merged results where all units that must pass did, and the safe state where one did not. -/

namespace Sys2Proof.Machine

variable {s t u : State} {p q : PeakId}

/-! ### The verdict on the units stays as the kernel settles -/

theorem safFirst_unitsOk (c f i : Nat) (s : State) : (safFirst c f i s).saf.unitsOk = s.saf.unitsOk := by
  unfold safFirst
  dsimp only
  split
  · split <;> simp
  · simp

theorem funcsSettle_unitsOk (c i e : Nat) (s : State) : (funcsSettle c i e s).saf.unitsOk = s.saf.unitsOk := by
  have settled : (funcSettle e 2 (funcSettle e 1 (funcSettle e 0 (0, s)))).2.saf = s.saf := by
    rw [funcSettle_saf, funcSettle_saf, funcSettle_saf]
  unfold funcsSettle
  dsimp only
  split
  · rw [settled]
  · rw [safFirst_unitsOk, settled]

theorem feedbackAwait_unitsOk (on : Bool) (s : State) : (feedbackAwait on s).saf.unitsOk = s.saf.unitsOk := by
  unfold feedbackAwait
  dsimp only
  split <;> rfl

theorem safAct_unitsOk (s : State) : (safAct s).saf.unitsOk = s.saf.unitsOk := by
  unfold safAct
  dsimp only
  rw [tripInput_saf, State.setBit_saf]
  split
  · rw [State.setFld_saf, (segSet_keeps _ s).saf (by decide)]
  · rw [feedbackAwait_unitsOk, State.setFld_saf, (segSet_keeps _ s).saf (by decide)]

theorem safChanged_unitsOk (c i e : Nat) (s : State) : (safChanged c i e s).saf.unitsOk = s.saf.unitsOk := by
  rw [safChanged_eq, safAct_unitsOk]
  unfold safSettled
  rw [(safRefresh_keeps _).saf (by decide)]
  split
  · exact funcsSettle_unitsOk ..
  · exact (funcsSettle_unitsOk ..).trans (funcsSettle_unitsOk ..)

/-! ### The merged registers -/

theorem posted_merged (s : State) : (posted s).power.merged = true := rfl

theorem State.peak_withPower (s : State) (w : Power) (q : PeakId) : ({ s with power := w } : State).peak q = s.peak q := rfl

theorem posted_peak (s : State) (q : PeakId) : (posted s).peak q = (postDone .b (postDone .a s)).peak q := State.peak_withPower ..

theorem State.regs_withSaf (s : State) (x : Saf) : ({ s with saf := x } : State).regs = s.regs := rfl

theorem and_units (a b m : Nat) : m &&& (a &&& m) &&& (b &&& m) = (a &&& b) &&& m := by
  refine Nat.eq_of_testBit_eq fun i => ?_
  simp only [Nat.testBit_and]
  cases m.testBit i <;> simp

theorem bstResults_ne_status {w : Nat} (hw : w < 8) : Reg.bstPass w ≠ Reg.bstStatus ∧ Reg.bstDone w ≠ Reg.bstStatus ∧ Reg.bstLocal w ≠ Reg.bstStatus := by
  simp only [Reg.bstPass, Reg.bstDone, Reg.bstLocal, Reg.bstStatus]
  omega

theorem sharedIns_reg (shared : BitVec 160) {w r : Nat} (hw : w < 3) (hr : r = Reg.bstPass w ∨ r = Reg.bstDone w ∨ r = Reg.bstLocal w) (q : PeakId) (u : State) :
    (sharedIn shared .b (sharedIn shared .a u)).reg q r = u.reg q r := by
  have hin : InBst r := by
    rcases hr with rfl | rfl | rfl
    · exact bstPass_in (by omega)
    · exact bstDone_in (by omega)
    · exact bstLocal_in (by omega)
  have hne : ∀ x, 3 ≤ x → x < 8 → r ≠ Reg.bstPass x ∧ r ≠ Reg.bstDone x := fun x h3 h8 => by
    simp only [Reg.bstPass, Reg.bstDone, Reg.bstLocal] at hr ⊢
    omega
  rw [sharedIn_reg_ne shared hin (Or.inr hne), sharedIn_reg_ne shared hin (Or.inr hne)]

section
variable (a b : BitVec 96) (shared : BitVec 160) (hm : s.power.merged = false)
include hm

/-- The results before they show. -/
theorem mergedBoth_eq : mergedBoth a b shared s =
    mergeShown [.a, .b] [.a, .b] (sharedIn shared .b (sharedIn shared .a (ownMerge [.a, .b] (localsIn a b s)))) := by
  have hmerged : (ownMerge [.a, .b] (localsIn a b s)).power.merged = false := by
    rw [(ownMerge_keeps (localsIn_keeps a b s)).power (by decide), hm]
  unfold mergedBoth
  rw [sharedMerge_both shared hmerged]

theorem mergedBoth_reg {r : Nat} (hr : InBst r) (hne : r ≠ Reg.bstStatus) (q : PeakId) :
    (mergedBoth a b shared s).reg q r = (sharedIn shared .b (sharedIn shared .a (ownMerge [.a, .b] (localsIn a b s)))).reg q r := by
  rw [mergedBoth_eq a b shared hm, UnitsKept.reg (mergeShown_units _) q hr.lt (Or.inl hr), posted_reg_ne hr hne]

/-- Words 0 to 2 show the AND of both Peaks, and each Peak its own results. -/
theorem mergedBoth_words {w : Nat} (hw : w < 3) (q : PeakId) :
    (mergedBoth a b shared s).reg q (Reg.bstPass w) = (bits a.toNat (32 * w + 31) (32 * w) &&& bits b.toNat (32 * w + 31) (32 * w)) &&& unitMask w ∧
    (mergedBoth a b shared s).reg q (Reg.bstDone w) = unitMask w ∧
    (mergedBoth a b shared s).reg q (Reg.bstLocal w) = localWord (if q = .a then a else b) w := by
  have hw8 : w < 8 := by omega
  obtain ⟨hpass, hdone, hlocal⟩ := bstResults_ne_status hw8
  obtain ⟨hmergePass, hmergeDone⟩ := ownMerge_reg hw q (localsIn a b s)
  refine ⟨?_, ?_, ?_⟩
  · rw [mergedBoth_reg a b shared hm (bstPass_in hw8) hpass, sharedIns_reg shared hw (Or.inl rfl), hmergePass, localsIn_reg hw, localsIn_reg hw]
    exact and_units ..
  · rw [mergedBoth_reg a b shared hm (bstDone_in hw8) hdone, sharedIns_reg shared hw (Or.inr (Or.inl rfl)), hmergeDone]
  · rw [mergedBoth_reg a b shared hm (bstLocal_in hw8) hlocal, sharedIns_reg shared hw (Or.inr (Or.inr rfl))]
    refine (ownMerge_reg_ne (bstLocal_in hw8) (fun x hx => ?_) q _).trans (localsIn_reg hw a b s q)
    simp only [Reg.bstLocal, Reg.bstPass, Reg.bstDone]
    omega

/-- The device-safe units are retired by their results. -/
theorem mergedBoth_retired : (∀ i ∈ [27, 28, 29, 30], (mergedBoth a b shared s).retired .a 5 i = !(sharedWord shared 5).testBit i) ∧
    ∀ i ∈ [0, 1], (mergedBoth a b shared s).retired .a 7 i = !(sharedWord shared 7).testBit i := by
  have hown : ∀ w, w < 8 → ∀ i, (mergedBoth a b shared s).retired .a w i = (sharedIn shared .a (ownMerge [.a, .b] (localsIn a b s))).retired .a w i := by
    intro w hw i
    obtain ⟨hpass, hdone, -⟩ := bstResults_ne_status hw
    refine State.retired_of_reg ?_ ?_ i
    · exact (mergedBoth_reg a b shared hm (bstDone_in hw) hdone .a).trans (sharedIn_reg_ne shared (bstDone_in hw) (Or.inl (by decide)) _)
    · exact (mergedBoth_reg a b shared hm (bstPass_in hw) hpass .a).trans (sharedIn_reg_ne shared (bstPass_in hw) (Or.inl (by decide)) _)
  obtain ⟨h5, h7⟩ := sharedIn_retired shared .a (ownMerge [.a, .b] (localsIn a b s))
  exact ⟨fun i hi => (hown 5 (by decide) i).trans (h5 i hi), fun i hi => (hown 7 (by decide) i).trans (h7 i hi)⟩

theorem mergedBoth_shows (q : PeakId) : PostShown q (mergedBoth a b shared s) := by
  rw [mergedBoth_eq a b shared hm]
  exact (posted_shows q _).of_reg (UnitsKept.reg (mergeShown_units _) q (by decide) (Or.inl (by decide)))

/-- The merge is done, and each Peak runs as before. -/
theorem mergedBoth_keeps : (mergedBoth a b shared s).power.merged = true ∧ ∀ q, ((mergedBoth a b shared s).peak q).up = (s.peak q).up := by
  rw [mergedBoth_eq a b shared hm]
  generalize hu : sharedIn shared .b (sharedIn shared .a (ownMerge [.a, .b] (localsIn a b s))) = u
  have hkeeps : Upd 1 s u := hu ▸ sharedIn_keeps shared .b (sharedIn_keeps shared .a (ownMerge_keeps (localsIn_keeps a b s)))
  have hposted : Upd 1 s (postDone .b (postDone .a u)) := postDone_upd (postDone_upd hkeeps (by decide)) (by decide)
  have hshown := mergeShown_keeps u
  refine ⟨(congrArg Power.merged (hshown.power (by decide))).trans (posted_merged u), fun q => ?_⟩
  rw [(hshown.peak q).up (by decide), posted_peak, (hposted.peak q).up (by decide)]

end

/-! ### The mark of the safe state stays through the merge -/

theorem setReg_roles (h : RegFrame (allBut rolesSafe) s t) {a : Nat} (ha : InBst a) (p : PeakId) (v : Nat) : RegFrame (allBut rolesSafe) s (t.setReg p a v) :=
  h.setRegFree p v ha.lt (rolesSafe_bst ha)

theorem localIn_roles (p : PeakId) (v : BitVec 96) (h : RegFrame (allBut rolesSafe) s t) : RegFrame (allBut rolesSafe) s (localIn p v t) := by
  rw [localIn_eq]
  exact setReg_roles (setReg_roles (setReg_roles h (by decide) p _) (by decide) p _) (by decide) p _

theorem ownWord_roles {w : Nat} (hw : w < 8) (h : RegFrame (allBut rolesSafe) s t) : RegFrame (allBut rolesSafe) s (ownWord w t) := by
  unfold ownWord
  exact setReg_roles (setReg_roles (setReg_roles (setReg_roles h (bstPass_in hw) _ _) (bstDone_in hw) _ _) (bstPass_in hw) _ _) (bstDone_in hw) _ _

theorem sharedIn_roles (shared : BitVec 160) (p : PeakId) (h : RegFrame (allBut rolesSafe) s t) : RegFrame (allBut rolesSafe) s (sharedIn shared p t) :=
  RegFrame.forAll _ _ h fun _ hw v hv => hv.trans (passIn_roles p (mem_sharedWords hw).2 _ _ v)

theorem postDone_roles (p : PeakId) (h : RegFrame (allBut rolesSafe) s t) : RegFrame (allBut rolesSafe) s (postDone p t) := by
  unfold postDone
  exact setReg_roles (setReg_roles (setReg_roles h (by decide) p _) (by decide) p _) (by decide) p _

theorem mergedBoth_safe (a b : BitVec 96) (shared : BitVec 160) (hm : s.power.merged = false) : (mergedBoth a b shared s).safe = s.safe := by
  have hlocals : RegFrame (allBut rolesSafe) s (localsIn a b s) := localIn_roles .b b (localIn_roles .a a (RegFrame.refl _ s))
  have hown : RegFrame (allBut rolesSafe) s (ownMerge [.a, .b] (localsIn a b s)) := by
    rw [ownMerge_both]
    exact ownWord_roles (by decide) (ownWord_roles (by decide) (ownWord_roles (by decide) hlocals))
  have hshared := sharedIn_roles shared .b (sharedIn_roles shared .a hown)
  have hposted := RegFrame.of_regs (postDone_roles .b (postDone_roles .a hshared)) (posted_regs _)
  rw [mergedBoth_eq a b shared hm, UnitsKept.safe (mergeShown_units _)]
  exact hposted.bit .a (f := Fd.gdmStatusSafe) (le_lit rfl) (by decide)

/-! ### The outcomes -/

theorem testBit_of_and {n m i : Nat} (h : n &&& m = m) (hi : m.testBit i = true) : n.testBit i = true := by
  have hb := congrArg (fun x => x.testBit i) h
  simp only [Nat.testBit_and, hi, Bool.and_true] at hb
  exact hb

/-- No unit failed that holds the Peak. -/
theorem localWord_holds {v : BitVec 96} (h : bits v.toNat 31 0 &&& holdMask = holdMask) : lacking holdMask (localWord v 0) = 0 := by
  have hmask : holdMask &&& unitMask 0 = holdMask := rfl
  have hsub : holdMask &&& localWord v 0 = holdMask := by
    unfold localWord
    rw [Nat.and_comm, Nat.and_assoc, Nat.and_comm (unitMask 0), hmask]
    exact h
  have hnone := lacking_of_sub (a := holdMask) (by decide) hsub holdMask
  rwa [Nat.and_self] at hnone

/-- No unit failed that must pass: the kernel may leave SAFE. -/
def unitsPassed (s : State) : State := safChanged 0 0 0 { s with saf := { s.saf with unitsOk := true } }

theorem unitsPassed_power (s : State) : (unitsPassed s).power = s.power := safChanged_power ..
theorem unitsPassed_unitsOk (s : State) : (unitsPassed s).saf.unitsOk = true := safChanged_unitsOk ..

theorem unitsPassed_units (s : State) : UnitsKept s (unitsPassed s) :=
  safChanged_units 0 0 0 (RegFrame.of_regs (RegFrame.refl _ _) (State.regs_withSaf ..))

/-- With nobody held and no device-safe unit failed the kernel settles. -/
theorem mergeAct_passed (hnobody : [PeakId.a, PeakId.b].filter (fun p => decide (lacking holdMask (u.reg p (Reg.bstLocal 0)) ≠ 0)) = [])
    (hsafe : safeUnitsFail u .a = false) (hup : (u.peak .a).up = true) :
    mergeAct [.a, .b] u = unitsPassed u := by
  unfold mergeAct
  rw [hnobody]
  change (if safeUnitsFail u .a then _ else if (u.peak .a).up || (u.peak .b).up then _ else _) = _
  rw [hsafe, hup]
  rfl

theorem selfTestPassed_completes (a b : BitVec 96) (shared : BitVec 160) (h : ∀ q, (s.peak q).up = true ∧ s.bit q Fd.bstStatusPostDone = false)
    (hm : s.power.merged = false) (ha : bits a.toNat 31 0 &&& holdMask = holdMask) (hb : bits b.toNat 31 0 &&& holdMask = holdMask)
    (h5 : sharedWord shared 5 &&& 0x78000000 = 0x78000000) (h7 : sharedWord shared 7 &&& 3 = 3) :
    Completes (.selfTestComplete a b shared) s (fun t => t.saf.unitsOk = true ∧ t.power.merged = true ∧ ∀ q,
      t.bit q Fd.bstStatusPostDone = true ∧ t.bit q Fd.bstStatusMerged = true ∧ t.bit q Fd.bstStatusBusy = false ∧
      ∀ w < 3, t.reg q (Reg.bstPass w) = (bits a.toNat (32 * w + 31) (32 * w) &&& bits b.toNat (32 * w + 31) (32 * w)) &&& unitMask w ∧
        t.reg q (Reg.bstDone w) = unitMask w ∧
        t.reg q (Reg.bstLocal w) = bits (if q = .a then a else b).toNat (32 * w + 31) (32 * w) &&& unitMask w) := by
  obtain ⟨hmerged, hup⟩ := mergedBoth_keeps a b shared hm
  obtain ⟨hret5, hret7⟩ := mergedBoth_retired a b shared hm
  have hnobody : [PeakId.a, PeakId.b].filter (fun p => decide (lacking holdMask ((mergedBoth a b shared s).reg p (Reg.bstLocal 0)) ≠ 0)) = [] := by
    refine List.filter_eq_nil_iff.mpr fun p _ => ?_
    rw [(mergedBoth_words a b shared hm (w := 0) (by decide) p).2.2, decide_eq_true_eq, not_not]
    cases p with
    | a => exact localWord_holds ha
    | b => exact localWord_holds hb
  have hbits5 : ∀ i ∈ [27, 28, 29, 30], (0x78000000 : Nat).testBit i = true := by decide
  have hbits7 : ∀ i ∈ [0, 1], (3 : Nat).testBit i = true := by decide
  have hsafe : safeUnitsFail (mergedBoth a b shared s) .a = false := (safeUnitsFail_false_iff ..).mpr
    ⟨fun i hi => by rw [hret5 i hi, testBit_of_and h5 (hbits5 i hi)]; rfl, fun i hi => by rw [hret7 i hi, testBit_of_and h7 (hbits7 i hi)]; rfl⟩
  have he := selfTest_both a b shared h
  have hshows := mergedBoth_shows a b shared hm
  have hwords := fun (w : Nat) (hw : w < 3) => mergedBoth_words a b shared hm hw
  rw [mergeAct_passed hnobody hsafe ((hup .a).trans (h .a).1)] at he
  have hunits := unitsPassed_units (mergedBoth a b shared s)
  refine ⟨_, he, unitsPassed_unitsOk _, (congrArg Power.merged (unitsPassed_power _)).trans hmerged, fun q => ?_⟩
  obtain ⟨hpost, hmergedBit, hbusy⟩ := hshows q
  refine ⟨(UnitsKept.bit hunits q (by decide) (Or.inl (by decide))).trans hpost, (UnitsKept.bit hunits q (by decide) (Or.inl (by decide))).trans hmergedBit,
    (UnitsKept.bit hunits q (by decide) (Or.inl (by decide))).trans hbusy, fun w hw => ?_⟩
  obtain ⟨hpass, hdone, hlocal⟩ := hwords w hw q
  have hw8 : w < 8 := by omega
  exact ⟨(UnitsKept.reg hunits q (bstPass_in hw8).lt (Or.inl (bstPass_in hw8))).trans hpass,
    (UnitsKept.reg hunits q (bstDone_in hw8).lt (Or.inl (bstDone_in hw8))).trans hdone,
    (UnitsKept.reg hunits q (bstLocal_in hw8).lt (Or.inl (bstLocal_in hw8))).trans hlocal⟩

/-- A retired shared unit outlives a Peak's reset. -/
theorem peakReset_retired (p q : PeakId) {w : Nat} (h3 : 3 ≤ w) (hw : w < 8) (s : State) (i : Nat) : (peakReset p s).retired q w i = s.retired q w i := by
  have hkept : ∀ r, InBst r → outlivesPeak r = true → (peakReset p s).reg q r = s.reg q r := fun r hr ho => by
    refine peakReset_reg_kept p q s hr.lt (Or.inr ho) ?_
    simp only [InBst] at hr
    simp only [Reg.gdmPeakReport, Reg.gdmPeakView]
    cases p <;> simp only [PeakId.num] <;> omega
  interval_cases w <;> exact State.retired_of_reg (hkept _ (by decide) (by decide)) (hkept _ (by decide) (by decide)) i

theorem selfTestFailed_completes (a b : BitVec 96) (shared : BitVec 160) (h : ∀ q, (s.peak q).up = true ∧ s.bit q Fd.bstStatusPostDone = false)
    (hm : s.power.merged = false) (hsafe : s.safe = false) (hfail : shared.getLsbD 128 = false) :
    Completes (.selfTestComplete a b shared) s (fun t => t.safe = true ∧ ∀ q, (t.peak q).up = false ∧ t.role q = 3) := by
  have hbit : (sharedWord shared 7).testBit 0 = false := by
    unfold sharedWord
    rw [testBit_bits]
    exact hfail
  have hretired : (mergedBoth a b shared s).retired .a 7 0 = true := by
    rw [(mergedBoth_retired a b shared hm).2 0 (by simp), hbit]
    rfl
  have hheld := forAll_induct (fun u => u.safe = false ∧ u.retired .a 7 0 = true)
    ([PeakId.a, PeakId.b].filter (fun p => decide (lacking holdMask ((mergedBoth a b shared s).reg p (Reg.bstLocal 0)) ≠ 0))) peakReset
    ⟨(mergedBoth_safe a b shared hm).trans hsafe, hretired⟩ fun p _ u hu =>
      ⟨((peakReset_safeKept p (SafeKept.refl u)).safe).trans hu.1, (peakReset_retired p .a (by decide) (by decide) u 0).trans hu.2⟩
  obtain ⟨hsafeHeld, hretiredHeld⟩ := hheld
  have hfails : ∀ u : State, u.retired .a 7 0 = true → safeUnitsFail u .a = true := fun u hu => by
    refine Bool.eq_true_of_not_eq_false fun hc => ?_
    have hno := ((safeUnitsFail_false_iff u .a).mp hc).2 0 (by simp)
    rw [hu] at hno
    cases hno
  have he := selfTest_both a b shared h
  unfold mergeAct at he
  dsimp only at he
  rw [if_pos (hfails _ hretiredHeld)] at he
  exact ⟨_, he, (safeEnter_enters ..).1, safeEnter_holds _ _ ((State.safe_of_regs (State.regs_withSaf ..)).trans hsafeHeld)⟩

end Sys2Proof.Machine
end

section
/-! SUPPORT and CERTIFICATE. Handover (R67, R71, R115, R156): where a boot image's entries come to stand, and how the boot run starts. -/

namespace Sys2Proof.Machine

variable {s t u : State} {p q : PeakId}

/-! ### Bytes in a row -/

theorem State.byte_setByteList (s : State) (key : Nat) (l : List Byte) (k : Nat) :
    (s.setByteList key l).byte k = if key ≤ k ∧ k < key + l.length then l.getD (k - key) 0 else s.byte k := by
  induction l generalizing s key with
  | nil => exact (if_neg (by rw [List.length_nil]; omega)).symm
  | cons b r ih =>
    change ((s.setByte key b).setByteList (key + 1) r).byte k = _
    rw [ih, State.byte_setByte, List.length_cons]
    by_cases hk : k = key
    · subst hk
      rw [if_neg (by omega), if_pos rfl, if_pos (by omega), Nat.sub_self, List.getD_cons_zero]
    · by_cases hin : key + 1 ≤ k ∧ k < key + 1 + r.length
      · rw [if_pos hin, if_pos (by omega), show k - key = (k - (key + 1)) + 1 by omega, List.getD_cons_succ]
      · rw [if_neg hin, if_neg hk, if_neg (by omega)]

theorem imgSlice_length (img : List Byte) (i n : Nat) : (imgSlice img i n).length = n := by
  unfold imgSlice
  rw [List.length_append, List.length_replicate, List.length_take, List.length_drop]
  omega

/-- Byte j of a slice is that of the image, erased past its end. -/
theorem imgSlice_getD (img : List Byte) {i n j : Nat} (h : j < n) : (imgSlice img i n).getD j 0 = img.getD (i + j) 0xFF := by
  unfold imgSlice
  dsimp only
  by_cases hj : i + j < img.length
  · have hin : j < ((img.drop i).take n).length := by
      rw [List.length_take, List.length_drop]
      omega
    rw [List.getD_append _ _ _ _ hin, List.getD_eq_getElem _ _ hin, List.getD_eq_getElem _ _ hj, List.getElem_take, List.getElem_drop]
  · have hout : ((img.drop i).take n).length ≤ j := by
      rw [List.length_take, List.length_drop]
      omega
    rw [List.getD_append_right _ _ _ _ hout, List.getD_eq_default img _ (by omega), List.getD_replicate]
    rw [List.length_take, List.length_drop] at hout ⊢
    omega

/-! ### One entry of an image (R67) -/

/-- A load entry: payload offset, destination, length, core mask. -/
abbrev Entry := Nat × Nat × Nat × Nat

/-- The entry's bytes of the payload. -/
def entryData (img : List Byte) (e : Entry) : List Byte := imgSlice img (1024 + e.1) e.2.2.1

/-- The copies in the TCMs of the cores that the entry names. -/
def storeTcms (p : PeakId) (img : List Byte) (e : Entry) (s : State) : State :=
  forAll (List.finRange 8) (fun c s =>
    if bits e.2.2.2 c.val c.val = 1 ∧ s.retired p 0 c.val = false then s.setByteList (tcmKey ⟨p, c⟩ e.2.1) (entryData img e) else s) s

def storeEntry (p : PeakId) (img : List Byte) (e : Entry) (s : State) : State :=
  if 0x20000 ≤ e.2.1 then s.setByteList (peakKey p e.2.1) (entryData img e) else storeTcms p img e s

theorem loadImage_eq (p : PeakId) (img : List Byte) (s : State) : loadImage p img s = forAll (imgEntries img) (storeEntry p img) s := rfl

/-- The entry lies in a memory wholly. -/
def EntryFits (e : Entry) : Prop := e.2.1 < 0x20000 → e.2.1 + e.2.2.1 ≤ 0x20000

theorem entryFits_of_region {e : Entry} (h : destRegion e.2.1 e.2.2.1 ≠ 3) : EntryFits e := fun hlt => by
  unfold destRegion at h
  split_ifs at h <;> omega

/-- Key k is one that the entry is written to. -/
def Written (p : PeakId) (e : Entry) (k : Nat) : Prop :=
  (0x20000 ≤ e.2.1 ∧ peakKey p e.2.1 ≤ k ∧ k < peakKey p e.2.1 + e.2.2.1) ∨
  (e.2.1 < 0x20000 ∧ ∃ c : Fin 8, bits e.2.2.2 c.val c.val = 1 ∧ tcmKey ⟨p, c⟩ e.2.1 ≤ k ∧ k < tcmKey ⟨p, c⟩ e.2.1 + e.2.2.1)

theorem storeEntry_byte_ne {e : Entry} {k : Nat} (h : ¬Written p e k) (img : List Byte) (s : State) : (storeEntry p img e s).byte k = s.byte k := by
  have hlen : (entryData img e).length = e.2.2.1 := imgSlice_length ..
  unfold storeEntry
  by_cases hbig : 0x20000 ≤ e.2.1
  · rw [if_pos hbig, State.byte_setByteList, hlen, if_neg fun hk => h (Or.inl ⟨hbig, hk⟩)]
  · rw [if_neg hbig]
    refine forAll_induct (fun u => u.byte k = s.byte k) _ _ rfl fun c _ v hv => ?_
    split
    · next hc => rw [State.byte_setByteList, hlen, if_neg fun hk => h (Or.inr ⟨not_le.mp hbig, c, hc.1, hk⟩), hv]
    · exact hv

theorem State.setByteList_regs (s : State) (key : Nat) (l : List Byte) : (s.setByteList key l).regs = s.regs :=
  (State.setByteList_upd (Upd.refl 2 s) (by decide)).regs (by decide)

theorem storeEntry_regs (p : PeakId) (img : List Byte) (e : Entry) (s : State) : (storeEntry p img e s).regs = s.regs := by
  unfold storeEntry
  split
  · exact State.setByteList_regs ..
  · refine forAll_induct (fun u => u.regs = s.regs) _ _ rfl fun c _ v hv => ?_
    split
    · rw [State.setByteList_regs, hv]
    · exact hv

theorem State.retired_of_regs (h : t.regs = s.regs) (p : PeakId) (w b : Nat) : t.retired p w b = s.retired p w b :=
  State.retired_of_reg (State.reg_of_regs h ..) (State.reg_of_regs h ..) b

/-- The entry stands in the memories of a Peak with these retired cores. -/
def EntryHeld (p : PeakId) (img : List Byte) (ret : Nat → Bool) (e : Entry) (s : State) : Prop := ∀ i < e.2.2.1,
  (0x20000 ≤ e.2.1 → s.byte (peakKey p (e.2.1 + i)) = img.getD (1024 + e.1 + i) 0xFF) ∧
  (e.2.1 < 0x20000 → ∀ c : Fin 8, bits e.2.2.2 c.val c.val = 1 → ret c.val = false → s.byte (tcmKey ⟨p, c⟩ (e.2.1 + i)) = img.getD (1024 + e.1 + i) 0xFF)

theorem byte_entry (img : List Byte) (e : Entry) {key i : Nat} (hi : i < e.2.2.1) (s : State) :
    (s.setByteList key (entryData img e)).byte (key + i) = img.getD (1024 + e.1 + i) 0xFF := by
  rw [State.byte_setByteList, entryData, imgSlice_length, if_pos (by omega), Nat.add_sub_cancel_left, imgSlice_getD img hi]

theorem tcmKey_add (k : CoreSel) (a i : Nat) : tcmKey k (a + i) = tcmKey k a + i := by
  simp only [tcmKey]
  omega

theorem peakKey_add (p : PeakId) (a i : Nat) : peakKey p (a + i) = peakKey p a + i := by
  simp only [peakKey]
  omega

/-- An entry that fits stands in the TCM of each core that it names and that is not retired. -/
theorem storeTcms_byte {e : Entry} (hfit : e.2.1 + e.2.2.1 ≤ 0x20000) {i : Nat} (hi : i < e.2.2.1) (c : Fin 8) (hc : bits e.2.2.2 c.val c.val = 1) (img : List Byte)
    (hret : s.retired p 0 c.val = false) : (storeTcms p img e s).byte (tcmKey ⟨p, c⟩ (e.2.1 + i)) = img.getD (1024 + e.1 + i) 0xFF := by
  have hstep : ∀ (x : Fin 8) (v : State), (if bits e.2.2.2 x.val x.val = 1 ∧ v.retired p 0 x.val = false then
      v.setByteList (tcmKey ⟨p, x⟩ e.2.1) (entryData img e) else v).regs = v.regs := fun x v => by
    split
    · exact State.setByteList_regs ..
    · rfl
  have hreach := forAll_reaches (s := s) (fun v => v.retired p 0 c.val = false → v.byte (tcmKey ⟨p, c⟩ (e.2.1 + i)) = img.getD (1024 + e.1 + i) 0xFF)
    (List.finRange 8) (fun x v => if bits e.2.2.2 x.val x.val = 1 ∧ v.retired p 0 x.val = false then
      v.setByteList (tcmKey ⟨p, x⟩ e.2.1) (entryData img e) else v) (List.mem_finRange c) (fun v hv => ?_) fun x _ v hv hx => ?_
  · refine hreach ?_
    have hregs := forAll_induct (fun v => v.regs = s.regs) (List.finRange 8) (fun x v => if bits e.2.2.2 x.val x.val = 1 ∧ v.retired p 0 x.val = false then
      v.setByteList (tcmKey ⟨p, x⟩ e.2.1) (entryData img e) else v) rfl fun x _ v hv => (hstep x v).trans hv
    rw [State.retired_of_regs hregs, hret]
  · rw [State.retired_of_regs (hstep c v)] at hv
    rw [if_pos ⟨hc, hv⟩, tcmKey_add]
    exact byte_entry img e hi v
  · rw [State.retired_of_regs (hstep x v)] at hx
    split
    · by_cases hxc : x = c
      · subst hxc
        rw [tcmKey_add]
        exact byte_entry img e hi v
      · have hne : x.val ≠ c.val := fun he => hxc (Fin.ext he)
        rw [State.byte_setByteList, if_neg]
        · exact hv hx
        · rw [entryData, imgSlice_length]
          simp only [tcmKey]
          omega
    · exact hv hx

theorem storeEntry_held {e : Entry} (hfit : EntryFits e) (img : List Byte) {ret : Nat → Bool} (hret : ∀ c, s.retired p 0 c = ret c) :
    EntryHeld p img ret e (storeEntry p img e s) := fun i hi => by
  unfold storeEntry
  refine ⟨fun hbig => ?_, fun hsmall c hc hr => ?_⟩
  · rw [if_pos hbig, peakKey_add]
    exact byte_entry img e hi s
  · rw [if_neg (by omega)]
    exact storeTcms_byte (hfit hsmall) hi c hc img ((hret c.val).trans hr)

/-! ### Entries that do not meet (R68) -/

theorem tcmKey_lt {k : CoreSel} {a : Nat} (h : a ≤ 0x20000) : tcmKey k a < 2 ^ 32 := by
  have hc := k.core.isLt
  have hnum : k.peak.num < 2 := by cases k.peak <;> decide
  simp only [tcmKey]
  omega

/-- Two entries that both name a core, or both lie outside the TCMs, lie apart. -/
theorem apart_of_not_meet {e f : Entry} (h : entriesMeet e f = false) (hboth : 0x20000 ≤ e.2.1 ∨ ∃ c, bits e.2.2.2 c c = 1 ∧ bits f.2.2.2 c c = 1) :
    f.2.1 + f.2.2.1 ≤ e.2.1 ∨ e.2.1 + e.2.2.1 ≤ f.2.1 := by
  have hshare : (decide (0x20000 ≤ e.2.1) || decide (e.2.2.2 &&& f.2.2.2 ≠ 0)) = true := by
    rw [Bool.or_eq_true, decide_eq_true_eq, decide_eq_true_eq]
    refine hboth.imp_right fun ⟨c, he, hf⟩ hzero => ?_
    have hbit := congrArg (fun n => n.testBit c) hzero
    simp only [Nat.testBit_and, (bits_one_iff ..).mp he, (bits_one_iff ..).mp hf, Nat.zero_testBit] at hbit
    cases hbit
  unfold entriesMeet at h
  rw [hshare, Bool.and_true, Bool.and_eq_false_iff, decide_eq_false_iff_not, decide_eq_false_iff_not] at h
  omega

/-- An entry that does not meet another leaves it. -/
theorem EntryHeld.store {e f : Entry} {img : List Byte} {ret : Nat → Bool} (h : EntryHeld p img ret e s) (he : EntryFits e) (hf : EntryFits f)
    (hmeet : entriesMeet e f = false) : EntryHeld p img ret e (storeEntry p img f s) := fun i hi => by
  obtain ⟨hbig, hsmall⟩ := h i hi
  refine ⟨fun hb => ?_, fun hs c hc hr => ?_⟩
  · rw [storeEntry_byte_ne ?_ img s, hbig hb]
    rintro (⟨-, hlo, hhi⟩ | ⟨hsf, c, -, hlo, hhi⟩)
    · have hapart := apart_of_not_meet hmeet (Or.inl hb)
      simp only [peakKey] at hlo hhi
      omega
    · have hlt := tcmKey_lt (k := ⟨p, c⟩) (hf hsf)
      rw [tcmKey_add] at hlt
      simp only [peakKey] at hlo hhi
      omega
  · rw [storeEntry_byte_ne ?_ img s, hsmall hs c hc hr]
    have hlt := tcmKey_lt (k := ⟨p, c⟩) (a := e.2.1 + i) (by have := he hs; omega)
    rintro (⟨-, hlo, hhi⟩ | ⟨hsf, x, hx, hlo, hhi⟩)
    · simp only [peakKey] at hlo hhi
      omega
    · have hfe := he hs
      have hff := hf hsf
      by_cases hxc : x.val = c.val
      · have hapart := apart_of_not_meet hmeet (Or.inr ⟨c.val, hc, by rw [← hxc]; exact hx⟩)
        simp only [tcmKey] at hlo hhi
        omega
      · simp only [tcmKey] at hlo hhi
        omega

/-- Every entry of a list that keeps apart comes to stand. -/
theorem entries_held (img : List Byte) {ret : Nat → Bool} (l : List Entry) (hfit : ∀ e ∈ l, EntryFits e) (hapart : entriesApart l = true)
    (hret : ∀ c, s.retired p 0 c = ret c) : ∀ e ∈ l, EntryHeld p img ret e (forAll l (storeEntry p img) s) := by
  induction l generalizing s with
  | nil => exact fun e he => absurd he List.not_mem_nil
  | cons x xs ih =>
    unfold entriesApart at hapart
    rw [Bool.and_eq_true, List.all_eq_true] at hapart
    obtain ⟨hx, hxs⟩ := hapart
    have hfits : ∀ e ∈ xs, EntryFits e := fun e he => hfit e (List.mem_cons_of_mem x he)
    have hnext : ∀ c, (storeEntry p img x s).retired p 0 c = ret c := fun c => (State.retired_of_regs (storeEntry_regs ..) p 0 c).trans (hret c)
    intro e he
    rcases List.mem_cons.mp he with rfl | he
    · refine forAll_induct (EntryHeld p img ret e) xs _ (storeEntry_held (hfit e List.mem_cons_self) img hret) fun f hf v hv => ?_
      exact hv.store (hfit e List.mem_cons_self) (hfits f hf) (by simpa using hx f hf)
    · exact ih hfits hxs hnext e he

theorem headerOk_entries {img : List Byte} (h : headerOk img = true) : (∀ e ∈ imgEntries img, EntryFits e) ∧ entriesApart (imgEntries img) = true := by
  unfold headerOk at h
  simp only [Bool.and_eq_true, List.all_eq_true, decide_eq_true_eq] at h
  obtain ⟨⟨-, hentries⟩, hapart⟩ := h
  exact ⟨fun e he => entryFits_of_region (hentries e he).2, hapart⟩

/-- The image's entries stand in the Peak's memories. -/
theorem loadImage_held {img : List Byte} (h : headerOk img = true) (s : State) : ∀ e ∈ imgEntries img,
    EntryHeld p img (s.retired p 0) e (loadImage p img s) := by
  obtain ⟨hfit, hapart⟩ := headerOk_entries h
  rw [loadImage_eq]
  exact entries_held img _ hfit hapart fun _ => rfl

end Sys2Proof.Machine
end

section
/-! CERTIFICATE. Handover to the boot cores (R71, R115, R156), and the statement on self-tests and handover. -/

namespace Sys2Proof.Machine

variable {s t u : State} {p q : PeakId}

/-! ### The boot run of a core -/

theorem sysStatus_apart (c : Fin 8) : UnitsApart (Reg.sysCoreStatus c.val) := by
  have hc := c.isLt
  simp only [Reg.sysCoreStatus, UnitsApart]
  omega

/-- The status of core k shows a boot run. -/
def bootStatusShown (k : CoreSel) (s : State) : State :=
  ((s.setFld k.peak (Fd.sysCoreStatusState k.core.val) 1).setFld k.peak (Fd.sysCoreStatusTask k.core.val) 0xFF).setFld k.peak
    (Fd.sysCoreStatusSummit k.core.val) 0

/-- The boot run begins on a core that is not retired. -/
def bootBegun (k : CoreSel) (s : State) : State :=
  let s := bootStatusShown k (s.setCore k (({} : Core).enter 0 ((s.peak k.peak).cycles64 / 64)))
  tracePut k.peak 1 (k.peak.num * 2 ^ 27 + k.core.val * 2 ^ 24 + 0xFF * 2 ^ 16 + s.stamp) s

theorem bootRun_eq (k : CoreSel) (s : State) : bootRun k s = if s.retired k.peak 0 k.core.val then s else bootBegun k s := rfl

theorem tracePut_units (p : PeakId) (ty pay : Nat) (h : UnitsKept s t) : UnitsKept s (tracePut p ty pay t) :=
  h.trans ((tracePut_frame p ty pay (RegFrame.refl eventMask t)).units (fun _ => eventMask_units) (by decide))

theorem bootBegun_units (k : CoreSel) (h : UnitsKept s t) : UnitsKept s (bootBegun k t) := by
  have hcore : UnitsKept s (t.setCore k (({} : Core).enter 0 ((t.peak k.peak).cycles64 / 64))) := RegFrame.of_regs h (State.setCore_regs ..)
  exact tracePut_units _ _ _ (UnitsKept.setFld (UnitsKept.setFld (UnitsKept.setFld hcore _ _ _ (sysStatus_apart k.core)) _ _ _ (sysStatus_apart k.core)) _ _ _
    (sysStatus_apart k.core))

theorem bootRun_units (k : CoreSel) (h : UnitsKept s t) : UnitsKept s (bootRun k t) := by
  rw [bootRun_eq]
  split
  · exact h
  · exact bootBegun_units k h

/-- Core k starts at address 0 and shows the boot run. -/
def BootStarted (k : CoreSel) (s : State) : Prop :=
  (s.core k).pc = 0 ∧ s.fld k.peak (Fd.sysCoreStatusState k.core.val) = 1 ∧ s.fld k.peak (Fd.sysCoreStatusTask k.core.val) = 0xFF

theorem eventMask_sysStatus (c : Fin 8) : eventMask (Reg.sysCoreStatus c.val) = 0 := by
  have hc := c.isLt
  have hne : ∀ r, 0x40001000 ≤ r → Reg.sysCoreStatus c.val ≠ r := fun r hr => by simp only [Reg.sysCoreStatus]; omega
  have hlt : Reg.sysCoreStatus c.val < 0x40001000 := by simp only [Reg.sysCoreStatus]; omega
  have htrv : ¬(Reg.sysCoreStatus c.val = Reg.trvStatus ∨ Reg.sysCoreStatus c.val = Reg.trvMonCycle ∨ Reg.sysCoreStatus c.val = Reg.trvEvWatchCnt) :=
    not_or.mpr ⟨hne _ (by decide), not_or.mpr ⟨hne _ (by decide), hne _ (by decide)⟩⟩
  unfold eventMask
  rw [if_neg htrv, if_neg (hne _ (by decide)), if_neg (hne _ (by decide)), if_neg (hne _ (by decide)), if_neg (by omega), if_neg (by omega),
    if_neg (by omega), if_neg (by omega)]

theorem tracePut_sysStatus (p q : PeakId) (ty pay : Nat) (s : State) (c : Fin 8) :
    (tracePut p ty pay s).reg q (Reg.sysCoreStatus c.val) = s.reg q (Reg.sysCoreStatus c.val) :=
  RegFrame.reg (tracePut_frame p ty pay (RegFrame.refl eventMask s)) q (sysStatus_apart c).1 (eventMask_sysStatus c)

theorem tracePut_core (p : PeakId) (ty pay : Nat) (s : State) (k : CoreSel) : (tracePut p ty pay s).core k = s.core k :=
  core_of_cores ((tracePut_upd (Upd.refl 211106232532993 s) (by decide)).cores (by decide)) k

theorem BootStarted.of_same {k : CoreSel} (h : BootStarted k s) (hc : t.core k = s.core k)
    (hr : t.reg k.peak (Reg.sysCoreStatus k.core.val) = s.reg k.peak (Reg.sysCoreStatus k.core.val)) : BootStarted k t := by
  have hfld : ∀ f : Fld, f.addr = Reg.sysCoreStatus k.core.val → t.fld k.peak f = s.fld k.peak f := fun f hf => by
    unfold State.fld
    rw [hf, hr]
  unfold BootStarted
  rw [hc, hfld _ rfl, hfld _ rfl]
  exact h

theorem bootStatusShown_core (k j : CoreSel) (s : State) : (bootStatusShown k s).core j = s.core j := by simp [bootStatusShown]

theorem bootBegun_starts (k : CoreSel) (s : State) : BootStarted k (bootBegun k s) := by
  refine BootStarted.of_same (s := bootStatusShown k (s.setCore k (({} : Core).enter 0 ((s.peak k.peak).cycles64 / 64)))) ⟨?_, ?_, ?_⟩
    (tracePut_core ..) (tracePut_sysStatus ..)
  · rw [bootStatusShown_core, State.core_setCore_same]
    rfl
  · unfold bootStatusShown
    rw [State.fld_setFld_apart _ _ (f := Fd.sysCoreStatusSummit k.core.val) (g := Fd.sysCoreStatusState k.core.val) _ (le_refl _) (le_lit rfl) rfl
        (Or.inr (le_lit rfl)),
      State.fld_setFld_apart _ _ (f := Fd.sysCoreStatusTask k.core.val) (g := Fd.sysCoreStatusState k.core.val) _ (le_lit rfl) (le_lit rfl) rfl
        (Or.inr (le_lit rfl))]
    exact State.fld_setFld _ _ (f := Fd.sysCoreStatusState k.core.val) 1 (le_lit rfl) (le_lit rfl)
  · unfold bootStatusShown
    rw [State.fld_setFld_apart _ _ (f := Fd.sysCoreStatusSummit k.core.val) (g := Fd.sysCoreStatusTask k.core.val) _ (le_refl _) (le_lit rfl) rfl
        (Or.inl (le_lit rfl))]
    exact State.fld_setFld _ _ (f := Fd.sysCoreStatusTask k.core.val) 0xFF (le_lit rfl) (le_lit rfl)

theorem sysStatus_ne {x c : Fin 8} (h : c ≠ x) : Reg.sysCoreStatus c.val ≠ Reg.sysCoreStatus x.val := fun he => h (Fin.ext (by
  simp only [Reg.sysCoreStatus] at he
  omega))

/-- A boot run of another core leaves this one. -/
theorem bootBegun_other {c x : Fin 8} (h : c ≠ x) (p : PeakId) (hc : BootStarted ⟨p, c⟩ s) : BootStarted ⟨p, c⟩ (bootBegun ⟨p, x⟩ s) := by
  have hkey : regKey p (Reg.sysCoreStatus c.val) ≠ regKey p (Reg.sysCoreStatus x.val) := regKey_ne (sysStatus_ne h) (sysStatus_apart c).1 (sysStatus_apart x).1
  refine hc.of_same ?_ ?_
  · refine (tracePut_core ..).trans ((bootStatusShown_core ..).trans (State.core_setCore_ne _ _ fun he => h ?_))
    exact congrArg CoreSel.core he
  · refine (tracePut_sysStatus ..).trans ?_
    unfold bootStatusShown
    rw [State.reg_setFld_ne _ (f := Fd.sysCoreStatusSummit x.val) _ hkey, State.reg_setFld_ne _ (f := Fd.sysCoreStatusTask x.val) _ hkey,
      State.reg_setFld_ne _ (f := Fd.sysCoreStatusState x.val) _ hkey, State.reg_setCore]

/-- The boot run starts on the named cores. -/
def bootCores (p : PeakId) (l : List (Fin 8)) (s : State) : State := forAll l (fun c s => bootRun ⟨p, c⟩ s) s

theorem bootCores_units (p : PeakId) (l : List (Fin 8)) (h : UnitsKept s t) : UnitsKept s (bootCores p l t) :=
  RegFrame.forAll _ _ h fun c _ _ hv => bootRun_units ⟨p, c⟩ hv

theorem bootCores_keeps (p : PeakId) (l : List (Fin 8)) (s : State) : Upd 211106232532997 s (bootCores p l s) :=
  Upd.forAll (Upd.refl _ s) fun _ _ hv => bootRun_upd hv (by decide)

/-- Each named core that is not retired runs. -/
theorem bootCores_started {l : List (Fin 8)} {c : Fin 8} (hc : c ∈ l) (p : PeakId) (hret : s.retired p 0 c.val = false) :
    BootStarted ⟨p, c⟩ (bootCores p l s) := by
  have hstep : ∀ (x : Fin 8) (v : State), (bootRun ⟨p, x⟩ v).retired p 0 c.val = v.retired p 0 c.val := fun x v =>
    UnitsKept.retired (bootRun_units ⟨p, x⟩ (RegFrame.refl _ v)) p (by decide) c.val
  refine forAll_reaches (fun v => v.retired p 0 c.val = false → BootStarted ⟨p, c⟩ v) l (fun x v => bootRun ⟨p, x⟩ v) hc (fun v hv => ?_)
    (fun x _ v hv hx => ?_) ?_
  · rw [hstep] at hv
    rw [bootRun_eq, if_neg (by rw [hv]; decide)]
    exact bootBegun_starts _ v
  · rw [hstep] at hx
    rw [bootRun_eq]
    split
    · exact hv hx
    · by_cases hxc : c = x
      · subst hxc
        exact bootBegun_starts _ v
      · exact bootBegun_other hxc p (hv hx)
  · exact (UnitsKept.retired (bootCores_units p l (RegFrame.refl _ s)) p (by decide) c.val).trans hret

/-! ### The handover (R71) -/

/-- The image stands in the memories, and BOOT shows the handover. -/
def handoverShown (p : PeakId) (img : List Byte) (s : State) : State :=
  let s := loadImage p img (setBoot p .done s)
  (s.setFld p Fd.bootHandoverTimeUs (sinceRelease p s)).setBit p Fd.bootStatusAlone (!(s.peak p.other).up)

/-- The Gendarme notes it, and PWRGD rises outside the safe state. -/
def handoverNoted (p : PeakId) (s : State) : State :=
  { s with gdm := { s.gdm with waited := s.gdm.waited.set p false, handoverAt := s.gdm.handoverAt.set p s.tick }
           power := { s.power with pwrgd := s.power.pwrgd || !s.safe } }

/-- The event of the handover, where a core starts. -/
def handoverEvent (p : PeakId) (img : List Byte) (s : State) : State := if imgWord img 0x14 % 256 = 0 then s else fire p Ev.bootDone s

/-- The cores of START_MASK. -/
def startCores (img : List Byte) : List (Fin 8) := (List.finRange 8).filter (fun c => decide (bits (imgWord img 0x14) c.val c.val = 1))

def handedOver (p : PeakId) (img : List Byte) (s : State) : State :=
  bootCores p (startCores img) (handoverEvent p img (handoverNoted p (handoverShown p img s)))

theorem handover_eq {slot : Nat} {img : List Byte} (hb : s.power.boot.get p = .ready slot) (hpost : s.bit p Fd.bstStatusPostDone = true)
    (himg : slotImage s slot = some img) : handover p s = handedOver p img s := by
  unfold handover
  rw [hb]
  dsimp only
  rw [if_pos hpost, himg]
  rfl

theorem handoverNoted_regs (p : PeakId) (s : State) : (handoverNoted p s).regs = s.regs := rfl

theorem handedOver_units (p : PeakId) (img : List Byte) (s : State) : UnitsKept (handoverShown p img s) (handedOver p img s) := by
  have hnoted : UnitsKept (handoverShown p img s) (handoverNoted p (handoverShown p img s)) := RegFrame.of_regs (RegFrame.refl _ _) (handoverNoted_regs ..)
  refine bootCores_units p _ ?_
  unfold handoverEvent
  split
  · exact hnoted
  · exact hnoted.trans ((fire_frame p _ (RegFrame.refl eventMask _)).units (fun _ => eventMask_units) (by decide))

theorem handedOver_keeps (p : PeakId) (img : List Byte) (s : State) : Upd 248523987615757 (handoverNoted p (handoverShown p img s)) (handedOver p img s) := by
  have hevent : Upd 248523987615757 (handoverNoted p (handoverShown p img s)) (handoverEvent p img (handoverNoted p (handoverShown p img s))) :=
    Upd.ite (Upd.refl _ _) (fire_upd (Upd.refl _ _) (by decide))
  exact hevent.trans ((bootCores_keeps p _ _).mono (by decide))

theorem handoverNoted_same (p : PeakId) (s : State) : (handoverNoted p s).mem = s.mem ∧ (handoverNoted p s).power.boot = s.power.boot := ⟨rfl, rfl⟩

theorem loadImage_keeps (p : PeakId) (img : List Byte) (s : State) : Upd 2 s (loadImage p img s) := loadImage_upd (Upd.refl 2 s) (by decide)

theorem handoverShown_same (p : PeakId) (img : List Byte) (s : State) : (handoverShown p img s).mem = (loadImage p img (setBoot p .done s)).mem ∧
    (handoverShown p img s).power = (setBoot p .done s).power := by
  have hload := loadImage_keeps p img (setBoot p .done s)
  unfold handoverShown
  dsimp only
  exact ⟨by rw [State.setBit_mem, State.setFld_mem], by rw [State.setBit_power, State.setFld_power, hload.power (by decide)]⟩

theorem bootFlds_key : regKey p Reg.bootHandover ≠ regKey p Reg.bootStatus := regKey_ne (by decide) (by decide) (by decide)

/-- BOOT shows the time since the release, and whether the Peak is alone. -/
theorem handoverShown_shows (p : PeakId) (img : List Byte) (s : State) :
    (handoverShown p img s).fld p Fd.bootHandoverTimeUs = (s.tick - (s.peak p).releasedAt) / 400 % 2 ^ 16 ∧
    (handoverShown p img s).bit p Fd.bootStatusAlone = !(s.peak p.other).up := by
  have hload := loadImage_keeps p img (setBoot p .done s)
  unfold handoverShown
  dsimp only
  generalize loadImage p img (setBoot p .done s) = u at hload
  have htick : u.tick = s.tick := hload.tick
  have hreleased : (u.peak p).releasedAt = (s.peak p).releasedAt := (hload.peak p).releasedAt (by decide)
  have hup : (u.peak p.other).up = (s.peak p.other).up := (hload.peak p.other).up (by decide)
  unfold State.setBit
  refine ⟨?_, ?_⟩
  · rw [State.fld_setFld_ne _ (f := Fd.bootStatusAlone) (g := Fd.bootHandoverTimeUs) _ bootFlds_key,
      State.fld_setFld _ p (f := Fd.bootHandoverTimeUs) _ (by decide) (by decide), sinceRelease, htick, hreleased]
    rfl
  · rw [State.bit_setFld _ p (f := Fd.bootStatusAlone) _ (by decide) (by decide), hup]
    cases (s.peak p.other).up <;> rfl

theorem handoverShown_retired (p : PeakId) (img : List Byte) (s : State) (c : Nat) : (handoverShown p img s).retired p 0 c = s.retired p 0 c := by
  have hboot : ∀ {a : Nat}, InBst a → (handoverShown p img s).reg p a = s.reg p a := fun {a} ha => by
    have hne : ∀ r, r / 0x10000 = 0x4017 → r < 2 ^ 32 → regKey p a ≠ regKey p r := fun r hr hlt => regKey_ne (fun he => by
      simp only [InBst] at ha
      rw [he] at ha
      omega) ha.lt hlt
    have hregs : (loadImage p img (setBoot p .done s)).regs = s.regs := (loadImage_keeps p img _).regs (by decide)
    unfold handoverShown State.setBit
    dsimp only
    rw [State.reg_setFld_ne _ (f := Fd.bootStatusAlone) _ (hne Reg.bootStatus (by decide) (by decide)),
      State.reg_setFld_ne _ (f := Fd.bootHandoverTimeUs) _ (hne Reg.bootHandover (by decide) (by decide)), State.reg_of_regs hregs]
  exact State.retired_of_reg (hboot (bstDone_in (by decide))) (hboot (bstPass_in (by decide))) c

theorem handedOver_byte (p : PeakId) (img : List Byte) (s : State) (k : Nat) : (handedOver p img s).byte k = (loadImage p img (setBoot p .done s)).byte k := by
  unfold State.byte
  rw [(handedOver_keeps p img s).mem (by decide), (handoverNoted_same ..).1, (handoverShown_same ..).1]

/-- Each core of START_MASK that is not retired runs the image. -/
theorem handedOver_started (p : PeakId) (img : List Byte) (s : State) (c : Fin 8) (hc : bits (imgWord img 0x14) c.val c.val = 1)
    (hret : s.retired p 0 c.val = false) : BootStarted ⟨p, c⟩ (handedOver p img s) := by
  have hmem : c ∈ startCores img := List.mem_filter.mpr ⟨List.mem_finRange c, decide_eq_true hc⟩
  refine bootCores_started hmem p ?_
  have hnoted : (handoverNoted p (handoverShown p img s)).retired p 0 c.val = s.retired p 0 c.val :=
    (State.retired_of_regs (handoverNoted_regs ..) p 0 c.val).trans (handoverShown_retired ..)
  unfold handoverEvent
  split
  · exact hnoted.trans hret
  · exact (UnitsKept.retired ((fire_frame p _ (RegFrame.refl eventMask _)).units (fun _ => eventMask_units) (by decide)) p (by decide) c.val).trans (hnoted.trans hret)

/-- The acknowledgements are all that the rest of the command touches. -/
theorem acksAgain_eq (old s : State) : ∃ g, acksAgain old s = { s with gdm := g } := by
  unfold acksAgain
  split
  · exact ⟨s.gdm, rfl⟩
  · exact ⟨_, rfl⟩

theorem handover_completes {slot : Nat} {img : List Byte} (hb : s.power.boot.get p = .ready slot) (hpost : s.bit p Fd.bstStatusPostDone = true)
    (himg : slotImage s slot = some img) (hok : headerOk img = true) (hrun : s.running = true) :
    Completes (.handover p) s (fun t => t.power.boot.get p = .done ∧ t.fld p Fd.bootHandoverTimeUs = (s.tick - (s.peak p).releasedAt) / 400 % 2 ^ 16 ∧
      t.bit p Fd.bootStatusAlone = !(s.peak p.other).up ∧
      (∀ c : Fin 8, bits (imgWord img 0x14) c.val c.val = 1 → s.retired p 0 c.val = false → (t.core ⟨p, c⟩).pc = 0 ∧
        t.fld p (Fd.sysCoreStatusState c.val) = 1 ∧ t.fld p (Fd.sysCoreStatusTask c.val) = 0xFF) ∧
      ∀ e ∈ imgEntries img, ∀ i < e.2.2.1,
        (0x20000 ≤ e.2.1 → (t.byte (peakKey p (e.2.1 + i))).toNat = imgByte img (1024 + e.1 + i)) ∧
        (e.2.1 < 0x20000 → ∀ c : Fin 8, bits e.2.2.2 c.val c.val = 1 → s.retired p 0 c.val = false →
          (t.byte (tcmKey ⟨p, c⟩ (e.2.1 + i))).toNat = imgByte img (1024 + e.1 + i))) := by
  obtain ⟨g, hacks⟩ := acksAgain_eq s (handedOver p img s)
  have he : exec (.handover p) s = .next { handedOver p img s with gdm := g } := by
    rw [exec_handover, execHandover, if_pos hrun, handover_eq hb hpost himg, hacks]
  obtain ⟨htime, halone⟩ := handoverShown_shows p img s
  have hunits := handedOver_units p img s
  have hboot : (handedOver p img s).power.boot = s.power.boot.set p .done := by
    rw [(handedOver_keeps p img s).power (by decide), (handoverNoted_same ..).2, (handoverShown_same ..).2]
    rfl
  have hstarted := handedOver_started p img s
  have hbytes := handedOver_byte p img s
  have hheld := loadImage_held (p := p) hok (setBoot p .done s)
  have htimeEnd := (UnitsKept.fld hunits p (f := Fd.bootHandoverTimeUs) (by decide) (Or.inr (by decide))).trans htime
  have haloneEnd := (UnitsKept.bit hunits p (f := Fd.bootStatusAlone) (by decide) (Or.inr (by decide))).trans halone
  generalize handedOver p img s = u at *
  refine ⟨_, he, ?_, htimeEnd, haloneEnd, hstarted, fun e hin i hi => ⟨fun hbig => ?_, fun hsmall c hc hret => ?_⟩⟩
  · exact (congrArg (fun b => b.get p) hboot).trans ((Two.get_set ..).trans (if_pos rfl))
  · exact congrArg BitVec.toNat ((hbytes _).trans ((hheld e hin i hi).1 hbig))
  · exact congrArg BitVec.toNat ((hbytes _).trans ((hheld e hin i hi).2 hsmall c hc hret))

/-- Settles O45: the power-on results, handover, a test on demand asked for, and one that completes, one lemma apiece. -/
theorem selfTestAndHandover : Obligations.SelfTestAndHandover := by
  unfold Obligations.SelfTestAndHandover
  intro a b shared p m val pass s seg
  refine ⟨fun h hm hsafe => ⟨fun ha hb h5 h7 => ?_, fun hfail => ?_⟩, fun slot img hb hpost himg hok hrun => handover_completes hb hpost himg hok hrun,
    bistStart_completes m val s, fun w mask hup hb hw hmask => ⟨fun hpass hsafe => ?_, ?_⟩⟩
  · exact selfTestPassed_completes a b shared h hm ha hb h5 h7
  · exact selfTestFailed_completes a b shared h hm hsafe hfail
  · exact bistPassed_completes pass hw hmask hup hb hpass hsafe
  · rintro rfl hfail hrole
    exact bistFailed_completes pass hup hb hfail hrole

end Sys2Proof.Machine
end

section
/-! SUPPORT and CERTIFICATE. What the scalar, vector and phase instructions do (R132 to R140, R147): each is one of the shared shapes of Laws/Cores, and
what remains is its result. -/

namespace Sys2Proof.Machine

/-! ### From a shared shape to an instruction -/

theorem Did.completesOn {i : Instr} {s t : State} {k : CoreSel} {len : Nat} {u : Use} {W : Core → Core → Prop} (h : Did s t k len u W)
    (he : exec i s = .next t) : CompletesOn i k len u s W := ⟨t, he, h.frame, h.issued, h.write⟩

section
variable {i : Instr} {x : Slot} {s : State} {reads : List Nat} {lat : Nat}

theorem scalarOp_completes {d : Fin 32} {f : Core → Res} {r : Res} (h : s.runs x.toCoreSel 4) (hon : (s.core x.toCoreSel).on x.pred.val = true)
    (he : exec i s = .next (scalarOp x d reads lat f s)) (hr : f (s.core x.toCoreSel) = r) :
    CompletesOn i x.toCoreSel 4 { reads := kQ x.pred.val :: reads, writes := [kS d.val], lat := lat } s (ScalarWrite d.val r) :=
  hr ▸ (scalarOp_spec d reads lat f h hon).completesOn he

theorem divOp_completes {d : Fin 32} {f : Core → Res} {r : Res} (h : s.runs x.toCoreSel 4) (hon : (s.core x.toCoreSel).on x.pred.val = true)
    (he : exec i s = .next (divOp x d reads f s)) (hr : f (s.core x.toCoreSel) = r) :
    CompletesOn i x.toCoreSel 4 { reads := kQ x.pred.val :: reads, writes := [kS d.val], lat := 8, div := true } s (ScalarWrite d.val r) :=
  hr ▸ (divOp_spec d reads f h hon).completesOn he

theorem compareOp_completes {d : Fin 4} {f : Core → Bool × FlagSet} {b : Bool} {fl : FlagSet} (h : s.runs x.toCoreSel 4)
    (hon : (s.core x.toCoreSel).on x.pred.val = true) (he : exec i s = .next (compareOp x d reads lat f s)) (hr : f (s.core x.toCoreSel) = (b, fl)) :
    CompletesOn i x.toCoreSel 4 { reads := kQ x.pred.val :: reads, writes := [kQ d.val], lat := lat } s
      (PredWrite d.val (if b then 0xF else 0) 0xF fl) := by
  have hdid := compareOp_spec d reads lat f h hon
  rw [hr] at hdid
  exact hdid.completesOn he

theorem predOp_completes {d : Fin 4} {f : Core → BitVec 4} {v : BitVec 4} (h : s.runs x.toCoreSel 4) (he : exec i s = .next (predOp x d reads f s))
    (hv : f (s.core x.toCoreSel) = v) :
    CompletesOn i x.toCoreSel 4 { reads := kQ x.pred.val :: reads, writes := [kQ d.val] } s
      (PredWrite d.val v ((s.core x.toCoreSel).rq x.pred.val) 0) :=
  hv ▸ (predOp_spec d reads f h).completesOn he

theorem phaseOp_completes {d : Fin 4} {f : Core → BitVec 64 × FlagSet} {v : BitVec 64} {fl : FlagSet} (h : s.runs x.toCoreSel 4)
    (hon : (s.core x.toCoreSel).on x.pred.val = true) (he : exec i s = .next (phaseOp x d reads lat f s)) (hr : f (s.core x.toCoreSel) = (v, fl)) :
    CompletesOn i x.toCoreSel 4 { reads := kQ x.pred.val :: reads, writes := [kP d.val], lat := lat } s (PhaseWrite d.val v fl) := by
  have hdid := phaseOp_spec d reads lat f h hon
  rw [hr] at hdid
  exact hdid.completesOn he

end

theorem longOp_completes {i : Instr} {x : Slot} {s : State} {reads : List Nat} {lat : Nat} {d : Fin 32} {f : Core → Res} {r : Res}
    (h : s.runs x.toCoreSel 8) (hon : (s.core x.toCoreSel).on x.pred.val = true) (he : exec i s = .next (longOp x d reads lat f s))
    (hr : f (s.core x.toCoreSel) = r) :
    let occ := if (s.core x.toCoreSel).pc.toNat % 8 = 0 then 1 else 2
    CompletesOn i x.toCoreSel 8 { reads := kQ x.pred.val :: reads, writes := [kS d.val], lat := lat, occ := occ } s (ScalarWrite d.val r) := by
  have hocc : 1 + longExtra s x.toCoreSel = if (s.core x.toCoreSel).pc.toNat % 8 = 0 then 1 else 2 := by
    unfold longExtra
    split <;> rfl
  exact hocc ▸ hr ▸ (longOp_spec d reads lat f h hon).completesOn he

theorem VectorWrite.congr {d : Nat} {mask : BitVec 4} {f g : Nat → Res} {c c' : Core} (h : VectorWrite d mask f c c') (hfg : ∀ l < 4, f l = g l) :
    VectorWrite d mask g c c' where
  dest := fun l hl => hfg l hl ▸ h.dest l hl
  others := h.others
  flags := h.flags.trans (List.foldl_ext _ _ _ fun b l hl => by rw [hfg l (List.mem_range.mp hl)])
  rest := h.rest

theorem vecOp_completes {i : Instr} {x : Slot} {s : State} {reads : List Nat} {lat : Nat} {d : Fin 8} {f : Core → Nat → Res} {g : Nat → Res}
    (h : s.runs x.toCoreSel 4) (he : exec i s = .next (vecOp x d reads lat f s)) (hg : ∀ l < 4, f (s.core x.toCoreSel) l = g l) :
    CompletesOn i x.toCoreSel 4 { reads := kQ x.pred.val :: reads, writes := [kV d.val], lat := lat } s
      (VectorWrite d.val ((s.core x.toCoreSel).rq x.pred.val) g) := by
  obtain ⟨hframe, hissued, hwrite⟩ := vecOp_spec d reads lat f h
  exact ⟨_, he, hframe, hissued, hwrite.congr hg⟩

/-! ### Integer results (R132) -/

theorem mul_eq_ofNat (u v : Word) : u * v = BitVec.ofNat 32 (u.toNat * v.toNat) := by
  rw [BitVec.ofNat_mul, BitVec.ofNat_toNat, BitVec.ofNat_toNat, BitVec.setWidth_eq, BitVec.setWidth_eq]

theorem slt_pick_min (u v : Word) : (if v.slt u then v else u) = BitVec.ofInt 32 (min u.toInt v.toInt) := by
  by_cases h : v.toInt < u.toInt
  · rw [if_pos (BitVec.slt_iff_toInt_lt.mpr h), min_eq_right h.le, BitVec.ofInt_toInt]
  · rw [if_neg (mt BitVec.slt_iff_toInt_lt.mp h), min_eq_left (not_lt.mp h), BitVec.ofInt_toInt]

theorem slt_pick_max (u v : Word) : (if u.slt v then v else u) = BitVec.ofInt 32 (max u.toInt v.toInt) := by
  by_cases h : u.toInt < v.toInt
  · rw [if_pos (BitVec.slt_iff_toInt_lt.mpr h), max_eq_right h.le, BitVec.ofInt_toInt]
  · rw [if_neg (mt BitVec.slt_iff_toInt_lt.mp h), max_eq_left (not_lt.mp h), BitVec.ofInt_toInt]

theorem ult_pick_min (u v : Word) : (if v.ult u then v else u) = BitVec.ofNat 32 (min u.toNat v.toNat) := by
  by_cases h : v.toNat < u.toNat
  · rw [if_pos (BitVec.ult_iff_toNat_lt.mpr h), min_eq_right h.le, BitVec.ofNat_toNat, BitVec.setWidth_eq]
  · rw [if_neg (mt BitVec.ult_iff_toNat_lt.mp h), min_eq_left (not_lt.mp h), BitVec.ofNat_toNat, BitVec.setWidth_eq]

theorem ult_pick_max (u v : Word) : (if u.ult v then v else u) = BitVec.ofNat 32 (max u.toNat v.toNat) := by
  by_cases h : u.toNat < v.toNat
  · rw [if_pos (BitVec.ult_iff_toNat_lt.mpr h), max_eq_right h.le, BitVec.ofNat_toNat, BitVec.setWidth_eq]
  · rw [if_neg (mt BitVec.ult_iff_toNat_lt.mp h), max_eq_left (not_lt.mp h), BitVec.ofNat_toNat, BitVec.setWidth_eq]

theorem plain_congr {v w : Word} (h : v = w) : (⟨v, flNone⟩ : Res) = ⟨w, 0⟩ := congrArg (Res.mk · 0) h

/-- Settles O5: each instruction is a `scalarOp` whose result carries no flag; the products and the picks are put as numbers. -/
theorem integerResultsAndFrame : Obligations.IntegerResultsAndFrame := by
  unfold Obligations.IntegerResultsAndFrame
  intro x d a b imm s h hon k u v two one done
  have reg {i : Instr} {lat : Nat} {f : Word → Word → Word} {w : Word} (he : exec i s = .next (intOp x d a b lat f s)) (hw : f u v = w) :
      done i (two lat) w := scalarOp_completes h hon he (plain_congr hw)
  have lit {i : Instr} {f : Word → Word} (he : exec i s = .next (immOp x d a f s)) : done i one (f u) := scalarOp_completes h hon he rfl
  exact ⟨reg (exec_add ..) rfl, reg (exec_sub ..) rfl, reg (exec_and ..) rfl, reg (exec_or ..) rfl, reg (exec_xor ..) rfl, reg (exec_shl ..) rfl,
    reg (exec_shr ..) rfl, reg (exec_sar ..) rfl, reg (exec_mul ..) (mul_eq_ofNat u v), reg (exec_min ..) (slt_pick_min u v),
    reg (exec_max ..) (slt_pick_max u v), reg (exec_minu ..) (ult_pick_min u v), reg (exec_maxu ..) (ult_pick_max u v), lit (exec_addi ..),
    lit (exec_andi ..), lit (exec_ori ..), lit (exec_xori ..), lit (exec_shli ..), lit (exec_shri ..), lit (exec_sari ..)⟩

/-! ### Compares and predicates (R133, R134, R136) -/

theorem slt_eq_decide (u v : Word) : u.slt v = decide (u.toInt < v.toInt) := rfl
theorem not_slt_eq_decide (u v : Word) : (!u.slt v) = decide (v.toInt ≤ u.toInt) := by
  rw [slt_eq_decide, ← decide_not, decide_eq_decide, not_lt]
theorem not_ult_eq_decide (u v : Word) : (!u.ult v) = decide (v.toNat ≤ u.toNat) := by
  rw [BitVec.ult, ← decide_not, decide_eq_decide, not_lt]
theorem beq_eq_decide_toInt (u v : Word) : (u == v) = decide (u.toInt = v.toInt) := decide_eq_decide.mpr BitVec.toInt_inj.symm
theorem bne_eq_decide_toInt (u v : Word) : (u != v) = decide (u.toInt ≠ v.toInt) := by
  rw [bne, beq_eq_decide_toInt, ← decide_not]

theorem sext12_toInt (i : BitVec 12) : (sext12 i).toInt = i.toInt := BitVec.toInt_signExtend_of_le (by decide)
theorem zext12_toNat (i : BitVec 12) : (zext12 i).toNat = i.toNat := BitVec.toNat_setWidth_of_le (by decide)

/-- A NaN operand is unordered: unequal to everything, and INV on a signalling NaN, in LT and LE on any (R136). -/
theorem fpCompare_nan {a b : Word} (h : ((FVal.ofWord a).isNan || (FVal.ofWord b).isNan) = true) (r : FRel) :
    fpCompare r a b = (decide (r = .ne ∨ r = .un), if r = .lt ∨ r = .le then flInv else snanFlag (.ofWord a) (.ofWord b)) := by
  unfold fpCompare
  rw [if_pos h]
  cases r <;> rfl

/-- Finite operands compare as the integers they are multiples of 2^-149 of, without a flag (R136). -/
theorem fpCompare_fin {a b : Word} {p q : Bool} {m n : Nat} (ha : FVal.ofWord a = .fin p m) (hb : FVal.ofWord b = .fin q n) (r : FRel) :
    fpCompare r a b = (match r with
      | .eq => decide ((FVal.ofWord a).int = (FVal.ofWord b).int)
      | .ne => decide ((FVal.ofWord a).int ≠ (FVal.ofWord b).int)
      | .lt => decide ((FVal.ofWord a).int < (FVal.ofWord b).int)
      | .le => decide ((FVal.ofWord a).int ≤ (FVal.ofWord b).int)
      | .un => false, 0) := by
  unfold fpCompare
  rw [ha, hb]
  cases r <;> rfl

theorem allLanes_all (q : BitVec 4) :
    allLanes (decide (q = 0xF)) = if q.getLsbD 0 && q.getLsbD 1 && q.getLsbD 2 && q.getLsbD 3 then 0xF else 0 := by
  revert q
  decide

theorem allLanes_any (q : BitVec 4) :
    allLanes (decide (q ≠ 0)) = if q.getLsbD 0 || q.getLsbD 1 || q.getLsbD 2 || q.getLsbD 3 then 0xF else 0 := by
  revert q
  decide

/-- Settles O6: the compares are `compareOp`s, the predicate operations `predOp`s, and GETQ a `scalarOp`; the relations are put as those of numbers. -/
theorem comparesAndPredicates : Obligations.ComparesAndPredicates := by
  unfold Obligations.ComparesAndPredicates
  refine ⟨?_, ?_, ?_⟩
  · intro x d a b imm s h hon k u v two one done
    have reg {i : Instr} {f : Word → Word → Bool} {r : Bool} (he : exec i s = .next (relOp x d a b f s)) (hr : f u v = r) : done i two r :=
      compareOp_completes h hon he (congrArg (·, 0) hr)
    have lit {i : Instr} {f : Word → Bool} {r : Bool} (he : exec i s = .next (relImm x d a f s)) (hr : f u = r) : done i one r :=
      compareOp_completes h hon he (congrArg (·, 0) hr)
    have sext := sext12_toInt imm
    have zext := zext12_toNat imm
    refine ⟨reg (exec_ceq ..) rfl, reg (exec_cne ..) (decide_not ..).symm, reg (exec_clt ..) rfl, reg (exec_cge ..) (not_slt_eq_decide u v),
      reg (exec_cltu ..) rfl, reg (exec_cgeu ..) (not_ult_eq_decide u v), lit (exec_ceqi ..) ?_, lit (exec_cnei ..) ?_, lit (exec_clti ..) ?_,
      lit (exec_cgei ..) ?_, lit (exec_cltui ..) ?_, lit (exec_cgeui ..) ?_⟩
    · rw [← sext]; exact beq_eq_decide_toInt ..
    · rw [← sext]; exact bne_eq_decide_toInt ..
    · rw [← sext]; rfl
    · rw [← sext]; exact not_slt_eq_decide ..
    · rw [← zext]; rfl
    · rw [← zext]; exact not_ult_eq_decide ..
  · intro x d a b r s h k c two one done
    exact ⟨predOp_completes h (exec_andq ..) rfl, predOp_completes h (exec_orq ..) rfl, predOp_completes h (exec_xorq ..) rfl,
      predOp_completes h (exec_andnq ..) rfl, predOp_completes h (exec_setq ..) rfl, predOp_completes h (exec_allq ..) (allLanes_all _),
      predOp_completes h (exec_anyq ..) (allLanes_any _), fun hon => scalarOp_completes h hon (exec_getq ..) rfl⟩
  · intro x d a b s h hon k u v nan quiet any use done
    have cmp {i : Instr} {f : FRel} {r : Bool} {fl : FlagSet} (he : exec i s = .next (fcmpOp x d a b f s))
        (hr : fpCompare f ((s.core k).rs a.val) ((s.core k).rs b.val) = (r, fl)) : done i r fl := compareOp_completes h hon he hr
    refine ⟨fun hnan => ?_, fun p m q n hu hv => ?_⟩
    · have hany : any = flInv := if_pos hnan
      rw [hany]
      have nans := fpCompare_nan hnan
      exact ⟨cmp (exec_fceq ..) (nans .eq), cmp (exec_fcne ..) (nans .ne), cmp (exec_fclt ..) (nans .lt), cmp (exec_fcle ..) (nans .le),
        cmp (exec_fcun ..) (nans .un)⟩
    · have fins := fpCompare_fin hu hv
      exact ⟨cmp (exec_fceq ..) (fins .eq), cmp (exec_fcne ..) (fins .ne), cmp (exec_fclt ..) (fins .lt), cmp (exec_fcle ..) (fins .le),
        cmp (exec_fcun ..) (fins .un)⟩

/-! ### Long forms (R147) -/

/-- Settles O8: each is a `longOp`, whose extra issue cycle depends on the address alone. -/
theorem longForms : Obligations.LongForms := by
  unfold Obligations.LongForms
  intro x d a imm s h hon k u occ use done
  exact ⟨longOp_completes h hon (exec_li ..) rfl, longOp_completes h hon (exec_addl ..) rfl, longOp_completes h hon (exec_andl ..) rfl,
    longOp_completes h hon (exec_orl ..) rfl, longOp_completes h hon (exec_faddl ..) rfl, longOp_completes h hon (exec_fmull ..) rfl,
    longOp_completes h hon (exec_qmull ..) rfl⟩

/-! ### Vector lanes (R137, R138) -/

/-- Settles O10: each is a `vecOp`, and its lane results are those of the statement. -/
theorem vectorLaneResults : Obligations.VectorLaneResults := by
  unfold Obligations.VectorLaneResults
  intro x d a b r s h k c o u v w vv vva vs vsa v1 done
  have same {i : Instr} {reads : List Nat} {lat : Nat} {f : Core → Nat → Res} (he : exec i s = .next (vecOp x d reads lat f s)) :
      done i { reads := kQ x.pred.val :: reads, writes := [kV d.val], lat := lat } (f c) := vecOp_completes h he fun _ _ => rfl
  exact ⟨same (exec_vadd ..), same (exec_vsub ..), same (exec_vand ..), same (exec_vor ..), same (exec_vxor ..),
    vecOp_completes h (exec_vmul ..) fun l _ => plain_congr (mul_eq_ofNat _ _), same (exec_vshl ..), same (exec_vsar ..), same (exec_vqadd ..),
    same (exec_vqsub ..), same (exec_vqneg ..), same (exec_vqabs ..), same (exec_vqmul ..), same (exec_vqmac ..), same (exec_vqmuls ..),
    same (exec_vqmacs ..), same (exec_vfadd ..), same (exec_vfsub ..), same (exec_vfmul ..), same (exec_vfma ..), same (exec_vfmuls ..),
    same (exec_vfmas ..), same (exec_vfneg ..), same (exec_vfabs ..), same (exec_vfmin ..), same (exec_vfmax ..), same (exec_vq2f ..),
    same (exec_vf2q ..), same (exec_vf2i ..), same (exec_vi2f ..)⟩

theorem getLsbD_lane (n : Nat) {l : Nat} (hl : l < 4) : (BitVec.ofNat 4 (2 ^ n)).getLsbD l = decide (n = l) := by
  rw [BitVec.getLsbD_ofNat, Nat.testBit_two_pow, decide_eq_true hl, Bool.true_and]

/-- The bits gathered lane by lane from 0 up. -/
def laneBits (g : Nat → Bool) (n : Nat) : BitVec 4 := (List.range n).foldl (fun v l => if g l then v ||| BitVec.ofNat 4 (2 ^ l) else v) 0

theorem laneBits_succ (g : Nat → Bool) (n : Nat) :
    laneBits g (n + 1) = if g n then laneBits g n ||| BitVec.ofNat 4 (2 ^ n) else laneBits g n := by
  unfold laneBits
  rw [List.range_succ, List.foldl_append, List.foldl_cons, List.foldl_nil]

theorem getLsbD_laneBits (g : Nat → Bool) (n : Nat) {l : Nat} (hl : l < 4) : (laneBits g n).getLsbD l = (decide (l < n) && g l) := by
  induction n with
  | zero => simp [laneBits]
  | succ n ih =>
    have hnew : (laneBits g (n + 1)).getLsbD l = ((laneBits g n).getLsbD l || (g n && decide (n = l))) := by
      rw [laneBits_succ]
      cases g n
      · exact (Bool.or_false _).symm
      · rw [if_pos rfl, BitVec.getLsbD_or, getLsbD_lane n hl, Bool.true_and]
    rw [hnew, ih]
    rcases lt_trichotomy l n with hlt | rfl | hgt
    · simp [hlt, hlt.ne', Nat.lt_succ_of_lt hlt]
    · simp
    · simp [hgt.ne, hgt.not_gt, show ¬l < n + 1 by omega]

theorem Core.flag_flag (c : Core) (a b : FlagSet) : (c.flag a).flag b = c.flag (a ||| b) := by
  unfold Core.flag
  simp only [BitVec.or_assoc]

/-- Flags set lane by lane are set together. -/
theorem Core.foldl_flag (p : Nat → Bool) (f : Nat → FlagSet) (xs : List Nat) (c : Core) (g : FlagSet) :
    xs.foldl (fun k l => if p l then k.flag (f l) else k) (c.flag g) = c.flag (xs.foldl (fun g l => if p l then g ||| f l else g) g) := by
  induction xs generalizing g with
  | nil => rfl
  | cons l r ih =>
    rw [List.foldl_cons, List.foldl_cons]
    split
    · rw [Core.flag_flag, ih]
    · exact ih g

/-- What a vector compare's governing lanes flag. -/
def laneFlags (q : BitVec 4) (r : Nat → Bool × FlagSet) : FlagSet := (List.range 4).foldl (fun g l => if q.getLsbD l then g ||| (r l).2 else g) 0

theorem vcmpOp_completes {i : Instr} {x : Slot} {d : Fin 4} {a b : Fin 8} {lat : Nat} {f : Word → Word → Bool × FlagSet} {s : State}
    (h : s.runs x.toCoreSel 4) (he : exec i s = .next (vcmpOp x d a b lat f s)) :
    let c := s.core x.toCoreSel
    let r := fun l => f (c.rv a.val l) (c.rv b.val l)
    ∃ w : BitVec 4, (∀ l < 4, w.getLsbD l = (r l).1) ∧
      CompletesOn i x.toCoreSel 4 { reads := [kQ x.pred.val, kV a.val, kV b.val], writes := [kQ d.val], lat := lat } s
        (PredWrite d.val w (c.rq x.pred.val) (laneFlags (c.rq x.pred.val) r)) := by
  intro c r
  refine ⟨laneBits (fun l => (r l).1) 4, fun l hl => ?_, ?_⟩
  · rw [getLsbD_laneBits _ 4 hl, decide_eq_true hl, Bool.true_and]
  · have hflags : ∀ c0 : Core, (List.range 4).foldl (fun k l => if c.lane x.pred.val l then k.flag (r l).2 else k) c0 =
        c0.flag (laneFlags (c.rq x.pred.val) r) := fun c0 => by
      have hfold := Core.foldl_flag (c.lane x.pred.val) (fun l => (r l).2) (List.range 4) c0 flNone
      rwa [Core.flag_none] at hfold
    exact (runCore_did h (hflags _ ▸ Core.frame_setQ ..) fun c' hc => Core.predWrite (hc.trans (hflags _))).completesOn he

/-- One lane written, or none where its own predicate bit is 0 (R138). -/
theorem Core.vectorWrite_lane {c c' : Core} {q d lane : Nat} {w : Word} (hl : lane < 4)
    (h : c'.at_ c = if c.lane q lane then c.setV d lane w else c) :
    VectorWrite d (c.rq q &&& BitVec.ofNat 4 (2 ^ lane)) (fun _ => ⟨w, 0⟩) c c' := by
  have hbit : ∀ l < 4, (c.rq q &&& BitVec.ofNat 4 (2 ^ lane)).getLsbD l = (c.lane q lane && decide (l = lane)) := fun l hl4 => by
    rw [BitVec.getLsbD_and, getLsbD_lane lane hl4]
    by_cases he : l = lane
    · rw [he]
      simp [Core.lane]
    · simp [he, Ne.symm he]
  have hv : c'.v = (if c.lane q lane then c.setV d lane w else c).v := (show (c'.at_ c).v = _ from congrArg Core.v h)
  have hrv : ∀ n l, c'.rv n l = (if c.lane q lane then c.setV d lane w else c).rv n l := fun n l => by unfold Core.rv; rw [hv]
  refine ⟨fun l hl4 => ?_, fun n l hn hl4 => ?_, ?_, ?_⟩
  · rw [hrv, hbit l hl4]
    cases c.lane q lane
    · rfl
    · simp [Core.rv_setV _ _ _ _ _ _ hl hl4]
  · rw [hrv]
    cases c.lane q lane
    · rfl
    · simp [Core.rv_setV _ _ _ _ _ _ hl hl4, hn]
  · have hflags : c'.flags = (if c.lane q lane then c.setV d lane w else c).flags := (show (c'.at_ c).flags = _ from congrArg Core.flags h)
    refine (hflags.trans ?_).trans (List.foldl_fixed' (fun l => ?_) _).symm
    · split <;> rfl
    · split
      · exact BitVec.or_zero
      · rfl
  · rw [h]
    split <;> rfl

theorem execVins_completes {x : Slot} {s : State} (d : Fin 8) (r : Fin 32) (lane : Fin 4) (h : s.runs x.toCoreSel 4) :
    CompletesOn (.vins x d r lane) x.toCoreSel 4 { reads := [kQ x.pred.val, kS r.val, kV d.val], writes := [kV d.val] } s
      (VectorWrite d.val ((s.core x.toCoreSel).rq x.pred.val &&& BitVec.ofNat 4 (2 ^ lane.val)) (fun _ => ⟨(s.core x.toCoreSel).rs r.val, 0⟩)) := by
  refine (runCore_did h ?_ fun c' hc => Core.vectorWrite_lane lane.isLt hc).completesOn (exec_vins ..)
  split <;> rfl

/-- Settles O11: the compares gather their lanes, VINS writes one lane, and the others are `vecOp`s and a `scalarOp`. -/
theorem vectorComparesMovesAndReductions : Obligations.VectorComparesMovesAndReductions := by
  unfold Obligations.VectorComparesMovesAndReductions
  refine ⟨?_, ?_⟩
  · intro x d a b s h k c u v use mask done
    exact ⟨vcmpOp_completes h (exec_vceq ..), vcmpOp_completes h (exec_vclt ..), vcmpOp_completes h (exec_vcltu ..),
      vcmpOp_completes h (exec_vfceq ..), vcmpOp_completes h (exec_vfclt ..), vcmpOp_completes h (exec_vfcle ..)⟩
  · intro x d a r lane s h k c u v1 mask done lo hi all
    have hpair : ∀ (f : Word → Word → Res) (l : Nat), l < 4 → pairSum f c a.val l = if l < 2 then f (u 0) (u 1) else f (u 2) (u 3) :=
      fun f l hl => by
        interval_cases l <;> rfl
    have hswap : ∀ l < 4, l / 2 * 2 + (1 - l % 2) = if l % 2 = 0 then l + 1 else l - 1 := by decide
    exact ⟨vecOp_completes h (exec_vbcast ..) fun _ _ => rfl, execVins_completes d r lane h,
      fun hon => scalarOp_completes h hon (exec_vext ..) rfl, vecOp_completes h (exec_vmov ..) fun _ _ => rfl,
      vecOp_completes h (exec_vdup2 ..) fun _ _ => rfl, vecOp_completes h (exec_vswap ..) fun l hl => plain_congr (congrArg u (hswap l hl)),
      vecOp_completes h (exec_vfhadd4 ..) fun _ _ => rfl, vecOp_completes h (exec_vfhadd2 ..) (hpair fpAdd),
      vecOp_completes h (exec_vqhadd2 ..) (hpair qAdd)⟩

/-! ### Phase and trig (R139, R140) -/

theorem append_eq_ofNat (u v : Word) : u ++ v = BitVec.ofNat 64 (u.toNat * 2 ^ 32 + v.toNat) := by
  refine BitVec.eq_of_toNat_eq ?_
  have hu := u.isLt
  have hv := v.isLt
  rw [BitVec.toNat_append, ← Nat.shiftLeft_add_eq_or_of_lt hv, Nat.shiftLeft_eq, BitVec.toNat_ofNat, Nat.mod_eq_of_lt (by omega)]

theorem setWidth_eq_ofNat (p : BitVec 64) : p.setWidth 32 = BitVec.ofNat 32 (p.toNat % 2 ^ 32) :=
  BitVec.eq_of_toNat_eq (by rw [BitVec.toNat_setWidth, BitVec.toNat_ofNat, Nat.mod_mod])

theorem shift_setWidth_eq_ofNat (p : BitVec 64) : (p >>> 32).setWidth 32 = BitVec.ofNat 32 (p.toNat / 2 ^ 32) :=
  BitVec.eq_of_toNat_eq (by rw [BitVec.toNat_setWidth, BitVec.toNat_ushiftRight, Nat.shiftRight_eq_div_pow, BitVec.toNat_ofNat])

/-- Settles O12: each is a `phaseOp` or a `scalarOp`; PPACK, PLO and PHI are put as numbers. -/
theorem phaseResults : Obligations.PhaseResults := by
  unfold Obligations.PhaseResults
  intro x d a b r r2 s h hon k c u v ph sc
  exact ⟨phaseOp_completes h hon (exec_padd ..) rfl, phaseOp_completes h hon (exec_psub ..) rfl, phaseOp_completes h hon (exec_pmov ..) rfl,
    phaseOp_completes h hon (exec_ppack ..) (congrArg (·, 0) (append_eq_ofNat _ _)), phaseOp_completes h hon (exec_f2p ..) rfl,
    scalarOp_completes h hon (exec_plo ..) (plain_congr (setWidth_eq_ofNat _)),
    scalarOp_completes h hon (exec_phi ..) (plain_congr (shift_setWidth_eq_ofNat _)),
    scalarOp_completes h hon (exec_p2f ..) rfl, scalarOp_completes h hon (exec_pdiff ..) rfl⟩

/-- Settles O13: a sine or cosine is a `scalarOp` and a rotor a `vecOp` over the unit's words. -/
theorem trigResults : Obligations.TrigResults := by
  unfold Obligations.TrigResults
  intro x d vd a s h k c w sc rot
  have hrot : ∀ (q : Bool), ∀ l < 4, plain (trigValue (c.rph a.val) (rotLane l) q) = ⟨if l = 1 then w 0 q else if l = 2 then w 2 q else w 1 q, 0⟩ :=
    fun q l hl => by
      interval_cases l <;> rfl
  exact ⟨fun hon => ⟨scalarOp_completes h hon (exec_sinF ..) rfl, scalarOp_completes h hon (exec_cosF ..) rfl,
    scalarOp_completes h hon (exec_sinQ ..) rfl, scalarOp_completes h hon (exec_cosQ ..) rfl⟩,
    vecOp_completes h (exec_rotF ..) (hrot false), vecOp_completes h (exec_rotQ ..) (hrot true)⟩

end Sys2Proof.Machine
end

section
/-! SUPPORT and CERTIFICATE. The values of the Q1.31 and fp32 instructions (R98, R99): a Q1.31 result is the nearest multiple of 2^-31, saturated, and an
fp32 result is never on the subnormal grid. -/

namespace Sys2Proof.Machine

/-! ### Q1.31 (R99) -/

/-- Rounding to the nearest, ties to even. -/
theorem rneShift_near (e : Int) :
    2 * (e - 2147483648 * rneShift e 31) ≤ 2147483648 ∧ -2147483648 ≤ 2 * (e - 2147483648 * rneShift e 31) ∧
      ((2 * (e - 2147483648 * rneShift e 31) = 2147483648 ∨ 2 * (e - 2147483648 * rneShift e 31) = -2147483648) → rneShift e 31 % 2 = 0) := by
  have hd : ((2 ^ 31 : Nat) : Int) = 2147483648 := by norm_num
  unfold rneShift
  dsimp only
  rw [hd]
  split
  · omega
  · split
    · omega
    · split <;> omega

theorem satWord_flSat (n : Int) :
    (satWord flSat n).val.toInt = max (-2147483647 - 1) (min 2147483647 n) ∧
      (satWord flSat n).fl = if -2147483647 - 1 ≤ n ∧ n ≤ 2147483647 then 0 else flSat := by
  unfold satWord
  by_cases hlow : n < -(2 ^ 31)
  · rw [if_pos hlow, if_neg (by omega), show ((0x80000000 : Word)).toInt = -2147483648 by decide]
    exact ⟨by omega, rfl⟩
  · rw [if_neg hlow]
    by_cases hhigh : 2 ^ 31 - 1 < n
    · rw [if_pos hhigh, if_neg (by omega), show ((0x7FFFFFFF : Word)).toInt = 2147483647 by decide]
      exact ⟨by omega, rfl⟩
    · rw [if_neg hhigh, if_pos (by omega), BitVec.toInt_ofInt_eq_self (by decide) (by omega) (by omega)]
      exact ⟨by omega, rfl⟩

/-- Settles O7: the instructions are `scalarOp`s, and each result is `satWord` of an exact or a rounded value. -/
theorem fractionalArithmetic : Obligations.FractionalArithmetic := by
  unfold Obligations.FractionalArithmetic
  refine ⟨?_, ?_⟩
  · intro x d a b s h hon k o u v two one acc done
    exact ⟨scalarOp_completes h hon (exec_qadd ..) rfl, scalarOp_completes h hon (exec_qsub ..) rfl, scalarOp_completes h hon (exec_qneg ..) rfl,
      scalarOp_completes h hon (exec_qabs ..) rfl, scalarOp_completes h hon (exec_qmul ..) rfl, scalarOp_completes h hon (exec_qmac ..) rfl,
      scalarOp_completes h hon (exec_qmsu ..) rfl⟩
  · intro lim sat near o u v
    have hscale : 2147483648 * o.toInt = o.toInt * 2 ^ 31 := mul_comm ..
    rw [hscale]
    exact ⟨satWord_flSat _, satWord_flSat _, satWord_flSat _, satWord_flSat _, ⟨_, rneShift_near _, satWord_flSat _⟩,
      ⟨_, rneShift_near _, satWord_flSat _⟩, ⟨_, rneShift_near _, satWord_flSat _⟩⟩

/-! ### fp32 (R98) -/

/-- A word that R98 lets a sum, product, quotient or root deliver: none on the subnormal grid, and no NaN but the default one. -/
def Delivered (w : Word) : Prop :=
  (w.toNat / 2 ^ 23 % 256 = 0 → w.toNat % 2 ^ 23 = 0) ∧ (w.toNat / 2 ^ 23 % 256 = 255 → w.toNat % 2 ^ 23 ≠ 0 → w = 0x7FC00000)

theorem delivered_fpNan : Delivered fpNan := by
  unfold Delivered fpNan
  decide

theorem delivered_fpInf (neg : Bool) : Delivered (fpInf neg) := by
  unfold Delivered fpInf
  cases neg <;> decide

theorem delivered_fpZero (neg : Bool) : Delivered (fpZero neg) := by
  unfold Delivered fpZero
  cases neg <;> decide

/-- A sign, an exponent of a normal number and 23 bits of significand. -/
theorem delivered_normal (neg : Bool) {e f : Nat} (he : 0 < e) (he' : e < 255) (hf : f < 2 ^ 23) :
    Delivered (BitVec.ofNat 32 ((if neg then 2 ^ 31 else 0) + e * 2 ^ 23 + f)) := by
  have hsign : (if neg then 2 ^ 31 else 0) = 0 ∨ (if neg then 2 ^ 31 else 0) = 2 ^ 31 := by cases neg <;> simp
  generalize (if neg then 2 ^ 31 else 0) = g at hsign
  have hexp : (BitVec.ofNat 32 (g + e * 2 ^ 23 + f)).toNat / 2 ^ 23 % 256 = e := by
    rw [BitVec.toNat_ofNat]
    omega
  refine ⟨fun h => ?_, fun h => ?_⟩ <;> omega

theorem rneShift_le (n : Int) (k : Nat) : rneShift n k ≤ n / ((2 ^ k : Nat) : Int) + 1 := by
  unfold rneShift
  dsimp only
  split
  · omega
  · split
    · omega
    · split <;> omega

/-- The significand before it is normalised has at most 24 bits, or is 2^24. -/
theorem significand_le (m : Nat) :
    (if m.log2 + 1 ≤ 24 then m * 2 ^ (24 - (m.log2 + 1)) else (rneShift m (m.log2 + 1 - 24)).toNat) ≤ 2 ^ 24 := by
  have hm : m < 2 ^ (m.log2 + 1) := Nat.lt_log2_self
  generalize m.log2 + 1 = len at hm
  split
  next h =>
    calc m * 2 ^ (24 - len) ≤ 2 ^ len * 2 ^ (24 - len) := Nat.mul_le_mul_right _ hm.le
      _ = 2 ^ 24 := by rw [← Nat.pow_add, Nat.add_sub_cancel' h]
  next h =>
    have hq : m / 2 ^ (len - 24) < 2 ^ 24 := Nat.div_lt_of_lt_mul (by rwa [← Nat.pow_add, Nat.sub_add_cancel (by omega)])
    have hle := rneShift_le (m : Int) (len - 24)
    rw [← Int.natCast_div] at hle
    omega

theorem delivered_fpRound (neg : Bool) (m : Nat) (e : Int) : Delivered (fpRound neg m e).val := by
  have hq := significand_le m
  unfold fpRound
  dsimp only
  generalize (if m.log2 + 1 ≤ 24 then m * 2 ^ (24 - (m.log2 + 1)) else (rneShift m (m.log2 + 1 - 24)).toNat) = q0 at hq
  generalize (if q0 = 2 ^ 24 then e + ((m.log2 + 1 : Nat) : Int) - 24 + 1 else e + ((m.log2 + 1 : Nat) : Int) - 24) = e1
  split
  · exact delivered_fpInf neg
  · split
    · exact delivered_fpZero neg
    · refine delivered_normal neg (by omega) (by omega) ?_
      split <;> omega

theorem delivered_fpOfInt (n e : Int) (z : Bool) : Delivered (fpOfInt n e z).val := by
  unfold fpOfInt
  split
  · exact delivered_fpZero z
  · exact delivered_fpRound ..

theorem delivered_fpInvalid : Delivered fpInvalid.val := delivered_fpNan

theorem delivered_fpAddV (a b : FVal) : Delivered (fpAddV a b).val := by
  cases a with
  | nan s => exact delivered_fpNan
  | inf x =>
    cases b with
    | nan s => exact delivered_fpNan
    | inf y =>
      unfold fpAddV
      dsimp only
      split
      · exact delivered_fpInf x
      · exact delivered_fpInvalid
    | fin y n => exact delivered_fpInf x
  | fin x m =>
    cases b with
    | nan s => exact delivered_fpNan
    | inf y => exact delivered_fpInf y
    | fin y n => exact delivered_fpOfInt ..

theorem delivered_fpMulV (a b : FVal) : Delivered (fpMulV a b).val := by
  have hzero : ∀ (m : Nat) (z : Bool), Delivered (if m = 0 then fpInvalid else ⟨fpInf z, flNone⟩).val := fun m z => by
    split
    · exact delivered_fpInvalid
    · exact delivered_fpInf z
  cases a with
  | nan s => exact delivered_fpNan
  | inf x =>
    cases b with
    | nan s => exact delivered_fpNan
    | inf y => exact delivered_fpInf _
    | fin y n => exact hzero n _
  | fin x m =>
    cases b with
    | nan s => exact delivered_fpNan
    | inf y => exact hzero m _
    | fin y n => exact delivered_fpOfInt ..

theorem delivered_fpDiv (a b : Word) : Delivered (fpDiv a b).val := by
  unfold fpDiv
  dsimp only
  cases FVal.ofWord a with
  | nan s => exact delivered_fpNan
  | inf x =>
    cases FVal.ofWord b with
    | nan s => exact delivered_fpNan
    | inf y => exact delivered_fpInvalid
    | fin y n => exact delivered_fpInf _
  | fin x m =>
    cases FVal.ofWord b with
    | nan s => exact delivered_fpNan
    | inf y => exact delivered_fpZero _
    | fin y n =>
      dsimp only
      split
      · split
        · exact delivered_fpInvalid
        · exact delivered_fpInf _
      · split
        · exact delivered_fpZero _
        · exact delivered_fpRound ..

theorem delivered_fpSqrt (a : Word) : Delivered (fpSqrt a).val := by
  unfold fpSqrt
  cases FVal.ofWord a with
  | nan s => exact delivered_fpNan
  | inf x =>
    cases x
    · exact delivered_fpInf false
    · exact delivered_fpInvalid
  | fin x m =>
    dsimp only
    split
    · exact delivered_fpZero x
    · split
      · exact delivered_fpInvalid
      · exact delivered_fpRound ..

/-- Settles O9: the instructions are `scalarOp`s and `divOp`s, and every way out of the arithmetic delivers a NaN, an infinity, a zero or a rounded
normal number. -/
theorem floatArithmetic : Obligations.FloatArithmetic := by
  unfold Obligations.FloatArithmetic
  refine ⟨?_, ?_⟩
  · intro x d a b s h hon k o u v two one acc done
    exact ⟨scalarOp_completes h hon (exec_fadd ..) rfl, scalarOp_completes h hon (exec_fsub ..) rfl, scalarOp_completes h hon (exec_fmul ..) rfl,
      scalarOp_completes h hon (exec_fma ..) rfl, scalarOp_completes h hon (exec_fms ..) rfl, scalarOp_completes h hon (exec_fmin ..) rfl,
      scalarOp_completes h hon (exec_fmax ..) rfl, scalarOp_completes h hon (exec_fneg ..) rfl, scalarOp_completes h hon (exec_fabs ..) rfl,
      divOp_completes h hon (exec_fdiv ..) rfl, divOp_completes h hon (exec_fsqrt ..) rfl, scalarOp_completes h hon (exec_f2q ..) rfl,
      scalarOp_completes h hon (exec_q2f ..) rfl, scalarOp_completes h hon (exec_f2i ..) rfl, scalarOp_completes h hon (exec_i2f ..) rfl⟩
  · intro good u v
    exact ⟨delivered_fpAddV .., delivered_fpAddV .., delivered_fpMulV .., delivered_fpDiv u v, delivered_fpSqrt u⟩

end Sys2Proof.Machine
end

section
/-! SUPPORT and CERTIFICATE. Loads (R105, R106, R108, R141, R142): the bytes that a core reads from its own DTCM and its Peak's control SRAM, those that a
pending store forwards, and how long a load takes. -/

namespace Sys2Proof.Machine

/-! ### Bytes of memory (R105) -/

theorem State.bytes_lt (s : State) (key n : Nat) : s.bytes key n < 256 ^ n := by
  induction n generalizing key with
  | zero => exact Nat.one_pos
  | succ n ih =>
    have hb := (s.byte key).isLt
    have hr := ih (key + 1)
    rw [State.bytes, Nat.pow_succ']
    omega

theorem State.bytes_add (s : State) (key m n : Nat) : s.bytes key (m + n) = s.bytes key m + 256 ^ m * s.bytes (key + m) n := by
  induction m generalizing key with
  | zero => simp [State.bytes]
  | succ m ih =>
    rw [Nat.succ_add, State.bytes, State.bytes, ih, Nat.pow_succ', Nat.add_assoc key 1 m, Nat.add_comm 1 m]
    ring

/-- The bytes at an offset of a longer run. -/
theorem State.bytes_slice (s : State) (key : Nat) {i n m : Nat} (h : i + n ≤ m) : s.bytes key m / 256 ^ i % 256 ^ n = s.bytes (key + i) n := by
  obtain ⟨j, rfl⟩ := Nat.exists_eq_add_of_le h
  rw [Nat.add_assoc, State.bytes_add, State.bytes_add s (key + i) n j, Nat.add_mul_div_left _ _ (Nat.pow_pos (by decide)),
    Nat.div_eq_of_lt (s.bytes_lt key i), Nat.zero_add, Nat.add_mul_mod_self_left, Nat.mod_eq_of_lt (s.bytes_lt _ n)]

theorem two_pow_byte (n : Nat) : 2 ^ (8 * n) = 256 ^ n := pow_mul ..

/-- A number below 2^(8n) is put together from its bytes. -/
theorem sum_bytes (v n : Nat) : ((List.range n).map (fun i => v / 2 ^ (8 * i) % 256 * 2 ^ (8 * i))).foldl (· + ·) 0 = v % 2 ^ (8 * n) := by
  induction n with
  | zero => simp [Nat.mod_one]
  | succ n ih =>
    rw [List.range_succ, List.map_append, List.foldl_append, ih, List.map_cons, List.map_nil, List.foldl_cons, List.foldl_nil, Nat.mul_succ, pow_add,
      Nat.mod_mul, show 2 ^ 8 = 256 from rfl, Nat.mul_comm (2 ^ (8 * n)) (v / 2 ^ (8 * n) % 256)]

/-! ### What a core's addresses reach (R31, R110) -/

/-- From `lo` up to `hi` a core's words lie in memory, at the keys from `base` on. -/
structure MapsTo (k : CoreSel) (base lo hi : Nat) (s : State) : Prop where
  place : ∀ w, lo ≤ w → w < hi → placeOf (.core k) 0 w s = .mem (base + w)
  aligned : lo % 4 = 0
  below : hi ≤ 2 ^ 32

/-- The core's own DTCM. -/
theorem mapsTo_dtcm (k : CoreSel) (s : State) : MapsTo k ((k.peak.num * 8 + k.core.val) * 2 ^ 17) 0x10000 0x20000 s where
  place := fun w hlo hhi => by
    unfold placeOf
    rw [if_pos hhi]
    exact if_pos hlo
  aligned := rfl
  below := le_lit rfl

/-- The control SRAM of the core's Peak. -/
theorem mapsTo_sram (k : CoreSel) (s : State) : MapsTo k ((1 + k.peak.num) * 2 ^ 32) 0x10000000 0x10200000 s where
  place := fun w hlo hhi => by
    unfold placeOf
    rw [if_neg (by omega), if_pos ⟨hlo, hhi⟩]
    rfl
  aligned := rfl
  below := le_lit rfl

section
variable {k : CoreSel} {base lo hi : Nat} {s : State}

theorem MapsTo.readWord (hm : MapsTo k base lo hi s) {a : Nat} (hlo : lo ≤ a) (hhi : a < hi) :
    readWord (.core k) 0 a s = (s.bytes (base + a / 4 * 4) 4, s) := by
  have halign := hm.aligned
  unfold Machine.readWord
  dsimp only
  rw [hm.place (a / 4 * 4) (by omega) (by omega)]

/-- Words that follow one another read as one run of bytes. -/
theorem MapsTo.readWords (hm : MapsTo k base lo hi s) (l : List Nat) (w : Nat) (hl : l.map (· / 4) = List.range' w l.length) (hlo : lo ≤ 4 * w)
    (hhi : 4 * (w + l.length) ≤ hi) : readWords (.core k) 0 l s = (s.bytes (base + 4 * w) (4 * l.length), s) := by
  induction l generalizing w with
  | nil => rfl
  | cons a r ih =>
    rw [List.map_cons, List.length_cons, List.range'_succ, List.cons.injEq] at hl
    obtain ⟨ha, hr⟩ := hl
    rw [List.length_cons] at hhi ⊢
    have hbelow := hm.below
    rw [Machine.readWords, Nat.mod_eq_of_lt (show a < 2 ^ 32 by omega), hm.readWord (by omega) (by omega), ha]
    dsimp only
    rw [ih (w + 1) hr (by omega) (by omega), show 4 * (r.length + 1) = 4 + 4 * r.length by omega, State.bytes_add, Nat.mul_comm w 4,
      show base + 4 * (w + 1) = base + 4 * w + 4 by omega, Nat.mul_comm (256 ^ 4), show 256 ^ 4 = 2 ^ 32 from rfl]

theorem wordsOf_div (a n : Nat) : (wordsOf a n).map (· / 4) = List.range' (a / 4) (wordsOf a n).length := by
  unfold wordsOf
  rw [List.map_map, List.length_map, List.length_range, List.range'_eq_map_range]
  refine List.map_congr_left fun i _ => ?_
  dsimp only [Function.comp]
  split <;> omega

theorem wordsOf_length (a n : Nat) : (wordsOf a n).length = (a + n - 1) / 4 - a / 4 + 1 := by
  unfold wordsOf
  rw [List.length_map, List.length_range]

theorem MapsTo.fabRead (hm : MapsTo k base lo hi s) {a n : Nat} (hn : 0 < n) (hlo : lo ≤ a) (hhi : (a + n + 3) / 4 * 4 ≤ hi) :
    fabRead (.core k) 0 a n s = (s.bytes (base + a) n, s) := by
  have halign := hm.aligned
  have hlen := wordsOf_length a n
  unfold Machine.fabRead
  dsimp only
  rw [hm.readWords _ (a / 4) (wordsOf_div a n) (by omega) (by omega), two_pow_byte, two_pow_byte, State.bytes_slice _ _ (by omega), Nat.add_assoc, Nat.div_add_mod]

/-! ### Pending stores (R108) -/

variable {a n : Nat}

theorem overlay_of_bytes {c : Core} {v w : Nat} (h : ∀ i < n, (pendingByte c (a + i)).getD (v / 2 ^ (8 * i) % 256) = w / 2 ^ (8 * i) % 256) :
    overlay c a n v = w % 2 ^ (8 * n) := by
  unfold overlay
  rw [← sum_bytes w n]
  congr 1
  exact List.map_congr_left fun i hi => by rw [h i (List.mem_range.mp hi)]

theorem not_forwarded {c : Core} (hn : 0 < n) (hp : ∀ i < n, pendingByte c (a + i) = none) : forwarded c a n = false := by
  unfold forwarded
  exact List.all_eq_false.mpr ⟨0, List.mem_range.mpr hn, by rw [hp 0 hn]; decide⟩

/-- Where no store is pending, a load returns what its target holds. -/
theorem MapsTo.loadValue (hm : MapsTo k base lo hi s) (hn : 0 < n) (hlo : lo ≤ a) (hhi : (a + n + 3) / 4 * 4 ≤ hi)
    (hp : ∀ i < n, pendingByte (s.core k) (a + i) = none) : loadValue k a n s = (s.bytes (base + a) n, s) := by
  have hf : forwarded (s.core k) a n = false := not_forwarded hn hp
  have hlt := s.bytes_lt (base + a) n
  unfold Machine.loadValue
  dsimp only
  rw [hf, if_neg (by decide), hm.fabRead hn hlo hhi, overlay_of_bytes fun i hi => by rw [hp i hi, Option.getD_none], two_pow_byte, Nat.mod_eq_of_lt hlt]

/-- The newest pending store holds the byte. -/
theorem pendingByte_newest {c : Core} {b : List Posted} {v i : Nat} (hb : c.buf = b ++ [⟨[(a, 4, v)], false⟩]) (hi : i < 4) :
    pendingByte c (a + i) = some (v / 2 ^ (8 * i) % 256) := by
  unfold pendingByte
  rw [hb, List.flatMap_append, List.reverse_append]
  simp [hi]

theorem forwarded_newest {c : Core} {b : List Posted} {v : Nat} (hb : c.buf = b ++ [⟨[(a, 4, v)], false⟩]) : forwarded c a 4 = true := by
  unfold forwarded
  exact List.all_eq_true.mpr fun i hi => by rw [pendingByte_newest hb (List.mem_range.mp hi)]; rfl

theorem loadValue_newest {b : List Posted} {v : Nat} (hb : (s.core k).buf = b ++ [⟨[(a, 4, v)], false⟩]) : loadValue k a 4 s = (v % 2 ^ 32, s) := by
  unfold Machine.loadValue
  dsimp only
  rw [forwarded_newest hb, if_pos rfl, overlay_of_bytes fun i hi => by rw [pendingByte_newest hb hi, Option.getD_some]]

/-! ### How long a load takes (R106), and that it is made (R104, R105, R116) -/

theorem islandDown_sram (p : PeakId) (hlo : 0x10000000 ≤ a) (hhi : a < 0x10200000) : islandDown p s a = none := by
  have hb : 0x1000 ≤ a / 0x10000 ∧ a / 0x10000 < 0x1020 := by omega
  unfold islandDown
  generalize a / 0x10000 = b at hb
  obtain ⟨h1, h2⟩ := hb
  have hcase : (decide (b = 0x4005) || decide (b = 0x4006) || decide (b = 0x4007) || decide (b = 0x4008) || decide (b = 0x4010) ||
      (decide (0x3000 ≤ b) && decide (b ≤ 0x3007))) = false := by
    simp only [Bool.or_eq_false_iff, decide_eq_false_iff_not, Bool.and_eq_false_iff]
    omega
  dsimp only
  rw [hcase, if_neg (by decide), if_neg (by omega)]

theorem loadRange_sram (p : PeakId) (hlo : 0x10000000 ≤ a) (hhi : a < 0x10200000) : loadRange p a s = (12, 44) := by
  unfold loadRange
  rw [if_neg (by omega), islandDown_sram p hlo hhi, if_neg (by decide)]
  split
  case h_9 => rw [if_pos ⟨hlo, hhi⟩]
  all_goals omega

theorem loadLatency_dtcm (hhi : a < 0x20000) : loadLatency k a n s = (2, s) := by
  have hr : loadRange k.peak a s = (2, 2) := if_pos hhi
  unfold loadLatency takeLatency
  rw [hr]
  split <;> rfl

/-- A load's free latency in control SRAM. -/
def sramLatency (s : State) : Nat := 12 + Config.loadLatency s.free % 33

theorem sramLatency_bounds (s : State) : 12 ≤ sramLatency s ∧ sramLatency s ≤ 44 := by
  unfold sramLatency
  omega

theorem loadLatency_sram (hlo : 0x10000000 ≤ a) (hhi : a < 0x10200000) (hf : forwarded (s.core k) a n = false) :
    loadLatency k a n s = (sramLatency s, { s with free := s.free + 1 }) := by
  unfold loadLatency takeLatency
  rw [hf, loadRange_sram k.peak hlo hhi]
  rfl

theorem loadLatency_sram_forwarded (hlo : 0x10000000 ≤ a) (hhi : a < 0x10200000) (hf : forwarded (s.core k) a n = true) :
    loadLatency k a n s = (12, s) := by
  unfold loadLatency
  rw [hf, loadRange_sram k.peak hlo hhi]
  rfl

theorem isDtcm_eq (hlo : 0x10000 ≤ a) (hhi : a < 0x20000) : isDtcm a = true := by
  unfold isDtcm
  rw [decide_eq_true hlo, decide_eq_true hhi]
  rfl

theorem accessCode_dtcm {w : Nat} (made load : Bool) (hw : a % w = 0) (hlo : 0x10000 ≤ a) (hhi : a < 0x20000) : accessCode k a w made load s = 0 := by
  have hi : isItcm a = false := decide_eq_false (by omega)
  unfold accessCode
  rw [if_neg (by omega), hi, isDtcm_eq hlo hhi]
  cases made <;> simp

theorem accessCode_sram {w : Nat} (made load : Bool) (hw : a % w = 0) (hlo : 0x10000000 ≤ a) (hs : s.inSummit k = false) :
    accessCode k a w made load s = 0 := by
  have hi : isItcm a = false := decide_eq_false (by omega)
  unfold accessCode
  rw [if_neg (by omega), hi, hs]
  cases made <;> simp

end

/-! ### The shape of a load -/

theorem fetched_of_runs {k : CoreSel} {len : Nat} {s : State} (h : s.runs k len) (f : State → State) : fetched k len f s = f s := by
  obtain ⟨hcan, hpc⟩ := h
  unfold fetched
  rw [if_pos hcan, if_neg (not_lt.mpr hpc)]

theorem OnlyCore.refl (k : CoreSel) (s : State) : OnlyCore k s s := ⟨fun _ _ => rfl, fun _ _ => rfl, fun _ => rfl, rfl⟩

theorem OnlyCore.trans {k : CoreSel} {s t u : State} (h : OnlyCore k s t) (g : OnlyCore k t u) : OnlyCore k s u where
  others := fun j hj => (g.others j hj).trans (h.others j hj)
  regs := fun i hi => (g.regs i hi).trans (h.regs i hi)
  peaks := fun p => by rw [← h.peaks p, ← g.peaks p]
  rest := by rw [← h.rest, ← g.rest]

theorem OnlyCore.setCore {k : CoreSel} {s t : State} (h : OnlyCore k s t) (c : Core) : OnlyCore k s (t.setCore k c) where
  others := fun j hj => (State.core_setCore_ne _ _ hj).trans (h.others j hj)
  regs := h.regs
  peaks := h.peaks
  rest := h.rest

/-- An instruction that changes registers of its core and then issues and passes. -/
theorem passCore_after {k : CoreSel} {len : Nat} {u : Use} {s s1 : State} {W : Core → Core → Prop} (hframe : OnlyCore k s s1)
    (hregs : { s1.core k with s := (s.core k).s, v := (s.core k).v, ph := (s.core k).ph } = s.core k)
    (hW : ∀ c', c'.at_ (s.core k) = s1.core k → W (s.core k) c') : Did s (passCore k len u s1) k len u W := by
  obtain ⟨hpass, hissued, hat⟩ := passCore_spec k len u s1
  generalize passCore k len u s1 = t at hpass hissued hat
  have hissue : (s1.core k).issueAt u = (s.core k).issueAt u := congrArg (·.issueAt u) hregs
  have htimes : ∀ c', Core.at_ c' (s1.core k) = Core.at_ c' (s.core k) := fun c' =>
    show Core.at_ c' { s1.core k with s := (s.core k).s, v := (s.core k).v, ph := (s.core k).ph } = _ from congrArg (Core.at_ c') hregs
  refine ⟨hframe.trans hpass, ⟨?_, ?_, fun r => ?_, ?_, ?_⟩, hW _ ((htimes _).symm.trans hat)⟩
  · exact hissued.pc.trans (congrArg (·.pc + BitVec.ofNat 32 len) hregs)
  · rw [hissued.issue, hissue]
  · rw [hissued.ready r, hissue]
    exact ite_congr rfl (fun _ => rfl) fun _ => congrArg (·.readyAt r) hregs
  · rw [hissued.div, hissue]
    exact ite_congr rfl (fun _ => rfl) fun _ => congrArg (·.divFree) hregs
  · rw [hissued.lane, hissue]
    exact ite_congr rfl (fun _ => rfl) fun _ => congrArg (·.laneFree) hregs

/-- The effective address of an instruction of `x` (R141). -/
abbrev addrOf (x : Slot) (base : Fin 8) (off : BitVec 16) (w : Nat) (s : State) : Nat := effAddr (s.core x.toCoreSel) base.val off w

/-- A load that is made: what it returns goes to its register, and the instruction issues and passes with the latency of its target. -/
theorem loadOp_eq {x : Slot} {base : Fin 8} {off : BitVec 16} {w dest : Nat} {put : Core → Nat → Core} {s s1 : State} {lat v : Nat}
    (h : s.runs x.toCoreSel 4) (hon : (s.core x.toCoreSel).on x.pred.val = true)
    (hcode : accessCode x.toCoreSel (addrOf x base off w s) w true true s = 0)
    (hlat : loadLatency x.toCoreSel (addrOf x base off w s) w s = (lat, s1))
    (hval : loadValue x.toCoreSel (addrOf x base off w s) w s1 = (v, s1)) :
    loadOp x base off w dest put s = passCore x.toCoreSel 4 { reads := [kQ x.pred.val, kS base.val], writes := [dest], lat := lat }
      (s1.setCore x.toCoreSel (put (s1.core x.toCoreSel) v)) := by
  unfold loadOp
  dsimp only
  rw [fetched_of_runs h, hon, hcode, hlat, if_neg (by decide), if_pos rfl, hval]

theorem Core.times_setS (c : Core) (r : Nat) (v : Word) : { c.setS r v with s := c.s, v := c.v, ph := c.ph } = c := by
  unfold Core.setS
  split <;> rfl

theorem Core.times_setPh (c : Core) (r : Nat) (v : BitVec 64) : { c.setPh r v with s := c.s, v := c.v, ph := c.ph } = c := rfl

section
variable {i : Instr} {x : Slot} {base : Fin 8} {off : BitVec 16} {w : Nat} {s : State}

/-- A load of a scalar. -/
theorem loadScalar_did {rt : Fin 32} {f : Nat → Word} {s1 : State} {lat v : Nat} (h : s.runs x.toCoreSel 4)
    (hon : (s.core x.toCoreSel).on x.pred.val = true)
    (hcode : accessCode x.toCoreSel (addrOf x base off w s) w true true s = 0)
    (hlat : loadLatency x.toCoreSel (addrOf x base off w s) w s = (lat, s1))
    (hval : loadValue x.toCoreSel (addrOf x base off w s) w s1 = (v, s1)) :
    Did s1 (loadScalar x rt base off w f s) x.toCoreSel 4 { reads := [kQ x.pred.val, kS base.val], writes := [kS rt.val], lat := lat }
      (ScalarWrite rt.val ⟨f v, 0⟩) := by
  unfold loadScalar
  rw [loadOp_eq h hon hcode hlat hval]
  refine passCore_after ((OnlyCore.refl _ s1).setCore _) ?_ fun c' hc => Core.scalarWrite ?_
  · rw [State.core_setCore_same]
    exact Core.times_setS ..
  · rw [hc, State.core_setCore_same]
    exact (Core.flag_none _).symm

/-- The addressed bytes lie in the core's own DTCM, and no pending store holds any of them. -/
structure FreeDtcm (x : Slot) (base : Fin 8) (off : BitVec 16) (w : Nat) (s : State) : Prop where
  lo : 0x10000 ≤ addrOf x base off w s
  hi : addrOf x base off w s < 0x20000
  aligned : addrOf x base off w s % w = 0
  free : ∀ i < w, pendingByte (s.core x.toCoreSel) (addrOf x base off w s + i) = none

/-- The bytes that the load addresses. -/
def dtcmBytes (x : Slot) (base : Fin 8) (off : BitVec 16) (w : Nat) (s : State) : Nat :=
  s.bytes (tcmKey x.toCoreSel (addrOf x base off w s)) w

/-- An aligned value that begins in DTCM ends there. -/
theorem dtcm_end {a w : Nat} (hw : w ∈ [1, 2, 4, 8]) (hhi : a < 0x20000) (halign : a % w = 0) : 0 < w ∧ (a + w + 3) / 4 * 4 ≤ 0x20000 := by
  simp only [List.mem_cons, List.not_mem_nil, or_false] at hw
  rcases hw with rfl | rfl | rfl | rfl <;> omega

theorem FreeDtcm.loadValue (hd : FreeDtcm x base off w s) (hw : w ∈ [1, 2, 4, 8]) :
    loadValue x.toCoreSel (addrOf x base off w s) w s = (dtcmBytes x base off w s, s) := by
  obtain ⟨hpos, hend⟩ := dtcm_end hw hd.hi hd.aligned
  exact (mapsTo_dtcm x.toCoreSel s).loadValue hpos hd.lo hend hd.free

theorem loadScalar_dtcm {rt : Fin 32} {f : Nat → Word} (h : s.runs x.toCoreSel 4) (hon : (s.core x.toCoreSel).on x.pred.val = true)
    (hd : FreeDtcm x base off w s) (hw : w ∈ [1, 2, 4, 8]) (he : exec i s = .next (loadScalar x rt base off w f s)) :
    CompletesOn i x.toCoreSel 4 { reads := [kQ x.pred.val, kS base.val], writes := [kS rt.val], lat := 2 } s
      (ScalarWrite rt.val ⟨f (dtcmBytes x base off w s), 0⟩) :=
  (loadScalar_did h hon (accessCode_dtcm true true hd.aligned hd.lo hd.hi) (loadLatency_dtcm hd.hi) (hd.loadValue hw)).completesOn he

theorem execLp_dtcm (pt : Fin 4) (h : s.runs x.toCoreSel 4) (hon : (s.core x.toCoreSel).on x.pred.val = true) (hd : FreeDtcm x base off 8 s) :
    CompletesOn (.lp x pt base off) x.toCoreSel 4 { reads := [kQ x.pred.val, kS base.val], writes := [kP pt.val], lat := 2 } s
      (PhaseWrite pt.val (BitVec.ofNat 64 (dtcmBytes x base off 8 s)) 0) := by
  refine Did.completesOn ?_ (exec_lp ..)
  rw [loadOp_eq h hon (accessCode_dtcm true true hd.aligned hd.lo hd.hi) (loadLatency_dtcm hd.hi) (hd.loadValue (by decide))]
  refine passCore_after ((OnlyCore.refl _ s).setCore _) ?_ fun c' hc => Core.phaseWrite ?_
  · rw [State.core_setCore_same]
    exact Core.times_setPh ..
  · rw [hc, State.core_setCore_same]
    exact (Core.flag_none _).symm

end

/-! ### Vector loads (R142) -/

/-- Lane `l` takes `w l`, for each lane of the list. -/
def Core.putLanes (c : Core) (d : Nat) (w : Nat → Word) (ls : List Nat) : Core := ls.foldl (fun c l => c.setV d l (w l)) c

theorem Core.times_putLanes (c : Core) (d : Nat) (w : Nat → Word) (ls : List Nat) :
    { c.putLanes d w ls with s := c.s, v := c.v, ph := c.ph } = c := by
  induction ls generalizing c with
  | nil => rfl
  | cons l r ih =>
    have hr := ih (c.setV d l (w l))
    exact congrArg (fun e : Core => { e with v := c.v }) hr

theorem Core.pendingByte_putLanes (c : Core) (d : Nat) (w : Nat → Word) (ls : List Nat) (a : Nat) :
    pendingByte (c.putLanes d w ls) a = pendingByte c a :=
  show pendingByte { c.putLanes d w ls with s := c.s, v := c.v, ph := c.ph } a = _ from congrArg (pendingByte · a) (c.times_putLanes d w ls)

/-- The lanes whose predicate bit is 1, written without a flag. -/
theorem Core.putLanes_lanesOn (c : Core) (q d : Nat) (w : Nat → Word) : c.putLanes d w (lanesOn (c.rq q)) = c.laneWrite q d (fun l => ⟨w l, 0⟩) := by
  have hnone : ∀ c : Core, c.flag 0 = c := Core.flag_none
  unfold Core.putLanes Core.laneWrite lanesOn Core.lane
  simp only [List.foldl_filter, hnone]

/-- One turn of a vector load. -/
def loadLane (k : CoreSel) (a d i : Nat) (s : State) : State :=
  let r := loadValue k (a + 4 * i) 4 s
  r.2.setCore k ((r.2.core k).setV d i (BitVec.ofNat 32 r.1))

/-- The word that lane `l` takes. -/
def dtcmWord (k : CoreSel) (a : Nat) (s : State) (l : Nat) : Word := BitVec.ofNat 32 (s.bytes (tcmKey k (a + 4 * l)) 4)

section
variable {k : CoreSel} {a : Nat} {s t : State}

theorem loadLane_eq {l : Nat} (d : Nat) (hl : l < 4) (hlo : 0x10000 ≤ a) (hhi : a + 16 ≤ 0x20000) (halign : a % 4 = 0)
    (hp : ∀ i < 16, pendingByte (t.core k) (a + i) = none) :
    loadLane k a d l t = t.setCore k ((t.core k).setV d l (dtcmWord k a t l)) := by
  have hval := (mapsTo_dtcm k t).loadValue (a := a + 4 * l) (n := 4) (by decide) (by omega) (by omega) fun i hi => by
    rw [Nat.add_assoc]
    exact hp _ (by omega)
  unfold loadLane
  rw [hval]
  rfl

/-- The lanes are loaded one after the other, and only the core changes. -/
theorem loadLanes_eq (d : Nat) (ls : List Nat) (hls : ∀ l ∈ ls, l < 4) (hlo : 0x10000 ≤ a) (hhi : a + 16 ≤ 0x20000) (halign : a % 4 = 0)
    (hp : ∀ i < 16, pendingByte (t.core k) (a + i) = none) (hframe : OnlyCore k s t) (hmem : t.mem = s.mem) :
    OnlyCore k s (forAll ls (loadLane k a d) t) ∧
      (forAll ls (loadLane k a d) t).core k = (t.core k).putLanes d (dtcmWord k a s) ls := by
  induction ls generalizing t with
  | nil => exact ⟨hframe, rfl⟩
  | cons l r ih =>
    have hword : dtcmWord k a t l = dtcmWord k a s l := by simp only [dtcmWord, State.bytes, State.byte, hmem]
    have hturn := loadLane_eq d (hls l List.mem_cons_self) hlo hhi halign hp
    rw [hword] at hturn
    have hnext := ih (t := loadLane k a d l t) (fun j hj => hls j (List.mem_cons_of_mem _ hj)) (fun i hi => by
      rw [hturn, State.core_setCore_same]
      exact hp i hi) (hturn ▸ hframe.setCore _) (hturn ▸ hmem)
    rwa [hturn, State.core_setCore_same, ← hturn] at hnext

end

theorem execLv_dtcm {x : Slot} {base : Fin 8} {off : BitVec 16} {s : State} (vt : Fin 8) (h : s.runs x.toCoreSel 4) (hd : FreeDtcm x base off 16 s) :
    CompletesOn (.lv x vt base off) x.toCoreSel 4 { reads := [kQ x.pred.val, kS base.val], writes := [kV vt.val], lat := 2 } s
      (VectorWrite vt.val ((s.core x.toCoreSel).rq x.pred.val)
        (fun l => ⟨dtcmWord x.toCoreSel (addrOf x base off 16 s) s l, 0⟩)) := by
  obtain ⟨hlo, hhi, halign, hfree⟩ := hd
  refine Did.completesOn (t := loadVector x vt base off s) ?_ (exec_lv ..)
  have heq : loadVector x vt base off s = passCore x.toCoreSel 4 { reads := [kQ x.pred.val, kS base.val], writes := [kV vt.val], lat := 2 }
      (forAll (lanesOn ((s.core x.toCoreSel).rq x.pred.val)) (loadLane x.toCoreSel (addrOf x base off 16 s) vt.val) s) := by
    unfold loadVector
    dsimp only
    rw [fetched_of_runs h, accessCode_dtcm _ _ halign hlo hhi, loadLatency_dtcm hhi, if_neg (by decide)]
    rfl
  obtain ⟨hframe, hcore⟩ := loadLanes_eq vt.val (lanesOn ((s.core x.toCoreSel).rq x.pred.val)) (fun l hl => List.mem_range.mp (List.mem_of_mem_filter hl))
    hlo (by omega) (by omega) hfree (OnlyCore.refl _ s) rfl
  rw [heq]
  refine passCore_after hframe ?_ fun c' hc => Core.vectorWrite ?_
  · rw [hcore]
    exact Core.times_putLanes ..
  · rw [hc, hcore, Core.putLanes_lanesOn]

/-! ### Loads from control SRAM (R89, R106, R108) -/

theorem OnlyCore.withFree {k : CoreSel} {s t : State} {n : Nat} (h : OnlyCore k { s with free := n } t) : OnlyCoreFree k s t where
  others := h.others
  regs := h.regs
  peaks := h.peaks
  rest := congrArg (fun u : State => { u with free := s.free }) h.rest

section
variable {x : Slot} {rt : Fin 32} {base : Fin 8} {off : BitVec 16} {s : State}

/-- The addressed word lies in the control SRAM of the core's Peak, and no summit task runs. -/
structure InSram (x : Slot) (base : Fin 8) (off : BitVec 16) (s : State) : Prop where
  lo : 0x10000000 ≤ addrOf x base off 4 s
  hi : addrOf x base off 4 s < 0x10200000
  aligned : addrOf x base off 4 s % 4 = 0
  ordinary : s.inSummit x.toCoreSel = false

theorem execLw_sram (h : s.runs x.toCoreSel 4) (hon : (s.core x.toCoreSel).on x.pred.val = true) (hs : InSram x base off s)
    (hp : ∀ i < 4, pendingByte (s.core x.toCoreSel) (addrOf x base off 4 s + i) = none) :
    Completes (.lw x rt base off) s (fun t => OnlyCoreFree x.toCoreSel s t ∧
      Issued { reads := [kQ x.pred.val, kS base.val], writes := [kS rt.val], lat := sramLatency s } 4 (s.core x.toCoreSel) (t.core x.toCoreSel) ∧
      ScalarWrite rt.val ⟨BitVec.ofNat 32 (s.bytes (peakKey x.toCoreSel.peak (addrOf x base off 4 s)) 4), 0⟩ (s.core x.toCoreSel)
        (t.core x.toCoreSel)) := by
  obtain ⟨hlo, hhi, halign, hord⟩ := hs
  have hf : forwarded (s.core x.toCoreSel) (addrOf x base off 4 s) 4 = false := not_forwarded (by decide) hp
  have hval := (mapsTo_sram x.toCoreSel { s with free := s.free + 1 }).loadValue (n := 4) (by decide) hlo (by omega) hp
  obtain ⟨hframe, hissued, hwrite⟩ := loadScalar_did (rt := rt) (f := BitVec.ofNat 32) h hon (accessCode_sram true true halign hlo hord)
    (loadLatency_sram hlo hhi hf) hval
  exact ⟨_, exec_lw .., hframe.withFree, hissued, hwrite⟩

theorem execLw_sram_forwarded {b : List Posted} {v : Nat} (h : s.runs x.toCoreSel 4) (hon : (s.core x.toCoreSel).on x.pred.val = true)
    (hs : InSram x base off s) (hb : (s.core x.toCoreSel).buf = b ++ [⟨[(addrOf x base off 4 s, 4, v)], false⟩]) :
    CompletesOn (.lw x rt base off) x.toCoreSel 4 { reads := [kQ x.pred.val, kS base.val], writes := [kS rt.val], lat := 12 } s
      (ScalarWrite rt.val ⟨BitVec.ofNat 32 v, 0⟩) := by
  have hdid := loadScalar_did (rt := rt) (f := BitVec.ofNat 32) h hon (accessCode_sram true true hs.aligned hs.lo hs.ordinary)
    (loadLatency_sram_forwarded hs.lo hs.hi (forwarded_newest hb)) (loadValue_newest hb)
  have hword : BitVec.ofNat 32 (v % 2 ^ 32) = BitVec.ofNat 32 v := BitVec.eq_of_toNat_eq (Nat.mod_mod ..)
  rw [hword] at hdid
  exact hdid.completesOn (exec_lw ..)

end

/-- Settles O16: loads from DTCM by width, LV lane by lane, and a word load from control SRAM, read there or forwarded. -/
theorem loads : Obligations.Loads := by
  unfold Obligations.Loads
  refine ⟨?_, ?_⟩
  · intro x rt pt vt base off s h k c a inDtcm word use sc
    have free {w : Nat} (hd : inDtcm w) : FreeDtcm x base off w s := by
      obtain ⟨hlo, hhi, halign, hfree⟩ := hd
      exact ⟨hlo, hhi, halign, hfree⟩
    refine ⟨fun hon => ⟨fun hd => ?_, fun hd => ?_, fun hd => ?_, fun hd => execLp_dtcm pt h hon (free hd)⟩, fun hd => execLv_dtcm vt h (free hd)⟩
    · exact ⟨loadScalar_dtcm h hon (free hd) (by decide) (exec_lb ..), loadScalar_dtcm h hon (free hd) (by decide) (exec_lbu ..)⟩
    · exact ⟨loadScalar_dtcm h hon (free hd) (by decide) (exec_lh ..), loadScalar_dtcm h hon (free hd) (by decide) (exec_lhu ..)⟩
    · exact loadScalar_dtcm h hon (free hd) (by decide) (exec_lw ..)
  · intro x rt base off s h hon k c a use hlo hhi halign hord
    have hs : InSram x base off s := ⟨hlo, hhi, halign, hord⟩
    obtain ⟨hleast, hmost⟩ := sramLatency_bounds s
    exact ⟨fun hp => ⟨sramLatency s, hleast, hmost, execLw_sram h hon hs hp⟩, fun b v hb => execLw_sram_forwarded h hon hs hb⟩

end Sys2Proof.Machine
end

section
/-! SUPPORT and CERTIFICATE. Stores of a core to its own DTCM (R105, R141, R142): which bytes they reach, and what they leave there. -/

namespace Sys2Proof.Machine

/-! ### Numbers put together from chosen bytes -/

/-- The bytes `b i` of the lanes that `p` chooses, each at its place, from 0 up. -/
def laneSum (p : Nat → Bool) (b : Nat → Nat) (n : Nat) : Nat := (((List.range n).filter p).map (fun i => b i * 2 ^ (8 * i))).foldl (· + ·) 0

section
variable {p : Nat → Bool} {b : Nat → Nat}

theorem laneSum_succ (n : Nat) : laneSum p b (n + 1) = laneSum p b n + (if p n then b n else 0) * 2 ^ (8 * n) := by
  unfold laneSum
  rw [List.range_succ, List.filter_append, List.map_append, List.foldl_append]
  cases hp : p n <;> simp [hp]

theorem laneSum_lt (hb : ∀ i, b i < 256) (n : Nat) : laneSum p b n < 2 ^ (8 * n) := by
  induction n with
  | zero => exact Nat.one_pos
  | succ n ih =>
    have hn : (if p n then b n else 0) ≤ 255 := by
      have := hb n
      split <;> omega
    have hmul := Nat.mul_le_mul_right (2 ^ (8 * n)) hn
    rw [laneSum_succ, Nat.mul_succ, pow_add]
    omega

theorem laneSum_byte (hb : ∀ i, b i < 256) {n i : Nat} (hi : i < n) : laneSum p b n / 2 ^ (8 * i) % 256 = if p i then b i else 0 := by
  induction n with
  | zero => omega
  | succ n ih =>
    rw [laneSum_succ]
    by_cases hin : i = n
    · subst hin
      have hlt : (if p i then b i else 0) < 256 := by
        have := hb i
        split <;> omega
      rw [Nat.add_mul_div_right _ _ (Nat.two_pow_pos _), Nat.div_eq_of_lt (laneSum_lt hb i), Nat.zero_add, Nat.mod_eq_of_lt hlt]
    · have hpow : 2 ^ (8 * n) = 2 ^ (8 * (n - i - 1)) * 256 * 2 ^ (8 * i) := by
        rw [show 256 = 2 ^ 8 from rfl, ← pow_add, ← pow_add]
        congr 1
        omega
      rw [hpow, ← Nat.mul_assoc, Nat.add_mul_div_right _ _ (Nat.two_pow_pos _), ← Nat.mul_assoc, Nat.add_mul_mod_self_right, ih (by omega)]

end

/-- Does byte `i` of the word at `w` lie among the `n` bytes from `a` on? -/
def laneHit (a n w i : Nat) : Bool := decide (a ≤ w / 4 * 4 + i) && decide (w / 4 * 4 + i < a + n)

theorem laneHit_iff {a n w i : Nat} : laneHit a n w i = true ↔ a ≤ w / 4 * 4 + i ∧ w / 4 * 4 + i < a + n := by
  unfold laneHit
  rw [Bool.and_eq_true, decide_eq_true_iff, decide_eq_true_iff]

theorem lanesOf_eq (a n v w : Nat) : lanesOf a n v w = (BitVec.ofNat 32 (laneSum (laneHit a n w) (fun _ => 0xFF) 4),
    BitVec.ofNat 32 (laneSum (laneHit a n w) (fun i => v / 2 ^ (8 * (w / 4 * 4 + i - a)) % 256) 4)) := rfl

theorem lanesOf_mask {a n v w i : Nat} (hi : i < 4) : bits (lanesOf a n v w).1.toNat (8 * i) (8 * i) = 1 ↔ laneHit a n w i = true := by
  have hb : ∀ j : Nat, (fun _ : Nat => 0xFF) j < 256 := fun _ => le_lit rfl
  have hbyte : laneSum (laneHit a n w) (fun _ => 0xFF) 4 / 2 ^ (8 * i) % 256 = if laneHit a n w i then 0xFF else 0 := laneSum_byte hb hi
  rw [lanesOf_eq, BitVec.toNat_ofNat, Nat.mod_eq_of_lt (laneSum_lt hb 4), bits, Nat.add_sub_cancel_left]
  by_cases hhit : laneHit a n w i = true
  · rw [if_pos hhit] at hbyte
    exact iff_of_true (by omega) hhit
  · rw [if_neg hhit] at hbyte
    exact iff_of_false (by omega) hhit

theorem lanesOf_value {a n v w i : Nat} (hi : i < 4) (h : laneHit a n w i = true) :
    (lanesOf a n v w).2.toNat / 2 ^ (8 * i) % 256 = v / 2 ^ (8 * (w / 4 * 4 + i - a)) % 256 := by
  have hb : ∀ j : Nat, (fun i => v / 2 ^ (8 * (w / 4 * 4 + i - a)) % 256) j < 256 := fun _ => Nat.mod_lt _ (by decide)
  rw [lanesOf_eq, BitVec.toNat_ofNat, Nat.mod_eq_of_lt (laneSum_lt hb 4), laneSum_byte hb hi, if_pos h]

/-! ### Bytes written -/

/-- Of `s` only the bytes that `f` gives a value changed, each to that value. -/
structure Wrote (f : Nat → Option Nat) (s t : State) : Prop where
  same : ∃ m, t = { s with mem := m }
  bytes : ∀ key, t.byte key = (f key).elim (s.byte key) (BitVec.ofNat 8)

theorem Wrote.none (s : State) : Wrote (fun _ => none) s s := ⟨⟨s.mem, rfl⟩, fun _ => rfl⟩

theorem Wrote.congr {f g : Nat → Option Nat} {s t : State} (h : Wrote f s t) (hfg : ∀ key, f key = g key) : Wrote g s t :=
  (funext hfg : f = g) ▸ h

theorem Wrote.trans {f g : Nat → Option Nat} {s t u : State} (h : Wrote f s t) (h' : Wrote g t u) : Wrote (fun key => (g key).or (f key)) s u where
  same := by
    obtain ⟨m, rfl⟩ := h.same
    obtain ⟨m', rfl⟩ := h'.same
    exact ⟨m', rfl⟩
  bytes := fun key => by
    rw [h'.bytes key, h.bytes key]
    cases g key <;> rfl

theorem Wrote.setByte (s : State) (key v : Nat) : Wrote (fun j => if j = key then some (v % 256) else .none) s (s.setByte key (BitVec.ofNat 8 v)) where
  same := ⟨_, rfl⟩
  bytes := fun j => by
    rw [State.byte_setByte]
    split
    · exact BitVec.eq_of_toNat_eq (Nat.mod_mod ..).symm
    · rfl

theorem Wrote.mirrors {f : Nat → Option Nat} {s t : State} (h : Wrote f s t) (m : Master) : mirrors m t = mirrors m s := by
  obtain ⟨mem, rfl⟩ := h.same
  rfl

section
variable {k : CoreSel} {base lo hi : Nat} {s : State}

/-- One lane of a write into memory, by a core whose writes reach no other Peak. -/
def putLane (key : Nat) (mask v : Word) (i : Nat) (s : State) : State :=
  if bits mask.toNat (8 * i) (8 * i) = 1 then s.setByte (key + i) (BitVec.ofNat 8 (v.toNat / 2 ^ (8 * i))) else s

/-- The lanes that a mask chooses of the word at `key`, the first `n` of them. -/
def lanesAt (key : Nat) (mask v : Word) (n j : Nat) : Option Nat :=
  if key ≤ j ∧ j < key + n ∧ bits mask.toNat (8 * (j - key)) (8 * (j - key)) = 1 then some (v.toNat / 2 ^ (8 * (j - key)) % 256) else .none

theorem lanesAt_last (key : Nat) (mask v : Word) (n : Nat) : lanesAt key mask v (n + 1) (key + n) =
    if bits mask.toNat (8 * n) (8 * n) = 1 then some (v.toNat / 2 ^ (8 * n) % 256) else .none := by
  unfold lanesAt
  rw [Nat.add_sub_cancel_left]
  exact if_congr ⟨fun h => h.2.2, fun h => ⟨by omega, by omega, h⟩⟩ rfl rfl

theorem lanesAt_before (key : Nat) (mask v : Word) {n j : Nat} (hj : j ≠ key + n) : lanesAt key mask v (n + 1) j = lanesAt key mask v n j := by
  have hlt : j < key + (n + 1) ↔ j < key + n := by omega
  unfold lanesAt
  simp only [hlt]

theorem lanesAt_self (key : Nat) (mask v : Word) (n : Nat) : lanesAt key mask v n (key + n) = .none := if_neg (by omega)

theorem wrote_putLane_forAll (key : Nat) (mask v : Word) (s : State) (n : Nat) :
    Wrote (lanesAt key mask v n) s (forAll (List.range n) (putLane key mask v) s) := by
  induction n with
  | zero => exact (Wrote.none s).congr fun j => (if_neg (by omega)).symm
  | succ n ih =>
    unfold forAll at ih ⊢
    rw [List.range_succ, List.foldl_append, List.foldl_cons, List.foldl_nil]
    generalize List.foldl _ s (List.range n) = t at ih
    have hlast := lanesAt_last key mask v n
    unfold putLane
    by_cases hbit : bits mask.toNat (8 * n) (8 * n) = 1
    · rw [if_pos hbit] at hlast ⊢
      refine (ih.trans (Wrote.setByte t (key + n) _)).congr fun j => ?_
      by_cases hj : j = key + n
      · rw [hj, if_pos rfl, hlast]
        rfl
      · rw [if_neg hj, lanesAt_before key mask v hj, Option.none_or]
    · rw [if_neg hbit] at hlast ⊢
      refine ih.congr fun j => ?_
      by_cases hj : j = key + n
      · rw [hj, hlast, lanesAt_self]
      · exact (lanesAt_before key mask v hj).symm

/-- One turn of `putLanes`. -/
def mirroredLane (m : Master) (key : Nat) (mask v : Word) (i : Nat) (s : State) : State :=
  if bits mask.toNat (8 * i) (8 * i) = 1 then
    let b : Byte := BitVec.ofNat 8 (v.toNat / 2 ^ (8 * i))
    let s := s.setByte (key + i) b
    if mirrors m s then mirrorBytes m.peak (key + i) [b] s else s
  else s

theorem mirroredLane_eq {m : Master} {t : State} (ht : mirrors m t = false) (key : Nat) (mask v : Word) (i : Nat) :
    mirroredLane m key mask v i t = putLane key mask v i t ∧ mirrors m (putLane key mask v i t) = false := by
  have hset := (Wrote.setByte t (key + i) (v.toNat / 2 ^ (8 * i))).mirrors m
  unfold mirroredLane putLane
  split
  · exact ⟨if_neg (by rw [hset, ht]; decide), hset.trans ht⟩
  · exact ⟨rfl, ht⟩

theorem forAll_eq_of_invariant {α : Type} {P : State → Prop} {f g : α → State → State} (h : ∀ x t, P t → f x t = g x t ∧ P (g x t)) (xs : List α)
    {t : State} (ht : P t) : forAll xs f t = forAll xs g t := by
  induction xs generalizing t with
  | nil => rfl
  | cons x r ih =>
    obtain ⟨heq, hnext⟩ := h x t ht
    exact (congrArg (forAll r f) heq).trans (ih hnext)

theorem putLanes_eq {m : Master} (hmir : mirrors m s = false) (key : Nat) (mask v : Word) :
    putLanes m key mask v s = forAll (List.range 4) (putLane key mask v) s :=
  forAll_eq_of_invariant (f := mirroredLane m key mask v) (P := fun t => mirrors m t = false) (fun i _ ht => mirroredLane_eq ht key mask v i) _ hmir

/-- The `n` bytes of `v`, little-endian, from `key` on. -/
def bytesAt (key n v j : Nat) : Option Nat := if key ≤ j ∧ j < key + n then some (v / 2 ^ (8 * (j - key)) % 256) else .none

/-- One word's part of a store of `n` bytes. -/
def writeTurn (k : CoreSel) (a n v w : Nat) (s : State) : State := writeWord (.core k) 0 (w % 2 ^ 32) (lanesOf a n v w).1 (lanesOf a n v w).2 s

/-- The part of a run of bytes that lies in one word. -/
theorem MapsTo.wrote_turn (hm : MapsTo k base lo hi s) (hmir : mirrors (.core k) s = false) {a n v w : Nat} (hlo : lo ≤ w) (hhi : w < hi) :
    Wrote (fun j => if base + w / 4 * 4 ≤ j ∧ j < base + w / 4 * 4 + 4 then bytesAt (base + a) n v j else .none) s (writeTurn k a n v w s) := by
  have hbelow := hm.below
  have halign := hm.aligned
  unfold writeTurn writeWord
  dsimp only
  rw [Nat.mod_eq_of_lt (show w < 2 ^ 32 by omega), hm.place (w / 4 * 4) (by omega) (by omega)]
  dsimp only
  rw [putLanes_eq hmir]
  refine (wrote_putLane_forAll _ _ _ s 4).congr fun j => ?_
  unfold lanesAt
  by_cases hj : base + w / 4 * 4 ≤ j ∧ j < base + w / 4 * 4 + 4
  · obtain ⟨i, rfl⟩ := Nat.exists_eq_add_of_le hj.1
    have hi : i < 4 := by omega
    have hhit : laneHit a n w i = true ↔ base + a ≤ base + w / 4 * 4 + i ∧ base + w / 4 * 4 + i < base + a + n := by
      rw [laneHit_iff]
      omega
    rw [Nat.add_sub_cancel_left, if_pos hj, bytesAt]
    simp only [hj, true_and, lanesOf_mask hi]
    by_cases hin : laneHit a n w i = true
    · rw [if_pos hin, if_pos (hhit.mp hin), lanesOf_value hi hin, show base + w / 4 * 4 + i - (base + a) = w / 4 * 4 + i - a by omega]
    · rw [if_neg hin, if_neg (mt hhit.mpr hin)]
  · rw [if_neg hj, if_neg fun h => hj ⟨h.1, h.2.1⟩]

theorem MapsTo.of_wrote {f : Nat → Option Nat} {t : State} (hm : MapsTo k base lo hi s) (h : Wrote f s t) : MapsTo k base lo hi t := by
  obtain ⟨m, rfl⟩ := h.same
  exact ⟨hm.place, hm.aligned, hm.below⟩

/-- The part of a run of bytes that lies in words that follow one another. -/
theorem MapsTo.wrote_words (hm : MapsTo k base lo hi s) (hmir : mirrors (.core k) s = false) {a n v : Nat} (l : List Nat) (w : Nat)
    (hl : l.map (· / 4) = List.range' w l.length) (hlo : lo ≤ 4 * w) (hhi : 4 * (w + l.length) ≤ hi) :
    Wrote (fun j => if base + 4 * w ≤ j ∧ j < base + 4 * (w + l.length) then bytesAt (base + a) n v j else .none) s
      (forAll l (writeTurn k a n v) s) := by
  induction l generalizing w s with
  | nil => exact (Wrote.none s).congr fun j => (if_neg (by rw [List.length_nil]; omega)).symm
  | cons b r ih =>
    rw [List.map_cons, List.length_cons, List.range'_succ, List.cons.injEq] at hl
    obtain ⟨hb, hr⟩ := hl
    rw [List.length_cons] at hhi ⊢
    have hword := hm.wrote_turn hmir (a := a) (n := n) (v := v) (w := b) (by omega) (by omega)
    have hrest := ih (hm.of_wrote hword) ((hword.mirrors _).trans hmir) (w + 1) hr (by omega) (by omega)
    refine (hword.trans hrest).congr fun j => ?_
    by_cases hj : base + b / 4 * 4 ≤ j ∧ j < base + b / 4 * 4 + 4
    · rw [if_neg (by omega), if_pos hj, if_pos (by omega), Option.none_or]
    · rw [if_neg hj, Option.or_none]
      exact if_congr (by omega) rfl rfl

theorem MapsTo.wrote_fabWrite (hm : MapsTo k base lo hi s) (hmir : mirrors (.core k) s = false) {a n : Nat} (v : Nat) (hn : 0 < n) (hlo : lo ≤ a)
    (hhi : (a + n + 3) / 4 * 4 ≤ hi) : Wrote (bytesAt (base + a) n v) s (fabWrite (.core k) 0 a n v s) := by
  have halign := hm.aligned
  have hlen := wordsOf_length a n
  refine (hm.wrote_words hmir (wordsOf a n) (a / 4) (wordsOf_div a n) (by omega) (by omega)).congr fun j => ?_
  by_cases hj : base + 4 * (a / 4) ≤ j ∧ j < base + 4 * (a / 4 + (wordsOf a n).length)
  · exact if_pos hj
  · rw [if_neg hj]
    exact (if_neg (by omega)).symm

/-- One piece of a store: address, bytes, value. -/
def storePiece (k : CoreSel) (e : Nat × Nat × Nat) (s : State) : State := fabWrite (.core k) 0 e.1 e.2.1 e.2.2 s

/-- The words of the lanes of a list, each at its place in the 16 bytes from `key` on. -/
def lanesBytes (key : Nat) (w : Nat → Word) (ls : List Nat) (j : Nat) : Option Nat :=
  if key ≤ j ∧ (j - key) / 4 ∈ ls then some ((w ((j - key) / 4)).toNat / 2 ^ (8 * ((j - key) % 4)) % 256) else .none

theorem mem_lanesOn {q : BitVec 4} {l : Nat} : l ∈ lanesOn q ↔ l < 4 ∧ q.getLsbD l = true := by
  unfold lanesOn
  rw [List.mem_filter, List.mem_range]

theorem div_mem_lanesOn {q : BitVec 4} {i : Nat} : i / 4 ∈ lanesOn q ↔ i < 16 ∧ q.getLsbD (i / 4) = true := by
  rw [mem_lanesOn]
  exact and_congr_left fun _ => by omega

theorem wrote_lanes (hmir : mirrors (.core k) s = false) {a : Nat} (w : Nat → Word) (ls : List Nat) (hls : ∀ l ∈ ls, l < 4) (hlo : 0x10000 ≤ a)
    (hhi : a + 16 ≤ 0x20000) (halign : a % 4 = 0) :
    Wrote (lanesBytes (tcmKey k a) w ls) s
      (forAll (ls.map (fun l => (a + 4 * l, 4, (w l).toNat))) (storePiece k) s) := by
  induction ls generalizing s with
  | nil => exact (Wrote.none s).congr fun j => (if_neg fun h => List.not_mem_nil h.2).symm
  | cons l r ih =>
    have hl := hls l List.mem_cons_self
    have hlane : Wrote (bytesAt (tcmKey k a + 4 * l) 4 (w l).toNat) s (fabWrite (.core k) 0 (a + 4 * l) 4 (w l).toNat s) := by
      rw [← tcmKey_add]
      exact (mapsTo_dtcm k s).wrote_fabWrite hmir _ (by decide) (by omega) (by omega)
    refine (hlane.trans (ih ((hlane.mirrors _).trans hmir) fun i hi => hls i (List.mem_cons_of_mem _ hi))).congr fun j => ?_
    generalize tcmKey k a = key
    unfold lanesBytes bytesAt
    by_cases hr : key ≤ j ∧ (j - key) / 4 ∈ r
    · rw [if_pos hr, Option.some_or]
      exact (if_pos ⟨hr.1, List.mem_cons_of_mem _ hr.2⟩).symm
    · rw [if_neg hr, Option.none_or]
      by_cases hj : key + 4 * l ≤ j ∧ j < key + 4 * l + 4
      · have hlane : (j - key) / 4 = l := by omega
        rw [if_pos hj, if_pos ⟨by omega, by rw [hlane]; exact List.mem_cons_self⟩, hlane, show (j - key) % 4 = j - (key + 4 * l) by omega]
      · rw [if_neg hj, if_neg fun h => (List.mem_cons.mp h.2).elim (fun he => hj (by omega)) fun hm => hr ⟨h.1, hm⟩]

end

/-! ### The shape of a store -/

/-- A store that is made to DTCM, whatever pieces it has. -/
theorem storeOp_dtcm {x : Slot} {base : Fin 8} {off : BitVec 16} {w : Nat} {s : State} (src : Nat) (pieces : Core → Nat → List (Nat × Nat × Nat))
    (h : s.runs x.toCoreSel 4) (hlo : 0x10000 ≤ addrOf x base off w s) (hhi : addrOf x base off w s < 0x20000)
    (halign : addrOf x base off w s % w = 0) :
    storeOp x base off w src pieces s = passCore x.toCoreSel 4 { reads := [kQ x.pred.val, kS base.val, src] }
      (forAll (pieces (s.core x.toCoreSel) (addrOf x base off w s)) (storePiece x.toCoreSel) s) := by
  unfold storeOp
  dsimp only
  rw [fetched_of_runs h, accessCode_dtcm _ _ halign hlo hhi, if_neg (by decide)]
  split
  next hnone => rw [List.isEmpty_iff.mp hnone, forAll, List.foldl_nil]
  next =>
    unfold storePieces
    rw [if_pos (isDtcm_eq hlo hhi)]
    rfl

/-- An instruction that writes memory and then issues and passes. -/
theorem passCore_wrote {k : CoreSel} {u : Use} {f : Nat → Option Nat} {s t : State} (h : Wrote f s t) :
    Issued u 4 (s.core k) ((passCore k 4 u t).core k) ∧ ((passCore k 4 u t).core k).at_ (s.core k) = s.core k ∧
      (∀ key, (passCore k 4 u t).byte key = match f key with | some v => BitVec.ofNat 8 v | none => s.byte key) ∧
      OnlyCore k s { passCore k 4 u t with mem := s.mem } := by
  obtain ⟨hframe, hissued, hat⟩ := passCore_spec k 4 u t
  generalize passCore k 4 u t = v at hframe hissued hat
  have hmem : v.mem = t.mem :=
    show ({ v with regs := t.regs, cores := t.cores, peaks := t.peaks } : State).mem = t.mem from congrArg State.mem hframe.rest
  have hbytes := h.bytes
  obtain ⟨m, rfl⟩ := h.same
  refine ⟨hissued, hat, fun key => ?_, ⟨hframe.others, hframe.regs, hframe.peaks, congrArg (fun u : State => { u with mem := s.mem }) hframe.rest⟩⟩
  have hbyte : v.byte key = (f key).elim (s.byte key) (BitVec.ofNat 8) := by
    rw [← hbytes key]
    unfold State.byte
    rw [hmem]
  rw [hbyte]
  cases f key <;> rfl

/-- The bytes of a value, whether or not it was cut to the width of the store. -/
theorem bytesAt_mod (key w v j : Nat) : bytesAt key w (v % 2 ^ (8 * w)) j = bytesAt key w v j := by
  unfold bytesAt
  split
  next h =>
    have hpow : 2 ^ (8 * w) = 2 ^ (8 * (j - key)) * (256 * 2 ^ (8 * (w - (j - key) - 1))) := by
      rw [show 256 = 2 ^ 8 from rfl, ← pow_add, ← pow_add]
      congr 1
      omega
    rw [hpow, Nat.mod_mul_right_div_self, Nat.mod_mul_right_mod]
  next => rfl

/-- A store of a whole value of 1, 2, 4 or 8 bytes. -/
theorem wrote_wholePiece {k : CoreSel} {q w a : Nat} {v : Core → Nat} {s : State} (hmir : mirrors (.core k) s = false) (hon : (s.core k).on q = true)
    (hw : w ∈ [1, 2, 4, 8]) (hlo : 0x10000 ≤ a) (hhi : a < 0x20000) (halign : a % w = 0) :
    Wrote (bytesAt (tcmKey k a) w (v (s.core k))) s
      (forAll (wholePiece q w v (s.core k) a) (storePiece k) s) := by
  obtain ⟨hpos, hend⟩ := dtcm_end hw hhi halign
  unfold wholePiece
  rw [if_pos hon]
  exact ((mapsTo_dtcm k s).wrote_fabWrite hmir (v (s.core k) % 2 ^ (8 * w)) hpos hlo hend).congr (bytesAt_mod _ _ _)

/-- Settles O17: the bytes of a whole value, or of the lanes whose predicate bit is 1, are written, and then the instruction passes. -/
theorem storesToDtcm : Obligations.StoresToDtcm := by
  unfold Obligations.StoresToDtcm
  intro x rt pt vt base off s h hmir k c a inDtcm stored run
  have whole {i : Instr} {w src : Nat} {v : Core → Nat} (hw : w ∈ [1, 2, 4, 8]) (hon : c.on x.pred.val = true) (hd : inDtcm w)
      (he : exec i s = .next (storeOp x base off w src (wholePiece x.pred.val w v) s)) : stored i src (run w (v c)) := by
    obtain ⟨hlo, hhi, halign⟩ := hd
    rw [storeOp_dtcm src _ h hlo hhi halign] at he
    exact ⟨_, he, passCore_wrote (wrote_wholePiece hmir hon hw hlo hhi halign)⟩
  refine ⟨fun hon => ⟨fun hd => whole (by decide) hon hd (exec_sb ..), fun hd => whole (by decide) hon hd (exec_sh ..),
    fun hd => whole (by decide) hon hd (exec_sw ..), fun hd => whole (by decide) hon hd (exec_sp ..)⟩, fun hd => ?_⟩
  obtain ⟨hlo, hhi, halign⟩ := hd
  have he := exec_sv x vt base off s
  unfold execSv at he
  rw [storeOp_dtcm _ _ h hlo hhi halign] at he
  refine ⟨_, he, passCore_wrote ((wrote_lanes hmir (fun l => c.rv vt.val l) (lanesOn (c.rq x.pred.val)) (fun l hl => (mem_lanesOn.mp hl).1) hlo (by omega)
    (by omega)).congr fun j => ?_)⟩
  exact if_congr (and_congr_right fun _ => div_mem_lanesOn) rfl rfl

end Sys2Proof.Machine
end

section
/-! SUPPORT. The registers of Traverse (R148 to R173): how a bit of a task's status reads after another write, what TRV.STATUS, an event and a monitor
violation leave, and that a flag of the monitor once set stays set. -/

namespace Sys2Proof.Machine

variable {M : Nat → Nat} {s t u : State} {p q : PeakId} {n : Nat}

/-! ### Addresses and masks -/

theorem onlyRegs_nil (a : Nat) : onlyRegs [] a = 0 := rfl

theorem onlyRegs_cons_self (a m : Nat) (own : List (Nat × Nat)) : onlyRegs ((a, m) :: own) a = m := by simp [onlyRegs]

theorem onlyRegs_cons_ne {a b : Nat} (m : Nat) (own : List (Nat × Nat)) (h : a ≠ b) : onlyRegs ((a, m) :: own) b = onlyRegs own b := by
  simp [onlyRegs, h]

theorem trvTaskStat_lt (h : n < 0x70) : Reg.trvTaskStat n < 2 ^ 32 := by
  simp only [Reg.trvTaskStat]
  omega

/-- The status words of the tasks lie above TRV's own registers. -/
theorem ne_trvTaskStat {a : Nat} (h : a < 0x400B3000) : a ≠ Reg.trvTaskStat n := by
  simp only [Reg.trvTaskStat]
  omega

theorem trvTaskStat_inj {m : Nat} (h : m ≠ n) : Reg.trvTaskStat m ≠ Reg.trvTaskStat n := by
  simp only [Reg.trvTaskStat]
  omega

theorem eventMask_taskLag (h : n < 0x70) : eventMask (Reg.trvTaskLag n) = 0 := by
  have hne : ∀ {a}, a < 0x400B3000 ∨ 0x400B3700 ≤ a → Reg.trvTaskLag n ≠ a := by
    simp only [Reg.trvTaskLag]
    omega
  unfold eventMask
  rw [if_neg (not_or.mpr ⟨hne (by decide), not_or.mpr ⟨hne (by decide), hne (by decide)⟩⟩), if_neg (hne (by decide)), if_neg (hne (by decide)),
    if_neg (hne (by decide))]
  have ha : Reg.trvTaskLag n = 0x400B3008 + 0x10 * n := rfl
  rw [if_neg (by omega), if_neg (by omega), if_neg (by omega), if_neg (by omega)]

/-! ### One-bit fields -/

/-- A bit apart from the field that was written. -/
theorem State.bit_setFld_free (s : State) {f g : Fld} (v : Nat) (hf : f.lo ≤ f.hi) (h32 : f.hi < 32) (ha : f.addr < 2 ^ 32) (hg : g.addr < 2 ^ 32)
    (h : g.addr ≠ f.addr ∨ f.hi < g.lo ∨ g.hi < f.lo) : (s.setFld p f v).bit p g = s.bit p g := by
  by_cases he : g.addr = f.addr
  · exact State.bit_setFld_apart s p v hf h32 he (h.resolve_left (not_not_intro he))
  · exact State.bit_setFld_ne s v (regKey_ne he hg ha)

theorem State.loaded_of_regs (h : t.regs = s.regs) (p : PeakId) : t.loaded p = s.loaded p := by
  unfold State.loaded
  simp only [State.bit_of_regs h]

theorem State.bit_setReg_ne (s : State) {a : Nat} {g : Fld} (v : Nat) (h : regKey q g.addr ≠ regKey p a) : (s.setReg p a v).bit q g = s.bit q g := by
  unfold State.bit
  rw [State.fld_setReg_ne s v h]

/-- A bit of a task's status apart from the one that was written. -/
theorem State.bit_setTaskStat (s : State) (p : PeakId) {m b c : Nat} (v : Nat) (hm : m < 0x70) (hn : n < 0x70) (hb : b < 32) (h : n ≠ m ∨ c ≠ b) :
    (s.setFld p ⟨Reg.trvTaskStat m, b, b⟩ v).bit p ⟨Reg.trvTaskStat n, c, c⟩ = s.bit p ⟨Reg.trvTaskStat n, c, c⟩ :=
  State.bit_setFld_free s v (le_refl b) hb (trvTaskStat_lt hm) (trvTaskStat_lt hn) (h.imp trvTaskStat_inj fun hc => Nat.lt_or_gt_of_ne (Ne.symm hc))

/-- A bit of a task's status that was written. -/
theorem State.bit_setTaskStat_same (s : State) (p : PeakId) {b : Nat} (v : Bool) (hb : b < 32) :
    (s.setBit p ⟨Reg.trvTaskStat n, b, b⟩ v).bit p ⟨Reg.trvTaskStat n, b, b⟩ = v := State.bit_setBit s p rfl hb v

theorem RegFrame.setOne (h : RegFrame M s t) (p : PeakId) {a b : Nat} (v : Nat) (ha : a < 2 ^ 32) (hb : b < 32) (hm : (M a).testBit b = true) :
    RegFrame M s (t.setFld p ⟨a, b, b⟩ v) :=
  h.setFld p v (le_refl b) hb ha fun i h1 h2 => by rwa [le_antisymm h2 h1]

/-! ### What is loaded -/

theorem mem_loaded : n ∈ s.loaded p ↔ n ∈ taskNumbers ∧ s.bit p (Fd.trvTaskStatLoaded n) = true := List.mem_filter

theorem RegFrame.loaded (h : RegFrame M s t) (hM : ∀ n < 0x70, bits (M (Reg.trvTaskStat n)) 0 0 = 0) (q : PeakId) : t.loaded q = s.loaded q :=
  List.filter_congr fun n hn => h.bit q (f := Fd.trvTaskStatLoaded n) (trvTaskStat_lt (taskNumbers_lt hn)) (hM n (taskNumbers_lt hn))

/-! ### TRV.STATUS follows the tasks (R173) -/

theorem RegFrame.trvRefresh (h : RegFrame M s t) (p : PeakId) (hM : M Reg.trvStatus = 0xFFFFFFFF) : RegFrame M s (trvRefresh p t) := by
  have set : ∀ (v : State) (f : Fld) (x : Nat), f.addr = Reg.trvStatus → f.lo ≤ f.hi → f.hi < 32 → RegFrame M s v → RegFrame M s (v.setFld p f x) := by
    intro v f x hf h1 h2 hv
    refine hv.setFld p x h1 h2 (by rw [hf]; decide) fun i _ hi => ?_
    rw [hf, hM, show 0xFFFFFFFF = 2 ^ 32 - 1 from rfl, Nat.testBit_two_pow_sub_one]
    exact decide_eq_true (by omega)
  unfold Machine.trvRefresh State.setBit
  dsimp only
  exact set _ _ _ rfl (le_lit rfl) (le_lit rfl) (set _ _ _ rfl (le_lit rfl) (le_lit rfl) (set _ _ _ rfl (le_lit rfl) (le_lit rfl)
    (set _ _ _ rfl (le_lit rfl) (le_lit rfl) (set _ _ _ rfl (le_lit rfl) (le_lit rfl) (set _ _ _ rfl (le_lit rfl) (le_lit rfl) h)))))

theorem trvRefresh_shown (p : PeakId) (s : State) : RegFrame (onlyRegs [(Reg.trvStatus, 0xFFFFFFFF)]) s (trvRefresh p s) :=
  (RegFrame.refl _ s).trvRefresh p rfl

theorem trvRefresh_reg (p q : PeakId) (s : State) {a : Nat} (ha : a < 2 ^ 32) (hne : Reg.trvStatus ≠ a) : (trvRefresh p s).reg q a = s.reg q a :=
  (trvRefresh_shown p s).reg q ha (onlyRegs_cons_ne _ [] hne)

theorem trvRefresh_bit (p q : PeakId) (s : State) {f : Fld} (ha : f.addr < 2 ^ 32) (hne : Reg.trvStatus ≠ f.addr) :
    (trvRefresh p s).bit q f = s.bit q f := by
  unfold State.bit State.fld
  rw [trvRefresh_reg p q s ha hne]

theorem trvRefresh_taskStat (p : PeakId) (s : State) {b : Nat} (hn : n < 0x70) :
    (trvRefresh p s).bit p ⟨Reg.trvTaskStat n, b, b⟩ = s.bit p ⟨Reg.trvTaskStat n, b, b⟩ :=
  trvRefresh_bit p p s (trvTaskStat_lt hn) (ne_trvTaskStat (by decide))

theorem trvRefresh_loaded (p q : PeakId) (s : State) : (trvRefresh p s).loaded q = s.loaded q :=
  (trvRefresh_shown p s).loaded (fun _ _ => by
    rw [onlyRegs_cons_ne _ _ (ne_trvTaskStat (by decide)), onlyRegs_nil]
    decide) q

theorem trvRefresh_keeps (p : PeakId) (s : State) : Upd 1 s (trvRefresh p s) := trvRefresh_upd (Upd.refl 1 s) (by decide)

theorem trvRefresh_peaks (p : PeakId) (s : State) : (trvRefresh p s).peaks = s.peaks := by simp [trvRefresh]

/-! ### Events -/

theorem fire_keeps (p : PeakId) (ev : Nat) (s : State) : Upd 248523987615757 s (fire p ev s) := fire_upd (Upd.refl _ s) (by decide)

/-- An event reaches every task that was loaded before, where the Peak is still up and the task still loaded as it fires. -/
theorem fired_of_loaded {ev : Nat} (hup : (t.peak p).up = (s.peak p).up) (hl : ∀ n ∈ s.loaded p, n ∈ t.loaded p) (hev : ev < 256)
    (hbd : ev ≠ Ev.bootDone) : Fired p ev s (fire p ev t) :=
  fun hs n hn hns => fire_waitSet p ev n hev hbd (hup.trans hs) (hl n hn) hns

theorem fire_taskStat (p : PeakId) (ev : Nat) (s : State) {b : Nat} (hn : n < 0x70) (hb : bits 0x82 b b = 0) :
    (fire p ev s).bit p ⟨Reg.trvTaskStat n, b, b⟩ = s.bit p ⟨Reg.trvTaskStat n, b, b⟩ :=
  (fire_frame p ev (RegFrame.refl _ s)).bit p (f := ⟨Reg.trvTaskStat n, b, b⟩) (trvTaskStat_lt hn) (by simpa only [eventMask_taskStat hn] using hb)

theorem TaskKept.eq {a b : Task} (h : TaskKept a b) :
    { b with wait := a.wait, latchEv := a.latchEv, latchTick := a.latchTick, latchLate := a.latchLate } = a := h

theorem TaskKept.late {a b : Task} (h : TaskKept a b) : b.late = a.late := (congrArg Task.late h.eq :)

theorem TaskKept.endMissed {a b : Task} (h : TaskKept a b) : b.endMissed = a.endMissed := (congrArg Task.endMissed h.eq :)

theorem TaskKept.cert {a b : Task} (h : TaskKept a b) : b.cert = a.cert := (congrArg Task.cert h.eq :)

theorem TaskKept.repl {a b : Task} (h : TaskKept a b) : b.repl = a.repl := (congrArg Task.repl h.eq :)

/-! ### The monitor's flags (R161) -/

/-- The flags in which a monitor violation stands: a task's MON_FAULT and TRV.FLAGS.MONITOR. -/
def MonFlag (g : Fld) : Prop := (∃ n < 0x70, g = Fd.trvTaskStatMonFault n) ∨ g = Fd.trvFlagsMonitor

theorem MonFlag.lt {g : Fld} (h : MonFlag g) : g.addr < 2 ^ 32 := by
  rcases h with ⟨n, hn, rfl⟩ | rfl
  · exact trvTaskStat_lt hn
  · decide

theorem MonFlag.block {g : Fld} (h : MonFlag g) : g.addr / 0x10000 = 0x400B := by
  rcases h with ⟨n, hn, rfl⟩ | rfl
  · simp only [Fd.trvTaskStatMonFault, Reg.trvTaskStat]
    omega
  · decide

/-- No other register of TRV that an event writes holds one. -/
theorem MonFlag.addr_ne {g : Fld} (h : MonFlag g) {a : Nat} (hf : a ≠ Reg.trvFlags) (ha : a < 0x400B3000 ∨ a % 16 = 4) : g.addr ≠ a := by
  rcases h with ⟨n, hn, rfl⟩ | rfl
  · simp only [Fd.trvTaskStatMonFault, Reg.trvTaskStat]
    omega
  · exact hf.symm

/-- Writing another field of TRV leaves it. -/
theorem MonFlag.setFld {g : Fld} (h : MonFlag g) (s : State) (p : PeakId) {f : Fld} (v : Nat) (hf : f.lo ≤ f.hi) (h32 : f.hi < 32) (ha : f.addr < 2 ^ 32)
    (hne : f.addr ≠ Reg.trvFlags) (hr : f.addr < 0x400B3000 ∨ f.addr % 16 = 4) : (s.setFld p f v).bit p g = s.bit p g :=
  State.bit_setFld_free s v hf h32 ha h.lt (Or.inl (h.addr_ne hne hr))

/-- A monitor violation's flags before TRV.STATUS and the record follow. -/
def monMarked (p : PeakId) (n : Nat) (s : State) : State :=
  ((s.setPeak p { s.peak p with monSince := true }).setFld p (Fd.trvTaskStatMonFault n) 1).raise p Fd.trvFlagsMonitor

theorem monMarked_flags (p : PeakId) (n : Nat) (s : State) (hn : n < 0x70) :
    (monMarked p n s).bit p (Fd.trvTaskStatMonFault n) = true ∧ (monMarked p n s).bit p Fd.trvFlagsMonitor = true := by
  unfold monMarked State.raise
  refine ⟨?_, State.bit_raise _ p (f := Fd.trvFlagsMonitor) rfl (by decide)⟩
  rw [State.bit_setFld_free _ 1 (le_refl _) (by decide) (by decide) (trvTaskStat_lt hn) (Or.inl (ne_trvTaskStat (by decide)).symm)]
  exact State.bit_raise _ p (f := Fd.trvTaskStatMonFault n) rfl (le_lit rfl)

/-- Marking a violation clears no flag of the monitor. -/
theorem monMarked_keeps {g : Fld} (h : MonFlag g) (hm : n < 0x70) (hs : s.bit p g = true) : (monMarked p n s).bit p g = true := by
  obtain ⟨hfault, hmon⟩ := monMarked_flags p n s hm
  rcases h with ⟨m, hm', rfl⟩ | rfl
  · by_cases he : m = n
    · rw [he]
      exact hfault
    · refine (State.bit_setFld_free _ 1 (le_refl _) (by decide) (by decide) (trvTaskStat_lt hm') (Or.inl (ne_trvTaskStat (by decide)).symm)).trans ?_
      exact (State.bit_setTaskStat _ p 1 hm hm' (by decide) (Or.inl he)).trans ((State.bit_setPeak ..).trans hs)
  · exact hmon

theorem monitorMark_flag {g : Fld} (h : MonFlag g) (p : PeakId) (n kind cycle : Nat) (s : State) :
    (monitorMark p n kind cycle s).bit p g = (monMarked p n s).bit p g := by
  have htrace : ∀ (ty pay : Nat) (v : State), (tracePut p ty pay v).bit p g = v.bit p g := fun ty pay v =>
    (tracePut_regsObs p ty pay).bit p h.lt (by rw [h.block]; decide)
  unfold monitorMark
  dsimp only
  rw [trvRefresh_bit _ _ _ h.lt (h.addr_ne (by decide) (by decide)).symm, htrace]
  split
  · rw [State.bit_setReg_ne _ _ (regKey_ne (h.addr_ne (by decide) (by decide)) h.lt (by decide))]
    exact (h.setFld _ p (f := Fd.trvMonKind) kind (by decide) (by decide) (by decide) (by decide) (by decide)).trans
      (h.setFld _ p (f := Fd.trvMonTask) n (by decide) (by decide) (by decide) (by decide) (by decide))
  · rfl

theorem MonFlag.regsIn {g : Fld} (h : MonFlag g) {l : List Nat} (hr : RegsIn l s t) (hl : 0x400B ∉ l) : t.bit p g = s.bit p g :=
  hr.bit p h.lt (by rwa [h.block])

theorem MonFlag.bump {g : Fld} (h : MonFlag g) (s : State) (p : PeakId) {c f : Fld} (hc : g.addr ≠ c.addr) (hf : g.addr ≠ f.addr) (hca : c.addr < 2 ^ 32)
    (hfa : f.addr < 2 ^ 32) : (s.bump p c f).bit p g = s.bit p g := by
  unfold State.bit
  rw [State.fld_bump_ne s (regKey_ne hc h.lt hca) (regKey_ne hf h.lt hfa)]

theorem MonFlag.setPending {g : Fld} (h : MonFlag g) (s : State) (p : PeakId) (hn : n < 0x70) :
    (s.setFld p (Fd.trvTaskStatPending n) 1).bit p g = s.bit p g := by
  refine State.bit_setFld_free s 1 (le_refl _) (le_lit rfl) (trvTaskStat_lt hn) h.lt ?_
  rcases h with ⟨_, _, rfl⟩ | rfl
  · exact Or.inr (Or.inl (le_lit rfl))
  · exact Or.inl (ne_trvTaskStat (by decide))

theorem MonFlag.overrun {g : Fld} (h : MonFlag g) (s : State) (p : PeakId) (hn : n < 0x70) :
    ((s.bump p (Fd.trvTaskMissOverruns n) (Fd.trvTaskMissOvrSat n)).raise p Fd.trvFlagsOverrun).bit p g = s.bit p g := by
  have hmiss : Reg.trvTaskMiss n < 2 ^ 32 ∧ Reg.trvTaskMiss n ≠ Reg.trvFlags ∧ Reg.trvTaskMiss n % 16 = 4 := by
    simp only [Reg.trvTaskMiss, Reg.trvFlags]
    omega
  obtain ⟨hlt, hflags, hmod⟩ := hmiss
  have hne : g.addr ≠ Reg.trvTaskMiss n := h.addr_ne hflags (Or.inr hmod)
  refine (State.bit_setFld_free _ 1 (by decide) (by decide) (by decide) h.lt ?_).trans (h.bump s p hne hne hlt hlt)
  rcases h with ⟨_, _, rfl⟩ | rfl
  · exact Or.inl (ne_trvTaskStat (by decide)).symm
  · exact Or.inr (Or.inr (by decide))

/-- Within an event: only what events change has changed, and flag g of the monitor stands. -/
def MonStands (p : PeakId) (g : Fld) (s t : State) : Prop := RegFrame eventMask s t ∧ t.bit p g = true

theorem MonStands.next {g : Fld} (h : MonStands p g s t) (hf : RegFrame eventMask s u) (hg : u.bit p g = t.bit p g) : MonStands p g s u :=
  ⟨hf, hg.trans h.2⟩

/-- An event clears no flag of the monitor. -/
theorem fire_monFlag {g : Fld} (h : MonFlag g) (ev : Nat) (hs : s.bit p g = true) : (fire p ev s).bit p g = true := by
  have hwatch : g.addr ≠ Reg.trvEvWatchCnt := h.addr_ne (by decide) (by decide)
  have hall : MonStands p g s (fire p ev s) := by
    refine fireN_induct (MonStands p g s) p s ⟨RegFrame.refl _ s, hs⟩ ?watch
      (fun v _ _ _ hv => hv.next (obsCount_frame p _ _ _ hv.1) (h.regsIn (obsCount_regsObs p _ _ _) (by decide)))
      (fun v _ _ hv => hv.next (tracePut_frame p _ _ hv.1) (h.regsIn (tracePut_regsObs p _ _) (by decide)))
      (fun v _ _ _ hv => hv.next (talusTrigger_frame p _ _ _ hv.1) (h.regsIn (talusTrigger_regsTal p _ _ _ (RegsIn.refl v)) (by decide)))
      (fun v _ _ hv => hv.next (hv.1.of_regs rfl) (State.bit_setCore ..))
      (fun v _ _ _ _ hv => hv.next (hv.1.of_regs rfl) (State.bit_setTask ..))
      ?mark ?pend ?overrun (fun v hv => loaded_of_frame p hv.1) 2 ev
    case watch =>
      exact fun v hv => hv.next (RegFrame.bump hv.1 p (le_lit rfl) (le_lit rfl) (le_lit rfl) (inMask eventMask_trvEvWatchCnt (by decide)) (le_lit rfl)
        (le_lit rfl) (le_lit rfl) (inMask eventMask_trvEvWatchCnt (by decide))) (h.bump v p hwatch hwatch (by decide) (by decide))
    case mark =>
      exact fun v m _ _ hm hv => ⟨monitorMark_frame p _ _ (loaded_lt hm) hv.1, (monitorMark_flag h ..).trans (monMarked_keeps h (loaded_lt hm) hv.2)⟩
    case pend =>
      exact fun v m _ hm hv => hv.next ((setTaskStat_frame hv.1 p 1 (loaded_lt hm) (Or.inl rfl)).of_regs rfl)
        ((State.bit_setTask ..).trans (h.setPending v p (loaded_lt hm)))
    case overrun =>
      exact fun v m hm hv => hv.next (RegFrame.setFld (bumpOverruns_frame hv.1 p (loaded_lt hm)) p 1 (le_lit rfl) (le_lit rfl) (le_lit rfl)
        (inMask eventMask_trvFlags (by decide))) (h.overrun v p (loaded_lt hm))
  exact hall.2

theorem monitorViolation_keeps (p : PeakId) (n kind cycle : Nat) (s : State) : Upd 248523987615757 s (monitorViolation p n kind cycle s) :=
  monitorViolation_upd (Upd.refl _ s) (by decide)

theorem monitorMark_loaded (hn : n < 0x70) (p : PeakId) (kind cycle : Nat) (s : State) : (monitorMark p n kind cycle s).loaded p = s.loaded p :=
  loaded_of_frame p (monitorMark_frame p kind cycle hn (RegFrame.refl _ s))

/-- A violation shows at its task and in TRV.FLAGS, and is signalled. -/
theorem monitorViolation_shows (hn : n < 0x70) (p : PeakId) (kind cycle : Nat) (s : State) :
    (monitorViolation p n kind cycle s).bit p (Fd.trvTaskStatMonFault n) = true ∧ (monitorViolation p n kind cycle s).bit p Fd.trvFlagsMonitor = true ∧
      Fired p 132 s (monitorViolation p n kind cycle s) := by
  obtain ⟨hfault, hmon⟩ := monMarked_flags p n s hn
  have stands : ∀ {g : Fld}, MonFlag g → (monMarked p n s).bit p g = true → (monitorViolation p n kind cycle s).bit p g = true := fun hg hs =>
    fire_monFlag hg _ ((monitorMark_flag hg ..).trans hs)
  have hup : ((monitorMark p n kind cycle s).peak p).up = (s.peak p).up :=
    ((monitorMark_upd (Upd.refl 211140592271361 s) (by decide)).peak p).up (by decide)
  refine ⟨stands (Or.inl ⟨n, hn, rfl⟩) hfault, stands (Or.inr rfl) hmon, fired_of_loaded hup (fun m hm => ?_) (by decide) (by decide)⟩
  rwa [monitorMark_loaded hn]

/-- What a violation leaves of a task. -/
theorem monitorViolation_task {m : Nat} (hm : m < 0x100) (p : PeakId) (n kind cycle : Nat) (s : State) :
    TaskKept (s.task p m) ((monitorViolation p n kind cycle s).task p m) := by
  have h := (fire_task (s := monitorMark p n kind cycle s) p Ev.summitMonitor p m hm).1
  rwa [monitorMark_task] at h

end Sys2Proof.Machine
end

section
/-! CERTIFICATE. What time brings to tasks (R161, R162, R164, R165, R168): deadlines, frame releases, summit ends and code rechecks. -/

namespace Sys2Proof.Machine

variable {s : State} {p : PeakId} {n : Nat}

theorem isControl_iff : isControl n = true ↔ 0x10 ≤ n ∧ n ≤ 0x4F := by simp [isControl]

theorem isFrame_iff : isFrame n = true ↔ 0x60 ≤ n ∧ n ≤ 0x6F := by simp [isFrame]

/-! ### A missed deadline (R164, R165) -/

/-- The registers in which a missed deadline of task n shows beside its event. -/
def deadlineRegs (n : Nat) : List (Nat × Nat) := [(Reg.trvTaskStat n, 0x08), (Reg.trvTaskMiss n, 0x7FFF), (Reg.trvFlags, 0x04)]

theorem deadlineRegs_masks (hn : n < 0x70) : onlyRegs (deadlineRegs n) (Reg.trvTaskStat n) = 0x08 ∧
    onlyRegs (deadlineRegs n) (Reg.trvTaskMiss n) = 0x7FFF ∧ onlyRegs (deadlineRegs n) Reg.trvFlags = 0x04 := by
  have hmiss : Reg.trvTaskStat n ≠ Reg.trvTaskMiss n ∧ Reg.trvTaskMiss n ≠ Reg.trvFlags := by
    simp only [Reg.trvTaskStat, Reg.trvTaskMiss, Reg.trvFlags]
    omega
  have hflags : Reg.trvTaskStat n ≠ Reg.trvFlags := (ne_trvTaskStat (by decide)).symm
  unfold deadlineRegs
  refine ⟨onlyRegs_cons_self .., ?_, ?_⟩
  · rw [onlyRegs_cons_ne _ _ hmiss.1, onlyRegs_cons_self]
  · rw [onlyRegs_cons_ne _ _ hflags, onlyRegs_cons_ne _ _ hmiss.2, onlyRegs_cons_self]

theorem trvTaskMiss_lt (h : n < 0x70) : Reg.trvTaskMiss n < 2 ^ 32 := by
  simp only [Reg.trvTaskMiss]
  omega

theorem trvTaskMiss_ne_stat : Reg.trvTaskMiss n ≠ Reg.trvTaskStat n := by
  simp only [Reg.trvTaskMiss, Reg.trvTaskStat]
  omega

/-- The running task is late and counted, before the event. -/
def deadlineMissed (p : PeakId) (n : Nat) (s : State) : State :=
  (((s.setTask p n { s.task p n with late := true }).setFld p (Fd.trvTaskStatLate n) 1).setFld p (Fd.trvTaskMissMisses n)
    (s.fld p (Fd.trvTaskMissMisses n) + 1)).raise p Fd.trvFlagsDeadlineMiss

theorem deadlineExpiry_missed (hlo : 0x10 ≤ n) (hhi : n ≤ 0x4F) (hloaded : n ∈ s.loaded p) (hrun : s.bit p (Fd.trvTaskStatRunning n) = true)
    (hlate : (s.task p n).late = false) (hdue : (s.task p n).startTick + s.reg p (Reg.trvTaskTiming n) ≤ s.tick)
    (hmisses : s.fld p (Fd.trvTaskMissMisses n) < 0x7FFF) : deadlineExpiry p n false s = fire p Ev.deadlineMiss (deadlineMissed p n s) := by
  have hn : n < 0x70 := by omega
  have hcount : ((s.setTask p n { s.task p n with late := true }).setFld p (Fd.trvTaskStatLate n) 1).fld p (Fd.trvTaskMissMisses n) =
      s.fld p (Fd.trvTaskMissMisses n) :=
    (State.fld_setFld_ne _ (f := Fd.trvTaskStatLate n) 1 (regKey_ne trvTaskMiss_ne_stat (trvTaskMiss_lt hn) (trvTaskStat_lt hn))).trans (State.fld_setTask ..)
  unfold deadlineExpiry
  dsimp only
  rw [if_pos (by simp [isControl_iff.mpr ⟨hlo, hhi⟩, (mem_loaded.mp hloaded).2, hrun, hlate, hdue])]
  have hroom : s.fld p (Fd.trvTaskMissMisses n) ≠ 2 ^ ((Fd.trvTaskMissMisses n).hi + 1 - (Fd.trvTaskMissMisses n).lo) - 1 := Nat.ne_of_lt hmisses
  unfold State.bump
  rw [if_neg Bool.false_ne_true, hcount, if_neg hroom]
  rfl

theorem deadlineMissed_frame (hn : n < 0x70) : RegFrame (onlyRegs (deadlineRegs n)) s (deadlineMissed p n s) := by
  obtain ⟨hstat, hmiss, hflags⟩ := deadlineRegs_masks hn
  have hlate : RegFrame (onlyRegs (deadlineRegs n)) s ((s.setTask p n { s.task p n with late := true }).setFld p (Fd.trvTaskStatLate n) 1) :=
    RegFrame.setOne ((RegFrame.refl _ s).of_regs rfl) p 1 (trvTaskStat_lt hn) (by decide) (by rw [hstat]; decide)
  refine RegFrame.setOne (hlate.setFld p (f := Fd.trvTaskMissMisses n) _ (le_lit rfl) (le_lit rfl) (trvTaskMiss_lt hn) ?_) p 1 (by decide) (by decide)
    (by rw [hflags]; decide)
  exact inMask (lo := 0) (hi := 14) hmiss (by decide)

theorem deadlineMissed_shows (hn : n < 0x70) (hmisses : s.fld p (Fd.trvTaskMissMisses n) < 0x7FFF) :
    (deadlineMissed p n s).bit p (Fd.trvTaskStatLate n) = true ∧
    (deadlineMissed p n s).fld p (Fd.trvTaskMissMisses n) = s.fld p (Fd.trvTaskMissMisses n) + 1 ∧
    (deadlineMissed p n s).bit p Fd.trvFlagsDeadlineMiss = true := by
  have hstat : Reg.trvTaskStat n ≠ Reg.trvFlags := (ne_trvTaskStat (by decide)).symm
  have hmiss : Reg.trvTaskMiss n ≠ Reg.trvFlags := by
    simp only [Reg.trvTaskMiss, Reg.trvFlags]
    omega
  unfold deadlineMissed State.raise
  refine ⟨?_, ?_, State.bit_raise _ p (f := Fd.trvFlagsDeadlineMiss) rfl (by decide)⟩
  · refine (State.bit_setFld_free _ 1 (le_refl _) (by decide) (by decide) (trvTaskStat_lt hn) (Or.inl hstat)).trans ?_
    refine (State.bit_setFld_free _ _ (le_lit rfl) (le_lit rfl) (trvTaskMiss_lt hn) (trvTaskStat_lt hn) (Or.inl trvTaskMiss_ne_stat.symm)).trans ?_
    exact State.bit_raise _ p (f := Fd.trvTaskStatLate n) rfl (le_lit rfl)
  · rw [State.fld_setFld_ne _ (f := Fd.trvFlagsDeadlineMiss) (g := Fd.trvTaskMissMisses n) 1 (regKey_ne hmiss (trvTaskMiss_lt hn) (by decide)),
      State.fld_setFld _ p (f := Fd.trvTaskMissMisses n) _ (le_lit rfl) (le_lit rfl)]
    simp only [Fd.trvTaskMissMisses] at hmisses ⊢
    omega

theorem deadlineMissed_loaded (hn : n < 0x70) : (deadlineMissed p n s).loaded p = s.loaded p := by
  refine (deadlineMissed_frame hn).loaded (fun m hm => ?_) p
  by_cases he : m = n
  · rw [he, (deadlineRegs_masks hn).1]
    decide
  · have hnone : onlyRegs (deadlineRegs n) (Reg.trvTaskStat m) = 0 := onlyRegs_of_ne fun e hin => by
      simp only [deadlineRegs, List.mem_cons, List.not_mem_nil, or_false] at hin
      rcases hin with rfl | rfl | rfl
      · exact (trvTaskStat_inj he).symm
      · simp only [Reg.trvTaskMiss, Reg.trvTaskStat]
        omega
      · exact ne_trvTaskStat (by decide)
    rw [hnone]
    decide

/-- Beside the registers only the task changed. -/
theorem deadlineMissed_rest (p : PeakId) (n : Nat) (s : State) : (deadlineMissed p n s).task p n = { s.task p n with late := true } ∧
    (deadlineMissed p n s).peaks = s.peaks ∧ (deadlineMissed p n s).mem = s.mem := by
  simp [deadlineMissed, State.raise]

theorem deadlineExpiry_completes {task : BitVec 8} (hlo : 0x10 ≤ task.toNat) (hhi : task.toNat ≤ 0x4F) (hloaded : task.toNat ∈ s.loaded p)
    (hrun : s.bit p (Fd.trvTaskStatRunning task.toNat) = true) (hlate : (s.task p task.toNat).late = false)
    (hdue : (s.task p task.toNat).startTick + s.reg p (Reg.trvTaskTiming task.toNat) ≤ s.tick)
    (hmisses : s.fld p (Fd.trvTaskMissMisses task.toNat) < 0x7FFF) :
    Completes (.deadlineExpiry p task false) s (fun t => (t.task p task.toNat).late = true ∧ t.bit p (Fd.trvTaskStatLate task.toNat) = true ∧
      t.fld p (Fd.trvTaskMissMisses task.toNat) = s.fld p (Fd.trvTaskMissMisses task.toNat) + 1 ∧ t.bit p Fd.trvFlagsDeadlineMiss = true ∧
      Fired p 130 s t ∧ RegFrame (eventsAnd (deadlineRegs task.toNat)) s t ∧ t.mem = s.mem) := by
  have hn : task.toNat < 0x70 := by omega
  have hframe := deadlineMissed_frame (s := s) (p := p) hn
  obtain ⟨hshows, hcount, hflag⟩ := deadlineMissed_shows hn hmisses
  have hevent := fire_frame p Ev.deadlineMiss (RegFrame.refl eventMask (deadlineMissed p task.toNat s))
  obtain ⟨htask, hpeaks, hmem⟩ := deadlineMissed_rest p task.toNat s
  refine ⟨_, by rw [exec_deadlineExpiry, execDeadlineExpiry, deadlineExpiry_missed hlo hhi hloaded hrun hlate hdue hmisses], ?_, ?_, ?_, ?_, ?_, ?_, ?_⟩
  · rw [(fire_task p _ p _ (by omega)).1.late, htask]
  · exact (fire_taskStat p _ _ hn (by decide)).trans hshows
  · refine (hevent.fld p (f := Fd.trvTaskMissMisses task.toNat) (trvTaskMiss_lt hn) ?_).trans hcount
    simp only [Fd.trvTaskMissMisses]
    rw [eventMask_taskMiss hn]
    decide
  · exact (hevent.bit p (f := Fd.trvFlagsDeadlineMiss) (by decide) (by decide)).trans hflag
  · have hup : ((deadlineMissed p task.toNat s).peak p).up = (s.peak p).up := congrArg (fun x : Two Peak => (x.get p).up) hpeaks
    exact fired_of_loaded hup (fun m hm => (deadlineMissed_loaded hn).symm ▸ hm) (by decide) (by decide)
  · exact (hframe.right eventMask).trans (hevent.left _)
  · exact ((fire_keeps p _ _).mem (by decide)).trans hmem

/-! ### The release of a frame (R168) -/

/-- The registers in which a release of task n shows. -/
def releaseRegs (n : Nat) : List (Nat × Nat) := [(Reg.trvTaskStat n, 0x12), (Reg.trvTaskLag n, 0xFFFFFFFF), (Reg.trvStatus, 0xFFFFFFFF)]

theorem trvTaskLag_ne (n : Nat) : Reg.trvTaskStat n ≠ Reg.trvTaskLag n ∧ Reg.trvTaskLag n ≠ Reg.trvStatus := by
  simp only [Reg.trvTaskStat, Reg.trvTaskLag, Reg.trvStatus]
  omega

theorem trvTaskLag_lt (h : n < 0x70) : Reg.trvTaskLag n < 2 ^ 32 := by
  simp only [Reg.trvTaskLag]
  omega

theorem releaseRegs_masks (n : Nat) : onlyRegs (releaseRegs n) (Reg.trvTaskStat n) = 0x12 ∧
    onlyRegs (releaseRegs n) (Reg.trvTaskLag n) = 0xFFFFFFFF ∧ onlyRegs (releaseRegs n) Reg.trvStatus = 0xFFFFFFFF := by
  obtain ⟨hlag, hstatus⟩ := trvTaskLag_ne n
  have hstat : Reg.trvTaskStat n ≠ Reg.trvStatus := (ne_trvTaskStat (by decide)).symm
  unfold releaseRegs
  refine ⟨onlyRegs_cons_self .., ?_, ?_⟩
  · rw [onlyRegs_cons_ne _ _ hlag, onlyRegs_cons_self]
  · rw [onlyRegs_cons_ne _ _ hstat, onlyRegs_cons_ne _ _ hstatus, onlyRegs_cons_self]

/-- Task n is pending with its lag, but for TRV.STATUS. -/
def framePending (p : PeakId) (n : Nat) (task : Task) (lag : Nat) (s : State) : State :=
  (((s.setTask p n task).setFld p (Fd.trvTaskStatPending n) 1).setReg p (Reg.trvTaskLag n) lag).setBit p (Fd.trvTaskStatCatchup n) (decide (lag ≠ 0))

theorem framePending_frame (hn : n < 0x70) (task : Task) (lag : Nat) : RegFrame (onlyRegs (releaseRegs n)) s (framePending p n task lag s) := by
  obtain ⟨hstat, hlag, -⟩ := releaseRegs_masks n
  have hpend : RegFrame (onlyRegs (releaseRegs n)) s ((s.setTask p n task).setFld p (Fd.trvTaskStatPending n) 1) :=
    RegFrame.setOne ((RegFrame.refl _ s).of_regs rfl) p 1 (trvTaskStat_lt hn) (by decide) (by rw [hstat]; decide)
  refine RegFrame.setOne (hpend.setReg p lag (trvTaskLag_lt hn) fun i hi => ?_) p _ (trvTaskStat_lt hn) (by decide) (by rw [hstat]; decide)
  rw [hlag, show 0xFFFFFFFF = 2 ^ 32 - 1 from rfl, Nat.testBit_two_pow_sub_one]
  exact decide_eq_true hi

theorem framePending_shows (hn : n < 0x70) (task : Task) {lag : Nat} (hlag : lag < 2 ^ 32) :
    (framePending p n task lag s).bit p (Fd.trvTaskStatPending n) = true ∧ (framePending p n task lag s).reg p (Reg.trvTaskLag n) = lag ∧
    (framePending p n task lag s).bit p (Fd.trvTaskStatCatchup n) = decide (lag ≠ 0) ∧ (framePending p n task lag s).task p n = task := by
  have hkey : regKey p (Reg.trvTaskStat n) ≠ regKey p (Reg.trvTaskLag n) := regKey_ne (trvTaskLag_ne n).1 (trvTaskStat_lt hn) (trvTaskLag_lt hn)
  unfold framePending
  refine ⟨?_, ?_, State.bit_setTaskStat_same _ p _ (by decide), by simp⟩
  · refine (State.bit_setTaskStat _ p _ hn hn (by decide) (Or.inr (by decide))).trans ?_
    refine (State.bit_setReg_ne _ (g := Fd.trvTaskStatPending n) lag hkey).trans ?_
    exact State.bit_raise _ p (f := Fd.trvTaskStatPending n) rfl (le_lit rfl)
  · unfold State.setBit
    rw [State.reg_setFld_ne _ (f := Fd.trvTaskStatCatchup n) _ hkey.symm, State.reg_setReg, Nat.mod_eq_of_lt hlag]

/-- Which frame of a frame task comes next. -/
def State.nextIndex (s : State) (p : PeakId) (n : Nat) : Nat := if (s.task p n).released then (s.task p n).k + 1 else 0

/-- T_k: when it is released. -/
def State.nextRelease (s : State) (p : PeakId) (n b0 : Nat) : Nat :=
  if (s.task p n).released then max ((s.task p n).ek.getD 0) (s.frameBound p n) else max b0 ((s.task p n).ek.getD 0)

/-- How long after B_k that is. -/
def State.nextLag (s : State) (p : PeakId) (n b0 : Nat) : Nat := s.nextRelease p n b0 - (b0 + s.nextIndex p n * s.frameLen p n)

/-- What Traverse keeps of a frame task as its next frame is released. -/
def releasedTask (p : PeakId) (n b0 : Nat) (s : State) : Task :=
  { s.task p n with released := true, k := s.nextIndex p n, tk := s.nextRelease p n b0, latchTick := s.nextRelease p n b0
                    latchEv := Ev.tbWrap s.periodTb, latchLate := false }

theorem frameRelease_due {b0 : Nat} (hlo : 0x60 ≤ n) (hhi : n ≤ 0x6F) (hloaded : n ∈ s.loaded p) (hrun : s.bit p (Fd.trvTaskStatRunning n) = false)
    (hpend : s.bit p (Fd.trvTaskStatPending n) = false) (htb : s.bit p (Fd.pwmTbStatusRun s.periodTb) = true) (hheld : (s.peak p).held = false)
    (hmir : s.gdm.mirrored.contains (p.other.num, n) = false) (hb0 : (s.task p n).b0 = some b0) (hdue : s.nextRelease p n b0 ≤ s.tick) :
    frameRelease p n s = trvRefresh p (framePending p n (releasedTask p n b0 s) (min (s.nextLag p n b0) 0xFFFFFFFF) s) := by
  unfold frameRelease
  dsimp only
  rw [if_pos (by simp only [isFrame_iff.mpr ⟨hlo, hhi⟩, (mem_loaded.mp hloaded).2, hpend, hrun, htb, hheld, hmir]; rfl)]
  split
  next hnone => exact absurd (hb0.symm.trans hnone) (by simp)
  next b hsome =>
    obtain rfl : b0 = b := Option.some.inj (hb0.symm.trans hsome)
    exact if_neg (Nat.not_lt.mpr hdue)

theorem frameRelease_completes {task : BitVec 8} {b0 : Nat} (hlo : 0x60 ≤ task.toNat) (hhi : task.toNat ≤ 0x6F) (hloaded : task.toNat ∈ s.loaded p)
    (hrun : s.bit p (Fd.trvTaskStatRunning task.toNat) = false) (hpend : s.bit p (Fd.trvTaskStatPending task.toNat) = false)
    (htb : s.bit p (Fd.pwmTbStatusRun s.periodTb) = true) (hheld : (s.peak p).held = false)
    (hmir : s.gdm.mirrored.contains (p.other.num, task.toNat) = false) (hb0 : (s.task p task.toNat).b0 = some b0)
    (hdue : s.nextRelease p task.toNat b0 ≤ s.tick) :
    Completes (.frameRelease p task) s (fun t => t.bit p (Fd.trvTaskStatPending task.toNat) = true ∧
      t.reg p (Reg.trvTaskLag task.toNat) = min (s.nextLag p task.toNat b0) 0xFFFFFFFF ∧
      t.bit p (Fd.trvTaskStatCatchup task.toNat) = decide (s.nextLag p task.toNat b0 ≠ 0) ∧ (t.task p task.toNat).k = s.nextIndex p task.toNat ∧
      (t.task p task.toNat).tk = s.nextRelease p task.toNat b0 ∧ (t.task p task.toNat).released = true ∧
      RegFrame (onlyRegs (releaseRegs task.toNat)) s t ∧ t.mem = s.mem ∧ t.cores = s.cores) := by
  have hn : task.toNat < 0x70 := by omega
  obtain ⟨hlag, hstatus⟩ := trvTaskLag_ne task.toNat
  have hdone := frameRelease_due hlo hhi hloaded hrun hpend htb hheld hmir hb0 hdue
  have hkeep := frameRelease_upd (p := p) (n := task.toNat) (Upd.refl 9 s) (by decide)
  have hframe := (framePending_frame (s := s) (p := p) hn (releasedTask p task.toNat b0 s) (min (s.nextLag p task.toNat b0) 0xFFFFFFFF)).trvRefresh p
    (releaseRegs_masks _).2.2
  obtain ⟨hshows, hreg, hcatch, htask⟩ := framePending_shows (s := s) (p := p) hn (releasedTask p task.toNat b0 s)
    (lag := min (s.nextLag p task.toNat b0) 0xFFFFFFFF) (by omega)
  have htask' := (trvRefresh_task (s := framePending p task.toNat (releasedTask p task.toNat b0 s) (min (s.nextLag p task.toNat b0) 0xFFFFFFFF) s) p p
    task.toNat).trans htask
  refine ⟨_, rfl, ?_⟩
  rw [hdone] at hkeep ⊢
  refine ⟨(trvRefresh_taskStat p _ hn).trans hshows, (trvRefresh_reg p p _ (trvTaskLag_lt hn) hstatus.symm).trans hreg, ?_, congrArg Task.k htask',
    congrArg Task.tk htask', congrArg Task.released htask', hframe, hkeep.mem (by decide), hkeep.cores (by decide)⟩
  refine ((trvRefresh_taskStat p _ hn).trans hcatch).trans (decide_eq_decide.mpr ?_)
  omega

/-! ### The monitor (R161, R162) -/

theorem summitEndDeadline_missed {k : CoreSel} (hsum : s.inSummit k = true) (hmiss : (s.task k.peak (s.curTask k)).endMissed = false)
    (hend : (s.task k.peak (s.curTask k)).cert.cEnd < s.runCycle k) :
    summitEndDeadline k s = monitorViolation k.peak (s.curTask k) 2 (s.task k.peak (s.curTask k)).cert.cEnd
      (s.setTask k.peak (s.curTask k) { s.task k.peak (s.curTask k) with endMissed := true }) := by
  unfold summitEndDeadline
  dsimp only
  rw [if_neg (Nat.not_le.mpr hend), if_pos (by simp [hsum, hmiss])]

theorem summitEndDeadline_completes {k : CoreSel} (hsum : s.inSummit k = true) (htask : s.curTask k ∈ taskNumbers)
    (hmiss : (s.task k.peak (s.curTask k)).endMissed = false) (hend : (s.task k.peak (s.curTask k)).cert.cEnd < s.runCycle k) :
    Completes (.summitEndDeadline k) s (fun t => t.bit k.peak (Fd.trvTaskStatMonFault (s.curTask k)) = true ∧ t.bit k.peak Fd.trvFlagsMonitor = true ∧
      (t.task k.peak (s.curTask k)).endMissed = true ∧ RegFrame eventMask s t ∧ Fired k.peak 132 s t ∧ t.mem = s.mem) := by
  have hn := taskNumbers_lt htask
  refine ⟨_, by rw [exec_summitEndDeadline, execSummitEndDeadline, summitEndDeadline_missed hsum hmiss hend], ?_⟩
  obtain ⟨hfault, hmon, hfired⟩ := monitorViolation_shows hn k.peak 2 (s.task k.peak (s.curTask k)).cert.cEnd
    (s.setTask k.peak (s.curTask k) { s.task k.peak (s.curTask k) with endMissed := true })
  refine ⟨hfault, hmon, ?_, monitorViolation_frame k.peak _ _ hn ((RegFrame.refl eventMask s).of_regs rfl), hfired,
    ((monitorViolation_keeps ..).mem (by decide)).trans (State.setTask_mem ..)⟩
  rw [(monitorViolation_task (by omega) ..).endMissed, State.task_setTask_same]

theorem codeRecheck_completes {c : Fin 4} (hloaded : c.val ∈ s.loaded p)
    (hcrc : crc32 (s.codeBytes (s.taskCore p c.val) (s.task p c.val).cert) ≠ (s.task p c.val).cert.codeCrc) :
    Completes (.codeRecheck p c) s (fun t => t.bit p (Fd.trvTaskStatMonFault c.val) = true ∧ t.bit p Fd.trvFlagsMonitor = true ∧
      RegFrame eventMask s t ∧ Fired p 132 s t ∧ t.mem = s.mem) := by
  have hn := loaded_lt hloaded
  have hdone : exec (.codeRecheck p c) s = .next (monitorViolation p c.val 4 0 s) := by
    rw [exec_codeRecheck, execCodeRecheck]
    dsimp only
    rw [if_pos (by simp [(mem_loaded.mp hloaded).2, hcrc])]
  obtain ⟨hfault, hmon, hfired⟩ := monitorViolation_shows hn p 4 0 s
  exact ⟨_, hdone, hfault, hmon, monitorViolation_frame p _ _ hn (RegFrame.refl eventMask s), hfired, (monitorViolation_keeps ..).mem (by decide)⟩

/-- Settles O24: a missed deadline, a frame's release, a missed END and changed summit code, one lemma apiece. -/
theorem deadlinesFramesAndMonitor : Obligations.DeadlinesFramesAndMonitor := by
  unfold Obligations.DeadlinesFramesAndMonitor
  intro p task k c s
  exact ⟨fun hlo hhi hloaded hrun hlate hdue hmisses => deadlineExpiry_completes hlo hhi hloaded hrun hlate hdue hmisses,
    fun b0 hlo hhi hloaded hrun hpend htb hheld hmir hb0 hdue => frameRelease_completes hlo hhi hloaded hrun hpend htb hheld hmir hb0 hdue,
    fun hsum htask hmiss hend => summitEndDeadline_completes hsum htask hmiss hend,
    fun hloaded hcrc => codeRecheck_completes hloaded hcrc⟩

end Sys2Proof.Machine
end

section
/-! SUPPORT. The commands of TRV.CMD (R149, R158, R159, R170, R171): what TRV.CMD_STATUS shows, the equation of each write of TRV.CMD, and what the end
of a command leaves. -/

namespace Sys2Proof.Machine

variable {M : Nat → Nat} {s t u : State} {p : PeakId} {n : Nat}

/-! ### TRV.CMD_STATUS (R159) -/

/-- What a command writes of TRV.CMD_STATUS. -/
def cmdRegs : Nat × Nat := (Reg.trvCmdStatus, 0xFF1F)

/-- TRV.CMD_STATUS shows whether a command runs, its task and its result. -/
def CmdShows (p : PeakId) (n : Nat) (busy : Bool) (code : Nat) (t : State) : Prop :=
  t.bit p Fd.trvCmdStatusBusy = busy ∧ t.fld p Fd.trvCmdStatusTask = n ∧ t.fld p Fd.trvCmdStatusResult = code

/-- TASK and RESULT are written. -/
def cmdResult (p : PeakId) (n code : Nat) (s : State) : State := (s.setFld p Fd.trvCmdStatusTask n).setFld p Fd.trvCmdStatusResult code

theorem cmdResult_shows (hn : n < 256) {code : Nat} (hc : code < 16) : CmdShows p n (s.bit p Fd.trvCmdStatusBusy) code (cmdResult p n code s) := by
  unfold cmdResult
  refine ⟨?_, ?_, ?_⟩
  · rw [State.bit_setFld_apart _ p (f := Fd.trvCmdStatusResult) (g := Fd.trvCmdStatusBusy) code (by decide) (by decide) rfl (by decide),
      State.bit_setFld_apart _ p (f := Fd.trvCmdStatusTask) (g := Fd.trvCmdStatusBusy) n (by decide) (by decide) rfl (by decide)]
  · rw [State.fld_setFld_apart _ p (f := Fd.trvCmdStatusResult) (g := Fd.trvCmdStatusTask) code (by decide) (by decide) rfl (by decide),
      State.fld_setFld _ p (f := Fd.trvCmdStatusTask) n (by decide) (by decide)]
    exact Nat.mod_eq_of_lt hn
  · rw [State.fld_setFld _ p (f := Fd.trvCmdStatusResult) code (by decide) (by decide)]
    exact Nat.mod_eq_of_lt hc

theorem cmdResult_frame (h : RegFrame M s t) (hM : M Reg.trvCmdStatus = 0xFF1F) (p : PeakId) (n code : Nat) : RegFrame M s (cmdResult p n code t) :=
  (h.setFld p (f := Fd.trvCmdStatusTask) n (by decide) (by decide) (by decide) (inMask hM (by decide))).setFld p (f := Fd.trvCmdStatusResult) code (by decide)
    (by decide) (by decide) (inMask hM (by decide))

/-- BUSY, TASK and RESULT are written. -/
def cmdStatus (p : PeakId) (busy : Bool) (n code : Nat) (s : State) : State := cmdResult p n code (s.setBit p Fd.trvCmdStatusBusy busy)

theorem cmdStatus_shows (hn : n < 256) {code : Nat} (hc : code < 16) (busy : Bool) : CmdShows p n busy code (cmdStatus p busy n code s) := by
  have h := cmdResult_shows (s := s.setBit p Fd.trvCmdStatusBusy busy) (p := p) hn hc
  rwa [State.bit_setBit _ _ (f := Fd.trvCmdStatusBusy) rfl (by decide)] at h

theorem cmdStatus_frame (h : RegFrame M s t) (hM : M Reg.trvCmdStatus = 0xFF1F) (p : PeakId) (busy : Bool) (n code : Nat) :
    RegFrame M s (cmdStatus p busy n code t) :=
  cmdResult_frame (h.setOne p _ (by decide) (by decide) (by rw [hM]; decide)) hM p n code

theorem CmdShows.of_reg {busy : Bool} {code : Nat} (h : CmdShows p n busy code s) (hr : t.reg p Reg.trvCmdStatus = s.reg p Reg.trvCmdStatus) :
    CmdShows p n busy code t := by
  have hfld : ∀ f : Fld, f.addr = Reg.trvCmdStatus → t.fld p f = s.fld p f := fun f hf => by
    unfold State.fld
    rw [hf, hr]
  unfold CmdShows State.bit at *
  rw [hfld _ rfl, hfld _ rfl, hfld _ rfl]
  exact h

theorem cmdStatus_rest (p : PeakId) (busy : Bool) (n code : Nat) (s : State) : (cmdStatus p busy n code s).tasks = s.tasks ∧
    (cmdStatus p busy n code s).mem = s.mem ∧ (cmdStatus p busy n code s).cores = s.cores ∧
    ∀ q, (cmdStatus p busy n code s).peak q = s.peak q := by
  simp [cmdStatus, cmdResult]

/-- The command that runs in Peak p, none where none does. -/
def withCmd (p : PeakId) (c : Option TrvCmd) (s : State) : State := s.setPeak p { s.peak p with trvCmd := c }

theorem withCmd_regs (p : PeakId) (c : Option TrvCmd) (s : State) : (withCmd p c s).regs = s.regs := State.setPeak_regs ..

theorem withCmd_peak (p : PeakId) (c : Option TrvCmd) (s : State) : (withCmd p c s).peak p = { s.peak p with trvCmd := c } := State.peak_setPeak_same ..

/-! ### A refused write (R149, R159) -/

theorem trvCommand_busy {op : Nat} (hop : op ≠ 0) (hb : s.bit p Fd.trvCmdStatusBusy = true) :
    trvCommand p op n s = (cmdResult p n 1 s).raise p Fd.trvFlagsCmdDiscarded := by
  unfold trvCommand
  rw [if_neg hop, if_pos hb]
  rfl

theorem trvCommand_unknown {op : Nat} (hop : op ≠ 0) (hb : s.bit p Fd.trvCmdStatusBusy = false) (hn : n ∉ taskNumbers) :
    trvCommand p op n s = cmdResult p n 2 s := by
  unfold trvCommand
  rw [if_neg hop, if_neg (by simp [hb]), if_pos (by simpa using hn)]
  rfl

/-- A write that begins no command shows why, and changes nothing else. -/
def CmdRefused (p : PeakId) (n : Nat) (busy : Bool) (code : Nat) (s t : State) : Prop :=
  CmdShows p n busy code t ∧ (busy = true → t.bit p Fd.trvFlagsCmdDiscarded = true) ∧
    RegFrame (onlyRegs [cmdRegs, (Reg.trvFlags, 0x100)]) s t ∧ { t with regs := s.regs } = s

theorem trvCommand_discarded {op : Nat} (hop : op ≠ 0) (hb : s.bit p Fd.trvCmdStatusBusy = true) (hn : n < 256) :
    CmdRefused p n true 1 s (trvCommand p op n s) := by
  have hshows := cmdResult_shows (s := s) (p := p) hn (code := 1) (by decide)
  rw [hb] at hshows
  rw [trvCommand_busy hop hb]
  unfold State.raise
  refine ⟨hshows.of_reg (State.reg_setFld_ne _ 1 (regKey_ne (by decide) (by decide) (by decide))),
    fun _ => State.bit_raise _ p (f := Fd.trvFlagsCmdDiscarded) rfl (by decide), ?_, by simp [cmdResult]⟩
  exact (cmdResult_frame (RegFrame.refl _ s) (by decide) p n 1).setOne p 1 (by decide) (by decide) (by decide)

theorem trvCommand_noTask {op : Nat} (hop : op ≠ 0) (hb : s.bit p Fd.trvCmdStatusBusy = false) (hn : n < 256) (hno : n ∉ taskNumbers) :
    CmdRefused p n false 2 s (trvCommand p op n s) := by
  have hshows := cmdResult_shows (s := s) (p := p) hn (code := 2) (by decide)
  rw [hb] at hshows
  rw [trvCommand_unknown hop hb hno]
  exact ⟨hshows, fun h => absurd h Bool.false_ne_true, cmdResult_frame (RegFrame.refl _ s) (by decide) p n 2, by simp [cmdResult]⟩

/-! ### A command begins (R159) -/

theorem trvBegin_eq (p : PeakId) (c : TrvCmd) (s : State) : trvBegin p c s = cmdStatus p true c.task 0 (withCmd p (some c) s) := rfl

theorem trvBegin_shows {c : TrvCmd} (hn : c.task < 256) : CmdShows p c.task true 0 (trvBegin p c s) := cmdStatus_shows hn (by decide) true

theorem trvBegin_frame (h : RegFrame M s t) (hM : M Reg.trvCmdStatus = 0xFF1F) (p : PeakId) (c : TrvCmd) : RegFrame M s (trvBegin p c t) :=
  cmdStatus_frame (h.of_regs (withCmd_regs ..)) hM p true c.task 0

/-- Beside TRV.CMD_STATUS only what runs changed. -/
theorem trvBegin_rest (p : PeakId) (c : TrvCmd) (s : State) :
    (trvBegin p c s).tasks = s.tasks ∧ (trvBegin p c s).mem = s.mem ∧ (trvBegin p c s).cores = s.cores ∧ ((trvBegin p c s).peak p).trvCmd = some c := by
  obtain ⟨htasks, hmem, hcores, hpeak⟩ := cmdStatus_rest p true c.task 0 (withCmd p (some c) s)
  rw [trvBegin_eq]
  exact ⟨htasks, hmem, hcores, by rw [hpeak, withCmd_peak]⟩

theorem trvBegin_task (p q : PeakId) (m : Nat) (c : TrvCmd) (s : State) : (trvBegin p c s).task q m = s.task q m := by
  unfold State.task
  rw [(trvBegin_rest p c s).1]

/-- What NEXT_ENTRY, NEXT_CERT and REPLACE_AT ask for: of a summit task the certificate is checked first (R171). -/
def State.askedRepl (s : State) (p : PeakId) (n : Nat) : Repl :=
  let entry := BitVec.ofNat 32 (s.reg p Reg.trvNextEntry)
  let cert := BitVec.ofNat 32 (s.reg p Reg.trvNextCert)
  if n ≤ 3 then .checking entry cert (s.reg p Reg.trvReplaceAt) else .armed entry {} cert (s.reg p Reg.trvReplaceAt)

/-- The replacement of task n is pending. -/
def replacing (p : PeakId) (n : Nat) (s : State) : State :=
  (s.setTask p n { s.task p n with repl := s.askedRepl p n }).setFld p (Fd.trvTaskStatReplacePending n) 1

/-! ### The writes that begin a command -/

section
variable (hb : s.bit p Fd.trvCmdStatusBusy = false) (hn : n ∈ taskNumbers)
include hb hn

theorem trvCommand_load : trvCommand p 1 n s =
    trvBegin p (if n ∈ s.loaded p then ⟨1, n, 2, {}⟩ else ⟨1, n, (loadChecks p n s).1, (loadChecks p n s).2⟩) s := by
  unfold trvCommand
  rw [if_neg (by decide), if_neg (by simp [hb]), if_neg (by simpa using hn), if_pos rfl]
  simp only [mem_loaded, hn, true_and]
  split <;> rfl

theorem trvCommand_unloadRunning (hl : n ∈ s.loaded p) (hrun : s.bit p (Fd.trvTaskStatRunning n) = true) : trvCommand p 2 n s =
    trvBegin p { op := 2, task := n } (s.setTask p n { s.task p n with unloadAtEnd := true }) := by
  unfold trvCommand
  rw [if_neg (by decide), if_neg (by simp [hb]), if_neg (by simpa using hn), if_neg (by decide), if_neg (by simp [(mem_loaded.mp hl).2]), if_pos rfl,
    if_pos hrun]

theorem trvCommand_unloadIdle (hl : n ∈ s.loaded p) (hrun : s.bit p (Fd.trvTaskStatRunning n) = false) :
    trvCommand p 2 n s = trvDone p n 0 (unloadTask p n s) := by
  unfold trvCommand
  rw [if_neg (by decide), if_neg (by simp [hb]), if_neg (by simpa using hn), if_neg (by decide), if_neg (by simp [(mem_loaded.mp hl).2]), if_pos rfl,
    if_neg (by simp [hrun])]

theorem trvCommand_replace (hl : n ∈ s.loaded p) : trvCommand p 3 n s = trvRefresh p (trvBegin p { op := 3, task := n } (replacing p n s)) := by
  unfold trvCommand
  rw [if_neg (by decide), if_neg (by simp [hb]), if_neg (by simpa using hn), if_neg (by decide), if_neg (by simp [(mem_loaded.mp hl).2]),
    if_neg (by decide)]
  simp only [isSummit, decide_eq_true_eq]
  rfl

end

/-! ### A command ends (R159) -/

theorem trvDone_eq (p : PeakId) (n code : Nat) (s : State) :
    trvDone p n code s = fire p Ev.cmdDone (cmdStatus p false n code (withCmd p none s)) := rfl

theorem trvDone_frame {own : List (Nat × Nat)} (h : RegFrame (eventsAnd own) s t) (hM : eventsAnd own Reg.trvCmdStatus = 0xFF1F) (p : PeakId)
    (n code : Nat) : RegFrame (eventsAnd own) s (trvDone p n code t) :=
  (cmdStatus_frame (h.of_regs (withCmd_regs ..)) hM p false n code).trans ((fire_frame p Ev.cmdDone (RegFrame.refl eventMask _)).left _)

/-- What the end of a command makes of the state: nothing runs, TRV.CMD_STATUS shows it, and its event reached the tasks. -/
structure CmdEnded (p : PeakId) (n code : Nat) (s t : State) : Prop where
  idle : (t.peak p).trvCmd = none
  shows : CmdShows p n false code t
  fired : Fired p 134 s t
  frame : RegFrame (eventsAnd [cmdRegs]) s t
  task : ∀ m < 0x100, TaskKept (s.task p m) (t.task p m)
  unloaded : ∀ m < 0x100, m ∉ s.loaded p → t.task p m = s.task p m
  mem : t.mem = s.mem

theorem eventsAnd_cmdRegs_taskStat {m : Nat} (hm : m < 0x70) : eventsAnd [cmdRegs] (Reg.trvTaskStat m) = 0x82 := by
  unfold eventsAnd cmdRegs
  rw [eventMask_taskStat hm, onlyRegs_cons_ne _ _ (ne_trvTaskStat (by decide)), onlyRegs_nil]
  decide

theorem CmdEnded.taskStat {code m b : Nat} (h : CmdEnded p n code s t) (hm : m < 0x70) (hb : bits 0x82 b b = 0) :
    t.bit p ⟨Reg.trvTaskStat m, b, b⟩ = s.bit p ⟨Reg.trvTaskStat m, b, b⟩ :=
  h.frame.bit p (f := ⟨Reg.trvTaskStat m, b, b⟩) (trvTaskStat_lt hm) (by simpa only [eventsAnd_cmdRegs_taskStat hm] using hb)

theorem CmdEnded.loaded {code : Nat} (h : CmdEnded p n code s t) : t.loaded p = s.loaded p :=
  h.frame.loaded (fun m hm => by
    rw [eventsAnd_cmdRegs_taskStat hm]
    decide) p

theorem trvDone_ended (hn : n < 256) {code : Nat} (hc : code < 16) (p : PeakId) (s : State) : CmdEnded p n code s (trvDone p n code s) := by
  obtain ⟨htasks, hmem, -, hpeak⟩ := cmdStatus_rest p false n code (withCmd p none s)
  have hstatus : RegFrame (onlyRegs [cmdRegs]) s (cmdStatus p false n code (withCmd p none s)) :=
    cmdStatus_frame ((RegFrame.refl _ s).of_regs (withCmd_regs ..)) (by decide) p false n code
  have hloaded : (cmdStatus p false n code (withCmd p none s)).loaded p = s.loaded p := hstatus.loaded (fun m _ => by
    unfold cmdRegs
    rw [onlyRegs_cons_ne _ _ (ne_trvTaskStat (by decide)), onlyRegs_nil]
    decide) p
  have htask : ∀ m, (cmdStatus p false n code (withCmd p none s)).task p m = s.task p m := fun m => by
    unfold State.task
    rw [htasks]
    rfl
  have hkeeps := fire_keeps p Ev.cmdDone (cmdStatus p false n code (withCmd p none s))
  have hevent := fire_frame p Ev.cmdDone (RegFrame.refl eventMask (cmdStatus p false n code (withCmd p none s)))
  have hfire := fun m hm => fire_task (s := cmdStatus p false n code (withCmd p none s)) p Ev.cmdDone p m hm
  have hshows := cmdStatus_shows (s := withCmd p none s) (p := p) hn hc false
  have hframe := trvDone_frame (RegFrame.refl (eventsAnd [cmdRegs]) s) (by decide) p n code
  rw [trvDone_eq] at hframe ⊢
  generalize cmdStatus p false n code (withCmd p none s) = u at *
  refine ⟨?_, hshows.of_reg (hevent.reg p (by decide) (by decide)), fired_of_loaded ?_ (fun m hm => hloaded.symm ▸ hm) (by decide) (by decide), hframe,
    fun m hm => ?_, fun m hm hnot => ?_, (hkeeps.mem (by decide)).trans hmem⟩
  · rw [(hkeeps.peak p).trvCmd (by decide), hpeak, withCmd_peak]
  · rw [hpeak, withCmd_peak]
  · rw [← htask m]
    exact (hfire m hm).1
  · rw [← htask m]
    exact (hfire m hm).2 fun h => hnot (hloaded ▸ h.2)

end Sys2Proof.Machine
end

section
/-! CERTIFICATE. The statement on the commands of TRV.CMD (R149, R158, R159, R170, R171): unloading, replacing, the end of a load and of a replacement's
check. -/

namespace Sys2Proof.Machine

variable {s t u : State} {p : PeakId} {n : Nat}

/-! ### A task is unloaded (R170) -/

/-- The registers in which an unload of task n shows beside its event. -/
def unloadRegs (n : Nat) : List (Nat × Nat) := [cmdRegs, (Reg.trvTaskStat n, 0x43)]

theorem unloadRegs_masks (hn : n < 0x70) : eventsAnd (unloadRegs n) Reg.trvCmdStatus = 0xFF1F ∧
    eventsAnd (unloadRegs n) (Reg.trvTaskStat n) = 0xC3 ∧ eventsAnd (unloadRegs n) Reg.trvStatus = 0xFFFFFFFF := by
  have hstat : Reg.trvTaskStat n ≠ Reg.trvStatus := (ne_trvTaskStat (by decide)).symm
  unfold eventsAnd unloadRegs cmdRegs
  refine ⟨?_, ?_, ?_⟩
  · rw [onlyRegs_cons_self]
    decide
  · rw [eventMask_taskStat hn, onlyRegs_cons_ne _ _ (ne_trvTaskStat (by decide)), onlyRegs_cons_self]
    decide
  · rw [onlyRegs_cons_ne _ _ (by decide), onlyRegs_cons_ne _ _ hstat, onlyRegs_nil]
    decide

/-- The task's status no longer shows it loaded, pending or to be replaced. -/
def unloadedStat (p : PeakId) (n : Nat) (s : State) : State :=
  ((s.setFld p (Fd.trvTaskStatLoaded n) 0).setFld p (Fd.trvTaskStatPending n) 0).setFld p (Fd.trvTaskStatReplacePending n) 0

theorem unloadTask_eq (p : PeakId) (n : Nat) (s : State) : unloadTask p n s = trvRefresh p ((unloadedStat p n s).setTask p n {}) := rfl

theorem unloadTask_frame (hn : n < 0x70) (p : PeakId) (s : State) : RegFrame (eventsAnd (unloadRegs n)) s (unloadTask p n s) := by
  obtain ⟨-, hstat, hstatus⟩ := unloadRegs_masks hn
  have set : ∀ {v : State} {b : Nat}, b < 32 → Nat.testBit 0xC3 b = true → RegFrame (eventsAnd (unloadRegs n)) s v →
      RegFrame (eventsAnd (unloadRegs n)) s (v.setFld p ⟨Reg.trvTaskStat n, b, b⟩ 0) := fun hb hm hv =>
    hv.setOne p 0 (trvTaskStat_lt hn) hb (by rw [hstat]; exact hm)
  have hshown : RegFrame (eventsAnd (unloadRegs n)) s (unloadedStat p n s) :=
    set (by decide) (by decide) (set (by decide) (by decide) (set (by decide) (by decide) (RegFrame.refl _ s)))
  exact (hshown.of_regs (State.setTask_regs ..)).trvRefresh p hstatus

theorem unloadedStat_loaded (hn : n < 0x70) {m : Nat} (hm : m < 0x70) :
    (unloadedStat p n s).bit p (Fd.trvTaskStatLoaded m) = (s.bit p (Fd.trvTaskStatLoaded m) && decide (m ≠ n)) := by
  unfold unloadedStat
  refine (State.bit_setTaskStat _ p 0 hn hm (by decide) (Or.inr (by decide))).trans ?_
  refine (State.bit_setTaskStat _ p 0 hn hm (by decide) (Or.inr (by decide))).trans ?_
  by_cases he : m = n
  · subst he
    exact (State.bit_setTaskStat_same s p (b := 0) false (by decide)).trans (by simp)
  · exact (State.bit_setTaskStat s p 0 hn hm (by decide) (Or.inl he)).trans (by rw [decide_eq_true he, Bool.and_true]; rfl)

theorem unloadTask_loaded (hn : n < 0x70) (p : PeakId) (s : State) : (unloadTask p n s).loaded p = (s.loaded p).filter (fun m => decide (m ≠ n)) := by
  rw [unloadTask_eq, trvRefresh_loaded, State.loaded_of_regs (State.setTask_regs ..)]
  unfold State.loaded
  rw [List.filter_filter]
  refine List.filter_congr fun m hm => ?_
  rw [unloadedStat_loaded hn (taskNumbers_lt hm), Bool.and_comm]

theorem unloadTask_task (p : PeakId) (n : Nat) (s : State) : (unloadTask p n s).task p n = {} := by
  rw [unloadTask_eq, trvRefresh_task, State.task_setTask_same]

/-! ### The writes of TRV.CMD -/

section
variable {m : Master} {task : BitVec 8} (hup : (s.peak m.peak).up = true)
include hup

theorem exec_taskLoad_up : exec (.taskLoad m task) s = .next (trvCommand m.peak 1 task.toNat s) := by
  rw [exec_taskLoad, execTaskLoad, if_pos hup]

theorem exec_taskUnload_up : exec (.taskUnload m task) s = .next (trvCommand m.peak 2 task.toNat s) := by
  rw [exec_taskUnload, execTaskUnload, if_pos hup]

theorem exec_taskReplace_up : exec (.taskReplace m task) s = .next (trvCommand m.peak 3 task.toNat s) := by
  rw [exec_taskReplace, execTaskReplace, if_pos hup]

variable (hb : s.bit m.peak Fd.trvCmdStatusBusy = false) (hn : task.toNat ∈ taskNumbers)
include hb hn

theorem taskLoad_begins : Completes (.taskLoad m task) s (fun t => CmdShows m.peak task.toNat true 0 t ∧ RegFrame (onlyRegs [cmdRegs]) s t ∧
    t.tasks = s.tasks ∧ t.mem = s.mem ∧ t.cores = s.cores ∧ (t.peak m.peak).trvCmd = some (if task.toNat ∈ s.loaded m.peak then ⟨1, task.toNat, 2, {}⟩
      else ⟨1, task.toNat, (loadChecks m.peak task.toNat s).1, (loadChecks m.peak task.toNat s).2⟩)) := by
  have hbegin : ∀ c : TrvCmd, c.task = task.toNat → CmdShows m.peak task.toNat true 0 (trvBegin m.peak c s) := fun c hc => by
    rw [← hc]
    exact trvBegin_shows (hc ▸ task.isLt)
  refine ⟨_, (exec_taskLoad_up hup).trans (by rw [trvCommand_load hb hn]), hbegin _ (by split <;> rfl), trvBegin_frame (RegFrame.refl _ s) (by decide) _ _,
    trvBegin_rest ..⟩

theorem taskUnload_waits (hl : task.toNat ∈ s.loaded m.peak) (hrun : s.bit m.peak (Fd.trvTaskStatRunning task.toNat) = true) :
    Completes (.taskUnload m task) s (fun t => CmdShows m.peak task.toNat true 0 t ∧ RegFrame (onlyRegs [cmdRegs]) s t ∧
      t.task m.peak task.toNat = { s.task m.peak task.toNat with unloadAtEnd := true }) := by
  refine ⟨_, (exec_taskUnload_up hup).trans (by rw [trvCommand_unloadRunning hb hn hl hrun]), trvBegin_shows (c := { op := 2, task := task.toNat }) task.isLt,
    trvBegin_frame ((RegFrame.refl _ s).of_regs (State.setTask_regs ..)) (by decide) _ _, ?_⟩
  rw [trvBegin_task, State.task_setTask_same]

theorem taskUnload_ends (hl : task.toNat ∈ s.loaded m.peak) (hrun : s.bit m.peak (Fd.trvTaskStatRunning task.toNat) = false) :
    Completes (.taskUnload m task) s (fun t => CmdShows m.peak task.toNat false 0 t ∧
      t.loaded m.peak = (s.loaded m.peak).filter (fun j => decide (j ≠ task.toNat)) ∧ t.task m.peak task.toNat = {} ∧
      RegFrame (eventsAnd (unloadRegs task.toNat)) s t ∧ t.mem = s.mem) := by
  have h70 := taskNumbers_lt hn
  have hloaded := unloadTask_loaded h70 m.peak s
  have hgone : task.toNat ∉ (unloadTask m.peak task.toNat s).loaded m.peak := by simp [hloaded]
  have hend := trvDone_ended task.isLt (code := 0) (by decide) m.peak (unloadTask m.peak task.toNat s)
  have hkeeps := unloadTask_upd (p := m.peak) (n := task.toNat) (Upd.refl 9 s) (by decide)
  exact ⟨_, (exec_taskUnload_up hup).trans (by rw [trvCommand_unloadIdle hb hn hl hrun]), hend.shows, hend.loaded.trans hloaded,
    (hend.unloaded _ task.isLt hgone).trans (unloadTask_task ..), trvDone_frame (unloadTask_frame h70 m.peak s) (unloadRegs_masks h70).1 m.peak _ 0,
    hend.mem.trans (hkeeps.mem (by decide))⟩

theorem taskReplace_pends (hl : task.toNat ∈ s.loaded m.peak) :
    Completes (.taskReplace m task) s (fun t => CmdShows m.peak task.toNat true 0 t ∧
      t.bit m.peak (Fd.trvTaskStatReplacePending task.toNat) = true ∧
      RegFrame (onlyRegs [cmdRegs, (Reg.trvTaskStat task.toNat, 0x40), (Reg.trvStatus, 0xFFFFFFFF)]) s t ∧
      t.task m.peak task.toNat = { s.task m.peak task.toNat with repl := s.askedRepl m.peak task.toNat }) := by
  have h70 := taskNumbers_lt hn
  have hstat : Reg.trvTaskStat task.toNat ≠ Reg.trvStatus := (ne_trvTaskStat (by decide)).symm
  have hmask : onlyRegs [cmdRegs, (Reg.trvTaskStat task.toNat, 0x40), (Reg.trvStatus, 0xFFFFFFFF)] (Reg.trvTaskStat task.toNat) = 0x40 := by
    unfold cmdRegs
    rw [onlyRegs_cons_ne _ _ (ne_trvTaskStat (by decide)), onlyRegs_cons_self]
  have hmaskStatus : onlyRegs [cmdRegs, (Reg.trvTaskStat task.toNat, 0x40), (Reg.trvStatus, 0xFFFFFFFF)] Reg.trvStatus = 0xFFFFFFFF := by
    unfold cmdRegs
    rw [onlyRegs_cons_ne _ _ (by decide), onlyRegs_cons_ne _ _ hstat, onlyRegs_cons_self]
  have hpend : RegFrame (onlyRegs [cmdRegs, (Reg.trvTaskStat task.toNat, 0x40), (Reg.trvStatus, 0xFFFFFFFF)]) s (replacing m.peak task.toNat s) :=
    RegFrame.setOne ((RegFrame.refl _ s).of_regs (State.setTask_regs ..)) m.peak 1 (trvTaskStat_lt h70) (by decide) (by rw [hmask]; decide)
  have hbegin : RegFrame (onlyRegs [cmdRegs]) (replacing m.peak task.toNat s)
      (trvBegin m.peak { op := 3, task := task.toNat } (replacing m.peak task.toNat s)) := trvBegin_frame (RegFrame.refl _ _) (by decide) _ _
  refine ⟨_, (exec_taskReplace_up hup).trans (by rw [trvCommand_replace hb hn hl]), ?_, ?_, ?_, ?_⟩
  · exact (trvBegin_shows (c := { op := 3, task := task.toNat }) task.isLt).of_reg (trvRefresh_reg _ _ _ (by decide) (by decide))
  · refine (trvRefresh_taskStat _ _ h70).trans ((hbegin.bit m.peak (f := Fd.trvTaskStatReplacePending task.toNat) (trvTaskStat_lt h70) ?_).trans ?_)
    · simp only [Fd.trvTaskStatReplacePending, cmdRegs]
      rw [onlyRegs_cons_ne _ _ (ne_trvTaskStat (by decide)), onlyRegs_nil]
      decide
    · exact State.bit_raise _ m.peak (f := Fd.trvTaskStatReplacePending task.toNat) rfl (le_lit rfl)
  · exact (trvBegin_frame hpend rfl m.peak _).trvRefresh m.peak hmaskStatus
  · rw [trvRefresh_task, trvBegin_task, replacing, State.task_setFld, State.task_setTask_same]

end

/-! ### The command that runs ends (R159, R171) -/

/-- The command of task n ended with a code, its event reached the tasks of before, and no memory changed. -/
def CmdEndedFrom (p : PeakId) (n code : Nat) (s t : State) : Prop :=
  (t.peak p).trvCmd = none ∧ t.bit p Fd.trvCmdStatusBusy = false ∧ t.fld p Fd.trvCmdStatusTask = n ∧ t.fld p Fd.trvCmdStatusResult = code ∧
    Fired p 134 s t ∧ t.mem = s.mem

theorem CmdEnded.since {code : Nat} (h : CmdEnded p n code u t) (hup : (u.peak p).up = (s.peak p).up) (hl : ∀ m ∈ s.loaded p, m ∈ u.loaded p)
    (hmem : u.mem = s.mem) : CmdEndedFrom p n code s t := by
  obtain ⟨hbusy, htask, hresult⟩ := h.shows
  exact ⟨h.idle, hbusy, htask, hresult, fun hs m hm => h.fired (hup.trans hs) m (hl m hm), h.mem.trans hmem⟩

/-- Task n is loaded and idle with its certificate in force. -/
def loadedTask (p : PeakId) (n : Nat) (cert : Cert) (s : State) : State :=
  trvRefresh p (((s.setReg p (Reg.trvTaskStat n) 1).setReg p (Reg.trvTaskLag n) 0).setTask p n { cert := cert })

/-- The code with which a load ends: a summit task's Peak stands at N = 160 (R48). -/
def TrvCmd.endCode (c : TrvCmd) (p : PeakId) (s : State) : Nat := if c.code = 0 ∧ isSummit c.task = true ∧ fullSpeed p s = false then 9 else c.code

theorem loadComplete_eq {c : TrvCmd} (hc : (s.peak p).trvCmd = some c) (hop : c.op = 1) :
    loadComplete p s = trvDone p c.task (c.endCode p s) (if c.endCode p s = 0 then loadedTask p c.task c.cert s else s) := by
  unfold loadComplete TrvCmd.endCode
  rw [hc]
  dsimp only
  rw [if_pos hop]
  split <;> rfl

theorem loadedTask_shows (hn : n < 0x70) (p : PeakId) (cert : Cert) (s : State) :
    (∀ b, (loadedTask p n cert s).bit p ⟨Reg.trvTaskStat n, b, b⟩ = decide (bits 1 b b = 1)) ∧ (loadedTask p n cert s).reg p (Reg.trvTaskLag n) = 0 ∧
    (loadedTask p n cert s).task p n = { cert := cert } ∧ (loadedTask p n cert s).peaks = s.peaks ∧ (loadedTask p n cert s).mem = s.mem := by
  obtain ⟨hlag, hstatus⟩ := trvTaskLag_ne n
  have hkeeps := trvRefresh_keeps p (((s.setReg p (Reg.trvTaskStat n) 1).setReg p (Reg.trvTaskLag n) 0).setTask p n { cert := cert })
  unfold loadedTask
  refine ⟨fun b => ?_, ?_, ?_, ?_, ?_⟩
  · rw [trvRefresh_taskStat p _ hn, State.bit_setTask,
      State.bit_setReg_ne _ (g := ⟨Reg.trvTaskStat n, b, b⟩) 0 (regKey_ne hlag (trvTaskStat_lt hn) (trvTaskLag_lt hn))]
    unfold State.bit
    rw [State.fld_setReg s p (g := ⟨Reg.trvTaskStat n, b, b⟩) 1 rfl, Nat.mod_eq_of_lt (by decide)]
  · rw [trvRefresh_reg p p _ (trvTaskLag_lt hn) hstatus.symm, State.reg_setTask, State.reg_setReg]
    rfl
  · rw [trvRefresh_task, State.task_setTask_same]
  · rw [trvRefresh_peaks, State.setTask_peaks, State.setReg_peaks, State.setReg_peaks]
  · rw [hkeeps.mem (by decide), State.setTask_mem, State.setReg_mem, State.setReg_mem]

/-- A load adds its task and drops none. -/
theorem loadedTask_loaded (hn : n < 0x70) (p : PeakId) (cert : Cert) (s : State) {m : Nat} (hm : m ∈ s.loaded p) : m ∈ (loadedTask p n cert s).loaded p := by
  obtain ⟨hin, hbit⟩ := mem_loaded.mp hm
  have hm70 := taskNumbers_lt hin
  refine mem_loaded.mpr ⟨hin, ?_⟩
  by_cases he : m = n
  · subst he
    exact ((loadedTask_shows hn p cert s).1 0).trans (by decide)
  · have hlag : Reg.trvTaskStat m ≠ Reg.trvTaskLag n := by
      simp only [Reg.trvTaskStat, Reg.trvTaskLag]
      omega
    refine (trvRefresh_taskStat p _ hm70).trans ((State.bit_setTask ..).trans ?_)
    refine (State.bit_setReg_ne _ (g := Fd.trvTaskStatLoaded m) 0 (regKey_ne hlag (trvTaskStat_lt hm70) (trvTaskLag_lt hn))).trans ?_
    exact (State.bit_setReg_ne s (g := Fd.trvTaskStatLoaded m) 1
      (regKey_ne (trvTaskStat_inj he) (trvTaskStat_lt hm70) (trvTaskStat_lt hn))).trans hbit

theorem eventsAnd_cmdRegs_taskLag {m : Nat} (hm : m < 0x70) : eventsAnd [cmdRegs] (Reg.trvTaskLag m) = 0 := by
  have hcmd : Reg.trvCmdStatus ≠ Reg.trvTaskLag m := by
    simp only [Reg.trvTaskLag, Reg.trvCmdStatus]
    omega
  unfold eventsAnd cmdRegs
  rw [eventMask_taskLag hm, onlyRegs_cons_ne _ _ hcmd, onlyRegs_nil]
  decide

theorem taskLoadComplete_ends {c : TrvCmd} (hc : (s.peak p).trvCmd = some c) (hn : c.task ∈ taskNumbers) (hcode : c.code < 16) (hop : c.op = 1) :
    Completes (.taskLoadComplete p) s (fun t => CmdEndedFrom p c.task (c.endCode p s) s t ∧
      (c.endCode p s = 0 → c.task ∈ t.loaded p ∧ t.bit p (Fd.trvTaskStatRunning c.task) = false ∧ t.reg p (Reg.trvTaskLag c.task) = 0 ∧
        (t.task p c.task).cert = c.cert ∧ (t.task p c.task).repl = .none) ∧
      (c.endCode p s ≠ 0 → t.loaded p = s.loaded p)) := by
  have h70 := taskNumbers_lt hn
  have h256 : c.task < 256 := by omega
  have hend : c.endCode p s < 16 := by
    unfold TrvCmd.endCode
    split
    · decide
    · exact hcode
  refine ⟨_, by rw [exec_taskLoadComplete, execTaskLoadComplete, loadComplete_eq hc hop], ?_⟩
  by_cases hz : c.endCode p s = 0
  · rw [if_pos hz]
    obtain ⟨hstat, hlag, htask, hpeaks, hmem⟩ := loadedTask_shows h70 p c.cert s
    have hin : c.task ∈ (loadedTask p c.task c.cert s).loaded p := mem_loaded.mpr ⟨hn, (hstat 0).trans (by decide)⟩
    have hdone := trvDone_ended h256 hend p (loadedTask p c.task c.cert s)
    have hkept := hdone.task c.task h256
    have hup : ((loadedTask p c.task c.cert s).peak p).up = (s.peak p).up := congrArg (fun x : Two Peak => (x.get p).up) hpeaks
    refine ⟨hdone.since hup (fun m hm => loadedTask_loaded h70 p c.cert s hm) hmem, fun _ => ⟨hdone.loaded ▸ hin, ?_, ?_, ?_, ?_⟩,
      fun h => absurd hz h⟩
    · exact (hdone.taskStat h70 (by decide)).trans ((hstat 2).trans (by decide))
    · exact (hdone.frame.reg p (trvTaskLag_lt h70) (eventsAnd_cmdRegs_taskLag h70)).trans hlag
    · rw [hkept.cert, htask]
    · rw [hkept.repl, htask]
  · rw [if_neg hz]
    have hdone := trvDone_ended h256 hend p s
    exact ⟨hdone.since rfl (fun m hm => hm) rfl, fun h => absurd h hz, fun _ => hdone.loaded⟩

/-! ### The check of a replacement ends (R171) -/

theorem summitChecks_code (p : PeakId) (n entry cert : Nat) (s : State) : (summitChecks p n entry cert s).1 < 16 := by
  unfold summitChecks
  dsimp only
  repeat' split
  all_goals exact le_lit rfl

/-- The old code of task n stays, but for TRV.STATUS. -/
def replaceDropped (p : PeakId) (n : Nat) (s : State) : State :=
  (s.setTask p n { s.task p n with repl := .none }).setFld p (Fd.trvTaskStatReplacePending n) 0

theorem replaceRefused_eq (p : PeakId) (n code : Nat) (s : State) : replaceRefused p n code s = trvDone p n code (trvRefresh p (replaceDropped p n s)) := rfl

theorem replaceDropped_loaded (hn : n < 0x70) (p : PeakId) (s : State) : (trvRefresh p (replaceDropped p n s)).loaded p = s.loaded p := by
  rw [trvRefresh_loaded]
  refine List.filter_congr fun m hm => ?_
  exact (State.bit_setTaskStat _ p 0 hn (taskNumbers_lt hm) (by decide) (Or.inr (by decide))).trans (State.bit_setTask ..)

theorem replaceRefused_ends (hn : n < 0x70) {code : Nat} (hcode : code < 16) (p : PeakId) (s : State) :
    CmdEndedFrom p n code s (replaceRefused p n code s) ∧ ((replaceRefused p n code s).task p n).repl = .none ∧
      (replaceRefused p n code s).bit p (Fd.trvTaskStatReplacePending n) = false ∧ (replaceRefused p n code s).loaded p = s.loaded p := by
  have hloaded := replaceDropped_loaded hn p s
  have hkeeps := trvRefresh_keeps p (replaceDropped p n s)
  have hrest : (replaceDropped p n s).mem = s.mem ∧ (replaceDropped p n s).peak p = s.peak p ∧
      (replaceDropped p n s).task p n = { s.task p n with repl := .none } := by simp [replaceDropped]
  obtain ⟨hmem, hpeak, htask⟩ := hrest
  have hdone := trvDone_ended (show n < 256 by omega) hcode p (trvRefresh p (replaceDropped p n s))
  rw [replaceRefused_eq]
  refine ⟨hdone.since ?_ (fun m hm => hloaded.symm ▸ hm) ((hkeeps.mem (by decide)).trans hmem), ?_, ?_, hdone.loaded.trans hloaded⟩
  · rw [(hkeeps.peak p).up (by decide), hpeak]
  · rw [(hdone.task n (by omega)).repl, trvRefresh_task, htask]
  · exact (hdone.taskStat hn (by decide)).trans ((trvRefresh_taskStat p _ hn).trans
      (State.bit_setTaskStat_same (s.setTask p n { s.task p n with repl := .none }) p (b := 6) false (by decide)))

theorem replaceChecked_eq {c : TrvCmd} (hc : (s.peak p).trvCmd = some c) {entry cert : Word} {at_ : Nat}
    (hr : (s.task p c.task).repl = .checking entry cert at_) : replaceChecked p s =
      if (summitChecks p c.task entry.toNat cert.toNat s).1 = 0 then
        s.setTask p c.task { s.task p c.task with repl := .armed entry (summitChecks p c.task entry.toNat cert.toNat s).2 cert at_ }
      else replaceRefused p c.task (summitChecks p c.task entry.toNat cert.toNat s).1 s := by
  unfold replaceChecked
  rw [hc]
  dsimp only
  rw [hr]

/-- Settles O22: the refused writes, the writes that begin or end a command, and the two ways in which the command that runs ends, one lemma apiece. -/
theorem taskCommands : Obligations.TaskCommands := by
  unfold Obligations.TaskCommands
  refine ⟨fun m task s hup => ⟨fun hb => ?_, fun hb hno => ?_, fun hb hn => ⟨?_, ?_, ?_, ?_⟩⟩,
    fun p c s hc hn hcode => ⟨fun hop => ?_, fun entry cert at_ hr => ⟨fun hz => ?_, fun hz => ?_⟩⟩⟩
  · have discarded := fun op (hop : op ≠ 0) => trvCommand_discarded hop hb task.isLt
    exact ⟨⟨_, exec_taskLoad_up hup, discarded 1 (by decide)⟩, ⟨_, exec_taskUnload_up hup, discarded 2 (by decide)⟩,
      ⟨_, exec_taskReplace_up hup, discarded 3 (by decide)⟩⟩
  · have noTask := fun op (hop : op ≠ 0) => trvCommand_noTask hop hb task.isLt hno
    exact ⟨⟨_, exec_taskLoad_up hup, noTask 1 (by decide)⟩, ⟨_, exec_taskUnload_up hup, noTask 2 (by decide)⟩,
      ⟨_, exec_taskReplace_up hup, noTask 3 (by decide)⟩⟩
  · exact taskLoad_begins hup hb hn
  · exact taskUnload_waits hup hb hn
  · exact taskUnload_ends hup hb hn
  · exact taskReplace_pends hup hb hn
  · have h := taskLoadComplete_ends hc hn hcode hop
    unfold TrvCmd.endCode at h
    split at h
    next hcond =>
      rw [if_pos hcond]
      exact h
    next hcond =>
      rw [if_neg hcond]
      exact h
  · exact ⟨_, by rw [exec_replaceCheckComplete, execReplaceCheckComplete, replaceChecked_eq hc hr, if_pos hz], rfl⟩
  · exact ⟨_, by rw [exec_replaceCheckComplete, execReplaceCheckComplete, replaceChecked_eq hc hr, if_neg hz],
      replaceRefused_ends (taskNumbers_lt hn) (summitChecks_code ..) p s⟩

end Sys2Proof.Machine
end

section
/-! SUPPORT. The registers of the Cirque (R199): where its fields lie, what a write of one leaves of the others, and what stays as it was where a
command writes the Cirque's block alone. -/

namespace Sys2Proof.Machine

variable {s t u : State} {d : PeakId} {b n a hi lo : Nat}

/-! ### Where the fields lie (R199) -/

theorem PeakId.num_le_one (p : PeakId) : p.num ≤ 1 := by cases p <;> decide

theorem PeakId.other_num (p : PeakId) : p.other.num = 1 - p.num := by cases p <;> rfl

/-- The fields of a domain's rotors, members and supply by address. -/
theorem domainFields : (∀ d b, rotState d b = ⟨0x40020100 + 4 * d.num + 0x40 * b, 2, 0⟩) ∧ (∀ d b, rotSlot d b = ⟨0x40020100 + 4 * d.num + 0x40 * b, 7, 4⟩) ∧
    (∀ d b, rotRelief d b = ⟨0x40020100 + 4 * d.num + 0x40 * b, 11, 8⟩) ∧ (∀ d b, rotSat d b = ⟨0x40020100 + 4 * d.num + 0x40 * b, 15, 15⟩) ∧
    (∀ d b, rotSwaps d b = ⟨0x40020100 + 4 * d.num + 0x40 * b, 31, 16⟩) ∧
    (∀ d n, convFld d n = ⟨0x4002100C + 0x40 * n, 11 + 4 * d.num, 8 + 4 * d.num⟩) ∧
    (∀ d b, matchFld d b = ⟨0x40020114 + 0x40 * b, 7 + 8 * d.num, 8 * d.num⟩) ∧ (∀ d, domFld d = ⟨0x40020000, d.num, d.num⟩) := by
  refine ⟨fun d b => ?_, fun d b => ?_, fun d b => ?_, fun d b => ?_, fun d b => ?_, fun d n => ?_, fun d b => ?_, fun d => ?_⟩ <;> cases d <;> rfl

/-- The fields of CIRQ.STATUS and CIRQ.FLAGS by address. -/
theorem summaryFields : Fd.cirqStatusReturn = ⟨0x40020000, 7, 7⟩ ∧ Fd.cirqStatusNoReliefAny = ⟨0x40020000, 6, 6⟩ ∧
    Fd.cirqStatusCalLateAny = ⟨0x40020000, 5, 5⟩ ∧ Fd.cirqStatusSingle = ⟨0x40020000, 4, 4⟩ ∧ Fd.cirqFlagsEnableRefused = ⟨0x40020004, 9, 9⟩ ∧
    Fd.cirqFlagsTrigRefused = ⟨0x40020004, 7, 7⟩ ∧ Fd.cirqFlagsDiagRefused = ⟨0x40020004, 6, 6⟩ ∧ Fd.cirqFlagsStepAbort = ⟨0x40020004, 5, 5⟩ ∧
    Fd.cirqFlagsMatchFail = ⟨0x40020004, 4, 4⟩ ∧ Fd.cirqFlagsReliefLost = ⟨0x40020004, 3, 3⟩ ∧ Fd.cirqFlagsCalLate = ⟨0x40020004, 2, 2⟩ ∧
    Fd.cirqFlagsDomainLoss = ⟨0x40020004, 1, 1⟩ ∧ Fd.cirqFlagsWriteWhileRunning = ⟨0x40020004, 0, 0⟩ :=
  ⟨rfl, rfl, rfl, rfl, rfl, rfl, rfl, rfl, rfl, rfl, rfl, rfl, rfl⟩

/-- The fields of a bank's diagnostic and match count by address. -/
theorem bankFields : (∀ b, Fd.cirqBankDiagCtrlReq b = ⟨0x40020108 + 0x40 * b, 31, 31⟩) ∧ (∀ b, Fd.cirqBankDiagCtrlInput b = ⟨0x40020108 + 0x40 * b, 30, 28⟩) ∧
    (∀ b, Fd.cirqBankDiagStatusRefuse b = ⟨0x4002010C + 0x40 * b, 7, 4⟩) ∧ (∀ b, Fd.cirqBankDiagStatusState b = ⟨0x4002010C + 0x40 * b, 1, 0⟩) ∧
    (∀ b, Fd.cirqBankMatchCntSat b = ⟨0x40020114 + 0x40 * b, 31, 31⟩) :=
  ⟨fun _ => rfl, fun _ => rfl, fun _ => rfl, fun _ => rfl, fun _ => rfl⟩

/-- The fields of an input by address. -/
theorem inputFields : (∀ n, Fd.cirqInCfgGain n = ⟨0x40021000 + 0x40 * n, 2, 1⟩) ∧ (∀ n, Fd.cirqInCfgEn n = ⟨0x40021000 + 0x40 * n, 0, 0⟩) ∧
    (∀ n, Fd.cirqInLastNew n = ⟨0x40021008 + 0x40 * n, 31, 31⟩) ∧ (∀ n, Fd.cirqInLastOvr n = ⟨0x40021008 + 0x40 * n, 30, 30⟩) ∧
    (∀ n, Fd.cirqInStatusCalLate n = ⟨0x4002100C + 0x40 * n, 7, 7⟩) ∧ (∀ n, Fd.cirqInStatusRetired n = ⟨0x4002100C + 0x40 * n, 6, 6⟩) ∧
    (∀ n, Fd.cirqInStatusOnDiag n = ⟨0x4002100C + 0x40 * n, 5, 5⟩) ∧ (∀ n, Fd.cirqInStatusReasonNow n = ⟨0x4002100C + 0x40 * n, 3, 1⟩) ∧
    (∀ n, Fd.cirqInStatusValidNow n = ⟨0x4002100C + 0x40 * n, 0, 0⟩) :=
  ⟨fun _ => rfl, fun _ => rfl, fun _ => rfl, fun _ => rfl, fun _ => rfl, fun _ => rfl, fun _ => rfl, fun _ => rfl, fun _ => rfl⟩

/-! ### A field read after a write -/

/-- A field that was written, by address. -/
theorem State.fld_setFld_at (s : State) (v : Nat) (h : lo ≤ hi) (h32 : hi < 32) :
    (s.setFld .a ⟨a, hi, lo⟩ v).fld .a ⟨a, hi, lo⟩ = v % 2 ^ (hi + 1 - lo) := State.fld_setFld s .a v h h32

/-- A field apart from the one that was written, by address. -/
theorem State.fld_setFld_off (s : State) {a' hi' lo' : Nat} (v : Nat) (h : lo ≤ hi) (h32 : hi < 32) (ha : a < 2 ^ 32) (ha' : a' < 2 ^ 32)
    (hne : a' ≠ a ∨ hi < lo' ∨ hi' < lo) : (s.setFld .a ⟨a, hi, lo⟩ v).fld .a ⟨a', hi', lo'⟩ = s.fld .a ⟨a', hi', lo'⟩ := by
  by_cases he : a' = a
  · exact State.fld_setFld_apart s .a v h h32 he (hne.resolve_left (not_not_intro he))
  · exact State.fld_setFld_ne s v (regKey_ne he ha' ha)

theorem State.fld_setReg_off (s : State) {a' hi' lo' : Nat} (v : Nat) (ha : a < 2 ^ 32) (ha' : a' < 2 ^ 32) (hne : a' ≠ a) :
    (s.setReg .a a v).fld .a ⟨a', hi', lo'⟩ = s.fld .a ⟨a', hi', lo'⟩ := State.fld_setReg_ne s v (regKey_ne hne ha' ha)

theorem State.fld_bump_off (s : State) {a' hi' lo' hc lc hs ls : Nat} (hc1 : lc ≤ hc) (hc2 : hc < 32) (hs1 : ls ≤ hs) (hs2 : hs < 32) (ha : a < 2 ^ 32)
    (ha' : a' < 2 ^ 32) (hne : a' ≠ a ∨ (hc < lo' ∨ hi' < lc) ∧ (hs < lo' ∨ hi' < ls)) :
    (s.bump .a ⟨a, hc, lc⟩ ⟨a, hs, ls⟩).fld .a ⟨a', hi', lo'⟩ = s.fld .a ⟨a', hi', lo'⟩ := by
  unfold State.bump
  split
  · exact State.fld_setFld_off s _ hs1 hs2 ha ha' (hne.imp_right And.right)
  · exact State.fld_setFld_off s _ hc1 hc2 ha ha' (hne.imp_right And.left)

/-! ### What the Cirque keeps beside its registers -/

@[simp] theorem State.setCin_regs (s : State) (c : CirqIn) : (s.setCin n c).regs = s.regs := by
  unfold State.setCin
  rfl
@[simp] theorem State.setCin_mem (s : State) (c : CirqIn) : (s.setCin n c).mem = s.mem := by
  unfold State.setCin
  rfl
@[simp] theorem State.setRotor_regs (s : State) (r : Rotor) : (s.setRotor d b r).regs = s.regs := by
  unfold State.setRotor
  rfl
@[simp] theorem State.setCorr_regs (s : State) (k : Corr) : (s.setCorr d b n k).regs = s.regs := by
  unfold State.setCorr
  rfl
@[simp] theorem calTake_regs (s : State) (off gain : Int) : (calTake d b n off gain s).regs = s.regs := by
  unfold calTake setCal State.setCorr
  rfl

@[simp] theorem State.fld_setCin (s : State) (c : CirqIn) (p : PeakId) (f : Fld) : (s.setCin n c).fld p f = s.fld p f :=
  State.fld_of_regs (State.setCin_regs ..) p f
@[simp] theorem State.fld_setRotor (s : State) (r : Rotor) (p : PeakId) (f : Fld) : (s.setRotor d b r).fld p f = s.fld p f :=
  State.fld_of_regs (State.setRotor_regs ..) p f
@[simp] theorem State.fld_setCorr (s : State) (k : Corr) (p : PeakId) (f : Fld) : (s.setCorr d b n k).fld p f = s.fld p f :=
  State.fld_of_regs (State.setCorr_regs ..) p f

@[simp] theorem State.cin_setCin_same (s : State) (c : CirqIn) : (s.setCin n c).cin n = c := Tab.get_put_same ..

theorem State.cin_setCin_ne (s : State) (c : CirqIn) {k : Nat} (h : k ≠ n) : (s.setCin n c).cin k = s.cin k := Tab.get_put_ne _ _ _ _ h

@[simp] theorem State.rotor_setRotor_same (s : State) (r : Rotor) : (s.setRotor d b r).rotor d b = r := Tab.get_put_same ..

@[simp] theorem State.corr_setCorr_same (s : State) (k : Corr) : (s.setCorr d b n k).corr d b n = k := Tab.get_put_same ..

@[simp] theorem calTake_corr (s : State) (off gain : Int) : (calTake d b n off gain s).corr d b n = ⟨off, gain, off, gain⟩ := State.corr_setCorr_same ..

theorem State.cin_of_cirq (h : t.cirq = s.cirq) (k : Nat) : t.cin k = s.cin k := by
  unfold State.cin
  rw [h]

theorem State.rotor_of_cirq (h : t.cirq = s.cirq) (d : PeakId) (b : Nat) : t.rotor d b = s.rotor d b := by
  unfold State.rotor
  rw [h]

theorem State.corr_of_cirq (h : t.cirq = s.cirq) (d : PeakId) (b k : Nat) : t.corr d b k = s.corr d b k := by
  unfold State.corr
  rw [h]

@[simp] theorem State.cin_setRotor (s : State) (r : Rotor) (k : Nat) : (s.setRotor d b r).cin k = s.cin k := by
  unfold State.cin
  rfl
@[simp] theorem State.corr_setRotor (s : State) (r : Rotor) (q : PeakId) (m k : Nat) : (s.setRotor d b r).corr q m k = s.corr q m k := by
  unfold State.corr
  rfl
@[simp] theorem State.cin_setFld (s : State) (p : PeakId) (f : Fld) (v k : Nat) : (s.setFld p f v).cin k = s.cin k :=
  State.cin_of_cirq (State.setFld_cirq ..) k
@[simp] theorem State.rotor_setFld (s : State) (p : PeakId) (f : Fld) (v k : Nat) : (s.setFld p f v).rotor d k = s.rotor d k :=
  State.rotor_of_cirq (State.setFld_cirq ..) d k
@[simp] theorem State.corr_setFld (s : State) (p : PeakId) (f : Fld) (v m k : Nat) : (s.setFld p f v).corr d m k = s.corr d m k :=
  State.corr_of_cirq (State.setFld_cirq ..) d m k
@[simp] theorem State.corr_bump (s : State) (p : PeakId) (f g : Fld) (m k : Nat) : (s.bump p f g).corr d m k = s.corr d m k :=
  State.corr_of_cirq (State.bump_cirq ..) d m k

/-! ### Commands that write the Cirque's block alone -/

/-- Of the registers only those of the Cirque's block changed, and nothing of the memories or of the Peaks. -/
structure CirqOnly (s t : State) : Prop where
  regs : RegsIn [0x4002] s t
  mem : t.mem = s.mem
  peaks : t.peaks = s.peaks

@[simp] theorem CirqOnly.refl (s : State) : CirqOnly s s := ⟨RegsIn.refl s, rfl, rfl⟩

theorem CirqOnly.symm (h : CirqOnly s t) : CirqOnly t s := ⟨fun i hi => (h.regs i hi).symm, h.mem.symm, h.peaks.symm⟩

theorem CirqOnly.trans (h : CirqOnly s t) (k : CirqOnly t u) : CirqOnly s u := ⟨h.regs.trans k.regs, k.mem.trans h.mem, k.peaks.trans h.peaks⟩

theorem CirqOnly.iff (h : CirqOnly t u) : CirqOnly s u ↔ CirqOnly s t := ⟨fun k => k.trans h.symm, fun k => k.trans h⟩

theorem CirqOnly.of_regs (hr : t.regs = s.regs) (hm : t.mem = s.mem) (hp : t.peaks = s.peaks) : CirqOnly s t := ⟨(RegsIn.refl s).of_regs hr, hm, hp⟩

theorem cirqOnly_setReg {v : Nat} (h : a / 0x10000 = 0x4002) : CirqOnly s (t.setReg .a a v) ↔ CirqOnly s t :=
  CirqOnly.iff ⟨(RegsIn.refl t).setReg .a v (by omega) (by rw [h]; decide), State.setReg_mem .., State.setReg_peaks ..⟩

theorem cirqOnly_setFld {v : Nat} (h : a / 0x10000 = 0x4002) : CirqOnly s (t.setFld .a ⟨a, hi, lo⟩ v) ↔ CirqOnly s t := cirqOnly_setReg h

theorem cirqOnly_bump {a' hi' lo' : Nat} (h : a / 0x10000 = 0x4002) (h' : a' / 0x10000 = 0x4002) :
    CirqOnly s (t.bump .a ⟨a, hi, lo⟩ ⟨a', hi', lo'⟩) ↔ CirqOnly s t := by
  unfold State.bump
  split
  · exact cirqOnly_setFld h'
  · exact cirqOnly_setFld h

@[simp] theorem cirqOnly_setCin {c : CirqIn} : CirqOnly s (t.setCin n c) ↔ CirqOnly s t := CirqOnly.iff (CirqOnly.of_regs rfl rfl rfl)
@[simp] theorem cirqOnly_setRotor {r : Rotor} : CirqOnly s (t.setRotor d b r) ↔ CirqOnly s t := CirqOnly.iff (CirqOnly.of_regs rfl rfl rfl)
@[simp] theorem cirqOnly_setCorr {k : Corr} : CirqOnly s (t.setCorr d b n k) ↔ CirqOnly s t := CirqOnly.iff (CirqOnly.of_regs rfl rfl rfl)
@[simp] theorem cirqOnly_calTake {off gain : Int} : CirqOnly s (calTake d b n off gain t) ↔ CirqOnly s t := CirqOnly.iff (CirqOnly.of_regs rfl rfl rfl)

theorem CirqOnly.forAll {α : Type} {xs : List α} {f : α → State → State} (h : CirqOnly s t) (hf : ∀ x ∈ xs, ∀ v, CirqOnly v (f x v)) :
    CirqOnly s (forAll xs f t) := forAll_induct (CirqOnly s) xs f h fun x hx v hv => hv.trans (hf x hx v)

theorem cirqOnly_cirqRefresh : CirqOnly s (cirqRefresh t) ↔ CirqOnly s t := by
  simp (disch := omega) only [cirqRefresh, State.setBit, summaryFields, cirqOnly_setFld]

theorem cirqOnly_calFresh (hn : n < 48) : CirqOnly s (calFresh n t) ↔ CirqOnly s t := by
  unfold calFresh
  split
  · rfl
  · exact cirqOnly_setFld (a := 0x4002100C + 0x40 * n) (by omega)

/-- The summaries of CIRQ.STATUS are its bits 7 to 5. -/
theorem cirqRefresh_fld (s : State) (ha : a < 2 ^ 32) (h : a ≠ 0x40020000 ∨ hi < 5 ∨ 7 < lo) :
    (cirqRefresh s).fld .a ⟨a, hi, lo⟩ = s.fld .a ⟨a, hi, lo⟩ := by
  simp (disch := omega) only [cirqRefresh, State.setBit, summaryFields, State.fld_setFld_off]

theorem calFresh_fld (s : State) (hn : n < 48) (ha : a < 2 ^ 32) (h : a ≠ 0x4002100C + 0x40 * n ∨ hi < 7 ∨ 7 < lo) :
    (calFresh n s).fld .a ⟨a, hi, lo⟩ = s.fld .a ⟨a, hi, lo⟩ := by
  unfold calFresh
  split
  · rfl
  · exact State.fld_setFld_off s 0 (le_refl 7) (by decide) (show 0x4002100C + 0x40 * n < 2 ^ 32 by omega) ha
      (h.imp_right Or.symm)

@[simp] theorem cirqRefresh_cirq (s : State) : (cirqRefresh s).cirq = s.cirq := (cirqRefresh_upd (Upd.refl 1 s) (by decide)).cirq (by decide)

@[simp] theorem calFresh_cirq (s : State) : (calFresh n s).cirq = s.cirq := (calFresh_upd (Upd.refl 1 s) (by decide)).cirq (by decide)

@[simp] theorem cirqRefresh_rotor (s : State) : (cirqRefresh s).rotor d b = s.rotor d b := State.rotor_of_cirq (cirqRefresh_cirq s) d b
@[simp] theorem calFresh_rotor (s : State) : (calFresh n s).rotor d b = s.rotor d b := State.rotor_of_cirq (calFresh_cirq s) d b
@[simp] theorem cirqRefresh_corr (s : State) (k : Nat) : (cirqRefresh s).corr d b k = s.corr d b k := State.corr_of_cirq (cirqRefresh_cirq s) d b k
@[simp] theorem calFresh_corr (s : State) (k : Nat) : (calFresh n s).corr d b k = s.corr d b k := State.corr_of_cirq (calFresh_cirq s) d b k

/-! ### The frame of the statement -/

/-- The register bits that events may change, the listed ones, and the Cirque's block. -/
def cirqAnd (own : List (Nat × Nat)) (a : Nat) : Nat := eventsAnd own a ||| (if a / 0x10000 = 0x4002 then 0xFFFFFFFF else 0)

/-- Only those bits changed, and no memory. -/
def CirqKept (own : List (Nat × Nat)) (s t : State) : Prop := RegFrame (cirqAnd own) s t ∧ t.mem = s.mem

variable {own : List (Nat × Nat)}

theorem RegFrame.cirq (h : RegsIn [0x4002] s t) : RegFrame (cirqAnd own) s t := fun p a i ha hm => by
  by_cases hb : a / 0x10000 = 0x4002
  · by_cases hi : i < 32
    · have hall : (0xFFFFFFFF : Nat).testBit i = true := by
        rw [show (0xFFFFFFFF : Nat) = 2 ^ 32 - 1 from rfl, Nat.testBit_two_pow_sub_one]
        exact decide_eq_true hi
      rw [cirqAnd, if_pos hb, Nat.testBit_or, hall, Bool.or_true] at hm
      cases hm
    · have hbig : 2 ^ 32 ≤ 2 ^ i := Nat.pow_le_pow_right (by decide) (by omega)
      rw [Nat.testBit_lt_two_pow (lt_of_lt_of_le (State.reg_lt ..) hbig), Nat.testBit_lt_two_pow (lt_of_lt_of_le (State.reg_lt ..) hbig)]
  · rw [h.reg p ha (by simpa using hb)]

theorem CirqOnly.kept (h : CirqOnly s t) : CirqKept own s t := ⟨RegFrame.cirq h.regs, h.mem⟩

theorem fireBoth_keeps (ev : Nat) (s : State) : Upd 248523987615757 s (fireBoth ev s) := fireBoth_upd (Upd.refl _ s) (by decide)

theorem CirqOnly.kept_fireBoth (h : CirqOnly s t) (ev : Nat) : CirqKept own s (fireBoth ev t) :=
  ⟨(RegFrame.cirq h.regs).trans (((fireBoth_frame ev (RegFrame.refl _ t)).events own).left _), ((fireBoth_keeps ev t).mem (by decide)).trans h.mem⟩

theorem CirqOnly.loaded (h : CirqOnly s t) (p : PeakId) : t.loaded p = s.loaded p := loaded_regsIn p h.regs (by decide)

/-- An event that follows writes of the Cirque's block reaches both Peaks' tasks. -/
theorem CirqOnly.fired (h : CirqOnly s t) {ev : Nat} (hev : ev < 256) (hbd : ev ≠ Ev.bootDone) (p : PeakId) : Fired p ev s (fireBoth ev t) :=
  fun hup n hn hs => fireBoth_waitSet ev hev hbd p n ((congrArg (fun w => (w.get p).up) h.peaks).trans hup)
    (((fire_keeps .a ev t).peak .b).up (by decide)) (h.loaded p ▸ hn) hs

theorem fireBoth_fld (ev : Nat) (s : State) (h : a / 0x10000 = 0x4002) : (fireBoth ev s).fld .a ⟨a, hi, lo⟩ = s.fld .a ⟨a, hi, lo⟩ :=
  (fireBoth_regsIn ev (RegsIn.refl s)).fld .a (show a < 2 ^ 32 by omega) (by rw [h]; decide)

theorem fireBoth_reg (ev : Nat) (s : State) (h : a / 0x10000 = 0x4002) : (fireBoth ev s).reg .a a = s.reg .a a :=
  (fireBoth_regsIn ev (RegsIn.refl s)).reg .a (by omega) (by rw [h]; decide)

@[simp] theorem fireBoth_cirq (ev : Nat) (s : State) : (fireBoth ev s).cirq = s.cirq := (fireBoth_keeps ev s).cirq (by decide)

@[simp] theorem fireBoth_cin (ev : Nat) (s : State) (k : Nat) : (fireBoth ev s).cin k = s.cin k := State.cin_of_cirq (fireBoth_cirq ev s) k

end Sys2Proof.Machine
end

section
/-! CERTIFICATE. Relief rotation (R183 to R189): the step, its overlap, the match and the abort, calibration and hand-back. -/

namespace Sys2Proof.Machine

variable {s : State} {d : PeakId}

/-! ### The step and its overlap (R183, R184, R197) -/

/-- A step begins: the relief is connected to the next slot. -/
def stepBegun (d : PeakId) (b : Nat) (s : State) : State :=
  let u := s.setRotor d b { s.rotor d b with count := 0, span := none, freed := none, calDone := false, sameSlot := false, startAt := s.tick }
  (u.setFld .a (rotSlot d b) (nextSlot d b (u.fld .a (rotSlot d b)) u)).setFld .a (rotState d b) rotSettle

theorem rotorStart_eq {b : Nat} (hrun : s.cirq.running = true) (htime : s.rotorTime = stepAt d) : rotorStart d b s =
    if s.fld .a (rotState d b) = rotReady ∧ s.domOk d = true ∧ s.fld .a (rotRelief d b) ≠ 0xF then stepBegun d b s
    else if s.fld .a (rotState d b) = rotReturn then s.setRotor d b { s.rotor d b with retBegun := true, startAt := s.tick }
    else s := by
  have hopen : (s.cirq.running && decide (s.rotorTime = stepAt d)) = true := by simp [hrun, htime]
  unfold rotorStart
  rw [if_pos hopen]
  rfl

theorem rotorStepStart_begins {b : Fin 6} (hrun : s.cirq.running = true) (htime : s.rotorTime = stepAt d) (hst : s.fld .a (rotState d b.val) = rotReady)
    (hdom : s.domOk d = true) (hrel : s.fld .a (rotRelief d b.val) ≠ 0xF) : Completes (.rotorStepStart d b) s (fun t => CirqKept [] s t ∧
      t.fld .a (rotState d b.val) = 1 ∧ (t.rotor d b.val).count = 0 ∧ (t.rotor d b.val).startAt = s.tick) := by
  have hb := b.isLt
  have hd := PeakId.num_le_one d
  refine ⟨_, by rw [exec_rotorStepStart, execRotorStepStart, rotorStart_eq hrun htime, if_pos ⟨hst, hdom, hrel⟩], CirqOnly.kept ?_, ?_, ?_, ?_⟩
  · simp (disch := omega) [stepBegun, domainFields, cirqOnly_setFld]
  · simp [stepBegun, domainFields, State.fld_setFld_at, rotSettle]
  · simp [stepBegun]
  · simp [stepBegun]

theorem rotorStepStart_returns {b : Fin 6} (hrun : s.cirq.running = true) (htime : s.rotorTime = stepAt d) (hst : s.fld .a (rotState d b.val) = rotReturn) :
    Completes (.rotorStepStart d b) s (fun t => CirqKept [] s t ∧ t.regs = s.regs ∧ (t.rotor d b.val).retBegun = true) := by
  have hready : ¬(s.fld .a (rotState d b.val) = rotReady ∧ s.domOk d = true ∧ s.fld .a (rotRelief d b.val) ≠ 0xF) :=
    fun h => absurd (hst.symm.trans h.1) (by decide)
  refine ⟨_, by rw [exec_rotorStepStart, execRotorStepStart, rotorStart_eq hrun htime, if_neg hready, if_pos hst], CirqOnly.kept ?_, ?_, ?_⟩
  · simp
  · simp
  · simp

theorem rotorOverlapStart_begins {b : Fin 6} (hst : s.fld .a (rotState d b.val) = rotSettle) (htime : (s.rotor d b.val).startAt + 640 ≤ s.tick) :
    Completes (.rotorOverlapStart d b) s (fun t => CirqKept [] s t ∧ t.fld .a (rotState d b.val) = 2 ∧ (t.rotor d b.val).count = 0) := by
  have hb := b.isLt
  have hd := PeakId.num_le_one d
  refine ⟨_, by rw [exec_rotorOverlapStart, execRotorOverlapStart, rotorOverlap, if_pos ⟨hst, htime⟩], CirqOnly.kept ?_, ?_, ?_⟩
  · simp (disch := omega) [domainFields, cirqOnly_setFld]
  · simp [domainFields, State.fld_setFld_at, rotOverlap]
  · simp

/-! ### The match and the abort (R185 to R187) -/

/-- The input under comparison. -/
def fitInput (d : PeakId) (b : Nat) (s : State) : Nat := slotInput b (s.fld .a (rotSlot d b))

/-- The fit's gain counts on an enabled input that spans 1/8 of full scale (R186, R187). -/
def fitGain (d : PeakId) (b : Nat) (gain : Int) (s : State) : Int :=
  if s.bit .a (Fd.cirqInCfgEn (fitInput d b s)) && spansEighth (s.rotor d b).span then gain else 0

/-- A fit outside the limits of R187. -/
abbrev FitFails (off gain : Int) (rms : Nat) : Prop := 2048 < off.natAbs ∨ 51200 < gain.natAbs ∨ 768 < rms

/-- The relief leaves the comparison. -/
def fitOver (d : PeakId) (b : Nat) (s : State) : State := (s.setFld .a (rotState d b) rotCalibrate).setFld .a (rotRelief d b) 0xF

/-- MATCH_FAIL: no swap is made. -/
def fitMissed (d : PeakId) (b : Nat) (s : State) : State :=
  let r := s.rotor d b
  (((fitOver d b s).raise .a Fd.cirqFlagsMatchFail).bump .a (matchFld d b) (Fd.cirqBankMatchCntSat b)).setRotor d b
    { r with freed := some (s.fld .a (rotRelief d b)), calDone := false, sameSlot := true, fails := if decide (2 ≤ r.fails) then 0 else r.fails + 1,
             skipped := if decide (2 ≤ r.fails) then r.skipped ++ [s.fld .a (rotSlot d b)] else r.skipped }

/-- The relief takes the member's place under the fitted correction. -/
def fitSwapped (d : PeakId) (b : Nat) (off gain : Int) (s : State) : State :=
  let i := fitInput d b s
  let relief := s.fld .a (rotRelief d b)
  let k := (fitOver d b s).corr d b relief
  cirqRefresh (calFresh i ((((((fitOver d b s).setCorr d b relief { k with off := k.calOff + off, gain := k.calGain + gain }).setFld .a
    (convFld d i) relief).bump .a (rotSwaps d b) (rotSat d b)).setRotor d b
      { s.rotor d b with freed := some ((fitOver d b s).fld .a (convFld d i)), calDone := false, sameSlot := false, fails := 0 })))

theorem rotorFit_eq (d : PeakId) (b : Nat) (off gain : Int) (rms : Nat) (s : State) : rotorFit d b off gain rms s =
    if s.fld .a (rotState d b) = rotOverlap ∧ 256 ≤ (s.rotor d b).count then
      if FitFails off (fitGain d b gain s) rms then fitMissed d b s else fitSwapped d b off (fitGain d b gain s) s
    else s := rfl

theorem fitInput_lt {b : Nat} (hb : b < 6) (hslot : s.fld .a (rotSlot d b) < 8) : fitInput d b s < 48 := by
  unfold fitInput slotInput
  omega

theorem rotRelief_lt (s : State) (d : PeakId) (b : Nat) : s.fld .a (rotRelief d b) < 16 := by
  simp only [domainFields]
  exact bits_lt ..

theorem rotorFitComplete_misses {b : Fin 6} {off gain : BitVec 24} {rms : BitVec 16} (hst : s.fld .a (rotState d b.val) = rotOverlap)
    (hcount : 256 ≤ (s.rotor d b.val).count) (hslot : s.fld .a (rotSlot d b.val) < 8)
    (hfail : FitFails off.toInt (fitGain d b.val gain.toInt s) rms.toNat) : Completes (.rotorFitComplete d b off gain rms) s (fun t => CirqKept [] s t ∧
      t.fld .a (rotState d b.val) = 3 ∧ t.fld .a (rotRelief d b.val) = 0xF ∧ t.bit .a Fd.cirqFlagsMatchFail = true ∧
      t.fld .a (convFld d (fitInput d b.val s)) = s.fld .a (convFld d (fitInput d b.val s)) ∧
      (t.rotor d b.val).freed = some (s.fld .a (rotRelief d b.val)) ∧ (t.rotor d b.val).sameSlot = true) := by
  have hb := b.isLt
  have hd := PeakId.num_le_one d
  have hin := fitInput_lt hb hslot
  refine ⟨_, by rw [exec_rotorFitComplete, execRotorFitComplete, rotorFit_eq, if_pos ⟨hst, hcount⟩, if_pos hfail], CirqOnly.kept ?_, ?_, ?_, ?_, ?_, ?_, ?_⟩ <;>
    unfold fitMissed fitOver State.raise
  · simp (disch := omega) [domainFields, summaryFields, bankFields, cirqOnly_setFld, cirqOnly_bump]
  · simp (disch := omega) [domainFields, summaryFields, bankFields, State.fld_setFld_off, State.fld_setFld_at, State.fld_bump_off, rotCalibrate]
  · simp (disch := omega) [domainFields, summaryFields, bankFields, State.fld_setFld_off, State.fld_setFld_at, State.fld_bump_off]
  · simp (disch := omega) [domainFields, summaryFields, bankFields, State.bit, State.fld_setFld_at, State.fld_bump_off]
  · simp (disch := omega) [domainFields, summaryFields, bankFields, State.fld_setFld_off, State.fld_bump_off]
  · simp
  · simp

theorem rotorFitComplete_swaps {b : Fin 6} {off gain : BitVec 24} {rms : BitVec 16} (hst : s.fld .a (rotState d b.val) = rotOverlap)
    (hcount : 256 ≤ (s.rotor d b.val).count) (hslot : s.fld .a (rotSlot d b.val) < 8)
    (hfits : ¬FitFails off.toInt (fitGain d b.val gain.toInt s) rms.toNat) : Completes (.rotorFitComplete d b off gain rms) s (fun t => CirqKept [] s t ∧
      t.fld .a (rotState d b.val) = 3 ∧ t.fld .a (rotRelief d b.val) = 0xF ∧
      t.fld .a (convFld d (fitInput d b.val s)) = s.fld .a (rotRelief d b.val) ∧
      (let k := s.corr d b.val (s.fld .a (rotRelief d b.val));
        t.corr d b.val (s.fld .a (rotRelief d b.val)) = { k with off := k.calOff + off.toInt, gain := k.calGain + fitGain d b.val gain.toInt s }) ∧
      (t.rotor d b.val).freed = some (s.fld .a (convFld d (fitInput d b.val s))) ∧ (t.rotor d b.val).sameSlot = false) := by
  have hb := b.isLt
  have hd := PeakId.num_le_one d
  have hin := fitInput_lt hb hslot
  have hrel := rotRelief_lt s d b.val
  have hfour : 11 + 4 * d.num + 1 - (8 + 4 * d.num) = 4 := by omega
  refine ⟨_, by rw [exec_rotorFitComplete, execRotorFitComplete, rotorFit_eq, if_pos ⟨hst, hcount⟩, if_neg hfits], CirqOnly.kept ?_, ?_, ?_, ?_, ?_, ?_, ?_⟩ <;>
    unfold fitSwapped fitOver <;> generalize s.fld .a (rotRelief d b.val) = relief at hrel ⊢
  · simp (disch := omega) [domainFields, cirqOnly_cirqRefresh, cirqOnly_calFresh, cirqOnly_setFld, cirqOnly_bump]
  · simp (disch := omega) [domainFields, cirqRefresh_fld, calFresh_fld, State.fld_setFld_off, State.fld_setFld_at, State.fld_bump_off, rotCalibrate]
  · simp (disch := omega) [domainFields, cirqRefresh_fld, calFresh_fld, State.fld_setFld_off, State.fld_setFld_at, State.fld_bump_off]
  · simp (disch := omega) [domainFields, cirqRefresh_fld, calFresh_fld, State.fld_setFld_at, State.fld_bump_off, hfour, hrel]
  · simp
  · simp (disch := omega) [domainFields, State.fld_setFld_off]
  · simp

theorem rotorStepTimeout_aborts {b : Fin 6} (hst : s.fld .a (rotState d b.val) = rotSettle ∨ s.fld .a (rotState d b.val) = rotOverlap)
    (hcount : (s.rotor d b.val).count < 256) (htime : (s.rotor d b.val).startAt + 120000 ≤ s.tick) :
    Completes (.rotorStepTimeout d b) s (fun t => CirqKept [] s t ∧ t.fld .a (rotState d b.val) = 0 ∧ t.bit .a Fd.cirqFlagsStepAbort = true ∧
      t.fld .a (rotRelief d b.val) = s.fld .a (rotRelief d b.val) ∧ (t.rotor d b.val).sameSlot = true) := by
  have hb := b.isLt
  have hd := PeakId.num_le_one d
  refine ⟨_, by rw [exec_rotorStepTimeout, execRotorStepTimeout, rotorTimeout, if_pos ⟨hst.symm, hcount, htime⟩], CirqOnly.kept ?_, ?_, ?_, ?_, ?_⟩ <;>
    unfold State.raise
  · simp (disch := omega) [domainFields, summaryFields, cirqOnly_setFld]
  · simp [domainFields, State.fld_setFld_at, rotReady]
  · simp (disch := omega) [domainFields, summaryFields, State.bit, State.fld_setFld_off, State.fld_setFld_at]
  · simp (disch := omega) [domainFields, summaryFields, State.fld_setFld_off]
  · simp

/-! ### Calibration and hand-back (R184, R188, R189, R197) -/

/-- What NO_RELIEF makes of the rotor of one domain, and that the bank's other rotor is as it was. -/
structure WithoutRelief (d : PeakId) (b : Nat) (s t : State) : Prop where
  only : CirqOnly s t
  lost : t.bit .a Fd.cirqFlagsReliefLost = true
  state : t.fld .a (rotState d b) = 5
  relief : t.fld .a (rotRelief d b) = 0xF
  otherState : t.fld .a (rotState d.other b) = s.fld .a (rotState d.other b)
  otherRelief : t.fld .a (rotRelief d.other b) = s.fld .a (rotRelief d.other b)

theorem noRelief_spec {b : Nat} (hb : b < 6) (d : PeakId) (s : State) : WithoutRelief d b s (noRelief d b s) := by
  have hd := PeakId.num_le_one d
  have ho := PeakId.other_num d
  constructor <;> unfold noRelief State.raise
  · simp (disch := omega) [domainFields, summaryFields, cirqOnly_cirqRefresh, cirqOnly_setFld]
  · simp (disch := omega) [domainFields, summaryFields, State.bit, cirqRefresh_fld, State.fld_setFld_off, State.fld_setFld_at]
  · simp (disch := omega) [domainFields, cirqRefresh_fld, State.fld_setFld_off, State.fld_setFld_at, rotNoRelief]
  · simp (disch := omega) [domainFields, cirqRefresh_fld, State.fld_setFld_at]
  · simp (disch := omega) [domainFields, summaryFields, cirqRefresh_fld, State.fld_setFld_off]
  · simp (disch := omega) [domainFields, summaryFields, cirqRefresh_fld, State.fld_setFld_off]

/-- A converter within ±0.5 % of gain and ±64 LSB of offset (R188). -/
abbrev CalFits (off gain : Int) : Prop := off.natAbs ≤ 16384 ∧ gain.natAbs ≤ 1280000

theorem calFits_iff {off gain : Int} : calFits off gain = true ↔ CalFits off gain := by simp [calFits]

/-- The rotor awaits the end of a calibration: its window's, or one of a returning domain. -/
abbrev CalAwaited (d : PeakId) (b : Nat) (s : State) : Prop :=
  s.fld .a (rotState d b) = rotCalibrate ∨ s.fld .a (rotState d b) = rotReturn ∧ (s.rotor d b).retBegun = true

theorem calComplete_refBad {b conv : Nat} {off gain : Int} (h : CalAwaited d b s) :
    calComplete d b conv off gain false s = noRelief d.other b (noRelief d b s) := by
  unfold calComplete
  dsimp only
  rw [if_pos h, if_pos rfl]

theorem calComplete_unfit {b conv : Nat} {off gain : Int} (h : CalAwaited d b s) (hfits : ¬CalFits off gain) :
    calComplete d b conv off gain true s = noRelief d b s := by
  unfold calComplete
  dsimp only
  rw [if_pos h, if_neg (by decide), if_pos (Bool.eq_false_iff.mpr (mt calFits_iff.mp hfits))]

theorem calComplete_window {b conv x : Nat} {off gain : Int} (hst : s.fld .a (rotState d b) = rotCalibrate) (hfits : CalFits off gain)
    (hfreed : (s.rotor d b).freed = some x) :
    calComplete d b conv off gain true s = (calTake d b x off gain s).setRotor d b { s.rotor d b with calDone := true } := by
  unfold calComplete
  dsimp only
  rw [if_pos (Or.inl hst), if_neg (by decide), if_neg (by simp [calFits_iff.mpr hfits]), if_neg (by rw [hst]; decide)]
  simp only [hfreed]

theorem calComplete_returning {b conv : Nat} {off gain : Int} (hst : s.fld .a (rotState d b) = rotReturn) (hret : (s.rotor d b).retBegun = true)
    (hfits : CalFits off gain) : calComplete d b conv off gain true s =
      (calTake d b conv off gain s).setRotor d b { s.rotor d b with retConvs := conv :: (s.rotor d b).retConvs.filter (fun n => decide (n ≠ conv)) } := by
  unfold calComplete
  dsimp only
  rw [if_pos (Or.inr ⟨hst, hret⟩), if_neg (by decide), if_neg (by simp [calFits_iff.mpr hfits]), if_pos hst]

theorem calibrationComplete_refBad {b : Fin 6} {conv : Fin 9} {off gain : BitVec 24} (h : CalAwaited d b.val s) :
    Completes (.calibrationComplete d ⟨b, conv⟩ off gain false) s (fun t => CirqKept [] s t ∧ t.bit .a Fd.cirqFlagsReliefLost = true ∧
      ∀ q, t.fld .a (rotState q b.val) = 5 ∧ t.fld .a (rotRelief q b.val) = 0xF) := by
  have own := noRelief_spec b.isLt d s
  have both := noRelief_spec b.isLt d.other (noRelief d b.val s)
  have hback : d.other.other = d := by cases d <;> rfl
  refine ⟨_, by rw [exec_calibrationComplete, execCalibrationComplete, calComplete_refBad h], (own.only.trans both.only).kept, both.lost, fun q => ?_⟩
  have hq : q = d ∨ q = d.other := by cases d <;> cases q <;> decide
  rcases hq with rfl | rfl
  · have hstate := both.otherState
    have hrelief := both.otherRelief
    rw [hback] at hstate hrelief
    exact ⟨hstate.trans own.state, hrelief.trans own.relief⟩
  · exact ⟨both.state, both.relief⟩

theorem calibrationComplete_unfit {b : Fin 6} {conv : Fin 9} {off gain : BitVec 24} (h : CalAwaited d b.val s) (hfits : ¬CalFits off.toInt gain.toInt) :
    Completes (.calibrationComplete d ⟨b, conv⟩ off gain true) s (fun t => CirqKept [] s t ∧ t.bit .a Fd.cirqFlagsReliefLost = true ∧
      t.fld .a (rotState d b.val) = 5 ∧ t.fld .a (rotState d.other b.val) = s.fld .a (rotState d.other b.val)) := by
  have own := noRelief_spec b.isLt d s
  exact ⟨_, by rw [exec_calibrationComplete, execCalibrationComplete, calComplete_unfit h hfits], own.only.kept, own.lost, own.state, own.otherState⟩

theorem calibrationComplete_window {b : Fin 6} {conv : Fin 9} {off gain : BitVec 24} {x : Nat} (hst : s.fld .a (rotState d b.val) = rotCalibrate)
    (hfits : CalFits off.toInt gain.toInt) (hfreed : (s.rotor d b.val).freed = some x) :
    Completes (.calibrationComplete d ⟨b, conv⟩ off gain true) s (fun t => CirqKept [] s t ∧ t.regs = s.regs ∧ (t.rotor d b.val).calDone = true ∧
      t.corr d b.val x = ⟨off.toInt, gain.toInt, off.toInt, gain.toInt⟩) := by
  refine ⟨_, by rw [exec_calibrationComplete, execCalibrationComplete, calComplete_window hst hfits hfreed], CirqOnly.kept ?_, ?_, ?_, ?_⟩
  · simp
  · simp
  · simp
  · simp

theorem calibrationComplete_returning {b : Fin 6} {conv : Fin 9} {off gain : BitVec 24} (hst : s.fld .a (rotState d b.val) = rotReturn)
    (hret : (s.rotor d b.val).retBegun = true) (hfits : CalFits off.toInt gain.toInt) :
    Completes (.calibrationComplete d ⟨b, conv⟩ off gain true) s (fun t => CirqKept [] s t ∧ t.regs = s.regs ∧ conv.val ∈ (t.rotor d b.val).retConvs ∧
      t.corr d b.val conv.val = ⟨off.toInt, gain.toInt, off.toInt, gain.toInt⟩) := by
  refine ⟨_, by rw [exec_calibrationComplete, execCalibrationComplete, calComplete_returning hst hret hfits], CirqOnly.kept ?_, ?_, ?_, ?_⟩
  · simp
  · simp
  · simp
  · simp

theorem rotorReady_handsBack {b : Fin 6} {x : Nat} (hx : x < 9) (hst : s.fld .a (rotState d b.val) = rotCalibrate)
    (hcal : (s.rotor d b.val).calDone = true) (hfreed : (s.rotor d b.val).freed = some x) (htime : (s.rotor d b.val).startAt + 400000 ≤ s.tick) :
    Completes (.rotorReady d b) s (fun t => CirqKept [] s t ∧ t.fld .a (rotState d b.val) = 0 ∧ t.fld .a (rotRelief d b.val) = x ∧
      (t.rotor d b.val).freed = none) := by
  have hb := b.isLt
  have hd := PeakId.num_le_one d
  have hx16 : x % 16 = x := Nat.mod_eq_of_lt (by omega)
  refine ⟨_, by rw [exec_rotorReady, execRotorReady, rotorReady, if_pos ⟨hst, hcal, htime⟩], CirqOnly.kept ?_, ?_, ?_, ?_⟩
  · simp (disch := omega) [domainFields, cirqOnly_setFld]
  · simp (disch := omega) [domainFields, State.fld_setFld_off, State.fld_setFld_at, rotReady]
  · simp (disch := omega) [domainFields, State.fld_setFld_off, State.fld_setFld_at, hfreed, hx16]
  · simp

theorem calAgeExpiry_late {i : Fin 48} (hrun : s.cirq.running = true) (hold : calOld .a i.val s = true ∨ calOld .b i.val s = true) :
    Completes (.calAgeExpiry i) s (fun t => CirqKept [] s t ∧ t.bit .a (Fd.cirqInStatusCalLate i.val) = true ∧ t.bit .a Fd.cirqFlagsCalLate = true ∧
      ∀ p, Fired p 65 s t) := by
  have hi := i.isLt
  have hlate : (s.cirq.running && (calOld .a i.val s || calOld .b i.val s)) = true := by simp [hrun, hold]
  have only : CirqOnly s (cirqRefresh ((s.setFld .a (Fd.cirqInStatusCalLate i.val) 1).raise .a Fd.cirqFlagsCalLate)) := by
    simp (disch := omega) [inputFields, summaryFields, State.raise, cirqOnly_cirqRefresh, cirqOnly_setFld]
  refine ⟨_, by rw [exec_calAgeExpiry, execCalAgeExpiry, if_pos hlate]; rfl, only.kept_fireBoth _, ?_, ?_, only.fired (by decide) (by decide)⟩
  · simp (disch := omega) [inputFields, summaryFields, State.raise, State.bit, fireBoth_fld, cirqRefresh_fld, State.fld_setFld_off, State.fld_setFld_at]
  · simp (disch := omega) [inputFields, summaryFields, State.raise, State.bit, fireBoth_fld, cirqRefresh_fld, State.fld_setFld_at]

end Sys2Proof.Machine
end

section
/-! CERTIFICATE. An input of the Cirque (R174 to R182, R190 to R193, R198): samples, the writes of CFG and TRIG, validity windows, the diagnostic and
the read of LAST. -/

namespace Sys2Proof.Machine

variable {s t : State}

/-! ### Samples (R175 to R177, R192, R193) -/

/-- The word of R176 by its fields. -/
def sampleWord (reason : Nat) (v : Int) (m : PeakId) (reph : Bool) : Word :=
  BitVec.ofNat 32 ((if reason = 0 then 2 ^ 31 else 0) + reason * 2 ^ 28 + (if sampleClip v then 2 ^ 27 else 0) + m.num * 2 ^ 26 +
    (if reph then 2 ^ 25 else 0) + unsigned 18 v)

theorem unsigned_lt (w : Nat) (v : Int) : unsigned w v < 2 ^ w := BitVec.isLt _

theorem sampleWord_toNat {reason : Nat} (hr : reason < 4) (v : Int) (m : PeakId) (reph : Bool) : (sampleWord reason v m reph).toNat =
    (decide (reason = 0)).toNat * 2 ^ 31 + reason * 2 ^ 28 + (sampleClip v).toNat * 2 ^ 27 + m.num * 2 ^ 26 + reph.toNat * 2 ^ 25 + unsigned 18 v := by
  have hm := PeakId.num_le_one m
  have hv := unsigned_lt 18 v
  have hc := Bool.toNat_le (sampleClip v)
  have hp := Bool.toNat_le reph
  have hvalid : (if reason = 0 then 2 ^ 31 else 0) = (decide (reason = 0)).toNat * 2 ^ 31 := by split <;> simp [*]
  have hd := Bool.toNat_le (decide (reason = 0))
  have hclip : (if sampleClip v then 2 ^ 27 else 0) = (sampleClip v).toNat * 2 ^ 27 := by cases sampleClip v <;> rfl
  have hreph : (if reph then 2 ^ 25 else 0) = reph.toNat * 2 ^ 25 := by cases reph <;> rfl
  unfold sampleWord
  rw [BitVec.toNat_ofNat, hvalid, hclip, hreph]
  omega

/-- The fields of a number that is put together from the parts of R176. -/
theorem bits_sampleParts {x r y m z c : Nat} (hx : x ≤ 1) (hr : r < 8) (hy : y ≤ 1) (hm : m ≤ 1) (hz : z ≤ 1) (hc : c < 2 ^ 18) :
    let n := x * 2 ^ 31 + r * 2 ^ 28 + y * 2 ^ 27 + m * 2 ^ 26 + z * 2 ^ 25 + c
    n % 2 ^ 18 = c ∧ bits n 27 27 = y ∧ bits n 26 26 = m ∧ bits n 25 25 = z ∧ bits n 31 31 = x ∧ bits n 30 28 = r := by
  unfold bits
  dsimp only
  omega

theorem bits_getLsbD (w : Word) (i : Nat) : bits w.toNat i i = (w.getLsbD i).toNat := by
  rw [BitVec.getLsbD, Nat.toNat_testBit, bits, Nat.add_sub_cancel_left, Nat.pow_one]

theorem decide_toNat (c : Bool) : decide (c.toNat = 1) = c := by cases c <;> rfl

theorem getLsbD_of_bits {w : Word} {i : Nat} {c : Bool} (h : bits w.toNat i i = c.toNat) : w.getLsbD i = c := by
  rw [bits_getLsbD] at h
  rw [← decide_toNat c, ← h, decide_toNat]

/-- What the fields of a sample's word read. -/
theorem sampleWord_fields {reason : Nat} (hr : reason < 4) (v : Int) (m : PeakId) (reph : Bool) :
    (sampleWord reason v m reph).toNat % 2 ^ 18 = unsigned 18 v ∧ (sampleWord reason v m reph).getLsbD 27 = sampleClip v ∧
      bits (sampleWord reason v m reph).toNat 26 26 = m.num ∧ (sampleWord reason v m reph).getLsbD 25 = reph ∧
      (sampleWord reason v m reph).getLsbD 31 = decide (reason = 0) ∧ bits (sampleWord reason v m reph).toNat 30 28 = reason := by
  obtain ⟨hvalue, hclip, hmember, hreph, hvalid, hreason⟩ := bits_sampleParts (Bool.toNat_le (decide (reason = 0))) (show reason < 8 by omega)
    (Bool.toNat_le (sampleClip v)) (PeakId.num_le_one m) (Bool.toNat_le reph) (unsigned_lt 18 v)
  rw [← sampleWord_toNat hr v m reph] at hvalue hclip hmember hreph hvalid hreason
  exact ⟨hvalue, getLsbD_of_bits hclip, hmember, getLsbD_of_bits hreph, getLsbD_of_bits hvalid, hreason⟩

/-- What the input keeps once its GAIN window has opened (R192). -/
def CirqIn.opened (c : CirqIn) (now : Nat) : CirqIn := if c.gainArm then { c with gainArm := false, gainUntil := now + 480 } else c

theorem CirqIn.opened_same (c : CirqIn) (now : Nat) : (c.opened now).bWait = c.bWait ∧ (c.opened now).rephase = c.rephase ∧
    (c.opened now).flight = c.flight ∧ (c.opened now).checkUntil = c.checkUntil := by
  unfold CirqIn.opened
  split <;> exact ⟨rfl, rfl, rfl, rfl⟩

theorem CirqIn.opened_gain (c : CirqIn) (now : Nat) : now < (c.opened now).gainUntil ↔ c.gainArm = true ∨ now < c.gainUntil := by
  unfold CirqIn.opened
  split
  next h => simp [h]
  next h => simp [h]

theorem CirqIn.sampled_same (c : CirqIn) (m : PeakId) (now : Nat) (f : Flight) :
    (c.sampled m now f).rephase = c.bWait ∧ (c.sampled m now f).flight = ⟨c.flight.a ++ [f], c.flight.b ++ [f]⟩ := by
  cases m <;> exact ⟨rfl, rfl⟩

/-- The value of a code at the member that samples. -/
def sampledValue (i : Nat) (code : Int) (m : PeakId) (s : State) : Int := sampleValue ((s.corr m (i / 8) (s.fld .a (convFld m i))).apply code)

/-- The reason of a sample taken now. -/
def sampledReason (i : Nat) (s : State) : Nat := sampleReason i ((s.cin i).opened s.tick) s

/-- The sample on its way. -/
def sampledFlight (i : Nat) (code : Int) (m : PeakId) (s : State) : Flight :=
  ⟨s.tick, sampleWord (sampledReason i s) (sampledValue i code m s) m (s.cin i).rephase, isTagged i s, s.fld .a (Fd.cirqInCfgGain i),
    s.bit .a Fd.cirqStatusSingle⟩

/-- A sample before the counts that follow it: the input has it on its way, and STATUS shows its validity. -/
def sampleSent (i : Nat) (code : Int) (m : PeakId) (s : State) : State :=
  ((s.setCin i (((s.cin i).opened s.tick).sampled m s.tick (sampledFlight i code m s))).setBit .a (Fd.cirqInStatusValidNow i)
    (decide (sampledReason i s = 0))).setFld .a (Fd.cirqInStatusReasonNow i) (sampledReason i s)

theorem cirqSample_eq {i : Nat} {code : Int} {m : PeakId} (h : sampler (s.cin i) s = some m) : cirqSample i code s =
    diagTake i (sampledValue i code m s) (overlapTake m i (sampledReason i s) (sampledValue i code m s) (sampleSent i code m s)) := by
  have hreph : (if (s.cin i).gainArm then { s.cin i with gainArm := false, gainUntil := s.tick + 480 } else s.cin i).rephase = (s.cin i).rephase :=
    ((s.cin i).opened_same s.tick).2.1
  unfold cirqSample
  simp only [h, hreph]
  rfl

theorem State.cin_of_ins (h : t.cirq.ins = s.cirq.ins) (k : Nat) : t.cin k = s.cin k := by
  unfold State.cin
  rw [h]

theorem overlapTake_same (m : PeakId) (i reason : Nat) (v : Int) (s : State) : (overlapTake m i reason v s).regs = s.regs ∧
    (overlapTake m i reason v s).mem = s.mem ∧ (overlapTake m i reason v s).peaks = s.peaks ∧ (overlapTake m i reason v s).cirq.ins = s.cirq.ins := by
  unfold overlapTake
  dsimp only
  split <;> exact ⟨rfl, rfl, rfl, rfl⟩

theorem diagTake_same (i : Nat) (v : Int) (s : State) : (diagTake i v s).regs = s.regs ∧
    (diagTake i v s).mem = s.mem ∧ (diagTake i v s).peaks = s.peaks ∧ (diagTake i v s).cirq.ins = s.cirq.ins := by
  unfold diagTake
  dsimp only
  split <;> exact ⟨rfl, rfl, rfl, rfl⟩

/-- The counts that follow a sample are the Cirque's own. -/
theorem cirqSample_rest {i : Nat} {code : Int} {m : PeakId} (h : sampler (s.cin i) s = some m) :
    CirqOnly (sampleSent i code m s) (cirqSample i code s) ∧ (cirqSample i code s).regs = (sampleSent i code m s).regs ∧
      (cirqSample i code s).cin i = (sampleSent i code m s).cin i := by
  obtain ⟨hr, hm, hp, hi⟩ := overlapTake_same m i (sampledReason i s) (sampledValue i code m s) (sampleSent i code m s)
  obtain ⟨hr', hm', hp', hi'⟩ := diagTake_same i (sampledValue i code m s)
    (overlapTake m i (sampledReason i s) (sampledValue i code m s) (sampleSent i code m s))
  rw [cirqSample_eq h]
  exact ⟨CirqOnly.of_regs (hr'.trans hr) (hm'.trans hm) (hp'.trans hp), hr'.trans hr, State.cin_of_ins (hi'.trans hi) i⟩

/-- An input that is disabled or retired gives no valid sample. -/
abbrev InputOff (i : Nat) (s : State) : Prop := s.fld .a (Fd.cirqInCfgEn i) = 0 ∨ s.bit .a (Fd.cirqInStatusRetired i) = true

theorem sampledReason_lt (i : Nat) (s : State) : sampledReason i s < 4 := by
  unfold sampledReason sampleReason
  dsimp only
  repeat' split
  all_goals decide

theorem sampledReason_off {i : Nat} (h : InputOff i s) : sampledReason i s = 3 := if_pos h

theorem sampledReason_diag {i : Nat} (h : ¬InputOff i s) (hdiag : s.bit .a (Fd.cirqInStatusOnDiag i) = true) : sampledReason i s = 2 :=
  (if_neg h).trans (if_pos hdiag)

/-- Past the CHECK window a sample lacks validity only within the GAIN window. -/
theorem sampledReason_gain {i : Nat} (h : ¬InputOff i s) (hdiag : s.bit .a (Fd.cirqInStatusOnDiag i) = false) (hcheck : (s.cin i).checkUntil ≤ s.tick) :
    sampledReason i s = if (s.cin i).gainArm = true ∨ s.tick < (s.cin i).gainUntil then 1 else 0 := by
  have hc : decide (s.tick < ((s.cin i).opened s.tick).checkUntil) = false := by
    obtain ⟨-, -, -, hsame⟩ := (s.cin i).opened_same s.tick
    rw [hsame]
    exact decide_eq_false (by omega)
  unfold sampledReason sampleReason
  rw [if_neg h, hdiag]
  simp only [hc, ← (s.cin i).opened_gain s.tick, Bool.and_false, Bool.false_eq_true, if_false, decide_eq_true_eq]

theorem sampleSent_reason {i : Nat} (code : Int) (m : PeakId) (s : State) :
    (sampleSent i code m s).fld .a (Fd.cirqInStatusReasonNow i) = sampledReason i s :=
  (State.fld_setFld_at _ _ (by decide) (by decide)).trans (Nat.mod_eq_of_lt (lt_trans (sampledReason_lt i s) (by decide)))

theorem cirqueSample_sends {i : Fin 48} {code : BitVec 24} {frac : BitVec 8} {q : PeakId} (h : sampler (s.cin i.val) s = some q) :
    Completes (.cirqueSample i code frac) s (fun t => CirqKept [] s t ∧ (t.cin i.val).rephase = (s.cin i.val).bWait ∧
      let v := sampledValue i.val (code.toInt * 256 + frac.toNat) q s
      ∃ f : Flight, (t.cin i.val).flight = ⟨(s.cin i.val).flight.a ++ [f], (s.cin i.val).flight.b ++ [f]⟩ ∧ f.at_ = s.tick ∧
        f.word.toNat % 2 ^ 18 = unsigned 18 v ∧ f.word.getLsbD 27 = sampleClip v ∧ bits f.word.toNat 26 26 = q.num ∧
        f.word.getLsbD 25 = (s.cin i.val).rephase ∧ f.gain = s.fld .a (Fd.cirqInCfgGain i.val) ∧
        f.word.getLsbD 31 = decide (bits f.word.toNat 30 28 = 0) ∧ t.fld .a (Fd.cirqInStatusReasonNow i.val) = bits f.word.toNat 30 28 ∧
        (InputOff i.val s → bits f.word.toNat 30 28 = 3) ∧
        (¬InputOff i.val s → s.bit .a (Fd.cirqInStatusOnDiag i.val) = true → bits f.word.toNat 30 28 = 2) ∧
        (¬InputOff i.val s → s.bit .a (Fd.cirqInStatusOnDiag i.val) = false → (s.cin i.val).checkUntil ≤ s.tick →
          bits f.word.toNat 30 28 = if (s.cin i.val).gainArm = true ∨ s.tick < (s.cin i.val).gainUntil then 1 else 0)) := by
  have hi := i.isLt
  obtain ⟨hrest, hregs, hcin⟩ := cirqSample_rest (code := code.toInt * 256 + frac.toNat) h
  obtain ⟨hvalue, hclip, hmember, hreph, hvalid, hreason⟩ := sampleWord_fields (sampledReason_lt i.val s)
    (sampledValue i.val (code.toInt * 256 + frac.toNat) q s) q (s.cin i.val).rephase
  obtain ⟨hwait, -, hflight, -⟩ := (s.cin i.val).opened_same s.tick
  obtain ⟨hnext, hsent⟩ := ((s.cin i.val).opened s.tick).sampled_same q s.tick (sampledFlight i.val (code.toInt * 256 + frac.toNat) q s)
  have hin : (cirqSample i.val (code.toInt * 256 + frac.toNat) s).cin i.val =
      ((s.cin i.val).opened s.tick).sampled q s.tick (sampledFlight i.val (code.toInt * 256 + frac.toNat) q s) := by
    rw [hcin, sampleSent, State.setBit, State.cin_setFld, State.cin_setFld, State.cin_setCin_same]
  have only : CirqOnly s (sampleSent i.val (code.toInt * 256 + frac.toNat) q s) := by
    simp (disch := omega) [sampleSent, State.setBit, inputFields, cirqOnly_setFld]
  refine ⟨_, by rw [exec_cirqueSample, execCirqueSample], (only.trans hrest).kept, ?_,
    sampledFlight i.val (code.toInt * 256 + frac.toNat) q s, ?_, rfl, hvalue, hclip, hmember, hreph, rfl, ?_, ?_, ?_, ?_, ?_⟩
  · rw [hin, hnext, hwait]
  · rw [hin, hsent, hflight]
  · exact hvalid.trans (congrArg (fun r => decide (r = 0)) hreason.symm)
  · rw [State.fld_of_regs hregs, sampleSent_reason]
    exact hreason.symm
  · exact fun hoff => hreason.trans (sampledReason_off hoff)
  · exact fun hon hdiag => hreason.trans (sampledReason_diag hon hdiag)
  · exact fun hon hdiag hcheck => hreason.trans (sampledReason_gain hon hdiag hcheck)

end Sys2Proof.Machine
end

section
/-! CERTIFICATE. The writes of an input's CFG and TRIG (R178, R181, R192, R288), its validity windows and the read of LAST (R192, R198). -/

namespace Sys2Proof.Machine

variable {s t : State}

/-! ### The alignment follows (R288) -/

/-- The bits in which the alignment of the timebases shows. -/
def alignRegs : List (Nat × Nat) := (Reg.pwmStatus, 0xFF00) :: (List.range 8).map (fun k => (Reg.pwmTbStatus k, 0xC))

theorem alignRegs_status : cirqAnd alignRegs Reg.pwmStatus = 0xFF00 := by decide

theorem alignRegs_tb : ∀ k < 8, cirqAnd alignRegs (Reg.pwmTbStatus k) = 0xC := by decide

theorem pwmTbStatus_lt {k : Nat} (hk : k < 8) : Reg.pwmTbStatus k < 2 ^ 32 := by
  unfold Reg.pwmTbStatus
  omega

theorem alignRefresh_frame {k : Nat} (hk : k < 8) (h : RegFrame (cirqAnd alignRegs) s t) : RegFrame (cirqAnd alignRegs) s (alignRefresh k t) := by
  have tbBit : ∀ {u : State} (b : Nat) (v : Nat), b = 2 ∨ b = 3 → RegFrame (cirqAnd alignRegs) s u →
      RegFrame (cirqAnd alignRegs) s (u.setFld .a ⟨Reg.pwmTbStatus k, b, b⟩ v) := fun b v hb hu =>
    hu.setOne .a v (pwmTbStatus_lt hk) (by omega) (by
      rw [alignRegs_tb k hk]
      rcases hb with rfl | rfl <;> decide)
  have hedged : ∀ c : Bool, RegFrame (cirqAnd alignRegs) s (if c then t else t.setTb k { t.tb k with edged := false }) := fun c => by
    split
    · exact h
    · exact h.of_regs rfl
  unfold alignRefresh State.setBit setBitOf
  exact tbBit 3 _ (Or.inr rfl) (RegFrame.setFld (tbBit 2 _ (Or.inl rfl) (hedged _)) .a _ (by decide) (by decide) (by decide)
    (inMask alignRegs_status (by decide)))

theorem alignsRefresh_frame (h : RegFrame (cirqAnd alignRegs) s t) : RegFrame (cirqAnd alignRegs) s (alignsRefresh t) :=
  h.forAll _ _ fun _ hk _ hv => alignRefresh_frame (List.mem_range.mp hk) hv

theorem alignRefresh_regsIn {k : Nat} (hk : k < 8) (h : RegsIn [0x4005] s t) : RegsIn [0x4005] s (alignRefresh k t) := by
  have hb : Reg.pwmTbStatus k / 0x10000 ∈ [0x4005] := by
    unfold Reg.pwmTbStatus
    simp only [List.mem_singleton]
    omega
  have hedged : ∀ c : Bool, RegsIn [0x4005] s (if c then t else t.setTb k { t.tb k with edged := false }) := fun c => by
    split
    · exact h
    · exact h.of_regs rfl
  unfold alignRefresh State.setBit setBitOf
  exact RegsIn.setFld (RegsIn.setFld (RegsIn.setFld (hedged _) .a _ (pwmTbStatus_lt hk) hb) .a _ (by decide) (by decide)) .a _ (pwmTbStatus_lt hk) hb

theorem alignsRefresh_regsIn (s : State) : RegsIn [0x4005] s (alignsRefresh s) :=
  (RegsIn.refl s).forAll _ _ fun _ hk _ hv => alignRefresh_regsIn (List.mem_range.mp hk) hv

theorem alignsRefresh_fld {a hi lo : Nat} (s : State) (h : a / 0x10000 = 0x4002) : (alignsRefresh s).fld .a ⟨a, hi, lo⟩ = s.fld .a ⟨a, hi, lo⟩ :=
  (alignsRefresh_regsIn s).fld .a (show a < 2 ^ 32 by omega) (by rw [h]; decide)

theorem alignsRefresh_keeps (s : State) : Upd 1025 s (alignsRefresh s) := alignsRefresh_upd (Upd.refl 1025 s) (by decide)

@[simp] theorem alignsRefresh_cin (s : State) (k : Nat) : (alignsRefresh s).cin k = s.cin k :=
  State.cin_of_cirq ((alignsRefresh_keeps s).cirq (by decide)) k

/-- A command that writes the Cirque's block, upon which the alignment follows. -/
theorem aligned_of_regsIn (h : RegsIn [0x4002] s t) (hm : t.mem = s.mem) : CirqKept alignRegs s (alignsRefresh t) :=
  ⟨alignsRefresh_frame (RegFrame.cirq h), ((alignsRefresh_keeps t).mem (by decide)).trans hm⟩

theorem RegsIn.setCirq {a : Nat} (s : State) (v : Nat) (h : a / 0x10000 = 0x4002) : RegsIn [0x4002] s (s.setReg .a a v) :=
  (RegsIn.refl s).setReg .a v (by omega) (by rw [h]; decide)

/-! ### CFG (R181, R192) -/

/-- CFG as it is written: the Shoulder path of an input that is enabled restarts. -/
def cfgTaken (i v : Nat) (s : State) : State :=
  let u := s.setReg .a (Reg.cirqInCfg i) (v % 2 + 2 * (v / 2 % 4))
  if v % 2 = 1 ∧ s.fld .a (Fd.cirqInCfgEn i) = 0 then shoulderRestart i u else u

/-- Does the write open a GAIN window? -/
def cfgOpens (i v : Nat) (s : State) : Bool :=
  decide (v % 2 = 1) && (decide (s.fld .a (Fd.cirqInCfgEn i) = 0) || decide (v / 2 % 4 ≠ s.fld .a (Fd.cirqInCfgGain i)))

theorem cirqCfgWrite_eq (i v : Nat) (s : State) : cirqCfgWrite i v s =
    if v % 2 = 1 ∧ s.bit .a (Fd.cirqInStatusRetired i) = true then s.raise .a Fd.cirqFlagsEnableRefused
    else alignsRefresh (if cfgOpens i v s then (cfgTaken i v s).setCin i { (cfgTaken i v s).cin i with gainArm := true } else cfgTaken i v s) := by
  unfold cirqCfgWrite cfgOpens cfgTaken
  rfl

theorem shoulderRestart_keeps (i : Nat) (s : State) : Upd 137438953472 s (shoulderRestart i s) := shoulderRestart_upd (Upd.refl _ s) (by decide)

theorem cfgTaken_same (i v : Nat) (s : State) : (cfgTaken i v s).regs = (s.setReg .a (Reg.cirqInCfg i) (v % 2 + 2 * (v / 2 % 4))).regs ∧
    (cfgTaken i v s).mem = s.mem ∧ (cfgTaken i v s).cirq = s.cirq := by
  unfold cfgTaken
  dsimp only
  split
  · have h := shoulderRestart_keeps i (s.setReg .a (Reg.cirqInCfg i) (v % 2 + 2 * (v / 2 % 4)))
    exact ⟨h.regs (by decide), (h.mem (by decide)).trans (State.setReg_mem ..), (h.cirq (by decide)).trans (State.setReg_cirq ..)⟩
  · exact ⟨rfl, State.setReg_mem .., State.setReg_cirq ..⟩

theorem mod_two_getLsbD (val : Word) : val.toNat % 2 = (val.getLsbD 0).toNat := by simpa [bits] using bits_getLsbD val 0

theorem cirqCfgWrite_refused {m : Master} {i : Fin 48} {val : Word} (hm : s.holds m.peak = true)
    (hret : s.bit .a (Fd.cirqInStatusRetired i.val) = true) (hen : val.getLsbD 0 = true) :
    Completes (.cirqCfgWrite m i val) s (fun t => t = s.raise .a Fd.cirqFlagsEnableRefused) := by
  have hen' : val.toNat % 2 = 1 := (mod_two_getLsbD val).trans (by rw [hen]; rfl)
  exact ⟨_, by rw [exec_cirqCfgWrite, execCirqCfgWrite, if_pos hm, cirqCfgWrite_eq, if_pos ⟨hen', hret⟩], rfl⟩

theorem cirqCfgWrite_taken {m : Master} {i : Fin 48} {val : Word} (hm : s.holds m.peak = true)
    (h : s.bit .a (Fd.cirqInStatusRetired i.val) = false ∨ val.getLsbD 0 = false) :
    Completes (.cirqCfgWrite m i val) s (fun t => CirqKept alignRegs s t ∧ t.fld .a (Fd.cirqInCfgEn i.val) = val.toNat % 2 ∧
      t.fld .a (Fd.cirqInCfgGain i.val) = bits val.toNat 2 1 ∧
      (t.cin i.val).gainArm = ((s.cin i.val).gainArm || (val.getLsbD 0 && (decide (s.fld .a (Fd.cirqInCfgEn i.val) = 0) ||
        decide (bits val.toNat 2 1 ≠ s.fld .a (Fd.cirqInCfgGain i.val)))))) := by
  have hi := i.isLt
  have hen := mod_two_getLsbD val
  have hopen : ¬(val.toNat % 2 = 1 ∧ s.bit .a (Fd.cirqInStatusRetired i.val) = true) := by
    rintro ⟨he, hr⟩
    rw [hen] at he
    rcases h with h | h
    · rw [h] at hr
      cases hr
    · rw [h] at he
      cases he
  have hon : decide (val.toNat % 2 = 1) = val.getLsbD 0 := by
    rw [hen]
    cases val.getLsbD 0 <;> rfl
  obtain ⟨hregs, hmem, hcirq⟩ := cfgTaken_same i.val val.toNat s
  have hblock : Reg.cirqInCfg i.val / 0x10000 = 0x4002 := by
    unfold Reg.cirqInCfg
    omega
  have hlast : ∀ c : Bool, (if c then (cfgTaken i.val val.toNat s).setCin i.val { (cfgTaken i.val val.toNat s).cin i.val with gainArm := true }
      else cfgTaken i.val val.toNat s).regs = (cfgTaken i.val val.toNat s).regs ∧
      (if c then (cfgTaken i.val val.toNat s).setCin i.val { (cfgTaken i.val val.toNat s).cin i.val with gainArm := true }
      else cfgTaken i.val val.toNat s).mem = (cfgTaken i.val val.toNat s).mem := fun c => by
    split <;> exact ⟨rfl, rfl⟩
  have hcfg : ∀ (c : Bool) (hi lo : Nat), (alignsRefresh (if c then (cfgTaken i.val val.toNat s).setCin i.val
      { (cfgTaken i.val val.toNat s).cin i.val with gainArm := true } else cfgTaken i.val val.toNat s)).fld .a ⟨Reg.cirqInCfg i.val, hi, lo⟩ =
        bits ((val.toNat % 2 + 2 * (val.toNat / 2 % 4)) % 2 ^ 32) hi lo := fun c hi lo => by
    rw [alignsRefresh_fld _ hblock, State.fld_of_regs ((hlast c).1.trans hregs), State.fld_setReg (g := ⟨_, hi, lo⟩) s .a _ rfl]
  refine ⟨_, by rw [exec_cirqCfgWrite, execCirqCfgWrite, if_pos hm, cirqCfgWrite_eq, if_neg hopen], ?_, ?_, ?_, ?_⟩
  · exact aligned_of_regsIn ((RegsIn.setCirq s _ hblock).of_regs ((hlast _).1.trans hregs)) ((hlast _).2.trans hmem)
  · rw [Fd.cirqInCfgEn, hcfg, bits]
    omega
  · rw [Fd.cirqInCfgGain, hcfg, bits, bits]
    omega
  · have hcin : (cfgTaken i.val val.toNat s).cin i.val = s.cin i.val := State.cin_of_cirq hcirq i.val
    have hgain : val.toNat / 2 % 4 = bits val.toNat 2 1 := rfl
    rw [alignsRefresh_cin, ← hon, ← hgain]
    change _ = ((s.cin i.val).gainArm || cfgOpens i.val val.toNat s)
    split
    next ho => rw [State.cin_setCin_same, ho, Bool.or_true]
    next ho => rw [hcin, Bool.eq_false_iff.mpr ho, Bool.or_false]

/-! ### TRIG (R178, R181) -/

/-- A trigger that R178 refuses. -/
def trigBad (v : Nat) (s : State) : Bool :=
  decide (bits v 31 31 = 1) && (decide (bits v 19 0 % 5 ≠ 0) || decide (s.fld .a (Fd.pwmTbPrdPrd (bits v 26 24)) < bits v 19 0) ||
    decide ((s.fld .a (Fd.pwmTbPrdPrd (bits v 26 24)) + 1) % 40 ≠ 0))

/-- TRIG's word as it is kept. -/
def trigWord (v : Nat) : Nat := bits v 31 31 * 2 ^ 31 + bits v 26 24 * 2 ^ 24 + bits v 19 0

/-- TRIG as it is taken: the input takes the grid that follows. -/
def trigTaken (i v : Nat) (s : State) : State :=
  let u := alignsRefresh (s.setReg .a (Reg.cirqInTrig i) (trigWord v))
  let c := u.cin i
  if bits v 31 31 = 0 then (if u.cirq.released % 40 = c.origin % 40 then u else rephaseInput i u.cirq.released u)
  else if u.bit .a (Fd.pwmTbStatusRun (bits v 26 24)) then
    let origin := u.periodStart (bits v 26 24) + (u.prdNow (bits v 26 24) + 1) + bits v 19 0
    if origin % 40 = c.origin % 40 then u else rephaseInput i origin u
  else u

theorem cirqTrigWrite_eq {i : Nat} (hlock : trigLocked i s = false) (p : PeakId) (v : Nat) : cirqTrigWrite p i v s =
    if (if trigBad v s then s.raise .a Fd.cirqFlagsTrigRefused else s).bit .a (Fd.cirqInCfgEn i) then
      (if trigBad v s then s.raise .a Fd.cirqFlagsTrigRefused else s).raise .a Fd.cirqFlagsWriteWhileRunning
    else if trigBad v s then (if trigBad v s then s.raise .a Fd.cirqFlagsTrigRefused else s)
    else trigTaken i v (if trigBad v s then s.raise .a Fd.cirqFlagsTrigRefused else s) := by
  unfold cirqTrigWrite
  simp only [hlock, Bool.false_and, Bool.false_or, Bool.false_eq_true, if_false]
  rfl

theorem trigRefused_enabled {i : Nat} (hi : i < 48) (s : State) :
    (s.raise .a Fd.cirqFlagsTrigRefused).bit .a (Fd.cirqInCfgEn i) = s.bit .a (Fd.cirqInCfgEn i) := by
  simp (disch := omega) only [State.raise, State.bit, summaryFields, inputFields, State.fld_setFld_off]

theorem cirqTrigWrite_bad {i : Nat} (hi : i < 48) (hlock : trigLocked i s = false) (p : PeakId) {v : Nat} (hbad : trigBad v s = true) :
    cirqTrigWrite p i v s = if s.bit .a (Fd.cirqInCfgEn i) then (s.raise .a Fd.cirqFlagsTrigRefused).raise .a Fd.cirqFlagsWriteWhileRunning
      else s.raise .a Fd.cirqFlagsTrigRefused := by
  rw [cirqTrigWrite_eq hlock]
  simp only [hbad, if_true, trigRefused_enabled hi]

theorem cirqTrigWrite_good {i : Nat} (hlock : trigLocked i s = false) (p : PeakId) {v : Nat} (hbad : trigBad v s = false) :
    cirqTrigWrite p i v s = if s.bit .a (Fd.cirqInCfgEn i) then s.raise .a Fd.cirqFlagsWriteWhileRunning else trigTaken i v s := by
  rw [cirqTrigWrite_eq hlock]
  simp only [hbad, Bool.false_eq_true, if_false]

/-- The new grid is the Cirque's own. -/
theorem trigTaken_same (i v : Nat) (s : State) : (trigTaken i v s).regs = (alignsRefresh (s.setReg .a (Reg.cirqInTrig i) (trigWord v))).regs ∧
    (trigTaken i v s).mem = (alignsRefresh (s.setReg .a (Reg.cirqInTrig i) (trigWord v))).mem := by
  unfold trigTaken rephaseInput
  dsimp only
  repeat' split
  all_goals simp

theorem trigWord_bits (v : Nat) : bits (trigWord v % 2 ^ 32) 31 31 = bits v 31 31 ∧ bits (trigWord v % 2 ^ 32) 26 24 = bits v 26 24 ∧
    bits (trigWord v % 2 ^ 32) 19 0 = bits v 19 0 := by
  unfold trigWord bits
  omega

theorem trigTaken_spec {i : Nat} (hi : i < 48) (val : Word) (s : State) : CirqKept alignRegs s (trigTaken i val.toNat s) ∧
    (trigTaken i val.toNat s).bit .a (Fd.cirqInTrigEn i) = val.getLsbD 31 ∧ (trigTaken i val.toNat s).fld .a (Fd.cirqInTrigTb i) = bits val.toNat 26 24 ∧
    (trigTaken i val.toNat s).fld .a (Fd.cirqInTrigDelay i) = bits val.toNat 19 0 := by
  obtain ⟨hregs, hmem⟩ := trigTaken_same i val.toNat s
  obtain ⟨hen, htb, hdelay⟩ := trigWord_bits val.toNat
  have hblock : Reg.cirqInTrig i / 0x10000 = 0x4002 := by
    unfold Reg.cirqInTrig
    omega
  have hkept := aligned_of_regsIn (RegsIn.setCirq s (trigWord val.toNat) hblock) (State.setReg_mem ..)
  have hfld : ∀ hi lo, (trigTaken i val.toNat s).fld .a ⟨Reg.cirqInTrig i, hi, lo⟩ = bits (trigWord val.toNat % 2 ^ 32) hi lo := fun hi lo => by
    rw [State.fld_of_regs hregs, alignsRefresh_fld _ hblock, State.fld_setReg (g := ⟨_, hi, lo⟩) s .a _ rfl]
  refine ⟨⟨hkept.1.of_regs hregs, hmem.trans hkept.2⟩, ?_, ?_, ?_⟩
  · rw [State.bit, Fd.cirqInTrigEn, hfld, hen, bits_getLsbD]
    exact decide_toNat _
  · rw [Fd.cirqInTrigTb, hfld, htb]
  · rw [Fd.cirqInTrigDelay, hfld, hdelay]

/-- The condition of R178 as the statement has it. -/
theorem trigBad_iff {val : Word} : trigBad val.toNat s = true ↔ val.getLsbD 31 = true ∧ (bits val.toNat 19 0 % 5 ≠ 0 ∨
    s.fld .a (Fd.pwmTbPrdPrd (bits val.toNat 26 24)) < bits val.toNat 19 0 ∨ (s.fld .a (Fd.pwmTbPrdPrd (bits val.toNat 26 24)) + 1) % 40 ≠ 0) := by
  unfold trigBad
  rw [bits_getLsbD, decide_toNat, Bool.and_eq_true, Bool.or_eq_true, Bool.or_eq_true, decide_eq_true_eq, decide_eq_true_eq, decide_eq_true_eq, or_assoc]

theorem cirqTrigWrite_exec {m : Master} {i : Fin 48} {val : Word} (hm : s.holds m.peak = true) :
    exec (.cirqTrigWrite m i val) s = .next (cirqTrigWrite m.peak i.val val.toNat s) := by
  rw [exec_cirqTrigWrite, execCirqTrigWrite, if_pos hm]

/-- The four outcomes of a write of TRIG that no loaded summit task locks. -/
theorem cirqTrigWrite_outcomes {m : Master} {i : Fin 48} {val : Word} (hm : s.holds m.peak = true) (hlock : trigLocked i.val s = false) :
    (s.fld .a (Fd.cirqInCfgEn i.val) = 1 → trigBad val.toNat s = true → Completes (.cirqTrigWrite m i val) s (fun t =>
      t = (s.raise .a Fd.cirqFlagsTrigRefused).raise .a Fd.cirqFlagsWriteWhileRunning)) ∧
    (s.fld .a (Fd.cirqInCfgEn i.val) = 1 → ¬trigBad val.toNat s = true →
      Completes (.cirqTrigWrite m i val) s (fun t => t = s.raise .a Fd.cirqFlagsWriteWhileRunning)) ∧
    (s.fld .a (Fd.cirqInCfgEn i.val) = 0 → trigBad val.toNat s = true →
      Completes (.cirqTrigWrite m i val) s (fun t => t = s.raise .a Fd.cirqFlagsTrigRefused)) ∧
    (s.fld .a (Fd.cirqInCfgEn i.val) = 0 → ¬trigBad val.toNat s = true → Completes (.cirqTrigWrite m i val) s (fun t => CirqKept alignRegs s t ∧
      t.bit .a (Fd.cirqInTrigEn i.val) = val.getLsbD 31 ∧ t.fld .a (Fd.cirqInTrigTb i.val) = bits val.toNat 26 24 ∧
      t.fld .a (Fd.cirqInTrigDelay i.val) = bits val.toNat 19 0)) := by
  have hon : s.fld .a (Fd.cirqInCfgEn i.val) = 1 → s.bit .a (Fd.cirqInCfgEn i.val) = true := fun h => decide_eq_true h
  have hoff : s.fld .a (Fd.cirqInCfgEn i.val) = 0 → ¬s.bit .a (Fd.cirqInCfgEn i.val) = true := fun h hb => by
    rw [State.bit, h] at hb
    cases hb
  refine ⟨fun hen hbad => ?_, fun hen hbad => ?_, fun hen hbad => ?_, fun hen hbad => ?_⟩
  · exact ⟨_, by rw [cirqTrigWrite_exec hm, cirqTrigWrite_bad i.isLt hlock _ hbad, if_pos (hon hen)], rfl⟩
  · exact ⟨_, by rw [cirqTrigWrite_exec hm, cirqTrigWrite_good hlock _ (Bool.eq_false_iff.mpr hbad), if_pos (hon hen)], rfl⟩
  · exact ⟨_, by rw [cirqTrigWrite_exec hm, cirqTrigWrite_bad i.isLt hlock _ hbad, if_neg (hoff hen)], rfl⟩
  · exact ⟨_, by rw [cirqTrigWrite_exec hm, cirqTrigWrite_good hlock _ (Bool.eq_false_iff.mpr hbad), if_neg (hoff hen)], trigTaken_spec i.isLt val s⟩

/-! ### Validity windows and LAST (R192, R198) -/

theorem validityWindowEnd_ends (i : Fin 48) (s : State) : Completes (.validityWindowEnd i) s (fun t => CirqKept [] s t ∧ t.regs = s.regs ∧
    t.cin i.val = { s.cin i.val with
      gainUntil := if (s.cin i.val).gainUntil ≤ s.tick then 0 else (s.cin i.val).gainUntil
      checkUntil := if (s.cin i.val).checkUntil ≤ s.tick then 0 else (s.cin i.val).checkUntil }) := by
  refine ⟨_, by rw [exec_validityWindowEnd, execValidityWindowEnd], CirqOnly.kept ?_, ?_, ?_⟩
  · simp
  · simp
  · simp

theorem readLast_frame (i : Fin 48) (p : PeakId) (s : State) :
    RegFrame (onlyRegs [(Reg.cirqInLast i.val, 0xC0000000)]) s (readLast p i.val s).2 := by
  have hi := i.isLt
  have ha : Reg.cirqInLast i.val < 2 ^ 32 := by
    unfold Reg.cirqInLast
    omega
  have hmask := onlyRegs_cons_self (Reg.cirqInLast i.val) 0xC0000000 []
  unfold readLast
  dsimp only
  split
  · exact ((RegFrame.refl _ s).setOne .a 0 ha (by decide) (by rw [hmask]; decide)).setOne .a 0 ha (by decide) (by rw [hmask]; decide)
  · exact RegFrame.refl _ s

theorem returned_regs (r : Nat × State) : (returned r).regs = r.2.regs := rfl

theorem returned_readData (r : Nat × State) : (returned r).readData = BitVec.ofNat 32 r.1 := rfl

theorem returned_rest (r : Nat × State) (regs : Tab Word) (x : Word) :
    { returned r with regs := regs, readData := x } = { r.2 with regs := regs, readData := x } := rfl

theorem State.setFld_readRest (s : State) (p : PeakId) (f : Fld) (v : Nat) (r : Tab Word) (x : Word) :
    { s.setFld p f v with regs := r, readData := x } = { s with regs := r, readData := x } :=
  congrArg (fun u : State => { u with readData := x }) (State.setFld_rest s p f v r)

theorem readLast_rest (p : PeakId) (i : Nat) (s : State) : { (readLast p i s).2 with regs := s.regs, readData := s.readData } = s := by
  unfold readLast
  dsimp only
  split
  · exact (State.setFld_readRest ..).trans (State.setFld_readRest ..)
  · rfl

/-- The holder's read of LAST clears NEW and OVR. -/
theorem readLast_clears {i : Nat} (hi : i < 48) (p : PeakId) (s : State) :
    (readLast p i s).2.bit .a (Fd.cirqInLastNew i) = (s.bit .a (Fd.cirqInLastNew i) && !s.holds p) ∧
      (readLast p i s).2.bit .a (Fd.cirqInLastOvr i) = (s.bit .a (Fd.cirqInLastOvr i) && !s.holds p) := by
  unfold readLast
  dsimp only
  split
  next h =>
    constructor
    · simp (disch := omega) [h, inputFields, State.bit, State.fld_setFld_off, State.fld_setFld_at]
    · simp (disch := omega) [h, inputFields, State.bit, State.fld_setFld_at]
  next h => simp [h]

theorem cirqLastRead_reads {m : Master} {i : Fin 48} (hup : (s.peak m.peak).up = true) : Completes (.cirqLastRead m i) s (fun t =>
    t.readData = s.regW (regKey .a (Reg.cirqInLast i.val)) ∧
    t.bit .a (Fd.cirqInLastNew i.val) = (s.bit .a (Fd.cirqInLastNew i.val) && !s.holds m.peak) ∧
    t.bit .a (Fd.cirqInLastOvr i.val) = (s.bit .a (Fd.cirqInLastOvr i.val) && !s.holds m.peak) ∧
    RegFrame (onlyRegs [(Reg.cirqInLast i.val, 0xC0000000)]) s t ∧ { t with regs := s.regs, readData := s.readData } = s) := by
  have hregs := returned_regs (readLast m.peak i.val s)
  obtain ⟨hnew, hovr⟩ := readLast_clears i.isLt m.peak s
  refine ⟨_, by rw [exec_cirqLastRead, execCirqLastRead, if_pos hup], ?_, (State.bit_of_regs hregs _ _).trans hnew,
    (State.bit_of_regs hregs _ _).trans hovr, (readLast_frame i m.peak s).of_regs hregs, (returned_rest _ _ _).trans (readLast_rest ..)⟩
  rw [returned_readData]
  exact BitVec.ofNat_toNat ..

end Sys2Proof.Machine
end

section
/-! CERTIFICATE. The diagnostics of a bank (R190, R191). -/

namespace Sys2Proof.Machine

variable {s : State}

/-! ### The request (R191) -/

/-- REFUSE of a request: the first condition that fails, 0 where it is taken. -/
def diagCode (b v : Nat) (s : State) : Nat :=
  if bits v 9 0 = 0 ∨ 600 < bits v 9 0 then 1
  else if s.bit .a (Fd.cirqInStatusRetired (slotInput b (bits v 30 28))) = true then 2
  else if trigLocked (slotInput b (bits v 30 28)) s = true then 3
  else if s.fld .a (Fd.cirqBankDiagStatusState b) ≠ 0 then 4
  else 0

theorem diagCode_lt (b v : Nat) (s : State) : diagCode b v s < 16 := by
  unfold diagCode
  repeat' split
  all_goals decide

/-- A request refused: DIAG_CTRL takes it without REQ, unless a diagnostic runs. -/
def diagRefused (b v code : Nat) (s : State) : State :=
  let u := (s.setFld .a (Fd.cirqBankDiagStatusRefuse b) code).raise .a Fd.cirqFlagsDiagRefused
  if decide (s.fld .a (Fd.cirqBankDiagStatusState b) ≠ 0) then u else u.setReg .a (Reg.cirqBankDiagCtrl b) (v % 2 ^ 31 - bits v 15 10 * 2 ^ 10)

/-- A request taken: it waits for its window. -/
def diagTaken (b v : Nat) (s : State) : State :=
  ((s.setReg .a (Reg.cirqBankDiagCtrl b) (v - bits v 15 10 * 2 ^ 10)).setFld .a (Fd.cirqBankDiagStatusRefuse b) 0).setFld .a
    (Fd.cirqBankDiagStatusState b) 1

theorem diagWrite_eq {b v : Nat} (hreq : bits v 31 31 = 1) (s : State) :
    diagWrite b v s = if diagCode b v s = 0 then diagTaken b v s else diagRefused b v (diagCode b v s) s := by
  unfold diagWrite diagCode
  dsimp only
  rw [if_neg (by rw [hreq]; decide)]
  split
  · rfl
  split
  · rfl
  split
  · rfl
  split
  next hbusy =>
    rw [if_pos (of_decide_eq_true hbusy)]
    exact (if_pos hbusy).symm
  next hbusy =>
    rw [if_neg fun h => hbusy (decide_eq_true h)]
    rfl

theorem diagRefused_spec {b code : Nat} (hb : b < 6) (hcode : code < 16) (v : Nat) (s : State) : CirqOnly s (diagRefused b v code s) ∧
    (diagRefused b v code s).fld .a (Fd.cirqBankDiagStatusRefuse b) = code ∧ (diagRefused b v code s).bit .a Fd.cirqFlagsDiagRefused = true ∧
    (diagRefused b v code s).fld .a (Fd.cirqBankDiagStatusState b) = s.fld .a (Fd.cirqBankDiagStatusState b) := by
  have hreg : Reg.cirqBankDiagCtrl b = 0x40020108 + 0x40 * b := rfl
  unfold diagRefused State.raise
  dsimp only
  split
  · refine ⟨?_, ?_, ?_, ?_⟩
    · simp (disch := omega) [bankFields, summaryFields, cirqOnly_setFld]
    · simp (disch := omega) [bankFields, summaryFields, State.fld_setFld_off, State.fld_setFld_at, hcode]
    · simp (disch := omega) [summaryFields, State.bit, State.fld_setFld_at]
    · simp (disch := omega) [bankFields, summaryFields, State.fld_setFld_off]
  · refine ⟨?_, ?_, ?_, ?_⟩
    · simp (disch := omega) [hreg, bankFields, summaryFields, cirqOnly_setFld, cirqOnly_setReg]
    · simp (disch := omega) [hreg, bankFields, summaryFields, State.fld_setReg_off, State.fld_setFld_off, State.fld_setFld_at, hcode]
    · simp (disch := omega) [hreg, summaryFields, State.bit, State.fld_setReg_off, State.fld_setFld_at]
    · simp (disch := omega) [hreg, bankFields, summaryFields, State.fld_setReg_off, State.fld_setFld_off]

theorem diagTaken_spec {b : Nat} (hb : b < 6) (v : Nat) (s : State) : CirqOnly s (diagTaken b v s) ∧
    (diagTaken b v s).fld .a (Fd.cirqBankDiagStatusRefuse b) = 0 ∧ (diagTaken b v s).fld .a (Fd.cirqBankDiagStatusState b) = 1 := by
  have hreg : Reg.cirqBankDiagCtrl b = 0x40020108 + 0x40 * b := rfl
  unfold diagTaken
  refine ⟨?_, ?_, ?_⟩
  · simp (disch := omega) [hreg, bankFields, cirqOnly_setFld, cirqOnly_setReg]
  · simp (disch := omega) [bankFields, State.fld_setFld_off, State.fld_setFld_at]
  · simp (disch := omega) [bankFields, State.fld_setFld_at]

theorem diagRequest_answers {m : Master} {b : Fin 6} {val : Word} (hm : s.holds m.peak = true) (hreq : val.getLsbD 31 = true) :
    Completes (.diagRequest m b val) s (fun t => CirqKept [] s t ∧ t.fld .a (Fd.cirqBankDiagStatusRefuse b.val) = diagCode b.val val.toNat s ∧
      (diagCode b.val val.toNat s ≠ 0 → t.bit .a Fd.cirqFlagsDiagRefused = true ∧
        t.fld .a (Fd.cirqBankDiagStatusState b.val) = s.fld .a (Fd.cirqBankDiagStatusState b.val)) ∧
      (diagCode b.val val.toNat s = 0 → t.fld .a (Fd.cirqBankDiagStatusState b.val) = 1)) := by
  have hbit : bits val.toNat 31 31 = 1 := (bits_getLsbD val 31).trans (congrArg Bool.toNat hreq)
  refine ⟨_, by rw [exec_diagRequest, execDiagRequest, if_pos hm, diagWrite_eq hbit], ?_⟩
  split
  next hzero =>
    obtain ⟨hkept, hrefuse, hstate⟩ := diagTaken_spec b.isLt val.toNat s
    exact ⟨hkept.kept, hrefuse.trans hzero.symm, fun h => absurd hzero h, fun _ => hstate⟩
  next hcode =>
    obtain ⟨hkept, hrefuse, hflag, hstate⟩ := diagRefused_spec b.isLt (diagCode_lt b.val val.toNat s) val.toNat s
    exact ⟨hkept.kept, hrefuse, fun _ => ⟨hflag, hstate⟩, fun h => absurd h hcode⟩

/-! ### The window and its end (R190) -/

/-- The input under diagnosis. -/
def diagInput (b : Nat) (s : State) : Nat := slotInput b (s.fld .a (Fd.cirqBankDiagCtrlInput b))

theorem diagInput_lt {b : Nat} (hb : b < 6) (s : State) : diagInput b s < 48 := by
  have h := bits_lt (s.reg .a (Reg.cirqBankDiagCtrl b)) 30 28
  unfold diagInput slotInput State.fld Fd.cirqBankDiagCtrlInput
  dsimp only
  omega

/-- The diagnostics of the banks as the Cirque keeps them. -/
def State.withDiags (s : State) (l : Tab Diag) : State := { s with cirq := { s.cirq with diags := l } }

@[simp] theorem State.withDiags_regs (s : State) (l : Tab Diag) : (s.withDiags l).regs = s.regs := by
  unfold State.withDiags
  rfl

@[simp] theorem State.fld_withDiags (s : State) (l : Tab Diag) (p : PeakId) (f : Fld) : (s.withDiags l).fld p f = s.fld p f :=
  State.fld_of_regs (State.withDiags_regs s l) p f

@[simp] theorem State.cin_withDiags (s : State) (l : Tab Diag) (k : Nat) : (s.withDiags l).cin k = s.cin k := by
  unfold State.cin State.withDiags
  rfl

@[simp] theorem cirqOnly_withDiags {t : State} {l : Tab Diag} : CirqOnly s (t.withDiags l) ↔ CirqOnly s t :=
  CirqOnly.iff (CirqOnly.of_regs rfl rfl rfl)

/-- The check DAC connected to the input. -/
def diagConnected (b : Nat) (s : State) : State :=
  let u := (s.setFld .a (Fd.cirqBankDiagStatusState b) 2).setFld .a (Fd.cirqInStatusOnDiag (diagInput b s)) 1
  u.withDiags (Tab.put (fun _ => {}) u.cirq.diags b { connected := u.tick })

theorem diagWindow_connects {b : Fin 6} (hst : s.fld .a (Fd.cirqBankDiagStatusState b.val) = 1) (hrun : s.cirq.running = true)
    (htime : s.rotorTime = 1000 ∨ s.rotorTime = 2600) (hfree : dacHeld b.val s = false) : Completes (.diagWindow b) s (fun t => CirqKept [] s t ∧
      t.fld .a (Fd.cirqBankDiagStatusState b.val) = 2 ∧ t.bit .a (Fd.cirqInStatusOnDiag (diagInput b.val s)) = true) := by
  have hb := b.isLt
  have hin := diagInput_lt hb s
  have heq : exec (.diagWindow b) s = .next (diagConnected b.val s) := by
    rw [exec_diagWindow, execDiagWindow, if_pos ⟨hst, hrun, htime, hfree⟩]
    rfl
  refine ⟨_, heq, CirqOnly.kept ?_, ?_, ?_⟩
  · simp (disch := omega) [diagConnected, bankFields, inputFields, cirqOnly_setFld]
  · simp (disch := omega) [diagConnected, bankFields, inputFields, State.fld_setFld_off, State.fld_setFld_at]
  · simp (disch := omega) [diagConnected, inputFields, State.bit, State.fld_setFld_at]

/-- A diagnostic at its end but for its event. -/
def diagOver (b : Nat) (s : State) : State :=
  let i := diagInput b s
  let u := (((s.setFld .a (Fd.cirqBankDiagStatusState b) 0).setFld .a (Fd.cirqInStatusOnDiag i) 0).setFld .a (Fd.cirqBankDiagCtrlReq b) 0).setReg .a
    (Reg.cirqBankDiagMean b) (unsigned 18 (diagMean (Tab.get (fun _ => {}) s.cirq.diags b)))
  let u := u.setCin i { u.cin i with checkUntil := u.tick + 640 }
  u.withDiags (Tab.put (fun _ => {}) u.cirq.diags b {})

theorem diagMean_of_dvd {g : Diag} (hn : g.count ≠ 0) (hdvd : g.sum % g.count = 0) : diagMean g = g.sum / g.count := by
  unfold diagMean
  rw [if_neg hn, if_pos hdvd]

theorem diagOver_mean {b : Nat} (s : State) : (diagOver b s).reg .a (Reg.cirqBankDiagMean b) =
    unsigned 18 (diagMean (Tab.get (fun _ => {}) s.cirq.diags b)) := by
  have hlt := unsigned_lt 18 (diagMean (Tab.get (fun _ => {}) s.cirq.diags b))
  have hregs : ∀ (u : State) (c : CirqIn) (l : Tab Diag), ((u.setCin (diagInput b s) c).withDiags l).regs = u.regs := fun u c l => by simp
  unfold diagOver
  dsimp only
  rw [State.reg_of_regs (hregs ..), State.reg_setReg, Nat.mod_eq_of_lt (lt_trans hlt (by decide))]

theorem diagEnd_ends {b : Fin 6} (hst : s.fld .a (Fd.cirqBankDiagStatusState b.val) = 2)
    (htime : (Tab.get (fun _ => ({} : Diag)) s.cirq.diags b.val).connected + 400 * s.fld .a (Fd.cirqBankDiagCtrlLen b.val) ≤ s.tick) :
    Completes (.diagEnd b) s (fun t => CirqKept [] s t ∧ t.fld .a (Fd.cirqBankDiagStatusState b.val) = 0 ∧
      t.bit .a (Fd.cirqInStatusOnDiag (diagInput b.val s)) = false ∧ t.bit .a (Fd.cirqBankDiagCtrlReq b.val) = false ∧
      (t.cin (diagInput b.val s)).checkUntil = s.tick + 640 ∧
      (let g := Tab.get (fun _ => ({} : Diag)) s.cirq.diags b.val;
        g.count ≠ 0 → g.sum % g.count = 0 → t.reg .a (Reg.cirqBankDiagMean b.val) = unsigned 18 (g.sum / g.count)) ∧ ∀ p, Fired p 66 s t) := by
  have hb := b.isLt
  have hin := diagInput_lt hb s
  have hreg : Reg.cirqBankDiagMean b.val = 0x40020110 + 0x40 * b.val := rfl
  have heq : exec (.diagEnd b) s = .next (fireBoth Ev.cirqDiag (diagOver b.val s)) := by
    rw [exec_diagEnd, execDiagEnd]
    dsimp only
    rw [if_pos ⟨hst, htime⟩]
    rfl
  have only : CirqOnly s (diagOver b.val s) := by
    simp (disch := omega) [diagOver, hreg, bankFields, inputFields, cirqOnly_setFld, cirqOnly_setReg]
  refine ⟨_, heq, only.kept_fireBoth _, ?_, ?_, ?_, ?_, fun hn hdvd => ?_, only.fired (by decide) (by decide)⟩
  · simp (disch := omega) [diagOver, hreg, bankFields, inputFields, fireBoth_fld, State.fld_setReg_off, State.fld_setFld_off, State.fld_setFld_at]
  · simp (disch := omega) [diagOver, hreg, bankFields, inputFields, State.bit, fireBoth_fld, State.fld_setReg_off, State.fld_setFld_off, State.fld_setFld_at]
  · simp (disch := omega) [diagOver, hreg, bankFields, State.bit, fireBoth_fld, State.fld_setReg_off, State.fld_setFld_at]
  · simp [diagOver]
  · rw [fireBoth_reg _ _ (by rw [hreg]; omega), diagOver_mean, diagMean_of_dvd hn hdvd]

end Sys2Proof.Machine
end

section
/-! CERTIFICATE. Loss and return of a supply domain (R194 to R197, R472). -/

namespace Sys2Proof.Machine

variable {s t : State} {d : PeakId} {a hi lo : Nat}

/-- A state with another Cirque beside its registers. -/
def State.withCirq (s : State) (c : Cirque) : State := { s with cirq := c }

@[simp] theorem State.withCirq_regs (s : State) (c : Cirque) : (s.withCirq c).regs = s.regs := by
  unfold State.withCirq
  rfl
@[simp] theorem State.withCirq_mem (s : State) (c : Cirque) : (s.withCirq c).mem = s.mem := by
  unfold State.withCirq
  rfl
@[simp] theorem State.withCirq_power (s : State) (c : Cirque) : (s.withCirq c).power = s.power := by
  unfold State.withCirq
  rfl
@[simp] theorem State.withCirq_cirq (s : State) (c : Cirque) : (s.withCirq c).cirq = c := by
  unfold State.withCirq
  rfl
@[simp] theorem State.fld_withCirq (s : State) (c : Cirque) (p : PeakId) (f : Fld) : (s.withCirq c).fld p f = s.fld p f :=
  State.fld_of_regs (State.withCirq_regs s c) p f
@[simp] theorem State.setRotor_power (s : State) (b : Nat) (r : Rotor) : (s.setRotor d b r).power = s.power := by
  unfold State.setRotor
  rfl
@[simp] theorem State.setRotor_locked (s : State) (b : Nat) (r : Rotor) : (s.setRotor d b r).cirq.locked = s.cirq.locked := by
  unfold State.setRotor
  rfl
@[simp] theorem cirqOnly_withCirq {c : Cirque} : CirqOnly s (t.withCirq c) ↔ CirqOnly s t := CirqOnly.iff (CirqOnly.of_regs rfl rfl rfl)

/-! ### Loops over the banks and the inputs -/

/-- A field that no turn of a loop writes. -/
theorem forAll_fld {n : Nat} {f : Nat → State → State} {g : Fld} (hf : ∀ k < n, ∀ v, (f k v).fld .a g = v.fld .a g) (s : State) :
    (forAll (List.range n) f s).fld .a g = s.fld .a g :=
  forAll_induct (fun v => v.fld .a g = s.fld .a g) _ f rfl fun k hk v hv => (hf k (List.mem_range.mp hk) v).trans hv

theorem cirqOnly_forAll {n : Nat} {f : Nat → State → State} (hf : ∀ k < n, ∀ v, CirqOnly v (f k v)) (s : State) : CirqOnly s (forAll (List.range n) f s) :=
  (CirqOnly.refl s).forAll fun k hk => hf k (List.mem_range.mp hk)

/-- A field of a bank's own register, where each turn writes its own bank's register alone. -/
theorem forAll_bankFld {f : Nat → State → State} {k v : Nat} {g : Fld} (hk : k < 6) (hown : ∀ u, (f k u).fld .a g = v)
    (hother : ∀ x < 6, x ≠ k → ∀ u, (f x u).fld .a g = u.fld .a g) (s : State) : (forAll (List.range 6) f s).fld .a g = v :=
  forAll_reaches (fun u => u.fld .a g = v) _ f (List.mem_range.mpr hk) hown fun x hx u hu => by
    by_cases h : x = k
    · rw [h]
      exact hown u
    · exact (hother x (List.mem_range.mp hx) h u).trans hu

/-! ### A domain's rotors stop (R195) -/

theorem rotorsStop_only (d : PeakId) (s : State) : CirqOnly s (rotorsStop d s) := by
  have hd := PeakId.num_le_one d
  refine cirqOnly_forAll (fun k hk v => ?_) s
  simp (disch := omega) [domainFields, cirqOnly_setFld]

/-- Only the rotor registers of the domain change. -/
theorem rotorsStop_fld (s : State) (ha : a < 2 ^ 32) (h : a < 0x40020100 ∨ a % 64 ≠ 4 * d.num) :
    (rotorsStop d s).fld .a ⟨a, hi, lo⟩ = s.fld .a ⟨a, hi, lo⟩ := by
  have hd := PeakId.num_le_one d
  refine forAll_fld (fun k hk v => ?_) s
  simp (disch := omega) [domainFields, State.fld_setFld_off]

theorem rotorsStop_state {k : Nat} (hk : k < 6) (s : State) : (rotorsStop d s).fld .a (rotState d k) = 4 := by
  have hd := PeakId.num_le_one d
  refine forAll_bankFld hk (fun v => ?_) (fun x hx hne v => ?_) s
  · simp (disch := omega) [domainFields, State.fld_setFld_off, State.fld_setFld_at, rotStopped]
  · simp (disch := omega) [domainFields, State.fld_setFld_off]

/-! ### The diagnostics end with the last domain (R472) -/

theorem diagsCut_only (s : State) : CirqOnly s (diagsCut s) := by
  unfold diagsCut
  refine (CirqOnly.of_regs rfl rfl rfl : CirqOnly s (s.withDiags [])).trans ((cirqOnly_forAll (fun k hk v => ?_) _).trans (cirqOnly_forAll (fun k hk v => ?_) _))
  · simp (disch := omega) [bankFields, cirqOnly_setFld]
  · simp (disch := omega) [inputFields, cirqOnly_setFld]

theorem diagsCut_fld (s : State) (ha : a < 0x40021000) (h : a % 64 < 8) : (diagsCut s).fld .a ⟨a, hi, lo⟩ = s.fld .a ⟨a, hi, lo⟩ := by
  unfold diagsCut
  refine (forAll_fld (fun k hk v => ?_) _).trans ((forAll_fld (fun k hk v => ?_) _).trans (State.fld_withDiags s [] .a _))
  · simp (disch := omega) [inputFields, State.fld_setFld_off]
  · simp (disch := omega) [bankFields, State.fld_setFld_off]

/-! ### Loss (R194, R195) -/

/-- CIRQ.STATUS and CIRQ.FLAGS show the loss. -/
def lossShown (d : PeakId) (s : State) : State :=
  let u := s.setFld .a (domFld d) 0
  (u.setBit .a Fd.cirqStatusSingle (u.domOk d.other)).raise .a Fd.cirqFlagsDomainLoss

/-- The Cirque without any domain is held in reset. -/
def cirqHeld (s : State) : State := diagsCut (s.withCirq { s.cirq with running := false })

/-- What input `i` loses of its conversions. -/
def inputCut (d : PeakId) (i : Nat) (s : State) : State :=
  let c := s.cin i
  let cut := fun (f : Flight) => decide (bits f.word.toNat 26 26 = d.num) && decide (s.tick < f.at_ + 40)
  s.setCin i { c with flight := ⟨c.flight.a.filter (fun f => !cut f), c.flight.b.filter (fun f => !cut f)⟩
                      tag := match c.tag with | some f => if cut f then none else some f | none => none
                      rephase := true, bWait := false }

/-- The loss but for its event. -/
def lossMade (d : PeakId) (s : State) : State :=
  let u := rotorsStop d (lossShown d s)
  cirqRefresh (forAll (List.range 48) (inputCut d) (if u.domOk d.other then u else cirqHeld u))

theorem domainLoss_eq (h : s.domOk d = true) : domainLoss d s = fireBoth Ev.cirqDomain (lossMade d s) := by
  unfold domainLoss
  rw [if_pos h]
  rfl

theorem lossShown_only (d : PeakId) (s : State) : CirqOnly s (lossShown d s) := by
  unfold lossShown State.setBit State.raise
  simp (disch := omega) [domainFields, summaryFields, cirqOnly_setFld]

theorem lossShown_fields (d : PeakId) (s : State) : (lossShown d s).bit .a (domFld d) = false ∧ (lossShown d s).bit .a (domFld d.other) = s.domOk d.other ∧
    (lossShown d s).bit .a Fd.cirqStatusSingle = s.domOk d.other ∧ (lossShown d s).bit .a Fd.cirqFlagsDomainLoss = true := by
  have hd := PeakId.num_le_one d
  have ho := PeakId.other_num d
  unfold lossShown State.setBit State.raise State.domOk
  refine ⟨?_, ?_, ?_, ?_⟩
  · simp (disch := omega) [domainFields, summaryFields, State.bit, State.fld_setFld_off, State.fld_setFld_at]
  · simp (disch := omega) [domainFields, summaryFields, State.bit, State.fld_setFld_off]
  · simp (disch := omega) [domainFields, summaryFields, State.bit, State.fld_setFld_off, State.fld_setFld_at]
    simp only [ho]
    split <;> simp [*]
  · simp (disch := omega) [summaryFields, State.bit, State.fld_setFld_at]

theorem lossShown_rotors (d q : PeakId) {k : Nat} (hk : k < 6) (s : State) : (lossShown d s).fld .a (rotState q k) = s.fld .a (rotState q k) := by
  have hd := PeakId.num_le_one d
  have hq := PeakId.num_le_one q
  unfold lossShown State.setBit State.raise
  simp (disch := omega) [domainFields, summaryFields, State.fld_setFld_off]

theorem cirqHeld_only (s : State) : CirqOnly s (cirqHeld s) :=
  (cirqOnly_withCirq.mpr (CirqOnly.refl s)).trans (diagsCut_only _)

theorem cirqHeld_fld (s : State) (ha : a < 0x40021000) (h : a % 64 < 8) : (cirqHeld s).fld .a ⟨a, hi, lo⟩ = s.fld .a ⟨a, hi, lo⟩ :=
  (diagsCut_fld _ ha h).trans (State.fld_withCirq ..)

theorem inputCut_only (d : PeakId) (i : Nat) (s : State) : CirqOnly s (inputCut d i s) := cirqOnly_setCin.mpr (CirqOnly.refl s)

theorem inputCut_fld (d : PeakId) (i : Nat) (s : State) (p : PeakId) (f : Fld) : (inputCut d i s).fld p f = s.fld p f := State.fld_setCin ..

theorem inputCut_rephase (d : PeakId) (i : Nat) (s : State) : ((inputCut d i s).cin i).rephase = true :=
  congrArg CirqIn.rephase (State.cin_setCin_same ..)

theorem inputCut_other (d : PeakId) {i k : Nat} (h : k ≠ i) (s : State) : (inputCut d i s).cin k = s.cin k := State.cin_setCin_ne s _ h

theorem lossMade_only (d : PeakId) (s : State) : CirqOnly s (lossMade d s) := by
  have hheld : ∀ (c : Bool) (u : State), CirqOnly u (if c then u else cirqHeld u) := fun c u => by
    split
    · exact CirqOnly.refl u
    · exact cirqHeld_only u
  exact cirqOnly_cirqRefresh.mpr (((lossShown_only d s).trans (rotorsStop_only d _)).trans
    ((hheld _ _).trans (cirqOnly_forAll (fun i _ v => inputCut_only d i v) _)))

/-- A field of CIRQ.STATUS beside the summaries, of CIRQ.FLAGS or of a rotor is as the stopped rotors leave it. -/
theorem lossMade_fld (ha : a < 0x40021000) (h : a % 64 < 8) (hs : a ≠ 0x40020000 ∨ hi < 5 ∨ 7 < lo) :
    (lossMade d s).fld .a ⟨a, hi, lo⟩ = (rotorsStop d (lossShown d s)).fld .a ⟨a, hi, lo⟩ := by
  have hheld : ∀ (c : Bool) (u : State), (if c then u else cirqHeld u).fld .a ⟨a, hi, lo⟩ = u.fld .a ⟨a, hi, lo⟩ := fun c u => by
    split
    · rfl
    · exact cirqHeld_fld u ha h
  unfold lossMade
  rw [cirqRefresh_fld _ (by omega) hs, forAll_fld (fun i _ v => inputCut_fld d i v .a _), hheld]

/-- A field of CIRQ.STATUS beside the summaries or of CIRQ.FLAGS shows the loss. -/
theorem domainLoss_shown (h : a = 0x40020000 ∧ (hi < 5 ∨ 7 < lo) ∨ a = 0x40020004) :
    (fireBoth Ev.cirqDomain (lossMade d s)).bit .a ⟨a, hi, lo⟩ = (lossShown d s).bit .a ⟨a, hi, lo⟩ := by
  unfold State.bit
  rw [fireBoth_fld _ _ (by omega), lossMade_fld (by omega) (by omega) (by omega), rotorsStop_fld _ (by omega) (by omega)]

theorem domainLoss_rephases {k : Nat} (hk : k < 48) : ((fireBoth Ev.cirqDomain (lossMade d s)).cin k).rephase = true := by
  rw [fireBoth_cin, lossMade, State.cin_of_cirq (cirqRefresh_cirq _)]
  refine forAll_reaches (fun v => (v.cin k).rephase = true) _ _ (List.mem_range.mpr hk) (inputCut_rephase d k) fun i _ v hv => ?_
  by_cases h : k = i
  · rw [h]
    exact inputCut_rephase d i v
  · exact (congrArg CirqIn.rephase (inputCut_other d h v)).trans hv

theorem domainLoss_rotors {k : Nat} (hk : k < 6) : (fireBoth Ev.cirqDomain (lossMade d s)).fld .a (rotState d k) = 4 ∧
    (fireBoth Ev.cirqDomain (lossMade d s)).fld .a (rotState d.other k) = s.fld .a (rotState d.other k) := by
  have hd := PeakId.num_le_one d
  have ho := PeakId.other_num d
  have hmade : ∀ q : PeakId, (fireBoth Ev.cirqDomain (lossMade d s)).fld .a (rotState q k) = (rotorsStop d (lossShown d s)).fld .a (rotState q k) := fun q => by
    have hq := PeakId.num_le_one q
    simp only [domainFields]
    rw [fireBoth_fld _ _ (by omega), lossMade_fld (by omega) (by omega) (by omega)]
  refine ⟨(hmade d).trans (rotorsStop_state hk _), (hmade d.other).trans (Eq.trans ?_ (lossShown_rotors d d.other hk s))⟩
  simp only [domainFields]
  exact rotorsStop_fld _ (by omega) (by omega)

theorem domainLoss_loses (h : s.domOk d = true) : Completes (.domainLoss d) s (fun t => CirqKept [] s t ∧ t.domOk d = false ∧
    t.domOk d.other = s.domOk d.other ∧ t.bit .a Fd.cirqStatusSingle = s.domOk d.other ∧ t.bit .a Fd.cirqFlagsDomainLoss = true ∧
    (∀ k < 6, t.fld .a (rotState d k) = 4 ∧ t.fld .a (rotState d.other k) = s.fld .a (rotState d.other k)) ∧ (∀ k < 48, (t.cin k).rephase = true) ∧
    ∀ p, Fired p 64 s t) := by
  have hdom : ∀ q : PeakId, (fireBoth Ev.cirqDomain (lossMade d s)).domOk q = (lossShown d s).bit .a (domFld q) := fun q => by
    have hq := PeakId.num_le_one q
    simp only [State.domOk, domainFields]
    exact domainLoss_shown (Or.inl ⟨rfl, Or.inl (by omega)⟩)
  obtain ⟨hlost, hother, hsingle, hflag⟩ := lossShown_fields d s
  exact ⟨_, by rw [exec_domainLoss, execDomainLoss, domainLoss_eq h], (lossMade_only d s).kept_fireBoth _, (hdom d).trans hlost,
    (hdom d.other).trans hother, (domainLoss_shown (Or.inl ⟨rfl, by decide⟩)).trans hsingle, (domainLoss_shown (Or.inr rfl)).trans hflag,
    fun k hk => domainLoss_rotors hk, fun k hk => domainLoss_rephases hk, (lossMade_only d s).fired (by decide) (by decide)⟩

/-! ### A domain's PLL starts and locks (R197) -/

theorem domainPllStart_acquires (hdom : s.domOk d = false) (hv : s.vaux d = true) (htime : s.power.vauxAt.get d + 180000 ≤ s.tick)
    (hlock : (s.pll (3 + d.num)).locked = false) : Completes (.domainPllStart d) s (fun t =>
      t.cirq = { s.cirq with acquiring := s.cirq.acquiring.set d true } ∧ { t with cirq := s.cirq } = s) := by
  have hcond : (!s.domOk d && s.vaux d && decide (s.power.vauxAt.get d + 180000 ≤ s.tick) && !(s.pll (3 + d.num)).locked) = true := by
    simp [hdom, hv, htime, hlock]
  have hstart : exec (.domainPllStart d) s = .next { s with cirq := { s.cirq with acquiring := s.cirq.acquiring.set d true } } := by
    rw [exec_domainPllStart, execDomainPllStart, if_pos hcond]
  exact ⟨_, hstart, rfl, rfl⟩

/-- The PLL's lock, as CLK.STATUS shows it. -/
def lockNoted (d : PeakId) (s : State) : State :=
  let u := s.withCirq { s.cirq with acquiring := s.cirq.acquiring.set d false }
  clkRefresh (u.setPll (3 + d.num) { locked := true, subst := u.refGone && (u.pll 2).locked })

/-- Rotor `b` enters RETURN. -/
def rotorEnters (d : PeakId) (b : Nat) (s : State) : State :=
  (s.setFld .a (rotState d b) rotReturn).setRotor d b { skipped := (s.rotor d b).skipped }

/-- The rotors of the domain enter RETURN. -/
def returnEntered (d : PeakId) (s : State) : State :=
  cirqRefresh (forAll (List.range 6) (rotorEnters d) (s.withCirq { s.cirq with locked := s.cirq.locked.set d true }))

theorem domainPllLock_eq (hacq : s.cirq.acquiring.get d = true) (hdom : s.domOk d = false) :
    domainPllLock d s = if (lockNoted d s).cirq.running then returnEntered d (lockNoted d s) else lockNoted d s := by
  have hcond : (s.cirq.acquiring.get d && !s.domOk d) = true := by simp [hacq, hdom]
  unfold domainPllLock
  rw [if_pos hcond]
  rfl

/-- The registers in which a lock shows. -/
def lockRegs : List (Nat × Nat) := [(Reg.clkStatus, 0xFFFFFFFF), (Reg.crnStatus, 0xFFFFFFFF)]

theorem clkShown_lockRegs {i : Nat} (h : (cirqAnd lockRegs a).testBit i = false) : (onlyRegs clkShown a).testBit i = false := by
  have within : ∀ m : Nat, cirqAnd lockRegs a = 0xFFFFFFFF → m &&& 0xFFFFFFFF = m → m.testBit i = false := fun m hm hand => by
    rw [← hand, Nat.testBit_and, ← hm, h, Bool.and_false]
  by_cases hclk : Reg.clkStatus = a
  · subst hclk
    exact within _ (by decide) (by decide)
  by_cases hcrn : Reg.crnStatus = a
  · subst hcrn
    exact within _ (by decide) (by decide)
  rw [clkShown, onlyRegs_cons_ne _ _ hclk, onlyRegs_cons_ne _ _ hcrn, onlyRegs_nil, Nat.zero_testBit]

theorem lockNoted_kept (d : PeakId) (s : State) : CirqKept lockRegs s (lockNoted d s) := by
  unfold lockNoted
  dsimp only
  refine ⟨(clkRefresh_frame ((RegFrame.refl _ s).of_regs ?_)).mono fun _ _ => clkShown_lockRegs, (clkRefresh_mem _).trans ?_⟩
  · rw [State.setPll_regs, State.withCirq_regs]
  · rw [State.setPll_mem, State.withCirq_mem]

theorem lockNoted_locked (d : PeakId) (s : State) : ((lockNoted d s).pll (3 + d.num)).locked = true := by
  unfold lockNoted
  rw [clkRefresh_pll, State.pll_setPll_same]

theorem lockNoted_running (d : PeakId) (s : State) : (lockNoted d s).cirq.running = s.cirq.running := by
  unfold lockNoted
  dsimp only
  rw [(clkRefresh_keeps _).cirq (by decide), State.setPll_cirq, State.withCirq_cirq]

theorem rotorEnters_only (d : PeakId) {b : Nat} (hb : b < 6) (s : State) : CirqOnly s (rotorEnters d b s) := by
  have hd := PeakId.num_le_one d
  unfold rotorEnters
  simp (disch := omega) [domainFields, cirqOnly_setFld]

theorem rotorEnters_keeps (d : PeakId) (b : Nat) (s : State) : (rotorEnters d b s).power = s.power ∧ (rotorEnters d b s).cirq.locked = s.cirq.locked := by
  unfold rotorEnters
  exact ⟨by rw [State.setRotor_power, State.setFld_power], by rw [State.setRotor_locked, State.setFld_cirq]⟩

theorem returnEntered_only (d : PeakId) (s : State) : CirqOnly s (returnEntered d s) :=
  cirqOnly_cirqRefresh.mpr ((cirqOnly_withCirq.mpr (CirqOnly.refl s)).trans
    (cirqOnly_forAll (fun _ hb v => rotorEnters_only d hb v) _))

theorem returnEntered_keeps (d : PeakId) (s : State) : (returnEntered d s).power = s.power ∧ (returnEntered d s).cirq.locked = s.cirq.locked.set d true := by
  have hloop := forAll_induct (s := s.withCirq { s.cirq with locked := s.cirq.locked.set d true })
    (fun v => v.power = s.power ∧ v.cirq.locked = s.cirq.locked.set d true) (List.range 6) (rotorEnters d) (by simp) fun b _ v hv =>
      ⟨(rotorEnters_keeps d b v).1.trans hv.1, (rotorEnters_keeps d b v).2.trans hv.2⟩
  exact ⟨((cirqRefresh_upd (Upd.refl 1 _) (by decide)).power (by decide)).trans hloop.1, (congrArg Cirque.locked (cirqRefresh_cirq _)).trans hloop.2⟩

theorem returnEntered_state (d : PeakId) {k : Nat} (hk : k < 6) (s : State) : (returnEntered d s).fld .a (rotState d k) = 6 := by
  have hd := PeakId.num_le_one d
  unfold returnEntered
  simp only [domainFields]
  rw [cirqRefresh_fld _ (by omega) (by omega)]
  refine forAll_bankFld hk (fun v => ?_) (fun x hx hne v => ?_) _
  · simp (disch := omega) [rotorEnters, domainFields, State.fld_setFld_at, rotReturn]
  · simp (disch := omega) [rotorEnters, domainFields, State.fld_setFld_off]

theorem domainPllLock_locks (hacq : s.cirq.acquiring.get d = true) (hdom : s.domOk d = false) : Completes (.domainPllLock d) s (fun t =>
    CirqKept lockRegs s t ∧ (t.pll (3 + d.num)).locked = true ∧
    (s.cirq.running = true → t.cirq.locked.get d = true ∧ ∀ k < 6, t.fld .a (rotState d k) = 6)) := by
  have hkept := lockNoted_kept d s
  refine ⟨_, by rw [exec_domainPllLock, execDomainPllLock, domainPllLock_eq hacq hdom], ?_⟩
  split
  next hrun =>
    have only := returnEntered_only d (lockNoted d s)
    obtain ⟨hpower, hlocked⟩ := returnEntered_keeps d (lockNoted d s)
    refine ⟨⟨hkept.1.trans (RegFrame.cirq only.regs), only.mem.trans hkept.2⟩, ?_, fun _ => ⟨?_, fun k hk => returnEntered_state d hk _⟩⟩
    · rw [State.pll_of_power hpower]
      exact lockNoted_locked d s
    · rw [hlocked, Two.get_set, if_pos rfl]
  next hrun =>
    rw [lockNoted_running] at hrun
    exact ⟨hkept, lockNoted_locked d s, fun h => absurd h hrun⟩

/-! ### Both domains again (R197) -/

/-- Input `i` resumes two members. -/
def memberBack (d : PeakId) (i : Nat) (s : State) : State :=
  calFresh i ((s.setFld .a (convFld d i) (i % 8)).setCin i { s.cin i with rephase := decide (d = .a), bWait := decide (d = .b) })

/-- Rotor `b` is ready again, unless it has no relief. -/
def rotorBack (d : PeakId) (b : Nat) (s : State) : State :=
  if s.fld .a (rotState d b) = rotNoRelief then s
  else (((s.setFld .a (rotState d b) rotReady).setFld .a (rotSlot d b) (nextSlot d b 0 s)).setFld .a (rotRelief d b) 8).setRotor d b
    { skipped := (s.rotor d b).skipped }

/-- CIRQ.STATUS shows the return. -/
def backShown (d : PeakId) (s : State) : State :=
  let u := (s.setFld .a (domFld d) 1).setFld .a Fd.cirqStatusSingle 0
  u.withCirq { u.cirq with locked := u.cirq.locked.set d false }

/-- The return but for its event. -/
def rejoinMade (d : PeakId) (s : State) : State :=
  cirqRefresh (forAll (List.range 6) (rotorBack d) (forAll (List.range 48) (memberBack d) (backShown d s)))

theorem domainRejoin_eq (hlock : s.cirq.locked.get d = true) (hdom : s.domOk d = false) (hother : s.domOk d.other = true)
    (hbanks : ∀ k < 6, bankReturned d k s = true) (hrun : s.bit .a (Fd.pwmTbStatusRun s.periodTb) = true) (hwrap : s.wrapOf s.periodTb = s.tick) :
    domainRejoin d s = fireBoth Ev.cirqDomain (rejoinMade d s) := by
  have hall : (List.range 6).all (fun b => bankReturned d b s) = true := List.all_eq_true.mpr fun k hk => hbanks k (List.mem_range.mp hk)
  have hcond : (s.cirq.locked.get d && !s.domOk d && s.domOk d.other && (List.range 6).all (fun b => bankReturned d b s) &&
      s.bit .a (Fd.pwmTbStatusRun s.periodTb) && decide (s.wrapOf s.periodTb = s.tick)) = true := by
    rw [hlock, hdom, hother, hall, hrun, decide_eq_true hwrap]
    rfl
  unfold domainRejoin
  rw [if_pos hcond]
  rfl

theorem memberBack_only (d : PeakId) {i : Nat} (hi : i < 48) (s : State) : CirqOnly s (memberBack d i s) := by
  unfold memberBack
  simp (disch := omega) [domainFields, cirqOnly_calFresh, cirqOnly_setFld]

theorem memberBack_fld (d : PeakId) {i : Nat} (hi' : i < 48) (s : State) (ha : a < 0x40021000) :
    (memberBack d i s).fld .a ⟨a, hi, lo⟩ = s.fld .a ⟨a, hi, lo⟩ := by
  have hd := PeakId.num_le_one d
  unfold memberBack
  simp (disch := omega) [domainFields, calFresh_fld, State.fld_setFld_off]

theorem memberBack_cin (d : PeakId) (i : Nat) (s : State) :
    (memberBack d i s).cin i = { s.cin i with rephase := decide (d = .a), bWait := decide (d = .b) } := by
  unfold memberBack
  rw [State.cin_of_cirq (calFresh_cirq _), State.cin_setCin_same]

theorem memberBack_other (d : PeakId) {i k : Nat} (h : k ≠ i) (s : State) : (memberBack d i s).cin k = s.cin k := by
  unfold memberBack
  rw [State.cin_of_cirq (calFresh_cirq _), State.cin_setCin_ne _ _ h, State.cin_setFld]

theorem rotorBack_only (d : PeakId) {b : Nat} (hb : b < 6) (s : State) : CirqOnly s (rotorBack d b s) := by
  have hd := PeakId.num_le_one d
  unfold rotorBack
  split
  · exact CirqOnly.refl s
  · simp (disch := omega) [domainFields, cirqOnly_setFld]

theorem rotorBack_fld (d : PeakId) {b : Nat} (hb : b < 6) (s : State) (ha : a < 2 ^ 32) (h : a ≠ 0x40020100 + 4 * d.num + 0x40 * b) :
    (rotorBack d b s).fld .a ⟨a, hi, lo⟩ = s.fld .a ⟨a, hi, lo⟩ := by
  have hd := PeakId.num_le_one d
  unfold rotorBack
  split
  · rfl
  · simp (disch := omega) [domainFields, State.fld_setFld_off]

@[simp] theorem rotorBack_cin (d : PeakId) (b : Nat) (s : State) (k : Nat) : (rotorBack d b s).cin k = s.cin k := by
  unfold rotorBack
  split
  · rfl
  · simp

theorem rotorBack_ready (d : PeakId) {b : Nat} (hb : b < 6) (h : s.fld .a (rotState d b) ≠ rotNoRelief) :
    (rotorBack d b s).fld .a (rotState d b) = 0 ∧ (rotorBack d b s).fld .a (rotRelief d b) = 8 := by
  have hd := PeakId.num_le_one d
  unfold rotorBack
  rw [if_neg h]
  constructor
  · simp (disch := omega) [domainFields, State.fld_setFld_off, State.fld_setFld_at, rotReady]
  · simp (disch := omega) [domainFields, State.fld_setFld_at]

theorem backShown_only (d : PeakId) (s : State) : CirqOnly s (backShown d s) := by
  have hd := PeakId.num_le_one d
  have hdom : CirqOnly s ((s.setFld .a (domFld d) 1).setFld .a Fd.cirqStatusSingle 0) := by
    simp (disch := omega) [domainFields, summaryFields, cirqOnly_setFld]
  exact hdom.trans (cirqOnly_withCirq.mpr (CirqOnly.refl _))

theorem rejoinMade_only (d : PeakId) (s : State) : CirqOnly s (rejoinMade d s) :=
  cirqOnly_cirqRefresh.mpr ((backShown_only d s).trans ((cirqOnly_forAll (fun _ hi v => memberBack_only d hi v) _).trans
    (cirqOnly_forAll (fun _ hb v => rotorBack_only d hb v) _)))

/-- DOM_OK and SINGLE after the return. -/
theorem rejoinMade_status (d : PeakId) (s : State) :
    (fireBoth Ev.cirqDomain (rejoinMade d s)).domOk d = true ∧ (fireBoth Ev.cirqDomain (rejoinMade d s)).bit .a Fd.cirqStatusSingle = false := by
  have hd := PeakId.num_le_one d
  have hkept : ∀ hi lo, hi < 5 → (fireBoth Ev.cirqDomain (rejoinMade d s)).fld .a ⟨0x40020000, hi, lo⟩ =
      ((s.setFld .a (domFld d) 1).setFld .a Fd.cirqStatusSingle 0).fld .a ⟨0x40020000, hi, lo⟩ := fun hi lo h => by
    unfold rejoinMade
    rw [fireBoth_fld _ _ (by decide), cirqRefresh_fld _ (by decide) (by omega), forAll_fld fun b hb v => rotorBack_fld d hb v (by decide) (by omega),
      forAll_fld fun i hi v => memberBack_fld d hi v (by decide)]
    exact State.fld_withCirq ..
  constructor
  · simp (disch := omega) [State.domOk, State.bit, domainFields, summaryFields, hkept, State.fld_setFld_off, State.fld_setFld_at]
  · simp (disch := omega) [State.bit, summaryFields, hkept, State.fld_setFld_at]

theorem rejoinMade_members {k : Nat} (hk : k < 48) : ((fireBoth Ev.cirqDomain (rejoinMade d s)).cin k).rephase = decide (d = .a) ∧
    ((fireBoth Ev.cirqDomain (rejoinMade d s)).cin k).bWait = decide (d = .b) := by
  have hback : ∀ i v, ((memberBack d i v).cin i).rephase = decide (d = .a) ∧ ((memberBack d i v).cin i).bWait = decide (d = .b) := fun i v => by
    rw [memberBack_cin]
    exact ⟨rfl, rfl⟩
  rw [fireBoth_cin, rejoinMade, State.cin_of_cirq (cirqRefresh_cirq _)]
  refine forAll_induct (fun v => (v.cin k).rephase = decide (d = .a) ∧ (v.cin k).bWait = decide (d = .b)) _ _ ?_ fun b _ v hv => by
    rwa [rotorBack_cin]
  refine forAll_reaches (fun v => (v.cin k).rephase = decide (d = .a) ∧ (v.cin k).bWait = decide (d = .b)) _ _ (List.mem_range.mpr hk) (hback k)
    fun i _ v hv => ?_
  by_cases h : k = i
  · rw [h]
    exact hback i v
  · rwa [memberBack_other d h]

/-- A loop over the rotors leaves a rotor that has a relief ready. -/
theorem rotorsBack_ready {k : Nat} (hk : k < 6) (h : s.fld .a (rotState d k) ≠ rotNoRelief) :
    (forAll (List.range 6) (rotorBack d) s).fld .a (rotState d k) = 0 ∧ (forAll (List.range 6) (rotorBack d) s).fld .a (rotRelief d k) = 8 := by
  have hd := PeakId.num_le_one d
  have hother : ∀ x < 6, x ≠ k → ∀ v : State, (rotorBack d x v).fld .a (rotState d k) = v.fld .a (rotState d k) ∧
      (rotorBack d x v).fld .a (rotRelief d k) = v.fld .a (rotRelief d k) := fun x hx hne v => by
    simp only [domainFields]
    exact ⟨rotorBack_fld d hx v (by omega) (by omega), rotorBack_fld d hx v (by omega) (by omega)⟩
  have hkept : (forAll (List.range 6) (rotorBack d) s).fld .a (rotState d k) ≠ rotNoRelief :=
    forAll_induct (fun v => v.fld .a (rotState d k) ≠ rotNoRelief) _ _ h fun x hx v hv => by
      by_cases he : x = k
      · rw [he, (rotorBack_ready d hk hv).1]
        decide
      · rwa [(hother x (List.mem_range.mp hx) he v).1]
  have hturn : ∀ v : State, (rotorBack d k v).fld .a (rotState d k) = rotNoRelief ∨
      (rotorBack d k v).fld .a (rotState d k) = 0 ∧ (rotorBack d k v).fld .a (rotRelief d k) = 8 := fun v => by
    by_cases hv : v.fld .a (rotState d k) = rotNoRelief
    · left
      rw [rotorBack, if_pos hv]
      exact hv
    · exact Or.inr (rotorBack_ready d hk hv)
  refine (forAll_reaches (fun v => v.fld .a (rotState d k) = rotNoRelief ∨ v.fld .a (rotState d k) = 0 ∧ v.fld .a (rotRelief d k) = 8) _ (rotorBack d)
    (List.mem_range.mpr hk) hturn fun x hx v hv => ?_).resolve_left hkept
  by_cases he : x = k
  · rw [he]
    exact hturn v
  · obtain ⟨hst, hrel⟩ := hother x (List.mem_range.mp hx) he v
    rwa [hst, hrel]

/-- The rotors that had a relief are ready. -/
theorem rejoinMade_rotors {k : Nat} (hk : k < 6) (h : s.fld .a (rotState d k) ≠ rotNoRelief) :
    (fireBoth Ev.cirqDomain (rejoinMade d s)).fld .a (rotState d k) = 0 ∧ (fireBoth Ev.cirqDomain (rejoinMade d s)).fld .a (rotRelief d k) = 8 := by
  have hd := PeakId.num_le_one d
  have hbefore : (forAll (List.range 48) (memberBack d) (backShown d s)).fld .a (rotState d k) = s.fld .a (rotState d k) := by
    simp only [domainFields]
    refine (forAll_fld (fun i hi v => memberBack_fld d hi v (by omega)) _).trans ?_
    simp (disch := omega) [backShown, domainFields, summaryFields, State.fld_setFld_off]
  have hready := rotorsBack_ready hk (hbefore.trans_ne h)
  simp only [domainFields] at hready ⊢
  unfold rejoinMade
  rwa [fireBoth_fld _ _ (by omega), fireBoth_fld _ _ (by omega), cirqRefresh_fld _ (by omega) (by omega), cirqRefresh_fld _ (by omega) (by omega)]

theorem domainRejoin_rejoins (hlock : s.cirq.locked.get d = true) (hdom : s.domOk d = false) (hother : s.domOk d.other = true)
    (hbanks : ∀ k < 6, bankReturned d k s = true) (hrun : s.bit .a (Fd.pwmTbStatusRun s.periodTb) = true) (hwrap : s.wrapOf s.periodTb = s.tick) :
    Completes (.domainRejoin d) s (fun t => CirqKept [] s t ∧ t.domOk d = true ∧ t.bit .a Fd.cirqStatusSingle = false ∧
      (∀ k < 48, (t.cin k).rephase = decide (d = .a) ∧ (t.cin k).bWait = decide (d = .b)) ∧
      (∀ k < 6, s.fld .a (rotState d k) ≠ 5 → t.fld .a (rotState d k) = 0 ∧ t.fld .a (rotRelief d k) = 8) ∧ ∀ p, Fired p 64 s t) := by
  have only := rejoinMade_only d s
  obtain ⟨hok, hsingle⟩ := rejoinMade_status d s
  exact ⟨_, by rw [exec_domainRejoin, execDomainRejoin, domainRejoin_eq hlock hdom hother hbanks hrun hwrap], only.kept_fireBoth _, hok, hsingle,
    fun k hk => rejoinMade_members hk, fun k hk => rejoinMade_rotors hk, only.fired (by decide) (by decide)⟩

end Sys2Proof.Machine
end

section
/-! CERTIFICATE. O53: the converters of the Cirque. -/

namespace Sys2Proof.Machine

/-- Settles O53: each command's result as its own lemma above says it, from the sample's word to the return of a domain. -/
theorem cirqueConverters : Obligations.CirqueConverters := by
  unfold Obligations.CirqueConverters
  intro i b d m code frac conv ok val off gain rms s n c r st rel keptBut kept aligned off_
  refine ⟨fun q hq => cirqueSample_sends hq, fun hm => ⟨cirqCfgWrite_refused hm, cirqCfgWrite_taken hm, fun hlock => ?trig, diagRequest_answers hm⟩,
    validityWindowEnd_ends i s, cirqLastRead_reads, fun hrun htime => ⟨rotorStepStart_begins hrun htime, rotorStepStart_returns hrun htime⟩,
    rotorOverlapStart_begins, ?fit, rotorStepTimeout_aborts, ?cal, fun x hx => rotorReady_handsBack hx, calAgeExpiry_late,
    ⟨diagWindow_connects, diagEnd_ends⟩, domainLoss_loses, domainPllStart_acquires, domainPllLock_locks, domainRejoin_rejoins⟩
  case trig =>
    obtain ⟨hboth, hrunning, hbad, htaken⟩ := cirqTrigWrite_outcomes (val := val) hm hlock
    exact ⟨fun hen h => hboth hen (trigBad_iff.mpr h), fun hen h => hrunning hen (mt trigBad_iff.mp h), fun hen h => hbad hen (trigBad_iff.mpr h),
      fun hen h => htaken hen (mt trigBad_iff.mp h)⟩
  case fit =>
    exact fun hst hcount hslot => ⟨rotorFitComplete_misses hst hcount hslot, rotorFitComplete_swaps hst hcount hslot⟩
  case cal =>
    refine ⟨fun hawaited => ⟨fun hok => ?_, fun hok hfits => ?_⟩, fun hok hfits => ⟨fun x hst hfreed => ?_, fun hst hret => ?_⟩⟩ <;> subst hok
    · exact calibrationComplete_refBad hawaited
    · exact calibrationComplete_unfit hawaited hfits
    · exact calibrationComplete_window hst hfits hfreed
    · exact calibrationComplete_returning hst hret hfits

end Sys2Proof.Machine
end
